-- ==== Sys2Proof/Word.lean ====
section
/-! DEFINITION. The word types of the XG7240: registers are 32 bits (R8), 64-bit values take two registers (R15),
and bytes are what hosts, links and NOR devices carry. -/

namespace Sys2Proof

/-- One byte. -/
abbrev Byte := BitVec 8

/-- One 32-bit register (R8). -/
abbrev Word := BitVec 32

/-- One 64-bit value: a stride number (R29), or an `_LO` / `_HI` pair (R15). -/
abbrev DWord := BitVec 64

end Sys2Proof
end

