-- ==== Sys2Proof/Machine/Amap.lean ====
section
/-! DEFINITION. Tables by number: lists of (key, entry) pairs with keys strictly rising. One canonical form, so that
equal tables are equal data. The register file, the shadows and every numbered collection of the model use it. -/

namespace Sys2Proof.Machine

/-- A table by number. -/
abbrev Amap (α : Type) := List (Nat × α)

/-- The entry at a key. -/
def Amap.find {α : Type} : Amap α → Nat → Option α
  | [], _ => none
  | (k, v) :: m, i => if k = i then some v else Amap.find m i

/-- The table without a key. -/
def Amap.drop {α : Type} : Amap α → Nat → Amap α
  | [], _ => []
  | (k, v) :: m, i => if k = i then Amap.drop m i else (k, v) :: Amap.drop m i

/-- Put an entry before the first larger key. -/
def Amap.ins {α : Type} : Amap α → Nat → α → Amap α
  | [], i, x => [(i, x)]
  | (k, v) :: m, i, x => if i < k then (i, x) :: (k, v) :: m else (k, v) :: Amap.ins m i x

/-- The table with `x` at key `i`. -/
def Amap.put {α : Type} (m : Amap α) (i : Nat) (x : α) : Amap α := (m.drop i).ins i x

/-- Change the entry at a key where there is one. -/
def Amap.upd {α : Type} (m : Amap α) (i : Nat) (f : α → α) : Amap α :=
  match m.find i with
  | none => m
  | some x => m.put i (f x)

/-- The entry at a key, or a default. -/
def Amap.getD {α : Type} (m : Amap α) (i : Nat) (d : α) : α := (m.find i).getD d

/-- Is a key present? -/
def Amap.has {α : Type} (m : Amap α) (i : Nat) : Bool := (m.find i).isSome

/-- Change every entry. -/
def Amap.mapVals {α : Type} (m : Amap α) (f : Nat → α → α) : Amap α := m.map fun p => (p.1, f p.1 p.2)

/-- Keep the entries that satisfy a test. -/
def Amap.keep {α : Type} (m : Amap α) (f : Nat → α → Bool) : Amap α := m.filter fun p => f p.1 p.2

/-- How many entries satisfy a test. -/
def Amap.count {α : Type} (m : Amap α) (f : Nat → α → Bool) : Nat := (m.filter fun p => f p.1 p.2).length

/-- The lowest-keyed entry that satisfies a test. -/
def Amap.first {α : Type} (m : Amap α) (f : Nat → α → Bool) : Option (Nat × α) :=
  List.find? (fun p => f p.1 p.2) m

/-- The least number of `0 .. n - 1` that is no key. -/
def Amap.freeKey {α : Type} (m : Amap α) (n : Nat) : Option Nat :=
  (List.range n).find? fun i => !m.has i

/-- Keys strictly rising: the canonical form. -/
def Amap.sorted {α : Type} : Amap α → Bool
  | [] => true
  | [_] => true
  | (k, _) :: (k', v') :: m => decide (k < k') && Amap.sorted ((k', v') :: m)

end Sys2Proof.Machine
end

