-- ==== Sys2Proof/Machine/PartsData.lean ====
section
/-! DEFINITION. State of the Data domain that no register shows: range locks and Cistern entries, the mirror half, the
Spillway, the associative search banks and the dedup tiers (05_write_path.md, 06_associative_search.md, 07_reduction.md,
08_read_path.md). -/

namespace Sys2Proof.Machine

/-- How the DRAM tier's probe of a grain stands (R201, R202). -/
inductive Probe where
  /-- none is issued -/
  | none
  /-- issued at seal, in this stride -/
  | waiting (sealed : DWord)
  | miss
  /-- a VALID entry matched: TARGET and SEG_SEQ -/
  | hit (target segSeq : Nat)
  /-- a PENDING entry matched: the owner's CSEQ and INDEX -/
  | twin (cseq index : Nat)
  deriving DecidableEq, Repr

/-- A grain descriptor with its data (R151). -/
structure Grain where
  raw : Bool
  zero : Bool
  hit : Bool
  partGrain : Bool
  dealloc : Bool
  overtaken : Bool
  /-- DATA: data present. -/
  hasData : Bool
  mask : Nat
  lenGranules : Nat
  dedupAddr : Nat
  check : Word
  digest : Nat
  piTags : List Nat
  /-- Its data in whole granules, as the entry and the chunk hold it: a DEFLATE stream, the raw 4,096 bytes, or the sectors of a partial
  grain in order (R147, R209, R214). -/
  body : List Byte
  /-- The policy word latched when its digest chunk started (R197). -/
  policy : Nat
  /-- The DRAM tier's probe, kept in the destage queue (R201, R202). -/
  probe : Probe
  deriving DecidableEq, Repr

/-- Lock states (R145). -/
inductive LockSt where
  | streaming | held | committed
  deriving DecidableEq, Repr

/-- One part of a write-class command: its range lock and, from seal on, its Cistern entry (R144, R145, R150). -/
structure Part where
  /-- Command number, none once the command has completed or is abandoned. -/
  cmd : Option Nat
  part : Nat
  parts : Nat
  vol : Nat
  first : Nat
  count : Nat
  lock : LockSt
  admitted : DWord
  /-- Subject: function, or 256 + tenant (R150 FUNCTION). -/
  subject : Nat
  queue : Nat
  cmdId : Nat
  gen : Nat
  fua : Bool
  atomic : Bool
  /-- Received on the partner and forwarded (R150 ORIGIN). -/
  forwarded : Bool
  format : Nat
  piType : Nat
  /-- Grains that have arrived, in order (R157). -/
  grains : List Grain
  /-- Granule offset and length once sealed (R149, R150). -/
  off : Option Nat
  len : Nat
  /-- Stride of the MIRROR_WRITE, and whether it was sent once more (R153). -/
  sentAt : DWord
  resent : Bool
  /-- Destaged into stripes: TSEQ of its map transaction (R160, R161). -/
  tseq : Option Nat
  durable : Bool
  released : Bool
  /-- Open reads that chose the entry (R224). -/
  readers : Nat
  /-- Grains charged in the pool's space account and not yet destaged (R143). -/
  charged : Nat
  /-- The command's status was acknowledged for this part already (R154, R155). -/
  acked : Bool
  deriving DecidableEq, Repr

/-- Phases of the Spillway (R165). -/
inductive SpillPhase where
  | idle | quiescing | imaging | closing | done
  deriving DecidableEq, Repr

/-- A spill directory (R165). -/
structure SpillDir where
  number : Nat
  start : DWord
  firstCseq : Nat
  lastCseq : Nat
  /-- Band layout: the port of each band module, with its band dies (R163). -/
  layout : List (Nat × List Nat)
  crcOk : Bool
  deriving DecidableEq, Repr

/-- A CAM entry (R171, R172): STATE, PRIO, key and result word. An entry that is not listed is EMPTY with key and result
word zero. -/
structure CamEntry where
  /-- 0 EMPTY, 1 PENDING, 2 VALID. -/
  st : Nat
  prio : Nat
  key : Nat
  result : Nat
  deriving DecidableEq, Repr

/-- One entry of a DRAM tier bucket (R203). -/
structure DdEntry where
  digest : Nat
  /-- Grain address; with PENDING, CSEQ * 256 + INDEX of the owner. -/
  target : Nat
  segSeq : Nat
  pool : Nat
  cls : Nat
  pending : Bool
  hits : Nat
  deriving DecidableEq, Repr

/-- A DRAM tier bucket: HAND and the VALID or PENDING entries by slot 0 to 4 (R203). -/
structure DdBucket where
  hand : Nat
  slots : Amap DdEntry
  deriving DecidableEq, Repr

/-- A record of a merge log or of the flash tier (R203, R208). -/
structure DdRec where
  digest : Nat
  cls : Nat
  target : Nat
  segSeq : Nat
  deriving DecidableEq, Repr

/-- The associative search banks and the dedup tiers. -/
structure CamSt where
  /-- Entries by logical bank * 65,536 + first-unit index. -/
  entries : Amap CamEntry
  /-- Matching entries of the last software search, by group (R188). -/
  match_ : Amap (List Nat)
  /-- The filter shadow in head DRAM (R184). -/
  shadow : Amap CamEntry
  /-- Referenced bits and clock hand of the hot tier (R199, R204). -/
  hotRef : List Nat
  hotHand : Nat
  /-- The stride in which a CAM page took its last software operation (R188). -/
  opAt : Amap DWord
  /-- DRAM tier buckets (R203). -/
  buckets : Amap DdBucket
  /-- Merge logs and flash tiers by pool (R208). -/
  logs : Amap (List DdRec)
  flash : Amap (List DdRec)
  /-- Compression clocks left in this stride, host grains still expected in it, and grains digested in it (R190, R192, R213). -/
  clkLeft : Nat
  hostLeft : Nat
  digested : Nat
  /-- COMP downgraded, or DEDUP discarded a late answer, since the last commit point (R218, R219). -/
  downgraded : Bool
  late : Bool
  /-- The CAP_REDUCED condition held at the last commit point (R191). -/
  capReduced : Bool
  /-- Read-around grains used in this stride (R229). -/
  raUsed : Nat
  deriving DecidableEq, Repr

/-- The Data domain's own state. -/
structure CistSt where
  /-- Parts with a lock or an entry of the own half, by CSEQ (R145). -/
  parts : Amap Part
  /-- The mirror half: the partner's entries by its CSEQ (R152). -/
  mirror : Amap Part
  /-- Ring head and tail, in granules from the start of the ring (R149). -/
  head : Nat
  tail : Nat
  /-- Grains of Cistern use by function (R86). -/
  fnUse : Amap Nat
  /-- Sealed entries that wait for ring room (R149). -/
  stalled : List Nat
  /-- MIRROR_RELEASE queue: CSEQs (R161). -/
  releases : List Nat
  /-- The Spillway (R162-R165). -/
  spill : SpillPhase
  spillStart : DWord
  spillNo : Nat
  spillByFeeds : Bool
  /-- An L5 HALT has been placed: the Spillway starts (R162, R454). -/
  haltReq : Bool
  /-- Strides for which both feeds have read failed, and present (R162, R167). -/
  bothFailed : Nat
  bothPresent : Nat
  feedAFail : Bool
  feedBFail : Bool
  /-- Band: modules, dies, wholly erased (R163, R164). -/
  bandModules : Nat
  bandDies : Nat
  bandErased : Bool
  /-- What the band holds: directory and image (own half, mirror half). -/
  bandDir : Option SpillDir
  bandOwn : Amap Part
  bandMirror : Amap Part
  /-- Restored entries of the own half that must be destaged before the band is erased (R167). -/
  restored : Option (List Nat)
  deriving DecidableEq, Repr

end Sys2Proof.Machine
end

