-- ==== Sys2Proof/OperandTypes.lean ====
section
/-! DEFINITION. What commands carry: the fields of host commands, packets and records that arrive from outside. -/

namespace Sys2Proof.Machine

/-- Where a host command came from, and so where it completes (R82, R98, R133, R382). -/
inductive CmdSrc where
  /-- tag of a function's legacy queue -/
  | legacy (fn tag : Nat)
  /-- command identifier on a function's submission queue -/
  | nvme (fn qid cid : Nat)
  /-- command identifier on a fabrics queue pair -/
  | fabrics (qpn cid : Nat)
  /-- forwarded by the partner head, which received it (R382) -/
  | forwarded (id : Nat)
  /-- a replication record from the remote array, with its stream queue pair (R392, R395) -/
  | repl (group seq : Nat)
  deriving DecidableEq, Repr

/-- The commands of hosts (R98, R102, R133). -/
inductive HostOp where
  | read | write | flush | verify | dealloc | writeZeroes
  | createSq | createCq | deleteSq | deleteCq | identify | getLog | setFeat | getFeat | abort | aer
  | connect | propGet | propSet | disconnect
  | invalid
  deriving DecidableEq, Repr

/-- A command of the I/O set: those that name grains. -/
def HostOp.isIo : HostOp → Bool
  | .read | .write | .flush | .verify | .dealloc | .writeZeroes => true
  | _ => false

/-- A command's fields as its queue entry gives them (R95, R98, R102, R107, R142). One range of sectors: the spec does not say how many ranges
a Dataset Management command carries (DESIGN CHOICE, assumption log 78). -/
structure CmdImg where
  op : HostOp
  nsid : Nat
  slba : Nat
  /-- Sectors. -/
  blocks : Nat
  fua : Bool
  atomic : Bool
  /-- PRACT (R142). -/
  pract : Bool
  /-- PRCHK: guard, application tag, reference tag. -/
  chkGuard : Bool
  chkApp : Bool
  chkRef : Bool
  lbat : Nat
  lbatm : Nat
  ilbrt : Nat
  /-- Total length that the descriptors describe, in bytes (R107). -/
  descLen : Nat
  /-- Bytes that the descriptors give a separate metadata buffer; none where the metadata is interleaved, or there is none (R107). -/
  metaLen : Option Nat
  /-- The descriptor list is well-formed: a LAST entry within 512 entries, alignment (R98). -/
  listOk : Bool
  /-- Command dwords that administrative commands use. -/
  cdw10 : Nat
  cdw11 : Nat
  /-- Of a fabrics command: payload bytes beyond the queue entry where its data is in the capsule (R135), and the key that
  subtype 0xF of its descriptor invalidates with the response (R133). -/
  inCapsule : Option Nat
  invKey : Option Nat
  deriving DecidableEq, Repr

/-- A command capsule (R133, R134): its command identifier and command. -/
structure Capsule where
  cid : Nat
  img : CmdImg
  deriving DecidableEq, Repr

/-- A request packet of a queue pair (R115, R121). -/
structure Packet where
  /-- Opcode classes of R115. -/
  isRead : Bool
  isAtomic : Bool
  isSend : Bool
  /-- It ends its message. -/
  last : Bool
  psn : Nat
  /-- Bytes held in the miss buffer. -/
  bytes : Nat
  /-- R_Key, address, length and write right of an RDMA Read or Write. -/
  rkey : Option Nat
  addr : Nat
  len : Nat
  isWrite : Bool
  /-- Key named by a Send with Invalidate (R128). -/
  inval : Option Nat
  ecn : Bool
  /-- The command capsule of a Send, and whether the receive pool of the port is empty when it is handled (R134). -/
  capsule : Option Capsule
  poolEmpty : Bool
  /-- The 64 bytes of a seal, an RDMA Write with Immediate on a control queue pair (R137). -/
  sealImg : Option (List Byte)
  deriving DecidableEq, Repr

/-- A Mysyn message (R490), its TYPE being the command's: where it came from, and whether over the UART. `source` is the
source address, as the number its 16 bytes spell least significant first, times 65,536, plus the UDP port. -/
structure MysynMsg where
  source : Nat
  uart : Bool
  session : Nat
  seq : Nat
  payload : List Byte
  mac : List Byte
  deriving DecidableEq, Repr

/-- What an LDPC decoder reports of the first decodes of one read (R303): the decoder, the codewords that decoded and those that
did not, the corrected bits of the decoded ones in all and the most in one codeword, and UP and DN of read levels 1 to 7. -/
structure DecodeReport where
  unit : Nat
  words : Nat
  failed : Nat
  corr : Nat
  corrMax : Nat
  up : List Nat
  dn : List Nat
  deriving DecidableEq, Repr

/-- A flit link: that of a module port, or the Torlux link (R237, R361). -/
inductive LinkEnd where
  | module (n : Nat)
  | torlux
  deriving DecidableEq, Repr

/-- KIND of a flit (R241). -/
inductive FlitKind where
  | null | packet | control | reserved
  deriving DecidableEq, Repr

/-- A received flit (R241, R242): whether its CRC is valid, FSEQ, KIND, ACK_SEQ where ACK_VALID, NAK, CLASS and CUM; and of what it
carries, whether a packet goes beyond its credits (R244) and whether a record is of an unknown TYPE (R366). -/
structure Flit where
  crcOk : Bool
  seq : Nat
  kind : FlitKind
  ack : Option Nat
  nak : Bool
  cls : Nat
  cum : Nat
  overflow : Bool
  unknown : Bool
  deriving DecidableEq, Repr

/-- An INIT control message (R243, R363, R505): PORT, LINK_VER, the advertised credits of classes 0 to 3, and on the Torlux link
stepping, BUILD and TANDEM_MIN. -/
structure InitMsg where
  port : Nat
  ver : Nat
  credits : List Nat
  stepping : Nat
  build : Nat
  tandemMin : Nat
  gib : Nat
  deriving DecidableEq, Repr

/-- A NAK that the requester receives (R115, R140). -/
inductive NakKind where
  | rnr | sequence | invalidRequest | remoteAccess | remoteOperational
  deriving DecidableEq, Repr

/-- A frame on an Ethernet port (R112): a RoCEv2 packet with a good or bad ICRC, a priority flow control frame, anything else. A flow
control frame names priorities in a vector, and stops those of them that the second mask names; the others it releases. -/
inductive EthFrame where
  | roce
  | badIcrc
  | pause (vector stop : Nat)
  | other
  deriving DecidableEq, Repr

/-- A QP1 datagram as received (R131): numbers spell multi-byte fields, GIDs and MAC addresses most significant byte first. VLAN is
absent for an untagged frame. -/
structure Datagram where
  lport : Nat
  vlan : Option Nat
  srcQpn : Nat
  qKey : Nat
  pKey : Nat
  srcGid : Nat
  dstGid : Nat
  srcMac : Nat
  payload : List Byte
  deriving DecidableEq, Repr

/-- An entry of the QP1 transmit ring (R131). -/
structure TxEntry where
  len : Nat
  lport : Nat
  destQpn : Nat
  qKey : Nat
  pKey : Nat
  vlan : Nat
  destGid : Nat
  gidIndex : Nat
  destMac : Nat
  payload : List Byte
  deriving DecidableEq, Repr

/-- What a read of head DRAM was made for (R416). -/
inductive DramUse where
  /-- a Cistern entry, own or mirror half -/
  | entry
  | journal
  /-- the context of a queue pair -/
  | context (qpn : Nat)
  /-- a dedup bucket -/
  | bucket (i : Nat)
  /-- the metadata region, through the cache -/
  | metadata
  /-- a memory region read for a remote RDMA Read on a queue pair -/
  | regionRead (qpn : Nat)
  /-- a capsule of the receive pool: the host command it holds -/
  | capsule (n : Nat)
  | other
  deriving DecidableEq, Repr

/-- A 64-byte request at a DRAM channel (R403 to R406): its port, address, time of arrival in ns since stride 0, and where the controller
puts it. -/
structure DramReq where
  port : Nat
  addr : Nat
  write : Bool
  arrived : Nat
  rank : Nat
  bank : Nat
  row : Nat
  use : DramUse
  deriving DecidableEq, Repr

/-- Kinds of service port frames (R488). -/
inductive SvcFrame where
  | arpNd | icmpEcho | mysynUdp | other
  deriving DecidableEq, Repr

/-- What a register access names: a BAR offset of PF0, or an offset in a function's queue window (R50, R82). -/
inductive RegTarget where
  | bar (off : Nat)
  | window (fn off : Nat)
  /-- the vector control word of an MSI-X entry of a function (PRESUMED, the PCIe layout: bit 0 masks the entry) -/
  | msix (fn vec : Nat)
  deriving DecidableEq, Repr

end Sys2Proof.Machine
end

