-- ==== Sys2Proof/Machine/PartsMedia.lean ====
section
/-! DEFINITION. State of the Media domain that no register shows: volumes and their map trees, map transactions, segments
and stripes, pools and their members, module links with their outstanding commands, dies and block groups
(09_module_link.md, 10_flash_translation.md, 11_media_health.md, 12_stripe_redundancy.md). -/

namespace Sys2Proof.Machine

/-! ### Volumes and map trees (R263 to R268, R287) -/

/-- A volume, snapshot or clone (R287, R298). -/
structure Vol where
  pool : Nat
  /-- The head that owns the volume (R298). -/
  owner : Nat
  /-- FORMAT byte of R150: sector format and PI type. -/
  format : Nat
  /-- Size in grains. -/
  grains : Nat
  /-- Root page ID of the map tree; 0 while nothing is mapped. -/
  root : Nat
  /-- Read-only: a snapshot (R287). -/
  snapshot : Bool
  /-- Source of a snapshot or clone. -/
  source : Option Nat
  /-- Snapshots and clones of this volume. -/
  children : Nat
  /-- Replication: writes of hosts are refused (R396). -/
  replTarget : Bool
  /-- Deletion under way: the pages with SHARE 0 that are still to be visited, and whether a step is in the journal
  (R290). -/
  deleting : Option (List Nat × Bool)
  /-- Admission held for a transfer of ownership (R387). -/
  held : Bool
  /-- ANA state by change: Optimized on the owner (R381). -/
  anaChange : Bool
  deriving DecidableEq, Repr

/-- A map page with its page-table entry (R266, R267). -/
structure MapPage where
  level : Nat
  share : Nat
  /-- Entries by slot: a grain address in a leaf, a child page ID above; absent is 0. -/
  entries : Amap Nat
  /-- The last transaction the page includes (R273). -/
  tseq : Nat
  dirty : Bool
  /-- ADDR: the page's last flushed copy, 0 if it has never been flushed (R267). -/
  addr : Nat
  deriving DecidableEq, Repr

/-- One operation of a map transaction (R270). -/
inductive MapOp where
  | setGrain (vol grain new old : Nat)
  | setSlot (page slot new old : Nat)
  | segState (seg state : Nat)
  | snapCreate (target source cut : Nat)
  | snapStep (vol : Nat) (visit : List Nat)
  /-- A count change that the partner's transaction `from_` makes to a grain of this head's paddock (R282, R367). -/
  | refChange (addr : Nat) (delta : Int) (from_ : Nat)
  /-- DIVERGE: a shared map page is copied to a new ID by the SET_GRAIN that follows (R268, R270). -/
  | diverge (page copy : Nat)
  deriving DecidableEq, Repr

/-- A map transaction: one journal record (R269 to R272). -/
structure Txn where
  pool : Nat
  tseq : Nat
  /-- FLAGS: 1 HOST, 2 RECLAIM, 4 MERGE. -/
  flags : Nat
  stride : DWord
  cseq : Nat
  vol : Nat
  ops : List MapOp
  /-- Stripes whose WRITTEN record it waits for (R272, R334). -/
  needs : List Nat
  /-- Programmed: a page set holds the record (R272). -/
  issued : Bool
  /-- Modules whose copy has answered OK (R271). -/
  okOn : List Nat
  durable : Bool
  deriving DecidableEq, Repr

/-! ### Segments and stripes (R274 to R277, R331 to R334) -/

/-- Segment states (R275). -/
inductive SegState where
  | free | open | closed | selected | erasing | retired
  deriving DecidableEq, Repr

/-- The code of a segment state (R275). -/
def SegState.code : SegState → Nat
  | .free => 0 | .open => 1 | .closed => 2 | .selected => 3 | .erasing => 4 | .retired => 5

/-- The segment state of a code (R275). -/
def SegState.ofCode : Nat → SegState
  | 0 => .free | 1 => .open | 2 => .closed | 3 => .selected | 4 => .erasing | _ => .retired

/-- Where a member of a segment lies (R274 PLACE). -/
structure Place where
  module : Nat
  die : Nat
  bgrp : Nat
  deriving DecidableEq, Repr

/-- A segment (R274). -/
structure Seg where
  pool : Nat
  /-- 0 HOST, 1 COPY, 2 META, 3 SPILL. -/
  kind : Nat
  seq : Nat
  state : SegState
  /-- The state that a SEG_STATE record in the journal gives it: the segment acts on it once the record is durable. -/
  want : Option SegState
  /-- Stripes written, and the next page index to place. -/
  stripes : Nat
  nextPage : Nat
  /-- LIVE in half granules: a live grain of n granules counts 2n + 3 with its header of 1.5 granules. -/
  live : Nat
  openStride : DWord
  closeStride : DWord
  /-- Strides at which the stripes were packed, by page index (R276). -/
  packedAt : List DWord
  place : List Place
  /-- Open reads of the segment (R228). -/
  readers : Nat
  /-- A hot-tier sweep that started after selection has completed (R206, R286). -/
  swept : Bool
  /-- Members that answered the erase (R275). -/
  erased : List Nat
  /-- Members that answered ERASE_FAIL once (R314). -/
  eraseFails : List Nat
  /-- REFRESH is set (R312, R337). -/
  refresh : Bool
  /-- In the rebuild set (R348), and stripes of it already rebuilt (R350). -/
  rebuild : Bool
  rebuilt : Nat
  /-- Chunks with a REBUILT record: page and position (R350). -/
  rebuiltAt : List (Nat × Nat)
  deriving DecidableEq, Repr

/-- A grain stored on flash: its header and its data (R217, R276). -/
structure Stored where
  raw : Bool
  copied : Bool
  len : Nat
  cls : Nat
  head : Nat
  vol : Nat
  grain : Nat
  cseq : Nat
  segSeq : Nat
  check : Word
  digest : Nat
  /-- Guard and application tag of each sector. -/
  piTags : List Nat
  /-- Its data granules: a DEFLATE stream or the raw 4,096 bytes (R209, R214). -/
  body : List Byte
  /-- Written as poison codewords, which never decode (R335, R337). -/
  poison : Bool
  /-- A metadata object in a META segment: TYPE, OBJECT, TSEQ (R278). -/
  obj : Option (Nat × Nat × Nat)
  deriving DecidableEq, Repr

/-- A grain packed into a stripe (R160, R285): its address, and the address it moves from for a copy. -/
structure Packed where
  addr : Nat
  old : Nat
  stored : Stored
  deriving DecidableEq, Repr

/-- A stripe being filled or written (R334). -/
structure Stripe where
  pool : Nat
  seg : Nat
  page : Nat
  /-- Data granules and headers in each data chunk, by position (R276). -/
  fill : List (Nat × Nat)
  grains : List Packed
  /-- Closed to further grains: to be programmed once the segment's OPEN is durable. -/
  closed : Bool
  /-- The stride at which its chunks were packed (R276). -/
  packedAt : DWord
  /-- Programs sent. -/
  issued : Bool
  /-- Members that have not answered, and members that answered another status than OK. -/
  waiting : List Nat
  failed : List Nat
  /-- Stride in which the first grain of a FUA write, or below a pending CUT, was packed (R155, R288). -/
  fuaAt : Option DWord
  deriving DecidableEq, Repr

/-- An in-flight stripe record (R342): KIND 1 ISSUED, 2 WRITTEN, 3 FAILED, 4 REBUILT. -/
structure StrRec where
  kind : Nat
  pool : Nat
  seg : Nat
  segSeq : Nat
  page : Nat
  members : Nat
  position : Nat
  mask : Nat
  stride : DWord
  /-- BSEQ of the page set of the journal band that holds it, 0 while none does, and the modules whose copy has answered OK (R342, R344). -/
  bseq : Nat
  okOn : List Nat
  deriving DecidableEq, Repr

/-- A checkpoint of a pool: `asked` waits for places; then its objects are in stripes; then its root is being written to anchors: modules
that have not answered, and whether one took it (R273, R279). -/
inductive Ckpt where
  | idle
  | asked
  | objects (tseq : Nat) (restores : Bool)
  | roots (tseq : Nat) (restores : Bool) (left : List Nat) (ok : Bool)
  deriving DecidableEq, Repr

/-- A copy of a journal band: two block groups on one die, the second active or the first, the next page (R341). -/
structure BandCopy where
  module : Nat
  die : Nat
  groupA : Nat
  groupB : Nat
  onB : Bool
  page : Nat
  /-- The inactive group holds pages: the next checkpoint erases it. -/
  otherUsed : Bool
  /-- The last TSEQ written to the active group, and to the inactive one. -/
  last : Nat
  otherLast : Nat
  deriving DecidableEq, Repr

/-! ### Pools (R330 to R360) -/

/-- Phases of a reshape (R356). -/
inductive ReshapePhase where
  | none | prepare | migrate | finish
  deriving DecidableEq, Repr

/-- An entry of the loss list (R353). -/
structure Loss where
  addr : Nat
  page : Nat
  slot : Nat
  vol : Nat
  grain : Nat
  stride : DWord
  cause : Nat
  resolved : Bool
  cleared : Bool
  deriving DecidableEq, Repr

/-- A pool of this head's paddock (R291, R330, R339). -/
structure Pool where
  /-- 0 MIRROR2, 1 MIRROR3, 2 PARITY1, 3 PARITY2. -/
  layout : Nat
  n : Nat
  modules : List Nat
  spare : Option Nat
  /-- Failed modules, with the stride of the failure (R338, R345). -/
  failed : Amap DWord
  /-- Substitutions: module number, port (R347). -/
  subst : Amap Nat
  /-- CAP and CHARGE in granules (R291). -/
  cap : Nat
  charge : Nat
  /-- Next TSEQ, next page ID and freed page IDs, next SEG_SEQ. -/
  nextTseq : Nat
  nextPage : Nat
  freePages : List Nat
  nextSeq : Nat
  /-- Journal band copies in service (R341), and the one that waits for a checkpoint (R344). -/
  band : List BandCopy
  bandNew : Option BandCopy
  /-- BSEQ of the last page set (R341). -/
  bandSeq : Nat
  /-- Checkpoint TSEQ C of the last root written, and the checkpoint under way (R273). -/
  ckptTseq : Nat
  ckpt : Ckpt
  /-- Where the first blocks of the volume table, the segment table and the page table lie (R279). -/
  volTable : Nat
  segTable : Nat
  pageTable : Nat
  /-- The layout a reshape goes to: layout, N, modules, spare (R356). -/
  reshape : Option (Nat × Nat × List Nat × Option Nat)
  phase : ReshapePhase
  switchSeq : Nat
  /-- Rebuild credit in hundredths of a stripe (R349), and the end of a holdoff reached (R345). -/
  credit : Nat
  holdoffOver : Bool
  /-- Failed modules of which a segment has started a rebuild (R352). -/
  started : List Nat
  /-- Loss list, oldest first (R353). -/
  losses : List Loss
  /-- Die retirements whose segments wait for relocation (R339). -/
  dieRetired : Bool
  /-- A charge exceeded FREE: EXHAUSTED at the next commit point (R292). -/
  exhaustNext : Bool
  /-- A die could not be replaced: READ_ONLY at the next commit point; RO_RESUME was accepted (R292). -/
  readOnlyNext : Bool
  resumeNext : Bool
  deriving DecidableEq, Repr

/-- What the recovery of a pool finds on flash beside what the state holds (R279, R295, R299): orphan grains, an invalid copy of the pool root,
a journal copy that fails its CRC, a metadata object that fails CHECK. -/
structure PoolFound where
  orphans : Nat
  rootCopy : Bool
  journalCopy : Bool
  metaCheck : Bool
  deriving DecidableEq, Repr

/-- Recovery finds nothing amiss. -/
def PoolFound.none : PoolFound := { orphans := 0, rootCopy := false, journalCopy := false, metaCheck := false }

/-! ### Module links (R237 to R262) -/

/-- What the chip does with the final response of a module command. -/
inductive ModUse where
  | identify
  | epochQuery
  | telemetry
  /-- A raise of a paddock's epoch (R254, R376). -/
  | raise (paddock new : Nat) (toOther : Bool) (retried : Bool)
  /-- A member of a stripe (R334). -/
  | stripe (id member : Nat)
  /-- A copy of the journal page set `bseq` that holds the records `first` to `last` (R271). -/
  | journal (pool bseq first last module : Nat)
  /-- A member block group of a segment (R275). -/
  | erase (seg member : Nat)
  /-- An erase held back or of a band or substitute (R344, R350). -/
  | eraseOther (pool : Nat)
  /-- The inactive slot of a die and bin (R305). -/
  | readLevel (bin : Nat)
  /-- A grain of a read: command number and grain index (R230). -/
  | read (cmd grain : Nat)
  /-- A Patrol page set (R309). -/
  | patrol
  /-- A read of reclaim, relocation or rebuild (R285, R349). -/
  | source
  /-- A pool root in an anchor (R279). -/
  | root (pool module : Nat)
  /-- A rebuilt chunk programmed on a substitute (R350). -/
  | rebuild (seg page position : Nat)
  | suspend
  | resume
  | abort
  /-- The state of a die is learned afresh (R260). -/
  | status
  deriving DecidableEq, Repr

/-- A command outstanding on a module link, by tag (R245). -/
structure ModCmd where
  opcode : Nat
  /-- FLAGS: URGENT and SLC. -/
  urgent : Bool
  slc : Bool
  die : Nat
  bgrp : Nat
  page : Nat
  /-- Plane mask, payload in units of 64 bytes, and ARG. -/
  planes : Nat
  units : Nat
  arg : Nat
  /-- The payload of a PROGRAM: its codewords. -/
  data : List Byte
  /-- The EPOCH field: set when the command is sent, but for a raise, which carries the value it expects. -/
  epoch : Nat
  use : ModUse
  sent : DWord
  /-- PHASE 1 received: expected duration in strides (R247). -/
  expect : Option Nat
  /-- The tag it was sent under (R245). -/
  tag : Nat
  deriving DecidableEq, Repr

/-- A failure that a module has reported, by its row of R314: it is handled at the next commit point. -/
inductive MediaFail where
  /-- PROGRAM_FAIL of a member of a segment. -/
  | program (seg port : Nat) (place : Place)
  /-- ERASE_FAIL of a member of a segment, by its number. -/
  | erase (seg port member : Nat)
  /-- READ_FAIL, or a first decode failure, of a block group. -/
  | read (port module die bgrp : Nat)
  /-- DIE_OFFLINE, or ALERT cause 3. -/
  | offline (port die : Nat)
  deriving DecidableEq, Repr

/-- A final response of a module (R246): STATUS, EPOCH, HOLDER, INFO and the payload of IDENTIFY, TELEMETRY or EPOCH_QUERY; for a
READ what its decoders report, and the places at which the grains of a failed stripe are packed again. -/
structure ModResp where
  status : Nat
  epoch : Nat
  holder : Nat
  info : Nat
  payload : List Byte
  report : DecodeReport
  places : List (List Place)
  deriving DecidableEq, Repr

/-- Identity data the chip keeps and uses (R257). -/
structure Ident where
  magicOk : Bool
  crcOk : Bool
  serial : Nat
  port : Nat
  cell : Nat
  dies : Nat
  blocks : Nat
  pages : Nat
  planes : Nat
  progUnit : Nat
  cwBytes : Nat
  trMax : Nat
  tsusMax : Nat
  suspLimit : Nat
  peRated : Nat
  rawBytes : Nat
  /-- Dies usable at manufacture (DIE_MAP). -/
  dieMap : List Nat
  deriving DecidableEq, Repr

/-- One direction pair of a flit link: a module port or the Torlux link (R241 to R244, R363). -/
structure FlitLink where
  /-- Next FSEQ to send, the oldest unacknowledged one, and flits that wait for room in the replay buffer (R242). -/
  txNext : Nat
  txAcked : Nat
  waiting : Nat
  /-- Next FSEQ expected, and whether a NAK was sent for it. -/
  rxNext : Nat
  nakSent : Bool
  /-- Flits accepted since the last acknowledgement was sent (R242). -/
  rxRun : Nat
  /-- Replays of the oldest unacknowledged flit without progress (R242). -/
  replays : Nat
  /-- Credits held by class 0 to 3, `none` unlimited; last CUM seen; units of each class that this end has returned since INIT, whose
  low 14 bits its flits carry as CUM (R241, R244). -/
  credits : List (Option Nat)
  cums : List Nat
  returned : List Nat
  /-- PORT and LINK_VER of the far end's INIT (R243). -/
  farPort : Nat
  farVer : Nat
  /-- Lanes replaced in each direction, with the spare that took their place, and SWAP_COUNT of each (R238, R239). -/
  txSpared : List (Nat × Nat)
  rxSpared : List (Nat × Nat)
  txSwaps : Nat
  rxSwaps : Nat
  /-- The lanes that carry the link and its spares, where they are not those of R237 and R361 (R240, R243, R362). -/
  carry : Option (List Nat × List Nat)
  /-- The link is in RECOVERY for a lane that failed with no spare left: it retrains at its reduced width (R240, R362). -/
  narrowing : Bool
  /-- Receive lanes whose failure was injected and has not been acted on yet (R77). -/
  injected : List Nat
  /-- Strides of the RECOVERY entries of the last second (R259). -/
  recoveries : List DWord
  /-- Stride in which the present link state was entered. -/
  since : DWord
  deriving DecidableEq, Repr

/-- A flit link as it stands at INIT: both sequences 0, no lane spared, no credit (R243, R259). -/
def FlitLink.fresh (now : DWord) (old : List DWord) : FlitLink :=
  { txNext := 0, txAcked := 0, waiting := 0, rxNext := 0, nakSent := false, rxRun := 0, replays := 0,
    credits := [some 0, some 0, none, none], cums := [0, 0, 0, 0], returned := [0, 0, 0, 0], farPort := 0,
    farVer := 0, txSpared := [], rxSpared := [], txSwaps := 0,
    rxSwaps := 0, carry := none, narrowing := false, injected := [], recoveries := old, since := now }

/-- A module port (R259). -/
structure MLink where
  link : FlitLink
  /-- Outstanding commands by tag. -/
  tags : Amap ModCmd
  nextTag : Nat
  /-- Commands that wait for a tag, for credits or for a link that is not ACTIVE or is frozen, oldest first. -/
  queue : List ModCmd
  ident : Option Ident
  /-- SERIAL before a failure (R352). -/
  oldSerial : Option Nat
  /-- Stride since which the link is DOWN (R338), and whether the module was refused (R257). -/
  downAt : Option DWord
  refused : Bool
  /-- Calendar second of the last over-temperature ALERT (R258, R311). -/
  hotAt : Option Nat
  deriving DecidableEq, Repr

/-! ### Dies, block groups, calibration (R300 to R317) -/

/-- States of a block group (R300). -/
inductive BgState where
  | good | suspect | retired | band
  deriving DecidableEq, Repr

/-- A block-group record, with its accumulators for levels 1 to 4 (R300, R303). -/
structure BlockGroup where
  erases : Nat
  st : BgState
  bin : Nat
  slc : Bool
  prio : Bool
  refresh : Bool
  covered : Bool
  suspLeft : Nat
  progCal : Nat
  progTemp : Int
  /-- Retention age in equivalent hours at 40 degC, in 1/65,536 of an hour (R311). -/
  retAge : Nat
  reads : Nat
  /-- TRIM of levels 1 to 4, and one that enters the record at the next commit point (R306). -/
  trim : List Int
  trimNext : Option (List Int)
  corrMax : Nat
  cover : Nat
  /-- UP and DN of levels 1 to 4. -/
  up : List Nat
  dn : List Nat
  /-- A page set of it was read in this Patrol pass: the next page (R308). -/
  patPage : Nat
  /-- It is RETIRED once its segment's live grains have moved (R316). -/
  retireDue : Bool
  deriving DecidableEq, Repr

/-- One bin of a die: the active slot of the pair, the offsets of levels 1 to 7, accumulators, and the slot change under
way (R300 to R305). -/
structure CalBin where
  active : Nat
  offs : List Int
  up : List Nat
  dn : List Nat
  /-- Offsets sent to the inactive slot, and whether it answered OK (R305). -/
  sent : Option (List Int)
  ok : Bool
  examined : DWord
  /-- Calendar second of the last sufficient statistics (R304). -/
  fresh : Nat
  deriving DecidableEq, Repr

/-- States of a die: one that takes commands, one that is suspended by this head, and one out of service (R247, R250, R314,
R317). -/
inductive DieState where
  | idle | suspended | offline | retired
  deriving DecidableEq, Repr

/-- A die of the array (R229, R300, R317). -/
structure Die where
  st : DieState
  /-- The operation suspended, and suspensions of it (R250). -/
  suspensions : Nat
  /-- What was left of the operation in progress or suspended, in strides, as the module last reported it (PHASE 1, SUSPEND, STATUS), and
  the stride from which it runs (R229, R247). -/
  remain : Option (Nat × DWord)
  /-- Bins 0 to 7. -/
  bins : Amap CalBin
  /-- The offsets of each bin at the pool's last checkpoint (R300, R307). -/
  saved : Amap (List Int)
  /-- Spare: not in service (R317). -/
  spare : Bool
  /-- Calendar seconds of block-group retirements within 24 hours (R317). -/
  retired : List Nat
  /-- It is retired once no segment has a member on it (R317). -/
  leaving : Bool
  deriving DecidableEq, Repr

/-- A module's health record (R319). -/
structure HealthRec where
  flags : Nat
  stride : DWord
  cal : Nat
  bgSpareInit : Nat
  diesSpareInit : Nat
  programFails : Nat
  eraseFails : Nat
  readFails : Nat
  bgRetired : Nat
  diesRetired : Nat
  cwDecoded : Nat
  corrBits : Nat
  refreshes : Nat
  calUpdates : Nat
  tempHist : List Nat
  tNandSeen : Int
  /-- The 256 bytes as of the last update (R327); none before the first. -/
  bytes : List Byte
  deriving DecidableEq, Repr

/-- The Patrol's pass (R308 to R310). -/
structure PatrolSt where
  active : Bool
  /-- End of the pass in calendar seconds. -/
  endCal : Nat
  /-- A new pass starts at the next commit point (R326). -/
  restart : Bool
  /-- Page sets per 65,536 strides, and credit (R309). -/
  rate : Nat
  credit : Nat
  /-- Page sets to read at the start of the pass, for PAT_PROGRESS. -/
  total : Nat
  /-- Block groups carried over from a late pass (R309). -/
  carried : List Nat
  expedited : Bool
  deriving DecidableEq, Repr

/-- The wear governor of one pool (R321 to R324). -/
structure WearSt where
  /-- Erases in the last 24 hourly bins, the present one first. -/
  hours : List Nat
  /-- Stage that the next commit point applies. -/
  stageNext : Option Nat
  /-- WR grains admitted in this stride (R322). -/
  used : Nat
  deriving DecidableEq, Repr

/-! ### Rules of the media that span chapters -/

/-- A relocation under way: segment, page, grains still to move (R285). -/
structure ReclaimSt where
  seg : Nat
  /-- Grains copied: old address, new address. -/
  copied : List (Nat × Nat)
  /-- Grains copied in this stride (R283). -/
  used : Nat
  deriving DecidableEq, Repr

/-- A snapshot that has been accepted (R288). -/
structure SnapJob where
  source : Nat
  target : Nat
  at_ : DWord
  clone : Bool
  cut : Option Nat
  /-- Its SNAP_CREATE record is in the journal. -/
  recorded : Bool
  deriving DecidableEq, Repr

/-- The Media domain's own state. -/
structure MediaSt where
  /-- Volumes by number (R287). -/
  vols : Amap Vol
  /-- Map pages by pool * 2 ^ 40 + page ID (R266). -/
  pages : Amap MapPage
  /-- Grains on flash, by grain address with FLAGS cleared (R217). -/
  flash : Amap Stored
  /-- Reference counts by grain address with FLAGS cleared (R280); absent is 0. -/
  refs : Amap Nat
  /-- Chunks whose counts have changed since their summary was written: the address of granule 0 (R273, R280). -/
  sums : List Nat
  /-- Pages written of an anchor, by module * 2 + paddock (R279). -/
  anchors : Amap Nat
  /-- Back-references: grain address with FLAGS cleared, leaf page, slot (R281). -/
  backrefs : List (Nat × Nat × Nat)
  /-- Map transactions in the journal tail, by pool * 2 ^ 64 + TSEQ (R272). -/
  txns : Amap Txn
  /-- Segments by index (R274). -/
  segs : Amap Seg
  /-- Recovered grains that wait for a place in a new stripe, by the address they had (R232, R350). -/
  rewrites : Amap Stored
  /-- Stripes being filled or written, by number, and the next number (R334). -/
  stripes : Amap Stripe
  nextStripe : Nat
  /-- The records of the journal area in the image that the spill band holds (R163, R295). -/
  bandTail : List Txn
  /-- The in-flight stripe journal, oldest first (R342). -/
  strLog : List StrRec
  /-- Pools of this head (R330). -/
  pools : Amap Pool
  /-- Module ports 0 to 23 (R259). -/
  links : Amap MLink
  /-- Dies by module * 1024 + die (R252: die d is of paddock d mod 2). -/
  dies : Amap Die
  /-- Block-group records by (module * 1024 + die) * 4096 + BGRP / 4 (R300). -/
  bgs : Amap BlockGroup
  /-- Health records by module (R319). -/
  health : Amap HealthRec
  patrol : PatrolSt
  /-- Wear governors by pool (R321). -/
  wear : Amap WearSt
  /-- Reclaim under way by pool (R285). -/
  reclaim : Amap ReclaimSt
  /-- Snapshots accepted and not yet recorded (R288). -/
  snaps : List SnapJob
  /-- The lost-address set: addresses with FLAGS cleared (R355). -/
  lost : List Nat
  /-- A first decode failed since the last commit point (R325). -/
  firstFail : Bool
  /-- Failures that the modules have reported since the last commit point, with the tags of their commands, in the order of the tags
  (R314). -/
  fails : List (Nat × MediaFail)
  deriving DecidableEq, Repr

end Sys2Proof.Machine
end

