-- ==== Sys2Proof/Machine/PartsFacts.lean ====
section
/-! DEFINITION. What the outside holds for a commit point and for a bring-up: pins, monitors, devices, modules (R22, R524). -/

namespace Sys2Proof.Machine

/-- What the pins, monitors and the flash hold for one commit point: PFAIL_x_N high, VSENSE codes, the junction reading in 0.25 degC
(R517, R519), what each channel's controller used of its peak (R427), whether a save of the remount map takes (R463), and where new
journal bands lie (R274). -/
structure StrideFacts where
  pinA : Bool
  pinB : Bool
  codeA : Nat
  codeB : Nat
  tj : Int
  util : List Nat
  mapOk : Bool
  bands : List BandCopy
  /-- Of the PCIe link in the stride that ends: correctable receiver errors, TLPs replayed, requests answered Unsupported Request, and
  the two size fields in force (R84). -/
  pcieRxErr : Nat
  pcieReplays : Nat
  pcieUr : Nat
  pcieMps : Nat
  pcieMrrs : Nat
  /-- Units that stopped working in it, by page and unit (R220, R325, R358, R443), and units of a bank under copy found with bad parity (R186). -/
  unitFaults : List (Nat × Nat)
  camBad : List Nat
  deriving DecidableEq, Repr

/-- A channel's DIMMs as the SPD describes them (R402, R410): DC_CFG, set 0 of the timing registers, the speed code, and whether they
trained. -/
structure DimmFacts where
  cfg : Nat
  tim : List Nat
  speed : Nat
  trained : Bool
  deriving DecidableEq, Repr

/-- A module port that trains in step B6: the lanes with block lock and speed, the bridge's INIT, its identity, and the epoch and holder of each paddock
that it answers (R243, R252, R257, R524). -/
structure ModUp where
  port : Nat
  lanes : List Nat
  speed : Nat
  init : InitMsg
  ident : List Byte
  epoch0 : Nat
  holder0 : Nat
  epoch1 : Nat
  holder1 : Nat
  deriving DecidableEq, Repr

/-- What a bring-up finds (R524). -/
structure BringupFacts where
  /-- The part's grade is that of an XG7240-AE-1 (R20, R72); straps (R512), and the always-on feeds (R518). -/
  extended : Bool
  headId : Nat
  recovery : Bool
  vaonA : Bool
  vaonB : Bool
  /-- Known-answer tests pass (R449). -/
  katOk : Bool
  /-- Pages whose initialisation or self-test fails: page, code, subunit (R62, R524). -/
  initFail : List (Nat × Nat × Nat)
  /-- MOD_PRSNT_N[n] reads low (R527). -/
  present : Nat
  dimms : List DimmFacts
  /-- Rows for which the DIMM has repair resources left: channel, row (R418). -/
  hardOk : List (Nat × Nat)
  modules : List ModUp
  /-- The Torlux link trains: lanes with block lock, and the partner's INIT (R364). -/
  torlux : Option (List Nat × InitMsg)
  /-- Logical Ethernet ports that come up (R113). -/
  eth : List Nat
  /-- Bits that the media have flipped in the entries of the own half and of the mirror half: CSEQ, offset, mask (R167). -/
  ownErrs : List (Nat × Nat × Nat)
  mirErrs : List (Nat × Nat × Nat)
  /-- The partner's image of this head's own half has a valid directory, and its entries (R167). -/
  partnerDir : Bool
  partnerOwn : List (List Byte)
  /-- The map records in that image of the journal area. -/
  partnerTail : List Txn
  /-- What a scan of both bands finds where no directory is valid: entries of either head (R168). -/
  scan : List (List Byte)
  /-- What recovery finds on flash, by pool (R295). -/
  found : Amap PoolFound
  deriving DecidableEq, Repr

end Sys2Proof.Machine
end

