-- ==== Sys2Proof/Machine/PartsFront.lean ====
section
/-! DEFINITION. State of the Front domain that no PF0 register shows: functions and their queues, host commands inside
the chip, queue pairs, memory regions and fabrics controllers (03_host_functions.md, 04_network_and_rdma.md). -/

namespace Sys2Proof.Machine

/-- A namespace of a function (R87). -/
structure NsAtt where
  nsid : Nat
  vol : Nat
  /-- DETACH applied: invisible to commands fetched since, free once the earlier ones have completed. -/
  detaching : Bool
  deriving DecidableEq, Repr

/-- A submission queue: entries, tail as rung, head as fetched, fetching stopped (R82, R104). -/
structure SubQ where
  size : Nat
  tail : Nat
  head : Nat
  deriving DecidableEq, Repr

/-- A completion queue: entries, the chip's tail, the host's head, its vector (R82). -/
structure CplQ where
  size : Nat
  tail : Nat
  head : Nat
  ien : Bool
  vec : Nat
  deriving DecidableEq, Repr

/-- What a function's reset or removal waits for (R90, R91). -/
inductive FnLeave where
  | none
  | reset (start : DWord)
  | removal (start : DWord) (absentAfter : Bool)
  deriving DecidableEq, Repr

/-- One PCIe function, its state and generation being FN_STATE (R85). -/
structure Fn where
  /-- SR-IOV exposes the function (R87). -/
  exposed : Bool
  /-- QMODE = 1 (R82). -/
  legacy : Bool
  qpQuota : Nat
  /-- MiB of the own half of the Cistern. -/
  cistQuota : Nat
  msix : Nat
  ns : List NsAtt
  sqs : Amap SubQ
  cqs : Amap CplQ
  /-- Command identifiers of outstanding Asynchronous Event Requests (R100). -/
  aers : List Nat
  /-- Feature values by feature identifier (R102). -/
  feats : Amap Nat
  /-- Power state in force, the one to apply at the next commit point, and the last operational one (R106). -/
  ps : Nat
  psNext : Option Nat
  psOper : Nat
  /-- Error Information log, newest first: queue, command identifier, the code of R109. -/
  errLog : List (Nat × Nat × Nat)
  leave : FnLeave
  /-- A function-level reset to start at the next commit point (R90). -/
  resetReq : Bool
  /-- An FLR that waits for FNMGR to leave BUSY (R90). -/
  flrWait : Bool
  /-- A removal to start at the next commit point; `some true` leaves the function ABSENT (R91). -/
  removeReq : Option Bool
  /-- A legacy DONE bit was set since the last message (R97). -/
  doneNew : Bool
  deriving DecidableEq, Repr

/-- An FNMGR command with the creation registers as read at the write of FN_CMD (R85, R87). -/
structure FnCmd where
  op : Nat
  fn : Nat
  gen : Nat
  legacy : Bool
  qp : Nat
  cist : Nat
  wmin : Word
  wmax : Word
  msix : Nat
  vol : Nat
  nsid : Nat
  reply : List Word
  deriving DecidableEq, Repr

/-- Stages of a host command. -/
inductive CmdStage where
  /-- fetched; the Weir has not admitted it -/
  | fetched
  /-- admitted by the Weir (R92) -/
  | admitted
  /-- the checks of R141 or R221 passed: parts wait for locks, or grains are read -/
  | checked
  /-- all of it done but for an acknowledgement that a later step gives (R98, R103, R106) -/
  | finishing
  /-- forwarded to the head that owns the volume (R382) -/
  | forwarded
  deriving DecidableEq, Repr

/-- How a grain's die is reached (R229). -/
inductive RdPath where
  | direct
  /-- the copy on a member of a mirror stripe -/
  | copy (member : Nat)
  /-- read-around: rebuilt from peers -/
  | around
  | suspend
  /-- direct in spite of the wait -/
  | waited
  deriving DecidableEq, Repr

/-- Where a grain of a read stands. -/
inductive RdStage where
  /-- the in-flight search is done; the Cistern entries chosen are to be copied, then the map supplies the rest -/
  | search
  /-- a map lookup is needed (R226) -/
  | lookup
  /-- an address is held; a way to the die is to be chosen (R229) -/
  | choose
  /-- a media read is issued (R230) -/
  | issued
  /-- the grain failed decode, header or check and is recovered in the next stride (R232) -/
  | recover
  /-- staged in the Basin -/
  | done
  deriving DecidableEq, Repr

/-- How far the reconstruction of a range has come (R337). -/
structure Recon where
  /-- Positions erased over the range, the target included. -/
  erased : List Nat
  /-- Positions read as sources in this round. -/
  sources : List Nat
  /-- Reads of the sources: 0 as they are, 1 with trims moved by +4, 2 by -4. -/
  trim : Nat
  /-- Q has been tried in place of P. -/
  withQ : Bool
  deriving DecidableEq, Repr

/-- No reconstruction has begun. -/
def Recon.start : Recon := { erased := [], sources := [], trim := 0, withQ := false }

/-- One grain of a read (R223 to R232). -/
structure RdGrain where
  vol : Nat
  grain : Nat
  part : Nat
  /-- COMMITTED entries chosen at the search, highest CSEQ first (R223). -/
  chosen : List Nat
  /-- Sectors still to be supplied, as a mask. -/
  need : Nat
  /-- Bytes placed so far, guard and application tag of each sector (R150 PI_TAGS), and the sectors never written (R227). -/
  data : List Byte
  tags : List Nat
  blank : Nat
  addr : Nat
  /-- The map has been looked up: `addr` is its answer, on whose segment a reader count is held (R226, R228). -/
  mapped : Bool
  /-- Cache lines that the lookup waits for (R422), the map page on flash that is read in place of the grain, and whether one was. -/
  lines : List Nat
  page : Option Nat
  pageRead : Bool
  path : RdPath
  stage : RdStage
  issued : DWord
  /-- Media reads outstanding for it; one of them failed; its reconstruction (R230, R337). -/
  left : Nat
  bad : Bool
  recon : Recon
  /-- A read-around failed: the target die is read directly (R230). -/
  forced : Bool
  /-- Every copy tried so far decoded; a header or check value failed (R232). -/
  allDecoded : Bool
  checkBad : Bool
  /-- The status when it fails: 0 while it has not. -/
  status : Nat
  deriving DecidableEq, Repr

/-- A host command inside the chip. -/
structure HostCmd where
  src : CmdSrc
  /-- Generation latched at fetch (R88). -/
  gen : Nat
  img : CmdImg
  /-- The volume that the namespace named at fetch; none where it named none. -/
  vol : Option Nat
  stage : CmdStage
  fetchedAt : DWord
  /-- Weir subject (R92, R134). -/
  subject : Nat
  admittedAt : DWord
  /-- Parts the command is split into at 1 MiB boundaries (R98, R103), and how many are granted a lock. -/
  parts : Nat
  granted : Nat
  /-- Parts that are acknowledged under R154, and parts acknowledged under R155. -/
  committed : Nat
  durable : Nat
  /-- Parts discarded at step 8 of R141. -/
  discarded : Nat
  /-- Status of the failing part with the lowest LBAs, and its index (R141, R142); a part has failed its protection information (R169). -/
  status : Nat
  failed : Nat := 0
  piFailed : Bool := false
  /-- Grains of a read. -/
  reads : List RdGrain
  /-- Basin slots held (R222). -/
  slots : Nat
  /-- Grains of space charged in the pool's account and not yet owned by a part (R143). -/
  charged : Nat
  /-- Order of admission (R146), and whether the part that is next to take a lock has waited for one. -/
  admitNo : Nat
  waited : Bool
  /-- CSEQ of part 0 (R384). -/
  tsn : Nat
  deriving DecidableEq, Repr

/-- States of a queue pair (R130). -/
inductive QpState where
  | reset | init | rtr | rts | error
  deriving DecidableEq, Repr

/-- A session context of the network pool (R118-R125, R130). -/
structure Qp where
  lport : Nat
  tenant : Nat
  kind : Nat
  pin : Bool
  sprayed : Bool
  tandemCpl : Bool
  state : QpState
  mtu : Nat
  gidIndex : Nat
  /-- RNR timer code, default 12 (R123). -/
  rnrTimer : Nat := 12
  destQpn : Nat
  /-- Next PSN sent, and first unacknowledged PSN: the context is held while they differ (R119). -/
  sqPsn : Nat
  unacked : Nat
  /-- Highest completed PSN and the completion bitmap: bit i is PSN HCP - i (R125). -/
  hcp : Nat
  done : BitVec 4096
  msn : Nat
  retry : Nat
  retryLeft : Nat
  rnrRetry : Nat
  rnrLeft : Nat
  ackTimeout : Nat
  destGid : Nat
  destMac : Nat
  vlan : Nat
  stream : Nat
  /-- In the on-chip cache; modified since it was fetched; being written back; being fetched since (R119-R122). -/
  cached : Bool
  dirty : Bool
  writeback : Bool
  fetchAt : Option DWord
  /-- Stamp of the last use, for replacement (R119). -/
  used : Nat
  /-- Packets in a miss buffer, each with its arrival port (R121). -/
  parked : List (Nat × Packet)
  /-- An RNR NAK was sent: packets are discarded until this PSN is resent (R123). -/
  nakAt : Option Nat
  /-- Rate reductions in force (R115), and stride of the last CNP sent. -/
  rateSteps : Nat
  cnpAt : Option DWord
  /-- Requester operations whose issue is delayed, oldest first: bytes, and whether it is an RDMA Read (R115, R119). -/
  sendq : List (Nat × Bool)
  /-- Last PSN of each RDMA Read outstanding as requester, and Reads taken as responder since the last commit point (R115). -/
  reads : List Nat
  readsIn : Nat
  /-- PSNs to acknowledge once the request in progress completes (R125). -/
  ackDue : List Nat
  /-- Destroy requested while packets remain in the miss buffer (R124). -/
  destroying : Bool
  deriving DecidableEq, Repr

/-- A memory region (R126-R128). -/
structure Mr where
  registered : Bool
  key : Nat
  base : Nat
  len : Nat
  tenant : Nat
  readOk : Bool
  writeOk : Bool
  pinned : Bool
  /-- The key byte to increment at the next commit point, how often (R128). -/
  rotate : Nat
  deriving DecidableEq, Repr

/-- A seal (R137): BATCH_STRIDE, BATCH_SEQ, MEMBER_MASK, LAST_PSN, BYTES, and whether CHECK is valid. -/
structure SealRec where
  batchStride : Nat
  batchSeq : Nat
  mask : Nat
  lastPsn : List Nat
  bytes : Nat
  checkOk : Bool
  deriving DecidableEq, Repr

/-- A seal waiting for delivery (R137, R138). -/
structure SealMsg where
  qpn : Nat
  psn : Nat
  arrived : DWord
  body : SealRec
  deriving DecidableEq, Repr

/-- A fabrics controller (R133). -/
structure Ctrl where
  adminQpn : Nat
  ioQpns : List Nat
  /-- Namespaces of the association, as its Connect gave them. -/
  ns : List NsAtt
  /-- Properties by offset (CC, CSTS and the others of R100). -/
  props : Amap Nat
  /-- Keep-alive timeout in units of 100 ms; 0 for none (R133). -/
  kato : Nat
  aers : List Nat
  feats : Amap Nat
  /-- Error Information log, newest first, and completions with UNRECOVERED_READ or CHECK_VALUE (R109, R320). -/
  errLog : List (Nat × Nat × Nat)
  mediaErrors : Nat
  deriving DecidableEq, Repr

/-- The Front domain's own state. -/
structure FrontSt where
  /-- Functions 0 to 248. -/
  fns : Amap Fn
  /-- Window registers of the functions, by function * 65536 + window offset (R82, R95). -/
  win : Amap Word
  /-- `_LO` halves of window pairs written and waiting for `_HI` (R15, R95), by the number of the `_LO` register. -/
  winLo : Amap Word
  /-- Masked MSI-X entries, and the pending bit array: function, vector (R74). -/
  msixMask : List (Nat × Nat)
  msixPend : List (Nat × Nat)
  /-- The FNMGR command that the next commit point applies (R87). -/
  fnCmd : Option FnCmd
  /-- Host commands inside the chip, by command number, and the next number. -/
  cmds : Amap HostCmd
  nextCmd : Nat
  nextAdm : Nat
  /-- Weir rotation: the first subject of this stride's rotation, per class (R93). -/
  weirFirst : Nat
  /-- The queue that a subject's last admitted command came from (R92). -/
  served : Amap Nat
  /-- Basin slots of completed fabrics reads, held until their RDMA Writes are acknowledged (R222). -/
  rdmaSlots : Nat
  /-- Queue pairs by QPN. -/
  qps : Amap Qp
  /-- Memory regions by index. -/
  mrs : Amap Mr
  /-- The RMA command under way: OP and object (R129). -/
  rmaBusy : Option (Nat × Nat)
  /-- Phase bits of the event ring and the QP1 receive ring (R131, R139). -/
  evqPhase : Bool
  gsiPhase : Bool
  /-- QP1 transmit entries taken up from GSI_TX_CONS on, and whether each has left its port or was skipped (R131). -/
  gsiSent : List (Nat × Bool)
  /-- PORT_MISS_FULL was posted for a port since its miss buffer was last below half full (R140). -/
  missPosted : List Nat
  /-- Priorities of a logical port that flow control holds now, as a mask (R112). -/
  paused : Amap Nat
  /-- Link changes of logical ports that the next commit point tells: port, up (R113). -/
  portDue : List (Nat × Bool)
  /-- ETH pages whose mode was changed while queue pairs remained on a logical port that is gone (R111). -/
  modeStray : List Nat
  /-- Seals waiting for delivery (R138), oldest first. -/
  seals : List SealMsg
  /-- Fabrics controllers by controller ID. -/
  ctrls : Amap Ctrl
  /-- Use stamp for context replacement (R119). -/
  useStamp : Nat
  /-- VFs that SR-IOV exposes (R91). -/
  numVfs : Nat
  deriving DecidableEq, Repr

end Sys2Proof.Machine
end

