-- ==== Sys2Proof/Machine/PartsTandem.lean ====
section
/-! DEFINITION. State of the Tandem domain that no register shows: the Torlux link, beats and reins, epochs and raises,
takeover, transfer, twins and replication groups (13_tandem_operation.md). -/

namespace Sys2Proof.Machine

/-- The epoch of a paddock at a module, as last learned (R375). -/
structure Epoch where
  /-- In force for commands. -/
  inForce : Nat
  /-- Granted in this stride: in force at the next commit point. -/
  next : Option Nat
  /-- Port that holds the paddock at the module, as last learned: 0, 1, or none learned. -/
  holder : Option Nat
  deriving DecidableEq, Repr

/-- How a raise stands at a module (R376). -/
inductive RaiseSt where
  | waiting | granted | refused | timedOut
  deriving DecidableEq, Repr

/-- A raise of a paddock at a module (R376). -/
structure Raise where
  asked : Nat
  toOther : Bool
  retried : Bool
  st : RaiseSt
  sent : DWord
  deriving DecidableEq, Repr

/-- A takeover under way (R380). -/
structure Takeover where
  paddock : Nat
  start : DWord
  /-- Its grants have come into force and its recovery has started (step 3). -/
  applied : Bool
  deriving DecidableEq, Repr

/-- Phases of a transfer (R387). -/
inductive TransferPhase where
  | drain | hold | checkpoint | raise | take
  deriving DecidableEq, Repr

/-- A transfer under way (R387). -/
structure Transfer where
  paddock : Nat
  giver : Bool
  handover : Bool
  phase : TransferPhase
  /-- Stride in which the hold started. -/
  holdAt : DWord
  raised : Bool
  deriving DecidableEq, Repr

/-- What the last valid beat of the partner showed (R369). -/
structure BeatSeen where
  role : Nat
  flags : Nat
  mods : Nat
  stride : DWord
  deriving DecidableEq, Repr

/-- One reference-count change carried between heads (R366, R367). -/
structure RefDelta where
  addr : Nat
  delta : Int
  tseq : Nat
  /-- Sent since the link was last ACTIVE. -/
  sent : Bool
  deriving DecidableEq, Repr

/-- A replication record of one part, or of a resync range (R390, R391). -/
structure RepRec where
  rseq : Nat
  vol : Nat
  /-- First grain, and grains. -/
  grain : Nat
  count : Nat
  /-- BATCH_STRIDE; 0 in SYNC mode (R394). -/
  batch : Nat
  /-- Sent, and the stride of its first send (R392, R393). -/
  issued : Bool
  sent : DWord
  /-- The Cistern entry that it carries, byte for byte (R390). -/
  entry : List Byte
  /-- Acknowledged on its stream; SYNC_ACK or STAGED received (R391, R394). -/
  onWire : Bool
  acked : Bool
  /-- The stream member that carried it, by port, and the last PSN it took there (R136, R137). -/
  member : Option (Nat × Nat)
  deriving DecidableEq, Repr

/-- A batch that this array, as remote, has staged (R395). -/
structure StagedBatch where
  batch : Nat
  /-- Entries with their RSEQ and the CSEQ of their copy, in the order in which they are applied. -/
  entries : List (Nat × Nat × Part)
  /-- CSEQs not yet in both Cisterns; the CLOSE marker is written when none is left. -/
  waiting : List Nat
  closed : Bool
  deriving DecidableEq, Repr

/-- What recovery of a paddock reads from flash: its pools with all that lies on it, as of the newest roots and the journal
records beyond them (R295, R296). Pools are numbered as this head's tables number them: 0 to 15 on its own paddock, 16 to 31 on
the partner's. -/
structure PaddockData where
  vols : Amap Vol
  pages : Amap MapPage
  flash : Amap Stored
  refs : Amap Nat
  backrefs : List (Nat × Nat × Nat)
  txns : Amap Txn
  segs : Amap Seg
  pools : Amap Pool
  dies : Amap Die
  bgs : Amap BlockGroup
  lost : List Nat
  /-- Merge logs and flash tiers of the pools (R208). -/
  logs : Amap (List DdRec)
  tier : Amap (List DdRec)
  /-- What recovery finds on flash, by pool (R295). -/
  found : Amap PoolFound
  deriving DecidableEq, Repr

/-- A replication group (R389). -/
structure Group where
  /-- Local volume to remote volume. -/
  vols : Amap Nat
  /-- The initial copy of every mapped grain was asked for (R400). -/
  copy : Bool
  recs : List RepRec
  /-- Marked ranges: volume, 2 MiB range number (R393). -/
  marks : List (Nat × Nat)
  /-- Last CLOSED sent and received, and the last seal sent and acknowledged (R394). -/
  closedOwn : Nat
  closedPartner : Nat
  sealed : Nat
  sealAcked : Bool
  /-- BATCH_SEQ of the last seal sent (R137). -/
  batchSeq : Nat
  resyncNo : Nat
  /-- The group becomes SUSPENDED at the next commit point (R393). -/
  suspendNext : Bool
  /-- As remote (R392, R395): records received and not staged, with RSEQ and BATCH_STRIDE; seals held; batches staged, oldest
  first; the batch being applied with the CSEQs of its parts; the last batch staged; RSEQs admitted with the stride. -/
  received : List (Nat × Nat × Part)
  heldSeals : List Nat
  staged : List StagedBatch
  applying : Option (Nat × List Nat)
  lastStaged : Nat
  admitted : List (Nat × DWord)
  deriving DecidableEq, Repr

/-- A group of which nothing is known. -/
def Group.empty : Group :=
  { vols := [], copy := false, recs := [], marks := [], closedOwn := 0, closedPartner := 0, sealed := 0, sealAcked := true, batchSeq := 0,
    resyncNo := 0, suspendNext := false, received := [], heldSeals := [], staged := [], applying := none, lastStaged := 0,
    admitted := [] }

/-- Records on the Torlux link (R366). -/
inductive TlRec where
  | beat (rein : Nat) (bytes : List Byte)
  /-- The Cistern entry byte for byte, and the granule offset that it has in the ring (R152). -/
  | mirrorWrite (off : Nat) (image : List Byte)
  | mirrorAck (cseq : Nat)
  | mirrorNak (cseq : Nat)
  | mirrorRelease (cseqs : List Nat)
  | resyncData (off : Nat) (image : List Byte)
  | resyncDone (cseq : Nat)
  | fwdCmd (id : Nat) (img : CmdImg) (fn queue vol : Nat)
  | fwdAccept (id : Nat)
  /-- Data of a forwarded command: the part of a write, or the grain and sector mask of a read. -/
  | fwdData (id index mask : Nat) (data : List Byte) (pi : List (Nat × Nat × Nat))
  | fwdCpl (id status tsn : Nat)
  | refDelta (changes : List RefDelta)
  | refAck (tseq : Nat)
  | subst (pool paddock module port serial : Nat)
  | closed (batch : Nat)
  | transfer (paddock : Nat) (epochs : List Nat) (roots : List Nat)
  | leave
  /-- The entry of the partner's mirror half is asked for (R225, R335). -/
  | entryFetch (cseq : Nat)
  deriving DecidableEq, Repr

/-- The Tandem domain's own state. -/
structure TandemSt where
  /-- The Torlux link (R361 to R364). -/
  tl : FlitLink
  /-- Records that wait for credits or for the link, oldest first, with the stride at which each was built (R244, R365, R367). -/
  tlWait : List (DWord × TlRec)
  /-- BUILD and TANDEM_MIN of the partner as its INIT told (R505). -/
  tlInitOk : Bool
  /-- SIZE_GIB of the partner, as its INIT told (R148). -/
  mateGib : Nat
  /-- Last valid BSEQ on Rein A and Rein B, and whether HEAD_OK_IN has read low since (R370). -/
  bseqA : Nat
  bseqB : Nat
  lowA : Bool
  lowB : Bool
  /-- The own beat number (R369). -/
  bseq : Nat
  beat : Option BeatSeen
  /-- Silent reins (R373). -/
  silentA : Bool
  silentB : Bool
  /-- An L4 was placed: the fence completes at the next commit point (R379). -/
  fencing : Bool
  /-- A FENCE_IN pulse was sampled in 8 reference periods (R372). -/
  fenceInSeen : Bool
  /-- Such a pulse places L4 FENCE_IN at the next commit point (R372). -/
  fenceInDue : Bool
  /-- Epochs by paddock * 32 + module (R375). -/
  epochs : Amap Epoch
  /-- Raises by paddock * 32 + module (R376). -/
  raises : Amap Raise
  /-- Modules lost for a paddock: paddock * 32 + module (R376, R379). -/
  lostMods : List Nat
  /-- Modules that answered own commands EPOCH_STALE or NOT_HOLDER: paddock * 32 + module (R379). -/
  staleMods : List Nat
  /-- Stride in which arbitration ended in a tie (R377). -/
  tie : Option DWord
  /-- Arbitration was won: SOLE at the next commit point (R374, R377). -/
  arbWon : Bool
  /-- The link is split and this head keeps its role (R378). -/
  split : Bool
  /-- Stride in which ARBITRATE was entered (R374, R377). -/
  arbAt : DWord
  /-- Paddocks that this head holds (R374, R375, R380, R387). -/
  held : List Nat
  takeovers : List Takeover
  transfer : Option Transfer
  /-- LEAVING is set in the own beats (R388). -/
  leaving : Bool
  /-- Resynchronisation of a standby: entries not yet acknowledged, and whether RESYNC_DONE was sent (R386). -/
  resync : Option (List Nat × Bool)
  /-- Twin pairs: local QPN to partner QPN (R384). -/
  twins : Amap Nat
  /-- Completions posted on a twin: local QPN, CID, TSN (R384). -/
  twinPosted : List (Nat × Nat × Nat)
  /-- Reference changes of this head's transactions that the partner has not acknowledged (R367). -/
  refOut : List RefDelta
  /-- Substitutions that the partner has copied here: pool, paddock, module, port, serial (R347). -/
  substs : List (Nat × Nat × Nat × Nat × Nat)
  /-- Forwarded commands by identifier: the command of this head that waits, or that the owner took (R382). -/
  nextFwd : Nat
  fwdOut : Amap Nat
  fwdIn : Amap Nat
  groups : Amap Group
  /-- Closed batches, by group, whose entries the image in the spill band holds (R167, R395). -/
  bandStaged : Amap (List StagedBatch)
  /-- Flits of other classes that were sent while BULK records waited, less 7 for each BULK flit (R367). -/
  bulkOwed : Nat
  /-- The last ANA change waits for its notice at the next commit point (R381). -/
  anaDue : Bool
  deriving DecidableEq, Repr

end Sys2Proof.Machine
end

