-- ==== Sys2Proof/Syntax.lean ====
section
/-! DEFINITION. The commands of the XG7240: one constructor per row of the command table, in its order, with the operands that the
command carries. A command that an outside party answers or decides (a response, a chosen place, a measured value) carries what that
party gives as operands. -/

namespace Sys2Proof

open Sys2Proof.Machine

/-- A command. -/
inductive Instr where
  -- 01_stride_and_time.md
  /-- COMMIT_POINT (R22): At engine clock 0 of every stride the chip performs the ordered commit-point actions. -/
  | commitPoint (f : StrideFacts)
  /-- OVERRUN (R27): A chunk still running at the end of engine clock 6,399 overruns, is counted and noted at L0. -/
  | overrun (p unit clk : Nat)
  /-- OVERRUN_REPEAT (R28): A block instance overrunning in 8 consecutive strides raises L2 DEGRADE. -/
  | overrunRepeat (p unit : Nat)
  /-- STRIDE_SYNC_EDGE (R35): A STRIDE_SYNC marker edge from the partner is received and drives the sync state machine. -/
  | strideSyncEdge (raw : Int)
  /-- SYNC_EDGE_LOST (R35): No edge at 2 consecutive expected boundaries moves SLEW or LOCKED to HOLDOVER. -/
  | syncEdgeLost
  /-- SYNC_LOCKED (R35): 64 consecutive strides within 20 ns move SLEW to LOCKED. -/
  | syncLocked
  /-- MASTER_TAKE (R35): With no edge for 2 strides at reset exit as head 0, or after partner loss, the head enables its
  driver and becomes master. -/
  | masterTake
  /-- ACQUIRE_TIMEOUT (R35): No edge for 2 strides in ACQUIRE returns SYNC_STATE to LOCAL. -/
  | acquireTimeout
  /-- STRIDE_ADOPT (R31): At the commit point after a beat in ACQUIRE the head adopts the partner's stride number and writes
  STRIDE_ADOPT. -/
  | strideAdopt
  /-- COMMIT_GATE_SET (R38): A write of 1 to COMMIT_GATE gates commits to STR_COMMIT_AT and makes the late check. -/
  | commitGateSet
  /-- COMMIT_GATE_CLEAR (R38): A write of 0 to COMMIT_GATE ungates pending commits to apply at the next commit point. -/
  | commitGateClear
  /-- CAL_TICK (R40): A 32.768 kHz tick advances the calendar with trim accumulation adding or skipping ticks. -/
  | calTick
  /-- CAL_SECOND_ROLLOVER (R42): At each seconds rollover the stride number and engine clock are latched into CAL_AT_STRIDE
  and CAL_AT_CLK. -/
  | calSecondRollover (clk : Nat)
  -- 11_media_health.md
  /-- HOUR_ROLLOVER (R311): At each calendar hour rollover retention ages, the wear governor and health records are updated.
  -/
  | hourRollover
  -- 01_stride_and_time.md
  /-- CAL_SET (R40): A write of 1 to CAL_CTRL.SET requests the calendar be set from CAL_SET at the next commit point. -/
  | calSet
  /-- OSC_STOPPED (R41): No oscillator tick for 8 periods sets OSC_STOPPED, clears VALID and holds the counts. -/
  | oscStopped
  /-- VAON_BOTH_LOST (R41): Loss of both VAON feeds resets the always-on island, emptying key slots and restarting the
  calendar. -/
  | vaonBothLost
  /-- VAON_FEED_RETURN (R41): A VAON feed returns and the island restarts, with calendar counts from 0 at the first tick. -/
  | vaonFeedReturn (feedB : Bool)
  -- 18_pins_power_reset.md
  /-- VAON_ONE_LOST (R518): One VAON feed missing clears its OK bit, sets VAON_LOST and captures VAON_ONE_LOST. -/
  | vaonOneLost (feedB : Bool)
  -- 01_stride_and_time.md
  /-- TEMP_BAND_COUNT (R43): Every 250,000 strides one second is counted into the temperature band of the hottest sensor. -/
  | tempBandCount (q : Int)
  /-- LIFE_SAVE_HOURLY (R45): Every 900,000,000 strides the lifetime counters are saved to the next slot on both boot NOR
  devices. -/
  | lifeSaveHourly
  /-- LIFE_CTRL_SAVE (R45): A write of 1 to LIFE_CTRL.SAVE starts a lifetime save. -/
  | lifeCtrlSave
  /-- LIFE_SAVE_DONE (R45): Both NOR writes of a lifetime save end, SAVE clears and SAVED is set. -/
  | lifeSaveDone (okA okB : Bool)
  -- 00_scope.md
  /-- REGISTER_WRITE (R16): A write to a register field without behaviour of its own acts per its access code. -/
  | registerWrite (t : RegTarget) (v : Word)
  /-- RC_REGISTER_READ (R16): A read of an RC counter returns its value and clears it. -/
  | rcRegisterRead (off : Nat)
  /-- LO_REGISTER_READ (R15): A read of an _LO register latches its _HI half of the same instant. -/
  | loRegisterRead (off : Nat)
  /-- HI_REGISTER_WRITE (R15): A write of _HI makes a writable 64-bit pair take effect as one value. -/
  | hiRegisterWrite (off : Nat) (v : Word)
  -- 02_register_pages.md
  /-- ACCESS_SIZE (R53): An access of unpermitted size or alignment is discarded, reads all ones and captures ACCESS_SIZE.
  -/
  | accessSize (off size : Nat) (write : Option DWord)
  /-- UNMAPPED (R54): A permitted access to no page reads zero, discards writes and captures UNMAPPED. -/
  | unmapped (off : Nat) (write : Bool)
  /-- PG_ENABLE (R62): Writing ENABLE = 1 starts initialisation of an OFF page at the next commit point. -/
  | pgEnable (p : Nat)
  /-- PG_DISABLE (R62): Writing ENABLE = 0 stops dispatch of new chunks in a RUN or DEGRADED page. -/
  | pgDisable (p : Nat)
  /-- PG_SOFT_RESET (R65): A SOFT_RESET write is accepted only while frozen and idle, otherwise discarded with
  WRITE_DISCARDED. -/
  | pgSoftReset (p : Nat)
  /-- PG_FREEZE (R64): Writing FREEZE = 1 stops new chunk dispatch from the next commit point where CAN_FREEZE = 1. -/
  | pgFreeze (p : Nat)
  /-- PG_UNFREEZE (R64): Writing FREEZE = 0 resumes dispatch; FROZEN clears at the following commit point. -/
  | pgUnfreeze (p : Nat)
  -- 00_scope.md
  /-- PG_COMMIT (R18): Writing COMMIT schedules the page's shadowed writes for the next or gated commit point. -/
  | pgCommit (p : Nat)
  -- 02_register_pages.md
  /-- INIT_COMPLETE (R62): A page's initialisation completes and it enters RUN at a commit point. -/
  | initComplete (p : Nat)
  /-- INIT_FAIL (R62): A failed initialisation captures an error and places L3 CONTAIN. -/
  | initFail (p code sub : Nat)
  /-- INIT_TIMEOUT (R62): An initialisation exceeding its bound is handled as a failure. -/
  | initTimeout (p : Nat)
  /-- PAGE_DRAINED (R62): A disabled page whose started work has finished goes OFF. -/
  | pageDrained (p : Nat)
  /-- PG_EVENT_FORCE (R61): A write of 1 to a PG_EVENT_FORCE bit sets the matching PG_EVENT bit only. -/
  | pgEventForce (p : Nat) (m : Word)
  /-- ERR_REARM (R69): Writing 1 to PG_ERR_FIRST.VALID clears the capture and re-arms it. -/
  | errRearm (p : Nat)
  /-- PAGE_PARITY (R57): A register file parity error captures PARITY and places L2 DEGRADE. -/
  | pageParity (p : Nat)
  /-- EVT_ARM (R75): Writing 1 to an EVT_ARM bit re-arms a group; a still-pending group posts again. -/
  | evtArm (m : DWord)
  /-- CHIP_INJ_EN (R76): Writing CHIP_INJ_EN sets injection enable with the magic value or clears it otherwise. -/
  | chipInjEn (v : Word)
  /-- INJECT_ARM (R76): Writing PG_INJECT.ARM arms an injection, or is discarded while injection is disabled. -/
  | injectArm (p : Nat) (w : Word)
  /-- INJECT_DISARM (R76): Writing 0 to PG_INJECT disarms the injection. -/
  | injectDisarm (p : Nat)
  -- 03_host_functions.md
  /-- FN_CREATE (R87): FN_CMD OP CREATE allocates quotas and Weir entry, increments GEN and makes the function ACTIVE. -/
  | fnCreate (gen : Nat)
  /-- FN_RESIZE (R87): FN_CMD OP RESIZE applies new quotas, Weir MIN and MAX and MSI-X count. -/
  | fnResize (gen : Nat)
  /-- FN_RESET (R90): FN_CMD OP RESET starts a function-level reset. -/
  | fnReset (gen : Nat)
  /-- FN_DESTROY (R91): FN_CMD OP DESTROY starts removal of the function. -/
  | fnDestroy (gen : Nat)
  /-- FN_ATTACH (R87): FN_CMD OP ATTACH makes volume FN_VOL visible as namespace FN_NSID. -/
  | fnAttach (gen : Nat)
  /-- FN_DETACH (R87): FN_CMD OP DETACH makes a namespace invisible to commands fetched from the commit point. -/
  | fnDetach (gen : Nat)
  /-- FN_REPLY (R87): FN_CMD OP REPLY copies FN_REPLY into the function's MBOX, sets REPLY and posts its vector. -/
  | fnReply (gen : Nat)
  /-- DETACH_NSID_FREE (R87): Once commands fetched before a DETACH complete, the NSID becomes free. -/
  | detachNsidFree (f nsid : Nat)
  /-- MBOX_WRITE (R83): A function's write to its MBOX is taken, or discarded while RING = 1. -/
  | mboxWrite (f i : Nat) (w : Word)
  /-- MBOX_RING (R83): A write of 1 to MBOX_DB.RING sets the function's MGMT_DB_PEND bit and MGMT_DOORBELL. -/
  | mboxRing (f : Nat)
  /-- MGMT_DB_TAKE (R83): PF0 writing 1 to a MGMT_DB_PEND bit takes the message and clears the function's RING. -/
  | mgmtDbTake (i : Nat) (m : Word)
  /-- PCIE_FLR (R90): A PCIe function-level reset starts a function-level reset of the function. -/
  | pcieFlr (f : Nat)
  /-- NVME_CC_EN_CLEAR (R90): An NVMe CC.EN transition from 1 to 0 starts a function-level reset. -/
  | nvmeCcEnClear (f : Nat)
  /-- FN_RESET_DONE (R90): Once all old-generation non-posted requests end the function returns to ACTIVE and FLR_DONE is
  set. -/
  | fnResetDone (f : Nat)
  /-- SRIOV_NUMVFS_CHANGE (R91): A change of NumVFs or VF Enable exposes VFs as DISABLED or starts removal of dropped
  functions. -/
  | sriovNumvfsChange (n : Nat) (enable : Bool)
  /-- FN_REMOVAL_DONE (R91): After a removed function's last command leaves, quotas return, namespaces detach and REMOVED is
  set. -/
  | fnRemovalDone (f : Nat)
  /-- NVME_SQ_DOORBELL (R82): A host write to an SQ tail doorbell makes new submissions available for fetch. -/
  | nvmeSqDoorbell (f qid tail : Nat)
  /-- NVME_CQ_DOORBELL (R82): A host write to a CQ head doorbell frees completion queue entries. -/
  | nvmeCqDoorbell (f qid head : Nat)
  /-- CMD_FETCH (R88): A command is fetched from a queue and latches its function's generation. -/
  | cmdFetch (src : CmdSrc) (img : CmdImg)
  /-- WEIR_ADMIT (R92): A waiting command is admitted when its function's class balance is at least 1 and its charge
  subtracted. -/
  | weirAdmit (n : Nat) (miss bad : List Nat)
  /-- LQ_ISSUE (R96): A write to LQ_ISSUE issues tags, clearing their DONE bits. -/
  | lqIssue (f : Nat) (m : Word)
  /-- LQ_TAG_WRITE (R96): A write to a tag block of an in-flight tag is discarded and sets TAG_WRITE_DISCARDED. -/
  | lqTagWrite (f t i : Nat) (v : Word)
  /-- LQ_ABORT (R99): LQ_ABORT completes an unadmitted tag with ABORTED_BY_HOST, otherwise has no effect. -/
  | lqAbort (f : Nat) (m : Word)
  /-- LQ_RESET (R99): A write of LQ_CTRL.RESET requests a legacy queue reset at the next commit point. -/
  | lqReset (f : Nat)
  /-- LQ_READ (R98): Legacy opcode 0x01 reads at most 1 MiB to the host. -/
  | lqRead (n : Nat)
  /-- LQ_WRITE (R98): Legacy opcode 0x02 writes at most 1 MiB from the host, with FUA and ATOMIC honoured. -/
  | lqWrite (n : Nat)
  /-- LQ_FLUSH (R98): Legacy opcode 0x03 completes SUCCESS at the next commit point. -/
  | lqFlush (n : Nat)
  /-- LQ_VERIFY (R98): Legacy opcode 0x04 reads and checks every grain. -/
  | lqVerify (n : Nat)
  /-- LQ_DEALLOCATE (R98): Legacy opcode 0x05 deallocates a range. -/
  | lqDeallocate (n : Nat)
  /-- LQ_WRITE_ZEROES (R98): Legacy opcode 0x06 writes zeroes over a range. -/
  | lqWriteZeroes (n : Nat)
  /-- NVME_CREATE_IO_SQ (R101): Creates an I/O submission queue paired with the CQ of its own identifier. -/
  | nvmeCreateIoSq (n : Nat)
  /-- NVME_CREATE_IO_CQ (R102): Creates an I/O completion queue within the function's quota. -/
  | nvmeCreateIoCq (n : Nat)
  /-- NVME_DELETE_IO_SQ (R104): Deletes an SQ, completing unadmitted commands with ABORTED_BY_RESET. -/
  | nvmeDeleteIoSq (n : Nat)
  /-- NVME_DELETE_IO_CQ (R102): Deletes an I/O completion queue. -/
  | nvmeDeleteIoCq (n : Nat)
  /-- NVME_IDENTIFY (R103): Returns controller or namespace identity data including atomicity values. -/
  | nvmeIdentify (n : Nat)
  -- 11_media_health.md
  /-- NVME_GET_LOG_PAGE (R320): Returns a supported log page, such as SMART built from module health records. -/
  | nvmeGetLogPage (n : Nat)
  -- 03_host_functions.md
  /-- NVME_SET_FEATURES (R106): Sets a supported feature; Power Management takes effect at the next commit point. -/
  | nvmeSetFeatures (n : Nat)
  /-- NVME_GET_FEATURES (R102): Returns a supported feature value. -/
  | nvmeGetFeatures (n : Nat)
  /-- NVME_ABORT (R104): Aborts a target command only if the Weir has not admitted it. -/
  | nvmeAbort (n : Nat)
  /-- NVME_ASYNC_EVENT_REQUEST (R102): Posts an Asynchronous Event Request, up to 16 outstanding. -/
  | nvmeAsyncEventRequest (n : Nat)
  -- 08_read_path.md
  /-- NVME_READ (R221): NVMe Read is checked, admitted against Basin slots and served through the read path. -/
  | nvmeRead (n : Nat)
  -- 05_write_path.md
  /-- NVME_WRITE (R141): NVMe Write goes through ingest checks, reduction and the Cistern. -/
  | nvmeWrite (n : Nat)
  -- 03_host_functions.md
  /-- NVME_FLUSH (R103): NVMe Flush completes SUCCESS at the next commit point with no data effect. -/
  | nvmeFlush (n : Nat)
  -- 05_write_path.md
  /-- NVME_WRITE_ZEROES (R143): NVMe Write Zeroes is ingested with no space charge. -/
  | nvmeWriteZeroes (n : Nat)
  /-- NVME_DATASET_MANAGEMENT (R143): NVMe Dataset Management Deallocate is ingested with no space charge. -/
  | nvmeDatasetManagement (n : Nat)
  -- 08_read_path.md
  /-- NVME_VERIFY (R221): NVMe Verify reads and checks grains without Basin slots. -/
  | nvmeVerify (n : Nat)
  -- 03_host_functions.md
  /-- INGEST_TIMEOUT (R108): A command ingest cannot take within 25,000 strides of fetch completes with BUSY_RETRY. -/
  | ingestTimeout (n : Nat)
  /-- PCIE_CPL_TIMEOUT (R84): A DMA read without completion in time ends its command with BUSY_RETRY and captures
  CPL_TIMEOUT. -/
  | pcieCplTimeout (f n : Nat)
  /-- PCIE_POISONED_TLP (R84): A poisoned completion ends its command with BUSY_RETRY and captures POISONED_TLP. -/
  | pciePoisonedTlp (f n : Nat)
  /-- PCIE_LINK_UP (R84): The PCIe link becomes active and LINK_UP is set. -/
  | pcieLinkUp (speed width : Nat)
  /-- PCIE_LINK_DOWN (R84): Loss of DL_ACTIVE with PERST_N high is handled as a PERST_N assertion. -/
  | pcieLinkDown
  /-- PCIE_SPEED_CHANGE (R84): A change of trained speed or width sets SPEED_CHANGED and may capture TRAINED_DOWN. -/
  | pcieSpeedChange (speed width : Nat)
  -- 04_network_and_rdma.md
  /-- FABRICS_CONNECT (R133): Fabrics Connect creates a controller association on a queue pair. -/
  | fabricsConnect (n ctrl qid sqsize kato : Nat) (ns : List NsAtt)
  /-- FABRICS_PROPERTY_GET (R133): Fabrics Property Get returns a controller property. -/
  | fabricsPropertyGet (n off : Nat)
  /-- FABRICS_PROPERTY_SET (R133): Fabrics Property Set writes a controller property. -/
  | fabricsPropertySet (n off value : Nat)
  /-- FABRICS_DISCONNECT (R133): Fabrics Disconnect ends a queue pair's association. -/
  | fabricsDisconnect (n : Nat)
  /-- NVMEOF_CAPSULE_RX (R134): A command capsule lands in the port's receive pool, or is RNR NAKed when the pool is empty.
  -/
  | nvmeofCapsuleRx (lport qpn : Nat) (p : Packet) (c : Capsule)
  /-- KATO_EXPIRED (R133): Keep-alive expiry moves every queue pair of the controller to Error and posts KATO_EXPIRED. -/
  | katoExpired (ctrl : Nat)
  /-- ETH_MODE_WRITE (R111): A write of ETH_MODE.SPLIT is accepted only while the page is OFF. -/
  | ethModeWrite (n : Nat) (v : Word)
  /-- ETH_LINK_DOWN (R113): PCS alignment lost for 25 strides declares the link down and posts PORT_DOWN. -/
  | ethLinkDown (lport : Nat)
  /-- ETH_LINK_UP (R113): 250 strides of alignment declare the link up and post PORT_UP. -/
  | ethLinkUp (lport : Nat)
  /-- FEC_DEGRADE (R113): Uncorrectable FEC codewords above the limit in 1 s set FEC_DEGRADE and place L2. -/
  | fecDegrade (lport lane count : Nat)
  /-- PFC_STORM (R113): A priority paused for 25,000 strides sets PFC_STORM. -/
  | pfcStorm (lport : Nat)
  /-- ETH_FRAME_RX (R112): A received frame is taken as RoCEv2 or dropped and counted in ETH_RX_OTHER. -/
  | ethFrameRx (lport : Nat) (f : EthFrame) (len corrected : Nat)
  /-- ROCE_REQUEST_RX (R125): A RoCEv2 request packet is handled under the duplicate-write window rule. -/
  | roceRequestRx (lport qpn : Nat) (p : Packet)
  /-- CNP_RX (R115): A received CNP lowers the queue pair's sending rate. -/
  | cnpRx (qpn : Nat)
  /-- CNP_RATE_RESTORE (R115): While no CNP arrives the queue pair's rate is restored in steps. -/
  | cnpRateRestore (qpn : Nat)
  /-- CONTEXT_FETCH_DONE (R121): A context fetch installs the entry and its parked packets are processed in arrival order.
  -/
  | contextFetchDone (qpn : Nat) (ue : Option Nat)
  /-- CONTEXT_WRITEBACK_DONE (R122): A context write-back completes and waiting packets trigger a new fetch. -/
  | contextWritebackDone (qpn : Nat)
  /-- ROCE_ACK_RX (R119): An acknowledgement or read response for a requester operation is received. -/
  | roceAckRx (qpn psn : Nat)
  /-- ROCE_NAK_RX (R140): A received RNR, sequence or remote-error NAK drives retry or posts QP_REMOTE_ERROR. -/
  | roceNakRx (qpn psn : Nat) (kind : NakKind)
  /-- TRANSPORT_ACK_TIMEOUT (R115): A requester's acknowledgement timer expires and it resends from the first unacknowledged
  PSN. -/
  | transportAckTimeout (qpn : Nat)
  /-- QP_CREATE (R130): RMA OP QP_CREATE creates a queue pair from the argument block. -/
  | qpCreate (qpn : Nat)
  /-- QP_MODIFY (R130): RMA OP QP_MODIFY changes state, PSNs, timers and retry counts. -/
  | qpModify
  /-- QP_DESTROY (R124): RMA OP QP_DESTROY destroys a queue pair, discarding its parked packets. -/
  | qpDestroy
  /-- QP_DESTROY_DONE (R124): A destroy completes once its parked packets have left the miss buffer. -/
  | qpDestroyDone
  /-- MR_REG (R127): RMA OP MR_REG registers and pins a memory region and returns its key. -/
  | mrReg (index : Nat)
  /-- MR_INVAL (R128): RMA OP MR_INVAL increments a region's key byte at the next commit point. -/
  | mrInval
  /-- MR_DEREG (R128): RMA OP MR_DEREG deregisters a region and then unpins it. -/
  | mrDereg
  /-- MR_PLACEMENT_DRAINED (R128): MR_INVAL or MR_DEREG completes once every packet matching the old key is placed. -/
  | mrPlacementDrained
  /-- QP1_DATAGRAM_RX (R131): A QP1 datagram is written to the receive ring or dropped and posted as GSI_OVERRUN. -/
  | qp1DatagramRx (d : Datagram) (bad : List Nat)
  /-- GSI_TX_PROD_WRITE (R131): Software advancing GSI_TX_PROD offers transmit entries for sending. -/
  | gsiTxProdWrite (v : Nat)
  /-- GSI_TX_SEND (R131): A transmit entry is sent as a UD Send Only, or skipped and counted in GSI_TX_BAD. -/
  | gsiTxSend (e : TxEntry)
  /-- GSI_TX_PACKET_LEFT (R131): A transmit packet leaves the port, GSI_TX_CONS advances and GSI_TX_DONE may be set. -/
  | gsiTxPacketLeft (i : Nat)
  /-- SEAL_RX (R138): A received seal is delivered once CHECK is valid and every member HCP reaches LAST_PSN. -/
  | sealRx (lport qpn psn : Nat) (image : List Byte)
  /-- SEAL_TIMEOUT (R138): A seal undelivered after 2,500 strides is NAKed and SEAL_FAILED posted. -/
  | sealTimeout (qpn : Nat)
  -- 05_write_path.md
  /-- RANGE_LOCK_GRANT (R146): A part whose range no held lock overlaps takes a lock, a CSEQ and issues its data fetch. -/
  | rangeLockGrant (n loc : Nat) (miss bad : List Nat)
  /-- DATA_ARRIVE (R157): Host data of a part arrives and is checked, digested, compressed and searched in the hot tier. -/
  | dataArrive (cseq : Nat) (data : List Byte) (pi : List (Nat × Nat × Nat)) (after unit bad : Nat) (units : List Nat)
  /-- ENTRY_SEAL (R149): A reduced entry is written whole to the own half ring once it has room. -/
  | entrySeal (cseq : Nat)
  /-- TL_MIRROR_WRITE (R152): A received MIRROR_WRITE is CRC-checked, written to the mirror half and answered ACK or NAK. -/
  | tlMirrorWrite (off : Nat) (image : List Byte)
  /-- TL_MIRROR_ACK (R152): A received MIRROR_ACK moves the lock to COMMITTED. -/
  | tlMirrorAck (cseq : Nat)
  /-- TL_MIRROR_NAK (R152): A received MIRROR_NAK makes the owner send the entry again. -/
  | tlMirrorNak (cseq : Nat)
  /-- TL_MIRROR_RELEASE (R152): A received MIRROR_RELEASE marks mirror entries RELEASED and frees their granules. -/
  | tlMirrorRelease (cseqs : List Nat)
  /-- MIRROR_TIMEOUT (R153): No MIRROR_ACK in 64 strides resends the entry once, places L1 and clears MIRROR_UP. -/
  | mirrorTimeout (cseq : Nat)
  /-- FUA_PAD_TIMEOUT (R155): An open stripe with a FUA grain not full within CIST_FUA_MAX_WAIT is closed with pad. -/
  | fuaPadTimeout (stripe : Nat)
  /-- DESTAGE_ENTRY (R160): Destage takes a COMMITTED entry in CSEQ order, packs its grains into stripes and builds its map
  transaction. -/
  | destageEntry (cseq : Nat) (own mir : List (Nat × Nat)) (bad : List (Nat × Bool)) (after : Nat) (places : List (List Place))
  /-- SPILLWAY_START (R162): Both feeds failed for 2 strides, or an L5, starts the Spillway: admission stops and nothing
  more completes. -/
  | spillwayStart
  /-- SPILL_QUIESCED (R165): Outstanding programs are collected, erases abandoned, and the image programming begins. -/
  | spillQuiesced
  /-- SPILL_IMAGE_DONE (R165): The Cistern image is programmed and the spill directory is written twice. -/
  | spillImageDone (dirOk : Bool)
  /-- SPILL_DONE (R165): After studbook flush and lifetime save SPILL_DONE is set and the duration recorded. -/
  | spillDone
  /-- SPILL_RETURN (R167): Both feeds present for 1 s after a Spillway reset the chip as at power-on. -/
  | spillReturn
  /-- SPILL_LOSS_ACK (R168): A write of SPILL_LOSS_ACK clears SPILL_LOSS and releases admission. -/
  | spillLossAck
  -- 06_associative_search.md
  /-- CAM_READ (R188): CAM OP READ returns an entry's key, state and result word. -/
  | camRead (n : Nat) (bad : Bool)
  /-- CAM_INVALIDATE (R177): CAM OP INVALIDATE removes an entry from searches or cancels a validation. -/
  | camInvalidate (n : Nat)
  /-- CAM_WRITE (R177): CAM OP WRITE loads an EMPTY entry, or is refused with WRITE_VALID. -/
  | camWrite (n : Nat)
  /-- CAM_VALIDATE (R177): CAM OP VALIDATE moves an EMPTY entry to PENDING. -/
  | camValidate (n : Nat)
  /-- CAM_SEARCH (R180): CAM OP SEARCH returns the winning entry, MULTI and COUNT. -/
  | camSearch (n : Nat) (incl : Bool) (maskSet : Nat) (bad : List Nat)
  /-- CAM_MSEARCH (R180): CAM OP MSEARCH returns up to 8 matches in winning order after a resume position. -/
  | camMsearch (n : Nat) (incl : Bool) (maskSet : Nat) (bad : List Nat)
  /-- CAM_UPDATE_RESULT (R179): CAM OP UPDATE_RESULT rewrites the result word of a PENDING or VALID entry. -/
  | camUpdateResult (n : Nat)
  /-- CAM_SCRUB (R184): Scrub reads find a unit with bad parity and its user repairs or invalidates it. -/
  | camScrub (bank u : Nat)
  -- 07_reduction.md
  /-- PROBE_ANSWER (R201): A DRAM tier probe answers HIT, TWIN or MISS into the destage queue. -/
  | probeAnswer (cseq index : Nat) (errs : List (Nat × Nat))
  /-- PROBE_DEADLINE (R202): A probe unanswered at its deadline lets destage treat the grain as MISS. -/
  | probeDeadline (cseq index : Nat)
  /-- HOT_TIER_SWEEP (R206): A sweep invalidates hot entries that point into segments on the reclaim list. -/
  | hotTierSweep
  /-- DEDUP_MERGE_STEP (R208): Deferred merging takes merge log records and merges them into the flash tier. -/
  | dedupMergeStep (pool : Nat)
  -- 08_read_path.md
  /-- BASIN_WAIT_TIMEOUT (R222): A Read not admitted for Basin slots within 25,000 strides completes with BUSY_RETRY. -/
  | basinWaitTimeout (n : Nat)
  /-- CISTERN_HIT_READ (R225): A chosen Cistern entry is read, decompressed and checked for the read. -/
  | cisternHitRead (n i unit : Nat) (own mir : List (Nat × List (Nat × Nat)))
  /-- MAP_LOOKUP (R226): A grain's map entry is looked up in cache, DRAM or flash. -/
  | mapLookup (n i : Nat) (lines : List (Nat × Nat × Nat)) (page : Option Nat)
  /-- DIE_CHOICE (R229): At the issue chunk a read chooses direct, read-around, suspend or wait. -/
  | dieChoice (n i : Nat)
  /-- MEDIA_READ_COLLECT (R230): A flash read response is collected and decoded, checked and staged. -/
  | mediaReadCollect (n i unit : Nat) (errs : List (Nat × Nat))
  /-- GRAIN_RECOVERY (R232): A grain that fails decode or check is rebuilt from copies or parity in the next stride. -/
  | grainRecovery (n i unit : Nat) (errs : List (Nat × Nat)) (places : List (List Place))
  /-- BASIN_SLOT_FREE (R222): A Basin slot is freed when its posted writes issue or its RDMA Write is acknowledged. -/
  | basinSlotFree (k : Nat)
  -- 09_module_link.md
  /-- LANE_FAILING (R238): A receiver declares an active lane failing and sends SWAP_REQ. -/
  | laneFailing (k : LinkEnd) (lane errors : Nat) (lockLost : Bool)
  /-- SWAP_REQ_RX (R238): A received SWAP_REQ makes the transmitter send SWAP twice and stripe around the lane. -/
  | swapReqRx (k : LinkEnd) (lane : Nat)
  /-- SWAP_ORDERED_SET_RX (R239): A valid SWAP ordered set switches the receiver's lane map. -/
  | swapOrderedSetRx (k : LinkEnd) (fail spare nfail nspare count : Nat)
  /-- MLK_FORCE_SWAP (R238): A write of MLK_FORCE_SWAP.GO forces a lane swap. -/
  | mlkForceSwap (n lane : Nat) (receive : Bool)
  /-- FLIT_RX (R242): A received flit is accepted or NAKed, and its ACK and CREDIT are taken. -/
  | flitRx (k : LinkEnd) (f : Flit)
  /-- REPLAY_TIMEOUT (R242): The oldest unacknowledged flit waiting past the replay timeout starts a replay. -/
  | replayTimeout (k : LinkEnd)
  /-- ACK_TIMER (R242): While flits are unacknowledged an acknowledgement is sent at least every interval. -/
  | ackTimer (k : LinkEnd)
  /-- INIT_MSG_RX (R243): An INIT control message sets credits and identifies the far end. -/
  | initMsgRx (k : LinkEnd) (x : InitMsg)
  /-- WIDTH_MSG_RX (R243): A WIDTH control message gives the active width and lane map. -/
  | widthMsgRx (k : LinkEnd) (width : Nat) (map : List Nat)
  /-- MODULE_RESPONSE_RX (R246): A final module response is received and completes its tag. -/
  | moduleResponseRx (port tag : Nat) (r : ModResp)
  /-- MODULE_INTERIM_RESPONSE (R247): A PHASE 1 response gives the expected duration of a started program or erase. -/
  | moduleInterimResponse (port tag : Nat) (r : ModResp)
  /-- MODULE_ALERT_RX (R258): An ALERT packet sets ALERT and captures MODULE_ALERT. -/
  | moduleAlertRx (n info : Nat)
  /-- TELEMETRY_POLL (R258): Every 250,000 strides module telemetry is read into MLK_TELEM. -/
  | telemetryPoll (n : Nat)
  /-- MLK_TRAIN (R259): Setting MLK_CTRL.TRAIN with a module present starts training. -/
  | mlkTrain (n : Nat)
  /-- BLOCK_LOCK (R259): Block lock on at least 2 lanes moves the link to INIT and sends IDENTIFY and EPOCH_QUERY. -/
  | blockLock (k : LinkEnd) (lanes : List Nat) (speed : Nat)
  /-- TRAIN_TIMEOUT (R259): No lock within 25,000 strides returns the link to DOWN. -/
  | trainTimeout (k : LinkEnd)
  /-- LINK_INIT_TIMEOUT (R259): No identity answer within 250 strides captures IDENTITY_MISMATCH and goes DOWN. -/
  | linkInitTimeout (k : LinkEnd)
  /-- RECOVERY_RETRAINED (R259): A link retrained within 250 strides returns to ACTIVE and resumes replay. -/
  | recoveryRetrained (k : LinkEnd) (lanes : List Nat)
  /-- RECOVERY_TIMEOUT (R259): A link not retrained in time, or a third RECOVERY in 1 s, goes DOWN. -/
  | recoveryTimeout (k : LinkEnd)
  /-- MODULE_ABSENT (R259): Module absence on sideband or TRAIN = 0 holds the link DOWN in electrical idle. -/
  | moduleAbsent (n : Nat)
  -- 18_pins_power_reset.md
  /-- MOD_PRSNT_CHANGE (R528): A change of MOD_PRSNT_N sets MOD_PRSNT_CHANGED. -/
  | modPrsntChange (n : Nat) (present : Bool)
  -- 10_flash_translation.md
  /-- JOURNAL_PROGRAM (R272): A full or aged journal page set is programmed to every band copy. -/
  | journalProgram (pool : Nat)
  /-- CHECKPOINT (R273): A checkpoint writes dirty objects and a pool root and frees journal space. -/
  | checkpoint (pool : Nat) (band : Option BandCopy) (places : List (List Place))
  /-- RECLAIM_SELECT (R284): Reclaim selects the CLOSED segment of highest score, or a LIVE 0 or REFRESH segment first. -/
  | reclaimSelect (pool : Nat)
  /-- RECLAIM_MOVE (R285): Reclaim copies live grains of a selected segment and issues relocation records. -/
  | reclaimMove (pool seg n : Nat) (lost : List Nat) (places : List (List Place))
  /-- SEGMENT_ERASE (R286): A SELECTED segment meeting the erase conditions moves to ERASING and is erased. -/
  | segmentErase (seg : Nat)
  /-- VOL_CREATE (R298): FTL OP VOL_CREATE creates a volume owned by this head. -/
  | volCreate
  /-- VOL_DELETE (R290): FTL OP VOL_DELETE deletes a volume as maintenance activity SNAP_DELETE. -/
  | volDelete
  /-- VOL_RESIZE (R298): FTL OP VOL_RESIZE changes a volume's size, deallocating beyond a smaller size. -/
  | volResize
  /-- SNAP_CREATE (R288): FTL OP SNAP_CREATE schedules a snapshot or clone at stride T or refuses a late T. -/
  | snapCreate
  /-- SNAP_DELETE (R290): FTL OP SNAP_DELETE deletes a snapshot or clone. -/
  | snapDelete
  /-- RO_RESUME (R292): FTL OP RO_RESUME leaves READ_ONLY when a spare die is available. -/
  | roResume
  /-- SNAP_CUT (R288): At commit point T the owning head records CUT, the first CSEQ it will assign. -/
  | snapCut (target : Nat)
  /-- SNAP_CREATE_RECORD (R288): After entries below CUT are destaged the SNAP_CREATE record is written. -/
  | snapCreateRecord (target : Nat)
  /-- SNAP_DELETE_STEP (R290): Deletion visits pages reaching SHARE 0 in SNAP_STEP records. -/
  | snapDeleteStep (v : Nat)
  -- 11_media_health.md
  /-- CAL_UPDATE (R304): Each die and bin is examined per CAL_INTERVAL and offsets moved by one step. -/
  | calUpdate (m d bin bgrp : Nat)
  /-- PATROL_PASS_START (R308): A Patrol pass starts and COVER and COVERED clear. -/
  | patrolPassStart
  /-- PATROL_PACE (R309): Every 250,000 strides the Patrol recomputes its rate from page sets left. -/
  | patrolPace
  /-- PATROL_PASS_END (R309): A pass ends; if late, PAT_LATE counts and unread groups carry over. -/
  | patrolPassEnd
  /-- PAT_RESTART (R326): A write of PAT_CTRL.RESTART starts a new pass at the next commit point. -/
  | patRestart
  /-- HL_REC_LATCH (R327): Reading HL_REC at 0x100 latches the whole health record. -/
  | hlRecLatch
  -- 12_stripe_redundancy.md
  /-- MEMBER_FAIL (R338): A module down for the grace, refusing identity or removed becomes a failed member and the pool
  DEGRADED. -/
  | memberFail (port : Nat) (band : Option BandCopy)
  /-- REBUILD_HOLDOFF_END (R345): Relocation without substitute starts SP_REB_HOLDOFF seconds after the failure. -/
  | rebuildHoldoffEnd (pool : Nat)
  /-- REBUILD_STRIPE (R349): Rebuild spends credit to reconstruct or relocate the next stripe. -/
  | rebuildStripe (pool : Nat) (lost rewrite : List Nat) (withQ : Bool) (places : List (List Place))
  /-- LOSS_RESOLVE_WALK (R354): A background walk fills in VOL_GRAIN of loss list entries. -/
  | lossResolveWalk (pool index : Nat)
  /-- POOL_CREATE (R359): SP OP POOL_CREATE defines a pool with bands and anchors. -/
  | poolCreate (bands : List BandCopy) (differs : Bool)
  /-- POOL_DELETE (R359): SP OP POOL_DELETE erases and releases a pool with no volume. -/
  | poolDelete (differs : Bool)
  /-- RESHAPE (R356): SP OP RESHAPE starts changing a pool's layout, N or modules. -/
  | reshape (differs : Bool)
  /-- SPARE_SET (R359): SP OP SPARE_SET sets or clears a pool's hot spare. -/
  | spareSet
  /-- READMIT (R352): SP OP READMIT clears the failure of a returned unchanged module. -/
  | readmit
  /-- REBUILD_NOW (R345): SP OP REBUILD_NOW ends a running holdoff. -/
  | rebuildNow
  /-- LOSS_CLEAR (R354): SP OP LOSS_CLEAR removes CLEARED loss list entries. -/
  | lossClear
  /-- RESHAPE_MIGRATE_STEP (R356): Old-layout segments are relocated at SP_RESHAPE_RATE grains per stride. -/
  | reshapeMigrateStep (pool : Nat) (lost : List Nat) (places : List (List Place))
  /-- RESHAPE_PHASE_END (R356): A reshape phase ends and the next begins, ending in RESHAPE_DONE. -/
  | reshapePhaseEnd (pool : Nat) (bands : List BandCopy)
  /-- SP_LOSS_DATA_LATCH (R358): Reading SP_LOSS_DATA at 0x140 latches the selected loss entry. -/
  | spLossDataLatch
  -- 13_tandem_operation.md
  /-- REIN_BEAT_RX (R370): A beat received on a rein is validated by MAC, head, rein and BSEQ. -/
  | reinBeatRx (rein : Nat) (beat : List Byte) (ago : Nat)
  /-- REIN_SILENT (R373): A rein with no valid beat for 512 strides is silent, driving REIN_DOWN or role changes. -/
  | reinSilent (rein : Nat)
  /-- HEAD_OK_IN_CHANGE (R370): A change of HEAD_OK_IN sets HEAD_OK_IN_CHANGED and feeds role decisions. -/
  | headOkInChange (high : Bool)
  /-- FENCE_IN_HIGH (R372): FENCE_IN high for 8 reference periods places L4 FENCE_IN, or holds INIT. -/
  | fenceInHigh
  /-- TL_RESYNC_DATA (R386): A received RESYNC_DATA entry is written to the mirror half. -/
  | tlResyncData (off : Nat) (image : List Byte)
  /-- TL_RESYNC_DONE (R386): A received RESYNC_DONE names the last entry sent in resynchronisation. -/
  | tlResyncDone (_last : Nat)
  /-- TL_FWD_CMD (R382): A forwarded command is ingested by the owner and answered FWD_ACCEPT or FWD_CPL. -/
  | tlFwdCmd (id : Nat) (img : CmdImg) (fn queue vol : Nat)
  /-- TL_FWD_ACCEPT (R382): FWD_ACCEPT tells the receiving head the owner took the command. -/
  | tlFwdAccept (id : Nat)
  /-- TL_FWD_DATA (R382): Forwarded data records deliver write data to the owner or read data to the receiver. -/
  | tlFwdData (id index mask : Nat) (data : List Byte) (pi : List (Nat × Nat × Nat)) (after unit bad : Nat) (units : List Nat)
  /-- TL_FWD_CPL (R382): FWD_CPL gives the status the receiving head posts. -/
  | tlFwdCpl (id status tsn : Nat)
  /-- TL_REF_DELTA (R367): Reference-count changes for this head's paddock are applied in the next map transaction. -/
  | tlRefDelta (changes : List RefDelta)
  /-- TL_REF_ACK (R367): REF_ACK confirms durable application of reference changes. -/
  | tlRefAck (tseq : Nat)
  -- 12_stripe_redundancy.md
  /-- TL_SUBST (R347): A substitution record copies the partner's module substitution. -/
  | tlSubst (pool paddock module port serial : Nat)
  -- 13_tandem_operation.md
  /-- TL_CLOSED (R394): The partner's CLOSED for a batch stride is received. -/
  | tlClosed (batch : Nat)
  /-- TL_TRANSFER (R387): A TRANSFER record gives the taker new epochs and roots and it takes the paddock. -/
  | tlTransfer (paddock : Nat) (epochs roots : List Nat) (data : PaddockData)
  /-- TL_LEAVE (R388): A LEAVE record announces the partner's departure after handover. -/
  | tlLeave
  /-- TL_LINK_DOWN_SPLIT (R378): Torlux link down for 25,000 strides with Rein B alive splits the link and one head fences.
  -/
  | tlLinkDownSplit
  /-- JOIN_TANDEM (R374): An INIT head meeting the join conditions goes TANDEM and drives HEAD_OK high. -/
  | joinTandem (vols : Amap Vol)
  /-- JOIN_STANDBY (R374): An INIT head finding both paddocks held by the partner goes STANDBY. -/
  | joinStandby (vols : Amap Vol)
  /-- JOIN_WAIT_TIMEOUT (R374): Both reins silent for TD_JOIN_WAIT with HEAD_OK_IN low makes an INIT head take over. -/
  | joinWaitTimeout
  /-- ARB_TIE_WAIT (R377): After a tie head 0 takes over once HEAD_OK_IN reads low within 250 strides. -/
  | arbTieWait
  /-- RAISE_TIMEOUT (R376): A module not answering a raise in 2 strides counts as not granted and RAISE_TIMEOUT is captured.
  -/
  | raiseTimeout (q port : Nat)
  /-- RAISE_RETRY (R376): A raise not granted is sent again every 250 strides. -/
  | raiseRetry (q port : Nat)
  /-- FENCE_HEAD (R379): An L4 drives HEAD_OK low, stops sync, beats and module commands. -/
  | fenceHead (page code sub : Nat)
  /-- TAKEOVER (R380): The survivor asserts FENCE_OUT and raises the lost paddock at every module. -/
  | takeover
  /-- TAKEOVER_DONE (R380): Recovery ending admits the lost head's volumes and sets TAKEOVER_DONE. -/
  | takeoverDone (data : PaddockData)
  /-- FENCE_OUT_RELEASE (R372): FENCE_OUT drops after TAKEOVER_DONE and HEAD_OK_IN low for 2 strides. -/
  | fenceOutRelease
  /-- FWD_LINK_DOWN_TIMEOUT (R383): A forwarded command without FWD_CPL 250 strides after link down completes BUSY_RETRY. -/
  | fwdLinkDownTimeout (id : Nat)
  /-- SWITCH_BACK (R387): TD OP SWITCH_BACK starts a transfer returning the standby head's paddock. -/
  | switchBack
  /-- HANDOVER (R387): TD OP HANDOVER starts a transfer of this head's paddock to the partner. -/
  | handover
  /-- TWIN_SET (R384): TD OP TWIN_SET pairs a local and partner queue pair for tandem completion. -/
  | twinSet
  /-- TWIN_CLEAR (R384): TD OP TWIN_CLEAR removes a twin pairing. -/
  | twinClear
  /-- SELF_FENCE (R399): TD OP SELF_FENCE places L4 SELF_FENCE on this head. -/
  | selfFence
  /-- TD_CMD_INVALID (R399): A TD_CMD with an unlisted OP is refused at once with INVALID_FIELD. -/
  | tdCmdInvalid
  /-- TRANSFER_DRAIN_END (R387): Fewer than 64 entries of moving volumes remain and admission of them is held. -/
  | transferDrainEnd
  /-- TRANSFER_HOLD_END (R387): No entry of moving volumes remains and checkpoints begin. -/
  | transferHoldEnd
  /-- TRANSFER_CHECKPOINT_END (R387): Both roots are written and the epoch raise with TO_OTHER is sent. -/
  | transferCheckpointEnd
  /-- TRANSFER_ABORT (R388): Hold and checkpoint passing TD_HOLD_MAX before a raise aborts the transfer. -/
  | transferAbort
  /-- TANDEM_CPL_POST (R384): The non-receiving head posts a twin completion once the write is in its Cistern. -/
  | tandemCplPost (qpn cid tsn : Nat)
  /-- SYNC_ACK_RX (R392): A SYNC_ACK for a replication record allows the write to be acknowledged and released. -/
  | syncAckRx (group rseq : Nat)
  /-- SYNC_TIMEOUT (R393): No SYNC_ACK within RP_SYNC_TMO suspends the group. -/
  | syncTimeout (group : Nat)
  /-- BATCH_BOUNDARY (R394): A stride B with B mod RP_BATCH = 0 closes an asynchronous batch. -/
  | batchBoundary (group : Nat)
  /-- CLOSED_SEND (R394): CLOSED for B is sent once every own part admitted before B is COMMITTED or discarded. -/
  | closedSend (batch : Nat)
  /-- SEAL_SEND (R394): The seal of batch B is sent once CLOSED, partner CLOSED, records and previous seal hold. -/
  | sealSend (group batch : Nat)
  /-- STAGED_RX (R391): A remote STAGED for a batch allows its entries to be released. -/
  | stagedRx (group batch : Nat)
  /-- APPLIED_RX (R396): A remote APPLIED updates the last applied batch and lag. -/
  | appliedRx (group batch : Nat)
  /-- REPL_RECORD_RX (R392): As remote, a SYNC record is admitted as a part and answered SYNC_ACK when committed. -/
  | replRecordRx (image : List Byte) (loc : Nat)
  /-- BATCH_APPLY (R395): Staged entries are applied in order and APPLIED sent when the last is released. -/
  | batchApply (group loc : Nat)
  /-- GROUP_CREATE (R389): RP OP GROUP_CREATE creates a replication group, with optional initial copy. -/
  | groupCreate
  /-- GROUP_DELETE (R389): RP OP GROUP_DELETE deletes a replication group. -/
  | groupDelete
  /-- VOL_ADD (R400): RP OP VOL_ADD adds a volume pair to a group. -/
  | volAdd
  /-- VOL_REMOVE (R400): RP OP VOL_REMOVE removes a volume pair from a group. -/
  | volRemove
  /-- REPL_SUSPEND (R393): RP OP SUSPEND suspends a group. -/
  | replSuspend
  /-- REPL_RESUME (R393): RP OP RESUME resends marked ranges as resync records and returns the group to ACTIVE. -/
  | replResume
  /-- REPL_PROMOTE (R396): RP OP PROMOTE applies staged batches, discards unstaged ones and makes volumes writable. -/
  | replPromote
  -- 14_memory_system.md
  /-- DRAM_READ_RETURN (R415): A DRAM read returns with its ECC result. -/
  | dramReadReturn (ch ns : Nat) (arrived : List DramReq) (ecc sub dev : Nat) (whole fails : Bool)
  /-- CA_PARITY_ERROR (R415): An RCD command/address parity error is retried once and captured. -/
  | caParityError (ch addr rank : Nat) (again : Bool) (use : DramUse) (fails : Bool)
  /-- SAME_BANK_REFRESH (R408): A bank is refreshed at tREFI, postponed within JEDEC limits. -/
  | sameBankRefresh (ch rank bank : Nat)
  /-- NEIGHBOUR_REFRESH (R409): A sampled activate causes DRFM or RFMsb to its bank within 16 activates. -/
  | neighbourRefresh (ch : Nat)
  /-- RFM_REQUEST (R409): A refresh-management request from the DIMM counters is honoured. -/
  | rfmRequest (ch : Nat)
  /-- DC_FREQ_GO (R411): A DC_FREQ_CMD.GO write starts a frequency change or retrain, or is refused. -/
  | dcFreqGo (ch speed : Nat) (all : Bool)
  /-- FREQ_CHANGE_DONE (R411): At g + 8 the new timing set becomes active, held requests issue and FREQ_DONE is set. -/
  | freqChangeDone (ch : Nat) (ok : Bool)
  /-- DRIFT_EXAMINE (R413): Every DRIFT_INT strides strobe delays move by one step per early/late counts. -/
  | driftExamine (ch : Nat) (counts : List (Nat × Nat × Nat × Nat))
  /-- WRITE_TIMING_TRACK (R413): Every 250,000 strides write timing is tracked with the DQS oscillator. -/
  | writeTimingTrack (ch steps : Nat)
  /-- SCRUB_READ (R417): A scrub read and corrective write of one address, capturing uncorrectable errors. -/
  | scrubRead (ch addr : Nat) (loc : Nat × Nat × Nat × Nat × Nat) (corrected whole uncorrectable : Bool) (progress : Nat) (passEnd : Bool)
  /-- PPR_REPAIR (R418): A row with 4 corrected errors on one device is repaired by soft PPR. -/
  | pprRepair (ch rank bank row : Nat)
  /-- RANK_SPARE_START (R419): A sparing candidate captures SPARE_TRIGGER and copying to the spare rank starts. -/
  | rankSpareStart (ch rank : Nat)
  /-- RANK_SPARE_SWITCH (R419): After the copy the spare serves the rank, SPARED is set and a record written. -/
  | rankSpareSwitch (ch : Nat)
  /-- MCACHE_ACCESS (R421): A metadata access is served from a VALID sector or misses and allocates or merges a miss
  register. -/
  | mcacheAccess (line mask : Nat) (write whole : Bool) (ecc : Nat)
  /-- MCACHE_FILL_DONE (R422): All sectors of a miss register arrive and its items are served in order. -/
  | mcacheFillDone (line : Nat) (poisoned : Bool)
  /-- MC_CLEAN (R424): MC OP CLEAN writes DIRTY sectors of a range to DRAM. -/
  | mcClean (inside : Bool)
  /-- MC_FLUSH (R424): MC OP FLUSH cleans and removes the lines of a range. -/
  | mcFlush (inside : Bool)
  /-- MC_INVALIDATE (R424): MC OP INVALIDATE from software is refused and captures SW_INVALIDATE. -/
  | mcInvalidate
  /-- MC_CLEAN_ALL (R424): MC OP CLEAN_ALL cleans every line within 250 strides. -/
  | mcCleanAll
  /-- MC_OP_DONE (R424): A maintenance operation completes when its last DRAM write completes. -/
  | mcOpDone
  /-- OBJECT_REBUILD (R426): A metadata object with an uncorrectable sector is rebuilt from flash and journal. -/
  | objectRebuild (line : Nat) (ok : Bool)
  -- 15_digest_and_keys.md
  /-- KDE_CLAIM (R432): A KDE_CLAIM with CLAIM makes the claimant owner or records it as waiter. -/
  | kdeClaim (path id : Nat)
  /-- KDE_RELEASE (R433): A KDE_CLAIM with RELEASE passes ownership to the waiter or frees the engine. -/
  | kdeRelease (path id : Nat)
  /-- KDE_IDLE_TIMEOUT (R433): An owner idle for KDE_IDLE_MAX strides is abandoned and IDLE_RELEASED set. -/
  | kdeIdleTimeout
  /-- KDE_START (R435): KDE_CTRL.START latches the mode and begins a session, with key checks for HMAC. -/
  | kdeStart (path : Nat)
  /-- KDE_FINISH (R437): KDE_CTRL.FINISH pads and completes the digest, HMAC outer pass and comparison. -/
  | kdeFinish (path : Nat)
  /-- KDE_ABORT (R435): KDE_CTRL.ABORT ends the session with RESULT 0b00. -/
  | kdeAbort (path : Nat)
  /-- KDE_DATA (R436): A KDE_DATA write feeds 4 message bytes or is lost while BUSY. -/
  | kdeData (path : Nat) (w : Word)
  /-- KDE_BLOCK_DONE (R436): Compression of a block ends and BUSY clears. -/
  | kdeBlockDone
  /-- KDE_FINISH_DONE (R437): The digest and comparison are ready, DONE is set and ACTIVE cleared. -/
  | kdeFinishDone
  /-- KDE_EXPECT_WRITE (R444): A write to KDE_EXPECT stores the expected value and resets RESULT to 0b00. -/
  | kdeExpectWrite (path i : Nat) (w : Word)
  /-- KDE_CTX_SUSPEND (R442): KDE_CTX_CMD SUSPEND parks the session in a context and passes ownership. -/
  | kdeCtxSuspend (path n : Nat)
  /-- KDE_CTX_RESUME (R443): KDE_CTX_CMD RESUME restores a saved session for its own ID. -/
  | kdeCtxResume (path n : Nat)
  /-- KDE_CTX_DISCARD (R443): KDE_CTX_CMD DISCARD frees a context of the caller's ID. -/
  | kdeCtxDiscard (path n : Nat)
  /-- KDE_CTX_EXPIRED (R443): A context not resumed within KDE_IDLE_MAX is discarded and CTX_EXPIRED set. -/
  | kdeCtxExpired (n : Nat)
  /-- KS_LOAD (R447): KS OP LOAD copies key bytes to the pending store and clears KS_DATA. -/
  | ksLoad
  /-- KS_LOCK (R447): KS OP LOCK makes a VALID slot LOCKED. -/
  | ksLock
  /-- KS_ZEROISE (R447): KS OP ZEROISE empties a slot unless it is in use by REIN without FORCE. -/
  | ksZeroise (force : Bool)
  /-- KS_SET_USE (R447): KS OP SET_USE changes a slot's USE bits. -/
  | ksSetUse
  /-- KS_INVALID_OP (R447): A KS_CMD with an unlisted OP is refused at once with INVALID_FIELD. -/
  | ksInvalidOp
  /-- KS_SLOT_PARITY (R448): A parity error in a slot zeroises it and captures SLOT_PARITY. -/
  | ksSlotParity (slot : Nat)
  -- 16_resilience_and_records.md
  /-- REMOUNT_START (R459): A remount trigger drains the unit and copies its state to the spare. -/
  | remountStart (p sub : Nat)
  /-- RM_CMD (R486): A write of RM_CMD.GO requests a planned remount of a named unit. -/
  | rmCmd (p sub : Nat)
  /-- SRAM_ROW_REPAIR (R462): An SRAM row with repeated errors is copied to a spare row and redirected. -/
  | sramRowRepair (mac row trigger : Nat)
  /-- GD_ACT_CANCEL (R467): A GD_ACT_CANCEL.GO write removes a queued activity and its command completes ABORTED_BY_HOST. -/
  | gdActCancel (code pool : Nat)
  /-- STB_FLUSH_CMD (R474): A write of STB_CTRL.FLUSH starts a studbook flush. -/
  | stbFlushCmd
  /-- STUDBOOK_FLUSH (R474): A flush trigger programs every unflushed record to both devices. -/
  | studbookFlush
  /-- STUDBOOK_FLUSH_TIMER (R474): Every 250,000 strides with records unflushed a flush starts. -/
  | studbookFlushTimer
  /-- STUDBOOK_FLUSH_DONE (R474): A flush's page programs end and a pending trigger starts another. -/
  | studbookFlushDone (ok0 ok1 : Bool)
  /-- RESILVER_DONE (R475): Background copy to the shorter studbook device completes. -/
  | resilverDone
  /-- STB_RD_OFF_WRITE (R476): A write of STB_RD_OFF requests the read window from that offset. -/
  | stbRdOffWrite (off : Nat)
  /-- STB_WINDOW_READY (R476): The read window is filled and READY set. -/
  | stbWindowReady
  /-- STB_APP_CMD (R478): A write of STB_APP_CMD appends a software record or refuses it. -/
  | stbAppCmd (len typ : Nat)
  /-- TK_WRITE (R483): TK OP WRITE checks and writes a tack image over the older copy and verifies it. -/
  | tkWrite (image : List Byte) (readBack : Option (List Byte)) (bothB : Bool)
  /-- TK_READ (R483): TK OP READ copies the image in use to TK_HOST. -/
  | tkRead
  /-- TK_PROCEED (R482): A write of TK_CTRL.PROCEED lets a defaulted head continue. -/
  | tkProceed
  -- 17_service_and_firmware.md
  /-- SVC_FRAME_RX (R488): A service port frame is taken as ARP, ND, ICMP or Mysyn UDP, or dropped. -/
  | svcFrameRx (kind : SvcFrame) (toMe : Bool)
  /-- MYSYN_OPEN (R493): OPEN names a key slot and role and is answered with CHALLENGE. -/
  | mysynOpen (m : MysynMsg) (id : Nat) (nonce : List Byte)
  /-- MYSYN_AUTH (R493): AUTH with a valid MAC marks the session AUTHED. -/
  | mysynAuth (m : MysynMsg)
  /-- MYSYN_CLOSE (R491): CLOSE ends a session. -/
  | mysynClose (m : MysynMsg)
  /-- MYSYN_REG_READ (R492): REG_READ relays register reads. -/
  | mysynRegRead (m : MysynMsg)
  /-- MYSYN_REG_WRITE (R492): REG_WRITE relays register writes, refusing KS_DATA. -/
  | mysynRegWrite (m : MysynMsg)
  /-- MYSYN_STB_READ (R491): STB_READ returns studbook bytes. -/
  | mysynStbRead (m : MysynMsg)
  /-- MYSYN_TACK_READ (R491): TACK_READ returns tack image bytes. -/
  | mysynTackRead (m : MysynMsg)
  /-- MYSYN_TACK_WRITE (R491): TACK_WRITE stages bytes and on FINAL writes the image. -/
  | mysynTackWrite (m : MysynMsg) (readBack : Option (List Byte)) (bothB : Bool)
  /-- MYSYN_IMAGE_BEGIN (R498): IMAGE_BEGIN checks a firmware header and names the target slot. -/
  | mysynImageBegin (m : MysynMsg)
  /-- MYSYN_IMAGE_DATA (R499): IMAGE_DATA takes body bytes in order, hashing and programming them. -/
  | mysynImageData (m : MysynMsg) (flashOk : Bool)
  /-- MYSYN_IMAGE_END (R499): IMAGE_END checks length, hash and read-back and marks the slot STAGED. -/
  | mysynImageEnd (m : MysynMsg) (readBackOk : Bool)
  /-- MYSYN_IMAGE_ABORT (R499): IMAGE_ABORT abandons staging leaving the slot EMPTY. -/
  | mysynImageAbort (m : MysynMsg)
  /-- MYSYN_FW_CMD (R504): FW_CMD carries a value written to FWU.FW_CMD. -/
  | mysynFwCmd (m : MysynMsg)
  /-- MYSYN_FW_STATUS (R491): FW_STATUS returns the FWU registers. -/
  | mysynFwStatus (m : MysynMsg)
  -- 18_pins_power_reset.md
  /-- MYSYN_RESET (R521): RESET requests a WARM reset, with or without FORCE. -/
  | mysynReset (m : MysynMsg)
  -- 17_service_and_firmware.md
  /-- SESSION_IDLE_TIMEOUT (R494): A session without a valid message for SVC_IDLE strides is closed. -/
  | sessionIdleTimeout (i : Nat)
  /-- FW_ACTIVATE (R504): FW OP ACTIVATE makes a STAGED slot TRIAL and resets the head. -/
  | fwActivate (force : Bool)
  /-- FW_COMMIT (R504): FW OP COMMIT makes the trial image COMMITTED and may raise the floor. -/
  | fwCommit (hold : Bool)
  /-- FW_REVERT (R504): FW OP REVERT marks the trial slot FAILED and resets to the committed image. -/
  | fwRevert
  /-- FW_ABORT_STAGE (R504): FW OP ABORT_STAGE abandons staging. -/
  | fwAbortStage
  -- 18_pins_power_reset.md
  /-- POR_N_ASSERT (R520): POR_N low resets every domain except the always-on island. -/
  | porNAssert
  /-- BRINGUP (R524): After a reset other than PCIE the bring-up steps B1 to B8 run in order. -/
  | bringup (f : BringupFacts)
  /-- BRINGUP_STALL (R524): A bring-up step exceeding its bound captures BRINGUP_STALL and holds INIT. -/
  | bringupStall (step : Nat) (f : BringupFacts)
  /-- PERST_N_ASSERT (R522): PERST_N low resets the PCIe endpoint and function-level resets every function. -/
  | perstNAssert
  /-- PERST_N_RELEASE (R522): PERST_N rising restarts link training within 20 ms. -/
  | perstNRelease
  /-- WARM_RESET (R521): A CHIP_RST_CTL.WARM write with the key resets the chip if the role allows or FORCE is set. -/
  | warmReset (force : Bool)
  /-- TJ_HALT (R519): Tj at or above 110 °C for 250 strides captures TJ_HALT at L5. -/
  | tjHalt
  /-- THERMTRIP (R519): Tj at or above 120 °C asserts THERMTRIP_N until POR_N. -/
  | thermtrip
  /-- MOD_RST_ASSERT (R527): A write of 1 to a MOD_RST bit drives MOD_RST_N low for at least 250 strides when allowed. -/
  | modRstAssert (n : Nat)
  /-- MOD_RST_RELEASE (R527): MOD_RST_N rises on a write of 0 after, or at the end of, the 250-stride minimum. -/
  | modRstRelease (n : Nat) (write : Bool)
  -- 13_tandem_operation.md
  /-- REINB_SYNC_CHANGE (R371): The Rein B receiver gains or loses character alignment, changing RN_B_LINK.SYNC. -/
  | reinbSyncChange (sync : Bool)
  /-- FENCE_IN_FALL (R372): FENCE_IN falls, releasing a head held in INIT by a high FENCE_IN. -/
  | fenceInFall
  /-- TL_TRAIN (R364): Setting TLINK.TL_CTRL.TRAIN starts Torlux link training under Clause 136. -/
  | tlTrain
  /-- TL_FORCE_SWAP (R362): A write of TL_FORCE_SWAP.GO forces a Torlux lane swap in the named direction. -/
  | tlForceSwap (lane : Nat) (receive : Bool)
  -- 17_service_and_firmware.md
  /-- SVC_LINK_CHANGE (R506): The service port PHY link goes up or down, updating SVC_STATUS and setting LINK_CHANGED. -/
  | svcLinkChange (up : Bool) (speed : Nat) (full : Bool)
  -- 03_host_functions.md
  /-- NVME_CC_EN_SET (R82): The host writes NVMe CC.EN from 0 to 1 in a function's queue window, enabling the controller. -/
  | nvmeCcEnSet (f : Nat)
  -- 13_tandem_operation.md
  /-- FAIL_HOLD_TIMEOUT (R393): With FAIL_HOLD = 1 in a SUSPENDED group, a write waiting for SYNC_ACK completes with
  BUSY_RETRY 25,000 strides after admission and its range is marked. -/
  | failHoldTimeout (n : Nat)
  deriving DecidableEq, Repr

end Sys2Proof
end

