-- ==== Sys2Proof/Config.lean ====
section
/-! DEFINITION. The values that the spec leaves open, as constants without a body: nothing can be proved of what they are.
A free value that is fresh at every use is applied to State's counter of uses; one that depends on data is applied to that
data (assumption log 3 and 4). -/

namespace Sys2Proof.Config

/-- A fresh 32-bit value the spec leaves open, by the number of its use. -/
opaque freeWord : Nat → Word

/-- A fresh number the spec leaves open, by the number of its use. -/
opaque freeNat : Nat → Nat

/-- The block that a compression form would emit for a grain, under fixed codes (false) or dynamic ones (true): the spec names the forms
and the format (R209 to R213) and leaves the encoder's choice of matches and tables open. The machine takes it only where it encodes the grain. -/
opaque deflate : Nat → Bool → List Byte → List Bool

/-- Whether an associative search bank that is copied to a spare cannot be trusted, by the remounts before and the bank: the spec says
what follows and states no test (R186). -/
opaque bankBad : Nat → Nat → Bool

/-- What a studbook device holds between the last record before a 64 KiB boundary and that boundary, or before FULL, by
offset: the spec states the first word only (R470). -/
opaque stbGap : Nat → Byte

/-- The 256 bytes of LDPC parity that the encoder adds to the 2,048 data bytes of a codeword: the spec states the sizes and no code
(R248). -/
opaque ldpcParity : BitVec 16384 → BitVec 2048

/-- The 24 bytes of a record's operation that applies the partner's change of a count, by address and change: the spec gives that operation
no code (R270, R367). -/
opaque refOp : Nat → Int → BitVec 192

/-- A block of 4,096 bytes of a pool's volume table, by pool and checkpoint TSEQ: the spec names the table and gives its entries no format
(R273, R278). -/
opaque volBlock : Nat → Nat → BitVec 32768

/-- The 64 bytes of a forwarded command, by its number: the model keeps the fields of a queue entry that the chip uses, not its bytes
(R366). -/
opaque fwdCommand : Nat → BitVec 512

/-- The count of refreshes that JEDEC allows to be postponed (R408). -/
opaque refreshPostponeMax : Nat

/-- Whether an ECDSA-P384 signature (third) over the SHA-384 of bytes (first) is valid under a public key (second) (R496,
R498): the curve arithmetic is left uninterpreted. -/
opaque ecdsaP384 : List Byte → List Byte → List Byte → Bool

/-- How many memory regions a tenant may have: the spec names the allowance and states no number (R129). -/
opaque regionAllowance : Nat → Nat

end Sys2Proof.Config
end

