-- ==== Sys2Proof/Machine/Bits.lean ====
section
/-! DEFINITION. Bit fields of registers and the little-endian byte order of every multi-byte field of the spec. Bit
ranges are written [msb:lsb] in the spec (R11); here a field is named by its lowest bit and its width. -/

namespace Sys2Proof.Machine

/-- The field of width `n` at bit `lo`, as a number (R11). -/
def fld (w : Word) (lo n : Nat) : Nat := (w.toNat / 2 ^ lo) % 2 ^ n

/-- A word whose bits `lo .. lo + n - 1` are ones. -/
def ones (lo n : Nat) : Word := BitVec.ofNat 32 ((2 ^ n - 1) * 2 ^ lo)

/-- `w` with the field of width `n` at bit `lo` holding `v` (cut to the field's width). -/
def putFld (w : Word) (lo n v : Nat) : Word :=
  (w &&& ~~~(ones lo n)) ||| BitVec.ofNat 32 ((v % 2 ^ n) * 2 ^ lo)

/-- Bit `i` of a register. -/
def bit (w : Word) (i : Nat) : Bool := w.getLsbD i

/-- `w` with bit `i` set to `b`. -/
def putBit (w : Word) (i : Nat) (b : Bool) : Word := putFld w i 1 b.toNat

/-- The lower half of a 64-bit value, held in `_LO` (R15). -/
def loHalf (d : DWord) : Word := d.setWidth 32

/-- The upper half of a 64-bit value, held in `_HI` (R15). -/
def hiHalf (d : DWord) : Word := (d >>> 32).setWidth 32

/-- The 64-bit value of an `_LO` / `_HI` pair (R15). -/
def pair (lo hi : Word) : DWord := (hi.setWidth 64 <<< 32) ||| lo.setWidth 64

/-- One more, saturating at all ones: the counters of R19. -/
def incSat (w : Word) : Word := if w = BitVec.allOnes 32 then w else w + 1

/-- `n` more, saturating at all ones (R19). -/
def addSat (w : Word) (n : Nat) : Word :=
  if w.toNat + n < 2 ^ 32 then w + BitVec.ofNat 32 n else BitVec.allOnes 32

/-- `n` more in a 64-bit counter, saturating at all ones (R43). -/
def satAdd64 (d : DWord) (n : Nat) : DWord :=
  if d.toNat + n < 2 ^ 64 then d + BitVec.ofNat 64 n else BitVec.allOnes 64

/-- A signed 16-bit field as an integer. -/
def sgn16 (n : Nat) : Int := if n % 65536 < 32768 then (n % 65536 : Nat) else (n % 65536 : Nat) - 65536

/-- An integer as a two's complement field of `bits` bits. -/
def toField (bits : Nat) (i : Int) : Nat := (i % (2 ^ bits : Nat)).toNat

/-- The `n` bytes of a number, least significant first: multi-byte fields are little-endian (R29, R46, R150, R471). -/
def leBytes : Nat → Nat → List Byte
  | 0, _ => []
  | n + 1, v => BitVec.ofNat 8 v :: leBytes n (v / 256)

/-- The `n` bytes of a number, most significant first. -/
def beBytes (n v : Nat) : List Byte := (leBytes n v).reverse

/-- The number that bytes spell, least significant first. -/
def ofLeBytes : List Byte → Nat
  | [] => 0
  | b :: bs => b.toNat + 256 * ofLeBytes bs

/-- The number that the `n` bytes from offset `o` spell, least significant first. -/
def leAt (bs : List Byte) (o n : Nat) : Nat := ofLeBytes ((bs.drop o).take n)

/-- The bytes of an ASCII text. -/
def ascii (t : String) : List Byte := t.toList.map fun c => BitVec.ofNat 8 c.toNat

/-- ceil(a / b), 0 for b = 0. -/
def ceilDiv (a b : Nat) : Nat := if b = 0 then 0 else (a + b - 1) / b

end Sys2Proof.Machine
end

