-- ==== Sys2Proof/Machine/Digest.lean ====
section
/-! DEFINITION. The digests and check codes that the spec names: SHA-256 (R190, R193), SHA-384 and SHA-512 (R434, R499),
HMAC (R369, R494), CRC-32C (R216) and CRC-16 T10 (R142). -/

namespace Sys2Proof.Machine

/-! ### CRC-32C and CRC-16 T10 -/

/-- One bit of CRC-32C: polynomial 0x1EDC6F41, reflected (R216). -/
def crc32cBit (c : Word) : Word := if c.getLsbD 0 then (c >>> 1) ^^^ 0x82F63B78 else c >>> 1

/-- One byte of CRC-32C. -/
def crc32cByte (c : Word) (b : Byte) : Word :=
  let x := c ^^^ b.setWidth 32
  crc32cBit (crc32cBit (crc32cBit (crc32cBit (crc32cBit (crc32cBit (crc32cBit (crc32cBit x)))))))

/-- CRC-32C: initial value all ones, final XOR all ones (R216). -/
def crc32c (bs : List Byte) : Word := bs.foldl crc32cByte 0xFFFFFFFF ^^^ 0xFFFFFFFF

/-- One bit of CRC-16 T10: polynomial 0x8BB7 (R142). -/
def crc16Bit (c : BitVec 16) : BitVec 16 := if c.getLsbD 15 then (c <<< 1) ^^^ 0x8BB7 else c <<< 1

/-- One byte of CRC-16 T10. -/
def crc16Byte (c : BitVec 16) (b : Byte) : BitVec 16 :=
  let x := c ^^^ (b.setWidth 16 <<< 8)
  crc16Bit (crc16Bit (crc16Bit (crc16Bit (crc16Bit (crc16Bit (crc16Bit (crc16Bit x)))))))

/-- CRC-16 T10 of sector data (R142). -/
def crc16 (bs : List Byte) : Nat := (bs.foldl crc16Byte 0).toNat

/-! ### The SHA-2 family (FIPS 180-4) -/

/-- What one member of the family fixes: the word width in bits, the rotation counts, round constants. -/
structure ShaKind where
  bits : Nat
  /-- Rotations of the two large sums and rotations and shift of the two small ones. -/
  big0 : Nat × Nat × Nat
  big1 : Nat × Nat × Nat
  small0 : Nat × Nat × Nat
  small1 : Nat × Nat × Nat
  ks : List Nat
  deriving DecidableEq, Repr

/-- Round constants of SHA-256. -/
def sha256Ks : List Nat :=
  [ 0x428A2F98, 0x71374491, 0xB5C0FBCF, 0xE9B5DBA5, 0x3956C25B, 0x59F111F1, 0x923F82A4, 0xAB1C5ED5,
    0xD807AA98, 0x12835B01, 0x243185BE, 0x550C7DC3, 0x72BE5D74, 0x80DEB1FE, 0x9BDC06A7, 0xC19BF174 ] ++
  [ 0xE49B69C1, 0xEFBE4786, 0x0FC19DC6, 0x240CA1CC, 0x2DE92C6F, 0x4A7484AA, 0x5CB0A9DC, 0x76F988DA,
    0x983E5152, 0xA831C66D, 0xB00327C8, 0xBF597FC7, 0xC6E00BF3, 0xD5A79147, 0x06CA6351, 0x14292967 ] ++
  [ 0x27B70A85, 0x2E1B2138, 0x4D2C6DFC, 0x53380D13, 0x650A7354, 0x766A0ABB, 0x81C2C92E, 0x92722C85,
    0xA2BFE8A1, 0xA81A664B, 0xC24B8B70, 0xC76C51A3, 0xD192E819, 0xD6990624, 0xF40E3585, 0x106AA070 ] ++
  [ 0x19A4C116, 0x1E376C08, 0x2748774C, 0x34B0BCB5, 0x391C0CB3, 0x4ED8AA4A, 0x5B9CCA4F, 0x682E6FF3,
    0x748F82EE, 0x78A5636F, 0x84C87814, 0x8CC70208, 0x90BEFFFA, 0xA4506CEB, 0xBEF9A3F7, 0xC67178F2 ]

/-- Round constants of SHA-384 and SHA-512. -/
def sha512Ks : List Nat :=
  [ 0x428A2F98D728AE22, 0x7137449123EF65CD, 0xB5C0FBCFEC4D3B2F, 0xE9B5DBA58189DBBC,
    0x3956C25BF348B538, 0x59F111F1B605D019, 0x923F82A4AF194F9B, 0xAB1C5ED5DA6D8118,
    0xD807AA98A3030242, 0x12835B0145706FBE, 0x243185BE4EE4B28C, 0x550C7DC3D5FFB4E2,
    0x72BE5D74F27B896F, 0x80DEB1FE3B1696B1, 0x9BDC06A725C71235, 0xC19BF174CF692694 ] ++
  [ 0xE49B69C19EF14AD2, 0xEFBE4786384F25E3, 0x0FC19DC68B8CD5B5, 0x240CA1CC77AC9C65,
    0x2DE92C6F592B0275, 0x4A7484AA6EA6E483, 0x5CB0A9DCBD41FBD4, 0x76F988DA831153B5,
    0x983E5152EE66DFAB, 0xA831C66D2DB43210, 0xB00327C898FB213F, 0xBF597FC7BEEF0EE4,
    0xC6E00BF33DA88FC2, 0xD5A79147930AA725, 0x06CA6351E003826F, 0x142929670A0E6E70 ] ++
  [ 0x27B70A8546D22FFC, 0x2E1B21385C26C926, 0x4D2C6DFC5AC42AED, 0x53380D139D95B3DF,
    0x650A73548BAF63DE, 0x766A0ABB3C77B2A8, 0x81C2C92E47EDAEE6, 0x92722C851482353B,
    0xA2BFE8A14CF10364, 0xA81A664BBC423001, 0xC24B8B70D0F89791, 0xC76C51A30654BE30,
    0xD192E819D6EF5218, 0xD69906245565A910, 0xF40E35855771202A, 0x106AA07032BBD1B8 ] ++
  [ 0x19A4C116B8D2D0C8, 0x1E376C085141AB53, 0x2748774CDF8EEB99, 0x34B0BCB5E19B48A8,
    0x391C0CB3C5C95A63, 0x4ED8AA4AE3418ACB, 0x5B9CCA4F7763E373, 0x682E6FF3D6B2B8A3,
    0x748F82EE5DEFB2FC, 0x78A5636F43172F60, 0x84C87814A1F0AB72, 0x8CC702081A6439EC,
    0x90BEFFFA23631E28, 0xA4506CEBDE82BDE9, 0xBEF9A3F7B2C67915, 0xC67178F2E372532B ] ++
  [ 0xCA273ECEEA26619C, 0xD186B8C721C0C207, 0xEADA7DD6CDE0EB1E, 0xF57D4F7FEE6ED178,
    0x06F067AA72176FBA, 0x0A637DC5A2C898A6, 0x113F9804BEF90DAE, 0x1B710B35131C471B,
    0x28DB77F523047D84, 0x32CAAB7B40C72493, 0x3C9EBE0A15C9BEBC, 0x431D67C49C100D4C,
    0x4CC5D4BECB3E42B6, 0x597F299CFC657E2A, 0x5FCB6FAB3AD6FAEC, 0x6C44198C4A475817 ]

/-- SHA-256. -/
def shaSmall : ShaKind := ⟨32, (2, 13, 22), (6, 11, 25), (7, 18, 3), (17, 19, 10), sha256Ks⟩

/-- SHA-384 and SHA-512. -/
def shaLarge : ShaKind := ⟨64, (28, 34, 39), (14, 18, 41), (1, 8, 7), (19, 61, 6), sha512Ks⟩

/-- Rotate right in a word of `n` bits. -/
def rotr (n x k : Nat) : Nat := (x / 2 ^ k + x * 2 ^ (n - k)) % 2 ^ n

/-- A large sum: three rotations. -/
def shaBig (n : Nat) (r : Nat × Nat × Nat) (x : Nat) : Nat := rotr n x r.1 ^^^ rotr n x r.2.1 ^^^ rotr n x r.2.2

/-- A small sum: two rotations and a shift. -/
def shaSmallSum (n : Nat) (r : Nat × Nat × Nat) (x : Nat) : Nat := rotr n x r.1 ^^^ rotr n x r.2.1 ^^^ x / 2 ^ r.2.2

/-- The working variables a to h. -/
structure ShaVars where
  a : Nat
  b : Nat
  c : Nat
  d : Nat
  e : Nat
  f : Nat
  g : Nat
  h : Nat
  deriving DecidableEq, Repr

/-- One round with round constant `k` and schedule word `w`. -/
def shaRound (q : ShaKind) (v : ShaVars) (k w : Nat) : ShaVars :=
  let m := 2 ^ q.bits
  let ch := (v.e &&& v.f) ^^^ ((m - 1 - v.e) &&& v.g)
  let t1 := (v.h + shaBig q.bits q.big1 v.e + ch + k + w) % m
  let maj := (v.a &&& v.b) ^^^ (v.a &&& v.c) ^^^ (v.b &&& v.c)
  let t2 := (shaBig q.bits q.big0 v.a + maj) % m
  ⟨(t1 + t2) % m, v.a, v.b, v.c, (v.d + t1) % m, v.e, v.f, v.g⟩

/-- The rounds of one block: the schedule is the list of the last 16 words, the oldest first. -/
def shaRounds (q : ShaKind) : List Nat → List Nat → ShaVars → ShaVars
  | [], _, v => v
  | k :: ks, w, v =>
    let next := (w.getD 0 0 + shaSmallSum q.bits q.small0 (w.getD 1 0) + w.getD 9 0
      + shaSmallSum q.bits q.small1 (w.getD 14 0)) % 2 ^ q.bits
    shaRounds q ks (w.drop 1 ++ [next]) (shaRound q v k (w.getD 0 0))

/-- A number from bytes, most significant first. -/
def ofBeBytes (bs : List Byte) : Nat := bs.foldl (fun v b => v * 256 + b.toNat) 0

/-- Cut a list into `n` pieces of `k`. -/
def pieces {α : Type} (k : Nat) : Nat → List α → List (List α)
  | 0, _ => []
  | n + 1, l => l.take k :: pieces k n (l.drop k)

/-- One block of 16 words. -/
def shaBlock (q : ShaKind) (h : ShaVars) (block : List Byte) : ShaVars :=
  let w := (pieces (q.bits / 8) 16 block).map ofBeBytes
  let v := shaRounds q q.ks w h
  let m := 2 ^ q.bits
  ⟨(h.a + v.a) % m, (h.b + v.b) % m, (h.c + v.c) % m, (h.d + v.d) % m,
   (h.e + v.e) % m, (h.f + v.f) % m, (h.g + v.g) % m, (h.h + v.h) % m⟩

/-- The message with its padding: a one bit, zeros, and its length in bits in two words. -/
def shaPad (q : ShaKind) (msg : List Byte) : List Byte :=
  let block := q.bits * 2
  let tail := q.bits / 4
  let zeros := (2 * block - (msg.length + 1 + tail) % block) % block
  msg ++ [0x80] ++ List.replicate zeros 0 ++ beBytes tail (8 * msg.length)

/-- The digest in bytes. -/
def shaDigest (q : ShaKind) (init : ShaVars) (msg : List Byte) : List Byte :=
  let p := shaPad q msg
  let v := (pieces (q.bits * 2) (p.length / (q.bits * 2)) p).foldl (shaBlock q) init
  [v.a, v.b, v.c, v.d, v.e, v.f, v.g, v.h].flatMap (beBytes (q.bits / 8))

/-- Initial values of SHA-256. -/
def sha256Init : ShaVars :=
  ⟨0x6A09E667, 0xBB67AE85, 0x3C6EF372, 0xA54FF53A, 0x510E527F, 0x9B05688C, 0x1F83D9AB, 0x5BE0CD19⟩

/-- Initial values of SHA-384. -/
def sha384Init : ShaVars :=
  ⟨0xCBBB9D5DC1059ED8, 0x629A292A367CD507, 0x9159015A3070DD17, 0x152FECD8F70E5939,
   0x67332667FFC00B31, 0x8EB44A8768581511, 0xDB0C2E0D64F98FA7, 0x47B5481DBEFA4FA4⟩

/-- Initial values of SHA-512. -/
def sha512Init : ShaVars :=
  ⟨0x6A09E667F3BCC908, 0xBB67AE8584CAA73B, 0x3C6EF372FE94F82B, 0xA54FF53A5F1D36F1,
   0x510E527FADE682D1, 0x9B05688C2B3E6C1F, 0x1F83D9ABFB41BD6B, 0x5BE0CD19137E2179⟩

/-- SHA-256. -/
def sha256 (msg : List Byte) : List Byte := shaDigest shaSmall sha256Init msg

/-- SHA-384. -/
def sha384 (msg : List Byte) : List Byte := (shaDigest shaLarge sha384Init msg).take 48

/-- SHA-512. -/
def sha512 (msg : List Byte) : List Byte := shaDigest shaLarge sha512Init msg

/-- HMAC (RFC 2104) over a hash with a block of `block` bytes. -/
def hmac (hash : List Byte → List Byte) (block : Nat) (key msg : List Byte) : List Byte :=
  let k0 := if block < key.length then hash key else key
  let k := k0 ++ List.replicate (block - k0.length) 0
  hash (k.map (· ^^^ 0x5C) ++ hash (k.map (· ^^^ 0x36) ++ msg))

/-- HMAC-SHA-256 (R369). -/
def hmacSha256 (key msg : List Byte) : List Byte := hmac sha256 64 key msg

end Sys2Proof.Machine
end

