-- ==== Sys2Proof/Machine/Deflate.lean ====
section
/-! DEFINITION. Raw DEFLATE streams (RFC 1951) as grains use them: the decoder of R211 and the encoder of R209 and R210. -/

namespace Sys2Proof.Machine

/-! ### Bits -/

/-- The bits of bytes in stream order: the least significant bit of each byte first. -/
def bitsOf (bs : List Byte) : List Bool := bs.flatMap fun b => (List.range 8).map fun i => b.getLsbD i

/-- The number that bits spell, the first one least significant. -/
def bitsVal : List Bool → Nat
  | [] => 0
  | b :: l => b.toNat + 2 * bitsVal l

/-- Bits as bytes; zero bits fill the last byte (R209). -/
def packBits (l : List Bool) : List Byte := (pieces 8 (ceilDiv l.length 8) l).map fun x => BitVec.ofNat 8 (bitsVal x)

/-- The next `n` bits as a number, and the rest; none where the stream ends. -/
def readBits : Nat → List Bool → Option (Nat × List Bool)
  | 0, l => some (0, l)
  | _ + 1, [] => none
  | n + 1, b :: l => (readBits n l).map fun x => (b.toNat + 2 * x.1, x.2)

/-! ### Canonical codes -/

/-- The symbols of a code length, in order. -/
def codesOf (lens : List Nat) (n : Nat) : List Nat := (List.range lens.length).filter fun i => decide (lens.getD i 0 = n)

/-- The code lengths leave no two codes with the same words. -/
def codeOk (lens : List Nat) : Bool :=
  decide (((lens.filter fun n => decide (0 < n)).map fun n => 2 ^ (15 - n)).sum ≤ 2 ^ 15)

/-- One symbol: `first` is the first code of length `n`, `code` twice what has been read. -/
def huffStep (lens : List Nat) : Nat → Nat → Nat → Nat → List Bool → Option (Nat × List Bool)
  | 0, _, _, _, _ => none
  | _ + 1, _, _, _, [] => none
  | k + 1, n, first, code, b :: l =>
    let c := code + b.toNat
    let ss := codesOf lens n
    if c < first + ss.length then (ss[c - first]?).map fun x => (x, l)
    else huffStep lens k (n + 1) (2 * (first + ss.length)) (2 * c) l

/-- One symbol of a code with these lengths; none on an invalid code (R211). -/
def huffRead (lens : List Nat) (l : List Bool) : Option (Nat × List Bool) := huffStep lens 15 1 0 0 l

/-- The first code of a length. -/
def huffFirst (lens : List Nat) : Nat → Nat
  | 0 => 0
  | n + 1 => 2 * (huffFirst lens n + (if n = 0 then 0 else (codesOf lens n).length))

/-- The code of a symbol, its most significant bit first. -/
def huffBits (lens : List Nat) (x : Nat) : List Bool :=
  let n := lens.getD x 0
  let c := huffFirst lens n + (codesOf lens n).findIdx fun y => decide (y = x)
  ((List.range n).map fun i => c.testBit i).reverse

/-- The fixed code lengths of literals and lengths (BTYPE 01). -/
def fixedLit : List Nat := List.replicate 144 8 ++ List.replicate 112 9 ++ List.replicate 24 7 ++ List.replicate 8 8

/-- The fixed code lengths of distances. -/
def fixedDist : List Nat := List.replicate 30 5

/-! ### The decoder (R211) -/

/-- Base and extra bits of the length symbols 257 to 285. -/
def lengthCodes : List (Nat × Nat) :=
  [ (3, 0), (4, 0), (5, 0), (6, 0), (7, 0), (8, 0), (9, 0), (10, 0), (11, 1), (13, 1), (15, 1), (17, 1), (19, 2), (23, 2),
    (27, 2), (31, 2), (35, 3), (43, 3), (51, 3), (59, 3), (67, 4), (83, 4), (99, 4), (115, 4), (131, 5), (163, 5), (195, 5),
    (227, 5), (258, 0) ]

/-- Base and extra bits of the distance symbols 0 to 29. -/
def distanceCodes : List (Nat × Nat) :=
  [ (1, 0), (2, 0), (3, 0), (4, 0), (5, 1), (7, 1), (9, 2), (13, 2), (17, 3), (25, 3), (33, 4), (49, 4), (65, 5), (97, 5),
    (129, 6), (193, 6), (257, 7), (385, 7), (513, 8), (769, 8), (1025, 9), (1537, 9), (2049, 10), (3073, 10), (4097, 11),
    (6145, 11), (8193, 12), (12289, 12), (16385, 13), (24577, 13) ]

/-- A value of a base and extra bits table, and the rest of the stream. -/
def readCode (t : List (Nat × Nat)) (i : Nat) (l : List Bool) : Option (Nat × List Bool) :=
  match t[i]? with
  | none => none
  | some (base, extra) => (readBits extra l).map fun x => (base + x.1, x.2)

/-- `n` bytes from distance `d` back join the output, which is held with the last byte first. -/
def copyBack (d : Nat) : Nat → List Byte → List Byte
  | 0, out => out
  | n + 1, out => copyBack d n (out.getD (d - 1) 0 :: out)

/-- A match: length symbol `x`, then a distance, which must not reach before the start of the output (R211). -/
def inflateMatch (dist : List Nat) (x : Nat) (out : List Byte) (l : List Bool) : Option (List Byte × List Bool) :=
  match readCode lengthCodes (x - 257) l with
  | none => none
  | some (n, l1) =>
    match huffRead dist l1 with
    | none => none
    | some (y, l2) =>
      match readCode distanceCodes y l2 with
      | none => none
      | some (d, l3) => if out.length < d then none else some (copyBack d n out, l3)

/-- The symbols of a block up to its end, at most `k` of them. -/
def inflateSymbols (lit dist : List Nat) : Nat → List Byte → List Bool → Option (List Byte × List Bool)
  | 0, _, _ => none
  | k + 1, out, l =>
    match huffRead lit l with
    | none => none
    | some (x, l1) =>
      if x < 256 then inflateSymbols lit dist k (BitVec.ofNat 8 x :: out) l1
      else if x = 256 then some (out, l1)
      else
        match inflateMatch dist x out l1 with
        | none => none
        | some (o, l2) => inflateSymbols lit dist k o l2

/-- `want` code lengths, run length coded under the code lengths `cl`; `acc` holds those read, the last one first. -/
def readLengths (cl : List Nat) (want : Nat) : Nat → List Nat → List Bool → Option (List Nat × List Bool)
  | 0, _, _ => none
  | k + 1, acc, l =>
    if acc.length = want then some (acc.reverse, l)
    else if want < acc.length then none
    else
      match huffRead cl l with
      | none => none
      | some (x, l1) =>
        if x < 16 then readLengths cl want k (x :: acc) l1
        else
          let extra := if x = 16 then 2 else if x = 17 then 3 else 7
          let base := if x = 18 then 11 else 3
          match readBits extra l1 with
          | none => none
          | some (n, l2) =>
            if x = 16 ∧ acc = [] then none
            else readLengths cl want k (List.replicate (base + n) (if x = 16 then acc.headD 0 else 0) ++ acc) l2

/-- The order in which the code lengths of the code length code stand. -/
def clOrder : List Nat := [16, 17, 18, 0, 8, 7, 9, 6, 10, 5, 11, 4, 12, 3, 13, 2, 14, 1, 15]

/-- `n` lengths of 3 bits each. -/
def readTriples : Nat → List Bool → Option (List Nat × List Bool)
  | 0, l => some ([], l)
  | n + 1, l =>
    match readBits 3 l with
    | none => none
    | some (x, l1) => (readTriples n l1).map fun y => (x :: y.1, y.2)

/-- The two codes of a BTYPE 10 block. -/
def readTables (l : List Bool) : Option (List Nat × List Nat × List Bool) :=
  match readBits 14 l with
  | none => none
  | some (h, l1) =>
    let hlit := h % 32 + 257
    let hdist := h / 32 % 32 + 1
    match readTriples (h / 1024 + 4) l1 with
    | none => none
    | some (t, l2) =>
      let cl := (List.range 19).map fun i => t.getD (clOrder.findIdx fun y => decide (y = i)) 0
      match readLengths cl (hlit + hdist) (hlit + hdist + 1) [] l2 with
      | none => none
      | some (lens, l3) =>
        if codeOk cl && codeOk (lens.take hlit) && codeOk (lens.drop hlit) then some (lens.take hlit, lens.drop hlit, l3)
        else none

/-- A BTYPE 00 block: from the next byte, its length, the complement of the length, its bytes. -/
def inflateStored (out : List Byte) (l : List Bool) : Option (List Byte × List Bool) :=
  match readBits 32 (l.drop (l.length % 8)) with
  | none => none
  | some (h, l1) =>
    let n := h % 65536
    if h / 65536 ≠ 65535 - n ∨ l1.length < 8 * n then none
    else some ((packBits (l1.take (8 * n))).reverse ++ out, l1.drop (8 * n))

/-- One block of a BTYPE. No more than 4,097 symbols are taken: the output holds 4,096 bytes (R211). -/
def inflateBlock (btype : Nat) (out : List Byte) (l : List Bool) : Option (List Byte × List Bool) :=
  if btype = 0 then inflateStored out l
  else if btype = 1 then inflateSymbols fixedLit fixedDist 4097 out l
  else if btype = 2 then
    match readTables l with
    | none => none
    | some (lit, dist, l1) => inflateSymbols lit dist 4097 out l1
  else none

/-- Blocks up to the final one. -/
def inflateBlocks : Nat → List Byte → List Bool → Option (List Byte)
  | 0, _, _ => none
  | k + 1, out, l =>
    match readBits 3 l with
    | none => none
    | some (h, l1) =>
      match inflateBlock (h / 2) out l1 with
      | none => none
      | some (o, l2) => if h % 2 = 1 then some o.reverse else inflateBlocks k o l2

/-- What a decompression unit makes of a stream: 4,096 bytes, or DECODE_ERROR (R211): an invalid code, a distance before the start, an
output of another length, or no end of the final block within the bytes given. -/
def inflate (bs : List Byte) : Option (List Byte) :=
  match inflateBlocks (8 * bs.length) [] (bitsOf bs) with
  | none => none
  | some o => if o.length = 4096 then some o else none

/-! ### The encoder (R209, R210) -/

/-- The header bits of a final block of fixed codes, and of one of dynamic codes: BFINAL, then BTYPE. -/
def staticHead : List Bool := [true, true, false]
/-- See staticHead. -/
def dynamicHead : List Bool := [true, false, true]

/-- A single final block with a given head that encodes exactly the data. -/
def encodes (head x : List Bool) (data : List Byte) : Bool :=
  decide (x.take 3 = head) && decide (inflate (packBits x) = some data)

/-- The block of fixed codes that finds no match. -/
def literalBlock (data : List Byte) : List Bool :=
  staticHead ++ data.flatMap (fun b => huffBits fixedLit b.toNat) ++ huffBits fixedLit 256

/-- The block that a form emits under fixed codes: which matches its search finds the spec leaves open, so it is a free value among the
streams that encode the data (assumption log 4). -/
def staticBlock (form : Nat) (data : List Byte) : List Bool :=
  if encodes staticHead (Config.deflate form false data) data then Config.deflate form false data else literalBlock data

/-- The block of dynamic codes that a form builds, none under STATIC (R210, R212): E1D, E2D and E3 build one. -/
def dynamicBlock (form : Nat) (data : List Byte) : Option (List Bool) :=
  if (form = 1 ∨ form = 3 ∨ form = 4) ∧ encodes dynamicHead (Config.deflate form true data) data then
    some (Config.deflate form true data)
  else none

/-- The stream of a grain: the shorter of the two blocks (R210). -/
def deflate (form : Nat) (data : List Byte) : List Byte :=
  let a := staticBlock form data
  packBits (match dynamicBlock form data with
    | none => a
    | some b => if b.length < a.length then b else a)

/-- Zero bytes fill data out to whole granules of 64 bytes (R209). -/
def toGranules (bs : List Byte) : List Byte := bs ++ List.replicate (64 * ceilDiv bs.length 64 - bs.length) 0

/-- A stream begins with a BTYPE 10 block (R210, R217). -/
def isDynamic (bs : List Byte) : Bool := decide ((bs.headD 0).toNat / 2 % 4 = 2)

end Sys2Proof.Machine
end

