-- ==== Sys2Proof/Machine/Images.lean ====
section
/-! DEFINITION. The bytes of what the write path stores: Cistern entries (R150, R151), grain headers (R217), dedup buckets (R203),
chunks and their parity (R276, R332), the records of the journal area (R270, R342), the spill directory (R165). -/

namespace Sys2Proof.Machine

/-- Bytes cut or filled with zeros to `n`. -/
def padTo (n : Nat) (bs : List Byte) : List Byte := bs.take n ++ List.replicate (n - bs.length) 0

/-- Bytes in which errors, by offset and bit mask, have flipped bits. -/
def withErrors (bs : List Byte) (errs : List (Nat × Nat)) : List Byte :=
  errs.foldl (fun l e => l.modify e.1 (· ^^^ BitVec.ofNat 8 e.2)) bs

/-- Protection information as it is kept: guard, then application tag of each sector, most significant byte first (R151, R217). -/
def piTagBytes (tags : List Nat) : List Byte := padTo 32 (tags.flatMap fun t => beBytes 2 t ++ beBytes 2 (t / 65536))

/-- The tags of `k` sectors. -/
def piTagsOf (k : Nat) (bs : List Byte) : List Nat :=
  (pieces 4 k bs).map fun x => ofBeBytes (x.take 2) + ofBeBytes (x.drop 2) * 65536

/-- The sectors of a grain that a mask names, in order. -/
def maskBits (k m : Nat) : List Nat := (List.range k).filter fun i => decide (m / 2 ^ i % 2 = 1)

/-- The grain's bytes, sectors in their places; sectors outside the mask hold zeros. `k` sectors of `b` bytes. -/
def spreadSectors (k b mask : Nat) (data : List Byte) : List Byte :=
  (List.range k).flatMap fun i =>
    if mask / 2 ^ i % 2 = 1 then padTo b (data.drop (((maskBits k mask).takeWhile (· < i)).length * b))
    else List.replicate b 0

/-! ### Grains in a Cistern entry (R151) -/

/-- The 4,096 bytes of a grain of an entry, the sectors outside its mask zero: none on DECODE_ERROR (R211, R225). -/
def Grain.bytes (k b : Nat) (g : Grain) : Option (List Byte) :=
  if g.hasData = false then some (List.replicate 4096 0)
  else if g.partGrain then some (spreadSectors k b g.mask g.body)
  else if g.raw then some (padTo 4096 g.body)
  else inflate (g.body.take (64 * g.lenGranules))

/-- A grain passes its check value (R216, R225); partial grains, zero grains and Deallocate carry none. -/
def Grain.checks (g : Grain) (data : List Byte) : Bool := !g.hasData || g.partGrain || decide (crc32c data = g.check)

/-- FLAGS of a descriptor. -/
def Grain.flags (g : Grain) : Nat :=
  g.hasData.toNat + g.raw.toNat * 2 + g.zero.toNat * 4 + g.hit.toNat * 8 + g.partGrain.toNat * 16 + g.dealloc.toNat * 32
    + g.overtaken.toNat * 64

/-- A grain descriptor, 128 bytes: its position in the part and the granule offset of its data (R151). -/
def Grain.descriptor (g : Grain) (index off : Nat) : List Byte :=
  leBytes 1 g.flags ++ leBytes 1 g.mask ++ leBytes 1 g.lenGranules ++ leBytes 1 index
    ++ leBytes 4 (if g.hasData then off else 0) ++ leBytes 8 g.dedupAddr ++ leBytes 4 g.check.toNat ++ List.replicate 12 0
    ++ beBytes 32 g.digest ++ piTagBytes g.piTags ++ List.replicate 32 0

/-- The descriptors of a part's grains; the data of the first stands at granule `off` of the entry. -/
def descriptors : List Grain → Nat → Nat → List Byte
  | [], _, _ => []
  | g :: gs, index, off => g.descriptor index off ++ descriptors gs (index + 1) (off + g.lenGranules)

/-- The data granules of a grain. -/
def Grain.data (g : Grain) : List Byte := padTo (64 * g.lenGranules) g.body

/-- The grain that a descriptor of an entry tells of: `k` sectors of protection information. -/
def readDescriptor (k : Nat) (entry d : List Byte) : Grain :=
  let f := fun i => (leAt d 0 1).testBit i
  { raw := f 1, zero := f 2, hit := f 3, partGrain := f 4, dealloc := f 5, overtaken := f 6, hasData := f 0, mask := leAt d 1 1,
    lenGranules := leAt d 2 1, dedupAddr := leAt d 8 8, check := BitVec.ofNat 32 (leAt d 16 4), digest := ofBeBytes ((d.drop 32).take 32),
    piTags := piTagsOf k (d.drop 64), body := (entry.drop (64 * leAt d 4 4)).take (64 * leAt d 2 1), policy := 0, probe := .none }

/-! ### Cistern entries (R150) -/

/-- Granules of an entry: header, descriptors, data (R150). -/
def Part.entryLen (p : Part) : Nat := 2 + 2 * p.grains.length + (p.grains.map Grain.lenGranules).sum

/-- Descriptors and data of an entry. -/
def Part.body (p : Part) : List Byte := descriptors p.grains 0 (2 + 2 * p.grains.length) ++ p.grains.flatMap Grain.data

/-- CRC-32C over `n` descriptors and the data after them, OVERTAKEN taken as 0 because it changes in place (R150, R151). -/
def bodyCrcOf (n : Nat) (body : List Byte) : Word :=
  crc32c ((pieces 128 n body).flatMap (fun d => (d.headD 0 &&& 0xBF) :: d.drop 1) ++ body.drop (128 * n))

/-- BODY_CRC of an entry. -/
def Part.bodyCrc (p : Part) : Word := bodyCrcOf p.grains.length p.body

/-- Bytes 0 to 123 of an entry's header: the owning head and its CSEQ. SEALED is set: the header is written last (R150). -/
def Part.header (p : Part) (head cseq : Nat) : List Byte :=
  ascii "CENT" ++ leBytes 4 p.entryLen ++ leBytes 8 cseq ++ leBytes 8 p.admitted.toNat ++ leBytes 4 (p.vol % 2 ^ 24)
    ++ leBytes 1 (head % 2 + p.forwarded.toNat * 2) ++ leBytes 1 (p.fua.toNat + p.atomic.toNat * 2 + 4 + p.released.toNat * 8)
    ++ leBytes 2 p.grains.length ++ leBytes 8 (p.first % 2 ^ 40) ++ leBytes 2 (p.subject % 512) ++ leBytes 2 p.queue
    ++ leBytes 2 p.cmdId ++ leBytes 2 p.gen ++ leBytes 1 (p.format % 16) ++ leBytes 1 (p.part % 16 + p.parts % 16 * 16)
    ++ List.replicate 70 0 ++ leBytes 4 p.bodyCrc.toNat

/-- The entry of a part, byte for byte (R150 to R152). -/
def Part.image (p : Part) (head cseq : Nat) : List Byte :=
  p.header head cseq ++ leBytes 4 (crc32c (p.header head cseq)).toNat ++ p.body

/-- The part that an entry's bytes tell of, whatever its CRCs say. `k` is the number of sectors of protection information. -/
def readEntry (b : List Byte) : Part :=
  let format := leAt b 48 1
  let n := leAt b 30 2
  let k := if format % 2 = 1 then (if format % 4 < 2 then 8 else 1) else 0
  let gs := (pieces 128 n (b.drop 128)).map (readDescriptor k b)
  let full := if format % 4 < 2 then 255 else 1
  { cmd := none, part := leAt b 49 1 % 16, parts := leAt b 49 1 / 16, vol := leAt b 24 3, first := leAt b 32 5, count := n,
    lock := .held, admitted := BitVec.ofNat 64 (leAt b 16 8), subject := leAt b 40 2 % 512, queue := leAt b 42 2, cmdId := leAt b 44 2,
    gen := leAt b 46 2, fua := (leAt b 29 1).testBit 0, atomic := (leAt b 29 1).testBit 1, forwarded := (leAt b 28 1).testBit 1,
    format := format % 16, piType := format / 4 % 4, grains := gs, off := none, len := leAt b 4 4, sentAt := 0, resent := false,
    tseq := none, durable := false, released := (leAt b 29 1).testBit 3, readers := 0,
    charged := (gs.filter fun g => g.hasData && decide (g.mask = full)).length, acked := true }

/-- The grains of a part that comes from an entry's bytes take the policy word of its volume: the latched one was carried in the destage
queue only (R197; DESIGN CHOICE, assumption log 88). -/
def Part.withPolicy (p : Part) (w : Nat) : Part := { p with grains := p.grains.map fun g => { g with policy := w } }

/-- CSEQ in an entry's header. -/
def entryCseq (b : List Byte) : Nat := leAt b 8 8

/-- The bytes are an entry: MAGIC, LEN, SEALED and both CRCs are as they must be (R150). -/
def entryOk (b : List Byte) : Bool :=
  decide (b.take 4 = ascii "CENT") && decide (64 * leAt b 4 4 = b.length) && (leAt b 29 1).testBit 2
    && decide (BitVec.ofNat 32 (leAt b 124 4) = crc32c (b.take 124))
    && decide (BitVec.ofNat 32 (leAt b 120 4) = bodyCrcOf (leAt b 30 2) (b.drop 128))

/-- An entry of the Cistern as a reader finds it, DRAM or media having flipped bits of it: none where it is no entry any more. -/
def Part.readBack (p : Part) (head cseq : Nat) (errs : List (Nat × Nat)) : Option Part :=
  let b := withErrors (p.image head cseq) errs
  if errs = [] then some p else if entryOk b then some { p with grains := (readEntry b).grains } else none

/-! ### Grain headers (R217) -/

/-- The 96-byte header of a stored grain whose data begins at a granule of its chunk (R217). -/
def Stored.header (x : Stored) (granule : Nat) : List Byte :=
  [0x47, 0x48] ++ leBytes 1 (x.raw.toNat + (!x.raw && isDynamic x.body).toNat * 2 + x.copied.toNat * 4) ++ leBytes 1 x.len
    ++ leBytes 2 granule ++ leBytes 1 x.cls ++ leBytes 1 (x.head % 2) ++ leBytes 8 (x.vol % 2 ^ 24 * 2 ^ 40 + x.grain % 2 ^ 40)
    ++ leBytes 8 (if x.copied then 0 else x.cseq) ++ leBytes 4 x.segSeq ++ leBytes 4 x.check.toNat ++ beBytes 32 x.digest
    ++ piTagBytes x.piTags

/-- The 96-byte header of a metadata object (R278). -/
def metaHeader (typ obj tseq granule len segSeq : Nat) (body : List Byte) : List Byte :=
  [0x4D, 0x48] ++ leBytes 1 typ ++ leBytes 1 len ++ leBytes 2 granule ++ leBytes 2 0 ++ leBytes 8 obj ++ leBytes 8 tseq
    ++ leBytes 4 segSeq ++ leBytes 4 (crc32c body).toNat ++ List.replicate 64 0

/-- The header under which a chunk's table holds what begins at a granule: a grain's, or that of a metadata object. -/
def Stored.tableHeader (x : Stored) (granule : Nat) : List Byte :=
  match x.obj with
  | none => x.header granule
  | some (typ, obj, tseq) => metaHeader typ obj tseq granule x.len x.segSeq (x.body.take (64 * x.len))

/-- A metadata object as it is stored (R278). -/
def metaStored (head typ obj tseq : Nat) (body : List Byte) : Stored :=
  { raw := true, copied := false, len := ceilDiv body.length 64, cls := 0, head := head, vol := 0, grain := 0, cseq := 0, segSeq := 0,
    check := crc32c body, digest := 0, piTags := [], body := body, poison := false, obj := some (typ, obj, tseq) }

/-- A grain header agrees with the grain address: MAGIC, LEN_GRANULES, DATA_GRANULE and RAW (R231). -/
def headerAgrees (h : List Byte) (granule len : Nat) (raw : Bool) : Bool :=
  decide (h.take 2 = [0x47, 0x48] ∧ leAt h 3 1 = len ∧ leAt h 4 2 = granule ∧ (leAt h 2 1).testBit 0 = raw)

/-- CHECK in a grain header. -/
def headerCheck (h : List Byte) : Word := BitVec.ofNat 32 (leAt h 28 4)

/-- The 4,096 bytes of a stored grain: none on DECODE_ERROR (R211, R214). -/
def grainBytes (raw : Bool) (len : Nat) (body : List Byte) : Option (List Byte) :=
  if raw then some (padTo 4096 body) else inflate (body.take (64 * len))

/-- The bytes of a stored grain: none where it is poison or does not decode. -/
def Stored.bytes (x : Stored) : Option (List Byte) := if x.poison then none else grainBytes x.raw x.len x.body

/-! ### Chunks and parity (R276, R332) -/

/-- The first granule of the header table of `count` headers (R276). -/
def tableAt (count : Nat) : Nat := 1023 - ceilDiv (96 * count) 64

/-- The data granules of a chunk's grains, given with their first granules in rising order, with zeros between (R276). -/
def chunkData : List (Nat × Stored) → Nat → List Byte
  | [], _ => []
  | (g, x) :: l, at_ => List.replicate (64 * (g - at_)) 0 ++ padTo (64 * x.len) x.body ++ chunkData l (g + x.len)

/-- The 64-byte trailer of a chunk without its CRC: "CHNM" in META segments (R276). -/
def trailer (isMeta : Bool) (count segSeq page position pool : Nat) (stride : DWord) : List Byte :=
  ascii (if isMeta then "CHNM" else "CHNK") ++ leBytes 2 count ++ leBytes 2 (tableAt count) ++ leBytes 4 segSeq ++ leBytes 2 page ++ leBytes 1 position
    ++ leBytes 1 pool ++ leBytes 8 stride.toNat ++ List.replicate 36 0

/-- A data chunk of 65,536 bytes: data granules, zero pad, header table, trailer (R276). -/
def chunkImage (isMeta : Bool) (l : List (Nat × Stored)) (segSeq page position pool : Nat) (stride : DWord) : List Byte :=
  let table := l.flatMap fun x => x.2.tableHeader x.1
  let t := trailer isMeta l.length segSeq page position pool stride
  padTo (64 * tableAt l.length) (chunkData l 0) ++ padTo (64 * (1023 - tableAt l.length)) table ++ t
    ++ leBytes 4 (crc32c (table ++ t)).toNat

/-- Bytewise sum of two chunks. -/
def xorBytes (a b : List Byte) : List Byte := List.zipWith (· ^^^ ·) a b

/-- P: the bytewise XOR of the data chunks (R332). -/
def parityP (ds : List (List Byte)) : List Byte := ds.foldl xorBytes (List.replicate 65536 0)

/-- Multiplication by g = 0x02 in GF(2^8) with reduction polynomial 0x11D (R332). -/
def gfDouble (b : Byte) : Byte := (b <<< 1) ^^^ (if b.getLsbD 7 then 0x1D else 0)

/-- Q: the bytewise sum of g^i times the data chunk at position i (R332), by Horner's rule from the last position on. -/
def parityQ : List (List Byte) → List Byte
  | [] => List.replicate 65536 0
  | d :: ds => xorBytes d ((parityQ ds).map gfDouble)

/-- The chunks of a stripe by position: the data chunks, and what the layout adds; a mirror repeats its chunk (R330 to R332). -/
def stripeChunks (layout w : Nat) (ds : List (List Byte)) : List (List Byte) :=
  match layout with
  | 2 => ds ++ [parityP ds]
  | 3 => ds ++ [parityP ds, parityQ ds]
  | _ => List.replicate w (ds.headD [])

/-! ### Codewords (R248, R337) -/

/-- A codeword of 2,048 data bytes with its parity; a poison codeword carries the complement of the parity. -/
def codeword (poison : Bool) (d : List Byte) : List Byte :=
  let p := leBytes 256 (Config.ldpcParity (BitVec.ofNat 16384 (ofLeBytes d))).toNat
  padTo 2048 d ++ if poison then p.map (~~~ ·) else p

/-- The 32 codewords of a chunk, lowest plane first; those listed are poison (R247, R248). -/
def codewords (poison : List Nat) (chunk : List Byte) : List Byte :=
  ((pieces 2048 32 chunk).mapIdx fun i d => codeword (decide (i ∈ poison)) d).flatten

/-- The codewords over which the poison grains of a chunk lie (R335). -/
def poisonWords (l : List (Nat × Stored)) : List Nat :=
  l.flatMap fun x => if x.2.poison then (List.range (ceilDiv x.2.len 32)).map (x.1 / 32 + ·) else []

/-! ### Records of the journal area and the journal band (R270, R341, R342) -/

/-- An operation of a map record, 24 bytes (R270). -/
def MapOp.image : MapOp → List Byte
  | .setGrain _ g new old => [1, 0, 0] ++ leBytes 5 g ++ leBytes 8 new ++ leBytes 8 old
  | .setSlot page slot new old => [2] ++ leBytes 2 slot ++ leBytes 5 page ++ leBytes 8 new ++ leBytes 8 old
  | .diverge page copy => [3, 0, 0] ++ leBytes 5 page ++ leBytes 8 copy ++ leBytes 8 0
  | .segState seg st => [4, 0, 0] ++ leBytes 5 seg ++ leBytes 8 st ++ leBytes 8 0
  | .snapCreate target source cut => [5, 0, 0] ++ leBytes 5 target ++ leBytes 8 source ++ leBytes 8 cut
  | .snapStep vol visit => [6, 0, 0] ++ leBytes 5 vol ++ leBytes 8 (visit.headD 0) ++ leBytes 8 0
  | .refChange addr delta _ => leBytes 24 (Config.refOp addr delta).toNat

/-- Bytes of a record (R270). -/
def Txn.len (t : Txn) : Nat := 44 + 24 * t.ops.length

/-- A map record: header, operations, CRC-32C (R270). -/
def Txn.image (t : Txn) : List Byte :=
  let b := leBytes 4 t.len ++ leBytes 2 t.ops.length ++ leBytes 1 (t.pool % 16) ++ leBytes 1 t.flags ++ leBytes 8 t.tseq
    ++ leBytes 8 t.stride.toNat ++ leBytes 8 (if t.flags = 1 then t.cseq else 0) ++ leBytes 4 (t.vol % 2 ^ 24) ++ leBytes 4 0
    ++ t.ops.flatMap MapOp.image
  b ++ leBytes 4 (crc32c b).toNat

/-- An in-flight stripe record, 40 bytes (R342). -/
def StrRec.image (r : StrRec) : List Byte :=
  let b := leBytes 4 40 ++ leBytes 2 0 ++ leBytes 1 r.kind ++ leBytes 1 (r.pool % 16) ++ leBytes 4 r.seg ++ leBytes 4 r.segSeq
    ++ leBytes 2 r.page ++ leBytes 1 r.members ++ leBytes 1 r.position ++ leBytes 4 (r.mask % 2 ^ 24) ++ leBytes 8 r.stride.toNat
    ++ leBytes 4 0
  b ++ leBytes 4 (crc32c b).toNat

/-- A page set of the journal band: its header, then the records end to end (R341). -/
def pageSetImage (pool head bseq first : Nat) (stride : DWord) (records : List Byte) : List Byte :=
  let h := ascii "JBND" ++ leBytes 1 (pool % 16) ++ leBytes 1 (head % 2) ++ leBytes 2 0 ++ leBytes 8 bseq ++ leBytes 8 stride.toNat
    ++ leBytes 8 first ++ leBytes 4 records.length ++ List.replicate 24 0
  padTo 65536 (h ++ leBytes 4 (crc32c (h ++ records)).toNat ++ records)

/-! ### Metadata objects (R267, R273, R274, R279, R280) -/

/-- A map page: 512 entries of 8 bytes (R265, R266). -/
def MapPage.image (p : MapPage) : List Byte := (List.range 512).flatMap fun i => leBytes 8 (p.entries.getD i 0)

/-- The page table's entry of a page, 16 bytes; zero where no page has the ID (R267). -/
def tableEntry : Option MapPage → List Byte
  | none => List.replicate 16 0
  | some p => leBytes 8 p.addr ++ leBytes 4 p.share ++ leBytes 1 p.level ++ leBytes 1 1 ++ leBytes 2 0

/-- PLACE of a member: DIE, first block of the block group, MODULE (R274). -/
def Place.word (p : Place) : Nat := p.die % 1024 + p.bgrp % 16384 * 2 ^ 10 + p.module % 32 * 2 ^ 24

/-- The segment table's entry of a segment, 128 bytes; zero where there is none (R274). -/
def segEntry : Option Seg → List Byte
  | none => List.replicate 128 0
  | some g => leBytes 4 g.seq ++ leBytes 1 g.state.code ++ leBytes 1 g.kind ++ leBytes 1 (g.pool % 16) ++ leBytes 1 g.place.length
      ++ leBytes 2 g.stripes ++ leBytes 2 0 ++ leBytes 4 (g.live / 2) ++ leBytes 8 g.openStride.toNat ++ leBytes 8 g.closeStride.toNat
      ++ (List.range 24).flatMap fun k => leBytes 4 ((g.place[k]?).elim 0 Place.word)

/-- The 32-byte record of a block group (R300). -/
def BlockGroup.image (b : BlockGroup) : List Byte :=
  let st := match b.st with | .good => 0 | .suspect => 1 | .retired => 2 | .band => 3
  leBytes 4 b.erases ++ leBytes 1 st ++ leBytes 1 (b.bin % 8)
    ++ leBytes 1 (b.slc.toNat + 2 * b.prio.toNat + 4 * b.refresh.toNat + 8 * b.covered.toNat) ++ leBytes 1 b.suspLeft
    ++ leBytes 6 b.progCal ++ leBytes 2 (toField 16 b.progTemp) ++ leBytes 4 (b.retAge / 65536) ++ leBytes 4 b.reads
    ++ ((List.range 4).flatMap fun i => leBytes 1 (toField 8 ((b.trim[i]?).getD 0))) ++ leBytes 2 b.corrMax ++ leBytes 2 b.cover

/-- The 64-byte calibration table of a die: 8 bins, the active slot and the offsets of levels 1 to 7 (R300). -/
def Die.calTable (d : Die) : List Byte :=
  (List.range 8).flatMap fun b =>
    match d.bins.find b with
    | none => List.replicate 8 0
    | some c => leBytes 1 (c.active % 2) ++ (List.range 7).flatMap fun i => leBytes 1 (toField 8 ((c.offs[i]?).getD 0))

/-- The 48 bytes of a loss list entry with its CRC (R353). -/
def Loss.bytes (x : Loss) : List Byte :=
  let b := leBytes 8 x.addr ++ leBytes 8 (x.page + x.slot * 2 ^ 40)
    ++ leBytes 8 (if x.resolved then x.grain + x.vol * 2 ^ 40 else 0) ++ leBytes 8 x.stride.toNat ++ leBytes 1 x.cause
    ++ leBytes 1 (x.resolved.toNat + 2 * x.cleared.toNat) ++ leBytes 10 0
  b ++ leBytes 4 (crc32c b).toNat

/-- A chunk summary: the START map, then the counts of the grains that start in the chunk, in start order (R280). -/
def summaryImage (grains : List (Nat × Nat)) : List Byte :=
  leBytes 128 ((grains.map fun g => 2 ^ g.1).sum) ++ grains.flatMap fun g => leBytes 4 g.2

/-- A pool root, 512 bytes (R279). -/
def rootImage (pool paddock tseq : Nat) (stride : DWord) (tables : List Nat) : List Byte :=
  let b := ascii "ROOT" ++ leBytes 1 (pool % 16) ++ leBytes 1 paddock ++ leBytes 2 0 ++ leBytes 8 tseq ++ leBytes 8 stride.toNat
    ++ padTo 64 (tables.flatMap (leBytes 8)) ++ List.replicate 420 0
  b ++ leBytes 4 (crc32c b).toNat

/-! ### Replication (R390, R396) -/

/-- Bytes 0 to 59 of a replication record's header, of a record of `len` bytes (R390). -/
def recordHead (group rseq batch rvol len : Nat) (bodyCrc : List Byte) : List Byte :=
  ascii "RREC" ++ leBytes 4 len ++ leBytes 8 rseq ++ leBytes 8 batch ++ leBytes 1 group ++ leBytes 3 0 ++ leBytes 4 (rvol % 2 ^ 24)
    ++ List.replicate 24 0 ++ bodyCrc

/-- A replication record: its header, with a copy of the entry's BODY_CRC, and the entry byte for byte (R390). -/
def recordImage (group rseq batch rvol : Nat) (entry : List Byte) : List Byte :=
  let h := recordHead group rseq batch rvol (64 + entry.length) ((entry.drop 120).take 4)
  h ++ leBytes 4 (crc32c h).toNat ++ entry

/-- A received record passes HCRC, and its entry the CRCs of an entry, BODY_CRC agreeing with the header's copy (R390, R401). -/
def recordOk (b : List Byte) : Bool :=
  decide (b.take 4 = ascii "RREC" ∧ leAt b 4 4 = b.length ∧ leAt b 60 4 = (crc32c (b.take 60)).toNat ∧ leAt b 56 4 = leAt b (64 + 120) 4)
    && entryOk (b.drop 64)

/-- The 32 bytes of a reply of the remote (R396). -/
def replyImage (group kind value : Nat) (now : DWord) : List Byte :=
  let b := leBytes 1 kind ++ leBytes 1 group ++ leBytes 6 0 ++ leBytes 8 value ++ leBytes 8 now.toNat ++ leBytes 4 0
  b ++ leBytes 4 (crc32c b).toNat

/-! ### Dedup buckets (R203) -/

/-- One entry of a bucket, 48 bytes. -/
def DdEntry.image (e : DdEntry) : List Byte :=
  beBytes 32 e.digest ++ leBytes 8 e.target ++ leBytes 4 (if e.pending then 0 else e.segSeq) ++ leBytes 1 e.pool ++ leBytes 1 e.cls
    ++ leBytes 1 (if e.pending then 2 else 1) ++ leBytes 1 e.hits

/-- Bytes 4 to 255 of a bucket. -/
def DdBucket.body (b : DdBucket) : List Byte :=
  leBytes 1 b.hand ++ List.replicate 11 0 ++ (List.range 5).flatMap fun i => (b.slots.find i).elim (List.replicate 48 0) DdEntry.image

/-- A bucket as head DRAM holds it, 256 bytes, CRC first (R203). -/
def DdBucket.image (b : DdBucket) : List Byte := leBytes 4 (crc32c b.body).toNat ++ b.body

/-- A bucket's bytes pass their CRC (R201, R203). -/
def bucketOk (bs : List Byte) : Bool := decide (bs.length = 256 ∧ BitVec.ofNat 32 (leAt bs 0 4) = crc32c (bs.drop 4))

/-- A record of a merge log or of the flash tier: the same 48 bytes, VALID, HITS 0 (R208). -/
def DdRec.image (r : DdRec) (pool : Nat) : List Byte :=
  DdEntry.image { digest := r.digest, target := r.target, segSeq := r.segSeq, pool := pool, cls := r.cls, pending := false, hits := 0 }

end Sys2Proof.Machine
end

