-- ==== Sys2Proof/Machine/Flags.lean ====
section
/-! DEFINITION. The status codes with which commands complete, and the NVMe status type, status code and DNR of each
(R109). -/

namespace Sys2Proof.Machine.St

def success : Nat := 0x0000
def invalidOpcode : Nat := 0x1001
def invalidField : Nat := 0x1002
def lbaOutOfRange : Nat := 0x1003
def lengthMismatch : Nat := 0x1004
def atomicBoundary : Nat := 0x1005
def piGuard : Nat := 0x2001
def piRefTag : Nat := 0x2002
def piAppTag : Nat := 0x2003
def unrecoveredRead : Nat := 0x2004
def checkValue : Nat := 0x2005
def spaceExhausted : Nat := 0x3001
def poolReadOnly : Nat := 0x3002
def quota : Nat := 0x3003
def busyRetry : Nat := 0x3004
def forwarded : Nat := 0x4001
def headFenced : Nat := 0x4002
def generationStale : Nat := 0x4003
def abortedByReset : Nat := 0x5001
def abortedByHost : Nat := 0x5002

/-- NVMe status code type, status code and DNR of a status (R109); none where NVMe queues never return it. -/
def nvme (code : Nat) : Option (Nat × Nat × Bool) :=
  if code = success then some (0x0, 0x00, false)
  else if code = invalidOpcode then some (0x0, 0x01, true)
  else if code = invalidField then some (0x0, 0x02, true)
  else if code = lbaOutOfRange then some (0x0, 0x80, true)
  else if code = lengthMismatch then some (0x0, 0x0F, true)
  else if code = piGuard then some (0x2, 0x82, true)
  else if code = piRefTag then some (0x2, 0x84, true)
  else if code = piAppTag then some (0x2, 0x83, true)
  else if code = unrecoveredRead then some (0x2, 0x81, true)
  else if code = checkValue then some (0x2, 0x81, true)
  else if code = spaceExhausted then some (0x0, 0x81, true)
  else if code = poolReadOnly then some (0x0, 0x20, true)
  else if code = busyRetry then some (0x0, 0x21, false)
  else if code = headFenced then some (0x3, 0x02, false)
  else if code = abortedByReset then some (0x0, 0x08, false)
  else if code = abortedByHost then some (0x0, 0x07, true)
  else none

end Sys2Proof.Machine.St
end

