-- ==== Sys2Proof/Machine/PageMap.lean ====
section
/-! DEFINITION. The 251 register pages of PF0's 16 MiB BAR (R50), their block types and page numbers, the units of a
multi-unit page, which instances and units are spare slots (R52), and PG_CAPS.CAN_FREEZE and HAS_INJECT (R545). -/

namespace Sys2Proof.Machine

/-- The kinds of register page (R50). -/
inductive PageKind where
  | chipId | stride | calendar | life
  | guard | studbook | tack | remount | svc | fwu | kde | keyslot
  | fnmgr | eth | rma | ctxc | weir | pcie | legq
  | ingest | cistern | digp | dedup | comp | decomp | read | cam
  | mlink | ldpc | ftl | patrol | health | wear | stripe
  | ddrc | mcache
  | tlink | rein | fence | repl
  | core
  deriving DecidableEq, Repr

/-- One row of the page map (R50, R545). -/
structure PageRow where
  kind : PageKind
  /-- BAR offset of the first instance. -/
  base : Nat
  /-- Instances, one per 0x1000. -/
  count : Nat
  /-- Block type; its upper byte is the domain code (R51). -/
  btype : Nat
  /-- Page number of the first instance. -/
  first : Nat
  /-- Units in the page, spare units included; 0 where the page is not multi-unit. -/
  units : Nat
  /-- Instances (or, in a multi-unit page, units) in service; the rest are spare slots (R52). -/
  inService : Nat
  /-- PG_CAPS.CAN_FREEZE (R545). -/
  canFreeze : Bool
  /-- PG_CAPS.HAS_INJECT (R545). -/
  hasInject : Bool
  deriving DecidableEq, Repr

/-- The page map (R50) with the capabilities of R545. -/
def pageRows : List PageRow :=
  [ ⟨.chipId,   0x000000, 1,  0x0001, 0,   0,  1,  false, false⟩,
    ⟨.stride,   0x001000, 1,  0x0002, 1,   0,  1,  false, false⟩,
    ⟨.calendar, 0x002000, 1,  0x0003, 2,   0,  1,  false, false⟩,
    ⟨.life,     0x003000, 1,  0x0004, 3,   0,  1,  false, false⟩,
    ⟨.guard,    0x010000, 1,  0x0101, 4,   0,  1,  false, false⟩,
    ⟨.studbook, 0x011000, 1,  0x0102, 5,   0,  1,  false, false⟩,
    ⟨.tack,     0x012000, 1,  0x0103, 6,   0,  1,  false, false⟩,
    ⟨.remount,  0x013000, 1,  0x0104, 7,   0,  1,  false, false⟩,
    ⟨.svc,      0x014000, 1,  0x0105, 8,   0,  1,  false, false⟩,
    ⟨.fwu,      0x015000, 1,  0x0106, 9,   0,  1,  false, false⟩,
    ⟨.kde,      0x016000, 1,  0x0107, 10,  0,  1,  false, true⟩,
    ⟨.keyslot,  0x017000, 1,  0x0108, 11,  0,  1,  false, false⟩ ] ++
  [ ⟨.fnmgr,    0x100000, 1,  0x0201, 12,  0,  1,  false, false⟩,
    ⟨.eth,      0x101000, 8,  0x0202, 13,  0,  8,  true,  false⟩,
    ⟨.rma,      0x109000, 1,  0x0203, 21,  0,  1,  false, false⟩,
    ⟨.ctxc,     0x10A000, 1,  0x0204, 22,  0,  1,  false, false⟩,
    ⟨.weir,     0x10B000, 1,  0x0205, 23,  0,  1,  false, false⟩,
    ⟨.pcie,     0x10C000, 1,  0x0206, 24,  0,  1,  false, true⟩,
    ⟨.legq,     0x110000, 63, 0x0207, 25,  0,  63, false, false⟩ ] ++
  [ ⟨.ingest,   0x200000, 1,  0x0301, 88,  0,  1,  true,  false⟩,
    ⟨.cistern,  0x201000, 1,  0x0302, 89,  0,  1,  false, false⟩,
    ⟨.digp,     0x202000, 1,  0x0303, 90,  18, 16, true,  true⟩,
    ⟨.dedup,    0x203000, 1,  0x0304, 91,  0,  1,  true,  false⟩,
    ⟨.comp,     0x204000, 1,  0x0305, 92,  18, 16, true,  true⟩,
    ⟨.decomp,   0x205000, 1,  0x0306, 93,  34, 32, true,  true⟩,
    ⟨.read,     0x206000, 1,  0x0307, 94,  0,  1,  true,  true⟩,
    ⟨.cam,      0x210000, 17, 0x0308, 95,  0,  16, true,  true⟩ ] ++
  [ ⟨.mlink,    0x300000, 24, 0x0401, 112, 0,  24, true,  true⟩,
    ⟨.ldpc,     0x320000, 1,  0x0402, 136, 52, 48, true,  true⟩,
    ⟨.ftl,      0x321000, 1,  0x0403, 137, 0,  1,  false, false⟩,
    ⟨.patrol,   0x322000, 1,  0x0404, 138, 0,  1,  true,  false⟩,
    ⟨.health,   0x323000, 1,  0x0405, 139, 0,  1,  false, false⟩,
    ⟨.wear,     0x324000, 1,  0x0406, 140, 0,  1,  false, false⟩,
    ⟨.stripe,   0x325000, 1,  0x0407, 141, 9,  8,  true,  true⟩ ] ++
  [ ⟨.ddrc,     0x400000, 8,  0x0501, 142, 0,  8,  false, true⟩,
    ⟨.mcache,   0x408000, 1,  0x0502, 150, 0,  1,  false, true⟩,
    ⟨.tlink,    0x500000, 1,  0x0601, 151, 0,  1,  false, true⟩,
    ⟨.rein,     0x501000, 1,  0x0602, 152, 0,  1,  false, false⟩,
    ⟨.fence,    0x502000, 1,  0x0603, 153, 0,  1,  false, false⟩,
    ⟨.repl,     0x503000, 1,  0x0604, 154, 0,  1,  false, false⟩,
    ⟨.core,     0x700000, 96, 0x0701, 155, 0,  88, true,  false⟩ ]

/-- The row that holds page number `p`. -/
def pageRowOf (p : Nat) : Option PageRow :=
  pageRows.find? fun r => decide (r.first ≤ p) && decide (p < r.first + r.count)

/-- The row and page number of the page that holds a BAR offset; none where the offset lies in no page (R54). -/
def pageAt (off : Nat) : Option (PageRow × Nat) :=
  match pageRows.find? fun r => decide (r.base ≤ off) && decide (off < r.base + r.count * 0x1000) with
  | none => none
  | some r => some (r, r.first + (off - r.base) / 0x1000)

/-- The BAR offset of page number `p`; 0 for a number of no page. -/
def pageBase (p : Nat) : Nat :=
  match pageRowOf p with
  | none => 0
  | some r => r.base + (p - r.first) * 0x1000

/-- The instance number of page `p` (PG_IDENT.INSTANCE). -/
def pageInstance (p : Nat) : Nat :=
  match pageRowOf p with
  | none => 0
  | some r => p - r.first

/-- The domain code of a page (R51). -/
def pageDomain (p : Nat) : Nat :=
  match pageRowOf p with
  | none => 0
  | some r => r.btype / 256

/-- Chip and Service pages: enabled at every reset (R546). -/
def pageAlwaysOn (p : Nat) : Bool := decide (pageDomain p ≤ 1)

/-- The page numbers, 0 to 250. -/
def pageNumbers : List Nat := List.range 251

/-- Is the page a spare slot, CORE88 to CORE95 or CAM16 (R52)? -/
def pageIsSpareSlot (p : Nat) : Bool :=
  match pageRowOf p with
  | none => false
  | some r => decide (r.units = 0) && decide (r.inService ≤ p - r.first)

/-- The codes of PG_STATE.STATE (R59). -/
inductive PState where
  | off | init | run | degraded | fenced | retired | spare
  deriving DecidableEq, Repr

/-- The code of a page state (R59). -/
def PState.code : PState → Nat
  | .off => 0 | .init => 1 | .run => 2 | .degraded => 3 | .fenced => 4 | .retired => 5 | .spare => 6

/-- The page state of a code (R59). -/
def PState.ofCode : Nat → PState
  | 0 => .off | 1 => .init | 2 => .run | 3 => .degraded | 4 => .fenced | 5 => .retired | _ => .spare

end Sys2Proof.Machine
end

