-- ==== Sys2Proof/Machine/PartsChip.lean ====
section
/-! DEFINITION. State of the Chip and Service domains that no register shows: the calendar's trim accumulator, page
initialisation, the fault ladder, activities, the remount engine, the studbook and what the boot NOR devices hold
(01_stride_and_time.md, 02_register_pages.md, 16_resilience_and_records.md). -/

namespace Sys2Proof.Machine

/-- The fields of a lifetime slot (R46). -/
structure LifeSlot where
  seq : Nat
  stride : DWord
  cal : Nat
  pwrStrides : DWord
  pwrCycles : Word
  resets : Word
  remounts : Word
  tjMax : Word
  tempBand : List Word
  modWr : List DWord
  deriving DecidableEq, Repr

/-- The stride, calendar and lifetime state outside the registers (01_stride_and_time.md). -/
structure ClockSt where
  /-- The partner's number in the beat received in ACQUIRE, and the own number of that stride (R31, R35). -/
  adopt : Option (DWord × DWord)
  /-- How far the own commit point has been moved, in ps (R34). -/
  phase : Int
  /-- Consecutive edges in SLEW within 20 ns (R35). -/
  inBand : Nat
  /-- The partner has been declared lost (R35). -/
  partnerLost : Bool
  /-- Accumulated trim, in ppb of a tick (R40). -/
  trimAcc : Int
  /-- The oscillator is stopped: the counts hold until the next tick restarts them from 0 (R41). -/
  oscStopped : Bool
  /-- Consecutive overruns of an instance: key page * 256 + unit, (stride of the last, run length) (R28). -/
  ovrRun : Amap (DWord × Nat)
  /-- Engine clocks charged against the new stride's budget, with the stride they are charged in (R27). -/
  ovrDebt : Amap (DWord × Nat)
  /-- The save under way: slot and contents (R45). -/
  lifeSave : Option (Nat × LifeSlot)
  /-- The lifetime area on the boot NOR device of slot A, then of slot B: the 4,096 bytes of every slot written (R45, R46). -/
  lifeA : Amap (List Byte)
  lifeB : Amap (List Byte)
  deriving DecidableEq, Repr

/-- Page machinery outside the registers (02_register_pages.md). -/
structure PageSt where
  /-- Commit point that acted on ENABLE, for each page in INIT (R62). -/
  initAt : Amap DWord
  /-- Pages whose pending commit is gated (R37). -/
  gated : List Nat
  /-- Pages whose initialisation is complete: the next commit point takes them to RUN (R62). -/
  ready : List Nat
  /-- Disabled pages whose started work has finished: the next commit point takes them to OFF (R62). -/
  drained : List Nat
  deriving DecidableEq, Repr

/-- States of a ladder entry (R484). -/
inductive LadSt where
  | pending | handling | preempted
  deriving DecidableEq, Repr

/-- One entry of the ladder queue (R454). -/
structure LadEntry where
  page : Nat
  sub : Nat
  code : Nat
  level : Nat
  first : DWord
  /-- Repeats merged, saturating at 0xFFFF (GD_Q_ENTRY1). -/
  count : Nat
  st : LadSt
  escalated : Bool
  /-- SEQ of the record of the entry's first fault (R473 REF_SEQ). -/
  recSeq : Nat
  /-- A handling step has been taken: what the next commit point runs (R455). -/
  step : Nat
  /-- Studbook offset up to which the flush it started programs (R453). -/
  flushTo : Nat := 0
  deriving DecidableEq, Repr

/-- How a maintenance activity stands (R465, R466). -/
inductive ActSt where
  | running | queued | paused | unadmitted
  deriving DecidableEq, Repr

/-- A maintenance activity running or queued (R465-R467). -/
structure Activity where
  code : Nat
  /-- Pool of a pool-scoped activity. -/
  pool : Nat
  /-- Volumes named (R466). -/
  vols : List Nat
  /-- Replication group of a REPL_RESYNC. -/
  group : Option Nat
  st : ActSt
  /-- The command of a command activity: its OP and argument block as read at its write. -/
  op : Nat
  args : List Byte
  deriving DecidableEq, Repr

/-- Phases of a remount (R461, R486). -/
inductive RmPhase where
  | drain | copy | switch
  deriving DecidableEq, Repr

/-- A remount due or under way (R459-R461, R473). -/
structure RmJob where
  page : Nat
  sub : Nat
  /-- KIND of R460. -/
  kind : Nat
  phase : RmPhase
  /-- 0 L3; 1 L2 with AUTO; 2 software; 3 trend (R473). -/
  trigger : Nat
  start : DWord
  faultSeq : Nat
  /-- Spare unit, or page of the spare slot, that it takes; a bank taken from the dedup group (R187). -/
  slot : Nat
  steal : Bool
  /-- It completes an RM_CMD (R486). -/
  cmd : Bool
  /-- Drain has begun. -/
  begun : Bool
  deriving DecidableEq, Repr

/-- The remount map: physical unit and STATE of every logical core, CAM bank and engine unit that differs from reset, and
the SRAM row repairs (R463). -/
structure RmMap where
  seq : Nat
  /-- PG_SPARE and unit map words by register number. -/
  words : Amap Word
  /-- Pages in RETIRED. -/
  retired : List Nat
  /-- SRAM row repairs, newest first: macro * 65536 + row. -/
  rows : List Nat
  crcOk : Bool
  deriving DecidableEq, Repr

/-- The GUARD and REMOUNT state (16_resilience_and_records.md). -/
structure GuardSt where
  /-- The ladder queue, oldest first (R454). -/
  ladder : List LadEntry
  /-- Pairs page * 65536 + code recorded at L0 or L1 since power-on, at most 4,096 (R453). -/
  firsts : List Nat
  /-- Running and queued activities, in the order they were taken (R467). -/
  acts : List Activity
  /-- The remount under way (R459). -/
  job : Option RmJob
  /-- Remounts due while another is under way (R459). -/
  waiting : List RmJob
  /-- No remount starts until the next reset: a fence or a Spillway came (R464). -/
  noRemount : Bool
  /-- The fault record that made a unit a DEGRADED candidate: key page * 256 + sub (R459). -/
  candidates : Amap Nat
  /-- SRAM row repairs of this life, newest first: macro * 65536 + row (R462). -/
  rows : List Nat
  /-- SRAM row repair in progress: macro, row, spare, trigger (R462). -/
  rowJob : List (Nat × Nat × Nat × Nat)
  /-- The remount map kept in the always-on island and its copies on the boot NOR devices of slots A and B (R463). -/
  mapAon : RmMap
  mapA : RmMap
  mapB : RmMap
  deriving DecidableEq, Repr

/-- One studbook record (R471), with the offset it begins at. -/
structure StbRec where
  off : Nat
  len : Nat
  typ : Nat
  seq : Nat
  stride : DWord
  cal : Nat
  sev : Nat
  src : Nat
  /-- Payload from offset 24 (R472, R473). -/
  payload : List Byte
  deriving DecidableEq, Repr

/-- The studbook (R470-R479). -/
structure StudSt where
  /-- Records in order of writing. -/
  recs : List StbRec
  /-- Offset just beyond the last whole record. -/
  endOff : Nat
  /-- SEQ of the last record. -/
  lastSeq : Nat
  /-- Offset up to which each device holds the records (devices 0 and 1). -/
  dev0 : Nat
  dev1 : Nat
  /-- A device has been marked failed (R474). -/
  dev0Ok : Bool
  dev1Ok : Bool
  /-- Offset up to which the flush under way programs (R474). -/
  flushTo : Option Nat
  /-- A trigger arrived during a flush (R474). -/
  flushAgain : Bool
  /-- STB_CTRL.FLUSH was written during the flush under way (R474, R485). -/
  ctrlAgain : Bool
  /-- Offset asked for and not yet in the window (R476). -/
  window : Option Nat
  /-- Bytes of software records in the calendar day held in `appDay` (R478). -/
  appDay : Nat
  appBytes : Nat
  /-- FULL has been written: no further record (R477). -/
  full : Bool
  /-- The CRC of the studbook buffer is valid (R475). -/
  bufOk : Bool
  deriving DecidableEq, Repr

/-- One entry of a tack image (R480). -/
structure TackEntry where
  page : Nat
  off : Nat
  value : Word
  deriving DecidableEq, Repr

/-- The tack image copies on the boot NOR devices, as the bytes they hold; nothing for erased flash (R480). -/
structure TackSt where
  copyA : List Byte
  copyB : List Byte
  /-- The image in use: the copy that the last bring-up applied (R481). -/
  inUse : List Byte
  deriving DecidableEq, Repr

end Sys2Proof.Machine
end

