-- ==== Sys2Proof/Machine/Emit.lean ====
section
/-! DEFINITION. What the chip sends out: messages, completions, host memory writes, link records, module commands. The
model keeps them as a list, the newest first, because the outside is no part of the state (assumption log 2). -/

namespace Sys2Proof.Machine

/-- A power state as Identify describes it: non-operational, entry and exit latency in microseconds, maximum power (R105). -/
structure PowerDesc where
  nops : Bool
  enlat : Nat
  exlat : Nat
  mp : Nat
  deriving DecidableEq, Repr

/-- Identity data of a controller: the items of R100, R103, R105 and R133 that Identify returns. -/
structure IdentCtrl where
  ver : Nat
  /-- SGLs for I/O commands with byte-aligned data blocks; keyed descriptors; in-capsule offsets. -/
  sgls : Bool
  sglKeyed : Bool
  sglOffset : Bool
  /-- PRPs are accepted too. -/
  prps : Bool
  /-- Asymmetric Namespace Access is supported. -/
  ana : Bool
  /-- Power states 0 to NPSS. -/
  power : List PowerDesc
  /-- The capsule sizes of a fabrics controller, in 16-byte units, and its other limits; 0 on a PCIe function. -/
  ioccsz : Nat
  iorcsz : Nat
  msdbd : Nat
  kas : Nat
  mdts : Nat
  aerl : Nat
  npss : Nat
  vwc : Nat
  awun : Nat
  awupf : Nat
  acwu : Nat
  queues : Nat
  deriving DecidableEq, Repr

/-- Identity data of a namespace (R100, R103, R227). -/
structure IdentNs where
  /-- Sectors. -/
  size : Nat
  /-- The LBA formats on offer, data and metadata bytes; metadata in separate buffers is on offer beside interleaved. -/
  formats : List (Nat × Nat)
  metaSeparate : Bool
  lbaf : Nat
  nsfeat : Nat
  nawun : Nat
  nawupf : Nat
  nacwu : Nat
  nabsn : Nat
  nabo : Nat
  nabspf : Nat
  noiob : Nat
  dlfeat : Nat
  /-- ANA group: one per volume. -/
  anagrp : Nat
  deriving DecidableEq, Repr

/-- One thing sent out of the chip. -/
inductive Emit where
  /-- An MSI-X message of a function (R74, R87, R97). -/
  | msix (fn vec : Nat)
  /-- The value that a register read returned: BAR offset, value (R15, R16, R53). -/
  | regRead (off value : Nat)
  /-- A diagnostic log slot in PF0 host memory (R479). -/
  | diag (slot : Nat) (rec : StbRec)
  /-- Bytes written to PF0 host memory (R483). -/
  | hostData (addr : Nat) (data : List Byte)
  /-- A completion posted to the host: where, the code of R109, its NVMe form, result dword (R89, R109). -/
  | completion (src : CmdSrc) (status : Nat) (nvme : Option (Nat × Nat × Bool)) (result : Nat)
  /-- A record on the Torlux link or a beat on Rein B, and its bytes (R365, R366, R368). -/
  | tl (r : TlRec) (bytes : List Byte)
  /-- Identify data written to the host: the command, CNS, the controller's or namespace's data, a list of NSIDs. -/
  | identify (src : CmdSrc) (cns : Nat) (ctrl : Option IdentCtrl) (ns : Option IdentNs) (list : List Nat)
  /-- A log page written to the host: the command, log identifier, its fields (R102, R109, R320). -/
  | logPage (src : CmdSrc) (lid : Nat) (data : List Nat)
  /-- Sectors of a grain transferred to the host: command source, grain of the volume, sector mask, bytes, protection
  information of each sector (R222, R233). -/
  | readData (src : CmdSrc) (grain mask : Nat) (data : List Byte) (pi : List (Nat × Nat × Nat))
  /-- A data fetch issued for a part (R144, R145). -/
  | dataFetch (cmd part : Nat)
  /-- A command packet on a module link: port, TAG, OPCODE, URGENT, SLC, EPOCH, DIE, BGRP, PAGE, PLANES, LEN, ARG, payload (R245). -/
  | modCmd (port tag : Nat) (opcode : Nat) (urgent slc : Bool) (epoch die bgrp page planes units arg : Nat) (data : List Byte)
  /-- A chunk of the spill band, programmed in single-level mode: port, band stripe, its codewords (R163). -/
  | bandChunk (port stripe : Nat) (data : List Byte)
  /-- Sequenced flits sent on a flit link: page, the first FSEQ, how many, KIND, and CUM of each class. FPO is 0 in the first and 0x1FF in
  the others; CLASS rotates through the flits, NULL flits among them (R241). -/
  | flits (page first count kind : Nat) (cums : List Nat)
  /-- A control message on a flit link: page, CTYPE, bytes 1 onward (R243). -/
  | control (page ctype : Nat) (bytes : List Byte)
  /-- A SWAP ordered set on a flit link: page, FAIL, SPARE, SWAP_COUNT (R239). -/
  | swapSet (page fail spare count : Nat)
  /-- An acknowledgement on a flit link: page, ACK_SEQ, NAK (R242). -/
  | ack (page seq : Nat) (nak : Bool)
  /-- A replay on a flit link, from an FSEQ on (R242). -/
  | replay (page seq : Nat)
  /-- A flit sent with an injected CRC error (R261). -/
  | badCrc (page : Nat)
  /-- A Mysyn message sent to a source (R490). -/
  | mysyn (source : Nat) (bytes : List Byte)
  /-- A replication record on a group's stream: RSEQ, and the header with the entry (R390). -/
  | replRecord (group rseq : Nat) (image : List Byte)
  /-- A reply of the remote: KIND 1 SYNC_ACK, 2 STAGED, 3 APPLIED, VALUE, and the 32 bytes of the Send (R396). -/
  | replReply (group kind value : Nat) (image : List Byte)
  /-- An acknowledgement of a queue pair: PSN, MSN (R125). -/
  | rdmaAck (qpn psn msn : Nat)
  /-- A NAK: PSN, and what it says (R115, R125, R126, R138). -/
  | rdmaNak (qpn psn : Nat) (kind : NakKind)
  /-- An RNR NAK: expected PSN, timer code (R123). -/
  | rnrNak (qpn psn timer : Nat)
  /-- Bytes placed in head DRAM for a request: address, length (R125, R127). -/
  | place (qpn addr len : Nat)
  /-- An RDMA Read response: PSN, address, length (R125). -/
  | readResponse (qpn psn addr len : Nat)
  /-- A congestion notification packet (R115). -/
  | cnp (qpn : Nat)
  /-- Packets sent again, from a PSN up to the next PSN sent (R115, R136). -/
  | resend (qpn first next : Nat)
  /-- A response that is sent by Send with Invalidate of a host key (R133). -/
  | sendInvalidate (qpn key : Nat)
  /-- A QP1 datagram sent as a UD Send Only from QPN 1 of a logical port (R131). -/
  | gsiSend (lport : Nat) (entry : TxEntry)
  /-- A seal of a group's stream, an RDMA Write with Immediate: control queue pair, immediate value, the 64 bytes (R137). -/
  | seal (qpn imm : Nat) (image : List Byte)
  /-- Data of a stream on a queue pair: RDMA Write Onlys of at most the path MTU, each with its own RETH, from a PSN on; how many, and
  the bytes that they carry together (R136). -/
  | writeOnly (qpn first count bytes : Nat)
  /-- A completion capsule on a twin queue pair, with SQHD 0xFFFF: QPN, CID, TSN (R384). -/
  | twin (qpn cid tsn : Nat)
  /-- An NVMe asynchronous event posted as the completion of a request: information of the event (R102, R381). -/
  | asyncEvent (src : CmdSrc) (info : Nat)
  deriving DecidableEq, Repr

end Sys2Proof.Machine
end

