-- ==== Sys2Proof/Machine/PartsMemory.lean ====
section
/-! DEFINITION. State of head DRAM, the metadata cache, the keyed digest engine and the key slots that no register shows
(14_memory_system.md, 15_digest_and_keys.md). -/

namespace Sys2Proof.Machine

/-! ### DRAM (R402 to R419) -/

/-- A frequency change of a channel (R411): where it stands. -/
inductive FreqJob where
  /-- GO is written: it starts at the next commit point -/
  | due (speed : Nat)
  | running (speed : Nat) (start : DWord)
  deriving DecidableEq, Repr

/-- What a row of DRAM has shown: device of each corrected error with its calendar second (R418). -/
structure RowErr where
  errs : List (Nat × Nat)
  /-- It is queued for soft repair. -/
  queued : Bool
  deriving DecidableEq, Repr

/-- The copy of a rank to the spare (R419). -/
structure RankCopy where
  rank : Nat
  start : DWord
  /-- SEQ of the FAULT record of its SPARE_TRIGGER. -/
  faultSeq : Nat
  deriving DecidableEq, Repr

/-- A DRAM channel (R402 to R419). -/
structure Channel where
  freq : Option FreqJob
  /-- Delay of a nibble's strobe less its trained value, in steps, and steps that take effect at the next commit point, by
  rank * 32 + nibble (R413). -/
  drift : Amap Int
  driftNext : Amap Int
  /-- A retrain that DRIFT_LIMIT asked for (R414). -/
  retrain : Bool
  /-- Rows by rank * 2 ^ 23 + bank * 2 ^ 18 + row (R418). -/
  rows : Amap RowErr
  /-- Corrected errors of a rank in a calendar hour (R419): hour, count. -/
  rankErr : Amap (Nat × Nat)
  /-- Rows on which an error was attributed to a whole device, by rank (R419). -/
  devErr : Amap (List Nat)
  copy : Option RankCopy
  /-- Same-bank refreshes postponed, by rank * 32 + bank (R408). -/
  postponed : Amap Nat
  /-- Requests held at the ports, the queue of 128 requests and the write queue of 64 entries, each in order of arrival (R406, R411). -/
  held : List DramReq
  queue : List DramReq
  writes : List DramReq
  /-- A burst that drains the write queue is under way (R406). -/
  draining : Bool
  /-- The open row of a bank, by rank * 32 + bank. -/
  openRows : Amap Nat
  deriving DecidableEq, Repr

/-- A channel of which nothing has happened. -/
def Channel.fresh : Channel :=
  { freq := none, drift := [], driftNext := [], retrain := false, rows := [], rankErr := [], devErr := [], copy := none,
    postponed := [], held := [], queue := [], writes := [], draining := false, openRows := [] }

/-! ### The metadata cache (R420 to R426) -/

/-- Operations of the metadata cache (R424). -/
inductive McOp where
  | clean | flush | invalidate
  deriving DecidableEq, Repr

/-- An item attached to a miss register (R422): the sectors it touches. -/
inductive McItem where
  | read (mask : Nat)
  /-- `whole`: it writes whole sectors (R421). -/
  | write (mask : Nat) (whole : Bool)
  /-- `soft` marks a line of a software operation (R424). -/
  | op (o : McOp) (soft : Bool)
  deriving DecidableEq, Repr

/-- A line of the metadata cache (R420): sectors VALID and DIRTY as masks, and its referenced bit. -/
structure McLine where
  /-- Way of its set. -/
  way : Nat
  valid : Nat
  dirty : Nat
  ref : Bool
  deriving DecidableEq, Repr

/-- A miss register (R422): sectors requested and arrived, sectors written while the fill is in flight, items in order. -/
structure McMiss where
  asked : Nat
  arrived : Nat
  written : Nat
  items : List McItem
  /-- A FLUSH or INVALIDATE has attached: later items wait (R425). -/
  shut : Bool
  deriving DecidableEq, Repr

/-- The metadata cache (R420 to R426). The bytes of its sectors are the map pages, segment tables and records that the model
holds as typed data; a line is named by its DRAM address / 4,096. -/
structure McSt where
  lines : Amap McLine
  misses : Amap McMiss
  /-- Clock hand of each set (R423). -/
  hands : Amap Nat
  /-- Lines whose eviction writes have not completed (R423). -/
  evicting : List Nat
  /-- Accesses that wait: line and item (R422, R423, R425). -/
  waiting : List (Nat × McItem)
  /-- Lines of the software operation under way whose last DRAM write has not completed, and lines that it waits for. -/
  opLines : List Nat
  /-- An access waited under R422 since the last commit point (R430). -/
  full : Bool
  /-- Lines that wait for an object to be rebuilt (R426). -/
  broken : List Nat
  deriving DecidableEq, Repr

/-! ### The keyed digest engine and the key slots (R431 to R449) -/

/-- A session of the engine or a saved context (R435, R442). -/
structure KdeSession where
  /-- KDE_MODE as latched at START. -/
  mode : Nat
  /-- Message bytes fed. -/
  msg : List Byte
  /-- The key of the inner pass, as read at START (R440). -/
  key : List Byte
  keyGone : Bool
  owner : Nat
  /-- Stride of the SUSPEND, and KDE_EXPECT as it stood then. -/
  at_ : DWord
  expect : List Byte
  /-- DATA_LOST, as it stood at the SUSPEND. -/
  lost : Bool
  deriving DecidableEq, Repr

/-- The engine (R432 to R445). -/
structure KdeSt where
  session : KdeSession
  /-- FINISH has been accepted. -/
  finishing : Bool
  /-- Stride of the owner's last write to the page (R433). -/
  lastWrite : DWord
  ctxs : Amap KdeSession
  deriving DecidableEq, Repr

/-- Slot states (R446). -/
inductive SlotSt where
  | empty | valid | locked
  deriving DecidableEq, Repr

/-- KS_STATE.STATE code (R451). -/
def SlotSt.code : SlotSt → Nat
  | .empty => 0 | .valid => 1 | .locked => 2

/-- A key slot (R446). -/
structure KeySlot where
  st : SlotSt
  key : List Byte
  use : Nat
  deriving DecidableEq, Repr

/-- A slot command waiting for its commit point (R447): LOAD carries the pending store. -/
structure KsCmd where
  op : Nat
  slot : Nat
  force : Bool
  key : List Byte
  len : Nat
  use : Nat
  deriving DecidableEq, Repr

/-- The memory system and the key machinery. -/
structure MemSt where
  channels : Amap Channel
  /-- Channels still to change after the present one (DC_FREQ_CMD.ALL, R411). -/
  freqAll : List (Nat × Nat)
  /-- Rows repaired since the last bring-up: channel, row (R418). -/
  hardDue : List (Nat × Nat)
  mc : McSt
  kde : KdeSt
  /-- Key slots that are not EMPTY, by number (R446). -/
  keys : Amap KeySlot
  ksCmd : Option KsCmd
  deriving DecidableEq, Repr

end Sys2Proof.Machine
end

