-- ==== Sys2Proof/Machine/PartsService.lean ====
section
/-! DEFINITION. State of the service port, firmware update, and power that no register shows (17_service_and_firmware.md,
18_pins_power_reset.md). -/

namespace Sys2Proof.Machine

/-- A Mysyn session (R493 to R495). -/
structure Session where
  id : Nat
  /-- Key slot, and role MAINTAIN. -/
  slot : Nat
  maintain : Bool
  /-- Source address and UDP port of its OPEN, as one number. -/
  source : Nat
  key : List Byte
  authed : Bool
  lastSeq : Nat
  /-- The response to the last request: TYPE, STATUS, payload (R495). -/
  cached : Option (Nat × Nat × List Byte)
  fails : Nat
  lastValid : DWord
  deriving DecidableEq, Repr

/-- Slot record states (R502). -/
inductive FwState where
  | empty | staged | trial | committed | failed
  deriving DecidableEq, Repr

/-- The STATE code of a slot record (R502). -/
def FwState.code : FwState → Nat
  | .empty => 0 | .staged => 1 | .trial => 2 | .committed => 3 | .failed => 4

/-- A boot NOR device's slot: record and image (R501, R502). -/
structure FwSlot where
  seq : Nat
  st : FwState
  tries : Nat
  floorTarget : Nat
  build : Nat
  secEpoch : Nat
  /-- The image's 512-byte header and its body. -/
  header : List Byte
  body : List Byte
  deriving DecidableEq, Repr

/-- An empty slot. -/
def FwSlot.none : FwSlot :=
  { seq := 0, st := .empty, tries := 0, floorTarget := 0, build := 0, secEpoch := 0, header := [], body := [] }

/-- The STATE of a code (R502). -/
def FwState.ofCode (n : Nat) : FwState :=
  match n with
  | 1 => .staged | 2 => .trial | 3 => .committed | 4 => .failed | _ => .empty

/-- Staging in progress (R498, R499). -/
structure Staging where
  /-- Target slot: false A, true B. -/
  slotB : Bool
  header : List Byte
  body : List Byte
  /-- Session that stages. -/
  session : Nat
  deriving DecidableEq, Repr

/-- The service port and firmware update (R488 to R507). -/
structure SvcSt where
  /-- Sessions by index 0 to 3. -/
  sessions : Amap Session
  /-- OPEN messages of a calendar second: second, count (R494). -/
  opens : Nat × Nat
  /-- TACK_WRITE's staged bytes (R491). -/
  tackBuf : List Byte
  slotA : FwSlot
  slotB : FwSlot
  /-- The slot records as the boot NOR devices hold them: 32 bytes; nothing for erased flash (R502). -/
  recA : List Byte
  recB : List Byte
  staging : Option Staging
  /-- Floor fuses blown, and the OTP hash of the vendor public key (R497). -/
  fuses : Nat
  otpKeyHash : List Byte
  deriving DecidableEq, Repr

/-- Power, reset and pins (R512 to R528). -/
structure PowerSt where
  /-- A bring-up is due after the last reset, and the step that stalled (R524). -/
  bringup : Bool
  stalled : Option Nat
  /-- The head is stopped by L5 (R523). -/
  stopped : Bool
  /-- PERST_N reads low; POR_N reads low. -/
  perstLow : Bool
  porLow : Bool
  /-- THERMTRIP_N is asserted (R519). -/
  thermtrip : Bool
  /-- The feeds have been sampled since the last reset (R517). -/
  feedSampled : Bool
  /-- Strides for which Tj has been at or above 110 degC (R519). -/
  hotStrides : Nat
  /-- MOD_RST_N[n] driven low since, and a release held until the 250 strides end (R527). -/
  modRst : Amap (DWord × Bool)
  /-- The always-on island lost both feeds: what the next power-on is to report (R41, R446, R475). -/
  aonLost : Bool
  deriving DecidableEq, Repr

end Sys2Proof.Machine
end

