-- ==== Sys2Proof/Machine/Reg.lean ====
section
/-! DEFINITION. The names of the registers, as the spec spells them: each is the number under which the register file
keeps the register. A number is the BAR offset (R50), and for a register that shows one of several values by a selector
register, the number of the selected value times 2 ^ 24 beside it. A 64-bit register is named by its `_LO` half (R15). An instance
or index beyond the last counts from the first again, so a name never reaches a register of another name. -/

namespace Sys2Proof.Machine.R

/-- The register number of bank `b` at BAR offset `o`. -/
@[reducible] def at_ (b o : Nat) : Nat := b * 0x1000000 + o

/-- 02_register_pages.md R59: the common header's PG_IDENT of page number `p`. -/
@[reducible] def PG_IDENT (p : Nat) : Nat := pageBase p + 0x000
/-- 02_register_pages.md R58: the common header's PG_VERSION of page number `p`. -/
@[reducible] def PG_VERSION (p : Nat) : Nat := pageBase p + 0x004
/-- 02_register_pages.md R59: the common header's PG_CAPS of page number `p`. -/
@[reducible] def PG_CAPS (p : Nat) : Nat := pageBase p + 0x008
/-- 02_register_pages.md R59: the common header's PG_CTRL of page number `p`. -/
@[reducible] def PG_CTRL (p : Nat) : Nat := pageBase p + 0x00C
/-- 02_register_pages.md R59: the common header's PG_STATE of page number `p`. -/
@[reducible] def PG_STATE (p : Nat) : Nat := pageBase p + 0x010
/-- 02_register_pages.md R59: the common header's PG_EVENT of page number `p`. -/
@[reducible] def PG_EVENT (p : Nat) : Nat := pageBase p + 0x014
/-- 02_register_pages.md R59: the common header's PG_EVENT_EN of page number `p`. -/
@[reducible] def PG_EVENT_EN (p : Nat) : Nat := pageBase p + 0x018
/-- 02_register_pages.md R59: the common header's PG_EVENT_FORCE of page number `p`. -/
@[reducible] def PG_EVENT_FORCE (p : Nat) : Nat := pageBase p + 0x01C
/-- 02_register_pages.md R69: the common header's PG_ERR_FIRST of page number `p`. -/
@[reducible] def PG_ERR_FIRST (p : Nat) : Nat := pageBase p + 0x020
/-- 02_register_pages.md R58: the common header's PG_ERR_COUNT of page number `p`. -/
@[reducible] def PG_ERR_COUNT (p : Nat) : Nat := pageBase p + 0x024
/-- 02_register_pages.md R58: the common header's PG_ERR_STRIDE of page number `p`. -/
@[reducible] def PG_ERR_STRIDE (p : Nat) : Nat := pageBase p + 0x028
/-- 02_register_pages.md R76: the common header's PG_INJECT of page number `p`. -/
@[reducible] def PG_INJECT (p : Nat) : Nat := pageBase p + 0x030
/-- 02_register_pages.md R78: the common header's PG_SPARE of page number `p`. -/
@[reducible] def PG_SPARE (p : Nat) : Nat := pageBase p + 0x034
/-- 02_register_pages.md R78: the unit map word of unit `u` of page number `p`. -/
@[reducible] def UNIT_WORD (p u : Nat) : Nat := pageBase p + 0xF00 + 4 * (u % 64)


/-- 01_stride_and_time.md R47: STRIDE.STR_NUM. -/
@[reducible] def STR_NUM : Nat := 0x001040
/-- 01_stride_and_time.md R48: STRIDE.STR_CTRL. -/
@[reducible] def STR_CTRL : Nat := 0x001048
/-- 01_stride_and_time.md R48: STRIDE.STR_STATUS. -/
@[reducible] def STR_STATUS : Nat := 0x00104C
/-- 01_stride_and_time.md R48: STRIDE.STR_OFFSET. -/
@[reducible] def STR_OFFSET : Nat := 0x001050
/-- 01_stride_and_time.md R48: STRIDE.STR_SKEW. -/
@[reducible] def STR_SKEW : Nat := 0x001054
/-- 01_stride_and_time.md R47: STRIDE.STR_COMMIT_AT. -/
@[reducible] def STR_COMMIT_AT : Nat := 0x001058
/-- 01_stride_and_time.md R47: STRIDE.STR_OVR_COUNT. -/
@[reducible] def STR_OVR_COUNT : Nat := 0x001060
/-- 01_stride_and_time.md R48: STRIDE.STR_OVR_LAST. -/
@[reducible] def STR_OVR_LAST : Nat := 0x001064

/-- 01_stride_and_time.md R47: CALENDAR.CAL_SEC. -/
@[reducible] def CAL_SEC : Nat := 0x002040
/-- 01_stride_and_time.md R48: CALENDAR.CAL_SUBSEC. -/
@[reducible] def CAL_SUBSEC : Nat := 0x002048
/-- 01_stride_and_time.md R47: CALENDAR.CAL_SET. -/
@[reducible] def CAL_SET : Nat := 0x00204C
/-- 01_stride_and_time.md R48: CALENDAR.CAL_CTRL. -/
@[reducible] def CAL_CTRL : Nat := 0x002054
/-- 01_stride_and_time.md R48: CALENDAR.CAL_TRIM. -/
@[reducible] def CAL_TRIM : Nat := 0x002058
/-- 01_stride_and_time.md R48: CALENDAR.CAL_STATUS. -/
@[reducible] def CAL_STATUS : Nat := 0x00205C
/-- 01_stride_and_time.md R47: CALENDAR.CAL_AT_STRIDE. -/
@[reducible] def CAL_AT_STRIDE : Nat := 0x002060
/-- 01_stride_and_time.md R48: CALENDAR.CAL_AT_CLK. -/
@[reducible] def CAL_AT_CLK : Nat := 0x002068

/-- 01_stride_and_time.md R47: LIFE.PWR_STRIDES. -/
@[reducible] def PWR_STRIDES : Nat := 0x003040
/-- 01_stride_and_time.md R47: LIFE.PWR_CYCLES. -/
@[reducible] def PWR_CYCLES : Nat := 0x003048
/-- 01_stride_and_time.md R47: LIFE.RESETS. -/
@[reducible] def RESETS : Nat := 0x00304C
/-- 01_stride_and_time.md R47: LIFE.REMOUNTS. -/
@[reducible] def REMOUNTS : Nat := 0x003050
/-- 01_stride_and_time.md R48: LIFE.LIFE_CTRL. -/
@[reducible] def LIFE_CTRL : Nat := 0x003054
/-- 01_stride_and_time.md R48: LIFE.LIFE_STATUS. -/
@[reducible] def LIFE_STATUS : Nat := 0x003058
/-- 01_stride_and_time.md R47: LIFE.TJ_MAX_SEEN. -/
@[reducible] def TJ_MAX_SEEN : Nat := 0x00305C
/-- 01_stride_and_time.md R47: LIFE.TEMP_BAND. -/
@[reducible] def TEMP_BAND (i : Nat) : Nat := 0x003080 + 0x4 * (i % 32)
/-- 01_stride_and_time.md R47: LIFE.MOD_WR. -/
@[reducible] def MOD_WR (i : Nat) : Nat := 0x003100 + 0x8 * (i % 24)

/-- 02_register_pages.md R72: CHIP_ID.CHIP_PART. -/
@[reducible] def CHIP_PART : Nat := 0x000040
/-- 02_register_pages.md R72: CHIP_ID.CHIP_STEP. -/
@[reducible] def CHIP_STEP : Nat := 0x000044
/-- 02_register_pages.md R72: CHIP_ID.CHIP_HEAD. -/
@[reducible] def CHIP_HEAD : Nat := 0x000048
/-- 02_register_pages.md R72: CHIP_ID.CHIP_INJ_EN. -/
@[reducible] def CHIP_INJ_EN : Nat := 0x00004C
/-- 02_register_pages.md R72: CHIP_ID.CHIP_PG_COUNT. -/
@[reducible] def CHIP_PG_COUNT : Nat := 0x000050
/-- 02_register_pages.md R72: CHIP_ID.EVT_GROUP_PEND. -/
@[reducible] def EVT_GROUP_PEND : Nat := 0x000080
/-- 02_register_pages.md R72: CHIP_ID.EVT_ARM. -/
@[reducible] def EVT_ARM : Nat := 0x000088
/-- 02_register_pages.md R72: CHIP_ID.EVT_PEND. -/
@[reducible] def EVT_PEND (i : Nat) : Nat := 0x000100 + 0x4 * (i % 8)
/-- 02_register_pages.md R72: CHIP_ID.EVT_GROUP_VEC. -/
@[reducible] def EVT_GROUP_VEC (i : Nat) : Nat := 0x000200 + 0x4 * (i % 64)
/-- 02_register_pages.md R73: CHIP_ID.EVT_ROUTE. -/
@[reducible] def EVT_ROUTE (i : Nat) : Nat := 0x000400 + 0x4 * (i % 64)

/-- 03_host_functions.md R84: PCIE.PCIE_LINK. -/
@[reducible] def PCIE_LINK : Nat := 0x10C040
/-- 03_host_functions.md R84: PCIE.PCIE_CAP_LINK. -/
@[reducible] def PCIE_CAP_LINK : Nat := 0x10C044
/-- 03_host_functions.md R84: PCIE.PCIE_MPS. -/
@[reducible] def PCIE_MPS : Nat := 0x10C048
/-- 03_host_functions.md R84: PCIE.PCIE_RETRAINS. -/
@[reducible] def PCIE_RETRAINS : Nat := 0x10C04C
/-- 03_host_functions.md R84: PCIE.PCIE_RX_ERR. -/
@[reducible] def PCIE_RX_ERR : Nat := 0x10C050
/-- 03_host_functions.md R84: PCIE.PCIE_REPLAYS. -/
@[reducible] def PCIE_REPLAYS : Nat := 0x10C054
/-- 03_host_functions.md R84: PCIE.PCIE_CPL_TMO. -/
@[reducible] def PCIE_CPL_TMO : Nat := 0x10C058
/-- 03_host_functions.md R84: PCIE.PCIE_POISONED. -/
@[reducible] def PCIE_POISONED : Nat := 0x10C05C
/-- 03_host_functions.md R84: PCIE.PCIE_FLR. -/
@[reducible] def PCIE_FLR : Nat := 0x10C060
/-- 03_host_functions.md R84: PCIE.PCIE_UR. -/
@[reducible] def PCIE_UR : Nat := 0x10C064

/-- 03_host_functions.md R85: FNMGR.FN_SEL. -/
@[reducible] def FN_SEL : Nat := 0x100040
/-- 03_host_functions.md R85: FNMGR.FN_CMD. -/
@[reducible] def FN_CMD : Nat := 0x100044
/-- 03_host_functions.md R85: FNMGR.FN_CMD_STATUS. -/
@[reducible] def FN_CMD_STATUS : Nat := 0x100048
/-- 03_host_functions.md R85: FNMGR.FN_MODE. -/
@[reducible] def FN_MODE : Nat := 0x10004C
/-- 03_host_functions.md R85: FNMGR.FN_QP_QUOTA. -/
@[reducible] def FN_QP_QUOTA : Nat := 0x100050
/-- 03_host_functions.md R85: FNMGR.FN_CISTERN_QUOTA. -/
@[reducible] def FN_CISTERN_QUOTA : Nat := 0x100054
/-- 03_host_functions.md R85: FNMGR.FN_WEIR_MIN. -/
@[reducible] def FN_WEIR_MIN : Nat := 0x100058
/-- 03_host_functions.md R85: FNMGR.FN_WEIR_MAX. -/
@[reducible] def FN_WEIR_MAX : Nat := 0x10005C
/-- 03_host_functions.md R85: FNMGR.FN_MSIX. -/
@[reducible] def FN_MSIX : Nat := 0x100060
/-- 03_host_functions.md R85: FNMGR.FN_VOL. -/
@[reducible] def FN_VOL : Nat := 0x100064
/-- 03_host_functions.md R85: FNMGR.FN_NSID. -/
@[reducible] def FN_NSID : Nat := 0x100068
/-- 03_host_functions.md R85: FNMGR.FN_STATE, of function `b`. -/
@[reducible] def FN_STATE (b : Nat) : Nat := at_ b (0x10006C)
/-- 03_host_functions.md R85: FNMGR.FN_STALE_COUNT, of function `b`. -/
@[reducible] def FN_STALE_COUNT (b : Nat) : Nat := at_ b (0x100070)
/-- 03_host_functions.md R85: FNMGR.POOL_QP_FREE. -/
@[reducible] def POOL_QP_FREE : Nat := 0x100074
/-- 03_host_functions.md R85: FNMGR.POOL_CISTERN_FREE. -/
@[reducible] def POOL_CISTERN_FREE : Nat := 0x100078
/-- 03_host_functions.md R85: FNMGR.POOL_WEIR_FREE. -/
@[reducible] def POOL_WEIR_FREE : Nat := 0x10007C
/-- 03_host_functions.md R85: FNMGR.MGMT_DB_PEND. -/
@[reducible] def MGMT_DB_PEND (i : Nat) : Nat := 0x100080 + 0x4 * (i % 8)
/-- 03_host_functions.md R85: FNMGR.FN_MBOX. -/
@[reducible] def FN_MBOX (i : Nat) : Nat := 0x100100 + 0x4 * (i % 64)
/-- 03_host_functions.md R85: FNMGR.FN_REPLY. -/
@[reducible] def FN_REPLY (i : Nat) : Nat := 0x100200 + 0x4 * (i % 64)

/-- 03_host_functions.md R94: WEIR.WEIR_CAP. -/
@[reducible] def WEIR_CAP : Nat := 0x10B040
/-- 03_host_functions.md R94: WEIR.WEIR_SEL. -/
@[reducible] def WEIR_SEL : Nat := 0x10B044
/-- 03_host_functions.md R94: WEIR.WEIR_MIN, of subject `b`. -/
@[reducible] def WEIR_MIN (b : Nat) : Nat := at_ b (0x10B048)
/-- 03_host_functions.md R94: WEIR.WEIR_MAX, of subject `b`. -/
@[reducible] def WEIR_MAX (b : Nat) : Nat := at_ b (0x10B04C)
/-- 03_host_functions.md R94: WEIR.WEIR_BAL, of subject `b`. -/
@[reducible] def WEIR_BAL (b : Nat) : Nat := at_ b (0x10B050)
/-- 03_host_functions.md R94: WEIR.WEIR_PS, of subject `b`. -/
@[reducible] def WEIR_PS (b : Nat) : Nat := at_ b (0x10B054)

/-- 03_host_functions.md R99: LEGQn.LQV_CTRL. -/
@[reducible] def LQV_CTRL (n i : Nat) : Nat := 0x110100 + 0x1000 * (n % 63) + 0x100 * (i % 4)
/-- 03_host_functions.md R99: LEGQn.LQV_STATUS. -/
@[reducible] def LQV_STATUS (n i : Nat) : Nat := 0x110104 + 0x1000 * (n % 63) + 0x100 * (i % 4)
/-- 03_host_functions.md R99: LEGQn.LQV_ISSUE. -/
@[reducible] def LQV_ISSUE (n i : Nat) : Nat := 0x110108 + 0x1000 * (n % 63) + 0x100 * (i % 4)
/-- 03_host_functions.md R99: LEGQn.LQV_DONE. -/
@[reducible] def LQV_DONE (n i : Nat) : Nat := 0x11010C + 0x1000 * (n % 63) + 0x100 * (i % 4)
/-- 03_host_functions.md R99: LEGQn.LQ_CMPL_COUNT. -/
@[reducible] def LQ_CMPL_COUNT (n i : Nat) : Nat := 0x110110 + 0x1000 * (n % 63) + 0x100 * (i % 4)

/-- 04_network_and_rdma.md R114: ETHn.ETH_MODE. -/
@[reducible] def ETH_MODE (n : Nat) : Nat := 0x101040 + 0x1000 * (n % 8)
/-- 04_network_and_rdma.md R114: ETHn.ETH_STATUS. -/
@[reducible] def ETH_STATUS (n : Nat) : Nat := 0x101044 + 0x1000 * (n % 8)
/-- 04_network_and_rdma.md R114: ETHn.ETH_MAC_A. -/
@[reducible] def ETH_MAC_A (n : Nat) : Nat := 0x101048 + 0x1000 * (n % 8)
/-- 04_network_and_rdma.md R114: ETHn.ETH_MAC_B. -/
@[reducible] def ETH_MAC_B (n : Nat) : Nat := 0x101050 + 0x1000 * (n % 8)
/-- 04_network_and_rdma.md R114: ETHn.ETH_MTU. -/
@[reducible] def ETH_MTU (n : Nat) : Nat := 0x101058 + 0x1000 * (n % 8)
/-- 04_network_and_rdma.md R114: ETHn.ETH_PRIO. -/
@[reducible] def ETH_PRIO (n : Nat) : Nat := 0x10105C + 0x1000 * (n % 8)
/-- 04_network_and_rdma.md R114: ETHn.ETH_DSCP. -/
@[reducible] def ETH_DSCP (n : Nat) : Nat := 0x101060 + 0x1000 * (n % 8)
/-- 04_network_and_rdma.md R114: ETHn.ETH_FEC_LIMIT. -/
@[reducible] def ETH_FEC_LIMIT (n : Nat) : Nat := 0x101064 + 0x1000 * (n % 8)
/-- 04_network_and_rdma.md R114: ETHn.ETH_FEC_CORR. -/
@[reducible] def ETH_FEC_CORR (n : Nat) : Nat := 0x101068 + 0x1000 * (n % 8)
/-- 04_network_and_rdma.md R114: ETHn.ETH_FEC_UNCORR. -/
@[reducible] def ETH_FEC_UNCORR (n : Nat) : Nat := 0x10106C + 0x1000 * (n % 8)
/-- 04_network_and_rdma.md R114: ETHn.ETH_RX_OTHER. -/
@[reducible] def ETH_RX_OTHER (n : Nat) : Nat := 0x101070 + 0x1000 * (n % 8)
/-- 04_network_and_rdma.md R114: ETHn.ETH_ICRC_ERR. -/
@[reducible] def ETH_ICRC_ERR (n : Nat) : Nat := 0x101074 + 0x1000 * (n % 8)
/-- 04_network_and_rdma.md R114: ETHn.ETH_MISS_LEVEL. -/
@[reducible] def ETH_MISS_LEVEL (n : Nat) : Nat := 0x101078 + 0x1000 * (n % 8)
/-- 04_network_and_rdma.md R114: ETHn.ETH_MISS_HWM. -/
@[reducible] def ETH_MISS_HWM (n : Nat) : Nat := 0x10107C + 0x1000 * (n % 8)
/-- 04_network_and_rdma.md R114: ETHn.ETH_RNR_SENT. -/
@[reducible] def ETH_RNR_SENT (n : Nat) : Nat := 0x101080 + 0x1000 * (n % 8)
/-- 04_network_and_rdma.md R114: ETHn.ETH_GID. -/
@[reducible] def ETH_GID (n i : Nat) : Nat := 0x101100 + 0x1000 * (n % 8) + 0x4 * (i % 64)

/-- 04_network_and_rdma.md R129: RMA.RMA_CMD. -/
@[reducible] def RMA_CMD : Nat := 0x109040
/-- 04_network_and_rdma.md R129: RMA.RMA_CMD_STATUS. -/
@[reducible] def RMA_CMD_STATUS : Nat := 0x109044
/-- 04_network_and_rdma.md R129: RMA.RMA_RESULT. -/
@[reducible] def RMA_RESULT : Nat := 0x109048
/-- 04_network_and_rdma.md R129: RMA.EVQ_BASE. -/
@[reducible] def EVQ_BASE : Nat := 0x109050
/-- 04_network_and_rdma.md R129: RMA.EVQ_SIZE. -/
@[reducible] def EVQ_SIZE : Nat := 0x109058
/-- 04_network_and_rdma.md R129: RMA.EVQ_PROD. -/
@[reducible] def EVQ_PROD : Nat := 0x10905C
/-- 04_network_and_rdma.md R129: RMA.EVQ_CONS. -/
@[reducible] def EVQ_CONS : Nat := 0x109060
/-- 04_network_and_rdma.md R129: RMA.EVQ_LOST. -/
@[reducible] def EVQ_LOST : Nat := 0x109064
/-- 04_network_and_rdma.md R129: RMA.DUP_ACKED. -/
@[reducible] def DUP_ACKED : Nat := 0x109068
/-- 04_network_and_rdma.md R129: RMA.SEQ_NAK. -/
@[reducible] def SEQ_NAK : Nat := 0x10906C
/-- 04_network_and_rdma.md R129: RMA.RMA_KEY_VIOLATION. -/
@[reducible] def RMA_KEY_VIOLATION : Nat := 0x109070
/-- 04_network_and_rdma.md R129: RMA.GSI_BASE. -/
@[reducible] def GSI_BASE : Nat := 0x109078
/-- 04_network_and_rdma.md R129: RMA.GSI_PROD. -/
@[reducible] def GSI_PROD : Nat := 0x109080
/-- 04_network_and_rdma.md R129: RMA.GSI_CONS. -/
@[reducible] def GSI_CONS : Nat := 0x109084
/-- 04_network_and_rdma.md R129: RMA.GSI_RX_DROP. -/
@[reducible] def GSI_RX_DROP : Nat := 0x109088
/-- 04_network_and_rdma.md R129: RMA.GSI_TX_BASE. -/
@[reducible] def GSI_TX_BASE : Nat := 0x109090
/-- 04_network_and_rdma.md R129: RMA.GSI_TX_PROD. -/
@[reducible] def GSI_TX_PROD : Nat := 0x109098
/-- 04_network_and_rdma.md R129: RMA.GSI_TX_CONS. -/
@[reducible] def GSI_TX_CONS : Nat := 0x10909C
/-- 04_network_and_rdma.md R129: RMA.GSI_TX_BAD. -/
@[reducible] def GSI_TX_BAD : Nat := 0x1090A0
/-- 04_network_and_rdma.md R129: RMA.RMA_ARG. -/
@[reducible] def RMA_ARG (i : Nat) : Nat := 0x109100 + 0x4 * (i % 16)

/-- 04_network_and_rdma.md R132: CTXC.CTX_FREE_NET. -/
@[reducible] def CTX_FREE_NET : Nat := 0x10A040
/-- 04_network_and_rdma.md R132: CTXC.CTX_CACHED. -/
@[reducible] def CTX_CACHED : Nat := 0x10A044
/-- 04_network_and_rdma.md R132: CTXC.CTX_HELD_PINNED. -/
@[reducible] def CTX_HELD_PINNED : Nat := 0x10A048
/-- 04_network_and_rdma.md R132: CTXC.CTX_PIN_MAX. -/
@[reducible] def CTX_PIN_MAX : Nat := 0x10A04C
/-- 04_network_and_rdma.md R132: CTXC.CTX_MISS_COUNT. -/
@[reducible] def CTX_MISS_COUNT : Nat := 0x10A050
/-- 04_network_and_rdma.md R132: CTXC.CTX_EVICT_COUNT. -/
@[reducible] def CTX_EVICT_COUNT : Nat := 0x10A054
/-- 04_network_and_rdma.md R132: CTXC.CTX_FETCH_MAX. -/
@[reducible] def CTX_FETCH_MAX : Nat := 0x10A058
/-- 04_network_and_rdma.md R132: CTXC.CTX_BAD_QPN. -/
@[reducible] def CTX_BAD_QPN : Nat := 0x10A05C
/-- 04_network_and_rdma.md R132: CTXC.CTX_NAK_DISCARD. -/
@[reducible] def CTX_NAK_DISCARD : Nat := 0x10A060
/-- 04_network_and_rdma.md R132: CTXC.CTX_STORE_BASE. -/
@[reducible] def CTX_STORE_BASE : Nat := 0x10A068

/-- 05_write_path.md R169: INGEST.ING_CMDS. -/
@[reducible] def ING_CMDS : Nat := 0x200040
/-- 05_write_path.md R169: INGEST.ING_GRAINS. -/
@[reducible] def ING_GRAINS : Nat := 0x200044
/-- 05_write_path.md R169: INGEST.ING_PI_ERR. -/
@[reducible] def ING_PI_ERR : Nat := 0x200048
/-- 05_write_path.md R169: INGEST.ING_LEN_ERR. -/
@[reducible] def ING_LEN_ERR : Nat := 0x20004C
/-- 05_write_path.md R169: INGEST.ING_RANGE_ERR. -/
@[reducible] def ING_RANGE_ERR : Nat := 0x200050
/-- 05_write_path.md R169: INGEST.ING_LOCKS. -/
@[reducible] def ING_LOCKS : Nat := 0x200054
/-- 05_write_path.md R169: INGEST.ING_LOCKS_HWM. -/
@[reducible] def ING_LOCKS_HWM : Nat := 0x200058
/-- 05_write_path.md R169: INGEST.ING_LOCK_WAITS. -/
@[reducible] def ING_LOCK_WAITS : Nat := 0x20005C
/-- 05_write_path.md R169: INGEST.ING_BUSY_RETRY. -/
@[reducible] def ING_BUSY_RETRY : Nat := 0x200060
/-- 05_write_path.md R169: INGEST.ING_PARTIAL. -/
@[reducible] def ING_PARTIAL : Nat := 0x200064

/-- 05_write_path.md R170: CISTERN.CIST_BASE. -/
@[reducible] def CIST_BASE : Nat := 0x201040
/-- 05_write_path.md R170: CISTERN.CIST_CFG. -/
@[reducible] def CIST_CFG : Nat := 0x201048
/-- 05_write_path.md R170: CISTERN.CIST_FN_SHARE. -/
@[reducible] def CIST_FN_SHARE : Nat := 0x20104C
/-- 05_write_path.md R170: CISTERN.CIST_OWN_USED. -/
@[reducible] def CIST_OWN_USED : Nat := 0x201050
/-- 05_write_path.md R170: CISTERN.CIST_MIRROR_USED. -/
@[reducible] def CIST_MIRROR_USED : Nat := 0x201054
/-- 05_write_path.md R170: CISTERN.CIST_CTRL. -/
@[reducible] def CIST_CTRL : Nat := 0x201058
/-- 05_write_path.md R170: CISTERN.CIST_STATUS. -/
@[reducible] def CIST_STATUS : Nat := 0x20105C
/-- 05_write_path.md R170: CISTERN.CIST_CSEQ. -/
@[reducible] def CIST_CSEQ : Nat := 0x201060
/-- 05_write_path.md R170: CISTERN.CIST_ACK_MAX. -/
@[reducible] def CIST_ACK_MAX : Nat := 0x201068
/-- 05_write_path.md R170: CISTERN.CIST_FUA_MAX_WAIT. -/
@[reducible] def CIST_FUA_MAX_WAIT : Nat := 0x20106C
/-- 05_write_path.md R170: CISTERN.CIST_SPILL_BOUND. -/
@[reducible] def CIST_SPILL_BOUND : Nat := 0x201070
/-- 05_write_path.md R170: CISTERN.CIST_SPILL_LAST. -/
@[reducible] def CIST_SPILL_LAST : Nat := 0x201074
/-- 05_write_path.md R170: CISTERN.CIST_RING_STALL. -/
@[reducible] def CIST_RING_STALL : Nat := 0x201078
/-- 05_write_path.md R170: CISTERN.CIST_SPILL_DISCARD. -/
@[reducible] def CIST_SPILL_DISCARD : Nat := 0x20107C

/-- 06_associative_search.md R188: CAMn.CAM_CFG. -/
@[reducible] def CAM_CFG (n : Nat) : Nat := 0x210040 + 0x1000 * (n % 17)
/-- 06_associative_search.md R188: CAMn.CAM_VALID. -/
@[reducible] def CAM_VALID (n : Nat) : Nat := 0x210044 + 0x1000 * (n % 17)
/-- 06_associative_search.md R188: CAMn.CAM_PEND. -/
@[reducible] def CAM_PEND (n : Nat) : Nat := 0x210048 + 0x1000 * (n % 17)
/-- 06_associative_search.md R188: CAMn.CAM_OP. -/
@[reducible] def CAM_OP (n : Nat) : Nat := 0x21004C + 0x1000 * (n % 17)
/-- 06_associative_search.md R188: CAMn.CAM_INDEX. -/
@[reducible] def CAM_INDEX (n : Nat) : Nat := 0x210050 + 0x1000 * (n % 17)
/-- 06_associative_search.md R188: CAMn.CAM_OP_STATUS. -/
@[reducible] def CAM_OP_STATUS (n : Nat) : Nat := 0x210054 + 0x1000 * (n % 17)
/-- 06_associative_search.md R188: CAMn.CAM_ENTRY. -/
@[reducible] def CAM_ENTRY (n : Nat) : Nat := 0x210058 + 0x1000 * (n % 17)
/-- 06_associative_search.md R188: CAMn.CAM_KEY. -/
@[reducible] def CAM_KEY (n i : Nat) : Nat := 0x210060 + 0x1000 * (n % 17) + 0x4 * (i % 9)
/-- 06_associative_search.md R188: CAMn.CAM_RESULT. -/
@[reducible] def CAM_RESULT (n : Nat) : Nat := 0x210088 + 0x1000 * (n % 17)
/-- 06_associative_search.md R188: CAMn.CAM_HIT_LOC. -/
@[reducible] def CAM_HIT_LOC (n : Nat) : Nat := 0x210090 + 0x1000 * (n % 17)
/-- 06_associative_search.md R188: CAMn.CAM_MATCH_COUNT. -/
@[reducible] def CAM_MATCH_COUNT (n : Nat) : Nat := 0x210094 + 0x1000 * (n % 17)
/-- 06_associative_search.md R188: CAMn.CAM_MV_SEL. -/
@[reducible] def CAM_MV_SEL (n : Nat) : Nat := 0x210098 + 0x1000 * (n % 17)
/-- 06_associative_search.md R188: CAMn.CAM_MV_DATA. -/
@[reducible] def CAM_MV_DATA (n : Nat) : Nat := 0x21009C + 0x1000 * (n % 17)
/-- 06_associative_search.md R188: CAMn.CAM_MS_START. -/
@[reducible] def CAM_MS_START (n : Nat) : Nat := 0x2100A0 + 0x1000 * (n % 17)
/-- 06_associative_search.md R188: CAMn.CAM_MSR. -/
@[reducible] def CAM_MSR (n i : Nat) : Nat := 0x2100B0 + 0x1000 * (n % 17) + 0x4 * (i % 8)
/-- 06_associative_search.md R188: CAMn.CAM_SEARCHES. -/
@[reducible] def CAM_SEARCHES (n : Nat) : Nat := 0x2100D0 + 0x1000 * (n % 17)
/-- 06_associative_search.md R188: CAMn.CAM_MULTI. -/
@[reducible] def CAM_MULTI (n : Nat) : Nat := 0x2100D4 + 0x1000 * (n % 17)
/-- 06_associative_search.md R188: CAMn.CAM_PARITY_ERR. -/
@[reducible] def CAM_PARITY_ERR (n : Nat) : Nat := 0x2100D8 + 0x1000 * (n % 17)
/-- 06_associative_search.md R188: CAMn.FLT_CTRL. -/
@[reducible] def FLT_CTRL (n : Nat) : Nat := 0x2100E0 + 0x1000 * (n % 17)
/-- 06_associative_search.md R188: CAMn.FLT_MASK. -/
@[reducible] def FLT_MASK (n : Nat) : Nat := 0x2100E4 + 0x1000 * (n % 17)
/-- 06_associative_search.md R188: CAMn.FLT_DROPS. -/
@[reducible] def FLT_DROPS (n : Nat) : Nat := 0x2100E8 + 0x1000 * (n % 17)
/-- 06_associative_search.md R188: CAMn.CAM_MASK. -/
@[reducible] def CAM_MASK (n i : Nat) : Nat := 0x210100 + 0x1000 * (n % 17) + 0x4 * (i % 36)

/-- 07_reduction.md R218: DIGP.DG_GRAINS. -/
@[reducible] def DG_GRAINS : Nat := 0x202040
/-- 07_reduction.md R218: DIGP.DG_ZERO. -/
@[reducible] def DG_ZERO : Nat := 0x202044
/-- 07_reduction.md R218: DIGP.DG_DISAGREE. -/
@[reducible] def DG_DISAGREE : Nat := 0x202048
/-- 07_reduction.md R218: DIGP.DG_CAP. -/
@[reducible] def DG_CAP : Nat := 0x20204C

/-- 07_reduction.md R218: COMP.CP_RAW_DEFAULT. -/
@[reducible] def CP_RAW_DEFAULT : Nat := 0x204040
/-- 07_reduction.md R218: COMP.CP_IN_GRAINS. -/
@[reducible] def CP_IN_GRAINS : Nat := 0x204044
/-- 07_reduction.md R218: COMP.CP_OUT_GRANULES. -/
@[reducible] def CP_OUT_GRANULES : Nat := 0x204048
/-- 07_reduction.md R218: COMP.CP_RAW. -/
@[reducible] def CP_RAW : Nat := 0x20404C
/-- 07_reduction.md R218: COMP.CP_DOWNGRADE. -/
@[reducible] def CP_DOWNGRADE : Nat := 0x204050
/-- 07_reduction.md R218: COMP.CP_DYNAMIC. -/
@[reducible] def CP_DYNAMIC : Nat := 0x204054
/-- 07_reduction.md R218: COMP.CP_FLOOR. -/
@[reducible] def CP_FLOOR : Nat := 0x204058
/-- 07_reduction.md R218: COMP.CP_POOL_CLK. -/
@[reducible] def CP_POOL_CLK : Nat := 0x20405C

/-- 07_reduction.md R218: DECOMP.DC_GRAINS. -/
@[reducible] def DC_GRAINS : Nat := 0x205040
/-- 07_reduction.md R218: DECOMP.DC_DECODE_ERR. -/
@[reducible] def DC_DECODE_ERR : Nat := 0x205044
/-- 07_reduction.md R218: DECOMP.DC_UNITS. -/
@[reducible] def DC_UNITS : Nat := 0x205048

/-- 07_reduction.md R219: DEDUP.DD_CTRL. -/
@[reducible] def DD_CTRL : Nat := 0x203040
/-- 07_reduction.md R219: DEDUP.DD_TBL_BASE. -/
@[reducible] def DD_TBL_BASE : Nat := 0x203044
/-- 07_reduction.md R219: DEDUP.DD_TBL_BITS. -/
@[reducible] def DD_TBL_BITS : Nat := 0x20304C
/-- 07_reduction.md R219: DEDUP.DD_REF_CAP. -/
@[reducible] def DD_REF_CAP : Nat := 0x203050
/-- 07_reduction.md R219: DEDUP.DD_HOT_PROMOTE. -/
@[reducible] def DD_HOT_PROMOTE : Nat := 0x203054
/-- 07_reduction.md R219: DEDUP.DD_VOL_SEL. -/
@[reducible] def DD_VOL_SEL : Nat := 0x203058
/-- 07_reduction.md R219: DEDUP.DD_VOL_POLICY, of volume `b`. -/
@[reducible] def DD_VOL_POLICY (b : Nat) : Nat := at_ b (0x20305C)
/-- 07_reduction.md R219: DEDUP.DD_MERGE_RATE. -/
@[reducible] def DD_MERGE_RATE : Nat := 0x203060
/-- 07_reduction.md R219: DEDUP.DD_HOT_HITS. -/
@[reducible] def DD_HOT_HITS : Nat := 0x203064
/-- 07_reduction.md R219: DEDUP.DD_DRAM_HITS. -/
@[reducible] def DD_DRAM_HITS : Nat := 0x203068
/-- 07_reduction.md R219: DEDUP.DD_TWIN_HITS. -/
@[reducible] def DD_TWIN_HITS : Nat := 0x20306C
/-- 07_reduction.md R219: DEDUP.DD_LATE. -/
@[reducible] def DD_LATE : Nat := 0x203070
/-- 07_reduction.md R219: DEDUP.DD_REFUSED. -/
@[reducible] def DD_REFUSED : Nat := 0x203074
/-- 07_reduction.md R219: DEDUP.DD_MERGED. -/
@[reducible] def DD_MERGED : Nat := 0x203078
/-- 07_reduction.md R219: DEDUP.DD_VERIFY_MISMATCH. -/
@[reducible] def DD_VERIFY_MISMATCH : Nat := 0x20307C
/-- 07_reduction.md R219: DEDUP.DD_BUCKET_EVICT. -/
@[reducible] def DD_BUCKET_EVICT : Nat := 0x203080
/-- 07_reduction.md R219: DEDUP.DD_MERGE_BACKLOG. -/
@[reducible] def DD_MERGE_BACKLOG : Nat := 0x203084

/-- 08_read_path.md R236: READ.RD_CTRL. -/
@[reducible] def RD_CTRL : Nat := 0x206040
/-- 08_read_path.md R236: READ.RD_RA_THRESH. -/
@[reducible] def RD_RA_THRESH : Nat := 0x206044
/-- 08_read_path.md R236: READ.RD_RA_MAX. -/
@[reducible] def RD_RA_MAX : Nat := 0x206048
/-- 08_read_path.md R236: READ.RD_SUSP_MAX. -/
@[reducible] def RD_SUSP_MAX : Nat := 0x20604C
/-- 08_read_path.md R236: READ.RD_TR_MAX. -/
@[reducible] def RD_TR_MAX : Nat := 0x206050
/-- 08_read_path.md R236: READ.RD_FLASH_BOUND. -/
@[reducible] def RD_FLASH_BOUND : Nat := 0x206054
/-- 08_read_path.md R236: READ.RD_BASIN_FREE. -/
@[reducible] def RD_BASIN_FREE : Nat := 0x206058
/-- 08_read_path.md R236: READ.RD_GRAINS. -/
@[reducible] def RD_GRAINS : Nat := 0x20605C
/-- 08_read_path.md R236: READ.RD_CISTERN_HITS. -/
@[reducible] def RD_CISTERN_HITS : Nat := 0x206060
/-- 08_read_path.md R236: READ.RD_READAROUND. -/
@[reducible] def RD_READAROUND : Nat := 0x206064
/-- 08_read_path.md R236: READ.RD_SUSPENDS. -/
@[reducible] def RD_SUSPENDS : Nat := 0x206068
/-- 08_read_path.md R236: READ.RD_DECODE_RETRY. -/
@[reducible] def RD_DECODE_RETRY : Nat := 0x20606C
/-- 08_read_path.md R236: READ.RD_REPAIRS. -/
@[reducible] def RD_REPAIRS : Nat := 0x206070
/-- 08_read_path.md R236: READ.RD_UNRECOVERED. -/
@[reducible] def RD_UNRECOVERED : Nat := 0x206074
/-- 08_read_path.md R236: READ.RD_BOUND_MISS. -/
@[reducible] def RD_BOUND_MISS : Nat := 0x206078
/-- 08_read_path.md R236: READ.RD_LAT_MAX. -/
@[reducible] def RD_LAT_MAX : Nat := 0x20607C
/-- 08_read_path.md R236: READ.RD_BASIN_WAITS. -/
@[reducible] def RD_BASIN_WAITS : Nat := 0x206080

/-- 09_module_link.md R261: MLINKn.MLK_CTRL. -/
@[reducible] def MLK_CTRL (n : Nat) : Nat := 0x300040 + 0x1000 * (n % 24)
/-- 09_module_link.md R261: MLINKn.MLK_STATUS. -/
@[reducible] def MLK_STATUS (n : Nat) : Nat := 0x300044 + 0x1000 * (n % 24)
/-- 09_module_link.md R261: MLINKn.MLK_FORCE_SWAP. -/
@[reducible] def MLK_FORCE_SWAP (n : Nat) : Nat := 0x300048 + 0x1000 * (n % 24)
/-- 09_module_link.md R261: MLINKn.MLK_LANE_LIMIT. -/
@[reducible] def MLK_LANE_LIMIT (n : Nat) : Nat := 0x30004C + 0x1000 * (n % 24)
/-- 09_module_link.md R261: MLINKn.MLK_MOD_EPOCH0. -/
@[reducible] def MLK_MOD_EPOCH0 (n : Nat) : Nat := 0x300050 + 0x1000 * (n % 24)
/-- 09_module_link.md R261: MLINKn.MLK_MOD_EPOCH1. -/
@[reducible] def MLK_MOD_EPOCH1 (n : Nat) : Nat := 0x300054 + 0x1000 * (n % 24)
/-- 09_module_link.md R261: MLINKn.MLK_FLITS_TX. -/
@[reducible] def MLK_FLITS_TX (n : Nat) : Nat := 0x300058 + 0x1000 * (n % 24)
/-- 09_module_link.md R261: MLINKn.MLK_FLITS_RX. -/
@[reducible] def MLK_FLITS_RX (n : Nat) : Nat := 0x30005C + 0x1000 * (n % 24)
/-- 09_module_link.md R261: MLINKn.MLK_CRC_ERR. -/
@[reducible] def MLK_CRC_ERR (n : Nat) : Nat := 0x300060 + 0x1000 * (n % 24)
/-- 09_module_link.md R261: MLINKn.MLK_REPLAYS. -/
@[reducible] def MLK_REPLAYS (n : Nat) : Nat := 0x300064 + 0x1000 * (n % 24)
/-- 09_module_link.md R261: MLINKn.MLK_RETRAINS. -/
@[reducible] def MLK_RETRAINS (n : Nat) : Nat := 0x300068 + 0x1000 * (n % 24)
/-- 09_module_link.md R261: MLINKn.MLK_STALE. -/
@[reducible] def MLK_STALE (n : Nat) : Nat := 0x30006C + 0x1000 * (n % 24)
/-- 09_module_link.md R261: MLINKn.MLK_LANE_ERR. -/
@[reducible] def MLK_LANE_ERR (n i : Nat) : Nat := 0x300070 + 0x1000 * (n % 24) + 0x4 * (i % 5)
/-- 09_module_link.md R261: MLINKn.MLK_CREDIT. -/
@[reducible] def MLK_CREDIT (n : Nat) : Nat := 0x300084 + 0x1000 * (n % 24)
/-- 09_module_link.md R261: MLINKn.MLK_TAGS. -/
@[reducible] def MLK_TAGS (n : Nat) : Nat := 0x300088 + 0x1000 * (n % 24)
/-- 09_module_link.md R261: MLINKn.MLK_IDENT. -/
@[reducible] def MLK_IDENT (n i : Nat) : Nat := 0x300100 + 0x1000 * (n % 24) + 0x4 * (i % 128)
/-- 09_module_link.md R261: MLINKn.MLK_TELEM. -/
@[reducible] def MLK_TELEM (n i : Nat) : Nat := 0x300300 + 0x1000 * (n % 24) + 0x4 * (i % 64)

/-- 10_flash_translation.md R297: FTL.FTL_POOL_SEL. -/
@[reducible] def FTL_POOL_SEL : Nat := 0x321040
/-- 10_flash_translation.md R297: FTL.FTL_POOL_STATE, of ftlPool `b`. -/
@[reducible] def FTL_POOL_STATE (b : Nat) : Nat := at_ b (0x321044)
/-- 10_flash_translation.md R297: FTL.FTL_CAP, of ftlPool `b`. -/
@[reducible] def FTL_CAP (b : Nat) : Nat := at_ b (0x321048)
/-- 10_flash_translation.md R297: FTL.FTL_FREE, of ftlPool `b`. -/
@[reducible] def FTL_FREE (b : Nat) : Nat := at_ b (0x321050)
/-- 10_flash_translation.md R297: FTL.FTL_LIVE, of ftlPool `b`. -/
@[reducible] def FTL_LIVE (b : Nat) : Nat := at_ b (0x321058)
/-- 10_flash_translation.md R297: FTL.FTL_LOW_PM, of ftlPool `b`. -/
@[reducible] def FTL_LOW_PM (b : Nat) : Nat := at_ b (0x321060)
/-- 10_flash_translation.md R297: FTL.FTL_GC_THRESH, of ftlPool `b`. -/
@[reducible] def FTL_GC_THRESH (b : Nat) : Nat := at_ b (0x321064)
/-- 10_flash_translation.md R297: FTL.FTL_GC_AGE_BASE, of ftlPool `b`. -/
@[reducible] def FTL_GC_AGE_BASE (b : Nat) : Nat := at_ b (0x321068)
/-- 10_flash_translation.md R297: FTL.FTL_GC_RATE, of ftlPool `b`. -/
@[reducible] def FTL_GC_RATE (b : Nat) : Nat := at_ b (0x32106C)
/-- 10_flash_translation.md R297: FTL.FTL_SEG_FREE, of ftlPool `b`. -/
@[reducible] def FTL_SEG_FREE (b : Nat) : Nat := at_ b (0x321070)
/-- 10_flash_translation.md R297: FTL.FTL_SEG_TOTAL, of ftlPool `b`. -/
@[reducible] def FTL_SEG_TOTAL (b : Nat) : Nat := at_ b (0x321074)
/-- 10_flash_translation.md R297: FTL.FTL_RECLAIMED, of ftlPool `b`. -/
@[reducible] def FTL_RECLAIMED (b : Nat) : Nat := at_ b (0x321078)
/-- 10_flash_translation.md R297: FTL.FTL_COPIED, of ftlPool `b`. -/
@[reducible] def FTL_COPIED (b : Nat) : Nat := at_ b (0x32107C)
/-- 10_flash_translation.md R297: FTL.FTL_TSEQ_DUR, of ftlPool `b`. -/
@[reducible] def FTL_TSEQ_DUR (b : Nat) : Nat := at_ b (0x321080)
/-- 10_flash_translation.md R297: FTL.FTL_JRNL_WAIT. -/
@[reducible] def FTL_JRNL_WAIT : Nat := 0x321088
/-- 10_flash_translation.md R297: FTL.FTL_CKPT_INT. -/
@[reducible] def FTL_CKPT_INT : Nat := 0x32108C
/-- 10_flash_translation.md R297: FTL.FTL_ORPHANS, of ftlPool `b`. -/
@[reducible] def FTL_ORPHANS (b : Nat) : Nat := at_ b (0x321090)
/-- 10_flash_translation.md R297: FTL.FTL_MAP_DIRTY, of ftlPool `b`. -/
@[reducible] def FTL_MAP_DIRTY (b : Nat) : Nat := at_ b (0x321094)
/-- 10_flash_translation.md R297: FTL.FTL_BACKREF_BACKLOG, of ftlPool `b`. -/
@[reducible] def FTL_BACKREF_BACKLOG (b : Nat) : Nat := at_ b (0x321098)
/-- 10_flash_translation.md R297: FTL.FTL_SNAP_COUNT. -/
@[reducible] def FTL_SNAP_COUNT : Nat := 0x32109C
/-- 10_flash_translation.md R297: FTL.FTL_CMD. -/
@[reducible] def FTL_CMD : Nat := 0x3210A0
/-- 10_flash_translation.md R297: FTL.FTL_CMD_STATUS. -/
@[reducible] def FTL_CMD_STATUS : Nat := 0x3210A4
/-- 10_flash_translation.md R297: FTL.FTL_RESULT. -/
@[reducible] def FTL_RESULT : Nat := 0x3210A8
/-- 10_flash_translation.md R297: FTL.FTL_ARG. -/
@[reducible] def FTL_ARG (i : Nat) : Nat := 0x321100 + 0x4 * (i % 16)

/-- 11_media_health.md R325: LDPC.LD_CW. -/
@[reducible] def LD_CW : Nat := 0x320040
/-- 11_media_health.md R325: LDPC.LD_FIRST_FAIL. -/
@[reducible] def LD_FIRST_FAIL : Nat := 0x320044
/-- 11_media_health.md R325: LDPC.LD_CORR_BITS. -/
@[reducible] def LD_CORR_BITS : Nat := 0x320048
/-- 11_media_health.md R325: LDPC.LD_UNITS. -/
@[reducible] def LD_UNITS : Nat := 0x32004C
/-- 11_media_health.md R325: LDPC.LD_CAL_CTRL. -/
@[reducible] def LD_CAL_CTRL : Nat := 0x320050
/-- 11_media_health.md R325: LDPC.CAL_MIN_ERR. -/
@[reducible] def CAL_MIN_ERR : Nat := 0x320054
/-- 11_media_health.md R325: LDPC.CAL_HYST. -/
@[reducible] def CAL_HYST : Nat := 0x320058
/-- 11_media_health.md R325: LDPC.CAL_INTERVAL. -/
@[reducible] def CAL_INTERVAL : Nat := 0x32005C
/-- 11_media_health.md R325: LDPC.CAL_STALE_INT. -/
@[reducible] def CAL_STALE_INT : Nat := 0x320060
/-- 11_media_health.md R325: LDPC.CAL_SEL. -/
@[reducible] def CAL_SEL : Nat := 0x320064
/-- 11_media_health.md R325: LDPC.CAL_OFFS. -/
@[reducible] def CAL_OFFS : Nat := 0x320068
/-- 11_media_health.md R325: LDPC.CAL_UPDATES. -/
@[reducible] def CAL_UPDATES : Nat := 0x320070
/-- 11_media_health.md R325: LDPC.CAL_CLAMPS. -/
@[reducible] def CAL_CLAMPS : Nat := 0x320074
/-- 11_media_health.md R325: LDPC.LD_CAL_STALE. -/
@[reducible] def LD_CAL_STALE : Nat := 0x320078

/-- 11_media_health.md R326: PATROL.PAT_CTRL. -/
@[reducible] def PAT_CTRL : Nat := 0x322040
/-- 11_media_health.md R326: PATROL.PAT_PERIOD. -/
@[reducible] def PAT_PERIOD : Nat := 0x322044
/-- 11_media_health.md R326: PATROL.PAT_COVER_MIN. -/
@[reducible] def PAT_COVER_MIN : Nat := 0x322048
/-- 11_media_health.md R326: PATROL.PAT_BER_OK. -/
@[reducible] def PAT_BER_OK : Nat := 0x32204C
/-- 11_media_health.md R326: PATROL.PAT_MAX_RATE. -/
@[reducible] def PAT_MAX_RATE : Nat := 0x322050
/-- 11_media_health.md R326: PATROL.PAT_PASS_START. -/
@[reducible] def PAT_PASS_START : Nat := 0x322054
/-- 11_media_health.md R326: PATROL.PAT_PROGRESS. -/
@[reducible] def PAT_PROGRESS : Nat := 0x32205C
/-- 11_media_health.md R326: PATROL.PAT_SKIPPED. -/
@[reducible] def PAT_SKIPPED : Nat := 0x322060
/-- 11_media_health.md R326: PATROL.PAT_READS. -/
@[reducible] def PAT_READS : Nat := 0x322064
/-- 11_media_health.md R326: PATROL.PAT_REFRESH. -/
@[reducible] def PAT_REFRESH : Nat := 0x322068
/-- 11_media_health.md R326: PATROL.PAT_LATE. -/
@[reducible] def PAT_LATE : Nat := 0x32206C

/-- 11_media_health.md R327: HEALTH.HL_SEL. -/
@[reducible] def HL_SEL : Nat := 0x323040
/-- 11_media_health.md R327: HEALTH.HL_RD_LIMIT. -/
@[reducible] def HL_RD_LIMIT : Nat := 0x323044
/-- 11_media_health.md R327: HEALTH.HL_RET_LIMIT. -/
@[reducible] def HL_RET_LIMIT : Nat := 0x323048
/-- 11_media_health.md R327: HEALTH.HL_CORR_REFRESH. -/
@[reducible] def HL_CORR_REFRESH : Nat := 0x32304C
/-- 11_media_health.md R327: HEALTH.HL_XTEMP. -/
@[reducible] def HL_XTEMP : Nat := 0x323050
/-- 11_media_health.md R327: HEALTH.HL_DIE_FAIL_LIMIT. -/
@[reducible] def HL_DIE_FAIL_LIMIT : Nat := 0x323054
/-- 11_media_health.md R327: HEALTH.HL_SPARE_WARN. -/
@[reducible] def HL_SPARE_WARN : Nat := 0x323058
/-- 11_media_health.md R327: HEALTH.HL_REFRESH_PEND. -/
@[reducible] def HL_REFRESH_PEND : Nat := 0x32305C
/-- 11_media_health.md R327: HEALTH.HL_SUSPECT. -/
@[reducible] def HL_SUSPECT : Nat := 0x323060
/-- 11_media_health.md R327: HEALTH.HL_REC. -/
@[reducible] def HL_REC (i : Nat) : Nat := 0x323100 + 0x4 * (i % 64)

/-- 11_media_health.md R328: WEAR.WR_POOL_SEL. -/
@[reducible] def WR_POOL_SEL : Nat := 0x324040
/-- 11_media_health.md R328: WEAR.WR_CTRL, of wearPool `b`. -/
@[reducible] def WR_CTRL (b : Nat) : Nat := at_ b (0x324044)
/-- 11_media_health.md R328: WEAR.WR_END, of wearPool `b`. -/
@[reducible] def WR_END (b : Nat) : Nat := at_ b (0x324048)
/-- 11_media_health.md R328: WEAR.WR_MARGIN, of wearPool `b`. -/
@[reducible] def WR_MARGIN (b : Nat) : Nat := at_ b (0x324050)
/-- 11_media_health.md R328: WEAR.WR_PACE_MIN, of wearPool `b`. -/
@[reducible] def WR_PACE_MIN (b : Nat) : Nat := at_ b (0x324054)
/-- 11_media_health.md R328: WEAR.WR_GC_UMAX, of wearPool `b`. -/
@[reducible] def WR_GC_UMAX (b : Nat) : Nat := at_ b (0x324058)
/-- 11_media_health.md R328: WEAR.WR_BUDGET, of wearPool `b`. -/
@[reducible] def WR_BUDGET (b : Nat) : Nat := at_ b (0x32405C)
/-- 11_media_health.md R328: WEAR.WR_E24, of wearPool `b`. -/
@[reducible] def WR_E24 (b : Nat) : Nat := at_ b (0x324060)
/-- 11_media_health.md R328: WEAR.WR_RATIO, of wearPool `b`. -/
@[reducible] def WR_RATIO (b : Nat) : Nat := at_ b (0x324064)
/-- 11_media_health.md R328: WEAR.WR_STATE, of wearPool `b`. -/
@[reducible] def WR_STATE (b : Nat) : Nat := at_ b (0x324068)
/-- 11_media_health.md R328: WEAR.WR_DAYS, of wearPool `b`. -/
@[reducible] def WR_DAYS (b : Nat) : Nat := at_ b (0x32406C)
/-- 11_media_health.md R328: WEAR.WR_REM, of wearPool `b`. -/
@[reducible] def WR_REM (b : Nat) : Nat := at_ b (0x324070)

/-- 12_stripe_redundancy.md R358: STRIPE.SP_POOL_SEL. -/
@[reducible] def SP_POOL_SEL : Nat := 0x325040
/-- 12_stripe_redundancy.md R358: STRIPE.SP_LAYOUT, of spPool `b`. -/
@[reducible] def SP_LAYOUT (b : Nat) : Nat := at_ b (0x325044)
/-- 12_stripe_redundancy.md R358: STRIPE.SP_MODULES, of spPool `b`. -/
@[reducible] def SP_MODULES (b : Nat) : Nat := at_ b (0x325048)
/-- 12_stripe_redundancy.md R358: STRIPE.SP_STATE, of spPool `b`. -/
@[reducible] def SP_STATE (b : Nat) : Nat := at_ b (0x32504C)
/-- 12_stripe_redundancy.md R358: STRIPE.SP_FAILED, of spPool `b`. -/
@[reducible] def SP_FAILED (b : Nat) : Nat := at_ b (0x325050)
/-- 12_stripe_redundancy.md R358: STRIPE.SP_SUBST, of spPool `b`. -/
@[reducible] def SP_SUBST (b i : Nat) : Nat := at_ b (0x325054 + 0x4 * (i % 4))
/-- 12_stripe_redundancy.md R358: STRIPE.SP_REB_RATE. -/
@[reducible] def SP_REB_RATE : Nat := 0x325064
/-- 12_stripe_redundancy.md R358: STRIPE.SP_REB_GRACE. -/
@[reducible] def SP_REB_GRACE : Nat := 0x325068
/-- 12_stripe_redundancy.md R358: STRIPE.SP_REB_HOLDOFF. -/
@[reducible] def SP_REB_HOLDOFF : Nat := 0x32506C
/-- 12_stripe_redundancy.md R358: STRIPE.SP_REB_LEFT, of spPool `b`. -/
@[reducible] def SP_REB_LEFT (b : Nat) : Nat := at_ b (0x325070)
/-- 12_stripe_redundancy.md R358: STRIPE.SP_RESHAPE_RATE. -/
@[reducible] def SP_RESHAPE_RATE : Nat := 0x325078
/-- 12_stripe_redundancy.md R358: STRIPE.SP_RESHAPE_LEFT, of spPool `b`. -/
@[reducible] def SP_RESHAPE_LEFT (b : Nat) : Nat := at_ b (0x32507C)
/-- 12_stripe_redundancy.md R358: STRIPE.SP_SWITCH_SEQ, of spPool `b`. -/
@[reducible] def SP_SWITCH_SEQ (b : Nat) : Nat := at_ b (0x325080)
/-- 12_stripe_redundancy.md R358: STRIPE.SP_JBAND, of spPool `b`. -/
@[reducible] def SP_JBAND (b : Nat) : Nat := at_ b (0x325088)
/-- 12_stripe_redundancy.md R358: STRIPE.SP_LOSS_COUNT, of spPool `b`. -/
@[reducible] def SP_LOSS_COUNT (b : Nat) : Nat := at_ b (0x32508C)
/-- 12_stripe_redundancy.md R358: STRIPE.SP_LOSS_OVERFLOW, of spPool `b`. -/
@[reducible] def SP_LOSS_OVERFLOW (b : Nat) : Nat := at_ b (0x325090)
/-- 12_stripe_redundancy.md R358: STRIPE.SP_LOSS_SEL. -/
@[reducible] def SP_LOSS_SEL : Nat := 0x325094
/-- 12_stripe_redundancy.md R358: STRIPE.SP_STRIPES_WR, of spPool `b`. -/
@[reducible] def SP_STRIPES_WR (b : Nat) : Nat := at_ b (0x325098)
/-- 12_stripe_redundancy.md R358: STRIPE.SP_RECON, of spPool `b`. -/
@[reducible] def SP_RECON (b : Nat) : Nat := at_ b (0x32509C)
/-- 12_stripe_redundancy.md R358: STRIPE.SP_Q_RETRY, of spPool `b`. -/
@[reducible] def SP_Q_RETRY (b : Nat) : Nat := at_ b (0x3250A0)
/-- 12_stripe_redundancy.md R358: STRIPE.SP_CMD. -/
@[reducible] def SP_CMD : Nat := 0x3250A4
/-- 12_stripe_redundancy.md R358: STRIPE.SP_CMD_STATUS. -/
@[reducible] def SP_CMD_STATUS : Nat := 0x3250A8
/-- 12_stripe_redundancy.md R358: STRIPE.SP_ARG. -/
@[reducible] def SP_ARG (i : Nat) : Nat := 0x325100 + 0x4 * (i % 16)
/-- 12_stripe_redundancy.md R358: STRIPE.SP_LOSS_DATA. -/
@[reducible] def SP_LOSS_DATA (i : Nat) : Nat := 0x325140 + 0x4 * (i % 12)

/-- 13_tandem_operation.md R397: TLINK.TL_CTRL. -/
@[reducible] def TL_CTRL : Nat := 0x500040
/-- 13_tandem_operation.md R397: TLINK.TL_STATUS. -/
@[reducible] def TL_STATUS : Nat := 0x500044
/-- 13_tandem_operation.md R397: TLINK.TL_FORCE_SWAP. -/
@[reducible] def TL_FORCE_SWAP : Nat := 0x500048
/-- 13_tandem_operation.md R397: TLINK.TL_LANE_LIMIT. -/
@[reducible] def TL_LANE_LIMIT : Nat := 0x50004C
/-- 13_tandem_operation.md R397: TLINK.TL_FLITS_TX. -/
@[reducible] def TL_FLITS_TX : Nat := 0x500050
/-- 13_tandem_operation.md R397: TLINK.TL_FLITS_RX. -/
@[reducible] def TL_FLITS_RX : Nat := 0x500054
/-- 13_tandem_operation.md R397: TLINK.TL_CRC_ERR. -/
@[reducible] def TL_CRC_ERR : Nat := 0x500058
/-- 13_tandem_operation.md R397: TLINK.TL_REPLAYS. -/
@[reducible] def TL_REPLAYS : Nat := 0x50005C
/-- 13_tandem_operation.md R397: TLINK.TL_RETRAINS. -/
@[reducible] def TL_RETRAINS : Nat := 0x500060
/-- 13_tandem_operation.md R397: TLINK.TL_FWD_SENT. -/
@[reducible] def TL_FWD_SENT : Nat := 0x500064
/-- 13_tandem_operation.md R397: TLINK.TL_FWD_RCVD. -/
@[reducible] def TL_FWD_RCVD : Nat := 0x500068
/-- 13_tandem_operation.md R397: TLINK.TL_LANE_ERR. -/
@[reducible] def TL_LANE_ERR (i : Nat) : Nat := 0x500070 + 0x4 * (i % 18)
/-- 13_tandem_operation.md R397: TLINK.TL_PARTNER. -/
@[reducible] def TL_PARTNER : Nat := 0x5000C0

/-- 13_tandem_operation.md R398: REIN.RN_CTRL. -/
@[reducible] def RN_CTRL : Nat := 0x501040
/-- 13_tandem_operation.md R398: REIN.RN_KEY. -/
@[reducible] def RN_KEY : Nat := 0x501044
/-- 13_tandem_operation.md R398: REIN.RN_STATUS. -/
@[reducible] def RN_STATUS : Nat := 0x501048
/-- 13_tandem_operation.md R398: REIN.RN_A_MISS. -/
@[reducible] def RN_A_MISS : Nat := 0x50104C
/-- 13_tandem_operation.md R398: REIN.RN_B_MISS. -/
@[reducible] def RN_B_MISS : Nat := 0x501050
/-- 13_tandem_operation.md R398: REIN.RN_AUTH_FAIL. -/
@[reducible] def RN_AUTH_FAIL : Nat := 0x501054
/-- 13_tandem_operation.md R398: REIN.RN_LAST_A. -/
@[reducible] def RN_LAST_A : Nat := 0x501058
/-- 13_tandem_operation.md R398: REIN.RN_LAST_B. -/
@[reducible] def RN_LAST_B : Nat := 0x501060
/-- 13_tandem_operation.md R398: REIN.RN_B_LINK. -/
@[reducible] def RN_B_LINK : Nat := 0x501068

/-- 13_tandem_operation.md R399: FENCE.TD_STATE. -/
@[reducible] def TD_STATE : Nat := 0x502040
/-- 13_tandem_operation.md R399: FENCE.TD_CMD. -/
@[reducible] def TD_CMD : Nat := 0x502044
/-- 13_tandem_operation.md R399: FENCE.TD_CMD_STATUS. -/
@[reducible] def TD_CMD_STATUS : Nat := 0x502048
/-- 13_tandem_operation.md R399: FENCE.TD_HOLD_MAX. -/
@[reducible] def TD_HOLD_MAX : Nat := 0x50204C
/-- 13_tandem_operation.md R399: FENCE.TD_JOIN_WAIT. -/
@[reducible] def TD_JOIN_WAIT : Nat := 0x502050
/-- 13_tandem_operation.md R399: FENCE.TD_ARB. -/
@[reducible] def TD_ARB : Nat := 0x502054
/-- 13_tandem_operation.md R399: FENCE.TD_LOST_AT. -/
@[reducible] def TD_LOST_AT : Nat := 0x502058
/-- 13_tandem_operation.md R399: FENCE.TD_TAKEOVERS. -/
@[reducible] def TD_TAKEOVERS : Nat := 0x502060
/-- 13_tandem_operation.md R399: FENCE.TD_TWINS. -/
@[reducible] def TD_TWINS : Nat := 0x502064
/-- 13_tandem_operation.md R399: FENCE.TD_TCPL_SENT. -/
@[reducible] def TD_TCPL_SENT : Nat := 0x502068
/-- 13_tandem_operation.md R399: FENCE.TD_ARG. -/
@[reducible] def TD_ARG (i : Nat) : Nat := 0x502100 + 0x4 * (i % 16)

/-- 13_tandem_operation.md R400: REPL.RP_GROUP_SEL. -/
@[reducible] def RP_GROUP_SEL : Nat := 0x503040
/-- 13_tandem_operation.md R400: REPL.RP_CFG, of group `b`. -/
@[reducible] def RP_CFG (b : Nat) : Nat := at_ b (0x503044)
/-- 13_tandem_operation.md R400: REPL.RP_BATCH, of group `b`. -/
@[reducible] def RP_BATCH (b : Nat) : Nat := at_ b (0x503048)
/-- 13_tandem_operation.md R400: REPL.RP_SYNC_TMO, of group `b`. -/
@[reducible] def RP_SYNC_TMO (b : Nat) : Nat := at_ b (0x50304C)
/-- 13_tandem_operation.md R400: REPL.RP_QP, of group `b`. -/
@[reducible] def RP_QP (b : Nat) : Nat := at_ b (0x503050)
/-- 13_tandem_operation.md R400: REPL.RP_STATE, of group `b`. -/
@[reducible] def RP_STATE (b : Nat) : Nat := at_ b (0x503054)
/-- 13_tandem_operation.md R400: REPL.RP_LAST_STAGED, of group `b`. -/
@[reducible] def RP_LAST_STAGED (b : Nat) : Nat := at_ b (0x503058)
/-- 13_tandem_operation.md R400: REPL.RP_LAST_APPLIED, of group `b`. -/
@[reducible] def RP_LAST_APPLIED (b : Nat) : Nat := at_ b (0x503060)
/-- 13_tandem_operation.md R400: REPL.RP_LAG, of group `b`. -/
@[reducible] def RP_LAG (b : Nat) : Nat := at_ b (0x503068)
/-- 13_tandem_operation.md R400: REPL.RP_RECS_TX, of group `b`. -/
@[reducible] def RP_RECS_TX (b : Nat) : Nat := at_ b (0x50306C)
/-- 13_tandem_operation.md R400: REPL.RP_DUP_DISCARD, of group `b`. -/
@[reducible] def RP_DUP_DISCARD (b : Nat) : Nat := at_ b (0x503070)
/-- 13_tandem_operation.md R400: REPL.RP_CMD. -/
@[reducible] def RP_CMD : Nat := 0x503074
/-- 13_tandem_operation.md R400: REPL.RP_CMD_STATUS. -/
@[reducible] def RP_CMD_STATUS : Nat := 0x503078
/-- 13_tandem_operation.md R400: REPL.RP_ARG. -/
@[reducible] def RP_ARG (i : Nat) : Nat := 0x503100 + 0x4 * (i % 16)

/-- 14_memory_system.md R427: DDRCn.DC_CFG. -/
@[reducible] def DC_CFG (n : Nat) : Nat := 0x400040 + 0x1000 * (n % 8)
/-- 14_memory_system.md R427: DDRCn.DC_CTRL. -/
@[reducible] def DC_CTRL (n : Nat) : Nat := 0x400044 + 0x1000 * (n % 8)
/-- 14_memory_system.md R427: DDRCn.DC_FREQ_CMD. -/
@[reducible] def DC_FREQ_CMD (n : Nat) : Nat := 0x400048 + 0x1000 * (n % 8)
/-- 14_memory_system.md R427: DDRCn.DC_STATUS. -/
@[reducible] def DC_STATUS (n : Nat) : Nat := 0x40004C + 0x1000 * (n % 8)
/-- 14_memory_system.md R427: DDRCn.DC_TSEL. -/
@[reducible] def DC_TSEL (n : Nat) : Nat := 0x400050 + 0x1000 * (n % 8)
/-- 14_memory_system.md R427: DDRCn.DC_TIM, of timing `b`. -/
@[reducible] def DC_TIM (b n i : Nat) : Nat := at_ b (0x400054 + 0x1000 * (n % 8) + 0x4 * (i % 4))
/-- 14_memory_system.md R427: DDRCn.DC_PNR. -/
@[reducible] def DC_PNR (n : Nat) : Nat := 0x400064 + 0x1000 * (n % 8)
/-- 14_memory_system.md R427: DDRCn.DC_SCRUB. -/
@[reducible] def DC_SCRUB (n : Nat) : Nat := 0x400068 + 0x1000 * (n % 8)
/-- 14_memory_system.md R427: DDRCn.DC_SCRUB_PROGRESS. -/
@[reducible] def DC_SCRUB_PROGRESS (n : Nat) : Nat := 0x40006C + 0x1000 * (n % 8)
/-- 14_memory_system.md R427: DDRCn.DC_SPARE_THRESH. -/
@[reducible] def DC_SPARE_THRESH (n : Nat) : Nat := 0x400070 + 0x1000 * (n % 8)
/-- 14_memory_system.md R427: DDRCn.DC_SPARE_RATE. -/
@[reducible] def DC_SPARE_RATE (n : Nat) : Nat := 0x400074 + 0x1000 * (n % 8)
/-- 14_memory_system.md R427: DDRCn.DC_DRIFT. -/
@[reducible] def DC_DRIFT (n : Nat) : Nat := 0x400078 + 0x1000 * (n % 8)
/-- 14_memory_system.md R427: DDRCn.DC_CE_COUNT. -/
@[reducible] def DC_CE_COUNT (n : Nat) : Nat := 0x40007C + 0x1000 * (n % 8)
/-- 14_memory_system.md R427: DDRCn.DC_UE_COUNT. -/
@[reducible] def DC_UE_COUNT (n : Nat) : Nat := 0x400080 + 0x1000 * (n % 8)
/-- 14_memory_system.md R427: DDRCn.DC_CE_LAST. -/
@[reducible] def DC_CE_LAST (n : Nat) : Nat := 0x400084 + 0x1000 * (n % 8)
/-- 14_memory_system.md R427: DDRCn.DC_CE_ADDR. -/
@[reducible] def DC_CE_ADDR (n : Nat) : Nat := 0x400088 + 0x1000 * (n % 8)
/-- 14_memory_system.md R427: DDRCn.DC_DRFM. -/
@[reducible] def DC_DRFM (n : Nat) : Nat := 0x400090 + 0x1000 * (n % 8)
/-- 14_memory_system.md R427: DDRCn.DC_PPR. -/
@[reducible] def DC_PPR (n : Nat) : Nat := 0x400094 + 0x1000 * (n % 8)
/-- 14_memory_system.md R427: DDRCn.DC_LAT_MAX. -/
@[reducible] def DC_LAT_MAX (n : Nat) : Nat := 0x400098 + 0x1000 * (n % 8)
/-- 14_memory_system.md R427: DDRCn.DC_DRIFT_STEPS. -/
@[reducible] def DC_DRIFT_STEPS (n : Nat) : Nat := 0x40009C + 0x1000 * (n % 8)
/-- 14_memory_system.md R427: DDRCn.DC_UTIL. -/
@[reducible] def DC_UTIL (n : Nat) : Nat := 0x4000A0 + 0x1000 * (n % 8)
/-- 14_memory_system.md R427: DDRCn.DC_PORT. -/
@[reducible] def DC_PORT (n i : Nat) : Nat := 0x400100 + 0x1000 * (n % 8) + 0x4 * (i % 11)

/-- 14_memory_system.md R429: MCACHE.MC_CFG. -/
@[reducible] def MC_CFG : Nat := 0x408040
/-- 14_memory_system.md R429: MCACHE.MC_HITS. -/
@[reducible] def MC_HITS : Nat := 0x408044
/-- 14_memory_system.md R429: MCACHE.MC_MISSES. -/
@[reducible] def MC_MISSES : Nat := 0x408048
/-- 14_memory_system.md R429: MCACHE.MC_MERGES. -/
@[reducible] def MC_MERGES : Nat := 0x40804C
/-- 14_memory_system.md R429: MCACHE.MC_SECTOR_FILLS. -/
@[reducible] def MC_SECTOR_FILLS : Nat := 0x408050
/-- 14_memory_system.md R429: MCACHE.MC_EVICT_DIRTY. -/
@[reducible] def MC_EVICT_DIRTY : Nat := 0x408054
/-- 14_memory_system.md R429: MCACHE.MC_MSR_INUSE. -/
@[reducible] def MC_MSR_INUSE : Nat := 0x408058
/-- 14_memory_system.md R429: MCACHE.MC_MSR_FULL. -/
@[reducible] def MC_MSR_FULL : Nat := 0x40805C
/-- 14_memory_system.md R429: MCACHE.MC_EVICT_WAITS. -/
@[reducible] def MC_EVICT_WAITS : Nat := 0x408060
/-- 14_memory_system.md R429: MCACHE.MC_OP. -/
@[reducible] def MC_OP : Nat := 0x408064
/-- 14_memory_system.md R429: MCACHE.MC_OP_ADDR. -/
@[reducible] def MC_OP_ADDR : Nat := 0x408068
/-- 14_memory_system.md R429: MCACHE.MC_OP_LINES. -/
@[reducible] def MC_OP_LINES : Nat := 0x408070
/-- 14_memory_system.md R429: MCACHE.MC_OP_STATUS. -/
@[reducible] def MC_OP_STATUS : Nat := 0x408074
/-- 14_memory_system.md R429: MCACHE.MC_DIRTY. -/
@[reducible] def MC_DIRTY : Nat := 0x408078
/-- 14_memory_system.md R429: MCACHE.MC_SRAM_CE. -/
@[reducible] def MC_SRAM_CE : Nat := 0x40807C
/-- 14_memory_system.md R429: MCACHE.MC_REBUILDS. -/
@[reducible] def MC_REBUILDS : Nat := 0x408080

/-- 15_digest_and_keys.md R450: KDE.KDE_CLAIM. -/
@[reducible] def KDE_CLAIM : Nat := 0x016040
/-- 15_digest_and_keys.md R450: KDE.KDE_OWNER. -/
@[reducible] def KDE_OWNER : Nat := 0x016044
/-- 15_digest_and_keys.md R450: KDE.KDE_CTRL. -/
@[reducible] def KDE_CTRL : Nat := 0x016048
/-- 15_digest_and_keys.md R450: KDE.KDE_MODE. -/
@[reducible] def KDE_MODE : Nat := 0x01604C
/-- 15_digest_and_keys.md R450: KDE.KDE_STATUS. -/
@[reducible] def KDE_STATUS : Nat := 0x016050
/-- 15_digest_and_keys.md R450: KDE.KDE_DATA. -/
@[reducible] def KDE_DATA : Nat := 0x016054
/-- 15_digest_and_keys.md R450: KDE.KDE_TAIL. -/
@[reducible] def KDE_TAIL : Nat := 0x016058
/-- 15_digest_and_keys.md R450: KDE.KDE_LEN. -/
@[reducible] def KDE_LEN : Nat := 0x016060
/-- 15_digest_and_keys.md R450: KDE.KDE_RESULT. -/
@[reducible] def KDE_RESULT : Nat := 0x016068
/-- 15_digest_and_keys.md R450: KDE.KDE_CMP_COMPAT. -/
@[reducible] def KDE_CMP_COMPAT : Nat := 0x01606C
/-- 15_digest_and_keys.md R450: KDE.KDE_CTX_CMD. -/
@[reducible] def KDE_CTX_CMD : Nat := 0x016070
/-- 15_digest_and_keys.md R450: KDE.KDE_CTX_STATUS. -/
@[reducible] def KDE_CTX_STATUS : Nat := 0x016074
/-- 15_digest_and_keys.md R450: KDE.KDE_CTX_OWNER. -/
@[reducible] def KDE_CTX_OWNER : Nat := 0x016078
/-- 15_digest_and_keys.md R450: KDE.KDE_IDLE_MAX. -/
@[reducible] def KDE_IDLE_MAX : Nat := 0x01607C
/-- 15_digest_and_keys.md R450: KDE.KDE_SESSIONS. -/
@[reducible] def KDE_SESSIONS : Nat := 0x016080
/-- 15_digest_and_keys.md R450: KDE.KDE_DIGEST. -/
@[reducible] def KDE_DIGEST (i : Nat) : Nat := 0x016100 + 0x4 * (i % 16)
/-- 15_digest_and_keys.md R450: KDE.KDE_EXPECT. -/
@[reducible] def KDE_EXPECT (i : Nat) : Nat := 0x016140 + 0x4 * (i % 16)

/-- 15_digest_and_keys.md R451: KEYSLOT.KS_SEL. -/
@[reducible] def KS_SEL : Nat := 0x017040
/-- 15_digest_and_keys.md R451: KEYSLOT.KS_CMD. -/
@[reducible] def KS_CMD : Nat := 0x017044
/-- 15_digest_and_keys.md R451: KEYSLOT.KS_CMD_STATUS. -/
@[reducible] def KS_CMD_STATUS : Nat := 0x017048
/-- 15_digest_and_keys.md R451: KEYSLOT.KS_LEN. -/
@[reducible] def KS_LEN : Nat := 0x01704C
/-- 15_digest_and_keys.md R451: KEYSLOT.KS_USE_ARG. -/
@[reducible] def KS_USE_ARG : Nat := 0x017050
/-- 15_digest_and_keys.md R451: KEYSLOT.KS_STATE. -/
@[reducible] def KS_STATE : Nat := 0x017054
/-- 15_digest_and_keys.md R451: KEYSLOT.KS_KCV. -/
@[reducible] def KS_KCV : Nat := 0x017058
/-- 15_digest_and_keys.md R451: KEYSLOT.KS_VALID_MAP. -/
@[reducible] def KS_VALID_MAP : Nat := 0x01705C
/-- 15_digest_and_keys.md R451: KEYSLOT.KS_LOCK_MAP. -/
@[reducible] def KS_LOCK_MAP : Nat := 0x017064
/-- 15_digest_and_keys.md R451: KEYSLOT.KS_GLOBAL. -/
@[reducible] def KS_GLOBAL : Nat := 0x01706C
/-- 15_digest_and_keys.md R451: KEYSLOT.KS_DATA. -/
@[reducible] def KS_DATA (i : Nat) : Nat := 0x017100 + 0x4 * (i % 16)

/-- 16_resilience_and_records.md R484: GUARD.GD_LADDER. -/
@[reducible] def GD_LADDER : Nat := 0x010040
/-- 16_resilience_and_records.md R484: GUARD.GD_Q_SEL. -/
@[reducible] def GD_Q_SEL : Nat := 0x010044
/-- 16_resilience_and_records.md R484: GUARD.GD_Q_ENTRY0, of entry `b`. -/
@[reducible] def GD_Q_ENTRY0 (b : Nat) : Nat := at_ b (0x010048)
/-- 16_resilience_and_records.md R484: GUARD.GD_Q_ENTRY1, of entry `b`. -/
@[reducible] def GD_Q_ENTRY1 (b : Nat) : Nat := at_ b (0x01004C)
/-- 16_resilience_and_records.md R484: GUARD.GD_Q_STRIDE, of entry `b`. -/
@[reducible] def GD_Q_STRIDE (b : Nat) : Nat := at_ b (0x010050)
/-- 16_resilience_and_records.md R484: GUARD.GD_OVERFLOW. -/
@[reducible] def GD_OVERFLOW : Nat := 0x010058
/-- 16_resilience_and_records.md R484: GUARD.GD_ESCALATIONS. -/
@[reducible] def GD_ESCALATIONS : Nat := 0x01005C
/-- 16_resilience_and_records.md R484: GUARD.GD_LEVEL_COUNT. -/
@[reducible] def GD_LEVEL_COUNT (i : Nat) : Nat := 0x010060 + 0x4 * (i % 6)
/-- 16_resilience_and_records.md R484: GUARD.GD_DIAG_BASE. -/
@[reducible] def GD_DIAG_BASE : Nat := 0x010080
/-- 16_resilience_and_records.md R484: GUARD.GD_DIAG_SIZE. -/
@[reducible] def GD_DIAG_SIZE : Nat := 0x010088
/-- 16_resilience_and_records.md R484: GUARD.GD_DIAG_PROD. -/
@[reducible] def GD_DIAG_PROD : Nat := 0x01008C
/-- 16_resilience_and_records.md R484: GUARD.GD_DIAG_CONS. -/
@[reducible] def GD_DIAG_CONS : Nat := 0x010090
/-- 16_resilience_and_records.md R484: GUARD.GD_DIAG_LOST. -/
@[reducible] def GD_DIAG_LOST : Nat := 0x010094
/-- 16_resilience_and_records.md R484: GUARD.GD_DIAG_CTRL. -/
@[reducible] def GD_DIAG_CTRL : Nat := 0x010098
/-- 16_resilience_and_records.md R484: GUARD.GD_ACT_SEL. -/
@[reducible] def GD_ACT_SEL : Nat := 0x0100A0
/-- 16_resilience_and_records.md R484: GUARD.GD_ACT_RUN, of actPool `b`. -/
@[reducible] def GD_ACT_RUN (b : Nat) : Nat := at_ b (0x0100A4)
/-- 16_resilience_and_records.md R484: GUARD.GD_LAST_DECISION. -/
@[reducible] def GD_LAST_DECISION : Nat := 0x0100A8
/-- 16_resilience_and_records.md R484: GUARD.GD_ACT_QLEN. -/
@[reducible] def GD_ACT_QLEN : Nat := 0x0100AC
/-- 16_resilience_and_records.md R484: GUARD.GD_ACT_CANCEL. -/
@[reducible] def GD_ACT_CANCEL : Nat := 0x0100B0
/-- 16_resilience_and_records.md R484: GUARD.GD_MX. -/
@[reducible] def GD_MX (i : Nat) : Nat := 0x010100 + 0x4 * (i % 12)

/-- 16_resilience_and_records.md R485: STUDBOOK.STB_CTRL. -/
@[reducible] def STB_CTRL : Nat := 0x011040
/-- 16_resilience_and_records.md R485: STUDBOOK.STB_STATUS. -/
@[reducible] def STB_STATUS : Nat := 0x011044
/-- 16_resilience_and_records.md R485: STUDBOOK.STB_END. -/
@[reducible] def STB_END : Nat := 0x011048
/-- 16_resilience_and_records.md R485: STUDBOOK.STB_FLUSHED. -/
@[reducible] def STB_FLUSHED : Nat := 0x011050
/-- 16_resilience_and_records.md R485: STUDBOOK.STB_LAST_SEQ. -/
@[reducible] def STB_LAST_SEQ : Nat := 0x011058
/-- 16_resilience_and_records.md R485: STUDBOOK.STB_FILL_PM. -/
@[reducible] def STB_FILL_PM : Nat := 0x01105C
/-- 16_resilience_and_records.md R485: STUDBOOK.STB_DROPPED. -/
@[reducible] def STB_DROPPED : Nat := 0x011060
/-- 16_resilience_and_records.md R485: STUDBOOK.STB_RD_OFF. -/
@[reducible] def STB_RD_OFF : Nat := 0x011064
/-- 16_resilience_and_records.md R485: STUDBOOK.STB_RD_STATUS. -/
@[reducible] def STB_RD_STATUS : Nat := 0x01106C
/-- 16_resilience_and_records.md R485: STUDBOOK.STB_APP_CMD. -/
@[reducible] def STB_APP_CMD : Nat := 0x011070
/-- 16_resilience_and_records.md R485: STUDBOOK.STB_APP_STATUS. -/
@[reducible] def STB_APP_STATUS : Nat := 0x011074
/-- 16_resilience_and_records.md R485: STUDBOOK.STB_APP_DATA. -/
@[reducible] def STB_APP_DATA (i : Nat) : Nat := 0x011400 + 0x4 * (i % 256)
/-- 16_resilience_and_records.md R485: STUDBOOK.STB_RD_WIN. -/
@[reducible] def STB_RD_WIN (i : Nat) : Nat := 0x011800 + 0x4 * (i % 512)

/-- 16_resilience_and_records.md R486: TACK.TK_STATUS. -/
@[reducible] def TK_STATUS : Nat := 0x012040
/-- 16_resilience_and_records.md R486: TACK.TK_SEQ. -/
@[reducible] def TK_SEQ : Nat := 0x012044
/-- 16_resilience_and_records.md R486: TACK.TK_SKIPPED. -/
@[reducible] def TK_SKIPPED : Nat := 0x012048
/-- 16_resilience_and_records.md R486: TACK.TK_CTRL. -/
@[reducible] def TK_CTRL : Nat := 0x01204C
/-- 16_resilience_and_records.md R486: TACK.TK_HOST. -/
@[reducible] def TK_HOST : Nat := 0x012050
/-- 16_resilience_and_records.md R486: TACK.TK_CMD. -/
@[reducible] def TK_CMD : Nat := 0x012058
/-- 16_resilience_and_records.md R486: TACK.TK_CMD_STATUS. -/
@[reducible] def TK_CMD_STATUS : Nat := 0x01205C
/-- 16_resilience_and_records.md R486: TACK.TK_INVALID. -/
@[reducible] def TK_INVALID : Nat := 0x012060

/-- 16_resilience_and_records.md R486: REMOUNT.RM_CTRL. -/
@[reducible] def RM_CTRL : Nat := 0x013040
/-- 16_resilience_and_records.md R486: REMOUNT.RM_INV_SEL. -/
@[reducible] def RM_INV_SEL : Nat := 0x013044
/-- 16_resilience_and_records.md R486: REMOUNT.RM_INV, of kind `b`. -/
@[reducible] def RM_INV (b : Nat) : Nat := at_ b (0x013048)
/-- 16_resilience_and_records.md R486: REMOUNT.RM_STATUS. -/
@[reducible] def RM_STATUS : Nat := 0x01304C
/-- 16_resilience_and_records.md R486: REMOUNT.RM_CANDIDATES. -/
@[reducible] def RM_CANDIDATES : Nat := 0x013050
/-- 16_resilience_and_records.md R486: REMOUNT.RM_CMD. -/
@[reducible] def RM_CMD : Nat := 0x013054
/-- 16_resilience_and_records.md R486: REMOUNT.RM_CMD_STATUS. -/
@[reducible] def RM_CMD_STATUS : Nat := 0x013058
/-- 16_resilience_and_records.md R486: REMOUNT.RM_COUNT. -/
@[reducible] def RM_COUNT : Nat := 0x01305C
/-- 16_resilience_and_records.md R486: REMOUNT.RM_SRAM_ROWS. -/
@[reducible] def RM_SRAM_ROWS : Nat := 0x013060

/-- 17_service_and_firmware.md R506: SVC.SVC_CTRL. -/
@[reducible] def SVC_CTRL : Nat := 0x014040
/-- 17_service_and_firmware.md R506: SVC.SVC_STATUS. -/
@[reducible] def SVC_STATUS : Nat := 0x014044
/-- 17_service_and_firmware.md R506: SVC.SVC_MAC. -/
@[reducible] def SVC_MAC : Nat := 0x014048
/-- 17_service_and_firmware.md R506: SVC.SVC_IPV4. -/
@[reducible] def SVC_IPV4 : Nat := 0x014050
/-- 17_service_and_firmware.md R506: SVC.SVC_IPV4_MASK. -/
@[reducible] def SVC_IPV4_MASK : Nat := 0x014054
/-- 17_service_and_firmware.md R506: SVC.SVC_IPV4_GW. -/
@[reducible] def SVC_IPV4_GW : Nat := 0x014058
/-- 17_service_and_firmware.md R506: SVC.SVC_IPV6. -/
@[reducible] def SVC_IPV6 (i : Nat) : Nat := 0x014060 + 0x4 * (i % 4)
/-- 17_service_and_firmware.md R506: SVC.SVC_IDLE. -/
@[reducible] def SVC_IDLE : Nat := 0x014070
/-- 17_service_and_firmware.md R506: SVC.SVC_MAINT_MAP. -/
@[reducible] def SVC_MAINT_MAP : Nat := 0x014074
/-- 17_service_and_firmware.md R506: SVC.SVC_AUTH_FAIL. -/
@[reducible] def SVC_AUTH_FAIL : Nat := 0x01407C
/-- 17_service_and_firmware.md R506: SVC.SVC_RX_DROP. -/
@[reducible] def SVC_RX_DROP : Nat := 0x014080
/-- 17_service_and_firmware.md R506: SVC.SVC_MSG_RX. -/
@[reducible] def SVC_MSG_RX : Nat := 0x014084

/-- 17_service_and_firmware.md R506: FWU.FW_RUN. -/
@[reducible] def FW_RUN : Nat := 0x015040
/-- 17_service_and_firmware.md R506: FWU.FW_RUN_BUILD. -/
@[reducible] def FW_RUN_BUILD : Nat := 0x015044
/-- 17_service_and_firmware.md R506: FWU.FW_RUN_VER. -/
@[reducible] def FW_RUN_VER : Nat := 0x015048
/-- 17_service_and_firmware.md R506: FWU.FW_INST_BUILD. -/
@[reducible] def FW_INST_BUILD : Nat := 0x01504C
/-- 17_service_and_firmware.md R506: FWU.FW_FLOOR. -/
@[reducible] def FW_FLOOR : Nat := 0x015050
/-- 17_service_and_firmware.md R506: FWU.FW_SLOT. -/
@[reducible] def FW_SLOT (i : Nat) : Nat := 0x015054 + 0x4 * (i % 2)
/-- 17_service_and_firmware.md R506: FWU.FW_SLOT_BUILD. -/
@[reducible] def FW_SLOT_BUILD (i : Nat) : Nat := 0x01505C + 0x4 * (i % 2)
/-- 17_service_and_firmware.md R506: FWU.FW_STAGE. -/
@[reducible] def FW_STAGE : Nat := 0x015064
/-- 17_service_and_firmware.md R506: FWU.FW_STAGE_BYTES. -/
@[reducible] def FW_STAGE_BYTES : Nat := 0x015068
/-- 17_service_and_firmware.md R506: FWU.FW_CMD. -/
@[reducible] def FW_CMD : Nat := 0x01506C
/-- 17_service_and_firmware.md R506: FWU.FW_CMD_STATUS. -/
@[reducible] def FW_CMD_STATUS : Nat := 0x015070

/-- 18_pins_power_reset.md R527: CHIP_ID.CHIP_RST_STATUS. -/
@[reducible] def CHIP_RST_STATUS : Nat := 0x000600
/-- 18_pins_power_reset.md R527: CHIP_ID.CHIP_RST_CTL. -/
@[reducible] def CHIP_RST_CTL : Nat := 0x000604
/-- 18_pins_power_reset.md R527: CHIP_ID.CHIP_PCIE_RESETS. -/
@[reducible] def CHIP_PCIE_RESETS : Nat := 0x000608
/-- 18_pins_power_reset.md R527: CHIP_ID.PF_STATUS. -/
@[reducible] def PF_STATUS : Nat := 0x00060C
/-- 18_pins_power_reset.md R527: CHIP_ID.PF_TRIP. -/
@[reducible] def PF_TRIP : Nat := 0x000610
/-- 18_pins_power_reset.md R527: CHIP_ID.PF_HYST. -/
@[reducible] def PF_HYST : Nat := 0x000614
/-- 18_pins_power_reset.md R527: CHIP_ID.MOD_RST. -/
@[reducible] def MOD_RST : Nat := 0x000618
/-- 18_pins_power_reset.md R527: CHIP_ID.MOD_PRSNT. -/
@[reducible] def MOD_PRSNT : Nat := 0x00061C
/-- 18_pins_power_reset.md R527: CHIP_ID.CHIP_TJ. -/
@[reducible] def CHIP_TJ : Nat := 0x000620
/-- 18_pins_power_reset.md R527: CHIP_ID.TJ_WARN. -/
@[reducible] def TJ_WARN : Nat := 0x000624

/-- 19_electrical.md R538: ETHn.ETH_SD_TXEQ. -/
@[reducible] def ETH_SD_TXEQ (n i : Nat) : Nat := 0x101200 + 0x1000 * (n % 8) + 0x4 * (i % 2)
/-- 19_electrical.md R538: ETHn.ETH_SD_RX. -/
@[reducible] def ETH_SD_RX (n i : Nat) : Nat := 0x101208 + 0x1000 * (n % 8) + 0x4 * (i % 2)
/-- 19_electrical.md R538: ETHn.ETH_SD_EYE. -/
@[reducible] def ETH_SD_EYE (n i : Nat) : Nat := 0x101210 + 0x1000 * (n % 8) + 0x4 * (i % 2)

end Sys2Proof.Machine.R
end

