-- ==== Sys2Proof/Machine/RegTable.lean ====
section
/-! DEFINITION. The register tables of the chapters: for every block-specific register its offsets, the bits that
software writes under each access code (R16) and that have no behaviour of their own, and its reset value. Bits named by
no mask are RO, RSVD or written by a command of their own. -/

namespace Sys2Proof.Machine

/-- What picks the value that a register shows, where it shows one of several. -/
inductive Bank where
  | one | actPool | entry | ftlPool | function | group | kind | spPool | subject | timing | volume | wearPool
  deriving DecidableEq, Repr

/-- The reset value of a register: a constant, or one that depends on the place of the register. -/
inductive RegReset where
  | k (v : Nat)
  | index
  | route
  | routeTop
  | matrix
  | inventory
  | camCfg
  | camMask
  | dcPort
  deriving DecidableEq, Repr

/-- One register, or one array of registers, of a page. -/
structure RegRow where
  /-- offset of the first register in the page -/
  off : Nat
  /-- offset of the last register of the array -/
  last : Nat
  /-- distance of the registers of the array -/
  step : Nat
  /-- a 64-bit value in an `_LO` and an `_HI` register (R15) -/
  wide : Bool
  /-- RW bits -/
  rw : Nat
  /-- RWS bits -/
  rws : Nat
  /-- W1C bits -/
  w1c : Nat
  /-- RC bits -/
  rc : Nat
  /-- writes are accepted only while the page is OFF -/
  offOnly : Bool
  reset : RegReset
  bank : Bank
  deriving DecidableEq, Repr

/-- The block-specific registers of STRIDE (01_stride_and_time.md). -/
def rowsStride : List RegRow :=
  [ ⟨0x040, 0x040, 8, true, 0, 0, 0, 0, false, .k 0, .one⟩, -- STR_NUM R47
    ⟨0x048, 0x048, 4, false, 0, 0, 0, 0, false, .k 0, .one⟩, -- STR_CTRL R48
    ⟨0x04C, 0x04C, 4, false, 0, 0, 0, 0, false, .k 0, .one⟩, -- STR_STATUS R48
    ⟨0x050, 0x050, 4, false, 0, 0, 0, 0, false, .k 0, .one⟩, -- STR_OFFSET R48
    ⟨0x054, 0x054, 4, false, 0xFFFF, 0, 0, 0, false, .k 0, .one⟩, -- STR_SKEW R48
    ⟨0x058, 0x058, 8, true, 0xFFFFFFFFFFFFFFFF, 0, 0, 0, false, .k 0, .one⟩, -- STR_COMMIT_AT R47
    ⟨0x060, 0x060, 4, false, 0, 0, 0, 0xFFFFFFFF, false, .k 0, .one⟩, -- STR_OVR_COUNT R47
    ⟨0x064, 0x064, 4, false, 0, 0, 0, 0, false, .k 0, .one⟩ ] -- STR_OVR_LAST R48

/-- The block-specific registers of CALENDAR (01_stride_and_time.md). -/
def rowsCalendar : List RegRow :=
  [ ⟨0x040, 0x040, 8, true, 0, 0, 0, 0, false, .k 0, .one⟩, -- CAL_SEC R47
    ⟨0x048, 0x048, 4, false, 0, 0, 0, 0, false, .k 0, .one⟩, -- CAL_SUBSEC R48
    ⟨0x04C, 0x04C, 8, true, 0xFFFFFFFFFFFFFFFF, 0, 0, 0, false, .k 0, .one⟩, -- CAL_SET R47
    ⟨0x054, 0x054, 4, false, 0, 0, 0, 0, false, .k 0, .one⟩, -- CAL_CTRL R48
    ⟨0x058, 0x058, 4, false, 0xFFFF, 0, 0, 0, false, .k 0, .one⟩, -- CAL_TRIM R48
    ⟨0x05C, 0x05C, 4, false, 0, 0, 0x2, 0, false, .k 0, .one⟩, -- CAL_STATUS R48
    ⟨0x060, 0x060, 8, true, 0, 0, 0, 0, false, .k 0, .one⟩, -- CAL_AT_STRIDE R47
    ⟨0x068, 0x068, 4, false, 0, 0, 0, 0, false, .k 0, .one⟩ ] -- CAL_AT_CLK R48

/-- The block-specific registers of LIFE (01_stride_and_time.md). -/
def rowsLife : List RegRow :=
  [ ⟨0x040, 0x040, 8, true, 0, 0, 0, 0, false, .k 0, .one⟩, -- PWR_STRIDES R47
    ⟨0x048, 0x048, 4, false, 0, 0, 0, 0, false, .k 0, .one⟩, -- PWR_CYCLES R47
    ⟨0x04C, 0x04C, 4, false, 0, 0, 0, 0, false, .k 0, .one⟩, -- RESETS R47
    ⟨0x050, 0x050, 4, false, 0, 0, 0, 0, false, .k 0, .one⟩, -- REMOUNTS R47
    ⟨0x054, 0x054, 4, false, 0, 0, 0, 0, false, .k 0, .one⟩, -- LIFE_CTRL R48
    ⟨0x058, 0x058, 4, false, 0, 0, 0, 0, false, .k 0, .one⟩, -- LIFE_STATUS R48
    ⟨0x05C, 0x05C, 4, false, 0, 0, 0, 0, false, .k 0, .one⟩, -- TJ_MAX_SEEN R47
    ⟨0x080, 0x0FC, 4, false, 0, 0, 0, 0, false, .k 0, .one⟩, -- TEMP_BAND R47
    ⟨0x100, 0x1B8, 8, true, 0, 0, 0, 0, false, .k 0, .one⟩ ] -- MOD_WR R47

/-- The common header (R58, R59, R69, R76, R78). -/
def rowsHeader : List RegRow :=
  [ ⟨0x000, 0x000, 4, false, 0, 0, 0, 0, false, .k 0, .one⟩, -- PG_IDENT R59
    ⟨0x004, 0x004, 4, false, 0, 0, 0, 0, false, .k 0x100B000, .one⟩, -- PG_VERSION R58
    ⟨0x008, 0x008, 4, false, 0, 0, 0, 0, false, .k 0, .one⟩, -- PG_CAPS R59
    ⟨0x00C, 0x00C, 4, false, 0, 0, 0, 0, false, .k 0, .one⟩, -- PG_CTRL R59
    ⟨0x010, 0x010, 4, false, 0, 0, 0, 0, false, .k 0, .one⟩, -- PG_STATE R59
    ⟨0x014, 0x014, 4, false, 0, 0, 0xFFFFFFFF, 0, false, .k 0, .one⟩, -- PG_EVENT R59
    ⟨0x018, 0x018, 4, false, 0xFFFFFFFF, 0, 0, 0, false, .k 0xF0000000, .one⟩, -- PG_EVENT_EN R59
    ⟨0x01C, 0x01C, 4, false, 0, 0, 0, 0, false, .k 0, .one⟩, -- PG_EVENT_FORCE R59
    ⟨0x020, 0x020, 4, false, 0, 0, 0, 0, false, .k 0, .one⟩, -- PG_ERR_FIRST R69
    ⟨0x024, 0x024, 4, false, 0, 0, 0, 0xFFFFFFFF, false, .k 0, .one⟩, -- PG_ERR_COUNT R58
    ⟨0x028, 0x028, 8, true, 0, 0, 0, 0, false, .k 0, .one⟩, -- PG_ERR_STRIDE R58
    ⟨0x030, 0x030, 4, false, 0, 0, 0, 0, false, .k 0, .one⟩, -- PG_INJECT R76
    ⟨0x034, 0x034, 4, false, 0, 0, 0, 0, false, .k 0, .one⟩ ] -- PG_SPARE R78

/-- The unit map of a multi-unit page (R78). -/
def rowsUnitMap : List RegRow :=
  [ ⟨0xF00, 0xFFC, 4, false, 0, 0, 0, 0, false, .k 0, .one⟩ ] -- UNIT_WORD R78

/-- The block-specific registers of CHIP_ID (02_register_pages.md). GRADE of CHIP_STEP is 'per part' and HEAD_ID of CHIP_HEAD is 'per strap'
(R20, R72): at State.reset both are 0, the part XG7240-AC-1 and head 0 (DESIGN CHOICE, assumption log 1); the grade and the strap of any other
part come with its bring-up (R512, R524). -/
def rowsChipId : List RegRow :=
  [ ⟨0x040, 0x040, 4, false, 0, 0, 0, 0, false, .k 0x4C587240, .one⟩, -- CHIP_PART R72
    ⟨0x044, 0x044, 4, false, 0, 0, 0, 0, false, .k 0xB0, .one⟩, -- CHIP_STEP R72
    ⟨0x048, 0x048, 4, false, 0, 0, 0, 0, false, .k 0, .one⟩, -- CHIP_HEAD R72
    ⟨0x04C, 0x04C, 4, false, 0, 0, 0, 0, false, .k 0, .one⟩, -- CHIP_INJ_EN R72
    ⟨0x050, 0x050, 4, false, 0, 0, 0, 0, false, .k 0xFB, .one⟩, -- CHIP_PG_COUNT R72
    ⟨0x080, 0x080, 8, true, 0, 0, 0, 0, false, .k 0, .one⟩, -- EVT_GROUP_PEND R72
    ⟨0x088, 0x088, 8, true, 0, 0, 0, 0, false, .k 0xFFFFFFFFFFFFFFFF, .one⟩, -- EVT_ARM R72
    ⟨0x100, 0x11C, 4, false, 0, 0, 0, 0, false, .k 0, .one⟩, -- EVT_PEND R72
    ⟨0x200, 0x2FC, 4, false, 0x3F, 0, 0, 0, false, .index, .one⟩, -- EVT_GROUP_VEC R72
    ⟨0x400, 0x4F4, 4, false, 0xBFBFBFBF, 0, 0, 0, false, .route, .one⟩, -- EVT_ROUTE R73
    ⟨0x4F8, 0x4F8, 4, false, 0xBFBFBF, 0, 0, 0, false, .routeTop, .one⟩, -- EVT_ROUTE62 R73
    ⟨0x600, 0x600, 4, false, 0, 0, 0, 0, false, .k 0, .one⟩, -- CHIP_RST_STATUS R527
    ⟨0x604, 0x604, 4, false, 0, 0, 0, 0, false, .k 0, .one⟩, -- CHIP_RST_CTL R527
    ⟨0x608, 0x608, 4, false, 0, 0, 0, 0xFFFFFFFF, false, .k 0, .one⟩, -- CHIP_PCIE_RESETS R527
    ⟨0x60C, 0x60C, 4, false, 0, 0, 0, 0, false, .k 0, .one⟩, -- PF_STATUS R527
    ⟨0x610, 0x610, 4, false, 0x7FF07FF, 0, 0, 0, false, .k 0x2660266, .one⟩, -- PF_TRIP R527
    ⟨0x614, 0x614, 4, false, 0xFF, 0, 0, 0, false, .k 0x14, .one⟩, -- PF_HYST R527
    ⟨0x618, 0x618, 4, false, 0, 0, 0, 0, false, .k 0, .one⟩, -- MOD_RST R527
    ⟨0x61C, 0x61C, 4, false, 0, 0, 0, 0, false, .k 0, .one⟩, -- MOD_PRSNT R527
    ⟨0x620, 0x620, 4, false, 0, 0, 0, 0, false, .k 0, .one⟩, -- CHIP_TJ R527
    ⟨0x624, 0x624, 4, false, 0, 0xFFFF, 0, 0, false, .k 0x190, .one⟩ ] -- TJ_WARN R527

/-- The block-specific registers of PCIE (03_host_functions.md). -/
def rowsPcie : List RegRow :=
  [ ⟨0x040, 0x040, 4, false, 0, 0, 0, 0, false, .k 0, .one⟩, -- PCIE_LINK R84
    ⟨0x044, 0x044, 4, false, 0, 0, 0, 0, false, .k 0x105, .one⟩, -- PCIE_CAP_LINK R84
    ⟨0x048, 0x048, 4, false, 0, 0, 0, 0, false, .k 0, .one⟩, -- PCIE_MPS R84
    ⟨0x04C, 0x04C, 4, false, 0, 0, 0, 0xFFFFFFFF, false, .k 0, .one⟩, -- PCIE_RETRAINS R84
    ⟨0x050, 0x050, 4, false, 0, 0, 0, 0xFFFFFFFF, false, .k 0, .one⟩, -- PCIE_RX_ERR R84
    ⟨0x054, 0x054, 4, false, 0, 0, 0, 0xFFFFFFFF, false, .k 0, .one⟩, -- PCIE_REPLAYS R84
    ⟨0x058, 0x058, 4, false, 0, 0, 0, 0xFFFFFFFF, false, .k 0, .one⟩, -- PCIE_CPL_TMO R84
    ⟨0x05C, 0x05C, 4, false, 0, 0, 0, 0xFFFFFFFF, false, .k 0, .one⟩, -- PCIE_POISONED R84
    ⟨0x060, 0x060, 4, false, 0, 0, 0, 0xFFFFFFFF, false, .k 0, .one⟩, -- PCIE_FLR R84
    ⟨0x064, 0x064, 4, false, 0, 0, 0, 0xFFFFFFFF, false, .k 0, .one⟩ ] -- PCIE_UR R84

/-- The block-specific registers of FNMGR (03_host_functions.md). -/
def rowsFnmgr : List RegRow :=
  [ ⟨0x040, 0x040, 4, false, 0xFF, 0, 0, 0, false, .k 0, .one⟩, -- FN_SEL R85
    ⟨0x044, 0x044, 4, false, 0, 0, 0, 0, false, .k 0, .one⟩, -- FN_CMD R85
    ⟨0x048, 0x048, 4, false, 0, 0, 0, 0, false, .k 0, .one⟩, -- FN_CMD_STATUS R85
    ⟨0x04C, 0x04C, 4, false, 0x1, 0, 0, 0, false, .k 0, .one⟩, -- FN_MODE R85
    ⟨0x050, 0x050, 4, false, 0x1FFF, 0, 0, 0, false, .k 0x1, .one⟩, -- FN_QP_QUOTA R85
    ⟨0x054, 0x054, 4, false, 0xFFFF, 0, 0, 0, false, .k 0x2, .one⟩, -- FN_CISTERN_QUOTA R85
    ⟨0x058, 0x058, 4, false, 0xFFFFFFFF, 0, 0, 0, false, .k 0x10001, .one⟩, -- FN_WEIR_MIN R85
    ⟨0x05C, 0x05C, 4, false, 0xFFFFFFFF, 0, 0, 0, false, .k 0x10001, .one⟩, -- FN_WEIR_MAX R85
    ⟨0x060, 0x060, 4, false, 0xFFF, 0, 0, 0, false, .k 0x1, .one⟩, -- FN_MSIX R85
    ⟨0x064, 0x064, 4, false, 0xFFFFFF, 0, 0, 0, false, .k 0, .one⟩, -- FN_VOL R85
    ⟨0x068, 0x068, 4, false, 0x1FF, 0, 0, 0, false, .k 0x1, .one⟩, -- FN_NSID R85
    ⟨0x06C, 0x06C, 4, false, 0, 0, 0, 0, false, .k 0, .function⟩, -- FN_STATE R85
    ⟨0x070, 0x070, 4, false, 0, 0, 0, 0xFFFFFFFF, false, .k 0, .function⟩, -- FN_STALE_COUNT R85
    ⟨0x074, 0x074, 4, false, 0, 0, 0, 0, false, .k 0x40000, .one⟩, -- POOL_QP_FREE R85
    ⟨0x078, 0x078, 4, false, 0, 0, 0, 0, false, .k 0, .one⟩, -- POOL_CISTERN_FREE R85
    ⟨0x07C, 0x07C, 4, false, 0, 0, 0, 0, false, .k 0, .one⟩, -- POOL_WEIR_FREE R85
    ⟨0x080, 0x09C, 4, false, 0, 0, 0, 0, false, .k 0, .one⟩, -- MGMT_DB_PEND R85
    ⟨0x100, 0x1FC, 4, false, 0, 0, 0, 0, false, .k 0, .one⟩, -- FN_MBOX R85
    ⟨0x200, 0x2FC, 4, false, 0xFFFFFFFF, 0, 0, 0, false, .k 0, .one⟩ ] -- FN_REPLY R85

/-- The block-specific registers of WEIR (03_host_functions.md). -/
def rowsWeir : List RegRow :=
  [ ⟨0x040, 0x040, 4, false, 0, 0xFFFFFFFF, 0, 0, false, .k 0x3B00B0, .one⟩, -- WEIR_CAP R94
    ⟨0x044, 0x044, 4, false, 0x1FF, 0, 0, 0, false, .k 0, .one⟩, -- WEIR_SEL R94
    ⟨0x048, 0x048, 4, false, 0, 0xFFFFFFFF, 0, 0, false, .k 0x10001, .subject⟩, -- WEIR_MIN R94
    ⟨0x04C, 0x04C, 4, false, 0, 0xFFFFFFFF, 0, 0, false, .k 0x10001, .subject⟩, -- WEIR_MAX R94
    ⟨0x050, 0x050, 4, false, 0, 0, 0, 0, false, .k 0, .subject⟩, -- WEIR_BAL R94
    ⟨0x054, 0x054, 4, false, 0, 0, 0, 0, false, .k 0, .subject⟩ ] -- WEIR_PS R94

/-- The block-specific registers of LEGQ (03_host_functions.md). -/
def rowsLegq : List RegRow :=
  [ ⟨0x100, 0x400, 256, false, 0, 0, 0, 0, false, .k 0, .one⟩, -- LQV_CTRL R99
    ⟨0x104, 0x404, 256, false, 0, 0, 0, 0, false, .k 0, .one⟩, -- LQV_STATUS R99
    ⟨0x108, 0x408, 256, false, 0, 0, 0, 0, false, .k 0, .one⟩, -- LQV_ISSUE R99
    ⟨0x10C, 0x40C, 256, false, 0, 0, 0, 0, false, .k 0, .one⟩, -- LQV_DONE R99
    ⟨0x110, 0x410, 256, false, 0, 0, 0, 0xFFFFFFFF, false, .k 0, .one⟩ ] -- LQ_CMPL_COUNT R99

/-- The block-specific registers of ETH (04_network_and_rdma.md). -/
def rowsEth : List RegRow :=
  [ ⟨0x040, 0x040, 4, false, 0x2, 0, 0, 0, false, .k 0, .one⟩, -- ETH_MODE R114
    ⟨0x044, 0x044, 4, false, 0, 0, 0, 0, false, .k 0, .one⟩, -- ETH_STATUS R114
    ⟨0x048, 0x048, 8, true, 0xFFFFFFFFFFFF, 0, 0, 0, false, .k 0, .one⟩, -- ETH_MAC_A R114
    ⟨0x050, 0x050, 8, true, 0xFFFFFFFFFFFF, 0, 0, 0, false, .k 0, .one⟩, -- ETH_MAC_B R114
    ⟨0x058, 0x058, 4, false, 0, 0x3FFF, 0, 0, false, .k 0x2400, .one⟩, -- ETH_MTU R114
    ⟨0x05C, 0x05C, 4, false, 0, 0x3FFF, 0, 0, false, .k 0x1B3F, .one⟩, -- ETH_PRIO R114
    ⟨0x060, 0x060, 4, false, 0, 0xFFF, 0, 0, false, .k 0xC1A, .one⟩, -- ETH_DSCP R114
    ⟨0x064, 0x064, 4, false, 0xFFFFFF, 0, 0, 0, false, .k 0x64, .one⟩, -- ETH_FEC_LIMIT R114
    ⟨0x068, 0x068, 4, false, 0, 0, 0, 0xFFFFFFFF, false, .k 0, .one⟩, -- ETH_FEC_CORR R114
    ⟨0x06C, 0x06C, 4, false, 0, 0, 0, 0xFFFFFFFF, false, .k 0, .one⟩, -- ETH_FEC_UNCORR R114
    ⟨0x070, 0x070, 4, false, 0, 0, 0, 0xFFFFFFFF, false, .k 0, .one⟩, -- ETH_RX_OTHER R114
    ⟨0x074, 0x074, 4, false, 0, 0, 0, 0xFFFFFFFF, false, .k 0, .one⟩, -- ETH_ICRC_ERR R114
    ⟨0x078, 0x078, 4, false, 0, 0, 0, 0, false, .k 0, .one⟩, -- ETH_MISS_LEVEL R114
    ⟨0x07C, 0x07C, 4, false, 0, 0, 0, 0xFFFFFFFF, false, .k 0, .one⟩, -- ETH_MISS_HWM R114
    ⟨0x080, 0x080, 4, false, 0, 0, 0, 0xFFFFFFFF, false, .k 0, .one⟩, -- ETH_RNR_SENT R114
    ⟨0x100, 0x1FC, 4, false, 0xFFFFFFFF, 0, 0, 0, false, .k 0, .one⟩, -- ETH_GID R114
    ⟨0x200, 0x204, 4, false, 0, 0x80FFFFFF, 0, 0, false, .k 0x270180, .one⟩, -- ETH_SD_TXEQ R538
    ⟨0x208, 0x20C, 4, false, 0, 0x3F01, 0, 0, false, .k 0x1, .one⟩, -- ETH_SD_RX R538
    ⟨0x210, 0x214, 4, false, 0, 0, 0, 0, false, .k 0, .one⟩ ] -- ETH_SD_EYE R538

/-- The block-specific registers of RMA (04_network_and_rdma.md). -/
def rowsRma : List RegRow :=
  [ ⟨0x040, 0x040, 4, false, 0, 0, 0, 0, false, .k 0, .one⟩, -- RMA_CMD R129
    ⟨0x044, 0x044, 4, false, 0, 0, 0, 0, false, .k 0, .one⟩, -- RMA_CMD_STATUS R129
    ⟨0x048, 0x048, 4, false, 0, 0, 0, 0, false, .k 0, .one⟩, -- RMA_RESULT R129
    ⟨0x050, 0x050, 8, true, 0xFFFFFFFFFFFFFFFF, 0, 0, 0, false, .k 0, .one⟩, -- EVQ_BASE R129
    ⟨0x058, 0x058, 4, false, 0x1FFF, 0, 0, 0, false, .k 0x1000, .one⟩, -- EVQ_SIZE R129
    ⟨0x05C, 0x05C, 4, false, 0, 0, 0, 0, false, .k 0, .one⟩, -- EVQ_PROD R129
    ⟨0x060, 0x060, 4, false, 0xFFF, 0, 0, 0, false, .k 0, .one⟩, -- EVQ_CONS R129
    ⟨0x064, 0x064, 4, false, 0, 0, 0, 0xFFFFFFFF, false, .k 0, .one⟩, -- EVQ_LOST R129
    ⟨0x068, 0x068, 4, false, 0, 0, 0, 0xFFFFFFFF, false, .k 0, .one⟩, -- DUP_ACKED R129
    ⟨0x06C, 0x06C, 4, false, 0, 0, 0, 0xFFFFFFFF, false, .k 0, .one⟩, -- SEQ_NAK R129
    ⟨0x070, 0x070, 4, false, 0, 0, 0, 0xFFFFFFFF, false, .k 0, .one⟩, -- RMA_KEY_VIOLATION R129
    ⟨0x078, 0x078, 8, true, 0xFFFFFFFFFFFFFFFF, 0, 0, 0, false, .k 0, .one⟩, -- GSI_BASE R129
    ⟨0x080, 0x080, 4, false, 0, 0, 0, 0, false, .k 0, .one⟩, -- GSI_PROD R129
    ⟨0x084, 0x084, 4, false, 0xFF, 0, 0, 0, false, .k 0, .one⟩, -- GSI_CONS R129
    ⟨0x088, 0x088, 4, false, 0, 0, 0, 0xFFFFFFFF, false, .k 0, .one⟩, -- GSI_RX_DROP R129
    ⟨0x090, 0x090, 8, true, 0xFFFFFFFFFFFFFFFF, 0, 0, 0, false, .k 0, .one⟩, -- GSI_TX_BASE R129
    ⟨0x098, 0x098, 4, false, 0, 0, 0, 0, false, .k 0, .one⟩, -- GSI_TX_PROD R129
    ⟨0x09C, 0x09C, 4, false, 0, 0, 0, 0, false, .k 0, .one⟩, -- GSI_TX_CONS R129
    ⟨0x0A0, 0x0A0, 4, false, 0, 0, 0, 0xFFFFFFFF, false, .k 0, .one⟩, -- GSI_TX_BAD R129
    ⟨0x100, 0x13C, 4, false, 0xFFFFFFFF, 0, 0, 0, false, .k 0, .one⟩ ] -- RMA_ARG R129

/-- The block-specific registers of CTXC (04_network_and_rdma.md). -/
def rowsCtxc : List RegRow :=
  [ ⟨0x040, 0x040, 4, false, 0, 0, 0, 0, false, .k 0x1BFF05, .one⟩, -- CTX_FREE_NET R132
    ⟨0x044, 0x044, 4, false, 0, 0, 0, 0, false, .k 0, .one⟩, -- CTX_CACHED R132
    ⟨0x048, 0x048, 4, false, 0, 0, 0, 0, false, .k 0, .one⟩, -- CTX_HELD_PINNED R132
    ⟨0x04C, 0x04C, 4, false, 0, 0x3FFF, 0, 0, false, .k 0x1000, .one⟩, -- CTX_PIN_MAX R132
    ⟨0x050, 0x050, 4, false, 0, 0, 0, 0xFFFFFFFF, false, .k 0, .one⟩, -- CTX_MISS_COUNT R132
    ⟨0x054, 0x054, 4, false, 0, 0, 0, 0xFFFFFFFF, false, .k 0, .one⟩, -- CTX_EVICT_COUNT R132
    ⟨0x058, 0x058, 4, false, 0, 0, 0, 0xFFFFFFFF, false, .k 0, .one⟩, -- CTX_FETCH_MAX R132
    ⟨0x05C, 0x05C, 4, false, 0, 0, 0, 0xFFFFFFFF, false, .k 0, .one⟩, -- CTX_BAD_QPN R132
    ⟨0x060, 0x060, 4, false, 0, 0, 0, 0xFFFFFFFF, false, .k 0, .one⟩, -- CTX_NAK_DISCARD R132
    ⟨0x068, 0x068, 8, true, 0xFFFFFFFFFFFFFFFF, 0, 0, 0, true, .k 0, .one⟩ ] -- CTX_STORE_BASE R132

/-- The block-specific registers of INGEST (05_write_path.md). -/
def rowsIngest : List RegRow :=
  [ ⟨0x040, 0x040, 4, false, 0, 0, 0, 0xFFFFFFFF, false, .k 0, .one⟩, -- ING_CMDS R169
    ⟨0x044, 0x044, 4, false, 0, 0, 0, 0xFFFFFFFF, false, .k 0, .one⟩, -- ING_GRAINS R169
    ⟨0x048, 0x048, 4, false, 0, 0, 0, 0xFFFFFFFF, false, .k 0, .one⟩, -- ING_PI_ERR R169
    ⟨0x04C, 0x04C, 4, false, 0, 0, 0, 0xFFFFFFFF, false, .k 0, .one⟩, -- ING_LEN_ERR R169
    ⟨0x050, 0x050, 4, false, 0, 0, 0, 0xFFFFFFFF, false, .k 0, .one⟩, -- ING_RANGE_ERR R169
    ⟨0x054, 0x054, 4, false, 0, 0, 0, 0, false, .k 0, .one⟩, -- ING_LOCKS R169
    ⟨0x058, 0x058, 4, false, 0, 0, 0, 0xFFFFFFFF, false, .k 0, .one⟩, -- ING_LOCKS_HWM R169
    ⟨0x05C, 0x05C, 4, false, 0, 0, 0, 0xFFFFFFFF, false, .k 0, .one⟩, -- ING_LOCK_WAITS R169
    ⟨0x060, 0x060, 4, false, 0, 0, 0, 0xFFFFFFFF, false, .k 0, .one⟩, -- ING_BUSY_RETRY R169
    ⟨0x064, 0x064, 4, false, 0, 0, 0, 0xFFFFFFFF, false, .k 0, .one⟩ ] -- ING_PARTIAL R169

/-- The block-specific registers of CISTERN (05_write_path.md). -/
def rowsCistern : List RegRow :=
  [ ⟨0x040, 0x040, 8, true, 0xFFFFFFFFFFFFFFFF, 0, 0, 0, true, .k 0, .one⟩, -- CIST_BASE R170
    ⟨0x048, 0x048, 4, false, 0x1F, 0, 0, 0, true, .k 0x8, .one⟩, -- CIST_CFG R170
    ⟨0x04C, 0x04C, 4, false, 0, 0xFFFF, 0, 0, false, .k 0x800, .one⟩, -- CIST_FN_SHARE R170
    ⟨0x050, 0x050, 4, false, 0, 0, 0, 0, false, .k 0, .one⟩, -- CIST_OWN_USED R170
    ⟨0x054, 0x054, 4, false, 0, 0, 0, 0, false, .k 0, .one⟩, -- CIST_MIRROR_USED R170
    ⟨0x058, 0x058, 4, false, 0x3, 0, 0, 0, false, .k 0x1, .one⟩, -- CIST_CTRL R170
    ⟨0x05C, 0x05C, 4, false, 0, 0, 0, 0, false, .k 0, .one⟩, -- CIST_STATUS R170
    ⟨0x060, 0x060, 8, true, 0, 0, 0, 0, false, .k 0, .one⟩, -- CIST_CSEQ R170
    ⟨0x068, 0x068, 4, false, 0, 0, 0, 0xFFFFFFFF, false, .k 0, .one⟩, -- CIST_ACK_MAX R170
    ⟨0x06C, 0x06C, 4, false, 0, 0xFFFF, 0, 0, false, .k 0xFA, .one⟩, -- CIST_FUA_MAX_WAIT R170
    ⟨0x070, 0x070, 4, false, 0, 0, 0, 0, false, .k 0, .one⟩, -- CIST_SPILL_BOUND R170
    ⟨0x074, 0x074, 4, false, 0, 0, 0, 0, false, .k 0, .one⟩, -- CIST_SPILL_LAST R170
    ⟨0x078, 0x078, 4, false, 0, 0, 0, 0xFFFFFFFF, false, .k 0, .one⟩, -- CIST_RING_STALL R170
    ⟨0x07C, 0x07C, 4, false, 0, 0, 0, 0, false, .k 0, .one⟩ ] -- CIST_SPILL_DISCARD R170

/-- The block-specific registers of CAM (06_associative_search.md). -/
def rowsCam : List RegRow :=
  [ ⟨0x040, 0x040, 4, false, 0, 0, 0, 0, false, .camCfg, .one⟩, -- CAM_CFG R188
    ⟨0x044, 0x044, 4, false, 0, 0, 0, 0, false, .k 0, .one⟩, -- CAM_VALID R188
    ⟨0x048, 0x048, 4, false, 0, 0, 0, 0, false, .k 0, .one⟩, -- CAM_PEND R188
    ⟨0x04C, 0x04C, 4, false, 0, 0, 0, 0, false, .k 0, .one⟩, -- CAM_OP R188
    ⟨0x050, 0x050, 4, false, 0xFFFF, 0, 0, 0, false, .k 0, .one⟩, -- CAM_INDEX R188
    ⟨0x054, 0x054, 4, false, 0, 0, 0, 0, false, .k 0, .one⟩, -- CAM_OP_STATUS R188
    ⟨0x058, 0x058, 4, false, 0xC, 0, 0, 0, false, .k 0, .one⟩, -- CAM_ENTRY R188
    ⟨0x060, 0x080, 4, false, 0xFFFFFFFF, 0, 0, 0, false, .k 0, .one⟩, -- CAM_KEY R188
    ⟨0x088, 0x088, 8, true, 0xFFFFFFFFFFFFFFFF, 0, 0, 0, false, .k 0, .one⟩, -- CAM_RESULT R188
    ⟨0x090, 0x090, 4, false, 0, 0, 0, 0, false, .k 0, .one⟩, -- CAM_HIT_LOC R188
    ⟨0x094, 0x094, 4, false, 0, 0, 0, 0, false, .k 0, .one⟩, -- CAM_MATCH_COUNT R188
    ⟨0x098, 0x098, 4, false, 0x7FF, 0, 0, 0, false, .k 0, .one⟩, -- CAM_MV_SEL R188
    ⟨0x09C, 0x09C, 4, false, 0, 0, 0, 0, false, .k 0, .one⟩, -- CAM_MV_DATA R188
    ⟨0x0A0, 0x0A0, 4, false, 0x1FFFFF, 0, 0, 0, false, .k 0, .one⟩, -- CAM_MS_START R188
    ⟨0x0B0, 0x0CC, 4, false, 0, 0, 0, 0, false, .k 0, .one⟩, -- CAM_MSR R188
    ⟨0x0D0, 0x0D0, 4, false, 0, 0, 0, 0xFFFFFFFF, false, .k 0, .one⟩, -- CAM_SEARCHES R188
    ⟨0x0D4, 0x0D4, 4, false, 0, 0, 0, 0xFFFFFFFF, false, .k 0, .one⟩, -- CAM_MULTI R188
    ⟨0x0D8, 0x0D8, 4, false, 0, 0, 0, 0xFFFFFFFF, false, .k 0, .one⟩, -- CAM_PARITY_ERR R188
    ⟨0x0E0, 0x0E0, 4, false, 0xFFFF, 0, 0, 0, false, .k 0, .one⟩, -- FLT_CTRL R188
    ⟨0x0E4, 0x0E4, 4, false, 0, 0xFFFFFFFF, 0, 0, false, .k 0, .one⟩, -- FLT_MASK R188
    ⟨0x0E8, 0x0E8, 4, false, 0, 0, 0, 0xFFFFFFFF, false, .k 0, .one⟩, -- FLT_DROPS R188
    ⟨0x100, 0x18C, 4, false, 0, 0xFFFFFFFF, 0, 0, false, .camMask, .one⟩ ] -- CAM_MASK R188

/-- The block-specific registers of DIGP (07_reduction.md). -/
def rowsDigp : List RegRow :=
  [ ⟨0x040, 0x040, 4, false, 0, 0, 0, 0xFFFFFFFF, false, .k 0, .one⟩, -- DG_GRAINS R218
    ⟨0x044, 0x044, 4, false, 0, 0, 0, 0xFFFFFFFF, false, .k 0, .one⟩, -- DG_ZERO R218
    ⟨0x048, 0x048, 4, false, 0, 0, 0, 0xFFFFFFFF, false, .k 0, .one⟩, -- DG_DISAGREE R218
    ⟨0x04C, 0x04C, 4, false, 0, 0, 0, 0, false, .k 0x40, .one⟩ ] -- DG_CAP R218

/-- The block-specific registers of COMP (07_reduction.md). -/
def rowsComp : List RegRow :=
  [ ⟨0x040, 0x040, 4, false, 0, 0x3F, 0, 0, false, .k 0x38, .one⟩, -- CP_RAW_DEFAULT R218
    ⟨0x044, 0x044, 4, false, 0, 0, 0, 0xFFFFFFFF, false, .k 0, .one⟩, -- CP_IN_GRAINS R218
    ⟨0x048, 0x048, 4, false, 0, 0, 0, 0xFFFFFFFF, false, .k 0, .one⟩, -- CP_OUT_GRANULES R218
    ⟨0x04C, 0x04C, 4, false, 0, 0, 0, 0xFFFFFFFF, false, .k 0, .one⟩, -- CP_RAW R218
    ⟨0x050, 0x050, 4, false, 0, 0, 0, 0xFFFFFFFF, false, .k 0, .one⟩, -- CP_DOWNGRADE R218
    ⟨0x054, 0x054, 4, false, 0, 0, 0, 0xFFFFFFFF, false, .k 0, .one⟩, -- CP_DYNAMIC R218
    ⟨0x058, 0x058, 4, false, 0, 0, 0, 0, false, .k 0, .one⟩, -- CP_FLOOR R218
    ⟨0x05C, 0x05C, 4, false, 0, 0, 0, 0, false, .k 0x15E00, .one⟩ ] -- CP_POOL_CLK R218

/-- The block-specific registers of DECOMP (07_reduction.md). -/
def rowsDecomp : List RegRow :=
  [ ⟨0x040, 0x040, 4, false, 0, 0, 0, 0xFFFFFFFF, false, .k 0, .one⟩, -- DC_GRAINS R218
    ⟨0x044, 0x044, 4, false, 0, 0, 0, 0xFFFFFFFF, false, .k 0, .one⟩, -- DC_DECODE_ERR R218
    ⟨0x048, 0x048, 4, false, 0, 0, 0, 0, false, .k 0x20, .one⟩ ] -- DC_UNITS R218

/-- The block-specific registers of DEDUP (07_reduction.md). -/
def rowsDedup : List RegRow :=
  [ ⟨0x040, 0x040, 4, false, 0x7, 0, 0, 0, false, .k 0x7, .one⟩, -- DD_CTRL R219
    ⟨0x044, 0x044, 8, true, 0xFFFFFFFFFFFFFFFF, 0, 0, 0, true, .k 0, .one⟩, -- DD_TBL_BASE R219
    ⟨0x04C, 0x04C, 4, false, 0x1F, 0, 0, 0, true, .k 0x18, .one⟩, -- DD_TBL_BITS R219
    ⟨0x050, 0x050, 4, false, 0, 0xFFFFFFFF, 0, 0, false, .k 0x10000, .one⟩, -- DD_REF_CAP R219
    ⟨0x054, 0x054, 4, false, 0, 0xFF, 0, 0, false, .k 0x1, .one⟩, -- DD_HOT_PROMOTE R219
    ⟨0x058, 0x058, 4, false, 0xFFFFFF, 0, 0, 0, false, .k 0, .one⟩, -- DD_VOL_SEL R219
    ⟨0x05C, 0x05C, 4, false, 0, 0x3FFF1F, 0, 0, false, .k 0xA, .volume⟩, -- DD_VOL_POLICY R219
    ⟨0x060, 0x060, 4, false, 0, 0x7FF, 0, 0, false, .k 0x40, .one⟩, -- DD_MERGE_RATE R219
    ⟨0x064, 0x064, 4, false, 0, 0, 0, 0xFFFFFFFF, false, .k 0, .one⟩, -- DD_HOT_HITS R219
    ⟨0x068, 0x068, 4, false, 0, 0, 0, 0xFFFFFFFF, false, .k 0, .one⟩, -- DD_DRAM_HITS R219
    ⟨0x06C, 0x06C, 4, false, 0, 0, 0, 0xFFFFFFFF, false, .k 0, .one⟩, -- DD_TWIN_HITS R219
    ⟨0x070, 0x070, 4, false, 0, 0, 0, 0xFFFFFFFF, false, .k 0, .one⟩, -- DD_LATE R219
    ⟨0x074, 0x074, 4, false, 0, 0, 0, 0xFFFFFFFF, false, .k 0, .one⟩, -- DD_REFUSED R219
    ⟨0x078, 0x078, 4, false, 0, 0, 0, 0xFFFFFFFF, false, .k 0, .one⟩, -- DD_MERGED R219
    ⟨0x07C, 0x07C, 4, false, 0, 0, 0, 0xFFFFFFFF, false, .k 0, .one⟩, -- DD_VERIFY_MISMATCH R219
    ⟨0x080, 0x080, 4, false, 0, 0, 0, 0xFFFFFFFF, false, .k 0, .one⟩, -- DD_BUCKET_EVICT R219
    ⟨0x084, 0x084, 4, false, 0, 0, 0, 0, false, .k 0, .one⟩ ] -- DD_MERGE_BACKLOG R219

/-- The block-specific registers of READ (08_read_path.md). -/
def rowsRead : List RegRow :=
  [ ⟨0x040, 0x040, 4, false, 0x3, 0, 0, 0, false, .k 0x3, .one⟩, -- RD_CTRL R236
    ⟨0x044, 0x044, 4, false, 0, 0xFF, 0, 0, false, .k 0x8, .one⟩, -- RD_RA_THRESH R236
    ⟨0x048, 0x048, 4, false, 0, 0xFFF, 0, 0, false, .k 0x80, .one⟩, -- RD_RA_MAX R236
    ⟨0x04C, 0x04C, 4, false, 0, 0xF, 0, 0, false, .k 0x4, .one⟩, -- RD_SUSP_MAX R236
    ⟨0x050, 0x050, 4, false, 0, 0, 0, 0, false, .k 0, .one⟩, -- RD_TR_MAX R236
    ⟨0x054, 0x054, 4, false, 0, 0, 0, 0, false, .k 0, .one⟩, -- RD_FLASH_BOUND R236
    ⟨0x058, 0x058, 4, false, 0, 0, 0, 0, false, .k 0x4000, .one⟩, -- RD_BASIN_FREE R236
    ⟨0x05C, 0x05C, 4, false, 0, 0, 0, 0xFFFFFFFF, false, .k 0, .one⟩, -- RD_GRAINS R236
    ⟨0x060, 0x060, 4, false, 0, 0, 0, 0xFFFFFFFF, false, .k 0, .one⟩, -- RD_CISTERN_HITS R236
    ⟨0x064, 0x064, 4, false, 0, 0, 0, 0xFFFFFFFF, false, .k 0, .one⟩, -- RD_READAROUND R236
    ⟨0x068, 0x068, 4, false, 0, 0, 0, 0xFFFFFFFF, false, .k 0, .one⟩, -- RD_SUSPENDS R236
    ⟨0x06C, 0x06C, 4, false, 0, 0, 0, 0xFFFFFFFF, false, .k 0, .one⟩, -- RD_DECODE_RETRY R236
    ⟨0x070, 0x070, 4, false, 0, 0, 0, 0xFFFFFFFF, false, .k 0, .one⟩, -- RD_REPAIRS R236
    ⟨0x074, 0x074, 4, false, 0, 0, 0, 0xFFFFFFFF, false, .k 0, .one⟩, -- RD_UNRECOVERED R236
    ⟨0x078, 0x078, 4, false, 0, 0, 0, 0xFFFFFFFF, false, .k 0, .one⟩, -- RD_BOUND_MISS R236
    ⟨0x07C, 0x07C, 4, false, 0, 0, 0, 0xFFFFFFFF, false, .k 0, .one⟩, -- RD_LAT_MAX R236
    ⟨0x080, 0x080, 4, false, 0, 0, 0, 0xFFFFFFFF, false, .k 0, .one⟩ ] -- RD_BASIN_WAITS R236

/-- The block-specific registers of MLINK (09_module_link.md). -/
def rowsMlink : List RegRow :=
  [ ⟨0x040, 0x040, 4, false, 0xE, 0, 0, 0, false, .k 0x2, .one⟩, -- MLK_CTRL R261
    ⟨0x044, 0x044, 4, false, 0, 0, 0, 0, false, .k 0, .one⟩, -- MLK_STATUS R261
    ⟨0x048, 0x048, 4, false, 0, 0, 0, 0, false, .k 0, .one⟩, -- MLK_FORCE_SWAP R261
    ⟨0x04C, 0x04C, 4, false, 0xFFFFFF, 0, 0, 0, false, .k 0x3E8, .one⟩, -- MLK_LANE_LIMIT R261
    ⟨0x050, 0x050, 4, false, 0, 0, 0, 0, false, .k 0, .one⟩, -- MLK_MOD_EPOCH0 R261
    ⟨0x054, 0x054, 4, false, 0, 0, 0, 0, false, .k 0, .one⟩, -- MLK_MOD_EPOCH1 R261
    ⟨0x058, 0x058, 4, false, 0, 0, 0, 0xFFFFFFFF, false, .k 0, .one⟩, -- MLK_FLITS_TX R261
    ⟨0x05C, 0x05C, 4, false, 0, 0, 0, 0xFFFFFFFF, false, .k 0, .one⟩, -- MLK_FLITS_RX R261
    ⟨0x060, 0x060, 4, false, 0, 0, 0, 0xFFFFFFFF, false, .k 0, .one⟩, -- MLK_CRC_ERR R261
    ⟨0x064, 0x064, 4, false, 0, 0, 0, 0xFFFFFFFF, false, .k 0, .one⟩, -- MLK_REPLAYS R261
    ⟨0x068, 0x068, 4, false, 0, 0, 0, 0xFFFFFFFF, false, .k 0, .one⟩, -- MLK_RETRAINS R261
    ⟨0x06C, 0x06C, 4, false, 0, 0, 0, 0xFFFFFFFF, false, .k 0, .one⟩, -- MLK_STALE R261
    ⟨0x070, 0x080, 4, false, 0, 0, 0, 0xFFFFFFFF, false, .k 0, .one⟩, -- MLK_LANE_ERR R261
    ⟨0x084, 0x084, 4, false, 0, 0, 0, 0, false, .k 0, .one⟩, -- MLK_CREDIT R261
    ⟨0x088, 0x088, 4, false, 0, 0, 0, 0, false, .k 0, .one⟩, -- MLK_TAGS R261
    ⟨0x100, 0x2FC, 4, false, 0, 0, 0, 0, false, .k 0, .one⟩, -- MLK_IDENT R261
    ⟨0x300, 0x3FC, 4, false, 0, 0, 0, 0, false, .k 0, .one⟩ ] -- MLK_TELEM R261

/-- The block-specific registers of FTL (10_flash_translation.md). -/
def rowsFtl : List RegRow :=
  [ ⟨0x040, 0x040, 4, false, 0xF, 0, 0, 0, false, .k 0, .one⟩, -- FTL_POOL_SEL R297
    ⟨0x044, 0x044, 4, false, 0, 0, 0, 0, false, .k 0, .ftlPool⟩, -- FTL_POOL_STATE R297
    ⟨0x048, 0x048, 8, true, 0, 0, 0, 0, false, .k 0, .ftlPool⟩, -- FTL_CAP R297
    ⟨0x050, 0x050, 8, true, 0, 0, 0, 0, false, .k 0, .ftlPool⟩, -- FTL_FREE R297
    ⟨0x058, 0x058, 8, true, 0, 0, 0, 0, false, .k 0, .ftlPool⟩, -- FTL_LIVE R297
    ⟨0x060, 0x060, 4, false, 0, 0x3FF, 0, 0, false, .k 0x64, .ftlPool⟩, -- FTL_LOW_PM R297
    ⟨0x064, 0x064, 4, false, 0, 0x3FF03FF, 0, 0, false, .k 0x140032, .ftlPool⟩, -- FTL_GC_THRESH R297
    ⟨0x068, 0x068, 4, false, 0, 0x3FF, 0, 0, false, .k 0x40, .ftlPool⟩, -- FTL_GC_AGE_BASE R297
    ⟨0x06C, 0x06C, 4, false, 0, 0x7FF, 0, 0, false, .k 0x10, .ftlPool⟩, -- FTL_GC_RATE R297
    ⟨0x070, 0x070, 4, false, 0, 0, 0, 0, false, .k 0, .ftlPool⟩, -- FTL_SEG_FREE R297
    ⟨0x074, 0x074, 4, false, 0, 0, 0, 0, false, .k 0, .ftlPool⟩, -- FTL_SEG_TOTAL R297
    ⟨0x078, 0x078, 4, false, 0, 0, 0, 0xFFFFFFFF, false, .k 0, .ftlPool⟩, -- FTL_RECLAIMED R297
    ⟨0x07C, 0x07C, 4, false, 0, 0, 0, 0xFFFFFFFF, false, .k 0, .ftlPool⟩, -- FTL_COPIED R297
    ⟨0x080, 0x080, 8, true, 0, 0, 0, 0, false, .k 0, .ftlPool⟩, -- FTL_TSEQ_DUR R297
    ⟨0x088, 0x088, 4, false, 0, 0xFF, 0, 0, false, .k 0x19, .one⟩, -- FTL_JRNL_WAIT R297
    ⟨0x08C, 0x08C, 4, false, 0, 0xFFFFFFFF, 0, 0, false, .k 0x2625A0, .one⟩, -- FTL_CKPT_INT R297
    ⟨0x090, 0x090, 4, false, 0, 0, 0, 0xFFFFFFFF, false, .k 0, .ftlPool⟩, -- FTL_ORPHANS R297
    ⟨0x094, 0x094, 4, false, 0, 0, 0, 0, false, .k 0, .ftlPool⟩, -- FTL_MAP_DIRTY R297
    ⟨0x098, 0x098, 4, false, 0, 0, 0, 0, false, .k 0, .ftlPool⟩, -- FTL_BACKREF_BACKLOG R297
    ⟨0x09C, 0x09C, 4, false, 0, 0, 0, 0, false, .k 0, .one⟩, -- FTL_SNAP_COUNT R297
    ⟨0x0A0, 0x0A0, 4, false, 0, 0, 0, 0, false, .k 0, .one⟩, -- FTL_CMD R297
    ⟨0x0A4, 0x0A4, 4, false, 0, 0, 0, 0, false, .k 0, .one⟩, -- FTL_CMD_STATUS R297
    ⟨0x0A8, 0x0A8, 4, false, 0, 0, 0, 0, false, .k 0, .one⟩, -- FTL_RESULT R297
    ⟨0x100, 0x13C, 4, false, 0xFFFFFFFF, 0, 0, 0, false, .k 0, .one⟩ ] -- FTL_ARG R297

/-- The block-specific registers of LDPC (11_media_health.md). -/
def rowsLdpc : List RegRow :=
  [ ⟨0x040, 0x040, 4, false, 0, 0, 0, 0xFFFFFFFF, false, .k 0, .one⟩, -- LD_CW R325
    ⟨0x044, 0x044, 4, false, 0, 0, 0, 0xFFFFFFFF, false, .k 0, .one⟩, -- LD_FIRST_FAIL R325
    ⟨0x048, 0x048, 4, false, 0, 0, 0, 0xFFFFFFFF, false, .k 0, .one⟩, -- LD_CORR_BITS R325
    ⟨0x04C, 0x04C, 4, false, 0, 0, 0, 0, false, .k 0x30, .one⟩, -- LD_UNITS R325
    ⟨0x050, 0x050, 4, false, 0x3, 0, 0, 0, false, .k 0x3, .one⟩, -- LD_CAL_CTRL R325
    ⟨0x054, 0x054, 4, false, 0, 0xFFFF, 0, 0, false, .k 0x800, .one⟩, -- CAL_MIN_ERR R325
    ⟨0x058, 0x058, 4, false, 0, 0x3FF, 0, 0, false, .k 0x64, .one⟩, -- CAL_HYST R325
    ⟨0x05C, 0x05C, 4, false, 0, 0xFFFFFF, 0, 0, false, .k 0x61A8, .one⟩, -- CAL_INTERVAL R325
    ⟨0x060, 0x060, 4, false, 0, 0xFFFF, 0, 0, false, .k 0x18, .one⟩, -- CAL_STALE_INT R325
    ⟨0x064, 0x064, 4, false, 0x3FFFF, 0, 0, 0, false, .k 0, .one⟩, -- CAL_SEL R325
    ⟨0x068, 0x068, 8, true, 0, 0, 0, 0, false, .k 0, .one⟩, -- CAL_OFFS R325
    ⟨0x070, 0x070, 4, false, 0, 0, 0, 0xFFFFFFFF, false, .k 0, .one⟩, -- CAL_UPDATES R325
    ⟨0x074, 0x074, 4, false, 0, 0, 0, 0xFFFFFFFF, false, .k 0, .one⟩, -- CAL_CLAMPS R325
    ⟨0x078, 0x078, 4, false, 0, 0, 0, 0xFFFFFFFF, false, .k 0, .one⟩ ] -- LD_CAL_STALE R325

/-- The block-specific registers of PATROL (11_media_health.md). -/
def rowsPatrol : List RegRow :=
  [ ⟨0x040, 0x040, 4, false, 0x1, 0, 0, 0, false, .k 0x1, .one⟩, -- PAT_CTRL R326
    ⟨0x044, 0x044, 4, false, 0, 0x1F, 0, 0, false, .k 0x7, .one⟩, -- PAT_PERIOD R326
    ⟨0x048, 0x048, 4, false, 0, 0xFFFF, 0, 0, false, .k 0x4, .one⟩, -- PAT_COVER_MIN R326
    ⟨0x04C, 0x04C, 4, false, 0, 0xFF, 0, 0, false, .k 0x30, .one⟩, -- PAT_BER_OK R326
    ⟨0x050, 0x050, 4, false, 0, 0xFF, 0, 0, false, .k 0x10, .one⟩, -- PAT_MAX_RATE R326
    ⟨0x054, 0x054, 8, true, 0, 0, 0, 0, false, .k 0, .one⟩, -- PAT_PASS_START R326
    ⟨0x05C, 0x05C, 4, false, 0, 0, 0, 0, false, .k 0, .one⟩, -- PAT_PROGRESS R326
    ⟨0x060, 0x060, 4, false, 0, 0, 0, 0xFFFFFFFF, false, .k 0, .one⟩, -- PAT_SKIPPED R326
    ⟨0x064, 0x064, 4, false, 0, 0, 0, 0xFFFFFFFF, false, .k 0, .one⟩, -- PAT_READS R326
    ⟨0x068, 0x068, 4, false, 0, 0, 0, 0xFFFFFFFF, false, .k 0, .one⟩, -- PAT_REFRESH R326
    ⟨0x06C, 0x06C, 4, false, 0, 0, 0, 0xFFFFFFFF, false, .k 0, .one⟩ ] -- PAT_LATE R326

/-- The block-specific registers of HEALTH (11_media_health.md). -/
def rowsHealth : List RegRow :=
  [ ⟨0x040, 0x040, 4, false, 0x1F, 0, 0, 0, false, .k 0, .one⟩, -- HL_SEL R327
    ⟨0x044, 0x044, 4, false, 0, 0xFFFF, 0, 0, false, .k 0xC8, .one⟩, -- HL_RD_LIMIT R327
    ⟨0x048, 0x048, 4, false, 0, 0xFFFF, 0, 0, false, .k 0x2238, .one⟩, -- HL_RET_LIMIT R327
    ⟨0x04C, 0x04C, 4, false, 0, 0xFF, 0, 0, false, .k 0x48, .one⟩, -- HL_CORR_REFRESH R327
    ⟨0x050, 0x050, 4, false, 0, 0x7F, 0, 0, false, .k 0x28, .one⟩, -- HL_XTEMP R327
    ⟨0x054, 0x054, 4, false, 0, 0xFF, 0, 0, false, .k 0x8, .one⟩, -- HL_DIE_FAIL_LIMIT R327
    ⟨0x058, 0x058, 4, false, 0, 0x3FF, 0, 0, false, .k 0x64, .one⟩, -- HL_SPARE_WARN R327
    ⟨0x05C, 0x05C, 4, false, 0, 0, 0, 0, false, .k 0, .one⟩, -- HL_REFRESH_PEND R327
    ⟨0x060, 0x060, 4, false, 0, 0, 0, 0, false, .k 0, .one⟩, -- HL_SUSPECT R327
    ⟨0x100, 0x1FC, 4, false, 0, 0, 0, 0, false, .k 0, .one⟩ ] -- HL_REC R327

/-- The block-specific registers of WEAR (11_media_health.md). -/
def rowsWear : List RegRow :=
  [ ⟨0x040, 0x040, 4, false, 0xF, 0, 0, 0, false, .k 0, .one⟩, -- WR_POOL_SEL R328
    ⟨0x044, 0x044, 4, false, 0, 0xF, 0, 0, false, .k 0xF, .wearPool⟩, -- WR_CTRL R328
    ⟨0x048, 0x048, 8, true, 0, 0xFFFFFFFFFFFF, 0, 0, false, .k 0, .wearPool⟩, -- WR_END R328
    ⟨0x050, 0x050, 4, false, 0, 0x3FF, 0, 0, false, .k 0x32, .wearPool⟩, -- WR_MARGIN R328
    ⟨0x054, 0x054, 4, false, 0, 0x3FF, 0, 0, false, .k 0x1F4, .wearPool⟩, -- WR_PACE_MIN R328
    ⟨0x058, 0x058, 4, false, 0, 0x7FF, 0, 0, false, .k 0x200, .wearPool⟩, -- WR_GC_UMAX R328
    ⟨0x05C, 0x05C, 4, false, 0, 0, 0, 0, false, .k 0, .wearPool⟩, -- WR_BUDGET R328
    ⟨0x060, 0x060, 4, false, 0, 0, 0, 0, false, .k 0, .wearPool⟩, -- WR_E24 R328
    ⟨0x064, 0x064, 4, false, 0, 0, 0, 0, false, .k 0, .wearPool⟩, -- WR_RATIO R328
    ⟨0x068, 0x068, 4, false, 0, 0, 0, 0, false, .k 0, .wearPool⟩, -- WR_STATE R328
    ⟨0x06C, 0x06C, 4, false, 0, 0, 0, 0, false, .k 0, .wearPool⟩, -- WR_DAYS R328
    ⟨0x070, 0x070, 8, true, 0, 0, 0, 0, false, .k 0, .wearPool⟩ ] -- WR_REM R328

/-- The block-specific registers of STRIPE (12_stripe_redundancy.md). -/
def rowsStripe : List RegRow :=
  [ ⟨0x040, 0x040, 4, false, 0xF, 0, 0, 0, false, .k 0, .one⟩, -- SP_POOL_SEL R358
    ⟨0x044, 0x044, 4, false, 0, 0, 0, 0, false, .k 0, .spPool⟩, -- SP_LAYOUT R358
    ⟨0x048, 0x048, 4, false, 0, 0, 0, 0, false, .k 0, .spPool⟩, -- SP_MODULES R358
    ⟨0x04C, 0x04C, 4, false, 0, 0, 0, 0, false, .k 0, .spPool⟩, -- SP_STATE R358
    ⟨0x050, 0x050, 4, false, 0, 0, 0, 0, false, .k 0, .spPool⟩, -- SP_FAILED R358
    ⟨0x054, 0x060, 4, false, 0, 0, 0, 0, false, .k 0, .spPool⟩, -- SP_SUBST R358
    ⟨0x064, 0x064, 4, false, 0, 0x7F007F, 0, 0, false, .k 0x28000A, .one⟩, -- SP_REB_RATE R358
    ⟨0x068, 0x068, 4, false, 0, 0x3FFFF, 0, 0, false, .k 0x61A8, .one⟩, -- SP_REB_GRACE R358
    ⟨0x06C, 0x06C, 4, false, 0, 0xFFF, 0, 0, false, .k 0, .one⟩, -- SP_REB_HOLDOFF R358
    ⟨0x070, 0x070, 8, true, 0, 0, 0, 0, false, .k 0, .spPool⟩, -- SP_REB_LEFT R358
    ⟨0x078, 0x078, 4, false, 0, 0x7FF, 0, 0, false, .k 0x10, .one⟩, -- SP_RESHAPE_RATE R358
    ⟨0x07C, 0x07C, 4, false, 0, 0, 0, 0, false, .k 0, .spPool⟩, -- SP_RESHAPE_LEFT R358
    ⟨0x080, 0x080, 8, true, 0, 0, 0, 0, false, .k 0, .spPool⟩, -- SP_SWITCH_SEQ R358
    ⟨0x088, 0x088, 4, false, 0, 0, 0, 0, false, .k 0, .spPool⟩, -- SP_JBAND R358
    ⟨0x08C, 0x08C, 4, false, 0, 0, 0, 0, false, .k 0, .spPool⟩, -- SP_LOSS_COUNT R358
    ⟨0x090, 0x090, 4, false, 0, 0, 0, 0xFFFFFFFF, false, .k 0, .spPool⟩, -- SP_LOSS_OVERFLOW R358
    ⟨0x094, 0x094, 4, false, 0xFFFFF, 0, 0, 0, false, .k 0, .one⟩, -- SP_LOSS_SEL R358
    ⟨0x098, 0x098, 4, false, 0, 0, 0, 0xFFFFFFFF, false, .k 0, .spPool⟩, -- SP_STRIPES_WR R358
    ⟨0x09C, 0x09C, 4, false, 0, 0, 0, 0xFFFFFFFF, false, .k 0, .spPool⟩, -- SP_RECON R358
    ⟨0x0A0, 0x0A0, 4, false, 0, 0, 0, 0xFFFFFFFF, false, .k 0, .spPool⟩, -- SP_Q_RETRY R358
    ⟨0x0A4, 0x0A4, 4, false, 0, 0, 0, 0, false, .k 0, .one⟩, -- SP_CMD R358
    ⟨0x0A8, 0x0A8, 4, false, 0, 0, 0, 0, false, .k 0, .one⟩, -- SP_CMD_STATUS R358
    ⟨0x100, 0x13C, 4, false, 0xFFFFFFFF, 0, 0, 0, false, .k 0, .one⟩, -- SP_ARG R358
    ⟨0x140, 0x16C, 4, false, 0, 0, 0, 0, false, .k 0, .one⟩ ] -- SP_LOSS_DATA R358

/-- The block-specific registers of TLINK (13_tandem_operation.md). -/
def rowsTlink : List RegRow :=
  [ ⟨0x040, 0x040, 4, false, 0x2, 0, 0, 0, false, .k 0x2, .one⟩, -- TL_CTRL R397
    ⟨0x044, 0x044, 4, false, 0, 0, 0, 0, false, .k 0, .one⟩, -- TL_STATUS R397
    ⟨0x048, 0x048, 4, false, 0, 0, 0, 0, false, .k 0, .one⟩, -- TL_FORCE_SWAP R397
    ⟨0x04C, 0x04C, 4, false, 0xFFFFFF, 0, 0, 0, false, .k 0x3E8, .one⟩, -- TL_LANE_LIMIT R397
    ⟨0x050, 0x050, 4, false, 0, 0, 0, 0xFFFFFFFF, false, .k 0, .one⟩, -- TL_FLITS_TX R397
    ⟨0x054, 0x054, 4, false, 0, 0, 0, 0xFFFFFFFF, false, .k 0, .one⟩, -- TL_FLITS_RX R397
    ⟨0x058, 0x058, 4, false, 0, 0, 0, 0xFFFFFFFF, false, .k 0, .one⟩, -- TL_CRC_ERR R397
    ⟨0x05C, 0x05C, 4, false, 0, 0, 0, 0xFFFFFFFF, false, .k 0, .one⟩, -- TL_REPLAYS R397
    ⟨0x060, 0x060, 4, false, 0, 0, 0, 0xFFFFFFFF, false, .k 0, .one⟩, -- TL_RETRAINS R397
    ⟨0x064, 0x064, 4, false, 0, 0, 0, 0xFFFFFFFF, false, .k 0, .one⟩, -- TL_FWD_SENT R397
    ⟨0x068, 0x068, 4, false, 0, 0, 0, 0xFFFFFFFF, false, .k 0, .one⟩, -- TL_FWD_RCVD R397
    ⟨0x070, 0x0B4, 4, false, 0, 0, 0, 0xFFFFFFFF, false, .k 0, .one⟩, -- TL_LANE_ERR R397
    ⟨0x0C0, 0x0C0, 4, false, 0, 0, 0, 0, false, .k 0, .one⟩ ] -- TL_PARTNER R397

/-- The block-specific registers of REIN (13_tandem_operation.md). -/
def rowsRein : List RegRow :=
  [ ⟨0x040, 0x040, 4, false, 0x3, 0, 0, 0, false, .k 0x3, .one⟩, -- RN_CTRL R398
    ⟨0x044, 0x044, 4, false, 0, 0x13F3F, 0, 0, false, .k 0x100, .one⟩, -- RN_KEY R398
    ⟨0x048, 0x048, 4, false, 0, 0, 0, 0, false, .k 0, .one⟩, -- RN_STATUS R398
    ⟨0x04C, 0x04C, 4, false, 0, 0, 0, 0xFFFFFFFF, false, .k 0, .one⟩, -- RN_A_MISS R398
    ⟨0x050, 0x050, 4, false, 0, 0, 0, 0xFFFFFFFF, false, .k 0, .one⟩, -- RN_B_MISS R398
    ⟨0x054, 0x054, 4, false, 0, 0, 0, 0xFFFFFFFF, false, .k 0, .one⟩, -- RN_AUTH_FAIL R398
    ⟨0x058, 0x058, 8, true, 0, 0, 0, 0, false, .k 0, .one⟩, -- RN_LAST_A R398
    ⟨0x060, 0x060, 8, true, 0, 0, 0, 0, false, .k 0, .one⟩, -- RN_LAST_B R398
    ⟨0x068, 0x068, 4, false, 0, 0, 0, 0, false, .k 0, .one⟩ ] -- RN_B_LINK R398

/-- The block-specific registers of FENCE (13_tandem_operation.md). -/
def rowsFence : List RegRow :=
  [ ⟨0x040, 0x040, 4, false, 0, 0, 0, 0, false, .k 0, .one⟩, -- TD_STATE R399
    ⟨0x044, 0x044, 4, false, 0, 0, 0, 0, false, .k 0, .one⟩, -- TD_CMD R399
    ⟨0x048, 0x048, 4, false, 0, 0, 0, 0, false, .k 0, .one⟩, -- TD_CMD_STATUS R399
    ⟨0x04C, 0x04C, 4, false, 0, 0xFFFF, 0, 0, false, .k 0x30D4, .one⟩, -- TD_HOLD_MAX R399
    ⟨0x050, 0x050, 4, false, 0, 0xFFFFFFFF, 0, 0, false, .k 0x2625A0, .one⟩, -- TD_JOIN_WAIT R399
    ⟨0x054, 0x054, 4, false, 0, 0, 0, 0, false, .k 0, .one⟩, -- TD_ARB R399
    ⟨0x058, 0x058, 8, true, 0, 0, 0, 0, false, .k 0, .one⟩, -- TD_LOST_AT R399
    ⟨0x060, 0x060, 4, false, 0, 0, 0, 0xFFFFFFFF, false, .k 0, .one⟩, -- TD_TAKEOVERS R399
    ⟨0x064, 0x064, 4, false, 0, 0, 0, 0, false, .k 0, .one⟩, -- TD_TWINS R399
    ⟨0x068, 0x068, 4, false, 0, 0, 0, 0xFFFFFFFF, false, .k 0, .one⟩, -- TD_TCPL_SENT R399
    ⟨0x100, 0x13C, 4, false, 0xFFFFFFFF, 0, 0, 0, false, .k 0, .one⟩ ] -- TD_ARG R399

/-- The block-specific registers of REPL (13_tandem_operation.md). -/
def rowsRepl : List RegRow :=
  [ ⟨0x040, 0x040, 4, false, 0x3F, 0, 0, 0, false, .k 0, .one⟩, -- RP_GROUP_SEL R400
    ⟨0x044, 0x044, 4, false, 0, 0xF, 0, 0, false, .k 0x8, .group⟩, -- RP_CFG R400
    ⟨0x048, 0x048, 4, false, 0, 0x3FFFF, 0, 0, false, .k 0x9C4, .group⟩, -- RP_BATCH R400
    ⟨0x04C, 0x04C, 4, false, 0, 0xFFFF, 0, 0, false, .k 0x9C4, .group⟩, -- RP_SYNC_TMO R400
    ⟨0x050, 0x050, 4, false, 0, 0xFFFFFF, 0, 0, false, .k 0, .group⟩, -- RP_QP R400
    ⟨0x054, 0x054, 4, false, 0, 0, 0, 0, false, .k 0, .group⟩, -- RP_STATE R400
    ⟨0x058, 0x058, 8, true, 0, 0, 0, 0, false, .k 0, .group⟩, -- RP_LAST_STAGED R400
    ⟨0x060, 0x060, 8, true, 0, 0, 0, 0, false, .k 0, .group⟩, -- RP_LAST_APPLIED R400
    ⟨0x068, 0x068, 4, false, 0, 0, 0, 0, false, .k 0, .group⟩, -- RP_LAG R400
    ⟨0x06C, 0x06C, 4, false, 0, 0, 0, 0xFFFFFFFF, false, .k 0, .group⟩, -- RP_RECS_TX R400
    ⟨0x070, 0x070, 4, false, 0, 0, 0, 0xFFFFFFFF, false, .k 0, .group⟩, -- RP_DUP_DISCARD R400
    ⟨0x074, 0x074, 4, false, 0, 0, 0, 0, false, .k 0, .one⟩, -- RP_CMD R400
    ⟨0x078, 0x078, 4, false, 0, 0, 0, 0, false, .k 0, .one⟩, -- RP_CMD_STATUS R400
    ⟨0x100, 0x13C, 4, false, 0xFFFFFFFF, 0, 0, 0, false, .k 0, .one⟩ ] -- RP_ARG R400

/-- The block-specific registers of DDRC (14_memory_system.md). -/
def rowsDdrc : List RegRow :=
  [ ⟨0x040, 0x040, 4, false, 0, 0, 0, 0, false, .k 0, .one⟩, -- DC_CFG R427
    ⟨0x044, 0x044, 4, false, 0xF, 0, 0, 0, false, .k 0xF, .one⟩, -- DC_CTRL R427
    ⟨0x048, 0x048, 4, false, 0, 0, 0, 0, false, .k 0, .one⟩, -- DC_FREQ_CMD R427
    ⟨0x04C, 0x04C, 4, false, 0, 0, 0, 0, false, .k 0, .one⟩, -- DC_STATUS R427
    ⟨0x050, 0x050, 4, false, 0x1, 0, 0, 0, false, .k 0x1, .one⟩, -- DC_TSEL R427
    ⟨0x054, 0x060, 4, false, 0xFFFFFFFF, 0, 0, 0, false, .k 0, .timing⟩, -- DC_TIM R427
    ⟨0x064, 0x064, 4, false, 0, 0xF, 0, 0, false, .k 0x9, .one⟩, -- DC_PNR R427
    ⟨0x068, 0x068, 4, false, 0, 0xFF, 0, 0, false, .k 0x18, .one⟩, -- DC_SCRUB R427
    ⟨0x06C, 0x06C, 4, false, 0, 0, 0, 0, false, .k 0, .one⟩, -- DC_SCRUB_PROGRESS R427
    ⟨0x070, 0x070, 4, false, 0, 0xFFFF, 0, 0, false, .k 0x400, .one⟩, -- DC_SPARE_THRESH R427
    ⟨0x074, 0x074, 4, false, 0, 0xFFFF, 0, 0, false, .k 0x800, .one⟩, -- DC_SPARE_RATE R427
    ⟨0x078, 0x078, 4, false, 0, 0xFFFFFF, 0, 0, false, .k 0x1000FA, .one⟩, -- DC_DRIFT R427
    ⟨0x07C, 0x07C, 4, false, 0, 0, 0, 0xFFFFFFFF, false, .k 0, .one⟩, -- DC_CE_COUNT R427
    ⟨0x080, 0x080, 4, false, 0, 0, 0, 0xFFFFFFFF, false, .k 0, .one⟩, -- DC_UE_COUNT R427
    ⟨0x084, 0x084, 4, false, 0, 0, 0, 0, false, .k 0, .one⟩, -- DC_CE_LAST R427
    ⟨0x088, 0x088, 8, true, 0, 0, 0, 0, false, .k 0, .one⟩, -- DC_CE_ADDR R427
    ⟨0x090, 0x090, 4, false, 0, 0, 0, 0xFFFFFFFF, false, .k 0, .one⟩, -- DC_DRFM R427
    ⟨0x094, 0x094, 4, false, 0, 0, 0, 0, false, .k 0, .one⟩, -- DC_PPR R427
    ⟨0x098, 0x098, 4, false, 0, 0, 0, 0xFFFF, false, .k 0, .one⟩, -- DC_LAT_MAX R427
    ⟨0x09C, 0x09C, 4, false, 0, 0, 0, 0xFFFFFFFF, false, .k 0, .one⟩, -- DC_DRIFT_STEPS R427
    ⟨0x0A0, 0x0A0, 4, false, 0, 0, 0, 0, false, .k 0, .one⟩, -- DC_UTIL R427
    ⟨0x100, 0x128, 4, false, 0, 0x3FFFF, 0, 0, false, .dcPort, .one⟩ ] -- DC_PORT R427

/-- The block-specific registers of MCACHE (14_memory_system.md). -/
def rowsMcache : List RegRow :=
  [ ⟨0x040, 0x040, 4, false, 0, 0, 0, 0, false, .k 0x102000, .one⟩, -- MC_CFG R429
    ⟨0x044, 0x044, 4, false, 0, 0, 0, 0xFFFFFFFF, false, .k 0, .one⟩, -- MC_HITS R429
    ⟨0x048, 0x048, 4, false, 0, 0, 0, 0xFFFFFFFF, false, .k 0, .one⟩, -- MC_MISSES R429
    ⟨0x04C, 0x04C, 4, false, 0, 0, 0, 0xFFFFFFFF, false, .k 0, .one⟩, -- MC_MERGES R429
    ⟨0x050, 0x050, 4, false, 0, 0, 0, 0xFFFFFFFF, false, .k 0, .one⟩, -- MC_SECTOR_FILLS R429
    ⟨0x054, 0x054, 4, false, 0, 0, 0, 0xFFFFFFFF, false, .k 0, .one⟩, -- MC_EVICT_DIRTY R429
    ⟨0x058, 0x058, 4, false, 0, 0, 0, 0, false, .k 0, .one⟩, -- MC_MSR_INUSE R429
    ⟨0x05C, 0x05C, 4, false, 0, 0, 0, 0xFFFFFFFF, false, .k 0, .one⟩, -- MC_MSR_FULL R429
    ⟨0x060, 0x060, 4, false, 0, 0, 0, 0xFFFFFFFF, false, .k 0, .one⟩, -- MC_EVICT_WAITS R429
    ⟨0x064, 0x064, 4, false, 0, 0, 0, 0, false, .k 0, .one⟩, -- MC_OP R429
    ⟨0x068, 0x068, 8, true, 0xFFFFFFFFFFFFFFFF, 0, 0, 0, false, .k 0, .one⟩, -- MC_OP_ADDR R429
    ⟨0x070, 0x070, 4, false, 0x1FFFF, 0, 0, 0, false, .k 0x1, .one⟩, -- MC_OP_LINES R429
    ⟨0x074, 0x074, 4, false, 0, 0, 0, 0, false, .k 0, .one⟩, -- MC_OP_STATUS R429
    ⟨0x078, 0x078, 4, false, 0, 0, 0, 0, false, .k 0, .one⟩, -- MC_DIRTY R429
    ⟨0x07C, 0x07C, 4, false, 0, 0, 0, 0xFFFFFFFF, false, .k 0, .one⟩, -- MC_SRAM_CE R429
    ⟨0x080, 0x080, 4, false, 0, 0, 0, 0xFFFFFFFF, false, .k 0, .one⟩ ] -- MC_REBUILDS R429

/-- The block-specific registers of KDE (15_digest_and_keys.md). -/
def rowsKde : List RegRow :=
  [ ⟨0x040, 0x040, 4, false, 0, 0, 0, 0, false, .k 0, .one⟩, -- KDE_CLAIM R450
    ⟨0x044, 0x044, 4, false, 0, 0, 0, 0, false, .k 0, .one⟩, -- KDE_OWNER R450
    ⟨0x048, 0x048, 4, false, 0, 0, 0, 0, false, .k 0, .one⟩, -- KDE_CTRL R450
    ⟨0x04C, 0x04C, 4, false, 0x1FFFF, 0, 0, 0, false, .k 0x4000, .one⟩, -- KDE_MODE R450
    ⟨0x050, 0x050, 4, false, 0, 0, 0, 0, false, .k 0, .one⟩, -- KDE_STATUS R450
    ⟨0x054, 0x054, 4, false, 0, 0, 0, 0, false, .k 0, .one⟩, -- KDE_DATA R450
    ⟨0x058, 0x058, 4, false, 0x7, 0, 0, 0, false, .k 0, .one⟩, -- KDE_TAIL R450
    ⟨0x060, 0x060, 8, true, 0, 0, 0, 0, false, .k 0, .one⟩, -- KDE_LEN R450
    ⟨0x068, 0x068, 4, false, 0, 0, 0, 0, false, .k 0, .one⟩, -- KDE_RESULT R450
    ⟨0x06C, 0x06C, 4, false, 0, 0, 0, 0, false, .k 0, .one⟩, -- KDE_CMP_COMPAT R450
    ⟨0x070, 0x070, 4, false, 0, 0, 0, 0, false, .k 0, .one⟩, -- KDE_CTX_CMD R450
    ⟨0x074, 0x074, 4, false, 0, 0, 0, 0, false, .k 0, .one⟩, -- KDE_CTX_STATUS R450
    ⟨0x078, 0x078, 4, false, 0, 0, 0, 0, false, .k 0, .one⟩, -- KDE_CTX_OWNER R450
    ⟨0x07C, 0x07C, 4, false, 0, 0xFFFFFFFF, 0, 0, false, .k 0x3D090, .one⟩, -- KDE_IDLE_MAX R450
    ⟨0x080, 0x080, 4, false, 0, 0, 0, 0xFFFFFFFF, false, .k 0, .one⟩, -- KDE_SESSIONS R450
    ⟨0x100, 0x13C, 4, false, 0, 0, 0, 0, false, .k 0, .one⟩, -- KDE_DIGEST R450
    ⟨0x140, 0x17C, 4, false, 0, 0, 0, 0, false, .k 0, .one⟩ ] -- KDE_EXPECT R450

/-- The block-specific registers of KEYSLOT (15_digest_and_keys.md). -/
def rowsKeyslot : List RegRow :=
  [ ⟨0x040, 0x040, 4, false, 0x3F, 0, 0, 0, false, .k 0, .one⟩, -- KS_SEL R451
    ⟨0x044, 0x044, 4, false, 0, 0, 0, 0, false, .k 0, .one⟩, -- KS_CMD R451
    ⟨0x048, 0x048, 4, false, 0, 0, 0, 0, false, .k 0, .one⟩, -- KS_CMD_STATUS R451
    ⟨0x04C, 0x04C, 4, false, 0x7F, 0, 0, 0, false, .k 0x20, .one⟩, -- KS_LEN R451
    ⟨0x050, 0x050, 4, false, 0xF, 0, 0, 0, false, .k 0, .one⟩, -- KS_USE_ARG R451
    ⟨0x054, 0x054, 4, false, 0, 0, 0, 0, false, .k 0, .one⟩, -- KS_STATE R451
    ⟨0x058, 0x058, 4, false, 0, 0, 0, 0, false, .k 0, .one⟩, -- KS_KCV R451
    ⟨0x05C, 0x05C, 8, true, 0, 0, 0, 0, false, .k 0, .one⟩, -- KS_VALID_MAP R451
    ⟨0x064, 0x064, 8, true, 0, 0, 0, 0, false, .k 0, .one⟩, -- KS_LOCK_MAP R451
    ⟨0x06C, 0x06C, 4, false, 0, 0, 0x1, 0, false, .k 0, .one⟩, -- KS_GLOBAL R451
    ⟨0x100, 0x13C, 4, false, 0xFFFFFFFF, 0, 0, 0, false, .k 0, .one⟩ ] -- KS_DATA R451

/-- The block-specific registers of GUARD (16_resilience_and_records.md). -/
def rowsGuard : List RegRow :=
  [ ⟨0x040, 0x040, 4, false, 0, 0, 0, 0, false, .k 0x700, .one⟩, -- GD_LADDER R484
    ⟨0x044, 0x044, 4, false, 0x3F, 0, 0, 0, false, .k 0, .one⟩, -- GD_Q_SEL R484
    ⟨0x048, 0x048, 4, false, 0, 0, 0, 0, false, .k 0, .entry⟩, -- GD_Q_ENTRY0 R484
    ⟨0x04C, 0x04C, 4, false, 0, 0, 0, 0, false, .k 0, .entry⟩, -- GD_Q_ENTRY1 R484
    ⟨0x050, 0x050, 8, true, 0, 0, 0, 0, false, .k 0, .entry⟩, -- GD_Q_STRIDE R484
    ⟨0x058, 0x058, 4, false, 0, 0, 0, 0xFFFFFFFF, false, .k 0, .one⟩, -- GD_OVERFLOW R484
    ⟨0x05C, 0x05C, 4, false, 0, 0, 0, 0xFFFFFFFF, false, .k 0, .one⟩, -- GD_ESCALATIONS R484
    ⟨0x060, 0x074, 4, false, 0, 0, 0, 0xFFFFFFFF, false, .k 0, .one⟩, -- GD_LEVEL_COUNT R484
    ⟨0x080, 0x080, 8, true, 0xFFFFFFFFFFFFFFFF, 0, 0, 0, false, .k 0, .one⟩, -- GD_DIAG_BASE R484
    ⟨0x088, 0x088, 4, false, 0x1FFFFF, 0, 0, 0, false, .k 0x400, .one⟩, -- GD_DIAG_SIZE R484
    ⟨0x08C, 0x08C, 4, false, 0, 0, 0, 0, false, .k 0, .one⟩, -- GD_DIAG_PROD R484
    ⟨0x090, 0x090, 4, false, 0xFFFFF, 0, 0, 0, false, .k 0, .one⟩, -- GD_DIAG_CONS R484
    ⟨0x094, 0x094, 4, false, 0, 0, 0, 0xFFFFFFFF, false, .k 0, .one⟩, -- GD_DIAG_LOST R484
    ⟨0x098, 0x098, 4, false, 0x1, 0, 0, 0, false, .k 0, .one⟩, -- GD_DIAG_CTRL R484
    ⟨0x0A0, 0x0A0, 4, false, 0xF, 0, 0, 0, false, .k 0, .one⟩, -- GD_ACT_SEL R484
    ⟨0x0A4, 0x0A4, 4, false, 0, 0, 0, 0, false, .k 0, .actPool⟩, -- GD_ACT_RUN R484
    ⟨0x0A8, 0x0A8, 4, false, 0, 0, 0, 0, false, .k 0, .one⟩, -- GD_LAST_DECISION R484
    ⟨0x0AC, 0x0AC, 4, false, 0, 0, 0, 0, false, .k 0, .one⟩, -- GD_ACT_QLEN R484
    ⟨0x0B0, 0x0B0, 4, false, 0, 0, 0, 0, false, .k 0, .one⟩, -- GD_ACT_CANCEL R484
    ⟨0x100, 0x12C, 4, false, 0, 0xFFFFFF, 0, 0, false, .matrix, .one⟩ ] -- GD_MX R484

/-- The block-specific registers of STUDBOOK (16_resilience_and_records.md). -/
def rowsStudbook : List RegRow :=
  [ ⟨0x040, 0x040, 4, false, 0, 0, 0, 0, false, .k 0, .one⟩, -- STB_CTRL R485
    ⟨0x044, 0x044, 4, false, 0, 0, 0, 0, false, .k 0, .one⟩, -- STB_STATUS R485
    ⟨0x048, 0x048, 8, true, 0, 0, 0, 0, false, .k 0, .one⟩, -- STB_END R485
    ⟨0x050, 0x050, 8, true, 0, 0, 0, 0, false, .k 0, .one⟩, -- STB_FLUSHED R485
    ⟨0x058, 0x058, 4, false, 0, 0, 0, 0, false, .k 0, .one⟩, -- STB_LAST_SEQ R485
    ⟨0x05C, 0x05C, 4, false, 0, 0, 0, 0, false, .k 0, .one⟩, -- STB_FILL_PM R485
    ⟨0x060, 0x060, 4, false, 0, 0, 0, 0xFFFFFFFF, false, .k 0, .one⟩, -- STB_DROPPED R485
    ⟨0x064, 0x064, 8, true, 0, 0, 0, 0, false, .k 0, .one⟩, -- STB_RD_OFF R485
    ⟨0x06C, 0x06C, 4, false, 0x4, 0, 0, 0, false, .k 0, .one⟩, -- STB_RD_STATUS R485
    ⟨0x070, 0x070, 4, false, 0, 0, 0, 0, false, .k 0, .one⟩, -- STB_APP_CMD R485
    ⟨0x074, 0x074, 4, false, 0, 0, 0, 0, false, .k 0, .one⟩, -- STB_APP_STATUS R485
    ⟨0x400, 0x7FC, 4, false, 0xFFFFFFFF, 0, 0, 0, false, .k 0, .one⟩, -- STB_APP_DATA R485
    ⟨0x800, 0xFFC, 4, false, 0, 0, 0, 0, false, .k 0, .one⟩ ] -- STB_RD_WIN R485

/-- The block-specific registers of TACK (16_resilience_and_records.md). -/
def rowsTack : List RegRow :=
  [ ⟨0x040, 0x040, 4, false, 0, 0, 0, 0, false, .k 0, .one⟩, -- TK_STATUS R486
    ⟨0x044, 0x044, 4, false, 0, 0, 0, 0, false, .k 0, .one⟩, -- TK_SEQ R486
    ⟨0x048, 0x048, 4, false, 0, 0, 0, 0, false, .k 0, .one⟩, -- TK_SKIPPED R486
    ⟨0x04C, 0x04C, 4, false, 0, 0, 0, 0, false, .k 0, .one⟩, -- TK_CTRL R486
    ⟨0x050, 0x050, 8, true, 0xFFFFFFFFFFFFFFFF, 0, 0, 0, false, .k 0, .one⟩, -- TK_HOST R486
    ⟨0x058, 0x058, 4, false, 0, 0, 0, 0, false, .k 0, .one⟩, -- TK_CMD R486
    ⟨0x05C, 0x05C, 4, false, 0, 0, 0, 0, false, .k 0, .one⟩, -- TK_CMD_STATUS R486
    ⟨0x060, 0x060, 4, false, 0, 0, 0, 0, false, .k 0, .one⟩ ] -- TK_INVALID R486

/-- The block-specific registers of REMOUNT (16_resilience_and_records.md). -/
def rowsRemount : List RegRow :=
  [ ⟨0x040, 0x040, 4, false, 0x3, 0, 0, 0, false, .k 0x3, .one⟩, -- RM_CTRL R486
    ⟨0x044, 0x044, 4, false, 0xF, 0, 0, 0, false, .k 0, .one⟩, -- RM_INV_SEL R486
    ⟨0x048, 0x048, 4, false, 0, 0, 0, 0, false, .inventory, .kind⟩, -- RM_INV R486
    ⟨0x04C, 0x04C, 4, false, 0, 0, 0, 0, false, .k 0, .one⟩, -- RM_STATUS R486
    ⟨0x050, 0x050, 4, false, 0, 0, 0, 0, false, .k 0, .one⟩, -- RM_CANDIDATES R486
    ⟨0x054, 0x054, 4, false, 0, 0, 0, 0, false, .k 0, .one⟩, -- RM_CMD R486
    ⟨0x058, 0x058, 4, false, 0, 0, 0, 0, false, .k 0, .one⟩, -- RM_CMD_STATUS R486
    ⟨0x05C, 0x05C, 4, false, 0, 0, 0, 0xFFFFFFFF, false, .k 0, .one⟩, -- RM_COUNT R486
    ⟨0x060, 0x060, 4, false, 0, 0, 0, 0, false, .k 0, .one⟩ ] -- RM_SRAM_ROWS R486

/-- The block-specific registers of SVC (17_service_and_firmware.md). -/
def rowsSvc : List RegRow :=
  [ ⟨0x040, 0x040, 4, false, 0x3, 0, 0, 0, false, .k 0x3, .one⟩, -- SVC_CTRL R506
    ⟨0x044, 0x044, 4, false, 0, 0, 0, 0, false, .k 0, .one⟩, -- SVC_STATUS R506
    ⟨0x048, 0x048, 8, true, 0xFFFFFFFFFFFF, 0, 0, 0, false, .k 0, .one⟩, -- SVC_MAC R506
    ⟨0x050, 0x050, 4, false, 0xFFFFFFFF, 0, 0, 0, false, .k 0, .one⟩, -- SVC_IPV4 R506
    ⟨0x054, 0x054, 4, false, 0xFFFFFFFF, 0, 0, 0, false, .k 0, .one⟩, -- SVC_IPV4_MASK R506
    ⟨0x058, 0x058, 4, false, 0xFFFFFFFF, 0, 0, 0, false, .k 0, .one⟩, -- SVC_IPV4_GW R506
    ⟨0x060, 0x06C, 4, false, 0xFFFFFFFF, 0, 0, 0, false, .k 0, .one⟩, -- SVC_IPV6 R506
    ⟨0x070, 0x070, 4, false, 0, 0xFFFFFFFF, 0, 0, false, .k 0x7270E0, .one⟩, -- SVC_IDLE R506
    ⟨0x074, 0x074, 8, true, 0xFFFFFFFFFFFFFFFF, 0, 0, 0, false, .k 0, .one⟩, -- SVC_MAINT_MAP R506
    ⟨0x07C, 0x07C, 4, false, 0, 0, 0, 0xFFFFFFFF, false, .k 0, .one⟩, -- SVC_AUTH_FAIL R506
    ⟨0x080, 0x080, 4, false, 0, 0, 0, 0xFFFFFFFF, false, .k 0, .one⟩, -- SVC_RX_DROP R506
    ⟨0x084, 0x084, 4, false, 0, 0, 0, 0xFFFFFFFF, false, .k 0, .one⟩ ] -- SVC_MSG_RX R506

/-- The block-specific registers of FWU (17_service_and_firmware.md). -/
def rowsFwu : List RegRow :=
  [ ⟨0x040, 0x040, 4, false, 0, 0, 0, 0, false, .k 0, .one⟩, -- FW_RUN R506
    ⟨0x044, 0x044, 4, false, 0, 0, 0, 0, false, .k 0, .one⟩, -- FW_RUN_BUILD R506
    ⟨0x048, 0x048, 4, false, 0, 0, 0, 0, false, .k 0, .one⟩, -- FW_RUN_VER R506
    ⟨0x04C, 0x04C, 4, false, 0, 0, 0, 0, false, .k 0, .one⟩, -- FW_INST_BUILD R506
    ⟨0x050, 0x050, 4, false, 0, 0, 0, 0, false, .k 0, .one⟩, -- FW_FLOOR R506
    ⟨0x054, 0x058, 4, false, 0, 0, 0, 0, false, .k 0, .one⟩, -- FW_SLOT R506
    ⟨0x05C, 0x060, 4, false, 0, 0, 0, 0, false, .k 0, .one⟩, -- FW_SLOT_BUILD R506
    ⟨0x064, 0x064, 4, false, 0, 0, 0, 0, false, .k 0, .one⟩, -- FW_STAGE R506
    ⟨0x068, 0x068, 4, false, 0, 0, 0, 0, false, .k 0, .one⟩, -- FW_STAGE_BYTES R506
    ⟨0x06C, 0x06C, 4, false, 0, 0, 0, 0, false, .k 0, .one⟩, -- FW_CMD R506
    ⟨0x070, 0x070, 4, false, 0, 0, 0, 0, false, .k 0, .one⟩ ] -- FW_CMD_STATUS R506

/-- The block-specific registers of a kind of page. -/
def rowsOf : PageKind → List RegRow
  | .chipId => rowsChipId
  | .stride => rowsStride
  | .calendar => rowsCalendar
  | .life => rowsLife
  | .guard => rowsGuard
  | .studbook => rowsStudbook
  | .tack => rowsTack
  | .remount => rowsRemount
  | .svc => rowsSvc
  | .fwu => rowsFwu
  | .kde => rowsKde
  | .keyslot => rowsKeyslot
  | .fnmgr => rowsFnmgr
  | .eth => rowsEth
  | .rma => rowsRma
  | .ctxc => rowsCtxc
  | .weir => rowsWeir
  | .pcie => rowsPcie
  | .legq => rowsLegq
  | .ingest => rowsIngest
  | .cistern => rowsCistern
  | .digp => rowsDigp
  | .dedup => rowsDedup
  | .comp => rowsComp
  | .decomp => rowsDecomp
  | .read => rowsRead
  | .cam => rowsCam
  | .mlink => rowsMlink
  | .ldpc => rowsLdpc
  | .ftl => rowsFtl
  | .patrol => rowsPatrol
  | .health => rowsHealth
  | .wear => rowsWear
  | .stripe => rowsStripe
  | .ddrc => rowsDdrc
  | .mcache => rowsMcache
  | .tlink => rowsTlink
  | .rein => rowsRein
  | .fence => rowsFence
  | .repl => rowsRepl
  | .core => []

end Sys2Proof.Machine
end

