-- ==== Sys2Proof/Machine/RegFile.lean ====
section
/-! DEFINITION. What each register reads after reset (the Reset columns of the register tables, PG_IDENT, PG_CAPS and
PG_SPARE of R58 to R78, and R546), and how a BAR offset finds its row in the register tables. -/

namespace Sys2Proof.Machine

/-- The row of a table that holds a page offset, the index in the row's array, and whether the offset is an `_HI` half. -/
def findRow : List RegRow → Nat → Option (RegRow × Nat × Bool)
  | [], _ => none
  | r :: rs, o =>
    if r.off ≤ o ∧ o ≤ r.last ∧ (o - r.off) % r.step = 0 then some (r, (o - r.off) / r.step, false)
    else if r.wide ∧ r.off + 4 ≤ o ∧ o ≤ r.last + 4 ∧ (o - r.off - 4) % r.step = 0 then
      some (r, (o - r.off - 4) / r.step, true)
    else findRow rs o

/-- The row of a page that holds a page offset: common header, unit map or block-specific registers. -/
def rowAt (p : PageRow) (o : Nat) : Option (RegRow × Nat × Bool) :=
  if o < 0x40 then findRow rowsHeader o
  else if 0xF00 ≤ o then
    if (o - 0xF00) / 4 < p.units then findRow rowsUnitMap o else findRow (rowsOf p.kind) o
  else findRow (rowsOf p.kind) o

/-- The compatibility matrix rows at reset (R484). -/
def matrixReset : List Nat :=
  [0x000C4000, 0x000C4000, 0x00048000, 0x00048040, 0x00048000, 0x0008A000,
   0x0008AC00, 0x0008A6A5, 0x00040000, 0x0059A565, 0x00540000, 0x00900000]

/-- Spares fitted by KIND (R460); KIND 10 counts the ranks of SPARE_EN = 1, which is 0 at reset. -/
def sparesFitted : List Nat := [8, 1, 2, 2, 2, 4, 1, 2816, 4, 48, 0]

/-- The RC page has RWS fields (PG_CAPS.HAS_SHADOW). -/
def hasShadow (k : PageKind) : Bool := (rowsOf k).any fun r => decide (r.rws ≠ 0)

/-- PG_CAPS of a page (R59, R545). -/
def capsOf (r : PageRow) (p : Nat) : Nat :=
  p + (hasShadow r.kind).toNat * 2 ^ 10 + r.hasInject.toNat * 2 ^ 11 + r.canFreeze.toNat * 2 ^ 12
    + (decide (r.units ≠ 0)).toNat * 2 ^ 13
    + (decide (r.units ≠ 0) || decide (r.inService < r.count)).toNat * 2 ^ 14 + r.units * 2 ^ 16

/-- The group of a logical CAM bank: 0 in-flight table, 1 address filter, 2 dedup hot tier, 3 spare (R174). -/
def camGroup (n : Nat) : Nat := if n ≤ 1 then 0 else if n = 2 then 1 else if n ≤ 15 then 2 else 3

/-- CAM_CFG of a logical bank: WIDTH code and USER (R174, R188). -/
def camCfgOf (n : Nat) : Nat :=
  match camGroup n with
  | 0 => 0x10
  | 1 => 0x22
  | 2 => 0x31
  | _ => 0

/-- Mask set `m` of a group at reset (R176). -/
def camMaskReset (g m : Nat) : Nat :=
  match g, m with
  | 0, 1 => 2 ^ 72 - 2 ^ 48
  | 0, _ => 2 ^ 72 - 1
  | 1, 1 => 2 ^ 272 - 2 ^ 128
  | 1, _ => 2 ^ 288 - 1
  | 2, 1 => 2 ^ 144 - 2 ^ 16
  | 2, _ => 2 ^ 144 - 1
  | _, _ => 0

/-- DC_PORT0 to DC_PORT10 at reset: TARGET and CLASS (R404, R427). -/
def dcPortReset : List Nat :=
  [0x1F4, 0x1F4, 0x107D0, 0x258, 0x1F4, 0x320, 0x107D0, 0x105DC, 0x107D0, 0x24E20, 0x2C350]

/-- The reset value of a 64-bit or 32-bit register of a row: element `i`, bank `bank`, page instance `inst`. -/
def RegReset.value (i bank inst : Nat) : RegReset → Nat
  | .k v => v
  | .camCfg => camCfgOf inst
  | .camMask => camMaskReset (camGroup inst) (i / 9) / 2 ^ (32 * (i % 9))
  | .index => i
  | .route => pageDomain (4 * i) + pageDomain (4 * i + 1) * 2 ^ 8 + pageDomain (4 * i + 2) * 2 ^ 16
      + pageDomain (4 * i + 3) * 2 ^ 24
  | .routeTop => pageDomain 248 + pageDomain 249 * 2 ^ 8 + pageDomain 250 * 2 ^ 16
  | .matrix => matrixReset.getD i 0
  | .dcPort => dcPortReset.getD i 0
  | .inventory => sparesFitted.getD bank 0 * 65537

/-- The reset value of a header register (R58); Chip and Service pages reset with ENABLE = 1 (R546), and the spare slots
CORE88 to CORE95 and CAM16 in state SPARE (R52). -/
def headerReset (r : PageRow) (p o : Nat) : Nat :=
  if o = 0x000 then r.btype * 2 ^ 16 + (p - r.first) * 2 ^ 8 + 1
  else if o = 0x004 then 0x0100B000
  else if o = 0x008 then capsOf r p
  else if o = 0x00C then (pageAlwaysOn p).toNat
  else if o = 0x010 then if pageIsSpareSlot p then PState.spare.code else 0
  else if o = 0x018 then 0xF0000000
  else if o = 0x034 then p - r.first
  else 0

/-- The reset value of unit map word `u` (R78): the unit itself; spare units in state SPARE (R52), the others OFF. -/
def unitReset (r : PageRow) (u : Nat) : Nat :=
  u + (if r.inService ≤ u then PState.spare.code else 0) * 2 ^ 8

/-- What the register number `k` reads after reset. -/
def resetOf (k : Nat) : Word :=
  let off := k % 0x1000000
  match pageAt off with
  | none => 0
  | some (r, p) =>
    let o := off % 0x1000
    if o < 0x40 then BitVec.ofNat 32 (headerReset r p o)
    else
      match rowAt r o with
      | none => 0
      | some (row, i, hi) =>
        if 0xF00 ≤ o ∧ (o - 0xF00) / 4 < r.units then BitVec.ofNat 32 (unitReset r i)
        else
          let v := row.reset.value i (k / 0x1000000) (p - r.first)
          if hi then BitVec.ofNat 32 (v / 2 ^ 32) else BitVec.ofNat 32 v

end Sys2Proof.Machine
end

