-- ==== Sys2Proof/Machine/State.lean ====
section
/-! DEFINITION. The state of the XG7240. -/

namespace Sys2Proof.Machine

/-- Reasons to stop with a fault: none. Every error the chip detects is captured, placed on the fault ladder or answered
with a status (R53, R54, R71, R109), and the chip goes on. -/
inductive Fault where
  deriving DecidableEq, Repr

/-- Reasons to refuse a command. -/
inductive Refusal where
  /-- Raised by the dispatcher for a command that has no meaning yet. Safe: nothing is claimed of it. -/
  | notModelled (mnemonic : String)
  deriving DecidableEq, Repr

/-- The state of one XG7240. -/
structure State where
  /-- Commands waiting, first in, first out. -/
  pending : List Instr
  /-- Everything sent out, newest first. -/
  sent : List Emit
  /-- The register file (R8, R57), by register number; a register not listed holds its reset value. -/
  regs : Amap Word
  /-- Shadows of RWS registers written since their page's last applied commit (R16, R66). -/
  shadow : Amap Word
  /-- `_HI` halves latched by a read of `_LO` (R15). -/
  hiLatch : Amap Word
  /-- `_LO` halves written and waiting for `_HI` (R15). -/
  loPend : Amap Word
  clock : ClockSt
  pages : PageSt
  guard : GuardSt
  stud : StudSt
  tack : TackSt
  front : FrontSt
  cist : CistSt
  cam : CamSt
  media : MediaSt
  tandem : TandemSt
  mem : MemSt
  svc : SvcSt
  power : PowerSt
  /-- How many free values have been used (the model's own; assumption log 3). -/
  fresh : Nat
  deriving DecidableEq, Repr

/-! ### Reset

State.reset is the machine right after a POWER_ON reset of a new part: every register at the value its table gives (the
register file lists only what differs), nothing on the flash and NOR devices, and the bring-up of R524 due. The typed state
outside the registers has no reset value of its own in the spec; what it holds here is said in assumption log 1. -/

/-- Stride, calendar and lifetime state at reset. -/
def ClockSt.reset : ClockSt :=
  { adopt := none, phase := 0, inBand := 0, partnerLost := false, trimAcc := 0, oscStopped := false, ovrRun := [],
    ovrDebt := [], lifeSave := none, lifeA := [], lifeB := [] }

/-- An empty remount map. -/
def RmMap.empty : RmMap := { seq := 0, words := [], retired := [], rows := [], crcOk := false }

/-- GUARD and REMOUNT state at reset. -/
def GuardSt.reset : GuardSt :=
  { ladder := [], firsts := [], acts := [], job := none, waiting := [], noRemount := false, candidates := [], rows := [],
    rowJob := [], mapAon := RmMap.empty, mapA := RmMap.empty, mapB := RmMap.empty }

/-- The studbook of a new part. -/
def StudSt.reset : StudSt :=
  { recs := [], endOff := 0, lastSeq := 0, dev0 := 0, dev1 := 0, dev0Ok := true, dev1Ok := true, flushTo := none,
    flushAgain := false, ctrlAgain := false, window := none, appDay := 0, appBytes := 0, full := false, bufOk := false }

/-- Front state at reset. -/
def FrontSt.reset : FrontSt :=
  { fns := [], win := [], winLo := [], msixMask := [], msixPend := [], fnCmd := none, cmds := [], nextCmd := 0, nextAdm := 0, weirFirst := 0, served := [], rdmaSlots := 0, qps := [], mrs := [],
    rmaBusy := none, evqPhase := true, gsiPhase := true, gsiSent := [], missPosted := [],
    paused := [], portDue := [], modeStray := [], seals := [],
    ctrls := [], useStamp := 0, numVfs := 0 }

/-- Cistern and Spillway state at reset. -/
def CistSt.reset : CistSt :=
  { parts := [], mirror := [], head := 0, tail := 0, fnUse := [], stalled := [], releases := [], spill := .idle,
    spillStart := 0, spillNo := 0, spillByFeeds := false, haltReq := false, bothFailed := 0, bothPresent := 0,
    feedAFail := false, feedBFail := false, bandModules := 0, bandDies := 0, bandErased := true, bandDir := none,
    bandOwn := [], bandMirror := [], restored := none }

/-- Associative search and dedup state at reset. -/
def CamSt.reset : CamSt :=
  { entries := [], match_ := [], shadow := [], hotRef := [], hotHand := 0, opAt := [], buckets := [], logs := [],
    flash := [], clkLeft := 0, hostLeft := 0, digested := 0, downgraded := false, late := false, capReduced := false, raUsed := 0 }

/-- Media state of a new part with blank modules. -/
def MediaSt.reset : MediaSt :=
  { vols := [], pages := [], flash := [], refs := [], sums := [], anchors := [], backrefs := [], txns := [], segs := [], stripes := [],
    nextStripe := 0, rewrites := [], bandTail := [], strLog := [], pools := [], links := [], dies := [], bgs := [], health := [],
    patrol := { active := false, endCal := 0, restart := false, rate := 0, credit := 0, total := 0, carried := [],
                expedited := false },
    wear := [], reclaim := [], snaps := [], lost := [], firstFail := false, fails := [] }

/-- Tandem state at reset. -/
def TandemSt.reset : TandemSt :=
  { tl := FlitLink.fresh 0 [], tlWait := [], tlInitOk := false, mateGib := 0, bseqA := 0, bseqB := 0, lowA := false, lowB := false, bseq := 0,
    beat := none, silentA := false, silentB := false, fencing := false, fenceInSeen := false, fenceInDue := false, epochs := [], raises := [],
    lostMods := [], staleMods := [], tie := none, arbWon := false, split := false, arbAt := 0, held := [],
    takeovers := [], transfer := none, leaving := false, resync := none,
    twins := [], twinPosted := [], refOut := [], substs := [], nextFwd := 0, fwdOut := [], fwdIn := [], groups := [], bandStaged := [], bulkOwed := 0,
    anaDue := false }

/-- A session that no one owns. -/
def KdeSession.none : KdeSession :=
  { mode := 0, msg := [], key := [], keyGone := false, owner := 0, at_ := 0, expect := [], lost := false }

/-- Memory and key state at reset: no line, no session, every key slot EMPTY (R446). -/
def MemSt.reset : MemSt :=
  { channels := [], freqAll := [], hardDue := [],
    mc := { lines := [], misses := [], hands := [], evicting := [], waiting := [], opLines := [], full := false,
            broken := [] },
    kde := { session := KdeSession.none, finishing := false, lastWrite := 0, ctxs := [] }, keys := [], ksCmd := none }

/-- Service and firmware state of a new part: both slots EMPTY, no fuse blown. -/
def SvcSt.reset : SvcSt :=
  { sessions := [], opens := (0, 0), tackBuf := [], slotA := FwSlot.none, slotB := FwSlot.none, recA := [], recB := [], staging := none,
    fuses := 0, otpKeyHash := List.replicate 48 0 }

/-- Power state at reset: the bring-up is due. -/
def PowerSt.reset : PowerSt :=
  { bringup := true, stalled := none, stopped := false, perstLow := false, porLow := false, thermtrip := false,
    feedSampled := false, hotStrides := 0, modRst := [], aonLost := true }

/-- The machine right after reset. -/
def State.reset : State :=
  { pending := [], sent := [], regs := [], shadow := [], hiLatch := [], loPend := [], clock := ClockSt.reset,
    pages := { initAt := [], gated := [], ready := [], drained := [] }, guard := GuardSt.reset, stud := StudSt.reset,
    tack := { copyA := [], copyB := [], inUse := [] }, front := FrontSt.reset, cist := CistSt.reset, cam := CamSt.reset,
    media := MediaSt.reset, tandem := TandemSt.reset, mem := MemSt.reset, svc := SvcSt.reset, power := PowerSt.reset,
    fresh := 0 }

end Sys2Proof.Machine
end

