-- ==== Sys2Proof/Machine/Ops.lean ====
section
/-! DEFINITION. The named operations that the meanings share: registers and their fields, events, free values, and
first-error capture (R16, R19, R60, R71). -/

namespace Sys2Proof.Machine

/-! ### Registers -/

/-- The value of register number `k`. -/
def State.rd (s : State) (k : Nat) : Word := (s.regs.find k).getD (resetOf k)

/-- Register number `k` takes the value `v`. The register file lists only what differs from reset. -/
def State.wr (s : State) (k : Nat) (v : Word) : State :=
  { s with regs := if v = resetOf k then s.regs.drop k else s.regs.put k v }

/-- The 64-bit value whose `_LO` half is register `k` (R15). -/
def State.rd64 (s : State) (k : Nat) : DWord := pair (s.rd k) (s.rd (k + 4))

/-- A 64-bit value takes both its halves as one (R15). -/
def State.wr64 (s : State) (k : Nat) (v : DWord) : State := (s.wr k (loHalf v)).wr (k + 4) (hiHalf v)

/-- A register as a number. -/
def State.rdN (s : State) (k : Nat) : Nat := (s.rd k).toNat

/-- A register takes a number (modulo 2 ^ 32). -/
def State.wrN (s : State) (k v : Nat) : State := s.wr k (BitVec.ofNat 32 v)

/-- The field of width `n` at bit `lo` of a register. -/
def State.fld (s : State) (k lo n : Nat) : Nat := Machine.fld (s.rd k) lo n

/-- A field of a register takes a value; the register's other bits stay. -/
def State.putFld (s : State) (k lo n v : Nat) : State := s.wr k (Machine.putFld (s.rd k) lo n v)

/-- One bit of a register. -/
def State.bit (s : State) (k i : Nat) : Bool := Machine.bit (s.rd k) i

/-- One bit of a register takes a value. -/
def State.putBit (s : State) (k i : Nat) (b : Bool) : State := s.putFld k i 1 b.toNat

/-- A counter rises by one and saturates (R19). -/
def State.count (s : State) (k : Nat) : State := s.wr k (incSat (s.rd k))

/-- A counter rises by `n` and saturates (R19). -/
def State.countBy (s : State) (k n : Nat) : State := s.wr k (addSat (s.rd k) n)

/-- A high-water register takes the larger value. -/
def State.highWater (s : State) (k v : Nat) : State := if s.rdN k < v then s.wrN k v else s

/-- The value a read returns of an RWS register: its shadow where there is one (R16). -/
def State.rdShadow (s : State) (k : Nat) : Word := (s.shadow.find k).getD (s.rd k)

/-! ### Time, output, free values -/

/-- The stride number (R29). -/
def State.now (s : State) : DWord := s.rd64 R.STR_NUM

/-- Calendar seconds (R39). -/
def State.calSec (s : State) : Nat := (s.rd64 R.CAL_SEC).toNat

/-- Strides passed since stride `t`. -/
def State.since (s : State) (t : DWord) : Nat := (s.now - t).toNat

/-- Something is sent. -/
def State.emit (s : State) (e : Emit) : State := { s with sent := e :: s.sent }

/-- The next free 32-bit value (assumption log 3). -/
def State.freeWord (s : State) : Word := Config.freeWord s.fresh

/-- The next free number (assumption log 3). -/
def State.freeNat (s : State) : Nat := Config.freeNat s.fresh

/-- The free value has been used. -/
def State.useFree (s : State) : State := { s with fresh := s.fresh + 1 }

/-- A message on MSI-X vector `v` of function `f`: a masked entry holds it in the pending bit array, as PCIe requires (R74). -/
def State.postMsix (s : State) (f v : Nat) : State :=
  if (f, v) ∈ s.front.msixMask then
    { s with front := { s.front with
        msixPend := if (f, v) ∈ s.front.msixPend then s.front.msixPend else (f, v) :: s.front.msixPend } }
  else s.emit (.msix f v)

/-- An MSI-X entry is masked, or unmasked: then a message that it held is sent (R74). -/
def State.msixControl (s : State) (f v : Nat) (mask : Bool) : State :=
  let rest := s.front.msixMask.filter fun e => decide (e ≠ (f, v))
  if mask then { s with front := { s.front with msixMask := (f, v) :: rest } }
  else
    let t := { s with front := { s.front with msixMask := rest, msixPend := s.front.msixPend.filter fun e => decide (e ≠ (f, v)) } }
    if (f, v) ∈ s.front.msixPend then t.emit (.msix f v) else t

/-! ### Pages -/

/-- PG_STATE.STATE of page `p`. -/
def State.pageState (s : State) (p : Nat) : PState := PState.ofCode (s.fld (R.PG_STATE p) 0 4)

/-- A page in SPARE or RETIRED accepts writes only to PG_EVENT, PG_EVENT_EN and PG_ERR_FIRST.VALID (R63). -/
def State.refuses (s : State) (p : Nat) : Bool := decide (s.pageState p = .spare) || decide (s.pageState p = .retired)

/-- An event of page `p` occurs: its PG_EVENT bit is set, whatever PG_EVENT_EN holds (R60). -/
def State.event (s : State) (p i : Nat) : State := s.putBit (R.PG_EVENT p) i true

/-- STATE of page `p` takes a value; STATE_CHANGED is set where it changes (R59). -/
def State.setPage (s : State) (p : Nat) (st : PState) : State :=
  if s.pageState p = st then s else (s.putFld (R.PG_STATE p) 0 4 st.code).event p 30

/-- Units in service of a multi-unit page, and all its units; 0 for a single-unit page. -/
def unitsServing (p : Nat) : Nat := (pageRowOf p).elim 0 fun r => if r.units = 0 then 0 else r.inService
/-- See unitsServing. -/
def unitsAll (p : Nat) : Nat := (pageRowOf p).elim 0 PageRow.units

/-- STATE of a unit of a multi-unit page, or of a page (R59, R78). -/
def State.unitSt (s : State) (p sub : Nat) : PState :=
  if unitsAll p = 0 then s.pageState p else PState.ofCode (s.fld (R.UNIT_WORD p sub) 8 4)

/-- STATE of a unit or page takes a value. -/
def State.setUnitSt (s : State) (p sub : Nat) (st : PState) : State :=
  if unitsAll p = 0 then s.setPage p st else s.putFld (R.UNIT_WORD p sub) 8 4 st.code

/-- Units of a multi-unit page that are in service: the logical units but those retired without a spare (R52, R191, R213, R218). -/
def State.unitsIn (s : State) (p : Nat) : Nat :=
  ((List.range (unitsServing p)).filter fun u => decide (s.unitSt p u ≠ .retired)).length

/-- DG_CAP.WR_CAP: 4 grains for each digest unit, or 8 for each compression unit, whichever is lower (R191). -/
def State.wrCap (s : State) : Nat := min (4 * s.unitsIn 90) (8 * s.unitsIn 92)

/-- CP_POOL_CLK: the clocks that the compression units share in a stride (R213). -/
def State.poolClk (s : State) : Nat := 5600 * s.unitsIn 92

/-- The page of a register number. -/
def pageOfReg (k : Nat) : Nat :=
  match pageAt (k % 0x1000000) with
  | none => 0
  | some (_, p) => p

/-- First-error capture (R71): the first error of a page is captured with its stride, later ones are counted. -/
def State.capture (s : State) (p code level sub : Nat) (injected : Bool := false) : State :=
  if s.bit (R.PG_ERR_FIRST p) 31 then s.count (R.PG_ERR_COUNT p)
  else
    ((s.wrN (R.PG_ERR_FIRST p)
        (2 ^ 31 + (level % 8) * 2 ^ 28 + injected.toNat * 2 ^ 27 + (sub % 256) * 2 ^ 16 + code % 65536)).wr64
      (R.PG_ERR_STRIDE p) s.now).event p 31

/-- The line of page `p` is high while PG_EVENT AND PG_EVENT_EN is non-zero. -/
def State.eventLine (s : State) (p : Nat) : Bool := decide (s.rd (R.PG_EVENT p) &&& s.rd (R.PG_EVENT_EN p) ≠ 0)

/-- The pages whose header register at offset `o` differs from reset, in page order. -/
def State.listed (s : State) (o : Nat) : List Nat :=
  s.regs.filterMap fun kv => if kv.1 % 0x1000 = o ∧ kv.1 < 0x1000000 then some (pageOfReg kv.1) else none

/-- The group and mask of page `p` (R73). -/
def State.route (s : State) (p : Nat) : Nat := s.fld (R.EVT_ROUTE (p / 4)) (8 * (p % 4)) 8

/-- The groups with a pending, unmasked page, one entry for each such page (R72, R73): a page whose PG_EVENT is not listed
has its line low. -/
def State.pendingGroups (s : State) : List Nat :=
  ((s.listed 0x014).filter s.eventLine).filterMap fun p =>
    if s.route p < 64 then some (s.route p) else none

/-- The block of page `p` dispatches no chunk: ENABLE = 0, FROZEN, or a state in which it does not work (R62, R64). Work that
arrives for it stays where it waits (assumption log 72). -/
def State.halted (s : State) (p : Nat) : Bool :=
  !s.bit (R.PG_CTRL p) 0 || s.bit (R.PG_STATE p) 10
    || decide (s.pageState p ≠ .init ∧ s.pageState p ≠ .run ∧ s.pageState p ≠ .degraded)

/-! ### Injected errors (R76, R77) -/

/-- An injection of a kind is armed in page `p` for an operation of a subunit. -/
def State.armed (s : State) (p kind sub : Nat) : Bool :=
  s.bit R.CHIP_INJ_EN 0 && s.bit (R.PG_INJECT p) 0 && decide (s.fld (R.PG_INJECT p) 16 8 = kind)
    && (match s.fld (R.PG_INJECT p) 1 2 with
        | 0 => true
        | 1 => decide (s.fld (R.PG_INJECT p) 8 8 = sub)
        | 2 => true
        | _ => false)

/-- The armed injection of page `p` fires: ARM clears when the last one has fired. COUNT shows the operations left (DESIGN CHOICE,
assumption log 71). -/
def State.fired (s : State) (p : Nat) : State :=
  let n := s.fld (R.PG_INJECT p) 24 8
  if s.fld (R.PG_INJECT p) 1 2 = 2 ∧ 1 < n then s.putFld (R.PG_INJECT p) 24 8 (n - 1)
  else s.putBit (R.PG_INJECT p) 0 false

/-- Fire the injection if it is armed for this operation: the state after, and whether it fired. -/
def State.inject (s : State) (p kind sub : Nat) : State × Bool :=
  if s.armed p kind sub then (s.fired p, true) else (s, false)

end Sys2Proof.Machine
end

