-- ==== Sys2Proof/Machine/Record.lean ====
section
/-! DEFINITION. Studbook records (R470-R474, R477), their payloads (R472, R473), the diagnostic log (R479), studbook
flushes (R474) and lifetime saves (R45, R46). -/

namespace Sys2Proof.Machine

/-! ### The diagnostic log -/

/-- A record of 64 bytes or less goes into the next slot of the diagnostic log ring while GD_DIAG_CTRL.EN = 1; a full ring
loses it (R479, R139). -/
def State.diagCopy (s : State) (r : StbRec) : State :=
  if ¬ s.bit R.GD_DIAG_CTRL 0 ∨ 64 < r.len then s
  else
    let size := s.rdN R.GD_DIAG_SIZE
    let prod := s.rdN R.GD_DIAG_PROD
    if (prod + 1) % size = s.rdN R.GD_DIAG_CONS % size then (s.count R.GD_DIAG_LOST).event 4 6
    else ((s.emit (.diag prod r)).wrN R.GD_DIAG_PROD ((prod + 1) % size)).event 4 5

/-! ### Records -/

/-- Where the next record begins: a record never crosses a 64 KiB boundary (R470). -/
def recStart (endOff len : Nat) : Nat :=
  if 65536 < endOff % 65536 + len then (endOff / 65536 + 1) * 65536 else endOff

/-- The last offset a record other than FULL may end at (R477). -/
def stbLimit : Nat := 268435392

/-- Offset up to which every device in service holds the studbook (R485). -/
def State.flushedTo (s : State) : Nat :=
  if s.stud.dev0Ok then (if s.stud.dev1Ok then min s.stud.dev0 s.stud.dev1 else s.stud.dev0) else s.stud.dev1

/-- A flush starts, or follows the one under way (R474). -/
def State.startFlush (s : State) : State :=
  if s.bit R.STB_STATUS 0 then { s with stud := { s.stud with flushAgain := true } }
  else
    ({ s with stud := { s.stud with flushTo := some s.stud.endOff } }).putBit R.STB_STATUS 0 true

/-- The record of a type and payload that the studbook would append now (R471). -/
def State.mkRec (s : State) (typ sev src : Nat) (payload : List Byte) : StbRec :=
  { off := recStart s.stud.endOff (28 + payload.length), len := 28 + payload.length, typ := typ,
    seq := s.stud.lastSeq + 1, stride := s.now, cal := s.calSec, sev := sev, src := src, payload := payload }

/-- A record that fits is built in the buffer, copied to the diagnostic log, and flushed once 8 KiB is unflushed (R474);
one that does not fit is counted in STB_DROPPED and still goes to the diagnostic log (R477). The flag says that this record
was the first refused one. -/
def State.appendRec (s : State) (typ sev src : Nat) (payload : List Byte) : State × Bool :=
  let r := s.mkRec typ sev src payload
  if s.stud.full ∨ stbLimit < r.off + r.len then
    let s1 := (s.count R.STB_DROPPED).diagCopy r
    if s.stud.full then (s1, false)
    else
      let f : StbRec := { r with off := stbLimit, len := 36, typ := 0x00FE, sev := 0, src := 0xFF,
                                 payload := leBytes 4 s.stud.lastSeq ++ leBytes 4 0 }
      let s2 := { s1 with stud := { s1.stud with
        recs := s1.stud.recs ++ [f], endOff := stbLimit + 36, lastSeq := s1.stud.lastSeq + 1, full := true } }
      ((s2.putBit R.STB_STATUS 2 true).event 5 2, true)
  else
    let s1 := { s with stud := { s.stud with
      recs := s.stud.recs ++ [r], endOff := r.off + r.len, lastSeq := r.seq } }
    let s2 := s1.diagCopy r
    let s3 := if 8192 ≤ s2.stud.endOff - s2.flushedTo then s2.startFlush else s2
    (s3, false)

/-- The payload of a FAULT record (R473). -/
def faultPayload (code sub : Nat) (injected escalated first : Bool) (fromLevel phys count ref : Nat) : List Byte :=
  leBytes 2 code ++ leBytes 1 sub ++ leBytes 1 (injected.toNat + 2 * escalated.toNat + 4 * first.toNat)
    ++ leBytes 1 fromLevel ++ leBytes 1 phys ++ leBytes 2 0 ++ leBytes 4 count ++ leBytes 4 ref

/-- The payload of a REMOUNT record (R473). -/
def remountPayload (kind logical old new trigger result strides faultSeq : Nat) : List Byte :=
  leBytes 1 kind ++ leBytes 1 logical ++ leBytes 1 old ++ leBytes 1 new ++ leBytes 1 trigger ++ leBytes 1 result
    ++ leBytes 2 (min strides 65535) ++ leBytes 4 faultSeq

/-- The physical instance or unit that serves a page's unit now (R78, R473). -/
def State.physOf (s : State) (p sub : Nat) : Nat :=
  match pageRowOf p with
  | none => 0
  | some r => if sub < r.units then s.fld (R.UNIT_WORD p sub) 0 8 else s.fld (R.PG_SPARE p) 0 8

/-! ### Lifetime saves -/

/-- The lifetime counters as a slot (R46). -/
def State.lifeSlot (s : State) (seq : Nat) : LifeSlot :=
  { seq := seq, stride := s.now, cal := s.calSec, pwrStrides := s.rd64 R.PWR_STRIDES, pwrCycles := s.rd R.PWR_CYCLES,
    resets := s.rd R.RESETS, remounts := s.rd R.REMOUNTS, tjMax := s.rd R.TJ_MAX_SEEN,
    tempBand := (List.range 32).map fun i => s.rd (R.TEMP_BAND i),
    modWr := (List.range 24).map fun i => s.rd64 (R.MOD_WR i) }

/-- Bytes 0 to 4,091 of a lifetime slot (R46). -/
def LifeSlot.body (l : LifeSlot) : List Byte :=
  ascii "LIFE" ++ leBytes 4 l.seq ++ leBytes 8 l.stride.toNat ++ leBytes 6 l.cal ++ leBytes 2 0 ++ leBytes 8 l.pwrStrides.toNat
    ++ leBytes 4 l.pwrCycles.toNat ++ leBytes 4 l.resets.toNat ++ leBytes 4 l.remounts.toNat ++ leBytes 2 l.tjMax.toNat ++ leBytes 2 0
    ++ (l.tempBand.map fun w => leBytes 4 w.toNat).flatten ++ (l.modWr.map fun d => leBytes 8 d.toNat).flatten
    ++ List.replicate 3724 0

/-- A lifetime slot as the device holds it: the body and its CRC-32C (R46). -/
def LifeSlot.image (l : LifeSlot) : List Byte := l.body ++ leBytes 4 (crc32c l.body).toNat

/-- The lifetime slot that 4,096 bytes hold, if they are one with a valid CRC (R45, R46). -/
def LifeSlot.parse (b : List Byte) : Option LifeSlot :=
  if b.length = 4096 ∧ b.take 4 = ascii "LIFE" ∧ leAt b 4092 4 = (crc32c (b.take 4092)).toNat then
    some { seq := leAt b 4 4, stride := BitVec.ofNat 64 (leAt b 8 8), cal := leAt b 16 6, pwrStrides := BitVec.ofNat 64 (leAt b 24 8),
           pwrCycles := BitVec.ofNat 32 (leAt b 32 4), resets := BitVec.ofNat 32 (leAt b 36 4),
           remounts := BitVec.ofNat 32 (leAt b 40 4), tjMax := BitVec.ofNat 32 (leAt b 44 2),
           tempBand := (List.range 32).map fun i => BitVec.ofNat 32 (leAt b (48 + 4 * i) 4),
           modWr := (List.range 24).map fun i => BitVec.ofNat 64 (leAt b (176 + 8 * i) 8) }
  else none

/-- The valid slot of highest SEQ on a device, with its index (R45). -/
def bestLife (m : Amap (List Byte)) : Option (Nat × LifeSlot) :=
  m.foldl (fun b p =>
    match LifeSlot.parse p.2, b with
    | none, b => b
    | some l, none => some (p.1, l)
    | some l, some q => if q.2.seq < l.seq then some (p.1, l) else some q) none

/-- The newer of two slots (R45). -/
def newerLife (a b : Option (Nat × LifeSlot)) : Option (Nat × LifeSlot) :=
  match a, b with
  | none, b => b
  | a, none => a
  | some x, some y => if x.2.seq < y.2.seq then some y else some x

/-- A lifetime save starts: the next slot in rotation takes the counters, with SEQ one more (R45, R46). A save asked for
during a save is met by the one under way. -/
def State.startLifeSave (s : State) : State :=
  match s.clock.lifeSave with
  | some _ => s
  | none =>
    let last := newerLife (bestLife s.clock.lifeA) (bestLife s.clock.lifeB)
    let slot := match last with | none => 0 | some (i, _) => (i + 1) % 1024
    let seq := match last with | none => 1 | some (_, l) => l.seq + 1
    { s with clock := { s.clock with lifeSave := some (slot, s.lifeSlot seq) } }

end Sys2Proof.Machine
end

