-- ==== Sys2Proof/Machine/Fence.lean ====
section
/-! DEFINITION. What an L4 fault does within its stride (R379, R464, R499), and the end of staging. What the next commit
point adds is in Roles. -/

namespace Sys2Proof.Machine

/-- STATE, TRIES and SEC_EPOCH of a slot record, and its BUILD (R502, R506). -/
def State.fwSlotShow (s : State) (b : Bool) (r : FwSlot) : State :=
  (s.wrN (R.FW_SLOT b.toNat) (r.st.code + r.tries % 4 * 2 ^ 3 + r.secEpoch % 65536 * 2 ^ 16)).wrN (R.FW_SLOT_BUILD b.toNat)
    r.build

/-- The bytes of a slot record: MAGIC "SLOT" to RSVD, and their CRC-32C (R502). -/
def FwSlot.record (r : FwSlot) : List Byte :=
  let b := ascii "SLOT" ++ leBytes 4 r.seq ++ leBytes 1 r.st.code ++ leBytes 1 r.tries ++ leBytes 2 r.floorTarget ++ leBytes 4 r.build
    ++ leBytes 2 r.secEpoch ++ List.replicate 10 0
  b ++ leBytes 4 (crc32c b).toNat

/-- A slot as its record tells of it: one with an invalid CRC counts as EMPTY (R502). -/
def FwSlot.ofRecord (b header body : List Byte) : FwSlot :=
  if b.take 4 = ascii "SLOT" ∧ leAt b 28 4 = (crc32c (b.take 28)).toNat then
    { seq := leAt b 4 4, st := FwState.ofCode (leAt b 8 1), tries := leAt b 9 1, floorTarget := leAt b 10 2, build := leAt b 12 4,
      secEpoch := leAt b 16 2, header := header, body := body }
  else FwSlot.none

/-- A slot's record. -/
def State.fwSlot (s : State) (b : Bool) : FwSlot := if b then s.svc.slotB else s.svc.slotA

/-- A slot record is rewritten (R502). -/
def State.setFwSlot (s : State) (b : Bool) (r : FwSlot) : State :=
  ({ s with svc := if b then { s.svc with slotB := r, recB := r.record } else { s.svc with slotA := r, recA := r.record } }).fwSlotShow
    b r

/-- Staging ends with a result: FW_STAGE shows it, and activity FW_UPDATE ends (R499, R506). -/
def State.stagingEnd (s : State) (result : Nat) : State :=
  let s1 := { s with
    svc := { s.svc with staging := none },
    guard := { s.guard with acts := s.guard.acts.filter fun a => decide (a.code ≠ 11) } }
  (s1.putBit R.FW_STAGE 0 false).putFld R.FW_STAGE 8 8 result

/-- Staging in progress is abandoned with ABORTED; the slot is left EMPTY (R499). -/
def State.stagingAbort (s : State) : State :=
  match s.svc.staging with
  | none => s
  | some g => (s.setFwSlot g.slotB FwSlot.none).stagingEnd 0x0D

/-- The head fences itself (R379): HEAD_OK goes low, the STRIDE_SYNC driver stops, injection is disabled (R76), no beat and no
module command is sent, no remount starts until the next reset (R464), staging is abandoned (R499). -/
def State.fenceHead (s : State) : State :=
  let s1 := s.stagingAbort
  let s2 := ((s1.putBit R.RN_STATUS 4 false).putBit R.STR_STATUS 3 false).wrN R.CHIP_INJ_EN 0
  { s2 with tandem := { s2.tandem with fencing := true }, guard := { s2.guard with noRemount := true } }

end Sys2Proof.Machine
end

