-- ==== Sys2Proof/Machine/Ladder.lean ====
section
/-! DEFINITION. Placing a fault on the ladder (R71, R453, R454, R457, R458): ONE operation, `State.raise`, that every
meaning uses when the chip detects an error. -/

namespace Sys2Proof.Machine

/-- The number under which a page and code are remembered since power-on (R453). -/
def firstKey (p code : Nat) : Nat := p * 65536 + code

/-- Is an L0 or L1 fault the first of its page and code since power-on, within the 4,096 pairs tracked (R453)? -/
def State.isFirst (s : State) (p code : Nat) : Bool :=
  decide (firstKey p code ∉ s.guard.firsts) && decide (s.guard.firsts.length < 4096)

/-- Change the guard's own state. -/
def State.setGuard (s : State) (g : GuardSt) : State := { s with guard := g }

/-- The ladder queue takes a value. -/
def State.setLadder (s : State) (l : List LadEntry) : State := { s with guard := { s.guard with ladder := l } }

/-- An L4 fault acts at once: the head fences itself (R379, R454). An L5 fault starts the Spillway (R162, R454). Both save
the lifetime counters (R45). -/
def State.actNow (s : State) (level : Nat) : State :=
  if level = 4 then s.startLifeSave.fenceHead
  else
    let s1 := s.startLifeSave
    { s1 with cist := { s1.cist with haltReq := true } }

/-- A FAULT record (R453, R473): every fault at L2 or above, and the first of a page and code at L0 or L1; a fault that
is not recorded still goes to the diagnostic log (R479). The flag says that the studbook became full. -/
def State.faultRecord (s : State) (p code level sub : Nat) (injected escalated : Bool) (fromLevel count ref : Nat) :
    State × Bool :=
  let first := decide (level ≤ 1) && s.isFirst p code
  let pay := faultPayload code sub injected escalated first fromLevel (s.physOf p sub) count ref
  if level ≤ 1 ∧ first = false then
    ((s.diagCopy { s.mkRec 0x0002 level p pay with seq := s.freeNat }).useFree, false)
  else
    let s1 := if first then s.setGuard { s.guard with firsts := firstKey p code :: s.guard.firsts } else s
    s1.appendRec 0x0002 level p pay

/-- A fault at L2 or above starts a studbook flush and sets L2_PLUS (R474, R484). -/
def State.l2Plus (s : State) (level : Nat) : State := if 2 ≤ level then (s.startFlush).event 4 0 else s

/-- A fault is counted at its level (R453). -/
def State.levelCount (s : State) (level : Nat) : State := s.count (R.GD_LEVEL_COUNT level)

/-- Drop the newest L0 or L1 entry of the queue, if there is one (R458). -/
def dropNewestLow (l : List LadEntry) : Option (List LadEntry) :=
  if l.any fun e => decide (e.level ≤ 1) then
    let r := l.reverse
    let pre := r.takeWhile fun e => decide (1 < e.level)
    let post := (r.dropWhile fun e => decide (1 < e.level)).drop 1
    some (pre ++ post).reverse
  else none

/-- An L0 to L3 fault enters the queue of 64 (R454, R458). -/
def State.enqueue (s : State) (e : LadEntry) : State :=
  if e.level ≤ 1 ∧ s.guard.ladder.any
      (fun x => decide (x.page = e.page ∧ x.sub = e.sub ∧ x.code = e.code ∧ x.st = .pending)) then
    s.setLadder (s.guard.ladder.map fun x =>
      if x.page = e.page ∧ x.sub = e.sub ∧ x.code = e.code ∧ x.st = .pending then
        { x with count := min (x.count + 1) 65535 } else x)
  else if s.guard.ladder.length < 64 then s.setLadder (s.guard.ladder ++ [e])
  else if e.level ≤ 1 then (s.count R.GD_OVERFLOW).event 4 1
  else
    match dropNewestLow s.guard.ladder with
    | some l => ((s.setLadder (l ++ [e])).count R.GD_OVERFLOW).event 4 1
    | none =>
      let s1 := ((s.capture 4 0x0100 4 0).levelCount 4).event 4 2
      let s2 := (s1.faultRecord 4 0x0100 4 0 false true e.level 0 e.recSeq).1
      ((s2.count R.GD_ESCALATIONS).l2Plus 4).actNow 4

/-- The entry of a unit that is being handled: its entry at L2 or L3 is in HANDLING or PREEMPTED (R457). -/
def State.handledEntry (s : State) (p sub : Nat) : Option LadEntry :=
  s.guard.ladder.find? fun e => decide (e.page = p ∧ e.sub = sub ∧ 2 ≤ e.level ∧ e.level ≤ 3 ∧ e.st ≠ .pending)

/-- An entry under handling rises one level; it keeps the code, page and SUBUNIT of its fault (R457),
and an injected fault that raises it leaves its mark (R77). -/
def State.escalate (s : State) (e : LadEntry) (injected : Bool := false) : State :=
  let lvl := e.level + 1
  let s1 := (((s.levelCount lvl).count R.GD_ESCALATIONS).event 4 2)
  let s2 := (s1.faultRecord e.page e.code lvl e.sub injected true e.level e.count e.recSeq).1
  let s3 := s2.l2Plus lvl
  if lvl ≤ 3 then
    s3.setLadder (s3.guard.ladder.map fun x =>
      if x.page = e.page ∧ x.sub = e.sub ∧ x.code = e.code ∧ x.st = e.st then
        { x with level := lvl, escalated := true, step := 0 } else x)
  else
    (s3.setLadder (s3.guard.ladder.filter fun x =>
      decide (¬ (x.page = e.page ∧ x.sub = e.sub ∧ x.code = e.code)))).actNow 4

/-- A fault that the studbook's filling places once, FULL at L2 (R477): its own record is refused. -/
def State.placeFull (s : State) (full : Bool) : State :=
  if full then
    let s1 := (s.capture 5 0x0102 2 0).levelCount 2
    let s2 := (s1.faultRecord 5 0x0102 2 0 false false 2 0 0).1
    (s2.l2Plus 2).enqueue
      { page := 5, sub := 0, code := 0x0102, level := 2, first := s.now, count := 0, st := .pending,
        escalated := false, recSeq := 0, step := 0 }
  else s

/-- A new fault is counted, recorded and placed at its own level (R453, R454, R458). -/
def State.place (s : State) (p code level sub : Nat) (injected : Bool) : State :=
  let r := (s.levelCount level).faultRecord p code level sub injected false level 0 0
  let s2 := (r.1.placeFull r.2).l2Plus level
  if 4 ≤ level then s2.actNow level
  else s2.enqueue { page := p, sub := sub, code := code, level := level, first := s.now, count := 0, st := .pending,
                    escalated := false, recSeq := r.1.stud.lastSeq, step := 0, flushTo := s2.stud.endOff }

/-- Does a fault repeat a pending L0 or L1 entry, into which it merges (R454)? -/
def State.repeats (s : State) (p code level sub : Nat) : Bool :=
  decide (level ≤ 1) && s.guard.ladder.any
    fun x => decide (x.page = p ∧ x.sub = sub ∧ x.code = code ∧ x.st = .pending)

/-- An error is detected in page `p`: it is captured (R71) and placed on the ladder at its level (R453), except that a new
fault of a unit being handled raises the unit's entry one level instead (R457). -/
def State.raise (s : State) (p code level sub : Nat) (injected : Bool := false) : State :=
  let s1 := s.capture p code level sub injected
  match s1.handledEntry p sub with
  | none => s1.place p code level sub injected
  | some e =>
    if level ≤ e.level ∧ s1.repeats p code level sub = false then s1.escalate e injected
    else s1.place p code level sub injected

/-- The common kinds of an injection armed for an operation of block `p` (R76, R77, R545): KIND 0x01 is placed as a corrected error, at L1;
KIND 0x02 to 0x04 at a level that is not stated. The codes are not stated either (free values, assumption log 3). A block whose chapter
gives a kind its own meaning takes it there. -/
def State.operate (s : State) (p sub : Nat) : State :=
  if s.armed p 0x01 sub then (s.fired p).useFree.raise p (s.freeNat % 65536) 1 sub true
  else if s.armed p 0x02 sub || s.armed p 0x03 sub || s.armed p 0x04 sub then
    let s1 := (s.fired p).useFree
    s1.useFree.raise p (s.freeNat % 65536) (s1.freeNat % 4) sub true
  else s

/-- A record of a type is appended to the studbook (R471, R472). -/
def State.record (s : State) (typ sev src : Nat) (payload : List Byte) : State :=
  let r := s.appendRec typ sev src payload
  r.1.placeFull r.2

/-- A write is refused: WRITE_DISCARDED (R70). -/
def State.writeDiscarded (s : State) (p : Nat) : State := s.raise p 0x0004 0 0

end Sys2Proof.Machine
end

