-- ==== Sys2Proof/Machine/Torlux.lean ====
section
/-! DEFINITION. Records on the Torlux link: their classes and lengths, credits and flits (R244, R363, R365 to R367). -/

namespace Sys2Proof.Machine

/-- The Torlux link is ACTIVE (R364): LSTATE 3 (R259). -/
def State.tlActive (s : State) : Bool := decide (s.fld R.TL_STATUS 0 3 = 3)

/-- The credit class of a record: 0 CTRL, 1 MIRROR, 2 FWD, 3 BULK (R363, R366). -/
def TlRec.cls : TlRec → Nat
  | .mirrorWrite .. => 1
  | .fwdCmd .. | .fwdData .. => 2
  | .resyncData .. => 3
  | _ => 0

/-- TYPE of a record (R366); the request for an entry of the mirror half has none there and goes as 0 (DESIGN CHOICE, assumption log 100). -/
def TlRec.typ : TlRec → Nat
  | .beat .. => 0x01 | .mirrorWrite .. => 0x02 | .mirrorAck _ => 0x03 | .mirrorNak _ => 0x04 | .mirrorRelease _ => 0x05
  | .resyncData .. => 0x06 | .resyncDone _ => 0x07 | .fwdCmd .. => 0x10 | .fwdAccept _ => 0x11 | .fwdData .. => 0x12
  | .fwdCpl .. => 0x13 | .refDelta _ => 0x20 | .refAck _ => 0x21 | .subst .. => 0x22 | .closed _ => 0x23 | .transfer .. => 0x24
  | .leave => 0x25 | .entryFetch _ => 0

/-- TAG of a record: a reply is matched to its request by the number of the forwarded command; 0 where none applies (R365). -/
def TlRec.tag : TlRec → Nat
  | .fwdCmd id .. | .fwdAccept id | .fwdData id .. | .fwdCpl id .. => id % 65536
  | _ => 0

/-- Protection information as it is sent: guard, application tag, reference tag (R382). -/
def piBytes (l : List (Nat × Nat × Nat)) : List Byte := l.flatMap fun x => beBytes 2 x.1 ++ beBytes 2 x.2.1 ++ beBytes 4 x.2.2

/-- The body of a record (R366); sectors of a forwarded command come before their protection information (DESIGN CHOICE, assumption
log 100). -/
def TlRec.body : TlRec → List Byte
  | .beat _ b => b
  | .mirrorWrite _ b | .resyncData _ b => b
  | .mirrorAck c | .mirrorNak c | .resyncDone c | .refAck c | .closed c | .entryFetch c => leBytes 8 c
  | .mirrorRelease l => leBytes 4 l.length ++ l.flatMap (leBytes 8)
  | .fwdCmd id _ fn queue vol => leBytes 64 (Config.fwdCommand id).toNat ++ leBytes 2 fn ++ leBytes 2 queue ++ leBytes 4 vol
  | .fwdAccept _ => leBytes 2 0x4001 ++ leBytes 2 0
  | .fwdData _ _ _ d pi => d ++ piBytes pi
  | .fwdCpl _ st tsn => leBytes 2 st ++ leBytes 4 tsn ++ leBytes 2 0
  | .refDelta l => leBytes 4 l.length ++ l.flatMap fun x => leBytes 8 x.addr ++ leBytes 4 (toField 32 x.delta) ++ leBytes 4 0 ++ leBytes 8 x.tseq
  | .subst pool pad m port serial => leBytes 1 pool ++ leBytes 1 pad ++ leBytes 1 m ++ leBytes 1 port ++ leBytes 20 serial
  | .transfer pad es roots => leBytes 4 pad ++ ((List.range 24).flatMap fun i => leBytes 4 ((es[i]?).getD 0))
      ++ (List.range 16).flatMap fun i => leBytes 8 ((roots[i]?).getD 0)
  | .leave => []

/-- Bytes of a record with its header of 16 bytes, a multiple of 4 (R365, R366). -/
def TlRec.bytes (r : TlRec) : Nat := 16 + ceilDiv r.body.length 4 * 4

/-- A record as it is sent: TYPE, TAG, LEN and the stride at which it was built, then its body (R365). -/
def TlRec.image (r : TlRec) (built : DWord) : List Byte :=
  leBytes 1 r.typ ++ leBytes 1 0 ++ leBytes 2 r.tag ++ leBytes 4 r.bytes ++ leBytes 8 built.toNat ++ r.body
    ++ List.replicate (r.bytes - 16 - r.body.length) 0

/-! ### Flits and credits of one link (R242, R244) -/

/-- The credits of a class: unlimited where none is named (R243, R244). -/
def FlitLink.credit (l : FlitLink) (cls : Nat) : Option Nat := (l.credits[cls]?).getD none

/-- The credits of a class allow `n` more units. -/
def FlitLink.has (l : FlitLink) (cls n : Nat) : Bool := (l.credit cls).elim true fun c => decide (n ≤ c)

/-- Take `n` credits of a class. -/
def FlitLink.take (l : FlitLink) (cls n : Nat) : FlitLink :=
  { l with credits := l.credits.mapIdx fun i c => if i = cls then c.map (· - n) else c }

/-- Sequenced flits that no acknowledgement has covered. -/
def FlitLink.unacked (l : FlitLink) : Nat := (l.txNext + 4096 - l.txAcked) % 4096

/-- Sequenced flits enter the replay buffer while it has room; the rest wait, and NULL flits are sent (R242). The number sent
now comes back. -/
def FlitLink.push (l : FlitLink) (n room : Nat) : FlitLink × Nat :=
  let all := l.waiting + n
  let k := min all (room - l.unacked)
  ({ l with waiting := all - k, txNext := (l.txNext + k) % 4096 }, k)

/-- Flits of a packet or record: it begins in a flit of its own (R241; DESIGN CHOICE, assumption log 53). -/
def flitsFor (bytes : Nat) : Nat := ceilDiv bytes 500

/-- The last `k` sequenced flits of a link are sent: counted, one of them with an injected CRC error (R241, R261, R397). -/
def State.flitsSent (s : State) (page reg : Nat) (l : FlitLink) (k kind : Nat) : State :=
  if k = 0 then s
  else
    let s1 := (s.countBy reg k).emit (.flits page ((l.txNext + 4096 - k) % 4096) k kind (l.returned.map fun n => n % 16384))
    let r := s1.inject page 0x05 (s.fld (R.PG_INJECT page) 8 8)
    if r.2 then r.1.emit (.badCrc page) else r.1

/-- Units of a class are returned to the far end as the buffer space they took frees (R244). -/
def FlitLink.free (l : FlitLink) (cls n : Nat) : FlitLink :=
  { l with returned := l.returned.mapIdx fun i c => if i = cls then c + n else c }

/-! ### Sending -/

/-- The Torlux link takes a value. -/
def State.setTl (s : State) (l : FlitLink) : State := { s with tandem := { s.tandem with tl := l } }

/-- The first record of a class that has its credits (R367). -/
def State.tlFirst (s : State) (c : Nat) : Option (DWord × TlRec) :=
  (s.tandem.tlWait.find? fun r => decide (r.2.cls = c)).bind fun r =>
    if s.tandem.tl.has c (ceilDiv r.2.bytes 64) then some r else none

/-- The record that goes next: in the order in which the classes are served, but that BULK records that wait get one flit in 8 (R367). -/
def State.tlPick (s : State) : Option (DWord × TlRec) :=
  match s.tlFirst 3 with
  | some r => if 7 ≤ s.tandem.bulkOwed then some r else (List.range 4).findSome? s.tlFirst
  | none => (List.range 3).findSome? s.tlFirst

/-- What BULK is owed after a record of `k` flits: nothing while none of it waits (R367). -/
def State.bulkAfter (s : State) (r : TlRec) (k : Nat) : Nat :=
  if (s.tandem.tlWait.any fun x => decide (x.2.cls = 3)) = false then 0
  else if r.cls = 3 then s.tandem.bulkOwed - 7 * k else s.tandem.bulkOwed + k

/-- Waiting records are sent while the link is ACTIVE and they have credits (R244, R367); from the start of the Spillway none is (R165). -/
def State.tlPump (s : State) : Nat → State
  | 0 => s
  | n + 1 =>
    match (if s.tlActive && !s.bit R.CIST_STATUS 3 then s.tlPick else none) with
    | none => s
    | some (n0, r) =>
      let (l, k) := (s.tandem.tl.take r.cls (ceilDiv r.bytes 64)).push (flitsFor r.bytes) 2048
      let s1 := { s with tandem := { s.tandem with
        tl := l, tlWait := s.tandem.tlWait.erase (n0, r), bulkOwed := s.bulkAfter r (flitsFor r.bytes) } }
      ((s1.flitsSent 151 R.TL_FLITS_TX l k 1).emit (.tl r (r.image n0))).tlPump n

/-- A record that is kept until the link is there: a substitution, of which the partner must have a copy (R347). -/
def TlRec.keeps : TlRec → Bool
  | .subst .. => true
  | _ => false

/-- A record is given to the Torlux link: it goes at once, or waits for credits or a retraining link. With the link DOWN it is
not sent (assumption log 54), nor from the start of the Spillway (R165). -/
def State.tlSend (s : State) (r : TlRec) : State :=
  let st := s.fld R.TL_STATUS 0 3
  if s.bit R.CIST_STATUS 3 = false ∧ (st = 3 ∨ st = 4 ∨ r.keeps) then
    let s1 := { s with tandem := { s.tandem with tlWait := s.tandem.tlWait ++ [(s.now, r)] } }
    s1.tlPump s1.tandem.tlWait.length
  else s

end Sys2Proof.Machine
end

