-- ==== Sys2Proof/Machine/Operands.lean ====
section
/-! DEFINITION. The operand forms of register accesses: which value a selector register picks (the Bank column of the
register tables), function windows (R82, R95), and registers that are views of other state. -/

namespace Sys2Proof.Machine

/-! ### Function windows -/

/-- The number of a window register of function `f`. -/
@[reducible] def winKey (f o : Nat) : Nat := f * 65536 + o

/-- A window register of function `f` (0 where nothing is written); `winRead` says what a read of it returns. -/
def State.win (s : State) (f o : Nat) : Word := (s.front.win.find (winKey f o)).getD 0

/-- A window register takes a value. -/
def State.wrWin (s : State) (f o : Nat) (v : Word) : State :=
  { s with front := { s.front with
      win := if v = 0 then s.front.win.drop (winKey f o) else s.front.win.put (winKey f o) v } }

/-- One bit of a window register takes a value. -/
def State.winBit (s : State) (f o i : Nat) (b : Bool) : State := s.wrWin f o (Machine.putBit (s.win f o) i b)

/-- Function `f`; an absent function is not exposed. -/
def State.fn (s : State) (f : Nat) : Fn :=
  s.front.fns.getD f
    { exposed := false, legacy := false, qpQuota := 0, cistQuota := 0, msix := 0, ns := [], sqs := [], cqs := [],
      aers := [], feats := [], ps := 0, psNext := none, psOper := 0, errLog := [], leave := .none, resetReq := false,
      flrWait := false, removeReq := none, doneNew := false }

/-- Change function `f`. -/
def State.setFn (s : State) (f : Nat) (x : Fn) : State := { s with front := { s.front with fns := s.front.fns.put f x } }

/-- FN_STATE codes (R85). -/
def fnAbsent : Nat := 0
def fnDisabled : Nat := 1
def fnActive : Nat := 2
def fnResetting : Nat := 3
def fnRemoving : Nat := 4

/-- FN_STATE.STATE of function `f`. -/
def State.fnState (s : State) (f : Nat) : Nat := s.fld (R.FN_STATE f) 0 3

/-- FN_STATE.GEN of function `f` (R88). -/
def State.fnGen (s : State) (f : Nat) : Nat := s.fld (R.FN_STATE f) 16 16

/-- FN_STATE.STATE takes a value. -/
def State.setFnState (s : State) (f st : Nat) : State := s.putFld (R.FN_STATE f) 0 3 st

/-- The generation after `g`: from 0xFFFF it wraps to 0x0001 (R88). -/
def genNext (g : Nat) : Nat := if g = 0xFFFF then 1 else g + 1

/-- GEN of function `f` increments (R88). -/
def State.bumpGen (s : State) (f : Nat) : State := s.putFld (R.FN_STATE f) 16 16 (genNext (s.fnGen f))

/-- A Weir subject has an entry: a network tenant, or a function that is ACTIVE, RESETTING or REMOVING (R94). -/
def State.hasWeir (s : State) (subj : Nat) : Bool :=
  if subj ≤ 248 then decide (2 ≤ s.fnState subj ∧ s.fnState subj ≤ 4) else decide (256 ≤ subj ∧ subj ≤ 511)

/-! ### Host commands -/

/-- The host command of a number. -/
def State.cmd (s : State) (n : Nat) : Option HostCmd := s.front.cmds.find n

/-- A host command takes a new value. -/
def State.setCmd (s : State) (n : Nat) (c : HostCmd) : State :=
  { s with front := { s.front with cmds := s.front.cmds.put n c } }

/-- A host command leaves the chip. -/
def State.dropCmd (s : State) (n : Nat) : State := { s with front := { s.front with cmds := s.front.cmds.drop n } }

/-- The function whose queue a command came from. -/
def CmdSrc.fn : CmdSrc → Option Nat
  | .legacy f _ => some f
  | .nvme f _ _ => some f
  | _ => none

/-! ### Registers selected by another register -/

/-- The bank that the selector registers pick now. -/
def State.bankOf (s : State) : Bank → Nat
  | .one => 0
  | .entry => s.fld R.GD_Q_SEL 0 6
  | .function => s.fld R.FN_SEL 0 8
  | .kind => s.fld R.RM_INV_SEL 0 4
  | .actPool => s.fld R.GD_ACT_SEL 0 4
  | .ftlPool => s.fld R.FTL_POOL_SEL 0 4
  | .spPool => s.fld R.SP_POOL_SEL 0 4
  | .wearPool => s.fld R.WR_POOL_SEL 0 4
  | .subject => s.fld R.WEIR_SEL 0 9
  | .volume => s.fld R.DD_VOL_SEL 0 24
  | .group => s.fld R.RP_GROUP_SEL 0 6
  | .timing => 0

/-- The DDRC page of a BAR offset. -/
def ddrcPageOf (off : Nat) : Option Nat :=
  if 0x400000 ≤ off ∧ off < 0x408000 then some ((off - 0x400000) / 0x1000) else none

/-- The logical CAM bank of a BAR offset in a CAM page. -/
def camPageOf (off : Nat) : Option Nat :=
  if 0x210000 ≤ off ∧ off < 0x221000 then some ((off - 0x210000) / 0x1000) else none

/-- The first logical bank of a group (R174). -/
def camGroupFirst : Nat → Nat
  | 0 => 0 | 1 => 2 | 2 => 3 | _ => 16

/-- The BAR offset at which a register has its one home: the mask sets are shared by a CAM group (R188). -/
def homeOff (off : Nat) : Nat :=
  match camPageOf off with
  | some n => if 0x100 ≤ off % 0x1000 ∧ off % 0x1000 < 0x190
              then 0x210000 + 0x1000 * camGroupFirst (camGroup n) + off % 0x1000 else off
  | none => off

/-- FLT registers are RSVD outside the page of CAM2 (R188), and the DC_PORT registers outside DDRC0 (R427). -/
def isRsvd (off : Nat) : Bool :=
  match camPageOf off with
  | some n => decide (n ≠ 2 ∧ 0xE0 ≤ off % 0x1000 ∧ off % 0x1000 ≤ 0xE8)
  | none =>
    match ddrcPageOf off with
    | some n => decide (n ≠ 0 ∧ 0x100 ≤ off % 0x1000 ∧ off % 0x1000 ≤ 0x128)
    | none => false

/-- The register number that a BAR offset of a row names now. -/
def State.keyOf (s : State) (row : RegRow) (off : Nat) : Nat :=
  match row.bank, ddrcPageOf off with
  | .timing, some n => R.at_ (s.fld (R.DC_TSEL n) 0 1) off
  | b, _ => R.at_ (s.bankOf b) (homeOff off)

end Sys2Proof.Machine
end

