-- ==== Sys2Proof/Machine/Locks.lean ====
section
/-! DEFINITION. Volumes and pools as the front of the chip sees them, range locks in the in-flight table, and the charges
that a part holds (R86, R143 to R146, R161, R174, R291). -/

namespace Sys2Proof.Machine

/-! ### Volumes and pools -/

/-- The volume of a number. -/
def State.vol (s : State) (v : Nat) : Option Vol := s.media.vols.find v

/-- The pool of a number. -/
def State.pool (s : State) (p : Nat) : Option Pool := s.media.pools.find p

/-- Change pool `p` where it exists. -/
def State.setPool (s : State) (p : Nat) (f : Pool → Pool) : State :=
  { s with media := { s.media with pools := s.media.pools.upd p f } }

/-- Change volume `v` where it exists. -/
def State.setVol (s : State) (v : Nat) (f : Vol → Vol) : State :=
  { s with media := { s.media with vols := s.media.vols.upd v f } }

/-- LIVE of a pool: the LIVE of all its segments (R291). -/
def State.poolLive (s : State) (p : Nat) : Nat :=
  ((s.media.segs.filter fun g => decide (g.2.pool = p)).map fun g => g.2.live).sum / 2

/-- FREE of a pool in granules (R291). -/
def State.poolFree (s : State) (p : Nat) : Int :=
  match s.pool p with
  | none => 0
  | some q => (q.cap : Int) - (q.cap / 200 : Nat) - (s.poolLive p : Nat) - (q.charge : Nat)

/-- SPACE codes of FTL_POOL_STATE (R297). -/
def spNormal : Nat := 0
def spLow : Nat := 1
def spExhausted : Nat := 2
def spReadOnly : Nat := 3

/-- The space state of a pool (R293). -/
def State.space (s : State) (p : Nat) : Nat := s.fld (R.FTL_POOL_STATE p) 0 2

/-- REDUND codes of FTL_POOL_STATE (R297). -/
def rdNormal : Nat := 0
def rdDegraded : Nat := 1
def rdRebuilding : Nat := 2
def rdReshaping : Nat := 3

/-- The redundancy state of a pool (R293). -/
def State.redund (s : State) (p : Nat) : Nat := s.fld (R.FTL_POOL_STATE p) 4 2

/-- Return a charge of `g` grains to a pool's space account (R143, R161). -/
def State.uncharge (s : State) (p g : Nat) : State := s.setPool p fun q => { q with charge := q.charge - 64 * g }

/-- HEAD_ID of this head. -/
def State.headId (s : State) : Nat := s.fld R.CHIP_HEAD 0 1

/-- TD_STATE.STATE codes (R374). -/
def roleInit : Nat := 0
def roleSole : Nat := 1
def roleStandby : Nat := 2
def roleTandem : Nat := 3
def roleArbitrate : Nat := 4
def roleFenced : Nat := 5

/-- The role of this head (R374). -/
def State.role (s : State) : Nat := s.fld R.TD_STATE 0 3

/-- This head owns the volume (R381): a SOLE head owns every volume, a STANDBY head none, any other those of its home. -/
def State.owns (s : State) (v : Nat) : Bool :=
  match s.vol v with
  | none => false
  | some x => decide (s.role = roleSole) || (decide (s.role ≠ roleStandby) && decide (x.owner = s.headId))

/-- Sectors of a grain, and the stored sector size, of a FORMAT byte (R150). -/
def sectorsPerGrain (format : Nat) : Nat := if format % 4 < 2 then 8 else 1

/-- Data bytes of one sector of a FORMAT byte. -/
def sectorBytes (format : Nat) : Nat := if format % 4 < 2 then 512 else 4096

/-- The format carries protection information (R150). -/
def hasPi (format : Nat) : Bool := decide (format % 2 = 1)

/-- PI type of a FORMAT byte (R150). -/
def piTypeOf (format : Nat) : Nat := format / 4 % 4

/-! ### The in-flight table -/

/-- The key of a lock: volume and aligned 1 MiB block (R174). -/
def lockKey (vol block : Nat) : Nat := (vol % 2 ^ 24) * 2 ^ 48 + (block % 2 ^ 32) * 2 ^ 16

/-- LSTATE codes (R174). -/
def LockSt.code : LockSt → Nat
  | .streaming => 1 | .held => 2 | .committed => 3

/-- The result word of a lock: FIRST, COUNT, LSTATE and CSEQ[31:0] (R174). -/
def lockWord (p : Part) (cseq : Nat) : Nat :=
  p.first % 256 + (p.count % 512) * 2 ^ 8 + p.lock.code * 2 ^ 17 + (cseq % 2 ^ 32) * 2 ^ 32

/-- The key of a part's lock. -/
def Part.key (p : Part) : Nat := lockKey p.vol (p.first / 256)

/-- A CAM entry, EMPTY where nothing is listed. -/
def State.camAt (s : State) (k : Nat) : CamEntry :=
  s.cam.entries.getD k { st := 0, prio := 0, key := 0, result := 0 }

/-- A CAM entry takes a value. -/
def State.setCam (s : State) (k : Nat) (e : CamEntry) : State :=
  { s with cam := { s.cam with
      entries := if e = { st := 0, prio := 0, key := 0, result := 0 } then s.cam.entries.drop k
                 else s.cam.entries.put k e } }

/-- The entry of the in-flight group that holds the lock of a part: banks CAM0 and CAM1 (R174). -/
def State.lockAt (s : State) (cseq : Nat) : Option Nat :=
  match s.cist.parts.find cseq with
  | none => none
  | some p => (s.cam.entries.first fun k e =>
      decide (k < 2 * 65536 ∧ e.st ≠ 0 ∧ e.key = p.key ∧ e.result / 2 ^ 32 = cseq % 2 ^ 32)).map Prod.fst

/-- The entry of CAM0 or CAM1 that ingest wrote the lock of a part into, whatever became of its units (R185): its result word names the
part; else a free one. -/
def State.lockSlot (s : State) (cseq : Nat) : Nat :=
  ((s.lockAt cseq).orElse fun _ => (s.cam.entries.first fun k e => decide (k < 131072 ∧ e.result / 2 ^ 32 = cseq % 2 ^ 32)).map
    Prod.fst).getD ((s.cam.entries.freeKey (s.cam.entries.length + 1)).getD 0)

/-- Ingest removes a lock from the table by INVALIDATE (R145, R177). -/
def State.dropLock (s : State) (cseq : Nat) : State :=
  match s.lockAt cseq with
  | none => s
  | some k => s.setCam k { s.camAt k with st := 0 }

/-- Ingest rewrites a lock's result word by UPDATE_RESULT (R179). -/
def State.updateLock (s : State) (cseq : Nat) (p : Part) : State :=
  match s.lockAt cseq with
  | none => s
  | some k => s.setCam k { s.camAt k with result := lockWord p cseq }

/-! ### Parts -/

/-- The part of a CSEQ. -/
def State.part (s : State) (cseq : Nat) : Option Part := s.cist.parts.find cseq

/-- A part takes a value; its lock's result word follows. -/
def State.setPart (s : State) (cseq : Nat) (p : Part) : State :=
  ({ s with cist := { s.cist with parts := s.cist.parts.put cseq p } }).updateLock cseq p

/-- A part takes a value that its lock does not show. -/
def State.putPart (s : State) (cseq : Nat) (p : Part) : State :=
  { s with cist := { s.cist with parts := s.cist.parts.put cseq p } }

/-- Granules of the own half's ring: the half of SIZE_GIB less the 64 MiB journal area (R148, R149). -/
def State.ringSize (s : State) : Nat := s.fld R.CIST_CFG 0 5 * 8388608 - 1048576

/-- The ring tail advances past released entries only (R149). -/
def State.advanceTail (s : State) : State :=
  let offs := s.cist.parts.filterMap fun p => p.2.off
  let size := max s.ringSize 1
  let dist := fun o => (o + size - s.cist.tail) % size
  match offs.foldl (fun b o => match b with | none => some o | some x => some (if dist o < dist x then o else x)) none with
  | none => { s with cist := { s.cist with tail := s.cist.head } }
  | some o => { s with cist := { s.cist with tail := o } }

/-- Quota use of a function rises or falls (R86). -/
def State.quotaUse (s : State) (f : Nat) : Nat := s.cist.fnUse.getD f 0

/-- Quota use of a subject takes a value; network tenants have no quota (R148). -/
def State.setQuotaUse (s : State) (f n : Nat) : State :=
  if 256 ≤ f then s
  else { s with cist := { s.cist with fnUse := if n = 0 then s.cist.fnUse.drop f else s.cist.fnUse.put f n } }

/-! ### The DRAM tier's buckets (R194, R203) -/

/-- The bucket index of a fingerprint (R194). -/
def State.bucketOf (s : State) (digest : Nat) : Nat := digest / 2 ^ 128 % 2 ^ s.fld R.DD_TBL_BITS 0 5

/-- A bucket, empty where nothing is listed. -/
def State.bucket (s : State) (i : Nat) : DdBucket := s.cam.buckets.getD i { hand := 0, slots := [] }

/-- A bucket takes a value. -/
def State.setBucket (s : State) (i : Nat) (b : DdBucket) : State :=
  { s with cam := { s.cam with buckets := s.cam.buckets.put i b } }

/-- TARGET of a PENDING entry: CSEQ[47:0] and INDEX of the owning descriptor (R203). -/
def pendTarget (cseq index : Nat) : Nat := cseq % 2 ^ 48 * 256 + index

/-- The PENDING entry of a grain that will not be written is removed (R203). -/
def State.tierForget (s : State) (cseq : Nat) (ig : Nat × Grain) : State :=
  let i := s.bucketOf ig.2.digest
  match s.cam.buckets.find i with
  | none => s
  | some b =>
    if b.slots.any fun x => x.2.pending && decide (x.2.target = pendTarget cseq ig.1) then
      s.setBucket i { b with slots := b.slots.keep fun _ x => !(x.pending && decide (x.target = pendTarget cseq ig.1)) }
    else s

/-- The PENDING entries of a part that goes are removed: it is discarded, or was skipped as OVERTAKEN (R203). -/
def State.partForget (s : State) (cseq : Nat) (p : Part) : State :=
  (p.grains.mapIdx fun i g => (i, g)).foldl (fun s ig => s.tierForget cseq ig) s

/-- The pool of a volume, 0 where it does not exist. -/
def State.poolOf (s : State) (v : Nat) : Nat := (s.vol v).elim 0 Vol.pool

/-- A part leaves: its lock is removed, the mirror entry that a takeover adopted as part 2 ^ 63 + CSEQ (R380) is freed, its PENDING entries go, its quota and space charges return (R145, R161, R203). -/
def State.removePart (s : State) (cseq : Nat) : State :=
  match s.part cseq with
  | none => s
  | some p =>
    let s1 := ((s.dropLock cseq).partForget cseq p).uncharge (s.poolOf p.vol) p.charged
    let s2 := s1.setQuotaUse p.subject (s1.quotaUse p.subject - p.count)
    ({ s2 with cist := { s2.cist with parts := s2.cist.parts.drop cseq,
                                      mirror := if 2 ^ 63 ≤ cseq then s2.cist.mirror.drop (cseq - 2 ^ 63) else s2.cist.mirror,
                                      stalled := s2.cist.stalled.filter fun q => decide (q ≠ cseq) } }).advanceTail

/-- Parts in STREAMING that satisfy a test are discarded (R145, R158, R165). -/
def State.discardStreaming (s : State) (f : Part → Bool) : State :=
  let ns := (s.cist.parts.filter fun p => decide (p.2.lock = .streaming) && f p.2).map Prod.fst
  ns.foldl State.removePart s

end Sys2Proof.Machine
end

