-- ==== Sys2Proof/Machine/Stride.lean ====
section
/-! DEFINITION. The stride, its phase lock, gated commits, the calendar and the lifetime counters
(01_stride_and_time.md, R21 to R49). -/

namespace Sys2Proof.Machine

/-- What a meaning answers. -/
abbrev Out := Host.Outcome State Fault Refusal

/-! ### Overruns -/

/-- The number of an instance or unit that overruns. -/
def ovrKey (p unit : Nat) : Nat := p * 256 + unit

/-- The run of consecutive strides in which an instance has overrun, this one included (R28). -/
def State.ovrRunNext (s : State) (p unit : Nat) : Nat :=
  match s.clock.ovrRun.find (ovrKey p unit) with
  | some (last, n) => if last + 1 = s.now then n + 1 else if last = s.now then n else 1
  | none => 1

/-- OVERRUN (R27): the overrun is counted, recorded in STR_OVR_LAST, charged against the engine's budget of the next
stride, and noted at L0 in the page of the instance that overran. -/
def execOverrun (p unit clk : Nat) (s : State) : Out :=
  let excess := min (max 1 (ceilDiv clk 16)) 255
  let last := BitVec.ofNat 32 (((pageRowOf p).elim 0 PageRow.btype) * 2 ^ 16 + pageInstance p * 2 ^ 8 + excess)
  let c := { s.clock with
    ovrRun := s.clock.ovrRun.put (ovrKey p unit) (s.now, s.ovrRunNext p unit),
    ovrDebt := s.clock.ovrDebt.put (ovrKey p unit) (s.now + 1, clk) }
  .next ((((({ s with clock := c }).count R.STR_OVR_COUNT).wr R.STR_OVR_LAST last).event 1 0).raise p 0x0006 0 unit)

/-- OVERRUN_REPEAT (R28): 8 consecutive strides raise L2 DEGRADE for the instance. -/
def execOverrunRepeat (p unit : Nat) (s : State) : Out :=
  match s.clock.ovrRun.find (ovrKey p unit) with
  | some (_, n) => .next (if 8 ≤ n then s.raise p 0x0005 2 unit else s)
  | none => .next s

/-! ### Phase lock (R33 to R36) -/

/-- SYNC_STATE codes (R48). -/
def syncLocal : Nat := 0
def syncAcquire : Nat := 1
def syncSlew : Nat := 2
def syncLocked : Nat := 3
def syncHoldover : Nat := 4

/-- SYNC_STATE now. -/
def State.sync (s : State) : Nat := s.fld R.STR_STATUS 0 3

/-- SYNC_STATE takes a value; STR_OFFSET reads 0 in LOCAL (R48). -/
def State.setSync (s : State) (st : Nat) : State :=
  let s1 := s.putFld R.STR_STATUS 0 3 st
  if st = syncLocal then s1.wrN R.STR_OFFSET 0 else s1

/-- MASTER: this head drives STRIDE_SYNC (R33). -/
def State.isMaster (s : State) : Bool := s.bit R.STR_STATUS 3

/-- One correction: at most 1 ns toward the partner edge (R34). -/
def phaseStep (ps : Int) : Int := max (-1000) (min 1000 ps)

/-- The measured offset as STR_OFFSET shows it: signed, in steps of 100 ps (R48; rounded toward zero, assumption log 6). -/
def offsetWord (ps : Int) : Word := BitVec.ofInt 32 (Int.tdiv ps 100 * 100)

/-- STRIDE_SYNC_EDGE (R35): an edge from the partner, `raw` ps from the own commit point before STR_SKEW is subtracted.
A follower corrects its phase by at most 1 ns (R34). -/
def execStrideSyncEdge (raw : Int) (s : State) : Out :=
  let off := raw - (s.fld R.STR_SKEW 0 16 : Nat)
  let inTol := decide (-20000 ≤ off ∧ off ≤ 20000)
  let st := s.sync
  if s.isMaster then .next s
  else if st = syncLocal then
    .next (({ s with clock := { s.clock with adopt := none, inBand := 0 } }).setSync syncAcquire
      |>.wr R.STR_OFFSET (offsetWord off))
  else if st = syncAcquire then .next (s.wr R.STR_OFFSET (offsetWord off))
  else
    let moved := { s with clock := { s.clock with
      phase := s.clock.phase + phaseStep off,
      inBand := if st = syncSlew ∧ inTol then s.clock.inBand + 1 else 0 } }
    let s1 := moved.wr R.STR_OFFSET (offsetWord off)
    if st = syncLocked ∧ inTol = false then .next ((s1.event 1 1).setSync syncSlew)
    else if st = syncHoldover then .next (s1.setSync syncSlew)
    else .next s1

/-- SYNC_EDGE_LOST (R35): no edge at 2 consecutive expected boundaries. -/
def execSyncEdgeLost (s : State) : Out :=
  .next (if s.sync = syncSlew ∨ s.sync = syncLocked then (s.event 1 5).setSync syncHoldover else s)

/-- SYNC_LOCKED (R35): 64 consecutive strides within 20 ns. -/
def execSyncLocked (s : State) : Out :=
  .next (if s.sync = syncSlew ∧ 64 ≤ s.clock.inBand then (s.event 1 2).setSync syncLocked else s)

/-- MASTER_TAKE (R33, R35): no edge for 2 strides in LOCAL as head 0 or with the partner lost, or the partner declared lost
in HOLDOVER. A fenced head drives no edges. -/
def execMasterTake (s : State) : Out :=
  let may := decide (s.sync = syncLocal) && (decide (s.rdN R.CHIP_HEAD % 2 = 0) || s.clock.partnerLost)
    || decide (s.sync = syncHoldover) && s.clock.partnerLost
  .next (if s.isMaster = false ∧ may ∧ s.pageState 153 ≠ .fenced then
    (s.putBit R.STR_STATUS 3 true).setSync syncLocal else s)

/-- ACQUIRE_TIMEOUT (R35): no edge for 2 strides in ACQUIRE. -/
def execAcquireTimeout (s : State) : Out :=
  .next (if s.sync = syncAcquire then
    ({ s with clock := { s.clock with adopt := none } }).setSync syncLocal else s)

/-- STRIDE_ADOPT (R31, R35): the partner's number is adopted at the commit point after the beat; the record holds both
values. -/
def execStrideAdopt (s : State) : Out :=
  match s.clock.adopt with
  | some (num, own) =>
    if s.sync = syncAcquire then
      let new := num + (s.now - own)
      let s1 := { s with clock := { s.clock with adopt := none, inBand := 0 } }
      let s2 := s1.wr64 R.STR_NUM new
      .next (((s2.record 0x0006 0 1 (leBytes 8 s.now.toNat ++ leBytes 8 new.toNat)).event 1 4).setSync syncSlew)
    else .next s
  | none => .next s

/-! ### Gated commits (R37, R38) -/

/-- Gated commits become ungated: they apply at the next commit point (R38). -/
def State.ungate (s : State) : State :=
  ({ s with pages := { s.pages with gated := [] } }).putBit R.STR_CTRL 0 false

/-- The late check of R38. -/
def State.lateCheck (s : State) : State :=
  if s.rd64 R.STR_COMMIT_AT ≤ s.now then s.ungate.event 1 3 else s

/-- COMMIT_GATE_SET (R38): every write of 1 to COMMIT_GATE makes the late check. -/
def execCommitGateSet (s : State) : Out := .next (s.putBit R.STR_CTRL 0 true).lateCheck

/-- COMMIT_GATE_CLEAR (R38): a write of 0 ungates pending commits, and COMMIT_LATE is not set. -/
def execCommitGateClear (s : State) : Out := .next s.ungate

/-! ### The calendar (R39 to R42) -/

/-- Seconds are 48 bits (R39). -/
def calMod : Nat := 2 ^ 48

/-- The calendar takes seconds and ticks. -/
def State.setCal (s : State) (sec ticks : Nat) : State :=
  (s.wr64 R.CAL_SEC (BitVec.ofNat 64 (sec % calMod))).wrN R.CAL_SUBSEC ticks

/-- The signed rate correction (R40). -/
def State.trim (s : State) : Int := sgn16 (s.rdN R.CAL_TRIM)

/-- Ticks that one oscillator tick counts, and the trim accumulator after it: one tick is added or skipped whenever the
accumulated correction reaches one tick (R40). -/
def trimTick (acc : Int) : Nat × Int :=
  if 1000000000 ≤ acc then (2, acc - 1000000000) else if acc ≤ -1000000000 then (0, acc + 1000000000) else (1, acc)

/-- CAL_TICK (R39 to R41). -/
def execCalTick (s : State) : Out :=
  if s.clock.oscStopped then
    .next (({ s with clock := { s.clock with oscStopped := false } }).setCal 0 0)
  else
    let (n, acc) := trimTick (s.clock.trimAcc + s.trim)
    let t := s.rdN R.CAL_SUBSEC + n
    .next (({ s with clock := { s.clock with trimAcc := acc } }).setCal (s.calSec + t / 32768) (t % 32768))

/-- CAL_SECOND_ROLLOVER (R42): the stride number and the engine clock within it are latched. -/
def execCalSecondRollover (clk : Nat) (s : State) : Out :=
  .next ((s.wr64 R.CAL_AT_STRIDE s.now).wrN R.CAL_AT_CLK (clk % 8192))

/-- CAL_SET (R40): the calendar is set from CAL_SET at the next commit point; SET reads 1 until then. -/
def execCalSet (s : State) : Out := .next (s.putBit R.CAL_CTRL 0 true)

/-- The calendar's value in ticks of 32,768 Hz. -/
def State.calTicks (s : State) : Nat := s.calSec * 32768 + s.fld R.CAL_SUBSEC 0 15

/-- Step of the commit point: a requested set applies, and VALID returns to 1; a set that moves the calendar, sub-second count
included, by more than 1 s writes CAL_STEP (R40, R41). -/
def State.calSetApply (s : State) : State :=
  if s.bit R.CAL_CTRL 0 then
    let old := s.calSec
    let new := (s.rd64 R.CAL_SET).toNat % calMod
    let s1 := ((s.putBit R.CAL_CTRL 0 false).setCal new 0).putBit R.CAL_STATUS 0 true
    if s.calTicks + 32768 < new * 32768 ∨ new * 32768 + 32768 < s.calTicks then
      (s1.record 0x0007 0 2 (leBytes 6 old ++ leBytes 6 new ++ leBytes 4 0)).event 2 0
    else s1
  else s

/-- OSC_STOPPED (R41): the counts hold until ticks resume. -/
def execOscStopped (s : State) : Out :=
  .next ((((({ s with clock := { s.clock with oscStopped := true } }).putBit R.CAL_STATUS 1 true).putBit
    R.CAL_STATUS 0 false).event 2 1))

/-! ### Lifetime counters (R43 to R46) -/

/-- The temperature band of a junction reading in 0.25 degC (R44). -/
def tempBand (q : Int) : Nat :=
  if q < -80 then 0 else if 520 ≤ q then 31 else (Int.toNat ((q + 80) / 20)) + 1

/-- The larger of two signed 16-bit readings (R43). -/
def maxSgn16 (w : Word) (q : Int) : Word :=
  if sgn16 w.toNat < q then BitVec.ofNat 32 (toField 16 q) else w

/-- TJ_MAX_SEEN rises to a junction reading of `q` in 0.25 degC (R43). -/
def State.tjSeen (s : State) (q : Int) : State := s.wr R.TJ_MAX_SEEN (maxSgn16 (s.rd R.TJ_MAX_SEEN) q)

/-- TEMP_BAND_COUNT (R43, R44): 250,000 strides count one second into the band of the hottest sensor, which reads `q` in
0.25 degC. -/
def execTempBandCount (q : Int) (s : State) : Out :=
  .next ((s.count (R.TEMP_BAND (tempBand q))).tjSeen q)

/-- LIFE_SAVE_HOURLY (R45): 900,000,000 strides have passed. -/
def execLifeSaveHourly (s : State) : Out := .next s.startLifeSave

/-- LIFE_CTRL_SAVE (R45, R48): SAVE reads 1 until both devices are written. -/
def execLifeCtrlSave (s : State) : Out := .next (s.startLifeSave.putBit R.LIFE_CTRL 0 true)

/-- LIFE_SAVE_DONE (R45, R49): the writes to both boot NOR devices end. A device that failed keeps what it held; the code
of the L2 fault is not stated (a free value, assumption log 3). -/
def execLifeSaveDone (okA okB : Bool) (s : State) : Out :=
  match s.clock.lifeSave with
  | none => .next s
  | some (i, slot) =>
    let c := { s.clock with
      lifeSave := none,
      lifeA := if okA then s.clock.lifeA.put i slot.image else s.clock.lifeA,
      lifeB := if okB then s.clock.lifeB.put i slot.image else s.clock.lifeB }
    let s0 := ({ s with clock := c }).putBit R.LIFE_CTRL 0 false
    let s1 := if okA || okB then s0.putFld R.LIFE_STATUS 16 10 i else s0
    if okA && okB then .next (s1.event 3 0)
    else
      let code := s1.freeNat
      .next (((s1.useFree.event 3 1)).raise 3 (code % 65536) 2 0)

end Sys2Proof.Machine
end

