-- ==== Sys2Proof/Machine/Link.lean ====
section
/-! DEFINITION. Commands on the module links: ports and their states, tags, credits and epochs of what is sent (R242 to R247,
R253, R259, R261, R375). -/

namespace Sys2Proof.Machine

/-! ### Ports -/

/-- A module port that has never been used. -/
def MLink.fresh : MLink :=
  { link := FlitLink.fresh 0 [], tags := [], nextTag := 0, queue := [], ident := none, oldSerial := none, downAt := none,
    refused := false, hotAt := none }

/-- Module port `m`. -/
def State.mlink (s : State) (m : Nat) : MLink := s.media.links.getD m MLink.fresh

/-- A module port takes a value. -/
def State.setMlink (s : State) (m : Nat) (l : MLink) : State :=
  { s with media := { s.media with links := s.media.links.put m l } }

/-- The page of a module port. -/
def mlinkPage (m : Nat) : Nat := 112 + m

/-- LSTATE codes (R259). -/
def lsDown : Nat := 0
def lsTrain : Nat := 1
def lsInit : Nat := 2
def lsActive : Nat := 3
def lsRecovery : Nat := 4

/-- MLK_STATUS.LSTATE of a port. -/
def State.lstate (s : State) (m : Nat) : Nat := s.fld (R.MLK_STATUS m) 0 3

/-- The link of a port is ACTIVE, or in RECOVERY with its queues kept (R242). -/
def State.linkUp (s : State) (m : Nat) : Bool := decide (s.lstate m = lsActive ∨ s.lstate m = lsRecovery)

/-- The identity of the module at a port (R257). -/
def State.ident (s : State) (m : Nat) : Option Ident := (s.mlink m).ident

/-- The port that serves a module number of a pool (R347). -/
def State.portOf (s : State) (pool m : Nat) : Nat :=
  match s.pool pool with
  | none => m
  | some p => p.subst.getD m m

/-- Training starts: the link is DOWN, TRAIN is set, the module is present and its reset is released (R259, R527). -/
def State.trainStart (s : State) (m : Nat) : State :=
  if s.lstate m = lsDown ∧ s.bit (R.MLK_CTRL m) 0 ∧ s.bit (R.MLK_STATUS m) 3 ∧ s.bit R.MOD_RST m = false then
    (s.setMlink m { s.mlink m with link := { (s.mlink m).link with since := s.now } }).putFld (R.MLK_STATUS m) 0 3 lsTrain
  else s

/-! ### Epochs (R252, R375) -/

/-- The number of a paddock's epoch at a module. -/
def epKey (paddock m : Nat) : Nat := paddock * 32 + m

/-- The paddock of a die (R252). -/
def paddockOf (die : Nat) : Nat := die % 2

/-- The paddock that a pool of the model's tables lies on: pools 0 to 15 are those of this head's own paddock, pools 16 to 31
those of the partner's paddock, while this head holds it (R252, R296). -/
def State.padOf (s : State) (pool : Nat) : Nat := if pool < 16 then s.headId else 1 - s.headId

/-- The epoch of a paddock at a module that is in force for commands (R375). -/
def State.epochOf (s : State) (paddock m : Nat) : Nat :=
  (s.tandem.epochs.find (epKey paddock m)).elim 0 Epoch.inForce

/-! ### Sending (R244, R245) -/

/-- Opcodes of the command set (R247). -/
def opRead : Nat := 0x01
def opProgram : Nat := 0x02
def opErase : Nat := 0x03
def opSuspend : Nat := 0x04
def opResume : Nat := 0x05
def opAbort : Nat := 0x06
def opReadLevelSet : Nat := 0x07
def opStatus : Nat := 0x08
def opIdentify : Nat := 0x09
def opTelemetry : Nat := 0x0A
def opEpochRaise : Nat := 0x0B
def opEpochQuery : Nat := 0x0C

/-- A command without payload or argument. -/
def ModCmd.plain (opcode die : Nat) (use : ModUse) : ModCmd :=
  { opcode := opcode, urgent := false, slc := false, die := die, bgrp := 0, page := 0, planes := 0, units := 0, arg := 0, data := [],
    epoch := 0, use := use, sent := 0, expect := none, tag := 0 }

/-- A PROGRAM of a whole page set: PLANES 0xF, 32 codewords of 36 units (R245, R247, R277). -/
def ModCmd.program (die bgrp page : Nat) (slc : Bool) (use : ModUse) (data : List Byte) : ModCmd :=
  { ModCmd.plain opProgram die use with slc := slc, bgrp := bgrp, page := page, planes := 15, units := 1152, data := data }

/-- An ERASE of a block group (R247, R275). -/
def ModCmd.erase (die bgrp : Nat) (use : ModUse) : ModCmd :=
  { ModCmd.plain opErase die use with bgrp := bgrp, planes := 15 }

/-- The next free tag from `nextTag` on (R245). -/
def MLink.freeTag (l : MLink) : Option Nat :=
  if 4096 ≤ l.tags.length then none
  else ((List.range (l.tags.length + 1)).map fun i => (l.nextTag + i) % 4096).find? fun t => !l.tags.has t

/-- The chip issues no module command: a fence has come (R379), or the Spillway has started (R165). -/
def State.mutedModules (s : State) : Bool := s.tandem.fencing || decide (s.role = roleFenced) || s.bit R.CIST_STATUS 3

/-- A command that only the holder of a paddock may send (R253, R375). -/
def mutating (opcode : Nat) : Bool :=
  decide (opcode = opProgram ∨ opcode = opErase ∨ opcode = opSuspend ∨ opcode = opResume ∨ opcode = opAbort ∨ opcode = opReadLevelSet)

/-- This head may send a mutating command to a paddock of a module: it holds the paddock, the module is not lost for it, and in
ARBITRATE no PROGRAM and no ERASE goes out (R375, R376, R377). -/
def State.mayMutate (s : State) (m : Nat) (c : ModCmd) : Bool :=
  !mutating c.opcode || (decide (paddockOf c.die ∈ s.tandem.held ∧ epKey (paddockOf c.die) m ∉ s.tandem.lostMods)
    && decide (s.role ≠ roleArbitrate ∨ (c.opcode ≠ opProgram ∧ c.opcode ≠ opErase)))

/-- Commands may be issued on the link of a port: it is ACTIVE, its page dispatches and the head is not fenced (R64,
R244, R379). An IDENTIFY, EPOCH_QUERY or STATUS is sent in INIT (R259, R260). -/
def State.mayIssue (s : State) (m : Nat) (c : ModCmd) : Bool :=
  !s.mutedModules && !s.halted (mlinkPage m) && s.mayMutate m c
    && (decide (s.lstate m = lsActive)
      || (decide (s.lstate m = lsInit) && (decide (c.opcode = opIdentify ∨ c.opcode = opEpochQuery ∨ c.opcode = opStatus))))

/-- The oldest waiting command that may be sent goes out if it has a tag and its credits (R244, R245). -/
def State.pumpOne (s : State) (m : Nat) : State :=
  let l := s.mlink m
  let wait := l.queue.takeWhile fun c => !s.mayIssue m c
  match l.queue.drop wait.length, l.freeTag with
  | c :: rest, some t =>
    if l.link.has 0 1 ∧ l.link.has 1 c.units then
      let ep := if c.opcode = opEpochRaise then c.epoch else s.epochOf (paddockOf c.die) m
      let c1 := { c with epoch := ep, sent := s.now, tag := t }
      let (link, k) := ((l.link.take 0 1).take 1 c.units).push (flitsFor (32 + 64 * c.units)) 128
      ((s.setMlink m { l with queue := wait ++ rest, tags := l.tags.put t c1, nextTag := (t + 1) % 4096, link := link }).flitsSent
        (mlinkPage m) (R.MLK_FLITS_TX m) link k 1).emit
        (.modCmd m t c.opcode c.urgent c.slc ep c.die c.bgrp c.page c.planes c.units c.arg c.data)
    else s
  | _, _ => s

/-- Every waiting command that may be sent is sent, in order. -/
def State.pump (s : State) (m : Nat) : State :=
  (List.range (s.mlink m).queue.length).foldl (fun s _ => s.pumpOne m) s

/-- A module command is given to a port: it is sent, or waits for a tag, credits or the link. -/
def State.sendMod (s : State) (m : Nat) (c : ModCmd) : State :=
  let l := s.mlink m
  (s.setMlink m { l with queue := l.queue ++ [c] }).pump m

/-- A failure waits for the commit point, behind those of lower tags (R314). -/
def State.noteFail (s : State) (tag : Nat) (f : MediaFail) : State :=
  let l := s.media.fails
  let before := l.takeWhile fun x => decide (x.1 ≤ tag)
  { s with media := { s.media with fails := before ++ (tag, f) :: l.drop before.length } }

/-- EPOCH_RAISE of a paddock at a module, from an epoch that it expects to the next one (R254, R375, R376). -/
def State.sendRaise (s : State) (paddock port : Nat) (toOther : Bool) (cur : Nat) (retried : Bool) : State :=
  let r : Raise := { asked := cur + 1, toOther := toOther, retried := retried, st := .waiting, sent := s.now }
  let s1 := { s with tandem := { s.tandem with raises := s.tandem.raises.put (epKey paddock port) r } }
  s1.sendMod port { ModCmd.plain opEpochRaise paddock (.raise paddock (cur + 1) toOther retried) with
    epoch := cur, arg := paddock + toOther.toNat * 2 + (cur + 1) * 2 ^ 32 }

end Sys2Proof.Machine
end

