-- ==== Sys2Proof/Machine/Rdma.lean ====
section
/-! DEFINITION. Queue pairs and their contexts: the context cache, the miss buffers, sending on a queue pair, the Error state and
the event ring (R118 to R124, R136, R139, R140). -/

namespace Sys2Proof.Machine

/-! ### The event ring (R139) -/

/-- An event is written to the event ring, or counted in EVQ_LOST while the ring is full (R139). -/
def State.evPost (s : State) (typ lport object : Nat) : State :=
  let size := max (s.rdN R.EVQ_SIZE) 1
  let prod := s.rdN R.EVQ_PROD
  let next := (prod + 1) % size
  if next = s.rdN R.EVQ_CONS % size then (s.count R.EVQ_LOST).event 21 2
  else
    let entry := leBytes 2 typ ++ leBytes 1 lport ++ leBytes 1 s.front.evqPhase.toNat ++ leBytes 4 object ++ leBytes 8 s.now.toNat
    let s1 := (s.emit (.hostData ((s.rd64 R.EVQ_BASE).toNat + 16 * prod) entry)).wrN R.EVQ_PROD next
    { s1 with front := { s1.front with evqPhase := if next = 0 then !s.front.evqPhase else s.front.evqPhase } }.event 21 1

/-- LPORT of a device event (R139). -/
def evDevice : Nat := 0xFF

/-! ### Queue pairs -/

/-- A queue pair of the network pool. -/
def State.qp (s : State) (q : Nat) : Option Qp := s.front.qps.find q

/-- Change a queue pair where it exists. -/
def State.setQp (s : State) (q : Nat) (f : Qp → Qp) : State :=
  { s with front := { s.front with qps := s.front.qps.upd q f } }

/-- The ETH page of a logical port (R110). -/
def ethPage (lport : Nat) : Nat := 13 + lport / 2

/-- PSNs are 24 bits (R125). -/
def psnMod : Nat := 2 ^ 24

/-- How far a PSN lies behind another, modulo 2 ^ 24 (R125). -/
def psnBack (high p : Nat) : Nat := (high % psnMod + psnMod - p % psnMod) % psnMod

/-- A context is held while requester operations are outstanding (R119). -/
def Qp.held (q : Qp) : Bool := decide (q.sqPsn ≠ q.unacked)

/-- The path MTU in bytes (R115, R130). -/
def Qp.mtuBytes (q : Qp) : Nat := 1024 * 2 ^ q.mtu

/-! ### The context cache (R119, R122) -/

/-- A fresh use stamp. -/
def State.stamp (s : State) : State := { s with front := { s.front with useStamp := s.front.useStamp + 1 } }

/-- The cached contexts of the set of a context (R119). -/
def State.ctxSet (s : State) (q : Nat) : List (Nat × Qp) :=
  s.front.qps.filter fun p => p.2.cached && decide (p.1 % 4096 = q % 4096)

/-- The least recently used entry that is neither held nor pinned (R119). -/
def ctxVictim (l : List (Nat × Qp)) : Option (Nat × Qp) :=
  l.foldl (fun b p =>
    if p.2.held || p.2.pin then b
    else
      match b with
      | none => some p
      | some x => if p.2.used < x.2.used then some p else some x) none

/-- A context leaves the cache; a dirty entry is written back (R119, R122). -/
def State.ctxEvict (s : State) (v : Nat × Qp) : State :=
  let s1 := s.setQp v.1 fun x => { x with cached := false, writeback := x.writeback || x.dirty, dirty := false }
  if v.2.dirty then s1.count R.CTX_EVICT_COUNT else s1

/-- A context is in the cache and used now: it is installed in its set, a full set giving up its least recently used entry that is
neither held nor pinned; with none, it is not installed (R119). -/
def State.ctxInstall (s : State) (q : Nat) : State :=
  match s.qp q with
  | none => s
  | some x =>
    if x.cached then s.stamp.setQp q fun x => { x with used := s.front.useStamp }
    else
      let l := s.ctxSet q
      let s1 := if l.length < 16 then some s else (ctxVictim l).map s.ctxEvict
      match s1 with
      | none => s
      | some s2 => s2.stamp.setQp q fun x => { x with cached := true, dirty := false, used := s.front.useStamp }

/-- The context is used and changes. -/
def State.ctxTouch (s : State) (q : Nat) (f : Qp → Qp) : State := (s.ctxInstall q).setQp q fun x => { f x with dirty := x.cached }

/-- Contexts in the cache, and those of them held or pinned (R132). -/
def State.ctxCached (s : State) : Nat := s.front.qps.count fun _ x => x.cached
def State.ctxHeldPinned (s : State) : Nat := s.front.qps.count fun _ x => x.cached && (x.held || x.pin)

/-! ### Sending (R115, R119, R136) -/

/-- RDMA Reads outstanding as requester, and as responder, at most (R115). -/
def readsOutMax : Nat := 64
def readsInMax : Nat := 128

/-- Held and pinned entries leave just enough room for misses: new requester operations on contexts that are not held wait (R119). -/
def State.throttled (s : State) : Bool := decide (57344 ≤ s.ctxHeldPinned)

/-- A requester operation of a queue pair may be issued now (R115, R119). -/
def State.mayPost (s : State) (x : Qp) (read : Bool) : Bool :=
  (x.held || !s.throttled) && (!read || decide (x.reads.length < readsOutMax))

/-- Packets that a message of `bytes` bytes takes. -/
def Qp.packets (x : Qp) (bytes : Nat) : Nat := max (ceilDiv bytes x.mtuBytes) 1

/-- A requester operation of `bytes` bytes is issued: it takes one PSN for each packet of the path MTU. -/
def State.qpIssue (s : State) (q bytes : Nat) (read : Bool) : State :=
  s.ctxTouch q fun x =>
    let n := (x.sqPsn + x.packets bytes) % psnMod
    { x with sqPsn := n, reads := if read then x.reads ++ [(n + psnMod - 1) % psnMod] else x.reads }

/-- A requester operation is issued, or waits behind those that are delayed. -/
def State.qpPost (s : State) (q bytes : Nat) (read : Bool) : State :=
  match s.qp q with
  | none => s
  | some x =>
    if x.sendq = [] ∧ s.mayPost x read then s.qpIssue q bytes read
    else s.setQp q fun x => { x with sendq := x.sendq ++ [(bytes, read)] }

/-- Delayed operations of a queue pair are issued while they may be. -/
def State.qpDrain (s : State) (q : Nat) : Nat → State
  | 0 => s
  | n + 1 =>
    match s.qp q with
    | none => s
    | some x =>
      match x.sendq with
      | [] => s
      | m :: rest =>
        if s.mayPost x m.2 then ((s.setQp q fun x => { x with sendq := rest }).qpIssue q m.1 m.2).qpDrain q n else s

/-- Step of the commit point: delayed requester operations are issued, and the RDMA Reads taken as responder have been answered (their
responses leave by the next commit point: DESIGN CHOICE, assumption log 82). -/
def State.qpTick (s : State) : State :=
  let t := (s.front.qps.map Prod.fst).foldl (fun s q => s.qpDrain q ((s.qp q).elim 0 fun x => x.sendq.length)) s
  { t with front := { t.front with qps := t.front.qps.mapVals fun _ x => { x with readsIn := 0 } } }

/-- A message of `bytes` bytes is sent on a queue pair. -/
def State.qpSend (s : State) (q bytes : Nat) : State := s.qpPost q bytes false

/-- A message is sent to where a command came from, or data is read from there, if that is a fabrics queue pair (R133). -/
def State.srcSend (s : State) (src : CmdSrc) (bytes : Nat) (read : Bool := false) : State :=
  match src with
  | .fabrics q _ => s.qpPost q bytes read
  | _ => s

/-- The members of a sprayed stream whose links are up, lowest QPN first: one to a port (R136). -/
def State.members (s : State) (control : Nat) : List (Nat × Qp) :=
  let all := s.front.qps.filter fun p => decide (p.2.kind = 3 ∧ p.2.sprayed = true ∧ p.2.stream = control ∧ p.2.state ≠ .error)
    && s.bit (R.ETH_STATUS (p.2.lport / 2)) (p.2.lport % 2)
  (List.range 8).filterMap fun n => all.find? fun p => decide (p.2.lport / 2 = n)

/-- The member that carries the next data of a stream. Which member carries which data is left open; the model takes them in turn
(assumption log 58). -/
def State.streamMember (s : State) (control turn : Nat) : Option (Nat × Qp) :=
  let ms := s.members control
  ms[turn % max ms.length 1]?

/-- Data of a stream must wait: its member may not issue a new operation (R119). -/
def State.streamWaits (s : State) (control turn : Nat) : Bool :=
  (s.streamMember control turn).elim false fun m => !s.mayPost m.2 false || decide (m.2.sendq ≠ [])

/-- Data of a stream is sent as RDMA Write Onlys, on a member of it or, where it has none, on its control queue pair (R136): the state
after, and the member by port with the last PSN taken. -/
def State.streamSend (s : State) (control turn bytes : Nat) : State × Option (Nat × Nat) :=
  match s.streamMember control turn with
  | none => (s.qpSend control bytes, none)
  | some m =>
    let t := (s.emit (.writeOnly m.1 m.2.sqPsn (m.2.packets bytes) bytes)).qpSend m.1 bytes
    (t, some (m.2.lport / 2, ((t.qp m.1).elim 0 Qp.sqPsn + psnMod - 1) % psnMod))

/-! ### The miss buffer and the Error state (R121 to R124) -/

/-- Bytes leave the miss buffer of a port; below half of it PORT_MISS_FULL may be posted again (R140). -/
def State.missLeave (s : State) (lport bytes : Nat) : State :=
  let n := lport / 2
  let lvl := s.rdN (R.ETH_MISS_LEVEL n) - bytes
  let s1 := s.wrN (R.ETH_MISS_LEVEL n) lvl
  if lvl < 2097152 then { s1 with front := { s1.front with missPosted := s1.front.missPosted.filter fun p => decide (p ≠ n) } } else s1

/-- Parked packets leave the miss buffer of the port that each arrived on (R121). -/
def State.missLeaveAll (s : State) (l : List (Nat × Packet)) : State := l.foldl (fun s p => s.missLeave p.1 p.2.bytes) s

/-- The parked packets of a queue pair are discarded and counted (R124). -/
def State.discardParked (s : State) (q : Nat) : State :=
  match s.qp q with
  | none => s
  | some x =>
    ((s.setQp q fun x => { x with parked := [] }).countBy R.CTX_NAK_DISCARD x.parked.length).missLeaveAll x.parked

/-- A queue pair moves to the Error state (R120, R124, R133). -/
def State.qpError (s : State) (q : Nat) : State :=
  (s.discardParked q).setQp q fun x =>
    { x with state := .error, fetchAt := none, unacked := x.sqPsn, nakAt := none, sendq := [], reads := [], ackDue := [] }

/-- A queue pair enters Error for a local cause: QP_FATAL is posted (R140). -/
def State.qpFatal (s : State) (q : Nat) : State :=
  match s.qp q with
  | none => s
  | some x => (s.qpError q).evPost 0x0101 x.lport q

end Sys2Proof.Machine
end

