-- ==== Sys2Proof/Machine/Map.lean ====
section
/-! DEFINITION. Grain addresses, map trees, reference counts and back-references (R263 to R268, R280 to R282, R354). -/

namespace Sys2Proof.Machine

/-! ### Grain addresses (R263, R264) -/

def gaModule (a : Nat) : Nat := a / 2 ^ 59 % 32
def gaDie (a : Nat) : Nat := a / 2 ^ 49 % 1024
def gaBlock (a : Nat) : Nat := a / 2 ^ 35 % 2 ^ 14
def gaPage (a : Nat) : Nat := a / 2 ^ 23 % 4096
def gaGranule (a : Nat) : Nat := a / 2 ^ 15 % 256
def gaLen (a : Nat) : Nat := a / 2 ^ 8 % 128
def gaRaw (a : Nat) : Bool := decide (a % 2 = 1)

/-- The address of a grain at granule `g` of a chunk, FLAGS zero but for RAW (R263). -/
def gaMake (module die bgrp page g len : Nat) (raw : Bool) : Nat :=
  module % 32 * 2 ^ 59 + die % 1024 * 2 ^ 49 + (bgrp + g / 256) % 2 ^ 14 * 2 ^ 35 + page % 4096 * 2 ^ 23
    + g % 256 * 2 ^ 15 + len % 128 * 2 ^ 8 + raw.toNat

/-- An address with FLAGS cleared: the name of a grain in counts and back-references (R281). -/
def gaKey (a : Nat) : Nat := a - a % 256

/-- The starting granule of a grain in its chunk (R263). -/
def gaChunkGranule (a : Nat) : Nat := gaBlock a % 4 * 256 + gaGranule a

/-- The two values that are no data grains: none, and a zero grain (R264). -/
def gaNone : Nat := 0
def gaZero : Nat := 2

/-- An entry names a data grain (R264). -/
def isGrain (a : Nat) : Bool := decide (a ≠ gaNone ∧ a ≠ gaZero)

/-- SHARED set in an entry that names a data grain (R264). -/
def gaShared (a : Nat) : Nat := if isGrain a ∧ a / 4 % 2 = 0 then a + 4 else a

/-! ### Segments and counts (R274, R280) -/

/-- A place holds the block of an address. -/
def Place.holds (p : Place) (a : Nat) : Bool :=
  decide (p.module = gaModule a ∧ p.die = gaDie a ∧ p.bgrp = gaBlock a / 4 * 4)

/-- The segment of a grain address, with its index. -/
def State.segAt (s : State) (a : Nat) : Option (Nat × Seg) := s.media.segs.first fun _ g => g.place.any fun p => p.holds a

/-- Change a segment. -/
def State.setSeg (s : State) (i : Nat) (f : Seg → Seg) : State :=
  { s with media := { s.media with segs := s.media.segs.upd i f } }

/-- The segment of an index. -/
def State.seg (s : State) (i : Nat) : Option Seg := s.media.segs.find i

/-- The reference count of a grain (R280); absent is 0. -/
def State.refs (s : State) (a : Nat) : Nat := s.media.refs.getD (gaKey a) 0

/-- This head holds a paddock (R375). -/
def State.holds (s : State) (paddock : Nat) : Bool :=
  decide (paddock ∈ s.tandem.held)

/-- LIVE of a grain's segment rises or falls by the grain with its header, in half granules (R274). -/
def State.liveBy (s : State) (a : Nat) (up : Bool) : State :=
  match s.segAt a with
  | none => s
  | some (i, _) =>
    let n := 2 * gaLen a + 3
    s.setSeg i fun g => { g with live := if up then g.live + n else g.live - n }

/-- The chunk of an address: the address of its granule 0 (R248, R263). -/
def gaChunk (a : Nat) : Nat := gaMake (gaModule a) (gaDie a) (gaBlock a / 4 * 4) (gaPage a) 0 0 false

/-- The count of a grain takes a value; the summary of its chunk is to be written (R273, R280). -/
def State.setRefs (s : State) (a n : Nat) : State :=
  { s with media := { s.media with
      refs := if n = 0 then s.media.refs.drop (gaKey a) else s.media.refs.put (gaKey a) n,
      sums := if gaChunk a ∈ s.media.sums then s.media.sums else gaChunk a :: s.media.sums } }

/-- A change of a count in the partner's paddock is queued for it (R282, R367). -/
def State.queueRef (s : State) (a : Nat) (delta : Int) (t : Nat) : State :=
  { s with tandem := { s.tandem with refOut := s.tandem.refOut ++ [{ addr := gaKey a, delta := delta, tseq := t, sent := false }] } }

/-- A leaf slot gains a reference to a grain (R280, R281). -/
def State.addRef (s : State) (a page slot t : Nat) : State :=
  if isGrain a = false then s
  else if s.holds (paddockOf (gaDie a)) = false then s.queueRef a 1 t
  else
    let n := s.refs a
    let s1 := s.setRefs a (n + 1)
    let s2 := { s1 with media := { s1.media with backrefs := s1.media.backrefs ++ [(gaKey a, page, slot)] } }
    if n = 0 then s2.liveBy a true else s2

/-- A leaf slot loses its reference to a grain; a count held at 0 captures REFCOUNT (R280, R281). -/
def State.dropRef (s : State) (a page slot t : Nat) : State :=
  if isGrain a = false then s
  else if s.holds (paddockOf (gaDie a)) = false then s.queueRef a (-1) t
  else
    let n := s.refs a
    let s1 := { s with media := { s.media with backrefs := s.media.backrefs.erase (gaKey a, page, slot) } }
    if n = 0 then s1.raise 137 0x0105 2 0
    else
      let s2 := s1.setRefs a (n - 1)
      if n = 1 then s2.liveBy a false else s2

/-- A count changes by what the partner's map holds of it; one that would fall below 0 captures REFCOUNT (R280, R367). -/
def State.refBy (s : State) (a : Nat) (delta : Int) : State :=
  let n := s.refs a
  let m := (n : Int) + delta
  if m < 0 then s.raise 137 0x0105 2 0
  else
    let s1 := s.setRefs a m.toNat
    if n = 0 ∧ 0 < m then s1.liveBy a true else if 0 < n ∧ m = 0 then s1.liveBy a false else s1

/-! ### The loss list (R353 to R355) -/

/-- The entry of a lost address whose slot is replaced is CLEARED (R354). -/
def Loss.clearIf (x : Loss) (key page slot : Nat) : Loss :=
  if x.addr = key ∧ x.page = page ∧ x.slot = slot then { x with cleared := true } else x

/-- A SET op that replaces a lost address in the slot of its REF sets CLEARED; the address leaves the lost-address set with
its last entry (R354, R355). -/
def State.clearLoss (s : State) (pool page slot old : Nat) : State :=
  if gaKey old ∉ s.media.lost then s
  else
    let s1 := s.setPool pool fun p => { p with losses := p.losses.map (·.clearIf (gaKey old) page slot) }
    let left := (s1.pool pool).elim false fun p => p.losses.any fun x => decide (x.addr = gaKey old) && !x.cleared
    if left then s1
    else { s1 with media := { s1.media with lost := s1.media.lost.filter fun a => decide (a ≠ gaKey old) } }

/-- A grain is lost: an entry for each of its back-references, or a count of what the full list cannot hold; the address
joins the lost-address set (R354, R355). -/
def State.addLoss (s : State) (pool addr cause : Nat) : State :=
  let refs := s.media.backrefs.filter fun b => decide (b.1 = gaKey addr)
  let s1 := refs.foldl (fun s b =>
    match s.pool pool with
    | none => s
    | some p =>
      if 1048576 ≤ p.losses.length then s.count (R.SP_LOSS_OVERFLOW pool)
      else
        let x : Loss := { addr := gaKey addr, page := b.2.1, slot := b.2.2, vol := 0, grain := 0, stride := s.now,
                          cause := cause, resolved := false, cleared := false }
        let s2 := s.setPool pool fun p => { p with losses := p.losses ++ [x] }
        { s2 with media := { s2.media with
            lost := if gaKey addr ∈ s2.media.lost then s2.media.lost else gaKey addr :: s2.media.lost } }) s
  s1.event 141 5

/-! ### Map pages (R265 to R268) -/

/-- The number of a page of a pool. -/
def pageKey (pool id : Nat) : Nat := pool * 2 ^ 40 + id

/-- A map page. -/
def State.mpage (s : State) (pool id : Nat) : Option MapPage := s.media.pages.find (pageKey pool id)

/-- A map page takes a value. -/
def State.setMpage (s : State) (pool id : Nat) (p : MapPage) : State :=
  { s with media := { s.media with pages := s.media.pages.put (pageKey pool id) p } }

/-- The slot of a volume grain in a page of a level (R266). -/
def slotOf (level g : Nat) : Nat := g / 512 ^ level % 512

/-- The entry of a slot; absent is 0. -/
def State.entry (s : State) (pool id slot : Nat) : Nat := (s.mpage pool id).elim 0 fun p => p.entries.getD slot 0

/-- The leaf entry of a grain below page `id` of a level (R265, R266). -/
def State.walk (s : State) (pool g : Nat) : Nat → Nat → Nat
  | 0, id => if id = 0 then 0 else s.entry pool id (slotOf 0 g)
  | l + 1, id => if id = 0 then 0 else s.walk pool g l (s.entry pool id (slotOf (l + 1) g))

/-- The leaf page below page `id` of a level that holds a grain, 0 where there is none. -/
def State.leafOf (s : State) (pool g : Nat) : Nat → Nat → Nat
  | 0, id => id
  | l + 1, id => if id = 0 then 0 else s.leafOf pool g l (s.entry pool id (slotOf (l + 1) g))

/-- The map entry of a grain of a volume (R226, R265). -/
def State.mapEntry (s : State) (vol g : Nat) : Nat :=
  match s.vol vol with
  | none => 0
  | some v => s.walk v.pool g 4 v.root

/-- A slot of a page takes an entry; entry 0 is not listed. -/
def State.putEntry (s : State) (pool id slot e t : Nat) : State :=
  match s.mpage pool id with
  | none => s
  | some p => s.setMpage pool id
    { p with entries := if e = 0 then p.entries.drop slot else p.entries.put slot e, tseq := t, dirty := true }

/-- A page ID of a pool is allocated: a freed one, else the next (R266, R267). -/
def State.newId (s : State) (pool : Nat) : State × Nat :=
  match s.pool pool with
  | none => (s, 0)
  | some p =>
    match p.freePages with
    | i :: rest => (s.setPool pool fun p => { p with freePages := rest }, i)
    | [] => (s.setPool pool fun p => { p with nextPage := p.nextPage + 1 }, p.nextPage)

/-- A page is allocated, empty, with SHARE 1. -/
def State.newPage (s : State) (pool level t : Nat) : State × Nat :=
  let (s1, i) := s.newId pool
  (s1.setMpage pool i { level := level, share := 1, entries := [], tseq := t, dirty := true, addr := 0 }, i)

/-- SHARE of a page rises or falls by one. -/
def State.shareBy (s : State) (pool id : Nat) (up : Bool) : State :=
  match s.mpage pool id with
  | none => s
  | some p => s.setMpage pool id { p with share := if up then p.share + 1 else p.share - 1, dirty := true }

/-- An entry that would add a reference to a grain of which reclaim has written a copy adds it to the copy (R285). -/
def State.toCopy (s : State) (a : Nat) : Nat :=
  match (s.media.reclaim.flatMap fun r => r.2.copied).find? fun c => decide (isGrain a) && decide (c.1 = gaKey a) && s.media.flash.has (gaKey c.2) with
  | some c => gaKey c.2 + a % 256
  | none => a

/-- A shared page diverges: it is copied to a new ID with SHARE 1, the original loses one SHARE, and every child of the copy
gains one: SHARE for a page, a reference count and back-reference for a grain, whose entry takes SHARED (R264, R268). -/
def State.diverge (s : State) (pool id t : Nat) : State × Nat :=
  match s.mpage pool id with
  | none => (s, id)
  | some p =>
    let (s1, i) := s.newId pool
    let es := if p.level = 0 then p.entries.mapVals fun _ e => s.toCopy (gaShared e) else p.entries
    let s2 := s1.setMpage pool i { p with share := 1, entries := es, tseq := t, dirty := true, addr := 0 }
    let s3 := s2.shareBy pool id false
    (es.foldl (fun s e => if p.level = 0 then s.addRef e.2 i e.1 t else s.shareBy pool e.2 true) s3, i)

/-- The page that a path alone names in place of page `id`: a new one for 0, a copy for a shared one (R268). -/
def State.ownPage (s : State) (pool level id t : Nat) : State × Nat :=
  if id = 0 then s.newPage pool level t
  else
    match s.mpage pool id with
    | none => s.newPage pool level t
    | some p => if 1 < p.share then s.diverge pool id t else (s, id)

/-- A leaf slot takes a new entry: the new grain gains a reference, the old one loses its own (R270). -/
def State.setSlot (s : State) (pool page slot new0 t : Nat) : State :=
  let old := s.entry pool page slot
  let new := s.toCopy new0
  (((s.putEntry pool page slot new t).addRef new page slot t).dropRef old page slot t).clearLoss pool page slot old

/-- The path below page `id` of a level to a grain's slot, each page its own, and the slot set (R268). -/
def State.setPath (s : State) (pool g new t : Nat) : Nat → Nat → State
  | 0, id => s.setSlot pool id (slotOf 0 g) new t
  | l + 1, id =>
    let slot := slotOf (l + 1) g
    let (s1, c) := s.ownPage pool l (s.entry pool id slot) t
    (s1.putEntry pool id slot c t).setPath pool g new t l c

/-- SET_GRAIN: a grain of a volume takes a new entry, its path diverging first (R268, R270). -/
def State.setGrain (s : State) (vol g new t : Nat) : State :=
  match s.vol vol with
  | none => s
  | some v =>
    if new = 0 ∧ s.mapEntry vol g = 0 then s
    else
      let (s1, r) := s.ownPage v.pool 4 v.root t
      (s1.setVol vol fun v => { v with root := r }).setPath v.pool g new t 4 r

/-- SET_SLOT: a slot that still names the grain of `old` takes `new` (R270, R285). -/
def State.setSlotOp (s : State) (pool page slot new old t : Nat) : State :=
  if gaKey (s.entry pool page slot) = gaKey old ∧ isGrain (s.entry pool page slot) then
    s.setSlot pool page slot (new + (s.entry pool page slot) / 4 % 2 * 4) t
  else s

/-- A page with SHARE 0 is freed: its ID returns, each child loses one SHARE or one reference (R267). The pages that reach
SHARE 0 are answered. -/
def State.freePage (s : State) (pool id t : Nat) : State × List Nat :=
  match s.mpage pool id with
  | none => (s, [])
  | some p =>
    let s1 := { s with media := { s.media with pages := s.media.pages.drop (pageKey pool id) } }
    let s2 := s1.setPool pool fun q => { q with freePages := q.freePages ++ [id] }
    if p.level = 0 then (p.entries.foldl (fun s e => s.dropRef e.2 id e.1 t) s2, [])
    else
      p.entries.foldl (fun (r : State × List Nat) e =>
        let s3 := r.1.shareBy pool e.2 false
        if (s3.mpage pool e.2).elim false (fun c => decide (c.share = 0)) then (s3, r.2 ++ [e.2]) else (s3, r.2)) (s2, [])

end Sys2Proof.Machine
end

