-- ==== Sys2Proof/Machine/Complete.lean ====
section
/-! DEFINITION. How a host command completes: the generation check (R88, R89), the legacy queue's DONE update (R96), NVMe
completion queue entries (R82), answers to fabrics and to the partner head. -/

namespace Sys2Proof.Machine

/-- A reply of this array, as remote, goes to the source (R396). -/
def State.replReply (s : State) (group kind value : Nat) : State := s.emit (.replReply group kind value (replyImage group kind value s.now))

/-- From the start of the Spillway nothing is completed (R165). -/
def State.spilling (s : State) : Bool := s.bit R.CIST_STATUS 3

/-- The generation of a command's function differs from the one the command latched (R89). -/
def State.isStale (s : State) (c : HostCmd) : Bool :=
  match c.src.fn with
  | some f => decide (c.gen ≠ s.fnGen f)
  | none => false

/-- A stale action is discarded and counted (R89): a DMA write, a completion queue entry or a legacy DONE and STATUS update, an MSI-X
message. -/
def State.staleDiscard (s : State) (f : Nat) : State := (s.count (R.FN_STALE_COUNT f)).event 12 3

/-- A legacy tag completes: TG_STATUS, then DONE set and ISSUE cleared in the same engine clock; a pending abort bit clears
(R95, R96). -/
def State.legacyDone (s : State) (f tag status : Nat) : State :=
  let s1 := s.wrWin f (0x11C + 32 * tag) (BitVec.ofNat 32 status)
  let s2 := ((s1.winBit f 0x010 tag true).winBit f 0x00C tag false).winBit f 0x014 tag false
  (s2.setFn f { s2.fn f with doneNew := true }).count (R.LQ_CMPL_COUNT (f / 4) (f % 4))

/-- An entry is posted to the completion queue of a queue pair, and its vector is signalled (R82, R89). -/
def State.cqPost (s : State) (f qid : Nat) : State :=
  match (s.fn f).cqs.find qid with
  | none => s
  | some q =>
    let s1 := s.setFn f { s.fn f with cqs := (s.fn f).cqs.put qid { q with tail := (q.tail + 1) % max q.size 1 } }
    if q.ien then s1.postMsix f q.vec else s1

/-- The completion of a command whose generation is current. -/
def State.answer (s : State) (src : CmdSrc) (status result : Nat) : State :=
  match src with
  | .legacy f tag => (s.legacyDone f tag status).emit (.completion src status none result)
  | .nvme f qid cid =>
    let s1 := if status = St.success then s
      else s.setFn f { s.fn f with errLog := (qid, cid, status) :: (s.fn f).errLog }
    (s1.emit (.completion src status (St.nvme status) result)).cqPost f qid
  | .fabrics q cid =>
    let s1 := if status = St.success then s
      else { s with front := { s.front with ctrls := s.front.ctrls.mapVals fun _ c =>
        if c.adminQpn = q ∨ q ∈ c.ioQpns then
          { c with errLog := (q, cid, status) :: c.errLog,
                   mediaErrors := c.mediaErrors + (decide (status = St.unrecoveredRead ∨ status = St.checkValue)).toNat }
        else c } }
    (s1.emit (.completion src status (St.nvme status) result)).qpSend q 16
  | .forwarded id =>
    let s1 := { s with tandem := { s.tandem with fwdIn := s.tandem.fwdIn.drop id } }
    if s.tlActive then s1.tlSend (.fwdCpl id status result) else s1
  | .repl g rseq => if status = St.success then s.replReply g 1 rseq else s

/-- The parts of a completed or abandoned command answer to no command any more. -/
def Part.release (n : Nat) (p : Part) : Part := if p.cmd = some n then { p with cmd := none } else p

/-- A grain of a read holds a reader count on its address's segment (R228). -/
def RdGrain.onSegment (g : RdGrain) : Bool := g.mapped && isGrain g.addr && decide (g.stage ≠ .done)

/-- A reader count on the segment of an address is given back (R228). -/
def State.unread (s : State) (a : Nat) : State :=
  match s.segAt a with
  | none => s
  | some (i, _) => s.setSeg i fun g => { g with readers := g.readers - 1 }

/-- The Cistern entries that a grain has chosen are held no more (R224). -/
def State.unhold (s : State) (qs : List Nat) : State :=
  qs.foldl (fun s q =>
    match s.part q with
    | none => s
    | some p => s.putPart q { p with readers := p.readers - 1 }) s

/-- A read ends: its entries and segments are held no more, and its Basin slots are freed, those of a fabrics read once its RDMA
Writes have been acknowledged (R222, R224, R228). -/
def State.endReads (s : State) (c : HostCmd) : State :=
  let s1 := c.reads.foldl (fun s g =>
    let s1 := if g.stage = .search then s.unhold g.chosen else s
    if g.onSegment then s1.unread g.addr else s1) s
  match c.src with
  | .fabrics _ _ => { s1 with front := { s1.front with rdmaSlots := s1.front.rdmaSlots + c.slots } }
  | _ => s1.wrN R.RD_BASIN_FREE (min (s1.rdN R.RD_BASIN_FREE + c.slots) 16384)

/-- The completion of a stale command is discarded, and the message that would have told of it (R89). -/
def State.staleComplete (s : State) (src : CmdSrc) : State :=
  match src.fn with
  | none => s
  | some f =>
    let t := s.staleDiscard f
    match src with
    | .nvme _ qid _ => if ((s.fn f).cqs.find qid).elim false CplQ.ien then t.staleDiscard f else t
    | _ => t

/-- Command `n` completes with a status (R89, R109): a stale command's completion is discarded and counted. -/
def State.complete (s : State) (n status : Nat) (result : Nat := 0) : State :=
  match s.cmd n with
  | none => s
  | some c =>
    if s.spilling then s
    else
      let s1 := (s.endReads c).dropCmd n
      let s2 := { s1 with cist := { s1.cist with parts := s1.cist.parts.mapVals fun _ p => p.release n } }
      if s.isStale c then s2.staleComplete c.src
      else
        let s3 := s2.answer c.src status result
        match c.src, c.img.invKey with
        | .fabrics q _, some k => s3.emit (.sendInvalidate q k)
        | _, _ => s3

/-- Complete several commands with one status, in order. -/
def State.completeAll (s : State) (ns : List Nat) (status : Nat) : State := ns.foldl (fun s n => s.complete n status) s

/-- The numbers of the commands that satisfy a test. -/
def State.cmdsWhere (s : State) (f : HostCmd → Bool) : List Nat :=
  (s.front.cmds.filter fun p => f p.2).map Prod.fst

/-- The Weir has not admitted the command (R99, R104). -/
def HostCmd.unadmitted (c : HostCmd) : Bool := decide (c.stage = .fetched)

end Sys2Proof.Machine
end

