-- ==== Sys2Proof/Machine/Views.lean ====
section
/-! DEFINITION. Registers that show other state: event lines and groups (R72), the ladder (R484), function views
(R83, R85, R99). Their one home is that other state; this file says how they read. -/

namespace Sys2Proof.Machine

/-- Bits of a list, one per index. -/
def bitsWord (n : Nat) (f : Nat → Bool) : Nat := (List.range n).foldl (fun w i => w + (f i).toNat * 2 ^ i) 0

/-- EVT_GROUP_PEND (R72). -/
def State.groupPend (s : State) : DWord :=
  BitVec.ofNat 64 (bitsWord 64 fun g => decide (g ∈ s.pendingGroups))

/-- WEIR_CAP minus the MIN values of a class at bit `lo` of the subjects that a test picks (R86, R94). -/
def State.weirLess (s : State) (lo : Nat) (pick : Nat → Bool) : Int :=
  let subj := (List.range 249 ++ (List.range 256).map (256 + ·)).filter fun x => s.hasWeir x && pick x
  (s.fld R.WEIR_CAP lo 16 : Int) - ((subj.map fun x => s.fld (R.WEIR_MIN x) lo 16).sum : Nat)

/-- POOL_WEIR_FREE of a class: WEIR_CAP minus the sum of all MIN (R85, R94). Where the sum exceeds the cap, as at reset, it reads 0 (the
rule gives a negative number and the field has no sign: DESIGN CHOICE, assumption log 76). -/
def State.weirFree (s : State) (lo : Nat) : Nat := (s.weirLess lo fun _ => true).toNat

/-- The Weir share that a function draws from: WEIR_CAP less the MIN values of every other function and network tenant (R86). -/
def State.weirShare (s : State) (f lo : Nat) : Int := s.weirLess lo fun x => decide (x ≠ f)

end Sys2Proof.Machine
end

