-- ==== Sys2Proof/Machine/Pages.lean ====
section
/-! DEFINITION. Register accesses and the common header (02_register_pages.md, R14 to R19, R53 to R76). -/

namespace Sys2Proof.Machine

/-! ### Register accesses -/

/-- Mask of the 32 bits of a row's half that an offset names. -/
def halfMask (hi : Bool) (m : Nat) : Word := if hi then BitVec.ofNat 32 (m / 2 ^ 32) else BitVec.ofNat 32 m

/-- A register write that changes nothing but the bits its access codes name (R14, R16): `k` is the register number. -/
def State.writeBits (s : State) (k : Nat) (rw rws w1c v : Word) : State :=
  let s1 := s.wr k ((s.rd k &&& ~~~rw &&& ~~~(w1c &&& v)) ||| (v &&& rw))
  if rws = 0 then s1
  else { s1 with shadow := s1.shadow.put k ((s1.rdShadow k &&& ~~~rws) ||| (v &&& rws)) }

/-- A write to an address in no page is discarded and captures UNMAPPED (R54). -/
def State.unmapped (s : State) : State := s.raise 0 0x0003 0 0

/-- A BAR offset names an `_LO` half (R15). -/
def isLo (off : Nat) : Bool :=
  match pageAt off with
  | none => false
  | some (r, _) => (rowAt r (off % 0x1000)).elim false fun x => x.1.wide && !x.2.2

/-- The sizes and alignments that R53 permits. -/
def accessOk (off size : Nat) : Bool := decide (size = 4 ∧ off % 4 = 0) || (decide (size = 8) && isLo off)

/-- An access of any other size or alignment: a write is discarded, a read of `size` bytes returns all ones, and ACCESS_SIZE is
captured (R53). -/
def State.accessBad (s : State) (off size : Nat) (write : Bool) : State :=
  (if write then s else s.emit (.regRead off (2 ^ (8 * size) - 1))).raise 0 0x0002 0 0

/-- The block holds an issued media or network operation not yet collected, or a chunk started (R59). -/
def State.works (s : State) (p : Nat) : Bool :=
  match pageRowOf p with
  | none => false
  | some r =>
    let uses := fun (f : ModUse → Bool) => s.media.links.any fun l => l.2.tags.any fun t => f t.2.use
    match r.kind with
    | .mlink => (s.media.links.find (p - r.first)).elim false fun l => !l.tags.isEmpty
    | .ingest => s.cist.parts.any fun x => decide (x.2.lock = .streaming)
    | .cistern => s.cist.parts.any fun x => decide (x.2.lock = .held)
    | .read => s.front.cmds.any fun c => !c.2.reads.isEmpty
    | .ftl => uses fun u => match u with | .journal _ _ _ _ _ => true | .root _ _ => true | .erase _ _ => true | .eraseOther _ => true | _ => false
    | .stripe => uses fun u => match u with | .stripe _ _ => true | .rebuild _ _ _ => true | .source => true | _ => false
    | .patrol => uses fun u => match u with | .patrol => true | _ => false
    | .ldpc => uses fun u => match u with | .readLevel _ => true | _ => false
    | .rma => s.front.rmaBusy.isSome
    | .ctxc => s.front.qps.any fun q => q.2.writeback || q.2.fetchAt.isSome
    | .eth => s.front.qps.any fun q => decide (q.2.lport = p - r.first ∧ q.2.sqPsn ≠ q.2.unacked)
    | .kde => s.mem.kde.finishing
    | .mcache => !s.mem.mc.misses.isEmpty || !s.mem.mc.evicting.isEmpty || !s.mem.mc.opLines.isEmpty
    | .ddrc => (s.mem.channels.find (p - r.first)).elim false fun c => c.freq.isSome || c.copy.isSome
    | _ => false

/-- BUSY of page `p`: initialisation runs, or the block works (R59, R62). -/
def State.busy (s : State) (p : Nat) : Bool := s.bit (R.PG_STATE p) 8 || s.works p

/-- A write to a header bit of page `p` that a SPARE or RETIRED page refuses (R63). -/
def State.pageWrite (s : State) (p : Nat) (f : State → State) : State :=
  if s.refuses p then s.writeDiscarded p else f s

/-- A subject without a Weir entry takes no write of MIN or MAX (R94). -/
def State.bankTakes (s : State) : Bank → Bool
  | .subject => s.hasWeir (s.bankOf .subject)
  | _ => true

/-- The pair write of R15: `_LO` as last written, else as it stands, and `_HI` take effect together. -/
def State.writePair (s : State) (row : RegRow) (k : Nat) (hi : Word) : State :=
  let lo := (s.loPend.find k).getD (s.rdShadow k)
  let s1 := { s with loPend := s.loPend.drop k }
  (s1.writeBits k (halfMask false row.rw) (halfMask false row.rws) (halfMask false row.w1c) lo).writeBits (k + 4)
    (halfMask true row.rw) (halfMask true row.rws) (halfMask true row.w1c) hi

/-- The owner of the digest engine writes by a path: 0 PF0, 1 service port (R431, R434). -/
def State.kdePath (s : State) (path : Nat) : Bool :=
  decide (s.fld R.KDE_OWNER 8 2 = 1 ∧ s.fld R.KDE_OWNER 6 2 = path)

/-- A write by the owner to the digest engine's page restarts its idle time (R433). -/
def State.kdeSeen (s : State) (p path : Nat) : State :=
  if p = 10 ∧ s.kdePath path then { s with mem := { s.mem with kde := { s.mem.kde with lastWrite := s.now } } } else s

/-- Writes with a rule of their own beside their access codes: KDE_MODE and KDE_TAIL take the owner's path only (R434), the
timing registers of the active set none (R410), and SPARE_EN only while the page is OFF (R427). -/
def State.ownRule (s : State) (path off : Nat) (v : Word) : Option State :=
  if off = R.KDE_MODE ∨ off = R.KDE_TAIL then
    some (if s.kdePath path then s.writeBits off (BitVec.ofNat 32 (if off = R.KDE_MODE then 0x1FFFF else 7)) 0 0 v
      else s.raise 10 0x0100 0 0)
  else if off = R.EVQ_SIZE then
    -- a size outside R129's range keeps the old one (DESIGN CHOICE, assumption log 81)
    some (if (List.range 7).any fun i => decide (Machine.fld v 0 13 = 64 * 2 ^ i) then s.writeBits off (ones 0 13) 0 0 v else s)
  else
    match ddrcPageOf off with
    | none => none
    | some n =>
      if off = R.DC_TIM 0 n 0 ∨ off = R.DC_TIM 0 n 1 ∨ off = R.DC_TIM 0 n 2 ∨ off = R.DC_TIM 0 n 3 then
        if s.fld (R.DC_TSEL n) 0 1 = s.fld (R.DC_STATUS n) 2 1 then some (s.writeDiscarded (142 + n)) else none
      else if off = R.DC_CTRL n ∧ s.pageState (142 + n) = .off then some (s.writeBits off (ones 0 5) 0 0 v)
      else none

/-- Does a page implement PG_INJECT (R545)? -/
def hasInject (p : Nat) : Bool := (pageRowOf p).elim false PageRow.hasInject

/-- A write of PG_INJECT (R76): without HAS_INJECT nothing happens, while injection is not enabled it is discarded, 0 disarms, and any
other value writes the fields and sets ARM where it is 1. -/
def State.injectWrite (s : State) (p : Nat) (v : Word) : State :=
  if hasInject p = false then s
  else if s.bit R.CHIP_INJ_EN 0 = false then s.writeDiscarded p
  else if v = 0 then s.wrN (R.PG_INJECT p) 0
  else s.wr (R.PG_INJECT p) ((v &&& ~~~(ones 3 5)) ||| (s.rd (R.PG_INJECT p) &&& 1))

/-- A write of a register at a BAR offset, per its access codes (R14 to R17, R53, R54, R63), by PF0 or the service port. -/
def State.busWrite (s0 : State) (off : Nat) (v : Word) (path : Nat := 0) : State :=
  match pageAt off with
  | none => s0.unmapped
  | some (r, p) =>
    let s := s0.kdeSeen p path
    let o := off % 0x1000
    if s.refuses p ∧ o ≠ 0x014 ∧ o ≠ 0x018 ∧ o ≠ 0x020 then s.writeDiscarded p
    else
      match s.ownRule path off v, rowAt r o with
      | some s1, _ => s1
      | none, none => s
      | none, some (row, _, hi) =>
        let k := s.keyOf row off
        if isRsvd off ∨ row.offOnly ∧ s.pageState p ≠ .off then s
        else if s.bankTakes row.bank = false then s
        else if row.wide ∧ (row.rw ≠ 0 ∨ row.rws ≠ 0) then
          if hi then s.writePair row (k - 4) v else { s with loPend := s.loPend.put k v }
        else s.writeBits k (halfMask hi row.rw) (halfMask hi row.rws) (halfMask hi row.w1c) v

/-- A function's write of a window register that no other command takes (R82, R95): before creation only MBOX and MBOX_DB
exist (R83). -/
def State.windowWrite (s : State) (f o : Nat) (v : Word) : State :=
  if s.fnState f = fnAbsent then s
  else if o = 0xF100 then
    let w := s.win f o
    s.wrWin f o ((w &&& ~~~(ones 2 11) &&& ~~~(ones 1 1 &&& v)) ||| (v &&& ones 2 11))
  else if s.fnState f < fnActive then s
  else if (s.fn f).legacy then
    if o = 0x004 then s.wrWin f o ((s.win f o &&& ~~~(ones 0 2)) ||| (v &&& ones 0 2))
    else if o = 0x008 then s.wrWin f o (s.win f o &&& ~~~(v &&& ones 2 1))
    else if o = 0x010 then s.wrWin f o (s.win f o &&& ~~~v)
    else if o = 0x018 then s.wrWin f o (v &&& ones 0 11)
    else s
  else if o = 0x014 then s.wrWin f o ((v &&& ~~~(ones 0 1)) ||| (s.win f o &&& ones 0 1))
  else if o = 0x024 ∨ (0x028 ≤ o ∧ o < 0x038 ∧ o % 4 = 0) then s.wrWin f o v
  else s

/-- UNMAPPED (R54): a permitted access to no page reads zero or is discarded, and UNMAPPED is captured. -/
def execUnmapped (off : Nat) (write : Bool) (s : State) : Out :=
  .next (if accessOk off 4 = false then s.accessBad off 4 write
    else (if write then s else s.emit (.regRead off 0)).unmapped)

/-! ### Page control (R59, R62 to R65) -/

/-- PG_ENABLE (R62): ENABLE = 1, acted on at the next commit point. -/
def execPgEnable (p : Nat) (s : State) : Out := .next (s.pageWrite p (·.putBit (R.PG_CTRL p) 0 true))

/-- PG_DISABLE (R62): ENABLE = 0; a page that runs dispatches no new chunk and goes OFF once its work is done. -/
def execPgDisable (p : Nat) (s : State) : Out := .next (s.pageWrite p (·.putBit (R.PG_CTRL p) 0 false))

/-- PG_SOFT_RESET (R65): accepted only while FROZEN = 1 and BUSY = 0. -/
def execPgSoftReset (p : Nat) (s : State) : Out :=
  .next (s.pageWrite p fun s =>
    if s.bit (R.PG_STATE p) 10 ∧ s.busy p = false then s.putBit (R.PG_CTRL p) 1 true
    else s.writeDiscarded p)

/-- PG_FREEZE (R64). -/
def execPgFreeze (p : Nat) (s : State) : Out := .next (s.pageWrite p (·.putBit (R.PG_CTRL p) 2 true))

/-- PG_UNFREEZE (R64). -/
def execPgUnfreeze (p : Nat) (s : State) : Out := .next (s.pageWrite p (·.putBit (R.PG_CTRL p) 2 false))

/-- PG_COMMIT (R18, R37): the page's shadowed writes are scheduled; a commit written while COMMIT_GATE = 1 is gated. -/
def execPgCommit (p : Nat) (s : State) : Out :=
  .next (s.pageWrite p fun s =>
    let s1 := (s.putBit (R.PG_CTRL p) 3 true).putBit (R.PG_STATE p) 9 true
    if s.bit R.STR_CTRL 0 then
      { s1 with pages := { s1.pages with gated := if p ∈ s.pages.gated then s.pages.gated else p :: s.pages.gated } }
    else s1)

/-- The units in service of a multi-unit page take a state; retired ones stay (R62, R78). -/
def State.setUnits (s : State) (p : Nat) (st : PState) : State :=
  match pageRowOf p with
  | none => s
  | some r => (List.range (if r.units = 0 then 0 else r.inService)).foldl (fun s u =>
      if s.fld (R.UNIT_WORD p u) 8 4 = PState.retired.code then s else s.putFld (R.UNIT_WORD p u) 8 4 st.code) s

/-- A DDRC page that has initialised shows its spare rank: with SPARE_EN = 1 the highest-numbered one is held (R419), and
RM_INV of KIND 10 counts the channels that hold one (R460). -/
def State.spareShow (s : State) (p : Nat) : State :=
  if p < 142 ∨ 149 < p then s
  else
    let n := p - 142
    let on := s.bit (R.DC_CTRL n) 4
    let ranks := s.fld (R.DC_CFG n) 0 2 * s.fld (R.DC_CFG n) 2 3
    let s1 := (s.putBit (R.DC_STATUS n) 12 on).putFld (R.DC_STATUS n) 9 3 (if on then ranks - 1 else 0)
    let fitted := ((List.range 8).filter fun c => s1.bit (R.DC_CTRL c) 4).length
    let left := ((List.range 8).filter fun c => s1.bit (R.DC_STATUS c) 12).length
    s1.wrN (R.RM_INV 10) (fitted + left * 2 ^ 16)

/-- A page that has initialised enters RUN at a commit point, and its units with it (R62). An ETH page whose mode left queue pairs on a logical port that
is gone is placed at L3 CONTAIN (R111), with a code that is not stated (a free value, assumption log 3). -/
def State.initComplete (s : State) (p : Nat) : State :=
  let t := { s with pages := { s.pages with initAt := s.pages.initAt.drop p } }
  if s.pageState p ≠ .init then s
  else if 13 ≤ p ∧ p - 13 ∈ s.front.modeStray then
    ({ t with front := { t.front with modeStray := t.front.modeStray.filter fun n => decide (n ≠ p - 13) } }).useFree.raise p
      (s.freeNat % 65536) 3 0
  else (((t.putBit (R.PG_STATE p) 8 false).setPage p .run).setUnits p .run).spareShow p

/-- INIT_COMPLETE (R62): the next commit point takes the page to RUN. -/
def execInitComplete (p : Nat) (s : State) : Out :=
  .next (if s.pageState p = .init ∧ p ∉ s.pages.ready then
    { s with pages := { s.pages with ready := p :: s.pages.ready } } else s)

/-- INIT_FAIL (R62): the error `code` of the failed initialisation is captured and L3 CONTAIN placed. -/
def execInitFail (p code sub : Nat) (s : State) : Out :=
  .next (if s.pageState p = .init then
    ({ s with pages := { s.pages with initAt := s.pages.initAt.drop p } }).raise p code 3 sub else s)

/-- INIT_TIMEOUT (R62): an initialisation that exceeds its bound is handled as one that fails; its code is not stated (a
free value, assumption log 3). -/
def execInitTimeout (p : Nat) (s : State) : Out :=
  .next (if s.pageState p = .init then
    ({ s with pages := { s.pages with initAt := s.pages.initAt.drop p } }).useFree.raise p (s.freeNat % 65536) 3 0
  else s)

/-- A disabled page in RUN or DEGRADED that holds no started work (R62). -/
def State.mayGoOff (s : State) (p : Nat) : Bool :=
  decide (s.pageState p = .run ∨ s.pageState p = .degraded) && !s.bit (R.PG_CTRL p) 0 && !s.busy p

/-- PAGE_DRAINED (R62): a disabled page whose started work has finished goes OFF at the next commit point. -/
def execPageDrained (p : Nat) (s : State) : Out :=
  .next (if s.mayGoOff p ∧ p ∉ s.pages.drained then
    { s with pages := { s.pages with drained := p :: s.pages.drained } } else s)

/-- Step of the commit point: pages that have initialised enter RUN, and disabled pages that hold no work go OFF (R62). -/
def State.pagesMove (s : State) : State :=
  let s1 := s.pages.ready.foldl State.initComplete { s with pages := { s.pages with ready := [] } }
  s1.pages.drained.foldl (fun s p => if s.mayGoOff p then (s.setPage p .off).setUnits p .off else s)
    { s1 with pages := { s1.pages with drained := [] } }

/-! ### Events and errors -/

/-- PG_EVENT_FORCE (R61): the matching PG_EVENT bits are set, and nothing else happens. -/
def execPgEventForce (p : Nat) (m : Word) (s : State) : Out :=
  .next (s.pageWrite p fun s => s.wr (R.PG_EVENT p) (s.rd (R.PG_EVENT p) ||| m))

/-- ERR_REARM (R69): the whole capture clears, PG_ERR_STRIDE included. -/
def execErrRearm (p : Nat) (s : State) : Out := .next ((s.wrN (R.PG_ERR_FIRST p) 0).wr64 (R.PG_ERR_STRIDE p) 0)

/-- PAGE_PARITY (R57): a register file parity error places L2 DEGRADE. -/
def execPageParity (p : Nat) (s : State) : Out := .next (s.raise p 0x0001 2 0)

/-- EVT_ARM (R72, R75): each group written 1 is armed; one that is still pending posts again at the next commit point. -/
def execEvtArm (m : DWord) (s : State) : Out := .next (s.wr64 R.EVT_ARM (s.rd64 R.EVT_ARM ||| m))

/-- The value that enables injection (R72). -/
def injMagic : Word := 0x494E4A31

/-- CHIP_INJ_EN (R72, R76): a change from cleared to set writes one INJ_ENABLED record, whose PATH is not stated (a free
value, assumption log 3). -/
def execChipInjEn (v : Word) (s : State) : Out :=
  if v = injMagic then
    if s.bit R.CHIP_INJ_EN 0 then .next s
    else .next (((s.wrN R.CHIP_INJ_EN 1).useFree).record 0x0008 0 0 (leBytes 1 s.freeNat ++ leBytes 3 0))
  else .next (s.wrN R.CHIP_INJ_EN 0)

/-- INJECT_ARM (R76): PG_INJECT takes a word with ARM set. -/
def execInjectArm (p : Nat) (w : Word) (s : State) : Out := .next (s.pageWrite p (·.injectWrite p (w ||| 1)))

/-- INJECT_DISARM (R76): writing 0 to PG_INJECT disarms it. -/
def execInjectDisarm (p : Nat) (s : State) : Out := .next (s.pageWrite p (·.injectWrite p 0))

end Sys2Proof.Machine
end

