-- ==== Sys2Proof/Machine/Cam.lean ====
section
/-! DEFINITION. The associative search banks (06_associative_search.md): searches, the three-step update, scrub, and the
software operations of the CAM pages. -/

namespace Sys2Proof.Machine

/-! ### Groups, widths, masks -/

/-- Units of an entry of a group (R174). -/
def camWidth : Nat → Nat
  | 0 => 1 | 1 => 4 | 2 => 2 | _ => 1

/-- The key width of a group in bits (R171). -/
def camKeyBits (g : Nat) : Nat := 72 * camWidth g

/-- The logical banks of a group (R174). -/
def camBanks : Nat → List Nat
  | 0 => [0, 1]
  | 1 => [2]
  | 2 => (List.range 13).map (3 + ·)
  | _ => []

/-- The number of an entry. -/
@[reducible] def camKey (bank idx : Nat) : Nat := bank * 65536 + idx

/-- Mask set `m` of a group (R176). -/
def State.camMask (s : State) (g m : Nat) : Nat :=
  (List.range 9).foldl (fun v k => v + s.rdN (R.CAM_MASK (camGroupFirst g) (9 * m + k)) * 2 ^ (32 * k)) 0

/-! ### Banks that serve (R186, R187, R189) -/

/-- The bank is being copied to a spare and cannot be trusted: whether it can is open (R186; a free value, assumption log 3). -/
def State.camUntrusted (s : State) (b : Nat) : Bool :=
  s.guard.job.elim false fun j => decide (unitsAll j.page = 0 ∧ j.page = 95 + b) && j.begun && Config.bankBad (s.rdN R.RM_COUNT) b

/-- A bank takes part in its group's searches: one that is SPARE or RETIRED does not, nor a dedup bank that is not trusted or that a
remount has taken (R186, R187). -/
def State.camServes (s : State) (b : Nat) : Bool :=
  !s.refuses (95 + b) && !(decide (3 ≤ b) && s.camUntrusted b)
    && !(s.guard.job.elim false fun j => j.steal && j.begun && decide (j.slot = 95 + b))

/-- A search of a group waits: a bank of it dispatches nothing (R64, R189). -/
def State.camHeld (s : State) (g : Nat) : Bool := (camBanks g).any fun b => !s.refuses (95 + b) && s.halted (95 + b)

/-! ### Searches (R173, R176, R180, R181) -/

/-- Place in winning order: higher PRIO, then lower bank, then lower index (R181). -/
def camRank (k : Nat) (e : CamEntry) : Nat := (3 - e.prio) * 2 ^ 21 + k

/-- Does an entry of the group match (R173, R176)? -/
def camMatches (g mask key : Nat) (incl : Bool) (k : Nat) (e : CamEntry) : Bool :=
  decide (camGroup (k / 65536) = g) && (decide (e.st = 2) || (incl && decide (e.st = 1)))
    && decide (e.key &&& mask &&& (2 ^ camKeyBits g - 1) = key &&& mask &&& (2 ^ camKeyBits g - 1))

/-- The matching entries in winning order (R181). -/
def State.camSearch (s : State) (g mask key : Nat) (incl : Bool) : List (Nat × CamEntry) :=
  let hits := s.cam.entries.keep fun k e => camMatches g mask key incl k e && s.camServes (k / 65536)
  (List.range 4).flatMap fun i => hits.filter fun p => decide (p.2.prio = 3 - i)

/-- `n` searches by the group's user are counted in each bank of the group; each of them had MULTI = 1 where `hits` entries, more than
one, matched (R188). -/
def State.countSearch (s : State) (g n hits : Nat) : State :=
  (camBanks g).foldl (fun s b =>
    let s1 := s.countBy (R.CAM_SEARCHES b) n
    if 1 < hits then s1.countBy (R.CAM_MULTI b) n else s1) s

/-- COUNT saturates at 524,287 (R180). -/
def camCount (n : Nat) : Nat := min n 524287

/-! ### Commit point and scrub -/

/-- Step 4 of the commit point: PENDING entries become VALID (R177). -/
def State.camPendingValid (s : State) : State :=
  { s with cam := { s.cam with
      entries := s.cam.entries.mapVals fun _ e => if e.st = 1 then { e with st := 2 } else e } }

/-- The entry that the authoritative copy of a bad unit holds: the lock record, the filter shadow, none for the dedup hot
tier (R184). -/
def State.camSource (s : State) (k : Nat) : Option CamEntry :=
  match camGroup (k / 65536) with
  | 0 =>
    let e := s.camAt k
    (s.cist.parts.first fun q _ => decide (e.st ≠ 0 ∧ q % 2 ^ 32 = e.result / 2 ^ 32)).map fun p =>
      { st := 1, prio := 0, key := p.2.key, result := lockWord p.2 p.1 }
  | 1 => (s.cam.shadow.find k).map fun e => { e with st := if e.st = 0 then 0 else 1 }
  | _ => none

/-- A unit is found with bad parity: it is counted, its user rewrites the entry through the three steps or leaves it
invalidated, and UNIT_PARITY is placed at L1 (R173, R184). -/
def State.camParity (s : State) (k : Nat) (injected : Bool) : State :=
  let bank := k / 65536
  let s1 := (s.count (R.CAM_PARITY_ERR bank)).event (95 + bank) 1
  let s2 := s1.setCam k ((s1.camSource k).getD { s1.camAt k with st := 0 })
  s2.raise (95 + bank) 0x0100 1 0 injected

/-- The first unit of the entry that holds unit `u` of a bank. -/
def camFirst (bank u : Nat) : Nat := camKey bank (u - u % camWidth (camGroup bank))

/-- The unit whose parity an armed injection makes fail at its next read (R189). -/
def State.camArmed (s : State) (bank : Nat) : Option Nat :=
  let u := s.fld (R.PG_INJECT (95 + bank)) 8 8
  if s.armed (95 + bank) 0x05 u then some u else none

/-- A read of an entry of a bank fires the injection that names one of its units (R189). -/
def State.camFires (s : State) (k : Nat) : State × Bool :=
  match s.camArmed (k / 65536) with
  | none => (s, false)
  | some u => if camFirst (k / 65536) u = k then (s.fired (95 + k / 65536), true) else (s, false)

/-- CAM_SCRUB (R184): a scrub read finds unit `u` of a bank with bad parity. -/
def execCamScrub (bank u : Nat) (s : State) : Out :=
  .next (if bank ≤ 15 ∧ u < 65536 then
    let r := s.camFires (camFirst bank u)
    r.1.camParity (camFirst bank u) r.2
  else s)

/-- A search reads every unit of its group: the entries whose parity it finds bad, those named and those of armed injections (R173,
R189). -/
def State.camBad (s : State) (g : Nat) (bad : List Nat) : List (Nat × Bool) :=
  ((bad.filter fun u => decide (camGroup (u / 65536) = g)).map fun u => (camFirst (u / 65536) (u % 65536), false))
    ++ (camBanks g).filterMap fun b => (s.camArmed b).map fun u => (camFirst b u, true)

/-- A search with every unit read: entries of bad parity do not match, and are handled (R173, R184). The matches in winning order. -/
def State.camFound (s : State) (g mask key : Nat) (incl : Bool) (bad : List Nat) : State × List (Nat × CamEntry) :=
  let l := s.camBad g bad
  let hits := (s.camSearch g mask key incl).filter fun p => l.all fun b => decide (b.1 ≠ p.1)
  (l.foldl (fun s b => (if b.2 then s.fired (95 + b.1 / 65536) else s).camParity b.1 b.2) s, hits)

/-! ### Searches of the in-flight table (R144, R175, R184, R185, R223) -/

/-- The lock records of a block (R144, R175). -/
def State.blockLocks (s : State) (vol block : Nat) : List Nat :=
  (s.cist.parts.filter fun p => decide (p.2.vol = vol ∧ p.2.first / 256 = block)).map Prod.fst

/-- A lock that an in-flight search missed is rewritten from ingest's record through the three steps, and FALSE_MISS is
placed at L2 on its bank (R185). -/
def State.falseMiss (s : State) (cseq : Nat) (injected : Bool) : State :=
  match s.part cseq with
  | some p =>
    let k := s.lockSlot cseq
    let bank := k / 65536
    ((s.setCam k { st := 1, prio := 0, key := p.key, result := lockWord p cseq }).event (95 + bank) 2).raise (95 + bank)
      0x0104 2 0 injected
  | none => s

/-- An in-flight search with MASK0 (R144, R180, R223): one MSEARCH for each 8 locks found. `miss` names locks that it misses though their
units read well, `bad` units of bad parity; an armed injection hides one match (R173, R189). Where COUNT falls short of ingest's count of
the block's locks (those of this stride left out unless INCL_PENDING), or a bank cannot be trusted, the lock records decide, and each lock
that is missing is a false miss (R184 to R186). The CSEQs found. -/
def State.inflight (s : State) (vol block : Nat) (incl : Bool) (miss : List Nat) (bad : List Nat) : State × List Nat :=
  let want := (s.blockLocks vol block).filter fun q => incl || decide ((s.camAt (s.lockSlot q)).st ≠ 1)
  let (s1, found) := s.camFound 0 (s.camMask 0 0) (lockKey vol block) incl bad
  let hid := found.find? fun h => s1.armed (95 + h.1 / 65536) 0x06 0
  let s2 := hid.elim s1 fun h => s1.fired (95 + h.1 / 65536)
  let hits := found.filter fun h => decide (hid.elim true (fun x => decide (x.1 ≠ h.1)) = true)
    && miss.all fun q => decide (h.2.result / 2 ^ 32 ≠ q % 2 ^ 32)
  let s3 := s2.countSearch 0 (max 1 (ceilDiv hits.length 8)) hits.length
  let seen := fun q => hits.any fun h => decide (h.2.result / 2 ^ 32 = q % 2 ^ 32)
  if s.camUntrusted 0 || s.camUntrusted 1 then (s3, want)
  else if hits.length < want.length then
    ((want.filter fun q => !seen q).foldl (fun s q => s.falseMiss q hid.isSome) s3, want)
  else (s3, want.filter seen)

/-! ### Software operations (R177 to R180, R188) -/

/-- The key that CAM_KEY0 to CAM_KEY8 spell. -/
def State.camKeyRegs (s : State) (n : Nat) : Nat :=
  (List.range 9).foldl (fun v k => v + s.rdN (R.CAM_KEY n k) * 2 ^ (32 * k)) 0

/-- CAM_OP_STATUS after an operation (R188). -/
def State.camStatus (s : State) (n code : Nat) (hit multi : Bool) : State :=
  (s.wrN (R.CAM_OP_STATUS n) (code + hit.toNat * 2 ^ 17 + multi.toNat * 2 ^ 18)).event (95 + n) 0

/-- A refused update: its code, captured at L0 (R177, R188, R189). -/
def State.camRefuse (s : State) (n code : Nat) : State := (s.camStatus n code false false).raise (95 + n) code 0 0

/-- Software may update CAM2 while it runs, and any bank while it is OFF (R188). -/
def State.camOwned (s : State) (n : Nat) : Bool :=
  decide (s.pageState (95 + n) = .off) || (decide (n = 2) && decide (s.pageState (95 + n) = .run))

/-- An operation that page `n` took in this stride is still under way: it ends within the bound of R182 and 64 clocks, so whether it
has is open within the stride (R188; a free value, assumption log 3). -/
def State.camBusy (s : State) (n : Nat) : Bool := decide (s.cam.opAt.find n = some s.now) && decide (s.freeNat % 2 = 1)

/-- A CAM_OP is taken in this stride (R188). -/
def State.camTaken (s : State) (n : Nat) : State := { s with cam := { s.cam with opAt := s.cam.opAt.put n s.now } }

/-- A CAM operation of page `n`: a SPARE or RETIRED bank accepts none, nor does one that is BUSY (R63, R188). -/
def State.camOp (s : State) (n : Nat) (f : State → State) : State :=
  s.pageWrite (95 + n) fun s =>
    if s.camBusy n then s.useFree.writeDiscarded (95 + n)
    else f ((s.camTaken n).useFree)

/-- An update of the entry at CAM_INDEX: permission, then alignment, then the state machine of R177. -/
def State.camUpdate (s : State) (n : Nat) (f : Nat → State → State) : State :=
  s.camOp n fun s =>
    let idx := s.fld (R.CAM_INDEX n) 0 16
    if s.camOwned n = false then s.camRefuse n 0x0101
    else if idx % camWidth (camGroup n) ≠ 0 then s.camRefuse n 0x0102
    else f (camKey n idx) s

/-- The filter shadow follows every filter write (R184). -/
def State.camShadow (s : State) (k : Nat) : State :=
  if k / 65536 = 2 then { s with cam := { s.cam with shadow := s.cam.shadow.put k (s.camAt k) } } else s

/-- Key, PRIO, STATE and result word of an entry go into the page's registers (R188). -/
def State.camLoad (s : State) (n : Nat) (e : CamEntry) : State :=
  let s1 := (List.range 9).foldl (fun s k => s.wrN (R.CAM_KEY n k) (e.key / 2 ^ (32 * k))) s
  (s1.wrN (R.CAM_ENTRY n) (e.st + e.prio * 4)).wr64 (R.CAM_RESULT n) (BitVec.ofNat 64 e.result)

/-- CAM_READ (R188): the entry at CAM_INDEX; one whose parity fails, or is made to, is handled as a bad unit (R173, R189). -/
def execCamRead (n : Nat) (bad : Bool) (s : State) : Out :=
  .next (s.camOp n fun s =>
    let idx := s.fld (R.CAM_INDEX n) 0 16
    if idx % camWidth (camGroup n) ≠ 0 then s.camRefuse n 0x0102
    else
      let k := camKey n idx
      let r := s.camFires k
      let s2 := (r.1.camLoad n (r.1.camAt k)).camStatus n 0 false false
      if r.2 || bad then s2.camParity k r.2 else s2)

/-- CAM_INVALIDATE (R177). -/
def execCamInvalidate (n : Nat) (s : State) : Out :=
  .next (s.camUpdate n fun k s => ((s.setCam k { s.camAt k with st := 0 }).camShadow k).camStatus n 0 false false)

/-- CAM_WRITE (R177): refused while the entry is PENDING or VALID. -/
def execCamWrite (n : Nat) (s : State) : Out :=
  .next (s.camUpdate n fun k s =>
    if (s.camAt k).st ≠ 0 then s.camRefuse n 0x0103
    else
      let e : CamEntry := { st := 0, prio := s.fld (R.CAM_ENTRY n) 2 2,
                            key := s.camKeyRegs n % 2 ^ camKeyBits (camGroup n), result := (s.rd64 (R.CAM_RESULT n)).toNat }
      ((s.setCam k e).camShadow k).camStatus n 0 false false)

/-- CAM_VALIDATE (R177). -/
def execCamValidate (n : Nat) (s : State) : Out :=
  .next (s.camUpdate n fun k s =>
    let e := s.camAt k
    ((s.setCam k { e with st := if e.st = 0 then 1 else e.st }).camShadow k).camStatus n 0 false false)

/-- CAM_UPDATE_RESULT (R179): the result word of a PENDING or VALID entry. -/
def execCamUpdateResult (n : Nat) (s : State) : Out :=
  .next (s.camUpdate n fun k s =>
    let e := s.camAt k
    let e1 := if e.st = 0 then e else { e with result := (s.rd64 (R.CAM_RESULT n)).toNat }
    ((s.setCam k e1).camShadow k).camStatus n 0 false false)

/-- CAM_HIT_LOC of an entry number. -/
def camLoc (k : Nat) : Nat := k % 65536 + (k / 65536) * 2 ^ 16

/-- Results that SEARCH and MSEARCH share: HIT, MULTI, COUNT, the winner and the match vector (R180, R188, R189). -/
def State.camAnswer (s : State) (n : Nat) (all : List (Nat × CamEntry)) (win : Option (Nat × CamEntry)) : State :=
  let g := camGroup n
  let s1 := { s with cam := { s.cam with match_ := s.cam.match_.put g (all.map Prod.fst) } }
  let s2 := s1.wrN (R.CAM_MATCH_COUNT n) (camCount all.length)
  let s3 := match win with
    | none => s2
    | some (k, e) => (s2.wrN (R.CAM_HIT_LOC n) (camLoc k)).wr64 (R.CAM_RESULT n) (BitVec.ofNat 64 e.result)
  let multi := decide (1 < all.length)
  let s4 := s3.camStatus n 0 (decide (all ≠ [])) multi
  if multi then s4.event (95 + n) 3 else s4

/-- CAM_SEARCH (R180); `bad` names units whose parity fails as it reads them (R173). -/
def execCamSearch (n : Nat) (incl : Bool) (maskSet : Nat) (bad : List Nat) (s : State) : Out :=
  .next (s.camOp n fun s =>
    let g := camGroup n
    let (s1, all) := s.camFound g (s.camMask g (maskSet % 4)) (s.camKeyRegs n) incl bad
    s1.camAnswer n all all.head?)

/-- The matches after the resume position, in winning order (R180, R188): BANK 0x1F starts at the beginning. -/
def State.camResume (s : State) (n : Nat) (all : List (Nat × CamEntry)) : List (Nat × CamEntry) :=
  let b := s.fld (R.CAM_MS_START n) 16 5
  if b = 0x1F then all
  else
    let k := camKey b (s.fld (R.CAM_MS_START n) 0 16)
    all.filter fun p => decide (camRank k (s.camAt k) < camRank p.1 p.2)

/-- CAM_MSEARCH (R180): up to 8 matches after the resume position; `bad` as for CAM_SEARCH. -/
def execCamMsearch (n : Nat) (incl : Bool) (maskSet : Nat) (bad : List Nat) (s : State) : Out :=
  .next (s.camOp n fun s =>
    let g := camGroup n
    let (s1, all) := s.camFound g (s.camMask g (maskSet % 4)) (s.camKeyRegs n) incl bad
    let got := (s1.camResume n all).take 8
    let s2 := (List.range 8).foldl (fun s i =>
      s.wrN (R.CAM_MSR n i) (match got[i]? with | none => 0 | some p => camLoc p.1 + 2 ^ 31)) s1
    s2.camAnswer n all got.head?)

end Sys2Proof.Machine
end

