-- ==== Sys2Proof/Machine/Functions.lean ====
section
/-! DEFINITION. PCIe functions: creation and removal, mailboxes, function-level resets, SR-IOV, and the PCIe link
(03_host_functions.md, R81 to R91). -/

namespace Sys2Proof.Machine

/-! ### FNMGR commands (R85, R87) -/

/-- A write of FN_CMD: while BUSY it is discarded and captures CMD_WHILE_BUSY; otherwise the creation registers are read
and the command applies at the next commit point (R85, R87). -/
def State.fnCmdWrite (s : State) (op gen : Nat) : State :=
  if s.bit R.FN_CMD_STATUS 16 then s.raise 12 0x0100 0 0
  else
    let c : FnCmd :=
      { op := op, fn := s.fld R.FN_SEL 0 8, gen := gen % 65536, legacy := s.bit R.FN_MODE 0,
        qp := s.fld R.FN_QP_QUOTA 0 13, cist := s.fld R.FN_CISTERN_QUOTA 0 16, wmin := s.rd R.FN_WEIR_MIN,
        wmax := s.rd R.FN_WEIR_MAX, msix := s.fld R.FN_MSIX 0 12, vol := s.fld R.FN_VOL 0 24,
        nsid := s.fld R.FN_NSID 0 9, reply := (List.range 64).map fun i => s.rd (R.FN_REPLY i) }
    ({ s with front := { s.front with fnCmd := some c } }).putBit R.FN_CMD_STATUS 16 true

/-- FN_CREATE (R87). -/
def execFnCreate (gen : Nat) (s : State) : Out := .next (s.fnCmdWrite 1 gen)
/-- FN_DESTROY (R91). -/
def execFnDestroy (gen : Nat) (s : State) : Out := .next (s.fnCmdWrite 2 gen)
/-- FN_RESIZE (R87). -/
def execFnResize (gen : Nat) (s : State) : Out := .next (s.fnCmdWrite 3 gen)
/-- FN_RESET (R90). -/
def execFnReset (gen : Nat) (s : State) : Out := .next (s.fnCmdWrite 4 gen)
/-- FN_ATTACH (R87). -/
def execFnAttach (gen : Nat) (s : State) : Out := .next (s.fnCmdWrite 5 gen)
/-- FN_DETACH (R87). -/
def execFnDetach (gen : Nat) (s : State) : Out := .next (s.fnCmdWrite 6 gen)
/-- FN_REPLY (R87). -/
def execFnReply (gen : Nat) (s : State) : Out := .next (s.fnCmdWrite 7 gen)

/-- The function states in which an OP is accepted (R87). -/
def fnOpState (op st : Nat) : Bool :=
  if op = 1 then decide (st = fnDisabled)
  else if op = 7 then decide (st ≠ fnAbsent)
  else decide (2 ≤ op ∧ op ≤ 6) && decide (st = fnActive)

/-- The ranges of R85 for a command's values; the queue mode of a function that exists is the one it was created with (R82). -/
def FnCmd.inRange (c : FnCmd) (legacy : Bool) : Bool :=
  decide (1 ≤ c.qp ∧ c.qp ≤ 4096 ∧ (legacy = true → c.qp = 1) ∧ 2 ≤ c.cist ∧ c.cist ≤ 8192
    ∧ Machine.fld c.wmin 0 16 ≤ fld c.wmax 0 16 ∧ Machine.fld c.wmin 16 16 ≤ fld c.wmax 16 16 ∧ 1 ≤ c.msix ∧ c.msix ≤ 2048)

/-- MiB of the own half assigned to functions, less the quotas of the functions that a test picks (R86). -/
def State.cistLess (s : State) (pick : Nat → Bool) : Int :=
  (s.fld R.CIST_FN_SHARE 0 16 : Int) - (((s.front.fns.filter fun p => pick p.1).map fun p => p.2.cistQuota).sum : Nat)

/-- POOL_CISTERN_FREE (R85): 0 where the quotas held exceed a share that was lowered since (DESIGN CHOICE, assumption log 76). -/
def State.cistFree (s : State) : Nat := (s.cistLess fun _ => true).toNat

/-- The pools can give what CREATE or RESIZE asks, what the function holds already counted in (R86, R87). -/
def State.poolsOk (s : State) (c : FnCmd) : Bool :=
  let f := s.fn c.fn
  decide (c.qp ≤ s.rdN R.POOL_QP_FREE + f.qpQuota ∧ (c.cist : Int) ≤ s.cistLess (fun x => decide (x ≠ c.fn))
    ∧ (Machine.fld c.wmin 0 16 : Int) ≤ s.weirShare c.fn 0 ∧ (Machine.fld c.wmin 16 16 : Int) ≤ s.weirShare c.fn 16)

/-- I/O queue pairs in existence of a function. -/
def Fn.queuePairs (f : Fn) : Nat := (f.sqs.filter fun p => decide (p.1 ≠ 0)).length

/-- The status of a management command: GEN, then the function's state, then the ranges, then the pools (R87). -/
def State.fnCheck (s : State) (c : FnCmd) : Nat :=
  let f := s.fn c.fn
  if c.gen ≠ s.fnGen c.fn then St.generationStale
  else if fnOpState c.op (s.fnState c.fn) = false then St.invalidField
  else if (c.op = 1 ∨ c.op = 3) ∧ c.inRange (if c.op = 3 then f.legacy else c.legacy) = false then St.invalidField
  else if c.op = 3 ∧ c.qp < f.queuePairs then St.invalidField
  else if c.op = 5 ∧ (¬ (1 ≤ c.nsid ∧ c.nsid ≤ 256) ∨ f.ns.any (fun a => decide (a.nsid = c.nsid))
      ∨ (s.vol c.vol).isNone) then St.invalidField
  else if c.op = 6 ∧ f.ns.any (fun a => decide (a.nsid = c.nsid) && !a.detaching) = false then St.invalidField
  else if (c.op = 1 ∨ c.op = 3) ∧ s.poolsOk c = false then St.quota
  else St.success

/-- MIN and MAX of a Weir subject take values; the balance of a new entry starts at 0 (R87). -/
def State.setWeir (s : State) (subj : Nat) (wmin wmax : Word) : State :=
  (s.wr (R.WEIR_MIN subj) wmin).wr (R.WEIR_MAX subj) wmax

/-- Quotas and enables of CREATE and RESIZE. -/
def State.applyQuota (s : State) (c : FnCmd) : State :=
  let f := s.fn c.fn
  ((s.wrN R.POOL_QP_FREE (s.rdN R.POOL_QP_FREE + f.qpQuota - c.qp)).setFn c.fn
    { f with qpQuota := c.qp, cistQuota := c.cist, msix := c.msix }).setWeir c.fn c.wmin c.wmax

/-- Clear RING, REPLY and MGMT_DB_PEND of a function (R83). -/
def State.clearMailbox (s : State) (f : Nat) : State :=
  ((s.winBit f 0xF100 0 false).winBit f 0xF100 1 false).putBit (R.MGMT_DB_PEND (f / 32)) (f % 32) false

/-- The parts of command `n`. -/
def State.partsOf (s : State) (n : Nat) : List (Nat × Part) := s.cist.parts.filter fun p => decide (p.2.cmd = some n)

/-- Parts in HELD that satisfy a test are discarded, and the partner is told to let their copies go (R152). -/
def State.discardHeld (s : State) (f : Part → Bool) : State :=
  let ns := (s.cist.parts.filter fun p => decide (p.2.lock = .held) && f p.2).map Prod.fst
  ns.foldl (fun s q =>
    let t := s.removePart q
    { t with cist := { t.cist with releases := t.cist.releases ++ [q] } }) s

/-- A command ends undone: STREAMING and HELD parts are discarded, what they held returns, Cistern entries and Basin slots that it
held are let go, and its space charge returns. A part that is COMMITTED stays, since later writes may have been laid over it and
earlier ones let go for it (DESIGN CHOICE, assumption log 8). -/
def State.undo (s : State) (n : Nat) : State :=
  match s.cmd n with
  | none => s
  | some c =>
    let s1 := (s.discardStreaming fun p => decide (p.cmd = some n)).discardHeld fun p => decide (p.cmd = some n)
    let s2 := s1.uncharge (c.vol.elim 0 s.poolOf) c.charged
    (s2.endReads c).setCmd n { c with charged := 0, slots := 0, reads := [] }

/-- A command of an old generation that goes on until its actions are due, each of which is then discarded (R89): a read whose grains
are being fetched, and a command that the partner head runs. -/
def HostCmd.goesOn (c : HostCmd) : Bool := (decide (c.stage = .checked) && decide (c.reads ≠ [])) || decide (c.stage = .forwarded)

/-- A command is abandoned (R90, R158): parts in STREAMING are discarded with their charges, parts in HELD or COMMITTED stay, and its
completion is discarded. -/
def State.abandonCmd (s : State) (n : Nat) : State :=
  match s.cmd n with
  | none => s
  | some c =>
    if c.goesOn then s
    else
      let s1 := s.discardStreaming fun p => decide (p.cmd = some n)
      ((s1.uncharge (c.vol.elim 0 s.poolOf) c.charged).setCmd n { c with charged := 0 }).complete n c.status

/-- Abandon the commands of a function, whose generation has just changed (R90, R91). -/
def State.abandonFn (s : State) (f : Nat) : State :=
  (s.cmdsWhere fun c => decide (c.src.fn = some f)).foldl State.abandonCmd s

/-- The registers of a function's window go back to their reset values, MBOX and MBOX_DB apart (R83). -/
def State.clearWindow (s : State) (f : Nat) : State :=
  { s with front := { s.front with
      win := s.front.win.filter fun e => decide (¬ (winKey f 0 ≤ e.1 ∧ e.1 < winKey f 0xF000)),
      winLo := s.front.winLo.filter fun e => decide (¬ (winKey f 0 ≤ e.1 ∧ e.1 < winKey f 0xF000)) } }

/-- The message that a legacy DONE bit of the old generation asked for is discarded (R89, R97). -/
def State.staleDone (s : State) (f : Nat) : State :=
  let x := s.fn f
  if x.doneNew then
    let t := s.setFn f { x with doneNew := false }
    if Machine.bit (s.win f 0x004) 1 then t.staleDiscard f else t
  else s

/-- A function-level reset starts (R90): GEN increments, the function is RESETTING, and its commands are abandoned: no tag is in flight,
and no abort or legacy RESET is pending any more. What the spec does not say of the function's other settings is the model's choice:
feature values, power state, error log and queues go back to their defaults, and the other window registers stay (DESIGN CHOICE,
assumption log 77). -/
def State.startReset (s : State) (f : Nat) : State :=
  if s.fnState f = fnActive then
    let s1 := ((((s.bumpGen f).setFnState f fnResetting).abandonFn f).staleDone f).clearMailbox f
    let s2 := s1.setFn f { s1.fn f with leave := .reset s.now, resetReq := false, sqs := [], cqs := [], aers := [],
                                          feats := [], ps := 0, psNext := none, psOper := 0, errLog := [] }
    let s3 := (s2.winBit f 0x014 0 false).winBit f 0x01C 0 false
    if (s3.fn f).legacy then ((s3.wrWin f 0x00C 0).wrWin f 0x014 0).winBit f 0x004 2 false else s3
  else s.setFn f { s.fn f with resetReq := false }

/-- A removal starts (R91): the function is REMOVING and its commands are handled as in a reset. -/
def State.startRemoval (s : State) (f : Nat) (absentAfter : Bool) : State :=
  let s1 := ((((s.bumpGen f).setFnState f fnRemoving).abandonFn f).staleDone f).clearMailbox f
  let s2 := s1.setFn f { s1.fn f with leave := .removal s.now absentAfter, resetReq := false, removeReq := none,
                                        sqs := [], cqs := [], aers := [] }
  if (s2.fn f).legacy then ((s2.wrWin f 0x00C 0).wrWin f 0x014 0).winBit f 0x004 2 false else s2

/-- The effect of an accepted management command (R87). -/
def State.fnEffect (s : State) (c : FnCmd) : State :=
  let f := s.fn c.fn
  if c.op = 1 then
    let s1 := s.applyQuota c
    let s2 := s1.setFn c.fn { s1.fn c.fn with legacy := c.legacy, ns := [], ps := 0, psNext := none, psOper := 0 }
    ((s2.bumpGen c.fn).setFnState c.fn fnActive)
  else if c.op = 2 then s.startRemoval c.fn false
  else if c.op = 3 then s.applyQuota c
  else if c.op = 4 then s.startReset c.fn
  else if c.op = 5 then s.setFn c.fn { f with ns := f.ns ++ [{ nsid := c.nsid, vol := c.vol, detaching := false }] }
  else if c.op = 6 then
    s.setFn c.fn { f with ns := f.ns.map fun a => if a.nsid = c.nsid then { a with detaching := true } else a }
  else
    let s1 := (List.range 64).foldl (fun s i => s.wrWin c.fn (0xF000 + 4 * i) (c.reply.getD i 0)) s
    (s1.winBit c.fn 0xF100 1 true).postMsix c.fn (Machine.fld (s1.win c.fn 0xF100) 2 11)

/-- Step of the commit point: the management command under way applies or is refused, BUSY clears and CMD_DONE is set
(R87); an FLR that waited for it may then start (R90). -/
def State.fnCmdApply (s : State) : State :=
  match s.front.fnCmd with
  | none => s
  | some c =>
    let st := s.fnCheck c
    let s1 := { s with front := { s.front with fnCmd := none } }
    let s2 := if st = St.success then s1.fnEffect c else s1
    let s3 := (s2.wrN R.FN_CMD_STATUS st).event 12 0
    let g := s3.fn c.fn
    if g.flrWait then s3.setFn c.fn { g with flrWait := false, resetReq := true } else s3

/-- Step of the commit point: function-level resets and removals that were requested start (R90, R91). -/
def State.fnLeaveApply (s : State) : State :=
  (s.front.fns.map Prod.fst).foldl (fun s f =>
    let x := s.fn f
    let s1 := if x.resetReq then s.startReset f else s
    match x.removeReq with
    | some a => s1.startRemoval f a
    | none => s1) s

/-- DETACH_NSID_FREE (R87): once the commands fetched before a DETACH have completed, the NSID is free. -/
def execDetachNsidFree (f nsid : Nat) (s : State) : Out :=
  let busy := s.front.cmds.any fun p => decide (p.2.src.fn = some f ∧ p.2.img.nsid = nsid ∧ p.2.vol ≠ none)
  let x := s.fn f
  .next (if busy then s else s.setFn f { x with ns := x.ns.filter fun a => decide (a.nsid ≠ nsid) || !a.detaching })

/-! ### Mailboxes (R82, R83) -/

/-- MBOX_WRITE (R83): word `i` of the function's MBOX; discarded while RING = 1, and in ABSENT. -/
def execMboxWrite (f i : Nat) (w : Word) (s : State) : Out :=
  .next (if s.fnState f = fnAbsent ∨ bit (s.win f 0xF100) 0 then s else s.wrWin f (0xF000 + 4 * (i % 64)) w)

/-- MBOX_RING (R83). -/
def execMboxRing (f : Nat) (s : State) : Out :=
  .next (if s.fnState f = fnAbsent then s
  else ((s.winBit f 0xF100 0 true).putBit (R.MGMT_DB_PEND (f / 32)) (f % 32) true).event 12 1)

/-- MGMT_DB_TAKE (R83, R85): writing 1 to bits of MGMT_DB_PEND word `i` takes the messages and clears each RING in the same
engine clock. -/
def execMgmtDbTake (i : Nat) (m : Word) (s : State) : Out :=
  let taken := (List.range 32).filter fun b => bit m b && bit (s.rd (R.MGMT_DB_PEND i)) b
  let s1 := s.wr (R.MGMT_DB_PEND i) (s.rd (R.MGMT_DB_PEND i) &&& ~~~m)
  .next (taken.foldl (fun s b => s.winBit (32 * i + b) 0xF100 0 false) s1)

/-! ### Resets and removal (R90, R91) -/

/-- A function-level reset is asked for: it waits while an FNMGR command for the function is BUSY, and is none for a
function that is not ACTIVE (R90). -/
def State.askReset (s : State) (f : Nat) : State :=
  match s.front.fnCmd with
  | some c => if c.fn = f then s.setFn f { s.fn f with flrWait := true }
              else if s.fnState f = fnActive then s.setFn f { s.fn f with resetReq := true } else s
  | none => if s.fnState f = fnActive then s.setFn f { s.fn f with resetReq := true } else s

/-- PCIE_FLR (R90): counted in PCIE_FLR whatever the function's state. -/
def execPcieFlr (f : Nat) (s : State) : Out := .next ((s.count R.PCIE_FLR).askReset f)

/-- NVME_CC_EN_CLEAR (R90). -/
def execNvmeCcEnClear (f : Nat) (s : State) : Out :=
  .next (if bit (s.win f 0x014) 0 ∧ (s.fn f).legacy = false then (s.winBit f 0x014 0 false).askReset f else s)

/-- NVME_CC_EN_SET (R82): the host enables the controller; CSTS.RDY follows (assumption log 7). -/
def execNvmeCcEnSet (f : Nat) (s : State) : Out :=
  .next (if s.fnState f = fnActive ∧ (s.fn f).legacy = false then
    let x := s.fn f
    let entries := fun lo => Machine.fld (s.win f 0x024) lo 12 + 1
    (((s.winBit f 0x014 0 true).winBit f 0x01C 0 true).setFn f
      { x with sqs := x.sqs.put 0 { size := entries 0, tail := 0, head := 0 },
               cqs := x.cqs.put 0 { size := entries 16, tail := 0, head := 0, ien := true, vec := 0 } })
  else s)

/-- FN_RESET_DONE (R90): every non-posted request of the old generation has ended. -/
def execFnResetDone (f : Nat) (s : State) : Out :=
  .next (if s.fnState f = fnResetting then
    ((s.setFn f { s.fn f with leave := .none }).setFnState f fnActive).event 12 2 else s)

/-- SRIOV_NUMVFS_CHANGE (R87, R91): VFs 1 to `n` are exposed as DISABLED; VFs dropped are removed. A VF that was created before keeps its
GEN when it is exposed again (R87 says GEN 0x0000 of VFs that enter DISABLED, R88 that 0x0000 means never created: DESIGN CHOICE,
assumption log 75). -/
def execSriovNumvfsChange (n : Nat) (enable : Bool) (s : State) : Out :=
  let k := if enable then min n 248 else 0
  let s0 := { s with front := { s.front with numVfs := k } }
  .next ((List.range 248).foldl (fun s i =>
    let f := i + 1
    if f ≤ k then
      if s.fnState f = fnAbsent then (s.setFn f { s.fn f with exposed := true }).setFnState f fnDisabled
      else
        match (s.fn f).leave with
        | .removal t _ => s.setFn f { s.fn f with exposed := true, leave := .removal t false }
        | _ => s
    else if s.fnState f = fnDisabled then
      (s.setFn f { s.fn f with exposed := false }).setFnState f fnAbsent
    else if s.fnState f = fnActive ∨ s.fnState f = fnResetting then
      s.setFn f { s.fn f with exposed := false, removeReq := some true }
    else
      match (s.fn f).leave with
      | .removal t _ => s.setFn f { s.fn f with exposed := false, leave := .removal t true }
      | _ => s) s0)

/-- FN_REMOVAL_DONE (R91): after the last command of any generation has left, quotas return, namespaces are detached, the
Weir entry goes and REMOVED is set. -/
def execFnRemovalDone (f : Nat) (s : State) : Out :=
  match (s.fn f).leave with
  | .removal _ absentAfter =>
    if s.fnState f = fnRemoving ∧ (s.front.cmds.any fun p => decide (p.2.src.fn = some f)) = false then
      let x := s.fn f
      let s1 := s.wrN R.POOL_QP_FREE (s.rdN R.POOL_QP_FREE + x.qpQuota)
      let s2 := s1.setFn f { x with leave := .none, ns := [], qpQuota := 0, cistQuota := 0, msix := 0, legacy := false,
                                      feats := [], ps := 0, psNext := none, psOper := 0, errLog := [], doneNew := false }
      let s3 := ((s2.setWeir f 0x00010001 0x00010001).wrN (R.WEIR_BAL f) 0).clearWindow f
      let s3 : State := { s3 with shadow := (s3.shadow.drop (R.WEIR_MIN f)).drop (R.WEIR_MAX f) }
      .next ((s3.setFnState f (if absentAfter then fnAbsent else fnDisabled)).event 12 4)
    else .next s
  | _ => .next s

/-! ### The PCIe link (R84) -/

/-- A DMA read that command `n` of function `f` issued times out: the command completes with BUSY_RETRY and nothing applied (R84). -/
def State.dmaTimeout (s : State) (f n : Nat) (injected : Bool) : State :=
  ((((s.undo n).complete n St.busyRetry).count R.PCIE_CPL_TMO).event 24 3).raise 24 0x0100 1 f injected

/-- PCIE_CPL_TIMEOUT (R84). -/
def execPcieCplTimeout (f n : Nat) (s : State) : Out := .next (s.dmaTimeout f n false)

/-- A DMA read is issued for command `n` of function `f`: an armed injection makes it time out (R84). -/
def State.dmaRead (s : State) (f n : Nat) : State :=
  let (t, fired) := s.inject 24 0x03 f
  if fired then t.dmaTimeout f n true else t

/-- PCIE_POISONED_TLP (R84). -/
def execPciePoisonedTlp (f n : Nat) (s : State) : Out :=
  .next ((((s.undo n).complete n St.busyRetry).count R.PCIE_POISONED).raise 24 0x0101 1 f)

/-! ### The identity of a function in its configuration space (R81) -/

/-- A base address register: bytes, and 64-bit, non-prefetchable memory. -/
structure Bar where
  index : Nat
  bytes : Nat
  wide : Bool
  prefetchable : Bool
  deriving DecidableEq, Repr

/-- The items of R81 that a function's configuration space holds. -/
structure FnIdentity where
  vendor : Nat
  device : Nat
  classCode : Nat
  bars : List Bar
  msixEntries : Nat
  /-- TotalVFs, VF stride and first VF offset of the SR-IOV capability of PF0. -/
  sriov : Option (Nat × Nat × Nat)
  deriving DecidableEq, Repr

/-- The configuration space of function `f` (R81): the class code of a VF follows the queue mode it was created with. -/
def State.identity (s : State) (f : Nat) : FnIdentity :=
  { vendor := 0x4C58, device := if f = 0 then 0x7240 else 0x7241,
    classCode := if f ≠ 0 ∧ fnActive ≤ s.fnState f ∧ (s.fn f).legacy = false then 0x010802 else 0x018000,
    bars := if f = 0 then [⟨0, 0x1000000, true, false⟩, ⟨2, 0x10000, true, false⟩] else [⟨0, 0x10000, true, false⟩],
    msixEntries := 2048, sriov := if f = 0 then some (248, 1, 1) else none }

/-- The trained link in PCIE_LINK: LTSSM L0, DL_ACTIVE, SRIS (R84). -/
def pcieLinkWord (speed width : Nat) : Word :=
  BitVec.ofNat 32 (speed % 16 + (width % 32) * 2 ^ 4 + 2 ^ 9 + 2 ^ 10 + 3 * 2 ^ 16)

/-- The link trained below 32 GT/s or below 16 lanes (R84). -/
def State.trainedDown (s : State) (speed width : Nat) : State :=
  if speed < 5 ∨ width < 16 then s.raise 24 0x0103 0 0 else s

/-- PCIE_LINK_UP (R81, R84). -/
def execPcieLinkUp (speed width : Nat) (s : State) : Out :=
  .next (((s.wr R.PCIE_LINK (pcieLinkWord speed width)).event 24 0).trainedDown speed width)

/-- PCIE_SPEED_CHANGE (R84). -/
def execPcieSpeedChange (speed width : Nat) (s : State) : Out :=
  .next ((((s.wr R.PCIE_LINK (pcieLinkWord speed width)).count R.PCIE_RETRAINS).event 24 2).trainedDown speed width)

end Sys2Proof.Machine
end

