-- ==== Sys2Proof/Machine/Queues.lean ====
section
/-! DEFINITION. Legacy and NVMe queues: doorbells, issue, tag blocks, abort and reset, command fetch, and the power states
(03_host_functions.md, R82, R88, R95 to R99, R104, R106, R107). -/

namespace Sys2Proof.Machine

/-- The head is fenced, or an L4 has been placed (R374, R379). -/
def State.fenced (s : State) : Bool := decide (s.fld R.TD_STATE 0 3 = 5) || s.tandem.fencing

/-- Nothing is fetched or admitted: the head is fenced, or the Spillway runs (R165, R379). -/
def State.stopped (s : State) : Bool := s.fenced || s.spilling

/-! ### Doorbells (R82, R106) -/

/-- An I/O doorbell in PS3 returns the function to its last operational state at the next commit point (R106). -/
def Fn.wake (x : Fn) (qid : Nat) : Fn := if qid ≠ 0 ∧ x.ps = 3 then { x with psNext := some x.psOper } else x

/-- NVME_SQ_DOORBELL (R82). -/
def execNvmeSqDoorbell (f qid tail : Nat) (s : State) : Out :=
  let x := s.fn f
  .next (match x.sqs.find qid with
  | none => s
  | some q => if q.size ≤ tail then s else s.setFn f (Fn.wake { x with sqs := x.sqs.put qid { q with tail := tail } } qid))

/-- NVME_CQ_DOORBELL (R82). -/
def execNvmeCqDoorbell (f qid head : Nat) (s : State) : Out :=
  let x := s.fn f
  .next (match x.cqs.find qid with
  | none => s
  | some q => if q.size ≤ head then s else s.setFn f { x with cqs := x.cqs.put qid { q with head := head } })

/-! ### The legacy queue (R95 to R99) -/

/-- CAP of a controller (R100, R133): MQES, CQR 1, AMS 0, TO 1, DSTRD 0, NSSRS 0, MPSMIN 0, MPSMAX 4; where the fields lie is PRESUMED
(assumption log 7). -/
def nvmeCap (mqes : Nat) : Nat := mqes + 2 ^ 16 + 2 ^ 24 + 4 * 2 ^ 52

/-- VS of a controller (R100). -/
def nvmeVs : Word := 0x00020000

/-- LQ_CTRL, LQ_STATUS, LQ_ISSUE, LQ_DONE and LQ_ABORT in the window (R95). -/
def lqCtrl : Nat := 0x004
def lqStatus : Nat := 0x008
def lqIssue : Nat := 0x00C
def lqDone : Nat := 0x010
def lqAbort : Nat := 0x014
def lqIntVec : Nat := 0x018

/-- A legacy queue exists: the function was created with QMODE = 1 (R82). -/
def State.hasLq (s : State) (f : Nat) : Bool := (s.fn f).legacy && decide (fnActive ≤ s.fnState f)

/-- FAULT: head fenced or function not ACTIVE (R95). -/
def State.lqFault (s : State) (f : Nat) : Bool := s.fenced || decide (s.fnState f ≠ fnActive)

/-- Tag `t` is in flight (R95). -/
def State.inFlight (s : State) (f t : Nat) : Bool := Machine.bit (s.win f lqIssue) t

/-- The tags 0 to 31 that a mask names. -/
def tagsOf (m : Word) : List Nat := (List.range 32).filter fun t => Machine.bit m t

/-- LQ_ISSUE (R96): ignored while ENABLE = 0 or READY = 0; a tag in flight is not issued again. -/
def execLqIssue (f : Nat) (m : Word) (s : State) : Out :=
  .next (if s.hasLq f ∧ Machine.bit (s.win f lqCtrl) 0 ∧ Machine.bit (s.win f lqStatus) 0 then
    (tagsOf m).foldl (fun s t =>
      if s.inFlight f t then s else (s.winBit f lqIssue t true).winBit f lqDone t false) s
  else s)

/-- The writable bits of a tag block register (R95): TG_STATUS is RO. -/
def tagMask (o : Nat) : Word :=
  match o % 32 with
  | 0x00 => 0x00FF07FF
  | 0x08 => 0x0000FFFF
  | 0x0C => 0x0000FFFF
  | 0x1C => 0
  | _ => 0xFFFFFFFF

/-- LQ_TAG_WRITE (R96): a write of tag block register `i` (0 to 7) of tag `t`; the pairs TG_LBA and TG_BUF take effect when their
`_HI` half is written (R15). -/
def execLqTagWrite (f t i : Nat) (v : Word) (s : State) : Out :=
  .next (if s.hasLq f ∧ t < 32 ∧ i < 8 then
    if s.inFlight f t then s.winBit f lqStatus 2 true
    else
      let o := 0x100 + 32 * t + 4 * i
      if i = 7 then s
      else if i = 1 ∨ i = 4 then { s with front := { s.front with winLo := s.front.winLo.put (winKey f o) v } }
      else if i = 2 ∨ i = 5 then
        let lo := (s.front.winLo.find (winKey f (o - 4))).getD (s.win f (o - 4))
        let t : State := { s with front := { s.front with winLo := s.front.winLo.drop (winKey f (o - 4)) } }
        (t.wrWin f (o - 4) lo).wrWin f o (v &&& tagMask o)
      else s.wrWin f o (v &&& tagMask o)
  else s)

/-- The command of a tag, if it has been fetched under the present generation. -/
def State.tagCmd (s : State) (f t : Nat) : Option (Nat × HostCmd) :=
  s.front.cmds.first fun _ c => decide (c.src = .legacy f t ∧ c.gen = s.fnGen f)

/-- A tag that the Weir has not admitted completes with a status; a command that is not fetched yet leaves no other trace. -/
def State.tagComplete (s : State) (f t status : Nat) : State :=
  match s.tagCmd f t with
  | some (n, _) => s.complete n status
  | none => s.answer (.legacy f t) status 0

/-- Has the Weir admitted the command of a tag (R99)? -/
def State.tagUnadmitted (s : State) (f t : Nat) : Bool :=
  match s.tagCmd f t with
  | some (_, c) => decide (c.stage = .fetched)
  | none => true

/-- LQ_ABORT (R99): an unadmitted tag completes with ABORTED_BY_HOST; otherwise the bit stays until the tag completes. -/
def execLqAbort (f : Nat) (m : Word) (s : State) : Out :=
  .next (if s.hasLq f then
    (tagsOf m).foldl (fun s t =>
      if s.inFlight f t then
        let s1 := s.winBit f lqAbort t true
        if s.tagUnadmitted f t then s1.tagComplete f t St.abortedByHost else s1
      else s) s
  else s)

/-- LQ_RESET (R99): RESET reads 1 until done. -/
def execLqReset (f : Nat) (s : State) : Out := .next (if s.hasLq f then s.winBit f lqCtrl 2 true else s)

/-- The outcome of a command is already decided (R99): a Flush, or a write all of whose parts are sealed, with the status
of the part that failed, if any (assumption log 8). -/
def State.decided (s : State) (n : Nat) (c : HostCmd) : Option Nat :=
  if c.stage = .finishing then some St.success
  else if 0 < c.parts ∧ c.granted = c.parts ∧ (s.partsOf n).all fun p => decide (p.2.lock ≠ .streaming) then some c.status
  else none

/-- A command whose outcome is being decided outside the reach of a RESET: the partner head runs it, or a part of it is COMMITTED. Its
tag finishes with its own status, and RESET reads 1 until then (DESIGN CHOICE, assumption log 8). -/
def State.deciding (s : State) (n : Nat) (c : HostCmd) : Bool :=
  decide (c.stage = .forwarded) || (s.partsOf n).any fun p => decide (p.2.lock = .committed)

/-- A tag in flight meets a RESET (R99): it completes with its true status where its outcome is decided, waits where that is being
decided, and completes with ABORTED_BY_RESET and nothing applied otherwise. -/
def State.lqResetTag (s : State) (f t : Nat) : State :=
  match s.tagCmd f t with
  | none => s.tagComplete f t St.abortedByReset
  | some (n, c) =>
    match s.decided n c with
    | some st => s.complete n st
    | none => if s.deciding n c then s else (s.undo n).complete n St.abortedByReset

/-- Step of the commit point: requested legacy resets complete the tags in flight, and clear once none is left (R99). -/
def State.lqResetApply (s : State) : State :=
  (s.front.fns.map Prod.fst).foldl (fun s f =>
    if (s.fn f).legacy ∧ Machine.bit (s.win f lqCtrl) 2 then
      let s1 := (tagsOf (s.win f lqIssue)).foldl (fun s t => s.lqResetTag f t) s
      if s1.win f lqIssue = 0 then s1.winBit f lqCtrl 2 false else s1
    else s) s

/-- What a read of a window register returns (R82, R83, R95, R100): before creation only MBOX and MBOX_DB read, and FAULT of LQ_STATUS
shows the head and the function as they are. -/
def State.winRead (s : State) (f o : Nat) : Word :=
  if 0xF000 ≤ o then (if s.fnState f = fnAbsent then 0 else s.win f o)
  else if s.fnState f < fnActive then 0
  else if (s.fn f).legacy then
    if o = 0 then 0x51200300
    else if o = lqStatus then Machine.putBit (s.win f lqStatus) 1 (s.lqFault f)
    else s.win f o
  else if o = 0 then BitVec.ofNat 32 (nvmeCap 0xFFFF)
  else if o = 4 then BitVec.ofNat 32 (nvmeCap 0xFFFF / 2 ^ 32)
  else if o = 8 then nvmeVs
  else s.win f o

/-- Step of the commit point: READY follows ENABLE, FAULT and RESET (R95); `resetting` names the functions whose RESET was
under way at this commit point. -/
def State.lqReadyUpdate (s : State) (resetting : List Nat) : State :=
  (s.front.fns.map Prod.fst).foldl (fun s f =>
    if (s.fn f).legacy then
      let ready := Machine.bit (s.win f lqCtrl) 0 && !s.lqFault f && decide (f ∉ resetting)
      s.winBit f lqStatus 0 ready
    else s) s

/-- The functions with a legacy RESET pending. -/
def State.lqResetting (s : State) : List Nat :=
  (s.front.fns.map Prod.fst).filter fun f => (s.fn f).legacy && Machine.bit (s.win f lqCtrl) 2

/-- Step of the commit point: one message on LQ_INT_VEC if any DONE bit was set since the last (R97). -/
def State.lqIntPost (s : State) : State :=
  (s.front.fns.map Prod.fst).foldl (fun s f =>
    let x := s.fn f
    if x.legacy ∧ x.doneNew ∧ Machine.bit (s.win f lqCtrl) 1 then
      (s.setFn f { x with doneNew := false }).postMsix f (Machine.fld (s.win f lqIntVec) 0 11)
    else s) s

/-! ### Fetching (R88, R98, R102, R107) -/

/-- The operation of a legacy opcode (R98). -/
def lqOp : Nat → HostOp
  | 1 => .read | 2 => .write | 3 => .flush | 4 => .verify | 5 => .dealloc | 6 => .writeZeroes | _ => .invalid

/-- Stored bytes of a sector of a FORMAT byte: 512, 520, 4,096 or 4,104 (R98). -/
def storedBytes (format : Nat) : Nat := sectorBytes format + (if hasPi format then 8 else 0)

/-- The command that a tag block spells (R95, R98); the descriptor list behind LIST = 1 is `img`'s. -/
def State.lqImg (s : State) (f t : Nat) (img : CmdImg) : CmdImg :=
  let w := fun i => s.win f (0x100 + 32 * t + 4 * i)
  let cmd := w 0
  let nsid := Machine.fld cmd 16 8 + 1
  let blocks := Machine.fld (w 3) 0 16
  let format := (((s.fn f).ns.find? fun a => decide (a.nsid = nsid)).bind fun a => s.vol a.vol).elim 0 Vol.format
  let list := Machine.bit cmd 10
  { img with
    op := lqOp (Machine.fld cmd 0 8), nsid := nsid, slba := (w 1).toNat + Machine.fld (w 2) 0 16 * 2 ^ 32, blocks := blocks,
    fua := Machine.bit cmd 8, atomic := Machine.bit cmd 9, pract := false, chkGuard := true, chkApp := false, chkRef := true,
    ilbrt := (w 6).toNat, metaLen := none, descLen := if list then img.descLen else blocks * storedBytes format,
    listOk := if list then img.listOk else true }

/-- The volume that a namespace of a function names to commands fetched now (R87). -/
def State.nsVol (s : State) (f nsid : Nat) : Option Nat :=
  ((s.fn f).ns.find? fun a => decide (a.nsid = nsid) && !a.detaching).map NsAtt.vol

/-- A new host command. -/
def State.newCmd (s : State) (src : CmdSrc) (gen subject : Nat) (vol : Option Nat) (img : CmdImg) : State :=
  let c : HostCmd :=
    { src := src, gen := gen, img := img, vol := vol, stage := .fetched, fetchedAt := s.now, subject := subject,
      admittedAt := 0, parts := 0, granted := 0, committed := 0, durable := 0, discarded := 0, status := 0, reads := [],
      slots := 0, charged := 0, admitNo := 0, waited := false, tsn := 0 }
  { s with front := { s.front with cmds := s.front.cmds.put s.front.nextCmd c, nextCmd := s.front.nextCmd + 1 } }

/-- A command is fetched, and one of an opcode that the queue does not support completes with INVALID_OPCODE (R98, R102). -/
def State.fetch (s : State) (src : CmdSrc) (gen subject : Nat) (vol : Option Nat) (img : CmdImg) (bad : Bool) : State :=
  let n := s.front.nextCmd
  let s1 := s.newCmd src gen subject vol img
  if bad then s1.complete n St.invalidOpcode else s1

/-- A supported administrative opcode of an NVMe controller (R102). -/
def HostOp.isAdmin : HostOp → Bool
  | .createSq | .createCq | .deleteSq | .deleteCq | .identify | .getLog | .setFeat | .getFeat | .abort | .aer => true
  | _ => false

/-- CMD_FETCH (R88): from a legacy tag that is issued, or from the head of a submission queue. The command latches its
function's generation. In PS3 nothing is fetched from I/O queues (R106); a function that is resetting or being removed is
not fetched from (R90, R91). -/
def execCmdFetch (src : CmdSrc) (img : CmdImg) (s : State) : Out :=
  if s.stopped then .next s
  else
    match src with
    | .legacy f t =>
      .next (if s.hasLq f ∧ s.fnState f = fnActive ∧ t < 32 ∧ s.inFlight f t ∧ (s.tagCmd f t).isNone
          ∧ Machine.bit (s.win f lqCtrl) 2 = false then
        let i := s.lqImg f t img
        s.fetch src (s.fnGen f) f (s.nsVol f i.nsid) i (decide (i.op = .invalid))
      else s)
    | .nvme f qid _ =>
      let x := s.fn f
      match x.sqs.find qid with
      | none => .next s
      | some q =>
        .next (if s.fnState f = fnActive ∧ x.legacy = false ∧ q.head ≠ q.tail ∧ (qid = 0 ∨ x.ps ≠ 3) then
          let s1 := s.setFn f { x with sqs := x.sqs.put qid { q with head := (q.head + 1) % max q.size 1 } }
          let bad := if qid = 0 then !img.op.isAdmin else !img.op.isIo
          s1.fetch src (s.fnGen f) f (s.nsVol f img.nsid) img bad
        else s)
    | _ => .next s

/-! ### Power states (R105, R106) -/

/-- At step 6 of the commit point, before the grants: power state changes take effect (R106). -/
def State.psApply (s : State) : State :=
  (s.front.fns.map Prod.fst).foldl (fun s f =>
    let x := s.fn f
    match x.psNext with
    | none => s
    | some p => s.setFn f { x with ps := p, psNext := none, psOper := if p < 3 then p else x.psOper }) s

/-- Step of the commit point: the Set Features commands whose power state has taken effect complete; a Flush completes SUCCESS at the
next commit point (R98, R103, R106). -/
def State.finishApply (s : State) : State :=
  s.completeAll (s.cmdsWhere fun c => decide (c.stage = .finishing)) St.success

end Sys2Proof.Machine
end

