-- ==== Sys2Proof/Machine/Weir.lean ====
section
/-! DEFINITION. The Weir: grants at the commit point and admission of commands (R92 to R94, R191, R222, R223). -/

namespace Sys2Proof.Machine

/-! ### Grants (R93) -/

/-- Low bit of a class in WEIR_MIN, WEIR_MAX and WEIR_BAL: RD 0, WR 16 (R94). -/
abbrev wRd : Nat := 0
abbrev wWr : Nat := 16

/-- The balance of a subject in a class (R94). -/
def State.weirBal (s : State) (subj lo : Nat) : Int := sgn16 (s.fld (R.WEIR_BAL subj) lo 16)

/-- The balance of a subject takes a value. -/
def State.setWeirBal (s : State) (subj lo : Nat) (b : Int) : State := s.putFld (R.WEIR_BAL subj) lo 16 (toField 16 b)

/-- psf as a divisor, 0 for the factor 0 (R105): functions only. -/
def State.psDiv (s : State) (subj : Nat) : Nat :=
  if 249 ≤ subj then 1
  else
    match (s.fn subj).ps with
    | 0 => 1 | 1 => 2 | 2 => 4 | _ => 0

/-- The subjects that have a Weir entry (R94). -/
def State.weirSubjects (s : State) : List Nat :=
  ((List.range 249).filter s.hasWeir) ++ (List.range 256).map (256 + ·)

/-- The class of an operation: none for a Flush (R92). -/
def HostOp.weirClass : HostOp → Option Nat
  | .read | .verify => some wRd
  | .write | .writeZeroes | .dealloc => some wWr
  | _ => none

/-- A subject has commands of a class waiting. -/
def State.weirWaits (s : State) (subj lo : Nat) : Bool :=
  s.front.cmds.any fun p => decide (p.2.subject = subj ∧ p.2.stage = .fetched ∧ p.2.img.op.weirClass = some lo)

/-- The cap of a class; WR_CAP stands in for the WR cap while it is lower (R94, R191). -/
def State.weirCap (s : State) (lo : Nat) : Nat :=
  let cap := s.fld R.WEIR_CAP lo 16
  if lo = wWr then min cap s.wrCap else cap

/-- One subject while grants are made: its number, balance, grains granted, ceiling. -/
structure WeirRow where
  subj : Nat
  bal : Int
  g : Nat
  ceil : Nat
  waits : Bool
  deriving DecidableEq, Repr

/-- The MIN grant of a subject, with scale = cap / sum of MIN where the sum exceeds cap (R93). -/
def State.weirMinGrant (s : State) (lo cap sum subj : Nat) : WeirRow :=
  let d := s.psDiv subj
  let m := s.fld (R.WEIR_MIN subj) lo 16
  let mx := s.fld (R.WEIR_MAX subj) lo 16
  let g := if d = 0 then 0 else if cap < sum then m * cap / (sum * d) else m / d
  let b := s.weirBal subj lo
  { subj := subj, bal := (if 0 < b then 0 else b) + (g : Int), g := g, ceil := if d = 0 then 0 else mx / d,
    waits := s.weirWaits subj lo }

/-- Spare grains go one at a time, in rotation, to subjects with commands waiting that are below their ceiling (R93): `queue`
holds those, `done` the ones that have reached it. -/
def weirSpare : Nat → List WeirRow → List WeirRow → List WeirRow
  | 0, queue, done => queue ++ done
  | _, [], done => done
  | n + 1, r :: queue, done =>
    let r1 := { r with bal := r.bal + 1, g := r.g + 1 }
    if r1.g < r1.ceil then weirSpare n (queue ++ [r1]) done else weirSpare n queue (r1 :: done)

/-- The subject may take spare grains: commands wait and its grant is below its ceiling (R93). -/
def WeirRow.open_ (r : WeirRow) : Bool := r.waits && decide (r.g < r.ceil)

/-- The grants of one class (R93). -/
def State.weirClass (s : State) (order : List Nat) (lo : Nat) : State :=
  let cap := s.weirCap lo
  let sum := (order.map fun x => s.fld (R.WEIR_MIN x) lo 16).sum
  let rows := order.map (s.weirMinGrant lo cap sum)
  let spare := cap - (rows.map WeirRow.g).sum
  let rows1 := if s.spilling then rows.map fun r => { r with bal := r.bal - (r.g : Int), g := 0 }
    else weirSpare spare (rows.filter WeirRow.open_) (rows.filter fun r => !r.open_)
  rows1.foldl (fun s r => s.setWeirBal r.subj lo r.bal) s

/-- The rotation of this stride: it starts at the subject after last stride's first (R93). -/
def weirOrder (first : Nat) (subjects : List Nat) : List Nat :=
  (subjects.filter fun x => decide (first < x)) ++ subjects.filter fun x => decide (x ≤ first)

/-- Step 6 of the commit point: the Weir's grants of both classes (R93). From the start of the Spillway it grants zero
(R165). -/
def State.weirGrant (s : State) : State :=
  let order := weirOrder s.front.weirFirst s.weirSubjects
  let s1 := (s.weirClass order wRd).weirClass order wWr
  { s1 with front := { s1.front with weirFirst := order.headD s.front.weirFirst } }

/-! ### Admission (R92, R222, R223) -/

/-- Grains of a host command: those from its first sector's to its last sector's. -/
def grainSpan (format slba blocks : Nat) : Nat × Nat :=
  let k := sectorsPerGrain format
  if blocks = 0 then (slba / k, 0) else (slba / k, (slba + blocks - 1) / k - slba / k + 1)

/-- FORMAT of the volume a command names; 512 without protection information where it names none. -/
def State.cmdFormat (s : State) (c : HostCmd) : Nat := (c.vol.bind s.vol).elim 0 Vol.format

/-- Grains charged to a command: ceil(b / 4,096), at least 1; 1 for Deallocate and Write Zeroes, none for a Flush (R92). -/
def State.weirCharge (s : State) (c : HostCmd) : Nat :=
  match c.img.op with
  | .read | .verify | .write => max 1 (ceilDiv (c.img.blocks * sectorBytes (s.cmdFormat c)) 4096)
  | .writeZeroes | .dealloc => 1
  | _ => 0

/-- The sectors of grain `g` that sectors `slba .. slba + blocks - 1` cover, as a mask. -/
def sectorMask (format slba blocks g : Nat) : Nat :=
  let k := sectorsPerGrain format
  (List.range k).foldl (fun m i => if slba ≤ g * k + i ∧ g * k + i < slba + blocks then m + 2 ^ i else m) 0

/-- A grain descriptor of a part that covers grain `g` of the volume, if it supplies any of it and is not OVERTAKEN. -/
def Part.grainAt (p : Part) (g : Nat) : Option Grain :=
  if p.first ≤ g then (p.grains[g - p.first]?).bind fun x => if x.overtaken then none else some x else none

/-- The in-flight searches of a read, one for each of its parts, with MASK0 and INCL_PENDING = 0 (R223): the VALID locks found. -/
def State.readSearch (s : State) (vol : Nat) (miss bad : List Nat) : List Nat → State × List Nat
  | [] => (s, [])
  | b :: bs =>
    let (s1, l) := s.inflight vol b false miss bad
    let (s2, r) := s1.readSearch vol [] [] bs
    (s2, l ++ r)

/-- The grains of a read at its in-flight search, with the COMMITTED entries chosen for each among those found, highest CSEQ first
(R223). -/
def State.readGrains (s : State) (vol format slba blocks : Nat) (found : List Nat) : List RdGrain :=
  let (first, n) := grainSpan format slba blocks
  (List.range n).map fun i =>
    let g := first + i
    let chosen := ((s.cist.parts.filter fun p => decide (p.1 ∈ found ∧ p.2.lock = .committed ∧ p.2.vol = vol)
      && (p.2.grainAt g).isSome).map Prod.fst).reverse
    { vol := vol, grain := g, part := g / 256 - first / 256, chosen := chosen, need := sectorMask format slba blocks g,
      data := List.replicate 4096 0, tags := List.replicate 8 0, blank := 0, addr := 0, mapped := false, lines := [], page := none,
      pageRead := false, path := .direct, stage := if chosen = [] then .lookup else .search, issued := 0, left := 0, bad := false,
      recon := Recon.start, forced := false, allDecoded := true, checkBad := false, status := 0 }

/-- The 1 MiB blocks of a read: one part each (R221). -/
def readBlocks (format slba blocks : Nat) : List Nat :=
  let (first, n) := grainSpan format slba blocks
  (List.range (if n = 0 then 0 else (first + n - 1) / 256 - first / 256 + 1)).map fun i => first / 256 + i

/-- Every Cistern entry that a read has chosen is held until its data is in the Basin (R224). -/
def State.holdEntries (s : State) (gs : List RdGrain) : State :=
  (gs.flatMap RdGrain.chosen).foldl (fun s q =>
    match s.part q with
    | none => s
    | some p => s.putPart q { p with readers := p.readers + 1 }) s

/-- The queue a command was fetched from: its commands are served in fetch order (R92). The 32 tags of a function are one queue. -/
def CmdSrc.queue : CmdSrc → Nat × Nat × Nat
  | .legacy f _ => (0, f, 0)
  | .nvme f qid _ => (1, f, qid)
  | .fabrics q _ => (2, q, 0)
  | .forwarded i => (3, i, 0)
  | .repl g q => (4, g, q)

/-- The submission queue or legacy tag of a command (R150). -/
def CmdSrc.queueOrTag : CmdSrc → Nat
  | .legacy _ tag => tag
  | src => src.queue.2.2

/-- An earlier command of the same queue waits (R92). -/
def State.behind (s : State) (n : Nat) (c : HostCmd) : Bool :=
  s.front.cmds.any fun p => decide (p.1 < n ∧ p.2.stage = .fetched ∧ p.2.img.op.isIo = true ∧ p.2.src.queue = c.src.queue)

/-- The blocks that host commands of a class go through, up to the media: the in-flight table, the read path and decompression; ingest,
the Cistern, digests, dedup and compression (R64). -/
def classPages (lo : Nat) : List Nat := if lo = wRd then [95, 96, 94, 93] else [95, 96, 88, 89, 90, 91, 92]

/-- A block that dispatches nothing holds back the admission of the class it serves (R64). -/
def State.weirHeld (s : State) (lo : Nat) : Bool := (classPages lo).any s.halted

/-- The number of the queue that a command came from, among those of its subject. -/
def CmdSrc.queueNo : CmdSrc → Nat
  | .nvme _ qid _ => qid
  | .fabrics q _ => q
  | _ => 0

/-- A command could be admitted now but for its queue's turn: its balance is at least 1 and no block holds its class back (R92). -/
def State.mayAdmit (s : State) (n : Nat) (c : HostCmd) : Bool :=
  decide (c.stage = .fetched ∧ c.img.op.isIo = true) && !s.behind n c
    && (c.img.op.weirClass.elim true fun lo => decide (1 ≤ s.weirBal c.subject lo) && !s.weirHeld lo)

/-- Places from the queue after the one last served to queue `q`, in rotation (R92). -/
def turnOf (last q : Nat) : Nat := if last < q then q - last - 1 else q + 2 ^ 32 - last

/-- Another queue of the same function comes first in the round robin (R92). -/
def State.notItsTurn (s : State) (n : Nat) (c : HostCmd) : Bool :=
  let last := (s.front.served.find c.subject).getD (2 ^ 32)
  s.front.cmds.any fun p => decide (p.2.subject = c.subject ∧ p.2.src.queue ≠ c.src.queue)
    && decide (turnOf last p.2.src.queueNo < turnOf last c.src.queueNo) && (decide (p.1 ≠ n) && s.mayAdmit p.1 p.2)

/-- The command takes its place in the order of admission, and its queue has had its turn (R92, R146). -/
def State.admitCmd (s : State) (n : Nat) (c : HostCmd) : State :=
  let s1 := s.setCmd n { c with stage := .admitted, admittedAt := s.now, admitNo := s.front.nextAdm, waited := false }
  { s1 with front := { s1.front with nextAdm := s.front.nextAdm + 1, served := s1.front.served.put c.subject c.src.queueNo } }

/-- A read looks for its data in the Cistern: the in-flight search of each part, and the entries chosen, which are held (R223, R224).
`miss` and `bad` are what the first search misses and finds bad. -/
def State.searchRead (s : State) (c : HostCmd) (v : Nat) (miss bad : List Nat) : State × List RdGrain :=
  let f := s.cmdFormat c
  let (s1, found) := s.readSearch v miss bad (readBlocks f c.img.slba c.img.blocks)
  let gs := s1.readGrains v f c.img.slba c.img.blocks found
  (s1.holdEntries gs, gs)

/-- A read's admission: Basin slots for every grain it touches, and the in-flight search in the same stride (R222, R223).
A volume of the partner head is searched there (R382). -/
def State.admitRead (s : State) (n : Nat) (c : HostCmd) (slots : Nat) (miss bad : List Nat) : State :=
  let s1 := s.wrN R.RD_BASIN_FREE (s.rdN R.RD_BASIN_FREE - slots)
  match c.vol with
  | some v =>
    if s.owns v then
      let (s2, gs) := s1.searchRead c v miss bad
      s2.admitCmd n { c with reads := gs, slots := slots }
    else s1.admitCmd n { c with slots := slots }
  | none => s1.admitCmd n { c with slots := slots }

/-- A read that waits for Basin slots is counted once (R236). -/
def State.basinWait (s : State) (n : Nat) (c : HostCmd) : State :=
  if c.waited then s else (s.setCmd n { c with waited := true }).count R.RD_BASIN_WAITS

/-- WEIR_ADMIT (R92): a waiting command is admitted when its subject's balance in its class is at least 1; the charge is
subtracted. `miss` and `bad` are of a read's in-flight search (R185, R173). -/
def execWeirAdmit (n : Nat) (miss bad : List Nat) (s : State) : Out :=
  match s.cmd n with
  | none => .next s
  | some c =>
    if c.stage ≠ .fetched ∨ c.img.op.isIo = false ∨ s.stopped ∨ s.behind n c ∨ s.notItsTurn n c then .next s
    else
      match c.img.op.weirClass with
      | none => .next (s.admitCmd n c)
      | some lo =>
        if s.weirBal c.subject lo < 1 ∨ s.weirHeld lo ∨ (lo = wRd ∧ s.camHeld 0) then .next s
        else
          let s1 := s.setWeirBal c.subject lo (s.weirBal c.subject lo - (s.weirCharge c : Int))
          if lo = wRd then
            let slots := if c.img.op = .read then (grainSpan (s.cmdFormat c) c.img.slba c.img.blocks).2 else 0
            if s.rdN R.RD_BASIN_FREE < slots then .next (s.basinWait n c)
            else .next (s1.admitRead n c slots miss bad)
          else .next (s1.admitCmd n c)

end Sys2Proof.Machine
end

