-- ==== Sys2Proof/Machine/Ingest.lean ====
section
/-! DEFINITION. Ingest (05_write_path.md, R141 to R147, R154 to R158): the checks of write-class commands, space charges,
range locks, acknowledgement and release. -/

namespace Sys2Proof.Machine

/-! ### Checks 1 to 6 (R141, R143) -/

/-- Most data bytes of a read, Verify or write: 1 MiB (R98, R100). -/
def maxData : Nat := 1048576

/-- The declared length (R107); with PRACT = 1 the host sends no protection information (R142). -/
def declaredLen (format : Nat) (img : CmdImg) : Nat :=
  img.blocks * (if img.pract then sectorBytes format else storedBytes format)

/-- What the descriptors describe is what the command declares (R107): data and metadata in separate buffers are held apart. -/
def lengthOk (format : Nat) (img : CmdImg) : Bool :=
  match img.metaLen with
  | none => decide (img.descLen = declaredLen format img)
  | some m =>
    decide (img.descLen = img.blocks * sectorBytes format
      ∧ m = img.blocks * (if img.pract then 0 else storedBytes format - sectorBytes format))

/-- Data in a command capsule is all that was declared; a capsule carries at most 4,096 bytes beyond the queue entry (R133, R135). -/
def capsuleOk (format : Nat) (img : CmdImg) : Bool := img.inCapsule.elim true fun b => decide (min b 4096 = declaredLen format img)

/-- Does the command move data between the host and the chip? -/
def HostOp.movesData : HostOp → Bool
  | .read | .write => true
  | _ => false

/-- The legacy ATOMIC check: the range crosses an aligned 1 MiB boundary (R98). -/
def crossesMiB (format slba blocks : Nat) : Bool :=
  let (g, n) := grainSpan format slba blocks
  decide (0 < n ∧ g / 256 ≠ (g + n - 1) / 256)

/-- Checks 2 to 5 of R141 for a command on a volume. -/
def fieldCheck (v : Vol) (c : HostCmd) : Nat :=
  let i := c.img
  if i.blocks = 0 ∨ i.op.movesData ∧ i.listOk = false then St.invalidField
  else if (i.op.movesData ∨ i.op = .verify) ∧ maxData < i.blocks * sectorBytes v.format then St.invalidField
  else if v.grains * sectorsPerGrain v.format < i.slba + i.blocks then St.lbaOutOfRange
  else if i.op = .write ∧ i.atomic ∧ c.src.queue.1 = 0 ∧ crossesMiB v.format i.slba i.blocks then St.atomicBoundary
  else if i.op.movesData ∧ (lengthOk v.format i && capsuleOk v.format i) = false then St.lengthMismatch
  else St.success

/-- Checks 1 to 5 of R141: HEAD_FENCED, then the volume and fields. -/
def State.checks (s : State) (c : HostCmd) : Nat :=
  if s.fenced then St.headFenced
  else
    match c.vol.bind s.vol with
    | none => St.invalidField
    | some v => fieldCheck v c

/-- Whole grains of a write: those all of whose sectors it covers (R143). -/
def wholeGrains (format slba blocks : Nat) : Nat :=
  let k := sectorsPerGrain format
  (slba + blocks) / k - (slba + k - 1) / k

/-- A group of the volume that is SUSPENDED with FAIL_HOLD = 1 refuses later writes (R393). -/
def State.failHeld (s : State) (v : Nat) : Bool :=
  s.tandem.groups.any fun g => g.2.vols.has v && decide (s.fld (R.RP_STATE g.1) 0 3 = 3) && s.bit (R.RP_CFG g.1) 2

/-- Check 6 (R143, R289): the pool's state, and the space charge, in grains. -/
def State.spaceCheck (s : State) (v : Vol) (c : HostCmd) : Nat :=
  let charge := if c.img.op = .write then wholeGrains v.format c.img.slba c.img.blocks else 0
  if s.space v.pool = spReadOnly ∨ v.snapshot ∨ v.replTarget then St.poolReadOnly
  else if c.img.op = .write ∧ (s.space v.pool = spExhausted ∨ s.poolFree v.pool < ((64 * charge : Nat) : Int)) then
    St.spaceExhausted
  else St.success

/-- The space charge of check 6 is taken; a charge that exceeds FREE makes the pool EXHAUSTED at the next commit point
(R143, R292). -/
def State.spaceCharge (s : State) (v : Vol) (charge : Nat) : State :=
  s.setPool v.pool fun q => { q with charge := q.charge + 64 * charge }

/-- A refusal is counted by its kind (R169). -/
def State.countRefusal (s : State) (st : Nat) : State :=
  if st = St.lengthMismatch then s.count R.ING_LEN_ERR
  else if st = St.lbaOutOfRange ∨ st = St.atomicBoundary then s.count R.ING_RANGE_ERR
  else s

/-- A command for a volume of the partner head goes there as FWD_CMD; with the link down it completes with HEAD_FENCED
(R382, R383). -/
def State.forward (s : State) (n : Nat) (c : HostCmd) (v : Nat) : State :=
  if s.tlActive then
    let id := s.tandem.nextFwd
    let (_, f, _) := c.src.queue
    let q := c.src.queueOrTag
    let s1 := (s.setCmd n { c with stage := .forwarded }).count R.TL_FWD_SENT
    ({ s1 with tandem := { s1.tandem with nextFwd := id + 1, fwdOut := s1.tandem.fwdOut.put id n } }).tlSend (.fwdCmd id c.img f q v)
  else s.complete n St.headFenced

/-- The owner takes or refuses a forwarded command at step 6 (R382). -/
def State.fwdTaken (s : State) (c : HostCmd) : State :=
  match c.src with
  | .forwarded id => s.tlSend (.fwdAccept id)
  | _ => s

/-- Grains of a write-class command that cover only some sectors (R147). -/
def partialGrains (format slba blocks : Nat) : Nat := (grainSpan format slba blocks).2 - wholeGrains format slba blocks

/-- Checks 1 to 6 passed: the command waits for its locks, one per part (R141, R144). -/
def State.accept (s : State) (n : Nat) (c : HostCmd) (v : Vol) : State :=
  let (g, k) := grainSpan v.format c.img.slba c.img.blocks
  let charge := if c.img.op = .write then wholeGrains v.format c.img.slba c.img.blocks else 0
  let parts := if k = 0 then 0 else (g + k - 1) / 256 - g / 256 + 1
  let s1 := (((s.spaceCharge v charge).count R.ING_CMDS).countBy R.ING_GRAINS k).countBy R.ING_PARTIAL
    (partialGrains v.format c.img.slba c.img.blocks)
  (s1.fwdTaken c).setCmd n { c with stage := .checked, parts := parts, charged := charge }

/-- A write-class command that the Weir has admitted runs through checks 1 to 6 of R141: the first that fails decides the
status, and nothing is applied. -/
def State.ingest (s : State) (n : Nat) (op : HostOp) (legacy : Bool) : State :=
  match s.cmd n with
  | none => s
  | some c =>
    if c.stage ≠ .admitted ∨ c.img.op ≠ op ∨ (decide (c.src.queue.1 = 0)) ≠ legacy then s
    else if s.isStale c then s.complete n St.headFenced
    else
      let st := s.checks c
      if st ≠ St.success then (s.countRefusal st).complete n st
      else
        match c.vol.bind s.vol with
        | none => s
        | some v =>
          let vn := c.vol.getD 0
          if s.owns vn = false then s.forward n c vn
          else if s.failHeld vn then s.complete n St.busyRetry
          else
            let sp := s.spaceCheck v c
            if sp = St.success then s.accept n c v
            else
              let s1 := if sp = St.spaceExhausted ∧ s.space v.pool ≠ spExhausted then
                s.setPool v.pool fun q => { q with exhaustNext := true } else s
              s1.complete n sp

/-- LQ_WRITE (R98, R141). -/
def execLqWrite (n : Nat) (s : State) : Out := .next (s.ingest n .write true)
/-- LQ_DEALLOCATE (R98, R141). -/
def execLqDeallocate (n : Nat) (s : State) : Out := .next (s.ingest n .dealloc true)
/-- LQ_WRITE_ZEROES (R98, R141). -/
def execLqWriteZeroes (n : Nat) (s : State) : Out := .next (s.ingest n .writeZeroes true)
/-- NVME_WRITE (R141). -/
def execNvmeWrite (n : Nat) (s : State) : Out := .next (s.ingest n .write false)
/-- NVME_WRITE_ZEROES (R141, R143). -/
def execNvmeWriteZeroes (n : Nat) (s : State) : Out := .next (s.ingest n .writeZeroes false)
/-- NVME_DATASET_MANAGEMENT (R102, R141, R143): Deallocate, of the one range that the command's operand gives (the spec does not say how many
ranges a command carries: DESIGN CHOICE, assumption log 78). -/
def execNvmeDatasetManagement (n : Nat) (s : State) : Out := .next (s.ingest n .dealloc false)

/-- A Flush completes SUCCESS at the next commit point (R98, R103). -/
def State.flushCmd (s : State) (n : Nat) (legacy : Bool) : State :=
  match s.cmd n with
  | none => s
  | some c =>
    if c.img.op = .flush ∧ (c.stage = .fetched ∨ c.stage = .admitted) ∧ (decide (c.src.queue.1 = 0)) = legacy then
      s.setCmd n { c with stage := .finishing }
    else s

/-- LQ_FLUSH (R98). -/
def execLqFlush (n : Nat) (s : State) : Out := .next (s.flushCmd n true)
/-- NVME_FLUSH (R103). -/
def execNvmeFlush (n : Nat) (s : State) : Out := .next (s.flushCmd n false)

/-! ### Range locks (R144 to R146, R175, R185) -/

/-- First grain and grain count of part `k` of a command. -/
def partRange (format slba blocks k : Nat) : Nat × Nat :=
  let (g, n) := grainSpan format slba blocks
  let b := g / 256 + k
  let lo := max g (256 * b)
  let hi := min (g + n) (256 * (b + 1))
  (lo, hi - lo)

/-- Two grain ranges of one volume overlap. -/
def Part.overlaps (p : Part) (vol first count : Nat) : Bool :=
  decide (p.vol = vol ∧ p.first < first + count ∧ first < p.first + p.count)

/-- A part of the range must wait: a lock in STREAMING or HELD overlaps it (R146), or its block holds 256 locks (R175). -/
def State.blocked (s : State) (vol first count : Nat) : Bool :=
  (s.cist.parts.any fun p => decide (p.2.lock ≠ .committed) && p.2.overlaps vol first count)
    || decide (256 ≤ (s.blockLocks vol (first / 256)).length)

/-- A command admitted earlier still waits for locks of the volume (R146). -/
def State.earlierWaits (s : State) (n vol : Nat) (c : HostCmd) : Bool :=
  s.front.cmds.any fun p => decide (p.1 ≠ n ∧ p.2.vol = some vol ∧ p.2.admitNo < c.admitNo)
    && decide (p.2.img.op.weirClass = some wWr)
    && (decide (p.2.stage = .admitted) || (decide (p.2.stage = .checked) && decide (p.2.granted < p.2.parts)))

/-- The Cistern quota of the command's function has room for `g` grains: MiB of 256 grains (R86, R87). Network tenants have
none (R148). -/
def State.quotaRoom (s : State) (c : HostCmd) (g : Nat) : Bool :=
  match c.src.fn with
  | some f => decide (s.quotaUse f + g ≤ (s.fn f).cistQuota * 256)
  | none => true

/-- Admission of the volume is held at step 7: SPILL_LOSS is not acknowledged, a transfer or recovery holds it, or restored entries of
it are still to be destaged (R167, R168, R380, R387). -/
def State.held (s : State) (v : Nat) : Bool :=
  s.bit R.CIST_STATUS 5 || (s.vol v).elim false Vol.held
    || s.cist.restored.elim false fun l => l.any fun q => (s.part q).elim false fun p => decide (p.vol = v)

/-- Descriptors of a Write Zeroes or Deallocate part: no data is fetched (R192). -/
def emptyGrain (op : HostOp) (full mask : Nat) : Grain :=
  { raw := false, zero := decide (op = .writeZeroes), hit := false, partGrain := decide (mask ≠ full), dealloc := decide (op = .dealloc),
    overtaken := false, hasData := false, mask := mask, lenGranules := 0, dedupAddr := 0, check := 0, digest := 0,
    piTags := [], body := [], policy := 0, probe := .none }

/-- The part that a lock is granted to (R145, R150). -/
def newPart (n : Nat) (c : HostCmd) (v : Vol) (vol : Nat) : Part :=
  let (first, count) := partRange v.format c.img.slba c.img.blocks c.granted
  let masks := (List.range count).map fun i => sectorMask v.format c.img.slba c.img.blocks (first + i)
  let full := 2 ^ sectorsPerGrain v.format - 1
  let whole := (masks.filter fun m => decide (m = full)).length
  { cmd := some n, part := c.granted, parts := c.parts, vol := vol, first := first, count := count, lock := .streaming,
    admitted := c.admittedAt, subject := c.subject, queue := c.src.queueOrTag,
    cmdId := match c.src with | .nvme _ _ cid => cid | .fabrics _ cid => cid | _ => 0,
    gen := c.gen, fua := c.img.fua && decide (c.img.op = .write), atomic := c.img.atomic,
    forwarded := match c.src with | .forwarded _ => true | _ => false,
    format := v.format, piType := piTypeOf v.format,
    grains := if c.img.op = .write then [] else masks.map (emptyGrain c.img.op full),
    off := none, len := 0, sentAt := 0, resent := false, tseq := none, durable := false, released := false, readers := 0,
    charged := if c.img.op = .write then whole else 0, acked := false }

/-- A lock is granted: CSEQ assigned, the lock written into slot `loc` and validated, quota charged, the data fetch issued
(R144, R145). -/
def State.grantLock (s : State) (n : Nat) (c : HostCmd) (v : Vol) (vol loc : Nat) : State :=
  let cseq := (s.rd64 R.CIST_CSEQ).toNat + 1
  let p := newPart n c v vol
  let s1 := s.wr64 R.CIST_CSEQ (BitVec.ofNat 64 cseq)
  let s2 := s1.setCam loc { st := 1, prio := 0, key := p.key, result := lockWord p cseq }
  let s3 := s2.putPart cseq p
  let s4 := s3.setQuotaUse c.subject (s3.quotaUse c.subject + p.count)
  let s5 := s4.highWater R.ING_LOCKS_HWM s4.cist.parts.length
  let c1 := { c with granted := c.granted + 1, charged := c.charged - p.charged, waited := false,
                     tsn := if c.granted = 0 then cseq % 2 ^ 32 else c.tsn }
  let s6 := s5.setCmd n c1
  if c.img.op = .write ∧ c.img.inCapsule = none then
    let s7 := (s6.emit (.dataFetch n c.granted)).srcSend c.src (p.count * 4096) true
    c.src.fn.elim s7 fun f => s7.dmaRead f n
  else s6

/-- A part that waits under R146 is counted once (R169). -/
def State.lockWait (s : State) (n : Nat) (c : HostCmd) : State :=
  if c.waited then s else (s.setCmd n { c with waited := true }).count R.ING_LOCK_WAITS

/-- The pool's PACE of the stride is used (R322): in stage 3, with pacing enabled. -/
def State.paced (s : State) (pool : Nat) : Bool :=
  decide (0 < s.fld (R.WR_STATE pool) 16 16)
    && decide (s.fld (R.WR_STATE pool) 16 16 ≤ (s.media.wear.find pool).elim 0 WearSt.used)

/-- WR grains that a part takes of its pool's PACE (R322). -/
def State.payPace (s : State) (pool n : Nat) : State :=
  { s with media := { s.media with wear := s.media.wear.upd pool fun w => { w with used := w.used + n } } }

/-- RANGE_LOCK_GRANT (R146, R322): the next part of command `n` takes its lock in slot `loc` of CAM0 and CAM1 once no lock in
STREAMING or HELD overlaps it, in the order of admission, with quota, Cistern room and a free lock. -/
def execRangeLockGrant (n loc : Nat) (miss bad : List Nat) (s : State) : Out :=
  match s.cmd n with
  | none => .next s
  | some c =>
    match c.vol.bind s.vol with
    | none => .next s
    | some v =>
      let vol := c.vol.getD 0
      let (first, count) := partRange v.format c.img.slba c.img.blocks c.granted
      if c.stage ≠ .checked ∨ c.img.op.weirClass ≠ some wWr ∨ c.parts ≤ c.granted ∨ s.spilling then .next s
      else if s.earlierWaits n vol c ∨ s.held vol ∨ s.quotaRoom c count = false ∨ s.cist.stalled ≠ []
          ∨ s.paced v.pool ∨ s.camHeld 0 ∨ s.halted 88 then .next s
      else if 131072 ≤ s.cist.parts.length then .next (s.event 88 1)
      else if 131072 ≤ loc ∨ (s.camAt loc).st ≠ 0 then .next s
      else
        let s1 := (s.inflight vol (first / 256) true miss bad).1
        match s1.cmd n with
        | none => .next s1
        | some c1 =>
          if s1.blocked vol first count then .next (s1.lockWait n c1)
          else .next ((s1.grantLock n c1 v vol loc).payPace v.pool count)

/-! ### Release (R146, R161, R224, R391) -/

/-- The group of a volume, if any (R389). -/
def State.groupOf (s : State) (v : Nat) : Option Nat :=
  (s.tandem.groups.first fun _ g => g.vols.has v).map Prod.fst

/-- RSEQ of an entry's record: the head that owned it, and its CSEQ there (R390). -/
def State.rseqOf (s : State) (cseq : Nat) : Nat :=
  if cseq < 2 ^ 63 then s.headId * 2 ^ 63 + cseq else (1 - s.headId) * 2 ^ 63 + (cseq - 2 ^ 63)

/-- Replication lets an entry go: its record has been acknowledged, or its group is not ACTIVE (R391). -/
def State.replDone (s : State) (cseq : Nat) (p : Part) : Bool :=
  match s.groupOf p.vol with
  | none => true
  | some g =>
    if s.fld (R.RP_STATE g) 0 3 = 3 then true
    else ((s.tandem.groups.getD g Group.empty).recs.all
      fun r => decide (r.rseq ≠ s.rseqOf cseq) || r.acked)

/-- An entry that may go is released: quota and space charges return, the lock is freed, a MIRROR_RELEASE is queued (R161);
while a read holds it, or replication does, it waits (R224, R391). -/
def State.tryRelease (s : State) (cseq : Nat) : State :=
  match s.part cseq with
  | none => s
  | some p =>
    if p.released ∧ p.readers = 0 ∧ s.replDone cseq p then
      let s1 := s.removePart cseq
      if 2 ^ 63 ≤ cseq then s1 else { s1 with cist := { s1.cist with releases := s1.cist.releases ++ [cseq] } }
    else s

/-- RELEASED is set in an entry (R161). -/
def State.release (s : State) (cseq : Nat) : State :=
  match s.part cseq with
  | none => s
  | some p => (s.putPart cseq { p with released := true }).tryRelease cseq

/-- Step of the commit point: queued MIRROR_RELEASE records, of up to 64 CSEQs each, are sent at least once per stride
(R152, R161). -/
def State.mirrorReleaseSend (s : State) : State :=
  if s.cist.releases = [] ∨ s.tlActive = false ∨ s.spilling then s
  else
    let n := ceilDiv s.cist.releases.length 64
    let s1 := { s with cist := { s.cist with releases := [] } }
    (List.range n).foldl (fun s1 i =>
      s1.tlSend (.mirrorRelease ((s.cist.releases.drop (64 * i)).take 64))) s1

/-! ### COMMITTED and acknowledgement (R146, R154 to R156) -/

/-- The sectors of a grain that COMMITTED parts after `cseq` supply (R146). -/
def State.laterMask (s : State) (cseq vol g : Nat) : Nat :=
  s.cist.parts.foldl (fun m p =>
    if cseq < p.1 ∧ p.2.vol = vol ∧ p.2.lock = .committed then
      match p.2.grains[g - p.2.first]? with
      | none => m
      | some x => if p.2.first ≤ g then m ||| x.mask else m
    else m) 0

/-- The OVERTAKEN flags of a COMMITTED part follow what later COMMITTED parts supply (R146, R151). -/
def State.overtake (s : State) (cseq : Nat) (p : Part) : Part :=
  { p with grains := p.grains.mapIdx fun i x =>
      if x.mask &&& s.laterMask cseq p.vol (p.first + i) = x.mask then { x with overtaken := true } else x }

/-- Once a part is COMMITTED, grains of earlier COMMITTED parts that it supersedes are OVERTAKEN; an entry all of whose
grains are, and that is not destaged yet, is released (R146). -/
def State.overtakeOthers (s : State) (cseq : Nat) (p : Part) : State :=
  let olds := (s.cist.parts.filter fun o => decide (o.1 < cseq ∧ o.2.lock = .committed)
    && o.2.overlaps p.vol p.first p.count).map Prod.fst
  olds.foldl (fun s q =>
    match s.part q with
    | none => s
    | some o =>
      let o1 := s.overtake q o
      let s1 := s.putPart q o1
      if o1.grains.all Grain.overtaken ∧ o1.tseq = none then s1.release q else s1) s

/-- A write with FUA; Write Zeroes and Deallocate follow the rule of a write without (R154). -/
def HostCmd.fua (c : HostCmd) : Bool := c.img.fua && decide (c.img.op = .write)

/-- A write is acknowledged under R155 instead of R154: FUA, SPILL_READY = 0, or SOLO with SOLO_WT (R154, R156). -/
def State.needsFua (s : State) (c : HostCmd) : Bool :=
  c.fua || !s.bit R.CIST_STATUS 2 || (s.bit R.CIST_STATUS 1 && s.bit R.CIST_CTRL 0)

/-- Every part of the command that belongs to a SYNC group has its SYNC_ACK (R392), or its group is SUSPENDED (R393). -/
def State.syncDone (s : State) (n : Nat) : Bool :=
  (s.partsOf n).all fun p =>
    match s.groupOf p.2.vol with
    | none => true
    | some g =>
      if s.bit (R.RP_CFG g) 1 then true
      else if s.fld (R.RP_STATE g) 0 3 = 3 then !s.bit (R.RP_CFG g) 2
      else s.replDone p.1 p.2

/-- The longest admission-to-acknowledgement of non-FUA writes (R170). -/
def State.ackMax (s : State) (c : HostCmd) : State :=
  if c.fua then s else s.highWater R.CIST_ACK_MAX (min (s.since c.admittedAt) 255)

/-- The queue pair of a command posts its completions on both heads (R384). -/
def State.tandemCpl (s : State) (c : HostCmd) : Bool :=
  match c.src with
  | .fabrics q _ => (s.front.qps.find q).elim false Qp.tandemCpl
  | _ => false

/-- A write-class command is acknowledged when R154, or R155, holds for all its parts; its status is that of a part that
failed, if any (R141). A completion on a tandem queue pair, and FWD_CPL, carry the TSN (R366, R384). -/
def State.tryAck (s : State) (n : Nat) : State :=
  match s.cmd n with
  | none => s
  | some c =>
    let whole := decide (c.stage = .checked ∧ 0 < c.parts ∧ c.granted = c.parts)
    let committed := decide (c.committed + c.discarded = c.parts)
    let durable := decide (c.durable + c.discarded = c.parts)
    if whole ∧ (durable ∨ committed ∧ s.needsFua c = false) ∧ s.syncDone n then
      (s.ackMax c).complete n c.status (if (s.tandemCpl c ∨ c.src.queue.1 = 3) ∧ c.status = 0 ∧ c.fua = false then c.tsn else 0)
    else s

/-- A lock moves from HELD to COMMITTED (R145). -/
def State.commitPart (s : State) (cseq : Nat) : State :=
  match s.part cseq with
  | none => s
  | some p =>
    if p.lock ≠ .held then s
    else
      let p1 := { p with lock := .committed }
      let s1 := (s.setPart cseq p1).overtakeOthers cseq p1
      match p.cmd with
      | none => s1
      | some n =>
        match s1.cmd n with
        | none => s1
        | some c => (s1.setCmd n { c with committed := c.committed + 1 }).tryAck n

/-- A part fails step 8 or its check value twice: it is discarded with its charges, and the command completes with its
status once its other parts are applied (R141, R216). -/
def State.failPart (s : State) (cseq status : Nat) : State :=
  match s.part cseq with
  | none => s
  | some p =>
    let s1 := s.removePart cseq
    match p.cmd with
    | none => s1
    | some n =>
      match s1.cmd n with
      | none => s1
      | some c =>
        let first := decide (c.status = 0) || decide (p.part < c.failed)
        (s1.setCmd n { c with discarded := c.discarded + 1, status := if first then status else c.status,
                              failed := if first then p.part else c.failed }).tryAck n

/-- INGEST_TIMEOUT (R108): a command that ingest cannot take within 25,000 strides of fetch completes with BUSY_RETRY and has
nothing applied. A command with a sealed part has been taken. -/
def execIngestTimeout (n : Nat) (s : State) : Out :=
  match s.cmd n with
  | none => .next s
  | some c =>
    let waits := decide (c.stage = .fetched ∨ c.stage = .admitted) || decide (c.stage = .checked ∧ c.granted < c.parts)
    let sealed := (s.partsOf n).any fun p => decide (p.2.lock ≠ .streaming)
    if c.img.op.weirClass = some wWr ∧ waits ∧ sealed = false ∧ c.committed = 0 ∧ 25000 ≤ s.since c.fetchedAt then
      .next ((((s.undo n).count R.ING_BUSY_RETRY).event 88 0).complete n St.busyRetry)
    else .next s

end Sys2Proof.Machine
end

