-- ==== Sys2Proof/Machine/Reduction.lean ====
section
/-! DEFINITION. Reduction (07_reduction.md): protection information, fingerprints, compression forms, the hot tier and the
DRAM tier, and the arrival of a part's data (R142, R157, R190 to R204, R212 to R216). -/

namespace Sys2Proof.Machine

/-! ### Protection information (R142) -/

/-- Protection information of one sector: guard, application tag, reference tag. -/
abbrev SectorPi := Nat × Nat × Nat

/-- The reference tag that a sector must carry: type 1 the LBA, type 2 the initial tag plus the offset (R142). -/
def refTagOf (piType lba offset ilbrt : Nat) : Nat :=
  if piType = 1 then lba % 2 ^ 32 else (ilbrt + offset) % 2 ^ 32

/-- Check one sector: 0 or the status of the first check that fails, guard before application tag before reference tag
(R142). -/
def piCheck (img : CmdImg) (piType lba : Nat) (data : List Byte) (pi : SectorPi) : Nat :=
  let (guard, app, ref) := pi
  let escape := if piType = 3 then decide (app = 0xFFFF ∧ ref = 0xFFFFFFFF) else decide (app = 0xFFFF)
  if piType = 0 ∨ escape then 0
  else if img.chkGuard ∧ crc16 data ≠ guard then St.piGuard
  else if img.chkApp ∧ app &&& img.lbatm ≠ img.lbat &&& img.lbatm then St.piAppTag
  else if img.chkRef ∧ piType ≠ 3 ∧ ref ≠ refTagOf piType lba (lba - img.slba) img.ilbrt then St.piRefTag
  else 0

/-- The tags kept of a sector: with PRACT = 1 the guard is generated and the application tag is LBAT (R142). -/
def piKeep (img : CmdImg) (data : List Byte) (pi : SectorPi) : Nat :=
  if img.pract then crc16 data + (img.lbat % 65536) * 65536 else pi.1 % 65536 + (pi.2.1 % 65536) * 65536

/-- The status of the lowest failing sector of a grain's data (R142): `data` and `pi` hold the sectors of `mask` in order. -/
def grainPi (img : CmdImg) (format piType g mask : Nat) (data : List Byte) (pi : List SectorPi) : Nat :=
  let k := sectorsPerGrain format
  let b := sectorBytes format
  let st := (maskBits k mask).mapIdx fun j i =>
    piCheck img piType (g * k + i) ((data.drop (j * b)).take b) (pi.getD j (0, 0, 0))
  (st.find? fun x => decide (x ≠ 0)).getD 0

/-- The tags of each sector, 0 outside the mask. -/
def spreadTags (img : CmdImg) (format mask : Nat) (data : List Byte) (pi : List SectorPi) : List Nat :=
  let k := sectorsPerGrain format
  let b := sectorBytes format
  (List.range k).map fun i =>
    let j := ((maskBits k mask).takeWhile (· < i)).length
    if mask / 2 ^ i % 2 = 1 then piKeep img ((data.drop (j * b)).take b) (pi.getD j (0, 0, 0)) else 0

/-! ### Fingerprint, zero detection, check value (R190, R193, R195, R216) -/

/-- The application tags of a grain, most significant byte first (R193). -/
def tagBytes (format : Nat) (tags : List Nat) : List Byte :=
  if hasPi format then tags.flatMap fun t => beBytes 2 (t / 65536) else []

/-- The fingerprint as a number: byte 0 is its most significant byte (R193, R194). -/
def fingerprint (format : Nat) (data : List Byte) (tags : List Nat) : Nat := ofBeBytes (sha256 (data ++ tagBytes format tags))

/-- A grain is zero: all bytes and every application tag zero (R195). -/
def isZeroGrain (format : Nat) (data : List Byte) (tags : List Nat) : Bool :=
  data.all (· = 0) && (!hasPi format || tags.all fun t => decide (t / 65536 = 0))

/-! ### Compression forms (R197, R209 to R214) -/

/-- The forms of R212 by number: E1S 0, E1D 1, E2S 2, E2D 3, E3 4. -/
def formCost : Nat → Nat
  | 0 => 700 | 1 => 1400 | 2 => 1400 | _ => 2800

/-- The form of an EFFORT and DYNAMIC; none for EFFORT 0 (R212). -/
def formOf (effort : Nat) (dyn : Bool) : Option Nat :=
  match effort with
  | 0 => none
  | 1 => some (if dyn then 1 else 0)
  | 2 => some (if dyn then 3 else 2)
  | _ => some 4

/-- The requested form of a policy word under the wear governor's floor (R212). -/
def requestedForm (policy floor : Nat) : Option Nat :=
  let e := policy % 4
  let dyn := decide (policy / 4 % 2 = 1) || decide (floor / 4 % 2 = 1)
  if e = 0 then none else formOf (max e (floor % 4)) dyn

/-- The next form below with a lower cost (R213). -/
def formBelow : Nat → Nat
  | 4 => 2 | 3 => 2 | _ => 0

/-- The form that the budget leaves: `after` grains of the stride are still to come (R213). -/
def budgetForm (left after f : Nat) : Nat :=
  let ok := fun f => decide (formCost f ≤ 700) || decide (700 * after + formCost f ≤ left)
  if ok f then f else if ok (formBelow f) then formBelow f else 0

/-- The threshold of a policy word: RAW_THRESH, or CP_RAW_DEFAULT (R197, R214). -/
def State.rawThresh (s : State) (policy : Nat) : Nat :=
  let t := policy / 65536 % 64
  if t = 0 then s.fld R.CP_RAW_DEFAULT 0 6 else t

/-- An armed injection corrupts one bit of the next output of a compression unit, which bit is open (R218; a free value, assumption log 3).
The grain is taken to be on the unit that PG_INJECT names (DESIGN CHOICE, assumption log 86). -/
def State.corruptOut (s : State) (body : List Byte) : State × List Byte :=
  let sub := s.fld (R.PG_INJECT 92) 8 8
  let r := (s.operate 92 sub).inject 92 0x05 sub
  if r.2 then
    let n := r.1.freeNat % max (8 * body.length) 1
    (r.1.useFree, withErrors body [(n / 8, 2 ^ (n % 8))])
  else (r.1, body)

/-- A decompression unit decodes a grain's granules (R211, R214): raw grains pass it by. A DECODE_ERROR is counted and captured with the
unit; an armed injection flips one bit of the output, which bit is open (R218; a free value, assumption log 3). -/
def State.decompress (s : State) (unit : Nat) (raw : Bool) (len : Nat) (body : List Byte) : State × Option (List Byte) :=
  if raw then (s, some (padTo 4096 body))
  else
    let r := (s.operate 93 unit).inject 93 0x05 unit
    match inflate (body.take (64 * len)) with
    | none => ((r.1.count R.DC_DECODE_ERR).raise 93 0x0100 1 unit, none)
    | some d =>
      let s1 := r.1.count R.DC_GRAINS
      if r.2 then
        let n := s1.freeNat % 32768
        (s1.useFree, some (withErrors d [(n / 8, 2 ^ (n % 8))]))
      else (s1, some d)

/-- A grain is stored raw (R214). -/
def State.storeRaw (s : State) (data : List Byte) (g : Grain) : State × Grain :=
  let r := (s.count R.CP_RAW).corruptOut data
  (r.1, { g with raw := true, hasData := true, lenGranules := 64, body := r.2 })

/-- A grain's compression: its form is taken from the stride's budget, and it is stored raw when its output would pass the
threshold (R209 to R214). -/
def State.compress (s : State) (after : Nat) (data : List Byte) (g : Grain) : State × Grain :=
  let s0 := s.count R.CP_IN_GRAINS
  match requestedForm g.policy (s.fld R.CP_FLOOR 0 3) with
  | none => s0.storeRaw data g
  | some f =>
    let b := budgetForm s.cam.clkLeft after f
    let s1 := { s0 with cam := { s0.cam with clkLeft := s0.cam.clkLeft - formCost b,
                                             downgraded := s0.cam.downgraded || decide (b ≠ f) } }
    let s2 := if b = f then s1 else s1.count R.CP_DOWNGRADE
    let out := deflate b data
    if 64 * s.rawThresh g.policy < out.length then s2.storeRaw data g
    else
      let r := (if isDynamic out then s2.count R.CP_DYNAMIC else s2).corruptOut (toGranules out)
      (r.1, { g with raw := false, hasData := true, lenGranules := ceilDiv out.length 64, body := r.2 })

/-! ### The hot tier (R199, R204) -/

/-- The key of the hot tier: PREFIX, POOL, CLASS (R174). -/
def hotKey (digest pool cls : Nat) : Nat := (digest / 2 ^ 128) * 2 ^ 16 + (pool % 16) * 2 ^ 8 + cls % 256

/-- DEDUP of a policy word (R197). -/
def polDedup (policy : Nat) : Bool := decide (policy / 8 % 2 = 1)
/-- VERIFY of a policy word. -/
def polVerify (policy : Nat) : Bool := decide (policy / 16 % 2 = 1)
/-- CLASS of a policy word. -/
def polClass (policy : Nat) : Nat := policy / 256 % 256

/-- Ingest's hot tier search: a hit sets DEDUP_HIT, DEDUP_ADDR and the winner's referenced bit (R199). `bad` names units that the search
finds with bad parity (R173). -/
def State.hotSearch (s : State) (pool : Nat) (bad : List Nat) (g : Grain) : State × Grain :=
  if polDedup g.policy = false ∨ s.bit R.DD_CTRL 0 = false then (s, g)
  else
    let (s0, hits) := s.camFound 2 (s.camMask 2 0) (hotKey g.digest pool (polClass g.policy)) false bad
    let s1 := s0.countSearch 2 1 hits.length
    match hits.head? with
    | none => (s1, g)
    | some (k, e) =>
      let s2 := { s1 with cam := { s1.cam with hotRef := if k ∈ s1.cam.hotRef then s1.cam.hotRef else k :: s1.cam.hotRef } }
      (s2.count R.DD_HOT_HITS, { g with hit := true, dedupAddr := e.result })

/-! ### A part's data arrives (R157, R190 to R192) -/

/-- The reduction of a whole grain's bytes: digest, zero detection, compression, hot tier (R190 to R192, R195, R199). -/
def State.reduce (s : State) (pool format after : Nat) (bad : List Nat) (data : List Byte) (g : Grain) : State × Grain :=
  let s0 := { s.count R.DG_GRAINS with cam := { (s.count R.DG_GRAINS).cam with hostLeft := after, digested := s.cam.digested + 1 } }
  if isZeroGrain format data g.piTags then
    (s0.count R.DG_ZERO, { g with zero := true, hasData := false, lenGranules := 0, check := 0, digest := 0, body := [] })
  else
    let g1 := { g with check := crc32c data, digest := fingerprint format data g.piTags }
    let (s1, g2) := s0.compress after data g1
    s1.hotSearch pool bad g2

/-- The policy word of a volume in force (R197). -/
def State.policy (s : State) (vol : Nat) : Nat := s.rdN (R.DD_VOL_POLICY vol)

/-- The grain that a part's next data makes: whole grains are reduced, partial ones kept as they are (R147, R192). -/
def State.takeGrain (s : State) (c : HostCmd) (p : Part) (mask after : Nat) (bad : List Nat) (data : List Byte) (pi : List SectorPi) :
    State × Grain :=
  let g : Grain :=
    { raw := false, zero := false, hit := false, partGrain := decide (mask ≠ 2 ^ sectorsPerGrain p.format - 1),
      dealloc := false, overtaken := false, hasData := true, mask := mask, lenGranules := ceilDiv data.length 64,
      dedupAddr := 0, check := 0, digest := 0,
      piTags := if hasPi p.format then spreadTags c.img p.format mask data pi else [], body := toGranules data,
      policy := s.policy p.vol, probe := .none }
  if g.partGrain then (s, g) else s.reduce (s.poolOf p.vol) p.format after bad data g

/-- A block that a part's next data goes through dispatches nothing: the data waits (R64, R189). -/
def State.reductionHeld (s : State) (policy : Nat) (whole : Bool) : Bool :=
  s.halted 88 || s.halted 89 || (whole && (s.halted 90 || s.halted 92 || (polDedup policy && s.bit R.DD_CTRL 0 && (s.halted 91 || s.camHeld 2))))

/-- A command fails at step 8 of R141: it is counted once, however many of its parts fail (R169). -/
def State.piFailed (s : State) (n : Nat) (c : HostCmd) : State :=
  if c.piFailed then s else (s.setCmd n { c with piFailed := true }).count R.ING_PI_ERR

/-- Check values of the two units disagree: CHECK_DISAGREE at L2 with the first digest unit, and the grain goes to another
pair (R216). -/
def State.checkDisagree (s : State) (unit : Nat) (injected : Bool) : State :=
  (s.count R.DG_DISAGREE).raise 90 0x0100 2 unit injected

/-- Host data of a forwarded write goes on to the owner as it arrives (R382). -/
def State.relayData (s : State) (n : Nat) (data : List Byte) (pi : List (Nat × Nat × Nat)) : State :=
  match s.cmd n, s.tandem.fwdOut.find? fun x => decide (x.2 = n) with
  | some c, some (id, _) =>
    if c.stage = .forwarded ∧ c.img.op = .write ∧ s.tlActive then s.tlSend (.fwdData id 0 0 data pi) else s
  | _, _ => s

/-- DATA_ARRIVE (R157): the data of the next grain of part `cseq`, with the protection information of its sectors; `after`
grains of this stride are still to come; `bad` says that the first pair of units disagreed on digest unit `unit` (1), or the
second pair too (2); `units` names units of the hot tier that the search finds with bad parity (R173). Step 8 of R141 is decided by the lowest failing sector. Data of a forwarded write, which has no part here, is
named by 2 ^ 64 + its command number (assumption log 51). -/
def execDataArrive (cseq : Nat) (data : List Byte) (pi : List (Nat × Nat × Nat)) (after unit bad : Nat) (units : List Nat) (s : State) : Out :=
  match s.part cseq with
  | none => .next (if 2 ^ 64 ≤ cseq then s.relayData (cseq - 2 ^ 64) data pi else s)
  | some p =>
    match p.cmd.bind s.cmd with
    | none => .next s
    | some c =>
      let i := p.grains.length
      let g := p.first + i
      let mask := sectorMask p.format c.img.slba c.img.blocks g
      let n := (maskBits (sectorsPerGrain p.format) mask).length
      if p.lock ≠ .streaming ∨ c.img.op ≠ .write ∨ p.count ≤ i ∨ data.length ≠ n * sectorBytes p.format
          ∨ s.reductionHeld (s.policy p.vol) (decide (mask = 2 ^ sectorsPerGrain p.format - 1)) then .next s
      else
        let st := if hasPi p.format ∧ c.img.pract = false then grainPi c.img p.format p.piType g mask data pi else 0
        if st ≠ 0 then .next ((s.piFailed (p.cmd.getD 0) c).failPart cseq st)
        else
          let whole := decide (mask = 2 ^ sectorsPerGrain p.format - 1)
          let (s1, inj) := if whole then (s.operate 90 unit).inject 90 0x05 unit else (s, false)
          let s2 := if whole ∧ (inj = true ∨ 0 < bad) then s1.checkDisagree unit inj else s1
          if whole ∧ 2 ≤ bad then .next (s2.failPart cseq St.checkValue)
          else
            let (s3, x) := s2.takeGrain c p mask after units data pi
            match s3.part cseq with
            | none => .next s3
            | some p1 => .next (s3.putPart cseq { p1 with grains := p1.grains ++ [x] })

/-! ### The DRAM tier (R201 to R203) -/

/-- The slot that an insert takes: a free one, else the first entry at or after HAND that is not PENDING (R201). -/
def DdBucket.victim (b : DdBucket) : Option Nat :=
  match b.slots.freeKey 5 with
  | some e => some e
  | none => ((List.range 5).map fun i => (b.hand + i) % 5).find? fun e => (b.slots.find e).elim false fun x => !x.pending

/-- Insert an entry; HAND advances past a replaced one, which is counted where it was VALID (R201, R219). -/
def State.bucketInsert (s : State) (i : Nat) (x : DdEntry) : State :=
  let b := s.bucket i
  match b.victim with
  | none => s
  | some e =>
    if b.slots.has e then
      (s.setBucket i { b with slots := b.slots.put e x, hand := (e + 1) % 5 }).count R.DD_BUCKET_EVICT
    else s.setBucket i { b with slots := b.slots.put e x }

/-- The entry of a bucket with equal DIGEST, POOL and CLASS (R201). -/
def DdBucket.lookup (b : DdBucket) (digest pool cls : Nat) : Option (Nat × DdEntry) :=
  b.slots.first fun _ e => decide (e.digest = digest ∧ e.pool = pool % 16 ∧ e.cls = cls)

/-- A bucket that fails its CRC is cleared, and BUCKET_CRC placed at L1 (R201). -/
def State.bucketCrc (s : State) (i : Nat) : State :=
  (s.setBucket i { hand := 0, slots := [] }).raise 91 0x0100 1 0

/-- The probe of one grain: its answer, and the effect on the bucket (R201). -/
def State.probe (s : State) (pool cseq index : Nat) (g : Grain) : State × Probe :=
  let i := s.bucketOf g.digest
  match (s.bucket i).lookup g.digest pool (polClass g.policy) with
  | some (e, x) =>
    if x.pending then (s.count R.DD_TWIN_HITS, .twin (x.target / 256) (x.target % 256))
    else
      let b := s.bucket i
      ((s.setBucket i { b with slots := b.slots.put e { x with hits := min (x.hits + 1) 255 } }).count R.DD_DRAM_HITS,
        .hit x.target x.segSeq)
  | none =>
    (s.bucketInsert i { digest := g.digest, target := pendTarget cseq index, segSeq := 0, pool := pool % 16,
                        cls := polClass g.policy, pending := true, hits := 0 }, .miss)

/-- Change one grain of a part. -/
def Part.setGrain (p : Part) (i : Nat) (g : Grain) : Part := { p with grains := p.grains.set i g }

/-- PROBE_ANSWER (R201): the answer for grain `index` of part `cseq` goes into the destage queue; `errs` are the bits that DRAM has flipped in
the bucket, whose CRC tells (R203). An answer later than 8 strides after seal is discarded and counted, without its insert (R202); while
DEDUP dispatches nothing, probes wait (R219). -/
def execProbeAnswer (cseq index : Nat) (errs : List (Nat × Nat)) (s : State) : Out :=
  match s.part cseq with
  | none => .next s
  | some p =>
    match p.grains[index]? with
    | none => .next s
    | some g =>
      match g.probe with
      | .waiting t =>
        if s.halted 91 then .next s
        else if 8 < s.since t then
          .next (({ s with cam := { s.cam with late := true } }).count R.DD_LATE |>.putPart cseq
            (p.setGrain index { g with probe := .miss }))
        else
          let i := s.bucketOf g.digest
          let s1 := if bucketOk (withErrors (s.bucket i).image errs) then s else s.bucketCrc i
          let (s2, a) := s1.probe (s1.poolOf p.vol) cseq index g
          match s2.part cseq with
          | none => .next s2
          | some p1 => .next (s2.putPart cseq (p1.setGrain index { g with probe := a }))
      | _ => .next s

/-- PROBE_DEADLINE (R202): 8 strides after seal, a grain whose probe has not been answered is treated as a MISS without its
insert; its answer will be discarded. -/
def execProbeDeadline (cseq index : Nat) (s : State) : Out :=
  match s.part cseq with
  | none => .next s
  | some p =>
    match p.grains[index]? with
    | none => .next s
    | some g =>
      match g.probe with
      | .waiting t =>
        .next (if 8 < s.since t then
          (({ s with cam := { s.cam with late := true } }).count R.DD_LATE).putPart cseq
            (p.setGrain index { g with probe := .miss })
        else s)
      | _ => .next s

/-! ### Seal (R149, R152, R157, R192) -/

/-- Where an entry of `len` granules goes in the ring: contiguous room, never catching the tail; a ring whose head stands at the tail of an
unreleased entry is full (R149). -/
def State.ringRoom (s : State) (len : Nat) : Option Nat :=
  let size := s.ringSize
  let h := s.cist.head
  let t := s.cist.tail
  if h = t ∧ (s.cist.parts.any fun p => p.2.off.isSome) = true then none
  else if t ≤ h then
    if h + len ≤ size then some h else if len < t then some 0 else none
  else if h + len < t then some h
  else none

/-- Probes of whole grains that missed the hot tier are issued at seal (R192, R201, R219). -/
def State.issueProbes (s : State) (p : Part) : Part :=
  if s.bit R.DD_CTRL 1 = false then p
  else
    { p with grains := p.grains.map fun g =>
        if polDedup g.policy ∧ g.hasData ∧ g.partGrain = false ∧ g.hit = false then { g with probe := .waiting s.now }
        else g }

/-- The MIRROR_WRITE of an entry of the own half: the entry byte for byte (R152). -/
def State.mirrorRec (s : State) (cseq : Nat) (p : Part) : TlRec := .mirrorWrite (p.off.getD 0) (p.image s.headId cseq)

/-- The owner sends a sealed entry to the partner (R152), also while the partner is resynchronised (R386); to a partner that is lost there
is none to send. -/
def State.mirrorSend (s : State) (cseq : Nat) : State :=
  if s.tlActive ∧ (s.bit R.CIST_STATUS 1 = false ∨ s.tandem.resync.isSome) then
    (s.part cseq).elim s fun p => s.tlSend (s.mirrorRec cseq p) else s

/-- A replication group takes a value. -/
def State.setGroup (s : State) (g : Nat) (f : Group → Group) : State :=
  { s with tandem := { s.tandem with groups := s.tandem.groups.put g (f (s.tandem.groups.getD g Group.empty)) } }

/-- The 2 MiB ranges, of 512 grains, that a range of grains touches (R266, R393). -/
def markRanges (vol first count : Nat) : List (Nat × Nat) :=
  (List.range (count / 512 + 2)).filterMap fun i =>
    if (first / 512 + i) * 512 < first + count then some (vol, first / 512 + i) else none

/-- Ranges are marked (R393). -/
def Group.mark (g : Group) (l : List (Nat × Nat)) : Group :=
  { g with marks := l.foldl (fun l r => if r ∈ l then l else l ++ [r]) g.marks }

/-- A record may go on the stream: in SYNC mode no earlier record that it overlaps waits for its SYNC_ACK (R392). -/
def Group.maySend (g : Group) (r : RepRec) : Bool :=
  decide (r.batch ≠ 0) || (g.recs.takeWhile fun x => decide (x.rseq ≠ r.rseq)).all fun x =>
    x.acked || decide (x.vol ≠ r.vol ∨ x.grain + x.count ≤ r.grain ∨ r.grain + r.count ≤ x.grain)

/-- One record of a group goes on its stream, unless the member that would carry it must wait (R119, R136). -/
def State.recSend (s : State) (g : Nat) (x : Group) (r : RepRec) : State :=
  let control := s.fld (R.RP_QP g) 0 24
  if s.streamWaits control r.rseq then s
  else
    let s1 := (s.emit (.replRecord g r.rseq (recordImage g r.rseq r.batch (x.vols.getD r.vol 0) r.entry))).count (R.RP_RECS_TX g)
    let (s2, m) := s1.streamSend control r.rseq (64 + r.entry.length)
    s2.setGroup g fun x => { x with
      recs := x.recs.map fun y => if y = r then { r with issued := true, sent := s.now, member := m } else y }

/-- Every record of a group that may go is sent (R391, R392). -/
def State.replSend (s : State) (g : Nat) : State :=
  let x := s.tandem.groups.getD g Group.empty
  (x.recs.filter fun r => !r.issued && x.maySend r).foldl (fun s r => s.recSend g x r) s

/-- BATCH_STRIDE of a record of a group: that of the batch of an admission stride, 0 in SYNC mode (R394). -/
def State.batchOf (s : State) (g : Nat) (admitted : DWord) : Nat :=
  let b := max (s.rdN (R.RP_BATCH g)) 1
  if s.bit (R.RP_CFG g) 1 then (admitted.toNat / b + 1) * b else 0

/-- A group volume's part produces one replication record on this head's stream; while the group is SUSPENDED its ranges are
marked (R390, R391, R393). -/
def State.replRecord (s : State) (rseq : Nat) (p : Part) : State :=
  match s.groupOf p.vol with
  | none => s
  | some g =>
    let st := s.fld (R.RP_STATE g) 0 3
    if st = 3 then s.setGroup g fun x => x.mark (markRanges p.vol p.first p.count)
    else if st = 0 ∨ st = 5 ∨ s.bit (R.RP_CFG g) 0 = false ∨ (s.tandem.groups.getD g Group.empty).recs.any (fun r => decide (r.rseq = rseq))
      then s
    else
      let r : RepRec :=
        { rseq := rseq, vol := p.vol, grain := p.first, count := p.count, batch := s.batchOf g p.admitted, issued := false,
          sent := s.now, entry := p.image (rseq / 2 ^ 63) (rseq % 2 ^ 62), onWire := false, acked := false, member := none }
      (s.setGroup g fun x => { x with recs := x.recs ++ [r] }).replSend g

/-- With TANDEM_SEND = 1 a head also sends the records of its mirror entries (R391). -/
def State.replMirror (s : State) (cseq : Nat) (p : Part) : State :=
  match s.groupOf p.vol with
  | none => s
  | some g => if s.bit (R.RP_CFG g) 3 then s.replRecord (s.rseqOf (2 ^ 63 + cseq)) p else s

/-- A part waits for ring room: admission stops and the wait is counted once (R149). -/
def State.ringStall (s : State) (cseq : Nat) : State :=
  if cseq ∈ s.cist.stalled then s
  else ({ s with cist := { s.cist with stalled := s.cist.stalled ++ [cseq] } }).count R.CIST_RING_STALL

/-- ENTRY_SEAL (R149): all grains of a part have arrived; the entry takes its granules, the lock becomes HELD and the entry
goes to the partner; while this head is SOLO it becomes COMMITTED at once (R152, R156). -/
def execEntrySeal (cseq : Nat) (s : State) : Out :=
  match s.part cseq with
  | none => .next s
  | some p =>
    if p.lock ≠ .streaming ∨ p.grains.length ≠ p.count ∨ s.spilling then .next s
    else
      match s.ringRoom p.entryLen with
      | none => .next (s.ringStall cseq)
      | some o =>
        let p1 := s.issueProbes { p with lock := .held, off := some o, len := p.entryLen, sentAt := s.now }
        let s1 := { s with cist := { s.cist with head := (o + p.entryLen) % max s.ringSize 1,
                                                 stalled := s.cist.stalled.filter fun q => decide (q ≠ cseq) } }
        let s2 := (s1.setPart cseq p1).countBy R.CP_OUT_GRANULES (p.grains.map Grain.lenGranules).sum
        let s3 := (s2.mirrorSend cseq).replRecord (s2.rseqOf cseq) p1
        .next (if s3.bit R.CIST_STATUS 1 then s3.commitPart cseq else s3)

end Sys2Proof.Machine
end

