-- ==== Sys2Proof/Machine/Mirror.lean ====
section
/-! DEFINITION. Mirroring into the partner Cistern and resynchronisation (R152, R153, R156, R335, R386). -/

namespace Sys2Proof.Machine

/-- MIRROR_UP takes a value, 0 while the two heads' SIZE_GIB differ; its change is an event (R148, R153, R170). -/
def State.setMirrorUp (s : State) (up : Bool) : State :=
  let v := up && decide (s.tandem.mateGib = s.fld R.CIST_CFG 0 5)
  if s.bit R.CIST_STATUS 0 = v then s
  else (s.putBit R.CIST_STATUS 0 v).event 89 (if v then 1 else 0)

/-- SPILL_READY takes a value; SPILL_NOT_READY marks its fall (R164, R170). -/
def State.setSpillReady (s : State) (r : Bool) : State :=
  if s.bit R.CIST_STATUS 2 = r then s
  else
    let s1 := s.putBit R.CIST_STATUS 2 r
    if r then s1 else s1.event 89 6

/-- MIRROR_UP sets again when no entry has waited beyond 64 strides (R153). -/
def State.mirrorUpAgain (s : State) : State :=
  if s.bit R.CIST_STATUS 1 = false ∧ s.tlActive ∧
      (s.cist.parts.any fun p => decide (p.2.lock = .held) && p.2.resent) = false then s.setMirrorUp true else s

/-- An entry received for the mirror half: checked against both CRCs, it goes to the same granule offset there and is acknowledged; one
that fails is answered with a NAK (R152, R335). R366 gives no field for the offset: it comes with the record (assumption log 89). -/
def State.mirrorTake (s : State) (off : Nat) (image : List Byte) : State :=
  if entryOk image then
    let p : Part := { readEntry image with off := some off }
    ({ s with cist := { s.cist with mirror := s.cist.mirror.put (entryCseq image) p } }).tlSend (.mirrorAck (entryCseq image))
  else s.tlSend (.mirrorNak (entryCseq image))

/-- TL_MIRROR_WRITE (R152, R391). From the start of the Spillway Torlux traffic is stopped (R165). -/
def execTlMirrorWrite (off : Nat) (image : List Byte) (s : State) : Out :=
  if s.spilling then .next s
  else
    let s1 := s.mirrorTake off image
    .next (if entryOk image then s1.replMirror (entryCseq image) (readEntry image) else s1)

/-- A staged entry is in both Cisterns: once all of its batch are, the CLOSE marker is written and STAGED sent (R395). -/
def State.stagedAck (s : State) (cseq : Nat) : State :=
  s.tandem.groups.foldl (fun s g =>
    match g.2.staged.find? fun b => decide (cseq ∈ b.waiting) with
    | none => s
    | some b =>
      let w := b.waiting.filter fun q => decide (q ≠ cseq)
      let b1 : StagedBatch := { b with waiting := w, closed := b.closed || decide (w = []) }
      let s1 := s.setGroup g.1 fun x => { x with staged := x.staged.map fun y => if y.batch = b.batch then b1 else y }
      if b.closed = false ∧ w = [] then s1.replReply g.1 2 b.batch else s1) s

/-- The last entry of a resynchronisation is acknowledged: SOLO clears, MIRROR_UP sets, both heads set RESYNCED (R386). -/
def State.resyncComplete (s : State) : State :=
  let s1 := { s with tandem := { s.tandem with resync := none } }
  (((s1.putBit R.CIST_STATUS 1 false).setMirrorUp true).putBit R.TD_STATE 5 true).event 153 6

/-- An entry of a resynchronisation is acknowledged (R386). -/
def State.resyncAck (s : State) (cseq : Nat) : State :=
  match s.tandem.resync with
  | none => s
  | some (l, done) =>
    let l1 := l.filter fun q => decide (q ≠ cseq)
    let s1 := { s with tandem := { s.tandem with resync := some (l1, done) } }
    if l1 = [] ∧ done then s1.resyncComplete else s1

/-- TL_MIRROR_ACK (R152): the lock moves from HELD to COMMITTED. -/
def execTlMirrorAck (cseq : Nat) (s : State) : Out :=
  .next (if s.spilling then s else (((s.commitPart cseq).stagedAck cseq).resyncAck cseq).mirrorUpAgain)

/-- TL_MIRROR_NAK (R152): the entry is sent again; the wait of R153 goes on. -/
def execTlMirrorNak (cseq : Nat) (s : State) : Out :=
  match s.part cseq with
  | none => .next s
  | some p =>
    if p.off = none ∨ s.spilling then .next s else .next (s.mirrorSend cseq)

/-- TL_MIRROR_RELEASE (R152): mirror entries are released and their granules freed. -/
def execTlMirrorRelease (cseqs : List Nat) (s : State) : Out :=
  .next (if s.spilling then s else { s with cist := { s.cist with mirror := s.cist.mirror.keep fun q _ => decide (q ∉ cseqs) } })

/-- MIRROR_TIMEOUT (R153): no MIRROR_ACK within 64 strides: the entry is sent once more, MIRROR_TIMEOUT is placed at L1 and
MIRROR_UP clears. -/
def execMirrorTimeout (cseq : Nat) (s : State) : Out :=
  match s.part cseq with
  | none => .next s
  | some p =>
    if p.lock ≠ .held ∨ p.resent ∨ s.since p.sentAt < 64 ∨ s.spilling then .next s
    else
      let s1 := (s.putPart cseq { p with resent := true }).mirrorSend cseq
      .next ((s1.setMirrorUp false).raise 89 0x0100 1 0)

/-- TL_RESYNC_DATA (R386): the standby writes the entry at its own offset in its mirror half and acknowledges it. -/
def execTlResyncData (off : Nat) (image : List Byte) (s : State) : Out :=
  .next (if s.spilling then s else s.mirrorTake off image)

/-- TL_RESYNC_DONE (R386): every entry up to `last` has been sent; the standby sets RESYNCED. -/
def execTlResyncDone (_last : Nat) (s : State) : Out :=
  .next (if s.role = roleStandby ∧ s.spilling = false then (s.putBit R.TD_STATE 5 true).event 153 6 else s)

/-- An entry takes its place in ring order: by the distance of its offset from the ring's head. -/
def ringInsert (d cseq : Nat) : List (Nat × Nat) → List (Nat × Nat)
  | [] => [(d, cseq)]
  | x :: xs => if d < x.1 then (d, cseq) :: x :: xs else x :: ringInsert d cseq xs

/-- A SOLE head starts to resynchronise a standby: every COMMITTED, unreleased entry of the own half is sent in ring order,
then RESYNC_DONE (R386). -/
def State.startResync (s : State) : State :=
  let ps := s.cist.parts.filter fun p => decide (p.2.lock = .committed ∧ p.1 < 2 ^ 63) && !p.2.released
  let qs := (ps.foldl (fun l p => ringInsert ((p.2.off.getD 0 + s.ringSize - s.cist.head) % max s.ringSize 1) p.1 l) []).map Prod.snd
  let s1 := qs.foldl (fun s q =>
    (s.part q).elim s fun p => s.tlSend (.resyncData (p.off.getD 0) (p.image s.headId q))) (s.putBit R.TD_STATE 5 false)
  let last := qs.getLast?.getD 0
  let s2 := { s1 with tandem := { s1.tandem with resync := some (qs, true) } }.tlSend (.resyncDone last)
  if qs = [] then s2.resyncComplete else s2

end Sys2Proof.Machine
end

