-- ==== Sys2Proof/Machine/Activities.lean ====
section
/-! DEFINITION. The compatibility matrix of maintenance activities (R465 to R469): admission, queueing and ends. -/

namespace Sys2Proof.Machine

/-- Codes of the activities (R465). -/
def actReclaim : Nat := 0
def actMerge : Nat := 1
def actSnapCreate : Nat := 2
def actSnapDelete : Nat := 3
def actVolChange : Nat := 4
def actRebuild : Nat := 5
def actReshape : Nat := 6
def actPoolConfig : Nat := 7
def actReplResync : Nat := 8
def actTransfer : Nat := 9
def actRemount : Nat := 10
def actFwUpdate : Nat := 11

/-- Standing activities run whenever they have work; the others are started by a command (R465). -/
def isStanding (code : Nat) : Bool := decide (code = 0 ∨ code = 1 ∨ code = 5 ∨ code = 6)

/-- A cell of the matrix in force: 0 C, 1 Q, 2 X, 3 P (R466, R469). -/
def State.cell (s : State) (row col : Nat) : Nat := s.fld (R.GD_MX row) (2 * col) 2

/-- Two activities are in scope of each other: codes 0 to 7 are scoped to a pool, 8 to 11 to the chip (R465, R466). -/
def Activity.inScope (a b : Activity) : Bool := decide (8 ≤ a.code ∨ 8 ≤ b.code ∨ a.pool = b.pool)

/-- Two activities name one volume, but both SNAP_CREATE, or resynchronise one group (R466). -/
def Activity.clashes (a b : Activity) : Bool :=
  (a.vols.any (· ∈ b.vols) && !(decide (a.code = actSnapCreate ∧ b.code = actSnapCreate)))
    || decide (a.code = actReplResync ∧ b.code = actReplResync ∧ a.group = b.group)

/-- Decisions (R484). -/
def decConcurrent : Nat := 0
def decQueued : Nat := 1
def decRefused : Nat := 2
def decPreempted : Nat := 3

/-- The decision on a new activity and the activity that decides it: a clash refuses it, else the most restrictive cell in
the order C, Q, X; a command activity that finds 32 queued is refused (R466, R467). -/
def State.actDecide (s : State) (n : Activity) : Nat × Nat :=
  let acts := s.guard.acts
  let near := acts.filter fun a => a.inScope n
  match acts.find? fun a => a.clashes n with
  | some a => (decRefused, a.code)
  | none =>
    match near.find? fun a => decide (s.cell a.code n.code = 2) with
    | some a => (decRefused, a.code)
    | none =>
      match near.find? fun a => decide (s.cell a.code n.code = 1) with
      | some a =>
        if isStanding n.code = false ∧ 32 ≤ (acts.filter fun a => decide (a.st = .queued)).length then (decRefused, a.code)
        else (decQueued, a.code)
      | none =>
        match near.find? fun a => decide (s.cell a.code n.code = 3) with
        | some a => (decPreempted, a.code)
        | none => (decConcurrent, 0)

/-- GD_LAST_DECISION (R484). -/
def State.lastDecision (s : State) (n : Activity) (d blocking : Nat) : State :=
  s.wrN R.GD_LAST_DECISION (n.code % 16 + n.pool % 16 * 2 ^ 4 + d * 2 ^ 8 + blocking % 16 * 2 ^ 10)

/-- The running and queued activities take a value. -/
def State.setActs (s : State) (l : List Activity) : State := { s with guard := { s.guard with acts := l } }

/-- A new activity is checked, and runs, is queued, or is refused (R467): the decision is answered. A second start of a
standing activity joins the one that is there (R466). -/
def State.actStart (s : State) (n : Activity) : State × Nat :=
  if isStanding n.code ∧ s.guard.acts.any (fun a => decide (a.code = n.code ∧ a.pool = n.pool)) then (s, decConcurrent)
  else
    let (d, b) := s.actDecide n
    let s1 := s.lastDecision n d b
    if d = decRefused then (s1.event 4 4, d)
    else if d = decQueued then ((s1.setActs (s1.guard.acts ++ [{ n with st := .queued }])).event 4 3, d)
    else (s1.setActs (s1.guard.acts ++ [{ n with st := .running }]), d)

/-- Activities of a code and pool that satisfy a test have ended. -/
def State.actEnd (s : State) (code pool : Nat) (f : Activity → Bool) : State :=
  s.setActs (s.guard.acts.filter fun a => !(decide (a.code = code ∧ a.pool = pool) && f a))

/-- An activity of which only code and pool are known. -/
def Activity.of (code pool : Nat) : Activity :=
  { code := code, pool := pool, vols := [], group := none, st := .running, op := 0, args := [] }

/-- A standing activity of a pool may work now: no other running or queued activity in scope has a cell Q or X for it, and
none that runs pauses it (R465 to R467). -/
def State.standingMay (s : State) (code pool : Nat) : Bool :=
  let n := Activity.of code pool
  s.guard.acts.all fun a =>
    decide (a.code = code ∧ a.pool = pool) || !a.inScope n
      || (decide (s.cell a.code code = 0 ∨ s.cell a.code code = 3)
          && !(decide (a.st = .running) && decide (s.cell code a.code = 3)))

/-- A standing activity with work is entered among the running ones where it may work (R465). -/
def State.standing (s : State) (code pool : Nat) : State × Bool :=
  if s.standingMay code pool then
    ((if s.guard.acts.any (fun a => decide (a.code = code ∧ a.pool = pool)) then s
      else s.setActs (s.guard.acts ++ [Activity.of code pool])), true)
  else (s, false)

/-- A queued command activity may start: neither a running activity nor one queued before it blocks it (R467). -/
def State.mayStart (s : State) (before : List Activity) (n : Activity) : Bool :=
  (before ++ s.guard.acts.filter fun a => decide (a.st = .running)).all fun a =>
    !a.inScope n || decide (s.cell a.code n.code = 0 ∨ s.cell a.code n.code = 3)

/-- Standing activities pause or resume at a commit point as the matrix has it (R465, R466). -/
def State.actPause (s : State) : State :=
  s.setActs (s.guard.acts.map fun a =>
    if isStanding a.code ∧ a.st ≠ .queued then { a with st := if s.standingMay a.code a.pool then .running else .paused } else a)

end Sys2Proof.Machine
end

