-- ==== Sys2Proof/Machine/Journal.lean ====
section
/-! DEFINITION. Map transactions and the map journal (R269 to R273): building records, what they will leave once applied,
and programming page sets. -/

namespace Sys2Proof.Machine

/-- The number of a transaction. -/
def txnKey (pool tseq : Nat) : Nat := pool * 2 ^ 64 + tseq

/-- The transactions of a pool that are not applied yet, in TSEQ order. -/
def State.txnsOf (s : State) (pool : Nat) : List Txn := (s.media.txns.filter fun t => decide (t.2.pool = pool)).map Prod.snd

/-- Change a transaction. -/
def State.setTxn (s : State) (k : Nat) (f : Txn → Txn) : State :=
  { s with media := { s.media with txns := s.media.txns.upd k f } }

/-- A record that recovery finds (R295). -/
def Txn.found (t : Txn) : Txn := { t with durable := true }

/-- Records found join those of the pools. -/
def State.txnsFound (s : State) (l : List Txn) : State :=
  { s with media := { s.media with txns := l.foldl (fun (m : Amap Txn) (t : Txn) =>
      if m.has (txnKey t.pool t.tseq) then m else m.put (txnKey t.pool t.tseq) t.found) s.media.txns } }

/-- The journal tail, 48 MiB at most, is full (R272). -/
def State.tailFull (s : State) : Bool :=
  decide (50331648 ≤ ((s.media.txns.filter fun t => !t.2.durable).map fun t => t.2.len).sum)

/-- The new address that an op sets, if it sets one. -/
def MapOp.new? : MapOp → Option Nat
  | .setGrain _ _ new _ => some new
  | .setSlot _ _ new _ => some new
  | _ => none

/-- The stripes, still being filled or written, that hold an address (R272). -/
def State.stripesWith (s : State) (a : Nat) : List Nat :=
  (s.media.stripes.filter fun x => x.2.grains.any fun p => decide (gaKey p.addr = gaKey a)).map Prod.fst

/-- What an op does to the map trees and to the pages' IDs and SHAREs (R267, R268). -/
def State.treeOp (s : State) (pool t : Nat) : MapOp → State
  | .setGrain vol g new _ => s.setGrain vol g new t
  | .snapCreate target source _ =>
    match s.vol source with
    | none => s
    | some v => ({ s with media := { s.media with vols := s.media.vols.put target v } }).shareBy v.pool v.root true
  | .snapStep _ visit => visit.foldl (fun s id => (s.freePage pool id t).1) s
  | _ => s

/-- The map as the records of a pool that are not applied yet will leave it. -/
def State.treeAfter (s : State) (pool : Nat) : State :=
  (s.txnsOf pool).foldl (fun s t => t.ops.foldl (fun s o => s.treeOp pool t.tseq o) s) s

/-- The pages on a volume's path to a grain, the root first; 0 where there is none. -/
def State.pathIds (s : State) (pool g : Nat) : Nat → Nat → List Nat
  | 0, id => [id]
  | l + 1, id => id :: s.pathIds pool g l (s.entry pool id (slotOf (l + 1) g))

/-- The ops of a record, before each SET_GRAIN the DIVERGE ops of the pages that its path shares (R268, R270). -/
def State.withDiverge (s : State) (pool t : Nat) (ops : List MapOp) : List MapOp :=
  (ops.foldl (fun (r : State × List MapOp) o =>
    let s1 := r.1.treeOp pool t o
    match o with
    | .setGrain vol g _ _ =>
      let ids := fun (s : State) => s.pathIds pool g 4 ((s.vol vol).elim 0 Vol.root)
      let copies := ((ids r.1).zip (ids s1)).filter fun x => decide (x.1 ≠ 0 ∧ x.1 ≠ x.2)
      (s1, r.2 ++ copies.map (fun x => MapOp.diverge x.1 x.2) ++ [o])
    | _ => (s1, r.2 ++ [o])) (s.treeAfter pool, [])).2

/-- A map transaction is built: TSEQ is one more than the pool's last, and the record waits for every stripe that it names
(R269, R270, R272). The TSEQ is answered. -/
def State.addTxn (s : State) (pool flags cseq vol : Nat) (ops : List MapOp) : State × Nat :=
  match s.pool pool with
  | none => (s, 0)
  | some p =>
    let t := p.nextTseq
    let needs := (ops.filterMap MapOp.new?).flatMap fun a => if isGrain a then s.stripesWith a else []
    let x : Txn := { pool := pool, tseq := t, flags := flags, stride := s.now, cseq := cseq, vol := vol,
                     ops := s.withDiverge pool t ops,
                     needs := needs.eraseDups, issued := false, okOn := [], durable := false }
    let s1 := s.setPool pool fun p => { p with nextTseq := t + 1 }
    ({ s1 with media := { s1.media with txns := s1.media.txns.put (txnKey pool t) x } }, t)

/-- FLAGS of a record (R270). -/
def txHost : Nat := 1
def txReclaim : Nat := 2
def txMerge : Nat := 4

/-! ### What unapplied transactions will leave -/

/-- An op of a record sets the map entry of a grain of a volume, whose leaf page is `leaf`: the new entry. -/
def MapOp.hits (vol g leaf : Nat) : MapOp → Option Nat
  | .setGrain v x new _ => if v = vol ∧ x = g then some new else none
  | .setSlot page slot new _ => if page = leaf ∧ leaf ≠ 0 ∧ slot = slotOf 0 g then some new else none
  | _ => none

/-- The map entry of a grain once every transaction built so far has applied. -/
def State.finalEntry (s : State) (vol g : Nat) : Nat :=
  match s.vol vol with
  | none => 0
  | some v =>
    let leaf := s.leafOf v.pool g 4 v.root
    (s.txnsOf v.pool).foldl (fun e t => t.ops.foldl (fun e o => (o.hits vol g leaf).getD e) e) (s.mapEntry vol g)

/-- What an op adds to the count of a grain. -/
def MapOp.refDelta (key : Nat) : MapOp → Int
  | .setGrain _ _ new old => (if gaKey new = key then 1 else 0) - (if gaKey old = key then 1 else 0)
  | .setSlot _ _ new old => (if gaKey new = key then 1 else 0) - (if gaKey old = key then 1 else 0)
  | .refChange a d _ => if gaKey a = key then d else 0
  | _ => 0

/-- The count of a grain once every transaction built so far has applied. -/
def State.finalRefs (s : State) (a : Nat) : Int :=
  (s.refs a : Int) + (s.media.txns.foldl (fun n t => t.2.ops.foldl (fun n o => n + o.refDelta (gaKey a)) n) 0)

/-! ### The journal band (R271, R272, R341) -/

/-- The block group that a copy of the band writes now. -/
def BandCopy.group (b : BandCopy) : Nat := if b.onB then b.groupB else b.groupA

/-- Pages of a block of the module at a port, 4,096 where no identity is known. -/
def State.pagesAt (s : State) (port : Nat) : Nat := (s.ident port).elim 4096 Ident.pages

/-- The copy after one page set, whose last record has TSEQ `last` (R341). -/
def BandCopy.advance (b : BandCopy) (pages last : Nat) : BandCopy :=
  let n := max b.last last
  if b.page + 1 < pages then { b with page := b.page + 1, last := n }
  else { b with page := 0, onB := !b.onB, otherUsed := true, last := 0, otherLast := n }

/-- The copies that page sets go to: those in service, and the one being restored (R344). -/
def Pool.targets (p : Pool) : List BandCopy := p.band ++ p.bandNew.toList

/-- The records of the next page set: the unissued ones in TSEQ order, each naming written stripes only, as many as a page
set of 65,536 bytes less its 64-byte header holds; and whether it is full (R272, R341). -/
def pageSet : List Txn → Nat → List Txn × Bool
  | [], _ => ([], false)
  | t :: ts, room =>
    if t.needs ≠ [] then ([], false)
    else if room < t.len then ([], true)
    else
      let (l, full) := pageSet ts (room - t.len)
      (t :: l, full)

/-- A stripe record is on every copy of the band in service, and on at least two (R271, R342). -/
def StrRec.durable (p : Pool) (r : StrRec) : Bool :=
  decide (r.bseq ≠ 0 ∧ 2 ≤ r.okOn.length) && p.band.all fun b => decide (b.module ∈ r.okOn)

/-- One copy of a page set is programmed, in single-level mode, where the module can be reached (R341). -/
def State.journalCopy (s : State) (pool bseq first last : Nat) (data : List Byte) (b : BandCopy) : State :=
  let port := s.portOf pool b.module
  if s.linkUp port then
    s.sendMod port (ModCmd.program b.die b.group b.page true (.journal pool bseq first last b.module) (codewords [] data))
  else s

/-- JOURNAL_PROGRAM (R272, R341, R344): the next page set of a pool, full or FTL_JRNL_WAIT strides after its first record, is programmed
to every copy of the band. Stripe records stand before the map records, which name stripes that they tell of. -/
def execJournalProgram (pool : Nat) (s : State) : Out :=
  match s.pool pool with
  | none => .next s
  | some p =>
    let rs := (s.media.strLog.filter fun r => decide (r.pool = pool ∧ r.bseq = 0)).take 1636
    let (l, full) := pageSet ((s.txnsOf pool).filter fun t => !t.issued) (65472 - 40 * rs.length)
    match rs.map StrRec.stride ++ l.map Txn.stride with
    | [] => .next s
    | x :: xs =>
      let oldest := xs.foldl (fun a b => if s.since a < s.since b then b else a) x
      if s.mutedModules ∨ s.halted 137 ∨ (full = false ∧ rs.length < 1636 ∧ s.since oldest < s.fld R.FTL_JRNL_WAIT 0 8) then .next s
      else
        let first := (l.head?).elim 0 Txn.tseq
        let data := pageSetImage pool s.headId (p.bandSeq + 1) first s.now (rs.flatMap StrRec.image ++ l.flatMap Txn.image)
        let s1 := p.targets.foldl (fun s b => s.journalCopy pool (p.bandSeq + 1) first ((l.getLast?).elim 0 Txn.tseq) data b) s
        let adv := fun b : BandCopy => b.advance (s.pagesAt (s.portOf pool b.module)) ((l.getLast?).elim 0 Txn.tseq)
        let s2 := s1.setPool pool fun p =>
          { p with band := p.band.map adv, bandNew := p.bandNew.map adv, bandSeq := p.bandSeq + 1 }
        let s3 := { s2 with media := { s2.media with
          strLog := s2.media.strLog.map fun r => if r ∈ rs then { r with bseq := p.bandSeq + 1 } else r } }
        .next (l.foldl (fun s t => s.setTxn (txnKey pool t.tseq) fun t => { t with issued := true }) s3)

end Sys2Proof.Machine
end

