-- ==== Sys2Proof/Machine/Stripes.lean ====
section
/-! DEFINITION. Opening segments, packing grains into stripes and programming them (R274 to R277, R330 to R334, R342). -/

namespace Sys2Proof.Machine

/-! ### Layouts (R330, R333, R356) -/

/-- Members of a stripe of a layout. -/
def layoutWidth (kind n : Nat) : Nat :=
  match kind with
  | 0 => 2 | 1 => 3 | 2 => n + 1 | _ => n + 2

/-- Redundant chunks of a stripe of a layout. -/
def layoutRedundant (kind : Nat) : Nat :=
  match kind with
  | 0 => 1 | 1 => 2 | 2 => 1 | _ => 2

/-- Data chunks of a stripe of `w` members: mirrors hold one. -/
def dataChunks (kind w : Nat) : Nat := if kind ≤ 1 then 1 else w - layoutRedundant kind

/-- The layout kind of a segment follows from its SEG_SEQ while a reshape runs (R333, R356). -/
def Pool.kindOf (p : Pool) (seq : Nat) : Nat :=
  match p.phase, p.reshape with
  | .migrate, some (k, _) => if seq < p.switchSeq then k else p.layout
  | .finish, some (k, _) => if seq < p.switchSeq then k else p.layout
  | _, _ => p.layout

/-- A module of a pool is in service: not failed, and its port's link ACTIVE (R333, R338). -/
def State.inService (s : State) (pool : Nat) (p : Pool) (m : Nat) : Bool := !p.failed.has m && s.linkUp (s.portOf pool m)

/-- The width at which a segment can be opened now, none where it cannot (R333). -/
def State.openWidth (s : State) (pool : Nat) (p : Pool) : Option Nat :=
  let n := (p.modules.filter (s.inService pool p)).length
  let w := layoutWidth p.layout p.n
  if w ≤ n then some w
  else if 2 ≤ p.layout ∧ 4 + layoutRedundant p.layout ≤ n then some n
  else none

/-! ### Block groups (R300) -/

/-- The number of a block group. -/
def bgKey (m die bgrp : Nat) : Nat := (m * 1024 + die) * 4096 + bgrp / 4

/-- A block group of which no record is listed: never erased, GOOD. -/
def BlockGroup.fresh : BlockGroup :=
  { erases := 0, st := .good, bin := 1, slc := false, prio := false, refresh := false, covered := false, suspLeft := 0,
    progCal := 0, progTemp := 0, retAge := 0, reads := 0, trim := [0, 0, 0, 0], trimNext := none, corrMax := 0, cover := 0,
    up := [0, 0, 0, 0], dn := [0, 0, 0, 0], patPage := 0, retireDue := false }

/-- A block-group record. -/
def State.bg (s : State) (m die bgrp : Nat) : BlockGroup := s.media.bgs.getD (bgKey m die bgrp) BlockGroup.fresh

/-- A block-group record takes a value. -/
def State.setBg (s : State) (m die bgrp : Nat) (f : BlockGroup → BlockGroup) : State :=
  { s with media := { s.media with bgs := s.media.bgs.put (bgKey m die bgrp) (f (s.bg m die bgrp)) } }

/-- The number of a die. -/
def dieKey (m die : Nat) : Nat := m * 1024 + die

/-- A die of which nothing has happened: idle and in service. -/
def Die.fresh : Die :=
  { st := .idle, suspensions := 0, remain := none, bins := [], saved := [], spare := false, retired := [], leaving := false }

/-- A die of the array. -/
def State.die (s : State) (m d : Nat) : Die := s.media.dies.getD (dieKey m d) Die.fresh

/-- A die takes a value. -/
def State.setDie (s : State) (m d : Nat) (f : Die → Die) : State :=
  { s with media := { s.media with dies := s.media.dies.put (dieKey m d) (f (s.die m d)) } }

/-- A die may hold new data: usable at manufacture, no spare, not offline or retired (R257, R317). -/
def State.dieUsable (s : State) (port m d : Nat) : Bool :=
  (s.ident port).elim false (fun i => decide (d ∈ i.dieMap) && decide (d < i.dies))
    && !(s.die m d).spare && !(s.die m d).leaving && decide ((s.die m d).st ≠ .offline ∧ (s.die m d).st ≠ .retired)

/-! ### Anchors (R279) -/

/-- The die of a module whose block groups 0 and 4 are the anchor of a paddock: its lowest usable die (R279). -/
def State.anchorDie (s : State) (port q : Nat) : Option Nat :=
  (s.ident port).bind fun i => (i.dieMap.filter fun d => decide (paddockOf d = q ∧ d < i.dies)).min?

/-- A block group is an anchor's. -/
def State.isAnchor (s : State) (port die bgrp : Nat) : Bool :=
  decide (bgrp < 8) && decide (s.anchorDie port (paddockOf die) = some die)

/-! ### Segments and capacity (R283, R291, R356) -/

/-- Dies of a pool's paddock that hold or may hold data on a module of it. -/
def State.usableDies (s : State) (pool m : Nat) : List Nat :=
  (List.range 1024).filter fun d => decide (paddockOf d = s.padOf pool) && s.dieUsable (s.portOf pool m) m d

/-- Block groups of a pool's module in this head's paddock that are neither retired nor a band's nor the anchor's. -/
def State.groupsOn (s : State) (pool m : Nat) : Nat :=
  let dies := s.usableDies pool m
  let n := (s.ident (s.portOf pool m)).elim 0 fun i => i.blocks / 4
  dies.length * n - (s.media.bgs.count fun k b =>
    decide (k / 4096 / 1024 = m ∧ k / 4096 % 1024 ∈ dies) && decide (b.st = .retired ∨ b.st = .band)) - 2

/-- Segments of a pool on this head's paddock (FTL_SEG_TOTAL): its block groups by the width of its layout (DEDUCED,
assumption log 33). -/
def State.segTotal (s : State) (pool : Nat) : Nat :=
  match s.pool pool with
  | none => 0
  | some p => (p.modules.map (s.groupsOn pool)).sum / max (layoutWidth p.layout p.n) 1

/-- Segments of a pool that are not FREE. -/
def State.segUsed (s : State) (pool : Nat) : Nat := s.media.segs.count fun _ g => decide (g.pool = pool)

/-- FREE segments of a pool (FTL_SEG_FREE). -/
def State.segFree (s : State) (pool : Nat) : Nat := s.segTotal pool - s.segUsed pool

/-- Pages of a block on the modules of a pool: the least. -/
def State.poolPages (s : State) (pool : Nat) (p : Pool) : Nat :=
  (p.modules.map fun m => s.pagesAt (s.portOf pool m)).foldl min 4096

/-- CAP of a pool: raw granules of its in-service dies by data chunks over members (R291, R356). -/
def State.capOf (s : State) (pool : Nat) (p : Pool) (kind n : Nat) : Nat :=
  let raw := (p.modules.map fun m =>
    (s.usableDies pool m).length * ((s.ident (s.portOf pool m)).elim 0 fun i => i.blocks / 4 * i.pages * 1024)).sum
  raw * dataChunks kind (layoutWidth kind n) / max (layoutWidth kind n) 1

/-- Data granules of a whole segment (R284). -/
def State.segData (s : State) (pool : Nat) (p : Pool) : Nat :=
  1023 * dataChunks p.layout (layoutWidth p.layout p.n) * s.poolPages pool p

/-- Destage of host grains leaves erased segments of the pool's reserve, but in EXHAUSTED and READ_ONLY, when what was
admitted before is destaged from it (R283, R291). -/
def State.reserveKept (s : State) (pool kind : Nat) (p : Pool) : Bool :=
  decide (kind ≠ 0) || decide (2 ≤ s.space pool) || decide (p.cap / 200 ≤ (s.segFree pool - 1) * s.segData pool p)

/-! ### Opening a segment (R274, R275, R333) -/

/-- A place may take a member of a new segment: a die of this head's paddock on an in-service module of the pool, a block
group that is neither retired nor a band's and that no segment holds. -/
def State.placeOk (s : State) (pool : Nat) (p : Pool) (x : Place) : Bool :=
  decide (x.module ∈ p.modules) && s.inService pool p x.module && decide (paddockOf x.die = s.padOf pool)
    && s.dieUsable (s.portOf pool x.module) x.module x.die
    && decide (x.bgrp % 4 = 0) && (s.ident (s.portOf pool x.module)).elim false (fun i => decide (x.bgrp < i.blocks))
    && decide ((s.bg x.module x.die x.bgrp).st = .good ∨ (s.bg x.module x.die x.bgrp).st = .suspect)
    && !s.isAnchor (s.portOf pool x.module) x.die x.bgrp && !(s.media.segs.any fun g => decide (x ∈ g.2.place))

/-- A list of places is a segment: W distinct modules, each place free. -/
def State.placesOk (s : State) (pool : Nat) (p : Pool) (l : List Place) : Bool :=
  decide (s.openWidth pool p = some l.length) && decide ((l.map Place.module).eraseDups.length = l.length)
    && l.all (s.placeOk pool p)

/-- Segment kinds (R274). -/
def segHost : Nat := 0
def segCopy : Nat := 1
def segMeta : Nat := 2

/-- A segment of a kind is opened at given places: SEG_SEQ is assigned, and its OPEN journaled (R274, R275). -/
def State.openSegment (s : State) (pool kind : Nat) (places : List Place) : State × Option Nat :=
  match s.pool pool with
  | none => (s, none)
  | some p =>
    if s.placesOk pool p places = false ∨ s.reserveKept pool kind p = false then (s, none)
    else
      let i := (s.media.segs.freeKey (s.media.segs.length + 1)).getD s.media.segs.length
      let g : Seg := { pool := pool, kind := kind, seq := p.nextSeq, state := .free, want := some .open, stripes := 0,
                       nextPage := 0, live := 0, openStride := s.now, closeStride := 0, packedAt := [], place := places, readers := 0,
                       swept := false, erased := [], eraseFails := [], refresh := false, rebuild := false, rebuilt := 0, rebuiltAt := [] }
      let s1 := s.setPool pool fun p => { p with nextSeq := p.nextSeq + 1 }
      let s2 := { s1 with media := { s1.media with segs := s1.media.segs.put i g } }
      ((s2.addTxn pool 0 0 0 [.segState i SegState.open.code]).1, some i)

/-- A segment takes no further stripe: its CLOSED is journaled (R275). -/
def State.closeSegment (s : State) (i : Nat) : State :=
  match s.seg i with
  | none => s
  | some g =>
    if (g.state = .open ∧ g.want = none) ∨ g.want = some .open then
      let s1 := s.setSeg i fun g => { g with want := some .closed }
      (s1.addTxn g.pool 0 0 0 [.segState i SegState.closed.code]).1
    else s

/-- The open segment of a kind of a pool: OPEN, or its OPEN in the journal (R274). -/
def State.openSeg (s : State) (pool kind : Nat) : Option (Nat × Seg) :=
  s.media.segs.first fun _ g => decide (g.pool = pool ∧ g.kind = kind)
    && (decide (g.state = .open ∧ g.want = none) || decide (g.want = some .open))

/-- Stripes that a segment takes: pages of a block. -/
def State.segPages (s : State) (g : Seg) : Nat :=
  (g.place.map fun p => s.pagesAt (s.portOf g.pool p.module)).foldl min 4096

/-! ### Programming a stripe (R334, R342) -/

/-- A record of the in-flight stripe journal is appended (R334, R342). -/
def State.stripeRecord (s : State) (kind : Nat) (x : Stripe) (g : Seg) (mask : Nat) : State :=
  let r : StrRec := { kind := kind, pool := x.pool, seg := x.seg, segSeq := g.seq, page := x.page,
                      members := g.place.length, position := 255, mask := mask, stride := s.now, bseq := 0, okOn := [] }
  { s with media := { s.media with strLog := s.media.strLog ++ [r] } }

/-- A stripe takes a value. -/
def State.setStripe (s : State) (i : Nat) (x : Stripe) : State :=
  { s with media := { s.media with stripes := s.media.stripes.put i x } }

/-- A mask of member numbers. -/
def maskOf (l : List Nat) : Nat := l.foldl (fun m i => m + 2 ^ i) 0

/-- An armed injection flips a bit of the next P output of an engine, which bit being free (R358). -/
def State.parityInject (s : State) : State × List (Nat × Nat) :=
  let (s1, hit) := (s.operate 141 (s.fld (R.PG_INJECT 141) 8 8)).inject 141 0x05 (s.fld (R.PG_INJECT 141) 8 8)
  if hit then (s1.useFree, [(s1.freeNat % 65536, 2 ^ (s1.freeNat / 65536 % 8))]) else (s1, [])

/-- The grains of data position `j` of a stripe, with their granules, in rising order (R276, R331). -/
def Stripe.grainsAt (x : Stripe) (g : Seg) (j : Nat) : List (Nat × Stored) :=
  match g.place[(j + x.page) % max g.place.length 1]? with
  | none => []
  | some p => (x.grains.filter fun q => p.holds q.addr).map fun q => (gaChunkGranule q.addr, q.stored)

/-- The chunks of a stripe by position, from the grains of its data chunks (R276, R331, R332). -/
def Seg.chunks (g : Seg) (kind page : Nat) (at_ : DWord) (grains : Nat → List (Nat × Stored)) : List (List Byte) :=
  let w := g.place.length
  stripeChunks kind w ((List.range (dataChunks kind w)).map fun j => chunkImage (decide (g.kind = segMeta)) (grains j) g.seq page (if kind ≤ 1 then 0 else j) (g.pool % 16) at_)

/-- The codewords that a PROGRAM of position `j` carries: those of poison grains are poison codewords (R248, R335); a mirror repeats
position 0. -/
def chunkWords (kind : Nat) (chunks : List (List Byte)) (grains : Nat → List (Nat × Stored)) (j : Nat) : List Byte :=
  codewords (poisonWords (grains (if kind ≤ 1 then 0 else j))) (chunks.getD j [])

/-- A closed stripe is programmed, one PROGRAM per member, once its segment's OPEN is durable; a member whose link is down
has failed (R275, R277, R334). -/
def State.issueStripe (s : State) (i : Nat) : State :=
  match s.media.stripes.find i with
  | none => s
  | some x =>
    match s.seg x.seg with
    | none => s
    | some g =>
      if x.closed = false ∨ x.issued ∨ (g.state ≠ .open ∧ g.state ≠ .closed) ∨ s.halted 141 then s
      else
        let ks := List.range g.place.length
        let portOf := fun k => s.portOf x.pool ((g.place[k]?).elim 0 Place.module)
        let up := ks.filter fun k => s.linkUp (portOf k)
        let down := ks.filter fun k => !s.linkUp (portOf k)
        let kind := (s.pool x.pool).elim 0 fun p => p.kindOf g.seq
        let (s0, flip) := if 2 ≤ kind then s.parityInject else (s, [])
        let s1 := s0.stripeRecord 1 x g (maskOf ks)
        let w := max g.place.length 1
        let chunks := (g.chunks kind x.page x.packedAt (x.grainsAt g)).mapIdx fun j c =>
          if 2 ≤ kind ∧ j = dataChunks kind w then withErrors c flip else c
        let s2 := s1.setStripe i { x with issued := true, waiting := up, failed := down }
        up.foldl (fun s k =>
          match g.place[k]? with
          | none => s
          | some p => s.sendMod (s.portOf x.pool p.module) (ModCmd.program p.die p.bgrp x.page false (.stripe i k)
              (chunkWords kind chunks (x.grainsAt g) ((k + w - x.page % w) % w)))) s2

/-- A list cut or filled with zeros to `n`. -/
def padDown (l : List DWord) (n : Nat) : List DWord := l.take n ++ List.replicate (n - l.length) 0

/-- A stripe is closed to further grains, its chunks packed, and programmed as soon as it may be. -/
def State.closeStripe (s : State) (i : Nat) : State :=
  match s.media.stripes.find i with
  | none => s
  | some x =>
    let s1 := s.setSeg x.seg fun g => { g with packedAt := padDown g.packedAt x.page ++ [s.now] }
    (s1.setStripe i { x with closed := true, packedAt := s.now }).issueStripe i

/-- All closed stripes of a segment are programmed: its OPEN is durable. -/
def State.issueSegment (s : State) (seg : Nat) : State :=
  ((s.media.stripes.filter fun x => decide (x.2.seg = seg)).map Prod.fst).foldl State.issueStripe s

/-! ### Packing (R276) -/

/-- A chunk with `used` data granules and `count` headers takes a grain of `len` granules (R276). -/
def chunkFits (used count len : Nat) : Bool :=
  decide (count + 1 ≤ 409 ∧ used + len + ceilDiv (96 * (count + 1)) 64 ≤ 1023)

/-- Where a grain begins in a chunk: a poison grain at a codeword boundary, of 32 granules (R335). -/
def alignUp (poison : Bool) (used : Nat) : Nat := if poison then ceilDiv used 32 * 32 else used

/-- The first data chunk of a stripe that takes a grain (DESIGN CHOICE, assumption log 30). -/
def Stripe.slot (x : Stripe) (poison : Bool) (len : Nat) : Option Nat :=
  (List.range x.fill.length).find? fun j =>
    match x.fill[j]? with | none => false | some (u, c) => chunkFits (alignUp poison u) c len

/-- The open stripe of a kind of a pool. -/
def State.openStripe (s : State) (pool kind : Nat) : Option (Nat × Stripe) :=
  s.media.stripes.first fun _ x => decide (x.pool = pool) && !x.closed
    && (s.seg x.seg).elim false fun g => decide (g.kind = kind)

/-- A stripe at the next page index of a segment is begun. -/
def State.beginStripe (s : State) (seg : Nat) : State :=
  match s.seg seg with
  | none => s
  | some g =>
    let kind := (s.pool g.pool).elim 0 fun p => p.kindOf g.seq
    let x : Stripe := { pool := g.pool, seg := seg, page := g.nextPage,
                        fill := List.replicate (dataChunks kind g.place.length) (0, 0), grains := [], closed := false, packedAt := 0,
                        issued := false, waiting := [], failed := [], fuaAt := none }
    let s1 := s.setSeg seg fun g => { g with nextPage := g.nextPage + 1 }
    let i := s1.media.nextStripe
    { s1.setStripe i x with media := { (s1.setStripe i x).media with nextStripe := i + 1 } }

/-- A stripe of a kind that has room for a grain of `len` granules: the open one, else the next, in a new segment at the
first of `places` where the present one takes no more (R274, R275). The places left are answered. -/
def State.roomFor (s : State) (pool kind len : Nat) (poison : Bool) (places : List (List Place)) :
    Option (State × List (List Place)) :=
  let fits := match s.openStripe pool kind with
    | none => false
    | some (_, x) => (x.slot poison len).isSome
  if fits then some (s, places)
  else
    let s1 := match s.openStripe pool kind with
      | none => s
      | some (i, _) => s.closeStripe i
    let s2 := match s1.openSeg pool kind with
      | none => s1
      | some (i, g) => if g.nextPage < s1.segPages g then s1 else s1.closeSegment i
    match s2.openSeg pool kind with
    | some (i, _) => some (s2.beginStripe i, places)
    | none =>
      match places with
      | [] => none
      | l :: rest =>
        match s2.openSegment pool kind l with
        | (s3, some i) => some (s3.beginStripe i, rest)
        | (_, none) => none

/-- The address of a grain at position `j` of a stripe: position j lies on member (j + page) mod W (R263, R331). -/
def Seg.addr (g : Seg) (page j granule len : Nat) (raw : Bool) : Nat :=
  match g.place[(j + page) % max g.place.length 1]? with
  | none => 0
  | some p => gaMake p.module p.die p.bgrp page granule len raw

/-- A grain is packed into the open stripe of a kind: its address is answered, none where no segment can be opened (R333). -/
def State.pack (s : State) (pool kind : Nat) (g : Stored) (old : Nat) (fua : Bool) (places : List (List Place)) :
    Option (State × List (List Place) × Nat) :=
  match s.roomFor pool kind g.len g.poison places with
  | none => none
  | some (s1, rest) =>
    match s1.openStripe pool kind with
    | none => none
    | some (i, x) =>
      match s1.seg x.seg, x.slot g.poison g.len with
      | some sg, some j =>
        let (u0, c) := (x.fill[j]?).getD (0, 0)
        let u := alignUp g.poison u0
        let a := sg.addr x.page j u g.len g.raw
        let y := { x with fill := x.fill.set j (u + g.len, c + 1),
                          grains := x.grains ++ [{ addr := a, old := old, stored := { g with segSeq := sg.seq } }],
                          fuaAt := if fua ∧ x.fuaAt = none then some s1.now else x.fuaAt }
        some (s1.setStripe i y, rest, a)
      | _, _ => none

end Sys2Proof.Machine
end

