-- ==== Sys2Proof/Machine/Sources.lean ====
section
/-! DEFINITION. The reads of chunks: slots and trims that a READ names (R301, R306), the members that can supply a chunk (R229, R336, R337), and
the reads of reclaim, relocation and rebuild (R285, R303, R349). -/

namespace Sys2Proof.Machine

/-! ### Slots and trims (R301, R305, R306) -/

/-- A bin of which nothing is known: the even slot, offsets zero. -/
def CalBin.blank (now : DWord) (sec : Nat) : CalBin :=
  { active := 0, offs := List.replicate 7 0, up := List.replicate 7 0, dn := List.replicate 7 0, sent := none, ok := false,
    examined := now, fresh := sec }

/-- A bin of a die. -/
def State.calBin (s : State) (m d bin : Nat) : CalBin := (s.die m d).bins.getD bin (CalBin.blank s.now s.calSec)

/-- The active slot of a block group's bin (R301). -/
def State.slotFor (s : State) (m d bgrp : Nat) : Nat :=
  let bin := (s.bg m d bgrp).bin
  2 * bin + (s.calBin m d bin).active

/-- ARG of a READ: CW_FIRST, CW_COUNT - 1, SLOT and the TRIM bytes of the block group, each moved by `shift` (R247, R301,
R337). -/
def State.readArg (s : State) (m d bgrp first count : Nat) (shift : Int) : Nat :=
  let trims := ((s.bg m d bgrp).trim.mapIdx fun i t => toField 8 (t + shift) * 2 ^ (8 * i)).sum
  first % 32 + (count - 1) % 32 * 2 ^ 8 + s.slotFor m d bgrp * 2 ^ 16 + trims * 2 ^ 32

/-- A READ of `count` codewords from codeword `first` of a page set (R247). -/
def State.readCmd (s : State) (m d bgrp page first count : Nat) (urgent : Bool) (shift : Int) (use : ModUse) : ModCmd :=
  { ModCmd.plain opRead d use with
    urgent := urgent, slc := (s.bg m d bgrp).slc, bgrp := bgrp, page := page,
    arg := s.readArg m d bgrp first count shift }

/-! ### Which members supply a chunk (R229, R337) -/

/-- The codewords of a chunk that a grain covers: the first, and how many (R248, R263). -/
def grainWords (a : Nat) : Nat × Nat :=
  let g := gaChunkGranule a
  (g / 32, (g + gaLen a - 1) / 32 - g / 32 + 1)

/-- The position of member `k` of a stripe of `w` members at a page: the last is Q (R331, R332). -/
def positionOf (w k page : Nat) : Nat := (k + w - page % w) % w

/-- The chunk at member `k` of a stripe can serve no read: the module has failed and no rebuilt chunk of it is recorded yet, its link is
DOWN, or its die is offline or retired (R229, R336, R338, R350). -/
def State.absent (s : State) (pool : Nat) (p : Pool) (g : Seg) (page k : Nat) (x : Place) : Bool :=
  (p.failed.has x.module && !(p.subst.has x.module && decide ((page, positionOf g.place.length k page) ∈ g.rebuiltAt)))
    || !s.linkUp (s.portOf pool x.module) || decide ((s.die x.module x.die).st = .offline ∨ (s.die x.module x.die).st = .retired)

/-- Positions of a stripe that can supply nothing: absent members (R229, R337). -/
def State.absentAt (s : State) (pool : Nat) (p : Pool) (g : Seg) (page : Nat) : List Nat :=
  (List.range g.place.length).filter fun k => (g.place[k]?).elim true fun x => s.absent pool p g page k x

/-- The sources of a reconstruction: as many positions outside `e` as the layout has data chunks, data and P before Q (R337); none where too
many are erased. With Q tried in place of P, P is left out. -/
def reconSources (kind w page : Nat) (e : List Nat) (withQ : Bool) : Option (List Nat) :=
  let at_ := fun k => positionOf w k page
  let p := fun k => decide (2 ≤ kind ∧ at_ k = dataChunks kind w)
  let q := fun k => decide (kind = 3 ∧ at_ k + 1 = w)
  let xs := (List.range w).filter fun k => decide (k ∉ e)
  let order := (xs.filter fun k => !p k && !q k) ++ (if withQ then xs.filter q ++ xs.filter p else xs.filter p ++ xs.filter q)
  if dataChunks kind w ≤ order.length then some (order.take (dataChunks kind w)) else none

/-- The position of the member that holds a grain's address (R331). -/
def Seg.memberAt (g : Seg) (a : Nat) : Nat := (g.place.findIdx? fun x => x.holds a).getD 0

/-- A READ of codewords of a place for the chip's own copies, not urgent (R285, R349). -/
def State.ownRead (s : State) (pool page first count : Nat) (x : Place) : State :=
  s.sendMod (s.portOf pool x.module) (s.readCmd x.module x.die x.bgrp page first count false 0 .source)

/-- Codewords of the chunk at member `k` are read for a copy: from the chunk itself, or from the sources of its reconstruction (R232, R285,
R337). -/
def State.readSources (s : State) (g : Seg) (page k first count : Nat) : State :=
  match s.pool g.pool with
  | none => s
  | some p =>
    let gone := s.absentAt g.pool p g page
    let ks := if k ∈ gone then (reconSources (p.kindOf g.seq) g.place.length page (k :: gone).eraseDups false).getD [] else [k]
    (ks.filterMap fun j => g.place[j]?).foldl (State.ownRead · g.pool page first count) s

end Sys2Proof.Machine
end

