-- ==== Sys2Proof/Machine/Apply.lean ====
section
/-! DEFINITION. What follows when a stripe is written or fails, when a journal record is durable, and the application of map
transactions at a commit point (R161, R271, R275, R277, R285, R288, R290, R334). -/

namespace Sys2Proof.Machine

/-! ### Addresses that change before they are used (R277, R285) -/

/-- An op with a new address in place of another. -/
def MapOp.readdress (old new : Nat) : MapOp → MapOp
  | .setGrain v g n o => .setGrain v g (if gaKey n = gaKey old then new + n / 4 % 2 * 4 else n) o
  | .setSlot p i n o => .setSlot p i (if gaKey n = gaKey old then new + n / 4 % 2 * 4 else n) o
  | o => o

/-- An unissued record with a new address in place of another. -/
def Txn.readdress (old new : Nat) (t : Txn) : Txn := if t.issued then t else { t with ops := t.ops.map (·.readdress old new) }

/-- A tier entry with a new address in place of another. -/
def DdEntry.readdress (old new segSeq : Nat) (e : DdEntry) : DdEntry :=
  if e.pending = false ∧ gaKey e.target = gaKey old then { e with target := new, segSeq := segSeq } else e

/-- A CAM entry of a dedup bank (CAM3 to CAM15) with a new address in place of another. -/
def CamEntry.readdress (old new k : Nat) (e : CamEntry) : CamEntry :=
  if 3 ≤ k / 65536 ∧ k / 65536 ≤ 15 ∧ e.st ≠ 0 ∧ gaKey e.result = gaKey old then { e with result := new } else e

/-- Everything that named a grain at `old`, and is on no flash yet, names it at `new`. -/
def State.readdress (s : State) (old new segSeq : Nat) : State :=
  { s with
    media := { s.media with txns := s.media.txns.mapVals fun _ t => t.readdress old new },
    cam := { s.cam with
      buckets := s.cam.buckets.mapVals fun _ b => { b with slots := b.slots.mapVals fun _ e => e.readdress old new segSeq },
      entries := s.cam.entries.mapVals fun k e => e.readdress old new k } }

/-! ### Relocation (R285) -/

/-- SET_SLOT ops in records of at most 2,048 (R270, R285). -/
def State.addTxns (s : State) (pool flags : Nat) : Nat → List MapOp → State
  | 0, _ => s
  | n + 1, ops => if ops = [] then s else ((s.addTxn pool flags 0 0 (ops.take 2048)).1).addTxns pool flags n (ops.drop 2048)

/-- Once the stripe of a copy is written, its back-references are relocated, and a record that would add a reference to the
old grain adds it to the copy (R285). -/
def State.relocate (s : State) (pool : Nat) (p : Packed) : State :=
  let s1 := { s with media := { s.media with txns := s.media.txns.mapVals fun _ t => t.readdress p.old p.addr } }
  let ops := (s1.media.backrefs.filter fun b => decide (b.1 = gaKey p.old)).map fun b =>
    MapOp.setSlot b.2.1 b.2.2 p.addr p.old
  s1.addTxns pool txReclaim (ops.length / 2048 + 1) ops

/-! ### Stripes (R277, R334) -/

/-- A stripe's number is no longer waited for. -/
def Txn.met (i : Nat) (t : Txn) : Txn := { t with needs := t.needs.filter fun n => decide (n ≠ i) }

/-- A map page's copy is written: its page-table ADDR names it (R267, R273). -/
def State.pageFlushed (s : State) (pool : Nat) (p : Packed) : State :=
  match p.stored.obj with
  | some (1, id, _) =>
    match s.mpage pool id with
    | some x => s.setMpage pool id { x with addr := p.addr }
    | none => s
  | _ => s

/-- Every member answered OK: the stripe is written (R334). -/
def State.stripeWritten (s : State) (i : Nat) (x : Stripe) : State :=
  match s.seg x.seg with
  | none => s
  | some g =>
    let s1 := (s.stripeRecord 2 x g (maskOf (List.range g.place.length))).count (R.SP_STRIPES_WR x.pool)
    let s2 := s1.setSeg x.seg fun g => { g with stripes := g.stripes + 1 }
    let s3 := { s2 with media := { s2.media with
      stripes := s2.media.stripes.drop i,
      flash := x.grains.foldl (fun m p => m.put (gaKey p.addr) p.stored) s2.media.flash,
      txns := s2.media.txns.mapVals fun _ t => t.met i } }
    let s4 := x.grains.foldl (fun s p => s.pageFlushed x.pool p) s3
    (x.grains.filter fun p => p.stored.copied && isGrain p.old).foldl (fun s p => s.relocate x.pool p) s4

/-- The grains of a failed stripe are packed again, at new addresses (R277, R334); those that find no segment stay. -/
def State.repack (s : State) (i : Nat) (places : List (List Place)) : State × List (List Place) :=
  match s.media.stripes.find i with
  | none => (s, places)
  | some x =>
    let kind := (s.seg x.seg).elim segHost Seg.kind
    let r := x.grains.foldl (fun (r : State × List (List Place) × List Packed) p =>
      match r.1.pack x.pool kind p.stored p.old (x.fuaAt.isSome) r.2.1 with
      | none => (r.1, r.2.1, r.2.2 ++ [p])
      | some (s1, rest, a) =>
        let sq := ((s1.segAt a).elim 0 fun g => g.2.seq)
        let s2 := s1.readdress p.addr a sq
        let s3 := { s2 with media := { s2.media with
          txns := s2.media.txns.mapVals fun _ t =>
            if t.ops.any (fun o => o.new?.elim false fun n => decide (gaKey n = gaKey a)) then
              { t with needs := (t.needs ++ s2.stripesWith a).eraseDups } else t } }
        (s3, rest, r.2.2)) (s, places, [])
    match r with
    | (s1, rest, []) =>
      ({ s1 with media := { s1.media with stripes := s1.media.stripes.drop i,
                                          txns := s1.media.txns.mapVals fun _ t => t.met i } }, rest)
    | (s1, rest, left) => (s1.setStripe i { x with grains := left }, rest)

/-- A stripe of which every member has answered, one of them not OK: its grains wait to be packed again (R334). -/
def Stripe.lost (x : Stripe) : Bool := x.issued && decide (x.waiting = []) && decide (x.failed ≠ [])

/-- A grain that waits for rewrite is packed into a COPY stripe; its back-references follow once that is written (R232, R285). -/
def State.rewriteOne (s : State) (addr : Nat) (places : List (List Place)) : State × List (List Place) :=
  match s.media.rewrites.find addr, s.segAt addr with
  | some x, some (_, sg) =>
    match s.pack sg.pool segCopy { x with copied := true, cseq := 0, head := s.headId } addr false places with
    | none => (s, places)
    | some (s1, rest, _) => ({ s1 with media := { s1.media with rewrites := s1.media.rewrites.drop addr } }, rest)
  | _, _ => ({ s with media := { s.media with rewrites := s.media.rewrites.drop addr } }, places)

/-- The failed stripes of a pool, and its grains that wait for rewrite, are packed again. -/
def State.repackAll (s : State) (pool : Nat) (places : List (List Place)) : State × List (List Place) :=
  let r := ((s.media.stripes.filter fun x => decide (x.2.pool = pool) && x.2.lost).map Prod.fst).foldl
    (fun r i => r.1.repack i r.2) (s, places)
  ((r.1.media.rewrites.filter fun x => (r.1.segAt x.1).elim true fun k => decide (k.2.pool = pool)).map Prod.fst).foldl
    (fun r a => r.1.rewriteOne a r.2) r

/-- A member of a stripe answered, or its link went DOWN (R334). -/
def State.stripeAnswer (s : State) (i k : Nat) (ok : Bool) (places : List (List Place)) : State :=
  match s.media.stripes.find i with
  | none => s
  | some x =>
    let y := { x with waiting := x.waiting.filter fun j => decide (j ≠ k),
                      failed := if ok then x.failed else x.failed ++ [k] }
    let s1 := s.setStripe i y
    if y.waiting ≠ [] then s1
    else if y.failed = [] then s1.stripeWritten i y
    else
      match s1.seg x.seg with
      | none => s1
      | some g =>
        let oks := (List.range g.place.length).filter fun j => decide (j ∉ y.failed)
        ((s1.stripeRecord 3 y g (maskOf oks)).repack i places).1

/-! ### Durability (R155, R271) -/

/-- A record is on every copy of the band in service, and on at least two (R271). -/
def Pool.holdsTxn (p : Pool) (t : Txn) : Bool :=
  t.issued && decide (2 ≤ t.okOn.length) && p.band.all fun b => decide (b.module ∈ t.okOn)

/-- The record of a Cistern part is durable: a FUA write whose parts all are is acknowledged (R155). -/
def State.partDurable (s : State) (cseq : Nat) : State :=
  match s.part cseq with
  | none => s
  | some p =>
    if p.durable then s
    else
      let s1 := s.putPart cseq { p with durable := true }
      match p.cmd with
      | none => s1
      | some n =>
        match s1.cmd n with
        | none => s1
        | some c => (s1.setCmd n { c with durable := c.durable + 1 }).tryAck n

/-- A record becomes durable (R271). -/
def State.makeDurable (s : State) (t : Txn) : State :=
  let s1 := (s.setTxn (txnKey t.pool t.tseq) fun t => { t with durable := true }).wr64 (R.FTL_TSEQ_DUR t.pool)
    (BitVec.ofNat 64 t.tseq)
  if t.flags = txHost then s1.partDurable t.cseq else s1

/-- The records of a pool that are durable now, in TSEQ order, up to the first that is not (R271). -/
def State.durableScan (s : State) (pool : Nat) : State :=
  match s.pool pool with
  | none => s
  | some p =>
    ((s.txnsOf pool).takeWhile fun t => t.durable || p.holdsTxn t).foldl
      (fun s t => if t.durable then s else s.makeDurable t) s

/-- A copy of a page set answered OK (R271). -/
def State.journalOk (s : State) (pool bseq first last m : Nat) : State :=
  ({ s with media := { s.media with
    strLog := s.media.strLog.map fun (r : StrRec) => if r.pool = pool ∧ r.bseq = bseq ∧ m ∉ r.okOn then { r with okOn := r.okOn ++ [m] } else r,
    txns := s.media.txns.mapVals fun _ t =>
      if t.pool = pool ∧ first ≤ t.tseq ∧ t.tseq ≤ last ∧ m ∉ t.okOn then { t with okOn := t.okOn ++ [m] } else t } }).durableScan
    pool

/-- COPIES in service fell to one: JBAND_SINGLE (R344). -/
def State.bandSingle (s : State) (pool : Nat) : State :=
  if (s.pool pool).elim 0 (fun p => p.band.length) = 1 then s.raise 141 0x0104 2 0 else s

/-- A copy of the band leaves service (R271, R344). -/
def State.bandDrop (s : State) (pool m : Nat) : State :=
  match s.pool pool with
  | none => s
  | some p =>
    if p.band.any (fun b => decide (b.module = m)) then
      ((s.setPool pool fun p => { p with band := p.band.filter fun b => decide (b.module ≠ m) }).bandSingle pool).durableScan
        pool
    else s

/-- A copy of a page set failed its program: JOURNAL_COPY, and the copy leaves service (R299). A copy whose link went DOWN
is written again once it is back: its records are issued again (R260, R271). -/
def State.journalFail (s : State) (pool bseq first last m : Nat) (linkDown : Bool) : State :=
  if linkDown then
    { s with media := { s.media with
      strLog := s.media.strLog.map fun (r : StrRec) => if r.pool = pool ∧ r.bseq = bseq then { r with bseq := 0 } else r,
      txns := s.media.txns.mapVals fun _ t =>
        if t.pool = pool ∧ first ≤ t.tseq ∧ t.tseq ≤ last ∧ t.durable = false then { t with issued := false } else t } }
  else (s.raise 137 0x0100 1 0).bandDrop pool m

/-! ### Segment states (R275) -/

/-- ERASEs go to every member block group of a segment (R275); one whose retirement waited for the segment's grains is
RETIRED instead (R316). -/
def State.eraseMembers (s : State) (i : Nat) (g : Seg) : State :=
  (List.range g.place.length).foldl (fun s k =>
    match g.place[k]? with
    | none => s
    | some p =>
      if (s.bg p.module p.die p.bgrp).st = .retired then s
      else if (s.bg p.module p.die p.bgrp).retireDue then
        s.setBg p.module p.die p.bgrp fun b => { b with st := .retired, retireDue := false }
      else s.sendMod (s.portOf g.pool p.module) (ModCmd.erase p.die p.bgrp (.erase i k))) s

/-- T_NAND_MAX of the module's latest telemetry, in quarters of a degree (R258). -/
def State.nandTemp (s : State) (port : Nat) : Int := sgn16 (s.fld (R.MLK_TELEM port 3) 16 16)

/-- The die temperature estimate: 85 degC while the module has reported an over-temperature ALERT within the hour (R311). -/
def State.dieTemp (s : State) (port : Nat) : Int :=
  if (s.mlink port).hotAt.elim false (fun t => decide (s.calSec < t + 3600)) then 340 else s.nandTemp port

/-- PROG_CAL and PROG_TEMP of the member block groups at close (R300): PROG_TEMP is the die temperature estimate (R311). -/
def State.stampClose (s : State) (g : Seg) : State :=
  g.place.foldl (fun s p =>
    let t := s.dieTemp (s.portOf g.pool p.module)
    s.setBg p.module p.die p.bgrp fun b => { b with progCal := s.calSec, progTemp := t }) s

/-- A SEG_STATE record applies: the segment acts on its new state (R275). -/
def State.segApply (s : State) (i st : Nat) : State :=
  match s.seg i with
  | none => s
  | some g =>
    match SegState.ofCode st with
    | .open =>
      (s.setSeg i fun g => { g with state := .open, want := if g.want = some .open then none else g.want }).issueSegment i
    | .closed =>
      if g.state = .open then
        (s.setSeg i fun g => { g with state := .closed, want := none, closeStride := s.now }).stampClose g
      else s
    | .erasing => (s.setSeg i fun g => { g with state := .erasing, want := none, erased := [] }).eraseMembers i g
    | .free =>
      ({ s with media := { s.media with segs := s.media.segs.drop i } }).count (R.FTL_RECLAIMED g.pool)
    | .retired => s.setSeg i fun g => { g with state := .retired, want := none }
    | .selected => s

/-! ### Snapshots and deletions (R287 to R290) -/

/-- The SNAP_CREATE record applies: the target takes the source's root and one SHARE of it; CMD_DONE and SNAP_TAKEN (R288). -/
def State.snapApply (s : State) (target source : Nat) : State :=
  match s.vol source, s.media.snaps.find? fun j => decide (j.target = target) with
  | some v, some j =>
    let x : Vol := { pool := v.pool, owner := v.owner, format := v.format, grains := v.grains, root := v.root,
                     snapshot := !j.clone, source := some source, children := 0, replTarget := false, deleting := none,
                     held := false, anaChange := false }
    let s1 := if v.root = 0 then s else s.shareBy v.pool v.root true
    let s2 := s1.setVol source fun v => { v with children := v.children + 1 }
    let s3 := { s2 with media := { s2.media with
      vols := s2.media.vols.put target x, snaps := s2.media.snaps.filter fun j => decide (j.target ≠ target) } }
    ((s3.actEnd actSnapCreate v.pool fun a => decide (target ∈ a.vols)).event 137 0).event 137 5
  | _, _ => s

/-- The number of a deleted volume is free, its source loses a child; CMD_DONE (R290, R298). -/
def State.volGone (s : State) (vol : Nat) (v : Vol) : State :=
  let s1 := match v.source with
    | none => s
    | some x => s.setVol x fun y => { y with children := y.children - 1 }
  let s2 := { s1 with media := { s1.media with vols := s1.media.vols.drop vol } }
  (s2.actEnd actSnapDelete v.pool fun a => decide (vol ∈ a.vols)).event 137 0

/-- A SNAP_STEP record applies: the pages it visits are freed (R267, R290). -/
def State.snapStepApply (s : State) (vol t : Nat) (visit : List Nat) : State :=
  match s.vol vol with
  | none => s
  | some v =>
    let r := visit.foldl (fun (r : State × List Nat) id =>
      let (s1, more) := r.1.freePage v.pool id t
      (s1, r.2 ++ more)) (s, [])
    let left := (match v.deleting with | none => [] | some (l, _) => l) ++ r.2
    if left = [] then r.1.volGone vol v else r.1.setVol vol fun v => { v with deleting := some (left, false) }

/-! ### Application (R271) -/

/-- One op of a transaction applies (R270). -/
def State.applyOp (s : State) (pool t : Nat) : MapOp → State
  | .setGrain vol g new _ => s.setGrain vol g new t
  | .setSlot page slot new old => s.setSlotOp pool page slot new old t
  | .segState seg st => s.segApply seg st
  | .snapCreate target source _ => s.snapApply target source
  | .snapStep vol visit => s.snapStepApply vol t visit
  | .refChange a d _ => s.refBy a d
  | .diverge _ _ => s

/-- A grain written as poison, its Cistern entry lost in both copies, enters the loss list with CAUSE 3 (R335, R353). -/
def State.poisonLoss (s : State) (pool : Nat) : MapOp → State
  | .setGrain _ _ new _ =>
    if isGrain new ∧ ((s.media.flash.find (gaKey new)).elim false fun x => x.poison && decide (x.digest = 0)) then
      (s.addLoss pool new 3).raise 141 0x0103 2 0
    else s
  | _ => s

/-- The partner's transaction whose count changes a record applied last, for REF_ACK (R367). -/
def Txn.acks (t : Txn) : Option Nat :=
  (t.ops.reverse).findSome? fun o => match o with | .refChange _ _ n => some n | _ => none

/-- A durable transaction applies: all its ops together; the Cistern entry of a HOST record is released (R161, R271). -/
def State.applyTxn (s : State) (t : Txn) : State :=
  let s0 := { s with media := { s.media with txns := s.media.txns.drop (txnKey t.pool t.tseq) } }
  let s1 := t.ops.foldl (fun s o => (s.applyOp t.pool t.tseq o).poisonLoss t.pool o) s0
  match t.acks with
  | some n => s1.tlSend (.refAck n)
  | none => if t.flags = txHost then s1.release t.cseq else s1

/-- Step of the commit point: the transactions that became durable before it apply, in TSEQ order (R271). -/
def State.mapTxnApply (s : State) : State :=
  ((s.media.txns.filter fun t => t.2.durable).map Prod.snd).foldl State.applyTxn s

end Sys2Proof.Machine
end

