-- ==== Sys2Proof/Machine/Destage.lean ====
section
/-! DEFINITION. Destage (R147, R155, R160, R200 to R208, R335): entries leave the Cistern into stripes and map
transactions, with dedup candidates confirmed. -/

namespace Sys2Proof.Machine

/-! ### Current contents -/

/-- The grain stored at an address: on flash, or in a stripe being filled or written. -/
def State.storedAt (s : State) (a : Nat) : Option Stored :=
  match s.media.flash.find (gaKey a) with
  | some x => some x
  | none => (s.media.stripes.flatMap fun x => x.2.grains).findSome? fun p =>
      if gaKey p.addr = gaKey a then some p.stored else none

/-- A grain's bytes and tags as the map has them once every record built has applied: zeros where no physical grain is
named (R226, R227); none where the grain is lost or does not decode. -/
def State.contents (s : State) (vol g : Nat) : Option (List Byte × List Nat) :=
  let a := s.finalEntry vol g
  if a = gaNone then some (List.replicate 4096 0, List.replicate 8 0xFFFF0000)
  else if a = gaZero then some (List.replicate 4096 0, List.replicate 8 0)
  else if gaKey a ∈ s.media.lost then none
  else (s.storedAt a).bind fun x => x.bytes.map fun d => (d, x.piTags)

/-- Sectors of a mask taken from `new`, the others from `old`, of `b` bytes each. -/
def mergeBytes (b k mask : Nat) (new old : List Byte) : List Byte :=
  (List.range k).flatMap fun i => ((if mask / 2 ^ i % 2 = 1 then new else old).drop (i * b)).take b

/-- Tags of a mask taken from `new`, the others from `old`. -/
def mergeTags (k mask : Nat) (new old : List Nat) : List Nat :=
  (List.range k).map fun i => ((if mask / 2 ^ i % 2 = 1 then new else old)[i]?).getD 0

/-- A partial grain merged with its current contents: its bytes, and the grain as it goes to reduction (R147); deallocated sectors read as
never written (R227). -/
def Grain.merged (x : Grain) (format policy : Nat) (old : List Byte × List Nat) : List Byte × Grain :=
  let k := sectorsPerGrain format
  let b := sectorBytes format
  let tags := if x.dealloc then List.replicate 8 0xFFFF0000 else if x.zero then List.replicate 8 0 else x.piTags
  let data := if x.hasData then spreadSectors k b x.mask x.body else List.replicate 4096 0
  (mergeBytes b k x.mask data old.1,
    { x with piTags := if hasPi format then mergeTags k x.mask tags old.2 else [], partGrain := false, zero := false, dealloc := false,
             hasData := true, mask := 2 ^ k - 1, policy := policy })

/-! ### Confirmation of dedup candidates (R204, R205) -/

/-- How a candidate was found (R205). -/
inductive CandKind where
  | hot
  | tier (segSeq : Nat)
  deriving DecidableEq, Repr

/-- Condition 3 of R205: the target's segment is not selected for reclaim, and is the one the candidate was found in. -/
def State.candSegment (s : State) (a : Nat) (k : CandKind) (admitted : DWord) : Bool :=
  match s.segAt a with
  | none => false
  | some (_, g) =>
    decide (g.state = .open ∨ g.state = .closed ∨ g.state = .free)
      && match k with
         | .tier q => decide (g.seq = q)
         | .hot => decide (g.openStride.toNat < admitted.toNat)

/-- Condition 2 of R205: the target's count is at least 1 and below DD_REF_CAP, counting the ops built so far for the same part. -/
def State.candCount (s : State) (a : Nat) (ops : List MapOp) : Bool :=
  let n := s.finalRefs a + (ops.map fun o => o.refDelta (gaKey a)).sum
  decide (1 ≤ n ∧ n < (s.rdN R.DD_REF_CAP : Nat))

/-- Application tags of eight sectors. -/
def appTags (tags : List Nat) : List Nat := (List.range 8).map fun i => (tags[i]?).getD 0 / 65536 % 65536

/-- A stored grain's 4,096 bytes and application tags are those given (R205, R208). -/
def Stored.same (x : Stored) (data : Option (List Byte)) (tags : List Nat) : Bool :=
  data.isSome && decide (x.bytes = data ∧ appTags x.piTags = appTags tags)

/-- The hot entry that names an address is invalidated (R205). -/
def State.hotDrop (s : State) (a : Nat) : State :=
  match s.cam.entries.first fun k e =>
      decide (3 ≤ k / 65536 ∧ k / 65536 ≤ 15 ∧ e.st ≠ 0) && decide (gaKey e.result = gaKey a) with
  | none => s
  | some (k, e) => s.setCam k { e with st := 0 }

/-- A candidate is accepted when every condition of R205 holds, in order; else it is refused and counted, and a hot entry
that failed condition 2 or 3 is invalidated. `k` and `b` are the sectors of the part's grains and their bytes. The step of the judgement is
the one that builds the part's transaction (DEDUCED, assumption log 93). -/
def State.confirm (s : State) (a : Nat) (k : CandKind) (p : Part) (g : Grain) (ops : List MapOp) : State × Bool :=
  let c1 := s.holds (paddockOf (gaDie a))
  let c2 := s.candCount a ops
  let c3 := s.candSegment a k p.admitted
  let same := (s.storedAt a).elim false fun x => x.same (g.bytes (sectorsPerGrain p.format) (sectorBytes p.format)) g.piTags
  if c1 && c2 && c3 && (!polVerify g.policy || same) then (s, true)
  else
    let s1 := s.count R.DD_REFUSED
    let s2 := if c1 && (!c2 || !c3) && decide (k = .hot) then s1.hotDrop a else s1
    if c1 && c2 && c3 then (((s2.count R.DD_VERIFY_MISMATCH).event 91 0).raise 91 0x0101 1 0, false) else (s2, false)

/-- The next entry of the dedup banks that serve, in rotation (R204). -/
def State.hotNext (s : State) (k : Nat) : Nat :=
  let up := (List.range 13).map fun i => 3 + (k / 65536 - 3 + 1 + i) % 13
  if (k + 2) / 65536 = k / 65536 then k + 2 else camKey ((up.find? s.camServes).getD (k / 65536)) 0

/-- The clock hand's victim among the dedup banks: EMPTY, or its referenced bit 0; referenced entries passed over lose the
bit (R204). `n` bounds the turns. -/
def State.clockHand (s : State) : Nat → Nat → State × Nat
  | 0, k => (s, k)
  | n + 1, k =>
    if (s.camAt k).st = 0 ∨ k ∉ s.cam.hotRef then (s, k)
    else ({ s with cam := { s.cam with hotRef := s.cam.hotRef.filter fun x => decide (x ≠ k) } }).clockHand n (s.hotNext k)

/-- A confirmed match with HITS at or above DD_HOT_PROMOTE enters the hot tier, unless it is there, or no bank serves (R204). -/
def State.promote (s : State) (pool a : Nat) (e : DdEntry) : State :=
  if s.bit R.DD_CTRL 0 = false ∨ e.hits < s.fld R.DD_HOT_PROMOTE 0 8 then s
  else
    let key := hotKey e.digest pool e.cls
    let (s0, hits) := s.camFound 2 (s.camMask 2 0) key true []
    let s1 := s0.countSearch 2 1 hits.length
    if hits ≠ [] ∨ (camBanks 2).all (fun b => !s1.camServes b) then s1
    else
      let hand := if s1.cam.hotHand < 3 * 65536 then 3 * 65536 else s1.cam.hotHand
      let start := if s1.camServes (hand / 65536) then hand else s1.hotNext (camKey (hand / 65536) 65534)
      let (s2, k) := s1.clockHand (s1.cam.hotRef.length + 1) start
      let s3 := s2.setCam k { st := 1, prio := 0, key := key, result := a }
      { s3 with cam := { s3.cam with hotHand := s3.hotNext k } }

/-- The VALID entry of a bucket for a grain, with its slot. -/
def State.tierEntry (s : State) (pool : Nat) (g : Grain) : Option DdEntry :=
  match (s.bucket (s.bucketOf g.digest)).lookup g.digest pool (polClass g.policy) with
  | some (_, e) => if e.pending then none else some e
  | none => none

/-- A grain's candidates in order, the hot one first; a TWIN is resolved by a second probe (R205). -/
def State.candidates (s : State) (pool : Nat) (g : Grain) : List (Nat × CandKind) :=
  (if g.hit then [(g.dedupAddr, CandKind.hot)] else [])
    ++ match g.probe with
       | .hit a q => [(a, .tier q)]
       | .twin _ _ => match s.tierEntry pool g with | some e => [(e.target, .tier e.segSeq)] | none => []
       | _ => []

/-- The first candidate that is confirmed; a confirmed tier match may be promoted (R204, R205). -/
def State.confirmAny (s : State) (pool : Nat) (p : Part) (g : Grain) (ops : List MapOp) : List (Nat × CandKind) → State × Option Nat
  | [] => (s, none)
  | (a, k) :: rest =>
    let (s1, ok) := s.confirm a k p g ops
    if ok then
      let s2 := match k, s1.tierEntry pool g with
        | .tier _, some e => s1.promote pool a e
        | _, _ => s1
      (s2, some a)
    else s1.confirmAny pool p g ops rest

/-- A unique grain's PENDING entry becomes VALID with its address, or a new VALID entry is inserted; its record goes to the
merge log (R203, R208). -/
def State.tierWrite (s : State) (pool cseq index : Nat) (g : Grain) (a segSeq : Nat) : State :=
  let i := s.bucketOf g.digest
  let e : DdEntry := { digest := g.digest, target := a, segSeq := segSeq, pool := pool % 16, cls := polClass g.policy,
                       pending := false, hits := 0 }
  let s1 := match (s.bucket i).slots.first fun _ x => decide (x.pending ∧ x.target = pendTarget cseq index ∧ x.digest = g.digest) with
    | some (k, _) => s.setBucket i { s.bucket i with slots := (s.bucket i).slots.put k e }
    | none => s.bucketInsert i e
  let r : DdRec := { digest := g.digest, cls := polClass g.policy, target := a, segSeq := segSeq }
  { s1 with cam := { s1.cam with logs := s1.cam.logs.put pool (s1.cam.logs.getD pool [] ++ [r]) } }

/-! ### One grain (R147, R160, R335) -/

/-- The header and data with which a grain is stored (R217); a poison grain is raw and holds zeros (R337). -/
def Grain.store (g : Grain) (s : State) (vol n cseq : Nat) (poison : Bool) : Stored :=
  { raw := g.raw || poison, copied := false, len := if poison then 64 else g.lenGranules,
    cls := polClass g.policy, head := s.headId, vol := vol, grain := n, cseq := cseq, segSeq := 0, check := g.check,
    digest := if poison then 0 else g.digest, piTags := if poison then [] else g.piTags,
    body := if poison then [] else g.body, poison := poison, obj := none }

/-- What destage carries from grain to grain: the state, the places left for new segments, the ops built. -/
abbrev Destaging := State × List (List Place) × List MapOp

/-- A volume moves in the transfer under way: in a switch-back those of the taker's home, in a handover this head's own
(R387). -/
def State.moving (s : State) (v : Nat) : Bool :=
  match s.tandem.transfer with
  | none => false
  | some t => t.giver && (s.vol v).elim false fun x => if t.handover then decide (x.owner = s.headId) else decide (x.owner ≠ s.headId)

/-- The pool into which a volume's grains are packed: while its paddock is given away, that of the giver's other paddock, where
it holds one (R387). -/
def State.dataPool (s : State) (pool : Nat) : Nat :=
  match s.tandem.transfer with
  | none => pool
  | some t =>
    let other := if pool < 16 then pool + 16 else pool - 16
    if t.giver ∧ s.padOf pool = t.paddock ∧ (s.pool other).isSome ∧ s.holds (s.padOf other) then other else pool

/-- A grain is packed as unique, and its op appended. -/
def destageUnique (pool cseq index : Nat) (p : Part) (fua poison : Bool) (g : Grain) (d : Destaging) : Option Destaging :=
  let (s, places, ops) := d
  let n := p.first + index
  match s.pack (s.dataPool pool) segHost (g.store s p.vol n cseq poison) 0 fua places with
  | none => none
  | some (s1, rest, a) =>
    let sq := (s1.segAt a).elim 0 fun x => x.2.seq
    let s2 := if polDedup g.policy ∧ poison = false then s1.tierWrite pool cseq index g a sq else s1
    some (s2, rest, ops ++ [.setGrain p.vol n a (s2.finalEntry p.vol n)])

/-- A reduced grain with data: deduplicated where a candidate is confirmed, else unique (R205). -/
def destageData (pool cseq index : Nat) (p : Part) (fua : Bool) (g : Grain) (d : Destaging) : Option Destaging :=
  let (s, places, ops) := d
  let n := p.first + index
  let (s1, hit) := s.confirmAny pool p g ops (s.candidates pool g)
  match hit with
  | some a => some (s1, places, ops ++ [.setGrain p.vol n (gaShared a) (s1.finalEntry p.vol n)])
  | none => destageUnique pool cseq index p fua false g (s1, places, ops)

/-- A merged grain is digested, deduplicated and compressed at destage (R147), after the host grains of the stride; `after` merged grains
follow it (R192, R213). Its probe is made here. -/
def State.reduceMerged (s : State) (pool cseq index format after : Nat) (data : List Byte) (g : Grain) : State × Grain :=
  let (s1, g1) := s.reduce pool format after [] data g
  let s2 := { s1 with cam := { s1.cam with hostLeft := s.cam.hostLeft } }
  if g1.zero ∨ g1.hit ∨ polDedup g1.policy = false ∨ s2.bit R.DD_CTRL 1 = false then (s2, g1)
  else
    let (s3, a) := s2.probe pool cseq index g1
    (s3, { g1 with probe := a })

/-- A grain of a part that destage merges: partial, and not skipped (R147, R160). -/
def Part.merges (p : Part) : List Grain :=
  p.grains.filter fun g => !g.overtaken && decide (g.mask ≠ 2 ^ sectorsPerGrain p.format - 1)

/-- Destage of grain `index` of a part (R147, R160, R192, R195, R335): `lost` says that the entry failed its CRCs in both
Cisterns; `after` merged grains follow it in the stride. -/
def destageGrain (pool cseq : Nat) (p : Part) (fua lost : Bool) (after : Nat) (d : Destaging) (ig : Nat × Grain) :
    Option Destaging :=
  let (index, g) := ig
  let (s, places, ops) := d
  let n := p.first + index
  let full := 2 ^ sectorsPerGrain p.format - 1
  let set := fun (s : State) a => some (s, places, ops ++ [MapOp.setGrain p.vol n a (s.finalEntry p.vol n)])
  if g.overtaken then some (s.tierForget cseq (index, g), places, ops)
  else if lost then destageUnique pool cseq index p fua true g d
  else if g.mask = full ∧ g.dealloc then set s gaNone
  else if g.mask = full ∧ g.zero then set s gaZero
  else if g.mask ≠ full then
    match s.contents p.vol n with
    | none => destageUnique pool cseq index p fua true g d
    | some old =>
      let (data, m) := g.merged p.format (s.policy p.vol) old
      let (s1, g1) := s.reduceMerged pool cseq index p.format after data m
      if g1.zero then set s1 gaZero else destageData pool cseq index p fua g1 (s1, places, ops)
  else destageData pool cseq index p fua g d

/-- Destage of all grains of a part, none where a grain finds no segment; `after` merged grains of later entries follow in the stride. -/
def destageAll (pool cseq : Nat) (p : Part) (fua lost : Bool) (after : Nat) : List (Nat × Grain) → Destaging → Option Destaging
  | [], d => some d
  | x :: xs, d =>
    let rest := (({ p with grains := xs.map Prod.snd } : Part).merges).length
    match destageGrain pool cseq p fua lost (after + rest) d x with
    | none => none
    | some d1 => destageAll pool cseq p fua lost after xs d1

/-! ### Which entry is next (R155, R160, R202, R288) -/

/-- A COMMITTED entry that destage has not taken. -/
def Part.waiting (p : Part) : Bool := decide (p.lock = .committed) && decide (p.tseq = none) && !p.released

/-- An entry is destaged with FUA priority: a FUA write, one acknowledged as such, or one below a pending CUT (R154 to R156,
R288). -/
def State.fuaDestage (s : State) (cseq : Nat) (p : Part) : Bool :=
  p.fua || s.moving p.vol || !s.bit R.CIST_STATUS 2 || (s.bit R.CIST_STATUS 1 && s.bit R.CIST_CTRL 0)
    || s.media.snaps.any fun j => !j.recorded && j.cut.elim false fun c => decide (cseq < c) &&
      decide (s.poolOf p.vol = s.poolOf j.source)

/-- An earlier entry must go first: CSEQ order within a pool, FUA entries ahead of others that they do not overlap (R155,
R160). -/
def State.earlierEntry (s : State) (cseq : Nat) (p : Part) : Bool :=
  s.cist.parts.any fun o =>
    decide (o.1 < cseq) && o.2.waiting && decide (s.poolOf o.2.vol = s.poolOf p.vol)
      && (o.2.overlaps p.vol p.first p.count || !s.fuaDestage cseq p || s.fuaDestage o.1 o.2)

/-- A probe of the entry is still awaited within its deadline (R202). -/
def State.awaitsProbe (s : State) (p : Part) : Bool :=
  p.grains.any fun g => !g.overtaken && match g.probe with
    | .waiting t => decide (s.since t ≤ 8)
    | _ => false

/-- A pending snapshot of the entry's volume takes its record first (R288). -/
def State.behindCut (s : State) (cseq : Nat) (p : Part) : Bool :=
  s.media.snaps.any fun j => decide (j.source = p.vol) && !j.recorded && j.cut.elim false fun c => decide (c ≤ cseq)

/-- The digest and compression units have capacity left in this stride for `n` merged grains, and all host grains of the stride have gone
before them (R191, R192, R213). -/
def State.mergedRoom (s : State) (n : Nat) : Bool :=
  decide (n = 0) || (decide (s.cam.hostLeft = 0 ∧ s.cam.digested + n ≤ 4 * s.unitsIn 90 ∧ 700 * n ≤ s.cam.clkLeft)
    && !s.halted 90 && !s.halted 92 && !s.halted 91)

/-- Units of merged grains disagree on their check values: each of `bad` is a first digest unit and whether the second pair disagreed too
(R216). The state after the faults, and whether all agreed in the end. -/
def State.mergedCheck (s : State) (n : Nat) (bad : List (Nat × Bool)) : State × Bool :=
  if n = 0 then (s, true)
  else
    let u := s.fld (R.PG_INJECT 90) 8 8
    let r := (s.operate 90 u).inject 90 0x05 u
    let s1 := if r.2 then r.1.checkDisagree u true else r.1
    (bad.foldl (fun s b => s.checkDisagree b.1 false) s1, bad.all fun b => !b.2)

/-- The partner holds this head's entries in its mirror half: it is in service (R225, R335). -/
def State.hasMate (s : State) (q : Nat) : Bool := s.tlActive && !s.bit R.CIST_STATUS 1 && decide (q < 2 ^ 63)

/-- The entry as destage reads it from DRAM (R335): `own` and `mir` are the bits flipped in this head's copy and in the partner's. A copy that
fails its CRCs is ENTRY_CRC, and the partner's is fetched. None: both fail, or the partner is not there to ask. -/
def State.destageRead (s : State) (cseq : Nat) (p : Part) (own mir : List (Nat × Nat)) : State × Option Part :=
  let head := if cseq < 2 ^ 63 then s.headId else 1 - s.headId
  match p.readBack head (cseq % 2 ^ 63) own with
  | some x => (s, some { x with grains := x.grains.zipWith (fun a b => { a with policy := b.policy, probe := b.probe }) p.grains })
  | none =>
    let mate := s.hasMate cseq
    ((if mate then s.tlSend (.entryFetch cseq) else s).raise 89 0x0102 2 0,
      if mate then (p.readBack head (cseq % 2 ^ 63) mir).map fun x =>
        { x with grains := x.grains.zipWith (fun a b => { a with policy := b.policy, probe := b.probe }) p.grains } else none)

/-- DESTAGE_ENTRY (R160): the next COMMITTED entry of its pool is packed into stripes, in new segments at `places` where
they are needed, and its map transaction is built. `own` and `mir` are the bits that DRAM has flipped of the entry here and in the
partner's mirror half (R335); `bad` tells of merged grains whose units disagree, one of which a second pair too keeps waiting for the next
stride (R216; DESIGN CHOICE, assumption log 95); `after` merged grains of later entries follow in the stride (R213). -/
def execDestageEntry (cseq : Nat) (own mir : List (Nat × Nat)) (bad : List (Nat × Bool)) (after : Nat) (places : List (List Place))
    (s : State) : Out :=
  match s.part cseq with
  | none => .next s
  | some p =>
    let pool := s.poolOf p.vol
    let n := p.merges.length
    if p.waiting = false ∨ s.earlierEntry cseq p ∨ s.awaitsProbe p ∨ s.behindCut cseq p ∨ s.tailFull ∨ s.spilling
        ∨ s.mutedModules ∨ s.halted 89 ∨ s.halted 141 ∨ s.mergedRoom (n + if n = 0 then 0 else after) = false
        ∨ (s.role ≠ roleSole ∧ s.role ≠ roleTandem) then .next s
    else
      let (s0, copy) := s.destageRead cseq p own mir
      let (s1, agreed) := s0.mergedCheck n bad
      if agreed = false then .next s1
      else
        let (s2, rest) := s1.repackAll pool places
        let q := copy.getD p
        match destageAll pool cseq q (s.fuaDestage cseq p) copy.isNone after (q.grains.mapIdx fun i g => (i, g)) (s2, rest, []) with
        | none => .next s
        | some (s3, _, ops) =>
          if ops = [] then .next (s3.release cseq)
          else
            let (s4, t) := s3.addTxn pool txHost cseq p.vol ops
            match s4.part cseq with
            | none => .next s4
            | some p1 => .next (s4.putPart cseq { p1 with tseq := some t })

/-- FUA_PAD_TIMEOUT (R155, R277): an open stripe that holds a FUA grain and is not full within CIST_FUA_MAX_WAIT strides is
closed with pad granules. -/
def execFuaPadTimeout (stripe : Nat) (s : State) : Out :=
  match s.media.stripes.find stripe with
  | none => .next s
  | some x =>
    match x.fuaAt with
    | none => .next s
    | some t =>
      if x.closed ∨ s.since t < s.fld R.CIST_FUA_MAX_WAIT 0 16 then .next s
      else .next ((s.closeStripe stripe).event 89 4)

end Sys2Proof.Machine
end

