-- ==== Sys2Proof/Machine/Ftl.lean ====
section
/-! DEFINITION. The flash translation layer's own work: checkpoints, reclaim, erase, pool space, and the FTL commands
(R273, R283 to R298). -/

namespace Sys2Proof.Machine

/-! ### Checkpoints (R273, R344) -/

/-- Checkpoint TSEQ C: every transaction up to it has been applied. -/
def State.ckptOf (s : State) (pool : Nat) (p : Pool) : Nat :=
  match (s.txnsOf pool).head? with
  | none => p.nextTseq - 1
  | some t => t.tseq - 1

/-- The inactive group of a band copy is erased once a checkpoint at TSEQ `c` has freed all its records (R273, R341). -/
def State.bandErase (s : State) (pool c : Nat) (b : BandCopy) : State :=
  let port := s.portOf pool b.module
  if b.otherUsed ∧ b.otherLast ≤ c ∧ s.linkUp port then
    s.sendMod port { ModCmd.erase b.die (if b.onB then b.groupA else b.groupB) (.eraseOther pool) with slc := true }
  else s

/-- The checkpoint after band placement restores the band (R344). -/
def State.bandRestored (s : State) (pool : Nat) : State :=
  match (s.pool pool).bind Pool.bandNew with
  | none => s
  | some b =>
    let s1 := s.setPool pool fun p => { p with band := p.band ++ [b], bandNew := none }
    if (s1.pool pool).elim false fun p => decide (3 ≤ p.band.length) then s1.event 141 6 else s1

/-- The calibration table of a die as a checkpoint writes it (R300). -/
def Die.save (d : Die) : Die := { d with saved := d.bins.map fun b => (b.1, b.2.offs) }

/-- Map pages of a pool, by page ID. -/
def State.pagesOf (s : State) (pool : Nat) : Amap MapPage :=
  (s.media.pages.filter fun x => decide (x.1 / 2 ^ 40 = pool)).map fun x => (x.1 % 2 ^ 40, x.2)

/-- The grains that start in a chunk, with their counts, in start order (R280). -/
def State.chunkCounts (s : State) (chunk : Nat) : List (Nat × Nat) :=
  let l := (s.media.flash.filter fun x => decide (gaChunk x.1 = chunk)).map fun x => (gaChunkGranule x.1, s.refs x.1)
  (List.range 1024).filterMap fun n => l.find? fun x => decide (x.1 = n)

/-- The dirty map pages and chunk summaries of a pool, which a checkpoint at TSEQ `c` writes first (R273, R278). -/
def State.dirtyObjects (s : State) (pool c : Nat) : List Stored :=
  ((s.pagesOf pool).filter fun x => x.2.dirty).map (fun x => metaStored s.headId 1 x.1 x.2.tseq x.2.image)
    ++ (s.media.sums.filter fun a => (s.segAt a).elim false fun k => decide (k.2.pool = pool)).map fun a =>
        metaStored s.headId 3 (a / 2 ^ 23) c (summaryImage (s.chunkCounts a))

/-- Blocks of 4,096 bytes of the page table, of the segment table with its block-group records, die calibration tables and loss list (R300, R353), and of the
volume table (block size and OBJECT: DESIGN CHOICE, assumption
log 98; the page table names the addresses that `at_` gives for pages just flushed). -/
def State.tableObjects (s : State) (pool c : Nat) (at_ : Amap Nat) : List Stored :=
  let pages := (s.pagesOf pool).map fun x => (x.1, { x.2 with addr := at_.getD x.1 x.2.addr })
  let blocks := ((pages.filter fun x => x.2.dirty).map fun x => x.1 / 256).eraseDups
  let segs := s.media.segs.filter fun g => decide (g.2.pool = pool)
  let segAtIdx := fun i => (segs.find? fun g => decide (g.1 = i)).map Prod.snd
  let mine := fun (m d : Nat) => (s.pool pool).elim false fun p => decide (m ∈ p.modules ++ p.reshape.elim [] (fun r => r.2.2.1) ∧ paddockOf d = s.padOf pool)
  let losses := (s.pool pool).elim [] Pool.losses
  let bgs : Amap BlockGroup := s.media.bgs.filter fun x => mine (x.1 / 4096 / 1024) (x.1 / 4096 % 1024)
  let dies : Amap Die := s.media.dies.filter fun x => mine (x.1 / 1024) (x.1 % 1024)
  [metaStored s.headId 7 0 c (leBytes 4096 (Config.volBlock pool c).toNat)]
    ++ ((bgs.map fun x => x.1 / 128).eraseDups).map (fun b => metaStored s.headId 8 (2 ^ 62 + b) c ((List.range 128).flatMap fun i =>
        (bgs.getD (128 * b + i) BlockGroup.fresh).image))
    ++ ((dies.map fun x => x.1 / 64).eraseDups).map (fun b => metaStored s.headId 8 (2 ^ 63 + b) c ((List.range 64).flatMap fun i =>
        (dies.getD (64 * b + i) Die.fresh).calTable))
    ++ (List.range (ceilDiv losses.length 85)).map (fun b => metaStored s.headId 8 (3 * 2 ^ 62 + b) c
        (((losses.drop (85 * b)).take 85).flatMap Loss.bytes))
    ++ ((segs.map fun g => g.1 / 32).eraseDups).map (fun b =>
        metaStored s.headId 8 b c ((List.range 32).flatMap fun i => segEntry (segAtIdx (32 * b + i))))
    ++ blocks.map fun b => metaStored s.headId 2 b c ((List.range 256).flatMap fun i =>
        tableEntry ((pages.find? fun x => decide (x.1 = 256 * b + i)).map Prod.snd))

/-- Objects are packed into META stripes: their addresses; none where a segment cannot be opened. -/
def State.metaPack (s : State) (pool : Nat) (places : List (List Place)) : List Stored → Option (State × List (List Place) × List (Stored × Nat))
  | [] => some (s, places, [])
  | x :: xs =>
    match s.pack pool segMeta x 0 false places with
    | none => none
    | some (s1, rest, a) =>
      match s1.metaPack pool rest xs with
      | none => none
      | some (s2, left, l) => some (s2, left, (x, a) :: l)

/-- The address of the first object of a TYPE among those packed. -/
def firstOf (typ : Nat) (l : List (Stored × Nat)) (old : Nat) : Nat :=
  ((l.find? fun x => decide (x.1.obj.elim 0 Prod.fst = typ)).map Prod.snd).getD old

/-- The address of the first block of segment entries among those packed (R300). -/
def firstEntries (l : List (Stored × Nat)) (old : Nat) : Nat :=
  ((l.find? fun x => x.1.obj.elim false fun o => decide (o.1 = 8 ∧ o.2.1 < 2 ^ 62)).map Prod.snd).getD old

/-- A checkpoint of a pool is asked for: it starts once its objects find a place (R273, R344, R387). -/
def State.checkpointAsk (s : State) (pool : Nat) : State :=
  s.setPool pool fun p => if p.ckpt = .idle then { p with ckpt := .asked } else p

/-- The last META stripe of a checkpoint is closed; its pages and summaries are clean, and the pool names its tables (R273, R278). -/
def State.ckptPacked (s : State) (pool c : Nat) (l : List (Stored × Nat)) : State :=
  let s1 := match s.openStripe pool segMeta with
    | none => s
    | some (i, _) => s.closeStripe i
  let s2 := { s1 with media := { s1.media with
    pages := s1.media.pages.mapVals fun k x => if k / 2 ^ 40 = pool then { x with dirty := false } else x,
    sums := s1.media.sums.filter fun a => (s1.segAt a).elim true fun k => decide (k.2.pool ≠ pool) } }
  s2.setPool pool fun p => { p with
    ckpt := .objects c p.bandNew.isSome, volTable := firstOf 7 l p.volTable, segTable := firstEntries l p.segTable,
    pageTable := firstOf 2 l p.pageTable }

/-- The address of each map page among the objects packed, by its identity. -/
def packedPages (l : List (Stored × Nat)) : Amap Nat :=
  l.filterMap fun x => match x.1.obj with | some (1, id, _) => some (id, x.2) | _ => none

/-- The objects of a checkpoint go into META stripes, which are closed (R273, R278): map pages and summaries first, then the tables that
name them. -/
def State.checkpointStart (s : State) (pool : Nat) (p : Pool) (places : List (List Place)) : Option State :=
  let c := s.ckptOf pool p
  match s.metaPack pool places (s.dirtyObjects pool c) with
  | none => none
  | some (s1, rest, l) =>
    match s1.metaPack pool rest (s.tableObjects pool c (packedPages l)) with
    | none => none
    | some (s2, _, t) => some (s2.ckptPacked pool c t)

/-- TABLES of a pool root (R279): the journal band directory is named by its first copy; an index, a tier, a log and a band of which the model
places no block are 0 (DESIGN CHOICE, assumption log 98). -/
def Pool.tables (p : Pool) : List Nat :=
  [p.volTable, p.segTable, p.pageTable, 0, 0, 0, (p.band.head?).elim 0 fun b => gaMake b.module b.die b.groupA 0 0 64 true, 0]

/-- A page set is written to the anchor of a module: in single-level mode, in page order, in block groups 0 and 4 in turn, each erased before
its first page (R279). -/
def State.anchorWrite (s : State) (pool m : Nat) (data : List Byte) : State :=
  let port := s.portOf pool m
  let q := s.padOf pool
  match s.anchorDie port q with
  | none => s
  | some d =>
    let pages := max (s.pagesAt port) 1
    let n := s.media.anchors.getD (2 * m + q) 0
    let g := if n / pages % 2 = 0 then 0 else 4
    let s1 := { s with media := { s.media with anchors := s.media.anchors.put (2 * m + q) (n + 1) } }
    let s2 := if n % pages = 0 then s1.sendMod port { ModCmd.erase d g (.eraseOther pool) with slc := true } else s1
    s2.sendMod port (ModCmd.program d g (n % pages) true (.root pool m) (codewords [] data))

/-- The members that take the pool root: the first two in service (R279; which two is a DESIGN CHOICE, assumption log 98). -/
def State.rootOn (s : State) (pool : Nat) (p : Pool) : List Nat := (p.modules.filter (s.inService pool p)).take 2

/-- Step of the commit point: once a checkpoint's objects are written, its root goes to the anchors of two members (R273, R279). -/
def State.checkpointRoots (s : State) : State :=
  s.media.pools.foldl (fun s x =>
    match s.pool x.1 with
    | none => s
    | some p =>
      match p.ckpt with
      | .objects c b =>
        if s.mutedModules ∨ (s.media.stripes.any fun y => decide (y.2.pool = x.1) && (s.seg y.2.seg).elim false fun g => decide (g.kind = segMeta))
            ∨ s.rootOn x.1 p = [] then s
        else
          let s1 := s.setPool x.1 fun p => { p with ckpt := .roots c b (s.rootOn x.1 p) false }
          (s.rootOn x.1 p).foldl (fun s m => s.anchorWrite x.1 m (rootImage x.1 (s.padOf x.1) c s.now p.tables)) s1
      | _ => s) s

/-- The root of a checkpoint is written: the journal space up to C is freed, the calibration tables are those of the checkpoint, and a band
placed before it is restored (R273, R300, R344). -/
def State.checkpointEnd (s : State) (pool : Nat) (p : Pool) (c : Nat) (restores : Bool) : State :=
  let s1 := p.band.foldl (fun s b => s.bandErase pool c b) s
  let s2 := s1.setPool pool fun p => { p with
    ckpt := .idle, ckptTseq := c, band := p.band.map fun b => { b with
      otherUsed := b.otherUsed && (decide (c < b.otherLast) || !s.linkUp (s.portOf pool b.module)) } }
  let s3 := { s2 with media := { s2.media with
    strLog := s2.media.strLog.filter fun r => decide (r.pool ≠ pool) || !r.durable p || decide (s2.media.stripes.any fun x =>
      decide (x.2.seg = r.seg ∧ x.2.page = r.page)),
    dies := s2.media.dies.mapVals fun k d => if k / 1024 ∈ p.modules then d.save else d } }
  if restores then s3.bandRestored pool else s3

/-- An anchor answered (R279): one good copy is enough for the root to stand; with none the checkpoint is asked for again. -/
def State.rootAnswer (s : State) (pool m : Nat) (ok : Bool) : State :=
  match s.pool pool with
  | none => s
  | some p =>
    match p.ckpt with
    | .roots c b left got =>
      let rest := left.filter fun x => decide (x ≠ m)
      if rest ≠ [] then s.setPool pool fun p => { p with ckpt := .roots c b rest (got || ok) }
      else if got || ok then s.checkpointEnd pool p c b
      else s.setPool pool fun p => { p with ckpt := .asked }
    | _ => s

/-! ### Reclaim (R283 to R286, R313, R318, R322) -/

/-- Free segments of a pool in per mille. -/
def State.freePm (s : State) (pool : Nat) : Nat := s.segFree pool * 1000 / max (s.segTotal pool) 1

/-- GC_START and GC_URGENT of a pool. -/
def State.gcStart (s : State) (pool : Nat) : Nat := s.fld (R.FTL_GC_THRESH (pool % 16)) 0 10
def State.gcUrgent (s : State) (pool : Nat) : Nat := s.fld (R.FTL_GC_THRESH (pool % 16)) 16 10

/-- Reclaim runs at its urgent rate: few free segments, or LOW_SPACE (R283, R292). -/
def State.gcHard (s : State) (pool : Nat) : Bool :=
  decide (s.freePm pool ≤ s.gcUrgent pool) || decide (s.space pool = spLow ∨ s.space pool = spExhausted)

/-- U of a segment (R284). -/
def State.segU (s : State) (g : Seg) : Nat :=
  let kind := (s.pool g.pool).elim 0 fun p => p.kindOf g.seq
  1024 * (g.live / 2) / max (1023 * dataChunks kind g.place.length * g.stripes) 1

/-- The score of a segment (R284). -/
def State.segScore (s : State) (g : Seg) : Nat :=
  let u := s.segU g
  (1024 - u) * (s.fld (R.FTL_GC_AGE_BASE (g.pool % 16)) 0 10 + min (s.since g.closeStride / 900000000) 1023) / max u 1

/-- A candidate for reclaim: a CLOSED HOST or COPY segment without a member on a failed or rebuilding module (R284). -/
def State.gcCandidate (s : State) (pool : Nat) (g : Seg) : Bool :=
  decide (g.pool = pool ∧ g.state = .closed ∧ g.want = none ∧ g.kind ≤ 1) && !g.rebuild
    && (s.pool pool).elim false fun p => g.place.all fun x => !p.failed.has x.module

/-- The wear governor's filter in stage 2 and above (R322). -/
def State.wearAllows (s : State) (pool : Nat) (g : Seg) : Bool :=
  if 2 ≤ s.fld (R.WR_STATE pool) 0 2 ∧ s.bit (R.WR_CTRL (pool % 16)) 2 ∧ s.gcUrgent pool < s.freePm pool then
    decide (s.segU g ≤ s.fld (R.WR_GC_UMAX (pool % 16)) 0 11)
  else true

/-- The better of two candidates: the higher score, then the lower SEG_SEQ. -/
def betterSeg (score : Seg → Nat) (a b : Nat × Seg) : Nat × Seg :=
  if score a.2 < score b.2 ∨ (score a.2 = score b.2 ∧ b.2.seq < a.2.seq) then b else a

/-- The best of a list of candidates. -/
def bestSeg (score : Seg → Nat) : List (Nat × Seg) → Option (Nat × Seg)
  | [] => none
  | x :: xs => some (xs.foldl (betterSeg score) x)

/-- The segment that reclaim takes next: LIVE = 0 first, then REFRESH by lowest SEG_SEQ, then, at or below GC_START, the
highest score (R283, R284, R313). -/
def State.gcPick (s : State) (pool : Nat) : Option (Nat × Seg) :=
  let c := s.media.segs.filter fun g => s.gcCandidate pool g.2
  match bestSeg (fun _ => 0) (c.filter fun g => decide (g.2.live = 0)) with
  | some g => some g
  | none =>
    match bestSeg (fun _ => 0) (c.filter fun g => g.2.refresh) with
    | some g => some g
    | none =>
      if s.freePm pool ≤ s.gcStart pool ∨ s.gcHard pool then bestSeg s.segScore (c.filter fun g => s.wearAllows pool g.2)
      else none

/-- Reclaim of a pool may work: the matrix admits it, the pool is not READ_ONLY, and its paddock is not being given
away (R283, R292, R387). -/
def State.gcMay (s : State) (pool : Nat) : State × Bool :=
  let given := s.tandem.transfer.elim false fun t => t.giver && decide (s.padOf pool = t.paddock)
  if s.space pool = spReadOnly ∨ s.mutedModules ∨ s.spilling ∨ given then (s, false) else s.standing actReclaim pool

/-- RECLAIM_SELECT (R284). -/
def execReclaimSelect (pool : Nat) (s : State) : Out :=
  match s.gcPick pool with
  | none => .next s
  | some (i, _) =>
    match s.gcMay pool with
    | (_, false) => .next s
    | (s1, true) => .next (s1.setSeg i fun g => { g with state := .selected, swept := false, refresh := false })

/-- Reclaim's work on a pool. -/
def State.reclaimOf (s : State) (pool : Nat) : ReclaimSt := s.media.reclaim.getD pool { seg := 0, copied := [], used := 0 }

/-- Reclaim's work on a pool takes a value. -/
def State.setReclaim (s : State) (pool : Nat) (r : ReclaimSt) : State :=
  { s with media := { s.media with reclaim := s.media.reclaim.put pool r } }

/-- Grains that reclaim may copy in a stride (R283, R313). -/
def State.gcRate (s : State) (pool : Nat) : Nat :=
  let r := s.fld (R.FTL_GC_RATE (pool % 16)) 0 11
  if s.gcHard pool then 2 * r else r

/-- A metadata object is in use: it is the copy of a map page that the page table names, or the first block of a table (R267, R279). -/
def State.metaLive (s : State) (pool a : Nat) : Bool :=
  ((s.pagesOf pool).any fun x => decide (gaKey x.2.addr = gaKey a))
    || (s.pool pool).elim false fun p => decide (gaKey a ∈ [p.volTable, p.segTable, p.pageTable].map gaKey)

/-- The live grains of a segment, and metadata objects in use, that have no copy yet and are not lost, by address. -/
def State.gcLeft (s : State) (pool : Nat) (g : Seg) : List (Nat × Stored) :=
  let r := s.reclaimOf pool
  s.media.flash.filter fun x => g.place.any (fun p => p.holds x.1) && (decide (0 < s.refs x.1) || (x.2.obj.isSome && s.metaLive pool x.1))
    && decide (x.1 ∉ s.media.lost) && !(r.copied.any fun c => decide (c.1 = x.1))

/-- A grain of a segment is read and copied into the COPY segment with COPIED set; one that cannot be read is lost (R217, R232, R285). -/
def copyGrain (pool : Nat) (lost : List Nat) (d : State × List (List Place) × Bool) (x : Nat × Stored) :
    State × List (List Place) × Bool :=
  let (s, places, ok) := d
  if ok = false then d
  else if x.1 ∈ lost ∨ x.2.poison then (((s.addLoss pool x.1 2).raise 94 0x0101 2 0).event 94 1, places, ok)
  else
    let y := if x.2.obj.isSome then x.2 else { x.2 with copied := true, cseq := 0, head := s.headId }
    match s.pack pool (if x.2.obj.isSome then segMeta else segCopy) y x.1 false places with
    | none => (s, places, false)
    | some (s1, rest, a) =>
      let s1 := match s.segAt x.1 with
        | none => s1
        | some (_, g) => s1.readSources g (gaPage x.1) (g.memberAt x.1) (grainWords x.1).1 (grainWords x.1).2
      let r := s1.reclaimOf pool
      ((s1.setReclaim pool { r with copied := r.copied ++ [(x.1, a)], used := r.used + 1 }).count (R.FTL_COPIED pool), rest,
        ok)

/-- Copy up to `n` grains of a segment. -/
def State.copyGrains (s : State) (pool n : Nat) (g : Seg) (lost : List Nat) (places : List (List Place)) : State :=
  (((s.gcLeft pool g).take n).foldl (copyGrain pool lost) (s, places, true)).1

/-- RECLAIM_MOVE (R285): up to `n` live grains of a SELECTED or RETIRED segment are copied, within the rate of the stride;
`lost` names the addresses that no copy could supply. A grain's relocation follows once its stripe is written. -/
def execReclaimMove (pool seg n : Nat) (lost : List Nat) (places : List (List Place)) (s : State) : Out :=
  match s.seg seg with
  | none => .next s
  | some g =>
    if g.pool ≠ pool ∨ (g.state ≠ .selected ∧ g.state ≠ .retired) ∨ g.rebuild then .next s
    else
      match s.gcMay pool with
      | (_, false) => .next s
      | (s1, true) =>
        let r := s1.reclaimOf pool
        .next ((s1.setReclaim pool { r with seg := seg }).copyGrains pool (min n (s1.gcRate pool - r.used)) g lost places)

/-- Every grain of a segment has count 0 in the durable state, and no unapplied record names one (R286). -/
def State.segDead (s : State) (g : Seg) : Bool :=
  (s.media.flash.filter fun x => g.place.any fun p => p.holds x.1).all fun x =>
    decide (s.refs x.1 = 0) && decide (s.finalRefs x.1 ≤ 0) && !(x.2.obj.isSome && s.metaLive g.pool x.1)

/-- No stripe of a segment is being filled or written. -/
def State.segQuiet (s : State) (i : Nat) : Bool := !(s.media.stripes.any fun x => decide (x.2.seg = i))

/-- SEGMENT_ERASE (R286, R318): a SELECTED segment whose grains are all dead, swept and unread moves to ERASING, and so does
a RETIRED one. -/
def execSegmentErase (seg : Nat) (s : State) : Out :=
  match s.seg seg with
  | none => .next s
  | some g =>
    let may := (decide (g.state = .selected) && g.swept) || decide (g.state = .retired)
    if may = false ∨ g.want ≠ none ∨ g.readers ≠ 0 ∨ s.segDead g = false ∨ s.segQuiet seg = false ∨ s.mutedModules
        ∨ s.space g.pool = spReadOnly then .next s
    else .next ((s.setSeg seg fun g => { g with want := some .erasing }).addTxn g.pool txReclaim 0 0
      [.segState seg SegState.erasing.code]).1

/-! ### Answers to an ERASE (R275, R314, R316) -/

/-- A block group after an erase: READS, RET_AGE, TRIM and what the erase resets; SUSP_LEFT decreases (R300, R316). -/
def BlockGroup.afterErase (b : BlockGroup) : BlockGroup :=
  { b with erases := b.erases + 1, progCal := 0, retAge := 0, reads := 0, trim := [0, 0, 0, 0], trimNext := none, corrMax := 0,
           refresh := false, bin := 1, patPage := 0, suspLeft := b.suspLeft - 1,
           st := if b.st = .suspect ∧ b.suspLeft ≤ 1 then .good else b.st }

/-- An erase counts in the pool's present hourly bin (R321). -/
def State.wearErase (s : State) (pool : Nat) : State :=
  let w := s.media.wear.getD pool { hours := [], stageNext := none, used := 0 }
  let hours := match w.hours with | [] => [1] | h :: t => (h + 1) :: t
  { s with media := { s.media with wear := s.media.wear.put pool { w with hours := hours } } }

/-- The grains that lay in a place are gone from flash. -/
def State.purge (s : State) (p : Place) : State :=
  { s with media := { s.media with flash := s.media.flash.keep fun a _ => !p.holds a,
                                   reclaim := s.media.reclaim.mapVals fun _ r =>
                                     { r with copied := r.copied.filter fun c => !p.holds c.1 } } }

/-- Every member that is not retired has answered: the segment goes FREE (R275, R318). -/
def State.eraseScan (s : State) (seg : Nat) : State :=
  match s.seg seg with
  | none => s
  | some g =>
    let left := (List.range g.place.length).filter fun k =>
      match g.place[k]? with
      | none => false
      | some p => decide (k ∉ g.erased) && decide ((s.bg p.module p.die p.bgrp).st ≠ .retired)
    if g.state = .erasing ∧ g.want = none ∧ left = [] then
      (((g.place.foldl State.purge s).setSeg seg fun g => { g with want := some .free }).addTxn g.pool txReclaim 0 0
        [.segState seg SegState.free.code]).1
    else s

/-- A member answered OK (R275, R316). -/
def State.eraseOk (s : State) (seg k : Nat) : State :=
  match s.seg seg with
  | none => s
  | some g =>
    match g.place[k]? with
    | none => s
    | some p =>
      let s1 := (s.setBg p.module p.die p.bgrp BlockGroup.afterErase).wearErase g.pool
      (s1.setSeg seg fun g => { g with erased := k :: g.erased }).eraseScan seg

/-! ### Pool space (R292) -/

/-- A POOL record is written at every change of space or redundancy state (R472). -/
def State.poolRecord (s : State) (pool src : Nat) : State :=
  s.record 0x000D 0 src (leBytes 1 pool ++ leBytes 1 (s.space pool) ++ leBytes 1 (s.redund pool) ++ leBytes 1 0)

/-- SPACE of a pool takes a value. -/
def State.setSpace (s : State) (pool v ev : Nat) : State :=
  ((s.putFld (R.FTL_POOL_STATE pool) 0 2 v).event 137 ev).poolRecord pool 137

/-- The transition of one pool at a commit point (R292). -/
def State.spaceOne (s : State) (pool : Nat) (p : Pool) : State :=
  let free := s.poolFree pool
  let pm := s.fld (R.FTL_LOW_PM (pool % 16)) 0 10
  let st := s.space pool
  let s1 := s.setPool pool fun p => { p with exhaustNext := false, readOnlyNext := false, resumeNext := false }
  if st ≠ spReadOnly ∧ p.readOnlyNext then s1.setSpace pool spReadOnly 3
  else if st = spReadOnly then
    if p.resumeNext then
      if free < 0 then s1.setSpace pool spExhausted 2
      else if free * 1000 < ((p.cap * pm : Nat) : Int) then s1.setSpace pool spLow 1
      else s1.setSpace pool spNormal 7
    else s1
  else if st ≠ spExhausted ∧ p.exhaustNext then s1.setSpace pool spExhausted 2
  else if st = spExhausted then
    if ((p.cap / 400 : Nat) : Int) ≤ free then s1.setSpace pool spLow 7 else s1
  else if st = spNormal then
    if free * 1000 < ((p.cap * pm : Nat) : Int) then s1.setSpace pool spLow 1 else s1
  else if ((p.cap * (pm + 10) : Nat) : Int) ≤ free * 1000 then s1.setSpace pool spNormal 7
  else s1

/-- Step of the commit point: pools move between space states (R292). -/
def State.spaceChange (s : State) : State := s.media.pools.foldl (fun s p => s.spaceOne p.1 p.2) s

/-! ### FTL commands (R287 to R290, R298) -/

/-- The 64 bytes of FTL_ARG. -/
def State.ftlArgs (s : State) : List Byte := (List.range 16).flatMap fun i => leBytes 4 (s.rdN (R.FTL_ARG i))

/-- A field of an argument block. -/
def argField (l : List Byte) (off n : Nat) : Nat := ofLeBytes ((l.drop off).take n)

/-- An FTL command is answered: STATUS, and BUSY until the next commit point (R298; assumption log 31). -/
def State.ftlAnswer (s : State) (status : Nat) (queued : Bool) : State :=
  s.wrN R.FTL_CMD_STATUS (status + 2 ^ 16 + queued.toNat * 2 ^ 17)

/-- A write of FTL_CMD while BUSY = 1 is discarded and captures WRITE_DISCARDED (R298). -/
def State.ftlCommand (s : State) (f : State → State) : Out :=
  .next (if s.bit R.FTL_CMD_STATUS 16 then s.writeDiscarded 137 else f s)

/-- An activity that an FTL command starts: it runs at once, is queued, or is refused with BUSY_RETRY (R467, R468). -/
def State.ftlStart (s : State) (a : Activity) (run : State → State) : State :=
  let (s1, d) := s.actStart a
  if d = decRefused then s1.ftlAnswer St.busyRetry false
  else if d = decQueued then s1.ftlAnswer St.success true
  else (run s1).ftlAnswer St.success false

/-- A volume number that may be given to a new volume (R287). -/
def State.volFree (s : State) (v : Nat) : Bool :=
  decide (1 ≤ v ∧ v ≤ 0xFFFFFF) && (s.vol v).isNone && !(s.media.snaps.any fun j => decide (j.target = v))

/-- Volumes of the array, those being made included. -/
def State.volCount (s : State) : Nat := s.media.vols.length + s.media.snaps.length

/-- A new volume of this head (R298). -/
def State.makeVol (s : State) (v pool format grains : Nat) : State :=
  let x : Vol := { pool := pool, owner := s.headId, format := format, grains := grains, root := 0, snapshot := false,
                   source := none, children := 0, replTarget := false, deleting := none, held := false, anaChange := false }
  { s with media := { s.media with vols := s.media.vols.put v x } }

/-- VOL_CREATE takes effect (R298). -/
def State.volCreateRun (s : State) (args : List Byte) : State :=
  let v := argField args 0 4
  let s1 := s.makeVol v (argField args 4 1) (argField args 5 1) (argField args 8 8)
  ((s1.wrN R.FTL_RESULT v).actEnd actVolChange (argField args 4 1) fun a => decide (v ∈ a.vols)).event 137 0

/-- VOL_CREATE (R287, R298). -/
def execVolCreate (s : State) : Out :=
  s.ftlCommand fun s =>
    let a := s.ftlArgs
    let v := argField a 0 4
    let pool := argField a 4 1
    let grains := argField a 8 8
    if s.volFree v = false ∨ 16 ≤ pool ∨ (s.pool pool).isNone ∨ 16 ≤ argField a 5 1 ∨ grains = 0 ∨ 2 ^ 40 < grains then
      s.ftlAnswer St.invalidField false
    else if 65536 ≤ s.volCount then s.ftlAnswer St.quota false
    else s.ftlStart { Activity.of actVolChange pool with vols := [v], op := 1, args := a } (·.volCreateRun a)

/-- The mapped grains of a tree below page `id` of a level, from grain `base` on (R266). -/
def State.mapped (s : State) (pool : Nat) : Nat → Nat → Nat → List (Nat × Nat)
  | 0, id, base =>
    match s.mpage pool id with
    | none => []
    | some p => p.entries.map fun e => (base + e.1, e.2)
  | l + 1, id, base =>
    match s.mpage pool id with
    | none => []
    | some p => p.entries.flatMap fun e => s.mapped pool l e.2 (base + e.1 * 512 ^ (l + 1))

/-- VOL_RESIZE takes effect: grains beyond a smaller size are deallocated (R298). -/
def State.volResizeRun (s : State) (args : List Byte) : State :=
  let v := argField args 0 4
  let n := argField args 8 8
  match s.vol v with
  | none => s
  | some x =>
    let gone := ((s.mapped x.pool 4 x.root 0).filter fun g => decide (n ≤ g.1)).map fun g =>
      MapOp.setGrain v g.1 0 (s.finalEntry v g.1)
    let s1 := (s.setVol v fun x => { x with grains := n }).addTxns x.pool 0 (gone.length / 2048 + 1) gone
    (s1.actEnd actVolChange x.pool fun a => decide (v ∈ a.vols)).event 137 0

/-- VOL_RESIZE (R298). A snapshot, being read-only, is not resized (DEDUCED, assumption log 34). -/
def execVolResize (s : State) : Out :=
  s.ftlCommand fun s =>
    let a := s.ftlArgs
    let v := argField a 0 4
    let n := argField a 8 8
    match s.vol v with
    | none => s.ftlAnswer St.invalidField false
    | some x =>
      if n = 0 ∨ 2 ^ 40 < n ∨ x.snapshot ∨ s.owns v = false ∨ x.deleting.isSome then s.ftlAnswer St.invalidField false
      else s.ftlStart { Activity.of actVolChange x.pool with vols := [v], op := 3, args := a } (·.volResizeRun a)

/-- A volume is attached to a function or to a fabrics controller (R290). -/
def State.attached (s : State) (v : Nat) : Bool :=
  s.front.fns.any (fun f => f.2.ns.any fun n => decide (n.vol = v))
    || s.front.ctrls.any (fun c => c.2.ns.any fun n => decide (n.vol = v))

/-- A deletion begins: the root loses one SHARE, and if none is left it is to be visited (R290). -/
def State.deleteRun (s : State) (args : List Byte) : State :=
  let v := argField args 0 4
  match s.vol v with
  | none => s
  | some x =>
    let s1 := if x.root = 0 then s else s.shareBy x.pool x.root false
    let dead := (s1.mpage x.pool x.root).elim false fun p => decide (p.share = 0)
    s1.setVol v fun x => { x with deleting := some (if dead then [x.root] else [], false) }

/-- SNAP_DELETE and VOL_DELETE (R290, R298): `snap` tells which. -/
def State.deleteCmd (s : State) (snap : Bool) : Out :=
  s.ftlCommand fun s =>
    let a := s.ftlArgs
    let v := argField a 0 4
    match s.vol v with
    | none => s.ftlAnswer St.invalidField false
    | some x =>
      if s.attached v ∨ x.deleting.isSome ∨ s.owns v = false ∨ (snap ∧ x.source = none) ∨ (snap = false ∧ x.snapshot) then
        s.ftlAnswer St.invalidField false
      else if s.space x.pool = spReadOnly then s.ftlAnswer St.poolReadOnly false
      else s.ftlStart { Activity.of actSnapDelete x.pool with vols := [v], op := if snap then 5 else 2, args := a }
        (·.deleteRun a)

/-- VOL_DELETE (R290). -/
def execVolDelete (s : State) : Out := s.deleteCmd false

/-- SNAP_DELETE (R290). -/
def execSnapDelete (s : State) : Out := s.deleteCmd true

/-- SNAP_DELETE_STEP (R290): up to 2,048 changes, four pages, of a deletion go into one SNAP_STEP record. -/
def execSnapDeleteStep (v : Nat) (s : State) : Out :=
  match s.vol v with
  | none => .next s
  | some x =>
    match x.deleting with
    | some (l, false) =>
      if s.space x.pool = spReadOnly ∨ s.mutedModules
          ∨ s.guard.acts.any (fun a => decide (v ∈ a.vols ∧ a.st = .queued)) then .next s
      else .next ((s.setVol v fun x => { x with deleting := some (l.drop 4, true) }).addTxn x.pool 0 0 v
        [.snapStep v (l.take 4)]).1
    | _ => .next s

/-- A snapshot is accepted: it waits for stride T (R288). -/
def State.snapRun (s : State) (args : List Byte) : State :=
  { s with media := { s.media with snaps := s.media.snaps ++
      [{ source := argField args 0 4, target := argField args 4 4, at_ := BitVec.ofNat 64 (argField args 8 8),
         clone := decide (argField args 16 1 % 2 = 1), cut := none, recorded := false }] } }

/-- SNAP_CREATE (R287, R288, R298): refused with SNAP_LATE unless T is at least the current stride number plus 2. -/
def execSnapCreate (s : State) : Out :=
  s.ftlCommand fun s =>
    let a := s.ftlArgs
    let src := argField a 0 4
    let tgt := argField a 4 4
    match s.vol src with
    | none => s.ftlAnswer St.invalidField false
    | some x =>
      if argField a 8 8 < s.now.toNat + 2 then (s.event 137 4).ftlAnswer St.invalidField false
      else if s.volFree tgt = false ∨ s.owns src = false ∨ x.deleting.isSome then s.ftlAnswer St.invalidField false
      else if 1024 ≤ x.children ∨ 65536 ≤ s.volCount then s.ftlAnswer St.quota false
      else s.ftlStart { Activity.of actSnapCreate x.pool with vols := [src, tgt], op := 4, args := a } (·.snapRun a)

/-- SNAP_CUT (R288): at commit point T, CUT is the first CSEQ this head will assign. A job that the compatibility matrix held queued
past T is cut at the commit point at which it runs (DESIGN CHOICE, assumption log 68). -/
def execSnapCut (target : Nat) (s : State) : Out :=
  .next { s with media := { s.media with snaps := s.media.snaps.map fun j =>
    if j.target = target ∧ j.at_.toNat ≤ s.now.toNat ∧ j.cut = none then
      { j with cut := some ((s.rd64 R.CIST_CSEQ).toNat + 1) } else j } }

/-- An entry of a volume below a CUT has not been destaged. -/
def State.belowCut (s : State) (vol cut : Nat) : Bool :=
  s.cist.parts.any fun p => decide (p.1 < cut ∧ p.2.vol = vol) && decide (p.2.tseq = none) && !p.2.released

/-- The snapshot of a target has its record. -/
def SnapJob.record (j : SnapJob) (target : Nat) : SnapJob := if j.target = target then { j with recorded := true } else j

/-- SNAP_CREATE_RECORD (R288): every entry of the source below CUT has been destaged, and the record is written. -/
def execSnapCreateRecord (target : Nat) (s : State) : Out :=
  match s.media.snaps.find? fun j => decide (j.target = target) with
  | none => .next s
  | some j =>
    match j.cut with
    | none => .next s
    | some c =>
      if j.recorded ∨ s.belowCut j.source c ∨ s.mutedModules then .next s
      else
        let s1 := { s with media := { s.media with snaps := s.media.snaps.map fun x : SnapJob => x.record target } }
        .next (s1.addTxn (s1.poolOf j.source) 0 0 j.source [.snapCreate target j.source c]).1

/-- A spare die of a paddock on a module is left (R317). -/
def State.spareDie (s : State) (pad m : Nat) : Option Nat :=
  (List.range 1024).find? fun d => decide (paddockOf d = pad) && (s.die m d).spare
    && decide ((s.die m d).st ≠ .offline ∧ (s.die m d).st ≠ .retired)

/-- RO_RESUME (R292, R298): leaves READ_ONLY where a spare die is available. -/
def execRoResume (s : State) : Out :=
  s.ftlCommand fun s =>
    let pool := s.fld R.FTL_POOL_SEL 0 4
    match s.pool pool with
    | none => s.ftlAnswer St.invalidField false
    | some p =>
      if s.space pool = spReadOnly ∧ (p.modules ++ p.spare.toList).any (fun m => (s.spareDie s.headId m).isSome) then
        ((s.setPool pool fun p => { p with resumeNext := true }).event 137 0).ftlAnswer St.success false
      else s.ftlAnswer St.invalidField false

/-- A queued FTL activity starts (R467): its QUEUED clears. -/
def State.ftlActRun (s : State) (a : Activity) : State :=
  let s1 := s.putBit R.FTL_CMD_STATUS 17 false
  match a.op with
  | 1 => s1.volCreateRun a.args
  | 3 => s1.volResizeRun a.args
  | 4 => s1.snapRun a.args
  | _ => s1.deleteRun a.args

end Sys2Proof.Machine
end

