-- ==== Sys2Proof/Machine/Health.lean ====
section
/-! DEFINITION. Media failures, retirement of block groups and dies, and module health records (R312, R314 to R319). -/

namespace Sys2Proof.Machine

/-! ### Health records (R319) -/

/-- A health record of which nothing is known. -/
def HealthRec.fresh : HealthRec :=
  { flags := 0, stride := 0, cal := 0, bgSpareInit := 0, diesSpareInit := 0, programFails := 0, eraseFails := 0,
    readFails := 0, bgRetired := 0, diesRetired := 0, cwDecoded := 0, corrBits := 0, refreshes := 0, calUpdates := 0,
    tempHist := List.replicate 16 0, tNandSeen := -32768, bytes := [] }

/-- Change a module's health record. -/
def State.setHealth (s : State) (m : Nat) (f : HealthRec → HealthRec) : State :=
  { s with media := { s.media with health := s.media.health.put m (f (s.media.health.getD m HealthRec.fresh)) } }

/-- Dies of this head's paddock that a module's identity names usable (R257). -/
def State.paddockDies (s : State) (port : Nat) : List Nat :=
  (s.ident port).elim [] fun i => i.dieMap.filter fun d => decide (paddockOf d = s.headId ∧ d < i.dies)

/-- Spare capacity of a die in block groups: ceil(2.5%) (R317). -/
def dieSpareGroups (blocks : Nat) : Nat := ceilDiv (blocks / 4 * 25) 1000

/-- RETIRED block groups of a die. -/
def State.retiredGroups (s : State) (m d : Nat) : Nat :=
  s.media.bgs.count fun k b => decide (k / 4096 = dieKey m d ∧ b.st = .retired)

/-- Spare dies left on a module in this head's paddock (R317). -/
def State.sparesLeft (s : State) (m : Nat) : Nat :=
  ((List.range 1024).filter fun d => decide (paddockOf d = s.headId) && (s.die m d).spare).length

/-- Block-group spare capacity left on a module, over all its dies in service. -/
def State.groupSparesLeft (s : State) (port m : Nat) : Nat :=
  let per := (s.ident port).elim 0 fun i => dieSpareGroups i.blocks
  (((s.paddockDies port).filter fun d => s.dieUsable port m d).map fun d => per - s.retiredGroups m d).sum

/-- SPARE_PM: what is left of the initial spare, block groups and dies together (R317, R319). -/
def State.sparePm (s : State) (port m : Nat) : Nat :=
  let h := s.media.health.getD m HealthRec.fresh
  (s.groupSparesLeft port m + s.sparesLeft m) * 1000 / max (h.bgSpareInit + h.diesSpareInit) 1

/-! ### The record as presented (R319, R327) -/

/-- The pool, of both paddocks' tables, that a module number belongs to. -/
def State.poolWith (s : State) (m d : Nat) : Option (Nat × Pool) :=
  s.media.pools.first fun q p => decide (m ∈ p.modules ++ p.reshape.elim [] (fun r => r.2.2.1)) && decide (s.padOf q = paddockOf d)

/-- The port that serves a module number on the paddock of a die. -/
def State.portAt (s : State) (m d : Nat) : Nat := (s.poolWith m d).elim m fun x => s.portOf x.1 m

/-- Block groups in service of a module in this head's paddock: those of the dies in service that are not retired. -/
def State.groupsServing (s : State) (port m : Nat) : Nat :=
  (((s.paddockDies port).filter fun d => s.dieUsable port m d).map fun d =>
    (s.ident port).elim 0 (fun i => i.blocks / 4) - s.retiredGroups m d).sum

/-- ERASES of the block groups of a module that have a record. -/
def State.erasesOf (s : State) (m : Nat) : List Nat :=
  (s.media.bgs.filter fun b => decide (b.1 / 4096 / 1024 = m ∧ paddockOf (b.1 / 4096 % 1024) = s.headId ∧ b.2.st ≠ .retired)).map
    fun b => b.2.erases

/-- A count cut to a field of `n` bytes, saturating. -/
def satBytes (n v : Nat) : List Byte := leBytes n (min v (256 ^ n - 1))

/-- The 256-byte health record of a module (R319). -/
def State.healthBytes (s : State) (port m : Nat) (h : HealthRec) : List Byte :=
  let es := s.erasesOf m
  let n := s.groupsServing port m
  let pe := max ((s.ident port).elim 1 Ident.peRated) 1
  let mean := es.sum / max n 1
  let top := es.foldl max 0
  let dies := (s.paddockDies port).filter fun d => s.dieUsable port m d
  let b := [0x48, 0x4C, 0x54, 0x48].map (BitVec.ofNat 8)
    ++ leBytes 1 m ++ leBytes 1 ((decide (0 ∈ s.tandem.held)).toNat + 2 * (decide (1 ∈ s.tandem.held)).toNat)
    ++ leBytes 2 h.flags ++ leBytes 8 h.stride.toNat ++ leBytes 6 h.cal ++ leBytes 2 0
    ++ satBytes 4 n ++ satBytes 4 (s.groupSparesLeft port m) ++ satBytes 2 dies.length ++ satBytes 2 (s.sparesLeft m)
    ++ satBytes 2 h.diesRetired ++ satBytes 2 (s.sparePm port m) ++ satBytes 4 mean ++ satBytes 4 top
    ++ satBytes 2 (mean * 1000 / pe) ++ satBytes 2 (top * 1000 / pe) ++ satBytes 4 h.programFails
    ++ satBytes 4 h.eraseFails ++ satBytes 4 h.readFails ++ satBytes 4 h.bgRetired ++ satBytes 8 h.cwDecoded
    ++ satBytes 8 h.corrBits ++ satBytes 4 h.refreshes ++ satBytes 4 h.calUpdates ++ leBytes 4 0
    ++ (h.tempHist.flatMap (satBytes 4)) ++ leBytes 2 (toField 16 h.tNandSeen) ++ List.replicate 90 0
  b ++ leBytes 4 (crc32c b).toNat

/-- A module's record is updated: at every hour rollover and at every retirement (R327). WEAR_90 follows the highest ERASES. -/
def State.healthUpdate (s : State) (port m : Nat) : State :=
  let pe := (s.ident port).elim 0 Ident.peRated
  let w90 := decide (9 * pe < 10 * (s.erasesOf m).foldl max 0)
  let s1 := s.setHealth m fun h => { h with
    flags := h.flags % 4 + 4 * w90.toNat, stride := s.now, cal := s.calSec }
  s1.setHealth m fun h => { h with bytes := s1.healthBytes port m h }

/-- SPARE_LOW when the remaining spare falls below HL_SPARE_WARN (R317). -/
def State.spareCheck (s : State) (port m : Nat) : State :=
  let low := decide (s.sparePm port m < s.fld R.HL_SPARE_WARN 0 10)
  let was := decide ((s.media.health.getD m HealthRec.fresh).flags % 2 = 1)
  if low ∧ was = false then (s.setHealth m fun h => { h with flags := h.flags + 1 }).event 139 0 else s

/-! ### Retirement (R314, R316, R317) -/

/-- The modules of a pool: while it is reshaped, those of both layouts (R356). -/
def Pool.allModules (p : Pool) : List Nat :=
  p.modules ++ (p.reshape.elim [] fun r => r.2.2.1.filter fun m => decide (m ∉ p.modules))

/-- The module number and pool that a port serves (R347). -/
def State.served (s : State) (port : Nat) : Option (Nat × Nat) :=
  s.media.pools.findSome? fun p =>
    match p.2.subst.first fun _ q => decide (q = port) with
    | some (m, _) => some (p.1, m)
    | none => if port ∈ p.2.allModules ∧ p.2.subst.has port = false then some (p.1, port) else none

/-- A segment becomes RETIRED, journaled: no further stripes, what it holds is relocated (R275, R314, R318). -/
def State.retireSeg (s : State) (i : Nat) : State :=
  match s.seg i with
  | none => s
  | some g =>
    if g.state = .retired ∨ g.state = .erasing then s
    else (s.setSeg i fun g => { g with state := .retired, want := none }).addTxn g.pool 0 0 0
      [.segState i SegState.retired.code] |>.1

/-- Segments with a member at a place that a test picks. -/
def State.segsOn (s : State) (f : Place → Bool) : List Nat :=
  (s.media.segs.filter fun g => g.2.place.any f).map Prod.fst

/-- CAP follows the dies in service (R291, R317). -/
def State.recap (s : State) (pool : Nat) : State :=
  match s.pool pool with
  | none => s
  | some p => s.setPool pool fun q => { q with cap := s.capOf pool p p.layout p.n }

/-- A retired die is replaced: a spare die of the module, else one of the pool's hot spare, else READ_ONLY (R317). -/
def State.dieReplace (s : State) (pool port m : Nat) : State :=
  match s.spareDie (s.padOf pool) m with
  | some d => s.setDie m d fun x => { x with spare := false }
  | none =>
    match (s.pool pool).bind Pool.spare with
    | some sp =>
      match s.spareDie (s.padOf pool) sp with
      | some d => s.setDie sp d fun x => { x with spare := false }
      | none => ((s.setPool pool fun p => { p with readOnlyNext := true }).setHealth m fun h =>
          { h with flags := if h.flags / 2 % 2 = 1 then h.flags else h.flags + 2 }).raise 139 0x0105 2 port
    | none => ((s.setPool pool fun p => { p with readOnlyNext := true }).setHealth m fun h =>
        { h with flags := if h.flags / 2 % 2 = 1 then h.flags else h.flags + 2 }).raise 139 0x0105 2 port

/-- REDUND of a pool takes a value in both its registers, and a POOL record is written (R339, R472). -/
def State.setRedund (s : State) (pool v : Nat) : State :=
  ((s.putFld (R.FTL_POOL_STATE pool) 4 2 v).putFld (R.SP_STATE pool) 0 2 v).poolRecord pool 141

/-- Every block group of a die that has gone offline is RETIRED, and counted (R314, R319). -/
def State.groupsGone (s : State) (port m d : Nat) : State :=
  let n := (s.ident port).elim 0 (fun i => i.blocks / 4) - s.retiredGroups m d
  let bgs := s.media.bgs.mapVals fun k b => if k / 4096 = dieKey m d then { b with st := .retired, retireDue := false } else b
  let s1 := { s with media := { s.media with bgs := bgs } }
  let places := (s1.media.segs.flatMap fun g => g.2.place).filter fun p => decide (p.module = m ∧ p.die = d)
  (places.foldl (fun s p => s.setBg m d p.bgrp fun b => { b with st := .retired, retireDue := false }) s1).setHealth m fun h =>
    { h with bgRetired := h.bgRetired + n }

/-- A die is retired whole: every segment with a member on it is RETIRED, the pool counts as REBUILDING, and the die is
replaced (R314, R317, R338, R339). -/
def State.retireDie (s : State) (pool port m d : Nat) (offline : Bool) : State :=
  let s0 := if offline then s.groupsGone port m d else s
  let s1 := s0.setDie m d fun x => { x with st := if offline then .offline else .retired, spare := false, leaving := false }
  let s2 := (s1.segsOn fun p => decide (p.module = m ∧ p.die = d)).foldl (fun s i =>
    (s.retireSeg i).setSeg i fun g => { g with rebuild := true }) s1
  let s3 := (s2.setHealth m fun h => { h with diesRetired := h.diesRetired + 1 }).raise 139 0x0104 2 port
  let s4 := (s3.event 139 2).dieReplace pool port m
  let s5 := ((s4.recap pool).spareCheck port m).healthUpdate port m
  if s5.redund pool = rdNormal then s5.setRedund pool rdRebuilding else s5

/-- A die passes a limit of R317 by its RETIRED block groups: while it is readable its segments are moved first. -/
def State.dieCheck (s : State) (port m d : Nat) : State :=
  let x := s.die m d
  let recent := (x.retired.filter fun t => decide (s.calSec < t + 86400)).length
  let per := (s.ident port).elim 0 fun i => dieSpareGroups i.blocks
  if x.leaving = false ∧ x.st ≠ .offline ∧ x.st ≠ .retired
      ∧ (per < s.retiredGroups m d ∨ s.fld R.HL_DIE_FAIL_LIMIT 0 8 ≤ recent) then
    (s.segsOn fun p => decide (p.module = m ∧ p.die = d)).foldl (fun s i => s.setSeg i fun g => { g with refresh := true })
      (s.setDie m d fun x => { x with leaving := true })
  else s

/-- A block group is RETIRED at once (R314, R316). -/
def State.retireGroup (s : State) (port m d bgrp : Nat) : State :=
  let s1 := s.setBg m d bgrp fun b => { b with st := .retired, retireDue := false }
  let s2 := s1.setDie m d fun x => { x with retired := s.calSec :: x.retired }
  let s3 := (s2.setHealth m fun h => { h with bgRetired := h.bgRetired + 1 }).event 139 1
  (((s3.raise 139 0x0103 1 port).spareCheck port m).healthUpdate port m).dieCheck port m d

/-- PROGRAM_FAIL of a member of a segment: block group and segment RETIRED (R314). -/
def State.programFail (s : State) (seg port : Nat) (p : Place) : State :=
  let s1 := (s.setHealth p.module fun h => { h with programFails := h.programFails + 1 }).raise 139 0x0100 1 port
  (s1.retireGroup port p.module p.die p.bgrp).retireSeg seg

/-- ERASE_FAIL of a member: sent once more, then the block group is RETIRED and the member removed from PLACE (R314); a SUSPECT one is RETIRED
at once (R316). -/
def State.eraseFail (s : State) (seg port k : Nat) : State :=
  match s.seg seg with
  | none => s
  | some g =>
    match g.place[k]? with
    | none => s
    | some p =>
      let s1 := (s.setHealth p.module fun h => { h with eraseFails := h.eraseFails + 1 }).raise 139 0x0101 1 port
      if k ∈ g.eraseFails ∨ (s.bg p.module p.die p.bgrp).st = .suspect then (s1.retireGroup port p.module p.die p.bgrp).eraseScan seg
      else (s1.setSeg seg fun g => { g with eraseFails := k :: g.eraseFails }).sendMod port
        (ModCmd.erase p.die p.bgrp (.erase seg k))

/-- REFRESH is set on a block group and on its segment, once (R312). -/
def State.refreshDue (s : State) (m d bgrp : Nat) : State :=
  if (s.bg m d bgrp).refresh then s
  else
    let s1 := (s.setBg m d bgrp fun b => { b with refresh := true }).setHealth m fun h => { h with refreshes := h.refreshes + 1 }
    ((s1.segsOn fun p => decide (p.module = m ∧ p.die = d ∧ p.bgrp = bgrp)).foldl (fun s i =>
      s.setSeg i fun g => { g with refresh := true }) s1).event 139 3

/-- READ_FAIL or a failed first decode: the block group is SUSPECT, or RETIRED on a second failure once its grains have
moved; its segment is due for refresh (R312, R314, R316). -/
def State.readFail (s : State) (port m d bgrp : Nat) : State :=
  let s1 := (s.setHealth m fun h => { h with readFails := h.readFails + 1 }).raise 139 0x0102 1 port
  let b := s1.bg m d bgrp
  let s2 := match b.st with
    | .good => s1.setBg m d bgrp fun b => { b with st := .suspect, suspLeft := 16 }
    | .suspect => s1.setBg m d bgrp fun b => { b with retireDue := true }
    | _ => s1
  s2.refreshDue m d bgrp

/-- The pool on a die's paddock: of a pool of this head, the one of the partner's paddock where the die lies there (R252). -/
def State.poolOn (s : State) (pool d : Nat) : Nat := if paddockOf d = s.headId then pool else pool % 16 + 16

/-- DIE_OFFLINE, or an ALERT with cause 3 (R314). -/
def State.dieOffline (s : State) (port d : Nat) : State :=
  match s.served port with
  | none => s
  | some (pool0, m) =>
    let pool := s.poolOn pool0 d
    if (s.pool pool).isNone then s
    else if (s.die m d).st = .offline ∨ (s.die m d).st = .retired then s else s.retireDie pool port m d true

/-- One failure is handled, by its row of R314. -/
def State.failHandle (s : State) : MediaFail → State
  | .program seg port p => s.programFail seg port p
  | .erase seg port k => s.eraseFail seg port k
  | .read port m d bgrp => s.readFail port m d bgrp
  | .offline port d => s.dieOffline port d

/-- Step of the commit point: the failures reported since the last one are handled in the order of their tags (R314). -/
def State.failsHandle (s : State) : State :=
  s.media.fails.foldl (fun s x => s.failHandle x.2) { s with media := { s.media with fails := [] } }

/-- Step of the commit point: a die whose segments have all moved is retired (R317). -/
def State.dieRetireScan (s : State) : State :=
  (s.media.dies.filter fun x => x.2.leaving).foldl (fun s x =>
    let m := x.1 / 1024
    let d := x.1 % 1024
    match s.media.pools.first fun q p => decide (m ∈ p.modules ∧ s.padOf q = paddockOf d) with
    | none => s
    | some (pool, _) =>
      if (s.segsOn fun p => decide (p.module = m ∧ p.die = d)) = [] then s.retireDie pool (s.portOf pool m) m d false else s) s

/-- A module's spare dies and its initial spare, at its first identity: the highest dies of this head's paddock (R317;
which dies is a DESIGN CHOICE, assumption log 35). -/
def State.spareInit (s : State) (port m : Nat) : State :=
  if s.media.health.has m then s
  else
    let dies := s.paddockDies port
    let n := ceilDiv (dies.length * 2) 100
    let spares := (dies.reverse.take n)
    let s1 := spares.foldl (fun s d => s.setDie m d fun x => { x with spare := true }) s
    let per := (s.ident port).elim 0 fun i => dieSpareGroups i.blocks
    s1.setHealth m fun h => { h with bgSpareInit := per * (dies.length - n), diesSpareInit := n }

end Sys2Proof.Machine
end

