-- ==== Sys2Proof/Machine/Remount.lean ====
section
/-! DEFINITION. The remount engine (R456, R459 to R464, R186, R187) and the remount map. -/

namespace Sys2Proof.Machine

/-! ### Units and spares -/

/-- KIND of the units of a page (R460). -/
def rmKind (p : Nat) : Option Nat :=
  if 155 ≤ p ∧ p < 243 then some 0
  else if 95 ≤ p ∧ p < 111 then some 1
  else if p = 90 then some 2
  else if p = 92 then some 3
  else if p = 93 then some 4
  else if p = 136 then some 5
  else if p = 141 then some 6
  else none

/-- The register that maps a unit or page (R78). -/
def mapWord (p sub : Nat) : Nat := if unitsAll p = 0 then R.PG_SPARE p else R.UNIT_WORD p sub

/-- A unit or page in service: RUN or DEGRADED. -/
def PState.live (st : PState) : Bool := decide (st = .run ∨ st = .degraded)

/-- Jobs under way or waiting. -/
def State.rmJobs (s : State) : List RmJob := s.guard.job.toList ++ s.guard.waiting

/-- The lowest spare of a unit's kind that is in state SPARE and that no remount has taken (R461). -/
def State.freeSpare (s : State) (p : Nat) : Option Nat :=
  if unitsAll p ≠ 0 then
    ((List.range (unitsAll p)).drop (unitsServing p)).find? fun u =>
      decide (s.unitSt p u = .spare) && !(s.rmJobs.any fun j => decide (j.page = p ∧ j.slot = u))
  else
    (((pageRowOf p).elim [] fun r => (List.range r.count).drop r.inService).map fun i =>
      (pageRowOf p).elim 0 fun r => r.first + i).find? fun q =>
      decide (s.pageState q = .spare) && !(s.rmJobs.any fun j => decide (unitsAll j.page = 0 ∧ j.slot = q))

/-- The page of the highest-numbered logical dedup bank in service: its physical bank is taken for a failing bank of the
in-flight or address-filter group (R187). -/
def State.dedupVictim (s : State) : Option Nat :=
  (((List.range 13).map fun i => 110 - i)).find? fun q =>
    (s.pageState q).live && !(s.rmJobs.any fun j => decide (unitsAll j.page = 0 ∧ j.slot = q))

/-- RM_STATUS and RM_CANDIDATES follow (R486). -/
def State.rmShow (s : State) : State :=
  let cand := (s.guard.candidates.filter fun c => decide (s.unitSt (c.1 / 256) (c.1 % 256) = .degraded)).length
  let s1 := s.wrN R.RM_CANDIDATES (min cand 255)
  match s.guard.job with
  | none => s1.wrN R.RM_STATUS 0
  | some j => s1.wrN R.RM_STATUS (1 + (match j.phase with | .drain => 0 | .copy => 1 | .switch => 2) * 2 + j.page * 16
      + j.sub * 2 ^ 16)

/-! ### The remount map (R463) -/

/-- The map as it stands: every mapping word that differs from reset, the retired slots, the row repairs. -/
def State.mapNow (s : State) (seq : Nat) : RmMap :=
  { seq := seq,
    words := s.regs.filter fun kv => decide (kv.1 < 0x1000000) && (decide (0xF00 ≤ kv.1 % 0x1000) || decide (kv.1 % 0x1000 = 0x034)),
    retired := pageNumbers.filter fun p => decide (s.pageState p = .retired),
    rows := s.guard.rows, crcOk := true }

/-- The map is kept in the always-on island and written to one of the two copies in turn (R463); a copy that fails captures
MAP_SAVE_FAILED. -/
def State.mapSave (s : State) (ok : Bool) : State :=
  let m := s.mapNow (s.guard.mapAon.seq + 1)
  let copy := { m with crcOk := ok }
  let g := { s.guard with mapAon := m }
  let s1 := s.setGuard (if m.seq % 2 = 1 then { g with mapA := copy } else { g with mapB := copy })
  if ok then s1 else s1.raise 7 0x0102 2 0

/-! ### Starting and ending (R459, R461, R464) -/

/-- A REMOUNT record (R473). -/
def State.rmRecord (s : State) (p sub old new trigger result strides faultSeq : Nat) : State :=
  let logical := if unitsAll p = 0 then pageInstance p else sub
  s.record 0x0003 0 7 (remountPayload ((rmKind p).getD 0) logical old new trigger result strides faultSeq)

/-- The ladder's L3 entry of a unit is done (R453). -/
def State.l3Done (s : State) (p sub : Nat) : State :=
  s.setLadder (s.guard.ladder.filter fun e => !(decide (e.page = p ∧ e.sub = sub ∧ e.level = 3) && decide (e.st ≠ .pending)))

/-- A remount ends: its ladder entry is done, or its command and activity end (R453, R464, R486). -/
def State.rmEnd (s : State) (j : RmJob) (status : Nat) : State :=
  let s1 := if j.trigger = 0 then s.l3Done j.page j.sub
    else s.actEnd actRemount 0 fun a => decide (a.vols = [] ∧ a.op = j.page * 256 + j.sub)
  if j.cmd then s1.wrN R.RM_CMD_STATUS status else s1

/-- Strides of a remount, the drain stride counted (R461, R473). -/
def State.rmStrides (s : State) (j : RmJob) : Nat := if j.begun then s.since j.start + 1 else 0

/-- A remount that a fence or a Spillway abandons (R464). -/
def State.rmAbandonOne (s : State) (j : RmJob) : State :=
  let cur := s.physOf j.page j.sub
  let s1 := (s.rmRecord j.page j.sub cur cur j.trigger 1 (s.rmStrides j) j.faultSeq).raise 7 0x0101 1 0
  (s1.event 7 0).rmEnd j St.abortedByReset

/-- Every remount under way or waiting is abandoned, and none starts until the next reset (R464). -/
def State.rmAbandon (s : State) : State :=
  let js := s.rmJobs
  let s1 := s.setGuard { s.guard with job := none, waiting := [], noRemount := true }
  (js.foldl State.rmAbandonOne s1).rmShow

/-- The entries of a bank are gone: it is cleared, or retired without a spare (R187). -/
def State.clearBank (s : State) (b : Nat) : State :=
  { s with cam := { s.cam with entries := s.cam.entries.keep fun k _ => decide (k / 65536 ≠ b),
                               hotRef := s.cam.hotRef.filter fun k => decide (k / 65536 ≠ b) } }

/-- A remount begins at commit point d, the stride of now; a dedup bank that it takes is cleared (R187). -/
def State.rmBegin (s : State) (j : RmJob) : State :=
  let s1 := if j.steal then s.clearBank (j.slot - 95) else s
  (s1.setGuard { s1.guard with job := some { j with begun := true, start := s.now, phase := .drain } }).rmShow

/-- A remount is due: it begins at once, or waits for the one under way (R459). -/
def State.rmDue (s : State) (j : RmJob) : State :=
  match s.guard.job with
  | none => s.rmBegin j
  | some _ => s.setGuard { s.guard with waiting := s.guard.waiting ++ [j] }

/-- A remount of a unit to a spare slot. -/
def rmNew (p sub trigger faultSeq slot : Nat) (steal cmd : Bool) : RmJob :=
  { page := p, sub := sub, kind := (rmKind p).getD 0, phase := .drain, trigger := trigger, start := 0, faultSeq := faultSeq,
    slot := slot, steal := steal, cmd := cmd, begun := false }

/-- A unit of a kind, in service by its number (R460). -/
def hasSpareKind (p sub : Nat) : Bool := (rmKind p).isSome && (decide (unitsAll p = 0 ∧ sub = 0) || decide (sub < unitsServing p))

/-- The unit has peers in service (R62, R187). -/
def State.hasPeers (s : State) (p sub : Nat) : Bool :=
  if unitsAll p ≠ 0 then (List.range (unitsServing p)).any fun u => decide (u ≠ sub) && (s.unitSt p u).live
  else
    match pageRowOf p with
    | none => false
    | some r => (List.range r.count).any fun i =>
        decide (r.first + i ≠ p) && (s.pageState (r.first + i)).live
          && (decide (r.kind ≠ .cam) || decide (98 ≤ r.first + i ∧ 98 ≤ p) || decide (r.first + i < 98 ∧ p < 98))

/-- No spare is left (R62, R464): a unit with peers is RETIRED, which the map keeps (R80, R463), and its entry is done; one without
escalates to L4. -/
def State.noSpare (s : State) (e : LadEntry) (mapOk : Bool) : State :=
  let peers := s.hasPeers e.page e.sub
  let cur := s.physOf e.page e.sub
  let s1 := if (rmKind e.page).isSome then
    (s.rmRecord e.page e.sub cur cur 0 (if peers then 2 else 3) 0 e.recSeq).event 7 2 else s
  if peers then
    let s2 := s1.setUnitSt e.page e.sub .retired
    let s3 := if 98 ≤ e.page ∧ e.page < 111 then (s2.clearBank (e.page - 95)).raise 91 0x0103 2 0 else s2
    (s3.mapSave mapOk).l3Done e.page e.sub
  else s1.escalate e

/-- An L3 entry is handled: the unit is remounted, or handled under R62 (R459, R464, R187). -/
def State.handleL3 (s : State) (e : LadEntry) (mapOk : Bool) : State :=
  if s.guard.noRemount then
    let cur := s.physOf e.page e.sub
    (if (rmKind e.page).isSome then s.rmRecord e.page e.sub cur cur 0 1 0 e.recSeq else s).l3Done e.page e.sub
  else if s.rmJobs.any (fun j => decide (j.page = e.page ∧ j.sub = e.sub)) then s
  else if hasSpareKind e.page e.sub = false then s.noSpare e mapOk
  else
    match s.freeSpare e.page with
    | some u => s.rmDue (rmNew e.page e.sub 0 e.recSeq u false false)
    | none =>
      if 95 ≤ e.page ∧ e.page ≤ 97 then
        match s.dedupVictim with
        | some q => s.rmDue (rmNew e.page e.sub 0 e.recSeq q true false)
        | none => s.escalate e
      else s.noSpare e mapOk

/-- Commit points from the drain to the switch (R186, R461): the bounds, which the model takes as the times (DEDUCED,
assumption log 43). -/
def rmSpan (kind : Nat) : Nat :=
  match kind with | 0 => 3 | 1 => 17 | 6 => 2 | _ => 1

/-- The mapping words of a unit and its spare are exchanged: the replaced unit moves into the spare slot, which reads RETIRED
(R79). -/
def State.rmSwap (s : State) (j : RmJob) : State :=
  let kw := mapWord j.page j.sub
  let ks := if unitsAll j.page = 0 then R.PG_SPARE j.slot else R.UNIT_WORD j.page j.slot
  let old := s.fld kw 0 8
  let new := s.fld ks 0 8
  let s1 := ((s.putFld kw 0 8 new).putFld kw 16 8 (min 255 (s.fld kw 16 8 + 1))).putFld ks 0 8 old
  let s2 := if unitsAll j.page = 0 then s1.setPage j.slot .retired else s1.setUnitSt j.page j.slot .retired
  let s3 := if s2.unitSt j.page j.sub = .degraded ∨ s2.unitSt j.page j.sub = .init then
    (s2.putBit (R.PG_STATE j.page) 8 false).setUnitSt j.page j.sub .run else s2
  (s3.event j.page 28).rmRecord j.page j.sub old new j.trigger 0 (s.rmStrides j) j.faultSeq

/-- The switch (R461, R463): the spare serves the logical unit, counters and inventory follow, and the map is saved. -/
def State.rmSwitch (s : State) (j : RmJob) (mapOk : Bool) : State :=
  let s1 := ((s.setGuard { s.guard with job := none, candidates := s.guard.candidates.drop (j.page * 256 + j.sub) }).rmSwap j)
  let inv := R.RM_INV j.kind
  let s2 := if j.steal then s1.raise 91 0x0103 2 0
    else s1.putFld inv 16 16 (s1.fld inv 16 16 - 1)
  let s3 := ((s2.count R.RM_COUNT).count R.REMOUNTS).event 7 0 |>.event 7 1
  ((s3.mapSave mapOk).rmEnd j St.success).rmShow

/-- Units of a bank under copy have bad parity: the spare takes their entries from the authoritative copy, or leaves them EMPTY (R186). They
did not match before the switch either (R173), so the entries change at once. -/
def State.copyBad (s : State) (bank : Nat) (bad : List Nat) : State :=
  (bad.filter fun u => decide (u / 65536 = bank)).foldl (fun s u =>
    let k := camFirst bank (u % 65536)
    s.setCam k ((s.camSource k).getD { s.camAt k with st := 0 })) s

/-- Step of the commit point: the remount under way goes from drain to copy and, at its end, to the switch; one that waited for it begins
at the commit point after (R459, R461). `camBad` names units that the copy of a bank found with bad parity (R186). -/
def State.rmCommit (s : State) (mapOk : Bool) (camBad : List Nat) : State :=
  match s.guard.job with
  | none =>
    match s.guard.waiting with
    | [] => s
    | j :: rest => (s.setGuard { s.guard with waiting := rest }).rmBegin j
  | some j =>
    let s0 := if j.kind = 1 then s.copyBad (j.page - 95) camBad else s
    if rmSpan j.kind ≤ s0.since j.start then s0.rmSwitch j mapOk
    else (s0.setGuard { s0.guard with job := some { j with phase := .copy } }).rmShow

/-! ### Starts from candidates and software (R459, R486) -/

/-- A remount that is an activity of the matrix (R465): trigger 1 AUTO, 2 software. -/
def State.rmPlan (s : State) (p sub trigger : Nat) (cmd : Bool) : State :=
  match s.freeSpare p with
  | none => (if cmd then s.wrN R.RM_CMD_STATUS St.quota else s).event 7 2
  | some u =>
    let (s1, d) := s.actStart { Activity.of actRemount 0 with op := p * 256 + sub, args := [BitVec.ofNat 8 trigger] }
    if d = decRefused then (if cmd then s1.wrN R.RM_CMD_STATUS St.busyRetry else s1)
    else if d = decQueued then (if cmd then s1.wrN R.RM_CMD_STATUS (2 ^ 17) else s1)
    else
      let s2 := if cmd then s1.wrN R.RM_CMD_STATUS (2 ^ 16) else s1
      s2.rmDue (rmNew p sub trigger (s.guard.candidates.getD (p * 256 + sub) 0) u false cmd)

/-- A queued remount starts (R467). -/
def State.rmActRun (s : State) (a : Activity) : State :=
  let p := a.op / 256
  let sub := a.op % 256
  let trigger := a.args.headD 0 |>.toNat
  let cmd := decide (trigger = 2)
  match s.freeSpare p with
  | none =>
    ((if cmd then s.wrN R.RM_CMD_STATUS St.quota else s).event 7 2).actEnd actRemount 0 fun x => decide (x.op = a.op)
  | some u => (if cmd then s.wrN R.RM_CMD_STATUS 0 else s).rmDue
      (rmNew p sub trigger (s.guard.candidates.getD a.op 0) u false cmd)

/-- REMOUNT_START (R459): a DEGRADED candidate is taken up while RM_CTRL.AUTO = 1, once the ladder entry that made it one is done. -/
def execRemountStart (p sub : Nat) (s : State) : Out :=
  let key := p * 256 + sub
  let being := s.guard.ladder.any fun e => decide (e.page = p ∧ e.sub = sub ∧ 2 ≤ e.level)
  if s.guard.noRemount = false ∧ s.bit R.RM_CTRL 0 ∧ s.guard.candidates.has key ∧ s.unitSt p sub = .degraded ∧ being = false
      ∧ hasSpareKind p sub ∧ !(s.rmJobs.any fun j => decide (j.page = p ∧ j.sub = sub))
      ∧ !(s.guard.acts.any fun a => decide (a.code = actRemount ∧ a.op = key)) ∧ (s.freeSpare p).isSome then
    .next (s.rmPlan p sub 1 false)
  else .next s

/-- RM_CMD (R486): a planned remount of a named unit. -/
def execRmCmd (p sub : Nat) (s : State) : Out :=
  if s.bit R.RM_CMD_STATUS 16 then .next (s.writeDiscarded 7)
  else if hasSpareKind p sub = false ∨ (s.unitSt p sub).live = false
      ∨ s.rmJobs.any (fun j => decide (j.page = p ∧ j.sub = sub)) then .next (s.wrN R.RM_CMD_STATUS St.invalidField)
  else if s.guard.noRemount then
    let cur := s.physOf p sub
    .next (((s.rmRecord p sub cur cur 2 1 0 0).event 7 0).wrN R.RM_CMD_STATUS St.abortedByReset)
  else .next (s.rmPlan p sub 2 true)

/-! ### SRAM rows (R462) -/

/-- Rows of a macro that have been repaired. -/
def State.rowsOf (s : State) (m : Nat) : Nat :=
  (s.guard.rows.filter fun r => decide (r / 65536 = m)).length + (s.guard.rowJob.filter fun j => decide (j.1 = m)).length

/-- SRAM_ROW_REPAIR (R462): a row is copied to a spare row of its macro; one without a spare row captures SRAM_ROWS_OUT. -/
def execSramRowRepair (mac row trigger : Nat) (s : State) : Out :=
  if s.bit R.RM_CTRL 1 = false ∨ s.guard.noRemount ∨ mac * 65536 + row ∈ s.guard.rows
      ∨ s.guard.rowJob.any (fun j => decide (j.1 = mac ∧ j.2.1 = row)) then .next s
  else if 2 ≤ s.rowsOf mac then .next (s.raise 7 0x0100 2 (mac % 256))
  else .next (s.setGuard { s.guard with rowJob := s.guard.rowJob ++ [(mac, row, s.rowsOf mac, trigger)] })

/-- One row is redirected, and its SRAM_ROW record written (R462, R472). -/
def State.rowSwitch (s : State) (mapOk : Bool) (j : Nat × Nat × Nat × Nat) : State :=
  let (m, row, spare, trigger) := j
  let s1 := s.setGuard { s.guard with rows := (m * 65536 + row) :: s.guard.rows }
  let s2 := (s1.putFld R.RM_SRAM_ROWS 0 16 s1.guard.rows.length).putFld R.RM_SRAM_ROWS 16 16
    ((s1.guard.rows.map fun r => r / 65536).eraseDups.filter fun m => decide (2 ≤ s1.rowsOf m)).length
  let s3 := s2.putFld (R.RM_INV 7) 16 16 (s2.fld (R.RM_INV 7) 16 16 - 1)
  let s4 := s3.record 0x0004 0 7 (leBytes 2 m ++ leBytes 2 row ++ leBytes 1 spare ++ leBytes 1 trigger ++ leBytes 2 0)
  s4.mapSave mapOk

/-- Step of the commit point: rows copied over the last stride are redirected (R462). -/
def State.rowCommit (s : State) (mapOk : Bool) : State :=
  let js := s.guard.rowJob
  js.foldl (fun s j => s.rowSwitch mapOk j) (s.setGuard { s.guard with rowJob := [] })

/-! ### The ladder at a commit point (R453 to R456) -/

/-- The unit faults at L2 (R456). -/
def unitFault (p code : Nat) : Bool :=
  decide (code = 0x0001 ∨ code = 0x0005) || decide (95 ≤ p ∧ p ≤ 111 ∧ code = 0x0104) || decide (p = 90 ∧ code = 0x0100)
    || decide (((112 ≤ p ∧ p ≤ 135) ∨ p = 151) ∧ code = 0x0103) || decide (p = 150 ∧ code = 0x0101)
    || decide (p = 10 ∧ code = 0x0103)

/-- An entry is done at this commit point: L0 and L1 after the stride of detection, L2 when its flush has ended (R453). -/
def State.entryDone (s : State) (e : LadEntry) : Bool :=
  (decide (e.level ≤ 1) && decide (e.first ≠ s.now)) || (decide (e.level = 2 ∧ e.step = 1) && decide (e.flushTo ≤ s.flushedTo))

/-- The better of two entries: the higher level, then the earlier (R455); the queue is in order of arrival. -/
def betterEntry (a b : LadEntry) : LadEntry := if a.level < b.level then b else a

/-- The entry to handle: highest level, earliest. -/
def topEntry : List LadEntry → Option LadEntry
  | [] => none
  | e :: es => some (es.foldl betterEntry e)

/-- Is this the same entry of the queue? -/
def LadEntry.same (a b : LadEntry) : Bool :=
  decide (a.page = b.page ∧ a.sub = b.sub ∧ a.code = b.code ∧ a.first = b.first ∧ a.recSeq = b.recSeq)

/-- An entry of the queue takes a new value. -/
def State.setEntry (s : State) (e : LadEntry) (f : LadEntry → LadEntry) : State :=
  s.setLadder (s.guard.ladder.map fun x => if x.same e then f x else x)

/-- An L2 fault that is a unit fault degrades its unit or page, which becomes a candidate (R62, R456). -/
def State.degrade (s : State) (e : LadEntry) : State :=
  if unitFault e.page e.code = false ∨ (unitsAll e.page ≠ 0 ∧ unitsAll e.page ≤ e.sub) then s
  else
    let sub := if unitsAll e.page = 0 then 0 else e.sub
    let s1 := if s.unitSt e.page sub = .run then s.setUnitSt e.page sub .degraded else s
    (s1.setGuard { s1.guard with candidates := s1.guard.candidates.put (e.page * 256 + sub) e.recSeq }).rmShow

/-- The first handling step of an entry (R455, R456, R459). -/
def State.handleStep (s : State) (e : LadEntry) (mapOk : Bool) : State :=
  let s1 := s.setEntry e fun x => { x with step := 1 }
  if e.level = 2 then s1.degrade e else s1.handleL3 e mapOk

/-- The remount of an entry's unit has been begun: it is not preempted between its steps (R455). -/
def State.remounting (s : State) (e : LadEntry) : Bool :=
  s.guard.job.elim false fun j => decide (j.page = e.page ∧ j.sub = e.sub)

/-- Step of the commit point: entries that are done leave, a higher entry preempts, and the entry being handled takes its
next step (R455). -/
def State.ladderHandle (s : State) (mapOk : Bool) : State :=
  let s0 := s.setLadder (s.guard.ladder.filter fun e => !s.entryDone e)
  let cur := s0.guard.ladder.find? fun e => decide (e.st = .handling)
  let best := topEntry (s0.guard.ladder.filter fun e => decide (2 ≤ e.level ∧ e.st ≠ .handling))
  let s1 := match cur, best with
    | some c, some b =>
      if c.level < b.level ∧ s0.remounting c = false then
        (s0.setEntry c fun x => { x with st := .preempted }).setEntry b fun x => { x with st := .handling }
      else s0
    | none, some b => s0.setEntry b fun x => { x with st := .handling }
    | _, none => s0
  match s1.guard.ladder.find? fun e => decide (e.st = .handling) with
  | some e => if e.step = 0 then s1.handleStep e mapOk else s1
  | none => s1

/-- GD_LADDER (R484). -/
def State.ladderWord (s : State) : Nat :=
  let h := s.guard.ladder.find? fun e => decide (e.st = .handling)
  s.guard.ladder.length + (h.elim 7 LadEntry.level) * 2 ^ 8
    + (s.guard.ladder.any fun e => decide (e.st = .preempted)).toNat * 2 ^ 11

/-- GD_Q_ENTRY0 of an entry (R484). -/
def LadEntry.word0 (e : LadEntry) : Nat :=
  e.code + e.sub % 256 * 2 ^ 16 + e.level * 2 ^ 24
    + (match e.st with | .pending => 1 | .handling => 2 | .preempted => 3) * 2 ^ 27 + e.escalated.toNat * 2 ^ 29

/-! ### Cancelling a queued activity (R467) -/

/-- The status register of an activity's command takes ABORTED_BY_HOST (R467, R468). -/
def State.cancelled (s : State) (code : Nat) : State :=
  if code = 2 ∨ code = 3 ∨ code = 4 then (s.wrN R.FTL_CMD_STATUS St.abortedByHost).event 137 0
  else if code = 6 ∨ code = 7 then (s.wrN R.SP_CMD_STATUS St.abortedByHost).event 141 0
  else if code = 8 then s.wrN R.RP_CMD_STATUS St.abortedByHost
  else if code = 9 then s.wrN R.TD_CMD_STATUS St.abortedByHost
  else if code = 10 then s.wrN R.RM_CMD_STATUS St.abortedByHost
  else s

/-- GD_ACT_CANCEL (R467): a queued activity is removed, and its command completes with ABORTED_BY_HOST. -/
def execGdActCancel (code pool : Nat) (s : State) : Out :=
  match s.guard.acts.find? fun a => decide (a.code = code ∧ (a.pool = pool ∨ 8 ≤ code) ∧ a.st = .queued) with
  | none => .next s
  | some a => .next ((s.setActs (s.guard.acts.erase a)).cancelled code)

end Sys2Proof.Machine
end

