-- ==== Sys2Proof/Machine/Dram.lean ====
section
/-! DEFINITION. Head DRAM: refresh, frequency change, drift tracking, errors, scrub and repair (R408 to R419, R427, R428).
What a read's uncorrectable error does to its requester is in DramRead. -/

namespace Sys2Proof.Machine

/-- The page of a channel. -/
def dcPage (ch : Nat) : Nat := 142 + ch

/-- A channel. -/
def State.chan (s : State) (ch : Nat) : Channel := s.mem.channels.getD ch Channel.fresh

/-- A channel takes a value. -/
def State.setChan (s : State) (ch : Nat) (c : Channel) : State :=
  { s with mem := { s.mem with channels := s.mem.channels.put ch c } }

/-! ### Requests of a channel (R403 to R407) -/

/-- The channel of a DRAM address: A[10:8] XOR A[19:17] XOR A[28:26] (R403). -/
def dcChannel (a : Nat) : Nat := (a / 2 ^ 8 % 8 ^^^ a / 2 ^ 17 % 8) ^^^ a / 2 ^ 26 % 8

/-- The latency target of a port in ns, and its class: 0 RT, 1 ST, 2 BK (R404). -/
def State.dcTarget (s : State) (port : Nat) : Nat := s.fld (R.DC_PORT 0 port) 0 16
def State.dcClass (s : State) (port : Nat) : Nat := s.fld (R.DC_PORT 0 port) 16 2

/-- The urgency of a request of age `a` against its port's target `t` (R406). -/
def urgency (a t : Nat) : Nat := if 2 * a < t then 0 else if a < t then 1 else if a < 2 * t then 2 else 3

/-- The number of a bank of a channel. -/
def DramReq.bankKey (r : DramReq) : Nat := r.rank * 32 + r.bank

/-- A request's rank in the order of R406, the least first: urgency, class, open row; the order of arrival decides the rest. -/
def State.dcKey (s : State) (ch now : Nat) (r : DramReq) : Nat :=
  ((3 - urgency (now - r.arrived) (s.dcTarget r.port)) * 4 + s.dcClass r.port) * 2
    + (if (s.chan ch).openRows.find r.bankKey = some r.row then 0 else 1)

/-- The request that a channel picks from a list in order of arrival (R406); none goes before an earlier one for its address (R405). -/
def State.dcPick (s : State) (ch now : Nat) (l : List DramReq) : Option DramReq :=
  l.foldl (fun b r =>
    match b with
    | none => some r
    | some x => if s.dcKey ch now r < s.dcKey ch now x ∧ (l.takeWhile fun y => decide (y ≠ r)).all (fun y => decide (y.addr / 64 ≠ r.addr / 64))
        then some r else some x) none

/-- The write queue is drained: it holds 48 entries or an RT write at U1 or above, or no read is waiting; a burst that has begun goes on until
the queue is empty (R406; DESIGN CHOICE, assumption log 97). A write waits for an earlier read of its address (R405). -/
def State.dcDrains (s : State) (ch now : Nat) : Bool :=
  let c := s.chan ch
  decide (c.writes ≠ []) && (c.draining || decide (48 ≤ c.writes.length) || decide (c.queue = [])
    || c.writes.any fun r => decide (s.dcClass r.port = 0 ∧ 1 ≤ urgency (now - r.arrived) (s.dcTarget r.port)))

/-- DC_LAT_MAX follows the completion of an RT request (R407). -/
def State.dcLatency (s : State) (ch now : Nat) (r : DramReq) : State :=
  if s.dcClass r.port = 0 then s.highWater (R.DC_LAT_MAX ch) (min (now - r.arrived) 65535) else s

/-- A request is issued: its row is open from then on. -/
def State.dcIssue (s : State) (ch now : Nat) (r : DramReq) : State :=
  let c := s.chan ch
  (s.setChan ch { c with queue := c.queue.filter fun x => decide (x ≠ r), writes := c.writes.filter fun x => decide (x ≠ r),
                         draining := r.write && (c.writes.filter fun x => decide (x ≠ r)) != [],
                         openRows := c.openRows.put r.bankKey r.row }).dcLatency ch now r

/-- The next command of a channel (R406): a write of a burst, or a read, which is answered. A channel that changes its frequency issues none
(R411). -/
def State.dcNext (s : State) (ch now : Nat) : State × Option DramReq :=
  let c := s.chan ch
  if s.bit (R.DC_STATUS ch) 3 && (match c.freq with | some (.running _ _) => true | _ => false) then (s, none)
  else
    let ws := c.writes.filter fun w => !c.queue.any fun r => decide (r.addr / 64 = w.addr / 64 ∧ r.arrived < w.arrived)
    match (if s.dcDrains ch now then s.dcPick ch now ws else none) with
    | some w => (s.dcIssue ch now w, none)
    | none =>
      match s.dcPick ch now c.queue with
      | some r => (s.dcIssue ch now r, some r)
      | none => (s, none)

/-- Commands of a channel up to the next read, of at most `n`. -/
def State.dcRun (s : State) (ch now : Nat) : Nat → State × Option DramReq
  | 0 => (s, none)
  | n + 1 => match s.dcNext ch now with
    | (s1, some r) => (s1, some r)
    | (s1, none) => s1.dcRun ch now n

/-- A request enters its queue where that has room, else it is held at its port (R406). A read of what the write queue holds is answered from
there (R405). -/
def Channel.enter (c : Channel) (r : DramReq) : Channel :=
  if r.write then (if c.writes.length < 64 then { c with writes := c.writes ++ [r] } else { c with held := c.held ++ [r] })
  else if c.writes.any fun w => decide (w.addr / 64 = r.addr / 64) then c
  else if c.queue.length < 128 then { c with queue := c.queue ++ [r] } else { c with held := c.held ++ [r] }

/-- Requests arrive at a channel; those held before them enter first. -/
def Channel.arrive (c : Channel) (l : List DramReq) : Channel := (c.held ++ l).foldl Channel.enter { c with held := [] }

/-- Requests arrive, and the channel issues commands up to the next read, which is answered: the read that returns at `now` (R406). -/
def State.dcServe (s : State) (ch now : Nat) (arrived : List DramReq) : State × Option DramReq :=
  let s1 := s.setChan ch ((s.chan ch).arrive arrived)
  s1.dcRun ch now ((s1.chan ch).writes.length + 1)

/-! ### Refresh (R408, R409) -/

/-- RT requests wait for a bank (R408). -/
def State.rtWaits (s : State) (ch k : Nat) : Bool :=
  ((s.chan ch).queue ++ (s.chan ch).writes).any fun r => decide (r.bankKey = k ∧ s.dcClass r.port = 0)

/-- SAME_BANK_REFRESH (R408): a bank's refresh falls due; it is postponed while RT requests wait, within the count that JEDEC
allows. A refresh closes the bank's row. -/
def execSameBankRefresh (ch rank bank : Nat) (s : State) : Out :=
  let c := s.chan ch
  let k := rank * 32 + bank
  let n := c.postponed.getD k 0
  .next (s.setChan ch (if s.rtWaits ch k ∧ n < Config.refreshPostponeMax then { c with postponed := c.postponed.put k (n + 1) }
    else { c with postponed := c.postponed.drop k, openRows := c.openRows.drop k }))

/-- NEIGHBOUR_REFRESH (R409): a sampled activate brings DRFM or RFMsb to its bank. -/
def execNeighbourRefresh (ch : Nat) (s : State) : Out :=
  .next (if s.bit (R.DC_CTRL ch) 1 then s.count (R.DC_DRFM ch) else s)

/-- RFM_REQUEST (R409): a refresh-management request of the DIMM is honoured, and counts. -/
def execRfmRequest (ch : Nat) (s : State) : Out := .next (s.count (R.DC_DRFM ch))

/-! ### Frequency change (R410 to R412) -/

/-- GO would be accepted for the channels `chs` (R412). -/
def State.freqMay (s : State) (chs : List Nat) : Bool :=
  !s.bit R.CIST_STATUS 3 && !((List.range 8).any fun c => s.bit (R.DC_STATUS c) 3) && !chs.any fun c => s.bit (R.DC_STATUS c) 4

/-- A change of a channel is asked for: it starts at the next commit point (R411). -/
def State.freqAsk (s : State) (ch speed : Nat) : State :=
  (s.setChan ch { s.chan ch with freq := some (.due speed) }).putBit (R.DC_STATUS ch) 3 true

/-- DC_FREQ_GO (R411, R412): with ALL in DDRC0, the channels change in order. -/
def execDcFreqGo (ch speed : Nat) (all : Bool) (s : State) : Out :=
  let every := all && decide (ch = 0)
  if s.refuses (dcPage ch) ∨ s.freqMay (if every then List.range 8 else [ch]) = false then .next (s.writeDiscarded (dcPage ch))
  else
    let s1 := s.freqAsk ch (speed % 4)
    .next (if every then
      { s1 with mem := { s1.mem with freqAll := ((List.range 8).drop 1).map fun c => (c, speed % 4) } } else s1)

/-- The next channel of an ALL change is asked for (R411). -/
def State.freqNext (s : State) : State :=
  match s.mem.freqAll with
  | [] => s
  | (c, sp) :: rest => ({ s with mem := { s.mem with freqAll := rest } }).freqAsk c sp

/-- FREQ_CHANGE_DONE (R411): at g + 8 the inactive set is active, or the channel is back on its old set. -/
def execFreqChangeDone (ch : Nat) (ok : Bool) (s : State) : Out :=
  match (s.chan ch).freq with
  | some (.running speed start) =>
    if s.since start < 8 then .next s
    else
      let c := s.chan ch
      let s1 := s.putBit (R.DC_STATUS ch) 3 false
      if ok then
        let s2 := s1.setChan ch { c with freq := none, drift := [], driftNext := [] }
        .next ((((s2.putFld (R.DC_STATUS ch) 0 2 speed).putBit (R.DC_STATUS ch) 2 (!s2.bit (R.DC_STATUS ch) 2)).event
          (dcPage ch) 0).freqNext)
      else
        .next ((((s1.setChan ch { c with freq := none }).event (dcPage ch) 1).raise (dcPage ch) 0x0105 1 0).freqNext)
  | _ => .next s

/-- Step of the commit point: a change asked for starts, and a retrain that DRIFT_LIMIT asked for once GO would be accepted
(R411, R414). -/
def State.freqCommit (s : State) : State :=
  let s1 := (List.range 8).foldl (fun s ch =>
    match (s.chan ch).freq with
    | some (.due sp) => s.setChan ch { s.chan ch with freq := some (.running sp s.now), openRows := [] }
    | _ => s) s
  match s1.mem.channels.first fun _ c => c.retrain with
  | some (ch, c) =>
    if s1.freqMay [ch] then
      (s1.setChan ch { c with retrain := false, freq := some (.running (s1.fld (R.DC_STATUS ch) 0 2) s1.now) }).putBit
        (R.DC_STATUS ch) 3 true
    else s1
  | none => s1

/-! ### Drift tracking (R413, R414) -/

/-- One step of a delay from its counts (R413). -/
def driftStep (early late : Nat) : Int :=
  if early + late < 1024 then 0 else if late * 9 < early * 8 then 1 else if early * 9 < late * 8 then -1 else 0

/-- DRIFT_EXAMINE (R413): DRIFT_INT strides have passed; `counts` gives rank, nibble, EARLY and LATE. -/
def execDriftExamine (ch : Nat) (counts : List (Nat × Nat × Nat × Nat)) (s : State) : Out :=
  if s.bit (R.DC_CTRL ch) 2 = false then .next s
  else
    let c := s.chan ch
    .next (s.setChan ch { c with driftNext := counts.foldl (fun m x =>
      let d := driftStep x.2.2.1 x.2.2.2
      if d = 0 then m else m.put (x.1 * 32 + x.2.1) d) c.driftNext })

/-- One delay takes its step; past DRIFT_LIMIT it captures DRIFT_LIMIT and asks for a retrain (R413, R414). -/
def State.driftTake (s : State) (ch : Nat) (k : Nat) (d : Int) : State :=
  let c := s.chan ch
  let v := c.drift.getD k 0 + d
  let s1 := (s.setChan ch { c with drift := c.drift.put k v }).count (R.DC_DRIFT_STEPS ch)
  if (s.fld (R.DC_DRIFT ch) 16 8 : Int) < v.natAbs then
    ((s1.setChan ch { s1.chan ch with retrain := true }).event (dcPage ch) 4).raise (dcPage ch) 0x0106 2 (k / 32)
  else s1

/-- Step of the commit point: new delays take effect (R413). -/
def State.driftApply (s : State) : State :=
  s.mem.channels.foldl (fun s cc =>
    let s1 := s.setChan cc.1 { s.chan cc.1 with driftNext := [] }
    cc.2.driftNext.foldl (fun s kd => s.driftTake cc.1 kd.1 kd.2) s1) s

/-- WRITE_TIMING_TRACK (R413): 250,000 strides have passed; the steps that the DQS oscillator brought count. -/
def execWriteTimingTrack (ch steps : Nat) (s : State) : Out := .next (s.countBy (R.DC_DRIFT_STEPS ch) steps)

/-! ### Errors (R415, R417 to R419) -/

/-- A 64-byte access of DRAM: where it lies and the error its code shows. -/
def State.dramAddr (s : State) (ch addr : Nat) : State := s.wr64 (R.DC_CE_ADDR ch) (BitVec.ofNat 64 addr)

/-- The corrected errors of a row point at one device four times within 24 calendar hours (R418). -/
def pprDue (errs : List (Nat × Nat)) (now : Nat) : Bool :=
  let day := errs.filter fun e => decide (now < e.2 + 86400)
  decide (4 ≤ day.length) && day.all fun e => decide (e.1 = (day.headD (0, 0)).1)

/-- The number of a row in a channel. -/
def rowKey (rank bank row : Nat) : Nat := rank * 2 ^ 23 + bank * 2 ^ 18 + row

/-- A corrected error (R415, R418, R419): `loc` is rank, subchannel, device, bank and row; `whole` says that the code
attributes it to a whole device. -/
def State.dramCe (s : State) (ch addr : Nat) (loc : Nat × Nat × Nat × Nat × Nat) (whole injected : Bool) : State :=
  let (rank, sub, dev, bank, row) := loc
  let c := s.chan ch
  let k := rowKey rank bank row
  let re := c.rows.getD k { errs := [], queued := false }
  let errs := (dev, s.calSec) :: (re.errs.filter fun e => decide (s.calSec < e.2 + 86400))
  let hour := s.calSec / 3600
  let (h, n) := c.rankErr.getD rank (hour, 0)
  let dk := rank * 64 + sub % 2 * 32 + dev
  let devs := c.devErr.getD dk []
  let c1 := { c with
    rows := c.rows.put k { errs := errs, queued := re.queued || (s.bit (R.DC_CTRL ch) 3 && pprDue errs s.calSec) },
    rankErr := c.rankErr.put rank (hour, if h = hour then n + 1 else 1),
    devErr := if whole ∧ k ∉ devs then c.devErr.put dk (k :: devs) else c.devErr }
  ((((s.setChan ch c1).count (R.DC_CE_COUNT ch)).wrN (R.DC_CE_LAST ch)
    (rank % 8 + sub % 2 * 2 ^ 3 + dev % 16 * 2 ^ 4 + bank % 32 * 2 ^ 8 + row % 2 ^ 18 * 2 ^ 13)).dramAddr ch addr).raise
    (dcPage ch) 0x0100 1 rank injected

/-- SCRUB_READ (R417): one address is read through port 10 and, where it was corrected, written back; `uncorrectable` is captured at L2
and its owner recovers when it next reads. `progress` is in ‰ of the pass. An armed injection for port 10 makes it either (R427). -/
def execScrubRead (ch addr : Nat) (loc : Nat × Nat × Nat × Nat × Nat) (corrected whole uncorrectable : Bool) (progress : Nat)
    (passEnd : Bool) (s : State) : Out :=
  if s.bit (R.DC_CTRL ch) 0 = false then .next s
  else
    let (sc, ce) := s.inject (dcPage ch) 0x01 10
    let (su, ue) := sc.inject (dcPage ch) 0x02 10
    let s1 := su.putFld (R.DC_SCRUB_PROGRESS ch) 0 10 progress
    let s2 := if passEnd then s1.event (dcPage ch) 3 else s1
    .next (if ue ∨ uncorrectable then
        ((((s2.count (R.DC_UE_COUNT ch)).dramAddr ch addr).event (dcPage ch) 6).raise (dcPage ch) 0x0101 2 loc.1 ue)
      else if ce ∨ corrected then s2.dramCe ch addr loc whole ce
      else s2)

/-- A DRAM_REPAIR record (R472): KIND 0 soft PPR, 1 hard PPR, 2 rank spared. -/
def State.dramRepair (s : State) (ch rank bank kind row : Nat) : State :=
  s.record 0x0005 0 (dcPage ch) (leBytes 1 ch ++ leBytes 1 rank ++ leBytes 1 bank ++ leBytes 1 kind ++ leBytes 4 row)

/-- PPR_REPAIR (R418): a row queued for soft repair has been repaired. -/
def execPprRepair (ch rank bank row : Nat) (s : State) : Out :=
  let c := s.chan ch
  let k := rowKey rank bank row
  match c.rows.find k with
  | some re =>
    if re.queued ∧ s.bit (R.DC_CTRL ch) 3 then
      let s1 := s.setChan ch { c with rows := c.rows.drop k }
      let s2 := { s1 with mem := { s1.mem with hardDue := s1.mem.hardDue ++ [(ch, k)] } }
      .next (((s2.putFld (R.DC_PPR ch) 0 8 (min 255 (s2.fld (R.DC_PPR ch) 0 8 + 1))).dramRepair ch rank bank 0 row).event
        (dcPage ch) 5)
    else .next s
  | none => .next s

/-- A rank is a sparing candidate (R419). -/
def State.spareDue (s : State) (ch rank : Nat) : Bool :=
  let c := s.chan ch
  let (h, n) := c.rankErr.getD rank (0, 0)
  decide (h = s.calSec / 3600 ∧ s.fld (R.DC_SPARE_THRESH ch) 0 16 < n) || c.devErr.any fun d => decide (d.1 / 64 = rank ∧ 2 ≤ d.2.length)

/-- RANK_SPARE_START (R419, R464): SPARE_TRIGGER is captured and the rank is copied to the spare. -/
def execRankSpareStart (ch rank : Nat) (s : State) : Out :=
  if s.spareDue ch rank = false ∨ s.bit (R.DC_STATUS ch) 12 = false ∨ s.bit (R.DC_STATUS ch) 4 ∨ s.bit (R.DC_STATUS ch) 5
      ∨ s.guard.noRemount then .next s
  else
    let s1 := s.raise (dcPage ch) 0x0104 2 rank
    let c := s1.chan ch
    .next ((s1.setChan ch { c with copy := some { rank := rank, start := s.now, faultSeq := s1.stud.lastSeq } }).putBit
      (R.DC_STATUS ch) 4 true)

/-- The REMOUNT record of a rank (R473). -/
def State.rankRecord (s : State) (ch : Nat) (k : RankCopy) (new result : Nat) : State :=
  s.record 0x0003 0 (dcPage ch) (remountPayload 10 k.rank k.rank new 1 result (s.since k.start) k.faultSeq)

/-- RANK_SPARE_SWITCH (R419, R460): the copy has ended and the spare serves the rank. -/
def execRankSpareSwitch (ch : Nat) (s : State) : Out :=
  match (s.chan ch).copy with
  | none => .next s
  | some k =>
    let s1 := s.setChan ch { s.chan ch with copy := none }
    let st := R.DC_STATUS ch
    let s2 := (((s1.putBit st 4 false).putBit st 5 true).putFld st 6 3 k.rank).putBit st 12 false
    let s3 := s2.putFld (R.RM_INV 10) 16 16 (s2.fld (R.RM_INV 10) 16 16 - 1)
    let s4 := (s3.rankRecord ch k (s3.fld st 9 3) 0).dramRepair ch k.rank 0 2 0
    .next (((((s4.count R.RM_COUNT).count R.REMOUNTS).event 7 0).event 7 1).event (dcPage ch) 2)

/-- A fence or a Spillway abandons the copy of a rank (R464). -/
def State.rankAbandon (s : State) : State :=
  s.mem.channels.foldl (fun s cc =>
    match cc.2.copy with
    | none => s
    | some k =>
      let s1 := (s.setChan cc.1 { s.chan cc.1 with copy := none }).putBit (R.DC_STATUS cc.1) 4 false
      ((s1.rankRecord cc.1 k k.rank 1).event 7 0).raise 7 0x0101 1 0) s

end Sys2Proof.Machine
end

