-- ==== Sys2Proof/Machine/Kde.lean ====
section
/-! DEFINITION. The keyed digest engine and the key slots (R431 to R449). -/

namespace Sys2Proof.Machine

/-! ### Key slots (R446 to R448) -/

/-- A key slot; one that is not listed is EMPTY. -/
def State.keySlot (s : State) (n : Nat) : KeySlot := s.mem.keys.getD n { st := .empty, key := [], use := 0 }

/-- A key slot takes a value, and VALID_MAP and LOCK_MAP follow (R451). -/
def State.setKeySlot (s : State) (n : Nat) (k : KeySlot) : State :=
  let keys := if k.st = .empty then s.mem.keys.drop n else s.mem.keys.put n k
  let s1 := { s with mem := { s.mem with keys := keys } }
  let b := BitVec.ofNat 64 (2 ^ n)
  let vm := s1.rd64 R.KS_VALID_MAP
  let lm := s1.rd64 R.KS_LOCK_MAP
  (s1.wr64 R.KS_VALID_MAP (if k.st = .empty then vm &&& ~~~b else vm ||| b)).wr64 R.KS_LOCK_MAP
    (if k.st = .locked then lm ||| b else lm &&& ~~~b)

/-- KCV of a slot: the first 4 bytes of HMAC-SHA-256 under its key over 32 zero bytes (R448). -/
def KeySlot.kcv (k : KeySlot) : Nat :=
  if k.st = .empty then 0 else ofLeBytes ((hmacSha256 k.key (List.replicate 32 0)).take 4)

/-- KS_STATE of a slot (R451). -/
def KeySlot.word (k : KeySlot) : Nat := k.st.code + k.key.length * 2 ^ 8 + k.use * 2 ^ 16

/-- Latched KDE_MODE: HMAC, and its key slot (R450). -/
def KdeSession.usesSlot (x : KdeSession) (n : Nat) : Bool := decide (x.mode / 4 % 2 = 1 ∧ x.mode / 32 % 64 = n)

/-- A session or context that names a slot is marked KEY_GONE (R441). -/
def State.keyGone (s : State) (n : Nat) : State :=
  let k := s.mem.kde
  let live := s.bit R.KDE_STATUS 1 && k.session.usesSlot n && !k.finishing
  let s1 := { s with mem := { s.mem with kde := { k with
    session := if live then { k.session with keyGone := true } else k.session,
    ctxs := k.ctxs.mapVals fun _ c => if c.usesSlot n then { c with keyGone := true } else c } } }
  if live then s1.putBit R.KDE_STATUS 4 true else s1

/-- A slot is zeroised: no key, STATE EMPTY, USE 0 (R447). -/
def State.zeroise (s : State) (n : Nat) : State :=
  ((s.setKeySlot n { st := .empty, key := [], use := 0 }).keyGone n).event 11 1

/-- The slot is named in RN_KEY (R447). -/
def State.slotInUse (s : State) (n : Nat) : Bool :=
  decide (s.fld R.RN_KEY 0 6 = n) || (s.bit R.RN_KEY 16 && decide (s.fld R.RN_KEY 8 6 = n))

/-- A slot command ends with a result: BUSY clears (R447). -/
def State.ksEnd (s : State) (result : Nat) : State := (s.wrN R.KS_CMD_STATUS result).event 11 0

/-- A slot command is refused with SLOT_LOCKED or IN_USE, which are captured (R447, R452). -/
def State.ksRefuse (s : State) (code slot : Nat) : State := (s.ksEnd code).raise 11 code 0 slot

/-- A slot command takes effect (R447). -/
def State.ksTake (s : State) (c : KsCmd) : State :=
  let k := s.keySlot c.slot
  match c.op with
  | 1 =>
    if k.st = .locked then s.ksRefuse 0x0100 c.slot
    else if c.len < 16 ∨ 64 < c.len then s.ksEnd St.invalidField
    else ((s.setKeySlot c.slot { st := .valid, key := c.key, use := c.use }).keyGone c.slot).ksEnd 0
  | 2 => if k.st = .valid then (s.setKeySlot c.slot { k with st := .locked }).ksEnd 0 else s.ksRefuse 0x0100 c.slot
  | 3 => if s.slotInUse c.slot ∧ c.force = false then s.ksRefuse 0x0101 c.slot else (s.zeroise c.slot).ksEnd 0
  | _ =>
    if k.st = .valid ∨ (k.st = .locked ∧ (List.range 4).all fun i => decide (c.use / 2 ^ i % 2 ≤ k.use / 2 ^ i % 2)) then
      (s.setKeySlot c.slot { k with use := c.use }).ksEnd 0
    else s.ksRefuse 0x0100 c.slot

/-- Step of the commit point: the slot command that waits is checked and applied or refused, and its pending store is
zeroised (R447). -/
def State.ksApply (s : State) : State :=
  match s.mem.ksCmd with
  | none => s
  | some c => { s with mem := { s.mem with ksCmd := none } }.ksTake c

/-- The bytes of KS_DATA. -/
def State.ksData (s : State) : List Byte := (List.range 16).flatMap fun i => leBytes 4 (s.rdN (R.KS_DATA i))

/-- KS_DATA0 to KS_DATA15 are cleared. -/
def State.ksClear (s : State) : State := (List.range 16).foldl (fun s i => s.wrN (R.KS_DATA i) 0) s

/-- A write of KS_CMD (R447): slot and, for LOAD, key, length and USE are latched; KS_DATA is cleared, accepted or not. -/
def State.ksWrite (s : State) (op : Nat) (force : Bool) : State :=
  if s.bit R.KS_CMD_STATUS 16 then (s.ksClear).writeDiscarded 11
  else
    let len := s.fld R.KS_LEN 0 7
    let c : KsCmd := { op := op, slot := s.fld R.KS_SEL 0 6, force := force,
                       key := if op = 1 then s.ksData.take len else [], len := len, use := s.fld R.KS_USE_ARG 0 4 }
    (({ s with mem := { s.mem with ksCmd := some c } }).wrN R.KS_CMD_STATUS (2 ^ 16)).ksClear

/-- KS_LOAD (R447). -/
def execKsLoad (s : State) : Out := .next (s.ksWrite 1 false)

/-- KS_LOCK (R447). -/
def execKsLock (s : State) : Out := .next (s.ksWrite 2 false)

/-- KS_ZEROISE (R447). -/
def execKsZeroise (force : Bool) (s : State) : Out := .next (s.ksWrite 3 force)

/-- KS_SET_USE (R447). -/
def execKsSetUse (s : State) : Out := .next (s.ksWrite 4 false)

/-- KS_INVALID_OP (R447): an OP that is not listed is refused at once. -/
def execKsInvalidOp (s : State) : Out :=
  .next (if s.bit R.KS_CMD_STATUS 16 then (s.ksClear).writeDiscarded 11
    else (s.ksClear).wrN R.KS_CMD_STATUS St.invalidField)

/-- KS_SLOT_PARITY (R448): a parity error zeroises the slot and captures SLOT_PARITY. -/
def execKsSlotParity (slot : Nat) (s : State) : Out := .next ((s.zeroise slot).raise 11 0x0102 2 slot)

/-! ### Ownership (R431 to R434) -/

/-- The ID of a claimant: bits [7:6] are its path: 0 PF0, 1 service port, 2 internal (R431). -/
def kdeId (path id : Nat) : Nat := path % 4 * 64 + id % 64

/-- The engine is OWNED, and its owner (R450). -/
def State.kdeOwned (s : State) : Bool := decide (s.fld R.KDE_OWNER 8 2 = 1)
def State.kdeOwner (s : State) : Nat := s.fld R.KDE_OWNER 0 8

/-- The engine's own state takes a value. -/
def State.setKde (s : State) (k : KdeSt) : State := { s with mem := { s.mem with kde := k } }

/-- The owner's write to the page restarts its idle time (R433). -/
def State.kdeTouch (s : State) : State := s.setKde { s.mem.kde with lastWrite := s.now }

/-- KDE_CLAIM (R432): the first claimant owns the engine, the next is its waiter, a third is not recorded. -/
def execKdeClaim (path id : Nat) (s : State) : Out :=
  .next (if s.kdeOwned = false then (s.wrN R.KDE_OWNER (kdeId path id + 2 ^ 8)).kdeTouch
  else if s.bit R.KDE_OWNER 24 then s
  else ((s.putFld R.KDE_OWNER 16 8 (kdeId path id)).putBit R.KDE_OWNER 24 true).event 10 1)

/-- KDE_RESULT and KDE_CMP_COMPAT take a result (R444, R445). -/
def State.kdeResult (s : State) (r : Nat) : State :=
  (s.wrN R.KDE_RESULT r).wrN R.KDE_CMP_COMPAT (if r = 1 then 1 else 0)

/-- An array of 16 registers is cleared. -/
def State.clear16 (s : State) (r : Nat → Nat) : State := (List.range 16).foldl (fun s i => s.wrN (r i) 0) s

/-- The engine holds no session: ACTIVE and BUSY clear. -/
def State.kdeIdle (s : State) : State :=
  ((s.putBit R.KDE_STATUS 0 false).putBit R.KDE_STATUS 1 false).setKde { s.mem.kde with finishing := false }

/-- Ownership passes to the waiter, or the engine becomes FREE (R433). -/
def State.kdePass (s : State) : State :=
  (if s.bit R.KDE_OWNER 24 then s.wrN R.KDE_OWNER (s.fld R.KDE_OWNER 16 8 + 2 ^ 8) else s.wrN R.KDE_OWNER 0).kdeTouch

/-- KDE_RELEASE (R433, R444): EXPECT is cleared, RESULT reads 0b00, and ownership passes. A session that is still ACTIVE ends
(DEDUCED, assumption log 40). -/
def execKdeRelease (path id : Nat) (s : State) : Out :=
  .next (if s.kdeOwned = false ∨ s.kdeOwner ≠ kdeId path id then s.raise 10 0x0100 0 0
  else (((s.kdeIdle).clear16 R.KDE_EXPECT).kdeResult 0).kdePass)

/-- KDE_IDLE_TIMEOUT (R433): the owner has written nothing for KDE_IDLE_MAX strides: its session is abandoned. -/
def execKdeIdleTimeout (s : State) : Out :=
  .next (if s.kdeOwned = false ∨ s.since s.mem.kde.lastWrite < s.rdN R.KDE_IDLE_MAX then s
  else (((((s.kdeIdle).clear16 R.KDE_DIGEST).clear16 R.KDE_EXPECT).kdeResult 0).event 10 2).kdePass)

/-- A write to a session register is applied only if it arrives by the owner's path (R434). -/
def State.kdeWrite (s : State) (path : Nat) (f : State → State) : State :=
  if s.kdeOwned = false ∨ s.kdeOwner / 64 ≠ path then s.raise 10 0x0100 0 0 else (f s).kdeTouch

/-! ### Sessions (R435 to R441) -/

/-- Bytes of a block, and words of a digest, of an algorithm (R436, R438). -/
def kdeBlock (alg : Nat) : Nat := if alg = 0 then 64 else 128
def kdeWords (alg : Nat) : Nat := match alg with | 0 => 8 | 1 => 12 | 2 => 16 | _ => 0

/-- The hash of an algorithm. -/
def kdeHash (alg : Nat) : List Byte → List Byte := match alg with | 0 => sha256 | 1 => sha384 | _ => sha512

/-- The slot may key an HMAC of the owner's path: VALID or LOCKED, and its USE admits the path (R440). -/
def State.kdeKeyOk (s : State) (slot path : Nat) : Bool :=
  let k := s.keySlot slot
  decide (k.st ≠ .empty) && decide (k.use / 2 ^ path % 2 = 1)

/-- KDE_START (R435, R440, R450). -/
def execKdeStart (path : Nat) (s : State) : Out :=
  .next (s.kdeWrite path fun s =>
    let mode := s.rdN R.KDE_MODE
    let alg := mode % 4
    let cmp := mode / 2 ^ 11 % 64
    let slot := mode / 32 % 64
    let hmac := decide (mode / 4 % 2 = 1)
    if s.bit R.KDE_STATUS 1 then s.writeDiscarded 10
    else if cmp = 0 ∨ kdeWords alg < cmp then s
    else if hmac ∧ s.kdeKeyOk slot (s.kdeOwner / 64) = false then s.raise 10 0x0102 0 0
    else
      let s1 := ((s.clear16 R.KDE_DIGEST).kdeResult 0).wr64 R.KDE_LEN 0
      let s2 := s1.wrN R.KDE_STATUS (2 + hmac.toNat)
      s2.setKde { s2.mem.kde with finishing := false, session :=
        { mode := mode, msg := [], key := if hmac then (s.keySlot slot).key else [], keyGone := false,
          owner := s.kdeOwner, at_ := 0, expect := [], lost := false } })

/-- A message word that cannot be taken: DATA_LOST is set and DATA_WHILE_BUSY captured (R436, R437). -/
def State.kdeLost (s : State) : State := (s.putBit R.KDE_STATUS 3 true).raise 10 0x0101 0 0

/-- KDE_DATA (R436, R437, R439): the next 4 message bytes; a full block sets BUSY. -/
def execKdeData (path : Nat) (w : Word) (s : State) : Out :=
  .next (s.kdeWrite path fun s =>
    let k := s.mem.kde
    let n := k.session.msg.length + 4
    if s.bit R.KDE_STATUS 1 = false then s.raise 10 0x0107 0 0
    else if s.bit R.KDE_STATUS 0 ∨ k.finishing ∨ 2 ^ 56 ≤ n then s.kdeLost
    else
      let s1 := (s.setKde { k with session := { k.session with msg := k.session.msg ++ leBytes 4 w.toNat } }).wr64
        R.KDE_LEN (BitVec.ofNat 64 n)
      if n % kdeBlock (k.session.mode % 4) = 0 then s1.putBit R.KDE_STATUS 0 true else s1)

/-- KDE_BLOCK_DONE (R436): BUSY clears. -/
def execKdeBlockDone (s : State) : Out := .next (s.putBit R.KDE_STATUS 0 false)

/-- KDE_FINISH (R437, R439): TAIL_BYTES gives the valid bytes of the last word. -/
def execKdeFinish (path : Nat) (s : State) : Out :=
  .next (s.kdeWrite path fun s =>
    let k := s.mem.kde
    if s.bit R.KDE_STATUS 1 = false then s.raise 10 0x0107 0 0
    else if k.finishing then s
    else
      let t := s.fld R.KDE_TAIL 0 3
      let n := k.session.msg.length - (if t = 0 ∨ 4 ≤ t then 0 else 4 - t)
      (s.setKde { k with finishing := true, session := { k.session with msg := k.session.msg.take n } }).wr64
        R.KDE_LEN (BitVec.ofNat 64 n))

/-- The digest of a session: plain, or HMAC (R437, R440). The slot's key that FINISH reads again for the outer pass is the one that START
read, or the session is KEY_GONE (R441). -/
def kdeDigest (x : KdeSession) : List Byte :=
  let h := kdeHash (x.mode % 4)
  if x.mode / 4 % 2 = 1 then
    let pad := fun (k : List Byte) (b : Byte) =>
      (k ++ List.replicate (kdeBlock (x.mode % 4) - k.length) 0).map fun c => c ^^^ b
    h (pad x.key 0x5C ++ h (pad x.key 0x36 ++ x.msg))
  else h x.msg

/-- The bytes of the first `n` words of an array of registers. -/
def State.words16 (s : State) (r : Nat → Nat) (n : Nat) : List Byte := (List.range n).flatMap fun i => leBytes 4 (s.rdN (r i))

/-- The comparison: 1 match, 2 mismatch, 0 where an injected bit error falsifies comparator A (R444, R450). -/
def State.kdeCompare (s : State) (digest : List Byte) (n : Nat) : State :=
  let (s1, hit) := s.inject 10 0x05 0
  if hit then ((s1.kdeResult 0).event 10 4).raise 10 0x0103 2 0 true
  else s1.kdeResult (if digest.take (4 * n) = s1.words16 R.KDE_EXPECT n then 1 else 2)

/-- KDE_FINISH_DONE (R437, R438, R441, R444): digest and comparison are ready. -/
def execKdeFinishDone (s : State) : Out :=
  let k := s.mem.kde
  if k.finishing = false ∨ s.bit R.KDE_STATUS 0 then .next s
  else
    let s1 := (((s.operate 10 0).kdeIdle).putBit R.KDE_STATUS 2 true).event 10 0 |>.count R.KDE_SESSIONS
    if k.session.keyGone ∨ s.bit R.KDE_STATUS 3 then .next ((s1.clear16 R.KDE_DIGEST).kdeResult 0)
    else
      let d := kdeDigest k.session
      let shown := if k.session.mode / 16 % 2 = 1 then [] else d
      let s2 := (List.range 16).foldl (fun s i => s.wrN (R.KDE_DIGEST i) (ofLeBytes ((shown.drop (4 * i)).take 4))) s1
      .next (if k.session.mode / 8 % 2 = 1 then s2.kdeCompare d (k.session.mode / 2 ^ 11 % 64) else s2)

/-- KDE_ABORT (R435, R439). -/
def execKdeAbort (path : Nat) (s : State) : Out :=
  .next (s.kdeWrite path fun s => if s.bit R.KDE_STATUS 1 then (s.kdeIdle).kdeResult 0 else s)

/-- KDE_EXPECT_WRITE (R444): word `i` of the expected value; RESULT reads 0b00. -/
def execKdeExpectWrite (path i : Nat) (w : Word) (s : State) : Out :=
  .next (s.kdeWrite path fun s => (s.wr (R.KDE_EXPECT (i % 16)) w).kdeResult 0)

/-! ### Saved contexts (R442, R443) -/

/-- The result of a context command, with what it captures (R450, R452). -/
def State.ctxResult (s : State) (code : Nat) : State :=
  let s1 := s.putFld R.KDE_CTX_STATUS 16 16 code
  if code = 0 then s1 else s1.raise 10 code 0 0

/-- USED and KDE_CTX_OWNER follow the contexts. -/
def State.setCtxs (s : State) (c : Amap KdeSession) : State :=
  let s1 := s.setKde { s.mem.kde with ctxs := c }
  (List.range 4).foldl (fun s i => (s.putBit R.KDE_CTX_STATUS i (c.has i)).putFld R.KDE_CTX_OWNER (8 * i) 8
    ((c.find i).elim 0 KdeSession.owner)) s1

/-- KDE_CTX_SUSPEND (R442). -/
def execKdeCtxSuspend (path n : Nat) (s : State) : Out :=
  .next (s.kdeWrite path fun s =>
    let k := s.mem.kde
    if s.bit R.KDE_STATUS 1 = false ∨ s.bit R.KDE_STATUS 0 ∨ k.finishing
        ∨ k.session.msg.length % kdeBlock (k.session.mode % 4) ≠ 0 then s.ctxResult 0x0105
    else if k.ctxs.has (n % 4) then s.ctxResult 0x0104
    else (((s.setCtxs (k.ctxs.put (n % 4) { k.session with at_ := s.now, expect := s.words16 R.KDE_EXPECT 16, lost := s.bit R.KDE_STATUS 3 })).ctxResult 0).kdeIdle).kdePass)

/-- KDE_CTX_RESUME (R443): the context's own ID takes its session up again, exactly as it was, EXPECT with it
(DEDUCED from the example of the chapter, assumption log 41). What a RESUME answers while a
session is ACTIVE is not stated (a free value, assumption log 3). -/
def execKdeCtxResume (path n : Nat) (s : State) : Out :=
  .next (s.kdeWrite path fun s =>
    let k := s.mem.kde
    match k.ctxs.find (n % 4) with
    | none => s.ctxResult 0x0100
    | some c =>
      if c.owner ≠ s.kdeOwner then s.ctxResult 0x0100
      else if s.bit R.KDE_STATUS 1 then (s.putFld R.KDE_CTX_STATUS 16 16 s.freeNat).useFree
      else
        let s1 := (s.setCtxs (k.ctxs.drop (n % 4))).ctxResult 0
        let s2 := (s1.setKde { s1.mem.kde with session := c, finishing := false }).wr64 R.KDE_LEN
          (BitVec.ofNat 64 c.msg.length)
        let s3 := (List.range 16).foldl (fun s i => s.wrN (R.KDE_EXPECT i) (ofLeBytes ((c.expect.drop (4 * i)).take 4))) s2
        s3.wrN R.KDE_STATUS (2 + c.lost.toNat * 8 + c.keyGone.toNat * 16))

/-- KDE_CTX_DISCARD (R443). -/
def execKdeCtxDiscard (path n : Nat) (s : State) : Out :=
  .next (s.kdeWrite path fun s =>
    match s.mem.kde.ctxs.find (n % 4) with
    | none => s.ctxResult 0x0100
    | some c => if c.owner ≠ s.kdeOwner then s.ctxResult 0x0100 else (s.setCtxs (s.mem.kde.ctxs.drop (n % 4))).ctxResult 0)

/-- KDE_CTX_EXPIRED (R443): a context that is not resumed within KDE_IDLE_MAX strides of its SUSPEND is discarded. -/
def execKdeCtxExpired (n : Nat) (s : State) : Out :=
  match s.mem.kde.ctxs.find (n % 4) with
  | none => .next s
  | some c =>
    .next (if s.since c.at_ < s.rdN R.KDE_IDLE_MAX then s else (s.setCtxs (s.mem.kde.ctxs.drop (n % 4))).event 10 3)

end Sys2Proof.Machine
end

