-- ==== Sys2Proof/Machine/Reset.lean ====
section
/-! DEFINITION. Resets (R520 to R523), pins and the always-on island (R41, R446, R515 to R519, R527). -/

namespace Sys2Proof.Machine

/-! ### Reset types (R520) -/

/-- A register that a reset leaves: the calendar, the live lifetime counters and the key slots' maps in the always-on island
(R518), the part's grade (R72), the HEAD_ID strap, and what the input pins read (R398, R527). -/
def keptReg (k : Nat) : Bool :=
  let o := k % 0x1000
  decide (0x40 ≤ o ∧ o < 0xF00 ∧ (k / 0x1000 = R.CAL_SEC / 0x1000 ∨ k / 0x1000 = R.PWR_STRIDES / 0x1000) ∧ k ≠ R.LIFE_CTRL)
    || decide (k = R.KS_VALID_MAP ∨ k = R.KS_VALID_MAP + 4 ∨ k = R.KS_LOCK_MAP ∨ k = R.KS_LOCK_MAP + 4 ∨ k = R.KS_GLOBAL)
    || decide (k = R.CHIP_STEP ∨ k = R.CHIP_HEAD ∨ k = R.MOD_PRSNT)

/-- The Media domain as it lies on flash, with each record of which a copy of the band took a page set (R294, R295): what is in transit or in DRAM is lost, and dies fall back on the calibration saved at
the last checkpoint (R307). -/
def MediaSt.survive (m : MediaSt) : MediaSt :=
  { MediaSt.reset with
    vols := m.vols, pages := m.pages, flash := m.flash, refs := m.refs, sums := m.sums, anchors := m.anchors, backrefs := m.backrefs,
    txns := (m.txns.keep fun _ t => t.durable || decide (t.okOn ≠ [])).mapVals fun _ t => { t with durable := true },
    bandTail := m.bandTail, segs := m.segs.mapVals fun _ g => { g with readers := 0 },
    nextStripe := m.nextStripe, pools := m.pools.mapVals fun _ p => { p with ckpt := .idle },
    dies := m.dies.mapVals fun _ d => { d with st := if d.st = .retired then .retired else .idle, suspensions := 0, remain := none },
    bgs := m.bgs, health := m.health, wear := m.wear, lost := m.lost }

/-- The spill band as the modules hold it (R163, R167): a Spillway that is cut short leaves no directory, and a band that is not erased. -/
def CistSt.survive (c : CistSt) : CistSt :=
  let cut := decide (c.spill = .quiescing ∨ c.spill = .imaging) && c.bandErased
  { CistSt.reset with
    spillNo := c.spillNo, bandModules := c.bandModules, bandDies := c.bandDies, bandErased := c.bandErased && !cut,
    bandDir := if cut then none else c.bandDir, bandOwn := c.bandOwn, bandMirror := c.bandMirror }

/-- A reset of every domain but the always-on island (R520): what stands in the island, on the NOR devices, in the OTP and on
flash stays; head DRAM is lost; the bring-up of R524 is due. -/
def State.powerReset (s : State) (typ : Nat) : State :=
  let s1 : State := { State.reset with
    pending := s.pending, sent := s.sent, fresh := s.fresh,
    regs := s.regs.filter fun kv => keptReg kv.1,
    clock := { ClockSt.reset with
      trimAcc := s.clock.trimAcc, oscStopped := s.clock.oscStopped, lifeA := s.clock.lifeA, lifeB := s.clock.lifeB },
    guard := { GuardSt.reset with mapAon := s.guard.mapAon, mapA := s.guard.mapA, mapB := s.guard.mapB },
    stud := { s.stud with flushTo := none, flushAgain := false, ctrlAgain := false, window := none },
    tack := { s.tack with inUse := [] },
    cist := s.cist.survive,
    cam := { CamSt.reset with logs := s.cam.logs, flash := s.cam.flash },
    media := s.media.survive,
    tandem := { TandemSt.reset with groups := s.tandem.groups.mapVals fun _ g => { Group.empty with marks := g.marks },
                                    bandStaged := s.tandem.bandStaged },
    mem := { MemSt.reset with hardDue := s.mem.hardDue, keys := s.mem.keys },
    svc := { SvcSt.reset with slotA := s.svc.slotA, slotB := s.svc.slotB, recA := s.svc.recA, recB := s.svc.recB, fuses := s.svc.fuses,
                              otpKeyHash := s.svc.otpKeyHash },
    power := { PowerSt.reset with perstLow := s.power.perstLow, porLow := s.power.porLow,
                                  thermtrip := s.power.thermtrip && decide (typ ≠ 0), aonLost := s.power.aonLost } }
  let s2 := (s1.putFld R.RN_STATUS 2 2 (s.fld R.RN_STATUS 2 2)).putFld R.CHIP_RST_STATUS 4 2 (s.fld R.CHIP_RST_STATUS 4 2)
  (s2.putFld R.CHIP_RST_STATUS 0 3 typ).putBit R.CHIP_RST_STATUS 6 (!s.power.aonLost)

/-- Reset types (R520). -/
def rstPowerOn : Nat := 0
def rstWarm : Nat := 1
def rstFirmware : Nat := 2
def rstSpillReturn : Nat := 3
def rstPcie : Nat := 4

/-- POR_N_ASSERT (R520, R516): POR_N falls; a Spillway under way ends at that engine clock. -/
def execPorNAssert (s : State) : Out :=
  let t := s.powerReset rstPowerOn
  .next { t with power := { t.power with porLow := true } }

/-- A WARM reset may be taken (R521); a head stopped by L5 takes it from Mysyn alone (R523). -/
def State.warmMay (s : State) (force mysyn : Bool) : Bool :=
  if s.power.stopped then mysyn
  else force || decide (s.role = roleInit ∨ s.role = roleStandby ∨ s.role = roleFenced)

/-- WARM_RESET (R521): CHIP_RST_CTL written with WARM and the key. -/
def execWarmReset (force : Bool) (s : State) : Out :=
  .next (if s.warmMay force false then s.powerReset rstWarm else s.writeDiscarded 0)

/-! ### The PCIe reset (R84, R522) -/

/-- The endpoint is reset: every function is reset under R90, functions that SR-IOV exposed are removed under R91, and injection is
disabled (R76). -/
def State.pcieReset (s : State) : State :=
  let s1 := (List.range 249).foldl State.askReset s
  let s2 := match execSriovNumvfsChange 0 false s1 with
    | .next t => t
    | _ => s1
  let up := decide (s.fld R.PCIE_LINK 0 4 ≠ 0)
  let s3 := s2.wrN R.PCIE_LINK (if up ∨ s.bit R.PCIE_LINK 10 then 2 ^ 10 else 0)
  let s4 := if up then s3.event 24 1 else s3
  ((((s4.wrN R.CHIP_INJ_EN 0).count R.RESETS).putFld R.CHIP_RST_STATUS 0 3 rstPcie).event 0 6)

/-- PERST_N_ASSERT (R522). -/
def execPerstNAssert (s : State) : Out :=
  .next (if s.power.perstLow then s
    else ({ s with power := { s.power with perstLow := true } }).pcieReset.count R.CHIP_PCIE_RESETS)

/-- PERST_N_RELEASE (R522): link training restarts once step B2 has ended; LTSSM shows Polling. -/
def execPerstNRelease (s : State) : Out :=
  .next (if s.power.perstLow then
    ({ s with power := { s.power with perstLow := false } }).wrN R.PCIE_LINK (2 ^ 10 + 2 ^ 16) else s)

/-- PCIE_LINK_DOWN (R84): a loss of DL_ACTIVE while PERST_N is high. -/
def execPcieLinkDown (s : State) : Out :=
  .next (if s.power.perstLow ∨ s.bit R.PCIE_LINK 9 = false then s else s.pcieReset.raise 24 0x0102 0 0)

/-! ### Temperature (R519) -/

/-- TJ_HALT (R519): 110 degC for 250 consecutive strides. -/
def execTjHalt (s : State) : Out :=
  .next (if s.power.hotStrides < 250 ∨ s.cist.haltReq ∨ s.power.stopped then s else s.raise 0 0x0101 5 0)

/-- THERMTRIP (R519): the comparator asserts THERMTRIP_N until POR_N. -/
def execThermtrip (s : State) : Out := .next { s with power := { s.power with thermtrip := true } }

/-! ### Modules' reset and presence (R527, R528) -/

/-- MOD_RST_N[n] rises, and the link trains afresh (R252, R527). -/
def State.modRstUp (s : State) (n : Nat) : State :=
  (({ s with power := { s.power with modRst := s.power.modRst.drop n } }).putBit R.MOD_RST n false).trainStart n

/-- MOD_RST_RELEASE (R527): a write of 0, held until the 250 strides end, or their end. -/
def execModRstRelease (n : Nat) (write : Bool) (s : State) : Out :=
  match s.power.modRst.find n with
  | none => .next s
  | some (t, held) =>
    if 250 ≤ s.since t then .next (if write || held then s.modRstUp n else s)
    else .next (if write then { s with power := { s.power with modRst := s.power.modRst.put n (t, true) } } else s)

/-- MOD_PRSNT_CHANGE (R259, R527, R528): MOD_PRSNT_N[n] changes; the link of a module that has come trains if TRAIN is set. -/
def execModPrsntChange (n : Nat) (present : Bool) (s : State) : Out :=
  .next (if s.bit R.MOD_PRSNT n = present then s
    else (((s.putBit R.MOD_PRSNT n present).event 0 5).putBit (R.MLK_STATUS n) 3 present).trainStart n)

/-! ### The always-on feeds (R41, R446, R518) -/

/-- VAON_ONE_LOST (R518): `feedB` names the feed. -/
def execVaonOneLost (feedB : Bool) (s : State) : Out :=
  let b := 4 + feedB.toNat
  .next (if s.bit R.CHIP_RST_STATUS b then ((s.putBit R.CHIP_RST_STATUS b false).event 0 3).raise 0 0x0100 1 0 else s)

/-- VAON_BOTH_LOST (R41, R446, R475, R463): the island is lost: the calendar stops, every key slot is emptied, the studbook
buffer and the remount map in it are void, and CAL_TRIM and the accumulated correction return to 0 (R40). -/
def execVaonBothLost (s : State) : Out :=
  let s1 := (s.putFld R.CHIP_RST_STATUS 4 2 0).event 0 3
  let s2 := s1.mem.keys.foldl (fun s kv => s.zeroise kv.1) s1
  let s3 := (((s2.putBit R.CAL_STATUS 1 true).putBit R.CAL_STATUS 0 false).wrN R.CAL_TRIM 0).event 2 1
  .next { s3 with
    clock := { s3.clock with oscStopped := true, trimAcc := 0 },
    stud := { s3.stud with bufOk := false },
    guard := { s3.guard with mapAon := { s3.guard.mapAon with crcOk := false } },
    power := { s3.power with aonLost := true } }

/-- VAON_FEED_RETURN (R41, R518): a feed returns; the counts restart from 0 at the first tick. -/
def execVaonFeedReturn (feedB : Bool) (s : State) : Out := .next (s.putBit R.CHIP_RST_STATUS (4 + feedB.toNat) true)

end Sys2Proof.Machine
end

