-- ==== Sys2Proof/Machine/Spillway.lean ====
section
/-! DEFINITION. The Spillway (R162 to R168, R526). -/

namespace Sys2Proof.Machine

/-- The Spillway's own state changes. -/
def State.setSpill (s : State) (f : CistSt → CistSt) : State := { s with cist := f s.cist }

/-- An ABORT goes out for every ERASE under way (R165). -/
def State.abortErases (s : State) : State :=
  s.media.links.foldl (fun s l =>
    (l.2.tags.keep fun _ c => decide (c.opcode = opErase)).foldl (fun s c => s.sendMod l.1 (ModCmd.plain opAbort c.2.die .abort)) s) s

/-- SPILLWAY_START (R162, R165, R464, R499): both feeds have failed for 2 strides, or an L5 was placed. Fetching, admission,
ingest and Torlux traffic stop; a remount and staging are abandoned; nothing is completed from here on. -/
def execSpillwayStart (s : State) : Out :=
  if s.spilling ∨ s.cist.spill ≠ .idle ∨ (s.cist.haltReq = false ∧ s.cist.bothFailed < 2) then .next s
  else
    let s0 := s.abortErases
    let s1 := ((s0.rmAbandon).rankAbandon).stagingAbort
    let s2 := s1.setSpill fun c => { c with
      spill := .quiescing, spillStart := s.now, spillNo := c.spillNo + 1, spillByFeeds := !c.haltReq }
    .next (s2.putBit R.CIST_STATUS 3 true)

/-- Step of the commit point s + 1: STREAMING locks are discarded (R165). -/
def State.spillDiscard (s : State) : State :=
  if s.cist.spill = .quiescing ∧ s.cist.spillStart ≠ s.now then s.discardStreaming fun _ => true else s

/-- SPILL_QUIESCED (R165): outstanding programs have been collected, and outstanding erases are abandoned. -/
def execSpillQuiesced (s : State) : Out :=
  if s.cist.spill = .quiescing then
    let s1 := (s.discardStreaming fun _ => true).setSpill fun c => { c with spill := .imaging }
    .next { s1 with media := { s1.media with links := s1.media.links.mapVals fun _ l => { l with tags := [], queue := [] } } }
  else .next s

/-! ### The spill band (R163) -/

/-- The dies of the band on a module: the lowest of this head's paddock, up to 32 (R163; which dies is a DESIGN CHOICE, assumption log 96). -/
def State.bandDiesOn (s : State) (port : Nat) : List Nat :=
  (s.ident port).elim [] fun i => (i.dieMap.filter fun d => decide (paddockOf d = s.headId ∧ d < i.dies)).take 32

/-- The band: the ports of the modules of all pools that are in service and have dies in this head's paddock, with the band dies on each
(R163). -/
def State.bandOf (s : State) : List (Nat × List Nat) :=
  (s.media.pools.keep fun q _ => decide (q < 16)).flatMap fun p => (p.2.modules.filter (s.inService p.1 p.2)).filterMap fun m =>
    let ds := s.bandDiesOn (s.portOf p.1 m)
    if ds = [] then none else some (s.portOf p.1 m, ds)

/-- The journal area: the map and stripe records that are not freed yet (R148, R272, R342). -/
def MediaSt.journalArea (m : MediaSt) : List Byte := m.txns.flatMap (fun t => t.2.image) ++ m.strLog.flatMap StrRec.image

/-- Entries of a half in ring order, from its tail on. -/
def ringOrder (tail size : Nat) (l : Amap Part) : Amap Part :=
  let at_ := fun p : Part => ((p.off.getD 0) + size - tail) % max size 1
  (List.range l.length).filterMap fun n => l.find? fun x => decide ((l.filter fun y => decide (at_ y.2 < at_ x.2)).length = n)

/-- The entries of the own half that the Cistern holds. -/
def CistSt.ownHalf (c : CistSt) : Amap Part := c.parts.keep fun q p => p.off.isSome && decide (q < 2 ^ 63)

/-- The image that the Spillway writes: journal area, own half, mirror half, in ring order (R163, R165). -/
def State.spillBytes (s : State) : List Byte :=
  s.media.journalArea ++ ((ringOrder s.cist.tail s.ringSize s.cist.ownHalf).flatMap fun x => x.2.image s.headId x.1)
    ++ (s.tandem.groups.flatMap fun g => g.2.staged.flatMap fun b => b.entries.flatMap fun e => e.2.2.image s.headId e.2.1)
    ++ s.cist.mirror.flatMap fun x => x.2.image (1 - s.headId) x.1

/-- The chunks of one band stripe over M modules: M - 1 of data and their XOR; for M = 2 a mirror (R163). -/
def bandStripe (m : Nat) (data : List Byte) : List (List Byte) :=
  let ds := (pieces 65536 (m - 1) data).map (padTo 65536)
  ds ++ [parityP ds]

/-- The image goes to the band, stripe by stripe: position j of a stripe lies on module (j + stripe) mod M, as in other stripes (R163;
DEDUCED, assumption log 96). -/
def State.bandWrite (s : State) : State :=
  let band := s.bandOf
  let m := band.length
  let data := s.spillBytes
  let n := ceilDiv data.length (65536 * (m - 1))
  (List.range n).foldl (fun s i =>
    ((bandStripe m (data.drop (i * (65536 * (m - 1))))).mapIdx fun j c => (j, c)).foldl (fun s x =>
      s.emit (.bandChunk ((band[(x.1 + i) % m]?).elim 0 Prod.fst) i (codewords [] x.2))) s) s

/-- What the band holds from then on, and the directory (R163, R165). -/
def CistSt.image (c : CistSt) (layout : List (Nat × List Nat)) (dirOk : Bool) : CistSt :=
  { c with
    bandErased := false, bandOwn := c.ownHalf, bandMirror := c.mirror,
    bandDir := some { number := c.spillNo, start := c.spillStart, firstCseq := (c.ownHalf.head?.map Prod.fst).getD 0,
                      lastCseq := (c.ownHalf.getLast?.map Prod.fst).getD 0, layout := layout, crcOk := dirOk } }

/-- The records that the image of the journal area holds and that may be replayed: in TSEQ order, up to the first that names a stripe which
is not written (R272, R295; DEDUCED, assumption log 99); and the staged entries of batches with a CLOSE marker (R395). -/
def State.spillTail (s : State) : State :=
  { s with
    media := { s.media with bandTail := s.media.pools.flatMap fun p => (s.txnsOf p.1).takeWhile fun t => decide (t.needs = []) },
    tandem := { s.tandem with bandStaged := s.tandem.groups.map fun g => (g.1, g.2.staged.filter StagedBatch.closed) } }

/-! ### The Spillway's end -/

/-- SPILL_IMAGE_DONE (R165, R526): the image and the directory are written, unless the band still holds the image of an earlier
Spillway, or there is no erased band; the studbook flush and the lifetime save follow. `dirOk` says that a copy of the
directory took. -/
def execSpillImageDone (dirOk : Bool) (s : State) : Out :=
  if s.cist.spill = .imaging then
    let s1 := if s.cist.bandErased ∧ 2 ≤ s.cist.bandModules then
        (((s.bandWrite).setSpill fun c => c.image s.bandOf dirOk).spillTail).setSpillReady false
      else s
    .next (((s1.setSpill fun c => { c with spill := .closing }).startFlush).startLifeSave)
  else .next s

/-- SPILL_DONE (R165): flush and save have ended. The RESULT of the SPILL record has no stated codes (a free value, assumption
log 3). A head that an L5 stopped stays stopped (R523). -/
def execSpillDone (s : State) : Out :=
  if s.cist.spill = .closing ∧ s.bit R.STB_STATUS 0 = false ∧ s.clock.lifeSave = none then
    let n := s.since s.cist.spillStart
    let s1 := (s.useFree.record 0x000B 0 89 (leBytes 4 s.cist.spillNo ++ leBytes 8 s.cist.spillStart.toNat ++ leBytes 4 n
      ++ leBytes 1 s.freeNat ++ leBytes 3 0))
    let s2 := (s1.setSpill fun c => { c with spill := .done }).wrN R.CIST_SPILL_LAST n
    .next ({ s2 with power := { s2.power with stopped := !s.cist.spillByFeeds } }.event 89 2)
  else .next s

/-- SPILL_RETURN (R167, R520): both feeds have been present for 250,000 strides after the Spillway. -/
def execSpillReturn (s : State) : Out :=
  .next (if s.cist.spill = .done ∧ s.power.stopped = false ∧ 250000 ≤ s.cist.bothPresent then s.powerReset rstSpillReturn else s)

/-- SPILL_LOSS_ACK (R168, R170): it clears SPILL_LOSS; the bit does not stay set. -/
def execSpillLossAck (s : State) : Out := .next ((s.putBit R.CIST_CTRL 2 false).putBit R.CIST_STATUS 5 false)

end Sys2Proof.Machine
end

