-- ==== Sys2Proof/Machine/Pools.lean ====
section
/-! DEFINITION. Pools: members that fail, substitutes, rebuild, the loss list and reshape (R330 to R359), and the bound of the
Spillway (R164). -/

namespace Sys2Proof.Machine

/-! ### The spill band (R163, R164) -/


/-- SPILL_BOUND_MS for a Cistern of `size` bytes, M modules and D dies (R164). -/
def spillBound (size m d : Nat) : Nat := 100 + ceilDiv (size * m * 1000) ((m - 1) * min (d * 204800000) (m * 15700000000))

/-- The band is laid out on the in-service modules; SPILL_BOUND_MS and SPILL_READY follow (R164), which need SPILL_ARM, and a bound of 0 while there is
no band (R170). For one module the bound has no value (a free value, assumption log 3). -/
def State.spillRecompute (s : State) : State :=
  let l := s.bandOf
  let m := l.length
  let dies := (l.map fun x => x.2.length).sum
  let s1 := { s with cist := { s.cist with bandModules := m, bandDies := dies } }
  let size := s1.fld R.CIST_CFG 0 5 * 2 ^ 30
  let s2 := if m = 0 then s1.wrN R.CIST_SPILL_BOUND 0
    else if m = 1 then (if s.cist.bandModules = 1 then s1 else (s1.wrN R.CIST_SPILL_BOUND (s1.freeNat % 65536)).useFree)
    else s1.wrN R.CIST_SPILL_BOUND (min (spillBound size m dies) 65535)
  s2.setSpillReady (s2.bit R.CIST_CTRL 1 && s2.cist.bandErased && decide (2 ≤ m)
    && decide (s2.rdN R.CIST_SPILL_BOUND ≤ 600))

/-! ### Members that fail (R338 to R348) -/

/-- Tolerance of a layout (R330). -/
def layoutTolerance (kind : Nat) : Nat :=
  match kind with | 0 => 1 | 1 => 2 | 2 => 1 | _ => 2

/-- A substitute covers a failed module: as many dies, blocks and pages, and every usable die (R347). -/
def identCovers (new old : Option Ident) : Bool :=
  match new, old with
  | some n, some o => decide (o.dies ≤ n.dies ∧ o.blocks ≤ n.blocks ∧ o.pages ≤ n.pages) && o.dieMap.all (· ∈ n.dieMap)
  | some _, none => true
  | _, _ => false

/-- Block-group records that a substitute inherits: ERASES, READS, TRIM, CORR_MAX and COVER start at 0 (R347). -/
def BlockGroup.inherit (b : BlockGroup) : BlockGroup :=
  { b with erases := 0, reads := 0, trim := [0, 0, 0, 0], trimNext := none, corrMax := 0, cover := 0 }

/-- Port `q` takes over module number `m` of a pool; the substitution is copied to the partner, and this head's paddock is
raised there before any other command (R254, R347). -/
def State.substitute (s : State) (pool m q : Nat) : State :=
  let serial := (s.ident q).elim 0 Ident.serial
  let s1 := s.setPool pool fun p => { p with subst := p.subst.put m q, spare := if p.spare = some q then none else p.spare }
  let s2 := { s1 with media := { s1.media with
    bgs := s1.media.bgs.mapVals fun k b => if k / 4096 / 1024 = m then b.inherit else b } }
  let pad := s2.padOf pool
  (s2.tlSend (.subst (pool % 16) pad m q serial)).sendRaise pad q false (s2.epochOf pad q) false

/-- The module that R341 gives a new band copy: in service, with no copy of this band, the one that holds the fewest band copies that this
head knows of, the lowest number on a tie (assumption log 69). -/
def State.bandModule (s : State) (pool : Nat) (p : Pool) : Option Nat :=
  let c := p.modules.filter fun m => s.inService pool p m && !(p.targets.any fun b => decide (b.module = m))
  let other := (s.pool (if pool < 16 then pool + 16 else pool - 16)).elim [] Pool.targets
  let load := fun m => (other.filter fun b => decide (b.module = m)).length
  match c with
  | [] => none
  | m :: ms => some (ms.foldl (fun a b => if load b < load a ∨ (load b = load a ∧ b < a) then b else a) m)

/-- A pool with two in-service modules keeps two copies on different dies of one of them (R341). -/
def State.bandPair (s : State) (pool : Nat) (p : Pool) (b : BandCopy) : Bool :=
  let c := p.targets.filter fun x => decide (x.module = b.module)
  decide ((p.modules.filter (s.inService pool p)).length = 2 ∧ s.bandModule pool p = none) && s.inService pool p b.module
    && decide (c.length = 1) && c.all fun x => decide (x.die ≠ b.die)

/-- A band copy may be placed: on the module of R341, on a usable die of this head's paddock, on two free block groups. -/
def State.bandOk (s : State) (pool : Nat) (p : Pool) (b : BandCopy) : Bool :=
  (decide (s.bandModule pool p = some b.module) || s.bandPair pool p b) && s.dieUsable (s.portOf pool b.module) b.module b.die
    && decide (paddockOf b.die = s.padOf pool) && decide (b.groupA ≠ b.groupB ∧ b.groupA % 4 = 0 ∧ b.groupB % 4 = 0)
    && [b.groupA, b.groupB].all fun g => decide ((s.bg b.module b.die g).st = .good) && !s.isAnchor (s.portOf pool b.module) b.die g
      && !(s.media.segs.any fun x => decide ({ module := b.module, die := b.die, bgrp := g } ∈ x.2.place))

/-- A lost band copy is placed anew: its pair of block groups is erased, and page sets go there from the next one on (R344). Records
not yet durable are written again, to every copy (DEDUCED, assumption log 70). -/
def State.bandStart (s : State) (pool : Nat) (b : BandCopy) : State :=
  match s.pool pool with
  | none => s
  | some p =>
    if p.bandNew ≠ none ∨ 3 ≤ p.band.length ∨ s.bandOk pool p b = false then s
    else
      let port := s.portOf pool b.module
      let s0 := { s with media := { s.media with
        txns := s.media.txns.mapVals fun _ t => if t.pool = pool ∧ t.durable = false then { t with issued := false } else t,
        strLog := s.media.strLog.map fun (r : StrRec) => if r.pool = pool ∧ r.durable p = false then { r with bseq := 0 } else r } }
      let s1 := s0.setPool pool fun p => { p with bandNew := some { b with onB := false, page := 0, otherUsed := false, last := 0, otherLast := 0 } }
      let s2 := [b.groupA, b.groupB].foldl (fun s g =>
        (s.setBg b.module b.die g fun x => { x with st := .band, slc := true, bin := 0 }).sendMod port
          { ModCmd.erase b.die g (.eraseOther pool) with slc := true }) s1
      s2

/-- CHECKPOINT (R273, R344), by the holder of the paddock (R375): `band` is where a lost copy of the journal band is placed anew, `places`
are new META segments. With no place for its objects the checkpoint stays asked for. -/
def execCheckpoint (pool : Nat) (band : Option BandCopy) (places : List (List Place)) (s : State) : Out :=
  if s.mutedModules ∨ s.spilling ∨ s.halted 137 ∨ s.holds (s.padOf pool) = false then .next s
  else
    let s0 := match band with | none => s | some b => s.bandStart pool b
    match s0.pool pool with
    | none => .next s0
    | some p =>
      if p.ckpt ≠ .idle ∧ p.ckpt ≠ .asked then .next s0
      else
        match s0.checkpointStart pool p places with
        | some t => .next t
        | none => .next (s0.checkpointAsk pool)

/-- The failure of module number `m` of a pool (R338 to R340, R344, R347). -/
def State.memberFail (s : State) (pool m port : Nat) (band : Option BandCopy) : State :=
  match s.pool pool with
  | none => s
  | some p =>
    let s1 := s.setPool pool fun p => { p with
      failed := p.failed.put m s.now, subst := p.subst.drop m, holdoffOver := false,
      started := p.started.filter fun x => decide (x ≠ m) }
    let s2 := (s1.segsOn fun x => decide (x.module = m)).foldl (fun s i =>
      match s.seg i with
      | none => s
      | some g => if g.pool = pool then (s.closeSegment i).setSeg i fun g => { g with rebuild := true, rebuilt := 0, rebuiltAt := [] } else s) s1
    let s3 := s2.raise 141 0x0102 0 m
    let s4 := if s3.redund pool = rdNormal ∨ s3.redund pool = rdReshaping then (s3.setRedund pool rdDegraded).event 141 1 else s3
    let s5 := if p.phase ≠ .none then (s4.putBit (R.SP_STATE pool) 5 true).putBit R.SP_CMD_STATUS 17 true else s4
    let s6 := (s5.checkpointAsk pool).bandDrop pool m
    let s7 := match band with | none => s6 | some b => s6.bandStart pool b
    let s8 := match p.spare with
      | some q => if s7.linkUp q ∧ p.subst.length < 4 ∧ identCovers (s7.ident q) (s7.ident port) then s7.substitute pool m q else s7
      | none => s7
    s8.spillRecompute

/-- MEMBER_FAIL (R338): the link of a port has stayed DOWN for SP_REB_GRACE strides, or its module was refused or is
removed. `band` is where a lost copy of the journal band is placed anew. -/
def execMemberFail (port : Nat) (band : Option BandCopy) (s : State) : Out :=
  let l := s.mlink port
  let due := !s.bit (R.MLK_STATUS port) 3 || l.refused
    || l.downAt.elim false fun t => decide (s.fld R.SP_REB_GRACE 0 18 ≤ s.since t)
  match s.served port with
  | none => .next s
  | some (pool, m) =>
    if s.lstate port ≠ lsDown ∨ due = false ∨ (s.pool pool).elim true (fun p => p.failed.has m) then .next s
    else
      let s1 := s.memberFail pool m port band
      .next (if (s1.pool (pool + 16)).isSome then s1.memberFail (pool + 16) m port none else s1)

/-! ### Rebuild (R345 to R351) -/

/-- Member failures of a segment. -/
def Pool.failuresOf (p : Pool) (g : Seg) : Nat := (g.place.filter fun x => p.failed.has x.module).length

/-- Redundancy that a segment has left (R348). -/
def Pool.redundLeft (p : Pool) (g : Seg) : Nat := layoutTolerance (p.kindOf g.seq) - p.failuresOf g

/-- The order of R348, as one number: redundancy left, then META first, then SEG_SEQ. -/
def rebuildRank (p : Pool) (g : Seg) : Nat := (p.redundLeft g * 2 + (if g.kind = segMeta then 0 else 1)) * 2 ^ 64 + g.seq

/-- A segment is rebuilt in place: every failed member has a substitute (R345). -/
def Pool.inPlace (p : Pool) (g : Seg) : Bool :=
  let failed := g.place.filter fun x => p.failed.has x.module
  decide (failed ≠ []) && (failed.all fun x => p.subst.has x.module) && decide (g.state ≠ .retired)

/-- The rebuild set of a pool (R348). -/
def State.rebuildSet (s : State) (pool : Nat) : Amap Seg := s.media.segs.filter fun g => decide (g.2.pool = pool) && g.2.rebuild

/-- The segment that rebuild takes next (R348): one rebuilt in place of which every chunk is under way waits for its REBUILT records. -/
def State.rebuildPick (s : State) (pool : Nat) (p : Pool) : Option (Nat × Seg) :=
  match (s.rebuildSet pool).filter fun g => !(p.inPlace g.2 && decide (g.2.stripes ≤ g.2.rebuilt)) with
  | [] => none
  | x :: xs => some (xs.foldl (fun a b => if rebuildRank p b.2 < rebuildRank p a.2 then b else a) x)

/-- Rebuild of a pool may work (R339, R349). -/
def State.rebuildMay (s : State) (pool : Nat) : State × Bool :=
  if s.redund pool ≠ rdRebuilding ∨ s.halted 141 ∨ s.mutedModules ∨ s.spilling then (s, false)
  else s.standing actRebuild pool

/-- The last segment of the rebuild set is rebuilt (R339). -/
def State.rebuildScan (s : State) (pool : Nat) : State :=
  match s.pool pool with
  | none => s
  | some p =>
    if s.redund pool = rdRebuilding ∧ s.rebuildSet pool = [] then
      let s1 := s.setPool pool fun p => { p with failed := p.failed.keep fun m _ => !p.subst.has m, credit := 0 }
      let s2 := ((s1.putBit (R.SP_STATE pool) 4 false).event 141 3).actEnd actRebuild pool fun _ => true
      if p.phase = .none then s2.setRedund pool rdNormal
      else ((s2.setRedund pool rdReshaping).putBit (R.SP_STATE pool) 5 false).putBit R.SP_CMD_STATUS 17 false
    else s

/-- A segment leaves the rebuild set. -/
def State.rebuiltSeg (s : State) (i : Nat) : State :=
  match s.seg i with
  | none => s
  | some g => (s.setSeg i fun g => { g with rebuild := false }).rebuildScan g.pool

/-- A range of a segment was rebuilt with Q in place of P: SP_Q_RETRY, PARITY_MISMATCH at L1, REFRESH on the segment (R337, R358). -/
def State.mismatch (s : State) (pool i : Nat) : State :=
  ((s.setSeg i fun g => { g with refresh := true }).count (R.SP_Q_RETRY pool)).raise 141 0x0101 1 0

/-- A recovered grain is queued for rewrite in a new stripe and counted (R232, R350); it is packed at once where a stripe takes it. -/
def State.repair (s : State) (addr : Nat) (x : Stored) (places : List (List Place)) : State :=
  let s1 := { s with media := { s.media with rewrites := s.media.rewrites.put (gaKey addr) x } }
  ((s1.rewriteOne (gaKey addr) places).1).count R.RD_REPAIRS

/-- Grains of an unreadable codeword of a surviving member are queued for rewrite (R350). -/
def State.repairAll (s : State) (addrs : List Nat) (places : List (List Place)) : State :=
  addrs.foldl (fun s a =>
    match s.media.flash.find (gaKey a) with
    | none => s
    | some x => if x.poison then s else s.repair a x places) s

/-- Lost grains of a chunk that is rebuilt: poison codewords, the loss list, REFRESH on the segment (R337, R350). -/
def State.rebuildLost (s : State) (pool i : Nat) (lost : List Nat) : State :=
  if lost = [] then s
  else
    let s1 := lost.foldl (fun s a => s.addLoss pool a 1) s
    (s1.setSeg i fun g => { g with refresh := true }).raise 141 0x0103 2 0

/-- The grains of data position `j` of a written stripe, with their granules, in rising order. -/
def State.grainsAt (s : State) (g : Seg) (page j : Nat) : List (Nat × Stored) :=
  match g.place[(j + page) % max g.place.length 1]? with
  | none => []
  | some p =>
    let l := (s.media.flash.filter fun x => p.holds x.1 && decide (gaPage x.1 = page)).map fun x => (gaChunkGranule x.1, x.2)
    (List.range 1024).filterMap fun n => l.find? fun x => decide (x.1 = n)

/-- The codewords over which lost grains of a data chunk lie (R337). -/
def lostWords (lost : List Nat) : List Nat :=
  lost.flatMap fun a => (List.range (ceilDiv (gaChunkGranule a % 32 + gaLen a) 32)).map (gaChunkGranule a / 32 + ·)

/-- The codewords of a rebuilt chunk: the reconstruction of R337, poison over what is lost (R332, R350). -/
def State.rebuiltWords (s : State) (g : Seg) (p : Pool) (page j : Nat) (place : Place) (lost : List Nat) : List Byte :=
  let kind := p.kindOf g.seq
  let chunks := g.chunks kind page (g.packedAt.getD page 0) (s.grainsAt g page)
  codewords (poisonWords (s.grainsAt g page (if kind ≤ 1 then 0 else j)) ++ lostWords (lost.filter fun a => place.holds a))
    (chunks.getD j [])

/-- One stripe of a segment is rebuilt in place: the chunks of its failed members are reconstructed and programmed on their
substitutes, whose block groups are erased before the first (R350). -/
def State.rebuildPlace (s : State) (pool i : Nat) (g : Seg) (p : Pool) (lost : List Nat) : State :=
  let page := g.rebuilt
  let ks := (List.range g.place.length).filter fun k => (g.place[k]?).elim false fun x => p.failed.has x.module
  let w := max g.place.length 1
  let s1 := ks.foldl (fun s k =>
    match g.place[k]? with
    | none => s
    | some x =>
      let port := s.portOf pool x.module
      let s0 := if page = 0 then s.sendMod port (ModCmd.erase x.die x.bgrp (.eraseOther pool)) else s
      let j := positionOf w k page
      ((s0.readSources g page k 0 32).sendMod port
        (ModCmd.program x.die x.bgrp page false (.rebuild i page j) (s0.rebuiltWords g p page j x lost))).count
        (R.SP_RECON pool)) s
  (s1.setSeg i fun g => { g with rebuilt := page + 1 }).rebuildLost pool i lost

/-- BLOCKED: a segment can be rebuilt by neither method (R346). -/
def State.rebuildBlocked (s : State) (pool : Nat) : State :=
  if s.bit (R.SP_STATE pool) 4 then s else ((s.putBit (R.SP_STATE pool) 4 true).event 141 7).raise 141 0x0105 2 0

/-- One source stripe of a segment is relocated: its grains go to COPY segments (R345). -/
def State.rebuildMove (s : State) (pool i : Nat) (g : Seg) (lost : List Nat) (places : List (List Place)) : State :=
  let s0 := s.retireSeg i
  let xs := (s0.gcLeft pool g).filter fun x => decide (gaPage x.1 = g.rebuilt)
  let r := xs.foldl (copyGrain pool lost) (s0, places, true)
  if r.2.2 = false then s.rebuildBlocked pool
  else
    let s1 := (r.1.setSeg i fun g => { g with rebuilt := g.rebuilt + 1 }).putBit (R.SP_STATE pool) 4 false
    if g.stripes ≤ g.rebuilt + 1 then s1.rebuiltSeg i else s1

/-- A segment with members on failed modules starts its rebuild (R352). -/
def Pool.start (p : Pool) (failed : List Place) : Pool :=
  { p with started := (failed.map Place.module ++ p.started).eraseDups }

/-- Members on failed modules leave a segment without live grains: one in ERASING waits for the others' answers only (R345). -/
def State.memberGone (s : State) (i : Nat) (f : Place → Bool) : State :=
  match s.seg i with
  | none => s
  | some g =>
    if g.state = .erasing then
      let ks := (List.range g.place.length).filter fun k => (g.place[k]?).elim false f
      (s.setSeg i fun g => { g with erased := ks ++ g.erased }).eraseScan i
    else s.setSeg i fun g => { g with place := g.place.filter fun x => !f x }

/-- REBUILD_STRIPE (R345, R349): one credit rebuilds or relocates the next stripe of the rebuild set. `lost` names the grains
of ranges that exceed the tolerance or pass no check, `rewrite` those of unreadable codewords on surviving members, `withQ` that a
range passed only with Q in place of P (R337, R350), `places` new COPY segments. -/
def execRebuildStripe (pool : Nat) (lost rewrite : List Nat) (withQ : Bool) (places : List (List Place)) (s : State) : Out :=
  match s.pool pool with
  | none => .next s
  | some p =>
    if p.credit < 100 then .next s
    else
      match s.rebuildMay pool, s.rebuildPick pool p with
      | (s1, true), some (i, g) =>
        let failed := g.place.filter fun x => p.failed.has x.module
        if g.live = 0 ∧ s1.gcLeft pool g = [] then
          .next (((s1.setPool pool (·.start failed)).memberGone i fun x => p.failed.has x.module).rebuiltSeg i)
        else
          let s2 := s1.setPool pool fun p => { p.start failed with credit := p.credit - 100 }
          if p.inPlace g then
            let s3 := if withQ then s2.mismatch pool i else s2
            .next ((s3.rebuildPlace pool i g p lost).repairAll rewrite places)
          else if p.holdoffOver ∨ s.fld R.SP_REB_HOLDOFF 0 12 = 0 ∨ failed = [] then .next (s2.rebuildMove pool i g lost places)
          else .next s
      | _, _ => .next s

/-- A rebuilt chunk was programmed on the substitute: the REBUILT record is appended, and reads may go there (R350). -/
def State.rebuildOk (s : State) (i page position : Nat) : State :=
  match s.seg i with
  | none => s
  | some g =>
    let r : StrRec := { kind := 4, pool := g.pool, seg := i, segSeq := g.seq, page := page, members := g.place.length, position := position,
                        mask := maskOf [(position + page) % max g.place.length 1], stride := s.now, bseq := 0, okOn := [] }
    let s1 := { s with media := { s.media with strLog := s.media.strLog ++ [r] } }
    s1.setSeg i fun g => { g with rebuiltAt := g.rebuiltAt ++ [(page, position)] }

/-- Every chunk of a segment's failed members is rebuilt, and the REBUILT records are durable (R350). -/
def State.rebuildOver (s : State) (p : Pool) (i : Nat) (g : Seg) : Bool :=
  let w := g.place.length
  p.inPlace g && decide (g.stripes ≤ g.rebuilt)
    && ((List.range g.stripes).all fun page => (List.range w).all fun k =>
      !((g.place[k]?).elim false fun x => p.failed.has x.module) || decide ((page, positionOf w k page) ∈ g.rebuiltAt))
    && s.media.strLog.all fun r => decide (r.kind ≠ 4 ∨ r.seg ≠ i ∨ r.pool ≠ g.pool) || r.durable p

/-- Step of the commit point: segments whose last REBUILT record has become durable are rebuilt (R350). -/
def State.rebuildEnds (s : State) : State :=
  s.media.segs.foldl (fun s x =>
    match s.pool x.2.pool with
    | none => s
    | some p => if x.2.rebuild && s.rebuildOver p x.1 x.2 then s.rebuiltSeg x.1 else s) s

/-- PROGRAM_FAIL on the substitute: the block group is RETIRED and the segment turns to relocation (R350). -/
def State.rebuildFail (s : State) (i port page position : Nat) : State :=
  match s.seg i with
  | none => s
  | some g =>
    match g.place[(position + page) % max g.place.length 1]? with
    | none => s
    | some x => (s.programFail i port x).setSeg i fun g => { g with rebuilt := 0, rebuiltAt := [] }

/-- REBUILD_HOLDOFF_END (R345): SP_REB_HOLDOFF seconds have passed since a member failed. -/
def execRebuildHoldoffEnd (pool : Nat) (s : State) : Out :=
  match s.pool pool with
  | none => .next s
  | some p =>
    let hold := s.fld R.SP_REB_HOLDOFF 0 12 * 250000
    .next (if p.failed.any (fun f => decide (hold ≤ s.since f.2)) then s.setPool pool fun p => { p with holdoffOver := true }
      else s)

/-- A pool's bands are restored: three copies in service (R339, R344). -/
def Pool.bandsWhole (p : Pool) : Bool := decide (3 ≤ p.band.length ∧ p.bandNew = none)

/-- Step of the commit point: a DEGRADED pool whose bands are restored starts its rebuild once the matrix admits it, and
rebuild credit grows (R339, R346, R349). -/
def State.rebuildAdmit (s : State) : State :=
  s.media.pools.foldl (fun s x =>
    let pool := x.1
    match s.pool pool with
    | none => s
    | some p =>
      if s.redund pool = rdDegraded ∧ p.bandsWhole then
        match s.standing actRebuild pool with
        | (s1, true) => ((s1.setRedund pool rdRebuilding).event 141 2).rebuildScan pool
        | (s1, false) => s1
      else if s.redund pool = rdRebuilding then
        let urgent := s.media.segs.any fun g => decide (g.2.pool = pool) && g.2.rebuild && decide (p.redundLeft g.2 = 0)
        let rate := if urgent then s.fld R.SP_REB_RATE 16 7 else s.fld R.SP_REB_RATE 0 7
        s.setPool pool fun p => { p with credit := min (p.credit + rate) 800 }
      else s) s

/-! ### The loss list (R353, R354, R358) -/

/-- The volume grains that a leaf slot serves: every path to the leaf page. -/
def State.leafGrains (s : State) (pool page slot : Nat) : Nat → Nat → Nat → List Nat
  | 0, id, base => if id = page then [base + slot] else []
  | l + 1, id, base =>
    match s.mpage pool id with
    | none => []
    | some p => p.entries.flatMap fun e => s.leafGrains pool page slot l e.2 (base + e.1 * 512 ^ (l + 1))

/-- LOSS_RESOLVE_WALK (R354): the walk fills in VOL_GRAIN of an entry, with a further entry for each additional volume grain
that its leaf serves. -/
def execLossResolveWalk (pool index : Nat) (s : State) : Out :=
  match s.pool pool with
  | none => .next s
  | some p =>
    match p.losses[index]? with
    | none => .next s
    | some x =>
      if x.resolved then .next s
      else
        let vs := s.media.vols.flatMap fun v =>
          if v.2.pool = pool then (s.leafGrains pool x.page x.slot 4 v.2.root 0).map fun g => (v.1, g) else []
        match vs with
        | [] => .next s
        | (v, g) :: rest =>
          let one := { x with vol := v, grain := g, resolved := true }
          let more := rest.map fun r => { x with vol := r.1, grain := r.2, resolved := true }
          .next (s.setPool pool fun p => { p with losses := (p.losses.set index one ++ more).take 1048576 })

/-- All 48 bytes of the entry that SP_LOSS_SEL names are latched (R358). -/
def State.latchLoss (s : State) : State :=
  let pool := s.fld R.SP_POOL_SEL 0 4
  let b := match (s.pool pool).bind fun p => p.losses[s.fld R.SP_LOSS_SEL 0 20]? with
    | none => List.replicate 48 0
    | some x => x.bytes
  (List.range 12).foldl (fun s i => s.wrN (R.SP_LOSS_DATA i) (ofLeBytes ((b.drop (4 * i)).take 4))) s

/-- SP_LOSS_DATA_LATCH (R358): reading 0x140 latches all 48 bytes of the entry that SP_LOSS_SEL names. -/
def execSpLossDataLatch (s : State) : Out :=
  .next (s.latchLoss.emit (.regRead (R.SP_LOSS_DATA 0) (s.latchLoss.rdN (R.SP_LOSS_DATA 0))))

end Sys2Proof.Machine
end

