-- ==== Sys2Proof/Machine/Recover.lean ====
section
/-! DEFINITION. Recovery of a pool's paddock (R295, R296, R307), at bring-up, at takeover and when a paddock is taken over in a
transfer; and the data that moves with a paddock. -/

namespace Sys2Proof.Machine

/-! ### Recovery of one pool (R295) -/

/-- Records with consecutive TSEQs, all durable. -/
def contiguous : List Txn → Nat → List Txn
  | [], _ => []
  | t :: ts, n => if t.durable ∧ t.tseq = n then t :: contiguous ts (n + 1) else []

/-- A segment as recovery leaves it: an open one is closed after its last whole stripe, one that holds nothing live is selected
for reclaim, readers are 0 (R295). -/
def Seg.recover (g : Seg) (now : DWord) : Seg :=
  let h := { g with want := none, readers := 0, swept := false, rebuilt := 0, rebuiltAt := [], nextPage := if g.state = .open then g.stripes else g.nextPage }
  match g.state with
  | .open => { h with state := if g.live = 0 then .selected else .closed, closeStride := now }
  | .closed => { h with state := if g.live = 0 then .selected else .closed }
  | _ => h

/-- The erase of every member block group of a segment that the failure left ERASING is sent again (R295). -/
def State.eraseAgain (s : State) (i : Nat) : State :=
  match s.seg i with
  | none => s
  | some g => (s.setSeg i fun g => { g with erased := [] }).eraseMembers i g

/-- READ_LEVEL_SET of a slot: offsets for read levels 1 to 7 in bytes 1 to 7 of ARG (R247). -/
def State.levelSet (s : State) (port die slot bin : Nat) (offs : List Int) : State :=
  s.sendMod port { ModCmd.plain opReadLevelSet die (.readLevel bin) with
    arg := slot % 16 + (offs.mapIdx fun i o => toField 8 o * 2 ^ (8 * (i + 1))).sum }

/-- One bin of a die takes the offsets of the last checkpoint in both slots of its pair, the even one active (R307). -/
def State.binLoad (s : State) (port m d : Nat) (b : Nat × List Int) : State :=
  let s1 := s.setDie m d fun x => { x with
    bins := x.bins.put b.1 { active := 0, offs := b.2, up := List.replicate 7 0, dn := List.replicate 7 0, sent := none,
                             ok := false, examined := s.now, fresh := s.calSec } }
  (s1.levelSet port d (2 * b.1) b.1 b.2).levelSet port d (2 * b.1 + 1) b.1 b.2

/-- The calibration tables of a pool's dies are loaded from its last checkpoint (R307). -/
def State.calLoad (s : State) (pool : Nat) (p : Pool) : State :=
  let ds := s.media.dies.filter fun x =>
    decide (x.1 / 1024 ∈ p.allModules) && decide (paddockOf (x.1 % 1024) = s.padOf pool)
  ds.foldl (fun s x => x.2.saved.foldl (fun s b =>
    s.binLoad (s.portOf pool (x.1 / 1024)) (x.1 / 1024) (x.1 % 1024) b) s) s

/-- The first TSEQ that recovery replays: that of the oldest record beyond the root. -/
def firstTseq (ts : List Txn) (p : Pool) : Nat := (ts.head?).elim p.nextTseq Txn.tseq

/-- The errors that a recovery captures (R279, R295, R299): a bad copy of the pool root or of the journal, a metadata object rebuilt from
its stripe, orphans, a gap. -/
def State.recoveryErrors (s : State) (pool : Nat) (x : PoolFound) (gap : Bool) : State :=
  let s1 := if x.rootCopy then s.raise 137 0x0103 1 0 else s
  let s2 := if x.journalCopy then s1.raise 137 0x0100 1 0 else s1
  let s3 := if x.metaCheck then s2.raise 137 0x0101 1 0 else s2
  let s4 := s3.countBy (R.FTL_ORPHANS pool) x.orphans
  let s5 := if 0 < x.orphans then s4.raise 137 0x0102 0 0 else s4
  if gap then s5.raise 137 0x0104 2 0 else s5

/-- A pool recovers (R295, R307): durable records apply in TSEQ order up to the first gap, segments settle, calibration is
loaded; CHARGE is that of the entries restored. -/
def State.recoverPool (s : State) (pool : Nat) (x : PoolFound) : State :=
  match s.pool pool with
  | none => s
  | some p =>
    let ts := s.txnsOf pool
    let ok := contiguous ts (firstTseq ts p)
    let gap := (ts.drop ok.length).any Txn.durable
    let again := (s.media.segs.filter fun g => decide (g.2.pool = pool ∧ g.2.state = .erasing)).map Prod.fst
    let s1 := { s with media := { s.media with
      txns := s.media.txns.keep fun _ t => decide (t.pool ≠ pool) || decide (t ∈ ok),
      stripes := s.media.stripes.keep fun _ x => decide (x.pool ≠ pool),
      reclaim := s.media.reclaim.drop pool } }
    let s2 := ok.foldl State.applyTxn s1
    let s3 := { s2 with media := { s2.media with
      segs := (s2.media.segs.keep fun _ g => !decide (g.pool = pool ∧ g.state = .free)).mapVals fun _ g =>
        if g.pool = pool then g.recover s.now else g } }
    let s4 := again.foldl State.eraseAgain s3
    let charge := ((s4.cist.parts.filter fun x => decide (s4.poolOf x.2.vol = pool)).map fun x => 64 * x.2.charged).sum
    let s5 := s4.setPool pool fun q => { q with
      nextTseq := firstTseq ts p + ok.length, charge := charge, cap := s4.capOf pool q q.layout q.n }
    ((s5.event 137 6).recoveryErrors pool x gap).calLoad pool p

/-! ### What moves with a paddock -/

/-- Entries of a table that satisfy a test join another. -/
def Amap.join {α : Type} (m d : Amap α) (f : Nat → α → Bool) : Amap α :=
  d.foldl (fun m x => if f x.1 x.2 then m.put x.1 x.2 else m) m

/-- A mutating command for a paddock. -/
def ModCmd.mutates (c : ModCmd) (q : Nat) : Bool := mutating c.opcode && decide (paddockOf c.die = q)

/-- All that this head keeps of a paddock it does not hold: grains it may read, the definitions of the pools, and the volumes as the
partner's; mutating commands that wait for it go (R359, R375, R381). -/
def State.clearPaddock (s : State) (q : Nat) : State :=
  let off := fun pool => decide (s.padOf pool ≠ q)
  let m := s.media
  { s with
    media := { m with
      vols := m.vols.mapVals fun _ v => if off v.pool then v else { v with root := 0, deleting := none, held := false },
      pages := m.pages.keep fun k _ => off (k / 2 ^ 40),
      refs := m.refs.keep fun a _ => decide (paddockOf (gaDie a) ≠ q),
      backrefs := m.backrefs.filter fun b => decide (paddockOf (gaDie b.1) ≠ q),
      txns := m.txns.keep fun _ t => off t.pool,
      segs := m.segs.keep fun _ g => off g.pool,
      stripes := m.stripes.keep fun _ x => off x.pool,
      strLog := m.strLog.filter fun r => off r.pool,
      rewrites := m.rewrites.keep fun a _ => decide (paddockOf (gaDie a) ≠ q),
      pools := (m.pools.keep fun p _ => off p || decide (p < 16)).mapVals fun p x => if off p then x else { x with charge := 0, ckpt := .idle },
      links := m.links.mapVals fun _ l => { l with queue := l.queue.filter fun c => !c.mutates q },
      bgs := m.bgs.keep fun k _ => decide (paddockOf (k / 4096 % 1024) ≠ q),
      wear := m.wear.keep fun p _ => off p,
      reclaim := m.reclaim.keep fun p _ => off p,
      snaps := m.snaps.filter fun j => off (s.poolOf j.source),
      lost := m.lost.filter fun a => decide (paddockOf (gaDie a) ≠ q) },
    cam := { s.cam with logs := s.cam.logs.keep fun p _ => off p, flash := s.cam.flash.keep fun p _ => off p } }

/-- A record read from the partner's journal names Cistern entries of the partner, which this head numbers 2 ^ 63 + CSEQ. -/
def Txn.adopt (t : Txn) (foreign : Bool) : Txn := if foreign ∧ t.flags = txHost then { t with cseq := 2 ^ 63 + t.cseq } else t

/-- The data of a paddock, as read from flash, replaces what this head keeps of it (R295, R296). -/
def State.joinPaddock (s0 : State) (q : Nat) (d : PaddockData) : State :=
  let s := s0.clearPaddock q
  let on := fun pool => decide (s.padOf pool = q ∧ pool < 32)
  let foreign := decide (q ≠ s.headId)
  let m := s.media
  { s with
    media := { m with
      vols := m.vols.join d.vols fun _ v => on v.pool,
      pages := m.pages.join d.pages fun k _ => on (k / 2 ^ 40),
      flash := m.flash.join d.flash fun a _ => decide (paddockOf (gaDie a) = q),
      refs := m.refs.join d.refs fun a _ => decide (paddockOf (gaDie a) = q),
      backrefs := m.backrefs ++ d.backrefs.filter fun b => decide (paddockOf (gaDie b.1) = q),
      txns := m.txns.join (d.txns.mapVals fun _ t => t.adopt foreign) fun k t => on t.pool && decide (k = txnKey t.pool t.tseq),
      segs := m.segs.join d.segs fun k g => on g.pool && !m.segs.has k,
      pools := m.pools.join d.pools fun p _ => on p,
      dies := m.dies.join d.dies fun k _ => decide (paddockOf (k % 1024) = q),
      bgs := m.bgs.join d.bgs fun k _ => decide (paddockOf (k / 4096 % 1024) = q),
      lost := m.lost ++ d.lost.filter fun a => decide (paddockOf (gaDie a) = q) },
    cam := { s.cam with logs := s.cam.logs.join d.logs fun p _ => on p, flash := s.cam.flash.join d.tier fun p _ => on p } }

/-- Every pool of a paddock recovers (R295, R296). -/
def State.recoverPaddock (s : State) (q : Nat) (found : Amap PoolFound) : State :=
  ((s.media.pools.filter fun p => decide (s.padOf p.1 = q)).map Prod.fst).foldl
    (fun s p => s.recoverPool p (found.getD p PoolFound.none)) s

end Sys2Proof.Machine
end

