-- ==== Sys2Proof/Machine/Calib.lean ====
section
/-! DEFINITION. Live calibration, the Patrol, retention, health records and the wear governor (R301 to R313, R319, R321 to
R327). -/

namespace Sys2Proof.Machine

/-! ### When a die could start a read (W) -/

/-- The commands outstanding on a port, by tag, and those that wait for a tag. -/
def State.onPort (s : State) (port : Nat) : List ModCmd := ((s.mlink port).tags.map Prod.snd) ++ (s.mlink port).queue

/-- The commands of a port for a die. -/
def State.onDie (s : State) (port d : Nat) : List ModCmd := (s.onPort port).filter fun c => decide (c.die = d)

/-- Strides until a die could start a new read (03 of "Choosing how to reach the die"): what is left of the program or erase in
progress, as the module reported it, or the reads queued ahead, whichever is later (assumption log 48). -/
def State.dieWait (s : State) (port m d : Nat) : Nat :=
  let cs := s.onDie port d
  let op := if (s.die m d).st = .suspended then 0 else (s.die m d).remain.elim 0 fun x => x.1 - min x.1 (s.since x.2)
  let tr := (s.ident port).elim 0 Ident.trMax
  max op ((cs.filter fun c => decide (c.opcode = opRead)).length * tr)

/-- A bin of a die takes a value. -/
def State.setBin (s : State) (m d bin : Nat) (f : CalBin → CalBin) : State :=
  let b := f (s.calBin m d bin)
  s.setDie m d fun x => { x with bins := x.bins.put bin b }

/-- The calibration bin of a block group: bin 0 for SLC, else by retention age (R301). -/
def BlockGroup.calBin (b : BlockGroup) : Nat :=
  let h := b.retAge / 65536
  if b.slc then 0
  else if h < 1 then 1
  else if h < 8 then 2
  else if h < 72 then 3
  else if h < 336 then 4
  else if h < 1440 then 5
  else if h < 4320 then 6
  else 7

/-- A READ that names a slot of a die is outstanding (R305). -/
def State.slotRead (s : State) (port d slot : Nat) : Bool :=
  (s.onDie port d).any fun c => decide (c.opcode = opRead ∧ c.arg / 2 ^ 16 % 256 = slot)

/-! ### What the decoders report (R302, R303, R308, R312) -/

/-- The read levels that a page senses (R302): level 1 alone on an SLC block or module. -/
def sensedLevels (cell : Nat) (slc : Bool) (page : Nat) : List Nat :=
  if slc ∨ cell = 1 then [1]
  else
    match page % 3 with
    | 0 => [4]
    | 1 => [2, 6]
    | _ => [1, 3, 5, 7]

/-- Counts of the sensed levels are added to accumulators, level 1 first. -/
def addLevels (acc counts levels : List Nat) : List Nat :=
  acc.mapIdx fun i a => if (i + 1) ∈ levels then a + (counts[i]?).getD 0 else a

/-- The factor of R312, in quarters. -/
def wearQuarters (erases rated : Nat) : Nat := if 2 * erases < rated then 4 else if 10 * erases < 9 * rated then 2 else 1

/-- A block group is due for refresh: by age or reads, by a report of `corr` corrected bits, or SUSPECT (R312). -/
def State.refreshes (s : State) (port m d bgrp : Nat) (corr : Option Nat) : Bool :=
  let b := s.bg m d bgrp
  let f := wearQuarters b.erases ((s.ident port).elim 0 Ident.peRated)
  decide (s.fld R.HL_RET_LIMIT 0 16 * 65536 * f ≤ b.retAge * 4) || decide (s.fld R.HL_RD_LIMIT 0 16 * 1000 * f ≤ b.reads * 4)
    || corr.elim false (fun c => decide (s.fld R.HL_CORR_REFRESH 0 8 ≤ c)) || decide (b.st = .suspect)

/-- REFRESH is set where it is due (R312); one that Patrol decodes set is counted (R326). -/
def State.refreshCheck (s : State) (port m d bgrp : Nat) (corr : Option Nat) (patrol : Bool) : State :=
  if s.refreshes port m d bgrp corr ∧ (s.bg m d bgrp).refresh = false then
    (if patrol then s.count R.PAT_REFRESH else s).refreshDue m d bgrp
  else s

/-- The block group becomes COVERED (R308): the Patrol skips it for the rest of the pass. -/
def State.coverCheck (s : State) (m d bgrp : Nat) : State :=
  let b := s.bg m d bgrp
  if b.covered = false ∧ s.fld R.PAT_COVER_MIN 0 16 ≤ b.cover ∧ b.corrMax < s.fld R.PAT_BER_OK 0 8 then
    (s.setBg m d bgrp fun b => { b with covered := true }).count R.PAT_SKIPPED
  else s

/-- An injected error adds one corrected bit at level 4 to a report (R325); it is counted as UP (assumption log 49). -/
def DecodeReport.injected (r : DecodeReport) : DecodeReport :=
  let up := r.up ++ List.replicate (7 - r.up.length) 0
  { r with corr := r.corr + 1, corrMax := r.corrMax + 1, up := up.mapIdx fun i u => if i = 3 then u + 1 else u }

/-- First decodes are reported (R303): to the accumulators of the die and bin, to those of the block group, to CORR_MAX, READS
and, for host reads, COVER. A decode that failed reports nothing. -/
def State.report (s0 : State) (port m d bgrp page : Nat) (host patrol : Bool) (r0 : DecodeReport) : State :=
  let (s, hit) := (s0.operate 136 r0.unit).inject 136 0x05 r0.unit
  let r := if hit then r0.injected else r0
  let b := s.bg m d bgrp
  let sensed := sensedLevels ((s.ident port).elim 3 Ident.cell) b.slc page
  let levels := if hit then 4 :: sensed else sensed
  let s1 := ((s.countBy R.LD_CW (r.words + r.failed)).countBy R.LD_FIRST_FAIL r.failed).countBy R.LD_CORR_BITS r.corr
  let s2 := if 0 < r.failed then { s1 with media := { s1.media with firstFail := true } } else s1
  let s3 := (s2.setBin m d b.bin fun c => { c with up := addLevels c.up r.up levels, dn := addLevels c.dn r.dn levels }).setBg
    m d bgrp fun b => { b with
      up := addLevels b.up r.up levels, dn := addLevels b.dn r.dn levels, corrMax := max b.corrMax r.corrMax,
      reads := min (b.reads + 1) (2 ^ 32 - 1), cover := if host then min (b.cover + r.words) 65535 else b.cover }
  let s4 := s3.setHealth m fun h => { h with cwDecoded := h.cwDecoded + r.words + r.failed, corrBits := h.corrBits + r.corr }
  (s4.refreshCheck port m d bgrp (some r.corrMax) patrol).coverCheck m d bgrp

/-! ### The update rule (R304 to R306) -/

/-- One level under the rule of R304: the new offset, whether the level was judged, and whether it was clamped. -/
def moveLevel (off : Int) (up dn least hyst : Nat) (lim : Int) : Int × Bool × Bool :=
  if up + dn < least then (off, false, false)
  else
    let x := if dn * (1000 + hyst) < up * 1000 then off - 1 else if up * (1000 + hyst) < dn * 1000 then off + 1 else off
    (max (-lim) (min lim x), true, decide (x < -lim ∨ lim < x))

/-- Every level of a table of offsets under the rule. -/
def moveLevels (offs : List Int) (up dn : List Nat) (least hyst : Nat) (lim : Int) : List (Int × Bool × Bool) :=
  offs.mapIdx fun i o => moveLevel o ((up[i]?).getD 0) ((dn[i]?).getD 0) least hyst lim

/-- Accumulators of the levels that were judged return to 0. -/
def clearJudged (acc : List Nat) (rs : List (Int × Bool × Bool)) : List Nat :=
  acc.mapIdx fun i a => if (rs[i]?).elim false (fun r => r.2.1) then 0 else a

/-- TRIM of a block group under the rule, with CAL_MIN_ERR / 8 and limits of 16 steps (R306). -/
def BlockGroup.trimmed (b : BlockGroup) (least hyst : Nat) : BlockGroup :=
  let rs := moveLevels b.trim b.up b.dn (least / 8) hyst 16
  let t := rs.map fun r => r.1
  { b with up := clearJudged b.up rs, dn := clearJudged b.dn rs, trimNext := if t = b.trim then b.trimNext else some t }

/-- TRIM of the block groups of a bin of a die is adjusted (R306): it enters the record at the next commit point. -/
def State.trimGroups (s : State) (m d bin : Nat) : State :=
  if s.bit R.LD_CAL_CTRL 1 = false then s
  else
    let bgs := s.media.bgs.mapVals fun k b =>
      if k / 4096 = dieKey m d ∧ b.bin = bin then b.trimmed (s.fld R.CAL_MIN_ERR 0 16) (s.fld R.CAL_HYST 0 10) else b
    { s with media := { s.media with bgs := bgs } }

/-- READ_LEVEL_SET of a bin is outstanding on its die. -/
def State.levelPending (s : State) (port d bin : Nat) : Bool :=
  (s.onDie port d).any fun c => decide (c.opcode = opReadLevelSet ∧ c.arg % 16 / 2 = bin)

/-- Offsets of levels held at the limit are counted and placed (R304, R325, R329). -/
def State.calClamped (s : State) (n : Nat) : State :=
  if n = 0 then s else ((s.countBy R.CAL_CLAMPS n).event 136 1).raise 136 0x0101 0 0

/-- New offsets go to the inactive slot of the pair (R305). -/
def State.calSend (s : State) (port m d bin : Nat) (offs : List Int) : State :=
  let c := s.calBin m d bin
  (s.setBin m d bin fun c => { c with sent := some offs, ok := false }).levelSet port d (2 * bin + (1 - c.active)) bin offs

/-- A stale die and bin set PATROL_PRIO on one block group of the bin (R304). -/
def State.calStale (s : State) (m d bin bgrp : Nat) : State :=
  let s1 := if s.media.bgs.has (bgKey m d bgrp) ∧ (s.bg m d bgrp).bin = bin then s.setBg m d bgrp fun b => { b with prio := true }
    else s
  (((s1.setBin m d bin fun c => { c with fresh := s.calSec }).count R.LD_CAL_STALE)).raise 136 0x0102 0 0

/-- A die and bin is examined (R304): its accumulators are judged, and new offsets sent to the inactive slot. -/
def State.calExamine (s : State) (port m d bin bgrp : Nat) : State :=
  let c := s.calBin m d bin
  let rs := moveLevels c.offs c.up c.dn (s.fld R.CAL_MIN_ERR 0 16) (s.fld R.CAL_HYST 0 10) 127
  let judged := rs.any fun r => r.2.1
  let offs := rs.map fun r => r.1
  let s1 := s.setBin m d bin fun c => { c with
    examined := s.now, up := clearJudged c.up rs, dn := clearJudged c.dn rs, fresh := if judged then s.calSec else c.fresh }
  let s2 := s1.calClamped (rs.filter fun r => r.2.2).length
  let s3 := if judged = false ∧ c.fresh + s.fld R.CAL_STALE_INT 0 16 * 3600 ≤ s.calSec then s2.calStale m d bin bgrp else s2
  if offs = c.offs then s3 else s3.calSend port m d bin offs

/-- CAL_UPDATE (R304 to R306): a die and bin is examined, at most once every CAL_INTERVAL strides; an update that the module
refused is tried again; `bgrp` is the block group that a stale bin gives to the Patrol. -/
def execCalUpdate (m d bin bgrp : Nat) (s : State) : Out :=
  let port := s.portAt m d
  let c := s.calBin m d bin
  if 7 < bin ∨ (s.since c.examined < s.fld R.CAL_INTERVAL 0 24 ∧ (s.die m d).bins.has bin) ∨ s.levelPending port d bin ∨ c.ok
      ∨ s.slotRead port d (2 * bin + (1 - c.active)) then .next s
  else
    let s1 := (s.trimGroups m d bin).setBin m d bin fun c => { c with examined := s.now }
    if s1.bit R.LD_CAL_CTRL 0 = false then .next s1
    else
      match c.sent with
      | some offs => .next (s1.calSend port m d bin offs)
      | none => .next (s1.calExamine port m d bin bgrp)

/-- READ_LEVEL_SET of a bin was answered OK: the slot becomes active at the next commit point (R305). -/
def State.levelOk (s : State) (m d bin : Nat) : State :=
  if (s.calBin m d bin).sent = none then s else s.setBin m d bin fun c => { c with ok := true }

/-- Slots whose offsets the module has taken, of one die (R305). -/
def CalBin.switch (c : CalBin) : CalBin :=
  match c.ok, c.sent with
  | true, some offs => { c with active := 1 - c.active, offs := offs, sent := none, ok := false }
  | _, _ => c

/-- A bin switches at this commit point. -/
def CalBin.switches (c : CalBin) : Bool := c.ok && c.sent.isSome

/-- Step 3 of the commit point: answered slots become active, TRIMs enter the records (R22, R305, R306). -/
def State.calCommit (s : State) : State :=
  let s1 := s.media.dies.foldl (fun s x =>
    let n := x.2.bins.count fun _ c => c.switches
    if n = 0 then s
    else
      ((s.setDie (x.1 / 1024) (x.1 % 1024) fun y => { y with bins := y.bins.mapVals fun _ c => c.switch }).countBy R.CAL_UPDATES
        n).setHealth (x.1 / 1024) fun h => { h with calUpdates := h.calUpdates + n }) s
  { s1 with media := { s1.media with bgs := s1.media.bgs.mapVals fun _ b =>
      match b.trimNext with
      | some t => { b with trim := t, trimNext := none }
      | none => b } }

/-- Step of the commit point: a block group whose age has crossed into the next bin takes it, its TRIM zero (R301). -/
def State.binChange (s : State) : State :=
  { s with media := { s.media with bgs := s.media.bgs.mapVals fun _ b =>
      if b.calBin = b.bin then b else { b with bin := b.calBin, trim := [0, 0, 0, 0], trimNext := none } } }

/-! ### The Patrol (R308 to R310, R326) -/

/-- Block groups of this head's paddocks that hold written page sets, outside bands: module, die, block group, page sets
written (R308). -/
def State.patrolGroups (s : State) : List (Nat × Nat × Nat × Nat) :=
  (s.media.segs.filter fun g => decide (g.2.state ≠ .free ∧ g.2.state ≠ .erasing ∧ 0 < g.2.stripes)).flatMap fun g =>
    (g.2.place.filter fun p => decide ((s.bg p.module p.die p.bgrp).st ≠ .band ∧ (s.bg p.module p.die p.bgrp).st ≠ .retired)).map
      fun p => (p.module, p.die, p.bgrp, g.2.stripes)

/-- Page sets of a block group still to read in this pass. -/
def State.patrolLeft (s : State) (x : Nat × Nat × Nat × Nat) : Nat :=
  let b := s.bg x.1 x.2.1 x.2.2.1
  if b.covered then 0 else x.2.2.2 - b.patPage

/-- Page sets still to read in this pass. -/
def State.patrolTotal (s : State) : Nat := (s.patrolGroups.map s.patrolLeft).sum

/-- The Patrol's own state takes a value. -/
def State.setPatrol (s : State) (f : PatrolSt → PatrolSt) : State :=
  { s with media := { s.media with patrol := f s.media.patrol } }

/-- A pass starts (R308): COVER and COVERED are cleared on every block group. -/
def State.passStart (s : State) (days : Nat) (expedited : Bool) : State :=
  let s1 := { s with media := { s.media with bgs := s.media.bgs.mapVals fun _ b =>
    { b with cover := 0, covered := false, patPage := 0 } } }
  ((s1.setPatrol fun p => { p with
      active := true, endCal := s.calSec + days * 86400, restart := false, rate := 0, credit := 0, total := s1.patrolTotal,
      expedited := expedited }).wr64 R.PAT_PASS_START s.now).wr R.PAT_PROGRESS 0

/-- PATROL_PASS_START (R308): a pass starts once the last one has ended. -/
def execPatrolPassStart (s : State) : Out :=
  if s.media.patrol.active then .next s else .next (s.passStart (s.fld R.PAT_PERIOD 0 5) false)

/-- With the calendar not VALID at bring-up every block group has priority, and a pass of one day starts (R310). -/
def State.patrolExpedite (s : State) : State :=
  let s1 := { s with media := { s.media with bgs := s.media.bgs.mapVals fun _ b => { b with prio := true } } }
  (s1.passStart 1 true).event 138 2

/-- PATROL_PACE (R309): every 250,000 strides the rate follows from the page sets and the time left; the rate is kept in page
sets per 65,536 strides. -/
def execPatrolPace (s : State) : Out :=
  let p := s.media.patrol
  let t := (p.endCal - s.calSec) * 250000
  if p.active = false ∨ t = 0 then .next s
  else .next (s.setPatrol fun p => { p with rate := s.patrolTotal * 65536 / t })

/-- PATROL_PASS_END (R309): a pass that ends with page sets unread is late; its unread block groups come first in the next. -/
def execPatrolPassEnd (s : State) : Out :=
  let p := s.media.patrol
  if p.active = false ∨ s.calSec < p.endCal then .next s
  else
    let left := s.patrolGroups.filter fun x => decide (0 < s.patrolLeft x)
    let s1 := s.setPatrol fun p => { p with
      active := false, expedited := false, rate := 0, credit := 0, carried := left.map fun x => bgKey x.1 x.2.1 x.2.2.1 }
    if left = [] then .next (s1.event 138 0) else .next (((s1.count R.PAT_LATE).event 138 1).raise 138 0x0100 0 0)

/-- PAT_RESTART (R326): a write of PAT_CTRL.RESTART starts a new pass at the next commit point. -/
def execPatRestart (s : State) : Out := .next (s.pageWrite 138 fun s => s.setPatrol fun p => { p with restart := true })

/-- The order in which the Patrol visits a block group: carried over, PATROL_PRIO, then descending RET_AGE (R309, R310). -/
def State.patrolRank (s : State) (x : Nat × Nat × Nat × Nat) : Nat :=
  let b := s.bg x.1 x.2.1 x.2.2.1
  if bgKey x.1 x.2.1 x.2.2.1 ∈ s.media.patrol.carried then 2 ^ 65 else if b.prio then 2 ^ 64 else b.retAge

/-- The block group that the Patrol reads next, on a die whose W is at most 2 (R309). -/
def State.patrolPick (s : State) : Option (Nat × Nat × Nat × Nat) :=
  (s.patrolGroups.filter fun x => decide (0 < s.patrolLeft x) && decide (s.dieWait (s.portAt x.1 x.2.1) x.1 x.2.1 ≤ 2)).foldl
    (fun b x =>
      match b with
      | none => some x
      | some y => if s.patrolRank y < s.patrolRank x then some x else some y) none

/-- One page set is issued: all 32 codewords of the next page index (R308). PATROL_PRIO clears once the block group is read. -/
def State.patrolIssue (s : State) (x : Nat × Nat × Nat × Nat) : State :=
  let (m, d, g, n) := x
  let page := (s.bg m d g).patPage
  let s1 := s.setBg m d g fun b => { b with patPage := page + 1, prio := b.prio && decide (page + 1 < n) }
  let s2 := if page + 1 < n then s1 else s1.setPatrol fun p => { p with carried := p.carried.filter fun k => decide (k ≠ bgKey m d g) }
  ((s2.sendMod (s.portAt m d) (s2.readCmd m d g page 0 32 false 0 .patrol)).count R.PAT_READS).wrN R.PAT_PROGRESS
    (1000 * (s.media.patrol.total - s2.patrolTotal) / max s.media.patrol.total 1)

/-- Up to `n` page sets are issued while credit lasts. -/
def State.patrolIssues (s : State) : Nat → State
  | 0 => s
  | n + 1 =>
    if s.media.patrol.credit < 65536 then s
    else
      match s.patrolPick with
      | none => s
      | some x => ((s.patrolIssue x).setPatrol fun p => { p with credit := p.credit - 65536 }).patrolIssues n

/-- The Patrol's work of one stride (R309, R326): credit grows by the rate and is kept up to PAT_MAX_RATE. -/
def State.patrolStep (s : State) : State :=
  let s1 := if s.media.patrol.restart then s.passStart (s.fld R.PAT_PERIOD 0 5) false else s
  let p := s1.media.patrol
  let most := s1.fld R.PAT_MAX_RATE 0 8
  if p.active = false then s1
  else
    let s2 := s1.setPatrol fun p => { p with credit := p.credit + p.rate }
    let s3 := if s2.bit R.PAT_CTRL 0 = false ∨ s2.halted 138 ∨ s2.halted 136 ∨ s2.mutedModules then s2 else s2.patrolIssues most
    s3.setPatrol fun p => { p with credit := min p.credit (most * 65536) }

/-! ### Retention (R311) -/

/-- Equivalent hours at 40 degC added per hour, by temperature in quarters of a degree (R311). -/
def agingHours (t : Int) : Nat :=
  if t < 180 then 1 else if t < 220 then 2 else if t < 260 then 5 else if t < 300 then 12 else 30

/-- A block group ages by an hour; one whose temperature has left that of its programming gets PATROL_PRIO (R310, R311). -/
def BlockGroup.age (b : BlockGroup) (t : Int) (xtemp : Nat) : BlockGroup :=
  { b with retAge := b.retAge + agingHours t * 65536,
           prio := b.prio || decide (4 * (xtemp : Int) < t - b.progTemp ∨ 4 * (xtemp : Int) < b.progTemp - t) }

/-- Every written block group ages, and those due for refresh are marked (R311, R312). -/
def State.ageGroups (s : State) : State :=
  s.patrolGroups.foldl (fun s x =>
    let port := s.portAt x.1 x.2.1
    (s.setBg x.1 x.2.1 x.2.2.1 fun b => b.age (s.dieTemp port) (s.fld R.HL_XTEMP 0 7)).refreshCheck port x.1 x.2.1 x.2.2.1 none
      false) s

/-! ### The wear governor (R321 to R324) -/

/-- E_REM of a pool (R321). -/
def State.wearRem (s : State) (pool : Nat) (p : Pool) : Nat :=
  (p.modules.map fun m =>
    let port := s.portOf pool m
    let dies := s.usableDies pool m
    let pe := (s.ident port).elim 0 Ident.peRated
    let per := (s.ident port).elim 0 fun i => i.blocks / 4
    let bs := s.media.bgs.filter fun b => decide (b.1 / 4096 / 1024 = m) && decide (b.1 / 4096 % 1024 ∈ dies)
    dies.length * per * pe - (bs.map fun b => if b.2.st = .retired then pe else min pe b.2.erases).sum).sum

/-- The stage that the governor moves to, by at most one step (R322, R323). -/
def wearStage (stage ratio : Nat) : Nat :=
  let up := match stage with | 0 => 1000 | 1 => 1100 | _ => 1250
  let down := match stage with | 1 => 950 | 2 => 1050 | _ => 1200
  if stage < 3 ∧ up < ratio then stage + 1
  else if 0 < stage ∧ ratio ≤ down then stage - 1
  else stage

/-- The governor of one pool at an hour rollover (R321, R323, R324). -/
def State.wearHour (s : State) (pool : Nat) (p : Pool) : State :=
  let cfg := pool % 16
  let w := s.media.wear.getD pool { hours := [], stageNext := none, used := 0 }
  let valid := s.bit R.CAL_STATUS 0
  let wend := (s.rd64 (R.WR_END cfg)).toNat % 2 ^ 48
  let days := max 30 ((wend - s.calSec) / 86400)
  let rem := s.wearRem pool p
  let b := rem * (1000 - s.fld (R.WR_MARGIN cfg) 0 10) / 1000 / days
  let e24 := (w.hours.take 24).sum
  let ratio := if b = 0 then 0xFFFF else min (e24 * 1000 / b) 0xFFFF
  let off := decide (wend = 0) || !s.bit (R.WR_CTRL cfg) 0 || !valid
  let stage := s.fld (R.WR_STATE pool) 0 2
  let next := if off then 0 else wearStage stage ratio
  let s1 := ((((s.wr64 (R.WR_REM pool) (BitVec.ofNat 64 rem)).wrN (R.WR_DAYS pool) (min days 65535)).wrN (R.WR_BUDGET pool) b).wrN
    (R.WR_E24 pool) e24).wrN (R.WR_RATIO pool) ratio
  let w1 := { w with hours := 0 :: w.hours.take 23, stageNext := some next }
  let s2 := { s1 with media := { s1.media with wear := s1.media.wear.put pool w1 } }
  let s3 := if valid then s2 else s2.event 140 3
  if off = false ∧ wend < s.calSec then s3.event 140 2 else s3

/-- PACE of a pool in stage 3 (R322, R328): 0 with PACE_EN = 0, which admits without limit. -/
def State.wearPace (s : State) (pool stage : Nat) : Nat :=
  let cfg := pool % 16
  let cap := s.fld R.WEIR_CAP wWr 16
  if stage < 3 ∨ s.bit (R.WR_CTRL cfg) 3 = false then 0
  else max (cap * s.rdN (R.WR_BUDGET pool) / max (s.rdN (R.WR_E24 pool)) 1) (cap * s.fld (R.WR_PACE_MIN cfg) 0 10 / 1000)

/-- CP_FLOOR: the floor of the highest stage over all pools with reduction enabled (R322). -/
def State.wearFloor (s : State) : State :=
  let top := (s.media.pools.map fun p =>
    if s.bit (R.WR_CTRL (p.1 % 16)) 1 then s.fld (R.WR_STATE p.1) 0 2 else 0).foldl max 0
  s.wrN R.CP_FLOOR (match top with | 0 => 0 | 1 => 6 | _ => 7)

/-- Step 2 of the commit point: stages that the last hour rollover decided apply, with PACE and CP_FLOOR (R22, R323). -/
def State.wearCommit (s : State) : State :=
  (s.media.pools.foldl (fun s p =>
    match s.media.wear.find p.1 with
    | none => s
    | some w =>
      match w.stageNext with
      | none => s
      | some n =>
        let was := s.fld (R.WR_STATE p.1) 0 2
        let s1 := s.wrN (R.WR_STATE p.1) (n + s.wearPace p.1 n % 65536 * 65536)
        let s2 := { s1 with media := { s1.media with wear := s1.media.wear.put p.1 { w with stageNext := none } } }
        let s3 := if was < n then s2.event 140 0 else if n < was then s2.event 140 1 else s2
        if n = 3 ∧ was < 3 then s3.raise 140 0x0100 0 0 else s3) s).wearFloor

/-- At the commit point a stride's pace is paid: what a part took beyond it counts in the next stride (R322; assumption log
50). -/
def State.wearPay (s : State) : State :=
  { s with media := { s.media with wear := s.media.wear.mapVals fun p w =>
      { w with used := if s.fld (R.WR_STATE p) 16 16 = 0 then 0 else w.used - s.fld (R.WR_STATE p) 16 16 } } }

/-! ### Hour rollover and the health page (R311, R319, R321, R327) -/

/-- HOUR_ROLLOVER (R311, R319, R321, R327): at the calendar's hour, retention ages, the governors compute, and every module's
record is updated. -/
def execHourRollover (s : State) : Out :=
  if s.calSec % 3600 ≠ 0 then .next s
  else
    let s1 := s.ageGroups
    let s2 := s1.media.pools.foldl (fun s p => s.wearHour p.1 p.2) s1
    .next (s2.media.health.foldl (fun s h => s.healthUpdate (s.portAt h.1 s.headId) h.1) s2)

/-- The whole record of the selected module is latched (R327). -/
def State.latchHealth (s : State) : State :=
  let bs := (s.media.health.find (s.fld R.HL_SEL 0 5)).elim [] HealthRec.bytes
  (List.range 64).foldl (fun s i => s.wrN (R.HL_REC i) (ofLeBytes ((bs.drop (4 * i)).take 4))) s

/-- HL_REC_LATCH (R327): reading the word at 0x100 latches the whole record of the selected module, and returns its first
word. -/
def execHlRecLatch (s : State) : Out :=
  .next (s.latchHealth.emit (.regRead (R.HL_REC 0) (s.latchHealth.rdN (R.HL_REC 0))))

end Sys2Proof.Machine
end

