-- ==== Sys2Proof/Machine/Mcache.lean ====
section
/-! DEFINITION. The metadata cache (R420 to R426, R429, R430). -/

namespace Sys2Proof.Machine

/-- The cache's own state takes a value. -/
def State.setMc (s : State) (m : McSt) : State := { s with mem := { s.mem with mc := m } }

/-- Sectors in a mask. -/
def popCount (m : Nat) : Nat := ((List.range 64).filter fun i => m.testBit i).length

/-- The set of a line: A[20:12] XOR A[29:21] (R420). -/
def mcSet (line : Nat) : Nat := line % 512 ^^^ line / 512 % 512

/-- Sectors an item touches. -/
def McItem.mask : McItem → Nat
  | .read m => m
  | .write m _ => m
  | .op _ _ => 0

/-- MC_MSR_INUSE and MC_DIRTY follow (R429). -/
def State.mcShow (s : State) : State :=
  (s.wrN R.MC_MSR_INUSE s.mem.mc.misses.length).wrN R.MC_DIRTY (s.mem.mc.lines.count fun _ l => decide (l.dirty ≠ 0))

/-- A line takes a value. -/
def State.setLine (s : State) (line : Nat) (l : McLine) : State :=
  s.setMc { s.mem.mc with lines := s.mem.mc.lines.put line l }

/-- A miss register takes a value. -/
def State.setMiss (s : State) (line : Nat) (m : McMiss) : State :=
  s.setMc { s.mem.mc with misses := s.mem.mc.misses.put line m }

/-! ### Victims (R423) -/

/-- The line in a way of a set. -/
def McSt.inWay (m : McSt) (set way : Nat) : Option (Nat × McLine) :=
  m.lines.first fun k l => decide (mcSet k = set ∧ l.way = way)

/-- A line that is no victim: it holds a miss register. -/
def McSt.pinned (m : McSt) (line : Nat) : Bool := m.misses.has line

/-- The clock hand passes ways whose referenced bit is 1, clearing it, and stops at the first that is 0; the cache after it,
and the victim. -/
def McSt.clock (m : McSt) (set : Nat) : Nat → Nat → McSt × Option (Nat × McLine)
  | 0, _ => (m, none)
  | n + 1, way =>
    match m.inWay set way with
    | none => m.clock set n ((way + 1) % 16)
    | some (k, l) =>
      if m.pinned k then m.clock set n ((way + 1) % 16)
      else if l.ref then ({ m with lines := m.lines.put k { l with ref := false } }).clock set n ((way + 1) % 16)
      else (m, some (k, l))

/-- A victim leaves: its DIRTY sectors are written to DRAM, and it is invalid from that moment (R423). -/
def State.evict (s : State) (k : Nat) (l : McLine) : State :=
  let m := s.mem.mc
  let s1 := s.setMc { m with lines := m.lines.drop k, hands := m.hands.put (mcSet k) ((l.way + 1) % 16),
                             evicting := if l.dirty = 0 then m.evicting else k :: m.evicting }
  s1.countBy R.MC_EVICT_DIRTY (popCount l.dirty)

/-- A way for a line: the one it holds, a free way, or a victim's; none while every way is pinned. -/
def State.mcWay (s : State) (line : Nat) : State × Option Nat :=
  let m := s.mem.mc
  let set := mcSet line
  match m.lines.find line with
  | some l => (s, some l.way)
  | none =>
    match (List.range 16).find? fun w => (m.inWay set w).isNone with
    | some w => (s, some w)
    | none =>
      match m.clock set 33 (m.hands.getD set 0) with
      | (m1, some (k, l)) => ((s.setMc m1).evict k l, some l.way)
      | (m1, none) => (s.setMc m1, none)

/-! ### Accesses (R421, R422) -/

/-- An access waits (R422, R423, R425). -/
def State.mcWait (s : State) (line : Nat) (i : McItem) : State :=
  s.setMc { s.mem.mc with waiting := s.mem.mc.waiting ++ [(line, i)] }

/-- An access that finds no room among the miss registers waits and counts, once (R422). -/
def State.mcFull (s : State) (line : Nat) (i : McItem) (again : Bool) : State :=
  if again then s.mcWait line i else ((s.mcWait line i).count R.MC_MSR_FULL).setMc { (s.mcWait line i).mem.mc with full := true }

/-- A miss (R422): it attaches to the line's miss register, or allocates one; `again`: it has waited. -/
def State.mcMiss (s : State) (line : Nat) (i : McItem) (again : Bool) : State :=
  let valid := (s.mem.mc.lines.find line).elim 0 McLine.valid
  let need := i.mask &&& (2 ^ 64 - 1 - valid)
  match s.mem.mc.misses.find line with
  | some r =>
    if r.shut then s.mcWait line i
    else if 16 ≤ r.items.length then s.mcFull line i again
    else
      let new := need &&& (2 ^ 64 - 1 - r.asked &&& (2 ^ 64 - 1))
      ((s.setMiss line { r with asked := r.asked ||| need, items := r.items ++ [i] }).count R.MC_MERGES).countBy
        R.MC_SECTOR_FILLS (popCount new)
  | none =>
    if 256 ≤ s.mem.mc.misses.length then s.mcFull line i again
    else
      match s.mcWay line with
      | (s1, none) => s1.mcFull line i again
      | (s1, some w) =>
        let l := (s1.mem.mc.lines.find line).getD { way := w, valid := 0, dirty := 0, ref := true }
        (((s1.setLine line l).setMiss line { asked := need, arrived := 0, written := 0, items := [i], shut := false }).count
          R.MC_MISSES).countBy R.MC_SECTOR_FILLS (popCount need)

/-- An access to a line (R421 to R423, R426): served from VALID sectors, or a miss; a write of whole sectors installs them. -/
def State.mcAccess (s : State) (line : Nat) (i : McItem) (again : Bool) : State :=
  if line ∈ s.mem.mc.broken then s.mcWait line i
  else if line ∈ s.mem.mc.evicting then (if again then s.mcWait line i else (s.mcWait line i).count R.MC_EVICT_WAITS)
  else
    match s.mem.mc.lines.find line with
    | none => s.mcMiss line i again
    | some l =>
      match i with
      | .read m => if l.valid &&& m = m then (s.setLine line { l with ref := true }).count R.MC_HITS else s.mcMiss line i again
      | .write m whole =>
        if l.valid &&& m = m ∨ whole then
          let s1 := s.setLine line { l with valid := l.valid ||| m, dirty := l.dirty ||| m, ref := true }
          let s2 := match s1.mem.mc.misses.find line with
            | none => s1
            | some r => s1.setMiss line { r with written := r.written ||| m }
          if l.valid &&& m = m then s2.count R.MC_HITS else s2
        else s.mcMiss line i again
      | .op _ _ => s

/-- An operation meets a line (R424, R425): it attaches to its miss register, waits where that is full or closed to it, or acts on the
resident line at once. -/
def State.mcOpLine (s : State) (o : McOp) (line : Nat) (again : Bool) : State :=
  match s.mem.mc.misses.find line with
  | some r =>
    let s0 := s.setMc { s.mem.mc with opLines := line :: s.mem.mc.opLines.filter fun k => decide (k ≠ line) }
    if r.shut then s0.mcWait line (.op o true)
    else if 16 ≤ r.items.length then s0.mcFull line (.op o true) again
    else (s0.setMiss line { r with items := r.items ++ [.op o true], shut := decide (o ≠ .clean) }).putBit R.MC_OP_STATUS 17 true
  | none =>
    let s0 := s.setMc { s.mem.mc with opLines := s.mem.mc.opLines.filter fun k => decide (k ≠ line) }
    match s0.mem.mc.lines.find line with
    | none => s0
    | some l =>
      match o with
      | .clean => s0.setLine line { l with dirty := 0 }
      | _ => s0.setMc { s0.mem.mc with lines := s0.mem.mc.lines.drop line }

/-- What has waited for a line has its turn. -/
def State.mcAgain (s : State) (line : Nat) (i : McItem) : State :=
  match i with
  | .op o _ => s.mcOpLine o line true
  | _ => s.mcAccess line i true

/-- A single-bit error is corrected in place (R426). -/
def State.sramCe (s : State) : State := (s.count R.MC_SRAM_CE).raise 150 0x0100 1 0

/-- An uncorrectable error of an object's sector: SRAM_UE, and the object is to be rebuilt (R426). -/
def State.sramUe (s : State) (line : Nat) (injected : Bool) : State :=
  (s.setMc { s.mem.mc with broken := line :: s.mem.mc.broken }).raise 150 0x0101 2 0 injected

/-- An access to sectors of a line (R421, R422, R426): `ecc` is what the sector's code shows on a hit: 0 no error, 1 a single-bit error, 2 a
double-bit error. -/
def State.mcTouch (s0 : State) (line mask : Nat) (write whole : Bool) (ecc : Nat) : State :=
  let s := s0.operate 150 0
  let i : McItem := if write then .write mask whole else .read mask
  match (if line ∈ s.mem.mc.broken then none else s.mem.mc.lines.find line) with
  | none => (s.mcAccess line i false).mcShow
  | some l =>
    let hit := decide (l.valid &&& mask = mask ∧ mask ≠ 0)
    let dirty := decide (l.dirty &&& mask ≠ 0)
    let (s0, inj) := if hit ∧ write = false ∧ dirty then s.inject 150 0x05 0 else (s, false)
    if hit = false ∨ (ecc = 0 ∧ inj = false) then (s0.mcAccess line i false).mcShow
    else if ecc = 1 ∧ inj = false then ((s0.sramCe).mcAccess line i false).mcShow
    else if dirty then ((s0.sramUe line inj).mcWait line i).mcShow
    else ((s0.setLine line { l with valid := l.valid &&& (2 ^ 64 - 1 - mask) }).mcMiss line i false).mcShow

/-- MCACHE_ACCESS (R421, R422, R426). -/
def execMcacheAccess (line mask : Nat) (write whole : Bool) (ecc : Nat) (s : State) : Out := .next (s.mcTouch line mask write whole ecc)

/-! ### Fills and the items they serve (R422, R425) -/

/-- One item is served in its turn: the line after it, none once a FLUSH or INVALIDATE has taken it. -/
def McItem.serve (i : McItem) (l : Option McLine) : Option McLine :=
  match i with
  | .read _ => l.map fun x => { x with ref := true }
  | .write m _ => l.map fun x => { x with valid := x.valid ||| m, dirty := x.dirty ||| m, ref := true }
  | .op .clean _ => l.map fun x => { x with dirty := 0 }
  | .op .flush _ => none
  | .op .invalidate _ => none

/-- The items of a line's miss register are served in order, and those that waited for it follow. -/
def State.mcServe (s : State) (line : Nat) : State :=
  match s.mem.mc.misses.find line with
  | none => s
  | some r =>
    let l := (s.mem.mc.lines.find line).map fun l => { l with valid := l.valid ||| r.asked }
    let l1 := r.items.foldl (fun l i => i.serve l) l
    let m := s.mem.mc
    let wait := (m.waiting.filter fun w => decide (w.1 = line)).map Prod.snd
    let s1 := s.setMc { m with
      misses := m.misses.drop line, lines := match l1 with | none => m.lines.drop line | some x => m.lines.put line x,
      opLines := m.opLines.filter fun k => decide (k ≠ line), waiting := m.waiting.filter fun w => decide (w.1 ≠ line),
      broken := m.broken.filter fun k => decide (k ≠ line) }
    let s2 := s1.putBit R.MC_OP_STATUS 17 (s1.mem.mc.misses.any fun x => x.2.items.any fun
      | .op _ true => true
      | _ => false)
    wait.foldl (fun s i => s.mcAgain line i) s2

/-- MCACHE_FILL_DONE (R422, R426): every sector that a miss register asked for has arrived, `poisoned` one that DRAM could not
correct. -/
def execMcacheFillDone (line : Nat) (poisoned : Bool) (s : State) : Out :=
  .next (if (s.mem.mc.misses.has line) = false ∨ line ∈ s.mem.mc.broken then s
  else if poisoned then (s.sramUe line false).mcShow
  else (s.mcServe line).mcShow)

/-- OBJECT_REBUILD (R426): the object of a broken line is rebuilt from its last flushed copy and the journal; one that cannot
be escalates to L4. -/
def execObjectRebuild (line : Nat) (ok : Bool) (s : State) : Out :=
  .next (if line ∉ s.mem.mc.broken then s
  else if ok = false then s.raise 150 0x0101 4 0
  else
    let s1 := s.setMc { s.mem.mc with broken := s.mem.mc.broken.filter fun k => decide (k ≠ line) }
    let s2 := ((s1.count R.MC_REBUILDS).raise 150 0x0102 2 0).event 150 2
    let wait := (s2.mem.mc.waiting.filter fun w => decide (w.1 = line)).map Prod.snd
    if s2.mem.mc.misses.has line then (s2.mcServe line).mcShow
    else (wait.foldl (fun s i => s.mcAgain line i)
      (s2.setMc { s2.mem.mc with waiting := s2.mem.mc.waiting.filter fun w => decide (w.1 ≠ line) })).mcShow)

/-! ### Maintenance operations (R424, R425) -/

/-- A software operation (R424, R429): `inside` tells whether its range lies in the metadata region. A line under eviction holds it until
the eviction writes complete (R425). -/
def State.mcOp (s : State) (o : McOp) (lo n : Nat) (inside : Bool) : State :=
  if s.bit R.MC_OP_STATUS 16 then s.writeDiscarded 150
  else if inside = false then (s.wrN R.MC_OP_STATUS St.invalidField).event 150 0
  else
    let s0 := s.wrN R.MC_OP_STATUS (2 ^ 16)
    let ks := ((s0.mem.mc.lines.map Prod.fst ++ s0.mem.mc.misses.map Prod.fst).eraseDups).filter
      fun k => decide (lo ≤ k ∧ k < lo + n)
    let evs := (s0.mem.mc.evicting.filter fun k => decide (lo ≤ k ∧ k < lo + n)).eraseDups
    let s1 := s0.setMc { s0.mem.mc with opLines := evs }
    (ks.foldl (fun s k => s.mcOpLine o k false) s1).mcShow

/-- First line and number of lines that MC_OP_ADDR and MC_OP_LINES name (R429). -/
def State.mcRange (s : State) : Nat × Nat := ((s.rd64 R.MC_OP_ADDR).toNat / 4096, s.fld R.MC_OP_LINES 0 17)

/-- MC_CLEAN (R424). -/
def execMcClean (inside : Bool) (s : State) : Out := .next (s.mcOp .clean s.mcRange.1 s.mcRange.2 inside)

/-- MC_FLUSH (R424). -/
def execMcFlush (inside : Bool) (s : State) : Out := .next (s.mcOp .flush s.mcRange.1 s.mcRange.2 inside)

/-- MC_CLEAN_ALL (R424): CLEAN of every line. -/
def execMcCleanAll (s : State) : Out := .next (s.mcOp .clean 0 (2 ^ 52) true)

/-- MC_INVALIDATE (R424): refused to software. -/
def execMcInvalidate (s : State) : Out :=
  .next (if s.bit R.MC_OP_STATUS 16 then s.writeDiscarded 150
    else ((s.wrN R.MC_OP_STATUS St.invalidField).event 150 0).raise 150 0x0103 0 0)

/-- MC_OP_DONE (R424): the last DRAM write of a software operation has completed. -/
def execMcOpDone (s : State) : Out :=
  .next (if s.bit R.MC_OP_STATUS 16 = false ∨ s.mem.mc.opLines ≠ [] then s
    else (s.wrN R.MC_OP_STATUS 0).event 150 0)

/-- Step of the commit point: eviction writes have completed, what waited for them runs, and MSR_FULL is set after any access
that waited (R423, R430; the completion of eviction writes within a stride is DEDUCED, assumption log 42). -/
def State.mcCommit (s : State) : State :=
  let m := s.mem.mc
  let s1 := if m.full then s.event 150 1 else s
  let wait := m.waiting.filter fun w => decide (w.1 ∉ m.broken)
  let s2 := s1.setMc { m with full := false, evicting := [], waiting := m.waiting.filter (fun w => decide (w.1 ∈ m.broken)),
                              opLines := m.opLines.filter fun k => decide (k ∉ m.evicting) || m.misses.has k }
  if wait = [] then s2 else (wait.foldl (fun s w => s.mcAgain w.1 w.2) s2).mcShow

end Sys2Proof.Machine
end

