-- ==== Sys2Proof/Machine/Merge.lean ====
section
/-! DEFINITION. The hot tier's sweep and deferred merging (R206, R208). -/

namespace Sys2Proof.Machine

/-- A segment is on the reclaim list: SELECTED, or RETIRED and handled as one (R206, R318). -/
def Seg.onReclaimList (g : Seg) : Bool := decide (g.state = .selected ∨ g.state = .retired)

/-- A hot entry points into a segment on the reclaim list (R206). -/
def State.sweeps (s : State) (k : Nat) (e : CamEntry) : Bool :=
  decide (3 * 65536 ≤ k ∧ k < 16 * 65536 ∧ e.st ≠ 0) && (s.segAt e.result).elim false fun g => g.2.onReclaimList

/-- HOT_TIER_SWEEP (R206): one sweep, from start to end. Every dedup entry whose address lies in a segment on the reclaim list is
invalidated, and those segments have been swept. -/
def execHotTierSweep (s : State) : Out :=
  let es := s.cam.entries.mapVals fun k e => if s.sweeps k e then { e with st := 0 } else e
  .next { s with
    cam := { s.cam with entries := es },
    media := { s.media with segs := s.media.segs.mapVals fun _ g => if g.onReclaimList then { g with swept := true } else g } }

/-- The order of the flash tier: CLASS, then DIGEST (R208). -/
def DdRec.before (a b : DdRec) : Bool := decide (a.cls < b.cls ∨ (a.cls = b.cls ∧ a.digest ≤ b.digest))

/-- A record enters the flash tier at its place. -/
def tierInsert (y : DdRec) : List DdRec → List DdRec
  | [] => [y]
  | x :: xs => if y.before x then y :: x :: xs else x :: tierInsert y xs

/-- A record enters the flash tier of a pool. -/
def State.tierPut (s : State) (pool : Nat) (y : DdRec) : State :=
  { s with cam := { s.cam with flash := s.cam.flash.put pool (tierInsert y (s.cam.flash.getD pool [])) } }

/-- The flash tier record with equal class and digest whose target passes conditions 1 to 3 of R205 (R208). -/
def State.tierMatch (s : State) (pool : Nat) (y : DdRec) : Option DdRec :=
  (s.cam.flash.getD pool []).find? fun o =>
    decide (o.cls = y.cls ∧ o.digest = y.digest) && s.holds (paddockOf (gaDie o.target)) && s.candCount o.target []
      && s.candSegment o.target (.tier o.segSeq) 0

/-- One log record is merged (R208): its grain's map entry is pointed at an equal grain, or the record joins the tier. -/
def State.mergeOne (s : State) (pool : Nat) (y : DdRec) : State :=
  match s.tierMatch pool y, s.storedAt y.target with
  | some o, some h =>
    if s.finalRefs y.target = 1 ∧ gaKey (s.finalEntry h.vol h.grain) = gaKey y.target ∧ (s.vol h.vol).isSome then
      if polVerify (s.policy h.vol) ∧ ((s.storedAt o.target).elim false fun x => x.same h.bytes h.piTags) = false then
        ((s.count R.DD_VERIFY_MISMATCH).event 91 0).tierPut pool y
      else
        ((s.addTxn (s.poolOf h.vol) txMerge 0 h.vol
          [.setGrain h.vol h.grain (gaShared o.target) (s.finalEntry h.vol h.grain)]).1).count R.DD_MERGED
    else s.tierPut pool y
  | _, _ => s.tierPut pool y

/-- Deferred merging of a pool may work: it is enabled, and the matrix admits it (R208, R219). -/
def State.mergeMay (s : State) (pool : Nat) : State × Bool :=
  if s.bit R.DD_CTRL 2 = false ∨ s.halted 91 ∨ s.tailFull ∨ s.mutedModules ∨ s.spilling ∨ (s.pool pool).isNone then
    (s, false)
  else s.standing actMerge pool

/-- DEDUP_MERGE_STEP (R208): the work of one stride on a pool: up to DD_MERGE_RATE log records, in log order. -/
def execDedupMergeStep (pool : Nat) (s : State) : Out :=
  match s.mergeMay pool with
  | (_, false) => .next s
  | (s1, true) =>
    let n := s1.fld R.DD_MERGE_RATE 0 11
    let log := s1.cam.logs.getD pool []
    let s2 := { s1 with cam := { s1.cam with logs := s1.cam.logs.put pool (log.drop n) } }
    .next ((log.take n).foldl (fun s y => s.mergeOne pool y) s2)

end Sys2Proof.Machine
end

