-- ==== Sys2Proof/Machine/Read.lean ====
section
/-! DEFINITION. The read path (08_read_path.md, R221 to R236, R337): checks, Cistern hits, map lookup, the way to a die, collection,
recovery, protection information, and completion. -/

namespace Sys2Proof.Machine

/-! ### Checks (R221) -/

/-- A Read or Verify that the Weir has admitted runs through checks 1 to 5 of R141; one for a volume of the partner head is
forwarded there (R382). -/
def State.startRead (s : State) (n : Nat) (op : HostOp) (legacy : Bool) : State :=
  match s.cmd n with
  | none => s
  | some c =>
    if c.stage ≠ .admitted ∨ c.img.op ≠ op ∨ (decide (c.src.queue.1 = 0)) ≠ legacy ∨ s.halted 94 then s
    else if s.isStale c then s.complete n St.headFenced
    else
      let st := s.checks c
      if st ≠ St.success then s.complete n st
      else
        let v := c.vol.getD 0
        if s.owns v = false then
          let s1 := (s.endReads { c with slots := 0 }).setCmd n { c with reads := [] }
          s1.forward n { c with reads := [] } v
        else if c.reads = [] then
          let (s1, gs) := s.searchRead c v [] []
          (s1.fwdTaken c).setCmd n { c with stage := .checked, reads := gs }
        else (s.fwdTaken c).setCmd n { c with stage := .checked }

/-- LQ_READ (R98, R221). -/
def execLqRead (n : Nat) (s : State) : Out := .next (s.startRead n .read true)
/-- LQ_VERIFY (R98, R221). -/
def execLqVerify (n : Nat) (s : State) : Out := .next (s.startRead n .verify true)
/-- NVME_READ (R221). -/
def execNvmeRead (n : Nat) (s : State) : Out := .next (s.startRead n .read false)
/-- NVME_VERIFY (R221). -/
def execNvmeVerify (n : Nat) (s : State) : Out := .next (s.startRead n .verify false)

/-- BASIN_WAIT_TIMEOUT (R222): a Read that cannot be admitted within 25,000 strides of fetch completes with BUSY_RETRY. -/
def execBasinWaitTimeout (n : Nat) (s : State) : Out :=
  match s.cmd n with
  | none => .next s
  | some c =>
    if c.stage = .fetched ∧ c.img.op = .read ∧ 25000 ≤ s.since c.fetchedAt then .next (s.complete n St.busyRetry) else .next s

/-- BASIN_SLOT_FREE (R222): `k` slots of completed fabrics reads are free once the RDMA Writes carrying them have been
acknowledged. -/
def execBasinSlotFree (k : Nat) (s : State) : Out :=
  let m := min k s.front.rdmaSlots
  .next (({ s with front := { s.front with rdmaSlots := s.front.rdmaSlots - m } }).wrN R.RD_BASIN_FREE
    (min (s.rdN R.RD_BASIN_FREE + m) 16384))

/-! ### Grains and completion -/

/-- Grain `i` of command `n`, while it is read here. -/
def State.rdGrain (s : State) (n i : Nat) : Option RdGrain :=
  match s.cmd n with
  | none => none
  | some c => if c.stage = .checked then c.reads[i]? else none

/-- Grain `i` of command `n` takes a value. -/
def State.setRdGrain (s : State) (n i : Nat) (g : RdGrain) : State :=
  match s.cmd n with
  | none => s
  | some c => s.setCmd n { c with reads := c.reads.set i g }

/-- Guard, application tag and reference tag of the sectors of a grain that the command covers (R227, R233). -/
def sectorPis (c : HostCmd) (v : Vol) (g : RdGrain) : List (Nat × Nat × Nat) :=
  let k := sectorsPerGrain v.format
  if hasPi v.format = false then []
  else
    (maskBits k (sectorMask v.format c.img.slba c.img.blocks g.grain)).map fun i =>
      let t := (g.tags[i]?).getD 0
      let lba := g.grain * k + i
      let ref := if g.blank / 2 ^ i % 2 = 1 ∨ piTypeOf v.format = 3 then 0xFFFFFFFF
        else refTagOf (piTypeOf v.format) lba (lba - c.img.slba) c.img.ilbrt
      (t % 65536, t / 65536 % 65536, ref)

/-- The protection information returned: none with PRACT = 1 (R233). -/
def readPi (c : HostCmd) (v : Vol) (g : RdGrain) : List (Nat × Nat × Nat) := if c.img.pract then [] else sectorPis c v g

/-- The application tag compare of a read fails for a sector (R233). -/
def appTagBad (c : HostCmd) (pi : List (Nat × Nat × Nat)) : Bool :=
  c.img.chkApp && pi.any fun t => decide (t.2.1 &&& c.img.lbatm ≠ c.img.lbat &&& c.img.lbatm)

/-- The sectors of a grain that a mask names, in order. -/
def takeSectors (format mask : Nat) (data : List Byte) : List Byte :=
  (maskBits (sectorsPerGrain format) mask).flatMap fun i => (data.drop (i * sectorBytes format)).take (sectorBytes format)

/-- A Basin slot of a read is freed: over PCIe its writes have been issued; over RDMA once its RDMA Write is acknowledged (R222). -/
def State.slotFree (s : State) (n : Nat) : State :=
  match s.cmd n with
  | none => s
  | some c =>
    if c.slots = 0 then s
    else
      let s1 := s.setCmd n { c with slots := c.slots - 1 }
      match c.src with
      | .fabrics _ _ => { s1 with front := { s1.front with rdmaSlots := s1.front.rdmaSlots + 1 } }
      | _ => s1.wrN R.RD_BASIN_FREE (min (s1.rdN R.RD_BASIN_FREE + 1) 16384)

/-- A grain in the Basin is transferred: to the host, to the head that received the command, or nowhere for a Verify (R222,
R382); a write of a stale generation is discarded and counted (R89). -/
def State.transfer (s : State) (n : Nat) (c : HostCmd) (v : Vol) (g : RdGrain) : State :=
  let mask := sectorMask v.format c.img.slba c.img.blocks g.grain
  let data := takeSectors v.format mask g.data
  let pi := readPi c v g
  if c.img.op ≠ .read then s
  else
    match c.src with
    | .forwarded id => (s.tlSend (.fwdData id g.grain mask data pi)).slotFree n
    | _ =>
      (if s.isStale c then c.src.fn.elim s s.staleDiscard
      else (s.emit (.readData c.src g.grain mask data pi)).srcSend c.src data.length).slotFree n

/-- The status of a read: that of the first grain that failed (R232, R233). -/
def readStatus (gs : List RdGrain) : Nat := (gs.find? fun g => decide (g.status ≠ 0)).elim 0 RdGrain.status

/-- Parts of a read that fail with UNRECOVERED_READ or CHECK_VALUE (R236). -/
def lostParts (gs : List RdGrain) : Nat :=
  ((gs.filter fun g => decide (g.status = St.unrecoveredRead ∨ g.status = St.checkValue)).map RdGrain.part).eraseDups.length

/-- The conditions of R234 hold: no block of the read path is frozen, no rebuild, reshape or remount runs, and the units of the path are in
state RUN (R5). -/
def State.boundHolds (s : State) : Bool :=
  (classPages wRd ++ [136, 137, 141, 150]).all (fun p => !s.bit (R.PG_STATE p) 10)
    && s.media.pools.all (fun p => decide (s.redund p.1 = rdNormal ∨ s.redund p.1 = rdDegraded)) && s.guard.job.isNone
    && [93, 136, 141].all fun p => (List.range (unitsServing p)).all fun u => decide (s.unitSt p u = .run)

/-- A read exceeds its bound (R229, R234, R235): one of its grains went to a die in spite of the wait, none failed its first decode, and the
strides from admission pass RD_FLASH_BOUND, what further grains and forwarding add included; for a map page from flash no bound is
taken (its part of the bound is the same maximum once more). -/
def State.boundMissed (s : State) (c : HostCmd) : Bool :=
  let more := ceilDiv c.reads.length 64 - 1 + (match c.src with | .forwarded _ => 2 | _ => 0)
  let page := if c.reads.any RdGrain.pageRead then s.fld R.RD_FLASH_BOUND 0 8 - 6 else 0
  (c.reads.any fun g => decide (g.path = .waited)) && (c.reads.all fun g => g.allDecoded && !g.checkBad && decide (g.status = 0))
    && decide (s.fld R.RD_FLASH_BOUND 0 8 + more + page < s.since c.admittedAt) && s.boundHolds

/-- Once every grain of a read is in the Basin or has failed, the command completes. -/
def State.finishRead (s : State) (n : Nat) : State :=
  match s.cmd n with
  | none => s
  | some c =>
    if c.stage = .checked ∧ c.reads.all (fun g => decide (g.stage = .done)) then
      let s1 := if s.boundMissed c then (s.count R.RD_BOUND_MISS).event 94 0 else s
      (s1.countBy R.RD_UNRECOVERED (lostParts c.reads)).complete n (readStatus c.reads)
    else s

/-- A grain has all its sectors: it is placed in the Basin and transferred (R222, R233). -/
def State.grainDone (s : State) (n i : Nat) (g : RdGrain) : State :=
  match s.cmd n with
  | none => s
  | some c =>
    match s.vol g.vol with
    | none => s
    | some v =>
      let st := if appTagBad c (sectorPis c v g) then St.piAppTag else 0
      let g1 := { g with stage := .done, need := 0, status := st }
      ((s.setRdGrain n i g1).transfer n c v g1).finishRead n

/-- A grain cannot be supplied: it fails with a status (R232). -/
def State.grainFail (s : State) (n i : Nat) (g : RdGrain) (st : Nat) : State :=
  (s.setRdGrain n i { g with stage := .done, status := st }).finishRead n

/-! ### Cistern hits (R223 to R225) -/

/-- What the checks of a grain's bytes answer (R225, R231, R233). -/
inductive Verdict where
  /-- the header disagrees with the address -/
  | header
  /-- DECODE_ERROR -/
  | decode
  /-- the check value or a guard differs -/
  | check
  | ok (data : List Byte) (tags : List Nat)
  deriving DecidableEq, Repr

/-- The guards of the sectors of a mask agree with the data (R233). -/
def guardsOk (format mask : Nat) (data : List Byte) (tags : List Nat) : Bool :=
  let k := sectorsPerGrain format
  let b := sectorBytes format
  !hasPi format || (maskBits k mask).all fun i => decide (crc16 ((data.drop (i * b)).take b) = (tags[i]?).getD 0 % 65536)

/-- A grain of a Cistern entry is decoded and checked (R211, R225, R233). -/
def State.entryCheck (s : State) (unit format : Nat) (x : Grain) : State × Verdict :=
  let k := sectorsPerGrain format
  if x.hasData = false then
    (s, .ok (List.replicate 4096 0) (if x.dealloc then List.replicate 8 0xFFFF0000 else List.replicate 8 0))
  else
    let (s1, d) := if x.partGrain then (s, some (spreadSectors k (sectorBytes format) x.mask x.body))
      else s.decompress unit x.raw x.lenGranules x.body
    match d with
    | none => (s1, .decode)
    | some data => (s1, if x.checks data && guardsOk format x.mask data x.piTags then .ok data x.piTags else .check)

/-- Grain `i` of an entry as its bytes are read, DRAM having flipped some (R225). -/
def State.entryGrain (s : State) (q i : Nat) (errs : List (Nat × Nat)) : Option Grain :=
  (s.part q).bind fun p =>
    if errs = [] then p.grains[i]?
    else (readEntry (withErrors (p.image (if q < 2 ^ 63 then s.headId else 1 - s.headId) (q % 2 ^ 63)) errs)).grains[i]?

/-- The sectors that are still needed and that an entry supplies. -/
def RdGrain.fromEntry (g : RdGrain) (format : Nat) (x : Grain) (data : List Byte) (tags : List Nat) : RdGrain :=
  let k := sectorsPerGrain format
  let m := g.need &&& x.mask
  { g with data := mergeBytes (sectorBytes format) k m data g.data, tags := mergeTags k m tags g.tags,
           blank := if x.dealloc then g.blank ||| m else g.blank, need := g.need - m }

/-- One copy of an entry's grain is tried: its verdict, DECODE_ERROR where the bytes tell of no such grain. -/
def State.tryEntry (s : State) (unit format q i : Nat) (errs : List (Nat × Nat)) : State × Verdict :=
  match s.entryGrain q i errs with
  | none => (s, .decode)
  | some x => s.entryCheck unit format x

/-- One chosen entry supplies its sectors (R225): from this head's copy, else from the partner's mirror, ENTRY_CRC placed. The status of a
grain that no copy supplies: UNRECOVERED_READ where a copy could not be decoded, else CHECK_VALUE (R232). -/
def State.takeEntry (s : State) (unit format : Nat) (own mir : List (Nat × List (Nat × Nat))) (g : RdGrain) (q : Nat) :
    State × RdGrain × Nat :=
  match (s.part q).bind fun p => if p.first ≤ g.grain then (p.grains[g.grain - p.first]?).map fun x => (g.grain - p.first, x) else none with
  | none => (s, g, 0)
  | some (i, x) =>
    if g.need &&& x.mask = 0 then (s, g, 0)
    else
      let errs := fun (l : List (Nat × List (Nat × Nat))) => (l.find? fun y => decide (y.1 = q)).elim [] Prod.snd
      let (s1, v1) := s.tryEntry unit format q i (errs own)
      match v1 with
      | .ok data tags => (s1, g.fromEntry format x data tags, 0)
      | _ =>
        let mate := s1.hasMate q
        let s2 := (if mate then s1.tlSend (.entryFetch q) else s1).raise 89 0x0102 2 0
        let (s3, v2) := if mate then s2.tryEntry unit format q i (errs mir) else (s2, v1)
        match v2 with
        | .ok data tags => (s3, g.fromEntry format x data tags, 0)
        | _ => (s3, g, if v1 = .decode ∨ v2 = .decode then St.unrecoveredRead else St.checkValue)

/-- The chosen entries supply their sectors, the highest CSEQ first, until one cannot. -/
def State.takeEntries (s : State) (unit format : Nat) (own mir : List (Nat × List (Nat × Nat))) (g : RdGrain) :
    List Nat → State × RdGrain × Nat
  | [] => (s, g, 0)
  | q :: qs =>
    match s.takeEntry unit format own mir g q with
    | (s1, g1, 0) => s1.takeEntries unit format own mir g1 qs
    | r => r

/-- CISTERN_HIT_READ (R223 to R225): the entries chosen for a grain are copied into the Basin and held no more. `own` and `mir` are the bits
that DRAM has flipped of an entry here and in the partner's mirror half, by CSEQ; `unit` is the decompression unit. A grain that no copy
supplies has no address: the loss list takes it when destage writes it as poison (R335). -/
def execCisternHitRead (n i unit : Nat) (own mir : List (Nat × List (Nat × Nat))) (s : State) : Out :=
  match s.rdGrain n i with
  | none => .next s
  | some g =>
    if g.stage ≠ .search ∨ s.halted 94 ∨ s.halted 93 then .next s
    else
      let format := (s.vol g.vol).elim 0 Vol.format
      let (s1, g1, st) := s.takeEntries unit format own mir g g.chosen
      let g2 := { g1 with chosen := [] }
      let s2 := s1.unhold g.chosen
      if st ≠ 0 then .next ((((s2.count R.RD_GRAINS).raise 94 0x0101 2 0).event 94 1).grainFail n i g2 st)
      else
        let s3 := s2.count R.RD_CISTERN_HITS
        if g2.need = 0 then
          .next (((if g2.mapped ∧ isGrain g2.addr then s3.unread g2.addr else s3).count R.RD_GRAINS).grainDone n i g2)
        else .next (s3.setRdGrain n i { g2 with stage := .lookup })

/-! ### Map lookup (R226 to R228, R355) -/

/-- Sectors that no physical grain holds: zeros, with the tags of never-written or of zero sectors (R227). -/
def RdGrain.fromNone (g : RdGrain) (format : Nat) (zero : Bool) : RdGrain :=
  let k := sectorsPerGrain format
  { g with data := mergeBytes (sectorBytes format) k g.need (List.replicate 4096 0) g.data,
           tags := mergeTags k g.need (List.replicate 8 (if zero then 0 else 0xFFFF0000)) g.tags,
           blank := if zero then g.blank else g.blank ||| g.need, need := 0 }

/-- The accesses of a lookup have been served: none of its lines has a miss register, waits, or is broken (R422, R426). -/
def State.linesServed (s : State) (ls : List Nat) : Bool :=
  ls.all fun l => !s.mem.mc.misses.has l && decide (l ∉ s.mem.mc.broken) && !(s.mem.mc.waiting.any fun w => decide (w.1 = l))

/-- The map is looked up for every grain of a part at once, so that the part finds all of a transaction or none of it (R159, R221; DEDUCED,
assumption log 94): each takes its address and a reader count on its segment (R228). -/
def State.mapPart (s : State) (n part : Nat) : State :=
  match s.cmd n with
  | none => s
  | some c =>
    (List.range c.reads.length).foldl (fun s j =>
      match s.rdGrain n j with
      | none => s
      | some g =>
        if g.part ≠ part ∨ g.mapped ∨ g.stage = .done then s
        else
          let a := s.mapEntry g.vol g.grain
          let s1 := if isGrain a then
            match s.segAt a with
            | none => s
            | some (k, _) => s.setSeg k fun x => { x with readers := x.readers + 1 }
          else s
          s1.setRdGrain n j { g with addr := a, mapped := true }) s

/-- A grain whose map entry is known goes on: no physical grain, a lost one, or one to be read (R227, R228, R355). -/
def State.mapGo (s : State) (n i : Nat) : State :=
  match s.rdGrain n i with
  | none => s
  | some g =>
    let format := (s.vol g.vol).elim 0 Vol.format
    if isGrain g.addr = false then (s.count R.RD_GRAINS).grainDone n i (g.fromNone format (decide (g.addr = gaZero)))
    else if gaKey g.addr ∈ s.media.lost then (s.unread g.addr).grainFail n i g St.unrecoveredRead
    else s.setRdGrain n i { g with stage := .choose }

/-- MAP_LOOKUP (R226 to R228, R355): the map entry of a grain, and of its part, is looked up: through the metadata cache, by accesses of
`lines` (line, sector mask, what the sector's code shows), which go to the map pages in head DRAM where they miss, so that the lookup waits
for them; and from flash, where the map page with the ID `page` is not in head DRAM: its last flushed copy is read like a grain and then
installed. -/
def execMapLookup (n i : Nat) (lines : List (Nat × Nat × Nat)) (page : Option Nat) (s : State) : Out :=
  match s.rdGrain n i with
  | none => .next s
  | some g =>
    if g.stage ≠ .lookup ∨ s.halted 94 ∨ s.linesServed g.lines = false ∨ (s.vol g.vol).elim true (fun v => (s.pool v.pool).isNone) then .next s
    else if g.mapped then .next (s.mapGo n i)
    else
      match (page.bind fun id => (s.mpage (s.poolOf g.vol) id).map MapPage.addr).bind fun a => (s.segAt a).map fun k => (a, k.1) with
      | some (a, k) =>
        .next ((s.setSeg k fun x => { x with readers := x.readers + 1 }).setRdGrain n i
          { g with addr := a, mapped := true, page := some a, pageRead := true, stage := .choose })
      | none =>
        if s.halted 150 ∧ lines ≠ [] then .next s
        else
          let s1 := lines.foldl (fun s x => s.mcTouch x.1 x.2.1 false false x.2.2) s
          let ls := lines.map Prod.fst
          if s1.linesServed ls then .next ((s1.mapPart n g.part).mapGo n i)
          else .next (s1.setRdGrain n i { g with lines := ls })

/-! ### The way to the die (R229, R337) -/

/-- W of a member. -/
def State.placeWait (s : State) (pool : Nat) (x : Place) : Nat := s.dieWait (s.portOf pool x.module) x.module x.die

/-- The members other than `k` that may supply a rebuild, those that hold Q last (R229, R337). -/
def State.peers (s : State) (pool : Nat) (p : Pool) (g : Seg) (k page : Nat) : List Place :=
  let ps := (g.place.mapIdx fun i x => (i, x)).filter fun x => decide (x.1 ≠ k) && !s.absent pool p g page x.1 x.2
  let last := fun (x : Nat × Place) => decide (p.kindOf g.seq = 3 ∧ positionOf g.place.length x.1 page + 1 = g.place.length)
  ((ps.filter fun x => !last x) ++ ps.filter last).map Prod.snd

/-- A READ of a grain's codewords on a member. -/
def State.sendRead (s : State) (n i pool a page : Nat) (shift : Int) (x : Place) : State :=
  let (w, c) := grainWords a
  s.sendMod (s.portOf pool x.module) (s.readCmd x.module x.die x.bgrp page w c true shift (.read n i))

/-- A grain's media reads are issued on members. -/
def State.issueReads (s : State) (n i pool : Nat) (g : RdGrain) (path : RdPath) (xs : List Place) : State :=
  (xs.foldl (fun s x => s.sendRead n i pool g.addr (gaPage g.addr) 0 x) s).setRdGrain n i
    { g with path := path, stage := .issued, issued := s.now, left := xs.length, bad := false }

/-- Reads of a reconstruction go to members of the grain's stripe, with the trims of its round (R337). -/
def State.reconRead (s : State) (n i : Nat) (g : RdGrain) (sg : Seg) (r : Recon) (ks : List Nat) : State :=
  let shift : Int := match r.trim with | 0 => 0 | 1 => 4 | _ => -4
  let xs := ks.filterMap fun k => sg.place[k]?
  (xs.foldl (fun s x => s.sendRead n i sg.pool g.addr (gaPage g.addr) shift x) s).setRdGrain n i
    { g with stage := .recover, left := xs.length, bad := false, recon := r }

/-- The grain is recovered (R232, R337): its target and the absent members are erased, and the sources are read. -/
def State.startRecover (s : State) (n i : Nat) (g : RdGrain) : State :=
  let none_ := { g with stage := .recover, left := 0, bad := false, recon := Recon.start }
  match s.segAt g.addr with
  | none => s.setRdGrain n i none_
  | some (_, sg) =>
    match s.pool sg.pool with
    | none => s.setRdGrain n i none_
    | some p =>
      let k := match g.path with | .copy j => j | _ => sg.memberAt g.addr
      let e := (k :: s.absentAt sg.pool p sg (gaPage g.addr)).eraseDups
      match reconSources (p.kindOf sg.seq) sg.place.length (gaPage g.addr) e false with
      | none => s.setRdGrain n i { none_ with recon := { Recon.start with erased := e } }
      | some ks => s.reconRead n i g sg { Recon.start with erased := e, sources := ks } ks

/-- The program or erase in progress on a die may be suspended: the operation that it has started, suspended fewer than SUSP_MAX times
(R229, R250). -/
def State.maySuspend (s : State) (pool : Nat) (x : Place) : Bool :=
  let port := s.portOf pool x.module
  s.bit R.RD_CTRL 1 && decide ((s.die x.module x.die).st ≠ .suspended)
    && decide ((s.die x.module x.die).suspensions < s.fld R.RD_SUSP_MAX 0 4)
    && (s.mlink port).tags.any fun c =>
      decide (c.2.die = x.die ∧ (c.2.opcode = opProgram ∨ c.2.opcode = opErase)) && c.2.expect.isSome

/-- SUSPEND goes to a die ahead of a read (R229). -/
def State.suspendDie (s : State) (pool : Nat) (x : Place) : State :=
  ((s.setDie x.module x.die fun d => { d with st := .suspended, suspensions := d.suspensions + 1 }).sendMod
    (s.portOf pool x.module) { ModCmd.plain opSuspend x.die .suspend with urgent := true }).count R.RD_SUSPENDS

/-- Parity layouts: direct, read-around, suspend, or direct in spite of the wait (R229). -/
def State.chooseParity (s : State) (n i : Nat) (g : RdGrain) (sg : Seg) (p : Pool) (k : Nat) (x : Place) : State :=
  let pool := sg.pool
  let need := dataChunks (p.kindOf sg.seq) sg.place.length
  let ps := s.peers pool p sg k (gaPage g.addr)
  let idle := ps.filter fun y => decide (s.placeWait pool y ≤ 2)
  if s.absent pool p sg (gaPage g.addr) k x then
    if need ≤ ps.length then s.issueReads n i pool g .around (ps.take need) else s.startRecover n i { g with allDecoded := false }
  else if s.placeWait pool x ≤ s.fld R.RD_RA_THRESH 0 8 ∨ g.forced then s.issueReads n i pool g .direct [x]
  else if s.bit R.RD_CTRL 0 ∧ s.cam.raUsed < s.fld R.RD_RA_MAX 0 12 ∧ need ≤ idle.length then
    ({ s with cam := { s.cam with raUsed := s.cam.raUsed + 1 } }).issueReads n i pool g .around (idle.take need)
  else if s.maySuspend pool x then (s.suspendDie pool x).issueReads n i pool g .suspend [x]
  else s.issueReads n i pool g .waited [x]

/-- The member of least W. -/
def State.leastWait (s : State) (pool : Nat) (xs : List (Nat × Place)) : Option (Nat × Place) :=
  xs.foldl (fun b x =>
    match b with
    | none => some x
    | some y => if s.placeWait pool x.2 < s.placeWait pool y.2 then some x else some y) none

/-- DIE_CHOICE (R229): for a grain whose address is known, the way to the die is chosen and its reads are issued. -/
def execDieChoice (n i : Nat) (s : State) : Out :=
  match s.rdGrain n i with
  | none => .next s
  | some g =>
    if g.stage ≠ .choose ∨ s.mutedModules ∨ s.halted 94 then .next s
    else
      match s.segAt g.addr with
      | none => .next s
      | some (_, sg) =>
        match s.pool sg.pool with
        | none => .next s
        | some p =>
          let k := sg.memberAt g.addr
          if p.kindOf sg.seq ≤ 1 then
            let xs := (sg.place.mapIdx fun j x => (j, x)).filter fun x => !s.absent sg.pool p sg (gaPage g.addr) x.1 x.2
            match s.leastWait sg.pool xs with
            | none => .next (s.startRecover n i { g with allDecoded := false })
            | some (j, x) => .next (s.issueReads n i sg.pool g (if j = k then .direct else .copy j) [x])
          else
            match sg.place[k]? with
            | none => .next s
            | some x => .next (s.chooseParity n i g sg p k x)

/-! ### Responses and collection (R230, R231) -/

/-- A suspended die resumes once the reads issued into its suspension have been collected (R230, R250). -/
def State.resumeDie (s : State) (port m d : Nat) : State :=
  if (s.die m d).st = .suspended ∧ (s.onDie port d).all (fun c => decide (c.opcode ≠ opRead)) then
    (s.setDie m d fun x => { x with st := .idle, remain := x.remain.map fun r => (r.1, s.now) }).sendMod port (ModCmd.plain opResume d .resume)
  else s

/-- A media read of a grain has been answered: its first decodes are reported, a failed one is a read failure of its block
group, and the grain waits for one read less. Reads of a recovery add no counts (R303, R314). `media`: the failure is the
media's. -/
def State.readAnswer (s : State) (port m : Nat) (c : ModCmd) (n i : Nat) (ok media : Bool) (r : DecodeReport) : State :=
  let recovering := (s.rdGrain n i).elim true fun g => decide (g.stage ≠ .issued)
  let (s1, inj) := if recovering then (s, false) else s.inject 94 0x05 r.unit
  let r1 := if inj then { r with words := r.words - 1, failed := r.failed + 1 } else r
  let bad := !ok || decide (0 < r1.failed)
  let s2 := if ok ∧ recovering = false then s1.report port m c.die c.bgrp c.page true false r1 else s1
  let s3 := if bad ∧ (ok ∨ media) then s2.noteFail c.tag (.read port m c.die c.bgrp) else s2
  let pos := fun (g : RdGrain) => (s3.segAt g.addr).bind fun x => x.2.place.findIdx? fun y => decide (y.module = m ∧ y.die = c.die)
  let s4 := match s3.rdGrain n i with
    | none => s3
    | some g => s3.setRdGrain n i { g with
        left := g.left - 1, bad := g.bad || bad, allDecoded := g.allDecoded && !(bad && decide (g.stage = RdStage.recover)),
        recon := if bad = true ∧ g.stage = RdStage.recover then { g.recon with erased := (g.recon.erased ++ (pos g).toList).eraseDups } else g.recon }
  s4.resumeDie port m c.die

/-- The stored grain supplies the sectors that are still needed. -/
def RdGrain.fromStored (g : RdGrain) (format : Nat) (data : List Byte) (tags : List Nat) : RdGrain :=
  let k := sectorsPerGrain format
  { g with data := mergeBytes (sectorBytes format) k g.need data g.data, tags := mergeTags k g.need tags g.tags, need := 0 }

/-- A grain's bytes as read from flash and decoded are checked: header, decompression, check value, guards (R231, R233). `errs` are bits
that the decoders left wrong in the header and the data granules. -/
def State.storedCheck (s : State) (unit format a : Nat) (x : Stored) (errs : List (Nat × Nat)) : State × Verdict :=
  let img := withErrors (x.header (gaChunkGranule a) ++ padTo (64 * gaLen a) x.body) errs
  let h := img.take 96
  if headerAgrees h (gaChunkGranule a) (gaLen a) (gaRaw a) = false then (s, .header)
  else
    let (s1, d) := s.decompress unit (gaRaw a) (gaLen a) (img.drop 96)
    match d with
    | none => (s1, .decode)
    | some data =>
      let tags := piTagsOf 8 (h.drop 64)
      (s1, if crc32c data = headerCheck h ∧ guardsOk format (2 ^ sectorsPerGrain format - 1) data tags then .ok data tags else .check)

/-- A grain read from flash is served; its segment has one reader less, and its latency is noted (R228, R231, R236). -/
def State.serveStored (s : State) (n i : Nat) (g : RdGrain) (data : List Byte) (tags : List Nat) : State :=
  match s.cmd n with
  | none => s
  | some c =>
    let format := (s.vol g.vol).elim 0 Vol.format
    let took := s.since c.admittedAt
    let s1 := ((s.unread g.addr).count R.RD_GRAINS).highWater R.RD_LAT_MAX (min took 255)
    let s2 := if g.path = .around then s1.count R.RD_READAROUND else s1
    s2.grainDone n i (g.fromStored format data tags)

/-- What follows a failed collection: after a read-around a direct read, else recovery (R230, R232). -/
def State.collectFail (s : State) (n i : Nat) (g : RdGrain) : State :=
  if g.path = .around ∧ g.forced = false ∧ g.checkBad = false then
    s.setRdGrain n i { g with stage := .choose, forced := true, allDecoded := false }
  else s.startRecover n i g

/-- A map page that was read from flash is installed, and the lookup goes on (R226). -/
def State.pageIn (s : State) (n i : Nat) (g : RdGrain) : State :=
  (s.unread g.addr).setRdGrain n i { g with addr := 0, mapped := false, page := none, stage := .lookup, path := .direct, left := 0,
                                            bad := false, recon := Recon.start, forced := false }

/-- A range was reconstructed, with Q in place of P where P did not pass: SP_RECON, SP_Q_RETRY, PARITY_MISMATCH and REFRESH (R337,
R358). -/
def State.reconstructed (s : State) (a : Nat) (withQ : Bool) : State :=
  match s.segAt a with
  | none => s
  | some (k, sg) => if withQ then (s.count (R.SP_RECON sg.pool)).mismatch sg.pool k else s.count (R.SP_RECON sg.pool)

/-- The module of a grain address, for SUBUNIT (R236). -/
def grainModule (g : RdGrain) : Nat := gaModule g.addr

/-- MEDIA_READ_COLLECT (R230 to R233): a grain all of whose reads have been answered is checked: what the decoders left wrong is in `errs`,
`unit` is the decompression unit. A map page whose CHECK fails is META_CHECK, and is rebuilt from its stripe (R278, R299). -/
def execMediaReadCollect (n i unit : Nat) (errs : List (Nat × Nat)) (s : State) : Out :=
  match s.rdGrain n i with
  | none => .next s
  | some g =>
    if g.stage ≠ .issued ∨ g.left ≠ 0 ∨ s.halted 94 ∨ s.halted 136 ∨ s.halted 93 ∨ (g.path = .around ∧ s.halted 141) then .next s
    else if g.page.isSome then
      .next (if g.bad then s.collectFail n i { g with allDecoded := false }
        else if errs = [] then s.pageIn n i g
        else (s.raise 137 0x0101 1 0).collectFail n i { g with checkBad := true })
    else
      match s.media.flash.find (gaKey g.addr) with
      | none => .next (s.collectFail n i { g with allDecoded := false })
      | some x =>
        if g.bad ∨ x.poison then .next (s.collectFail n i { g with allDecoded := false })
        else
          match s.storedCheck unit ((s.vol g.vol).elim 0 Vol.format) g.addr x errs with
          | (s1, .ok data tags) =>
            .next ((if g.path = .around then s1.reconstructed g.addr false else s1).serveStored n i g data tags)
          | (s1, .header) => .next ((s1.raise 94 0x0102 1 (grainModule g)).collectFail n i { g with checkBad := true })
          | (s1, .decode) => .next (s1.startRecover n i { g with allDecoded := false })
          | (s1, .check) => .next (s1.collectFail n i { g with checkBad := true })

/-! ### Recovery (R232, R337) -/

/-- A grain that no copy can supply is lost (R232, R354). -/
def State.grainLost (s : State) (n i : Nat) (g : RdGrain) (st : Nat) : State :=
  let pool := (s.segAt g.addr).elim 0 fun x => x.2.pool
  ((((s.unread g.addr).addLoss pool g.addr 2).raise 94 0x0101 2 (grainModule g)).event 94 1).grainFail n i g st

/-- The rebuilt grain failed a check (R337): Q in place of P, then the sources once more with other trims, then it is lost. -/
def State.reconNext (s : State) (n i : Nat) (g : RdGrain) (sg : Seg) (kind : Nat) : State :=
  let r := g.recon
  let withQ := reconSources kind sg.place.length (gaPage g.addr) r.erased true
  match (if kind = 3 ∧ r.erased.length = 1 ∧ r.withQ = false then withQ else none) with
  | some ks => s.reconRead n i g sg { r with sources := ks, withQ := true } (ks.filter fun k => decide (k ∉ r.sources))
  | none =>
    if r.trim < 2 then s.reconRead n i g sg { r with trim := r.trim + 1 } r.sources
    else s.grainLost n i g (if g.allDecoded then St.checkValue else St.unrecoveredRead)

/-- The rebuilt grain passes: it is served, queued for rewrite and counted; CHECK_FAIL where a check or header failed (R232, R337). -/
def State.reconDone (s : State) (n i : Nat) (g : RdGrain) (x : Stored) (places : List (List Place)) (data : List Byte) (tags : List Nat) :
    State :=
  let s1 := s.reconstructed g.addr g.recon.withQ
  let s2 := if g.checkBad then s1.raise 94 0x0100 1 (grainModule g) else s1
  ((s2.count R.RD_DECODE_RETRY).repair g.addr x places).serveStored n i { g with path := .copy 0 } data tags

/-- GRAIN_RECOVERY (R232, R337): the reads of a recovery have been answered. A source that failed is erased and another read in its place;
else the range is rebuilt, the bits that the decoders left wrong in it being `errs`, and checked. `places` serves the rewrite. -/
def execGrainRecovery (n i unit : Nat) (errs : List (Nat × Nat)) (places : List (List Place)) (s : State) : Out :=
  match s.rdGrain n i with
  | none => .next s
  | some g =>
    if g.stage ≠ .recover ∨ g.left ≠ 0 ∨ s.halted 94 ∨ s.halted 141 ∨ s.halted 93 then .next s
    else
      match (s.segAt g.addr).bind fun k => (s.pool k.2.pool).map fun p => (k.2, p.kindOf k.2.seq) with
      | none => .next (s.grainLost n i g St.unrecoveredRead)
      | some (sg, kind) =>
        let r := g.recon
        if r.sources = [] then .next (s.grainLost n i g St.unrecoveredRead)
        else if g.bad then
          match reconSources kind sg.place.length (gaPage g.addr) r.erased r.withQ with
          | none => .next (s.grainLost n i g St.unrecoveredRead)
          | some ks => .next (s.reconRead n i g sg { r with sources := ks } (ks.filter fun k => decide (k ∉ r.sources)))
        else if g.page.isSome then .next (if errs = [] then (s.reconstructed g.addr r.withQ).pageIn n i g else s.reconNext n i g sg kind)
        else
          match s.media.flash.find (gaKey g.addr) with
          | none => .next (s.grainLost n i g St.unrecoveredRead)
          | some x =>
            if x.poison then .next (s.grainLost n i g St.unrecoveredRead)
            else
              match s.storedCheck unit ((s.vol g.vol).elim 0 Vol.format) g.addr x errs with
              | (s1, .ok data tags) => .next (s1.reconDone n i g x places data tags)
              | (s1, .decode) => .next (s1.reconNext n i { g with allDecoded := false } sg kind)
              | (s1, _) => .next (s1.reconNext n i { g with checkBad := true } sg kind)

/-! ### The bound (R235) -/

/-- RD_TR_MAX and RD_FLASH_BOUND follow the modules in service and RA_THRESH (R235). -/
def State.boundRecompute (s : State) : State :=
  let ids := (s.media.pools.flatMap fun p => (p.2.modules.filter (s.inService p.1 p.2)).map (s.portOf p.1)).filterMap s.ident
  let tr := (ids.map Ident.trMax).foldl max 0
  let ts := (ids.map Ident.tsusMax).foldl max 0
  (s.wrN R.RD_TR_MAX (tr % 256 + ts % 256 * 256)).wrN R.RD_FLASH_BOUND
    (if ids = [] then 0 else min (13 + tr + max (s.fld R.RD_RA_THRESH 0 8) (max 3 ts)) 255)

end Sys2Proof.Machine
end

