-- ==== Sys2Proof/Machine/Roles.lean ====
section
/-! DEFINITION. Roles of the head, epochs and raises, arbitration, fencing and takeover (R372 to R380). -/

namespace Sys2Proof.Machine

/-! ### Holders and ARB_SET (R375, R376) -/

/-- ARB_SET: the ports of every module of every pool, hot spares included (R330, R376). -/
def State.arbSet (s : State) : List Nat :=
  (s.media.pools.flatMap fun p => p.2.allModules.map (s.portOf p.1) ++ p.2.spare.toList).eraseDups

/-- More than half of ARB_SET (R376). -/
def State.majority (s : State) (n : Nat) : Bool := decide (s.arbSet.length < 2 * n)

/-- The holder of a paddock at a module, as last learned. -/
def State.holderAt (s : State) (q port : Nat) : Option Nat := (s.tandem.epochs.find (epKey q port)).bind Epoch.holder

/-- A port holds a paddock at a majority of ARB_SET (R374). -/
def State.heldByMajority (s : State) (q head : Nat) : Bool :=
  s.majority ((s.arbSet.filter fun m => decide (s.holderAt q m = some head)).length)

/-- TD_STATE.HOLD0 and HOLD1 (R399). -/
def State.holdShow (s : State) : State :=
  (s.putBit R.TD_STATE 3 (s.heldByMajority 0 s.headId)).putBit R.TD_STATE 4 (s.heldByMajority 1 s.headId)

/-- What a response shows of a paddock at a module: MLK_MOD_EPOCH, HOLD0 or HOLD1 and HOLDER_CHANGED (R246, R261). -/
def State.holderSeen (s : State) (q port epoch holder : Nat) : State :=
  let s1 := (s.wrN (if q = 0 then R.MLK_MOD_EPOCH0 port else R.MLK_MOD_EPOCH1 port) epoch).putBit (R.MLK_STATUS port) (15 + q)
    (decide (holder = s.headId))
  match s.holderAt q port with
  | none => s1
  | some h => if h = holder then s1 else s1.event (mlinkPage port) 5

/-- A paddock's epoch and holder at a module are learned; an epoch that a grant brings stays due for the next commit point
(R375). -/
def State.learnEpoch (s : State) (q port epoch holder : Nat) : State :=
  let next := (s.tandem.epochs.find (epKey q port)).bind Epoch.next
  let s1 := s.holderSeen q port epoch holder
  let e : Epoch := { inForce := if next.isSome then s.epochOf q port else epoch, next := next, holder := some holder }
  ({ s1 with tandem := { s1.tandem with epochs := s1.tandem.epochs.put (epKey q port) e } }).holdShow

/-! ### Roles (R374) -/

/-- The ANA state of volumes may have changed: the notice goes out at the next commit point (R381). -/
def State.anaChanged (s : State) : State := { s with tandem := { s.tandem with anaDue := true } }

/-- The role takes a value: HEAD_OK follows it, and a ROLE record is written (R372, R374, R472). -/
def State.setRole (s : State) (r : Nat) : State :=
  if s.role = r then s
  else
    let old := s.role
    let s1 := (s.putFld R.TD_STATE 0 3 r).putBit R.RN_STATUS 4 (decide (1 ≤ r ∧ r ≤ 4))
    let s2 := s1.record 0x000C 0 153 (leBytes 1 old ++ leBytes 1 r ++ leBytes 2 0 ++ leBytes 8 (s1.rd64 R.TD_LOST_AT).toNat)
    (if r = roleStandby then s2.event 153 5 else s2).anaChanged

/-- Both reins are silent (R373). -/
def State.bothSilent (s : State) : Bool := s.tandem.silentA && s.tandem.silentB

/-- HEAD_OK_IN as last sampled. -/
def State.headOkIn (s : State) : Bool := s.bit R.RN_STATUS 2

/-- EPOCH_RAISE of a paddock goes to every module of ARB_SET where this head does not hold it (R377, R380). -/
def State.raiseAll (s : State) (q : Nat) : State :=
  (s.arbSet.filter fun m => decide (s.holderAt q m ≠ some s.headId)).foldl
    (fun s m => s.sendRaise q m false (s.epochOf q m) false) s

/-- Paddocks that this head does not hold. -/
def State.padsOut (s : State) : List Nat := [0, 1].filter fun q => decide (q ∉ s.tandem.held)

/-- The partner is declared lost: FENCE_OUT, PARTNER_LOST, TD_LOST_AT and TD_TAKEOVERS (R372, R380, R399). -/
def State.declareLost (s : State) : State :=
  (((s.putBit R.RN_STATUS 5 true).wr64 R.TD_LOST_AT s.now).event 153 1).count R.TD_TAKEOVERS

/-- Takeovers of the paddocks that this head does not hold are entered, as of a stride. -/
def State.enterTakeovers (s : State) (start : DWord) : State :=
  { s with tandem := { s.tandem with
      transfer := none,
      takeovers := s.padsOut.map fun q => { paddock := q, start := start, applied := false } } }

/-- Takeover starts (R374, R380): the survivor is SOLE, asserts FENCE_OUT and raises each paddock that the partner holds. -/
def State.takeoverStart (s : State) : State :=
  let s1 := (s.declareLost.setRole roleSole).enterTakeovers s.now
  s1.padsOut.foldl State.raiseAll s1

/-! ### Arbitration (R377) -/

/-- Raises of paddock 0 that stand as a test says, over ARB_SET. -/
def State.arbCount (s : State) (f : RaiseSt → Bool) : Nat :=
  (s.arbSet.filter fun m => (s.tandem.raises.find (epKey 0 m)).elim false fun r => f r.st).length

/-- Arbitration starts: paddock 0 is raised at every module of ARB_SET (R377). -/
def State.arbStart (s : State) : State :=
  let s1 := s.setRole roleArbitrate
  let s2 := { s1 with tandem := { s1.tandem with arbAt := s1.now, tie := none, arbWon := false } }
  let s3 := s2.arbSet.foldl (fun s m => s.sendRaise 0 m false (s.epochOf 0 m) false) s2
  s3.wrN R.TD_ARB (s3.arbSet.length % 32 * 2 ^ 10)

/-- Arbitration is won: FENCE_OUT at once; paddock 0 is raised again where the partner's raise won, and paddock 1 at every
module if it is not this head's own (R372, R377). SOLE follows at the next commit point. -/
def State.arbWin (s : State) : State :=
  let s1 := ((s.putBit R.RN_STATUS 5 true).putBit R.TD_ARB 15 true).event 153 3
  let s2 := { s1 with tandem := { s1.tandem with arbWon := true } }
  let s3 := s2.raiseAll 0
  if s3.headId = 0 then s3.raiseAll 1 else s3

/-- Arbitration is lost: L4 ARB_LOST (R377). -/
def State.arbLose (s : State) : State := (s.event 153 4).raise 153 0x0100 4 0

/-- Grants or refusals at a majority decide; once every raise is answered or timed out, neither is a tie, under which head 1
fences itself (R377). TD_ARB reports the counts. -/
def State.arbDecide (s : State) : State :=
  if s.role ≠ roleArbitrate ∨ s.tandem.arbWon ∨ s.tandem.fencing ∨ s.tandem.tie.isSome then s
  else
    let g := s.arbCount fun x => decide (x = .granted)
    let r := s.arbCount fun x => decide (x = .refused)
    let w := s.arbCount fun x => decide (x = .waiting)
    let s1 := s.wrN R.TD_ARB (g % 32 + r % 32 * 2 ^ 5 + s.arbSet.length % 32 * 2 ^ 10)
    if s1.majority g then s1.arbWin
    else if s1.majority r then s1.arbLose
    else if w = 0 then
      if s1.headId = 1 then s1.arbLose else { s1 with tandem := { s1.tandem with tie := some s1.now } }
    else s1

/-! ### Decisions of the role machine (R374) -/

/-- SOLO is set: HELD entries move to COMMITTED without a MIRROR_ACK, in CSEQ order (R156). -/
def State.goSolo (s : State) : State :=
  let s1 := s.putBit R.CIST_STATUS 1 true
  ((s1.cist.parts.filter fun p => decide (p.2.lock = .held)).map Prod.fst).foldl State.commitPart s1

/-- What the role machine does for the reins and HEAD_OK_IN as they stand at a commit point (R374, R378). A LEAVING partner that has gone
silent counts as declared lost for MASTER (R35; DESIGN CHOICE, assumption log 90). -/
def State.roleEval (s : State) : State :=
  if s.tandem.fencing then s
  else if s.role = roleTandem then
    if s.tandem.split ∧ s.headOkIn = false then ({ s with tandem := { s.tandem with split := false } }).takeoverStart
    else if s.bothSilent then (if s.headOkIn then s.arbStart else s.takeoverStart)
    else s
  else if s.role = roleStandby then
    if s.bothSilent ∧ s.headOkIn = false then s.takeoverStart else s
  else if s.role = roleSole then
    if s.bothSilent ∧ (s.tandem.beat.elim false fun b => decide (b.flags / 32 % 2 = 1)) ∧ s.bit R.CIST_STATUS 1 = false then
      (({ s with clock := { s.clock with partnerLost := true } }).goSolo).event 153 9
    else s
  else s

/-- Step of the commit point: arbitration that was won makes the head SOLE; grants that came by then are as good as new ones
(R374, R377). -/
def State.arbApply (s : State) : State :=
  if s.role = roleArbitrate ∧ s.tandem.arbWon ∧ s.tandem.fencing = false then
    let open_ := s.tandem.raises.any fun r => decide (r.2.st = .waiting)
    let start := if open_ then s.now else s.tandem.arbAt
    let s1 := (({ s with tandem := { s.tandem with arbWon := false } }).declareLost.setRole roleSole).enterTakeovers start
    s1.padsOut.foldl (fun s q =>
      (s.arbSet.filter fun m => decide (s.holderAt q m ≠ some s.headId) && !s.tandem.raises.has (epKey q m)).foldl
        (fun s m => s.sendRaise q m false (s.epochOf q m) false) s) s1
  else s

/-! ### Answers to a raise (R254, R376, R387) -/

/-- A raise stands otherwise than before. -/
def State.raiseIs (s : State) (q port : Nat) (st : RaiseSt) : State :=
  { s with tandem := { s.tandem with raises := s.tandem.raises.upd (epKey q port) fun r => { r with st := st } } }

/-- A module that timed out is back, its raise granted: it is no failed member for the paddock any longer (R376). -/
def State.modBack (s : State) (q port : Nat) : State :=
  if epKey q port ∉ s.tandem.lostMods then s
  else
    let s1 := { s with tandem := { s.tandem with lostMods := s.tandem.lostMods.filter fun k => decide (k ≠ epKey q port) } }
    { s1 with media := { s1.media with
        pools := s1.media.pools.mapVals fun p x => if s1.padOf p = q then
          { x with failed := x.failed.keep fun m _ => decide (s1.portOf p m ≠ port) } else x } }

/-- Modules whose raise was lost and whose grant to this head is due. -/
def State.backMods (s : State) : List Nat :=
  (s.tandem.epochs.filter fun e => e.2.next.isSome && decide (e.2.holder = some s.headId ∧ e.1 ∈ s.tandem.lostMods)).map Prod.fst

/-- Step of the commit point: epochs granted in the previous stride come into force, and modules that were lost are back (R22, R375,
R376). -/
def State.epochAdvance (s : State) : State :=
  s.backMods.foldl (fun s k => s.modBack (k / 32) (k % 32)) { s with tandem := { s.tandem with
    epochs := s.tandem.epochs.mapVals fun _ e => { e with inForce := e.next.getD e.inForce, next := none } } }

/-- GRANTED: the epoch is due for the next commit point, and the holder is the sender, or the other port (R254, R375). -/
def State.raiseGranted (s : State) (q port new : Nat) (toOther : Bool) : State :=
  let h := if toOther then 1 - s.headId else s.headId
  let s1 := (s.holderSeen q port new h).raiseIs q port .granted
  let e : Epoch := { inForce := s.epochOf q port, next := some new, holder := some h }
  (({ s1 with tandem := { s1.tandem with epochs := s1.tandem.epochs.put (epKey q port) e } }).holdShow).arbDecide

/-- RAISE_REFUSED: with this head's own port as holder the raise is sent again at once, once only, from the reported value; with
the partner's the module is lost to the partner (R376). -/
def State.raiseRefused (s : State) (q port cur holder : Nat) (toOther retried : Bool) : State :=
  let s1 := (s.learnEpoch q port cur holder).raise (mlinkPage port) 0x0108 0 0
  if holder = s.headId ∧ retried = false then s1.sendRaise q port toOther cur true
  else (s1.raiseIs q port .refused).arbDecide

/-- A module of a paddock is treated as a failed member (R338, R376, R379). -/
def State.failFor (s : State) (q port : Nat) : State :=
  (s.media.pools.filter fun p => decide (s.padOf p.1 = q)).foldl (fun s p =>
    match p.2.allModules.find? fun m => decide (s.portOf p.1 m = port) with
    | none => s
    | some m => if p.2.failed.has m then s else s.memberFail p.1 m port none) s

/-- A raise that no module answered counts as not granted: RAISE_TIMEOUT, and the module is a failed member for the paddock
(R260, R376). -/
def State.raiseLost (s : State) (q port : Nat) : State :=
  let s1 := (s.raiseIs q port .timedOut).raise 153 0x0103 1 port
  ((({ s1 with tandem := { s1.tandem with lostMods := (epKey q port :: s1.tandem.lostMods).eraseDups } }).failFor q port)).arbDecide

/-- RAISE_TIMEOUT (R376): no answer within 2 strides. -/
def execRaiseTimeout (q port : Nat) (s : State) : Out :=
  match s.tandem.raises.find (epKey q port) with
  | none => .next s
  | some r => .next (if r.st = .waiting ∧ 2 ≤ s.since r.sent then s.raiseLost q port else s)

/-- RAISE_RETRY (R376): a raise that was not answered is sent again every 250 strides. -/
def execRaiseRetry (q port : Nat) (s : State) : Out :=
  match s.tandem.raises.find (epKey q port) with
  | none => .next s
  | some r =>
    .next (if r.st = .timedOut ∧ 250 ≤ s.since r.sent then s.sendRaise q port r.toOther (s.epochOf q port) false else s)

/-- ARB_TIE_WAIT (R374, R377): under a tie head 0 takes over once HEAD_OK_IN reads low within 250 strides. -/
def execArbTieWait (s : State) : Out :=
  match s.tandem.tie with
  | none => .next s
  | some t =>
    if s.role = roleArbitrate ∧ s.headId = 0 ∧ s.headOkIn = false ∧ s.since t ≤ 250 ∧ s.tandem.fencing = false then
      let s1 := ({ s with tandem := { s.tandem with tie := none } }).takeoverStart
      .next (s1.raiseAll 0)
    else .next s

/-! ### Fencing (R372, R378, R379, R399) -/

/-- Commands answered EPOCH_STALE or NOT_HOLDER on a paddock that this head holds, in TANDEM or SOLE: L4 at a majority of
ARB_SET, L2 with the modules failed for the paddock at fewer (R379). -/
def State.staleSelf (s : State) (q port : Nat) : State :=
  if s.holds q = false ∨ (s.role ≠ roleTandem ∧ s.role ≠ roleSole) ∨ epKey q port ∈ s.tandem.staleMods then s
  else
    let s1 := { s with tandem := { s.tandem with staleMods := epKey q port :: s.tandem.staleMods } }
    let n := (s1.arbSet.filter fun m => decide (epKey q m ∈ s1.tandem.staleMods)).length
    if s1.majority n then s1.raise 153 0x0104 4 port else (s1.raise 153 0x0104 2 port).failFor q port

/-- FENCE_HEAD (R379): an L4 fault of a page makes the head fence itself within the stride. -/
def execFenceHead (page code sub : Nat) (s : State) : Out := .next (s.raise page code 4 sub)

/-- Unadmitted commands complete with HEAD_FENCED, and DEVICE_FENCING is posted (R140, R379). -/
def State.fenceCommands (s : State) : State :=
  s.completeAll (s.cmdsWhere HostCmd.unadmitted) St.headFenced

/-- FENCE_IN_HIGH (R372): FENCE_IN read high in 8 consecutive reference periods: L4 FENCE_IN at the next commit point, or the head
stays in INIT. -/
def execFenceInHigh (s : State) : Out :=
  let s1 := s.putBit R.RN_STATUS 3 true
  .next { s1 with tandem := { s1.tandem with
    fenceInSeen := true, fenceInDue := s1.tandem.fenceInDue || decide (1 ≤ s.role ∧ s.role ≤ 4) } }

/-- Step of the commit point: FENCE_IN seen in the previous stride places its L4 (R372). -/
def State.fenceInApply (s : State) : State :=
  if s.tandem.fenceInDue = false then s
  else
    let s1 := { s with tandem := { s.tandem with fenceInDue := false } }
    if s.tandem.fencing then s1 else s1.raise 153 0x0101 4 0

/-- FENCE_IN_FALL (R372): a head held in INIT may go on. -/
def execFenceInFall (s : State) : Out :=
  let s1 := s.putBit R.RN_STATUS 3 false
  .next { s1 with tandem := { s1.tandem with fenceInSeen := false } }

/-- TL_LINK_DOWN_SPLIT (R378): the Torlux link has stayed DOWN for 25,000 strides while Rein B carries valid beats: the head with
fewer ACTIVE module ports fences itself, head 1 where they are equal. -/
def execTlLinkDownSplit (s : State) : Out :=
  let mods := ((List.range 24).filter fun m => decide (s.lstate m = lsActive)).length
  let theirs := s.tandem.beat.elim 0 fun b => ((List.range 24).filter fun i => decide (b.mods / 2 ^ i % 2 = 1)).length
  if s.role ≠ roleTandem ∨ s.tlActive ∨ s.since s.tandem.tl.since < 25000 ∨ s.tandem.silentB ∨ s.tandem.fencing then .next s
  else if mods < theirs ∨ (mods = theirs ∧ s.headId = 1) then .next (s.raise 153 0x0102 4 0)
  else .next (({ s with tandem := { s.tandem with split := true } }).roleEval)

/-! ### Takeover (R380) -/

/-- TAKEOVER (R374, R380): the survivor takes over each paddock that the partner holds, when its reins are silent and
HEAD_OK_IN is low. -/
def execTakeover (s : State) : Out :=
  .next (if (s.role = roleTandem ∨ s.role = roleStandby) ∧ s.headOkIn = false ∧ (s.bothSilent ∨ s.tandem.split)
      ∧ s.tandem.fencing = false then
    ({ s with tandem := { s.tandem with split := false } }).takeoverStart else s)

/-- An entry of the mirror half is adopted: its lock is written COMMITTED, and it is destaged as one of this head's (R152,
R380). -/
def State.adoptEntry (s : State) (cseq : Nat) (p : Part) : State :=
  let key := 2 ^ 63 + cseq
  let p1 : Part := { p.withPolicy (s.policy p.vol) with
    cmd := none, lock := .committed, subject := p.subject + 512, off := none, tseq := none, durable := false,
    released := false, readers := 0, acked := true }
  let s1 := (s.putPart key p1).replRecord (s.rseqOf key) p1
  match s1.cam.entries.freeKey (s1.cam.entries.length + 1) with
  | none => s1
  | some k => if k < 131072 then s1.setCam k { st := 1, prio := 0, key := p1.key, result := lockWord p1 key } else s1

/-- The grants of a takeover are in force (R380, step 3): SOLO, HELD entries COMMITTED and acknowledged, STRIDE_SYNC mastership
taken, the mirror's entries adopted, writes to the lost head's volumes held while recovery runs. -/
def State.takeoverApply (s : State) : State :=
  let due := s.tandem.takeovers.filter fun t => !t.applied && decide (3 ≤ s.since t.start)
  if due = [] ∨ s.tandem.fencing then s
  else
    let s1 := { s with clock := { s.clock with partnerLost := true } }
    let s2 := (s1.putBit R.STR_STATUS 3 true).setSync syncLocal
    let s3 := s2.goSolo
    let s4 := (s3.cist.mirror.filter fun p => !s3.cist.parts.has (2 ^ 63 + p.1)).foldl (fun s p => s.adoptEntry p.1 p.2) s3
    let pads := due.map Takeover.paddock
    { s4 with
      media := { s4.media with
        vols := s4.media.vols.mapVals fun _ v => if s4.padOf v.pool ∈ pads then { v with held := true } else v },
      tandem := { s4.tandem with
        held := (s4.tandem.held ++ pads).eraseDups,
        takeovers := s4.tandem.takeovers.map fun t => if t ∈ due then { t with applied := true } else t } }

/-- TAKEOVER_DONE (R380, step 4): recovery of the paddocks taken over has ended, having read `data` from flash: the writes held
are admitted, the volumes owned. -/
def execTakeoverDone (data : PaddockData) (s : State) : Out :=
  if s.tandem.takeovers = [] ∨ (s.tandem.takeovers.all Takeover.applied) = false ∨ s.tandem.fencing then .next s
  else
    let pads := s.tandem.takeovers.map Takeover.paddock
    let s1 := pads.foldl (fun s q => (s.joinPaddock q data).recoverPaddock q data.found) s
    let s2 := { s1 with
      media := { s1.media with
        vols := s1.media.vols.mapVals fun _ v => if s1.padOf v.pool ∈ pads then { v with held := false } else v },
      tandem := { s1.tandem with takeovers := [] } }
    .next ((s2.event 153 2).anaChanged)

/-- FENCE_OUT_RELEASE (R372): TAKEOVER_DONE is set and HEAD_OK_IN has read low for 2 strides. -/
def execFenceOutRelease (s : State) : Out :=
  .next (if s.bit R.RN_STATUS 5 ∧ s.tandem.takeovers = [] ∧ s.tandem.arbWon = false ∧ s.headOkIn = false then
    s.putBit R.RN_STATUS 5 false else s)

/-! ### Joining (R374) -/

/-- SYNC_STATE is LOCKED, or this head is MASTER (R36, R374). -/
def State.synced (s : State) : Bool := decide (s.sync = syncLocked) || s.isMaster

/-- A head at the tandem step of its bring-up may leave INIT: FENCE_IN, defaults (R482) and recovery mode (R503) do not hold it there
(R372, R374). -/
def State.mayJoin (s : State) : Bool :=
  decide (s.role = roleInit) && !s.power.bringup && s.power.stalled.isNone && !s.tandem.fenceInSeen && !s.tandem.fencing
    && !s.bit R.TK_STATUS 5 && decide (s.fld R.FW_RUN 1 2 ≠ 3)

/-- The volumes whose home is the partner become known (DESIGN CHOICE, assumption log 47): pools 16 to 31 stand for the pools of
the partner's paddock. -/
def State.partnerVols (s : State) (vols : Amap Vol) : State :=
  { s with media := { s.media with
      vols := s.media.vols.join (vols.mapVals fun _ v => { v with pool := v.pool % 16 + 16, owner := 1 - s.headId, root := 0 })
        fun k _ => !s.media.vols.has k } }

/-- JOIN_TANDEM (R374): own paddock held at a majority, Torlux ACTIVE, the stride locked, the partner beating as INIT or
TANDEM. -/
def execJoinTandem (vols : Amap Vol) (s : State) : Out :=
  let partner := s.tandem.beat.elim false fun b => decide (b.role = roleInit ∨ b.role = roleTandem)
  if s.mayJoin ∧ s.heldByMajority s.headId s.headId ∧ s.tlActive ∧ s.synced ∧ partner then
    let s1 := ({ s with tandem := { s.tandem with held := [s.headId] } }).partnerVols vols
    .next ((s1.setRole roleTandem).setMirrorUp true)
  else .next s

/-- JOIN_STANDBY (R374, R386): both paddocks held by the partner at a majority; resynchronisation starts at the partner. -/
def execJoinStandby (vols : Amap Vol) (s : State) : Out :=
  let other := 1 - s.headId
  if s.mayJoin ∧ s.heldByMajority 0 other ∧ s.heldByMajority 1 other ∧ s.tlActive ∧ s.synced then
    let s1 := (({ s with tandem := { s.tandem with held := [] } }).clearPaddock s.headId).partnerVols vols
    .next (s1.setRole roleStandby)
  else .next s

/-- JOIN_WAIT_TIMEOUT (R374): both reins silent for TD_JOIN_WAIT strides with HEAD_OK_IN low: takeover. The own paddock is
recovered already (R524, B7). -/
def execJoinWaitTimeout (s : State) : Out :=
  let wait := s.rdN R.TD_JOIN_WAIT
  .next (if s.mayJoin ∧ s.bothSilent ∧ s.headOkIn = false ∧ wait ≤ s.since (s.rd64 R.RN_LAST_A) ∧ wait ≤ s.since (s.rd64 R.RN_LAST_B) then
    ({ s with tandem := { s.tandem with held := if s.heldByMajority s.headId s.headId then [s.headId] else [] } }).takeoverStart
    else s)

/-- SELF_FENCE (R399): TD OP 5 places L4 on this head. -/
def execSelfFence (s : State) : Out :=
  .next (if s.bit R.TD_CMD_STATUS 16 then s.writeDiscarded 153 else s.raise 153 0x0105 4 0)

end Sys2Proof.Machine
end

