-- ==== Sys2Proof/Machine/Rein.lean ====
section
/-! DEFINITION. Beats and reins (R368 to R373, R32). -/

namespace Sys2Proof.Machine

/-! ### The beat (R369) -/

/-- FLAGS of a beat (R369). -/
def State.beatFlags (s : State) : Nat :=
  (s.bit R.CIST_STATUS 2).toNat + (s.bit R.CIST_STATUS 0).toNat * 2 + s.tlActive.toNat * 4 + (s.bit R.TD_STATE 3).toNat * 8
    + (s.bit R.TD_STATE 4).toNat * 16 + s.tandem.leaving.toNat * 32

/-- MODS of a beat: the module ports that are ACTIVE. -/
def State.beatMods (s : State) : Nat := ((List.range 24).map fun m => (decide (s.lstate m = lsActive)).toNat * 2 ^ m).sum

/-- Bytes 0 to 47 of a beat (R369). -/
def State.beatBody (s : State) (rein : Nat) : List Byte :=
  [0x42, 0x45, 0x41, 0x54] ++ leBytes 1 s.headId ++ leBytes 1 rein ++ leBytes 1 s.role ++ leBytes 1 (s.fld R.RN_KEY 0 6)
    ++ leBytes 8 s.now.toNat ++ leBytes 4 s.tandem.bseq ++ leBytes 4 s.beatFlags ++ leBytes 4 s.beatMods ++ leBytes 20 0

/-- The MAC of a beat under a key slot (R369, R370). -/
def State.beatMac (s : State) (slot : Nat) (body : List Byte) : List Byte := (hmacSha256 (s.keySlot slot).key body).take 16

/-- A slot may key beats: VALID or LOCKED, with USE.REIN (R446). -/
def State.reinKey (s : State) (slot : Nat) : Bool :=
  decide ((s.keySlot slot).st ≠ .empty) && decide ((s.keySlot slot).use / 8 % 2 = 1)

/-- One beat goes out on a rein that is enabled; Rein A travels on the Torlux link (R366, R398). -/
def State.beatOn (s : State) (rein : Nat) : State :=
  if s.bit R.RN_CTRL rein = false ∨ (rein = 0 ∧ s.tlActive = false) then s
  else
    let b := s.beatBody rein
    let r : TlRec := .beat rein (b ++ s.beatMac (s.fld R.RN_KEY 0 6) b)
    s.emit (.tl r (if rein = 0 then r.image s.now else r.body))

/-- Step of the commit point: a beat on each rein where the stride number mod 64 is 32 × HEAD_ID, in every role but FENCED
(R368). -/
def State.beatSend (s : State) : State :=
  if s.now.toNat % 64 ≠ 32 * s.headId ∨ s.role = roleFenced ∨ s.tandem.fencing ∨ s.power.bringup then s
  else (({ s with tandem := { s.tandem with bseq := s.tandem.bseq + 1 } }).beatOn 0).beatOn 1

/-- Step of the commit point: beat periods without a valid beat (R398). -/
def State.reinMiss (s : State) : State :=
  let miss := fun last => let d := s.since (s.rd64 last); decide (0 < d ∧ d % 64 = 0)
  let s1 := if miss R.RN_LAST_A then s.count R.RN_A_MISS else s
  if miss R.RN_LAST_B then s1.count R.RN_B_MISS else s1

/-! ### Receiving (R370) -/

/-- A field of a received beat. -/
def beatField (b : List Byte) (off n : Nat) : Nat := ofLeBytes ((b.drop off).take n)

/-- The MAC of a beat matches under CUR_SLOT, or under NEXT_SLOT while NEXT_EN = 1 (R370). -/
def State.beatMacOk (s : State) (b : List Byte) : Bool :=
  let cur := s.fld R.RN_KEY 0 6
  let next := s.fld R.RN_KEY 8 6
  let ok := fun slot => s.reinKey slot && decide (s.beatMac slot (b.take 48) = (b.drop 48).take 16)
  ok cur || s.bit R.RN_KEY 16 && ok next

/-- Last valid BSEQ on a rein, and whether HEAD_OK_IN has read low since. -/
def State.reinLast (s : State) (rein : Nat) : Nat × Bool :=
  if rein = 0 then (s.tandem.bseqA, s.tandem.lowA) else (s.tandem.bseqB, s.tandem.lowB)

/-- A beat received on a rein is valid (R369, R370). -/
def State.beatValid (s : State) (rein : Nat) (b : List Byte) : Bool :=
  let (last, low) := s.reinLast rein
  decide (b.length = 64 ∧ b.take 4 = [0x42, 0x45, 0x41, 0x54]) && s.beatMacOk b
    && decide (beatField b 4 1 % 2 ≠ s.headId ∧ beatField b 5 1 = rein)
    && (decide (last < beatField b 16 4) || low)

/-- A rein is no longer silent (R373, R398). -/
def State.reinUp (s : State) (rein : Nat) : State :=
  let was := if rein = 0 then s.tandem.silentA else s.tandem.silentB
  let s1 := { s with tandem := if rein = 0 then { s.tandem with silentA := false } else { s.tandem with silentB := false } }
  let s2 := s1.putBit R.RN_STATUS rein true
  if was ∨ s.bit R.RN_STATUS rein = false then s2.event 152 (2 + rein) else s2

/-- A valid beat is taken (R31, R32, R35, R370, R386, R398). The follower's stride check runs in the roles TANDEM and STANDBY, which the model
takes for tandem service (R32; DESIGN CHOICE, assumption log 91): a SOLE head resynchronises a partner that has become STANDBY; `own` is this head's stride number at the sender's commit point. -/
def State.beatTake (s : State) (rein : Nat) (b : List Byte) (own : DWord) : State :=
  let num := BitVec.ofNat 64 (beatField b 8 8)
  let seen : BeatSeen := { role := beatField b 6 1, flags := beatField b 20 4, mods := beatField b 24 4 % 2 ^ 24, stride := num }
  let t := { s.tandem with beat := some seen }
  let t1 := if rein = 0 then { t with bseqA := beatField b 16 4, lowA := false }
    else { t with bseqB := beatField b 16 4, lowB := false }
  let s1 := (({ s with tandem := t1 }).reinUp rein).wr64 (if rein = 0 then R.RN_LAST_A else R.RN_LAST_B) num
  let back := decide (s1.role = roleSole ∧ seen.role = roleStandby) && s.tandem.beat.elim true fun b => decide (b.role ≠ roleStandby)
  if back then s1.startResync
  else if s1.sync = syncAcquire then { s1 with clock := { s1.clock with adopt := some (num, own) } }
  else if (s1.role = roleTandem ∨ s1.role = roleStandby) ∧ s1.isMaster = false ∧ num ≠ own then s1.raise 152 0x0102 4 rein
  else s1

/-- REIN_BEAT_RX (R32, R370): 64 bytes received on a rein, `ago` strides after the sender's commit point. An invalid beat is
discarded, counted and captured. -/
def execReinBeatRx (rein : Nat) (beat : List Byte) (ago : Nat) (s : State) : Out :=
  if 2 ≤ rein ∨ s.bit R.RN_CTRL rein = false ∨ (rein = 0 ∧ s.spilling = true) then .next s
  else if s.beatValid rein beat then .next (s.beatTake rein beat (s.now - BitVec.ofNat 64 ago))
  else .next (((s.count R.RN_AUTH_FAIL).event 152 4).raise 152 0x0101 1 rein)

/-- REIN_SILENT (R373, R374): no valid beat on a rein for 512 strides: REIN_DOWN at L1 while it is the only one; both silent
drives the role machine. -/
def execReinSilent (rein : Nat) (s : State) : Out :=
  let last := s.rd64 (if rein = 0 then R.RN_LAST_A else R.RN_LAST_B)
  let was := if rein = 0 then s.tandem.silentA else s.tandem.silentB
  if 2 ≤ rein ∨ was ∨ s.since last < 512 then .next s
  else
    let s1 := { s with tandem := if rein = 0 then { s.tandem with silentA := true } else { s.tandem with silentB := true } }
    let s2 := (s1.putBit R.RN_STATUS rein false).event 152 rein
    .next (if s2.bothSilent then s2.roleEval else s2.raise 152 0x0100 1 rein)

/-- HEAD_OK_IN_CHANGE (R370, R374): the level sampled at a commit point has changed; low lets restarted beats in. -/
def execHeadOkInChange (high : Bool) (s : State) : Out :=
  if s.headOkIn = high then .next s
  else
    let s1 := (s.putBit R.RN_STATUS 2 high).event 152 5
    let s2 := if high then s1 else { s1 with tandem := { s1.tandem with lowA := true, lowB := true } }
    .next s2.roleEval

/-- REINB_SYNC_CHANGE (R371): the Rein B receiver gains or loses character alignment. -/
def execReinbSyncChange (sync : Bool) (s : State) : Out := .next (s.putBit R.RN_B_LINK 0 sync)

end Sys2Proof.Machine
end

