-- ==== Sys2Proof/Machine/Transfer.lean ====
section
/-! DEFINITION. Transfer of a paddock, twins and tandem completion (R384, R386 to R388, R399). -/

namespace Sys2Proof.Machine

/-! ### TD_CMD (R399) -/

/-- TD_ARG word `i`. -/
def State.tdArg (s : State) (i : Nat) : Nat := s.rdN (R.TD_ARG i)

/-- A TD command is answered: STATUS, and BUSY until the next commit point (R399; assumption log 31). -/
def State.tdAnswer (s : State) (status : Nat) (queued : Bool) : State :=
  s.wrN R.TD_CMD_STATUS (status + 2 ^ 16 + queued.toNat * 2 ^ 17)

/-- A write of TD_CMD while BUSY = 1 is discarded and captures WRITE_DISCARDED (R399). -/
def State.tdCommand (s : State) (f : State → State) : Out :=
  .next (if s.bit R.TD_CMD_STATUS 16 then s.writeDiscarded 153 else f s)

/-- TD_CMD_INVALID (R399): an OP that is not listed: STATUS INVALID_FIELD at once, nothing changed or captured. -/
def execTdCmdInvalid (s : State) : Out := s.tdCommand fun s => s.wrN R.TD_CMD_STATUS St.invalidField

/-! ### Twins (R384, R399) -/

/-- TD_TWINS follows the twin pairs. -/
def State.setTwins (s : State) (t : Amap Nat) : State :=
  ({ s with tandem := { s.tandem with twins := t } }).wrN R.TD_TWINS t.length

/-- TWIN_SET (R384, R399): LOCAL_QPN, created with TANDEM_CPL and KIND 1, is paired with PARTNER_QPN. -/
def execTwinSet (s : State) : Out :=
  s.tdCommand fun s =>
    let q := s.tdArg 0
    if (s.front.qps.find q).elim false fun x => x.tandemCpl && decide (x.kind = 1) then
      (s.setTwins (s.tandem.twins.put q (s.tdArg 1))).tdAnswer St.success false |>.event 153 0
    else s.tdAnswer St.invalidField false

/-- TWIN_CLEAR (R399): the pair is removed. -/
def execTwinClear (s : State) : Out :=
  s.tdCommand fun s =>
    if s.tandem.twins.find (s.tdArg 0) = some (s.tdArg 1) then
      (s.setTwins (s.tandem.twins.drop (s.tdArg 0))).tdAnswer St.success false |>.event 153 0
    else s.tdAnswer St.invalidField false

/-- The entries of this head's Cistern that hold parts of a command which the partner received: the mirror half, and forwarded
parts of the own half that are sealed (R384). -/
def State.twinParts (s : State) : List (Nat × Part) :=
  (s.cist.mirror.filter fun p => !p.2.forwarded)
    ++ s.cist.parts.filter fun p => p.2.forwarded && p.2.off.isSome && decide (p.1 < 2 ^ 63)

/-- Every part of the command whose part 0 has a TSN is in this Cistern, as a non-FUA write (R384). -/
def State.twinHas (s : State) (cid tsn : Nat) : Bool :=
  match s.twinParts.find? fun p => decide (p.1 % 2 ^ 32 = tsn ∧ p.2.part = 0 ∧ p.2.cmdId = cid ∧ p.2.fua = false) with
  | none => false
  | some (q, p) => (List.range p.parts).all fun k => s.twinParts.any fun x =>
      decide (x.2.part = k ∧ x.2.cmdId = cid ∧ x.2.subject = p.subject ∧ x.2.vol = p.vol ∧ q ≤ x.1)

/-- TANDEM_CPL_POST (R384): the head that did not receive the command posts its completion on the twin, once. -/
def execTandemCplPost (qpn cid tsn : Nat) (s : State) : Out :=
  let ready := s.bit R.CIST_STATUS 2 && s.tandem.beat.elim false fun b => decide (b.flags % 2 = 1)
  if s.tandem.twins.has qpn ∧ (qpn, cid, tsn) ∉ s.tandem.twinPosted ∧ ready ∧ s.twinHas cid tsn ∧ s.stopped = false then
    .next ((({ s with tandem := { s.tandem with twinPosted := (qpn, cid, tsn) :: s.tandem.twinPosted } }).count
      R.TD_TCPL_SENT).emit (.twin qpn cid tsn))
  else .next s

/-! ### Starting a transfer (R387) -/

/-- The volumes that move are held, or released, at step 7. -/
def State.holdMoving (s : State) (h : Bool) : State :=
  { s with media := { s.media with vols := s.media.vols.mapVals fun k v => if s.moving k then { v with held := h } else v } }

/-- DRAIN starts (R387): the paddock's open segments are closed after their last written stripe. -/
def State.drainStart (s : State) (q : Nat) (handover : Bool) : State :=
  let t : Transfer := { paddock := q, giver := true, handover := handover, phase := .drain, holdAt := s.now, raised := false }
  let segs := (s.media.segs.filter fun g => decide (s.padOf g.2.pool = q)).map Prod.fst
  segs.foldl State.closeSegment { s with tandem := { s.tandem with transfer := some t } }

/-- The activity of a transfer: OP 1 SWITCH_BACK, 2 HANDOVER. -/
def State.transferAct (s : State) (op : Nat) : Activity :=
  { Activity.of actTransfer 0 with
    op := op, vols := (s.media.vols.filter fun v =>
      if op = 2 then decide (v.2.owner = s.headId) else decide (v.2.owner ≠ s.headId)).map Prod.fst }

/-- A transfer that the matrix admits starts (R387). -/
def State.transferRun (s : State) (op : Nat) : State :=
  s.drainStart (if op = 2 then s.headId else 1 - s.headId) (decide (op = 2))

/-- A transfer is started, queued, or refused with BUSY_RETRY (R399, R467). -/
def State.transferStart (s : State) (op : Nat) : State :=
  let (s1, d) := s.actStart (s.transferAct op)
  if d = decRefused then s1.tdAnswer St.busyRetry false
  else if d = decQueued then s1.tdAnswer St.success true
  else (s1.transferRun op).tdAnswer St.success false

/-- The role of the partner in its last valid beat. -/
def State.partnerRole (s : State) : Nat := s.tandem.beat.elim roleInit BeatSeen.role

/-- SWITCH_BACK (R387, R399): accepted on a SOLE head whose partner is STANDBY with RESYNCED. -/
def execSwitchBack (s : State) : Out :=
  s.tdCommand fun s =>
    if s.role = roleSole ∧ s.partnerRole = roleStandby ∧ s.bit R.TD_STATE 5 ∧ s.tandem.transfer.isNone then s.transferStart 1
    else s.tdAnswer St.invalidField false

/-- HANDOVER (R387, R399): accepted on a TANDEM head whose partner is TANDEM, with MIRROR_UP. -/
def execHandover (s : State) : Out :=
  s.tdCommand fun s =>
    if s.role = roleTandem ∧ s.partnerRole = roleTandem ∧ s.bit R.CIST_STATUS 0 ∧ s.tandem.transfer.isNone then s.transferStart 2
    else s.tdAnswer St.invalidField false

/-! ### The giver's phases (R387, R388) -/

/-- Entries of moving volumes that remain to be destaged. -/
def State.movingLeft (s : State) : Nat := s.cist.parts.count fun _ p => s.moving p.vol && !p.released

/-- The transfer under way, as giver, in a phase. -/
def State.giving (s : State) (ph : TransferPhase) : Option Transfer :=
  s.tandem.transfer.bind fun t => if t.giver ∧ t.phase = ph then some t else none

/-- The transfer takes a value. -/
def State.setTransfer (s : State) (t : Option Transfer) : State := { s with tandem := { s.tandem with transfer := t } }

/-- TRANSFER_DRAIN_END (R387): fewer than 64 entries of moving volumes remain: their admission is held. -/
def execTransferDrainEnd (s : State) : Out :=
  match s.giving .drain with
  | none => .next s
  | some t => .next (if s.movingLeft < 64 then
      (s.holdMoving true).setTransfer (some { t with phase := .hold, holdAt := s.now }) else s)

/-- The pools of a paddock. -/
def State.poolsOn (s : State) (q : Nat) : List Nat := (s.media.pools.filter fun p => decide (s.padOf p.1 = q)).map Prod.fst

/-- TRANSFER_HOLD_END (R387): no entry of a moving volume remains: the paddock is checkpointed for every pool, then the giver's
own. -/
def execTransferHoldEnd (s : State) : Out :=
  match s.giving .hold with
  | none => .next s
  | some t => .next (if s.movingLeft = 0 then
      (s.poolsOn t.paddock ++ s.poolsOn (1 - t.paddock)).foldl State.checkpointAsk
        (s.setTransfer (some { t with phase := .checkpoint })) else s)

/-- TRANSFER_CHECKPOINT_END (R387): both roots are written, every record of the paddock included: EPOCH_RAISE with TO_OTHER = 1
goes to every module. -/
def execTransferCheckpointEnd (s : State) : Out :=
  match s.giving .checkpoint with
  | none => .next s
  | some t =>
    if (s.media.txns.any fun x => decide (s.padOf x.2.pool = t.paddock)) || (s.media.pools.any fun p => decide (p.2.ckpt ≠ .idle)) then .next s
    else .next (s.arbSet.foldl (fun s m => s.sendRaise t.paddock m true (s.epochOf t.paddock m) false)
      (s.setTransfer (some { t with phase := .raise, raised := true })))

/-- TRANSFER_ABORT (R388): HOLD, CHECKPOINT and the wait together pass TD_HOLD_MAX before any raise is sent. -/
def execTransferAbort (s : State) : Out :=
  match s.tandem.transfer with
  | none => .next s
  | some t =>
    if t.giver ∧ (t.phase = .hold ∨ t.phase = .checkpoint) ∧ s.fld R.TD_HOLD_MAX 0 16 < s.since t.holdAt then
      .next (((((s.holdMoving false).setTransfer none).actEnd actTransfer 0 fun _ => true).event 153 8).event 153 0)
    else .next s

/-- A write-class command that waits for its first lock is forwarded to the head that now owns its volume (R387). -/
def State.forwardHeld (s : State) (n : Nat) : State :=
  match s.cmd n with
  | none => s
  | some c =>
    match c.vol with
    | none => s
    | some v =>
      if c.stage = .checked ∧ c.granted = 0 ∧ c.img.op.weirClass = some wWr ∧ s.owns v = false then
        (s.undo n).forward n { c with charged := 0, parts := 0 } v
      else s

/-- Every command held for a transfer is forwarded (R387). -/
def State.forwardAll (s : State) : State := (s.front.cmds.map Prod.fst).foldl State.forwardHeld s

/-- Step of the commit point at the giver: once every raise has been answered, TRANSFER is sent with the new epochs, and the
paddock is no longer held (R387). -/
def State.transferSend (s : State) : State :=
  match s.giving .raise with
  | none => s
  | some t =>
    if s.tandem.raises.any fun r => decide (r.1 / 32 = t.paddock ∧ r.2.st = .waiting) then s
    else
      let eps := (List.range 24).map fun m =>
        ((s.tandem.epochs.find (epKey t.paddock m)).elim 0 fun e => e.next.getD e.inForce)
      let base := if t.paddock = s.headId then 0 else 16
      let roots := (List.range 16).map fun p => (s.pool (base + p)).elim 0 Pool.ckptTseq
      let moved := (s.media.vols.filter fun v => s.moving v.1).map Prod.fst
      let s1 := (s.tlSend (.transfer t.paddock eps roots)).clearPaddock t.paddock
      let s2 := moved.foldl (fun s v => s.setVol v fun x => { x with held := true, owner := 1 - s.headId }) s1
      ({ s2 with tandem := { s2.tandem with held := s2.tandem.held.filter fun q => decide (q ≠ t.paddock) } }).setTransfer
        (some { t with phase := .take })

/-- Step of the commit point at the giver: the taker's beat shows that it has taken the paddock (R387, R388): held commands are
forwarded; after a handover the giver is STANDBY and leaves. -/
def State.transferGiven (s : State) : State :=
  match s.giving .take with
  | none => s
  | some t =>
    if s.partnerRole ≠ (if t.handover then roleSole else roleTandem) then s
    else
      let s1 := { s with media := { s.media with vols := s.media.vols.mapVals fun _ v =>
        if v.owner ≠ s.headId then { v with held := false } else v } }
      let s2 := ((s1.setTransfer none).actEnd actTransfer 0 fun _ => true).event 153 0
      let s3 := if t.handover then
          (({ s2 with tandem := { s2.tandem with leaving := true } }).setRole roleStandby).tlSend .leave
        else s2.setRole roleTandem
      s3.anaChanged.forwardAll

/-! ### The taker (R387) -/

/-- The epochs of a TRANSFER record are due for the next commit point, this head their holder. -/
def State.takeEpochs (s : State) (q : Nat) (eps : List Nat) : State :=
  (s.arbSet).foldl (fun s m =>
    let e : Epoch := { inForce := s.epochOf q m, next := some ((eps[m]?).getD 0), holder := some s.headId }
    let s1 := s.holderSeen q m ((eps[m]?).getD 0) s.headId
    ({ s1 with tandem := { s1.tandem with epochs := s1.tandem.epochs.put (epKey q m) e } }).holdShow) s

/-- TL_TRANSFER (R387): the taker learns the new epochs and roots, and `data` of the paddock from flash; it holds the paddock from
the commit point at which the epochs are in force. -/
def execTlTransfer (paddock : Nat) (epochs roots : List Nat) (data : PaddockData) (s : State) : Out :=
  if 2 ≤ paddock ∨ s.spilling ∨ s.holds paddock ∨ (s.role ≠ roleStandby ∧ s.role ≠ roleTandem) ∨ s.tandem.transfer.isSome then .next s
  else
    let s1 := (s.joinPaddock paddock data).takeEpochs paddock epochs
    let base := if paddock = s.headId then 0 else 16
    let s2 := (List.range 16).foldl (fun s p => s.setPool (base + p) fun x => { x with ckptTseq := (roots[p]?).getD x.ckptTseq }) s1
    .next (s2.setTransfer (some { paddock := paddock, giver := false, handover := decide (s.role = roleTandem), phase := .take,
                                  holdAt := s.now, raised := true }))

/-- Step of the commit point at the taker: the epochs are in force: the paddock is recovered, calibration loaded, its volumes are
owned and admitted (R387). -/
def State.transferTaken (s : State) : State :=
  match s.tandem.transfer with
  | none => s
  | some t =>
    if t.giver then s
    else
      let s1 := { s with tandem := { s.tandem with held := (s.tandem.held ++ [t.paddock]).eraseDups, transfer := none } }
      let r := s1.recoverPaddock t.paddock []
      let vols := r.media.vols.mapVals fun _ v => if r.padOf v.pool = t.paddock then { v with held := false } else v
      let s2 := { r with media := { r.media with vols := vols } }
      ((s2.setRole (if t.handover then roleSole else roleTandem)).event 153 7).anaChanged

/-- TL_LEAVE (R388): the partner leaves after a handover: its beats show LEAVING from now on. -/
def execTlLeave (s : State) : Out :=
  .next (if s.spilling then s else { s with tandem := { s.tandem with
    beat := s.tandem.beat.map fun b => { b with flags := if b.flags / 32 % 2 = 1 then b.flags else b.flags + 32 } } })

end Sys2Proof.Machine
end

