-- ==== Sys2Proof/Machine/Forward.lean ====
section
/-! DEFINITION. Forwarding between the heads, reference changes, substitutions and CLOSED as records of the Torlux link (R347,
R366, R367, R382, R383, R394). -/

namespace Sys2Proof.Machine

/-! ### Forwarded commands (R382, R383) -/

/-- TL_FWD_CMD (R382): the owner takes a command that the partner received, for a volume of this head: a write-class one runs
through ingest, a Read or Verify through the read path. Its admission was charged at the partner. -/
def execTlFwdCmd (id : Nat) (img : CmdImg) (fn queue vol : Nat) (s : State) : Out :=
  let s1 := s.count R.TL_FWD_RCVD
  if s.spilling then .next s
  else if s.owns vol = false ∨ s.stopped then .next (s1.tlSend (.fwdCpl id St.headFenced 0))
  else if s.tandem.fwdIn.has id then .next s1
  else
    let n := s1.front.nextCmd
    let s2 := s1.newCmd (.forwarded id) 0 (if fn < 249 then fn else queue % 256 + 256) (some vol) img
    let s3 := { s2 with tandem := { s2.tandem with fwdIn := s2.tandem.fwdIn.put id n } }
    match s3.cmd n with
    | none => .next s3
    | some c =>
      let s4 := s3.admitCmd n c
      if img.op.weirClass = some wWr then .next (s4.ingest n img.op false) else .next (s4.startRead n img.op false)

/-- The command of this head that waits for the partner under an identifier. -/
def State.fwdWaits (s : State) (id : Nat) : Option (Nat × HostCmd) :=
  (s.tandem.fwdOut.find id).bind fun n => (s.cmd n).map fun c => (n, c)

/-- TL_FWD_ACCEPT (R382): the owner has taken the command: the data of a write is fetched. -/
def execTlFwdAccept (id : Nat) (s : State) : Out :=
  match s.fwdWaits id with
  | none => .next s
  | some (n, c) =>
    if c.stage ≠ .forwarded ∨ c.img.op ≠ .write ∨ s.spilling then .next s
    else
      let (g, k) := grainSpan (s.cmdFormat c) c.img.slba c.img.blocks
      .next ((List.range (if k = 0 then 0 else (g + k - 1) / 256 - g / 256 + 1)).foldl (fun s i =>
        if c.img.inCapsule = none then (s.emit (.dataFetch n i)).srcSend c.src (min k 256 * 4096) true else s) s)

/-- The part of a command that its next data belongs to: the first that has a lock and is not complete. -/
def State.nextPart (s : State) (n : Nat) : Option Nat :=
  (s.cist.parts.filter fun p => decide (p.2.cmd = some n ∧ p.2.lock = .streaming ∧ p.2.grains.length < p.2.count)).foldl
    (fun b p =>
      match b with
      | none => some p.1
      | some q => if p.2.part < (s.part q).elim 0 Part.part then some p.1 else some q) none

/-- TL_FWD_DATA (R382): at the owner the next data of a forwarded write; at the receiving head the sectors of grain `index` of a
forwarded read, which are staged and transferred. -/
def execTlFwdData (id index mask : Nat) (data : List Byte) (pi : List (Nat × Nat × Nat)) (after unit bad : Nat) (units : List Nat)
    (s : State) : Out :=
  match (if s.spilling then none else s.tandem.fwdIn.find id), (if s.spilling then none else s.fwdWaits id) with
  | some n, _ =>
    match s.nextPart n with
    | none => .next s
    | some q => execDataArrive q data pi after unit bad units s
  | none, some (n, c) =>
    .next (if c.img.op ≠ .read then s
      else if s.isStale c then (c.src.fn.elim s s.staleDiscard).slotFree n
      else ((s.emit (.readData c.src index mask data pi)).srcSend c.src data.length).slotFree n)
  | none, none => .next s

/-- TL_FWD_CPL (R382, R384): the receiving head posts the completion; with the TSN on a tandem queue pair. -/
def execTlFwdCpl (id status tsn : Nat) (s : State) : Out :=
  match (if s.spilling then none else s.fwdWaits id) with
  | none => .next s
  | some (n, c) =>
    let s1 := { s with tandem := { s.tandem with fwdOut := s.tandem.fwdOut.drop id } }
    .next (s1.complete n status (if s1.tandemCpl c ∧ status = 0 ∧ c.fua = false ∧ c.img.op.weirClass = some wWr then tsn else 0))

/-- FWD_LINK_DOWN_TIMEOUT (R383): 250 strides after the link went DOWN a forwarded command without FWD_CPL completes with
BUSY_RETRY. -/
def execFwdLinkDownTimeout (id : Nat) (s : State) : Out :=
  match s.fwdWaits id with
  | none => .next s
  | some (n, _) =>
    if s.tlActive ∨ s.since s.tandem.tl.since < 250 then .next s
    else .next (({ s with tandem := { s.tandem with fwdOut := s.tandem.fwdOut.drop id } }).complete n St.busyRetry)

/-! ### Reference changes (R282, R367) -/

/-- TL_REF_DELTA (R367): the partner's count changes to grains of a paddock that this head holds go, in arrival order, into the
next map transaction of their pools. -/
def execTlRefDelta (changes : List RefDelta) (s : State) : Out :=
  let mine := changes.filterMap fun d => (s.segAt d.addr).map fun g => (g.2.pool, d)
  let pools := (mine.map Prod.fst).eraseDups
  .next (if s.spilling then s else pools.foldl (fun s p =>
    (s.addTxn p 0 0 0 ((mine.filter fun x => decide (x.1 = p)).map fun x => .refChange x.2.addr x.2.delta x.2.tseq)).1) s)

/-- TL_REF_ACK (R367): changes up to the last one applied are acknowledged. -/
def execTlRefAck (tseq : Nat) (s : State) : Out :=
  let l := s.tandem.refOut
  let keep := (l.reverse.takeWhile fun d => decide (¬ (d.tseq = tseq ∧ d.sent = true))).reverse
  .next (if s.spilling = false ∧ (l.any fun d => decide (d.tseq = tseq ∧ d.sent = true)) = true then { s with tandem := { s.tandem with refOut := keep } } else s)

/-- Step of the commit point: changes that wait are sent, up to 64 in a record (R366, R367). -/
def State.refSend (s : State) : State :=
  let due := s.tandem.refOut.filter fun d => !d.sent
  if due = [] ∨ s.tlActive = false ∨ s.spilling then s
  else
    let s1 := { s with tandem := { s.tandem with refOut := s.tandem.refOut.map fun d => { d with sent := true } } }
    (List.range (ceilDiv due.length 64)).foldl (fun s i => s.tlSend (.refDelta ((due.drop (64 * i)).take 64))) s1

/-- After a link recovery every change not yet acknowledged is sent again (R367). -/
def State.refAgain (s : State) : State :=
  { s with tandem := { s.tandem with refOut := s.tandem.refOut.map fun d => { d with sent := false } } }

/-! ### Substitutions and CLOSED (R347, R394) -/

/-- TL_SUBST (R347): the partner's substitution is copied here, and enters the pool of that paddock where this head has it. -/
def execTlSubst (pool paddock module port serial : Nat) (s : State) : Out :=
  let p := if paddock = s.headId then pool % 16 else pool % 16 + 16
  let s1 := { s with tandem := { s.tandem with
    substs := (pool % 16, paddock, module, port, serial) :: s.tandem.substs.filter fun x =>
      decide (¬ (x.1 = pool % 16 ∧ x.2.1 = paddock ∧ x.2.2.1 = module)) } }
  .next (if s.spilling then s else s1.setPool p fun x => { x with subst := x.subst.put module port })

/-- TL_CLOSED (R394): the partner's CLOSED for a batch. -/
def execTlClosed (batch : Nat) (s : State) : Out :=
  .next (if s.spilling then s else { s with tandem := { s.tandem with
    groups := s.tandem.groups.mapVals fun _ g => { g with closedPartner := max g.closedPartner batch } } })

end Sys2Proof.Machine
end

