-- ==== Sys2Proof/Machine/Links.lean ====
section
/-! DEFINITION. The flit links, of the module ports and between the heads: lanes, flits, control messages and link states (R237
to R244, R259 to R262, R362 to R366, R397, R505). -/

namespace Sys2Proof.Machine

/-! ### What the two kinds of link differ in -/

/-- The page of a link. -/
def LinkEnd.page : LinkEnd → Nat
  | .module n => mlinkPage n
  | .torlux => 151

/-- The status register of a link, with LSTATE in its three lowest bits (R261, R397). -/
def LinkEnd.status : LinkEnd → Nat
  | .module n => R.MLK_STATUS n
  | .torlux => R.TL_STATUS

/-- The control register of a link: TRAIN and SPARE_EN (R261, R397). -/
def LinkEnd.ctrl : LinkEnd → Nat
  | .module n => R.MLK_CTRL n
  | .torlux => R.TL_CTRL

/-- MLK_LANE_LIMIT or TL_LANE_LIMIT (R238, R362). -/
def LinkEnd.limit : LinkEnd → Nat
  | .module n => R.MLK_LANE_LIMIT n
  | .torlux => R.TL_LANE_LIMIT

/-- The counter of invalid sync headers of a receive lane. -/
def LinkEnd.laneErr (lane : Nat) : LinkEnd → Nat
  | .module n => R.MLK_LANE_ERR n lane
  | .torlux => R.TL_LANE_ERR lane

/-- Counters of a link: flits sent and accepted, CRC errors, replays, RECOVERY entries. -/
def LinkEnd.flitsTx : LinkEnd → Nat
  | .module n => R.MLK_FLITS_TX n
  | .torlux => R.TL_FLITS_TX
def LinkEnd.flitsRx : LinkEnd → Nat
  | .module n => R.MLK_FLITS_RX n
  | .torlux => R.TL_FLITS_RX
def LinkEnd.crcErr : LinkEnd → Nat
  | .module n => R.MLK_CRC_ERR n
  | .torlux => R.TL_CRC_ERR
def LinkEnd.replays : LinkEnd → Nat
  | .module n => R.MLK_REPLAYS n
  | .torlux => R.TL_REPLAYS
def LinkEnd.retrains : LinkEnd → Nat
  | .module n => R.MLK_RETRAINS n
  | .torlux => R.TL_RETRAINS

/-- Spare lanes, in the order in which they are taken (R237, R361). -/
def LinkEnd.spares : LinkEnd → List Nat
  | .module _ => [4]
  | .torlux => [16, 17]

/-- Lanes of a link. -/
def LinkEnd.lanes : LinkEnd → Nat
  | .module _ => 5
  | .torlux => 18

/-- The lanes that carry a link at full width (R237, R361). -/
def LinkEnd.fullLanes : LinkEnd → List Nat
  | .module _ => [0, 1, 2, 3]
  | .torlux => [0, 1, 2, 3, 4, 5, 6, 7, 8, 9, 10, 11, 12, 13, 14, 15]

/-- The lanes that carry a link, and its spares in the order in which they are taken: those of R237 and R361 until a retrain or the
far end's WIDTH message gives others (R240, R243, R362). -/
def LinkEnd.carries (k : LinkEnd) (l : FlitLink) : List Nat × List Nat :=
  l.carry.getD (k.fullLanes, k.spares)

/-- The full and the reduced width (R237, R240, R361, R362). -/
def LinkEnd.full : LinkEnd → Nat
  | .module _ => 4
  | .torlux => 16
def LinkEnd.reduced : LinkEnd → Nat
  | .module _ => 2
  | .torlux => 8

/-- Flits of the replay buffer (R242, R363). -/
def LinkEnd.room : LinkEnd → Nat
  | .module _ => 128
  | .torlux => 2048

/-- The width of the WIDTH field, at bit 4 or 3 of the status register. -/
def LinkEnd.widthLo : LinkEnd → Nat
  | .module _ => 4
  | .torlux => 3
def LinkEnd.widthBits : LinkEnd → Nat
  | .module _ => 3
  | .torlux => 5

/-- Errors of a link. -/
inductive LinkErr where
  | flitCrc | retrain | laneSwapped | widthReduced | linkDown | identity | protocol | overflow
  deriving DecidableEq, Repr

/-- The code and level of an error, on a module port (R262) and on the Torlux link (R402): a record beyond its credits is a
protocol error there. -/
def LinkEnd.err (e : LinkErr) : LinkEnd → Nat × Nat
  | .module _ =>
    match e with
    | .flitCrc => (0x0100, 1) | .retrain => (0x0102, 1) | .laneSwapped => (0x0107, 1) | .widthReduced => (0x0103, 2)
    | .linkDown => (0x0104, 0) | .identity => (0x010A, 2) | .protocol => (0x0106, 2) | .overflow => (0x0105, 2)
  | .torlux =>
    match e with
    | .flitCrc => (0x0100, 1) | .retrain => (0x0101, 1) | .laneSwapped => (0x0102, 1) | .widthReduced => (0x0103, 2)
    | .linkDown => (0x0104, 1) | .identity => (0x0105, 2) | .protocol => (0x0106, 2) | .overflow => (0x0106, 2)

/-- An error of a link is captured and placed. -/
def State.linkErr (s : State) (k : LinkEnd) (e : LinkErr) (sub : Nat) (injected : Bool := false) : State :=
  s.raise k.page (k.err e).1 (k.err e).2 sub injected

/-- The flit link of an end. -/
def State.flitLink (s : State) : LinkEnd → FlitLink
  | .module n => (s.mlink n).link
  | .torlux => s.tandem.tl

/-- The flit link of an end takes a value. -/
def State.setFlitLink (s : State) (k : LinkEnd) (l : FlitLink) : State :=
  match k with
  | .module n => s.setMlink n { s.mlink n with link := l }
  | .torlux => s.setTl l

/-- LSTATE of a link (R259, R364). -/
def State.linkState (s : State) (k : LinkEnd) : Nat := s.fld k.status 0 3

/-- LSTATE takes a value, and the stride is noted. -/
def State.setLinkState (s : State) (k : LinkEnd) (st : Nat) : State :=
  (s.setFlitLink k { s.flitLink k with since := s.now }).putFld k.status 0 3 st

/-- WIDTH of a link. -/
def State.linkWidth (s : State) (k : LinkEnd) : Nat := s.fld k.status k.widthLo k.widthBits

/-- What waits on a link goes as far as it may. -/
def State.linkPump (s : State) : LinkEnd → State
  | .module n => s.pump n
  | .torlux => s.tlPump s.tandem.tlWait.length

/-! ### Retraining and replay (R240, R242, R259) -/

/-- The link leaves ACTIVE for RECOVERY, keeping sequence numbers, replay buffers and credits (R242, R259). -/
def State.enterRecovery (s : State) (k : LinkEnd) : State :=
  if s.linkState k ≠ lsActive then s
  else
    let l := s.flitLink k
    let rs := s.now :: l.recoveries.filter fun t => decide (s.since t < 250000)
    ((s.setFlitLink k { l with recoveries := rs, replays := 0 }).setLinkState k lsRecovery).count k.retrains

/-- A replay starts, from the oldest unacknowledged flit; a flit already replayed 4 times without progress sends the link to
RECOVERY (R242). -/
def State.replayFlits (s : State) (k : LinkEnd) : State :=
  let l := s.flitLink k
  if l.unacked = 0 then s
  else if 4 ≤ l.replays then s.enterRecovery k
  else ((s.setFlitLink k { l with replays := l.replays + 1 }).count k.replays).emit (.replay k.page l.txAcked)

/-- REPLAY_TIMEOUT (R242, R363): the oldest unacknowledged flit has waited 2,000 ns, or 1,000 ns on the Torlux link. -/
def execReplayTimeout (k : LinkEnd) (s : State) : Out :=
  if (s.linkState k ≠ lsActive ∧ s.linkState k ≠ lsInit) ∨ (s.flitLink k).unacked = 0 then .next s
  else
    match k with
    | .module _ => .next ((s.raise k.page 0x0101 1 0).replayFlits k)
    | .torlux => .next (s.replayFlits k)

/-- An acknowledgement is sent: ACK_SEQ is the last flit received in order (R241, R242). -/
def State.sendAck (s : State) (k : LinkEnd) (nak : Bool) : State :=
  let l := s.flitLink k
  (s.setFlitLink k { l with rxRun := 0, nakSent := nak || l.nakSent }).emit (.ack k.page ((l.rxNext + 4095) % 4096) nak)

/-- ACK_TIMER (R242, R363): while an accepted flit is unacknowledged, an acknowledgement goes at least every 256 ns, or 128 ns on
the Torlux link. -/
def execAckTimer (k : LinkEnd) (s : State) : Out :=
  if (s.linkState k ≠ lsActive ∧ s.linkState k ≠ lsInit) ∨ (s.flitLink k).rxRun = 0 then .next s else .next (s.sendAck k false)

/-! ### Lanes (R238 to R240, R362) -/

/-- The status fields that show the lanes replaced (R261, R397). -/
def State.showSpares (s : State) (k : LinkEnd) : State :=
  let l := s.flitLink k
  let by_ := fun (xs : List (Nat × Nat)) (sp none_ : Nat) => (xs.find? fun x => decide (x.2 = sp)).elim none_ Prod.fst
  match k with
  | .module n =>
    (s.putFld (R.MLK_STATUS n) 9 3 (l.txSpared.head?.elim 7 Prod.fst)).putFld (R.MLK_STATUS n) 12 3 (l.rxSpared.head?.elim 7 Prod.fst)
  | .torlux =>
    (((s.putFld R.TL_STATUS 8 5 (by_ l.txSpared 16 31)).putFld R.TL_STATUS 13 5 (by_ l.txSpared 17 31)).putFld R.TL_STATUS 18 5
      (by_ l.rxSpared 16 31)).putFld R.TL_STATUS 23 5 (by_ l.rxSpared 17 31)

/-- The spare that a direction takes next: the first that has not replaced a lane. -/
def LinkEnd.nextSpare (k : LinkEnd) (l : FlitLink) (used : List (Nat × Nat)) : Option Nat :=
  (k.carries l).2.find? fun sp => !(used.any fun x => decide (x.2 = sp))

/-- A lane carries the link in a direction: it is not replaced, and it is no spare that waits. -/
def LinkEnd.active (k : LinkEnd) (l : FlitLink) (used : List (Nat × Nat)) (lane : Nat) : Bool :=
  !(used.any fun x => decide (x.1 = lane)) && ((k.carries l).1.contains lane || used.any fun x => decide (x.2 = lane))

/-- A lane was swapped: LANE_SWAPPED with the lane (R238, R261), marked where its failure was injected (R77). -/
def State.laneSwapped (s : State) (k : LinkEnd) (lane : Nat) (injected : Bool) : State :=
  ((s.showSpares k).event k.page 2).linkErr k .laneSwapped lane injected

/-- A CONTROL flit is sent, sequenced as every flit with content (R241, R243). -/
def State.sendControl (s : State) (k : LinkEnd) (ctype : Nat) (body : List Byte) : State :=
  let p := (s.flitLink k).push 1 k.room
  ((s.setFlitLink k p.1).flitsSent k.page k.flitsTx p.1 p.2 2).emit (.control k.page ctype body)

/-- The link goes to RECOVERY, to retrain at its reduced width (R240, R362). -/
def State.narrowDown (s : State) (k : LinkEnd) : State :=
  (s.setFlitLink k { s.flitLink k with narrowing := true }).enterRecovery k

/-- An active receive lane fails: SWAP_REQ, or with no spare left RECOVERY and the reduced width (R238, R240, R362). -/
def State.laneFails (s : State) (k : LinkEnd) (lane : Nat) (injected : Bool := false) : State :=
  let l := s.flitLink k
  if s.linkState k ≠ lsActive ∨ k.active l l.rxSpared lane = false then s
  else
    let s1 := if injected then s.setFlitLink k { l with injected := lane :: l.injected } else s
    if s.bit k.ctrl 1 ∧ (k.nextSpare l l.rxSpared).isSome then s1.sendControl k 0x02 (leBytes 1 lane)
    else s1.narrowDown k

/-- LANE_FAILING (R238): a receiver has counted `errors` more invalid sync headers on a lane within 250,000 strides, or lost block
lock on it for 64 blocks. -/
def execLaneFailing (k : LinkEnd) (lane errors : Nat) (lockLost : Bool) (s : State) : Out :=
  if k.lanes ≤ lane then .next s
  else
    let s1 := s.countBy (k.laneErr lane) errors
    .next (if lockLost ∨ s.fld k.limit 0 24 < errors then s1.laneFails k lane else s1)

/-- The transmitter moves a lane to the spare: SWAP twice on all lanes (R238, R239). -/
def State.txSwap (s : State) (k : LinkEnd) (lane : Nat) : State :=
  let l := s.flitLink k
  match k.nextSpare l l.txSpared with
  | none => s
  | some sp =>
    if s.linkState k ≠ lsActive ∨ k.active l l.txSpared lane = false then s
    else
      let n := (l.txSwaps + 1) % 256
      let s1 := s.setFlitLink k { l with txSpared := l.txSpared ++ [(lane, sp)], txSwaps := n }
      ((s1.emit (.swapSet k.page lane sp n)).emit (.swapSet k.page lane sp n)).laneSwapped k lane false

/-- SWAP_REQ_RX (R238): the transmitter swaps; a second failure in a direction that has used its spare moves the link to RECOVERY
(R240, R362). -/
def execSwapReqRx (k : LinkEnd) (lane : Nat) (s : State) : Out :=
  let l := s.flitLink k
  .next (if s.linkState k = lsActive ∧ k.active l l.txSpared lane ∧ (k.nextSpare l l.txSpared).isNone then s.narrowDown k
    else s.txSwap k lane)

/-- SWAP_ORDERED_SET_RX (R239): a SWAP block with FAIL, SPARE, their complements as received, and SWAP_COUNT; the receiver acts on
the first one whose complements match on a lane and whose count is one more than the last. -/
def execSwapOrderedSetRx (k : LinkEnd) (fail spare nfail nspare count : Nat) (s : State) : Out :=
  let l := s.flitLink k
  if fail + nfail ≠ 255 ∨ spare + nspare ≠ 255 ∨ count ≠ (l.rxSwaps + 1) % 256 ∨ s.linkState k ≠ lsActive then .next s
  else .next ((s.setFlitLink k { l with
      rxSpared := l.rxSpared ++ [(fail, spare)], rxSwaps := count, injected := l.injected.filter fun i => decide (i ≠ fail) }).laneSwapped
    k fail (decide (fail ∈ l.injected)))

/-- A forced swap: the transmitter swaps, or the receiver asks for a swap (R238, R261, R397). With no spare left nothing is
swapped (DESIGN CHOICE, assumption log 55). -/
def State.forceSwap (s : State) (k : LinkEnd) (lane : Nat) (receive : Bool) : State :=
  if receive then (if (k.nextSpare (s.flitLink k) (s.flitLink k).rxSpared).isSome then s.laneFails k lane else s) else s.txSwap k lane

/-- MLK_FORCE_SWAP (R238, R261): a write with GO. -/
def execMlkForceSwap (n lane : Nat) (receive : Bool) (s : State) : Out :=
  .next (s.pageWrite (mlinkPage n) fun s => s.forceSwap (.module n) lane receive)

/-- TL_FORCE_SWAP (R362, R397): a write with GO. -/
def execTlForceSwap (lane : Nat) (receive : Bool) (s : State) : Out :=
  .next (s.pageWrite 151 fun s => s.forceSwap .torlux lane receive)

/-- The link carries less than its full width: WIDTH_REDUCED at L2 (R240, R362), whose handling takes the page to DEGRADED at the
next commit point (R62, R456). -/
def State.narrow (s : State) (k : LinkEnd) : State :=
  (s.linkErr k .widthReduced 0 (decide ((s.flitLink k).injected ≠ []))).event k.page 3

/-- WIDTH takes a value. -/
def State.setWidth (s : State) (k : LinkEnd) (w : Nat) : State :=
  let s1 := s.putFld k.status k.widthLo k.widthBits w
  if w < s.linkWidth k then s1.narrow k else s1

/-- The lanes that carry the link become those given, the spares those given after them, and no lane is replaced (R240, R362). -/
def State.setCarry (s : State) (k : LinkEnd) (on spare : List Nat) : State :=
  (s.setFlitLink k { s.flitLink k with
    carry := if on = k.fullLanes ∧ spare = k.spares then none else some (on, spare), txSpared := [], rxSpared := [] }).showSpares k

/-- WIDTH_MSG_RX (R243): the active width of the far end, with its lane map: the physical lane in each logical position. The lanes
of the map carry the link, and a lane that waits as a spare stays one. -/
def execWidthMsgRx (k : LinkEnd) (width : Nat) (map : List Nat) (s : State) : Out :=
  if (width = k.full ∨ width = k.reduced) ∧ (s.linkState k = lsActive ∨ s.linkState k = lsRecovery) then
    let on := (map.filter fun i => decide (i < k.lanes)).take width
    .next ((s.setCarry k on ((k.carries (s.flitLink k)).2.filter fun i => !on.contains i)).setWidth k width)
  else .next s

/-! ### A link that goes DOWN (R259, R260, R364) -/

/-- A command that cannot be completed is completed internally: no media failure follows (R260). -/
def State.lostCommand (s : State) (port m : Nat) (c : ModCmd) : State :=
  match c.use with
  | .raise q _ _ _ => s.raiseLost q port
  | .stripe i k => s.stripeAnswer i k false []
  | .journal pool q first last w => s.journalFail pool q first last w true
  | .root pool w => s.rootAnswer pool w false
  | .read n i =>
    s.readAnswer port m c n i false false { unit := 0, words := 0, failed := 0, corr := 0, corrMax := 0, up := [], dn := [] }
  | .rebuild seg page _ => s.setSeg seg fun g => { g with rebuilt := min g.rebuilt page }
  | _ => s

/-- Dies whose state is learned afresh from STATUS (R260): those with a lost PROGRAM, ERASE, SUSPEND, RESUME or ABORT. -/
def lostDies (cs : List ModCmd) : List Nat :=
  ((cs.filter fun c => decide (opProgram ≤ c.opcode ∧ c.opcode ≤ opAbort)).map ModCmd.die).eraseDups

/-- The link of a module port goes DOWN: every outstanding command is completed internally, and so is every one that waits
(R259, R260). -/
def State.moduleDown (s : State) (port : Nat) : State :=
  let l := s.mlink port
  let cs := (l.tags.map Prod.snd) ++ l.queue
  let m := (s.served port).elim port Prod.snd
  let fresh : MLink := { l with
    link := FlitLink.fresh s.now l.link.recoveries, tags := [], downAt := some s.now,
    queue := (lostDies cs).map fun d => ModCmd.plain opStatus d .status, oldSerial := l.ident.map Ident.serial }
  let s1 := ((s.setMlink port fresh).putFld (R.MLK_STATUS port) 0 3 lsDown).putFld (R.MLK_STATUS port) 4 3 0
  let s2 := (s1.showSpares (.module port)).event (mlinkPage port) 1
  cs.foldl (fun s c => s.lostCommand port m c) s2

/-- The Torlux link goes DOWN: what waits on it is lost, but for substitutions (R347, R364). -/
def State.torluxDown (s : State) : State :=
  let s1 := { s with tandem := { s.tandem with
    tl := FlitLink.fresh s.now s.tandem.tl.recoveries, tlWait := s.tandem.tlWait.filter fun r => r.2.keeps, tlInitOk := false } }
  (((s1.putFld R.TL_STATUS 0 3 lsDown).putFld R.TL_STATUS 3 5 0).showSpares .torlux).event 151 1

/-- A link goes DOWN. -/
def State.linkGoesDown (s : State) (k : LinkEnd) : State :=
  if s.linkState k = lsDown then s
  else
    match k with
    | .module n => s.moduleDown n
    | .torlux => s.torluxDown

/-- TRAIN_TIMEOUT (R259): no lock within 25,000 strides. -/
def execTrainTimeout (k : LinkEnd) (s : State) : Out :=
  if s.linkState k = lsTrain ∧ 25000 ≤ s.since (s.flitLink k).since then .next ((s.linkErr k .linkDown 0).linkGoesDown k)
  else .next s

/-- LINK_INIT_TIMEOUT (R259, R364): no answer within 250 strides. A Torlux link held in INIT by R505 stays there. -/
def execLinkInitTimeout (k : LinkEnd) (s : State) : Out :=
  if s.linkState k = lsInit ∧ 250 ≤ s.since (s.flitLink k).since ∧ ¬ (k = .torlux ∧ s.tandem.tlInitOk = true) then
    .next ((s.linkErr k .identity 0).linkGoesDown k)
  else .next s

/-- RECOVERY_TIMEOUT (R259): not retrained within 250 strides, or the third RECOVERY within 250,000 strides. -/
def execRecoveryTimeout (k : LinkEnd) (s : State) : Out :=
  let l := s.flitLink k
  if s.linkState k = lsRecovery ∧ (250 ≤ s.since l.since ∨ 3 ≤ (l.recoveries.filter fun t => decide (s.since t < 250000)).length) then
    .next ((s.linkErr k .linkDown 0).linkGoesDown k)
  else .next s

/-- MODULE_ABSENT (R259): the module is absent on sideband, or TRAIN = 0. -/
def execModuleAbsent (n : Nat) (s : State) : Out :=
  if s.bit (R.MLK_STATUS n) 3 = false ∨ s.bit (R.MLK_CTRL n) 0 = false then .next (s.linkGoesDown (.module n)) else .next s

/-- MOD_RST_ASSERT (R252, R527): accepted with the page OFF or the link DOWN; the bridge resets its port, which is a link-down. -/
def execModRstAssert (n : Nat) (s : State) : Out :=
  if s.pageState (mlinkPage n) = .off ∨ s.lstate n = lsDown then
    .next ((({ s with power := { s.power with modRst := s.power.modRst.put n (s.now, false) } }).putBit R.MOD_RST n true).linkGoesDown
      (.module n))
  else .next (s.writeDiscarded 0)

/-! ### Training and INIT (R243, R259, R363, R364, R505) -/

/-- MLK_TRAIN (R259): MLK_CTRL.TRAIN is set; with a module present the link trains. -/
def execMlkTrain (n : Nat) (s : State) : Out :=
  .next (s.pageWrite (mlinkPage n) fun s => (s.putBit (R.MLK_CTRL n) 0 true).trainStart n)

/-- TL_TRAIN (R364): TL_CTRL.TRAIN is set, and the link trains. -/
def execTlTrain (s : State) : Out :=
  .next (s.pageWrite 151 fun s =>
    let s1 := s.putBit R.TL_CTRL 0 true
    if s1.linkState .torlux = lsDown then s1.setLinkState .torlux lsTrain else s1)

/-- TANDEM_MIN of the running image: bytes 24 to 27 of its header (R496, R505). -/
def State.ownTandemMin (s : State) : Nat :=
  let h := if s.bit R.FW_RUN 0 then s.svc.slotB.header else s.svc.slotA.header
  ofLeBytes ((h.drop 24).take 4)

/-- The body of the INIT message that this head sends, from byte 1 on: PORT, LINK_VER, and credits, 0 being unlimited; on the
Torlux link also the stepping, 1 MiB of credits in each class, BUILD and TANDEM_MIN (R243, R244, R363, R505). -/
def State.initBody (s : State) : LinkEnd → List Byte
  | .module _ => leBytes 1 s.headId ++ leBytes 1 1 ++ leBytes 1 0 ++ List.replicate 16 0
  | .torlux => leBytes 1 s.headId ++ leBytes 1 1 ++ leBytes 1 (s.fld R.CHIP_STEP 0 8)
      ++ (List.replicate 4 (leBytes 4 16384)).flatten ++ leBytes 4 (s.rdN R.FW_RUN_BUILD) ++ leBytes 4 s.ownTandemMin

/-- The lanes found good, lowest first. -/
def LinkEnd.good (k : LinkEnd) (lanes : List Nat) : List Nat := (List.range k.lanes).filter fun i => lanes.contains i

/-- The width a link takes with such good lanes. -/
def LinkEnd.widthOn (k : LinkEnd) (good : List Nat) : Nat := if k.full ≤ good.length then k.full else k.reduced

/-- The spares that stay beside the lanes of a width, of the good lanes: on a module port one at most (R237, R240, R362). -/
def LinkEnd.sparesOn (k : LinkEnd) (good : List Nat) (width : Nat) : List Nat := (good.drop width).take k.spares.length

/-- Block lock on the good lanes given: sequences are 0, INIT is sent, and on a module port IDENTIFY and EPOCH_QUERY follow
(R259). -/
def State.linkInit (s : State) (k : LinkEnd) (good : List Nat) : State :=
  let l := FlitLink.fresh s.now (s.flitLink k).recoveries
  let w := k.widthOn good
  let s1 := (((s.setFlitLink k l).putFld k.status 0 3 lsInit).putFld k.status k.widthLo k.widthBits w).setCarry k (good.take w)
    (k.sparesOn good w)
  let s2 := s1.sendControl k 0x01 (s1.initBody k)
  match k with
  | .torlux => s2
  | .module n =>
    let x := s2.mlink n
    s2.setMlink n { x with
      nextTag := 0, tags := [],
      queue := [ModCmd.plain opIdentify 0 .identify, ModCmd.plain opEpochQuery 0 .epochQuery] ++ x.queue }

/-- BLOCK_LOCK (R259, R364): block lock on the lanes given both ways, at a speed: on fewer than the reduced width the link does not
leave TRAIN. -/
def execBlockLock (k : LinkEnd) (lanes : List Nat) (speed : Nat) (s : State) : Out :=
  if s.linkState k ≠ lsTrain ∨ (k.good lanes).length < k.reduced then .next s
  else
    let s1 := s.linkInit k (k.good lanes)
    match k with
    | .module n => .next (s1.putFld (R.MLK_STATUS n) 7 2 (max speed (s.fld (R.MLK_CTRL n) 2 2)))
    | .torlux => .next s1

/-- The Torlux link becomes ACTIVE: reference changes not acknowledged are sent again, and a split has ended (R364, R367,
R378). -/
def State.torluxUp (s : State) : State :=
  let s1 := ((s.setLinkState .torlux lsActive).event 151 0).refAgain
  let s2 := { s1 with tandem := { s1.tandem with split := false } }
  s2.linkPump .torlux

/-- The partner's INIT on the Torlux link: ACTIVE only with another HEAD_ID and the same stepping (R2, R364), and with each BUILD at
least the other's TANDEM_MIN (R505). -/
def State.torluxInit (s : State) (x : InitMsg) : State :=
  let s1 := s.wrN R.TL_PARTNER (x.stepping % 256 + x.port % 2 * 256)
  if x.port = s.headId ∨ x.stepping ≠ s.fld R.CHIP_STEP 0 8 then (s1.linkErr .torlux .identity 0).linkGoesDown .torlux
  else
    let s2 := { s1 with tandem := { s1.tandem with tlInitOk := true, mateGib := x.gib } }
    if s.rdN R.FW_RUN_BUILD < x.tandemMin ∨ x.build < s.ownTandemMin then s2.raise 9 0x0102 2 0 else s2.torluxUp

/-- PORT, LINK_VER and the credits of the far end's INIT, 0 being unlimited (R243, R244). -/
def State.takeCredits (s : State) (k : LinkEnd) (x : InitMsg) : State :=
  let cs := (List.range 4).map fun i => let c := (x.credits[i]?).getD 0; if c = 0 then none else some c
  s.setFlitLink k { s.flitLink k with credits := cs, farPort := x.port, farVer := x.ver }

/-- INIT_MSG_RX (R243, R244, R363, R364, R505): the far end's INIT gives its credits, 0 being unlimited. -/
def execInitMsgRx (k : LinkEnd) (x : InitMsg) (s : State) : Out :=
  if s.linkState k ≠ lsInit then .next s
  else
    let s1 := s.takeCredits k x
    match k with
    | .module n => .next (s1.pump n)
    | .torlux => .next (s1.torluxInit x)

/-- The body of a WIDTH message: the active width, and the physical lane in each logical position, 0xFF for unused (R243). -/
def LinkEnd.widthBody (k : LinkEnd) (width : Nat) (on : List Nat) : List Byte :=
  leBytes 1 width ++ ((List.range k.lanes).map fun i => BitVec.ofNat 8 (on.getD i 0xFF))

/-- The lanes of a link that has retrained on good lanes, of which a WIDTH message tells the far end (R243; DEDUCED, assumption log 74): after a lane failure with no spare left, or with too few lanes for the
full width, it carries its reduced width on the good lanes of lowest number, and further good lanes are spares (R240, R362);
otherwise its lanes stay. -/
def State.retrainLanes (s : State) (k : LinkEnd) (good : List Nat) : State :=
  let l := s.flitLink k
  if l.narrowing ∨ good.length < k.full ∨ s.linkWidth k = k.reduced then
    let s1 := (s.setFlitLink k { l with narrowing := false }).setCarry k (good.take k.reduced) (k.sparesOn good k.reduced)
    let s2 := s1.setWidth k k.reduced
    (s2.setFlitLink k { s2.flitLink k with injected := [] }).sendControl k 0x03 (k.widthBody k.reduced (good.take k.reduced))
  else s

/-- RECOVERY_RETRAINED (R240, R242, R259, R362): the link has retrained, and the lanes given are good: replay resumes, and commands
go on. With fewer good lanes than the reduced width the link goes DOWN. -/
def execRecoveryRetrained (k : LinkEnd) (lanes : List Nat) (s : State) : Out :=
  if s.linkState k ≠ lsRecovery ∨ 250 < s.since (s.flitLink k).since then .next s
  else if (k.good lanes).length < k.reduced then .next ((s.linkErr k .linkDown 0).linkGoesDown k)
  else
    let l := s.flitLink k
    let s1 := (s.setLinkState k lsActive).linkErr k .retrain 0 (l.narrowing && decide (l.injected ≠ []))
    let s2 := s1.retrainLanes k (k.good lanes)
    let s3 := s2.replayFlits k
    match k with
    | .module n => .next (s3.pump n)
    | .torlux => .next (s3.refAgain.linkPump .torlux)

/-! ### Flits received (R241, R242, R244, R366) -/

/-- ACK_SEQ of a received flit: what it covers leaves the replay buffer; what waits follows. -/
def State.takeAck (s : State) (k : LinkEnd) (ack : Option Nat) : State :=
  match ack with
  | none => s
  | some a =>
    let l := s.flitLink k
    let n := (a + 1 + 4096 - l.txAcked) % 4096
    if n = 0 ∨ l.unacked < n then s
    else
      let (l1, sent) := { l with txAcked := (a + 1) % 4096, replays := 0 }.push 0 k.room
      (s.setFlitLink k l1).flitsSent k.page k.flitsTx l1 sent 1

/-- CUM of a received flit returns credits of its class, as the difference from the last one seen (R244). -/
def State.takeCum (s : State) (k : LinkEnd) (cls cum : Nat) : State :=
  let l := s.flitLink k
  let n := (cum + 16384 - (l.cums[cls]?).getD 0) % 16384
  (s.setFlitLink k { l with cums := l.cums.set cls cum,
                            credits := l.credits.mapIdx fun i c => if i = cls then c.map (· + n) else c }).linkPump k

/-- A sequenced flit: accepted if it is the next, ignored if it was accepted before, NAKed once if one before it is missing
(R242). -/
def State.takeSequenced (s : State) (k : LinkEnd) (f : Flit) : State :=
  let l := s.flitLink k
  if f.seq % 4096 = l.rxNext then
    let s1 := (s.setFlitLink k { l with rxNext := (l.rxNext + 1) % 4096, nakSent := false, rxRun := l.rxRun + 1 }).count k.flitsRx
    let s2 := if 16 ≤ l.rxRun + 1 then s1.sendAck k false else s1
    if f.overflow then (s2.linkErr k .overflow 0).enterRecovery k
    else if f.unknown then (s2.linkErr k .protocol 0).enterRecovery k
    else s2
  else if (l.rxNext + 4096 - f.seq % 4096) % 4096 ≤ k.room then s
  else if l.nakSent then s
  else s.sendAck k true

/-- FLIT_RX (R241, R242, R244, R366): a flit arrives on a link in INIT or ACTIVE. A KIND that is reserved is a protocol error
(DEDUCED, assumption log 56). An armed injection counts its receive lane as failing (R261, R397). -/
def execFlitRx (k : LinkEnd) (f : Flit) (s : State) : Out :=
  if s.linkState k ≠ lsActive ∧ s.linkState k ≠ lsInit then .next s
  else
    let lane := s.fld (R.PG_INJECT k.page) 8 8
    let r := (s.operate k.page lane).inject k.page 0x06 lane
    let s0 := if r.2 then r.1.laneFails k lane true else r.1
    if f.crcOk = false then
      let s1 := (s0.count k.crcErr).linkErr k .flitCrc 0
      .next (if (s1.flitLink k).nakSent then s1 else s1.sendAck k true)
    else
      let s1 := (s0.takeAck k f.ack).takeCum k f.cls f.cum
      let s2 := match f.kind with
        | .null => s1
        | .packet | .control => s1.takeSequenced k f
        | .reserved => (s1.linkErr k .protocol 0).enterRecovery k
      .next (if f.nak then s2.replayFlits k else s2)

end Sys2Proof.Machine
end

