-- ==== Sys2Proof/Machine/Responses.lean ====
section
/-! DEFINITION. Responses and alerts of the modules (R246 to R250, R253 to R258, R260, R314, R347, R376, R379). -/

namespace Sys2Proof.Machine

/-! ### Status codes (R255) -/

def mstOk : Nat := 0x00
def mstEpochStale : Nat := 0x01
def mstNotHolder : Nat := 0x02
def mstProgramFail : Nat := 0x04
def mstEraseFail : Nat := 0x05
def mstReadFail : Nat := 0x06
def mstBusySuspend : Nat := 0x08
def mstDieOffline : Nat := 0x0B

/-! ### Identity (R257) -/

/-- A field of `n` bytes at an offset of a payload. -/
def payloadField (b : List Byte) (off n : Nat) : Nat := ofLeBytes ((b.drop off).take n)

/-- The identity data of a module (R257). -/
def Ident.ofBytes (b : List Byte) : Ident :=
  let f := payloadField b
  { magicOk := decide (f 0 4 = 0x4449424D), crcOk := decide (f 508 4 = (crc32c (b.take 508)).toNat), serial := f 12 20,
    port := f 32 1, cell := f 33 1, dies := f 34 2, blocks := f 36 2, pages := f 38 2, planes := f 40 1, progUnit := f 41 1,
    cwBytes := f 42 2, trMax := f 44 1, tsusMax := f 45 1, suspLimit := f 50 1, peRated := f 52 4, rawBytes := f 56 8,
    dieMap := (List.range 1024).filter fun d => decide (f (64 + d / 8) 1 / 2 ^ (d % 8) % 2 = 1) }

/-- The chip refuses a module with such an identity at this head (R257). -/
def Ident.refused (i : Ident) (head : Nat) : Bool :=
  !i.crcOk || decide (i.port ≠ head) || decide (i.planes ≠ 4 ∨ i.cwBytes ≠ 2304) || decide (i.cell ≠ 1 ∧ i.cell ≠ 3)
    || decide (i.dies = 0 ∨ 1024 < i.dies) || decide (i.blocks = 0 ∨ 16384 < i.blocks ∨ i.blocks % 4 ≠ 0)
    || decide (i.pages = 0 ∨ 4096 < i.pages) || decide (64 < i.trMax ∨ 64 < i.tsusMax)

/-- Words of a payload are shown in registers from register `k 0` on. -/
def State.showWords (s : State) (k : Nat → Nat) (b : List Byte) (n : Nat) : State :=
  (List.range n).foldl (fun s i => s.wrN (k i) (payloadField b (4 * i) 4)) s

/-- A module of another SERIAL in the port of a failed member takes over its number, if it covers it (R347). -/
def State.replaceModule (s : State) (port pool : Nat) (old new : Ident) : State :=
  match s.pool pool with
  | none => s
  | some p =>
    match p.allModules.find? fun m => decide (m = port) with
    | none => s
    | some m =>
      if p.failed.has m ∧ p.subst.has m = false ∧ p.subst.length < 4 ∧ old.serial ≠ new.serial ∧ identCovers (some new) (some old) then
        s.substitute pool m port
      else s

/-- ERASEs without an answer go again to a port whose link is ACTIVE again (R260, R275). -/
def State.eraseResend (s : State) (port : Nat) : State :=
  s.media.segs.foldl (fun s g =>
    if g.2.state ≠ .erasing ∨ g.2.want ≠ none then s
    else
      (List.range g.2.place.length).foldl (fun s k =>
        match g.2.place[k]? with
        | none => s
        | some p =>
          if s.portOf g.2.pool p.module ≠ port ∨ k ∈ g.2.erased ∨ (s.bg p.module p.die p.bgrp).st = .retired then s
          else s.sendMod port (ModCmd.erase p.die p.bgrp (.erase g.1 k))) s) s

/-- The answer to IDENTIFY: the module is refused, or its port is in service (R257, R259). -/
def State.identified (s : State) (port : Nat) (b : List Byte) : State :=
  let i := Ident.ofBytes b
  let s1 := s.showWords (R.MLK_IDENT port) b 128
  if i.refused s.headId then
    let s2 := s1.setMlink port { s1.mlink port with refused := true }
    (s2.linkErr (.module port) .identity 0).linkGoesDown (.module port)
  else
    let old := (s.mlink port).ident
    let s2 := s1.setMlink port { s1.mlink port with ident := some i, downAt := none, refused := false }
    let s3 := ((s2.setLinkState (.module port) lsActive).event (mlinkPage port) 0).spareInit port ((s2.served port).elim port Prod.snd)
    let s4 := match old with
      | none => s3
      | some o => (s3.media.pools.map Prod.fst).foldl (fun s p => s.replaceModule port p o i) s3
    (s4.eraseResend port).pump port

/-! ### Telemetry and alerts (R258, R311, R319) -/

/-- The band of TEMP_HIST of a temperature in quarters of a degree (R319). -/
def tempBandOf (t : Int) : Nat := if t < 80 then 0 else min 15 (1 + ((t - 80) / 20).toNat)

/-- The answer to TELEMETRY: the latest copy, and a second more in TEMP_HIST (R258, R319). Data that fail their MAGIC or CRC are
not kept (DESIGN CHOICE, assumption log 57). -/
def State.telemetered (s : State) (port m : Nat) (b : List Byte) : State :=
  if payloadField b 0 4 ≠ 0x4D54424D ∨ payloadField b 252 4 ≠ (crc32c (b.take 252)).toNat then s
  else
    let t := sgn16 (payloadField b 14 2)
    let k := tempBandOf t
    ((s.showWords (R.MLK_TELEM port) b 64).event (mlinkPage port) 6).setHealth m fun h =>
      { h with tempHist := h.tempHist.mapIdx fun i n => if i = k then min (n + 1) (2 ^ 32 - 1) else n,
               tNandSeen := max h.tNandSeen t }

/-- TELEMETRY_POLL (R258): every 250,000 strides. -/
def execTelemetryPoll (n : Nat) (s : State) : Out :=
  .next (if s.lstate n = lsActive then s.sendMod n (ModCmd.plain opTelemetry 0 .telemetry) else s)

/-- MODULE_ALERT_RX (R258, R311, R314): INFO carries the cause, 1 over-temperature, 2 supply, 3 die offline, 4 hold-up low. -/
def execModuleAlertRx (n info : Nat) (s : State) : Out :=
  if s.linkUp n = false then .next s
  else
    let s1 := (s.event (mlinkPage n) 4).raise (mlinkPage n) 0x0109 0 0
    match info % 256 with
    | 1 => .next (s1.setMlink n { s1.mlink n with hotAt := some s.calSec })
    | 3 => .next (s1.noteFail 4096 (.offline n (info / 2 ^ 16 % 1024)))
    | _ => .next s1

/-! ### What a final response does -/

/-- The operation of a die has ended: it is no longer suspended (R250). -/
def State.dieDone (s : State) (m d : Nat) : State :=
  s.setDie m d fun x => { x with st := if x.st = .suspended then .idle else x.st, suspensions := 0, remain := none }

/-- The member of a stripe answered (R314, R334). -/
def State.stripeResponse (s : State) (port i k : Nat) (c : ModCmd) (r : ModResp) : State :=
  let s1 := if r.status ≠ mstProgramFail then s
    else
      match s.media.stripes.find i with
      | none => s
      | some x =>
        match (s.seg x.seg).bind fun g => g.place[k]? with
        | none => s
        | some p => s.noteFail c.tag (.program x.seg port p)
  (s1.dieDone ((s.served port).elim port Prod.snd) c.die).stripeAnswer i k (decide (r.status = mstOk)) r.places

/-- A member of a segment answered its ERASE (R275, R314): one that was ABORTED is left to be erased again (R250). -/
def State.eraseResponse (s : State) (port m seg k : Nat) (c : ModCmd) (r : ModResp) : State :=
  let s1 := s.dieDone m c.die
  if r.status = mstOk then s1.eraseOk seg k else if r.status = mstEraseFail then s1.noteFail c.tag (.erase seg port k) else s1

/-- STATUS tells how a die stands: its state, the suspensions of the operation and what is left of it (R247, R260). -/
def State.statusResponse (s : State) (port m d info tag : Nat) : State :=
  let k := info % 8
  let left := if 2 ≤ k ∧ k ≤ 4 then some (info / 2 ^ 16 % 65536, s.now) else none
  if k = 7 then s.noteFail tag (.offline port d)
  else s.setDie m d fun x => { x with
    st := if k = 4 then (if x.st = .idle then .suspended else x.st) else if x.st = .suspended then .idle else x.st,
    suspensions := info / 256 % 256, remain := left }

/-- The answer to EPOCH_RAISE (R254, R376). -/
def State.raiseResponse (s : State) (q port new : Nat) (toOther retried : Bool) (r : ModResp) : State :=
  if r.status = mstOk then s.raiseGranted q port new toOther
  else s.raiseRefused q port r.info r.holder toOther retried

/-- A read of the Patrol, or of reclaim, relocation or rebuild, was answered: its first decodes are reported, and a failure is handled as on a host
read (R303, R315, R236). -/
def State.scanAnswer (s : State) (port m : Nat) (c : ModCmd) (patrol ok : Bool) (r : ModResp) : State :=
  let (s0, inj) := if ok then s.inject 94 0x05 r.report.unit else (s, false)
  let rep := if inj then { r.report with words := r.report.words - 1, failed := r.report.failed + 1 } else r.report
  let s1 := if ok then s0.report port m c.die c.bgrp c.page false patrol rep else s0
  if r.status = mstReadFail ∨ (ok ∧ 0 < rep.failed) then s1.noteFail c.tag (.read port m c.die c.bgrp) else s1

/-- What the chip does with the final response of a command, by what the command was for. -/
def State.respond (s : State) (port m : Nat) (c : ModCmd) (r : ModResp) : State :=
  let ok := decide (r.status = mstOk)
  match c.use with
  | .identify => if ok then s.identified port r.payload else s
  | .epochQuery =>
    if ok then
      (s.learnEpoch 0 port (payloadField r.payload 0 4) (r.info % 2)).learnEpoch 1 port (payloadField r.payload 4 4) (r.info / 2 % 2)
    else s
  | .telemetry => if ok then s.telemetered port m r.payload else s
  | .raise q new toOther retried => s.raiseResponse q port new toOther retried r
  | .stripe i k => s.stripeResponse port i k c r
  | .journal pool q first last w => if ok then s.journalOk pool q first last w else s.journalFail pool q first last w false
  | .root pool w => s.rootAnswer pool w ok
  | .erase seg k => s.eraseResponse port m seg k c r
  | .eraseOther _ =>
    (if ok then s.setBg m c.die c.bgrp fun b => { b with erases := b.erases + 1, reads := 0, retAge := 0 } else s).dieDone m c.die
  | .readLevel bin => if ok then s.levelOk m c.die bin else s
  | .read n i => s.readAnswer port m c n i ok (decide (r.status = mstReadFail)) r.report
  | .patrol => s.scanAnswer port m c true ok r
  | .source => s.scanAnswer port m c false ok r
  | .rebuild seg page pos =>
    let s1 := s.dieDone m c.die
    if ok then s1.rebuildOk seg page pos else if r.status = mstProgramFail then s1.rebuildFail seg port page pos else s1
  | .suspend => s.setDie m c.die fun x =>
    if ok then { x with remain := some (r.info, s.now) } else { x with st := if x.st = .suspended then .idle else x.st }
  | .resume | .abort => s
  | .status => if ok then s.statusResponse port m c.die r.info c.tag else s

/-- What every response shows: the paddock's epoch and holder (R246, R375); commands answered EPOCH_STALE or NOT_HOLDER (R261,
R379), and a die that the bridge has taken offline (R255, R314). -/
def State.heard (s : State) (port : Nat) (c : ModCmd) (r : ModResp) : State :=
  let q := paddockOf c.die
  let s1 := if c.opcode = opEpochRaise then s else s.learnEpoch q port r.epoch r.holder
  if r.status = mstEpochStale ∨ r.status = mstNotHolder then (s1.count (R.MLK_STALE port)).staleSelf q port
  else if r.status = mstDieOffline then s1.noteFail c.tag (.offline port c.die)
  else s1

/-- A PROGRAM that succeeded adds the bytes it carried to the count of its port, which saturates (R43; what counts as a byte
programmed is DEDUCED, assumption log 65). -/
def State.programmed (s : State) (port : Nat) (c : ModCmd) (r : ModResp) : State :=
  if c.opcode = opProgram ∧ r.status = mstOk then
    s.wr64 (R.MOD_WR port) (satAdd64 (s.rd64 (R.MOD_WR port)) (64 * c.units))
  else s

/-- Units of RDATA that the final response of a command carries (R244, R247). -/
def ModCmd.rdata (c : ModCmd) (r : ModResp) : Nat :=
  if c.opcode = opRead then (if r.status = mstOk then 36 * (c.arg / 2 ^ 8 % 32 + 1) else 0) else ceilDiv r.payload.length 64

/-- MODULE_RESPONSE_RX (R246): the final response of a tag; one whose tag is not outstanding is discarded (R260). -/
def execModuleResponseRx (port tag : Nat) (r : ModResp) (s : State) : Out :=
  let l := s.mlink port
  match l.tags.find tag with
  | none => .next s
  | some c =>
    let s1 := s.setMlink port { l with tags := l.tags.drop tag, link := (l.link.free 2 1).free 3 (c.rdata r) }
    let m := (s1.served port).elim port Prod.snd
    .next ((((s1.heard port c r).programmed port c r).respond port m c r).pump port)

/-- MODULE_INTERIM_RESPONSE (R246, R247): a PHASE 1 response, which shows the paddock's epoch and holder as every response does: a die has
started a PROGRAM or ERASE, and INFO is its expected duration. -/
def execModuleInterimResponse (port tag : Nat) (r : ModResp) (s : State) : Out :=
  let l := s.mlink port
  match l.tags.find tag with
  | none => .next s
  | some c =>
    let t := (s.setMlink port { l with link := l.link.free 2 1 }).heard port c r
    if c.opcode = opProgram ∨ c.opcode = opErase then
      let m := (s.served port).elim port Prod.snd
      let x := t.mlink port
      .next ((t.setMlink port { x with tags := x.tags.put tag { c with expect := some r.info, sent := s.now } }).setDie m c.die
        fun d => { d with remain := some (r.info, s.now) })
    else .next t

end Sys2Proof.Machine
end

