-- ==== Sys2Proof/Machine/Admin.lean ====
section
/-! DEFINITION. NVMe administrative commands (R100 to R106, R320, R381): they run as fetched, and no Weir admits them (R92). -/

namespace Sys2Proof.Machine

/-! ### Controllers -/

/-- An NVMe controller: a PCIe function, or a fabrics controller (R133). -/
inductive Ctl where
  | fn (f : Nat)
  | fabrics (k : Nat)
  deriving DecidableEq, Repr

/-- The controller that an administrative command was sent to. -/
def State.ctlOf (s : State) : CmdSrc → Option Ctl
  | .nvme f 0 _ => some (.fn f)
  | .fabrics q _ => (s.front.ctrls.first fun _ c => decide (c.adminQpn = q)).map fun x => .fabrics x.1
  | _ => none

/-- The fabrics controller of a number. -/
def State.ctrl (s : State) (k : Nat) : Option Ctrl := s.front.ctrls.find k

/-- Change a fabrics controller where it exists. -/
def State.setCtrl (s : State) (k : Nat) (f : Ctrl → Ctrl) : State :=
  { s with front := { s.front with ctrls := s.front.ctrls.upd k f } }

/-- Namespaces that a controller shows. -/
def State.ctlNs (s : State) : Ctl → List NsAtt
  | .fn f => (s.fn f).ns.filter fun a => !a.detaching
  | .fabrics k => (s.ctrl k).elim [] Ctrl.ns

/-- Feature values of a controller. -/
def State.ctlFeats (s : State) : Ctl → Amap Nat
  | .fn f => (s.fn f).feats
  | .fabrics k => (s.ctrl k).elim [] Ctrl.feats

/-- A feature of a controller takes a value. -/
def State.setFeat (s : State) (c : Ctl) (fid v : Nat) : State :=
  match c with
  | .fn f => s.setFn f { s.fn f with feats := (s.fn f).feats.put fid v }
  | .fabrics k => s.setCtrl k fun x => { x with feats := x.feats.put fid v }

/-- Number of I/O queue pairs a controller may have (R100, R133). -/
def State.ctlQuota (s : State) : Ctl → Nat
  | .fn f => (s.fn f).qpQuota
  | .fabrics _ => 4096

/-- An administrative command of an operation runs once it is fetched (R102). -/
def State.adminRun (s : State) (n : Nat) (op : HostOp) (f : State → Ctl → HostCmd → State) : Out :=
  match s.cmd n with
  | none => .next s
  | some c =>
    match s.ctlOf c.src with
    | none => .next s
    | some k =>
      if c.stage ≠ .fetched ∨ c.img.op ≠ op ∨ s.stopped then .next s
      else if s.isStale c then .next (s.complete n St.headFenced)
      else .next (f s k c)

/-! ### Queues (R101, R102, R104) -/

/-- QID and QSIZE of CDW10 (0's based). -/
def CmdImg.qid (i : CmdImg) : Nat := i.cdw10 % 65536
def CmdImg.qsize (i : CmdImg) : Nat := i.cdw10 / 65536 % 65536 + 1

/-- NVME_CREATE_IO_CQ (R100, R102): physically contiguous, within the function's quota and vectors. -/
def execNvmeCreateIoCq (n : Nat) (s : State) : Out :=
  s.adminRun n .createCq fun s k c =>
    match k with
    | .fabrics _ => s.complete n St.invalidOpcode
    | .fn f =>
      let x := s.fn f
      let q := c.img.qid
      let vec := c.img.cdw11 / 65536 % 65536
      let io := (x.cqs.filter fun p => decide (p.1 ≠ 0)).length
      if q = 0 ∨ x.cqs.has q ∨ x.qpQuota ≤ io ∨ x.qpQuota < q ∨ c.img.qsize < 2 ∨ c.img.cdw11 % 2 = 0 ∨ x.msix ≤ vec then
        s.complete n St.invalidField
      else
        let y := { x with cqs := x.cqs.put q { size := c.img.qsize, tail := 0, head := 0,
                                               ien := decide (c.img.cdw11 / 2 % 2 = 1), vec := vec } }
        (s.setFn f y).complete n St.success

/-- NVME_CREATE_IO_SQ (R100, R101): paired with the completion queue of its own identifier. -/
def execNvmeCreateIoSq (n : Nat) (s : State) : Out :=
  s.adminRun n .createSq fun s k c =>
    match k with
    | .fabrics _ => s.complete n St.invalidOpcode
    | .fn f =>
      let x := s.fn f
      let q := c.img.qid
      if q = 0 ∨ x.sqs.has q ∨ x.cqs.has q = false ∨ c.img.cdw11 / 65536 % 65536 ≠ q ∨ x.qpQuota ≤ x.queuePairs
          ∨ c.img.qsize < 2 ∨ c.img.cdw11 % 2 = 0 then s.complete n St.invalidField
      else (s.setFn f { x with sqs := x.sqs.put q { size := c.img.qsize, tail := 0, head := 0 } }).complete n St.success

/-- NVME_DELETE_IO_SQ (R104): unadmitted commands of the queue complete with ABORTED_BY_RESET; admitted ones finish with their
own status. -/
def execNvmeDeleteIoSq (n : Nat) (s : State) : Out :=
  s.adminRun n .deleteSq fun s k c =>
    match k with
    | .fabrics _ => s.complete n St.invalidOpcode
    | .fn f =>
      let q := c.img.qid
      if q = 0 ∨ (s.fn f).sqs.has q = false then s.complete n St.invalidField
      else
        let mine := s.cmdsWhere fun x => x.unadmitted && (match x.src with | .nvme g i _ => decide (g = f ∧ i = q) | _ => false)
        let s1 := s.completeAll mine St.abortedByReset
        (s1.setFn f { s1.fn f with sqs := (s1.fn f).sqs.drop q }).complete n St.success

/-- NVME_DELETE_IO_CQ (R102): the submission queue of its identifier is deleted first. -/
def execNvmeDeleteIoCq (n : Nat) (s : State) : Out :=
  s.adminRun n .deleteCq fun s k c =>
    match k with
    | .fabrics _ => s.complete n St.invalidOpcode
    | .fn f =>
      let q := c.img.qid
      if q = 0 ∨ (s.fn f).cqs.has q = false ∨ (s.fn f).sqs.has q then s.complete n St.invalidField
      else (s.setFn f { s.fn f with cqs := (s.fn f).cqs.drop q }).complete n St.success

/-! ### Identify (R100, R103, R105, R227) -/

/-- Sectors of a volume. -/
def Vol.sectors (v : Vol) : Nat := v.grains * sectorsPerGrain v.format

/-- The LBA formats of R100: data and metadata bytes of LBAF0 to LBAF3. -/
def lbaFormats : List (Nat × Nat) := [(512, 0), (512, 8), (4096, 0), (4096, 8)]

/-- Identify data of a namespace (R100, R103, R227): the LBA format is the two format bits of R150. -/
def Vol.ident (n : Nat) (v : Vol) : IdentNs :=
  let small := decide (v.format % 4 < 2)
  { size := v.sectors, formats := lbaFormats, metaSeparate := true, lbaf := v.format % 4, nsfeat := 2, nawun := if small then 2047 else 255,
    nawupf := if small then 2047 else 255, nacwu := 0, nabsn := if small then 2047 else 255, nabo := 0,
    nabspf := if small then 2047 else 255, noiob := if small then 2048 else 256, dlfeat := 0x11, anagrp := n }

/-- PS0 to PS3 (R105). -/
def powerDescs : List PowerDesc := (List.range 4).map fun i => { nops := decide (i = 3), enlat := 8, exlat := 8, mp := 0 }

/-- Identify data of a controller (R100, R103, R105, R133). -/
def State.ctlIdent (s : State) (k : Ctl) : IdentCtrl :=
  let net := match k with
    | .fn _ => false
    | .fabrics _ => true
  { ver := nvmeVs.toNat, sgls := true, sglKeyed := net, sglOffset := net, prps := !net, ana := true, power := powerDescs,
    ioccsz := if net then 260 else 0, iorcsz := net.toNat, msdbd := net.toNat, kas := net.toNat,
    mdts := 8, aerl := 15, npss := 3, vwc := 0, awun := 0, awupf := 0, acwu := 0, queues := s.ctlQuota k }

/-- The active namespace of an NSID at a controller. -/
def State.ctlVol (s : State) (k : Ctl) (nsid : Nat) : Option (Nat × Vol) :=
  ((s.ctlNs k).find? fun a => decide (a.nsid = nsid)).bind fun a => (s.vol a.vol).map fun v => (a.vol, v)

/-- NVME_IDENTIFY (R102, R103): CNS 0x00, 0x01, 0x02, 0x03, 0x05 and 0x06. -/
def execNvmeIdentify (n : Nat) (s : State) : Out :=
  s.adminRun n .identify fun s k c =>
    let cns := c.img.cdw10 % 256
    let v := s.ctlVol k c.img.nsid
    match cns with
    | 0x00 | 0x05 | 0x03 => (s.emit (.identify c.src cns none (v.map fun x => x.2.ident x.1) [])).complete n St.success
    | 0x01 | 0x06 => (s.emit (.identify c.src cns (some (s.ctlIdent k)) none [])).complete n St.success
    | 0x02 =>
      let ids := ((s.ctlNs k).map NsAtt.nsid).filter fun i => decide (c.img.nsid < i)
      (s.emit (.identify c.src cns none none ids)).complete n St.success
    | _ => s.complete n St.invalidField

/-! ### Log pages (R102, R109, R320, R381) -/

/-- Pools of a controller's namespaces. -/
def State.ctlPools (s : State) (k : Ctl) : List Nat :=
  ((s.ctlNs k).filterMap fun a => (s.vol a.vol).map Vol.pool).eraseDups

/-- Modules of those pools, with the port of each. -/
def State.ctlModules (s : State) (k : Ctl) : List (Nat × Nat) :=
  (s.ctlPools k).flatMap fun p => (s.pool p).elim [] fun x => x.modules.map fun m => (s.portOf p m, m)

/-- WEAR_MAX_PM of a module (R319). -/
def State.wearMaxPm (s : State) (port m : Nat) : Nat :=
  (s.erasesOf m).foldl max 0 * 1000 / max ((s.ident port).elim 1 Ident.peRated) 1

/-- Completions of a function with UNRECOVERED_READ or CHECK_VALUE (R320). -/
def State.ctlMediaErrors (s : State) : Ctl → Nat
  | .fn f => ((s.fn f).errLog.filter fun e => decide (e.2.2 = St.unrecoveredRead ∨ e.2.2 = St.checkValue)).length
  | .fabrics k => (s.ctrl k).elim 0 Ctrl.mediaErrors

/-- The SMART / Health Information log: Critical Warning, Available Spare, its threshold, Percentage Used, media errors (R320). -/
def State.smartLog (s : State) (k : Ctl) : List Nat :=
  let ms := s.ctlModules k
  let spare := ((ms.map fun x => s.sparePm x.1 x.2).foldl min 1000) / 10
  let thresh := s.fld R.HL_SPARE_WARN 0 10 / 10
  let used := min ((ms.map fun x => s.wearMaxPm x.1 x.2).foldl max 0 / 10) 255
  let ps := s.ctlPools k
  let weak := ps.any fun p => decide (s.redund p = rdDegraded ∨ s.redund p = rdRebuilding)
  let ro := ps.any fun p => decide (s.space p = spReadOnly)
  [(decide (spare < thresh)).toNat + 4 * weak.toNat + 8 * ro.toNat, spare, thresh, used, s.ctlMediaErrors k]

/-- ANA state of a volume by a path to this head: 1 Optimized, 2 Non-Optimized, 3 Inaccessible (R381). -/
def State.anaState (s : State) (v : Nat) : Nat :=
  if s.owns v then 1
  else if s.role = roleTandem ∧ s.tlActive = false then 3
  else 2

/-- Error Information entries: queue, command identifier, XG7240 code (R109). -/
def State.errorLog (s : State) : Ctl → List Nat
  | .fn f => (s.fn f).errLog.flatMap fun e => [e.1, e.2.1, e.2.2]
  | .fabrics k => (s.ctrl k).elim [] fun c => c.errLog.flatMap fun e => [e.1, e.2.1, e.2.2]

/-- Opcodes that a controller supports: admin and I/O commands, in the order of R102. -/
def supportedOps : List Nat := [0x01, 0x05, 0x00, 0x04, 0x06, 0x02, 0x09, 0x0A, 0x08, 0x0C, 0x02, 0x01, 0x00, 0x08, 0x09, 0x0C]

/-- NVME_GET_LOG_PAGE (R102, R320): Error Information, SMART, Firmware Slot Information, Commands Supported and Effects, ANA. -/
def execNvmeGetLogPage (n : Nat) (s : State) : Out :=
  s.adminRun n .getLog fun s k c =>
    let lid := c.img.cdw10 % 256
    let data := match lid with
      | 0x01 => some (s.errorLog k)
      | 0x02 => some (s.smartLog k)
      | 0x03 => some [s.fld R.FW_RUN 0 1 + 1, s.rdN R.FW_RUN_VER, s.rdN (R.FW_SLOT_BUILD 0), s.rdN (R.FW_SLOT_BUILD 1)]
      | 0x05 => some supportedOps
      | 0x0C => some ((s.ctlNs k).flatMap fun a => [a.vol, s.anaState a.vol])
      | _ => none
    match data with
    | none => s.complete n St.invalidField
    | some d => (s.emit (.logPage c.src lid d)).complete n St.success

/-! ### Features (R102, R105, R106) -/

/-- Features that a controller supports besides Power Management: Arbitration, Error Recovery, Interrupt Coalescing, Interrupt
Vector Configuration, Asynchronous Event Configuration. -/
def plainFeatures : List Nat := [0x01, 0x05, 0x08, 0x09, 0x0B]

/-- Number of Queues as both halves of a result, 0's based. -/
def queuesResult (q : Nat) : Nat := (q - 1) + (q - 1) * 65536

/-- NVME_SET_FEATURES (R102, R106): Power Management takes effect at the next commit point, and completes after it. -/
def execNvmeSetFeatures (n : Nat) (s : State) : Out :=
  s.adminRun n .setFeat fun s k c =>
    let fid := c.img.cdw10 % 256
    if fid ∈ plainFeatures then (s.setFeat k fid c.img.cdw11).complete n St.success
    else if fid = 0x07 then (s.setFeat k fid c.img.cdw11).complete n St.success (queuesResult (s.ctlQuota k))
    else if fid = 0x02 ∧ c.img.cdw11 % 32 ≤ 3 then
      match k with
      | .fn f => (s.setFn f { s.fn f with psNext := some (c.img.cdw11 % 32) }).setCmd n { c with stage := .finishing }
      | .fabrics _ => (s.setFeat k fid (c.img.cdw11 % 32)).setCmd n { c with stage := .finishing }
    else s.complete n St.invalidField

/-- NVME_GET_FEATURES (R102). -/
def execNvmeGetFeatures (n : Nat) (s : State) : Out :=
  s.adminRun n .getFeat fun s k c =>
    let fid := c.img.cdw10 % 256
    if fid ∈ plainFeatures then s.complete n St.success ((s.ctlFeats k).getD fid 0)
    else if fid = 0x07 then s.complete n St.success (queuesResult (s.ctlQuota k))
    else if fid = 0x02 then
      s.complete n St.success (match k with | .fn f => (s.fn f).ps | .fabrics _ => (s.ctlFeats k).getD fid 0)
    else s.complete n St.invalidField

/-! ### Abort and Asynchronous Event Request (R100, R102, R104) -/

/-- The command that an Abort names: SQID and CID of CDW10. -/
def State.abortTarget (s : State) (k : Ctl) (i : CmdImg) : Option (Nat × HostCmd) :=
  let sq := i.cdw10 % 65536
  let cid := i.cdw10 / 65536 % 65536
  s.front.cmds.first fun _ c =>
    match c.src, k with
    | .nvme f q x, .fn g => decide (f = g ∧ q = sq ∧ x = cid ∧ c.gen = s.fnGen g)
    | .fabrics q x, .fabrics g =>
      (s.ctrl g).elim false fun t => decide (x = cid ∧ ((sq = 0 ∧ t.adminQpn = q) ∨ (sq ≠ 0 ∧ t.ioQpns[sq - 1]? = some q)))
    | _, _ => false

/-- NVME_ABORT (R104): the target completes with ABORTED_BY_HOST only if the Weir has not admitted it; bit 0 of the Abort's own
result is 0 if it did. -/
def execNvmeAbort (n : Nat) (s : State) : Out :=
  s.adminRun n .abort fun s k c =>
    match s.abortTarget k c.img with
    | none => s.complete n St.success 1
    | some (t, x) =>
      if x.unadmitted ∧ t ≠ n then (s.complete t St.abortedByHost).complete n St.success 0 else s.complete n St.success 1

/-- An Asynchronous Event Request of a controller is outstanding. -/
def State.ctlAers (s : State) : Ctl → List Nat
  | .fn f => (s.fn f).aers
  | .fabrics k => (s.ctrl k).elim [] Ctrl.aers

/-- The command identifier of a command. -/
def CmdSrc.cid : CmdSrc → Nat
  | .legacy _ t => t
  | .nvme _ _ c => c
  | .fabrics _ c => c
  | .forwarded i => i
  | .repl _ q => q

/-- Outstanding Asynchronous Event Requests take a value. -/
def State.setAers (s : State) (k : Ctl) (l : List Nat) : State :=
  match k with
  | .fn f => s.setFn f { s.fn f with aers := l }
  | .fabrics c => s.setCtrl c fun x => { x with aers := l }

/-- NVME_ASYNC_EVENT_REQUEST (R100, R102): up to 16 are outstanding; one more is refused with INVALID_FIELD (R109 lists no code for it:
DESIGN CHOICE, assumption log 79). -/
def execNvmeAsyncEventRequest (n : Nat) (s : State) : Out :=
  s.adminRun n .aer fun s k c =>
    if 16 ≤ (s.ctlAers k).length then s.complete n St.invalidField
    else (s.setAers k (s.ctlAers k ++ [c.src.cid])).dropCmd n

/-! ### ANA change notices (R381) -/

/-- A notice goes to one controller whose Asynchronous Event Configuration enables it, if a request of it is outstanding: event
type Notice, information Asymmetric Namespace Access Change. -/
def State.anaNotice (s : State) (k : Ctl) : State :=
  if (s.ctlFeats k).getD 0x0B 0 / 2 ^ 11 % 2 = 0 then s
  else
    match s.ctlAers k with
    | [] => s
    | cid :: rest =>
      let src := match k with
        | .fn f => CmdSrc.nvme f 0 cid
        | .fabrics c => CmdSrc.fabrics ((s.ctrl c).elim 0 Ctrl.adminQpn) cid
      (s.setAers k rest).emit (.asyncEvent src (2 + 3 * 256 + 0x0C * 65536))

/-- Step of the commit point: a change of ANA state posts its notices (R381). -/
def State.anaApply (s : State) : State :=
  if s.tandem.anaDue = false then s
  else
    let s1 := { s with tandem := { s.tandem with anaDue := false } }
    let ks := (s1.front.fns.map fun f => Ctl.fn f.1) ++ s1.front.ctrls.map fun c => Ctl.fabrics c.1
    ks.foldl State.anaNotice s1

end Sys2Proof.Machine
end

