-- ==== Sys2Proof/Machine/Repl.lean ====
section
/-! DEFINITION. Replication groups, as source and as remote (R389 to R396, R400). -/

namespace Sys2Proof.Machine

/-! ### Groups and their states (R389, R400) -/

/-- RP_STATE codes (R400). -/
def rpOff : Nat := 0
def rpCopying : Nat := 1
def rpActive : Nat := 2
def rpSuspended : Nat := 3
def rpResync : Nat := 4
def rpPromoted : Nat := 5

/-- RP_STATE of a group. -/
def State.rpState (s : State) (g : Nat) : Nat := s.fld (R.RP_STATE g) 0 3

/-- RP_STATE of a group takes a value. -/
def State.setRpState (s : State) (g st : Nat) : State := s.putFld (R.RP_STATE g) 0 3 st

/-- A group, empty where nothing is known. -/
def State.group (s : State) (g : Nat) : Group := s.tandem.groups.getD g Group.empty

/-- The group in RP_GROUP_SEL. -/
def State.rpSel (s : State) : Nat := s.fld R.RP_GROUP_SEL 0 6

/-- An RP command is answered: STATUS, and BUSY until the next commit point (R400; assumption log 31). -/
def State.rpAnswer (s : State) (status : Nat) : State := s.wrN R.RP_CMD_STATUS (status + 2 ^ 16)

/-- A write of RP_CMD while BUSY = 1 is discarded and captures WRITE_DISCARDED. -/
def State.rpCommand (s : State) (f : Nat → State → State) : Out :=
  .next (if s.bit R.RP_CMD_STATUS 16 then s.writeDiscarded 154 else f s.rpSel s)

/-- An RP command is done at once. -/
def State.rpDone (s : State) : State := (s.rpAnswer St.success).event 154 0

/-! ### Marks, resync and the end of waiting (R391, R393) -/

/-- Commands whose parts waited for the group may be acknowledged, and its entries released. -/
def State.replSettle (s : State) (g : Nat) : State :=
  let mine := s.cist.parts.filter fun p => decide (s.groupOf p.2.vol = some g)
  let s1 := ((mine.filterMap fun p => p.2.cmd).eraseDups).foldl State.tryAck s
  (mine.map Prod.fst).foldl State.tryRelease s1

/-- The group becomes SUSPENDED: the ranges of records without an answer are marked, and writes that waited for one go on as
FAIL_HOLD has it (R391, R393, R396). -/
def State.replSuspend (s : State) (g : Nat) : State :=
  let x := s.group g
  let waiting := (x.recs.filter fun r => !r.acked).flatMap fun r => markRanges r.vol r.grain r.count
  let s1 := s.setGroup g fun x => { x.mark waiting with recs := [], suspendNext := false }
  ((s1.setRpState g rpSuspended).event 154 1).replSettle g

/-- Step of the commit point: groups that a timeout has suspended (R393). -/
def State.suspendScan (s : State) : State :=
  ((s.tandem.groups.filter fun g => g.2.suspendNext).map Prod.fst).foldl State.replSuspend s

/-- A grain of a volume as the read path gives it, for an entry that the source builds: a mapped grain raw, any other as deallocated; what
cannot be read is left out of the record (R390). -/
def State.resyncGrain (s : State) (vol format g : Nat) : Grain :=
  let full := if format % 4 < 2 then 255 else 1
  match (if isGrain (s.finalEntry vol g) then s.contents vol g else none) with
  | none => emptyGrain .dealloc full full
  | some (d, tags) =>
    { emptyGrain .write full full with
      hasData := true, raw := true, lenGranules := 64, check := crc32c d,
      digest := fingerprint format d tags, piTags := tags, body := d }

/-- The entry that the source builds for a resync record of a range (R390). -/
def State.resyncEntry (s : State) (vol first count : Nat) : Part :=
  let format := (s.vol vol).elim 0 Vol.format
  let n := min count ((s.vol vol).elim 0 Vol.grains - first)
  let gs := (List.range n).map fun i => s.resyncGrain vol format (first + i)
  let p : Part :=
    { cmd := none, part := 0, parts := 1, vol := vol, first := first, count := n, lock := .committed, admitted := s.now, subject := 0, queue := 0,
      cmdId := 0, gen := 0, fua := false, atomic := true, forwarded := false, format := format, piType := format / 4 % 4, grains := gs,
      off := none, len := 0, sentAt := 0, resent := false, tseq := none, durable := false, released := false, readers := 0, charged := 0,
      acked := true }
  { p with len := p.entryLen }

/-- A marked range is sent as resync records, one for each half of 256 grains, for a volume that this head owns (R390, R393). -/
def State.resyncRange (s : State) (g : Nat) (r : Nat × Nat) : State :=
  if s.owns r.1 = false then s
  else
    [0, 1].foldl (fun s i =>
      let n := (s.group g).resyncNo + 1
      let rec_ : RepRec :=
        { rseq := s.headId * 2 ^ 63 + 2 ^ 62 + n, vol := r.1, grain := r.2 * 512 + i * 256, count := 256, batch := s.batchOf g s.now,
          issued := false, sent := s.now, entry := (s.resyncEntry r.1 (r.2 * 512 + i * 256) 256).image s.headId n, onWire := false,
          acked := false, member := none }
      (s.setGroup g fun x => { x with resyncNo := n, recs := x.recs ++ [rec_] }).replSend g) s

/-- The marked ranges go as resync records, and the marks clear (R393). -/
def State.resyncMarks (s : State) (g : Nat) : State :=
  let ms := (s.group g).marks
  ms.foldl (fun s r => s.resyncRange g r) (s.setGroup g fun x => { x with marks := [] })

/-- A resync or initial copy all of whose records have been answered makes the group ACTIVE (R393, R400). -/
def State.resyncEnd (s : State) (g : Nat) : State :=
  let left := (s.group g).recs.any fun r => decide (r.rseq / 2 ^ 62 % 2 = 1) && !r.acked
  if (s.rpState g = rpResync ∨ s.rpState g = rpCopying) ∧ left = false ∧ (s.group g).marks = [] then
    (((s.setRpState g rpActive).event 154 2).event 154 0).actEnd actReplResync 0 fun a => decide (a.group = some g)
  else s

/-- The resynchronisation activity of a group. -/
def replAct (g : Nat) : Activity := { Activity.of actReplResync 0 with group := some g }

/-- A queued resynchronisation starts (R467). -/
def State.replActRun (s : State) (a : Activity) : State :=
  match a.group with
  | none => s
  | some g => ((s.setRpState g rpResync).resyncMarks g).resyncEnd g

/-! ### RP_CMD (R400) -/

/-- Mapped 2 MiB ranges of a volume, for an initial copy. -/
def State.mappedRanges (s : State) (v : Nat) : List (Nat × Nat) :=
  match s.vol v with
  | none => []
  | some x => (List.range (ceilDiv x.grains 512)).filterMap fun i =>
      if s.leafOf x.pool (i * 512) 4 x.root ≠ 0 then some (v, i) else none

/-- GROUP_CREATE (R389, R400): a group that is OFF is created; with COPY it starts with the initial copy of every mapped grain. -/
def execGroupCreate (s : State) : Out :=
  s.rpCommand fun g s =>
    if s.rpState g ≠ rpOff then s.rpAnswer St.invalidField
    else
      let copy := s.bit (R.RP_ARG 0) 0
      ((s.setGroup g fun x => { Group.empty with marks := x.marks, staged := x.staged, lastStaged := x.lastStaged, copy := copy
        }).setRpState g (if copy then rpCopying else rpActive)).rpDone

/-- GROUP_DELETE (R389, R400): the group ends; entries that waited for it are released. -/
def execGroupDelete (s : State) : Out :=
  s.rpCommand fun g s =>
    if s.rpState g = rpOff then s.rpAnswer St.invalidField
    else
      let vs := (s.group g).vols.map Prod.fst
      let s1 := { s with tandem := { s.tandem with groups := s.tandem.groups.drop g } }
      let mine := s1.cist.parts.filter fun p => decide (p.2.vol ∈ vs)
      let s2 := ((mine.filterMap fun p => p.2.cmd).eraseDups).foldl State.tryAck (s1.setRpState g rpOff)
      (((mine.map Prod.fst).foldl State.tryRelease s2).actEnd actReplResync 0 fun a => decide (a.group = some g)).rpDone

/-- VOL_ADD (R389, R400): a pair of volumes joins the group; a volume already in a group is refused. -/
def execVolAdd (s : State) : Out :=
  s.rpCommand fun g s =>
    let v := s.rdN (R.RP_ARG 0)
    let rv := s.rdN (R.RP_ARG 1)
    if s.rpState g = rpOff ∨ (s.vol v).isNone ∨ (s.groupOf v).isSome ∨ 256 ≤ (s.group g).vols.length ∨ 2 ^ 24 ≤ rv then
      s.rpAnswer St.invalidField
    else
      let s1 := s.setGroup g fun x => { x with vols := x.vols.put v rv }
      let s2 := if (s.group g).copy then
          if s.rpState g = rpCopying then
            (s.mappedRanges v).foldl (fun s r => s.resyncRange g r) s1
          else s1.setGroup g fun x => x.mark (s.mappedRanges v)
        else s1
      s2.rpDone

/-- VOL_REMOVE (R400): a pair leaves the group. -/
def execVolRemove (s : State) : Out :=
  s.rpCommand fun g s =>
    let v := s.rdN (R.RP_ARG 0)
    if s.rpState g = rpOff ∨ (s.group g).vols.find v ≠ some (s.rdN (R.RP_ARG 1)) then s.rpAnswer St.invalidField
    else
      let s1 := s.setGroup g fun x => { x with
        vols := x.vols.drop v, recs := x.recs.filter fun r => decide (r.vol ≠ v),
        marks := x.marks.filter fun r => decide (r.1 ≠ v) }
      let mine := s1.cist.parts.filter fun p => decide (p.2.vol = v)
      let s2 := ((mine.filterMap fun p => p.2.cmd).eraseDups).foldl State.tryAck s1
      (((mine.map Prod.fst).foldl State.tryRelease s2).resyncEnd g).rpDone

/-- REPL_SUSPEND (R393, R400): software suspends the group. -/
def execReplSuspend (s : State) : Out :=
  s.rpCommand fun g s =>
    if s.rpState g = rpOff ∨ s.rpState g = rpPromoted ∨ s.rpState g = rpSuspended then s.rpAnswer St.invalidField
    else ((s.replSuspend g).actEnd actReplResync 0 fun a => decide (a.group = some g)).rpDone

/-- REPL_RESUME (R393, R400): the marked ranges go as resync records; the maintenance activity REPL_RESYNC covers them. -/
def execReplResume (s : State) : Out :=
  s.rpCommand fun g s =>
    if s.rpState g ≠ rpSuspended then s.rpAnswer St.invalidField
    else
      let (s1, d) := s.actStart (replAct g)
      if d = decRefused then s1.rpAnswer St.busyRetry
      else if d = decQueued then s1.rpAnswer St.success
      else (s1.rpAnswer St.success).replActRun (replAct g)

/-! ### Answers of the remote (R391 to R393, R396) -/

/-- Records of a group that satisfy a test have been answered: their entries may go, and parts that waited are sent or
acknowledged. -/
def State.replAnswered (s : State) (g : Nat) (f : RepRec → Bool) : State :=
  let s1 := s.setGroup g fun x => { x with recs := x.recs.filter fun r => !f r }
  ((s1.replSend g).replSettle g).resyncEnd g

/-- SYNC_ACK_RX (R391, R392): the remote has the part of a record in both its Cisterns. -/
def execSyncAckRx (group rseq : Nat) (s : State) : Out :=
  if s.tandem.groups.has group then .next (s.replAnswered group fun r => decide (r.rseq = rseq)) else .next s

/-- SYNC_TIMEOUT (R393): no SYNC_ACK within RP_SYNC_TMO strides of the first send: the group is SUSPENDED at the next commit
point. -/
def execSyncTimeout (group : Nat) (s : State) : Out :=
  let x := s.group group
  let late := x.recs.any fun r => r.issued && !r.acked && decide (s.fld (R.RP_SYNC_TMO group) 0 16 ≤ s.since r.sent)
  if late ∧ s.bit (R.RP_CFG group) 1 = false ∧ (s.rpState group = rpActive ∨ s.rpState group = rpCopying ∨ s.rpState group = rpResync)
      ∧ x.suspendNext = false then
    .next ((s.setGroup group fun x => { x with suspendNext := true }).raise 154 0x0100 0 (group % 256))
  else .next s

/-- FAIL_HOLD_TIMEOUT (R393): with FAIL_HOLD = 1 a write of a SUSPENDED group that waited for SYNC_ACK completes with BUSY_RETRY
25,000 strides after admission; its data stays applied and its ranges are marked. -/
def execFailHoldTimeout (n : Nat) (s : State) : Out :=
  match s.cmd n with
  | none => .next s
  | some c =>
    let held := (s.partsOf n).filter fun p => (s.groupOf p.2.vol).elim false fun g =>
      decide (s.rpState g = rpSuspended) && s.bit (R.RP_CFG g) 2 && !s.bit (R.RP_CFG g) 1
    if c.stage = .checked ∧ c.granted = c.parts ∧ c.committed + c.discarded = c.parts ∧ held ≠ [] ∧ 25000 ≤ s.since c.admittedAt then
      let s1 := held.foldl (fun s p => (s.groupOf p.2.vol).elim s fun g =>
        s.setGroup g fun x => x.mark (markRanges p.2.vol p.2.first p.2.count)) s
      .next (s1.complete n St.busyRetry)
    else .next s

/-- STAGED_RX (R391, R396): the remote has staged a batch: its entries may be released. -/
def execStagedRx (group batch : Nat) (s : State) : Out :=
  if s.tandem.groups.has group then
    .next ((s.wr64 (R.RP_LAST_STAGED group) (BitVec.ofNat 64 batch)).replAnswered group fun r =>
      decide (r.batch ≠ 0 ∧ r.batch ≤ batch))
  else .next s

/-- APPLIED_RX (R396): the remote has applied a batch: RP_LAST_APPLIED, from which RP_LAG counts. -/
def execAppliedRx (group batch : Nat) (s : State) : Out :=
  if s.tandem.groups.has group then
    .next ((s.wr64 (R.RP_LAST_APPLIED group) (BitVec.ofNat 64 batch)).event 154 3)
  else .next s

/-- An ASYNC stream's queue pair exceeds its retries: its group is SUSPENDED at the next commit point (R396). -/
def State.replQpFailed (s : State) (qpn : Nat) : State :=
  (s.tandem.groups.filter fun g => decide (s.fld (R.RP_QP g.1) 0 24 = qpn) && s.bit (R.RP_CFG g.1) 1
      && decide (s.rpState g.1 ≠ rpOff ∧ s.rpState g.1 ≠ rpPromoted)).foldl
    (fun s g => s.setGroup g.1 fun x => { x with suspendNext := true }) s

/-- Nothing sent on a queue pair waits for an acknowledgement. -/
def State.qpQuiet (s : State) (q : Nat) : Bool := (s.qp q).elim true fun x => !x.held && decide (x.sendq = [])

/-- Everything sent on a queue pair has been acknowledged: with that of its stream's members the records of its group are
acknowledged, and on the control queue pair its seal (R136, R394). -/
def State.replWire (s : State) (qpn : Nat) : State :=
  let control := (s.qp qpn).elim qpn fun x => if x.kind = 3 then x.stream else qpn
  let quiet := s.qpQuiet control && (s.members control).all fun m => s.qpQuiet m.1
  (s.tandem.groups.filter fun g => decide (s.fld (R.RP_QP g.1) 0 24 = control)).foldl
    (fun s g => s.setGroup g.1 fun x => { x with
      recs := x.recs.map fun r => if r.issued ∧ quiet then { r with onWire := true } else r,
      sealAcked := x.sealAcked || s.qpQuiet control }) s

/-- The remote refused a seal: the batch is sent again, with what is younger than 50,000 strides; the ranges of older records are
marked (R138, R393). -/
def State.batchAgain (s : State) (control : Nat) : State :=
  (s.tandem.groups.filter fun g => decide (s.fld (R.RP_QP g.1) 0 24 = control) && s.bit (R.RP_CFG g.1) 1).foldl
    (fun s g =>
      let x : Group := g.2
      let mine := x.recs.filter fun r => decide (r.batch ≠ 0 ∧ r.batch ≤ x.sealed)
      let old := mine.filter fun r => decide (50000 < s.since r.sent)
      (s.setGroup g.1 fun x => { x.mark (old.flatMap fun r => markRanges r.vol r.grain r.count) with
        recs := (x.recs.filter fun r => decide (r ∉ old)).map fun r => if r ∈ mine then { r with issued := false, onWire := false } else r,
        sealed := x.sealed - s.rdN (R.RP_BATCH g.1), sealAcked := true }).replSend g.1) s

/-! ### Batches (R394) -/

/-- A group runs in ASYNC mode and sends. -/
def State.async (s : State) (g : Nat) : Bool :=
  s.bit (R.RP_CFG g) 0 && s.bit (R.RP_CFG g) 1
    && decide (s.rpState g = rpCopying ∨ s.rpState g = rpActive ∨ s.rpState g = rpResync)

/-- B is a batch boundary of a group (R394). -/
def State.isBoundary (s : State) (g b : Nat) : Bool :=
  decide (s.rdN (R.RP_BATCH g) ≠ 0 ∧ b % s.rdN (R.RP_BATCH g) = 0)

/-- Every own part admitted before stride B is COMMITTED or discarded, and none is still to take its lock (R394). -/
def State.closedAt (s : State) (b : Nat) : Bool :=
  (s.cist.parts.all fun p => decide (p.2.lock = .committed ∨ b ≤ p.2.admitted.toNat))
    && s.front.cmds.all fun c => decide (¬ (c.2.img.op.weirClass = some wWr ∧ (c.2.stage = .admitted ∨ c.2.stage = .checked)
      ∧ c.2.granted < max c.2.parts 1 ∧ c.2.admittedAt.toNat < b))

/-- CLOSED for B is sent once (R366, R394). -/
def State.closedSend (s : State) (b : Nat) : State :=
  let gs := s.tandem.groups.filter fun g => s.async g.1 && s.isBoundary g.1 b && decide (g.2.closedOwn < b)
  if gs = [] ∨ s.now.toNat < b ∨ s.closedAt b = false then s
  else
    let s1 := gs.foldl (fun s g => s.setGroup g.1 fun x => { x with closedOwn := b }) s
    if s1.tlActive then s1.tlSend (.closed b) else s1

/-- CLOSED_SEND (R394). -/
def execClosedSend (batch : Nat) (s : State) : Out := .next (s.closedSend batch)

/-- BATCH_BOUNDARY (R394): a stride B with B mod RP_BATCH = 0 closes a batch of a group; where nothing admitted before it is open,
CLOSED goes at once. -/
def execBatchBoundary (group : Nat) (s : State) : Out :=
  .next (if s.isBoundary group s.now.toNat ∧ s.async group then s.closedSend s.now.toNat else s)

/-- LAST_PSN of the members by port: the last PSN that a batch took there, none for a member that carried none of it (R137). -/
def lastPsns (recs : List RepRec) : List (Option Nat) :=
  (List.range 8).map fun k => recs.foldl (fun b r => match r.member with
    | some (n, psn) => if n = k then some psn else b
    | none => b) none

/-- The seal of a batch (R137). -/
def sealOf (batch n : Nat) (recs : List RepRec) : SealRec :=
  let ms := lastPsns recs
  { batchStride := batch, batchSeq := n, mask := bitsWord 8 fun k => (ms.getD k none).isSome, lastPsn := ms.map fun m => m.getD 0,
    bytes := (recs.map fun r => 64 + r.entry.length).sum, checkOk := true }

/-- Bytes 0 to 55 of a seal (R137). -/
def SealRec.body (r : SealRec) : List Byte :=
  leBytes 8 r.batchStride ++ leBytes 4 r.batchSeq ++ leBytes 4 (r.mask % 256)
    ++ ((List.range 8).flatMap fun i => leBytes 4 (r.lastPsn.getD i 0 % 2 ^ 24)) ++ leBytes 8 r.bytes

/-- The 64 bytes of a seal: CHECK is the CRC-32C of the body (R137). -/
def SealRec.image (r : SealRec) : List Byte := r.body ++ leBytes 4 (crc32c r.body).toNat ++ leBytes 4 0

/-- The seal that 64 bytes spell (R137, R138). -/
def SealRec.parse (b : List Byte) : SealRec :=
  { batchStride := leAt b 0 8, batchSeq := leAt b 8 4, mask := leAt b 12 4 % 256,
    lastPsn := (List.range 8).map fun i => leAt b (16 + 4 * i) 4 % 2 ^ 24, bytes := leAt b 48 8,
    checkOk := decide (b.length = 64 ∧ leAt b 56 4 = (crc32c (b.take 56)).toNat) }

/-- The seal of a batch is sent on the group's control queue pair under the next BATCH_SEQ (R137, R394). -/
def State.sealOut (s : State) (g batch : Nat) (recs : List RepRec) : State :=
  let control := s.fld (R.RP_QP g) 0 24
  let n := ((s.group g).batchSeq + 1) % 2 ^ 32
  ((s.setGroup g fun x => { x with sealed := batch, sealAcked := false, batchSeq := n }).emit
    (.seal control n (sealOf batch n recs).image)).qpSend control 64

/-- SEAL_SEND (R394): the seal of batch B goes once CLOSED holds on both heads, every record of the batch is acknowledged on the
stream, and so is the previous seal. -/
def execSealSend (group batch : Nat) (s : State) : Out :=
  let x := s.group group
  let mine := x.recs.filter fun r => decide (r.batch ≠ 0 ∧ r.batch ≤ batch)
  if s.async group ∧ s.isBoundary group batch ∧ x.sealed < batch ∧ batch ≤ x.closedOwn
      ∧ (batch ≤ x.closedPartner ∨ s.clock.partnerLost) ∧ mine.all RepRec.onWire ∧ x.sealAcked then
    .next (s.sealOut group batch mine)
  else .next s

/-! ### As the remote (R392, R395, R396) -/

/-- A volume that receives records is a replication target: hosts do not write it until PROMOTE (R396; assumption log 52). -/
def State.asTarget (s : State) (v : Nat) : State := s.setVol v fun x => { x with replTarget := true }

/-- The part that an admitted record makes: data, digest and check value are kept, DEDUP_HIT and DEDUP_ADDR cleared (R392). -/
def Part.fromRemote (p : Part) (n vol : Nat) : Part :=
  { p with cmd := some n, part := 0, parts := 1, vol := vol, lock := .streaming, off := none, tseq := none, durable := false,
           released := false, readers := 0, forwarded := false, charged := 0, acked := false,
           grains := p.grains.map fun x => { x with hit := false, dedupAddr := 0, overtaken := false, probe := .none } }

/-- The image of a command that a record stands for. -/
def remoteImg (first count : Nat) : CmdImg :=
  { op := .write, nsid := 0, slba := first, blocks := count, fua := false, atomic := true, pract := false, chkGuard := false,
    chkApp := false, chkRef := false, lbat := 0, lbatm := 0, ilbrt := 0, descLen := 0, metaLen := none, listOk := true, cdw10 := 0, cdw11 := 0, inCapsule := none,
    invKey := none }

/-- A record's part is admitted as a part of this array's own write path, its lock in slot `loc` (R392, R395). -/
def State.remotePart (s : State) (group rseq vol loc : Nat) (entry : Part) : Option (State × Nat) :=
  if s.blocked vol entry.first entry.count ∨ 131072 ≤ loc ∨ (s.camAt loc).st ≠ 0 ∨ 131072 ≤ s.cist.parts.length ∨ (s.vol vol).isNone
      ∨ s.spilling then none
  else
    let n := s.front.nextCmd
    let s1 := s.newCmd (.repl group rseq) 0 (256 + group) (some vol) (remoteImg entry.first entry.count)
    let cseq := (s1.rd64 R.CIST_CSEQ).toNat + 1
    let p := entry.fromRemote n vol
    let s2 := s1.wr64 R.CIST_CSEQ (BitVec.ofNat 64 cseq)
    let s3 := (s2.setCam loc { st := 1, prio := 0, key := p.key, result := lockWord p cseq }).putPart cseq p
    match s3.cmd n with
    | none => none
    | some c => some (s3.setCmd n { c with stage := .checked, parts := 1, granted := 1, admittedAt := s.now, tsn := cseq % 2 ^ 32 }, cseq)

/-- A record that fails a CRC is discarded (R401). -/
def State.recordBad (s : State) (group : Nat) : State := s.raise 154 0x0101 1 (group % 256)

/-- Records and seals discarded as duplicates are counted (R395, R400). -/
def State.replDup (s : State) (group : Nat) : State := s.count (R.RP_DUP_DISCARD group)

/-- REPL_RECORD_RX (R390, R392, R395, R396): a record received as remote, its header and entry. One that fails a CRC is discarded. A SYNC
record is admitted as a part, in slot `loc` of the in-flight table, or acknowledged again; one of a batch is kept until its
seal. A promoted group refuses it. -/
def execReplRecordRx (image : List Byte) (loc : Nat) (s : State) : Out :=
  let group := leAt image 24 1
  let rseq := leAt image 8 8
  let batch := leAt image 16 8
  let vol := leAt image 28 3
  let entry := readEntry (image.drop 64)
  let x := s.group group
  if recordOk image = false then .next (s.recordBad group)
  else if s.rpState group = rpPromoted then .next s
  else if batch = 0 then
    if x.admitted.any fun a => decide (a.1 = rseq ∧ s.since a.2 ≤ 65536) then .next ((s.replDup group).replReply group 1 rseq)
    else
      match (s.asTarget vol).remotePart group rseq vol loc entry with
      | none => .next s
      | some (s1, _) => .next (s1.setGroup group fun x => { x with
          admitted := (rseq, s.now) :: x.admitted.filter fun a => decide (s.since a.2 ≤ 65536) })
  else if batch ≤ x.lastStaged ∨ x.received.any fun r => decide (r.1 = rseq) then .next (s.replDup group)
  else .next ((s.asTarget vol).setGroup group fun x => { x with received := x.received ++ [(rseq, batch, { entry with vol := vol })] })

/-- The order in which staged entries are applied: source entry STRIDE, owner head, CSEQ (R395). -/
def applyBefore (a b : Nat × Part) : Bool :=
  decide (a.2.admitted.toNat * 2 ^ 64 + a.1 ≤ b.2.admitted.toNat * 2 ^ 64 + b.1)

/-- An entry at its place in that order. -/
def applyInsert (y : Nat × Part) : List (Nat × Part) → List (Nat × Part)
  | [] => [y]
  | x :: xs => if applyBefore y x then y :: x :: xs else x :: applyInsert y xs

/-- A batch is staged (R395): its records are copied into the own half as entries of consecutive CSEQs between OPEN and CLOSE
markers; without a mirror they are closed at once. -/
def State.stageBatch (s : State) (group batch : Nat) : State :=
  let x := s.group group
  let mine := (x.received.filter fun r => decide (r.2.1 ≤ batch)).map fun r => (r.1, r.2.2)
  let ordered := mine.foldl (fun l y => applyInsert y l) []
  let base := (s.rd64 R.CIST_CSEQ).toNat
  let es := ordered.mapIdx fun i y => (y.1, base + 1 + i, y.2)
  let qs := es.map fun e => e.2.1
  let solo := s.bit R.CIST_STATUS 1 || decide (es = [])
  let b : StagedBatch := { batch := batch, entries := es, waiting := if solo then [] else qs, closed := solo }
  let s1 := (s.wr64 R.CIST_CSEQ (BitVec.ofNat 64 (base + es.length))).setGroup group fun x => { x with
    received := x.received.filter fun r => decide (batch < r.2.1), staged := x.staged ++ [b], lastStaged := batch }
  let s2 := if solo then s1 else es.foldl (fun s e => if s.tlActive then s.tlSend (s.mirrorRec e.2.1 e.2.2) else s) s1
  let s3 := s2.wr64 (R.RP_LAST_STAGED group) (BitVec.ofNat 64 batch)
  if solo then s3.replReply group 2 batch else s3

/-- The next batch that a group expects (R395). -/
def State.nextBatch (s : State) (group : Nat) : Nat :=
  let x := s.group group
  if x.lastStaged = 0 then 0 else x.lastStaged + s.rdN (R.RP_BATCH group)

/-- Seals held until their turn are taken up once it has come. -/
def State.heldSeal (s : State) (group : Nat) : Nat → State
  | 0 => s
  | n + 1 =>
    let b := s.nextBatch group
    if b ∈ (s.group group).heldSeals then
      ((s.stageBatch group b).setGroup group fun x => { x with heldSeals := x.heldSeals.filter fun q => decide (q ≠ b) }).heldSeal group n
    else s

/-- A delivered seal of a group's stream (R395): a batch already staged is discarded, one beyond the next is held, else it is
staged. -/
def State.replSeal (s : State) (group batch : Nat) : State :=
  let x := s.group group
  if s.rpState group = rpPromoted then s
  else if batch ≤ x.lastStaged then s.replDup group
  else if s.nextBatch group ≠ 0 ∧ s.nextBatch group < batch then s.setGroup group fun x => { x with heldSeals := batch :: x.heldSeals }
  else (s.stageBatch group batch).heldSeal group (x.heldSeals.length)

/-- A batch all of whose parts have been released has been applied: APPLIED is sent (R395). -/
def State.batchDone (s : State) (group : Nat) : State :=
  match (s.group group).applying with
  | none => s
  | some (b, qs) =>
    if (s.group group).staged.any (fun x => decide (x.batch = b)) ∨ qs.any fun q => s.cist.parts.has q then s
    else (((s.setGroup group fun x => { x with applying := none }).wr64 (R.RP_LAST_APPLIED group) (BitVec.ofNat 64 b)).event 154 3).replReply group 3 b

/-- The next staged entry of a group, in order, becomes a part. -/
def State.applyNext (s : State) (group loc : Nat) : State :=
  match (s.group group).staged with
  | [] => s
  | b :: rest =>
    match b.entries with
    | [] => s.setGroup group fun x => { x with staged := rest, applying := some (b.batch, (x.applying.elim [] Prod.snd)) }
    | e :: es =>
      if b.closed = false ∨ ((s.group group).applying.elim false fun a => decide (a.1 ≠ b.batch)) then s
      else
        match s.remotePart group e.1 e.2.2.vol loc e.2.2 with
        | none => s
        | some (s1, q) =>
          let s2 := match s1.part q with
            | none => s1
            | some p => s1.putPart q { p with cmd := none }
          let s3 := s2.dropCmd (s1.front.nextCmd - 1)
          s3.setGroup group fun x => { x with
            staged := if es = [] then rest else { b with entries := es } :: rest,
            applying := some (b.batch, q :: x.applying.elim [] Prod.snd) }

/-- BATCH_APPLY (R395): the next staged entry of a group is applied as one atomic part, its lock in slot `loc`; APPLIED goes once
the last entry of a batch has been released. -/
def execBatchApply (group loc : Nat) (s : State) : Out := .next ((s.applyNext group loc).batchDone group)

/-- REPL_PROMOTE (R396, R400): staged batches are applied, what is unstaged is discarded, and the group's volumes may be written;
the source streams are refused from now on. -/
def execReplPromote (s : State) : Out :=
  s.rpCommand fun g s =>
    if s.rpState g = rpPromoted then s.rpAnswer St.invalidField
    else
      let x := s.group g
      let vs := x.vols.map Prod.fst ++ (x.received.map fun r => r.2.2.vol) ++ x.staged.flatMap fun b => b.entries.map fun e => e.2.2.vol
      let s1 := s.setGroup g fun x => { x with received := [], heldSeals := [], staged := x.staged.filter StagedBatch.closed }
      let s2 := vs.foldl (fun s v => s.setVol v fun y => { y with replTarget := false }) s1
      (s2.setRpState g rpPromoted).rpDone

end Sys2Proof.Machine
end

