-- ==== Sys2Proof/Machine/Packets.lean ====
section
/-! DEFINITION. RoCEv2 packets: requests, the duplicate-write window, capsules, acknowledgements, NAKs, congestion, contexts that
are fetched and written back, and seals (R115 to R126, R128, R134 to R138). -/

namespace Sys2Proof.Machine

/-! ### Memory regions (R126, R128) -/

/-- A memory region. -/
def State.mr (s : State) (i : Nat) : Option Mr := s.front.mrs.find i

/-- A memory region takes a value. -/
def State.setMr (s : State) (i : Nat) (m : Mr) : State := { s with front := { s.front with mrs := s.front.mrs.put i m } }

/-- The region that a key names for a tenant, an access and a range (R126). -/
def State.keyOk (s : State) (tenant key addr len : Nat) (write : Bool) : Bool :=
  let i := key / 256
  decide (1 ≤ i ∧ i ≤ 65535) && (s.mr i).elim false fun m =>
    m.registered && decide (m.key = key % 256 ∧ m.tenant = tenant) && (if write then m.writeOk else m.readOk)
      && decide (m.base ≤ addr ∧ addr + len ≤ m.base + m.len)

/-- A key names a registered region of a tenant with its current key byte (R126). -/
def State.keyNames (s : State) (tenant key : Nat) : Bool :=
  decide (1 ≤ key / 256 ∧ key / 256 ≤ 65535) && (s.mr (key / 256)).elim false fun m =>
    m.registered && decide (m.key = key % 256 ∧ m.tenant = tenant)

/-- A region's key byte changes at the next commit point (R128). -/
def State.rotateKey (s : State) (i : Nat) : State :=
  match s.mr i with
  | none => s
  | some m => s.setMr i { m with rotate := m.rotate + 1 }

/-- Step of the commit point: key bytes that are due change (R128). -/
def State.keysRotate (s : State) : State :=
  { s with front := { s.front with mrs := s.front.mrs.mapVals fun _ m => { m with key := (m.key + m.rotate) % 256, rotate := 0 } } }

/-! ### Commands that arrive in capsules (R133 to R135) -/

/-- The controller of a fabrics queue pair. -/
def State.ctrlOf (s : State) (q : Nat) : Option (Nat × Ctrl) :=
  s.front.ctrls.first fun _ c => decide (c.adminQpn = q ∨ q ∈ c.ioQpns)

/-- The queue pair takes an operation: Connect and Disconnect on both kinds, properties and administrative commands on an admin
queue pair, I/O commands on an I/O queue pair (R133). -/
def Qp.takes (q : Qp) (op : HostOp) : Bool :=
  match op with
  | .connect | .disconnect => true
  | .propGet | .propSet => decide (q.kind = 2)
  | _ => if q.kind = 2 then op.isAdmin else op.isIo

/-- A capsule has landed in the receive pool: its command is fetched, charged to subject 256 + TENANT (R134). On a fenced head it
completes with HEAD_FENCED (R140). -/
def State.capsule (s : State) (qpn : Nat) (q : Qp) (c : Capsule) : State :=
  if s.spilling then s
  else
    let vol := (s.ctrlOf qpn).bind fun k => (k.2.ns.find? fun a => decide (a.nsid = c.img.nsid) && !a.detaching).map NsAtt.vol
    let n := s.front.nextCmd
    let s1 := s.fetch (.fabrics qpn c.cid) 0 (256 + q.tenant) vol c.img (!q.takes c.img.op)
    if s.fenced then s1.complete n St.headFenced else s1

/-! ### The duplicate-write window (R125) -/

/-- PSN `p` has completed: HCP and the bitmap move on by one, and MSN where a message ends. -/
def Qp.completed (q : Qp) (p : Nat) (last : Bool) : Qp :=
  { q with hcp := p, done := (q.done <<< 1) ||| 1, msn := (q.msn + last.toNat) % psnMod }

/-- An acknowledgement is sent with the current MSN. -/
def State.ackSend (s : State) (qpn psn : Nat) : State := s.emit (.rdmaAck qpn psn ((s.qp qpn).elim 0 Qp.msn))

/-- The expected request is executed (R125, R126, R128, R134); the flag says that it completed. A Send with Invalidate of a key that
names no region is refused as R126 refuses a request (assumption log 66). -/
def State.roceExec (s : State) (qpn : Nat) (q : Qp) (p : Packet) : State × Bool :=
  if p.capsule.isSome ∧ p.poolEmpty then
    ((s.setQp qpn fun x => { x with nakAt := some (p.psn % psnMod) }).emit (.rnrNak qpn p.psn q.rnrTimer), false)
  else
    match p.rkey with
    | some k =>
      if s.keyOk q.tenant k p.addr p.len p.isWrite = false then
        (((s.emit (.rdmaNak qpn p.psn .remoteAccess)).count R.RMA_KEY_VIOLATION).evPost 0x0201 q.lport k, false)
      else if p.isRead then (s.emit (.readResponse qpn p.psn p.addr p.len), true)
      else (s.emit (.place qpn p.addr p.len), true)
    | none =>
      if p.inval.elim false fun k => !s.keyNames q.tenant k then
        (((s.emit (.rdmaNak qpn p.psn .remoteAccess)).count R.RMA_KEY_VIOLATION).evPost 0x0201 q.lport (p.inval.getD 0), false)
      else
        let s1 := p.capsule.elim s fun c => s.capsule qpn q c
        match p.inval with
        | none => (s1, true)
        | some k => ((s1.rotateKey (k / 256)).evPost 0x0202 q.lport k, true)

/-! ### Seals (R137, R138) -/

/-- A member's HCP has reached a PSN. -/
def Qp.reached (q : Qp) (psn : Nat) : Bool := decide (psnBack q.hcp psn < 2 ^ 23)

/-- A seal may be delivered (R138): CHECK is valid, every member of MEMBER_MASK, by port number, has reached its LAST_PSN, and no
earlier batch of the stream waits. -/
def State.sealReady (s : State) (x : SealMsg) : Bool :=
  x.body.checkOk
    && ((List.range 8).all fun i => decide (x.body.mask / 2 ^ i % 2 = 0) ||
      (s.front.qps.any fun m => decide (m.2.kind = 3 ∧ m.2.stream = x.qpn ∧ m.2.lport / 2 = i) && m.2.reached (x.body.lastPsn.getD i 0)))
    && (s.front.seals.all fun y => decide (y.qpn ≠ x.qpn ∨ x.body.batchSeq ≤ y.body.batchSeq))

/-- The group whose stream a control queue pair is (R400). -/
def State.groupOfQp (s : State) (qpn : Nat) : Option Nat :=
  (s.tandem.groups.find? fun g => decide (s.fld (R.RP_QP g.1) 0 24 = qpn)).map Prod.fst

/-- A seal leaves the waiting ones. -/
def State.sealTake (s : State) (x : SealMsg) : State :=
  { s with front := { s.front with seals := s.front.seals.filter fun y => decide (y ≠ x) } }

/-- The requests that were to be acknowledged once the one in progress completes are (R125). -/
def State.ackRest (s : State) (qpn : Nat) : State :=
  match s.qp qpn with
  | none => s
  | some q => q.ackDue.foldl (fun s p => s.ackSend qpn p) (s.setQp qpn fun x => { x with ackDue := [] })

/-- A seal is delivered to the replication engine, and acknowledged (R138). -/
def State.sealDeliver (s : State) (x : SealMsg) : State :=
  let s1 := (((s.sealTake x).ctxTouch x.qpn fun q => q.completed x.psn true).ackSend x.qpn x.psn).ackRest x.qpn
  match s1.groupOfQp x.qpn with
  | none => s1
  | some g => s1.replSeal g x.body.batchStride

/-- The seals that have become deliverable are delivered, oldest first. -/
def State.sealScan (s : State) : Nat → State
  | 0 => s
  | n + 1 =>
    match s.front.seals.find? s.sealReady with
    | none => s
    | some x => (s.sealDeliver x).sealScan n

/-- All seals that wait. -/
def State.sealsRun (s : State) : State := s.sealScan s.front.seals.length

/-- Seals that wait on a queue pair. -/
def State.sealsOf (s : State) (qpn : Nat) : List SealMsg := s.front.seals.filter fun x => decide (x.qpn = qpn)

/-- A request in the window whose bit is not set is acknowledged once the request in progress completes, or at once where none is (R125;
that only a seal stays in progress is assumption log 83). -/
def State.ackLater (s : State) (qpn psn : Nat) : State :=
  if s.sealsOf qpn = [] then s.ackSend qpn psn else s.setQp qpn fun x => { x with ackDue := x.ackDue ++ [psn] }

/-- A seal on a control queue pair (R125, R138): the expected one waits until it may be delivered; any other falls under the rule of
R125. On a queue pair of another kind it is answered with NAK Invalid Request (DESIGN CHOICE, assumption log 84). -/
def State.sealRun (s : State) (qpn : Nat) (q : Qp) (psn : Nat) (image : List Byte) : State :=
  let d := psnBack q.hcp psn
  if q.kind ≠ 4 then s.emit (.rdmaNak qpn psn .invalidRequest)
  else if psn % psnMod = (q.hcp + 1 + (s.sealsOf qpn).length) % psnMod then
    let x : SealMsg := { qpn := qpn, psn := psn % psnMod, arrived := s.now, body := SealRec.parse image }
    { s with front := { s.front with seals := s.front.seals ++ [x] } }
  else if d < 4096 then (if q.done.getLsbD d then (s.ackSend qpn psn).count R.DUP_ACKED else s.ackLater qpn psn)
  else if (s.sealsOf qpn).any fun x => decide (x.psn = psn % psnMod) then s
  else
    let s1 := s.emit (.rdmaNak qpn psn .sequence)
    if d < 2 ^ 23 then s1.count R.SEQ_NAK else s1

/-- A request packet is handled by the rule of R125; an atomic request is answered with NAK Invalid Request (R115),
and so is an RDMA Read beyond the 128 that a responder has outstanding (PRESUMED, assumption log 82). -/
def State.roceRun (s : State) (qpn : Nat) (p : Packet) : State :=
  match s.qp qpn with
  | none => s
  | some q =>
    let d := psnBack q.hcp p.psn
    if let some b := p.sealImg then s.sealRun qpn q p.psn b
    else if p.isAtomic then s.emit (.rdmaNak qpn p.psn .invalidRequest)
    else if p.psn % psnMod = (q.hcp + 1) % psnMod then
      if p.isRead ∧ readsInMax ≤ q.readsIn then s.emit (.rdmaNak qpn p.psn .invalidRequest)
      else
      match s.roceExec qpn q p with
      | (s1, false) => s1
      | (s1, true) =>
        let s2 := s1.ctxTouch qpn fun x =>
          { x.completed (p.psn % psnMod) p.last with readsIn := x.readsIn + p.isRead.toNat }
        if p.isRead then s2 else s2.ackSend qpn p.psn
    else if d < 4096 then
      if p.isRead then
        if s.keyOk q.tenant (p.rkey.getD 0) p.addr p.len false then s.emit (.readResponse qpn p.psn p.addr p.len)
        else ((s.emit (.rdmaNak qpn p.psn .remoteAccess)).count R.RMA_KEY_VIOLATION).evPost 0x0201 q.lport (p.rkey.getD 0)
      else if q.done.getLsbD d then (s.ackSend qpn p.psn).count R.DUP_ACKED
      else s.ackLater qpn p.psn
    else if d < 2 ^ 23 then (s.emit (.rdmaNak qpn p.psn .sequence)).count R.SEQ_NAK
    else s.emit (.rdmaNak qpn p.psn .sequence)

/-! ### Arrival (R118, R121 to R124) -/

/-- The port of a packet takes it: its page is in RUN or DEGRADED and not frozen. A page in another state receives nothing, and what
arrives for a frozen one waits on the wire (R62, R64; assumption log 72). -/
def State.portTakes (s : State) (lport : Nat) : Bool :=
  decide (s.pageState (ethPage lport) = .run ∨ s.pageState (ethPage lport) = .degraded) && !s.halted (ethPage lport)

/-- An ECN mark makes the notification point send a CNP, at most one for each queue pair in 13 strides (R115). -/
def State.cnpMark (s : State) (qpn : Nat) (q : Qp) (p : Packet) : State :=
  let free : Bool := q.cnpAt.elim true fun t => decide (13 ≤ s.since t)
  if p.ecn ∧ free then (s.setQp qpn fun x => { x with cnpAt := some s.now }).emit (.cnp qpn) else s

/-- A packet that does not fit in the miss buffer of 4 MiB is answered with an RNR NAK at the expected PSN (R123); the first since
the buffer was last below half full posts PORT_MISS_FULL (R140). -/
def State.missFull (s : State) (qpn : Nat) (q : Qp) (lport : Nat) : State :=
  let n := lport / 2
  let e := (q.hcp + 1) % psnMod
  let s1 := (s.setQp qpn fun x => { x with nakAt := some e }).emit (.rnrNak qpn e q.rnrTimer)
  let s2 := ((s1.count (R.ETH_RNR_SENT n)).event (ethPage lport) 4).raise (ethPage lport) 0x0102 0 (lport % 2)
  if n ∈ s2.front.missPosted then s2
  else ({ s2 with front := { s2.front with missPosted := n :: s2.front.missPosted } }).evPost 0x0005 lport 0

/-- A packet is parked, and a fetch is issued unless one is under way or the context is being written back (R121, R122). -/
def State.park (s : State) (qpn : Nat) (q : Qp) (lport : Nat) (p : Packet) : State :=
  let n := lport / 2
  let lvl := s.rdN (R.ETH_MISS_LEVEL n) + p.bytes
  if 4194304 < lvl then s.missFull qpn q lport
  else
    let s1 := (s.wrN (R.ETH_MISS_LEVEL n) lvl).highWater (R.ETH_MISS_HWM n) lvl
    let s2 := s1.setQp qpn fun x => { x with parked := x.parked ++ [(lport, p)] }
    if q.writeback ∨ q.fetchAt.isSome then s2
    else (s2.setQp qpn fun x => { x with fetchAt := some s.now }).count R.CTX_MISS_COUNT

/-- A request packet arrives for a queue pair (R118, R121 to R125). One for a queue pair that does not receive is counted, and answered,
since none is dropped without a NAK (R123), with Invalid Request (DESIGN CHOICE, assumption log 84). -/
def State.packetIn (s : State) (lport qpn : Nat) (p : Packet) : State :=
  if s.portTakes lport = false then s
  else
    match s.qp qpn with
    | none => s.count R.CTX_BAD_QPN
    | some q =>
      if q.destroying then s.count R.CTX_BAD_QPN
      else
        let s1 := s.cnpMark qpn q p
        let early : Bool := q.nakAt.elim false fun e => decide (p.psn % psnMod ≠ e)
        if early then s1.count R.CTX_NAK_DISCARD
        else if ¬ (q.state = .rtr ∨ q.state = .rts) then (s1.emit (.rdmaNak qpn p.psn .invalidRequest)).count R.CTX_NAK_DISCARD
        else
          let s2 := s1.setQp qpn fun x => { x with nakAt := none }
          if q.cached = false ∨ q.writeback ∨ q.parked ≠ [] then s2.park qpn q lport p
          else (s2.roceRun qpn p).sealsRun

/-- ROCE_REQUEST_RX (R125): a request packet of a queue pair. -/
def execRoceRequestRx (lport qpn : Nat) (p : Packet) (s : State) : Out :=
  .next (s.packetIn lport qpn { p with capsule := none, sealImg := none })

/-- NVMEOF_CAPSULE_RX (R134): the Send of a command capsule; with the pool empty it is answered with an RNR NAK. -/
def execNvmeofCapsuleRx (lport qpn : Nat) (p : Packet) (c : Capsule) (s : State) : Out :=
  .next (s.packetIn lport qpn
    { p with capsule := some c, isSend := true, isRead := false, isWrite := false, isAtomic := false, rkey := none, sealImg := none })

/-! ### Contexts (R119 to R122) -/

/-- The parked packets of an installed context are processed in arrival order (R121). -/
def State.unpark (s : State) (qpn : Nat) : State :=
  match s.qp qpn with
  | none => s
  | some q =>
    let s1 := (s.setQp qpn fun x => { x with parked := [] }).missLeaveAll q.parked
    ((q.parked.map Prod.snd).foldl (fun s p =>
      match (s.qp qpn).bind Qp.nakAt with
      | none => s.roceRun qpn p
      | some e => if p.psn % psnMod = e then (s.setQp qpn fun x => { x with nakAt := none }).roceRun qpn p
                  else s.count R.CTX_NAK_DISCARD) s1).sealsRun

/-- A fetch took longer than 3 strides: CTX_FETCH_MAX is above 3, and an L1 fault is placed on CTXC; its code is not stated (a free
value, assumption log 3) (R120, R132). -/
def State.fetchTook (s : State) (k : Nat) : State :=
  let s1 := s.highWater R.CTX_FETCH_MAX (min k 255)
  if 3 < k then s1.useFree.raise 22 (s1.freeNat % 65536) 1 0 else s1

/-- An uncorrectable DRAM error on a context fetch: the queue pair moves to Error, and QP_FATAL is posted (R120, R416). -/
def State.fetchUe (s : State) (qpn : Nat) : State := (s.setQp qpn fun x => { x with fetchAt := none }).qpFatal qpn

/-- CONTEXT_FETCH_DONE (R121): the context is installed and its parked packets are processed. `ue`: the channel of an uncorrectable
error, which DDRC captures (R120, R416). -/
def execContextFetchDone (qpn : Nat) (ue : Option Nat) (s : State) : Out :=
  match s.qp qpn with
  | none => .next s
  | some q =>
    match q.fetchAt with
    | none => .next s
    | some t =>
      let s1 := s.fetchTook (s.since t)
      match ue with
      | some ch => .next ((s1.fetchUe qpn).raise (142 + ch % 8) 0x0101 2 0)
      | none =>
        let s2 := (s1.ctxInstall qpn).setQp qpn fun x => { x with fetchAt := if x.cached then none else x.fetchAt }
        .next (if (s2.qp qpn).elim false Qp.cached then s2.unpark qpn else s2)

/-- CONTEXT_WRITEBACK_DONE (R122): the write-back is complete; for packets that wait the context is fetched again. -/
def execContextWritebackDone (qpn : Nat) (s : State) : Out :=
  match s.qp qpn with
  | none => .next s
  | some q =>
    if q.writeback = false then .next s
    else
      let s1 := s.setQp qpn fun x => { x with writeback := false }
      .next (if q.parked = [] then s1
             else (s1.setQp qpn fun x => { x with fetchAt := some s.now }).count R.CTX_MISS_COUNT)

/-! ### The requester (R115, R119, R136, R140) -/

/-- Packets of a queue pair from its first unacknowledged PSN on are sent again. -/
def State.resendAll (s : State) (qpn : Nat) : State :=
  match s.qp qpn with
  | none => s
  | some q => s.emit (.resend qpn q.unacked q.sqPsn)

/-- Retries are exhausted: QP_RETRY_EXCEEDED is posted, the queue pair moves to Error, and an ASYNC group that it carries is
suspended (R140, R396). -/
def State.retryExceeded (s : State) (qpn : Nat) : State :=
  match s.qp qpn with
  | none => s
  | some q => ((s.qpError qpn).evPost 0x0102 q.lport qpn).replQpFailed (if q.kind = 3 then q.stream else qpn)

/-- PSNs up to `psn` are acknowledged, if it is outstanding. -/
def Qp.acked (q : Qp) (psn : Nat) : Qp :=
  let k := psnBack psn q.unacked
  if k < psnBack q.sqPsn q.unacked then
    { q with unacked := (psn + 1) % psnMod, reads := q.reads.filter fun r => decide (2 ^ 23 ≤ psnBack psn r), retryLeft := q.retry, rnrLeft := q.rnrRetry, dirty := q.cached }
  else q

/-- ROCE_ACK_RX (R119): an acknowledgement or a read response up to a PSN; the context is held no more once nothing is outstanding. -/
def execRoceAckRx (qpn psn : Nat) (s : State) : Out :=
  match s.qp qpn with
  | none => .next (s.count R.CTX_BAD_QPN)
  | some _ =>
    let s0 := s.setQp qpn fun x => x.acked psn
    let s1 := s0.qpDrain qpn ((s0.qp qpn).elim 0 fun x => x.sendq.length)
    .next (if s1.qpQuiet qpn then s1.replWire qpn else s1)

/-- One transport retry is used, or none is left (R115). -/
def State.transportRetry (s : State) (qpn : Nat) (q : Qp) : State :=
  if q.retryLeft = 0 then s.retryExceeded qpn
  else (s.setQp qpn fun x => { x with retryLeft := x.retryLeft - 1 }).resendAll qpn

/-- ROCE_NAK_RX (R140): an RNR or sequence NAK at a PSN drives retry; any other is QP_REMOTE_ERROR, after which the queue pair is in
Error, except that a control queue pair whose seal was refused sends the batch again (R138). -/
def execRoceNakRx (qpn psn : Nat) (kind : NakKind) (s : State) : Out :=
  match s.qp qpn with
  | none => .next (s.count R.CTX_BAD_QPN)
  | some q =>
    let k := psnBack psn q.unacked
    if psnBack q.sqPsn q.unacked ≤ k then .next s
    else
      let s1 := if k = 0 then s else s.setQp qpn fun x => { x with unacked := psn % psnMod }
      match kind with
      | .rnr =>
        .next (if q.rnrRetry = 7 then s1.resendAll qpn
          else if q.rnrLeft = 0 then s1.retryExceeded qpn
          else (s1.setQp qpn fun x => { x with rnrLeft := x.rnrLeft - 1 }).resendAll qpn)
      | .sequence => .next (s1.transportRetry qpn q)
      | .remoteOperational =>
        if q.kind = 4 then .next (((s1.setQp qpn fun x => { x with unacked := x.sqPsn }).evPost 0x0103 q.lport qpn).batchAgain qpn)
        else .next (((s1.qpError qpn).evPost 0x0103 q.lport qpn).replQpFailed qpn)
      | _ => .next (((s1.qpError qpn).evPost 0x0103 q.lport qpn).replQpFailed (if q.kind = 3 then q.stream else qpn))

/-- TRANSPORT_ACK_TIMEOUT (R115): the acknowledgement timer of a queue pair with packets outstanding expires. -/
def execTransportAckTimeout (qpn : Nat) (s : State) : Out :=
  match s.qp qpn with
  | none => .next s
  | some q => if q.held then .next (s.transportRetry qpn q) else .next s

/-- CNP_RX (R115, R118): the queue pair's rate is lowered by a step. -/
def execCnpRx (qpn : Nat) (s : State) : Out :=
  .next (if (s.qp qpn).isNone then s.count R.CTX_BAD_QPN else s.setQp qpn fun x => { x with rateSteps := x.rateSteps + 1, dirty := x.cached })

/-- CNP_RATE_RESTORE (R115): while no CNP arrives a step is restored. -/
def execCnpRateRestore (qpn : Nat) (s : State) : Out :=
  .next (s.setQp qpn fun x => { x with rateSteps := x.rateSteps - 1, dirty := x.cached })

/-! ### Seals received (R138) -/

/-- SEAL_RX (R121 to R125, R138): a seal arrives as the request packet that it is. -/
def execSealRx (lport qpn psn : Nat) (image : List Byte) (s : State) : Out :=
  .next (s.packetIn lport qpn
    { isRead := false, isAtomic := false, isSend := false, last := true, psn := psn, bytes := image.length, rkey := none, addr := 0,
      len := image.length, isWrite := true, inval := none, ecn := false, capsule := none, poolEmpty := false, sealImg := some image })

/-- A request that is refused for good spends its PSN: the batch comes again under the next one (assumption log 67). -/
def Qp.spent (q : Qp) (psn : Nat) : Qp := { q with hcp := psn, done := q.done <<< 1 }

/-- SEAL_TIMEOUT (R138): a seal not delivered within 2,500 strides of its arrival is answered with NAK Remote Operational Error, and
SEAL_FAILED is posted. -/
def execSealTimeout (qpn : Nat) (s : State) : Out :=
  match (s.sealsOf qpn).find? fun x => decide (2500 ≤ s.since x.arrived) with
  | none => .next s
  | some x =>
    .next (((((s.sealTake x).ctxTouch qpn fun q => q.spent x.psn).emit (.rdmaNak qpn x.psn .remoteOperational)).ackRest qpn).evPost 0x0301
      ((s.qp qpn).elim evDevice Qp.lport) qpn)

end Sys2Proof.Machine
end

