-- ==== Sys2Proof/Machine/DramRead.lean ====
section
/-! DEFINITION. Reads of head DRAM and what an uncorrectable error does to the requester (R415, R416, R427). -/

namespace Sys2Proof.Machine

/-- What follows at the requester of a poisoned access (R416): a context's or a region's queue pair goes to Error, a dedup bucket is
cleared, a capsule's command completes with BUSY_RETRY. The reader of a Cistern entry or of the journal area takes the partner's copy
when it checks what it has read (R225, R335); a metadata line is rebuilt when its poisoned fill is installed (R426). -/
def State.ueRecover (s : State) (u : DramUse) : State :=
  match u with
  | .context q => s.fetchUe q
  | .bucket i => s.bucketCrc i
  | .regionRead q => s.qpFatal q
  | .capsule n => (s.undo n).complete n St.busyRetry
  | _ => s

/-- An access has a recovery (R416). -/
def DramUse.recovers : DramUse → Bool
  | .other => false
  | _ => true

/-- An uncorrectable error of an access: DRAM_UE_RECOVERED at L2, or DRAM_UE_FATAL at L4 where nothing recovers or the recovery
itself fails (R416). -/
def State.dramUe (s : State) (ch addr rank : Nat) (u : DramUse) (fails injected : Bool) : State :=
  let s1 := ((s.count (R.DC_UE_COUNT ch)).dramAddr ch addr).event (dcPage ch) 6
  if u.recovers ∧ fails = false then (s1.raise (dcPage ch) 0x0101 2 rank injected).ueRecover u
  else s1.raise (dcPage ch) 0x0102 4 rank injected

/-- What a read that returns shows (R415, R416): `ecc` 0 no error, 1 a corrected one, 2 an uncorrectable one; `sub` and `dev` are
subchannel and device. An armed injection for the port makes it 1 or 2 (R427). -/
def State.dramReturn (s : State) (c : Nat) (r : DramReq) (ecc sub dev : Nat) (whole fails : Bool) : State :=
  let (s1, ce) := s.inject (dcPage c) 0x01 r.port
  let (s2, ue) := s1.inject (dcPage c) 0x02 r.port
  if ue ∨ ecc = 2 then s2.dramUe c r.addr r.rank r.use fails ue
  else if ce ∨ ecc = 1 then s2.dramCe c r.addr (r.rank, sub, dev, r.bank, r.row) whole ce
  else s2

/-- DRAM_READ_RETURN (R403 to R407, R415, R416): `ns` after the stride's beginning, requests of the channel's addresses having arrived, the
read returns that the channel picks. -/
def execDramReadReturn (ch ns : Nat) (arrived : List DramReq) (ecc sub dev : Nat) (whole fails : Bool) (s : State) : Out :=
  let c := ch % 8
  match s.dcServe c (s.now.toNat * 4000 + ns) (arrived.filter fun r => decide (dcChannel r.addr = c)) with
  | (s1, none) => .next s1
  | (s1, some r) => .next (s1.dramReturn c r ecc sub dev whole fails)

/-- CA_PARITY_ERROR (R415, R427): an error that the RCD reports is retried once; `again`: a second one on the same command is an
uncorrectable error of its access. -/
def execCaParityError (ch addr rank : Nat) (again : Bool) (use : DramUse) (fails : Bool) (s : State) : Out :=
  let c := ch % 8
  let (s1, inj) := s.inject (dcPage c) 0x05 rank
  let s2 := s1.raise (dcPage c) 0x0103 1 rank inj
  .next (if again then s2.dramUe c addr rank use fails false else s2)

end Sys2Proof.Machine
end

