-- ==== Sys2Proof/Machine/PoolCmds.lean ====
section
/-! DEFINITION. The commands of the STRIPE page: pools made, deleted and reshaped, spares, readmission, loss clearing (R356,
R357, R359). -/

namespace Sys2Proof.Machine

/-- The 64 bytes of SP_ARG. -/
def State.spArgs (s : State) : List Byte := (List.range 16).flatMap fun i => leBytes 4 (s.rdN (R.SP_ARG i))

/-- An SP command is answered: STATUS, and BUSY until the next commit point (R359; assumption log 31); CMD_DONE where it has
ended (assumption log 32). -/
def State.spAnswer (s : State) (status : Nat) (queued : Bool) : State :=
  let s1 := s.wrN R.SP_CMD_STATUS (status + 2 ^ 16 + queued.toNat * 2 ^ 17)
  if queued then s1 else s1.event 141 0

/-- A write of SP_CMD while BUSY = 1 is discarded and captures WRITE_DISCARDED (R359). -/
def State.spCommand (s : State) (f : State → State) : Out :=
  .next (if s.bit R.SP_CMD_STATUS 16 then s.writeDiscarded 141 else f s)

/-- An activity that an SP command starts (R467, R468). -/
def State.spStart (s : State) (a : Activity) (run : State → State) : State :=
  let (s1, d) := s.actStart a
  if d = decRefused then s1.spAnswer St.busyRetry false
  else if d = decQueued then s1.spAnswer St.success true
  else (run s1).spAnswer St.success false

/-- The pool that SP_POOL_SEL names. -/
def State.spSel (s : State) : Nat := s.fld R.SP_POOL_SEL 0 4

/-! ### Pools are made and deleted -/

/-- A pool definition as an argument block gives it (R359). -/
structure PoolArgs where
  pool : Nat
  kind : Nat
  n : Nat
  modules : List Nat
  spare : Option Nat
  deriving DecidableEq, Repr

/-- Reads the argument block of POOL_CREATE and RESHAPE (R359). -/
def poolArgs (a : List Byte) : PoolArgs :=
  { pool := argField a 0 1, kind := argField a 1 1, n := argField a 2 1,
    modules := (List.range 24).filter fun m => decide (argField a 4 4 / 2 ^ m % 2 = 1),
    spare := if argField a 3 1 % 2 = 1 then some (argField a 8 1) else none }

/-- KIND, N, W ≤ P and the hot spare's place outside the pool (R330, R359). -/
def PoolArgs.shapeOk (x : PoolArgs) : Bool :=
  decide (x.kind ≤ 3) && (if x.kind ≤ 1 then decide (x.n = 1) else decide (4 ≤ x.n ∧ x.n ≤ 22))
    && decide (layoutWidth x.kind x.n ≤ x.modules.length) && x.spare.elim true fun q => decide (q < 24 ∧ q ∉ x.modules)

/-- A port belongs to no pool, to no substitution and is no pool's spare, but for pool `but` of either paddock. -/
def State.portFree (s : State) (but port : Nat) : Bool :=
  s.media.pools.all fun p => decide (p.1 % 16 = but) || (decide (port ∉ p.2.allModules ∧ p.2.spare ≠ some port)
    && !(p.2.subst.any fun x => decide (x.2 = port)))

/-- The link of a port is ACTIVE. -/
def State.portActive (s : State) (port : Nat) : Bool := decide (s.lstate port = lsActive)

/-- A journal band copy of a new band is placed: its block groups are erased and become band block groups (R341). -/
def State.bandPlace (s : State) (pool : Nat) (b : BandCopy) : State :=
  match s.pool pool with
  | none => s
  | some p =>
    if 3 ≤ p.band.length ∨ s.bandOk pool p b = false then s
    else
      let s1 := s.setPool pool fun p => { p with band := p.band ++ [{ b with onB := false, page := 0, otherUsed := false, last := 0, otherLast := 0 }] }
      [b.groupA, b.groupB].foldl (fun s g =>
        (s.setBg b.module b.die g fun x => { x with st := .band, slc := true, bin := 0 }).sendMod (s.portOf pool b.module)
          { ModCmd.erase b.die g (.eraseOther pool) with slc := true }) s1

/-- A pool as POOL_CREATE defines it. -/
def PoolArgs.make (x : PoolArgs) : Pool :=
  { layout := x.kind, n := x.n, modules := x.modules, spare := x.spare, failed := [], subst := [], cap := 0, charge := 0,
    nextTseq := 1, nextPage := 1, freePages := [], nextSeq := 1, band := [], bandNew := none, bandSeq := 0, ckptTseq := 0,
    ckpt := .idle, volTable := 0, segTable := 0, pageTable := 0,
    reshape := none, phase := .none, switchSeq := 0, credit := 0, holdoffOver := false, started := [], losses := [],
    dieRetired := false, exhaustNext := false, readOnlyNext := false, resumeNext := false }

/-- Every block group of a hot spare in this head's paddock is erased (R359). -/
def State.spareErase (s : State) (pool q : Nat) : State :=
  let n := (s.ident q).elim 0 fun i => i.blocks / 4
  (s.paddockDies q).foldl (fun s d => (List.range n).foldl (fun s b => s.sendMod q (ModCmd.erase d (4 * b) (.eraseOther pool))) s) s

/-- The pool is defined, its journal band placed, and its spare erased (R341, R359). -/
def State.poolMake (s : State) (x : PoolArgs) (bands : List BandCopy) : State :=
  let s1 := { s with media := { s.media with pools := s.media.pools.put x.pool x.make } }
  let s2 := x.modules.foldl (fun s m => s.spareInit m m) s1
  let s3 := bands.foldl (fun s b => s.bandPlace x.pool b) s2
  let s4 := match x.spare with | none => s3 | some q => s3.spareErase x.pool q
  (((s4.recap x.pool).putBit (R.FTL_POOL_STATE x.pool) 8 true).spillRecompute).actEnd actPoolConfig x.pool fun a =>
    decide (a.op = 1)

/-- POOL_CREATE (R359): `bands` is where the journal band's copies are placed on their modules; `differs` tells whether the
partner holds a different definition of the pool. -/
def execPoolCreate (bands : List BandCopy) (differs : Bool) (s : State) : Out :=
  s.spCommand fun s =>
    let x := poolArgs s.spArgs
    let ports := x.modules ++ x.spare.toList
    if 16 ≤ x.pool ∨ (s.pool x.pool).isSome ∨ x.shapeOk = false ∨ differs
        ∨ ports.any (fun m => !(s.portActive m && s.portFree 16 m)) then s.spAnswer St.invalidField false
    else s.spStart { Activity.of actPoolConfig x.pool with op := 1, args := s.spArgs } (·.poolMake x bands)

/-- Every block group of a pool is erased, and the pool is gone (R359). -/
def State.poolDrop (s : State) (pool : Nat) : State :=
  match s.pool pool with
  | none => s
  | some p =>
    let segs := s.media.segs.filter fun g => decide (g.2.pool = pool)
    let places := segs.flatMap fun g => g.2.place
    let s1 := places.foldl (fun s x => s.sendMod (s.portOf pool x.module) (ModCmd.erase x.die x.bgrp (.eraseOther pool))) s
    let s2 := p.targets.foldl (fun s b => [b.groupA, b.groupB].foldl (fun s g =>
      (s.setBg b.module b.die g fun x => { x with st := .good, slc := false }).sendMod (s.portOf pool b.module)
        { ModCmd.erase b.die g (.eraseOther pool) with slc := true }) s) s1
    let s3 := places.foldl State.purge s2
    let s4 := { s3 with media := { s3.media with
      pools := s3.media.pools.drop pool, segs := s3.media.segs.keep fun _ g => decide (g.pool ≠ pool),
      stripes := s3.media.stripes.keep fun _ x => decide (x.pool ≠ pool),
      txns := s3.media.txns.keep fun _ t => decide (t.pool ≠ pool),
      pages := s3.media.pages.keep fun k _ => decide (k / 2 ^ 40 ≠ pool), reclaim := s3.media.reclaim.drop pool,
      strLog := s3.media.strLog.filter fun r => decide (r.pool ≠ pool) } }
    ((s4.wrN (R.FTL_POOL_STATE pool) 0).wrN (R.SP_STATE pool) 0).spillRecompute

/-- POOL_DELETE takes effect, on both paddocks where this head holds both. -/
def State.poolDelete (s : State) (pool : Nat) : State :=
  ((s.poolDrop pool).poolDrop (pool + 16)).actEnd actPoolConfig pool fun a => decide (a.op = 2)

/-- POOL_DELETE (R359): accepted while no volume is in the pool. -/
def execPoolDelete (differs : Bool) (s : State) : Out :=
  s.spCommand fun s =>
    let pool := argField s.spArgs 0 1
    if 16 ≤ pool ∨ (s.pool pool).isNone ∨ s.media.vols.any (fun v => decide (v.2.pool % 16 = pool)) ∨ differs then
      s.spAnswer St.invalidField false
    else s.spStart { Activity.of actPoolConfig pool with op := 2, args := s.spArgs } (·.poolDelete pool)

/-! ### Reshape (R356, R357) -/

/-- RESHAPE_PHASE codes of SP_STATE (R358). -/
def ReshapePhase.code : ReshapePhase → Nat
  | .none => 0 | .prepare => 1 | .migrate => 2 | .finish => 3

/-- The phase of a pool's reshape takes a value. -/
def State.setPhase (s : State) (pool : Nat) (ph : ReshapePhase) : State :=
  (s.setPool pool fun p => { p with phase := ph }).putFld (R.SP_STATE pool) 2 2 ph.code

/-- A reshape is accepted: PREPARE (R356). -/
def State.reshapeRun (s : State) (x : PoolArgs) : State :=
  (s.setPool x.pool fun p => { p with reshape := some (x.kind, x.n, x.modules, x.spare) }).setPhase x.pool .prepare

/-- LIVE of a pool with 2% more exceeds the data capacity of a layout less RESERVE (R291, R356). -/
def State.reshapeTight (s : State) (p : Pool) (x : PoolArgs) : Bool :=
  let cap := s.capOf x.pool { p with layout := x.kind, n := x.n, modules := x.modules } x.kind x.n
  decide ((cap - cap / 200) * 100 < 102 * s.poolLive x.pool)

/-- RESHAPE (R356, R357, R359). -/
def execReshape (differs : Bool) (s : State) : Out :=
  s.spCommand fun s =>
    let x := poolArgs s.spArgs
    match s.pool x.pool with
    | none => s.spAnswer St.invalidField false
    | some p =>
      if p.phase ≠ .none ∨ s.redund x.pool ≠ rdNormal ∨ x.shapeOk = false ∨ differs
          ∨ (x.modules ++ x.spare.toList).any (fun m => !s.portFree x.pool m) then s.spAnswer St.invalidField false
      else if s.reshapeTight p x then s.spAnswer St.quota false
      else s.spStart { Activity.of actReshape x.pool with op := 3, args := s.spArgs } (·.reshapeRun x)

/-- The reshape of a pool may work: RESHAPING, not paused, admitted by the matrix (R356, R357). -/
def State.reshapeMay (s : State) (pool : Nat) : State × Bool :=
  if s.redund pool ≠ rdReshaping ∨ s.bit (R.SP_STATE pool) 5 ∨ s.mutedModules ∨ s.spilling then (s, false)
  else s.standing actReshape pool

/-- Segments of the old layout (R356). -/
def State.oldSegs (s : State) (pool : Nat) (p : Pool) : Amap Seg :=
  s.media.segs.filter fun g => decide (g.2.pool = pool ∧ g.2.seq < p.switchSeq)

/-- RESHAPE_MIGRATE_STEP (R356): grains of the old-layout segment of lowest SEG_SEQ are relocated, at SP_RESHAPE_RATE grains
per stride. -/
def execReshapeMigrateStep (pool : Nat) (lost : List Nat) (places : List (List Place)) (s : State) : Out :=
  match s.pool pool with
  | none => .next s
  | some p =>
    let c := (s.oldSegs pool p).filter fun g => decide (g.2.state = .closed ∨ g.2.state = .selected) && !g.2.rebuild
    match s.reshapeMay pool, bestSeg (fun _ => 0) c with
    | (s1, true), some (i, g) =>
      if p.phase ≠ .migrate then .next s
      else
        let s2 := if g.state = .closed then s1.setSeg i fun g => { g with state := .selected, swept := false } else s1
        let r := s2.reclaimOf pool
        .next ((s2.setReclaim pool { r with seg := i }).copyGrains pool (s.fld R.SP_RESHAPE_RATE 0 11 - r.used) g lost places)
    | _, _ => .next s

/-- SWITCH (R356): SWITCH_SEQ is the next SEG_SEQ, and new segments take the new layout. The open segments are closed
(DEDUCED, assumption log 36). -/
def State.reshapeSwitch (s : State) (pool : Nat) (p : Pool) : State :=
  match p.reshape with
  | none => s
  | some (k, n, ms, sp) =>
    let open_ := (s.media.segs.filter fun g => decide (g.2.pool = pool)).map Prod.fst
    let s1 := open_.foldl State.closeSegment s
    let s2 := s1.setPool pool fun q =>
      { q with switchSeq := q.nextSeq, layout := k, n := n, modules := ms, spare := sp,
               reshape := some (p.layout, p.n, p.modules, p.spare) }
    ((s2.setPhase pool .migrate).recap pool).spillRecompute

/-- A band copy on a module that leaves is moved: it leaves service, its block groups are erased, and a new one is placed (R344,
R356). -/
def State.bandMove (s : State) (pool : Nat) (b : BandCopy) (bands : List BandCopy) : State :=
  let s1 := [b.groupA, b.groupB].foldl (fun s g =>
    (s.setBg b.module b.die g fun x => { x with st := .good, slc := false }).sendMod (s.portOf pool b.module)
      { ModCmd.erase b.die g (.eraseOther pool) with slc := true }) (s.bandDrop pool b.module)
  bands.foldl (fun s b => s.bandStart pool b) s1

/-- FINISH (R339, R356): the band copies on the modules that left are moved, one at a time, each once the band is whole again; then the modules
are released, and RESHAPING ends. -/
def State.reshapeFinish (s : State) (pool : Nat) (p : Pool) (bands : List BandCopy) : State :=
  match p.band.find? fun b => decide (b.module ∉ p.modules) with
  | some b => if p.bandsWhole then s.bandMove pool b bands else s
  | none =>
    let s1 := (s.setPool pool fun q => { q with reshape := none, switchSeq := 0 }).setPhase pool .none
    ((s1.setRedund pool rdNormal).event 141 0).actEnd actReshape pool fun _ => true

/-- RESHAPE_PHASE_END (R356): the phase under way ends where what it waits for has come. `bands` places band copies anew. -/
def execReshapePhaseEnd (pool : Nat) (bands : List BandCopy) (s : State) : Out :=
  match s.pool pool with
  | none => .next s
  | some p =>
    match s.reshapeMay pool with
    | (_, false) => .next s
    | (s1, true) =>
      match p.phase with
      | .none => .next s
      | .prepare =>
        let added := (p.reshape.elim [] fun r => r.2.2.1).filter fun m => decide (m ∉ p.modules)
        if added.all s.portActive then
          .next ((added.foldl (fun s m => s.spareInit m m) s1).reshapeSwitch pool p)
        else .next s
      | .migrate =>
        if s.oldSegs pool p = [] then
          let s2 := (s1.setPhase pool .finish).event 141 4
          .next (if (p.reshape.elim [] fun r => r.2.2.1).all (· ∈ p.modules) then s2.reshapeFinish pool p [] else s2)
        else .next s
      | .finish => .next (s1.reshapeFinish pool p bands)

/-! ### Spares, readmission, rebuild, losses (R345, R346, R352, R354, R359) -/

/-- A failed module without a substitute, the lowest number. -/
def Pool.waitsSubst (p : Pool) : Option Nat := (p.failed.map Prod.fst).find? fun m => !p.subst.has m

/-- A hot spare takes over a failed module where it covers it (R346, R347). -/
def State.spareAssign (s : State) (pool : Nat) : State :=
  match s.pool pool with
  | none => s
  | some p =>
    match p.spare, p.waitsSubst with
    | some q, some m =>
      if s.linkUp q ∧ p.subst.length < 4 ∧ identCovers (s.ident q) (s.ident m) ∧ m ∉ p.started then
        (s.substitute pool m q).putBit (R.SP_STATE pool) 4 false
      else s
    | _, _ => s

/-- The hot spare of a pool, for both paddocks where this head holds both. -/
def State.spareBoth (s : State) (pool : Nat) (q : Option Nat) : State :=
  (s.setPool pool fun p => { p with spare := q }).setPool (pool + 16) fun p => { p with spare := q }

/-- SPARE_SET (R359): sets or clears the hot spare of the selected pool. -/
def execSpareSet (s : State) : Out :=
  s.spCommand fun s =>
    let a := s.spArgs
    let pool := s.spSel
    let q := argField a 8 1
    if (s.pool pool).isNone then s.spAnswer St.invalidField false
    else if argField a 3 1 % 2 = 0 then (s.spareBoth pool none).spAnswer St.success false
    else if 24 ≤ q ∨ s.portActive q = false ∨ s.portFree 16 q = false then s.spAnswer St.invalidField false
    else (((s.spareBoth pool (some q)).spareAssign pool).spareAssign (pool + 16)).spAnswer St.success false

/-- The failure of a module is cleared: its segments leave the rebuild set where no other member has failed, and the ERASEs
held back for it are sent (R352). -/
def State.readmit (s : State) (pool m : Nat) : State :=
  if (s.pool pool).isNone then s
  else
    let s1 := s.setPool pool fun p => { p with failed := p.failed.drop m, subst := p.subst.drop m }
    let left := (s1.pool pool).elim [] Pool.failed
    let s2 := (s1.segsOn fun x => decide (x.module = m)).foldl (fun s i => s.setSeg i fun g =>
      if g.pool = pool ∧ !(g.place.any fun x => Amap.has left x.module) then { g with rebuild := false } else g) s1
    s2.pump m

/-- READMIT (R352, R359): the module is ACTIVE again, its SERIAL is the one of before, and no segment of it has started a
rebuild. -/
def execReadmit (s : State) : Out :=
  s.spCommand fun s =>
    let m := argField s.spArgs 0 1
    let pool := s.spSel
    match s.pool pool with
    | none => s.spAnswer St.invalidField false
    | some p =>
      let l := s.mlink m
      if p.failed.has m = false ∨ s.portActive m = false ∨ m ∈ p.started ∨ l.refused
          ∨ l.ident.map Ident.serial ≠ l.oldSerial then s.spAnswer St.invalidField false
      else ((s.readmit pool m).readmit (pool + 16) m).spAnswer St.success false

/-- REBUILD_NOW (R345, R359): a holdoff that runs ends. -/
def execRebuildNow (s : State) : Out :=
  s.spCommand fun s =>
    match s.pool s.spSel with
    | none => s.spAnswer St.invalidField false
    | some p =>
      if p.failed = [] ∨ p.holdoffOver ∨ s.fld R.SP_REB_HOLDOFF 0 12 = 0 then s.spAnswer St.invalidField false
      else (s.setPool s.spSel fun p => { p with holdoffOver := true }).spAnswer St.success false

/-- LOSS_CLEAR (R354, R359): CLEARED entries are removed. -/
def execLossClear (s : State) : Out :=
  s.spCommand fun s =>
    match s.pool s.spSel with
    | none => s.spAnswer St.invalidField false
    | some _ => (s.setPool s.spSel fun p => { p with losses := p.losses.filter fun x => !x.cleared }).spAnswer St.success false

/-- Step of the commit point: REDUND moves with what commands changed (R339), and a reshape whose new set has lost a module
that no substitute can take is BLOCKED (R357). -/
def State.redundScan (s : State) : State :=
  s.media.pools.foldl (fun s x =>
    let pool := x.1
    let p := x.2
    let s1 := if s.redund pool = rdDegraded ∧ p.failed = [] then s.setRedund pool rdNormal else s
    let s2 := if s1.redund pool = rdNormal ∧ p.phase ≠ .none then
        ((s1.setRedund pool rdReshaping).putBit (R.SP_STATE pool) 5 false).putBit R.SP_CMD_STATUS 17 false else s1
    let set := if p.phase = .prepare then (p.reshape.elim [] fun r => r.2.2.1) else p.modules
    if p.phase ≠ .none ∧ (p.waitsSubst.any fun m => decide (m ∈ set)) ∧ p.spare = none then s2.rebuildBlocked pool else s2) s

/-- A queued SP activity starts (R467): its QUEUED clears. `bands` places the journal band of a new pool. -/
def State.spActRun (s : State) (a : Activity) (bands : List BandCopy) : State :=
  let s1 := (s.putBit R.SP_CMD_STATUS 17 false).event 141 0
  match a.op with
  | 1 => s1.poolMake (poolArgs a.args) bands
  | 2 => s1.poolDelete (argField a.args 0 1)
  | _ => s1.reshapeRun (poolArgs a.args)

end Sys2Proof.Machine
end

