-- ==== Sys2Proof/Machine/Rma.lean ====
section
/-! DEFINITION. Commands of the RMA page, the QP1 rings, Ethernet ports and fabrics associations (R110 to R113, R124, R127 to R131,
R133, R183). -/

namespace Sys2Proof.Machine

/-! ### RMA_CMD (R129, R130) -/

/-- The field of `n` bytes at byte `o` of the argument block. -/
def State.rmaArg (s : State) (o n : Nat) : Nat :=
  ((List.range n).map fun i => s.fld (R.RMA_ARG ((o + i) / 4)) (8 * ((o + i) % 4)) 8 * 256 ^ i).sum

/-- A write of RMA_CMD while BUSY = 1 is discarded and captures CMD_WHILE_BUSY at L0 (R129). -/
def State.rmaCommand (s : State) (f : State → State) : Out :=
  .next (if s.bit R.RMA_CMD_STATUS 16 then s.raise 21 0x0100 0 0 else f s)

/-- An RMA command is done: STATUS and CMD_DONE, BUSY until the next commit point (assumption log 31). -/
def State.rmaDone (s : State) (status : Nat) : State := (s.wrN R.RMA_CMD_STATUS (status + 2 ^ 16)).event 21 0

/-- A command waits under R124 or R128: BUSY stays until it is done. -/
def State.rmaWait (s : State) (op obj : Nat) : State :=
  { s.wrN R.RMA_CMD_STATUS (2 ^ 16) with front := { s.front with rmaBusy := some (op, obj) } }

/-- The command that waited is done. -/
def State.rmaEnd (s : State) : State :=
  ({ s with front := { s.front with rmaBusy := none } }.wrN R.RMA_CMD_STATUS St.success).event 21 0

/-- Pinned contexts (R119). -/
def State.ctxPinned (s : State) : Nat := s.front.qps.count fun _ x => x.pin

/-- A logical port exists: an odd one in split mode only (R110). -/
def State.lportExists (s : State) (lport : Nat) : Bool :=
  decide (lport ≤ 15) && (decide (lport % 2 = 0) || s.bit (R.ETH_MODE (lport / 2)) 0)

/-- A link of a logical port is up (R114). -/
def State.lportUp (s : State) (lport : Nat) : Bool := s.bit (R.ETH_STATUS (lport / 2)) (lport % 2)

/-- The state that STATE of the argument block names. -/
def qpStateOf : Nat → QpState
  | 0 => .reset | 1 => .init | 2 => .rtr | 3 => .rts | _ => .error

/-- The argument block is in range: what QP_CREATE takes (R130, R384). -/
def State.qpArgsOk (s : State) : Bool :=
  decide (s.rmaArg 0 4 = 0) && s.lportExists (s.rmaArg 4 1) && decide (s.rmaArg 6 1 ≤ 4 ∧ s.rmaArg 7 1 < 8 ∧ s.rmaArg 8 1 ≤ 4
    ∧ s.rmaArg 9 1 ≤ 2 ∧ s.rmaArg 10 1 ≤ 7 ∧ s.rmaArg 11 1 < 32 ∧ s.rmaArg 12 4 < psnMod ∧ s.rmaArg 16 4 < psnMod
    ∧ s.rmaArg 20 4 < psnMod ∧ s.rmaArg 24 1 < 64 ∧ s.rmaArg 25 1 < 32 ∧ s.rmaArg 26 6 = 0 ∧ s.rmaArg 60 4 = 0)
    && decide (s.rmaArg 7 1 / 4 % 2 = 0 ∨ s.rmaArg 6 1 = 1)

/-- The queue pair that the argument block describes (R130). -/
def State.qpOfArgs (s : State) : Qp :=
  let retry := s.rmaArg 24 1 % 8
  let rnr := s.rmaArg 24 1 / 8 % 8
  { lport := s.rmaArg 4 1, tenant := s.rmaArg 5 1, kind := s.rmaArg 6 1, pin := decide (s.rmaArg 7 1 % 2 = 1),
    sprayed := decide (s.rmaArg 7 1 / 2 % 2 = 1), tandemCpl := decide (s.rmaArg 7 1 / 4 % 2 = 1),
    state := qpStateOf (s.rmaArg 8 1), mtu := s.rmaArg 9 1, gidIndex := s.rmaArg 10 1, rnrTimer := s.rmaArg 11 1,
    destQpn := s.rmaArg 12 4, sqPsn := s.rmaArg 16 4, unacked := s.rmaArg 16 4,
    hcp := (s.rmaArg 20 4 + psnMod - 1) % psnMod, done := 0, msn := 0, retry := retry, retryLeft := retry, rnrRetry := rnr,
    rnrLeft := rnr, ackTimeout := s.rmaArg 25 1, destGid := s.rmaArg 32 16, destMac := s.rmaArg 48 6, vlan := s.rmaArg 54 2,
    stream := s.rmaArg 56 4, cached := false, dirty := false, writeback := false, fetchAt := none, used := 0, parked := [],
    nakAt := none, rateSteps := 0, cnpAt := none, sendq := [], reads := [], readsIn := 0, ackDue := [], destroying := false }

/-- QP_CREATE (R118, R119, R129, R130): a queue pair on context `qpn`, which the chip chose among the free ones. A pinned context is
brought into the cache. -/
def execQpCreate (qpn : Nat) (s : State) : Out :=
  s.rmaCommand fun s =>
    let q := s.qpOfArgs
    if s.qpArgsOk = false then s.rmaDone St.invalidField
    else if s.pageState (ethPage q.lport) = .off then s.rmaDone St.busyRetry
    else if s.rdN R.CTX_FREE_NET = 0 ∨ (q.pin ∧ s.fld R.CTX_PIN_MAX 0 14 ≤ s.ctxPinned) then s.rmaDone St.quota
    else if qpn < 2 ∨ 2097152 ≤ qpn ∨ s.front.qps.has qpn then s
    else
      let s1 := { s with front := { s.front with qps := s.front.qps.put qpn q } }
      let s2 := (s1.wrN R.CTX_FREE_NET (s1.rdN R.CTX_FREE_NET - 1)).wrN R.RMA_RESULT qpn
      (if q.pin then s2.ctxInstall qpn else s2).rmaDone St.success

/-- A queue pair that QP_MODIFY, QP_DESTROY or a packet may name. -/
def State.liveQp (s : State) (q : Nat) : Option Qp := (s.qp q).bind fun x => if x.destroying then none else some x

/-- What QP_MODIFY changes: STATE, PSNs, timers and retry counts (R130). -/
def Qp.modified (q n : Qp) : Qp :=
  { q with state := n.state, sqPsn := n.sqPsn, unacked := n.sqPsn, hcp := n.hcp, done := 0, rnrTimer := n.rnrTimer, retry := n.retry,
           retryLeft := n.retry, rnrRetry := n.rnrRetry, rnrLeft := n.rnrRetry, ackTimeout := n.ackTimeout, nakAt := none,
           sendq := [], reads := [], ackDue := [], dirty := q.cached }

/-- QP_MODIFY (R124, R129, R130): a move to Error discards parked packets. -/
def execQpModify (s : State) : Out :=
  s.rmaCommand fun s =>
    let n := s.qpOfArgs
    let k := s.rmaArg 0 4
    if (s.liveQp k).isNone ∨ 4 < s.rmaArg 8 1 ∨ 32 ≤ s.rmaArg 11 1 ∨ psnMod ≤ s.rmaArg 16 4 ∨ psnMod ≤ s.rmaArg 20 4
        ∨ 64 ≤ s.rmaArg 24 1 ∨ 32 ≤ s.rmaArg 25 1 then s.rmaDone St.invalidField
    else
      let s1 := s.setQp k fun x => x.modified n
      (if n.state = .error then s1.qpError k else s1).rmaDone St.success

/-- A queue pair is gone, and its context free (R118). -/
def State.qpGone (s : State) (q : Nat) : State :=
  ({ s with front := { s.front with qps := s.front.qps.drop q, seals := s.front.seals.filter fun x => decide (x.qpn ≠ q) } }).wrN
    R.CTX_FREE_NET (min (s.rdN R.CTX_FREE_NET + 1) 1834757)

/-- QP_DESTROY (R124): parked packets are discarded and counted; with some, the command completes after they have left the miss
buffer. -/
def execQpDestroy (s : State) : Out :=
  s.rmaCommand fun s =>
    let k := s.rmaArg 0 4
    match s.liveQp k with
    | none => s.rmaDone St.invalidField
    | some q =>
      if q.parked = [] then (s.qpGone k).rmaDone St.success
      else
        ((s.setQp k fun x => { x with destroying := true, parked := [] }).countBy R.CTX_NAK_DISCARD q.parked.length).missLeaveAll
          q.parked |>.rmaWait 3 k

/-- QP_DESTROY_DONE (R124): the discarded packets have left the miss buffer. -/
def execQpDestroyDone (s : State) : Out :=
  match s.front.rmaBusy with
  | some (3, k) => .next (s.qpGone k).rmaEnd
  | _ => .next s

/-! ### Memory regions (R127, R128, R130) -/

/-- Regions that a tenant has. -/
def State.regionsOf (s : State) (tenant : Nat) : Nat := s.front.mrs.count fun _ m => decide (m.tenant = tenant) && m.registered

/-- MR_REG (R127, R128): a free index, which the chip chose, starts at the key byte left by its last deregistration plus 1, and one that
was never registered at 0 (the spec gives it no value: DESIGN CHOICE, assumption log 80); its range is pinned. -/
def execMrReg (index : Nat) (s : State) : Out :=
  s.rmaCommand fun s =>
    let base := s.rmaArg 0 8
    let len := s.rmaArg 8 8
    let tenant := s.rmaArg 16 1
    let rights := s.rmaArg 17 1
    if base % 4096 ≠ 0 ∨ len % 4096 ≠ 0 ∨ len < 4096 ∨ 2 ^ 36 < len ∨ rights = 0 ∨ 4 ≤ rights then s.rmaDone St.invalidField
    else if Config.regionAllowance tenant ≤ s.regionsOf tenant ∨ 65535 ≤ s.front.mrs.count fun _ m => m.registered || m.pinned then
      s.rmaDone St.quota
    else if index < 1 ∨ 65535 < index ∨ (s.mr index).elim false fun m => m.registered || m.pinned then s
    else
      let key := ((s.mr index).elim 0 fun m => m.key + 1) % 256
      ((s.setMr index { registered := true, key := key, base := base, len := len, tenant := tenant,
                        readOk := decide (rights % 2 = 1), writeOk := decide (2 ≤ rights), pinned := true, rotate := 0 }).wrN
        R.RMA_RESULT (index * 256 + key)).rmaDone St.success

/-- The registered region that KEY of the argument block names. -/
def State.mrArg (s : State) : Option (Nat × Mr) :=
  let k := s.rmaArg 0 4
  (s.mr (k / 256)).bind fun m => if m.registered ∧ m.key = k % 256 then some (k / 256, m) else none

/-- MR_INVAL (R128): the key byte changes at the next commit point; the command completes once every packet that matched the old key
has been placed. -/
def execMrInval (s : State) : Out :=
  s.rmaCommand fun s =>
    match s.mrArg with
    | none => s.rmaDone St.invalidField
    | some (i, _) => (s.rotateKey i).rmaWait 5 i

/-- MR_DEREG (R128): the region takes no more requests; once every packet that matched its key has been placed it is unpinned. -/
def execMrDereg (s : State) : Out :=
  s.rmaCommand fun s =>
    match s.mrArg with
    | none => s.rmaDone St.invalidField
    | some (i, m) => (s.setMr i { m with registered := false }).rmaWait 6 i

/-- MR_PLACEMENT_DRAINED (R128): every packet that matched the old key has been placed; an MR_INVAL waits for its commit point too. -/
def execMrPlacementDrained (s : State) : Out :=
  match s.front.rmaBusy with
  | some (5, i) => .next (if (s.mr i).elim true fun m => decide (m.rotate = 0) then s.rmaEnd else s)
  | some (6, i) =>
    .next (match s.mr i with
      | none => s.rmaEnd
      | some m => (s.setMr i { m with pinned := false }).rmaEnd)
  | _ => .next s

/-! ### The QP1 rings (R131, R183) -/

/-- The address filter's key for a datagram (R174). -/
def Datagram.filterKey (d : Datagram) : Nat :=
  d.dstGid % 2 ^ 128 + d.srcGid % 2 ^ 128 * 2 ^ 128 + (d.vlan.getD 0) % 4096 * 2 ^ 256 + d.lport % 16 * 2 ^ 268

/-- The port of a datagram is filtered (R183). -/
def State.filtered (s : State) (d : Datagram) : Bool := s.bit (R.FLT_CTRL 2) (d.lport % 16)

/-- The filter passes a datagram: on a filtered port only if the winner of CAM2 has ALLOW = 1 (R183). `bad` names units that the search
finds with bad parity (R173). -/
def State.filterPasses (s : State) (d : Datagram) (bad : List Nat) : State × Bool :=
  if s.filtered d = false then (s, true)
  else
    let mask := s.camMask 1 (s.fld (R.FLT_MASK 2) (2 * (d.lport % 16)) 2)
    let (s1, hits) := s.camFound 1 mask d.filterKey false bad
    (s1.countSearch 1 1 hits.length, hits.head?.elim false fun e => decide (e.2.result % 2 = 1))

/-- The bytes of a receive entry (R131). -/
def State.gsiEntry (s : State) (d : Datagram) : List Byte :=
  leBytes 2 d.payload.length ++ leBytes 1 d.lport ++ leBytes 1 (s.front.gsiPhase.toNat + 2 * d.vlan.isSome.toNat)
    ++ leBytes 4 (d.srcQpn % 2 ^ 24) ++ leBytes 4 d.qKey ++ leBytes 2 d.pKey ++ leBytes 2 ((d.vlan.getD 0) % 32768)
    ++ beBytes 16 d.srcGid ++ beBytes 16 d.dstGid ++ beBytes 6 d.srcMac ++ leBytes 2 0 ++ leBytes 8 s.now.toNat ++ d.payload

/-- QP1_DATAGRAM_RX (R131, R183): a datagram whose ICRC is good is filtered and written to the receive ring; with the ring full or a
payload above 4,032 bytes it is dropped, counted and posted as GSI_OVERRUN. -/
def execQp1DatagramRx (d : Datagram) (bad : List Nat) (s : State) : Out :=
  if s.portTakes d.lport = false ∨ (s.filtered d ∧ s.camHeld 1) then .next s
  else
    let (s0, pass) := s.filterPasses d bad
    if pass = false then .next (s0.count (R.FLT_DROPS 2))
    else
      let prod := s0.fld R.GSI_PROD 0 8
      let next := (prod + 1) % 256
      if next = s0.fld R.GSI_CONS 0 8 ∨ 4032 < d.payload.length then .next ((s0.count R.GSI_RX_DROP).evPost 0x0401 d.lport 0)
      else
        let s1 := (s0.emit (.hostData ((s0.rd64 R.GSI_BASE).toNat + 4096 * prod) (s0.gsiEntry d))).wrN R.GSI_PROD next
        .next (State.event { s1 with front := { s1.front with gsiPhase := if next = 0 then !s1.front.gsiPhase else s1.front.gsiPhase } } 21 3)

/-- GSI_TX_PROD_WRITE (R131): software offers the transmit entries before the new value. -/
def execGsiTxProdWrite (v : Nat) (s : State) : Out := .next (s.pageWrite 21 fun s => s.wrN R.GSI_TX_PROD (v % 256))

/-- A GID of a logical port is set: any of its words differs from 0 (R114). -/
def State.gidSet (s : State) (lport g : Nat) : Bool :=
  (List.range 4).any fun i => decide (s.rdN (R.ETH_GID (lport / 2) (4 * (8 * (lport % 2) + g) + i)) ≠ 0)

/-- A transmit entry may be sent (R131). -/
def State.txOk (s : State) (e : TxEntry) : Bool :=
  decide (1 ≤ e.len ∧ e.len ≤ 4032 ∧ e.lport ≤ 15 ∧ e.gidIndex ≤ 7) && s.lportUp e.lport && s.portTakes e.lport && s.gidSet e.lport e.gidIndex

/-- GSI_TX_CONS advances past the entries at the front that have left their port or were skipped; GSI_TX_DONE is set when it reaches
GSI_TX_PROD (R131). -/
def State.txAdvance (s : State) : State :=
  let k := (s.front.gsiSent.takeWhile Prod.snd).length
  if k = 0 then s
  else
    let cons := (s.fld R.GSI_TX_CONS 0 8 + k) % 256
    let s1 := { s with front := { s.front with gsiSent := s.front.gsiSent.drop k } }.wrN R.GSI_TX_CONS cons
    if cons = s1.fld R.GSI_TX_PROD 0 8 then s1.event 21 4 else s1

/-- GSI_TX_SEND (R131): the next entry of the ring, as host memory holds it, is sent, or skipped and counted in GSI_TX_BAD. -/
def execGsiTxSend (e : TxEntry) (s : State) : Out :=
  let i := (s.fld R.GSI_TX_CONS 0 8 + s.front.gsiSent.length) % 256
  if i = s.fld R.GSI_TX_PROD 0 8 then .next s
  else
    let ok := s.txOk e
    let s1 := { s with front := { s.front with gsiSent := s.front.gsiSent ++ [(i, !ok)] } }
    .next (if ok then s1.emit (.gsiSend e.lport e) else (s1.count R.GSI_TX_BAD).txAdvance)

/-- GSI_TX_PACKET_LEFT (R131): the packet of ring entry `i` has left its port. -/
def execGsiTxPacketLeft (i : Nat) (s : State) : Out :=
  .next (State.txAdvance { s with front := { s.front with
    gsiSent := s.front.gsiSent.map fun x => if x.1 = i then (i, true) else x } })

/-! ### Ethernet ports (R111 to R113) -/

/-- ETH_MODE_WRITE (R111): accepted only while the page is OFF; queue pairs left on a logical port that is gone are noted. -/
def execEthModeWrite (n : Nat) (v : Word) (s : State) : Out :=
  let k := n % 8
  .next (s.pageWrite (13 + k) fun s =>
    if s.pageState (13 + k) ≠ .off then s.writeDiscarded (13 + k)
    else
      let s1 := s.putFld (R.ETH_MODE k) 0 2 (Machine.fld v 0 2)
      let stray := Machine.bit v 0 = false ∧ s.front.qps.any fun q => decide (q.2.lport = 2 * k + 1)
      { s1 with front := { s1.front with modeStray :=
        if stray then k :: s1.front.modeStray else s1.front.modeStray.filter fun x => decide (x ≠ k) } })

/-- A link change is told at the next commit point (R113). -/
def State.linkTold (s : State) (lport : Nat) (up : Bool) : State :=
  { s.putBit (R.ETH_STATUS (lport / 2)) (lport % 2) up with front := { s.front with portDue := s.front.portDue ++ [(lport, up)] } }

/-- Records that a dropped member carried are carried by another from now on (R136). -/
def State.recsMoved (s : State) (port : Nat) (dst : Option (Nat × Nat)) : State :=
  { s with tandem := { s.tandem with groups := s.tandem.groups.mapVals fun _ g => { g with recs := g.recs.map fun r =>
    if r.issued && !r.onWire && (r.member.elim false fun m => decide (m.1 = port)) then { r with member := dst } else r } } }

/-- A member of a sprayed stream is dropped; its unacknowledged writes are issued again on a surviving member, and where none survives
on the control queue pair (DESIGN CHOICE, assumption log 58) (R136). -/
def State.memberDrop (s : State) (q : Nat) : State :=
  match s.qp q with
  | none => s
  | some x =>
    let k := psnBack x.sqPsn x.unacked
    let s1 := s.setQp q fun x => { x with unacked := x.sqPsn, stream := 0, sendq := [], reads := [] }
    let next := (s1.members x.stream).head?
    let m := next.elim x.stream Prod.fst
    if k = 0 then s1
    else
      let first := (s1.qp m).elim 0 Qp.sqPsn
      let s2 := s1.setQp m fun y => { y with sqPsn := (y.sqPsn + k) % psnMod, dirty := y.cached }
      (s2.emit (.resend m first ((first + k) % psnMod))).recsMoved (x.lport / 2)
        (next.map fun y => (y.2.lport / 2, (first + k + psnMod - 1) % psnMod))

/-- ETH_LINK_DOWN (R113, R136): PCS alignment has been lost for 25 strides. -/
def execEthLinkDown (lport : Nat) (s : State) : Out :=
  let p := lport % 16
  if s.lportUp p = false then .next s
  else
    let s1 := s.linkTold p false
    let ms := (s1.front.qps.filter fun q => decide (q.2.kind = 3 ∧ q.2.lport = p)).map Prod.fst
    .next (ms.foldl State.memberDrop s1)

/-- ETH_LINK_UP (R113): 250 strides of alignment. -/
def execEthLinkUp (lport : Nat) (s : State) : Out :=
  let p := lport % 16
  if s.lportUp p ∨ s.lportExists p = false ∨ s.portTakes p = false then .next s else .next (s.linkTold p true)

/-- Step of the commit point: link changes set LINK_UP or LINK_DOWN and are posted (R113, R140). -/
def State.portTell (s : State) : State :=
  s.front.portDue.foldl (fun s x =>
    (s.event (ethPage x.1) (if x.2 then 0 else 1)).evPost (if x.2 then 0x0001 else 0x0002) x.1 0)
    { s with front := { s.front with portDue := [] } }

/-- FEC_DEGRADE (R113): `count` uncorrectable codewords of a lane within 250,000 strides, counted here. -/
def execFecDegrade (lport lane count : Nat) (s : State) : Out :=
  let n := lport % 16 / 2
  let s1 := s.countBy (R.ETH_FEC_UNCORR n) count
  .next (if s.fld (R.ETH_FEC_LIMIT n) 0 24 < count then
    ((s1.event (13 + n) 2).raise (13 + n) 0x0100 2 (lane % 256)).evPost 0x0003 (lport % 16) 0 else s1)

/-- PFC_STORM (R113): a receiver held in pause on a priority for 25,000 strides; it keeps honouring the pause. -/
def execPfcStorm (lport : Nat) (s : State) : Out :=
  let p := lport % 16
  .next ((s.event (ethPage p) 3).evPost 0x0004 p 0)

/-- A priority flow control frame: the priorities of its vector stop or go on, as far as PFC_EN enables them; PAUSED shows whether any
priority of the port is held (R112, R114). -/
def State.pauseRx (s : State) (p vector stop : Nat) : State :=
  let en := s.fld (R.ETH_PRIO (p / 2)) 0 8
  let old := s.front.paused.getD p 0
  let new := ((old &&& ((2 ^ 8 - 1) ^^^ (vector % 2 ^ 8))) ||| (vector &&& stop)) &&& en
  let t := { s with front := { s.front with paused := s.front.paused.put p new } }
  t.putBit (R.ETH_STATUS (p / 2)) 2 (decide (new ≠ 0) || decide (t.front.paused.getD (p ^^^ 1) 0 ≠ 0))

/-- ETH_FRAME_RX (R112, R114, R115): a frame of `len` bytes, with the FEC codewords corrected since the last. A RoCEv2 packet goes on as
the request, answer or datagram it is; one with a bad ICRC is dropped and counted. A frame longer than ETH_MTU is none that the port
supports: it is dropped and counted in ETH_RX_OTHER (DEDUCED, assumption log 85). -/
def execEthFrameRx (lport : Nat) (f : EthFrame) (len corrected : Nat) (s : State) : Out :=
  let p := lport % 16
  let n := p / 2
  if s.portTakes p = false then .next s
  else
    let s1 := s.countBy (R.ETH_FEC_CORR n) corrected
    if s.fld (R.ETH_MTU n) 0 14 < len then .next (s1.count (R.ETH_RX_OTHER n))
    else
      match f with
      | .roce => .next s1
      | .badIcrc => .next ((s1.count (R.ETH_ICRC_ERR n)).raise (13 + n) 0x0101 0 (p % 2))
      | .pause vector stop => .next (s1.pauseRx p vector stop)
      | .other => .next (s1.count (R.ETH_RX_OTHER n))

/-! ### Fabrics associations (R133) -/

/-- A fabrics command of an operation runs once it is fetched. -/
def State.fabricsRun (s : State) (n : Nat) (op : HostOp) (f : State → Nat → Qp → State) : Out :=
  match s.cmd n with
  | none => .next s
  | some c =>
    match c.src with
    | .fabrics q _ =>
      match s.qp q with
      | none => .next s
      | some x => if c.stage ≠ .fetched ∨ c.img.op ≠ op ∨ s.stopped then .next s else .next (f s q x)
    | _ => .next s

/-- FABRICS_CONNECT (R133): on an admin queue pair it creates controller `ctrl`; on an I/O queue pair it joins the one it names. QID,
SQSIZE (0's based), KATO in units of 100 ms and the namespaces of the host are those of the Connect. -/
def execFabricsConnect (n ctrl qid sqsize kato : Nat) (ns : List NsAtt) (s : State) : Out :=
  s.fabricsRun n .connect fun s q x =>
    if 1024 ≤ sqsize ∨ (s.ctrlOf q).isSome then s.complete n St.invalidField
    else if x.kind = 2 then
      if qid ≠ 0 ∨ s.front.ctrls.has ctrl then s.complete n St.invalidField
      else
        let c : Ctrl := { adminQpn := q, ioQpns := [], ns := ns, props := [], kato := kato, aers := [], feats := [], errLog := [],
                          mediaErrors := 0 }
        ({ s with front := { s.front with ctrls := s.front.ctrls.put ctrl c } }).complete n St.success ctrl
    else
      match s.ctrl ctrl with
      | none => s.complete n St.invalidField
      | some c =>
        if qid = 0 ∨ x.kind ≠ 1 ∨ 4096 ≤ c.ioQpns.length then s.complete n St.invalidField
        else (s.setCtrl ctrl fun c => { c with ioQpns := c.ioQpns ++ [q] }).complete n St.success ctrl

/-- Property offsets (R100; assumption log 7). -/
def propCap : Nat := 0x00
def propVs : Nat := 0x08
def propCc : Nat := 0x14
def propCsts : Nat := 0x1C

/-- FABRICS_PROPERTY_GET (R133): CAP, VS, CC and CSTS. -/
def execFabricsPropertyGet (n off : Nat) (s : State) : Out :=
  s.fabricsRun n .propGet fun s q _ =>
    match s.ctrlOf q with
    | none => s.complete n St.invalidField
    | some (_, c) =>
      if off = propCap then s.complete n St.success (nvmeCap 0x03FF)
      else if off = propVs then s.complete n St.success nvmeVs.toNat
      else if off = propCc ∨ off = propCsts then s.complete n St.success (c.props.getD off 0)
      else s.complete n St.invalidField

/-- FABRICS_PROPERTY_SET (R133): CC; CSTS.RDY follows CC.EN (assumption log 7). -/
def execFabricsPropertySet (n off value : Nat) (s : State) : Out :=
  s.fabricsRun n .propSet fun s q _ =>
    match s.ctrlOf q with
    | none => s.complete n St.invalidField
    | some (k, _) =>
      if off = propCc then
        (s.setCtrl k fun c => { c with props := (c.props.put propCc (value % 2 ^ 32)).put propCsts (value % 2) }).complete n St.success
      else s.complete n St.invalidField

/-- FABRICS_DISCONNECT (R133): the queue pair's association ends, and with the admin queue pair's the controller. -/
def execFabricsDisconnect (n : Nat) (s : State) : Out :=
  s.fabricsRun n .disconnect fun s q _ =>
    match s.ctrlOf q with
    | none => s.complete n St.invalidField
    | some (k, c) =>
      let s1 := s.complete n St.success
      if c.adminQpn = q then { s1 with front := { s1.front with ctrls := s1.front.ctrls.drop k } }
      else s1.setCtrl k fun c => { c with ioQpns := c.ioQpns.filter fun x => decide (x ≠ q) }

/-- KATO_EXPIRED (R133): the keep-alive timeout of a controller has run out: every queue pair of it moves to Error. -/
def execKatoExpired (ctrl : Nat) (s : State) : Out :=
  match s.ctrl ctrl with
  | none => .next s
  | some c => .next (((c.adminQpn :: c.ioQpns).foldl State.qpError s).evPost 0x0104 evDevice ctrl)

end Sys2Proof.Machine
end

