-- ==== Sys2Proof/Machine/Rws.lean ====
section
/-! DEFINITION. What an applied commit does to the RWS fields of a page (R16, R18, R66): each value is held against the range its
register gives it, and one that is refused leaves the old value in force. -/

namespace Sys2Proof.Machine

/-- The range of a field: its lowest bit, its width, its least and greatest value. -/
structure Limit where
  lo : Nat
  width : Nat
  least : Nat
  most : Nat
  deriving DecidableEq, Repr

/-- The ranges that the register tables give RWS fields, by block and page offset; a field not listed takes every value. CIST_FN_SHARE
is bounded by half of SIZE_GIB x 1,024 minus 64, `share` (R170). -/
def rwsLimits (share : Nat) : PageKind → Nat → List Limit
  | .chipId, 0x624 => [⟨0, 16, 240, 420⟩]
  | .eth, 0x058 => [⟨0, 14, 1518, 9216⟩]
  | .ctxc, 0x04C => [⟨0, 14, 0, 8192⟩]
  | .cistern, 0x04C => [⟨0, 16, 0, share⟩]
  | .cistern, 0x06C => [⟨0, 16, 25, 2500⟩]
  | .comp, 0x040 => [⟨0, 6, 32, 63⟩]
  | .dedup, 0x050 => [⟨0, 32, 2, 2 ^ 32 - 1⟩]
  | .dedup, 0x054 => [⟨0, 8, 1, 255⟩]
  | .dedup, 0x060 => [⟨0, 11, 0, 1024⟩]
  | .read, 0x044 => [⟨0, 8, 2, 64⟩]
  | .ftl, 0x060 => [⟨0, 10, 10, 500⟩]
  | .ftl, 0x068 => [⟨0, 10, 0, 1023⟩]
  | .ftl, 0x06C => [⟨0, 11, 0, 1024⟩]
  | .ftl, 0x088 => [⟨0, 8, 1, 250⟩]
  | .ftl, 0x08C => [⟨0, 32, 250000, 25000000⟩]
  | .ldpc, 0x054 => [⟨0, 16, 256, 65535⟩]
  | .ldpc, 0x058 => [⟨0, 10, 0, 1000⟩]
  | .ldpc, 0x05C => [⟨0, 24, 250, 2500000⟩]
  | .ldpc, 0x060 => [⟨0, 16, 1, 720⟩]
  | .patrol, 0x044 => [⟨0, 5, 1, 30⟩]
  | .patrol, 0x048 => [⟨0, 16, 1, 65535⟩]
  | .patrol, 0x050 => [⟨0, 8, 1, 64⟩]
  | .health, 0x044 => [⟨0, 16, 10, 65535⟩]
  | .health, 0x048 => [⟨0, 16, 168, 43800⟩]
  | .health, 0x050 => [⟨0, 7, 10, 100⟩]
  | .health, 0x054 => [⟨0, 8, 2, 255⟩]
  | .health, 0x058 => [⟨0, 10, 0, 1000⟩]
  | .wear, 0x050 => [⟨0, 10, 0, 500⟩]
  | .wear, 0x054 => [⟨0, 10, 100, 1000⟩]
  | .wear, 0x058 => [⟨0, 11, 1, 1024⟩]
  | .stripe, 0x064 => [⟨0, 7, 1, 100⟩, ⟨16, 7, 1, 100⟩]
  | .stripe, 0x068 => [⟨0, 18, 250, 250000⟩]
  | .stripe, 0x06C => [⟨0, 12, 0, 3600⟩]
  | .stripe, 0x078 => [⟨0, 11, 0, 1024⟩]
  | .fence, 0x04C => [⟨0, 16, 250, 20000⟩]
  | .fence, 0x050 => [⟨0, 32, 250000, 25000000⟩]
  | .repl, 0x048 => [⟨0, 18, 250, 250000⟩]
  | .repl, 0x04C => [⟨0, 16, 250, 25000⟩]
  | .ddrc, 0x064 => [⟨0, 4, 6, 14⟩]
  | .ddrc, 0x068 => [⟨0, 8, 1, 168⟩]
  | .ddrc, 0x070 => [⟨0, 16, 16, 65535⟩]
  | .ddrc, 0x074 => [⟨0, 16, 256, 16384⟩]
  | .ddrc, 0x078 => [⟨0, 16, 25, 25000⟩, ⟨16, 8, 4, 64⟩]
  | .kde, 0x07C => [⟨0, 32, 2500, 25000000⟩]
  | .svc, 0x070 => [⟨0, 32, 250000, 75000000⟩]
  | .ddrc, o => if 0x100 ≤ o ∧ o ≤ 0x128 then [⟨0, 16, 100, 60000⟩] else []
  | _, _ => []

/-- A field outside its range keeps its old value. -/
def Limit.hold (old new : Word) (l : Limit) : Word :=
  if l.least ≤ fld new l.lo l.width ∧ fld new l.lo l.width ≤ l.most then new else putFld new l.lo l.width (fld old l.lo l.width)

/-- How restrictive a cell is: C, Q, X; P is no tightening (R469). -/
def cellRank (c : Nat) : Nat := if c = 3 then 0 else c

/-- A row of the matrix may not take a word that loosens a cell below its reset value, changes a P cell or a self-cell of a standing
activity, or sets a cell of column 5 to X (R469); a change into P is no tightening and is refused with them. -/
def rowRefused (row : Nat) (old new : Word) : Bool :=
  let reset := BitVec.ofNat 32 (matrixReset.getD row 0)
  (List.range 12).any fun c =>
    let o := fld old (2 * c) 2
    let n := fld new (2 * c) 2
    decide (cellRank n < cellRank (fld reset (2 * c) 2)) || (decide (o ≠ n) && (decide (o = 3 ∨ n = 3) || (isStanding row && decide (c = row))))
      || (decide (c = 5) && decide (n = 2))

/-- GC_URGENT lies below GC_START (R297). -/
def gcThreshOk (w : Word) : Bool := decide (fld w 16 10 < fld w 0 10)

/-- A volume's policy word whose RAW_THRESH is 1 to 31 is refused (R202). -/
def policyRefused (w : Word) : Bool := decide (1 ≤ fld w 16 6 ∧ fld w 16 6 ≤ 31)

/-- In either class MAX lies below MIN (R94). -/
def weirUpsideDown (least most : Word) : Bool := decide (fld most 0 16 < fld least 0 16 ∨ fld most 16 16 < fld least 16 16)

/-- The Weir subject of register `k` asks for a MAX below its MIN in either class (R94). -/
def State.weirRefused (s : State) (k : Nat) : Bool :=
  decide (k = R.WEIR_MIN (k / 0x1000000) ∨ k = R.WEIR_MAX (k / 0x1000000))
    && weirUpsideDown (s.rdShadow (R.WEIR_MIN (k / 0x1000000))) (s.rdShadow (R.WEIR_MAX (k / 0x1000000)))

/-- PAT_PERIOD applies to the current pass from the commit point: its end moves by the difference (R326). -/
def State.patPeriod (s : State) (old new : Word) : State :=
  s.setPatrol fun p => if p.active && !p.expedited then
    { p with endCal := p.endCal + Machine.fld new 0 5 * 86400 - Machine.fld old 0 5 * 86400 } else p

/-- The taps of a lane's transmitter sum to 63 at most, and MAIN is 32 or more (R538). -/
def txeqOk (w : Word) : Bool := decide (fld w 0 6 + fld w 6 6 + fld w 12 6 + fld w 18 6 ≤ 63 ∧ 32 ≤ fld w 12 6)

/-- The half of a 64-bit mask that a register is. -/
def rwsMask (hi : Bool) (m : Nat) : Word := if hi then BitVec.ofNat 32 (m / 2 ^ 32) else BitVec.ofNat 32 m

/-- One shadowed register takes effect (R66). -/
def State.rwsOne (s : State) (row : RegRow) (kind : PageKind) (hi : Bool) (k : Nat) (v : Word) : State :=
  let o := k % 0x1000
  let m := rwsMask hi row.rws
  let old := s.rd k
  let share := s.fld R.CIST_CFG 0 5 * 512 - 64
  let new := (rwsLimits share kind o).foldl (Limit.hold old) ((old &&& ~~~m) ||| (v &&& m))
  if kind = .guard then if rowRefused ((o - 0x100) / 4) old new then s.raise 4 0x0101 0 0 else s.wr k new
  else if kind = .ftl ∧ o = 0x064 ∧ gcThreshOk new = false then s
  else if kind = .eth ∧ (o = 0x200 ∨ o = 0x204) ∧ txeqOk new = false then s
  else if kind = .dedup ∧ o = 0x05C ∧ policyRefused new then s.raise 91 0x0102 0 0
  else if kind = .patrol ∧ o = 0x044 then (s.wr k new).patPeriod old new
  else s.wr k new
/-- A shadowed register applies unless its Weir subject is refused. -/
def State.rwsReg (s : State) (refused : List Nat) (k : Nat) (v : Word) : State :=
  match pageAt (k % 0x1000000) with
  | none => s
  | some (r, _) =>
    match rowAt r (k % 0x1000) with
    | none => s
    | some (row, _, hi) => if k ∈ refused then s else s.rwsOne row r.kind hi k v

/-- A shadowed register belongs to a commit of page `p`; the mask sets of a CAM group belong to each of its pages (R188). -/
def rwsOf (p k : Nat) : Bool :=
  decide (pageOfReg k = p) || (decide (95 ≤ p ∧ p ≤ 111 ∧ 95 ≤ pageOfReg k ∧ pageOfReg k ≤ 111)
    && decide (camGroup (p - 95) = camGroup (pageOfReg k - 95)))

/-- The sum of the MIN of a class at bit `lo` exceeds the cap (R93). -/
def State.weirOver (s : State) (lo : Nat) : Bool :=
  decide (s.fld R.WEIR_CAP lo 16 < ((s.weirSubjects.map fun x => s.fld (R.WEIR_MIN x) lo 16).sum))

/-- After a RESIZE or a Weir commit the sum of MIN exceeds the cap: OVERSUBSCRIBED is set (R93; DEDUCED, assumption log 59). -/
def State.oversubscribed (s : State) : State := if s.weirOver wRd || s.weirOver wWr then s.event 23 0 else s

/-- The commit of page `p` applies (R66): every shadowed field of the page takes effect together; COMMIT_PENDING clears and COMMITTED
is set. A Weir subject that asks for a MAX below its MIN keeps both, and MAX_BELOW_MIN is set (R94). -/
def State.rwsApply (s : State) (p : Nat) : State :=
  let due := s.shadow.filter fun e => rwsOf p e.1
  let refused := (due.filter fun e => s.weirRefused e.1).map Prod.fst
  let s1 := due.foldl (fun s e => s.rwsReg refused e.1 e.2) s
  let s2 := { s1 with shadow := s1.shadow.filter fun e => !rwsOf p e.1 }
  let s3 := if refused = [] then s2 else s2.event 23 1
  let s4 := ((s3.putBit (R.PG_CTRL p) 3 false).putBit (R.PG_STATE p) 9 false).event p 29
  if p = 23 then s4.oversubscribed else s4

end Sys2Proof.Machine
end

