-- ==== Sys2Proof/Machine/Studbook.lean ====
section
/-! DEFINITION. Studbook flushes, reading and software records (R470, R471, R474 to R478). -/

namespace Sys2Proof.Machine

/-! ### The bytes of the studbook (R470, R471) -/

/-- A record's bytes: header, payload, CRC-32C (R471). -/
def StbRec.bytes (r : StbRec) : List Byte :=
  let body := leBytes 2 r.len ++ leBytes 2 r.typ ++ leBytes 4 r.seq ++ leBytes 8 r.stride.toNat ++ leBytes 6 r.cal
    ++ leBytes 1 r.sev ++ leBytes 1 r.src ++ r.payload
  body ++ leBytes 4 (crc32c body).toNat

/-- The byte at an offset below the end: a record's, the word that continues at the next 64 KiB boundary, or a gap (R470). -/
def stbByte (recs : List (StbRec × List Byte)) (o : Nat) : Byte :=
  match recs.find? fun r => decide (r.1.off ≤ o ∧ o < r.1.off + r.1.len) with
  | some r => r.2.getD (o - r.1.off) 0
  | none =>
    if recs.any fun r => decide (r.1.off + r.1.len ≤ o ∧ o < r.1.off + r.1.len + 4) && decide (r.1.off < stbLimit - 65536) then 0
    else Config.stbGap o

/-- `n` bytes of the studbook from an offset: bytes at or beyond STB_END read zero (R476). -/
def State.stbRead (s : State) (o n : Nat) : List Byte :=
  let end_ := (s.rd64 R.STB_END).toNat
  let near := (s.stud.recs.filter fun r => decide (r.off < o + n ∧ o < r.off + r.len + 65536)).map fun r => (r, r.bytes)
  (List.range n).map fun i => if end_ ≤ o + i then 0 else stbByte near (o + i)

/-! ### Flushes (R474) -/

/-- A record has not been flushed to every device in service. -/
def State.unflushed (s : State) : Bool := decide (s.flushedTo < s.stud.endOff)

/-- STUDBOOK_FLUSH (R474): a trigger of R474 came; one that comes during a flush starts another once the flush ends. -/
def execStudbookFlush (s : State) : Out := .next (if s.unflushed then s.startFlush else s)

/-- STUDBOOK_FLUSH_TIMER (R474): 250,000 strides have passed. -/
def execStudbookFlushTimer (s : State) : Out := .next (if s.unflushed then s.startFlush else s)

/-- STB_FLUSH_CMD (R474, R485): FLUSH reads 1 until the flush ends. -/
def execStbFlushCmd (s : State) : Out :=
  let s1 := s.putBit R.STB_CTRL 0 true
  let s2 := if s.bit R.STB_STATUS 0 then { s1 with stud := { s1.stud with ctrlAgain := true } } else s1
  .next s2.startFlush

/-- A device whose page program failed twice is marked failed (R474). -/
def State.stbDevFail (s : State) (dev : Nat) : State :=
  ((s.putBit R.STB_STATUS (3 + dev) false).event 5 3).raise 5 0x0100 2 dev

/-- STUDBOOK_FLUSH_DONE (R474): the page programs end; `ok0` and `ok1` tell whether the devices in service took them. -/
def execStudbookFlushDone (ok0 ok1 : Bool) (s : State) : Out :=
  match s.stud.flushTo with
  | none => .next s
  | some e =>
    let st := s.stud
    let s1 := { s with stud := { st with
      dev0 := if st.dev0Ok && ok0 then e else st.dev0, dev1 := if st.dev1Ok && ok1 then e else st.dev1,
      dev0Ok := st.dev0Ok && ok0, dev1Ok := st.dev1Ok && ok1, flushTo := none, flushAgain := false, ctrlAgain := false } }
    let s2 := ((s1.putBit R.STB_STATUS 0 false).wr64 R.STB_FLUSHED (BitVec.ofNat 64 s1.flushedTo)).event 5 0
    let s3 := s2.putBit R.STB_CTRL 0 st.ctrlAgain
    let s4 := if st.flushAgain then s3.startFlush else s3
    let s5 := if st.dev0Ok && !ok0 then s4.stbDevFail 0 else s4
    .next (if st.dev1Ok && !ok1 then s5.stbDevFail 1 else s5)

/-- RESILVER_DONE (R475): the background copy to the shorter device ends. -/
def execResilverDone (s : State) : Out :=
  .next (if s.bit R.STB_STATUS 5 then (s.putBit R.STB_STATUS 5 false).event 5 5 else s)

/-! ### Reading (R476) -/

/-- STB_RD_OFF_WRITE (R476): the window is asked for from an offset whose two lowest bits are taken as 0. -/
def execStbRdOffWrite (off : Nat) (s : State) : Out :=
  let o := off % 2 ^ 64 / 4 * 4
  .next ((({ s with stud := { s.stud with window := some o } }).wr64 R.STB_RD_OFF (BitVec.ofNat 64 o)).putBit
    R.STB_RD_STATUS 0 false)

/-- The words of the window take bytes. -/
def State.fillWin (s : State) : Nat → List Byte → State
  | i, b0 :: b1 :: b2 :: b3 :: bs => (s.wrN (R.STB_RD_WIN i) (ofLeBytes [b0, b1, b2, b3])).fillWin (i + 1) bs
  | _, _ => s

/-- STB_WINDOW_READY (R476): the window holds the 2 KiB from STB_RD_OFF, and READY is set. -/
def execStbWindowReady (s : State) : Out :=
  match s.stud.window with
  | none => .next s
  | some o =>
    let s1 := ({ s with stud := { s.stud with window := none } }).fillWin 0 (s.stbRead o 2048)
    let end_ := (s.rd64 R.STB_END).toNat
    .next (((s1.putBit R.STB_RD_STATUS 0 true).putBit R.STB_RD_STATUS 1 (decide (end_ < o + 2048))).putFld
      R.STB_RD_STATUS 16 12 (min 2048 (end_ - o)))

/-! ### Software records (R478) -/

/-- The payload staged in STB_APP_DATA. -/
def State.appPayload (s : State) (n : Nat) : List Byte :=
  ((List.range (n / 4)).map fun i => leBytes 4 (s.rdN (R.STB_APP_DATA i))).flatten

/-- Would a record of `len` bytes be refused as the studbook is full (R477)? -/
def State.stbFull (s : State) (len : Nat) : Bool := s.stud.full || decide (stbLimit < recStart s.stud.endOff len + len)

/-- STB_APP_CMD (R478): the checks in their order, then the record. -/
def execStbAppCmd (len typ : Nat) (s : State) : Out :=
  let fin := fun (s : State) (r : Nat) => Host.Outcome.next ((s.wrN R.STB_APP_STATUS r).event 5 4)
  let day := s.calSec / 86400
  let used := if s.stud.appDay = day then s.stud.appBytes else 0
  if typ < 0x8000 ∨ 0xFFFE < typ ∨ len < 28 ∨ 1024 < len ∨ len % 4 ≠ 0 then fin s St.invalidField
  else if 65536 < used + len then fin s St.quota
  else
    let full := s.stbFull len
    let s1 := s.record typ 0 0xFF (s.appPayload (len - 28))
    if full then fin s1 St.spaceExhausted
    else fin { s1 with stud := { s1.stud with appDay := day, appBytes := used + len } } St.success

/-! ### What software sees (R476, R477, R485) -/

/-- Step of the commit point: STB_END and the registers beside it advance, and NEAR_FULL is found (R476, R477). -/
def State.stbShow (s : State) : State :=
  let e := s.stud.endOff
  let s1 := ((s.wr64 R.STB_END (BitVec.ofNat 64 e)).wrN R.STB_LAST_SEQ s.stud.lastSeq).wrN R.STB_FILL_PM (e * 1000 / 2 ^ 28)
  if 241591910 < e ∧ s.bit R.STB_STATUS 1 = false then
    ((s1.putBit R.STB_STATUS 1 true).event 5 1).raise 5 0x0101 1 0
  else s1

end Sys2Proof.Machine
end

