-- ==== Sys2Proof/Machine/Commit.lean ====
section
/-! DEFINITION. The commit point (R22): the ordered actions at engine clock 0 of every stride, and all that the chapters do there. -/

namespace Sys2Proof.Machine

/-! ### Step 1: the stride number; which commits are due (R22, R27, R37, R38) -/

/-- The stride number increments, and PWR_STRIDES counts the stride (R22, R43); overruns of earlier strides have been charged. -/
def State.nextStride (s : State) : State :=
  let s1 := (s.wr64 R.STR_NUM (s.now + 1)).wr64 R.PWR_STRIDES (satAdd64 (s.rd64 R.PWR_STRIDES) 1)
  { s1 with clock := { s1.clock with ovrDebt := s1.clock.ovrDebt.keep fun _ d => decide (s1.now.toNat ≤ d.1.toNat) } }

/-- The gate at a commit point: it clears at STR_COMMIT_AT, or is found late (R37, R38). The commits that stay gated are answered. -/
def State.gate (s : State) : State × List Nat :=
  if s.bit R.STR_CTRL 0 = false then (s, s.pages.gated)
  else if s.rd64 R.STR_COMMIT_AT = s.now then (s.ungate, [])
  else if s.pages.gated ≠ [] then (s.lateCheck, s.pages.gated)
  else (s, [])

/-- Pages whose PG_CTRL may hold a bit: those that differ from reset, and those that reset with ENABLE = 1. -/
def State.ctrlPages (s : State) : List Nat := (List.range 12 ++ (s.listed 0x00C).filter fun p => decide (12 ≤ p))

/-- Pages with a bit of PG_CTRL set. -/
def State.asking (s : State) (i : Nat) : List Nat := s.ctrlPages.filter fun p => s.bit (R.PG_CTRL p) i

/-! ### Step 2: registers, pages, commands of the tables -/

/-- A block-specific register goes back to its reset value (R65); the common header and the unit map stay. -/
def State.softReg (s : State) (k : Nat) : State :=
  match pageAt (k % 0x1000000) with
  | none => s
  | some (r, _) =>
    if k % 0x1000 < 0x40 ∨ (0xF00 ≤ k % 0x1000 ∧ (k % 0x1000 - 0xF00) / 4 < r.units) then s else s.wr k (resetOf k)

/-- A page goes to INIT at a commit point that acts on ENABLE (R62). -/
def State.startInit (s : State) (p : Nat) : State :=
  let s1 := ((s.putBit (R.PG_STATE p) 8 true).setPage p .init).setUnits p .init
  { s1 with pages := { s1.pages with initAt := s1.pages.initAt.put p s.now } }

/-- An accepted soft reset (R65): registers return to reset, shadows and the commit are discarded, and the page goes to INIT or OFF;
a FENCED page stays FENCED. -/
def State.softReset (s : State) (p : Nat) : State :=
  let keys := (s.regs.filter fun e => decide (pageOfReg e.1 = p)).map Prod.fst
  let s1 := keys.foldl State.softReg { s with
    shadow := s.shadow.filter fun e => decide (pageOfReg e.1 ≠ p),
    loPend := s.loPend.filter fun e => decide (pageOfReg e.1 ≠ p),
    pages := { s.pages with gated := s.pages.gated.filter fun q => decide (q ≠ p) } }
  let s2 := ((s1.putBit (R.PG_CTRL p) 1 false).putBit (R.PG_CTRL p) 3 false).putBit (R.PG_STATE p) 9 false
  if s2.pageState p = .fenced then s2
  else if s2.bit (R.PG_CTRL p) 0 then s2.startInit p
  else (s2.setPage p .off).setUnits p .off

/-- FREEZE is honoured where CAN_FREEZE = 1: FROZEN follows it at the commit point (R64). -/
def State.freezeApply (s : State) : State :=
  (s.ctrlPages ++ (s.listed 0x010)).eraseDups.foldl (fun s p =>
    if (pageRowOf p).elim false PageRow.canFreeze then s.putBit (R.PG_STATE p) 10 (s.bit (R.PG_CTRL p) 2) else s) s

/-- ENABLE = 1 is acted on: an OFF page starts to initialise (R62). The bring-up enables the pages of R546 itself. -/
def State.enableApply (s : State) : State :=
  if s.power.bringup then s
  else (s.asking 0).foldl (fun s p => if s.pageState p = .off then s.startInit p else s) s

/-- Step 2 of R22: accepted soft resets discard their page's commit, and shadowed values whose commit is due take effect; beside them
calendar sets, key slot commands, the remounts of units and SRAM rows, and the pages' moves of R62. -/
def State.commitRegs (s : State) (held : List Nat) (mapOk : Bool) (camBad : List Nat) : State :=
  let s1 := ((s.asking 1).filter fun p => (pageRowOf p).elim false PageRow.canFreeze).foldl State.softReset s
  let s2 := ((s1.asking 3).filter fun p => decide (p ∉ held)).foldl State.rwsApply s1
  let s3 := s2.wearCommit.calSetApply
  ((s3.ksApply.rmCommit mapOk camBad).rowCommit mapOk).freezeApply.pagesMove.enableApply

/-! ### Pins and monitors (R162, R517, R519) -/

/-- Whether a feed counts as failed: `was` before; hysteresis applies from the second sample after a reset (R517). -/
def feedFails (pin en : Bool) (code trip hyst : Nat) (was : Bool) : Bool :=
  if was then !pin || (en && decide (code < trip + hyst)) else !pin || (en && decide (code < trip))

/-- PF_STATUS (R527). -/
def pfWord (f : StrideFacts) (failA failB : Bool) : Nat :=
  f.codeA % 1024 + failA.toNat * 2 ^ 10 + f.pinA.toNat * 2 ^ 11 + f.codeB % 1024 * 2 ^ 16 + failB.toNat * 2 ^ 26
    + f.pinB.toNat * 2 ^ 27

/-- The feeds are sampled (R162, R517): a feed that fails sets FEED_EVENT and its own event, both present again FEEDS_OK. -/
def State.feedSample (s : State) (f : StrideFacts) : State :=
  let hyst := s.fld R.PF_HYST 0 8
  let wasA := s.power.feedSampled && s.cist.feedAFail
  let wasB := s.power.feedSampled && s.cist.feedBFail
  let a := feedFails f.pinA (s.bit R.PF_TRIP 10) (f.codeA % 1024) (s.fld R.PF_TRIP 0 10) hyst wasA
  let b := feedFails f.pinB (s.bit R.PF_TRIP 26) (f.codeB % 1024) (s.fld R.PF_TRIP 16 10) hyst wasB
  let s1 := if a && !wasA then (s.event 89 5).event 0 0 else s
  let s2 := if b && !wasB then (s1.event 89 5).event 0 1 else s1
  let s3 := if (wasA || wasB) && !a && !b then s2.event 0 2 else s2
  let s4 := s3.wrN R.PF_STATUS (pfWord f a b)
  { s4 with
    power := { s4.power with feedSampled := true },
    cist := { s4.cist with
      feedAFail := a, feedBFail := b,
      bothFailed := if a && b then s4.cist.bothFailed + 1 else 0,
      bothPresent := if a || b then 0 else s4.cist.bothPresent + 1 } }

/-- The PCIe link's error counts and its size fields in force (R84). -/
def State.pcieFacts (s : State) (f : StrideFacts) : State :=
  (((s.countBy R.PCIE_RX_ERR f.pcieRxErr).countBy R.PCIE_REPLAYS f.pcieReplays).countBy R.PCIE_UR f.pcieUr).wrN R.PCIE_MPS
    (f.pcieMps % 8 + f.pcieMrrs % 8 * 2 ^ 4)

/-- The junction temperature and the use of DRAM are read (R43, R427, R519). -/
def State.monitors (s : State) (f : StrideFacts) : State :=
  let s1 := ((s.pcieFacts f).wrN R.CHIP_TJ (toField 16 f.tj)).tjSeen f.tj
  let s2 := if sgn16 (s1.fld R.TJ_WARN 0 16) ≤ f.tj then s1.event 0 4 else s1
  let s3 := { s2 with power := { s2.power with hotStrides := if 440 ≤ f.tj then s2.power.hotStrides + 1 else 0 } }
  (List.range 8).foldl (fun s ch => s.wrN (R.DC_UTIL ch) (f.util.getD ch 0 % 1024)) s3

/-! ### Fencing (R62, R379, R464) -/

/-- A page of a fenced head, unless it is SPARE or RETIRED (R62). -/
def State.fencePage (s : State) (p : Nat) : State := if s.refuses p then s else s.setPage p .fenced

/-- The commit point after an L4 (R62, R372, R379, R464): FENCED, remounts abandoned, unadmitted commands completed with HEAD_FENCED
and DEVICE_FENCING posted. -/
def State.fenceCommit (s : State) : State :=
  if s.tandem.fencing = false ∨ s.role = roleFenced then s
  else
    let s1 := s.rmAbandon.rankAbandon.setRole roleFenced
    let s2 := pageNumbers.foldl State.fencePage { s1 with pages := { s1.pages with initAt := [] } }
    s2.fenceCommands.evPost 0x0F01 evDevice 0

/-! ### Budgets and flags of the data path (R191, R213, R218, R219, R236, R325) -/

/-- Clocks that COMP units overran into this stride (R27, R213). -/
def State.compDebt (s : State) : Nat :=
  ((s.clock.ovrDebt.filter fun d => decide (d.1 / 256 = 92) && decide (d.2.1 = s.now)).map fun d => d.2.2).sum

/-- The code of UNIT_FAULT in a page with units (R220, R325, R358, R443). -/
def unitFaultCode (p : Nat) : Nat := if p = 136 ∨ p = 141 then 0x0100 else if p = 10 then 0x0106 else 0x0101

/-- Units that stopped working: UNIT_FAULT at L3 (R220). -/
def State.unitsFail (s : State) (l : List (Nat × Nat)) : State :=
  (l.filter fun x => decide (x.1 = 90 ∨ x.1 = 92 ∨ x.1 = 93 ∨ x.1 = 136 ∨ x.1 = 141 ∨ x.1 = 10)).foldl
    (fun s x => s.raise x.1 (unitFaultCode x.1) 3 x.2) s

/-- The budgets of the new stride, and the events that tell of the last. -/
def State.strideFlags (s : State) : State :=
  let low := decide (s.wrCap < s.fld R.WEIR_CAP 16 16)
  let s1 := if low && !s.cam.capReduced then s.event 90 0 else s
  let s2 := if s.cam.downgraded then s1.event 92 0 else s1
  let s3 := if s.cam.late then s2.event 91 1 else s2
  let s4 := if s.media.firstFail then s3.event 136 0 else s3
  let s5 := if s.fld R.RD_BASIN_FREE 0 15 < 1024 then s4.event 94 2 else s4
  { s5 with
    cam := { s5.cam with capReduced := low, downgraded := false, late := false, raUsed := 0,
                         clkLeft := s5.poolClk - s5.compDebt, hostLeft := 0, digested := 0 },
    media := { s5.media with firstFail := false, reclaim := s5.media.reclaim.mapVals fun _ r => { r with used := 0 } } }

/-! ### Activities (R465 to R467) -/

/-- A queued activity runs. -/
def State.actRun (s : State) (a : Activity) (bands : List BandCopy) : State :=
  if a.code = actSnapCreate ∨ a.code = actSnapDelete ∨ a.code = actVolChange then s.ftlActRun a
  else if a.code = actReshape ∨ a.code = actPoolConfig then s.spActRun a bands
  else if a.code = actReplResync then s.replActRun a
  else if a.code = actTransfer then (s.putBit R.TD_CMD_STATUS 17 false).transferRun a.op
  else if a.code = actRemount then s.rmActRun a
  else s

/-- One queued activity starts unless a running one, or one still queued before it, blocks it (R467). -/
def State.queuedOne (bands : List BandCopy) (d : State × List Activity) (a : Activity) : State × List Activity :=
  if d.1.mayStart d.2 a then
    ((d.1.setActs (d.1.guard.acts.map fun x => if x = a then { a with st := .running } else x)).actRun a bands, d.2)
  else (d.1, d.2 ++ [a])

/-- Queued activities start in the order in which they were queued (R467). -/
def State.queuedStart (s : State) (bands : List BandCopy) : State :=
  ((s.guard.acts.filter fun a => decide (a.st = .queued)).foldl (State.queuedOne bands) (s, [])).1

/-- BUSY of the command registers clears: within 16 strides of the write (R299, R359, R399, R400, R486; assumption log 31). -/
def State.busyClear (s : State) : State :=
  let s1 := [R.FTL_CMD_STATUS, R.SP_CMD_STATUS, R.RM_CMD_STATUS, R.TD_CMD_STATUS, R.RP_CMD_STATUS].foldl
    (fun s k => s.putBit k 16 false) s
  if s1.front.rmaBusy = none then s1.putBit R.RMA_CMD_STATUS 16 false else s1

/-! ### Entries, functions, the reins -/

/-- Released entries that nothing holds any longer go (R161, R224). -/
def State.releaseScan (s : State) : State :=
  ((s.cist.parts.filter fun p => p.2.released && decide (p.2.readers = 0)).map Prod.fst).foldl State.tryRelease s

/-- HEAD_OK_IN read low lets the beats of a restarted partner in (R370). -/
def State.lowSample (s : State) : State :=
  if s.headOkIn then s else { s with tandem := { s.tandem with lowA := true, lowB := true } }

/-- The functions' part: management commands, resets, legacy queues, power states (R87, R90, R91, R95 to R99, R106). -/
def State.commitFns (s : State) : State :=
  let resize := s.front.fnCmd.elim false fun c => decide (c.op = 3)
  let s1 := s.fnCmdApply
  let s2 := (if resize ∧ s1.fld R.FN_CMD_STATUS 0 16 = St.success then s1.oversubscribed else s1).fnLeaveApply
  let resetting := s2.lqResetting
  ((s2.lqResetApply.lqReadyUpdate resetting).lqIntPost).finishApply

/-- Restored entries have been destaged: RESTORED is set, and the band is erased (R167; its erasure completes at once, DESIGN CHOICE,
assumption log 61). -/
def State.restoredScan (s : State) : State :=
  match s.cist.restored with
  | none => s
  | some l =>
    if l.any fun q => (s.part q).isSome then s
    else
      let c := { s.cist with restored := none, bandErased := true, bandDir := none, bandOwn := [], bandMirror := [] }
      (({ s with cist := c }).putBit R.CIST_STATUS 4 true).event 89 3

/-- The media's part: transactions, entries, space, health, calibration reads, rebuilds (R161, R271, R292, R309, R317, R339). -/
def State.commitMedia (s : State) : State :=
  let s1 := s.failsHandle.mapTxnApply.releaseScan.restoredScan.dieRetireScan.spaceChange.spillRecompute.spillDiscard.checkpointRoots
  s1.patrolStep.rebuildEnds.rebuildAdmit.redundScan.wearPay.boundRecompute

/-- Module commands that waited for an epoch, a role or a paddock go out (R375, R376, R377). -/
def State.pumpAll (s : State) : State := (List.range 24).foldl State.pump s

/-- The tandem's part (R368, R372, R374, R375, R377, R380, R381, R387, R393). -/
def State.commitTandem (s : State) : State :=
  let s1 := s.fenceInApply.lowSample.beatSend.reinMiss.roleEval.arbApply.takeoverApply
  let s2 := if s1.tandem.fencing then s1 else (s1.transferSend.transferGiven).transferTaken
  ((s2.suspendScan.refSend).anaApply.holdShow).pumpAll

/-- Each group that is pending and armed clears its ARM bit and posts one message (R74). -/
def State.evtPost (s : State) : State :=
  s.pendingGroups.eraseDups.foldl (fun s g =>
    let arm := s.rd64 R.EVT_ARM
    if arm.getLsbD g then
      (s.wr64 R.EVT_ARM (arm &&& ~~~(BitVec.ofNat 64 (2 ^ g)))).postMsix 0 (s.fld (R.EVT_GROUP_VEC g) 0 6)
    else s) s

/-! ### The commit point -/

/-- Steps 1 to 6 of R22, in their order. -/
def State.commitOrdered (s : State) (f : StrideFacts) : State :=
  let (s1, held) := s.nextStride.gate
  let s2 := s1.commitRegs held f.mapOk f.camBad
  let s3 := s2.calCommit.binChange.driftApply.freqCommit
  s3.camPendingValid.epochAdvance.psApply.weirGrant

/-- COMMIT_POINT (R22): the ordered actions, then what the chapters place at a commit point. -/
def execCommitPoint (f : StrideFacts) (s : State) : Out :=
  let s1 := (s.commitOrdered f).fenceCommit
  let s2 := (s1.commitFns.keysRotate.qpTick.portTell).mirrorReleaseSend
  let s3 := ((s2.feedSample f).monitors f).commitMedia.commitTandem
  let s4 := (s3.unitsFail f.unitFaults).busyClear.actPause.queuedStart f.bands |>.ladderHandle f.mapOk
  .next (s4.mcCommit.strideFlags.stbShow.evtPost)

end Sys2Proof.Machine
end

