-- ==== Sys2Proof/Machine/Tack.lean ====
section
/-! DEFINITION. The tack image (R480 to R483). -/

namespace Sys2Proof.Machine

/-- COUNT, SEQ of an image (R480). -/
def tackCount (bs : List Byte) : Nat := leAt bs 12 4
def tackSeq (bs : List Byte) : Nat := leAt bs 8 4

/-- Bytes of an image without its CRC. -/
def tackLen (bs : List Byte) : Nat := 64 + 8 * tackCount bs

/-- Why a copy is invalid (R481, TK_INVALID of R486): the first cause in the order of the codes; 0 for a valid copy. -/
def tackCause (bs : List Byte) (head : Nat) : Nat :=
  if bs.all (decide <| · = 0xFF) then 1
  else if bs.take 4 ≠ [0x54, 0x41, 0x43, 0x4B] ∨ leAt bs 7 1 ≠ 1 then 2
  else if tackCount bs ≤ 16384 ∧ (bs.length < tackLen bs + 4 ∨ (crc32c (bs.take (tackLen bs))).toNat ≠ leAt bs (tackLen bs) 4)
    then 3
  else if leAt bs 4 2 ≠ 0x7240 ∨ leAt bs 6 1 % 2 ≠ head then 4
  else if 16384 < tackCount bs then 5
  else 0

/-- The entries of a valid image in order (R480). -/
def tackEntries : Nat → List Byte → List TackEntry
  | n + 1, p0 :: p1 :: o0 :: o1 :: v0 :: v1 :: v2 :: v3 :: bs =>
    { page := ofLeBytes [p0, p1] % 1024, off := ofLeBytes [o0, o1], value := BitVec.ofNat 32 (ofLeBytes [v0, v1, v2, v3]) }
      :: tackEntries n bs
  | _, _ => []

/-- TK_INVALID, A_VALID and B_VALID follow the copies (R486). -/
def State.tackShow (s : State) : State :=
  let a := tackCause s.tack.copyA s.headId
  let b := tackCause s.tack.copyB s.headId
  ((s.wrN R.TK_INVALID (a + 16 * b)).putBit R.TK_STATUS 3 (decide (a = 0))).putBit R.TK_STATUS 4 (decide (b = 0))

/-- An image with another SEQ, its CRC following (R483). -/
def tackWithSeq (bs : List Byte) (seq : Nat) : List Byte :=
  let body := bs.take 8 ++ leBytes 4 seq ++ (bs.take (tackLen bs)).drop 12
  body ++ leBytes 4 (crc32c body).toNat

/-- The copy to write over: the invalid one, or the one with the lower SEQ (R483). Where both are invalid, or both carry one
SEQ and so copy A is in use (R481), the outcome names it, or it is copy B. -/
def State.tackTarget (s : State) (bothB : Bool) : Bool :=
  let a := tackCause s.tack.copyA s.headId
  let b := tackCause s.tack.copyB s.headId
  if a ≠ 0 ∧ b ≠ 0 then bothB
  else if a ≠ 0 then false
  else if b ≠ 0 then true
  else decide (tackSeq s.tack.copyB ≤ tackSeq s.tack.copyA)

/-- The higher SEQ of the valid copies; 0 without one. -/
def State.tackTop (s : State) : Nat :=
  max (if tackCause s.tack.copyA s.headId = 0 then tackSeq s.tack.copyA else 0)
    (if tackCause s.tack.copyB s.headId = 0 then tackSeq s.tack.copyB else 0)

/-- An image is checked and written, and read back: `readBack` is what the device then holds where it differs (R483). -/
def State.tackWrite (s : State) (image : List Byte) (readBack : Option (List Byte)) (bothB : Bool) : State × Nat :=
  if tackCause image s.headId ≠ 0 then (s, St.invalidField)
  else
    let seq := s.tackTop + 1
    let new := tackWithSeq image seq
    let held := readBack.getD new
    let toB := s.tackTarget bothB
    let s1 := ({ s with tack := if toB then { s.tack with copyB := held } else { s.tack with copyA := held } }).tackShow
    if held ≠ new then (s1, St.checkValue)
    else (s1.record 0x000A 0 6 (leBytes 1 1 ++ leBytes 1 toB.toNat ++ leBytes 2 0 ++ leBytes 4 seq ++ leBytes 4 0), St.success)

/-- TK_WRITE (R483): TK_CMD WRITE with the image that stands at TK_HOST. -/
def execTkWrite (image : List Byte) (readBack : Option (List Byte)) (bothB : Bool) (s : State) : Out :=
  if s.bit R.TK_CMD_STATUS 16 then .next (s.writeDiscarded 6)
  else
    let (s1, r) := s.tackWrite image readBack bothB
    .next ((s1.wrN R.TK_CMD_STATUS r).event 6 0)

/-- TK_READ (R483): the image in use is copied to TK_HOST. With defaults there is none: nothing is copied, and the result is
not stated (a free value, assumption log 3). -/
def execTkRead (s : State) : Out :=
  if s.bit R.TK_CMD_STATUS 16 then .next (s.writeDiscarded 6)
  else if s.fld R.TK_STATUS 0 2 = 2 ∨ s.tack.inUse = [] then
    .next ((s.useFree.wrN R.TK_CMD_STATUS (s.freeNat % 65536)).event 6 0)
  else .next (((s.emit (.hostData (s.rd64 R.TK_HOST).toNat s.tack.inUse)).wrN R.TK_CMD_STATUS St.success).event 6 0)

/-- TK_PROCEED (R482): a head held in INIT with defaults continues. -/
def execTkProceed (s : State) : Out := .next ((s.putBit R.TK_CTRL 0 true).putBit R.TK_STATUS 5 false)

end Sys2Proof.Machine
end

