-- ==== Sys2Proof/Machine/Reads.lean ====
section
/-! DEFINITION. Reads of registers (R14 to R16, R53, R54): the registers that show other state, whose one home is that state, and
what a read returns and does. -/

namespace Sys2Proof.Machine

/-! ### Registers that show other state -/

/-- GD_ACT_RUN of a pool (R484): activities running, and activities queued or paused, bit per code, of the pool and of the chip. -/
def State.actRunWord (s : State) (pool : Nat) : Nat :=
  let mine := s.guard.acts.filter fun a => decide (a.pool = pool) || decide (8 ≤ a.code)
  bitsWord 12 (fun c => mine.any fun a => decide (a.code = c ∧ a.st = .running))
    + bitsWord 12 (fun c => mine.any fun a => decide (a.code = c ∧ (a.st = .queued ∨ a.st = .paused))) * 2 ^ 16

/-- MiB of granules, rounded down (R170 gives no rounding: assumption log 64). -/
def mibOf (granules : Nat) : Nat := granules / 16384

/-- CIST_OWN_USED in granules: from the ring's tail to its head (R149, R170). -/
def State.ringUsed (s : State) : Nat :=
  let size := max s.ringSize 1
  if s.cist.head = s.cist.tail then (if s.cist.parts.any fun p => p.2.off.isSome then size else 0)
  else (s.cist.head + size - s.cist.tail) % size

/-- Entries of a logical CAM bank in a state (R188). -/
def State.camCount (s : State) (n st : Nat) : Nat := s.cam.entries.count fun k e => decide (k / 65536 = n ∧ e.st = st)

/-- CAM_MV_DATA: the match vector word that CAM_MV_SEL names (R188). -/
def State.matchWord (s : State) (n : Nat) : Nat :=
  let hits := s.cam.match_.getD (camGroup n) []
  bitsWord 32 fun i => decide (n * 65536 + 32 * s.fld (R.CAM_MV_SEL n) 0 11 + i ∈ hits)

/-- The bin that CAL_SEL names (R325). -/
def State.calShown (s : State) : CalBin :=
  s.calBin (s.fld R.CAL_SEL 10 5) (s.fld R.CAL_SEL 0 10) (s.fld R.CAL_SEL 15 3)

/-- Offsets of levels as consecutive bytes (R325). -/
def offsBytes (l : List Int) : Nat := ofLeBytes (l.map fun i => BitVec.ofInt 8 i)

/-- The hot spare of a pool is present: set, and no ERASE of it is under way (R359). -/
def State.sparePresent (s : State) (pool : Nat) (p : Pool) : Bool :=
  p.spare.elim false fun q => !(s.onPort q).any fun c => decide (c.use = .eraseOther pool)

/-- SP_LAYOUT of a pool (R358). -/
def State.layoutWord (s : State) (pool : Nat) (p : Pool) : Nat :=
  p.layout + p.n * 2 ^ 8 + p.spare.getD 0 * 2 ^ 16 + (s.sparePresent pool p).toNat * 2 ^ 21 + 2 ^ 22

/-- SP_JBAND of a pool (R358). -/
def Pool.bandWord (p : Pool) : Nat :=
  let m := fun i => (p.band[i]?).elim 0 BandCopy.module
  m 0 + m 1 * 2 ^ 5 + m 2 * 2 ^ 10 + p.band.length * 2 ^ 15

/-- SP_SUBST0 to SP_SUBST3 of a pool (R358). -/
def Pool.substWord (p : Pool) (i : Nat) : Nat :=
  (p.subst[i]?).elim 0 fun x => x.1 + x.2 * 2 ^ 8 + 2 ^ 16

/-- Stripes of a pool that are left to rebuild (R350, R358). -/
def State.rebuildLeft (s : State) (pool : Nat) : Nat :=
  ((s.media.segs.filter fun g => decide (g.2.pool = pool) && g.2.rebuild).map fun g => g.2.stripes - g.2.rebuilt).sum

/-- Registers of a STRIPE pool (R358). -/
def State.viewPool (s : State) (pool o : Nat) (p : Pool) : Option Nat :=
  if o = 0x044 then some (s.layoutWord pool p)
  else if o = 0x048 then some (bitsWord 24 fun m => decide (m ∈ p.modules))
  else if o = 0x050 then some (bitsWord 24 fun m => p.failed.has m)
  else if 0x054 ≤ o ∧ o ≤ 0x060 then some (p.substWord ((o - 0x054) / 4))
  else if o = 0x070 then some (s.rebuildLeft pool)
  else if o = 0x07C then
    some (if p.reshape.isNone then 0 else s.media.segs.count fun _ g => decide (g.pool = pool ∧ g.seq < p.switchSeq))
  else if o = 0x080 then some (if p.reshape.isNone then 0 else p.switchSeq)
  else if o = 0x088 then some p.bandWord
  else if o = 0x08C then some p.losses.length
  else none

/-- Registers of FTL (R297). -/
def State.viewFtl (s : State) (pool o : Nat) : Option Nat :=
  let p := s.pool pool
  if o = 0x048 then some (p.elim 0 Pool.cap)
  else if o = 0x050 then some (toField 64 (s.poolFree pool))
  else if o = 0x058 then some (s.poolLive pool)
  else if o = 0x070 then some (p.elim 0 fun _ => s.segFree pool)
  else if o = 0x074 then some (p.elim 0 fun _ => s.segTotal pool)
  else if o = 0x094 then some (s.media.pages.count fun k x => decide (k / 2 ^ 40 = pool) && x.dirty)
  else if o = 0x098 then some s.freeWord.toNat
  else if o = 0x09C then some s.volCount
  else none

/-- The value of a register that shows other state, by the kind and the instance of its page and its page offset; a 64-bit value is
named by its `_LO` half (R15). -/
def State.view (s : State) (inst o : Nat) : PageKind → Option Nat
  | .chipId =>
    if o = 0x080 then some s.groupPend.toNat
    else if 0x100 ≤ o ∧ o ≤ 0x11C then some (bitsWord 32 fun i => s.eventLine (8 * (o - 0x100) + i)) else none
  | .fnmgr =>
    if o = 0x078 then some s.cistFree
    else if o = 0x07C then some (s.weirFree 0 + s.weirFree 16 * 2 ^ 16)
    else if 0x100 ≤ o ∧ o ≤ 0x1FC then some (s.winRead (s.fld R.FN_SEL 0 8) (0xF000 + (o - 0x100))).toNat else none
  | .legq =>
    if 0x100 ≤ o ∧ o < 0x500 ∧ o % 0x100 ≤ 0x0C then 
      let f := 4 * inst + (o - 0x100) / 0x100
      some (if (s.fn f).legacy then (s.winRead f (4 + o % 0x100)).toNat else 0) else none
  | .eth => if o = 0x210 ∨ o = 0x214 then some (s.freeNat % 65536) else none
  | .weir =>
    let x := s.fld R.WEIR_SEL 0 9
    if o = 0x054 then some (if x ≤ 248 then (s.fn x).ps else 0)
    else if 0x048 ≤ o ∧ o ≤ 0x050 ∧ s.hasWeir x = false then some 0 else none
  | .ddrc => if o = 0x098 then some (s.freeNat % 65536) else none
  | .ctxc => if o = 0x044 then some s.ctxCached else if o = 0x048 then some s.ctxHeldPinned else none
  | .ingest => if o = 0x054 then some s.cist.parts.length else none
  | .cistern =>
    if o = 0x050 then some (mibOf s.ringUsed)
    else if o = 0x054 then some (mibOf (s.cist.mirror.map fun p => p.2.len).sum) else none
  | .cam =>
    if o = 0x044 then some (s.camCount inst 2) else if o = 0x048 then some (s.camCount inst 1)
    else if o = 0x09C then some (s.matchWord inst)
    else if o = 0x054 then some (Machine.putBit (s.rd (R.CAM_OP_STATUS inst)) 16 (s.camBusy inst)).toNat else none
  | .digp => if o = 0x04C then some s.wrCap else none
  | .comp => if o = 0x05C then some s.poolClk else none
  | .decomp => if o = 0x048 then some (s.unitsIn 93) else none
  | .dedup => if o = 0x084 then some (min (s.cam.logs.map fun l => l.2.length).sum (2 ^ 32 - 1)) else none
  | .mlink =>
    let l := s.media.links.find inst
    if o = 0x084 then
      some (l.elim 0 fun x => (x.link.credits.getD 0 none).getD 0 % 4096 + (x.link.credits.getD 1 none).getD 0 * 4096)
    else if o = 0x088 then some (l.elim 0 fun x => x.tags.length) else none
  | .ftl => s.viewFtl (s.fld R.FTL_POOL_SEL 0 4) o
  | .ldpc =>
    if o = 0x04C then some (s.unitsIn 136)
    else if o = 0x068 then
      some (offsBytes (s.calShown.offs.take 7) + (2 * s.fld R.CAL_SEL 15 3 + s.calShown.active) * 2 ^ 56)
    else none
  | .health =>
    if o = 0x05C then some (s.media.segs.count fun _ g => g.refresh && (decide (g.state = .open) || decide (g.state = .closed)))
    else if o = 0x060 then some (s.media.bgs.count fun _ b => decide (b.st = .suspect)) else none
  | .stripe =>
    let pool := s.fld R.SP_POOL_SEL 0 4
    (s.pool pool).bind (s.viewPool pool o)
  | .repl =>
    if o = 0x068 then
      some (min (s.now - s.rd64 (R.RP_LAST_APPLIED (s.fld R.RP_GROUP_SEL 0 6))).toNat (2 ^ 32 - 1)) else none
  | .keyslot =>
    let k := s.mem.keys.find (s.fld R.KS_SEL 0 6)
    if o = 0x054 then some (k.elim 0 KeySlot.word) else if o = 0x058 then some (k.elim 0 KeySlot.kcv) else none
  | .guard =>
    let e := s.guard.ladder[s.fld R.GD_Q_SEL 0 6]?
    if o = 0x040 then some s.ladderWord
    else if o = 0x048 then some (e.elim 0 LadEntry.word0)
    else if o = 0x04C then some (e.elim 0 fun x => x.page + x.count * 2 ^ 16)
    else if o = 0x050 then some (e.elim 0 fun x => x.first.toNat)
    else if o = 0x0A4 then some (s.actRunWord (s.fld R.GD_ACT_SEL 0 4))
    else if o = 0x0AC then some (s.guard.acts.filter fun a => decide (a.st = .queued)).length else none
  | _ => none

/-- The view at a BAR offset (R15, R50). -/
def State.viewAt (s : State) (off : Nat) : Option Nat :=
  match pageAt off with
  | none => none
  | some (r, p) =>
    if off % 0x1000 = 0x010 then some (Machine.putBit (s.rd (R.PG_STATE p)) 8 (s.busy p)).toNat
    else s.view (p - r.first) (off % 0x1000) r.kind

/-! ### Reads -/

/-- The upper half of the register whose `_LO` half is at a BAR offset, at this instant (R15). -/
def State.hiOf (s : State) (off k : Nat) : Word :=
  match s.viewAt off with
  | some v => BitVec.ofNat 32 (v / 2 ^ 32)
  | none => s.rdShadow (k + 4)

/-- What a read of a BAR offset returns (R14 to R16, R54; an `_HI` half keeps what the last read of its `_LO` latched, also for a second
read of it: DESIGN CHOICE, assumption log 73): WO and RSVD read zero, an RWS register its shadow, an `_HI` half what the
read of its `_LO` latched (CAL_SUBSEC what the read of CAL_SEC_LO latched, R47), and a register that shows other state what that state holds. -/
def State.busRead (s : State) (off : Nat) : Word :=
  match pageAt off with
  | none => 0
  | some (r, _) =>
    match rowAt r (off % 0x1000) with
    | none => 0
    | some (row, _, hi) =>
      let k := s.keyOf row off
      if isRsvd off ∨ (R.KS_DATA 0 ≤ off ∧ off ≤ R.KS_DATA 15) then 0
      else if hi then (s.hiLatch.find k).getD (s.hiOf (off - 4) (k - 4))
      else if k = R.CAL_SUBSEC then (s.hiLatch.find k).getD (s.rd k)
      else (s.viewAt off).elim (s.rdShadow k) (BitVec.ofNat 32)

/-- A register that shows what the spec gives no value of: a free value, used up by the read (assumption log 3): the eye that a lane
measures (R538), and the queued work of FTL_BACKREF_BACKLOG (R297). -/
def showsFree (off : Nat) : Bool :=
  decide (off % 0x1000000 = R.FTL_BACKREF_BACKLOG 0)
    || (List.range 8).any fun n => decide (off = R.ETH_SD_EYE n 0 ∨ off = R.ETH_SD_EYE n 1)

/-- What a read leaves behind (R15, R16, R47): an RC counter clears, a read of `_LO` latches its `_HI` half, and CAL_SEC_LO latches
CAL_SUBSEC as well. A value that is free is used up (assumption log 3). -/
def State.readDone (s : State) (off : Nat) : State :=
  match pageAt off with
  | none => s
  | some (r, _) =>
    match rowAt r (off % 0x1000) with
    | none => s
    | some (row, _, hi) =>
      let k := s.keyOf row off
      let s1 := if row.wide ∧ hi = false then
        let l := s.hiLatch.put (k + 4) (s.hiOf off k)
        { s with hiLatch := if k = R.CAL_SEC then l.put R.CAL_SUBSEC (s.rd R.CAL_SUBSEC) else l } else s
      let s2 := if row.rc ≠ 0 then s1.wr k (s1.rd k &&& ~~~(halfMask hi row.rc)) else s1
      if showsFree off then s2.useFree else s2

/-- A 4-byte read (R14 to R16, R53, R54). -/
def State.read4 (s : State) (off : Nat) : State :=
  if accessOk off 4 = false then s.accessBad off 4 false
  else
    match pageAt off with
    | none => (s.emit (.regRead off 0)).unmapped
    | some _ => (s.emit (.regRead off (s.busRead off).toNat)).readDone off

/-- An 8-byte read aligned to an `_LO` register returns the latched pair (R15, R53). -/
def State.read8 (s : State) (off : Nat) : State :=
  let s1 := s.readDone off
  (s1.emit (.regRead off (pair (s.busRead off) (s1.busRead (off + 4))).toNat)).readDone (off + 4)

/-- RC_REGISTER_READ (R16): an RC counter returns its value and clears. -/
def execRcRegisterRead (off : Nat) (s : State) : Out := .next (s.read4 off)

/-- LO_REGISTER_READ (R15): a read of an `_LO` register latches its `_HI` half of the same instant; CAL_SEC_LO latches
CAL_SUBSEC as well (R47). -/
def execLoRegisterRead (off : Nat) (s : State) : Out := .next (s.read4 off)

/-- A read of any kind through the service port (R491): a read of the words at HL_REC and SP_LOSS_DATA latches what it names first
(R327, R358). -/
def State.readLatch (s : State) (off : Nat) : State :=
  if off = R.HL_REC 0 then s.latchHealth else if off = R.SP_LOSS_DATA 0 then s.latchLoss else s

end Sys2Proof.Machine
end

