-- ==== Sys2Proof/Machine/Writes.lean ====
section
/-! DEFINITION. Register writes (R14 to R17, R53, R54, R57): the access codes, and the registers whose bits act beside them. -/

namespace Sys2Proof.Machine

/-- The state that a command answers. -/
def Out.st (o : Out) (s : State) : State := match o with | .next t => t | _ => s

/-! ### Registers whose bits act by commands of their own -/

/-- Registers whose writable bits act by commands of their own, and which a tack entry may name all the same (R481). -/
def tackOwn (off : Nat) : Bool :=
  decide (off = R.STR_CTRL ∨ off = R.CAL_CTRL ∨ off = R.LIFE_CTRL ∨ off = R.CHIP_INJ_EN ∨ off = R.EVT_ARM ∨ off = R.EVT_ARM + 4
    ∨ off = R.MOD_RST ∨ off = R.GSI_TX_PROD ∨ off = R.TL_CTRL)
    || (List.range 8).any (fun n => decide (off = R.ETH_MODE n)) || (List.range 24).any fun n => decide (off = R.MLK_CTRL n)

/-- TRAIN of a link takes a value: 0 holds the link in electrical idle, and 1 lets it train (R259, R364); a tack entry's TRAIN is acted
on in step B6 (`now` false). -/
def State.trainWrite (s : State) (k : LinkEnd) (on now : Bool) : State :=
  let s1 := s.putBit k.ctrl 0 on
  if now = false then s1
  else if on then
    match k with
    | .module n => s1.trainStart n
    | .torlux => if s1.linkState .torlux = lsDown then s1.setLinkState .torlux lsTrain else s1
  else if s1.linkState k = lsDown then s1 else s1.linkGoesDown k

/-- What a write of a register does whose bits act by commands of their own; `now` is false for a tack entry. -/
def State.ownAct (s : State) (off : Nat) (v : Word) (now : Bool) : State :=
  if off = R.STR_CTRL then (if Machine.bit v 0 then (s.putBit R.STR_CTRL 0 true).lateCheck else s.ungate)
  else if off = R.CAL_CTRL then (if Machine.bit v 0 then s.putBit R.CAL_CTRL 0 true else s)
  else if off = R.LIFE_CTRL then (if Machine.bit v 0 then s.startLifeSave.putBit R.LIFE_CTRL 0 true else s)
  else if off = R.CHIP_INJ_EN then Out.st (execChipInjEn v s) s
  else if off = R.EVT_ARM ∨ off = R.EVT_ARM + 4 then s.wr off (s.rd off ||| v)
  else if off = R.MOD_RST then
    (List.range 24).foldl (fun s n =>
      if Machine.bit v n = s.bit R.MOD_RST n then s
      else if Machine.bit v n then Out.st (execModRstAssert n s) s
      else if now then Out.st (execModRstRelease n true s) s else s) s
  else if off = R.GSI_TX_PROD then Out.st (execGsiTxProdWrite v.toNat s) s
  else if off = R.TL_CTRL then s.trainWrite .torlux (Machine.bit v 0) now
  else
    match (List.range 8).find? fun n => decide (off = R.ETH_MODE n) with
    | some n => Out.st (execEthModeWrite n v s) s
    | none =>
      match (List.range 24).find? fun n => decide (off = R.MLK_CTRL n) with
      | some n => s.trainWrite (.module n) (Machine.bit v 0) now
      | none => s

/-- A write of the header registers whose bits act by commands of their own: PG_CTRL, PG_EVENT_FORCE, PG_ERR_FIRST, PG_INJECT
(R59, R61, R69, R76). -/
def State.headerAct (s : State) (p o : Nat) (v : Word) : State :=
  if o = 0x00C then
    let s1 := (s.putBit (R.PG_CTRL p) 0 (Machine.bit v 0)).putBit (R.PG_CTRL p) 2 (Machine.bit v 2)
    let s2 := if Machine.bit v 3 then Out.st (execPgCommit p s1) s1 else s1
    if Machine.bit v 1 then Out.st (execPgSoftReset p s2) s2 else s2
  else if o = 0x01C then Out.st (execPgEventForce p v s) s
  else if o = 0x020 then (if Machine.bit v 31 then Out.st (execErrRearm p s) s else s)
  else if o = 0x030 then s.injectWrite p v
  else s

/-- A command register is written with an OP that its table does not list: the command is refused with INVALID_FIELD and changes
nothing (R129, R298, R359, R399, R400, R447); while BUSY = 1 the write is discarded. A listed OP acts by its own command. -/
def State.opAct (s : State) (off : Nat) (v : Word) : State :=
  let op := Machine.fld v 0 4
  if off = R.RMA_CMD ∧ (op = 0 ∨ 6 < op) then
    (if s.bit R.RMA_CMD_STATUS 16 then s.raise 21 0x0100 0 0 else s.rmaDone St.invalidField)
  else if off = R.FTL_CMD ∧ (op = 0 ∨ 6 < op) then
    (if s.bit R.FTL_CMD_STATUS 16 then s.writeDiscarded 137 else s.ftlAnswer St.invalidField false)
  else if off = R.SP_CMD ∧ (op = 0 ∨ 7 < op) then
    (if s.bit R.SP_CMD_STATUS 16 then s.writeDiscarded 141 else s.spAnswer St.invalidField false)
  else if off = R.RP_CMD ∧ (op = 0 ∨ 7 < op) then
    (if s.bit R.RP_CMD_STATUS 16 then s.writeDiscarded 154 else s.rpAnswer St.invalidField)
  else if off = R.TD_CMD ∧ (op = 0 ∨ 5 < op) then Out.st (execTdCmdInvalid s) s
  else if off = R.KS_CMD ∧ (Machine.fld v 0 3 = 0 ∨ 4 < Machine.fld v 0 3) then Out.st (execKsInvalidOp s) s
  else s

/-! ### Writes -/

/-- A 4-byte write of a BAR offset by PF0, or by the service port (`path` 1) (R14 to R17, R53, R54, R57, R63). -/
def State.write4 (s : State) (off : Nat) (v : Word) (path : Nat := 0) : State :=
  if accessOk off 4 = false then s.accessBad off 4 true
  else
    match pageAt off with
    | none => s.unmapped
    | some (_, p) =>
      let o := off % 0x1000
      if s.refuses p ∧ o ≠ 0x014 ∧ o ≠ 0x018 ∧ o ≠ 0x020 then s.writeDiscarded p
      else
        let s1 := (s.busWrite off v path).headerAct p o v
        if tackOwn off then s1.ownAct off v true else s1.opAct off v

/-- REGISTER_WRITE (R16): a register of PF0's BAR, of a function's window (R82, R95), or the mask of an MSI-X entry (R74). -/
def execRegisterWrite (t : RegTarget) (v : Word) (s : State) : Out :=
  match t with
  | .bar off => .next (s.write4 off v)
  | .window f o => .next (s.windowWrite f o v)
  | .msix f vec => .next (s.msixControl f vec (Machine.bit v 0))

/-- HI_REGISTER_WRITE (R15): a writable pair takes effect as one value when `_HI` is written. -/
def execHiRegisterWrite (off : Nat) (v : Word) (s : State) : Out := .next (s.write4 off v)

/-- ACCESS_SIZE (R53): an access of `size` bytes, a write where it gives a value. One that R53 permits acts: an 8-byte read returns the
latched pair, an 8-byte write is a write of `_LO` and then of `_HI`. Any other is discarded, reads all ones, and captures ACCESS_SIZE. -/
def execAccessSize (off size : Nat) (write : Option DWord) (s : State) : Out :=
  .next (if accessOk off size = false then s.accessBad off size write.isSome
    else
      match write with
      | none => if size = 8 then s.read8 off else s.read4 off
      | some d => if size = 8 then (s.write4 off (loHalf d)).write4 (off + 4) (hiHalf d) else s.write4 off (loHalf d))

end Sys2Proof.Machine
end

