-- ==== Sys2Proof/Machine/Service.lean ====
section
/-! DEFINITION. The service port: frames, Mysyn sessions and messages (R488 to R495, R506). -/

namespace Sys2Proof.Machine

/-! ### Frames and messages (R488 to R491) -/

/-- SVC_FRAME_RX (R488): only three kinds of frame addressed to SVC_MAC or broadcast are taken; a Mysyn message then acts by
its own command. -/
def execSvcFrameRx (kind : SvcFrame) (toMe : Bool) (s : State) : Out :=
  .next (if toMe = false ∨ kind = .other then s.count R.SVC_RX_DROP else s)

/-- SVC_LINK_CHANGE (R506). -/
def execSvcLinkChange (up : Bool) (speed : Nat) (full : Bool) (s : State) : Out :=
  .next ((s.putFld R.SVC_STATUS 0 4 (if up then 1 + speed % 4 * 2 + full.toNat * 8 else 0)).event 8 0)

/-- The header of a message (R490). -/
def mysynHead (typ flags session seq len status : Nat) : List Byte :=
  [0x4D, 0x59, 0x53, 0x4E, 0x01] ++ leBytes 1 typ ++ leBytes 1 flags ++ leBytes 1 0 ++ leBytes 4 session ++ leBytes 4 seq
    ++ leBytes 2 len ++ leBytes 2 status ++ leBytes 4 0

/-- The MAC of a message: the first 16 bytes of HMAC-SHA-256 under the session key (R490). -/
def mysynMac (key bytes : List Byte) : List Byte := (hmacSha256 key bytes).take 16

/-- A response (R490): its MAC is zero where the session has no key yet. -/
def mysynResponse (key : Option (List Byte)) (typ session seq status : Nat) (payload : List Byte) : List Byte :=
  let b := mysynHead typ 1 session seq payload.length status ++ payload
  b ++ (match key with | some k => mysynMac k b | none => List.replicate 16 0)

/-- A message came over IPv4: the address of its source is IPv4-mapped, byte 0 the least (R507). -/
def MysynMsg.overIpv4 (m : MysynMsg) : Bool := decide (m.source / 2 ^ 16 % 2 ^ 96 = 0xFFFF * 2 ^ 80)

/-- The path a message came by is enabled: the console, or the network with an address of its family (R489, R506). -/
def State.svcPath (s : State) (m : MysynMsg) : Bool :=
  if m.uart then s.bit R.SVC_CTRL 1
  else s.bit R.SVC_CTRL 0 && (if m.overIpv4 then s.rd R.SVC_IPV4 != 0 else (List.range 4).any fun i => s.rd (R.SVC_IPV6 i) != 0)

/-- The head is in the boot ROM's recovery mode (R503). -/
def State.recovery (s : State) : Bool := decide (s.fld R.FW_RUN 1 2 = 3)

/-! ### Sessions (R493 to R495) -/

/-- The sessions take a value, and SVC_STATUS.SESSIONS follows. -/
def State.setSessions (s : State) (l : Amap Session) : State :=
  ({ s with svc := { s.svc with sessions := l } }).putFld R.SVC_STATUS 4 3 l.length

/-- An SVC_SESSION record (R507): EVENT 0 authed, 1 closed, 2 closed for failures, 3 idle. -/
def State.sessionRecord (s : State) (x : Session) (ev : Nat) : State :=
  s.record 0x0016 0 8 (leBytes 1 ev ++ leBytes 1 x.slot ++ leBytes 1 x.maintain.toNat ++ leBytes 1 0
    ++ leBytes 16 (x.source / 65536))

/-- A session is closed (R494); staging that it began is abandoned (R499). -/
def State.sessionClose (s : State) (i : Nat) (x : Session) (ev : Nat) : State :=
  let s1 := (s.setSessions (s.svc.sessions.drop i)).sessionRecord x ev
  match s1.svc.staging with
  | some g => if g.session = x.id then s1.stagingAbort else s1
  | none => s1

/-- A message that fails its checks (R494): the third of a session closes it. -/
def State.mysynFail (s : State) (x : Option (Nat × Session)) : State :=
  let s1 := ((s.count R.SVC_AUTH_FAIL).event 8 2).raise 8 0x0100 0 0
  match x with
  | none => s1
  | some (i, x) =>
    if 3 ≤ x.fails + 1 then s1.sessionClose i x 2
    else s1.setSessions (s1.svc.sessions.put i { x with fails := x.fails + 1 })

/-- A message of TYPE `typ` is checked (R494) and placed in its session's order (R495): what is to be executed, if anything.
A repeat is answered again from the cache. -/
def State.mysynGate (s : State) (typ : Nat) (auth : Bool) (m : MysynMsg) : State × Option (Nat × Session) :=
  if s.svcPath m = false then (s, none)
  else
    match s.svc.sessions.first fun _ x => decide (x.id = m.session) with
    | none => (s.mysynFail none, none)
    | some (i, x) =>
      if x.source ≠ m.source ∨ (x.authed || auth) = false
          ∨ m.mac ≠ mysynMac x.key (mysynHead typ 0 m.session m.seq m.payload.length 0 ++ m.payload) then
        (s.mysynFail (some (i, x)), none)
      else
        let x1 := { x with lastValid := s.now }
        let s1 := s.setSessions (s.svc.sessions.put i x1)
        if m.seq = x.lastSeq + 1 then (s1.count R.SVC_MSG_RX, some (i, x1))
        else if m.seq = x.lastSeq then
          match x.cached with
          | some (t, st, p) => (s1.emit (.mysyn m.source (mysynResponse (some x.key) t x.id m.seq st p)), none)
          | none => (s1, none)
        else (s1, none)

/-- A request is answered, and the answer kept for repeats (R495). -/
def State.mysynReply (s : State) (i : Nat) (x : Session) (m : MysynMsg) (typ status : Nat) (payload : List Byte) : State :=
  let s1 := s.emit (.mysyn m.source (mysynResponse (some x.key) typ x.id m.seq status payload))
  s1.setSessions (s1.svc.sessions.upd i fun y => { y with lastSeq := m.seq, cached := some (typ, status, payload) })

/-- A request runs (R491, R503, R523): its role is checked, a stopped head answers BUSY_RETRY to what it does not take, and the
answer of the boot ROM's recovery mode to what it does not accept is not stated (a free value, assumption log 3). -/
def State.mysynRun (s : State) (typ : Nat) (maintain okStopped okRecovery : Bool) (m : MysynMsg)
    (f : State → Session → State × Nat × List Byte) : State :=
  match s.mysynGate typ false m with
  | (s1, none) => s1
  | (s1, some (i, x)) =>
    if s1.power.stopped ∧ okStopped = false then s1.mysynReply i x m typ St.busyRetry []
    else if s1.recovery ∧ okRecovery = false then s1.useFree.mysynReply i x m typ (s1.freeNat % 65536) []
    else if maintain ∧ x.maintain = false then s1.mysynReply i x m typ St.invalidField []
    else
      let (s2, st, p) := f s1 x
      s2.mysynReply i x m typ st p

/-- The slot that an OPEN names serves sessions, and MAINTAIN where it asks for that (R493). -/
def State.openOk (s : State) (slot role : Nat) : Bool :=
  let k := s.keySlot slot
  decide (slot < 64 ∧ k.st ≠ .empty) && k.use.testBit 1
    && (decide (role ≠ 1) || (s.rd64 R.SVC_MAINT_MAP).getLsbD slot)

/-- MYSYN_OPEN (R493, R494): answered with CHALLENGE, which carries a new SESSION and a CHIP_NONCE from the entropy source. -/
def execMysynOpen (m : MysynMsg) (id : Nat) (nonce : List Byte) (s : State) : Out :=
  if s.svcPath m = false then .next s
  else
    let sec := s.calSec
    let n := if s.svc.opens.1 = sec then s.svc.opens.2 + 1 else 1
    let s0 := { s with svc := { s.svc with opens := (sec, n) } }
    if 16 < n then .next (s0.count R.SVC_RX_DROP)
    else
      match s.svc.sessions.freeKey 4 with
      | none => .next (s0.count R.SVC_RX_DROP)
      | some i =>
        let s1 := s0.count R.SVC_MSG_RX
        let slot := leAt m.payload 0 1
        let role := leAt m.payload 1 1
        if m.payload.length ≠ 20 ∨ s.openOk slot role = false then
          .next (s1.emit (.mysyn m.source (mysynResponse none 0x01 0 m.seq St.invalidField [])))
        else
          let key := hmacSha256 (s.keySlot slot).key
            ([0x4D, 0x59, 0x53, 0x4E] ++ (m.payload.drop 4).take 16 ++ nonce ++ leBytes 4 id)
          let x : Session := { id := id, slot := slot, maintain := decide (role = 1), source := m.source, key := key,
                               authed := false, lastSeq := 0, cached := none, fails := 0, lastValid := s.now }
          .next ((s1.setSessions (s1.svc.sessions.put i x)).emit (.mysyn m.source (mysynResponse none 0x02 id m.seq 0
            (nonce ++ leBytes 1 s.headId ++ leBytes 1 (s.rdN R.CHIP_STEP) ++ leBytes 2 0))))

/-- MYSYN_AUTH (R493): the session is AUTHED. -/
def execMysynAuth (m : MysynMsg) (s : State) : Out :=
  match s.mysynGate 0x03 true m with
  | (s1, none) => .next s1
  | (s1, some (i, x)) =>
    let s2 := if x.authed then s1
      else ((s1.setSessions (s1.svc.sessions.put i { x with authed := true })).sessionRecord x 0).event 8 1
    .next (s2.mysynReply i x m 0x03 St.success (leBytes 4 (s.rdN R.FW_RUN_BUILD) ++ leBytes 1 s.role ++ leBytes 3 0))

/-- MYSYN_CLOSE (R491): answered, and the session ends. -/
def execMysynClose (m : MysynMsg) (s : State) : Out :=
  match s.mysynGate 0x04 false m with
  | (s1, none) => .next s1
  | (s1, some (i, x)) => .next ((s1.mysynReply i x m 0x04 St.success []).sessionClose i x 1)

/-- SESSION_IDLE_TIMEOUT (R494): no valid message for SVC_IDLE strides. -/
def execSessionIdleTimeout (i : Nat) (s : State) : Out :=
  match s.svc.sessions.find i with
  | none => .next s
  | some x => .next (if s.since x.lastValid < s.rdN R.SVC_IDLE then s else s.sessionClose i x 3)

/-! ### Registers, studbook, tack image (R476, R483, R491, R492) -/

/-- One word read by the service port, with what a read does (R15, R16, R53, R54). -/
def State.relayRead (s : State) (off : Nat) : State × Word :=
  if off % 4 ≠ 0 then (s.raise 0 0x0002 0 0, BitVec.allOnes 32)
  else
    match pageAt off with
    | none => (s.unmapped, 0)
    | some _ =>
      let s1 := s.readLatch off
      (s1.readDone off, s1.busRead off)

/-- Consecutive words read, in order. -/
def State.relayReads (s : State) : Nat → Nat → State × List Byte
  | 0, _ => (s, [])
  | n + 1, off =>
    let (s1, w) := s.relayRead off
    let (s2, r) := s1.relayReads n (off + 4)
    (s2, leBytes 4 w.toNat ++ r)

/-- MYSYN_REG_READ (R491, R492). -/
def execMysynRegRead (m : MysynMsg) (s : State) : Out :=
  .next (s.mysynRun 0x10 false false false m fun s _ =>
    let n := leAt m.payload 4 2
    if m.payload.length ≠ 6 ∨ n = 0 ∨ 256 < n then (s, St.invalidField, [])
    else
      let (s1, r) := s.relayReads n (leAt m.payload 0 4)
      (s1, St.success, r))

/-- Consecutive words written by the service port, in order. -/
def State.relayWrites (s : State) : Nat → List Byte → State
  | off, b0 :: b1 :: b2 :: b3 :: bs =>
    (s.write4 off (BitVec.ofNat 32 (ofLeBytes [b0, b1, b2, b3])) 1).relayWrites (off + 4) bs
  | _, _ => s

/-- MYSYN_REG_WRITE (R491, R492): a request that names KS_DATA is refused whole. A word that names a command register acts by
that register's own command, which follows (assumption log 45). -/
def execMysynRegWrite (m : MysynMsg) (s : State) : Out :=
  .next (s.mysynRun 0x11 true false false m fun s _ =>
    let off := leAt m.payload 0 4
    let n := leAt m.payload 4 2
    if m.payload.length ≠ 8 + 4 * n ∨ n = 0 ∨ 350 < n then (s, St.invalidField, [])
    else if off < R.KS_DATA 15 + 4 ∧ R.KS_DATA 0 < off + 4 * n then (s, St.invalidField, [])
    else (s.relayWrites off (m.payload.drop 8), St.success, []))

/-- MYSYN_STB_READ (R476, R491). -/
def execMysynStbRead (m : MysynMsg) (s : State) : Out :=
  .next (s.mysynRun 0x20 false true false m fun s _ =>
    let off := leAt m.payload 0 8
    let n := leAt m.payload 8 2
    if m.payload.length ≠ 11 ∨ off % 4 ≠ 0 ∨ n < 4 ∨ 1024 < n ∨ n % 4 ≠ 0 ∨ (s.rd64 R.STB_END).toNat ≤ off then
      (s, St.invalidField, [])
    else (s, St.success, s.stbRead off n))

/-- Bytes of a tack copy's 256 KiB: erased flash beyond what it holds (R480). -/
def tackBytes (copy : List Byte) (off n : Nat) : List Byte := (List.range n).map fun i => copy.getD (off + i) 0xFF

/-- MYSYN_TACK_READ (R491): COPY 0 in use, 1 A, 2 B. With defaults there is no image in use: the status is not stated (a free
value, assumption log 3). -/
def execMysynTackRead (m : MysynMsg) (s : State) : Out :=
  .next (s.mysynRun 0x30 false false false m fun s _ =>
    let copy := leAt m.payload 0 1
    let off := leAt m.payload 4 4
    let n := leAt m.payload 8 2
    if m.payload.length ≠ 10 ∨ 2 < copy ∨ n = 0 ∨ 1024 < n ∨ 262144 < off + n then (s, St.invalidField, [])
    else if copy = 0 ∧ s.tack.inUse = [] then (s.useFree, s.freeNat % 65536, [])
    else (s, St.success, tackBytes (if copy = 0 then s.tack.inUse else if copy = 1 then s.tack.copyA else s.tack.copyB) off n))

/-- Bytes staged at an offset; what was never staged is 0. -/
def stageAt (buf : List Byte) (off : Nat) (data : List Byte) : List Byte :=
  buf.take off ++ List.replicate (off - buf.length) 0 ++ data ++ buf.drop (off + data.length)

/-- MYSYN_TACK_WRITE (R483, R491): up to 256 KiB are staged; FINAL applies R483 to them. -/
def execMysynTackWrite (m : MysynMsg) (readBack : Option (List Byte)) (bothB : Bool) (s : State) : Out :=
  .next (s.mysynRun 0x31 true false false m fun s _ =>
    let off := leAt m.payload 0 4
    let data := m.payload.drop 8
    if data.length = 0 ∨ 1024 < data.length ∨ 262144 < off + data.length then (s, St.invalidField, [])
    else
      let s1 := { s with svc := { s.svc with tackBuf := stageAt s.svc.tackBuf off data } }
      if leAt m.payload 4 1 = 1 then
        let (s2, r) := s1.tackWrite s1.svc.tackBuf readBack bothB
        (s2, r, [])
      else (s1, St.success, []))

/-- MYSYN_RESET (R491, R521, R523): TYPE 0x01 WARM, 0x11 WARM with FORCE; the answer is sent before the reset. What a request
that is discarded is answered is not stated (a free value, assumption log 3). -/
def execMysynReset (m : MysynMsg) (s : State) : Out :=
  match s.mysynGate 0x50 false m with
  | (s1, none) => .next s1
  | (s1, some (i, x)) =>
    let t := leAt m.payload 0 1
    if x.maintain = false ∨ m.payload.length ≠ 4 ∨ (t ≠ 0x01 ∧ t ≠ 0x11) then .next (s1.mysynReply i x m 0x50 St.invalidField [])
    else if s1.warmMay (decide (t = 0x11)) true then .next ((s1.mysynReply i x m 0x50 St.success []).powerReset rstWarm)
    else .next ((s1.writeDiscarded 0).useFree.mysynReply i x m 0x50 (s1.freeNat % 65536) [])

end Sys2Proof.Machine
end

