-- ==== Sys2Proof/Machine/Firmware.lean ====
section
/-! DEFINITION. Firmware images: staging, slots, activation and commit (R496 to R504, R506, R507). -/

namespace Sys2Proof.Machine

/-! ### Images and slots (R496, R497, R502) -/

/-- Are `n` bytes of an image at an offset zero? -/
def zeroAt (bs : List Byte) (o n : Nat) : Bool := ((bs.drop o).take n).all fun b => decide (b = 0)

/-- BUILD, SEC_EPOCH, LENGTH and BODY_HASH of a header (R496). -/
def imgBuild (h : List Byte) : Nat := leAt h 12 4
def imgEpoch (h : List Byte) : Nat := leAt h 16 2
def imgLength (h : List Byte) : Nat := leAt h 20 4
def imgHash (h : List Byte) : List Byte := (h.drop 32).take 48

/-- The floor (R497). -/
def State.fwFloor (s : State) : Nat := min s.svc.fuses 128

/-- The installed image's slot: the COMMITTED slot with the higher SEQ (R497). -/
def State.fwInstalled (s : State) : Option Bool :=
  let a := decide (s.svc.slotA.st = .committed)
  let b := decide (s.svc.slotB.st = .committed)
  if a && b then some (decide (s.svc.slotA.seq < s.svc.slotB.seq)) else if a then some false else if b then some true else none

/-- FW_INST_BUILD and FW_FLOOR follow (R506). -/
def State.fwShow (s : State) : State :=
  (s.wrN R.FW_INST_BUILD (s.fwInstalled.elim 0 fun b => (s.fwSlot b).build)).wrN R.FW_FLOOR
    (s.fwFloor + (128 - s.fwFloor) * 2 ^ 8)

/-- Slot of the running image: true for B. -/
def State.fwRunSlot (s : State) : Bool := s.bit R.FW_RUN 0

/-- FW_RUN.MODE (R506). -/
def State.fwMode (s : State) : Nat := s.fld R.FW_RUN 1 2

/-- Checks 1 to 7 of R498 on a header; 0 where all pass. -/
def State.fwHeaderCheck (s : State) (h : List Byte) : Nat :=
  if h.length ≠ 512 ∨ h.take 4 ≠ [0x58, 0x47, 0x46, 0x57] ∨ leAt h 7 1 ≠ 1
      ∨ (zeroAt h 19 1 && zeroAt h 28 4 && zeroAt h 177 15 && zeroAt h 288 224) = false then 0x01
  else if leAt h 4 2 ≠ 0x7240 ∨ s.rdN R.CHIP_STEP % 256 < leAt h 18 1 then 0x02
  else if leAt h 6 1 ≠ 1 then 0x03
  else if imgLength h < 4 ∨ 50265600 < imgLength h ∨ imgLength h % 4 ≠ 0 then 0x04
  else if sha384 ((h.drop 80).take 97) ≠ s.svc.otpKeyHash then 0x05
  else if Config.ecdsaP384 (h.take 192) ((h.drop 80).take 97) ((h.drop 192).take 96) = false then 0x06
  else if imgEpoch h < s.fwFloor then 0x07
  else 0

/-- Check 8 of R498: in recovery mode the installed BUILD counts as 0 (R503). -/
def State.fwVersionOk (s : State) (h : List Byte) : Bool :=
  match s.fwInstalled with
  | none => decide (0 < imgBuild h)
  | some b =>
    let inst := if s.recovery then 0 else (s.fwSlot b).build
    decide (inst < imgBuild h) || (decide (imgBuild h = inst) && decide (imgHash h = imgHash (s.fwSlot b).header))

/-- Check 9 of R498, the activity being entered where it is admitted (R466). -/
def State.fwAdmit (s : State) : State × Bool :=
  if s.fwMode = 1 ∨ s.svc.staging.isSome then (s, false)
  else
    let (s1, d) := s.actStart (Activity.of actFwUpdate 0)
    if d = decConcurrent ∨ d = decPreempted then (s1, true)
    else (s1.actEnd actFwUpdate 0 fun _ => true, false)

/-! ### Staging (R498 to R500) -/

/-- A header is refused (R498, R507). -/
def State.fwRefuse (s : State) (h : List Byte) (result : Nat) : State :=
  ((s.record 0x0011 0 9 (leBytes 1 result ++ leBytes 3 0 ++ leBytes 4 (imgBuild h) ++ leBytes 2 (imgEpoch h)
    ++ leBytes 2 s.fwFloor)).event 9 1).raise 9 0x0100 0 0

/-- The target slot: the slot other than the installed one; without one, slot A (assumption log 46). -/
def State.fwTarget (s : State) : Bool := s.fwInstalled.elim false fun b => !b

/-- MYSYN_IMAGE_BEGIN (R498): the checks in order; an accepted header names the target slot, whose record becomes EMPTY. -/
def execMysynImageBegin (m : MysynMsg) (s : State) : Out :=
  .next (s.mysynRun 0x40 true false true m fun s x =>
    let h := m.payload
    let c := s.fwHeaderCheck h
    let bad := fun (s : State) (r st : Nat) => (s.fwRefuse h r, st, leBytes 1 r ++ leBytes 3 0)
    if c ≠ 0 then bad s c St.invalidField
    else if s.fwVersionOk h = false then bad s 0x08 St.invalidField
    else
      match s.fwAdmit with
      | (s1, false) => bad s1 0x09 St.busyRetry
      | (s1, true) =>
        let t := s1.fwTarget
        let s2 := s1.setFwSlot t FwSlot.none
        let s3 := { s2 with svc := { s2.svc with staging := some { slotB := t, header := h, body := [], session := x.id } } }
        (((s3.putFld R.FW_STAGE 0 2 (1 + t.toNat * 2)).wrN R.FW_STAGE_BYTES 0).fwShow, St.success,
          leBytes 2 (t.toNat * 256) ++ leBytes 2 0))

/-- Staging ends with FLASH: SLOT_FLASH is captured (R499, R500, R507). -/
def State.stagingFlash (s : State) : State := (s.stagingEnd 0x0B).raise 9 0x0103 2 0

/-- MYSYN_IMAGE_DATA (R499, R500): bytes in order; `flashOk` is false where a program or erase failed twice. The status of the
answer that then ends staging is not stated (a free value, assumption log 3). -/
def execMysynImageData (m : MysynMsg) (flashOk : Bool) (s : State) : Out :=
  .next (s.mysynRun 0x41 true false true m fun s _ =>
    let data := m.payload.drop 4
    match s.svc.staging with
    | none => (s, St.invalidField, [])
    | some g =>
      if leAt m.payload 0 4 ≠ g.body.length ∨ data.length = 0 ∨ 1400 < data.length
          ∨ (data.length % 4 ≠ 0 ∧ g.body.length + data.length ≠ imgLength g.header) then (s, St.invalidField, [])
      else if flashOk = false then (s.stagingFlash.useFree, s.freeNat % 65536, [])
      else
        let g1 := { g with body := g.body ++ data }
        (({ s with svc := { s.svc with staging := some g1 } }).wrN R.FW_STAGE_BYTES g1.body.length, St.success, []))

/-- An image is STAGED (R499, R502, R507). -/
def State.fwStaged (s : State) (g : Staging) : State :=
  let h := g.header
  let r : FwSlot := { seq := (s.fwSlot (!g.slotB)).seq + 1, st := .staged, tries := 0, floorTarget := 0, build := imgBuild h,
                      secEpoch := imgEpoch h, header := h, body := g.body }
  let s1 := ((s.setFwSlot g.slotB r).stagingEnd 0).event 9 0
  s1.record 0x0010 0 9 (leBytes 1 g.slotB.toNat ++ (h.drop 6).take 1 ++ leBytes 2 0 ++ leBytes 4 r.build
    ++ (h.drop 8).take 4 ++ leBytes 2 r.secEpoch ++ leBytes 2 0)

/-- MYSYN_IMAGE_END (R499): length, hash, read-back, then STAGED. The STATUS beside SEQUENCE and FLASH is not stated (free
values, assumption log 3). -/
def execMysynImageEnd (m : MysynMsg) (readBackOk : Bool) (s : State) : Out :=
  .next (s.mysynRun 0x42 true false true m fun s _ =>
    let ans := fun (r : Nat) => leBytes 1 r ++ leBytes 3 0
    match s.svc.staging with
    | none => (s.useFree, s.freeNat % 65536, ans 0x0C)
    | some g =>
      if g.body.length ≠ imgLength g.header then ((s.stagingEnd 0x0C).useFree, s.freeNat % 65536, ans 0x0C)
      else if sha384 g.body ≠ imgHash g.header then (s.stagingEnd 0x0A, St.checkValue, ans 0x0A)
      else if readBackOk = false then (s.stagingFlash.useFree, s.freeNat % 65536, ans 0x0B)
      else (s.fwStaged g, St.success, ans 0))

/-- MYSYN_IMAGE_ABORT (R499): staging is abandoned; without staging it is refused as ABORT_STAGE is (R504). -/
def execMysynImageAbort (m : MysynMsg) (s : State) : Out :=
  .next (s.mysynRun 0x43 true false true m fun s _ =>
    if s.svc.staging.isSome then (s.stagingAbort, St.success, []) else (s, St.invalidField, []))

/-! ### Activation and commit (R504) -/

/-- The slot that is STAGED. -/
def State.fwStagedSlot (s : State) : Option Bool :=
  if s.svc.slotB.st = .staged then some true else if s.svc.slotA.st = .staged then some false else none

/-- What an operation of FW_CMD does: the state, its status, and whether the head then resets. -/
def State.fwActivate (s : State) (force : Bool) : State × Nat × Bool :=
  match s.fwStagedSlot with
  | none => (s, St.invalidField, false)
  | some b =>
    if force ∨ (s.role = roleStandby ∧ s.tandem.leaving) ∨ s.role = roleInit ∨ s.role = roleFenced then
      let r := s.fwSlot b
      ((s.setFwSlot b { r with st := .trial, tries := 0 }).record 0x0012 0 9
        (leBytes 1 b.toNat ++ leBytes 1 force.toNat ++ leBytes 2 0 ++ leBytes 4 r.build), St.success, true)
    else (s, St.invalidField, false)

/-- COMMIT (R504). -/
def State.fwCommit (s : State) (hold : Bool) : State × Nat × Bool :=
  let mode := s.fwMode
  if mode = 1 ∨ ((mode = 0 ∨ mode = 2) ∧ hold = false) then
    let b := s.fwRunSlot
    let r := s.fwSlot b
    let old := s.fwFloor
    let r1 := { r with st := .committed, floorTarget := if hold then r.floorTarget else r.secEpoch }
    let s1 := s.setFwSlot b r1
    let s2 := if hold then s1 else { s1 with svc := { s1.svc with fuses := max s1.svc.fuses r.secEpoch } }
    let s3 := ((if mode = 1 then s2.putFld R.FW_RUN 1 2 0 else s2).fwShow).event 9 2
    let s4 := if old < s3.fwFloor then s3.event 9 3 else s3
    (s4.record 0x0014 0 9 (leBytes 1 b.toNat ++ leBytes 3 0 ++ leBytes 4 r.build ++ leBytes 2 old ++ leBytes 2 s4.fwFloor),
      St.success, false)
  else (s, St.invalidField, false)

/-- REVERT (R504). -/
def State.fwRevert (s : State) : State × Nat × Bool :=
  if s.fwMode = 1 then
    let b := s.fwRunSlot
    (s.setFwSlot b { s.fwSlot b with st := .failed }, St.success, true)
  else (s, St.invalidField, false)

/-- ABORT_STAGE (R504). -/
def State.fwAbortStage (s : State) : State × Nat × Bool :=
  if s.svc.staging.isSome then (s.stagingAbort, St.success, false) else (s, St.invalidField, false)

/-- A write of FW_CMD by PF0: the result, and the reset where there is one (R504, R506). A stopped head stays stopped (R523). -/
def State.fwCmd (s : State) (r : State × Nat × Bool) : State :=
  if s.bit R.FW_CMD_STATUS 16 ∨ s.power.stopped then s.writeDiscarded 9
  else
    let s1 := r.1.wrN R.FW_CMD_STATUS r.2.1
    if r.2.2 then s1.powerReset rstFirmware else s1

/-- FW_ACTIVATE (R504). -/
def execFwActivate (force : Bool) (s : State) : Out := .next (s.fwCmd (s.fwActivate force))

/-- FW_COMMIT (R504). -/
def execFwCommit (hold : Bool) (s : State) : Out := .next (s.fwCmd (s.fwCommit hold))

/-- FW_REVERT (R504). -/
def execFwRevert (s : State) : Out := .next (s.fwCmd s.fwRevert)

/-- FW_ABORT_STAGE (R504). -/
def execFwAbortStage (s : State) : Out := .next (s.fwCmd s.fwAbortStage)

/-- What a word written to FW_CMD asks for (R504, R506). -/
def State.fwWord (s : State) (w : Nat) : State × Nat × Bool :=
  match w % 8 with
  | 1 => s.fwActivate (w.testBit 9)
  | 2 => s.fwCommit (w.testBit 8)
  | 3 => s.fwRevert
  | 4 => s.fwAbortStage
  | _ => (s, St.invalidField, false)

/-- MYSYN_FW_CMD (R491, R503, R504): STATUS as FW_CMD_STATUS; in recovery mode ACTIVATE alone is accepted, and what another
operation is answered there is not stated (a free value, assumption log 3). A stopped head answers BUSY_RETRY (R523). -/
def execMysynFwCmd (m : MysynMsg) (s : State) : Out :=
  match s.mysynGate 0x44 false m with
  | (s1, none) => .next s1
  | (s1, some (i, x)) =>
    let w := leAt m.payload 0 4
    if s1.power.stopped then .next (s1.mysynReply i x m 0x44 St.busyRetry [])
    else if x.maintain = false then .next (s1.mysynReply i x m 0x44 St.invalidField [])
    else if s1.recovery ∧ w % 8 ≠ 1 then .next (s1.useFree.mysynReply i x m 0x44 (s1.freeNat % 65536) [])
    else
      let (s2, st, rst) := s1.fwWord w
      let s3 := (s2.wrN R.FW_CMD_STATUS st).mysynReply i x m 0x44 st []
      .next (if rst then s3.powerReset rstFirmware else s3)

/-- MYSYN_FW_STATUS (R491): FWU registers 0x040 to 0x070. -/
def execMysynFwStatus (m : MysynMsg) (s : State) : Out :=
  .next (s.mysynRun 0x45 false true true m fun s _ =>
    (s, St.success, ((List.range 13).map fun i => leBytes 4 (s.busRead (R.FW_RUN + 4 * i)).toNat).flatten))

end Sys2Proof.Machine
end

