-- ==== Sys2Proof/Machine/Bringup.lean ====
section
/-! DEFINITION. The bring-up after a reset (R30, R45, R80, R163, R167, R168, R295, R310, R311, R402, R418, R446, R449, R463, R475,
R481, R482, R503, R512, R524, R525, R546). One command carries all of steps B1 to B7; step B8 is the JOIN commands. -/

namespace Sys2Proof.Machine

/-! ### B1: straps and the stride number -/

/-- The stride number that the calendar gives (R30). -/
def State.calStride (s : State) : Nat := s.calSec * 250000 + s.rdN R.CAL_SUBSEC * 250000 / 32768

/-- Step B1 (R30, R72, R512, R518, R527): grade, straps, feeds and presence pins are read, and the stride number is set from the calendar. The
physical function is DISABLED from here on (R85; DEDUCED, assumption log 62). -/
def State.bring1 (s : State) (f : BringupFacts) : State :=
  let s0 : State := { s with power := { s.power with porLow := false } }
  let s1 := (s0.putBit R.CHIP_HEAD 0 (decide (f.headId % 2 = 1))).putBit R.CHIP_RST_STATUS 3 f.recovery
  let s2 := ((s1.putFld R.CHIP_STEP 8 8 f.extended.toNat).putBit R.CHIP_RST_STATUS 4 f.vaonA).putBit R.CHIP_RST_STATUS 5 f.vaonB
  let s3 := s2.wr64 R.STR_NUM (BitVec.ofNat 64 s2.calStride)
  let s4 := s3.wrN R.MOD_PRSNT (f.present % 2 ^ 24)
  let s5 := (List.range 24).foldl (fun s n => s.putBit (R.MLK_STATUS n) 3 (f.present.testBit n)) s4
  s5.setFnState 0 fnDisabled

/-! ### B2: known-answer tests and the image (R449, R497, R503) -/

/-- A slot's image passes checks 1 to 7 and its body hash (R498, R503). -/
def State.fwBoots (s : State) (b : Bool) : Bool :=
  decide (s.fwHeaderCheck (s.fwSlot b).header = 0) && decide (sha384 (s.fwSlot b).body = imgHash (s.fwSlot b).header)

/-- Fuses owed to a committed record are blown (R503). -/
def State.fuseBlow (s : State) : State :=
  [false, true].foldl (fun s b =>
    if (s.fwSlot b).st = .committed then { s with svc := { s.svc with fuses := max s.svc.fuses (s.fwSlot b).floorTarget } } else s) s

/-- The slot on trial. -/
def State.fwTrial (s : State) : Option Bool :=
  [false, true].find? fun b => decide ((s.fwSlot b).st = .trial)

/-- Committed slots, the higher SEQ first (R503). -/
def State.fwCommitted (s : State) : List Bool :=
  match s.fwInstalled with
  | none => []
  | some b => b :: (if (s.fwSlot (!b)).st = .committed then [!b] else [])

/-- A slot boots in a mode: FW_RUN and its companions, and the FW_BOOT record (R503, R506, R507). -/
def State.fwBoot (s : State) (b : Bool) (mode : Nat) : State :=
  let r := s.fwSlot b
  let ver := leAt r.header 8 1 * 2 ^ 24 + leAt r.header 9 1 * 2 ^ 16 + leAt r.header 10 2
  let s1 := ((s.wrN R.FW_RUN (b.toNat + mode * 2)).wrN R.FW_RUN_BUILD r.build).wrN R.FW_RUN_VER ver
  s1.record 0x0013 0 9 (leBytes 1 b.toNat ++ leBytes 1 mode ++ leBytes 1 r.tries ++ leBytes 1 0 ++ leBytes 4 r.build)

/-- The first committed slot that passes boots; the lower SEQ in fallback; else the boot ROM stays in recovery mode (R503). -/
def State.bootCommitted (s : State) : State :=
  match s.fwCommitted.find? s.fwBoots with
  | some b => s.fwBoot b (if s.fwCommitted.head? = some b then 0 else 2)
  | none => s.wrN R.FW_RUN 6

/-- A trial that has had its boots is recorded FAILED (R503, R507). -/
def State.trialFailed (s : State) (b : Bool) : State :=
  let r := s.fwSlot b
  ((s.setFwSlot b { r with st := .failed }).record 0x0015 0 9
    (leBytes 1 b.toNat ++ leBytes 1 r.tries ++ leBytes 2 0 ++ leBytes 4 r.build)).raise 9 0x0101 2 0

/-- A trial slot's try is written before its image is read; it boots if it passes (R503). -/
def State.bootTrial (s : State) (b : Bool) : State :=
  let r := s.fwSlot b
  let s1 := if r.tries < 3 then s.setFwSlot b { r with tries := r.tries + 1 } else s
  if r.tries < 3 ∧ s1.fwBoots b then s1.fwBoot b 1
  else (if (s1.fwSlot b).tries = 3 then s1.trialFailed b else s1).bootCommitted

/-- BOOT_SELECT (R503, R512): the RECOVERY strap makes the boot ROM enter recovery mode whatever the slots hold. -/
def State.bootSelect (s : State) (recovery : Bool) : State :=
  let s1 := s.fuseBlow
  (if recovery then s1.wrN R.FW_RUN 6
   else match s1.fwTrial with
     | some b => s1.bootTrial b
     | none => s1.bootCommitted).fwShow

/-- The slot records are read from the devices, and their registers follow them (R502, R506). -/
def State.slotsShow (s : State) : State :=
  let a := FwSlot.ofRecord s.svc.recA s.svc.slotA.header s.svc.slotA.body
  let b := FwSlot.ofRecord s.svc.recB s.svc.slotB.header s.svc.slotB.body
  (({ s with svc := { s.svc with slotA := a, slotB := b } }).fwSlotShow false a).fwSlotShow true b

/-- Chip and Service pages reach RUN (R546). -/
def State.chipPagesRun (s : State) : State :=
  (List.range 12).foldl (fun s p => if s.pageState p = .off then s.setPage p .run else s) s

/-- Step B2. A known-answer failure is UNIT_FAULT on KDE (R449, R452). Its studbook records follow the recovery of the studbook. -/
def State.bring2 (s : State) (f : BringupFacts) : State :=
  let s1 := if f.katOk then s else s.raise 10 0x0106 3 0
  let s2 := (s1.slotsShow).bootSelect f.recovery
  if s2.recovery then s2.chipPagesRun else s2

/-! ### B3: studbook, lifetime counters, remount map -/

/-- STUDBOOK_RECOVER (R475): what is left in the buffer is flushed; with its CRC invalid, records beyond the devices are lost. The
shorter device is copied to in the background. -/
def State.stbRecover (s : State) : State :=
  let st := s.stud
  let d0 := if st.dev0Ok then st.dev0 else 0
  let d1 := if st.dev1Ok then st.dev1 else 0
  let top := max d0 d1
  let keep := if st.bufOk then st.recs else st.recs.filter fun r => decide (r.off + r.len ≤ top)
  let s1 := { s with stud := { st with
    recs := keep, endOff := if st.bufOk then st.endOff else top,
    lastSeq := if st.bufOk then st.lastSeq else (keep.map StbRec.seq).foldl max 0,
    dev0 := if st.dev0Ok then top else st.dev0, dev1 := if st.dev1Ok then top else st.dev1, bufOk := true } }
  let s2 := ((s1.putBit R.STB_STATUS 3 st.dev0Ok).putBit R.STB_STATUS 4 st.dev1Ok).putBit R.STB_STATUS 2 st.full
  let s3 := s2.putBit R.STB_STATUS 5 (st.dev0Ok && st.dev1Ok && decide (d0 ≠ d1))
  let s4 := s3.wr64 R.STB_FLUSHED (BitVec.ofNat 64 top)
  (if top < s4.stud.endOff then s4.startFlush else s4).stbShow

/-- Counters that start at zero (R45). -/
def LifeSlot.zero : LifeSlot :=
  { seq := 0, stride := 0, cal := 0, pwrStrides := 0, pwrCycles := 0, resets := 0, remounts := 0, tjMax := 0, tempBand := [],
    modWr := [] }

/-- The lifetime counters take a saved slot (R45, R46). -/
def State.lifeTake (s : State) (l : LifeSlot) : State :=
  let s1 := ((s.wr64 R.PWR_STRIDES l.pwrStrides).wr R.PWR_CYCLES l.pwrCycles).wr R.RESETS l.resets
  let s2 := (s1.wr R.REMOUNTS l.remounts).wr R.TJ_MAX_SEEN l.tjMax
  let s3 := (List.range 32).foldl (fun s i => s.wr (R.TEMP_BAND i) (l.tempBand.getD i 0)) s2
  (List.range 24).foldl (fun s i => s.wr64 (R.MOD_WR i) (l.modWr.getD i 0)) s3

/-- A reset is counted (R520). -/
def State.countReset (s : State) : State :=
  (if s.fld R.CHIP_RST_STATUS 0 3 = rstPowerOn then s.count R.PWR_CYCLES else s).count R.RESETS

/-- LIFE_RESTORE (R45): where the always-on island kept the live counters they stand (R518; DEDUCED, assumption log 63); else the newest
valid slot is restored, or the counters start at zero. RESTORED and FRESH tell of the last power-on, or of the loss of the island. -/
def State.lifeRestore (s : State) : State :=
  let lost := s.power.aonLost
  let tells := lost || decide (s.fld R.CHIP_RST_STATUS 0 3 = rstPowerOn)
  let s1 := match newerLife (bestLife s.clock.lifeA) (bestLife s.clock.lifeB) with
    | some (i, l) =>
      let s0 := if lost then s.lifeTake l else s
      (if tells then (s0.putBit R.LIFE_STATUS 0 lost).putBit R.LIFE_STATUS 1 false else s0).putFld R.LIFE_STATUS 16 10 i
    | none =>
      let s0 := if lost then s.lifeTake LifeSlot.zero else s
      if tells then (s0.putBit R.LIFE_STATUS 0 false).putBit R.LIFE_STATUS 1 true else s0
  s1.countReset

/-- The remount map that a bring-up uses: the always-on copy if its CRC is valid, else the newer valid NOR copy (R463). -/
def GuardSt.bestMap (g : GuardSt) : Option RmMap :=
  if g.mapAon.crcOk then some g.mapAon
  else if g.mapA.crcOk && (!g.mapB.crcOk || decide (g.mapB.seq ≤ g.mapA.seq)) then some g.mapA
  else if g.mapB.crcOk then some g.mapB
  else none

/-- Units of a KIND that a map shows RETIRED (R460). -/
def State.retiredOf (s : State) (kind : Nat) : Nat :=
  (pageNumbers.filter fun p => decide (rmKind p = some kind)).foldl (fun n p =>
    n + (if unitsAll p = 0 then (decide (s.pageState p = .retired)).toNat
         else ((List.range (unitsAll p)).filter fun u => decide (s.unitSt p u = .retired)).length)) 0

/-- Retired spare slots count as used too: a replaced unit's slot is RETIRED (R62, R80). -/
def State.inventory (s : State) (kind used : Nat) : State :=
  s.putFld (R.RM_INV kind) 16 16 (s.fld (R.RM_INV kind) 0 16 - used)

/-- REMOUNT map restore (R80, R463): mapping words, retired pages and SRAM rows, and the inventory that follows. -/
def State.mapRestore (s : State) : State :=
  match s.guard.bestMap with
  | none => s
  | some m =>
    let s1 := m.words.foldl (fun s w => s.wr w.1 w.2) s
    let s2 := m.retired.foldl (fun s p => s.putFld (R.PG_STATE p) 0 4 PState.retired.code) s1
    let s3 := s2.setGuard { s2.guard with rows := m.rows, mapAon := m }
    let s4 := (s3.putFld R.RM_SRAM_ROWS 0 16 m.rows.length).putFld R.RM_SRAM_ROWS 16 16
      ((m.rows.map fun r => r / 65536).eraseDups.filter fun x => decide (2 ≤ s3.rowsOf x)).length
    let s5 := (List.range 7).foldl (fun s k => s.inventory k (s.retiredOf k)) s4
    s5.inventory 7 m.rows.length

/-- Keys that the loss of both always-on feeds wiped are told of (R446). -/
def State.keysWiped (s : State) : State :=
  if s.power.aonLost then
    (({ s with power := { s.power with aonLost := false } }.putBit R.KS_GLOBAL 0 true).event 11 2).record 0x0009 0 11 []
  else s

/-- Step B3. -/
def State.bring3 (s : State) : State :=
  if s.recovery then s.countReset else (((s.lifeRestore).mapRestore).keysWiped).chipPagesRun

/-! ### B4: the tack image (R481, R482, R546) -/

/-- An entry names a register that software may write (R481). -/
def tackWritable (p off : Nat) : Bool :=
  match pageRowOf p with
  | none => false
  | some r =>
    match rowAt r (off % 0x1000) with
    | none => false
    | some (row, _, hi) => !isRsvd off && (tackOwn off || decide (rwsMask hi (row.rw ||| row.rws ||| row.w1c ||| row.rc) ≠ 0)
        || (ddrcPageOf off).isSome && decide (rwsMask hi row.rw ≠ 0))

/-- An entry is skipped (R481). -/
def State.tackSkips (s : State) (e : TackEntry) : Bool :=
  decide (251 ≤ e.page ∨ e.page = 11 ∨ e.page = 10 ∨ e.page = 9 ∨ e.page = 5 ∨ e.page = 6 ∨ e.off < 0x40 ∨ 0xEFC < e.off
    ∨ e.off % 4 ≠ 0)
    || !tackWritable e.page (pageBase e.page + e.off) || s.refuses e.page

/-- One entry is written as a PF0 write, or skipped and counted. The pages written are answered. -/
def State.tackEntry (d : State × List Nat × Nat) (e : TackEntry) : State × List Nat × Nat :=
  let (s, ps, skipped) := d
  if s.tackSkips e then (s, ps, skipped + 1)
  else
    let off := pageBase e.page + e.off
    let s1 := s.busWrite off e.value
    (if tackOwn off then s1.ownAct off e.value false else s1, if e.page ∈ ps then ps else e.page :: ps, skipped)

/-- ENABLE = 1 is written in a page, which starts to initialise (R546). -/
def State.enablePage (s : State) (p : Nat) : State :=
  if s.refuses p then s
  else
    let s1 := s.putBit (R.PG_CTRL p) 0 true
    if s1.pageState p = .off then s1.startInit p else s1

/-- TACK_APPLY (R481, R546): the entries in order, the RWS values together, and ENABLE in every page that the image lets start. -/
def State.tackApply (s : State) (copy : List Byte) (used : Nat) : State :=
  let es := tackEntries (tackCount copy) (copy.drop 64)
  let (s1, ps, skipped) := es.foldl State.tackEntry (s, [], 0)
  let s2 := ps.foldl State.rwsApply s1
  let s3 := (((s2.putFld R.TK_STATUS 0 2 used).wrN R.TK_SEQ (tackSeq copy)).wrN R.TK_SKIPPED (min skipped 65535))
  let eth := fun p => decide (13 ≤ p ∧ p ≤ 20)
  let on := pageNumbers.filter fun p => decide (12 ≤ p) && (!eth p || decide (p ∈ ps))
  on.foldl State.enablePage { s3 with tack := { s3.tack with inUse := copy.take (tackLen copy + 4) } }

/-- TACK_DEFAULTED (R482, R546): defaults stay, the head is HELD, and only the DDRC and MCACHE pages are enabled. -/
def State.tackDefault (s : State) : State :=
  let s1 := ((s.putFld R.TK_STATUS 0 2 2).putBit R.TK_STATUS 2 true).putBit R.TK_STATUS 5 true
  let s2 := (s1.raise 6 0x0100 2 0).record 0x000A 0 6 (leBytes 1 0 ++ leBytes 1 2 ++ leBytes 2 0 ++ leBytes 4 0 ++ leBytes 4 0)
  ((List.range 9).map (142 + ·)).foldl State.enablePage s2

/-- The copy that a bring-up uses: the valid one with the higher SEQ, copy A on a tie (R481). -/
def State.tackChoice (s : State) : Option (List Byte × Nat) :=
  let a := decide (tackCause s.tack.copyA s.headId = 0)
  let b := decide (tackCause s.tack.copyB s.headId = 0)
  if a && (!b || decide (tackSeq s.tack.copyB ≤ tackSeq s.tack.copyA)) then some (s.tack.copyA, 0)
  else if b then some (s.tack.copyB, 1)
  else none

/-- Step B4: the image or the defaults, and the POWER_ON record that describes them (R472, R481, R482). `lost` is BUFFER_LOST. -/
def State.bring4 (s : State) (lost : Bool) : State :=
  if s.recovery then s
  else
    let s1 := s.tackShow
    let one := s1.bit R.TK_STATUS 3 ^^ s1.bit R.TK_STATUS 4
    let s2 := if one then s1.raise 6 0x0101 1 0 else s1
    let s3 := match s2.tackChoice with
      | some (c, used) => s2.tackApply c used
      | none => s2.tackDefault
    s3.record 0x0001 0 0 (leBytes 1 (s3.fld R.CHIP_RST_STATUS 0 3)
      ++ leBytes 1 (lost.toNat + (s3.bit R.TK_STATUS 2).toNat * 2) ++ leBytes 4 (s3.rdN R.TK_SEQ)
      ++ leBytes 4 (s3.rdN R.FW_RUN_BUILD) ++ leBytes 2 0)

/-! ### Pages leave INIT -/

/-- Pages in INIT of a range enter RUN; one whose initialisation or self-test fails captures its error and is placed at L3 (R62). -/
def State.initRange (s : State) (f : BringupFacts) (lo n : Nat) : State :=
  ((List.range n).map (lo + ·)).foldl (fun s p =>
    if s.pageState p ≠ .init then s
    else
      match f.initFail.find? fun x => decide (x.1 = p) with
      | some (_, code, sub) => s.raise p code 3 sub
      | none => s.initComplete p) s

/-! ### B5: DIMMs (R402, R410, R418) -/

/-- The first channel that is not populated with one or two DIMMs of 1, 2 or 4 ranks, like the others and with x4 devices, or has not
trained (R402). -/
def dimmsOk (l : List DimmFacts) : Option Nat :=
  (List.range 8).find? fun ch =>
    match l[ch]?, l[0]? with
    | some d, some d0 => decide (d.cfg % 4 = 0 ∨ d.cfg % 4 = 3 ∨ d.cfg / 4 % 8 ∉ [1, 2, 4]) || !d.cfg.testBit 9 || decide (d.cfg % 1024 ≠ d0.cfg % 1024 ∨ d.speed ≠ d0.speed) || !d.trained
    | _, _ => true

/-- A channel's DC_CFG, timing set 0 and speed (R402, R410). -/
def State.dimmTake (s : State) (ch : Nat) (d : DimmFacts) : State :=
  let s1 := (s.wrN (R.DC_CFG ch) (d.cfg % 2 ^ 11)).putFld (R.DC_STATUS ch) 0 3 (d.speed % 4)
  (List.range 4).foldl (fun s i => s.wrN (R.DC_TIM 0 ch i) (d.tim.getD i 0)) s1

/-- Hard PPR of one row that was repaired since the last bring-up (R418, R472). -/
def State.hardPpr (s : State) (r : Nat × Nat) : State :=
  (s.putFld (R.DC_PPR r.1) 8 8 (min 255 (s.fld (R.DC_PPR r.1) 8 8 + 1))).dramRepair r.1 (r.2 / 2 ^ 23) (r.2 / 2 ^ 18 % 32) 1
    (r.2 % 2 ^ 18)

/-- Step B5. A channel that does not train stops the bring-up at L4 TRAIN_FAIL (R402). -/
def State.bring5 (s : State) (f : BringupFacts) : State :=
  if s.recovery then s
  else
    let s1 := (List.range 8).foldl (fun s ch => match f.dimms[ch]? with | some d => s.dimmTake ch d | none => s) s
    match dimmsOk f.dimms with
    | some ch => s1.raise (dcPage ch) 0x0107 4 0
    | none =>
      let s2 := (s1.mem.hardDue.filter fun r => decide (r ∈ f.hardOk)).foldl State.hardPpr s1
      { s2 with mem := { s2.mem with hardDue := [] } }.initRange f 142 8

/-! ### B6: links (R259, R364, R524) -/

/-- A module port trains, its module is identified and answers EPOCH_QUERY (R252, R257, R259). -/
def State.moduleUp (s : State) (x : ModUp) : State :=
  let s1 := s.trainStart x.port
  if s1.lstate x.port ≠ lsTrain ∨ ((LinkEnd.module x.port).good x.lanes).length < (LinkEnd.module x.port).reduced then s1
  else
    let k := LinkEnd.module x.port
    let s2 := (s1.linkInit k (k.good x.lanes)).putFld (R.MLK_STATUS x.port) 7 2
      (max x.speed (s1.fld (R.MLK_CTRL x.port) 2 2))
    let s3 := (s2.takeCredits k x.init).pump x.port
    let s4 := (s3.setMlink x.port { s3.mlink x.port with tags := [] }).identified x.port x.ident
    if s4.lstate x.port = lsActive then
      (s4.learnEpoch 0 x.port x.epoch0 x.holder0).learnEpoch 1 x.port x.epoch1 x.holder1
    else s4

/-- The Torlux link trains where TRAIN is set (R364). -/
def State.torluxBring (s : State) : Option (List Nat × InitMsg) → State
  | none => if s.bit R.TL_CTRL 0 then s.setLinkState .torlux lsTrain else s
  | some (w, x) =>
    if s.bit R.TL_CTRL 0 = false then s
    else if (LinkEnd.torlux.good w).length < LinkEnd.torlux.reduced then s.setLinkState .torlux lsTrain
    else (((s.setLinkState .torlux lsTrain).linkInit .torlux (LinkEnd.torlux.good w)).takeCredits .torlux x).torluxInit x

/-- Step B6. -/
def State.bring6 (s : State) (f : BringupFacts) : State :=
  if s.recovery ∨ s.tandem.fencing then s
  else
    let s1 := ((s.initRange f 12 76).initRange f 112 24).initRange f 151 4
    let s2 := (List.range 24).foldl State.trainStart s1
    let s3 := (f.modules.foldl State.moduleUp s2).torluxBring f.torlux
    f.eth.foldl (fun s p => Out.st (execEthLinkUp p s) s) s3

/-! ### B7: restore and recovery (R163, R167, R168, R295, R310, R311, R525) -/

/-- The partner holds both paddocks at a majority of ARB_SET (R525). -/
def State.standbyAhead (s : State) : Bool := s.heldByMajority 0 (1 - s.headId) && s.heldByMajority 1 (1 - s.headId)

/-- The bits flipped in an entry of a half. -/
def errsOf (errs : List (Nat × Nat × Nat)) (cseq : Nat) : List (Nat × Nat) := (errs.filter fun e => decide (e.1 = cseq)).map Prod.snd

/-- Entries of a half of this head's own image that restore: those sealed, with valid CRCs (R150, R167). -/
def restorable (head : Nat) (errs : List (Nat × Nat × Nat)) (m : Amap Part) : Amap Part :=
  m.filterMap fun x => if x.2.lock = .streaming then none else (x.2.readBack head x.1 (errsOf errs x.1)).map fun p => (x.1, p)

/-- The entries among bytes read elsewhere that restore: they are keyed by CSEQ, their grains under the policy of their volume (R150,
R167; assumption log 88). -/
def State.readImages (s : State) (l : List (List Byte)) : Amap Part :=
  (l.filter entryOk).foldl (fun m b => m.put (entryCseq b) ((readEntry b).withPolicy (s.policy (readEntry b).vol))) []

/-- The head that an entry's bytes name as its owner (R150). -/
def entryHead (b : List Byte) : Nat := leAt b 28 1 % 2

/-- An entry of the own half is restored: the next granules of the ring, its lock COMMITTED (R149, R167). -/
def State.restoreEntry (s : State) (cseq : Nat) (p : Part) : State :=
  let p1 : Part := { p with
    cmd := none, lock := .committed, subject := p.subject % 512 + 512, off := some s.cist.head, tseq := none, durable := false,
    released := false, readers := 0, acked := true }
  let s1 := { s.putPart cseq p1 with cist := { (s.putPart cseq p1).cist with head := s.cist.head + p.len } }
  match s1.cam.entries.freeKey (s1.cam.entries.length + 1) with
  | none => s1
  | some k => if k < 131072 then s1.setCam k { st := 2, prio := 0, key := p1.key, result := lockWord p1 cseq } else s1

/-- What the restore takes: the own half, the mirror half, and whether an entry failed its CRCs (R167, R168): of this head's image where its
directory is valid, with the partner's image of this head's own half where that directory is; else what the scan of both bands finds. -/
def State.restoreSet (s : State) (f : BringupFacts) : Amap Part × Amap Part × Bool :=
  let mineOk := s.cist.bandDir.elim false SpillDir.crcOk
  let mine := if mineOk then restorable s.headId f.ownErrs s.cist.bandOwn else []
  let mirror := if mineOk then restorable (1 - s.headId) f.mirErrs s.cist.bandMirror else []
  let theirs := if f.partnerDir then s.readImages f.partnerOwn else []
  let failed := (mineOk && (decide (mine.length ≠ s.cist.bandOwn.length) || decide (mirror.length ≠ s.cist.bandMirror.length)))
    || (f.partnerDir && f.partnerOwn.any fun b => !entryOk b)
  if mineOk ∨ f.partnerDir then (theirs.foldl (fun m x => if m.has x.1 then m else m.put x.1 x.2) mine, mirror, failed)
  else (s.readImages (f.scan.filter fun b => decide (entryHead b = s.headId)),
    s.readImages (f.scan.filter fun b => decide (entryHead b ≠ s.headId)), false)

/-- Batches with a CLOSE marker are staged again: their entries are applied before any later record of the group (R395). -/
def State.stagedRestore (s : State) : State :=
  if s.cist.bandDir.elim false SpillDir.crcOk then
    s.tandem.bandStaged.foldl (fun s g => s.setGroup g.1 fun x => { x with
      staged := g.2, lastStaged := (g.2.map StagedBatch.batch).foldl max 0 }) { s with tandem := { s.tandem with bandStaged := [] } }
  else s

/-- SPILL_RESTORE and SPILL_LOSS (R167, R168, R525): the own half of the newest image, merged with the partner's mirror half of it; a head
bound for STANDBY discards the own half and keeps the mirror half. No directory valid on either side is a loss where the band is not erased:
a Spillway has run (DEDUCED, assumption log 87). The records of the journal area wait for the pools' recovery (R295). -/
def State.spillRestore (s : State) (f : BringupFacts) (standby : Bool) : State :=
  let dirs := s.cist.bandDir.elim false SpillDir.crcOk || f.partnerDir
  if dirs = false ∧ s.cist.bandErased then s
  else
    let (own, mirror, failed) := s.restoreSet f
    let s1 := if failed then s.raise 89 0x0102 2 0 else s
    let s2 := if dirs then s1 else (s1.putBit R.CIST_STATUS 5 true).raise 89 0x0101 2 0
    let tail := if s.cist.bandDir.elim false SpillDir.crcOk then s.media.bandTail else if f.partnerDir then f.partnerTail else []
    let s0 := (s2.txnsFound tail).stagedRestore
    let s3 := { s0 with cist := { s0.cist with mirror := mirror, restored := some (if standby then [] else own.map Prod.fst) } }
    let s4 := s3.wr64 R.CIST_CSEQ (BitVec.ofNat 64 ((own.map Prod.fst).foldl max 0))
    if standby then s4.wrN R.CIST_SPILL_DISCARD own.length
    else own.foldl (fun s x => s.restoreEntry x.1 x.2) s4

/-- What the registers show of a pool that lies on the modules (R293, R358). -/
def State.poolShow (s : State) (pool : Nat) (p : Pool) : State :=
  let red := if p.failed ≠ [] then rdDegraded else if p.phase ≠ .none then rdReshaping else rdNormal
  (s.wrN (R.FTL_POOL_STATE pool) (red * 2 ^ 4 + 2 ^ 8)).wrN (R.SP_STATE pool) (red + p.phase.code * 2 ^ 2)

/-- Retention ages by the time since the last lifetime save, at 2 equivalent hours per hour, where the calendar is VALID (R311). -/
def State.ageSinceSave (s : State) : State :=
  match newerLife (bestLife s.clock.lifeA) (bestLife s.clock.lifeB) with
  | some (_, l) =>
    let h := (s.calSec - l.cal) * 2 * 65536 / 3600
    s.patrolGroups.foldl (fun s x => s.setBg x.1 x.2.1 x.2.2.1 fun b => { b with retAge := b.retAge + h }) s
  | none => s

/-- The Patrol's first pass starts; with the calendar not VALID every block group has priority (R308, R310, R311). -/
def State.patrolBring (s : State) : State :=
  if s.bit R.CAL_STATUS 0 then (s.ageSinceSave).passStart (s.fld R.PAT_PERIOD 0 5) false else s.patrolExpedite

/-- Step B7: restore, pool recovery of the own paddock unless R525 skips it, the Patrol's first pass; Data, Media and the other pages
then leave INIT (R62, R167, R295). -/
def State.bring7 (s : State) (f : BringupFacts) : State :=
  if s.recovery ∨ s.tandem.fencing then s
  else
    let standby := s.standbyAhead
    let s1 := s.spillRestore f standby
    let own := s1.media.pools.filter fun p => decide (p.1 < 16)
    let s2 := own.foldl (fun s p => s.poolShow p.1 p.2) s1
    let s3 := if standby then s2
      else ({ s2 with tandem := { s2.tandem with held := [s2.headId] } }).recoverPaddock s2.headId f.found
    let s4 := s3.patrolBring.spillRecompute
    (((s4.initRange f 88 24).initRange f 136 6).initRange f 150 1).initRange f 155 96

/-! ### The commands -/

/-- The steps of the bring-up, B1 to B7, up to step `n`. -/
def State.bringTo (s : State) (f : BringupFacts) (n : Nat) : State :=
  let lost := !s.stud.bufOk
  let steps : List (State → State) :=
    [ (·.bring1 f), fun s => (s.stbRecover).bring2 f, State.bring3, (·.bring4 lost), (·.bring5 f), (·.bring6 f), (·.bring7 f) ]
  (steps.take n).foldl (fun s g => g s) s

/-- BRINGUP (R524): after a reset other than PCIE, steps B1 to B7 run in order; B8 is the JOIN commands. -/
def execBringup (f : BringupFacts) (s : State) : Out :=
  if s.power.bringup = false then .next s
  else
    let s1 := s.bringTo f 7
    .next { s1 with power := { s1.power with bringup := false } }

/-- BRINGUP_STALL (R524): step B`step` exceeds its bound, the steps before it done: BRINGUP_STALL is captured, and the head stays in
INIT with HEAD_OK low. -/
def execBringupStall (step : Nat) (f : BringupFacts) (s : State) : Out :=
  if s.power.bringup = false ∨ step = 0 ∨ 8 < step then .next s
  else
    let s1 := (s.bringTo f (step - 1)).raise 0 0x0102 2 step
    .next { s1 with power := { s1.power with bringup := false, stalled := some step } }

end Sys2Proof.Machine
end

