-- ==== Sys2Proof/Machine/Dispatch.lean ====
section
/-! DEFINITION. One arm per command, each one call of its meaning. -/

namespace Sys2Proof.Machine

/-- The effect of a command on everything but the queue. -/
def exec (i : Instr) (s : State) : Host.Outcome State Fault Refusal :=
  match i with
  -- 01_stride_and_time.md
  | .commitPoint f => Sys2Proof.Machine.execCommitPoint f s
  | .overrun p unit clk => Sys2Proof.Machine.execOverrun p unit clk s
  | .overrunRepeat p unit => Sys2Proof.Machine.execOverrunRepeat p unit s
  | .strideSyncEdge raw => Sys2Proof.Machine.execStrideSyncEdge raw s
  | .syncEdgeLost => Sys2Proof.Machine.execSyncEdgeLost s
  | .syncLocked => Sys2Proof.Machine.execSyncLocked s
  | .masterTake => Sys2Proof.Machine.execMasterTake s
  | .acquireTimeout => Sys2Proof.Machine.execAcquireTimeout s
  | .strideAdopt => Sys2Proof.Machine.execStrideAdopt s
  | .commitGateSet => Sys2Proof.Machine.execCommitGateSet s
  | .commitGateClear => Sys2Proof.Machine.execCommitGateClear s
  | .calTick => Sys2Proof.Machine.execCalTick s
  | .calSecondRollover clk => Sys2Proof.Machine.execCalSecondRollover clk s
  -- 11_media_health.md
  | .hourRollover => Sys2Proof.Machine.execHourRollover s
  -- 01_stride_and_time.md
  | .calSet => Sys2Proof.Machine.execCalSet s
  | .oscStopped => Sys2Proof.Machine.execOscStopped s
  | .vaonBothLost => Sys2Proof.Machine.execVaonBothLost s
  | .vaonFeedReturn feedB => Sys2Proof.Machine.execVaonFeedReturn feedB s
  -- 18_pins_power_reset.md
  | .vaonOneLost feedB => Sys2Proof.Machine.execVaonOneLost feedB s
  -- 01_stride_and_time.md
  | .tempBandCount q => Sys2Proof.Machine.execTempBandCount q s
  | .lifeSaveHourly => Sys2Proof.Machine.execLifeSaveHourly s
  | .lifeCtrlSave => Sys2Proof.Machine.execLifeCtrlSave s
  | .lifeSaveDone okA okB => Sys2Proof.Machine.execLifeSaveDone okA okB s
  -- 00_scope.md
  | .registerWrite t v => Sys2Proof.Machine.execRegisterWrite t v s
  | .rcRegisterRead off => Sys2Proof.Machine.execRcRegisterRead off s
  | .loRegisterRead off => Sys2Proof.Machine.execLoRegisterRead off s
  | .hiRegisterWrite off v => Sys2Proof.Machine.execHiRegisterWrite off v s
  -- 02_register_pages.md
  | .accessSize off size write => Sys2Proof.Machine.execAccessSize off size write s
  | .unmapped off write => Sys2Proof.Machine.execUnmapped off write s
  | .pgEnable p => Sys2Proof.Machine.execPgEnable p s
  | .pgDisable p => Sys2Proof.Machine.execPgDisable p s
  | .pgSoftReset p => Sys2Proof.Machine.execPgSoftReset p s
  | .pgFreeze p => Sys2Proof.Machine.execPgFreeze p s
  | .pgUnfreeze p => Sys2Proof.Machine.execPgUnfreeze p s
  -- 00_scope.md
  | .pgCommit p => Sys2Proof.Machine.execPgCommit p s
  -- 02_register_pages.md
  | .initComplete p => Sys2Proof.Machine.execInitComplete p s
  | .initFail p code sub => Sys2Proof.Machine.execInitFail p code sub s
  | .initTimeout p => Sys2Proof.Machine.execInitTimeout p s
  | .pageDrained p => Sys2Proof.Machine.execPageDrained p s
  | .pgEventForce p m => Sys2Proof.Machine.execPgEventForce p m s
  | .errRearm p => Sys2Proof.Machine.execErrRearm p s
  | .pageParity p => Sys2Proof.Machine.execPageParity p s
  | .evtArm m => Sys2Proof.Machine.execEvtArm m s
  | .chipInjEn v => Sys2Proof.Machine.execChipInjEn v s
  | .injectArm p w => Sys2Proof.Machine.execInjectArm p w s
  | .injectDisarm p => Sys2Proof.Machine.execInjectDisarm p s
  -- 03_host_functions.md
  | .fnCreate gen => Sys2Proof.Machine.execFnCreate gen s
  | .fnResize gen => Sys2Proof.Machine.execFnResize gen s
  | .fnReset gen => Sys2Proof.Machine.execFnReset gen s
  | .fnDestroy gen => Sys2Proof.Machine.execFnDestroy gen s
  | .fnAttach gen => Sys2Proof.Machine.execFnAttach gen s
  | .fnDetach gen => Sys2Proof.Machine.execFnDetach gen s
  | .fnReply gen => Sys2Proof.Machine.execFnReply gen s
  | .detachNsidFree f nsid => Sys2Proof.Machine.execDetachNsidFree f nsid s
  | .mboxWrite f j w => Sys2Proof.Machine.execMboxWrite f j w s
  | .mboxRing f => Sys2Proof.Machine.execMboxRing f s
  | .mgmtDbTake j m => Sys2Proof.Machine.execMgmtDbTake j m s
  | .pcieFlr f => Sys2Proof.Machine.execPcieFlr f s
  | .nvmeCcEnClear f => Sys2Proof.Machine.execNvmeCcEnClear f s
  | .fnResetDone f => Sys2Proof.Machine.execFnResetDone f s
  | .sriovNumvfsChange n enable => Sys2Proof.Machine.execSriovNumvfsChange n enable s
  | .fnRemovalDone f => Sys2Proof.Machine.execFnRemovalDone f s
  | .nvmeSqDoorbell f qid tail => Sys2Proof.Machine.execNvmeSqDoorbell f qid tail s
  | .nvmeCqDoorbell f qid head => Sys2Proof.Machine.execNvmeCqDoorbell f qid head s
  | .cmdFetch src img => Sys2Proof.Machine.execCmdFetch src img s
  | .weirAdmit n miss bad => Sys2Proof.Machine.execWeirAdmit n miss bad s
  | .lqIssue f m => Sys2Proof.Machine.execLqIssue f m s
  | .lqTagWrite f t j v => Sys2Proof.Machine.execLqTagWrite f t j v s
  | .lqAbort f m => Sys2Proof.Machine.execLqAbort f m s
  | .lqReset f => Sys2Proof.Machine.execLqReset f s
  | .lqRead n => Sys2Proof.Machine.execLqRead n s
  | .lqWrite n => Sys2Proof.Machine.execLqWrite n s
  | .lqFlush n => Sys2Proof.Machine.execLqFlush n s
  | .lqVerify n => Sys2Proof.Machine.execLqVerify n s
  | .lqDeallocate n => Sys2Proof.Machine.execLqDeallocate n s
  | .lqWriteZeroes n => Sys2Proof.Machine.execLqWriteZeroes n s
  | .nvmeCreateIoSq n => Sys2Proof.Machine.execNvmeCreateIoSq n s
  | .nvmeCreateIoCq n => Sys2Proof.Machine.execNvmeCreateIoCq n s
  | .nvmeDeleteIoSq n => Sys2Proof.Machine.execNvmeDeleteIoSq n s
  | .nvmeDeleteIoCq n => Sys2Proof.Machine.execNvmeDeleteIoCq n s
  | .nvmeIdentify n => Sys2Proof.Machine.execNvmeIdentify n s
  -- 11_media_health.md
  | .nvmeGetLogPage n => Sys2Proof.Machine.execNvmeGetLogPage n s
  -- 03_host_functions.md
  | .nvmeSetFeatures n => Sys2Proof.Machine.execNvmeSetFeatures n s
  | .nvmeGetFeatures n => Sys2Proof.Machine.execNvmeGetFeatures n s
  | .nvmeAbort n => Sys2Proof.Machine.execNvmeAbort n s
  | .nvmeAsyncEventRequest n => Sys2Proof.Machine.execNvmeAsyncEventRequest n s
  -- 08_read_path.md
  | .nvmeRead n => Sys2Proof.Machine.execNvmeRead n s
  -- 05_write_path.md
  | .nvmeWrite n => Sys2Proof.Machine.execNvmeWrite n s
  -- 03_host_functions.md
  | .nvmeFlush n => Sys2Proof.Machine.execNvmeFlush n s
  -- 05_write_path.md
  | .nvmeWriteZeroes n => Sys2Proof.Machine.execNvmeWriteZeroes n s
  | .nvmeDatasetManagement n => Sys2Proof.Machine.execNvmeDatasetManagement n s
  -- 08_read_path.md
  | .nvmeVerify n => Sys2Proof.Machine.execNvmeVerify n s
  -- 03_host_functions.md
  | .ingestTimeout n => Sys2Proof.Machine.execIngestTimeout n s
  | .pcieCplTimeout f n => Sys2Proof.Machine.execPcieCplTimeout f n s
  | .pciePoisonedTlp f n => Sys2Proof.Machine.execPciePoisonedTlp f n s
  | .pcieLinkUp speed width => Sys2Proof.Machine.execPcieLinkUp speed width s
  | .pcieLinkDown => Sys2Proof.Machine.execPcieLinkDown s
  | .pcieSpeedChange speed width => Sys2Proof.Machine.execPcieSpeedChange speed width s
  -- 04_network_and_rdma.md
  | .fabricsConnect n ctrl qid sqsize kato ns => Sys2Proof.Machine.execFabricsConnect n ctrl qid sqsize kato ns s
  | .fabricsPropertyGet n off => Sys2Proof.Machine.execFabricsPropertyGet n off s
  | .fabricsPropertySet n off value => Sys2Proof.Machine.execFabricsPropertySet n off value s
  | .fabricsDisconnect n => Sys2Proof.Machine.execFabricsDisconnect n s
  | .nvmeofCapsuleRx lport qpn p c => Sys2Proof.Machine.execNvmeofCapsuleRx lport qpn p c s
  | .katoExpired ctrl => Sys2Proof.Machine.execKatoExpired ctrl s
  | .ethModeWrite n v => Sys2Proof.Machine.execEthModeWrite n v s
  | .ethLinkDown lport => Sys2Proof.Machine.execEthLinkDown lport s
  | .ethLinkUp lport => Sys2Proof.Machine.execEthLinkUp lport s
  | .fecDegrade lport lane count => Sys2Proof.Machine.execFecDegrade lport lane count s
  | .pfcStorm lport => Sys2Proof.Machine.execPfcStorm lport s
  | .ethFrameRx lport f len corrected => Sys2Proof.Machine.execEthFrameRx lport f len corrected s
  | .roceRequestRx lport qpn p => Sys2Proof.Machine.execRoceRequestRx lport qpn p s
  | .cnpRx qpn => Sys2Proof.Machine.execCnpRx qpn s
  | .cnpRateRestore qpn => Sys2Proof.Machine.execCnpRateRestore qpn s
  | .contextFetchDone qpn ue => Sys2Proof.Machine.execContextFetchDone qpn ue s
  | .contextWritebackDone qpn => Sys2Proof.Machine.execContextWritebackDone qpn s
  | .roceAckRx qpn psn => Sys2Proof.Machine.execRoceAckRx qpn psn s
  | .roceNakRx qpn psn kind => Sys2Proof.Machine.execRoceNakRx qpn psn kind s
  | .transportAckTimeout qpn => Sys2Proof.Machine.execTransportAckTimeout qpn s
  | .qpCreate qpn => Sys2Proof.Machine.execQpCreate qpn s
  | .qpModify => Sys2Proof.Machine.execQpModify s
  | .qpDestroy => Sys2Proof.Machine.execQpDestroy s
  | .qpDestroyDone => Sys2Proof.Machine.execQpDestroyDone s
  | .mrReg index => Sys2Proof.Machine.execMrReg index s
  | .mrInval => Sys2Proof.Machine.execMrInval s
  | .mrDereg => Sys2Proof.Machine.execMrDereg s
  | .mrPlacementDrained => Sys2Proof.Machine.execMrPlacementDrained s
  | .qp1DatagramRx d bad => Sys2Proof.Machine.execQp1DatagramRx d bad s
  | .gsiTxProdWrite v => Sys2Proof.Machine.execGsiTxProdWrite v s
  | .gsiTxSend e => Sys2Proof.Machine.execGsiTxSend e s
  | .gsiTxPacketLeft j => Sys2Proof.Machine.execGsiTxPacketLeft j s
  | .sealRx lport qpn psn image => Sys2Proof.Machine.execSealRx lport qpn psn image s
  | .sealTimeout qpn => Sys2Proof.Machine.execSealTimeout qpn s
  -- 05_write_path.md
  | .rangeLockGrant n loc miss bad => Sys2Proof.Machine.execRangeLockGrant n loc miss bad s
  | .dataArrive cseq data pi after unit bad units => Sys2Proof.Machine.execDataArrive cseq data pi after unit bad units s
  | .entrySeal cseq => Sys2Proof.Machine.execEntrySeal cseq s
  | .tlMirrorWrite off image => Sys2Proof.Machine.execTlMirrorWrite off image s
  | .tlMirrorAck cseq => Sys2Proof.Machine.execTlMirrorAck cseq s
  | .tlMirrorNak cseq => Sys2Proof.Machine.execTlMirrorNak cseq s
  | .tlMirrorRelease cseqs => Sys2Proof.Machine.execTlMirrorRelease cseqs s
  | .mirrorTimeout cseq => Sys2Proof.Machine.execMirrorTimeout cseq s
  | .fuaPadTimeout stripe => Sys2Proof.Machine.execFuaPadTimeout stripe s
  | .destageEntry cseq own mir bad after places => Sys2Proof.Machine.execDestageEntry cseq own mir bad after places s
  | .spillwayStart => Sys2Proof.Machine.execSpillwayStart s
  | .spillQuiesced => Sys2Proof.Machine.execSpillQuiesced s
  | .spillImageDone dirOk => Sys2Proof.Machine.execSpillImageDone dirOk s
  | .spillDone => Sys2Proof.Machine.execSpillDone s
  | .spillReturn => Sys2Proof.Machine.execSpillReturn s
  | .spillLossAck => Sys2Proof.Machine.execSpillLossAck s
  -- 06_associative_search.md
  | .camRead n bad => Sys2Proof.Machine.execCamRead n bad s
  | .camInvalidate n => Sys2Proof.Machine.execCamInvalidate n s
  | .camWrite n => Sys2Proof.Machine.execCamWrite n s
  | .camValidate n => Sys2Proof.Machine.execCamValidate n s
  | .camSearch n incl maskSet bad => Sys2Proof.Machine.execCamSearch n incl maskSet bad s
  | .camMsearch n incl maskSet bad => Sys2Proof.Machine.execCamMsearch n incl maskSet bad s
  | .camUpdateResult n => Sys2Proof.Machine.execCamUpdateResult n s
  | .camScrub bank u => Sys2Proof.Machine.execCamScrub bank u s
  -- 07_reduction.md
  | .probeAnswer cseq index errs => Sys2Proof.Machine.execProbeAnswer cseq index errs s
  | .probeDeadline cseq index => Sys2Proof.Machine.execProbeDeadline cseq index s
  | .hotTierSweep => Sys2Proof.Machine.execHotTierSweep s
  | .dedupMergeStep pool => Sys2Proof.Machine.execDedupMergeStep pool s
  -- 08_read_path.md
  | .basinWaitTimeout n => Sys2Proof.Machine.execBasinWaitTimeout n s
  | .cisternHitRead n j unit own mir => Sys2Proof.Machine.execCisternHitRead n j unit own mir s
  | .mapLookup n j lines page => Sys2Proof.Machine.execMapLookup n j lines page s
  | .dieChoice n j => Sys2Proof.Machine.execDieChoice n j s
  | .mediaReadCollect n j unit errs => Sys2Proof.Machine.execMediaReadCollect n j unit errs s
  | .grainRecovery n j unit errs places => Sys2Proof.Machine.execGrainRecovery n j unit errs places s
  | .basinSlotFree k => Sys2Proof.Machine.execBasinSlotFree k s
  -- 09_module_link.md
  | .laneFailing k lane errors lockLost => Sys2Proof.Machine.execLaneFailing k lane errors lockLost s
  | .swapReqRx k lane => Sys2Proof.Machine.execSwapReqRx k lane s
  | .swapOrderedSetRx k fail spare nfail nspare count => Sys2Proof.Machine.execSwapOrderedSetRx k fail spare nfail nspare count s
  | .mlkForceSwap n lane receive => Sys2Proof.Machine.execMlkForceSwap n lane receive s
  | .flitRx k f => Sys2Proof.Machine.execFlitRx k f s
  | .replayTimeout k => Sys2Proof.Machine.execReplayTimeout k s
  | .ackTimer k => Sys2Proof.Machine.execAckTimer k s
  | .initMsgRx k x => Sys2Proof.Machine.execInitMsgRx k x s
  | .widthMsgRx k width map => Sys2Proof.Machine.execWidthMsgRx k width map s
  | .moduleResponseRx port tag r => Sys2Proof.Machine.execModuleResponseRx port tag r s
  | .moduleInterimResponse port tag r => Sys2Proof.Machine.execModuleInterimResponse port tag r s
  | .moduleAlertRx n info => Sys2Proof.Machine.execModuleAlertRx n info s
  | .telemetryPoll n => Sys2Proof.Machine.execTelemetryPoll n s
  | .mlkTrain n => Sys2Proof.Machine.execMlkTrain n s
  | .blockLock k lanes speed => Sys2Proof.Machine.execBlockLock k lanes speed s
  | .trainTimeout k => Sys2Proof.Machine.execTrainTimeout k s
  | .linkInitTimeout k => Sys2Proof.Machine.execLinkInitTimeout k s
  | .recoveryRetrained k lanes => Sys2Proof.Machine.execRecoveryRetrained k lanes s
  | .recoveryTimeout k => Sys2Proof.Machine.execRecoveryTimeout k s
  | .moduleAbsent n => Sys2Proof.Machine.execModuleAbsent n s
  -- 18_pins_power_reset.md
  | .modPrsntChange n present => Sys2Proof.Machine.execModPrsntChange n present s
  -- 10_flash_translation.md
  | .journalProgram pool => Sys2Proof.Machine.execJournalProgram pool s
  | .checkpoint pool band places => Sys2Proof.Machine.execCheckpoint pool band places s
  | .reclaimSelect pool => Sys2Proof.Machine.execReclaimSelect pool s
  | .reclaimMove pool seg n lost places => Sys2Proof.Machine.execReclaimMove pool seg n lost places s
  | .segmentErase seg => Sys2Proof.Machine.execSegmentErase seg s
  | .volCreate => Sys2Proof.Machine.execVolCreate s
  | .volDelete => Sys2Proof.Machine.execVolDelete s
  | .volResize => Sys2Proof.Machine.execVolResize s
  | .snapCreate => Sys2Proof.Machine.execSnapCreate s
  | .snapDelete => Sys2Proof.Machine.execSnapDelete s
  | .roResume => Sys2Proof.Machine.execRoResume s
  | .snapCut target => Sys2Proof.Machine.execSnapCut target s
  | .snapCreateRecord target => Sys2Proof.Machine.execSnapCreateRecord target s
  | .snapDeleteStep v => Sys2Proof.Machine.execSnapDeleteStep v s
  -- 11_media_health.md
  | .calUpdate m d bin bgrp => Sys2Proof.Machine.execCalUpdate m d bin bgrp s
  | .patrolPassStart => Sys2Proof.Machine.execPatrolPassStart s
  | .patrolPace => Sys2Proof.Machine.execPatrolPace s
  | .patrolPassEnd => Sys2Proof.Machine.execPatrolPassEnd s
  | .patRestart => Sys2Proof.Machine.execPatRestart s
  | .hlRecLatch => Sys2Proof.Machine.execHlRecLatch s
  -- 12_stripe_redundancy.md
  | .memberFail port band => Sys2Proof.Machine.execMemberFail port band s
  | .rebuildHoldoffEnd pool => Sys2Proof.Machine.execRebuildHoldoffEnd pool s
  | .rebuildStripe pool lost rewrite withQ places => Sys2Proof.Machine.execRebuildStripe pool lost rewrite withQ places s
  | .lossResolveWalk pool index => Sys2Proof.Machine.execLossResolveWalk pool index s
  | .poolCreate bands differs => Sys2Proof.Machine.execPoolCreate bands differs s
  | .poolDelete differs => Sys2Proof.Machine.execPoolDelete differs s
  | .reshape differs => Sys2Proof.Machine.execReshape differs s
  | .spareSet => Sys2Proof.Machine.execSpareSet s
  | .readmit => Sys2Proof.Machine.execReadmit s
  | .rebuildNow => Sys2Proof.Machine.execRebuildNow s
  | .lossClear => Sys2Proof.Machine.execLossClear s
  | .reshapeMigrateStep pool lost places => Sys2Proof.Machine.execReshapeMigrateStep pool lost places s
  | .reshapePhaseEnd pool bands => Sys2Proof.Machine.execReshapePhaseEnd pool bands s
  | .spLossDataLatch => Sys2Proof.Machine.execSpLossDataLatch s
  -- 13_tandem_operation.md
  | .reinBeatRx rein beat ago => Sys2Proof.Machine.execReinBeatRx rein beat ago s
  | .reinSilent rein => Sys2Proof.Machine.execReinSilent rein s
  | .headOkInChange high => Sys2Proof.Machine.execHeadOkInChange high s
  | .fenceInHigh => Sys2Proof.Machine.execFenceInHigh s
  | .tlResyncData off image => Sys2Proof.Machine.execTlResyncData off image s
  | .tlResyncDone _last => Sys2Proof.Machine.execTlResyncDone _last s
  | .tlFwdCmd id img fn queue vol => Sys2Proof.Machine.execTlFwdCmd id img fn queue vol s
  | .tlFwdAccept id => Sys2Proof.Machine.execTlFwdAccept id s
  | .tlFwdData id index mask data pi after unit bad units => Sys2Proof.Machine.execTlFwdData id index mask data pi after unit bad units s
  | .tlFwdCpl id status tsn => Sys2Proof.Machine.execTlFwdCpl id status tsn s
  | .tlRefDelta changes => Sys2Proof.Machine.execTlRefDelta changes s
  | .tlRefAck tseq => Sys2Proof.Machine.execTlRefAck tseq s
  -- 12_stripe_redundancy.md
  | .tlSubst pool paddock module port serial => Sys2Proof.Machine.execTlSubst pool paddock module port serial s
  -- 13_tandem_operation.md
  | .tlClosed batch => Sys2Proof.Machine.execTlClosed batch s
  | .tlTransfer paddock epochs roots data => Sys2Proof.Machine.execTlTransfer paddock epochs roots data s
  | .tlLeave => Sys2Proof.Machine.execTlLeave s
  | .tlLinkDownSplit => Sys2Proof.Machine.execTlLinkDownSplit s
  | .joinTandem vols => Sys2Proof.Machine.execJoinTandem vols s
  | .joinStandby vols => Sys2Proof.Machine.execJoinStandby vols s
  | .joinWaitTimeout => Sys2Proof.Machine.execJoinWaitTimeout s
  | .arbTieWait => Sys2Proof.Machine.execArbTieWait s
  | .raiseTimeout q port => Sys2Proof.Machine.execRaiseTimeout q port s
  | .raiseRetry q port => Sys2Proof.Machine.execRaiseRetry q port s
  | .fenceHead page code sub => Sys2Proof.Machine.execFenceHead page code sub s
  | .takeover => Sys2Proof.Machine.execTakeover s
  | .takeoverDone data => Sys2Proof.Machine.execTakeoverDone data s
  | .fenceOutRelease => Sys2Proof.Machine.execFenceOutRelease s
  | .fwdLinkDownTimeout id => Sys2Proof.Machine.execFwdLinkDownTimeout id s
  | .switchBack => Sys2Proof.Machine.execSwitchBack s
  | .handover => Sys2Proof.Machine.execHandover s
  | .twinSet => Sys2Proof.Machine.execTwinSet s
  | .twinClear => Sys2Proof.Machine.execTwinClear s
  | .selfFence => Sys2Proof.Machine.execSelfFence s
  | .tdCmdInvalid => Sys2Proof.Machine.execTdCmdInvalid s
  | .transferDrainEnd => Sys2Proof.Machine.execTransferDrainEnd s
  | .transferHoldEnd => Sys2Proof.Machine.execTransferHoldEnd s
  | .transferCheckpointEnd => Sys2Proof.Machine.execTransferCheckpointEnd s
  | .transferAbort => Sys2Proof.Machine.execTransferAbort s
  | .tandemCplPost qpn cid tsn => Sys2Proof.Machine.execTandemCplPost qpn cid tsn s
  | .syncAckRx group rseq => Sys2Proof.Machine.execSyncAckRx group rseq s
  | .syncTimeout group => Sys2Proof.Machine.execSyncTimeout group s
  | .batchBoundary group => Sys2Proof.Machine.execBatchBoundary group s
  | .closedSend batch => Sys2Proof.Machine.execClosedSend batch s
  | .sealSend group batch => Sys2Proof.Machine.execSealSend group batch s
  | .stagedRx group batch => Sys2Proof.Machine.execStagedRx group batch s
  | .appliedRx group batch => Sys2Proof.Machine.execAppliedRx group batch s
  | .replRecordRx image loc => Sys2Proof.Machine.execReplRecordRx image loc s
  | .batchApply group loc => Sys2Proof.Machine.execBatchApply group loc s
  | .groupCreate => Sys2Proof.Machine.execGroupCreate s
  | .groupDelete => Sys2Proof.Machine.execGroupDelete s
  | .volAdd => Sys2Proof.Machine.execVolAdd s
  | .volRemove => Sys2Proof.Machine.execVolRemove s
  | .replSuspend => Sys2Proof.Machine.execReplSuspend s
  | .replResume => Sys2Proof.Machine.execReplResume s
  | .replPromote => Sys2Proof.Machine.execReplPromote s
  -- 14_memory_system.md
  | .dramReadReturn ch ns arrived ecc sub dev whole fails => Sys2Proof.Machine.execDramReadReturn ch ns arrived ecc sub dev whole fails s
  | .caParityError ch addr rank again use fails => Sys2Proof.Machine.execCaParityError ch addr rank again use fails s
  | .sameBankRefresh ch rank bank => Sys2Proof.Machine.execSameBankRefresh ch rank bank s
  | .neighbourRefresh ch => Sys2Proof.Machine.execNeighbourRefresh ch s
  | .rfmRequest ch => Sys2Proof.Machine.execRfmRequest ch s
  | .dcFreqGo ch speed all => Sys2Proof.Machine.execDcFreqGo ch speed all s
  | .freqChangeDone ch ok => Sys2Proof.Machine.execFreqChangeDone ch ok s
  | .driftExamine ch counts => Sys2Proof.Machine.execDriftExamine ch counts s
  | .writeTimingTrack ch steps => Sys2Proof.Machine.execWriteTimingTrack ch steps s
  | .scrubRead ch addr loc corrected whole uncorrectable progress passEnd => Sys2Proof.Machine.execScrubRead ch addr loc corrected whole uncorrectable progress passEnd s
  | .pprRepair ch rank bank row => Sys2Proof.Machine.execPprRepair ch rank bank row s
  | .rankSpareStart ch rank => Sys2Proof.Machine.execRankSpareStart ch rank s
  | .rankSpareSwitch ch => Sys2Proof.Machine.execRankSpareSwitch ch s
  | .mcacheAccess line mask write whole ecc => Sys2Proof.Machine.execMcacheAccess line mask write whole ecc s
  | .mcacheFillDone line poisoned => Sys2Proof.Machine.execMcacheFillDone line poisoned s
  | .mcClean inside => Sys2Proof.Machine.execMcClean inside s
  | .mcFlush inside => Sys2Proof.Machine.execMcFlush inside s
  | .mcInvalidate => Sys2Proof.Machine.execMcInvalidate s
  | .mcCleanAll => Sys2Proof.Machine.execMcCleanAll s
  | .mcOpDone => Sys2Proof.Machine.execMcOpDone s
  | .objectRebuild line ok => Sys2Proof.Machine.execObjectRebuild line ok s
  -- 15_digest_and_keys.md
  | .kdeClaim path id => Sys2Proof.Machine.execKdeClaim path id s
  | .kdeRelease path id => Sys2Proof.Machine.execKdeRelease path id s
  | .kdeIdleTimeout => Sys2Proof.Machine.execKdeIdleTimeout s
  | .kdeStart path => Sys2Proof.Machine.execKdeStart path s
  | .kdeFinish path => Sys2Proof.Machine.execKdeFinish path s
  | .kdeAbort path => Sys2Proof.Machine.execKdeAbort path s
  | .kdeData path w => Sys2Proof.Machine.execKdeData path w s
  | .kdeBlockDone => Sys2Proof.Machine.execKdeBlockDone s
  | .kdeFinishDone => Sys2Proof.Machine.execKdeFinishDone s
  | .kdeExpectWrite path j w => Sys2Proof.Machine.execKdeExpectWrite path j w s
  | .kdeCtxSuspend path n => Sys2Proof.Machine.execKdeCtxSuspend path n s
  | .kdeCtxResume path n => Sys2Proof.Machine.execKdeCtxResume path n s
  | .kdeCtxDiscard path n => Sys2Proof.Machine.execKdeCtxDiscard path n s
  | .kdeCtxExpired n => Sys2Proof.Machine.execKdeCtxExpired n s
  | .ksLoad => Sys2Proof.Machine.execKsLoad s
  | .ksLock => Sys2Proof.Machine.execKsLock s
  | .ksZeroise force => Sys2Proof.Machine.execKsZeroise force s
  | .ksSetUse => Sys2Proof.Machine.execKsSetUse s
  | .ksInvalidOp => Sys2Proof.Machine.execKsInvalidOp s
  | .ksSlotParity slot => Sys2Proof.Machine.execKsSlotParity slot s
  -- 16_resilience_and_records.md
  | .remountStart p sub => Sys2Proof.Machine.execRemountStart p sub s
  | .rmCmd p sub => Sys2Proof.Machine.execRmCmd p sub s
  | .sramRowRepair mac row trigger => Sys2Proof.Machine.execSramRowRepair mac row trigger s
  | .gdActCancel code pool => Sys2Proof.Machine.execGdActCancel code pool s
  | .stbFlushCmd => Sys2Proof.Machine.execStbFlushCmd s
  | .studbookFlush => Sys2Proof.Machine.execStudbookFlush s
  | .studbookFlushTimer => Sys2Proof.Machine.execStudbookFlushTimer s
  | .studbookFlushDone ok0 ok1 => Sys2Proof.Machine.execStudbookFlushDone ok0 ok1 s
  | .resilverDone => Sys2Proof.Machine.execResilverDone s
  | .stbRdOffWrite off => Sys2Proof.Machine.execStbRdOffWrite off s
  | .stbWindowReady => Sys2Proof.Machine.execStbWindowReady s
  | .stbAppCmd len typ => Sys2Proof.Machine.execStbAppCmd len typ s
  | .tkWrite image readBack bothB => Sys2Proof.Machine.execTkWrite image readBack bothB s
  | .tkRead => Sys2Proof.Machine.execTkRead s
  | .tkProceed => Sys2Proof.Machine.execTkProceed s
  -- 17_service_and_firmware.md
  | .svcFrameRx kind toMe => Sys2Proof.Machine.execSvcFrameRx kind toMe s
  | .mysynOpen m id nonce => Sys2Proof.Machine.execMysynOpen m id nonce s
  | .mysynAuth m => Sys2Proof.Machine.execMysynAuth m s
  | .mysynClose m => Sys2Proof.Machine.execMysynClose m s
  | .mysynRegRead m => Sys2Proof.Machine.execMysynRegRead m s
  | .mysynRegWrite m => Sys2Proof.Machine.execMysynRegWrite m s
  | .mysynStbRead m => Sys2Proof.Machine.execMysynStbRead m s
  | .mysynTackRead m => Sys2Proof.Machine.execMysynTackRead m s
  | .mysynTackWrite m readBack bothB => Sys2Proof.Machine.execMysynTackWrite m readBack bothB s
  | .mysynImageBegin m => Sys2Proof.Machine.execMysynImageBegin m s
  | .mysynImageData m flashOk => Sys2Proof.Machine.execMysynImageData m flashOk s
  | .mysynImageEnd m readBackOk => Sys2Proof.Machine.execMysynImageEnd m readBackOk s
  | .mysynImageAbort m => Sys2Proof.Machine.execMysynImageAbort m s
  | .mysynFwCmd m => Sys2Proof.Machine.execMysynFwCmd m s
  | .mysynFwStatus m => Sys2Proof.Machine.execMysynFwStatus m s
  -- 18_pins_power_reset.md
  | .mysynReset m => Sys2Proof.Machine.execMysynReset m s
  -- 17_service_and_firmware.md
  | .sessionIdleTimeout j => Sys2Proof.Machine.execSessionIdleTimeout j s
  | .fwActivate force => Sys2Proof.Machine.execFwActivate force s
  | .fwCommit hold => Sys2Proof.Machine.execFwCommit hold s
  | .fwRevert => Sys2Proof.Machine.execFwRevert s
  | .fwAbortStage => Sys2Proof.Machine.execFwAbortStage s
  -- 18_pins_power_reset.md
  | .porNAssert => Sys2Proof.Machine.execPorNAssert s
  | .bringup f => Sys2Proof.Machine.execBringup f s
  | .bringupStall step f => Sys2Proof.Machine.execBringupStall step f s
  | .perstNAssert => Sys2Proof.Machine.execPerstNAssert s
  | .perstNRelease => Sys2Proof.Machine.execPerstNRelease s
  | .warmReset force => Sys2Proof.Machine.execWarmReset force s
  | .tjHalt => Sys2Proof.Machine.execTjHalt s
  | .thermtrip => Sys2Proof.Machine.execThermtrip s
  | .modRstAssert n => Sys2Proof.Machine.execModRstAssert n s
  | .modRstRelease n write => Sys2Proof.Machine.execModRstRelease n write s
  -- 13_tandem_operation.md
  | .reinbSyncChange sync => Sys2Proof.Machine.execReinbSyncChange sync s
  | .fenceInFall => Sys2Proof.Machine.execFenceInFall s
  | .tlTrain => Sys2Proof.Machine.execTlTrain s
  | .tlForceSwap lane receive => Sys2Proof.Machine.execTlForceSwap lane receive s
  -- 17_service_and_firmware.md
  | .svcLinkChange up speed full => Sys2Proof.Machine.execSvcLinkChange up speed full s
  -- 03_host_functions.md
  | .nvmeCcEnSet f => Sys2Proof.Machine.execNvmeCcEnSet f s
  -- 13_tandem_operation.md
  | .failHoldTimeout n => Sys2Proof.Machine.execFailHoldTimeout n s

end Sys2Proof.Machine
end

