-- ==== Sys2Proof/Machine/RegNames.lean ====
section
/-! DEFINITION. The names of the registers as data, for statements about which registers a command may write. A name stands for
every register of its array, in every bank and every instance of its page; `soft` stands for every register with bits that software writes, `block` for every block-specific register, `any` for every register. -/

namespace Sys2Proof.Machine

/-- A register of the spec, by name. -/
inductive RegName where
  | PG_IDENT
  | PG_VERSION
  | PG_CAPS
  | PG_CTRL
  | PG_STATE
  | PG_EVENT
  | PG_EVENT_EN
  | PG_EVENT_FORCE
  | PG_ERR_FIRST
  | PG_ERR_COUNT
  | PG_ERR_STRIDE
  | PG_INJECT
  | PG_SPARE
  | UNIT_WORD
  | STR_NUM
  | STR_CTRL
  | STR_STATUS
  | STR_OFFSET
  | STR_SKEW
  | STR_COMMIT_AT
  | STR_OVR_COUNT
  | STR_OVR_LAST
  | CAL_SEC
  | CAL_SUBSEC
  | CAL_SET
  | CAL_CTRL
  | CAL_TRIM
  | CAL_STATUS
  | CAL_AT_STRIDE
  | CAL_AT_CLK
  | PWR_STRIDES
  | PWR_CYCLES
  | RESETS
  | REMOUNTS
  | LIFE_CTRL
  | LIFE_STATUS
  | TJ_MAX_SEEN
  | TEMP_BAND
  | MOD_WR
  | CHIP_PART
  | CHIP_STEP
  | CHIP_HEAD
  | CHIP_INJ_EN
  | CHIP_PG_COUNT
  | EVT_GROUP_PEND
  | EVT_ARM
  | EVT_PEND
  | EVT_GROUP_VEC
  | EVT_ROUTE
  | PCIE_LINK
  | PCIE_CAP_LINK
  | PCIE_MPS
  | PCIE_RETRAINS
  | PCIE_RX_ERR
  | PCIE_REPLAYS
  | PCIE_CPL_TMO
  | PCIE_POISONED
  | PCIE_FLR
  | PCIE_UR
  | FN_SEL
  | FN_CMD
  | FN_CMD_STATUS
  | FN_MODE
  | FN_QP_QUOTA
  | FN_CISTERN_QUOTA
  | FN_WEIR_MIN
  | FN_WEIR_MAX
  | FN_MSIX
  | FN_VOL
  | FN_NSID
  | FN_STATE
  | FN_STALE_COUNT
  | POOL_QP_FREE
  | POOL_CISTERN_FREE
  | POOL_WEIR_FREE
  | MGMT_DB_PEND
  | FN_MBOX
  | FN_REPLY
  | WEIR_CAP
  | WEIR_SEL
  | WEIR_MIN
  | WEIR_MAX
  | WEIR_BAL
  | WEIR_PS
  | LQV_CTRL
  | LQV_STATUS
  | LQV_ISSUE
  | LQV_DONE
  | LQ_CMPL_COUNT
  | ETH_MODE
  | ETH_STATUS
  | ETH_MAC_A
  | ETH_MAC_B
  | ETH_MTU
  | ETH_PRIO
  | ETH_DSCP
  | ETH_FEC_LIMIT
  | ETH_FEC_CORR
  | ETH_FEC_UNCORR
  | ETH_RX_OTHER
  | ETH_ICRC_ERR
  | ETH_MISS_LEVEL
  | ETH_MISS_HWM
  | ETH_RNR_SENT
  | ETH_GID
  | RMA_CMD
  | RMA_CMD_STATUS
  | RMA_RESULT
  | EVQ_BASE
  | EVQ_SIZE
  | EVQ_PROD
  | EVQ_CONS
  | EVQ_LOST
  | DUP_ACKED
  | SEQ_NAK
  | RMA_KEY_VIOLATION
  | GSI_BASE
  | GSI_PROD
  | GSI_CONS
  | GSI_RX_DROP
  | GSI_TX_BASE
  | GSI_TX_PROD
  | GSI_TX_CONS
  | GSI_TX_BAD
  | RMA_ARG
  | CTX_FREE_NET
  | CTX_CACHED
  | CTX_HELD_PINNED
  | CTX_PIN_MAX
  | CTX_MISS_COUNT
  | CTX_EVICT_COUNT
  | CTX_FETCH_MAX
  | CTX_BAD_QPN
  | CTX_NAK_DISCARD
  | CTX_STORE_BASE
  | ING_CMDS
  | ING_GRAINS
  | ING_PI_ERR
  | ING_LEN_ERR
  | ING_RANGE_ERR
  | ING_LOCKS
  | ING_LOCKS_HWM
  | ING_LOCK_WAITS
  | ING_BUSY_RETRY
  | ING_PARTIAL
  | CIST_BASE
  | CIST_CFG
  | CIST_FN_SHARE
  | CIST_OWN_USED
  | CIST_MIRROR_USED
  | CIST_CTRL
  | CIST_STATUS
  | CIST_CSEQ
  | CIST_ACK_MAX
  | CIST_FUA_MAX_WAIT
  | CIST_SPILL_BOUND
  | CIST_SPILL_LAST
  | CIST_RING_STALL
  | CIST_SPILL_DISCARD
  | CAM_CFG
  | CAM_VALID
  | CAM_PEND
  | CAM_OP
  | CAM_INDEX
  | CAM_OP_STATUS
  | CAM_ENTRY
  | CAM_KEY
  | CAM_RESULT
  | CAM_HIT_LOC
  | CAM_MATCH_COUNT
  | CAM_MV_SEL
  | CAM_MV_DATA
  | CAM_MS_START
  | CAM_MSR
  | CAM_SEARCHES
  | CAM_MULTI
  | CAM_PARITY_ERR
  | FLT_CTRL
  | FLT_MASK
  | FLT_DROPS
  | CAM_MASK
  | DG_GRAINS
  | DG_ZERO
  | DG_DISAGREE
  | DG_CAP
  | CP_RAW_DEFAULT
  | CP_IN_GRAINS
  | CP_OUT_GRANULES
  | CP_RAW
  | CP_DOWNGRADE
  | CP_DYNAMIC
  | CP_FLOOR
  | CP_POOL_CLK
  | DC_GRAINS
  | DC_DECODE_ERR
  | DC_UNITS
  | DD_CTRL
  | DD_TBL_BASE
  | DD_TBL_BITS
  | DD_REF_CAP
  | DD_HOT_PROMOTE
  | DD_VOL_SEL
  | DD_VOL_POLICY
  | DD_MERGE_RATE
  | DD_HOT_HITS
  | DD_DRAM_HITS
  | DD_TWIN_HITS
  | DD_LATE
  | DD_REFUSED
  | DD_MERGED
  | DD_VERIFY_MISMATCH
  | DD_BUCKET_EVICT
  | DD_MERGE_BACKLOG
  | RD_CTRL
  | RD_RA_THRESH
  | RD_RA_MAX
  | RD_SUSP_MAX
  | RD_TR_MAX
  | RD_FLASH_BOUND
  | RD_BASIN_FREE
  | RD_GRAINS
  | RD_CISTERN_HITS
  | RD_READAROUND
  | RD_SUSPENDS
  | RD_DECODE_RETRY
  | RD_REPAIRS
  | RD_UNRECOVERED
  | RD_BOUND_MISS
  | RD_LAT_MAX
  | RD_BASIN_WAITS
  | MLK_CTRL
  | MLK_STATUS
  | MLK_FORCE_SWAP
  | MLK_LANE_LIMIT
  | MLK_MOD_EPOCH0
  | MLK_MOD_EPOCH1
  | MLK_FLITS_TX
  | MLK_FLITS_RX
  | MLK_CRC_ERR
  | MLK_REPLAYS
  | MLK_RETRAINS
  | MLK_STALE
  | MLK_LANE_ERR
  | MLK_CREDIT
  | MLK_TAGS
  | MLK_IDENT
  | MLK_TELEM
  | FTL_POOL_SEL
  | FTL_POOL_STATE
  | FTL_CAP
  | FTL_FREE
  | FTL_LIVE
  | FTL_LOW_PM
  | FTL_GC_THRESH
  | FTL_GC_AGE_BASE
  | FTL_GC_RATE
  | FTL_SEG_FREE
  | FTL_SEG_TOTAL
  | FTL_RECLAIMED
  | FTL_COPIED
  | FTL_TSEQ_DUR
  | FTL_JRNL_WAIT
  | FTL_CKPT_INT
  | FTL_ORPHANS
  | FTL_MAP_DIRTY
  | FTL_BACKREF_BACKLOG
  | FTL_SNAP_COUNT
  | FTL_CMD
  | FTL_CMD_STATUS
  | FTL_RESULT
  | FTL_ARG
  | LD_CW
  | LD_FIRST_FAIL
  | LD_CORR_BITS
  | LD_UNITS
  | LD_CAL_CTRL
  | CAL_MIN_ERR
  | CAL_HYST
  | CAL_INTERVAL
  | CAL_STALE_INT
  | CAL_SEL
  | CAL_OFFS
  | CAL_UPDATES
  | CAL_CLAMPS
  | LD_CAL_STALE
  | PAT_CTRL
  | PAT_PERIOD
  | PAT_COVER_MIN
  | PAT_BER_OK
  | PAT_MAX_RATE
  | PAT_PASS_START
  | PAT_PROGRESS
  | PAT_SKIPPED
  | PAT_READS
  | PAT_REFRESH
  | PAT_LATE
  | HL_SEL
  | HL_RD_LIMIT
  | HL_RET_LIMIT
  | HL_CORR_REFRESH
  | HL_XTEMP
  | HL_DIE_FAIL_LIMIT
  | HL_SPARE_WARN
  | HL_REFRESH_PEND
  | HL_SUSPECT
  | HL_REC
  | WR_POOL_SEL
  | WR_CTRL
  | WR_END
  | WR_MARGIN
  | WR_PACE_MIN
  | WR_GC_UMAX
  | WR_BUDGET
  | WR_E24
  | WR_RATIO
  | WR_STATE
  | WR_DAYS
  | WR_REM
  | SP_POOL_SEL
  | SP_LAYOUT
  | SP_MODULES
  | SP_STATE
  | SP_FAILED
  | SP_SUBST
  | SP_REB_RATE
  | SP_REB_GRACE
  | SP_REB_HOLDOFF
  | SP_REB_LEFT
  | SP_RESHAPE_RATE
  | SP_RESHAPE_LEFT
  | SP_SWITCH_SEQ
  | SP_JBAND
  | SP_LOSS_COUNT
  | SP_LOSS_OVERFLOW
  | SP_LOSS_SEL
  | SP_STRIPES_WR
  | SP_RECON
  | SP_Q_RETRY
  | SP_CMD
  | SP_CMD_STATUS
  | SP_ARG
  | SP_LOSS_DATA
  | TL_CTRL
  | TL_STATUS
  | TL_FORCE_SWAP
  | TL_LANE_LIMIT
  | TL_FLITS_TX
  | TL_FLITS_RX
  | TL_CRC_ERR
  | TL_REPLAYS
  | TL_RETRAINS
  | TL_FWD_SENT
  | TL_FWD_RCVD
  | TL_LANE_ERR
  | TL_PARTNER
  | RN_CTRL
  | RN_KEY
  | RN_STATUS
  | RN_A_MISS
  | RN_B_MISS
  | RN_AUTH_FAIL
  | RN_LAST_A
  | RN_LAST_B
  | RN_B_LINK
  | TD_STATE
  | TD_CMD
  | TD_CMD_STATUS
  | TD_HOLD_MAX
  | TD_JOIN_WAIT
  | TD_ARB
  | TD_LOST_AT
  | TD_TAKEOVERS
  | TD_TWINS
  | TD_TCPL_SENT
  | TD_ARG
  | RP_GROUP_SEL
  | RP_CFG
  | RP_BATCH
  | RP_SYNC_TMO
  | RP_QP
  | RP_STATE
  | RP_LAST_STAGED
  | RP_LAST_APPLIED
  | RP_LAG
  | RP_RECS_TX
  | RP_DUP_DISCARD
  | RP_CMD
  | RP_CMD_STATUS
  | RP_ARG
  | DC_CFG
  | DC_CTRL
  | DC_FREQ_CMD
  | DC_STATUS
  | DC_TSEL
  | DC_TIM
  | DC_PNR
  | DC_SCRUB
  | DC_SCRUB_PROGRESS
  | DC_SPARE_THRESH
  | DC_SPARE_RATE
  | DC_DRIFT
  | DC_CE_COUNT
  | DC_UE_COUNT
  | DC_CE_LAST
  | DC_CE_ADDR
  | DC_DRFM
  | DC_PPR
  | DC_LAT_MAX
  | DC_DRIFT_STEPS
  | DC_UTIL
  | DC_PORT
  | MC_CFG
  | MC_HITS
  | MC_MISSES
  | MC_MERGES
  | MC_SECTOR_FILLS
  | MC_EVICT_DIRTY
  | MC_MSR_INUSE
  | MC_MSR_FULL
  | MC_EVICT_WAITS
  | MC_OP
  | MC_OP_ADDR
  | MC_OP_LINES
  | MC_OP_STATUS
  | MC_DIRTY
  | MC_SRAM_CE
  | MC_REBUILDS
  | KDE_CLAIM
  | KDE_OWNER
  | KDE_CTRL
  | KDE_MODE
  | KDE_STATUS
  | KDE_DATA
  | KDE_TAIL
  | KDE_LEN
  | KDE_RESULT
  | KDE_CMP_COMPAT
  | KDE_CTX_CMD
  | KDE_CTX_STATUS
  | KDE_CTX_OWNER
  | KDE_IDLE_MAX
  | KDE_SESSIONS
  | KDE_DIGEST
  | KDE_EXPECT
  | KS_SEL
  | KS_CMD
  | KS_CMD_STATUS
  | KS_LEN
  | KS_USE_ARG
  | KS_STATE
  | KS_KCV
  | KS_VALID_MAP
  | KS_LOCK_MAP
  | KS_GLOBAL
  | KS_DATA
  | GD_LADDER
  | GD_Q_SEL
  | GD_Q_ENTRY0
  | GD_Q_ENTRY1
  | GD_Q_STRIDE
  | GD_OVERFLOW
  | GD_ESCALATIONS
  | GD_LEVEL_COUNT
  | GD_DIAG_BASE
  | GD_DIAG_SIZE
  | GD_DIAG_PROD
  | GD_DIAG_CONS
  | GD_DIAG_LOST
  | GD_DIAG_CTRL
  | GD_ACT_SEL
  | GD_ACT_RUN
  | GD_LAST_DECISION
  | GD_ACT_QLEN
  | GD_ACT_CANCEL
  | GD_MX
  | STB_CTRL
  | STB_STATUS
  | STB_END
  | STB_FLUSHED
  | STB_LAST_SEQ
  | STB_FILL_PM
  | STB_DROPPED
  | STB_RD_OFF
  | STB_RD_STATUS
  | STB_APP_CMD
  | STB_APP_STATUS
  | STB_APP_DATA
  | STB_RD_WIN
  | TK_STATUS
  | TK_SEQ
  | TK_SKIPPED
  | TK_CTRL
  | TK_HOST
  | TK_CMD
  | TK_CMD_STATUS
  | TK_INVALID
  | RM_CTRL
  | RM_INV_SEL
  | RM_INV
  | RM_STATUS
  | RM_CANDIDATES
  | RM_CMD
  | RM_CMD_STATUS
  | RM_COUNT
  | RM_SRAM_ROWS
  | SVC_CTRL
  | SVC_STATUS
  | SVC_MAC
  | SVC_IPV4
  | SVC_IPV4_MASK
  | SVC_IPV4_GW
  | SVC_IPV6
  | SVC_IDLE
  | SVC_MAINT_MAP
  | SVC_AUTH_FAIL
  | SVC_RX_DROP
  | SVC_MSG_RX
  | FW_RUN
  | FW_RUN_BUILD
  | FW_RUN_VER
  | FW_INST_BUILD
  | FW_FLOOR
  | FW_SLOT
  | FW_SLOT_BUILD
  | FW_STAGE
  | FW_STAGE_BYTES
  | FW_CMD
  | FW_CMD_STATUS
  | CHIP_RST_STATUS
  | CHIP_RST_CTL
  | CHIP_PCIE_RESETS
  | PF_STATUS
  | PF_TRIP
  | PF_HYST
  | MOD_RST
  | MOD_PRSNT
  | CHIP_TJ
  | TJ_WARN
  | ETH_SD_TXEQ
  | ETH_SD_RX
  | ETH_SD_EYE
  | soft
  | block
  | any

/-- The register number `k` is that of a register with bits that software writes under an access code (R16). -/
def softKey (k : Nat) : Bool :=
  match pageAt (k % 0x1000000) with
  | none => false
  | some (r, _) =>
    match rowAt r (k % 0x1000) with
    | none => false
    | some (row, _, _) => decide (row.rw ||| row.rws ||| row.w1c ||| row.rc ≠ 0)

/-- The register number `k` is that of a block-specific register: it lies above the header of its page (R59). -/
def blockKey (k : Nat) : Bool := decide (0x40 ≤ k % 0x1000)

/-- The register number `k` is one of those that the name stands for; a 64-bit register has two halves (R15). -/
def RegName.has : RegName → Nat → Prop
  | .PG_IDENT, k => ∃ p, k = R.PG_IDENT p
  | .PG_VERSION, k => ∃ p, k = R.PG_VERSION p
  | .PG_CAPS, k => ∃ p, k = R.PG_CAPS p
  | .PG_CTRL, k => ∃ p, k = R.PG_CTRL p
  | .PG_STATE, k => ∃ p, k = R.PG_STATE p
  | .PG_EVENT, k => ∃ p, k = R.PG_EVENT p
  | .PG_EVENT_EN, k => ∃ p, k = R.PG_EVENT_EN p
  | .PG_EVENT_FORCE, k => ∃ p, k = R.PG_EVENT_FORCE p
  | .PG_ERR_FIRST, k => ∃ p, k = R.PG_ERR_FIRST p
  | .PG_ERR_COUNT, k => ∃ p, k = R.PG_ERR_COUNT p
  | .PG_ERR_STRIDE, k => ∃ p, k = R.PG_ERR_STRIDE p ∨ k = R.PG_ERR_STRIDE p + 4
  | .PG_INJECT, k => ∃ p, k = R.PG_INJECT p
  | .PG_SPARE, k => ∃ p, k = R.PG_SPARE p
  | .UNIT_WORD, k => ∃ p u, k = R.UNIT_WORD p u
  | .STR_NUM, k => k = R.STR_NUM ∨ k = R.STR_NUM + 4
  | .STR_CTRL, k => k = R.STR_CTRL
  | .STR_STATUS, k => k = R.STR_STATUS
  | .STR_OFFSET, k => k = R.STR_OFFSET
  | .STR_SKEW, k => k = R.STR_SKEW
  | .STR_COMMIT_AT, k => k = R.STR_COMMIT_AT ∨ k = R.STR_COMMIT_AT + 4
  | .STR_OVR_COUNT, k => k = R.STR_OVR_COUNT
  | .STR_OVR_LAST, k => k = R.STR_OVR_LAST
  | .CAL_SEC, k => k = R.CAL_SEC ∨ k = R.CAL_SEC + 4
  | .CAL_SUBSEC, k => k = R.CAL_SUBSEC
  | .CAL_SET, k => k = R.CAL_SET ∨ k = R.CAL_SET + 4
  | .CAL_CTRL, k => k = R.CAL_CTRL
  | .CAL_TRIM, k => k = R.CAL_TRIM
  | .CAL_STATUS, k => k = R.CAL_STATUS
  | .CAL_AT_STRIDE, k => k = R.CAL_AT_STRIDE ∨ k = R.CAL_AT_STRIDE + 4
  | .CAL_AT_CLK, k => k = R.CAL_AT_CLK
  | .PWR_STRIDES, k => k = R.PWR_STRIDES ∨ k = R.PWR_STRIDES + 4
  | .PWR_CYCLES, k => k = R.PWR_CYCLES
  | .RESETS, k => k = R.RESETS
  | .REMOUNTS, k => k = R.REMOUNTS
  | .LIFE_CTRL, k => k = R.LIFE_CTRL
  | .LIFE_STATUS, k => k = R.LIFE_STATUS
  | .TJ_MAX_SEEN, k => k = R.TJ_MAX_SEEN
  | .TEMP_BAND, k => ∃ i, k = R.TEMP_BAND i
  | .MOD_WR, k => ∃ i, k = R.MOD_WR i ∨ k = R.MOD_WR i + 4
  | .CHIP_PART, k => k = R.CHIP_PART
  | .CHIP_STEP, k => k = R.CHIP_STEP
  | .CHIP_HEAD, k => k = R.CHIP_HEAD
  | .CHIP_INJ_EN, k => k = R.CHIP_INJ_EN
  | .CHIP_PG_COUNT, k => k = R.CHIP_PG_COUNT
  | .EVT_GROUP_PEND, k => k = R.EVT_GROUP_PEND ∨ k = R.EVT_GROUP_PEND + 4
  | .EVT_ARM, k => k = R.EVT_ARM ∨ k = R.EVT_ARM + 4
  | .EVT_PEND, k => ∃ i, k = R.EVT_PEND i
  | .EVT_GROUP_VEC, k => ∃ i, k = R.EVT_GROUP_VEC i
  | .EVT_ROUTE, k => ∃ i, k = R.EVT_ROUTE i
  | .PCIE_LINK, k => k = R.PCIE_LINK
  | .PCIE_CAP_LINK, k => k = R.PCIE_CAP_LINK
  | .PCIE_MPS, k => k = R.PCIE_MPS
  | .PCIE_RETRAINS, k => k = R.PCIE_RETRAINS
  | .PCIE_RX_ERR, k => k = R.PCIE_RX_ERR
  | .PCIE_REPLAYS, k => k = R.PCIE_REPLAYS
  | .PCIE_CPL_TMO, k => k = R.PCIE_CPL_TMO
  | .PCIE_POISONED, k => k = R.PCIE_POISONED
  | .PCIE_FLR, k => k = R.PCIE_FLR
  | .PCIE_UR, k => k = R.PCIE_UR
  | .FN_SEL, k => k = R.FN_SEL
  | .FN_CMD, k => k = R.FN_CMD
  | .FN_CMD_STATUS, k => k = R.FN_CMD_STATUS
  | .FN_MODE, k => k = R.FN_MODE
  | .FN_QP_QUOTA, k => k = R.FN_QP_QUOTA
  | .FN_CISTERN_QUOTA, k => k = R.FN_CISTERN_QUOTA
  | .FN_WEIR_MIN, k => k = R.FN_WEIR_MIN
  | .FN_WEIR_MAX, k => k = R.FN_WEIR_MAX
  | .FN_MSIX, k => k = R.FN_MSIX
  | .FN_VOL, k => k = R.FN_VOL
  | .FN_NSID, k => k = R.FN_NSID
  | .FN_STATE, k => ∃ b, k = R.FN_STATE b
  | .FN_STALE_COUNT, k => ∃ b, k = R.FN_STALE_COUNT b
  | .POOL_QP_FREE, k => k = R.POOL_QP_FREE
  | .POOL_CISTERN_FREE, k => k = R.POOL_CISTERN_FREE
  | .POOL_WEIR_FREE, k => k = R.POOL_WEIR_FREE
  | .MGMT_DB_PEND, k => ∃ i, k = R.MGMT_DB_PEND i
  | .FN_MBOX, k => ∃ i, k = R.FN_MBOX i
  | .FN_REPLY, k => ∃ i, k = R.FN_REPLY i
  | .WEIR_CAP, k => k = R.WEIR_CAP
  | .WEIR_SEL, k => k = R.WEIR_SEL
  | .WEIR_MIN, k => ∃ b, k = R.WEIR_MIN b
  | .WEIR_MAX, k => ∃ b, k = R.WEIR_MAX b
  | .WEIR_BAL, k => ∃ b, k = R.WEIR_BAL b
  | .WEIR_PS, k => ∃ b, k = R.WEIR_PS b
  | .LQV_CTRL, k => ∃ n i, k = R.LQV_CTRL n i
  | .LQV_STATUS, k => ∃ n i, k = R.LQV_STATUS n i
  | .LQV_ISSUE, k => ∃ n i, k = R.LQV_ISSUE n i
  | .LQV_DONE, k => ∃ n i, k = R.LQV_DONE n i
  | .LQ_CMPL_COUNT, k => ∃ n i, k = R.LQ_CMPL_COUNT n i
  | .ETH_MODE, k => ∃ n, k = R.ETH_MODE n
  | .ETH_STATUS, k => ∃ n, k = R.ETH_STATUS n
  | .ETH_MAC_A, k => ∃ n, k = R.ETH_MAC_A n ∨ k = R.ETH_MAC_A n + 4
  | .ETH_MAC_B, k => ∃ n, k = R.ETH_MAC_B n ∨ k = R.ETH_MAC_B n + 4
  | .ETH_MTU, k => ∃ n, k = R.ETH_MTU n
  | .ETH_PRIO, k => ∃ n, k = R.ETH_PRIO n
  | .ETH_DSCP, k => ∃ n, k = R.ETH_DSCP n
  | .ETH_FEC_LIMIT, k => ∃ n, k = R.ETH_FEC_LIMIT n
  | .ETH_FEC_CORR, k => ∃ n, k = R.ETH_FEC_CORR n
  | .ETH_FEC_UNCORR, k => ∃ n, k = R.ETH_FEC_UNCORR n
  | .ETH_RX_OTHER, k => ∃ n, k = R.ETH_RX_OTHER n
  | .ETH_ICRC_ERR, k => ∃ n, k = R.ETH_ICRC_ERR n
  | .ETH_MISS_LEVEL, k => ∃ n, k = R.ETH_MISS_LEVEL n
  | .ETH_MISS_HWM, k => ∃ n, k = R.ETH_MISS_HWM n
  | .ETH_RNR_SENT, k => ∃ n, k = R.ETH_RNR_SENT n
  | .ETH_GID, k => ∃ n i, k = R.ETH_GID n i
  | .RMA_CMD, k => k = R.RMA_CMD
  | .RMA_CMD_STATUS, k => k = R.RMA_CMD_STATUS
  | .RMA_RESULT, k => k = R.RMA_RESULT
  | .EVQ_BASE, k => k = R.EVQ_BASE ∨ k = R.EVQ_BASE + 4
  | .EVQ_SIZE, k => k = R.EVQ_SIZE
  | .EVQ_PROD, k => k = R.EVQ_PROD
  | .EVQ_CONS, k => k = R.EVQ_CONS
  | .EVQ_LOST, k => k = R.EVQ_LOST
  | .DUP_ACKED, k => k = R.DUP_ACKED
  | .SEQ_NAK, k => k = R.SEQ_NAK
  | .RMA_KEY_VIOLATION, k => k = R.RMA_KEY_VIOLATION
  | .GSI_BASE, k => k = R.GSI_BASE ∨ k = R.GSI_BASE + 4
  | .GSI_PROD, k => k = R.GSI_PROD
  | .GSI_CONS, k => k = R.GSI_CONS
  | .GSI_RX_DROP, k => k = R.GSI_RX_DROP
  | .GSI_TX_BASE, k => k = R.GSI_TX_BASE ∨ k = R.GSI_TX_BASE + 4
  | .GSI_TX_PROD, k => k = R.GSI_TX_PROD
  | .GSI_TX_CONS, k => k = R.GSI_TX_CONS
  | .GSI_TX_BAD, k => k = R.GSI_TX_BAD
  | .RMA_ARG, k => ∃ i, k = R.RMA_ARG i
  | .CTX_FREE_NET, k => k = R.CTX_FREE_NET
  | .CTX_CACHED, k => k = R.CTX_CACHED
  | .CTX_HELD_PINNED, k => k = R.CTX_HELD_PINNED
  | .CTX_PIN_MAX, k => k = R.CTX_PIN_MAX
  | .CTX_MISS_COUNT, k => k = R.CTX_MISS_COUNT
  | .CTX_EVICT_COUNT, k => k = R.CTX_EVICT_COUNT
  | .CTX_FETCH_MAX, k => k = R.CTX_FETCH_MAX
  | .CTX_BAD_QPN, k => k = R.CTX_BAD_QPN
  | .CTX_NAK_DISCARD, k => k = R.CTX_NAK_DISCARD
  | .CTX_STORE_BASE, k => k = R.CTX_STORE_BASE ∨ k = R.CTX_STORE_BASE + 4
  | .ING_CMDS, k => k = R.ING_CMDS
  | .ING_GRAINS, k => k = R.ING_GRAINS
  | .ING_PI_ERR, k => k = R.ING_PI_ERR
  | .ING_LEN_ERR, k => k = R.ING_LEN_ERR
  | .ING_RANGE_ERR, k => k = R.ING_RANGE_ERR
  | .ING_LOCKS, k => k = R.ING_LOCKS
  | .ING_LOCKS_HWM, k => k = R.ING_LOCKS_HWM
  | .ING_LOCK_WAITS, k => k = R.ING_LOCK_WAITS
  | .ING_BUSY_RETRY, k => k = R.ING_BUSY_RETRY
  | .ING_PARTIAL, k => k = R.ING_PARTIAL
  | .CIST_BASE, k => k = R.CIST_BASE ∨ k = R.CIST_BASE + 4
  | .CIST_CFG, k => k = R.CIST_CFG
  | .CIST_FN_SHARE, k => k = R.CIST_FN_SHARE
  | .CIST_OWN_USED, k => k = R.CIST_OWN_USED
  | .CIST_MIRROR_USED, k => k = R.CIST_MIRROR_USED
  | .CIST_CTRL, k => k = R.CIST_CTRL
  | .CIST_STATUS, k => k = R.CIST_STATUS
  | .CIST_CSEQ, k => k = R.CIST_CSEQ ∨ k = R.CIST_CSEQ + 4
  | .CIST_ACK_MAX, k => k = R.CIST_ACK_MAX
  | .CIST_FUA_MAX_WAIT, k => k = R.CIST_FUA_MAX_WAIT
  | .CIST_SPILL_BOUND, k => k = R.CIST_SPILL_BOUND
  | .CIST_SPILL_LAST, k => k = R.CIST_SPILL_LAST
  | .CIST_RING_STALL, k => k = R.CIST_RING_STALL
  | .CIST_SPILL_DISCARD, k => k = R.CIST_SPILL_DISCARD
  | .CAM_CFG, k => ∃ n, k = R.CAM_CFG n
  | .CAM_VALID, k => ∃ n, k = R.CAM_VALID n
  | .CAM_PEND, k => ∃ n, k = R.CAM_PEND n
  | .CAM_OP, k => ∃ n, k = R.CAM_OP n
  | .CAM_INDEX, k => ∃ n, k = R.CAM_INDEX n
  | .CAM_OP_STATUS, k => ∃ n, k = R.CAM_OP_STATUS n
  | .CAM_ENTRY, k => ∃ n, k = R.CAM_ENTRY n
  | .CAM_KEY, k => ∃ n i, k = R.CAM_KEY n i
  | .CAM_RESULT, k => ∃ n, k = R.CAM_RESULT n ∨ k = R.CAM_RESULT n + 4
  | .CAM_HIT_LOC, k => ∃ n, k = R.CAM_HIT_LOC n
  | .CAM_MATCH_COUNT, k => ∃ n, k = R.CAM_MATCH_COUNT n
  | .CAM_MV_SEL, k => ∃ n, k = R.CAM_MV_SEL n
  | .CAM_MV_DATA, k => ∃ n, k = R.CAM_MV_DATA n
  | .CAM_MS_START, k => ∃ n, k = R.CAM_MS_START n
  | .CAM_MSR, k => ∃ n i, k = R.CAM_MSR n i
  | .CAM_SEARCHES, k => ∃ n, k = R.CAM_SEARCHES n
  | .CAM_MULTI, k => ∃ n, k = R.CAM_MULTI n
  | .CAM_PARITY_ERR, k => ∃ n, k = R.CAM_PARITY_ERR n
  | .FLT_CTRL, k => ∃ n, k = R.FLT_CTRL n
  | .FLT_MASK, k => ∃ n, k = R.FLT_MASK n
  | .FLT_DROPS, k => ∃ n, k = R.FLT_DROPS n
  | .CAM_MASK, k => ∃ n i, k = R.CAM_MASK n i
  | .DG_GRAINS, k => k = R.DG_GRAINS
  | .DG_ZERO, k => k = R.DG_ZERO
  | .DG_DISAGREE, k => k = R.DG_DISAGREE
  | .DG_CAP, k => k = R.DG_CAP
  | .CP_RAW_DEFAULT, k => k = R.CP_RAW_DEFAULT
  | .CP_IN_GRAINS, k => k = R.CP_IN_GRAINS
  | .CP_OUT_GRANULES, k => k = R.CP_OUT_GRANULES
  | .CP_RAW, k => k = R.CP_RAW
  | .CP_DOWNGRADE, k => k = R.CP_DOWNGRADE
  | .CP_DYNAMIC, k => k = R.CP_DYNAMIC
  | .CP_FLOOR, k => k = R.CP_FLOOR
  | .CP_POOL_CLK, k => k = R.CP_POOL_CLK
  | .DC_GRAINS, k => k = R.DC_GRAINS
  | .DC_DECODE_ERR, k => k = R.DC_DECODE_ERR
  | .DC_UNITS, k => k = R.DC_UNITS
  | .DD_CTRL, k => k = R.DD_CTRL
  | .DD_TBL_BASE, k => k = R.DD_TBL_BASE ∨ k = R.DD_TBL_BASE + 4
  | .DD_TBL_BITS, k => k = R.DD_TBL_BITS
  | .DD_REF_CAP, k => k = R.DD_REF_CAP
  | .DD_HOT_PROMOTE, k => k = R.DD_HOT_PROMOTE
  | .DD_VOL_SEL, k => k = R.DD_VOL_SEL
  | .DD_VOL_POLICY, k => ∃ b, k = R.DD_VOL_POLICY b
  | .DD_MERGE_RATE, k => k = R.DD_MERGE_RATE
  | .DD_HOT_HITS, k => k = R.DD_HOT_HITS
  | .DD_DRAM_HITS, k => k = R.DD_DRAM_HITS
  | .DD_TWIN_HITS, k => k = R.DD_TWIN_HITS
  | .DD_LATE, k => k = R.DD_LATE
  | .DD_REFUSED, k => k = R.DD_REFUSED
  | .DD_MERGED, k => k = R.DD_MERGED
  | .DD_VERIFY_MISMATCH, k => k = R.DD_VERIFY_MISMATCH
  | .DD_BUCKET_EVICT, k => k = R.DD_BUCKET_EVICT
  | .DD_MERGE_BACKLOG, k => k = R.DD_MERGE_BACKLOG
  | .RD_CTRL, k => k = R.RD_CTRL
  | .RD_RA_THRESH, k => k = R.RD_RA_THRESH
  | .RD_RA_MAX, k => k = R.RD_RA_MAX
  | .RD_SUSP_MAX, k => k = R.RD_SUSP_MAX
  | .RD_TR_MAX, k => k = R.RD_TR_MAX
  | .RD_FLASH_BOUND, k => k = R.RD_FLASH_BOUND
  | .RD_BASIN_FREE, k => k = R.RD_BASIN_FREE
  | .RD_GRAINS, k => k = R.RD_GRAINS
  | .RD_CISTERN_HITS, k => k = R.RD_CISTERN_HITS
  | .RD_READAROUND, k => k = R.RD_READAROUND
  | .RD_SUSPENDS, k => k = R.RD_SUSPENDS
  | .RD_DECODE_RETRY, k => k = R.RD_DECODE_RETRY
  | .RD_REPAIRS, k => k = R.RD_REPAIRS
  | .RD_UNRECOVERED, k => k = R.RD_UNRECOVERED
  | .RD_BOUND_MISS, k => k = R.RD_BOUND_MISS
  | .RD_LAT_MAX, k => k = R.RD_LAT_MAX
  | .RD_BASIN_WAITS, k => k = R.RD_BASIN_WAITS
  | .MLK_CTRL, k => ∃ n, k = R.MLK_CTRL n
  | .MLK_STATUS, k => ∃ n, k = R.MLK_STATUS n
  | .MLK_FORCE_SWAP, k => ∃ n, k = R.MLK_FORCE_SWAP n
  | .MLK_LANE_LIMIT, k => ∃ n, k = R.MLK_LANE_LIMIT n
  | .MLK_MOD_EPOCH0, k => ∃ n, k = R.MLK_MOD_EPOCH0 n
  | .MLK_MOD_EPOCH1, k => ∃ n, k = R.MLK_MOD_EPOCH1 n
  | .MLK_FLITS_TX, k => ∃ n, k = R.MLK_FLITS_TX n
  | .MLK_FLITS_RX, k => ∃ n, k = R.MLK_FLITS_RX n
  | .MLK_CRC_ERR, k => ∃ n, k = R.MLK_CRC_ERR n
  | .MLK_REPLAYS, k => ∃ n, k = R.MLK_REPLAYS n
  | .MLK_RETRAINS, k => ∃ n, k = R.MLK_RETRAINS n
  | .MLK_STALE, k => ∃ n, k = R.MLK_STALE n
  | .MLK_LANE_ERR, k => ∃ n i, k = R.MLK_LANE_ERR n i
  | .MLK_CREDIT, k => ∃ n, k = R.MLK_CREDIT n
  | .MLK_TAGS, k => ∃ n, k = R.MLK_TAGS n
  | .MLK_IDENT, k => ∃ n i, k = R.MLK_IDENT n i
  | .MLK_TELEM, k => ∃ n i, k = R.MLK_TELEM n i
  | .FTL_POOL_SEL, k => k = R.FTL_POOL_SEL
  | .FTL_POOL_STATE, k => ∃ b, k = R.FTL_POOL_STATE b
  | .FTL_CAP, k => ∃ b, k = R.FTL_CAP b ∨ k = R.FTL_CAP b + 4
  | .FTL_FREE, k => ∃ b, k = R.FTL_FREE b ∨ k = R.FTL_FREE b + 4
  | .FTL_LIVE, k => ∃ b, k = R.FTL_LIVE b ∨ k = R.FTL_LIVE b + 4
  | .FTL_LOW_PM, k => ∃ b, k = R.FTL_LOW_PM b
  | .FTL_GC_THRESH, k => ∃ b, k = R.FTL_GC_THRESH b
  | .FTL_GC_AGE_BASE, k => ∃ b, k = R.FTL_GC_AGE_BASE b
  | .FTL_GC_RATE, k => ∃ b, k = R.FTL_GC_RATE b
  | .FTL_SEG_FREE, k => ∃ b, k = R.FTL_SEG_FREE b
  | .FTL_SEG_TOTAL, k => ∃ b, k = R.FTL_SEG_TOTAL b
  | .FTL_RECLAIMED, k => ∃ b, k = R.FTL_RECLAIMED b
  | .FTL_COPIED, k => ∃ b, k = R.FTL_COPIED b
  | .FTL_TSEQ_DUR, k => ∃ b, k = R.FTL_TSEQ_DUR b ∨ k = R.FTL_TSEQ_DUR b + 4
  | .FTL_JRNL_WAIT, k => k = R.FTL_JRNL_WAIT
  | .FTL_CKPT_INT, k => k = R.FTL_CKPT_INT
  | .FTL_ORPHANS, k => ∃ b, k = R.FTL_ORPHANS b
  | .FTL_MAP_DIRTY, k => ∃ b, k = R.FTL_MAP_DIRTY b
  | .FTL_BACKREF_BACKLOG, k => ∃ b, k = R.FTL_BACKREF_BACKLOG b
  | .FTL_SNAP_COUNT, k => k = R.FTL_SNAP_COUNT
  | .FTL_CMD, k => k = R.FTL_CMD
  | .FTL_CMD_STATUS, k => k = R.FTL_CMD_STATUS
  | .FTL_RESULT, k => k = R.FTL_RESULT
  | .FTL_ARG, k => ∃ i, k = R.FTL_ARG i
  | .LD_CW, k => k = R.LD_CW
  | .LD_FIRST_FAIL, k => k = R.LD_FIRST_FAIL
  | .LD_CORR_BITS, k => k = R.LD_CORR_BITS
  | .LD_UNITS, k => k = R.LD_UNITS
  | .LD_CAL_CTRL, k => k = R.LD_CAL_CTRL
  | .CAL_MIN_ERR, k => k = R.CAL_MIN_ERR
  | .CAL_HYST, k => k = R.CAL_HYST
  | .CAL_INTERVAL, k => k = R.CAL_INTERVAL
  | .CAL_STALE_INT, k => k = R.CAL_STALE_INT
  | .CAL_SEL, k => k = R.CAL_SEL
  | .CAL_OFFS, k => k = R.CAL_OFFS ∨ k = R.CAL_OFFS + 4
  | .CAL_UPDATES, k => k = R.CAL_UPDATES
  | .CAL_CLAMPS, k => k = R.CAL_CLAMPS
  | .LD_CAL_STALE, k => k = R.LD_CAL_STALE
  | .PAT_CTRL, k => k = R.PAT_CTRL
  | .PAT_PERIOD, k => k = R.PAT_PERIOD
  | .PAT_COVER_MIN, k => k = R.PAT_COVER_MIN
  | .PAT_BER_OK, k => k = R.PAT_BER_OK
  | .PAT_MAX_RATE, k => k = R.PAT_MAX_RATE
  | .PAT_PASS_START, k => k = R.PAT_PASS_START ∨ k = R.PAT_PASS_START + 4
  | .PAT_PROGRESS, k => k = R.PAT_PROGRESS
  | .PAT_SKIPPED, k => k = R.PAT_SKIPPED
  | .PAT_READS, k => k = R.PAT_READS
  | .PAT_REFRESH, k => k = R.PAT_REFRESH
  | .PAT_LATE, k => k = R.PAT_LATE
  | .HL_SEL, k => k = R.HL_SEL
  | .HL_RD_LIMIT, k => k = R.HL_RD_LIMIT
  | .HL_RET_LIMIT, k => k = R.HL_RET_LIMIT
  | .HL_CORR_REFRESH, k => k = R.HL_CORR_REFRESH
  | .HL_XTEMP, k => k = R.HL_XTEMP
  | .HL_DIE_FAIL_LIMIT, k => k = R.HL_DIE_FAIL_LIMIT
  | .HL_SPARE_WARN, k => k = R.HL_SPARE_WARN
  | .HL_REFRESH_PEND, k => k = R.HL_REFRESH_PEND
  | .HL_SUSPECT, k => k = R.HL_SUSPECT
  | .HL_REC, k => ∃ i, k = R.HL_REC i
  | .WR_POOL_SEL, k => k = R.WR_POOL_SEL
  | .WR_CTRL, k => ∃ b, k = R.WR_CTRL b
  | .WR_END, k => ∃ b, k = R.WR_END b ∨ k = R.WR_END b + 4
  | .WR_MARGIN, k => ∃ b, k = R.WR_MARGIN b
  | .WR_PACE_MIN, k => ∃ b, k = R.WR_PACE_MIN b
  | .WR_GC_UMAX, k => ∃ b, k = R.WR_GC_UMAX b
  | .WR_BUDGET, k => ∃ b, k = R.WR_BUDGET b
  | .WR_E24, k => ∃ b, k = R.WR_E24 b
  | .WR_RATIO, k => ∃ b, k = R.WR_RATIO b
  | .WR_STATE, k => ∃ b, k = R.WR_STATE b
  | .WR_DAYS, k => ∃ b, k = R.WR_DAYS b
  | .WR_REM, k => ∃ b, k = R.WR_REM b ∨ k = R.WR_REM b + 4
  | .SP_POOL_SEL, k => k = R.SP_POOL_SEL
  | .SP_LAYOUT, k => ∃ b, k = R.SP_LAYOUT b
  | .SP_MODULES, k => ∃ b, k = R.SP_MODULES b
  | .SP_STATE, k => ∃ b, k = R.SP_STATE b
  | .SP_FAILED, k => ∃ b, k = R.SP_FAILED b
  | .SP_SUBST, k => ∃ b i, k = R.SP_SUBST b i
  | .SP_REB_RATE, k => k = R.SP_REB_RATE
  | .SP_REB_GRACE, k => k = R.SP_REB_GRACE
  | .SP_REB_HOLDOFF, k => k = R.SP_REB_HOLDOFF
  | .SP_REB_LEFT, k => ∃ b, k = R.SP_REB_LEFT b ∨ k = R.SP_REB_LEFT b + 4
  | .SP_RESHAPE_RATE, k => k = R.SP_RESHAPE_RATE
  | .SP_RESHAPE_LEFT, k => ∃ b, k = R.SP_RESHAPE_LEFT b
  | .SP_SWITCH_SEQ, k => ∃ b, k = R.SP_SWITCH_SEQ b ∨ k = R.SP_SWITCH_SEQ b + 4
  | .SP_JBAND, k => ∃ b, k = R.SP_JBAND b
  | .SP_LOSS_COUNT, k => ∃ b, k = R.SP_LOSS_COUNT b
  | .SP_LOSS_OVERFLOW, k => ∃ b, k = R.SP_LOSS_OVERFLOW b
  | .SP_LOSS_SEL, k => k = R.SP_LOSS_SEL
  | .SP_STRIPES_WR, k => ∃ b, k = R.SP_STRIPES_WR b
  | .SP_RECON, k => ∃ b, k = R.SP_RECON b
  | .SP_Q_RETRY, k => ∃ b, k = R.SP_Q_RETRY b
  | .SP_CMD, k => k = R.SP_CMD
  | .SP_CMD_STATUS, k => k = R.SP_CMD_STATUS
  | .SP_ARG, k => ∃ i, k = R.SP_ARG i
  | .SP_LOSS_DATA, k => ∃ i, k = R.SP_LOSS_DATA i
  | .TL_CTRL, k => k = R.TL_CTRL
  | .TL_STATUS, k => k = R.TL_STATUS
  | .TL_FORCE_SWAP, k => k = R.TL_FORCE_SWAP
  | .TL_LANE_LIMIT, k => k = R.TL_LANE_LIMIT
  | .TL_FLITS_TX, k => k = R.TL_FLITS_TX
  | .TL_FLITS_RX, k => k = R.TL_FLITS_RX
  | .TL_CRC_ERR, k => k = R.TL_CRC_ERR
  | .TL_REPLAYS, k => k = R.TL_REPLAYS
  | .TL_RETRAINS, k => k = R.TL_RETRAINS
  | .TL_FWD_SENT, k => k = R.TL_FWD_SENT
  | .TL_FWD_RCVD, k => k = R.TL_FWD_RCVD
  | .TL_LANE_ERR, k => ∃ i, k = R.TL_LANE_ERR i
  | .TL_PARTNER, k => k = R.TL_PARTNER
  | .RN_CTRL, k => k = R.RN_CTRL
  | .RN_KEY, k => k = R.RN_KEY
  | .RN_STATUS, k => k = R.RN_STATUS
  | .RN_A_MISS, k => k = R.RN_A_MISS
  | .RN_B_MISS, k => k = R.RN_B_MISS
  | .RN_AUTH_FAIL, k => k = R.RN_AUTH_FAIL
  | .RN_LAST_A, k => k = R.RN_LAST_A ∨ k = R.RN_LAST_A + 4
  | .RN_LAST_B, k => k = R.RN_LAST_B ∨ k = R.RN_LAST_B + 4
  | .RN_B_LINK, k => k = R.RN_B_LINK
  | .TD_STATE, k => k = R.TD_STATE
  | .TD_CMD, k => k = R.TD_CMD
  | .TD_CMD_STATUS, k => k = R.TD_CMD_STATUS
  | .TD_HOLD_MAX, k => k = R.TD_HOLD_MAX
  | .TD_JOIN_WAIT, k => k = R.TD_JOIN_WAIT
  | .TD_ARB, k => k = R.TD_ARB
  | .TD_LOST_AT, k => k = R.TD_LOST_AT ∨ k = R.TD_LOST_AT + 4
  | .TD_TAKEOVERS, k => k = R.TD_TAKEOVERS
  | .TD_TWINS, k => k = R.TD_TWINS
  | .TD_TCPL_SENT, k => k = R.TD_TCPL_SENT
  | .TD_ARG, k => ∃ i, k = R.TD_ARG i
  | .RP_GROUP_SEL, k => k = R.RP_GROUP_SEL
  | .RP_CFG, k => ∃ b, k = R.RP_CFG b
  | .RP_BATCH, k => ∃ b, k = R.RP_BATCH b
  | .RP_SYNC_TMO, k => ∃ b, k = R.RP_SYNC_TMO b
  | .RP_QP, k => ∃ b, k = R.RP_QP b
  | .RP_STATE, k => ∃ b, k = R.RP_STATE b
  | .RP_LAST_STAGED, k => ∃ b, k = R.RP_LAST_STAGED b ∨ k = R.RP_LAST_STAGED b + 4
  | .RP_LAST_APPLIED, k => ∃ b, k = R.RP_LAST_APPLIED b ∨ k = R.RP_LAST_APPLIED b + 4
  | .RP_LAG, k => ∃ b, k = R.RP_LAG b
  | .RP_RECS_TX, k => ∃ b, k = R.RP_RECS_TX b
  | .RP_DUP_DISCARD, k => ∃ b, k = R.RP_DUP_DISCARD b
  | .RP_CMD, k => k = R.RP_CMD
  | .RP_CMD_STATUS, k => k = R.RP_CMD_STATUS
  | .RP_ARG, k => ∃ i, k = R.RP_ARG i
  | .DC_CFG, k => ∃ n, k = R.DC_CFG n
  | .DC_CTRL, k => ∃ n, k = R.DC_CTRL n
  | .DC_FREQ_CMD, k => ∃ n, k = R.DC_FREQ_CMD n
  | .DC_STATUS, k => ∃ n, k = R.DC_STATUS n
  | .DC_TSEL, k => ∃ n, k = R.DC_TSEL n
  | .DC_TIM, k => ∃ b n i, k = R.DC_TIM b n i
  | .DC_PNR, k => ∃ n, k = R.DC_PNR n
  | .DC_SCRUB, k => ∃ n, k = R.DC_SCRUB n
  | .DC_SCRUB_PROGRESS, k => ∃ n, k = R.DC_SCRUB_PROGRESS n
  | .DC_SPARE_THRESH, k => ∃ n, k = R.DC_SPARE_THRESH n
  | .DC_SPARE_RATE, k => ∃ n, k = R.DC_SPARE_RATE n
  | .DC_DRIFT, k => ∃ n, k = R.DC_DRIFT n
  | .DC_CE_COUNT, k => ∃ n, k = R.DC_CE_COUNT n
  | .DC_UE_COUNT, k => ∃ n, k = R.DC_UE_COUNT n
  | .DC_CE_LAST, k => ∃ n, k = R.DC_CE_LAST n
  | .DC_CE_ADDR, k => ∃ n, k = R.DC_CE_ADDR n ∨ k = R.DC_CE_ADDR n + 4
  | .DC_DRFM, k => ∃ n, k = R.DC_DRFM n
  | .DC_PPR, k => ∃ n, k = R.DC_PPR n
  | .DC_LAT_MAX, k => ∃ n, k = R.DC_LAT_MAX n
  | .DC_DRIFT_STEPS, k => ∃ n, k = R.DC_DRIFT_STEPS n
  | .DC_UTIL, k => ∃ n, k = R.DC_UTIL n
  | .DC_PORT, k => ∃ n i, k = R.DC_PORT n i
  | .MC_CFG, k => k = R.MC_CFG
  | .MC_HITS, k => k = R.MC_HITS
  | .MC_MISSES, k => k = R.MC_MISSES
  | .MC_MERGES, k => k = R.MC_MERGES
  | .MC_SECTOR_FILLS, k => k = R.MC_SECTOR_FILLS
  | .MC_EVICT_DIRTY, k => k = R.MC_EVICT_DIRTY
  | .MC_MSR_INUSE, k => k = R.MC_MSR_INUSE
  | .MC_MSR_FULL, k => k = R.MC_MSR_FULL
  | .MC_EVICT_WAITS, k => k = R.MC_EVICT_WAITS
  | .MC_OP, k => k = R.MC_OP
  | .MC_OP_ADDR, k => k = R.MC_OP_ADDR ∨ k = R.MC_OP_ADDR + 4
  | .MC_OP_LINES, k => k = R.MC_OP_LINES
  | .MC_OP_STATUS, k => k = R.MC_OP_STATUS
  | .MC_DIRTY, k => k = R.MC_DIRTY
  | .MC_SRAM_CE, k => k = R.MC_SRAM_CE
  | .MC_REBUILDS, k => k = R.MC_REBUILDS
  | .KDE_CLAIM, k => k = R.KDE_CLAIM
  | .KDE_OWNER, k => k = R.KDE_OWNER
  | .KDE_CTRL, k => k = R.KDE_CTRL
  | .KDE_MODE, k => k = R.KDE_MODE
  | .KDE_STATUS, k => k = R.KDE_STATUS
  | .KDE_DATA, k => k = R.KDE_DATA
  | .KDE_TAIL, k => k = R.KDE_TAIL
  | .KDE_LEN, k => k = R.KDE_LEN ∨ k = R.KDE_LEN + 4
  | .KDE_RESULT, k => k = R.KDE_RESULT
  | .KDE_CMP_COMPAT, k => k = R.KDE_CMP_COMPAT
  | .KDE_CTX_CMD, k => k = R.KDE_CTX_CMD
  | .KDE_CTX_STATUS, k => k = R.KDE_CTX_STATUS
  | .KDE_CTX_OWNER, k => k = R.KDE_CTX_OWNER
  | .KDE_IDLE_MAX, k => k = R.KDE_IDLE_MAX
  | .KDE_SESSIONS, k => k = R.KDE_SESSIONS
  | .KDE_DIGEST, k => ∃ i, k = R.KDE_DIGEST i
  | .KDE_EXPECT, k => ∃ i, k = R.KDE_EXPECT i
  | .KS_SEL, k => k = R.KS_SEL
  | .KS_CMD, k => k = R.KS_CMD
  | .KS_CMD_STATUS, k => k = R.KS_CMD_STATUS
  | .KS_LEN, k => k = R.KS_LEN
  | .KS_USE_ARG, k => k = R.KS_USE_ARG
  | .KS_STATE, k => k = R.KS_STATE
  | .KS_KCV, k => k = R.KS_KCV
  | .KS_VALID_MAP, k => k = R.KS_VALID_MAP ∨ k = R.KS_VALID_MAP + 4
  | .KS_LOCK_MAP, k => k = R.KS_LOCK_MAP ∨ k = R.KS_LOCK_MAP + 4
  | .KS_GLOBAL, k => k = R.KS_GLOBAL
  | .KS_DATA, k => ∃ i, k = R.KS_DATA i
  | .GD_LADDER, k => k = R.GD_LADDER
  | .GD_Q_SEL, k => k = R.GD_Q_SEL
  | .GD_Q_ENTRY0, k => ∃ b, k = R.GD_Q_ENTRY0 b
  | .GD_Q_ENTRY1, k => ∃ b, k = R.GD_Q_ENTRY1 b
  | .GD_Q_STRIDE, k => ∃ b, k = R.GD_Q_STRIDE b ∨ k = R.GD_Q_STRIDE b + 4
  | .GD_OVERFLOW, k => k = R.GD_OVERFLOW
  | .GD_ESCALATIONS, k => k = R.GD_ESCALATIONS
  | .GD_LEVEL_COUNT, k => ∃ i, k = R.GD_LEVEL_COUNT i
  | .GD_DIAG_BASE, k => k = R.GD_DIAG_BASE ∨ k = R.GD_DIAG_BASE + 4
  | .GD_DIAG_SIZE, k => k = R.GD_DIAG_SIZE
  | .GD_DIAG_PROD, k => k = R.GD_DIAG_PROD
  | .GD_DIAG_CONS, k => k = R.GD_DIAG_CONS
  | .GD_DIAG_LOST, k => k = R.GD_DIAG_LOST
  | .GD_DIAG_CTRL, k => k = R.GD_DIAG_CTRL
  | .GD_ACT_SEL, k => k = R.GD_ACT_SEL
  | .GD_ACT_RUN, k => ∃ b, k = R.GD_ACT_RUN b
  | .GD_LAST_DECISION, k => k = R.GD_LAST_DECISION
  | .GD_ACT_QLEN, k => k = R.GD_ACT_QLEN
  | .GD_ACT_CANCEL, k => k = R.GD_ACT_CANCEL
  | .GD_MX, k => ∃ i, k = R.GD_MX i
  | .STB_CTRL, k => k = R.STB_CTRL
  | .STB_STATUS, k => k = R.STB_STATUS
  | .STB_END, k => k = R.STB_END ∨ k = R.STB_END + 4
  | .STB_FLUSHED, k => k = R.STB_FLUSHED ∨ k = R.STB_FLUSHED + 4
  | .STB_LAST_SEQ, k => k = R.STB_LAST_SEQ
  | .STB_FILL_PM, k => k = R.STB_FILL_PM
  | .STB_DROPPED, k => k = R.STB_DROPPED
  | .STB_RD_OFF, k => k = R.STB_RD_OFF ∨ k = R.STB_RD_OFF + 4
  | .STB_RD_STATUS, k => k = R.STB_RD_STATUS
  | .STB_APP_CMD, k => k = R.STB_APP_CMD
  | .STB_APP_STATUS, k => k = R.STB_APP_STATUS
  | .STB_APP_DATA, k => ∃ i, k = R.STB_APP_DATA i
  | .STB_RD_WIN, k => ∃ i, k = R.STB_RD_WIN i
  | .TK_STATUS, k => k = R.TK_STATUS
  | .TK_SEQ, k => k = R.TK_SEQ
  | .TK_SKIPPED, k => k = R.TK_SKIPPED
  | .TK_CTRL, k => k = R.TK_CTRL
  | .TK_HOST, k => k = R.TK_HOST ∨ k = R.TK_HOST + 4
  | .TK_CMD, k => k = R.TK_CMD
  | .TK_CMD_STATUS, k => k = R.TK_CMD_STATUS
  | .TK_INVALID, k => k = R.TK_INVALID
  | .RM_CTRL, k => k = R.RM_CTRL
  | .RM_INV_SEL, k => k = R.RM_INV_SEL
  | .RM_INV, k => ∃ b, k = R.RM_INV b
  | .RM_STATUS, k => k = R.RM_STATUS
  | .RM_CANDIDATES, k => k = R.RM_CANDIDATES
  | .RM_CMD, k => k = R.RM_CMD
  | .RM_CMD_STATUS, k => k = R.RM_CMD_STATUS
  | .RM_COUNT, k => k = R.RM_COUNT
  | .RM_SRAM_ROWS, k => k = R.RM_SRAM_ROWS
  | .SVC_CTRL, k => k = R.SVC_CTRL
  | .SVC_STATUS, k => k = R.SVC_STATUS
  | .SVC_MAC, k => k = R.SVC_MAC ∨ k = R.SVC_MAC + 4
  | .SVC_IPV4, k => k = R.SVC_IPV4
  | .SVC_IPV4_MASK, k => k = R.SVC_IPV4_MASK
  | .SVC_IPV4_GW, k => k = R.SVC_IPV4_GW
  | .SVC_IPV6, k => ∃ i, k = R.SVC_IPV6 i
  | .SVC_IDLE, k => k = R.SVC_IDLE
  | .SVC_MAINT_MAP, k => k = R.SVC_MAINT_MAP ∨ k = R.SVC_MAINT_MAP + 4
  | .SVC_AUTH_FAIL, k => k = R.SVC_AUTH_FAIL
  | .SVC_RX_DROP, k => k = R.SVC_RX_DROP
  | .SVC_MSG_RX, k => k = R.SVC_MSG_RX
  | .FW_RUN, k => k = R.FW_RUN
  | .FW_RUN_BUILD, k => k = R.FW_RUN_BUILD
  | .FW_RUN_VER, k => k = R.FW_RUN_VER
  | .FW_INST_BUILD, k => k = R.FW_INST_BUILD
  | .FW_FLOOR, k => k = R.FW_FLOOR
  | .FW_SLOT, k => ∃ i, k = R.FW_SLOT i
  | .FW_SLOT_BUILD, k => ∃ i, k = R.FW_SLOT_BUILD i
  | .FW_STAGE, k => k = R.FW_STAGE
  | .FW_STAGE_BYTES, k => k = R.FW_STAGE_BYTES
  | .FW_CMD, k => k = R.FW_CMD
  | .FW_CMD_STATUS, k => k = R.FW_CMD_STATUS
  | .CHIP_RST_STATUS, k => k = R.CHIP_RST_STATUS
  | .CHIP_RST_CTL, k => k = R.CHIP_RST_CTL
  | .CHIP_PCIE_RESETS, k => k = R.CHIP_PCIE_RESETS
  | .PF_STATUS, k => k = R.PF_STATUS
  | .PF_TRIP, k => k = R.PF_TRIP
  | .PF_HYST, k => k = R.PF_HYST
  | .MOD_RST, k => k = R.MOD_RST
  | .MOD_PRSNT, k => k = R.MOD_PRSNT
  | .CHIP_TJ, k => k = R.CHIP_TJ
  | .TJ_WARN, k => k = R.TJ_WARN
  | .ETH_SD_TXEQ, k => ∃ n i, k = R.ETH_SD_TXEQ n i
  | .ETH_SD_RX, k => ∃ n i, k = R.ETH_SD_RX n i
  | .ETH_SD_EYE, k => ∃ n i, k = R.ETH_SD_EYE n i
  | .soft, k => softKey k = true
  | .block, k => blockKey k = true
  | .any, _ => True

end Sys2Proof.Machine
end

