-- ==== Sys2Proof/Certificates/Slice0/Frames.lean ====
section
/-! DEFINITION. The frames of the commands, for the statements: which registers each command may write, and which other parts of State it
may change. -/

namespace Sys2Proof.Frames

open Sys2Proof.Machine

/-- The parts of State beside the queue and the register file. -/
inductive Part where
  | sent
  | shadow
  | hiLatch
  | loPend
  | clock
  | pages
  | guard
  | stud
  | tack
  | front
  | cist
  | cam
  | media
  | tandem
  | mem
  | svc
  | power
  | fresh
  deriving DecidableEq, Repr

/-- Two states agree in a part. -/
def Part.same : Part → State → State → Prop
  | .sent, s, t => t.sent = s.sent
  | .shadow, s, t => t.shadow = s.shadow
  | .hiLatch, s, t => t.hiLatch = s.hiLatch
  | .loPend, s, t => t.loPend = s.loPend
  | .clock, s, t => t.clock = s.clock
  | .pages, s, t => t.pages = s.pages
  | .guard, s, t => t.guard = s.guard
  | .stud, s, t => t.stud = s.stud
  | .tack, s, t => t.tack = s.tack
  | .front, s, t => t.front = s.front
  | .cist, s, t => t.cist = s.cist
  | .cam, s, t => t.cam = s.cam
  | .media, s, t => t.media = s.media
  | .tandem, s, t => t.tandem = s.tandem
  | .mem, s, t => t.mem = s.mem
  | .svc, s, t => t.svc = s.svc
  | .power, s, t => t.power = s.power
  | .fresh, s, t => t.fresh = s.fresh

/-- The registers that placing a fault on the ladder may write (R71, R453, R454, R457, R458): the first-error capture and the event of a
page, the level counters and the diagnostic log, the studbook, the reins, and what of STRIDE and FWU the level commands change. -/
def faultRegs : List RegName :=
  [.PG_EVENT, .PG_ERR_FIRST, .PG_ERR_COUNT, .PG_ERR_STRIDE, .STR_STATUS, .CHIP_INJ_EN, .RN_STATUS, .GD_OVERFLOW,
  .GD_ESCALATIONS, .GD_LEVEL_COUNT, .GD_DIAG_PROD, .GD_DIAG_LOST, .STB_STATUS, .STB_DROPPED, .FW_SLOT,
  .FW_SLOT_BUILD, .FW_STAGE]

/-- The parts that placing a fault on the ladder may change. -/
def faultParts : List Part :=
  [.sent, .clock, .guard, .stud, .cist, .tandem, .svc, .fresh]

/-- The registers that a command may write. `soft` stands for every register with bits that software writes, which a
commit reaches, and `block` for every block-specific register, which a soft reset reaches. `any` stands for every register: a reset, the bring-up and an access that names a
register of its own reach them all. -/
def writes : Instr → List RegName
  | .commitPoint _ =>
    [.PG_CTRL, .PG_STATE, .PG_INJECT, .PG_SPARE, .UNIT_WORD, .STR_NUM, .STR_CTRL, .STR_OFFSET, .CAL_SEC, .CAL_SUBSEC,
    .CAL_CTRL, .CAL_STATUS, .PWR_STRIDES, .REMOUNTS, .TJ_MAX_SEEN, .EVT_ARM, .PCIE_MPS, .PCIE_RX_ERR, .PCIE_REPLAYS,
    .PCIE_UR, .FN_CMD_STATUS, .FN_STATE, .FN_STALE_COUNT, .POOL_QP_FREE, .MGMT_DB_PEND, .WEIR_MIN, .WEIR_MAX,
    .WEIR_BAL, .LQ_CMPL_COUNT, .RMA_CMD_STATUS, .EVQ_PROD, .EVQ_LOST, .CTX_EVICT_COUNT, .CIST_STATUS, .CIST_ACK_MAX,
    .CIST_SPILL_BOUND, .CP_FLOOR, .RD_TR_MAX, .RD_FLASH_BOUND, .RD_BASIN_FREE, .MLK_FLITS_TX, .FTL_POOL_STATE,
    .FTL_RECLAIMED, .FTL_ORPHANS, .FTL_CMD_STATUS, .FTL_RESULT, .CAL_UPDATES, .PAT_PASS_START, .PAT_PROGRESS,
    .PAT_READS, .WR_STATE, .SP_STATE, .SP_LOSS_OVERFLOW, .SP_CMD_STATUS, .TL_FLITS_TX, .TL_FWD_SENT, .RN_A_MISS,
    .RN_B_MISS, .TD_STATE, .TD_CMD_STATUS, .TD_ARB, .TD_LOST_AT, .TD_TAKEOVERS, .RP_STATE, .RP_RECS_TX,
    .RP_CMD_STATUS, .DC_STATUS, .DC_DRIFT_STEPS, .DC_UTIL, .MC_HITS, .MC_MISSES, .MC_MERGES, .MC_SECTOR_FILLS,
    .MC_EVICT_DIRTY, .MC_MSR_INUSE, .MC_MSR_FULL, .MC_EVICT_WAITS, .MC_OP_STATUS, .MC_DIRTY, .KDE_STATUS,
    .KS_CMD_STATUS, .KS_VALID_MAP, .KS_LOCK_MAP, .STB_END, .STB_LAST_SEQ, .STB_FILL_PM, .RM_INV, .RM_STATUS,
    .RM_CANDIDATES, .RM_CMD_STATUS, .RM_COUNT, .RM_SRAM_ROWS, .PF_STATUS, .CHIP_TJ, .soft, .block] ++ faultRegs
  | .overrun _ _ _ => [.STR_OVR_COUNT, .STR_OVR_LAST] ++ faultRegs
  | .overrunRepeat _ _ => faultRegs
  | .strideSyncEdge _ => [.PG_EVENT, .STR_STATUS, .STR_OFFSET]
  | .syncEdgeLost => [.PG_EVENT, .STR_STATUS, .STR_OFFSET]
  | .syncLocked => [.PG_EVENT, .STR_STATUS, .STR_OFFSET]
  | .masterTake => [.STR_STATUS, .STR_OFFSET]
  | .acquireTimeout => [.STR_STATUS, .STR_OFFSET]
  | .strideAdopt => [.STR_NUM, .STR_OFFSET] ++ faultRegs
  | .commitGateSet => [.PG_EVENT, .STR_CTRL]
  | .commitGateClear => [.STR_CTRL]
  | .calTick => [.CAL_SEC, .CAL_SUBSEC]
  | .calSecondRollover _ => [.CAL_AT_STRIDE, .CAL_AT_CLK]
  | .hourRollover => [.PG_EVENT, .PAT_REFRESH, .WR_BUDGET, .WR_E24, .WR_RATIO, .WR_DAYS, .WR_REM]
  | .calSet => [.CAL_CTRL]
  | .oscStopped => [.PG_EVENT, .CAL_STATUS]
  | .vaonBothLost => [.PG_EVENT, .CAL_TRIM, .CAL_STATUS, .KDE_STATUS, .KS_VALID_MAP, .KS_LOCK_MAP, .CHIP_RST_STATUS]
  | .vaonFeedReturn _ => [.CHIP_RST_STATUS]
  | .vaonOneLost _ => [.CHIP_RST_STATUS] ++ faultRegs
  | .tempBandCount _ => [.TJ_MAX_SEEN, .TEMP_BAND]
  | .lifeSaveHourly => []
  | .lifeCtrlSave => [.LIFE_CTRL]
  | .lifeSaveDone _ _ => [.LIFE_CTRL, .LIFE_STATUS] ++ faultRegs
  | .registerWrite _ _ => [.any]
  | .rcRegisterRead _ => [.any]
  | .loRegisterRead _ => [.any]
  | .hiRegisterWrite _ _ => [.any]
  | .accessSize _ _ _ => [.any]
  | .unmapped _ _ => faultRegs
  | .pgEnable _ => [.PG_CTRL] ++ faultRegs
  | .pgDisable _ => [.PG_CTRL] ++ faultRegs
  | .pgSoftReset _ => [.PG_CTRL] ++ faultRegs
  | .pgFreeze _ => [.PG_CTRL] ++ faultRegs
  | .pgUnfreeze _ => [.PG_CTRL] ++ faultRegs
  | .pgCommit _ => [.PG_CTRL, .PG_STATE] ++ faultRegs
  | .initComplete _ => []
  | .initFail _ _ _ => faultRegs
  | .initTimeout _ => faultRegs
  | .pageDrained _ => []
  | .pgEventForce _ _ => faultRegs
  | .errRearm _ => [.PG_ERR_FIRST, .PG_ERR_STRIDE]
  | .pageParity _ => faultRegs
  | .evtArm _ => [.EVT_ARM]
  | .chipInjEn _ => faultRegs
  | .injectArm _ _ => [.PG_INJECT] ++ faultRegs
  | .injectDisarm _ => [.PG_INJECT] ++ faultRegs
  | .fnCreate _ => [.FN_CMD_STATUS] ++ faultRegs
  | .fnResize _ => [.FN_CMD_STATUS] ++ faultRegs
  | .fnReset _ => [.FN_CMD_STATUS] ++ faultRegs
  | .fnDestroy _ => [.FN_CMD_STATUS] ++ faultRegs
  | .fnAttach _ => [.FN_CMD_STATUS] ++ faultRegs
  | .fnDetach _ => [.FN_CMD_STATUS] ++ faultRegs
  | .fnReply _ => [.FN_CMD_STATUS] ++ faultRegs
  | .detachNsidFree _ _ => []
  | .mboxWrite _ _ _ => []
  | .mboxRing _ => [.PG_EVENT, .MGMT_DB_PEND]
  | .mgmtDbTake _ _ => [.MGMT_DB_PEND]
  | .pcieFlr _ => [.PCIE_FLR]
  | .nvmeCcEnClear _ => []
  | .fnResetDone _ => [.PG_EVENT, .FN_STATE]
  | .sriovNumvfsChange _ _ => [.FN_STATE]
  | .fnRemovalDone _ => [.PG_EVENT, .FN_STATE, .POOL_QP_FREE, .WEIR_MIN, .WEIR_MAX, .WEIR_BAL]
  | .nvmeSqDoorbell _ _ _ => []
  | .nvmeCqDoorbell _ _ _ => []
  | .cmdFetch _ _ => [.PG_EVENT, .PG_INJECT, .FN_STALE_COUNT, .LQ_CMPL_COUNT, .CTX_EVICT_COUNT, .RD_BASIN_FREE, .TL_FLITS_TX]
  | .weirAdmit _ _ _ =>
    [.PG_INJECT, .WEIR_BAL, .CAM_SEARCHES, .CAM_MULTI, .CAM_PARITY_ERR, .RD_BASIN_FREE, .RD_BASIN_WAITS] ++ faultRegs
  | .lqIssue _ _ => []
  | .lqTagWrite _ _ _ _ => []
  | .lqAbort _ _ => [.PG_EVENT, .PG_INJECT, .FN_STALE_COUNT, .LQ_CMPL_COUNT, .CTX_EVICT_COUNT, .RD_BASIN_FREE, .TL_FLITS_TX]
  | .lqReset _ => []
  | .lqRead _ =>
    [.PG_INJECT, .FN_STALE_COUNT, .LQ_CMPL_COUNT, .CTX_EVICT_COUNT, .CAM_SEARCHES, .CAM_MULTI, .CAM_PARITY_ERR,
    .RD_BASIN_FREE, .TL_FLITS_TX, .TL_FWD_SENT] ++ faultRegs
  | .lqWrite _ =>
    [.PG_EVENT, .PG_INJECT, .FN_STALE_COUNT, .LQ_CMPL_COUNT, .CTX_EVICT_COUNT, .ING_CMDS, .ING_GRAINS, .ING_LEN_ERR,
    .ING_RANGE_ERR, .ING_PARTIAL, .RD_BASIN_FREE, .TL_FLITS_TX, .TL_FWD_SENT]
  | .lqFlush _ => []
  | .lqVerify _ =>
    [.PG_INJECT, .FN_STALE_COUNT, .LQ_CMPL_COUNT, .CTX_EVICT_COUNT, .CAM_SEARCHES, .CAM_MULTI, .CAM_PARITY_ERR,
    .RD_BASIN_FREE, .TL_FLITS_TX, .TL_FWD_SENT] ++ faultRegs
  | .lqDeallocate _ =>
    [.PG_EVENT, .PG_INJECT, .FN_STALE_COUNT, .LQ_CMPL_COUNT, .CTX_EVICT_COUNT, .ING_CMDS, .ING_GRAINS, .ING_LEN_ERR,
    .ING_RANGE_ERR, .ING_PARTIAL, .RD_BASIN_FREE, .TL_FLITS_TX, .TL_FWD_SENT]
  | .lqWriteZeroes _ =>
    [.PG_EVENT, .PG_INJECT, .FN_STALE_COUNT, .LQ_CMPL_COUNT, .CTX_EVICT_COUNT, .ING_CMDS, .ING_GRAINS, .ING_LEN_ERR,
    .ING_RANGE_ERR, .ING_PARTIAL, .RD_BASIN_FREE, .TL_FLITS_TX, .TL_FWD_SENT]
  | .nvmeCreateIoSq _ => [.PG_EVENT, .PG_INJECT, .FN_STALE_COUNT, .LQ_CMPL_COUNT, .CTX_EVICT_COUNT, .RD_BASIN_FREE, .TL_FLITS_TX]
  | .nvmeCreateIoCq _ => [.PG_EVENT, .PG_INJECT, .FN_STALE_COUNT, .LQ_CMPL_COUNT, .CTX_EVICT_COUNT, .RD_BASIN_FREE, .TL_FLITS_TX]
  | .nvmeDeleteIoSq _ => [.PG_EVENT, .PG_INJECT, .FN_STALE_COUNT, .LQ_CMPL_COUNT, .CTX_EVICT_COUNT, .RD_BASIN_FREE, .TL_FLITS_TX]
  | .nvmeDeleteIoCq _ => [.PG_EVENT, .PG_INJECT, .FN_STALE_COUNT, .LQ_CMPL_COUNT, .CTX_EVICT_COUNT, .RD_BASIN_FREE, .TL_FLITS_TX]
  | .nvmeIdentify _ => [.PG_EVENT, .PG_INJECT, .FN_STALE_COUNT, .LQ_CMPL_COUNT, .CTX_EVICT_COUNT, .RD_BASIN_FREE, .TL_FLITS_TX]
  | .nvmeGetLogPage _ => [.PG_EVENT, .PG_INJECT, .FN_STALE_COUNT, .LQ_CMPL_COUNT, .CTX_EVICT_COUNT, .RD_BASIN_FREE, .TL_FLITS_TX]
  | .nvmeSetFeatures _ => [.PG_EVENT, .PG_INJECT, .FN_STALE_COUNT, .LQ_CMPL_COUNT, .CTX_EVICT_COUNT, .RD_BASIN_FREE, .TL_FLITS_TX]
  | .nvmeGetFeatures _ => [.PG_EVENT, .PG_INJECT, .FN_STALE_COUNT, .LQ_CMPL_COUNT, .CTX_EVICT_COUNT, .RD_BASIN_FREE, .TL_FLITS_TX]
  | .nvmeAbort _ => [.PG_EVENT, .PG_INJECT, .FN_STALE_COUNT, .LQ_CMPL_COUNT, .CTX_EVICT_COUNT, .RD_BASIN_FREE, .TL_FLITS_TX]
  | .nvmeAsyncEventRequest _ =>
    [.PG_EVENT, .PG_INJECT, .FN_STALE_COUNT, .LQ_CMPL_COUNT, .CTX_EVICT_COUNT, .RD_BASIN_FREE, .TL_FLITS_TX]
  | .nvmeRead _ =>
    [.PG_INJECT, .FN_STALE_COUNT, .LQ_CMPL_COUNT, .CTX_EVICT_COUNT, .CAM_SEARCHES, .CAM_MULTI, .CAM_PARITY_ERR,
    .RD_BASIN_FREE, .TL_FLITS_TX, .TL_FWD_SENT] ++ faultRegs
  | .nvmeWrite _ =>
    [.PG_EVENT, .PG_INJECT, .FN_STALE_COUNT, .LQ_CMPL_COUNT, .CTX_EVICT_COUNT, .ING_CMDS, .ING_GRAINS, .ING_LEN_ERR,
    .ING_RANGE_ERR, .ING_PARTIAL, .RD_BASIN_FREE, .TL_FLITS_TX, .TL_FWD_SENT]
  | .nvmeFlush _ => []
  | .nvmeWriteZeroes _ =>
    [.PG_EVENT, .PG_INJECT, .FN_STALE_COUNT, .LQ_CMPL_COUNT, .CTX_EVICT_COUNT, .ING_CMDS, .ING_GRAINS, .ING_LEN_ERR,
    .ING_RANGE_ERR, .ING_PARTIAL, .RD_BASIN_FREE, .TL_FLITS_TX, .TL_FWD_SENT]
  | .nvmeDatasetManagement _ =>
    [.PG_EVENT, .PG_INJECT, .FN_STALE_COUNT, .LQ_CMPL_COUNT, .CTX_EVICT_COUNT, .ING_CMDS, .ING_GRAINS, .ING_LEN_ERR,
    .ING_RANGE_ERR, .ING_PARTIAL, .RD_BASIN_FREE, .TL_FLITS_TX, .TL_FWD_SENT]
  | .nvmeVerify _ =>
    [.PG_INJECT, .FN_STALE_COUNT, .LQ_CMPL_COUNT, .CTX_EVICT_COUNT, .CAM_SEARCHES, .CAM_MULTI, .CAM_PARITY_ERR,
    .RD_BASIN_FREE, .TL_FLITS_TX, .TL_FWD_SENT] ++ faultRegs
  | .ingestTimeout _ =>
    [.PG_EVENT, .PG_INJECT, .FN_STALE_COUNT, .LQ_CMPL_COUNT, .CTX_EVICT_COUNT, .ING_BUSY_RETRY, .RD_BASIN_FREE,
    .TL_FLITS_TX]
  | .pcieCplTimeout _ _ =>
    [.PG_INJECT, .PCIE_CPL_TMO, .FN_STALE_COUNT, .LQ_CMPL_COUNT, .CTX_EVICT_COUNT, .RD_BASIN_FREE, .TL_FLITS_TX] ++ faultRegs
  | .pciePoisonedTlp _ _ =>
    [.PG_INJECT, .PCIE_POISONED, .FN_STALE_COUNT, .LQ_CMPL_COUNT, .CTX_EVICT_COUNT, .RD_BASIN_FREE, .TL_FLITS_TX] ++ faultRegs
  | .pcieLinkUp _ _ => [.PCIE_LINK] ++ faultRegs
  | .pcieLinkDown => [.RESETS, .PCIE_LINK, .FN_STATE, .CHIP_RST_STATUS] ++ faultRegs
  | .pcieSpeedChange _ _ => [.PCIE_LINK, .PCIE_RETRAINS] ++ faultRegs
  | .fabricsConnect _ _ _ _ _ _ =>
    [.PG_EVENT, .PG_INJECT, .FN_STALE_COUNT, .LQ_CMPL_COUNT, .CTX_EVICT_COUNT, .RD_BASIN_FREE, .TL_FLITS_TX]
  | .fabricsPropertyGet _ _ =>
    [.PG_EVENT, .PG_INJECT, .FN_STALE_COUNT, .LQ_CMPL_COUNT, .CTX_EVICT_COUNT, .RD_BASIN_FREE, .TL_FLITS_TX]
  | .fabricsPropertySet _ _ _ =>
    [.PG_EVENT, .PG_INJECT, .FN_STALE_COUNT, .LQ_CMPL_COUNT, .CTX_EVICT_COUNT, .RD_BASIN_FREE, .TL_FLITS_TX]
  | .fabricsDisconnect _ =>
    [.PG_EVENT, .PG_INJECT, .FN_STALE_COUNT, .LQ_CMPL_COUNT, .CTX_EVICT_COUNT, .RD_BASIN_FREE, .TL_FLITS_TX]
  | .nvmeofCapsuleRx _ _ _ _ =>
    [.PG_INJECT, .FN_STALE_COUNT, .LQ_CMPL_COUNT, .ETH_MISS_LEVEL, .ETH_MISS_HWM, .ETH_RNR_SENT, .EVQ_PROD, .EVQ_LOST,
    .DUP_ACKED, .SEQ_NAK, .RMA_KEY_VIOLATION, .CTX_MISS_COUNT, .CTX_EVICT_COUNT, .CTX_BAD_QPN, .CTX_NAK_DISCARD,
    .CIST_CSEQ, .RD_BASIN_FREE, .TL_FLITS_TX, .RP_LAST_STAGED, .RP_DUP_DISCARD] ++ faultRegs
  | .katoExpired _ => [.PG_EVENT, .ETH_MISS_LEVEL, .EVQ_PROD, .EVQ_LOST, .CTX_NAK_DISCARD]
  | .ethModeWrite _ _ => [.ETH_MODE] ++ faultRegs
  | .ethLinkDown _ => [.ETH_STATUS]
  | .ethLinkUp _ => [.ETH_STATUS]
  | .fecDegrade _ _ _ => [.ETH_FEC_UNCORR, .EVQ_PROD, .EVQ_LOST] ++ faultRegs
  | .pfcStorm _ => [.PG_EVENT, .EVQ_PROD, .EVQ_LOST]
  | .ethFrameRx _ _ _ _ => [.ETH_STATUS, .ETH_FEC_CORR, .ETH_RX_OTHER, .ETH_ICRC_ERR] ++ faultRegs
  | .roceRequestRx _ _ _ =>
    [.PG_INJECT, .FN_STALE_COUNT, .LQ_CMPL_COUNT, .ETH_MISS_LEVEL, .ETH_MISS_HWM, .ETH_RNR_SENT, .EVQ_PROD, .EVQ_LOST,
    .DUP_ACKED, .SEQ_NAK, .RMA_KEY_VIOLATION, .CTX_MISS_COUNT, .CTX_EVICT_COUNT, .CTX_BAD_QPN, .CTX_NAK_DISCARD,
    .CIST_CSEQ, .RD_BASIN_FREE, .TL_FLITS_TX, .RP_LAST_STAGED, .RP_DUP_DISCARD] ++ faultRegs
  | .cnpRx _ => [.CTX_BAD_QPN]
  | .cnpRateRestore _ => []
  | .contextFetchDone _ _ =>
    [.PG_INJECT, .FN_STALE_COUNT, .LQ_CMPL_COUNT, .ETH_MISS_LEVEL, .EVQ_PROD, .EVQ_LOST, .DUP_ACKED, .SEQ_NAK,
    .RMA_KEY_VIOLATION, .CTX_EVICT_COUNT, .CTX_FETCH_MAX, .CTX_NAK_DISCARD, .CIST_CSEQ, .RD_BASIN_FREE, .TL_FLITS_TX,
    .RP_LAST_STAGED, .RP_DUP_DISCARD] ++ faultRegs
  | .contextWritebackDone _ => [.CTX_MISS_COUNT]
  | .roceAckRx _ _ => [.CTX_EVICT_COUNT, .CTX_BAD_QPN]
  | .roceNakRx _ _ _ =>
    [.PG_EVENT, .ETH_MISS_LEVEL, .EVQ_PROD, .EVQ_LOST, .CTX_EVICT_COUNT, .CTX_BAD_QPN, .CTX_NAK_DISCARD, .RP_RECS_TX]
  | .transportAckTimeout _ => [.PG_EVENT, .ETH_MISS_LEVEL, .EVQ_PROD, .EVQ_LOST, .CTX_NAK_DISCARD]
  | .qpCreate _ => [.RMA_CMD_STATUS, .RMA_RESULT, .CTX_FREE_NET, .CTX_EVICT_COUNT] ++ faultRegs
  | .qpModify => [.ETH_MISS_LEVEL, .RMA_CMD_STATUS, .CTX_NAK_DISCARD] ++ faultRegs
  | .qpDestroy => [.ETH_MISS_LEVEL, .RMA_CMD_STATUS, .CTX_FREE_NET, .CTX_NAK_DISCARD] ++ faultRegs
  | .qpDestroyDone => [.PG_EVENT, .RMA_CMD_STATUS, .CTX_FREE_NET]
  | .mrReg _ => [.RMA_CMD_STATUS, .RMA_RESULT] ++ faultRegs
  | .mrInval => [.RMA_CMD_STATUS] ++ faultRegs
  | .mrDereg => [.RMA_CMD_STATUS] ++ faultRegs
  | .mrPlacementDrained => [.PG_EVENT, .RMA_CMD_STATUS]
  | .qp1DatagramRx _ _ =>
    [.PG_INJECT, .EVQ_PROD, .EVQ_LOST, .GSI_PROD, .GSI_RX_DROP, .CAM_SEARCHES, .CAM_MULTI, .CAM_PARITY_ERR, .FLT_DROPS] ++ faultRegs
  | .gsiTxProdWrite _ => [.GSI_TX_PROD] ++ faultRegs
  | .gsiTxSend _ => [.PG_EVENT, .GSI_TX_CONS, .GSI_TX_BAD]
  | .gsiTxPacketLeft _ => [.PG_EVENT, .GSI_TX_CONS]
  | .sealRx _ _ _ _ =>
    [.PG_INJECT, .FN_STALE_COUNT, .LQ_CMPL_COUNT, .ETH_MISS_LEVEL, .ETH_MISS_HWM, .ETH_RNR_SENT, .EVQ_PROD, .EVQ_LOST,
    .DUP_ACKED, .SEQ_NAK, .RMA_KEY_VIOLATION, .CTX_MISS_COUNT, .CTX_EVICT_COUNT, .CTX_BAD_QPN, .CTX_NAK_DISCARD,
    .CIST_CSEQ, .RD_BASIN_FREE, .TL_FLITS_TX, .RP_LAST_STAGED, .RP_DUP_DISCARD] ++ faultRegs
  | .sealTimeout _ => [.PG_EVENT, .EVQ_PROD, .EVQ_LOST, .CTX_EVICT_COUNT]
  | .rangeLockGrant _ _ _ _ =>
    [.PG_INJECT, .PCIE_CPL_TMO, .FN_STALE_COUNT, .LQ_CMPL_COUNT, .CTX_EVICT_COUNT, .ING_LOCKS_HWM, .ING_LOCK_WAITS,
    .CIST_CSEQ, .CAM_SEARCHES, .CAM_MULTI, .CAM_PARITY_ERR, .RD_BASIN_FREE, .TL_FLITS_TX] ++ faultRegs
  | .dataArrive _ _ _ _ _ _ _ =>
    [.PG_INJECT, .FN_STALE_COUNT, .LQ_CMPL_COUNT, .CTX_EVICT_COUNT, .ING_PI_ERR, .CIST_ACK_MAX, .CAM_SEARCHES,
    .CAM_MULTI, .CAM_PARITY_ERR, .DG_GRAINS, .DG_ZERO, .DG_DISAGREE, .CP_IN_GRAINS, .CP_RAW, .CP_DOWNGRADE,
    .CP_DYNAMIC, .DD_HOT_HITS, .RD_BASIN_FREE, .TL_FLITS_TX] ++ faultRegs
  | .entrySeal _ =>
    [.PG_EVENT, .PG_INJECT, .FN_STALE_COUNT, .LQ_CMPL_COUNT, .CTX_EVICT_COUNT, .CIST_ACK_MAX, .CIST_RING_STALL,
    .CP_OUT_GRANULES, .RD_BASIN_FREE, .TL_FLITS_TX, .RP_RECS_TX]
  | .tlMirrorWrite _ _ => [.PG_INJECT, .CTX_EVICT_COUNT, .TL_FLITS_TX, .RP_RECS_TX]
  | .tlMirrorAck _ =>
    [.PG_EVENT, .PG_INJECT, .FN_STALE_COUNT, .LQ_CMPL_COUNT, .CTX_EVICT_COUNT, .CIST_STATUS, .CIST_ACK_MAX,
    .RD_BASIN_FREE, .TL_FLITS_TX, .TD_STATE]
  | .tlMirrorNak _ => [.PG_INJECT, .TL_FLITS_TX]
  | .tlMirrorRelease _ => []
  | .mirrorTimeout _ => [.PG_INJECT, .CIST_STATUS, .TL_FLITS_TX] ++ faultRegs
  | .fuaPadTimeout _ => [.PG_INJECT, .MLK_FLITS_TX] ++ faultRegs
  | .destageEntry _ _ _ _ _ _ =>
    [.PG_INJECT, .CAM_SEARCHES, .CAM_MULTI, .CAM_PARITY_ERR, .DG_GRAINS, .DG_ZERO, .DG_DISAGREE, .CP_IN_GRAINS,
    .CP_RAW, .CP_DOWNGRADE, .CP_DYNAMIC, .DD_HOT_HITS, .DD_DRAM_HITS, .DD_TWIN_HITS, .DD_REFUSED, .DD_VERIFY_MISMATCH,
    .DD_BUCKET_EVICT, .MLK_FLITS_TX, .TL_FLITS_TX] ++ faultRegs
  | .spillwayStart =>
    [.PG_INJECT, .CIST_STATUS, .MLK_FLITS_TX, .DC_STATUS, .RM_STATUS, .RM_CANDIDATES, .RM_CMD_STATUS] ++ faultRegs
  | .spillQuiesced => []
  | .spillImageDone _ => [.PG_EVENT, .CIST_STATUS, .STB_STATUS]
  | .spillDone => [.CIST_SPILL_LAST] ++ faultRegs
  | .spillReturn => [.any]
  | .spillLossAck => [.CIST_CTRL, .CIST_STATUS]
  | .camRead _ _ => [.PG_INJECT, .CAM_OP_STATUS, .CAM_ENTRY, .CAM_KEY, .CAM_RESULT, .CAM_PARITY_ERR] ++ faultRegs
  | .camInvalidate _ => [.CAM_OP_STATUS] ++ faultRegs
  | .camWrite _ => [.CAM_OP_STATUS] ++ faultRegs
  | .camValidate _ => [.CAM_OP_STATUS] ++ faultRegs
  | .camSearch _ _ _ _ => [.PG_INJECT, .CAM_OP_STATUS, .CAM_RESULT, .CAM_HIT_LOC, .CAM_MATCH_COUNT, .CAM_PARITY_ERR] ++ faultRegs
  | .camMsearch _ _ _ _ =>
    [.PG_INJECT, .CAM_OP_STATUS, .CAM_RESULT, .CAM_HIT_LOC, .CAM_MATCH_COUNT, .CAM_MSR, .CAM_PARITY_ERR] ++ faultRegs
  | .camUpdateResult _ => [.CAM_OP_STATUS] ++ faultRegs
  | .camScrub _ _ => [.PG_INJECT, .CAM_PARITY_ERR] ++ faultRegs
  | .probeAnswer _ _ _ => [.DD_DRAM_HITS, .DD_TWIN_HITS, .DD_LATE, .DD_BUCKET_EVICT] ++ faultRegs
  | .probeDeadline _ _ => [.DD_LATE]
  | .hotTierSweep => []
  | .dedupMergeStep _ => [.PG_EVENT, .DD_MERGED, .DD_VERIFY_MISMATCH]
  | .basinWaitTimeout _ =>
    [.PG_EVENT, .PG_INJECT, .FN_STALE_COUNT, .LQ_CMPL_COUNT, .CTX_EVICT_COUNT, .RD_BASIN_FREE, .TL_FLITS_TX]
  | .cisternHitRead _ _ _ _ _ =>
    [.PG_INJECT, .FN_STALE_COUNT, .LQ_CMPL_COUNT, .CTX_EVICT_COUNT, .DC_GRAINS, .DC_DECODE_ERR, .RD_BASIN_FREE,
    .RD_GRAINS, .RD_CISTERN_HITS, .RD_UNRECOVERED, .RD_BOUND_MISS, .TL_FLITS_TX] ++ faultRegs
  | .mapLookup _ _ _ _ =>
    [.PG_INJECT, .FN_STALE_COUNT, .LQ_CMPL_COUNT, .CTX_EVICT_COUNT, .RD_BASIN_FREE, .RD_GRAINS, .RD_UNRECOVERED,
    .RD_BOUND_MISS, .TL_FLITS_TX, .MC_HITS, .MC_MISSES, .MC_MERGES, .MC_SECTOR_FILLS, .MC_EVICT_DIRTY, .MC_MSR_INUSE,
    .MC_MSR_FULL, .MC_EVICT_WAITS, .MC_DIRTY, .MC_SRAM_CE] ++ faultRegs
  | .dieChoice _ _ => [.PG_INJECT, .RD_SUSPENDS, .MLK_FLITS_TX]
  | .mediaReadCollect _ _ _ _ =>
    [.PG_INJECT, .FN_STALE_COUNT, .LQ_CMPL_COUNT, .CTX_EVICT_COUNT, .DC_GRAINS, .DC_DECODE_ERR, .RD_BASIN_FREE,
    .RD_GRAINS, .RD_READAROUND, .RD_UNRECOVERED, .RD_BOUND_MISS, .RD_LAT_MAX, .MLK_FLITS_TX, .SP_RECON, .SP_Q_RETRY,
    .TL_FLITS_TX] ++ faultRegs
  | .grainRecovery _ _ _ _ _ =>
    [.PG_INJECT, .FN_STALE_COUNT, .LQ_CMPL_COUNT, .CTX_EVICT_COUNT, .DC_GRAINS, .DC_DECODE_ERR, .RD_BASIN_FREE,
    .RD_GRAINS, .RD_READAROUND, .RD_DECODE_RETRY, .RD_REPAIRS, .RD_UNRECOVERED, .RD_BOUND_MISS, .RD_LAT_MAX,
    .MLK_FLITS_TX, .SP_LOSS_OVERFLOW, .SP_RECON, .SP_Q_RETRY, .TL_FLITS_TX] ++ faultRegs
  | .basinSlotFree _ => [.RD_BASIN_FREE]
  | .laneFailing _ _ _ _ =>
    [.PG_INJECT, .MLK_STATUS, .MLK_FLITS_TX, .MLK_RETRAINS, .MLK_LANE_ERR, .TL_STATUS, .TL_FLITS_TX, .TL_RETRAINS,
    .TL_LANE_ERR]
  | .swapReqRx _ _ => [.MLK_STATUS, .MLK_RETRAINS, .TL_STATUS, .TL_RETRAINS] ++ faultRegs
  | .swapOrderedSetRx _ _ _ _ _ _ => [.MLK_STATUS, .TL_STATUS] ++ faultRegs
  | .mlkForceSwap _ _ _ =>
    [.PG_INJECT, .MLK_STATUS, .MLK_FLITS_TX, .MLK_RETRAINS, .TL_STATUS, .TL_FLITS_TX, .TL_RETRAINS] ++ faultRegs
  | .flitRx _ _ =>
    [.PG_INJECT, .MLK_STATUS, .MLK_FLITS_TX, .MLK_FLITS_RX, .MLK_CRC_ERR, .MLK_REPLAYS, .MLK_RETRAINS, .TL_STATUS,
    .TL_FLITS_TX, .TL_FLITS_RX, .TL_CRC_ERR, .TL_REPLAYS, .TL_RETRAINS] ++ faultRegs
  | .replayTimeout _ => [.MLK_STATUS, .MLK_REPLAYS, .MLK_RETRAINS, .TL_STATUS, .TL_REPLAYS, .TL_RETRAINS] ++ faultRegs
  | .ackTimer _ => []
  | .initMsgRx _ _ =>
    [.PG_INJECT, .FN_STALE_COUNT, .LQ_CMPL_COUNT, .CTX_EVICT_COUNT, .CIST_STATUS, .CIST_ACK_MAX, .CIST_SPILL_BOUND,
    .RD_BASIN_FREE, .MLK_STATUS, .MLK_FLITS_TX, .FTL_POOL_STATE, .FTL_TSEQ_DUR, .LD_CW, .LD_FIRST_FAIL, .LD_CORR_BITS,
    .PAT_SKIPPED, .PAT_REFRESH, .SP_STATE, .SP_STRIPES_WR, .SP_CMD_STATUS, .TL_STATUS, .TL_FLITS_TX, .TL_PARTNER,
    .TD_ARB] ++ faultRegs
  | .widthMsgRx _ _ _ => [.MLK_STATUS, .TL_STATUS] ++ faultRegs
  | .moduleResponseRx _ _ _ =>
    [.PG_INJECT, .MOD_WR, .FN_STALE_COUNT, .LQ_CMPL_COUNT, .CTX_EVICT_COUNT, .CIST_STATUS, .CIST_ACK_MAX,
    .CIST_SPILL_BOUND, .RD_BASIN_FREE, .MLK_STATUS, .MLK_MOD_EPOCH0, .MLK_MOD_EPOCH1, .MLK_FLITS_TX, .MLK_STALE,
    .MLK_IDENT, .MLK_TELEM, .FTL_POOL_STATE, .FTL_TSEQ_DUR, .LD_CW, .LD_FIRST_FAIL, .LD_CORR_BITS, .PAT_SKIPPED,
    .PAT_REFRESH, .SP_STATE, .SP_STRIPES_WR, .SP_CMD_STATUS, .TL_STATUS, .TL_FLITS_TX, .TD_STATE, .TD_ARB] ++ faultRegs
  | .moduleInterimResponse _ _ _ =>
    [.PG_INJECT, .FN_STALE_COUNT, .LQ_CMPL_COUNT, .CTX_EVICT_COUNT, .CIST_STATUS, .CIST_ACK_MAX, .CIST_SPILL_BOUND,
    .RD_BASIN_FREE, .MLK_STATUS, .MLK_MOD_EPOCH0, .MLK_MOD_EPOCH1, .MLK_FLITS_TX, .MLK_STALE, .FTL_POOL_STATE,
    .FTL_TSEQ_DUR, .SP_STATE, .SP_CMD_STATUS, .TL_FLITS_TX, .TD_STATE] ++ faultRegs
  | .moduleAlertRx _ _ => faultRegs
  | .telemetryPoll _ => [.PG_INJECT, .MLK_FLITS_TX]
  | .mlkTrain _ => [.MLK_CTRL, .MLK_STATUS] ++ faultRegs
  | .blockLock _ _ _ => [.PG_INJECT, .MLK_STATUS, .MLK_FLITS_TX, .TL_STATUS, .TL_FLITS_TX]
  | .trainTimeout _ =>
    [.PG_INJECT, .FN_STALE_COUNT, .LQ_CMPL_COUNT, .CTX_EVICT_COUNT, .CIST_STATUS, .CIST_ACK_MAX, .CIST_SPILL_BOUND,
    .RD_BASIN_FREE, .MLK_STATUS, .MLK_FLITS_TX, .FTL_POOL_STATE, .FTL_TSEQ_DUR, .LD_CW, .LD_FIRST_FAIL, .LD_CORR_BITS,
    .PAT_SKIPPED, .PAT_REFRESH, .SP_STATE, .SP_STRIPES_WR, .SP_CMD_STATUS, .TL_STATUS, .TL_FLITS_TX, .TD_ARB] ++ faultRegs
  | .linkInitTimeout _ =>
    [.PG_INJECT, .FN_STALE_COUNT, .LQ_CMPL_COUNT, .CTX_EVICT_COUNT, .CIST_STATUS, .CIST_ACK_MAX, .CIST_SPILL_BOUND,
    .RD_BASIN_FREE, .MLK_STATUS, .MLK_FLITS_TX, .FTL_POOL_STATE, .FTL_TSEQ_DUR, .LD_CW, .LD_FIRST_FAIL, .LD_CORR_BITS,
    .PAT_SKIPPED, .PAT_REFRESH, .SP_STATE, .SP_STRIPES_WR, .SP_CMD_STATUS, .TL_STATUS, .TL_FLITS_TX, .TD_ARB] ++ faultRegs
  | .recoveryRetrained _ _ =>
    [.PG_INJECT, .FN_STALE_COUNT, .LQ_CMPL_COUNT, .CTX_EVICT_COUNT, .CIST_STATUS, .CIST_ACK_MAX, .CIST_SPILL_BOUND,
    .RD_BASIN_FREE, .MLK_STATUS, .MLK_FLITS_TX, .MLK_REPLAYS, .MLK_RETRAINS, .FTL_POOL_STATE, .FTL_TSEQ_DUR, .LD_CW,
    .LD_FIRST_FAIL, .LD_CORR_BITS, .PAT_SKIPPED, .PAT_REFRESH, .SP_STATE, .SP_STRIPES_WR, .SP_CMD_STATUS, .TL_STATUS,
    .TL_FLITS_TX, .TL_REPLAYS, .TL_RETRAINS, .TD_ARB] ++ faultRegs
  | .recoveryTimeout _ =>
    [.PG_INJECT, .FN_STALE_COUNT, .LQ_CMPL_COUNT, .CTX_EVICT_COUNT, .CIST_STATUS, .CIST_ACK_MAX, .CIST_SPILL_BOUND,
    .RD_BASIN_FREE, .MLK_STATUS, .MLK_FLITS_TX, .FTL_POOL_STATE, .FTL_TSEQ_DUR, .LD_CW, .LD_FIRST_FAIL, .LD_CORR_BITS,
    .PAT_SKIPPED, .PAT_REFRESH, .SP_STATE, .SP_STRIPES_WR, .SP_CMD_STATUS, .TL_STATUS, .TL_FLITS_TX, .TD_ARB] ++ faultRegs
  | .moduleAbsent _ =>
    [.PG_INJECT, .FN_STALE_COUNT, .LQ_CMPL_COUNT, .CTX_EVICT_COUNT, .CIST_STATUS, .CIST_ACK_MAX, .CIST_SPILL_BOUND,
    .RD_BASIN_FREE, .MLK_STATUS, .MLK_FLITS_TX, .FTL_POOL_STATE, .FTL_TSEQ_DUR, .LD_CW, .LD_FIRST_FAIL, .LD_CORR_BITS,
    .PAT_SKIPPED, .PAT_REFRESH, .SP_STATE, .SP_STRIPES_WR, .SP_CMD_STATUS, .TL_STATUS, .TL_FLITS_TX, .TD_ARB] ++ faultRegs
  | .modPrsntChange _ _ => [.PG_EVENT, .MLK_STATUS, .MOD_PRSNT]
  | .journalProgram _ => [.PG_INJECT, .MLK_FLITS_TX]
  | .checkpoint _ _ _ => [.PG_INJECT, .MLK_FLITS_TX] ++ faultRegs
  | .reclaimSelect _ => []
  | .reclaimMove _ _ _ _ _ => [.PG_INJECT, .MLK_FLITS_TX, .FTL_COPIED, .SP_LOSS_OVERFLOW] ++ faultRegs
  | .segmentErase _ => []
  | .volCreate => [.FTL_CMD_STATUS, .FTL_RESULT, .GD_LAST_DECISION] ++ faultRegs
  | .volDelete => [.FTL_CMD_STATUS, .GD_LAST_DECISION] ++ faultRegs
  | .volResize => [.FTL_CMD_STATUS, .GD_LAST_DECISION] ++ faultRegs
  | .snapCreate => [.FTL_CMD_STATUS, .GD_LAST_DECISION] ++ faultRegs
  | .snapDelete => [.FTL_CMD_STATUS, .GD_LAST_DECISION] ++ faultRegs
  | .roResume => [.FTL_CMD_STATUS] ++ faultRegs
  | .snapCut _ => []
  | .snapCreateRecord _ => []
  | .snapDeleteStep _ => []
  | .calUpdate _ _ _ _ => [.PG_INJECT, .MLK_FLITS_TX, .CAL_CLAMPS, .LD_CAL_STALE] ++ faultRegs
  | .patrolPassStart => [.PAT_PASS_START, .PAT_PROGRESS]
  | .patrolPace => []
  | .patrolPassEnd => [.PAT_LATE] ++ faultRegs
  | .patRestart => faultRegs
  | .hlRecLatch => [.HL_REC]
  | .memberFail _ _ =>
    [.PG_INJECT, .FN_STALE_COUNT, .LQ_CMPL_COUNT, .CTX_EVICT_COUNT, .CIST_STATUS, .CIST_ACK_MAX, .CIST_SPILL_BOUND,
    .RD_BASIN_FREE, .MLK_FLITS_TX, .FTL_POOL_STATE, .FTL_TSEQ_DUR, .SP_STATE, .SP_CMD_STATUS, .TL_FLITS_TX] ++ faultRegs
  | .rebuildHoldoffEnd _ => []
  | .rebuildStripe _ _ _ _ _ =>
    [.PG_INJECT, .RD_REPAIRS, .MLK_FLITS_TX, .FTL_POOL_STATE, .FTL_COPIED, .SP_STATE, .SP_LOSS_OVERFLOW, .SP_RECON,
    .SP_Q_RETRY, .SP_CMD_STATUS] ++ faultRegs
  | .lossResolveWalk _ _ => []
  | .poolCreate _ _ =>
    [.PG_INJECT, .CIST_STATUS, .CIST_SPILL_BOUND, .MLK_FLITS_TX, .FTL_POOL_STATE, .SP_CMD_STATUS, .GD_LAST_DECISION] ++ faultRegs
  | .poolDelete _ =>
    [.PG_INJECT, .CIST_STATUS, .CIST_SPILL_BOUND, .MLK_FLITS_TX, .FTL_POOL_STATE, .SP_STATE, .SP_CMD_STATUS,
    .GD_LAST_DECISION] ++ faultRegs
  | .reshape _ => [.SP_STATE, .SP_CMD_STATUS, .GD_LAST_DECISION] ++ faultRegs
  | .spareSet => [.PG_INJECT, .MLK_FLITS_TX, .SP_STATE, .SP_CMD_STATUS, .TL_FLITS_TX] ++ faultRegs
  | .readmit => [.PG_INJECT, .MLK_FLITS_TX, .SP_CMD_STATUS] ++ faultRegs
  | .rebuildNow => [.SP_CMD_STATUS] ++ faultRegs
  | .lossClear => [.SP_CMD_STATUS] ++ faultRegs
  | .reshapeMigrateStep _ _ _ => [.PG_INJECT, .MLK_FLITS_TX, .FTL_COPIED, .SP_LOSS_OVERFLOW] ++ faultRegs
  | .reshapePhaseEnd _ _ =>
    [.PG_INJECT, .FN_STALE_COUNT, .LQ_CMPL_COUNT, .CTX_EVICT_COUNT, .CIST_STATUS, .CIST_ACK_MAX, .CIST_SPILL_BOUND,
    .RD_BASIN_FREE, .MLK_FLITS_TX, .FTL_POOL_STATE, .FTL_TSEQ_DUR, .SP_STATE, .TL_FLITS_TX] ++ faultRegs
  | .spLossDataLatch => [.SP_LOSS_DATA]
  | .reinBeatRx _ _ _ => [.PG_INJECT, .CIST_STATUS, .TL_FLITS_TX, .RN_AUTH_FAIL, .RN_LAST_A, .RN_LAST_B, .TD_STATE] ++ faultRegs
  | .reinSilent _ =>
    [.PG_INJECT, .FN_STALE_COUNT, .LQ_CMPL_COUNT, .CTX_EVICT_COUNT, .CIST_STATUS, .CIST_ACK_MAX, .RD_BASIN_FREE,
    .MLK_FLITS_TX, .TL_FLITS_TX, .TD_STATE, .TD_ARB, .TD_LOST_AT, .TD_TAKEOVERS] ++ faultRegs
  | .headOkInChange _ =>
    [.PG_INJECT, .FN_STALE_COUNT, .LQ_CMPL_COUNT, .CTX_EVICT_COUNT, .CIST_STATUS, .CIST_ACK_MAX, .RD_BASIN_FREE,
    .MLK_FLITS_TX, .TL_FLITS_TX, .TD_STATE, .TD_ARB, .TD_LOST_AT, .TD_TAKEOVERS] ++ faultRegs
  | .fenceInHigh => [.RN_STATUS]
  | .tlResyncData _ _ => [.PG_INJECT, .TL_FLITS_TX]
  | .tlResyncDone _ => [.PG_EVENT, .TD_STATE]
  | .tlFwdCmd _ _ _ _ _ =>
    [.PG_INJECT, .FN_STALE_COUNT, .LQ_CMPL_COUNT, .CTX_EVICT_COUNT, .ING_CMDS, .ING_GRAINS, .ING_LEN_ERR,
    .ING_RANGE_ERR, .ING_PARTIAL, .CAM_SEARCHES, .CAM_MULTI, .CAM_PARITY_ERR, .RD_BASIN_FREE, .TL_FLITS_TX,
    .TL_FWD_SENT, .TL_FWD_RCVD] ++ faultRegs
  | .tlFwdAccept _ => [.CTX_EVICT_COUNT]
  | .tlFwdData _ _ _ _ _ _ _ _ _ =>
    [.PG_INJECT, .FN_STALE_COUNT, .LQ_CMPL_COUNT, .CTX_EVICT_COUNT, .ING_PI_ERR, .CIST_ACK_MAX, .CAM_SEARCHES,
    .CAM_MULTI, .CAM_PARITY_ERR, .DG_GRAINS, .DG_ZERO, .DG_DISAGREE, .CP_IN_GRAINS, .CP_RAW, .CP_DOWNGRADE,
    .CP_DYNAMIC, .DD_HOT_HITS, .RD_BASIN_FREE, .TL_FLITS_TX] ++ faultRegs
  | .tlFwdCpl _ _ _ => [.PG_EVENT, .PG_INJECT, .FN_STALE_COUNT, .LQ_CMPL_COUNT, .CTX_EVICT_COUNT, .RD_BASIN_FREE, .TL_FLITS_TX]
  | .tlRefDelta _ => []
  | .tlRefAck _ => []
  | .tlSubst _ _ _ _ _ => []
  | .tlClosed _ => []
  | .tlTransfer _ _ _ _ => [.PG_EVENT, .MLK_STATUS, .MLK_MOD_EPOCH0, .MLK_MOD_EPOCH1, .TD_STATE]
  | .tlLeave => []
  | .tlLinkDownSplit =>
    [.PG_INJECT, .FN_STALE_COUNT, .LQ_CMPL_COUNT, .CTX_EVICT_COUNT, .CIST_STATUS, .CIST_ACK_MAX, .RD_BASIN_FREE,
    .MLK_FLITS_TX, .TL_FLITS_TX, .TD_STATE, .TD_ARB, .TD_LOST_AT, .TD_TAKEOVERS] ++ faultRegs
  | .joinTandem _ => [.CIST_STATUS, .TD_STATE] ++ faultRegs
  | .joinStandby _ => [.TD_STATE] ++ faultRegs
  | .joinWaitTimeout => [.PG_INJECT, .MLK_FLITS_TX, .TD_STATE, .TD_LOST_AT, .TD_TAKEOVERS] ++ faultRegs
  | .arbTieWait => [.PG_INJECT, .MLK_FLITS_TX, .TD_STATE, .TD_LOST_AT, .TD_TAKEOVERS] ++ faultRegs
  | .raiseTimeout _ _ =>
    [.PG_INJECT, .FN_STALE_COUNT, .LQ_CMPL_COUNT, .CTX_EVICT_COUNT, .CIST_STATUS, .CIST_ACK_MAX, .CIST_SPILL_BOUND,
    .RD_BASIN_FREE, .MLK_FLITS_TX, .FTL_POOL_STATE, .FTL_TSEQ_DUR, .SP_STATE, .SP_CMD_STATUS, .TL_FLITS_TX, .TD_ARB] ++ faultRegs
  | .raiseRetry _ _ => [.PG_INJECT, .MLK_FLITS_TX]
  | .fenceHead _ _ _ => faultRegs
  | .takeover => [.PG_INJECT, .MLK_FLITS_TX, .TD_STATE, .TD_LOST_AT, .TD_TAKEOVERS] ++ faultRegs
  | .takeoverDone _ => [.PG_INJECT, .MLK_FLITS_TX, .FTL_RECLAIMED, .FTL_ORPHANS, .SP_LOSS_OVERFLOW, .TL_FLITS_TX] ++ faultRegs
  | .fenceOutRelease => [.RN_STATUS]
  | .fwdLinkDownTimeout _ =>
    [.PG_EVENT, .PG_INJECT, .FN_STALE_COUNT, .LQ_CMPL_COUNT, .CTX_EVICT_COUNT, .RD_BASIN_FREE, .TL_FLITS_TX]
  | .switchBack => [.TD_CMD_STATUS, .GD_LAST_DECISION] ++ faultRegs
  | .handover => [.TD_CMD_STATUS, .GD_LAST_DECISION] ++ faultRegs
  | .twinSet => [.TD_CMD_STATUS, .TD_TWINS] ++ faultRegs
  | .twinClear => [.TD_CMD_STATUS, .TD_TWINS] ++ faultRegs
  | .selfFence => faultRegs
  | .tdCmdInvalid => [.TD_CMD_STATUS] ++ faultRegs
  | .transferDrainEnd => []
  | .transferHoldEnd => []
  | .transferCheckpointEnd => [.PG_INJECT, .MLK_FLITS_TX]
  | .transferAbort => [.PG_EVENT]
  | .tandemCplPost _ _ _ => [.TD_TCPL_SENT]
  | .syncAckRx _ _ =>
    [.PG_EVENT, .PG_INJECT, .FN_STALE_COUNT, .LQ_CMPL_COUNT, .CTX_EVICT_COUNT, .CIST_ACK_MAX, .RD_BASIN_FREE,
    .TL_FLITS_TX, .RP_STATE, .RP_RECS_TX]
  | .syncTimeout _ => faultRegs
  | .batchBoundary _ => [.PG_INJECT, .TL_FLITS_TX]
  | .closedSend _ => [.PG_INJECT, .TL_FLITS_TX]
  | .sealSend _ _ => [.CTX_EVICT_COUNT]
  | .stagedRx _ _ =>
    [.PG_EVENT, .PG_INJECT, .FN_STALE_COUNT, .LQ_CMPL_COUNT, .CTX_EVICT_COUNT, .CIST_ACK_MAX, .RD_BASIN_FREE,
    .TL_FLITS_TX, .RP_STATE, .RP_LAST_STAGED, .RP_RECS_TX]
  | .appliedRx _ _ => [.PG_EVENT, .RP_LAST_APPLIED]
  | .replRecordRx _ _ => [.CIST_CSEQ, .RP_DUP_DISCARD] ++ faultRegs
  | .batchApply _ _ => [.PG_EVENT, .CIST_CSEQ, .RP_LAST_APPLIED]
  | .groupCreate => [.RP_STATE, .RP_CMD_STATUS] ++ faultRegs
  | .groupDelete =>
    [.PG_INJECT, .FN_STALE_COUNT, .LQ_CMPL_COUNT, .CTX_EVICT_COUNT, .CIST_ACK_MAX, .RD_BASIN_FREE, .TL_FLITS_TX,
    .RP_STATE, .RP_CMD_STATUS] ++ faultRegs
  | .volAdd => [.CTX_EVICT_COUNT, .RP_RECS_TX, .RP_CMD_STATUS] ++ faultRegs
  | .volRemove =>
    [.PG_INJECT, .FN_STALE_COUNT, .LQ_CMPL_COUNT, .CTX_EVICT_COUNT, .CIST_ACK_MAX, .RD_BASIN_FREE, .TL_FLITS_TX,
    .RP_STATE, .RP_CMD_STATUS] ++ faultRegs
  | .replSuspend =>
    [.PG_INJECT, .FN_STALE_COUNT, .LQ_CMPL_COUNT, .CTX_EVICT_COUNT, .CIST_ACK_MAX, .RD_BASIN_FREE, .TL_FLITS_TX,
    .RP_STATE, .RP_CMD_STATUS] ++ faultRegs
  | .replResume => [.CTX_EVICT_COUNT, .RP_STATE, .RP_RECS_TX, .RP_CMD_STATUS, .GD_LAST_DECISION] ++ faultRegs
  | .replPromote => [.RP_STATE, .RP_CMD_STATUS] ++ faultRegs
  | .dramReadReturn _ _ _ _ _ _ _ _ =>
    [.PG_INJECT, .FN_STALE_COUNT, .LQ_CMPL_COUNT, .ETH_MISS_LEVEL, .EVQ_PROD, .EVQ_LOST, .CTX_EVICT_COUNT,
    .CTX_NAK_DISCARD, .RD_BASIN_FREE, .TL_FLITS_TX, .DC_CE_COUNT, .DC_UE_COUNT, .DC_CE_LAST, .DC_CE_ADDR, .DC_LAT_MAX] ++ faultRegs
  | .caParityError _ _ _ _ _ _ =>
    [.PG_INJECT, .FN_STALE_COUNT, .LQ_CMPL_COUNT, .ETH_MISS_LEVEL, .EVQ_PROD, .EVQ_LOST, .CTX_EVICT_COUNT,
    .CTX_NAK_DISCARD, .RD_BASIN_FREE, .TL_FLITS_TX, .DC_UE_COUNT, .DC_CE_ADDR] ++ faultRegs
  | .sameBankRefresh _ _ _ => []
  | .neighbourRefresh _ => [.DC_DRFM]
  | .rfmRequest _ => [.DC_DRFM]
  | .dcFreqGo _ _ _ => [.DC_STATUS] ++ faultRegs
  | .freqChangeDone _ _ => [.DC_STATUS] ++ faultRegs
  | .driftExamine _ _ => []
  | .writeTimingTrack _ _ => [.DC_DRIFT_STEPS]
  | .scrubRead _ _ _ _ _ _ _ _ =>
    [.PG_INJECT, .DC_SCRUB_PROGRESS, .DC_CE_COUNT, .DC_UE_COUNT, .DC_CE_LAST, .DC_CE_ADDR] ++ faultRegs
  | .pprRepair _ _ _ _ => [.DC_PPR] ++ faultRegs
  | .rankSpareStart _ _ => [.DC_STATUS] ++ faultRegs
  | .rankSpareSwitch _ => [.REMOUNTS, .DC_STATUS, .RM_INV, .RM_COUNT] ++ faultRegs
  | .mcacheAccess _ _ _ _ _ =>
    [.PG_INJECT, .MC_HITS, .MC_MISSES, .MC_MERGES, .MC_SECTOR_FILLS, .MC_EVICT_DIRTY, .MC_MSR_INUSE, .MC_MSR_FULL,
    .MC_EVICT_WAITS, .MC_DIRTY, .MC_SRAM_CE] ++ faultRegs
  | .mcacheFillDone _ _ =>
    [.MC_HITS, .MC_MISSES, .MC_MERGES, .MC_SECTOR_FILLS, .MC_EVICT_DIRTY, .MC_MSR_INUSE, .MC_MSR_FULL, .MC_EVICT_WAITS,
    .MC_OP_STATUS, .MC_DIRTY] ++ faultRegs
  | .mcClean _ => [.MC_MSR_INUSE, .MC_MSR_FULL, .MC_OP_STATUS, .MC_DIRTY] ++ faultRegs
  | .mcFlush _ => [.MC_MSR_INUSE, .MC_MSR_FULL, .MC_OP_STATUS, .MC_DIRTY] ++ faultRegs
  | .mcInvalidate => [.MC_OP_STATUS] ++ faultRegs
  | .mcCleanAll => [.MC_MSR_INUSE, .MC_MSR_FULL, .MC_OP_STATUS, .MC_DIRTY] ++ faultRegs
  | .mcOpDone => [.PG_EVENT, .MC_OP_STATUS]
  | .objectRebuild _ _ =>
    [.MC_HITS, .MC_MISSES, .MC_MERGES, .MC_SECTOR_FILLS, .MC_EVICT_DIRTY, .MC_MSR_INUSE, .MC_MSR_FULL, .MC_EVICT_WAITS,
    .MC_OP_STATUS, .MC_DIRTY, .MC_REBUILDS] ++ faultRegs
  | .kdeClaim _ _ => [.PG_EVENT, .KDE_OWNER]
  | .kdeRelease _ _ => [.KDE_OWNER, .KDE_STATUS, .KDE_RESULT, .KDE_CMP_COMPAT, .KDE_EXPECT] ++ faultRegs
  | .kdeIdleTimeout => [.PG_EVENT, .KDE_OWNER, .KDE_STATUS, .KDE_RESULT, .KDE_CMP_COMPAT, .KDE_DIGEST, .KDE_EXPECT]
  | .kdeStart _ => [.KDE_STATUS, .KDE_LEN, .KDE_RESULT, .KDE_CMP_COMPAT, .KDE_DIGEST] ++ faultRegs
  | .kdeFinish _ => [.KDE_LEN] ++ faultRegs
  | .kdeAbort _ => [.KDE_STATUS, .KDE_RESULT, .KDE_CMP_COMPAT] ++ faultRegs
  | .kdeData _ _ => [.KDE_STATUS, .KDE_LEN] ++ faultRegs
  | .kdeBlockDone => [.KDE_STATUS]
  | .kdeFinishDone => [.PG_INJECT, .KDE_STATUS, .KDE_RESULT, .KDE_CMP_COMPAT, .KDE_SESSIONS, .KDE_DIGEST] ++ faultRegs
  | .kdeExpectWrite _ _ _ => [.KDE_RESULT, .KDE_CMP_COMPAT, .KDE_EXPECT] ++ faultRegs
  | .kdeCtxSuspend _ _ => [.KDE_OWNER, .KDE_STATUS, .KDE_CTX_STATUS, .KDE_CTX_OWNER] ++ faultRegs
  | .kdeCtxResume _ _ => [.KDE_STATUS, .KDE_LEN, .KDE_CTX_STATUS, .KDE_CTX_OWNER, .KDE_EXPECT] ++ faultRegs
  | .kdeCtxDiscard _ _ => [.KDE_CTX_STATUS, .KDE_CTX_OWNER] ++ faultRegs
  | .kdeCtxExpired _ => [.PG_EVENT, .KDE_CTX_STATUS, .KDE_CTX_OWNER]
  | .ksLoad => [.KS_CMD_STATUS, .KS_DATA] ++ faultRegs
  | .ksLock => [.KS_CMD_STATUS, .KS_DATA] ++ faultRegs
  | .ksZeroise _ => [.KS_CMD_STATUS, .KS_DATA] ++ faultRegs
  | .ksSetUse => [.KS_CMD_STATUS, .KS_DATA] ++ faultRegs
  | .ksInvalidOp => [.KS_CMD_STATUS, .KS_DATA] ++ faultRegs
  | .ksSlotParity _ => [.KDE_STATUS, .KS_VALID_MAP, .KS_LOCK_MAP] ++ faultRegs
  | .remountStart _ _ => [.PG_EVENT, .GD_LAST_DECISION, .RM_STATUS, .RM_CANDIDATES, .RM_CMD_STATUS]
  | .rmCmd _ _ => [.GD_LAST_DECISION, .RM_STATUS, .RM_CANDIDATES, .RM_CMD_STATUS] ++ faultRegs
  | .sramRowRepair _ _ _ => faultRegs
  | .gdActCancel _ _ => [.PG_EVENT, .FTL_CMD_STATUS, .SP_CMD_STATUS, .TD_CMD_STATUS, .RP_CMD_STATUS, .RM_CMD_STATUS]
  | .stbFlushCmd => [.STB_CTRL, .STB_STATUS]
  | .studbookFlush => [.STB_STATUS]
  | .studbookFlushTimer => [.STB_STATUS]
  | .studbookFlushDone _ _ => [.STB_CTRL, .STB_FLUSHED] ++ faultRegs
  | .resilverDone => [.PG_EVENT, .STB_STATUS]
  | .stbRdOffWrite _ => [.STB_RD_OFF, .STB_RD_STATUS]
  | .stbWindowReady => [.STB_RD_STATUS, .STB_RD_WIN]
  | .stbAppCmd _ _ => [.STB_APP_STATUS] ++ faultRegs
  | .tkWrite _ _ _ => [.TK_STATUS, .TK_CMD_STATUS, .TK_INVALID] ++ faultRegs
  | .tkRead => [.TK_CMD_STATUS] ++ faultRegs
  | .tkProceed => [.TK_STATUS, .TK_CTRL]
  | .svcFrameRx _ _ => [.SVC_RX_DROP]
  | .mysynOpen _ _ _ => [.SVC_STATUS, .SVC_RX_DROP, .SVC_MSG_RX]
  | .mysynAuth _ => [.SVC_STATUS, .SVC_AUTH_FAIL, .SVC_MSG_RX] ++ faultRegs
  | .mysynClose _ => [.SVC_STATUS, .SVC_AUTH_FAIL, .SVC_MSG_RX] ++ faultRegs
  | .mysynRegRead _ => [.any]
  | .mysynRegWrite _ => [.any]
  | .mysynStbRead _ => [.SVC_STATUS, .SVC_AUTH_FAIL, .SVC_MSG_RX] ++ faultRegs
  | .mysynTackRead _ => [.SVC_STATUS, .SVC_AUTH_FAIL, .SVC_MSG_RX] ++ faultRegs
  | .mysynTackWrite _ _ _ => [.TK_STATUS, .TK_INVALID, .SVC_STATUS, .SVC_AUTH_FAIL, .SVC_MSG_RX] ++ faultRegs
  | .mysynImageBegin _ =>
    [.GD_LAST_DECISION, .SVC_STATUS, .SVC_AUTH_FAIL, .SVC_MSG_RX, .FW_INST_BUILD, .FW_FLOOR, .FW_STAGE_BYTES] ++ faultRegs
  | .mysynImageData _ _ => [.SVC_STATUS, .SVC_AUTH_FAIL, .SVC_MSG_RX, .FW_STAGE_BYTES] ++ faultRegs
  | .mysynImageEnd _ _ => [.SVC_STATUS, .SVC_AUTH_FAIL, .SVC_MSG_RX] ++ faultRegs
  | .mysynImageAbort _ => [.SVC_STATUS, .SVC_AUTH_FAIL, .SVC_MSG_RX] ++ faultRegs
  | .mysynFwCmd _ => [.any]
  | .mysynFwStatus _ => [.SVC_STATUS, .SVC_AUTH_FAIL, .SVC_MSG_RX] ++ faultRegs
  | .mysynReset _ => [.any]
  | .sessionIdleTimeout _ => [.SVC_STATUS] ++ faultRegs
  | .fwActivate _ => [.any]
  | .fwCommit _ => [.any]
  | .fwRevert => [.any]
  | .fwAbortStage => [.any]
  | .porNAssert => [.any]
  | .bringup _ => [.any]
  | .bringupStall _ _ => [.any]
  | .perstNAssert => [.PG_EVENT, .RESETS, .CHIP_INJ_EN, .PCIE_LINK, .FN_STATE, .CHIP_RST_STATUS, .CHIP_PCIE_RESETS]
  | .perstNRelease => [.PCIE_LINK]
  | .warmReset _ => [.any]
  | .tjHalt => faultRegs
  | .thermtrip => []
  | .modRstAssert _ =>
    [.PG_INJECT, .FN_STALE_COUNT, .LQ_CMPL_COUNT, .CTX_EVICT_COUNT, .CIST_STATUS, .CIST_ACK_MAX, .CIST_SPILL_BOUND,
    .RD_BASIN_FREE, .MLK_STATUS, .MLK_FLITS_TX, .FTL_POOL_STATE, .FTL_TSEQ_DUR, .LD_CW, .LD_FIRST_FAIL, .LD_CORR_BITS,
    .PAT_SKIPPED, .PAT_REFRESH, .SP_STATE, .SP_STRIPES_WR, .SP_CMD_STATUS, .TL_STATUS, .TL_FLITS_TX, .TD_ARB, .MOD_RST] ++ faultRegs
  | .modRstRelease _ _ => [.MLK_STATUS, .MOD_RST]
  | .reinbSyncChange _ => [.RN_B_LINK]
  | .fenceInFall => [.RN_STATUS]
  | .tlTrain => [.MLK_STATUS, .TL_CTRL, .TL_STATUS] ++ faultRegs
  | .tlForceSwap _ _ =>
    [.PG_INJECT, .MLK_STATUS, .MLK_FLITS_TX, .MLK_RETRAINS, .TL_STATUS, .TL_FLITS_TX, .TL_RETRAINS] ++ faultRegs
  | .svcLinkChange _ _ _ => [.PG_EVENT, .SVC_STATUS]
  | .nvmeCcEnSet _ => []
  | .failHoldTimeout _ => [.PG_EVENT, .PG_INJECT, .FN_STALE_COUNT, .LQ_CMPL_COUNT, .CTX_EVICT_COUNT, .RD_BASIN_FREE, .TL_FLITS_TX]

/-- The parts, beside the queue and the register file, that a command may change. -/
def parts : Instr → List Part
  | .commitPoint _ => [.shadow, .loPend, .pages, .front, .cam, .media, .mem, .power] ++ faultParts
  | .overrun _ _ _ => faultParts
  | .overrunRepeat _ _ => faultParts
  | .strideSyncEdge _ => [.clock]
  | .syncEdgeLost => []
  | .syncLocked => []
  | .masterTake => []
  | .acquireTimeout => [.clock]
  | .strideAdopt => faultParts
  | .commitGateSet => [.pages]
  | .commitGateClear => [.pages]
  | .calTick => [.clock]
  | .calSecondRollover _ => []
  | .hourRollover => [.media]
  | .calSet => []
  | .oscStopped => [.clock]
  | .vaonBothLost => [.clock, .guard, .stud, .mem, .power]
  | .vaonFeedReturn _ => []
  | .vaonOneLost _ => faultParts
  | .tempBandCount _ => []
  | .lifeSaveHourly => [.clock]
  | .lifeCtrlSave => [.clock]
  | .lifeSaveDone _ _ => faultParts
  | .registerWrite _ _ => [.shadow, .loPend, .pages, .front, .cam, .media, .mem, .power] ++ faultParts
  | .rcRegisterRead _ => [.hiLatch] ++ faultParts
  | .loRegisterRead _ => [.hiLatch] ++ faultParts
  | .hiRegisterWrite _ _ => [.shadow, .loPend, .pages, .front, .cam, .media, .mem, .power] ++ faultParts
  | .accessSize _ _ _ => [.shadow, .hiLatch, .loPend, .pages, .front, .cam, .media, .mem, .power] ++ faultParts
  | .unmapped _ _ => faultParts
  | .pgEnable _ => faultParts
  | .pgDisable _ => faultParts
  | .pgSoftReset _ => faultParts
  | .pgFreeze _ => faultParts
  | .pgUnfreeze _ => faultParts
  | .pgCommit _ => [.pages] ++ faultParts
  | .initComplete _ => [.pages]
  | .initFail _ _ _ => [.pages] ++ faultParts
  | .initTimeout _ => [.pages] ++ faultParts
  | .pageDrained _ => [.pages]
  | .pgEventForce _ _ => faultParts
  | .errRearm _ => []
  | .pageParity _ => faultParts
  | .evtArm _ => []
  | .chipInjEn _ => faultParts
  | .injectArm _ _ => faultParts
  | .injectDisarm _ => faultParts
  | .fnCreate _ => [.front] ++ faultParts
  | .fnResize _ => [.front] ++ faultParts
  | .fnReset _ => [.front] ++ faultParts
  | .fnDestroy _ => [.front] ++ faultParts
  | .fnAttach _ => [.front] ++ faultParts
  | .fnDetach _ => [.front] ++ faultParts
  | .fnReply _ => [.front] ++ faultParts
  | .detachNsidFree _ _ => [.front]
  | .mboxWrite _ _ _ => [.front]
  | .mboxRing _ => [.front]
  | .mgmtDbTake _ _ => [.front]
  | .pcieFlr _ => [.front]
  | .nvmeCcEnClear _ => [.front]
  | .fnResetDone _ => [.front]
  | .sriovNumvfsChange _ _ => [.front]
  | .fnRemovalDone _ => [.shadow, .front]
  | .nvmeSqDoorbell _ _ _ => [.front]
  | .nvmeCqDoorbell _ _ _ => [.front]
  | .cmdFetch _ _ => [.sent, .front, .cist, .media, .tandem]
  | .weirAdmit _ _ _ => [.front, .cam] ++ faultParts
  | .lqIssue _ _ => [.front]
  | .lqTagWrite _ _ _ _ => [.front]
  | .lqAbort _ _ => [.sent, .front, .cist, .media, .tandem]
  | .lqReset _ => [.front]
  | .lqRead _ => [.front, .cam, .media] ++ faultParts
  | .lqWrite _ => [.sent, .front, .cist, .media, .tandem]
  | .lqFlush _ => [.front]
  | .lqVerify _ => [.front, .cam, .media] ++ faultParts
  | .lqDeallocate _ => [.sent, .front, .cist, .media, .tandem]
  | .lqWriteZeroes _ => [.sent, .front, .cist, .media, .tandem]
  | .nvmeCreateIoSq _ => [.sent, .front, .cist, .media, .tandem]
  | .nvmeCreateIoCq _ => [.sent, .front, .cist, .media, .tandem]
  | .nvmeDeleteIoSq _ => [.sent, .front, .cist, .media, .tandem]
  | .nvmeDeleteIoCq _ => [.sent, .front, .cist, .media, .tandem]
  | .nvmeIdentify _ => [.sent, .front, .cist, .media, .tandem]
  | .nvmeGetLogPage _ => [.sent, .front, .cist, .media, .tandem]
  | .nvmeSetFeatures _ => [.sent, .front, .cist, .media, .tandem]
  | .nvmeGetFeatures _ => [.sent, .front, .cist, .media, .tandem]
  | .nvmeAbort _ => [.sent, .front, .cist, .media, .tandem]
  | .nvmeAsyncEventRequest _ => [.sent, .front, .cist, .media, .tandem]
  | .nvmeRead _ => [.front, .cam, .media] ++ faultParts
  | .nvmeWrite _ => [.sent, .front, .cist, .media, .tandem]
  | .nvmeFlush _ => [.front]
  | .nvmeWriteZeroes _ => [.sent, .front, .cist, .media, .tandem]
  | .nvmeDatasetManagement _ => [.sent, .front, .cist, .media, .tandem]
  | .nvmeVerify _ => [.front, .cam, .media] ++ faultParts
  | .ingestTimeout _ => [.sent, .front, .cist, .cam, .media, .tandem]
  | .pcieCplTimeout _ _ => [.front, .cam, .media] ++ faultParts
  | .pciePoisonedTlp _ _ => [.front, .cam, .media] ++ faultParts
  | .pcieLinkUp _ _ => faultParts
  | .pcieLinkDown => [.front] ++ faultParts
  | .pcieSpeedChange _ _ => faultParts
  | .fabricsConnect _ _ _ _ _ _ => [.sent, .front, .cist, .media, .tandem]
  | .fabricsPropertyGet _ _ => [.sent, .front, .cist, .media, .tandem]
  | .fabricsPropertySet _ _ _ => [.sent, .front, .cist, .media, .tandem]
  | .fabricsDisconnect _ => [.sent, .front, .cist, .media, .tandem]
  | .nvmeofCapsuleRx _ _ _ _ => [.front, .media] ++ faultParts
  | .katoExpired _ => [.sent, .front]
  | .ethModeWrite _ _ => [.front] ++ faultParts
  | .ethLinkDown _ => [.sent, .front, .tandem]
  | .ethLinkUp _ => [.front]
  | .fecDegrade _ _ _ => [.front] ++ faultParts
  | .pfcStorm _ => [.sent, .front]
  | .ethFrameRx _ _ _ _ => [.front] ++ faultParts
  | .roceRequestRx _ _ _ => [.front, .media] ++ faultParts
  | .cnpRx _ => [.front]
  | .cnpRateRestore _ => [.front]
  | .contextFetchDone _ _ => [.front, .media] ++ faultParts
  | .contextWritebackDone _ => [.front]
  | .roceAckRx _ _ => [.front, .tandem]
  | .roceNakRx _ _ _ => [.sent, .front, .tandem]
  | .transportAckTimeout _ => [.sent, .front, .tandem]
  | .qpCreate _ => [.front] ++ faultParts
  | .qpModify => [.front] ++ faultParts
  | .qpDestroy => [.front] ++ faultParts
  | .qpDestroyDone => [.front]
  | .mrReg _ => [.front] ++ faultParts
  | .mrInval => [.front] ++ faultParts
  | .mrDereg => [.front] ++ faultParts
  | .mrPlacementDrained => [.front]
  | .qp1DatagramRx _ _ => [.front, .cam] ++ faultParts
  | .gsiTxProdWrite _ => faultParts
  | .gsiTxSend _ => [.sent, .front]
  | .gsiTxPacketLeft _ => [.front]
  | .sealRx _ _ _ _ => [.front, .media] ++ faultParts
  | .sealTimeout _ => [.sent, .front]
  | .rangeLockGrant _ _ _ _ => [.front, .cam, .media] ++ faultParts
  | .dataArrive _ _ _ _ _ _ _ => [.front, .cam, .media] ++ faultParts
  | .entrySeal _ => [.sent, .front, .cist, .cam, .media, .tandem]
  | .tlMirrorWrite _ _ => [.sent, .front, .cist, .tandem]
  | .tlMirrorAck _ => [.sent, .front, .cist, .cam, .media, .tandem]
  | .tlMirrorNak _ => [.sent, .tandem]
  | .tlMirrorRelease _ => [.cist]
  | .mirrorTimeout _ => faultParts
  | .fuaPadTimeout _ => [.media] ++ faultParts
  | .destageEntry _ _ _ _ _ _ => [.cam, .media] ++ faultParts
  | .spillwayStart => [.media, .mem] ++ faultParts
  | .spillQuiesced => [.cist, .cam, .media]
  | .spillImageDone _ => [.sent, .clock, .stud, .cist, .media, .tandem]
  | .spillDone => [.power] ++ faultParts
  | .spillReturn => [.shadow, .hiLatch, .loPend, .pages, .tack, .front, .cam, .media, .mem, .power] ++ faultParts
  | .spillLossAck => []
  | .camRead _ _ => [.cam] ++ faultParts
  | .camInvalidate _ => [.cam] ++ faultParts
  | .camWrite _ => [.cam] ++ faultParts
  | .camValidate _ => [.cam] ++ faultParts
  | .camSearch _ _ _ _ => [.cam] ++ faultParts
  | .camMsearch _ _ _ _ => [.cam] ++ faultParts
  | .camUpdateResult _ => [.cam] ++ faultParts
  | .camScrub _ _ => [.cam] ++ faultParts
  | .probeAnswer _ _ _ => [.cam] ++ faultParts
  | .probeDeadline _ _ => [.cist, .cam]
  | .hotTierSweep => [.cam, .media]
  | .dedupMergeStep _ => [.guard, .cam, .media]
  | .basinWaitTimeout _ => [.sent, .front, .cist, .media, .tandem]
  | .cisternHitRead _ _ _ _ _ => [.front, .media] ++ faultParts
  | .mapLookup _ _ _ _ => [.front, .media, .mem] ++ faultParts
  | .dieChoice _ _ => [.sent, .front, .cam, .media]
  | .mediaReadCollect _ _ _ _ => [.front, .media] ++ faultParts
  | .grainRecovery _ _ _ _ _ => [.front, .media] ++ faultParts
  | .basinSlotFree _ => [.front]
  | .laneFailing _ _ _ _ => [.sent, .media, .tandem]
  | .swapReqRx _ _ => [.media] ++ faultParts
  | .swapOrderedSetRx _ _ _ _ _ _ => [.media] ++ faultParts
  | .mlkForceSwap _ _ _ => [.media] ++ faultParts
  | .flitRx _ _ => [.media] ++ faultParts
  | .replayTimeout _ => [.media] ++ faultParts
  | .ackTimer _ => [.sent, .media, .tandem]
  | .initMsgRx _ _ => [.front, .cam, .media] ++ faultParts
  | .widthMsgRx _ _ _ => [.media] ++ faultParts
  | .moduleResponseRx _ _ _ => [.front, .cam, .media] ++ faultParts
  | .moduleInterimResponse _ _ _ => [.front, .media] ++ faultParts
  | .moduleAlertRx _ _ => [.media] ++ faultParts
  | .telemetryPoll _ => [.sent, .media]
  | .mlkTrain _ => [.media] ++ faultParts
  | .blockLock _ _ _ => [.sent, .media, .tandem]
  | .trainTimeout _ => [.front, .cam, .media] ++ faultParts
  | .linkInitTimeout _ => [.front, .cam, .media] ++ faultParts
  | .recoveryRetrained _ _ => [.front, .cam, .media] ++ faultParts
  | .recoveryTimeout _ => [.front, .cam, .media] ++ faultParts
  | .moduleAbsent _ => [.front, .cam, .media] ++ faultParts
  | .modPrsntChange _ _ => [.media]
  | .journalProgram _ => [.sent, .media]
  | .checkpoint _ _ _ => [.media] ++ faultParts
  | .reclaimSelect _ => [.guard, .media]
  | .reclaimMove _ _ _ _ _ => [.media] ++ faultParts
  | .segmentErase _ => [.media]
  | .volCreate => [.media] ++ faultParts
  | .volDelete => [.media] ++ faultParts
  | .volResize => [.media] ++ faultParts
  | .snapCreate => [.media] ++ faultParts
  | .snapDelete => [.media] ++ faultParts
  | .roResume => [.media] ++ faultParts
  | .snapCut _ => [.media]
  | .snapCreateRecord _ => [.media]
  | .snapDeleteStep _ => [.media]
  | .calUpdate _ _ _ _ => [.media] ++ faultParts
  | .patrolPassStart => [.media]
  | .patrolPace => [.media]
  | .patrolPassEnd => [.media] ++ faultParts
  | .patRestart => [.media] ++ faultParts
  | .hlRecLatch => [.sent]
  | .memberFail _ _ => [.front, .media] ++ faultParts
  | .rebuildHoldoffEnd _ => [.media]
  | .rebuildStripe _ _ _ _ _ => [.media] ++ faultParts
  | .lossResolveWalk _ _ => [.media]
  | .poolCreate _ _ => [.media] ++ faultParts
  | .poolDelete _ => [.media] ++ faultParts
  | .reshape _ => [.media] ++ faultParts
  | .spareSet => [.media] ++ faultParts
  | .readmit => [.media] ++ faultParts
  | .rebuildNow => [.media] ++ faultParts
  | .lossClear => [.media] ++ faultParts
  | .reshapeMigrateStep _ _ _ => [.media] ++ faultParts
  | .reshapePhaseEnd _ _ => [.front, .media] ++ faultParts
  | .spLossDataLatch => [.sent]
  | .reinBeatRx _ _ _ => faultParts
  | .reinSilent _ => [.front, .cam, .media] ++ faultParts
  | .headOkInChange _ => [.front, .cam, .media] ++ faultParts
  | .fenceInHigh => [.tandem]
  | .tlResyncData _ _ => [.sent, .cist, .tandem]
  | .tlResyncDone _ => []
  | .tlFwdCmd _ _ _ _ _ => [.front, .cam, .media] ++ faultParts
  | .tlFwdAccept _ => [.sent, .front]
  | .tlFwdData _ _ _ _ _ _ _ _ _ => [.front, .cam, .media] ++ faultParts
  | .tlFwdCpl _ _ _ => [.sent, .front, .cist, .media, .tandem]
  | .tlRefDelta _ => [.media]
  | .tlRefAck _ => [.tandem]
  | .tlSubst _ _ _ _ _ => [.media, .tandem]
  | .tlClosed _ => [.tandem]
  | .tlTransfer _ _ _ _ => [.cam, .media, .tandem]
  | .tlLeave => [.tandem]
  | .tlLinkDownSplit => [.front, .cam, .media] ++ faultParts
  | .joinTandem _ => [.media] ++ faultParts
  | .joinStandby _ => [.cam, .media] ++ faultParts
  | .joinWaitTimeout => [.media] ++ faultParts
  | .arbTieWait => [.media] ++ faultParts
  | .raiseTimeout _ _ => [.front, .media] ++ faultParts
  | .raiseRetry _ _ => [.sent, .media, .tandem]
  | .fenceHead _ _ _ => faultParts
  | .takeover => [.media] ++ faultParts
  | .takeoverDone _ => [.cam, .media] ++ faultParts
  | .fenceOutRelease => []
  | .fwdLinkDownTimeout _ => [.sent, .front, .cist, .media, .tandem]
  | .switchBack => [.media] ++ faultParts
  | .handover => [.media] ++ faultParts
  | .twinSet => faultParts
  | .twinClear => faultParts
  | .selfFence => faultParts
  | .tdCmdInvalid => faultParts
  | .transferDrainEnd => [.media, .tandem]
  | .transferHoldEnd => [.media, .tandem]
  | .transferCheckpointEnd => [.sent, .media, .tandem]
  | .transferAbort => [.guard, .media, .tandem]
  | .tandemCplPost _ _ _ => [.sent, .tandem]
  | .syncAckRx _ _ => [.sent, .guard, .front, .cist, .cam, .media, .tandem]
  | .syncTimeout _ => faultParts
  | .batchBoundary _ => [.sent, .tandem]
  | .closedSend _ => [.sent, .tandem]
  | .sealSend _ _ => [.sent, .front, .tandem]
  | .stagedRx _ _ => [.sent, .guard, .front, .cist, .cam, .media, .tandem]
  | .appliedRx _ _ => []
  | .replRecordRx _ _ => [.front, .cam, .media] ++ faultParts
  | .batchApply _ _ => [.sent, .front, .cist, .cam, .tandem]
  | .groupCreate => faultParts
  | .groupDelete => [.front, .cam, .media] ++ faultParts
  | .volAdd => [.front] ++ faultParts
  | .volRemove => [.front, .cam, .media] ++ faultParts
  | .replSuspend => [.front, .cam, .media] ++ faultParts
  | .replResume => [.front] ++ faultParts
  | .replPromote => [.media] ++ faultParts
  | .dramReadReturn _ _ _ _ _ _ _ _ => [.front, .cam, .media, .mem] ++ faultParts
  | .caParityError _ _ _ _ _ _ => [.front, .cam, .media] ++ faultParts
  | .sameBankRefresh _ _ _ => [.mem]
  | .neighbourRefresh _ => []
  | .rfmRequest _ => []
  | .dcFreqGo _ _ _ => [.mem] ++ faultParts
  | .freqChangeDone _ _ => [.mem] ++ faultParts
  | .driftExamine _ _ => [.mem]
  | .writeTimingTrack _ _ => []
  | .scrubRead _ _ _ _ _ _ _ _ => [.mem] ++ faultParts
  | .pprRepair _ _ _ _ => [.mem] ++ faultParts
  | .rankSpareStart _ _ => [.mem] ++ faultParts
  | .rankSpareSwitch _ => [.mem] ++ faultParts
  | .mcacheAccess _ _ _ _ _ => [.mem] ++ faultParts
  | .mcacheFillDone _ _ => [.mem] ++ faultParts
  | .mcClean _ => [.mem] ++ faultParts
  | .mcFlush _ => [.mem] ++ faultParts
  | .mcInvalidate => faultParts
  | .mcCleanAll => [.mem] ++ faultParts
  | .mcOpDone => []
  | .objectRebuild _ _ => [.mem] ++ faultParts
  | .kdeClaim _ _ => [.mem]
  | .kdeRelease _ _ => [.mem] ++ faultParts
  | .kdeIdleTimeout => [.mem]
  | .kdeStart _ => [.mem] ++ faultParts
  | .kdeFinish _ => [.mem] ++ faultParts
  | .kdeAbort _ => [.mem] ++ faultParts
  | .kdeData _ _ => [.mem] ++ faultParts
  | .kdeBlockDone => []
  | .kdeFinishDone => [.mem] ++ faultParts
  | .kdeExpectWrite _ _ _ => [.mem] ++ faultParts
  | .kdeCtxSuspend _ _ => [.mem] ++ faultParts
  | .kdeCtxResume _ _ => [.mem] ++ faultParts
  | .kdeCtxDiscard _ _ => [.mem] ++ faultParts
  | .kdeCtxExpired _ => [.mem]
  | .ksLoad => [.mem] ++ faultParts
  | .ksLock => [.mem] ++ faultParts
  | .ksZeroise _ => [.mem] ++ faultParts
  | .ksSetUse => [.mem] ++ faultParts
  | .ksInvalidOp => faultParts
  | .ksSlotParity _ => [.mem] ++ faultParts
  | .remountStart _ _ => [.guard, .cam]
  | .rmCmd _ _ => [.cam] ++ faultParts
  | .sramRowRepair _ _ _ => faultParts
  | .gdActCancel _ _ => [.guard]
  | .stbFlushCmd => [.stud]
  | .studbookFlush => [.stud]
  | .studbookFlushTimer => [.stud]
  | .studbookFlushDone _ _ => faultParts
  | .resilverDone => []
  | .stbRdOffWrite _ => [.stud]
  | .stbWindowReady => [.stud]
  | .stbAppCmd _ _ => faultParts
  | .tkWrite _ _ _ => [.tack] ++ faultParts
  | .tkRead => faultParts
  | .tkProceed => []
  | .svcFrameRx _ _ => []
  | .mysynOpen _ _ _ => [.sent, .svc]
  | .mysynAuth _ => faultParts
  | .mysynClose _ => faultParts
  | .mysynRegRead _ => [.hiLatch] ++ faultParts
  | .mysynRegWrite _ => [.shadow, .loPend, .pages, .front, .cam, .media, .mem, .power] ++ faultParts
  | .mysynStbRead _ => faultParts
  | .mysynTackRead _ => faultParts
  | .mysynTackWrite _ _ _ => [.tack] ++ faultParts
  | .mysynImageBegin _ => faultParts
  | .mysynImageData _ _ => faultParts
  | .mysynImageEnd _ _ => faultParts
  | .mysynImageAbort _ => faultParts
  | .mysynFwCmd _ => [.shadow, .hiLatch, .loPend, .pages, .tack, .front, .cam, .media, .mem, .power] ++ faultParts
  | .mysynFwStatus _ => faultParts
  | .mysynReset _ => [.shadow, .hiLatch, .loPend, .pages, .tack, .front, .cam, .media, .mem, .power] ++ faultParts
  | .sessionIdleTimeout _ => faultParts
  | .fwActivate _ => [.shadow, .hiLatch, .loPend, .pages, .tack, .front, .cam, .media, .mem, .power] ++ faultParts
  | .fwCommit _ => [.shadow, .hiLatch, .loPend, .pages, .tack, .front, .cam, .media, .mem, .power] ++ faultParts
  | .fwRevert => [.shadow, .hiLatch, .loPend, .pages, .tack, .front, .cam, .media, .mem, .power] ++ faultParts
  | .fwAbortStage => [.shadow, .hiLatch, .loPend, .pages, .tack, .front, .cam, .media, .mem, .power] ++ faultParts
  | .porNAssert => [.shadow, .hiLatch, .loPend, .pages, .tack, .front, .cam, .media, .mem, .power] ++ faultParts
  | .bringup _ => [.shadow, .loPend, .pages, .tack, .front, .cam, .media, .mem, .power] ++ faultParts
  | .bringupStall _ _ => [.shadow, .loPend, .pages, .tack, .front, .cam, .media, .mem, .power] ++ faultParts
  | .perstNAssert => [.front, .power]
  | .perstNRelease => [.power]
  | .warmReset _ => [.shadow, .hiLatch, .loPend, .pages, .tack, .front, .cam, .media, .mem, .power] ++ faultParts
  | .tjHalt => faultParts
  | .thermtrip => [.power]
  | .modRstAssert _ => [.front, .cam, .media, .power] ++ faultParts
  | .modRstRelease _ _ => [.media, .power]
  | .reinbSyncChange _ => []
  | .fenceInFall => [.tandem]
  | .tlTrain => [.media] ++ faultParts
  | .tlForceSwap _ _ => [.media] ++ faultParts
  | .svcLinkChange _ _ _ => []
  | .nvmeCcEnSet _ => [.front]
  | .failHoldTimeout _ => [.sent, .front, .cist, .media, .tandem]

end Sys2Proof.Frames
end

