-- ==== Sys2Proof/Safety.lean ====
section
/-! DEFINITION. What counts as a safe state of the block and as an answer of a command, in the terms that statements use. -/

namespace Sys2Proof.Safety

open Sys2Proof.Machine

/-- The register file is in its one canonical form: register numbers strictly rising, and no register listed that holds its reset
value. -/
def canonical (m : Amap Word) : Bool := m.sorted && m.all fun kv => decide (kv.2 ≠ resetOf kv.1)

/-- The command answers a next state, and that state has the property. -/
def answers (c : Instr) (s : State) (P : State → Prop) : Prop := ∃ t, exec c s = .next t ∧ P t

/-- An error of a code, level and subunit, detected in page `p` of `s`, as the capture of `t` shows it (R71): a page with VALID = 0
captures it with the stride number and sets ERR_CAPTURED; a page with VALID = 1 keeps its capture. -/
def captured (s t : State) (p code level sub : Nat) (injected : Bool := false) : Prop :=
  t.bit (R.PG_ERR_FIRST p) 31 = true ∧
    if s.bit (R.PG_ERR_FIRST p) 31 then
      t.rd (R.PG_ERR_FIRST p) = s.rd (R.PG_ERR_FIRST p) ∧ t.rd64 (R.PG_ERR_STRIDE p) = s.rd64 (R.PG_ERR_STRIDE p)
    else
      t.fld (R.PG_ERR_FIRST p) 0 16 = code % 65536 ∧ t.fld (R.PG_ERR_FIRST p) 16 8 = sub % 256
        ∧ t.fld (R.PG_ERR_FIRST p) 28 3 = level % 8 ∧ t.bit (R.PG_ERR_FIRST p) 27 = injected
        ∧ t.rd64 (R.PG_ERR_STRIDE p) = s.now ∧ t.bit (R.PG_EVENT p) 31 = true

/-- The form of a status that a completion carries: NVMe queues carry type, code and DNR, legacy tags none (R109). -/
def nvmeForm (src : CmdSrc) (status : Nat) : Option (Nat × Nat × Bool) :=
  match src with
  | .legacy _ _ => none
  | _ => St.nvme status

/-- Host command `n`, `c` before, has left the chip with a completion of a status and result dword posted where it came from
(R89, R109). -/
def completed (t : State) (n : Nat) (c : HostCmd) (status result : Nat) : Prop :=
  t.cmd n = none ∧ Emit.completion c.src status (nvmeForm c.src status) result ∈ t.sent

/-- The command came from a queue of a host: a legacy tag, an NVMe queue or a fabrics queue pair. -/
def hostSide (c : HostCmd) : Bool :=
  match c.src with
  | .legacy _ _ => true
  | .nvme _ _ _ => true
  | .fabrics _ _ => true
  | _ => false

/-- A host command that may complete: it came from a host's queue, its generation is current (R89), and the Spillway does not run
(R165). -/
def mayComplete (s : State) (n : Nat) (c : HostCmd) : Prop :=
  s.cmd n = some c ∧ hostSide c = true ∧ s.isStale c = false ∧ s.spilling = false

/-- Administrative command `n` of an operation waits on the admin queue of function `f` and may run (R89, R102, R379). -/
def adminReady (s : State) (n : Nat) (c : HostCmd) (f : Nat) (op : HostOp) : Prop :=
  s.cmd n = some c ∧ (∃ cid, c.src = .nvme f 0 cid) ∧ c.stage = .fetched ∧ c.img.op = op ∧ s.stopped = false ∧ s.isStale c = false

/-- A queue pair takes a request packet at once: its port is in service, it is live, and its context is in the cache with nothing
parked and no NAK outstanding (R118, R121 to R123). -/
def takesPacket (s : State) (lport qpn : Nat) (q : Qp) : Prop :=
  s.portTakes lport = true ∧ s.qp qpn = some q ∧ q.destroying = false ∧ (q.state = .rtr ∨ q.state = .rts) ∧ q.nakAt = none
    ∧ q.cached = true ∧ q.writeback = false ∧ q.parked = [] ∧ s.front.seals = []

/-- Fabrics command `n` of an operation waits on queue pair `q` and may run (R133, R379). -/
def fabricsReady (s : State) (n : Nat) (c : HostCmd) (q : Nat) (x : Qp) (op : HostOp) : Prop :=
  s.cmd n = some c ∧ (∃ cid, c.src = .fabrics q cid) ∧ s.qp q = some x ∧ c.stage = .fetched ∧ c.img.op = op ∧ s.stopped = false

/-- A link end that the chip has: module ports 0 to 23, and the Torlux link (R237, R361). -/
def linkOn (k : LinkEnd) : Bool :=
  match k with
  | .module n => decide (n < 24)
  | .torlux => true

/-- A command with a property has been given to a module port: it waits there, or is outstanding under a tag (R244, R245). -/
def asked (t : State) (port : Nat) (P : ModCmd → Prop) : Prop :=
  (∃ c ∈ (t.mlink port).queue, P c) ∨ ∃ tag c, (t.mlink port).tags.find tag = some c ∧ P c

/-- An FTL command has been answered with a status (R298). -/
def ftlAnswered (t : State) (status : Nat) (queued : Bool) : Prop :=
  t.rdN R.FTL_CMD_STATUS = status + 2 ^ 16 + queued.toNat * 2 ^ 17

/-- An SP command has been answered with a status; one that is not queued has ended, with CMD_DONE (R359; that CMD_DONE comes with the
answer is assumption log 32). -/
def spAnswered (t : State) (status : Nat) (queued : Bool) : Prop :=
  t.rdN R.SP_CMD_STATUS = status + 2 ^ 16 + queued.toNat * 2 ^ 17 ∧ (queued = false → t.bit (R.PG_EVENT 141) 0 = true)

/-- A record built in some stride has been given to the Torlux link: it waits there, or has been sent (R365 to R367). -/
def given (t : State) (r : TlRec) : Prop := ∃ n, (n, r) ∈ t.tandem.tlWait ∨ Emit.tl r (r.image n) ∈ t.sent

/-- A TD command has been answered with a status (R399). -/
def tdAnswered (t : State) (status : Nat) (queued : Bool) : Prop :=
  t.rdN R.TD_CMD_STATUS = status + 2 ^ 16 + queued.toNat * 2 ^ 17

/-- An RP command has been answered with a status (R400). -/
def rpAnswered (t : State) (status : Nat) : Prop := t.rdN R.RP_CMD_STATUS = status + 2 ^ 16

/-- The head of `t` has fenced itself (R379). -/
def fencedOff (t : State) : Prop :=
  t.tandem.fencing = true ∧ t.bit R.RN_STATUS 4 = false ∧ t.bit R.STR_STATUS 3 = false ∧ t.rd R.CHIP_INJ_EN = 0
    ∧ t.guard.noRemount = true ∧ t.svc.staging = none

/-- The head takes over: it is SOLE, asserts FENCE_OUT, notes the loss, and has raised each paddock that it did not hold at every
module of ARB_SET where it was not the holder (R374, R380). -/
def survives (s t : State) : Prop :=
  t.role = roleSole ∧ t.bit R.RN_STATUS 5 = true ∧ t.rd64 R.TD_LOST_AT = s.now ∧ t.rd R.TD_TAKEOVERS = incSat (s.rd R.TD_TAKEOVERS)
    ∧ t.bit (R.PG_EVENT 153) 1 = true ∧ t.tandem.transfer = none
    ∧ ∀ q ∈ s.padsOut, { paddock := q, start := s.now, applied := false } ∈ t.tandem.takeovers
      ∧ ∀ m ∈ s.arbSet, s.holderAt q m ≠ some s.headId →
          ∃ r : Raise, t.tandem.raises.find (epKey q m) = some r ∧ r.st = .waiting ∧ r.asked = s.epochOf q m + 1 ∧ r.toOther = false

/-- A message that carries a MAC of TYPE `typ` comes by an enabled path for session `x` of index `i`: its source and its MAC are the
session's (R490, R494). -/
def mysynFrom (s : State) (m : MysynMsg) (typ i : Nat) (x : Session) : Prop :=
  s.svcPath m = true ∧ (s.svc.sessions.first fun _ y => decide (y.id = m.session)) = some (i, x) ∧ x.source = m.source
    ∧ m.mac = mysynMac x.key (mysynHead typ 0 m.session m.seq m.payload.length 0 ++ m.payload)

/-- A request of TYPE `typ` is the next of its authenticated session (R494, R495). -/
def mysynNext (s : State) (m : MysynMsg) (typ i : Nat) (x : Session) : Prop :=
  mysynFrom s m typ i x ∧ x.authed = true ∧ m.seq = x.lastSeq + 1

/-- A request runs: the next of its session, on a head that is neither stopped nor in recovery mode (R503, R523). -/
def mysynRuns (s : State) (m : MysynMsg) (typ i : Nat) (x : Session) : Prop :=
  mysynNext s m typ i x ∧ s.power.stopped = false ∧ s.recovery = false

/-- A request of session `x` has been answered with a status and a payload (R490, R491). -/
def replied (t : State) (m : MysynMsg) (x : Session) (typ status : Nat) (payload : List Byte) : Prop :=
  Emit.mysyn m.source (mysynResponse (some x.key) typ x.id m.seq status payload) ∈ t.sent

/-- The head has taken a reset of a type (R520): the bring-up is due, the ring is empty, the sessions are gone, and the calendar, the
studbook, the slots of the boot devices, the spill band and what was sent are as they were. -/
def hasReset (s t : State) (typ : Nat) : Prop :=
  t.power.bringup = true ∧ t.fld R.CHIP_RST_STATUS 0 3 = typ ∧ t.cist.parts = [] ∧ t.svc.sessions = [] ∧ t.calSec = s.calSec
    ∧ t.cist.bandOwn = s.cist.bandOwn ∧ t.pending = s.pending ∧ t.rd64 R.PWR_STRIDES = s.rd64 R.PWR_STRIDES

end Sys2Proof.Safety
end

