-- ==== Sys2Proof/Certificates/Slice0/Obligations.lean ====
section
/-! DEFINITION. The statements for the provers: what the commands of the XG7240 do, by the rules of spec/. -/

open Sys2Proof Sys2Proof.Machine Sys2Proof.Safety

/-- A step takes the command at the front of the queue and answers what exec answers on the state with the queue's rest (the model's form of a
step); on an empty queue the block idles (the model's choice, assumption log 9). -/
def Obligations.StepRunsFrontCommand : Prop :=
  (∀ (c : Instr) (rest : List Instr) (s : State), s.pending = c :: rest → step s = exec c { s with pending := rest })
  ∧ (∀ s : State, s.pending = [] → step s = .next s)

/-- No command stops the block with a fault or a refusal: the chip captures, places on the ladder or answers every error and goes on (R53,
R54, R71), so every command answers a next state, in every state, and leaves the queue as it is. -/
def Obligations.EveryCommandAnswers : Prop :=
  ∀ (c : Instr) (s : State), answers c s fun t => t.pending = s.pending

/-- From every state as many steps as commands wait succeed, and leave the queue empty (the queue is the model's, assumption log 9). -/
def Obligations.QueueDrains : Prop :=
  ∀ s : State, ∃ t, core.run s.pending.length s = .next t ∧ t.pending = []

/-- The register file keeps its canonical form (register numbers strictly rising, none listed at its reset value) through every step, from
every state that has it; so equal register files are equal data. The form is the model's own. -/
def Obligations.RegisterFileStaysCanonical : Prop :=
  ∀ s t : State, canonical s.regs = true → step s = .next t → canonical t.regs = true

/-- Right after reset every register reads its reset value, the register file lists nothing, nothing is queued or sent, and the bring-up is
due. Among the values that the spec gives: the stride number 0 and SYNC_STATE LOCAL (R48), 251 pages (R72), every PG_EVENT_EN 0xF0000000
and every page OFF but the spare slots CORE88 to CORE95 and CAM16, which are SPARE (R52, R58), Chip and Service pages enabled (R546),
every group armed, and each page routed to the group of its domain (R72, R73). -/
def Obligations.ResetLeavesResetValues : Prop :=
  canonical State.reset.regs = true ∧ (∀ k, State.reset.rd k = resetOf k) ∧ State.reset.pending = [] ∧ State.reset.sent = []
  ∧ State.reset.shadow = [] ∧ State.reset.power.bringup = true ∧ State.reset.now = 0 ∧ State.reset.sync = 0
  ∧ State.reset.rdN R.CHIP_PG_COUNT = 251 ∧ State.reset.rd64 R.EVT_ARM = BitVec.allOnes 64
  ∧ (∀ p, p < 251 → State.reset.rd (R.PG_EVENT_EN p) = 0xF0000000
    ∧ State.reset.pageState p = (if p = 111 ∨ 243 ≤ p then .spare else .off)
    ∧ State.reset.rdN (R.PG_CTRL p) = (if p < 12 then 1 else 0)
    ∧ State.reset.route p = fld (resetOf (R.PG_IDENT p)) 24 8)

/-- Frame of every command: a register whose name the table Frames.writes does not give the command reads after it what it read before. -/
def Obligations.CommandsWriteListedRegistersOnly : Prop :=
  ∀ (c : Instr) (s : State), answers c s fun t => ∀ k, (∀ r ∈ Frames.writes c, ¬ r.has k) → t.rd k = s.rd k

/-- Frame of every command: a part of State beside the register file that the table Frames.parts does not give the command is after it what it
was before. -/
def Obligations.CommandsChangeListedPartsOnly : Prop :=
  ∀ (c : Instr) (s : State), answers c s fun t => ∀ p, p ∉ Frames.parts c → p.same s t

/-- OVERRUN counts the overrun, shows block, instance and excess in STR_OVR_LAST, sets OVERRUN and captures the NOTE in the page that overran
(R27); OVERRUN_REPEAT places L2 once the instance has overrun in 8 strides in a row and does nothing before (R28). A write of 1 to
COMMIT_GATE that is late frees the gated commits, clears the gate and sets COMMIT_LATE; one in time closes the gate; a write of 0 frees
the gated commits without COMMIT_LATE (R38). -/
def Obligations.OverrunsAndGate : Prop :=
  (∀ (p unit clk : Nat) (s : State), p < 251 → unit < 256 → answers (.overrun p unit clk) s fun t =>
    t.rd R.STR_OVR_COUNT = incSat (s.rd R.STR_OVR_COUNT)
    ∧ t.fld R.STR_OVR_LAST 16 16 = fld (resetOf (R.PG_IDENT p)) 16 16
    ∧ t.fld R.STR_OVR_LAST 8 8 = fld (resetOf (R.PG_IDENT p)) 8 8
    ∧ t.fld R.STR_OVR_LAST 0 8 = min (max 1 ((clk + 15) / 16)) 255
    ∧ t.bit (R.PG_EVENT 1) 0 = true ∧ captured s t p 0x0006 0 unit)
  ∧ (∀ (p unit : Nat) (s : State), unit < 256 → answers (.overrunRepeat p unit) s fun t =>
    (∀ last n, s.clock.ovrRun.find (ovrKey p unit) = some (last, n) → 8 ≤ n → captured s t p 0x0005 2 unit)
    ∧ ((∀ last n, s.clock.ovrRun.find (ovrKey p unit) = some (last, n) → n < 8) → t = s))
  ∧ (∀ s : State, answers .commitGateSet s fun t =>
    if s.rd64 R.STR_COMMIT_AT ≤ s.now then
      t.bit R.STR_CTRL 0 = false ∧ t.pages.gated = [] ∧ t.bit (R.PG_EVENT 1) 3 = true
    else t.bit R.STR_CTRL 0 = true ∧ t.pages.gated = s.pages.gated ∧ t.rd (R.PG_EVENT 1) = s.rd (R.PG_EVENT 1))
  ∧ (∀ s : State, answers .commitGateClear s fun t =>
    t.bit R.STR_CTRL 0 = false ∧ t.pages.gated = [] ∧ t.rd (R.PG_EVENT 1) = s.rd (R.PG_EVENT 1))

/-- STRIDE_SYNC_EDGE, SYNC_EDGE_LOST, SYNC_LOCKED, MASTER_TAKE, ACQUIRE_TIMEOUT and STRIDE_ADOPT move SYNC_STATE as the rows of R35 say, with
the event of the row; a master takes no edge; a correction is at most 1 ns (R34); adoption takes the partner's number, so many strides on
as have passed (R31). STR_OFFSET shows the offset in steps of 100 ps (R48). That a fenced head takes no mastership is R33. -/
def Obligations.PhaseLockFollowsTheTable : Prop :=
  (∀ (raw : Int) (s : State), answers (.strideSyncEdge raw) s fun t =>
    let off : Int := raw - (s.fld R.STR_SKEW 0 16 : Nat)
    if s.isMaster then t = s
    else
      (∃ x : Int, x % 100 = 0 ∧ off - 100 < x ∧ x < off + 100 ∧ t.rd R.STR_OFFSET = BitVec.ofInt 32 x)
      ∧ (s.sync = syncLocal → t.sync = syncAcquire)
      ∧ (s.sync = syncAcquire → t.sync = syncAcquire)
      ∧ (s.sync = syncSlew → t.sync = syncSlew)
      ∧ (s.sync = syncLocked → -20000 ≤ off ∧ off ≤ 20000 → t.sync = syncLocked)
      ∧ (s.sync = syncLocked → ¬(-20000 ≤ off ∧ off ≤ 20000) → t.sync = syncSlew ∧ t.bit (R.PG_EVENT 1) 1 = true)
      ∧ (s.sync = syncHoldover → t.sync = syncSlew)
      ∧ -1000 ≤ t.clock.phase - s.clock.phase ∧ t.clock.phase - s.clock.phase ≤ 1000)
  ∧ (∀ s : State, answers .syncEdgeLost s fun t =>
    if s.sync = syncSlew ∨ s.sync = syncLocked then t.sync = syncHoldover ∧ t.bit (R.PG_EVENT 1) 5 = true ∧ t.now = s.now
    else t = s)
  ∧ (∀ s : State, answers .syncLocked s fun t =>
    if s.sync = syncSlew ∧ 64 ≤ s.clock.inBand then t.sync = syncLocked ∧ t.bit (R.PG_EVENT 1) 2 = true else t = s)
  ∧ (∀ s : State, answers .masterTake s fun t =>
    if s.isMaster = false ∧ s.pageState 153 ≠ .fenced
        ∧ (s.sync = syncLocal ∧ (s.bit R.CHIP_HEAD 0 = false ∨ s.clock.partnerLost = true)
          ∨ s.sync = syncHoldover ∧ s.clock.partnerLost = true) then
      t.isMaster = true ∧ t.sync = syncLocal ∧ t.rd R.STR_OFFSET = 0
    else t = s)
  ∧ (∀ s : State, answers .acquireTimeout s fun t =>
    if s.sync = syncAcquire then t.sync = syncLocal ∧ t.rd R.STR_OFFSET = 0 else t = s)
  ∧ (∀ s : State, answers .strideAdopt s fun t =>
    ∀ num own, s.clock.adopt = some (num, own) → s.sync = syncAcquire →
      t.now = num + (s.now - own) ∧ t.sync = syncSlew ∧ t.bit (R.PG_EVENT 1) 4 = true)

/-- CAL_TICK counts the tick or ticks that the trim accumulator gives, carrying 32,768 ticks into a second (R39, R40), and after a stop
restarts both counts from 0 (R41). CAL_SET leaves SET reading 1 until the commit point. OSC_STOPPED and VAON_BOTH_LOST set OSC_STOPPED and
clear VALID (R41); the loss of both feeds also zeroes the trim (R40). VAON_ONE_LOST and VAON_FEED_RETURN show each feed (R518). -/
def Obligations.CalendarRunsIsSetAndStops : Prop :=
  (∀ s : State, answers .calTick s fun t =>
    if s.clock.oscStopped then t.calSec = 0 ∧ t.rd R.CAL_SUBSEC = 0 ∧ t.clock.oscStopped = false
    else
      let acc : Int := s.clock.trimAcc + sgn16 (s.rdN R.CAL_TRIM)
      let n : Nat := if 1000000000 ≤ acc then 2 else if acc ≤ -1000000000 then 0 else 1
      t.clock.trimAcc = acc - 1000000000 * ((n : Int) - 1)
      ∧ t.calSec = (s.calSec + (s.rdN R.CAL_SUBSEC + n) / 32768) % 2 ^ 48
      ∧ t.rdN R.CAL_SUBSEC = (s.rdN R.CAL_SUBSEC + n) % 32768)
  ∧ (∀ s : State, answers .calSet s fun t => t.bit R.CAL_CTRL 0 = true ∧ t.calSec = s.calSec)
  ∧ (∀ s : State, answers .oscStopped s fun t =>
    t.bit R.CAL_STATUS 1 = true ∧ t.bit R.CAL_STATUS 0 = false ∧ t.bit (R.PG_EVENT 2) 1 = true ∧ t.calSec = s.calSec)
  ∧ (∀ s : State, answers .vaonBothLost s fun t =>
    t.bit R.CAL_STATUS 1 = true ∧ t.bit R.CAL_STATUS 0 = false ∧ t.bit (R.PG_EVENT 2) 1 = true
    ∧ t.rd R.CAL_TRIM = 0 ∧ t.clock.trimAcc = 0 ∧ t.fld R.CHIP_RST_STATUS 4 2 = 0 ∧ t.bit (R.PG_EVENT 0) 3 = true)
  ∧ (∀ (b : Bool) (s : State), answers (.vaonOneLost b) s fun t =>
    if s.bit R.CHIP_RST_STATUS (4 + b.toNat) then
      t.bit R.CHIP_RST_STATUS (4 + b.toNat) = false ∧ t.bit (R.PG_EVENT 0) 3 = true ∧ captured s t 0 0x0100 1 0
    else t = s)
  ∧ (∀ (b : Bool) (s : State), answers (.vaonFeedReturn b) s fun t => t.bit R.CHIP_RST_STATUS (4 + b.toNat) = true)

/-- At each seconds rollover CAL_AT_STRIDE takes the current stride number and CAL_AT_CLK the engine clock within that stride (R42). -/
def Obligations.SecondsRolloverIsLatched : Prop :=
  ∀ (clk : Nat) (s : State), clk < 6400 → answers (.calSecondRollover clk) s fun t =>
    t.rd64 R.CAL_AT_STRIDE = s.now ∧ t.rdN R.CAL_AT_CLK = clk

/-- TEMP_BAND_COUNT counts one second in the band of the reading by the 5 degC steps of R44 and keeps the highest reading (R43). A save takes
the slot after the one last written, and a SEQ one more, and the live counters (R45, R46); asked for by LIFE_CTRL.SAVE, the bit reads 1
until both devices are written. Its end puts the image of the slot on both devices, shows SLOT where one was written, and sets SAVED where
both were, or SAVE_FAILED with an L2 fault (R49). The code of that fault is a free value (assumption log 3), so only its level is stated. -/
def Obligations.LifetimeCountersCountAndAreSaved : Prop :=
  (∀ (q : Int) (s : State), -32768 ≤ q → q < 32768 → answers (.tempBandCount q) s fun t =>
    (∃ b, b ≤ 31 ∧ t.rd (R.TEMP_BAND b) = incSat (s.rd (R.TEMP_BAND b)) ∧ (b = 0 ↔ q < -20 * 4) ∧ (b = 31 ↔ 130 * 4 ≤ q)
      ∧ (1 ≤ b → b ≤ 30 → (-20 + 5 * ((b : Int) - 1)) * 4 ≤ q ∧ q < (-15 + 5 * ((b : Int) - 1)) * 4))
    ∧ sgn16 (t.rdN R.TJ_MAX_SEEN) = max q (sgn16 (s.rdN R.TJ_MAX_SEEN)))
  ∧ (∀ s : State, answers .lifeSaveHourly s fun t =>
    ∃ x, t.clock.lifeSave = some x ∧ (∀ y, s.clock.lifeSave = some y → x = y)
      ∧ (s.clock.lifeSave = none → x.2 = s.lifeSlot x.2.seq
        ∧ ∀ i l, newerLife (bestLife s.clock.lifeA) (bestLife s.clock.lifeB) = some (i, l) → x.1 = (i + 1) % 1024 ∧ x.2.seq = l.seq + 1))
  ∧ (∀ s : State, answers .lifeCtrlSave s fun t => t.bit R.LIFE_CTRL 0 = true ∧ t.clock.lifeSave.isSome = true)
  ∧ (∀ (okA okB : Bool) (s : State) (i : Nat) (x : LifeSlot), s.clock.lifeSave = some (i, x) → i < 1024 →
    answers (.lifeSaveDone okA okB) s fun t =>
      t.bit R.LIFE_CTRL 0 = false
      ∧ t.fld R.LIFE_STATUS 16 10 = (if okA || okB then i else s.fld R.LIFE_STATUS 16 10)
      ∧ (okA = true → okB = true → t.clock.lifeSave = none ∧ t.clock.lifeA = s.clock.lifeA.put i x.image
          ∧ t.clock.lifeB = s.clock.lifeB.put i x.image ∧ t.bit (R.PG_EVENT 3) 0 = true)
      ∧ ((okA && okB) = false → t.bit (R.PG_EVENT 3) 1 = true ∧ ∃ code, captured s t 3 code 2 0))

/-- REGISTER_WRITE puts an RW register in force at once, clears the W1C bits written 1, holds an RWS register in its shadow (R16), and on a
page in SPARE or RETIRED is discarded with WRITE_DISCARDED (R63); the _LO half of a pair waits, and HI_REGISTER_WRITE puts both halves in
force (R15). RC_REGISTER_READ returns the count and clears it; LO_REGISTER_READ returns the lower half and latches the upper, and
CAL_SEC_LO latches CAL_SUBSEC with it (R15, R16, R47). An 8-byte access aligned to an _LO reads the pair at once or writes both halves;
any other size or alignment is discarded, reads all ones and captures ACCESS_SIZE in CHIP_ID (R53). UNMAPPED returns zero and captures
UNMAPPED (R54). The mask bit of an MSI-X entry holds its message in the pending bit array until it is cleared (R74; that a register write
reaches the table entry is PRESUMED). Registers that stand for their access code are named: PG_EVENT_EN, PG_EVENT, RD_RA_CFG, CAL_SET,
PG_ERR_COUNT, STR_NUM, CAL_SEC. -/
def Obligations.RegisterAccessesFollowTheirCodes : Prop :=
  (∀ (p : Nat) (v : Word) (s : State), p < 251 → answers (.registerWrite (.bar (R.PG_EVENT_EN p)) v) s fun t => t.rd (R.PG_EVENT_EN p) = v)
  ∧ (∀ (p : Nat) (v : Word) (s : State), p < 251 → answers (.registerWrite (.bar (R.PG_EVENT p)) v) s fun t =>
    t.rd (R.PG_EVENT p) = s.rd (R.PG_EVENT p) &&& ~~~v)
  ∧ (∀ (v : Word) (s : State), answers (.registerWrite (.bar R.RD_RA_THRESH) v) s fun t =>
    t.rd R.RD_RA_THRESH = s.rd R.RD_RA_THRESH
    ∧ (if s.refuses 94 then captured s t 94 0x0004 0 0 ∧ t.shadow = s.shadow
      else fld (t.rdShadow R.RD_RA_THRESH) 0 8 = fld v 0 8))
  ∧ (∀ (off : Nat) (v : Word) (s : State), pageAt off = none → off % 4 = 0 →
    answers (.registerWrite (.bar off) v) s fun t => captured s t 0 0x0003 0 0)
  ∧ (∀ (off : Nat) (v : Word) (s : State), off % 4 ≠ 0 →
    answers (.registerWrite (.bar off) v) s fun t => captured s t 0 0x0002 0 0)
  ∧ (∀ (f o : Nat) (v : Word) (s : State), s.fnState f = fnAbsent → answers (.registerWrite (.window f o) v) s fun t => t = s)
  ∧ (∀ (v : Word) (s : State), s.refuses 2 = false → answers (.registerWrite (.bar R.CAL_SET) v) s fun t =>
    t.rd64 R.CAL_SET = s.rd64 R.CAL_SET ∧ t.loPend.find R.CAL_SET = some v)
  ∧ (∀ (lo v : Word) (s : State), s.refuses 2 = false → s.loPend.find R.CAL_SET = some lo →
    answers (.hiRegisterWrite (R.CAL_SET + 4) v) s fun t => t.rd64 R.CAL_SET = pair lo v)
  ∧ (∀ (p : Nat) (s : State), p < 251 → answers (.rcRegisterRead (R.PG_ERR_COUNT p)) s fun t =>
    t.sent = .regRead (R.PG_ERR_COUNT p) (s.rdShadow (R.PG_ERR_COUNT p)).toNat :: s.sent ∧ t.rd (R.PG_ERR_COUNT p) = 0)
  ∧ (∀ s : State, answers (.loRegisterRead R.STR_NUM) s fun t =>
    t.sent = .regRead R.STR_NUM (s.rdShadow R.STR_NUM).toNat :: s.sent ∧ t.busRead (R.STR_NUM + 4) = s.rdShadow (R.STR_NUM + 4))
  ∧ (∀ s : State, answers (.loRegisterRead R.CAL_SEC) s fun t =>
    t.busRead (R.CAL_SEC + 4) = s.rdShadow (R.CAL_SEC + 4) ∧ t.busRead R.CAL_SUBSEC = s.rd R.CAL_SUBSEC)
  ∧ (∀ (off size : Nat) (w : Option DWord) (s : State), accessOk off size = false → answers (.accessSize off size w) s fun t =>
    captured s t 0 0x0002 0 0 ∧ (w = none → Emit.regRead off (2 ^ (8 * size) - 1) ∈ t.sent))
  ∧ (∀ s : State, answers (.accessSize R.CAL_AT_STRIDE 8 none) s fun t =>
    Emit.regRead R.CAL_AT_STRIDE (pair (s.rdShadow R.CAL_AT_STRIDE) (s.rdShadow (R.CAL_AT_STRIDE + 4))).toNat ∈ t.sent ∧ t.regs = s.regs)
  ∧ (∀ (d : DWord) (s : State), s.refuses 2 = false → answers (.accessSize R.CAL_SET 8 (some d)) s fun t => t.rd64 R.CAL_SET = d)
  ∧ (∀ (off : Nat) (w : Bool) (s : State), off % 4 = 0 → answers (.unmapped off w) s fun t =>
    captured s t 0 0x0003 0 0 ∧ (w = false → Emit.regRead off 0 ∈ t.sent))
  ∧ (∀ (f v : Nat) (w : Word) (s : State), answers (.registerWrite (.msix f v) w) s fun t =>
    t.regs = s.regs ∧ (fld w 0 1 = 1 → (f, v) ∈ t.front.msixMask) ∧ (fld w 0 1 = 0 → (f, v) ∉ t.front.msixMask
      ∧ ((f, v) ∈ s.front.msixPend → t.sent = .msix f v :: s.sent ∧ (f, v) ∉ t.front.msixPend)))

/-- On a page in SPARE or RETIRED each control write is discarded and WRITE_DISCARDED is captured, PG_CTRL unchanged (R63). On any other page
PG_ENABLE, PG_DISABLE, PG_FREEZE and PG_UNFREEZE write their bit; PG_SOFT_RESET sets SOFT_RESET while FROZEN = 1 and BUSY = 0 and is
discarded with WRITE_DISCARDED at any other time (R65); PG_COMMIT sets COMMIT and COMMIT_PENDING, gated while COMMIT_GATE = 1 (R18, R37).
ERR_REARM clears the whole capture with PG_ERR_STRIDE, on any page (R63, R69). EVT_ARM arms the groups written 1 (R72). -/
def Obligations.PageControlBitsAreWritten : Prop :=
  (∀ (p : Nat) (c : Instr) (s : State), s.refuses p = true → c ∈ [.pgEnable p, .pgDisable p, .pgSoftReset p, .pgFreeze p, .pgUnfreeze p, .pgCommit p] →
    answers c s fun t => captured s t p 0x0004 0 0 ∧ t.rd (R.PG_CTRL p) = s.rd (R.PG_CTRL p) ∧ t.pages = s.pages)
  ∧ (∀ (p : Nat) (s : State), s.refuses p = false →
    (answers (.pgEnable p) s fun t => t.bit (R.PG_CTRL p) 0 = true)
    ∧ (answers (.pgDisable p) s fun t => t.bit (R.PG_CTRL p) 0 = false)
    ∧ (answers (.pgFreeze p) s fun t => t.bit (R.PG_CTRL p) 2 = true)
    ∧ (answers (.pgUnfreeze p) s fun t => t.bit (R.PG_CTRL p) 2 = false)
    ∧ (answers (.pgSoftReset p) s fun t =>
      if s.bit (R.PG_STATE p) 10 = true ∧ s.busy p = false then t.bit (R.PG_CTRL p) 1 = true
      else captured s t p 0x0004 0 0 ∧ t.rd (R.PG_CTRL p) = s.rd (R.PG_CTRL p)))
  ∧ (∀ (p : Nat) (s : State), p < 251 → s.refuses p = false → answers (.pgCommit p) s fun t =>
      t.bit (R.PG_CTRL p) 3 = true ∧ t.bit (R.PG_STATE p) 9 = true ∧ t.shadow = s.shadow
      ∧ (if s.bit R.STR_CTRL 0 then p ∈ t.pages.gated else t.pages.gated = s.pages.gated))
  ∧ (∀ (p : Nat) (s : State), p < 251 → answers (.errRearm p) s fun t =>
    t.rd (R.PG_ERR_FIRST p) = 0 ∧ t.rd64 (R.PG_ERR_STRIDE p) = 0 ∧ t.rd (R.PG_ERR_COUNT p) = s.rd (R.PG_ERR_COUNT p))
  ∧ (∀ (m : DWord) (s : State), answers (.evtArm m) s fun t => t.rd64 R.EVT_ARM = s.rd64 R.EVT_ARM ||| m)

/-- A write of 1 to a PG_EVENT_FORCE bit sets the matching PG_EVENT bit and does nothing else: no fault, no capture, no other state (R61). A
page in SPARE or RETIRED takes no such write (R63). -/
def Obligations.EventForceSetsEventBitsOnly : Prop :=
  (∀ (p : Nat) (m : Word) (s : State), s.refuses p = false → answers (.pgEventForce p m) s fun t =>
    t.rd (R.PG_EVENT p) = s.rd (R.PG_EVENT p) ||| m ∧ (∀ k, k ≠ R.PG_EVENT p → t.rd k = s.rd k) ∧ t = { s with regs := t.regs })
  ∧ (∀ (p : Nat) (m : Word) (s : State), s.refuses p = true → answers (.pgEventForce p m) s fun t => captured s t p 0x0004 0 0)

/-- A page in INIT that INIT_COMPLETE names enters RUN at the next commit point, with BUSY = 0 and STATE_CHANGED; any other page keeps its
state (R62). INIT_FAIL and INIT_TIMEOUT capture an error of level 3 in a page in INIT and do nothing else; the code of a timeout is a free
value (assumption log 3). An ETH page whose mode left a queue pair on a port that is gone fails in this way when it has initialised
(R111). A disabled page without started work that PAGE_DRAINED names goes OFF at the next commit point. PAGE_PARITY captures PARITY at
level 2 (R57). -/
def Obligations.PageStatesFollowTheTable : Prop :=
  (∀ (p : Nat) (s : State), answers (.initComplete p) s fun t =>
    (s.pageState p = .init → p ∈ t.pages.ready) ∧ (s.pageState p ≠ .init → t = s) ∧ t.regs = s.regs)
  ∧ (∀ (p : Nat) (s : State), p < 251 → p ∈ s.pages.ready → s.pages.drained = [] → s.pageState p = .init
      → (p < 13 ∨ p - 13 ∉ s.front.modeStray) →
    s.pagesMove.pageState p = .run ∧ s.pagesMove.bit (R.PG_STATE p) 8 = false ∧ s.pagesMove.bit (R.PG_EVENT p) 30 = true)
  ∧ (∀ (p : Nat) (s : State), p < 251 →
    (s.pageState p = .init → 13 ≤ p → p - 13 ∈ s.front.modeStray → ∃ code, captured s (s.initComplete p) p code 3 0)
    ∧ (s.pageState p ≠ .init → (s.initComplete p).pageState p = s.pageState p))
  ∧ (∀ (p code sub : Nat) (s : State), p < 251 → answers (.initFail p code sub) s fun t =>
    if s.pageState p = .init then captured s t p code 3 sub else t = s)
  ∧ (∀ (p : Nat) (s : State), p < 251 → answers (.initTimeout p) s fun t =>
    if s.pageState p = .init then ∃ code, captured s t p code 3 0 else t = s)
  ∧ (∀ (p : Nat) (s : State), answers (.pageDrained p) s fun t =>
    (s.mayGoOff p = true → p ∈ t.pages.drained) ∧ (s.mayGoOff p = false → t = s) ∧ t.regs = s.regs)
  ∧ (∀ (p : Nat) (s : State), p < 251 → s.pages.ready = [] → p ∈ s.pages.drained → s.mayGoOff p = true →
    s.pagesMove.pageState p = .off ∧ s.pagesMove.bit (R.PG_STATE p) 8 = false ∧ s.pagesMove.bit (R.PG_EVENT p) 30 = true)
  ∧ (∀ (p : Nat) (s : State), p < 251 → answers (.pageParity p) s fun t => captured s t p 0x0001 2 0)

/-- Writing 0x494E4A31 to CHIP_INJ_EN makes it read 1, any other value makes it read 0 (R72); only the change from cleared to set writes a
record, the INJ_ENABLED record (R76), which the studbook takes while it is not full. INJECT_ARM sets ARM with the fields written,
INJECT_DISARM clears PG_INJECT, and a write with ARM = 0 writes the fields alone; while injection is not enabled both are discarded with
WRITE_DISCARDED, and on a page without HAS_INJECT both do nothing (R76). -/
def Obligations.InjectionIsEnabledArmedAndDisarmed : Prop :=
  (∀ (v : Word) (s : State), answers (.chipInjEn v) s fun t =>
    (v ≠ 0x494E4A31 → t.rd R.CHIP_INJ_EN = 0 ∧ t.stud = s.stud)
    ∧ (v = 0x494E4A31 → s.bit R.CHIP_INJ_EN 0 = true → t = s)
    ∧ (v = 0x494E4A31 → s.bit R.CHIP_INJ_EN 0 = false → s.stud.full = true → t.rd R.CHIP_INJ_EN = 1)
    ∧ (v = 0x494E4A31 → s.bit R.CHIP_INJ_EN 0 = false → s.stud.full = false → recStart s.stud.endOff 32 + 32 ≤ stbLimit →
        t.rd R.CHIP_INJ_EN = 1 ∧ ∃ r, t.stud.recs = s.stud.recs ++ [r] ∧ r.typ = 0x0008 ∧ r.stride = s.now))
  ∧ (∀ (p : Nat) (w : Word) (s : State), p < 251 → s.refuses p = false → answers (.injectArm p w) s fun t =>
    if hasInject p = false then t = s
    else if s.bit R.CHIP_INJ_EN 0 then t.bit (R.PG_INJECT p) 0 = true ∧ t.fld (R.PG_INJECT p) 8 24 = fld w 8 24 ∧ t.fld (R.PG_INJECT p) 1 2 = fld w 1 2
    else captured s t p 0x0004 0 0 ∧ t.rd (R.PG_INJECT p) = s.rd (R.PG_INJECT p))
  ∧ (∀ (p : Nat) (v : Word) (s : State), p < 251 → s.refuses p = false → hasInject p = true → s.bit R.CHIP_INJ_EN 0 = true → v ≠ 0 →
    answers (.registerWrite (.bar (R.PG_INJECT p)) v) s fun t =>
      t.fld (R.PG_INJECT p) 8 24 = fld v 8 24 ∧ t.fld (R.PG_INJECT p) 1 2 = fld v 1 2
      ∧ t.bit (R.PG_INJECT p) 0 = (bit v 0 || s.bit (R.PG_INJECT p) 0))
  ∧ (∀ (p : Nat) (s : State), p < 251 → s.refuses p = false → answers (.injectDisarm p) s fun t =>
    if hasInject p = false then t = s
    else if s.bit R.CHIP_INJ_EN 0 then t.rd (R.PG_INJECT p) = 0
    else captured s t p 0x0004 0 0 ∧ t.rd (R.PG_INJECT p) = s.rd (R.PG_INJECT p))

/-- A write of FN_CMD while BUSY = 1 is discarded and captures CMD_WHILE_BUSY; otherwise it sets BUSY and takes the creation registers as they
are (R85, R87). The part of the commit point that applies it (State.fnCmdApply) clears BUSY, shows the status of the checks, sets
CMD_DONE, and does nothing more on a refusal. An accepted CREATE gives the function its quotas, Weir MIN and MAX and vectors, makes it
ACTIVE and increments GEN; RESIZE changes the quotas; RESET makes it RESETTING and DESTROY REMOVING, each with a new GEN; ATTACH adds the
namespace; DETACH makes it invisible; REPLY copies FN_REPLY into the MBOX and sets REPLY (R87, R88, R90, R91). -/
def Obligations.FunctionCommandsAreTakenAndApplied : Prop :=
  (∀ (gen : Nat) (s : State), ∀ p ∈ [(Instr.fnCreate gen, 1), (.fnDestroy gen, 2), (.fnResize gen, 3), (.fnReset gen, 4), (.fnAttach gen, 5),
      (.fnDetach gen, 6), (.fnReply gen, 7)],
    answers p.1 s fun t =>
      if s.bit R.FN_CMD_STATUS 16 then captured s t 12 0x0100 0 0 ∧ t.front = s.front
      else t.bit R.FN_CMD_STATUS 16 = true ∧ ∃ c, t.front = { s.front with fnCmd := some c } ∧ c.op = p.2 ∧ c.gen = gen % 65536
        ∧ c.fn = s.fld R.FN_SEL 0 8 ∧ c.legacy = s.bit R.FN_MODE 0 ∧ c.qp = s.fld R.FN_QP_QUOTA 0 13 ∧ c.cist = s.fld R.FN_CISTERN_QUOTA 0 16
        ∧ c.wmin = s.rd R.FN_WEIR_MIN ∧ c.wmax = s.rd R.FN_WEIR_MAX ∧ c.msix = s.fld R.FN_MSIX 0 12 ∧ c.vol = s.fld R.FN_VOL 0 24
        ∧ c.nsid = s.fld R.FN_NSID 0 9)
  ∧ (∀ (s : State) (c : FnCmd), s.front.fnCmd = some c → s.fnCheck c ≠ St.success →
    s.fnCmdApply.rdN R.FN_CMD_STATUS = s.fnCheck c ∧ s.fnCmdApply.bit (R.PG_EVENT 12) 0 = true ∧ s.fnCmdApply.front.fnCmd = none
    ∧ (∀ f, s.fnCmdApply.fnState f = s.fnState f ∧ s.fnCmdApply.fnGen f = s.fnGen f))
  ∧ (∀ (s : State) (c : FnCmd), s.front.fnCmd = some c → s.fnCheck c = St.success → c.fn < 249 →
    ∀ t, t = s.fnCmdApply →
      t.rd R.FN_CMD_STATUS = 0 ∧ t.bit (R.PG_EVENT 12) 0 = true ∧ t.front.fnCmd = none
      ∧ (c.op = 1 ∨ c.op = 3 → (t.fn c.fn).qpQuota = c.qp ∧ (t.fn c.fn).cistQuota = c.cist ∧ (t.fn c.fn).msix = c.msix
          ∧ t.rd (R.WEIR_MIN c.fn) = c.wmin ∧ t.rd (R.WEIR_MAX c.fn) = c.wmax)
      ∧ (c.op = 1 → t.fnState c.fn = fnActive ∧ t.fnGen c.fn = genNext (s.fnGen c.fn) ∧ (t.fn c.fn).legacy = c.legacy)
      ∧ (c.op = 2 → t.fnState c.fn = fnRemoving ∧ t.fnGen c.fn = genNext (s.fnGen c.fn))
      ∧ (c.op = 4 → t.fnState c.fn = fnResetting ∧ t.fnGen c.fn = genNext (s.fnGen c.fn))
      ∧ (c.op = 5 → { nsid := c.nsid, vol := c.vol, detaching := false } ∈ (t.fn c.fn).ns)
      ∧ (c.op = 6 → ∀ a ∈ (t.fn c.fn).ns, a.nsid = c.nsid → a.detaching = true)
      ∧ (c.op = 7 → (∀ i, i < 64 → t.win c.fn (0xF000 + 4 * i) = c.reply.getD i 0) ∧ bit (t.win c.fn 0xF100) 1 = true))

/-- PCIE_FLR is counted and, like CC.EN 1 to 0, asks for a function-level reset of an ACTIVE function at the next commit point, or after the
FNMGR command that is BUSY for it (R90). The reset (State.startReset) makes the function RESETTING, increments GEN and abandons the
commands of the function, but for reads and forwarded commands whose discarded actions are still to come (R89); no legacy tag stays in
flight; FN_RESET_DONE returns it to ACTIVE with FLR_DONE. CC.EN 0 to 1 enables the controller (R82; where CC and CSTS stand is assumption
log 7). SRIOV_NUMVFS_CHANGE exposes VFs as DISABLED and drops or removes the others; FN_REMOVAL_DONE returns quotas, detaches namespaces,
sets REMOVED and leaves DISABLED or ABSENT (R91); DETACH_NSID_FREE frees the NSID (R87). -/
def Obligations.FunctionsResetLeaveAndReturn : Prop :=
  (∀ (f : Nat) (s : State), f < 249 → answers (.pcieFlr f) s fun t =>
    t.rd R.PCIE_FLR = incSat (s.rd R.PCIE_FLR)
    ∧ (s.front.fnCmd = none → s.fnState f = fnActive → (t.fn f).resetReq = true)
    ∧ (∀ c, s.front.fnCmd = some c → c.fn = f → (t.fn f).flrWait = true ∧ (t.fn f).resetReq = (s.fn f).resetReq)
    ∧ (s.front.fnCmd = none → s.fnState f ≠ fnActive → t.front = s.front))
  ∧ (∀ (f : Nat) (s : State), f < 249 → bit (s.win f 0x014) 0 = true → (s.fn f).legacy = false → answers (.nvmeCcEnClear f) s fun t =>
    bit (t.win f 0x014) 0 = false ∧ (s.front.fnCmd = none → s.fnState f = fnActive → (t.fn f).resetReq = true))
  ∧ (∀ (f : Nat) (s : State), f < 249 → s.fnState f = fnActive → (s.fn f).legacy = false → answers (.nvmeCcEnSet f) s fun t =>
    bit (t.win f 0x014) 0 = true ∧ bit (t.win f 0x01C) 0 = true ∧ (t.fn f).sqs.has 0 = true ∧ (t.fn f).cqs.has 0 = true)
  ∧ (∀ (f : Nat) (s : State), f < 249 → s.fnState f = fnActive →
    (s.startReset f).fnState f = fnResetting ∧ (s.startReset f).fnGen f = genNext (s.fnGen f)
    ∧ ((s.fn f).legacy = true → (s.startReset f).win f lqIssue = 0 ∧ (s.startReset f).win f lqAbort = 0)
    ∧ (s.spilling = false → ∀ n c, (s.startReset f).cmd n = some c → c.src.fn = some f → s.cmd n = some c ∧ c.goesOn = true))
  ∧ (∀ (f : Nat) (s : State), f < 249 → answers (.fnResetDone f) s fun t =>
    if s.fnState f = fnResetting then t.fnState f = fnActive ∧ t.bit (R.PG_EVENT 12) 2 = true ∧ t.fnGen f = s.fnGen f else t = s)
  ∧ (∀ (n : Nat) (enable : Bool) (s : State), answers (.sriovNumvfsChange n enable) s fun t =>
    ∀ f, 1 ≤ f → f ≤ 248 →
      (enable = true ∧ f ≤ n → s.fnState f = fnAbsent → t.fnState f = fnDisabled ∧ (t.fn f).exposed = true)
      ∧ (¬(enable = true ∧ f ≤ n) → s.fnState f = fnDisabled → t.fnState f = fnAbsent)
      ∧ (¬(enable = true ∧ f ≤ n) → s.fnState f = fnActive ∨ s.fnState f = fnResetting → (t.fn f).removeReq = some true ∧ t.fnState f = s.fnState f))
  ∧ (∀ (f : Nat) (start : DWord) (gone : Bool) (s : State), f < 249 → (s.fn f).leave = .removal start gone → s.fnState f = fnRemoving →
    (∀ p ∈ s.front.cmds, p.2.src.fn ≠ some f) → answers (.fnRemovalDone f) s fun t =>
      t.fnState f = (if gone then fnAbsent else fnDisabled) ∧ t.bit (R.PG_EVENT 12) 4 = true ∧ (t.fn f).ns = [] ∧ (t.fn f).cistQuota = 0
      ∧ t.rd R.POOL_QP_FREE = BitVec.ofNat 32 (s.rdN R.POOL_QP_FREE + (s.fn f).qpQuota))
  ∧ (∀ (f nsid : Nat) (s : State), (∀ p ∈ s.front.cmds, ¬(p.2.src.fn = some f ∧ p.2.img.nsid = nsid ∧ p.2.vol ≠ none)) →
    answers (.detachNsidFree f nsid) s fun t =>
      (∀ a ∈ (t.fn f).ns, ¬(a.nsid = nsid ∧ a.detaching = true)) ∧ (∀ a ∈ (s.fn f).ns, ¬(a.nsid = nsid ∧ a.detaching = true) → a ∈ (t.fn f).ns))

/-- MBOX_WRITE takes a word, or is discarded while RING = 1; MBOX_RING sets RING, the MGMT_DB_PEND bit and MGMT_DOORBELL; MGMT_DB_TAKE clears
the bits written 1 and the RING of each function (R83). NVMe doorbells move tail and head, and an I/O doorbell in PS3 asks for the last
operational state (R82, R106). LQ_ISSUE puts tags in flight and clears their DONE bits while ENABLE and READY are 1; a tag block in flight
is not written and sets TAG_WRITE_DISCARDED (R96), and the pairs TG_LBA and TG_BUF take effect when their _HI half is written (R15);
LQ_ABORT completes an unadmitted tag with ABORTED_BY_HOST and LQ_RESET makes RESET read 1 (R99). -/
def Obligations.MailboxesDoorbellsAndLegacyTags : Prop :=
  (∀ (f i : Nat) (w : Word) (s : State), answers (.mboxWrite f i w) s fun t =>
    if s.fnState f = fnAbsent ∨ bit (s.win f 0xF100) 0 = true then t = s else t.win f (0xF000 + 4 * (i % 64)) = w)
  ∧ (∀ (f : Nat) (s : State), f < 249 → s.fnState f ≠ fnAbsent → answers (.mboxRing f) s fun t =>
    bit (t.win f 0xF100) 0 = true ∧ t.bit (R.MGMT_DB_PEND (f / 32)) (f % 32) = true ∧ t.bit (R.PG_EVENT 12) 1 = true)
  ∧ (∀ (i : Nat) (m : Word) (s : State), answers (.mgmtDbTake i m) s fun t =>
    t.rd (R.MGMT_DB_PEND i) = s.rd (R.MGMT_DB_PEND i) &&& ~~~m
    ∧ ∀ b, b < 32 → bit m b = true → s.bit (R.MGMT_DB_PEND i) b = true → bit (t.win (32 * i + b) 0xF100) 0 = false)
  ∧ (∀ (f qid tail : Nat) (q : SubQ) (s : State), (s.fn f).sqs.find qid = some q → tail < q.size → answers (.nvmeSqDoorbell f qid tail) s fun t =>
    (t.fn f).sqs.find qid = some { q with tail := tail } ∧ (qid ≠ 0 → (s.fn f).ps = 3 → (t.fn f).psNext = some (s.fn f).psOper))
  ∧ (∀ (f qid head : Nat) (q : CplQ) (s : State), (s.fn f).cqs.find qid = some q → head < q.size → answers (.nvmeCqDoorbell f qid head) s fun t =>
    (t.fn f).cqs.find qid = some { q with head := head })
  ∧ (∀ (f : Nat) (m : Word) (s : State), s.hasLq f = true → answers (.lqIssue f m) s fun t =>
    if bit (s.win f lqCtrl) 0 = true ∧ bit (s.win f lqStatus) 0 = true then
      ∀ k, k < 32 → t.inFlight f k = (s.inFlight f k || bit m k)
        ∧ bit (t.win f lqDone) k = (bit (s.win f lqDone) k && (s.inFlight f k || !bit m k))
    else t = s)
  ∧ (∀ (f k i : Nat) (v : Word) (s : State), s.hasLq f = true → k < 32 → i < 7 → answers (.lqTagWrite f k i v) s fun t =>
    let o := 0x100 + 32 * k + 4 * i
    if s.inFlight f k then bit (t.win f lqStatus) 2 = true ∧ t.win f o = s.win f o
    else if i = 1 ∨ i = 4 then t.win f o = s.win f o ∧ t.front.winLo.find (winKey f o) = some v
    else t.win f o = v &&& tagMask o ∧ (i = 2 ∨ i = 5 → t.win f (o - 4) = (s.front.winLo.find (winKey f (o - 4))).getD (s.win f (o - 4))))
  ∧ (∀ (f k : Nat) (s : State), s.hasLq f = true → k < 32 → s.inFlight f k = true →
    (∀ n c, s.tagCmd f k = some (n, c) → c.stage = .fetched ∧ mayComplete s n c) → answers (.lqAbort f (BitVec.ofNat 32 (2 ^ k))) s fun t =>
      t.win f (0x11C + 32 * k) = BitVec.ofNat 32 St.abortedByHost ∧ bit (t.win f lqDone) k = true ∧ t.inFlight f k = false
      ∧ Emit.completion (.legacy f k) St.abortedByHost none 0 ∈ t.sent)
  ∧ (∀ (f : Nat) (s : State), s.hasLq f = true → answers (.lqReset f) s fun t => bit (t.win f lqCtrl) 2 = true)

/-- CMD_FETCH of a legacy tag or a submission queue entry makes a waiting command that has latched its function's GEN (R88), or completes an
opcode the queue does not support with INVALID_OPCODE (R98, R102). WEIR_ADMIT of a command whose turn it is among its function's queues,
in fetch order within its queue, and whose subject's balance is at least 1 (with, for a Read, a Basin slot for each grain) admits it and
subtracts the charge (R92, R222); a Flush is not charged. A command that nothing takes within 25,000 strides completes with BUSY_RETRY
(R108, R222). BASIN_SLOT_FREE returns slots of fabrics reads (R222). -/
def Obligations.CommandsAreFetchedAndAdmitted : Prop :=
  (∀ (f k : Nat) (img : CmdImg) (s : State), s.stopped = false → s.hasLq f = true → s.fnState f = fnActive → k < 32 → s.inFlight f k = true →
    s.tagCmd f k = none → bit (s.win f lqCtrl) 2 = false → answers (.cmdFetch (.legacy f k) img) s fun t =>
      ∀ i, i = s.lqImg f k img →
        if i.op = .invalid then Emit.completion (.legacy f k) St.invalidOpcode none 0 ∈ t.sent
        else ∃ c, t.cmd s.front.nextCmd = some c ∧ c.src = .legacy f k ∧ c.gen = s.fnGen f ∧ c.img = i ∧ c.stage = .fetched ∧ c.fetchedAt = s.now
          ∧ c.subject = f ∧ c.vol = s.nsVol f i.nsid)
  ∧ (∀ (f qid cid : Nat) (q : SubQ) (img : CmdImg) (s : State), s.stopped = false → s.fnState f = fnActive → (s.fn f).legacy = false →
    (s.fn f).sqs.find qid = some q → q.head ≠ q.tail → (qid ≠ 0 → (s.fn f).ps ≠ 3) → answers (.cmdFetch (.nvme f qid cid) img) s fun t =>
      (t.fn f).sqs.find qid = some { q with head := (q.head + 1) % max q.size 1 }
      ∧ if (if qid = 0 then img.op.isAdmin else img.op.isIo) = true then
          ∃ c, t.cmd s.front.nextCmd = some c ∧ c.src = .nvme f qid cid ∧ c.gen = s.fnGen f ∧ c.img = img ∧ c.stage = .fetched
            ∧ c.fetchedAt = s.now ∧ c.subject = f ∧ c.vol = s.nsVol f img.nsid
        else Emit.completion (.nvme f qid cid) St.invalidOpcode (St.nvme St.invalidOpcode) 0 ∈ t.sent)
  ∧ (∀ (n lo : Nat) (miss bad : List Nat) (c : HostCmd) (s : State), s.cmd n = some c → c.stage = .fetched → c.img.op.weirClass = some lo →
    s.stopped = false → s.behind n c = false → s.notItsTurn n c = false → 1 ≤ s.weirBal c.subject lo → s.weirHeld lo = false →
    (lo = wRd → s.camHeld 0 = false) → s.weirCharge c ≤ 256 →
    (c.img.op = .read → (grainSpan (s.cmdFormat c) c.img.slba c.img.blocks).2 ≤ s.rdN R.RD_BASIN_FREE) → answers (.weirAdmit n miss bad) s fun t =>
      t.weirBal c.subject lo = s.weirBal c.subject lo - (s.weirCharge c : Int)
      ∧ ∃ c', t.cmd n = some c' ∧ c'.stage = .admitted ∧ c'.admittedAt = s.now ∧ c'.admitNo = s.front.nextAdm ∧ c'.img = c.img ∧ c'.src = c.src)
  ∧ (∀ (n lo : Nat) (miss bad : List Nat) (c : HostCmd) (s : State), s.cmd n = some c → c.img.op.weirClass = some lo →
    (s.weirBal c.subject lo < 1 ∨ s.behind n c = true ∨ s.notItsTurn n c = true) → answers (.weirAdmit n miss bad) s fun t => t = s)
  ∧ (∀ (n : Nat) (c : HostCmd) (s : State), s.cmd n = some c → c.stage = .fetched → c.img.op = .flush → s.stopped = false → s.behind n c = false →
    s.notItsTurn n c = false → answers (.weirAdmit n [] []) s fun t => t.regs = s.regs ∧ ∃ c', t.cmd n = some c' ∧ c'.stage = .admitted)
  ∧ (∀ (n : Nat) (c : HostCmd) (s : State), mayComplete s n c → c.stage = .fetched ∨ c.stage = .admitted → c.img.op.weirClass = some wWr →
    (∀ p ∈ s.partsOf n, p.2.lock = .streaming) → c.committed = 0 → 25000 ≤ s.since c.fetchedAt → answers (.ingestTimeout n) s fun t =>
      completed t n c St.busyRetry 0 ∧ t.rd R.ING_BUSY_RETRY = incSat (s.rd R.ING_BUSY_RETRY) ∧ t.bit (R.PG_EVENT 88) 0 = true)
  ∧ (∀ (n : Nat) (c : HostCmd) (s : State), mayComplete s n c → c.stage = .fetched → c.img.op = .read → 25000 ≤ s.since c.fetchedAt →
    answers (.basinWaitTimeout n) s fun t => completed t n c St.busyRetry 0)
  ∧ (∀ (k : Nat) (s : State), s.rdN R.RD_BASIN_FREE + k ≤ 16384 → k ≤ s.front.rdmaSlots → answers (.basinSlotFree k) s fun t =>
    t.rdN R.RD_BASIN_FREE = s.rdN R.RD_BASIN_FREE + k ∧ t.front.rdmaSlots = s.front.rdmaSlots - k)

/-- An admitted host command on a volume of this head that passes its checks is taken: a write-class command with its space charge (R141,
R143), a read with its grains (R221, R223). One that fails a check completes with the status of the first check that fails (R141), one
that fails check 6 with that status. A stale command is dropped with no completion; its completion queue entry, and its message where the
queue interrupts, are counted (R89). A Flush completes SUCCESS at the next commit point (State.finishApply; R98, R103), after a power
state that Set Features asked for has taken effect (State.psApply; R106). -/
def Obligations.HostCommandsAreCheckedAndTaken : Prop :=
  (∀ (n : Nat) (c : HostCmd) (s : State), c.stage = .admitted →
    ∀ p ∈ [(Instr.lqWrite n, HostOp.write, true), (.lqDeallocate n, .dealloc, true), (.lqWriteZeroes n, .writeZeroes, true),
      (.nvmeWrite n, .write, false), (.nvmeDatasetManagement n, .dealloc, false), (.nvmeWriteZeroes n, .writeZeroes, false)],
    c.img.op = p.2.1 → decide (c.src.queue.1 = 0) = p.2.2 →
      (mayComplete s n c → s.checks c ≠ St.success → answers p.1 s fun t => completed t n c (s.checks c) 0)
      ∧ (∀ vn v, s.cmd n = some c → s.isStale c = false → s.checks c = St.success → c.vol = some vn → s.vol vn = some v → s.owns vn = true →
          s.failHeld vn = false → s.spaceCheck v c = St.success → answers p.1 s fun t =>
            ∃ c', t.cmd n = some c' ∧ c'.stage = .checked ∧ c'.img = c.img
              ∧ c'.charged = (if c.img.op = .write then wholeGrains v.format c.img.slba c.img.blocks else 0)
              ∧ t.rd R.ING_CMDS = incSat (s.rd R.ING_CMDS)
              ∧ ∀ q, s.pool v.pool = some q → t.pool v.pool = some { q with charge := q.charge + 64 * c'.charged })
      ∧ (∀ vn v, mayComplete s n c → s.checks c = St.success → c.vol = some vn → s.vol vn = some v → s.owns vn = true →
          s.failHeld vn = false → s.spaceCheck v c ≠ St.success → answers p.1 s fun t => completed t n c (s.spaceCheck v c) 0))
  ∧ (∀ (n : Nat) (c : HostCmd) (s : State), c.stage = .admitted →
    ∀ p ∈ [(Instr.lqRead n, HostOp.read, true), (.lqVerify n, .verify, true), (.nvmeRead n, .read, false), (.nvmeVerify n, .verify, false)],
    c.img.op = p.2.1 → decide (c.src.queue.1 = 0) = p.2.2 → s.halted 94 = false →
      (mayComplete s n c → s.checks c ≠ St.success → answers p.1 s fun t => completed t n c (s.checks c) 0)
      ∧ (∀ vn, s.cmd n = some c → s.isStale c = false → s.checks c = St.success → c.vol = some vn → s.owns vn = true → answers p.1 s fun t =>
            ∃ c', t.cmd n = some c' ∧ c'.stage = .checked ∧ c'.img = c.img
              ∧ c'.reads = (if c.reads = [] then (s.searchRead c vn [] []).2 else c.reads)))
  ∧ (∀ (n f qid cid : Nat) (q : CplQ) (c : HostCmd) (s : State), s.cmd n = some c → c.src = .nvme f qid cid → (s.fn f).cqs.find qid = some q →
    s.isStale c = true → s.spilling = false → c.stage = .admitted → c.img.op = .write → answers (.nvmeWrite n) s fun t =>
      t.cmd n = none ∧ t.sent = s.sent ∧ t.bit (R.PG_EVENT 12) 3 = true
        ∧ t.rd (R.FN_STALE_COUNT f) = (if q.ien then incSat (incSat (s.rd (R.FN_STALE_COUNT f))) else incSat (s.rd (R.FN_STALE_COUNT f))))
  ∧ (∀ (n : Nat) (c : HostCmd) (s : State), s.cmd n = some c → c.img.op = .flush → c.stage = .fetched ∨ c.stage = .admitted →
    (c.src.queue.1 = 0 → answers (.lqFlush n) s fun t => t = s.setCmd n { c with stage := .finishing })
    ∧ (c.src.queue.1 ≠ 0 → answers (.nvmeFlush n) s fun t => t = s.setCmd n { c with stage := .finishing }))
  ∧ (∀ (n : Nat) (c : HostCmd) (s : State), mayComplete s n c → c.stage = .finishing → completed s.finishApply n c St.success 0)
  ∧ (∀ (f p : Nat) (s : State), (s.fn f).psNext = some p → (s.psApply.fn f).ps = p ∧ (s.psApply.fn f).psNext = none)

/-- Queues are created within quota with the identifiers paired, and deleted, the unadmitted commands of a deleted submission queue leaving
(R100, R101, R102, R104); Identify, Get Log Page, Set and Get Features answer as R102 and R103 say; a power state waits for the commit
point (R106); Abort completes a target that the Weir has not admitted, with bit 0 of its own result 0 (R104; the bit is the model's
reading); an Asynchronous Event Request waits, up to 16 of them (R100, R102). -/
def Obligations.AdministrativeCommandsRun : Prop :=
  (∀ (n f : Nat) (c : HostCmd) (s : State), adminReady s n c f .createCq → answers (.nvmeCreateIoCq n) s fun t =>
    if c.img.qid = 0 ∨ (s.fn f).cqs.has c.img.qid = true ∨ (s.fn f).qpQuota ≤ ((s.fn f).cqs.filter fun p => decide (p.1 ≠ 0)).length
        ∨ (s.fn f).qpQuota < c.img.qid ∨ c.img.qsize < 2 ∨ c.img.cdw11 % 2 = 0 ∨ (s.fn f).msix ≤ c.img.cdw11 / 65536 % 65536 then
      completed t n c St.invalidField 0
    else completed t n c St.success 0 ∧ ∃ q, (t.fn f).cqs.find c.img.qid = some q ∧ q.size = c.img.qsize ∧ q.vec = c.img.cdw11 / 65536 % 65536)
  ∧ (∀ (n f : Nat) (c : HostCmd) (s : State), adminReady s n c f .createSq → answers (.nvmeCreateIoSq n) s fun t =>
    if c.img.qid = 0 ∨ (s.fn f).sqs.has c.img.qid = true ∨ (s.fn f).cqs.has c.img.qid = false ∨ c.img.cdw11 / 65536 % 65536 ≠ c.img.qid
        ∨ (s.fn f).qpQuota ≤ (s.fn f).queuePairs ∨ c.img.qsize < 2 ∨ c.img.cdw11 % 2 = 0 then completed t n c St.invalidField 0
    else completed t n c St.success 0 ∧ (t.fn f).sqs.find c.img.qid = some { size := c.img.qsize, tail := 0, head := 0 })
  ∧ (∀ (n f : Nat) (c : HostCmd) (s : State), adminReady s n c f .deleteSq → c.img.qid ≠ 0 → (s.fn f).sqs.has c.img.qid = true →
    answers (.nvmeDeleteIoSq n) s fun t => (t.fn f).sqs.find c.img.qid = none ∧ t.cmd n = none
      ∧ ∀ m x cid, s.cmd m = some x → x.src = .nvme f c.img.qid cid → x.stage = .fetched → t.cmd m = none)
  ∧ (∀ (n f : Nat) (c : HostCmd) (s : State), adminReady s n c f .deleteCq → answers (.nvmeDeleteIoCq n) s fun t =>
    if c.img.qid = 0 ∨ (s.fn f).cqs.has c.img.qid = false ∨ (s.fn f).sqs.has c.img.qid = true then completed t n c St.invalidField 0
    else completed t n c St.success 0 ∧ (t.fn f).cqs.find c.img.qid = none)
  ∧ (∀ (n f : Nat) (c : HostCmd) (s : State), adminReady s n c f .identify → answers (.nvmeIdentify n) s fun t =>
    (c.img.cdw10 % 256 = 1 → completed t n c St.success 0 ∧ Emit.identify c.src 1 (some (s.ctlIdent (.fn f))) none [] ∈ t.sent)
    ∧ (c.img.cdw10 % 256 = 0 → completed t n c St.success 0
        ∧ Emit.identify c.src 0 none ((s.ctlVol (.fn f) c.img.nsid).map fun x => x.2.ident x.1) [] ∈ t.sent)
    ∧ (c.img.cdw10 % 256 = 2 → completed t n c St.success 0 ∧ ∃ l, Emit.identify c.src 2 none none l ∈ t.sent
        ∧ ∀ i, i ∈ l ↔ c.img.nsid < i ∧ ∃ a ∈ (s.fn f).ns, a.nsid = i ∧ a.detaching = false)
    ∧ (c.img.cdw10 % 256 ∉ [0, 1, 2, 3, 5, 6] → completed t n c St.invalidField 0))
  ∧ (∀ (n f : Nat) (c : HostCmd) (s : State), adminReady s n c f .getLog → answers (.nvmeGetLogPage n) s fun t =>
    (c.img.cdw10 % 256 ∈ [1, 2, 3, 5, 12] → completed t n c St.success 0 ∧ ∃ d, Emit.logPage c.src (c.img.cdw10 % 256) d ∈ t.sent)
    ∧ (c.img.cdw10 % 256 = 2 → Emit.logPage c.src 2 (s.smartLog (.fn f)) ∈ t.sent)
    ∧ (c.img.cdw10 % 256 = 1 → Emit.logPage c.src 1 ((s.fn f).errLog.flatMap fun e => [e.1, e.2.1, e.2.2]) ∈ t.sent)
    ∧ (c.img.cdw10 % 256 ∉ [1, 2, 3, 5, 12] → completed t n c St.invalidField 0))
  ∧ (∀ (n f : Nat) (c : HostCmd) (s : State), adminReady s n c f .setFeat → answers (.nvmeSetFeatures n) s fun t =>
    (c.img.cdw10 % 256 ∈ plainFeatures → completed t n c St.success 0 ∧ (t.fn f).feats.find (c.img.cdw10 % 256) = some c.img.cdw11)
    ∧ (c.img.cdw10 % 256 = 7 → completed t n c St.success (queuesResult (s.fn f).qpQuota))
    ∧ (c.img.cdw10 % 256 = 2 → c.img.cdw11 % 32 ≤ 3 → (t.fn f).psNext = some (c.img.cdw11 % 32) ∧ t.cmd n = some { c with stage := .finishing })
    ∧ (c.img.cdw10 % 256 = 2 → 3 < c.img.cdw11 % 32 → completed t n c St.invalidField 0))
  ∧ (∀ (n f : Nat) (c : HostCmd) (s : State), adminReady s n c f .getFeat → answers (.nvmeGetFeatures n) s fun t =>
    (c.img.cdw10 % 256 ∈ plainFeatures → completed t n c St.success ((s.fn f).feats.getD (c.img.cdw10 % 256) 0))
    ∧ (c.img.cdw10 % 256 = 2 → completed t n c St.success (s.fn f).ps)
    ∧ (c.img.cdw10 % 256 ∉ 2 :: 7 :: plainFeatures → completed t n c St.invalidField 0))
  ∧ (∀ (n f : Nat) (c : HostCmd) (s : State), adminReady s n c f .abort → answers (.nvmeAbort n) s fun t =>
    (s.abortTarget (.fn f) c.img = none → completed t n c St.success 1)
    ∧ (∀ m x, s.abortTarget (.fn f) c.img = some (m, x) → x.stage = .fetched → m ≠ n →
        completed t n c St.success 0 ∧ t.cmd m = none ∧ (mayComplete s m x → completed t m x St.abortedByHost 0))
    ∧ (∀ m x, s.abortTarget (.fn f) c.img = some (m, x) → x.stage ≠ .fetched → completed t n c St.success 1))
  ∧ (∀ (n f : Nat) (c : HostCmd) (s : State), adminReady s n c f .aer → answers (.nvmeAsyncEventRequest n) s fun t =>
    if 16 ≤ (s.fn f).aers.length then completed t n c St.invalidField 0
    else t.cmd n = none ∧ (t.fn f).aers = (s.fn f).aers ++ [c.src.cid] ∧ t.sent = s.sent)

/-- A request on a context in the cache is handled by the rule of R125: the expected one is executed and moves HCP, a duplicate inside the
window is acknowledged without placing and counted, one inside it whose bit is not set is acknowledged while no seal stays in progress, an
older one is NAKed and counted, one ahead is NAKed; an atomic request gets NAK Invalid Request (R115), and so does a Read beyond the 128
outstanding (PRESUMED, assumption log 82); a failed key check NAK Remote Access (R126). A packet for a context that is not in the cache is
parked and fetched for, or answered with an RNR NAK when the buffer is full (R121, R123); an unknown QPN is counted (R118). A capsule
becomes a command of subject 256 + TENANT, or an RNR NAK when the pool is empty (R134). A fetch installs the context, or on an
uncorrectable error ends the queue pair (R120, R121); a write-back that ends fetches again for parked packets (R122). -/
def Obligations.PacketsFollowTheDuplicateWindow : Prop :=
  (∀ (lport qpn : Nat) (p : Packet) (q : Qp) (s : State), takesPacket s lport qpn q → p.ecn = false → answers (.roceRequestRx lport qpn p) s fun t =>
    (p.isAtomic = true → t.sent = Emit.rdmaNak qpn p.psn .invalidRequest :: s.sent ∧ t.regs = s.regs)
    ∧ (p.isAtomic = false → p.psn % psnMod = (q.hcp + 1) % psnMod → (p.isRead = true → q.readsIn < readsInMax) →
        ∀ k, p.rkey = some k → s.keyOk q.tenant k p.addr p.len p.isWrite = false →
        Emit.rdmaNak qpn p.psn .remoteAccess ∈ t.sent ∧ t.rd R.RMA_KEY_VIOLATION = incSat (s.rd R.RMA_KEY_VIOLATION)
        ∧ ∃ q', t.qp qpn = some q' ∧ q'.hcp = q.hcp ∧ q'.done = q.done)
    ∧ (p.isAtomic = false → p.isRead = false → p.psn % psnMod = (q.hcp + 1) % psnMod → ∀ k, p.rkey = some k →
        s.keyOk q.tenant k p.addr p.len p.isWrite = true →
        Emit.place qpn p.addr p.len ∈ t.sent ∧ ∃ q', t.qp qpn = some q' ∧ q'.hcp = p.psn % psnMod ∧ q'.done = (q.done <<< 1) ||| 1
          ∧ q'.msn = (q.msn + p.last.toNat) % psnMod ∧ Emit.rdmaAck qpn p.psn q'.msn ∈ t.sent)
    ∧ (p.isAtomic = false → p.isRead = false → p.psn % psnMod ≠ (q.hcp + 1) % psnMod → psnBack q.hcp p.psn < 4096 →
        q.done.getLsbD (psnBack q.hcp p.psn) = true →
        t.sent = Emit.rdmaAck qpn p.psn q.msn :: s.sent ∧ t.rd R.DUP_ACKED = incSat (s.rd R.DUP_ACKED))
    ∧ (p.isAtomic = false → p.isRead = false → p.psn % psnMod ≠ (q.hcp + 1) % psnMod → psnBack q.hcp p.psn < 4096 →
        q.done.getLsbD (psnBack q.hcp p.psn) = false → t.sent = Emit.rdmaAck qpn p.psn q.msn :: s.sent ∧ t.regs = s.regs)
    ∧ (p.isAtomic = false → p.isRead = true → p.psn % psnMod = (q.hcp + 1) % psnMod → readsInMax ≤ q.readsIn →
        t.sent = Emit.rdmaNak qpn p.psn .invalidRequest :: s.sent)
    ∧ (p.isAtomic = false → p.psn % psnMod ≠ (q.hcp + 1) % psnMod → 4096 ≤ psnBack q.hcp p.psn →
        t.sent = Emit.rdmaNak qpn p.psn .sequence :: s.sent
        ∧ t.rd R.SEQ_NAK = (if psnBack q.hcp p.psn < 2 ^ 23 then incSat (s.rd R.SEQ_NAK) else s.rd R.SEQ_NAK)))
  ∧ (∀ (lport qpn : Nat) (p : Packet) (s : State), s.portTakes lport = true → s.qp qpn = none → answers (.roceRequestRx lport qpn p) s fun t =>
    t.rd R.CTX_BAD_QPN = incSat (s.rd R.CTX_BAD_QPN) ∧ t.sent = s.sent)
  ∧ (∀ (lport qpn : Nat) (p : Packet) (q : Qp) (s : State), lport < 16 → s.portTakes lport = true → s.qp qpn = some q → q.destroying = false →
    q.state = .rts → q.nakAt = none → q.cached = false → p.ecn = false → answers (.roceRequestRx lport qpn p) s fun t =>
      if 4194304 < s.rdN (R.ETH_MISS_LEVEL (lport / 2)) + p.bytes then
        Emit.rnrNak qpn ((q.hcp + 1) % psnMod) q.rnrTimer ∈ t.sent
        ∧ t.rd (R.ETH_RNR_SENT (lport / 2)) = incSat (s.rd (R.ETH_RNR_SENT (lport / 2)))
        ∧ ∃ q', t.qp qpn = some q' ∧ q'.parked = q.parked ∧ q'.nakAt = some ((q.hcp + 1) % psnMod)
      else t.sent = s.sent ∧ t.rdN (R.ETH_MISS_LEVEL (lport / 2)) = s.rdN (R.ETH_MISS_LEVEL (lport / 2)) + p.bytes
        ∧ ∃ q', t.qp qpn = some q' ∧ q'.parked = q.parked ++ [(lport, { p with capsule := none, sealImg := none })]
            ∧ (q.writeback = false → q.fetchAt = none → q'.fetchAt = some s.now ∧ t.rd R.CTX_MISS_COUNT = incSat (s.rd R.CTX_MISS_COUNT)))
  ∧ (∀ (lport qpn : Nat) (p : Packet) (c : Capsule) (q : Qp) (s : State), takesPacket s lport qpn q → p.ecn = false → p.inval = none →
    p.psn % psnMod = (q.hcp + 1) % psnMod → answers (.nvmeofCapsuleRx lport qpn p c) s fun t =>
      (p.poolEmpty = true → t.sent = Emit.rnrNak qpn p.psn q.rnrTimer :: s.sent ∧ t.front.cmds = s.front.cmds)
      ∧ (p.poolEmpty = false → s.stopped = false → q.takes c.img.op = true →
          (∃ x, t.cmd s.front.nextCmd = some x ∧ x.src = .fabrics qpn c.cid ∧ x.subject = 256 + q.tenant ∧ x.img = c.img ∧ x.stage = .fetched)
          ∧ ∃ q', t.qp qpn = some q' ∧ q'.hcp = p.psn % psnMod))
  ∧ (∀ (qpn : Nat) (q : Qp) (at_ : DWord) (s : State), s.qp qpn = some q → q.fetchAt = some at_ →
    (q.cached = false → q.parked = [] → s.front.seals = [] → s.since at_ ≤ 3 → (s.ctxSet qpn).length < 16 → answers (.contextFetchDone qpn none) s fun t =>
        ∃ q', t.qp qpn = some q' ∧ q'.cached = true ∧ q'.fetchAt = none ∧ q'.dirty = false)
    ∧ (∀ ch, ch < 8 → answers (.contextFetchDone qpn (some ch)) s fun t =>
        captured s t (142 + ch) 0x0101 2 0 ∧ ∃ q', t.qp qpn = some q' ∧ q'.state = .error ∧ q'.parked = []))
  ∧ (∀ (qpn : Nat) (q : Qp) (s : State), s.qp qpn = some q → q.writeback = true → answers (.contextWritebackDone qpn) s fun t =>
    ∃ q', t.qp qpn = some q' ∧ q'.writeback = false
      ∧ if q.parked = [] then t.regs = s.regs ∧ q'.fetchAt = q.fetchAt
        else q'.fetchAt = some s.now ∧ t.rd R.CTX_MISS_COUNT = incSat (s.rd R.CTX_MISS_COUNT))

/-- An acknowledgement moves the first unacknowledged PSN on (R119); an RNR or sequence NAK, or the timer, uses a retry and sends again from
there, and with none left the queue pair is in Error (R115, R140); any other NAK moves it to Error. CNPs lower the rate a step at a time
and a step is restored while none arrives (R115). A seal in turn is delivered and acknowledged when it may be, and waits otherwise; on a
queue pair of another kind it is answered with NAK Invalid Request (assumption log 84); after 2,500 strides it is answered with NAK Remote
Operational Error (R138; that the refused seal's PSN is spent is assumption log 67). -/
def Obligations.RequestersRetryAndSealsAreOrdered : Prop :=
  (∀ (qpn psn : Nat) (q : Qp) (s : State), s.qp qpn = some q → answers (.roceAckRx qpn psn) s fun t =>
    ∃ q', t.qp qpn = some q' ∧
      if psnBack psn q.unacked < psnBack q.sqPsn q.unacked then
        q'.unacked = (psn + 1) % psnMod ∧ q'.retryLeft = q.retry ∧ q'.rnrLeft = q.rnrRetry ∧ (q.sendq = [] → q'.sqPsn = q.sqPsn)
      else q'.unacked = q.unacked)
  ∧ (∀ (qpn psn : Nat) (q : Qp) (s : State), s.qp qpn = some q → psnBack psn q.unacked < psnBack q.sqPsn q.unacked → psnBack psn q.unacked ≠ 0 →
    (answers (.roceNakRx qpn psn .rnr) s fun t => ∃ q', t.qp qpn = some q' ∧
      if q.rnrRetry = 7 ∨ q.rnrLeft ≠ 0 then
        Emit.resend qpn (psn % psnMod) q.sqPsn ∈ t.sent ∧ q'.unacked = psn % psnMod
        ∧ q'.rnrLeft = (if q.rnrRetry = 7 then q.rnrLeft else q.rnrLeft - 1) ∧ q'.state = q.state
      else q'.state = .error ∧ q'.parked = [])
    ∧ (answers (.roceNakRx qpn psn .sequence) s fun t => ∃ q', t.qp qpn = some q' ∧
      if q.retryLeft ≠ 0 then Emit.resend qpn (psn % psnMod) q.sqPsn ∈ t.sent ∧ q'.retryLeft = q.retryLeft - 1 ∧ q'.state = q.state
      else q'.state = .error ∧ q'.parked = [])
    ∧ (∀ k ∈ [NakKind.invalidRequest, .remoteAccess], answers (.roceNakRx qpn psn k) s fun t => ∃ q', t.qp qpn = some q' ∧ q'.state = .error)
    ∧ (answers (.roceNakRx qpn psn .remoteOperational) s fun t => ∃ q', t.qp qpn = some q' ∧ (q.kind ≠ 4 → q'.state = .error)))
  ∧ (∀ (qpn : Nat) (q : Qp) (s : State), s.qp qpn = some q → answers (.transportAckTimeout qpn) s fun t =>
    if q.held = false then t = s
    else ∃ q', t.qp qpn = some q' ∧
      if q.retryLeft ≠ 0 then Emit.resend qpn q.unacked q.sqPsn ∈ t.sent ∧ q'.retryLeft = q.retryLeft - 1 else q'.state = .error)
  ∧ (∀ (qpn : Nat) (q : Qp) (s : State), s.qp qpn = some q →
    (answers (.cnpRx qpn) s fun t => ∃ q', t.qp qpn = some q' ∧ q'.rateSteps = q.rateSteps + 1)
    ∧ (answers (.cnpRateRestore qpn) s fun t => ∃ q', t.qp qpn = some q' ∧ q'.rateSteps = q.rateSteps - 1))
  ∧ (∀ (lport qpn psn : Nat) (image : List Byte) (q : Qp) (s : State), takesPacket s lport qpn q → s.front.qps.sorted = true → q.kind = 4 →
    psn % psnMod = (q.hcp + 1) % psnMod → answers (.sealRx lport qpn psn image) s fun t =>
      ∀ x : SealMsg, x = { qpn := qpn, psn := psn % psnMod, arrived := s.now, body := SealRec.parse image } →
        if State.sealReady { s with front := { s.front with seals := [x] } } x = true then
          t.front.seals = [] ∧ ∃ q', t.qp qpn = some q' ∧ q'.hcp = psn % psnMod ∧ Emit.rdmaAck qpn (psn % psnMod) q'.msn ∈ t.sent
        else t.front.seals = [x] ∧ t.sent = s.sent)
  ∧ (∀ (lport qpn psn : Nat) (image : List Byte) (q : Qp) (s : State), takesPacket s lport qpn q → q.kind ≠ 4 →
    answers (.sealRx lport qpn psn image) s fun t => t.sent = Emit.rdmaNak qpn psn .invalidRequest :: s.sent)
  ∧ (∀ (qpn : Nat) (x : SealMsg) (q : Qp) (s : State), s.qp qpn = some q → (s.sealsOf qpn).find? (fun x => decide (2500 ≤ s.since x.arrived)) = some x →
    answers (.sealTimeout qpn) s fun t =>
      Emit.rdmaNak qpn x.psn .remoteOperational ∈ t.sent ∧ x ∉ t.front.seals ∧ ∃ q', t.qp qpn = some q' ∧ q'.hcp = x.psn)
  ∧ (∀ (qpn : Nat) (s : State), s.sealsOf qpn = [] → answers (.sealTimeout qpn) s fun t => t = s)

/-- A write of RMA_CMD while BUSY = 1 is discarded and captures CMD_WHILE_BUSY (R129). QP_CREATE makes the queue pair that the argument block
describes and shows its QPN, QP_MODIFY changes STATE, PSNs, timers and retries, QP_DESTROY frees the context, at once or when its parked
packets have left (R124, R129, R130). MR_REG registers and pins a range and shows the key; MR_INVAL changes the key byte at the commit
point and MR_DEREG ends the region, each complete once placement has drained (R127, R128). Datagrams go through the rings (R131). A
refused command changes nothing but the status. -/
def Obligations.RmaCommandsAndRingsWork : Prop :=
  (∀ (s : State) (k : Nat), s.bit R.RMA_CMD_STATUS 16 = true → ∀ c ∈ [Instr.qpCreate k, .qpModify, .qpDestroy, .mrReg k, .mrInval, .mrDereg],
    answers c s fun t => captured s t 21 0x0100 0 0 ∧ t.front = s.front)
  ∧ (∀ (qpn : Nat) (s : State), s.bit R.RMA_CMD_STATUS 16 = false → answers (.qpCreate qpn) s fun t =>
    (s.qpArgsOk = false → t.rdN R.RMA_CMD_STATUS = St.invalidField + 2 ^ 16 ∧ t.front = s.front ∧ t.bit (R.PG_EVENT 21) 0 = true)
    ∧ (s.qpArgsOk = true → s.pageState (ethPage (s.rmaArg 4 1)) ≠ .off → 0 < s.rdN R.CTX_FREE_NET → s.rmaArg 7 1 % 2 = 0 → 2 ≤ qpn → qpn < 2097152 →
        s.front.qps.has qpn = false →
        t.qp qpn = some s.qpOfArgs ∧ t.rdN R.RMA_RESULT = qpn ∧ t.rdN R.CTX_FREE_NET = s.rdN R.CTX_FREE_NET - 1
        ∧ t.rdN R.RMA_CMD_STATUS = 2 ^ 16 ∧ t.bit (R.PG_EVENT 21) 0 = true))
  ∧ (∀ (q : Qp) (s : State), s.bit R.RMA_CMD_STATUS 16 = false → s.liveQp (s.rmaArg 0 4) = some q → s.rmaArg 8 1 ≤ 3 → s.rmaArg 11 1 < 32 →
    s.rmaArg 16 4 < psnMod → s.rmaArg 20 4 < psnMod → s.rmaArg 24 1 < 64 → s.rmaArg 25 1 < 32 → answers .qpModify s fun t =>
      t.qp (s.rmaArg 0 4) = some (q.modified s.qpOfArgs) ∧ t.rdN R.RMA_CMD_STATUS = 2 ^ 16)
  ∧ (∀ (q : Qp) (s : State), s.bit R.RMA_CMD_STATUS 16 = false → s.liveQp (s.rmaArg 0 4) = some q → answers .qpDestroy s fun t =>
    if q.parked = [] then t.qp (s.rmaArg 0 4) = none ∧ t.rdN R.RMA_CMD_STATUS = 2 ^ 16 ∧ t.rdN R.CTX_FREE_NET = min (s.rdN R.CTX_FREE_NET + 1) 1834757
    else t.front.rmaBusy = some (3, s.rmaArg 0 4) ∧ ∃ q', t.qp (s.rmaArg 0 4) = some q' ∧ q'.destroying = true ∧ q'.parked = [])
  ∧ (∀ (k : Nat) (s : State), s.front.rmaBusy = some (3, k) → answers .qpDestroyDone s fun t =>
    t.qp k = none ∧ t.front.rmaBusy = none ∧ t.rd R.RMA_CMD_STATUS = 0 ∧ t.bit (R.PG_EVENT 21) 0 = true)
  ∧ (∀ (i : Nat) (s : State), s.bit R.RMA_CMD_STATUS 16 = false → s.rmaArg 0 8 % 4096 = 0 → s.rmaArg 8 8 % 4096 = 0 → 4096 ≤ s.rmaArg 8 8 →
    s.rmaArg 8 8 ≤ 2 ^ 36 → 1 ≤ s.rmaArg 17 1 → s.rmaArg 17 1 < 4 →
    s.front.mrs.count (fun _ m => m.registered || m.pinned) < 65535 → 1 ≤ i → i ≤ 65535 → (∀ m, s.mr i = some m → m.registered = false ∧ m.pinned = false) →
    answers (.mrReg i) s fun t => (Config.regionAllowance (s.rmaArg 16 1) ≤ s.regionsOf (s.rmaArg 16 1) → t.front.mrs = s.front.mrs
        ∧ t.rdN R.RMA_CMD_STATUS = 2 ^ 16 + St.quota)
      ∧ (s.regionsOf (s.rmaArg 16 1) < Config.regionAllowance (s.rmaArg 16 1) → ∃ m, t.mr i = some m ∧ m.registered = true ∧ m.pinned = true ∧ m.base = s.rmaArg 0 8 ∧ m.len = s.rmaArg 8 8
      ∧ m.tenant = s.rmaArg 16 1 ∧ m.key = ((s.mr i).elim 0 fun o => o.key + 1) % 256 ∧ t.rdN R.RMA_RESULT = i * 256 + m.key))
  ∧ (∀ (i : Nat) (m : Mr) (s : State), s.bit R.RMA_CMD_STATUS 16 = false → s.mrArg = some (i, m) →
    (answers .mrInval s fun t => t.front.rmaBusy = some (5, i) ∧ t.mr i = some { m with rotate := m.rotate + 1 } ∧ t.bit R.RMA_CMD_STATUS 16 = true)
    ∧ (answers .mrDereg s fun t => t.front.rmaBusy = some (6, i) ∧ t.mr i = some { m with registered := false } ∧ t.bit R.RMA_CMD_STATUS 16 = true))
  ∧ (∀ (i : Nat) (m : Mr) (s : State), s.mr i = some m → s.keysRotate.mr i = some { m with key := (m.key + m.rotate) % 256, rotate := 0 })
  ∧ (∀ (i : Nat) (m : Mr) (s : State), s.mr i = some m → answers .mrPlacementDrained s fun t =>
    (s.front.rmaBusy = some (6, i) → t.mr i = some { m with pinned := false } ∧ t.front.rmaBusy = none ∧ t.rd R.RMA_CMD_STATUS = 0)
    ∧ (s.front.rmaBusy = some (5, i) → m.rotate = 0 → t.front.rmaBusy = none ∧ t.rd R.RMA_CMD_STATUS = 0)
    ∧ (s.front.rmaBusy = some (5, i) → m.rotate ≠ 0 → t = s))
  ∧ (∀ (d : Datagram) (bad : List Nat) (s : State), s.portTakes d.lport = true → s.bit (R.FLT_CTRL 2) (d.lport % 16) = false →
    answers (.qp1DatagramRx d bad) s fun t =>
    if (s.fld R.GSI_PROD 0 8 + 1) % 256 = s.fld R.GSI_CONS 0 8 ∨ 4032 < d.payload.length then
      t.rd R.GSI_RX_DROP = incSat (s.rd R.GSI_RX_DROP) ∧ t.rd R.GSI_PROD = s.rd R.GSI_PROD
    else t.rdN R.GSI_PROD = (s.fld R.GSI_PROD 0 8 + 1) % 256 ∧ t.bit (R.PG_EVENT 21) 3 = true
      ∧ t.sent = Emit.hostData ((s.rd64 R.GSI_BASE).toNat + 4096 * s.fld R.GSI_PROD 0 8) (s.gsiEntry d) :: s.sent)
  ∧ (∀ (v : Nat) (s : State), s.refuses 21 = false → answers (.gsiTxProdWrite v) s fun t => t.rdN R.GSI_TX_PROD = v % 256)
  ∧ (∀ (e : TxEntry) (s : State), (s.fld R.GSI_TX_CONS 0 8 + s.front.gsiSent.length) % 256 ≠ s.fld R.GSI_TX_PROD 0 8 → answers (.gsiTxSend e) s fun t =>
    if s.txOk e then t.sent = Emit.gsiSend e.lport e :: s.sent else t.rd R.GSI_TX_BAD = incSat (s.rd R.GSI_TX_BAD) ∧ t.sent = s.sent)
  ∧ (∀ (i : Nat) (s : State), s.front.gsiSent = [(i, false)] → answers (.gsiTxPacketLeft i) s fun t =>
    t.rdN R.GSI_TX_CONS = (s.fld R.GSI_TX_CONS 0 8 + 1) % 256 ∧ t.front.gsiSent = []
    ∧ ((s.fld R.GSI_TX_CONS 0 8 + 1) % 256 = s.fld R.GSI_TX_PROD 0 8 → t.bit (R.PG_EVENT 21) 4 = true))

/-- ETH_MODE is written only while the page is OFF (R111); link changes show in ETH_STATUS and are told at the next commit point (R113);
FEC_DEGRADE, PFC_STORM and received frames set their events, counters and captures; a pause frame holds or lets go the priorities of its
vector that PFC_EN enables, and PAUSED shows whether any is held (R112, R113, R114). That a frame longer than ETH_MTU is dropped and
counted is assumption log 85. Connect makes a controller or adds a queue pair to one; Property Get and Set serve CAP, VS, CC and CSTS
(where they stand is assumption log 7); Disconnect ends the association; KATO expiry moves every queue pair of the controller to Error
(R133). -/
def Obligations.PortsAndFabricsControllers : Prop :=
  (∀ (n : Nat) (v : Word) (s : State), n < 8 → s.refuses (13 + n) = false → answers (.ethModeWrite n v) s fun t =>
    if s.pageState (13 + n) = .off then t.fld (R.ETH_MODE n) 0 2 = fld v 0 2
    else captured s t (13 + n) 0x0004 0 0 ∧ t.rd (R.ETH_MODE n) = s.rd (R.ETH_MODE n))
  ∧ (∀ (p : Nat) (s : State), p < 16 → answers (.ethLinkDown p) s fun t =>
    if s.lportUp p then t.lportUp p = false ∧ t.front.portDue = s.front.portDue ++ [(p, false)] else t = s)
  ∧ (∀ (p : Nat) (s : State), p < 16 → s.lportUp p = false → s.lportExists p = true → s.portTakes p = true → answers (.ethLinkUp p) s fun t =>
    t.lportUp p = true ∧ t.front.portDue = s.front.portDue ++ [(p, true)])
  ∧ (∀ (p : Nat) (up : Bool) (s : State), p < 16 → s.front.portDue = [(p, up)] →
    s.portTell.bit (R.PG_EVENT (ethPage p)) (if up then 0 else 1) = true ∧ s.portTell.front.portDue = [])
  ∧ (∀ (p lane n : Nat) (s : State), p < 16 → lane < 256 → answers (.fecDegrade p lane n) s fun t =>
    t.rd (R.ETH_FEC_UNCORR (p / 2)) = addSat (s.rd (R.ETH_FEC_UNCORR (p / 2))) n
    ∧ (s.fld (R.ETH_FEC_LIMIT (p / 2)) 0 24 < n → t.bit (R.PG_EVENT (13 + p / 2)) 2 = true ∧ captured s t (13 + p / 2) 0x0100 2 lane))
  ∧ (∀ (p : Nat) (s : State), p < 16 → answers (.pfcStorm p) s fun t =>
    t.bit (R.PG_EVENT (ethPage p)) 3 = true ∧ t.rd (R.ETH_STATUS (p / 2)) = s.rd (R.ETH_STATUS (p / 2)))
  ∧ (∀ (p len k : Nat) (s : State), p < 16 → s.portTakes p = true → len ≤ s.fld (R.ETH_MTU (p / 2)) 0 14 →
    (answers (.ethFrameRx p .roce len k) s fun t => t.rd (R.ETH_FEC_CORR (p / 2)) = addSat (s.rd (R.ETH_FEC_CORR (p / 2))) k ∧ t.front = s.front)
    ∧ (answers (.ethFrameRx p .badIcrc len k) s fun t =>
        t.rd (R.ETH_ICRC_ERR (p / 2)) = incSat (s.rd (R.ETH_ICRC_ERR (p / 2))) ∧ captured s t (13 + p / 2) 0x0101 0 (p % 2))
    ∧ (∀ v stop, answers (.ethFrameRx p (.pause v stop) len k) s fun t =>
        ∀ m, m = ((s.front.paused.getD p 0 &&& (255 ^^^ (v % 256))) ||| (v &&& stop)) &&& s.fld (R.ETH_PRIO (p / 2)) 0 8 →
          t.front.paused.getD p 0 = m ∧ t.bit (R.ETH_STATUS (p / 2)) 2 = (decide (m ≠ 0) || decide (s.front.paused.getD (p ^^^ 1) 0 ≠ 0)))
    ∧ (answers (.ethFrameRx p .other len k) s fun t => t.rd (R.ETH_RX_OTHER (p / 2)) = incSat (s.rd (R.ETH_RX_OTHER (p / 2)))))
  ∧ (∀ (p len k : Nat) (f : EthFrame) (s : State), p < 16 → s.portTakes p = true → s.fld (R.ETH_MTU (p / 2)) 0 14 < len →
    answers (.ethFrameRx p f len k) s fun t => t.rd (R.ETH_RX_OTHER (p / 2)) = incSat (s.rd (R.ETH_RX_OTHER (p / 2))) ∧ t.front = s.front)
  ∧ (∀ (n ctrl qid sqsize kato q : Nat) (ns : List NsAtt) (c : HostCmd) (x : Qp) (s : State), fabricsReady s n c q x .connect →
    answers (.fabricsConnect n ctrl qid sqsize kato ns) s fun t =>
      (1024 ≤ sqsize ∨ (s.ctrlOf q).isSome = true → completed t n c St.invalidField 0)
      ∧ (sqsize < 1024 → s.ctrlOf q = none → x.kind = 2 → qid = 0 → s.front.ctrls.has ctrl = false → completed t n c St.success ctrl
          ∧ ∃ k, t.ctrl ctrl = some k ∧ k.adminQpn = q ∧ k.ioQpns = [] ∧ k.ns = ns ∧ k.kato = kato)
      ∧ (∀ k, sqsize < 1024 → s.ctrlOf q = none → x.kind = 1 → qid ≠ 0 → s.ctrl ctrl = some k → k.ioQpns.length < 4096 →
          completed t n c St.success ctrl ∧ ∃ k', t.ctrl ctrl = some k' ∧ k'.ioQpns = k.ioQpns ++ [q]))
  ∧ (∀ (n q k off value : Nat) (c : HostCmd) (x : Qp) (y : Ctrl) (s : State), s.ctrlOf q = some (k, y) → s.ctrl k = some y →
    (fabricsReady s n c q x .propGet → answers (.fabricsPropertyGet n off) s fun t =>
      completed t n c (if off ∈ [propCap, propVs, propCc, propCsts] then St.success else St.invalidField)
        (if off = propCap then nvmeCap 0x03FF else if off = propVs then 0x00020000
         else if off = propCc ∨ off = propCsts then y.props.getD off 0 else 0))
    ∧ (fabricsReady s n c q x .propSet → answers (.fabricsPropertySet n propCc value) s fun t =>
        completed t n c St.success 0 ∧ ∃ y', t.ctrl k = some y' ∧ y'.props.find propCc = some (value % 2 ^ 32) ∧ y'.props.find propCsts = some (value % 2))
    ∧ (fabricsReady s n c q x .disconnect → answers (.fabricsDisconnect n) s fun t =>
        completed t n c St.success 0 ∧ if y.adminQpn = q then t.ctrl k = none else ∃ y', t.ctrl k = some y' ∧ q ∉ y'.ioQpns))
  ∧ (∀ (k : Nat) (y : Ctrl) (s : State), s.ctrl k = some y → answers (.katoExpired k) s fun t =>
    ∀ q x, q = y.adminQpn ∨ q ∈ y.ioQpns → t.qp q = some x → x.state = .error ∧ x.parked = [])

/-- With no lock in the way a part takes the next CSEQ, its lock and its place (R144, R145, R146); with one it waits (R146). Data of its next
grain is taken; a grain that fails its protection information discards the part, and its command is counted once (R141, R157, R169). Once
all grains have arrived the entry takes its room in the ring and its lock becomes HELD, or COMMITTED on a head that is SOLO; without room
it stalls (R149, R156). A lock that the in-flight search misses, or a unit of bad parity that it meets, changes none of this (R184, R185);
an armed injection is left to its own rule. A probe's answer goes to its grain, and one later than 8 strides after seal is discarded and
counted (R201, R202). -/
def Obligations.WritesAreLockedGatheredAndSealed : Prop :=
  (∀ (n loc vn : Nat) (miss bad : List Nat) (c : HostCmd) (v : Vol) (s : State), s.cmd n = some c → c.vol = some vn → s.vol vn = some v → c.stage = .checked →
    c.img.op.weirClass = some wWr → c.granted < c.parts → s.spilling = false → s.earlierWaits n vn c = false → s.held vn = false →
    s.quotaRoom c (partRange v.format c.img.slba c.img.blocks c.granted).2 = true → s.cist.stalled = [] → s.paced v.pool = false →
    s.cist.parts.length < 131072 → loc < 131072 → (s.camAt loc).st = 0 → s.bit R.CHIP_INJ_EN 0 = false →
    s.camHeld 0 = false → s.halted 88 = false → answers (.rangeLockGrant n loc miss bad) s fun t =>
      if s.blocked vn (partRange v.format c.img.slba c.img.blocks c.granted).1 (partRange v.format c.img.slba c.img.blocks c.granted).2 then
        t.cist.parts = s.cist.parts ∧ t.rd64 R.CIST_CSEQ = s.rd64 R.CIST_CSEQ ∧ (c.waited = false → t.rd R.ING_LOCK_WAITS = incSat (s.rd R.ING_LOCK_WAITS))
      else
        t.rd64 R.CIST_CSEQ = s.rd64 R.CIST_CSEQ + 1 ∧ (t.camAt loc).st = 1
        ∧ (∃ p, t.part ((s.rd64 R.CIST_CSEQ).toNat + 1) = some p ∧ p.lock = .streaming ∧ p.cmd = some n ∧ p.vol = vn ∧ p.part = c.granted
            ∧ (p.first, p.count) = partRange v.format c.img.slba c.img.blocks c.granted ∧ (t.camAt loc).key = p.key)
        ∧ ∃ c', t.cmd n = some c' ∧ c'.granted = c.granted + 1)
  ∧ (∀ (q n after unit : Nat) (units : List Nat) (data : List Byte) (pi : List (Nat × Nat × Nat)) (p : Part) (c : HostCmd) (s : State), s.part q = some p →
    p.cmd = some n → s.cmd n = some c → p.lock = .streaming → c.img.op = .write → p.grains.length < p.count →
    data.length = (maskBits (sectorsPerGrain p.format) (sectorMask p.format c.img.slba c.img.blocks (p.first + p.grains.length))).length
      * sectorBytes p.format →
    s.reductionHeld (s.policy p.vol)
      (decide (sectorMask p.format c.img.slba c.img.blocks (p.first + p.grains.length) = 2 ^ sectorsPerGrain p.format - 1)) = false →
    (hasPi p.format = false → s.bit R.CHIP_INJ_EN 0 = false → answers (.dataArrive q data pi after unit 0 units) s fun t =>
        ∃ p' x, t.part q = some p' ∧ p'.grains = p.grains ++ [x] ∧ x.mask = sectorMask p.format c.img.slba c.img.blocks (p.first + p.grains.length))
    ∧ (hasPi p.format = true → c.img.pract = false →
        grainPi c.img p.format p.piType (p.first + p.grains.length)
          (sectorMask p.format c.img.slba c.img.blocks (p.first + p.grains.length)) data pi ≠ 0 → answers (.dataArrive q data pi after unit 0 units) s fun t =>
        t.part q = none ∧ t.rd R.ING_PI_ERR = (if c.piFailed then s.rd R.ING_PI_ERR else incSat (s.rd R.ING_PI_ERR))))
  ∧ (∀ (q : Nat) (p : Part) (s : State), s.part q = some p → p.lock = .streaming → p.grains.length = p.count → s.spilling = false →
    answers (.entrySeal q) s fun t =>
      match s.ringRoom p.entryLen with
      | none => t.part q = some p ∧ q ∈ t.cist.stalled
      | some o => t.cist.head = (o + p.entryLen) % max s.ringSize 1
          ∧ ∃ p', t.part q = some p' ∧ p'.off = some o ∧ p'.len = p.entryLen ∧ p'.lock = (if s.bit R.CIST_STATUS 1 then .committed else .held))
  ∧ (∀ (q i : Nat) (errs : List (Nat × Nat)) (p : Part) (g : Grain) (at_ : DWord) (s : State), s.part q = some p → p.grains[i]? = some g → g.probe = .waiting at_ →
    (8 < s.since at_ → s.halted 91 = false → ∀ c ∈ [Instr.probeAnswer q i errs, .probeDeadline q i], answers c s fun t =>
        t.rd R.DD_LATE = incSat (s.rd R.DD_LATE) ∧ t.part q = some (p.setGrain i { g with probe := .miss }) ∧ t.cam.late = true)
    ∧ (s.since at_ ≤ 8 → (answers (.probeDeadline q i) s fun t => t = s)
        ∧ (s.halted 91 = false → bucketOk (withErrors (s.bucket (s.bucketOf g.digest)).image errs) = true → answers (.probeAnswer q i errs) s fun t =>
          t.part q = some (p.setGrain i { g with probe := (s.probe (s.poolOf p.vol) q i g).2 }))))

/-- MIRROR_WRITE and RESYNC_DATA put the entry in the mirror half if it passes its CRCs (R152, R386); MIRROR_ACK moves the lock from HELD to
COMMITTED; a NAK has the entry sent again, its wait going on; MIRROR_RELEASE frees mirror entries (R152). An entry that waits 64 strides
is sent once more with MIRROR_TIMEOUT at L1 and MIRROR_UP clear (R153). DESTAGE_ENTRY of the next entry, read from the DRAM here or at the
partner (R335), whose grains find their places (destageAll) gives it its map transaction (R160); an open stripe with a FUA grain is padded
and closed when its wait is over (R155). -/
def Obligations.EntriesAreMirroredAndDestaged : Prop :=
  (∀ (off : Nat) (image : List Byte) (s : State), s.spilling = false → ∀ c ∈ [Instr.tlMirrorWrite off image, .tlResyncData off image],
    answers c s fun t =>
      if entryOk image then t.cist.mirror.find (entryCseq image) = some { readEntry image with off := some off } else t.cist.mirror = s.cist.mirror)
  ∧ (∀ (q : Nat) (p : Part) (s : State), s.spilling = false → s.part q = some p → p.lock = .held → answers (.tlMirrorAck q) s fun t =>
    ∃ p', t.part q = some p' ∧ p'.lock = .committed)
  ∧ (∀ (q : Nat) (p : Part) (s : State), s.spilling = false → s.part q = some p → p.off ≠ none → answers (.tlMirrorNak q) s fun t =>
    t.cist = s.cist ∧ (s.tlActive = true → s.bit R.CIST_STATUS 1 = false → t = s.tlSend (s.mirrorRec q p)))
  ∧ (∀ (l : List Nat) (s : State), s.spilling = false → answers (.tlMirrorRelease l) s fun t =>
    (∀ q ∈ l, t.cist.mirror.find q = none) ∧ (∀ q, q ∉ l → t.cist.mirror.find q = s.cist.mirror.find q) ∧ t.cist.parts = s.cist.parts)
  ∧ (∀ (q : Nat) (p : Part) (s : State), s.part q = some p → answers (.mirrorTimeout q) s fun t =>
    if p.lock = .held ∧ p.resent = false ∧ 64 ≤ s.since p.sentAt ∧ s.spilling = false then
      t.part q = some { p with resent := true } ∧ t.bit R.CIST_STATUS 0 = false ∧ captured s t 89 0x0100 1 0
    else t = s)
  ∧ (∀ (q after : Nat) (own mir : List (Nat × Nat)) (bad : List (Nat × Bool)) (places rest rest' : List (List Place)) (p : Part)
      (copy : Option Part) (s s0 s1 s2 s3 : State) (ops : List MapOp), s.part q = some p →
    p.waiting = true → s.earlierEntry q p = false → s.awaitsProbe p = false → s.behindCut q p = false → s.tailFull = false → s.spilling = false →
    s.mutedModules = false → s.halted 89 = false → s.halted 141 = false → (s.role = roleSole ∨ s.role = roleTandem) →
    s.mergedRoom (p.merges.length + if p.merges.length = 0 then 0 else after) = true →
    s.destageRead q p own mir = (s0, copy) → s0.mergedCheck p.merges.length bad = (s1, true) → s1.repackAll (s.poolOf p.vol) places = (s2, rest) →
    destageAll (s.poolOf p.vol) q (copy.getD p) (s.fuaDestage q p) copy.isNone after ((copy.getD p).grains.mapIdx fun i g => (i, g)) (s2, rest, [])
      = some (s3, rest', ops) → ops ≠ [] →
    answers (.destageEntry q own mir bad after places) s fun t =>
      ∀ x p1, s3.pool (s.poolOf p.vol) = some x → s3.part q = some p1 →
        t.part q = some { p1 with tseq := some x.nextTseq }
        ∧ ∃ y, t.media.txns.find (txnKey (s.poolOf p.vol) x.nextTseq) = some y ∧ y.ops = s3.withDiverge (s.poolOf p.vol) x.nextTseq ops
          ∧ y.cseq = q ∧ y.flags = txHost)
  ∧ (∀ (i : Nat) (x : Stripe) (at_ : DWord) (s : State), s.media.stripes.find i = some x → x.fuaAt = some at_ → x.closed = false →
    answers (.fuaPadTimeout i) s fun t =>
      if s.since at_ < s.fld R.CIST_FUA_MAX_WAIT 0 16 then t = s else t.bit (R.PG_EVENT 89) 4 = true ∧ (∀ y, t.media.stripes.find i = some y → y.closed = true))

/-- Once both feeds have failed for 2 strides, or an L5 has been placed, the Spillway starts and numbers itself (R162, R165); quiesced, it has
no STREAMING part and no module command left; the image of both halves goes into an erased band, with the studbook flush and the lifetime
save (R163, R165); its end shows its length and sets SPILL_DONE; 250,000 strides with both feeds reset the chip (R167, R520). A write of
SPILL_LOSS_ACK clears SPILL_LOSS (R168). -/
def Obligations.SpillwayRuns : Prop :=
  (∀ s : State, s.spilling = false → s.cist.spill = .idle → answers .spillwayStart s fun t =>
    if s.cist.haltReq = true ∨ 2 ≤ s.cist.bothFailed then
      t.cist.spill = .quiescing ∧ t.cist.spillStart = s.now ∧ t.cist.spillNo = s.cist.spillNo + 1 ∧ t.spilling = true
    else t = s)
  ∧ (∀ s : State, s.cist.spill = .quiescing → answers .spillQuiesced s fun t =>
    t.cist.spill = .imaging ∧ (∀ p ∈ t.cist.parts, p.2.lock ≠ .streaming) ∧ (∀ l ∈ t.media.links, l.2.tags = [] ∧ l.2.queue = []))
  ∧ (∀ (ok : Bool) (s : State), s.cist.spill = .imaging → answers (.spillImageDone ok) s fun t =>
    t.cist.spill = .closing ∧ t.bit R.STB_STATUS 0 = true ∧ t.clock.lifeSave.isSome = true
    ∧ (if s.cist.bandErased = true ∧ 2 ≤ s.cist.bandModules then
        t.cist.bandErased = false ∧ t.cist.bandMirror = s.cist.mirror ∧ t.bit R.CIST_STATUS 2 = false
        ∧ (∀ x, x ∈ t.cist.bandOwn ↔ x ∈ s.cist.parts ∧ x.2.off.isSome = true ∧ x.1 < 2 ^ 63)
      else t.cist.bandOwn = s.cist.bandOwn ∧ t.cist.bandMirror = s.cist.bandMirror))
  ∧ (∀ s : State, s.cist.spill = .closing → s.bit R.STB_STATUS 0 = false → s.clock.lifeSave = none → answers .spillDone s fun t =>
    t.cist.spill = .done ∧ t.rd R.CIST_SPILL_LAST = BitVec.ofNat 32 (s.since s.cist.spillStart) ∧ t.bit (R.PG_EVENT 89) 2 = true
    ∧ t.power.stopped = !s.cist.spillByFeeds)
  ∧ (∀ s : State, answers .spillReturn s fun t =>
    if s.cist.spill = .done ∧ s.power.stopped = false ∧ 250000 ≤ s.cist.bothPresent then
      t.power.bringup = true ∧ t.fld R.CHIP_RST_STATUS 0 3 = 3 ∧ t.cist.spill = .idle ∧ t.cist.parts = [] ∧ t.cist.bandOwn = s.cist.bandOwn
    else t = s)
  ∧ (∀ s : State, answers .spillLossAck s fun t => t.bit R.CIST_STATUS 5 = false ∧ t.bit R.CIST_CTRL 2 = false)

/-- A grain that the chosen Cistern entries supply is done, one they supply in part goes to the map (R223, R224); one that no copy can supply
fails (R225). The map gives zeros, a lost grain fails with UNRECOVERED_READ, an address holds its segment and goes on (R226 to R228); a
map page on flash is read first (R226). A die is chosen and read (R229); an answered read whose header, data and check value agree serves
the grain, a header that does not is HEADER_MISMATCH, a failed read-around is read directly, other failures are recovered (R230 to R232);
a recovery serves the grain, reads the sources again at most twice with other trims, or loses it (R232, R337). A command whose grain is
shown may have completed. HOT_TIER_SWEEP invalidates swept entries (R206); DEDUP_MERGE_STEP takes DD_MERGE_RATE records off the log
(R208). -/
def Obligations.ReadsAreServed : Prop :=
  (∀ (n i unit st : Nat) (own mir : List (Nat × List (Nat × Nat))) (g g1 : RdGrain) (v : Vol) (s s1 : State), s.rdGrain n i = some g →
    s.vol g.vol = some v → g.stage = .search → g.mapped = false → s.halted 94 = false → s.halted 93 = false →
    s.takeEntries unit v.format own mir g g.chosen = (s1, g1, st) → answers (.cisternHitRead n i unit own mir) s fun t =>
      if st ≠ 0 then t.bit (R.PG_EVENT 94) 1 = true
        ∧ ∀ c g', t.cmd n = some c → c.reads[i]? = some g' → g'.stage = .done ∧ g'.status = st
      else t.rd R.RD_CISTERN_HITS = incSat (s.rd R.RD_CISTERN_HITS)
        ∧ if g1.need = 0 then
            t.rd R.RD_GRAINS = incSat (s.rd R.RD_GRAINS)
            ∧ ∀ c g', t.cmd n = some c → c.reads[i]? = some g' → g'.stage = .done ∧ g'.need = 0
          else t.rdGrain n i = some { g1 with chosen := [], stage := .lookup })
  ∧ (∀ (n i a : Nat) (g : RdGrain) (v : Vol) (s : State), s.rdGrain n i = some g → s.vol g.vol = some v → g.stage = .lookup →
    s.halted 94 = false → s.linesServed g.lines = true → (s.pool v.pool).isSome = true → a = (if g.mapped then g.addr else s.mapEntry g.vol g.grain) →
    (answers (.mapLookup n i [] none) s fun t =>
        (isGrain a = false → t.rd R.RD_GRAINS = incSat (s.rd R.RD_GRAINS)
          ∧ ∀ c g', t.cmd n = some c → c.reads[i]? = some g' → g'.stage = .done ∧ g'.need = 0)
        ∧ (isGrain a = true → gaKey a ∈ s.media.lost →
            ∀ c g', t.cmd n = some c → c.reads[i]? = some g' → g'.stage = .done ∧ g'.status = St.unrecoveredRead)
        ∧ (isGrain a = true → gaKey a ∉ s.media.lost →
            t.rdGrain n i = some { g with addr := a, mapped := true, stage := .choose }
            ∧ (g.mapped = false → ∀ k sg x, s.segAt a = some (k, sg) → s.seg k = some x →
                ∃ y, t.seg k = some y ∧ x.readers < y.readers)))
    ∧ (∀ id y k sg lines, g.mapped = false → s.mpage (s.poolOf g.vol) id = some y → s.segAt y.addr = some (k, sg) →
        answers (.mapLookup n i lines (some id)) s fun t =>
          t.rdGrain n i = some { g with addr := y.addr, mapped := true, page := some y.addr, pageRead := true, stage := .choose }))
  ∧ (∀ (n i k0 : Nat) (g : RdGrain) (sg : Seg) (p : Pool) (s : State), s.rdGrain n i = some g → g.stage = .choose → s.mutedModules = false →
    s.halted 94 = false → s.segAt g.addr = some (k0, sg) → s.pool sg.pool = some p →
    (∀ j x, p.kindOf sg.seq ≤ 1 →
        s.leastWait sg.pool ((sg.place.mapIdx fun j x => (j, x)).filter fun x => !s.absent sg.pool p sg (gaPage g.addr) x.1 x.2) = some (j, x) →
        answers (.dieChoice n i) s fun t => ∃ g', t.rdGrain n i = some g' ∧ g'.stage = .issued ∧ g'.left = 1 ∧ g'.issued = s.now
          ∧ g'.path = (if j = sg.memberAt g.addr then .direct else .copy j))
    ∧ (∀ x, 1 < p.kindOf sg.seq → sg.place[sg.memberAt g.addr]? = some x →
        s.absent sg.pool p sg (gaPage g.addr) (sg.memberAt g.addr) x = false →
        (s.placeWait sg.pool x ≤ s.fld R.RD_RA_THRESH 0 8 ∨ g.forced = true) → answers (.dieChoice n i) s fun t =>
          ∃ g', t.rdGrain n i = some g' ∧ g'.stage = .issued ∧ g'.path = .direct ∧ g'.left = 1 ∧ g'.issued = s.now))
  ∧ (∀ (n i unit : Nat) (errs : List (Nat × Nat)) (g : RdGrain) (v : Vol) (s : State), s.rdGrain n i = some g → s.vol g.vol = some v →
    g.stage = .issued → g.left = 0 → g.page = none → s.halted 94 = false → s.halted 136 = false → s.halted 93 = false →
    (g.path = .around → s.halted 141 = false) →
    (∀ x s1 verdict, g.bad = false → s.media.flash.find (gaKey g.addr) = some x → x.poison = false →
        s.storedCheck unit v.format g.addr x errs = (s1, verdict) → answers (.mediaReadCollect n i unit errs) s fun t =>
          match verdict with
          | .ok _ _ => t.rd R.RD_GRAINS = incSat (s.rd R.RD_GRAINS)
              ∧ ∀ c g', t.cmd n = some c → c.reads[i]? = some g' → g'.stage = .done ∧ g'.need = 0
          | .header => captured s t 94 0x0102 1 (grainModule g)
          | .decode => ∃ g', t.rdGrain n i = some g' ∧ g'.stage = .recover ∧ g'.allDecoded = false
          | .check => ∃ g', t.rdGrain n i = some g' ∧ g'.stage = .recover ∧ g'.checkBad = true)
    ∧ (g.bad = true → g.path = .around → g.forced = false → g.checkBad = false → answers (.mediaReadCollect n i unit errs) s fun t =>
        t.rdGrain n i = some { g with stage := .choose, forced := true, allDecoded := false })
    ∧ (g.bad = true → g.path ≠ .around → answers (.mediaReadCollect n i unit errs) s fun t =>
        ∃ g', t.rdGrain n i = some g' ∧ g'.stage = .recover ∧ g'.allDecoded = false))
  ∧ (∀ (n i unit k : Nat) (errs : List (Nat × Nat)) (places : List (List Place)) (g : RdGrain) (sg : Seg) (p : Pool) (x : Stored) (v : Vol)
      (s s1 : State) (verdict : Verdict), s.rdGrain n i = some g → s.vol g.vol = some v →
    g.stage = .recover → g.left = 0 → g.page = none → g.bad = false → s.halted 94 = false → s.halted 141 = false → s.halted 93 = false →
    s.segAt g.addr = some (k, sg) → s.pool sg.pool = some p → s.media.flash.find (gaKey g.addr) = some x →
    s.storedCheck unit v.format g.addr x errs = (s1, verdict) → answers (.grainRecovery n i unit errs places) s fun t =>
      if g.recon.sources = [] ∨ x.poison = true then t.bit (R.PG_EVENT 94) 1 = true
        ∧ ∀ c g', t.cmd n = some c → c.reads[i]? = some g' → g'.stage = .done ∧ g'.status = St.unrecoveredRead
      else
        match verdict with
        | .ok _ _ => t.rd R.RD_DECODE_RETRY = incSat (s.rd R.RD_DECODE_RETRY) ∧ t.rd R.RD_GRAINS = incSat (s.rd R.RD_GRAINS)
            ∧ ∀ c g', t.cmd n = some c → c.reads[i]? = some g' → g'.stage = .done ∧ g'.need = 0
        | .check =>
            if p.kindOf sg.seq ≠ 3 ∧ g.recon.trim < 2 then
              ∃ g', t.rdGrain n i = some g' ∧ g'.stage = .recover ∧ g'.recon = { g.recon with trim := g.recon.trim + 1 }
            else p.kindOf sg.seq ≠ 3 → t.bit (R.PG_EVENT 94) 1 = true ∧ ∀ c g', t.cmd n = some c → c.reads[i]? = some g' →
              g'.stage = .done ∧ g'.status = (if g.allDecoded then St.checkValue else St.unrecoveredRead)
        | _ => True)
  ∧ (∀ s : State, answers .hotTierSweep s fun t =>
    ∀ k, t.camAt k = if s.sweeps k (s.camAt k) then { s.camAt k with st := 0 } else s.camAt k)
  ∧ (∀ (pool : Nat) (s : State), answers (.dedupMergeStep pool) s fun t =>
    t.cam.logs.getD pool [] = (s.cam.logs.getD pool []).drop (if (s.mergeMay pool).2 then s.fld R.DD_MERGE_RATE 0 11 else 0))

/-- Software updates CAM2 while it is RUN and any bank while it is OFF, and is refused with USER_OWNED elsewhere, with INDEX_ALIGN off an
entry's first unit, and with WRITE_VALID for a WRITE of a PENDING or VALID entry, changing nothing (R177, R188). INVALIDATE empties, WRITE
loads key, PRIO and result word, VALIDATE makes an EMPTY entry PENDING, UPDATE_RESULT rewrites the result word (R177, R179); at the commit
point PENDING becomes VALID (R177). READ shows an entry. A page that is BUSY discards an operation (R188). SEARCH answers HIT, MULTI,
COUNT and the winner of R181 with its result word; MSEARCH up to 8 matches in that order (R180). A unit with bad parity is counted,
captured at L1, and leaves the search in the dedup hot tier (R184). -/
def Obligations.SearchBanksAreUpdatedAndSearched : Prop :=
  (∀ (n i : Nat) (s : State), n ≤ 16 → s.refuses (95 + n) = false → s.camBusy n = false → s.fld (R.CAM_INDEX n) 0 16 = i →
    ∀ c ∈ [Instr.camInvalidate n, .camWrite n, .camValidate n, .camUpdateResult n],
      (s.camOwned n = false → answers c s fun t => captured s t (95 + n) 0x0101 0 0 ∧ t.cam.entries = s.cam.entries ∧ t.fld (R.CAM_OP_STATUS n) 0 16 = 0x0101)
      ∧ (s.camOwned n = true → i % camWidth (camGroup n) ≠ 0 → answers c s fun t =>
          captured s t (95 + n) 0x0102 0 0 ∧ t.cam.entries = s.cam.entries ∧ t.fld (R.CAM_OP_STATUS n) 0 16 = 0x0102))
  ∧ (∀ (n i : Nat) (s : State), n ≤ 16 → s.refuses (95 + n) = false → s.camBusy n = false → s.camOwned n = true → s.fld (R.CAM_INDEX n) 0 16 = i →
    i % camWidth (camGroup n) = 0 →
    (answers (.camInvalidate n) s fun t => t.camAt (camKey n i) = { s.camAt (camKey n i) with st := 0 } ∧ t.bit (R.PG_EVENT (95 + n)) 0 = true)
    ∧ (answers (.camWrite n) s fun t =>
        if (s.camAt (camKey n i)).st = 0 then
          t.camAt (camKey n i) = { st := 0, prio := s.fld (R.CAM_ENTRY n) 2 2, key := s.camKeyRegs n % 2 ^ camKeyBits (camGroup n),
                                   result := (s.rd64 (R.CAM_RESULT n)).toNat }
        else captured s t (95 + n) 0x0103 0 0 ∧ t.cam.entries = s.cam.entries)
    ∧ (answers (.camValidate n) s fun t => t.camAt (camKey n i) = { s.camAt (camKey n i) with
        st := if (s.camAt (camKey n i)).st = 0 then 1 else (s.camAt (camKey n i)).st })
    ∧ (answers (.camUpdateResult n) s fun t => t.camAt (camKey n i) = if (s.camAt (camKey n i)).st = 0 then s.camAt (camKey n i)
        else { s.camAt (camKey n i) with result := (s.rd64 (R.CAM_RESULT n)).toNat })
    ∧ (∀ k, k ≠ camKey n i → ∀ c ∈ [Instr.camInvalidate n, .camWrite n, .camValidate n, .camUpdateResult n],
        answers c s fun t => t.camAt k = s.camAt k))
  ∧ (∀ (s : State) (k : Nat), s.camPendingValid.camAt k = if (s.camAt k).st = 1 then { s.camAt k with st := 2 } else s.camAt k)
  ∧ (∀ (n i m : Nat) (bad incl : Bool) (units : List Nat) (s : State), n ≤ 16 → s.refuses (95 + n) = false →
    ∀ c ∈ [Instr.camInvalidate n, .camWrite n, .camValidate n, .camUpdateResult n, .camRead n bad, .camSearch n incl m units, .camMsearch n incl m units],
      answers c s fun t => s.camBusy n = true → captured s t (95 + n) 0x0004 0 0 ∧ t.cam = s.cam ∧ t.rd (R.CAM_OP_STATUS n) = s.rd (R.CAM_OP_STATUS n))
  ∧ (∀ (n i : Nat) (s : State), n ≤ 16 → s.refuses (95 + n) = false → s.camBusy n = false → s.fld (R.CAM_INDEX n) 0 16 = i →
    i % camWidth (camGroup n) = 0 → s.bit R.CHIP_INJ_EN 0 = false → answers (.camRead n false) s fun t =>
      t.cam.entries = s.cam.entries ∧ t.fld (R.CAM_ENTRY n) 0 2 = (s.camAt (camKey n i)).st % 4
      ∧ t.rd64 (R.CAM_RESULT n) = BitVec.ofNat 64 (s.camAt (camKey n i)).result
      ∧ ∀ j, j < 9 → t.rd (R.CAM_KEY n j) = BitVec.ofNat 32 ((s.camAt (camKey n i)).key / 2 ^ (32 * j)))
  ∧ (∀ (n : Nat) (incl : Bool) (m : Nat) (s : State), n ≤ 16 → s.refuses (95 + n) = false → s.camBusy n = false → s.bit R.CHIP_INJ_EN 0 = false → m < 4 →
    ∀ all, all = s.camSearch (camGroup n) (s.camMask (camGroup n) m) (s.camKeyRegs n) incl →
      (answers (.camSearch n incl m []) s fun t =>
        t.cam.entries = s.cam.entries ∧ t.bit (R.CAM_OP_STATUS n) 17 = decide (all ≠ []) ∧ t.bit (R.CAM_OP_STATUS n) 18 = decide (1 < all.length)
        ∧ t.rdN (R.CAM_MATCH_COUNT n) = min all.length 524287
        ∧ ∀ k e, all.head? = some (k, e) → t.rd64 (R.CAM_RESULT n) = BitVec.ofNat 64 e.result)
      ∧ (answers (.camMsearch n incl m []) s fun t =>
        t.cam.entries = s.cam.entries ∧ t.bit (R.CAM_OP_STATUS n) 17 = decide (all ≠ []) ∧ t.rdN (R.CAM_MATCH_COUNT n) = min all.length 524287
        ∧ ∀ i, i < 8 → t.rd (R.CAM_MSR n i) = (((s.camResume n all)[i]?).elim 0 fun p => BitVec.ofNat 32 (camLoc p.1 + 2 ^ 31)))
      ∧ (∀ (i j : Nat) (a b : Nat × CamEntry), i < j → all[i]? = some a → all[j]? = some b → b.2.prio ≤ a.2.prio))
  ∧ (∀ (bank u : Nat) (s : State), bank ≤ 15 → u < 65536 → s.bit R.CHIP_INJ_EN 0 = false → answers (.camScrub bank u) s fun t =>
    t.rd (R.CAM_PARITY_ERR bank) = incSat (s.rd (R.CAM_PARITY_ERR bank)) ∧ t.bit (R.PG_EVENT (95 + bank)) 1 = true
    ∧ captured s t (95 + bank) 0x0100 1 0 ∧ (3 ≤ bank → (t.camAt (camFirst bank u)).st = 0))

/-- TRAIN set on a DOWN link starts training, on a module port with a module present (R259, R364). Block lock sets the sequences to 0, sends
INIT as the first sequenced flit, and on a module port queues IDENTIFY and EPOCH_QUERY. The far end's INIT gives its credits, 0 being
unlimited (R243); the Torlux link becomes ACTIVE only with another HEAD_ID, the same stepping (R364) and a BUILD at least the other's
TANDEM_MIN (R505). Time bounds take a link DOWN with LINK_DOWN or the identity error; a module that is absent takes it DOWN without one. A
link retrained in time is ACTIVE again and replays; after a lane failure with no spare left it carries its reduced width, tells the far
end, and WIDTH_REDUCED is set (R240, R243, R362). -/
def Obligations.LinksTrainAndFall : Prop :=
  (∀ (n : Nat) (s : State), n < 24 → s.refuses (mlinkPage n) = false → answers (.mlkTrain n) s fun t =>
    t.bit (R.MLK_CTRL n) 0 = true
    ∧ if s.lstate n = lsDown ∧ s.bit (R.MLK_STATUS n) 3 = true ∧ s.bit R.MOD_RST n = false then
        t.lstate n = lsTrain ∧ (t.mlink n).link.since = s.now
      else t.lstate n = s.lstate n ∧ t.media = s.media)
  ∧ (∀ (s : State), s.refuses 151 = false → answers .tlTrain s fun t =>
    t.bit R.TL_CTRL 0 = true ∧ t.linkState .torlux = (if s.linkState .torlux = lsDown then lsTrain else s.linkState .torlux))
  ∧ (∀ (k : LinkEnd) (lanes : List Nat) (speed : Nat) (s : State), linkOn k = true → s.linkState k = lsTrain →
    k.reduced ≤ (k.good lanes).length → answers (.blockLock k lanes speed) s fun t =>
      t.linkState k = lsInit ∧ t.linkWidth k = k.widthOn (k.good lanes) ∧ (t.flitLink k).txAcked = 0 ∧ (t.flitLink k).txNext = 1 ∧ (t.flitLink k).rxNext = 0
      ∧ Emit.control k.page 0x01 (s.initBody k) ∈ t.sent
      ∧ match k with
        | .torlux => t.media = s.media
        | .module n => (t.mlink n).tags = []
            ∧ (t.mlink n).queue = [ModCmd.plain opIdentify 0 .identify, ModCmd.plain opEpochQuery 0 .epochQuery] ++ (s.mlink n).queue)
  ∧ (∀ (n : Nat) (x : InitMsg) (s : State), n < 24 → s.lstate n = lsInit → answers (.initMsgRx (.module n) x) s fun t =>
    t.lstate n = lsInit ∧ (t.mlink n).link.farPort = x.port ∧ (t.mlink n).link.farVer = x.ver ∧ (∀ i c, i < 4 → x.credits[i]? = some c → (i < 2 → (s.mlink n).queue = []) →
      (t.mlink n).link.credit i = if c = 0 then none else some c))
  ∧ (∀ (x : InitMsg) (s : State), s.linkState .torlux = lsInit → answers (.initMsgRx .torlux x) s fun t =>
    t.rdN R.TL_PARTNER = x.stepping % 256 + x.port % 2 * 256
    ∧ if x.port = s.headId ∨ x.stepping ≠ s.fld R.CHIP_STEP 0 8 then captured s t 151 0x0105 2 0 ∧ t.linkState .torlux = lsDown
      else if s.rdN R.FW_RUN_BUILD < x.tandemMin ∨ x.build < s.ownTandemMin then
        captured s t 9 0x0102 2 0 ∧ t.linkState .torlux = lsInit
      else t.linkState .torlux = lsActive ∧ t.bit (R.PG_EVENT 151) 0 = true ∧ t.tandem.split = false ∧ t.tandem.mateGib = x.gib)
  ∧ (∀ (k : LinkEnd) (s : State), linkOn k = true →
    (s.linkState k = lsTrain → 25000 ≤ s.since (s.flitLink k).since → answers (.trainTimeout k) s fun t =>
        captured s t k.page (k.err .linkDown).1 (k.err .linkDown).2 0 ∧ t.linkState k = lsDown)
    ∧ (s.linkState k = lsInit → 250 ≤ s.since (s.flitLink k).since → (k = .torlux → s.tandem.tlInitOk = false) →
        answers (.linkInitTimeout k) s fun t =>
        captured s t k.page (k.err .identity).1 (k.err .identity).2 0 ∧ t.linkState k = lsDown)
    ∧ (s.linkState k = lsRecovery → 250 ≤ s.since (s.flitLink k).since → answers (.recoveryTimeout k) s fun t =>
        captured s t k.page (k.err .linkDown).1 (k.err .linkDown).2 0 ∧ t.linkState k = lsDown))
  ∧ (∀ (n : Nat) (s : State), n < 24 → s.bit (R.MLK_STATUS n) 3 = false ∨ s.bit (R.MLK_CTRL n) 0 = false → s.lstate n ≠ lsDown →
    answers (.moduleAbsent n) s fun t =>
      t.lstate n = lsDown ∧ t.fld (R.MLK_STATUS n) 4 3 = 0 ∧ t.bit (R.PG_EVENT (mlinkPage n)) 1 = true ∧ (t.mlink n).tags = [])
  ∧ (∀ (k : LinkEnd) (lanes : List Nat) (s : State), linkOn k = true → s.linkState k = lsRecovery → s.since (s.flitLink k).since ≤ 250 →
    if k.reduced ≤ (k.good lanes).length then
      (s.flitLink k).replays < 4 → (s.flitLink k).txNext < 4096 → (s.flitLink k).txAcked < 4096 → answers (.recoveryRetrained k lanes) s fun t =>
        captured s t k.page (k.err .retrain).1 (k.err .retrain).2 0 ((s.flitLink k).narrowing && decide ((s.flitLink k).injected ≠ [])) ∧ t.linkState k = lsActive
        ∧ ((s.flitLink k).unacked ≠ 0 → Emit.replay k.page (s.flitLink k).txAcked ∈ t.sent)
        ∧ if (s.flitLink k).narrowing = true ∨ (k.good lanes).length < k.full ∨ s.linkWidth k = k.reduced then
            t.linkWidth k = k.reduced ∧ Emit.control k.page 0x03 (k.widthBody k.reduced ((k.good lanes).take k.reduced)) ∈ t.sent
            ∧ (s.linkWidth k = k.full → t.bit (R.PG_EVENT k.page) 3 = true)
          else t.linkWidth k = s.linkWidth k
    else answers (.recoveryRetrained k lanes) s fun t =>
      captured s t k.page (k.err .linkDown).1 (k.err .linkDown).2 0 ∧ t.linkState k = lsDown)

/-- A flit with a bad CRC is counted and captured, and NAKed unless a NAK is out (R242). The next sequenced flit in order is accepted and
counted; after 16 an acknowledgement goes; a gap is NAKed. A flit with a record beyond its credits takes the link to RECOVERY (R244).
ACK_SEQ frees the replay buffer, a NAK starts a replay, CUM is noted. The acknowledge timer sends an acknowledgement; the replay timer
replays, and after 4 replays without progress takes the link to RECOVERY (R242). An armed injection is left to its own rule. -/
def Obligations.FlitsAreAcknowledgedAndReplayed : Prop :=
  ∀ (k : LinkEnd) (s : State), linkOn k = true → s.bit R.CHIP_INJ_EN 0 = false →
  (∀ (f : Flit), s.linkState k = lsActive ∨ s.linkState k = lsInit →
    (f.crcOk = false → answers (.flitRx k f) s fun t =>
        captured s t k.page (k.err .flitCrc).1 (k.err .flitCrc).2 0 ∧ t.rd k.crcErr = incSat (s.rd k.crcErr)
        ∧ (t.flitLink k).rxNext = (s.flitLink k).rxNext ∧ (t.flitLink k).nakSent = true
        ∧ ((s.flitLink k).nakSent = false → Emit.ack k.page (((s.flitLink k).rxNext + 4095) % 4096) true ∈ t.sent))
    ∧ (f.crcOk = true → answers (.flitRx k f) s fun t =>
        (t.flitLink k).cums = (s.flitLink k).cums.set f.cls f.cum
        ∧ (∀ a, f.ack = some a → (a + 1 + 4096 - (s.flitLink k).txAcked) % 4096 ≠ 0 →
            (a + 1 + 4096 - (s.flitLink k).txAcked) % 4096 ≤ (s.flitLink k).unacked → (t.flitLink k).txAcked = (a + 1) % 4096)
        ∧ (f.kind = .packet ∨ f.kind = .control → f.seq % 4096 = (s.flitLink k).rxNext →
            (t.flitLink k).rxNext = ((s.flitLink k).rxNext + 1) % 4096 ∧ (t.flitLink k).nakSent = false ∧ t.rd k.flitsRx = incSat (s.rd k.flitsRx)
            ∧ (15 ≤ (s.flitLink k).rxRun →
                Emit.ack k.page ((((s.flitLink k).rxNext + 1) % 4096 + 4095) % 4096) false ∈ t.sent ∧ (t.flitLink k).rxRun = 0)
            ∧ (f.overflow = true → captured s t k.page (k.err .overflow).1 (k.err .overflow).2 0
                ∧ (s.linkState k = lsActive → t.linkState k = lsRecovery)))
        ∧ (f.kind = .packet ∨ f.kind = .control → f.seq % 4096 ≠ (s.flitLink k).rxNext →
            (t.flitLink k).rxNext = (s.flitLink k).rxNext ∧ t.rd k.flitsRx = s.rd k.flitsRx
            ∧ (k.room < ((s.flitLink k).rxNext + 4096 - f.seq % 4096) % 4096 → (s.flitLink k).nakSent = false →
                Emit.ack k.page (((s.flitLink k).rxNext + 4095) % 4096) true ∈ t.sent ∧ (t.flitLink k).nakSent = true))
        ∧ (f.kind = .null → f.ack = none → f.nak = true → (s.flitLink k).unacked ≠ 0 → (s.flitLink k).txNext < 4096 →
            (s.flitLink k).txAcked < 4096 → (s.flitLink k).replays < 4 → Emit.replay k.page (s.flitLink k).txAcked ∈ t.sent
              ∧ (t.flitLink k).replays = (s.flitLink k).replays + 1)))
  ∧ (s.linkState k = lsActive ∨ s.linkState k = lsInit → (s.flitLink k).rxRun ≠ 0 → answers (.ackTimer k) s fun t =>
    t.sent = Emit.ack k.page (((s.flitLink k).rxNext + 4095) % 4096) false :: s.sent ∧ (t.flitLink k).rxRun = 0 ∧ t.regs = s.regs)
  ∧ (s.linkState k = lsActive ∨ s.linkState k = lsInit → (s.flitLink k).unacked ≠ 0 → answers (.replayTimeout k) s fun t =>
    (∀ n, k = .module n → captured s t k.page 0x0101 1 0)
    ∧ if 4 ≤ (s.flitLink k).replays then s.linkState k = lsActive → t.linkState k = lsRecovery ∧ t.rd k.retrains = incSat (s.rd k.retrains)
      else Emit.replay k.page (s.flitLink k).txAcked ∈ t.sent ∧ (t.flitLink k).replays = (s.flitLink k).replays + 1
        ∧ t.rd k.replays = incSat (s.rd k.replays) ∧ t.linkState k = s.linkState k)

/-- An active receive lane that loses block lock or passes its limit of invalid sync headers is counted, and asks for a swap while SPARE_EN is
set and a spare is left; otherwise the link goes to RECOVERY, to retrain at its reduced width (R238, R240, R362). A transmitter asked to
swap, or told by a write with GO, moves the lane to the next spare with the SWAP set, and LANE_SWAPPED is captured with the lane. A SWAP
set whose complements match and whose count is one more moves the receiver; any other is ignored (R239). A transmitter with no spare left
goes to RECOVERY too (R240). A WIDTH message of a narrower width reduces the link (R243). -/
def Obligations.LanesAreSpared : Prop :=
  (∀ (k : LinkEnd) (lane errors : Nat) (lost : Bool) (s : State), linkOn k = true → lane < k.lanes → s.linkState k = lsActive →
    answers (.laneFailing k lane errors lost) s fun t =>
      t.rd (k.laneErr lane) = addSat (s.rd (k.laneErr lane)) errors
      ∧ if (lost = true ∨ s.fld k.limit 0 24 < errors) ∧ k.active (s.flitLink k) (s.flitLink k).rxSpared lane = true then
          if s.bit k.ctrl 1 = true ∧ (k.nextSpare (s.flitLink k) (s.flitLink k).rxSpared).isSome = true then
            Emit.control k.page 0x02 (leBytes 1 lane) ∈ t.sent ∧ t.linkState k = lsActive
          else t.linkState k = lsRecovery ∧ (t.flitLink k).narrowing = true ∧ t.rd k.retrains = incSat (s.rd k.retrains)
        else t.linkState k = lsActive ∧ t.sent = s.sent ∧ t.flitLink k = s.flitLink k)
  ∧ (∀ (k : LinkEnd) (lane sp : Nat) (s : State), linkOn k = true → s.refuses k.page = false → s.linkState k = lsActive →
    k.active (s.flitLink k) (s.flitLink k).txSpared lane = true → k.nextSpare (s.flitLink k) (s.flitLink k).txSpared = some sp →
    ∀ c ∈ [Instr.swapReqRx k lane] ++ (match k with | .module n => [Instr.mlkForceSwap n lane false] | .torlux => [.tlForceSwap lane false]),
      answers c s fun t =>
        Emit.swapSet k.page lane sp (((s.flitLink k).txSwaps + 1) % 256) ∈ t.sent
        ∧ (t.flitLink k).txSpared = (s.flitLink k).txSpared ++ [(lane, sp)] ∧ (t.flitLink k).txSwaps = ((s.flitLink k).txSwaps + 1) % 256
        ∧ (t.flitLink k).rxSpared = (s.flitLink k).rxSpared ∧ t.bit (R.PG_EVENT k.page) 2 = true
        ∧ captured s t k.page (k.err .laneSwapped).1 (k.err .laneSwapped).2 lane)
  ∧ (∀ (k : LinkEnd) (lane : Nat) (s : State), linkOn k = true → s.refuses k.page = false → s.linkState k = lsActive →
    k.active (s.flitLink k) (s.flitLink k).rxSpared lane = true → s.bit k.ctrl 1 = true →
    (k.nextSpare (s.flitLink k) (s.flitLink k).rxSpared).isSome = true →
    answers (match k with | .module n => Instr.mlkForceSwap n lane true | .torlux => .tlForceSwap lane true) s fun t =>
      Emit.control k.page 0x02 (leBytes 1 lane) ∈ t.sent)
  ∧ (∀ (k : LinkEnd) (lane : Nat) (s : State), linkOn k = true → s.linkState k = lsActive →
    k.active (s.flitLink k) (s.flitLink k).txSpared lane = true → k.nextSpare (s.flitLink k) (s.flitLink k).txSpared = none →
    answers (.swapReqRx k lane) s fun t =>
      t.linkState k = lsRecovery ∧ (t.flitLink k).narrowing = true ∧ t.rd k.retrains = incSat (s.rd k.retrains))
  ∧ (∀ (k : LinkEnd) (fail spare nfail nspare count : Nat) (s : State), linkOn k = true → s.linkState k = lsActive →
    answers (.swapOrderedSetRx k fail spare nfail nspare count) s fun t =>
      if fail + nfail = 255 ∧ spare + nspare = 255 ∧ count = ((s.flitLink k).rxSwaps + 1) % 256 then
        (t.flitLink k).rxSpared = (s.flitLink k).rxSpared ++ [(fail, spare)] ∧ (t.flitLink k).rxSwaps = count
        ∧ (t.flitLink k).txSpared = (s.flitLink k).txSpared ∧ captured s t k.page (k.err .laneSwapped).1 (k.err .laneSwapped).2 fail (decide (fail ∈ (s.flitLink k).injected))
      else t = s)
  ∧ (∀ (k : LinkEnd) (width : Nat) (map : List Nat) (s : State), linkOn k = true → s.linkState k = lsActive ∨ s.linkState k = lsRecovery →
    width = k.full ∨ width = k.reduced → answers (.widthMsgRx k width map) s fun t =>
      t.linkWidth k = width ∧ t.linkState k = s.linkState k
      ∧ (width < s.linkWidth k → t.bit (R.PG_EVENT k.page) 3 = true
          ∧ captured s t k.page (k.err .widthReduced).1 (k.err .widthReduced).2 0 (decide ((s.flitLink k).injected ≠ []))))

/-- A response with a tag that is not outstanding is discarded (R260). An identity that the chip accepts puts the port in service; one that it
refuses takes the link DOWN with IDENTITY_MISMATCH (R257, R259). Telemetry with its MAGIC and CRC is kept and shown (R258). A command
answered EPOCH_STALE or NOT_HOLDER is counted (R261); a PROGRAM answered OK adds its bytes to MOD_WR (R43; what is added is assumption log
65). An interim response of a PROGRAM or ERASE notes its expected duration, and shows the paddock's holder (R246, R247). An alert sets
ALERT and is captured, and over-temperature is noted (R258, R311). The poll issues TELEMETRY. -/
def Obligations.ModuleResponsesAreTaken : Prop :=
  (∀ (port tag : Nat) (r : ModResp) (s : State), (s.mlink port).tags.find tag = none →
    (answers (.moduleResponseRx port tag r) s fun t => t = s) ∧ (answers (.moduleInterimResponse port tag r) s fun t => t = s))
  ∧ (∀ (port tag : Nat) (r : ModResp) (c : ModCmd) (s : State), port < 24 → (s.mlink port).tags.find tag = some c →
    answers (.moduleResponseRx port tag r) s fun t =>
      (r.status = mstEpochStale ∨ r.status = mstNotHolder → t.rd (R.MLK_STALE port) = incSat (s.rd (R.MLK_STALE port)))
      ∧ (r.status = mstOk → t.rd (R.MLK_STALE port) = s.rd (R.MLK_STALE port))
      ∧ t.rd64 (R.MOD_WR port) = (if c.opcode = opProgram ∧ r.status = mstOk then satAdd64 (s.rd64 (R.MOD_WR port)) (64 * c.units)
          else s.rd64 (R.MOD_WR port))
      ∧ (c.use = .telemetry → r.status = mstOk → payloadField r.payload 0 4 = 0x4D54424D →
          payloadField r.payload 252 4 = (crc32c (r.payload.take 252)).toNat →
          t.bit (R.PG_EVENT (mlinkPage port)) 6 = true ∧ ∀ i < 64, t.rdN (R.MLK_TELEM port i) = payloadField r.payload (4 * i) 4)
      ∧ (c.use = .identify → r.status = mstOk → (Ident.ofBytes r.payload).refused s.headId = true →
          captured s t (mlinkPage port) 0x010A 2 0 ∧ t.lstate port = lsDown)
      ∧ (c.use = .identify → r.status = mstOk → (Ident.ofBytes r.payload).refused s.headId = false →
          t.lstate port = lsActive ∧ t.ident port = some (Ident.ofBytes r.payload) ∧ t.bit (R.PG_EVENT (mlinkPage port)) 0 = true))
  ∧ (∀ (port tag : Nat) (r : ModResp) (c : ModCmd) (s : State), port < 24 → (s.mlink port).tags.find tag = some c →
    c.opcode = opProgram ∨ c.opcode = opErase → r.status = mstOk → answers (.moduleInterimResponse port tag r) s fun t =>
      (t.mlink port).tags.find tag = some { c with expect := some r.info, sent := s.now }
      ∧ (t.die ((s.served port).elim port Prod.snd) c.die).remain = some (r.info, s.now)
      ∧ (∃ e, t.tandem.epochs.find (epKey (paddockOf c.die) port) = some e ∧ e.holder = some r.holder))
  ∧ (∀ (n info : Nat) (s : State), n < 24 → s.linkUp n = true → answers (.moduleAlertRx n info) s fun t =>
    t.bit (R.PG_EVENT (mlinkPage n)) 4 = true ∧ captured s t (mlinkPage n) 0x0109 0 0
    ∧ (info % 256 = 1 → (t.mlink n).hotAt = some s.calSec))
  ∧ (∀ (n tg : Nat) (s : State), n < 24 → s.lstate n = lsActive → s.mutedModules = false → s.halted (mlinkPage n) = false →
    (s.mlink n).queue = [] → (s.mlink n).freeTag = some tg → (s.mlink n).link.has 0 1 = true → answers (.telemetryPoll n) s fun t =>
      ∃ c, (t.mlink n).tags.find tg = some c ∧ c.use = .telemetry ∧ c.opcode = opTelemetry ∧ c.sent = s.now
        ∧ (∃ ep, Emit.modCmd n tg opTelemetry false false ep 0 0 0 0 0 0 [] ∈ t.sent))

/-- A page set of stripe records and of map records in TSEQ order, full or FTL_JRNL_WAIT strides after its first record, is programmed in
single-level mode to every copy of the band whose link is up, and its records are issued (R271, R272, R341, R342); otherwise nothing
happens. A checkpoint names C, the last TSEQ applied, packs the dirty map pages of the pool, leaves none dirty, and changes no map entry;
without a place for its objects it stays asked for; the first good copy of its root, once all have been answered, ends it with C as the
pool's checkpoint (R273, R279). -/
def Obligations.MapTransactionsAreJournaled : Prop :=
  (∀ (pool : Nat) (p : Pool) (rs : List StrRec) (l : List Txn) (full : Bool) (s : State), s.pool pool = some p →
    rs = (s.media.strLog.filter fun r => decide (r.pool = pool ∧ r.bseq = 0)).take 1636 →
    pageSet ((s.txnsOf pool).filter fun t => !t.issued) (65472 - 40 * rs.length) = (l, full) → rs.map StrRec.stride ++ l.map Txn.stride ≠ [] →
    answers (.journalProgram pool) s fun t =>
      if s.mutedModules = false ∧ s.halted 137 = false ∧ (full = true ∨ 1636 ≤ rs.length
          ∨ ((rs.map StrRec.stride ++ l.map Txn.stride).any fun a => decide (s.fld R.FTL_JRNL_WAIT 0 8 ≤ s.since a)) = true) then
        (∀ b ∈ p.targets, s.linkUp (s.portOf pool b.module) = true → asked t (s.portOf pool b.module) fun c =>
          c.opcode = opProgram ∧ c.slc = true ∧ c.die = b.die ∧ c.bgrp = b.group ∧ c.page = b.page
            ∧ c.use = .journal pool (p.bandSeq + 1) ((l.head?).elim 0 Txn.tseq) ((l.getLast?).elim 0 Txn.tseq) b.module
            ∧ c.data = codewords [] (pageSetImage pool s.headId (p.bandSeq + 1) ((l.head?).elim 0 Txn.tseq) s.now
                (rs.flatMap StrRec.image ++ l.flatMap Txn.image)))
        ∧ (∀ x ∈ l, ∀ y, s.media.txns.find (txnKey pool x.tseq) = some y → t.media.txns.find (txnKey pool x.tseq) = some { y with issued := true })
        ∧ (∀ r ∈ rs, { r with bseq := p.bandSeq + 1 } ∈ t.media.strLog)
        ∧ (t.pool pool).map Pool.bandSeq = some (p.bandSeq + 1)
      else t = s)
  ∧ (∀ (pool : Nat) (p : Pool) (places : List (List Place)) (s : State), s.pool pool = some p → s.mutedModules = false → s.spilling = false →
    s.halted 137 = false → s.holds (s.padOf pool) = true → p.ckpt = .idle ∨ p.ckpt = .asked → answers (.checkpoint pool none places) s fun t =>
      if (s.checkpointStart pool p places).isSome = true then
        (t.pool pool).map Pool.ckpt = some (.objects (s.ckptOf pool p) p.bandNew.isSome)
        ∧ (∀ id, id < 2 ^ 40 → (t.mpage pool id).map MapPage.entries = (s.mpage pool id).map MapPage.entries
            ∧ ∀ x, t.mpage pool id = some x → x.dirty = false)
        ∧ (∀ v g, t.mapEntry v g = s.mapEntry v g) ∧ t.media.flash = s.media.flash ∧ t.media.refs = s.media.refs
      else t.pool pool = some { p with ckpt := .asked } ∧ t.media.pages = s.media.pages ∧ t.media.txns = s.media.txns)
  ∧ (∀ (pool m c : Nat) (restores got : Bool) (p : Pool) (s : State), s.pool pool = some p → p.ckpt = .roots c restores [m] got →
    ((s.rootAnswer pool m true).pool pool).map (fun x => (x.ckpt, x.ckptTseq)) = some (.idle, c))

/-- Where reclaim may work, the segment that the rules pick becomes SELECTED: one with LIVE = 0 before any other (R284), then one with REFRESH
(R313); else nothing happens. Copying leaves every original and every count as they were, keeps the rate of the stride, and only adds to
the copied grains (R283, R285). A segment moves towards ERASING, by a journal record, only when it is swept or RETIRED, has no readers and
no open stripe, and every grain in it is dead (R286, R318); else nothing happens. -/
def Obligations.ReclaimMovesAndErases : Prop :=
  (∀ (pool : Nat) (s : State),
    match s.gcPick pool with
    | none => answers (.reclaimSelect pool) s fun t => t = s
    | some (i, g) =>
      (∀ j h, (j, h) ∈ s.media.segs → s.gcCandidate pool h = true → (h.live = 0 → g.live = 0)
          ∧ (h.refresh = true → g.live = 0 ∨ g.refresh = true))
      ∧ answers (.reclaimSelect pool) s fun t =>
          if (s.gcMay pool).2 = true then
            ∀ x, s.seg i = some x → t.seg i = some { x with state := .selected, swept := false, refresh := false }
          else t = s)
  ∧ (∀ (pool seg n : Nat) (lost : List Nat) (places : List (List Place)) (g : Seg) (s : State), s.seg seg = some g → g.pool = pool →
    g.state = .selected ∨ g.state = .retired → g.rebuild = false → (s.gcMay pool).2 = true → answers (.reclaimMove pool seg n lost places) s fun t =>
      t.media.flash = s.media.flash ∧ t.media.refs = s.media.refs ∧ t.media.backrefs = s.media.backrefs
      ∧ (s.reclaimOf pool).used ≤ (t.reclaimOf pool).used ∧ (t.reclaimOf pool).used ≤ max (s.reclaimOf pool).used (s.gcRate pool)
      ∧ (s.reclaimOf pool).copied <+: (t.reclaimOf pool).copied
      ∧ (t.reclaimOf pool).copied.length = (s.reclaimOf pool).copied.length + ((t.reclaimOf pool).used - (s.reclaimOf pool).used)
      ∧ ∀ c ∈ (t.reclaimOf pool).copied, c ∈ (s.reclaimOf pool).copied ∨ (c.1 ∉ lost ∧ (0 < s.refs c.1
          ∨ s.metaLive pool c.1 = true ∧ ∃ x, (c.1, x) ∈ s.media.flash ∧ x.obj.isSome = true)))
  ∧ (∀ (seg : Nat) (g : Seg) (p : Pool) (s : State), s.seg seg = some g → s.pool g.pool = some p → answers (.segmentErase seg) s fun t =>
    if ((g.state = .selected ∧ g.swept = true) ∨ g.state = .retired) ∧ g.want = none ∧ g.readers = 0 ∧ s.segDead g = true ∧ s.segQuiet seg = true
        ∧ s.mutedModules = false ∧ s.space g.pool ≠ spReadOnly then
      t.seg seg = some { g with want := some .erasing }
      ∧ ∃ x, t.media.txns.find (txnKey g.pool p.nextTseq) = some x ∧ x.ops = [.segState seg SegState.erasing.code] ∧ x.flags = txReclaim
          ∧ x.issued = false ∧ x.durable = false
    else t = s)

/-- While BUSY = 1 a command is discarded and WRITE_DISCARDED captured. Otherwise a command with an operand out of range, an unknown or used
number, a late T (with SNAP_LATE), or an attached volume answers INVALID_FIELD and changes no volume; the compatibility matrix may queue
or refuse it (BUSY_RETRY, R298); else a volume is made or resized, a deletion begins, a snapshot waits for T, a pool leaves READ_ONLY
(R290, R292). At T the CUT is the next CSEQ (R288); once every part below it is destaged the SNAP_CREATE record is built; a deletion goes
on four pages to a SNAP_STEP record (R290; 2,048 entries). -/
def Obligations.VolumesAndSnapshotsAreCommanded : Prop :=
  (∀ (s : State), s.bit R.FTL_CMD_STATUS 16 = true → ∀ c ∈ [Instr.volCreate, .volDelete, .volResize, .snapCreate, .snapDelete, .roResume],
    answers c s fun t => captured s t 137 0x0004 0 0 ∧ t.media = s.media ∧ t.rd R.FTL_CMD_STATUS = s.rd R.FTL_CMD_STATUS)
  ∧ (∀ (s : State) (v pool fmt grains : Nat), s.bit R.FTL_CMD_STATUS 16 = false → v = argField s.ftlArgs 0 4 → pool = argField s.ftlArgs 4 1 →
    fmt = argField s.ftlArgs 5 1 → grains = argField s.ftlArgs 8 8 → answers .volCreate s fun t =>
      if s.volFree v = false ∨ 16 ≤ pool ∨ s.pool pool = none ∨ 16 ≤ fmt ∨ grains = 0 ∨ 2 ^ 40 < grains then
        ftlAnswered t St.invalidField false ∧ t.media = s.media
      else if 65536 ≤ s.volCount then ftlAnswered t St.quota false ∧ t.media = s.media
      else
        let d := (s.actDecide { Activity.of actVolChange pool with vols := [v], op := 1, args := s.ftlArgs }).1
        if d = decRefused then ftlAnswered t St.busyRetry false ∧ t.media = s.media
        else if d = decQueued then ftlAnswered t St.success true ∧ t.media = s.media
        else ftlAnswered t St.success false ∧ t.rdN R.FTL_RESULT = v ∧ t.bit (R.PG_EVENT 137) 0 = true
          ∧ ∃ x, t.vol v = some x ∧ x.pool = pool ∧ x.owner = s.headId ∧ x.format = fmt ∧ x.grains = grains ∧ x.root = 0
              ∧ x.snapshot = false ∧ x.deleting = none)
  ∧ (∀ (s : State) (v n : Nat) (x : Vol), s.bit R.FTL_CMD_STATUS 16 = false → v = argField s.ftlArgs 0 4 → n = argField s.ftlArgs 8 8 →
    s.vol v = some x → answers .volResize s fun t =>
      if n = 0 ∨ 2 ^ 40 < n ∨ x.snapshot = true ∨ s.owns v = false ∨ x.deleting.isSome = true then
        ftlAnswered t St.invalidField false ∧ t.media = s.media
      else
        let d := (s.actDecide { Activity.of actVolChange x.pool with vols := [v], op := 3, args := s.ftlArgs }).1
        d ≠ decRefused → d ≠ decQueued → ftlAnswered t St.success false ∧ t.vol v = some { x with grains := n })
  ∧ (∀ (s : State) (v : Nat) (x : Vol), s.bit R.FTL_CMD_STATUS 16 = false → v = argField s.ftlArgs 0 4 → s.vol v = some x →
    s.attached v = false → x.deleting = none → s.owns v = true → ∀ c,
    (c = Instr.snapDelete ∧ x.source ≠ none) ∨ (c = .volDelete ∧ x.snapshot = false) → answers c s fun t =>
      if s.space x.pool = spReadOnly then ftlAnswered t St.poolReadOnly false ∧ t.media = s.media
      else
        ∀ d, d = (s.actDecide { Activity.of actSnapDelete x.pool with
            vols := [v], op := if c = Instr.snapDelete then 5 else 2, args := s.ftlArgs }).1 →
          d ≠ decRefused → d ≠ decQueued → ftlAnswered t St.success false ∧ ∃ l, t.vol v = some { x with deleting := some (l, false) })
  ∧ (∀ (s : State) (src tgt : Nat) (x : Vol), s.bit R.FTL_CMD_STATUS 16 = false → src = argField s.ftlArgs 0 4 → tgt = argField s.ftlArgs 4 4 →
    s.vol src = some x → answers .snapCreate s fun t =>
      if argField s.ftlArgs 8 8 < s.now.toNat + 2 then
        ftlAnswered t St.invalidField false ∧ t.bit (R.PG_EVENT 137) 4 = true ∧ t.media = s.media
      else if s.volFree tgt = false ∨ s.owns src = false ∨ x.deleting.isSome = true then
        ftlAnswered t St.invalidField false ∧ t.media = s.media
      else if 1024 ≤ x.children ∨ 65536 ≤ s.volCount then ftlAnswered t St.quota false ∧ t.media = s.media
      else
        let d := (s.actDecide { Activity.of actSnapCreate x.pool with vols := [src, tgt], op := 4, args := s.ftlArgs }).1
        d ≠ decRefused → d ≠ decQueued → ftlAnswered t St.success false ∧ ∃ j, t.media.snaps = s.media.snaps ++ [j] ∧ j.source = src
          ∧ j.target = tgt ∧ j.at_.toNat = argField s.ftlArgs 8 8 ∧ j.cut = none ∧ j.clone = decide (argField s.ftlArgs 16 1 % 2 = 1))
  ∧ (∀ (s : State) (pool : Nat) (p : Pool), s.bit R.FTL_CMD_STATUS 16 = false → pool = s.fld R.FTL_POOL_SEL 0 4 → s.pool pool = some p →
    answers .roResume s fun t =>
      if s.space pool = spReadOnly ∧ (p.modules ++ p.spare.toList).any (fun m => (s.spareDie s.headId m).isSome) = true then
        ftlAnswered t St.success false ∧ t.pool pool = some { p with resumeNext := true } ∧ t.bit (R.PG_EVENT 137) 0 = true
      else ftlAnswered t St.invalidField false ∧ t.media = s.media)
  ∧ (∀ (s : State) (target : Nat), answers (.snapCut target) s fun t =>
    t.regs = s.regs ∧ ∀ j ∈ s.media.snaps, (if j.target = target ∧ j.at_.toNat ≤ s.now.toNat ∧ j.cut = none then
      { j with cut := some ((s.rd64 R.CIST_CSEQ).toNat + 1) } else j) ∈ t.media.snaps)
  ∧ (∀ (s : State) (target c : Nat) (j : SnapJob) (p : Pool), s.media.snaps.find? (fun j => decide (j.target = target)) = some j →
    j.cut = some c → s.pool (s.poolOf j.source) = some p → answers (.snapCreateRecord target) s fun t =>
      if j.recorded = false ∧ s.belowCut j.source c = false ∧ s.mutedModules = false then
        ∃ x, t.media.txns.find (txnKey (s.poolOf j.source) p.nextTseq) = some x ∧ x.ops = [.snapCreate target j.source c] ∧ x.durable = false
      else t = s)
  ∧ (∀ (s : State) (v : Nat) (x : Vol) (l : List Nat) (p : Pool), s.vol v = some x → x.deleting = some (l, false) → s.pool x.pool = some p →
    s.space x.pool ≠ spReadOnly → s.mutedModules = false → s.guard.acts.any (fun a => decide (v ∈ a.vols ∧ a.st = .queued)) = false →
    answers (.snapDeleteStep v) s fun t =>
      t.vol v = some { x with deleting := some (l.drop 4, true) }
      ∧ ∃ y, t.media.txns.find (txnKey x.pool p.nextTseq) = some y ∧ y.ops = [.snapStep v (l.take 4)] ∧ y.vol = v)

/-- A die and bin that may be examined (R304, R305) is judged level by level: with too few errors a level stays; with UP above DN by more than
CAL_HYST it falls by one step, with DN above UP it rises by one, within 127 steps. The active slot and its offsets stay; where a level
moved, READ_LEVEL_SET for the inactive slot goes to the module. An update that the module refused is sent again. Before CAL_INTERVAL has
passed, nothing happens. -/
def Obligations.ThresholdsFollowTheReports : Prop :=
  ∀ (m d bin bgrp : Nat) (c : CalBin) (s : State), c = s.calBin m d bin → bin ≤ 7 →
  (s.since c.examined < s.fld R.CAL_INTERVAL 0 24 → (s.die m d).bins.has bin = true → answers (.calUpdate m d bin bgrp) s fun t => t = s)
  ∧ (s.fld R.CAL_INTERVAL 0 24 ≤ s.since c.examined ∨ (s.die m d).bins.has bin = false → s.levelPending (s.portAt m d) d bin = false →
    c.ok = false → s.slotRead (s.portAt m d) d (2 * bin + (1 - c.active)) = false → s.bit R.LD_CAL_CTRL 0 = true →
    answers (.calUpdate m d bin bgrp) s fun t =>
      (t.calBin m d bin).examined = s.now ∧ (t.calBin m d bin).active = c.active ∧ (t.calBin m d bin).offs = c.offs
      ∧ match c.sent with
        | some offs => (t.calBin m d bin).sent = some offs ∧ asked t (s.portAt m d) fun x =>
            x.opcode = opReadLevelSet ∧ x.die = d ∧ x.use = .readLevel bin ∧ x.arg % 16 = 2 * bin + (1 - c.active)
        | none => ∃ new : List Int, new.length = c.offs.length
          ∧ (∀ (i : Nat) (off : Int), c.offs[i]? = some off → ∀ u v : Nat, u = (c.up[i]?).getD 0 → v = (c.dn[i]?).getD 0 →
              new[i]? = some (if u + v < s.fld R.CAL_MIN_ERR 0 16 then off
                else if v * (1000 + s.fld R.CAL_HYST 0 10) < u * 1000 then max (-127) (min 127 (off - 1))
                else if u * (1000 + s.fld R.CAL_HYST 0 10) < v * 1000 then max (-127) (min 127 (off + 1))
                else max (-127) (min 127 off)))
          ∧ if new = c.offs then (t.calBin m d bin).sent = none
            else (t.calBin m d bin).sent = some new ∧ asked t (s.portAt m d) fun x =>
              x.opcode = opReadLevelSet ∧ x.die = d ∧ x.use = .readLevel bin ∧ x.arg % 16 = 2 * bin + (1 - c.active))

/-- A pass starts with COVER, COVERED and the pages read cleared on every block group, for PAT_PERIOD days (R308); its rate is what is left
over the time left (R309); at its end it is done, or late with PAT_LATE and PASS_LATE; RESTART asks for a new one. At an hour rollover a
written block group ages by the hours of its temperature (R311), each pool's governor computes E24, its daily budget, RATIO and DAYS, and
moves its stage by at most one step, or holds 0 while it is off (R321 to R324), and every module's record is updated. A read of the word
at 0x100 latches the 256 bytes of the selected record (R327). -/
def Obligations.PatrolWearAndHealthAreKept : Prop :=
  (∀ (s : State), answers .patrolPassStart s fun t =>
    if s.media.patrol.active = true then t = s
    else t.media.patrol.active = true ∧ t.media.patrol.endCal = s.calSec + s.fld R.PAT_PERIOD 0 5 * 86400 ∧ t.rd64 R.PAT_PASS_START = s.now
      ∧ t.rd R.PAT_PROGRESS = 0 ∧ ∀ m d g, (t.bg m d g).cover = 0 ∧ (t.bg m d g).covered = false ∧ (t.bg m d g).patPage = 0
        ∧ (t.bg m d g).erases = (s.bg m d g).erases)
  ∧ (∀ (s : State), s.media.patrol.active = true →
    (s.calSec < s.media.patrol.endCal → answers .patrolPace s fun t =>
        t.media.patrol.rate = s.patrolTotal * 65536 / ((s.media.patrol.endCal - s.calSec) * 250000) ∧ t.regs = s.regs)
    ∧ (s.media.patrol.endCal ≤ s.calSec → answers .patrolPassEnd s fun t =>
        t.media.patrol.active = false
        ∧ if (∀ x ∈ s.patrolGroups, s.patrolLeft x = 0) then t.bit (R.PG_EVENT 138) 0 = true ∧ t.rd R.PAT_LATE = s.rd R.PAT_LATE
          else t.bit (R.PG_EVENT 138) 1 = true ∧ t.rd R.PAT_LATE = incSat (s.rd R.PAT_LATE) ∧ captured s t 138 0x0100 0 0))
  ∧ (∀ (s : State), s.refuses 138 = false → answers .patRestart s fun t => t.media.patrol.restart = true ∧ t.regs = s.regs)
  ∧ (∀ (s : State), s.calSec % 3600 = 0 → answers .hourRollover s fun t =>
    (∀ x, s.patrolGroups.filter (fun y => decide (bgKey y.1 y.2.1 y.2.2.1 = bgKey x.1 x.2.1 x.2.2.1)) = [x] →
        (t.bg x.1 x.2.1 x.2.2.1).retAge = (s.bg x.1 x.2.1 x.2.2.1).retAge + agingHours (s.dieTemp (s.portAt x.1 x.2.1)) * 65536)
    ∧ ((s.media.pools.map Prod.fst).Nodup → ∀ pool p, s.pool pool = some p →
        ∀ wend days rem b e24 ratio, wend = (s.rd64 (R.WR_END (pool % 16))).toNat % 2 ^ 48 → days = max 30 ((wend - s.calSec) / 86400) →
          rem = s.ageGroups.wearRem pool p → b = rem * (1000 - s.fld (R.WR_MARGIN (pool % 16)) 0 10) / 1000 / days →
          e24 = (((s.media.wear.find pool).elim [] WearSt.hours).take 24).sum → ratio = (if b = 0 then 0xFFFF else min (e24 * 1000 / b) 0xFFFF) →
          t.rdN (R.WR_DAYS pool) = min days 65535 ∧ t.rdN (R.WR_BUDGET pool) = b % 2 ^ 32 ∧ t.rdN (R.WR_E24 pool) = e24 % 2 ^ 32
          ∧ t.rdN (R.WR_RATIO pool) = ratio
          ∧ ∃ n, ((t.media.wear.find pool).bind WearSt.stageNext) = some n
            ∧ if wend = 0 ∨ s.bit (R.WR_CTRL (pool % 16)) 0 = false ∨ s.bit R.CAL_STATUS 0 = false then n = 0
              else n ≤ s.fld (R.WR_STATE pool) 0 2 + 1 ∧ s.fld (R.WR_STATE pool) 0 2 ≤ n + 1
                ∧ (s.fld (R.WR_STATE pool) 0 2 = 0 → n = if 1000 < ratio then 1 else 0)
                ∧ (wend < s.calSec → t.bit (R.PG_EVENT 140) 2 = true))
    ∧ ∀ m h, s.media.health.find m = some h → ∃ h', t.media.health.find m = some h' ∧ h'.stride = s.now ∧ h'.cal = s.calSec)
  ∧ (∀ (s : State) (bs : List Byte), bs = (s.media.health.find (s.fld R.HL_SEL 0 5)).elim [] HealthRec.bytes → answers .hlRecLatch s fun t =>
    (∀ i < 64, t.rdN (R.HL_REC i) = ofLeBytes ((bs.drop (4 * i)).take 4))
    ∧ t.sent = Emit.regRead (R.HL_REC 0) (ofLeBytes (bs.take 4)) :: s.sent)

/-- A port whose link is DOWN and whose module is absent, refused or past the grace fails its member: the failure and its stride are noted,
MEMBER_FAILED is captured at L0, every segment with a member on it joins the rebuild set, and a NORMAL or RESHAPING pool is DEGRADED (R338
to R340); otherwise nothing happens. A credit rebuilds the next stripe of the set: in place on the substitutes, page by page, or by
relocation, which leaves the originals and may be BLOCKED (R345, R346, R349, R350). The holdoff ends by time or by REBUILD_NOW; SPARE_SET
sets or clears the hot spare; READMIT clears a failure where R352 allows it; the partner's SUBST is taken (R347). -/
def Obligations.MembersFailAndAreRebuilt : Prop :=
  (∀ (port pool m : Nat) (band : Option BandCopy) (p : Pool) (s : State), s.served port = some (pool, m) → s.pool pool = some p → p.failed.has m = false →
    answers (.memberFail port band) s fun t =>
      if s.lstate port = lsDown ∧ (s.bit (R.MLK_STATUS port) 3 = false ∨ (s.mlink port).refused = true
          ∨ ∃ at_, (s.mlink port).downAt = some at_ ∧ s.fld R.SP_REB_GRACE 0 18 ≤ s.since at_) then
        (∃ p', t.pool pool = some p' ∧ p'.failed.find m = some s.now ∧ p'.holdoffOver = false)
        ∧ captured s t 141 0x0102 0 m
        ∧ (∀ i g, s.seg i = some g → g.pool = pool → g.place.any (fun x => decide (x.module = m)) = true →
            ∃ g', t.seg i = some g' ∧ g'.rebuild = true ∧ g'.rebuilt = 0)
        ∧ (s.redund pool = rdNormal ∨ s.redund pool = rdReshaping → t.redund pool = rdDegraded ∧ t.bit (R.PG_EVENT 141) 1 = true)
      else t = s)
  ∧ (∀ (pool i : Nat) (lost : List Nat) (places : List (List Place)) (p : Pool) (g : Seg) (s : State), s.pool pool = some p →
    (s.rebuildMay pool).2 = true → s.rebuildPick pool p = some (i, g) → s.seg i = some g → g.live ≠ 0 → 100 ≤ p.credit →
    answers (.rebuildStripe pool lost [] false places) s fun t =>
      if g.place.any (fun x => p.failed.has x.module) = true ∧ (∀ x ∈ g.place, p.failed.has x.module = true → p.subst.has x.module = true)
          ∧ g.state ≠ .retired then
        g.rebuilt < g.stripes → (∃ g', t.seg i = some g' ∧ g'.rebuilt = g.rebuilt + 1)
          ∧ (∀ x ∈ g.place, p.failed.has x.module = true → asked t (s.portOf pool x.module) fun c =>
              c.opcode = opProgram ∧ c.die = x.die ∧ c.bgrp = x.bgrp ∧ c.page = g.rebuilt)
          ∧ ∃ p', t.pool pool = some p' ∧ p'.credit = p.credit - 100
      else p.holdoffOver = true ∨ s.fld R.SP_REB_HOLDOFF 0 12 = 0 ∨ g.place.any (fun x => p.failed.has x.module) = false →
        t.media.flash = s.media.flash ∧ t.media.refs = s.media.refs
        ∧ (t.bit (R.SP_STATE pool) 4 = true ∨ ∃ g', t.seg i = some g' ∧ g'.rebuilt = g.rebuilt + 1))
  ∧ (∀ (pool : Nat) (lost rewrite : List Nat) (withQ : Bool) (places : List (List Place)) (p : Pool) (s : State), s.pool pool = some p →
    p.credit < 100 → answers (.rebuildStripe pool lost rewrite withQ places) s fun t => t = s)
  ∧ (∀ (pool : Nat) (p : Pool) (s : State), s.pool pool = some p → answers (.rebuildHoldoffEnd pool) s fun t =>
    if p.failed.any (fun f => decide (s.fld R.SP_REB_HOLDOFF 0 12 * 250000 ≤ s.since f.2)) = true then
      t.pool pool = some { p with holdoffOver := true } ∧ t.regs = s.regs
    else t = s)
  ∧ (∀ (s : State), s.bit R.SP_CMD_STATUS 16 = true →
    ∀ c ∈ [Instr.rebuildNow, .spareSet, .readmit, .lossClear, .poolDelete false, .poolDelete true, .reshape false, .reshape true], answers c s fun t =>
      captured s t 141 0x0004 0 0 ∧ t.media = s.media)
  ∧ (∀ (p : Pool) (s : State), s.bit R.SP_CMD_STATUS 16 = false → s.pool s.spSel = some p →
    (answers .rebuildNow s fun t =>
      if p.failed ≠ [] ∧ p.holdoffOver = false ∧ s.fld R.SP_REB_HOLDOFF 0 12 ≠ 0 then
        spAnswered t St.success false ∧ t.pool s.spSel = some { p with holdoffOver := true }
      else spAnswered t St.invalidField false ∧ t.media = s.media)
    ∧ (answers .spareSet s fun t =>
      if argField s.spArgs 3 1 % 2 = 0 then spAnswered t St.success false ∧ t.pool s.spSel = some { p with spare := none }
      else if 24 ≤ argField s.spArgs 8 1 ∨ s.portActive (argField s.spArgs 8 1) = false ∨ s.portFree 16 (argField s.spArgs 8 1) = false then
        spAnswered t St.invalidField false ∧ t.media = s.media
      else spAnswered t St.success false ∧ (p.waitsSubst = none → t.pool s.spSel = some { p with spare := some (argField s.spArgs 8 1) }))
    ∧ (∀ m, m = argField s.spArgs 0 1 → answers .readmit s fun t =>
      if p.failed.has m = true ∧ s.portActive m = true ∧ m ∉ p.started ∧ (s.mlink m).refused = false
          ∧ (s.mlink m).ident.map Ident.serial = (s.mlink m).oldSerial then
        spAnswered t St.success false ∧ ∃ p', t.pool s.spSel = some p' ∧ p'.failed.has m = false
      else spAnswered t St.invalidField false ∧ t.media = s.media))
  ∧ (∀ (pool paddock module port serial q : Nat) (p : Pool) (s : State), q = (if paddock = s.headId then pool % 16 else pool % 16 + 16) →
    s.pool q = some p → answers (.tlSubst pool paddock module port serial) s fun t =>
      (s.spilling = false → t.pool q = some { p with subst := p.subst.put module port }) ∧ (pool % 16, paddock, module, port, serial) ∈ t.tandem.substs)

/-- POOL_CREATE is refused with INVALID_FIELD unless the definition, its ports and the partner allow it (R330, R359); admitted by the matrix
it defines the pool. POOL_DELETE needs a pool without volumes, and leaves no segment of it. RESHAPE needs a NORMAL pool, is refused with
QUOTA where LIVE does not fit (R356), and starts PREPARE; SWITCH makes the next SEG_SEQ the SWITCH_SEQ and the new layout the pool's;
MIGRATE leaves the originals; RESHAPE_DONE is set with the last old segment gone. A loss entry is resolved by the walk, cleared ones are
removed by LOSS_CLEAR, and 48 bytes are latched (R353, R354, R358). -/
def Obligations.PoolsAreDefinedReshapedAndListLosses : Prop :=
  (∀ (bands : List BandCopy) (differs : Bool) (x : PoolArgs) (s : State), s.bit R.SP_CMD_STATUS 16 = false → x = poolArgs s.spArgs →
    answers (.poolCreate bands differs) s fun t =>
      if 16 ≤ x.pool ∨ (s.pool x.pool).isSome = true ∨ x.shapeOk = false ∨ differs = true
          ∨ (∃ m ∈ x.modules ++ x.spare.toList, s.portActive m = false ∨ s.portFree 16 m = false) then
        spAnswered t St.invalidField false ∧ t.media = s.media
      else
        ∀ d, d = (s.actDecide { Activity.of actPoolConfig x.pool with op := 1, args := s.spArgs }).1 →
          (d = decRefused → spAnswered t St.busyRetry false ∧ t.media = s.media)
          ∧ (d = decQueued → spAnswered t St.success true ∧ t.media = s.media)
          ∧ (d ≠ decRefused → d ≠ decQueued → spAnswered t St.success false ∧ t.bit (R.FTL_POOL_STATE x.pool) 8 = true
              ∧ ∃ p, t.pool x.pool = some p ∧ p.layout = x.kind ∧ p.n = x.n ∧ p.modules = x.modules ∧ p.spare = x.spare ∧ p.failed = []
                ∧ p.nextTseq = 1 ∧ p.nextPage = 1))
  ∧ (∀ (pool : Nat) (differs : Bool) (s : State), s.bit R.SP_CMD_STATUS 16 = false → pool = argField s.spArgs 0 1 →
    answers (.poolDelete differs) s fun t =>
      if 16 ≤ pool ∨ (s.pool pool).isNone = true ∨ s.media.vols.any (fun v => decide (v.2.pool % 16 = pool)) = true ∨ differs = true then
        spAnswered t St.invalidField false ∧ t.media = s.media
      else
        ∀ d, d = (s.actDecide { Activity.of actPoolConfig pool with op := 2, args := s.spArgs }).1 → d ≠ decRefused → d ≠ decQueued →
          spAnswered t St.success false ∧ t.pool pool = none ∧ (∀ i g, t.seg i = some g → g.pool ≠ pool) ∧ t.rd (R.FTL_POOL_STATE pool) = 0
          ∧ t.media.vols = s.media.vols)
  ∧ (∀ (differs : Bool) (x : PoolArgs) (p : Pool) (s : State), s.bit R.SP_CMD_STATUS 16 = false → x = poolArgs s.spArgs → s.pool x.pool = some p →
    answers (.reshape differs) s fun t =>
      if p.phase ≠ .none ∨ s.redund x.pool ≠ rdNormal ∨ x.shapeOk = false ∨ differs = true
          ∨ (∃ m ∈ x.modules ++ x.spare.toList, s.portFree x.pool m = false) then spAnswered t St.invalidField false ∧ t.media = s.media
      else if s.reshapeTight p x = true then spAnswered t St.quota false ∧ t.media = s.media
      else
        ∀ d, d = (s.actStart { Activity.of actReshape x.pool with op := 3, args := s.spArgs }).2 → d ≠ decRefused → d ≠ decQueued →
          spAnswered t St.success false ∧ t.fld (R.SP_STATE x.pool) 2 2 = 1
          ∧ t.pool x.pool = some { p with reshape := some (x.kind, x.n, x.modules, x.spare), phase := .prepare })
  ∧ (∀ (pool : Nat) (bands : List BandCopy) (p : Pool) (k n : Nat) (ms : List Nat) (sp : Option Nat) (s : State), s.pool pool = some p →
    (s.reshapeMay pool).2 = true → p.reshape = some (k, n, ms, sp) → answers (.reshapePhaseEnd pool bands) s fun t =>
      (p.phase = .prepare → (∀ m ∈ ms, m ∈ p.modules ∨ s.portActive m = true) → t.fld (R.SP_STATE pool) 2 2 = 2
        ∧ ∃ p', t.pool pool = some p' ∧ p'.phase = .migrate ∧ p'.switchSeq = p.nextSeq ∧ p'.layout = k ∧ p'.n = n ∧ p'.modules = ms
            ∧ p'.reshape = some (p.layout, p.n, p.modules, p.spare))
      ∧ (p.phase = .migrate → s.oldSegs pool p = [] → t.bit (R.PG_EVENT 141) 4 = true ∧ ∃ p', t.pool pool = some p'
            ∧ (p'.phase = .finish ∨ p'.phase = .none))
      ∧ (p.phase = .finish → (∀ b ∈ p.band, b.module ∈ p.modules) → t.redund pool = rdNormal ∧ t.fld (R.SP_STATE pool) 2 2 = 0
            ∧ ∃ p', t.pool pool = some p' ∧ p'.phase = .none ∧ p'.reshape = none))
  ∧ (∀ (pool i : Nat) (lost : List Nat) (places : List (List Place)) (p : Pool) (g : Seg) (s : State), s.pool pool = some p → p.phase = .migrate →
    (s.reshapeMay pool).2 = true →
    bestSeg (fun _ => 0) ((s.oldSegs pool p).filter fun g => decide (g.2.state = .closed ∨ g.2.state = .selected) && !g.2.rebuild) = some (i, g) →
    answers (.reshapeMigrateStep pool lost places) s fun t =>
      t.media.flash = s.media.flash ∧ t.media.refs = s.media.refs ∧ (t.reclaimOf pool).seg = i
      ∧ (s.reclaimOf pool).copied <+: (t.reclaimOf pool).copied ∧ (s.seg i = some g → g.state = .closed → ∃ g', t.seg i = some g' ∧ g'.state = .selected))
  ∧ (∀ (pool index : Nat) (p : Pool) (x : Loss) (s : State), s.pool pool = some p → p.losses[index]? = some x → x.resolved = false → index < 1048576 →
    answers (.lossResolveWalk pool index) s fun t =>
      ∀ v g rest, (s.media.vols.flatMap fun v =>
          if v.2.pool = pool then (s.leafGrains pool x.page x.slot 4 v.2.root 0).map fun g => (v.1, g) else []) = (v, g) :: rest →
        ∃ p', t.pool pool = some p' ∧ p'.losses[index]? = some { x with vol := v, grain := g, resolved := true }
          ∧ p'.losses.length = min 1048576 (p.losses.length + rest.length))
  ∧ (∀ (p : Pool) (s : State), s.bit R.SP_CMD_STATUS 16 = false → s.pool s.spSel = some p → answers .lossClear s fun t =>
    spAnswered t St.success false ∧ t.pool s.spSel = some { p with losses := p.losses.filter fun x => !x.cleared })
  ∧ (∀ (p : Pool) (x : Loss) (s : State), s.pool s.spSel = some p → p.losses[s.fld R.SP_LOSS_SEL 0 20]? = some x → answers .spLossDataLatch s fun t =>
    (∀ i < 12, t.rdN (R.SP_LOSS_DATA i) = ofLeBytes ((x.bytes.drop (4 * i)).take 4))
    ∧ t.sent = Emit.regRead (R.SP_LOSS_DATA 0) (ofLeBytes (x.bytes.take 4)) :: s.sent)

/-- A valid beat on an enabled rein sets the rein's last stride and BSEQ and the partner's role, flags and modules, and a follower whose
stride number differs places STRIDE_MISMATCH at L4 (R32, R370); an invalid one is counted and captured at L1. A rein without a valid beat
for 512 strides is silent, REIN_DOWN at L1 while it is the only one (R373). HEAD_OK_IN, FENCE_IN and the alignment of Rein B show in their
registers, a low HEAD_OK_IN lets restarted beats in, a FENCE_IN pulse is due as L4 in a role other than INIT and FENCED, and FENCE_OUT
falls as R372 has it. -/
def Obligations.ReinsAndPinsAreWatched : Prop :=
  (∀ (rein : Nat) (b : List Byte) (ago : Nat) (s : State), rein < 2 → s.bit R.RN_CTRL rein = true → (rein = 0 → s.spilling = false) →
    answers (.reinBeatRx rein b ago) s fun t =>
    if s.beatValid rein b = true then
      (if rein = 0 then t.tandem.bseqA = beatField b 16 4 else t.tandem.bseqB = beatField b 16 4)
      ∧ t.rd64 (if rein = 0 then R.RN_LAST_A else R.RN_LAST_B) = BitVec.ofNat 64 (beatField b 8 8) ∧ t.bit R.RN_STATUS rein = true
      ∧ t.tandem.beat = some { role := beatField b 6 1, flags := beatField b 20 4, mods := beatField b 24 4 % 2 ^ 24,
                               stride := BitVec.ofNat 64 (beatField b 8 8) }
      ∧ ((s.role = roleTandem ∨ s.role = roleStandby) → s.isMaster = false → s.sync ≠ syncAcquire →
          BitVec.ofNat 64 (beatField b 8 8) ≠ s.now - BitVec.ofNat 64 ago → captured s t 152 0x0102 4 rein)
    else t.rd R.RN_AUTH_FAIL = incSat (s.rd R.RN_AUTH_FAIL) ∧ t.bit (R.PG_EVENT 152) 4 = true ∧ captured s t 152 0x0101 1 rein
      ∧ t.tandem.beat = s.tandem.beat ∧ t.rd64 R.RN_LAST_A = s.rd64 R.RN_LAST_A ∧ t.rd64 R.RN_LAST_B = s.rd64 R.RN_LAST_B)
  ∧ (∀ (rein : Nat) (was other : Bool) (s : State), rein < 2 → was = (if rein = 0 then s.tandem.silentA else s.tandem.silentB) →
    other = (if rein = 0 then s.tandem.silentB else s.tandem.silentA) → answers (.reinSilent rein) s fun t =>
      if was = true ∨ s.since (s.rd64 (if rein = 0 then R.RN_LAST_A else R.RN_LAST_B)) < 512 then t = s
      else (if rein = 0 then t.tandem.silentA else t.tandem.silentB) = true ∧ t.bit R.RN_STATUS rein = false
        ∧ t.bit (R.PG_EVENT 152) rein = true ∧ (other = false → captured s t 152 0x0100 1 rein ∧ t.role = s.role))
  ∧ (∀ (high : Bool) (s : State), answers (.headOkInChange high) s fun t =>
    if s.headOkIn = high then t = s
    else t.headOkIn = high ∧ t.bit (R.PG_EVENT 152) 5 = true ∧ (high = false → t.tandem.lowA = true ∧ t.tandem.lowB = true))
  ∧ (∀ s : State, answers .fenceInHigh s fun t =>
    t.bit R.RN_STATUS 3 = true ∧ t.tandem.fenceInSeen = true ∧ t.role = s.role
    ∧ t.tandem.fenceInDue = (s.tandem.fenceInDue || decide (1 ≤ s.role ∧ s.role ≤ 4)))
  ∧ (∀ s : State, answers .fenceInFall s fun t =>
    t.bit R.RN_STATUS 3 = false ∧ t.tandem.fenceInSeen = false ∧ t.tandem.fenceInDue = s.tandem.fenceInDue)
  ∧ (∀ s : State, answers .fenceOutRelease s fun t =>
    if s.bit R.RN_STATUS 5 = true ∧ s.tandem.takeovers = [] ∧ s.tandem.arbWon = false ∧ s.headOkIn = false then
      t.bit R.RN_STATUS 5 = false ∧ t.headOkIn = false ∧ t.tandem = s.tandem
    else t = s)
  ∧ (∀ (sync : Bool) (s : State), answers (.reinbSyncChange sync) s fun t => t.bit R.RN_B_LINK 0 = sync ∧ t.tandem = s.tandem)

/-- A head in INIT joins as TANDEM or STANDBY only under the conditions of R374, with MIRROR_UP where both Cisterns have one size (R148), or
takes over after TD_JOIN_WAIT; TAKEOVER and a tie that ends make it SOLE with FENCE_OUT and its raises (R374, R377, R380); TAKEOVER_DONE
admits the writes held. A raise without an answer for 2 strides captures RAISE_TIMEOUT at L1 and loses the module, and is sent again after
250 (R376). On a split link the head with fewer ACTIVE ports fences itself (R378). An L4, or TD OP 5, fences the head: HEAD_OK low, no
injection, no staging, no remount (R379, R399). TANDEM_CPL_POST posts once (R384). -/
def Obligations.RolesAreJoinedAndTakenOver : Prop :=
  (∀ (vols : Amap Vol) (s : State), answers (.joinTandem vols) s fun t =>
    if s.mayJoin = true ∧ s.heldByMajority s.headId s.headId = true ∧ s.tlActive = true ∧ s.synced = true
        ∧ (s.tandem.beat.elim false fun b => decide (b.role = roleInit ∨ b.role = roleTandem)) = true then
      t.role = roleTandem ∧ t.tandem.held = [s.headId] ∧ t.bit R.CIST_STATUS 0 = decide (s.tandem.mateGib = s.fld R.CIST_CFG 0 5)
      ∧ (t.tandem.fencing = false → t.bit R.RN_STATUS 4 = true)
      ∧ ∀ v x, s.vol v = some x → t.vol v = some x
    else t = s)
  ∧ (∀ (vols : Amap Vol) (s : State), answers (.joinStandby vols) s fun t =>
    if s.mayJoin = true ∧ s.heldByMajority 0 (1 - s.headId) = true ∧ s.heldByMajority 1 (1 - s.headId) = true ∧ s.tlActive = true
        ∧ s.synced = true then
      t.role = roleStandby ∧ t.tandem.held = [] ∧ t.bit (R.PG_EVENT 153) 5 = true
    else t = s)
  ∧ (∀ s : State, answers .joinWaitTimeout s fun t =>
    if s.mayJoin = true ∧ s.bothSilent = true ∧ s.headOkIn = false ∧ s.rdN R.TD_JOIN_WAIT ≤ s.since (s.rd64 R.RN_LAST_A)
        ∧ s.rdN R.TD_JOIN_WAIT ≤ s.since (s.rd64 R.RN_LAST_B) then
      survives { s with tandem := { s.tandem with held := if s.heldByMajority s.headId s.headId = true then [s.headId] else [] } } t
    else t = s)
  ∧ (∀ s : State, answers .takeover s fun t =>
    if (s.role = roleTandem ∨ s.role = roleStandby) ∧ s.headOkIn = false ∧ (s.bothSilent = true ∨ s.tandem.split = true)
        ∧ s.tandem.fencing = false then survives s t ∧ t.tandem.split = false
    else t = s)
  ∧ (∀ (x : DWord) (s : State), s.tandem.tie = some x → answers .arbTieWait s fun t =>
    if s.role = roleArbitrate ∧ s.headId = 0 ∧ s.headOkIn = false ∧ s.since x ≤ 250 ∧ s.tandem.fencing = false then
      survives s t ∧ t.tandem.tie = none
    else t = s)
  ∧ (∀ (data : PaddockData) (s : State), answers (.takeoverDone data) s fun t =>
    if s.tandem.takeovers = [] ∨ s.tandem.takeovers.all Takeover.applied = false ∨ s.tandem.fencing = true then t = s
    else t.tandem.takeovers = [] ∧ t.bit (R.PG_EVENT 153) 2 = true ∧ t.tandem.anaDue = true
      ∧ ∀ v x, t.vol v = some x → t.padOf x.pool ∈ s.tandem.takeovers.map Takeover.paddock → x.held = false)
  ∧ (∀ (q port : Nat) (r : Raise) (s : State), s.tandem.raises.find (epKey q port) = some r →
    (answers (.raiseTimeout q port) s fun t =>
      if r.st = .waiting ∧ 2 ≤ s.since r.sent then captured s t 153 0x0103 1 port ∧ epKey q port ∈ t.tandem.lostMods else t = s)
    ∧ (answers (.raiseRetry q port) s fun t =>
      if r.st = .timedOut ∧ 250 ≤ s.since r.sent then
        ∃ r' : Raise, t.tandem.raises.find (epKey q port) = some r' ∧ r'.st = .waiting ∧ r'.sent = s.now ∧ r'.asked = s.epochOf q port + 1
          ∧ r'.toOther = r.toOther
      else t = s))
  ∧ (∀ (mine theirs : Nat) (s : State), mine = ((List.range 24).filter fun m => decide (s.lstate m = lsActive)).length →
    theirs = (s.tandem.beat.elim 0 fun b => ((List.range 24).filter fun i => decide (b.mods / 2 ^ i % 2 = 1)).length) →
    answers .tlLinkDownSplit s fun t =>
      if s.role ≠ roleTandem ∨ s.tlActive = true ∨ s.since s.tandem.tl.since < 25000 ∨ s.tandem.silentB = true ∨ s.tandem.fencing = true then t = s
      else if mine < theirs ∨ (mine = theirs ∧ s.headId = 1) then captured s t 153 0x0102 4 0 ∧ fencedOff t
      else if s.headOkIn = false then survives s t else t.tandem.split = true ∧ t.role = s.role)
  ∧ (∀ (page code sub : Nat) (s : State), page < 251 → answers (.fenceHead page code sub) s fun t => captured s t page code 4 sub ∧ fencedOff t)
  ∧ (∀ s : State, s.bit R.TD_CMD_STATUS 16 = false → answers .selfFence s fun t => captured s t 153 0x0105 4 0 ∧ fencedOff t)
  ∧ (∀ (qpn cid tsn : Nat) (s : State), answers (.tandemCplPost qpn cid tsn) s fun t =>
    if s.tandem.twins.has qpn = true ∧ (qpn, cid, tsn) ∉ s.tandem.twinPosted ∧ s.bit R.CIST_STATUS 2 = true
        ∧ (s.tandem.beat.elim false fun b => decide (b.flags % 2 = 1)) = true ∧ s.twinHas cid tsn = true ∧ s.stopped = false then
      t.sent = .twin qpn cid tsn :: s.sent ∧ (qpn, cid, tsn) ∈ t.tandem.twinPosted ∧ t.rd R.TD_TCPL_SENT = incSat (s.rd R.TD_TCPL_SENT)
    else t = s)

/-- A forwarded command for a volume that this head does not own, or while it is stopped, is answered HEAD_FENCED; a repeat of one changes
nothing but the count (R382). Its acceptance has the data of a write fetched; its data goes to the next part of a write as an arrival of
data, or to the host of a read; its completion completes the command with that status, the TSN as result where R384 has one; 250 strides
after the link went down it completes with BUSY_RETRY (R383). Reference changes enter the next map transaction of their pool, and those
acknowledged are forgotten (R367). -/
def Obligations.CommandsAndChangesCrossTheLink : Prop :=
  (∀ (id : Nat) (img : CmdImg) (fn queue vol : Nat) (s : State), s.spilling = false → answers (.tlFwdCmd id img fn queue vol) s fun t =>
    t.rd R.TL_FWD_RCVD = incSat (s.rd R.TL_FWD_RCVD)
    ∧ (if s.owns vol = false ∨ s.stopped = true then
        t.front.cmds = s.front.cmds ∧ t.cist = s.cist ∧ (s.tlActive = true → given t (.fwdCpl id St.headFenced 0))
      else if s.tandem.fwdIn.has id = true then t.front = s.front ∧ t.cist = s.cist
      else s.front.nextCmd < t.front.nextCmd))
  ∧ (∀ (id n g k : Nat) (c : HostCmd) (s : State), s.tandem.fwdOut.find id = some n → s.cmd n = some c → c.stage = .forwarded → c.img.op = .write → s.spilling = false →
    c.img.inCapsule = none → (g, k) = grainSpan (s.cmdFormat c) c.img.slba c.img.blocks → k ≠ 0 → answers (.tlFwdAccept id) s fun t =>
      ∀ i ≤ (g + k - 1) / 256 - g / 256, Emit.dataFetch n i ∈ t.sent)
  ∧ (∀ (id index mask n q : Nat) (data : List Byte) (pi : List (Nat × Nat × Nat)) (after unit bad : Nat) (units : List Nat)
      (s : State), s.spilling = false → s.tandem.fwdIn.find id = some n → s.nextPart n = some q →
      exec (.tlFwdData id index mask data pi after unit bad units) s = exec (.dataArrive q data pi after unit bad units) s)
  ∧ (∀ (id index mask n : Nat) (data : List Byte) (pi : List (Nat × Nat × Nat)) (after unit bad : Nat) (units : List Nat)
      (c : HostCmd) (s : State), s.spilling = false → s.isStale c = false → s.tandem.fwdIn.find id = none → s.tandem.fwdOut.find id = some n → s.cmd n = some c → c.img.op = .read →
      answers (.tlFwdData id index mask data pi after unit bad units) s fun t => Emit.readData c.src index mask data pi ∈ t.sent)
  ∧ (∀ (id status tsn n : Nat) (c : HostCmd) (s : State), s.tandem.fwdOut.find id = some n → mayComplete s n c →
    answers (.tlFwdCpl id status tsn) s fun t =>
      completed t n c status (if s.tandemCpl c = true ∧ status = 0 ∧ c.fua = false ∧ c.img.op.weirClass = some wWr then tsn else 0)
      ∧ t.tandem.fwdOut.find id = none)
  ∧ (∀ (id n : Nat) (c : HostCmd) (s : State), s.tandem.fwdOut.find id = some n → mayComplete s n c → answers (.fwdLinkDownTimeout id) s fun t =>
    if s.tlActive = true ∨ s.since s.tandem.tl.since < 250 then t = s
    else completed t n c St.busyRetry 0 ∧ t.tandem.fwdOut.find id = none)
  ∧ (∀ (d : RefDelta) (i : Nat) (g : Seg) (p : Pool) (s : State), s.spilling = false → s.segAt d.addr = some (i, g) → s.pool g.pool = some p →
    answers (.tlRefDelta [d]) s fun t => t.regs = s.regs
      ∧ ∃ x, t.media.txns.find (txnKey g.pool p.nextTseq) = some x ∧ x.ops = [.refChange d.addr d.delta d.tseq] ∧ x.pool = g.pool)
  ∧ (∀ (tseq : Nat) (a z : List RefDelta) (d : RefDelta) (s : State), s.spilling = false → s.tandem.refOut = a ++ d :: z → d.tseq = tseq → d.sent = true →
    (∀ x ∈ z, ¬ (x.tseq = tseq ∧ x.sent = true)) → answers (.tlRefAck tseq) s fun t => t.tandem.refOut = z ∧ t.regs = s.regs)
  ∧ (∀ (last : Nat) (s : State), answers (.tlResyncDone last) s fun t =>
    if s.role = roleStandby ∧ s.spilling = false then t.bit R.TD_STATE 5 = true ∧ t.bit (R.PG_EVENT 153) 6 = true else t = s)
  ∧ (∀ (batch g : Nat) (x : Group) (s : State), s.spilling = false → s.tandem.groups.find g = some x → answers (.tlClosed batch) s fun t =>
    t.tandem.groups.find g = some { x with closedPartner := max x.closedPartner batch } ∧ t.regs = s.regs)
  ∧ (∀ (b : BeatSeen) (s : State), s.spilling = false → s.tandem.beat = some b → answers .tlLeave s fun t =>
    ∃ b', t.tandem.beat = some b' ∧ b'.flags / 32 % 2 = 1 ∧ b'.role = b.role)

/-- While BUSY = 1 a TD command is discarded and WRITE_DISCARDED is captured; an OP that is not listed answers INVALID_FIELD (R399). TWIN_SET
pairs a queue pair of KIND 1 created with TANDEM_CPL, TWIN_CLEAR removes the pair, and TD_TWINS follows. SWITCH_BACK and HANDOVER are
accepted under R399, decided by the matrix, and start DRAIN; below 64 entries of moving volumes their admission is held; with none every
pool's checkpoint is asked for; with both roots written each module of ARB_SET is raised to the other head (R387); a transfer that passes
TD_HOLD_MAX before a raise is aborted (R388). TRANSFER makes the epochs due at the taker. -/
def Obligations.PaddocksAreTransferred : Prop :=
  (∀ s : State, s.bit R.TD_CMD_STATUS 16 = true → ∀ c ∈ [Instr.twinSet, .twinClear, .switchBack, .handover, .selfFence, .tdCmdInvalid],
    answers c s fun t => captured s t 153 0x0004 0 0 ∧ t.tandem.twins = s.tandem.twins ∧ t.tandem.transfer = s.tandem.transfer ∧ t.media = s.media)
  ∧ (∀ s : State, s.bit R.TD_CMD_STATUS 16 = false →
    (answers .tdCmdInvalid s fun t => t.rdN R.TD_CMD_STATUS = St.invalidField ∧ t.tandem = s.tandem ∧ t.media = s.media)
    ∧ (answers .twinSet s fun t =>
      if (s.front.qps.find (s.rdN (R.TD_ARG 0))).elim false (fun x => x.tandemCpl && decide (x.kind = 1)) = true then
        t.tandem.twins.find (s.rdN (R.TD_ARG 0)) = some (s.rdN (R.TD_ARG 1)) ∧ tdAnswered t St.success false ∧ t.bit (R.PG_EVENT 153) 0 = true
        ∧ t.rdN R.TD_TWINS = t.tandem.twins.length % 2 ^ 32
      else tdAnswered t St.invalidField false ∧ t.tandem = s.tandem)
    ∧ (answers .twinClear s fun t =>
      if s.tandem.twins.find (s.rdN (R.TD_ARG 0)) = some (s.rdN (R.TD_ARG 1)) then
        t.tandem.twins.find (s.rdN (R.TD_ARG 0)) = none ∧ tdAnswered t St.success false ∧ t.bit (R.PG_EVENT 153) 0 = true
        ∧ t.rdN R.TD_TWINS = t.tandem.twins.length % 2 ^ 32
      else tdAnswered t St.invalidField false ∧ t.tandem = s.tandem))
  ∧ (∀ (d : Nat) (s : State), s.bit R.TD_CMD_STATUS 16 = false → d = (s.actStart (s.transferAct 1)).2 → answers .switchBack s fun t =>
    if s.role = roleSole ∧ s.partnerRole = roleStandby ∧ s.bit R.TD_STATE 5 = true ∧ s.tandem.transfer = none then
      if d = decRefused then tdAnswered t St.busyRetry false ∧ t.tandem = s.tandem
      else if d = decQueued then tdAnswered t St.success true ∧ t.tandem = s.tandem
      else tdAnswered t St.success false ∧ t.tandem.transfer = some
        { paddock := 1 - s.headId, giver := true, handover := false, phase := .drain, holdAt := s.now, raised := false }
    else tdAnswered t St.invalidField false ∧ t.tandem = s.tandem)
  ∧ (∀ (d : Nat) (s : State), s.bit R.TD_CMD_STATUS 16 = false → d = (s.actStart (s.transferAct 2)).2 → answers .handover s fun t =>
    if s.role = roleTandem ∧ s.partnerRole = roleTandem ∧ s.bit R.CIST_STATUS 0 = true ∧ s.tandem.transfer = none then
      if d = decRefused then tdAnswered t St.busyRetry false ∧ t.tandem = s.tandem
      else if d = decQueued then tdAnswered t St.success true ∧ t.tandem = s.tandem
      else tdAnswered t St.success false ∧ t.tandem.transfer = some
        { paddock := s.headId, giver := true, handover := true, phase := .drain, holdAt := s.now, raised := false }
    else tdAnswered t St.invalidField false ∧ t.tandem = s.tandem)
  ∧ (∀ (x : Transfer) (s : State), s.tandem.transfer = some x → x.giver = true →
    (x.phase = .drain → answers .transferDrainEnd s fun t =>
      if s.movingLeft < 64 then
        t.tandem.transfer = some { x with phase := .hold, holdAt := s.now } ∧ t.regs = s.regs
        ∧ ∀ v y, s.vol v = some y → t.vol v = some (if s.moving v = true then { y with held := true } else y)
      else t = s)
    ∧ (x.phase = .hold → answers .transferHoldEnd s fun t =>
      if s.movingLeft = 0 then t.tandem.transfer = some { x with phase := .checkpoint } ∧ t.media.vols = s.media.vols
        ∧ ∀ q p, t.pool q = some p → s.padOf q = x.paddock ∨ s.padOf q = 1 - x.paddock → p.ckpt ≠ .idle
      else t = s)
    ∧ (x.phase = .checkpoint → answers .transferCheckpointEnd s fun t =>
      if (s.media.txns.any fun y => decide (s.padOf y.2.pool = x.paddock)) = true ∨ (s.media.pools.any fun y => decide (y.2.ckpt ≠ .idle)) = true then t = s
      else t.tandem.transfer = some { x with phase := .raise, raised := true }
        ∧ ∀ m ∈ s.arbSet, ∃ r : Raise, t.tandem.raises.find (epKey x.paddock m) = some r ∧ r.toOther = true ∧ r.st = .waiting
            ∧ r.asked = s.epochOf x.paddock m + 1)
    ∧ (answers .transferAbort s fun t =>
      if (x.phase = .hold ∨ x.phase = .checkpoint) ∧ s.fld R.TD_HOLD_MAX 0 16 < s.since x.holdAt then
        t.tandem.transfer = none ∧ t.bit (R.PG_EVENT 153) 8 = true ∧ t.bit (R.PG_EVENT 153) 0 = true
        ∧ ∀ v y, s.vol v = some y → t.vol v = some (if s.moving v = true then { y with held := false } else y)
      else t = s))
  ∧ (∀ (q : Nat) (eps roots : List Nat) (data : PaddockData) (s : State), answers (.tlTransfer q eps roots data) s fun t =>
    if 2 ≤ q ∨ s.spilling = true ∨ s.holds q = true ∨ (s.role ≠ roleStandby ∧ s.role ≠ roleTandem) ∨ s.tandem.transfer.isSome = true then t = s
    else t.tandem.transfer = some { paddock := q, giver := false, handover := decide (s.role = roleTandem), phase := .take, holdAt := s.now,
                                    raised := true }
      ∧ ∀ m ∈ t.arbSet, ∃ e : Epoch, t.tandem.epochs.find (epKey q m) = some e ∧ e.next = some ((eps[m]?).getD 0) ∧ e.holder = some s.headId)

/-- While BUSY = 1 an RP command is discarded and WRITE_DISCARDED is captured. A group is created, filled, emptied, suspended, resumed,
promoted and deleted, each refused with INVALID_FIELD in the wrong state (R389, R393, R396, R400). An answer of the remote ends the
records that it covers and, after the last, a resynchronisation (R391, R393). A record not answered in RP_SYNC_TMO suspends its group at
the next commit point; with FAIL_HOLD a write that waited ends with BUSY_RETRY after 25,000 strides (R393). A batch is closed at its
boundary, CLOSED goes once, the seal when all is acknowledged (R394). -/
def Obligations.GroupsReplicate : Prop :=
  (∀ s : State, s.bit R.RP_CMD_STATUS 16 = true →
    ∀ c ∈ [Instr.groupCreate, .groupDelete, .volAdd, .volRemove, .replSuspend, .replResume, .replPromote], answers c s fun t =>
      captured s t 154 0x0004 0 0 ∧ t.tandem.groups = s.tandem.groups)
  ∧ (∀ (g : Nat) (s : State), s.bit R.RP_CMD_STATUS 16 = false → g = s.rpSel →
    (answers .groupCreate s fun t =>
      if s.rpState g ≠ rpOff then rpAnswered t St.invalidField ∧ t.tandem = s.tandem
      else rpAnswered t St.success ∧ t.bit (R.PG_EVENT 154) 0 = true
        ∧ t.rpState g = (if s.bit (R.RP_ARG 0) 0 = true then rpCopying else rpActive) ∧ (t.group g).vols = [] ∧ (t.group g).recs = [])
    ∧ (answers .groupDelete s fun t =>
      if s.rpState g = rpOff then rpAnswered t St.invalidField ∧ t.tandem = s.tandem
      else rpAnswered t St.success ∧ t.rpState g = rpOff ∧ t.tandem.groups.find g = none)
    ∧ (answers .volAdd s fun t =>
      if s.rpState g = rpOff ∨ s.vol (s.rdN (R.RP_ARG 0)) = none ∨ (s.groupOf (s.rdN (R.RP_ARG 0))).isSome = true ∨ 256 ≤ (s.group g).vols.length
          ∨ 2 ^ 24 ≤ s.rdN (R.RP_ARG 1) then rpAnswered t St.invalidField ∧ t.tandem = s.tandem
      else rpAnswered t St.success ∧ (t.group g).vols.find (s.rdN (R.RP_ARG 0)) = some (s.rdN (R.RP_ARG 1)))
    ∧ (answers .volRemove s fun t =>
      if s.rpState g = rpOff ∨ (s.group g).vols.find (s.rdN (R.RP_ARG 0)) ≠ some (s.rdN (R.RP_ARG 1)) then
        rpAnswered t St.invalidField ∧ t.tandem = s.tandem
      else rpAnswered t St.success ∧ (t.group g).vols.find (s.rdN (R.RP_ARG 0)) = none
        ∧ ∀ r ∈ (t.group g).recs, r.vol ≠ s.rdN (R.RP_ARG 0))
    ∧ (answers .replSuspend s fun t =>
      if s.rpState g = rpOff ∨ s.rpState g = rpPromoted ∨ s.rpState g = rpSuspended then rpAnswered t St.invalidField ∧ t.tandem = s.tandem
      else rpAnswered t St.success ∧ t.rpState g = rpSuspended ∧ t.bit (R.PG_EVENT 154) 1 = true ∧ (t.group g).recs = []
        ∧ ∀ r ∈ (s.group g).recs, r.acked = false → ∀ m ∈ markRanges r.vol r.grain r.count, m ∈ (t.group g).marks)
    ∧ (∀ d, d = (s.actStart (replAct g)).2 → answers .replResume s fun t =>
      if s.rpState g ≠ rpSuspended then rpAnswered t St.invalidField ∧ t.tandem = s.tandem
      else if d = decRefused then rpAnswered t St.busyRetry ∧ t.tandem = s.tandem
      else if d = decQueued then rpAnswered t St.success ∧ t.tandem = s.tandem
      else rpAnswered t St.success ∧ (t.rpState g = rpResync ∨ t.rpState g = rpActive) ∧ (t.group g).marks = [])
    ∧ (answers .replPromote s fun t =>
      if s.rpState g = rpPromoted then rpAnswered t St.invalidField ∧ t.tandem = s.tandem
      else rpAnswered t St.success ∧ t.rpState g = rpPromoted ∧ (t.group g).received = [] ∧ (t.group g).heldSeals = []
        ∧ ∀ v ∈ (s.group g).vols.map Prod.fst, ∀ x, t.vol v = some x → x.replTarget = false))
  ∧ (∀ (g rseq : Nat) (s : State), s.tandem.groups.has g = true → answers (.syncAckRx g rseq) s fun t =>
    (∀ r ∈ (t.group g).recs, r.rseq ≠ rseq)
    ∧ ((s.rpState g = rpResync ∨ s.rpState g = rpCopying) → (s.group g).marks = [] →
        (∀ r ∈ (s.group g).recs, r.rseq / 2 ^ 62 % 2 = 1 → r.rseq = rseq ∨ r.acked = true) → t.rpState g = rpActive))
  ∧ (∀ (g batch : Nat) (s : State), s.tandem.groups.has g = true →
    (answers (.stagedRx g batch) s fun t => t.rd64 (R.RP_LAST_STAGED g) = BitVec.ofNat 64 batch
      ∧ ∀ r ∈ (t.group g).recs, r.batch = 0 ∨ batch < r.batch)
    ∧ (answers (.appliedRx g batch) s fun t => t.rd64 (R.RP_LAST_APPLIED g) = BitVec.ofNat 64 batch ∧ t.bit (R.PG_EVENT 154) 3 = true))
  ∧ (∀ (g : Nat) (s : State), answers (.syncTimeout g) s fun t =>
    if (s.group g).recs.any (fun r => r.issued && !r.acked && decide (s.fld (R.RP_SYNC_TMO g) 0 16 ≤ s.since r.sent)) = true
        ∧ s.bit (R.RP_CFG g) 1 = false ∧ (s.rpState g = rpActive ∨ s.rpState g = rpCopying ∨ s.rpState g = rpResync)
        ∧ (s.group g).suspendNext = false then (t.group g).suspendNext = true ∧ captured s t 154 0x0100 0 (g % 256)
    else t = s)
  ∧ (∀ (n : Nat) (c : HostCmd) (held : List Part) (s : State), s.tandem.groups.sorted = true → mayComplete s n c →
    held = ((s.partsOf n).filter fun p => (s.groupOf p.2.vol).elim false fun g =>
      decide (s.rpState g = rpSuspended) && s.bit (R.RP_CFG g) 2 && !s.bit (R.RP_CFG g) 1).map Prod.snd →
    answers (.failHoldTimeout n) s fun t =>
      if c.stage = .checked ∧ c.granted = c.parts ∧ c.committed + c.discarded = c.parts ∧ held ≠ [] ∧ 25000 ≤ s.since c.admittedAt then
        completed t n c St.busyRetry 0
        ∧ ∀ p ∈ held, ∀ g, s.groupOf p.vol = some g → ∀ m ∈ markRanges p.vol p.first p.count, m ∈ (t.group g).marks
      else t = s)
  ∧ (∀ (g : Nat) (s : State), (∀ x, s.tandem.groups.find g = some x → s.isBoundary g s.now.toNat = true → s.async g = true → x.closedOwn < s.now.toNat →
      answers (.batchBoundary g) s fun t =>
        if s.closedAt s.now.toNat = true then
          (t.group g).closedOwn = s.now.toNat ∧ (s.tlActive = true → s.spilling = false → given t (.closed s.now.toNat))
        else t = s)
    ∧ (¬ (s.isBoundary g s.now.toNat = true ∧ s.async g = true) → answers (.batchBoundary g) s fun t => t = s))
  ∧ (∀ (b g : Nat) (x : Group) (s : State), s.tandem.groups.find g = some x → s.async g = true → s.isBoundary g b = true → x.closedOwn < b →
    b ≤ s.now.toNat → answers (.closedSend b) s fun t =>
      if s.closedAt b = true then (t.group g).closedOwn = b ∧ (s.tlActive = true → s.spilling = false → given t (.closed b)) else t = s)
  ∧ (∀ (g b : Nat) (s : State), answers (.sealSend g b) s fun t =>
    if s.async g = true ∧ s.isBoundary g b = true ∧ (s.group g).sealed < b ∧ b ≤ (s.group g).closedOwn
        ∧ (b ≤ (s.group g).closedPartner ∨ s.clock.partnerLost = true)
        ∧ (∀ r ∈ (s.group g).recs, r.batch ≠ 0 → r.batch ≤ b → r.onWire = true) ∧ (s.group g).sealAcked = true then
      (t.group g).sealed = b ∧ (t.group g).sealAcked = false ∧ (t.group g).batchSeq = ((s.group g).batchSeq + 1) % 2 ^ 32
      ∧ Emit.seal (s.fld (R.RP_QP g) 0 24) (((s.group g).batchSeq + 1) % 2 ^ 32) (sealOf b (((s.group g).batchSeq + 1) % 2 ^ 32)
          ((s.group g).recs.filter fun r => decide (r.batch ≠ 0 ∧ r.batch ≤ b))).image ∈ t.sent
    else t = s)

/-- A record that fails its CRC is captured at L1 and discarded (R401); a promoted group refuses it (R396); a SYNC record already admitted is
acknowledged again, a new one becomes a part of this array under the next CSEQ with its lock in the in-flight table, its volume a
replication target (R392); a record of a batch is kept until its seal, and counted as a duplicate where it is kept or staged already
(R395). A staged entry of a closed batch becomes a part that no command waits for, and a batch all of whose parts have gone is APPLIED
(R395). -/
def Obligations.RecordsAreTakenAsRemote : Prop :=
  (∀ (image : List Byte) (g rseq batch vol loc : Nat) (e : Part) (s : State), g = leAt image 24 1 → rseq = leAt image 8 8 →
    batch = leAt image 16 8 → vol = leAt image 28 3 → e = readEntry (image.drop 64) →
    (recordOk image = false → answers (.replRecordRx image loc) s fun t =>
      captured s t 154 0x0101 1 g ∧ t.tandem.groups = s.tandem.groups ∧ t.cist.parts = s.cist.parts)
    ∧ (recordOk image = true → s.rpState g = rpPromoted → answers (.replRecordRx image loc) s fun t => t = s)
    ∧ (recordOk image = true → s.rpState g ≠ rpPromoted → batch ≠ 0 → answers (.replRecordRx image loc) s fun t =>
      if batch ≤ (s.group g).lastStaged ∨ (s.group g).received.any (fun r => decide (r.1 = rseq)) = true then
        t.rd (R.RP_DUP_DISCARD g) = incSat (s.rd (R.RP_DUP_DISCARD g)) ∧ t.tandem = s.tandem ∧ t.cist = s.cist
      else (t.group g).received = (s.group g).received ++ [(rseq, batch, { e with vol := vol })]
        ∧ (∀ x, s.vol vol = some x → t.vol vol = some { x with replTarget := true }) ∧ t.cist = s.cist)
    ∧ (recordOk image = true → s.rpState g ≠ rpPromoted → batch = 0 →
      (s.group g).admitted.any (fun a => decide (a.1 = rseq ∧ s.since a.2 ≤ 65536)) = true → answers (.replRecordRx image loc) s fun t =>
        t.sent = .replReply g 1 rseq (replyImage g 1 rseq s.now) :: s.sent ∧ t.rd (R.RP_DUP_DISCARD g) = incSat (s.rd (R.RP_DUP_DISCARD g))
        ∧ t.cist = s.cist)
    ∧ (∀ x : Vol, recordOk image = true → s.rpState g ≠ rpPromoted → batch = 0 →
      (s.group g).admitted.any (fun a => decide (a.1 = rseq ∧ s.since a.2 ≤ 65536)) = false → s.blocked vol e.first e.count = false → loc < 131072 →
      (s.camAt loc).st = 0 → s.cist.parts.length < 131072 → s.vol vol = some x → s.spilling = false →
      answers (.replRecordRx image loc) s fun t =>
        t.rd64 R.CIST_CSEQ = s.rd64 R.CIST_CSEQ + 1 ∧ (t.camAt loc).st = 1 ∧ (rseq, s.now) ∈ (t.group g).admitted
        ∧ ∃ p, t.part ((s.rd64 R.CIST_CSEQ).toNat + 1) = some p ∧ p.vol = vol ∧ p.first = e.first ∧ p.count = e.count ∧ p.lock = .streaming
            ∧ p.cmd = some s.front.nextCmd))
  ∧ (∀ (g loc rseq q0 : Nat) (e : Part) (b : StagedBatch) (rest : List StagedBatch) (es : List (Nat × Nat × Part)) (x : Vol) (s : State),
    (s.group g).staged = b :: rest → b.entries = (rseq, q0, e) :: es → b.closed = true → (s.group g).applying = none →
    s.blocked e.vol e.first e.count = false → loc < 131072 → (s.camAt loc).st = 0 → s.cist.parts.length < 131072 → s.vol e.vol = some x →
    s.spilling = false → answers (.batchApply g loc) s fun t =>
      (t.group g).staged = (if es = [] then rest else { b with entries := es } :: rest)
      ∧ ∃ p, t.part ((s.rd64 R.CIST_CSEQ).toNat + 1) = some p ∧ p.vol = e.vol ∧ p.cmd = none ∧ p.first = e.first)
  ∧ (∀ (g loc b : Nat) (qs : List Nat) (s : State), (s.group g).staged = [] → (s.group g).applying = some (b, qs) → (∀ q ∈ qs, s.part q = none) →
    answers (.batchApply g loc) s fun t =>
      t.sent = .replReply g 3 b (replyImage g 3 b s.now) :: s.sent ∧ t.rd64 (R.RP_LAST_APPLIED g) = BitVec.ofNat 64 b ∧ t.bit (R.PG_EVENT 154) 3 = true
      ∧ (t.group g).applying = none)

/-- A same-bank refresh that falls due while RT requests wait is postponed within the JEDEC count, else carried out (R408); DRFM and the
DIMM's requests count (R409). DC_FREQ_GO that R412 does not allow is discarded and captured; else the channel, or with ALL in DDRC0 each
in turn, changes speed and active set, or goes back to its old set with FREQ_FAILED at L1 (R411). Counts of a nibble move its delay by one
step, effective at the next commit point (R413). -/
def Obligations.DramIsRefreshedAndRetimed : Prop :=
  (∀ (ch rank bank n : Nat) (s : State), n = (s.chan ch).postponed.getD (rank * 32 + bank) 0 →
    answers (.sameBankRefresh ch rank bank) s fun t => t.regs = s.regs
      ∧ (t.chan ch).queue = (s.chan ch).queue ∧ (t.chan ch).writes = (s.chan ch).writes
      ∧ if s.rtWaits ch (rank * 32 + bank) = true ∧ n < Config.refreshPostponeMax then (t.chan ch).postponed.find (rank * 32 + bank) = some (n + 1)
        else (t.chan ch).postponed.find (rank * 32 + bank) = none ∧ (t.chan ch).openRows.find (rank * 32 + bank) = none)
  ∧ (∀ (ch : Nat) (s : State),
    (answers (.neighbourRefresh ch) s fun t => if s.bit (R.DC_CTRL ch) 1 = true then t.rd (R.DC_DRFM ch) = incSat (s.rd (R.DC_DRFM ch)) else t = s)
    ∧ (answers (.rfmRequest ch) s fun t => t.rd (R.DC_DRFM ch) = incSat (s.rd (R.DC_DRFM ch)) ∧ t.mem = s.mem)
    ∧ ∀ steps, answers (.writeTimingTrack ch steps) s fun t => t.rd (R.DC_DRIFT_STEPS ch) = addSat (s.rd (R.DC_DRIFT_STEPS ch)) steps ∧ t.mem = s.mem)
  ∧ (∀ (ch speed : Nat) (all : Bool) (s : State), ch < 8 → answers (.dcFreqGo ch speed all) s fun t =>
    if s.refuses (142 + ch) = true ∨ s.freqMay (if all = true ∧ ch = 0 then List.range 8 else [ch]) = false then
      captured s t (142 + ch) 0x0004 0 0 ∧ t.mem = s.mem ∧ t.rd (R.DC_STATUS ch) = s.rd (R.DC_STATUS ch)
    else (t.chan ch).freq = some (.due (speed % 4)) ∧ t.bit (R.DC_STATUS ch) 3 = true
      ∧ (all = true → ch = 0 → t.mem.freqAll = ((List.range 8).drop 1).map fun c => (c, speed % 4)))
  ∧ (∀ (ch speed : Nat) (start : DWord) (ok : Bool) (s : State), ch < 8 → (s.chan ch).freq = some (.running speed start) →
    (∀ x ∈ s.mem.freqAll, x.1 < 8 ∧ x.1 ≠ ch) → answers (.freqChangeDone ch ok) s fun t =>
      if s.since start < 8 then t = s
      else (t.chan ch).freq = none ∧ t.bit (R.DC_STATUS ch) 3 = false
        ∧ (if ok then t.fld (R.DC_STATUS ch) 0 2 = speed % 4 ∧ t.bit (R.DC_STATUS ch) 2 = !s.bit (R.DC_STATUS ch) 2
              ∧ t.bit (R.PG_EVENT (142 + ch)) 0 = true ∧ (t.chan ch).drift = []
            else t.bit (R.PG_EVENT (142 + ch)) 1 = true ∧ captured s t (142 + ch) 0x0105 1 0
              ∧ t.fld (R.DC_STATUS ch) 0 2 = s.fld (R.DC_STATUS ch) 0 2 ∧ t.bit (R.DC_STATUS ch) 2 = s.bit (R.DC_STATUS ch) 2)
        ∧ (∀ c sp rest, s.mem.freqAll = (c, sp) :: rest → (t.chan c).freq = some (.due sp) ∧ t.mem.freqAll = rest))
  ∧ (∀ (ch rank nib early late : Nat) (s : State), answers (.driftExamine ch [(rank, nib, early, late)]) s fun t =>
    if s.bit (R.DC_CTRL ch) 2 = false then t = s
    else t.regs = s.regs ∧ (t.chan ch).drift = (s.chan ch).drift
      ∧ (t.chan ch).driftNext.find (rank * 32 + nib) =
          (if early + late < 1024 then (s.chan ch).driftNext.find (rank * 32 + nib)
           else if late * 9 < early * 8 then some 1 else if early * 9 < late * 8 then some (-1)
           else (s.chan ch).driftNext.find (rank * 32 + nib)))

/-- A channel picks the request of the greatest urgency, then class, then an open row, none before an earlier one of its address (R405, R406).
A read that shows an uncorrectable error, or for which one is injected, counts it with its address, sets UNCORRECTED and places
DRAM_UE_RECOVERED at L2 where its requester recovers, DRAM_UE_FATAL at L4 where none does; a corrected one counts, and DRAM_CE is captured
at L1; with none nothing happens (R415, R416, R427). A CA parity error is captured at L1, a second is uncorrectable. A queued row is
repaired and kept for hard repair (R418). A rank that is due is copied to the spare, which then serves it (R419). -/
def Obligations.DramErrorsAreCorrectedAndRepaired : Prop :=
  (∀ (ch now : Nat) (l : List DramReq) (s : State), match s.dcPick ch now l with
    | none => l = []
    | some r => r ∈ l ∧ ∀ x ∈ l, (∀ y ∈ l.takeWhile fun y => decide (y ≠ x), y.addr / 64 ≠ x.addr / 64) → s.dcKey ch now r ≤ s.dcKey ch now x)
  ∧ (∀ (ch ns ecc sub dev p : Nat) (arrived : List DramReq) (whole fails : Bool) (s1 s : State) (got : Option DramReq), ch < 8 → p = 142 + ch →
    s.dcServe ch (s.now.toNat * 4000 + ns) (arrived.filter fun r => decide (dcChannel r.addr = ch)) = (s1, got) →
    answers (.dramReadReturn ch ns arrived ecc sub dev whole fails) s fun t =>
      match got with
      | none => t = s1
      | some r =>
        if s.armed p 0x02 r.port = true ∨ ecc = 2 then
          t.rd (R.DC_UE_COUNT ch) = incSat (s.rd (R.DC_UE_COUNT ch)) ∧ t.rd64 (R.DC_CE_ADDR ch) = BitVec.ofNat 64 r.addr
          ∧ t.bit (R.PG_EVENT p) 6 = true
          ∧ (if r.use.recovers = true ∧ fails = false then captured s t p 0x0101 2 r.rank (s.armed p 0x02 r.port)
              else captured s t p 0x0102 4 r.rank (s.armed p 0x02 r.port) ∧ fencedOff t)
        else if s.armed p 0x01 r.port = true ∨ ecc = 1 then
          t.rd (R.DC_CE_COUNT ch) = incSat (s.rd (R.DC_CE_COUNT ch)) ∧ t.rd64 (R.DC_CE_ADDR ch) = BitVec.ofNat 64 r.addr
          ∧ captured s t p 0x0100 1 r.rank (s.armed p 0x01 r.port)
        else t = s1)
  ∧ (∀ (ch addr rank p : Nat) (again fails : Bool) (u : DramUse) (s : State), ch < 8 → p = 142 + ch →
    answers (.caParityError ch addr rank again u fails) s fun t =>
      captured s t p 0x0103 1 rank (s.armed p 0x05 rank)
      ∧ (if again then t.rd (R.DC_UE_COUNT ch) = incSat (s.rd (R.DC_UE_COUNT ch)) ∧ t.bit (R.PG_EVENT p) 6 = true
          else t.rd (R.DC_UE_COUNT ch) = s.rd (R.DC_UE_COUNT ch)))
  ∧ (∀ (ch addr progress p : Nat) (loc : Nat × Nat × Nat × Nat × Nat) (corrected whole ue passEnd : Bool) (s : State), ch < 8 → p = 142 + ch →
    answers (.scrubRead ch addr loc corrected whole ue progress passEnd) s fun t =>
      if s.bit (R.DC_CTRL ch) 0 = false then t = s
      else t.fld (R.DC_SCRUB_PROGRESS ch) 0 10 = progress % 1024 ∧ (passEnd = true → t.bit (R.PG_EVENT p) 3 = true)
        ∧ (if s.armed p 0x02 10 = true ∨ ue = true then
            t.rd (R.DC_UE_COUNT ch) = incSat (s.rd (R.DC_UE_COUNT ch)) ∧ captured s t p 0x0101 2 loc.1 (s.armed p 0x02 10)
          else if s.armed p 0x01 10 = true ∨ corrected = true then
            t.rd (R.DC_CE_COUNT ch) = incSat (s.rd (R.DC_CE_COUNT ch)) ∧ captured s t p 0x0100 1 loc.1 (s.armed p 0x01 10)
          else t.rd (R.DC_UE_COUNT ch) = s.rd (R.DC_UE_COUNT ch) ∧ t.rd (R.DC_CE_COUNT ch) = s.rd (R.DC_CE_COUNT ch) ∧ t.mem = s.mem))
  ∧ (∀ (ch rank bank row : Nat) (re : RowErr) (s : State), ch < 8 → (s.chan ch).rows.find (rowKey rank bank row) = some re →
    answers (.pprRepair ch rank bank row) s fun t =>
      if re.queued = true ∧ s.bit (R.DC_CTRL ch) 3 = true then
        (t.chan ch).rows.find (rowKey rank bank row) = none ∧ t.mem.hardDue = s.mem.hardDue ++ [(ch, rowKey rank bank row)]
        ∧ t.fld (R.DC_PPR ch) 0 8 = min 255 (s.fld (R.DC_PPR ch) 0 8 + 1) ∧ t.bit (R.PG_EVENT (142 + ch)) 5 = true
      else t = s)
  ∧ (∀ (ch rank : Nat) (s : State), ch < 8 → answers (.rankSpareStart ch rank) s fun t =>
    if s.spareDue ch rank = true ∧ s.bit (R.DC_STATUS ch) 12 = true ∧ s.bit (R.DC_STATUS ch) 4 = false ∧ s.bit (R.DC_STATUS ch) 5 = false
        ∧ s.guard.noRemount = false then
      captured s t (142 + ch) 0x0104 2 rank ∧ t.bit (R.DC_STATUS ch) 4 = true
      ∧ ∃ k, (t.chan ch).copy = some k ∧ k.rank = rank ∧ k.start = s.now
    else t = s)
  ∧ (∀ (ch : Nat) (k : RankCopy) (s : State), ch < 8 → (s.chan ch).copy = some k → answers (.rankSpareSwitch ch) s fun t =>
    (t.chan ch).copy = none ∧ t.bit (R.DC_STATUS ch) 4 = false ∧ t.bit (R.DC_STATUS ch) 5 = true ∧ t.bit (R.DC_STATUS ch) 12 = false
    ∧ t.fld (R.DC_STATUS ch) 6 3 = k.rank % 8 ∧ t.rd R.RM_COUNT = incSat (s.rd R.RM_COUNT) ∧ t.rd R.REMOUNTS = incSat (s.rd R.REMOUNTS)
    ∧ t.bit (R.PG_EVENT 7) 0 = true ∧ t.bit (R.PG_EVENT 7) 1 = true ∧ t.bit (R.PG_EVENT (142 + ch)) 2 = true)

/-- An access to a resident line whose sectors are VALID is a hit that sets the referenced bit, a write making them DIRTY; one to an absent
line with room takes a miss register and asks for its sectors (R421, R422). A fill makes the sectors VALID and serves what is attached; a
poisoned one, or a double-bit error of DIRTY sectors, breaks the line until its object is rebuilt (R426). CLEAN leaves lines of the range
resident and clean, FLUSH none, only inside the metadata region and while BUSY = 0; INVALIDATE is refused to software (R424). -/
def Obligations.MetadataCacheServesAndCleans : Prop :=
  (∀ (line m : Nat) (write whole : Bool) (l : McLine) (s : State), s.mem.mc.lines.find line = some l → line ∉ s.mem.mc.broken → line ∉ s.mem.mc.evicting →
    m ≠ 0 → l.valid &&& m = m → s.armed 150 0x05 0 = false → answers (.mcacheAccess line m write whole 0) s fun t =>
      t.rd R.MC_HITS = incSat (s.rd R.MC_HITS)
      ∧ t.mem.mc.lines.find line = some (if write then { l with valid := l.valid ||| m, dirty := l.dirty ||| m, ref := true } else { l with ref := true })
      ∧ ∀ k, k ≠ line → t.mem.mc.lines.find k = s.mem.mc.lines.find k)
  ∧ (∀ (line m w : Nat) (write whole : Bool) (s : State), s.mem.mc.lines.find line = none → line ∉ s.mem.mc.broken → line ∉ s.mem.mc.evicting →
    s.mem.mc.misses.find line = none → s.mem.mc.misses.length < 256 →
    ((List.range 16).find? fun w => (s.mem.mc.inWay (mcSet line) w).isNone) = some w → answers (.mcacheAccess line m write whole 0) s fun t =>
      t.rd R.MC_MISSES = incSat (s.rd R.MC_MISSES)
      ∧ (∃ r, t.mem.mc.misses.find line = some r ∧ r.asked = m &&& (2 ^ 64 - 1) ∧ r.arrived = 0 ∧ r.shut = false
          ∧ r.items = [if write then McItem.write m whole else .read m])
      ∧ t.mem.mc.lines.find line = some { way := w, valid := 0, dirty := 0, ref := true })
  ∧ (∀ (line m : Nat) (whole : Bool) (l : McLine) (s : State), s.mem.mc.lines.find line = some l → line ∉ s.mem.mc.broken →
    m ≠ 0 → l.valid &&& m = m → s.armed 150 0x05 0 = false → s.operate 150 0 = s →
    (answers (.mcacheAccess line m false whole 1) s fun t => t.rd R.MC_SRAM_CE = incSat (s.rd R.MC_SRAM_CE) ∧ captured s t 150 0x0100 1 0)
    ∧ (l.dirty &&& m ≠ 0 → answers (.mcacheAccess line m false whole 2) s fun t =>
        captured s t 150 0x0101 2 0 ∧ line ∈ t.mem.mc.broken ∧ (line, McItem.read m) ∈ t.mem.mc.waiting))
  ∧ (∀ (line : Nat) (poisoned : Bool) (s : State), answers (.mcacheFillDone line poisoned) s fun t =>
    if s.mem.mc.misses.has line = false ∨ line ∈ s.mem.mc.broken then t = s
    else if poisoned then captured s t 150 0x0101 2 0 ∧ line ∈ t.mem.mc.broken ∧ t.mem.mc.misses = s.mem.mc.misses
    else ∀ r l, s.mem.mc.misses.find line = some r → s.mem.mc.lines.find line = some l → (∀ w ∈ s.mem.mc.waiting, w.1 ≠ line) →
      t.mem.mc.misses.find line = none
      ∧ (∀ m, r.items = [.read m] → t.mem.mc.lines.find line = some { l with valid := l.valid ||| r.asked, ref := true })
      ∧ (∀ m, r.items = [.read m, .op .flush true] → t.mem.mc.lines.find line = none))
  ∧ (∀ (inside : Bool) (s : State), s.bit R.MC_OP_STATUS 16 = true → ∀ c ∈ [Instr.mcClean inside, .mcFlush inside, .mcInvalidate, .mcCleanAll],
    answers c s fun t => captured s t 150 0x0004 0 0 ∧ t.mem = s.mem)
  ∧ (∀ s : State, s.bit R.MC_OP_STATUS 16 = false →
    (∀ c ∈ [Instr.mcClean false, .mcFlush false], answers c s fun t =>
      t.rdN R.MC_OP_STATUS = St.invalidField ∧ t.bit (R.PG_EVENT 150) 0 = true ∧ t.mem = s.mem)
    ∧ (answers .mcInvalidate s fun t => t.rdN R.MC_OP_STATUS = St.invalidField ∧ captured s t 150 0x0103 0 0 ∧ t.mem = s.mem)
    ∧ (∀ (line : Nat) (l : McLine), s.mem.mc.lines.find line = some l → s.mem.mc.misses.find line = none →
      (answers (.mcClean true) s fun t => t.bit R.MC_OP_STATUS 16 = true
        ∧ t.mem.mc.lines.find line = some (if s.mcRange.1 ≤ line ∧ line < s.mcRange.1 + s.mcRange.2 then { l with dirty := 0 } else l))
      ∧ (answers (.mcFlush true) s fun t => t.bit R.MC_OP_STATUS 16 = true
        ∧ t.mem.mc.lines.find line = (if s.mcRange.1 ≤ line ∧ line < s.mcRange.1 + s.mcRange.2 then none else some l))
      ∧ (line < 2 ^ 52 → answers .mcCleanAll s fun t => t.bit R.MC_OP_STATUS 16 = true ∧ t.mem.mc.lines.find line = some { l with dirty := 0 })))
  ∧ (∀ s : State, answers .mcOpDone s fun t =>
    if s.bit R.MC_OP_STATUS 16 = false ∨ s.mem.mc.opLines ≠ [] then t = s
    else t.rd R.MC_OP_STATUS = 0 ∧ t.bit (R.PG_EVENT 150) 0 = true ∧ t.mem = s.mem)
  ∧ (∀ (line : Nat) (ok : Bool) (s : State), answers (.objectRebuild line ok) s fun t =>
    if line ∉ s.mem.mc.broken then t = s
    else if ok then line ∉ t.mem.mc.broken ∧ t.rd R.MC_REBUILDS = incSat (s.rd R.MC_REBUILDS) ∧ captured s t 150 0x0102 2 0
      ∧ t.bit (R.PG_EVENT 150) 2 = true
    else captured s t 150 0x0101 4 0 ∧ fencedOff t ∧ t.mem = s.mem)

/-- A claim makes the claimant owner of a FREE engine, the waiter of an OWNED one, or nothing (R432); RELEASE and the idle time pass the
engine on (R433). A write by another path than the owner's is discarded with NOT_OWNER (R434). START opens a session or captures
KEY_UNUSABLE; data words are appended, BUSY at each block, and lost while BUSY or FINISHing (R435 to R437); FINISH cuts the tail; its end
shows the digest, unless hidden, and compares its first words with EXPECT (R438, R444). SUSPEND saves a session under its owner, RESUME by
that owner restores it, DISCARD and age end it (R442, R443). -/
def Obligations.DigestEngineIsOwnedAndHashes : Prop :=
  (∀ (path id : Nat) (s : State), answers (.kdeClaim path id) s fun t =>
    if s.kdeOwned = false then t.kdeOwned = true ∧ t.kdeOwner = kdeId path id ∧ t.bit R.KDE_OWNER 24 = false
    else t.kdeOwned = true ∧ t.kdeOwner = s.kdeOwner
      ∧ (if s.bit R.KDE_OWNER 24 then t = s
          else t.fld R.KDE_OWNER 16 8 = kdeId path id ∧ t.bit R.KDE_OWNER 24 = true ∧ t.bit (R.PG_EVENT 10) 1 = true))
  ∧ (∀ (path id : Nat) (s : State), answers (.kdeRelease path id) s fun t =>
    if s.kdeOwned = false ∨ s.kdeOwner ≠ kdeId path id then captured s t 10 0x0100 0 0 ∧ t.rd R.KDE_OWNER = s.rd R.KDE_OWNER ∧ t.mem = s.mem
    else t.kdeOwned = s.bit R.KDE_OWNER 24 ∧ (s.bit R.KDE_OWNER 24 = true → t.kdeOwner = s.fld R.KDE_OWNER 16 8) ∧ t.bit R.KDE_OWNER 24 = false
      ∧ t.rd R.KDE_RESULT = 0 ∧ ∀ i < 16, t.rd (R.KDE_EXPECT i) = 0)
  ∧ (∀ s : State, answers .kdeIdleTimeout s fun t =>
    if s.kdeOwned = false ∨ s.since s.mem.kde.lastWrite < s.rdN R.KDE_IDLE_MAX then t = s
    else t.kdeOwned = s.bit R.KDE_OWNER 24 ∧ t.bit (R.PG_EVENT 10) 2 = true ∧ t.bit R.KDE_STATUS 1 = false ∧ t.rd R.KDE_RESULT = 0
      ∧ ∀ i < 16, t.rd (R.KDE_EXPECT i) = 0 ∧ t.rd (R.KDE_DIGEST i) = 0)
  ∧ (∀ (path n i : Nat) (w : Word) (s : State), s.kdeOwned = false ∨ s.kdeOwner / 64 ≠ path →
    ∀ c ∈ [Instr.kdeStart path, .kdeFinish path, .kdeAbort path, .kdeData path w, .kdeExpectWrite path i w, .kdeCtxSuspend path n, .kdeCtxResume path n,
      .kdeCtxDiscard path n], answers c s fun t => captured s t 10 0x0100 0 0 ∧ t.mem = s.mem ∧ t.rd R.KDE_STATUS = s.rd R.KDE_STATUS)
  ∧ (∀ (mode : Nat) (s : State), s.kdeOwned = true → mode = s.rdN R.KDE_MODE →
    (s.bit R.KDE_STATUS 1 = true → answers (.kdeStart (s.kdeOwner / 64)) s fun t => captured s t 10 0x0004 0 0 ∧ t.mem.kde.session = s.mem.kde.session)
    ∧ (s.bit R.KDE_STATUS 1 = false → mode / 2 ^ 11 % 64 ≠ 0 → mode / 2 ^ 11 % 64 ≤ kdeWords (mode % 4) →
      answers (.kdeStart (s.kdeOwner / 64)) s fun t =>
        if mode / 4 % 2 = 1 ∧ s.kdeKeyOk (mode / 32 % 64) (s.kdeOwner / 64) = false then
          captured s t 10 0x0102 0 0 ∧ t.mem.kde.session = s.mem.kde.session
        else t.bit R.KDE_STATUS 1 = true ∧ t.rd64 R.KDE_LEN = 0 ∧ t.rd R.KDE_RESULT = 0 ∧ (∀ i < 16, t.rd (R.KDE_DIGEST i) = 0)
          ∧ t.mem.kde.session.mode = mode ∧ t.mem.kde.session.msg = [] ∧ t.mem.kde.session.owner = s.kdeOwner ∧ t.mem.kde.lastWrite = s.now
          ∧ (mode / 4 % 2 = 1 → t.mem.kde.session.key = (s.keySlot (mode / 32 % 64)).key)))
  ∧ (∀ (x : KdeSession) (w : Word) (s : State), s.kdeOwned = true → x = s.mem.kde.session →
    answers (.kdeData (s.kdeOwner / 64) w) s fun t =>
      if s.bit R.KDE_STATUS 1 = false then captured s t 10 0x0107 0 0 ∧ t.mem.kde.session = x
      else if s.bit R.KDE_STATUS 0 = true ∨ s.mem.kde.finishing = true ∨ 2 ^ 56 ≤ x.msg.length + 4 then
        captured s t 10 0x0101 0 0 ∧ t.bit R.KDE_STATUS 3 = true ∧ t.mem.kde.session = x
      else t.mem.kde.session = { x with msg := x.msg ++ leBytes 4 w.toNat } ∧ t.rd64 R.KDE_LEN = BitVec.ofNat 64 (x.msg.length + 4)
        ∧ t.bit R.KDE_STATUS 0 = decide ((x.msg.length + 4) % kdeBlock (x.mode % 4) = 0))
  ∧ (∀ s : State, answers .kdeBlockDone s fun t => t.bit R.KDE_STATUS 0 = false ∧ t.mem = s.mem)
  ∧ (∀ (x : KdeSession) (s : State), s.kdeOwned = true → x = s.mem.kde.session → s.bit R.KDE_STATUS 1 = true → s.mem.kde.finishing = false →
    (answers (.kdeFinish (s.kdeOwner / 64)) s fun t => t.mem.kde.finishing = true
      ∧ (s.fld R.KDE_TAIL 0 3 = 0 ∨ 4 ≤ s.fld R.KDE_TAIL 0 3 → t.mem.kde.session = x)
      ∧ (1 ≤ s.fld R.KDE_TAIL 0 3 → s.fld R.KDE_TAIL 0 3 < 4 →
          t.mem.kde.session = { x with msg := x.msg.take (x.msg.length - (4 - s.fld R.KDE_TAIL 0 3)) }))
    ∧ (answers (.kdeAbort (s.kdeOwner / 64)) s fun t => t.bit R.KDE_STATUS 1 = false ∧ t.bit R.KDE_STATUS 0 = false ∧ t.rd R.KDE_RESULT = 0))
  ∧ (∀ (x : KdeSession) (d : List Byte) (s : State), x = s.mem.kde.session → d = kdeDigest x → s.mem.kde.finishing = true → s.bit R.KDE_STATUS 0 = false →
    s.armed 10 0x05 0 = false → answers .kdeFinishDone s fun t =>
      t.bit R.KDE_STATUS 1 = false ∧ t.bit R.KDE_STATUS 2 = true ∧ t.bit (R.PG_EVENT 10) 0 = true ∧ t.rd R.KDE_SESSIONS = incSat (s.rd R.KDE_SESSIONS)
      ∧ (if x.keyGone = true ∨ s.bit R.KDE_STATUS 3 = true then t.rd R.KDE_RESULT = 0 ∧ ∀ i < 16, t.rd (R.KDE_DIGEST i) = 0
          else (∀ i < 16, t.rd (R.KDE_DIGEST i) = BitVec.ofNat 32 (if x.mode / 16 % 2 = 1 then 0 else ofLeBytes ((d.drop (4 * i)).take 4)))
            ∧ (x.mode / 8 % 2 = 1 → t.rdN R.KDE_RESULT =
                if d.take (4 * (x.mode / 2 ^ 11 % 64)) = s.words16 R.KDE_EXPECT (x.mode / 2 ^ 11 % 64) then 1 else 2)))
  ∧ (∀ (i : Nat) (w : Word) (s : State), s.kdeOwned = true → answers (.kdeExpectWrite (s.kdeOwner / 64) i w) s fun t =>
    t.rd (R.KDE_EXPECT (i % 16)) = w ∧ t.rd R.KDE_RESULT = 0)
  ∧ (∀ (n : Nat) (x : KdeSession) (s : State), s.kdeOwned = true → x = s.mem.kde.session → answers (.kdeCtxSuspend (s.kdeOwner / 64) n) s fun t =>
    if s.bit R.KDE_STATUS 1 = false ∨ s.bit R.KDE_STATUS 0 = true ∨ s.mem.kde.finishing = true ∨ x.msg.length % kdeBlock (x.mode % 4) ≠ 0 then
      captured s t 10 0x0105 0 0 ∧ t.fld R.KDE_CTX_STATUS 16 16 = 0x0105 ∧ t.mem.kde.ctxs = s.mem.kde.ctxs
    else if s.mem.kde.ctxs.has (n % 4) = true then captured s t 10 0x0104 0 0 ∧ t.mem.kde.ctxs = s.mem.kde.ctxs
    else t.bit R.KDE_STATUS 1 = false ∧ t.kdeOwned = s.bit R.KDE_OWNER 24 ∧ t.bit R.KDE_CTX_STATUS (n % 4) = true
      ∧ ∃ c, t.mem.kde.ctxs.find (n % 4) = some c ∧ c.msg = x.msg ∧ c.mode = x.mode ∧ c.owner = x.owner ∧ c.key = x.key
          ∧ c.expect = s.words16 R.KDE_EXPECT 16)
  ∧ (∀ (n : Nat) (c : KdeSession) (s : State), s.kdeOwned = true → s.mem.kde.ctxs.find (n % 4) = some c →
    (c.owner ≠ s.kdeOwner → ∀ i ∈ [Instr.kdeCtxResume (s.kdeOwner / 64) n, .kdeCtxDiscard (s.kdeOwner / 64) n], answers i s fun t =>
      captured s t 10 0x0100 0 0 ∧ t.mem.kde.ctxs = s.mem.kde.ctxs ∧ t.mem.kde.session = s.mem.kde.session)
    ∧ (c.owner = s.kdeOwner → s.bit R.KDE_STATUS 1 = false → answers (.kdeCtxResume (s.kdeOwner / 64) n) s fun t =>
        t.mem.kde.session = c ∧ t.mem.kde.ctxs.find (n % 4) = none ∧ t.bit R.KDE_STATUS 1 = true ∧ t.rd64 R.KDE_LEN = BitVec.ofNat 64 c.msg.length)
    ∧ (c.owner = s.kdeOwner → answers (.kdeCtxDiscard (s.kdeOwner / 64) n) s fun t =>
        t.mem.kde.ctxs.find (n % 4) = none ∧ t.bit R.KDE_CTX_STATUS (n % 4) = false ∧ t.mem.kde.session = s.mem.kde.session))
  ∧ (∀ (n : Nat) (c : KdeSession) (s : State), s.mem.kde.ctxs.find (n % 4) = some c → answers (.kdeCtxExpired n) s fun t =>
    if s.since c.at_ < s.rdN R.KDE_IDLE_MAX then t = s
    else t.mem.kde.ctxs.find (n % 4) = none ∧ t.bit (R.PG_EVENT 10) 3 = true)

/-- A write of KS_CMD clears KS_DATA, accepted or not; accepted it is latched with its slot, USE and, for LOAD, the key of KS_LEN bytes, and
BUSY reads 1 until its commit point; while BUSY = 1 it is discarded and captured; an OP that is not listed answers INVALID_FIELD (R447). A
parity error zeroises the slot and captures SLOT_PARITY at L2 (R448). -/
def Obligations.KeySlotCommandsAreLatched : Prop :=
  (∀ (c : Instr) (s : State), c ∈ [Instr.ksLoad, .ksLock, .ksZeroise true, .ksZeroise false, .ksSetUse, .ksInvalidOp] → answers c s fun t =>
    (∀ i < 16, t.rd (R.KS_DATA i) = 0) ∧ t.mem.keys = s.mem.keys
    ∧ (s.bit R.KS_CMD_STATUS 16 = true → captured s t 11 0x0004 0 0 ∧ t.mem = s.mem)
    ∧ (s.bit R.KS_CMD_STATUS 16 = false → if c = .ksInvalidOp then t.rdN R.KS_CMD_STATUS = St.invalidField ∧ t.mem = s.mem
        else t.rd R.KS_CMD_STATUS = 2 ^ 16
          ∧ ∃ x, t.mem.ksCmd = some x ∧ x.slot = s.fld R.KS_SEL 0 6 ∧ x.use = s.fld R.KS_USE_ARG 0 4 ∧ x.force = decide (c = .ksZeroise true)
              ∧ x.op = (if c = .ksLoad then 1 else if c = .ksLock then 2 else if c = .ksSetUse then 4 else 3)
              ∧ (c = .ksLoad → x.key = s.ksData.take (s.fld R.KS_LEN 0 7))))
  ∧ (∀ (slot : Nat) (s : State), slot < 64 → answers (.ksSlotParity slot) s fun t =>
    t.keySlot slot = { st := .empty, key := [], use := 0 } ∧ (t.rd64 R.KS_VALID_MAP).getLsbD slot = false ∧ (t.rd64 R.KS_LOCK_MAP).getLsbD slot = false
    ∧ t.bit (R.PG_EVENT 11) 1 = true ∧ captured s t 11 0x0102 2 slot
    ∧ (∀ k, k ≠ slot → t.keySlot k = s.keySlot k)
    ∧ ∀ n c, s.mem.kde.ctxs.find n = some c → c.usesSlot slot = true → ∃ c', t.mem.kde.ctxs.find n = some c' ∧ c'.keyGone = true)

/-- REMOUNT_START takes up a DEGRADED candidate with a free spare while AUTO = 1, and nothing else (R459). RM_CMD is discarded while BUSY,
refused with INVALID_FIELD for a unit that is not in service, has no kind or is under remount, answered ABORTED_BY_RESET where no remount
may start, QUOTA without a spare, BUSY_RETRY or QUEUED as the matrix has it (R461, R464, R486); admitted it begins at once or waits for
the one under way. A row has two spares (R462). A queued activity is removed with ABORTED_BY_HOST (R467). -/
def Obligations.RemountsAndRowRepairsStart : Prop :=
  (∀ (p sub trigger u d : Nat) (cmd : Bool) (c : Instr) (s : State),
    (c = .rmCmd p sub ∧ trigger = 2 ∧ cmd = true ∧ s.bit R.RM_CMD_STATUS 16 = false ∧ (s.unitSt p sub).live = true
      ∨ c = .remountStart p sub ∧ trigger = 1 ∧ cmd = false ∧ s.bit R.RM_CTRL 0 = true ∧ s.guard.candidates.has (p * 256 + sub) = true
        ∧ s.unitSt p sub = .degraded ∧ s.guard.ladder.any (fun e => decide (e.page = p ∧ e.sub = sub ∧ 2 ≤ e.level)) = false
        ∧ s.guard.acts.any (fun a => decide (a.code = actRemount ∧ a.op = p * 256 + sub)) = false) →
    hasSpareKind p sub = true → s.rmJobs.any (fun j => decide (j.page = p ∧ j.sub = sub)) = false → s.guard.noRemount = false →
    s.freeSpare p = some u → d = (s.actStart { Activity.of actRemount 0 with op := p * 256 + sub, args := [BitVec.ofNat 8 trigger] }).2 →
    answers c s fun t =>
      if d = decRefused then t.guard.job = s.guard.job ∧ t.guard.waiting = s.guard.waiting ∧ (cmd = true → t.rdN R.RM_CMD_STATUS = St.busyRetry)
      else if d = decQueued then t.guard.job = s.guard.job ∧ t.guard.waiting = s.guard.waiting ∧ (cmd = true → t.rdN R.RM_CMD_STATUS = 2 ^ 17)
      else (cmd = true → t.rdN R.RM_CMD_STATUS = 2 ^ 16)
        ∧ ∃ j : RmJob, j.page = p ∧ j.sub = sub ∧ j.slot = u ∧ j.trigger = trigger ∧ j.cmd = cmd ∧ j.steal = false
          ∧ (if s.guard.job = none then t.guard.job = some j ∧ j.begun = true ∧ j.start = s.now ∧ j.phase = .drain ∧ t.bit R.RM_STATUS 0 = true
              else t.guard.job = s.guard.job ∧ t.guard.waiting = s.guard.waiting ++ [j] ∧ j.begun = false))
  ∧ (∀ (p sub : Nat) (s : State), s.bit R.RM_CTRL 0 = false ∨ s.guard.noRemount = true ∨ s.guard.candidates.has (p * 256 + sub) = false
      ∨ s.freeSpare p = none → answers (.remountStart p sub) s fun t => t = s)
  ∧ (∀ (p sub : Nat) (s : State), answers (.rmCmd p sub) s fun t =>
    if s.bit R.RM_CMD_STATUS 16 = true then captured s t 7 0x0004 0 0 ∧ t.guard.job = s.guard.job ∧ t.guard.waiting = s.guard.waiting
    else if hasSpareKind p sub = false ∨ (s.unitSt p sub).live = false ∨ s.rmJobs.any (fun j => decide (j.page = p ∧ j.sub = sub)) = true then
      t.rdN R.RM_CMD_STATUS = St.invalidField ∧ t.guard = s.guard
    else if s.guard.noRemount = true then t.rdN R.RM_CMD_STATUS = St.abortedByReset ∧ t.bit (R.PG_EVENT 7) 0 = true
    else s.freeSpare p = none → t.rdN R.RM_CMD_STATUS = St.quota ∧ t.bit (R.PG_EVENT 7) 2 = true ∧ t.guard = s.guard)
  ∧ (∀ (m row trigger : Nat) (s : State), answers (.sramRowRepair m row trigger) s fun t =>
    if s.bit R.RM_CTRL 1 = false ∨ s.guard.noRemount = true ∨ m * 65536 + row ∈ s.guard.rows
        ∨ s.guard.rowJob.any (fun j => decide (j.1 = m ∧ j.2.1 = row)) = true then t = s
    else if 2 ≤ s.rowsOf m then captured s t 7 0x0100 2 m ∧ t.guard.rowJob = s.guard.rowJob
    else t.guard.rowJob = s.guard.rowJob ++ [(m, row, s.rowsOf m, trigger)] ∧ t.regs = s.regs)
  ∧ (∀ (code pool : Nat) (s : State), answers (.gdActCancel code pool) s fun t =>
    match s.guard.acts.find? fun a => decide (a.code = code ∧ (a.pool = pool ∨ 8 ≤ code) ∧ a.st = .queued) with
    | none => t = s
    | some a => t.guard.acts = s.guard.acts.erase a
      ∧ (code = 2 ∨ code = 3 ∨ code = 4 → t.rdN R.FTL_CMD_STATUS = St.abortedByHost ∧ t.bit (R.PG_EVENT 137) 0 = true)
      ∧ (code = 6 ∨ code = 7 → t.rdN R.SP_CMD_STATUS = St.abortedByHost ∧ t.bit (R.PG_EVENT 141) 0 = true)
      ∧ (code = 8 → t.rdN R.RP_CMD_STATUS = St.abortedByHost) ∧ (code = 9 → t.rdN R.TD_CMD_STATUS = St.abortedByHost)
      ∧ (code = 10 → t.rdN R.RM_CMD_STATUS = St.abortedByHost))

/-- A trigger starts a flush of what is unflushed, or another after the one under way; its end shows STB_FLUSHED and sets FLUSHED, and a
device that did not take it is out with STB_DEVICE at L2 (R474). The window holds the 2 KiB from STB_RD_OFF once READY (R476). STB_APP_CMD
is checked in the order of R478, and then appends its record. TK_WRITE refuses an invalid image, and else writes it under the next SEQ
over the copy that R483 names; TK_READ copies the image in use out; PROCEED lets a head on defaults go on (R482). -/
def Obligations.StudbookAndTackAreServed : Prop :=
  (∀ s : State, ∀ c ∈ [Instr.studbookFlush, .studbookFlushTimer], answers c s fun t =>
    if s.unflushed = false then t = s
    else t.bit R.STB_STATUS 0 = true
      ∧ (if s.bit R.STB_STATUS 0 then t.stud = { s.stud with flushAgain := true } else t.stud = { s.stud with flushTo := some s.stud.endOff }))
  ∧ (∀ s : State, answers .stbFlushCmd s fun t => t.bit R.STB_CTRL 0 = true ∧ t.bit R.STB_STATUS 0 = true
    ∧ (if s.bit R.STB_STATUS 0 then t.stud = { s.stud with ctrlAgain := true, flushAgain := true }
        else t.stud = { s.stud with flushTo := some s.stud.endOff }))
  ∧ (∀ (e : Nat) (s : State), s.stud.flushTo = some e → s.stud.dev0Ok = true → s.stud.dev1Ok = true →
    (answers (.studbookFlushDone true true) s fun t => t.stud.dev0 = e ∧ t.stud.dev1 = e ∧ t.rd64 R.STB_FLUSHED = BitVec.ofNat 64 e
      ∧ t.bit (R.PG_EVENT 5) 0 = true ∧ t.bit R.STB_CTRL 0 = s.stud.ctrlAgain ∧ t.bit R.STB_STATUS 0 = s.stud.flushAgain
      ∧ t.stud.flushTo = (if s.stud.flushAgain then some s.stud.endOff else none))
    ∧ (answers (.studbookFlushDone false true) s fun t => t.stud.dev0Ok = false ∧ t.stud.dev1Ok = true ∧ t.stud.dev0 = s.stud.dev0 ∧ t.stud.dev1 = e
      ∧ t.bit R.STB_STATUS 3 = false ∧ captured s t 5 0x0100 2 0 ∧ t.bit (R.PG_EVENT 5) 3 = true)
    ∧ (answers (.studbookFlushDone true false) s fun t => t.stud.dev0Ok = true ∧ t.stud.dev1Ok = false ∧ t.stud.dev0 = e ∧ t.stud.dev1 = s.stud.dev1
      ∧ t.bit R.STB_STATUS 4 = false ∧ captured s t 5 0x0100 2 1 ∧ t.bit (R.PG_EVENT 5) 3 = true))
  ∧ (∀ s : State, answers .resilverDone s fun t =>
    if s.bit R.STB_STATUS 5 then t.bit R.STB_STATUS 5 = false ∧ t.bit (R.PG_EVENT 5) 5 = true ∧ t.stud = s.stud else t = s)
  ∧ (∀ (off : Nat) (s : State), answers (.stbRdOffWrite off) s fun t =>
    t.rd64 R.STB_RD_OFF = BitVec.ofNat 64 (off % 2 ^ 64 / 4 * 4) ∧ t.bit R.STB_RD_STATUS 0 = false ∧ t.stud = { s.stud with window := some (off % 2 ^ 64 / 4 * 4) })
  ∧ (∀ (o : Nat) (s : State), s.stud.window = some o → answers .stbWindowReady s fun t =>
    t.bit R.STB_RD_STATUS 0 = true ∧ t.bit R.STB_RD_STATUS 1 = decide ((s.rd64 R.STB_END).toNat < o + 2048)
    ∧ t.fld R.STB_RD_STATUS 16 12 = min 2048 ((s.rd64 R.STB_END).toNat - o) ∧ t.stud.window = none
    ∧ ∀ i < 512, t.rdN (R.STB_RD_WIN i) = ofLeBytes (((s.stbRead o 2048).drop (4 * i)).take 4))
  ∧ (∀ (len typ day used : Nat) (s : State), day = s.calSec / 86400 → used = (if s.stud.appDay = day then s.stud.appBytes else 0) →
    answers (.stbAppCmd len typ) s fun t => t.bit (R.PG_EVENT 5) 4 = true
      ∧ (if typ < 0x8000 ∨ 0xFFFE < typ ∨ len < 28 ∨ 1024 < len ∨ len % 4 ≠ 0 then t.rdN R.STB_APP_STATUS = St.invalidField ∧ t.stud = s.stud
        else if 65536 < used + len then t.rdN R.STB_APP_STATUS = St.quota ∧ t.stud = s.stud
        else if s.stbFull len = true then t.rdN R.STB_APP_STATUS = St.spaceExhausted ∧ t.stud.full = true ∧ t.stud.appBytes = s.stud.appBytes
        else t.rdN R.STB_APP_STATUS = St.success ∧ t.stud.recs = s.stud.recs ++ [s.mkRec typ 0 0xFF (s.appPayload (len - 28))]
          ∧ t.stud.appDay = day ∧ t.stud.appBytes = used + len ∧ t.stud.lastSeq = s.stud.lastSeq + 1))
  ∧ (∀ (image : List Byte) (readBack : Option (List Byte)) (b : Bool) (s : State), answers (.tkWrite image readBack b) s fun t =>
    if s.bit R.TK_CMD_STATUS 16 then captured s t 6 0x0004 0 0 ∧ t.tack = s.tack
    else t.bit (R.PG_EVENT 6) 0 = true
      ∧ (if tackCause image s.headId ≠ 0 then t.rdN R.TK_CMD_STATUS = St.invalidField ∧ t.tack = s.tack
        else t.rdN R.TK_CMD_STATUS = (if readBack.getD (tackWithSeq image (s.tackTop + 1)) = tackWithSeq image (s.tackTop + 1) then St.success
              else St.checkValue)
          ∧ t.tack.inUse = s.tack.inUse
          ∧ (if s.tackTarget b then t.tack.copyB = readBack.getD (tackWithSeq image (s.tackTop + 1)) ∧ t.tack.copyA = s.tack.copyA
              else t.tack.copyA = readBack.getD (tackWithSeq image (s.tackTop + 1)) ∧ t.tack.copyB = s.tack.copyB)))
  ∧ (∀ s : State, answers .tkRead s fun t =>
    if s.bit R.TK_CMD_STATUS 16 then captured s t 6 0x0004 0 0
    else t.bit (R.PG_EVENT 6) 0 = true ∧ t.tack = s.tack
      ∧ (s.fld R.TK_STATUS 0 2 ≠ 2 → s.tack.inUse ≠ [] → t.rdN R.TK_CMD_STATUS = St.success
          ∧ t.sent = .hostData (s.rd64 R.TK_HOST).toNat s.tack.inUse :: s.sent))
  ∧ (∀ s : State, answers .tkProceed s fun t => t.bit R.TK_CTRL 0 = true ∧ t.bit R.TK_STATUS 5 = false ∧ t.tack = s.tack)

/-- Frames that are none of the three kinds, or not addressed to the head, are counted; a link change shows in SVC_STATUS. OPEN is answered
with CHALLENGE and makes a session that is not authenticated, is dropped beyond 16 a second or with no session free, and refused for a
slot that does not serve (R493, R494); AUTH makes it AUTHED; CLOSE and an idle timeout end it. A message that fails a check counts in
SVC_AUTH_FAIL and captures AUTH_FAIL at L0, the third of a session closes it (R494); the last request again is answered again (R495). A
stopped head answers BUSY_RETRY to what it does not take (R523), a role OBSERVE INVALID_FIELD to what needs MAINTAIN, and KS_DATA cannot
be named (R492). REG_READ, REG_WRITE, STB_READ, TACK_READ, TACK_WRITE and RESET have their effect. That a refused OPEN is answered under
TYPE 0x01 is the model's choice. -/
def Obligations.ServicePortServesItsSessions : Prop :=
  (∀ (kind : SvcFrame) (me : Bool) (s : State), answers (.svcFrameRx kind me) s fun t =>
    if me = false ∨ kind = .other then t.rd R.SVC_RX_DROP = incSat (s.rd R.SVC_RX_DROP) ∧ t.svc = s.svc ∧ t.sent = s.sent else t = s)
  ∧ (∀ (up full : Bool) (speed : Nat) (s : State), answers (.svcLinkChange up speed full) s fun t =>
    t.fld R.SVC_STATUS 0 4 = (if up = true then 1 + speed % 4 * 2 + full.toNat * 8 else 0) ∧ t.bit (R.PG_EVENT 8) 0 = true ∧ t.svc = s.svc)
  ∧ (∀ (m : MysynMsg) (id n : Nat) (nonce : List Byte) (s : State), n = (if s.svc.opens.1 = s.calSec then s.svc.opens.2 + 1 else 1) →
    answers (.mysynOpen m id nonce) s fun t =>
      if s.svcPath m = false then t = s
      else if 16 < n ∨ s.svc.sessions.freeKey 4 = none then
        t.rd R.SVC_RX_DROP = incSat (s.rd R.SVC_RX_DROP) ∧ t.svc.sessions = s.svc.sessions ∧ t.sent = s.sent
      else if m.payload.length ≠ 20 ∨ s.openOk (leAt m.payload 0 1) (leAt m.payload 1 1) = false then
        t.svc.sessions = s.svc.sessions ∧ t.sent = .mysyn m.source (mysynResponse none 0x01 0 m.seq St.invalidField []) :: s.sent
      else ∃ i x, i < 4 ∧ s.svc.sessions.find i = none ∧ t.svc.sessions.find i = some x ∧ x.id = id ∧ x.authed = false ∧ x.lastSeq = 0
        ∧ x.source = m.source ∧ x.slot = leAt m.payload 0 1 ∧ x.maintain = decide (leAt m.payload 1 1 = 1) ∧ x.lastValid = s.now
        ∧ x.key = hmacSha256 (s.keySlot x.slot).key ([0x4D, 0x59, 0x53, 0x4E] ++ (m.payload.drop 4).take 16 ++ nonce ++ leBytes 4 id)
        ∧ Emit.mysyn m.source (mysynResponse none 0x02 id m.seq 0
            (nonce ++ leBytes 1 s.headId ++ leBytes 1 (s.rdN R.CHIP_STEP) ++ leBytes 2 0)) ∈ t.sent)
  ∧ (∀ (m : MysynMsg) (i : Nat) (x : Session) (s : State), mysynFrom s m 0x03 i x → m.seq = x.lastSeq + 1 → answers (.mysynAuth m) s fun t =>
    (∃ y, t.svc.sessions.find i = some y ∧ y.authed = true ∧ y.id = x.id ∧ y.key = x.key ∧ y.lastSeq = m.seq)
    ∧ replied t m x 0x03 St.success (leBytes 4 (s.rdN R.FW_RUN_BUILD) ++ leBytes 1 s.role ++ leBytes 3 0)
    ∧ (x.authed = false → t.bit (R.PG_EVENT 8) 1 = true))
  ∧ (∀ (m : MysynMsg) (i : Nat) (x : Session) (s : State), mysynNext s m 0x04 i x → answers (.mysynClose m) s fun t =>
    replied t m x 0x04 St.success [] ∧ t.svc.sessions.find i = none
    ∧ ∀ g, s.svc.staging = some g → g.session = x.id → t.svc.staging = none)
  ∧ (∀ (i : Nat) (s : State), answers (.sessionIdleTimeout i) s fun t =>
    match s.svc.sessions.find i with
    | none => t = s
    | some x => if s.since x.lastValid < s.rdN R.SVC_IDLE then t = s else t.svc.sessions.find i = none)
  ∧ (∀ (m : MysynMsg) (rb : Option (List Byte)) (b : Bool) (s : State), ∀ c ∈ [(Instr.mysynRegRead m, 0x10), (.mysynRegWrite m, 0x11), (.mysynStbRead m, 0x20), (.mysynTackRead m, 0x30), (.mysynTackWrite m rb b, 0x31),
     (.mysynImageBegin m, 0x40), (.mysynImageData m b, 0x41), (.mysynImageEnd m b, 0x42), (.mysynImageAbort m, 0x43), (.mysynFwCmd m, 0x44),
     (.mysynFwStatus m, 0x45), (.mysynReset m, 0x50), (.mysynAuth m, 0x03), (.mysynClose m, 0x04)],
    (s.svcPath m = false → exec c.1 s = .next s)
    ∧ (s.svcPath m = true → (s.svc.sessions.first fun _ y => decide (y.id = m.session)) = none → answers c.1 s fun t =>
        captured s t 8 0x0100 0 0 ∧ t.rd R.SVC_AUTH_FAIL = incSat (s.rd R.SVC_AUTH_FAIL) ∧ t.bit (R.PG_EVENT 8) 2 = true
        ∧ t.svc.sessions = s.svc.sessions)
    ∧ (∀ i x, s.svcPath m = true → (s.svc.sessions.first fun _ y => decide (y.id = m.session)) = some (i, x) →
        (x.source ≠ m.source ∨ m.mac ≠ mysynMac x.key (mysynHead c.2 0 m.session m.seq m.payload.length 0 ++ m.payload)) → answers c.1 s fun t =>
          captured s t 8 0x0100 0 0 ∧ t.rd R.SVC_AUTH_FAIL = incSat (s.rd R.SVC_AUTH_FAIL)
          ∧ t.svc.sessions.find i = if 3 ≤ x.fails + 1 then none else some { x with fails := x.fails + 1 })
    ∧ (∀ i x ty st p, mysynFrom s m c.2 i x → x.authed = true → m.seq = x.lastSeq → x.cached = some (ty, st, p) → answers c.1 s fun t =>
        replied t m x ty st p ∧ t.svc.sessions.find i = some { x with lastValid := s.now } ∧ t.svc.staging = s.svc.staging ∧ t.tack = s.tack))
  ∧ (∀ (m : MysynMsg) (rb : Option (List Byte)) (b : Bool) (i : Nat) (x : Session) (s : State), s.power.stopped = true →
    ∀ c ∈ [(Instr.mysynRegRead m, 0x10), (.mysynRegWrite m, 0x11), (.mysynStbRead m, 0x20), (.mysynTackRead m, 0x30), (.mysynTackWrite m rb b, 0x31),
     (.mysynImageBegin m, 0x40), (.mysynImageData m b, 0x41), (.mysynImageEnd m b, 0x42), (.mysynImageAbort m, 0x43), (.mysynFwCmd m, 0x44),
     (.mysynFwStatus m, 0x45), (.mysynReset m, 0x50)],
      c.2 ≠ 0x20 → c.2 ≠ 0x45 → c.2 ≠ 0x50 → mysynNext s m c.2 i x → answers c.1 s fun t =>
        replied t m x c.2 St.busyRetry [] ∧ t.svc.staging = s.svc.staging ∧ t.tack = s.tack ∧ t.power = s.power)
  ∧ (∀ (m : MysynMsg) (rb : Option (List Byte)) (b : Bool) (i : Nat) (x : Session) (s : State), x.maintain = false →
    ∀ c ∈ [(Instr.mysynRegRead m, 0x10), (.mysynRegWrite m, 0x11), (.mysynStbRead m, 0x20), (.mysynTackRead m, 0x30), (.mysynTackWrite m rb b, 0x31),
     (.mysynImageBegin m, 0x40), (.mysynImageData m b, 0x41), (.mysynImageEnd m b, 0x42), (.mysynImageAbort m, 0x43), (.mysynFwCmd m, 0x44),
     (.mysynFwStatus m, 0x45), (.mysynReset m, 0x50)],
      c.2 ∉ [0x10, 0x20, 0x30, 0x45] → mysynRuns s m c.2 i x → answers c.1 s fun t =>
        replied t m x c.2 St.invalidField [] ∧ t.svc.staging = s.svc.staging ∧ t.tack = s.tack ∧ t.mem = s.mem ∧ t.power = s.power)
  ∧ (∀ (m : MysynMsg) (n i : Nat) (x : Session) (s : State), mysynRuns s m 0x10 i x → m.payload.length = 6 → n = leAt m.payload 4 2 → 1 ≤ n → n ≤ 256 →
    answers (.mysynRegRead m) s fun t => (∃ r, r.length = 4 * n ∧ replied t m x 0x10 St.success r)
      ∧ (leAt m.payload 0 4 = R.CHIP_HEAD → n = 1 → replied t m x 0x10 St.success (leBytes 4 (s.rdShadow R.CHIP_HEAD).toNat)))
  ∧ (∀ (m : MysynMsg) (off n i : Nat) (x : Session) (s : State), mysynRuns s m 0x11 i x → x.maintain = true → off = leAt m.payload 0 4 → n = leAt m.payload 4 2 →
    m.payload.length = 8 + 4 * n → 1 ≤ n → n ≤ 350 → answers (.mysynRegWrite m) s fun t =>
      if off < R.KS_DATA 15 + 4 ∧ R.KS_DATA 0 < off + 4 * n then
        replied t m x 0x11 St.invalidField [] ∧ t.mem = s.mem ∧ ∀ j < 16, t.rd (R.KS_DATA j) = s.rd (R.KS_DATA j)
      else replied t m x 0x11 St.success []
        ∧ (off = R.STB_APP_DATA 0 → n = 1 → s.refuses 5 = false → t.rdN (R.STB_APP_DATA 0) = leAt m.payload 8 4))
  ∧ (∀ (m : MysynMsg) (off n i : Nat) (x : Session) (s : State), mysynNext s m 0x20 i x → s.recovery = false → off = leAt m.payload 0 8 → n = leAt m.payload 8 2 →
    m.payload.length = 11 → off % 4 = 0 → n % 4 = 0 → 4 ≤ n → n ≤ 1024 → answers (.mysynStbRead m) s fun t =>
      if off < (s.rd64 R.STB_END).toNat then replied t m x 0x20 St.success (s.stbRead off n) else replied t m x 0x20 St.invalidField [])
  ∧ (∀ (m : MysynMsg) (copy off n i : Nat) (x : Session) (s : State), mysynRuns s m 0x30 i x → copy = leAt m.payload 0 1 → off = leAt m.payload 4 4 →
    n = leAt m.payload 8 2 → m.payload.length = 10 → copy ≤ 2 → 1 ≤ n → n ≤ 1024 → off + n ≤ 262144 → ¬ (copy = 0 ∧ s.tack.inUse = []) →
    answers (.mysynTackRead m) s fun t =>
      replied t m x 0x30 St.success (tackBytes (if copy = 0 then s.tack.inUse else if copy = 1 then s.tack.copyA else s.tack.copyB) off n))
  ∧ (∀ (m : MysynMsg) (rb : Option (List Byte)) (bothB : Bool) (off i : Nat) (data buf new : List Byte) (x : Session) (s : State),
    mysynRuns s m 0x31 i x → x.maintain = true → off = leAt m.payload 0 4 → data = m.payload.drop 8 → 1 ≤ data.length → data.length ≤ 1024 →
    off + data.length ≤ 262144 → buf = stageAt s.svc.tackBuf off data → new = tackWithSeq buf (s.tackTop + 1) →
    answers (.mysynTackWrite m rb bothB) s fun t => t.svc.tackBuf = buf
      ∧ (if leAt m.payload 4 1 ≠ 1 then replied t m x 0x31 St.success [] ∧ t.tack = s.tack
        else if tackCause buf s.headId ≠ 0 then replied t m x 0x31 St.invalidField [] ∧ t.tack = s.tack
        else (if s.tackTarget bothB = true then t.tack.copyB = rb.getD new ∧ t.tack.copyA = s.tack.copyA
              else t.tack.copyA = rb.getD new ∧ t.tack.copyB = s.tack.copyB)
          ∧ replied t m x 0x31 (if rb.getD new = new then St.success else St.checkValue) []))
  ∧ (∀ (m : MysynMsg) (i : Nat) (x : Session) (s : State), mysynNext s m 0x50 i x → x.maintain = true → m.payload.length = 4 →
    (leAt m.payload 0 1 = 0x01 ∨ leAt m.payload 0 1 = 0x11) → answers (.mysynReset m) s fun t =>
      if s.power.stopped = true ∨ leAt m.payload 0 1 = 0x11 ∨ s.role = roleInit ∨ s.role = roleStandby ∨ s.role = roleFenced then
        hasReset s t 1 ∧ replied t m x 0x50 St.success []
      else captured s t 0 0x0004 0 0 ∧ ∃ st, replied t m x 0x50 st [])

/-- IMAGE_BEGIN makes the checks of R498 in order: a failing one is answered with its RESULT, recorded, and captured as IMAGE_REFUSED at L0;
an accepted header empties the target slot and starts staging. IMAGE_DATA takes the next bytes in order alone (R500); IMAGE_END stages the
image or ends staging by length, hash or read-back (R499); IMAGE_ABORT leaves the slot EMPTY. ACTIVATE puts a STAGED slot on TRIAL and
resets, COMMIT makes the running slot COMMITTED and raises the floor unless HOLD_FLOOR is set, REVERT fails a trial and resets,
ABORT_STAGE abandons staging (R504); while BUSY or on a stopped head FW_CMD is discarded. FW_STATUS answers 52 bytes of the FWU page. That
a stopped head discards FW_CMD, and what IMAGE_DATA without staging answers, are the model's choices. -/
def Obligations.FirmwareIsStagedAndCommitted : Prop :=
  (∀ (m : MysynMsg) (i c : Nat) (x : Session) (s : State), mysynNext s m 0x40 i x → s.power.stopped = false → x.maintain = true →
    c = s.fwHeaderCheck m.payload → answers (.mysynImageBegin m) s fun t =>
      if c ≠ 0 then replied t m x 0x40 St.invalidField (leBytes 1 c ++ leBytes 3 0) ∧ captured s t 9 0x0100 0 0 ∧ t.bit (R.PG_EVENT 9) 1 = true
      else if s.fwVersionOk m.payload = false then replied t m x 0x40 St.invalidField (leBytes 1 8 ++ leBytes 3 0) ∧ captured s t 9 0x0100 0 0
      else if s.fwMode = 1 ∨ s.svc.staging.isSome = true then
        replied t m x 0x40 St.busyRetry (leBytes 1 9 ++ leBytes 3 0) ∧ captured s t 9 0x0100 0 0 ∧ t.bit (R.PG_EVENT 9) 1 = true
      else s.guard.acts = [] →
        t.svc.staging = some { slotB := s.fwTarget, header := m.payload, body := [], session := x.id } ∧ t.fwSlot s.fwTarget = FwSlot.none
        ∧ t.fwSlot (!s.fwTarget) = s.fwSlot (!s.fwTarget) ∧ t.rdN R.FW_STAGE_BYTES = 0
        ∧ replied t m x 0x40 St.success (leBytes 2 (s.fwTarget.toNat * 256) ++ leBytes 2 0))
  ∧ (∀ (m : MysynMsg) (ok : Bool) (i : Nat) (x : Session) (g : Staging) (data : List Byte) (s : State), mysynNext s m 0x41 i x → s.power.stopped = false →
    x.maintain = true → s.svc.staging = some g → data = m.payload.drop 4 → answers (.mysynImageData m ok) s fun t =>
      if leAt m.payload 0 4 ≠ g.body.length ∨ data.length = 0 ∨ 1400 < data.length
          ∨ (data.length % 4 ≠ 0 ∧ g.body.length + data.length ≠ imgLength g.header) then
        replied t m x 0x41 St.invalidField [] ∧ t.svc.staging = s.svc.staging
      else if ok = false then t.svc.staging = none ∧ captured s t 9 0x0103 2 0 ∧ ∃ st, replied t m x 0x41 st []
      else t.svc.staging = some { g with body := g.body ++ data } ∧ replied t m x 0x41 St.success []
        ∧ t.rd R.FW_STAGE_BYTES = BitVec.ofNat 32 (g.body.length + data.length))
  ∧ (∀ (m : MysynMsg) (ok : Bool) (i : Nat) (x : Session) (g : Staging) (s : State), mysynNext s m 0x42 i x → s.power.stopped = false →
    x.maintain = true → s.svc.staging = some g → answers (.mysynImageEnd m ok) s fun t => t.svc.staging = none
      ∧ (if g.body.length ≠ imgLength g.header then ∃ st, replied t m x 0x42 st (leBytes 1 0x0C ++ leBytes 3 0)
        else if sha384 g.body ≠ imgHash g.header then replied t m x 0x42 St.checkValue (leBytes 1 0x0A ++ leBytes 3 0)
        else if ok = false then captured s t 9 0x0103 2 0 ∧ ∃ st, replied t m x 0x42 st (leBytes 1 0x0B ++ leBytes 3 0)
        else replied t m x 0x42 St.success (leBytes 1 0 ++ leBytes 3 0) ∧ t.bit (R.PG_EVENT 9) 0 = true
          ∧ (t.fwSlot g.slotB).st = .staged ∧ (t.fwSlot g.slotB).body = g.body ∧ (t.fwSlot g.slotB).header = g.header
          ∧ (t.fwSlot g.slotB).seq = (s.fwSlot (!g.slotB)).seq + 1 ∧ (t.fwSlot g.slotB).build = imgBuild g.header))
  ∧ (∀ (m : MysynMsg) (i : Nat) (x : Session) (s : State), mysynNext s m 0x43 i x → s.power.stopped = false → x.maintain = true →
    answers (.mysynImageAbort m) s fun t =>
      match s.svc.staging with
      | none => replied t m x 0x43 St.invalidField [] ∧ t.svc.slotA = s.svc.slotA ∧ t.svc.slotB = s.svc.slotB
      | some g => replied t m x 0x43 St.success [] ∧ t.svc.staging = none ∧ t.fwSlot g.slotB = FwSlot.none ∧ t.fld R.FW_STAGE 8 8 = 0x0D)
  ∧ (∀ (force hold : Bool) (s : State), s.bit R.FW_CMD_STATUS 16 = true ∨ s.power.stopped = true →
    ∀ c ∈ [Instr.fwActivate force, .fwCommit hold, .fwRevert, .fwAbortStage], answers c s fun t =>
      captured s t 9 0x0004 0 0 ∧ t.power = s.power ∧ t.svc.fuses = s.svc.fuses)
  ∧ (∀ (force : Bool) (s : State), s.bit R.FW_CMD_STATUS 16 = false → s.power.stopped = false → s.svc.staging = none →
    answers (.fwActivate force) s fun t =>
      match s.fwStagedSlot with
      | none => t.rdN R.FW_CMD_STATUS = St.invalidField ∧ t.svc = s.svc
      | some b =>
        if force = true ∨ (s.role = roleStandby ∧ s.tandem.leaving = true) ∨ s.role = roleInit ∨ s.role = roleFenced then
          hasReset s t 2 ∧ t.fwSlot b = { s.fwSlot b with st := .trial, tries := 0 }
        else t.rdN R.FW_CMD_STATUS = St.invalidField ∧ t.svc = s.svc)
  ∧ (∀ (hold : Bool) (s : State), s.bit R.FW_CMD_STATUS 16 = false → s.power.stopped = false → s.svc.staging = none →
    answers (.fwCommit hold) s fun t =>
      if s.fwMode = 1 ∨ ((s.fwMode = 0 ∨ s.fwMode = 2) ∧ hold = false) then
        t.rdN R.FW_CMD_STATUS = St.success ∧ t.bit (R.PG_EVENT 9) 2 = true ∧ (s.fwMode = 1 → t.fwMode = 0)
        ∧ (t.fwSlot s.fwRunSlot).st = .committed
        ∧ t.svc.fuses = (if hold = true then s.svc.fuses else max s.svc.fuses (s.fwSlot s.fwRunSlot).secEpoch)
        ∧ (s.fwFloor < t.fwFloor → t.bit (R.PG_EVENT 9) 3 = true)
      else t.rdN R.FW_CMD_STATUS = St.invalidField ∧ t.svc = s.svc)
  ∧ (∀ s : State, s.bit R.FW_CMD_STATUS 16 = false → s.power.stopped = false →
    (answers .fwRevert s fun t =>
      if s.fwMode = 1 then hasReset s t 2 ∧ (t.fwSlot s.fwRunSlot).st = .failed
      else t.rdN R.FW_CMD_STATUS = St.invalidField ∧ t.svc = s.svc)
    ∧ (answers .fwAbortStage s fun t =>
      match s.svc.staging with
      | none => t.rdN R.FW_CMD_STATUS = St.invalidField ∧ t.svc = s.svc
      | some g => t.rdN R.FW_CMD_STATUS = St.success ∧ t.svc.staging = none ∧ t.fwSlot g.slotB = FwSlot.none))
  ∧ (∀ (m : MysynMsg) (i w : Nat) (x : Session) (s : State), mysynRuns s m 0x44 i x → x.maintain = true → w = leAt m.payload 0 4 → s.svc.staging = none →
    answers (.mysynFwCmd m) s fun t =>
      if w % 8 = 1 ∧ w.testBit 9 = true ∧ s.fwStagedSlot.isSome = true then
        hasReset s t 2 ∧ replied t m x 0x44 St.success []
      else if w % 8 = 2 ∧ s.fwMode = 1 then
        replied t m x 0x44 St.success [] ∧ (t.fwSlot s.fwRunSlot).st = .committed ∧ t.rdN R.FW_CMD_STATUS = St.success
      else if w % 8 = 3 ∧ s.fwMode = 1 then
        hasReset s t 2 ∧ replied t m x 0x44 St.success [] ∧ (t.fwSlot s.fwRunSlot).st = .failed
      else w % 8 ∉ [1, 2] → replied t m x 0x44 St.invalidField [] ∧ t.rdN R.FW_CMD_STATUS = St.invalidField
        ∧ t.svc.slotA = s.svc.slotA ∧ t.svc.slotB = s.svc.slotB)
  ∧ (∀ (m : MysynMsg) (i : Nat) (x : Session) (s : State), mysynNext s m 0x45 i x → answers (.mysynFwStatus m) s fun t =>
    replied t m x 0x45 St.success (((List.range 13).map fun j => leBytes 4 (s.busRead (R.FW_RUN + 4 * j)).toNat).flatten)
    ∧ t.svc.slotA = s.svc.slotA ∧ t.svc.slotB = s.svc.slotB ∧ t.svc.staging = s.svc.staging)

/-- POR_N falling and a WARM reset that may be taken reset every domain but the always-on island, and the bring-up is due (R520, R521);
otherwise the WARM request is discarded. The bring-up ends at its last step, in recovery mode with the boot ROM alone, or stalls at a step
with BRINGUP_STALL (R503, R524). PERST_N falling resets the endpoint alone (R522). Tj at 110 degC for 250 strides halts the head with L5,
THERMTRIP_N stays asserted until POR_N (R519). MOD_RST and MOD_PRSNT act as R527 and R528 have it. A completion timeout or a poisoned TLP
completes its command with BUSY_RETRY and is captured at L1; the link's training, loss and speed show in PCIE_LINK (R84). -/
def Obligations.ResetsPinsAndLinksAct : Prop :=
  (∀ s : State, answers .porNAssert s fun t => hasReset s t 0 ∧ t.power.porLow = true ∧ t.power.thermtrip = false)
  ∧ (∀ (force : Bool) (s : State), answers (.warmReset force) s fun t =>
    if s.power.stopped = false ∧ (force = true ∨ s.role = roleInit ∨ s.role = roleStandby ∨ s.role = roleFenced) then hasReset s t 1
    else captured s t 0 0x0004 0 0 ∧ t.power = s.power)
  ∧ (∀ (f : BringupFacts) (s : State), answers (.bringup f) s fun t =>
    if s.power.bringup = false then t = s
    else t.power.bringup = false ∧ (f.recovery = true →
      t.fwMode = 3 ∧ t.rdN R.MOD_PRSNT = f.present % 2 ^ 24 ∧ t.bit R.CHIP_RST_STATUS 3 = true ∧ t.headId = f.headId % 2
      ∧ t.now = BitVec.ofNat 64 (s.calSec * 250000 + s.rdN R.CAL_SUBSEC * 250000 / 32768) ∧ t.power.porLow = false
      ∧ t.rd R.RESETS = incSat (s.rd R.RESETS)))
  ∧ (∀ (n : Nat) (f : BringupFacts) (s : State), answers (.bringupStall n f) s fun t =>
    if s.power.bringup = false ∨ n = 0 ∨ 8 < n then t = s
    else t.power.stalled = some n ∧ t.power.bringup = false ∧ t.bit (R.PG_ERR_FIRST 0) 31 = true ∧ (n = 1 → captured s t 0 0x0102 2 1))
  ∧ (∀ s : State,
    (answers .perstNAssert s fun t =>
      if s.power.perstLow = true then t = s
      else t.power.perstLow = true ∧ t.rd R.CHIP_PCIE_RESETS = incSat (s.rd R.CHIP_PCIE_RESETS) ∧ t.bit (R.PG_EVENT 0) 6 = true
        ∧ t.fld R.CHIP_RST_STATUS 0 3 = 4 ∧ t.bit R.PCIE_LINK 9 = false ∧ t.front.numVfs = 0 ∧ t.media = s.media ∧ t.svc = s.svc)
    ∧ (answers .perstNRelease s fun t =>
      if s.power.perstLow = true then t.power.perstLow = false ∧ t.rdN R.PCIE_LINK = 2 ^ 10 + 2 ^ 16 ∧ t.front = s.front else t = s)
    ∧ (answers .pcieLinkDown s fun t =>
      if s.power.perstLow = true ∨ s.bit R.PCIE_LINK 9 = false then t = s
      else captured s t 24 0x0102 0 0 ∧ t.bit R.PCIE_LINK 9 = false ∧ t.fld R.CHIP_RST_STATUS 0 3 = 4 ∧ t.front.numVfs = 0)
    ∧ (answers .tjHalt s fun t =>
      if s.power.hotStrides < 250 ∨ s.cist.haltReq = true ∨ s.power.stopped = true then t = s
      else captured s t 0 0x0101 5 0 ∧ t.cist.haltReq = true)
    ∧ (answers .thermtrip s fun t => t.power.thermtrip = true ∧ t.regs = s.regs))
  ∧ (∀ (n : Nat) (s : State), n < 24 → answers (.modRstAssert n) s fun t =>
    if s.pageState (mlinkPage n) = .off ∨ s.lstate n = lsDown then
      t.bit R.MOD_RST n = true ∧ t.power.modRst.find n = some (s.now, false)
    else captured s t 0 0x0004 0 0 ∧ t.power = s.power ∧ t.rd R.MOD_RST = s.rd R.MOD_RST)
  ∧ (∀ (n : Nat) (w : Bool) (s : State), n < 24 → answers (.modRstRelease n w) s fun t =>
    match s.power.modRst.find n with
    | none => t = s
    | some (t0, held) =>
      if s.since t0 < 250 then
        (if w = true then t.power.modRst.find n = some (t0, true) ∧ t.regs = s.regs else t = s)
      else if w = true ∨ held = true then
        t.power.modRst.find n = none ∧ t.bit R.MOD_RST n = false
        ∧ (s.lstate n = lsDown → s.bit (R.MLK_CTRL n) 0 = true → s.bit (R.MLK_STATUS n) 3 = true → t.lstate n = lsTrain)
      else t = s)
  ∧ (∀ (n : Nat) (here : Bool) (s : State), n < 24 → answers (.modPrsntChange n here) s fun t =>
    if s.bit R.MOD_PRSNT n = here then t = s
    else t.bit R.MOD_PRSNT n = here ∧ t.bit (R.PG_EVENT 0) 5 = true ∧ t.bit (R.MLK_STATUS n) 3 = here
      ∧ (here = true → s.lstate n = lsDown → s.bit (R.MLK_CTRL n) 0 = true → s.bit R.MOD_RST n = false → t.lstate n = lsTrain))
  ∧ (∀ (f n : Nat) (s : State), answers (.pcieCplTimeout f n) s fun t =>
    captured s t 24 0x0100 1 f ∧ t.rd R.PCIE_CPL_TMO = incSat (s.rd R.PCIE_CPL_TMO) ∧ t.bit (R.PG_EVENT 24) 3 = true
    ∧ ∀ c, mayComplete s n c → completed t n c St.busyRetry 0)
  ∧ (∀ (f n : Nat) (s : State), answers (.pciePoisonedTlp f n) s fun t =>
    captured s t 24 0x0101 1 f ∧ t.rd R.PCIE_POISONED = incSat (s.rd R.PCIE_POISONED) ∧ ∀ c, mayComplete s n c → completed t n c St.busyRetry 0)
  ∧ (∀ (speed width : Nat) (s : State),
    (answers (.pcieLinkUp speed width) s fun t => t.rd R.PCIE_LINK = pcieLinkWord speed width ∧ t.bit (R.PG_EVENT 24) 0 = true
      ∧ (speed < 5 ∨ width < 16 → captured s t 24 0x0103 0 0))
    ∧ (answers (.pcieSpeedChange speed width) s fun t => t.rd R.PCIE_LINK = pcieLinkWord speed width ∧ t.bit (R.PG_EVENT 24) 2 = true
      ∧ t.rd R.PCIE_RETRAINS = incSat (s.rd R.PCIE_RETRAINS) ∧ (speed < 5 ∨ width < 16 → captured s t 24 0x0103 0 0)))

/-- At a commit point the stride number rises by one and PWR_STRIDES counts the stride (R22, R43); the gate clears at STR_COMMIT_AT (R37); a
calendar set takes effect (R39); a head that fences itself is FENCED (R379); Tj is read, strides at or above 110 degC are counted, and a
feed whose pin is low counts as failed (R517, R519); the memory controllers' use is shown; and no group that is pending keeps its ARM bit
(R74). -/
def Obligations.CommitPointAdvancesTheStride : Prop :=
  ∀ (f : StrideFacts) (s : State), answers (.commitPoint f) s fun t =>
    t.now = s.now + 1
    ∧ t.rd64 R.PWR_STRIDES = satAdd64 (s.rd64 R.PWR_STRIDES) 1
    ∧ (s.bit R.STR_CTRL 0 = true → s.rd64 R.STR_COMMIT_AT = s.now + 1 → t.bit R.STR_CTRL 0 = false)
    ∧ (s.bit R.CAL_CTRL 0 = true → t.calSec = (s.rd64 R.CAL_SET).toNat % 2 ^ 48 ∧ t.bit R.CAL_CTRL 0 = false)
    ∧ (s.tandem.fencing = true → t.role = roleFenced ∧ t.tandem.fencing = true)
    ∧ t.rdN R.CHIP_TJ = toField 16 f.tj
    ∧ t.power.hotStrides = (if 440 ≤ f.tj then s.power.hotStrides + 1 else 0)
    ∧ t.power.feedSampled = true ∧ (f.pinA = false → t.cist.feedAFail = true) ∧ (f.pinB = false → t.cist.feedBFail = true)
    ∧ (f.pinA = false → f.pinB = false → t.cist.bothFailed = s.cist.bothFailed + 1)
    ∧ (∀ ch < 8, t.rdN (R.DC_UTIL ch) = f.util.getD ch 0 % 1024)
    ∧ ∀ g ∈ t.pendingGroups, (t.rd64 R.EVT_ARM).getLsbD g = false
end

