-- ==== Sys2Proof/Laws/Amap.lean ====
section
/-! SUPPORT. Tables by number and bit fields: what a read finds after a change, and that changes keep the canonical form. -/

namespace Sys2Proof.Machine

variable {α : Type}

/-! ### Tables -/

theorem Amap.find_drop (m : Amap α) (i j : Nat) : (m.drop i).find j = if j = i then none else m.find j := by
  induction m with
  | nil => simp [Amap.drop, Amap.find]
  | cons p m ih =>
    obtain ⟨k, v⟩ := p
    simp only [Amap.drop]
    split
    · subst k
      by_cases hj : j = i
      · subst hj; simpa using ih
      · simp [Amap.find, ih, hj, Ne.symm hj]
    · by_cases hj : j = i
      · subst hj; simp [Amap.find, *]
      · simp [Amap.find, ih, hj]

theorem Amap.find_ins (m : Amap α) (i : Nat) (x : α) (j : Nat) (h : m.find i = none) :
    (m.ins i x).find j = if j = i then some x else m.find j := by
  induction m with
  | nil => simp [Amap.ins, Amap.find, eq_comm]
  | cons p m ih =>
    obtain ⟨k, v⟩ := p
    simp only [Amap.find] at h
    split at h
    · cases h
    · simp only [Amap.ins]
      split
      · simp [Amap.find, eq_comm]
      · by_cases hj : j = i
        · subst hj; simp [Amap.find, *]
        · simp [Amap.find, ih h, hj]

/-- A table holds what was last put at a key, and elsewhere what it held. -/
theorem Amap.find_put (m : Amap α) (i : Nat) (x : α) (j : Nat) :
    (m.put i x).find j = if j = i then some x else m.find j := by
  unfold Amap.put
  rw [Amap.find_ins _ _ _ _ (by simp [Amap.find_drop]), Amap.find_drop]
  split <;> rfl

@[simp] theorem Amap.find_put_same (m : Amap α) (i : Nat) (x : α) : (m.put i x).find i = some x := by
  simp [Amap.find_put]

@[simp] theorem Amap.find_drop_same (m : Amap α) (i : Nat) : (m.drop i).find i = none := by simp [Amap.find_drop]

theorem Amap.find_put_ne (m : Amap α) {i j : Nat} (x : α) (h : j ≠ i) : (m.put i x).find j = m.find j := by
  simp [Amap.find_put, h]

theorem Amap.find_drop_ne (m : Amap α) {i j : Nat} (h : j ≠ i) : (m.drop i).find j = m.find j := by
  simp [Amap.find_drop, h]

@[simp] theorem Amap.find_nil (i : Nat) : Amap.find ([] : Amap α) i = none := rfl

/-- Changing the entry at a key: the new entry there, the old ones elsewhere. -/
theorem Amap.find_upd (m : Amap α) (i : Nat) (f : α → α) (j : Nat) :
    (m.upd i f).find j = if j = i then (m.find i).map f else m.find j := by
  unfold Amap.upd
  split
  · next h => by_cases hj : j = i <;> simp [hj, h]
  · next x h => by_cases hj : j = i <;> simp [hj, h, Amap.find_put]

/-! ### The canonical form of a table -/

/-- Every key of the table is above `n`. -/
def Amap.above (n : Nat) (m : Amap α) : Prop := ∀ p ∈ m, n < p.1

theorem Amap.sorted_cons {k : Nat} {v : α} {m : Amap α} :
    Amap.sorted ((k, v) :: m) = true ↔ Amap.above k m ∧ Amap.sorted m = true := by
  induction m generalizing k v with
  | nil => simp [Amap.sorted, Amap.above]
  | cons p m ih =>
    obtain ⟨k', v'⟩ := p
    simp only [Amap.sorted, Bool.and_eq_true, decide_eq_true_eq, Amap.above, List.mem_cons]
    constructor
    · rintro ⟨hk, hs⟩
      refine ⟨?_, hs⟩
      rintro q (rfl | hq)
      · exact hk
      · exact Nat.lt_trans hk ((ih.1 hs).1 q hq)
    · rintro ⟨h, hs⟩
      exact ⟨h (k', v') (.inl rfl), hs⟩

theorem Amap.mem_drop {m : Amap α} {i : Nat} {p : Nat × α} (h : p ∈ m.drop i) : p ∈ m ∧ p.1 ≠ i := by
  induction m with
  | nil => cases h
  | cons q m ih =>
    obtain ⟨k, v⟩ := q
    simp only [Amap.drop] at h
    split at h
    · exact ⟨.tail _ (ih h).1, (ih h).2⟩
    · cases h with
      | head => exact ⟨.head _, by simpa⟩
      | tail _ h => exact ⟨.tail _ (ih h).1, (ih h).2⟩

theorem Amap.mem_ins {m : Amap α} {i : Nat} {x : α} {p : Nat × α} (h : p ∈ m.ins i x) : p = (i, x) ∨ p ∈ m := by
  induction m with
  | nil => simpa [Amap.ins] using h
  | cons q m ih =>
    obtain ⟨k, v⟩ := q
    simp only [Amap.ins] at h
    split at h
    · simpa using h
    · cases h with
      | head => exact .inr (.head _)
      | tail _ h => exact (ih h).imp id (.tail _)

theorem Amap.sorted_drop {m : Amap α} (i : Nat) (h : m.sorted = true) : (m.drop i).sorted = true := by
  induction m with
  | nil => rfl
  | cons q m ih =>
    obtain ⟨k, v⟩ := q
    obtain ⟨ha, hs⟩ := Amap.sorted_cons.1 h
    simp only [Amap.drop]
    split
    · exact ih hs
    · exact Amap.sorted_cons.2 ⟨fun p hp => ha p (Amap.mem_drop hp).1, ih hs⟩

theorem Amap.sorted_ins {m : Amap α} {i : Nat} (x : α) (h : m.sorted = true) (hi : ∀ p ∈ m, p.1 ≠ i) :
    (m.ins i x).sorted = true := by
  induction m with
  | nil => rfl
  | cons q m ih =>
    obtain ⟨k, v⟩ := q
    obtain ⟨ha, hs⟩ := Amap.sorted_cons.1 h
    simp only [Amap.ins]
    split
    · next hlt =>
      refine Amap.sorted_cons.2 ⟨?_, h⟩
      intro p hp
      cases hp with
      | head => exact hlt
      | tail _ hp => exact Nat.lt_trans hlt (ha p hp)
    · next hge =>
      have hk : k ≠ i := hi (k, v) (.head _)
      refine Amap.sorted_cons.2 ⟨?_, ih hs fun p hp => hi p (.tail _ hp)⟩
      intro p hp
      rcases Amap.mem_ins hp with rfl | hp
      · show k < i
        omega
      · exact ha p hp

/-- Putting an entry keeps the keys strictly rising. -/
theorem Amap.sorted_put {m : Amap α} (i : Nat) (x : α) (h : m.sorted = true) : (m.put i x).sorted = true :=
  Amap.sorted_ins x (Amap.sorted_drop i h) fun _ hp => (Amap.mem_drop hp).2

theorem Amap.sorted_filter {m : Amap α} (f : Nat × α → Bool) (h : m.sorted = true) : Amap.sorted (m.filter f) = true := by
  induction m with
  | nil => rfl
  | cons q m ih =>
    obtain ⟨k, v⟩ := q
    obtain ⟨ha, hs⟩ := Amap.sorted_cons.1 h
    simp only [List.filter_cons]
    split
    · exact Amap.sorted_cons.2 ⟨fun p hp => ha p (List.mem_filter.mp hp).1, ih hs⟩
    · exact ih hs

theorem Amap.mem_put {m : Amap α} {i : Nat} {x : α} {p : Nat × α} (h : p ∈ m.put i x) : p = (i, x) ∨ p ∈ m :=
  (Amap.mem_ins h).imp id fun h => (Amap.mem_drop h).1

end Sys2Proof.Machine
end

