-- ==== Sys2Proof/Laws/State.lean ====
section
/-! SUPPORT. The named operations on registers: what a register reads after a write, and that a write changes nothing else. -/

namespace Sys2Proof.Machine

/-! ### One register -/

@[simp] theorem State.wr_same (s : State) (k : Nat) (v : Word) : (s.wr k v).rd k = v := by
  unfold State.wr State.rd
  by_cases h : v = resetOf k <;> simp [h]

/-- A write leaves every other register. -/
theorem State.wr_rd (s : State) (k j : Nat) (v : Word) : (s.wr k v).rd j = if j = k then v else s.rd j := by
  by_cases h : j = k
  · subst h; simp
  · unfold State.wr State.rd
    simp only [h, if_false]
    split
    · rw [Amap.find_drop_ne _ h]
    · rw [Amap.find_put_ne _ _ h]

theorem State.wr_ne (s : State) {k j : Nat} (v : Word) (h : j ≠ k) : (s.wr k v).rd j = s.rd j := by simp [State.wr_rd, h]

@[simp] theorem State.wr_pending (s : State) (k : Nat) (v : Word) : (s.wr k v).pending = s.pending := rfl
@[simp] theorem State.wr_sent (s : State) (k : Nat) (v : Word) : (s.wr k v).sent = s.sent := rfl
@[simp] theorem State.wr_shadow (s : State) (k : Nat) (v : Word) : (s.wr k v).shadow = s.shadow := rfl
@[simp] theorem State.wr_hiLatch (s : State) (k : Nat) (v : Word) : (s.wr k v).hiLatch = s.hiLatch := rfl
@[simp] theorem State.wr_loPend (s : State) (k : Nat) (v : Word) : (s.wr k v).loPend = s.loPend := rfl
@[simp] theorem State.wr_clock (s : State) (k : Nat) (v : Word) : (s.wr k v).clock = s.clock := rfl
@[simp] theorem State.wr_pages (s : State) (k : Nat) (v : Word) : (s.wr k v).pages = s.pages := rfl
@[simp] theorem State.wr_guard (s : State) (k : Nat) (v : Word) : (s.wr k v).guard = s.guard := rfl
@[simp] theorem State.wr_stud (s : State) (k : Nat) (v : Word) : (s.wr k v).stud = s.stud := rfl
@[simp] theorem State.wr_tack (s : State) (k : Nat) (v : Word) : (s.wr k v).tack = s.tack := rfl
@[simp] theorem State.wr_front (s : State) (k : Nat) (v : Word) : (s.wr k v).front = s.front := rfl
@[simp] theorem State.wr_cist (s : State) (k : Nat) (v : Word) : (s.wr k v).cist = s.cist := rfl
@[simp] theorem State.wr_cam (s : State) (k : Nat) (v : Word) : (s.wr k v).cam = s.cam := rfl
@[simp] theorem State.wr_media (s : State) (k : Nat) (v : Word) : (s.wr k v).media = s.media := rfl
@[simp] theorem State.wr_tandem (s : State) (k : Nat) (v : Word) : (s.wr k v).tandem = s.tandem := rfl
@[simp] theorem State.wr_mem (s : State) (k : Nat) (v : Word) : (s.wr k v).mem = s.mem := rfl
@[simp] theorem State.wr_svc (s : State) (k : Nat) (v : Word) : (s.wr k v).svc = s.svc := rfl
@[simp] theorem State.wr_power (s : State) (k : Nat) (v : Word) : (s.wr k v).power = s.power := rfl
@[simp] theorem State.wr_fresh (s : State) (k : Nat) (v : Word) : (s.wr k v).fresh = s.fresh := rfl

/-- Registers are read from the register file alone. -/
theorem State.rd_congr {s t : State} (h : s.regs = t.regs) (k : Nat) : s.rd k = t.rd k := by unfold State.rd; rw [h]

end Sys2Proof.Machine
end

