-- ==== Sys2Proof/Laws/Fields.lean ====
section
/-! SUPPORT. Fields of words and of registers: reading a field after writing one. -/

namespace Sys2Proof.Machine

/-! ### Words -/

/-- Bit `i` of a mask of `n` bits from `lo` on. -/
theorem ones_getLsbD (lo n i : Nat) (hi : i < 32) : (ones lo n).getLsbD i = (decide (lo ≤ i) && decide (i < lo + n)) := by
  unfold ones
  rw [BitVec.getLsbD_ofNat, Nat.testBit_mul_two_pow, Nat.testBit_two_pow_sub_one]
  by_cases hl : lo ≤ i
  · simp only [hl, hi, decide_true, Bool.true_and]
    exact decide_eq_decide.2 (by omega)
  · simp [hl]

/-- Bit `i` of a word whose field of `n` bits from `lo` on has taken `v`. -/
theorem putFld_getLsbD (w : Word) (lo n v i : Nat) (hi : i < 32) :
    (putFld w lo n v).getLsbD i = if lo ≤ i ∧ i < lo + n then v.testBit (i - lo) else w.getLsbD i := by
  unfold putFld
  rw [BitVec.getLsbD_or, BitVec.getLsbD_and, BitVec.getLsbD_not, ones_getLsbD lo n i hi, BitVec.getLsbD_ofNat,
    Nat.testBit_mul_two_pow, Nat.testBit_mod_two_pow]
  by_cases h1 : lo ≤ i
  · by_cases h2 : i < lo + n
    · have h3 : i - lo < n := by omega
      simp [h1, h2, h3, hi]
    · have h3 : ¬ i - lo < n := by omega
      simp [h1, h2, h3, hi]
  · simp [h1, hi]

theorem fld_testBit (w : Word) (lo n i : Nat) : (fld w lo n).testBit i = (decide (i < n) && w.getLsbD (lo + i)) := by
  unfold fld
  rw [Nat.testBit_mod_two_pow, Nat.testBit_div_two_pow, BitVec.getLsbD, Nat.add_comm i lo]

/-- A field reads what was put into it. -/
theorem fld_putFld (w : Word) (lo n v : Nat) (h : lo + n ≤ 32) : fld (putFld w lo n v) lo n = v % 2 ^ n := by
  apply Nat.eq_of_testBit_eq
  intro i
  rw [fld_testBit, Nat.testBit_mod_two_pow]
  by_cases hi : i < n
  · rw [putFld_getLsbD w lo n v _ (by omega)]
    simp [hi]
  · simp [hi]

/-- A field beside one that is written stays. -/
theorem fld_putFld_ne (w : Word) (lo n v lo' n' : Nat) (hd : lo' + n' ≤ lo ∨ lo + n ≤ lo') :
    fld (putFld w lo n v) lo' n' = fld w lo' n' := by
  apply Nat.eq_of_testBit_eq
  intro i
  rw [fld_testBit, fld_testBit]
  by_cases hi : i < n'
  · by_cases h32 : lo' + i < 32
    · have : ¬ (lo ≤ lo' + i ∧ lo' + i < lo + n) := by omega
      rw [putFld_getLsbD w lo n v _ h32, if_neg this]
    · rw [BitVec.getLsbD_of_ge _ _ (by omega), BitVec.getLsbD_of_ge _ _ (by omega)]
  · simp [hi]

theorem fld_lt (w : Word) (lo n : Nat) : fld w lo n < 2 ^ n := Nat.mod_lt _ (Nat.two_pow_pos n)

/-- A bit is a field of one bit. -/
theorem bit_eq_fld (w : Word) (i : Nat) : bit w i = decide (fld w i 1 = 1) := by
  unfold bit
  have h := fld_testBit w i 1 0
  have hl := fld_lt w i 1
  simp only [Nat.lt_one_iff, decide_true, Bool.true_and, Nat.add_zero] at h
  rw [← h]
  rcases (by omega : fld w i 1 = 0 ∨ fld w i 1 = 1) with e | e <;> simp [e]

theorem bit_putFld (w : Word) (lo n v i : Nat) (hi : i < 32) :
    bit (putFld w lo n v) i = if lo ≤ i ∧ i < lo + n then v.testBit (i - lo) else bit w i := putFld_getLsbD w lo n v i hi

/-- Putting into a field what it holds changes nothing. -/
theorem putFld_self (w : Word) (lo n : Nat) : putFld w lo n (fld w lo n) = w := by
  apply BitVec.eq_of_getLsbD_eq
  intro i hi
  rw [putFld_getLsbD w lo n _ i hi]
  split
  · next h =>
    have : lo + (i - lo) = i := by omega
    rw [fld_testBit, this]
    simp
    omega
  · rfl

theorem fld_ofNat (v lo n : Nat) (h : v < 2 ^ 32) : fld (BitVec.ofNat 32 v) lo n = v / 2 ^ lo % 2 ^ n := by
  unfold fld
  rw [BitVec.toNat_ofNat, Nat.mod_eq_of_lt h]

/-! ### Registers -/

theorem State.rd_wr (s : State) (k j : Nat) (v : Word) : (s.wr k v).rd j = if j = k then v else s.rd j := State.wr_rd s k j v

theorem State.rd_wrN (s : State) (k j v : Nat) : (s.wrN k v).rd j = if j = k then BitVec.ofNat 32 v else s.rd j :=
  State.wr_rd s k j _

theorem State.rd_putFld (s : State) (k lo n v j : Nat) :
    (s.putFld k lo n v).rd j = if j = k then Machine.putFld (s.rd k) lo n v else s.rd j := State.wr_rd s k j _

theorem State.rd_putBit (s : State) (k i : Nat) (b : Bool) (j : Nat) :
    (s.putBit k i b).rd j = if j = k then Machine.putFld (s.rd k) i 1 b.toNat else s.rd j := State.wr_rd s k j _

theorem State.rd_count (s : State) (k j : Nat) : (s.count k).rd j = if j = k then incSat (s.rd k) else s.rd j :=
  State.wr_rd s k j _

theorem State.rd_countBy (s : State) (k n j : Nat) : (s.countBy k n).rd j = if j = k then addSat (s.rd k) n else s.rd j :=
  State.wr_rd s k j _

theorem State.rd_event (s : State) (p i j : Nat) :
    (s.event p i).rd j = if j = R.PG_EVENT p then Machine.putFld (s.rd (R.PG_EVENT p)) i 1 1 else s.rd j :=
  State.wr_rd s _ j _

theorem State.rd_wr64 (s : State) (k : Nat) (v : DWord) (j : Nat) :
    (s.wr64 k v).rd j = if j = k + 4 then hiHalf v else if j = k then loHalf v else s.rd j := by
  unfold State.wr64
  rw [State.wr_rd, State.wr_rd]

theorem pair_halves (v : DWord) : pair (loHalf v) (hiHalf v) = v := by
  unfold pair loHalf hiHalf
  apply BitVec.eq_of_getLsbD_eq
  intro i hi
  simp only [BitVec.getLsbD_or, BitVec.getLsbD_shiftLeft, BitVec.getLsbD_setWidth, BitVec.getLsbD_ushiftRight]
  by_cases h : i < 32
  · simp [h, hi]
  · have : 32 + (i - 32) = i := by omega
    have h2 : i - 32 < 32 := by omega
    have h3 : i - 32 < 64 := by omega
    simp [h, hi, this, h2, h3]

/-- A 64-bit register reads what was written to it. -/
theorem State.rd64_wr64 (s : State) (k : Nat) (v : DWord) : (s.wr64 k v).rd64 k = v := by
  unfold State.rd64
  rw [State.rd_wr64, State.rd_wr64, if_neg (by omega), if_pos rfl, if_pos rfl, pair_halves]

theorem State.fld_putFld (s : State) (k lo n v : Nat) (h : lo + n ≤ 32) : (s.putFld k lo n v).fld k lo n = v % 2 ^ n := by
  unfold State.fld
  rw [State.rd_putFld, if_pos rfl, Machine.fld_putFld _ _ _ _ h]

theorem State.bit_putBit (s : State) (k i : Nat) (b : Bool) (h : i < 32) : (s.putBit k i b).bit k i = b := by
  unfold State.bit
  rw [State.rd_putBit, if_pos rfl, Machine.bit_putFld _ _ _ _ _ h]
  cases b <;> simp

theorem State.bit_event (s : State) (p i : Nat) (h : i < 32) : (s.event p i).bit (R.PG_EVENT p) i = true :=
  State.bit_putBit s _ i true h

theorem State.rd_wr_self (s : State) (k j : Nat) : (s.wr k (s.rd k)).rd j = s.rd j := by
  rw [State.wr_rd]
  split
  · next h => rw [h]
  · rfl

/-! ### What leaves the register file alone -/

@[simp] theorem State.emit_rd (s : State) (e : Emit) (k : Nat) : (s.emit e).rd k = s.rd k := rfl
@[simp] theorem State.emit_sent (s : State) (e : Emit) : (s.emit e).sent = e :: s.sent := rfl
@[simp] theorem State.useFree_rd (s : State) (k : Nat) : s.useFree.rd k = s.rd k := rfl
@[simp] theorem State.useFree_fresh (s : State) : s.useFree.fresh = s.fresh + 1 := rfl

end Sys2Proof.Machine
end

