-- ==== Sys2Proof/Laws/Frame.lean ====
section
/-! SUPPORT. Frames: which of the twenty parts of State an operation may change. Part `i` is the i-th field of State, from 0; bit `i` of
a mask says that the part may change. The queue never changes, and the register file keeps its canonical form. -/

namespace Sys2Proof.Machine

open Sys2Proof.Safety

/-- `t` comes of `s` by a change of the parts that `m` names only; the register file stays canonical. -/
structure Fr (m : Nat) (s t : State) : Prop where
  pending : t.pending = s.pending
  canon : canonical s.regs = true → canonical t.regs = true
  sent : m.testBit 1 = false → t.sent = s.sent
  regs : m.testBit 2 = false → t.regs = s.regs
  shadow : m.testBit 3 = false → t.shadow = s.shadow
  hiLatch : m.testBit 4 = false → t.hiLatch = s.hiLatch
  loPend : m.testBit 5 = false → t.loPend = s.loPend
  clock : m.testBit 6 = false → t.clock = s.clock
  pages : m.testBit 7 = false → t.pages = s.pages
  guard : m.testBit 8 = false → t.guard = s.guard
  stud : m.testBit 9 = false → t.stud = s.stud
  tack : m.testBit 10 = false → t.tack = s.tack
  front : m.testBit 11 = false → t.front = s.front
  cist : m.testBit 12 = false → t.cist = s.cist
  cam : m.testBit 13 = false → t.cam = s.cam
  media : m.testBit 14 = false → t.media = s.media
  tandem : m.testBit 15 = false → t.tandem = s.tandem
  mem : m.testBit 16 = false → t.mem = s.mem
  svc : m.testBit 17 = false → t.svc = s.svc
  power : m.testBit 18 = false → t.power = s.power
  fresh : m.testBit 19 = false → t.fresh = s.fresh

theorem Fr.refl (m : Nat) (s : State) : Fr m s s := by constructor <;> intros <;> first | rfl | assumption

theorem Fr.testBit_of {m k i : Nat} (h : m ||| k = k) (hk : k.testBit i = false) : m.testBit i = false := by
  have := congrArg (·.testBit i) h
  simp only [Nat.testBit_or, hk, Bool.or_false] at this
  exact this

/-- One operation after another. -/
theorem Fr.step {k m : Nat} {s t u : State} (h : Fr k s t) (g : Fr m t u) (hm : m ||| k = k) : Fr k s u :=
  { pending := g.pending.trans h.pending
    canon := fun c => g.canon (h.canon c)
    sent := fun b => (g.sent (Fr.testBit_of hm b)).trans (h.sent b)
    regs := fun b => (g.regs (Fr.testBit_of hm b)).trans (h.regs b)
    shadow := fun b => (g.shadow (Fr.testBit_of hm b)).trans (h.shadow b)
    hiLatch := fun b => (g.hiLatch (Fr.testBit_of hm b)).trans (h.hiLatch b)
    loPend := fun b => (g.loPend (Fr.testBit_of hm b)).trans (h.loPend b)
    clock := fun b => (g.clock (Fr.testBit_of hm b)).trans (h.clock b)
    pages := fun b => (g.pages (Fr.testBit_of hm b)).trans (h.pages b)
    guard := fun b => (g.guard (Fr.testBit_of hm b)).trans (h.guard b)
    stud := fun b => (g.stud (Fr.testBit_of hm b)).trans (h.stud b)
    tack := fun b => (g.tack (Fr.testBit_of hm b)).trans (h.tack b)
    front := fun b => (g.front (Fr.testBit_of hm b)).trans (h.front b)
    cist := fun b => (g.cist (Fr.testBit_of hm b)).trans (h.cist b)
    cam := fun b => (g.cam (Fr.testBit_of hm b)).trans (h.cam b)
    media := fun b => (g.media (Fr.testBit_of hm b)).trans (h.media b)
    tandem := fun b => (g.tandem (Fr.testBit_of hm b)).trans (h.tandem b)
    mem := fun b => (g.mem (Fr.testBit_of hm b)).trans (h.mem b)
    svc := fun b => (g.svc (Fr.testBit_of hm b)).trans (h.svc b)
    power := fun b => (g.power (Fr.testBit_of hm b)).trans (h.power b)
    fresh := fun b => (g.fresh (Fr.testBit_of hm b)).trans (h.fresh b) }

theorem Fr.trans {m : Nat} {s t u : State} (h : Fr m s t) (g : Fr m t u) : Fr m s u := h.step g (Nat.or_self m)

theorem Fr.sub {k M m : Nat} (h : k ||| M = M) (hm : M ||| m = m) : k ||| m = m := by
  rw [← hm, ← Nat.or_assoc, h]

/-- A structure update of a state: the parts given anew are in the mask. -/
theorem Fr.mk' {m : Nat} {s t : State} (h : Fr m s t) {se sh hi lo cl pg gu st ta fr ci ca me td mm sv pw fs}
    (e1 : m.testBit 1 = true ∨ se = t.sent := by first | exact .inl rfl | exact .inr rfl)
    (e3 : m.testBit 3 = true ∨ sh = t.shadow := by first | exact .inl rfl | exact .inr rfl)
    (e4 : m.testBit 4 = true ∨ hi = t.hiLatch := by first | exact .inl rfl | exact .inr rfl)
    (e5 : m.testBit 5 = true ∨ lo = t.loPend := by first | exact .inl rfl | exact .inr rfl)
    (e6 : m.testBit 6 = true ∨ cl = t.clock := by first | exact .inl rfl | exact .inr rfl)
    (e7 : m.testBit 7 = true ∨ pg = t.pages := by first | exact .inl rfl | exact .inr rfl)
    (e8 : m.testBit 8 = true ∨ gu = t.guard := by first | exact .inl rfl | exact .inr rfl)
    (e9 : m.testBit 9 = true ∨ st = t.stud := by first | exact .inl rfl | exact .inr rfl)
    (e10 : m.testBit 10 = true ∨ ta = t.tack := by first | exact .inl rfl | exact .inr rfl)
    (e11 : m.testBit 11 = true ∨ fr = t.front := by first | exact .inl rfl | exact .inr rfl)
    (e12 : m.testBit 12 = true ∨ ci = t.cist := by first | exact .inl rfl | exact .inr rfl)
    (e13 : m.testBit 13 = true ∨ ca = t.cam := by first | exact .inl rfl | exact .inr rfl)
    (e14 : m.testBit 14 = true ∨ me = t.media := by first | exact .inl rfl | exact .inr rfl)
    (e15 : m.testBit 15 = true ∨ td = t.tandem := by first | exact .inl rfl | exact .inr rfl)
    (e16 : m.testBit 16 = true ∨ mm = t.mem := by first | exact .inl rfl | exact .inr rfl)
    (e17 : m.testBit 17 = true ∨ sv = t.svc := by first | exact .inl rfl | exact .inr rfl)
    (e18 : m.testBit 18 = true ∨ pw = t.power := by first | exact .inl rfl | exact .inr rfl)
    (e19 : m.testBit 19 = true ∨ fs = t.fresh := by first | exact .inl rfl | exact .inr rfl) :
    Fr m s (State.mk t.pending se t.regs sh hi lo cl pg gu st ta fr ci ca me td mm sv pw fs) := by
  obtain ⟨h0, hc, h1, h2, h3, h4, h5, h6, h7, h8, h9, h10, h11, h12, h13, h14, h15, h16, h17, h18, h19⟩ := h
  constructor
  · exact h0
  · exact hc
  · intro b; rcases e1 with e | e
    · simp [e] at b
    · exact e.trans (h1 b)
  · exact h2
  · intro b; rcases e3 with e | e
    · simp [e] at b
    · exact e.trans (h3 b)
  · intro b; rcases e4 with e | e
    · simp [e] at b
    · exact e.trans (h4 b)
  · intro b; rcases e5 with e | e
    · simp [e] at b
    · exact e.trans (h5 b)
  · intro b; rcases e6 with e | e
    · simp [e] at b
    · exact e.trans (h6 b)
  · intro b; rcases e7 with e | e
    · simp [e] at b
    · exact e.trans (h7 b)
  · intro b; rcases e8 with e | e
    · simp [e] at b
    · exact e.trans (h8 b)
  · intro b; rcases e9 with e | e
    · simp [e] at b
    · exact e.trans (h9 b)
  · intro b; rcases e10 with e | e
    · simp [e] at b
    · exact e.trans (h10 b)
  · intro b; rcases e11 with e | e
    · simp [e] at b
    · exact e.trans (h11 b)
  · intro b; rcases e12 with e | e
    · simp [e] at b
    · exact e.trans (h12 b)
  · intro b; rcases e13 with e | e
    · simp [e] at b
    · exact e.trans (h13 b)
  · intro b; rcases e14 with e | e
    · simp [e] at b
    · exact e.trans (h14 b)
  · intro b; rcases e15 with e | e
    · simp [e] at b
    · exact e.trans (h15 b)
  · intro b; rcases e16 with e | e
    · simp [e] at b
    · exact e.trans (h16 b)
  · intro b; rcases e17 with e | e
    · simp [e] at b
    · exact e.trans (h17 b)
  · intro b; rcases e18 with e | e
    · simp [e] at b
    · exact e.trans (h18 b)
  · intro b; rcases e19 with e | e
    · simp [e] at b
    · exact e.trans (h19 b)

theorem Fr.foldl {α : Type} {m : Nat} {s : State} {f : State → α → State} (hf : ∀ t x, Fr m s t → Fr m s (f t x)) :
    ∀ (l : List α) (t : State), Fr m s t → Fr m s (l.foldl f t)
  | [], _, h => h
  | x :: l, t, h => Fr.foldl hf l (f t x) (hf t x h)

/-- Steps of a list, one after another. -/
theorem Fr.foldMem {m : Nat} {s : State} : ∀ {l : List (State → State)} {t : State},
    (∀ g ∈ l, ∀ u, Fr m s u → Fr m s (g u)) → Fr m s t → Fr m s (l.foldl (fun s g => g s) t)
  | [], _, _, h => h
  | g :: l, t, hg, h => Fr.foldMem (l := l) (t := g t) (fun g' hg' => hg g' (.tail _ hg')) (hg g (.head _) t h)

/-- The same of a fold that carries more than a state. -/
theorem Fr.foldl₂ {α β : Type} {m : Nat} {s : State} {f : State × β → α → State × β}
    (hf : ∀ t x, Fr m s t.1 → Fr m s (f t x).1) : ∀ (l : List α) (t : State × β), Fr m s t.1 → Fr m s (l.foldl f t).1
  | [], _, h => h
  | x :: l, t, h => Fr.foldl₂ hf l (f t x) (hf t x h)

theorem Fr.ite {m : Nat} {s a b : State} {c : Prop} [Decidable c] (ha : Fr m s a) (hb : Fr m s b) :
    Fr m s (if c then a else b) := by
  split <;> assumption

theorem Fr.ite₁ {β : Type} {m : Nat} {s : State} {a b : State × β} {c : Prop} [Decidable c] (ha : Fr m s a.1)
    (hb : Fr m s b.1) : Fr m s (if c then a else b).1 := by
  split <;> assumption

theorem Fr.fst {β : Type} {m : Nat} {s a : State} {b : β} (h : Fr m s a) : Fr m s (a, b).1 := h

theorem Fr.elim {α : Type} {m : Nat} {s a : State} {f : α → State} {o : Option α} (h : Fr m s a) (g : ∀ x, Fr m s (f x)) :
    Fr m s (o.elim a f) := by
  cases o
  · exact h
  · exact g _

theorem Fr.pair {β : Type} {m : Nat} {s : State} {p : State × β} {a : State} {b : β} (h : Fr m s p.1) (e : p = (a, b)) :
    Fr m s a := by
  subst e; exact h

/-- The frame of a command's outcome. -/
structure FrO (m : Nat) (s : State) (o : Host.Outcome State Fault Refusal) : Prop where
  get : ∀ t, o = .next t → Fr m s t

theorem FrO.got {m : Nat} {s t : State} {o : Host.Outcome State Fault Refusal} (h : FrO m s o) (e : o = .next t) :
    Fr m s t := h.get t e

theorem FrO.next {m : Nat} {s t : State} (h : Fr m s t) : FrO m s (.next t) := ⟨by intro u e; cases e; exact h⟩

theorem FrO.ite {m : Nat} {s : State} {a b : Host.Outcome State Fault Refusal} {c : Prop} [Decidable c] (ha : FrO m s a)
    (hb : FrO m s b) : FrO m s (if c then a else b) := by
  split <;> assumption

theorem FrO.step {k m : Nat} {s t : State} {o : Host.Outcome State Fault Refusal} (h : Fr k s t) (g : FrO m t o)
    (hm : m ||| k = k) : FrO k s o := ⟨fun u e => h.step (g.get u e) hm⟩

/-- The frame of a state that may be there. -/
structure FrS (m : Nat) (s : State) (o : Option State) : Prop where
  got : ∀ t, o = some t → Fr m s t

theorem FrS.map {α : Type} {m : Nat} {s : State} {f : α → State} {o : Option α} (h : ∀ x, Fr m s (f x)) :
    FrS m s (o.map f) := ⟨by cases o <;> intro u e <;> cases e; exact h _⟩

theorem FrS.get {m : Nat} {s t : State} {o : Option State} (h : FrS m s o) (e : o = some t) : Fr m s t := h.got t e

theorem FrS.some {m : Nat} {s t : State} (h : Fr m s t) : FrS m s (.some t) := ⟨by intro u e; cases e; exact h⟩

theorem FrS.none {m : Nat} {s : State} : FrS m s .none := ⟨by intro u e; cases e⟩

theorem FrS.step {k m : Nat} {s t : State} {o : Option State} (h : Fr k s t) (g : FrS m t o)
    (hm : m ||| k = k) : FrS k s o := ⟨fun u e => h.step (g.got u e) hm⟩

theorem FrS.ite {m : Nat} {s : State} {a b : Option State} {c : Prop} [Decidable c] (ha : FrS m s a)
    (hb : FrS m s b) : FrS m s (if c then a else b) := by
  split <;> assumption

/-- The frame of a state that may be there, with something beside it. -/
structure FrP {β : Type} (m : Nat) (s : State) (o : Option (State × β)) : Prop where
  got : ∀ p, o = some p → Fr m s p.1

theorem FrP.trans {β : Type} {m : Nat} {s t : State} {o : Option (State × β)} (h : Fr m s t) (g : FrP m t o) :
    FrP m s o := ⟨fun p e => h.trans (g.got p e)⟩

theorem FrP.get {β : Type} {m : Nat} {s t : State} {b : β} {o : Option (State × β)} (h : FrP m s o) (e : o = some (t, b)) :
    Fr m s t := h.got (t, b) e

theorem FrP.some {β : Type} {m : Nat} {s : State} {p : State × β} (h : Fr m s p.1) : FrP m s (.some p) := ⟨by
  intro u e; cases e; exact h⟩

theorem FrP.none {β : Type} {m : Nat} {s : State} : FrP m s (.none : Option (State × β)) := ⟨by intro u e; cases e⟩

theorem FrP.step {β : Type} {k m : Nat} {s t : State} {o : Option (State × β)} (h : Fr k s t) (g : FrP m t o)
    (hm : m ||| k = k) : FrP k s o := ⟨fun u e => h.step (g.got u e) hm⟩

theorem FrP.ite {β : Type} {m : Nat} {s : State} {a b : Option (State × β)} {c : Prop} [Decidable c] (ha : FrP m s a)
    (hb : FrP m s b) : FrP m s (if c then a else b) := by
  split <;> assumption

/-! ### The register file -/

theorem canonical_drop {m : Amap Word} (k : Nat) (h : canonical m = true) : canonical (m.drop k) = true := by
  simp only [canonical, Bool.and_eq_true, List.all_eq_true] at h ⊢
  exact ⟨Amap.sorted_drop k h.1, fun p hp => h.2 p (Amap.mem_drop hp).1⟩

theorem canonical_filter {m : Amap Word} (f : Nat × Word → Bool) (h : canonical m = true) : canonical (m.filter f) = true := by
  simp only [canonical, Bool.and_eq_true, List.all_eq_true] at h ⊢
  exact ⟨Amap.sorted_filter f h.1, fun p hp => h.2 p (List.mem_filter.mp hp).1⟩

theorem canonical_put {m : Amap Word} {k : Nat} {v : Word} (hv : v ≠ resetOf k) (h : canonical m = true) :
    canonical (m.put k v) = true := by
  simp only [canonical, Bool.and_eq_true, List.all_eq_true] at h ⊢
  refine ⟨Amap.sorted_put k v h.1, fun p hp => ?_⟩
  rcases Amap.mem_put hp with rfl | hp
  · simpa using hv
  · exact h.2 p hp

/-- Writing a register changes the register file only, and keeps its canonical form. -/
theorem State.wr_fr {m : Nat} {b₀ s : State} {k : Nat} {v : Word} (h₀ : Fr m b₀ s) (hm₀ : 4 ||| m = m) :
    Fr m b₀ (s.wr k v) := by
  refine Fr.step h₀ ?_ hm₀
  constructor <;> intros <;> try rfl
  · unfold State.wr
    split
    · exact canonical_drop k ‹_›
    · exact canonical_put ‹_› ‹_›
  · next h => exact absurd h (by decide)

end Sys2Proof.Machine
end

