-- ==== Sys2Proof/Laws/FrOps.lean ====
section
/-! SUPPORT. Frames of the operations of Machine.Ops: the parts of State that each may change. -/

set_option maxRecDepth 20000
set_option Elab.async false
set_option linter.unusedTactic false
set_option linter.unreachableTactic false
set_option linter.unusedVariables false

namespace Sys2Proof.Machine

theorem State.putFld_fr {msk : Nat} {b₀ : State} {s : State} {k : Nat} {lo : Nat} {n : Nat} {v : Nat} (h₀ : Fr msk b₀ s) (hm₀ : 4 ||| msk = msk) :
    Fr msk b₀ (State.putFld s k lo n v) := by
  refine Fr.step h₀ ?_ hm₀
  clear h₀ hm₀
  unfold State.putFld
  try dsimp only
  repeat' (first
    | with_reducible exact Fr.refl _ _
    | exact (rfl : (_ : Nat) = _)
    | with_reducible refine State.wr_fr ?_ ?_)

theorem State.putBit_fr {msk : Nat} {b₀ : State} {s : State} {k : Nat} {i : Nat} {b : Bool} (h₀ : Fr msk b₀ s) (hm₀ : 4 ||| msk = msk) :
    Fr msk b₀ (State.putBit s k i b) := by
  refine Fr.step h₀ ?_ hm₀
  clear h₀ hm₀
  unfold State.putBit
  try dsimp only
  repeat' (first
    | with_reducible exact Fr.refl _ _
    | exact (rfl : (_ : Nat) = _)
    | with_reducible refine State.putFld_fr ?_ ?_)

theorem State.event_fr {msk : Nat} {b₀ : State} {s : State} {p : Nat} {i : Nat} (h₀ : Fr msk b₀ s) (hm₀ : 4 ||| msk = msk) :
    Fr msk b₀ (State.event s p i) := by
  refine Fr.step h₀ ?_ hm₀
  clear h₀ hm₀
  unfold State.event
  try dsimp only
  repeat' (first
    | with_reducible exact Fr.refl _ _
    | exact (rfl : (_ : Nat) = _)
    | with_reducible refine State.putBit_fr ?_ ?_)

theorem State.count_fr {msk : Nat} {b₀ : State} {s : State} {k : Nat} (h₀ : Fr msk b₀ s) (hm₀ : 4 ||| msk = msk) :
    Fr msk b₀ (State.count s k) := by
  refine Fr.step h₀ ?_ hm₀
  clear h₀ hm₀
  unfold State.count
  try dsimp only
  repeat' (first
    | with_reducible exact Fr.refl _ _
    | exact (rfl : (_ : Nat) = _)
    | with_reducible refine State.wr_fr ?_ ?_)

theorem State.wr64_fr {msk : Nat} {b₀ : State} {s : State} {k : Nat} {v : DWord} (h₀ : Fr msk b₀ s) (hm₀ : 4 ||| msk = msk) :
    Fr msk b₀ (State.wr64 s k v) := by
  refine Fr.step h₀ ?_ hm₀
  clear h₀ hm₀
  unfold State.wr64
  try dsimp only
  repeat' (first
    | with_reducible exact Fr.refl _ _
    | exact (rfl : (_ : Nat) = _)
    | with_reducible refine State.wr_fr ?_ ?_)

theorem State.wrN_fr {msk : Nat} {b₀ : State} {s : State} {k : Nat} {v : Nat} (h₀ : Fr msk b₀ s) (hm₀ : 4 ||| msk = msk) :
    Fr msk b₀ (State.wrN s k v) := by
  refine Fr.step h₀ ?_ hm₀
  clear h₀ hm₀
  unfold State.wrN
  try dsimp only
  repeat' (first
    | with_reducible exact Fr.refl _ _
    | exact (rfl : (_ : Nat) = _)
    | with_reducible refine State.wr_fr ?_ ?_)

theorem State.capture_fr {msk : Nat} {b₀ : State} {s : State} {p : Nat} {code : Nat} {level : Nat} {sub : Nat} {injected : optParam Bool Bool.false} (h₀ : Fr msk b₀ s) (hm₀ : 4 ||| msk = msk) :
    Fr msk b₀ (State.capture s p code level sub injected) := by
  refine Fr.step h₀ ?_ hm₀
  clear h₀ hm₀
  unfold State.capture
  try dsimp only
  repeat' (first
    | with_reducible exact Fr.refl _ _
    | exact (rfl : (_ : Nat) = _)
    | with_reducible refine State.count_fr ?_ ?_
    | with_reducible refine State.event_fr ?_ ?_
    | with_reducible refine State.wr64_fr ?_ ?_
    | with_reducible refine State.wrN_fr ?_ ?_
    | with_reducible refine Fr.ite ?_ ?_)

theorem State.useFree_fr {msk : Nat} {b₀ : State} {s : State} (h₀ : Fr msk b₀ s) (hm₀ : 524288 ||| msk = msk) :
    Fr msk b₀ (State.useFree s) := by
  refine Fr.step h₀ ?_ hm₀
  clear h₀ hm₀
  unfold State.useFree
  try dsimp only
  repeat' (first
    | with_reducible exact Fr.refl _ _
    | refine Fr.mk' ?_)

theorem State.emit_fr {msk : Nat} {b₀ : State} {s : State} {e : Emit} (h₀ : Fr msk b₀ s) (hm₀ : 2 ||| msk = msk) :
    Fr msk b₀ (State.emit s e) := by
  refine Fr.step h₀ ?_ hm₀
  clear h₀ hm₀
  unfold State.emit
  try dsimp only
  repeat' (first
    | with_reducible exact Fr.refl _ _
    | refine Fr.mk' ?_)

theorem State.fired_fr {msk : Nat} {b₀ : State} {s : State} {p : Nat} (h₀ : Fr msk b₀ s) (hm₀ : 4 ||| msk = msk) :
    Fr msk b₀ (State.fired s p) := by
  refine Fr.step h₀ ?_ hm₀
  clear h₀ hm₀
  unfold State.fired
  try dsimp only
  repeat' (first
    | with_reducible exact Fr.refl _ _
    | exact (rfl : (_ : Nat) = _)
    | with_reducible refine State.putFld_fr ?_ ?_
    | with_reducible refine State.putBit_fr ?_ ?_
    | with_reducible refine Fr.ite ?_ ?_)

theorem State.inject_fr {msk : Nat} {b₀ : State} {s : State} {p : Nat} {kind : Nat} {sub : Nat} (h₀ : Fr msk b₀ s) (hm₀ : 4 ||| msk = msk) :
    Fr msk b₀ (State.inject s p kind sub).1 := by
  refine Fr.step h₀ ?_ hm₀
  clear h₀ hm₀
  unfold State.inject
  try dsimp only
  repeat' (first
    | with_reducible exact Fr.refl _ _
    | exact (rfl : (_ : Nat) = _)
    | with_reducible refine State.fired_fr ?_ ?_
    | with_reducible refine Fr.ite₁ ?_ ?_)

theorem State.countBy_fr {msk : Nat} {b₀ : State} {s : State} {k : Nat} {n : Nat} (h₀ : Fr msk b₀ s) (hm₀ : 4 ||| msk = msk) :
    Fr msk b₀ (State.countBy s k n) := by
  refine Fr.step h₀ ?_ hm₀
  clear h₀ hm₀
  unfold State.countBy
  try dsimp only
  repeat' (first
    | with_reducible exact Fr.refl _ _
    | exact (rfl : (_ : Nat) = _)
    | with_reducible refine State.wr_fr ?_ ?_)

theorem State.postMsix_fr {msk : Nat} {b₀ : State} {s : State} {f : Nat} {v : Nat} (h₀ : Fr msk b₀ s) (hm₀ : 2050 ||| msk = msk) :
    Fr msk b₀ (State.postMsix s f v) := by
  refine Fr.step h₀ ?_ hm₀
  clear h₀ hm₀
  unfold State.postMsix
  try dsimp only
  repeat' (first
    | with_reducible exact Fr.refl _ _
    | with_reducible assumption
    | exact (rfl : (_ : Nat) = _)
    | with_reducible refine State.emit_fr ?_ ?_
    | dsimp only
    | with_reducible refine Fr.ite ?_ ?_
    | with_reducible refine Fr.ite₁ ?_ ?_
    | with_reducible refine FrS.ite ?_ ?_
    | with_reducible refine FrP.ite ?_ ?_
    | with_reducible exact FrS.none
    | with_reducible refine FrS.some ?_
    | with_reducible refine FrS.map ?_
    | with_reducible exact FrP.none
    | with_reducible refine FrP.some ?_
    | with_reducible refine Fr.elim ?_ ?_
    | with_reducible refine Fr.foldl ?_ _ _ ?_
    | with_reducible refine Fr.foldl₂ ?_ _ _ ?_
    | intro _ _ _ _ _ _
    | intro _ _ _ _ _
    | intro _ _ _ _
    | intro _ _ _
    | intro _ _
    | intro _
    | with_reducible refine Fr.pair (h := ?_) (e := by assumption)
    | with_reducible refine FrO.got (h := ?_) (e := by assumption)
    | with_reducible refine FrS.get (h := ?_) (e := by assumption)
    | with_reducible refine FrP.get (h := ?_) (e := by assumption)
    | split
    | refine Fr.mk' ?_)

theorem State.highWater_fr {msk : Nat} {b₀ : State} {s : State} {k : Nat} {v : Nat} (h₀ : Fr msk b₀ s) (hm₀ : 4 ||| msk = msk) :
    Fr msk b₀ (State.highWater s k v) := by
  refine Fr.step h₀ ?_ hm₀
  clear h₀ hm₀
  unfold State.highWater
  try dsimp only
  repeat' (first
    | with_reducible exact Fr.refl _ _
    | exact (rfl : (_ : Nat) = _)
    | with_reducible refine State.wrN_fr ?_ ?_
    | with_reducible refine Fr.ite ?_ ?_)

theorem State.setPage_fr {msk : Nat} {b₀ : State} {s : State} {p : Nat} {st : PState} (h₀ : Fr msk b₀ s) (hm₀ : 4 ||| msk = msk) :
    Fr msk b₀ (State.setPage s p st) := by
  refine Fr.step h₀ ?_ hm₀
  clear h₀ hm₀
  unfold State.setPage
  try dsimp only
  repeat' (first
    | with_reducible exact Fr.refl _ _
    | exact (rfl : (_ : Nat) = _)
    | with_reducible refine State.event_fr ?_ ?_
    | with_reducible refine State.putFld_fr ?_ ?_
    | with_reducible refine Fr.ite ?_ ?_)

theorem State.setUnitSt_fr {msk : Nat} {b₀ : State} {s : State} {p : Nat} {sub : Nat} {st : PState} (h₀ : Fr msk b₀ s) (hm₀ : 4 ||| msk = msk) :
    Fr msk b₀ (State.setUnitSt s p sub st) := by
  refine Fr.step h₀ ?_ hm₀
  clear h₀ hm₀
  unfold State.setUnitSt
  try dsimp only
  repeat' (first
    | with_reducible exact Fr.refl _ _
    | exact (rfl : (_ : Nat) = _)
    | with_reducible refine State.setPage_fr ?_ ?_
    | with_reducible refine State.putFld_fr ?_ ?_
    | with_reducible refine Fr.ite ?_ ?_)

theorem State.msixControl_fr {msk : Nat} {b₀ : State} {s : State} {f : Nat} {v : Nat} {mask : Bool} (h₀ : Fr msk b₀ s) (hm₀ : 2050 ||| msk = msk) :
    Fr msk b₀ (State.msixControl s f v mask) := by
  refine Fr.step h₀ ?_ hm₀
  clear h₀ hm₀
  unfold State.msixControl
  try dsimp only
  repeat' (first
    | with_reducible exact Fr.refl _ _
    | with_reducible assumption
    | exact (rfl : (_ : Nat) = _)
    | with_reducible refine State.emit_fr ?_ ?_
    | dsimp only
    | with_reducible refine Fr.ite ?_ ?_
    | with_reducible refine Fr.ite₁ ?_ ?_
    | with_reducible refine FrS.ite ?_ ?_
    | with_reducible refine FrP.ite ?_ ?_
    | with_reducible exact FrS.none
    | with_reducible refine FrS.some ?_
    | with_reducible refine FrS.map ?_
    | with_reducible exact FrP.none
    | with_reducible refine FrP.some ?_
    | with_reducible refine Fr.elim ?_ ?_
    | with_reducible refine Fr.foldl ?_ _ _ ?_
    | with_reducible refine Fr.foldl₂ ?_ _ _ ?_
    | intro _ _ _ _ _ _
    | intro _ _ _ _ _
    | intro _ _ _ _
    | intro _ _ _
    | intro _ _
    | intro _
    | with_reducible refine Fr.pair (h := ?_) (e := by assumption)
    | with_reducible refine FrO.got (h := ?_) (e := by assumption)
    | with_reducible refine FrS.get (h := ?_) (e := by assumption)
    | with_reducible refine FrP.get (h := ?_) (e := by assumption)
    | split
    | refine Fr.mk' ?_)

end Sys2Proof.Machine
end

