-- ==== Sys2Proof/Laws/FrRecord.lean ====
section
/-! SUPPORT. Frames of the operations of Machine.Record: the parts of State that each may change. -/

set_option maxRecDepth 20000
set_option Elab.async false
set_option linter.unusedTactic false
set_option linter.unreachableTactic false
set_option linter.unusedVariables false

namespace Sys2Proof.Machine

theorem State.diagCopy_fr {msk : Nat} {b₀ : State} {s : State} {r : StbRec} (h₀ : Fr msk b₀ s) (hm₀ : 6 ||| msk = msk) :
    Fr msk b₀ (State.diagCopy s r) := by
  refine Fr.step h₀ ?_ hm₀
  clear h₀ hm₀
  unfold State.diagCopy
  try dsimp only
  repeat' (first
    | with_reducible exact Fr.refl _ _
    | exact (rfl : (_ : Nat) = _)
    | with_reducible refine State.event_fr ?_ ?_
    | with_reducible refine State.count_fr ?_ ?_
    | with_reducible refine State.wrN_fr ?_ ?_
    | with_reducible refine State.emit_fr ?_ ?_
    | with_reducible refine Fr.ite ?_ ?_)

theorem State.startFlush_fr {msk : Nat} {b₀ : State} {s : State} (h₀ : Fr msk b₀ s) (hm₀ : 516 ||| msk = msk) :
    Fr msk b₀ (State.startFlush s) := by
  refine Fr.step h₀ ?_ hm₀
  clear h₀ hm₀
  unfold State.startFlush
  try dsimp only
  repeat' (first
    | with_reducible exact Fr.refl _ _
    | exact (rfl : (_ : Nat) = _)
    | with_reducible refine State.putBit_fr ?_ ?_
    | with_reducible refine Fr.ite ?_ ?_
    | refine Fr.mk' ?_)

theorem State.appendRec_fr {msk : Nat} {b₀ : State} {s : State} {typ : Nat} {sev : Nat} {src : Nat} {payload : List Byte} (h₀ : Fr msk b₀ s) (hm₀ : 518 ||| msk = msk) :
    Fr msk b₀ (State.appendRec s typ sev src payload).1 := by
  refine Fr.step h₀ ?_ hm₀
  clear h₀ hm₀
  unfold State.appendRec
  try dsimp only
  repeat' (first
    | with_reducible exact Fr.refl _ _
    | exact (rfl : (_ : Nat) = _)
    | with_reducible refine State.diagCopy_fr ?_ ?_
    | with_reducible refine State.count_fr ?_ ?_
    | with_reducible refine State.event_fr ?_ ?_
    | with_reducible refine State.putBit_fr ?_ ?_
    | with_reducible refine State.startFlush_fr ?_ ?_
    | dsimp only
    | with_reducible refine Fr.ite ?_ ?_
    | with_reducible refine Fr.ite₁ ?_ ?_
    | refine Fr.mk' ?_)

theorem State.startLifeSave_fr {msk : Nat} {b₀ : State} {s : State} (h₀ : Fr msk b₀ s) (hm₀ : 64 ||| msk = msk) :
    Fr msk b₀ (State.startLifeSave s) := by
  refine Fr.step h₀ ?_ hm₀
  clear h₀ hm₀
  unfold State.startLifeSave
  try dsimp only
  repeat' (first
    | with_reducible exact Fr.refl _ _
    | split
    | refine Fr.mk' ?_)

end Sys2Proof.Machine
end

