-- ==== Sys2Proof/Laws/FrFence.lean ====
section
/-! SUPPORT. Frames of the operations of Machine.Fence: the parts of State that each may change. -/

set_option maxRecDepth 20000
set_option Elab.async false
set_option linter.unusedTactic false
set_option linter.unreachableTactic false
set_option linter.unusedVariables false

namespace Sys2Proof.Machine

theorem State.stagingEnd_fr {msk : Nat} {b₀ : State} {s : State} {result : Nat} (h₀ : Fr msk b₀ s) (hm₀ : 131332 ||| msk = msk) :
    Fr msk b₀ (State.stagingEnd s result) := by
  refine Fr.step h₀ ?_ hm₀
  clear h₀ hm₀
  unfold State.stagingEnd
  try dsimp only
  repeat' (first
    | with_reducible exact Fr.refl _ _
    | exact (rfl : (_ : Nat) = _)
    | with_reducible refine State.putFld_fr ?_ ?_
    | with_reducible refine State.putBit_fr ?_ ?_
    | refine Fr.mk' ?_)

theorem State.fwSlotShow_fr {msk : Nat} {b₀ : State} {s : State} {b : Bool} {r : FwSlot} (h₀ : Fr msk b₀ s) (hm₀ : 4 ||| msk = msk) :
    Fr msk b₀ (State.fwSlotShow s b r) := by
  refine Fr.step h₀ ?_ hm₀
  clear h₀ hm₀
  unfold State.fwSlotShow
  try dsimp only
  repeat' (first
    | with_reducible exact Fr.refl _ _
    | exact (rfl : (_ : Nat) = _)
    | with_reducible refine State.wrN_fr ?_ ?_)

theorem State.setFwSlot_fr {msk : Nat} {b₀ : State} {s : State} {b : Bool} {r : FwSlot} (h₀ : Fr msk b₀ s) (hm₀ : 131076 ||| msk = msk) :
    Fr msk b₀ (State.setFwSlot s b r) := by
  refine Fr.step h₀ ?_ hm₀
  clear h₀ hm₀
  unfold State.setFwSlot
  try dsimp only
  repeat' (first
    | with_reducible exact Fr.refl _ _
    | exact (rfl : (_ : Nat) = _)
    | with_reducible refine State.fwSlotShow_fr ?_ ?_
    | split
    | refine Fr.mk' ?_)

theorem State.stagingAbort_fr {msk : Nat} {b₀ : State} {s : State} (h₀ : Fr msk b₀ s) (hm₀ : 131332 ||| msk = msk) :
    Fr msk b₀ (State.stagingAbort s) := by
  refine Fr.step h₀ ?_ hm₀
  clear h₀ hm₀
  unfold State.stagingAbort
  try dsimp only
  repeat' (first
    | with_reducible exact Fr.refl _ _
    | exact (rfl : (_ : Nat) = _)
    | with_reducible refine State.stagingEnd_fr ?_ ?_
    | with_reducible refine State.setFwSlot_fr ?_ ?_
    | split)

theorem State.fenceHead_fr {msk : Nat} {b₀ : State} {s : State} (h₀ : Fr msk b₀ s) (hm₀ : 164100 ||| msk = msk) :
    Fr msk b₀ (State.fenceHead s) := by
  refine Fr.step h₀ ?_ hm₀
  clear h₀ hm₀
  unfold State.fenceHead
  try dsimp only
  repeat' (first
    | with_reducible exact Fr.refl _ _
    | exact (rfl : (_ : Nat) = _)
    | with_reducible refine State.stagingAbort_fr ?_ ?_
    | with_reducible refine State.wrN_fr ?_ ?_
    | with_reducible refine State.putBit_fr ?_ ?_
    | refine Fr.mk' ?_)

end Sys2Proof.Machine
end

