-- ==== Sys2Proof/Laws/FrLadder.lean ====
section
/-! SUPPORT. Frames of the operations of Machine.Ladder: the parts of State that each may change. -/

set_option maxRecDepth 20000
set_option Elab.async false
set_option linter.unusedTactic false
set_option linter.unreachableTactic false
set_option linter.unusedVariables false

namespace Sys2Proof.Machine

theorem State.setGuard_fr {msk : Nat} {b₀ : State} {s : State} {g : GuardSt} (h₀ : Fr msk b₀ s) (hm₀ : 256 ||| msk = msk) :
    Fr msk b₀ (State.setGuard s g) := by
  refine Fr.step h₀ ?_ hm₀
  clear h₀ hm₀
  unfold State.setGuard
  try dsimp only
  repeat' (first
    | with_reducible exact Fr.refl _ _
    | refine Fr.mk' ?_)

theorem State.faultRecord_fr {msk : Nat} {b₀ : State} {s : State} {p : Nat} {code : Nat} {level : Nat} {sub : Nat} {injected : Bool} {escalated : Bool} {fromLevel : Nat} {count : Nat} {ref : Nat} (h₀ : Fr msk b₀ s) (hm₀ : 525062 ||| msk = msk) :
    Fr msk b₀ (State.faultRecord s p code level sub injected escalated fromLevel count ref).1 := by
  refine Fr.step h₀ ?_ hm₀
  clear h₀ hm₀
  unfold State.faultRecord
  try dsimp only
  repeat' (first
    | with_reducible exact Fr.refl _ _
    | exact (rfl : (_ : Nat) = _)
    | with_reducible refine State.useFree_fr ?_ ?_
    | with_reducible refine State.diagCopy_fr ?_ ?_
    | with_reducible refine State.setGuard_fr ?_ ?_
    | with_reducible refine State.appendRec_fr ?_ ?_
    | with_reducible refine Fr.ite ?_ ?_
    | with_reducible refine Fr.ite₁ ?_ ?_)

theorem State.levelCount_fr {msk : Nat} {b₀ : State} {s : State} {level : Nat} (h₀ : Fr msk b₀ s) (hm₀ : 4 ||| msk = msk) :
    Fr msk b₀ (State.levelCount s level) := by
  refine Fr.step h₀ ?_ hm₀
  clear h₀ hm₀
  unfold State.levelCount
  try dsimp only
  repeat' (first
    | with_reducible exact Fr.refl _ _
    | exact (rfl : (_ : Nat) = _)
    | with_reducible refine State.count_fr ?_ ?_)

theorem State.l2Plus_fr {msk : Nat} {b₀ : State} {s : State} {level : Nat} (h₀ : Fr msk b₀ s) (hm₀ : 516 ||| msk = msk) :
    Fr msk b₀ (State.l2Plus s level) := by
  refine Fr.step h₀ ?_ hm₀
  clear h₀ hm₀
  unfold State.l2Plus
  try dsimp only
  repeat' (first
    | with_reducible exact Fr.refl _ _
    | exact (rfl : (_ : Nat) = _)
    | with_reducible refine State.event_fr ?_ ?_
    | with_reducible refine State.startFlush_fr ?_ ?_
    | with_reducible refine Fr.ite ?_ ?_)

theorem State.setLadder_fr {msk : Nat} {b₀ : State} {s : State} {l : List LadEntry} (h₀ : Fr msk b₀ s) (hm₀ : 256 ||| msk = msk) :
    Fr msk b₀ (State.setLadder s l) := by
  refine Fr.step h₀ ?_ hm₀
  clear h₀ hm₀
  unfold State.setLadder
  try dsimp only
  repeat' (first
    | with_reducible exact Fr.refl _ _
    | refine Fr.mk' ?_)

theorem State.actNow_fr {msk : Nat} {b₀ : State} {s : State} {level : Nat} (h₀ : Fr msk b₀ s) (hm₀ : 168260 ||| msk = msk) :
    Fr msk b₀ (State.actNow s level) := by
  refine Fr.step h₀ ?_ hm₀
  clear h₀ hm₀
  unfold State.actNow
  try dsimp only
  repeat' (first
    | with_reducible exact Fr.refl _ _
    | exact (rfl : (_ : Nat) = _)
    | with_reducible refine State.fenceHead_fr ?_ ?_
    | with_reducible refine State.startLifeSave_fr ?_ ?_
    | with_reducible refine Fr.ite ?_ ?_
    | refine Fr.mk' ?_)

theorem State.enqueue_fr {msk : Nat} {b₀ : State} {s : State} {e : LadEntry} (h₀ : Fr msk b₀ s) (hm₀ : 693062 ||| msk = msk) :
    Fr msk b₀ (State.enqueue s e) := by
  refine Fr.step h₀ ?_ hm₀
  clear h₀ hm₀
  unfold State.enqueue
  try dsimp only
  repeat' (first
    | with_reducible exact Fr.refl _ _
    | exact (rfl : (_ : Nat) = _)
    | with_reducible refine State.setLadder_fr ?_ ?_
    | with_reducible refine State.event_fr ?_ ?_
    | with_reducible refine State.count_fr ?_ ?_
    | with_reducible refine State.levelCount_fr ?_ ?_
    | with_reducible refine State.capture_fr ?_ ?_
    | with_reducible refine State.faultRecord_fr ?_ ?_
    | with_reducible refine State.actNow_fr ?_ ?_
    | with_reducible refine State.l2Plus_fr ?_ ?_
    | with_reducible refine Fr.ite ?_ ?_
    | split)

theorem State.placeFull_fr {msk : Nat} {b₀ : State} {s : State} {full : Bool} (h₀ : Fr msk b₀ s) (hm₀ : 693062 ||| msk = msk) :
    Fr msk b₀ (State.placeFull s full) := by
  refine Fr.step h₀ ?_ hm₀
  clear h₀ hm₀
  unfold State.placeFull
  try dsimp only
  repeat' (first
    | with_reducible exact Fr.refl _ _
    | exact (rfl : (_ : Nat) = _)
    | with_reducible refine State.levelCount_fr ?_ ?_
    | with_reducible refine State.capture_fr ?_ ?_
    | with_reducible refine State.faultRecord_fr ?_ ?_
    | with_reducible refine State.enqueue_fr ?_ ?_
    | with_reducible refine State.l2Plus_fr ?_ ?_
    | with_reducible refine Fr.ite ?_ ?_)

theorem State.place_fr {msk : Nat} {b₀ : State} {s : State} {p : Nat} {code : Nat} {level : Nat} {sub : Nat} {injected : Bool} (h₀ : Fr msk b₀ s) (hm₀ : 693062 ||| msk = msk) :
    Fr msk b₀ (State.place s p code level sub injected) := by
  refine Fr.step h₀ ?_ hm₀
  clear h₀ hm₀
  unfold State.place
  try dsimp only
  repeat' (first
    | with_reducible exact Fr.refl _ _
    | exact (rfl : (_ : Nat) = _)
    | with_reducible refine State.faultRecord_fr ?_ ?_
    | with_reducible refine State.levelCount_fr ?_ ?_
    | with_reducible refine State.l2Plus_fr ?_ ?_
    | with_reducible refine State.placeFull_fr ?_ ?_
    | with_reducible refine State.actNow_fr ?_ ?_
    | with_reducible refine State.enqueue_fr ?_ ?_
    | with_reducible refine Fr.ite ?_ ?_)

theorem State.escalate_fr {msk : Nat} {b₀ : State} {s : State} {e : LadEntry} {injected : optParam Bool Bool.false} (h₀ : Fr msk b₀ s) (hm₀ : 693062 ||| msk = msk) :
    Fr msk b₀ (State.escalate s e injected) := by
  refine Fr.step h₀ ?_ hm₀
  clear h₀ hm₀
  unfold State.escalate
  try dsimp only
  repeat' (first
    | with_reducible exact Fr.refl _ _
    | exact (rfl : (_ : Nat) = _)
    | with_reducible refine State.event_fr ?_ ?_
    | with_reducible refine State.count_fr ?_ ?_
    | with_reducible refine State.levelCount_fr ?_ ?_
    | with_reducible refine State.faultRecord_fr ?_ ?_
    | with_reducible refine State.l2Plus_fr ?_ ?_
    | with_reducible refine State.setLadder_fr ?_ ?_
    | with_reducible refine State.actNow_fr ?_ ?_
    | with_reducible refine Fr.ite ?_ ?_)

theorem State.raise_fr {msk : Nat} {b₀ : State} {s : State} {p : Nat} {code : Nat} {level : Nat} {sub : Nat} {injected : optParam Bool Bool.false} (h₀ : Fr msk b₀ s) (hm₀ : 693062 ||| msk = msk) :
    Fr msk b₀ (State.raise s p code level sub injected) := by
  refine Fr.step h₀ ?_ hm₀
  clear h₀ hm₀
  unfold State.raise
  try dsimp only
  repeat' (first
    | with_reducible exact Fr.refl _ _
    | exact (rfl : (_ : Nat) = _)
    | with_reducible refine State.capture_fr ?_ ?_
    | with_reducible refine State.place_fr ?_ ?_
    | with_reducible refine State.escalate_fr ?_ ?_
    | with_reducible refine Fr.ite ?_ ?_
    | split)

theorem State.operate_fr {msk : Nat} {b₀ : State} {s : State} {p : Nat} {sub : Nat} (h₀ : Fr msk b₀ s) (hm₀ : 693062 ||| msk = msk) :
    Fr msk b₀ (State.operate s p sub) := by
  refine Fr.step h₀ ?_ hm₀
  clear h₀ hm₀
  unfold State.operate
  try dsimp only
  repeat' (first
    | with_reducible exact Fr.refl _ _
    | with_reducible assumption
    | exact (rfl : (_ : Nat) = _)
    | with_reducible refine State.raise_fr ?_ ?_
    | with_reducible refine State.useFree_fr ?_ ?_
    | with_reducible refine State.fired_fr ?_ ?_
    | dsimp only
    | with_reducible refine Fr.ite ?_ ?_
    | with_reducible refine Fr.ite₁ ?_ ?_
    | with_reducible refine FrS.ite ?_ ?_
    | with_reducible refine FrP.ite ?_ ?_
    | with_reducible exact FrS.none
    | with_reducible refine FrS.some ?_
    | with_reducible refine FrS.map ?_
    | with_reducible exact FrP.none
    | with_reducible refine FrP.some ?_
    | with_reducible refine Fr.elim ?_ ?_
    | with_reducible refine Fr.foldl ?_ _ _ ?_
    | with_reducible refine Fr.foldl₂ ?_ _ _ ?_
    | intro _ _ _ _ _ _
    | intro _ _ _ _ _
    | intro _ _ _ _
    | intro _ _ _
    | intro _ _
    | intro _
    | with_reducible refine Fr.pair (h := ?_) (e := by assumption)
    | with_reducible refine FrO.got (h := ?_) (e := by assumption)
    | with_reducible refine FrS.get (h := ?_) (e := by assumption)
    | with_reducible refine FrP.get (h := ?_) (e := by assumption)
    | split)

theorem State.writeDiscarded_fr {msk : Nat} {b₀ : State} {s : State} {p : Nat} (h₀ : Fr msk b₀ s) (hm₀ : 693062 ||| msk = msk) :
    Fr msk b₀ (State.writeDiscarded s p) := by
  refine Fr.step h₀ ?_ hm₀
  clear h₀ hm₀
  unfold State.writeDiscarded
  try dsimp only
  repeat' (first
    | with_reducible exact Fr.refl _ _
    | exact (rfl : (_ : Nat) = _)
    | with_reducible refine State.raise_fr ?_ ?_)

theorem State.record_fr {msk : Nat} {b₀ : State} {s : State} {typ : Nat} {sev : Nat} {src : Nat} {payload : List Byte} (h₀ : Fr msk b₀ s) (hm₀ : 693062 ||| msk = msk) :
    Fr msk b₀ (State.record s typ sev src payload) := by
  refine Fr.step h₀ ?_ hm₀
  clear h₀ hm₀
  unfold State.record
  try dsimp only
  repeat' (first
    | with_reducible exact Fr.refl _ _
    | exact (rfl : (_ : Nat) = _)
    | with_reducible refine State.appendRec_fr ?_ ?_
    | with_reducible refine State.placeFull_fr ?_ ?_)

end Sys2Proof.Machine
end

