-- ==== Sys2Proof/Laws/FrStride.lean ====
section
/-! SUPPORT. Frames of the operations of Machine.Stride: the parts of State that each may change. -/

set_option maxRecDepth 20000
set_option Elab.async false
set_option linter.unusedTactic false
set_option linter.unreachableTactic false
set_option linter.unusedVariables false

namespace Sys2Proof.Machine

theorem State.setCal_fr {msk : Nat} {b₀ : State} {s : State} {sec : Nat} {ticks : Nat} (h₀ : Fr msk b₀ s) (hm₀ : 4 ||| msk = msk) :
    Fr msk b₀ (State.setCal s sec ticks) := by
  refine Fr.step h₀ ?_ hm₀
  clear h₀ hm₀
  unfold State.setCal
  try dsimp only
  repeat' (first
    | with_reducible exact Fr.refl _ _
    | exact (rfl : (_ : Nat) = _)
    | with_reducible refine State.wrN_fr ?_ ?_
    | with_reducible refine State.wr64_fr ?_ ?_)

theorem State.calSetApply_fr {msk : Nat} {b₀ : State} {s : State} (h₀ : Fr msk b₀ s) (hm₀ : 693062 ||| msk = msk) :
    Fr msk b₀ (State.calSetApply s) := by
  refine Fr.step h₀ ?_ hm₀
  clear h₀ hm₀
  unfold State.calSetApply
  try dsimp only
  repeat' (first
    | with_reducible exact Fr.refl _ _
    | exact (rfl : (_ : Nat) = _)
    | with_reducible refine State.putBit_fr ?_ ?_
    | with_reducible refine State.setCal_fr ?_ ?_
    | with_reducible refine State.event_fr ?_ ?_
    | with_reducible refine State.record_fr ?_ ?_
    | with_reducible refine Fr.ite ?_ ?_)

theorem State.ungate_fr {msk : Nat} {b₀ : State} {s : State} (h₀ : Fr msk b₀ s) (hm₀ : 132 ||| msk = msk) :
    Fr msk b₀ (State.ungate s) := by
  refine Fr.step h₀ ?_ hm₀
  clear h₀ hm₀
  unfold State.ungate
  try dsimp only
  repeat' (first
    | with_reducible exact Fr.refl _ _
    | exact (rfl : (_ : Nat) = _)
    | with_reducible refine State.putBit_fr ?_ ?_
    | refine Fr.mk' ?_)

theorem State.lateCheck_fr {msk : Nat} {b₀ : State} {s : State} (h₀ : Fr msk b₀ s) (hm₀ : 132 ||| msk = msk) :
    Fr msk b₀ (State.lateCheck s) := by
  refine Fr.step h₀ ?_ hm₀
  clear h₀ hm₀
  unfold State.lateCheck
  try dsimp only
  repeat' (first
    | with_reducible exact Fr.refl _ _
    | exact (rfl : (_ : Nat) = _)
    | with_reducible refine State.event_fr ?_ ?_
    | with_reducible refine State.ungate_fr ?_ ?_
    | with_reducible refine Fr.ite ?_ ?_)

theorem State.tjSeen_fr {msk : Nat} {b₀ : State} {s : State} {q : Int} (h₀ : Fr msk b₀ s) (hm₀ : 4 ||| msk = msk) :
    Fr msk b₀ (State.tjSeen s q) := by
  refine Fr.step h₀ ?_ hm₀
  clear h₀ hm₀
  unfold State.tjSeen
  try dsimp only
  repeat' (first
    | with_reducible exact Fr.refl _ _
    | with_reducible assumption
    | exact (rfl : (_ : Nat) = _)
    | with_reducible refine State.wr_fr ?_ ?_
    | dsimp only
    | with_reducible refine Fr.ite ?_ ?_
    | with_reducible refine Fr.ite₁ ?_ ?_
    | with_reducible refine FrS.ite ?_ ?_
    | with_reducible refine FrP.ite ?_ ?_
    | with_reducible exact FrS.none
    | with_reducible refine FrS.some ?_
    | with_reducible refine FrS.map ?_
    | with_reducible exact FrP.none
    | with_reducible refine FrP.some ?_
    | with_reducible refine Fr.elim ?_ ?_
    | with_reducible refine Fr.foldl ?_ _ _ ?_
    | with_reducible refine Fr.foldl₂ ?_ _ _ ?_
    | intro _ _ _ _ _ _
    | intro _ _ _ _ _
    | intro _ _ _ _
    | intro _ _ _
    | intro _ _
    | intro _
    | with_reducible refine Fr.pair (h := ?_) (e := by assumption)
    | with_reducible refine FrO.got (h := ?_) (e := by assumption)
    | with_reducible refine FrS.get (h := ?_) (e := by assumption)
    | with_reducible refine FrP.get (h := ?_) (e := by assumption)
    | split)

theorem execCommitGateSet_fr {msk : Nat} {b₀ : State} {s : State} (h₀ : Fr msk b₀ s) (hm₀ : 132 ||| msk = msk) :
    FrO msk b₀ (execCommitGateSet s) := by
  refine FrO.step h₀ ?_ hm₀
  clear h₀ hm₀
  unfold execCommitGateSet
  try dsimp only
  repeat' (first
    | with_reducible exact Fr.refl _ _
    | exact (rfl : (_ : Nat) = _)
    | with_reducible refine State.lateCheck_fr ?_ ?_
    | with_reducible refine State.putBit_fr ?_ ?_
    | with_reducible refine FrO.next ?_)

theorem State.setSync_fr {msk : Nat} {b₀ : State} {s : State} {st : Nat} (h₀ : Fr msk b₀ s) (hm₀ : 4 ||| msk = msk) :
    Fr msk b₀ (State.setSync s st) := by
  refine Fr.step h₀ ?_ hm₀
  clear h₀ hm₀
  unfold State.setSync
  try dsimp only
  repeat' (first
    | with_reducible exact Fr.refl _ _
    | exact (rfl : (_ : Nat) = _)
    | with_reducible refine State.putFld_fr ?_ ?_
    | with_reducible refine State.wrN_fr ?_ ?_
    | with_reducible refine Fr.ite ?_ ?_)

theorem execMasterTake_fr {msk : Nat} {b₀ : State} {s : State} (h₀ : Fr msk b₀ s) (hm₀ : 4 ||| msk = msk) :
    FrO msk b₀ (execMasterTake s) := by
  refine FrO.step h₀ ?_ hm₀
  clear h₀ hm₀
  unfold execMasterTake
  try dsimp only
  repeat' (first
    | with_reducible exact Fr.refl _ _
    | exact (rfl : (_ : Nat) = _)
    | with_reducible refine State.setSync_fr ?_ ?_
    | with_reducible refine State.putBit_fr ?_ ?_
    | with_reducible refine Fr.ite ?_ ?_
    | with_reducible refine FrO.next ?_)

theorem execSyncLocked_fr {msk : Nat} {b₀ : State} {s : State} (h₀ : Fr msk b₀ s) (hm₀ : 4 ||| msk = msk) :
    FrO msk b₀ (execSyncLocked s) := by
  refine FrO.step h₀ ?_ hm₀
  clear h₀ hm₀
  unfold execSyncLocked
  try dsimp only
  repeat' (first
    | with_reducible exact Fr.refl _ _
    | exact (rfl : (_ : Nat) = _)
    | with_reducible refine State.setSync_fr ?_ ?_
    | with_reducible refine State.event_fr ?_ ?_
    | with_reducible refine Fr.ite ?_ ?_
    | with_reducible refine FrO.next ?_)

theorem execAcquireTimeout_fr {msk : Nat} {b₀ : State} {s : State} (h₀ : Fr msk b₀ s) (hm₀ : 68 ||| msk = msk) :
    FrO msk b₀ (execAcquireTimeout s) := by
  refine FrO.step h₀ ?_ hm₀
  clear h₀ hm₀
  unfold execAcquireTimeout
  try dsimp only
  repeat' (first
    | with_reducible exact Fr.refl _ _
    | exact (rfl : (_ : Nat) = _)
    | with_reducible refine State.setSync_fr ?_ ?_
    | with_reducible refine Fr.ite ?_ ?_
    | with_reducible refine FrO.next ?_
    | refine Fr.mk' ?_)

theorem execOscStopped_fr {msk : Nat} {b₀ : State} {s : State} (h₀ : Fr msk b₀ s) (hm₀ : 68 ||| msk = msk) :
    FrO msk b₀ (execOscStopped s) := by
  refine FrO.step h₀ ?_ hm₀
  clear h₀ hm₀
  unfold execOscStopped
  try dsimp only
  repeat' (first
    | with_reducible exact Fr.refl _ _
    | exact (rfl : (_ : Nat) = _)
    | with_reducible refine State.event_fr ?_ ?_
    | with_reducible refine State.putBit_fr ?_ ?_
    | with_reducible refine FrO.next ?_
    | refine Fr.mk' ?_)

theorem execCalSecondRollover_fr {msk : Nat} {b₀ : State} {clk : Nat} {s : State} (h₀ : Fr msk b₀ s) (hm₀ : 4 ||| msk = msk) :
    FrO msk b₀ (execCalSecondRollover clk s) := by
  refine FrO.step h₀ ?_ hm₀
  clear h₀ hm₀
  unfold execCalSecondRollover
  try dsimp only
  repeat' (first
    | with_reducible exact Fr.refl _ _
    | exact (rfl : (_ : Nat) = _)
    | with_reducible refine State.wrN_fr ?_ ?_
    | with_reducible refine State.wr64_fr ?_ ?_
    | with_reducible refine FrO.next ?_)

theorem execStrideSyncEdge_fr {msk : Nat} {b₀ : State} {raw : Int} {s : State} (h₀ : Fr msk b₀ s) (hm₀ : 68 ||| msk = msk) :
    FrO msk b₀ (execStrideSyncEdge raw s) := by
  refine FrO.step h₀ ?_ hm₀
  clear h₀ hm₀
  unfold execStrideSyncEdge
  try dsimp only
  repeat' (first
    | with_reducible exact Fr.refl _ _
    | exact (rfl : (_ : Nat) = _)
    | with_reducible refine State.wr_fr ?_ ?_
    | with_reducible refine State.setSync_fr ?_ ?_
    | with_reducible refine State.event_fr ?_ ?_
    | with_reducible refine FrO.ite ?_ ?_
    | with_reducible refine FrO.next ?_
    | split
    | refine Fr.mk' ?_)

theorem execCommitGateClear_fr {msk : Nat} {b₀ : State} {s : State} (h₀ : Fr msk b₀ s) (hm₀ : 132 ||| msk = msk) :
    FrO msk b₀ (execCommitGateClear s) := by
  refine FrO.step h₀ ?_ hm₀
  clear h₀ hm₀
  unfold execCommitGateClear
  try dsimp only
  repeat' (first
    | with_reducible exact Fr.refl _ _
    | exact (rfl : (_ : Nat) = _)
    | with_reducible refine State.ungate_fr ?_ ?_
    | with_reducible refine FrO.next ?_)

theorem execLifeSaveDone_fr {msk : Nat} {b₀ : State} {okA : Bool} {okB : Bool} {s : State} (h₀ : Fr msk b₀ s) (hm₀ : 693062 ||| msk = msk) :
    FrO msk b₀ (execLifeSaveDone okA okB s) := by
  refine FrO.step h₀ ?_ hm₀
  clear h₀ hm₀
  unfold execLifeSaveDone
  try dsimp only
  repeat' (first
    | with_reducible exact Fr.refl _ _
    | exact (rfl : (_ : Nat) = _)
    | with_reducible refine State.putBit_fr ?_ ?_
    | with_reducible refine State.putFld_fr ?_ ?_
    | with_reducible refine State.event_fr ?_ ?_
    | with_reducible refine State.raise_fr ?_ ?_
    | with_reducible refine State.useFree_fr ?_ ?_
    | with_reducible refine FrO.ite ?_ ?_
    | with_reducible refine FrO.next ?_
    | split
    | refine Fr.mk' ?_)

theorem execSyncEdgeLost_fr {msk : Nat} {b₀ : State} {s : State} (h₀ : Fr msk b₀ s) (hm₀ : 4 ||| msk = msk) :
    FrO msk b₀ (execSyncEdgeLost s) := by
  refine FrO.step h₀ ?_ hm₀
  clear h₀ hm₀
  unfold execSyncEdgeLost
  try dsimp only
  repeat' (first
    | with_reducible exact Fr.refl _ _
    | exact (rfl : (_ : Nat) = _)
    | with_reducible refine State.setSync_fr ?_ ?_
    | with_reducible refine State.event_fr ?_ ?_
    | with_reducible refine Fr.ite ?_ ?_
    | with_reducible refine FrO.next ?_)

theorem execTempBandCount_fr {msk : Nat} {b₀ : State} {q : Int} {s : State} (h₀ : Fr msk b₀ s) (hm₀ : 4 ||| msk = msk) :
    FrO msk b₀ (execTempBandCount q s) := by
  refine FrO.step h₀ ?_ hm₀
  clear h₀ hm₀
  unfold execTempBandCount
  try dsimp only
  repeat' (first
    | with_reducible exact Fr.refl _ _
    | with_reducible assumption
    | exact (rfl : (_ : Nat) = _)
    | with_reducible refine State.tjSeen_fr ?_ ?_
    | with_reducible refine State.count_fr ?_ ?_
    | dsimp only
    | with_reducible refine Fr.ite ?_ ?_
    | with_reducible refine Fr.ite₁ ?_ ?_
    | with_reducible refine FrO.ite ?_ ?_
    | with_reducible refine FrS.ite ?_ ?_
    | with_reducible refine FrP.ite ?_ ?_
    | with_reducible refine FrO.next ?_
    | with_reducible exact FrS.none
    | with_reducible refine FrS.some ?_
    | with_reducible refine FrS.map ?_
    | with_reducible exact FrP.none
    | with_reducible refine FrP.some ?_
    | with_reducible refine Fr.elim ?_ ?_
    | with_reducible refine Fr.foldl ?_ _ _ ?_
    | with_reducible refine Fr.foldl₂ ?_ _ _ ?_
    | intro _ _ _ _ _ _
    | intro _ _ _ _ _
    | intro _ _ _ _
    | intro _ _ _
    | intro _ _
    | intro _
    | with_reducible refine Fr.pair (h := ?_) (e := by assumption)
    | with_reducible refine FrO.got (h := ?_) (e := by assumption)
    | with_reducible refine FrS.get (h := ?_) (e := by assumption)
    | with_reducible refine FrP.get (h := ?_) (e := by assumption)
    | split)

theorem execOverrunRepeat_fr {msk : Nat} {b₀ : State} {p : Nat} {unit : Nat} {s : State} (h₀ : Fr msk b₀ s) (hm₀ : 693062 ||| msk = msk) :
    FrO msk b₀ (execOverrunRepeat p unit s) := by
  refine FrO.step h₀ ?_ hm₀
  clear h₀ hm₀
  unfold execOverrunRepeat
  try dsimp only
  repeat' (first
    | with_reducible exact Fr.refl _ _
    | exact (rfl : (_ : Nat) = _)
    | with_reducible refine State.raise_fr ?_ ?_
    | with_reducible refine Fr.ite ?_ ?_
    | with_reducible refine FrO.next ?_
    | split)

theorem execCalSet_fr {msk : Nat} {b₀ : State} {s : State} (h₀ : Fr msk b₀ s) (hm₀ : 4 ||| msk = msk) :
    FrO msk b₀ (execCalSet s) := by
  refine FrO.step h₀ ?_ hm₀
  clear h₀ hm₀
  unfold execCalSet
  try dsimp only
  repeat' (first
    | with_reducible exact Fr.refl _ _
    | exact (rfl : (_ : Nat) = _)
    | with_reducible refine State.putBit_fr ?_ ?_
    | with_reducible refine FrO.next ?_)

theorem execLifeCtrlSave_fr {msk : Nat} {b₀ : State} {s : State} (h₀ : Fr msk b₀ s) (hm₀ : 68 ||| msk = msk) :
    FrO msk b₀ (execLifeCtrlSave s) := by
  refine FrO.step h₀ ?_ hm₀
  clear h₀ hm₀
  unfold execLifeCtrlSave
  try dsimp only
  repeat' (first
    | with_reducible exact Fr.refl _ _
    | exact (rfl : (_ : Nat) = _)
    | with_reducible refine State.putBit_fr ?_ ?_
    | with_reducible refine State.startLifeSave_fr ?_ ?_
    | with_reducible refine FrO.next ?_)

theorem execCalTick_fr {msk : Nat} {b₀ : State} {s : State} (h₀ : Fr msk b₀ s) (hm₀ : 68 ||| msk = msk) :
    FrO msk b₀ (execCalTick s) := by
  refine FrO.step h₀ ?_ hm₀
  clear h₀ hm₀
  unfold execCalTick
  try dsimp only
  repeat' (first
    | with_reducible exact Fr.refl _ _
    | exact (rfl : (_ : Nat) = _)
    | with_reducible refine State.setCal_fr ?_ ?_
    | with_reducible refine FrO.ite ?_ ?_
    | with_reducible refine FrO.next ?_
    | refine Fr.mk' ?_)

theorem execOverrun_fr {msk : Nat} {b₀ : State} {p : Nat} {unit : Nat} {clk : Nat} {s : State} (h₀ : Fr msk b₀ s) (hm₀ : 693062 ||| msk = msk) :
    FrO msk b₀ (execOverrun p unit clk s) := by
  refine FrO.step h₀ ?_ hm₀
  clear h₀ hm₀
  unfold execOverrun
  try dsimp only
  repeat' (first
    | with_reducible exact Fr.refl _ _
    | exact (rfl : (_ : Nat) = _)
    | with_reducible refine State.raise_fr ?_ ?_
    | with_reducible refine State.event_fr ?_ ?_
    | with_reducible refine State.wr_fr ?_ ?_
    | with_reducible refine State.count_fr ?_ ?_
    | with_reducible refine FrO.next ?_
    | refine Fr.mk' ?_)

theorem execLifeSaveHourly_fr {msk : Nat} {b₀ : State} {s : State} (h₀ : Fr msk b₀ s) (hm₀ : 64 ||| msk = msk) :
    FrO msk b₀ (execLifeSaveHourly s) := by
  refine FrO.step h₀ ?_ hm₀
  clear h₀ hm₀
  unfold execLifeSaveHourly
  try dsimp only
  repeat' (first
    | with_reducible exact Fr.refl _ _
    | exact (rfl : (_ : Nat) = _)
    | with_reducible refine State.startLifeSave_fr ?_ ?_
    | with_reducible refine FrO.next ?_)

theorem execStrideAdopt_fr {msk : Nat} {b₀ : State} {s : State} (h₀ : Fr msk b₀ s) (hm₀ : 693062 ||| msk = msk) :
    FrO msk b₀ (execStrideAdopt s) := by
  refine FrO.step h₀ ?_ hm₀
  clear h₀ hm₀
  unfold execStrideAdopt
  try dsimp only
  repeat' (first
    | with_reducible exact Fr.refl _ _
    | exact (rfl : (_ : Nat) = _)
    | with_reducible refine State.wr64_fr ?_ ?_
    | with_reducible refine State.setSync_fr ?_ ?_
    | with_reducible refine State.event_fr ?_ ?_
    | with_reducible refine State.record_fr ?_ ?_
    | with_reducible refine FrO.ite ?_ ?_
    | with_reducible refine FrO.next ?_
    | split
    | refine Fr.mk' ?_)

end Sys2Proof.Machine
end

