-- ==== Sys2Proof/Laws/FrActivities.lean ====
section
/-! SUPPORT. Frames of the operations of Machine.Activities: the parts of State that each may change. -/

set_option maxRecDepth 20000
set_option Elab.async false
set_option linter.unusedTactic false
set_option linter.unreachableTactic false
set_option linter.unusedVariables false

namespace Sys2Proof.Machine

theorem State.setActs_fr {msk : Nat} {b₀ : State} {s : State} {l : List Activity} (h₀ : Fr msk b₀ s) (hm₀ : 256 ||| msk = msk) :
    Fr msk b₀ (State.setActs s l) := by
  refine Fr.step h₀ ?_ hm₀
  clear h₀ hm₀
  unfold State.setActs
  try dsimp only
  repeat' (first
    | with_reducible exact Fr.refl _ _
    | refine Fr.mk' ?_)

theorem State.standing_fr {msk : Nat} {b₀ : State} {s : State} {code : Nat} {pool : Nat} (h₀ : Fr msk b₀ s) (hm₀ : 256 ||| msk = msk) :
    Fr msk b₀ (State.standing s code pool).1 := by
  refine Fr.step h₀ ?_ hm₀
  clear h₀ hm₀
  unfold State.standing
  try dsimp only
  repeat' (first
    | with_reducible exact Fr.refl _ _
    | exact (rfl : (_ : Nat) = _)
    | with_reducible refine State.setActs_fr ?_ ?_
    | dsimp only
    | with_reducible refine Fr.ite ?_ ?_
    | with_reducible refine Fr.ite₁ ?_ ?_)

theorem State.lastDecision_fr {msk : Nat} {b₀ : State} {s : State} {n : Activity} {d : Nat} {blocking : Nat} (h₀ : Fr msk b₀ s) (hm₀ : 4 ||| msk = msk) :
    Fr msk b₀ (State.lastDecision s n d blocking) := by
  refine Fr.step h₀ ?_ hm₀
  clear h₀ hm₀
  unfold State.lastDecision
  try dsimp only
  repeat' (first
    | with_reducible exact Fr.refl _ _
    | exact (rfl : (_ : Nat) = _)
    | with_reducible refine State.wrN_fr ?_ ?_)

theorem State.actStart_fr {msk : Nat} {b₀ : State} {s : State} {n : Activity} (h₀ : Fr msk b₀ s) (hm₀ : 260 ||| msk = msk) :
    Fr msk b₀ (State.actStart s n).1 := by
  refine Fr.step h₀ ?_ hm₀
  clear h₀ hm₀
  unfold State.actStart
  try dsimp only
  repeat' (first
    | with_reducible exact Fr.refl _ _
    | exact (rfl : (_ : Nat) = _)
    | with_reducible refine State.lastDecision_fr ?_ ?_
    | with_reducible refine State.event_fr ?_ ?_
    | with_reducible refine State.setActs_fr ?_ ?_
    | with_reducible refine Fr.ite₁ ?_ ?_)

theorem State.actPause_fr {msk : Nat} {b₀ : State} {s : State} (h₀ : Fr msk b₀ s) (hm₀ : 256 ||| msk = msk) :
    Fr msk b₀ (State.actPause s) := by
  refine Fr.step h₀ ?_ hm₀
  clear h₀ hm₀
  unfold State.actPause
  try dsimp only
  repeat' (first
    | with_reducible exact Fr.refl _ _
    | exact (rfl : (_ : Nat) = _)
    | with_reducible refine State.setActs_fr ?_ ?_)

theorem State.actEnd_fr {msk : Nat} {b₀ : State} {s : State} {code : Nat} {pool : Nat} {f : Activity → Bool} (h₀ : Fr msk b₀ s) (hm₀ : 256 ||| msk = msk) :
    Fr msk b₀ (State.actEnd s code pool f) := by
  refine Fr.step h₀ ?_ hm₀
  clear h₀ hm₀
  unfold State.actEnd
  try dsimp only
  repeat' (first
    | with_reducible exact Fr.refl _ _
    | exact (rfl : (_ : Nat) = _)
    | with_reducible refine State.setActs_fr ?_ ?_)

end Sys2Proof.Machine
end

