-- ==== Sys2Proof/Laws/FrTorlux.lean ====
section
/-! SUPPORT. Frames of the operations of Machine.Torlux: the parts of State that each may change. -/

set_option maxRecDepth 20000
set_option Elab.async false
set_option linter.unusedTactic false
set_option linter.unreachableTactic false
set_option linter.unusedVariables false

namespace Sys2Proof.Machine

theorem State.flitsSent_fr {msk : Nat} {b₀ : State} {s : State} {page : Nat} {reg : Nat} {l : FlitLink} {k : Nat} {kind : Nat} (h₀ : Fr msk b₀ s) (hm₀ : 6 ||| msk = msk) :
    Fr msk b₀ (State.flitsSent s page reg l k kind) := by
  refine Fr.step h₀ ?_ hm₀
  clear h₀ hm₀
  unfold State.flitsSent
  try dsimp only
  repeat' (first
    | with_reducible exact Fr.refl _ _
    | exact (rfl : (_ : Nat) = _)
    | with_reducible refine State.emit_fr ?_ ?_
    | with_reducible refine State.countBy_fr ?_ ?_
    | with_reducible refine State.inject_fr ?_ ?_
    | with_reducible refine Fr.ite ?_ ?_)

theorem State.tlPump_fr {msk : Nat} {b₀ : State} {s : State} {x1 : Nat} (h₀ : Fr msk b₀ s) (hm₀ : 32774 ||| msk = msk) :
    Fr msk b₀ (State.tlPump s x1) := by
  refine Fr.step h₀ ?_ hm₀
  clear h₀ hm₀
  fun_induction State.tlPump 
  all_goals try dsimp +zetaDelta only at *
  all_goals repeat' (first
    | with_reducible exact Fr.refl _ _
    | exact (rfl : (_ : Nat) = _)
    | with_reducible refine Fr.trans ?_ (by assumption)
    | with_reducible refine State.emit_fr ?_ ?_
    | with_reducible refine State.flitsSent_fr ?_ ?_
    | refine Fr.mk' ?_)

theorem State.tlSend_fr {msk : Nat} {b₀ : State} {s : State} {r : TlRec} (h₀ : Fr msk b₀ s) (hm₀ : 32774 ||| msk = msk) :
    Fr msk b₀ (State.tlSend s r) := by
  refine Fr.step h₀ ?_ hm₀
  clear h₀ hm₀
  unfold State.tlSend
  try dsimp only
  repeat' (first
    | with_reducible exact Fr.refl _ _
    | exact (rfl : (_ : Nat) = _)
    | with_reducible refine State.tlPump_fr ?_ ?_
    | with_reducible refine Fr.ite ?_ ?_
    | refine Fr.mk' ?_)

theorem State.setTl_fr {msk : Nat} {b₀ : State} {s : State} {l : FlitLink} (h₀ : Fr msk b₀ s) (hm₀ : 32768 ||| msk = msk) :
    Fr msk b₀ (State.setTl s l) := by
  refine Fr.step h₀ ?_ hm₀
  clear h₀ hm₀
  unfold State.setTl
  try dsimp only
  repeat' (first
    | with_reducible exact Fr.refl _ _
    | refine Fr.mk' ?_)

end Sys2Proof.Machine
end

