-- ==== Sys2Proof/Laws/FrOperands.lean ====
section
/-! SUPPORT. Frames of the operations of Machine.Operands: the parts of State that each may change. -/

set_option maxRecDepth 20000
set_option Elab.async false
set_option linter.unusedTactic false
set_option linter.unreachableTactic false
set_option linter.unusedVariables false

namespace Sys2Proof.Machine

theorem State.dropCmd_fr {msk : Nat} {b₀ : State} {s : State} {n : Nat} (h₀ : Fr msk b₀ s) (hm₀ : 2048 ||| msk = msk) :
    Fr msk b₀ (State.dropCmd s n) := by
  refine Fr.step h₀ ?_ hm₀
  clear h₀ hm₀
  unfold State.dropCmd
  try dsimp only
  repeat' (first
    | with_reducible exact Fr.refl _ _
    | refine Fr.mk' ?_)

theorem State.wrWin_fr {msk : Nat} {b₀ : State} {s : State} {f : Nat} {o : Nat} {v : Word} (h₀ : Fr msk b₀ s) (hm₀ : 2048 ||| msk = msk) :
    Fr msk b₀ (State.wrWin s f o v) := by
  refine Fr.step h₀ ?_ hm₀
  clear h₀ hm₀
  unfold State.wrWin
  try dsimp only
  repeat' (first
    | with_reducible exact Fr.refl _ _
    | split
    | refine Fr.mk' ?_)

theorem State.winBit_fr {msk : Nat} {b₀ : State} {s : State} {f : Nat} {o : Nat} {i : Nat} {b : Bool} (h₀ : Fr msk b₀ s) (hm₀ : 2048 ||| msk = msk) :
    Fr msk b₀ (State.winBit s f o i b) := by
  refine Fr.step h₀ ?_ hm₀
  clear h₀ hm₀
  unfold State.winBit
  try dsimp only
  repeat' (first
    | with_reducible exact Fr.refl _ _
    | exact (rfl : (_ : Nat) = _)
    | with_reducible refine State.wrWin_fr ?_ ?_)

theorem State.setFn_fr {msk : Nat} {b₀ : State} {s : State} {f : Nat} {x : Fn} (h₀ : Fr msk b₀ s) (hm₀ : 2048 ||| msk = msk) :
    Fr msk b₀ (State.setFn s f x) := by
  refine Fr.step h₀ ?_ hm₀
  clear h₀ hm₀
  unfold State.setFn
  try dsimp only
  repeat' (first
    | with_reducible exact Fr.refl _ _
    | refine Fr.mk' ?_)

theorem State.setCmd_fr {msk : Nat} {b₀ : State} {s : State} {n : Nat} {c : HostCmd} (h₀ : Fr msk b₀ s) (hm₀ : 2048 ||| msk = msk) :
    Fr msk b₀ (State.setCmd s n c) := by
  refine Fr.step h₀ ?_ hm₀
  clear h₀ hm₀
  unfold State.setCmd
  try dsimp only
  repeat' (first
    | with_reducible exact Fr.refl _ _
    | refine Fr.mk' ?_)

theorem State.setFnState_fr {msk : Nat} {b₀ : State} {s : State} {f : Nat} {st : Nat} (h₀ : Fr msk b₀ s) (hm₀ : 4 ||| msk = msk) :
    Fr msk b₀ (State.setFnState s f st) := by
  refine Fr.step h₀ ?_ hm₀
  clear h₀ hm₀
  unfold State.setFnState
  try dsimp only
  repeat' (first
    | with_reducible exact Fr.refl _ _
    | exact (rfl : (_ : Nat) = _)
    | with_reducible refine State.putFld_fr ?_ ?_)

theorem State.bumpGen_fr {msk : Nat} {b₀ : State} {s : State} {f : Nat} (h₀ : Fr msk b₀ s) (hm₀ : 4 ||| msk = msk) :
    Fr msk b₀ (State.bumpGen s f) := by
  refine Fr.step h₀ ?_ hm₀
  clear h₀ hm₀
  unfold State.bumpGen
  try dsimp only
  repeat' (first
    | with_reducible exact Fr.refl _ _
    | exact (rfl : (_ : Nat) = _)
    | with_reducible refine State.putFld_fr ?_ ?_)

end Sys2Proof.Machine
end

