-- ==== Sys2Proof/Laws/FrLocks.lean ====
section
/-! SUPPORT. Frames of the operations of Machine.Locks: the parts of State that each may change. -/

set_option maxRecDepth 20000
set_option Elab.async false
set_option linter.unusedTactic false
set_option linter.unreachableTactic false
set_option linter.unusedVariables false

namespace Sys2Proof.Machine

theorem State.setPool_fr {msk : Nat} {b₀ : State} {s : State} {p : Nat} {f : Pool → Pool} (h₀ : Fr msk b₀ s) (hm₀ : 16384 ||| msk = msk) :
    Fr msk b₀ (State.setPool s p f) := by
  refine Fr.step h₀ ?_ hm₀
  clear h₀ hm₀
  unfold State.setPool
  try dsimp only
  repeat' (first
    | with_reducible exact Fr.refl _ _
    | refine Fr.mk' ?_)

theorem State.setCam_fr {msk : Nat} {b₀ : State} {s : State} {k : Nat} {e : CamEntry} (h₀ : Fr msk b₀ s) (hm₀ : 8192 ||| msk = msk) :
    Fr msk b₀ (State.setCam s k e) := by
  refine Fr.step h₀ ?_ hm₀
  clear h₀ hm₀
  unfold State.setCam
  try dsimp only
  repeat' (first
    | with_reducible exact Fr.refl _ _
    | split
    | refine Fr.mk' ?_)

theorem State.updateLock_fr {msk : Nat} {b₀ : State} {s : State} {cseq : Nat} {p : Part} (h₀ : Fr msk b₀ s) (hm₀ : 8192 ||| msk = msk) :
    Fr msk b₀ (State.updateLock s cseq p) := by
  refine Fr.step h₀ ?_ hm₀
  clear h₀ hm₀
  unfold State.updateLock
  try dsimp only
  repeat' (first
    | with_reducible exact Fr.refl _ _
    | exact (rfl : (_ : Nat) = _)
    | with_reducible refine State.setCam_fr ?_ ?_
    | split)

theorem State.setPart_fr {msk : Nat} {b₀ : State} {s : State} {cseq : Nat} {p : Part} (h₀ : Fr msk b₀ s) (hm₀ : 12288 ||| msk = msk) :
    Fr msk b₀ (State.setPart s cseq p) := by
  refine Fr.step h₀ ?_ hm₀
  clear h₀ hm₀
  unfold State.setPart
  try dsimp only
  repeat' (first
    | with_reducible exact Fr.refl _ _
    | exact (rfl : (_ : Nat) = _)
    | with_reducible refine State.updateLock_fr ?_ ?_
    | refine Fr.mk' ?_)

theorem State.putPart_fr {msk : Nat} {b₀ : State} {s : State} {cseq : Nat} {p : Part} (h₀ : Fr msk b₀ s) (hm₀ : 4096 ||| msk = msk) :
    Fr msk b₀ (State.putPart s cseq p) := by
  refine Fr.step h₀ ?_ hm₀
  clear h₀ hm₀
  unfold State.putPart
  try dsimp only
  repeat' (first
    | with_reducible exact Fr.refl _ _
    | refine Fr.mk' ?_)

theorem State.uncharge_fr {msk : Nat} {b₀ : State} {s : State} {p : Nat} {g : Nat} (h₀ : Fr msk b₀ s) (hm₀ : 16384 ||| msk = msk) :
    Fr msk b₀ (State.uncharge s p g) := by
  refine Fr.step h₀ ?_ hm₀
  clear h₀ hm₀
  unfold State.uncharge
  try dsimp only
  repeat' (first
    | with_reducible exact Fr.refl _ _
    | exact (rfl : (_ : Nat) = _)
    | with_reducible refine State.setPool_fr ?_ ?_)

theorem State.setBucket_fr {msk : Nat} {b₀ : State} {s : State} {i : Nat} {b : DdBucket} (h₀ : Fr msk b₀ s) (hm₀ : 8192 ||| msk = msk) :
    Fr msk b₀ (State.setBucket s i b) := by
  refine Fr.step h₀ ?_ hm₀
  clear h₀ hm₀
  unfold State.setBucket
  try dsimp only
  repeat' (first
    | with_reducible exact Fr.refl _ _
    | refine Fr.mk' ?_)

theorem State.tierForget_fr {msk : Nat} {b₀ : State} {s : State} {cseq : Nat} {ig : Nat × Grain} (h₀ : Fr msk b₀ s) (hm₀ : 8192 ||| msk = msk) :
    Fr msk b₀ (State.tierForget s cseq ig) := by
  refine Fr.step h₀ ?_ hm₀
  clear h₀ hm₀
  unfold State.tierForget
  try dsimp only
  repeat' (first
    | with_reducible exact Fr.refl _ _
    | exact (rfl : (_ : Nat) = _)
    | with_reducible refine State.setBucket_fr ?_ ?_
    | split)

theorem State.partForget_fr {msk : Nat} {b₀ : State} {s : State} {cseq : Nat} {p : Part} (h₀ : Fr msk b₀ s) (hm₀ : 8192 ||| msk = msk) :
    Fr msk b₀ (State.partForget s cseq p) := by
  refine Fr.step h₀ ?_ hm₀
  clear h₀ hm₀
  unfold State.partForget
  try dsimp only
  repeat' (first
    | with_reducible exact Fr.refl _ _
    | with_reducible assumption
    | exact (rfl : (_ : Nat) = _)
    | with_reducible refine State.tierForget_fr ?_ ?_
    | dsimp only
    | with_reducible refine Fr.ite ?_ ?_
    | with_reducible refine Fr.ite₁ ?_ ?_
    | with_reducible refine FrS.ite ?_ ?_
    | with_reducible refine FrP.ite ?_ ?_
    | with_reducible exact FrS.none
    | with_reducible refine FrS.some ?_
    | with_reducible refine FrS.map ?_
    | with_reducible exact FrP.none
    | with_reducible refine FrP.some ?_
    | with_reducible refine Fr.elim ?_ ?_
    | with_reducible refine Fr.foldl ?_ _ _ ?_
    | with_reducible refine Fr.foldl₂ ?_ _ _ ?_
    | intro _ _ _ _ _ _
    | intro _ _ _ _ _
    | intro _ _ _ _
    | intro _ _ _
    | intro _ _
    | intro _
    | with_reducible refine Fr.pair (h := ?_) (e := by assumption)
    | with_reducible refine FrO.got (h := ?_) (e := by assumption)
    | with_reducible refine FrS.get (h := ?_) (e := by assumption)
    | with_reducible refine FrP.get (h := ?_) (e := by assumption)
    | split)

theorem State.dropLock_fr {msk : Nat} {b₀ : State} {s : State} {cseq : Nat} (h₀ : Fr msk b₀ s) (hm₀ : 8192 ||| msk = msk) :
    Fr msk b₀ (State.dropLock s cseq) := by
  refine Fr.step h₀ ?_ hm₀
  clear h₀ hm₀
  unfold State.dropLock
  try dsimp only
  repeat' (first
    | with_reducible exact Fr.refl _ _
    | exact (rfl : (_ : Nat) = _)
    | with_reducible refine State.setCam_fr ?_ ?_
    | split)

theorem State.setQuotaUse_fr {msk : Nat} {b₀ : State} {s : State} {f : Nat} {n : Nat} (h₀ : Fr msk b₀ s) (hm₀ : 4096 ||| msk = msk) :
    Fr msk b₀ (State.setQuotaUse s f n) := by
  refine Fr.step h₀ ?_ hm₀
  clear h₀ hm₀
  unfold State.setQuotaUse
  try dsimp only
  repeat' (first
    | with_reducible exact Fr.refl _ _
    | with_reducible refine Fr.ite ?_ ?_
    | split
    | refine Fr.mk' ?_)

theorem State.advanceTail_fr {msk : Nat} {b₀ : State} {s : State} (h₀ : Fr msk b₀ s) (hm₀ : 4096 ||| msk = msk) :
    Fr msk b₀ (State.advanceTail s) := by
  refine Fr.step h₀ ?_ hm₀
  clear h₀ hm₀
  unfold State.advanceTail
  try dsimp only
  repeat' (first
    | with_reducible exact Fr.refl _ _
    | split
    | refine Fr.mk' ?_)

theorem State.removePart_fr {msk : Nat} {b₀ : State} {s : State} {cseq : Nat} (h₀ : Fr msk b₀ s) (hm₀ : 28672 ||| msk = msk) :
    Fr msk b₀ (State.removePart s cseq) := by
  refine Fr.step h₀ ?_ hm₀
  clear h₀ hm₀
  unfold State.removePart
  try dsimp only
  repeat' (first
    | with_reducible exact Fr.refl _ _
    | with_reducible assumption
    | exact (rfl : (_ : Nat) = _)
    | with_reducible refine State.uncharge_fr ?_ ?_
    | with_reducible refine State.partForget_fr ?_ ?_
    | with_reducible refine State.dropLock_fr ?_ ?_
    | with_reducible refine State.setQuotaUse_fr ?_ ?_
    | with_reducible refine State.advanceTail_fr ?_ ?_
    | dsimp only
    | with_reducible refine Fr.ite ?_ ?_
    | with_reducible refine Fr.ite₁ ?_ ?_
    | with_reducible refine FrS.ite ?_ ?_
    | with_reducible refine FrP.ite ?_ ?_
    | with_reducible exact FrS.none
    | with_reducible refine FrS.some ?_
    | with_reducible refine FrS.map ?_
    | with_reducible exact FrP.none
    | with_reducible refine FrP.some ?_
    | with_reducible refine Fr.elim ?_ ?_
    | with_reducible refine Fr.foldl ?_ _ _ ?_
    | with_reducible refine Fr.foldl₂ ?_ _ _ ?_
    | intro _ _ _ _ _ _
    | intro _ _ _ _ _
    | intro _ _ _ _
    | intro _ _ _
    | intro _ _
    | intro _
    | with_reducible refine Fr.pair (h := ?_) (e := by assumption)
    | with_reducible refine FrO.got (h := ?_) (e := by assumption)
    | with_reducible refine FrS.get (h := ?_) (e := by assumption)
    | with_reducible refine FrP.get (h := ?_) (e := by assumption)
    | split
    | refine Fr.mk' ?_)

theorem State.discardStreaming_fr {msk : Nat} {b₀ : State} {s : State} {f : Part → Bool} (h₀ : Fr msk b₀ s) (hm₀ : 28672 ||| msk = msk) :
    Fr msk b₀ (State.discardStreaming s f) := by
  refine Fr.step h₀ ?_ hm₀
  clear h₀ hm₀
  unfold State.discardStreaming
  try dsimp only
  repeat' (first
    | with_reducible exact Fr.refl _ _
    | with_reducible assumption
    | exact (rfl : (_ : Nat) = _)
    | with_reducible refine State.removePart_fr ?_ ?_
    | dsimp only
    | with_reducible refine Fr.ite ?_ ?_
    | with_reducible refine Fr.ite₁ ?_ ?_
    | with_reducible refine FrS.ite ?_ ?_
    | with_reducible refine FrP.ite ?_ ?_
    | with_reducible exact FrS.none
    | with_reducible refine FrS.some ?_
    | with_reducible refine FrS.map ?_
    | with_reducible exact FrP.none
    | with_reducible refine FrP.some ?_
    | with_reducible refine Fr.elim ?_ ?_
    | with_reducible refine Fr.foldl ?_ _ _ ?_
    | with_reducible refine Fr.foldl₂ ?_ _ _ ?_
    | intro _ _ _ _ _ _
    | intro _ _ _ _ _
    | intro _ _ _ _
    | intro _ _ _
    | intro _ _
    | intro _
    | with_reducible refine Fr.pair (h := ?_) (e := by assumption)
    | with_reducible refine FrO.got (h := ?_) (e := by assumption)
    | with_reducible refine FrS.get (h := ?_) (e := by assumption)
    | with_reducible refine FrP.get (h := ?_) (e := by assumption)
    | split)

theorem State.setVol_fr {msk : Nat} {b₀ : State} {s : State} {v : Nat} {f : Vol → Vol} (h₀ : Fr msk b₀ s) (hm₀ : 16384 ||| msk = msk) :
    Fr msk b₀ (State.setVol s v f) := by
  refine Fr.step h₀ ?_ hm₀
  clear h₀ hm₀
  unfold State.setVol
  try dsimp only
  repeat' (first
    | with_reducible exact Fr.refl _ _
    | refine Fr.mk' ?_)

end Sys2Proof.Machine
end

