-- ==== Sys2Proof/Laws/FrLink.lean ====
section
/-! SUPPORT. Frames of the operations of Machine.Link: the parts of State that each may change. -/

set_option maxRecDepth 20000
set_option Elab.async false
set_option linter.unusedTactic false
set_option linter.unreachableTactic false
set_option linter.unusedVariables false

namespace Sys2Proof.Machine

theorem State.setMlink_fr {msk : Nat} {b₀ : State} {s : State} {m : Nat} {l : MLink} (h₀ : Fr msk b₀ s) (hm₀ : 16384 ||| msk = msk) :
    Fr msk b₀ (State.setMlink s m l) := by
  refine Fr.step h₀ ?_ hm₀
  clear h₀ hm₀
  unfold State.setMlink
  try dsimp only
  repeat' (first
    | with_reducible exact Fr.refl _ _
    | refine Fr.mk' ?_)

theorem State.pumpOne_fr {msk : Nat} {b₀ : State} {s : State} {m : Nat} (h₀ : Fr msk b₀ s) (hm₀ : 16390 ||| msk = msk) :
    Fr msk b₀ (State.pumpOne s m) := by
  refine Fr.step h₀ ?_ hm₀
  clear h₀ hm₀
  unfold State.pumpOne
  try dsimp only
  repeat' (first
    | with_reducible exact Fr.refl _ _
    | exact (rfl : (_ : Nat) = _)
    | with_reducible refine State.emit_fr ?_ ?_
    | with_reducible refine State.flitsSent_fr ?_ ?_
    | with_reducible refine State.setMlink_fr ?_ ?_
    | with_reducible refine Fr.ite ?_ ?_
    | split)

theorem State.pump_fr {msk : Nat} {b₀ : State} {s : State} {m : Nat} (h₀ : Fr msk b₀ s) (hm₀ : 16390 ||| msk = msk) :
    Fr msk b₀ (State.pump s m) := by
  refine Fr.step h₀ ?_ hm₀
  clear h₀ hm₀
  unfold State.pump
  try dsimp only
  repeat' (first
    | with_reducible exact Fr.refl _ _
    | with_reducible assumption
    | exact (rfl : (_ : Nat) = _)
    | with_reducible refine State.pumpOne_fr ?_ ?_
    | with_reducible refine Fr.foldl ?_ _ _ ?_
    | intro _ _ _)

theorem State.sendMod_fr {msk : Nat} {b₀ : State} {s : State} {m : Nat} {c : ModCmd} (h₀ : Fr msk b₀ s) (hm₀ : 16390 ||| msk = msk) :
    Fr msk b₀ (State.sendMod s m c) := by
  refine Fr.step h₀ ?_ hm₀
  clear h₀ hm₀
  unfold State.sendMod
  try dsimp only
  repeat' (first
    | with_reducible exact Fr.refl _ _
    | exact (rfl : (_ : Nat) = _)
    | with_reducible refine State.pump_fr ?_ ?_
    | with_reducible refine State.setMlink_fr ?_ ?_)

theorem State.sendRaise_fr {msk : Nat} {b₀ : State} {s : State} {paddock : Nat} {port : Nat} {toOther : Bool} {cur : Nat} {retried : Bool} (h₀ : Fr msk b₀ s) (hm₀ : 49158 ||| msk = msk) :
    Fr msk b₀ (State.sendRaise s paddock port toOther cur retried) := by
  refine Fr.step h₀ ?_ hm₀
  clear h₀ hm₀
  unfold State.sendRaise
  try dsimp only
  repeat' (first
    | with_reducible exact Fr.refl _ _
    | exact (rfl : (_ : Nat) = _)
    | with_reducible refine State.sendMod_fr ?_ ?_
    | refine Fr.mk' ?_)

theorem State.noteFail_fr {msk : Nat} {b₀ : State} {s : State} {tag : Nat} {f : MediaFail} (h₀ : Fr msk b₀ s) (hm₀ : 16384 ||| msk = msk) :
    Fr msk b₀ (State.noteFail s tag f) := by
  refine Fr.step h₀ ?_ hm₀
  clear h₀ hm₀
  unfold State.noteFail
  try dsimp only
  repeat' (first
    | with_reducible exact Fr.refl _ _
    | with_reducible assumption
    | exact (rfl : (_ : Nat) = _)
    | dsimp only
    | with_reducible refine Fr.ite ?_ ?_
    | with_reducible refine Fr.ite₁ ?_ ?_
    | with_reducible refine FrS.ite ?_ ?_
    | with_reducible refine FrP.ite ?_ ?_
    | with_reducible exact FrS.none
    | with_reducible refine FrS.some ?_
    | with_reducible refine FrS.map ?_
    | with_reducible exact FrP.none
    | with_reducible refine FrP.some ?_
    | with_reducible refine Fr.elim ?_ ?_
    | with_reducible refine Fr.foldl ?_ _ _ ?_
    | with_reducible refine Fr.foldl₂ ?_ _ _ ?_
    | intro _ _ _ _ _ _
    | intro _ _ _ _ _
    | intro _ _ _ _
    | intro _ _ _
    | intro _ _
    | intro _
    | with_reducible refine Fr.pair (h := ?_) (e := by assumption)
    | with_reducible refine FrO.got (h := ?_) (e := by assumption)
    | with_reducible refine FrS.get (h := ?_) (e := by assumption)
    | with_reducible refine FrP.get (h := ?_) (e := by assumption)
    | split
    | refine Fr.mk' ?_)

theorem State.trainStart_fr {msk : Nat} {b₀ : State} {s : State} {m : Nat} (h₀ : Fr msk b₀ s) (hm₀ : 16388 ||| msk = msk) :
    Fr msk b₀ (State.trainStart s m) := by
  refine Fr.step h₀ ?_ hm₀
  clear h₀ hm₀
  unfold State.trainStart
  try dsimp only
  repeat' (first
    | with_reducible exact Fr.refl _ _
    | exact (rfl : (_ : Nat) = _)
    | with_reducible refine State.putFld_fr ?_ ?_
    | with_reducible refine State.setMlink_fr ?_ ?_
    | with_reducible refine Fr.ite ?_ ?_)

end Sys2Proof.Machine
end

