-- ==== Sys2Proof/Laws/FrRdma.lean ====
section
/-! SUPPORT. Frames of the operations of Machine.Rdma: the parts of State that each may change. -/

set_option maxRecDepth 20000
set_option Elab.async false
set_option linter.unusedTactic false
set_option linter.unreachableTactic false
set_option linter.unusedVariables false

namespace Sys2Proof.Machine

theorem State.setQp_fr {msk : Nat} {b₀ : State} {s : State} {q : Nat} {f : Qp → Qp} (h₀ : Fr msk b₀ s) (hm₀ : 2048 ||| msk = msk) :
    Fr msk b₀ (State.setQp s q f) := by
  refine Fr.step h₀ ?_ hm₀
  clear h₀ hm₀
  unfold State.setQp
  try dsimp only
  repeat' (first
    | with_reducible exact Fr.refl _ _
    | refine Fr.mk' ?_)

theorem State.stamp_fr {msk : Nat} {b₀ : State} {s : State} (h₀ : Fr msk b₀ s) (hm₀ : 2048 ||| msk = msk) :
    Fr msk b₀ (State.stamp s) := by
  refine Fr.step h₀ ?_ hm₀
  clear h₀ hm₀
  unfold State.stamp
  try dsimp only
  repeat' (first
    | with_reducible exact Fr.refl _ _
    | refine Fr.mk' ?_)

theorem State.ctxEvict_fr {msk : Nat} {b₀ : State} {s : State} {v : Nat × Qp} (h₀ : Fr msk b₀ s) (hm₀ : 2052 ||| msk = msk) :
    Fr msk b₀ (State.ctxEvict s v) := by
  refine Fr.step h₀ ?_ hm₀
  clear h₀ hm₀
  unfold State.ctxEvict
  try dsimp only
  repeat' (first
    | with_reducible exact Fr.refl _ _
    | exact (rfl : (_ : Nat) = _)
    | with_reducible refine State.setQp_fr ?_ ?_
    | with_reducible refine State.count_fr ?_ ?_
    | with_reducible refine Fr.ite ?_ ?_)

theorem State.ctxInstall_fr {msk : Nat} {b₀ : State} {s : State} {q : Nat} (h₀ : Fr msk b₀ s) (hm₀ : 2052 ||| msk = msk) :
    Fr msk b₀ (State.ctxInstall s q) := by
  refine Fr.step h₀ ?_ hm₀
  clear h₀ hm₀
  unfold State.ctxInstall
  try dsimp only
  repeat' (first
    | with_reducible exact Fr.refl _ _
    | exact (rfl : (_ : Nat) = _)
    | with_reducible refine State.setQp_fr ?_ ?_
    | with_reducible refine State.stamp_fr ?_ ?_
    | with_reducible refine State.ctxEvict_fr ?_ ?_
    | with_reducible refine Fr.ite ?_ ?_
    | with_reducible refine FrS.ite ?_ ?_
    | with_reducible refine FrS.some ?_
    | with_reducible refine FrS.map ?_
    | intro _
    | with_reducible refine FrS.get (h := ?_) (e := by assumption)
    | split)

theorem State.ctxTouch_fr {msk : Nat} {b₀ : State} {s : State} {q : Nat} {f : Qp → Qp} (h₀ : Fr msk b₀ s) (hm₀ : 2052 ||| msk = msk) :
    Fr msk b₀ (State.ctxTouch s q f) := by
  refine Fr.step h₀ ?_ hm₀
  clear h₀ hm₀
  unfold State.ctxTouch
  try dsimp only
  repeat' (first
    | with_reducible exact Fr.refl _ _
    | exact (rfl : (_ : Nat) = _)
    | with_reducible refine State.setQp_fr ?_ ?_
    | with_reducible refine State.ctxInstall_fr ?_ ?_)

theorem State.qpIssue_fr {msk : Nat} {b₀ : State} {s : State} {q : Nat} {bytes : Nat} {read : Bool} (h₀ : Fr msk b₀ s) (hm₀ : 2052 ||| msk = msk) :
    Fr msk b₀ (State.qpIssue s q bytes read) := by
  refine Fr.step h₀ ?_ hm₀
  clear h₀ hm₀
  unfold State.qpIssue
  try dsimp only
  repeat' (first
    | with_reducible exact Fr.refl _ _
    | with_reducible assumption
    | exact (rfl : (_ : Nat) = _)
    | with_reducible refine State.ctxTouch_fr ?_ ?_
    | dsimp only
    | with_reducible refine Fr.ite ?_ ?_
    | with_reducible refine Fr.ite₁ ?_ ?_
    | with_reducible refine FrS.ite ?_ ?_
    | with_reducible refine FrP.ite ?_ ?_
    | with_reducible exact FrS.none
    | with_reducible refine FrS.some ?_
    | with_reducible refine FrS.map ?_
    | with_reducible exact FrP.none
    | with_reducible refine FrP.some ?_
    | with_reducible refine Fr.elim ?_ ?_
    | with_reducible refine Fr.foldl ?_ _ _ ?_
    | with_reducible refine Fr.foldl₂ ?_ _ _ ?_
    | intro _ _ _ _ _ _
    | intro _ _ _ _ _
    | intro _ _ _ _
    | intro _ _ _
    | intro _ _
    | intro _
    | with_reducible refine Fr.pair (h := ?_) (e := by assumption)
    | with_reducible refine FrO.got (h := ?_) (e := by assumption)
    | with_reducible refine FrS.get (h := ?_) (e := by assumption)
    | with_reducible refine FrP.get (h := ?_) (e := by assumption)
    | split)

theorem State.qpPost_fr {msk : Nat} {b₀ : State} {s : State} {q : Nat} {bytes : Nat} {read : Bool} (h₀ : Fr msk b₀ s) (hm₀ : 2052 ||| msk = msk) :
    Fr msk b₀ (State.qpPost s q bytes read) := by
  refine Fr.step h₀ ?_ hm₀
  clear h₀ hm₀
  unfold State.qpPost
  try dsimp only
  repeat' (first
    | with_reducible exact Fr.refl _ _
    | with_reducible assumption
    | exact (rfl : (_ : Nat) = _)
    | with_reducible refine State.qpIssue_fr ?_ ?_
    | with_reducible refine State.setQp_fr ?_ ?_
    | dsimp only
    | with_reducible refine Fr.ite ?_ ?_
    | with_reducible refine Fr.ite₁ ?_ ?_
    | with_reducible refine FrS.ite ?_ ?_
    | with_reducible refine FrP.ite ?_ ?_
    | with_reducible exact FrS.none
    | with_reducible refine FrS.some ?_
    | with_reducible refine FrS.map ?_
    | with_reducible exact FrP.none
    | with_reducible refine FrP.some ?_
    | with_reducible refine Fr.elim ?_ ?_
    | with_reducible refine Fr.foldl ?_ _ _ ?_
    | with_reducible refine Fr.foldl₂ ?_ _ _ ?_
    | intro _ _ _ _ _ _
    | intro _ _ _ _ _
    | intro _ _ _ _
    | intro _ _ _
    | intro _ _
    | intro _
    | with_reducible refine Fr.pair (h := ?_) (e := by assumption)
    | with_reducible refine FrO.got (h := ?_) (e := by assumption)
    | with_reducible refine FrS.get (h := ?_) (e := by assumption)
    | with_reducible refine FrP.get (h := ?_) (e := by assumption)
    | split)

theorem State.qpSend_fr {msk : Nat} {b₀ : State} {s : State} {q : Nat} {bytes : Nat} (h₀ : Fr msk b₀ s) (hm₀ : 2052 ||| msk = msk) :
    Fr msk b₀ (State.qpSend s q bytes) := by
  refine Fr.step h₀ ?_ hm₀
  clear h₀ hm₀
  unfold State.qpSend
  try dsimp only
  repeat' (first
    | with_reducible exact Fr.refl _ _
    | with_reducible assumption
    | exact (rfl : (_ : Nat) = _)
    | with_reducible refine State.qpPost_fr ?_ ?_
    | dsimp only
    | with_reducible refine Fr.ite ?_ ?_
    | with_reducible refine Fr.ite₁ ?_ ?_
    | with_reducible refine FrS.ite ?_ ?_
    | with_reducible refine FrP.ite ?_ ?_
    | with_reducible exact FrS.none
    | with_reducible refine FrS.some ?_
    | with_reducible refine FrS.map ?_
    | with_reducible exact FrP.none
    | with_reducible refine FrP.some ?_
    | with_reducible refine Fr.elim ?_ ?_
    | with_reducible refine Fr.foldl ?_ _ _ ?_
    | with_reducible refine Fr.foldl₂ ?_ _ _ ?_
    | intro _ _ _ _ _ _
    | intro _ _ _ _ _
    | intro _ _ _ _
    | intro _ _ _
    | intro _ _
    | intro _
    | with_reducible refine Fr.pair (h := ?_) (e := by assumption)
    | with_reducible refine FrO.got (h := ?_) (e := by assumption)
    | with_reducible refine FrS.get (h := ?_) (e := by assumption)
    | with_reducible refine FrP.get (h := ?_) (e := by assumption)
    | split)

theorem State.streamSend_fr {msk : Nat} {b₀ : State} {s : State} {control : Nat} {turn : Nat} {bytes : Nat} (h₀ : Fr msk b₀ s) (hm₀ : 2054 ||| msk = msk) :
    Fr msk b₀ (State.streamSend s control turn bytes).1 := by
  refine Fr.step h₀ ?_ hm₀
  clear h₀ hm₀
  unfold State.streamSend
  try dsimp only
  repeat' (first
    | with_reducible exact Fr.refl _ _
    | with_reducible assumption
    | exact (rfl : (_ : Nat) = _)
    | with_reducible refine State.qpSend_fr ?_ ?_
    | with_reducible refine State.emit_fr ?_ ?_
    | dsimp only
    | with_reducible refine Fr.ite ?_ ?_
    | with_reducible refine Fr.ite₁ ?_ ?_
    | with_reducible refine FrS.ite ?_ ?_
    | with_reducible refine FrP.ite ?_ ?_
    | with_reducible exact FrS.none
    | with_reducible refine FrS.some ?_
    | with_reducible refine FrS.map ?_
    | with_reducible exact FrP.none
    | with_reducible refine FrP.some ?_
    | with_reducible refine Fr.elim ?_ ?_
    | with_reducible refine Fr.foldl ?_ _ _ ?_
    | with_reducible refine Fr.foldl₂ ?_ _ _ ?_
    | intro _ _ _ _ _ _
    | intro _ _ _ _ _
    | intro _ _ _ _
    | intro _ _ _
    | intro _ _
    | intro _
    | with_reducible refine Fr.pair (h := ?_) (e := by assumption)
    | with_reducible refine FrO.got (h := ?_) (e := by assumption)
    | with_reducible refine FrS.get (h := ?_) (e := by assumption)
    | with_reducible refine FrP.get (h := ?_) (e := by assumption)
    | split)

theorem State.evPost_fr {msk : Nat} {b₀ : State} {s : State} {typ : Nat} {lport : Nat} {object : Nat} (h₀ : Fr msk b₀ s) (hm₀ : 2054 ||| msk = msk) :
    Fr msk b₀ (State.evPost s typ lport object) := by
  refine Fr.step h₀ ?_ hm₀
  clear h₀ hm₀
  unfold State.evPost
  try dsimp only
  repeat' (first
    | with_reducible exact Fr.refl _ _
    | exact (rfl : (_ : Nat) = _)
    | with_reducible refine State.event_fr ?_ ?_
    | with_reducible refine State.count_fr ?_ ?_
    | with_reducible refine State.wrN_fr ?_ ?_
    | with_reducible refine State.emit_fr ?_ ?_
    | with_reducible refine Fr.ite ?_ ?_
    | split
    | refine Fr.mk' ?_)

theorem State.missLeave_fr {msk : Nat} {b₀ : State} {s : State} {lport : Nat} {bytes : Nat} (h₀ : Fr msk b₀ s) (hm₀ : 2052 ||| msk = msk) :
    Fr msk b₀ (State.missLeave s lport bytes) := by
  refine Fr.step h₀ ?_ hm₀
  clear h₀ hm₀
  unfold State.missLeave
  try dsimp only
  repeat' (first
    | with_reducible exact Fr.refl _ _
    | exact (rfl : (_ : Nat) = _)
    | with_reducible refine State.wrN_fr ?_ ?_
    | with_reducible refine Fr.ite ?_ ?_
    | refine Fr.mk' ?_)

theorem State.missLeaveAll_fr {msk : Nat} {b₀ : State} {s : State} {l : List (Nat × Packet)} (h₀ : Fr msk b₀ s) (hm₀ : 2052 ||| msk = msk) :
    Fr msk b₀ (State.missLeaveAll s l) := by
  refine Fr.step h₀ ?_ hm₀
  clear h₀ hm₀
  unfold State.missLeaveAll
  try dsimp only
  repeat' (first
    | with_reducible exact Fr.refl _ _
    | with_reducible assumption
    | exact (rfl : (_ : Nat) = _)
    | with_reducible refine State.missLeave_fr ?_ ?_
    | dsimp only
    | with_reducible refine Fr.ite ?_ ?_
    | with_reducible refine Fr.ite₁ ?_ ?_
    | with_reducible refine FrS.ite ?_ ?_
    | with_reducible refine FrP.ite ?_ ?_
    | with_reducible exact FrS.none
    | with_reducible refine FrS.some ?_
    | with_reducible refine FrS.map ?_
    | with_reducible exact FrP.none
    | with_reducible refine FrP.some ?_
    | with_reducible refine Fr.elim ?_ ?_
    | with_reducible refine Fr.foldl ?_ _ _ ?_
    | with_reducible refine Fr.foldl₂ ?_ _ _ ?_
    | intro _ _ _ _ _ _
    | intro _ _ _ _ _
    | intro _ _ _ _
    | intro _ _ _
    | intro _ _
    | intro _
    | with_reducible refine Fr.pair (h := ?_) (e := by assumption)
    | with_reducible refine FrO.got (h := ?_) (e := by assumption)
    | with_reducible refine FrS.get (h := ?_) (e := by assumption)
    | with_reducible refine FrP.get (h := ?_) (e := by assumption)
    | split)

theorem State.discardParked_fr {msk : Nat} {b₀ : State} {s : State} {q : Nat} (h₀ : Fr msk b₀ s) (hm₀ : 2052 ||| msk = msk) :
    Fr msk b₀ (State.discardParked s q) := by
  refine Fr.step h₀ ?_ hm₀
  clear h₀ hm₀
  unfold State.discardParked
  try dsimp only
  repeat' (first
    | with_reducible exact Fr.refl _ _
    | with_reducible assumption
    | exact (rfl : (_ : Nat) = _)
    | with_reducible refine State.missLeaveAll_fr ?_ ?_
    | with_reducible refine State.countBy_fr ?_ ?_
    | with_reducible refine State.setQp_fr ?_ ?_
    | dsimp only
    | with_reducible refine Fr.ite ?_ ?_
    | with_reducible refine Fr.ite₁ ?_ ?_
    | with_reducible refine FrS.ite ?_ ?_
    | with_reducible refine FrP.ite ?_ ?_
    | with_reducible exact FrS.none
    | with_reducible refine FrS.some ?_
    | with_reducible refine FrS.map ?_
    | with_reducible exact FrP.none
    | with_reducible refine FrP.some ?_
    | with_reducible refine Fr.elim ?_ ?_
    | with_reducible refine Fr.foldl ?_ _ _ ?_
    | with_reducible refine Fr.foldl₂ ?_ _ _ ?_
    | intro _ _ _ _ _ _
    | intro _ _ _ _ _
    | intro _ _ _ _
    | intro _ _ _
    | intro _ _
    | intro _
    | with_reducible refine Fr.pair (h := ?_) (e := by assumption)
    | with_reducible refine FrO.got (h := ?_) (e := by assumption)
    | with_reducible refine FrS.get (h := ?_) (e := by assumption)
    | with_reducible refine FrP.get (h := ?_) (e := by assumption)
    | split)

theorem State.qpError_fr {msk : Nat} {b₀ : State} {s : State} {q : Nat} (h₀ : Fr msk b₀ s) (hm₀ : 2052 ||| msk = msk) :
    Fr msk b₀ (State.qpError s q) := by
  refine Fr.step h₀ ?_ hm₀
  clear h₀ hm₀
  unfold State.qpError
  try dsimp only
  repeat' (first
    | with_reducible exact Fr.refl _ _
    | exact (rfl : (_ : Nat) = _)
    | with_reducible refine State.setQp_fr ?_ ?_
    | with_reducible refine State.discardParked_fr ?_ ?_)

theorem State.qpDrain_fr {msk : Nat} {b₀ : State} {s : State} {q : Nat} {x2 : Nat} (h₀ : Fr msk b₀ s) (hm₀ : 2052 ||| msk = msk) :
    Fr msk b₀ (State.qpDrain s q x2) := by
  refine Fr.step h₀ ?_ hm₀
  clear h₀ hm₀
  fun_induction State.qpDrain 
  all_goals try dsimp +zetaDelta only at *
  all_goals repeat' (first
    | with_reducible exact Fr.refl _ _
    | with_reducible assumption
    | exact (rfl : (_ : Nat) = _)
    | with_reducible refine Fr.trans ?_ (by assumption)
    | with_reducible refine State.qpIssue_fr ?_ ?_
    | with_reducible refine State.setQp_fr ?_ ?_
    | dsimp only
    | with_reducible refine Fr.ite ?_ ?_
    | with_reducible refine Fr.ite₁ ?_ ?_
    | with_reducible refine FrS.ite ?_ ?_
    | with_reducible refine FrP.ite ?_ ?_
    | with_reducible exact FrS.none
    | with_reducible refine FrS.some ?_
    | with_reducible refine FrS.map ?_
    | with_reducible exact FrP.none
    | with_reducible refine FrP.some ?_
    | with_reducible refine Fr.elim ?_ ?_
    | with_reducible refine Fr.foldl ?_ _ _ ?_
    | with_reducible refine Fr.foldl₂ ?_ _ _ ?_
    | intro _ _ _ _ _ _
    | intro _ _ _ _ _
    | intro _ _ _ _
    | intro _ _ _
    | intro _ _
    | intro _
    | with_reducible refine Fr.pair (h := ?_) (e := by assumption)
    | with_reducible refine FrO.got (h := ?_) (e := by assumption)
    | with_reducible refine FrS.get (h := ?_) (e := by assumption)
    | with_reducible refine FrP.get (h := ?_) (e := by assumption)
    | split)

theorem State.qpTick_fr {msk : Nat} {b₀ : State} {s : State} (h₀ : Fr msk b₀ s) (hm₀ : 2052 ||| msk = msk) :
    Fr msk b₀ (State.qpTick s) := by
  refine Fr.step h₀ ?_ hm₀
  clear h₀ hm₀
  unfold State.qpTick
  try dsimp only
  repeat' (first
    | with_reducible exact Fr.refl _ _
    | with_reducible assumption
    | exact (rfl : (_ : Nat) = _)
    | with_reducible refine State.qpDrain_fr ?_ ?_
    | dsimp only
    | with_reducible refine Fr.ite ?_ ?_
    | with_reducible refine Fr.ite₁ ?_ ?_
    | with_reducible refine FrS.ite ?_ ?_
    | with_reducible refine FrP.ite ?_ ?_
    | with_reducible exact FrS.none
    | with_reducible refine FrS.some ?_
    | with_reducible refine FrS.map ?_
    | with_reducible exact FrP.none
    | with_reducible refine FrP.some ?_
    | with_reducible refine Fr.elim ?_ ?_
    | with_reducible refine Fr.foldl ?_ _ _ ?_
    | with_reducible refine Fr.foldl₂ ?_ _ _ ?_
    | intro _ _ _ _ _ _
    | intro _ _ _ _ _
    | intro _ _ _ _
    | intro _ _ _
    | intro _ _
    | intro _
    | with_reducible refine Fr.pair (h := ?_) (e := by assumption)
    | with_reducible refine FrO.got (h := ?_) (e := by assumption)
    | with_reducible refine FrS.get (h := ?_) (e := by assumption)
    | with_reducible refine FrP.get (h := ?_) (e := by assumption)
    | split
    | refine Fr.mk' ?_)

theorem State.srcSend_fr {msk : Nat} {b₀ : State} {s : State} {src : CmdSrc} {bytes : Nat} {read : optParam Bool Bool.false} (h₀ : Fr msk b₀ s) (hm₀ : 2052 ||| msk = msk) :
    Fr msk b₀ (State.srcSend s src bytes read) := by
  refine Fr.step h₀ ?_ hm₀
  clear h₀ hm₀
  unfold State.srcSend
  try dsimp only
  repeat' (first
    | with_reducible exact Fr.refl _ _
    | with_reducible assumption
    | exact (rfl : (_ : Nat) = _)
    | with_reducible refine State.qpPost_fr ?_ ?_
    | dsimp only
    | with_reducible refine Fr.ite ?_ ?_
    | with_reducible refine Fr.ite₁ ?_ ?_
    | with_reducible refine FrS.ite ?_ ?_
    | with_reducible refine FrP.ite ?_ ?_
    | with_reducible exact FrS.none
    | with_reducible refine FrS.some ?_
    | with_reducible refine FrS.map ?_
    | with_reducible exact FrP.none
    | with_reducible refine FrP.some ?_
    | with_reducible refine Fr.elim ?_ ?_
    | with_reducible refine Fr.foldl ?_ _ _ ?_
    | with_reducible refine Fr.foldl₂ ?_ _ _ ?_
    | intro _ _ _ _ _ _
    | intro _ _ _ _ _
    | intro _ _ _ _
    | intro _ _ _
    | intro _ _
    | intro _
    | with_reducible refine Fr.pair (h := ?_) (e := by assumption)
    | with_reducible refine FrO.got (h := ?_) (e := by assumption)
    | with_reducible refine FrS.get (h := ?_) (e := by assumption)
    | with_reducible refine FrP.get (h := ?_) (e := by assumption)
    | split)

theorem State.qpFatal_fr {msk : Nat} {b₀ : State} {s : State} {q : Nat} (h₀ : Fr msk b₀ s) (hm₀ : 2054 ||| msk = msk) :
    Fr msk b₀ (State.qpFatal s q) := by
  refine Fr.step h₀ ?_ hm₀
  clear h₀ hm₀
  unfold State.qpFatal
  try dsimp only
  repeat' (first
    | with_reducible exact Fr.refl _ _
    | exact (rfl : (_ : Nat) = _)
    | with_reducible refine State.evPost_fr ?_ ?_
    | with_reducible refine State.qpError_fr ?_ ?_
    | split)

end Sys2Proof.Machine
end

