-- ==== Sys2Proof/Laws/FrMap.lean ====
section
/-! SUPPORT. Frames of the operations of Machine.Map: the parts of State that each may change. -/

set_option maxRecDepth 20000
set_option Elab.async false
set_option linter.unusedTactic false
set_option linter.unreachableTactic false
set_option linter.unusedVariables false

namespace Sys2Proof.Machine

theorem State.addLoss_fr {msk : Nat} {b₀ : State} {s : State} {pool : Nat} {addr : Nat} {cause : Nat} (h₀ : Fr msk b₀ s) (hm₀ : 16388 ||| msk = msk) :
    Fr msk b₀ (State.addLoss s pool addr cause) := by
  refine Fr.step h₀ ?_ hm₀
  clear h₀ hm₀
  unfold State.addLoss
  try dsimp only
  repeat' (first
    | with_reducible exact Fr.refl _ _
    | with_reducible assumption
    | exact (rfl : (_ : Nat) = _)
    | with_reducible refine State.count_fr ?_ ?_
    | with_reducible refine State.setPool_fr ?_ ?_
    | with_reducible refine State.event_fr ?_ ?_
    | with_reducible refine Fr.ite ?_ ?_
    | with_reducible refine Fr.foldl ?_ _ _ ?_
    | intro _ _ _
    | split
    | refine Fr.mk' ?_)

theorem State.setSeg_fr {msk : Nat} {b₀ : State} {s : State} {i : Nat} {f : Seg → Seg} (h₀ : Fr msk b₀ s) (hm₀ : 16384 ||| msk = msk) :
    Fr msk b₀ (State.setSeg s i f) := by
  refine Fr.step h₀ ?_ hm₀
  clear h₀ hm₀
  unfold State.setSeg
  try dsimp only
  repeat' (first
    | with_reducible exact Fr.refl _ _
    | refine Fr.mk' ?_)

theorem State.setMpage_fr {msk : Nat} {b₀ : State} {s : State} {pool : Nat} {id : Nat} {p : MapPage} (h₀ : Fr msk b₀ s) (hm₀ : 16384 ||| msk = msk) :
    Fr msk b₀ (State.setMpage s pool id p) := by
  refine Fr.step h₀ ?_ hm₀
  clear h₀ hm₀
  unfold State.setMpage
  try dsimp only
  repeat' (first
    | with_reducible exact Fr.refl _ _
    | refine Fr.mk' ?_)

theorem State.shareBy_fr {msk : Nat} {b₀ : State} {s : State} {pool : Nat} {id : Nat} {up : Bool} (h₀ : Fr msk b₀ s) (hm₀ : 16384 ||| msk = msk) :
    Fr msk b₀ (State.shareBy s pool id up) := by
  refine Fr.step h₀ ?_ hm₀
  clear h₀ hm₀
  unfold State.shareBy
  try dsimp only
  repeat' (first
    | with_reducible exact Fr.refl _ _
    | exact (rfl : (_ : Nat) = _)
    | with_reducible refine State.setMpage_fr ?_ ?_
    | split)

theorem State.newId_fr {msk : Nat} {b₀ : State} {s : State} {pool : Nat} (h₀ : Fr msk b₀ s) (hm₀ : 16384 ||| msk = msk) :
    Fr msk b₀ (State.newId s pool).1 := by
  refine Fr.step h₀ ?_ hm₀
  clear h₀ hm₀
  unfold State.newId
  try dsimp only
  repeat' (first
    | with_reducible exact Fr.refl _ _
    | exact (rfl : (_ : Nat) = _)
    | with_reducible refine State.setPool_fr ?_ ?_
    | split)

theorem State.newPage_fr {msk : Nat} {b₀ : State} {s : State} {pool : Nat} {level : Nat} {t : Nat} (h₀ : Fr msk b₀ s) (hm₀ : 16384 ||| msk = msk) :
    Fr msk b₀ (State.newPage s pool level t).1 := by
  refine Fr.step h₀ ?_ hm₀
  clear h₀ hm₀
  unfold State.newPage
  try dsimp only
  repeat' (first
    | with_reducible exact Fr.refl _ _
    | exact (rfl : (_ : Nat) = _)
    | with_reducible refine State.newId_fr ?_ ?_
    | with_reducible refine State.setMpage_fr ?_ ?_)

theorem State.queueRef_fr {msk : Nat} {b₀ : State} {s : State} {a : Nat} {delta : Int} {t : Nat} (h₀ : Fr msk b₀ s) (hm₀ : 32768 ||| msk = msk) :
    Fr msk b₀ (State.queueRef s a delta t) := by
  refine Fr.step h₀ ?_ hm₀
  clear h₀ hm₀
  unfold State.queueRef
  try dsimp only
  repeat' (first
    | with_reducible exact Fr.refl _ _
    | refine Fr.mk' ?_)

theorem State.setRefs_fr {msk : Nat} {b₀ : State} {s : State} {a : Nat} {n : Nat} (h₀ : Fr msk b₀ s) (hm₀ : 16384 ||| msk = msk) :
    Fr msk b₀ (State.setRefs s a n) := by
  refine Fr.step h₀ ?_ hm₀
  clear h₀ hm₀
  unfold State.setRefs
  try dsimp only
  repeat' (first
    | with_reducible exact Fr.refl _ _
    | split
    | refine Fr.mk' ?_)

theorem State.liveBy_fr {msk : Nat} {b₀ : State} {s : State} {a : Nat} {up : Bool} (h₀ : Fr msk b₀ s) (hm₀ : 16384 ||| msk = msk) :
    Fr msk b₀ (State.liveBy s a up) := by
  refine Fr.step h₀ ?_ hm₀
  clear h₀ hm₀
  unfold State.liveBy
  try dsimp only
  repeat' (first
    | with_reducible exact Fr.refl _ _
    | exact (rfl : (_ : Nat) = _)
    | with_reducible refine State.setSeg_fr ?_ ?_
    | split)

theorem State.addRef_fr {msk : Nat} {b₀ : State} {s : State} {a : Nat} {page : Nat} {slot : Nat} {t : Nat} (h₀ : Fr msk b₀ s) (hm₀ : 49152 ||| msk = msk) :
    Fr msk b₀ (State.addRef s a page slot t) := by
  refine Fr.step h₀ ?_ hm₀
  clear h₀ hm₀
  unfold State.addRef
  try dsimp only
  repeat' (first
    | with_reducible exact Fr.refl _ _
    | exact (rfl : (_ : Nat) = _)
    | with_reducible refine State.queueRef_fr ?_ ?_
    | with_reducible refine State.setRefs_fr ?_ ?_
    | with_reducible refine State.liveBy_fr ?_ ?_
    | with_reducible refine Fr.ite ?_ ?_
    | refine Fr.mk' ?_)

theorem State.diverge_fr {msk : Nat} {b₀ : State} {s : State} {pool : Nat} {id : Nat} {t : Nat} (h₀ : Fr msk b₀ s) (hm₀ : 49152 ||| msk = msk) :
    Fr msk b₀ (State.diverge s pool id t).1 := by
  refine Fr.step h₀ ?_ hm₀
  clear h₀ hm₀
  unfold State.diverge
  try dsimp only
  repeat' (first
    | with_reducible exact Fr.refl _ _
    | with_reducible assumption
    | exact (rfl : (_ : Nat) = _)
    | with_reducible refine State.newId_fr ?_ ?_
    | with_reducible refine State.setMpage_fr ?_ ?_
    | with_reducible refine State.shareBy_fr ?_ ?_
    | with_reducible refine State.addRef_fr ?_ ?_
    | dsimp only
    | with_reducible refine Fr.ite ?_ ?_
    | with_reducible refine Fr.foldl ?_ _ _ ?_
    | intro _ _ _
    | split)

theorem State.ownPage_fr {msk : Nat} {b₀ : State} {s : State} {pool : Nat} {level : Nat} {id : Nat} {t : Nat} (h₀ : Fr msk b₀ s) (hm₀ : 49152 ||| msk = msk) :
    Fr msk b₀ (State.ownPage s pool level id t).1 := by
  refine Fr.step h₀ ?_ hm₀
  clear h₀ hm₀
  unfold State.ownPage
  try dsimp only
  repeat' (first
    | with_reducible exact Fr.refl _ _
    | exact (rfl : (_ : Nat) = _)
    | with_reducible refine State.newPage_fr ?_ ?_
    | with_reducible refine State.diverge_fr ?_ ?_
    | with_reducible refine Fr.ite₁ ?_ ?_
    | split)

theorem State.clearLoss_fr {msk : Nat} {b₀ : State} {s : State} {pool : Nat} {page : Nat} {slot : Nat} {old : Nat} (h₀ : Fr msk b₀ s) (hm₀ : 16384 ||| msk = msk) :
    Fr msk b₀ (State.clearLoss s pool page slot old) := by
  refine Fr.step h₀ ?_ hm₀
  clear h₀ hm₀
  unfold State.clearLoss
  try dsimp only
  repeat' (first
    | with_reducible exact Fr.refl _ _
    | exact (rfl : (_ : Nat) = _)
    | with_reducible refine State.setPool_fr ?_ ?_
    | with_reducible refine Fr.ite ?_ ?_
    | refine Fr.mk' ?_)

theorem State.dropRef_fr {msk : Nat} {b₀ : State} {s : State} {a : Nat} {page : Nat} {slot : Nat} {t : Nat} (h₀ : Fr msk b₀ s) (hm₀ : 709446 ||| msk = msk) :
    Fr msk b₀ (State.dropRef s a page slot t) := by
  refine Fr.step h₀ ?_ hm₀
  clear h₀ hm₀
  unfold State.dropRef
  try dsimp only
  repeat' (first
    | with_reducible exact Fr.refl _ _
    | exact (rfl : (_ : Nat) = _)
    | with_reducible refine State.queueRef_fr ?_ ?_
    | with_reducible refine State.raise_fr ?_ ?_
    | with_reducible refine State.setRefs_fr ?_ ?_
    | with_reducible refine State.liveBy_fr ?_ ?_
    | with_reducible refine Fr.ite ?_ ?_
    | refine Fr.mk' ?_)

theorem State.putEntry_fr {msk : Nat} {b₀ : State} {s : State} {pool : Nat} {id : Nat} {slot : Nat} {e : Nat} {t : Nat} (h₀ : Fr msk b₀ s) (hm₀ : 16384 ||| msk = msk) :
    Fr msk b₀ (State.putEntry s pool id slot e t) := by
  refine Fr.step h₀ ?_ hm₀
  clear h₀ hm₀
  unfold State.putEntry
  try dsimp only
  repeat' (first
    | with_reducible exact Fr.refl _ _
    | exact (rfl : (_ : Nat) = _)
    | with_reducible refine State.setMpage_fr ?_ ?_
    | split)

theorem State.setSlot_fr {msk : Nat} {b₀ : State} {s : State} {pool : Nat} {page : Nat} {slot : Nat} {new0 : Nat} {t : Nat} (h₀ : Fr msk b₀ s) (hm₀ : 709446 ||| msk = msk) :
    Fr msk b₀ (State.setSlot s pool page slot new0 t) := by
  refine Fr.step h₀ ?_ hm₀
  clear h₀ hm₀
  unfold State.setSlot
  try dsimp only
  repeat' (first
    | with_reducible exact Fr.refl _ _
    | exact (rfl : (_ : Nat) = _)
    | with_reducible refine State.clearLoss_fr ?_ ?_
    | with_reducible refine State.dropRef_fr ?_ ?_
    | with_reducible refine State.addRef_fr ?_ ?_
    | with_reducible refine State.putEntry_fr ?_ ?_)

theorem State.setPath_fr {msk : Nat} {b₀ : State} {s : State} {pool : Nat} {g : Nat} {new : Nat} {t : Nat} {x5 : Nat} {x6 : Nat} (h₀ : Fr msk b₀ s) (hm₀ : 709446 ||| msk = msk) :
    Fr msk b₀ (State.setPath s pool g new t x5 x6) := by
  refine Fr.step h₀ ?_ hm₀
  clear h₀ hm₀
  fun_induction State.setPath 
  all_goals try dsimp +zetaDelta only at *
  all_goals repeat' (first
    | with_reducible exact Fr.refl _ _
    | exact (rfl : (_ : Nat) = _)
    | with_reducible refine Fr.trans ?_ (by assumption)
    | with_reducible refine State.setSlot_fr ?_ ?_
    | with_reducible refine State.putEntry_fr ?_ ?_
    | with_reducible refine State.ownPage_fr ?_ ?_
    | with_reducible refine Fr.pair (h := ?_) (e := by assumption))

theorem State.setGrain_fr {msk : Nat} {b₀ : State} {s : State} {vol : Nat} {g : Nat} {new : Nat} {t : Nat} (h₀ : Fr msk b₀ s) (hm₀ : 709446 ||| msk = msk) :
    Fr msk b₀ (State.setGrain s vol g new t) := by
  refine Fr.step h₀ ?_ hm₀
  clear h₀ hm₀
  unfold State.setGrain
  try dsimp only
  repeat' (first
    | with_reducible exact Fr.refl _ _
    | exact (rfl : (_ : Nat) = _)
    | with_reducible refine State.ownPage_fr ?_ ?_
    | with_reducible refine State.setPath_fr ?_ ?_
    | with_reducible refine State.setVol_fr ?_ ?_
    | with_reducible refine Fr.ite ?_ ?_
    | split)

theorem State.setSlotOp_fr {msk : Nat} {b₀ : State} {s : State} {pool : Nat} {page : Nat} {slot : Nat} {new : Nat} {old : Nat} {t : Nat} (h₀ : Fr msk b₀ s) (hm₀ : 709446 ||| msk = msk) :
    Fr msk b₀ (State.setSlotOp s pool page slot new old t) := by
  refine Fr.step h₀ ?_ hm₀
  clear h₀ hm₀
  unfold State.setSlotOp
  try dsimp only
  repeat' (first
    | with_reducible exact Fr.refl _ _
    | exact (rfl : (_ : Nat) = _)
    | with_reducible refine State.setSlot_fr ?_ ?_
    | with_reducible refine Fr.ite ?_ ?_)

theorem State.freePage_fr {msk : Nat} {b₀ : State} {s : State} {pool : Nat} {id : Nat} {t : Nat} (h₀ : Fr msk b₀ s) (hm₀ : 709446 ||| msk = msk) :
    Fr msk b₀ (State.freePage s pool id t).1 := by
  refine Fr.step h₀ ?_ hm₀
  clear h₀ hm₀
  unfold State.freePage
  try dsimp only
  repeat' (first
    | with_reducible exact Fr.refl _ _
    | with_reducible assumption
    | exact (rfl : (_ : Nat) = _)
    | with_reducible refine State.setPool_fr ?_ ?_
    | with_reducible refine State.dropRef_fr ?_ ?_
    | with_reducible refine State.shareBy_fr ?_ ?_
    | dsimp only
    | with_reducible refine Fr.ite₁ ?_ ?_
    | with_reducible refine Fr.foldl ?_ _ _ ?_
    | with_reducible refine Fr.foldl₂ ?_ _ _ ?_
    | intro _ _ _
    | split
    | refine Fr.mk' ?_)

theorem State.refBy_fr {msk : Nat} {b₀ : State} {s : State} {a : Nat} {delta : Int} (h₀ : Fr msk b₀ s) (hm₀ : 709446 ||| msk = msk) :
    Fr msk b₀ (State.refBy s a delta) := by
  refine Fr.step h₀ ?_ hm₀
  clear h₀ hm₀
  unfold State.refBy
  try dsimp only
  repeat' (first
    | with_reducible exact Fr.refl _ _
    | exact (rfl : (_ : Nat) = _)
    | with_reducible refine State.raise_fr ?_ ?_
    | with_reducible refine State.setRefs_fr ?_ ?_
    | with_reducible refine State.liveBy_fr ?_ ?_
    | with_reducible refine Fr.ite ?_ ?_)

end Sys2Proof.Machine
end

