-- ==== Sys2Proof/Laws/FrComplete.lean ====
section
/-! SUPPORT. Frames of the operations of Machine.Complete: the parts of State that each may change. -/

set_option maxRecDepth 20000
set_option Elab.async false
set_option linter.unusedTactic false
set_option linter.unreachableTactic false
set_option linter.unusedVariables false

namespace Sys2Proof.Machine

theorem State.unhold_fr {msk : Nat} {b₀ : State} {s : State} {qs : List Nat} (h₀ : Fr msk b₀ s) (hm₀ : 4096 ||| msk = msk) :
    Fr msk b₀ (State.unhold s qs) := by
  refine Fr.step h₀ ?_ hm₀
  clear h₀ hm₀
  unfold State.unhold
  try dsimp only
  repeat' (first
    | with_reducible exact Fr.refl _ _
    | with_reducible assumption
    | exact (rfl : (_ : Nat) = _)
    | with_reducible refine State.putPart_fr ?_ ?_
    | with_reducible refine Fr.foldl ?_ _ _ ?_
    | intro _ _ _
    | split)

theorem State.unread_fr {msk : Nat} {b₀ : State} {s : State} {a : Nat} (h₀ : Fr msk b₀ s) (hm₀ : 16384 ||| msk = msk) :
    Fr msk b₀ (State.unread s a) := by
  refine Fr.step h₀ ?_ hm₀
  clear h₀ hm₀
  unfold State.unread
  try dsimp only
  repeat' (first
    | with_reducible exact Fr.refl _ _
    | exact (rfl : (_ : Nat) = _)
    | with_reducible refine State.setSeg_fr ?_ ?_
    | split)

theorem State.endReads_fr {msk : Nat} {b₀ : State} {s : State} {c : HostCmd} (h₀ : Fr msk b₀ s) (hm₀ : 22532 ||| msk = msk) :
    Fr msk b₀ (State.endReads s c) := by
  refine Fr.step h₀ ?_ hm₀
  clear h₀ hm₀
  unfold State.endReads
  try dsimp only
  repeat' (first
    | with_reducible exact Fr.refl _ _
    | with_reducible assumption
    | exact (rfl : (_ : Nat) = _)
    | with_reducible refine State.unhold_fr ?_ ?_
    | with_reducible refine State.unread_fr ?_ ?_
    | with_reducible refine State.wrN_fr ?_ ?_
    | with_reducible refine Fr.ite ?_ ?_
    | with_reducible refine Fr.foldl ?_ _ _ ?_
    | intro _ _ _
    | split
    | refine Fr.mk' ?_)

theorem State.staleDiscard_fr {msk : Nat} {b₀ : State} {s : State} {f : Nat} (h₀ : Fr msk b₀ s) (hm₀ : 4 ||| msk = msk) :
    Fr msk b₀ (State.staleDiscard s f) := by
  refine Fr.step h₀ ?_ hm₀
  clear h₀ hm₀
  unfold State.staleDiscard
  try dsimp only
  repeat' (first
    | with_reducible exact Fr.refl _ _
    | exact (rfl : (_ : Nat) = _)
    | with_reducible refine State.event_fr ?_ ?_
    | with_reducible refine State.count_fr ?_ ?_)

theorem State.staleComplete_fr {msk : Nat} {b₀ : State} {s : State} {src : CmdSrc} (h₀ : Fr msk b₀ s) (hm₀ : 4 ||| msk = msk) :
    Fr msk b₀ (State.staleComplete s src) := by
  refine Fr.step h₀ ?_ hm₀
  clear h₀ hm₀
  unfold State.staleComplete
  try dsimp only
  repeat' (first
    | with_reducible exact Fr.refl _ _
    | with_reducible assumption
    | exact (rfl : (_ : Nat) = _)
    | with_reducible refine State.staleDiscard_fr ?_ ?_
    | dsimp only
    | with_reducible refine Fr.ite ?_ ?_
    | with_reducible refine Fr.ite₁ ?_ ?_
    | with_reducible refine FrS.ite ?_ ?_
    | with_reducible refine FrP.ite ?_ ?_
    | with_reducible exact FrS.none
    | with_reducible refine FrS.some ?_
    | with_reducible refine FrS.map ?_
    | with_reducible exact FrP.none
    | with_reducible refine FrP.some ?_
    | with_reducible refine Fr.elim ?_ ?_
    | with_reducible refine Fr.foldl ?_ _ _ ?_
    | with_reducible refine Fr.foldl₂ ?_ _ _ ?_
    | intro _ _ _ _ _ _
    | intro _ _ _ _ _
    | intro _ _ _ _
    | intro _ _ _
    | intro _ _
    | intro _
    | with_reducible refine Fr.pair (h := ?_) (e := by assumption)
    | with_reducible refine FrO.got (h := ?_) (e := by assumption)
    | with_reducible refine FrS.get (h := ?_) (e := by assumption)
    | with_reducible refine FrP.get (h := ?_) (e := by assumption)
    | split)

theorem State.legacyDone_fr {msk : Nat} {b₀ : State} {s : State} {f : Nat} {tag : Nat} {status : Nat} (h₀ : Fr msk b₀ s) (hm₀ : 2052 ||| msk = msk) :
    Fr msk b₀ (State.legacyDone s f tag status) := by
  refine Fr.step h₀ ?_ hm₀
  clear h₀ hm₀
  unfold State.legacyDone
  try dsimp only
  repeat' (first
    | with_reducible exact Fr.refl _ _
    | exact (rfl : (_ : Nat) = _)
    | with_reducible refine State.wrWin_fr ?_ ?_
    | with_reducible refine State.winBit_fr ?_ ?_
    | with_reducible refine State.count_fr ?_ ?_
    | with_reducible refine State.setFn_fr ?_ ?_)

theorem State.cqPost_fr {msk : Nat} {b₀ : State} {s : State} {f : Nat} {qid : Nat} (h₀ : Fr msk b₀ s) (hm₀ : 2050 ||| msk = msk) :
    Fr msk b₀ (State.cqPost s f qid) := by
  refine Fr.step h₀ ?_ hm₀
  clear h₀ hm₀
  unfold State.cqPost
  try dsimp only
  repeat' (first
    | with_reducible exact Fr.refl _ _
    | with_reducible assumption
    | exact (rfl : (_ : Nat) = _)
    | with_reducible refine State.setFn_fr ?_ ?_
    | with_reducible refine State.postMsix_fr ?_ ?_
    | dsimp only
    | with_reducible refine Fr.ite ?_ ?_
    | with_reducible refine Fr.ite₁ ?_ ?_
    | with_reducible refine FrS.ite ?_ ?_
    | with_reducible refine FrP.ite ?_ ?_
    | with_reducible exact FrS.none
    | with_reducible refine FrS.some ?_
    | with_reducible refine FrS.map ?_
    | with_reducible exact FrP.none
    | with_reducible refine FrP.some ?_
    | with_reducible refine Fr.elim ?_ ?_
    | with_reducible refine Fr.foldl ?_ _ _ ?_
    | with_reducible refine Fr.foldl₂ ?_ _ _ ?_
    | intro _ _ _ _ _ _
    | intro _ _ _ _ _
    | intro _ _ _ _
    | intro _ _ _
    | intro _ _
    | intro _
    | with_reducible refine Fr.pair (h := ?_) (e := by assumption)
    | with_reducible refine FrO.got (h := ?_) (e := by assumption)
    | with_reducible refine FrS.get (h := ?_) (e := by assumption)
    | with_reducible refine FrP.get (h := ?_) (e := by assumption)
    | split)

theorem State.replReply_fr {msk : Nat} {b₀ : State} {s : State} {group : Nat} {kind : Nat} {value : Nat} (h₀ : Fr msk b₀ s) (hm₀ : 2 ||| msk = msk) :
    Fr msk b₀ (State.replReply s group kind value) := by
  refine Fr.step h₀ ?_ hm₀
  clear h₀ hm₀
  unfold State.replReply
  try dsimp only
  repeat' (first
    | with_reducible exact Fr.refl _ _
    | with_reducible assumption
    | exact (rfl : (_ : Nat) = _)
    | with_reducible refine State.emit_fr ?_ ?_
    | dsimp only
    | with_reducible refine Fr.ite ?_ ?_
    | with_reducible refine Fr.ite₁ ?_ ?_
    | with_reducible refine FrS.ite ?_ ?_
    | with_reducible refine FrP.ite ?_ ?_
    | with_reducible exact FrS.none
    | with_reducible refine FrS.some ?_
    | with_reducible refine FrS.map ?_
    | with_reducible exact FrP.none
    | with_reducible refine FrP.some ?_
    | with_reducible refine Fr.elim ?_ ?_
    | with_reducible refine Fr.foldl ?_ _ _ ?_
    | with_reducible refine Fr.foldl₂ ?_ _ _ ?_
    | intro _ _ _ _ _ _
    | intro _ _ _ _ _
    | intro _ _ _ _
    | intro _ _ _
    | intro _ _
    | intro _
    | with_reducible refine Fr.pair (h := ?_) (e := by assumption)
    | with_reducible refine FrO.got (h := ?_) (e := by assumption)
    | with_reducible refine FrS.get (h := ?_) (e := by assumption)
    | with_reducible refine FrP.get (h := ?_) (e := by assumption)
    | split)

theorem State.answer_fr {msk : Nat} {b₀ : State} {s : State} {src : CmdSrc} {status : Nat} {result : Nat} (h₀ : Fr msk b₀ s) (hm₀ : 34822 ||| msk = msk) :
    Fr msk b₀ (State.answer s src status result) := by
  refine Fr.step h₀ ?_ hm₀
  clear h₀ hm₀
  unfold State.answer
  try dsimp only
  repeat' (first
    | with_reducible exact Fr.refl _ _
    | exact (rfl : (_ : Nat) = _)
    | with_reducible refine State.emit_fr ?_ ?_
    | with_reducible refine State.legacyDone_fr ?_ ?_
    | with_reducible refine State.setFn_fr ?_ ?_
    | with_reducible refine State.cqPost_fr ?_ ?_
    | with_reducible refine State.qpSend_fr ?_ ?_
    | with_reducible refine State.tlSend_fr ?_ ?_
    | with_reducible refine Fr.ite ?_ ?_
    | split
    | refine Fr.mk' ?_)

theorem State.complete_fr {msk : Nat} {b₀ : State} {s : State} {n : Nat} {status : Nat} {result : optParam Nat 0} (h₀ : Fr msk b₀ s) (hm₀ : 55302 ||| msk = msk) :
    Fr msk b₀ (State.complete s n status result) := by
  refine Fr.step h₀ ?_ hm₀
  clear h₀ hm₀
  unfold State.complete
  try dsimp only
  repeat' (first
    | with_reducible exact Fr.refl _ _
    | with_reducible assumption
    | exact (rfl : (_ : Nat) = _)
    | with_reducible refine State.dropCmd_fr ?_ ?_
    | with_reducible refine State.endReads_fr ?_ ?_
    | with_reducible refine State.staleComplete_fr ?_ ?_
    | with_reducible refine State.answer_fr ?_ ?_
    | with_reducible refine State.emit_fr ?_ ?_
    | dsimp only
    | with_reducible refine Fr.ite ?_ ?_
    | with_reducible refine Fr.ite₁ ?_ ?_
    | with_reducible refine FrS.ite ?_ ?_
    | with_reducible refine FrP.ite ?_ ?_
    | with_reducible exact FrS.none
    | with_reducible refine FrS.some ?_
    | with_reducible refine FrS.map ?_
    | with_reducible exact FrP.none
    | with_reducible refine FrP.some ?_
    | with_reducible refine Fr.elim ?_ ?_
    | with_reducible refine Fr.foldl ?_ _ _ ?_
    | with_reducible refine Fr.foldl₂ ?_ _ _ ?_
    | intro _ _ _ _ _ _
    | intro _ _ _ _ _
    | intro _ _ _ _
    | intro _ _ _
    | intro _ _
    | intro _
    | with_reducible refine Fr.pair (h := ?_) (e := by assumption)
    | with_reducible refine FrO.got (h := ?_) (e := by assumption)
    | with_reducible refine FrS.get (h := ?_) (e := by assumption)
    | with_reducible refine FrP.get (h := ?_) (e := by assumption)
    | split
    | refine Fr.mk' ?_)

theorem State.completeAll_fr {msk : Nat} {b₀ : State} {s : State} {ns : List Nat} {status : Nat} (h₀ : Fr msk b₀ s) (hm₀ : 55302 ||| msk = msk) :
    Fr msk b₀ (State.completeAll s ns status) := by
  refine Fr.step h₀ ?_ hm₀
  clear h₀ hm₀
  unfold State.completeAll
  try dsimp only
  repeat' (first
    | with_reducible exact Fr.refl _ _
    | with_reducible assumption
    | exact (rfl : (_ : Nat) = _)
    | with_reducible refine State.complete_fr ?_ ?_
    | with_reducible refine Fr.foldl ?_ _ _ ?_
    | intro _ _ _)

end Sys2Proof.Machine
end

