-- ==== Sys2Proof/Laws/FrPages.lean ====
section
/-! SUPPORT. Frames of the operations of Machine.Pages: the parts of State that each may change. -/

set_option maxRecDepth 20000
set_option Elab.async false
set_option linter.unusedTactic false
set_option linter.unreachableTactic false
set_option linter.unusedVariables false

namespace Sys2Proof.Machine

theorem State.pageWrite_fr {msk : Nat} {b₀ : State} {s : State} {p : Nat} {f : State → State} (hf : ∀ t0, Fr msk b₀ t0 → Fr msk b₀ (f t0)) (h₀ : Fr msk b₀ s) (hm₀ : 693062 ||| msk = msk) :
    Fr msk b₀ (State.pageWrite s p f) := by
  unfold State.pageWrite
  try dsimp only
  repeat' (first
    | with_reducible assumption
    | with_reducible refine State.writeDiscarded_fr ?_ ?_
    | with_reducible refine hf _ ?_
    | with_reducible refine Fr.ite ?_ ?_)

theorem execPgUnfreeze_fr {msk : Nat} {b₀ : State} {p : Nat} {s : State} (h₀ : Fr msk b₀ s) (hm₀ : 693062 ||| msk = msk) :
    FrO msk b₀ (execPgUnfreeze p s) := by
  refine FrO.step h₀ ?_ hm₀
  clear h₀ hm₀
  unfold execPgUnfreeze
  try dsimp only
  repeat' (first
    | with_reducible exact Fr.refl _ _
    | with_reducible assumption
    | exact (rfl : (_ : Nat) = _)
    | with_reducible refine State.pageWrite_fr ?_ ?_ ?_
    | with_reducible refine State.putBit_fr ?_ ?_
    | with_reducible refine FrO.next ?_
    | intro _ _)

theorem execPgSoftReset_fr {msk : Nat} {b₀ : State} {p : Nat} {s : State} (h₀ : Fr msk b₀ s) (hm₀ : 693062 ||| msk = msk) :
    FrO msk b₀ (execPgSoftReset p s) := by
  refine FrO.step h₀ ?_ hm₀
  clear h₀ hm₀
  unfold execPgSoftReset
  try dsimp only
  repeat' (first
    | with_reducible exact Fr.refl _ _
    | with_reducible assumption
    | exact (rfl : (_ : Nat) = _)
    | with_reducible refine State.pageWrite_fr ?_ ?_ ?_
    | with_reducible refine State.putBit_fr ?_ ?_
    | with_reducible refine State.writeDiscarded_fr ?_ ?_
    | with_reducible refine Fr.ite ?_ ?_
    | with_reducible refine FrO.next ?_
    | intro _ _)

theorem execEvtArm_fr {msk : Nat} {b₀ : State} {m : DWord} {s : State} (h₀ : Fr msk b₀ s) (hm₀ : 4 ||| msk = msk) :
    FrO msk b₀ (execEvtArm m s) := by
  refine FrO.step h₀ ?_ hm₀
  clear h₀ hm₀
  unfold execEvtArm
  try dsimp only
  repeat' (first
    | with_reducible exact Fr.refl _ _
    | exact (rfl : (_ : Nat) = _)
    | with_reducible refine State.wr64_fr ?_ ?_
    | with_reducible refine FrO.next ?_)

theorem State.setUnits_fr {msk : Nat} {b₀ : State} {s : State} {p : Nat} {st : PState} (h₀ : Fr msk b₀ s) (hm₀ : 4 ||| msk = msk) :
    Fr msk b₀ (State.setUnits s p st) := by
  refine Fr.step h₀ ?_ hm₀
  clear h₀ hm₀
  unfold State.setUnits
  try dsimp only
  repeat' (first
    | with_reducible exact Fr.refl _ _
    | with_reducible assumption
    | exact (rfl : (_ : Nat) = _)
    | with_reducible refine State.putFld_fr ?_ ?_
    | with_reducible refine Fr.ite ?_ ?_
    | with_reducible refine Fr.foldl ?_ _ _ ?_
    | intro _ _ _
    | split)

theorem State.unmapped_fr {msk : Nat} {b₀ : State} {s : State} (h₀ : Fr msk b₀ s) (hm₀ : 693062 ||| msk = msk) :
    Fr msk b₀ (State.unmapped s) := by
  refine Fr.step h₀ ?_ hm₀
  clear h₀ hm₀
  unfold State.unmapped
  try dsimp only
  repeat' (first
    | with_reducible exact Fr.refl _ _
    | exact (rfl : (_ : Nat) = _)
    | with_reducible refine State.raise_fr ?_ ?_)

theorem State.kdeSeen_fr {msk : Nat} {b₀ : State} {s : State} {p : Nat} {path : Nat} (h₀ : Fr msk b₀ s) (hm₀ : 65536 ||| msk = msk) :
    Fr msk b₀ (State.kdeSeen s p path) := by
  refine Fr.step h₀ ?_ hm₀
  clear h₀ hm₀
  unfold State.kdeSeen
  try dsimp only
  repeat' (first
    | with_reducible exact Fr.refl _ _
    | with_reducible assumption
    | exact (rfl : (_ : Nat) = _)
    | dsimp only
    | with_reducible refine Fr.ite ?_ ?_
    | with_reducible refine Fr.ite₁ ?_ ?_
    | with_reducible refine FrS.ite ?_ ?_
    | with_reducible refine FrP.ite ?_ ?_
    | with_reducible exact FrS.none
    | with_reducible refine FrS.some ?_
    | with_reducible refine FrS.map ?_
    | with_reducible exact FrP.none
    | with_reducible refine FrP.some ?_
    | with_reducible refine Fr.elim ?_ ?_
    | with_reducible refine Fr.foldl ?_ _ _ ?_
    | with_reducible refine Fr.foldl₂ ?_ _ _ ?_
    | intro _ _ _ _ _ _
    | intro _ _ _ _ _
    | intro _ _ _ _
    | intro _ _ _
    | intro _ _
    | intro _
    | with_reducible refine Fr.pair (h := ?_) (e := by assumption)
    | with_reducible refine FrO.got (h := ?_) (e := by assumption)
    | with_reducible refine FrS.get (h := ?_) (e := by assumption)
    | with_reducible refine FrP.get (h := ?_) (e := by assumption)
    | split
    | refine Fr.mk' ?_)

theorem State.writeBits_fr {msk : Nat} {b₀ : State} {s : State} {k : Nat} {rw : Word} {rws : Word} {w1c : Word} {v : Word} (h₀ : Fr msk b₀ s) (hm₀ : 12 ||| msk = msk) :
    Fr msk b₀ (State.writeBits s k rw rws w1c v) := by
  refine Fr.step h₀ ?_ hm₀
  clear h₀ hm₀
  unfold State.writeBits
  try dsimp only
  repeat' (first
    | with_reducible exact Fr.refl _ _
    | exact (rfl : (_ : Nat) = _)
    | with_reducible refine State.wr_fr ?_ ?_
    | with_reducible refine Fr.ite ?_ ?_
    | refine Fr.mk' ?_)

theorem State.ownRule_fr {msk : Nat} {b₀ : State} {s : State} {path : Nat} {off : Nat} {v : Word} (h₀ : Fr msk b₀ s) (hm₀ : 693070 ||| msk = msk) :
    FrS msk b₀ (State.ownRule s path off v) := by
  refine FrS.step h₀ ?_ hm₀
  clear h₀ hm₀
  unfold State.ownRule
  try dsimp only
  repeat' (first
    | with_reducible exact Fr.refl _ _
    | exact (rfl : (_ : Nat) = _)
    | with_reducible refine State.writeBits_fr ?_ ?_
    | with_reducible refine State.raise_fr ?_ ?_
    | with_reducible refine State.writeDiscarded_fr ?_ ?_
    | with_reducible refine FrS.ite ?_ ?_
    | with_reducible exact FrS.none
    | with_reducible refine FrS.some ?_
    | split)

theorem State.writePair_fr {msk : Nat} {b₀ : State} {s : State} {row : RegRow} {k : Nat} {hi : Word} (h₀ : Fr msk b₀ s) (hm₀ : 44 ||| msk = msk) :
    Fr msk b₀ (State.writePair s row k hi) := by
  refine Fr.step h₀ ?_ hm₀
  clear h₀ hm₀
  unfold State.writePair
  try dsimp only
  repeat' (first
    | with_reducible exact Fr.refl _ _
    | exact (rfl : (_ : Nat) = _)
    | with_reducible refine State.writeBits_fr ?_ ?_
    | refine Fr.mk' ?_)

theorem State.busWrite_fr {msk : Nat} {b₀ : State} {s0 : State} {off : Nat} {v : Word} {path : optParam Nat 0} (h₀ : Fr msk b₀ s0) (hm₀ : 758638 ||| msk = msk) :
    Fr msk b₀ (State.busWrite s0 off v path) := by
  refine Fr.step h₀ ?_ hm₀
  clear h₀ hm₀
  unfold State.busWrite
  try dsimp only
  repeat' (first
    | with_reducible exact Fr.refl _ _
    | with_reducible assumption
    | exact (rfl : (_ : Nat) = _)
    | with_reducible refine State.unmapped_fr ?_ ?_
    | with_reducible refine State.kdeSeen_fr ?_ ?_
    | with_reducible refine State.writeDiscarded_fr ?_ ?_
    | with_reducible refine State.ownRule_fr ?_ ?_
    | with_reducible refine State.writePair_fr ?_ ?_
    | with_reducible refine State.writeBits_fr ?_ ?_
    | dsimp only
    | with_reducible refine Fr.ite ?_ ?_
    | with_reducible refine Fr.ite₁ ?_ ?_
    | with_reducible refine FrS.ite ?_ ?_
    | with_reducible refine FrP.ite ?_ ?_
    | with_reducible exact FrS.none
    | with_reducible refine FrS.some ?_
    | with_reducible refine FrS.map ?_
    | with_reducible exact FrP.none
    | with_reducible refine FrP.some ?_
    | with_reducible refine Fr.elim ?_ ?_
    | with_reducible refine Fr.foldl ?_ _ _ ?_
    | with_reducible refine Fr.foldl₂ ?_ _ _ ?_
    | intro _ _ _ _ _ _
    | intro _ _ _ _ _
    | intro _ _ _ _
    | intro _ _ _
    | intro _ _
    | intro _
    | with_reducible refine Fr.pair (h := ?_) (e := by assumption)
    | with_reducible refine FrO.got (h := ?_) (e := by assumption)
    | with_reducible refine FrS.get (h := ?_) (e := by assumption)
    | with_reducible refine FrP.get (h := ?_) (e := by assumption)
    | split
    | refine Fr.mk' ?_)

theorem execChipInjEn_fr {msk : Nat} {b₀ : State} {v : Word} {s : State} (h₀ : Fr msk b₀ s) (hm₀ : 693062 ||| msk = msk) :
    FrO msk b₀ (execChipInjEn v s) := by
  refine FrO.step h₀ ?_ hm₀
  clear h₀ hm₀
  unfold execChipInjEn
  try dsimp only
  repeat' (first
    | with_reducible exact Fr.refl _ _
    | exact (rfl : (_ : Nat) = _)
    | with_reducible refine State.record_fr ?_ ?_
    | with_reducible refine State.useFree_fr ?_ ?_
    | with_reducible refine State.wrN_fr ?_ ?_
    | with_reducible refine FrO.ite ?_ ?_
    | with_reducible refine FrO.next ?_)

theorem State.spareShow_fr {msk : Nat} {b₀ : State} {s : State} {p : Nat} (h₀ : Fr msk b₀ s) (hm₀ : 4 ||| msk = msk) :
    Fr msk b₀ (State.spareShow s p) := by
  refine Fr.step h₀ ?_ hm₀
  clear h₀ hm₀
  unfold State.spareShow
  try dsimp only
  repeat' (first
    | with_reducible exact Fr.refl _ _
    | exact (rfl : (_ : Nat) = _)
    | with_reducible refine State.putFld_fr ?_ ?_
    | with_reducible refine State.putBit_fr ?_ ?_
    | with_reducible refine State.wrN_fr ?_ ?_
    | with_reducible refine Fr.ite ?_ ?_)

theorem execInitFail_fr {msk : Nat} {b₀ : State} {p : Nat} {code : Nat} {sub : Nat} {s : State} (h₀ : Fr msk b₀ s) (hm₀ : 693190 ||| msk = msk) :
    FrO msk b₀ (execInitFail p code sub s) := by
  refine FrO.step h₀ ?_ hm₀
  clear h₀ hm₀
  unfold execInitFail
  try dsimp only
  repeat' (first
    | with_reducible exact Fr.refl _ _
    | exact (rfl : (_ : Nat) = _)
    | with_reducible refine State.raise_fr ?_ ?_
    | with_reducible refine Fr.ite ?_ ?_
    | with_reducible refine FrO.next ?_
    | refine Fr.mk' ?_)

theorem State.initComplete_fr {msk : Nat} {b₀ : State} {s : State} {p : Nat} (h₀ : Fr msk b₀ s) (hm₀ : 695238 ||| msk = msk) :
    Fr msk b₀ (State.initComplete s p) := by
  refine Fr.step h₀ ?_ hm₀
  clear h₀ hm₀
  unfold State.initComplete
  try dsimp only
  repeat' (first
    | with_reducible exact Fr.refl _ _
    | exact (rfl : (_ : Nat) = _)
    | with_reducible refine State.raise_fr ?_ ?_
    | with_reducible refine State.useFree_fr ?_ ?_
    | with_reducible refine State.spareShow_fr ?_ ?_
    | with_reducible refine State.setUnits_fr ?_ ?_
    | with_reducible refine State.setPage_fr ?_ ?_
    | with_reducible refine State.putBit_fr ?_ ?_
    | with_reducible refine Fr.ite ?_ ?_
    | refine Fr.mk' ?_)

theorem State.accessBad_fr {msk : Nat} {b₀ : State} {s : State} {off : Nat} {size : Nat} {write : Bool} (h₀ : Fr msk b₀ s) (hm₀ : 693062 ||| msk = msk) :
    Fr msk b₀ (State.accessBad s off size write) := by
  refine Fr.step h₀ ?_ hm₀
  clear h₀ hm₀
  unfold State.accessBad
  try dsimp only
  repeat' (first
    | with_reducible exact Fr.refl _ _
    | with_reducible assumption
    | exact (rfl : (_ : Nat) = _)
    | with_reducible refine State.raise_fr ?_ ?_
    | with_reducible refine State.emit_fr ?_ ?_
    | dsimp only
    | with_reducible refine Fr.ite ?_ ?_
    | with_reducible refine Fr.ite₁ ?_ ?_
    | with_reducible refine FrS.ite ?_ ?_
    | with_reducible refine FrP.ite ?_ ?_
    | with_reducible exact FrS.none
    | with_reducible refine FrS.some ?_
    | with_reducible refine FrS.map ?_
    | with_reducible exact FrP.none
    | with_reducible refine FrP.some ?_
    | with_reducible refine Fr.elim ?_ ?_
    | with_reducible refine Fr.foldl ?_ _ _ ?_
    | with_reducible refine Fr.foldl₂ ?_ _ _ ?_
    | intro _ _ _ _ _ _
    | intro _ _ _ _ _
    | intro _ _ _ _
    | intro _ _ _
    | intro _ _
    | intro _
    | with_reducible refine Fr.pair (h := ?_) (e := by assumption)
    | with_reducible refine FrO.got (h := ?_) (e := by assumption)
    | with_reducible refine FrS.get (h := ?_) (e := by assumption)
    | with_reducible refine FrP.get (h := ?_) (e := by assumption)
    | split)

theorem execPgCommit_fr {msk : Nat} {b₀ : State} {p : Nat} {s : State} (h₀ : Fr msk b₀ s) (hm₀ : 693190 ||| msk = msk) :
    FrO msk b₀ (execPgCommit p s) := by
  refine FrO.step h₀ ?_ hm₀
  clear h₀ hm₀
  unfold execPgCommit
  try dsimp only
  repeat' (first
    | with_reducible exact Fr.refl _ _
    | with_reducible assumption
    | exact (rfl : (_ : Nat) = _)
    | with_reducible refine State.pageWrite_fr ?_ ?_ ?_
    | with_reducible refine State.putBit_fr ?_ ?_
    | with_reducible refine Fr.ite ?_ ?_
    | with_reducible refine FrO.next ?_
    | intro _ _
    | split
    | refine Fr.mk' ?_)

theorem execPgEventForce_fr {msk : Nat} {b₀ : State} {p : Nat} {m : Word} {s : State} (h₀ : Fr msk b₀ s) (hm₀ : 693062 ||| msk = msk) :
    FrO msk b₀ (execPgEventForce p m s) := by
  refine FrO.step h₀ ?_ hm₀
  clear h₀ hm₀
  unfold execPgEventForce
  try dsimp only
  repeat' (first
    | with_reducible exact Fr.refl _ _
    | with_reducible assumption
    | exact (rfl : (_ : Nat) = _)
    | with_reducible refine State.pageWrite_fr ?_ ?_ ?_
    | with_reducible refine State.wr_fr ?_ ?_
    | with_reducible refine FrO.next ?_
    | intro _ _)

theorem execErrRearm_fr {msk : Nat} {b₀ : State} {p : Nat} {s : State} (h₀ : Fr msk b₀ s) (hm₀ : 4 ||| msk = msk) :
    FrO msk b₀ (execErrRearm p s) := by
  refine FrO.step h₀ ?_ hm₀
  clear h₀ hm₀
  unfold execErrRearm
  try dsimp only
  repeat' (first
    | with_reducible exact Fr.refl _ _
    | exact (rfl : (_ : Nat) = _)
    | with_reducible refine State.wr64_fr ?_ ?_
    | with_reducible refine State.wrN_fr ?_ ?_
    | with_reducible refine FrO.next ?_)

theorem State.injectWrite_fr {msk : Nat} {b₀ : State} {s : State} {p : Nat} {v : Word} (h₀ : Fr msk b₀ s) (hm₀ : 693062 ||| msk = msk) :
    Fr msk b₀ (State.injectWrite s p v) := by
  refine Fr.step h₀ ?_ hm₀
  clear h₀ hm₀
  unfold State.injectWrite
  try dsimp only
  repeat' (first
    | with_reducible exact Fr.refl _ _
    | with_reducible assumption
    | exact (rfl : (_ : Nat) = _)
    | with_reducible refine State.writeDiscarded_fr ?_ ?_
    | with_reducible refine State.wrN_fr ?_ ?_
    | with_reducible refine State.wr_fr ?_ ?_
    | dsimp only
    | with_reducible refine Fr.ite ?_ ?_
    | with_reducible refine Fr.ite₁ ?_ ?_
    | with_reducible refine FrS.ite ?_ ?_
    | with_reducible refine FrP.ite ?_ ?_
    | with_reducible exact FrS.none
    | with_reducible refine FrS.some ?_
    | with_reducible refine FrS.map ?_
    | with_reducible exact FrP.none
    | with_reducible refine FrP.some ?_
    | with_reducible refine Fr.elim ?_ ?_
    | with_reducible refine Fr.foldl ?_ _ _ ?_
    | with_reducible refine Fr.foldl₂ ?_ _ _ ?_
    | intro _ _ _ _ _ _
    | intro _ _ _ _ _
    | intro _ _ _ _
    | intro _ _ _
    | intro _ _
    | intro _
    | with_reducible refine Fr.pair (h := ?_) (e := by assumption)
    | with_reducible refine FrO.got (h := ?_) (e := by assumption)
    | with_reducible refine FrS.get (h := ?_) (e := by assumption)
    | with_reducible refine FrP.get (h := ?_) (e := by assumption)
    | split)

theorem execUnmapped_fr {msk : Nat} {b₀ : State} {off : Nat} {write : Bool} {s : State} (h₀ : Fr msk b₀ s) (hm₀ : 693062 ||| msk = msk) :
    FrO msk b₀ (execUnmapped off write s) := by
  refine FrO.step h₀ ?_ hm₀
  clear h₀ hm₀
  unfold execUnmapped
  try dsimp only
  repeat' (first
    | with_reducible exact Fr.refl _ _
    | with_reducible assumption
    | exact (rfl : (_ : Nat) = _)
    | with_reducible refine State.accessBad_fr ?_ ?_
    | with_reducible refine State.unmapped_fr ?_ ?_
    | with_reducible refine State.emit_fr ?_ ?_
    | dsimp only
    | with_reducible refine Fr.ite ?_ ?_
    | with_reducible refine Fr.ite₁ ?_ ?_
    | with_reducible refine FrO.ite ?_ ?_
    | with_reducible refine FrS.ite ?_ ?_
    | with_reducible refine FrP.ite ?_ ?_
    | with_reducible refine FrO.next ?_
    | with_reducible exact FrS.none
    | with_reducible refine FrS.some ?_
    | with_reducible refine FrS.map ?_
    | with_reducible exact FrP.none
    | with_reducible refine FrP.some ?_
    | with_reducible refine Fr.elim ?_ ?_
    | with_reducible refine Fr.foldl ?_ _ _ ?_
    | with_reducible refine Fr.foldl₂ ?_ _ _ ?_
    | intro _ _ _ _ _ _
    | intro _ _ _ _ _
    | intro _ _ _ _
    | intro _ _ _
    | intro _ _
    | intro _
    | with_reducible refine Fr.pair (h := ?_) (e := by assumption)
    | with_reducible refine FrO.got (h := ?_) (e := by assumption)
    | with_reducible refine FrS.get (h := ?_) (e := by assumption)
    | with_reducible refine FrP.get (h := ?_) (e := by assumption)
    | split)

theorem State.pagesMove_fr {msk : Nat} {b₀ : State} {s : State} (h₀ : Fr msk b₀ s) (hm₀ : 695238 ||| msk = msk) :
    Fr msk b₀ (State.pagesMove s) := by
  refine Fr.step h₀ ?_ hm₀
  clear h₀ hm₀
  unfold State.pagesMove
  try dsimp only
  repeat' (first
    | with_reducible exact Fr.refl _ _
    | with_reducible assumption
    | exact (rfl : (_ : Nat) = _)
    | with_reducible refine State.initComplete_fr ?_ ?_
    | with_reducible refine State.setUnits_fr ?_ ?_
    | with_reducible refine State.setPage_fr ?_ ?_
    | dsimp only
    | with_reducible refine Fr.ite ?_ ?_
    | with_reducible refine Fr.ite₁ ?_ ?_
    | with_reducible refine FrS.ite ?_ ?_
    | with_reducible refine FrP.ite ?_ ?_
    | with_reducible exact FrS.none
    | with_reducible refine FrS.some ?_
    | with_reducible refine FrS.map ?_
    | with_reducible exact FrP.none
    | with_reducible refine FrP.some ?_
    | with_reducible refine Fr.elim ?_ ?_
    | with_reducible refine Fr.foldl ?_ _ _ ?_
    | with_reducible refine Fr.foldl₂ ?_ _ _ ?_
    | intro _ _ _ _ _ _
    | intro _ _ _ _ _
    | intro _ _ _ _
    | intro _ _ _
    | intro _ _
    | intro _
    | with_reducible refine Fr.pair (h := ?_) (e := by assumption)
    | with_reducible refine FrO.got (h := ?_) (e := by assumption)
    | with_reducible refine FrS.get (h := ?_) (e := by assumption)
    | with_reducible refine FrP.get (h := ?_) (e := by assumption)
    | split
    | refine Fr.mk' ?_)

theorem execPageParity_fr {msk : Nat} {b₀ : State} {p : Nat} {s : State} (h₀ : Fr msk b₀ s) (hm₀ : 693062 ||| msk = msk) :
    FrO msk b₀ (execPageParity p s) := by
  refine FrO.step h₀ ?_ hm₀
  clear h₀ hm₀
  unfold execPageParity
  try dsimp only
  repeat' (first
    | with_reducible exact Fr.refl _ _
    | exact (rfl : (_ : Nat) = _)
    | with_reducible refine State.raise_fr ?_ ?_
    | with_reducible refine FrO.next ?_)

theorem execPgDisable_fr {msk : Nat} {b₀ : State} {p : Nat} {s : State} (h₀ : Fr msk b₀ s) (hm₀ : 693062 ||| msk = msk) :
    FrO msk b₀ (execPgDisable p s) := by
  refine FrO.step h₀ ?_ hm₀
  clear h₀ hm₀
  unfold execPgDisable
  try dsimp only
  repeat' (first
    | with_reducible exact Fr.refl _ _
    | with_reducible assumption
    | exact (rfl : (_ : Nat) = _)
    | with_reducible refine State.pageWrite_fr ?_ ?_ ?_
    | with_reducible refine State.putBit_fr ?_ ?_
    | with_reducible refine FrO.next ?_
    | intro _ _)

theorem State.windowWrite_fr {msk : Nat} {b₀ : State} {s : State} {f : Nat} {o : Nat} {v : Word} (h₀ : Fr msk b₀ s) (hm₀ : 2048 ||| msk = msk) :
    Fr msk b₀ (State.windowWrite s f o v) := by
  refine Fr.step h₀ ?_ hm₀
  clear h₀ hm₀
  unfold State.windowWrite
  try dsimp only
  repeat' (first
    | with_reducible exact Fr.refl _ _
    | exact (rfl : (_ : Nat) = _)
    | with_reducible refine State.wrWin_fr ?_ ?_
    | with_reducible refine Fr.ite ?_ ?_)

theorem execPageDrained_fr {msk : Nat} {b₀ : State} {p : Nat} {s : State} (h₀ : Fr msk b₀ s) (hm₀ : 128 ||| msk = msk) :
    FrO msk b₀ (execPageDrained p s) := by
  refine FrO.step h₀ ?_ hm₀
  clear h₀ hm₀
  unfold execPageDrained
  try dsimp only
  repeat' (first
    | with_reducible exact Fr.refl _ _
    | with_reducible assumption
    | exact (rfl : (_ : Nat) = _)
    | dsimp only
    | with_reducible refine Fr.ite ?_ ?_
    | with_reducible refine Fr.ite₁ ?_ ?_
    | with_reducible refine FrO.ite ?_ ?_
    | with_reducible refine FrS.ite ?_ ?_
    | with_reducible refine FrP.ite ?_ ?_
    | with_reducible refine FrO.next ?_
    | with_reducible exact FrS.none
    | with_reducible refine FrS.some ?_
    | with_reducible refine FrS.map ?_
    | with_reducible exact FrP.none
    | with_reducible refine FrP.some ?_
    | with_reducible refine Fr.elim ?_ ?_
    | with_reducible refine Fr.foldl ?_ _ _ ?_
    | with_reducible refine Fr.foldl₂ ?_ _ _ ?_
    | intro _ _ _ _ _ _
    | intro _ _ _ _ _
    | intro _ _ _ _
    | intro _ _ _
    | intro _ _
    | intro _
    | with_reducible refine Fr.pair (h := ?_) (e := by assumption)
    | with_reducible refine FrO.got (h := ?_) (e := by assumption)
    | with_reducible refine FrS.get (h := ?_) (e := by assumption)
    | with_reducible refine FrP.get (h := ?_) (e := by assumption)
    | split
    | refine Fr.mk' ?_)

theorem execInitTimeout_fr {msk : Nat} {b₀ : State} {p : Nat} {s : State} (h₀ : Fr msk b₀ s) (hm₀ : 693190 ||| msk = msk) :
    FrO msk b₀ (execInitTimeout p s) := by
  refine FrO.step h₀ ?_ hm₀
  clear h₀ hm₀
  unfold execInitTimeout
  try dsimp only
  repeat' (first
    | with_reducible exact Fr.refl _ _
    | exact (rfl : (_ : Nat) = _)
    | with_reducible refine State.raise_fr ?_ ?_
    | with_reducible refine State.useFree_fr ?_ ?_
    | with_reducible refine Fr.ite ?_ ?_
    | with_reducible refine FrO.next ?_
    | refine Fr.mk' ?_)

theorem execPgFreeze_fr {msk : Nat} {b₀ : State} {p : Nat} {s : State} (h₀ : Fr msk b₀ s) (hm₀ : 693062 ||| msk = msk) :
    FrO msk b₀ (execPgFreeze p s) := by
  refine FrO.step h₀ ?_ hm₀
  clear h₀ hm₀
  unfold execPgFreeze
  try dsimp only
  repeat' (first
    | with_reducible exact Fr.refl _ _
    | with_reducible assumption
    | exact (rfl : (_ : Nat) = _)
    | with_reducible refine State.pageWrite_fr ?_ ?_ ?_
    | with_reducible refine State.putBit_fr ?_ ?_
    | with_reducible refine FrO.next ?_
    | intro _ _)

theorem execPgEnable_fr {msk : Nat} {b₀ : State} {p : Nat} {s : State} (h₀ : Fr msk b₀ s) (hm₀ : 693062 ||| msk = msk) :
    FrO msk b₀ (execPgEnable p s) := by
  refine FrO.step h₀ ?_ hm₀
  clear h₀ hm₀
  unfold execPgEnable
  try dsimp only
  repeat' (first
    | with_reducible exact Fr.refl _ _
    | with_reducible assumption
    | exact (rfl : (_ : Nat) = _)
    | with_reducible refine State.pageWrite_fr ?_ ?_ ?_
    | with_reducible refine State.putBit_fr ?_ ?_
    | with_reducible refine FrO.next ?_
    | intro _ _)

theorem execInitComplete_fr {msk : Nat} {b₀ : State} {p : Nat} {s : State} (h₀ : Fr msk b₀ s) (hm₀ : 128 ||| msk = msk) :
    FrO msk b₀ (execInitComplete p s) := by
  refine FrO.step h₀ ?_ hm₀
  clear h₀ hm₀
  unfold execInitComplete
  try dsimp only
  repeat' (first
    | with_reducible exact Fr.refl _ _
    | with_reducible assumption
    | exact (rfl : (_ : Nat) = _)
    | dsimp only
    | with_reducible refine Fr.ite ?_ ?_
    | with_reducible refine Fr.ite₁ ?_ ?_
    | with_reducible refine FrO.ite ?_ ?_
    | with_reducible refine FrS.ite ?_ ?_
    | with_reducible refine FrP.ite ?_ ?_
    | with_reducible refine FrO.next ?_
    | with_reducible exact FrS.none
    | with_reducible refine FrS.some ?_
    | with_reducible refine FrS.map ?_
    | with_reducible exact FrP.none
    | with_reducible refine FrP.some ?_
    | with_reducible refine Fr.elim ?_ ?_
    | with_reducible refine Fr.foldl ?_ _ _ ?_
    | with_reducible refine Fr.foldl₂ ?_ _ _ ?_
    | intro _ _ _ _ _ _
    | intro _ _ _ _ _
    | intro _ _ _ _
    | intro _ _ _
    | intro _ _
    | intro _
    | with_reducible refine Fr.pair (h := ?_) (e := by assumption)
    | with_reducible refine FrO.got (h := ?_) (e := by assumption)
    | with_reducible refine FrS.get (h := ?_) (e := by assumption)
    | with_reducible refine FrP.get (h := ?_) (e := by assumption)
    | split
    | refine Fr.mk' ?_)

theorem execInjectDisarm_fr {msk : Nat} {b₀ : State} {p : Nat} {s : State} (h₀ : Fr msk b₀ s) (hm₀ : 693062 ||| msk = msk) :
    FrO msk b₀ (execInjectDisarm p s) := by
  refine FrO.step h₀ ?_ hm₀
  clear h₀ hm₀
  unfold execInjectDisarm
  try dsimp only
  repeat' (first
    | with_reducible exact Fr.refl _ _
    | with_reducible assumption
    | exact (rfl : (_ : Nat) = _)
    | with_reducible refine State.pageWrite_fr ?_ ?_ ?_
    | with_reducible refine State.injectWrite_fr ?_ ?_
    | dsimp only
    | with_reducible refine Fr.ite ?_ ?_
    | with_reducible refine Fr.ite₁ ?_ ?_
    | with_reducible refine FrO.ite ?_ ?_
    | with_reducible refine FrS.ite ?_ ?_
    | with_reducible refine FrP.ite ?_ ?_
    | with_reducible refine FrO.next ?_
    | with_reducible exact FrS.none
    | with_reducible refine FrS.some ?_
    | with_reducible refine FrS.map ?_
    | with_reducible exact FrP.none
    | with_reducible refine FrP.some ?_
    | with_reducible refine Fr.elim ?_ ?_
    | with_reducible refine Fr.foldl ?_ _ _ ?_
    | with_reducible refine Fr.foldl₂ ?_ _ _ ?_
    | intro _ _ _ _ _ _
    | intro _ _ _ _ _
    | intro _ _ _ _
    | intro _ _ _
    | intro _ _
    | intro _
    | with_reducible refine Fr.pair (h := ?_) (e := by assumption)
    | with_reducible refine FrO.got (h := ?_) (e := by assumption)
    | with_reducible refine FrS.get (h := ?_) (e := by assumption)
    | with_reducible refine FrP.get (h := ?_) (e := by assumption)
    | split)

theorem execInjectArm_fr {msk : Nat} {b₀ : State} {p : Nat} {w : Word} {s : State} (h₀ : Fr msk b₀ s) (hm₀ : 693062 ||| msk = msk) :
    FrO msk b₀ (execInjectArm p w s) := by
  refine FrO.step h₀ ?_ hm₀
  clear h₀ hm₀
  unfold execInjectArm
  try dsimp only
  repeat' (first
    | with_reducible exact Fr.refl _ _
    | with_reducible assumption
    | exact (rfl : (_ : Nat) = _)
    | with_reducible refine State.pageWrite_fr ?_ ?_ ?_
    | with_reducible refine State.injectWrite_fr ?_ ?_
    | dsimp only
    | with_reducible refine Fr.ite ?_ ?_
    | with_reducible refine Fr.ite₁ ?_ ?_
    | with_reducible refine FrO.ite ?_ ?_
    | with_reducible refine FrS.ite ?_ ?_
    | with_reducible refine FrP.ite ?_ ?_
    | with_reducible refine FrO.next ?_
    | with_reducible exact FrS.none
    | with_reducible refine FrS.some ?_
    | with_reducible refine FrS.map ?_
    | with_reducible exact FrP.none
    | with_reducible refine FrP.some ?_
    | with_reducible refine Fr.elim ?_ ?_
    | with_reducible refine Fr.foldl ?_ _ _ ?_
    | with_reducible refine Fr.foldl₂ ?_ _ _ ?_
    | intro _ _ _ _ _ _
    | intro _ _ _ _ _
    | intro _ _ _ _
    | intro _ _ _
    | intro _ _
    | intro _
    | with_reducible refine Fr.pair (h := ?_) (e := by assumption)
    | with_reducible refine FrO.got (h := ?_) (e := by assumption)
    | with_reducible refine FrS.get (h := ?_) (e := by assumption)
    | with_reducible refine FrP.get (h := ?_) (e := by assumption)
    | split)

end Sys2Proof.Machine
end

