-- ==== Sys2Proof/Laws/FrCam.lean ====
section
/-! SUPPORT. Frames of the operations of Machine.Cam: the parts of State that each may change. -/

set_option maxRecDepth 20000
set_option Elab.async false
set_option linter.unusedTactic false
set_option linter.unreachableTactic false
set_option linter.unusedVariables false

namespace Sys2Proof.Machine

theorem State.camParity_fr {msk : Nat} {b₀ : State} {s : State} {k : Nat} {injected : Bool} (h₀ : Fr msk b₀ s) (hm₀ : 701254 ||| msk = msk) :
    Fr msk b₀ (State.camParity s k injected) := by
  refine Fr.step h₀ ?_ hm₀
  clear h₀ hm₀
  unfold State.camParity
  try dsimp only
  repeat' (first
    | with_reducible exact Fr.refl _ _
    | exact (rfl : (_ : Nat) = _)
    | with_reducible refine State.event_fr ?_ ?_
    | with_reducible refine State.count_fr ?_ ?_
    | with_reducible refine State.setCam_fr ?_ ?_
    | with_reducible refine State.raise_fr ?_ ?_)

theorem State.camFound_fr {msk : Nat} {b₀ : State} {s : State} {g : Nat} {mask : Nat} {key : Nat} {incl : Bool} {bad : List Nat} (h₀ : Fr msk b₀ s) (hm₀ : 701254 ||| msk = msk) :
    Fr msk b₀ (State.camFound s g mask key incl bad).1 := by
  refine Fr.step h₀ ?_ hm₀
  clear h₀ hm₀
  unfold State.camFound
  try dsimp only
  repeat' (first
    | with_reducible exact Fr.refl _ _
    | with_reducible assumption
    | exact (rfl : (_ : Nat) = _)
    | with_reducible refine State.camParity_fr ?_ ?_
    | with_reducible refine State.fired_fr ?_ ?_
    | dsimp only
    | with_reducible refine Fr.ite ?_ ?_
    | with_reducible refine Fr.ite₁ ?_ ?_
    | with_reducible refine FrS.ite ?_ ?_
    | with_reducible refine FrP.ite ?_ ?_
    | with_reducible exact FrS.none
    | with_reducible refine FrS.some ?_
    | with_reducible refine FrS.map ?_
    | with_reducible exact FrP.none
    | with_reducible refine FrP.some ?_
    | with_reducible refine Fr.elim ?_ ?_
    | with_reducible refine Fr.foldl ?_ _ _ ?_
    | with_reducible refine Fr.foldl₂ ?_ _ _ ?_
    | intro _ _ _ _ _ _
    | intro _ _ _ _ _
    | intro _ _ _ _
    | intro _ _ _
    | intro _ _
    | intro _
    | with_reducible refine Fr.pair (h := ?_) (e := by assumption)
    | with_reducible refine FrO.got (h := ?_) (e := by assumption)
    | with_reducible refine FrS.get (h := ?_) (e := by assumption)
    | with_reducible refine FrP.get (h := ?_) (e := by assumption)
    | split)

theorem State.countSearch_fr {msk : Nat} {b₀ : State} {s : State} {g : Nat} {n : Nat} {hits : Nat} (h₀ : Fr msk b₀ s) (hm₀ : 4 ||| msk = msk) :
    Fr msk b₀ (State.countSearch s g n hits) := by
  refine Fr.step h₀ ?_ hm₀
  clear h₀ hm₀
  unfold State.countSearch
  try dsimp only
  repeat' (first
    | with_reducible exact Fr.refl _ _
    | with_reducible assumption
    | exact (rfl : (_ : Nat) = _)
    | with_reducible refine State.countBy_fr ?_ ?_
    | dsimp only
    | with_reducible refine Fr.ite ?_ ?_
    | with_reducible refine Fr.ite₁ ?_ ?_
    | with_reducible refine FrS.ite ?_ ?_
    | with_reducible refine FrP.ite ?_ ?_
    | with_reducible exact FrS.none
    | with_reducible refine FrS.some ?_
    | with_reducible refine FrS.map ?_
    | with_reducible exact FrP.none
    | with_reducible refine FrP.some ?_
    | with_reducible refine Fr.elim ?_ ?_
    | with_reducible refine Fr.foldl ?_ _ _ ?_
    | with_reducible refine Fr.foldl₂ ?_ _ _ ?_
    | intro _ _ _ _ _ _
    | intro _ _ _ _ _
    | intro _ _ _ _
    | intro _ _ _
    | intro _ _
    | intro _
    | with_reducible refine Fr.pair (h := ?_) (e := by assumption)
    | with_reducible refine FrO.got (h := ?_) (e := by assumption)
    | with_reducible refine FrS.get (h := ?_) (e := by assumption)
    | with_reducible refine FrP.get (h := ?_) (e := by assumption)
    | split)

theorem State.camFires_fr {msk : Nat} {b₀ : State} {s : State} {k : Nat} (h₀ : Fr msk b₀ s) (hm₀ : 4 ||| msk = msk) :
    Fr msk b₀ (State.camFires s k).1 := by
  refine Fr.step h₀ ?_ hm₀
  clear h₀ hm₀
  unfold State.camFires
  try dsimp only
  repeat' (first
    | with_reducible exact Fr.refl _ _
    | with_reducible assumption
    | exact (rfl : (_ : Nat) = _)
    | with_reducible refine State.fired_fr ?_ ?_
    | dsimp only
    | with_reducible refine Fr.ite ?_ ?_
    | with_reducible refine Fr.ite₁ ?_ ?_
    | with_reducible refine FrS.ite ?_ ?_
    | with_reducible refine FrP.ite ?_ ?_
    | with_reducible exact FrS.none
    | with_reducible refine FrS.some ?_
    | with_reducible refine FrS.map ?_
    | with_reducible exact FrP.none
    | with_reducible refine FrP.some ?_
    | with_reducible refine Fr.elim ?_ ?_
    | with_reducible refine Fr.foldl ?_ _ _ ?_
    | with_reducible refine Fr.foldl₂ ?_ _ _ ?_
    | intro _ _ _ _ _ _
    | intro _ _ _ _ _
    | intro _ _ _ _
    | intro _ _ _
    | intro _ _
    | intro _
    | with_reducible refine Fr.pair (h := ?_) (e := by assumption)
    | with_reducible refine FrO.got (h := ?_) (e := by assumption)
    | with_reducible refine FrS.get (h := ?_) (e := by assumption)
    | with_reducible refine FrP.get (h := ?_) (e := by assumption)
    | split)

theorem execCamScrub_fr {msk : Nat} {b₀ : State} {bank : Nat} {u : Nat} {s : State} (h₀ : Fr msk b₀ s) (hm₀ : 701254 ||| msk = msk) :
    FrO msk b₀ (execCamScrub bank u s) := by
  refine FrO.step h₀ ?_ hm₀
  clear h₀ hm₀
  unfold execCamScrub
  try dsimp only
  repeat' (first
    | with_reducible exact Fr.refl _ _
    | with_reducible assumption
    | exact (rfl : (_ : Nat) = _)
    | with_reducible refine State.camFires_fr ?_ ?_
    | with_reducible refine State.camParity_fr ?_ ?_
    | dsimp only
    | with_reducible refine Fr.ite ?_ ?_
    | with_reducible refine Fr.ite₁ ?_ ?_
    | with_reducible refine FrO.ite ?_ ?_
    | with_reducible refine FrS.ite ?_ ?_
    | with_reducible refine FrP.ite ?_ ?_
    | with_reducible refine FrO.next ?_
    | with_reducible exact FrS.none
    | with_reducible refine FrS.some ?_
    | with_reducible refine FrS.map ?_
    | with_reducible exact FrP.none
    | with_reducible refine FrP.some ?_
    | with_reducible refine Fr.elim ?_ ?_
    | with_reducible refine Fr.foldl ?_ _ _ ?_
    | with_reducible refine Fr.foldl₂ ?_ _ _ ?_
    | intro _ _ _ _ _ _
    | intro _ _ _ _ _
    | intro _ _ _ _
    | intro _ _ _
    | intro _ _
    | intro _
    | with_reducible refine Fr.pair (h := ?_) (e := by assumption)
    | with_reducible refine FrO.got (h := ?_) (e := by assumption)
    | with_reducible refine FrS.get (h := ?_) (e := by assumption)
    | with_reducible refine FrP.get (h := ?_) (e := by assumption)
    | split)

theorem State.camStatus_fr {msk : Nat} {b₀ : State} {s : State} {n : Nat} {code : Nat} {hit : Bool} {multi : Bool} (h₀ : Fr msk b₀ s) (hm₀ : 4 ||| msk = msk) :
    Fr msk b₀ (State.camStatus s n code hit multi) := by
  refine Fr.step h₀ ?_ hm₀
  clear h₀ hm₀
  unfold State.camStatus
  try dsimp only
  repeat' (first
    | with_reducible exact Fr.refl _ _
    | exact (rfl : (_ : Nat) = _)
    | with_reducible refine State.event_fr ?_ ?_
    | with_reducible refine State.wrN_fr ?_ ?_)

theorem State.falseMiss_fr {msk : Nat} {b₀ : State} {s : State} {cseq : Nat} {injected : Bool} (h₀ : Fr msk b₀ s) (hm₀ : 701254 ||| msk = msk) :
    Fr msk b₀ (State.falseMiss s cseq injected) := by
  refine Fr.step h₀ ?_ hm₀
  clear h₀ hm₀
  unfold State.falseMiss
  try dsimp only
  repeat' (first
    | with_reducible exact Fr.refl _ _
    | exact (rfl : (_ : Nat) = _)
    | with_reducible refine State.raise_fr ?_ ?_
    | with_reducible refine State.event_fr ?_ ?_
    | with_reducible refine State.setCam_fr ?_ ?_
    | split)

theorem State.inflight_fr {msk : Nat} {b₀ : State} {s : State} {vol : Nat} {block : Nat} {incl : Bool} {miss : List Nat} {bad : List Nat} (h₀ : Fr msk b₀ s) (hm₀ : 701254 ||| msk = msk) :
    Fr msk b₀ (State.inflight s vol block incl miss bad).1 := by
  refine Fr.step h₀ ?_ hm₀
  clear h₀ hm₀
  unfold State.inflight
  try dsimp only
  repeat' (first
    | with_reducible exact Fr.refl _ _
    | with_reducible assumption
    | exact (rfl : (_ : Nat) = _)
    | with_reducible refine State.camFound_fr ?_ ?_
    | with_reducible refine State.fired_fr ?_ ?_
    | with_reducible refine State.countSearch_fr ?_ ?_
    | with_reducible refine State.falseMiss_fr ?_ ?_
    | dsimp only
    | with_reducible refine Fr.ite ?_ ?_
    | with_reducible refine Fr.ite₁ ?_ ?_
    | with_reducible refine FrS.ite ?_ ?_
    | with_reducible refine FrP.ite ?_ ?_
    | with_reducible exact FrS.none
    | with_reducible refine FrS.some ?_
    | with_reducible refine FrS.map ?_
    | with_reducible exact FrP.none
    | with_reducible refine FrP.some ?_
    | with_reducible refine Fr.elim ?_ ?_
    | with_reducible refine Fr.foldl ?_ _ _ ?_
    | with_reducible refine Fr.foldl₂ ?_ _ _ ?_
    | intro _ _ _ _ _ _
    | intro _ _ _ _ _
    | intro _ _ _ _
    | intro _ _ _
    | intro _ _
    | intro _
    | with_reducible refine Fr.pair (h := ?_) (e := by assumption)
    | with_reducible refine FrO.got (h := ?_) (e := by assumption)
    | with_reducible refine FrS.get (h := ?_) (e := by assumption)
    | with_reducible refine FrP.get (h := ?_) (e := by assumption)
    | split)

theorem State.camTaken_fr {msk : Nat} {b₀ : State} {s : State} {n : Nat} (h₀ : Fr msk b₀ s) (hm₀ : 8192 ||| msk = msk) :
    Fr msk b₀ (State.camTaken s n) := by
  refine Fr.step h₀ ?_ hm₀
  clear h₀ hm₀
  unfold State.camTaken
  try dsimp only
  repeat' (first
    | with_reducible exact Fr.refl _ _
    | with_reducible assumption
    | exact (rfl : (_ : Nat) = _)
    | dsimp only
    | with_reducible refine Fr.ite ?_ ?_
    | with_reducible refine Fr.ite₁ ?_ ?_
    | with_reducible refine FrS.ite ?_ ?_
    | with_reducible refine FrP.ite ?_ ?_
    | with_reducible exact FrS.none
    | with_reducible refine FrS.some ?_
    | with_reducible refine FrS.map ?_
    | with_reducible exact FrP.none
    | with_reducible refine FrP.some ?_
    | with_reducible refine Fr.elim ?_ ?_
    | with_reducible refine Fr.foldl ?_ _ _ ?_
    | with_reducible refine Fr.foldl₂ ?_ _ _ ?_
    | intro _ _ _ _ _ _
    | intro _ _ _ _ _
    | intro _ _ _ _
    | intro _ _ _
    | intro _ _
    | intro _
    | with_reducible refine Fr.pair (h := ?_) (e := by assumption)
    | with_reducible refine FrO.got (h := ?_) (e := by assumption)
    | with_reducible refine FrS.get (h := ?_) (e := by assumption)
    | with_reducible refine FrP.get (h := ?_) (e := by assumption)
    | split
    | refine Fr.mk' ?_)

theorem State.camOp_fr {msk : Nat} {b₀ : State} {s : State} {n : Nat} {f : State → State} (hf : ∀ t0, Fr msk b₀ t0 → Fr msk b₀ (f t0)) (h₀ : Fr msk b₀ s) (hm₀ : 701254 ||| msk = msk) :
    Fr msk b₀ (State.camOp s n f) := by
  unfold State.camOp
  try dsimp only
  repeat' (first
    | with_reducible exact Fr.refl _ _
    | with_reducible assumption
    | exact Fr.sub rfl hm₀
    | with_reducible refine State.pageWrite_fr ?_ ?_ ?_
    | with_reducible refine State.writeDiscarded_fr ?_ ?_
    | with_reducible refine State.useFree_fr ?_ ?_
    | with_reducible refine State.camTaken_fr ?_ ?_
    | with_reducible refine hf _ ?_
    | dsimp only
    | with_reducible refine Fr.ite ?_ ?_
    | with_reducible refine Fr.ite₁ ?_ ?_
    | with_reducible refine FrS.ite ?_ ?_
    | with_reducible refine FrP.ite ?_ ?_
    | with_reducible exact FrS.none
    | with_reducible refine FrS.some ?_
    | with_reducible refine FrS.map ?_
    | with_reducible exact FrP.none
    | with_reducible refine FrP.some ?_
    | with_reducible refine Fr.elim ?_ ?_
    | with_reducible refine Fr.foldl ?_ _ _ ?_
    | with_reducible refine Fr.foldl₂ ?_ _ _ ?_
    | intro _ _ _ _ _ _
    | intro _ _ _ _ _
    | intro _ _ _ _
    | intro _ _ _
    | intro _ _
    | intro _
    | with_reducible refine Fr.pair (h := ?_) (e := by assumption)
    | with_reducible refine FrO.got (h := ?_) (e := by assumption)
    | with_reducible refine FrS.get (h := ?_) (e := by assumption)
    | with_reducible refine FrP.get (h := ?_) (e := by assumption)
    | split)

theorem State.camRefuse_fr {msk : Nat} {b₀ : State} {s : State} {n : Nat} {code : Nat} (h₀ : Fr msk b₀ s) (hm₀ : 693062 ||| msk = msk) :
    Fr msk b₀ (State.camRefuse s n code) := by
  refine Fr.step h₀ ?_ hm₀
  clear h₀ hm₀
  unfold State.camRefuse
  try dsimp only
  repeat' (first
    | with_reducible exact Fr.refl _ _
    | exact (rfl : (_ : Nat) = _)
    | with_reducible refine State.raise_fr ?_ ?_
    | with_reducible refine State.camStatus_fr ?_ ?_)

theorem State.camUpdate_fr {msk : Nat} {b₀ : State} {s : State} {n : Nat} {f : Nat → State → State} (hf : ∀ t0 t1, Fr msk b₀ t1 → Fr msk b₀ (f t0 t1)) (h₀ : Fr msk b₀ s) (hm₀ : 701254 ||| msk = msk) :
    Fr msk b₀ (State.camUpdate s n f) := by
  unfold State.camUpdate
  try dsimp only
  repeat' (first
    | with_reducible exact Fr.refl _ _
    | with_reducible assumption
    | exact Fr.sub rfl hm₀
    | with_reducible refine State.camOp_fr ?_ ?_ ?_
    | with_reducible refine State.camRefuse_fr ?_ ?_
    | with_reducible refine hf _ _ ?_
    | dsimp only
    | with_reducible refine Fr.ite ?_ ?_
    | with_reducible refine Fr.ite₁ ?_ ?_
    | with_reducible refine FrS.ite ?_ ?_
    | with_reducible refine FrP.ite ?_ ?_
    | with_reducible exact FrS.none
    | with_reducible refine FrS.some ?_
    | with_reducible refine FrS.map ?_
    | with_reducible exact FrP.none
    | with_reducible refine FrP.some ?_
    | with_reducible refine Fr.elim ?_ ?_
    | with_reducible refine Fr.foldl ?_ _ _ ?_
    | with_reducible refine Fr.foldl₂ ?_ _ _ ?_
    | intro _ _ _ _ _ _
    | intro _ _ _ _ _
    | intro _ _ _ _
    | intro _ _ _
    | intro _ _
    | intro _
    | with_reducible refine Fr.pair (h := ?_) (e := by assumption)
    | with_reducible refine FrO.got (h := ?_) (e := by assumption)
    | with_reducible refine FrS.get (h := ?_) (e := by assumption)
    | with_reducible refine FrP.get (h := ?_) (e := by assumption)
    | split)

theorem State.camShadow_fr {msk : Nat} {b₀ : State} {s : State} {k : Nat} (h₀ : Fr msk b₀ s) (hm₀ : 8192 ||| msk = msk) :
    Fr msk b₀ (State.camShadow s k) := by
  refine Fr.step h₀ ?_ hm₀
  clear h₀ hm₀
  unfold State.camShadow
  try dsimp only
  repeat' (first
    | with_reducible exact Fr.refl _ _
    | with_reducible refine Fr.ite ?_ ?_
    | refine Fr.mk' ?_)

theorem execCamInvalidate_fr {msk : Nat} {b₀ : State} {n : Nat} {s : State} (h₀ : Fr msk b₀ s) (hm₀ : 701254 ||| msk = msk) :
    FrO msk b₀ (execCamInvalidate n s) := by
  refine FrO.step h₀ ?_ hm₀
  clear h₀ hm₀
  unfold execCamInvalidate
  try dsimp only
  repeat' (first
    | with_reducible exact Fr.refl _ _
    | with_reducible assumption
    | exact (rfl : (_ : Nat) = _)
    | with_reducible refine State.camUpdate_fr ?_ ?_ ?_
    | with_reducible refine State.camStatus_fr ?_ ?_
    | with_reducible refine State.camShadow_fr ?_ ?_
    | with_reducible refine State.setCam_fr ?_ ?_
    | with_reducible refine FrO.next ?_
    | intro _ _ _)

theorem State.camPendingValid_fr {msk : Nat} {b₀ : State} {s : State} (h₀ : Fr msk b₀ s) (hm₀ : 8192 ||| msk = msk) :
    Fr msk b₀ (State.camPendingValid s) := by
  refine Fr.step h₀ ?_ hm₀
  clear h₀ hm₀
  unfold State.camPendingValid
  try dsimp only
  repeat' (first
    | with_reducible exact Fr.refl _ _
    | refine Fr.mk' ?_)

theorem execCamUpdateResult_fr {msk : Nat} {b₀ : State} {n : Nat} {s : State} (h₀ : Fr msk b₀ s) (hm₀ : 701254 ||| msk = msk) :
    FrO msk b₀ (execCamUpdateResult n s) := by
  refine FrO.step h₀ ?_ hm₀
  clear h₀ hm₀
  unfold execCamUpdateResult
  try dsimp only
  repeat' (first
    | with_reducible exact Fr.refl _ _
    | with_reducible assumption
    | exact (rfl : (_ : Nat) = _)
    | with_reducible refine State.camUpdate_fr ?_ ?_ ?_
    | with_reducible refine State.camStatus_fr ?_ ?_
    | with_reducible refine State.camShadow_fr ?_ ?_
    | with_reducible refine State.setCam_fr ?_ ?_
    | with_reducible refine FrO.next ?_
    | intro _ _ _)

theorem State.camAnswer_fr {msk : Nat} {b₀ : State} {s : State} {n : Nat} {all : List (Nat × CamEntry)} {win : Option (Nat × CamEntry)} (h₀ : Fr msk b₀ s) (hm₀ : 8196 ||| msk = msk) :
    Fr msk b₀ (State.camAnswer s n all win) := by
  refine Fr.step h₀ ?_ hm₀
  clear h₀ hm₀
  unfold State.camAnswer
  try dsimp only
  repeat' (first
    | with_reducible exact Fr.refl _ _
    | exact (rfl : (_ : Nat) = _)
    | with_reducible refine State.wrN_fr ?_ ?_
    | with_reducible refine State.wr64_fr ?_ ?_
    | with_reducible refine State.camStatus_fr ?_ ?_
    | with_reducible refine State.event_fr ?_ ?_
    | with_reducible refine Fr.ite ?_ ?_
    | split
    | refine Fr.mk' ?_)

theorem execCamSearch_fr {msk : Nat} {b₀ : State} {n : Nat} {incl : Bool} {maskSet : Nat} {bad : List Nat} {s : State} (h₀ : Fr msk b₀ s) (hm₀ : 701254 ||| msk = msk) :
    FrO msk b₀ (execCamSearch n incl maskSet bad s) := by
  refine FrO.step h₀ ?_ hm₀
  clear h₀ hm₀
  unfold execCamSearch
  try dsimp only
  repeat' (first
    | with_reducible exact Fr.refl _ _
    | with_reducible assumption
    | exact (rfl : (_ : Nat) = _)
    | with_reducible refine State.camOp_fr ?_ ?_ ?_
    | with_reducible refine State.camFound_fr ?_ ?_
    | with_reducible refine State.camAnswer_fr ?_ ?_
    | dsimp only
    | with_reducible refine Fr.ite ?_ ?_
    | with_reducible refine Fr.ite₁ ?_ ?_
    | with_reducible refine FrO.ite ?_ ?_
    | with_reducible refine FrS.ite ?_ ?_
    | with_reducible refine FrP.ite ?_ ?_
    | with_reducible refine FrO.next ?_
    | with_reducible exact FrS.none
    | with_reducible refine FrS.some ?_
    | with_reducible refine FrS.map ?_
    | with_reducible exact FrP.none
    | with_reducible refine FrP.some ?_
    | with_reducible refine Fr.elim ?_ ?_
    | with_reducible refine Fr.foldl ?_ _ _ ?_
    | with_reducible refine Fr.foldl₂ ?_ _ _ ?_
    | intro _ _ _ _ _ _
    | intro _ _ _ _ _
    | intro _ _ _ _
    | intro _ _ _
    | intro _ _
    | intro _
    | with_reducible refine Fr.pair (h := ?_) (e := by assumption)
    | with_reducible refine FrO.got (h := ?_) (e := by assumption)
    | with_reducible refine FrS.get (h := ?_) (e := by assumption)
    | with_reducible refine FrP.get (h := ?_) (e := by assumption)
    | split)

theorem State.camLoad_fr {msk : Nat} {b₀ : State} {s : State} {n : Nat} {e : CamEntry} (h₀ : Fr msk b₀ s) (hm₀ : 4 ||| msk = msk) :
    Fr msk b₀ (State.camLoad s n e) := by
  refine Fr.step h₀ ?_ hm₀
  clear h₀ hm₀
  unfold State.camLoad
  try dsimp only
  repeat' (first
    | with_reducible exact Fr.refl _ _
    | with_reducible assumption
    | exact (rfl : (_ : Nat) = _)
    | with_reducible refine State.wrN_fr ?_ ?_
    | with_reducible refine State.wr64_fr ?_ ?_
    | with_reducible refine Fr.foldl ?_ _ _ ?_
    | intro _ _ _)

theorem execCamRead_fr {msk : Nat} {b₀ : State} {n : Nat} {bad : Bool} {s : State} (h₀ : Fr msk b₀ s) (hm₀ : 701254 ||| msk = msk) :
    FrO msk b₀ (execCamRead n bad s) := by
  refine FrO.step h₀ ?_ hm₀
  clear h₀ hm₀
  unfold execCamRead
  try dsimp only
  repeat' (first
    | with_reducible exact Fr.refl _ _
    | with_reducible assumption
    | exact (rfl : (_ : Nat) = _)
    | with_reducible refine State.camOp_fr ?_ ?_ ?_
    | with_reducible refine State.camRefuse_fr ?_ ?_
    | with_reducible refine State.camFires_fr ?_ ?_
    | with_reducible refine State.camStatus_fr ?_ ?_
    | with_reducible refine State.camLoad_fr ?_ ?_
    | with_reducible refine State.camParity_fr ?_ ?_
    | dsimp only
    | with_reducible refine Fr.ite ?_ ?_
    | with_reducible refine Fr.ite₁ ?_ ?_
    | with_reducible refine FrO.ite ?_ ?_
    | with_reducible refine FrS.ite ?_ ?_
    | with_reducible refine FrP.ite ?_ ?_
    | with_reducible refine FrO.next ?_
    | with_reducible exact FrS.none
    | with_reducible refine FrS.some ?_
    | with_reducible refine FrS.map ?_
    | with_reducible exact FrP.none
    | with_reducible refine FrP.some ?_
    | with_reducible refine Fr.elim ?_ ?_
    | with_reducible refine Fr.foldl ?_ _ _ ?_
    | with_reducible refine Fr.foldl₂ ?_ _ _ ?_
    | intro _ _ _ _ _ _
    | intro _ _ _ _ _
    | intro _ _ _ _
    | intro _ _ _
    | intro _ _
    | intro _
    | with_reducible refine Fr.pair (h := ?_) (e := by assumption)
    | with_reducible refine FrO.got (h := ?_) (e := by assumption)
    | with_reducible refine FrS.get (h := ?_) (e := by assumption)
    | with_reducible refine FrP.get (h := ?_) (e := by assumption)
    | split)

theorem execCamWrite_fr {msk : Nat} {b₀ : State} {n : Nat} {s : State} (h₀ : Fr msk b₀ s) (hm₀ : 701254 ||| msk = msk) :
    FrO msk b₀ (execCamWrite n s) := by
  refine FrO.step h₀ ?_ hm₀
  clear h₀ hm₀
  unfold execCamWrite
  try dsimp only
  repeat' (first
    | with_reducible exact Fr.refl _ _
    | with_reducible assumption
    | exact (rfl : (_ : Nat) = _)
    | with_reducible refine State.camUpdate_fr ?_ ?_ ?_
    | with_reducible refine State.camRefuse_fr ?_ ?_
    | with_reducible refine State.camStatus_fr ?_ ?_
    | with_reducible refine State.camShadow_fr ?_ ?_
    | with_reducible refine State.setCam_fr ?_ ?_
    | with_reducible refine Fr.ite ?_ ?_
    | with_reducible refine FrO.next ?_
    | intro _ _ _)

theorem execCamValidate_fr {msk : Nat} {b₀ : State} {n : Nat} {s : State} (h₀ : Fr msk b₀ s) (hm₀ : 701254 ||| msk = msk) :
    FrO msk b₀ (execCamValidate n s) := by
  refine FrO.step h₀ ?_ hm₀
  clear h₀ hm₀
  unfold execCamValidate
  try dsimp only
  repeat' (first
    | with_reducible exact Fr.refl _ _
    | with_reducible assumption
    | exact (rfl : (_ : Nat) = _)
    | with_reducible refine State.camUpdate_fr ?_ ?_ ?_
    | with_reducible refine State.camStatus_fr ?_ ?_
    | with_reducible refine State.camShadow_fr ?_ ?_
    | with_reducible refine State.setCam_fr ?_ ?_
    | with_reducible refine FrO.next ?_
    | intro _ _ _)

theorem execCamMsearch_fr {msk : Nat} {b₀ : State} {n : Nat} {incl : Bool} {maskSet : Nat} {bad : List Nat} {s : State} (h₀ : Fr msk b₀ s) (hm₀ : 701254 ||| msk = msk) :
    FrO msk b₀ (execCamMsearch n incl maskSet bad s) := by
  refine FrO.step h₀ ?_ hm₀
  clear h₀ hm₀
  unfold execCamMsearch
  try dsimp only
  repeat' (first
    | with_reducible exact Fr.refl _ _
    | with_reducible assumption
    | exact (rfl : (_ : Nat) = _)
    | with_reducible refine State.camOp_fr ?_ ?_ ?_
    | with_reducible refine State.camFound_fr ?_ ?_
    | with_reducible refine State.wrN_fr ?_ ?_
    | with_reducible refine State.camAnswer_fr ?_ ?_
    | dsimp only
    | with_reducible refine Fr.ite ?_ ?_
    | with_reducible refine Fr.ite₁ ?_ ?_
    | with_reducible refine FrO.ite ?_ ?_
    | with_reducible refine FrS.ite ?_ ?_
    | with_reducible refine FrP.ite ?_ ?_
    | with_reducible refine FrO.next ?_
    | with_reducible exact FrS.none
    | with_reducible refine FrS.some ?_
    | with_reducible refine FrS.map ?_
    | with_reducible exact FrP.none
    | with_reducible refine FrP.some ?_
    | with_reducible refine Fr.elim ?_ ?_
    | with_reducible refine Fr.foldl ?_ _ _ ?_
    | with_reducible refine Fr.foldl₂ ?_ _ _ ?_
    | intro _ _ _ _ _ _
    | intro _ _ _ _ _
    | intro _ _ _ _
    | intro _ _ _
    | intro _ _
    | intro _
    | with_reducible refine Fr.pair (h := ?_) (e := by assumption)
    | with_reducible refine FrO.got (h := ?_) (e := by assumption)
    | with_reducible refine FrS.get (h := ?_) (e := by assumption)
    | with_reducible refine FrP.get (h := ?_) (e := by assumption)
    | split)

end Sys2Proof.Machine
end

