-- ==== Sys2Proof/Laws/FrFunctions.lean ====
section
/-! SUPPORT. Frames of the operations of Machine.Functions: the parts of State that each may change. -/

set_option maxRecDepth 20000
set_option Elab.async false
set_option linter.unusedTactic false
set_option linter.unreachableTactic false
set_option linter.unusedVariables false

namespace Sys2Proof.Machine

theorem State.discardHeld_fr {msk : Nat} {b₀ : State} {s : State} {f : Part → Bool} (h₀ : Fr msk b₀ s) (hm₀ : 28672 ||| msk = msk) :
    Fr msk b₀ (State.discardHeld s f) := by
  refine Fr.step h₀ ?_ hm₀
  clear h₀ hm₀
  unfold State.discardHeld
  try dsimp only
  repeat' (first
    | with_reducible exact Fr.refl _ _
    | with_reducible assumption
    | exact (rfl : (_ : Nat) = _)
    | with_reducible refine State.removePart_fr ?_ ?_
    | dsimp only
    | with_reducible refine Fr.ite ?_ ?_
    | with_reducible refine Fr.ite₁ ?_ ?_
    | with_reducible refine FrS.ite ?_ ?_
    | with_reducible refine FrP.ite ?_ ?_
    | with_reducible exact FrS.none
    | with_reducible refine FrS.some ?_
    | with_reducible refine FrS.map ?_
    | with_reducible exact FrP.none
    | with_reducible refine FrP.some ?_
    | with_reducible refine Fr.elim ?_ ?_
    | with_reducible refine Fr.foldl ?_ _ _ ?_
    | with_reducible refine Fr.foldl₂ ?_ _ _ ?_
    | intro _ _ _ _ _ _
    | intro _ _ _ _ _
    | intro _ _ _ _
    | intro _ _ _
    | intro _ _
    | intro _
    | with_reducible refine Fr.pair (h := ?_) (e := by assumption)
    | with_reducible refine FrO.got (h := ?_) (e := by assumption)
    | with_reducible refine FrS.get (h := ?_) (e := by assumption)
    | with_reducible refine FrP.get (h := ?_) (e := by assumption)
    | split
    | refine Fr.mk' ?_)

theorem State.undo_fr {msk : Nat} {b₀ : State} {s : State} {n : Nat} (h₀ : Fr msk b₀ s) (hm₀ : 30724 ||| msk = msk) :
    Fr msk b₀ (State.undo s n) := by
  refine Fr.step h₀ ?_ hm₀
  clear h₀ hm₀
  unfold State.undo
  try dsimp only
  repeat' (first
    | with_reducible exact Fr.refl _ _
    | with_reducible assumption
    | exact (rfl : (_ : Nat) = _)
    | with_reducible refine State.discardHeld_fr ?_ ?_
    | with_reducible refine State.discardStreaming_fr ?_ ?_
    | with_reducible refine State.uncharge_fr ?_ ?_
    | with_reducible refine State.setCmd_fr ?_ ?_
    | with_reducible refine State.endReads_fr ?_ ?_
    | dsimp only
    | with_reducible refine Fr.ite ?_ ?_
    | with_reducible refine Fr.ite₁ ?_ ?_
    | with_reducible refine FrS.ite ?_ ?_
    | with_reducible refine FrP.ite ?_ ?_
    | with_reducible exact FrS.none
    | with_reducible refine FrS.some ?_
    | with_reducible refine FrS.map ?_
    | with_reducible exact FrP.none
    | with_reducible refine FrP.some ?_
    | with_reducible refine Fr.elim ?_ ?_
    | with_reducible refine Fr.foldl ?_ _ _ ?_
    | with_reducible refine Fr.foldl₂ ?_ _ _ ?_
    | intro _ _ _ _ _ _
    | intro _ _ _ _ _
    | intro _ _ _ _
    | intro _ _ _
    | intro _ _
    | intro _
    | with_reducible refine Fr.pair (h := ?_) (e := by assumption)
    | with_reducible refine FrO.got (h := ?_) (e := by assumption)
    | with_reducible refine FrS.get (h := ?_) (e := by assumption)
    | with_reducible refine FrP.get (h := ?_) (e := by assumption)
    | split)

theorem execPciePoisonedTlp_fr {msk : Nat} {b₀ : State} {f : Nat} {n : Nat} {s : State} (h₀ : Fr msk b₀ s) (hm₀ : 719686 ||| msk = msk) :
    FrO msk b₀ (execPciePoisonedTlp f n s) := by
  refine FrO.step h₀ ?_ hm₀
  clear h₀ hm₀
  unfold execPciePoisonedTlp
  try dsimp only
  repeat' (first
    | with_reducible exact Fr.refl _ _
    | with_reducible assumption
    | exact (rfl : (_ : Nat) = _)
    | with_reducible refine State.raise_fr ?_ ?_
    | with_reducible refine State.count_fr ?_ ?_
    | with_reducible refine State.complete_fr ?_ ?_
    | with_reducible refine State.undo_fr ?_ ?_
    | dsimp only
    | with_reducible refine Fr.ite ?_ ?_
    | with_reducible refine Fr.ite₁ ?_ ?_
    | with_reducible refine FrO.ite ?_ ?_
    | with_reducible refine FrS.ite ?_ ?_
    | with_reducible refine FrP.ite ?_ ?_
    | with_reducible refine FrO.next ?_
    | with_reducible exact FrS.none
    | with_reducible refine FrS.some ?_
    | with_reducible refine FrS.map ?_
    | with_reducible exact FrP.none
    | with_reducible refine FrP.some ?_
    | with_reducible refine Fr.elim ?_ ?_
    | with_reducible refine Fr.foldl ?_ _ _ ?_
    | with_reducible refine Fr.foldl₂ ?_ _ _ ?_
    | intro _ _ _ _ _ _
    | intro _ _ _ _ _
    | intro _ _ _ _
    | intro _ _ _
    | intro _ _
    | intro _
    | with_reducible refine Fr.pair (h := ?_) (e := by assumption)
    | with_reducible refine FrO.got (h := ?_) (e := by assumption)
    | with_reducible refine FrS.get (h := ?_) (e := by assumption)
    | with_reducible refine FrP.get (h := ?_) (e := by assumption)
    | split)

theorem State.clearMailbox_fr {msk : Nat} {b₀ : State} {s : State} {f : Nat} (h₀ : Fr msk b₀ s) (hm₀ : 2052 ||| msk = msk) :
    Fr msk b₀ (State.clearMailbox s f) := by
  refine Fr.step h₀ ?_ hm₀
  clear h₀ hm₀
  unfold State.clearMailbox
  try dsimp only
  repeat' (first
    | with_reducible exact Fr.refl _ _
    | exact (rfl : (_ : Nat) = _)
    | with_reducible refine State.putBit_fr ?_ ?_
    | with_reducible refine State.winBit_fr ?_ ?_)

theorem State.staleDone_fr {msk : Nat} {b₀ : State} {s : State} {f : Nat} (h₀ : Fr msk b₀ s) (hm₀ : 2052 ||| msk = msk) :
    Fr msk b₀ (State.staleDone s f) := by
  refine Fr.step h₀ ?_ hm₀
  clear h₀ hm₀
  unfold State.staleDone
  try dsimp only
  repeat' (first
    | with_reducible exact Fr.refl _ _
    | with_reducible assumption
    | exact (rfl : (_ : Nat) = _)
    | with_reducible refine State.setFn_fr ?_ ?_
    | with_reducible refine State.staleDiscard_fr ?_ ?_
    | dsimp only
    | with_reducible refine Fr.ite ?_ ?_
    | with_reducible refine Fr.ite₁ ?_ ?_
    | with_reducible refine FrS.ite ?_ ?_
    | with_reducible refine FrP.ite ?_ ?_
    | with_reducible exact FrS.none
    | with_reducible refine FrS.some ?_
    | with_reducible refine FrS.map ?_
    | with_reducible exact FrP.none
    | with_reducible refine FrP.some ?_
    | with_reducible refine Fr.elim ?_ ?_
    | with_reducible refine Fr.foldl ?_ _ _ ?_
    | with_reducible refine Fr.foldl₂ ?_ _ _ ?_
    | intro _ _ _ _ _ _
    | intro _ _ _ _ _
    | intro _ _ _ _
    | intro _ _ _
    | intro _ _
    | intro _
    | with_reducible refine Fr.pair (h := ?_) (e := by assumption)
    | with_reducible refine FrO.got (h := ?_) (e := by assumption)
    | with_reducible refine FrS.get (h := ?_) (e := by assumption)
    | with_reducible refine FrP.get (h := ?_) (e := by assumption)
    | split)

theorem State.abandonCmd_fr {msk : Nat} {b₀ : State} {s : State} {n : Nat} (h₀ : Fr msk b₀ s) (hm₀ : 63494 ||| msk = msk) :
    Fr msk b₀ (State.abandonCmd s n) := by
  refine Fr.step h₀ ?_ hm₀
  clear h₀ hm₀
  unfold State.abandonCmd
  try dsimp only
  repeat' (first
    | with_reducible exact Fr.refl _ _
    | with_reducible assumption
    | exact (rfl : (_ : Nat) = _)
    | with_reducible refine State.discardStreaming_fr ?_ ?_
    | with_reducible refine State.complete_fr ?_ ?_
    | with_reducible refine State.setCmd_fr ?_ ?_
    | with_reducible refine State.uncharge_fr ?_ ?_
    | dsimp only
    | with_reducible refine Fr.ite ?_ ?_
    | with_reducible refine Fr.ite₁ ?_ ?_
    | with_reducible refine FrS.ite ?_ ?_
    | with_reducible refine FrP.ite ?_ ?_
    | with_reducible exact FrS.none
    | with_reducible refine FrS.some ?_
    | with_reducible refine FrS.map ?_
    | with_reducible exact FrP.none
    | with_reducible refine FrP.some ?_
    | with_reducible refine Fr.elim ?_ ?_
    | with_reducible refine Fr.foldl ?_ _ _ ?_
    | with_reducible refine Fr.foldl₂ ?_ _ _ ?_
    | intro _ _ _ _ _ _
    | intro _ _ _ _ _
    | intro _ _ _ _
    | intro _ _ _
    | intro _ _
    | intro _
    | with_reducible refine Fr.pair (h := ?_) (e := by assumption)
    | with_reducible refine FrO.got (h := ?_) (e := by assumption)
    | with_reducible refine FrS.get (h := ?_) (e := by assumption)
    | with_reducible refine FrP.get (h := ?_) (e := by assumption)
    | split)

theorem State.abandonFn_fr {msk : Nat} {b₀ : State} {s : State} {f : Nat} (h₀ : Fr msk b₀ s) (hm₀ : 63494 ||| msk = msk) :
    Fr msk b₀ (State.abandonFn s f) := by
  refine Fr.step h₀ ?_ hm₀
  clear h₀ hm₀
  unfold State.abandonFn
  try dsimp only
  repeat' (first
    | with_reducible exact Fr.refl _ _
    | with_reducible assumption
    | exact (rfl : (_ : Nat) = _)
    | with_reducible refine State.abandonCmd_fr ?_ ?_
    | dsimp only
    | with_reducible refine Fr.ite ?_ ?_
    | with_reducible refine Fr.ite₁ ?_ ?_
    | with_reducible refine FrS.ite ?_ ?_
    | with_reducible refine FrP.ite ?_ ?_
    | with_reducible exact FrS.none
    | with_reducible refine FrS.some ?_
    | with_reducible refine FrS.map ?_
    | with_reducible exact FrP.none
    | with_reducible refine FrP.some ?_
    | with_reducible refine Fr.elim ?_ ?_
    | with_reducible refine Fr.foldl ?_ _ _ ?_
    | with_reducible refine Fr.foldl₂ ?_ _ _ ?_
    | intro _ _ _ _ _ _
    | intro _ _ _ _ _
    | intro _ _ _ _
    | intro _ _ _
    | intro _ _
    | intro _
    | with_reducible refine Fr.pair (h := ?_) (e := by assumption)
    | with_reducible refine FrO.got (h := ?_) (e := by assumption)
    | with_reducible refine FrS.get (h := ?_) (e := by assumption)
    | with_reducible refine FrP.get (h := ?_) (e := by assumption)
    | split)

theorem State.startRemoval_fr {msk : Nat} {b₀ : State} {s : State} {f : Nat} {absentAfter : Bool} (h₀ : Fr msk b₀ s) (hm₀ : 63494 ||| msk = msk) :
    Fr msk b₀ (State.startRemoval s f absentAfter) := by
  refine Fr.step h₀ ?_ hm₀
  clear h₀ hm₀
  unfold State.startRemoval
  try dsimp only
  repeat' (first
    | with_reducible exact Fr.refl _ _
    | with_reducible assumption
    | exact (rfl : (_ : Nat) = _)
    | with_reducible refine State.clearMailbox_fr ?_ ?_
    | with_reducible refine State.staleDone_fr ?_ ?_
    | with_reducible refine State.abandonFn_fr ?_ ?_
    | with_reducible refine State.setFnState_fr ?_ ?_
    | with_reducible refine State.bumpGen_fr ?_ ?_
    | with_reducible refine State.setFn_fr ?_ ?_
    | with_reducible refine State.winBit_fr ?_ ?_
    | with_reducible refine State.wrWin_fr ?_ ?_
    | dsimp only
    | with_reducible refine Fr.ite ?_ ?_
    | with_reducible refine Fr.ite₁ ?_ ?_
    | with_reducible refine FrS.ite ?_ ?_
    | with_reducible refine FrP.ite ?_ ?_
    | with_reducible exact FrS.none
    | with_reducible refine FrS.some ?_
    | with_reducible refine FrS.map ?_
    | with_reducible exact FrP.none
    | with_reducible refine FrP.some ?_
    | with_reducible refine Fr.elim ?_ ?_
    | with_reducible refine Fr.foldl ?_ _ _ ?_
    | with_reducible refine Fr.foldl₂ ?_ _ _ ?_
    | intro _ _ _ _ _ _
    | intro _ _ _ _ _
    | intro _ _ _ _
    | intro _ _ _
    | intro _ _
    | intro _
    | with_reducible refine Fr.pair (h := ?_) (e := by assumption)
    | with_reducible refine FrO.got (h := ?_) (e := by assumption)
    | with_reducible refine FrS.get (h := ?_) (e := by assumption)
    | with_reducible refine FrP.get (h := ?_) (e := by assumption)
    | split)

theorem State.setWeir_fr {msk : Nat} {b₀ : State} {s : State} {subj : Nat} {wmin : Word} {wmax : Word} (h₀ : Fr msk b₀ s) (hm₀ : 4 ||| msk = msk) :
    Fr msk b₀ (State.setWeir s subj wmin wmax) := by
  refine Fr.step h₀ ?_ hm₀
  clear h₀ hm₀
  unfold State.setWeir
  try dsimp only
  repeat' (first
    | with_reducible exact Fr.refl _ _
    | exact (rfl : (_ : Nat) = _)
    | with_reducible refine State.wr_fr ?_ ?_)

theorem State.applyQuota_fr {msk : Nat} {b₀ : State} {s : State} {c : FnCmd} (h₀ : Fr msk b₀ s) (hm₀ : 2052 ||| msk = msk) :
    Fr msk b₀ (State.applyQuota s c) := by
  refine Fr.step h₀ ?_ hm₀
  clear h₀ hm₀
  unfold State.applyQuota
  try dsimp only
  repeat' (first
    | with_reducible exact Fr.refl _ _
    | exact (rfl : (_ : Nat) = _)
    | with_reducible refine State.setWeir_fr ?_ ?_
    | with_reducible refine State.setFn_fr ?_ ?_
    | with_reducible refine State.wrN_fr ?_ ?_)

theorem State.startReset_fr {msk : Nat} {b₀ : State} {s : State} {f : Nat} (h₀ : Fr msk b₀ s) (hm₀ : 63494 ||| msk = msk) :
    Fr msk b₀ (State.startReset s f) := by
  refine Fr.step h₀ ?_ hm₀
  clear h₀ hm₀
  unfold State.startReset
  try dsimp only
  repeat' (first
    | with_reducible exact Fr.refl _ _
    | with_reducible assumption
    | exact (rfl : (_ : Nat) = _)
    | with_reducible refine State.clearMailbox_fr ?_ ?_
    | with_reducible refine State.staleDone_fr ?_ ?_
    | with_reducible refine State.abandonFn_fr ?_ ?_
    | with_reducible refine State.setFnState_fr ?_ ?_
    | with_reducible refine State.bumpGen_fr ?_ ?_
    | with_reducible refine State.setFn_fr ?_ ?_
    | with_reducible refine State.winBit_fr ?_ ?_
    | with_reducible refine State.wrWin_fr ?_ ?_
    | dsimp only
    | with_reducible refine Fr.ite ?_ ?_
    | with_reducible refine Fr.ite₁ ?_ ?_
    | with_reducible refine FrS.ite ?_ ?_
    | with_reducible refine FrP.ite ?_ ?_
    | with_reducible exact FrS.none
    | with_reducible refine FrS.some ?_
    | with_reducible refine FrS.map ?_
    | with_reducible exact FrP.none
    | with_reducible refine FrP.some ?_
    | with_reducible refine Fr.elim ?_ ?_
    | with_reducible refine Fr.foldl ?_ _ _ ?_
    | with_reducible refine Fr.foldl₂ ?_ _ _ ?_
    | intro _ _ _ _ _ _
    | intro _ _ _ _ _
    | intro _ _ _ _
    | intro _ _ _
    | intro _ _
    | intro _
    | with_reducible refine Fr.pair (h := ?_) (e := by assumption)
    | with_reducible refine FrO.got (h := ?_) (e := by assumption)
    | with_reducible refine FrS.get (h := ?_) (e := by assumption)
    | with_reducible refine FrP.get (h := ?_) (e := by assumption)
    | split)

theorem State.fnEffect_fr {msk : Nat} {b₀ : State} {s : State} {c : FnCmd} (h₀ : Fr msk b₀ s) (hm₀ : 63494 ||| msk = msk) :
    Fr msk b₀ (State.fnEffect s c) := by
  refine Fr.step h₀ ?_ hm₀
  clear h₀ hm₀
  unfold State.fnEffect
  try dsimp only
  repeat' (first
    | with_reducible exact Fr.refl _ _
    | with_reducible assumption
    | exact (rfl : (_ : Nat) = _)
    | with_reducible refine State.applyQuota_fr ?_ ?_
    | with_reducible refine State.setFn_fr ?_ ?_
    | with_reducible refine State.setFnState_fr ?_ ?_
    | with_reducible refine State.bumpGen_fr ?_ ?_
    | with_reducible refine State.startRemoval_fr ?_ ?_
    | with_reducible refine State.startReset_fr ?_ ?_
    | with_reducible refine State.wrWin_fr ?_ ?_
    | with_reducible refine State.postMsix_fr ?_ ?_
    | with_reducible refine State.winBit_fr ?_ ?_
    | dsimp only
    | with_reducible refine Fr.ite ?_ ?_
    | with_reducible refine Fr.ite₁ ?_ ?_
    | with_reducible refine FrS.ite ?_ ?_
    | with_reducible refine FrP.ite ?_ ?_
    | with_reducible exact FrS.none
    | with_reducible refine FrS.some ?_
    | with_reducible refine FrS.map ?_
    | with_reducible exact FrP.none
    | with_reducible refine FrP.some ?_
    | with_reducible refine Fr.elim ?_ ?_
    | with_reducible refine Fr.foldl ?_ _ _ ?_
    | with_reducible refine Fr.foldl₂ ?_ _ _ ?_
    | intro _ _ _ _ _ _
    | intro _ _ _ _ _
    | intro _ _ _ _
    | intro _ _ _
    | intro _ _
    | intro _
    | with_reducible refine Fr.pair (h := ?_) (e := by assumption)
    | with_reducible refine FrO.got (h := ?_) (e := by assumption)
    | with_reducible refine FrS.get (h := ?_) (e := by assumption)
    | with_reducible refine FrP.get (h := ?_) (e := by assumption)
    | split)

theorem State.fnCmdWrite_fr {msk : Nat} {b₀ : State} {s : State} {op : Nat} {gen : Nat} (h₀ : Fr msk b₀ s) (hm₀ : 695110 ||| msk = msk) :
    Fr msk b₀ (State.fnCmdWrite s op gen) := by
  refine Fr.step h₀ ?_ hm₀
  clear h₀ hm₀
  unfold State.fnCmdWrite
  try dsimp only
  repeat' (first
    | with_reducible exact Fr.refl _ _
    | exact (rfl : (_ : Nat) = _)
    | with_reducible refine State.raise_fr ?_ ?_
    | with_reducible refine State.putBit_fr ?_ ?_
    | with_reducible refine Fr.ite ?_ ?_
    | refine Fr.mk' ?_)

theorem execFnAttach_fr {msk : Nat} {b₀ : State} {gen : Nat} {s : State} (h₀ : Fr msk b₀ s) (hm₀ : 695110 ||| msk = msk) :
    FrO msk b₀ (execFnAttach gen s) := by
  refine FrO.step h₀ ?_ hm₀
  clear h₀ hm₀
  unfold execFnAttach
  try dsimp only
  repeat' (first
    | with_reducible exact Fr.refl _ _
    | exact (rfl : (_ : Nat) = _)
    | with_reducible refine State.fnCmdWrite_fr ?_ ?_
    | with_reducible refine FrO.next ?_)

theorem State.trainedDown_fr {msk : Nat} {b₀ : State} {s : State} {speed : Nat} {width : Nat} (h₀ : Fr msk b₀ s) (hm₀ : 693062 ||| msk = msk) :
    Fr msk b₀ (State.trainedDown s speed width) := by
  refine Fr.step h₀ ?_ hm₀
  clear h₀ hm₀
  unfold State.trainedDown
  try dsimp only
  repeat' (first
    | with_reducible exact Fr.refl _ _
    | exact (rfl : (_ : Nat) = _)
    | with_reducible refine State.raise_fr ?_ ?_
    | with_reducible refine Fr.ite ?_ ?_)

theorem execPcieSpeedChange_fr {msk : Nat} {b₀ : State} {speed : Nat} {width : Nat} {s : State} (h₀ : Fr msk b₀ s) (hm₀ : 693062 ||| msk = msk) :
    FrO msk b₀ (execPcieSpeedChange speed width s) := by
  refine FrO.step h₀ ?_ hm₀
  clear h₀ hm₀
  unfold execPcieSpeedChange
  try dsimp only
  repeat' (first
    | with_reducible exact Fr.refl _ _
    | exact (rfl : (_ : Nat) = _)
    | with_reducible refine State.trainedDown_fr ?_ ?_
    | with_reducible refine State.event_fr ?_ ?_
    | with_reducible refine State.count_fr ?_ ?_
    | with_reducible refine State.wr_fr ?_ ?_
    | with_reducible refine FrO.next ?_)

theorem State.askReset_fr {msk : Nat} {b₀ : State} {s : State} {f : Nat} (h₀ : Fr msk b₀ s) (hm₀ : 2048 ||| msk = msk) :
    Fr msk b₀ (State.askReset s f) := by
  refine Fr.step h₀ ?_ hm₀
  clear h₀ hm₀
  unfold State.askReset
  try dsimp only
  repeat' (first
    | with_reducible exact Fr.refl _ _
    | exact (rfl : (_ : Nat) = _)
    | with_reducible refine State.setFn_fr ?_ ?_
    | with_reducible refine Fr.ite ?_ ?_
    | split)

theorem execSriovNumvfsChange_fr {msk : Nat} {b₀ : State} {n : Nat} {enable : Bool} {s : State} (h₀ : Fr msk b₀ s) (hm₀ : 2052 ||| msk = msk) :
    FrO msk b₀ (execSriovNumvfsChange n enable s) := by
  refine FrO.step h₀ ?_ hm₀
  clear h₀ hm₀
  unfold execSriovNumvfsChange
  try dsimp only
  repeat' (first
    | with_reducible exact Fr.refl _ _
    | with_reducible assumption
    | exact (rfl : (_ : Nat) = _)
    | with_reducible refine State.setFnState_fr ?_ ?_
    | with_reducible refine State.setFn_fr ?_ ?_
    | with_reducible refine Fr.ite ?_ ?_
    | with_reducible refine FrO.next ?_
    | with_reducible refine Fr.foldl ?_ _ _ ?_
    | intro _ _ _
    | split
    | refine Fr.mk' ?_)

theorem execFnResetDone_fr {msk : Nat} {b₀ : State} {f : Nat} {s : State} (h₀ : Fr msk b₀ s) (hm₀ : 2052 ||| msk = msk) :
    FrO msk b₀ (execFnResetDone f s) := by
  refine FrO.step h₀ ?_ hm₀
  clear h₀ hm₀
  unfold execFnResetDone
  try dsimp only
  repeat' (first
    | with_reducible exact Fr.refl _ _
    | exact (rfl : (_ : Nat) = _)
    | with_reducible refine State.event_fr ?_ ?_
    | with_reducible refine State.setFnState_fr ?_ ?_
    | with_reducible refine State.setFn_fr ?_ ?_
    | with_reducible refine Fr.ite ?_ ?_
    | with_reducible refine FrO.next ?_)

theorem execMboxRing_fr {msk : Nat} {b₀ : State} {f : Nat} {s : State} (h₀ : Fr msk b₀ s) (hm₀ : 2052 ||| msk = msk) :
    FrO msk b₀ (execMboxRing f s) := by
  refine FrO.step h₀ ?_ hm₀
  clear h₀ hm₀
  unfold execMboxRing
  try dsimp only
  repeat' (first
    | with_reducible exact Fr.refl _ _
    | exact (rfl : (_ : Nat) = _)
    | with_reducible refine State.event_fr ?_ ?_
    | with_reducible refine State.putBit_fr ?_ ?_
    | with_reducible refine State.winBit_fr ?_ ?_
    | with_reducible refine Fr.ite ?_ ?_
    | with_reducible refine FrO.next ?_)

theorem execPcieLinkUp_fr {msk : Nat} {b₀ : State} {speed : Nat} {width : Nat} {s : State} (h₀ : Fr msk b₀ s) (hm₀ : 693062 ||| msk = msk) :
    FrO msk b₀ (execPcieLinkUp speed width s) := by
  refine FrO.step h₀ ?_ hm₀
  clear h₀ hm₀
  unfold execPcieLinkUp
  try dsimp only
  repeat' (first
    | with_reducible exact Fr.refl _ _
    | exact (rfl : (_ : Nat) = _)
    | with_reducible refine State.trainedDown_fr ?_ ?_
    | with_reducible refine State.event_fr ?_ ?_
    | with_reducible refine State.wr_fr ?_ ?_
    | with_reducible refine FrO.next ?_)

theorem State.fnCmdApply_fr {msk : Nat} {b₀ : State} {s : State} (h₀ : Fr msk b₀ s) (hm₀ : 63494 ||| msk = msk) :
    Fr msk b₀ (State.fnCmdApply s) := by
  refine Fr.step h₀ ?_ hm₀
  clear h₀ hm₀
  unfold State.fnCmdApply
  try dsimp only
  repeat' (first
    | with_reducible exact Fr.refl _ _
    | exact (rfl : (_ : Nat) = _)
    | with_reducible refine State.fnEffect_fr ?_ ?_
    | with_reducible refine State.event_fr ?_ ?_
    | with_reducible refine State.wrN_fr ?_ ?_
    | with_reducible refine State.setFn_fr ?_ ?_
    | with_reducible refine Fr.ite ?_ ?_
    | split
    | refine Fr.mk' ?_)

theorem State.fnLeaveApply_fr {msk : Nat} {b₀ : State} {s : State} (h₀ : Fr msk b₀ s) (hm₀ : 63494 ||| msk = msk) :
    Fr msk b₀ (State.fnLeaveApply s) := by
  refine Fr.step h₀ ?_ hm₀
  clear h₀ hm₀
  unfold State.fnLeaveApply
  try dsimp only
  repeat' (first
    | with_reducible exact Fr.refl _ _
    | with_reducible assumption
    | exact (rfl : (_ : Nat) = _)
    | with_reducible refine State.startReset_fr ?_ ?_
    | with_reducible refine State.startRemoval_fr ?_ ?_
    | with_reducible refine Fr.ite ?_ ?_
    | with_reducible refine Fr.foldl ?_ _ _ ?_
    | intro _ _ _
    | split)

theorem execMgmtDbTake_fr {msk : Nat} {b₀ : State} {i : Nat} {m : Word} {s : State} (h₀ : Fr msk b₀ s) (hm₀ : 2052 ||| msk = msk) :
    FrO msk b₀ (execMgmtDbTake i m s) := by
  refine FrO.step h₀ ?_ hm₀
  clear h₀ hm₀
  unfold execMgmtDbTake
  try dsimp only
  repeat' (first
    | with_reducible exact Fr.refl _ _
    | with_reducible assumption
    | exact (rfl : (_ : Nat) = _)
    | with_reducible refine State.wr_fr ?_ ?_
    | with_reducible refine State.winBit_fr ?_ ?_
    | with_reducible refine FrO.next ?_
    | with_reducible refine Fr.foldl ?_ _ _ ?_
    | intro _ _ _)

theorem execNvmeCcEnClear_fr {msk : Nat} {b₀ : State} {f : Nat} {s : State} (h₀ : Fr msk b₀ s) (hm₀ : 2048 ||| msk = msk) :
    FrO msk b₀ (execNvmeCcEnClear f s) := by
  refine FrO.step h₀ ?_ hm₀
  clear h₀ hm₀
  unfold execNvmeCcEnClear
  try dsimp only
  repeat' (first
    | with_reducible exact Fr.refl _ _
    | exact (rfl : (_ : Nat) = _)
    | with_reducible refine State.askReset_fr ?_ ?_
    | with_reducible refine State.winBit_fr ?_ ?_
    | with_reducible refine Fr.ite ?_ ?_
    | with_reducible refine FrO.next ?_)

theorem execFnDestroy_fr {msk : Nat} {b₀ : State} {gen : Nat} {s : State} (h₀ : Fr msk b₀ s) (hm₀ : 695110 ||| msk = msk) :
    FrO msk b₀ (execFnDestroy gen s) := by
  refine FrO.step h₀ ?_ hm₀
  clear h₀ hm₀
  unfold execFnDestroy
  try dsimp only
  repeat' (first
    | with_reducible exact Fr.refl _ _
    | exact (rfl : (_ : Nat) = _)
    | with_reducible refine State.fnCmdWrite_fr ?_ ?_
    | with_reducible refine FrO.next ?_)

theorem execFnReset_fr {msk : Nat} {b₀ : State} {gen : Nat} {s : State} (h₀ : Fr msk b₀ s) (hm₀ : 695110 ||| msk = msk) :
    FrO msk b₀ (execFnReset gen s) := by
  refine FrO.step h₀ ?_ hm₀
  clear h₀ hm₀
  unfold execFnReset
  try dsimp only
  repeat' (first
    | with_reducible exact Fr.refl _ _
    | exact (rfl : (_ : Nat) = _)
    | with_reducible refine State.fnCmdWrite_fr ?_ ?_
    | with_reducible refine FrO.next ?_)

theorem State.dmaTimeout_fr {msk : Nat} {b₀ : State} {s : State} {f : Nat} {n : Nat} {injected : Bool} (h₀ : Fr msk b₀ s) (hm₀ : 719686 ||| msk = msk) :
    Fr msk b₀ (State.dmaTimeout s f n injected) := by
  refine Fr.step h₀ ?_ hm₀
  clear h₀ hm₀
  unfold State.dmaTimeout
  try dsimp only
  repeat' (first
    | with_reducible exact Fr.refl _ _
    | with_reducible assumption
    | exact (rfl : (_ : Nat) = _)
    | with_reducible refine State.raise_fr ?_ ?_
    | with_reducible refine State.event_fr ?_ ?_
    | with_reducible refine State.count_fr ?_ ?_
    | with_reducible refine State.complete_fr ?_ ?_
    | with_reducible refine State.undo_fr ?_ ?_
    | dsimp only
    | with_reducible refine Fr.ite ?_ ?_
    | with_reducible refine Fr.ite₁ ?_ ?_
    | with_reducible refine FrS.ite ?_ ?_
    | with_reducible refine FrP.ite ?_ ?_
    | with_reducible exact FrS.none
    | with_reducible refine FrS.some ?_
    | with_reducible refine FrS.map ?_
    | with_reducible exact FrP.none
    | with_reducible refine FrP.some ?_
    | with_reducible refine Fr.elim ?_ ?_
    | with_reducible refine Fr.foldl ?_ _ _ ?_
    | with_reducible refine Fr.foldl₂ ?_ _ _ ?_
    | intro _ _ _ _ _ _
    | intro _ _ _ _ _
    | intro _ _ _ _
    | intro _ _ _
    | intro _ _
    | intro _
    | with_reducible refine Fr.pair (h := ?_) (e := by assumption)
    | with_reducible refine FrO.got (h := ?_) (e := by assumption)
    | with_reducible refine FrS.get (h := ?_) (e := by assumption)
    | with_reducible refine FrP.get (h := ?_) (e := by assumption)
    | split)

theorem State.dmaRead_fr {msk : Nat} {b₀ : State} {s : State} {f : Nat} {n : Nat} (h₀ : Fr msk b₀ s) (hm₀ : 719686 ||| msk = msk) :
    Fr msk b₀ (State.dmaRead s f n) := by
  refine Fr.step h₀ ?_ hm₀
  clear h₀ hm₀
  unfold State.dmaRead
  try dsimp only
  repeat' (first
    | with_reducible exact Fr.refl _ _
    | with_reducible assumption
    | exact (rfl : (_ : Nat) = _)
    | with_reducible refine State.inject_fr ?_ ?_
    | with_reducible refine State.dmaTimeout_fr ?_ ?_
    | dsimp only
    | with_reducible refine Fr.ite ?_ ?_
    | with_reducible refine Fr.ite₁ ?_ ?_
    | with_reducible refine FrS.ite ?_ ?_
    | with_reducible refine FrP.ite ?_ ?_
    | with_reducible exact FrS.none
    | with_reducible refine FrS.some ?_
    | with_reducible refine FrS.map ?_
    | with_reducible exact FrP.none
    | with_reducible refine FrP.some ?_
    | with_reducible refine Fr.elim ?_ ?_
    | with_reducible refine Fr.foldl ?_ _ _ ?_
    | with_reducible refine Fr.foldl₂ ?_ _ _ ?_
    | intro _ _ _ _ _ _
    | intro _ _ _ _ _
    | intro _ _ _ _
    | intro _ _ _
    | intro _ _
    | intro _
    | with_reducible refine Fr.pair (h := ?_) (e := by assumption)
    | with_reducible refine FrO.got (h := ?_) (e := by assumption)
    | with_reducible refine FrS.get (h := ?_) (e := by assumption)
    | with_reducible refine FrP.get (h := ?_) (e := by assumption)
    | split)

theorem State.clearWindow_fr {msk : Nat} {b₀ : State} {s : State} {f : Nat} (h₀ : Fr msk b₀ s) (hm₀ : 2048 ||| msk = msk) :
    Fr msk b₀ (State.clearWindow s f) := by
  refine Fr.step h₀ ?_ hm₀
  clear h₀ hm₀
  unfold State.clearWindow
  try dsimp only
  repeat' (first
    | with_reducible exact Fr.refl _ _
    | with_reducible assumption
    | exact (rfl : (_ : Nat) = _)
    | dsimp only
    | with_reducible refine Fr.ite ?_ ?_
    | with_reducible refine Fr.ite₁ ?_ ?_
    | with_reducible refine FrS.ite ?_ ?_
    | with_reducible refine FrP.ite ?_ ?_
    | with_reducible exact FrS.none
    | with_reducible refine FrS.some ?_
    | with_reducible refine FrS.map ?_
    | with_reducible exact FrP.none
    | with_reducible refine FrP.some ?_
    | with_reducible refine Fr.elim ?_ ?_
    | with_reducible refine Fr.foldl ?_ _ _ ?_
    | with_reducible refine Fr.foldl₂ ?_ _ _ ?_
    | intro _ _ _ _ _ _
    | intro _ _ _ _ _
    | intro _ _ _ _
    | intro _ _ _
    | intro _ _
    | intro _
    | with_reducible refine Fr.pair (h := ?_) (e := by assumption)
    | with_reducible refine FrO.got (h := ?_) (e := by assumption)
    | with_reducible refine FrS.get (h := ?_) (e := by assumption)
    | with_reducible refine FrP.get (h := ?_) (e := by assumption)
    | split
    | refine Fr.mk' ?_)

theorem execFnRemovalDone_fr {msk : Nat} {b₀ : State} {f : Nat} {s : State} (h₀ : Fr msk b₀ s) (hm₀ : 2060 ||| msk = msk) :
    FrO msk b₀ (execFnRemovalDone f s) := by
  refine FrO.step h₀ ?_ hm₀
  clear h₀ hm₀
  unfold execFnRemovalDone
  try dsimp only
  repeat' (first
    | with_reducible exact Fr.refl _ _
    | with_reducible assumption
    | exact (rfl : (_ : Nat) = _)
    | with_reducible refine State.wrN_fr ?_ ?_
    | with_reducible refine State.setFn_fr ?_ ?_
    | with_reducible refine State.clearWindow_fr ?_ ?_
    | with_reducible refine State.setWeir_fr ?_ ?_
    | with_reducible refine State.event_fr ?_ ?_
    | with_reducible refine State.setFnState_fr ?_ ?_
    | dsimp only
    | with_reducible refine Fr.ite ?_ ?_
    | with_reducible refine Fr.ite₁ ?_ ?_
    | with_reducible refine FrO.ite ?_ ?_
    | with_reducible refine FrS.ite ?_ ?_
    | with_reducible refine FrP.ite ?_ ?_
    | with_reducible refine FrO.next ?_
    | with_reducible exact FrS.none
    | with_reducible refine FrS.some ?_
    | with_reducible refine FrS.map ?_
    | with_reducible exact FrP.none
    | with_reducible refine FrP.some ?_
    | with_reducible refine Fr.elim ?_ ?_
    | with_reducible refine Fr.foldl ?_ _ _ ?_
    | with_reducible refine Fr.foldl₂ ?_ _ _ ?_
    | intro _ _ _ _ _ _
    | intro _ _ _ _ _
    | intro _ _ _ _
    | intro _ _ _
    | intro _ _
    | intro _
    | with_reducible refine Fr.pair (h := ?_) (e := by assumption)
    | with_reducible refine FrO.got (h := ?_) (e := by assumption)
    | with_reducible refine FrS.get (h := ?_) (e := by assumption)
    | with_reducible refine FrP.get (h := ?_) (e := by assumption)
    | split
    | refine Fr.mk' ?_)

theorem execFnDetach_fr {msk : Nat} {b₀ : State} {gen : Nat} {s : State} (h₀ : Fr msk b₀ s) (hm₀ : 695110 ||| msk = msk) :
    FrO msk b₀ (execFnDetach gen s) := by
  refine FrO.step h₀ ?_ hm₀
  clear h₀ hm₀
  unfold execFnDetach
  try dsimp only
  repeat' (first
    | with_reducible exact Fr.refl _ _
    | exact (rfl : (_ : Nat) = _)
    | with_reducible refine State.fnCmdWrite_fr ?_ ?_
    | with_reducible refine FrO.next ?_)

theorem execNvmeCcEnSet_fr {msk : Nat} {b₀ : State} {f : Nat} {s : State} (h₀ : Fr msk b₀ s) (hm₀ : 2048 ||| msk = msk) :
    FrO msk b₀ (execNvmeCcEnSet f s) := by
  refine FrO.step h₀ ?_ hm₀
  clear h₀ hm₀
  unfold execNvmeCcEnSet
  try dsimp only
  repeat' (first
    | with_reducible exact Fr.refl _ _
    | exact (rfl : (_ : Nat) = _)
    | with_reducible refine State.setFn_fr ?_ ?_
    | with_reducible refine State.winBit_fr ?_ ?_
    | with_reducible refine Fr.ite ?_ ?_
    | with_reducible refine FrO.next ?_)

theorem execFnReply_fr {msk : Nat} {b₀ : State} {gen : Nat} {s : State} (h₀ : Fr msk b₀ s) (hm₀ : 695110 ||| msk = msk) :
    FrO msk b₀ (execFnReply gen s) := by
  refine FrO.step h₀ ?_ hm₀
  clear h₀ hm₀
  unfold execFnReply
  try dsimp only
  repeat' (first
    | with_reducible exact Fr.refl _ _
    | exact (rfl : (_ : Nat) = _)
    | with_reducible refine State.fnCmdWrite_fr ?_ ?_
    | with_reducible refine FrO.next ?_)

theorem execMboxWrite_fr {msk : Nat} {b₀ : State} {f : Nat} {i : Nat} {w : Word} {s : State} (h₀ : Fr msk b₀ s) (hm₀ : 2048 ||| msk = msk) :
    FrO msk b₀ (execMboxWrite f i w s) := by
  refine FrO.step h₀ ?_ hm₀
  clear h₀ hm₀
  unfold execMboxWrite
  try dsimp only
  repeat' (first
    | with_reducible exact Fr.refl _ _
    | exact (rfl : (_ : Nat) = _)
    | with_reducible refine State.wrWin_fr ?_ ?_
    | with_reducible refine Fr.ite ?_ ?_
    | with_reducible refine FrO.next ?_)

theorem execFnResize_fr {msk : Nat} {b₀ : State} {gen : Nat} {s : State} (h₀ : Fr msk b₀ s) (hm₀ : 695110 ||| msk = msk) :
    FrO msk b₀ (execFnResize gen s) := by
  refine FrO.step h₀ ?_ hm₀
  clear h₀ hm₀
  unfold execFnResize
  try dsimp only
  repeat' (first
    | with_reducible exact Fr.refl _ _
    | exact (rfl : (_ : Nat) = _)
    | with_reducible refine State.fnCmdWrite_fr ?_ ?_
    | with_reducible refine FrO.next ?_)

theorem execDetachNsidFree_fr {msk : Nat} {b₀ : State} {f : Nat} {nsid : Nat} {s : State} (h₀ : Fr msk b₀ s) (hm₀ : 2048 ||| msk = msk) :
    FrO msk b₀ (execDetachNsidFree f nsid s) := by
  refine FrO.step h₀ ?_ hm₀
  clear h₀ hm₀
  unfold execDetachNsidFree
  try dsimp only
  repeat' (first
    | with_reducible exact Fr.refl _ _
    | exact (rfl : (_ : Nat) = _)
    | with_reducible refine State.setFn_fr ?_ ?_
    | with_reducible refine Fr.ite ?_ ?_
    | with_reducible refine FrO.next ?_)

theorem execFnCreate_fr {msk : Nat} {b₀ : State} {gen : Nat} {s : State} (h₀ : Fr msk b₀ s) (hm₀ : 695110 ||| msk = msk) :
    FrO msk b₀ (execFnCreate gen s) := by
  refine FrO.step h₀ ?_ hm₀
  clear h₀ hm₀
  unfold execFnCreate
  try dsimp only
  repeat' (first
    | with_reducible exact Fr.refl _ _
    | exact (rfl : (_ : Nat) = _)
    | with_reducible refine State.fnCmdWrite_fr ?_ ?_
    | with_reducible refine FrO.next ?_)

theorem execPcieCplTimeout_fr {msk : Nat} {b₀ : State} {f : Nat} {n : Nat} {s : State} (h₀ : Fr msk b₀ s) (hm₀ : 719686 ||| msk = msk) :
    FrO msk b₀ (execPcieCplTimeout f n s) := by
  refine FrO.step h₀ ?_ hm₀
  clear h₀ hm₀
  unfold execPcieCplTimeout
  try dsimp only
  repeat' (first
    | with_reducible exact Fr.refl _ _
    | with_reducible assumption
    | exact (rfl : (_ : Nat) = _)
    | with_reducible refine State.dmaTimeout_fr ?_ ?_
    | dsimp only
    | with_reducible refine Fr.ite ?_ ?_
    | with_reducible refine Fr.ite₁ ?_ ?_
    | with_reducible refine FrO.ite ?_ ?_
    | with_reducible refine FrS.ite ?_ ?_
    | with_reducible refine FrP.ite ?_ ?_
    | with_reducible refine FrO.next ?_
    | with_reducible exact FrS.none
    | with_reducible refine FrS.some ?_
    | with_reducible refine FrS.map ?_
    | with_reducible exact FrP.none
    | with_reducible refine FrP.some ?_
    | with_reducible refine Fr.elim ?_ ?_
    | with_reducible refine Fr.foldl ?_ _ _ ?_
    | with_reducible refine Fr.foldl₂ ?_ _ _ ?_
    | intro _ _ _ _ _ _
    | intro _ _ _ _ _
    | intro _ _ _ _
    | intro _ _ _
    | intro _ _
    | intro _
    | with_reducible refine Fr.pair (h := ?_) (e := by assumption)
    | with_reducible refine FrO.got (h := ?_) (e := by assumption)
    | with_reducible refine FrS.get (h := ?_) (e := by assumption)
    | with_reducible refine FrP.get (h := ?_) (e := by assumption)
    | split)

theorem execPcieFlr_fr {msk : Nat} {b₀ : State} {f : Nat} {s : State} (h₀ : Fr msk b₀ s) (hm₀ : 2052 ||| msk = msk) :
    FrO msk b₀ (execPcieFlr f s) := by
  refine FrO.step h₀ ?_ hm₀
  clear h₀ hm₀
  unfold execPcieFlr
  try dsimp only
  repeat' (first
    | with_reducible exact Fr.refl _ _
    | exact (rfl : (_ : Nat) = _)
    | with_reducible refine State.askReset_fr ?_ ?_
    | with_reducible refine State.count_fr ?_ ?_
    | with_reducible refine FrO.next ?_)

end Sys2Proof.Machine
end

