-- ==== Sys2Proof/Laws/FrQueues.lean ====
section
/-! SUPPORT. Frames of the operations of Machine.Queues: the parts of State that each may change. -/

set_option maxRecDepth 20000
set_option Elab.async false
set_option linter.unusedTactic false
set_option linter.unreachableTactic false
set_option linter.unusedVariables false

namespace Sys2Proof.Machine

theorem State.finishApply_fr {msk : Nat} {b₀ : State} {s : State} (h₀ : Fr msk b₀ s) (hm₀ : 55302 ||| msk = msk) :
    Fr msk b₀ (State.finishApply s) := by
  refine Fr.step h₀ ?_ hm₀
  clear h₀ hm₀
  unfold State.finishApply
  try dsimp only
  repeat' (first
    | with_reducible exact Fr.refl _ _
    | with_reducible assumption
    | exact (rfl : (_ : Nat) = _)
    | with_reducible refine State.completeAll_fr ?_ ?_
    | dsimp only
    | with_reducible refine Fr.ite ?_ ?_
    | with_reducible refine Fr.ite₁ ?_ ?_
    | with_reducible refine FrS.ite ?_ ?_
    | with_reducible refine FrP.ite ?_ ?_
    | with_reducible exact FrS.none
    | with_reducible refine FrS.some ?_
    | with_reducible refine FrS.map ?_
    | with_reducible exact FrP.none
    | with_reducible refine FrP.some ?_
    | with_reducible refine Fr.elim ?_ ?_
    | with_reducible refine Fr.foldl ?_ _ _ ?_
    | with_reducible refine Fr.foldl₂ ?_ _ _ ?_
    | intro _ _ _ _ _ _
    | intro _ _ _ _ _
    | intro _ _ _ _
    | intro _ _ _
    | intro _ _
    | intro _
    | with_reducible refine Fr.pair (h := ?_) (e := by assumption)
    | with_reducible refine FrO.got (h := ?_) (e := by assumption)
    | with_reducible refine FrS.get (h := ?_) (e := by assumption)
    | with_reducible refine FrP.get (h := ?_) (e := by assumption)
    | split)

theorem State.newCmd_fr {msk : Nat} {b₀ : State} {s : State} {src : CmdSrc} {gen : Nat} {subject : Nat} {vol : Option Nat} {img : CmdImg} (h₀ : Fr msk b₀ s) (hm₀ : 2048 ||| msk = msk) :
    Fr msk b₀ (State.newCmd s src gen subject vol img) := by
  refine Fr.step h₀ ?_ hm₀
  clear h₀ hm₀
  unfold State.newCmd
  try dsimp only
  repeat' (first
    | with_reducible exact Fr.refl _ _
    | refine Fr.mk' ?_)

theorem State.lqIntPost_fr {msk : Nat} {b₀ : State} {s : State} (h₀ : Fr msk b₀ s) (hm₀ : 2050 ||| msk = msk) :
    Fr msk b₀ (State.lqIntPost s) := by
  refine Fr.step h₀ ?_ hm₀
  clear h₀ hm₀
  unfold State.lqIntPost
  try dsimp only
  repeat' (first
    | with_reducible exact Fr.refl _ _
    | with_reducible assumption
    | exact (rfl : (_ : Nat) = _)
    | with_reducible refine State.postMsix_fr ?_ ?_
    | with_reducible refine State.setFn_fr ?_ ?_
    | dsimp only
    | with_reducible refine Fr.ite ?_ ?_
    | with_reducible refine Fr.ite₁ ?_ ?_
    | with_reducible refine FrS.ite ?_ ?_
    | with_reducible refine FrP.ite ?_ ?_
    | with_reducible exact FrS.none
    | with_reducible refine FrS.some ?_
    | with_reducible refine FrS.map ?_
    | with_reducible exact FrP.none
    | with_reducible refine FrP.some ?_
    | with_reducible refine Fr.elim ?_ ?_
    | with_reducible refine Fr.foldl ?_ _ _ ?_
    | with_reducible refine Fr.foldl₂ ?_ _ _ ?_
    | intro _ _ _ _ _ _
    | intro _ _ _ _ _
    | intro _ _ _ _
    | intro _ _ _
    | intro _ _
    | intro _
    | with_reducible refine Fr.pair (h := ?_) (e := by assumption)
    | with_reducible refine FrO.got (h := ?_) (e := by assumption)
    | with_reducible refine FrS.get (h := ?_) (e := by assumption)
    | with_reducible refine FrP.get (h := ?_) (e := by assumption)
    | split)

theorem State.lqReadyUpdate_fr {msk : Nat} {b₀ : State} {s : State} {resetting : List Nat} (h₀ : Fr msk b₀ s) (hm₀ : 2048 ||| msk = msk) :
    Fr msk b₀ (State.lqReadyUpdate s resetting) := by
  refine Fr.step h₀ ?_ hm₀
  clear h₀ hm₀
  unfold State.lqReadyUpdate
  try dsimp only
  repeat' (first
    | with_reducible exact Fr.refl _ _
    | with_reducible assumption
    | exact (rfl : (_ : Nat) = _)
    | with_reducible refine State.winBit_fr ?_ ?_
    | with_reducible refine Fr.ite ?_ ?_
    | with_reducible refine Fr.foldl ?_ _ _ ?_
    | intro _ _ _)

theorem State.tagComplete_fr {msk : Nat} {b₀ : State} {s : State} {f : Nat} {t : Nat} {status : Nat} (h₀ : Fr msk b₀ s) (hm₀ : 55302 ||| msk = msk) :
    Fr msk b₀ (State.tagComplete s f t status) := by
  refine Fr.step h₀ ?_ hm₀
  clear h₀ hm₀
  unfold State.tagComplete
  try dsimp only
  repeat' (first
    | with_reducible exact Fr.refl _ _
    | exact (rfl : (_ : Nat) = _)
    | with_reducible refine State.complete_fr ?_ ?_
    | with_reducible refine State.answer_fr ?_ ?_
    | split)

theorem State.lqResetTag_fr {msk : Nat} {b₀ : State} {s : State} {f : Nat} {t : Nat} (h₀ : Fr msk b₀ s) (hm₀ : 63494 ||| msk = msk) :
    Fr msk b₀ (State.lqResetTag s f t) := by
  refine Fr.step h₀ ?_ hm₀
  clear h₀ hm₀
  unfold State.lqResetTag
  try dsimp only
  repeat' (first
    | with_reducible exact Fr.refl _ _
    | with_reducible assumption
    | exact (rfl : (_ : Nat) = _)
    | with_reducible refine State.tagComplete_fr ?_ ?_
    | with_reducible refine State.complete_fr ?_ ?_
    | with_reducible refine State.undo_fr ?_ ?_
    | dsimp only
    | with_reducible refine Fr.ite ?_ ?_
    | with_reducible refine Fr.ite₁ ?_ ?_
    | with_reducible refine FrS.ite ?_ ?_
    | with_reducible refine FrP.ite ?_ ?_
    | with_reducible exact FrS.none
    | with_reducible refine FrS.some ?_
    | with_reducible refine FrS.map ?_
    | with_reducible exact FrP.none
    | with_reducible refine FrP.some ?_
    | with_reducible refine Fr.elim ?_ ?_
    | with_reducible refine Fr.foldl ?_ _ _ ?_
    | with_reducible refine Fr.foldl₂ ?_ _ _ ?_
    | intro _ _ _ _ _ _
    | intro _ _ _ _ _
    | intro _ _ _ _
    | intro _ _ _
    | intro _ _
    | intro _
    | with_reducible refine Fr.pair (h := ?_) (e := by assumption)
    | with_reducible refine FrO.got (h := ?_) (e := by assumption)
    | with_reducible refine FrS.get (h := ?_) (e := by assumption)
    | with_reducible refine FrP.get (h := ?_) (e := by assumption)
    | split)

theorem State.lqResetApply_fr {msk : Nat} {b₀ : State} {s : State} (h₀ : Fr msk b₀ s) (hm₀ : 63494 ||| msk = msk) :
    Fr msk b₀ (State.lqResetApply s) := by
  refine Fr.step h₀ ?_ hm₀
  clear h₀ hm₀
  unfold State.lqResetApply
  try dsimp only
  repeat' (first
    | with_reducible exact Fr.refl _ _
    | with_reducible assumption
    | exact (rfl : (_ : Nat) = _)
    | with_reducible refine State.lqResetTag_fr ?_ ?_
    | with_reducible refine State.winBit_fr ?_ ?_
    | dsimp only
    | with_reducible refine Fr.ite ?_ ?_
    | with_reducible refine Fr.ite₁ ?_ ?_
    | with_reducible refine FrS.ite ?_ ?_
    | with_reducible refine FrP.ite ?_ ?_
    | with_reducible exact FrS.none
    | with_reducible refine FrS.some ?_
    | with_reducible refine FrS.map ?_
    | with_reducible exact FrP.none
    | with_reducible refine FrP.some ?_
    | with_reducible refine Fr.elim ?_ ?_
    | with_reducible refine Fr.foldl ?_ _ _ ?_
    | with_reducible refine Fr.foldl₂ ?_ _ _ ?_
    | intro _ _ _ _ _ _
    | intro _ _ _ _ _
    | intro _ _ _ _
    | intro _ _ _
    | intro _ _
    | intro _
    | with_reducible refine Fr.pair (h := ?_) (e := by assumption)
    | with_reducible refine FrO.got (h := ?_) (e := by assumption)
    | with_reducible refine FrS.get (h := ?_) (e := by assumption)
    | with_reducible refine FrP.get (h := ?_) (e := by assumption)
    | split)

theorem State.fetch_fr {msk : Nat} {b₀ : State} {s : State} {src : CmdSrc} {gen : Nat} {subject : Nat} {vol : Option Nat} {img : CmdImg} {bad : Bool} (h₀ : Fr msk b₀ s) (hm₀ : 55302 ||| msk = msk) :
    Fr msk b₀ (State.fetch s src gen subject vol img bad) := by
  refine Fr.step h₀ ?_ hm₀
  clear h₀ hm₀
  unfold State.fetch
  try dsimp only
  repeat' (first
    | with_reducible exact Fr.refl _ _
    | exact (rfl : (_ : Nat) = _)
    | with_reducible refine State.newCmd_fr ?_ ?_
    | with_reducible refine State.complete_fr ?_ ?_
    | with_reducible refine Fr.ite ?_ ?_)

theorem State.psApply_fr {msk : Nat} {b₀ : State} {s : State} (h₀ : Fr msk b₀ s) (hm₀ : 2048 ||| msk = msk) :
    Fr msk b₀ (State.psApply s) := by
  refine Fr.step h₀ ?_ hm₀
  clear h₀ hm₀
  unfold State.psApply
  try dsimp only
  repeat' (first
    | with_reducible exact Fr.refl _ _
    | with_reducible assumption
    | exact (rfl : (_ : Nat) = _)
    | with_reducible refine State.setFn_fr ?_ ?_
    | dsimp only
    | with_reducible refine Fr.ite ?_ ?_
    | with_reducible refine Fr.ite₁ ?_ ?_
    | with_reducible refine FrS.ite ?_ ?_
    | with_reducible refine FrP.ite ?_ ?_
    | with_reducible exact FrS.none
    | with_reducible refine FrS.some ?_
    | with_reducible refine FrS.map ?_
    | with_reducible exact FrP.none
    | with_reducible refine FrP.some ?_
    | with_reducible refine Fr.elim ?_ ?_
    | with_reducible refine Fr.foldl ?_ _ _ ?_
    | with_reducible refine Fr.foldl₂ ?_ _ _ ?_
    | intro _ _ _ _ _ _
    | intro _ _ _ _ _
    | intro _ _ _ _
    | intro _ _ _
    | intro _ _
    | intro _
    | with_reducible refine Fr.pair (h := ?_) (e := by assumption)
    | with_reducible refine FrO.got (h := ?_) (e := by assumption)
    | with_reducible refine FrS.get (h := ?_) (e := by assumption)
    | with_reducible refine FrP.get (h := ?_) (e := by assumption)
    | split)

theorem execCmdFetch_fr {msk : Nat} {b₀ : State} {src : CmdSrc} {img : CmdImg} {s : State} (h₀ : Fr msk b₀ s) (hm₀ : 55302 ||| msk = msk) :
    FrO msk b₀ (execCmdFetch src img s) := by
  refine FrO.step h₀ ?_ hm₀
  clear h₀ hm₀
  unfold execCmdFetch
  try dsimp only
  repeat' (first
    | with_reducible exact Fr.refl _ _
    | exact (rfl : (_ : Nat) = _)
    | with_reducible refine State.fetch_fr ?_ ?_
    | with_reducible refine State.setFn_fr ?_ ?_
    | with_reducible refine Fr.ite ?_ ?_
    | with_reducible refine FrO.ite ?_ ?_
    | with_reducible refine FrO.next ?_
    | split)

theorem execNvmeSqDoorbell_fr {msk : Nat} {b₀ : State} {f : Nat} {qid : Nat} {tail : Nat} {s : State} (h₀ : Fr msk b₀ s) (hm₀ : 2048 ||| msk = msk) :
    FrO msk b₀ (execNvmeSqDoorbell f qid tail s) := by
  refine FrO.step h₀ ?_ hm₀
  clear h₀ hm₀
  unfold execNvmeSqDoorbell
  try dsimp only
  repeat' (first
    | with_reducible exact Fr.refl _ _
    | exact (rfl : (_ : Nat) = _)
    | with_reducible refine State.setFn_fr ?_ ?_
    | with_reducible refine Fr.ite ?_ ?_
    | with_reducible refine FrO.next ?_
    | split)

theorem execLqAbort_fr {msk : Nat} {b₀ : State} {f : Nat} {m : Word} {s : State} (h₀ : Fr msk b₀ s) (hm₀ : 55302 ||| msk = msk) :
    FrO msk b₀ (execLqAbort f m s) := by
  refine FrO.step h₀ ?_ hm₀
  clear h₀ hm₀
  unfold execLqAbort
  try dsimp only
  repeat' (first
    | with_reducible exact Fr.refl _ _
    | with_reducible assumption
    | exact (rfl : (_ : Nat) = _)
    | with_reducible refine State.winBit_fr ?_ ?_
    | with_reducible refine State.tagComplete_fr ?_ ?_
    | with_reducible refine Fr.ite ?_ ?_
    | with_reducible refine FrO.next ?_
    | with_reducible refine Fr.foldl ?_ _ _ ?_
    | intro _ _ _)

theorem execLqTagWrite_fr {msk : Nat} {b₀ : State} {f : Nat} {t : Nat} {i : Nat} {v : Word} {s : State} (h₀ : Fr msk b₀ s) (hm₀ : 2048 ||| msk = msk) :
    FrO msk b₀ (execLqTagWrite f t i v s) := by
  refine FrO.step h₀ ?_ hm₀
  clear h₀ hm₀
  unfold execLqTagWrite
  try dsimp only
  repeat' (first
    | with_reducible exact Fr.refl _ _
    | with_reducible assumption
    | exact (rfl : (_ : Nat) = _)
    | with_reducible refine State.winBit_fr ?_ ?_
    | with_reducible refine State.wrWin_fr ?_ ?_
    | dsimp only
    | with_reducible refine Fr.ite ?_ ?_
    | with_reducible refine Fr.ite₁ ?_ ?_
    | with_reducible refine FrO.ite ?_ ?_
    | with_reducible refine FrS.ite ?_ ?_
    | with_reducible refine FrP.ite ?_ ?_
    | with_reducible refine FrO.next ?_
    | with_reducible exact FrS.none
    | with_reducible refine FrS.some ?_
    | with_reducible refine FrS.map ?_
    | with_reducible exact FrP.none
    | with_reducible refine FrP.some ?_
    | with_reducible refine Fr.elim ?_ ?_
    | with_reducible refine Fr.foldl ?_ _ _ ?_
    | with_reducible refine Fr.foldl₂ ?_ _ _ ?_
    | intro _ _ _ _ _ _
    | intro _ _ _ _ _
    | intro _ _ _ _
    | intro _ _ _
    | intro _ _
    | intro _
    | with_reducible refine Fr.pair (h := ?_) (e := by assumption)
    | with_reducible refine FrO.got (h := ?_) (e := by assumption)
    | with_reducible refine FrS.get (h := ?_) (e := by assumption)
    | with_reducible refine FrP.get (h := ?_) (e := by assumption)
    | split
    | refine Fr.mk' ?_)

theorem execLqIssue_fr {msk : Nat} {b₀ : State} {f : Nat} {m : Word} {s : State} (h₀ : Fr msk b₀ s) (hm₀ : 2048 ||| msk = msk) :
    FrO msk b₀ (execLqIssue f m s) := by
  refine FrO.step h₀ ?_ hm₀
  clear h₀ hm₀
  unfold execLqIssue
  try dsimp only
  repeat' (first
    | with_reducible exact Fr.refl _ _
    | with_reducible assumption
    | exact (rfl : (_ : Nat) = _)
    | with_reducible refine State.winBit_fr ?_ ?_
    | with_reducible refine Fr.ite ?_ ?_
    | with_reducible refine FrO.next ?_
    | with_reducible refine Fr.foldl ?_ _ _ ?_
    | intro _ _ _)

theorem execNvmeCqDoorbell_fr {msk : Nat} {b₀ : State} {f : Nat} {qid : Nat} {head : Nat} {s : State} (h₀ : Fr msk b₀ s) (hm₀ : 2048 ||| msk = msk) :
    FrO msk b₀ (execNvmeCqDoorbell f qid head s) := by
  refine FrO.step h₀ ?_ hm₀
  clear h₀ hm₀
  unfold execNvmeCqDoorbell
  try dsimp only
  repeat' (first
    | with_reducible exact Fr.refl _ _
    | exact (rfl : (_ : Nat) = _)
    | with_reducible refine State.setFn_fr ?_ ?_
    | with_reducible refine Fr.ite ?_ ?_
    | with_reducible refine FrO.next ?_
    | split)

theorem execLqReset_fr {msk : Nat} {b₀ : State} {f : Nat} {s : State} (h₀ : Fr msk b₀ s) (hm₀ : 2048 ||| msk = msk) :
    FrO msk b₀ (execLqReset f s) := by
  refine FrO.step h₀ ?_ hm₀
  clear h₀ hm₀
  unfold execLqReset
  try dsimp only
  repeat' (first
    | with_reducible exact Fr.refl _ _
    | exact (rfl : (_ : Nat) = _)
    | with_reducible refine State.winBit_fr ?_ ?_
    | with_reducible refine Fr.ite ?_ ?_
    | with_reducible refine FrO.next ?_)

end Sys2Proof.Machine
end

