-- ==== Sys2Proof/Laws/FrWeir.lean ====
section
/-! SUPPORT. Frames of the operations of Machine.Weir: the parts of State that each may change. -/

set_option maxRecDepth 20000
set_option Elab.async false
set_option linter.unusedTactic false
set_option linter.unreachableTactic false
set_option linter.unusedVariables false

namespace Sys2Proof.Machine

theorem State.admitCmd_fr {msk : Nat} {b₀ : State} {s : State} {n : Nat} {c : HostCmd} (h₀ : Fr msk b₀ s) (hm₀ : 2048 ||| msk = msk) :
    Fr msk b₀ (State.admitCmd s n c) := by
  refine Fr.step h₀ ?_ hm₀
  clear h₀ hm₀
  unfold State.admitCmd
  try dsimp only
  repeat' (first
    | with_reducible exact Fr.refl _ _
    | exact (rfl : (_ : Nat) = _)
    | with_reducible refine State.setCmd_fr ?_ ?_
    | refine Fr.mk' ?_)

theorem State.holdEntries_fr {msk : Nat} {b₀ : State} {s : State} {gs : List RdGrain} (h₀ : Fr msk b₀ s) (hm₀ : 4096 ||| msk = msk) :
    Fr msk b₀ (State.holdEntries s gs) := by
  refine Fr.step h₀ ?_ hm₀
  clear h₀ hm₀
  unfold State.holdEntries
  try dsimp only
  repeat' (first
    | with_reducible exact Fr.refl _ _
    | with_reducible assumption
    | exact (rfl : (_ : Nat) = _)
    | with_reducible refine State.putPart_fr ?_ ?_
    | with_reducible refine Fr.foldl ?_ _ _ ?_
    | intro _ _ _
    | split)

theorem State.readSearch_fr {msk : Nat} {b₀ : State} {s : State} {vol : Nat} {miss : List Nat} {bad : List Nat} {x4 : List Nat} (h₀ : Fr msk b₀ s) (hm₀ : 701254 ||| msk = msk) :
    Fr msk b₀ (State.readSearch s vol miss bad x4).1 := by
  refine Fr.step h₀ ?_ hm₀
  clear h₀ hm₀
  fun_induction State.readSearch 
  all_goals try dsimp +zetaDelta only at *
  all_goals repeat' (first
    | with_reducible exact Fr.refl _ _
    | with_reducible assumption
    | exact (rfl : (_ : Nat) = _)
    | with_reducible refine Fr.trans ?_ (by assumption)
    | with_reducible refine State.inflight_fr ?_ ?_
    | dsimp only
    | with_reducible refine Fr.ite ?_ ?_
    | with_reducible refine Fr.ite₁ ?_ ?_
    | with_reducible refine FrS.ite ?_ ?_
    | with_reducible refine FrP.ite ?_ ?_
    | with_reducible exact FrS.none
    | with_reducible refine FrS.some ?_
    | with_reducible refine FrS.map ?_
    | with_reducible exact FrP.none
    | with_reducible refine FrP.some ?_
    | with_reducible refine Fr.elim ?_ ?_
    | with_reducible refine Fr.foldl ?_ _ _ ?_
    | with_reducible refine Fr.foldl₂ ?_ _ _ ?_
    | intro _ _ _ _ _ _
    | intro _ _ _ _ _
    | intro _ _ _ _
    | intro _ _ _
    | intro _ _
    | intro _
    | with_reducible refine Fr.pair (h := ?_) (e := by assumption)
    | with_reducible refine FrO.got (h := ?_) (e := by assumption)
    | with_reducible refine FrS.get (h := ?_) (e := by assumption)
    | with_reducible refine FrP.get (h := ?_) (e := by assumption)
    | split)

theorem State.setWeirBal_fr {msk : Nat} {b₀ : State} {s : State} {subj : Nat} {lo : Nat} {b : Int} (h₀ : Fr msk b₀ s) (hm₀ : 4 ||| msk = msk) :
    Fr msk b₀ (State.setWeirBal s subj lo b) := by
  refine Fr.step h₀ ?_ hm₀
  clear h₀ hm₀
  unfold State.setWeirBal
  try dsimp only
  repeat' (first
    | with_reducible exact Fr.refl _ _
    | exact (rfl : (_ : Nat) = _)
    | with_reducible refine State.putFld_fr ?_ ?_)

theorem State.weirClass_fr {msk : Nat} {b₀ : State} {s : State} {order : List Nat} {lo : Nat} (h₀ : Fr msk b₀ s) (hm₀ : 4 ||| msk = msk) :
    Fr msk b₀ (State.weirClass s order lo) := by
  refine Fr.step h₀ ?_ hm₀
  clear h₀ hm₀
  unfold State.weirClass
  try dsimp only
  repeat' (first
    | with_reducible exact Fr.refl _ _
    | with_reducible assumption
    | exact (rfl : (_ : Nat) = _)
    | with_reducible refine State.setWeirBal_fr ?_ ?_
    | with_reducible refine Fr.foldl ?_ _ _ ?_
    | intro _ _ _)

theorem State.basinWait_fr {msk : Nat} {b₀ : State} {s : State} {n : Nat} {c : HostCmd} (h₀ : Fr msk b₀ s) (hm₀ : 2052 ||| msk = msk) :
    Fr msk b₀ (State.basinWait s n c) := by
  refine Fr.step h₀ ?_ hm₀
  clear h₀ hm₀
  unfold State.basinWait
  try dsimp only
  repeat' (first
    | with_reducible exact Fr.refl _ _
    | with_reducible assumption
    | exact (rfl : (_ : Nat) = _)
    | with_reducible refine State.count_fr ?_ ?_
    | with_reducible refine State.setCmd_fr ?_ ?_
    | dsimp only
    | with_reducible refine Fr.ite ?_ ?_
    | with_reducible refine Fr.ite₁ ?_ ?_
    | with_reducible refine FrS.ite ?_ ?_
    | with_reducible refine FrP.ite ?_ ?_
    | with_reducible exact FrS.none
    | with_reducible refine FrS.some ?_
    | with_reducible refine FrS.map ?_
    | with_reducible exact FrP.none
    | with_reducible refine FrP.some ?_
    | with_reducible refine Fr.elim ?_ ?_
    | with_reducible refine Fr.foldl ?_ _ _ ?_
    | with_reducible refine Fr.foldl₂ ?_ _ _ ?_
    | intro _ _ _ _ _ _
    | intro _ _ _ _ _
    | intro _ _ _ _
    | intro _ _ _
    | intro _ _
    | intro _
    | with_reducible refine Fr.pair (h := ?_) (e := by assumption)
    | with_reducible refine FrO.got (h := ?_) (e := by assumption)
    | with_reducible refine FrS.get (h := ?_) (e := by assumption)
    | with_reducible refine FrP.get (h := ?_) (e := by assumption)
    | split)

theorem State.searchRead_fr {msk : Nat} {b₀ : State} {s : State} {c : HostCmd} {v : Nat} {miss : List Nat} {bad : List Nat} (h₀ : Fr msk b₀ s) (hm₀ : 701254 ||| msk = msk) :
    Fr msk b₀ (State.searchRead s c v miss bad).1 := by
  refine Fr.step h₀ ?_ hm₀
  clear h₀ hm₀
  unfold State.searchRead
  try dsimp only
  repeat' (first
    | with_reducible exact Fr.refl _ _
    | with_reducible assumption
    | exact (rfl : (_ : Nat) = _)
    | with_reducible refine State.readSearch_fr ?_ ?_
    | with_reducible refine State.holdEntries_fr ?_ ?_
    | dsimp only
    | with_reducible refine Fr.ite ?_ ?_
    | with_reducible refine Fr.ite₁ ?_ ?_
    | with_reducible refine FrS.ite ?_ ?_
    | with_reducible refine FrP.ite ?_ ?_
    | with_reducible exact FrS.none
    | with_reducible refine FrS.some ?_
    | with_reducible refine FrS.map ?_
    | with_reducible exact FrP.none
    | with_reducible refine FrP.some ?_
    | with_reducible refine Fr.elim ?_ ?_
    | with_reducible refine Fr.foldl ?_ _ _ ?_
    | with_reducible refine Fr.foldl₂ ?_ _ _ ?_
    | intro _ _ _ _ _ _
    | intro _ _ _ _ _
    | intro _ _ _ _
    | intro _ _ _
    | intro _ _
    | intro _
    | with_reducible refine Fr.pair (h := ?_) (e := by assumption)
    | with_reducible refine FrO.got (h := ?_) (e := by assumption)
    | with_reducible refine FrS.get (h := ?_) (e := by assumption)
    | with_reducible refine FrP.get (h := ?_) (e := by assumption)
    | split)

theorem State.admitRead_fr {msk : Nat} {b₀ : State} {s : State} {n : Nat} {c : HostCmd} {slots : Nat} {miss : List Nat} {bad : List Nat} (h₀ : Fr msk b₀ s) (hm₀ : 703302 ||| msk = msk) :
    Fr msk b₀ (State.admitRead s n c slots miss bad) := by
  refine Fr.step h₀ ?_ hm₀
  clear h₀ hm₀
  unfold State.admitRead
  try dsimp only
  repeat' (first
    | with_reducible exact Fr.refl _ _
    | with_reducible assumption
    | exact (rfl : (_ : Nat) = _)
    | with_reducible refine State.wrN_fr ?_ ?_
    | with_reducible refine State.searchRead_fr ?_ ?_
    | with_reducible refine State.admitCmd_fr ?_ ?_
    | dsimp only
    | with_reducible refine Fr.ite ?_ ?_
    | with_reducible refine Fr.ite₁ ?_ ?_
    | with_reducible refine FrS.ite ?_ ?_
    | with_reducible refine FrP.ite ?_ ?_
    | with_reducible exact FrS.none
    | with_reducible refine FrS.some ?_
    | with_reducible refine FrS.map ?_
    | with_reducible exact FrP.none
    | with_reducible refine FrP.some ?_
    | with_reducible refine Fr.elim ?_ ?_
    | with_reducible refine Fr.foldl ?_ _ _ ?_
    | with_reducible refine Fr.foldl₂ ?_ _ _ ?_
    | intro _ _ _ _ _ _
    | intro _ _ _ _ _
    | intro _ _ _ _
    | intro _ _ _
    | intro _ _
    | intro _
    | with_reducible refine Fr.pair (h := ?_) (e := by assumption)
    | with_reducible refine FrO.got (h := ?_) (e := by assumption)
    | with_reducible refine FrS.get (h := ?_) (e := by assumption)
    | with_reducible refine FrP.get (h := ?_) (e := by assumption)
    | split)

theorem execWeirAdmit_fr {msk : Nat} {b₀ : State} {n : Nat} {miss : List Nat} {bad : List Nat} {s : State} (h₀ : Fr msk b₀ s) (hm₀ : 703302 ||| msk = msk) :
    FrO msk b₀ (execWeirAdmit n miss bad s) := by
  refine FrO.step h₀ ?_ hm₀
  clear h₀ hm₀
  unfold execWeirAdmit
  try dsimp only
  repeat' (first
    | with_reducible exact Fr.refl _ _
    | with_reducible assumption
    | exact (rfl : (_ : Nat) = _)
    | with_reducible refine State.admitCmd_fr ?_ ?_
    | with_reducible refine State.setWeirBal_fr ?_ ?_
    | with_reducible refine State.basinWait_fr ?_ ?_
    | with_reducible refine State.admitRead_fr ?_ ?_
    | dsimp only
    | with_reducible refine Fr.ite ?_ ?_
    | with_reducible refine Fr.ite₁ ?_ ?_
    | with_reducible refine FrO.ite ?_ ?_
    | with_reducible refine FrS.ite ?_ ?_
    | with_reducible refine FrP.ite ?_ ?_
    | with_reducible refine FrO.next ?_
    | with_reducible exact FrS.none
    | with_reducible refine FrS.some ?_
    | with_reducible refine FrS.map ?_
    | with_reducible exact FrP.none
    | with_reducible refine FrP.some ?_
    | with_reducible refine Fr.elim ?_ ?_
    | with_reducible refine Fr.foldl ?_ _ _ ?_
    | with_reducible refine Fr.foldl₂ ?_ _ _ ?_
    | intro _ _ _ _ _ _
    | intro _ _ _ _ _
    | intro _ _ _ _
    | intro _ _ _
    | intro _ _
    | intro _
    | with_reducible refine Fr.pair (h := ?_) (e := by assumption)
    | with_reducible refine FrO.got (h := ?_) (e := by assumption)
    | with_reducible refine FrS.get (h := ?_) (e := by assumption)
    | with_reducible refine FrP.get (h := ?_) (e := by assumption)
    | split)

theorem State.weirGrant_fr {msk : Nat} {b₀ : State} {s : State} (h₀ : Fr msk b₀ s) (hm₀ : 2052 ||| msk = msk) :
    Fr msk b₀ (State.weirGrant s) := by
  refine Fr.step h₀ ?_ hm₀
  clear h₀ hm₀
  unfold State.weirGrant
  try dsimp only
  repeat' (first
    | with_reducible exact Fr.refl _ _
    | exact (rfl : (_ : Nat) = _)
    | with_reducible refine State.weirClass_fr ?_ ?_
    | refine Fr.mk' ?_)

end Sys2Proof.Machine
end

