-- ==== Sys2Proof/Laws/FrIngest.lean ====
section
/-! SUPPORT. Frames of the operations of Machine.Ingest: the parts of State that each may change. -/

set_option maxRecDepth 20000
set_option Elab.async false
set_option linter.unusedTactic false
set_option linter.unreachableTactic false
set_option linter.unusedVariables false

namespace Sys2Proof.Machine

theorem State.ackMax_fr {msk : Nat} {b₀ : State} {s : State} {c : HostCmd} (h₀ : Fr msk b₀ s) (hm₀ : 4 ||| msk = msk) :
    Fr msk b₀ (State.ackMax s c) := by
  refine Fr.step h₀ ?_ hm₀
  clear h₀ hm₀
  unfold State.ackMax
  try dsimp only
  repeat' (first
    | with_reducible exact Fr.refl _ _
    | exact (rfl : (_ : Nat) = _)
    | with_reducible refine State.highWater_fr ?_ ?_
    | with_reducible refine Fr.ite ?_ ?_)

theorem State.tryAck_fr {msk : Nat} {b₀ : State} {s : State} {n : Nat} (h₀ : Fr msk b₀ s) (hm₀ : 55302 ||| msk = msk) :
    Fr msk b₀ (State.tryAck s n) := by
  refine Fr.step h₀ ?_ hm₀
  clear h₀ hm₀
  unfold State.tryAck
  try dsimp only
  repeat' (first
    | with_reducible exact Fr.refl _ _
    | exact (rfl : (_ : Nat) = _)
    | with_reducible refine State.complete_fr ?_ ?_
    | with_reducible refine State.ackMax_fr ?_ ?_
    | with_reducible refine Fr.ite ?_ ?_
    | split)

theorem State.countRefusal_fr {msk : Nat} {b₀ : State} {s : State} {st : Nat} (h₀ : Fr msk b₀ s) (hm₀ : 4 ||| msk = msk) :
    Fr msk b₀ (State.countRefusal s st) := by
  refine Fr.step h₀ ?_ hm₀
  clear h₀ hm₀
  unfold State.countRefusal
  try dsimp only
  repeat' (first
    | with_reducible exact Fr.refl _ _
    | exact (rfl : (_ : Nat) = _)
    | with_reducible refine State.count_fr ?_ ?_
    | with_reducible refine Fr.ite ?_ ?_)

theorem State.forward_fr {msk : Nat} {b₀ : State} {s : State} {n : Nat} {c : HostCmd} {v : Nat} (h₀ : Fr msk b₀ s) (hm₀ : 55302 ||| msk = msk) :
    Fr msk b₀ (State.forward s n c v) := by
  refine Fr.step h₀ ?_ hm₀
  clear h₀ hm₀
  unfold State.forward
  try dsimp only
  repeat' (first
    | with_reducible exact Fr.refl _ _
    | exact (rfl : (_ : Nat) = _)
    | with_reducible refine State.count_fr ?_ ?_
    | with_reducible refine State.setCmd_fr ?_ ?_
    | with_reducible refine State.tlSend_fr ?_ ?_
    | with_reducible refine State.complete_fr ?_ ?_
    | with_reducible refine Fr.ite ?_ ?_
    | refine Fr.mk' ?_)

theorem State.spaceCharge_fr {msk : Nat} {b₀ : State} {s : State} {v : Vol} {charge : Nat} (h₀ : Fr msk b₀ s) (hm₀ : 16384 ||| msk = msk) :
    Fr msk b₀ (State.spaceCharge s v charge) := by
  refine Fr.step h₀ ?_ hm₀
  clear h₀ hm₀
  unfold State.spaceCharge
  try dsimp only
  repeat' (first
    | with_reducible exact Fr.refl _ _
    | exact (rfl : (_ : Nat) = _)
    | with_reducible refine State.setPool_fr ?_ ?_)

theorem State.fwdTaken_fr {msk : Nat} {b₀ : State} {s : State} {c : HostCmd} (h₀ : Fr msk b₀ s) (hm₀ : 32774 ||| msk = msk) :
    Fr msk b₀ (State.fwdTaken s c) := by
  refine Fr.step h₀ ?_ hm₀
  clear h₀ hm₀
  unfold State.fwdTaken
  try dsimp only
  repeat' (first
    | with_reducible exact Fr.refl _ _
    | exact (rfl : (_ : Nat) = _)
    | with_reducible refine State.tlSend_fr ?_ ?_
    | split)

theorem State.accept_fr {msk : Nat} {b₀ : State} {s : State} {n : Nat} {c : HostCmd} {v : Vol} (h₀ : Fr msk b₀ s) (hm₀ : 51206 ||| msk = msk) :
    Fr msk b₀ (State.accept s n c v) := by
  refine Fr.step h₀ ?_ hm₀
  clear h₀ hm₀
  unfold State.accept
  try dsimp only
  repeat' (first
    | with_reducible exact Fr.refl _ _
    | exact (rfl : (_ : Nat) = _)
    | with_reducible refine State.countBy_fr ?_ ?_
    | with_reducible refine State.count_fr ?_ ?_
    | with_reducible refine State.spaceCharge_fr ?_ ?_
    | with_reducible refine State.setCmd_fr ?_ ?_
    | with_reducible refine State.fwdTaken_fr ?_ ?_)

theorem State.ingest_fr {msk : Nat} {b₀ : State} {s : State} {n : Nat} {op : HostOp} {legacy : Bool} (h₀ : Fr msk b₀ s) (hm₀ : 55302 ||| msk = msk) :
    Fr msk b₀ (State.ingest s n op legacy) := by
  refine Fr.step h₀ ?_ hm₀
  clear h₀ hm₀
  unfold State.ingest
  try dsimp only
  repeat' (first
    | with_reducible exact Fr.refl _ _
    | exact (rfl : (_ : Nat) = _)
    | with_reducible refine State.complete_fr ?_ ?_
    | with_reducible refine State.countRefusal_fr ?_ ?_
    | with_reducible refine State.forward_fr ?_ ?_
    | with_reducible refine State.accept_fr ?_ ?_
    | with_reducible refine State.setPool_fr ?_ ?_
    | with_reducible refine Fr.ite ?_ ?_
    | split)

theorem execNvmeWriteZeroes_fr {msk : Nat} {b₀ : State} {n : Nat} {s : State} (h₀ : Fr msk b₀ s) (hm₀ : 55302 ||| msk = msk) :
    FrO msk b₀ (execNvmeWriteZeroes n s) := by
  refine FrO.step h₀ ?_ hm₀
  clear h₀ hm₀
  unfold execNvmeWriteZeroes
  try dsimp only
  repeat' (first
    | with_reducible exact Fr.refl _ _
    | exact (rfl : (_ : Nat) = _)
    | with_reducible refine State.ingest_fr ?_ ?_
    | with_reducible refine FrO.next ?_)

theorem State.tryRelease_fr {msk : Nat} {b₀ : State} {s : State} {cseq : Nat} (h₀ : Fr msk b₀ s) (hm₀ : 28672 ||| msk = msk) :
    Fr msk b₀ (State.tryRelease s cseq) := by
  refine Fr.step h₀ ?_ hm₀
  clear h₀ hm₀
  unfold State.tryRelease
  try dsimp only
  repeat' (first
    | with_reducible exact Fr.refl _ _
    | exact (rfl : (_ : Nat) = _)
    | with_reducible refine State.removePart_fr ?_ ?_
    | with_reducible refine Fr.ite ?_ ?_
    | split
    | refine Fr.mk' ?_)

theorem State.release_fr {msk : Nat} {b₀ : State} {s : State} {cseq : Nat} (h₀ : Fr msk b₀ s) (hm₀ : 28672 ||| msk = msk) :
    Fr msk b₀ (State.release s cseq) := by
  refine Fr.step h₀ ?_ hm₀
  clear h₀ hm₀
  unfold State.release
  try dsimp only
  repeat' (first
    | with_reducible exact Fr.refl _ _
    | exact (rfl : (_ : Nat) = _)
    | with_reducible refine State.tryRelease_fr ?_ ?_
    | with_reducible refine State.putPart_fr ?_ ?_
    | split)

theorem State.overtakeOthers_fr {msk : Nat} {b₀ : State} {s : State} {cseq : Nat} {p : Part} (h₀ : Fr msk b₀ s) (hm₀ : 28672 ||| msk = msk) :
    Fr msk b₀ (State.overtakeOthers s cseq p) := by
  refine Fr.step h₀ ?_ hm₀
  clear h₀ hm₀
  unfold State.overtakeOthers
  try dsimp only
  repeat' (first
    | with_reducible exact Fr.refl _ _
    | with_reducible assumption
    | exact (rfl : (_ : Nat) = _)
    | with_reducible refine State.putPart_fr ?_ ?_
    | with_reducible refine State.release_fr ?_ ?_
    | with_reducible refine Fr.ite ?_ ?_
    | with_reducible refine Fr.foldl ?_ _ _ ?_
    | intro _ _ _
    | split)

theorem State.commitPart_fr {msk : Nat} {b₀ : State} {s : State} {cseq : Nat} (h₀ : Fr msk b₀ s) (hm₀ : 63494 ||| msk = msk) :
    Fr msk b₀ (State.commitPart s cseq) := by
  refine Fr.step h₀ ?_ hm₀
  clear h₀ hm₀
  unfold State.commitPart
  try dsimp only
  repeat' (first
    | with_reducible exact Fr.refl _ _
    | exact (rfl : (_ : Nat) = _)
    | with_reducible refine State.overtakeOthers_fr ?_ ?_
    | with_reducible refine State.setPart_fr ?_ ?_
    | with_reducible refine State.tryAck_fr ?_ ?_
    | with_reducible refine State.setCmd_fr ?_ ?_
    | with_reducible refine Fr.ite ?_ ?_
    | split)

theorem execNvmeDatasetManagement_fr {msk : Nat} {b₀ : State} {n : Nat} {s : State} (h₀ : Fr msk b₀ s) (hm₀ : 55302 ||| msk = msk) :
    FrO msk b₀ (execNvmeDatasetManagement n s) := by
  refine FrO.step h₀ ?_ hm₀
  clear h₀ hm₀
  unfold execNvmeDatasetManagement
  try dsimp only
  repeat' (first
    | with_reducible exact Fr.refl _ _
    | exact (rfl : (_ : Nat) = _)
    | with_reducible refine State.ingest_fr ?_ ?_
    | with_reducible refine FrO.next ?_)

theorem State.flushCmd_fr {msk : Nat} {b₀ : State} {s : State} {n : Nat} {legacy : Bool} (h₀ : Fr msk b₀ s) (hm₀ : 2048 ||| msk = msk) :
    Fr msk b₀ (State.flushCmd s n legacy) := by
  refine Fr.step h₀ ?_ hm₀
  clear h₀ hm₀
  unfold State.flushCmd
  try dsimp only
  repeat' (first
    | with_reducible exact Fr.refl _ _
    | exact (rfl : (_ : Nat) = _)
    | with_reducible refine State.setCmd_fr ?_ ?_
    | with_reducible refine Fr.ite ?_ ?_
    | split)

theorem execLqFlush_fr {msk : Nat} {b₀ : State} {n : Nat} {s : State} (h₀ : Fr msk b₀ s) (hm₀ : 2048 ||| msk = msk) :
    FrO msk b₀ (execLqFlush n s) := by
  refine FrO.step h₀ ?_ hm₀
  clear h₀ hm₀
  unfold execLqFlush
  try dsimp only
  repeat' (first
    | with_reducible exact Fr.refl _ _
    | exact (rfl : (_ : Nat) = _)
    | with_reducible refine State.flushCmd_fr ?_ ?_
    | with_reducible refine FrO.next ?_)

theorem State.lockWait_fr {msk : Nat} {b₀ : State} {s : State} {n : Nat} {c : HostCmd} (h₀ : Fr msk b₀ s) (hm₀ : 2052 ||| msk = msk) :
    Fr msk b₀ (State.lockWait s n c) := by
  refine Fr.step h₀ ?_ hm₀
  clear h₀ hm₀
  unfold State.lockWait
  try dsimp only
  repeat' (first
    | with_reducible exact Fr.refl _ _
    | exact (rfl : (_ : Nat) = _)
    | with_reducible refine State.count_fr ?_ ?_
    | with_reducible refine State.setCmd_fr ?_ ?_
    | with_reducible refine Fr.ite ?_ ?_)

theorem State.mirrorReleaseSend_fr {msk : Nat} {b₀ : State} {s : State} (h₀ : Fr msk b₀ s) (hm₀ : 36870 ||| msk = msk) :
    Fr msk b₀ (State.mirrorReleaseSend s) := by
  refine Fr.step h₀ ?_ hm₀
  clear h₀ hm₀
  unfold State.mirrorReleaseSend
  try dsimp only
  repeat' (first
    | with_reducible exact Fr.refl _ _
    | with_reducible assumption
    | exact (rfl : (_ : Nat) = _)
    | with_reducible refine State.tlSend_fr ?_ ?_
    | with_reducible refine Fr.ite ?_ ?_
    | with_reducible refine Fr.foldl ?_ _ _ ?_
    | intro _ _ _
    | refine Fr.mk' ?_)

theorem execLqWriteZeroes_fr {msk : Nat} {b₀ : State} {n : Nat} {s : State} (h₀ : Fr msk b₀ s) (hm₀ : 55302 ||| msk = msk) :
    FrO msk b₀ (execLqWriteZeroes n s) := by
  refine FrO.step h₀ ?_ hm₀
  clear h₀ hm₀
  unfold execLqWriteZeroes
  try dsimp only
  repeat' (first
    | with_reducible exact Fr.refl _ _
    | exact (rfl : (_ : Nat) = _)
    | with_reducible refine State.ingest_fr ?_ ?_
    | with_reducible refine FrO.next ?_)

theorem State.failPart_fr {msk : Nat} {b₀ : State} {s : State} {cseq : Nat} {status : Nat} (h₀ : Fr msk b₀ s) (hm₀ : 63494 ||| msk = msk) :
    Fr msk b₀ (State.failPart s cseq status) := by
  refine Fr.step h₀ ?_ hm₀
  clear h₀ hm₀
  unfold State.failPart
  try dsimp only
  repeat' (first
    | with_reducible exact Fr.refl _ _
    | exact (rfl : (_ : Nat) = _)
    | with_reducible refine State.removePart_fr ?_ ?_
    | with_reducible refine State.tryAck_fr ?_ ?_
    | with_reducible refine State.setCmd_fr ?_ ?_
    | split)

theorem State.grantLock_fr {msk : Nat} {b₀ : State} {s : State} {n : Nat} {c : HostCmd} {v : Vol} {vol : Nat} {loc : Nat} (h₀ : Fr msk b₀ s) (hm₀ : 719686 ||| msk = msk) :
    Fr msk b₀ (State.grantLock s n c v vol loc) := by
  refine Fr.step h₀ ?_ hm₀
  clear h₀ hm₀
  unfold State.grantLock
  try dsimp only
  repeat' (first
    | with_reducible exact Fr.refl _ _
    | with_reducible assumption
    | exact (rfl : (_ : Nat) = _)
    | with_reducible refine State.wr64_fr ?_ ?_
    | with_reducible refine State.setCam_fr ?_ ?_
    | with_reducible refine State.putPart_fr ?_ ?_
    | with_reducible refine State.setQuotaUse_fr ?_ ?_
    | with_reducible refine State.highWater_fr ?_ ?_
    | with_reducible refine State.setCmd_fr ?_ ?_
    | with_reducible refine State.srcSend_fr ?_ ?_
    | with_reducible refine State.emit_fr ?_ ?_
    | with_reducible refine State.dmaRead_fr ?_ ?_
    | dsimp only
    | with_reducible refine Fr.ite ?_ ?_
    | with_reducible refine Fr.ite₁ ?_ ?_
    | with_reducible refine FrS.ite ?_ ?_
    | with_reducible refine FrP.ite ?_ ?_
    | with_reducible exact FrS.none
    | with_reducible refine FrS.some ?_
    | with_reducible refine FrS.map ?_
    | with_reducible exact FrP.none
    | with_reducible refine FrP.some ?_
    | with_reducible refine Fr.elim ?_ ?_
    | with_reducible refine Fr.foldl ?_ _ _ ?_
    | with_reducible refine Fr.foldl₂ ?_ _ _ ?_
    | intro _ _ _ _ _ _
    | intro _ _ _ _ _
    | intro _ _ _ _
    | intro _ _ _
    | intro _ _
    | intro _
    | with_reducible refine Fr.pair (h := ?_) (e := by assumption)
    | with_reducible refine FrO.got (h := ?_) (e := by assumption)
    | with_reducible refine FrS.get (h := ?_) (e := by assumption)
    | with_reducible refine FrP.get (h := ?_) (e := by assumption)
    | split)

theorem execLqDeallocate_fr {msk : Nat} {b₀ : State} {n : Nat} {s : State} (h₀ : Fr msk b₀ s) (hm₀ : 55302 ||| msk = msk) :
    FrO msk b₀ (execLqDeallocate n s) := by
  refine FrO.step h₀ ?_ hm₀
  clear h₀ hm₀
  unfold execLqDeallocate
  try dsimp only
  repeat' (first
    | with_reducible exact Fr.refl _ _
    | exact (rfl : (_ : Nat) = _)
    | with_reducible refine State.ingest_fr ?_ ?_
    | with_reducible refine FrO.next ?_)

theorem execIngestTimeout_fr {msk : Nat} {b₀ : State} {n : Nat} {s : State} (h₀ : Fr msk b₀ s) (hm₀ : 63494 ||| msk = msk) :
    FrO msk b₀ (execIngestTimeout n s) := by
  refine FrO.step h₀ ?_ hm₀
  clear h₀ hm₀
  unfold execIngestTimeout
  try dsimp only
  repeat' (first
    | with_reducible exact Fr.refl _ _
    | exact (rfl : (_ : Nat) = _)
    | with_reducible refine State.complete_fr ?_ ?_
    | with_reducible refine State.event_fr ?_ ?_
    | with_reducible refine State.count_fr ?_ ?_
    | with_reducible refine State.undo_fr ?_ ?_
    | with_reducible refine FrO.ite ?_ ?_
    | with_reducible refine FrO.next ?_
    | split)

theorem State.payPace_fr {msk : Nat} {b₀ : State} {s : State} {pool : Nat} {n : Nat} (h₀ : Fr msk b₀ s) (hm₀ : 16384 ||| msk = msk) :
    Fr msk b₀ (State.payPace s pool n) := by
  refine Fr.step h₀ ?_ hm₀
  clear h₀ hm₀
  unfold State.payPace
  try dsimp only
  repeat' (first
    | with_reducible exact Fr.refl _ _
    | refine Fr.mk' ?_)

theorem execRangeLockGrant_fr {msk : Nat} {b₀ : State} {n : Nat} {loc : Nat} {miss : List Nat} {bad : List Nat} {s : State} (h₀ : Fr msk b₀ s) (hm₀ : 719686 ||| msk = msk) :
    FrO msk b₀ (execRangeLockGrant n loc miss bad s) := by
  refine FrO.step h₀ ?_ hm₀
  clear h₀ hm₀
  unfold execRangeLockGrant
  try dsimp only
  repeat' (first
    | with_reducible exact Fr.refl _ _
    | with_reducible assumption
    | exact (rfl : (_ : Nat) = _)
    | with_reducible refine State.event_fr ?_ ?_
    | with_reducible refine State.inflight_fr ?_ ?_
    | with_reducible refine State.lockWait_fr ?_ ?_
    | with_reducible refine State.payPace_fr ?_ ?_
    | with_reducible refine State.grantLock_fr ?_ ?_
    | dsimp only
    | with_reducible refine Fr.ite ?_ ?_
    | with_reducible refine Fr.ite₁ ?_ ?_
    | with_reducible refine FrO.ite ?_ ?_
    | with_reducible refine FrS.ite ?_ ?_
    | with_reducible refine FrP.ite ?_ ?_
    | with_reducible refine FrO.next ?_
    | with_reducible exact FrS.none
    | with_reducible refine FrS.some ?_
    | with_reducible refine FrS.map ?_
    | with_reducible exact FrP.none
    | with_reducible refine FrP.some ?_
    | with_reducible refine Fr.elim ?_ ?_
    | with_reducible refine Fr.foldl ?_ _ _ ?_
    | with_reducible refine Fr.foldl₂ ?_ _ _ ?_
    | intro _ _ _ _ _ _
    | intro _ _ _ _ _
    | intro _ _ _ _
    | intro _ _ _
    | intro _ _
    | intro _
    | with_reducible refine Fr.pair (h := ?_) (e := by assumption)
    | with_reducible refine FrO.got (h := ?_) (e := by assumption)
    | with_reducible refine FrS.get (h := ?_) (e := by assumption)
    | with_reducible refine FrP.get (h := ?_) (e := by assumption)
    | split)

theorem execNvmeWrite_fr {msk : Nat} {b₀ : State} {n : Nat} {s : State} (h₀ : Fr msk b₀ s) (hm₀ : 55302 ||| msk = msk) :
    FrO msk b₀ (execNvmeWrite n s) := by
  refine FrO.step h₀ ?_ hm₀
  clear h₀ hm₀
  unfold execNvmeWrite
  try dsimp only
  repeat' (first
    | with_reducible exact Fr.refl _ _
    | exact (rfl : (_ : Nat) = _)
    | with_reducible refine State.ingest_fr ?_ ?_
    | with_reducible refine FrO.next ?_)

theorem execLqWrite_fr {msk : Nat} {b₀ : State} {n : Nat} {s : State} (h₀ : Fr msk b₀ s) (hm₀ : 55302 ||| msk = msk) :
    FrO msk b₀ (execLqWrite n s) := by
  refine FrO.step h₀ ?_ hm₀
  clear h₀ hm₀
  unfold execLqWrite
  try dsimp only
  repeat' (first
    | with_reducible exact Fr.refl _ _
    | exact (rfl : (_ : Nat) = _)
    | with_reducible refine State.ingest_fr ?_ ?_
    | with_reducible refine FrO.next ?_)

theorem execNvmeFlush_fr {msk : Nat} {b₀ : State} {n : Nat} {s : State} (h₀ : Fr msk b₀ s) (hm₀ : 2048 ||| msk = msk) :
    FrO msk b₀ (execNvmeFlush n s) := by
  refine FrO.step h₀ ?_ hm₀
  clear h₀ hm₀
  unfold execNvmeFlush
  try dsimp only
  repeat' (first
    | with_reducible exact Fr.refl _ _
    | exact (rfl : (_ : Nat) = _)
    | with_reducible refine State.flushCmd_fr ?_ ?_
    | with_reducible refine FrO.next ?_)

end Sys2Proof.Machine
end

