-- ==== Sys2Proof/Laws/FrReduction.lean ====
section
/-! SUPPORT. Frames of the operations of Machine.Reduction: the parts of State that each may change. -/

set_option maxRecDepth 20000
set_option Elab.async false
set_option linter.unusedTactic false
set_option linter.unreachableTactic false
set_option linter.unusedVariables false

namespace Sys2Proof.Machine

theorem State.setGroup_fr {msk : Nat} {b₀ : State} {s : State} {g : Nat} {f : Group → Group} (h₀ : Fr msk b₀ s) (hm₀ : 32768 ||| msk = msk) :
    Fr msk b₀ (State.setGroup s g f) := by
  refine Fr.step h₀ ?_ hm₀
  clear h₀ hm₀
  unfold State.setGroup
  try dsimp only
  repeat' (first
    | with_reducible exact Fr.refl _ _
    | refine Fr.mk' ?_)

theorem State.recSend_fr {msk : Nat} {b₀ : State} {s : State} {g : Nat} {x : Group} {r : RepRec} (h₀ : Fr msk b₀ s) (hm₀ : 34822 ||| msk = msk) :
    Fr msk b₀ (State.recSend s g x r) := by
  refine Fr.step h₀ ?_ hm₀
  clear h₀ hm₀
  unfold State.recSend
  try dsimp only
  repeat' (first
    | with_reducible exact Fr.refl _ _
    | with_reducible assumption
    | exact (rfl : (_ : Nat) = _)
    | with_reducible refine State.count_fr ?_ ?_
    | with_reducible refine State.emit_fr ?_ ?_
    | with_reducible refine State.streamSend_fr ?_ ?_
    | with_reducible refine State.setGroup_fr ?_ ?_
    | dsimp only
    | with_reducible refine Fr.ite ?_ ?_
    | with_reducible refine Fr.ite₁ ?_ ?_
    | with_reducible refine FrS.ite ?_ ?_
    | with_reducible refine FrP.ite ?_ ?_
    | with_reducible exact FrS.none
    | with_reducible refine FrS.some ?_
    | with_reducible refine FrS.map ?_
    | with_reducible exact FrP.none
    | with_reducible refine FrP.some ?_
    | with_reducible refine Fr.elim ?_ ?_
    | with_reducible refine Fr.foldl ?_ _ _ ?_
    | with_reducible refine Fr.foldl₂ ?_ _ _ ?_
    | intro _ _ _ _ _ _
    | intro _ _ _ _ _
    | intro _ _ _ _
    | intro _ _ _
    | intro _ _
    | intro _
    | with_reducible refine Fr.pair (h := ?_) (e := by assumption)
    | with_reducible refine FrO.got (h := ?_) (e := by assumption)
    | with_reducible refine FrS.get (h := ?_) (e := by assumption)
    | with_reducible refine FrP.get (h := ?_) (e := by assumption)
    | split)

theorem State.replSend_fr {msk : Nat} {b₀ : State} {s : State} {g : Nat} (h₀ : Fr msk b₀ s) (hm₀ : 34822 ||| msk = msk) :
    Fr msk b₀ (State.replSend s g) := by
  refine Fr.step h₀ ?_ hm₀
  clear h₀ hm₀
  unfold State.replSend
  try dsimp only
  repeat' (first
    | with_reducible exact Fr.refl _ _
    | with_reducible assumption
    | exact (rfl : (_ : Nat) = _)
    | with_reducible refine State.recSend_fr ?_ ?_
    | dsimp only
    | with_reducible refine Fr.ite ?_ ?_
    | with_reducible refine Fr.ite₁ ?_ ?_
    | with_reducible refine FrS.ite ?_ ?_
    | with_reducible refine FrP.ite ?_ ?_
    | with_reducible exact FrS.none
    | with_reducible refine FrS.some ?_
    | with_reducible refine FrS.map ?_
    | with_reducible exact FrP.none
    | with_reducible refine FrP.some ?_
    | with_reducible refine Fr.elim ?_ ?_
    | with_reducible refine Fr.foldl ?_ _ _ ?_
    | with_reducible refine Fr.foldl₂ ?_ _ _ ?_
    | intro _ _ _ _ _ _
    | intro _ _ _ _ _
    | intro _ _ _ _
    | intro _ _ _
    | intro _ _
    | intro _
    | with_reducible refine Fr.pair (h := ?_) (e := by assumption)
    | with_reducible refine FrO.got (h := ?_) (e := by assumption)
    | with_reducible refine FrS.get (h := ?_) (e := by assumption)
    | with_reducible refine FrP.get (h := ?_) (e := by assumption)
    | split)

theorem State.replRecord_fr {msk : Nat} {b₀ : State} {s : State} {rseq : Nat} {p : Part} (h₀ : Fr msk b₀ s) (hm₀ : 34822 ||| msk = msk) :
    Fr msk b₀ (State.replRecord s rseq p) := by
  refine Fr.step h₀ ?_ hm₀
  clear h₀ hm₀
  unfold State.replRecord
  try dsimp only
  repeat' (first
    | with_reducible exact Fr.refl _ _
    | exact (rfl : (_ : Nat) = _)
    | with_reducible refine State.setGroup_fr ?_ ?_
    | with_reducible refine State.replSend_fr ?_ ?_
    | with_reducible refine Fr.ite ?_ ?_
    | split)

theorem State.decompress_fr {msk : Nat} {b₀ : State} {s : State} {unit : Nat} {raw : Bool} {len : Nat} {body : List Byte} (h₀ : Fr msk b₀ s) (hm₀ : 693062 ||| msk = msk) :
    Fr msk b₀ (State.decompress s unit raw len body).1 := by
  refine Fr.step h₀ ?_ hm₀
  clear h₀ hm₀
  unfold State.decompress
  try dsimp only
  repeat' (first
    | with_reducible exact Fr.refl _ _
    | with_reducible assumption
    | exact (rfl : (_ : Nat) = _)
    | with_reducible refine State.inject_fr ?_ ?_
    | with_reducible refine State.operate_fr ?_ ?_
    | with_reducible refine State.raise_fr ?_ ?_
    | with_reducible refine State.count_fr ?_ ?_
    | with_reducible refine State.useFree_fr ?_ ?_
    | dsimp only
    | with_reducible refine Fr.ite ?_ ?_
    | with_reducible refine Fr.ite₁ ?_ ?_
    | with_reducible refine FrS.ite ?_ ?_
    | with_reducible refine FrP.ite ?_ ?_
    | with_reducible exact FrS.none
    | with_reducible refine FrS.some ?_
    | with_reducible refine FrS.map ?_
    | with_reducible exact FrP.none
    | with_reducible refine FrP.some ?_
    | with_reducible refine Fr.elim ?_ ?_
    | with_reducible refine Fr.foldl ?_ _ _ ?_
    | with_reducible refine Fr.foldl₂ ?_ _ _ ?_
    | intro _ _ _ _ _ _
    | intro _ _ _ _ _
    | intro _ _ _ _
    | intro _ _ _
    | intro _ _
    | intro _
    | with_reducible refine Fr.pair (h := ?_) (e := by assumption)
    | with_reducible refine FrO.got (h := ?_) (e := by assumption)
    | with_reducible refine FrS.get (h := ?_) (e := by assumption)
    | with_reducible refine FrP.get (h := ?_) (e := by assumption)
    | split)

theorem State.corruptOut_fr {msk : Nat} {b₀ : State} {s : State} {body : List Byte} (h₀ : Fr msk b₀ s) (hm₀ : 693062 ||| msk = msk) :
    Fr msk b₀ (State.corruptOut s body).1 := by
  refine Fr.step h₀ ?_ hm₀
  clear h₀ hm₀
  unfold State.corruptOut
  try dsimp only
  repeat' (first
    | with_reducible exact Fr.refl _ _
    | with_reducible assumption
    | exact (rfl : (_ : Nat) = _)
    | with_reducible refine State.inject_fr ?_ ?_
    | with_reducible refine State.operate_fr ?_ ?_
    | with_reducible refine State.useFree_fr ?_ ?_
    | dsimp only
    | with_reducible refine Fr.ite ?_ ?_
    | with_reducible refine Fr.ite₁ ?_ ?_
    | with_reducible refine FrS.ite ?_ ?_
    | with_reducible refine FrP.ite ?_ ?_
    | with_reducible exact FrS.none
    | with_reducible refine FrS.some ?_
    | with_reducible refine FrS.map ?_
    | with_reducible exact FrP.none
    | with_reducible refine FrP.some ?_
    | with_reducible refine Fr.elim ?_ ?_
    | with_reducible refine Fr.foldl ?_ _ _ ?_
    | with_reducible refine Fr.foldl₂ ?_ _ _ ?_
    | intro _ _ _ _ _ _
    | intro _ _ _ _ _
    | intro _ _ _ _
    | intro _ _ _
    | intro _ _
    | intro _
    | with_reducible refine Fr.pair (h := ?_) (e := by assumption)
    | with_reducible refine FrO.got (h := ?_) (e := by assumption)
    | with_reducible refine FrS.get (h := ?_) (e := by assumption)
    | with_reducible refine FrP.get (h := ?_) (e := by assumption)
    | split)

theorem State.bucketInsert_fr {msk : Nat} {b₀ : State} {s : State} {i : Nat} {x : DdEntry} (h₀ : Fr msk b₀ s) (hm₀ : 8196 ||| msk = msk) :
    Fr msk b₀ (State.bucketInsert s i x) := by
  refine Fr.step h₀ ?_ hm₀
  clear h₀ hm₀
  unfold State.bucketInsert
  try dsimp only
  repeat' (first
    | with_reducible exact Fr.refl _ _
    | exact (rfl : (_ : Nat) = _)
    | with_reducible refine State.count_fr ?_ ?_
    | with_reducible refine State.setBucket_fr ?_ ?_
    | with_reducible refine Fr.ite ?_ ?_
    | split)

theorem State.probe_fr {msk : Nat} {b₀ : State} {s : State} {pool : Nat} {cseq : Nat} {index : Nat} {g : Grain} (h₀ : Fr msk b₀ s) (hm₀ : 8196 ||| msk = msk) :
    Fr msk b₀ (State.probe s pool cseq index g).1 := by
  refine Fr.step h₀ ?_ hm₀
  clear h₀ hm₀
  unfold State.probe
  try dsimp only
  repeat' (first
    | with_reducible exact Fr.refl _ _
    | exact (rfl : (_ : Nat) = _)
    | with_reducible refine State.count_fr ?_ ?_
    | with_reducible refine State.setBucket_fr ?_ ?_
    | with_reducible refine State.bucketInsert_fr ?_ ?_
    | with_reducible refine Fr.ite₁ ?_ ?_
    | split)

theorem State.storeRaw_fr {msk : Nat} {b₀ : State} {s : State} {data : List Byte} {g : Grain} (h₀ : Fr msk b₀ s) (hm₀ : 693062 ||| msk = msk) :
    Fr msk b₀ (State.storeRaw s data g).1 := by
  refine Fr.step h₀ ?_ hm₀
  clear h₀ hm₀
  unfold State.storeRaw
  try dsimp only
  repeat' (first
    | with_reducible exact Fr.refl _ _
    | with_reducible assumption
    | exact (rfl : (_ : Nat) = _)
    | with_reducible refine State.corruptOut_fr ?_ ?_
    | with_reducible refine State.count_fr ?_ ?_
    | dsimp only
    | with_reducible refine Fr.ite ?_ ?_
    | with_reducible refine Fr.ite₁ ?_ ?_
    | with_reducible refine FrS.ite ?_ ?_
    | with_reducible refine FrP.ite ?_ ?_
    | with_reducible exact FrS.none
    | with_reducible refine FrS.some ?_
    | with_reducible refine FrS.map ?_
    | with_reducible exact FrP.none
    | with_reducible refine FrP.some ?_
    | with_reducible refine Fr.elim ?_ ?_
    | with_reducible refine Fr.foldl ?_ _ _ ?_
    | with_reducible refine Fr.foldl₂ ?_ _ _ ?_
    | intro _ _ _ _ _ _
    | intro _ _ _ _ _
    | intro _ _ _ _
    | intro _ _ _
    | intro _ _
    | intro _
    | with_reducible refine Fr.pair (h := ?_) (e := by assumption)
    | with_reducible refine FrO.got (h := ?_) (e := by assumption)
    | with_reducible refine FrS.get (h := ?_) (e := by assumption)
    | with_reducible refine FrP.get (h := ?_) (e := by assumption)
    | split)

theorem State.compress_fr {msk : Nat} {b₀ : State} {s : State} {after : Nat} {data : List Byte} {g : Grain} (h₀ : Fr msk b₀ s) (hm₀ : 701254 ||| msk = msk) :
    Fr msk b₀ (State.compress s after data g).1 := by
  refine Fr.step h₀ ?_ hm₀
  clear h₀ hm₀
  unfold State.compress
  try dsimp only
  repeat' (first
    | with_reducible exact Fr.refl _ _
    | with_reducible assumption
    | exact (rfl : (_ : Nat) = _)
    | with_reducible refine State.count_fr ?_ ?_
    | with_reducible refine State.storeRaw_fr ?_ ?_
    | with_reducible refine State.corruptOut_fr ?_ ?_
    | dsimp only
    | with_reducible refine Fr.ite ?_ ?_
    | with_reducible refine Fr.ite₁ ?_ ?_
    | with_reducible refine FrS.ite ?_ ?_
    | with_reducible refine FrP.ite ?_ ?_
    | with_reducible exact FrS.none
    | with_reducible refine FrS.some ?_
    | with_reducible refine FrS.map ?_
    | with_reducible exact FrP.none
    | with_reducible refine FrP.some ?_
    | with_reducible refine Fr.elim ?_ ?_
    | with_reducible refine Fr.foldl ?_ _ _ ?_
    | with_reducible refine Fr.foldl₂ ?_ _ _ ?_
    | intro _ _ _ _ _ _
    | intro _ _ _ _ _
    | intro _ _ _ _
    | intro _ _ _
    | intro _ _
    | intro _
    | with_reducible refine Fr.pair (h := ?_) (e := by assumption)
    | with_reducible refine FrO.got (h := ?_) (e := by assumption)
    | with_reducible refine FrS.get (h := ?_) (e := by assumption)
    | with_reducible refine FrP.get (h := ?_) (e := by assumption)
    | split
    | refine Fr.mk' ?_)

theorem State.hotSearch_fr {msk : Nat} {b₀ : State} {s : State} {pool : Nat} {bad : List Nat} {g : Grain} (h₀ : Fr msk b₀ s) (hm₀ : 701254 ||| msk = msk) :
    Fr msk b₀ (State.hotSearch s pool bad g).1 := by
  refine Fr.step h₀ ?_ hm₀
  clear h₀ hm₀
  unfold State.hotSearch
  try dsimp only
  repeat' (first
    | with_reducible exact Fr.refl _ _
    | with_reducible assumption
    | exact (rfl : (_ : Nat) = _)
    | with_reducible refine State.camFound_fr ?_ ?_
    | with_reducible refine State.countSearch_fr ?_ ?_
    | with_reducible refine State.count_fr ?_ ?_
    | dsimp only
    | with_reducible refine Fr.ite ?_ ?_
    | with_reducible refine Fr.ite₁ ?_ ?_
    | with_reducible refine FrS.ite ?_ ?_
    | with_reducible refine FrP.ite ?_ ?_
    | with_reducible exact FrS.none
    | with_reducible refine FrS.some ?_
    | with_reducible refine FrS.map ?_
    | with_reducible exact FrP.none
    | with_reducible refine FrP.some ?_
    | with_reducible refine Fr.elim ?_ ?_
    | with_reducible refine Fr.foldl ?_ _ _ ?_
    | with_reducible refine Fr.foldl₂ ?_ _ _ ?_
    | intro _ _ _ _ _ _
    | intro _ _ _ _ _
    | intro _ _ _ _
    | intro _ _ _
    | intro _ _
    | intro _
    | with_reducible refine Fr.pair (h := ?_) (e := by assumption)
    | with_reducible refine FrO.got (h := ?_) (e := by assumption)
    | with_reducible refine FrS.get (h := ?_) (e := by assumption)
    | with_reducible refine FrP.get (h := ?_) (e := by assumption)
    | split
    | refine Fr.mk' ?_)

theorem State.reduce_fr {msk : Nat} {b₀ : State} {s : State} {pool : Nat} {format : Nat} {after : Nat} {bad : List Nat} {data : List Byte} {g : Grain} (h₀ : Fr msk b₀ s) (hm₀ : 701254 ||| msk = msk) :
    Fr msk b₀ (State.reduce s pool format after bad data g).1 := by
  refine Fr.step h₀ ?_ hm₀
  clear h₀ hm₀
  unfold State.reduce
  try dsimp only
  repeat' (first
    | with_reducible exact Fr.refl _ _
    | with_reducible assumption
    | exact (rfl : (_ : Nat) = _)
    | with_reducible refine State.count_fr ?_ ?_
    | with_reducible refine State.compress_fr ?_ ?_
    | with_reducible refine State.hotSearch_fr ?_ ?_
    | dsimp only
    | with_reducible refine Fr.ite ?_ ?_
    | with_reducible refine Fr.ite₁ ?_ ?_
    | with_reducible refine FrS.ite ?_ ?_
    | with_reducible refine FrP.ite ?_ ?_
    | with_reducible exact FrS.none
    | with_reducible refine FrS.some ?_
    | with_reducible refine FrS.map ?_
    | with_reducible exact FrP.none
    | with_reducible refine FrP.some ?_
    | with_reducible refine Fr.elim ?_ ?_
    | with_reducible refine Fr.foldl ?_ _ _ ?_
    | with_reducible refine Fr.foldl₂ ?_ _ _ ?_
    | intro _ _ _ _ _ _
    | intro _ _ _ _ _
    | intro _ _ _ _
    | intro _ _ _
    | intro _ _
    | intro _
    | with_reducible refine Fr.pair (h := ?_) (e := by assumption)
    | with_reducible refine FrO.got (h := ?_) (e := by assumption)
    | with_reducible refine FrS.get (h := ?_) (e := by assumption)
    | with_reducible refine FrP.get (h := ?_) (e := by assumption)
    | split
    | refine Fr.mk' ?_)

theorem State.checkDisagree_fr {msk : Nat} {b₀ : State} {s : State} {unit : Nat} {injected : Bool} (h₀ : Fr msk b₀ s) (hm₀ : 693062 ||| msk = msk) :
    Fr msk b₀ (State.checkDisagree s unit injected) := by
  refine Fr.step h₀ ?_ hm₀
  clear h₀ hm₀
  unfold State.checkDisagree
  try dsimp only
  repeat' (first
    | with_reducible exact Fr.refl _ _
    | exact (rfl : (_ : Nat) = _)
    | with_reducible refine State.raise_fr ?_ ?_
    | with_reducible refine State.count_fr ?_ ?_)

theorem State.mirrorSend_fr {msk : Nat} {b₀ : State} {s : State} {cseq : Nat} (h₀ : Fr msk b₀ s) (hm₀ : 32774 ||| msk = msk) :
    Fr msk b₀ (State.mirrorSend s cseq) := by
  refine Fr.step h₀ ?_ hm₀
  clear h₀ hm₀
  unfold State.mirrorSend
  try dsimp only
  repeat' (first
    | with_reducible exact Fr.refl _ _
    | with_reducible assumption
    | exact (rfl : (_ : Nat) = _)
    | with_reducible refine State.tlSend_fr ?_ ?_
    | dsimp only
    | with_reducible refine Fr.ite ?_ ?_
    | with_reducible refine Fr.ite₁ ?_ ?_
    | with_reducible refine FrS.ite ?_ ?_
    | with_reducible refine FrP.ite ?_ ?_
    | with_reducible exact FrS.none
    | with_reducible refine FrS.some ?_
    | with_reducible refine FrS.map ?_
    | with_reducible exact FrP.none
    | with_reducible refine FrP.some ?_
    | with_reducible refine Fr.elim ?_ ?_
    | with_reducible refine Fr.foldl ?_ _ _ ?_
    | with_reducible refine Fr.foldl₂ ?_ _ _ ?_
    | intro _ _ _ _ _ _
    | intro _ _ _ _ _
    | intro _ _ _ _
    | intro _ _ _
    | intro _ _
    | intro _
    | with_reducible refine Fr.pair (h := ?_) (e := by assumption)
    | with_reducible refine FrO.got (h := ?_) (e := by assumption)
    | with_reducible refine FrS.get (h := ?_) (e := by assumption)
    | with_reducible refine FrP.get (h := ?_) (e := by assumption)
    | split)

theorem State.bucketCrc_fr {msk : Nat} {b₀ : State} {s : State} {i : Nat} (h₀ : Fr msk b₀ s) (hm₀ : 701254 ||| msk = msk) :
    Fr msk b₀ (State.bucketCrc s i) := by
  refine Fr.step h₀ ?_ hm₀
  clear h₀ hm₀
  unfold State.bucketCrc
  try dsimp only
  repeat' (first
    | with_reducible exact Fr.refl _ _
    | exact (rfl : (_ : Nat) = _)
    | with_reducible refine State.raise_fr ?_ ?_
    | with_reducible refine State.setBucket_fr ?_ ?_)

theorem State.ringStall_fr {msk : Nat} {b₀ : State} {s : State} {cseq : Nat} (h₀ : Fr msk b₀ s) (hm₀ : 4100 ||| msk = msk) :
    Fr msk b₀ (State.ringStall s cseq) := by
  refine Fr.step h₀ ?_ hm₀
  clear h₀ hm₀
  unfold State.ringStall
  try dsimp only
  repeat' (first
    | with_reducible exact Fr.refl _ _
    | exact (rfl : (_ : Nat) = _)
    | with_reducible refine State.count_fr ?_ ?_
    | with_reducible refine Fr.ite ?_ ?_
    | refine Fr.mk' ?_)

theorem execEntrySeal_fr {msk : Nat} {b₀ : State} {cseq : Nat} {s : State} (h₀ : Fr msk b₀ s) (hm₀ : 63494 ||| msk = msk) :
    FrO msk b₀ (execEntrySeal cseq s) := by
  refine FrO.step h₀ ?_ hm₀
  clear h₀ hm₀
  unfold execEntrySeal
  try dsimp only
  repeat' (first
    | with_reducible exact Fr.refl _ _
    | exact (rfl : (_ : Nat) = _)
    | with_reducible refine State.ringStall_fr ?_ ?_
    | with_reducible refine State.countBy_fr ?_ ?_
    | with_reducible refine State.setPart_fr ?_ ?_
    | with_reducible refine State.replRecord_fr ?_ ?_
    | with_reducible refine State.mirrorSend_fr ?_ ?_
    | with_reducible refine State.commitPart_fr ?_ ?_
    | with_reducible refine Fr.ite ?_ ?_
    | with_reducible refine FrO.ite ?_ ?_
    | with_reducible refine FrO.next ?_
    | split
    | refine Fr.mk' ?_)

theorem execProbeDeadline_fr {msk : Nat} {b₀ : State} {cseq : Nat} {index : Nat} {s : State} (h₀ : Fr msk b₀ s) (hm₀ : 12292 ||| msk = msk) :
    FrO msk b₀ (execProbeDeadline cseq index s) := by
  refine FrO.step h₀ ?_ hm₀
  clear h₀ hm₀
  unfold execProbeDeadline
  try dsimp only
  repeat' (first
    | with_reducible exact Fr.refl _ _
    | exact (rfl : (_ : Nat) = _)
    | with_reducible refine State.putPart_fr ?_ ?_
    | with_reducible refine State.count_fr ?_ ?_
    | with_reducible refine Fr.ite ?_ ?_
    | with_reducible refine FrO.next ?_
    | split
    | refine Fr.mk' ?_)

theorem State.relayData_fr {msk : Nat} {b₀ : State} {s : State} {n : Nat} {data : List Byte} {pi : List (Nat × Nat × Nat)} (h₀ : Fr msk b₀ s) (hm₀ : 32774 ||| msk = msk) :
    Fr msk b₀ (State.relayData s n data pi) := by
  refine Fr.step h₀ ?_ hm₀
  clear h₀ hm₀
  unfold State.relayData
  try dsimp only
  repeat' (first
    | with_reducible exact Fr.refl _ _
    | exact (rfl : (_ : Nat) = _)
    | with_reducible refine State.tlSend_fr ?_ ?_
    | with_reducible refine Fr.ite ?_ ?_
    | split)

theorem State.replMirror_fr {msk : Nat} {b₀ : State} {s : State} {cseq : Nat} {p : Part} (h₀ : Fr msk b₀ s) (hm₀ : 34822 ||| msk = msk) :
    Fr msk b₀ (State.replMirror s cseq p) := by
  refine Fr.step h₀ ?_ hm₀
  clear h₀ hm₀
  unfold State.replMirror
  try dsimp only
  repeat' (first
    | with_reducible exact Fr.refl _ _
    | exact (rfl : (_ : Nat) = _)
    | with_reducible refine State.replRecord_fr ?_ ?_
    | with_reducible refine Fr.ite ?_ ?_
    | split)

theorem State.piFailed_fr {msk : Nat} {b₀ : State} {s : State} {n : Nat} {c : HostCmd} (h₀ : Fr msk b₀ s) (hm₀ : 2052 ||| msk = msk) :
    Fr msk b₀ (State.piFailed s n c) := by
  refine Fr.step h₀ ?_ hm₀
  clear h₀ hm₀
  unfold State.piFailed
  try dsimp only
  repeat' (first
    | with_reducible exact Fr.refl _ _
    | with_reducible assumption
    | exact (rfl : (_ : Nat) = _)
    | with_reducible refine State.count_fr ?_ ?_
    | with_reducible refine State.setCmd_fr ?_ ?_
    | dsimp only
    | with_reducible refine Fr.ite ?_ ?_
    | with_reducible refine Fr.ite₁ ?_ ?_
    | with_reducible refine FrS.ite ?_ ?_
    | with_reducible refine FrP.ite ?_ ?_
    | with_reducible exact FrS.none
    | with_reducible refine FrS.some ?_
    | with_reducible refine FrS.map ?_
    | with_reducible exact FrP.none
    | with_reducible refine FrP.some ?_
    | with_reducible refine Fr.elim ?_ ?_
    | with_reducible refine Fr.foldl ?_ _ _ ?_
    | with_reducible refine Fr.foldl₂ ?_ _ _ ?_
    | intro _ _ _ _ _ _
    | intro _ _ _ _ _
    | intro _ _ _ _
    | intro _ _ _
    | intro _ _
    | intro _
    | with_reducible refine Fr.pair (h := ?_) (e := by assumption)
    | with_reducible refine FrO.got (h := ?_) (e := by assumption)
    | with_reducible refine FrS.get (h := ?_) (e := by assumption)
    | with_reducible refine FrP.get (h := ?_) (e := by assumption)
    | split)

theorem State.takeGrain_fr {msk : Nat} {b₀ : State} {s : State} {c : HostCmd} {p : Part} {mask : Nat} {after : Nat} {bad : List Nat} {data : List Byte} {pi : List SectorPi} (h₀ : Fr msk b₀ s) (hm₀ : 701254 ||| msk = msk) :
    Fr msk b₀ (State.takeGrain s c p mask after bad data pi).1 := by
  refine Fr.step h₀ ?_ hm₀
  clear h₀ hm₀
  unfold State.takeGrain
  try dsimp only
  repeat' (first
    | with_reducible exact Fr.refl _ _
    | exact (rfl : (_ : Nat) = _)
    | with_reducible refine State.reduce_fr ?_ ?_
    | with_reducible refine Fr.ite₁ ?_ ?_)

theorem execDataArrive_fr {msk : Nat} {b₀ : State} {cseq : Nat} {data : List Byte} {pi : List (Nat × Nat × Nat)} {after : Nat} {unit : Nat} {bad : Nat} {units : List Nat} {s : State} (h₀ : Fr msk b₀ s) (hm₀ : 719686 ||| msk = msk) :
    FrO msk b₀ (execDataArrive cseq data pi after unit bad units s) := by
  refine FrO.step h₀ ?_ hm₀
  clear h₀ hm₀
  unfold execDataArrive
  try dsimp only
  repeat' (first
    | with_reducible exact Fr.refl _ _
    | with_reducible assumption
    | exact (rfl : (_ : Nat) = _)
    | with_reducible refine State.relayData_fr ?_ ?_
    | with_reducible refine State.failPart_fr ?_ ?_
    | with_reducible refine State.piFailed_fr ?_ ?_
    | with_reducible refine State.inject_fr ?_ ?_
    | with_reducible refine State.operate_fr ?_ ?_
    | with_reducible refine State.checkDisagree_fr ?_ ?_
    | with_reducible refine State.takeGrain_fr ?_ ?_
    | with_reducible refine State.putPart_fr ?_ ?_
    | dsimp only
    | with_reducible refine Fr.ite ?_ ?_
    | with_reducible refine Fr.ite₁ ?_ ?_
    | with_reducible refine FrO.ite ?_ ?_
    | with_reducible refine FrS.ite ?_ ?_
    | with_reducible refine FrP.ite ?_ ?_
    | with_reducible refine FrO.next ?_
    | with_reducible exact FrS.none
    | with_reducible refine FrS.some ?_
    | with_reducible refine FrS.map ?_
    | with_reducible exact FrP.none
    | with_reducible refine FrP.some ?_
    | with_reducible refine Fr.elim ?_ ?_
    | with_reducible refine Fr.foldl ?_ _ _ ?_
    | with_reducible refine Fr.foldl₂ ?_ _ _ ?_
    | intro _ _ _ _ _ _
    | intro _ _ _ _ _
    | intro _ _ _ _
    | intro _ _ _
    | intro _ _
    | intro _
    | with_reducible refine Fr.pair (h := ?_) (e := by assumption)
    | with_reducible refine FrO.got (h := ?_) (e := by assumption)
    | with_reducible refine FrS.get (h := ?_) (e := by assumption)
    | with_reducible refine FrP.get (h := ?_) (e := by assumption)
    | split)

theorem execProbeAnswer_fr {msk : Nat} {b₀ : State} {cseq : Nat} {index : Nat} {errs : List (Nat × Nat)} {s : State} (h₀ : Fr msk b₀ s) (hm₀ : 701254 ||| msk = msk) :
    FrO msk b₀ (execProbeAnswer cseq index errs s) := by
  refine FrO.step h₀ ?_ hm₀
  clear h₀ hm₀
  unfold execProbeAnswer
  try dsimp only
  repeat' (first
    | with_reducible exact Fr.refl _ _
    | exact (rfl : (_ : Nat) = _)
    | with_reducible refine State.putPart_fr ?_ ?_
    | with_reducible refine State.count_fr ?_ ?_
    | with_reducible refine State.bucketCrc_fr ?_ ?_
    | with_reducible refine State.probe_fr ?_ ?_
    | with_reducible refine Fr.ite ?_ ?_
    | with_reducible refine FrO.ite ?_ ?_
    | with_reducible refine FrO.next ?_
    | split
    | refine Fr.mk' ?_)

end Sys2Proof.Machine
end

