-- ==== Sys2Proof/Laws/FrMirror.lean ====
section
/-! SUPPORT. Frames of the operations of Machine.Mirror: the parts of State that each may change. -/

set_option maxRecDepth 20000
set_option Elab.async false
set_option linter.unusedTactic false
set_option linter.unreachableTactic false
set_option linter.unusedVariables false

namespace Sys2Proof.Machine

theorem State.setSpillReady_fr {msk : Nat} {b₀ : State} {s : State} {r : Bool} (h₀ : Fr msk b₀ s) (hm₀ : 4 ||| msk = msk) :
    Fr msk b₀ (State.setSpillReady s r) := by
  refine Fr.step h₀ ?_ hm₀
  clear h₀ hm₀
  unfold State.setSpillReady
  try dsimp only
  repeat' (first
    | with_reducible exact Fr.refl _ _
    | exact (rfl : (_ : Nat) = _)
    | with_reducible refine State.putBit_fr ?_ ?_
    | with_reducible refine State.event_fr ?_ ?_
    | with_reducible refine Fr.ite ?_ ?_)

theorem State.setMirrorUp_fr {msk : Nat} {b₀ : State} {s : State} {up : Bool} (h₀ : Fr msk b₀ s) (hm₀ : 4 ||| msk = msk) :
    Fr msk b₀ (State.setMirrorUp s up) := by
  refine Fr.step h₀ ?_ hm₀
  clear h₀ hm₀
  unfold State.setMirrorUp
  try dsimp only
  repeat' (first
    | with_reducible exact Fr.refl _ _
    | exact (rfl : (_ : Nat) = _)
    | with_reducible refine State.event_fr ?_ ?_
    | with_reducible refine State.putBit_fr ?_ ?_
    | with_reducible refine Fr.ite ?_ ?_)

theorem State.resyncComplete_fr {msk : Nat} {b₀ : State} {s : State} (h₀ : Fr msk b₀ s) (hm₀ : 32772 ||| msk = msk) :
    Fr msk b₀ (State.resyncComplete s) := by
  refine Fr.step h₀ ?_ hm₀
  clear h₀ hm₀
  unfold State.resyncComplete
  try dsimp only
  repeat' (first
    | with_reducible exact Fr.refl _ _
    | exact (rfl : (_ : Nat) = _)
    | with_reducible refine State.event_fr ?_ ?_
    | with_reducible refine State.putBit_fr ?_ ?_
    | with_reducible refine State.setMirrorUp_fr ?_ ?_
    | refine Fr.mk' ?_)

theorem execTlResyncDone_fr {msk : Nat} {b₀ : State} {_last : Nat} {s : State} (h₀ : Fr msk b₀ s) (hm₀ : 4 ||| msk = msk) :
    FrO msk b₀ (execTlResyncDone _last s) := by
  refine FrO.step h₀ ?_ hm₀
  clear h₀ hm₀
  unfold execTlResyncDone
  try dsimp only
  repeat' (first
    | with_reducible exact Fr.refl _ _
    | exact (rfl : (_ : Nat) = _)
    | with_reducible refine State.event_fr ?_ ?_
    | with_reducible refine State.putBit_fr ?_ ?_
    | with_reducible refine Fr.ite ?_ ?_
    | with_reducible refine FrO.next ?_)

theorem execTlMirrorRelease_fr {msk : Nat} {b₀ : State} {cseqs : List Nat} {s : State} (h₀ : Fr msk b₀ s) (hm₀ : 4096 ||| msk = msk) :
    FrO msk b₀ (execTlMirrorRelease cseqs s) := by
  refine FrO.step h₀ ?_ hm₀
  clear h₀ hm₀
  unfold execTlMirrorRelease
  try dsimp only
  repeat' (first
    | with_reducible exact Fr.refl _ _
    | with_reducible assumption
    | exact (rfl : (_ : Nat) = _)
    | dsimp only
    | with_reducible refine Fr.ite ?_ ?_
    | with_reducible refine Fr.ite₁ ?_ ?_
    | with_reducible refine FrO.ite ?_ ?_
    | with_reducible refine FrS.ite ?_ ?_
    | with_reducible refine FrP.ite ?_ ?_
    | with_reducible refine FrO.next ?_
    | with_reducible exact FrS.none
    | with_reducible refine FrS.some ?_
    | with_reducible refine FrS.map ?_
    | with_reducible exact FrP.none
    | with_reducible refine FrP.some ?_
    | with_reducible refine Fr.elim ?_ ?_
    | with_reducible refine Fr.foldl ?_ _ _ ?_
    | with_reducible refine Fr.foldl₂ ?_ _ _ ?_
    | intro _ _ _ _ _ _
    | intro _ _ _ _ _
    | intro _ _ _ _
    | intro _ _ _
    | intro _ _
    | intro _
    | with_reducible refine Fr.pair (h := ?_) (e := by assumption)
    | with_reducible refine FrO.got (h := ?_) (e := by assumption)
    | with_reducible refine FrS.get (h := ?_) (e := by assumption)
    | with_reducible refine FrP.get (h := ?_) (e := by assumption)
    | split
    | refine Fr.mk' ?_)

theorem execTlMirrorNak_fr {msk : Nat} {b₀ : State} {cseq : Nat} {s : State} (h₀ : Fr msk b₀ s) (hm₀ : 32774 ||| msk = msk) :
    FrO msk b₀ (execTlMirrorNak cseq s) := by
  refine FrO.step h₀ ?_ hm₀
  clear h₀ hm₀
  unfold execTlMirrorNak
  try dsimp only
  repeat' (first
    | with_reducible exact Fr.refl _ _
    | exact (rfl : (_ : Nat) = _)
    | with_reducible refine State.mirrorSend_fr ?_ ?_
    | with_reducible refine FrO.ite ?_ ?_
    | with_reducible refine FrO.next ?_
    | split)

theorem State.startResync_fr {msk : Nat} {b₀ : State} {s : State} (h₀ : Fr msk b₀ s) (hm₀ : 32774 ||| msk = msk) :
    Fr msk b₀ (State.startResync s) := by
  refine Fr.step h₀ ?_ hm₀
  clear h₀ hm₀
  unfold State.startResync
  try dsimp only
  repeat' (first
    | with_reducible exact Fr.refl _ _
    | with_reducible assumption
    | exact (rfl : (_ : Nat) = _)
    | with_reducible refine State.tlSend_fr ?_ ?_
    | with_reducible refine State.putBit_fr ?_ ?_
    | with_reducible refine State.resyncComplete_fr ?_ ?_
    | dsimp only
    | with_reducible refine Fr.ite ?_ ?_
    | with_reducible refine Fr.ite₁ ?_ ?_
    | with_reducible refine FrS.ite ?_ ?_
    | with_reducible refine FrP.ite ?_ ?_
    | with_reducible exact FrS.none
    | with_reducible refine FrS.some ?_
    | with_reducible refine FrS.map ?_
    | with_reducible exact FrP.none
    | with_reducible refine FrP.some ?_
    | with_reducible refine Fr.elim ?_ ?_
    | with_reducible refine Fr.foldl ?_ _ _ ?_
    | with_reducible refine Fr.foldl₂ ?_ _ _ ?_
    | intro _ _ _ _ _ _
    | intro _ _ _ _ _
    | intro _ _ _ _
    | intro _ _ _
    | intro _ _
    | intro _
    | with_reducible refine Fr.pair (h := ?_) (e := by assumption)
    | with_reducible refine FrO.got (h := ?_) (e := by assumption)
    | with_reducible refine FrS.get (h := ?_) (e := by assumption)
    | with_reducible refine FrP.get (h := ?_) (e := by assumption)
    | split
    | refine Fr.mk' ?_)

theorem State.mirrorUpAgain_fr {msk : Nat} {b₀ : State} {s : State} (h₀ : Fr msk b₀ s) (hm₀ : 4 ||| msk = msk) :
    Fr msk b₀ (State.mirrorUpAgain s) := by
  refine Fr.step h₀ ?_ hm₀
  clear h₀ hm₀
  unfold State.mirrorUpAgain
  try dsimp only
  repeat' (first
    | with_reducible exact Fr.refl _ _
    | exact (rfl : (_ : Nat) = _)
    | with_reducible refine State.setMirrorUp_fr ?_ ?_
    | with_reducible refine Fr.ite ?_ ?_)

theorem State.resyncAck_fr {msk : Nat} {b₀ : State} {s : State} {cseq : Nat} (h₀ : Fr msk b₀ s) (hm₀ : 32772 ||| msk = msk) :
    Fr msk b₀ (State.resyncAck s cseq) := by
  refine Fr.step h₀ ?_ hm₀
  clear h₀ hm₀
  unfold State.resyncAck
  try dsimp only
  repeat' (first
    | with_reducible exact Fr.refl _ _
    | exact (rfl : (_ : Nat) = _)
    | with_reducible refine State.resyncComplete_fr ?_ ?_
    | with_reducible refine Fr.ite ?_ ?_
    | split
    | refine Fr.mk' ?_)

theorem State.stagedAck_fr {msk : Nat} {b₀ : State} {s : State} {cseq : Nat} (h₀ : Fr msk b₀ s) (hm₀ : 32770 ||| msk = msk) :
    Fr msk b₀ (State.stagedAck s cseq) := by
  refine Fr.step h₀ ?_ hm₀
  clear h₀ hm₀
  unfold State.stagedAck
  try dsimp only
  repeat' (first
    | with_reducible exact Fr.refl _ _
    | with_reducible assumption
    | exact (rfl : (_ : Nat) = _)
    | with_reducible refine State.setGroup_fr ?_ ?_
    | with_reducible refine State.replReply_fr ?_ ?_
    | dsimp only
    | with_reducible refine Fr.ite ?_ ?_
    | with_reducible refine Fr.ite₁ ?_ ?_
    | with_reducible refine FrS.ite ?_ ?_
    | with_reducible refine FrP.ite ?_ ?_
    | with_reducible exact FrS.none
    | with_reducible refine FrS.some ?_
    | with_reducible refine FrS.map ?_
    | with_reducible exact FrP.none
    | with_reducible refine FrP.some ?_
    | with_reducible refine Fr.elim ?_ ?_
    | with_reducible refine Fr.foldl ?_ _ _ ?_
    | with_reducible refine Fr.foldl₂ ?_ _ _ ?_
    | intro _ _ _ _ _ _
    | intro _ _ _ _ _
    | intro _ _ _ _
    | intro _ _ _
    | intro _ _
    | intro _
    | with_reducible refine Fr.pair (h := ?_) (e := by assumption)
    | with_reducible refine FrO.got (h := ?_) (e := by assumption)
    | with_reducible refine FrS.get (h := ?_) (e := by assumption)
    | with_reducible refine FrP.get (h := ?_) (e := by assumption)
    | split)

theorem execTlMirrorAck_fr {msk : Nat} {b₀ : State} {cseq : Nat} {s : State} (h₀ : Fr msk b₀ s) (hm₀ : 63494 ||| msk = msk) :
    FrO msk b₀ (execTlMirrorAck cseq s) := by
  refine FrO.step h₀ ?_ hm₀
  clear h₀ hm₀
  unfold execTlMirrorAck
  try dsimp only
  repeat' (first
    | with_reducible exact Fr.refl _ _
    | with_reducible assumption
    | exact (rfl : (_ : Nat) = _)
    | with_reducible refine State.mirrorUpAgain_fr ?_ ?_
    | with_reducible refine State.resyncAck_fr ?_ ?_
    | with_reducible refine State.stagedAck_fr ?_ ?_
    | with_reducible refine State.commitPart_fr ?_ ?_
    | dsimp only
    | with_reducible refine Fr.ite ?_ ?_
    | with_reducible refine Fr.ite₁ ?_ ?_
    | with_reducible refine FrO.ite ?_ ?_
    | with_reducible refine FrS.ite ?_ ?_
    | with_reducible refine FrP.ite ?_ ?_
    | with_reducible refine FrO.next ?_
    | with_reducible exact FrS.none
    | with_reducible refine FrS.some ?_
    | with_reducible refine FrS.map ?_
    | with_reducible exact FrP.none
    | with_reducible refine FrP.some ?_
    | with_reducible refine Fr.elim ?_ ?_
    | with_reducible refine Fr.foldl ?_ _ _ ?_
    | with_reducible refine Fr.foldl₂ ?_ _ _ ?_
    | intro _ _ _ _ _ _
    | intro _ _ _ _ _
    | intro _ _ _ _
    | intro _ _ _
    | intro _ _
    | intro _
    | with_reducible refine Fr.pair (h := ?_) (e := by assumption)
    | with_reducible refine FrO.got (h := ?_) (e := by assumption)
    | with_reducible refine FrS.get (h := ?_) (e := by assumption)
    | with_reducible refine FrP.get (h := ?_) (e := by assumption)
    | split)

theorem execMirrorTimeout_fr {msk : Nat} {b₀ : State} {cseq : Nat} {s : State} (h₀ : Fr msk b₀ s) (hm₀ : 693062 ||| msk = msk) :
    FrO msk b₀ (execMirrorTimeout cseq s) := by
  refine FrO.step h₀ ?_ hm₀
  clear h₀ hm₀
  unfold execMirrorTimeout
  try dsimp only
  repeat' (first
    | with_reducible exact Fr.refl _ _
    | exact (rfl : (_ : Nat) = _)
    | with_reducible refine State.mirrorSend_fr ?_ ?_
    | with_reducible refine State.putPart_fr ?_ ?_
    | with_reducible refine State.raise_fr ?_ ?_
    | with_reducible refine State.setMirrorUp_fr ?_ ?_
    | with_reducible refine FrO.ite ?_ ?_
    | with_reducible refine FrO.next ?_
    | split)

theorem State.mirrorTake_fr {msk : Nat} {b₀ : State} {s : State} {off : Nat} {image : List Byte} (h₀ : Fr msk b₀ s) (hm₀ : 36870 ||| msk = msk) :
    Fr msk b₀ (State.mirrorTake s off image) := by
  refine Fr.step h₀ ?_ hm₀
  clear h₀ hm₀
  unfold State.mirrorTake
  try dsimp only
  repeat' (first
    | with_reducible exact Fr.refl _ _
    | with_reducible assumption
    | exact (rfl : (_ : Nat) = _)
    | with_reducible refine State.tlSend_fr ?_ ?_
    | dsimp only
    | with_reducible refine Fr.ite ?_ ?_
    | with_reducible refine Fr.ite₁ ?_ ?_
    | with_reducible refine FrS.ite ?_ ?_
    | with_reducible refine FrP.ite ?_ ?_
    | with_reducible exact FrS.none
    | with_reducible refine FrS.some ?_
    | with_reducible refine FrS.map ?_
    | with_reducible exact FrP.none
    | with_reducible refine FrP.some ?_
    | with_reducible refine Fr.elim ?_ ?_
    | with_reducible refine Fr.foldl ?_ _ _ ?_
    | with_reducible refine Fr.foldl₂ ?_ _ _ ?_
    | intro _ _ _ _ _ _
    | intro _ _ _ _ _
    | intro _ _ _ _
    | intro _ _ _
    | intro _ _
    | intro _
    | with_reducible refine Fr.pair (h := ?_) (e := by assumption)
    | with_reducible refine FrO.got (h := ?_) (e := by assumption)
    | with_reducible refine FrS.get (h := ?_) (e := by assumption)
    | with_reducible refine FrP.get (h := ?_) (e := by assumption)
    | split
    | refine Fr.mk' ?_)

theorem execTlMirrorWrite_fr {msk : Nat} {b₀ : State} {off : Nat} {image : List Byte} {s : State} (h₀ : Fr msk b₀ s) (hm₀ : 38918 ||| msk = msk) :
    FrO msk b₀ (execTlMirrorWrite off image s) := by
  refine FrO.step h₀ ?_ hm₀
  clear h₀ hm₀
  unfold execTlMirrorWrite
  try dsimp only
  repeat' (first
    | with_reducible exact Fr.refl _ _
    | with_reducible assumption
    | exact (rfl : (_ : Nat) = _)
    | with_reducible refine State.mirrorTake_fr ?_ ?_
    | with_reducible refine State.replMirror_fr ?_ ?_
    | dsimp only
    | with_reducible refine Fr.ite ?_ ?_
    | with_reducible refine Fr.ite₁ ?_ ?_
    | with_reducible refine FrO.ite ?_ ?_
    | with_reducible refine FrS.ite ?_ ?_
    | with_reducible refine FrP.ite ?_ ?_
    | with_reducible refine FrO.next ?_
    | with_reducible exact FrS.none
    | with_reducible refine FrS.some ?_
    | with_reducible refine FrS.map ?_
    | with_reducible exact FrP.none
    | with_reducible refine FrP.some ?_
    | with_reducible refine Fr.elim ?_ ?_
    | with_reducible refine Fr.foldl ?_ _ _ ?_
    | with_reducible refine Fr.foldl₂ ?_ _ _ ?_
    | intro _ _ _ _ _ _
    | intro _ _ _ _ _
    | intro _ _ _ _
    | intro _ _ _
    | intro _ _
    | intro _
    | with_reducible refine Fr.pair (h := ?_) (e := by assumption)
    | with_reducible refine FrO.got (h := ?_) (e := by assumption)
    | with_reducible refine FrS.get (h := ?_) (e := by assumption)
    | with_reducible refine FrP.get (h := ?_) (e := by assumption)
    | split)

theorem execTlResyncData_fr {msk : Nat} {b₀ : State} {off : Nat} {image : List Byte} {s : State} (h₀ : Fr msk b₀ s) (hm₀ : 36870 ||| msk = msk) :
    FrO msk b₀ (execTlResyncData off image s) := by
  refine FrO.step h₀ ?_ hm₀
  clear h₀ hm₀
  unfold execTlResyncData
  try dsimp only
  repeat' (first
    | with_reducible exact Fr.refl _ _
    | with_reducible assumption
    | exact (rfl : (_ : Nat) = _)
    | with_reducible refine State.mirrorTake_fr ?_ ?_
    | dsimp only
    | with_reducible refine Fr.ite ?_ ?_
    | with_reducible refine Fr.ite₁ ?_ ?_
    | with_reducible refine FrO.ite ?_ ?_
    | with_reducible refine FrS.ite ?_ ?_
    | with_reducible refine FrP.ite ?_ ?_
    | with_reducible refine FrO.next ?_
    | with_reducible exact FrS.none
    | with_reducible refine FrS.some ?_
    | with_reducible refine FrS.map ?_
    | with_reducible exact FrP.none
    | with_reducible refine FrP.some ?_
    | with_reducible refine Fr.elim ?_ ?_
    | with_reducible refine Fr.foldl ?_ _ _ ?_
    | with_reducible refine Fr.foldl₂ ?_ _ _ ?_
    | intro _ _ _ _ _ _
    | intro _ _ _ _ _
    | intro _ _ _ _
    | intro _ _ _
    | intro _ _
    | intro _
    | with_reducible refine Fr.pair (h := ?_) (e := by assumption)
    | with_reducible refine FrO.got (h := ?_) (e := by assumption)
    | with_reducible refine FrS.get (h := ?_) (e := by assumption)
    | with_reducible refine FrP.get (h := ?_) (e := by assumption)
    | split)

end Sys2Proof.Machine
end

