-- ==== Sys2Proof/Laws/FrJournal.lean ====
section
/-! SUPPORT. Frames of the operations of Machine.Journal: the parts of State that each may change. -/

set_option maxRecDepth 20000
set_option Elab.async false
set_option linter.unusedTactic false
set_option linter.unreachableTactic false
set_option linter.unusedVariables false

namespace Sys2Proof.Machine

theorem State.addTxn_fr {msk : Nat} {b₀ : State} {s : State} {pool : Nat} {flags : Nat} {cseq : Nat} {vol : Nat} {ops : List MapOp} (h₀ : Fr msk b₀ s) (hm₀ : 16384 ||| msk = msk) :
    Fr msk b₀ (State.addTxn s pool flags cseq vol ops).1 := by
  refine Fr.step h₀ ?_ hm₀
  clear h₀ hm₀
  unfold State.addTxn
  try dsimp only
  repeat' (first
    | with_reducible exact Fr.refl _ _
    | exact (rfl : (_ : Nat) = _)
    | with_reducible refine State.setPool_fr ?_ ?_
    | dsimp only
    | split
    | refine Fr.mk' ?_)

theorem State.setTxn_fr {msk : Nat} {b₀ : State} {s : State} {k : Nat} {f : Txn → Txn} (h₀ : Fr msk b₀ s) (hm₀ : 16384 ||| msk = msk) :
    Fr msk b₀ (State.setTxn s k f) := by
  refine Fr.step h₀ ?_ hm₀
  clear h₀ hm₀
  unfold State.setTxn
  try dsimp only
  repeat' (first
    | with_reducible exact Fr.refl _ _
    | refine Fr.mk' ?_)

theorem State.txnsFound_fr {msk : Nat} {b₀ : State} {s : State} {l : List Txn} (h₀ : Fr msk b₀ s) (hm₀ : 16384 ||| msk = msk) :
    Fr msk b₀ (State.txnsFound s l) := by
  refine Fr.step h₀ ?_ hm₀
  clear h₀ hm₀
  unfold State.txnsFound
  try dsimp only
  repeat' (first
    | with_reducible exact Fr.refl _ _
    | with_reducible assumption
    | exact (rfl : (_ : Nat) = _)
    | dsimp only
    | with_reducible refine Fr.ite ?_ ?_
    | with_reducible refine Fr.ite₁ ?_ ?_
    | with_reducible refine FrS.ite ?_ ?_
    | with_reducible refine FrP.ite ?_ ?_
    | with_reducible exact FrS.none
    | with_reducible refine FrS.some ?_
    | with_reducible refine FrS.map ?_
    | with_reducible exact FrP.none
    | with_reducible refine FrP.some ?_
    | with_reducible refine Fr.elim ?_ ?_
    | with_reducible refine Fr.foldl ?_ _ _ ?_
    | with_reducible refine Fr.foldl₂ ?_ _ _ ?_
    | intro _ _ _ _ _ _
    | intro _ _ _ _ _
    | intro _ _ _ _
    | intro _ _ _
    | intro _ _
    | intro _
    | with_reducible refine Fr.pair (h := ?_) (e := by assumption)
    | with_reducible refine FrO.got (h := ?_) (e := by assumption)
    | with_reducible refine FrS.get (h := ?_) (e := by assumption)
    | with_reducible refine FrP.get (h := ?_) (e := by assumption)
    | split
    | refine Fr.mk' ?_)

theorem State.journalCopy_fr {msk : Nat} {b₀ : State} {s : State} {pool : Nat} {bseq : Nat} {first : Nat} {last : Nat} {data : List Byte} {b : BandCopy} (h₀ : Fr msk b₀ s) (hm₀ : 16390 ||| msk = msk) :
    Fr msk b₀ (State.journalCopy s pool bseq first last data b) := by
  refine Fr.step h₀ ?_ hm₀
  clear h₀ hm₀
  unfold State.journalCopy
  try dsimp only
  repeat' (first
    | with_reducible exact Fr.refl _ _
    | exact (rfl : (_ : Nat) = _)
    | with_reducible refine State.sendMod_fr ?_ ?_
    | with_reducible refine Fr.ite ?_ ?_)

theorem execJournalProgram_fr {msk : Nat} {b₀ : State} {pool : Nat} {s : State} (h₀ : Fr msk b₀ s) (hm₀ : 16390 ||| msk = msk) :
    FrO msk b₀ (execJournalProgram pool s) := by
  refine FrO.step h₀ ?_ hm₀
  clear h₀ hm₀
  unfold execJournalProgram
  try dsimp only
  repeat' (first
    | with_reducible exact Fr.refl _ _
    | with_reducible assumption
    | exact (rfl : (_ : Nat) = _)
    | with_reducible refine State.journalCopy_fr ?_ ?_
    | with_reducible refine State.setPool_fr ?_ ?_
    | with_reducible refine State.setTxn_fr ?_ ?_
    | dsimp only
    | with_reducible refine Fr.ite ?_ ?_
    | with_reducible refine Fr.ite₁ ?_ ?_
    | with_reducible refine FrO.ite ?_ ?_
    | with_reducible refine FrS.ite ?_ ?_
    | with_reducible refine FrP.ite ?_ ?_
    | with_reducible refine FrO.next ?_
    | with_reducible exact FrS.none
    | with_reducible refine FrS.some ?_
    | with_reducible refine FrS.map ?_
    | with_reducible exact FrP.none
    | with_reducible refine FrP.some ?_
    | with_reducible refine Fr.elim ?_ ?_
    | with_reducible refine Fr.foldl ?_ _ _ ?_
    | with_reducible refine Fr.foldl₂ ?_ _ _ ?_
    | intro _ _ _ _ _ _
    | intro _ _ _ _ _
    | intro _ _ _ _
    | intro _ _ _
    | intro _ _
    | intro _
    | with_reducible refine Fr.pair (h := ?_) (e := by assumption)
    | with_reducible refine FrO.got (h := ?_) (e := by assumption)
    | with_reducible refine FrS.get (h := ?_) (e := by assumption)
    | with_reducible refine FrP.get (h := ?_) (e := by assumption)
    | split
    | refine Fr.mk' ?_)

theorem State.treeOp_fr {msk : Nat} {b₀ : State} {s : State} {pool : Nat} {t : Nat} {x3 : MapOp} (h₀ : Fr msk b₀ s) (hm₀ : 709446 ||| msk = msk) :
    Fr msk b₀ (State.treeOp s pool t x3) := by
  refine Fr.step h₀ ?_ hm₀
  clear h₀ hm₀
  unfold State.treeOp
  try dsimp only
  repeat' (first
    | with_reducible exact Fr.refl _ _
    | with_reducible assumption
    | exact (rfl : (_ : Nat) = _)
    | with_reducible refine State.setGrain_fr ?_ ?_
    | with_reducible refine State.shareBy_fr ?_ ?_
    | with_reducible refine State.freePage_fr ?_ ?_
    | dsimp only
    | with_reducible refine Fr.ite ?_ ?_
    | with_reducible refine Fr.ite₁ ?_ ?_
    | with_reducible refine FrS.ite ?_ ?_
    | with_reducible refine FrP.ite ?_ ?_
    | with_reducible exact FrS.none
    | with_reducible refine FrS.some ?_
    | with_reducible refine FrS.map ?_
    | with_reducible exact FrP.none
    | with_reducible refine FrP.some ?_
    | with_reducible refine Fr.elim ?_ ?_
    | with_reducible refine Fr.foldl ?_ _ _ ?_
    | with_reducible refine Fr.foldl₂ ?_ _ _ ?_
    | intro _ _ _ _ _ _
    | intro _ _ _ _ _
    | intro _ _ _ _
    | intro _ _ _
    | intro _ _
    | intro _
    | with_reducible refine Fr.pair (h := ?_) (e := by assumption)
    | with_reducible refine FrO.got (h := ?_) (e := by assumption)
    | with_reducible refine FrS.get (h := ?_) (e := by assumption)
    | with_reducible refine FrP.get (h := ?_) (e := by assumption)
    | split
    | refine Fr.mk' ?_)

theorem State.treeAfter_fr {msk : Nat} {b₀ : State} {s : State} {pool : Nat} (h₀ : Fr msk b₀ s) (hm₀ : 709446 ||| msk = msk) :
    Fr msk b₀ (State.treeAfter s pool) := by
  refine Fr.step h₀ ?_ hm₀
  clear h₀ hm₀
  unfold State.treeAfter
  try dsimp only
  repeat' (first
    | with_reducible exact Fr.refl _ _
    | with_reducible assumption
    | exact (rfl : (_ : Nat) = _)
    | with_reducible refine State.treeOp_fr ?_ ?_
    | dsimp only
    | with_reducible refine Fr.ite ?_ ?_
    | with_reducible refine Fr.ite₁ ?_ ?_
    | with_reducible refine FrS.ite ?_ ?_
    | with_reducible refine FrP.ite ?_ ?_
    | with_reducible exact FrS.none
    | with_reducible refine FrS.some ?_
    | with_reducible refine FrS.map ?_
    | with_reducible exact FrP.none
    | with_reducible refine FrP.some ?_
    | with_reducible refine Fr.elim ?_ ?_
    | with_reducible refine Fr.foldl ?_ _ _ ?_
    | with_reducible refine Fr.foldl₂ ?_ _ _ ?_
    | intro _ _ _ _ _ _
    | intro _ _ _ _ _
    | intro _ _ _ _
    | intro _ _ _
    | intro _ _
    | intro _
    | with_reducible refine Fr.pair (h := ?_) (e := by assumption)
    | with_reducible refine FrO.got (h := ?_) (e := by assumption)
    | with_reducible refine FrS.get (h := ?_) (e := by assumption)
    | with_reducible refine FrP.get (h := ?_) (e := by assumption)
    | split)

end Sys2Proof.Machine
end

