-- ==== Sys2Proof/Laws/FrStripes.lean ====
section
/-! SUPPORT. Frames of the operations of Machine.Stripes: the parts of State that each may change. -/

set_option maxRecDepth 20000
set_option Elab.async false
set_option linter.unusedTactic false
set_option linter.unreachableTactic false
set_option linter.unusedVariables false

namespace Sys2Proof.Machine

theorem State.parityInject_fr {msk : Nat} {b₀ : State} {s : State} (h₀ : Fr msk b₀ s) (hm₀ : 693062 ||| msk = msk) :
    Fr msk b₀ (State.parityInject s).1 := by
  refine Fr.step h₀ ?_ hm₀
  clear h₀ hm₀
  unfold State.parityInject
  try dsimp only
  repeat' (first
    | with_reducible exact Fr.refl _ _
    | with_reducible assumption
    | exact (rfl : (_ : Nat) = _)
    | with_reducible refine State.inject_fr ?_ ?_
    | with_reducible refine State.operate_fr ?_ ?_
    | with_reducible refine State.useFree_fr ?_ ?_
    | dsimp only
    | with_reducible refine Fr.ite ?_ ?_
    | with_reducible refine Fr.ite₁ ?_ ?_
    | with_reducible refine FrS.ite ?_ ?_
    | with_reducible refine FrP.ite ?_ ?_
    | with_reducible exact FrS.none
    | with_reducible refine FrS.some ?_
    | with_reducible refine FrS.map ?_
    | with_reducible exact FrP.none
    | with_reducible refine FrP.some ?_
    | with_reducible refine Fr.elim ?_ ?_
    | with_reducible refine Fr.foldl ?_ _ _ ?_
    | with_reducible refine Fr.foldl₂ ?_ _ _ ?_
    | intro _ _ _ _ _ _
    | intro _ _ _ _ _
    | intro _ _ _ _
    | intro _ _ _
    | intro _ _
    | intro _
    | with_reducible refine Fr.pair (h := ?_) (e := by assumption)
    | with_reducible refine FrO.got (h := ?_) (e := by assumption)
    | with_reducible refine FrS.get (h := ?_) (e := by assumption)
    | with_reducible refine FrP.get (h := ?_) (e := by assumption)
    | split)

theorem State.stripeRecord_fr {msk : Nat} {b₀ : State} {s : State} {kind : Nat} {x : Stripe} {g : Seg} {mask : Nat} (h₀ : Fr msk b₀ s) (hm₀ : 16384 ||| msk = msk) :
    Fr msk b₀ (State.stripeRecord s kind x g mask) := by
  refine Fr.step h₀ ?_ hm₀
  clear h₀ hm₀
  unfold State.stripeRecord
  try dsimp only
  repeat' (first
    | with_reducible exact Fr.refl _ _
    | refine Fr.mk' ?_)

theorem State.setStripe_fr {msk : Nat} {b₀ : State} {s : State} {i : Nat} {x : Stripe} (h₀ : Fr msk b₀ s) (hm₀ : 16384 ||| msk = msk) :
    Fr msk b₀ (State.setStripe s i x) := by
  refine Fr.step h₀ ?_ hm₀
  clear h₀ hm₀
  unfold State.setStripe
  try dsimp only
  repeat' (first
    | with_reducible exact Fr.refl _ _
    | refine Fr.mk' ?_)

theorem State.issueStripe_fr {msk : Nat} {b₀ : State} {s : State} {i : Nat} (h₀ : Fr msk b₀ s) (hm₀ : 709446 ||| msk = msk) :
    Fr msk b₀ (State.issueStripe s i) := by
  refine Fr.step h₀ ?_ hm₀
  clear h₀ hm₀
  unfold State.issueStripe
  try dsimp only
  repeat' (first
    | with_reducible exact Fr.refl _ _
    | with_reducible assumption
    | exact (rfl : (_ : Nat) = _)
    | with_reducible refine State.parityInject_fr ?_ ?_
    | with_reducible refine State.stripeRecord_fr ?_ ?_
    | with_reducible refine State.setStripe_fr ?_ ?_
    | with_reducible refine State.sendMod_fr ?_ ?_
    | with_reducible refine Fr.ite ?_ ?_
    | with_reducible refine Fr.foldl ?_ _ _ ?_
    | intro _ _ _
    | split)

theorem State.closeStripe_fr {msk : Nat} {b₀ : State} {s : State} {i : Nat} (h₀ : Fr msk b₀ s) (hm₀ : 709446 ||| msk = msk) :
    Fr msk b₀ (State.closeStripe s i) := by
  refine Fr.step h₀ ?_ hm₀
  clear h₀ hm₀
  unfold State.closeStripe
  try dsimp only
  repeat' (first
    | with_reducible exact Fr.refl _ _
    | with_reducible assumption
    | exact (rfl : (_ : Nat) = _)
    | with_reducible refine State.setSeg_fr ?_ ?_
    | with_reducible refine State.issueStripe_fr ?_ ?_
    | with_reducible refine State.setStripe_fr ?_ ?_
    | dsimp only
    | with_reducible refine Fr.ite ?_ ?_
    | with_reducible refine Fr.ite₁ ?_ ?_
    | with_reducible refine FrS.ite ?_ ?_
    | with_reducible refine FrP.ite ?_ ?_
    | with_reducible exact FrS.none
    | with_reducible refine FrS.some ?_
    | with_reducible refine FrS.map ?_
    | with_reducible exact FrP.none
    | with_reducible refine FrP.some ?_
    | with_reducible refine Fr.elim ?_ ?_
    | with_reducible refine Fr.foldl ?_ _ _ ?_
    | with_reducible refine Fr.foldl₂ ?_ _ _ ?_
    | intro _ _ _ _ _ _
    | intro _ _ _ _ _
    | intro _ _ _ _
    | intro _ _ _
    | intro _ _
    | intro _
    | with_reducible refine Fr.pair (h := ?_) (e := by assumption)
    | with_reducible refine FrO.got (h := ?_) (e := by assumption)
    | with_reducible refine FrS.get (h := ?_) (e := by assumption)
    | with_reducible refine FrP.get (h := ?_) (e := by assumption)
    | split)

theorem State.closeSegment_fr {msk : Nat} {b₀ : State} {s : State} {i : Nat} (h₀ : Fr msk b₀ s) (hm₀ : 16384 ||| msk = msk) :
    Fr msk b₀ (State.closeSegment s i) := by
  refine Fr.step h₀ ?_ hm₀
  clear h₀ hm₀
  unfold State.closeSegment
  try dsimp only
  repeat' (first
    | with_reducible exact Fr.refl _ _
    | exact (rfl : (_ : Nat) = _)
    | with_reducible refine State.setSeg_fr ?_ ?_
    | with_reducible refine State.addTxn_fr ?_ ?_
    | with_reducible refine Fr.ite ?_ ?_
    | split)

theorem State.beginStripe_fr {msk : Nat} {b₀ : State} {s : State} {seg : Nat} (h₀ : Fr msk b₀ s) (hm₀ : 16384 ||| msk = msk) :
    Fr msk b₀ (State.beginStripe s seg) := by
  refine Fr.step h₀ ?_ hm₀
  clear h₀ hm₀
  unfold State.beginStripe
  try dsimp only
  repeat' (first
    | with_reducible exact Fr.refl _ _
    | exact (rfl : (_ : Nat) = _)
    | with_reducible refine State.setSeg_fr ?_ ?_
    | with_reducible refine State.setStripe_fr ?_ ?_
    | split
    | refine Fr.mk' ?_)

theorem State.openSegment_fr {msk : Nat} {b₀ : State} {s : State} {pool : Nat} {kind : Nat} {places : List Place} (h₀ : Fr msk b₀ s) (hm₀ : 16384 ||| msk = msk) :
    Fr msk b₀ (State.openSegment s pool kind places).1 := by
  refine Fr.step h₀ ?_ hm₀
  clear h₀ hm₀
  unfold State.openSegment
  try dsimp only
  repeat' (first
    | with_reducible exact Fr.refl _ _
    | exact (rfl : (_ : Nat) = _)
    | with_reducible refine State.setPool_fr ?_ ?_
    | with_reducible refine State.addTxn_fr ?_ ?_
    | with_reducible refine Fr.ite₁ ?_ ?_
    | split
    | refine Fr.mk' ?_)

theorem State.roomFor_fr {msk : Nat} {b₀ : State} {s : State} {pool : Nat} {kind : Nat} {len : Nat} {poison : Bool} {places : List (List Place)} (h₀ : Fr msk b₀ s) (hm₀ : 709446 ||| msk = msk) :
    FrP msk b₀ (State.roomFor s pool kind len poison places) := by
  refine FrP.step h₀ ?_ hm₀
  clear h₀ hm₀
  unfold State.roomFor
  try dsimp only
  repeat' (first
    | with_reducible exact Fr.refl _ _
    | exact (rfl : (_ : Nat) = _)
    | with_reducible refine State.closeStripe_fr ?_ ?_
    | with_reducible refine State.closeSegment_fr ?_ ?_
    | with_reducible refine State.beginStripe_fr ?_ ?_
    | with_reducible refine State.openSegment_fr ?_ ?_
    | with_reducible refine Fr.ite ?_ ?_
    | with_reducible refine FrP.ite ?_ ?_
    | with_reducible exact FrP.none
    | with_reducible refine FrP.some ?_
    | with_reducible refine Fr.pair (h := ?_) (e := by assumption)
    | split)

theorem State.pack_fr {msk : Nat} {b₀ : State} {s : State} {pool : Nat} {kind : Nat} {g : Stored} {old : Nat} {fua : Bool} {places : List (List Place)} (h₀ : Fr msk b₀ s) (hm₀ : 709446 ||| msk = msk) :
    FrP msk b₀ (State.pack s pool kind g old fua places) := by
  refine FrP.step h₀ ?_ hm₀
  clear h₀ hm₀
  unfold State.pack
  try dsimp only
  repeat' (first
    | with_reducible exact Fr.refl _ _
    | exact (rfl : (_ : Nat) = _)
    | with_reducible refine State.roomFor_fr ?_ ?_
    | with_reducible refine State.setStripe_fr ?_ ?_
    | with_reducible exact FrP.none
    | with_reducible refine FrP.some ?_
    | with_reducible refine FrP.get (h := ?_) (e := by assumption)
    | split)

theorem State.setDie_fr {msk : Nat} {b₀ : State} {s : State} {m : Nat} {d : Nat} {f : Die → Die} (h₀ : Fr msk b₀ s) (hm₀ : 16384 ||| msk = msk) :
    Fr msk b₀ (State.setDie s m d f) := by
  refine Fr.step h₀ ?_ hm₀
  clear h₀ hm₀
  unfold State.setDie
  try dsimp only
  repeat' (first
    | with_reducible exact Fr.refl _ _
    | refine Fr.mk' ?_)

theorem State.setBg_fr {msk : Nat} {b₀ : State} {s : State} {m : Nat} {die : Nat} {bgrp : Nat} {f : BlockGroup → BlockGroup} (h₀ : Fr msk b₀ s) (hm₀ : 16384 ||| msk = msk) :
    Fr msk b₀ (State.setBg s m die bgrp f) := by
  refine Fr.step h₀ ?_ hm₀
  clear h₀ hm₀
  unfold State.setBg
  try dsimp only
  repeat' (first
    | with_reducible exact Fr.refl _ _
    | refine Fr.mk' ?_)

theorem State.issueSegment_fr {msk : Nat} {b₀ : State} {s : State} {seg : Nat} (h₀ : Fr msk b₀ s) (hm₀ : 709446 ||| msk = msk) :
    Fr msk b₀ (State.issueSegment s seg) := by
  refine Fr.step h₀ ?_ hm₀
  clear h₀ hm₀
  unfold State.issueSegment
  try dsimp only
  repeat' (first
    | with_reducible exact Fr.refl _ _
    | with_reducible assumption
    | exact (rfl : (_ : Nat) = _)
    | with_reducible refine State.issueStripe_fr ?_ ?_
    | with_reducible refine Fr.foldl ?_ _ _ ?_
    | intro _ _ _)

end Sys2Proof.Machine
end

