-- ==== Sys2Proof/Laws/FrApply.lean ====
section
/-! SUPPORT. Frames of the operations of Machine.Apply: the parts of State that each may change. -/

set_option maxRecDepth 20000
set_option Elab.async false
set_option linter.unusedTactic false
set_option linter.unreachableTactic false
set_option linter.unusedVariables false

namespace Sys2Proof.Machine

theorem State.partDurable_fr {msk : Nat} {b₀ : State} {s : State} {cseq : Nat} (h₀ : Fr msk b₀ s) (hm₀ : 55302 ||| msk = msk) :
    Fr msk b₀ (State.partDurable s cseq) := by
  refine Fr.step h₀ ?_ hm₀
  clear h₀ hm₀
  unfold State.partDurable
  try dsimp only
  repeat' (first
    | with_reducible exact Fr.refl _ _
    | exact (rfl : (_ : Nat) = _)
    | with_reducible refine State.putPart_fr ?_ ?_
    | with_reducible refine State.tryAck_fr ?_ ?_
    | with_reducible refine State.setCmd_fr ?_ ?_
    | with_reducible refine Fr.ite ?_ ?_
    | split)

theorem State.makeDurable_fr {msk : Nat} {b₀ : State} {s : State} {t : Txn} (h₀ : Fr msk b₀ s) (hm₀ : 55302 ||| msk = msk) :
    Fr msk b₀ (State.makeDurable s t) := by
  refine Fr.step h₀ ?_ hm₀
  clear h₀ hm₀
  unfold State.makeDurable
  try dsimp only
  repeat' (first
    | with_reducible exact Fr.refl _ _
    | exact (rfl : (_ : Nat) = _)
    | with_reducible refine State.wr64_fr ?_ ?_
    | with_reducible refine State.setTxn_fr ?_ ?_
    | with_reducible refine State.partDurable_fr ?_ ?_
    | with_reducible refine Fr.ite ?_ ?_)

theorem State.durableScan_fr {msk : Nat} {b₀ : State} {s : State} {pool : Nat} (h₀ : Fr msk b₀ s) (hm₀ : 55302 ||| msk = msk) :
    Fr msk b₀ (State.durableScan s pool) := by
  refine Fr.step h₀ ?_ hm₀
  clear h₀ hm₀
  unfold State.durableScan
  try dsimp only
  repeat' (first
    | with_reducible exact Fr.refl _ _
    | with_reducible assumption
    | exact (rfl : (_ : Nat) = _)
    | with_reducible refine State.makeDurable_fr ?_ ?_
    | with_reducible refine Fr.ite ?_ ?_
    | with_reducible refine Fr.foldl ?_ _ _ ?_
    | intro _ _ _
    | split)

theorem State.bandSingle_fr {msk : Nat} {b₀ : State} {s : State} {pool : Nat} (h₀ : Fr msk b₀ s) (hm₀ : 693062 ||| msk = msk) :
    Fr msk b₀ (State.bandSingle s pool) := by
  refine Fr.step h₀ ?_ hm₀
  clear h₀ hm₀
  unfold State.bandSingle
  try dsimp only
  repeat' (first
    | with_reducible exact Fr.refl _ _
    | exact (rfl : (_ : Nat) = _)
    | with_reducible refine State.raise_fr ?_ ?_
    | with_reducible refine Fr.ite ?_ ?_)

theorem State.bandDrop_fr {msk : Nat} {b₀ : State} {s : State} {pool : Nat} {m : Nat} (h₀ : Fr msk b₀ s) (hm₀ : 711494 ||| msk = msk) :
    Fr msk b₀ (State.bandDrop s pool m) := by
  refine Fr.step h₀ ?_ hm₀
  clear h₀ hm₀
  unfold State.bandDrop
  try dsimp only
  repeat' (first
    | with_reducible exact Fr.refl _ _
    | exact (rfl : (_ : Nat) = _)
    | with_reducible refine State.durableScan_fr ?_ ?_
    | with_reducible refine State.bandSingle_fr ?_ ?_
    | with_reducible refine State.setPool_fr ?_ ?_
    | with_reducible refine Fr.ite ?_ ?_
    | split)

theorem State.pageFlushed_fr {msk : Nat} {b₀ : State} {s : State} {pool : Nat} {p : Packed} (h₀ : Fr msk b₀ s) (hm₀ : 16384 ||| msk = msk) :
    Fr msk b₀ (State.pageFlushed s pool p) := by
  refine Fr.step h₀ ?_ hm₀
  clear h₀ hm₀
  unfold State.pageFlushed
  try dsimp only
  repeat' (first
    | with_reducible exact Fr.refl _ _
    | with_reducible assumption
    | exact (rfl : (_ : Nat) = _)
    | with_reducible refine State.setMpage_fr ?_ ?_
    | dsimp only
    | with_reducible refine Fr.ite ?_ ?_
    | with_reducible refine Fr.ite₁ ?_ ?_
    | with_reducible refine FrS.ite ?_ ?_
    | with_reducible refine FrP.ite ?_ ?_
    | with_reducible exact FrS.none
    | with_reducible refine FrS.some ?_
    | with_reducible refine FrS.map ?_
    | with_reducible exact FrP.none
    | with_reducible refine FrP.some ?_
    | with_reducible refine Fr.elim ?_ ?_
    | with_reducible refine Fr.foldl ?_ _ _ ?_
    | with_reducible refine Fr.foldl₂ ?_ _ _ ?_
    | intro _ _ _ _ _ _
    | intro _ _ _ _ _
    | intro _ _ _ _
    | intro _ _ _
    | intro _ _
    | intro _
    | with_reducible refine Fr.pair (h := ?_) (e := by assumption)
    | with_reducible refine FrO.got (h := ?_) (e := by assumption)
    | with_reducible refine FrS.get (h := ?_) (e := by assumption)
    | with_reducible refine FrP.get (h := ?_) (e := by assumption)
    | split)

theorem State.addTxns_fr {msk : Nat} {b₀ : State} {s : State} {pool : Nat} {flags : Nat} {x3 : Nat} {x4 : List MapOp} (h₀ : Fr msk b₀ s) (hm₀ : 16384 ||| msk = msk) :
    Fr msk b₀ (State.addTxns s pool flags x3 x4) := by
  refine Fr.step h₀ ?_ hm₀
  clear h₀ hm₀
  fun_induction State.addTxns 
  all_goals try dsimp +zetaDelta only at *
  all_goals repeat' (first
    | with_reducible exact Fr.refl _ _
    | exact (rfl : (_ : Nat) = _)
    | with_reducible refine Fr.trans ?_ (by assumption)
    | with_reducible refine State.addTxn_fr ?_ ?_)

theorem State.relocate_fr {msk : Nat} {b₀ : State} {s : State} {pool : Nat} {p : Packed} (h₀ : Fr msk b₀ s) (hm₀ : 16384 ||| msk = msk) :
    Fr msk b₀ (State.relocate s pool p) := by
  refine Fr.step h₀ ?_ hm₀
  clear h₀ hm₀
  unfold State.relocate
  try dsimp only
  repeat' (first
    | with_reducible exact Fr.refl _ _
    | exact (rfl : (_ : Nat) = _)
    | with_reducible refine State.addTxns_fr ?_ ?_
    | refine Fr.mk' ?_)

theorem State.stripeWritten_fr {msk : Nat} {b₀ : State} {s : State} {i : Nat} {x : Stripe} (h₀ : Fr msk b₀ s) (hm₀ : 16388 ||| msk = msk) :
    Fr msk b₀ (State.stripeWritten s i x) := by
  refine Fr.step h₀ ?_ hm₀
  clear h₀ hm₀
  unfold State.stripeWritten
  try dsimp only
  repeat' (first
    | with_reducible exact Fr.refl _ _
    | with_reducible assumption
    | exact (rfl : (_ : Nat) = _)
    | with_reducible refine State.count_fr ?_ ?_
    | with_reducible refine State.stripeRecord_fr ?_ ?_
    | with_reducible refine State.setSeg_fr ?_ ?_
    | with_reducible refine State.relocate_fr ?_ ?_
    | with_reducible refine Fr.foldl ?_ _ _ ?_
    | intro _ _ _
    | split
    | refine Fr.mk' ?_)

theorem State.readdress_fr {msk : Nat} {b₀ : State} {s : State} {old : Nat} {new : Nat} {segSeq : Nat} (h₀ : Fr msk b₀ s) (hm₀ : 24576 ||| msk = msk) :
    Fr msk b₀ (State.readdress s old new segSeq) := by
  refine Fr.step h₀ ?_ hm₀
  clear h₀ hm₀
  unfold State.readdress
  try dsimp only
  repeat' (first
    | with_reducible exact Fr.refl _ _
    | refine Fr.mk' ?_)

theorem State.repack_fr {msk : Nat} {b₀ : State} {s : State} {i : Nat} {places : List (List Place)} (h₀ : Fr msk b₀ s) (hm₀ : 717638 ||| msk = msk) :
    Fr msk b₀ (State.repack s i places).1 := by
  refine Fr.step h₀ ?_ hm₀
  clear h₀ hm₀
  unfold State.repack
  try dsimp only
  repeat' (first
    | with_reducible exact Fr.refl _ _
    | with_reducible assumption
    | exact (rfl : (_ : Nat) = _)
    | with_reducible refine State.pack_fr ?_ ?_
    | with_reducible refine State.readdress_fr ?_ ?_
    | with_reducible refine State.setStripe_fr ?_ ?_
    | dsimp only
    | with_reducible refine Fr.foldl₂ ?_ _ _ ?_
    | intro _ _ _
    | with_reducible refine Fr.pair (h := ?_) (e := by assumption)
    | with_reducible refine FrP.get (h := ?_) (e := by assumption)
    | split
    | refine Fr.mk' ?_)

theorem State.stripeAnswer_fr {msk : Nat} {b₀ : State} {s : State} {i : Nat} {k : Nat} {ok : Bool} {places : List (List Place)} (h₀ : Fr msk b₀ s) (hm₀ : 717638 ||| msk = msk) :
    Fr msk b₀ (State.stripeAnswer s i k ok places) := by
  refine Fr.step h₀ ?_ hm₀
  clear h₀ hm₀
  unfold State.stripeAnswer
  try dsimp only
  repeat' (first
    | with_reducible exact Fr.refl _ _
    | exact (rfl : (_ : Nat) = _)
    | with_reducible refine State.setStripe_fr ?_ ?_
    | with_reducible refine State.stripeWritten_fr ?_ ?_
    | with_reducible refine State.repack_fr ?_ ?_
    | with_reducible refine State.stripeRecord_fr ?_ ?_
    | with_reducible refine Fr.ite ?_ ?_
    | split)

theorem State.journalFail_fr {msk : Nat} {b₀ : State} {s : State} {pool : Nat} {bseq : Nat} {first : Nat} {last : Nat} {m : Nat} {linkDown : Bool} (h₀ : Fr msk b₀ s) (hm₀ : 711494 ||| msk = msk) :
    Fr msk b₀ (State.journalFail s pool bseq first last m linkDown) := by
  refine Fr.step h₀ ?_ hm₀
  clear h₀ hm₀
  unfold State.journalFail
  try dsimp only
  repeat' (first
    | with_reducible exact Fr.refl _ _
    | exact (rfl : (_ : Nat) = _)
    | with_reducible refine State.bandDrop_fr ?_ ?_
    | with_reducible refine State.raise_fr ?_ ?_
    | with_reducible refine Fr.ite ?_ ?_
    | refine Fr.mk' ?_)

theorem State.rewriteOne_fr {msk : Nat} {b₀ : State} {s : State} {addr : Nat} {places : List (List Place)} (h₀ : Fr msk b₀ s) (hm₀ : 709446 ||| msk = msk) :
    Fr msk b₀ (State.rewriteOne s addr places).1 := by
  refine Fr.step h₀ ?_ hm₀
  clear h₀ hm₀
  unfold State.rewriteOne
  try dsimp only
  repeat' (first
    | with_reducible exact Fr.refl _ _
    | with_reducible assumption
    | exact (rfl : (_ : Nat) = _)
    | with_reducible refine State.pack_fr ?_ ?_
    | dsimp only
    | with_reducible refine Fr.ite ?_ ?_
    | with_reducible refine Fr.ite₁ ?_ ?_
    | with_reducible refine FrS.ite ?_ ?_
    | with_reducible refine FrP.ite ?_ ?_
    | with_reducible exact FrS.none
    | with_reducible refine FrS.some ?_
    | with_reducible refine FrS.map ?_
    | with_reducible exact FrP.none
    | with_reducible refine FrP.some ?_
    | with_reducible refine Fr.elim ?_ ?_
    | with_reducible refine Fr.foldl ?_ _ _ ?_
    | with_reducible refine Fr.foldl₂ ?_ _ _ ?_
    | intro _ _ _ _ _ _
    | intro _ _ _ _ _
    | intro _ _ _ _
    | intro _ _ _
    | intro _ _
    | intro _
    | with_reducible refine Fr.pair (h := ?_) (e := by assumption)
    | with_reducible refine FrO.got (h := ?_) (e := by assumption)
    | with_reducible refine FrS.get (h := ?_) (e := by assumption)
    | with_reducible refine FrP.get (h := ?_) (e := by assumption)
    | split
    | refine Fr.mk' ?_)

theorem State.poisonLoss_fr {msk : Nat} {b₀ : State} {s : State} {pool : Nat} {x2 : MapOp} (h₀ : Fr msk b₀ s) (hm₀ : 709446 ||| msk = msk) :
    Fr msk b₀ (State.poisonLoss s pool x2) := by
  refine Fr.step h₀ ?_ hm₀
  clear h₀ hm₀
  unfold State.poisonLoss
  try dsimp only
  repeat' (first
    | with_reducible exact Fr.refl _ _
    | exact (rfl : (_ : Nat) = _)
    | with_reducible refine State.raise_fr ?_ ?_
    | with_reducible refine State.addLoss_fr ?_ ?_
    | with_reducible refine Fr.ite ?_ ?_
    | split)

theorem State.stampClose_fr {msk : Nat} {b₀ : State} {s : State} {g : Seg} (h₀ : Fr msk b₀ s) (hm₀ : 16384 ||| msk = msk) :
    Fr msk b₀ (State.stampClose s g) := by
  refine Fr.step h₀ ?_ hm₀
  clear h₀ hm₀
  unfold State.stampClose
  try dsimp only
  repeat' (first
    | with_reducible exact Fr.refl _ _
    | with_reducible assumption
    | exact (rfl : (_ : Nat) = _)
    | with_reducible refine State.setBg_fr ?_ ?_
    | with_reducible refine Fr.foldl ?_ _ _ ?_
    | intro _ _ _)

theorem State.eraseMembers_fr {msk : Nat} {b₀ : State} {s : State} {i : Nat} {g : Seg} (h₀ : Fr msk b₀ s) (hm₀ : 16390 ||| msk = msk) :
    Fr msk b₀ (State.eraseMembers s i g) := by
  refine Fr.step h₀ ?_ hm₀
  clear h₀ hm₀
  unfold State.eraseMembers
  try dsimp only
  repeat' (first
    | with_reducible exact Fr.refl _ _
    | with_reducible assumption
    | exact (rfl : (_ : Nat) = _)
    | with_reducible refine State.setBg_fr ?_ ?_
    | with_reducible refine State.sendMod_fr ?_ ?_
    | with_reducible refine Fr.ite ?_ ?_
    | with_reducible refine Fr.foldl ?_ _ _ ?_
    | intro _ _ _
    | split)

theorem State.segApply_fr {msk : Nat} {b₀ : State} {s : State} {i : Nat} {st : Nat} (h₀ : Fr msk b₀ s) (hm₀ : 709446 ||| msk = msk) :
    Fr msk b₀ (State.segApply s i st) := by
  refine Fr.step h₀ ?_ hm₀
  clear h₀ hm₀
  unfold State.segApply
  try dsimp only
  repeat' (first
    | with_reducible exact Fr.refl _ _
    | exact (rfl : (_ : Nat) = _)
    | with_reducible refine State.issueSegment_fr ?_ ?_
    | with_reducible refine State.setSeg_fr ?_ ?_
    | with_reducible refine State.stampClose_fr ?_ ?_
    | with_reducible refine State.eraseMembers_fr ?_ ?_
    | with_reducible refine State.count_fr ?_ ?_
    | with_reducible refine Fr.ite ?_ ?_
    | split
    | refine Fr.mk' ?_)

theorem State.snapApply_fr {msk : Nat} {b₀ : State} {s : State} {target : Nat} {source : Nat} (h₀ : Fr msk b₀ s) (hm₀ : 16644 ||| msk = msk) :
    Fr msk b₀ (State.snapApply s target source) := by
  refine Fr.step h₀ ?_ hm₀
  clear h₀ hm₀
  unfold State.snapApply
  try dsimp only
  repeat' (first
    | with_reducible exact Fr.refl _ _
    | exact (rfl : (_ : Nat) = _)
    | with_reducible refine State.shareBy_fr ?_ ?_
    | with_reducible refine State.setVol_fr ?_ ?_
    | with_reducible refine State.event_fr ?_ ?_
    | with_reducible refine State.actEnd_fr ?_ ?_
    | split
    | refine Fr.mk' ?_)

theorem State.volGone_fr {msk : Nat} {b₀ : State} {s : State} {vol : Nat} {v : Vol} (h₀ : Fr msk b₀ s) (hm₀ : 16644 ||| msk = msk) :
    Fr msk b₀ (State.volGone s vol v) := by
  refine Fr.step h₀ ?_ hm₀
  clear h₀ hm₀
  unfold State.volGone
  try dsimp only
  repeat' (first
    | with_reducible exact Fr.refl _ _
    | exact (rfl : (_ : Nat) = _)
    | with_reducible refine State.setVol_fr ?_ ?_
    | with_reducible refine State.event_fr ?_ ?_
    | with_reducible refine State.actEnd_fr ?_ ?_
    | split
    | refine Fr.mk' ?_)

theorem State.snapStepApply_fr {msk : Nat} {b₀ : State} {s : State} {vol : Nat} {t : Nat} {visit : List Nat} (h₀ : Fr msk b₀ s) (hm₀ : 709446 ||| msk = msk) :
    Fr msk b₀ (State.snapStepApply s vol t visit) := by
  refine Fr.step h₀ ?_ hm₀
  clear h₀ hm₀
  unfold State.snapStepApply
  try dsimp only
  repeat' (first
    | with_reducible exact Fr.refl _ _
    | with_reducible assumption
    | exact (rfl : (_ : Nat) = _)
    | with_reducible refine State.freePage_fr ?_ ?_
    | with_reducible refine State.volGone_fr ?_ ?_
    | with_reducible refine State.setVol_fr ?_ ?_
    | dsimp only
    | with_reducible refine Fr.ite ?_ ?_
    | with_reducible refine Fr.foldl₂ ?_ _ _ ?_
    | intro _ _ _
    | split)

theorem State.applyOp_fr {msk : Nat} {b₀ : State} {s : State} {pool : Nat} {t : Nat} {x3 : MapOp} (h₀ : Fr msk b₀ s) (hm₀ : 709446 ||| msk = msk) :
    Fr msk b₀ (State.applyOp s pool t x3) := by
  refine Fr.step h₀ ?_ hm₀
  clear h₀ hm₀
  unfold State.applyOp
  try dsimp only
  repeat' (first
    | with_reducible exact Fr.refl _ _
    | exact (rfl : (_ : Nat) = _)
    | with_reducible refine State.setGrain_fr ?_ ?_
    | with_reducible refine State.setSlotOp_fr ?_ ?_
    | with_reducible refine State.segApply_fr ?_ ?_
    | with_reducible refine State.snapApply_fr ?_ ?_
    | with_reducible refine State.snapStepApply_fr ?_ ?_
    | with_reducible refine State.refBy_fr ?_ ?_
    | split)

theorem State.applyTxn_fr {msk : Nat} {b₀ : State} {s : State} {t : Txn} (h₀ : Fr msk b₀ s) (hm₀ : 717638 ||| msk = msk) :
    Fr msk b₀ (State.applyTxn s t) := by
  refine Fr.step h₀ ?_ hm₀
  clear h₀ hm₀
  unfold State.applyTxn
  try dsimp only
  repeat' (first
    | with_reducible exact Fr.refl _ _
    | with_reducible assumption
    | exact (rfl : (_ : Nat) = _)
    | with_reducible refine State.poisonLoss_fr ?_ ?_
    | with_reducible refine State.applyOp_fr ?_ ?_
    | with_reducible refine State.tlSend_fr ?_ ?_
    | with_reducible refine State.release_fr ?_ ?_
    | with_reducible refine Fr.ite ?_ ?_
    | with_reducible refine Fr.foldl ?_ _ _ ?_
    | intro _ _ _
    | split
    | refine Fr.mk' ?_)

theorem State.journalOk_fr {msk : Nat} {b₀ : State} {s : State} {pool : Nat} {bseq : Nat} {first : Nat} {last : Nat} {m : Nat} (h₀ : Fr msk b₀ s) (hm₀ : 55302 ||| msk = msk) :
    Fr msk b₀ (State.journalOk s pool bseq first last m) := by
  refine Fr.step h₀ ?_ hm₀
  clear h₀ hm₀
  unfold State.journalOk
  try dsimp only
  repeat' (first
    | with_reducible exact Fr.refl _ _
    | exact (rfl : (_ : Nat) = _)
    | with_reducible refine State.durableScan_fr ?_ ?_
    | refine Fr.mk' ?_)

theorem State.mapTxnApply_fr {msk : Nat} {b₀ : State} {s : State} (h₀ : Fr msk b₀ s) (hm₀ : 717638 ||| msk = msk) :
    Fr msk b₀ (State.mapTxnApply s) := by
  refine Fr.step h₀ ?_ hm₀
  clear h₀ hm₀
  unfold State.mapTxnApply
  try dsimp only
  repeat' (first
    | with_reducible exact Fr.refl _ _
    | with_reducible assumption
    | exact (rfl : (_ : Nat) = _)
    | with_reducible refine State.applyTxn_fr ?_ ?_
    | with_reducible refine Fr.foldl ?_ _ _ ?_
    | intro _ _ _)

theorem State.repackAll_fr {msk : Nat} {b₀ : State} {s : State} {pool : Nat} {places : List (List Place)} (h₀ : Fr msk b₀ s) (hm₀ : 717638 ||| msk = msk) :
    Fr msk b₀ (State.repackAll s pool places).1 := by
  refine Fr.step h₀ ?_ hm₀
  clear h₀ hm₀
  unfold State.repackAll
  try dsimp only
  repeat' (first
    | with_reducible exact Fr.refl _ _
    | with_reducible assumption
    | exact (rfl : (_ : Nat) = _)
    | with_reducible refine State.repack_fr ?_ ?_
    | with_reducible refine State.rewriteOne_fr ?_ ?_
    | dsimp only
    | with_reducible refine Fr.ite ?_ ?_
    | with_reducible refine Fr.ite₁ ?_ ?_
    | with_reducible refine FrS.ite ?_ ?_
    | with_reducible refine FrP.ite ?_ ?_
    | with_reducible exact FrS.none
    | with_reducible refine FrS.some ?_
    | with_reducible refine FrS.map ?_
    | with_reducible exact FrP.none
    | with_reducible refine FrP.some ?_
    | with_reducible refine Fr.elim ?_ ?_
    | with_reducible refine Fr.foldl ?_ _ _ ?_
    | with_reducible refine Fr.foldl₂ ?_ _ _ ?_
    | intro _ _ _ _ _ _
    | intro _ _ _ _ _
    | intro _ _ _ _
    | intro _ _ _
    | intro _ _
    | intro _
    | with_reducible refine Fr.pair (h := ?_) (e := by assumption)
    | with_reducible refine FrO.got (h := ?_) (e := by assumption)
    | with_reducible refine FrS.get (h := ?_) (e := by assumption)
    | with_reducible refine FrP.get (h := ?_) (e := by assumption)
    | split)

end Sys2Proof.Machine
end

