-- ==== Sys2Proof/Laws/FrDestage.lean ====
section
/-! SUPPORT. Frames of the operations of Machine.Destage: the parts of State that each may change. -/

set_option maxRecDepth 20000
set_option Elab.async false
set_option linter.unusedTactic false
set_option linter.unreachableTactic false
set_option linter.unusedVariables false

namespace Sys2Proof.Machine

theorem State.hotDrop_fr {msk : Nat} {b₀ : State} {s : State} {a : Nat} (h₀ : Fr msk b₀ s) (hm₀ : 8192 ||| msk = msk) :
    Fr msk b₀ (State.hotDrop s a) := by
  refine Fr.step h₀ ?_ hm₀
  clear h₀ hm₀
  unfold State.hotDrop
  try dsimp only
  repeat' (first
    | with_reducible exact Fr.refl _ _
    | exact (rfl : (_ : Nat) = _)
    | with_reducible refine State.setCam_fr ?_ ?_
    | split)

theorem State.confirm_fr {msk : Nat} {b₀ : State} {s : State} {a : Nat} {k : CandKind} {p : Part} {g : Grain} {ops : List MapOp} (h₀ : Fr msk b₀ s) (hm₀ : 701254 ||| msk = msk) :
    Fr msk b₀ (State.confirm s a k p g ops).1 := by
  refine Fr.step h₀ ?_ hm₀
  clear h₀ hm₀
  unfold State.confirm
  try dsimp only
  repeat' (first
    | with_reducible exact Fr.refl _ _
    | exact (rfl : (_ : Nat) = _)
    | with_reducible refine State.count_fr ?_ ?_
    | with_reducible refine State.hotDrop_fr ?_ ?_
    | with_reducible refine State.raise_fr ?_ ?_
    | with_reducible refine State.event_fr ?_ ?_
    | dsimp only
    | with_reducible refine Fr.ite ?_ ?_
    | with_reducible refine Fr.ite₁ ?_ ?_)

theorem State.clockHand_fr {msk : Nat} {b₀ : State} {s : State} {x1 : Nat} {x2 : Nat} (h₀ : Fr msk b₀ s) (hm₀ : 8192 ||| msk = msk) :
    Fr msk b₀ (State.clockHand s x1 x2).1 := by
  refine Fr.step h₀ ?_ hm₀
  clear h₀ hm₀
  fun_induction State.clockHand 
  all_goals try dsimp +zetaDelta only at *
  all_goals repeat' (first
    | with_reducible exact Fr.refl _ _
    | with_reducible refine Fr.trans ?_ (by assumption)
    | refine Fr.mk' ?_)

theorem State.promote_fr {msk : Nat} {b₀ : State} {s : State} {pool : Nat} {a : Nat} {e : DdEntry} (h₀ : Fr msk b₀ s) (hm₀ : 701254 ||| msk = msk) :
    Fr msk b₀ (State.promote s pool a e) := by
  refine Fr.step h₀ ?_ hm₀
  clear h₀ hm₀
  unfold State.promote
  try dsimp only
  repeat' (first
    | with_reducible exact Fr.refl _ _
    | with_reducible assumption
    | exact (rfl : (_ : Nat) = _)
    | with_reducible refine State.camFound_fr ?_ ?_
    | with_reducible refine State.countSearch_fr ?_ ?_
    | with_reducible refine State.clockHand_fr ?_ ?_
    | with_reducible refine State.setCam_fr ?_ ?_
    | dsimp only
    | with_reducible refine Fr.ite ?_ ?_
    | with_reducible refine Fr.ite₁ ?_ ?_
    | with_reducible refine FrS.ite ?_ ?_
    | with_reducible refine FrP.ite ?_ ?_
    | with_reducible exact FrS.none
    | with_reducible refine FrS.some ?_
    | with_reducible refine FrS.map ?_
    | with_reducible exact FrP.none
    | with_reducible refine FrP.some ?_
    | with_reducible refine Fr.elim ?_ ?_
    | with_reducible refine Fr.foldl ?_ _ _ ?_
    | with_reducible refine Fr.foldl₂ ?_ _ _ ?_
    | intro _ _ _ _ _ _
    | intro _ _ _ _ _
    | intro _ _ _ _
    | intro _ _ _
    | intro _ _
    | intro _
    | with_reducible refine Fr.pair (h := ?_) (e := by assumption)
    | with_reducible refine FrO.got (h := ?_) (e := by assumption)
    | with_reducible refine FrS.get (h := ?_) (e := by assumption)
    | with_reducible refine FrP.get (h := ?_) (e := by assumption)
    | split
    | refine Fr.mk' ?_)

theorem State.confirmAny_fr {msk : Nat} {b₀ : State} {s : State} {pool : Nat} {p : Part} {g : Grain} {ops : List MapOp} {x5 : List (Nat × CandKind)} (h₀ : Fr msk b₀ s) (hm₀ : 701254 ||| msk = msk) :
    Fr msk b₀ (State.confirmAny s pool p g ops x5).1 := by
  refine Fr.step h₀ ?_ hm₀
  clear h₀ hm₀
  fun_induction State.confirmAny 
  all_goals try dsimp +zetaDelta only at *
  all_goals repeat' (first
    | with_reducible exact Fr.refl _ _
    | exact (rfl : (_ : Nat) = _)
    | with_reducible refine Fr.trans ?_ (by assumption)
    | with_reducible refine State.confirm_fr ?_ ?_
    | with_reducible refine State.promote_fr ?_ ?_
    | with_reducible refine Fr.pair (h := ?_) (e := by assumption)
    | split)

theorem State.tierWrite_fr {msk : Nat} {b₀ : State} {s : State} {pool : Nat} {cseq : Nat} {index : Nat} {g : Grain} {a : Nat} {segSeq : Nat} (h₀ : Fr msk b₀ s) (hm₀ : 8196 ||| msk = msk) :
    Fr msk b₀ (State.tierWrite s pool cseq index g a segSeq) := by
  refine Fr.step h₀ ?_ hm₀
  clear h₀ hm₀
  unfold State.tierWrite
  try dsimp only
  repeat' (first
    | with_reducible exact Fr.refl _ _
    | exact (rfl : (_ : Nat) = _)
    | with_reducible refine State.setBucket_fr ?_ ?_
    | with_reducible refine State.bucketInsert_fr ?_ ?_
    | split
    | refine Fr.mk' ?_)

theorem destageUnique_fr {msk : Nat} {b₀ : State} {pool : Nat} {cseq : Nat} {index : Nat} {p : Part} {fua : Bool} {poison : Bool} {g : Grain} {d : Destaging} (h₀ : Fr msk b₀ d.1) (hm₀ : 717638 ||| msk = msk) :
    FrP msk b₀ (destageUnique pool cseq index p fua poison g d) := by
  refine FrP.step h₀ ?_ hm₀
  clear h₀ hm₀
  rcases d with ⟨s₀, x₀⟩
  dsimp only
  unfold destageUnique
  try dsimp only
  repeat' (first
    | with_reducible exact Fr.refl _ _
    | exact (rfl : (_ : Nat) = _)
    | with_reducible refine State.pack_fr ?_ ?_
    | with_reducible refine State.tierWrite_fr ?_ ?_
    | dsimp only
    | with_reducible refine Fr.ite ?_ ?_
    | with_reducible exact FrP.none
    | with_reducible refine FrP.some ?_
    | with_reducible refine FrP.get (h := ?_) (e := by assumption)
    | split)

theorem State.reduceMerged_fr {msk : Nat} {b₀ : State} {s : State} {pool : Nat} {cseq : Nat} {index : Nat} {format : Nat} {after : Nat} {data : List Byte} {g : Grain} (h₀ : Fr msk b₀ s) (hm₀ : 701254 ||| msk = msk) :
    Fr msk b₀ (State.reduceMerged s pool cseq index format after data g).1 := by
  refine Fr.step h₀ ?_ hm₀
  clear h₀ hm₀
  unfold State.reduceMerged
  try dsimp only
  repeat' (first
    | with_reducible exact Fr.refl _ _
    | with_reducible assumption
    | exact (rfl : (_ : Nat) = _)
    | with_reducible refine State.reduce_fr ?_ ?_
    | with_reducible refine State.probe_fr ?_ ?_
    | dsimp only
    | with_reducible refine Fr.ite ?_ ?_
    | with_reducible refine Fr.ite₁ ?_ ?_
    | with_reducible refine FrS.ite ?_ ?_
    | with_reducible refine FrP.ite ?_ ?_
    | with_reducible exact FrS.none
    | with_reducible refine FrS.some ?_
    | with_reducible refine FrS.map ?_
    | with_reducible exact FrP.none
    | with_reducible refine FrP.some ?_
    | with_reducible refine Fr.elim ?_ ?_
    | with_reducible refine Fr.foldl ?_ _ _ ?_
    | with_reducible refine Fr.foldl₂ ?_ _ _ ?_
    | intro _ _ _ _ _ _
    | intro _ _ _ _ _
    | intro _ _ _ _
    | intro _ _ _
    | intro _ _
    | intro _
    | with_reducible refine Fr.pair (h := ?_) (e := by assumption)
    | with_reducible refine FrO.got (h := ?_) (e := by assumption)
    | with_reducible refine FrS.get (h := ?_) (e := by assumption)
    | with_reducible refine FrP.get (h := ?_) (e := by assumption)
    | split
    | refine Fr.mk' ?_)

theorem destageData_fr {msk : Nat} {b₀ : State} {pool : Nat} {cseq : Nat} {index : Nat} {p : Part} {fua : Bool} {g : Grain} {d : Destaging} (h₀ : Fr msk b₀ d.1) (hm₀ : 717638 ||| msk = msk) :
    FrP msk b₀ (destageData pool cseq index p fua g d) := by
  refine FrP.step h₀ ?_ hm₀
  clear h₀ hm₀
  rcases d with ⟨s₀, x₀⟩
  dsimp only
  unfold destageData
  try dsimp only
  repeat' (first
    | with_reducible exact Fr.refl _ _
    | exact (rfl : (_ : Nat) = _)
    | with_reducible refine State.confirmAny_fr ?_ ?_
    | with_reducible refine destageUnique_fr ?_ ?_
    | with_reducible refine FrP.some ?_
    | split)

theorem destageGrain_fr {msk : Nat} {b₀ : State} {pool : Nat} {cseq : Nat} {p : Part} {fua : Bool} {lost : Bool} {after : Nat} {d : Destaging} {ig : Nat × Grain} (h₀ : Fr msk b₀ d.1) (hm₀ : 717638 ||| msk = msk) :
    FrP msk b₀ (destageGrain pool cseq p fua lost after d ig) := by
  refine FrP.step h₀ ?_ hm₀
  clear h₀ hm₀
  rcases d with ⟨s₀, x₀⟩
  dsimp only
  unfold destageGrain
  try dsimp only
  repeat' (first
    | with_reducible exact Fr.refl _ _
    | exact (rfl : (_ : Nat) = _)
    | with_reducible refine State.tierForget_fr ?_ ?_
    | with_reducible refine destageUnique_fr ?_ ?_
    | with_reducible refine State.reduceMerged_fr ?_ ?_
    | with_reducible refine destageData_fr ?_ ?_
    | with_reducible refine FrP.ite ?_ ?_
    | with_reducible refine FrP.some ?_
    | split)

theorem destageAll_fr {msk : Nat} {b₀ : State} {pool : Nat} {cseq : Nat} {p : Part} {fua : Bool} {lost : Bool} {after : Nat} {x6 : List (Nat × Grain)} {x7 : Destaging} (h₀ : Fr msk b₀ x7.1) (hm₀ : 717638 ||| msk = msk) :
    FrP msk b₀ (destageAll pool cseq p fua lost after x6 x7) := by
  refine FrP.step h₀ ?_ hm₀
  clear h₀ hm₀
  fun_induction destageAll 
  all_goals try dsimp +zetaDelta only at *
  all_goals repeat' (first
    | with_reducible exact Fr.refl _ _
    | exact (rfl : (_ : Nat) = _)
    | with_reducible refine FrP.trans ?_ (by assumption)
    | with_reducible refine destageGrain_fr ?_ ?_
    | with_reducible exact FrP.none
    | with_reducible refine FrP.some ?_
    | with_reducible refine FrP.get (h := ?_) (e := by assumption))

theorem execFuaPadTimeout_fr {msk : Nat} {b₀ : State} {stripe : Nat} {s : State} (h₀ : Fr msk b₀ s) (hm₀ : 709446 ||| msk = msk) :
    FrO msk b₀ (execFuaPadTimeout stripe s) := by
  refine FrO.step h₀ ?_ hm₀
  clear h₀ hm₀
  unfold execFuaPadTimeout
  try dsimp only
  repeat' (first
    | with_reducible exact Fr.refl _ _
    | exact (rfl : (_ : Nat) = _)
    | with_reducible refine State.event_fr ?_ ?_
    | with_reducible refine State.closeStripe_fr ?_ ?_
    | with_reducible refine FrO.ite ?_ ?_
    | with_reducible refine FrO.next ?_
    | split)

theorem State.destageRead_fr {msk : Nat} {b₀ : State} {s : State} {cseq : Nat} {p : Part} {own : List (Nat × Nat)} {mir : List (Nat × Nat)} (h₀ : Fr msk b₀ s) (hm₀ : 693062 ||| msk = msk) :
    Fr msk b₀ (State.destageRead s cseq p own mir).1 := by
  refine Fr.step h₀ ?_ hm₀
  clear h₀ hm₀
  unfold State.destageRead
  try dsimp only
  repeat' (first
    | with_reducible exact Fr.refl _ _
    | with_reducible assumption
    | exact (rfl : (_ : Nat) = _)
    | with_reducible refine State.raise_fr ?_ ?_
    | with_reducible refine State.tlSend_fr ?_ ?_
    | dsimp only
    | with_reducible refine Fr.ite ?_ ?_
    | with_reducible refine Fr.ite₁ ?_ ?_
    | with_reducible refine FrS.ite ?_ ?_
    | with_reducible refine FrP.ite ?_ ?_
    | with_reducible exact FrS.none
    | with_reducible refine FrS.some ?_
    | with_reducible refine FrS.map ?_
    | with_reducible exact FrP.none
    | with_reducible refine FrP.some ?_
    | with_reducible refine Fr.elim ?_ ?_
    | with_reducible refine Fr.foldl ?_ _ _ ?_
    | with_reducible refine Fr.foldl₂ ?_ _ _ ?_
    | intro _ _ _ _ _ _
    | intro _ _ _ _ _
    | intro _ _ _ _
    | intro _ _ _
    | intro _ _
    | intro _
    | with_reducible refine Fr.pair (h := ?_) (e := by assumption)
    | with_reducible refine FrO.got (h := ?_) (e := by assumption)
    | with_reducible refine FrS.get (h := ?_) (e := by assumption)
    | with_reducible refine FrP.get (h := ?_) (e := by assumption)
    | split)

theorem State.mergedCheck_fr {msk : Nat} {b₀ : State} {s : State} {n : Nat} {bad : List (Nat × Bool)} (h₀ : Fr msk b₀ s) (hm₀ : 693062 ||| msk = msk) :
    Fr msk b₀ (State.mergedCheck s n bad).1 := by
  refine Fr.step h₀ ?_ hm₀
  clear h₀ hm₀
  unfold State.mergedCheck
  try dsimp only
  repeat' (first
    | with_reducible exact Fr.refl _ _
    | with_reducible assumption
    | exact (rfl : (_ : Nat) = _)
    | with_reducible refine State.inject_fr ?_ ?_
    | with_reducible refine State.operate_fr ?_ ?_
    | with_reducible refine State.checkDisagree_fr ?_ ?_
    | dsimp only
    | with_reducible refine Fr.ite ?_ ?_
    | with_reducible refine Fr.ite₁ ?_ ?_
    | with_reducible refine FrS.ite ?_ ?_
    | with_reducible refine FrP.ite ?_ ?_
    | with_reducible exact FrS.none
    | with_reducible refine FrS.some ?_
    | with_reducible refine FrS.map ?_
    | with_reducible exact FrP.none
    | with_reducible refine FrP.some ?_
    | with_reducible refine Fr.elim ?_ ?_
    | with_reducible refine Fr.foldl ?_ _ _ ?_
    | with_reducible refine Fr.foldl₂ ?_ _ _ ?_
    | intro _ _ _ _ _ _
    | intro _ _ _ _ _
    | intro _ _ _ _
    | intro _ _ _
    | intro _ _
    | intro _
    | with_reducible refine Fr.pair (h := ?_) (e := by assumption)
    | with_reducible refine FrO.got (h := ?_) (e := by assumption)
    | with_reducible refine FrS.get (h := ?_) (e := by assumption)
    | with_reducible refine FrP.get (h := ?_) (e := by assumption)
    | split)

theorem execDestageEntry_fr {msk : Nat} {b₀ : State} {cseq : Nat} {own : List (Nat × Nat)} {mir : List (Nat × Nat)} {bad : List (Nat × Bool)} {after : Nat} {places : List (List Place)} {s : State} (h₀ : Fr msk b₀ s) (hm₀ : 717638 ||| msk = msk) :
    FrO msk b₀ (execDestageEntry cseq own mir bad after places s) := by
  refine FrO.step h₀ ?_ hm₀
  clear h₀ hm₀
  unfold execDestageEntry
  try dsimp only
  repeat' (first
    | with_reducible exact Fr.refl _ _
    | with_reducible assumption
    | exact (rfl : (_ : Nat) = _)
    | with_reducible refine State.destageRead_fr ?_ ?_
    | with_reducible refine State.mergedCheck_fr ?_ ?_
    | with_reducible refine State.repackAll_fr ?_ ?_
    | with_reducible refine destageAll_fr ?_ ?_
    | with_reducible refine State.release_fr ?_ ?_
    | with_reducible refine State.addTxn_fr ?_ ?_
    | with_reducible refine State.putPart_fr ?_ ?_
    | dsimp only
    | with_reducible refine Fr.ite ?_ ?_
    | with_reducible refine Fr.ite₁ ?_ ?_
    | with_reducible refine FrO.ite ?_ ?_
    | with_reducible refine FrS.ite ?_ ?_
    | with_reducible refine FrP.ite ?_ ?_
    | with_reducible refine FrO.next ?_
    | with_reducible exact FrS.none
    | with_reducible refine FrS.some ?_
    | with_reducible refine FrS.map ?_
    | with_reducible exact FrP.none
    | with_reducible refine FrP.some ?_
    | with_reducible refine Fr.elim ?_ ?_
    | with_reducible refine Fr.foldl ?_ _ _ ?_
    | with_reducible refine Fr.foldl₂ ?_ _ _ ?_
    | intro _ _ _ _ _ _
    | intro _ _ _ _ _
    | intro _ _ _ _
    | intro _ _ _
    | intro _ _
    | intro _
    | with_reducible refine Fr.pair (h := ?_) (e := by assumption)
    | with_reducible refine FrO.got (h := ?_) (e := by assumption)
    | with_reducible refine FrS.get (h := ?_) (e := by assumption)
    | with_reducible refine FrP.get (h := ?_) (e := by assumption)
    | split)

end Sys2Proof.Machine
end

