-- ==== Sys2Proof/Laws/FrFtl.lean ====
section
/-! SUPPORT. Frames of the operations of Machine.Ftl: the parts of State that each may change. -/

set_option maxRecDepth 20000
set_option Elab.async false
set_option linter.unusedTactic false
set_option linter.unreachableTactic false
set_option linter.unusedVariables false

namespace Sys2Proof.Machine

theorem State.gcMay_fr {msk : Nat} {b₀ : State} {s : State} {pool : Nat} (h₀ : Fr msk b₀ s) (hm₀ : 256 ||| msk = msk) :
    Fr msk b₀ (State.gcMay s pool).1 := by
  refine Fr.step h₀ ?_ hm₀
  clear h₀ hm₀
  unfold State.gcMay
  try dsimp only
  repeat' (first
    | with_reducible exact Fr.refl _ _
    | exact (rfl : (_ : Nat) = _)
    | with_reducible refine State.standing_fr ?_ ?_
    | with_reducible refine Fr.ite₁ ?_ ?_)

theorem State.setReclaim_fr {msk : Nat} {b₀ : State} {s : State} {pool : Nat} {r : ReclaimSt} (h₀ : Fr msk b₀ s) (hm₀ : 16384 ||| msk = msk) :
    Fr msk b₀ (State.setReclaim s pool r) := by
  refine Fr.step h₀ ?_ hm₀
  clear h₀ hm₀
  unfold State.setReclaim
  try dsimp only
  repeat' (first
    | with_reducible exact Fr.refl _ _
    | refine Fr.mk' ?_)

theorem copyGrain_fr {msk : Nat} {b₀ : State} {pool : Nat} {lost : List Nat} {d : State × List (List Place) × Bool} {x : Nat × Stored} (h₀ : Fr msk b₀ d.1) (hm₀ : 709446 ||| msk = msk) :
    Fr msk b₀ (copyGrain pool lost d x).1 := by
  refine Fr.step h₀ ?_ hm₀
  clear h₀ hm₀
  rcases d with ⟨s₀, x₀⟩
  dsimp only
  unfold copyGrain
  try dsimp only
  repeat' (first
    | with_reducible exact Fr.refl _ _
    | with_reducible assumption
    | exact (rfl : (_ : Nat) = _)
    | with_reducible refine State.event_fr ?_ ?_
    | with_reducible refine State.raise_fr ?_ ?_
    | with_reducible refine State.addLoss_fr ?_ ?_
    | with_reducible refine State.pack_fr ?_ ?_
    | with_reducible refine State.readSources_fr ?_ ?_
    | with_reducible refine State.count_fr ?_ ?_
    | with_reducible refine State.setReclaim_fr ?_ ?_
    | dsimp only
    | with_reducible refine Fr.ite ?_ ?_
    | with_reducible refine Fr.ite₁ ?_ ?_
    | with_reducible refine FrS.ite ?_ ?_
    | with_reducible refine FrP.ite ?_ ?_
    | with_reducible exact FrS.none
    | with_reducible refine FrS.some ?_
    | with_reducible refine FrS.map ?_
    | with_reducible exact FrP.none
    | with_reducible refine FrP.some ?_
    | with_reducible refine Fr.elim ?_ ?_
    | with_reducible refine Fr.foldl ?_ _ _ ?_
    | with_reducible refine Fr.foldl₂ ?_ _ _ ?_
    | intro _ _ _ _ _ _
    | intro _ _ _ _ _
    | intro _ _ _ _
    | intro _ _ _
    | intro _ _
    | intro _
    | with_reducible refine Fr.pair (h := ?_) (e := by assumption)
    | with_reducible refine FrO.got (h := ?_) (e := by assumption)
    | with_reducible refine FrS.get (h := ?_) (e := by assumption)
    | with_reducible refine FrP.get (h := ?_) (e := by assumption)
    | split)

theorem State.copyGrains_fr {msk : Nat} {b₀ : State} {s : State} {pool : Nat} {n : Nat} {g : Seg} {lost : List Nat} {places : List (List Place)} (h₀ : Fr msk b₀ s) (hm₀ : 709446 ||| msk = msk) :
    Fr msk b₀ (State.copyGrains s pool n g lost places) := by
  refine Fr.step h₀ ?_ hm₀
  clear h₀ hm₀
  unfold State.copyGrains
  try dsimp only
  repeat' (first
    | with_reducible exact Fr.refl _ _
    | with_reducible assumption
    | exact (rfl : (_ : Nat) = _)
    | with_reducible refine copyGrain_fr ?_ ?_
    | with_reducible refine Fr.foldl₂ ?_ _ _ ?_
    | intro _ _ _)

theorem execReclaimMove_fr {msk : Nat} {b₀ : State} {pool : Nat} {seg : Nat} {n : Nat} {lost : List Nat} {places : List (List Place)} {s : State} (h₀ : Fr msk b₀ s) (hm₀ : 709446 ||| msk = msk) :
    FrO msk b₀ (execReclaimMove pool seg n lost places s) := by
  refine FrO.step h₀ ?_ hm₀
  clear h₀ hm₀
  unfold execReclaimMove
  try dsimp only
  repeat' (first
    | with_reducible exact Fr.refl _ _
    | exact (rfl : (_ : Nat) = _)
    | with_reducible refine State.gcMay_fr ?_ ?_
    | with_reducible refine State.copyGrains_fr ?_ ?_
    | with_reducible refine State.setReclaim_fr ?_ ?_
    | with_reducible refine FrO.ite ?_ ?_
    | with_reducible refine FrO.next ?_
    | with_reducible refine Fr.pair (h := ?_) (e := by assumption)
    | split)

theorem State.metaPack_fr {msk : Nat} {b₀ : State} {s : State} {pool : Nat} {places : List (List Place)} {x3 : List Stored} (h₀ : Fr msk b₀ s) (hm₀ : 709446 ||| msk = msk) :
    FrP msk b₀ (State.metaPack s pool places x3) := by
  refine FrP.step h₀ ?_ hm₀
  clear h₀ hm₀
  fun_induction State.metaPack 
  all_goals try dsimp +zetaDelta only at *
  all_goals repeat' (first
    | with_reducible exact Fr.refl _ _
    | with_reducible assumption
    | exact (rfl : (_ : Nat) = _)
    | with_reducible refine Fr.trans ?_ (by assumption)
    | with_reducible refine FrP.trans ?_ (by assumption)
    | with_reducible refine State.pack_fr ?_ ?_
    | dsimp only
    | with_reducible refine Fr.ite ?_ ?_
    | with_reducible refine Fr.ite₁ ?_ ?_
    | with_reducible refine FrS.ite ?_ ?_
    | with_reducible refine FrP.ite ?_ ?_
    | with_reducible exact FrS.none
    | with_reducible refine FrS.some ?_
    | with_reducible refine FrS.map ?_
    | with_reducible exact FrP.none
    | with_reducible refine FrP.some ?_
    | with_reducible refine Fr.elim ?_ ?_
    | with_reducible refine Fr.foldl ?_ _ _ ?_
    | with_reducible refine Fr.foldl₂ ?_ _ _ ?_
    | intro _ _ _ _ _ _
    | intro _ _ _ _ _
    | intro _ _ _ _
    | intro _ _ _
    | intro _ _
    | intro _
    | with_reducible refine Fr.pair (h := ?_) (e := by assumption)
    | with_reducible refine FrO.got (h := ?_) (e := by assumption)
    | with_reducible refine FrS.get (h := ?_) (e := by assumption)
    | with_reducible refine FrP.get (h := ?_) (e := by assumption)
    | split)

theorem State.poolRecord_fr {msk : Nat} {b₀ : State} {s : State} {pool : Nat} {src : Nat} (h₀ : Fr msk b₀ s) (hm₀ : 693062 ||| msk = msk) :
    Fr msk b₀ (State.poolRecord s pool src) := by
  refine Fr.step h₀ ?_ hm₀
  clear h₀ hm₀
  unfold State.poolRecord
  try dsimp only
  repeat' (first
    | with_reducible exact Fr.refl _ _
    | exact (rfl : (_ : Nat) = _)
    | with_reducible refine State.record_fr ?_ ?_)

theorem State.checkpointAsk_fr {msk : Nat} {b₀ : State} {s : State} {pool : Nat} (h₀ : Fr msk b₀ s) (hm₀ : 16384 ||| msk = msk) :
    Fr msk b₀ (State.checkpointAsk s pool) := by
  refine Fr.step h₀ ?_ hm₀
  clear h₀ hm₀
  unfold State.checkpointAsk
  try dsimp only
  repeat' (first
    | with_reducible exact Fr.refl _ _
    | with_reducible assumption
    | exact (rfl : (_ : Nat) = _)
    | with_reducible refine State.setPool_fr ?_ ?_
    | dsimp only
    | with_reducible refine Fr.ite ?_ ?_
    | with_reducible refine Fr.ite₁ ?_ ?_
    | with_reducible refine FrS.ite ?_ ?_
    | with_reducible refine FrP.ite ?_ ?_
    | with_reducible exact FrS.none
    | with_reducible refine FrS.some ?_
    | with_reducible refine FrS.map ?_
    | with_reducible exact FrP.none
    | with_reducible refine FrP.some ?_
    | with_reducible refine Fr.elim ?_ ?_
    | with_reducible refine Fr.foldl ?_ _ _ ?_
    | with_reducible refine Fr.foldl₂ ?_ _ _ ?_
    | intro _ _ _ _ _ _
    | intro _ _ _ _ _
    | intro _ _ _ _
    | intro _ _ _
    | intro _ _
    | intro _
    | with_reducible refine Fr.pair (h := ?_) (e := by assumption)
    | with_reducible refine FrO.got (h := ?_) (e := by assumption)
    | with_reducible refine FrS.get (h := ?_) (e := by assumption)
    | with_reducible refine FrP.get (h := ?_) (e := by assumption)
    | split)

theorem State.bandErase_fr {msk : Nat} {b₀ : State} {s : State} {pool : Nat} {c : Nat} {b : BandCopy} (h₀ : Fr msk b₀ s) (hm₀ : 16390 ||| msk = msk) :
    Fr msk b₀ (State.bandErase s pool c b) := by
  refine Fr.step h₀ ?_ hm₀
  clear h₀ hm₀
  unfold State.bandErase
  try dsimp only
  repeat' (first
    | with_reducible exact Fr.refl _ _
    | exact (rfl : (_ : Nat) = _)
    | with_reducible refine State.sendMod_fr ?_ ?_
    | with_reducible refine Fr.ite ?_ ?_)

theorem State.bandRestored_fr {msk : Nat} {b₀ : State} {s : State} {pool : Nat} (h₀ : Fr msk b₀ s) (hm₀ : 16388 ||| msk = msk) :
    Fr msk b₀ (State.bandRestored s pool) := by
  refine Fr.step h₀ ?_ hm₀
  clear h₀ hm₀
  unfold State.bandRestored
  try dsimp only
  repeat' (first
    | with_reducible exact Fr.refl _ _
    | exact (rfl : (_ : Nat) = _)
    | with_reducible refine State.setPool_fr ?_ ?_
    | with_reducible refine State.event_fr ?_ ?_
    | with_reducible refine Fr.ite ?_ ?_
    | split)

theorem State.checkpointEnd_fr {msk : Nat} {b₀ : State} {s : State} {pool : Nat} {p : Pool} {c : Nat} {restores : Bool} (h₀ : Fr msk b₀ s) (hm₀ : 16390 ||| msk = msk) :
    Fr msk b₀ (State.checkpointEnd s pool p c restores) := by
  refine Fr.step h₀ ?_ hm₀
  clear h₀ hm₀
  unfold State.checkpointEnd
  try dsimp only
  repeat' (first
    | with_reducible exact Fr.refl _ _
    | with_reducible assumption
    | exact (rfl : (_ : Nat) = _)
    | with_reducible refine State.bandErase_fr ?_ ?_
    | with_reducible refine State.setPool_fr ?_ ?_
    | with_reducible refine State.bandRestored_fr ?_ ?_
    | dsimp only
    | with_reducible refine Fr.ite ?_ ?_
    | with_reducible refine Fr.ite₁ ?_ ?_
    | with_reducible refine FrS.ite ?_ ?_
    | with_reducible refine FrP.ite ?_ ?_
    | with_reducible exact FrS.none
    | with_reducible refine FrS.some ?_
    | with_reducible refine FrS.map ?_
    | with_reducible exact FrP.none
    | with_reducible refine FrP.some ?_
    | with_reducible refine Fr.elim ?_ ?_
    | with_reducible refine Fr.foldl ?_ _ _ ?_
    | with_reducible refine Fr.foldl₂ ?_ _ _ ?_
    | intro _ _ _ _ _ _
    | intro _ _ _ _ _
    | intro _ _ _ _
    | intro _ _ _
    | intro _ _
    | intro _
    | with_reducible refine Fr.pair (h := ?_) (e := by assumption)
    | with_reducible refine FrO.got (h := ?_) (e := by assumption)
    | with_reducible refine FrS.get (h := ?_) (e := by assumption)
    | with_reducible refine FrP.get (h := ?_) (e := by assumption)
    | split
    | refine Fr.mk' ?_)

theorem State.rootAnswer_fr {msk : Nat} {b₀ : State} {s : State} {pool : Nat} {m : Nat} {ok : Bool} (h₀ : Fr msk b₀ s) (hm₀ : 16390 ||| msk = msk) :
    Fr msk b₀ (State.rootAnswer s pool m ok) := by
  refine Fr.step h₀ ?_ hm₀
  clear h₀ hm₀
  unfold State.rootAnswer
  try dsimp only
  repeat' (first
    | with_reducible exact Fr.refl _ _
    | with_reducible assumption
    | exact (rfl : (_ : Nat) = _)
    | with_reducible refine State.setPool_fr ?_ ?_
    | with_reducible refine State.checkpointEnd_fr ?_ ?_
    | dsimp only
    | with_reducible refine Fr.ite ?_ ?_
    | with_reducible refine Fr.ite₁ ?_ ?_
    | with_reducible refine FrS.ite ?_ ?_
    | with_reducible refine FrP.ite ?_ ?_
    | with_reducible exact FrS.none
    | with_reducible refine FrS.some ?_
    | with_reducible refine FrS.map ?_
    | with_reducible exact FrP.none
    | with_reducible refine FrP.some ?_
    | with_reducible refine Fr.elim ?_ ?_
    | with_reducible refine Fr.foldl ?_ _ _ ?_
    | with_reducible refine Fr.foldl₂ ?_ _ _ ?_
    | intro _ _ _ _ _ _
    | intro _ _ _ _ _
    | intro _ _ _ _
    | intro _ _ _
    | intro _ _
    | intro _
    | with_reducible refine Fr.pair (h := ?_) (e := by assumption)
    | with_reducible refine FrO.got (h := ?_) (e := by assumption)
    | with_reducible refine FrS.get (h := ?_) (e := by assumption)
    | with_reducible refine FrP.get (h := ?_) (e := by assumption)
    | split)

theorem execSegmentErase_fr {msk : Nat} {b₀ : State} {seg : Nat} {s : State} (h₀ : Fr msk b₀ s) (hm₀ : 16384 ||| msk = msk) :
    FrO msk b₀ (execSegmentErase seg s) := by
  refine FrO.step h₀ ?_ hm₀
  clear h₀ hm₀
  unfold execSegmentErase
  try dsimp only
  repeat' (first
    | with_reducible exact Fr.refl _ _
    | exact (rfl : (_ : Nat) = _)
    | with_reducible refine State.addTxn_fr ?_ ?_
    | with_reducible refine State.setSeg_fr ?_ ?_
    | with_reducible refine FrO.ite ?_ ?_
    | with_reducible refine FrO.next ?_
    | split)

theorem State.makeVol_fr {msk : Nat} {b₀ : State} {s : State} {v : Nat} {pool : Nat} {format : Nat} {grains : Nat} (h₀ : Fr msk b₀ s) (hm₀ : 16384 ||| msk = msk) :
    Fr msk b₀ (State.makeVol s v pool format grains) := by
  refine Fr.step h₀ ?_ hm₀
  clear h₀ hm₀
  unfold State.makeVol
  try dsimp only
  repeat' (first
    | with_reducible exact Fr.refl _ _
    | refine Fr.mk' ?_)

theorem State.volCreateRun_fr {msk : Nat} {b₀ : State} {s : State} {args : List Byte} (h₀ : Fr msk b₀ s) (hm₀ : 16644 ||| msk = msk) :
    Fr msk b₀ (State.volCreateRun s args) := by
  refine Fr.step h₀ ?_ hm₀
  clear h₀ hm₀
  unfold State.volCreateRun
  try dsimp only
  repeat' (first
    | with_reducible exact Fr.refl _ _
    | exact (rfl : (_ : Nat) = _)
    | with_reducible refine State.makeVol_fr ?_ ?_
    | with_reducible refine State.event_fr ?_ ?_
    | with_reducible refine State.actEnd_fr ?_ ?_
    | with_reducible refine State.wrN_fr ?_ ?_)

theorem State.volResizeRun_fr {msk : Nat} {b₀ : State} {s : State} {args : List Byte} (h₀ : Fr msk b₀ s) (hm₀ : 16644 ||| msk = msk) :
    Fr msk b₀ (State.volResizeRun s args) := by
  refine Fr.step h₀ ?_ hm₀
  clear h₀ hm₀
  unfold State.volResizeRun
  try dsimp only
  repeat' (first
    | with_reducible exact Fr.refl _ _
    | exact (rfl : (_ : Nat) = _)
    | with_reducible refine State.addTxns_fr ?_ ?_
    | with_reducible refine State.setVol_fr ?_ ?_
    | with_reducible refine State.event_fr ?_ ?_
    | with_reducible refine State.actEnd_fr ?_ ?_
    | split)

theorem State.snapRun_fr {msk : Nat} {b₀ : State} {s : State} {args : List Byte} (h₀ : Fr msk b₀ s) (hm₀ : 16384 ||| msk = msk) :
    Fr msk b₀ (State.snapRun s args) := by
  refine Fr.step h₀ ?_ hm₀
  clear h₀ hm₀
  unfold State.snapRun
  try dsimp only
  repeat' (first
    | with_reducible exact Fr.refl _ _
    | refine Fr.mk' ?_)

theorem State.deleteRun_fr {msk : Nat} {b₀ : State} {s : State} {args : List Byte} (h₀ : Fr msk b₀ s) (hm₀ : 16384 ||| msk = msk) :
    Fr msk b₀ (State.deleteRun s args) := by
  refine Fr.step h₀ ?_ hm₀
  clear h₀ hm₀
  unfold State.deleteRun
  try dsimp only
  repeat' (first
    | with_reducible exact Fr.refl _ _
    | exact (rfl : (_ : Nat) = _)
    | with_reducible refine State.shareBy_fr ?_ ?_
    | with_reducible refine State.setVol_fr ?_ ?_
    | with_reducible refine Fr.ite ?_ ?_
    | split)

theorem State.ftlActRun_fr {msk : Nat} {b₀ : State} {s : State} {a : Activity} (h₀ : Fr msk b₀ s) (hm₀ : 16644 ||| msk = msk) :
    Fr msk b₀ (State.ftlActRun s a) := by
  refine Fr.step h₀ ?_ hm₀
  clear h₀ hm₀
  unfold State.ftlActRun
  try dsimp only
  repeat' (first
    | with_reducible exact Fr.refl _ _
    | exact (rfl : (_ : Nat) = _)
    | with_reducible refine State.putBit_fr ?_ ?_
    | with_reducible refine State.volCreateRun_fr ?_ ?_
    | with_reducible refine State.volResizeRun_fr ?_ ?_
    | with_reducible refine State.snapRun_fr ?_ ?_
    | with_reducible refine State.deleteRun_fr ?_ ?_
    | split)

theorem State.ftlCommand_fr {msk : Nat} {b₀ : State} {s : State} {f : State → State} (hf : ∀ t0, Fr msk b₀ t0 → Fr msk b₀ (f t0)) (h₀ : Fr msk b₀ s) (hm₀ : 693062 ||| msk = msk) :
    FrO msk b₀ (State.ftlCommand s f) := by
  unfold State.ftlCommand
  try dsimp only
  repeat' (first
    | with_reducible assumption
    | with_reducible refine State.writeDiscarded_fr ?_ ?_
    | with_reducible refine hf _ ?_
    | with_reducible refine Fr.ite ?_ ?_
    | with_reducible refine FrO.next ?_)

theorem State.purge_fr {msk : Nat} {b₀ : State} {s : State} {p : Place} (h₀ : Fr msk b₀ s) (hm₀ : 16384 ||| msk = msk) :
    Fr msk b₀ (State.purge s p) := by
  refine Fr.step h₀ ?_ hm₀
  clear h₀ hm₀
  unfold State.purge
  try dsimp only
  repeat' (first
    | with_reducible exact Fr.refl _ _
    | refine Fr.mk' ?_)

theorem execSnapCreateRecord_fr {msk : Nat} {b₀ : State} {target : Nat} {s : State} (h₀ : Fr msk b₀ s) (hm₀ : 16384 ||| msk = msk) :
    FrO msk b₀ (execSnapCreateRecord target s) := by
  refine FrO.step h₀ ?_ hm₀
  clear h₀ hm₀
  unfold execSnapCreateRecord
  try dsimp only
  repeat' (first
    | with_reducible exact Fr.refl _ _
    | exact (rfl : (_ : Nat) = _)
    | with_reducible refine State.addTxn_fr ?_ ?_
    | with_reducible refine FrO.ite ?_ ?_
    | with_reducible refine FrO.next ?_
    | split
    | refine Fr.mk' ?_)

theorem State.ftlAnswer_fr {msk : Nat} {b₀ : State} {s : State} {status : Nat} {queued : Bool} (h₀ : Fr msk b₀ s) (hm₀ : 4 ||| msk = msk) :
    Fr msk b₀ (State.ftlAnswer s status queued) := by
  refine Fr.step h₀ ?_ hm₀
  clear h₀ hm₀
  unfold State.ftlAnswer
  try dsimp only
  repeat' (first
    | with_reducible exact Fr.refl _ _
    | exact (rfl : (_ : Nat) = _)
    | with_reducible refine State.wrN_fr ?_ ?_)

theorem execRoResume_fr {msk : Nat} {b₀ : State} {s : State} (h₀ : Fr msk b₀ s) (hm₀ : 709446 ||| msk = msk) :
    FrO msk b₀ (execRoResume s) := by
  refine FrO.step h₀ ?_ hm₀
  clear h₀ hm₀
  unfold execRoResume
  try dsimp only
  repeat' (first
    | with_reducible exact Fr.refl _ _
    | with_reducible assumption
    | exact (rfl : (_ : Nat) = _)
    | with_reducible refine State.ftlCommand_fr ?_ ?_ ?_
    | with_reducible refine State.ftlAnswer_fr ?_ ?_
    | with_reducible refine State.event_fr ?_ ?_
    | with_reducible refine State.setPool_fr ?_ ?_
    | with_reducible refine Fr.ite ?_ ?_
    | intro _ _
    | split)

theorem State.eraseScan_fr {msk : Nat} {b₀ : State} {s : State} {seg : Nat} (h₀ : Fr msk b₀ s) (hm₀ : 16384 ||| msk = msk) :
    Fr msk b₀ (State.eraseScan s seg) := by
  refine Fr.step h₀ ?_ hm₀
  clear h₀ hm₀
  unfold State.eraseScan
  try dsimp only
  repeat' (first
    | with_reducible exact Fr.refl _ _
    | with_reducible assumption
    | exact (rfl : (_ : Nat) = _)
    | with_reducible refine State.addTxn_fr ?_ ?_
    | with_reducible refine State.setSeg_fr ?_ ?_
    | with_reducible refine State.purge_fr ?_ ?_
    | with_reducible refine Fr.ite ?_ ?_
    | with_reducible refine Fr.foldl ?_ _ _ ?_
    | intro _ _ _
    | split)

theorem State.setSpace_fr {msk : Nat} {b₀ : State} {s : State} {pool : Nat} {v : Nat} {ev : Nat} (h₀ : Fr msk b₀ s) (hm₀ : 693062 ||| msk = msk) :
    Fr msk b₀ (State.setSpace s pool v ev) := by
  refine Fr.step h₀ ?_ hm₀
  clear h₀ hm₀
  unfold State.setSpace
  try dsimp only
  repeat' (first
    | with_reducible exact Fr.refl _ _
    | exact (rfl : (_ : Nat) = _)
    | with_reducible refine State.poolRecord_fr ?_ ?_
    | with_reducible refine State.event_fr ?_ ?_
    | with_reducible refine State.putFld_fr ?_ ?_)

theorem State.spaceOne_fr {msk : Nat} {b₀ : State} {s : State} {pool : Nat} {p : Pool} (h₀ : Fr msk b₀ s) (hm₀ : 709446 ||| msk = msk) :
    Fr msk b₀ (State.spaceOne s pool p) := by
  refine Fr.step h₀ ?_ hm₀
  clear h₀ hm₀
  unfold State.spaceOne
  try dsimp only
  repeat' (first
    | with_reducible exact Fr.refl _ _
    | exact (rfl : (_ : Nat) = _)
    | with_reducible refine State.setPool_fr ?_ ?_
    | with_reducible refine State.setSpace_fr ?_ ?_
    | with_reducible refine Fr.ite ?_ ?_)

theorem State.spaceChange_fr {msk : Nat} {b₀ : State} {s : State} (h₀ : Fr msk b₀ s) (hm₀ : 709446 ||| msk = msk) :
    Fr msk b₀ (State.spaceChange s) := by
  refine Fr.step h₀ ?_ hm₀
  clear h₀ hm₀
  unfold State.spaceChange
  try dsimp only
  repeat' (first
    | with_reducible exact Fr.refl _ _
    | with_reducible assumption
    | exact (rfl : (_ : Nat) = _)
    | with_reducible refine State.spaceOne_fr ?_ ?_
    | with_reducible refine Fr.foldl ?_ _ _ ?_
    | intro _ _ _)

theorem execSnapCut_fr {msk : Nat} {b₀ : State} {target : Nat} {s : State} (h₀ : Fr msk b₀ s) (hm₀ : 16384 ||| msk = msk) :
    FrO msk b₀ (execSnapCut target s) := by
  refine FrO.step h₀ ?_ hm₀
  clear h₀ hm₀
  unfold execSnapCut
  try dsimp only
  repeat' (first
    | with_reducible exact Fr.refl _ _
    | with_reducible refine FrO.next ?_
    | refine Fr.mk' ?_)

theorem State.ftlStart_fr {msk : Nat} {b₀ : State} {s : State} {a : Activity} {run : State → State} (hf : ∀ t0, Fr msk b₀ t0 → Fr msk b₀ (run t0)) (h₀ : Fr msk b₀ s) (hm₀ : 260 ||| msk = msk) :
    Fr msk b₀ (State.ftlStart s a run) := by
  unfold State.ftlStart
  try dsimp only
  repeat' (first
    | with_reducible assumption
    | exact Fr.sub rfl hm₀
    | with_reducible refine State.actStart_fr ?_ ?_
    | with_reducible refine State.ftlAnswer_fr ?_ ?_
    | with_reducible refine hf _ ?_
    | with_reducible refine Fr.ite ?_ ?_)

theorem execSnapCreate_fr {msk : Nat} {b₀ : State} {s : State} (h₀ : Fr msk b₀ s) (hm₀ : 709446 ||| msk = msk) :
    FrO msk b₀ (execSnapCreate s) := by
  refine FrO.step h₀ ?_ hm₀
  clear h₀ hm₀
  unfold execSnapCreate
  try dsimp only
  repeat' (first
    | with_reducible exact Fr.refl _ _
    | with_reducible assumption
    | exact (rfl : (_ : Nat) = _)
    | with_reducible refine State.ftlCommand_fr ?_ ?_ ?_
    | with_reducible refine State.ftlAnswer_fr ?_ ?_
    | with_reducible refine State.event_fr ?_ ?_
    | with_reducible refine State.ftlStart_fr ?_ ?_ ?_
    | with_reducible refine State.snapRun_fr ?_ ?_
    | with_reducible refine Fr.ite ?_ ?_
    | intro _ _
    | split)

theorem State.wearErase_fr {msk : Nat} {b₀ : State} {s : State} {pool : Nat} (h₀ : Fr msk b₀ s) (hm₀ : 16384 ||| msk = msk) :
    Fr msk b₀ (State.wearErase s pool) := by
  refine Fr.step h₀ ?_ hm₀
  clear h₀ hm₀
  unfold State.wearErase
  try dsimp only
  repeat' (first
    | with_reducible exact Fr.refl _ _
    | split
    | refine Fr.mk' ?_)

theorem State.eraseOk_fr {msk : Nat} {b₀ : State} {s : State} {seg : Nat} {k : Nat} (h₀ : Fr msk b₀ s) (hm₀ : 16384 ||| msk = msk) :
    Fr msk b₀ (State.eraseOk s seg k) := by
  refine Fr.step h₀ ?_ hm₀
  clear h₀ hm₀
  unfold State.eraseOk
  try dsimp only
  repeat' (first
    | with_reducible exact Fr.refl _ _
    | exact (rfl : (_ : Nat) = _)
    | with_reducible refine State.wearErase_fr ?_ ?_
    | with_reducible refine State.setBg_fr ?_ ?_
    | with_reducible refine State.eraseScan_fr ?_ ?_
    | with_reducible refine State.setSeg_fr ?_ ?_
    | split)

theorem State.anchorWrite_fr {msk : Nat} {b₀ : State} {s : State} {pool : Nat} {m : Nat} {data : List Byte} (h₀ : Fr msk b₀ s) (hm₀ : 16390 ||| msk = msk) :
    Fr msk b₀ (State.anchorWrite s pool m data) := by
  refine Fr.step h₀ ?_ hm₀
  clear h₀ hm₀
  unfold State.anchorWrite
  try dsimp only
  repeat' (first
    | with_reducible exact Fr.refl _ _
    | with_reducible assumption
    | exact (rfl : (_ : Nat) = _)
    | with_reducible refine State.sendMod_fr ?_ ?_
    | dsimp only
    | with_reducible refine Fr.ite ?_ ?_
    | with_reducible refine Fr.ite₁ ?_ ?_
    | with_reducible refine FrS.ite ?_ ?_
    | with_reducible refine FrP.ite ?_ ?_
    | with_reducible exact FrS.none
    | with_reducible refine FrS.some ?_
    | with_reducible refine FrS.map ?_
    | with_reducible exact FrP.none
    | with_reducible refine FrP.some ?_
    | with_reducible refine Fr.elim ?_ ?_
    | with_reducible refine Fr.foldl ?_ _ _ ?_
    | with_reducible refine Fr.foldl₂ ?_ _ _ ?_
    | intro _ _ _ _ _ _
    | intro _ _ _ _ _
    | intro _ _ _ _
    | intro _ _ _
    | intro _ _
    | intro _
    | with_reducible refine Fr.pair (h := ?_) (e := by assumption)
    | with_reducible refine FrO.got (h := ?_) (e := by assumption)
    | with_reducible refine FrS.get (h := ?_) (e := by assumption)
    | with_reducible refine FrP.get (h := ?_) (e := by assumption)
    | split
    | refine Fr.mk' ?_)

theorem State.checkpointRoots_fr {msk : Nat} {b₀ : State} {s : State} (h₀ : Fr msk b₀ s) (hm₀ : 16390 ||| msk = msk) :
    Fr msk b₀ (State.checkpointRoots s) := by
  refine Fr.step h₀ ?_ hm₀
  clear h₀ hm₀
  unfold State.checkpointRoots
  try dsimp only
  repeat' (first
    | with_reducible exact Fr.refl _ _
    | with_reducible assumption
    | exact (rfl : (_ : Nat) = _)
    | with_reducible refine State.setPool_fr ?_ ?_
    | with_reducible refine State.anchorWrite_fr ?_ ?_
    | dsimp only
    | with_reducible refine Fr.ite ?_ ?_
    | with_reducible refine Fr.ite₁ ?_ ?_
    | with_reducible refine FrS.ite ?_ ?_
    | with_reducible refine FrP.ite ?_ ?_
    | with_reducible exact FrS.none
    | with_reducible refine FrS.some ?_
    | with_reducible refine FrS.map ?_
    | with_reducible exact FrP.none
    | with_reducible refine FrP.some ?_
    | with_reducible refine Fr.elim ?_ ?_
    | with_reducible refine Fr.foldl ?_ _ _ ?_
    | with_reducible refine Fr.foldl₂ ?_ _ _ ?_
    | intro _ _ _ _ _ _
    | intro _ _ _ _ _
    | intro _ _ _ _
    | intro _ _ _
    | intro _ _
    | intro _
    | with_reducible refine Fr.pair (h := ?_) (e := by assumption)
    | with_reducible refine FrO.got (h := ?_) (e := by assumption)
    | with_reducible refine FrS.get (h := ?_) (e := by assumption)
    | with_reducible refine FrP.get (h := ?_) (e := by assumption)
    | split)

theorem State.ckptPacked_fr {msk : Nat} {b₀ : State} {s : State} {pool : Nat} {c : Nat} {l : List (Stored × Nat)} (h₀ : Fr msk b₀ s) (hm₀ : 709446 ||| msk = msk) :
    Fr msk b₀ (State.ckptPacked s pool c l) := by
  refine Fr.step h₀ ?_ hm₀
  clear h₀ hm₀
  unfold State.ckptPacked
  try dsimp only
  repeat' (first
    | with_reducible exact Fr.refl _ _
    | with_reducible assumption
    | exact (rfl : (_ : Nat) = _)
    | with_reducible refine State.closeStripe_fr ?_ ?_
    | with_reducible refine State.setPool_fr ?_ ?_
    | dsimp only
    | with_reducible refine Fr.ite ?_ ?_
    | with_reducible refine Fr.ite₁ ?_ ?_
    | with_reducible refine FrS.ite ?_ ?_
    | with_reducible refine FrP.ite ?_ ?_
    | with_reducible exact FrS.none
    | with_reducible refine FrS.some ?_
    | with_reducible refine FrS.map ?_
    | with_reducible exact FrP.none
    | with_reducible refine FrP.some ?_
    | with_reducible refine Fr.elim ?_ ?_
    | with_reducible refine Fr.foldl ?_ _ _ ?_
    | with_reducible refine Fr.foldl₂ ?_ _ _ ?_
    | intro _ _ _ _ _ _
    | intro _ _ _ _ _
    | intro _ _ _ _
    | intro _ _ _
    | intro _ _
    | intro _
    | with_reducible refine Fr.pair (h := ?_) (e := by assumption)
    | with_reducible refine FrO.got (h := ?_) (e := by assumption)
    | with_reducible refine FrS.get (h := ?_) (e := by assumption)
    | with_reducible refine FrP.get (h := ?_) (e := by assumption)
    | split
    | refine Fr.mk' ?_)

theorem State.checkpointStart_fr {msk : Nat} {b₀ : State} {s : State} {pool : Nat} {p : Pool} {places : List (List Place)} (h₀ : Fr msk b₀ s) (hm₀ : 709446 ||| msk = msk) :
    FrS msk b₀ (State.checkpointStart s pool p places) := by
  refine FrS.step h₀ ?_ hm₀
  clear h₀ hm₀
  unfold State.checkpointStart
  try dsimp only
  repeat' (first
    | with_reducible exact Fr.refl _ _
    | with_reducible assumption
    | exact (rfl : (_ : Nat) = _)
    | with_reducible refine State.metaPack_fr ?_ ?_
    | with_reducible refine State.ckptPacked_fr ?_ ?_
    | dsimp only
    | with_reducible refine Fr.ite ?_ ?_
    | with_reducible refine Fr.ite₁ ?_ ?_
    | with_reducible refine FrS.ite ?_ ?_
    | with_reducible refine FrP.ite ?_ ?_
    | with_reducible exact FrS.none
    | with_reducible refine FrS.some ?_
    | with_reducible refine FrS.map ?_
    | with_reducible exact FrP.none
    | with_reducible refine FrP.some ?_
    | with_reducible refine Fr.elim ?_ ?_
    | with_reducible refine Fr.foldl ?_ _ _ ?_
    | with_reducible refine Fr.foldl₂ ?_ _ _ ?_
    | intro _ _ _ _ _ _
    | intro _ _ _ _ _
    | intro _ _ _ _
    | intro _ _ _
    | intro _ _
    | intro _
    | with_reducible refine Fr.pair (h := ?_) (e := by assumption)
    | with_reducible refine FrO.got (h := ?_) (e := by assumption)
    | with_reducible refine FrS.get (h := ?_) (e := by assumption)
    | with_reducible refine FrP.get (h := ?_) (e := by assumption)
    | split)

theorem execVolResize_fr {msk : Nat} {b₀ : State} {s : State} (h₀ : Fr msk b₀ s) (hm₀ : 709446 ||| msk = msk) :
    FrO msk b₀ (execVolResize s) := by
  refine FrO.step h₀ ?_ hm₀
  clear h₀ hm₀
  unfold execVolResize
  try dsimp only
  repeat' (first
    | with_reducible exact Fr.refl _ _
    | with_reducible assumption
    | exact (rfl : (_ : Nat) = _)
    | with_reducible refine State.ftlCommand_fr ?_ ?_ ?_
    | with_reducible refine State.ftlAnswer_fr ?_ ?_
    | with_reducible refine State.ftlStart_fr ?_ ?_ ?_
    | with_reducible refine State.volResizeRun_fr ?_ ?_
    | with_reducible refine Fr.ite ?_ ?_
    | intro _ _
    | split)

theorem execReclaimSelect_fr {msk : Nat} {b₀ : State} {pool : Nat} {s : State} (h₀ : Fr msk b₀ s) (hm₀ : 16640 ||| msk = msk) :
    FrO msk b₀ (execReclaimSelect pool s) := by
  refine FrO.step h₀ ?_ hm₀
  clear h₀ hm₀
  unfold execReclaimSelect
  try dsimp only
  repeat' (first
    | with_reducible exact Fr.refl _ _
    | exact (rfl : (_ : Nat) = _)
    | with_reducible refine State.gcMay_fr ?_ ?_
    | with_reducible refine State.setSeg_fr ?_ ?_
    | with_reducible refine FrO.next ?_
    | with_reducible refine Fr.pair (h := ?_) (e := by assumption)
    | split)

theorem State.deleteCmd_fr {msk : Nat} {b₀ : State} {s : State} {snap : Bool} (h₀ : Fr msk b₀ s) (hm₀ : 709446 ||| msk = msk) :
    FrO msk b₀ (State.deleteCmd s snap) := by
  refine FrO.step h₀ ?_ hm₀
  clear h₀ hm₀
  unfold State.deleteCmd
  try dsimp only
  repeat' (first
    | with_reducible exact Fr.refl _ _
    | with_reducible assumption
    | exact (rfl : (_ : Nat) = _)
    | with_reducible refine State.ftlCommand_fr ?_ ?_ ?_
    | with_reducible refine State.ftlAnswer_fr ?_ ?_
    | with_reducible refine State.ftlStart_fr ?_ ?_ ?_
    | with_reducible refine State.deleteRun_fr ?_ ?_
    | with_reducible refine Fr.ite ?_ ?_
    | intro _ _
    | split)

theorem execVolCreate_fr {msk : Nat} {b₀ : State} {s : State} (h₀ : Fr msk b₀ s) (hm₀ : 709446 ||| msk = msk) :
    FrO msk b₀ (execVolCreate s) := by
  refine FrO.step h₀ ?_ hm₀
  clear h₀ hm₀
  unfold execVolCreate
  try dsimp only
  repeat' (first
    | with_reducible exact Fr.refl _ _
    | with_reducible assumption
    | exact (rfl : (_ : Nat) = _)
    | with_reducible refine State.ftlCommand_fr ?_ ?_ ?_
    | with_reducible refine State.ftlAnswer_fr ?_ ?_
    | with_reducible refine State.ftlStart_fr ?_ ?_ ?_
    | with_reducible refine State.volCreateRun_fr ?_ ?_
    | with_reducible refine Fr.ite ?_ ?_
    | intro _ _)

theorem execSnapDelete_fr {msk : Nat} {b₀ : State} {s : State} (h₀ : Fr msk b₀ s) (hm₀ : 709446 ||| msk = msk) :
    FrO msk b₀ (execSnapDelete s) := by
  refine FrO.step h₀ ?_ hm₀
  clear h₀ hm₀
  unfold execSnapDelete
  try dsimp only
  repeat' (first
    | with_reducible exact Fr.refl _ _
    | exact (rfl : (_ : Nat) = _)
    | with_reducible refine State.deleteCmd_fr ?_ ?_)

theorem execSnapDeleteStep_fr {msk : Nat} {b₀ : State} {v : Nat} {s : State} (h₀ : Fr msk b₀ s) (hm₀ : 16384 ||| msk = msk) :
    FrO msk b₀ (execSnapDeleteStep v s) := by
  refine FrO.step h₀ ?_ hm₀
  clear h₀ hm₀
  unfold execSnapDeleteStep
  try dsimp only
  repeat' (first
    | with_reducible exact Fr.refl _ _
    | exact (rfl : (_ : Nat) = _)
    | with_reducible refine State.addTxn_fr ?_ ?_
    | with_reducible refine State.setVol_fr ?_ ?_
    | with_reducible refine FrO.ite ?_ ?_
    | with_reducible refine FrO.next ?_
    | split)

theorem execVolDelete_fr {msk : Nat} {b₀ : State} {s : State} (h₀ : Fr msk b₀ s) (hm₀ : 709446 ||| msk = msk) :
    FrO msk b₀ (execVolDelete s) := by
  refine FrO.step h₀ ?_ hm₀
  clear h₀ hm₀
  unfold execVolDelete
  try dsimp only
  repeat' (first
    | with_reducible exact Fr.refl _ _
    | exact (rfl : (_ : Nat) = _)
    | with_reducible refine State.deleteCmd_fr ?_ ?_)

end Sys2Proof.Machine
end

