-- ==== Sys2Proof/Laws/FrHealth.lean ====
section
/-! SUPPORT. Frames of the operations of Machine.Health: the parts of State that each may change. -/

set_option maxRecDepth 20000
set_option Elab.async false
set_option linter.unusedTactic false
set_option linter.unreachableTactic false
set_option linter.unusedVariables false

namespace Sys2Proof.Machine

theorem State.setRedund_fr {msk : Nat} {b₀ : State} {s : State} {pool : Nat} {v : Nat} (h₀ : Fr msk b₀ s) (hm₀ : 693062 ||| msk = msk) :
    Fr msk b₀ (State.setRedund s pool v) := by
  refine Fr.step h₀ ?_ hm₀
  clear h₀ hm₀
  unfold State.setRedund
  try dsimp only
  repeat' (first
    | with_reducible exact Fr.refl _ _
    | exact (rfl : (_ : Nat) = _)
    | with_reducible refine State.poolRecord_fr ?_ ?_
    | with_reducible refine State.putFld_fr ?_ ?_)

theorem State.setHealth_fr {msk : Nat} {b₀ : State} {s : State} {m : Nat} {f : HealthRec → HealthRec} (h₀ : Fr msk b₀ s) (hm₀ : 16384 ||| msk = msk) :
    Fr msk b₀ (State.setHealth s m f) := by
  refine Fr.step h₀ ?_ hm₀
  clear h₀ hm₀
  unfold State.setHealth
  try dsimp only
  repeat' (first
    | with_reducible exact Fr.refl _ _
    | refine Fr.mk' ?_)

theorem State.refreshDue_fr {msk : Nat} {b₀ : State} {s : State} {m : Nat} {d : Nat} {bgrp : Nat} (h₀ : Fr msk b₀ s) (hm₀ : 16388 ||| msk = msk) :
    Fr msk b₀ (State.refreshDue s m d bgrp) := by
  refine Fr.step h₀ ?_ hm₀
  clear h₀ hm₀
  unfold State.refreshDue
  try dsimp only
  repeat' (first
    | with_reducible exact Fr.refl _ _
    | with_reducible assumption
    | exact (rfl : (_ : Nat) = _)
    | with_reducible refine State.setHealth_fr ?_ ?_
    | with_reducible refine State.setBg_fr ?_ ?_
    | with_reducible refine State.event_fr ?_ ?_
    | with_reducible refine State.setSeg_fr ?_ ?_
    | with_reducible refine Fr.ite ?_ ?_
    | with_reducible refine Fr.foldl ?_ _ _ ?_
    | intro _ _ _)

theorem State.dieCheck_fr {msk : Nat} {b₀ : State} {s : State} {port : Nat} {m : Nat} {d : Nat} (h₀ : Fr msk b₀ s) (hm₀ : 16384 ||| msk = msk) :
    Fr msk b₀ (State.dieCheck s port m d) := by
  refine Fr.step h₀ ?_ hm₀
  clear h₀ hm₀
  unfold State.dieCheck
  try dsimp only
  repeat' (first
    | with_reducible exact Fr.refl _ _
    | with_reducible assumption
    | exact (rfl : (_ : Nat) = _)
    | with_reducible refine State.setSeg_fr ?_ ?_
    | with_reducible refine State.setDie_fr ?_ ?_
    | with_reducible refine Fr.ite ?_ ?_
    | with_reducible refine Fr.foldl ?_ _ _ ?_
    | intro _ _ _)

theorem State.spareInit_fr {msk : Nat} {b₀ : State} {s : State} {port : Nat} {m : Nat} (h₀ : Fr msk b₀ s) (hm₀ : 16384 ||| msk = msk) :
    Fr msk b₀ (State.spareInit s port m) := by
  refine Fr.step h₀ ?_ hm₀
  clear h₀ hm₀
  unfold State.spareInit
  try dsimp only
  repeat' (first
    | with_reducible exact Fr.refl _ _
    | with_reducible assumption
    | exact (rfl : (_ : Nat) = _)
    | with_reducible refine State.setDie_fr ?_ ?_
    | with_reducible refine State.setHealth_fr ?_ ?_
    | with_reducible refine Fr.ite ?_ ?_
    | with_reducible refine Fr.foldl ?_ _ _ ?_
    | intro _ _ _)

theorem State.recap_fr {msk : Nat} {b₀ : State} {s : State} {pool : Nat} (h₀ : Fr msk b₀ s) (hm₀ : 16384 ||| msk = msk) :
    Fr msk b₀ (State.recap s pool) := by
  refine Fr.step h₀ ?_ hm₀
  clear h₀ hm₀
  unfold State.recap
  try dsimp only
  repeat' (first
    | with_reducible exact Fr.refl _ _
    | exact (rfl : (_ : Nat) = _)
    | with_reducible refine State.setPool_fr ?_ ?_
    | split)

theorem State.healthUpdate_fr {msk : Nat} {b₀ : State} {s : State} {port : Nat} {m : Nat} (h₀ : Fr msk b₀ s) (hm₀ : 16384 ||| msk = msk) :
    Fr msk b₀ (State.healthUpdate s port m) := by
  refine Fr.step h₀ ?_ hm₀
  clear h₀ hm₀
  unfold State.healthUpdate
  try dsimp only
  repeat' (first
    | with_reducible exact Fr.refl _ _
    | exact (rfl : (_ : Nat) = _)
    | with_reducible refine State.setHealth_fr ?_ ?_)

theorem State.spareCheck_fr {msk : Nat} {b₀ : State} {s : State} {port : Nat} {m : Nat} (h₀ : Fr msk b₀ s) (hm₀ : 16388 ||| msk = msk) :
    Fr msk b₀ (State.spareCheck s port m) := by
  refine Fr.step h₀ ?_ hm₀
  clear h₀ hm₀
  unfold State.spareCheck
  try dsimp only
  repeat' (first
    | with_reducible exact Fr.refl _ _
    | exact (rfl : (_ : Nat) = _)
    | with_reducible refine State.event_fr ?_ ?_
    | with_reducible refine State.setHealth_fr ?_ ?_
    | with_reducible refine Fr.ite ?_ ?_)

theorem State.retireGroup_fr {msk : Nat} {b₀ : State} {s : State} {port : Nat} {m : Nat} {d : Nat} {bgrp : Nat} (h₀ : Fr msk b₀ s) (hm₀ : 709446 ||| msk = msk) :
    Fr msk b₀ (State.retireGroup s port m d bgrp) := by
  refine Fr.step h₀ ?_ hm₀
  clear h₀ hm₀
  unfold State.retireGroup
  try dsimp only
  repeat' (first
    | with_reducible exact Fr.refl _ _
    | exact (rfl : (_ : Nat) = _)
    | with_reducible refine State.setBg_fr ?_ ?_
    | with_reducible refine State.setDie_fr ?_ ?_
    | with_reducible refine State.event_fr ?_ ?_
    | with_reducible refine State.setHealth_fr ?_ ?_
    | with_reducible refine State.dieCheck_fr ?_ ?_
    | with_reducible refine State.healthUpdate_fr ?_ ?_
    | with_reducible refine State.spareCheck_fr ?_ ?_
    | with_reducible refine State.raise_fr ?_ ?_)

theorem State.groupsGone_fr {msk : Nat} {b₀ : State} {s : State} {port : Nat} {m : Nat} {d : Nat} (h₀ : Fr msk b₀ s) (hm₀ : 16384 ||| msk = msk) :
    Fr msk b₀ (State.groupsGone s port m d) := by
  refine Fr.step h₀ ?_ hm₀
  clear h₀ hm₀
  unfold State.groupsGone
  try dsimp only
  repeat' (first
    | with_reducible exact Fr.refl _ _
    | with_reducible assumption
    | exact (rfl : (_ : Nat) = _)
    | with_reducible refine State.setHealth_fr ?_ ?_
    | with_reducible refine State.setBg_fr ?_ ?_
    | with_reducible refine Fr.foldl ?_ _ _ ?_
    | intro _ _ _
    | refine Fr.mk' ?_)

theorem State.retireSeg_fr {msk : Nat} {b₀ : State} {s : State} {i : Nat} (h₀ : Fr msk b₀ s) (hm₀ : 16384 ||| msk = msk) :
    Fr msk b₀ (State.retireSeg s i) := by
  refine Fr.step h₀ ?_ hm₀
  clear h₀ hm₀
  unfold State.retireSeg
  try dsimp only
  repeat' (first
    | with_reducible exact Fr.refl _ _
    | exact (rfl : (_ : Nat) = _)
    | with_reducible refine State.addTxn_fr ?_ ?_
    | with_reducible refine State.setSeg_fr ?_ ?_
    | with_reducible refine Fr.ite ?_ ?_
    | split)

theorem State.dieReplace_fr {msk : Nat} {b₀ : State} {s : State} {pool : Nat} {port : Nat} {m : Nat} (h₀ : Fr msk b₀ s) (hm₀ : 709446 ||| msk = msk) :
    Fr msk b₀ (State.dieReplace s pool port m) := by
  refine Fr.step h₀ ?_ hm₀
  clear h₀ hm₀
  unfold State.dieReplace
  try dsimp only
  repeat' (first
    | with_reducible exact Fr.refl _ _
    | exact (rfl : (_ : Nat) = _)
    | with_reducible refine State.setDie_fr ?_ ?_
    | with_reducible refine State.raise_fr ?_ ?_
    | with_reducible refine State.setHealth_fr ?_ ?_
    | with_reducible refine State.setPool_fr ?_ ?_
    | split)

theorem State.retireDie_fr {msk : Nat} {b₀ : State} {s : State} {pool : Nat} {port : Nat} {m : Nat} {d : Nat} {offline : Bool} (h₀ : Fr msk b₀ s) (hm₀ : 709446 ||| msk = msk) :
    Fr msk b₀ (State.retireDie s pool port m d offline) := by
  refine Fr.step h₀ ?_ hm₀
  clear h₀ hm₀
  unfold State.retireDie
  try dsimp only
  repeat' (first
    | with_reducible exact Fr.refl _ _
    | with_reducible assumption
    | exact (rfl : (_ : Nat) = _)
    | with_reducible refine State.groupsGone_fr ?_ ?_
    | with_reducible refine State.setDie_fr ?_ ?_
    | with_reducible refine State.setSeg_fr ?_ ?_
    | with_reducible refine State.retireSeg_fr ?_ ?_
    | with_reducible refine State.raise_fr ?_ ?_
    | with_reducible refine State.setHealth_fr ?_ ?_
    | with_reducible refine State.dieReplace_fr ?_ ?_
    | with_reducible refine State.event_fr ?_ ?_
    | with_reducible refine State.healthUpdate_fr ?_ ?_
    | with_reducible refine State.spareCheck_fr ?_ ?_
    | with_reducible refine State.recap_fr ?_ ?_
    | with_reducible refine State.setRedund_fr ?_ ?_
    | with_reducible refine Fr.ite ?_ ?_
    | with_reducible refine Fr.foldl ?_ _ _ ?_
    | intro _ _ _)

theorem State.dieRetireScan_fr {msk : Nat} {b₀ : State} {s : State} (h₀ : Fr msk b₀ s) (hm₀ : 709446 ||| msk = msk) :
    Fr msk b₀ (State.dieRetireScan s) := by
  refine Fr.step h₀ ?_ hm₀
  clear h₀ hm₀
  unfold State.dieRetireScan
  try dsimp only
  repeat' (first
    | with_reducible exact Fr.refl _ _
    | with_reducible assumption
    | exact (rfl : (_ : Nat) = _)
    | with_reducible refine State.retireDie_fr ?_ ?_
    | with_reducible refine Fr.ite ?_ ?_
    | with_reducible refine Fr.foldl ?_ _ _ ?_
    | intro _ _ _
    | split)

theorem State.readFail_fr {msk : Nat} {b₀ : State} {s : State} {port : Nat} {m : Nat} {d : Nat} {bgrp : Nat} (h₀ : Fr msk b₀ s) (hm₀ : 709446 ||| msk = msk) :
    Fr msk b₀ (State.readFail s port m d bgrp) := by
  refine Fr.step h₀ ?_ hm₀
  clear h₀ hm₀
  unfold State.readFail
  try dsimp only
  repeat' (first
    | with_reducible exact Fr.refl _ _
    | exact (rfl : (_ : Nat) = _)
    | with_reducible refine State.raise_fr ?_ ?_
    | with_reducible refine State.setHealth_fr ?_ ?_
    | with_reducible refine State.setBg_fr ?_ ?_
    | with_reducible refine State.refreshDue_fr ?_ ?_
    | split)

theorem State.eraseFail_fr {msk : Nat} {b₀ : State} {s : State} {seg : Nat} {port : Nat} {k : Nat} (h₀ : Fr msk b₀ s) (hm₀ : 709446 ||| msk = msk) :
    Fr msk b₀ (State.eraseFail s seg port k) := by
  refine Fr.step h₀ ?_ hm₀
  clear h₀ hm₀
  unfold State.eraseFail
  try dsimp only
  repeat' (first
    | with_reducible exact Fr.refl _ _
    | exact (rfl : (_ : Nat) = _)
    | with_reducible refine State.raise_fr ?_ ?_
    | with_reducible refine State.setHealth_fr ?_ ?_
    | with_reducible refine State.eraseScan_fr ?_ ?_
    | with_reducible refine State.retireGroup_fr ?_ ?_
    | with_reducible refine State.sendMod_fr ?_ ?_
    | with_reducible refine State.setSeg_fr ?_ ?_
    | with_reducible refine Fr.ite ?_ ?_
    | split)

theorem State.programFail_fr {msk : Nat} {b₀ : State} {s : State} {seg : Nat} {port : Nat} {p : Place} (h₀ : Fr msk b₀ s) (hm₀ : 709446 ||| msk = msk) :
    Fr msk b₀ (State.programFail s seg port p) := by
  refine Fr.step h₀ ?_ hm₀
  clear h₀ hm₀
  unfold State.programFail
  try dsimp only
  repeat' (first
    | with_reducible exact Fr.refl _ _
    | exact (rfl : (_ : Nat) = _)
    | with_reducible refine State.raise_fr ?_ ?_
    | with_reducible refine State.setHealth_fr ?_ ?_
    | with_reducible refine State.retireSeg_fr ?_ ?_
    | with_reducible refine State.retireGroup_fr ?_ ?_)

theorem State.dieOffline_fr {msk : Nat} {b₀ : State} {s : State} {port : Nat} {d : Nat} (h₀ : Fr msk b₀ s) (hm₀ : 709446 ||| msk = msk) :
    Fr msk b₀ (State.dieOffline s port d) := by
  refine Fr.step h₀ ?_ hm₀
  clear h₀ hm₀
  unfold State.dieOffline
  try dsimp only
  repeat' (first
    | with_reducible exact Fr.refl _ _
    | exact (rfl : (_ : Nat) = _)
    | with_reducible refine State.retireDie_fr ?_ ?_
    | with_reducible refine Fr.ite ?_ ?_
    | split)

theorem State.failHandle_fr {msk : Nat} {b₀ : State} {s : State} {x1 : MediaFail} (h₀ : Fr msk b₀ s) (hm₀ : 709446 ||| msk = msk) :
    Fr msk b₀ (State.failHandle s x1) := by
  refine Fr.step h₀ ?_ hm₀
  clear h₀ hm₀
  unfold State.failHandle
  try dsimp only
  repeat' (first
    | with_reducible exact Fr.refl _ _
    | with_reducible assumption
    | exact (rfl : (_ : Nat) = _)
    | with_reducible refine State.programFail_fr ?_ ?_
    | with_reducible refine State.eraseFail_fr ?_ ?_
    | with_reducible refine State.readFail_fr ?_ ?_
    | with_reducible refine State.dieOffline_fr ?_ ?_
    | dsimp only
    | with_reducible refine Fr.ite ?_ ?_
    | with_reducible refine Fr.ite₁ ?_ ?_
    | with_reducible refine FrS.ite ?_ ?_
    | with_reducible refine FrP.ite ?_ ?_
    | with_reducible exact FrS.none
    | with_reducible refine FrS.some ?_
    | with_reducible refine FrS.map ?_
    | with_reducible exact FrP.none
    | with_reducible refine FrP.some ?_
    | with_reducible refine Fr.elim ?_ ?_
    | with_reducible refine Fr.foldl ?_ _ _ ?_
    | with_reducible refine Fr.foldl₂ ?_ _ _ ?_
    | intro _ _ _ _ _ _
    | intro _ _ _ _ _
    | intro _ _ _ _
    | intro _ _ _
    | intro _ _
    | intro _
    | with_reducible refine Fr.pair (h := ?_) (e := by assumption)
    | with_reducible refine FrO.got (h := ?_) (e := by assumption)
    | with_reducible refine FrS.get (h := ?_) (e := by assumption)
    | with_reducible refine FrP.get (h := ?_) (e := by assumption)
    | split)

theorem State.failsHandle_fr {msk : Nat} {b₀ : State} {s : State} (h₀ : Fr msk b₀ s) (hm₀ : 709446 ||| msk = msk) :
    Fr msk b₀ (State.failsHandle s) := by
  refine Fr.step h₀ ?_ hm₀
  clear h₀ hm₀
  unfold State.failsHandle
  try dsimp only
  repeat' (first
    | with_reducible exact Fr.refl _ _
    | with_reducible assumption
    | exact (rfl : (_ : Nat) = _)
    | with_reducible refine State.failHandle_fr ?_ ?_
    | dsimp only
    | with_reducible refine Fr.ite ?_ ?_
    | with_reducible refine Fr.ite₁ ?_ ?_
    | with_reducible refine FrS.ite ?_ ?_
    | with_reducible refine FrP.ite ?_ ?_
    | with_reducible exact FrS.none
    | with_reducible refine FrS.some ?_
    | with_reducible refine FrS.map ?_
    | with_reducible exact FrP.none
    | with_reducible refine FrP.some ?_
    | with_reducible refine Fr.elim ?_ ?_
    | with_reducible refine Fr.foldl ?_ _ _ ?_
    | with_reducible refine Fr.foldl₂ ?_ _ _ ?_
    | intro _ _ _ _ _ _
    | intro _ _ _ _ _
    | intro _ _ _ _
    | intro _ _ _
    | intro _ _
    | intro _
    | with_reducible refine Fr.pair (h := ?_) (e := by assumption)
    | with_reducible refine FrO.got (h := ?_) (e := by assumption)
    | with_reducible refine FrS.get (h := ?_) (e := by assumption)
    | with_reducible refine FrP.get (h := ?_) (e := by assumption)
    | split
    | refine Fr.mk' ?_)

end Sys2Proof.Machine
end

