-- ==== Sys2Proof/Laws/FrRemount.lean ====
section
/-! SUPPORT. Frames of the operations of Machine.Remount: the parts of State that each may change. -/

set_option maxRecDepth 20000
set_option Elab.async false
set_option linter.unusedTactic false
set_option linter.unreachableTactic false
set_option linter.unusedVariables false

namespace Sys2Proof.Machine

theorem State.clearBank_fr {msk : Nat} {b₀ : State} {s : State} {b : Nat} (h₀ : Fr msk b₀ s) (hm₀ : 8192 ||| msk = msk) :
    Fr msk b₀ (State.clearBank s b) := by
  refine Fr.step h₀ ?_ hm₀
  clear h₀ hm₀
  unfold State.clearBank
  try dsimp only
  repeat' (first
    | with_reducible exact Fr.refl _ _
    | with_reducible assumption
    | exact (rfl : (_ : Nat) = _)
    | dsimp only
    | with_reducible refine Fr.ite ?_ ?_
    | with_reducible refine Fr.ite₁ ?_ ?_
    | with_reducible refine FrS.ite ?_ ?_
    | with_reducible refine FrP.ite ?_ ?_
    | with_reducible exact FrS.none
    | with_reducible refine FrS.some ?_
    | with_reducible refine FrS.map ?_
    | with_reducible exact FrP.none
    | with_reducible refine FrP.some ?_
    | with_reducible refine Fr.elim ?_ ?_
    | with_reducible refine Fr.foldl ?_ _ _ ?_
    | with_reducible refine Fr.foldl₂ ?_ _ _ ?_
    | intro _ _ _ _ _ _
    | intro _ _ _ _ _
    | intro _ _ _ _
    | intro _ _ _
    | intro _ _
    | intro _
    | with_reducible refine Fr.pair (h := ?_) (e := by assumption)
    | with_reducible refine FrO.got (h := ?_) (e := by assumption)
    | with_reducible refine FrS.get (h := ?_) (e := by assumption)
    | with_reducible refine FrP.get (h := ?_) (e := by assumption)
    | split
    | refine Fr.mk' ?_)

theorem State.rmShow_fr {msk : Nat} {b₀ : State} {s : State} (h₀ : Fr msk b₀ s) (hm₀ : 4 ||| msk = msk) :
    Fr msk b₀ (State.rmShow s) := by
  refine Fr.step h₀ ?_ hm₀
  clear h₀ hm₀
  unfold State.rmShow
  try dsimp only
  repeat' (first
    | with_reducible exact Fr.refl _ _
    | exact (rfl : (_ : Nat) = _)
    | with_reducible refine State.wrN_fr ?_ ?_
    | split)

theorem State.rmBegin_fr {msk : Nat} {b₀ : State} {s : State} {j : RmJob} (h₀ : Fr msk b₀ s) (hm₀ : 8452 ||| msk = msk) :
    Fr msk b₀ (State.rmBegin s j) := by
  refine Fr.step h₀ ?_ hm₀
  clear h₀ hm₀
  unfold State.rmBegin
  try dsimp only
  repeat' (first
    | with_reducible exact Fr.refl _ _
    | with_reducible assumption
    | exact (rfl : (_ : Nat) = _)
    | with_reducible refine State.clearBank_fr ?_ ?_
    | with_reducible refine State.rmShow_fr ?_ ?_
    | with_reducible refine State.setGuard_fr ?_ ?_
    | dsimp only
    | with_reducible refine Fr.ite ?_ ?_
    | with_reducible refine Fr.ite₁ ?_ ?_
    | with_reducible refine FrS.ite ?_ ?_
    | with_reducible refine FrP.ite ?_ ?_
    | with_reducible exact FrS.none
    | with_reducible refine FrS.some ?_
    | with_reducible refine FrS.map ?_
    | with_reducible exact FrP.none
    | with_reducible refine FrP.some ?_
    | with_reducible refine Fr.elim ?_ ?_
    | with_reducible refine Fr.foldl ?_ _ _ ?_
    | with_reducible refine Fr.foldl₂ ?_ _ _ ?_
    | intro _ _ _ _ _ _
    | intro _ _ _ _ _
    | intro _ _ _ _
    | intro _ _ _
    | intro _ _
    | intro _
    | with_reducible refine Fr.pair (h := ?_) (e := by assumption)
    | with_reducible refine FrO.got (h := ?_) (e := by assumption)
    | with_reducible refine FrS.get (h := ?_) (e := by assumption)
    | with_reducible refine FrP.get (h := ?_) (e := by assumption)
    | split)

theorem State.rmDue_fr {msk : Nat} {b₀ : State} {s : State} {j : RmJob} (h₀ : Fr msk b₀ s) (hm₀ : 8452 ||| msk = msk) :
    Fr msk b₀ (State.rmDue s j) := by
  refine Fr.step h₀ ?_ hm₀
  clear h₀ hm₀
  unfold State.rmDue
  try dsimp only
  repeat' (first
    | with_reducible exact Fr.refl _ _
    | exact (rfl : (_ : Nat) = _)
    | with_reducible refine State.rmBegin_fr ?_ ?_
    | with_reducible refine State.setGuard_fr ?_ ?_
    | split)

theorem State.rmPlan_fr {msk : Nat} {b₀ : State} {s : State} {p : Nat} {sub : Nat} {trigger : Nat} {cmd : Bool} (h₀ : Fr msk b₀ s) (hm₀ : 8452 ||| msk = msk) :
    Fr msk b₀ (State.rmPlan s p sub trigger cmd) := by
  refine Fr.step h₀ ?_ hm₀
  clear h₀ hm₀
  unfold State.rmPlan
  try dsimp only
  repeat' (first
    | with_reducible exact Fr.refl _ _
    | exact (rfl : (_ : Nat) = _)
    | with_reducible refine State.event_fr ?_ ?_
    | with_reducible refine State.wrN_fr ?_ ?_
    | with_reducible refine State.actStart_fr ?_ ?_
    | with_reducible refine State.rmDue_fr ?_ ?_
    | with_reducible refine Fr.ite ?_ ?_
    | split)

theorem State.rmRecord_fr {msk : Nat} {b₀ : State} {s : State} {p : Nat} {sub : Nat} {old : Nat} {new : Nat} {trigger : Nat} {result : Nat} {strides : Nat} {faultSeq : Nat} (h₀ : Fr msk b₀ s) (hm₀ : 693062 ||| msk = msk) :
    Fr msk b₀ (State.rmRecord s p sub old new trigger result strides faultSeq) := by
  refine Fr.step h₀ ?_ hm₀
  clear h₀ hm₀
  unfold State.rmRecord
  try dsimp only
  repeat' (first
    | with_reducible exact Fr.refl _ _
    | exact (rfl : (_ : Nat) = _)
    | with_reducible refine State.record_fr ?_ ?_)

theorem State.l3Done_fr {msk : Nat} {b₀ : State} {s : State} {p : Nat} {sub : Nat} (h₀ : Fr msk b₀ s) (hm₀ : 256 ||| msk = msk) :
    Fr msk b₀ (State.l3Done s p sub) := by
  refine Fr.step h₀ ?_ hm₀
  clear h₀ hm₀
  unfold State.l3Done
  try dsimp only
  repeat' (first
    | with_reducible exact Fr.refl _ _
    | exact (rfl : (_ : Nat) = _)
    | with_reducible refine State.setLadder_fr ?_ ?_)

theorem State.rmEnd_fr {msk : Nat} {b₀ : State} {s : State} {j : RmJob} {status : Nat} (h₀ : Fr msk b₀ s) (hm₀ : 260 ||| msk = msk) :
    Fr msk b₀ (State.rmEnd s j status) := by
  refine Fr.step h₀ ?_ hm₀
  clear h₀ hm₀
  unfold State.rmEnd
  try dsimp only
  repeat' (first
    | with_reducible exact Fr.refl _ _
    | exact (rfl : (_ : Nat) = _)
    | with_reducible refine State.l3Done_fr ?_ ?_
    | with_reducible refine State.actEnd_fr ?_ ?_
    | with_reducible refine State.wrN_fr ?_ ?_
    | with_reducible refine Fr.ite ?_ ?_)

theorem State.rmAbandonOne_fr {msk : Nat} {b₀ : State} {s : State} {j : RmJob} (h₀ : Fr msk b₀ s) (hm₀ : 693062 ||| msk = msk) :
    Fr msk b₀ (State.rmAbandonOne s j) := by
  refine Fr.step h₀ ?_ hm₀
  clear h₀ hm₀
  unfold State.rmAbandonOne
  try dsimp only
  repeat' (first
    | with_reducible exact Fr.refl _ _
    | exact (rfl : (_ : Nat) = _)
    | with_reducible refine State.raise_fr ?_ ?_
    | with_reducible refine State.rmRecord_fr ?_ ?_
    | with_reducible refine State.rmEnd_fr ?_ ?_
    | with_reducible refine State.event_fr ?_ ?_)

theorem State.rmAbandon_fr {msk : Nat} {b₀ : State} {s : State} (h₀ : Fr msk b₀ s) (hm₀ : 693062 ||| msk = msk) :
    Fr msk b₀ (State.rmAbandon s) := by
  refine Fr.step h₀ ?_ hm₀
  clear h₀ hm₀
  unfold State.rmAbandon
  try dsimp only
  repeat' (first
    | with_reducible exact Fr.refl _ _
    | with_reducible assumption
    | exact (rfl : (_ : Nat) = _)
    | with_reducible refine State.setGuard_fr ?_ ?_
    | with_reducible refine State.rmShow_fr ?_ ?_
    | with_reducible refine State.rmAbandonOne_fr ?_ ?_
    | with_reducible refine Fr.foldl ?_ _ _ ?_
    | intro _ _ _)

theorem State.rmActRun_fr {msk : Nat} {b₀ : State} {s : State} {a : Activity} (h₀ : Fr msk b₀ s) (hm₀ : 8452 ||| msk = msk) :
    Fr msk b₀ (State.rmActRun s a) := by
  refine Fr.step h₀ ?_ hm₀
  clear h₀ hm₀
  unfold State.rmActRun
  try dsimp only
  repeat' (first
    | with_reducible exact Fr.refl _ _
    | exact (rfl : (_ : Nat) = _)
    | with_reducible refine State.actEnd_fr ?_ ?_
    | with_reducible refine State.event_fr ?_ ?_
    | with_reducible refine State.wrN_fr ?_ ?_
    | with_reducible refine State.rmDue_fr ?_ ?_
    | with_reducible refine Fr.ite ?_ ?_
    | split)

theorem State.mapSave_fr {msk : Nat} {b₀ : State} {s : State} {ok : Bool} (h₀ : Fr msk b₀ s) (hm₀ : 693062 ||| msk = msk) :
    Fr msk b₀ (State.mapSave s ok) := by
  refine Fr.step h₀ ?_ hm₀
  clear h₀ hm₀
  unfold State.mapSave
  try dsimp only
  repeat' (first
    | with_reducible exact Fr.refl _ _
    | exact (rfl : (_ : Nat) = _)
    | with_reducible refine State.setGuard_fr ?_ ?_
    | with_reducible refine State.raise_fr ?_ ?_
    | with_reducible refine Fr.ite ?_ ?_)

theorem State.rowSwitch_fr {msk : Nat} {b₀ : State} {s : State} {mapOk : Bool} {j : Nat × Nat × Nat × Nat} (h₀ : Fr msk b₀ s) (hm₀ : 693062 ||| msk = msk) :
    Fr msk b₀ (State.rowSwitch s mapOk j) := by
  refine Fr.step h₀ ?_ hm₀
  clear h₀ hm₀
  unfold State.rowSwitch
  try dsimp only
  repeat' (first
    | with_reducible exact Fr.refl _ _
    | exact (rfl : (_ : Nat) = _)
    | with_reducible refine State.setGuard_fr ?_ ?_
    | with_reducible refine State.putFld_fr ?_ ?_
    | with_reducible refine State.record_fr ?_ ?_
    | with_reducible refine State.mapSave_fr ?_ ?_)

theorem State.rowCommit_fr {msk : Nat} {b₀ : State} {s : State} {mapOk : Bool} (h₀ : Fr msk b₀ s) (hm₀ : 693062 ||| msk = msk) :
    Fr msk b₀ (State.rowCommit s mapOk) := by
  refine Fr.step h₀ ?_ hm₀
  clear h₀ hm₀
  unfold State.rowCommit
  try dsimp only
  repeat' (first
    | with_reducible exact Fr.refl _ _
    | with_reducible assumption
    | exact (rfl : (_ : Nat) = _)
    | with_reducible refine State.rowSwitch_fr ?_ ?_
    | with_reducible refine State.setGuard_fr ?_ ?_
    | with_reducible refine Fr.foldl ?_ _ _ ?_
    | intro _ _ _)

theorem State.cancelled_fr {msk : Nat} {b₀ : State} {s : State} {code : Nat} (h₀ : Fr msk b₀ s) (hm₀ : 4 ||| msk = msk) :
    Fr msk b₀ (State.cancelled s code) := by
  refine Fr.step h₀ ?_ hm₀
  clear h₀ hm₀
  unfold State.cancelled
  try dsimp only
  repeat' (first
    | with_reducible exact Fr.refl _ _
    | exact (rfl : (_ : Nat) = _)
    | with_reducible refine State.event_fr ?_ ?_
    | with_reducible refine State.wrN_fr ?_ ?_
    | with_reducible refine Fr.ite ?_ ?_)

theorem State.setEntry_fr {msk : Nat} {b₀ : State} {s : State} {e : LadEntry} {f : LadEntry → LadEntry} (h₀ : Fr msk b₀ s) (hm₀ : 256 ||| msk = msk) :
    Fr msk b₀ (State.setEntry s e f) := by
  refine Fr.step h₀ ?_ hm₀
  clear h₀ hm₀
  unfold State.setEntry
  try dsimp only
  repeat' (first
    | with_reducible exact Fr.refl _ _
    | exact (rfl : (_ : Nat) = _)
    | with_reducible refine State.setLadder_fr ?_ ?_)

theorem State.degrade_fr {msk : Nat} {b₀ : State} {s : State} {e : LadEntry} (h₀ : Fr msk b₀ s) (hm₀ : 260 ||| msk = msk) :
    Fr msk b₀ (State.degrade s e) := by
  refine Fr.step h₀ ?_ hm₀
  clear h₀ hm₀
  unfold State.degrade
  try dsimp only
  repeat' (first
    | with_reducible exact Fr.refl _ _
    | exact (rfl : (_ : Nat) = _)
    | with_reducible refine State.setUnitSt_fr ?_ ?_
    | with_reducible refine State.rmShow_fr ?_ ?_
    | with_reducible refine State.setGuard_fr ?_ ?_
    | with_reducible refine Fr.ite ?_ ?_)

theorem State.noSpare_fr {msk : Nat} {b₀ : State} {s : State} {e : LadEntry} {mapOk : Bool} (h₀ : Fr msk b₀ s) (hm₀ : 701254 ||| msk = msk) :
    Fr msk b₀ (State.noSpare s e mapOk) := by
  refine Fr.step h₀ ?_ hm₀
  clear h₀ hm₀
  unfold State.noSpare
  try dsimp only
  repeat' (first
    | with_reducible exact Fr.refl _ _
    | with_reducible assumption
    | exact (rfl : (_ : Nat) = _)
    | with_reducible refine State.event_fr ?_ ?_
    | with_reducible refine State.rmRecord_fr ?_ ?_
    | with_reducible refine State.setUnitSt_fr ?_ ?_
    | with_reducible refine State.raise_fr ?_ ?_
    | with_reducible refine State.clearBank_fr ?_ ?_
    | with_reducible refine State.l3Done_fr ?_ ?_
    | with_reducible refine State.mapSave_fr ?_ ?_
    | with_reducible refine State.escalate_fr ?_ ?_
    | dsimp only
    | with_reducible refine Fr.ite ?_ ?_
    | with_reducible refine Fr.ite₁ ?_ ?_
    | with_reducible refine FrS.ite ?_ ?_
    | with_reducible refine FrP.ite ?_ ?_
    | with_reducible exact FrS.none
    | with_reducible refine FrS.some ?_
    | with_reducible refine FrS.map ?_
    | with_reducible exact FrP.none
    | with_reducible refine FrP.some ?_
    | with_reducible refine Fr.elim ?_ ?_
    | with_reducible refine Fr.foldl ?_ _ _ ?_
    | with_reducible refine Fr.foldl₂ ?_ _ _ ?_
    | intro _ _ _ _ _ _
    | intro _ _ _ _ _
    | intro _ _ _ _
    | intro _ _ _
    | intro _ _
    | intro _
    | with_reducible refine Fr.pair (h := ?_) (e := by assumption)
    | with_reducible refine FrO.got (h := ?_) (e := by assumption)
    | with_reducible refine FrS.get (h := ?_) (e := by assumption)
    | with_reducible refine FrP.get (h := ?_) (e := by assumption)
    | split)

theorem State.handleL3_fr {msk : Nat} {b₀ : State} {s : State} {e : LadEntry} {mapOk : Bool} (h₀ : Fr msk b₀ s) (hm₀ : 701254 ||| msk = msk) :
    Fr msk b₀ (State.handleL3 s e mapOk) := by
  refine Fr.step h₀ ?_ hm₀
  clear h₀ hm₀
  unfold State.handleL3
  try dsimp only
  repeat' (first
    | with_reducible exact Fr.refl _ _
    | exact (rfl : (_ : Nat) = _)
    | with_reducible refine State.l3Done_fr ?_ ?_
    | with_reducible refine State.rmRecord_fr ?_ ?_
    | with_reducible refine State.noSpare_fr ?_ ?_
    | with_reducible refine State.rmDue_fr ?_ ?_
    | with_reducible refine State.escalate_fr ?_ ?_
    | with_reducible refine Fr.ite ?_ ?_
    | split)

theorem State.handleStep_fr {msk : Nat} {b₀ : State} {s : State} {e : LadEntry} {mapOk : Bool} (h₀ : Fr msk b₀ s) (hm₀ : 701254 ||| msk = msk) :
    Fr msk b₀ (State.handleStep s e mapOk) := by
  refine Fr.step h₀ ?_ hm₀
  clear h₀ hm₀
  unfold State.handleStep
  try dsimp only
  repeat' (first
    | with_reducible exact Fr.refl _ _
    | exact (rfl : (_ : Nat) = _)
    | with_reducible refine State.setEntry_fr ?_ ?_
    | with_reducible refine State.degrade_fr ?_ ?_
    | with_reducible refine State.handleL3_fr ?_ ?_
    | with_reducible refine Fr.ite ?_ ?_)

theorem execGdActCancel_fr {msk : Nat} {b₀ : State} {code : Nat} {pool : Nat} {s : State} (h₀ : Fr msk b₀ s) (hm₀ : 260 ||| msk = msk) :
    FrO msk b₀ (execGdActCancel code pool s) := by
  refine FrO.step h₀ ?_ hm₀
  clear h₀ hm₀
  unfold execGdActCancel
  try dsimp only
  repeat' (first
    | with_reducible exact Fr.refl _ _
    | exact (rfl : (_ : Nat) = _)
    | with_reducible refine State.cancelled_fr ?_ ?_
    | with_reducible refine State.setActs_fr ?_ ?_
    | with_reducible refine FrO.next ?_
    | split)

theorem State.copyBad_fr {msk : Nat} {b₀ : State} {s : State} {bank : Nat} {bad : List Nat} (h₀ : Fr msk b₀ s) (hm₀ : 8192 ||| msk = msk) :
    Fr msk b₀ (State.copyBad s bank bad) := by
  refine Fr.step h₀ ?_ hm₀
  clear h₀ hm₀
  unfold State.copyBad
  try dsimp only
  repeat' (first
    | with_reducible exact Fr.refl _ _
    | with_reducible assumption
    | exact (rfl : (_ : Nat) = _)
    | with_reducible refine State.setCam_fr ?_ ?_
    | dsimp only
    | with_reducible refine Fr.ite ?_ ?_
    | with_reducible refine Fr.ite₁ ?_ ?_
    | with_reducible refine FrS.ite ?_ ?_
    | with_reducible refine FrP.ite ?_ ?_
    | with_reducible exact FrS.none
    | with_reducible refine FrS.some ?_
    | with_reducible refine FrS.map ?_
    | with_reducible exact FrP.none
    | with_reducible refine FrP.some ?_
    | with_reducible refine Fr.elim ?_ ?_
    | with_reducible refine Fr.foldl ?_ _ _ ?_
    | with_reducible refine Fr.foldl₂ ?_ _ _ ?_
    | intro _ _ _ _ _ _
    | intro _ _ _ _ _
    | intro _ _ _ _
    | intro _ _ _
    | intro _ _
    | intro _
    | with_reducible refine Fr.pair (h := ?_) (e := by assumption)
    | with_reducible refine FrO.got (h := ?_) (e := by assumption)
    | with_reducible refine FrS.get (h := ?_) (e := by assumption)
    | with_reducible refine FrP.get (h := ?_) (e := by assumption)
    | split)

theorem State.rmSwap_fr {msk : Nat} {b₀ : State} {s : State} {j : RmJob} (h₀ : Fr msk b₀ s) (hm₀ : 693062 ||| msk = msk) :
    Fr msk b₀ (State.rmSwap s j) := by
  refine Fr.step h₀ ?_ hm₀
  clear h₀ hm₀
  unfold State.rmSwap
  try dsimp only
  repeat' (first
    | with_reducible exact Fr.refl _ _
    | with_reducible assumption
    | exact (rfl : (_ : Nat) = _)
    | with_reducible refine State.putFld_fr ?_ ?_
    | with_reducible refine State.setPage_fr ?_ ?_
    | with_reducible refine State.setUnitSt_fr ?_ ?_
    | with_reducible refine State.putBit_fr ?_ ?_
    | with_reducible refine State.rmRecord_fr ?_ ?_
    | with_reducible refine State.event_fr ?_ ?_
    | dsimp only
    | with_reducible refine Fr.ite ?_ ?_
    | with_reducible refine Fr.ite₁ ?_ ?_
    | with_reducible refine FrS.ite ?_ ?_
    | with_reducible refine FrP.ite ?_ ?_
    | with_reducible exact FrS.none
    | with_reducible refine FrS.some ?_
    | with_reducible refine FrS.map ?_
    | with_reducible exact FrP.none
    | with_reducible refine FrP.some ?_
    | with_reducible refine Fr.elim ?_ ?_
    | with_reducible refine Fr.foldl ?_ _ _ ?_
    | with_reducible refine Fr.foldl₂ ?_ _ _ ?_
    | intro _ _ _ _ _ _
    | intro _ _ _ _ _
    | intro _ _ _ _
    | intro _ _ _
    | intro _ _
    | intro _
    | with_reducible refine Fr.pair (h := ?_) (e := by assumption)
    | with_reducible refine FrO.got (h := ?_) (e := by assumption)
    | with_reducible refine FrS.get (h := ?_) (e := by assumption)
    | with_reducible refine FrP.get (h := ?_) (e := by assumption)
    | split)

theorem State.rmSwitch_fr {msk : Nat} {b₀ : State} {s : State} {j : RmJob} {mapOk : Bool} (h₀ : Fr msk b₀ s) (hm₀ : 693062 ||| msk = msk) :
    Fr msk b₀ (State.rmSwitch s j mapOk) := by
  refine Fr.step h₀ ?_ hm₀
  clear h₀ hm₀
  unfold State.rmSwitch
  try dsimp only
  repeat' (first
    | with_reducible exact Fr.refl _ _
    | exact (rfl : (_ : Nat) = _)
    | with_reducible refine State.rmSwap_fr ?_ ?_
    | with_reducible refine State.setGuard_fr ?_ ?_
    | with_reducible refine State.raise_fr ?_ ?_
    | with_reducible refine State.putFld_fr ?_ ?_
    | with_reducible refine State.event_fr ?_ ?_
    | with_reducible refine State.count_fr ?_ ?_
    | with_reducible refine State.rmShow_fr ?_ ?_
    | with_reducible refine State.rmEnd_fr ?_ ?_
    | with_reducible refine State.mapSave_fr ?_ ?_
    | with_reducible refine Fr.ite ?_ ?_)

theorem State.rmCommit_fr {msk : Nat} {b₀ : State} {s : State} {mapOk : Bool} {camBad : List Nat} (h₀ : Fr msk b₀ s) (hm₀ : 701254 ||| msk = msk) :
    Fr msk b₀ (State.rmCommit s mapOk camBad) := by
  refine Fr.step h₀ ?_ hm₀
  clear h₀ hm₀
  unfold State.rmCommit
  try dsimp only
  repeat' (first
    | with_reducible exact Fr.refl _ _
    | with_reducible assumption
    | exact (rfl : (_ : Nat) = _)
    | with_reducible refine State.rmBegin_fr ?_ ?_
    | with_reducible refine State.setGuard_fr ?_ ?_
    | with_reducible refine State.copyBad_fr ?_ ?_
    | with_reducible refine State.rmSwitch_fr ?_ ?_
    | with_reducible refine State.rmShow_fr ?_ ?_
    | dsimp only
    | with_reducible refine Fr.ite ?_ ?_
    | with_reducible refine Fr.ite₁ ?_ ?_
    | with_reducible refine FrS.ite ?_ ?_
    | with_reducible refine FrP.ite ?_ ?_
    | with_reducible exact FrS.none
    | with_reducible refine FrS.some ?_
    | with_reducible refine FrS.map ?_
    | with_reducible exact FrP.none
    | with_reducible refine FrP.some ?_
    | with_reducible refine Fr.elim ?_ ?_
    | with_reducible refine Fr.foldl ?_ _ _ ?_
    | with_reducible refine Fr.foldl₂ ?_ _ _ ?_
    | intro _ _ _ _ _ _
    | intro _ _ _ _ _
    | intro _ _ _ _
    | intro _ _ _
    | intro _ _
    | intro _
    | with_reducible refine Fr.pair (h := ?_) (e := by assumption)
    | with_reducible refine FrO.got (h := ?_) (e := by assumption)
    | with_reducible refine FrS.get (h := ?_) (e := by assumption)
    | with_reducible refine FrP.get (h := ?_) (e := by assumption)
    | split)

theorem execRemountStart_fr {msk : Nat} {b₀ : State} {p : Nat} {sub : Nat} {s : State} (h₀ : Fr msk b₀ s) (hm₀ : 8452 ||| msk = msk) :
    FrO msk b₀ (execRemountStart p sub s) := by
  refine FrO.step h₀ ?_ hm₀
  clear h₀ hm₀
  unfold execRemountStart
  try dsimp only
  repeat' (first
    | with_reducible exact Fr.refl _ _
    | exact (rfl : (_ : Nat) = _)
    | with_reducible refine State.rmPlan_fr ?_ ?_
    | with_reducible refine FrO.ite ?_ ?_
    | with_reducible refine FrO.next ?_
    | split)

theorem State.ladderHandle_fr {msk : Nat} {b₀ : State} {s : State} {mapOk : Bool} (h₀ : Fr msk b₀ s) (hm₀ : 701254 ||| msk = msk) :
    Fr msk b₀ (State.ladderHandle s mapOk) := by
  refine Fr.step h₀ ?_ hm₀
  clear h₀ hm₀
  unfold State.ladderHandle
  try dsimp only
  repeat' (first
    | with_reducible exact Fr.refl _ _
    | exact (rfl : (_ : Nat) = _)
    | with_reducible refine State.setLadder_fr ?_ ?_
    | with_reducible refine State.setEntry_fr ?_ ?_
    | with_reducible refine State.handleStep_fr ?_ ?_
    | with_reducible refine Fr.ite ?_ ?_
    | split)

theorem execSramRowRepair_fr {msk : Nat} {b₀ : State} {mac : Nat} {row : Nat} {trigger : Nat} {s : State} (h₀ : Fr msk b₀ s) (hm₀ : 693062 ||| msk = msk) :
    FrO msk b₀ (execSramRowRepair mac row trigger s) := by
  refine FrO.step h₀ ?_ hm₀
  clear h₀ hm₀
  unfold execSramRowRepair
  try dsimp only
  repeat' (first
    | with_reducible exact Fr.refl _ _
    | exact (rfl : (_ : Nat) = _)
    | with_reducible refine State.raise_fr ?_ ?_
    | with_reducible refine State.setGuard_fr ?_ ?_
    | with_reducible refine FrO.ite ?_ ?_
    | with_reducible refine FrO.next ?_)

theorem execRmCmd_fr {msk : Nat} {b₀ : State} {p : Nat} {sub : Nat} {s : State} (h₀ : Fr msk b₀ s) (hm₀ : 701254 ||| msk = msk) :
    FrO msk b₀ (execRmCmd p sub s) := by
  refine FrO.step h₀ ?_ hm₀
  clear h₀ hm₀
  unfold execRmCmd
  try dsimp only
  repeat' (first
    | with_reducible exact Fr.refl _ _
    | exact (rfl : (_ : Nat) = _)
    | with_reducible refine State.writeDiscarded_fr ?_ ?_
    | with_reducible refine State.wrN_fr ?_ ?_
    | with_reducible refine State.event_fr ?_ ?_
    | with_reducible refine State.rmRecord_fr ?_ ?_
    | with_reducible refine State.rmPlan_fr ?_ ?_
    | with_reducible refine FrO.ite ?_ ?_
    | with_reducible refine FrO.next ?_)

end Sys2Proof.Machine
end

