-- ==== Sys2Proof/Laws/FrDram.lean ====
section
/-! SUPPORT. Frames of the operations of Machine.Dram: the parts of State that each may change. -/

set_option maxRecDepth 20000
set_option Elab.async false
set_option linter.unusedTactic false
set_option linter.unreachableTactic false
set_option linter.unusedVariables false

namespace Sys2Proof.Machine

theorem State.setChan_fr {msk : Nat} {b₀ : State} {s : State} {ch : Nat} {c : Channel} (h₀ : Fr msk b₀ s) (hm₀ : 65536 ||| msk = msk) :
    Fr msk b₀ (State.setChan s ch c) := by
  refine Fr.step h₀ ?_ hm₀
  clear h₀ hm₀
  unfold State.setChan
  try dsimp only
  repeat' (first
    | with_reducible exact Fr.refl _ _
    | refine Fr.mk' ?_)

theorem State.rankRecord_fr {msk : Nat} {b₀ : State} {s : State} {ch : Nat} {k : RankCopy} {new : Nat} {result : Nat} (h₀ : Fr msk b₀ s) (hm₀ : 693062 ||| msk = msk) :
    Fr msk b₀ (State.rankRecord s ch k new result) := by
  refine Fr.step h₀ ?_ hm₀
  clear h₀ hm₀
  unfold State.rankRecord
  try dsimp only
  repeat' (first
    | with_reducible exact Fr.refl _ _
    | exact (rfl : (_ : Nat) = _)
    | with_reducible refine State.record_fr ?_ ?_)

theorem State.rankAbandon_fr {msk : Nat} {b₀ : State} {s : State} (h₀ : Fr msk b₀ s) (hm₀ : 758598 ||| msk = msk) :
    Fr msk b₀ (State.rankAbandon s) := by
  refine Fr.step h₀ ?_ hm₀
  clear h₀ hm₀
  unfold State.rankAbandon
  try dsimp only
  repeat' (first
    | with_reducible exact Fr.refl _ _
    | with_reducible assumption
    | exact (rfl : (_ : Nat) = _)
    | with_reducible refine State.putBit_fr ?_ ?_
    | with_reducible refine State.setChan_fr ?_ ?_
    | with_reducible refine State.raise_fr ?_ ?_
    | with_reducible refine State.event_fr ?_ ?_
    | with_reducible refine State.rankRecord_fr ?_ ?_
    | with_reducible refine Fr.foldl ?_ _ _ ?_
    | intro _ _ _
    | split)

theorem State.freqAsk_fr {msk : Nat} {b₀ : State} {s : State} {ch : Nat} {speed : Nat} (h₀ : Fr msk b₀ s) (hm₀ : 65540 ||| msk = msk) :
    Fr msk b₀ (State.freqAsk s ch speed) := by
  refine Fr.step h₀ ?_ hm₀
  clear h₀ hm₀
  unfold State.freqAsk
  try dsimp only
  repeat' (first
    | with_reducible exact Fr.refl _ _
    | exact (rfl : (_ : Nat) = _)
    | with_reducible refine State.putBit_fr ?_ ?_
    | with_reducible refine State.setChan_fr ?_ ?_)

theorem State.freqNext_fr {msk : Nat} {b₀ : State} {s : State} (h₀ : Fr msk b₀ s) (hm₀ : 65540 ||| msk = msk) :
    Fr msk b₀ (State.freqNext s) := by
  refine Fr.step h₀ ?_ hm₀
  clear h₀ hm₀
  unfold State.freqNext
  try dsimp only
  repeat' (first
    | with_reducible exact Fr.refl _ _
    | exact (rfl : (_ : Nat) = _)
    | with_reducible refine State.freqAsk_fr ?_ ?_
    | split
    | refine Fr.mk' ?_)

theorem execFreqChangeDone_fr {msk : Nat} {b₀ : State} {ch : Nat} {ok : Bool} {s : State} (h₀ : Fr msk b₀ s) (hm₀ : 758598 ||| msk = msk) :
    FrO msk b₀ (execFreqChangeDone ch ok s) := by
  refine FrO.step h₀ ?_ hm₀
  clear h₀ hm₀
  unfold execFreqChangeDone
  try dsimp only
  repeat' (first
    | with_reducible exact Fr.refl _ _
    | exact (rfl : (_ : Nat) = _)
    | with_reducible refine State.putBit_fr ?_ ?_
    | with_reducible refine State.setChan_fr ?_ ?_
    | with_reducible refine State.freqNext_fr ?_ ?_
    | with_reducible refine State.event_fr ?_ ?_
    | with_reducible refine State.putFld_fr ?_ ?_
    | with_reducible refine State.raise_fr ?_ ?_
    | with_reducible refine FrO.ite ?_ ?_
    | with_reducible refine FrO.next ?_
    | split)

theorem execWriteTimingTrack_fr {msk : Nat} {b₀ : State} {ch : Nat} {steps : Nat} {s : State} (h₀ : Fr msk b₀ s) (hm₀ : 4 ||| msk = msk) :
    FrO msk b₀ (execWriteTimingTrack ch steps s) := by
  refine FrO.step h₀ ?_ hm₀
  clear h₀ hm₀
  unfold execWriteTimingTrack
  try dsimp only
  repeat' (first
    | with_reducible exact Fr.refl _ _
    | exact (rfl : (_ : Nat) = _)
    | with_reducible refine State.countBy_fr ?_ ?_
    | with_reducible refine FrO.next ?_)

theorem State.dramAddr_fr {msk : Nat} {b₀ : State} {s : State} {ch : Nat} {addr : Nat} (h₀ : Fr msk b₀ s) (hm₀ : 4 ||| msk = msk) :
    Fr msk b₀ (State.dramAddr s ch addr) := by
  refine Fr.step h₀ ?_ hm₀
  clear h₀ hm₀
  unfold State.dramAddr
  try dsimp only
  repeat' (first
    | with_reducible exact Fr.refl _ _
    | exact (rfl : (_ : Nat) = _)
    | with_reducible refine State.wr64_fr ?_ ?_)

theorem execDcFreqGo_fr {msk : Nat} {b₀ : State} {ch : Nat} {speed : Nat} {all : Bool} {s : State} (h₀ : Fr msk b₀ s) (hm₀ : 758598 ||| msk = msk) :
    FrO msk b₀ (execDcFreqGo ch speed all s) := by
  refine FrO.step h₀ ?_ hm₀
  clear h₀ hm₀
  unfold execDcFreqGo
  try dsimp only
  repeat' (first
    | with_reducible exact Fr.refl _ _
    | exact (rfl : (_ : Nat) = _)
    | with_reducible refine State.writeDiscarded_fr ?_ ?_
    | with_reducible refine State.freqAsk_fr ?_ ?_
    | with_reducible refine Fr.ite ?_ ?_
    | with_reducible refine FrO.ite ?_ ?_
    | with_reducible refine FrO.next ?_
    | refine Fr.mk' ?_)

theorem State.dcLatency_fr {msk : Nat} {b₀ : State} {s : State} {ch : Nat} {now : Nat} {r : DramReq} (h₀ : Fr msk b₀ s) (hm₀ : 4 ||| msk = msk) :
    Fr msk b₀ (State.dcLatency s ch now r) := by
  refine Fr.step h₀ ?_ hm₀
  clear h₀ hm₀
  unfold State.dcLatency
  try dsimp only
  repeat' (first
    | with_reducible exact Fr.refl _ _
    | with_reducible assumption
    | exact (rfl : (_ : Nat) = _)
    | with_reducible refine State.highWater_fr ?_ ?_
    | dsimp only
    | with_reducible refine Fr.ite ?_ ?_
    | with_reducible refine Fr.ite₁ ?_ ?_
    | with_reducible refine FrS.ite ?_ ?_
    | with_reducible refine FrP.ite ?_ ?_
    | with_reducible exact FrS.none
    | with_reducible refine FrS.some ?_
    | with_reducible refine FrS.map ?_
    | with_reducible exact FrP.none
    | with_reducible refine FrP.some ?_
    | with_reducible refine Fr.elim ?_ ?_
    | with_reducible refine Fr.foldl ?_ _ _ ?_
    | with_reducible refine Fr.foldl₂ ?_ _ _ ?_
    | intro _ _ _ _ _ _
    | intro _ _ _ _ _
    | intro _ _ _ _
    | intro _ _ _
    | intro _ _
    | intro _
    | with_reducible refine Fr.pair (h := ?_) (e := by assumption)
    | with_reducible refine FrO.got (h := ?_) (e := by assumption)
    | with_reducible refine FrS.get (h := ?_) (e := by assumption)
    | with_reducible refine FrP.get (h := ?_) (e := by assumption)
    | split)

theorem State.dcIssue_fr {msk : Nat} {b₀ : State} {s : State} {ch : Nat} {now : Nat} {r : DramReq} (h₀ : Fr msk b₀ s) (hm₀ : 65540 ||| msk = msk) :
    Fr msk b₀ (State.dcIssue s ch now r) := by
  refine Fr.step h₀ ?_ hm₀
  clear h₀ hm₀
  unfold State.dcIssue
  try dsimp only
  repeat' (first
    | with_reducible exact Fr.refl _ _
    | with_reducible assumption
    | exact (rfl : (_ : Nat) = _)
    | with_reducible refine State.dcLatency_fr ?_ ?_
    | with_reducible refine State.setChan_fr ?_ ?_
    | dsimp only
    | with_reducible refine Fr.ite ?_ ?_
    | with_reducible refine Fr.ite₁ ?_ ?_
    | with_reducible refine FrS.ite ?_ ?_
    | with_reducible refine FrP.ite ?_ ?_
    | with_reducible exact FrS.none
    | with_reducible refine FrS.some ?_
    | with_reducible refine FrS.map ?_
    | with_reducible exact FrP.none
    | with_reducible refine FrP.some ?_
    | with_reducible refine Fr.elim ?_ ?_
    | with_reducible refine Fr.foldl ?_ _ _ ?_
    | with_reducible refine Fr.foldl₂ ?_ _ _ ?_
    | intro _ _ _ _ _ _
    | intro _ _ _ _ _
    | intro _ _ _ _
    | intro _ _ _
    | intro _ _
    | intro _
    | with_reducible refine Fr.pair (h := ?_) (e := by assumption)
    | with_reducible refine FrO.got (h := ?_) (e := by assumption)
    | with_reducible refine FrS.get (h := ?_) (e := by assumption)
    | with_reducible refine FrP.get (h := ?_) (e := by assumption)
    | split)

theorem State.dcNext_fr {msk : Nat} {b₀ : State} {s : State} {ch : Nat} {now : Nat} (h₀ : Fr msk b₀ s) (hm₀ : 65540 ||| msk = msk) :
    Fr msk b₀ (State.dcNext s ch now).1 := by
  refine Fr.step h₀ ?_ hm₀
  clear h₀ hm₀
  unfold State.dcNext
  try dsimp only
  repeat' (first
    | with_reducible exact Fr.refl _ _
    | with_reducible assumption
    | exact (rfl : (_ : Nat) = _)
    | with_reducible refine State.dcIssue_fr ?_ ?_
    | dsimp only
    | with_reducible refine Fr.ite ?_ ?_
    | with_reducible refine Fr.ite₁ ?_ ?_
    | with_reducible refine FrS.ite ?_ ?_
    | with_reducible refine FrP.ite ?_ ?_
    | with_reducible exact FrS.none
    | with_reducible refine FrS.some ?_
    | with_reducible refine FrS.map ?_
    | with_reducible exact FrP.none
    | with_reducible refine FrP.some ?_
    | with_reducible refine Fr.elim ?_ ?_
    | with_reducible refine Fr.foldl ?_ _ _ ?_
    | with_reducible refine Fr.foldl₂ ?_ _ _ ?_
    | intro _ _ _ _ _ _
    | intro _ _ _ _ _
    | intro _ _ _ _
    | intro _ _ _
    | intro _ _
    | intro _
    | with_reducible refine Fr.pair (h := ?_) (e := by assumption)
    | with_reducible refine FrO.got (h := ?_) (e := by assumption)
    | with_reducible refine FrS.get (h := ?_) (e := by assumption)
    | with_reducible refine FrP.get (h := ?_) (e := by assumption)
    | split)

theorem State.dcRun_fr {msk : Nat} {b₀ : State} {s : State} {ch : Nat} {now : Nat} {x3 : Nat} (h₀ : Fr msk b₀ s) (hm₀ : 65540 ||| msk = msk) :
    Fr msk b₀ (State.dcRun s ch now x3).1 := by
  refine Fr.step h₀ ?_ hm₀
  clear h₀ hm₀
  fun_induction State.dcRun 
  all_goals try dsimp +zetaDelta only at *
  all_goals repeat' (first
    | with_reducible exact Fr.refl _ _
    | with_reducible assumption
    | exact (rfl : (_ : Nat) = _)
    | with_reducible refine Fr.trans ?_ (by assumption)
    | with_reducible refine State.dcNext_fr ?_ ?_
    | dsimp only
    | with_reducible refine Fr.ite ?_ ?_
    | with_reducible refine Fr.ite₁ ?_ ?_
    | with_reducible refine FrS.ite ?_ ?_
    | with_reducible refine FrP.ite ?_ ?_
    | with_reducible exact FrS.none
    | with_reducible refine FrS.some ?_
    | with_reducible refine FrS.map ?_
    | with_reducible exact FrP.none
    | with_reducible refine FrP.some ?_
    | with_reducible refine Fr.elim ?_ ?_
    | with_reducible refine Fr.foldl ?_ _ _ ?_
    | with_reducible refine Fr.foldl₂ ?_ _ _ ?_
    | intro _ _ _ _ _ _
    | intro _ _ _ _ _
    | intro _ _ _ _
    | intro _ _ _
    | intro _ _
    | intro _
    | with_reducible refine Fr.pair (h := ?_) (e := by assumption)
    | with_reducible refine FrO.got (h := ?_) (e := by assumption)
    | with_reducible refine FrS.get (h := ?_) (e := by assumption)
    | with_reducible refine FrP.get (h := ?_) (e := by assumption)
    | split)

theorem State.dramRepair_fr {msk : Nat} {b₀ : State} {s : State} {ch : Nat} {rank : Nat} {bank : Nat} {kind : Nat} {row : Nat} (h₀ : Fr msk b₀ s) (hm₀ : 693062 ||| msk = msk) :
    Fr msk b₀ (State.dramRepair s ch rank bank kind row) := by
  refine Fr.step h₀ ?_ hm₀
  clear h₀ hm₀
  unfold State.dramRepair
  try dsimp only
  repeat' (first
    | with_reducible exact Fr.refl _ _
    | exact (rfl : (_ : Nat) = _)
    | with_reducible refine State.record_fr ?_ ?_)

theorem execRfmRequest_fr {msk : Nat} {b₀ : State} {ch : Nat} {s : State} (h₀ : Fr msk b₀ s) (hm₀ : 4 ||| msk = msk) :
    FrO msk b₀ (execRfmRequest ch s) := by
  refine FrO.step h₀ ?_ hm₀
  clear h₀ hm₀
  unfold execRfmRequest
  try dsimp only
  repeat' (first
    | with_reducible exact Fr.refl _ _
    | exact (rfl : (_ : Nat) = _)
    | with_reducible refine State.count_fr ?_ ?_
    | with_reducible refine FrO.next ?_)

theorem State.dramCe_fr {msk : Nat} {b₀ : State} {s : State} {ch : Nat} {addr : Nat} {loc : Nat × Nat × Nat × Nat × Nat} {whole : Bool} {injected : Bool} (h₀ : Fr msk b₀ s) (hm₀ : 758598 ||| msk = msk) :
    Fr msk b₀ (State.dramCe s ch addr loc whole injected) := by
  refine Fr.step h₀ ?_ hm₀
  clear h₀ hm₀
  unfold State.dramCe
  try dsimp only
  repeat' (first
    | with_reducible exact Fr.refl _ _
    | exact (rfl : (_ : Nat) = _)
    | with_reducible refine State.raise_fr ?_ ?_
    | with_reducible refine State.dramAddr_fr ?_ ?_
    | with_reducible refine State.wrN_fr ?_ ?_
    | with_reducible refine State.count_fr ?_ ?_
    | with_reducible refine State.setChan_fr ?_ ?_)

theorem execScrubRead_fr {msk : Nat} {b₀ : State} {ch : Nat} {addr : Nat} {loc : Nat × Nat × Nat × Nat × Nat} {corrected : Bool} {whole : Bool} {uncorrectable : Bool} {progress : Nat} {passEnd : Bool} {s : State} (h₀ : Fr msk b₀ s) (hm₀ : 758598 ||| msk = msk) :
    FrO msk b₀ (execScrubRead ch addr loc corrected whole uncorrectable progress passEnd s) := by
  refine FrO.step h₀ ?_ hm₀
  clear h₀ hm₀
  unfold execScrubRead
  try dsimp only
  repeat' (first
    | with_reducible exact Fr.refl _ _
    | exact (rfl : (_ : Nat) = _)
    | with_reducible refine State.inject_fr ?_ ?_
    | with_reducible refine State.putFld_fr ?_ ?_
    | with_reducible refine State.event_fr ?_ ?_
    | with_reducible refine State.raise_fr ?_ ?_
    | with_reducible refine State.dramAddr_fr ?_ ?_
    | with_reducible refine State.count_fr ?_ ?_
    | with_reducible refine State.dramCe_fr ?_ ?_
    | with_reducible refine Fr.ite ?_ ?_
    | with_reducible refine FrO.ite ?_ ?_
    | with_reducible refine FrO.next ?_)

theorem State.freqCommit_fr {msk : Nat} {b₀ : State} {s : State} (h₀ : Fr msk b₀ s) (hm₀ : 65540 ||| msk = msk) :
    Fr msk b₀ (State.freqCommit s) := by
  refine Fr.step h₀ ?_ hm₀
  clear h₀ hm₀
  unfold State.freqCommit
  try dsimp only
  repeat' (first
    | with_reducible exact Fr.refl _ _
    | with_reducible assumption
    | exact (rfl : (_ : Nat) = _)
    | with_reducible refine State.setChan_fr ?_ ?_
    | with_reducible refine State.putBit_fr ?_ ?_
    | with_reducible refine Fr.ite ?_ ?_
    | with_reducible refine Fr.foldl ?_ _ _ ?_
    | intro _ _ _
    | split)

theorem State.driftTake_fr {msk : Nat} {b₀ : State} {s : State} {ch : Nat} {k : Nat} {d : Int} (h₀ : Fr msk b₀ s) (hm₀ : 758598 ||| msk = msk) :
    Fr msk b₀ (State.driftTake s ch k d) := by
  refine Fr.step h₀ ?_ hm₀
  clear h₀ hm₀
  unfold State.driftTake
  try dsimp only
  repeat' (first
    | with_reducible exact Fr.refl _ _
    | exact (rfl : (_ : Nat) = _)
    | with_reducible refine State.count_fr ?_ ?_
    | with_reducible refine State.setChan_fr ?_ ?_
    | with_reducible refine State.raise_fr ?_ ?_
    | with_reducible refine State.event_fr ?_ ?_
    | with_reducible refine Fr.ite ?_ ?_)

theorem State.driftApply_fr {msk : Nat} {b₀ : State} {s : State} (h₀ : Fr msk b₀ s) (hm₀ : 758598 ||| msk = msk) :
    Fr msk b₀ (State.driftApply s) := by
  refine Fr.step h₀ ?_ hm₀
  clear h₀ hm₀
  unfold State.driftApply
  try dsimp only
  repeat' (first
    | with_reducible exact Fr.refl _ _
    | with_reducible assumption
    | exact (rfl : (_ : Nat) = _)
    | with_reducible refine State.setChan_fr ?_ ?_
    | with_reducible refine State.driftTake_fr ?_ ?_
    | with_reducible refine Fr.foldl ?_ _ _ ?_
    | intro _ _ _)

theorem execRankSpareStart_fr {msk : Nat} {b₀ : State} {ch : Nat} {rank : Nat} {s : State} (h₀ : Fr msk b₀ s) (hm₀ : 758598 ||| msk = msk) :
    FrO msk b₀ (execRankSpareStart ch rank s) := by
  refine FrO.step h₀ ?_ hm₀
  clear h₀ hm₀
  unfold execRankSpareStart
  try dsimp only
  repeat' (first
    | with_reducible exact Fr.refl _ _
    | exact (rfl : (_ : Nat) = _)
    | with_reducible refine State.raise_fr ?_ ?_
    | with_reducible refine State.putBit_fr ?_ ?_
    | with_reducible refine State.setChan_fr ?_ ?_
    | with_reducible refine FrO.ite ?_ ?_
    | with_reducible refine FrO.next ?_)

theorem State.dcServe_fr {msk : Nat} {b₀ : State} {s : State} {ch : Nat} {now : Nat} {arrived : List DramReq} (h₀ : Fr msk b₀ s) (hm₀ : 65540 ||| msk = msk) :
    Fr msk b₀ (State.dcServe s ch now arrived).1 := by
  refine Fr.step h₀ ?_ hm₀
  clear h₀ hm₀
  unfold State.dcServe
  try dsimp only
  repeat' (first
    | with_reducible exact Fr.refl _ _
    | with_reducible assumption
    | exact (rfl : (_ : Nat) = _)
    | with_reducible refine State.setChan_fr ?_ ?_
    | with_reducible refine State.dcRun_fr ?_ ?_
    | dsimp only
    | with_reducible refine Fr.ite ?_ ?_
    | with_reducible refine Fr.ite₁ ?_ ?_
    | with_reducible refine FrS.ite ?_ ?_
    | with_reducible refine FrP.ite ?_ ?_
    | with_reducible exact FrS.none
    | with_reducible refine FrS.some ?_
    | with_reducible refine FrS.map ?_
    | with_reducible exact FrP.none
    | with_reducible refine FrP.some ?_
    | with_reducible refine Fr.elim ?_ ?_
    | with_reducible refine Fr.foldl ?_ _ _ ?_
    | with_reducible refine Fr.foldl₂ ?_ _ _ ?_
    | intro _ _ _ _ _ _
    | intro _ _ _ _ _
    | intro _ _ _ _
    | intro _ _ _
    | intro _ _
    | intro _
    | with_reducible refine Fr.pair (h := ?_) (e := by assumption)
    | with_reducible refine FrO.got (h := ?_) (e := by assumption)
    | with_reducible refine FrS.get (h := ?_) (e := by assumption)
    | with_reducible refine FrP.get (h := ?_) (e := by assumption)
    | split)

theorem execRankSpareSwitch_fr {msk : Nat} {b₀ : State} {ch : Nat} {s : State} (h₀ : Fr msk b₀ s) (hm₀ : 758598 ||| msk = msk) :
    FrO msk b₀ (execRankSpareSwitch ch s) := by
  refine FrO.step h₀ ?_ hm₀
  clear h₀ hm₀
  unfold execRankSpareSwitch
  try dsimp only
  repeat' (first
    | with_reducible exact Fr.refl _ _
    | exact (rfl : (_ : Nat) = _)
    | with_reducible refine State.setChan_fr ?_ ?_
    | with_reducible refine State.putBit_fr ?_ ?_
    | with_reducible refine State.putFld_fr ?_ ?_
    | with_reducible refine State.dramRepair_fr ?_ ?_
    | with_reducible refine State.rankRecord_fr ?_ ?_
    | with_reducible refine State.event_fr ?_ ?_
    | with_reducible refine State.count_fr ?_ ?_
    | with_reducible refine FrO.next ?_
    | split)

theorem execNeighbourRefresh_fr {msk : Nat} {b₀ : State} {ch : Nat} {s : State} (h₀ : Fr msk b₀ s) (hm₀ : 4 ||| msk = msk) :
    FrO msk b₀ (execNeighbourRefresh ch s) := by
  refine FrO.step h₀ ?_ hm₀
  clear h₀ hm₀
  unfold execNeighbourRefresh
  try dsimp only
  repeat' (first
    | with_reducible exact Fr.refl _ _
    | exact (rfl : (_ : Nat) = _)
    | with_reducible refine State.count_fr ?_ ?_
    | with_reducible refine Fr.ite ?_ ?_
    | with_reducible refine FrO.next ?_)

theorem execSameBankRefresh_fr {msk : Nat} {b₀ : State} {ch : Nat} {rank : Nat} {bank : Nat} {s : State} (h₀ : Fr msk b₀ s) (hm₀ : 65536 ||| msk = msk) :
    FrO msk b₀ (execSameBankRefresh ch rank bank s) := by
  refine FrO.step h₀ ?_ hm₀
  clear h₀ hm₀
  unfold execSameBankRefresh
  try dsimp only
  repeat' (first
    | with_reducible exact Fr.refl _ _
    | exact (rfl : (_ : Nat) = _)
    | with_reducible refine State.setChan_fr ?_ ?_
    | with_reducible refine FrO.next ?_)

theorem execDriftExamine_fr {msk : Nat} {b₀ : State} {ch : Nat} {counts : List (Nat × Nat × Nat × Nat)} {s : State} (h₀ : Fr msk b₀ s) (hm₀ : 65536 ||| msk = msk) :
    FrO msk b₀ (execDriftExamine ch counts s) := by
  refine FrO.step h₀ ?_ hm₀
  clear h₀ hm₀
  unfold execDriftExamine
  try dsimp only
  repeat' (first
    | with_reducible exact Fr.refl _ _
    | exact (rfl : (_ : Nat) = _)
    | with_reducible refine State.setChan_fr ?_ ?_
    | with_reducible refine FrO.ite ?_ ?_
    | with_reducible refine FrO.next ?_)

theorem execPprRepair_fr {msk : Nat} {b₀ : State} {ch : Nat} {rank : Nat} {bank : Nat} {row : Nat} {s : State} (h₀ : Fr msk b₀ s) (hm₀ : 758598 ||| msk = msk) :
    FrO msk b₀ (execPprRepair ch rank bank row s) := by
  refine FrO.step h₀ ?_ hm₀
  clear h₀ hm₀
  unfold execPprRepair
  try dsimp only
  repeat' (first
    | with_reducible exact Fr.refl _ _
    | exact (rfl : (_ : Nat) = _)
    | with_reducible refine State.setChan_fr ?_ ?_
    | with_reducible refine State.event_fr ?_ ?_
    | with_reducible refine State.dramRepair_fr ?_ ?_
    | with_reducible refine State.putFld_fr ?_ ?_
    | with_reducible refine FrO.ite ?_ ?_
    | with_reducible refine FrO.next ?_
    | split
    | refine Fr.mk' ?_)

end Sys2Proof.Machine
end

