-- ==== Sys2Proof/Laws/FrKde.lean ====
section
/-! SUPPORT. Frames of the operations of Machine.Kde: the parts of State that each may change. -/

set_option maxRecDepth 20000
set_option Elab.async false
set_option linter.unusedTactic false
set_option linter.unreachableTactic false
set_option linter.unusedVariables false

namespace Sys2Proof.Machine

theorem State.setKde_fr {msk : Nat} {b₀ : State} {s : State} {k : KdeSt} (h₀ : Fr msk b₀ s) (hm₀ : 65536 ||| msk = msk) :
    Fr msk b₀ (State.setKde s k) := by
  refine Fr.step h₀ ?_ hm₀
  clear h₀ hm₀
  unfold State.setKde
  try dsimp only
  repeat' (first
    | with_reducible exact Fr.refl _ _
    | refine Fr.mk' ?_)

theorem State.kdeTouch_fr {msk : Nat} {b₀ : State} {s : State} (h₀ : Fr msk b₀ s) (hm₀ : 65536 ||| msk = msk) :
    Fr msk b₀ (State.kdeTouch s) := by
  refine Fr.step h₀ ?_ hm₀
  clear h₀ hm₀
  unfold State.kdeTouch
  try dsimp only
  repeat' (first
    | with_reducible exact Fr.refl _ _
    | exact (rfl : (_ : Nat) = _)
    | with_reducible refine State.setKde_fr ?_ ?_)

theorem State.kdeWrite_fr {msk : Nat} {b₀ : State} {s : State} {path : Nat} {f : State → State} (hf : ∀ t0, Fr msk b₀ t0 → Fr msk b₀ (f t0)) (h₀ : Fr msk b₀ s) (hm₀ : 758598 ||| msk = msk) :
    Fr msk b₀ (State.kdeWrite s path f) := by
  unfold State.kdeWrite
  try dsimp only
  repeat' (first
    | with_reducible assumption
    | exact Fr.sub rfl hm₀
    | with_reducible refine State.raise_fr ?_ ?_
    | with_reducible refine State.kdeTouch_fr ?_ ?_
    | with_reducible refine hf _ ?_
    | with_reducible refine Fr.ite ?_ ?_)

theorem State.kdeLost_fr {msk : Nat} {b₀ : State} {s : State} (h₀ : Fr msk b₀ s) (hm₀ : 693062 ||| msk = msk) :
    Fr msk b₀ (State.kdeLost s) := by
  refine Fr.step h₀ ?_ hm₀
  clear h₀ hm₀
  unfold State.kdeLost
  try dsimp only
  repeat' (first
    | with_reducible exact Fr.refl _ _
    | exact (rfl : (_ : Nat) = _)
    | with_reducible refine State.raise_fr ?_ ?_
    | with_reducible refine State.putBit_fr ?_ ?_)

theorem execKdeData_fr {msk : Nat} {b₀ : State} {path : Nat} {w : Word} {s : State} (h₀ : Fr msk b₀ s) (hm₀ : 758598 ||| msk = msk) :
    FrO msk b₀ (execKdeData path w s) := by
  refine FrO.step h₀ ?_ hm₀
  clear h₀ hm₀
  unfold execKdeData
  try dsimp only
  repeat' (first
    | with_reducible exact Fr.refl _ _
    | with_reducible assumption
    | exact (rfl : (_ : Nat) = _)
    | with_reducible refine State.kdeWrite_fr ?_ ?_ ?_
    | with_reducible refine State.raise_fr ?_ ?_
    | with_reducible refine State.kdeLost_fr ?_ ?_
    | with_reducible refine State.wr64_fr ?_ ?_
    | with_reducible refine State.setKde_fr ?_ ?_
    | with_reducible refine State.putBit_fr ?_ ?_
    | with_reducible refine Fr.ite ?_ ?_
    | with_reducible refine FrO.next ?_
    | intro _ _)

theorem State.kdeResult_fr {msk : Nat} {b₀ : State} {s : State} {r : Nat} (h₀ : Fr msk b₀ s) (hm₀ : 4 ||| msk = msk) :
    Fr msk b₀ (State.kdeResult s r) := by
  refine Fr.step h₀ ?_ hm₀
  clear h₀ hm₀
  unfold State.kdeResult
  try dsimp only
  repeat' (first
    | with_reducible exact Fr.refl _ _
    | exact (rfl : (_ : Nat) = _)
    | with_reducible refine State.wrN_fr ?_ ?_)

theorem State.kdePass_fr {msk : Nat} {b₀ : State} {s : State} (h₀ : Fr msk b₀ s) (hm₀ : 65540 ||| msk = msk) :
    Fr msk b₀ (State.kdePass s) := by
  refine Fr.step h₀ ?_ hm₀
  clear h₀ hm₀
  unfold State.kdePass
  try dsimp only
  repeat' (first
    | with_reducible exact Fr.refl _ _
    | exact (rfl : (_ : Nat) = _)
    | with_reducible refine State.kdeTouch_fr ?_ ?_
    | with_reducible refine State.wrN_fr ?_ ?_
    | with_reducible refine Fr.ite ?_ ?_)

theorem State.clear16_fr {msk : Nat} {b₀ : State} {s : State} {r : Nat → Nat} (h₀ : Fr msk b₀ s) (hm₀ : 4 ||| msk = msk) :
    Fr msk b₀ (State.clear16 s r) := by
  refine Fr.step h₀ ?_ hm₀
  clear h₀ hm₀
  unfold State.clear16
  try dsimp only
  repeat' (first
    | with_reducible exact Fr.refl _ _
    | with_reducible assumption
    | exact (rfl : (_ : Nat) = _)
    | with_reducible refine State.wrN_fr ?_ ?_
    | with_reducible refine Fr.foldl ?_ _ _ ?_
    | intro _ _ _)

theorem State.kdeIdle_fr {msk : Nat} {b₀ : State} {s : State} (h₀ : Fr msk b₀ s) (hm₀ : 65540 ||| msk = msk) :
    Fr msk b₀ (State.kdeIdle s) := by
  refine Fr.step h₀ ?_ hm₀
  clear h₀ hm₀
  unfold State.kdeIdle
  try dsimp only
  repeat' (first
    | with_reducible exact Fr.refl _ _
    | exact (rfl : (_ : Nat) = _)
    | with_reducible refine State.setKde_fr ?_ ?_
    | with_reducible refine State.putBit_fr ?_ ?_)

theorem execKdeRelease_fr {msk : Nat} {b₀ : State} {path : Nat} {id : Nat} {s : State} (h₀ : Fr msk b₀ s) (hm₀ : 758598 ||| msk = msk) :
    FrO msk b₀ (execKdeRelease path id s) := by
  refine FrO.step h₀ ?_ hm₀
  clear h₀ hm₀
  unfold execKdeRelease
  try dsimp only
  repeat' (first
    | with_reducible exact Fr.refl _ _
    | exact (rfl : (_ : Nat) = _)
    | with_reducible refine State.raise_fr ?_ ?_
    | with_reducible refine State.kdePass_fr ?_ ?_
    | with_reducible refine State.kdeResult_fr ?_ ?_
    | with_reducible refine State.clear16_fr ?_ ?_
    | with_reducible refine State.kdeIdle_fr ?_ ?_
    | with_reducible refine Fr.ite ?_ ?_
    | with_reducible refine FrO.next ?_)

theorem State.setKeySlot_fr {msk : Nat} {b₀ : State} {s : State} {n : Nat} {k : KeySlot} (h₀ : Fr msk b₀ s) (hm₀ : 65540 ||| msk = msk) :
    Fr msk b₀ (State.setKeySlot s n k) := by
  refine Fr.step h₀ ?_ hm₀
  clear h₀ hm₀
  unfold State.setKeySlot
  try dsimp only
  repeat' (first
    | with_reducible exact Fr.refl _ _
    | exact (rfl : (_ : Nat) = _)
    | with_reducible refine State.wr64_fr ?_ ?_
    | split
    | refine Fr.mk' ?_)

theorem State.keyGone_fr {msk : Nat} {b₀ : State} {s : State} {n : Nat} (h₀ : Fr msk b₀ s) (hm₀ : 65540 ||| msk = msk) :
    Fr msk b₀ (State.keyGone s n) := by
  refine Fr.step h₀ ?_ hm₀
  clear h₀ hm₀
  unfold State.keyGone
  try dsimp only
  repeat' (first
    | with_reducible exact Fr.refl _ _
    | exact (rfl : (_ : Nat) = _)
    | with_reducible refine State.putBit_fr ?_ ?_
    | with_reducible refine Fr.ite ?_ ?_
    | split
    | refine Fr.mk' ?_)

theorem State.ksClear_fr {msk : Nat} {b₀ : State} {s : State} (h₀ : Fr msk b₀ s) (hm₀ : 4 ||| msk = msk) :
    Fr msk b₀ (State.ksClear s) := by
  refine Fr.step h₀ ?_ hm₀
  clear h₀ hm₀
  unfold State.ksClear
  try dsimp only
  repeat' (first
    | with_reducible exact Fr.refl _ _
    | with_reducible assumption
    | exact (rfl : (_ : Nat) = _)
    | with_reducible refine State.wrN_fr ?_ ?_
    | with_reducible refine Fr.foldl ?_ _ _ ?_
    | intro _ _ _)

theorem execKsInvalidOp_fr {msk : Nat} {b₀ : State} {s : State} (h₀ : Fr msk b₀ s) (hm₀ : 693062 ||| msk = msk) :
    FrO msk b₀ (execKsInvalidOp s) := by
  refine FrO.step h₀ ?_ hm₀
  clear h₀ hm₀
  unfold execKsInvalidOp
  try dsimp only
  repeat' (first
    | with_reducible exact Fr.refl _ _
    | exact (rfl : (_ : Nat) = _)
    | with_reducible refine State.writeDiscarded_fr ?_ ?_
    | with_reducible refine State.ksClear_fr ?_ ?_
    | with_reducible refine State.wrN_fr ?_ ?_
    | with_reducible refine Fr.ite ?_ ?_
    | with_reducible refine FrO.next ?_)

theorem State.ksEnd_fr {msk : Nat} {b₀ : State} {s : State} {result : Nat} (h₀ : Fr msk b₀ s) (hm₀ : 4 ||| msk = msk) :
    Fr msk b₀ (State.ksEnd s result) := by
  refine Fr.step h₀ ?_ hm₀
  clear h₀ hm₀
  unfold State.ksEnd
  try dsimp only
  repeat' (first
    | with_reducible exact Fr.refl _ _
    | exact (rfl : (_ : Nat) = _)
    | with_reducible refine State.event_fr ?_ ?_
    | with_reducible refine State.wrN_fr ?_ ?_)

theorem State.ksRefuse_fr {msk : Nat} {b₀ : State} {s : State} {code : Nat} {slot : Nat} (h₀ : Fr msk b₀ s) (hm₀ : 693062 ||| msk = msk) :
    Fr msk b₀ (State.ksRefuse s code slot) := by
  refine Fr.step h₀ ?_ hm₀
  clear h₀ hm₀
  unfold State.ksRefuse
  try dsimp only
  repeat' (first
    | with_reducible exact Fr.refl _ _
    | exact (rfl : (_ : Nat) = _)
    | with_reducible refine State.raise_fr ?_ ?_
    | with_reducible refine State.ksEnd_fr ?_ ?_)

theorem State.zeroise_fr {msk : Nat} {b₀ : State} {s : State} {n : Nat} (h₀ : Fr msk b₀ s) (hm₀ : 65540 ||| msk = msk) :
    Fr msk b₀ (State.zeroise s n) := by
  refine Fr.step h₀ ?_ hm₀
  clear h₀ hm₀
  unfold State.zeroise
  try dsimp only
  repeat' (first
    | with_reducible exact Fr.refl _ _
    | exact (rfl : (_ : Nat) = _)
    | with_reducible refine State.event_fr ?_ ?_
    | with_reducible refine State.keyGone_fr ?_ ?_
    | with_reducible refine State.setKeySlot_fr ?_ ?_)

theorem State.ksTake_fr {msk : Nat} {b₀ : State} {s : State} {c : KsCmd} (h₀ : Fr msk b₀ s) (hm₀ : 758598 ||| msk = msk) :
    Fr msk b₀ (State.ksTake s c) := by
  refine Fr.step h₀ ?_ hm₀
  clear h₀ hm₀
  unfold State.ksTake
  try dsimp only
  repeat' (first
    | with_reducible exact Fr.refl _ _
    | exact (rfl : (_ : Nat) = _)
    | with_reducible refine State.ksRefuse_fr ?_ ?_
    | with_reducible refine State.ksEnd_fr ?_ ?_
    | with_reducible refine State.keyGone_fr ?_ ?_
    | with_reducible refine State.setKeySlot_fr ?_ ?_
    | with_reducible refine State.zeroise_fr ?_ ?_
    | with_reducible refine Fr.ite ?_ ?_
    | split)

theorem State.ksApply_fr {msk : Nat} {b₀ : State} {s : State} (h₀ : Fr msk b₀ s) (hm₀ : 758598 ||| msk = msk) :
    Fr msk b₀ (State.ksApply s) := by
  refine Fr.step h₀ ?_ hm₀
  clear h₀ hm₀
  unfold State.ksApply
  try dsimp only
  repeat' (first
    | with_reducible exact Fr.refl _ _
    | exact (rfl : (_ : Nat) = _)
    | with_reducible refine State.ksTake_fr ?_ ?_
    | split
    | refine Fr.mk' ?_)

theorem State.ctxResult_fr {msk : Nat} {b₀ : State} {s : State} {code : Nat} (h₀ : Fr msk b₀ s) (hm₀ : 693062 ||| msk = msk) :
    Fr msk b₀ (State.ctxResult s code) := by
  refine Fr.step h₀ ?_ hm₀
  clear h₀ hm₀
  unfold State.ctxResult
  try dsimp only
  repeat' (first
    | with_reducible exact Fr.refl _ _
    | exact (rfl : (_ : Nat) = _)
    | with_reducible refine State.putFld_fr ?_ ?_
    | with_reducible refine State.raise_fr ?_ ?_
    | with_reducible refine Fr.ite ?_ ?_)

theorem execKdeBlockDone_fr {msk : Nat} {b₀ : State} {s : State} (h₀ : Fr msk b₀ s) (hm₀ : 4 ||| msk = msk) :
    FrO msk b₀ (execKdeBlockDone s) := by
  refine FrO.step h₀ ?_ hm₀
  clear h₀ hm₀
  unfold execKdeBlockDone
  try dsimp only
  repeat' (first
    | with_reducible exact Fr.refl _ _
    | exact (rfl : (_ : Nat) = _)
    | with_reducible refine State.putBit_fr ?_ ?_
    | with_reducible refine FrO.next ?_)

theorem execKsSlotParity_fr {msk : Nat} {b₀ : State} {slot : Nat} {s : State} (h₀ : Fr msk b₀ s) (hm₀ : 758598 ||| msk = msk) :
    FrO msk b₀ (execKsSlotParity slot s) := by
  refine FrO.step h₀ ?_ hm₀
  clear h₀ hm₀
  unfold execKsSlotParity
  try dsimp only
  repeat' (first
    | with_reducible exact Fr.refl _ _
    | exact (rfl : (_ : Nat) = _)
    | with_reducible refine State.raise_fr ?_ ?_
    | with_reducible refine State.zeroise_fr ?_ ?_
    | with_reducible refine FrO.next ?_)

theorem State.ksWrite_fr {msk : Nat} {b₀ : State} {s : State} {op : Nat} {force : Bool} (h₀ : Fr msk b₀ s) (hm₀ : 758598 ||| msk = msk) :
    Fr msk b₀ (State.ksWrite s op force) := by
  refine Fr.step h₀ ?_ hm₀
  clear h₀ hm₀
  unfold State.ksWrite
  try dsimp only
  repeat' (first
    | with_reducible exact Fr.refl _ _
    | exact (rfl : (_ : Nat) = _)
    | with_reducible refine State.writeDiscarded_fr ?_ ?_
    | with_reducible refine State.ksClear_fr ?_ ?_
    | with_reducible refine State.wrN_fr ?_ ?_
    | with_reducible refine Fr.ite ?_ ?_
    | split
    | refine Fr.mk' ?_)

theorem execKsLock_fr {msk : Nat} {b₀ : State} {s : State} (h₀ : Fr msk b₀ s) (hm₀ : 758598 ||| msk = msk) :
    FrO msk b₀ (execKsLock s) := by
  refine FrO.step h₀ ?_ hm₀
  clear h₀ hm₀
  unfold execKsLock
  try dsimp only
  repeat' (first
    | with_reducible exact Fr.refl _ _
    | exact (rfl : (_ : Nat) = _)
    | with_reducible refine State.ksWrite_fr ?_ ?_
    | with_reducible refine FrO.next ?_)

theorem execKsLoad_fr {msk : Nat} {b₀ : State} {s : State} (h₀ : Fr msk b₀ s) (hm₀ : 758598 ||| msk = msk) :
    FrO msk b₀ (execKsLoad s) := by
  refine FrO.step h₀ ?_ hm₀
  clear h₀ hm₀
  unfold execKsLoad
  try dsimp only
  repeat' (first
    | with_reducible exact Fr.refl _ _
    | exact (rfl : (_ : Nat) = _)
    | with_reducible refine State.ksWrite_fr ?_ ?_
    | with_reducible refine FrO.next ?_)

theorem State.kdeCompare_fr {msk : Nat} {b₀ : State} {s : State} {digest : List Byte} {n : Nat} (h₀ : Fr msk b₀ s) (hm₀ : 693062 ||| msk = msk) :
    Fr msk b₀ (State.kdeCompare s digest n) := by
  refine Fr.step h₀ ?_ hm₀
  clear h₀ hm₀
  unfold State.kdeCompare
  try dsimp only
  repeat' (first
    | with_reducible exact Fr.refl _ _
    | exact (rfl : (_ : Nat) = _)
    | with_reducible refine State.inject_fr ?_ ?_
    | with_reducible refine State.raise_fr ?_ ?_
    | with_reducible refine State.event_fr ?_ ?_
    | with_reducible refine State.kdeResult_fr ?_ ?_
    | with_reducible refine Fr.ite ?_ ?_)

theorem execKsZeroise_fr {msk : Nat} {b₀ : State} {force : Bool} {s : State} (h₀ : Fr msk b₀ s) (hm₀ : 758598 ||| msk = msk) :
    FrO msk b₀ (execKsZeroise force s) := by
  refine FrO.step h₀ ?_ hm₀
  clear h₀ hm₀
  unfold execKsZeroise
  try dsimp only
  repeat' (first
    | with_reducible exact Fr.refl _ _
    | exact (rfl : (_ : Nat) = _)
    | with_reducible refine State.ksWrite_fr ?_ ?_
    | with_reducible refine FrO.next ?_)

theorem State.setCtxs_fr {msk : Nat} {b₀ : State} {s : State} {c : Amap KdeSession} (h₀ : Fr msk b₀ s) (hm₀ : 65540 ||| msk = msk) :
    Fr msk b₀ (State.setCtxs s c) := by
  refine Fr.step h₀ ?_ hm₀
  clear h₀ hm₀
  unfold State.setCtxs
  try dsimp only
  repeat' (first
    | with_reducible exact Fr.refl _ _
    | with_reducible assumption
    | exact (rfl : (_ : Nat) = _)
    | with_reducible refine State.setKde_fr ?_ ?_
    | with_reducible refine State.putFld_fr ?_ ?_
    | with_reducible refine State.putBit_fr ?_ ?_
    | with_reducible refine Fr.foldl ?_ _ _ ?_
    | intro _ _ _)

theorem execKdeCtxExpired_fr {msk : Nat} {b₀ : State} {n : Nat} {s : State} (h₀ : Fr msk b₀ s) (hm₀ : 65540 ||| msk = msk) :
    FrO msk b₀ (execKdeCtxExpired n s) := by
  refine FrO.step h₀ ?_ hm₀
  clear h₀ hm₀
  unfold execKdeCtxExpired
  try dsimp only
  repeat' (first
    | with_reducible exact Fr.refl _ _
    | exact (rfl : (_ : Nat) = _)
    | with_reducible refine State.event_fr ?_ ?_
    | with_reducible refine State.setCtxs_fr ?_ ?_
    | with_reducible refine Fr.ite ?_ ?_
    | with_reducible refine FrO.next ?_
    | split)

theorem execKdeAbort_fr {msk : Nat} {b₀ : State} {path : Nat} {s : State} (h₀ : Fr msk b₀ s) (hm₀ : 758598 ||| msk = msk) :
    FrO msk b₀ (execKdeAbort path s) := by
  refine FrO.step h₀ ?_ hm₀
  clear h₀ hm₀
  unfold execKdeAbort
  try dsimp only
  repeat' (first
    | with_reducible exact Fr.refl _ _
    | with_reducible assumption
    | exact (rfl : (_ : Nat) = _)
    | with_reducible refine State.kdeWrite_fr ?_ ?_ ?_
    | with_reducible refine State.kdeResult_fr ?_ ?_
    | with_reducible refine State.kdeIdle_fr ?_ ?_
    | with_reducible refine Fr.ite ?_ ?_
    | with_reducible refine FrO.next ?_
    | intro _ _)

theorem execKdeCtxResume_fr {msk : Nat} {b₀ : State} {path : Nat} {n : Nat} {s : State} (h₀ : Fr msk b₀ s) (hm₀ : 758598 ||| msk = msk) :
    FrO msk b₀ (execKdeCtxResume path n s) := by
  refine FrO.step h₀ ?_ hm₀
  clear h₀ hm₀
  unfold execKdeCtxResume
  try dsimp only
  repeat' (first
    | with_reducible exact Fr.refl _ _
    | with_reducible assumption
    | exact (rfl : (_ : Nat) = _)
    | with_reducible refine State.kdeWrite_fr ?_ ?_ ?_
    | with_reducible refine State.ctxResult_fr ?_ ?_
    | with_reducible refine State.useFree_fr ?_ ?_
    | with_reducible refine State.putFld_fr ?_ ?_
    | with_reducible refine State.setCtxs_fr ?_ ?_
    | with_reducible refine State.wr64_fr ?_ ?_
    | with_reducible refine State.setKde_fr ?_ ?_
    | with_reducible refine State.wrN_fr ?_ ?_
    | with_reducible refine Fr.ite ?_ ?_
    | with_reducible refine FrO.next ?_
    | with_reducible refine Fr.foldl ?_ _ _ ?_
    | intro _ _ _
    | intro _ _
    | split)

theorem execKdeCtxDiscard_fr {msk : Nat} {b₀ : State} {path : Nat} {n : Nat} {s : State} (h₀ : Fr msk b₀ s) (hm₀ : 758598 ||| msk = msk) :
    FrO msk b₀ (execKdeCtxDiscard path n s) := by
  refine FrO.step h₀ ?_ hm₀
  clear h₀ hm₀
  unfold execKdeCtxDiscard
  try dsimp only
  repeat' (first
    | with_reducible exact Fr.refl _ _
    | with_reducible assumption
    | exact (rfl : (_ : Nat) = _)
    | with_reducible refine State.kdeWrite_fr ?_ ?_ ?_
    | with_reducible refine State.ctxResult_fr ?_ ?_
    | with_reducible refine State.setCtxs_fr ?_ ?_
    | with_reducible refine Fr.ite ?_ ?_
    | with_reducible refine FrO.next ?_
    | intro _ _
    | split)

theorem execKdeStart_fr {msk : Nat} {b₀ : State} {path : Nat} {s : State} (h₀ : Fr msk b₀ s) (hm₀ : 758598 ||| msk = msk) :
    FrO msk b₀ (execKdeStart path s) := by
  refine FrO.step h₀ ?_ hm₀
  clear h₀ hm₀
  unfold execKdeStart
  try dsimp only
  repeat' (first
    | with_reducible exact Fr.refl _ _
    | with_reducible assumption
    | exact (rfl : (_ : Nat) = _)
    | with_reducible refine State.kdeWrite_fr ?_ ?_ ?_
    | with_reducible refine State.writeDiscarded_fr ?_ ?_
    | with_reducible refine State.raise_fr ?_ ?_
    | with_reducible refine State.wr64_fr ?_ ?_
    | with_reducible refine State.kdeResult_fr ?_ ?_
    | with_reducible refine State.clear16_fr ?_ ?_
    | with_reducible refine State.wrN_fr ?_ ?_
    | with_reducible refine State.setKde_fr ?_ ?_
    | with_reducible refine Fr.ite ?_ ?_
    | with_reducible refine FrO.next ?_
    | intro _ _)

theorem execKsSetUse_fr {msk : Nat} {b₀ : State} {s : State} (h₀ : Fr msk b₀ s) (hm₀ : 758598 ||| msk = msk) :
    FrO msk b₀ (execKsSetUse s) := by
  refine FrO.step h₀ ?_ hm₀
  clear h₀ hm₀
  unfold execKsSetUse
  try dsimp only
  repeat' (first
    | with_reducible exact Fr.refl _ _
    | exact (rfl : (_ : Nat) = _)
    | with_reducible refine State.ksWrite_fr ?_ ?_
    | with_reducible refine FrO.next ?_)

theorem execKdeFinishDone_fr {msk : Nat} {b₀ : State} {s : State} (h₀ : Fr msk b₀ s) (hm₀ : 758598 ||| msk = msk) :
    FrO msk b₀ (execKdeFinishDone s) := by
  refine FrO.step h₀ ?_ hm₀
  clear h₀ hm₀
  unfold execKdeFinishDone
  try dsimp only
  repeat' (first
    | with_reducible exact Fr.refl _ _
    | with_reducible assumption
    | exact (rfl : (_ : Nat) = _)
    | with_reducible refine State.count_fr ?_ ?_
    | with_reducible refine State.event_fr ?_ ?_
    | with_reducible refine State.putBit_fr ?_ ?_
    | with_reducible refine State.kdeIdle_fr ?_ ?_
    | with_reducible refine State.operate_fr ?_ ?_
    | with_reducible refine State.kdeResult_fr ?_ ?_
    | with_reducible refine State.clear16_fr ?_ ?_
    | with_reducible refine State.wrN_fr ?_ ?_
    | with_reducible refine State.kdeCompare_fr ?_ ?_
    | dsimp only
    | with_reducible refine Fr.ite ?_ ?_
    | with_reducible refine Fr.ite₁ ?_ ?_
    | with_reducible refine FrO.ite ?_ ?_
    | with_reducible refine FrS.ite ?_ ?_
    | with_reducible refine FrP.ite ?_ ?_
    | with_reducible refine FrO.next ?_
    | with_reducible exact FrS.none
    | with_reducible refine FrS.some ?_
    | with_reducible refine FrS.map ?_
    | with_reducible exact FrP.none
    | with_reducible refine FrP.some ?_
    | with_reducible refine Fr.elim ?_ ?_
    | with_reducible refine Fr.foldl ?_ _ _ ?_
    | with_reducible refine Fr.foldl₂ ?_ _ _ ?_
    | intro _ _ _ _ _ _
    | intro _ _ _ _ _
    | intro _ _ _ _
    | intro _ _ _
    | intro _ _
    | intro _
    | with_reducible refine Fr.pair (h := ?_) (e := by assumption)
    | with_reducible refine FrO.got (h := ?_) (e := by assumption)
    | with_reducible refine FrS.get (h := ?_) (e := by assumption)
    | with_reducible refine FrP.get (h := ?_) (e := by assumption)
    | split)

theorem execKdeIdleTimeout_fr {msk : Nat} {b₀ : State} {s : State} (h₀ : Fr msk b₀ s) (hm₀ : 65540 ||| msk = msk) :
    FrO msk b₀ (execKdeIdleTimeout s) := by
  refine FrO.step h₀ ?_ hm₀
  clear h₀ hm₀
  unfold execKdeIdleTimeout
  try dsimp only
  repeat' (first
    | with_reducible exact Fr.refl _ _
    | exact (rfl : (_ : Nat) = _)
    | with_reducible refine State.kdePass_fr ?_ ?_
    | with_reducible refine State.event_fr ?_ ?_
    | with_reducible refine State.kdeResult_fr ?_ ?_
    | with_reducible refine State.clear16_fr ?_ ?_
    | with_reducible refine State.kdeIdle_fr ?_ ?_
    | with_reducible refine Fr.ite ?_ ?_
    | with_reducible refine FrO.next ?_)

theorem execKdeCtxSuspend_fr {msk : Nat} {b₀ : State} {path : Nat} {n : Nat} {s : State} (h₀ : Fr msk b₀ s) (hm₀ : 758598 ||| msk = msk) :
    FrO msk b₀ (execKdeCtxSuspend path n s) := by
  refine FrO.step h₀ ?_ hm₀
  clear h₀ hm₀
  unfold execKdeCtxSuspend
  try dsimp only
  repeat' (first
    | with_reducible exact Fr.refl _ _
    | with_reducible assumption
    | exact (rfl : (_ : Nat) = _)
    | with_reducible refine State.kdeWrite_fr ?_ ?_ ?_
    | with_reducible refine State.ctxResult_fr ?_ ?_
    | with_reducible refine State.kdePass_fr ?_ ?_
    | with_reducible refine State.kdeIdle_fr ?_ ?_
    | with_reducible refine State.setCtxs_fr ?_ ?_
    | with_reducible refine Fr.ite ?_ ?_
    | with_reducible refine FrO.next ?_
    | intro _ _)

theorem execKdeExpectWrite_fr {msk : Nat} {b₀ : State} {path : Nat} {i : Nat} {w : Word} {s : State} (h₀ : Fr msk b₀ s) (hm₀ : 758598 ||| msk = msk) :
    FrO msk b₀ (execKdeExpectWrite path i w s) := by
  refine FrO.step h₀ ?_ hm₀
  clear h₀ hm₀
  unfold execKdeExpectWrite
  try dsimp only
  repeat' (first
    | with_reducible exact Fr.refl _ _
    | with_reducible assumption
    | exact (rfl : (_ : Nat) = _)
    | with_reducible refine State.kdeWrite_fr ?_ ?_ ?_
    | with_reducible refine State.kdeResult_fr ?_ ?_
    | with_reducible refine State.wr_fr ?_ ?_
    | with_reducible refine FrO.next ?_
    | intro _ _)

theorem execKdeClaim_fr {msk : Nat} {b₀ : State} {path : Nat} {id : Nat} {s : State} (h₀ : Fr msk b₀ s) (hm₀ : 65540 ||| msk = msk) :
    FrO msk b₀ (execKdeClaim path id s) := by
  refine FrO.step h₀ ?_ hm₀
  clear h₀ hm₀
  unfold execKdeClaim
  try dsimp only
  repeat' (first
    | with_reducible exact Fr.refl _ _
    | exact (rfl : (_ : Nat) = _)
    | with_reducible refine State.kdeTouch_fr ?_ ?_
    | with_reducible refine State.wrN_fr ?_ ?_
    | with_reducible refine State.event_fr ?_ ?_
    | with_reducible refine State.putBit_fr ?_ ?_
    | with_reducible refine State.putFld_fr ?_ ?_
    | with_reducible refine Fr.ite ?_ ?_
    | with_reducible refine FrO.next ?_)

theorem execKdeFinish_fr {msk : Nat} {b₀ : State} {path : Nat} {s : State} (h₀ : Fr msk b₀ s) (hm₀ : 758598 ||| msk = msk) :
    FrO msk b₀ (execKdeFinish path s) := by
  refine FrO.step h₀ ?_ hm₀
  clear h₀ hm₀
  unfold execKdeFinish
  try dsimp only
  repeat' (first
    | with_reducible exact Fr.refl _ _
    | with_reducible assumption
    | exact (rfl : (_ : Nat) = _)
    | with_reducible refine State.kdeWrite_fr ?_ ?_ ?_
    | with_reducible refine State.raise_fr ?_ ?_
    | with_reducible refine State.wr64_fr ?_ ?_
    | with_reducible refine State.setKde_fr ?_ ?_
    | with_reducible refine Fr.ite ?_ ?_
    | with_reducible refine FrO.next ?_
    | intro _ _)

end Sys2Proof.Machine
end

