-- ==== Sys2Proof/Laws/FrReset.lean ====
section
/-! SUPPORT. Frames of the operations of Machine.Reset: the parts of State that each may change. -/

set_option maxRecDepth 20000
set_option Elab.async false
set_option linter.unusedTactic false
set_option linter.unreachableTactic false
set_option linter.unusedVariables false

namespace Sys2Proof.Machine

theorem State.powerReset_fr {msk : Nat} {b₀ s : State} {typ : Nat} (h₀ : Fr msk b₀ s) (hm₀ : 1048574 ||| msk = msk) :
    Fr msk b₀ (s.powerReset typ) := by
  refine Fr.step h₀ ?_ hm₀
  clear h₀ hm₀
  unfold State.powerReset
  dsimp only
  refine State.putBit_fr (State.putFld_fr (State.putFld_fr (State.putFld_fr ?_ rfl) rfl) rfl) rfl
  constructor
  · rfl
  · exact fun h => canonical_filter _ h
  all_goals exact fun h => absurd h (by decide)

theorem State.modRstUp_fr {msk : Nat} {b₀ : State} {s : State} {n : Nat} (h₀ : Fr msk b₀ s) (hm₀ : 278532 ||| msk = msk) :
    Fr msk b₀ (State.modRstUp s n) := by
  refine Fr.step h₀ ?_ hm₀
  clear h₀ hm₀
  unfold State.modRstUp
  try dsimp only
  repeat' (first
    | with_reducible exact Fr.refl _ _
    | exact (rfl : (_ : Nat) = _)
    | with_reducible refine State.trainStart_fr ?_ ?_
    | with_reducible refine State.putBit_fr ?_ ?_
    | refine Fr.mk' ?_)

theorem execModRstRelease_fr {msk : Nat} {b₀ : State} {n : Nat} {write : Bool} {s : State} (h₀ : Fr msk b₀ s) (hm₀ : 278532 ||| msk = msk) :
    FrO msk b₀ (execModRstRelease n write s) := by
  refine FrO.step h₀ ?_ hm₀
  clear h₀ hm₀
  unfold execModRstRelease
  try dsimp only
  repeat' (first
    | with_reducible exact Fr.refl _ _
    | exact (rfl : (_ : Nat) = _)
    | with_reducible refine State.modRstUp_fr ?_ ?_
    | with_reducible refine Fr.ite ?_ ?_
    | with_reducible refine FrO.ite ?_ ?_
    | with_reducible refine FrO.next ?_
    | split
    | refine Fr.mk' ?_)

theorem State.pcieReset_fr {msk : Nat} {b₀ : State} {s : State} (h₀ : Fr msk b₀ s) (hm₀ : 2052 ||| msk = msk) :
    Fr msk b₀ (State.pcieReset s) := by
  refine Fr.step h₀ ?_ hm₀
  clear h₀ hm₀
  unfold State.pcieReset
  try dsimp only
  repeat' (first
    | with_reducible exact Fr.refl _ _
    | with_reducible assumption
    | exact (rfl : (_ : Nat) = _)
    | with_reducible refine State.askReset_fr ?_ ?_
    | with_reducible refine execSriovNumvfsChange_fr ?_ ?_
    | with_reducible refine State.wrN_fr ?_ ?_
    | with_reducible refine State.event_fr ?_ ?_
    | with_reducible refine State.putFld_fr ?_ ?_
    | with_reducible refine State.count_fr ?_ ?_
    | with_reducible refine Fr.ite ?_ ?_
    | with_reducible refine Fr.foldl ?_ _ _ ?_
    | intro _ _ _
    | with_reducible refine FrO.got (h := ?_) (e := by assumption)
    | split)

theorem execPcieLinkDown_fr {msk : Nat} {b₀ : State} {s : State} (h₀ : Fr msk b₀ s) (hm₀ : 695110 ||| msk = msk) :
    FrO msk b₀ (execPcieLinkDown s) := by
  refine FrO.step h₀ ?_ hm₀
  clear h₀ hm₀
  unfold execPcieLinkDown
  try dsimp only
  repeat' (first
    | with_reducible exact Fr.refl _ _
    | exact (rfl : (_ : Nat) = _)
    | with_reducible refine State.raise_fr ?_ ?_
    | with_reducible refine State.pcieReset_fr ?_ ?_
    | with_reducible refine Fr.ite ?_ ?_
    | with_reducible refine FrO.next ?_)

theorem execWarmReset_fr {msk : Nat} {b₀ : State} {force : Bool} {s : State} (h₀ : Fr msk b₀ s) (hm₀ : 1048574 ||| msk = msk) :
    FrO msk b₀ (execWarmReset force s) := by
  refine FrO.step h₀ ?_ hm₀
  clear h₀ hm₀
  unfold execWarmReset
  try dsimp only
  repeat' (first
    | with_reducible exact Fr.refl _ _
    | exact (rfl : (_ : Nat) = _)
    | with_reducible refine State.powerReset_fr ?_ ?_
    | with_reducible refine State.writeDiscarded_fr ?_ ?_
    | with_reducible refine Fr.ite ?_ ?_
    | with_reducible refine FrO.next ?_)

theorem execVaonOneLost_fr {msk : Nat} {b₀ : State} {feedB : Bool} {s : State} (h₀ : Fr msk b₀ s) (hm₀ : 693062 ||| msk = msk) :
    FrO msk b₀ (execVaonOneLost feedB s) := by
  refine FrO.step h₀ ?_ hm₀
  clear h₀ hm₀
  unfold execVaonOneLost
  try dsimp only
  repeat' (first
    | with_reducible exact Fr.refl _ _
    | exact (rfl : (_ : Nat) = _)
    | with_reducible refine State.raise_fr ?_ ?_
    | with_reducible refine State.event_fr ?_ ?_
    | with_reducible refine State.putBit_fr ?_ ?_
    | with_reducible refine Fr.ite ?_ ?_
    | with_reducible refine FrO.next ?_)

theorem execVaonFeedReturn_fr {msk : Nat} {b₀ : State} {feedB : Bool} {s : State} (h₀ : Fr msk b₀ s) (hm₀ : 4 ||| msk = msk) :
    FrO msk b₀ (execVaonFeedReturn feedB s) := by
  refine FrO.step h₀ ?_ hm₀
  clear h₀ hm₀
  unfold execVaonFeedReturn
  try dsimp only
  repeat' (first
    | with_reducible exact Fr.refl _ _
    | exact (rfl : (_ : Nat) = _)
    | with_reducible refine State.putBit_fr ?_ ?_
    | with_reducible refine FrO.next ?_)

theorem execVaonBothLost_fr {msk : Nat} {b₀ : State} {s : State} (h₀ : Fr msk b₀ s) (hm₀ : 328516 ||| msk = msk) :
    FrO msk b₀ (execVaonBothLost s) := by
  refine FrO.step h₀ ?_ hm₀
  clear h₀ hm₀
  unfold execVaonBothLost
  try dsimp only
  repeat' (first
    | with_reducible exact Fr.refl _ _
    | with_reducible assumption
    | exact (rfl : (_ : Nat) = _)
    | with_reducible refine State.event_fr ?_ ?_
    | with_reducible refine State.putFld_fr ?_ ?_
    | with_reducible refine State.zeroise_fr ?_ ?_
    | with_reducible refine State.wrN_fr ?_ ?_
    | with_reducible refine State.putBit_fr ?_ ?_
    | with_reducible refine FrO.next ?_
    | with_reducible refine Fr.foldl ?_ _ _ ?_
    | intro _ _ _
    | refine Fr.mk' ?_)

theorem execPorNAssert_fr {msk : Nat} {b₀ : State} {s : State} (h₀ : Fr msk b₀ s) (hm₀ : 1048574 ||| msk = msk) :
    FrO msk b₀ (execPorNAssert s) := by
  refine FrO.step h₀ ?_ hm₀
  clear h₀ hm₀
  unfold execPorNAssert
  try dsimp only
  repeat' (first
    | with_reducible exact Fr.refl _ _
    | exact (rfl : (_ : Nat) = _)
    | with_reducible refine State.powerReset_fr ?_ ?_
    | with_reducible refine FrO.next ?_
    | refine Fr.mk' ?_)

theorem execPerstNAssert_fr {msk : Nat} {b₀ : State} {s : State} (h₀ : Fr msk b₀ s) (hm₀ : 264196 ||| msk = msk) :
    FrO msk b₀ (execPerstNAssert s) := by
  refine FrO.step h₀ ?_ hm₀
  clear h₀ hm₀
  unfold execPerstNAssert
  try dsimp only
  repeat' (first
    | with_reducible exact Fr.refl _ _
    | exact (rfl : (_ : Nat) = _)
    | with_reducible refine State.count_fr ?_ ?_
    | with_reducible refine State.pcieReset_fr ?_ ?_
    | with_reducible refine Fr.ite ?_ ?_
    | with_reducible refine FrO.next ?_
    | refine Fr.mk' ?_)

theorem execThermtrip_fr {msk : Nat} {b₀ : State} {s : State} (h₀ : Fr msk b₀ s) (hm₀ : 262144 ||| msk = msk) :
    FrO msk b₀ (execThermtrip s) := by
  refine FrO.step h₀ ?_ hm₀
  clear h₀ hm₀
  unfold execThermtrip
  try dsimp only
  repeat' (first
    | with_reducible exact Fr.refl _ _
    | with_reducible refine FrO.next ?_
    | refine Fr.mk' ?_)

theorem execTjHalt_fr {msk : Nat} {b₀ : State} {s : State} (h₀ : Fr msk b₀ s) (hm₀ : 693062 ||| msk = msk) :
    FrO msk b₀ (execTjHalt s) := by
  refine FrO.step h₀ ?_ hm₀
  clear h₀ hm₀
  unfold execTjHalt
  try dsimp only
  repeat' (first
    | with_reducible exact Fr.refl _ _
    | exact (rfl : (_ : Nat) = _)
    | with_reducible refine State.raise_fr ?_ ?_
    | with_reducible refine Fr.ite ?_ ?_
    | with_reducible refine FrO.next ?_)

theorem execPerstNRelease_fr {msk : Nat} {b₀ : State} {s : State} (h₀ : Fr msk b₀ s) (hm₀ : 262148 ||| msk = msk) :
    FrO msk b₀ (execPerstNRelease s) := by
  refine FrO.step h₀ ?_ hm₀
  clear h₀ hm₀
  unfold execPerstNRelease
  try dsimp only
  repeat' (first
    | with_reducible exact Fr.refl _ _
    | exact (rfl : (_ : Nat) = _)
    | with_reducible refine State.wrN_fr ?_ ?_
    | with_reducible refine Fr.ite ?_ ?_
    | with_reducible refine FrO.next ?_
    | refine Fr.mk' ?_)

theorem execModPrsntChange_fr {msk : Nat} {b₀ : State} {n : Nat} {present : Bool} {s : State} (h₀ : Fr msk b₀ s) (hm₀ : 16388 ||| msk = msk) :
    FrO msk b₀ (execModPrsntChange n present s) := by
  refine FrO.step h₀ ?_ hm₀
  clear h₀ hm₀
  unfold execModPrsntChange
  try dsimp only
  repeat' (first
    | with_reducible exact Fr.refl _ _
    | exact (rfl : (_ : Nat) = _)
    | with_reducible refine State.trainStart_fr ?_ ?_
    | with_reducible refine State.putBit_fr ?_ ?_
    | with_reducible refine State.event_fr ?_ ?_
    | with_reducible refine Fr.ite ?_ ?_
    | with_reducible refine FrO.next ?_)

end Sys2Proof.Machine
end

