-- ==== Sys2Proof/Laws/FrSpillway.lean ====
section
/-! SUPPORT. Frames of the operations of Machine.Spillway: the parts of State that each may change. -/

set_option maxRecDepth 20000
set_option Elab.async false
set_option linter.unusedTactic false
set_option linter.unreachableTactic false
set_option linter.unusedVariables false

namespace Sys2Proof.Machine

theorem State.abortErases_fr {msk : Nat} {b₀ : State} {s : State} (h₀ : Fr msk b₀ s) (hm₀ : 16390 ||| msk = msk) :
    Fr msk b₀ (State.abortErases s) := by
  refine Fr.step h₀ ?_ hm₀
  clear h₀ hm₀
  unfold State.abortErases
  try dsimp only
  repeat' (first
    | with_reducible exact Fr.refl _ _
    | with_reducible assumption
    | exact (rfl : (_ : Nat) = _)
    | with_reducible refine State.sendMod_fr ?_ ?_
    | with_reducible refine Fr.foldl ?_ _ _ ?_
    | intro _ _ _)

theorem State.setSpill_fr {msk : Nat} {b₀ : State} {s : State} {f : CistSt → CistSt} (h₀ : Fr msk b₀ s) (hm₀ : 4096 ||| msk = msk) :
    Fr msk b₀ (State.setSpill s f) := by
  refine Fr.step h₀ ?_ hm₀
  clear h₀ hm₀
  unfold State.setSpill
  try dsimp only
  repeat' (first
    | with_reducible exact Fr.refl _ _
    | refine Fr.mk' ?_)

theorem execSpillwayStart_fr {msk : Nat} {b₀ : State} {s : State} (h₀ : Fr msk b₀ s) (hm₀ : 774982 ||| msk = msk) :
    FrO msk b₀ (execSpillwayStart s) := by
  refine FrO.step h₀ ?_ hm₀
  clear h₀ hm₀
  unfold execSpillwayStart
  try dsimp only
  repeat' (first
    | with_reducible exact Fr.refl _ _
    | exact (rfl : (_ : Nat) = _)
    | with_reducible refine State.abortErases_fr ?_ ?_
    | with_reducible refine State.stagingAbort_fr ?_ ?_
    | with_reducible refine State.rankAbandon_fr ?_ ?_
    | with_reducible refine State.rmAbandon_fr ?_ ?_
    | with_reducible refine State.setSpill_fr ?_ ?_
    | with_reducible refine State.putBit_fr ?_ ?_
    | with_reducible refine FrO.ite ?_ ?_
    | with_reducible refine FrO.next ?_)

theorem State.spillDiscard_fr {msk : Nat} {b₀ : State} {s : State} (h₀ : Fr msk b₀ s) (hm₀ : 28672 ||| msk = msk) :
    Fr msk b₀ (State.spillDiscard s) := by
  refine Fr.step h₀ ?_ hm₀
  clear h₀ hm₀
  unfold State.spillDiscard
  try dsimp only
  repeat' (first
    | with_reducible exact Fr.refl _ _
    | exact (rfl : (_ : Nat) = _)
    | with_reducible refine State.discardStreaming_fr ?_ ?_
    | with_reducible refine Fr.ite ?_ ?_)

theorem execSpillLossAck_fr {msk : Nat} {b₀ : State} {s : State} (h₀ : Fr msk b₀ s) (hm₀ : 4 ||| msk = msk) :
    FrO msk b₀ (execSpillLossAck s) := by
  refine FrO.step h₀ ?_ hm₀
  clear h₀ hm₀
  unfold execSpillLossAck
  try dsimp only
  repeat' (first
    | with_reducible exact Fr.refl _ _
    | exact (rfl : (_ : Nat) = _)
    | with_reducible refine State.putBit_fr ?_ ?_
    | with_reducible refine FrO.next ?_)

theorem execSpillReturn_fr {msk : Nat} {b₀ : State} {s : State} (h₀ : Fr msk b₀ s) (hm₀ : 1048574 ||| msk = msk) :
    FrO msk b₀ (execSpillReturn s) := by
  refine FrO.step h₀ ?_ hm₀
  clear h₀ hm₀
  unfold execSpillReturn
  try dsimp only
  repeat' (first
    | with_reducible exact Fr.refl _ _
    | exact (rfl : (_ : Nat) = _)
    | with_reducible refine State.powerReset_fr ?_ ?_
    | with_reducible refine Fr.ite ?_ ?_
    | with_reducible refine FrO.next ?_)

theorem execSpillQuiesced_fr {msk : Nat} {b₀ : State} {s : State} (h₀ : Fr msk b₀ s) (hm₀ : 28672 ||| msk = msk) :
    FrO msk b₀ (execSpillQuiesced s) := by
  refine FrO.step h₀ ?_ hm₀
  clear h₀ hm₀
  unfold execSpillQuiesced
  try dsimp only
  repeat' (first
    | with_reducible exact Fr.refl _ _
    | exact (rfl : (_ : Nat) = _)
    | with_reducible refine State.setSpill_fr ?_ ?_
    | with_reducible refine State.discardStreaming_fr ?_ ?_
    | with_reducible refine FrO.ite ?_ ?_
    | with_reducible refine FrO.next ?_
    | refine Fr.mk' ?_)

theorem State.spillTail_fr {msk : Nat} {b₀ : State} {s : State} (h₀ : Fr msk b₀ s) (hm₀ : 49152 ||| msk = msk) :
    Fr msk b₀ (State.spillTail s) := by
  refine Fr.step h₀ ?_ hm₀
  clear h₀ hm₀
  unfold State.spillTail
  try dsimp only
  repeat' (first
    | with_reducible exact Fr.refl _ _
    | with_reducible assumption
    | exact (rfl : (_ : Nat) = _)
    | dsimp only
    | with_reducible refine Fr.ite ?_ ?_
    | with_reducible refine Fr.ite₁ ?_ ?_
    | with_reducible refine FrS.ite ?_ ?_
    | with_reducible refine FrP.ite ?_ ?_
    | with_reducible exact FrS.none
    | with_reducible refine FrS.some ?_
    | with_reducible refine FrS.map ?_
    | with_reducible exact FrP.none
    | with_reducible refine FrP.some ?_
    | with_reducible refine Fr.elim ?_ ?_
    | with_reducible refine Fr.foldl ?_ _ _ ?_
    | with_reducible refine Fr.foldl₂ ?_ _ _ ?_
    | intro _ _ _ _ _ _
    | intro _ _ _ _ _
    | intro _ _ _ _
    | intro _ _ _
    | intro _ _
    | intro _
    | with_reducible refine Fr.pair (h := ?_) (e := by assumption)
    | with_reducible refine FrO.got (h := ?_) (e := by assumption)
    | with_reducible refine FrS.get (h := ?_) (e := by assumption)
    | with_reducible refine FrP.get (h := ?_) (e := by assumption)
    | split
    | refine Fr.mk' ?_)

theorem State.bandWrite_fr {msk : Nat} {b₀ : State} {s : State} (h₀ : Fr msk b₀ s) (hm₀ : 2 ||| msk = msk) :
    Fr msk b₀ (State.bandWrite s) := by
  refine Fr.step h₀ ?_ hm₀
  clear h₀ hm₀
  unfold State.bandWrite
  try dsimp only
  repeat' (first
    | with_reducible exact Fr.refl _ _
    | with_reducible assumption
    | exact (rfl : (_ : Nat) = _)
    | with_reducible refine State.emit_fr ?_ ?_
    | dsimp only
    | with_reducible refine Fr.ite ?_ ?_
    | with_reducible refine Fr.ite₁ ?_ ?_
    | with_reducible refine FrS.ite ?_ ?_
    | with_reducible refine FrP.ite ?_ ?_
    | with_reducible exact FrS.none
    | with_reducible refine FrS.some ?_
    | with_reducible refine FrS.map ?_
    | with_reducible exact FrP.none
    | with_reducible refine FrP.some ?_
    | with_reducible refine Fr.elim ?_ ?_
    | with_reducible refine Fr.foldl ?_ _ _ ?_
    | with_reducible refine Fr.foldl₂ ?_ _ _ ?_
    | intro _ _ _ _ _ _
    | intro _ _ _ _ _
    | intro _ _ _ _
    | intro _ _ _
    | intro _ _
    | intro _
    | with_reducible refine Fr.pair (h := ?_) (e := by assumption)
    | with_reducible refine FrO.got (h := ?_) (e := by assumption)
    | with_reducible refine FrS.get (h := ?_) (e := by assumption)
    | with_reducible refine FrP.get (h := ?_) (e := by assumption)
    | split)

theorem execSpillImageDone_fr {msk : Nat} {b₀ : State} {dirOk : Bool} {s : State} (h₀ : Fr msk b₀ s) (hm₀ : 53830 ||| msk = msk) :
    FrO msk b₀ (execSpillImageDone dirOk s) := by
  refine FrO.step h₀ ?_ hm₀
  clear h₀ hm₀
  unfold execSpillImageDone
  try dsimp only
  repeat' (first
    | with_reducible exact Fr.refl _ _
    | with_reducible assumption
    | exact (rfl : (_ : Nat) = _)
    | with_reducible refine State.setSpillReady_fr ?_ ?_
    | with_reducible refine State.spillTail_fr ?_ ?_
    | with_reducible refine State.setSpill_fr ?_ ?_
    | with_reducible refine State.bandWrite_fr ?_ ?_
    | with_reducible refine State.startLifeSave_fr ?_ ?_
    | with_reducible refine State.startFlush_fr ?_ ?_
    | dsimp only
    | with_reducible refine Fr.ite ?_ ?_
    | with_reducible refine Fr.ite₁ ?_ ?_
    | with_reducible refine FrO.ite ?_ ?_
    | with_reducible refine FrS.ite ?_ ?_
    | with_reducible refine FrP.ite ?_ ?_
    | with_reducible refine FrO.next ?_
    | with_reducible exact FrS.none
    | with_reducible refine FrS.some ?_
    | with_reducible refine FrS.map ?_
    | with_reducible exact FrP.none
    | with_reducible refine FrP.some ?_
    | with_reducible refine Fr.elim ?_ ?_
    | with_reducible refine Fr.foldl ?_ _ _ ?_
    | with_reducible refine Fr.foldl₂ ?_ _ _ ?_
    | intro _ _ _ _ _ _
    | intro _ _ _ _ _
    | intro _ _ _ _
    | intro _ _ _
    | intro _ _
    | intro _
    | with_reducible refine Fr.pair (h := ?_) (e := by assumption)
    | with_reducible refine FrO.got (h := ?_) (e := by assumption)
    | with_reducible refine FrS.get (h := ?_) (e := by assumption)
    | with_reducible refine FrP.get (h := ?_) (e := by assumption)
    | split)

theorem execSpillDone_fr {msk : Nat} {b₀ : State} {s : State} (h₀ : Fr msk b₀ s) (hm₀ : 955206 ||| msk = msk) :
    FrO msk b₀ (execSpillDone s) := by
  refine FrO.step h₀ ?_ hm₀
  clear h₀ hm₀
  unfold execSpillDone
  try dsimp only
  repeat' (first
    | with_reducible exact Fr.refl _ _
    | exact (rfl : (_ : Nat) = _)
    | with_reducible refine State.record_fr ?_ ?_
    | with_reducible refine State.useFree_fr ?_ ?_
    | with_reducible refine State.wrN_fr ?_ ?_
    | with_reducible refine State.setSpill_fr ?_ ?_
    | with_reducible refine State.event_fr ?_ ?_
    | with_reducible refine FrO.ite ?_ ?_
    | with_reducible refine FrO.next ?_
    | refine Fr.mk' ?_)

end Sys2Proof.Machine
end

