-- ==== Sys2Proof/Laws/FrPools.lean ====
section
/-! SUPPORT. Frames of the operations of Machine.Pools: the parts of State that each may change. -/

set_option maxRecDepth 20000
set_option Elab.async false
set_option linter.unusedTactic false
set_option linter.unreachableTactic false
set_option linter.unusedVariables false

namespace Sys2Proof.Machine

theorem State.bandStart_fr {msk : Nat} {b₀ : State} {s : State} {pool : Nat} {b : BandCopy} (h₀ : Fr msk b₀ s) (hm₀ : 16390 ||| msk = msk) :
    Fr msk b₀ (State.bandStart s pool b) := by
  refine Fr.step h₀ ?_ hm₀
  clear h₀ hm₀
  unfold State.bandStart
  try dsimp only
  repeat' (first
    | with_reducible exact Fr.refl _ _
    | with_reducible assumption
    | exact (rfl : (_ : Nat) = _)
    | with_reducible refine State.setPool_fr ?_ ?_
    | with_reducible refine State.sendMod_fr ?_ ?_
    | with_reducible refine State.setBg_fr ?_ ?_
    | with_reducible refine Fr.ite ?_ ?_
    | with_reducible refine Fr.foldl ?_ _ _ ?_
    | intro _ _ _
    | split
    | refine Fr.mk' ?_)

theorem State.substitute_fr {msk : Nat} {b₀ : State} {s : State} {pool : Nat} {m : Nat} {q : Nat} (h₀ : Fr msk b₀ s) (hm₀ : 49158 ||| msk = msk) :
    Fr msk b₀ (State.substitute s pool m q) := by
  refine Fr.step h₀ ?_ hm₀
  clear h₀ hm₀
  unfold State.substitute
  try dsimp only
  repeat' (first
    | with_reducible exact Fr.refl _ _
    | exact (rfl : (_ : Nat) = _)
    | with_reducible refine State.setPool_fr ?_ ?_
    | with_reducible refine State.sendRaise_fr ?_ ?_
    | with_reducible refine State.tlSend_fr ?_ ?_
    | refine Fr.mk' ?_)

theorem State.spillRecompute_fr {msk : Nat} {b₀ : State} {s : State} (h₀ : Fr msk b₀ s) (hm₀ : 528388 ||| msk = msk) :
    Fr msk b₀ (State.spillRecompute s) := by
  refine Fr.step h₀ ?_ hm₀
  clear h₀ hm₀
  unfold State.spillRecompute
  try dsimp only
  repeat' (first
    | with_reducible exact Fr.refl _ _
    | exact (rfl : (_ : Nat) = _)
    | with_reducible refine State.wrN_fr ?_ ?_
    | with_reducible refine State.useFree_fr ?_ ?_
    | with_reducible refine State.setSpillReady_fr ?_ ?_
    | with_reducible refine Fr.ite ?_ ?_
    | refine Fr.mk' ?_)

theorem State.memberFail_fr {msk : Nat} {b₀ : State} {s : State} {pool : Nat} {m : Nat} {port : Nat} {band : Option BandCopy} (h₀ : Fr msk b₀ s) (hm₀ : 711494 ||| msk = msk) :
    Fr msk b₀ (State.memberFail s pool m port band) := by
  refine Fr.step h₀ ?_ hm₀
  clear h₀ hm₀
  unfold State.memberFail
  try dsimp only
  repeat' (first
    | with_reducible exact Fr.refl _ _
    | with_reducible assumption
    | exact (rfl : (_ : Nat) = _)
    | with_reducible refine State.setPool_fr ?_ ?_
    | with_reducible refine State.setSeg_fr ?_ ?_
    | with_reducible refine State.closeSegment_fr ?_ ?_
    | with_reducible refine State.raise_fr ?_ ?_
    | with_reducible refine State.event_fr ?_ ?_
    | with_reducible refine State.setRedund_fr ?_ ?_
    | with_reducible refine State.putBit_fr ?_ ?_
    | with_reducible refine State.bandDrop_fr ?_ ?_
    | with_reducible refine State.checkpointAsk_fr ?_ ?_
    | with_reducible refine State.bandStart_fr ?_ ?_
    | with_reducible refine State.substitute_fr ?_ ?_
    | with_reducible refine State.spillRecompute_fr ?_ ?_
    | dsimp only
    | with_reducible refine Fr.ite ?_ ?_
    | with_reducible refine Fr.ite₁ ?_ ?_
    | with_reducible refine FrS.ite ?_ ?_
    | with_reducible refine FrP.ite ?_ ?_
    | with_reducible exact FrS.none
    | with_reducible refine FrS.some ?_
    | with_reducible refine FrS.map ?_
    | with_reducible exact FrP.none
    | with_reducible refine FrP.some ?_
    | with_reducible refine Fr.elim ?_ ?_
    | with_reducible refine Fr.foldl ?_ _ _ ?_
    | with_reducible refine Fr.foldl₂ ?_ _ _ ?_
    | intro _ _ _ _ _ _
    | intro _ _ _ _ _
    | intro _ _ _ _
    | intro _ _ _
    | intro _ _
    | intro _
    | with_reducible refine Fr.pair (h := ?_) (e := by assumption)
    | with_reducible refine FrO.got (h := ?_) (e := by assumption)
    | with_reducible refine FrS.get (h := ?_) (e := by assumption)
    | with_reducible refine FrP.get (h := ?_) (e := by assumption)
    | split)

theorem execMemberFail_fr {msk : Nat} {b₀ : State} {port : Nat} {band : Option BandCopy} {s : State} (h₀ : Fr msk b₀ s) (hm₀ : 711494 ||| msk = msk) :
    FrO msk b₀ (execMemberFail port band s) := by
  refine FrO.step h₀ ?_ hm₀
  clear h₀ hm₀
  unfold execMemberFail
  try dsimp only
  repeat' (first
    | with_reducible exact Fr.refl _ _
    | exact (rfl : (_ : Nat) = _)
    | with_reducible refine State.memberFail_fr ?_ ?_
    | with_reducible refine Fr.ite ?_ ?_
    | with_reducible refine FrO.ite ?_ ?_
    | with_reducible refine FrO.next ?_
    | split)

theorem State.rebuildLost_fr {msk : Nat} {b₀ : State} {s : State} {pool : Nat} {i : Nat} {lost : List Nat} (h₀ : Fr msk b₀ s) (hm₀ : 709446 ||| msk = msk) :
    Fr msk b₀ (State.rebuildLost s pool i lost) := by
  refine Fr.step h₀ ?_ hm₀
  clear h₀ hm₀
  unfold State.rebuildLost
  try dsimp only
  repeat' (first
    | with_reducible exact Fr.refl _ _
    | with_reducible assumption
    | exact (rfl : (_ : Nat) = _)
    | with_reducible refine State.addLoss_fr ?_ ?_
    | with_reducible refine State.raise_fr ?_ ?_
    | with_reducible refine State.setSeg_fr ?_ ?_
    | with_reducible refine Fr.ite ?_ ?_
    | with_reducible refine Fr.foldl ?_ _ _ ?_
    | intro _ _ _)

theorem State.memberGone_fr {msk : Nat} {b₀ : State} {s : State} {i : Nat} {f : Place → Bool} (h₀ : Fr msk b₀ s) (hm₀ : 16384 ||| msk = msk) :
    Fr msk b₀ (State.memberGone s i f) := by
  refine Fr.step h₀ ?_ hm₀
  clear h₀ hm₀
  unfold State.memberGone
  try dsimp only
  repeat' (first
    | with_reducible exact Fr.refl _ _
    | exact (rfl : (_ : Nat) = _)
    | with_reducible refine State.eraseScan_fr ?_ ?_
    | with_reducible refine State.setSeg_fr ?_ ?_
    | with_reducible refine Fr.ite ?_ ?_
    | split)

theorem State.repair_fr {msk : Nat} {b₀ : State} {s : State} {addr : Nat} {x : Stored} {places : List (List Place)} (h₀ : Fr msk b₀ s) (hm₀ : 709446 ||| msk = msk) :
    Fr msk b₀ (State.repair s addr x places) := by
  refine Fr.step h₀ ?_ hm₀
  clear h₀ hm₀
  unfold State.repair
  try dsimp only
  repeat' (first
    | with_reducible exact Fr.refl _ _
    | with_reducible assumption
    | exact (rfl : (_ : Nat) = _)
    | with_reducible refine State.count_fr ?_ ?_
    | with_reducible refine State.rewriteOne_fr ?_ ?_
    | dsimp only
    | with_reducible refine Fr.ite ?_ ?_
    | with_reducible refine Fr.ite₁ ?_ ?_
    | with_reducible refine FrS.ite ?_ ?_
    | with_reducible refine FrP.ite ?_ ?_
    | with_reducible exact FrS.none
    | with_reducible refine FrS.some ?_
    | with_reducible refine FrS.map ?_
    | with_reducible exact FrP.none
    | with_reducible refine FrP.some ?_
    | with_reducible refine Fr.elim ?_ ?_
    | with_reducible refine Fr.foldl ?_ _ _ ?_
    | with_reducible refine Fr.foldl₂ ?_ _ _ ?_
    | intro _ _ _ _ _ _
    | intro _ _ _ _ _
    | intro _ _ _ _
    | intro _ _ _
    | intro _ _
    | intro _
    | with_reducible refine Fr.pair (h := ?_) (e := by assumption)
    | with_reducible refine FrO.got (h := ?_) (e := by assumption)
    | with_reducible refine FrS.get (h := ?_) (e := by assumption)
    | with_reducible refine FrP.get (h := ?_) (e := by assumption)
    | split
    | refine Fr.mk' ?_)

theorem State.repairAll_fr {msk : Nat} {b₀ : State} {s : State} {addrs : List Nat} {places : List (List Place)} (h₀ : Fr msk b₀ s) (hm₀ : 709446 ||| msk = msk) :
    Fr msk b₀ (State.repairAll s addrs places) := by
  refine Fr.step h₀ ?_ hm₀
  clear h₀ hm₀
  unfold State.repairAll
  try dsimp only
  repeat' (first
    | with_reducible exact Fr.refl _ _
    | with_reducible assumption
    | exact (rfl : (_ : Nat) = _)
    | with_reducible refine State.repair_fr ?_ ?_
    | with_reducible refine Fr.ite ?_ ?_
    | with_reducible refine Fr.foldl ?_ _ _ ?_
    | intro _ _ _
    | split)

theorem State.rebuildOk_fr {msk : Nat} {b₀ : State} {s : State} {i : Nat} {page : Nat} {position : Nat} (h₀ : Fr msk b₀ s) (hm₀ : 16384 ||| msk = msk) :
    Fr msk b₀ (State.rebuildOk s i page position) := by
  refine Fr.step h₀ ?_ hm₀
  clear h₀ hm₀
  unfold State.rebuildOk
  try dsimp only
  repeat' (first
    | with_reducible exact Fr.refl _ _
    | exact (rfl : (_ : Nat) = _)
    | with_reducible refine Fr.ite ?_ ?_
    | split
    | refine Fr.mk' ?_)

theorem State.latchLoss_fr {msk : Nat} {b₀ : State} {s : State} (h₀ : Fr msk b₀ s) (hm₀ : 4 ||| msk = msk) :
    Fr msk b₀ (State.latchLoss s) := by
  refine Fr.step h₀ ?_ hm₀
  clear h₀ hm₀
  unfold State.latchLoss
  try dsimp only
  repeat' (first
    | with_reducible exact Fr.refl _ _
    | with_reducible assumption
    | exact (rfl : (_ : Nat) = _)
    | with_reducible refine State.wrN_fr ?_ ?_
    | with_reducible refine Fr.foldl ?_ _ _ ?_
    | intro _ _ _)

theorem State.rebuildScan_fr {msk : Nat} {b₀ : State} {s : State} {pool : Nat} (h₀ : Fr msk b₀ s) (hm₀ : 709446 ||| msk = msk) :
    Fr msk b₀ (State.rebuildScan s pool) := by
  refine Fr.step h₀ ?_ hm₀
  clear h₀ hm₀
  unfold State.rebuildScan
  try dsimp only
  repeat' (first
    | with_reducible exact Fr.refl _ _
    | exact (rfl : (_ : Nat) = _)
    | with_reducible refine State.setPool_fr ?_ ?_
    | with_reducible refine State.actEnd_fr ?_ ?_
    | with_reducible refine State.event_fr ?_ ?_
    | with_reducible refine State.putBit_fr ?_ ?_
    | with_reducible refine State.setRedund_fr ?_ ?_
    | with_reducible refine Fr.ite ?_ ?_
    | split)

theorem State.mismatch_fr {msk : Nat} {b₀ : State} {s : State} {pool : Nat} {i : Nat} (h₀ : Fr msk b₀ s) (hm₀ : 709446 ||| msk = msk) :
    Fr msk b₀ (State.mismatch s pool i) := by
  refine Fr.step h₀ ?_ hm₀
  clear h₀ hm₀
  unfold State.mismatch
  try dsimp only
  repeat' (first
    | with_reducible exact Fr.refl _ _
    | exact (rfl : (_ : Nat) = _)
    | with_reducible refine State.raise_fr ?_ ?_
    | with_reducible refine State.count_fr ?_ ?_
    | with_reducible refine State.setSeg_fr ?_ ?_)

theorem State.rebuildBlocked_fr {msk : Nat} {b₀ : State} {s : State} {pool : Nat} (h₀ : Fr msk b₀ s) (hm₀ : 693062 ||| msk = msk) :
    Fr msk b₀ (State.rebuildBlocked s pool) := by
  refine Fr.step h₀ ?_ hm₀
  clear h₀ hm₀
  unfold State.rebuildBlocked
  try dsimp only
  repeat' (first
    | with_reducible exact Fr.refl _ _
    | exact (rfl : (_ : Nat) = _)
    | with_reducible refine State.raise_fr ?_ ?_
    | with_reducible refine State.event_fr ?_ ?_
    | with_reducible refine State.putBit_fr ?_ ?_
    | with_reducible refine Fr.ite ?_ ?_)

theorem State.rebuildAdmit_fr {msk : Nat} {b₀ : State} {s : State} (h₀ : Fr msk b₀ s) (hm₀ : 709446 ||| msk = msk) :
    Fr msk b₀ (State.rebuildAdmit s) := by
  refine Fr.step h₀ ?_ hm₀
  clear h₀ hm₀
  unfold State.rebuildAdmit
  try dsimp only
  repeat' (first
    | with_reducible exact Fr.refl _ _
    | with_reducible assumption
    | exact (rfl : (_ : Nat) = _)
    | with_reducible refine State.standing_fr ?_ ?_
    | with_reducible refine State.rebuildScan_fr ?_ ?_
    | with_reducible refine State.event_fr ?_ ?_
    | with_reducible refine State.setRedund_fr ?_ ?_
    | with_reducible refine State.setPool_fr ?_ ?_
    | with_reducible refine Fr.ite ?_ ?_
    | with_reducible refine Fr.foldl ?_ _ _ ?_
    | intro _ _ _
    | with_reducible refine Fr.pair (h := ?_) (e := by assumption)
    | split)

theorem State.rebuiltSeg_fr {msk : Nat} {b₀ : State} {s : State} {i : Nat} (h₀ : Fr msk b₀ s) (hm₀ : 709446 ||| msk = msk) :
    Fr msk b₀ (State.rebuiltSeg s i) := by
  refine Fr.step h₀ ?_ hm₀
  clear h₀ hm₀
  unfold State.rebuiltSeg
  try dsimp only
  repeat' (first
    | with_reducible exact Fr.refl _ _
    | exact (rfl : (_ : Nat) = _)
    | with_reducible refine State.rebuildScan_fr ?_ ?_
    | with_reducible refine State.setSeg_fr ?_ ?_
    | split)

theorem State.rebuildEnds_fr {msk : Nat} {b₀ : State} {s : State} (h₀ : Fr msk b₀ s) (hm₀ : 709446 ||| msk = msk) :
    Fr msk b₀ (State.rebuildEnds s) := by
  refine Fr.step h₀ ?_ hm₀
  clear h₀ hm₀
  unfold State.rebuildEnds
  try dsimp only
  repeat' (first
    | with_reducible exact Fr.refl _ _
    | with_reducible assumption
    | exact (rfl : (_ : Nat) = _)
    | with_reducible refine State.rebuiltSeg_fr ?_ ?_
    | dsimp only
    | with_reducible refine Fr.ite ?_ ?_
    | with_reducible refine Fr.ite₁ ?_ ?_
    | with_reducible refine FrS.ite ?_ ?_
    | with_reducible refine FrP.ite ?_ ?_
    | with_reducible exact FrS.none
    | with_reducible refine FrS.some ?_
    | with_reducible refine FrS.map ?_
    | with_reducible exact FrP.none
    | with_reducible refine FrP.some ?_
    | with_reducible refine Fr.elim ?_ ?_
    | with_reducible refine Fr.foldl ?_ _ _ ?_
    | with_reducible refine Fr.foldl₂ ?_ _ _ ?_
    | intro _ _ _ _ _ _
    | intro _ _ _ _ _
    | intro _ _ _ _
    | intro _ _ _
    | intro _ _
    | intro _
    | with_reducible refine Fr.pair (h := ?_) (e := by assumption)
    | with_reducible refine FrO.got (h := ?_) (e := by assumption)
    | with_reducible refine FrS.get (h := ?_) (e := by assumption)
    | with_reducible refine FrP.get (h := ?_) (e := by assumption)
    | split)

theorem execRebuildHoldoffEnd_fr {msk : Nat} {b₀ : State} {pool : Nat} {s : State} (h₀ : Fr msk b₀ s) (hm₀ : 16384 ||| msk = msk) :
    FrO msk b₀ (execRebuildHoldoffEnd pool s) := by
  refine FrO.step h₀ ?_ hm₀
  clear h₀ hm₀
  unfold execRebuildHoldoffEnd
  try dsimp only
  repeat' (first
    | with_reducible exact Fr.refl _ _
    | exact (rfl : (_ : Nat) = _)
    | with_reducible refine State.setPool_fr ?_ ?_
    | with_reducible refine Fr.ite ?_ ?_
    | with_reducible refine FrO.next ?_
    | split)

theorem execSpLossDataLatch_fr {msk : Nat} {b₀ : State} {s : State} (h₀ : Fr msk b₀ s) (hm₀ : 6 ||| msk = msk) :
    FrO msk b₀ (execSpLossDataLatch s) := by
  refine FrO.step h₀ ?_ hm₀
  clear h₀ hm₀
  unfold execSpLossDataLatch
  try dsimp only
  repeat' (first
    | with_reducible exact Fr.refl _ _
    | exact (rfl : (_ : Nat) = _)
    | with_reducible refine State.emit_fr ?_ ?_
    | with_reducible refine State.latchLoss_fr ?_ ?_
    | with_reducible refine FrO.next ?_)

theorem State.rebuildFail_fr {msk : Nat} {b₀ : State} {s : State} {i : Nat} {port : Nat} {page : Nat} {position : Nat} (h₀ : Fr msk b₀ s) (hm₀ : 709446 ||| msk = msk) :
    Fr msk b₀ (State.rebuildFail s i port page position) := by
  refine Fr.step h₀ ?_ hm₀
  clear h₀ hm₀
  unfold State.rebuildFail
  try dsimp only
  repeat' (first
    | with_reducible exact Fr.refl _ _
    | exact (rfl : (_ : Nat) = _)
    | with_reducible refine State.setSeg_fr ?_ ?_
    | with_reducible refine State.programFail_fr ?_ ?_
    | split)

theorem State.rebuildMove_fr {msk : Nat} {b₀ : State} {s : State} {pool : Nat} {i : Nat} {g : Seg} {lost : List Nat} {places : List (List Place)} (h₀ : Fr msk b₀ s) (hm₀ : 709446 ||| msk = msk) :
    Fr msk b₀ (State.rebuildMove s pool i g lost places) := by
  refine Fr.step h₀ ?_ hm₀
  clear h₀ hm₀
  unfold State.rebuildMove
  try dsimp only
  repeat' (first
    | with_reducible exact Fr.refl _ _
    | with_reducible assumption
    | exact (rfl : (_ : Nat) = _)
    | with_reducible refine State.retireSeg_fr ?_ ?_
    | with_reducible refine copyGrain_fr ?_ ?_
    | with_reducible refine State.rebuildBlocked_fr ?_ ?_
    | with_reducible refine State.putBit_fr ?_ ?_
    | with_reducible refine State.setSeg_fr ?_ ?_
    | with_reducible refine State.rebuiltSeg_fr ?_ ?_
    | with_reducible refine Fr.ite ?_ ?_
    | with_reducible refine Fr.foldl₂ ?_ _ _ ?_
    | intro _ _ _)

theorem execLossResolveWalk_fr {msk : Nat} {b₀ : State} {pool : Nat} {index : Nat} {s : State} (h₀ : Fr msk b₀ s) (hm₀ : 16384 ||| msk = msk) :
    FrO msk b₀ (execLossResolveWalk pool index s) := by
  refine FrO.step h₀ ?_ hm₀
  clear h₀ hm₀
  unfold execLossResolveWalk
  try dsimp only
  repeat' (first
    | with_reducible exact Fr.refl _ _
    | exact (rfl : (_ : Nat) = _)
    | with_reducible refine State.setPool_fr ?_ ?_
    | with_reducible refine FrO.ite ?_ ?_
    | with_reducible refine FrO.next ?_
    | split)

theorem State.rebuildPlace_fr {msk : Nat} {b₀ : State} {s : State} {pool : Nat} {i : Nat} {g : Seg} {p : Pool} {lost : List Nat} (h₀ : Fr msk b₀ s) (hm₀ : 709446 ||| msk = msk) :
    Fr msk b₀ (State.rebuildPlace s pool i g p lost) := by
  refine Fr.step h₀ ?_ hm₀
  clear h₀ hm₀
  unfold State.rebuildPlace
  try dsimp only
  repeat' (first
    | with_reducible exact Fr.refl _ _
    | with_reducible assumption
    | exact (rfl : (_ : Nat) = _)
    | with_reducible refine State.sendMod_fr ?_ ?_
    | with_reducible refine State.count_fr ?_ ?_
    | with_reducible refine State.readSources_fr ?_ ?_
    | with_reducible refine State.rebuildLost_fr ?_ ?_
    | with_reducible refine State.setSeg_fr ?_ ?_
    | dsimp only
    | with_reducible refine Fr.ite ?_ ?_
    | with_reducible refine Fr.ite₁ ?_ ?_
    | with_reducible refine FrS.ite ?_ ?_
    | with_reducible refine FrP.ite ?_ ?_
    | with_reducible exact FrS.none
    | with_reducible refine FrS.some ?_
    | with_reducible refine FrS.map ?_
    | with_reducible exact FrP.none
    | with_reducible refine FrP.some ?_
    | with_reducible refine Fr.elim ?_ ?_
    | with_reducible refine Fr.foldl ?_ _ _ ?_
    | with_reducible refine Fr.foldl₂ ?_ _ _ ?_
    | intro _ _ _ _ _ _
    | intro _ _ _ _ _
    | intro _ _ _ _
    | intro _ _ _
    | intro _ _
    | intro _
    | with_reducible refine Fr.pair (h := ?_) (e := by assumption)
    | with_reducible refine FrO.got (h := ?_) (e := by assumption)
    | with_reducible refine FrS.get (h := ?_) (e := by assumption)
    | with_reducible refine FrP.get (h := ?_) (e := by assumption)
    | split)

theorem State.rebuildMay_fr {msk : Nat} {b₀ : State} {s : State} {pool : Nat} (h₀ : Fr msk b₀ s) (hm₀ : 256 ||| msk = msk) :
    Fr msk b₀ (State.rebuildMay s pool).1 := by
  refine Fr.step h₀ ?_ hm₀
  clear h₀ hm₀
  unfold State.rebuildMay
  try dsimp only
  repeat' (first
    | with_reducible exact Fr.refl _ _
    | exact (rfl : (_ : Nat) = _)
    | with_reducible refine State.standing_fr ?_ ?_
    | with_reducible refine Fr.ite₁ ?_ ?_)

theorem execCheckpoint_fr {msk : Nat} {b₀ : State} {pool : Nat} {band : Option BandCopy} {places : List (List Place)} {s : State} (h₀ : Fr msk b₀ s) (hm₀ : 709446 ||| msk = msk) :
    FrO msk b₀ (execCheckpoint pool band places s) := by
  refine FrO.step h₀ ?_ hm₀
  clear h₀ hm₀
  unfold execCheckpoint
  try dsimp only
  repeat' (first
    | with_reducible exact Fr.refl _ _
    | with_reducible assumption
    | exact (rfl : (_ : Nat) = _)
    | with_reducible refine State.bandStart_fr ?_ ?_
    | with_reducible refine State.checkpointStart_fr ?_ ?_
    | with_reducible refine State.checkpointAsk_fr ?_ ?_
    | dsimp only
    | with_reducible refine Fr.ite ?_ ?_
    | with_reducible refine Fr.ite₁ ?_ ?_
    | with_reducible refine FrO.ite ?_ ?_
    | with_reducible refine FrS.ite ?_ ?_
    | with_reducible refine FrP.ite ?_ ?_
    | with_reducible refine FrO.next ?_
    | with_reducible exact FrS.none
    | with_reducible refine FrS.some ?_
    | with_reducible refine FrS.map ?_
    | with_reducible exact FrP.none
    | with_reducible refine FrP.some ?_
    | with_reducible refine Fr.elim ?_ ?_
    | with_reducible refine Fr.foldl ?_ _ _ ?_
    | with_reducible refine Fr.foldl₂ ?_ _ _ ?_
    | intro _ _ _ _ _ _
    | intro _ _ _ _ _
    | intro _ _ _ _
    | intro _ _ _
    | intro _ _
    | intro _
    | with_reducible refine Fr.pair (h := ?_) (e := by assumption)
    | with_reducible refine FrO.got (h := ?_) (e := by assumption)
    | with_reducible refine FrS.get (h := ?_) (e := by assumption)
    | with_reducible refine FrP.get (h := ?_) (e := by assumption)
    | split)

theorem execRebuildStripe_fr {msk : Nat} {b₀ : State} {pool : Nat} {lost : List Nat} {rewrite : List Nat} {withQ : Bool} {places : List (List Place)} {s : State} (h₀ : Fr msk b₀ s) (hm₀ : 709446 ||| msk = msk) :
    FrO msk b₀ (execRebuildStripe pool lost rewrite withQ places s) := by
  refine FrO.step h₀ ?_ hm₀
  clear h₀ hm₀
  unfold execRebuildStripe
  try dsimp only
  repeat' (first
    | with_reducible exact Fr.refl _ _
    | exact (rfl : (_ : Nat) = _)
    | with_reducible refine State.rebuildMay_fr ?_ ?_
    | with_reducible refine State.rebuiltSeg_fr ?_ ?_
    | with_reducible refine State.memberGone_fr ?_ ?_
    | with_reducible refine State.setPool_fr ?_ ?_
    | with_reducible refine State.mismatch_fr ?_ ?_
    | with_reducible refine State.repairAll_fr ?_ ?_
    | with_reducible refine State.rebuildPlace_fr ?_ ?_
    | with_reducible refine State.rebuildMove_fr ?_ ?_
    | with_reducible refine Fr.ite ?_ ?_
    | with_reducible refine FrO.ite ?_ ?_
    | with_reducible refine FrO.next ?_
    | with_reducible refine Fr.pair (h := ?_) (e := by assumption)
    | split)

end Sys2Proof.Machine
end

