-- ==== Sys2Proof/Laws/FrRecover.lean ====
section
/-! SUPPORT. Frames of the operations of Machine.Recover: the parts of State that each may change. -/

set_option maxRecDepth 20000
set_option Elab.async false
set_option linter.unusedTactic false
set_option linter.unreachableTactic false
set_option linter.unusedVariables false

namespace Sys2Proof.Machine

theorem State.levelSet_fr {msk : Nat} {b₀ : State} {s : State} {port : Nat} {die : Nat} {slot : Nat} {bin : Nat} {offs : List Int} (h₀ : Fr msk b₀ s) (hm₀ : 16390 ||| msk = msk) :
    Fr msk b₀ (State.levelSet s port die slot bin offs) := by
  refine Fr.step h₀ ?_ hm₀
  clear h₀ hm₀
  unfold State.levelSet
  try dsimp only
  repeat' (first
    | with_reducible exact Fr.refl _ _
    | exact (rfl : (_ : Nat) = _)
    | with_reducible refine State.sendMod_fr ?_ ?_)

theorem State.binLoad_fr {msk : Nat} {b₀ : State} {s : State} {port : Nat} {m : Nat} {d : Nat} {b : Nat × List Int} (h₀ : Fr msk b₀ s) (hm₀ : 16390 ||| msk = msk) :
    Fr msk b₀ (State.binLoad s port m d b) := by
  refine Fr.step h₀ ?_ hm₀
  clear h₀ hm₀
  unfold State.binLoad
  try dsimp only
  repeat' (first
    | with_reducible exact Fr.refl _ _
    | exact (rfl : (_ : Nat) = _)
    | with_reducible refine State.setDie_fr ?_ ?_
    | with_reducible refine State.levelSet_fr ?_ ?_)

theorem State.calLoad_fr {msk : Nat} {b₀ : State} {s : State} {pool : Nat} {p : Pool} (h₀ : Fr msk b₀ s) (hm₀ : 16390 ||| msk = msk) :
    Fr msk b₀ (State.calLoad s pool p) := by
  refine Fr.step h₀ ?_ hm₀
  clear h₀ hm₀
  unfold State.calLoad
  try dsimp only
  repeat' (first
    | with_reducible exact Fr.refl _ _
    | with_reducible assumption
    | exact (rfl : (_ : Nat) = _)
    | with_reducible refine State.binLoad_fr ?_ ?_
    | with_reducible refine Fr.foldl ?_ _ _ ?_
    | intro _ _ _)

theorem State.eraseAgain_fr {msk : Nat} {b₀ : State} {s : State} {i : Nat} (h₀ : Fr msk b₀ s) (hm₀ : 16390 ||| msk = msk) :
    Fr msk b₀ (State.eraseAgain s i) := by
  refine Fr.step h₀ ?_ hm₀
  clear h₀ hm₀
  unfold State.eraseAgain
  try dsimp only
  repeat' (first
    | with_reducible exact Fr.refl _ _
    | exact (rfl : (_ : Nat) = _)
    | with_reducible refine State.eraseMembers_fr ?_ ?_
    | with_reducible refine State.setSeg_fr ?_ ?_
    | split)

theorem State.recoveryErrors_fr {msk : Nat} {b₀ : State} {s : State} {pool : Nat} {x : PoolFound} {gap : Bool} (h₀ : Fr msk b₀ s) (hm₀ : 693062 ||| msk = msk) :
    Fr msk b₀ (State.recoveryErrors s pool x gap) := by
  refine Fr.step h₀ ?_ hm₀
  clear h₀ hm₀
  unfold State.recoveryErrors
  try dsimp only
  repeat' (first
    | with_reducible exact Fr.refl _ _
    | exact (rfl : (_ : Nat) = _)
    | with_reducible refine State.raise_fr ?_ ?_
    | with_reducible refine State.countBy_fr ?_ ?_
    | with_reducible refine Fr.ite ?_ ?_)

theorem State.recoverPool_fr {msk : Nat} {b₀ : State} {s : State} {pool : Nat} {x : PoolFound} (h₀ : Fr msk b₀ s) (hm₀ : 717638 ||| msk = msk) :
    Fr msk b₀ (State.recoverPool s pool x) := by
  refine Fr.step h₀ ?_ hm₀
  clear h₀ hm₀
  unfold State.recoverPool
  try dsimp only
  repeat' (first
    | with_reducible exact Fr.refl _ _
    | with_reducible assumption
    | exact (rfl : (_ : Nat) = _)
    | with_reducible refine State.applyTxn_fr ?_ ?_
    | with_reducible refine State.eraseAgain_fr ?_ ?_
    | with_reducible refine State.setPool_fr ?_ ?_
    | with_reducible refine State.calLoad_fr ?_ ?_
    | with_reducible refine State.recoveryErrors_fr ?_ ?_
    | with_reducible refine State.event_fr ?_ ?_
    | with_reducible refine Fr.foldl ?_ _ _ ?_
    | intro _ _ _
    | split
    | refine Fr.mk' ?_)

theorem State.recoverPaddock_fr {msk : Nat} {b₀ : State} {s : State} {q : Nat} {found : Amap PoolFound} (h₀ : Fr msk b₀ s) (hm₀ : 717638 ||| msk = msk) :
    Fr msk b₀ (State.recoverPaddock s q found) := by
  refine Fr.step h₀ ?_ hm₀
  clear h₀ hm₀
  unfold State.recoverPaddock
  try dsimp only
  repeat' (first
    | with_reducible exact Fr.refl _ _
    | with_reducible assumption
    | exact (rfl : (_ : Nat) = _)
    | with_reducible refine State.recoverPool_fr ?_ ?_
    | with_reducible refine Fr.foldl ?_ _ _ ?_
    | intro _ _ _)

theorem State.clearPaddock_fr {msk : Nat} {b₀ : State} {s : State} {q : Nat} (h₀ : Fr msk b₀ s) (hm₀ : 24576 ||| msk = msk) :
    Fr msk b₀ (State.clearPaddock s q) := by
  refine Fr.step h₀ ?_ hm₀
  clear h₀ hm₀
  unfold State.clearPaddock
  try dsimp only
  repeat' (first
    | with_reducible exact Fr.refl _ _
    | refine Fr.mk' ?_)

theorem State.joinPaddock_fr {msk : Nat} {b₀ : State} {s0 : State} {q : Nat} {d : PaddockData} (h₀ : Fr msk b₀ s0) (hm₀ : 24576 ||| msk = msk) :
    Fr msk b₀ (State.joinPaddock s0 q d) := by
  refine Fr.step h₀ ?_ hm₀
  clear h₀ hm₀
  unfold State.joinPaddock
  try dsimp only
  repeat' (first
    | with_reducible exact Fr.refl _ _
    | exact (rfl : (_ : Nat) = _)
    | with_reducible refine State.clearPaddock_fr ?_ ?_
    | refine Fr.mk' ?_)

end Sys2Proof.Machine
end

