-- ==== Sys2Proof/Laws/FrCalib.lean ====
section
/-! SUPPORT. Frames of the operations of Machine.Calib: the parts of State that each may change. -/

set_option maxRecDepth 20000
set_option Elab.async false
set_option linter.unusedTactic false
set_option linter.unreachableTactic false
set_option linter.unusedVariables false

namespace Sys2Proof.Machine

theorem State.setBin_fr {msk : Nat} {b₀ : State} {s : State} {m : Nat} {d : Nat} {bin : Nat} {f : CalBin → CalBin} (h₀ : Fr msk b₀ s) (hm₀ : 16384 ||| msk = msk) :
    Fr msk b₀ (State.setBin s m d bin f) := by
  refine Fr.step h₀ ?_ hm₀
  clear h₀ hm₀
  unfold State.setBin
  try dsimp only
  repeat' (first
    | with_reducible exact Fr.refl _ _
    | exact (rfl : (_ : Nat) = _)
    | with_reducible refine State.setDie_fr ?_ ?_)

theorem State.calSend_fr {msk : Nat} {b₀ : State} {s : State} {port : Nat} {m : Nat} {d : Nat} {bin : Nat} {offs : List Int} (h₀ : Fr msk b₀ s) (hm₀ : 16390 ||| msk = msk) :
    Fr msk b₀ (State.calSend s port m d bin offs) := by
  refine Fr.step h₀ ?_ hm₀
  clear h₀ hm₀
  unfold State.calSend
  try dsimp only
  repeat' (first
    | with_reducible exact Fr.refl _ _
    | exact (rfl : (_ : Nat) = _)
    | with_reducible refine State.levelSet_fr ?_ ?_
    | with_reducible refine State.setBin_fr ?_ ?_)

theorem State.setPatrol_fr {msk : Nat} {b₀ : State} {s : State} {f : PatrolSt → PatrolSt} (h₀ : Fr msk b₀ s) (hm₀ : 16384 ||| msk = msk) :
    Fr msk b₀ (State.setPatrol s f) := by
  refine Fr.step h₀ ?_ hm₀
  clear h₀ hm₀
  unfold State.setPatrol
  try dsimp only
  repeat' (first
    | with_reducible exact Fr.refl _ _
    | refine Fr.mk' ?_)

theorem State.passStart_fr {msk : Nat} {b₀ : State} {s : State} {days : Nat} {expedited : Bool} (h₀ : Fr msk b₀ s) (hm₀ : 16388 ||| msk = msk) :
    Fr msk b₀ (State.passStart s days expedited) := by
  refine Fr.step h₀ ?_ hm₀
  clear h₀ hm₀
  unfold State.passStart
  try dsimp only
  repeat' (first
    | with_reducible exact Fr.refl _ _
    | exact (rfl : (_ : Nat) = _)
    | with_reducible refine State.wr_fr ?_ ?_
    | with_reducible refine State.wr64_fr ?_ ?_
    | with_reducible refine State.setPatrol_fr ?_ ?_
    | refine Fr.mk' ?_)

theorem State.patrolExpedite_fr {msk : Nat} {b₀ : State} {s : State} (h₀ : Fr msk b₀ s) (hm₀ : 16388 ||| msk = msk) :
    Fr msk b₀ (State.patrolExpedite s) := by
  refine Fr.step h₀ ?_ hm₀
  clear h₀ hm₀
  unfold State.patrolExpedite
  try dsimp only
  repeat' (first
    | with_reducible exact Fr.refl _ _
    | exact (rfl : (_ : Nat) = _)
    | with_reducible refine State.event_fr ?_ ?_
    | with_reducible refine State.passStart_fr ?_ ?_
    | refine Fr.mk' ?_)

theorem execPatRestart_fr {msk : Nat} {b₀ : State} {s : State} (h₀ : Fr msk b₀ s) (hm₀ : 709446 ||| msk = msk) :
    FrO msk b₀ (execPatRestart s) := by
  refine FrO.step h₀ ?_ hm₀
  clear h₀ hm₀
  unfold execPatRestart
  try dsimp only
  repeat' (first
    | with_reducible exact Fr.refl _ _
    | with_reducible assumption
    | exact (rfl : (_ : Nat) = _)
    | with_reducible refine State.pageWrite_fr ?_ ?_ ?_
    | with_reducible refine State.setPatrol_fr ?_ ?_
    | with_reducible refine FrO.next ?_
    | intro _ _)

theorem State.coverCheck_fr {msk : Nat} {b₀ : State} {s : State} {m : Nat} {d : Nat} {bgrp : Nat} (h₀ : Fr msk b₀ s) (hm₀ : 16388 ||| msk = msk) :
    Fr msk b₀ (State.coverCheck s m d bgrp) := by
  refine Fr.step h₀ ?_ hm₀
  clear h₀ hm₀
  unfold State.coverCheck
  try dsimp only
  repeat' (first
    | with_reducible exact Fr.refl _ _
    | exact (rfl : (_ : Nat) = _)
    | with_reducible refine State.count_fr ?_ ?_
    | with_reducible refine State.setBg_fr ?_ ?_
    | with_reducible refine Fr.ite ?_ ?_)

theorem State.refreshCheck_fr {msk : Nat} {b₀ : State} {s : State} {port : Nat} {m : Nat} {d : Nat} {bgrp : Nat} {corr : Option Nat} {patrol : Bool} (h₀ : Fr msk b₀ s) (hm₀ : 16388 ||| msk = msk) :
    Fr msk b₀ (State.refreshCheck s port m d bgrp corr patrol) := by
  refine Fr.step h₀ ?_ hm₀
  clear h₀ hm₀
  unfold State.refreshCheck
  try dsimp only
  repeat' (first
    | with_reducible exact Fr.refl _ _
    | exact (rfl : (_ : Nat) = _)
    | with_reducible refine State.refreshDue_fr ?_ ?_
    | with_reducible refine State.count_fr ?_ ?_
    | with_reducible refine Fr.ite ?_ ?_)

theorem State.report_fr {msk : Nat} {b₀ : State} {s0 : State} {port : Nat} {m : Nat} {d : Nat} {bgrp : Nat} {page : Nat} {host : Bool} {patrol : Bool} {r0 : DecodeReport} (h₀ : Fr msk b₀ s0) (hm₀ : 709446 ||| msk = msk) :
    Fr msk b₀ (State.report s0 port m d bgrp page host patrol r0) := by
  refine Fr.step h₀ ?_ hm₀
  clear h₀ hm₀
  unfold State.report
  try dsimp only
  repeat' (first
    | with_reducible exact Fr.refl _ _
    | with_reducible assumption
    | exact (rfl : (_ : Nat) = _)
    | with_reducible refine State.inject_fr ?_ ?_
    | with_reducible refine State.operate_fr ?_ ?_
    | with_reducible refine State.countBy_fr ?_ ?_
    | with_reducible refine State.setBg_fr ?_ ?_
    | with_reducible refine State.setBin_fr ?_ ?_
    | with_reducible refine State.setHealth_fr ?_ ?_
    | with_reducible refine State.coverCheck_fr ?_ ?_
    | with_reducible refine State.refreshCheck_fr ?_ ?_
    | dsimp only
    | with_reducible refine Fr.ite ?_ ?_
    | with_reducible refine Fr.ite₁ ?_ ?_
    | with_reducible refine FrS.ite ?_ ?_
    | with_reducible refine FrP.ite ?_ ?_
    | with_reducible exact FrS.none
    | with_reducible refine FrS.some ?_
    | with_reducible refine FrS.map ?_
    | with_reducible exact FrP.none
    | with_reducible refine FrP.some ?_
    | with_reducible refine Fr.elim ?_ ?_
    | with_reducible refine Fr.foldl ?_ _ _ ?_
    | with_reducible refine Fr.foldl₂ ?_ _ _ ?_
    | intro _ _ _ _ _ _
    | intro _ _ _ _ _
    | intro _ _ _ _
    | intro _ _ _
    | intro _ _
    | intro _
    | with_reducible refine Fr.pair (h := ?_) (e := by assumption)
    | with_reducible refine FrO.got (h := ?_) (e := by assumption)
    | with_reducible refine FrS.get (h := ?_) (e := by assumption)
    | with_reducible refine FrP.get (h := ?_) (e := by assumption)
    | split
    | refine Fr.mk' ?_)

theorem State.calStale_fr {msk : Nat} {b₀ : State} {s : State} {m : Nat} {d : Nat} {bin : Nat} {bgrp : Nat} (h₀ : Fr msk b₀ s) (hm₀ : 709446 ||| msk = msk) :
    Fr msk b₀ (State.calStale s m d bin bgrp) := by
  refine Fr.step h₀ ?_ hm₀
  clear h₀ hm₀
  unfold State.calStale
  try dsimp only
  repeat' (first
    | with_reducible exact Fr.refl _ _
    | exact (rfl : (_ : Nat) = _)
    | with_reducible refine State.setBg_fr ?_ ?_
    | with_reducible refine State.raise_fr ?_ ?_
    | with_reducible refine State.count_fr ?_ ?_
    | with_reducible refine State.setBin_fr ?_ ?_
    | with_reducible refine Fr.ite ?_ ?_)

theorem State.calClamped_fr {msk : Nat} {b₀ : State} {s : State} {n : Nat} (h₀ : Fr msk b₀ s) (hm₀ : 693062 ||| msk = msk) :
    Fr msk b₀ (State.calClamped s n) := by
  refine Fr.step h₀ ?_ hm₀
  clear h₀ hm₀
  unfold State.calClamped
  try dsimp only
  repeat' (first
    | with_reducible exact Fr.refl _ _
    | exact (rfl : (_ : Nat) = _)
    | with_reducible refine State.raise_fr ?_ ?_
    | with_reducible refine State.event_fr ?_ ?_
    | with_reducible refine State.countBy_fr ?_ ?_
    | with_reducible refine Fr.ite ?_ ?_)

theorem State.wearFloor_fr {msk : Nat} {b₀ : State} {s : State} (h₀ : Fr msk b₀ s) (hm₀ : 4 ||| msk = msk) :
    Fr msk b₀ (State.wearFloor s) := by
  refine Fr.step h₀ ?_ hm₀
  clear h₀ hm₀
  unfold State.wearFloor
  try dsimp only
  repeat' (first
    | with_reducible exact Fr.refl _ _
    | exact (rfl : (_ : Nat) = _)
    | with_reducible refine State.wrN_fr ?_ ?_)

theorem State.wearCommit_fr {msk : Nat} {b₀ : State} {s : State} (h₀ : Fr msk b₀ s) (hm₀ : 709446 ||| msk = msk) :
    Fr msk b₀ (State.wearCommit s) := by
  refine Fr.step h₀ ?_ hm₀
  clear h₀ hm₀
  unfold State.wearCommit
  try dsimp only
  repeat' (first
    | with_reducible exact Fr.refl _ _
    | with_reducible assumption
    | exact (rfl : (_ : Nat) = _)
    | with_reducible refine State.wearFloor_fr ?_ ?_
    | with_reducible refine State.wrN_fr ?_ ?_
    | with_reducible refine State.event_fr ?_ ?_
    | with_reducible refine State.raise_fr ?_ ?_
    | with_reducible refine Fr.ite ?_ ?_
    | with_reducible refine Fr.foldl ?_ _ _ ?_
    | intro _ _ _
    | split
    | refine Fr.mk' ?_)

theorem State.patrolIssue_fr {msk : Nat} {b₀ : State} {s : State} {x : Nat × Nat × Nat × Nat} (h₀ : Fr msk b₀ s) (hm₀ : 16390 ||| msk = msk) :
    Fr msk b₀ (State.patrolIssue s x) := by
  refine Fr.step h₀ ?_ hm₀
  clear h₀ hm₀
  unfold State.patrolIssue
  try dsimp only
  repeat' (first
    | with_reducible exact Fr.refl _ _
    | exact (rfl : (_ : Nat) = _)
    | with_reducible refine State.setBg_fr ?_ ?_
    | with_reducible refine State.setPatrol_fr ?_ ?_
    | with_reducible refine State.wrN_fr ?_ ?_
    | with_reducible refine State.count_fr ?_ ?_
    | with_reducible refine State.sendMod_fr ?_ ?_
    | with_reducible refine Fr.ite ?_ ?_)

theorem State.patrolIssues_fr {msk : Nat} {b₀ : State} {s : State} {x1 : Nat} (h₀ : Fr msk b₀ s) (hm₀ : 16390 ||| msk = msk) :
    Fr msk b₀ (State.patrolIssues s x1) := by
  refine Fr.step h₀ ?_ hm₀
  clear h₀ hm₀
  fun_induction State.patrolIssues 
  all_goals try dsimp +zetaDelta only at *
  all_goals repeat' (first
    | with_reducible exact Fr.refl _ _
    | exact (rfl : (_ : Nat) = _)
    | with_reducible refine Fr.trans ?_ (by assumption)
    | with_reducible refine State.patrolIssue_fr ?_ ?_
    | with_reducible refine State.setPatrol_fr ?_ ?_)

theorem State.wearHour_fr {msk : Nat} {b₀ : State} {s : State} {pool : Nat} {p : Pool} (h₀ : Fr msk b₀ s) (hm₀ : 16388 ||| msk = msk) :
    Fr msk b₀ (State.wearHour s pool p) := by
  refine Fr.step h₀ ?_ hm₀
  clear h₀ hm₀
  unfold State.wearHour
  try dsimp only
  repeat' (first
    | with_reducible exact Fr.refl _ _
    | exact (rfl : (_ : Nat) = _)
    | with_reducible refine State.wrN_fr ?_ ?_
    | with_reducible refine State.wr64_fr ?_ ?_
    | with_reducible refine State.event_fr ?_ ?_
    | with_reducible refine Fr.ite ?_ ?_
    | split
    | refine Fr.mk' ?_)

theorem State.binChange_fr {msk : Nat} {b₀ : State} {s : State} (h₀ : Fr msk b₀ s) (hm₀ : 16384 ||| msk = msk) :
    Fr msk b₀ (State.binChange s) := by
  refine Fr.step h₀ ?_ hm₀
  clear h₀ hm₀
  unfold State.binChange
  try dsimp only
  repeat' (first
    | with_reducible exact Fr.refl _ _
    | refine Fr.mk' ?_)

theorem State.calCommit_fr {msk : Nat} {b₀ : State} {s : State} (h₀ : Fr msk b₀ s) (hm₀ : 16388 ||| msk = msk) :
    Fr msk b₀ (State.calCommit s) := by
  refine Fr.step h₀ ?_ hm₀
  clear h₀ hm₀
  unfold State.calCommit
  try dsimp only
  repeat' (first
    | with_reducible exact Fr.refl _ _
    | with_reducible assumption
    | exact (rfl : (_ : Nat) = _)
    | with_reducible refine State.setHealth_fr ?_ ?_
    | with_reducible refine State.countBy_fr ?_ ?_
    | with_reducible refine State.setDie_fr ?_ ?_
    | with_reducible refine Fr.ite ?_ ?_
    | with_reducible refine Fr.foldl ?_ _ _ ?_
    | intro _ _ _
    | refine Fr.mk' ?_)

theorem State.trimGroups_fr {msk : Nat} {b₀ : State} {s : State} {m : Nat} {d : Nat} {bin : Nat} (h₀ : Fr msk b₀ s) (hm₀ : 16384 ||| msk = msk) :
    Fr msk b₀ (State.trimGroups s m d bin) := by
  refine Fr.step h₀ ?_ hm₀
  clear h₀ hm₀
  unfold State.trimGroups
  try dsimp only
  repeat' (first
    | with_reducible exact Fr.refl _ _
    | with_reducible refine Fr.ite ?_ ?_
    | refine Fr.mk' ?_)

theorem State.calExamine_fr {msk : Nat} {b₀ : State} {s : State} {port : Nat} {m : Nat} {d : Nat} {bin : Nat} {bgrp : Nat} (h₀ : Fr msk b₀ s) (hm₀ : 709446 ||| msk = msk) :
    Fr msk b₀ (State.calExamine s port m d bin bgrp) := by
  refine Fr.step h₀ ?_ hm₀
  clear h₀ hm₀
  unfold State.calExamine
  try dsimp only
  repeat' (first
    | with_reducible exact Fr.refl _ _
    | exact (rfl : (_ : Nat) = _)
    | with_reducible refine State.setBin_fr ?_ ?_
    | with_reducible refine State.calClamped_fr ?_ ?_
    | with_reducible refine State.calStale_fr ?_ ?_
    | with_reducible refine State.calSend_fr ?_ ?_
    | with_reducible refine Fr.ite ?_ ?_)

theorem execCalUpdate_fr {msk : Nat} {b₀ : State} {m : Nat} {d : Nat} {bin : Nat} {bgrp : Nat} {s : State} (h₀ : Fr msk b₀ s) (hm₀ : 709446 ||| msk = msk) :
    FrO msk b₀ (execCalUpdate m d bin bgrp s) := by
  refine FrO.step h₀ ?_ hm₀
  clear h₀ hm₀
  unfold execCalUpdate
  try dsimp only
  repeat' (first
    | with_reducible exact Fr.refl _ _
    | exact (rfl : (_ : Nat) = _)
    | with_reducible refine State.setBin_fr ?_ ?_
    | with_reducible refine State.trimGroups_fr ?_ ?_
    | with_reducible refine State.calSend_fr ?_ ?_
    | with_reducible refine State.calExamine_fr ?_ ?_
    | with_reducible refine FrO.ite ?_ ?_
    | with_reducible refine FrO.next ?_
    | split)

theorem State.latchHealth_fr {msk : Nat} {b₀ : State} {s : State} (h₀ : Fr msk b₀ s) (hm₀ : 4 ||| msk = msk) :
    Fr msk b₀ (State.latchHealth s) := by
  refine Fr.step h₀ ?_ hm₀
  clear h₀ hm₀
  unfold State.latchHealth
  try dsimp only
  repeat' (first
    | with_reducible exact Fr.refl _ _
    | with_reducible assumption
    | exact (rfl : (_ : Nat) = _)
    | with_reducible refine State.wrN_fr ?_ ?_
    | with_reducible refine Fr.foldl ?_ _ _ ?_
    | intro _ _ _)

theorem execHlRecLatch_fr {msk : Nat} {b₀ : State} {s : State} (h₀ : Fr msk b₀ s) (hm₀ : 6 ||| msk = msk) :
    FrO msk b₀ (execHlRecLatch s) := by
  refine FrO.step h₀ ?_ hm₀
  clear h₀ hm₀
  unfold execHlRecLatch
  try dsimp only
  repeat' (first
    | with_reducible exact Fr.refl _ _
    | exact (rfl : (_ : Nat) = _)
    | with_reducible refine State.emit_fr ?_ ?_
    | with_reducible refine State.latchHealth_fr ?_ ?_
    | with_reducible refine FrO.next ?_)

theorem State.wearPay_fr {msk : Nat} {b₀ : State} {s : State} (h₀ : Fr msk b₀ s) (hm₀ : 16384 ||| msk = msk) :
    Fr msk b₀ (State.wearPay s) := by
  refine Fr.step h₀ ?_ hm₀
  clear h₀ hm₀
  unfold State.wearPay
  try dsimp only
  repeat' (first
    | with_reducible exact Fr.refl _ _
    | refine Fr.mk' ?_)

theorem State.patrolStep_fr {msk : Nat} {b₀ : State} {s : State} (h₀ : Fr msk b₀ s) (hm₀ : 16390 ||| msk = msk) :
    Fr msk b₀ (State.patrolStep s) := by
  refine Fr.step h₀ ?_ hm₀
  clear h₀ hm₀
  unfold State.patrolStep
  try dsimp only
  repeat' (first
    | with_reducible exact Fr.refl _ _
    | exact (rfl : (_ : Nat) = _)
    | with_reducible refine State.passStart_fr ?_ ?_
    | with_reducible refine State.setPatrol_fr ?_ ?_
    | with_reducible refine State.patrolIssues_fr ?_ ?_
    | with_reducible refine Fr.ite ?_ ?_)

theorem execPatrolPassStart_fr {msk : Nat} {b₀ : State} {s : State} (h₀ : Fr msk b₀ s) (hm₀ : 16388 ||| msk = msk) :
    FrO msk b₀ (execPatrolPassStart s) := by
  refine FrO.step h₀ ?_ hm₀
  clear h₀ hm₀
  unfold execPatrolPassStart
  try dsimp only
  repeat' (first
    | with_reducible exact Fr.refl _ _
    | exact (rfl : (_ : Nat) = _)
    | with_reducible refine State.passStart_fr ?_ ?_
    | with_reducible refine FrO.ite ?_ ?_
    | with_reducible refine FrO.next ?_)

theorem State.levelOk_fr {msk : Nat} {b₀ : State} {s : State} {m : Nat} {d : Nat} {bin : Nat} (h₀ : Fr msk b₀ s) (hm₀ : 16384 ||| msk = msk) :
    Fr msk b₀ (State.levelOk s m d bin) := by
  refine Fr.step h₀ ?_ hm₀
  clear h₀ hm₀
  unfold State.levelOk
  try dsimp only
  repeat' (first
    | with_reducible exact Fr.refl _ _
    | exact (rfl : (_ : Nat) = _)
    | with_reducible refine State.setBin_fr ?_ ?_
    | with_reducible refine Fr.ite ?_ ?_)

theorem State.ageGroups_fr {msk : Nat} {b₀ : State} {s : State} (h₀ : Fr msk b₀ s) (hm₀ : 16388 ||| msk = msk) :
    Fr msk b₀ (State.ageGroups s) := by
  refine Fr.step h₀ ?_ hm₀
  clear h₀ hm₀
  unfold State.ageGroups
  try dsimp only
  repeat' (first
    | with_reducible exact Fr.refl _ _
    | with_reducible assumption
    | exact (rfl : (_ : Nat) = _)
    | with_reducible refine State.refreshCheck_fr ?_ ?_
    | with_reducible refine State.setBg_fr ?_ ?_
    | with_reducible refine Fr.foldl ?_ _ _ ?_
    | intro _ _ _)

theorem execPatrolPassEnd_fr {msk : Nat} {b₀ : State} {s : State} (h₀ : Fr msk b₀ s) (hm₀ : 709446 ||| msk = msk) :
    FrO msk b₀ (execPatrolPassEnd s) := by
  refine FrO.step h₀ ?_ hm₀
  clear h₀ hm₀
  unfold execPatrolPassEnd
  try dsimp only
  repeat' (first
    | with_reducible exact Fr.refl _ _
    | exact (rfl : (_ : Nat) = _)
    | with_reducible refine State.setPatrol_fr ?_ ?_
    | with_reducible refine State.event_fr ?_ ?_
    | with_reducible refine State.raise_fr ?_ ?_
    | with_reducible refine State.count_fr ?_ ?_
    | with_reducible refine FrO.ite ?_ ?_
    | with_reducible refine FrO.next ?_)

theorem execHourRollover_fr {msk : Nat} {b₀ : State} {s : State} (h₀ : Fr msk b₀ s) (hm₀ : 16388 ||| msk = msk) :
    FrO msk b₀ (execHourRollover s) := by
  refine FrO.step h₀ ?_ hm₀
  clear h₀ hm₀
  unfold execHourRollover
  try dsimp only
  repeat' (first
    | with_reducible exact Fr.refl _ _
    | with_reducible assumption
    | exact (rfl : (_ : Nat) = _)
    | with_reducible refine State.ageGroups_fr ?_ ?_
    | with_reducible refine State.wearHour_fr ?_ ?_
    | with_reducible refine State.healthUpdate_fr ?_ ?_
    | with_reducible refine FrO.ite ?_ ?_
    | with_reducible refine FrO.next ?_
    | with_reducible refine Fr.foldl ?_ _ _ ?_
    | intro _ _ _)

theorem execPatrolPace_fr {msk : Nat} {b₀ : State} {s : State} (h₀ : Fr msk b₀ s) (hm₀ : 16384 ||| msk = msk) :
    FrO msk b₀ (execPatrolPace s) := by
  refine FrO.step h₀ ?_ hm₀
  clear h₀ hm₀
  unfold execPatrolPace
  try dsimp only
  repeat' (first
    | with_reducible exact Fr.refl _ _
    | exact (rfl : (_ : Nat) = _)
    | with_reducible refine State.setPatrol_fr ?_ ?_
    | with_reducible refine FrO.ite ?_ ?_
    | with_reducible refine FrO.next ?_)

end Sys2Proof.Machine
end

