-- ==== Sys2Proof/Laws/FrMcache.lean ====
section
/-! SUPPORT. Frames of the operations of Machine.Mcache: the parts of State that each may change. -/

set_option maxRecDepth 20000
set_option Elab.async false
set_option linter.unusedTactic false
set_option linter.unreachableTactic false
set_option linter.unusedVariables false

namespace Sys2Proof.Machine

theorem State.mcShow_fr {msk : Nat} {b₀ : State} {s : State} (h₀ : Fr msk b₀ s) (hm₀ : 4 ||| msk = msk) :
    Fr msk b₀ (State.mcShow s) := by
  refine Fr.step h₀ ?_ hm₀
  clear h₀ hm₀
  unfold State.mcShow
  try dsimp only
  repeat' (first
    | with_reducible exact Fr.refl _ _
    | exact (rfl : (_ : Nat) = _)
    | with_reducible refine State.wrN_fr ?_ ?_)

theorem State.setMc_fr {msk : Nat} {b₀ : State} {s : State} {m : McSt} (h₀ : Fr msk b₀ s) (hm₀ : 65536 ||| msk = msk) :
    Fr msk b₀ (State.setMc s m) := by
  refine Fr.step h₀ ?_ hm₀
  clear h₀ hm₀
  unfold State.setMc
  try dsimp only
  repeat' (first
    | with_reducible exact Fr.refl _ _
    | refine Fr.mk' ?_)

theorem State.mcWait_fr {msk : Nat} {b₀ : State} {s : State} {line : Nat} {i : McItem} (h₀ : Fr msk b₀ s) (hm₀ : 65536 ||| msk = msk) :
    Fr msk b₀ (State.mcWait s line i) := by
  refine Fr.step h₀ ?_ hm₀
  clear h₀ hm₀
  unfold State.mcWait
  try dsimp only
  repeat' (first
    | with_reducible exact Fr.refl _ _
    | exact (rfl : (_ : Nat) = _)
    | with_reducible refine State.setMc_fr ?_ ?_)

theorem State.mcFull_fr {msk : Nat} {b₀ : State} {s : State} {line : Nat} {i : McItem} {again : Bool} (h₀ : Fr msk b₀ s) (hm₀ : 65540 ||| msk = msk) :
    Fr msk b₀ (State.mcFull s line i again) := by
  refine Fr.step h₀ ?_ hm₀
  clear h₀ hm₀
  unfold State.mcFull
  try dsimp only
  repeat' (first
    | with_reducible exact Fr.refl _ _
    | exact (rfl : (_ : Nat) = _)
    | with_reducible refine State.mcWait_fr ?_ ?_
    | with_reducible refine State.setMc_fr ?_ ?_
    | with_reducible refine State.count_fr ?_ ?_
    | with_reducible refine Fr.ite ?_ ?_)

theorem State.setMiss_fr {msk : Nat} {b₀ : State} {s : State} {line : Nat} {m : McMiss} (h₀ : Fr msk b₀ s) (hm₀ : 65536 ||| msk = msk) :
    Fr msk b₀ (State.setMiss s line m) := by
  refine Fr.step h₀ ?_ hm₀
  clear h₀ hm₀
  unfold State.setMiss
  try dsimp only
  repeat' (first
    | with_reducible exact Fr.refl _ _
    | exact (rfl : (_ : Nat) = _)
    | with_reducible refine State.setMc_fr ?_ ?_)

theorem State.evict_fr {msk : Nat} {b₀ : State} {s : State} {k : Nat} {l : McLine} (h₀ : Fr msk b₀ s) (hm₀ : 65540 ||| msk = msk) :
    Fr msk b₀ (State.evict s k l) := by
  refine Fr.step h₀ ?_ hm₀
  clear h₀ hm₀
  unfold State.evict
  try dsimp only
  repeat' (first
    | with_reducible exact Fr.refl _ _
    | exact (rfl : (_ : Nat) = _)
    | with_reducible refine State.setMc_fr ?_ ?_
    | with_reducible refine State.countBy_fr ?_ ?_)

theorem State.mcWay_fr {msk : Nat} {b₀ : State} {s : State} {line : Nat} (h₀ : Fr msk b₀ s) (hm₀ : 65540 ||| msk = msk) :
    Fr msk b₀ (State.mcWay s line).1 := by
  refine Fr.step h₀ ?_ hm₀
  clear h₀ hm₀
  unfold State.mcWay
  try dsimp only
  repeat' (first
    | with_reducible exact Fr.refl _ _
    | exact (rfl : (_ : Nat) = _)
    | with_reducible refine State.evict_fr ?_ ?_
    | with_reducible refine State.setMc_fr ?_ ?_
    | split)

theorem State.setLine_fr {msk : Nat} {b₀ : State} {s : State} {line : Nat} {l : McLine} (h₀ : Fr msk b₀ s) (hm₀ : 65536 ||| msk = msk) :
    Fr msk b₀ (State.setLine s line l) := by
  refine Fr.step h₀ ?_ hm₀
  clear h₀ hm₀
  unfold State.setLine
  try dsimp only
  repeat' (first
    | with_reducible exact Fr.refl _ _
    | exact (rfl : (_ : Nat) = _)
    | with_reducible refine State.setMc_fr ?_ ?_)

theorem State.mcMiss_fr {msk : Nat} {b₀ : State} {s : State} {line : Nat} {i : McItem} {again : Bool} (h₀ : Fr msk b₀ s) (hm₀ : 65540 ||| msk = msk) :
    Fr msk b₀ (State.mcMiss s line i again) := by
  refine Fr.step h₀ ?_ hm₀
  clear h₀ hm₀
  unfold State.mcMiss
  try dsimp only
  repeat' (first
    | with_reducible exact Fr.refl _ _
    | exact (rfl : (_ : Nat) = _)
    | with_reducible refine State.mcWait_fr ?_ ?_
    | with_reducible refine State.mcFull_fr ?_ ?_
    | with_reducible refine State.countBy_fr ?_ ?_
    | with_reducible refine State.count_fr ?_ ?_
    | with_reducible refine State.setMiss_fr ?_ ?_
    | with_reducible refine State.mcWay_fr ?_ ?_
    | with_reducible refine State.setLine_fr ?_ ?_
    | with_reducible refine Fr.ite ?_ ?_
    | with_reducible refine Fr.pair (h := ?_) (e := by assumption)
    | split)

theorem State.mcAccess_fr {msk : Nat} {b₀ : State} {s : State} {line : Nat} {i : McItem} {again : Bool} (h₀ : Fr msk b₀ s) (hm₀ : 65540 ||| msk = msk) :
    Fr msk b₀ (State.mcAccess s line i again) := by
  refine Fr.step h₀ ?_ hm₀
  clear h₀ hm₀
  unfold State.mcAccess
  try dsimp only
  repeat' (first
    | with_reducible exact Fr.refl _ _
    | exact (rfl : (_ : Nat) = _)
    | with_reducible refine State.mcWait_fr ?_ ?_
    | with_reducible refine State.count_fr ?_ ?_
    | with_reducible refine State.mcMiss_fr ?_ ?_
    | with_reducible refine State.setLine_fr ?_ ?_
    | with_reducible refine State.setMiss_fr ?_ ?_
    | with_reducible refine Fr.ite ?_ ?_
    | split)

theorem State.sramCe_fr {msk : Nat} {b₀ : State} {s : State} (h₀ : Fr msk b₀ s) (hm₀ : 693062 ||| msk = msk) :
    Fr msk b₀ (State.sramCe s) := by
  refine Fr.step h₀ ?_ hm₀
  clear h₀ hm₀
  unfold State.sramCe
  try dsimp only
  repeat' (first
    | with_reducible exact Fr.refl _ _
    | exact (rfl : (_ : Nat) = _)
    | with_reducible refine State.raise_fr ?_ ?_
    | with_reducible refine State.count_fr ?_ ?_)

theorem State.sramUe_fr {msk : Nat} {b₀ : State} {s : State} {line : Nat} {injected : Bool} (h₀ : Fr msk b₀ s) (hm₀ : 758598 ||| msk = msk) :
    Fr msk b₀ (State.sramUe s line injected) := by
  refine Fr.step h₀ ?_ hm₀
  clear h₀ hm₀
  unfold State.sramUe
  try dsimp only
  repeat' (first
    | with_reducible exact Fr.refl _ _
    | exact (rfl : (_ : Nat) = _)
    | with_reducible refine State.raise_fr ?_ ?_
    | with_reducible refine State.setMc_fr ?_ ?_)

theorem State.mcTouch_fr {msk : Nat} {b₀ : State} {s0 : State} {line : Nat} {mask : Nat} {write : Bool} {whole : Bool} {ecc : Nat} (h₀ : Fr msk b₀ s0) (hm₀ : 758598 ||| msk = msk) :
    Fr msk b₀ (State.mcTouch s0 line mask write whole ecc) := by
  refine Fr.step h₀ ?_ hm₀
  clear h₀ hm₀
  unfold State.mcTouch
  try dsimp only
  repeat' (first
    | with_reducible exact Fr.refl _ _
    | with_reducible assumption
    | exact (rfl : (_ : Nat) = _)
    | with_reducible refine State.operate_fr ?_ ?_
    | with_reducible refine State.mcShow_fr ?_ ?_
    | with_reducible refine State.mcAccess_fr ?_ ?_
    | with_reducible refine State.inject_fr ?_ ?_
    | with_reducible refine State.sramCe_fr ?_ ?_
    | with_reducible refine State.mcWait_fr ?_ ?_
    | with_reducible refine State.sramUe_fr ?_ ?_
    | with_reducible refine State.mcMiss_fr ?_ ?_
    | with_reducible refine State.setLine_fr ?_ ?_
    | dsimp only
    | with_reducible refine Fr.ite ?_ ?_
    | with_reducible refine Fr.ite₁ ?_ ?_
    | with_reducible refine FrS.ite ?_ ?_
    | with_reducible refine FrP.ite ?_ ?_
    | with_reducible exact FrS.none
    | with_reducible refine FrS.some ?_
    | with_reducible refine FrS.map ?_
    | with_reducible exact FrP.none
    | with_reducible refine FrP.some ?_
    | with_reducible refine Fr.elim ?_ ?_
    | with_reducible refine Fr.foldl ?_ _ _ ?_
    | with_reducible refine Fr.foldl₂ ?_ _ _ ?_
    | intro _ _ _ _ _ _
    | intro _ _ _ _ _
    | intro _ _ _ _
    | intro _ _ _
    | intro _ _
    | intro _
    | with_reducible refine Fr.pair (h := ?_) (e := by assumption)
    | with_reducible refine FrO.got (h := ?_) (e := by assumption)
    | with_reducible refine FrS.get (h := ?_) (e := by assumption)
    | with_reducible refine FrP.get (h := ?_) (e := by assumption)
    | split)

theorem State.mcOpLine_fr {msk : Nat} {b₀ : State} {s : State} {o : McOp} {line : Nat} {again : Bool} (h₀ : Fr msk b₀ s) (hm₀ : 65540 ||| msk = msk) :
    Fr msk b₀ (State.mcOpLine s o line again) := by
  refine Fr.step h₀ ?_ hm₀
  clear h₀ hm₀
  unfold State.mcOpLine
  try dsimp only
  repeat' (first
    | with_reducible exact Fr.refl _ _
    | exact (rfl : (_ : Nat) = _)
    | with_reducible refine State.setMc_fr ?_ ?_
    | with_reducible refine State.mcWait_fr ?_ ?_
    | with_reducible refine State.mcFull_fr ?_ ?_
    | with_reducible refine State.putBit_fr ?_ ?_
    | with_reducible refine State.setMiss_fr ?_ ?_
    | with_reducible refine State.setLine_fr ?_ ?_
    | with_reducible refine Fr.ite ?_ ?_
    | split)

theorem State.mcAgain_fr {msk : Nat} {b₀ : State} {s : State} {line : Nat} {i : McItem} (h₀ : Fr msk b₀ s) (hm₀ : 65540 ||| msk = msk) :
    Fr msk b₀ (State.mcAgain s line i) := by
  refine Fr.step h₀ ?_ hm₀
  clear h₀ hm₀
  unfold State.mcAgain
  try dsimp only
  repeat' (first
    | with_reducible exact Fr.refl _ _
    | exact (rfl : (_ : Nat) = _)
    | with_reducible refine State.mcOpLine_fr ?_ ?_
    | with_reducible refine State.mcAccess_fr ?_ ?_
    | split)

theorem State.mcServe_fr {msk : Nat} {b₀ : State} {s : State} {line : Nat} (h₀ : Fr msk b₀ s) (hm₀ : 65540 ||| msk = msk) :
    Fr msk b₀ (State.mcServe s line) := by
  refine Fr.step h₀ ?_ hm₀
  clear h₀ hm₀
  unfold State.mcServe
  try dsimp only
  repeat' (first
    | with_reducible exact Fr.refl _ _
    | with_reducible assumption
    | exact (rfl : (_ : Nat) = _)
    | with_reducible refine State.setMc_fr ?_ ?_
    | with_reducible refine State.putBit_fr ?_ ?_
    | with_reducible refine State.mcAgain_fr ?_ ?_
    | with_reducible refine Fr.foldl ?_ _ _ ?_
    | intro _ _ _
    | split)

theorem State.mcOp_fr {msk : Nat} {b₀ : State} {s : State} {o : McOp} {lo : Nat} {n : Nat} {inside : Bool} (h₀ : Fr msk b₀ s) (hm₀ : 758598 ||| msk = msk) :
    Fr msk b₀ (State.mcOp s o lo n inside) := by
  refine Fr.step h₀ ?_ hm₀
  clear h₀ hm₀
  unfold State.mcOp
  try dsimp only
  repeat' (first
    | with_reducible exact Fr.refl _ _
    | with_reducible assumption
    | exact (rfl : (_ : Nat) = _)
    | with_reducible refine State.writeDiscarded_fr ?_ ?_
    | with_reducible refine State.event_fr ?_ ?_
    | with_reducible refine State.wrN_fr ?_ ?_
    | with_reducible refine State.setMc_fr ?_ ?_
    | with_reducible refine State.mcShow_fr ?_ ?_
    | with_reducible refine State.mcOpLine_fr ?_ ?_
    | dsimp only
    | with_reducible refine Fr.ite ?_ ?_
    | with_reducible refine Fr.ite₁ ?_ ?_
    | with_reducible refine FrS.ite ?_ ?_
    | with_reducible refine FrP.ite ?_ ?_
    | with_reducible exact FrS.none
    | with_reducible refine FrS.some ?_
    | with_reducible refine FrS.map ?_
    | with_reducible exact FrP.none
    | with_reducible refine FrP.some ?_
    | with_reducible refine Fr.elim ?_ ?_
    | with_reducible refine Fr.foldl ?_ _ _ ?_
    | with_reducible refine Fr.foldl₂ ?_ _ _ ?_
    | intro _ _ _ _ _ _
    | intro _ _ _ _ _
    | intro _ _ _ _
    | intro _ _ _
    | intro _ _
    | intro _
    | with_reducible refine Fr.pair (h := ?_) (e := by assumption)
    | with_reducible refine FrO.got (h := ?_) (e := by assumption)
    | with_reducible refine FrS.get (h := ?_) (e := by assumption)
    | with_reducible refine FrP.get (h := ?_) (e := by assumption)
    | split)

theorem execMcCleanAll_fr {msk : Nat} {b₀ : State} {s : State} (h₀ : Fr msk b₀ s) (hm₀ : 758598 ||| msk = msk) :
    FrO msk b₀ (execMcCleanAll s) := by
  refine FrO.step h₀ ?_ hm₀
  clear h₀ hm₀
  unfold execMcCleanAll
  try dsimp only
  repeat' (first
    | with_reducible exact Fr.refl _ _
    | exact (rfl : (_ : Nat) = _)
    | with_reducible refine State.mcOp_fr ?_ ?_
    | with_reducible refine FrO.next ?_)

theorem execMcacheFillDone_fr {msk : Nat} {b₀ : State} {line : Nat} {poisoned : Bool} {s : State} (h₀ : Fr msk b₀ s) (hm₀ : 758598 ||| msk = msk) :
    FrO msk b₀ (execMcacheFillDone line poisoned s) := by
  refine FrO.step h₀ ?_ hm₀
  clear h₀ hm₀
  unfold execMcacheFillDone
  try dsimp only
  repeat' (first
    | with_reducible exact Fr.refl _ _
    | exact (rfl : (_ : Nat) = _)
    | with_reducible refine State.mcShow_fr ?_ ?_
    | with_reducible refine State.sramUe_fr ?_ ?_
    | with_reducible refine State.mcServe_fr ?_ ?_
    | with_reducible refine Fr.ite ?_ ?_
    | with_reducible refine FrO.next ?_)

theorem execMcInvalidate_fr {msk : Nat} {b₀ : State} {s : State} (h₀ : Fr msk b₀ s) (hm₀ : 693062 ||| msk = msk) :
    FrO msk b₀ (execMcInvalidate s) := by
  refine FrO.step h₀ ?_ hm₀
  clear h₀ hm₀
  unfold execMcInvalidate
  try dsimp only
  repeat' (first
    | with_reducible exact Fr.refl _ _
    | exact (rfl : (_ : Nat) = _)
    | with_reducible refine State.writeDiscarded_fr ?_ ?_
    | with_reducible refine State.raise_fr ?_ ?_
    | with_reducible refine State.event_fr ?_ ?_
    | with_reducible refine State.wrN_fr ?_ ?_
    | with_reducible refine Fr.ite ?_ ?_
    | with_reducible refine FrO.next ?_)

theorem execMcClean_fr {msk : Nat} {b₀ : State} {inside : Bool} {s : State} (h₀ : Fr msk b₀ s) (hm₀ : 758598 ||| msk = msk) :
    FrO msk b₀ (execMcClean inside s) := by
  refine FrO.step h₀ ?_ hm₀
  clear h₀ hm₀
  unfold execMcClean
  try dsimp only
  repeat' (first
    | with_reducible exact Fr.refl _ _
    | exact (rfl : (_ : Nat) = _)
    | with_reducible refine State.mcOp_fr ?_ ?_
    | with_reducible refine FrO.next ?_)

theorem execMcFlush_fr {msk : Nat} {b₀ : State} {inside : Bool} {s : State} (h₀ : Fr msk b₀ s) (hm₀ : 758598 ||| msk = msk) :
    FrO msk b₀ (execMcFlush inside s) := by
  refine FrO.step h₀ ?_ hm₀
  clear h₀ hm₀
  unfold execMcFlush
  try dsimp only
  repeat' (first
    | with_reducible exact Fr.refl _ _
    | exact (rfl : (_ : Nat) = _)
    | with_reducible refine State.mcOp_fr ?_ ?_
    | with_reducible refine FrO.next ?_)

theorem execMcacheAccess_fr {msk : Nat} {b₀ : State} {line : Nat} {mask : Nat} {write : Bool} {whole : Bool} {ecc : Nat} {s : State} (h₀ : Fr msk b₀ s) (hm₀ : 758598 ||| msk = msk) :
    FrO msk b₀ (execMcacheAccess line mask write whole ecc s) := by
  refine FrO.step h₀ ?_ hm₀
  clear h₀ hm₀
  unfold execMcacheAccess
  try dsimp only
  repeat' (first
    | with_reducible exact Fr.refl _ _
    | with_reducible assumption
    | exact (rfl : (_ : Nat) = _)
    | with_reducible refine State.mcTouch_fr ?_ ?_
    | dsimp only
    | with_reducible refine Fr.ite ?_ ?_
    | with_reducible refine Fr.ite₁ ?_ ?_
    | with_reducible refine FrO.ite ?_ ?_
    | with_reducible refine FrS.ite ?_ ?_
    | with_reducible refine FrP.ite ?_ ?_
    | with_reducible refine FrO.next ?_
    | with_reducible exact FrS.none
    | with_reducible refine FrS.some ?_
    | with_reducible refine FrS.map ?_
    | with_reducible exact FrP.none
    | with_reducible refine FrP.some ?_
    | with_reducible refine Fr.elim ?_ ?_
    | with_reducible refine Fr.foldl ?_ _ _ ?_
    | with_reducible refine Fr.foldl₂ ?_ _ _ ?_
    | intro _ _ _ _ _ _
    | intro _ _ _ _ _
    | intro _ _ _ _
    | intro _ _ _
    | intro _ _
    | intro _
    | with_reducible refine Fr.pair (h := ?_) (e := by assumption)
    | with_reducible refine FrO.got (h := ?_) (e := by assumption)
    | with_reducible refine FrS.get (h := ?_) (e := by assumption)
    | with_reducible refine FrP.get (h := ?_) (e := by assumption)
    | split)

theorem State.mcCommit_fr {msk : Nat} {b₀ : State} {s : State} (h₀ : Fr msk b₀ s) (hm₀ : 65540 ||| msk = msk) :
    Fr msk b₀ (State.mcCommit s) := by
  refine Fr.step h₀ ?_ hm₀
  clear h₀ hm₀
  unfold State.mcCommit
  try dsimp only
  repeat' (first
    | with_reducible exact Fr.refl _ _
    | with_reducible assumption
    | exact (rfl : (_ : Nat) = _)
    | with_reducible refine State.event_fr ?_ ?_
    | with_reducible refine State.setMc_fr ?_ ?_
    | with_reducible refine State.mcShow_fr ?_ ?_
    | with_reducible refine State.mcAgain_fr ?_ ?_
    | with_reducible refine Fr.ite ?_ ?_
    | with_reducible refine Fr.foldl ?_ _ _ ?_
    | intro _ _ _)

theorem execObjectRebuild_fr {msk : Nat} {b₀ : State} {line : Nat} {ok : Bool} {s : State} (h₀ : Fr msk b₀ s) (hm₀ : 758598 ||| msk = msk) :
    FrO msk b₀ (execObjectRebuild line ok s) := by
  refine FrO.step h₀ ?_ hm₀
  clear h₀ hm₀
  unfold execObjectRebuild
  try dsimp only
  repeat' (first
    | with_reducible exact Fr.refl _ _
    | with_reducible assumption
    | exact (rfl : (_ : Nat) = _)
    | with_reducible refine State.raise_fr ?_ ?_
    | with_reducible refine State.setMc_fr ?_ ?_
    | with_reducible refine State.event_fr ?_ ?_
    | with_reducible refine State.count_fr ?_ ?_
    | with_reducible refine State.mcShow_fr ?_ ?_
    | with_reducible refine State.mcServe_fr ?_ ?_
    | with_reducible refine State.mcAgain_fr ?_ ?_
    | with_reducible refine Fr.ite ?_ ?_
    | with_reducible refine FrO.next ?_
    | with_reducible refine Fr.foldl ?_ _ _ ?_
    | intro _ _ _)

theorem execMcOpDone_fr {msk : Nat} {b₀ : State} {s : State} (h₀ : Fr msk b₀ s) (hm₀ : 4 ||| msk = msk) :
    FrO msk b₀ (execMcOpDone s) := by
  refine FrO.step h₀ ?_ hm₀
  clear h₀ hm₀
  unfold execMcOpDone
  try dsimp only
  repeat' (first
    | with_reducible exact Fr.refl _ _
    | exact (rfl : (_ : Nat) = _)
    | with_reducible refine State.event_fr ?_ ?_
    | with_reducible refine State.wrN_fr ?_ ?_
    | with_reducible refine Fr.ite ?_ ?_
    | with_reducible refine FrO.next ?_)

end Sys2Proof.Machine
end

