-- ==== Sys2Proof/Laws/FrMerge.lean ====
section
/-! SUPPORT. Frames of the operations of Machine.Merge: the parts of State that each may change. -/

set_option maxRecDepth 20000
set_option Elab.async false
set_option linter.unusedTactic false
set_option linter.unreachableTactic false
set_option linter.unusedVariables false

namespace Sys2Proof.Machine

theorem State.mergeMay_fr {msk : Nat} {b₀ : State} {s : State} {pool : Nat} (h₀ : Fr msk b₀ s) (hm₀ : 256 ||| msk = msk) :
    Fr msk b₀ (State.mergeMay s pool).1 := by
  refine Fr.step h₀ ?_ hm₀
  clear h₀ hm₀
  unfold State.mergeMay
  try dsimp only
  repeat' (first
    | with_reducible exact Fr.refl _ _
    | exact (rfl : (_ : Nat) = _)
    | with_reducible refine State.standing_fr ?_ ?_
    | with_reducible refine Fr.ite₁ ?_ ?_)

theorem State.tierPut_fr {msk : Nat} {b₀ : State} {s : State} {pool : Nat} {y : DdRec} (h₀ : Fr msk b₀ s) (hm₀ : 8192 ||| msk = msk) :
    Fr msk b₀ (State.tierPut s pool y) := by
  refine Fr.step h₀ ?_ hm₀
  clear h₀ hm₀
  unfold State.tierPut
  try dsimp only
  repeat' (first
    | with_reducible exact Fr.refl _ _
    | refine Fr.mk' ?_)

theorem State.mergeOne_fr {msk : Nat} {b₀ : State} {s : State} {pool : Nat} {y : DdRec} (h₀ : Fr msk b₀ s) (hm₀ : 24580 ||| msk = msk) :
    Fr msk b₀ (State.mergeOne s pool y) := by
  refine Fr.step h₀ ?_ hm₀
  clear h₀ hm₀
  unfold State.mergeOne
  try dsimp only
  repeat' (first
    | with_reducible exact Fr.refl _ _
    | exact (rfl : (_ : Nat) = _)
    | with_reducible refine State.tierPut_fr ?_ ?_
    | with_reducible refine State.event_fr ?_ ?_
    | with_reducible refine State.count_fr ?_ ?_
    | with_reducible refine State.addTxn_fr ?_ ?_
    | with_reducible refine Fr.ite ?_ ?_
    | split)

theorem execDedupMergeStep_fr {msk : Nat} {b₀ : State} {pool : Nat} {s : State} (h₀ : Fr msk b₀ s) (hm₀ : 24836 ||| msk = msk) :
    FrO msk b₀ (execDedupMergeStep pool s) := by
  refine FrO.step h₀ ?_ hm₀
  clear h₀ hm₀
  unfold execDedupMergeStep
  try dsimp only
  repeat' (first
    | with_reducible exact Fr.refl _ _
    | with_reducible assumption
    | exact (rfl : (_ : Nat) = _)
    | with_reducible refine State.mergeMay_fr ?_ ?_
    | with_reducible refine State.mergeOne_fr ?_ ?_
    | with_reducible refine FrO.next ?_
    | with_reducible refine Fr.foldl ?_ _ _ ?_
    | intro _ _ _
    | with_reducible refine Fr.pair (h := ?_) (e := by assumption)
    | split
    | refine Fr.mk' ?_)

theorem execHotTierSweep_fr {msk : Nat} {b₀ : State} {s : State} (h₀ : Fr msk b₀ s) (hm₀ : 24576 ||| msk = msk) :
    FrO msk b₀ (execHotTierSweep s) := by
  refine FrO.step h₀ ?_ hm₀
  clear h₀ hm₀
  unfold execHotTierSweep
  try dsimp only
  repeat' (first
    | with_reducible exact Fr.refl _ _
    | with_reducible refine FrO.next ?_
    | refine Fr.mk' ?_)

end Sys2Proof.Machine
end

