-- ==== Sys2Proof/Laws/FrRead.lean ====
section
/-! SUPPORT. Frames of the operations of Machine.Read: the parts of State that each may change. -/

set_option maxRecDepth 20000
set_option Elab.async false
set_option linter.unusedTactic false
set_option linter.unreachableTactic false
set_option linter.unusedVariables false

namespace Sys2Proof.Machine

theorem State.setRdGrain_fr {msk : Nat} {b₀ : State} {s : State} {n : Nat} {i : Nat} {g : RdGrain} (h₀ : Fr msk b₀ s) (hm₀ : 2048 ||| msk = msk) :
    Fr msk b₀ (State.setRdGrain s n i g) := by
  refine Fr.step h₀ ?_ hm₀
  clear h₀ hm₀
  unfold State.setRdGrain
  try dsimp only
  repeat' (first
    | with_reducible exact Fr.refl _ _
    | exact (rfl : (_ : Nat) = _)
    | with_reducible refine State.setCmd_fr ?_ ?_
    | split)

theorem State.resumeDie_fr {msk : Nat} {b₀ : State} {s : State} {port : Nat} {m : Nat} {d : Nat} (h₀ : Fr msk b₀ s) (hm₀ : 16390 ||| msk = msk) :
    Fr msk b₀ (State.resumeDie s port m d) := by
  refine Fr.step h₀ ?_ hm₀
  clear h₀ hm₀
  unfold State.resumeDie
  try dsimp only
  repeat' (first
    | with_reducible exact Fr.refl _ _
    | exact (rfl : (_ : Nat) = _)
    | with_reducible refine State.sendMod_fr ?_ ?_
    | with_reducible refine State.setDie_fr ?_ ?_
    | with_reducible refine Fr.ite ?_ ?_)

theorem State.readAnswer_fr {msk : Nat} {b₀ : State} {s : State} {port : Nat} {m : Nat} {c : ModCmd} {n : Nat} {i : Nat} {ok : Bool} {media : Bool} {r : DecodeReport} (h₀ : Fr msk b₀ s) (hm₀ : 711494 ||| msk = msk) :
    Fr msk b₀ (State.readAnswer s port m c n i ok media r) := by
  refine Fr.step h₀ ?_ hm₀
  clear h₀ hm₀
  unfold State.readAnswer
  try dsimp only
  repeat' (first
    | with_reducible exact Fr.refl _ _
    | with_reducible assumption
    | exact (rfl : (_ : Nat) = _)
    | with_reducible refine State.inject_fr ?_ ?_
    | with_reducible refine State.report_fr ?_ ?_
    | with_reducible refine State.noteFail_fr ?_ ?_
    | with_reducible refine State.setRdGrain_fr ?_ ?_
    | with_reducible refine State.resumeDie_fr ?_ ?_
    | dsimp only
    | with_reducible refine Fr.ite ?_ ?_
    | with_reducible refine Fr.ite₁ ?_ ?_
    | with_reducible refine FrS.ite ?_ ?_
    | with_reducible refine FrP.ite ?_ ?_
    | with_reducible exact FrS.none
    | with_reducible refine FrS.some ?_
    | with_reducible refine FrS.map ?_
    | with_reducible exact FrP.none
    | with_reducible refine FrP.some ?_
    | with_reducible refine Fr.elim ?_ ?_
    | with_reducible refine Fr.foldl ?_ _ _ ?_
    | with_reducible refine Fr.foldl₂ ?_ _ _ ?_
    | intro _ _ _ _ _ _
    | intro _ _ _ _ _
    | intro _ _ _ _
    | intro _ _ _
    | intro _ _
    | intro _
    | with_reducible refine Fr.pair (h := ?_) (e := by assumption)
    | with_reducible refine FrO.got (h := ?_) (e := by assumption)
    | with_reducible refine FrS.get (h := ?_) (e := by assumption)
    | with_reducible refine FrP.get (h := ?_) (e := by assumption)
    | split)

theorem State.sendRead_fr {msk : Nat} {b₀ : State} {s : State} {n : Nat} {i : Nat} {pool : Nat} {a : Nat} {page : Nat} {shift : Int} {x : Place} (h₀ : Fr msk b₀ s) (hm₀ : 16390 ||| msk = msk) :
    Fr msk b₀ (State.sendRead s n i pool a page shift x) := by
  refine Fr.step h₀ ?_ hm₀
  clear h₀ hm₀
  unfold State.sendRead
  try dsimp only
  repeat' (first
    | with_reducible exact Fr.refl _ _
    | exact (rfl : (_ : Nat) = _)
    | with_reducible refine State.sendMod_fr ?_ ?_)

theorem State.reconRead_fr {msk : Nat} {b₀ : State} {s : State} {n : Nat} {i : Nat} {g : RdGrain} {sg : Seg} {r : Recon} {ks : List Nat} (h₀ : Fr msk b₀ s) (hm₀ : 18438 ||| msk = msk) :
    Fr msk b₀ (State.reconRead s n i g sg r ks) := by
  refine Fr.step h₀ ?_ hm₀
  clear h₀ hm₀
  unfold State.reconRead
  try dsimp only
  repeat' (first
    | with_reducible exact Fr.refl _ _
    | with_reducible assumption
    | exact (rfl : (_ : Nat) = _)
    | with_reducible refine State.setRdGrain_fr ?_ ?_
    | with_reducible refine State.sendRead_fr ?_ ?_
    | dsimp only
    | with_reducible refine Fr.ite ?_ ?_
    | with_reducible refine Fr.ite₁ ?_ ?_
    | with_reducible refine FrS.ite ?_ ?_
    | with_reducible refine FrP.ite ?_ ?_
    | with_reducible exact FrS.none
    | with_reducible refine FrS.some ?_
    | with_reducible refine FrS.map ?_
    | with_reducible exact FrP.none
    | with_reducible refine FrP.some ?_
    | with_reducible refine Fr.elim ?_ ?_
    | with_reducible refine Fr.foldl ?_ _ _ ?_
    | with_reducible refine Fr.foldl₂ ?_ _ _ ?_
    | intro _ _ _ _ _ _
    | intro _ _ _ _ _
    | intro _ _ _ _
    | intro _ _ _
    | intro _ _
    | intro _
    | with_reducible refine Fr.pair (h := ?_) (e := by assumption)
    | with_reducible refine FrO.got (h := ?_) (e := by assumption)
    | with_reducible refine FrS.get (h := ?_) (e := by assumption)
    | with_reducible refine FrP.get (h := ?_) (e := by assumption)
    | split)

theorem State.startRecover_fr {msk : Nat} {b₀ : State} {s : State} {n : Nat} {i : Nat} {g : RdGrain} (h₀ : Fr msk b₀ s) (hm₀ : 18438 ||| msk = msk) :
    Fr msk b₀ (State.startRecover s n i g) := by
  refine Fr.step h₀ ?_ hm₀
  clear h₀ hm₀
  unfold State.startRecover
  try dsimp only
  repeat' (first
    | with_reducible exact Fr.refl _ _
    | with_reducible assumption
    | exact (rfl : (_ : Nat) = _)
    | with_reducible refine State.setRdGrain_fr ?_ ?_
    | with_reducible refine State.reconRead_fr ?_ ?_
    | dsimp only
    | with_reducible refine Fr.ite ?_ ?_
    | with_reducible refine Fr.ite₁ ?_ ?_
    | with_reducible refine FrS.ite ?_ ?_
    | with_reducible refine FrP.ite ?_ ?_
    | with_reducible exact FrS.none
    | with_reducible refine FrS.some ?_
    | with_reducible refine FrS.map ?_
    | with_reducible exact FrP.none
    | with_reducible refine FrP.some ?_
    | with_reducible refine Fr.elim ?_ ?_
    | with_reducible refine Fr.foldl ?_ _ _ ?_
    | with_reducible refine Fr.foldl₂ ?_ _ _ ?_
    | intro _ _ _ _ _ _
    | intro _ _ _ _ _
    | intro _ _ _ _
    | intro _ _ _
    | intro _ _
    | intro _
    | with_reducible refine Fr.pair (h := ?_) (e := by assumption)
    | with_reducible refine FrO.got (h := ?_) (e := by assumption)
    | with_reducible refine FrS.get (h := ?_) (e := by assumption)
    | with_reducible refine FrP.get (h := ?_) (e := by assumption)
    | split)

theorem State.issueReads_fr {msk : Nat} {b₀ : State} {s : State} {n : Nat} {i : Nat} {pool : Nat} {g : RdGrain} {path : RdPath} {xs : List Place} (h₀ : Fr msk b₀ s) (hm₀ : 18438 ||| msk = msk) :
    Fr msk b₀ (State.issueReads s n i pool g path xs) := by
  refine Fr.step h₀ ?_ hm₀
  clear h₀ hm₀
  unfold State.issueReads
  try dsimp only
  repeat' (first
    | with_reducible exact Fr.refl _ _
    | with_reducible assumption
    | exact (rfl : (_ : Nat) = _)
    | with_reducible refine State.setRdGrain_fr ?_ ?_
    | with_reducible refine State.sendRead_fr ?_ ?_
    | with_reducible refine Fr.foldl ?_ _ _ ?_
    | intro _ _ _)

theorem State.suspendDie_fr {msk : Nat} {b₀ : State} {s : State} {pool : Nat} {x : Place} (h₀ : Fr msk b₀ s) (hm₀ : 16390 ||| msk = msk) :
    Fr msk b₀ (State.suspendDie s pool x) := by
  refine Fr.step h₀ ?_ hm₀
  clear h₀ hm₀
  unfold State.suspendDie
  try dsimp only
  repeat' (first
    | with_reducible exact Fr.refl _ _
    | exact (rfl : (_ : Nat) = _)
    | with_reducible refine State.count_fr ?_ ?_
    | with_reducible refine State.sendMod_fr ?_ ?_
    | with_reducible refine State.setDie_fr ?_ ?_)

theorem State.chooseParity_fr {msk : Nat} {b₀ : State} {s : State} {n : Nat} {i : Nat} {g : RdGrain} {sg : Seg} {p : Pool} {k : Nat} {x : Place} (h₀ : Fr msk b₀ s) (hm₀ : 26630 ||| msk = msk) :
    Fr msk b₀ (State.chooseParity s n i g sg p k x) := by
  refine Fr.step h₀ ?_ hm₀
  clear h₀ hm₀
  unfold State.chooseParity
  try dsimp only
  repeat' (first
    | with_reducible exact Fr.refl _ _
    | exact (rfl : (_ : Nat) = _)
    | with_reducible refine State.issueReads_fr ?_ ?_
    | with_reducible refine State.startRecover_fr ?_ ?_
    | with_reducible refine State.suspendDie_fr ?_ ?_
    | with_reducible refine Fr.ite ?_ ?_
    | refine Fr.mk' ?_)

theorem execDieChoice_fr {msk : Nat} {b₀ : State} {n : Nat} {i : Nat} {s : State} (h₀ : Fr msk b₀ s) (hm₀ : 26630 ||| msk = msk) :
    FrO msk b₀ (execDieChoice n i s) := by
  refine FrO.step h₀ ?_ hm₀
  clear h₀ hm₀
  unfold execDieChoice
  try dsimp only
  repeat' (first
    | with_reducible exact Fr.refl _ _
    | exact (rfl : (_ : Nat) = _)
    | with_reducible refine State.startRecover_fr ?_ ?_
    | with_reducible refine State.issueReads_fr ?_ ?_
    | with_reducible refine State.chooseParity_fr ?_ ?_
    | with_reducible refine FrO.ite ?_ ?_
    | with_reducible refine FrO.next ?_
    | split)

theorem State.boundRecompute_fr {msk : Nat} {b₀ : State} {s : State} (h₀ : Fr msk b₀ s) (hm₀ : 4 ||| msk = msk) :
    Fr msk b₀ (State.boundRecompute s) := by
  refine Fr.step h₀ ?_ hm₀
  clear h₀ hm₀
  unfold State.boundRecompute
  try dsimp only
  repeat' (first
    | with_reducible exact Fr.refl _ _
    | exact (rfl : (_ : Nat) = _)
    | with_reducible refine State.wrN_fr ?_ ?_)

theorem State.entryCheck_fr {msk : Nat} {b₀ : State} {s : State} {unit : Nat} {format : Nat} {x : Grain} (h₀ : Fr msk b₀ s) (hm₀ : 693062 ||| msk = msk) :
    Fr msk b₀ (State.entryCheck s unit format x).1 := by
  refine Fr.step h₀ ?_ hm₀
  clear h₀ hm₀
  unfold State.entryCheck
  try dsimp only
  repeat' (first
    | with_reducible exact Fr.refl _ _
    | with_reducible assumption
    | exact (rfl : (_ : Nat) = _)
    | with_reducible refine State.decompress_fr ?_ ?_
    | dsimp only
    | with_reducible refine Fr.ite ?_ ?_
    | with_reducible refine Fr.ite₁ ?_ ?_
    | with_reducible refine FrS.ite ?_ ?_
    | with_reducible refine FrP.ite ?_ ?_
    | with_reducible exact FrS.none
    | with_reducible refine FrS.some ?_
    | with_reducible refine FrS.map ?_
    | with_reducible exact FrP.none
    | with_reducible refine FrP.some ?_
    | with_reducible refine Fr.elim ?_ ?_
    | with_reducible refine Fr.foldl ?_ _ _ ?_
    | with_reducible refine Fr.foldl₂ ?_ _ _ ?_
    | intro _ _ _ _ _ _
    | intro _ _ _ _ _
    | intro _ _ _ _
    | intro _ _ _
    | intro _ _
    | intro _
    | with_reducible refine Fr.pair (h := ?_) (e := by assumption)
    | with_reducible refine FrO.got (h := ?_) (e := by assumption)
    | with_reducible refine FrS.get (h := ?_) (e := by assumption)
    | with_reducible refine FrP.get (h := ?_) (e := by assumption)
    | split)

theorem State.tryEntry_fr {msk : Nat} {b₀ : State} {s : State} {unit : Nat} {format : Nat} {q : Nat} {i : Nat} {errs : List (Nat × Nat)} (h₀ : Fr msk b₀ s) (hm₀ : 693062 ||| msk = msk) :
    Fr msk b₀ (State.tryEntry s unit format q i errs).1 := by
  refine Fr.step h₀ ?_ hm₀
  clear h₀ hm₀
  unfold State.tryEntry
  try dsimp only
  repeat' (first
    | with_reducible exact Fr.refl _ _
    | with_reducible assumption
    | exact (rfl : (_ : Nat) = _)
    | with_reducible refine State.entryCheck_fr ?_ ?_
    | dsimp only
    | with_reducible refine Fr.ite ?_ ?_
    | with_reducible refine Fr.ite₁ ?_ ?_
    | with_reducible refine FrS.ite ?_ ?_
    | with_reducible refine FrP.ite ?_ ?_
    | with_reducible exact FrS.none
    | with_reducible refine FrS.some ?_
    | with_reducible refine FrS.map ?_
    | with_reducible exact FrP.none
    | with_reducible refine FrP.some ?_
    | with_reducible refine Fr.elim ?_ ?_
    | with_reducible refine Fr.foldl ?_ _ _ ?_
    | with_reducible refine Fr.foldl₂ ?_ _ _ ?_
    | intro _ _ _ _ _ _
    | intro _ _ _ _ _
    | intro _ _ _ _
    | intro _ _ _
    | intro _ _
    | intro _
    | with_reducible refine Fr.pair (h := ?_) (e := by assumption)
    | with_reducible refine FrO.got (h := ?_) (e := by assumption)
    | with_reducible refine FrS.get (h := ?_) (e := by assumption)
    | with_reducible refine FrP.get (h := ?_) (e := by assumption)
    | split)

theorem State.finishRead_fr {msk : Nat} {b₀ : State} {s : State} {n : Nat} (h₀ : Fr msk b₀ s) (hm₀ : 55302 ||| msk = msk) :
    Fr msk b₀ (State.finishRead s n) := by
  refine Fr.step h₀ ?_ hm₀
  clear h₀ hm₀
  unfold State.finishRead
  try dsimp only
  repeat' (first
    | with_reducible exact Fr.refl _ _
    | with_reducible assumption
    | exact (rfl : (_ : Nat) = _)
    | with_reducible refine State.event_fr ?_ ?_
    | with_reducible refine State.count_fr ?_ ?_
    | with_reducible refine State.complete_fr ?_ ?_
    | with_reducible refine State.countBy_fr ?_ ?_
    | dsimp only
    | with_reducible refine Fr.ite ?_ ?_
    | with_reducible refine Fr.ite₁ ?_ ?_
    | with_reducible refine FrS.ite ?_ ?_
    | with_reducible refine FrP.ite ?_ ?_
    | with_reducible exact FrS.none
    | with_reducible refine FrS.some ?_
    | with_reducible refine FrS.map ?_
    | with_reducible exact FrP.none
    | with_reducible refine FrP.some ?_
    | with_reducible refine Fr.elim ?_ ?_
    | with_reducible refine Fr.foldl ?_ _ _ ?_
    | with_reducible refine Fr.foldl₂ ?_ _ _ ?_
    | intro _ _ _ _ _ _
    | intro _ _ _ _ _
    | intro _ _ _ _
    | intro _ _ _
    | intro _ _
    | intro _
    | with_reducible refine Fr.pair (h := ?_) (e := by assumption)
    | with_reducible refine FrO.got (h := ?_) (e := by assumption)
    | with_reducible refine FrS.get (h := ?_) (e := by assumption)
    | with_reducible refine FrP.get (h := ?_) (e := by assumption)
    | split)

theorem State.slotFree_fr {msk : Nat} {b₀ : State} {s : State} {n : Nat} (h₀ : Fr msk b₀ s) (hm₀ : 2052 ||| msk = msk) :
    Fr msk b₀ (State.slotFree s n) := by
  refine Fr.step h₀ ?_ hm₀
  clear h₀ hm₀
  unfold State.slotFree
  try dsimp only
  repeat' (first
    | with_reducible exact Fr.refl _ _
    | with_reducible assumption
    | exact (rfl : (_ : Nat) = _)
    | with_reducible refine State.setCmd_fr ?_ ?_
    | with_reducible refine State.wrN_fr ?_ ?_
    | dsimp only
    | with_reducible refine Fr.ite ?_ ?_
    | with_reducible refine Fr.ite₁ ?_ ?_
    | with_reducible refine FrS.ite ?_ ?_
    | with_reducible refine FrP.ite ?_ ?_
    | with_reducible exact FrS.none
    | with_reducible refine FrS.some ?_
    | with_reducible refine FrS.map ?_
    | with_reducible exact FrP.none
    | with_reducible refine FrP.some ?_
    | with_reducible refine Fr.elim ?_ ?_
    | with_reducible refine Fr.foldl ?_ _ _ ?_
    | with_reducible refine Fr.foldl₂ ?_ _ _ ?_
    | intro _ _ _ _ _ _
    | intro _ _ _ _ _
    | intro _ _ _ _
    | intro _ _ _
    | intro _ _
    | intro _
    | with_reducible refine Fr.pair (h := ?_) (e := by assumption)
    | with_reducible refine FrO.got (h := ?_) (e := by assumption)
    | with_reducible refine FrS.get (h := ?_) (e := by assumption)
    | with_reducible refine FrP.get (h := ?_) (e := by assumption)
    | split
    | refine Fr.mk' ?_)

theorem State.transfer_fr {msk : Nat} {b₀ : State} {s : State} {n : Nat} {c : HostCmd} {v : Vol} {g : RdGrain} (h₀ : Fr msk b₀ s) (hm₀ : 34822 ||| msk = msk) :
    Fr msk b₀ (State.transfer s n c v g) := by
  refine Fr.step h₀ ?_ hm₀
  clear h₀ hm₀
  unfold State.transfer
  try dsimp only
  repeat' (first
    | with_reducible exact Fr.refl _ _
    | with_reducible assumption
    | exact (rfl : (_ : Nat) = _)
    | with_reducible refine State.slotFree_fr ?_ ?_
    | with_reducible refine State.tlSend_fr ?_ ?_
    | with_reducible refine State.staleDiscard_fr ?_ ?_
    | with_reducible refine State.srcSend_fr ?_ ?_
    | with_reducible refine State.emit_fr ?_ ?_
    | dsimp only
    | with_reducible refine Fr.ite ?_ ?_
    | with_reducible refine Fr.ite₁ ?_ ?_
    | with_reducible refine FrS.ite ?_ ?_
    | with_reducible refine FrP.ite ?_ ?_
    | with_reducible exact FrS.none
    | with_reducible refine FrS.some ?_
    | with_reducible refine FrS.map ?_
    | with_reducible exact FrP.none
    | with_reducible refine FrP.some ?_
    | with_reducible refine Fr.elim ?_ ?_
    | with_reducible refine Fr.foldl ?_ _ _ ?_
    | with_reducible refine Fr.foldl₂ ?_ _ _ ?_
    | intro _ _ _ _ _ _
    | intro _ _ _ _ _
    | intro _ _ _ _
    | intro _ _ _
    | intro _ _
    | intro _
    | with_reducible refine Fr.pair (h := ?_) (e := by assumption)
    | with_reducible refine FrO.got (h := ?_) (e := by assumption)
    | with_reducible refine FrS.get (h := ?_) (e := by assumption)
    | with_reducible refine FrP.get (h := ?_) (e := by assumption)
    | split)

theorem State.grainDone_fr {msk : Nat} {b₀ : State} {s : State} {n : Nat} {i : Nat} {g : RdGrain} (h₀ : Fr msk b₀ s) (hm₀ : 55302 ||| msk = msk) :
    Fr msk b₀ (State.grainDone s n i g) := by
  refine Fr.step h₀ ?_ hm₀
  clear h₀ hm₀
  unfold State.grainDone
  try dsimp only
  repeat' (first
    | with_reducible exact Fr.refl _ _
    | exact (rfl : (_ : Nat) = _)
    | with_reducible refine State.finishRead_fr ?_ ?_
    | with_reducible refine State.transfer_fr ?_ ?_
    | with_reducible refine State.setRdGrain_fr ?_ ?_
    | split)

theorem State.takeEntry_fr {msk : Nat} {b₀ : State} {s : State} {unit : Nat} {format : Nat} {own : List (Nat × List (Nat × Nat))} {mir : List (Nat × List (Nat × Nat))} {g : RdGrain} {q : Nat} (h₀ : Fr msk b₀ s) (hm₀ : 693062 ||| msk = msk) :
    Fr msk b₀ (State.takeEntry s unit format own mir g q).1 := by
  refine Fr.step h₀ ?_ hm₀
  clear h₀ hm₀
  unfold State.takeEntry
  try dsimp only
  repeat' (first
    | with_reducible exact Fr.refl _ _
    | with_reducible assumption
    | exact (rfl : (_ : Nat) = _)
    | with_reducible refine State.tryEntry_fr ?_ ?_
    | with_reducible refine State.raise_fr ?_ ?_
    | with_reducible refine State.tlSend_fr ?_ ?_
    | dsimp only
    | with_reducible refine Fr.ite ?_ ?_
    | with_reducible refine Fr.ite₁ ?_ ?_
    | with_reducible refine FrS.ite ?_ ?_
    | with_reducible refine FrP.ite ?_ ?_
    | with_reducible exact FrS.none
    | with_reducible refine FrS.some ?_
    | with_reducible refine FrS.map ?_
    | with_reducible exact FrP.none
    | with_reducible refine FrP.some ?_
    | with_reducible refine Fr.elim ?_ ?_
    | with_reducible refine Fr.foldl ?_ _ _ ?_
    | with_reducible refine Fr.foldl₂ ?_ _ _ ?_
    | intro _ _ _ _ _ _
    | intro _ _ _ _ _
    | intro _ _ _ _
    | intro _ _ _
    | intro _ _
    | intro _
    | with_reducible refine Fr.pair (h := ?_) (e := by assumption)
    | with_reducible refine FrO.got (h := ?_) (e := by assumption)
    | with_reducible refine FrS.get (h := ?_) (e := by assumption)
    | with_reducible refine FrP.get (h := ?_) (e := by assumption)
    | split)

theorem State.takeEntries_fr {msk : Nat} {b₀ : State} {s : State} {unit : Nat} {format : Nat} {own : List (Nat × List (Nat × Nat))} {mir : List (Nat × List (Nat × Nat))} {g : RdGrain} {x6 : List Nat} (h₀ : Fr msk b₀ s) (hm₀ : 693062 ||| msk = msk) :
    Fr msk b₀ (State.takeEntries s unit format own mir g x6).1 := by
  refine Fr.step h₀ ?_ hm₀
  clear h₀ hm₀
  fun_induction State.takeEntries 
  all_goals try dsimp +zetaDelta only at *
  all_goals repeat' (first
    | with_reducible exact Fr.refl _ _
    | with_reducible assumption
    | exact (rfl : (_ : Nat) = _)
    | with_reducible refine Fr.trans ?_ (by assumption)
    | with_reducible refine State.takeEntry_fr ?_ ?_
    | dsimp only
    | with_reducible refine Fr.ite ?_ ?_
    | with_reducible refine Fr.ite₁ ?_ ?_
    | with_reducible refine FrS.ite ?_ ?_
    | with_reducible refine FrP.ite ?_ ?_
    | with_reducible exact FrS.none
    | with_reducible refine FrS.some ?_
    | with_reducible refine FrS.map ?_
    | with_reducible exact FrP.none
    | with_reducible refine FrP.some ?_
    | with_reducible refine Fr.elim ?_ ?_
    | with_reducible refine Fr.foldl ?_ _ _ ?_
    | with_reducible refine Fr.foldl₂ ?_ _ _ ?_
    | intro _ _ _ _ _ _
    | intro _ _ _ _ _
    | intro _ _ _ _
    | intro _ _ _
    | intro _ _
    | intro _
    | with_reducible refine Fr.pair (h := ?_) (e := by assumption)
    | with_reducible refine FrO.got (h := ?_) (e := by assumption)
    | with_reducible refine FrS.get (h := ?_) (e := by assumption)
    | with_reducible refine FrP.get (h := ?_) (e := by assumption)
    | split)

theorem State.startRead_fr {msk : Nat} {b₀ : State} {s : State} {n : Nat} {op : HostOp} {legacy : Bool} (h₀ : Fr msk b₀ s) (hm₀ : 719686 ||| msk = msk) :
    Fr msk b₀ (State.startRead s n op legacy) := by
  refine Fr.step h₀ ?_ hm₀
  clear h₀ hm₀
  unfold State.startRead
  try dsimp only
  repeat' (first
    | with_reducible exact Fr.refl _ _
    | with_reducible assumption
    | exact (rfl : (_ : Nat) = _)
    | with_reducible refine State.complete_fr ?_ ?_
    | with_reducible refine State.setCmd_fr ?_ ?_
    | with_reducible refine State.endReads_fr ?_ ?_
    | with_reducible refine State.forward_fr ?_ ?_
    | with_reducible refine State.searchRead_fr ?_ ?_
    | with_reducible refine State.fwdTaken_fr ?_ ?_
    | dsimp only
    | with_reducible refine Fr.ite ?_ ?_
    | with_reducible refine Fr.ite₁ ?_ ?_
    | with_reducible refine FrS.ite ?_ ?_
    | with_reducible refine FrP.ite ?_ ?_
    | with_reducible exact FrS.none
    | with_reducible refine FrS.some ?_
    | with_reducible refine FrS.map ?_
    | with_reducible exact FrP.none
    | with_reducible refine FrP.some ?_
    | with_reducible refine Fr.elim ?_ ?_
    | with_reducible refine Fr.foldl ?_ _ _ ?_
    | with_reducible refine Fr.foldl₂ ?_ _ _ ?_
    | intro _ _ _ _ _ _
    | intro _ _ _ _ _
    | intro _ _ _ _
    | intro _ _ _
    | intro _ _
    | intro _
    | with_reducible refine Fr.pair (h := ?_) (e := by assumption)
    | with_reducible refine FrO.got (h := ?_) (e := by assumption)
    | with_reducible refine FrS.get (h := ?_) (e := by assumption)
    | with_reducible refine FrP.get (h := ?_) (e := by assumption)
    | split)

theorem execBasinWaitTimeout_fr {msk : Nat} {b₀ : State} {n : Nat} {s : State} (h₀ : Fr msk b₀ s) (hm₀ : 55302 ||| msk = msk) :
    FrO msk b₀ (execBasinWaitTimeout n s) := by
  refine FrO.step h₀ ?_ hm₀
  clear h₀ hm₀
  unfold execBasinWaitTimeout
  try dsimp only
  repeat' (first
    | with_reducible exact Fr.refl _ _
    | exact (rfl : (_ : Nat) = _)
    | with_reducible refine State.complete_fr ?_ ?_
    | with_reducible refine FrO.ite ?_ ?_
    | with_reducible refine FrO.next ?_
    | split)

theorem execNvmeVerify_fr {msk : Nat} {b₀ : State} {n : Nat} {s : State} (h₀ : Fr msk b₀ s) (hm₀ : 719686 ||| msk = msk) :
    FrO msk b₀ (execNvmeVerify n s) := by
  refine FrO.step h₀ ?_ hm₀
  clear h₀ hm₀
  unfold execNvmeVerify
  try dsimp only
  repeat' (first
    | with_reducible exact Fr.refl _ _
    | exact (rfl : (_ : Nat) = _)
    | with_reducible refine State.startRead_fr ?_ ?_
    | with_reducible refine FrO.next ?_)

theorem State.pageIn_fr {msk : Nat} {b₀ : State} {s : State} {n : Nat} {i : Nat} {g : RdGrain} (h₀ : Fr msk b₀ s) (hm₀ : 18432 ||| msk = msk) :
    Fr msk b₀ (State.pageIn s n i g) := by
  refine Fr.step h₀ ?_ hm₀
  clear h₀ hm₀
  unfold State.pageIn
  try dsimp only
  repeat' (first
    | with_reducible exact Fr.refl _ _
    | with_reducible assumption
    | exact (rfl : (_ : Nat) = _)
    | with_reducible refine State.setRdGrain_fr ?_ ?_
    | with_reducible refine State.unread_fr ?_ ?_
    | dsimp only
    | with_reducible refine Fr.ite ?_ ?_
    | with_reducible refine Fr.ite₁ ?_ ?_
    | with_reducible refine FrS.ite ?_ ?_
    | with_reducible refine FrP.ite ?_ ?_
    | with_reducible exact FrS.none
    | with_reducible refine FrS.some ?_
    | with_reducible refine FrS.map ?_
    | with_reducible exact FrP.none
    | with_reducible refine FrP.some ?_
    | with_reducible refine Fr.elim ?_ ?_
    | with_reducible refine Fr.foldl ?_ _ _ ?_
    | with_reducible refine Fr.foldl₂ ?_ _ _ ?_
    | intro _ _ _ _ _ _
    | intro _ _ _ _ _
    | intro _ _ _ _
    | intro _ _ _
    | intro _ _
    | intro _
    | with_reducible refine Fr.pair (h := ?_) (e := by assumption)
    | with_reducible refine FrO.got (h := ?_) (e := by assumption)
    | with_reducible refine FrS.get (h := ?_) (e := by assumption)
    | with_reducible refine FrP.get (h := ?_) (e := by assumption)
    | split)

theorem State.grainFail_fr {msk : Nat} {b₀ : State} {s : State} {n : Nat} {i : Nat} {g : RdGrain} {st : Nat} (h₀ : Fr msk b₀ s) (hm₀ : 55302 ||| msk = msk) :
    Fr msk b₀ (State.grainFail s n i g st) := by
  refine Fr.step h₀ ?_ hm₀
  clear h₀ hm₀
  unfold State.grainFail
  try dsimp only
  repeat' (first
    | with_reducible exact Fr.refl _ _
    | exact (rfl : (_ : Nat) = _)
    | with_reducible refine State.finishRead_fr ?_ ?_
    | with_reducible refine State.setRdGrain_fr ?_ ?_)

theorem State.grainLost_fr {msk : Nat} {b₀ : State} {s : State} {n : Nat} {i : Nat} {g : RdGrain} {st : Nat} (h₀ : Fr msk b₀ s) (hm₀ : 711494 ||| msk = msk) :
    Fr msk b₀ (State.grainLost s n i g st) := by
  refine Fr.step h₀ ?_ hm₀
  clear h₀ hm₀
  unfold State.grainLost
  try dsimp only
  repeat' (first
    | with_reducible exact Fr.refl _ _
    | exact (rfl : (_ : Nat) = _)
    | with_reducible refine State.grainFail_fr ?_ ?_
    | with_reducible refine State.event_fr ?_ ?_
    | with_reducible refine State.raise_fr ?_ ?_
    | with_reducible refine State.addLoss_fr ?_ ?_
    | with_reducible refine State.unread_fr ?_ ?_)

theorem State.reconstructed_fr {msk : Nat} {b₀ : State} {s : State} {a : Nat} {withQ : Bool} (h₀ : Fr msk b₀ s) (hm₀ : 709446 ||| msk = msk) :
    Fr msk b₀ (State.reconstructed s a withQ) := by
  refine Fr.step h₀ ?_ hm₀
  clear h₀ hm₀
  unfold State.reconstructed
  try dsimp only
  repeat' (first
    | with_reducible exact Fr.refl _ _
    | exact (rfl : (_ : Nat) = _)
    | with_reducible refine State.mismatch_fr ?_ ?_
    | with_reducible refine State.count_fr ?_ ?_
    | with_reducible refine Fr.ite ?_ ?_
    | split)

theorem State.reconNext_fr {msk : Nat} {b₀ : State} {s : State} {n : Nat} {i : Nat} {g : RdGrain} {sg : Seg} {kind : Nat} (h₀ : Fr msk b₀ s) (hm₀ : 711494 ||| msk = msk) :
    Fr msk b₀ (State.reconNext s n i g sg kind) := by
  refine Fr.step h₀ ?_ hm₀
  clear h₀ hm₀
  unfold State.reconNext
  try dsimp only
  repeat' (first
    | with_reducible exact Fr.refl _ _
    | with_reducible assumption
    | exact (rfl : (_ : Nat) = _)
    | with_reducible refine State.reconRead_fr ?_ ?_
    | with_reducible refine State.grainLost_fr ?_ ?_
    | dsimp only
    | with_reducible refine Fr.ite ?_ ?_
    | with_reducible refine Fr.ite₁ ?_ ?_
    | with_reducible refine FrS.ite ?_ ?_
    | with_reducible refine FrP.ite ?_ ?_
    | with_reducible exact FrS.none
    | with_reducible refine FrS.some ?_
    | with_reducible refine FrS.map ?_
    | with_reducible exact FrP.none
    | with_reducible refine FrP.some ?_
    | with_reducible refine Fr.elim ?_ ?_
    | with_reducible refine Fr.foldl ?_ _ _ ?_
    | with_reducible refine Fr.foldl₂ ?_ _ _ ?_
    | intro _ _ _ _ _ _
    | intro _ _ _ _ _
    | intro _ _ _ _
    | intro _ _ _
    | intro _ _
    | intro _
    | with_reducible refine Fr.pair (h := ?_) (e := by assumption)
    | with_reducible refine FrO.got (h := ?_) (e := by assumption)
    | with_reducible refine FrS.get (h := ?_) (e := by assumption)
    | with_reducible refine FrP.get (h := ?_) (e := by assumption)
    | split)

theorem State.storedCheck_fr {msk : Nat} {b₀ : State} {s : State} {unit : Nat} {format : Nat} {a : Nat} {x : Stored} {errs : List (Nat × Nat)} (h₀ : Fr msk b₀ s) (hm₀ : 693062 ||| msk = msk) :
    Fr msk b₀ (State.storedCheck s unit format a x errs).1 := by
  refine Fr.step h₀ ?_ hm₀
  clear h₀ hm₀
  unfold State.storedCheck
  try dsimp only
  repeat' (first
    | with_reducible exact Fr.refl _ _
    | with_reducible assumption
    | exact (rfl : (_ : Nat) = _)
    | with_reducible refine State.decompress_fr ?_ ?_
    | dsimp only
    | with_reducible refine Fr.ite ?_ ?_
    | with_reducible refine Fr.ite₁ ?_ ?_
    | with_reducible refine FrS.ite ?_ ?_
    | with_reducible refine FrP.ite ?_ ?_
    | with_reducible exact FrS.none
    | with_reducible refine FrS.some ?_
    | with_reducible refine FrS.map ?_
    | with_reducible exact FrP.none
    | with_reducible refine FrP.some ?_
    | with_reducible refine Fr.elim ?_ ?_
    | with_reducible refine Fr.foldl ?_ _ _ ?_
    | with_reducible refine Fr.foldl₂ ?_ _ _ ?_
    | intro _ _ _ _ _ _
    | intro _ _ _ _ _
    | intro _ _ _ _
    | intro _ _ _
    | intro _ _
    | intro _
    | with_reducible refine Fr.pair (h := ?_) (e := by assumption)
    | with_reducible refine FrO.got (h := ?_) (e := by assumption)
    | with_reducible refine FrS.get (h := ?_) (e := by assumption)
    | with_reducible refine FrP.get (h := ?_) (e := by assumption)
    | split)

theorem State.serveStored_fr {msk : Nat} {b₀ : State} {s : State} {n : Nat} {i : Nat} {g : RdGrain} {data : List Byte} {tags : List Nat} (h₀ : Fr msk b₀ s) (hm₀ : 55302 ||| msk = msk) :
    Fr msk b₀ (State.serveStored s n i g data tags) := by
  refine Fr.step h₀ ?_ hm₀
  clear h₀ hm₀
  unfold State.serveStored
  try dsimp only
  repeat' (first
    | with_reducible exact Fr.refl _ _
    | exact (rfl : (_ : Nat) = _)
    | with_reducible refine State.highWater_fr ?_ ?_
    | with_reducible refine State.count_fr ?_ ?_
    | with_reducible refine State.unread_fr ?_ ?_
    | with_reducible refine State.grainDone_fr ?_ ?_
    | with_reducible refine Fr.ite ?_ ?_
    | split)

theorem State.reconDone_fr {msk : Nat} {b₀ : State} {s : State} {n : Nat} {i : Nat} {g : RdGrain} {x : Stored} {places : List (List Place)} {data : List Byte} {tags : List Nat} (h₀ : Fr msk b₀ s) (hm₀ : 711494 ||| msk = msk) :
    Fr msk b₀ (State.reconDone s n i g x places data tags) := by
  refine Fr.step h₀ ?_ hm₀
  clear h₀ hm₀
  unfold State.reconDone
  try dsimp only
  repeat' (first
    | with_reducible exact Fr.refl _ _
    | with_reducible assumption
    | exact (rfl : (_ : Nat) = _)
    | with_reducible refine State.reconstructed_fr ?_ ?_
    | with_reducible refine State.raise_fr ?_ ?_
    | with_reducible refine State.serveStored_fr ?_ ?_
    | with_reducible refine State.repair_fr ?_ ?_
    | with_reducible refine State.count_fr ?_ ?_
    | dsimp only
    | with_reducible refine Fr.ite ?_ ?_
    | with_reducible refine Fr.ite₁ ?_ ?_
    | with_reducible refine FrS.ite ?_ ?_
    | with_reducible refine FrP.ite ?_ ?_
    | with_reducible exact FrS.none
    | with_reducible refine FrS.some ?_
    | with_reducible refine FrS.map ?_
    | with_reducible exact FrP.none
    | with_reducible refine FrP.some ?_
    | with_reducible refine Fr.elim ?_ ?_
    | with_reducible refine Fr.foldl ?_ _ _ ?_
    | with_reducible refine Fr.foldl₂ ?_ _ _ ?_
    | intro _ _ _ _ _ _
    | intro _ _ _ _ _
    | intro _ _ _ _
    | intro _ _ _
    | intro _ _
    | intro _
    | with_reducible refine Fr.pair (h := ?_) (e := by assumption)
    | with_reducible refine FrO.got (h := ?_) (e := by assumption)
    | with_reducible refine FrS.get (h := ?_) (e := by assumption)
    | with_reducible refine FrP.get (h := ?_) (e := by assumption)
    | split)

theorem execGrainRecovery_fr {msk : Nat} {b₀ : State} {n : Nat} {i : Nat} {unit : Nat} {errs : List (Nat × Nat)} {places : List (List Place)} {s : State} (h₀ : Fr msk b₀ s) (hm₀ : 711494 ||| msk = msk) :
    FrO msk b₀ (execGrainRecovery n i unit errs places s) := by
  refine FrO.step h₀ ?_ hm₀
  clear h₀ hm₀
  unfold execGrainRecovery
  try dsimp only
  repeat' (first
    | with_reducible exact Fr.refl _ _
    | with_reducible assumption
    | exact (rfl : (_ : Nat) = _)
    | with_reducible refine State.grainLost_fr ?_ ?_
    | with_reducible refine State.reconRead_fr ?_ ?_
    | with_reducible refine State.pageIn_fr ?_ ?_
    | with_reducible refine State.reconstructed_fr ?_ ?_
    | with_reducible refine State.reconNext_fr ?_ ?_
    | with_reducible refine State.storedCheck_fr ?_ ?_
    | with_reducible refine State.reconDone_fr ?_ ?_
    | dsimp only
    | with_reducible refine Fr.ite ?_ ?_
    | with_reducible refine Fr.ite₁ ?_ ?_
    | with_reducible refine FrO.ite ?_ ?_
    | with_reducible refine FrS.ite ?_ ?_
    | with_reducible refine FrP.ite ?_ ?_
    | with_reducible refine FrO.next ?_
    | with_reducible exact FrS.none
    | with_reducible refine FrS.some ?_
    | with_reducible refine FrS.map ?_
    | with_reducible exact FrP.none
    | with_reducible refine FrP.some ?_
    | with_reducible refine Fr.elim ?_ ?_
    | with_reducible refine Fr.foldl ?_ _ _ ?_
    | with_reducible refine Fr.foldl₂ ?_ _ _ ?_
    | intro _ _ _ _ _ _
    | intro _ _ _ _ _
    | intro _ _ _ _
    | intro _ _ _
    | intro _ _
    | intro _
    | with_reducible refine Fr.pair (h := ?_) (e := by assumption)
    | with_reducible refine FrO.got (h := ?_) (e := by assumption)
    | with_reducible refine FrS.get (h := ?_) (e := by assumption)
    | with_reducible refine FrP.get (h := ?_) (e := by assumption)
    | split)

theorem State.mapGo_fr {msk : Nat} {b₀ : State} {s : State} {n : Nat} {i : Nat} (h₀ : Fr msk b₀ s) (hm₀ : 55302 ||| msk = msk) :
    Fr msk b₀ (State.mapGo s n i) := by
  refine Fr.step h₀ ?_ hm₀
  clear h₀ hm₀
  unfold State.mapGo
  try dsimp only
  repeat' (first
    | with_reducible exact Fr.refl _ _
    | with_reducible assumption
    | exact (rfl : (_ : Nat) = _)
    | with_reducible refine State.grainDone_fr ?_ ?_
    | with_reducible refine State.count_fr ?_ ?_
    | with_reducible refine State.grainFail_fr ?_ ?_
    | with_reducible refine State.unread_fr ?_ ?_
    | with_reducible refine State.setRdGrain_fr ?_ ?_
    | dsimp only
    | with_reducible refine Fr.ite ?_ ?_
    | with_reducible refine Fr.ite₁ ?_ ?_
    | with_reducible refine FrS.ite ?_ ?_
    | with_reducible refine FrP.ite ?_ ?_
    | with_reducible exact FrS.none
    | with_reducible refine FrS.some ?_
    | with_reducible refine FrS.map ?_
    | with_reducible exact FrP.none
    | with_reducible refine FrP.some ?_
    | with_reducible refine Fr.elim ?_ ?_
    | with_reducible refine Fr.foldl ?_ _ _ ?_
    | with_reducible refine Fr.foldl₂ ?_ _ _ ?_
    | intro _ _ _ _ _ _
    | intro _ _ _ _ _
    | intro _ _ _ _
    | intro _ _ _
    | intro _ _
    | intro _
    | with_reducible refine Fr.pair (h := ?_) (e := by assumption)
    | with_reducible refine FrO.got (h := ?_) (e := by assumption)
    | with_reducible refine FrS.get (h := ?_) (e := by assumption)
    | with_reducible refine FrP.get (h := ?_) (e := by assumption)
    | split)

theorem State.mapPart_fr {msk : Nat} {b₀ : State} {s : State} {n : Nat} {part : Nat} (h₀ : Fr msk b₀ s) (hm₀ : 18432 ||| msk = msk) :
    Fr msk b₀ (State.mapPart s n part) := by
  refine Fr.step h₀ ?_ hm₀
  clear h₀ hm₀
  unfold State.mapPart
  try dsimp only
  repeat' (first
    | with_reducible exact Fr.refl _ _
    | with_reducible assumption
    | exact (rfl : (_ : Nat) = _)
    | with_reducible refine State.setSeg_fr ?_ ?_
    | with_reducible refine State.setRdGrain_fr ?_ ?_
    | dsimp only
    | with_reducible refine Fr.ite ?_ ?_
    | with_reducible refine Fr.ite₁ ?_ ?_
    | with_reducible refine FrS.ite ?_ ?_
    | with_reducible refine FrP.ite ?_ ?_
    | with_reducible exact FrS.none
    | with_reducible refine FrS.some ?_
    | with_reducible refine FrS.map ?_
    | with_reducible exact FrP.none
    | with_reducible refine FrP.some ?_
    | with_reducible refine Fr.elim ?_ ?_
    | with_reducible refine Fr.foldl ?_ _ _ ?_
    | with_reducible refine Fr.foldl₂ ?_ _ _ ?_
    | intro _ _ _ _ _ _
    | intro _ _ _ _ _
    | intro _ _ _ _
    | intro _ _ _
    | intro _ _
    | intro _
    | with_reducible refine Fr.pair (h := ?_) (e := by assumption)
    | with_reducible refine FrO.got (h := ?_) (e := by assumption)
    | with_reducible refine FrS.get (h := ?_) (e := by assumption)
    | with_reducible refine FrP.get (h := ?_) (e := by assumption)
    | split)

theorem execMapLookup_fr {msk : Nat} {b₀ : State} {n : Nat} {i : Nat} {lines : List (Nat × Nat × Nat)} {page : Option Nat} {s : State} (h₀ : Fr msk b₀ s) (hm₀ : 777030 ||| msk = msk) :
    FrO msk b₀ (execMapLookup n i lines page s) := by
  refine FrO.step h₀ ?_ hm₀
  clear h₀ hm₀
  unfold execMapLookup
  try dsimp only
  repeat' (first
    | with_reducible exact Fr.refl _ _
    | with_reducible assumption
    | exact (rfl : (_ : Nat) = _)
    | with_reducible refine State.mapGo_fr ?_ ?_
    | with_reducible refine State.setRdGrain_fr ?_ ?_
    | with_reducible refine State.setSeg_fr ?_ ?_
    | with_reducible refine State.mcTouch_fr ?_ ?_
    | with_reducible refine State.mapPart_fr ?_ ?_
    | dsimp only
    | with_reducible refine Fr.ite ?_ ?_
    | with_reducible refine Fr.ite₁ ?_ ?_
    | with_reducible refine FrO.ite ?_ ?_
    | with_reducible refine FrS.ite ?_ ?_
    | with_reducible refine FrP.ite ?_ ?_
    | with_reducible refine FrO.next ?_
    | with_reducible exact FrS.none
    | with_reducible refine FrS.some ?_
    | with_reducible refine FrS.map ?_
    | with_reducible exact FrP.none
    | with_reducible refine FrP.some ?_
    | with_reducible refine Fr.elim ?_ ?_
    | with_reducible refine Fr.foldl ?_ _ _ ?_
    | with_reducible refine Fr.foldl₂ ?_ _ _ ?_
    | intro _ _ _ _ _ _
    | intro _ _ _ _ _
    | intro _ _ _ _
    | intro _ _ _
    | intro _ _
    | intro _
    | with_reducible refine Fr.pair (h := ?_) (e := by assumption)
    | with_reducible refine FrO.got (h := ?_) (e := by assumption)
    | with_reducible refine FrS.get (h := ?_) (e := by assumption)
    | with_reducible refine FrP.get (h := ?_) (e := by assumption)
    | split)

theorem execNvmeRead_fr {msk : Nat} {b₀ : State} {n : Nat} {s : State} (h₀ : Fr msk b₀ s) (hm₀ : 719686 ||| msk = msk) :
    FrO msk b₀ (execNvmeRead n s) := by
  refine FrO.step h₀ ?_ hm₀
  clear h₀ hm₀
  unfold execNvmeRead
  try dsimp only
  repeat' (first
    | with_reducible exact Fr.refl _ _
    | exact (rfl : (_ : Nat) = _)
    | with_reducible refine State.startRead_fr ?_ ?_
    | with_reducible refine FrO.next ?_)

theorem State.collectFail_fr {msk : Nat} {b₀ : State} {s : State} {n : Nat} {i : Nat} {g : RdGrain} (h₀ : Fr msk b₀ s) (hm₀ : 18438 ||| msk = msk) :
    Fr msk b₀ (State.collectFail s n i g) := by
  refine Fr.step h₀ ?_ hm₀
  clear h₀ hm₀
  unfold State.collectFail
  try dsimp only
  repeat' (first
    | with_reducible exact Fr.refl _ _
    | exact (rfl : (_ : Nat) = _)
    | with_reducible refine State.setRdGrain_fr ?_ ?_
    | with_reducible refine State.startRecover_fr ?_ ?_
    | with_reducible refine Fr.ite ?_ ?_)

theorem execMediaReadCollect_fr {msk : Nat} {b₀ : State} {n : Nat} {i : Nat} {unit : Nat} {errs : List (Nat × Nat)} {s : State} (h₀ : Fr msk b₀ s) (hm₀ : 711494 ||| msk = msk) :
    FrO msk b₀ (execMediaReadCollect n i unit errs s) := by
  refine FrO.step h₀ ?_ hm₀
  clear h₀ hm₀
  unfold execMediaReadCollect
  try dsimp only
  repeat' (first
    | with_reducible exact Fr.refl _ _
    | with_reducible assumption
    | exact (rfl : (_ : Nat) = _)
    | with_reducible refine State.collectFail_fr ?_ ?_
    | with_reducible refine State.pageIn_fr ?_ ?_
    | with_reducible refine State.raise_fr ?_ ?_
    | with_reducible refine State.storedCheck_fr ?_ ?_
    | with_reducible refine State.serveStored_fr ?_ ?_
    | with_reducible refine State.reconstructed_fr ?_ ?_
    | with_reducible refine State.startRecover_fr ?_ ?_
    | dsimp only
    | with_reducible refine Fr.ite ?_ ?_
    | with_reducible refine Fr.ite₁ ?_ ?_
    | with_reducible refine FrO.ite ?_ ?_
    | with_reducible refine FrS.ite ?_ ?_
    | with_reducible refine FrP.ite ?_ ?_
    | with_reducible refine FrO.next ?_
    | with_reducible exact FrS.none
    | with_reducible refine FrS.some ?_
    | with_reducible refine FrS.map ?_
    | with_reducible exact FrP.none
    | with_reducible refine FrP.some ?_
    | with_reducible refine Fr.elim ?_ ?_
    | with_reducible refine Fr.foldl ?_ _ _ ?_
    | with_reducible refine Fr.foldl₂ ?_ _ _ ?_
    | intro _ _ _ _ _ _
    | intro _ _ _ _ _
    | intro _ _ _ _
    | intro _ _ _
    | intro _ _
    | intro _
    | with_reducible refine Fr.pair (h := ?_) (e := by assumption)
    | with_reducible refine FrO.got (h := ?_) (e := by assumption)
    | with_reducible refine FrS.get (h := ?_) (e := by assumption)
    | with_reducible refine FrP.get (h := ?_) (e := by assumption)
    | split)

theorem execLqRead_fr {msk : Nat} {b₀ : State} {n : Nat} {s : State} (h₀ : Fr msk b₀ s) (hm₀ : 719686 ||| msk = msk) :
    FrO msk b₀ (execLqRead n s) := by
  refine FrO.step h₀ ?_ hm₀
  clear h₀ hm₀
  unfold execLqRead
  try dsimp only
  repeat' (first
    | with_reducible exact Fr.refl _ _
    | exact (rfl : (_ : Nat) = _)
    | with_reducible refine State.startRead_fr ?_ ?_
    | with_reducible refine FrO.next ?_)

theorem execBasinSlotFree_fr {msk : Nat} {b₀ : State} {k : Nat} {s : State} (h₀ : Fr msk b₀ s) (hm₀ : 2052 ||| msk = msk) :
    FrO msk b₀ (execBasinSlotFree k s) := by
  refine FrO.step h₀ ?_ hm₀
  clear h₀ hm₀
  unfold execBasinSlotFree
  try dsimp only
  repeat' (first
    | with_reducible exact Fr.refl _ _
    | exact (rfl : (_ : Nat) = _)
    | with_reducible refine State.wrN_fr ?_ ?_
    | with_reducible refine FrO.next ?_
    | refine Fr.mk' ?_)

theorem execCisternHitRead_fr {msk : Nat} {b₀ : State} {n : Nat} {i : Nat} {unit : Nat} {own : List (Nat × List (Nat × Nat))} {mir : List (Nat × List (Nat × Nat))} {s : State} (h₀ : Fr msk b₀ s) (hm₀ : 711494 ||| msk = msk) :
    FrO msk b₀ (execCisternHitRead n i unit own mir s) := by
  refine FrO.step h₀ ?_ hm₀
  clear h₀ hm₀
  unfold execCisternHitRead
  try dsimp only
  repeat' (first
    | with_reducible exact Fr.refl _ _
    | with_reducible assumption
    | exact (rfl : (_ : Nat) = _)
    | with_reducible refine State.takeEntries_fr ?_ ?_
    | with_reducible refine State.unhold_fr ?_ ?_
    | with_reducible refine State.grainFail_fr ?_ ?_
    | with_reducible refine State.event_fr ?_ ?_
    | with_reducible refine State.raise_fr ?_ ?_
    | with_reducible refine State.count_fr ?_ ?_
    | with_reducible refine State.grainDone_fr ?_ ?_
    | with_reducible refine State.unread_fr ?_ ?_
    | with_reducible refine State.setRdGrain_fr ?_ ?_
    | dsimp only
    | with_reducible refine Fr.ite ?_ ?_
    | with_reducible refine Fr.ite₁ ?_ ?_
    | with_reducible refine FrO.ite ?_ ?_
    | with_reducible refine FrS.ite ?_ ?_
    | with_reducible refine FrP.ite ?_ ?_
    | with_reducible refine FrO.next ?_
    | with_reducible exact FrS.none
    | with_reducible refine FrS.some ?_
    | with_reducible refine FrS.map ?_
    | with_reducible exact FrP.none
    | with_reducible refine FrP.some ?_
    | with_reducible refine Fr.elim ?_ ?_
    | with_reducible refine Fr.foldl ?_ _ _ ?_
    | with_reducible refine Fr.foldl₂ ?_ _ _ ?_
    | intro _ _ _ _ _ _
    | intro _ _ _ _ _
    | intro _ _ _ _
    | intro _ _ _
    | intro _ _
    | intro _
    | with_reducible refine Fr.pair (h := ?_) (e := by assumption)
    | with_reducible refine FrO.got (h := ?_) (e := by assumption)
    | with_reducible refine FrS.get (h := ?_) (e := by assumption)
    | with_reducible refine FrP.get (h := ?_) (e := by assumption)
    | split)

theorem execLqVerify_fr {msk : Nat} {b₀ : State} {n : Nat} {s : State} (h₀ : Fr msk b₀ s) (hm₀ : 719686 ||| msk = msk) :
    FrO msk b₀ (execLqVerify n s) := by
  refine FrO.step h₀ ?_ hm₀
  clear h₀ hm₀
  unfold execLqVerify
  try dsimp only
  repeat' (first
    | with_reducible exact Fr.refl _ _
    | exact (rfl : (_ : Nat) = _)
    | with_reducible refine State.startRead_fr ?_ ?_
    | with_reducible refine FrO.next ?_)

end Sys2Proof.Machine
end

