-- ==== Sys2Proof/Laws/FrRoles.lean ====
section
/-! SUPPORT. Frames of the operations of Machine.Roles: the parts of State that each may change. -/

set_option maxRecDepth 20000
set_option Elab.async false
set_option linter.unusedTactic false
set_option linter.unreachableTactic false
set_option linter.unusedVariables false

namespace Sys2Proof.Machine

theorem execSelfFence_fr {msk : Nat} {b₀ : State} {s : State} (h₀ : Fr msk b₀ s) (hm₀ : 693062 ||| msk = msk) :
    FrO msk b₀ (execSelfFence s) := by
  refine FrO.step h₀ ?_ hm₀
  clear h₀ hm₀
  unfold execSelfFence
  try dsimp only
  repeat' (first
    | with_reducible exact Fr.refl _ _
    | exact (rfl : (_ : Nat) = _)
    | with_reducible refine State.writeDiscarded_fr ?_ ?_
    | with_reducible refine State.raise_fr ?_ ?_
    | with_reducible refine Fr.ite ?_ ?_
    | with_reducible refine FrO.next ?_)

theorem State.raiseAll_fr {msk : Nat} {b₀ : State} {s : State} {q : Nat} (h₀ : Fr msk b₀ s) (hm₀ : 49158 ||| msk = msk) :
    Fr msk b₀ (State.raiseAll s q) := by
  refine Fr.step h₀ ?_ hm₀
  clear h₀ hm₀
  unfold State.raiseAll
  try dsimp only
  repeat' (first
    | with_reducible exact Fr.refl _ _
    | with_reducible assumption
    | exact (rfl : (_ : Nat) = _)
    | with_reducible refine State.sendRaise_fr ?_ ?_
    | with_reducible refine Fr.foldl ?_ _ _ ?_
    | intro _ _ _)

theorem State.arbWin_fr {msk : Nat} {b₀ : State} {s : State} (h₀ : Fr msk b₀ s) (hm₀ : 49158 ||| msk = msk) :
    Fr msk b₀ (State.arbWin s) := by
  refine Fr.step h₀ ?_ hm₀
  clear h₀ hm₀
  unfold State.arbWin
  try dsimp only
  repeat' (first
    | with_reducible exact Fr.refl _ _
    | exact (rfl : (_ : Nat) = _)
    | with_reducible refine State.event_fr ?_ ?_
    | with_reducible refine State.putBit_fr ?_ ?_
    | with_reducible refine State.raiseAll_fr ?_ ?_
    | with_reducible refine Fr.ite ?_ ?_
    | refine Fr.mk' ?_)

theorem State.arbLose_fr {msk : Nat} {b₀ : State} {s : State} (h₀ : Fr msk b₀ s) (hm₀ : 693062 ||| msk = msk) :
    Fr msk b₀ (State.arbLose s) := by
  refine Fr.step h₀ ?_ hm₀
  clear h₀ hm₀
  unfold State.arbLose
  try dsimp only
  repeat' (first
    | with_reducible exact Fr.refl _ _
    | exact (rfl : (_ : Nat) = _)
    | with_reducible refine State.raise_fr ?_ ?_
    | with_reducible refine State.event_fr ?_ ?_)

theorem State.arbDecide_fr {msk : Nat} {b₀ : State} {s : State} (h₀ : Fr msk b₀ s) (hm₀ : 709446 ||| msk = msk) :
    Fr msk b₀ (State.arbDecide s) := by
  refine Fr.step h₀ ?_ hm₀
  clear h₀ hm₀
  unfold State.arbDecide
  try dsimp only
  repeat' (first
    | with_reducible exact Fr.refl _ _
    | exact (rfl : (_ : Nat) = _)
    | with_reducible refine State.wrN_fr ?_ ?_
    | with_reducible refine State.arbWin_fr ?_ ?_
    | with_reducible refine State.arbLose_fr ?_ ?_
    | with_reducible refine Fr.ite ?_ ?_
    | refine Fr.mk' ?_)

theorem State.failFor_fr {msk : Nat} {b₀ : State} {s : State} {q : Nat} {port : Nat} (h₀ : Fr msk b₀ s) (hm₀ : 711494 ||| msk = msk) :
    Fr msk b₀ (State.failFor s q port) := by
  refine Fr.step h₀ ?_ hm₀
  clear h₀ hm₀
  unfold State.failFor
  try dsimp only
  repeat' (first
    | with_reducible exact Fr.refl _ _
    | with_reducible assumption
    | exact (rfl : (_ : Nat) = _)
    | with_reducible refine State.memberFail_fr ?_ ?_
    | with_reducible refine Fr.ite ?_ ?_
    | with_reducible refine Fr.foldl ?_ _ _ ?_
    | intro _ _ _
    | split)

theorem State.staleSelf_fr {msk : Nat} {b₀ : State} {s : State} {q : Nat} {port : Nat} (h₀ : Fr msk b₀ s) (hm₀ : 711494 ||| msk = msk) :
    Fr msk b₀ (State.staleSelf s q port) := by
  refine Fr.step h₀ ?_ hm₀
  clear h₀ hm₀
  unfold State.staleSelf
  try dsimp only
  repeat' (first
    | with_reducible exact Fr.refl _ _
    | exact (rfl : (_ : Nat) = _)
    | with_reducible refine State.raise_fr ?_ ?_
    | with_reducible refine State.failFor_fr ?_ ?_
    | with_reducible refine Fr.ite ?_ ?_
    | refine Fr.mk' ?_)

theorem State.raiseIs_fr {msk : Nat} {b₀ : State} {s : State} {q : Nat} {port : Nat} {st : RaiseSt} (h₀ : Fr msk b₀ s) (hm₀ : 32768 ||| msk = msk) :
    Fr msk b₀ (State.raiseIs s q port st) := by
  refine Fr.step h₀ ?_ hm₀
  clear h₀ hm₀
  unfold State.raiseIs
  try dsimp only
  repeat' (first
    | with_reducible exact Fr.refl _ _
    | refine Fr.mk' ?_)

theorem State.raiseLost_fr {msk : Nat} {b₀ : State} {s : State} {q : Nat} {port : Nat} (h₀ : Fr msk b₀ s) (hm₀ : 711494 ||| msk = msk) :
    Fr msk b₀ (State.raiseLost s q port) := by
  refine Fr.step h₀ ?_ hm₀
  clear h₀ hm₀
  unfold State.raiseLost
  try dsimp only
  repeat' (first
    | with_reducible exact Fr.refl _ _
    | exact (rfl : (_ : Nat) = _)
    | with_reducible refine State.raise_fr ?_ ?_
    | with_reducible refine State.raiseIs_fr ?_ ?_
    | with_reducible refine State.arbDecide_fr ?_ ?_
    | with_reducible refine State.failFor_fr ?_ ?_
    | refine Fr.mk' ?_)

theorem State.enterTakeovers_fr {msk : Nat} {b₀ : State} {s : State} {start : DWord} (h₀ : Fr msk b₀ s) (hm₀ : 32768 ||| msk = msk) :
    Fr msk b₀ (State.enterTakeovers s start) := by
  refine Fr.step h₀ ?_ hm₀
  clear h₀ hm₀
  unfold State.enterTakeovers
  try dsimp only
  repeat' (first
    | with_reducible exact Fr.refl _ _
    | refine Fr.mk' ?_)

theorem State.anaChanged_fr {msk : Nat} {b₀ : State} {s : State} (h₀ : Fr msk b₀ s) (hm₀ : 32768 ||| msk = msk) :
    Fr msk b₀ (State.anaChanged s) := by
  refine Fr.step h₀ ?_ hm₀
  clear h₀ hm₀
  unfold State.anaChanged
  try dsimp only
  repeat' (first
    | with_reducible exact Fr.refl _ _
    | refine Fr.mk' ?_)

theorem State.setRole_fr {msk : Nat} {b₀ : State} {s : State} {r : Nat} (h₀ : Fr msk b₀ s) (hm₀ : 693062 ||| msk = msk) :
    Fr msk b₀ (State.setRole s r) := by
  refine Fr.step h₀ ?_ hm₀
  clear h₀ hm₀
  unfold State.setRole
  try dsimp only
  repeat' (first
    | with_reducible exact Fr.refl _ _
    | exact (rfl : (_ : Nat) = _)
    | with_reducible refine State.putBit_fr ?_ ?_
    | with_reducible refine State.putFld_fr ?_ ?_
    | with_reducible refine State.record_fr ?_ ?_
    | with_reducible refine State.anaChanged_fr ?_ ?_
    | with_reducible refine State.event_fr ?_ ?_
    | with_reducible refine Fr.ite ?_ ?_)

theorem State.declareLost_fr {msk : Nat} {b₀ : State} {s : State} (h₀ : Fr msk b₀ s) (hm₀ : 4 ||| msk = msk) :
    Fr msk b₀ (State.declareLost s) := by
  refine Fr.step h₀ ?_ hm₀
  clear h₀ hm₀
  unfold State.declareLost
  try dsimp only
  repeat' (first
    | with_reducible exact Fr.refl _ _
    | exact (rfl : (_ : Nat) = _)
    | with_reducible refine State.count_fr ?_ ?_
    | with_reducible refine State.event_fr ?_ ?_
    | with_reducible refine State.wr64_fr ?_ ?_
    | with_reducible refine State.putBit_fr ?_ ?_)

theorem State.takeoverStart_fr {msk : Nat} {b₀ : State} {s : State} (h₀ : Fr msk b₀ s) (hm₀ : 709446 ||| msk = msk) :
    Fr msk b₀ (State.takeoverStart s) := by
  refine Fr.step h₀ ?_ hm₀
  clear h₀ hm₀
  unfold State.takeoverStart
  try dsimp only
  repeat' (first
    | with_reducible exact Fr.refl _ _
    | with_reducible assumption
    | exact (rfl : (_ : Nat) = _)
    | with_reducible refine State.enterTakeovers_fr ?_ ?_
    | with_reducible refine State.setRole_fr ?_ ?_
    | with_reducible refine State.declareLost_fr ?_ ?_
    | with_reducible refine State.raiseAll_fr ?_ ?_
    | with_reducible refine Fr.foldl ?_ _ _ ?_
    | intro _ _ _)

theorem State.arbStart_fr {msk : Nat} {b₀ : State} {s : State} (h₀ : Fr msk b₀ s) (hm₀ : 709446 ||| msk = msk) :
    Fr msk b₀ (State.arbStart s) := by
  refine Fr.step h₀ ?_ hm₀
  clear h₀ hm₀
  unfold State.arbStart
  try dsimp only
  repeat' (first
    | with_reducible exact Fr.refl _ _
    | with_reducible assumption
    | exact (rfl : (_ : Nat) = _)
    | with_reducible refine State.setRole_fr ?_ ?_
    | with_reducible refine State.sendRaise_fr ?_ ?_
    | with_reducible refine State.wrN_fr ?_ ?_
    | with_reducible refine Fr.foldl ?_ _ _ ?_
    | intro _ _ _
    | refine Fr.mk' ?_)

theorem State.goSolo_fr {msk : Nat} {b₀ : State} {s : State} (h₀ : Fr msk b₀ s) (hm₀ : 63494 ||| msk = msk) :
    Fr msk b₀ (State.goSolo s) := by
  refine Fr.step h₀ ?_ hm₀
  clear h₀ hm₀
  unfold State.goSolo
  try dsimp only
  repeat' (first
    | with_reducible exact Fr.refl _ _
    | with_reducible assumption
    | exact (rfl : (_ : Nat) = _)
    | with_reducible refine State.putBit_fr ?_ ?_
    | with_reducible refine State.commitPart_fr ?_ ?_
    | dsimp only
    | with_reducible refine Fr.ite ?_ ?_
    | with_reducible refine Fr.ite₁ ?_ ?_
    | with_reducible refine FrS.ite ?_ ?_
    | with_reducible refine FrP.ite ?_ ?_
    | with_reducible exact FrS.none
    | with_reducible refine FrS.some ?_
    | with_reducible refine FrS.map ?_
    | with_reducible exact FrP.none
    | with_reducible refine FrP.some ?_
    | with_reducible refine Fr.elim ?_ ?_
    | with_reducible refine Fr.foldl ?_ _ _ ?_
    | with_reducible refine Fr.foldl₂ ?_ _ _ ?_
    | intro _ _ _ _ _ _
    | intro _ _ _ _ _
    | intro _ _ _ _
    | intro _ _ _
    | intro _ _
    | intro _
    | with_reducible refine Fr.pair (h := ?_) (e := by assumption)
    | with_reducible refine FrO.got (h := ?_) (e := by assumption)
    | with_reducible refine FrS.get (h := ?_) (e := by assumption)
    | with_reducible refine FrP.get (h := ?_) (e := by assumption)
    | split)

theorem State.roleEval_fr {msk : Nat} {b₀ : State} {s : State} (h₀ : Fr msk b₀ s) (hm₀ : 719686 ||| msk = msk) :
    Fr msk b₀ (State.roleEval s) := by
  refine Fr.step h₀ ?_ hm₀
  clear h₀ hm₀
  unfold State.roleEval
  try dsimp only
  repeat' (first
    | with_reducible exact Fr.refl _ _
    | with_reducible assumption
    | exact (rfl : (_ : Nat) = _)
    | with_reducible refine State.takeoverStart_fr ?_ ?_
    | with_reducible refine State.arbStart_fr ?_ ?_
    | with_reducible refine State.event_fr ?_ ?_
    | with_reducible refine State.goSolo_fr ?_ ?_
    | dsimp only
    | with_reducible refine Fr.ite ?_ ?_
    | with_reducible refine Fr.ite₁ ?_ ?_
    | with_reducible refine FrS.ite ?_ ?_
    | with_reducible refine FrP.ite ?_ ?_
    | with_reducible exact FrS.none
    | with_reducible refine FrS.some ?_
    | with_reducible refine FrS.map ?_
    | with_reducible exact FrP.none
    | with_reducible refine FrP.some ?_
    | with_reducible refine Fr.elim ?_ ?_
    | with_reducible refine Fr.foldl ?_ _ _ ?_
    | with_reducible refine Fr.foldl₂ ?_ _ _ ?_
    | intro _ _ _ _ _ _
    | intro _ _ _ _ _
    | intro _ _ _ _
    | intro _ _ _
    | intro _ _
    | intro _
    | with_reducible refine Fr.pair (h := ?_) (e := by assumption)
    | with_reducible refine FrO.got (h := ?_) (e := by assumption)
    | with_reducible refine FrS.get (h := ?_) (e := by assumption)
    | with_reducible refine FrP.get (h := ?_) (e := by assumption)
    | split
    | refine Fr.mk' ?_)

theorem State.fenceInApply_fr {msk : Nat} {b₀ : State} {s : State} (h₀ : Fr msk b₀ s) (hm₀ : 693062 ||| msk = msk) :
    Fr msk b₀ (State.fenceInApply s) := by
  refine Fr.step h₀ ?_ hm₀
  clear h₀ hm₀
  unfold State.fenceInApply
  try dsimp only
  repeat' (first
    | with_reducible exact Fr.refl _ _
    | exact (rfl : (_ : Nat) = _)
    | with_reducible refine State.raise_fr ?_ ?_
    | with_reducible refine Fr.ite ?_ ?_
    | refine Fr.mk' ?_)

theorem execTakeover_fr {msk : Nat} {b₀ : State} {s : State} (h₀ : Fr msk b₀ s) (hm₀ : 709446 ||| msk = msk) :
    FrO msk b₀ (execTakeover s) := by
  refine FrO.step h₀ ?_ hm₀
  clear h₀ hm₀
  unfold execTakeover
  try dsimp only
  repeat' (first
    | with_reducible exact Fr.refl _ _
    | exact (rfl : (_ : Nat) = _)
    | with_reducible refine State.takeoverStart_fr ?_ ?_
    | with_reducible refine Fr.ite ?_ ?_
    | with_reducible refine FrO.next ?_
    | refine Fr.mk' ?_)

theorem execFenceHead_fr {msk : Nat} {b₀ : State} {page : Nat} {code : Nat} {sub : Nat} {s : State} (h₀ : Fr msk b₀ s) (hm₀ : 693062 ||| msk = msk) :
    FrO msk b₀ (execFenceHead page code sub s) := by
  refine FrO.step h₀ ?_ hm₀
  clear h₀ hm₀
  unfold execFenceHead
  try dsimp only
  repeat' (first
    | with_reducible exact Fr.refl _ _
    | exact (rfl : (_ : Nat) = _)
    | with_reducible refine State.raise_fr ?_ ?_
    | with_reducible refine FrO.next ?_)

theorem State.holderSeen_fr {msk : Nat} {b₀ : State} {s : State} {q : Nat} {port : Nat} {epoch : Nat} {holder : Nat} (h₀ : Fr msk b₀ s) (hm₀ : 4 ||| msk = msk) :
    Fr msk b₀ (State.holderSeen s q port epoch holder) := by
  refine Fr.step h₀ ?_ hm₀
  clear h₀ hm₀
  unfold State.holderSeen
  try dsimp only
  repeat' (first
    | with_reducible exact Fr.refl _ _
    | exact (rfl : (_ : Nat) = _)
    | with_reducible refine State.putBit_fr ?_ ?_
    | with_reducible refine State.wrN_fr ?_ ?_
    | with_reducible refine State.event_fr ?_ ?_
    | with_reducible refine Fr.ite ?_ ?_
    | split)

theorem State.holdShow_fr {msk : Nat} {b₀ : State} {s : State} (h₀ : Fr msk b₀ s) (hm₀ : 4 ||| msk = msk) :
    Fr msk b₀ (State.holdShow s) := by
  refine Fr.step h₀ ?_ hm₀
  clear h₀ hm₀
  unfold State.holdShow
  try dsimp only
  repeat' (first
    | with_reducible exact Fr.refl _ _
    | exact (rfl : (_ : Nat) = _)
    | with_reducible refine State.putBit_fr ?_ ?_)

theorem State.learnEpoch_fr {msk : Nat} {b₀ : State} {s : State} {q : Nat} {port : Nat} {epoch : Nat} {holder : Nat} (h₀ : Fr msk b₀ s) (hm₀ : 32772 ||| msk = msk) :
    Fr msk b₀ (State.learnEpoch s q port epoch holder) := by
  refine Fr.step h₀ ?_ hm₀
  clear h₀ hm₀
  unfold State.learnEpoch
  try dsimp only
  repeat' (first
    | with_reducible exact Fr.refl _ _
    | exact (rfl : (_ : Nat) = _)
    | with_reducible refine State.holderSeen_fr ?_ ?_
    | with_reducible refine State.holdShow_fr ?_ ?_
    | split
    | refine Fr.mk' ?_)

theorem execTakeoverDone_fr {msk : Nat} {b₀ : State} {data : PaddockData} {s : State} (h₀ : Fr msk b₀ s) (hm₀ : 717638 ||| msk = msk) :
    FrO msk b₀ (execTakeoverDone data s) := by
  refine FrO.step h₀ ?_ hm₀
  clear h₀ hm₀
  unfold execTakeoverDone
  try dsimp only
  repeat' (first
    | with_reducible exact Fr.refl _ _
    | with_reducible assumption
    | exact (rfl : (_ : Nat) = _)
    | with_reducible refine State.recoverPaddock_fr ?_ ?_
    | with_reducible refine State.joinPaddock_fr ?_ ?_
    | with_reducible refine State.anaChanged_fr ?_ ?_
    | with_reducible refine State.event_fr ?_ ?_
    | with_reducible refine FrO.ite ?_ ?_
    | with_reducible refine FrO.next ?_
    | with_reducible refine Fr.foldl ?_ _ _ ?_
    | intro _ _ _
    | refine Fr.mk' ?_)

theorem State.raiseGranted_fr {msk : Nat} {b₀ : State} {s : State} {q : Nat} {port : Nat} {new : Nat} {toOther : Bool} (h₀ : Fr msk b₀ s) (hm₀ : 709446 ||| msk = msk) :
    Fr msk b₀ (State.raiseGranted s q port new toOther) := by
  refine Fr.step h₀ ?_ hm₀
  clear h₀ hm₀
  unfold State.raiseGranted
  try dsimp only
  repeat' (first
    | with_reducible exact Fr.refl _ _
    | exact (rfl : (_ : Nat) = _)
    | with_reducible refine State.raiseIs_fr ?_ ?_
    | with_reducible refine State.holderSeen_fr ?_ ?_
    | with_reducible refine State.arbDecide_fr ?_ ?_
    | with_reducible refine State.holdShow_fr ?_ ?_
    | split
    | refine Fr.mk' ?_)

theorem State.raiseRefused_fr {msk : Nat} {b₀ : State} {s : State} {q : Nat} {port : Nat} {cur : Nat} {holder : Nat} {toOther : Bool} {retried : Bool} (h₀ : Fr msk b₀ s) (hm₀ : 709446 ||| msk = msk) :
    Fr msk b₀ (State.raiseRefused s q port cur holder toOther retried) := by
  refine Fr.step h₀ ?_ hm₀
  clear h₀ hm₀
  unfold State.raiseRefused
  try dsimp only
  repeat' (first
    | with_reducible exact Fr.refl _ _
    | exact (rfl : (_ : Nat) = _)
    | with_reducible refine State.raise_fr ?_ ?_
    | with_reducible refine State.learnEpoch_fr ?_ ?_
    | with_reducible refine State.sendRaise_fr ?_ ?_
    | with_reducible refine State.arbDecide_fr ?_ ?_
    | with_reducible refine State.raiseIs_fr ?_ ?_
    | with_reducible refine Fr.ite ?_ ?_)

theorem execFenceInHigh_fr {msk : Nat} {b₀ : State} {s : State} (h₀ : Fr msk b₀ s) (hm₀ : 32772 ||| msk = msk) :
    FrO msk b₀ (execFenceInHigh s) := by
  refine FrO.step h₀ ?_ hm₀
  clear h₀ hm₀
  unfold execFenceInHigh
  try dsimp only
  repeat' (first
    | with_reducible exact Fr.refl _ _
    | exact (rfl : (_ : Nat) = _)
    | with_reducible refine State.putBit_fr ?_ ?_
    | with_reducible refine Fr.ite ?_ ?_
    | with_reducible refine FrO.next ?_
    | refine Fr.mk' ?_)

theorem execTlLinkDownSplit_fr {msk : Nat} {b₀ : State} {s : State} (h₀ : Fr msk b₀ s) (hm₀ : 719686 ||| msk = msk) :
    FrO msk b₀ (execTlLinkDownSplit s) := by
  refine FrO.step h₀ ?_ hm₀
  clear h₀ hm₀
  unfold execTlLinkDownSplit
  try dsimp only
  repeat' (first
    | with_reducible exact Fr.refl _ _
    | exact (rfl : (_ : Nat) = _)
    | with_reducible refine State.raise_fr ?_ ?_
    | with_reducible refine State.roleEval_fr ?_ ?_
    | with_reducible refine FrO.ite ?_ ?_
    | with_reducible refine FrO.next ?_
    | refine Fr.mk' ?_)

theorem State.adoptEntry_fr {msk : Nat} {b₀ : State} {s : State} {cseq : Nat} {p : Part} (h₀ : Fr msk b₀ s) (hm₀ : 47110 ||| msk = msk) :
    Fr msk b₀ (State.adoptEntry s cseq p) := by
  refine Fr.step h₀ ?_ hm₀
  clear h₀ hm₀
  unfold State.adoptEntry
  try dsimp only
  repeat' (first
    | with_reducible exact Fr.refl _ _
    | exact (rfl : (_ : Nat) = _)
    | with_reducible refine State.replRecord_fr ?_ ?_
    | with_reducible refine State.putPart_fr ?_ ?_
    | with_reducible refine State.setCam_fr ?_ ?_
    | with_reducible refine Fr.ite ?_ ?_
    | split)

theorem execRaiseRetry_fr {msk : Nat} {b₀ : State} {q : Nat} {port : Nat} {s : State} (h₀ : Fr msk b₀ s) (hm₀ : 49158 ||| msk = msk) :
    FrO msk b₀ (execRaiseRetry q port s) := by
  refine FrO.step h₀ ?_ hm₀
  clear h₀ hm₀
  unfold execRaiseRetry
  try dsimp only
  repeat' (first
    | with_reducible exact Fr.refl _ _
    | exact (rfl : (_ : Nat) = _)
    | with_reducible refine State.sendRaise_fr ?_ ?_
    | with_reducible refine Fr.ite ?_ ?_
    | with_reducible refine FrO.next ?_
    | split)

theorem State.modBack_fr {msk : Nat} {b₀ : State} {s : State} {q : Nat} {port : Nat} (h₀ : Fr msk b₀ s) (hm₀ : 49152 ||| msk = msk) :
    Fr msk b₀ (State.modBack s q port) := by
  refine Fr.step h₀ ?_ hm₀
  clear h₀ hm₀
  unfold State.modBack
  try dsimp only
  repeat' (first
    | with_reducible exact Fr.refl _ _
    | with_reducible refine Fr.ite ?_ ?_
    | refine Fr.mk' ?_)

theorem State.epochAdvance_fr {msk : Nat} {b₀ : State} {s : State} (h₀ : Fr msk b₀ s) (hm₀ : 49152 ||| msk = msk) :
    Fr msk b₀ (State.epochAdvance s) := by
  refine Fr.step h₀ ?_ hm₀
  clear h₀ hm₀
  unfold State.epochAdvance
  try dsimp only
  repeat' (first
    | with_reducible exact Fr.refl _ _
    | with_reducible assumption
    | exact (rfl : (_ : Nat) = _)
    | with_reducible refine State.modBack_fr ?_ ?_
    | with_reducible refine Fr.foldl ?_ _ _ ?_
    | intro _ _ _
    | refine Fr.mk' ?_)

theorem State.arbApply_fr {msk : Nat} {b₀ : State} {s : State} (h₀ : Fr msk b₀ s) (hm₀ : 709446 ||| msk = msk) :
    Fr msk b₀ (State.arbApply s) := by
  refine Fr.step h₀ ?_ hm₀
  clear h₀ hm₀
  unfold State.arbApply
  try dsimp only
  repeat' (first
    | with_reducible exact Fr.refl _ _
    | with_reducible assumption
    | exact (rfl : (_ : Nat) = _)
    | with_reducible refine State.enterTakeovers_fr ?_ ?_
    | with_reducible refine State.setRole_fr ?_ ?_
    | with_reducible refine State.declareLost_fr ?_ ?_
    | with_reducible refine State.sendRaise_fr ?_ ?_
    | with_reducible refine Fr.ite ?_ ?_
    | with_reducible refine Fr.foldl ?_ _ _ ?_
    | intro _ _ _
    | refine Fr.mk' ?_)

theorem State.partnerVols_fr {msk : Nat} {b₀ : State} {s : State} {vols : Amap Vol} (h₀ : Fr msk b₀ s) (hm₀ : 16384 ||| msk = msk) :
    Fr msk b₀ (State.partnerVols s vols) := by
  refine Fr.step h₀ ?_ hm₀
  clear h₀ hm₀
  unfold State.partnerVols
  try dsimp only
  repeat' (first
    | with_reducible exact Fr.refl _ _
    | refine Fr.mk' ?_)

theorem execJoinTandem_fr {msk : Nat} {b₀ : State} {vols : Amap Vol} {s : State} (h₀ : Fr msk b₀ s) (hm₀ : 709446 ||| msk = msk) :
    FrO msk b₀ (execJoinTandem vols s) := by
  refine FrO.step h₀ ?_ hm₀
  clear h₀ hm₀
  unfold execJoinTandem
  try dsimp only
  repeat' (first
    | with_reducible exact Fr.refl _ _
    | exact (rfl : (_ : Nat) = _)
    | with_reducible refine State.partnerVols_fr ?_ ?_
    | with_reducible refine State.setMirrorUp_fr ?_ ?_
    | with_reducible refine State.setRole_fr ?_ ?_
    | with_reducible refine FrO.ite ?_ ?_
    | with_reducible refine FrO.next ?_
    | refine Fr.mk' ?_)

theorem execFenceInFall_fr {msk : Nat} {b₀ : State} {s : State} (h₀ : Fr msk b₀ s) (hm₀ : 32772 ||| msk = msk) :
    FrO msk b₀ (execFenceInFall s) := by
  refine FrO.step h₀ ?_ hm₀
  clear h₀ hm₀
  unfold execFenceInFall
  try dsimp only
  repeat' (first
    | with_reducible exact Fr.refl _ _
    | exact (rfl : (_ : Nat) = _)
    | with_reducible refine State.putBit_fr ?_ ?_
    | with_reducible refine FrO.next ?_
    | refine Fr.mk' ?_)

theorem State.takeoverApply_fr {msk : Nat} {b₀ : State} {s : State} (h₀ : Fr msk b₀ s) (hm₀ : 63558 ||| msk = msk) :
    Fr msk b₀ (State.takeoverApply s) := by
  refine Fr.step h₀ ?_ hm₀
  clear h₀ hm₀
  unfold State.takeoverApply
  try dsimp only
  repeat' (first
    | with_reducible exact Fr.refl _ _
    | with_reducible assumption
    | exact (rfl : (_ : Nat) = _)
    | with_reducible refine State.setSync_fr ?_ ?_
    | with_reducible refine State.putBit_fr ?_ ?_
    | with_reducible refine State.goSolo_fr ?_ ?_
    | with_reducible refine State.adoptEntry_fr ?_ ?_
    | dsimp only
    | with_reducible refine Fr.ite ?_ ?_
    | with_reducible refine Fr.ite₁ ?_ ?_
    | with_reducible refine FrS.ite ?_ ?_
    | with_reducible refine FrP.ite ?_ ?_
    | with_reducible exact FrS.none
    | with_reducible refine FrS.some ?_
    | with_reducible refine FrS.map ?_
    | with_reducible exact FrP.none
    | with_reducible refine FrP.some ?_
    | with_reducible refine Fr.elim ?_ ?_
    | with_reducible refine Fr.foldl ?_ _ _ ?_
    | with_reducible refine Fr.foldl₂ ?_ _ _ ?_
    | intro _ _ _ _ _ _
    | intro _ _ _ _ _
    | intro _ _ _ _
    | intro _ _ _
    | intro _ _
    | intro _
    | with_reducible refine Fr.pair (h := ?_) (e := by assumption)
    | with_reducible refine FrO.got (h := ?_) (e := by assumption)
    | with_reducible refine FrS.get (h := ?_) (e := by assumption)
    | with_reducible refine FrP.get (h := ?_) (e := by assumption)
    | split
    | refine Fr.mk' ?_)

theorem State.fenceCommands_fr {msk : Nat} {b₀ : State} {s : State} (h₀ : Fr msk b₀ s) (hm₀ : 55302 ||| msk = msk) :
    Fr msk b₀ (State.fenceCommands s) := by
  refine Fr.step h₀ ?_ hm₀
  clear h₀ hm₀
  unfold State.fenceCommands
  try dsimp only
  repeat' (first
    | with_reducible exact Fr.refl _ _
    | exact (rfl : (_ : Nat) = _)
    | with_reducible refine State.completeAll_fr ?_ ?_)

theorem execJoinStandby_fr {msk : Nat} {b₀ : State} {vols : Amap Vol} {s : State} (h₀ : Fr msk b₀ s) (hm₀ : 717638 ||| msk = msk) :
    FrO msk b₀ (execJoinStandby vols s) := by
  refine FrO.step h₀ ?_ hm₀
  clear h₀ hm₀
  unfold execJoinStandby
  try dsimp only
  repeat' (first
    | with_reducible exact Fr.refl _ _
    | exact (rfl : (_ : Nat) = _)
    | with_reducible refine State.partnerVols_fr ?_ ?_
    | with_reducible refine State.clearPaddock_fr ?_ ?_
    | with_reducible refine State.setRole_fr ?_ ?_
    | with_reducible refine FrO.ite ?_ ?_
    | with_reducible refine FrO.next ?_
    | refine Fr.mk' ?_)

theorem execRaiseTimeout_fr {msk : Nat} {b₀ : State} {q : Nat} {port : Nat} {s : State} (h₀ : Fr msk b₀ s) (hm₀ : 711494 ||| msk = msk) :
    FrO msk b₀ (execRaiseTimeout q port s) := by
  refine FrO.step h₀ ?_ hm₀
  clear h₀ hm₀
  unfold execRaiseTimeout
  try dsimp only
  repeat' (first
    | with_reducible exact Fr.refl _ _
    | exact (rfl : (_ : Nat) = _)
    | with_reducible refine State.raiseLost_fr ?_ ?_
    | with_reducible refine Fr.ite ?_ ?_
    | with_reducible refine FrO.next ?_
    | split)

theorem execArbTieWait_fr {msk : Nat} {b₀ : State} {s : State} (h₀ : Fr msk b₀ s) (hm₀ : 709446 ||| msk = msk) :
    FrO msk b₀ (execArbTieWait s) := by
  refine FrO.step h₀ ?_ hm₀
  clear h₀ hm₀
  unfold execArbTieWait
  try dsimp only
  repeat' (first
    | with_reducible exact Fr.refl _ _
    | exact (rfl : (_ : Nat) = _)
    | with_reducible refine State.takeoverStart_fr ?_ ?_
    | with_reducible refine State.raiseAll_fr ?_ ?_
    | with_reducible refine FrO.ite ?_ ?_
    | with_reducible refine FrO.next ?_
    | split
    | refine Fr.mk' ?_)

theorem execJoinWaitTimeout_fr {msk : Nat} {b₀ : State} {s : State} (h₀ : Fr msk b₀ s) (hm₀ : 709446 ||| msk = msk) :
    FrO msk b₀ (execJoinWaitTimeout s) := by
  refine FrO.step h₀ ?_ hm₀
  clear h₀ hm₀
  unfold execJoinWaitTimeout
  try dsimp only
  repeat' (first
    | with_reducible exact Fr.refl _ _
    | exact (rfl : (_ : Nat) = _)
    | with_reducible refine State.takeoverStart_fr ?_ ?_
    | with_reducible refine Fr.ite ?_ ?_
    | with_reducible refine FrO.next ?_
    | split
    | refine Fr.mk' ?_)

theorem execFenceOutRelease_fr {msk : Nat} {b₀ : State} {s : State} (h₀ : Fr msk b₀ s) (hm₀ : 4 ||| msk = msk) :
    FrO msk b₀ (execFenceOutRelease s) := by
  refine FrO.step h₀ ?_ hm₀
  clear h₀ hm₀
  unfold execFenceOutRelease
  try dsimp only
  repeat' (first
    | with_reducible exact Fr.refl _ _
    | exact (rfl : (_ : Nat) = _)
    | with_reducible refine State.putBit_fr ?_ ?_
    | with_reducible refine Fr.ite ?_ ?_
    | with_reducible refine FrO.next ?_)

end Sys2Proof.Machine
end

