-- ==== Sys2Proof/Laws/FrRein.lean ====
section
/-! SUPPORT. Frames of the operations of Machine.Rein: the parts of State that each may change. -/

set_option maxRecDepth 20000
set_option Elab.async false
set_option linter.unusedTactic false
set_option linter.unreachableTactic false
set_option linter.unusedVariables false

namespace Sys2Proof.Machine

theorem State.beatOn_fr {msk : Nat} {b₀ : State} {s : State} {rein : Nat} (h₀ : Fr msk b₀ s) (hm₀ : 2 ||| msk = msk) :
    Fr msk b₀ (State.beatOn s rein) := by
  refine Fr.step h₀ ?_ hm₀
  clear h₀ hm₀
  unfold State.beatOn
  try dsimp only
  repeat' (first
    | with_reducible exact Fr.refl _ _
    | exact (rfl : (_ : Nat) = _)
    | with_reducible refine State.emit_fr ?_ ?_
    | with_reducible refine Fr.ite ?_ ?_)

theorem execReinSilent_fr {msk : Nat} {b₀ : State} {rein : Nat} {s : State} (h₀ : Fr msk b₀ s) (hm₀ : 719686 ||| msk = msk) :
    FrO msk b₀ (execReinSilent rein s) := by
  refine FrO.step h₀ ?_ hm₀
  clear h₀ hm₀
  unfold execReinSilent
  try dsimp only
  repeat' (first
    | with_reducible exact Fr.refl _ _
    | exact (rfl : (_ : Nat) = _)
    | with_reducible refine State.event_fr ?_ ?_
    | with_reducible refine State.putBit_fr ?_ ?_
    | with_reducible refine State.roleEval_fr ?_ ?_
    | with_reducible refine State.raise_fr ?_ ?_
    | with_reducible refine Fr.ite ?_ ?_
    | with_reducible refine FrO.ite ?_ ?_
    | with_reducible refine FrO.next ?_
    | split
    | refine Fr.mk' ?_)

theorem execReinbSyncChange_fr {msk : Nat} {b₀ : State} {sync : Bool} {s : State} (h₀ : Fr msk b₀ s) (hm₀ : 4 ||| msk = msk) :
    FrO msk b₀ (execReinbSyncChange sync s) := by
  refine FrO.step h₀ ?_ hm₀
  clear h₀ hm₀
  unfold execReinbSyncChange
  try dsimp only
  repeat' (first
    | with_reducible exact Fr.refl _ _
    | exact (rfl : (_ : Nat) = _)
    | with_reducible refine State.putBit_fr ?_ ?_
    | with_reducible refine FrO.next ?_)

theorem State.reinUp_fr {msk : Nat} {b₀ : State} {s : State} {rein : Nat} (h₀ : Fr msk b₀ s) (hm₀ : 32772 ||| msk = msk) :
    Fr msk b₀ (State.reinUp s rein) := by
  refine Fr.step h₀ ?_ hm₀
  clear h₀ hm₀
  unfold State.reinUp
  try dsimp only
  repeat' (first
    | with_reducible exact Fr.refl _ _
    | exact (rfl : (_ : Nat) = _)
    | with_reducible refine State.putBit_fr ?_ ?_
    | with_reducible refine State.event_fr ?_ ?_
    | with_reducible refine Fr.ite ?_ ?_
    | split
    | refine Fr.mk' ?_)

theorem State.reinMiss_fr {msk : Nat} {b₀ : State} {s : State} (h₀ : Fr msk b₀ s) (hm₀ : 4 ||| msk = msk) :
    Fr msk b₀ (State.reinMiss s) := by
  refine Fr.step h₀ ?_ hm₀
  clear h₀ hm₀
  unfold State.reinMiss
  try dsimp only
  repeat' (first
    | with_reducible exact Fr.refl _ _
    | exact (rfl : (_ : Nat) = _)
    | with_reducible refine State.count_fr ?_ ?_
    | with_reducible refine Fr.ite ?_ ?_)

theorem State.beatTake_fr {msk : Nat} {b₀ : State} {s : State} {rein : Nat} {b : List Byte} {own : DWord} (h₀ : Fr msk b₀ s) (hm₀ : 693062 ||| msk = msk) :
    Fr msk b₀ (State.beatTake s rein b own) := by
  refine Fr.step h₀ ?_ hm₀
  clear h₀ hm₀
  unfold State.beatTake
  try dsimp only
  repeat' (first
    | with_reducible exact Fr.refl _ _
    | exact (rfl : (_ : Nat) = _)
    | with_reducible refine State.wr64_fr ?_ ?_
    | with_reducible refine State.reinUp_fr ?_ ?_
    | with_reducible refine State.startResync_fr ?_ ?_
    | with_reducible refine State.raise_fr ?_ ?_
    | with_reducible refine Fr.ite ?_ ?_
    | split
    | refine Fr.mk' ?_)

theorem execReinBeatRx_fr {msk : Nat} {b₀ : State} {rein : Nat} {beat : List Byte} {ago : Nat} {s : State} (h₀ : Fr msk b₀ s) (hm₀ : 693062 ||| msk = msk) :
    FrO msk b₀ (execReinBeatRx rein beat ago s) := by
  refine FrO.step h₀ ?_ hm₀
  clear h₀ hm₀
  unfold execReinBeatRx
  try dsimp only
  repeat' (first
    | with_reducible exact Fr.refl _ _
    | exact (rfl : (_ : Nat) = _)
    | with_reducible refine State.beatTake_fr ?_ ?_
    | with_reducible refine State.raise_fr ?_ ?_
    | with_reducible refine State.event_fr ?_ ?_
    | with_reducible refine State.count_fr ?_ ?_
    | with_reducible refine FrO.ite ?_ ?_
    | with_reducible refine FrO.next ?_)

theorem execHeadOkInChange_fr {msk : Nat} {b₀ : State} {high : Bool} {s : State} (h₀ : Fr msk b₀ s) (hm₀ : 719686 ||| msk = msk) :
    FrO msk b₀ (execHeadOkInChange high s) := by
  refine FrO.step h₀ ?_ hm₀
  clear h₀ hm₀
  unfold execHeadOkInChange
  try dsimp only
  repeat' (first
    | with_reducible exact Fr.refl _ _
    | exact (rfl : (_ : Nat) = _)
    | with_reducible refine State.event_fr ?_ ?_
    | with_reducible refine State.putBit_fr ?_ ?_
    | with_reducible refine State.roleEval_fr ?_ ?_
    | with_reducible refine Fr.ite ?_ ?_
    | with_reducible refine FrO.ite ?_ ?_
    | with_reducible refine FrO.next ?_
    | refine Fr.mk' ?_)

theorem State.beatSend_fr {msk : Nat} {b₀ : State} {s : State} (h₀ : Fr msk b₀ s) (hm₀ : 32770 ||| msk = msk) :
    Fr msk b₀ (State.beatSend s) := by
  refine Fr.step h₀ ?_ hm₀
  clear h₀ hm₀
  unfold State.beatSend
  try dsimp only
  repeat' (first
    | with_reducible exact Fr.refl _ _
    | exact (rfl : (_ : Nat) = _)
    | with_reducible refine State.beatOn_fr ?_ ?_
    | with_reducible refine Fr.ite ?_ ?_
    | refine Fr.mk' ?_)

end Sys2Proof.Machine
end

