-- ==== Sys2Proof/Laws/FrTransfer.lean ====
section
/-! SUPPORT. Frames of the operations of Machine.Transfer: the parts of State that each may change. -/

set_option maxRecDepth 20000
set_option Elab.async false
set_option linter.unusedTactic false
set_option linter.unreachableTactic false
set_option linter.unusedVariables false

namespace Sys2Proof.Machine

theorem State.setTransfer_fr {msk : Nat} {b₀ : State} {s : State} {t : Option Transfer} (h₀ : Fr msk b₀ s) (hm₀ : 32768 ||| msk = msk) :
    Fr msk b₀ (State.setTransfer s t) := by
  refine Fr.step h₀ ?_ hm₀
  clear h₀ hm₀
  unfold State.setTransfer
  try dsimp only
  repeat' (first
    | with_reducible exact Fr.refl _ _
    | refine Fr.mk' ?_)

theorem State.holdMoving_fr {msk : Nat} {b₀ : State} {s : State} {h : Bool} (h₀ : Fr msk b₀ s) (hm₀ : 16384 ||| msk = msk) :
    Fr msk b₀ (State.holdMoving s h) := by
  refine Fr.step h₀ ?_ hm₀
  clear h₀ hm₀
  unfold State.holdMoving
  try dsimp only
  repeat' (first
    | with_reducible exact Fr.refl _ _
    | refine Fr.mk' ?_)

theorem execTransferDrainEnd_fr {msk : Nat} {b₀ : State} {s : State} (h₀ : Fr msk b₀ s) (hm₀ : 49152 ||| msk = msk) :
    FrO msk b₀ (execTransferDrainEnd s) := by
  refine FrO.step h₀ ?_ hm₀
  clear h₀ hm₀
  unfold execTransferDrainEnd
  try dsimp only
  repeat' (first
    | with_reducible exact Fr.refl _ _
    | exact (rfl : (_ : Nat) = _)
    | with_reducible refine State.setTransfer_fr ?_ ?_
    | with_reducible refine State.holdMoving_fr ?_ ?_
    | with_reducible refine Fr.ite ?_ ?_
    | with_reducible refine FrO.next ?_
    | split)

theorem State.drainStart_fr {msk : Nat} {b₀ : State} {s : State} {q : Nat} {handover : Bool} (h₀ : Fr msk b₀ s) (hm₀ : 49152 ||| msk = msk) :
    Fr msk b₀ (State.drainStart s q handover) := by
  refine Fr.step h₀ ?_ hm₀
  clear h₀ hm₀
  unfold State.drainStart
  try dsimp only
  repeat' (first
    | with_reducible exact Fr.refl _ _
    | with_reducible assumption
    | exact (rfl : (_ : Nat) = _)
    | with_reducible refine State.closeSegment_fr ?_ ?_
    | with_reducible refine Fr.foldl ?_ _ _ ?_
    | intro _ _ _
    | refine Fr.mk' ?_)

theorem State.transferRun_fr {msk : Nat} {b₀ : State} {s : State} {op : Nat} (h₀ : Fr msk b₀ s) (hm₀ : 49152 ||| msk = msk) :
    Fr msk b₀ (State.transferRun s op) := by
  refine Fr.step h₀ ?_ hm₀
  clear h₀ hm₀
  unfold State.transferRun
  try dsimp only
  repeat' (first
    | with_reducible exact Fr.refl _ _
    | exact (rfl : (_ : Nat) = _)
    | with_reducible refine State.drainStart_fr ?_ ?_)

theorem State.forwardHeld_fr {msk : Nat} {b₀ : State} {s : State} {n : Nat} (h₀ : Fr msk b₀ s) (hm₀ : 63494 ||| msk = msk) :
    Fr msk b₀ (State.forwardHeld s n) := by
  refine Fr.step h₀ ?_ hm₀
  clear h₀ hm₀
  unfold State.forwardHeld
  try dsimp only
  repeat' (first
    | with_reducible exact Fr.refl _ _
    | exact (rfl : (_ : Nat) = _)
    | with_reducible refine State.forward_fr ?_ ?_
    | with_reducible refine State.undo_fr ?_ ?_
    | with_reducible refine Fr.ite ?_ ?_
    | split)

theorem State.forwardAll_fr {msk : Nat} {b₀ : State} {s : State} (h₀ : Fr msk b₀ s) (hm₀ : 63494 ||| msk = msk) :
    Fr msk b₀ (State.forwardAll s) := by
  refine Fr.step h₀ ?_ hm₀
  clear h₀ hm₀
  unfold State.forwardAll
  try dsimp only
  repeat' (first
    | with_reducible exact Fr.refl _ _
    | with_reducible assumption
    | exact (rfl : (_ : Nat) = _)
    | with_reducible refine State.forwardHeld_fr ?_ ?_
    | with_reducible refine Fr.foldl ?_ _ _ ?_
    | intro _ _ _)

theorem State.tdAnswer_fr {msk : Nat} {b₀ : State} {s : State} {status : Nat} {queued : Bool} (h₀ : Fr msk b₀ s) (hm₀ : 4 ||| msk = msk) :
    Fr msk b₀ (State.tdAnswer s status queued) := by
  refine Fr.step h₀ ?_ hm₀
  clear h₀ hm₀
  unfold State.tdAnswer
  try dsimp only
  repeat' (first
    | with_reducible exact Fr.refl _ _
    | exact (rfl : (_ : Nat) = _)
    | with_reducible refine State.wrN_fr ?_ ?_)

theorem State.transferStart_fr {msk : Nat} {b₀ : State} {s : State} {op : Nat} (h₀ : Fr msk b₀ s) (hm₀ : 49412 ||| msk = msk) :
    Fr msk b₀ (State.transferStart s op) := by
  refine Fr.step h₀ ?_ hm₀
  clear h₀ hm₀
  unfold State.transferStart
  try dsimp only
  repeat' (first
    | with_reducible exact Fr.refl _ _
    | exact (rfl : (_ : Nat) = _)
    | with_reducible refine State.actStart_fr ?_ ?_
    | with_reducible refine State.tdAnswer_fr ?_ ?_
    | with_reducible refine State.transferRun_fr ?_ ?_
    | with_reducible refine Fr.ite ?_ ?_)

theorem State.takeEpochs_fr {msk : Nat} {b₀ : State} {s : State} {q : Nat} {eps : List Nat} (h₀ : Fr msk b₀ s) (hm₀ : 32772 ||| msk = msk) :
    Fr msk b₀ (State.takeEpochs s q eps) := by
  refine Fr.step h₀ ?_ hm₀
  clear h₀ hm₀
  unfold State.takeEpochs
  try dsimp only
  repeat' (first
    | with_reducible exact Fr.refl _ _
    | with_reducible assumption
    | exact (rfl : (_ : Nat) = _)
    | with_reducible refine State.holderSeen_fr ?_ ?_
    | with_reducible refine State.holdShow_fr ?_ ?_
    | with_reducible refine Fr.foldl ?_ _ _ ?_
    | intro _ _ _
    | refine Fr.mk' ?_)

theorem execTlTransfer_fr {msk : Nat} {b₀ : State} {paddock : Nat} {epochs : List Nat} {roots : List Nat} {data : PaddockData} {s : State} (h₀ : Fr msk b₀ s) (hm₀ : 57348 ||| msk = msk) :
    FrO msk b₀ (execTlTransfer paddock epochs roots data s) := by
  refine FrO.step h₀ ?_ hm₀
  clear h₀ hm₀
  unfold execTlTransfer
  try dsimp only
  repeat' (first
    | with_reducible exact Fr.refl _ _
    | with_reducible assumption
    | exact (rfl : (_ : Nat) = _)
    | with_reducible refine State.takeEpochs_fr ?_ ?_
    | with_reducible refine State.joinPaddock_fr ?_ ?_
    | with_reducible refine State.setPool_fr ?_ ?_
    | with_reducible refine State.setTransfer_fr ?_ ?_
    | with_reducible refine FrO.ite ?_ ?_
    | with_reducible refine FrO.next ?_
    | with_reducible refine Fr.foldl ?_ _ _ ?_
    | intro _ _ _)

theorem State.tdCommand_fr {msk : Nat} {b₀ : State} {s : State} {f : State → State} (hf : ∀ t0, Fr msk b₀ t0 → Fr msk b₀ (f t0)) (h₀ : Fr msk b₀ s) (hm₀ : 693062 ||| msk = msk) :
    FrO msk b₀ (State.tdCommand s f) := by
  unfold State.tdCommand
  try dsimp only
  repeat' (first
    | with_reducible assumption
    | with_reducible refine State.writeDiscarded_fr ?_ ?_
    | with_reducible refine hf _ ?_
    | with_reducible refine Fr.ite ?_ ?_
    | with_reducible refine FrO.next ?_)

theorem execTdCmdInvalid_fr {msk : Nat} {b₀ : State} {s : State} (h₀ : Fr msk b₀ s) (hm₀ : 693062 ||| msk = msk) :
    FrO msk b₀ (execTdCmdInvalid s) := by
  refine FrO.step h₀ ?_ hm₀
  clear h₀ hm₀
  unfold execTdCmdInvalid
  try dsimp only
  repeat' (first
    | with_reducible exact Fr.refl _ _
    | with_reducible assumption
    | exact (rfl : (_ : Nat) = _)
    | with_reducible refine State.tdCommand_fr ?_ ?_ ?_
    | with_reducible refine State.wrN_fr ?_ ?_
    | intro _ _)

theorem execTandemCplPost_fr {msk : Nat} {b₀ : State} {qpn : Nat} {cid : Nat} {tsn : Nat} {s : State} (h₀ : Fr msk b₀ s) (hm₀ : 32774 ||| msk = msk) :
    FrO msk b₀ (execTandemCplPost qpn cid tsn s) := by
  refine FrO.step h₀ ?_ hm₀
  clear h₀ hm₀
  unfold execTandemCplPost
  try dsimp only
  repeat' (first
    | with_reducible exact Fr.refl _ _
    | exact (rfl : (_ : Nat) = _)
    | with_reducible refine State.emit_fr ?_ ?_
    | with_reducible refine State.count_fr ?_ ?_
    | with_reducible refine FrO.ite ?_ ?_
    | with_reducible refine FrO.next ?_
    | refine Fr.mk' ?_)

theorem State.transferSend_fr {msk : Nat} {b₀ : State} {s : State} (h₀ : Fr msk b₀ s) (hm₀ : 57350 ||| msk = msk) :
    Fr msk b₀ (State.transferSend s) := by
  refine Fr.step h₀ ?_ hm₀
  clear h₀ hm₀
  unfold State.transferSend
  try dsimp only
  repeat' (first
    | with_reducible exact Fr.refl _ _
    | with_reducible assumption
    | exact (rfl : (_ : Nat) = _)
    | with_reducible refine State.clearPaddock_fr ?_ ?_
    | with_reducible refine State.tlSend_fr ?_ ?_
    | with_reducible refine State.setVol_fr ?_ ?_
    | with_reducible refine State.setTransfer_fr ?_ ?_
    | with_reducible refine Fr.ite ?_ ?_
    | with_reducible refine Fr.foldl ?_ _ _ ?_
    | intro _ _ _
    | split
    | refine Fr.mk' ?_)

theorem execHandover_fr {msk : Nat} {b₀ : State} {s : State} (h₀ : Fr msk b₀ s) (hm₀ : 709446 ||| msk = msk) :
    FrO msk b₀ (execHandover s) := by
  refine FrO.step h₀ ?_ hm₀
  clear h₀ hm₀
  unfold execHandover
  try dsimp only
  repeat' (first
    | with_reducible exact Fr.refl _ _
    | with_reducible assumption
    | exact (rfl : (_ : Nat) = _)
    | with_reducible refine State.tdCommand_fr ?_ ?_ ?_
    | with_reducible refine State.transferStart_fr ?_ ?_
    | with_reducible refine State.tdAnswer_fr ?_ ?_
    | with_reducible refine Fr.ite ?_ ?_
    | intro _ _)

theorem State.transferTaken_fr {msk : Nat} {b₀ : State} {s : State} (h₀ : Fr msk b₀ s) (hm₀ : 717638 ||| msk = msk) :
    Fr msk b₀ (State.transferTaken s) := by
  refine Fr.step h₀ ?_ hm₀
  clear h₀ hm₀
  unfold State.transferTaken
  try dsimp only
  repeat' (first
    | with_reducible exact Fr.refl _ _
    | exact (rfl : (_ : Nat) = _)
    | with_reducible refine State.recoverPaddock_fr ?_ ?_
    | with_reducible refine State.anaChanged_fr ?_ ?_
    | with_reducible refine State.event_fr ?_ ?_
    | with_reducible refine State.setRole_fr ?_ ?_
    | with_reducible refine Fr.ite ?_ ?_
    | split
    | refine Fr.mk' ?_)

theorem State.setTwins_fr {msk : Nat} {b₀ : State} {s : State} {t : Amap Nat} (h₀ : Fr msk b₀ s) (hm₀ : 32772 ||| msk = msk) :
    Fr msk b₀ (State.setTwins s t) := by
  refine Fr.step h₀ ?_ hm₀
  clear h₀ hm₀
  unfold State.setTwins
  try dsimp only
  repeat' (first
    | with_reducible exact Fr.refl _ _
    | exact (rfl : (_ : Nat) = _)
    | with_reducible refine State.wrN_fr ?_ ?_
    | refine Fr.mk' ?_)

theorem execTwinSet_fr {msk : Nat} {b₀ : State} {s : State} (h₀ : Fr msk b₀ s) (hm₀ : 693062 ||| msk = msk) :
    FrO msk b₀ (execTwinSet s) := by
  refine FrO.step h₀ ?_ hm₀
  clear h₀ hm₀
  unfold execTwinSet
  try dsimp only
  repeat' (first
    | with_reducible exact Fr.refl _ _
    | with_reducible assumption
    | exact (rfl : (_ : Nat) = _)
    | with_reducible refine State.tdCommand_fr ?_ ?_ ?_
    | with_reducible refine State.event_fr ?_ ?_
    | with_reducible refine State.tdAnswer_fr ?_ ?_
    | with_reducible refine State.setTwins_fr ?_ ?_
    | with_reducible refine Fr.ite ?_ ?_
    | intro _ _)

theorem State.transferGiven_fr {msk : Nat} {b₀ : State} {s : State} (h₀ : Fr msk b₀ s) (hm₀ : 719686 ||| msk = msk) :
    Fr msk b₀ (State.transferGiven s) := by
  refine Fr.step h₀ ?_ hm₀
  clear h₀ hm₀
  unfold State.transferGiven
  try dsimp only
  repeat' (first
    | with_reducible exact Fr.refl _ _
    | exact (rfl : (_ : Nat) = _)
    | with_reducible refine State.event_fr ?_ ?_
    | with_reducible refine State.actEnd_fr ?_ ?_
    | with_reducible refine State.setTransfer_fr ?_ ?_
    | with_reducible refine State.tlSend_fr ?_ ?_
    | with_reducible refine State.setRole_fr ?_ ?_
    | with_reducible refine State.forwardAll_fr ?_ ?_
    | with_reducible refine State.anaChanged_fr ?_ ?_
    | with_reducible refine Fr.ite ?_ ?_
    | split
    | refine Fr.mk' ?_)

theorem execTwinClear_fr {msk : Nat} {b₀ : State} {s : State} (h₀ : Fr msk b₀ s) (hm₀ : 693062 ||| msk = msk) :
    FrO msk b₀ (execTwinClear s) := by
  refine FrO.step h₀ ?_ hm₀
  clear h₀ hm₀
  unfold execTwinClear
  try dsimp only
  repeat' (first
    | with_reducible exact Fr.refl _ _
    | with_reducible assumption
    | exact (rfl : (_ : Nat) = _)
    | with_reducible refine State.tdCommand_fr ?_ ?_ ?_
    | with_reducible refine State.event_fr ?_ ?_
    | with_reducible refine State.tdAnswer_fr ?_ ?_
    | with_reducible refine State.setTwins_fr ?_ ?_
    | with_reducible refine Fr.ite ?_ ?_
    | intro _ _)

theorem execTransferAbort_fr {msk : Nat} {b₀ : State} {s : State} (h₀ : Fr msk b₀ s) (hm₀ : 49412 ||| msk = msk) :
    FrO msk b₀ (execTransferAbort s) := by
  refine FrO.step h₀ ?_ hm₀
  clear h₀ hm₀
  unfold execTransferAbort
  try dsimp only
  repeat' (first
    | with_reducible exact Fr.refl _ _
    | exact (rfl : (_ : Nat) = _)
    | with_reducible refine State.event_fr ?_ ?_
    | with_reducible refine State.actEnd_fr ?_ ?_
    | with_reducible refine State.setTransfer_fr ?_ ?_
    | with_reducible refine State.holdMoving_fr ?_ ?_
    | with_reducible refine FrO.ite ?_ ?_
    | with_reducible refine FrO.next ?_
    | split)

theorem execTransferHoldEnd_fr {msk : Nat} {b₀ : State} {s : State} (h₀ : Fr msk b₀ s) (hm₀ : 49152 ||| msk = msk) :
    FrO msk b₀ (execTransferHoldEnd s) := by
  refine FrO.step h₀ ?_ hm₀
  clear h₀ hm₀
  unfold execTransferHoldEnd
  try dsimp only
  repeat' (first
    | with_reducible exact Fr.refl _ _
    | with_reducible assumption
    | exact (rfl : (_ : Nat) = _)
    | with_reducible refine State.checkpointAsk_fr ?_ ?_
    | with_reducible refine State.setTransfer_fr ?_ ?_
    | dsimp only
    | with_reducible refine Fr.ite ?_ ?_
    | with_reducible refine Fr.ite₁ ?_ ?_
    | with_reducible refine FrO.ite ?_ ?_
    | with_reducible refine FrS.ite ?_ ?_
    | with_reducible refine FrP.ite ?_ ?_
    | with_reducible refine FrO.next ?_
    | with_reducible exact FrS.none
    | with_reducible refine FrS.some ?_
    | with_reducible refine FrS.map ?_
    | with_reducible exact FrP.none
    | with_reducible refine FrP.some ?_
    | with_reducible refine Fr.elim ?_ ?_
    | with_reducible refine Fr.foldl ?_ _ _ ?_
    | with_reducible refine Fr.foldl₂ ?_ _ _ ?_
    | intro _ _ _ _ _ _
    | intro _ _ _ _ _
    | intro _ _ _ _
    | intro _ _ _
    | intro _ _
    | intro _
    | with_reducible refine Fr.pair (h := ?_) (e := by assumption)
    | with_reducible refine FrO.got (h := ?_) (e := by assumption)
    | with_reducible refine FrS.get (h := ?_) (e := by assumption)
    | with_reducible refine FrP.get (h := ?_) (e := by assumption)
    | split)

theorem execTransferCheckpointEnd_fr {msk : Nat} {b₀ : State} {s : State} (h₀ : Fr msk b₀ s) (hm₀ : 49158 ||| msk = msk) :
    FrO msk b₀ (execTransferCheckpointEnd s) := by
  refine FrO.step h₀ ?_ hm₀
  clear h₀ hm₀
  unfold execTransferCheckpointEnd
  try dsimp only
  repeat' (first
    | with_reducible exact Fr.refl _ _
    | with_reducible assumption
    | exact (rfl : (_ : Nat) = _)
    | with_reducible refine State.sendRaise_fr ?_ ?_
    | with_reducible refine State.setTransfer_fr ?_ ?_
    | with_reducible refine FrO.ite ?_ ?_
    | with_reducible refine FrO.next ?_
    | with_reducible refine Fr.foldl ?_ _ _ ?_
    | intro _ _ _
    | split)

theorem execSwitchBack_fr {msk : Nat} {b₀ : State} {s : State} (h₀ : Fr msk b₀ s) (hm₀ : 709446 ||| msk = msk) :
    FrO msk b₀ (execSwitchBack s) := by
  refine FrO.step h₀ ?_ hm₀
  clear h₀ hm₀
  unfold execSwitchBack
  try dsimp only
  repeat' (first
    | with_reducible exact Fr.refl _ _
    | with_reducible assumption
    | exact (rfl : (_ : Nat) = _)
    | with_reducible refine State.tdCommand_fr ?_ ?_ ?_
    | with_reducible refine State.transferStart_fr ?_ ?_
    | with_reducible refine State.tdAnswer_fr ?_ ?_
    | with_reducible refine Fr.ite ?_ ?_
    | intro _ _)

theorem execTlLeave_fr {msk : Nat} {b₀ : State} {s : State} (h₀ : Fr msk b₀ s) (hm₀ : 32768 ||| msk = msk) :
    FrO msk b₀ (execTlLeave s) := by
  refine FrO.step h₀ ?_ hm₀
  clear h₀ hm₀
  unfold execTlLeave
  try dsimp only
  repeat' (first
    | with_reducible exact Fr.refl _ _
    | with_reducible assumption
    | exact (rfl : (_ : Nat) = _)
    | dsimp only
    | with_reducible refine Fr.ite ?_ ?_
    | with_reducible refine Fr.ite₁ ?_ ?_
    | with_reducible refine FrO.ite ?_ ?_
    | with_reducible refine FrS.ite ?_ ?_
    | with_reducible refine FrP.ite ?_ ?_
    | with_reducible refine FrO.next ?_
    | with_reducible exact FrS.none
    | with_reducible refine FrS.some ?_
    | with_reducible refine FrS.map ?_
    | with_reducible exact FrP.none
    | with_reducible refine FrP.some ?_
    | with_reducible refine Fr.elim ?_ ?_
    | with_reducible refine Fr.foldl ?_ _ _ ?_
    | with_reducible refine Fr.foldl₂ ?_ _ _ ?_
    | intro _ _ _ _ _ _
    | intro _ _ _ _ _
    | intro _ _ _ _
    | intro _ _ _
    | intro _ _
    | intro _
    | with_reducible refine Fr.pair (h := ?_) (e := by assumption)
    | with_reducible refine FrO.got (h := ?_) (e := by assumption)
    | with_reducible refine FrS.get (h := ?_) (e := by assumption)
    | with_reducible refine FrP.get (h := ?_) (e := by assumption)
    | split
    | refine Fr.mk' ?_)

end Sys2Proof.Machine
end

