-- ==== Sys2Proof/Laws/FrForward.lean ====
section
/-! SUPPORT. Frames of the operations of Machine.Forward: the parts of State that each may change. -/

set_option maxRecDepth 20000
set_option Elab.async false
set_option linter.unusedTactic false
set_option linter.unreachableTactic false
set_option linter.unusedVariables false

namespace Sys2Proof.Machine

theorem State.refSend_fr {msk : Nat} {b₀ : State} {s : State} (h₀ : Fr msk b₀ s) (hm₀ : 32774 ||| msk = msk) :
    Fr msk b₀ (State.refSend s) := by
  refine Fr.step h₀ ?_ hm₀
  clear h₀ hm₀
  unfold State.refSend
  try dsimp only
  repeat' (first
    | with_reducible exact Fr.refl _ _
    | with_reducible assumption
    | exact (rfl : (_ : Nat) = _)
    | with_reducible refine State.tlSend_fr ?_ ?_
    | with_reducible refine Fr.ite ?_ ?_
    | with_reducible refine Fr.foldl ?_ _ _ ?_
    | intro _ _ _
    | refine Fr.mk' ?_)

theorem State.refAgain_fr {msk : Nat} {b₀ : State} {s : State} (h₀ : Fr msk b₀ s) (hm₀ : 32768 ||| msk = msk) :
    Fr msk b₀ (State.refAgain s) := by
  refine Fr.step h₀ ?_ hm₀
  clear h₀ hm₀
  unfold State.refAgain
  try dsimp only
  repeat' (first
    | with_reducible exact Fr.refl _ _
    | refine Fr.mk' ?_)

theorem execTlFwdCpl_fr {msk : Nat} {b₀ : State} {id : Nat} {status : Nat} {tsn : Nat} {s : State} (h₀ : Fr msk b₀ s) (hm₀ : 55302 ||| msk = msk) :
    FrO msk b₀ (execTlFwdCpl id status tsn s) := by
  refine FrO.step h₀ ?_ hm₀
  clear h₀ hm₀
  unfold execTlFwdCpl
  try dsimp only
  repeat' (first
    | with_reducible exact Fr.refl _ _
    | exact (rfl : (_ : Nat) = _)
    | with_reducible refine State.complete_fr ?_ ?_
    | with_reducible refine FrO.next ?_
    | split
    | refine Fr.mk' ?_)

theorem execTlFwdCmd_fr {msk : Nat} {b₀ : State} {id : Nat} {img : CmdImg} {fn : Nat} {queue : Nat} {vol : Nat} {s : State} (h₀ : Fr msk b₀ s) (hm₀ : 719686 ||| msk = msk) :
    FrO msk b₀ (execTlFwdCmd id img fn queue vol s) := by
  refine FrO.step h₀ ?_ hm₀
  clear h₀ hm₀
  unfold execTlFwdCmd
  try dsimp only
  repeat' (first
    | with_reducible exact Fr.refl _ _
    | exact (rfl : (_ : Nat) = _)
    | with_reducible refine State.count_fr ?_ ?_
    | with_reducible refine State.tlSend_fr ?_ ?_
    | with_reducible refine State.newCmd_fr ?_ ?_
    | with_reducible refine State.admitCmd_fr ?_ ?_
    | with_reducible refine State.ingest_fr ?_ ?_
    | with_reducible refine State.startRead_fr ?_ ?_
    | with_reducible refine FrO.ite ?_ ?_
    | with_reducible refine FrO.next ?_
    | split
    | refine Fr.mk' ?_)

theorem execTlRefDelta_fr {msk : Nat} {b₀ : State} {changes : List RefDelta} {s : State} (h₀ : Fr msk b₀ s) (hm₀ : 16384 ||| msk = msk) :
    FrO msk b₀ (execTlRefDelta changes s) := by
  refine FrO.step h₀ ?_ hm₀
  clear h₀ hm₀
  unfold execTlRefDelta
  try dsimp only
  repeat' (first
    | with_reducible exact Fr.refl _ _
    | with_reducible assumption
    | exact (rfl : (_ : Nat) = _)
    | with_reducible refine State.addTxn_fr ?_ ?_
    | dsimp only
    | with_reducible refine Fr.ite ?_ ?_
    | with_reducible refine Fr.ite₁ ?_ ?_
    | with_reducible refine FrO.ite ?_ ?_
    | with_reducible refine FrS.ite ?_ ?_
    | with_reducible refine FrP.ite ?_ ?_
    | with_reducible refine FrO.next ?_
    | with_reducible exact FrS.none
    | with_reducible refine FrS.some ?_
    | with_reducible refine FrS.map ?_
    | with_reducible exact FrP.none
    | with_reducible refine FrP.some ?_
    | with_reducible refine Fr.elim ?_ ?_
    | with_reducible refine Fr.foldl ?_ _ _ ?_
    | with_reducible refine Fr.foldl₂ ?_ _ _ ?_
    | intro _ _ _ _ _ _
    | intro _ _ _ _ _
    | intro _ _ _ _
    | intro _ _ _
    | intro _ _
    | intro _
    | with_reducible refine Fr.pair (h := ?_) (e := by assumption)
    | with_reducible refine FrO.got (h := ?_) (e := by assumption)
    | with_reducible refine FrS.get (h := ?_) (e := by assumption)
    | with_reducible refine FrP.get (h := ?_) (e := by assumption)
    | split)

theorem execTlFwdAccept_fr {msk : Nat} {b₀ : State} {id : Nat} {s : State} (h₀ : Fr msk b₀ s) (hm₀ : 2054 ||| msk = msk) :
    FrO msk b₀ (execTlFwdAccept id s) := by
  refine FrO.step h₀ ?_ hm₀
  clear h₀ hm₀
  unfold execTlFwdAccept
  try dsimp only
  repeat' (first
    | with_reducible exact Fr.refl _ _
    | with_reducible assumption
    | exact (rfl : (_ : Nat) = _)
    | with_reducible refine State.srcSend_fr ?_ ?_
    | with_reducible refine State.emit_fr ?_ ?_
    | with_reducible refine Fr.ite ?_ ?_
    | with_reducible refine FrO.ite ?_ ?_
    | with_reducible refine FrO.next ?_
    | with_reducible refine Fr.foldl ?_ _ _ ?_
    | intro _ _ _
    | split)

theorem execFwdLinkDownTimeout_fr {msk : Nat} {b₀ : State} {id : Nat} {s : State} (h₀ : Fr msk b₀ s) (hm₀ : 55302 ||| msk = msk) :
    FrO msk b₀ (execFwdLinkDownTimeout id s) := by
  refine FrO.step h₀ ?_ hm₀
  clear h₀ hm₀
  unfold execFwdLinkDownTimeout
  try dsimp only
  repeat' (first
    | with_reducible exact Fr.refl _ _
    | exact (rfl : (_ : Nat) = _)
    | with_reducible refine State.complete_fr ?_ ?_
    | with_reducible refine FrO.ite ?_ ?_
    | with_reducible refine FrO.next ?_
    | split
    | refine Fr.mk' ?_)

theorem execTlClosed_fr {msk : Nat} {b₀ : State} {batch : Nat} {s : State} (h₀ : Fr msk b₀ s) (hm₀ : 32768 ||| msk = msk) :
    FrO msk b₀ (execTlClosed batch s) := by
  refine FrO.step h₀ ?_ hm₀
  clear h₀ hm₀
  unfold execTlClosed
  try dsimp only
  repeat' (first
    | with_reducible exact Fr.refl _ _
    | with_reducible assumption
    | exact (rfl : (_ : Nat) = _)
    | dsimp only
    | with_reducible refine Fr.ite ?_ ?_
    | with_reducible refine Fr.ite₁ ?_ ?_
    | with_reducible refine FrO.ite ?_ ?_
    | with_reducible refine FrS.ite ?_ ?_
    | with_reducible refine FrP.ite ?_ ?_
    | with_reducible refine FrO.next ?_
    | with_reducible exact FrS.none
    | with_reducible refine FrS.some ?_
    | with_reducible refine FrS.map ?_
    | with_reducible exact FrP.none
    | with_reducible refine FrP.some ?_
    | with_reducible refine Fr.elim ?_ ?_
    | with_reducible refine Fr.foldl ?_ _ _ ?_
    | with_reducible refine Fr.foldl₂ ?_ _ _ ?_
    | intro _ _ _ _ _ _
    | intro _ _ _ _ _
    | intro _ _ _ _
    | intro _ _ _
    | intro _ _
    | intro _
    | with_reducible refine Fr.pair (h := ?_) (e := by assumption)
    | with_reducible refine FrO.got (h := ?_) (e := by assumption)
    | with_reducible refine FrS.get (h := ?_) (e := by assumption)
    | with_reducible refine FrP.get (h := ?_) (e := by assumption)
    | split
    | refine Fr.mk' ?_)

theorem execTlSubst_fr {msk : Nat} {b₀ : State} {pool : Nat} {paddock : Nat} {module : Nat} {port : Nat} {serial : Nat} {s : State} (h₀ : Fr msk b₀ s) (hm₀ : 49152 ||| msk = msk) :
    FrO msk b₀ (execTlSubst pool paddock module port serial s) := by
  refine FrO.step h₀ ?_ hm₀
  clear h₀ hm₀
  unfold execTlSubst
  try dsimp only
  repeat' (first
    | with_reducible exact Fr.refl _ _
    | with_reducible assumption
    | exact (rfl : (_ : Nat) = _)
    | with_reducible refine State.setPool_fr ?_ ?_
    | dsimp only
    | with_reducible refine Fr.ite ?_ ?_
    | with_reducible refine Fr.ite₁ ?_ ?_
    | with_reducible refine FrO.ite ?_ ?_
    | with_reducible refine FrS.ite ?_ ?_
    | with_reducible refine FrP.ite ?_ ?_
    | with_reducible refine FrO.next ?_
    | with_reducible exact FrS.none
    | with_reducible refine FrS.some ?_
    | with_reducible refine FrS.map ?_
    | with_reducible exact FrP.none
    | with_reducible refine FrP.some ?_
    | with_reducible refine Fr.elim ?_ ?_
    | with_reducible refine Fr.foldl ?_ _ _ ?_
    | with_reducible refine Fr.foldl₂ ?_ _ _ ?_
    | intro _ _ _ _ _ _
    | intro _ _ _ _ _
    | intro _ _ _ _
    | intro _ _ _
    | intro _ _
    | intro _
    | with_reducible refine Fr.pair (h := ?_) (e := by assumption)
    | with_reducible refine FrO.got (h := ?_) (e := by assumption)
    | with_reducible refine FrS.get (h := ?_) (e := by assumption)
    | with_reducible refine FrP.get (h := ?_) (e := by assumption)
    | split
    | refine Fr.mk' ?_)

theorem execTlRefAck_fr {msk : Nat} {b₀ : State} {tseq : Nat} {s : State} (h₀ : Fr msk b₀ s) (hm₀ : 32768 ||| msk = msk) :
    FrO msk b₀ (execTlRefAck tseq s) := by
  refine FrO.step h₀ ?_ hm₀
  clear h₀ hm₀
  unfold execTlRefAck
  try dsimp only
  repeat' (first
    | with_reducible exact Fr.refl _ _
    | with_reducible refine Fr.ite ?_ ?_
    | with_reducible refine FrO.next ?_
    | refine Fr.mk' ?_)

theorem execTlFwdData_fr {msk : Nat} {b₀ : State} {id : Nat} {index : Nat} {mask : Nat} {data : List Byte} {pi : List (Nat × Nat × Nat)} {after : Nat} {unit : Nat} {bad : Nat} {units : List Nat} {s : State} (h₀ : Fr msk b₀ s) (hm₀ : 719686 ||| msk = msk) :
    FrO msk b₀ (execTlFwdData id index mask data pi after unit bad units s) := by
  refine FrO.step h₀ ?_ hm₀
  clear h₀ hm₀
  unfold execTlFwdData
  try dsimp only
  repeat' (first
    | with_reducible exact Fr.refl _ _
    | with_reducible assumption
    | exact (rfl : (_ : Nat) = _)
    | with_reducible refine execDataArrive_fr ?_ ?_
    | with_reducible refine State.slotFree_fr ?_ ?_
    | with_reducible refine State.staleDiscard_fr ?_ ?_
    | with_reducible refine State.srcSend_fr ?_ ?_
    | with_reducible refine State.emit_fr ?_ ?_
    | dsimp only
    | with_reducible refine Fr.ite ?_ ?_
    | with_reducible refine Fr.ite₁ ?_ ?_
    | with_reducible refine FrO.ite ?_ ?_
    | with_reducible refine FrS.ite ?_ ?_
    | with_reducible refine FrP.ite ?_ ?_
    | with_reducible refine FrO.next ?_
    | with_reducible exact FrS.none
    | with_reducible refine FrS.some ?_
    | with_reducible refine FrS.map ?_
    | with_reducible exact FrP.none
    | with_reducible refine FrP.some ?_
    | with_reducible refine Fr.elim ?_ ?_
    | with_reducible refine Fr.foldl ?_ _ _ ?_
    | with_reducible refine Fr.foldl₂ ?_ _ _ ?_
    | intro _ _ _ _ _ _
    | intro _ _ _ _ _
    | intro _ _ _ _
    | intro _ _ _
    | intro _ _
    | intro _
    | with_reducible refine Fr.pair (h := ?_) (e := by assumption)
    | with_reducible refine FrO.got (h := ?_) (e := by assumption)
    | with_reducible refine FrS.get (h := ?_) (e := by assumption)
    | with_reducible refine FrP.get (h := ?_) (e := by assumption)
    | split)

end Sys2Proof.Machine
end

