-- ==== Sys2Proof/Laws/FrLinks.lean ====
section
/-! SUPPORT. Frames of the operations of Machine.Links: the parts of State that each may change. -/

set_option maxRecDepth 20000
set_option Elab.async false
set_option linter.unusedTactic false
set_option linter.unreachableTactic false
set_option linter.unusedVariables false

namespace Sys2Proof.Machine

theorem State.setFlitLink_fr {msk : Nat} {b₀ : State} {s : State} {k : LinkEnd} {l : FlitLink} (h₀ : Fr msk b₀ s) (hm₀ : 49152 ||| msk = msk) :
    Fr msk b₀ (State.setFlitLink s k l) := by
  refine Fr.step h₀ ?_ hm₀
  clear h₀ hm₀
  unfold State.setFlitLink
  try dsimp only
  repeat' (first
    | with_reducible exact Fr.refl _ _
    | exact (rfl : (_ : Nat) = _)
    | with_reducible refine State.setMlink_fr ?_ ?_
    | with_reducible refine State.setTl_fr ?_ ?_
    | split)

theorem State.setLinkState_fr {msk : Nat} {b₀ : State} {s : State} {k : LinkEnd} {st : Nat} (h₀ : Fr msk b₀ s) (hm₀ : 49156 ||| msk = msk) :
    Fr msk b₀ (State.setLinkState s k st) := by
  refine Fr.step h₀ ?_ hm₀
  clear h₀ hm₀
  unfold State.setLinkState
  try dsimp only
  repeat' (first
    | with_reducible exact Fr.refl _ _
    | exact (rfl : (_ : Nat) = _)
    | with_reducible refine State.putFld_fr ?_ ?_
    | with_reducible refine State.setFlitLink_fr ?_ ?_)

theorem State.showSpares_fr {msk : Nat} {b₀ : State} {s : State} {k : LinkEnd} (h₀ : Fr msk b₀ s) (hm₀ : 4 ||| msk = msk) :
    Fr msk b₀ (State.showSpares s k) := by
  refine Fr.step h₀ ?_ hm₀
  clear h₀ hm₀
  unfold State.showSpares
  try dsimp only
  repeat' (first
    | with_reducible exact Fr.refl _ _
    | exact (rfl : (_ : Nat) = _)
    | with_reducible refine State.putFld_fr ?_ ?_
    | split)

theorem State.lostCommand_fr {msk : Nat} {b₀ : State} {s : State} {port : Nat} {m : Nat} {c : ModCmd} (h₀ : Fr msk b₀ s) (hm₀ : 719686 ||| msk = msk) :
    Fr msk b₀ (State.lostCommand s port m c) := by
  refine Fr.step h₀ ?_ hm₀
  clear h₀ hm₀
  unfold State.lostCommand
  try dsimp only
  repeat' (first
    | with_reducible exact Fr.refl _ _
    | with_reducible assumption
    | exact (rfl : (_ : Nat) = _)
    | with_reducible refine State.raiseLost_fr ?_ ?_
    | with_reducible refine State.stripeAnswer_fr ?_ ?_
    | with_reducible refine State.journalFail_fr ?_ ?_
    | with_reducible refine State.rootAnswer_fr ?_ ?_
    | with_reducible refine State.readAnswer_fr ?_ ?_
    | with_reducible refine State.setSeg_fr ?_ ?_
    | dsimp only
    | with_reducible refine Fr.ite ?_ ?_
    | with_reducible refine Fr.ite₁ ?_ ?_
    | with_reducible refine FrS.ite ?_ ?_
    | with_reducible refine FrP.ite ?_ ?_
    | with_reducible exact FrS.none
    | with_reducible refine FrS.some ?_
    | with_reducible refine FrS.map ?_
    | with_reducible exact FrP.none
    | with_reducible refine FrP.some ?_
    | with_reducible refine Fr.elim ?_ ?_
    | with_reducible refine Fr.foldl ?_ _ _ ?_
    | with_reducible refine Fr.foldl₂ ?_ _ _ ?_
    | intro _ _ _ _ _ _
    | intro _ _ _ _ _
    | intro _ _ _ _
    | intro _ _ _
    | intro _ _
    | intro _
    | with_reducible refine Fr.pair (h := ?_) (e := by assumption)
    | with_reducible refine FrO.got (h := ?_) (e := by assumption)
    | with_reducible refine FrS.get (h := ?_) (e := by assumption)
    | with_reducible refine FrP.get (h := ?_) (e := by assumption)
    | split)

theorem State.moduleDown_fr {msk : Nat} {b₀ : State} {s : State} {port : Nat} (h₀ : Fr msk b₀ s) (hm₀ : 719686 ||| msk = msk) :
    Fr msk b₀ (State.moduleDown s port) := by
  refine Fr.step h₀ ?_ hm₀
  clear h₀ hm₀
  unfold State.moduleDown
  try dsimp only
  repeat' (first
    | with_reducible exact Fr.refl _ _
    | with_reducible assumption
    | exact (rfl : (_ : Nat) = _)
    | with_reducible refine State.putFld_fr ?_ ?_
    | with_reducible refine State.setMlink_fr ?_ ?_
    | with_reducible refine State.event_fr ?_ ?_
    | with_reducible refine State.showSpares_fr ?_ ?_
    | with_reducible refine State.lostCommand_fr ?_ ?_
    | with_reducible refine Fr.foldl ?_ _ _ ?_
    | intro _ _ _)

theorem State.torluxDown_fr {msk : Nat} {b₀ : State} {s : State} (h₀ : Fr msk b₀ s) (hm₀ : 32772 ||| msk = msk) :
    Fr msk b₀ (State.torluxDown s) := by
  refine Fr.step h₀ ?_ hm₀
  clear h₀ hm₀
  unfold State.torluxDown
  try dsimp only
  repeat' (first
    | with_reducible exact Fr.refl _ _
    | exact (rfl : (_ : Nat) = _)
    | with_reducible refine State.event_fr ?_ ?_
    | with_reducible refine State.showSpares_fr ?_ ?_
    | with_reducible refine State.putFld_fr ?_ ?_
    | refine Fr.mk' ?_)

theorem State.linkGoesDown_fr {msk : Nat} {b₀ : State} {s : State} {k : LinkEnd} (h₀ : Fr msk b₀ s) (hm₀ : 719686 ||| msk = msk) :
    Fr msk b₀ (State.linkGoesDown s k) := by
  refine Fr.step h₀ ?_ hm₀
  clear h₀ hm₀
  unfold State.linkGoesDown
  try dsimp only
  repeat' (first
    | with_reducible exact Fr.refl _ _
    | exact (rfl : (_ : Nat) = _)
    | with_reducible refine State.moduleDown_fr ?_ ?_
    | with_reducible refine State.torluxDown_fr ?_ ?_
    | with_reducible refine Fr.ite ?_ ?_
    | split)

theorem State.linkErr_fr {msk : Nat} {b₀ : State} {s : State} {k : LinkEnd} {e : LinkErr} {sub : Nat} {injected : optParam Bool Bool.false} (h₀ : Fr msk b₀ s) (hm₀ : 693062 ||| msk = msk) :
    Fr msk b₀ (State.linkErr s k e sub injected) := by
  refine Fr.step h₀ ?_ hm₀
  clear h₀ hm₀
  unfold State.linkErr
  try dsimp only
  repeat' (first
    | with_reducible exact Fr.refl _ _
    | exact (rfl : (_ : Nat) = _)
    | with_reducible refine State.raise_fr ?_ ?_)

theorem State.linkPump_fr {msk : Nat} {b₀ : State} {s : State} {x1 : LinkEnd} (h₀ : Fr msk b₀ s) (hm₀ : 49158 ||| msk = msk) :
    Fr msk b₀ (State.linkPump s x1) := by
  refine Fr.step h₀ ?_ hm₀
  clear h₀ hm₀
  unfold State.linkPump
  try dsimp only
  repeat' (first
    | with_reducible exact Fr.refl _ _
    | exact (rfl : (_ : Nat) = _)
    | with_reducible refine State.pump_fr ?_ ?_
    | with_reducible refine State.tlPump_fr ?_ ?_
    | split)

theorem State.torluxUp_fr {msk : Nat} {b₀ : State} {s : State} (h₀ : Fr msk b₀ s) (hm₀ : 49158 ||| msk = msk) :
    Fr msk b₀ (State.torluxUp s) := by
  refine Fr.step h₀ ?_ hm₀
  clear h₀ hm₀
  unfold State.torluxUp
  try dsimp only
  repeat' (first
    | with_reducible exact Fr.refl _ _
    | exact (rfl : (_ : Nat) = _)
    | with_reducible refine State.refAgain_fr ?_ ?_
    | with_reducible refine State.event_fr ?_ ?_
    | with_reducible refine State.setLinkState_fr ?_ ?_
    | with_reducible refine State.linkPump_fr ?_ ?_
    | refine Fr.mk' ?_)

theorem State.torluxInit_fr {msk : Nat} {b₀ : State} {s : State} {x : InitMsg} (h₀ : Fr msk b₀ s) (hm₀ : 719686 ||| msk = msk) :
    Fr msk b₀ (State.torluxInit s x) := by
  refine Fr.step h₀ ?_ hm₀
  clear h₀ hm₀
  unfold State.torluxInit
  try dsimp only
  repeat' (first
    | with_reducible exact Fr.refl _ _
    | exact (rfl : (_ : Nat) = _)
    | with_reducible refine State.wrN_fr ?_ ?_
    | with_reducible refine State.linkGoesDown_fr ?_ ?_
    | with_reducible refine State.linkErr_fr ?_ ?_
    | with_reducible refine State.raise_fr ?_ ?_
    | with_reducible refine State.torluxUp_fr ?_ ?_
    | with_reducible refine Fr.ite ?_ ?_
    | refine Fr.mk' ?_)

theorem State.takeCredits_fr {msk : Nat} {b₀ : State} {s : State} {k : LinkEnd} {x : InitMsg} (h₀ : Fr msk b₀ s) (hm₀ : 49152 ||| msk = msk) :
    Fr msk b₀ (State.takeCredits s k x) := by
  refine Fr.step h₀ ?_ hm₀
  clear h₀ hm₀
  unfold State.takeCredits
  try dsimp only
  repeat' (first
    | with_reducible exact Fr.refl _ _
    | exact (rfl : (_ : Nat) = _)
    | with_reducible refine State.setFlitLink_fr ?_ ?_)

theorem State.setCarry_fr {msk : Nat} {b₀ : State} {s : State} {k : LinkEnd} {on : List Nat} {spare : List Nat} (h₀ : Fr msk b₀ s) (hm₀ : 49156 ||| msk = msk) :
    Fr msk b₀ (State.setCarry s k on spare) := by
  refine Fr.step h₀ ?_ hm₀
  clear h₀ hm₀
  unfold State.setCarry
  try dsimp only
  repeat' (first
    | with_reducible exact Fr.refl _ _
    | exact (rfl : (_ : Nat) = _)
    | with_reducible refine State.showSpares_fr ?_ ?_
    | with_reducible refine State.setFlitLink_fr ?_ ?_)

theorem State.sendControl_fr {msk : Nat} {b₀ : State} {s : State} {k : LinkEnd} {ctype : Nat} {body : List Byte} (h₀ : Fr msk b₀ s) (hm₀ : 49158 ||| msk = msk) :
    Fr msk b₀ (State.sendControl s k ctype body) := by
  refine Fr.step h₀ ?_ hm₀
  clear h₀ hm₀
  unfold State.sendControl
  try dsimp only
  repeat' (first
    | with_reducible exact Fr.refl _ _
    | with_reducible assumption
    | exact (rfl : (_ : Nat) = _)
    | with_reducible refine State.emit_fr ?_ ?_
    | with_reducible refine State.flitsSent_fr ?_ ?_
    | with_reducible refine State.setFlitLink_fr ?_ ?_
    | dsimp only
    | with_reducible refine Fr.ite ?_ ?_
    | with_reducible refine Fr.ite₁ ?_ ?_
    | with_reducible refine FrS.ite ?_ ?_
    | with_reducible refine FrP.ite ?_ ?_
    | with_reducible exact FrS.none
    | with_reducible refine FrS.some ?_
    | with_reducible refine FrS.map ?_
    | with_reducible exact FrP.none
    | with_reducible refine FrP.some ?_
    | with_reducible refine Fr.elim ?_ ?_
    | with_reducible refine Fr.foldl ?_ _ _ ?_
    | with_reducible refine Fr.foldl₂ ?_ _ _ ?_
    | intro _ _ _ _ _ _
    | intro _ _ _ _ _
    | intro _ _ _ _
    | intro _ _ _
    | intro _ _
    | intro _
    | with_reducible refine Fr.pair (h := ?_) (e := by assumption)
    | with_reducible refine FrO.got (h := ?_) (e := by assumption)
    | with_reducible refine FrS.get (h := ?_) (e := by assumption)
    | with_reducible refine FrP.get (h := ?_) (e := by assumption)
    | split)

theorem State.linkInit_fr {msk : Nat} {b₀ : State} {s : State} {k : LinkEnd} {good : List Nat} (h₀ : Fr msk b₀ s) (hm₀ : 49158 ||| msk = msk) :
    Fr msk b₀ (State.linkInit s k good) := by
  refine Fr.step h₀ ?_ hm₀
  clear h₀ hm₀
  unfold State.linkInit
  try dsimp only
  repeat' (first
    | with_reducible exact Fr.refl _ _
    | with_reducible assumption
    | exact (rfl : (_ : Nat) = _)
    | with_reducible refine State.setCarry_fr ?_ ?_
    | with_reducible refine State.putFld_fr ?_ ?_
    | with_reducible refine State.setFlitLink_fr ?_ ?_
    | with_reducible refine State.sendControl_fr ?_ ?_
    | with_reducible refine State.setMlink_fr ?_ ?_
    | dsimp only
    | with_reducible refine Fr.ite ?_ ?_
    | with_reducible refine Fr.ite₁ ?_ ?_
    | with_reducible refine FrS.ite ?_ ?_
    | with_reducible refine FrP.ite ?_ ?_
    | with_reducible exact FrS.none
    | with_reducible refine FrS.some ?_
    | with_reducible refine FrS.map ?_
    | with_reducible exact FrP.none
    | with_reducible refine FrP.some ?_
    | with_reducible refine Fr.elim ?_ ?_
    | with_reducible refine Fr.foldl ?_ _ _ ?_
    | with_reducible refine Fr.foldl₂ ?_ _ _ ?_
    | intro _ _ _ _ _ _
    | intro _ _ _ _ _
    | intro _ _ _ _
    | intro _ _ _
    | intro _ _
    | intro _
    | with_reducible refine Fr.pair (h := ?_) (e := by assumption)
    | with_reducible refine FrO.got (h := ?_) (e := by assumption)
    | with_reducible refine FrS.get (h := ?_) (e := by assumption)
    | with_reducible refine FrP.get (h := ?_) (e := by assumption)
    | split)

theorem State.laneSwapped_fr {msk : Nat} {b₀ : State} {s : State} {k : LinkEnd} {lane : Nat} {injected : Bool} (h₀ : Fr msk b₀ s) (hm₀ : 693062 ||| msk = msk) :
    Fr msk b₀ (State.laneSwapped s k lane injected) := by
  refine Fr.step h₀ ?_ hm₀
  clear h₀ hm₀
  unfold State.laneSwapped
  try dsimp only
  repeat' (first
    | with_reducible exact Fr.refl _ _
    | exact (rfl : (_ : Nat) = _)
    | with_reducible refine State.linkErr_fr ?_ ?_
    | with_reducible refine State.event_fr ?_ ?_
    | with_reducible refine State.showSpares_fr ?_ ?_)

theorem State.txSwap_fr {msk : Nat} {b₀ : State} {s : State} {k : LinkEnd} {lane : Nat} (h₀ : Fr msk b₀ s) (hm₀ : 709446 ||| msk = msk) :
    Fr msk b₀ (State.txSwap s k lane) := by
  refine Fr.step h₀ ?_ hm₀
  clear h₀ hm₀
  unfold State.txSwap
  try dsimp only
  repeat' (first
    | with_reducible exact Fr.refl _ _
    | exact (rfl : (_ : Nat) = _)
    | with_reducible refine State.setFlitLink_fr ?_ ?_
    | with_reducible refine State.laneSwapped_fr ?_ ?_
    | with_reducible refine State.emit_fr ?_ ?_
    | with_reducible refine Fr.ite ?_ ?_
    | split)

theorem State.takeAck_fr {msk : Nat} {b₀ : State} {s : State} {k : LinkEnd} {ack : Option Nat} (h₀ : Fr msk b₀ s) (hm₀ : 49158 ||| msk = msk) :
    Fr msk b₀ (State.takeAck s k ack) := by
  refine Fr.step h₀ ?_ hm₀
  clear h₀ hm₀
  unfold State.takeAck
  try dsimp only
  repeat' (first
    | with_reducible exact Fr.refl _ _
    | exact (rfl : (_ : Nat) = _)
    | with_reducible refine State.flitsSent_fr ?_ ?_
    | with_reducible refine State.setFlitLink_fr ?_ ?_
    | with_reducible refine Fr.ite ?_ ?_
    | split)

theorem execModRstAssert_fr {msk : Nat} {b₀ : State} {n : Nat} {s : State} (h₀ : Fr msk b₀ s) (hm₀ : 981830 ||| msk = msk) :
    FrO msk b₀ (execModRstAssert n s) := by
  refine FrO.step h₀ ?_ hm₀
  clear h₀ hm₀
  unfold execModRstAssert
  try dsimp only
  repeat' (first
    | with_reducible exact Fr.refl _ _
    | exact (rfl : (_ : Nat) = _)
    | with_reducible refine State.linkGoesDown_fr ?_ ?_
    | with_reducible refine State.putBit_fr ?_ ?_
    | with_reducible refine State.writeDiscarded_fr ?_ ?_
    | with_reducible refine FrO.ite ?_ ?_
    | with_reducible refine FrO.next ?_
    | refine Fr.mk' ?_)

theorem State.narrow_fr {msk : Nat} {b₀ : State} {s : State} {k : LinkEnd} (h₀ : Fr msk b₀ s) (hm₀ : 693062 ||| msk = msk) :
    Fr msk b₀ (State.narrow s k) := by
  refine Fr.step h₀ ?_ hm₀
  clear h₀ hm₀
  unfold State.narrow
  try dsimp only
  repeat' (first
    | with_reducible exact Fr.refl _ _
    | exact (rfl : (_ : Nat) = _)
    | with_reducible refine State.event_fr ?_ ?_
    | with_reducible refine State.linkErr_fr ?_ ?_)

theorem State.setWidth_fr {msk : Nat} {b₀ : State} {s : State} {k : LinkEnd} {w : Nat} (h₀ : Fr msk b₀ s) (hm₀ : 693062 ||| msk = msk) :
    Fr msk b₀ (State.setWidth s k w) := by
  refine Fr.step h₀ ?_ hm₀
  clear h₀ hm₀
  unfold State.setWidth
  try dsimp only
  repeat' (first
    | with_reducible exact Fr.refl _ _
    | exact (rfl : (_ : Nat) = _)
    | with_reducible refine State.putFld_fr ?_ ?_
    | with_reducible refine State.narrow_fr ?_ ?_
    | with_reducible refine Fr.ite ?_ ?_)

theorem execWidthMsgRx_fr {msk : Nat} {b₀ : State} {k : LinkEnd} {width : Nat} {map : List Nat} {s : State} (h₀ : Fr msk b₀ s) (hm₀ : 709446 ||| msk = msk) :
    FrO msk b₀ (execWidthMsgRx k width map s) := by
  refine FrO.step h₀ ?_ hm₀
  clear h₀ hm₀
  unfold execWidthMsgRx
  try dsimp only
  repeat' (first
    | with_reducible exact Fr.refl _ _
    | exact (rfl : (_ : Nat) = _)
    | with_reducible refine State.setWidth_fr ?_ ?_
    | with_reducible refine State.setCarry_fr ?_ ?_
    | with_reducible refine FrO.ite ?_ ?_
    | with_reducible refine FrO.next ?_)

theorem State.retrainLanes_fr {msk : Nat} {b₀ : State} {s : State} {k : LinkEnd} {good : List Nat} (h₀ : Fr msk b₀ s) (hm₀ : 709446 ||| msk = msk) :
    Fr msk b₀ (State.retrainLanes s k good) := by
  refine Fr.step h₀ ?_ hm₀
  clear h₀ hm₀
  unfold State.retrainLanes
  try dsimp only
  repeat' (first
    | with_reducible exact Fr.refl _ _
    | with_reducible assumption
    | exact (rfl : (_ : Nat) = _)
    | with_reducible refine State.setCarry_fr ?_ ?_
    | with_reducible refine State.setFlitLink_fr ?_ ?_
    | with_reducible refine State.setWidth_fr ?_ ?_
    | with_reducible refine State.sendControl_fr ?_ ?_
    | dsimp only
    | with_reducible refine Fr.ite ?_ ?_
    | with_reducible refine Fr.ite₁ ?_ ?_
    | with_reducible refine FrS.ite ?_ ?_
    | with_reducible refine FrP.ite ?_ ?_
    | with_reducible exact FrS.none
    | with_reducible refine FrS.some ?_
    | with_reducible refine FrS.map ?_
    | with_reducible exact FrP.none
    | with_reducible refine FrP.some ?_
    | with_reducible refine Fr.elim ?_ ?_
    | with_reducible refine Fr.foldl ?_ _ _ ?_
    | with_reducible refine Fr.foldl₂ ?_ _ _ ?_
    | intro _ _ _ _ _ _
    | intro _ _ _ _ _
    | intro _ _ _ _
    | intro _ _ _
    | intro _ _
    | intro _
    | with_reducible refine Fr.pair (h := ?_) (e := by assumption)
    | with_reducible refine FrO.got (h := ?_) (e := by assumption)
    | with_reducible refine FrS.get (h := ?_) (e := by assumption)
    | with_reducible refine FrP.get (h := ?_) (e := by assumption)
    | split)

theorem State.enterRecovery_fr {msk : Nat} {b₀ : State} {s : State} {k : LinkEnd} (h₀ : Fr msk b₀ s) (hm₀ : 49156 ||| msk = msk) :
    Fr msk b₀ (State.enterRecovery s k) := by
  refine Fr.step h₀ ?_ hm₀
  clear h₀ hm₀
  unfold State.enterRecovery
  try dsimp only
  repeat' (first
    | with_reducible exact Fr.refl _ _
    | exact (rfl : (_ : Nat) = _)
    | with_reducible refine State.count_fr ?_ ?_
    | with_reducible refine State.setLinkState_fr ?_ ?_
    | with_reducible refine State.setFlitLink_fr ?_ ?_
    | with_reducible refine Fr.ite ?_ ?_)

theorem State.narrowDown_fr {msk : Nat} {b₀ : State} {s : State} {k : LinkEnd} (h₀ : Fr msk b₀ s) (hm₀ : 49156 ||| msk = msk) :
    Fr msk b₀ (State.narrowDown s k) := by
  refine Fr.step h₀ ?_ hm₀
  clear h₀ hm₀
  unfold State.narrowDown
  try dsimp only
  repeat' (first
    | with_reducible exact Fr.refl _ _
    | with_reducible assumption
    | exact (rfl : (_ : Nat) = _)
    | with_reducible refine State.enterRecovery_fr ?_ ?_
    | with_reducible refine State.setFlitLink_fr ?_ ?_
    | dsimp only
    | with_reducible refine Fr.ite ?_ ?_
    | with_reducible refine Fr.ite₁ ?_ ?_
    | with_reducible refine FrS.ite ?_ ?_
    | with_reducible refine FrP.ite ?_ ?_
    | with_reducible exact FrS.none
    | with_reducible refine FrS.some ?_
    | with_reducible refine FrS.map ?_
    | with_reducible exact FrP.none
    | with_reducible refine FrP.some ?_
    | with_reducible refine Fr.elim ?_ ?_
    | with_reducible refine Fr.foldl ?_ _ _ ?_
    | with_reducible refine Fr.foldl₂ ?_ _ _ ?_
    | intro _ _ _ _ _ _
    | intro _ _ _ _ _
    | intro _ _ _ _
    | intro _ _ _
    | intro _ _
    | intro _
    | with_reducible refine Fr.pair (h := ?_) (e := by assumption)
    | with_reducible refine FrO.got (h := ?_) (e := by assumption)
    | with_reducible refine FrS.get (h := ?_) (e := by assumption)
    | with_reducible refine FrP.get (h := ?_) (e := by assumption)
    | split)

theorem execSwapReqRx_fr {msk : Nat} {b₀ : State} {k : LinkEnd} {lane : Nat} {s : State} (h₀ : Fr msk b₀ s) (hm₀ : 709446 ||| msk = msk) :
    FrO msk b₀ (execSwapReqRx k lane s) := by
  refine FrO.step h₀ ?_ hm₀
  clear h₀ hm₀
  unfold execSwapReqRx
  try dsimp only
  repeat' (first
    | with_reducible exact Fr.refl _ _
    | with_reducible assumption
    | exact (rfl : (_ : Nat) = _)
    | with_reducible refine State.narrowDown_fr ?_ ?_
    | with_reducible refine State.txSwap_fr ?_ ?_
    | dsimp only
    | with_reducible refine Fr.ite ?_ ?_
    | with_reducible refine Fr.ite₁ ?_ ?_
    | with_reducible refine FrO.ite ?_ ?_
    | with_reducible refine FrS.ite ?_ ?_
    | with_reducible refine FrP.ite ?_ ?_
    | with_reducible refine FrO.next ?_
    | with_reducible exact FrS.none
    | with_reducible refine FrS.some ?_
    | with_reducible refine FrS.map ?_
    | with_reducible exact FrP.none
    | with_reducible refine FrP.some ?_
    | with_reducible refine Fr.elim ?_ ?_
    | with_reducible refine Fr.foldl ?_ _ _ ?_
    | with_reducible refine Fr.foldl₂ ?_ _ _ ?_
    | intro _ _ _ _ _ _
    | intro _ _ _ _ _
    | intro _ _ _ _
    | intro _ _ _
    | intro _ _
    | intro _
    | with_reducible refine Fr.pair (h := ?_) (e := by assumption)
    | with_reducible refine FrO.got (h := ?_) (e := by assumption)
    | with_reducible refine FrS.get (h := ?_) (e := by assumption)
    | with_reducible refine FrP.get (h := ?_) (e := by assumption)
    | split)

theorem State.laneFails_fr {msk : Nat} {b₀ : State} {s : State} {k : LinkEnd} {lane : Nat} {injected : optParam Bool Bool.false} (h₀ : Fr msk b₀ s) (hm₀ : 49158 ||| msk = msk) :
    Fr msk b₀ (State.laneFails s k lane injected) := by
  refine Fr.step h₀ ?_ hm₀
  clear h₀ hm₀
  unfold State.laneFails
  try dsimp only
  repeat' (first
    | with_reducible exact Fr.refl _ _
    | with_reducible assumption
    | exact (rfl : (_ : Nat) = _)
    | with_reducible refine State.setFlitLink_fr ?_ ?_
    | with_reducible refine State.sendControl_fr ?_ ?_
    | with_reducible refine State.narrowDown_fr ?_ ?_
    | dsimp only
    | with_reducible refine Fr.ite ?_ ?_
    | with_reducible refine Fr.ite₁ ?_ ?_
    | with_reducible refine FrS.ite ?_ ?_
    | with_reducible refine FrP.ite ?_ ?_
    | with_reducible exact FrS.none
    | with_reducible refine FrS.some ?_
    | with_reducible refine FrS.map ?_
    | with_reducible exact FrP.none
    | with_reducible refine FrP.some ?_
    | with_reducible refine Fr.elim ?_ ?_
    | with_reducible refine Fr.foldl ?_ _ _ ?_
    | with_reducible refine Fr.foldl₂ ?_ _ _ ?_
    | intro _ _ _ _ _ _
    | intro _ _ _ _ _
    | intro _ _ _ _
    | intro _ _ _
    | intro _ _
    | intro _
    | with_reducible refine Fr.pair (h := ?_) (e := by assumption)
    | with_reducible refine FrO.got (h := ?_) (e := by assumption)
    | with_reducible refine FrS.get (h := ?_) (e := by assumption)
    | with_reducible refine FrP.get (h := ?_) (e := by assumption)
    | split)

theorem State.sendAck_fr {msk : Nat} {b₀ : State} {s : State} {k : LinkEnd} {nak : Bool} (h₀ : Fr msk b₀ s) (hm₀ : 49154 ||| msk = msk) :
    Fr msk b₀ (State.sendAck s k nak) := by
  refine Fr.step h₀ ?_ hm₀
  clear h₀ hm₀
  unfold State.sendAck
  try dsimp only
  repeat' (first
    | with_reducible exact Fr.refl _ _
    | exact (rfl : (_ : Nat) = _)
    | with_reducible refine State.emit_fr ?_ ?_
    | with_reducible refine State.setFlitLink_fr ?_ ?_)

theorem State.takeCum_fr {msk : Nat} {b₀ : State} {s : State} {k : LinkEnd} {cls : Nat} {cum : Nat} (h₀ : Fr msk b₀ s) (hm₀ : 49158 ||| msk = msk) :
    Fr msk b₀ (State.takeCum s k cls cum) := by
  refine Fr.step h₀ ?_ hm₀
  clear h₀ hm₀
  unfold State.takeCum
  try dsimp only
  repeat' (first
    | with_reducible exact Fr.refl _ _
    | exact (rfl : (_ : Nat) = _)
    | with_reducible refine State.linkPump_fr ?_ ?_
    | with_reducible refine State.setFlitLink_fr ?_ ?_)

theorem State.takeSequenced_fr {msk : Nat} {b₀ : State} {s : State} {k : LinkEnd} {f : Flit} (h₀ : Fr msk b₀ s) (hm₀ : 709446 ||| msk = msk) :
    Fr msk b₀ (State.takeSequenced s k f) := by
  refine Fr.step h₀ ?_ hm₀
  clear h₀ hm₀
  unfold State.takeSequenced
  try dsimp only
  repeat' (first
    | with_reducible exact Fr.refl _ _
    | exact (rfl : (_ : Nat) = _)
    | with_reducible refine State.count_fr ?_ ?_
    | with_reducible refine State.setFlitLink_fr ?_ ?_
    | with_reducible refine State.sendAck_fr ?_ ?_
    | with_reducible refine State.enterRecovery_fr ?_ ?_
    | with_reducible refine State.linkErr_fr ?_ ?_
    | with_reducible refine Fr.ite ?_ ?_)

theorem State.replayFlits_fr {msk : Nat} {b₀ : State} {s : State} {k : LinkEnd} (h₀ : Fr msk b₀ s) (hm₀ : 49158 ||| msk = msk) :
    Fr msk b₀ (State.replayFlits s k) := by
  refine Fr.step h₀ ?_ hm₀
  clear h₀ hm₀
  unfold State.replayFlits
  try dsimp only
  repeat' (first
    | with_reducible exact Fr.refl _ _
    | exact (rfl : (_ : Nat) = _)
    | with_reducible refine State.enterRecovery_fr ?_ ?_
    | with_reducible refine State.emit_fr ?_ ?_
    | with_reducible refine State.count_fr ?_ ?_
    | with_reducible refine State.setFlitLink_fr ?_ ?_
    | with_reducible refine Fr.ite ?_ ?_)

theorem execFlitRx_fr {msk : Nat} {b₀ : State} {k : LinkEnd} {f : Flit} {s : State} (h₀ : Fr msk b₀ s) (hm₀ : 709446 ||| msk = msk) :
    FrO msk b₀ (execFlitRx k f s) := by
  refine FrO.step h₀ ?_ hm₀
  clear h₀ hm₀
  unfold execFlitRx
  try dsimp only
  repeat' (first
    | with_reducible exact Fr.refl _ _
    | with_reducible assumption
    | exact (rfl : (_ : Nat) = _)
    | with_reducible refine State.inject_fr ?_ ?_
    | with_reducible refine State.operate_fr ?_ ?_
    | with_reducible refine State.laneFails_fr ?_ ?_
    | with_reducible refine State.linkErr_fr ?_ ?_
    | with_reducible refine State.count_fr ?_ ?_
    | with_reducible refine State.sendAck_fr ?_ ?_
    | with_reducible refine State.takeCum_fr ?_ ?_
    | with_reducible refine State.takeAck_fr ?_ ?_
    | with_reducible refine State.takeSequenced_fr ?_ ?_
    | with_reducible refine State.enterRecovery_fr ?_ ?_
    | with_reducible refine State.replayFlits_fr ?_ ?_
    | dsimp only
    | with_reducible refine Fr.ite ?_ ?_
    | with_reducible refine Fr.ite₁ ?_ ?_
    | with_reducible refine FrO.ite ?_ ?_
    | with_reducible refine FrS.ite ?_ ?_
    | with_reducible refine FrP.ite ?_ ?_
    | with_reducible refine FrO.next ?_
    | with_reducible exact FrS.none
    | with_reducible refine FrS.some ?_
    | with_reducible refine FrS.map ?_
    | with_reducible exact FrP.none
    | with_reducible refine FrP.some ?_
    | with_reducible refine Fr.elim ?_ ?_
    | with_reducible refine Fr.foldl ?_ _ _ ?_
    | with_reducible refine Fr.foldl₂ ?_ _ _ ?_
    | intro _ _ _ _ _ _
    | intro _ _ _ _ _
    | intro _ _ _ _
    | intro _ _ _
    | intro _ _
    | intro _
    | with_reducible refine Fr.pair (h := ?_) (e := by assumption)
    | with_reducible refine FrO.got (h := ?_) (e := by assumption)
    | with_reducible refine FrS.get (h := ?_) (e := by assumption)
    | with_reducible refine FrP.get (h := ?_) (e := by assumption)
    | split)

theorem execReplayTimeout_fr {msk : Nat} {b₀ : State} {k : LinkEnd} {s : State} (h₀ : Fr msk b₀ s) (hm₀ : 709446 ||| msk = msk) :
    FrO msk b₀ (execReplayTimeout k s) := by
  refine FrO.step h₀ ?_ hm₀
  clear h₀ hm₀
  unfold execReplayTimeout
  try dsimp only
  repeat' (first
    | with_reducible exact Fr.refl _ _
    | exact (rfl : (_ : Nat) = _)
    | with_reducible refine State.replayFlits_fr ?_ ?_
    | with_reducible refine State.raise_fr ?_ ?_
    | with_reducible refine FrO.ite ?_ ?_
    | with_reducible refine FrO.next ?_
    | split)

theorem execRecoveryRetrained_fr {msk : Nat} {b₀ : State} {k : LinkEnd} {lanes : List Nat} {s : State} (h₀ : Fr msk b₀ s) (hm₀ : 719686 ||| msk = msk) :
    FrO msk b₀ (execRecoveryRetrained k lanes s) := by
  refine FrO.step h₀ ?_ hm₀
  clear h₀ hm₀
  unfold execRecoveryRetrained
  try dsimp only
  repeat' (first
    | with_reducible exact Fr.refl _ _
    | exact (rfl : (_ : Nat) = _)
    | with_reducible refine State.linkGoesDown_fr ?_ ?_
    | with_reducible refine State.linkErr_fr ?_ ?_
    | with_reducible refine State.setLinkState_fr ?_ ?_
    | with_reducible refine State.retrainLanes_fr ?_ ?_
    | with_reducible refine State.replayFlits_fr ?_ ?_
    | with_reducible refine State.pump_fr ?_ ?_
    | with_reducible refine State.linkPump_fr ?_ ?_
    | with_reducible refine State.refAgain_fr ?_ ?_
    | with_reducible refine FrO.ite ?_ ?_
    | with_reducible refine FrO.next ?_
    | split)

theorem execRecoveryTimeout_fr {msk : Nat} {b₀ : State} {k : LinkEnd} {s : State} (h₀ : Fr msk b₀ s) (hm₀ : 719686 ||| msk = msk) :
    FrO msk b₀ (execRecoveryTimeout k s) := by
  refine FrO.step h₀ ?_ hm₀
  clear h₀ hm₀
  unfold execRecoveryTimeout
  try dsimp only
  repeat' (first
    | with_reducible exact Fr.refl _ _
    | exact (rfl : (_ : Nat) = _)
    | with_reducible refine State.linkGoesDown_fr ?_ ?_
    | with_reducible refine State.linkErr_fr ?_ ?_
    | with_reducible refine FrO.ite ?_ ?_
    | with_reducible refine FrO.next ?_)

theorem execModuleAbsent_fr {msk : Nat} {b₀ : State} {n : Nat} {s : State} (h₀ : Fr msk b₀ s) (hm₀ : 719686 ||| msk = msk) :
    FrO msk b₀ (execModuleAbsent n s) := by
  refine FrO.step h₀ ?_ hm₀
  clear h₀ hm₀
  unfold execModuleAbsent
  try dsimp only
  repeat' (first
    | with_reducible exact Fr.refl _ _
    | exact (rfl : (_ : Nat) = _)
    | with_reducible refine State.linkGoesDown_fr ?_ ?_
    | with_reducible refine FrO.ite ?_ ?_
    | with_reducible refine FrO.next ?_)

theorem State.forceSwap_fr {msk : Nat} {b₀ : State} {s : State} {k : LinkEnd} {lane : Nat} {receive : Bool} (h₀ : Fr msk b₀ s) (hm₀ : 709446 ||| msk = msk) :
    Fr msk b₀ (State.forceSwap s k lane receive) := by
  refine Fr.step h₀ ?_ hm₀
  clear h₀ hm₀
  unfold State.forceSwap
  try dsimp only
  repeat' (first
    | with_reducible exact Fr.refl _ _
    | exact (rfl : (_ : Nat) = _)
    | with_reducible refine State.laneFails_fr ?_ ?_
    | with_reducible refine State.txSwap_fr ?_ ?_
    | with_reducible refine Fr.ite ?_ ?_)

theorem execMlkForceSwap_fr {msk : Nat} {b₀ : State} {n : Nat} {lane : Nat} {receive : Bool} {s : State} (h₀ : Fr msk b₀ s) (hm₀ : 709446 ||| msk = msk) :
    FrO msk b₀ (execMlkForceSwap n lane receive s) := by
  refine FrO.step h₀ ?_ hm₀
  clear h₀ hm₀
  unfold execMlkForceSwap
  try dsimp only
  repeat' (first
    | with_reducible exact Fr.refl _ _
    | with_reducible assumption
    | exact (rfl : (_ : Nat) = _)
    | with_reducible refine State.pageWrite_fr ?_ ?_ ?_
    | with_reducible refine State.forceSwap_fr ?_ ?_
    | with_reducible refine FrO.next ?_
    | intro _ _)

theorem execBlockLock_fr {msk : Nat} {b₀ : State} {k : LinkEnd} {lanes : List Nat} {speed : Nat} {s : State} (h₀ : Fr msk b₀ s) (hm₀ : 49158 ||| msk = msk) :
    FrO msk b₀ (execBlockLock k lanes speed s) := by
  refine FrO.step h₀ ?_ hm₀
  clear h₀ hm₀
  unfold execBlockLock
  try dsimp only
  repeat' (first
    | with_reducible exact Fr.refl _ _
    | exact (rfl : (_ : Nat) = _)
    | with_reducible refine State.linkInit_fr ?_ ?_
    | with_reducible refine State.putFld_fr ?_ ?_
    | with_reducible refine FrO.ite ?_ ?_
    | with_reducible refine FrO.next ?_
    | split)

theorem execAckTimer_fr {msk : Nat} {b₀ : State} {k : LinkEnd} {s : State} (h₀ : Fr msk b₀ s) (hm₀ : 49154 ||| msk = msk) :
    FrO msk b₀ (execAckTimer k s) := by
  refine FrO.step h₀ ?_ hm₀
  clear h₀ hm₀
  unfold execAckTimer
  try dsimp only
  repeat' (first
    | with_reducible exact Fr.refl _ _
    | exact (rfl : (_ : Nat) = _)
    | with_reducible refine State.sendAck_fr ?_ ?_
    | with_reducible refine FrO.ite ?_ ?_
    | with_reducible refine FrO.next ?_)

theorem execTlTrain_fr {msk : Nat} {b₀ : State} {s : State} (h₀ : Fr msk b₀ s) (hm₀ : 709446 ||| msk = msk) :
    FrO msk b₀ (execTlTrain s) := by
  refine FrO.step h₀ ?_ hm₀
  clear h₀ hm₀
  unfold execTlTrain
  try dsimp only
  repeat' (first
    | with_reducible exact Fr.refl _ _
    | with_reducible assumption
    | exact (rfl : (_ : Nat) = _)
    | with_reducible refine State.pageWrite_fr ?_ ?_ ?_
    | with_reducible refine State.putBit_fr ?_ ?_
    | with_reducible refine State.setLinkState_fr ?_ ?_
    | with_reducible refine Fr.ite ?_ ?_
    | with_reducible refine FrO.next ?_
    | intro _ _)

theorem execTlForceSwap_fr {msk : Nat} {b₀ : State} {lane : Nat} {receive : Bool} {s : State} (h₀ : Fr msk b₀ s) (hm₀ : 709446 ||| msk = msk) :
    FrO msk b₀ (execTlForceSwap lane receive s) := by
  refine FrO.step h₀ ?_ hm₀
  clear h₀ hm₀
  unfold execTlForceSwap
  try dsimp only
  repeat' (first
    | with_reducible exact Fr.refl _ _
    | with_reducible assumption
    | exact (rfl : (_ : Nat) = _)
    | with_reducible refine State.pageWrite_fr ?_ ?_ ?_
    | with_reducible refine State.forceSwap_fr ?_ ?_
    | with_reducible refine FrO.next ?_
    | intro _ _)

theorem execMlkTrain_fr {msk : Nat} {b₀ : State} {n : Nat} {s : State} (h₀ : Fr msk b₀ s) (hm₀ : 709446 ||| msk = msk) :
    FrO msk b₀ (execMlkTrain n s) := by
  refine FrO.step h₀ ?_ hm₀
  clear h₀ hm₀
  unfold execMlkTrain
  try dsimp only
  repeat' (first
    | with_reducible exact Fr.refl _ _
    | with_reducible assumption
    | exact (rfl : (_ : Nat) = _)
    | with_reducible refine State.pageWrite_fr ?_ ?_ ?_
    | with_reducible refine State.trainStart_fr ?_ ?_
    | with_reducible refine State.putBit_fr ?_ ?_
    | with_reducible refine FrO.next ?_
    | intro _ _)

theorem execLaneFailing_fr {msk : Nat} {b₀ : State} {k : LinkEnd} {lane : Nat} {errors : Nat} {lockLost : Bool} {s : State} (h₀ : Fr msk b₀ s) (hm₀ : 49158 ||| msk = msk) :
    FrO msk b₀ (execLaneFailing k lane errors lockLost s) := by
  refine FrO.step h₀ ?_ hm₀
  clear h₀ hm₀
  unfold execLaneFailing
  try dsimp only
  repeat' (first
    | with_reducible exact Fr.refl _ _
    | exact (rfl : (_ : Nat) = _)
    | with_reducible refine State.countBy_fr ?_ ?_
    | with_reducible refine State.laneFails_fr ?_ ?_
    | with_reducible refine Fr.ite ?_ ?_
    | with_reducible refine FrO.ite ?_ ?_
    | with_reducible refine FrO.next ?_)

theorem execTrainTimeout_fr {msk : Nat} {b₀ : State} {k : LinkEnd} {s : State} (h₀ : Fr msk b₀ s) (hm₀ : 719686 ||| msk = msk) :
    FrO msk b₀ (execTrainTimeout k s) := by
  refine FrO.step h₀ ?_ hm₀
  clear h₀ hm₀
  unfold execTrainTimeout
  try dsimp only
  repeat' (first
    | with_reducible exact Fr.refl _ _
    | exact (rfl : (_ : Nat) = _)
    | with_reducible refine State.linkGoesDown_fr ?_ ?_
    | with_reducible refine State.linkErr_fr ?_ ?_
    | with_reducible refine FrO.ite ?_ ?_
    | with_reducible refine FrO.next ?_)

theorem execInitMsgRx_fr {msk : Nat} {b₀ : State} {k : LinkEnd} {x : InitMsg} {s : State} (h₀ : Fr msk b₀ s) (hm₀ : 719686 ||| msk = msk) :
    FrO msk b₀ (execInitMsgRx k x s) := by
  refine FrO.step h₀ ?_ hm₀
  clear h₀ hm₀
  unfold execInitMsgRx
  try dsimp only
  repeat' (first
    | with_reducible exact Fr.refl _ _
    | exact (rfl : (_ : Nat) = _)
    | with_reducible refine State.takeCredits_fr ?_ ?_
    | with_reducible refine State.pump_fr ?_ ?_
    | with_reducible refine State.torluxInit_fr ?_ ?_
    | with_reducible refine FrO.ite ?_ ?_
    | with_reducible refine FrO.next ?_
    | split)

theorem execLinkInitTimeout_fr {msk : Nat} {b₀ : State} {k : LinkEnd} {s : State} (h₀ : Fr msk b₀ s) (hm₀ : 719686 ||| msk = msk) :
    FrO msk b₀ (execLinkInitTimeout k s) := by
  refine FrO.step h₀ ?_ hm₀
  clear h₀ hm₀
  unfold execLinkInitTimeout
  try dsimp only
  repeat' (first
    | with_reducible exact Fr.refl _ _
    | exact (rfl : (_ : Nat) = _)
    | with_reducible refine State.linkGoesDown_fr ?_ ?_
    | with_reducible refine State.linkErr_fr ?_ ?_
    | with_reducible refine FrO.ite ?_ ?_
    | with_reducible refine FrO.next ?_)

theorem execSwapOrderedSetRx_fr {msk : Nat} {b₀ : State} {k : LinkEnd} {fail : Nat} {spare : Nat} {nfail : Nat} {nspare : Nat} {count : Nat} {s : State} (h₀ : Fr msk b₀ s) (hm₀ : 709446 ||| msk = msk) :
    FrO msk b₀ (execSwapOrderedSetRx k fail spare nfail nspare count s) := by
  refine FrO.step h₀ ?_ hm₀
  clear h₀ hm₀
  unfold execSwapOrderedSetRx
  try dsimp only
  repeat' (first
    | with_reducible exact Fr.refl _ _
    | exact (rfl : (_ : Nat) = _)
    | with_reducible refine State.laneSwapped_fr ?_ ?_
    | with_reducible refine State.setFlitLink_fr ?_ ?_
    | with_reducible refine FrO.ite ?_ ?_
    | with_reducible refine FrO.next ?_)

end Sys2Proof.Machine
end

