-- ==== Sys2Proof/Laws/FrResponses.lean ====
section
/-! SUPPORT. Frames of the operations of Machine.Responses: the parts of State that each may change. -/

set_option maxRecDepth 20000
set_option Elab.async false
set_option linter.unusedTactic false
set_option linter.unreachableTactic false
set_option linter.unusedVariables false

namespace Sys2Proof.Machine

theorem execTelemetryPoll_fr {msk : Nat} {b₀ : State} {n : Nat} {s : State} (h₀ : Fr msk b₀ s) (hm₀ : 16390 ||| msk = msk) :
    FrO msk b₀ (execTelemetryPoll n s) := by
  refine FrO.step h₀ ?_ hm₀
  clear h₀ hm₀
  unfold execTelemetryPoll
  try dsimp only
  repeat' (first
    | with_reducible exact Fr.refl _ _
    | exact (rfl : (_ : Nat) = _)
    | with_reducible refine State.sendMod_fr ?_ ?_
    | with_reducible refine Fr.ite ?_ ?_
    | with_reducible refine FrO.next ?_)

theorem State.eraseResend_fr {msk : Nat} {b₀ : State} {s : State} {port : Nat} (h₀ : Fr msk b₀ s) (hm₀ : 16390 ||| msk = msk) :
    Fr msk b₀ (State.eraseResend s port) := by
  refine Fr.step h₀ ?_ hm₀
  clear h₀ hm₀
  unfold State.eraseResend
  try dsimp only
  repeat' (first
    | with_reducible exact Fr.refl _ _
    | with_reducible assumption
    | exact (rfl : (_ : Nat) = _)
    | with_reducible refine State.sendMod_fr ?_ ?_
    | with_reducible refine Fr.ite ?_ ?_
    | with_reducible refine Fr.foldl ?_ _ _ ?_
    | intro _ _ _
    | split)

theorem State.showWords_fr {msk : Nat} {b₀ : State} {s : State} {k : Nat → Nat} {b : List Byte} {n : Nat} (h₀ : Fr msk b₀ s) (hm₀ : 4 ||| msk = msk) :
    Fr msk b₀ (State.showWords s k b n) := by
  refine Fr.step h₀ ?_ hm₀
  clear h₀ hm₀
  unfold State.showWords
  try dsimp only
  repeat' (first
    | with_reducible exact Fr.refl _ _
    | with_reducible assumption
    | exact (rfl : (_ : Nat) = _)
    | with_reducible refine State.wrN_fr ?_ ?_
    | with_reducible refine Fr.foldl ?_ _ _ ?_
    | intro _ _ _)

theorem State.replaceModule_fr {msk : Nat} {b₀ : State} {s : State} {port : Nat} {pool : Nat} {old : Ident} {new : Ident} (h₀ : Fr msk b₀ s) (hm₀ : 49158 ||| msk = msk) :
    Fr msk b₀ (State.replaceModule s port pool old new) := by
  refine Fr.step h₀ ?_ hm₀
  clear h₀ hm₀
  unfold State.replaceModule
  try dsimp only
  repeat' (first
    | with_reducible exact Fr.refl _ _
    | exact (rfl : (_ : Nat) = _)
    | with_reducible refine State.substitute_fr ?_ ?_
    | with_reducible refine Fr.ite ?_ ?_
    | split)

theorem State.identified_fr {msk : Nat} {b₀ : State} {s : State} {port : Nat} {b : List Byte} (h₀ : Fr msk b₀ s) (hm₀ : 719686 ||| msk = msk) :
    Fr msk b₀ (State.identified s port b) := by
  refine Fr.step h₀ ?_ hm₀
  clear h₀ hm₀
  unfold State.identified
  try dsimp only
  repeat' (first
    | with_reducible exact Fr.refl _ _
    | with_reducible assumption
    | exact (rfl : (_ : Nat) = _)
    | with_reducible refine State.showWords_fr ?_ ?_
    | with_reducible refine State.setMlink_fr ?_ ?_
    | with_reducible refine State.linkGoesDown_fr ?_ ?_
    | with_reducible refine State.linkErr_fr ?_ ?_
    | with_reducible refine State.spareInit_fr ?_ ?_
    | with_reducible refine State.event_fr ?_ ?_
    | with_reducible refine State.setLinkState_fr ?_ ?_
    | with_reducible refine State.replaceModule_fr ?_ ?_
    | with_reducible refine State.pump_fr ?_ ?_
    | with_reducible refine State.eraseResend_fr ?_ ?_
    | with_reducible refine Fr.ite ?_ ?_
    | with_reducible refine Fr.foldl ?_ _ _ ?_
    | intro _ _ _
    | split)

theorem State.raiseResponse_fr {msk : Nat} {b₀ : State} {s : State} {q : Nat} {port : Nat} {new : Nat} {toOther : Bool} {retried : Bool} {r : ModResp} (h₀ : Fr msk b₀ s) (hm₀ : 709446 ||| msk = msk) :
    Fr msk b₀ (State.raiseResponse s q port new toOther retried r) := by
  refine Fr.step h₀ ?_ hm₀
  clear h₀ hm₀
  unfold State.raiseResponse
  try dsimp only
  repeat' (first
    | with_reducible exact Fr.refl _ _
    | exact (rfl : (_ : Nat) = _)
    | with_reducible refine State.raiseGranted_fr ?_ ?_
    | with_reducible refine State.raiseRefused_fr ?_ ?_
    | with_reducible refine Fr.ite ?_ ?_)

theorem State.heard_fr {msk : Nat} {b₀ : State} {s : State} {port : Nat} {c : ModCmd} {r : ModResp} (h₀ : Fr msk b₀ s) (hm₀ : 711494 ||| msk = msk) :
    Fr msk b₀ (State.heard s port c r) := by
  refine Fr.step h₀ ?_ hm₀
  clear h₀ hm₀
  unfold State.heard
  try dsimp only
  repeat' (first
    | with_reducible exact Fr.refl _ _
    | with_reducible assumption
    | exact (rfl : (_ : Nat) = _)
    | with_reducible refine State.learnEpoch_fr ?_ ?_
    | with_reducible refine State.staleSelf_fr ?_ ?_
    | with_reducible refine State.count_fr ?_ ?_
    | with_reducible refine State.noteFail_fr ?_ ?_
    | dsimp only
    | with_reducible refine Fr.ite ?_ ?_
    | with_reducible refine Fr.ite₁ ?_ ?_
    | with_reducible refine FrS.ite ?_ ?_
    | with_reducible refine FrP.ite ?_ ?_
    | with_reducible exact FrS.none
    | with_reducible refine FrS.some ?_
    | with_reducible refine FrS.map ?_
    | with_reducible exact FrP.none
    | with_reducible refine FrP.some ?_
    | with_reducible refine Fr.elim ?_ ?_
    | with_reducible refine Fr.foldl ?_ _ _ ?_
    | with_reducible refine Fr.foldl₂ ?_ _ _ ?_
    | intro _ _ _ _ _ _
    | intro _ _ _ _ _
    | intro _ _ _ _
    | intro _ _ _
    | intro _ _
    | intro _
    | with_reducible refine Fr.pair (h := ?_) (e := by assumption)
    | with_reducible refine FrO.got (h := ?_) (e := by assumption)
    | with_reducible refine FrS.get (h := ?_) (e := by assumption)
    | with_reducible refine FrP.get (h := ?_) (e := by assumption)
    | split)

theorem State.dieDone_fr {msk : Nat} {b₀ : State} {s : State} {m : Nat} {d : Nat} (h₀ : Fr msk b₀ s) (hm₀ : 16384 ||| msk = msk) :
    Fr msk b₀ (State.dieDone s m d) := by
  refine Fr.step h₀ ?_ hm₀
  clear h₀ hm₀
  unfold State.dieDone
  try dsimp only
  repeat' (first
    | with_reducible exact Fr.refl _ _
    | exact (rfl : (_ : Nat) = _)
    | with_reducible refine State.setDie_fr ?_ ?_)

theorem State.eraseResponse_fr {msk : Nat} {b₀ : State} {s : State} {port : Nat} {m : Nat} {seg : Nat} {k : Nat} {c : ModCmd} {r : ModResp} (h₀ : Fr msk b₀ s) (hm₀ : 16384 ||| msk = msk) :
    Fr msk b₀ (State.eraseResponse s port m seg k c r) := by
  refine Fr.step h₀ ?_ hm₀
  clear h₀ hm₀
  unfold State.eraseResponse
  try dsimp only
  repeat' (first
    | with_reducible exact Fr.refl _ _
    | with_reducible assumption
    | exact (rfl : (_ : Nat) = _)
    | with_reducible refine State.dieDone_fr ?_ ?_
    | with_reducible refine State.eraseOk_fr ?_ ?_
    | with_reducible refine State.noteFail_fr ?_ ?_
    | dsimp only
    | with_reducible refine Fr.ite ?_ ?_
    | with_reducible refine Fr.ite₁ ?_ ?_
    | with_reducible refine FrS.ite ?_ ?_
    | with_reducible refine FrP.ite ?_ ?_
    | with_reducible exact FrS.none
    | with_reducible refine FrS.some ?_
    | with_reducible refine FrS.map ?_
    | with_reducible exact FrP.none
    | with_reducible refine FrP.some ?_
    | with_reducible refine Fr.elim ?_ ?_
    | with_reducible refine Fr.foldl ?_ _ _ ?_
    | with_reducible refine Fr.foldl₂ ?_ _ _ ?_
    | intro _ _ _ _ _ _
    | intro _ _ _ _ _
    | intro _ _ _ _
    | intro _ _ _
    | intro _ _
    | intro _
    | with_reducible refine Fr.pair (h := ?_) (e := by assumption)
    | with_reducible refine FrO.got (h := ?_) (e := by assumption)
    | with_reducible refine FrS.get (h := ?_) (e := by assumption)
    | with_reducible refine FrP.get (h := ?_) (e := by assumption)
    | split)

theorem execModuleAlertRx_fr {msk : Nat} {b₀ : State} {n : Nat} {info : Nat} {s : State} (h₀ : Fr msk b₀ s) (hm₀ : 709446 ||| msk = msk) :
    FrO msk b₀ (execModuleAlertRx n info s) := by
  refine FrO.step h₀ ?_ hm₀
  clear h₀ hm₀
  unfold execModuleAlertRx
  try dsimp only
  repeat' (first
    | with_reducible exact Fr.refl _ _
    | with_reducible assumption
    | exact (rfl : (_ : Nat) = _)
    | with_reducible refine State.raise_fr ?_ ?_
    | with_reducible refine State.event_fr ?_ ?_
    | with_reducible refine State.setMlink_fr ?_ ?_
    | with_reducible refine State.noteFail_fr ?_ ?_
    | dsimp only
    | with_reducible refine Fr.ite ?_ ?_
    | with_reducible refine Fr.ite₁ ?_ ?_
    | with_reducible refine FrO.ite ?_ ?_
    | with_reducible refine FrS.ite ?_ ?_
    | with_reducible refine FrP.ite ?_ ?_
    | with_reducible refine FrO.next ?_
    | with_reducible exact FrS.none
    | with_reducible refine FrS.some ?_
    | with_reducible refine FrS.map ?_
    | with_reducible exact FrP.none
    | with_reducible refine FrP.some ?_
    | with_reducible refine Fr.elim ?_ ?_
    | with_reducible refine Fr.foldl ?_ _ _ ?_
    | with_reducible refine Fr.foldl₂ ?_ _ _ ?_
    | intro _ _ _ _ _ _
    | intro _ _ _ _ _
    | intro _ _ _ _
    | intro _ _ _
    | intro _ _
    | intro _
    | with_reducible refine Fr.pair (h := ?_) (e := by assumption)
    | with_reducible refine FrO.got (h := ?_) (e := by assumption)
    | with_reducible refine FrS.get (h := ?_) (e := by assumption)
    | with_reducible refine FrP.get (h := ?_) (e := by assumption)
    | split)

theorem State.programmed_fr {msk : Nat} {b₀ : State} {s : State} {port : Nat} {c : ModCmd} {r : ModResp} (h₀ : Fr msk b₀ s) (hm₀ : 4 ||| msk = msk) :
    Fr msk b₀ (State.programmed s port c r) := by
  refine Fr.step h₀ ?_ hm₀
  clear h₀ hm₀
  unfold State.programmed
  try dsimp only
  repeat' (first
    | with_reducible exact Fr.refl _ _
    | exact (rfl : (_ : Nat) = _)
    | with_reducible refine State.wr64_fr ?_ ?_
    | with_reducible refine Fr.ite ?_ ?_)

theorem State.scanAnswer_fr {msk : Nat} {b₀ : State} {s : State} {port : Nat} {m : Nat} {c : ModCmd} {patrol : Bool} {ok : Bool} {r : ModResp} (h₀ : Fr msk b₀ s) (hm₀ : 709446 ||| msk = msk) :
    Fr msk b₀ (State.scanAnswer s port m c patrol ok r) := by
  refine Fr.step h₀ ?_ hm₀
  clear h₀ hm₀
  unfold State.scanAnswer
  try dsimp only
  repeat' (first
    | with_reducible exact Fr.refl _ _
    | with_reducible assumption
    | exact (rfl : (_ : Nat) = _)
    | with_reducible refine State.inject_fr ?_ ?_
    | with_reducible refine State.report_fr ?_ ?_
    | with_reducible refine State.noteFail_fr ?_ ?_
    | dsimp only
    | with_reducible refine Fr.ite ?_ ?_
    | with_reducible refine Fr.ite₁ ?_ ?_
    | with_reducible refine FrS.ite ?_ ?_
    | with_reducible refine FrP.ite ?_ ?_
    | with_reducible exact FrS.none
    | with_reducible refine FrS.some ?_
    | with_reducible refine FrS.map ?_
    | with_reducible exact FrP.none
    | with_reducible refine FrP.some ?_
    | with_reducible refine Fr.elim ?_ ?_
    | with_reducible refine Fr.foldl ?_ _ _ ?_
    | with_reducible refine Fr.foldl₂ ?_ _ _ ?_
    | intro _ _ _ _ _ _
    | intro _ _ _ _ _
    | intro _ _ _ _
    | intro _ _ _
    | intro _ _
    | intro _
    | with_reducible refine Fr.pair (h := ?_) (e := by assumption)
    | with_reducible refine FrO.got (h := ?_) (e := by assumption)
    | with_reducible refine FrS.get (h := ?_) (e := by assumption)
    | with_reducible refine FrP.get (h := ?_) (e := by assumption)
    | split)

theorem State.telemetered_fr {msk : Nat} {b₀ : State} {s : State} {port : Nat} {m : Nat} {b : List Byte} (h₀ : Fr msk b₀ s) (hm₀ : 16388 ||| msk = msk) :
    Fr msk b₀ (State.telemetered s port m b) := by
  refine Fr.step h₀ ?_ hm₀
  clear h₀ hm₀
  unfold State.telemetered
  try dsimp only
  repeat' (first
    | with_reducible exact Fr.refl _ _
    | exact (rfl : (_ : Nat) = _)
    | with_reducible refine State.setHealth_fr ?_ ?_
    | with_reducible refine State.event_fr ?_ ?_
    | with_reducible refine State.showWords_fr ?_ ?_
    | with_reducible refine Fr.ite ?_ ?_)

theorem State.stripeResponse_fr {msk : Nat} {b₀ : State} {s : State} {port : Nat} {i : Nat} {k : Nat} {c : ModCmd} {r : ModResp} (h₀ : Fr msk b₀ s) (hm₀ : 717638 ||| msk = msk) :
    Fr msk b₀ (State.stripeResponse s port i k c r) := by
  refine Fr.step h₀ ?_ hm₀
  clear h₀ hm₀
  unfold State.stripeResponse
  try dsimp only
  repeat' (first
    | with_reducible exact Fr.refl _ _
    | with_reducible assumption
    | exact (rfl : (_ : Nat) = _)
    | with_reducible refine State.noteFail_fr ?_ ?_
    | with_reducible refine State.stripeAnswer_fr ?_ ?_
    | with_reducible refine State.dieDone_fr ?_ ?_
    | dsimp only
    | with_reducible refine Fr.ite ?_ ?_
    | with_reducible refine Fr.ite₁ ?_ ?_
    | with_reducible refine FrS.ite ?_ ?_
    | with_reducible refine FrP.ite ?_ ?_
    | with_reducible exact FrS.none
    | with_reducible refine FrS.some ?_
    | with_reducible refine FrS.map ?_
    | with_reducible exact FrP.none
    | with_reducible refine FrP.some ?_
    | with_reducible refine Fr.elim ?_ ?_
    | with_reducible refine Fr.foldl ?_ _ _ ?_
    | with_reducible refine Fr.foldl₂ ?_ _ _ ?_
    | intro _ _ _ _ _ _
    | intro _ _ _ _ _
    | intro _ _ _ _
    | intro _ _ _
    | intro _ _
    | intro _
    | with_reducible refine Fr.pair (h := ?_) (e := by assumption)
    | with_reducible refine FrO.got (h := ?_) (e := by assumption)
    | with_reducible refine FrS.get (h := ?_) (e := by assumption)
    | with_reducible refine FrP.get (h := ?_) (e := by assumption)
    | split)

theorem State.statusResponse_fr {msk : Nat} {b₀ : State} {s : State} {port : Nat} {m : Nat} {d : Nat} {info : Nat} {tag : Nat} (h₀ : Fr msk b₀ s) (hm₀ : 16384 ||| msk = msk) :
    Fr msk b₀ (State.statusResponse s port m d info tag) := by
  refine Fr.step h₀ ?_ hm₀
  clear h₀ hm₀
  unfold State.statusResponse
  try dsimp only
  repeat' (first
    | with_reducible exact Fr.refl _ _
    | with_reducible assumption
    | exact (rfl : (_ : Nat) = _)
    | with_reducible refine State.noteFail_fr ?_ ?_
    | with_reducible refine State.setDie_fr ?_ ?_
    | dsimp only
    | with_reducible refine Fr.ite ?_ ?_
    | with_reducible refine Fr.ite₁ ?_ ?_
    | with_reducible refine FrS.ite ?_ ?_
    | with_reducible refine FrP.ite ?_ ?_
    | with_reducible exact FrS.none
    | with_reducible refine FrS.some ?_
    | with_reducible refine FrS.map ?_
    | with_reducible exact FrP.none
    | with_reducible refine FrP.some ?_
    | with_reducible refine Fr.elim ?_ ?_
    | with_reducible refine Fr.foldl ?_ _ _ ?_
    | with_reducible refine Fr.foldl₂ ?_ _ _ ?_
    | intro _ _ _ _ _ _
    | intro _ _ _ _ _
    | intro _ _ _ _
    | intro _ _ _
    | intro _ _
    | intro _
    | with_reducible refine Fr.pair (h := ?_) (e := by assumption)
    | with_reducible refine FrO.got (h := ?_) (e := by assumption)
    | with_reducible refine FrS.get (h := ?_) (e := by assumption)
    | with_reducible refine FrP.get (h := ?_) (e := by assumption)
    | split)

theorem State.respond_fr {msk : Nat} {b₀ : State} {s : State} {port : Nat} {m : Nat} {c : ModCmd} {r : ModResp} (h₀ : Fr msk b₀ s) (hm₀ : 719686 ||| msk = msk) :
    Fr msk b₀ (State.respond s port m c r) := by
  refine Fr.step h₀ ?_ hm₀
  clear h₀ hm₀
  unfold State.respond
  try dsimp only
  repeat' (first
    | with_reducible exact Fr.refl _ _
    | with_reducible assumption
    | exact (rfl : (_ : Nat) = _)
    | with_reducible refine State.identified_fr ?_ ?_
    | with_reducible refine State.learnEpoch_fr ?_ ?_
    | with_reducible refine State.telemetered_fr ?_ ?_
    | with_reducible refine State.raiseResponse_fr ?_ ?_
    | with_reducible refine State.stripeResponse_fr ?_ ?_
    | with_reducible refine State.journalOk_fr ?_ ?_
    | with_reducible refine State.journalFail_fr ?_ ?_
    | with_reducible refine State.rootAnswer_fr ?_ ?_
    | with_reducible refine State.eraseResponse_fr ?_ ?_
    | with_reducible refine State.dieDone_fr ?_ ?_
    | with_reducible refine State.setBg_fr ?_ ?_
    | with_reducible refine State.levelOk_fr ?_ ?_
    | with_reducible refine State.readAnswer_fr ?_ ?_
    | with_reducible refine State.scanAnswer_fr ?_ ?_
    | with_reducible refine State.rebuildOk_fr ?_ ?_
    | with_reducible refine State.rebuildFail_fr ?_ ?_
    | with_reducible refine State.setDie_fr ?_ ?_
    | with_reducible refine State.statusResponse_fr ?_ ?_
    | dsimp only
    | with_reducible refine Fr.ite ?_ ?_
    | with_reducible refine Fr.ite₁ ?_ ?_
    | with_reducible refine FrS.ite ?_ ?_
    | with_reducible refine FrP.ite ?_ ?_
    | with_reducible exact FrS.none
    | with_reducible refine FrS.some ?_
    | with_reducible refine FrS.map ?_
    | with_reducible exact FrP.none
    | with_reducible refine FrP.some ?_
    | with_reducible refine Fr.elim ?_ ?_
    | with_reducible refine Fr.foldl ?_ _ _ ?_
    | with_reducible refine Fr.foldl₂ ?_ _ _ ?_
    | intro _ _ _ _ _ _
    | intro _ _ _ _ _
    | intro _ _ _ _
    | intro _ _ _
    | intro _ _
    | intro _
    | with_reducible refine Fr.pair (h := ?_) (e := by assumption)
    | with_reducible refine FrO.got (h := ?_) (e := by assumption)
    | with_reducible refine FrS.get (h := ?_) (e := by assumption)
    | with_reducible refine FrP.get (h := ?_) (e := by assumption)
    | split)

theorem execModuleResponseRx_fr {msk : Nat} {b₀ : State} {port : Nat} {tag : Nat} {r : ModResp} {s : State} (h₀ : Fr msk b₀ s) (hm₀ : 719686 ||| msk = msk) :
    FrO msk b₀ (execModuleResponseRx port tag r s) := by
  refine FrO.step h₀ ?_ hm₀
  clear h₀ hm₀
  unfold execModuleResponseRx
  try dsimp only
  repeat' (first
    | with_reducible exact Fr.refl _ _
    | exact (rfl : (_ : Nat) = _)
    | with_reducible refine State.setMlink_fr ?_ ?_
    | with_reducible refine State.pump_fr ?_ ?_
    | with_reducible refine State.respond_fr ?_ ?_
    | with_reducible refine State.programmed_fr ?_ ?_
    | with_reducible refine State.heard_fr ?_ ?_
    | with_reducible refine FrO.next ?_
    | split)

theorem execModuleInterimResponse_fr {msk : Nat} {b₀ : State} {port : Nat} {tag : Nat} {r : ModResp} {s : State} (h₀ : Fr msk b₀ s) (hm₀ : 711494 ||| msk = msk) :
    FrO msk b₀ (execModuleInterimResponse port tag r s) := by
  refine FrO.step h₀ ?_ hm₀
  clear h₀ hm₀
  unfold execModuleInterimResponse
  try dsimp only
  repeat' (first
    | with_reducible exact Fr.refl _ _
    | with_reducible assumption
    | exact (rfl : (_ : Nat) = _)
    | with_reducible refine State.heard_fr ?_ ?_
    | with_reducible refine State.setMlink_fr ?_ ?_
    | with_reducible refine State.setDie_fr ?_ ?_
    | dsimp only
    | with_reducible refine Fr.ite ?_ ?_
    | with_reducible refine Fr.ite₁ ?_ ?_
    | with_reducible refine FrO.ite ?_ ?_
    | with_reducible refine FrS.ite ?_ ?_
    | with_reducible refine FrP.ite ?_ ?_
    | with_reducible refine FrO.next ?_
    | with_reducible exact FrS.none
    | with_reducible refine FrS.some ?_
    | with_reducible refine FrS.map ?_
    | with_reducible exact FrP.none
    | with_reducible refine FrP.some ?_
    | with_reducible refine Fr.elim ?_ ?_
    | with_reducible refine Fr.foldl ?_ _ _ ?_
    | with_reducible refine Fr.foldl₂ ?_ _ _ ?_
    | intro _ _ _ _ _ _
    | intro _ _ _ _ _
    | intro _ _ _ _
    | intro _ _ _
    | intro _ _
    | intro _
    | with_reducible refine Fr.pair (h := ?_) (e := by assumption)
    | with_reducible refine FrO.got (h := ?_) (e := by assumption)
    | with_reducible refine FrS.get (h := ?_) (e := by assumption)
    | with_reducible refine FrP.get (h := ?_) (e := by assumption)
    | split)

end Sys2Proof.Machine
end

