-- ==== Sys2Proof/Laws/FrAdmin.lean ====
section
/-! SUPPORT. Frames of the operations of Machine.Admin: the parts of State that each may change. -/

set_option maxRecDepth 20000
set_option Elab.async false
set_option linter.unusedTactic false
set_option linter.unreachableTactic false
set_option linter.unusedVariables false

namespace Sys2Proof.Machine

theorem State.setCtrl_fr {msk : Nat} {b₀ : State} {s : State} {k : Nat} {f : Ctrl → Ctrl} (h₀ : Fr msk b₀ s) (hm₀ : 2048 ||| msk = msk) :
    Fr msk b₀ (State.setCtrl s k f) := by
  refine Fr.step h₀ ?_ hm₀
  clear h₀ hm₀
  unfold State.setCtrl
  try dsimp only
  repeat' (first
    | with_reducible exact Fr.refl _ _
    | refine Fr.mk' ?_)

theorem State.setAers_fr {msk : Nat} {b₀ : State} {s : State} {k : Ctl} {l : List Nat} (h₀ : Fr msk b₀ s) (hm₀ : 2048 ||| msk = msk) :
    Fr msk b₀ (State.setAers s k l) := by
  refine Fr.step h₀ ?_ hm₀
  clear h₀ hm₀
  unfold State.setAers
  try dsimp only
  repeat' (first
    | with_reducible exact Fr.refl _ _
    | exact (rfl : (_ : Nat) = _)
    | with_reducible refine State.setFn_fr ?_ ?_
    | with_reducible refine State.setCtrl_fr ?_ ?_
    | split)

theorem State.anaNotice_fr {msk : Nat} {b₀ : State} {s : State} {k : Ctl} (h₀ : Fr msk b₀ s) (hm₀ : 2050 ||| msk = msk) :
    Fr msk b₀ (State.anaNotice s k) := by
  refine Fr.step h₀ ?_ hm₀
  clear h₀ hm₀
  unfold State.anaNotice
  try dsimp only
  repeat' (first
    | with_reducible exact Fr.refl _ _
    | exact (rfl : (_ : Nat) = _)
    | with_reducible refine State.emit_fr ?_ ?_
    | with_reducible refine State.setAers_fr ?_ ?_
    | with_reducible refine Fr.ite ?_ ?_
    | split)

theorem State.adminRun_fr {msk : Nat} {b₀ : State} {s : State} {n : Nat} {op : HostOp} {f : State → Ctl → HostCmd → State} (hf : ∀ t0 t1 t2, Fr msk b₀ t0 → Fr msk b₀ (f t0 t1 t2)) (h₀ : Fr msk b₀ s) (hm₀ : 55302 ||| msk = msk) :
    FrO msk b₀ (State.adminRun s n op f) := by
  unfold State.adminRun
  try dsimp only
  repeat' (first
    | with_reducible assumption
    | with_reducible refine State.complete_fr ?_ ?_
    | with_reducible refine hf _ _ _ ?_
    | with_reducible refine FrO.ite ?_ ?_
    | with_reducible refine FrO.next ?_
    | split)

theorem State.setFeat_fr {msk : Nat} {b₀ : State} {s : State} {c : Ctl} {fid : Nat} {v : Nat} (h₀ : Fr msk b₀ s) (hm₀ : 2048 ||| msk = msk) :
    Fr msk b₀ (State.setFeat s c fid v) := by
  refine Fr.step h₀ ?_ hm₀
  clear h₀ hm₀
  unfold State.setFeat
  try dsimp only
  repeat' (first
    | with_reducible exact Fr.refl _ _
    | exact (rfl : (_ : Nat) = _)
    | with_reducible refine State.setFn_fr ?_ ?_
    | with_reducible refine State.setCtrl_fr ?_ ?_
    | split)

theorem execNvmeSetFeatures_fr {msk : Nat} {b₀ : State} {n : Nat} {s : State} (h₀ : Fr msk b₀ s) (hm₀ : 55302 ||| msk = msk) :
    FrO msk b₀ (execNvmeSetFeatures n s) := by
  refine FrO.step h₀ ?_ hm₀
  clear h₀ hm₀
  unfold execNvmeSetFeatures
  try dsimp only
  repeat' (first
    | with_reducible exact Fr.refl _ _
    | with_reducible assumption
    | exact (rfl : (_ : Nat) = _)
    | with_reducible refine State.adminRun_fr ?_ ?_ ?_
    | with_reducible refine State.complete_fr ?_ ?_
    | with_reducible refine State.setFeat_fr ?_ ?_
    | with_reducible refine State.setCmd_fr ?_ ?_
    | with_reducible refine State.setFn_fr ?_ ?_
    | with_reducible refine Fr.ite ?_ ?_
    | intro _ _ _ _
    | split)

theorem execNvmeGetFeatures_fr {msk : Nat} {b₀ : State} {n : Nat} {s : State} (h₀ : Fr msk b₀ s) (hm₀ : 55302 ||| msk = msk) :
    FrO msk b₀ (execNvmeGetFeatures n s) := by
  refine FrO.step h₀ ?_ hm₀
  clear h₀ hm₀
  unfold execNvmeGetFeatures
  try dsimp only
  repeat' (first
    | with_reducible exact Fr.refl _ _
    | with_reducible assumption
    | exact (rfl : (_ : Nat) = _)
    | with_reducible refine State.adminRun_fr ?_ ?_ ?_
    | with_reducible refine State.complete_fr ?_ ?_
    | with_reducible refine Fr.ite ?_ ?_
    | intro _ _ _ _)

theorem execNvmeAsyncEventRequest_fr {msk : Nat} {b₀ : State} {n : Nat} {s : State} (h₀ : Fr msk b₀ s) (hm₀ : 55302 ||| msk = msk) :
    FrO msk b₀ (execNvmeAsyncEventRequest n s) := by
  refine FrO.step h₀ ?_ hm₀
  clear h₀ hm₀
  unfold execNvmeAsyncEventRequest
  try dsimp only
  repeat' (first
    | with_reducible exact Fr.refl _ _
    | with_reducible assumption
    | exact (rfl : (_ : Nat) = _)
    | with_reducible refine State.adminRun_fr ?_ ?_ ?_
    | with_reducible refine State.complete_fr ?_ ?_
    | with_reducible refine State.dropCmd_fr ?_ ?_
    | with_reducible refine State.setAers_fr ?_ ?_
    | with_reducible refine Fr.ite ?_ ?_
    | intro _ _ _ _)

theorem execNvmeCreateIoCq_fr {msk : Nat} {b₀ : State} {n : Nat} {s : State} (h₀ : Fr msk b₀ s) (hm₀ : 55302 ||| msk = msk) :
    FrO msk b₀ (execNvmeCreateIoCq n s) := by
  refine FrO.step h₀ ?_ hm₀
  clear h₀ hm₀
  unfold execNvmeCreateIoCq
  try dsimp only
  repeat' (first
    | with_reducible exact Fr.refl _ _
    | with_reducible assumption
    | exact (rfl : (_ : Nat) = _)
    | with_reducible refine State.adminRun_fr ?_ ?_ ?_
    | with_reducible refine State.complete_fr ?_ ?_
    | with_reducible refine State.setFn_fr ?_ ?_
    | with_reducible refine Fr.ite ?_ ?_
    | intro _ _ _ _
    | split)

theorem execNvmeGetLogPage_fr {msk : Nat} {b₀ : State} {n : Nat} {s : State} (h₀ : Fr msk b₀ s) (hm₀ : 55302 ||| msk = msk) :
    FrO msk b₀ (execNvmeGetLogPage n s) := by
  refine FrO.step h₀ ?_ hm₀
  clear h₀ hm₀
  unfold execNvmeGetLogPage
  try dsimp only
  repeat' (first
    | with_reducible exact Fr.refl _ _
    | with_reducible assumption
    | exact (rfl : (_ : Nat) = _)
    | with_reducible refine State.adminRun_fr ?_ ?_ ?_
    | with_reducible refine State.complete_fr ?_ ?_
    | with_reducible refine State.emit_fr ?_ ?_
    | intro _ _ _ _
    | split)

theorem execNvmeCreateIoSq_fr {msk : Nat} {b₀ : State} {n : Nat} {s : State} (h₀ : Fr msk b₀ s) (hm₀ : 55302 ||| msk = msk) :
    FrO msk b₀ (execNvmeCreateIoSq n s) := by
  refine FrO.step h₀ ?_ hm₀
  clear h₀ hm₀
  unfold execNvmeCreateIoSq
  try dsimp only
  repeat' (first
    | with_reducible exact Fr.refl _ _
    | with_reducible assumption
    | exact (rfl : (_ : Nat) = _)
    | with_reducible refine State.adminRun_fr ?_ ?_ ?_
    | with_reducible refine State.complete_fr ?_ ?_
    | with_reducible refine State.setFn_fr ?_ ?_
    | with_reducible refine Fr.ite ?_ ?_
    | intro _ _ _ _
    | split)

theorem execNvmeDeleteIoCq_fr {msk : Nat} {b₀ : State} {n : Nat} {s : State} (h₀ : Fr msk b₀ s) (hm₀ : 55302 ||| msk = msk) :
    FrO msk b₀ (execNvmeDeleteIoCq n s) := by
  refine FrO.step h₀ ?_ hm₀
  clear h₀ hm₀
  unfold execNvmeDeleteIoCq
  try dsimp only
  repeat' (first
    | with_reducible exact Fr.refl _ _
    | with_reducible assumption
    | exact (rfl : (_ : Nat) = _)
    | with_reducible refine State.adminRun_fr ?_ ?_ ?_
    | with_reducible refine State.complete_fr ?_ ?_
    | with_reducible refine State.setFn_fr ?_ ?_
    | with_reducible refine Fr.ite ?_ ?_
    | intro _ _ _ _
    | split)

theorem execNvmeIdentify_fr {msk : Nat} {b₀ : State} {n : Nat} {s : State} (h₀ : Fr msk b₀ s) (hm₀ : 55302 ||| msk = msk) :
    FrO msk b₀ (execNvmeIdentify n s) := by
  refine FrO.step h₀ ?_ hm₀
  clear h₀ hm₀
  unfold execNvmeIdentify
  try dsimp only
  repeat' (first
    | with_reducible exact Fr.refl _ _
    | with_reducible assumption
    | exact (rfl : (_ : Nat) = _)
    | with_reducible refine State.adminRun_fr ?_ ?_ ?_
    | with_reducible refine State.complete_fr ?_ ?_
    | with_reducible refine State.emit_fr ?_ ?_
    | intro _ _ _ _
    | split)

theorem State.anaApply_fr {msk : Nat} {b₀ : State} {s : State} (h₀ : Fr msk b₀ s) (hm₀ : 34818 ||| msk = msk) :
    Fr msk b₀ (State.anaApply s) := by
  refine Fr.step h₀ ?_ hm₀
  clear h₀ hm₀
  unfold State.anaApply
  try dsimp only
  repeat' (first
    | with_reducible exact Fr.refl _ _
    | with_reducible assumption
    | exact (rfl : (_ : Nat) = _)
    | with_reducible refine State.anaNotice_fr ?_ ?_
    | with_reducible refine Fr.ite ?_ ?_
    | with_reducible refine Fr.foldl ?_ _ _ ?_
    | intro _ _ _
    | refine Fr.mk' ?_)

theorem execNvmeAbort_fr {msk : Nat} {b₀ : State} {n : Nat} {s : State} (h₀ : Fr msk b₀ s) (hm₀ : 55302 ||| msk = msk) :
    FrO msk b₀ (execNvmeAbort n s) := by
  refine FrO.step h₀ ?_ hm₀
  clear h₀ hm₀
  unfold execNvmeAbort
  try dsimp only
  repeat' (first
    | with_reducible exact Fr.refl _ _
    | with_reducible assumption
    | exact (rfl : (_ : Nat) = _)
    | with_reducible refine State.adminRun_fr ?_ ?_ ?_
    | with_reducible refine State.complete_fr ?_ ?_
    | with_reducible refine Fr.ite ?_ ?_
    | intro _ _ _ _
    | split)

theorem execNvmeDeleteIoSq_fr {msk : Nat} {b₀ : State} {n : Nat} {s : State} (h₀ : Fr msk b₀ s) (hm₀ : 55302 ||| msk = msk) :
    FrO msk b₀ (execNvmeDeleteIoSq n s) := by
  refine FrO.step h₀ ?_ hm₀
  clear h₀ hm₀
  unfold execNvmeDeleteIoSq
  try dsimp only
  repeat' (first
    | with_reducible exact Fr.refl _ _
    | with_reducible assumption
    | exact (rfl : (_ : Nat) = _)
    | with_reducible refine State.adminRun_fr ?_ ?_ ?_
    | with_reducible refine State.complete_fr ?_ ?_
    | with_reducible refine State.completeAll_fr ?_ ?_
    | with_reducible refine State.setFn_fr ?_ ?_
    | with_reducible refine Fr.ite ?_ ?_
    | intro _ _ _ _
    | split)

end Sys2Proof.Machine
end

