-- ==== Sys2Proof/Laws/FrRepl.lean ====
section
/-! SUPPORT. Frames of the operations of Machine.Repl: the parts of State that each may change. -/

set_option maxRecDepth 20000
set_option Elab.async false
set_option linter.unusedTactic false
set_option linter.unreachableTactic false
set_option linter.unusedVariables false

namespace Sys2Proof.Machine

theorem State.resyncRange_fr {msk : Nat} {b₀ : State} {s : State} {g : Nat} {r : Nat × Nat} (h₀ : Fr msk b₀ s) (hm₀ : 34822 ||| msk = msk) :
    Fr msk b₀ (State.resyncRange s g r) := by
  refine Fr.step h₀ ?_ hm₀
  clear h₀ hm₀
  unfold State.resyncRange
  try dsimp only
  repeat' (first
    | with_reducible exact Fr.refl _ _
    | with_reducible assumption
    | exact (rfl : (_ : Nat) = _)
    | with_reducible refine State.replSend_fr ?_ ?_
    | with_reducible refine State.setGroup_fr ?_ ?_
    | with_reducible refine Fr.ite ?_ ?_
    | with_reducible refine Fr.foldl ?_ _ _ ?_
    | intro _ _ _)

theorem State.resyncMarks_fr {msk : Nat} {b₀ : State} {s : State} {g : Nat} (h₀ : Fr msk b₀ s) (hm₀ : 34822 ||| msk = msk) :
    Fr msk b₀ (State.resyncMarks s g) := by
  refine Fr.step h₀ ?_ hm₀
  clear h₀ hm₀
  unfold State.resyncMarks
  try dsimp only
  repeat' (first
    | with_reducible exact Fr.refl _ _
    | with_reducible assumption
    | exact (rfl : (_ : Nat) = _)
    | with_reducible refine State.resyncRange_fr ?_ ?_
    | with_reducible refine State.setGroup_fr ?_ ?_
    | with_reducible refine Fr.foldl ?_ _ _ ?_
    | intro _ _ _)

theorem State.replQpFailed_fr {msk : Nat} {b₀ : State} {s : State} {qpn : Nat} (h₀ : Fr msk b₀ s) (hm₀ : 32768 ||| msk = msk) :
    Fr msk b₀ (State.replQpFailed s qpn) := by
  refine Fr.step h₀ ?_ hm₀
  clear h₀ hm₀
  unfold State.replQpFailed
  try dsimp only
  repeat' (first
    | with_reducible exact Fr.refl _ _
    | with_reducible assumption
    | exact (rfl : (_ : Nat) = _)
    | with_reducible refine State.setGroup_fr ?_ ?_
    | with_reducible refine Fr.foldl ?_ _ _ ?_
    | intro _ _ _)

theorem State.setRpState_fr {msk : Nat} {b₀ : State} {s : State} {g : Nat} {st : Nat} (h₀ : Fr msk b₀ s) (hm₀ : 4 ||| msk = msk) :
    Fr msk b₀ (State.setRpState s g st) := by
  refine Fr.step h₀ ?_ hm₀
  clear h₀ hm₀
  unfold State.setRpState
  try dsimp only
  repeat' (first
    | with_reducible exact Fr.refl _ _
    | exact (rfl : (_ : Nat) = _)
    | with_reducible refine State.putFld_fr ?_ ?_)

theorem State.batchDone_fr {msk : Nat} {b₀ : State} {s : State} {group : Nat} (h₀ : Fr msk b₀ s) (hm₀ : 32774 ||| msk = msk) :
    Fr msk b₀ (State.batchDone s group) := by
  refine Fr.step h₀ ?_ hm₀
  clear h₀ hm₀
  unfold State.batchDone
  try dsimp only
  repeat' (first
    | with_reducible exact Fr.refl _ _
    | with_reducible assumption
    | exact (rfl : (_ : Nat) = _)
    | with_reducible refine State.replReply_fr ?_ ?_
    | with_reducible refine State.event_fr ?_ ?_
    | with_reducible refine State.wr64_fr ?_ ?_
    | with_reducible refine State.setGroup_fr ?_ ?_
    | dsimp only
    | with_reducible refine Fr.ite ?_ ?_
    | with_reducible refine Fr.ite₁ ?_ ?_
    | with_reducible refine FrS.ite ?_ ?_
    | with_reducible refine FrP.ite ?_ ?_
    | with_reducible exact FrS.none
    | with_reducible refine FrS.some ?_
    | with_reducible refine FrS.map ?_
    | with_reducible exact FrP.none
    | with_reducible refine FrP.some ?_
    | with_reducible refine Fr.elim ?_ ?_
    | with_reducible refine Fr.foldl ?_ _ _ ?_
    | with_reducible refine Fr.foldl₂ ?_ _ _ ?_
    | intro _ _ _ _ _ _
    | intro _ _ _ _ _
    | intro _ _ _ _
    | intro _ _ _
    | intro _ _
    | intro _
    | with_reducible refine Fr.pair (h := ?_) (e := by assumption)
    | with_reducible refine FrO.got (h := ?_) (e := by assumption)
    | with_reducible refine FrS.get (h := ?_) (e := by assumption)
    | with_reducible refine FrP.get (h := ?_) (e := by assumption)
    | split)

theorem State.resyncEnd_fr {msk : Nat} {b₀ : State} {s : State} {g : Nat} (h₀ : Fr msk b₀ s) (hm₀ : 260 ||| msk = msk) :
    Fr msk b₀ (State.resyncEnd s g) := by
  refine Fr.step h₀ ?_ hm₀
  clear h₀ hm₀
  unfold State.resyncEnd
  try dsimp only
  repeat' (first
    | with_reducible exact Fr.refl _ _
    | exact (rfl : (_ : Nat) = _)
    | with_reducible refine State.actEnd_fr ?_ ?_
    | with_reducible refine State.event_fr ?_ ?_
    | with_reducible refine State.setRpState_fr ?_ ?_
    | with_reducible refine Fr.ite ?_ ?_)

theorem State.replActRun_fr {msk : Nat} {b₀ : State} {s : State} {a : Activity} (h₀ : Fr msk b₀ s) (hm₀ : 35078 ||| msk = msk) :
    Fr msk b₀ (State.replActRun s a) := by
  refine Fr.step h₀ ?_ hm₀
  clear h₀ hm₀
  unfold State.replActRun
  try dsimp only
  repeat' (first
    | with_reducible exact Fr.refl _ _
    | exact (rfl : (_ : Nat) = _)
    | with_reducible refine State.resyncEnd_fr ?_ ?_
    | with_reducible refine State.resyncMarks_fr ?_ ?_
    | with_reducible refine State.setRpState_fr ?_ ?_
    | split)

theorem State.closedSend_fr {msk : Nat} {b₀ : State} {s : State} {b : Nat} (h₀ : Fr msk b₀ s) (hm₀ : 32774 ||| msk = msk) :
    Fr msk b₀ (State.closedSend s b) := by
  refine Fr.step h₀ ?_ hm₀
  clear h₀ hm₀
  unfold State.closedSend
  try dsimp only
  repeat' (first
    | with_reducible exact Fr.refl _ _
    | with_reducible assumption
    | exact (rfl : (_ : Nat) = _)
    | with_reducible refine State.setGroup_fr ?_ ?_
    | with_reducible refine State.tlSend_fr ?_ ?_
    | with_reducible refine Fr.ite ?_ ?_
    | with_reducible refine Fr.foldl ?_ _ _ ?_
    | intro _ _ _)

theorem State.replWire_fr {msk : Nat} {b₀ : State} {s : State} {qpn : Nat} (h₀ : Fr msk b₀ s) (hm₀ : 32768 ||| msk = msk) :
    Fr msk b₀ (State.replWire s qpn) := by
  refine Fr.step h₀ ?_ hm₀
  clear h₀ hm₀
  unfold State.replWire
  try dsimp only
  repeat' (first
    | with_reducible exact Fr.refl _ _
    | with_reducible assumption
    | exact (rfl : (_ : Nat) = _)
    | with_reducible refine State.setGroup_fr ?_ ?_
    | with_reducible refine Fr.foldl ?_ _ _ ?_
    | intro _ _ _)

theorem State.replSettle_fr {msk : Nat} {b₀ : State} {s : State} {g : Nat} (h₀ : Fr msk b₀ s) (hm₀ : 63494 ||| msk = msk) :
    Fr msk b₀ (State.replSettle s g) := by
  refine Fr.step h₀ ?_ hm₀
  clear h₀ hm₀
  unfold State.replSettle
  try dsimp only
  repeat' (first
    | with_reducible exact Fr.refl _ _
    | with_reducible assumption
    | exact (rfl : (_ : Nat) = _)
    | with_reducible refine State.tryAck_fr ?_ ?_
    | with_reducible refine State.tryRelease_fr ?_ ?_
    | with_reducible refine Fr.foldl ?_ _ _ ?_
    | intro _ _ _)

theorem State.replAnswered_fr {msk : Nat} {b₀ : State} {s : State} {g : Nat} {f : RepRec → Bool} (h₀ : Fr msk b₀ s) (hm₀ : 63750 ||| msk = msk) :
    Fr msk b₀ (State.replAnswered s g f) := by
  refine Fr.step h₀ ?_ hm₀
  clear h₀ hm₀
  unfold State.replAnswered
  try dsimp only
  repeat' (first
    | with_reducible exact Fr.refl _ _
    | exact (rfl : (_ : Nat) = _)
    | with_reducible refine State.setGroup_fr ?_ ?_
    | with_reducible refine State.resyncEnd_fr ?_ ?_
    | with_reducible refine State.replSettle_fr ?_ ?_
    | with_reducible refine State.replSend_fr ?_ ?_)

theorem execStagedRx_fr {msk : Nat} {b₀ : State} {group : Nat} {batch : Nat} {s : State} (h₀ : Fr msk b₀ s) (hm₀ : 63750 ||| msk = msk) :
    FrO msk b₀ (execStagedRx group batch s) := by
  refine FrO.step h₀ ?_ hm₀
  clear h₀ hm₀
  unfold execStagedRx
  try dsimp only
  repeat' (first
    | with_reducible exact Fr.refl _ _
    | exact (rfl : (_ : Nat) = _)
    | with_reducible refine State.replAnswered_fr ?_ ?_
    | with_reducible refine State.wr64_fr ?_ ?_
    | with_reducible refine FrO.ite ?_ ?_
    | with_reducible refine FrO.next ?_)

theorem State.rpCommand_fr {msk : Nat} {b₀ : State} {s : State} {f : Nat → State → State} (hf : ∀ t0 t1, Fr msk b₀ t1 → Fr msk b₀ (f t0 t1)) (h₀ : Fr msk b₀ s) (hm₀ : 693062 ||| msk = msk) :
    FrO msk b₀ (State.rpCommand s f) := by
  unfold State.rpCommand
  try dsimp only
  repeat' (first
    | with_reducible assumption
    | with_reducible refine State.writeDiscarded_fr ?_ ?_
    | with_reducible refine hf _ _ ?_
    | with_reducible refine Fr.ite ?_ ?_
    | with_reducible refine FrO.next ?_)

theorem State.rpAnswer_fr {msk : Nat} {b₀ : State} {s : State} {status : Nat} (h₀ : Fr msk b₀ s) (hm₀ : 4 ||| msk = msk) :
    Fr msk b₀ (State.rpAnswer s status) := by
  refine Fr.step h₀ ?_ hm₀
  clear h₀ hm₀
  unfold State.rpAnswer
  try dsimp only
  repeat' (first
    | with_reducible exact Fr.refl _ _
    | exact (rfl : (_ : Nat) = _)
    | with_reducible refine State.wrN_fr ?_ ?_)

theorem State.rpDone_fr {msk : Nat} {b₀ : State} {s : State} (h₀ : Fr msk b₀ s) (hm₀ : 4 ||| msk = msk) :
    Fr msk b₀ (State.rpDone s) := by
  refine Fr.step h₀ ?_ hm₀
  clear h₀ hm₀
  unfold State.rpDone
  try dsimp only
  repeat' (first
    | with_reducible exact Fr.refl _ _
    | exact (rfl : (_ : Nat) = _)
    | with_reducible refine State.event_fr ?_ ?_
    | with_reducible refine State.rpAnswer_fr ?_ ?_)

theorem execVolRemove_fr {msk : Nat} {b₀ : State} {s : State} (h₀ : Fr msk b₀ s) (hm₀ : 719686 ||| msk = msk) :
    FrO msk b₀ (execVolRemove s) := by
  refine FrO.step h₀ ?_ hm₀
  clear h₀ hm₀
  unfold execVolRemove
  try dsimp only
  repeat' (first
    | with_reducible exact Fr.refl _ _
    | with_reducible assumption
    | exact (rfl : (_ : Nat) = _)
    | with_reducible refine State.rpCommand_fr ?_ ?_ ?_
    | with_reducible refine State.rpAnswer_fr ?_ ?_
    | with_reducible refine State.setGroup_fr ?_ ?_
    | with_reducible refine State.tryAck_fr ?_ ?_
    | with_reducible refine State.rpDone_fr ?_ ?_
    | with_reducible refine State.resyncEnd_fr ?_ ?_
    | with_reducible refine State.tryRelease_fr ?_ ?_
    | with_reducible refine Fr.ite ?_ ?_
    | with_reducible refine Fr.foldl ?_ _ _ ?_
    | intro _ _ _)

theorem State.sealOut_fr {msk : Nat} {b₀ : State} {s : State} {g : Nat} {batch : Nat} {recs : List RepRec} (h₀ : Fr msk b₀ s) (hm₀ : 34822 ||| msk = msk) :
    Fr msk b₀ (State.sealOut s g batch recs) := by
  refine Fr.step h₀ ?_ hm₀
  clear h₀ hm₀
  unfold State.sealOut
  try dsimp only
  repeat' (first
    | with_reducible exact Fr.refl _ _
    | exact (rfl : (_ : Nat) = _)
    | with_reducible refine State.qpSend_fr ?_ ?_
    | with_reducible refine State.emit_fr ?_ ?_
    | with_reducible refine State.setGroup_fr ?_ ?_)

theorem State.replDup_fr {msk : Nat} {b₀ : State} {s : State} {group : Nat} (h₀ : Fr msk b₀ s) (hm₀ : 4 ||| msk = msk) :
    Fr msk b₀ (State.replDup s group) := by
  refine Fr.step h₀ ?_ hm₀
  clear h₀ hm₀
  unfold State.replDup
  try dsimp only
  repeat' (first
    | with_reducible exact Fr.refl _ _
    | exact (rfl : (_ : Nat) = _)
    | with_reducible refine State.count_fr ?_ ?_)

theorem State.stageBatch_fr {msk : Nat} {b₀ : State} {s : State} {group : Nat} {batch : Nat} (h₀ : Fr msk b₀ s) (hm₀ : 32774 ||| msk = msk) :
    Fr msk b₀ (State.stageBatch s group batch) := by
  refine Fr.step h₀ ?_ hm₀
  clear h₀ hm₀
  unfold State.stageBatch
  try dsimp only
  repeat' (first
    | with_reducible exact Fr.refl _ _
    | with_reducible assumption
    | exact (rfl : (_ : Nat) = _)
    | with_reducible refine State.setGroup_fr ?_ ?_
    | with_reducible refine State.wr64_fr ?_ ?_
    | with_reducible refine State.tlSend_fr ?_ ?_
    | with_reducible refine State.replReply_fr ?_ ?_
    | dsimp only
    | with_reducible refine Fr.ite ?_ ?_
    | with_reducible refine Fr.ite₁ ?_ ?_
    | with_reducible refine FrS.ite ?_ ?_
    | with_reducible refine FrP.ite ?_ ?_
    | with_reducible exact FrS.none
    | with_reducible refine FrS.some ?_
    | with_reducible refine FrS.map ?_
    | with_reducible exact FrP.none
    | with_reducible refine FrP.some ?_
    | with_reducible refine Fr.elim ?_ ?_
    | with_reducible refine Fr.foldl ?_ _ _ ?_
    | with_reducible refine Fr.foldl₂ ?_ _ _ ?_
    | intro _ _ _ _ _ _
    | intro _ _ _ _ _
    | intro _ _ _ _
    | intro _ _ _
    | intro _ _
    | intro _
    | with_reducible refine Fr.pair (h := ?_) (e := by assumption)
    | with_reducible refine FrO.got (h := ?_) (e := by assumption)
    | with_reducible refine FrS.get (h := ?_) (e := by assumption)
    | with_reducible refine FrP.get (h := ?_) (e := by assumption)
    | split)

theorem State.heldSeal_fr {msk : Nat} {b₀ : State} {s : State} {group : Nat} {x2 : Nat} (h₀ : Fr msk b₀ s) (hm₀ : 32774 ||| msk = msk) :
    Fr msk b₀ (State.heldSeal s group x2) := by
  refine Fr.step h₀ ?_ hm₀
  clear h₀ hm₀
  fun_induction State.heldSeal 
  all_goals try dsimp +zetaDelta only at *
  all_goals repeat' (first
    | with_reducible exact Fr.refl _ _
    | exact (rfl : (_ : Nat) = _)
    | with_reducible refine Fr.trans ?_ (by assumption)
    | with_reducible refine State.setGroup_fr ?_ ?_
    | with_reducible refine State.stageBatch_fr ?_ ?_)

theorem State.replSeal_fr {msk : Nat} {b₀ : State} {s : State} {group : Nat} {batch : Nat} (h₀ : Fr msk b₀ s) (hm₀ : 32774 ||| msk = msk) :
    Fr msk b₀ (State.replSeal s group batch) := by
  refine Fr.step h₀ ?_ hm₀
  clear h₀ hm₀
  unfold State.replSeal
  try dsimp only
  repeat' (first
    | with_reducible exact Fr.refl _ _
    | exact (rfl : (_ : Nat) = _)
    | with_reducible refine State.replDup_fr ?_ ?_
    | with_reducible refine State.setGroup_fr ?_ ?_
    | with_reducible refine State.heldSeal_fr ?_ ?_
    | with_reducible refine State.stageBatch_fr ?_ ?_
    | with_reducible refine Fr.ite ?_ ?_)

theorem execAppliedRx_fr {msk : Nat} {b₀ : State} {group : Nat} {batch : Nat} {s : State} (h₀ : Fr msk b₀ s) (hm₀ : 4 ||| msk = msk) :
    FrO msk b₀ (execAppliedRx group batch s) := by
  refine FrO.step h₀ ?_ hm₀
  clear h₀ hm₀
  unfold execAppliedRx
  try dsimp only
  repeat' (first
    | with_reducible exact Fr.refl _ _
    | exact (rfl : (_ : Nat) = _)
    | with_reducible refine State.event_fr ?_ ?_
    | with_reducible refine State.wr64_fr ?_ ?_
    | with_reducible refine FrO.ite ?_ ?_
    | with_reducible refine FrO.next ?_)

theorem State.recordBad_fr {msk : Nat} {b₀ : State} {s : State} {group : Nat} (h₀ : Fr msk b₀ s) (hm₀ : 693062 ||| msk = msk) :
    Fr msk b₀ (State.recordBad s group) := by
  refine Fr.step h₀ ?_ hm₀
  clear h₀ hm₀
  unfold State.recordBad
  try dsimp only
  repeat' (first
    | with_reducible exact Fr.refl _ _
    | exact (rfl : (_ : Nat) = _)
    | with_reducible refine State.raise_fr ?_ ?_)

theorem State.asTarget_fr {msk : Nat} {b₀ : State} {s : State} {v : Nat} (h₀ : Fr msk b₀ s) (hm₀ : 16384 ||| msk = msk) :
    Fr msk b₀ (State.asTarget s v) := by
  refine Fr.step h₀ ?_ hm₀
  clear h₀ hm₀
  unfold State.asTarget
  try dsimp only
  repeat' (first
    | with_reducible exact Fr.refl _ _
    | exact (rfl : (_ : Nat) = _)
    | with_reducible refine State.setVol_fr ?_ ?_)

theorem execClosedSend_fr {msk : Nat} {b₀ : State} {batch : Nat} {s : State} (h₀ : Fr msk b₀ s) (hm₀ : 32774 ||| msk = msk) :
    FrO msk b₀ (execClosedSend batch s) := by
  refine FrO.step h₀ ?_ hm₀
  clear h₀ hm₀
  unfold execClosedSend
  try dsimp only
  repeat' (first
    | with_reducible exact Fr.refl _ _
    | exact (rfl : (_ : Nat) = _)
    | with_reducible refine State.closedSend_fr ?_ ?_
    | with_reducible refine FrO.next ?_)

theorem State.remotePart_fr {msk : Nat} {b₀ : State} {s : State} {group : Nat} {rseq : Nat} {vol : Nat} {loc : Nat} {entry : Part} (h₀ : Fr msk b₀ s) (hm₀ : 14340 ||| msk = msk) :
    FrP msk b₀ (State.remotePart s group rseq vol loc entry) := by
  refine FrP.step h₀ ?_ hm₀
  clear h₀ hm₀
  unfold State.remotePart
  try dsimp only
  repeat' (first
    | with_reducible exact Fr.refl _ _
    | exact (rfl : (_ : Nat) = _)
    | with_reducible refine State.newCmd_fr ?_ ?_
    | with_reducible refine State.wr64_fr ?_ ?_
    | with_reducible refine State.putPart_fr ?_ ?_
    | with_reducible refine State.setCam_fr ?_ ?_
    | with_reducible refine State.setCmd_fr ?_ ?_
    | with_reducible refine FrP.ite ?_ ?_
    | with_reducible exact FrP.none
    | with_reducible refine FrP.some ?_
    | split)

theorem execReplRecordRx_fr {msk : Nat} {b₀ : State} {image : List Byte} {loc : Nat} {s : State} (h₀ : Fr msk b₀ s) (hm₀ : 719686 ||| msk = msk) :
    FrO msk b₀ (execReplRecordRx image loc s) := by
  refine FrO.step h₀ ?_ hm₀
  clear h₀ hm₀
  unfold execReplRecordRx
  try dsimp only
  repeat' (first
    | with_reducible exact Fr.refl _ _
    | with_reducible assumption
    | exact (rfl : (_ : Nat) = _)
    | with_reducible refine State.recordBad_fr ?_ ?_
    | with_reducible refine State.replReply_fr ?_ ?_
    | with_reducible refine State.replDup_fr ?_ ?_
    | with_reducible refine State.remotePart_fr ?_ ?_
    | with_reducible refine State.asTarget_fr ?_ ?_
    | with_reducible refine State.setGroup_fr ?_ ?_
    | dsimp only
    | with_reducible refine Fr.ite ?_ ?_
    | with_reducible refine Fr.ite₁ ?_ ?_
    | with_reducible refine FrO.ite ?_ ?_
    | with_reducible refine FrS.ite ?_ ?_
    | with_reducible refine FrP.ite ?_ ?_
    | with_reducible refine FrO.next ?_
    | with_reducible exact FrS.none
    | with_reducible refine FrS.some ?_
    | with_reducible refine FrS.map ?_
    | with_reducible exact FrP.none
    | with_reducible refine FrP.some ?_
    | with_reducible refine Fr.elim ?_ ?_
    | with_reducible refine Fr.foldl ?_ _ _ ?_
    | with_reducible refine Fr.foldl₂ ?_ _ _ ?_
    | intro _ _ _ _ _ _
    | intro _ _ _ _ _
    | intro _ _ _ _
    | intro _ _ _
    | intro _ _
    | intro _
    | with_reducible refine Fr.pair (h := ?_) (e := by assumption)
    | with_reducible refine FrO.got (h := ?_) (e := by assumption)
    | with_reducible refine FrS.get (h := ?_) (e := by assumption)
    | with_reducible refine FrP.get (h := ?_) (e := by assumption)
    | split)

theorem execSealSend_fr {msk : Nat} {b₀ : State} {group : Nat} {batch : Nat} {s : State} (h₀ : Fr msk b₀ s) (hm₀ : 34822 ||| msk = msk) :
    FrO msk b₀ (execSealSend group batch s) := by
  refine FrO.step h₀ ?_ hm₀
  clear h₀ hm₀
  unfold execSealSend
  try dsimp only
  repeat' (first
    | with_reducible exact Fr.refl _ _
    | exact (rfl : (_ : Nat) = _)
    | with_reducible refine State.sealOut_fr ?_ ?_
    | with_reducible refine FrO.ite ?_ ?_
    | with_reducible refine FrO.next ?_)

theorem execVolAdd_fr {msk : Nat} {b₀ : State} {s : State} (h₀ : Fr msk b₀ s) (hm₀ : 695110 ||| msk = msk) :
    FrO msk b₀ (execVolAdd s) := by
  refine FrO.step h₀ ?_ hm₀
  clear h₀ hm₀
  unfold execVolAdd
  try dsimp only
  repeat' (first
    | with_reducible exact Fr.refl _ _
    | with_reducible assumption
    | exact (rfl : (_ : Nat) = _)
    | with_reducible refine State.rpCommand_fr ?_ ?_ ?_
    | with_reducible refine State.rpAnswer_fr ?_ ?_
    | with_reducible refine State.setGroup_fr ?_ ?_
    | with_reducible refine State.resyncRange_fr ?_ ?_
    | with_reducible refine State.rpDone_fr ?_ ?_
    | with_reducible refine Fr.ite ?_ ?_
    | with_reducible refine Fr.foldl ?_ _ _ ?_
    | intro _ _ _)

theorem execGroupCreate_fr {msk : Nat} {b₀ : State} {s : State} (h₀ : Fr msk b₀ s) (hm₀ : 693062 ||| msk = msk) :
    FrO msk b₀ (execGroupCreate s) := by
  refine FrO.step h₀ ?_ hm₀
  clear h₀ hm₀
  unfold execGroupCreate
  try dsimp only
  repeat' (first
    | with_reducible exact Fr.refl _ _
    | with_reducible assumption
    | exact (rfl : (_ : Nat) = _)
    | with_reducible refine State.rpCommand_fr ?_ ?_ ?_
    | with_reducible refine State.rpAnswer_fr ?_ ?_
    | with_reducible refine State.rpDone_fr ?_ ?_
    | with_reducible refine State.setRpState_fr ?_ ?_
    | with_reducible refine State.setGroup_fr ?_ ?_
    | with_reducible refine Fr.ite ?_ ?_
    | intro _ _ _)

theorem execGroupDelete_fr {msk : Nat} {b₀ : State} {s : State} (h₀ : Fr msk b₀ s) (hm₀ : 719686 ||| msk = msk) :
    FrO msk b₀ (execGroupDelete s) := by
  refine FrO.step h₀ ?_ hm₀
  clear h₀ hm₀
  unfold execGroupDelete
  try dsimp only
  repeat' (first
    | with_reducible exact Fr.refl _ _
    | with_reducible assumption
    | exact (rfl : (_ : Nat) = _)
    | with_reducible refine State.rpCommand_fr ?_ ?_ ?_
    | with_reducible refine State.rpAnswer_fr ?_ ?_
    | with_reducible refine State.tryAck_fr ?_ ?_
    | with_reducible refine State.setRpState_fr ?_ ?_
    | with_reducible refine State.rpDone_fr ?_ ?_
    | with_reducible refine State.actEnd_fr ?_ ?_
    | with_reducible refine State.tryRelease_fr ?_ ?_
    | with_reducible refine Fr.ite ?_ ?_
    | with_reducible refine Fr.foldl ?_ _ _ ?_
    | intro _ _ _
    | refine Fr.mk' ?_)

theorem State.batchAgain_fr {msk : Nat} {b₀ : State} {s : State} {control : Nat} (h₀ : Fr msk b₀ s) (hm₀ : 34822 ||| msk = msk) :
    Fr msk b₀ (State.batchAgain s control) := by
  refine Fr.step h₀ ?_ hm₀
  clear h₀ hm₀
  unfold State.batchAgain
  try dsimp only
  repeat' (first
    | with_reducible exact Fr.refl _ _
    | with_reducible assumption
    | exact (rfl : (_ : Nat) = _)
    | with_reducible refine State.replSend_fr ?_ ?_
    | with_reducible refine State.setGroup_fr ?_ ?_
    | with_reducible refine Fr.foldl ?_ _ _ ?_
    | intro _ _ _)

theorem execReplResume_fr {msk : Nat} {b₀ : State} {s : State} (h₀ : Fr msk b₀ s) (hm₀ : 695110 ||| msk = msk) :
    FrO msk b₀ (execReplResume s) := by
  refine FrO.step h₀ ?_ hm₀
  clear h₀ hm₀
  unfold execReplResume
  try dsimp only
  repeat' (first
    | with_reducible exact Fr.refl _ _
    | with_reducible assumption
    | exact (rfl : (_ : Nat) = _)
    | with_reducible refine State.rpCommand_fr ?_ ?_ ?_
    | with_reducible refine State.rpAnswer_fr ?_ ?_
    | with_reducible refine State.actStart_fr ?_ ?_
    | with_reducible refine State.replActRun_fr ?_ ?_
    | with_reducible refine Fr.ite ?_ ?_
    | intro _ _ _)

theorem State.applyNext_fr {msk : Nat} {b₀ : State} {s : State} {group : Nat} {loc : Nat} (h₀ : Fr msk b₀ s) (hm₀ : 47108 ||| msk = msk) :
    Fr msk b₀ (State.applyNext s group loc) := by
  refine Fr.step h₀ ?_ hm₀
  clear h₀ hm₀
  unfold State.applyNext
  try dsimp only
  repeat' (first
    | with_reducible exact Fr.refl _ _
    | exact (rfl : (_ : Nat) = _)
    | with_reducible refine State.setGroup_fr ?_ ?_
    | with_reducible refine State.remotePart_fr ?_ ?_
    | with_reducible refine State.putPart_fr ?_ ?_
    | with_reducible refine State.dropCmd_fr ?_ ?_
    | with_reducible refine Fr.ite ?_ ?_
    | with_reducible refine FrP.get (h := ?_) (e := by assumption)
    | split)

theorem State.replSuspend_fr {msk : Nat} {b₀ : State} {s : State} {g : Nat} (h₀ : Fr msk b₀ s) (hm₀ : 63494 ||| msk = msk) :
    Fr msk b₀ (State.replSuspend s g) := by
  refine Fr.step h₀ ?_ hm₀
  clear h₀ hm₀
  unfold State.replSuspend
  try dsimp only
  repeat' (first
    | with_reducible exact Fr.refl _ _
    | exact (rfl : (_ : Nat) = _)
    | with_reducible refine State.setGroup_fr ?_ ?_
    | with_reducible refine State.replSettle_fr ?_ ?_
    | with_reducible refine State.event_fr ?_ ?_
    | with_reducible refine State.setRpState_fr ?_ ?_)

theorem execReplSuspend_fr {msk : Nat} {b₀ : State} {s : State} (h₀ : Fr msk b₀ s) (hm₀ : 719686 ||| msk = msk) :
    FrO msk b₀ (execReplSuspend s) := by
  refine FrO.step h₀ ?_ hm₀
  clear h₀ hm₀
  unfold execReplSuspend
  try dsimp only
  repeat' (first
    | with_reducible exact Fr.refl _ _
    | with_reducible assumption
    | exact (rfl : (_ : Nat) = _)
    | with_reducible refine State.rpCommand_fr ?_ ?_ ?_
    | with_reducible refine State.rpAnswer_fr ?_ ?_
    | with_reducible refine State.rpDone_fr ?_ ?_
    | with_reducible refine State.actEnd_fr ?_ ?_
    | with_reducible refine State.replSuspend_fr ?_ ?_
    | with_reducible refine Fr.ite ?_ ?_
    | intro _ _ _)

theorem execBatchApply_fr {msk : Nat} {b₀ : State} {group : Nat} {loc : Nat} {s : State} (h₀ : Fr msk b₀ s) (hm₀ : 47110 ||| msk = msk) :
    FrO msk b₀ (execBatchApply group loc s) := by
  refine FrO.step h₀ ?_ hm₀
  clear h₀ hm₀
  unfold execBatchApply
  try dsimp only
  repeat' (first
    | with_reducible exact Fr.refl _ _
    | exact (rfl : (_ : Nat) = _)
    | with_reducible refine State.batchDone_fr ?_ ?_
    | with_reducible refine State.applyNext_fr ?_ ?_
    | with_reducible refine FrO.next ?_)

theorem execSyncAckRx_fr {msk : Nat} {b₀ : State} {group : Nat} {rseq : Nat} {s : State} (h₀ : Fr msk b₀ s) (hm₀ : 63750 ||| msk = msk) :
    FrO msk b₀ (execSyncAckRx group rseq s) := by
  refine FrO.step h₀ ?_ hm₀
  clear h₀ hm₀
  unfold execSyncAckRx
  try dsimp only
  repeat' (first
    | with_reducible exact Fr.refl _ _
    | exact (rfl : (_ : Nat) = _)
    | with_reducible refine State.replAnswered_fr ?_ ?_
    | with_reducible refine FrO.ite ?_ ?_
    | with_reducible refine FrO.next ?_)

theorem State.suspendScan_fr {msk : Nat} {b₀ : State} {s : State} (h₀ : Fr msk b₀ s) (hm₀ : 63494 ||| msk = msk) :
    Fr msk b₀ (State.suspendScan s) := by
  refine Fr.step h₀ ?_ hm₀
  clear h₀ hm₀
  unfold State.suspendScan
  try dsimp only
  repeat' (first
    | with_reducible exact Fr.refl _ _
    | with_reducible assumption
    | exact (rfl : (_ : Nat) = _)
    | with_reducible refine State.replSuspend_fr ?_ ?_
    | with_reducible refine Fr.foldl ?_ _ _ ?_
    | intro _ _ _)

theorem execSyncTimeout_fr {msk : Nat} {b₀ : State} {group : Nat} {s : State} (h₀ : Fr msk b₀ s) (hm₀ : 693062 ||| msk = msk) :
    FrO msk b₀ (execSyncTimeout group s) := by
  refine FrO.step h₀ ?_ hm₀
  clear h₀ hm₀
  unfold execSyncTimeout
  try dsimp only
  repeat' (first
    | with_reducible exact Fr.refl _ _
    | exact (rfl : (_ : Nat) = _)
    | with_reducible refine State.raise_fr ?_ ?_
    | with_reducible refine State.setGroup_fr ?_ ?_
    | with_reducible refine FrO.ite ?_ ?_
    | with_reducible refine FrO.next ?_)

theorem execFailHoldTimeout_fr {msk : Nat} {b₀ : State} {n : Nat} {s : State} (h₀ : Fr msk b₀ s) (hm₀ : 55302 ||| msk = msk) :
    FrO msk b₀ (execFailHoldTimeout n s) := by
  refine FrO.step h₀ ?_ hm₀
  clear h₀ hm₀
  unfold execFailHoldTimeout
  try dsimp only
  repeat' (first
    | with_reducible exact Fr.refl _ _
    | with_reducible assumption
    | exact (rfl : (_ : Nat) = _)
    | with_reducible refine State.setGroup_fr ?_ ?_
    | with_reducible refine State.complete_fr ?_ ?_
    | with_reducible refine FrO.ite ?_ ?_
    | with_reducible refine FrO.next ?_
    | with_reducible refine Fr.elim ?_ ?_
    | with_reducible refine Fr.foldl ?_ _ _ ?_
    | intro _ _ _
    | intro _
    | split)

theorem execBatchBoundary_fr {msk : Nat} {b₀ : State} {group : Nat} {s : State} (h₀ : Fr msk b₀ s) (hm₀ : 32774 ||| msk = msk) :
    FrO msk b₀ (execBatchBoundary group s) := by
  refine FrO.step h₀ ?_ hm₀
  clear h₀ hm₀
  unfold execBatchBoundary
  try dsimp only
  repeat' (first
    | with_reducible exact Fr.refl _ _
    | exact (rfl : (_ : Nat) = _)
    | with_reducible refine State.closedSend_fr ?_ ?_
    | with_reducible refine Fr.ite ?_ ?_
    | with_reducible refine FrO.next ?_)

theorem execReplPromote_fr {msk : Nat} {b₀ : State} {s : State} (h₀ : Fr msk b₀ s) (hm₀ : 709446 ||| msk = msk) :
    FrO msk b₀ (execReplPromote s) := by
  refine FrO.step h₀ ?_ hm₀
  clear h₀ hm₀
  unfold execReplPromote
  try dsimp only
  repeat' (first
    | with_reducible exact Fr.refl _ _
    | with_reducible assumption
    | exact (rfl : (_ : Nat) = _)
    | with_reducible refine State.rpCommand_fr ?_ ?_ ?_
    | with_reducible refine State.rpAnswer_fr ?_ ?_
    | with_reducible refine State.setGroup_fr ?_ ?_
    | with_reducible refine State.setVol_fr ?_ ?_
    | with_reducible refine State.rpDone_fr ?_ ?_
    | with_reducible refine State.setRpState_fr ?_ ?_
    | with_reducible refine Fr.ite ?_ ?_
    | with_reducible refine Fr.foldl ?_ _ _ ?_
    | intro _ _ _)

end Sys2Proof.Machine
end

