-- ==== Sys2Proof/Laws/FrPackets.lean ====
section
/-! SUPPORT. Frames of the operations of Machine.Packets: the parts of State that each may change. -/

set_option maxRecDepth 20000
set_option Elab.async false
set_option linter.unusedTactic false
set_option linter.unreachableTactic false
set_option linter.unusedVariables false

namespace Sys2Proof.Machine

theorem State.retryExceeded_fr {msk : Nat} {b₀ : State} {s : State} {qpn : Nat} (h₀ : Fr msk b₀ s) (hm₀ : 34822 ||| msk = msk) :
    Fr msk b₀ (State.retryExceeded s qpn) := by
  refine Fr.step h₀ ?_ hm₀
  clear h₀ hm₀
  unfold State.retryExceeded
  try dsimp only
  repeat' (first
    | with_reducible exact Fr.refl _ _
    | exact (rfl : (_ : Nat) = _)
    | with_reducible refine State.replQpFailed_fr ?_ ?_
    | with_reducible refine State.evPost_fr ?_ ?_
    | with_reducible refine State.qpError_fr ?_ ?_
    | split)

theorem State.keysRotate_fr {msk : Nat} {b₀ : State} {s : State} (h₀ : Fr msk b₀ s) (hm₀ : 2048 ||| msk = msk) :
    Fr msk b₀ (State.keysRotate s) := by
  refine Fr.step h₀ ?_ hm₀
  clear h₀ hm₀
  unfold State.keysRotate
  try dsimp only
  repeat' (first
    | with_reducible exact Fr.refl _ _
    | refine Fr.mk' ?_)

theorem State.cnpMark_fr {msk : Nat} {b₀ : State} {s : State} {qpn : Nat} {q : Qp} {p : Packet} (h₀ : Fr msk b₀ s) (hm₀ : 2050 ||| msk = msk) :
    Fr msk b₀ (State.cnpMark s qpn q p) := by
  refine Fr.step h₀ ?_ hm₀
  clear h₀ hm₀
  unfold State.cnpMark
  try dsimp only
  repeat' (first
    | with_reducible exact Fr.refl _ _
    | exact (rfl : (_ : Nat) = _)
    | with_reducible refine State.emit_fr ?_ ?_
    | with_reducible refine State.setQp_fr ?_ ?_
    | with_reducible refine Fr.ite ?_ ?_)

theorem execCnpRateRestore_fr {msk : Nat} {b₀ : State} {qpn : Nat} {s : State} (h₀ : Fr msk b₀ s) (hm₀ : 2048 ||| msk = msk) :
    FrO msk b₀ (execCnpRateRestore qpn s) := by
  refine FrO.step h₀ ?_ hm₀
  clear h₀ hm₀
  unfold execCnpRateRestore
  try dsimp only
  repeat' (first
    | with_reducible exact Fr.refl _ _
    | exact (rfl : (_ : Nat) = _)
    | with_reducible refine State.setQp_fr ?_ ?_
    | with_reducible refine FrO.next ?_)

theorem State.setMr_fr {msk : Nat} {b₀ : State} {s : State} {i : Nat} {m : Mr} (h₀ : Fr msk b₀ s) (hm₀ : 2048 ||| msk = msk) :
    Fr msk b₀ (State.setMr s i m) := by
  refine Fr.step h₀ ?_ hm₀
  clear h₀ hm₀
  unfold State.setMr
  try dsimp only
  repeat' (first
    | with_reducible exact Fr.refl _ _
    | refine Fr.mk' ?_)

theorem State.ackSend_fr {msk : Nat} {b₀ : State} {s : State} {qpn : Nat} {psn : Nat} (h₀ : Fr msk b₀ s) (hm₀ : 2 ||| msk = msk) :
    Fr msk b₀ (State.ackSend s qpn psn) := by
  refine Fr.step h₀ ?_ hm₀
  clear h₀ hm₀
  unfold State.ackSend
  try dsimp only
  repeat' (first
    | with_reducible exact Fr.refl _ _
    | exact (rfl : (_ : Nat) = _)
    | with_reducible refine State.emit_fr ?_ ?_)

theorem State.missFull_fr {msk : Nat} {b₀ : State} {s : State} {qpn : Nat} {q : Qp} {lport : Nat} (h₀ : Fr msk b₀ s) (hm₀ : 695110 ||| msk = msk) :
    Fr msk b₀ (State.missFull s qpn q lport) := by
  refine Fr.step h₀ ?_ hm₀
  clear h₀ hm₀
  unfold State.missFull
  try dsimp only
  repeat' (first
    | with_reducible exact Fr.refl _ _
    | exact (rfl : (_ : Nat) = _)
    | with_reducible refine State.emit_fr ?_ ?_
    | with_reducible refine State.setQp_fr ?_ ?_
    | with_reducible refine State.raise_fr ?_ ?_
    | with_reducible refine State.event_fr ?_ ?_
    | with_reducible refine State.count_fr ?_ ?_
    | with_reducible refine State.evPost_fr ?_ ?_
    | with_reducible refine Fr.ite ?_ ?_
    | refine Fr.mk' ?_)

theorem State.ackRest_fr {msk : Nat} {b₀ : State} {s : State} {qpn : Nat} (h₀ : Fr msk b₀ s) (hm₀ : 2050 ||| msk = msk) :
    Fr msk b₀ (State.ackRest s qpn) := by
  refine Fr.step h₀ ?_ hm₀
  clear h₀ hm₀
  unfold State.ackRest
  try dsimp only
  repeat' (first
    | with_reducible exact Fr.refl _ _
    | with_reducible assumption
    | exact (rfl : (_ : Nat) = _)
    | with_reducible refine State.ackSend_fr ?_ ?_
    | with_reducible refine State.setQp_fr ?_ ?_
    | dsimp only
    | with_reducible refine Fr.ite ?_ ?_
    | with_reducible refine Fr.ite₁ ?_ ?_
    | with_reducible refine FrS.ite ?_ ?_
    | with_reducible refine FrP.ite ?_ ?_
    | with_reducible exact FrS.none
    | with_reducible refine FrS.some ?_
    | with_reducible refine FrS.map ?_
    | with_reducible exact FrP.none
    | with_reducible refine FrP.some ?_
    | with_reducible refine Fr.elim ?_ ?_
    | with_reducible refine Fr.foldl ?_ _ _ ?_
    | with_reducible refine Fr.foldl₂ ?_ _ _ ?_
    | intro _ _ _ _ _ _
    | intro _ _ _ _ _
    | intro _ _ _ _
    | intro _ _ _
    | intro _ _
    | intro _
    | with_reducible refine Fr.pair (h := ?_) (e := by assumption)
    | with_reducible refine FrO.got (h := ?_) (e := by assumption)
    | with_reducible refine FrS.get (h := ?_) (e := by assumption)
    | with_reducible refine FrP.get (h := ?_) (e := by assumption)
    | split)

theorem State.sealTake_fr {msk : Nat} {b₀ : State} {s : State} {x : SealMsg} (h₀ : Fr msk b₀ s) (hm₀ : 2048 ||| msk = msk) :
    Fr msk b₀ (State.sealTake s x) := by
  refine Fr.step h₀ ?_ hm₀
  clear h₀ hm₀
  unfold State.sealTake
  try dsimp only
  repeat' (first
    | with_reducible exact Fr.refl _ _
    | refine Fr.mk' ?_)

theorem State.sealDeliver_fr {msk : Nat} {b₀ : State} {s : State} {x : SealMsg} (h₀ : Fr msk b₀ s) (hm₀ : 34822 ||| msk = msk) :
    Fr msk b₀ (State.sealDeliver s x) := by
  refine Fr.step h₀ ?_ hm₀
  clear h₀ hm₀
  unfold State.sealDeliver
  try dsimp only
  repeat' (first
    | with_reducible exact Fr.refl _ _
    | with_reducible assumption
    | exact (rfl : (_ : Nat) = _)
    | with_reducible refine State.ackRest_fr ?_ ?_
    | with_reducible refine State.ackSend_fr ?_ ?_
    | with_reducible refine State.ctxTouch_fr ?_ ?_
    | with_reducible refine State.sealTake_fr ?_ ?_
    | with_reducible refine State.replSeal_fr ?_ ?_
    | dsimp only
    | with_reducible refine Fr.ite ?_ ?_
    | with_reducible refine Fr.ite₁ ?_ ?_
    | with_reducible refine FrS.ite ?_ ?_
    | with_reducible refine FrP.ite ?_ ?_
    | with_reducible exact FrS.none
    | with_reducible refine FrS.some ?_
    | with_reducible refine FrS.map ?_
    | with_reducible exact FrP.none
    | with_reducible refine FrP.some ?_
    | with_reducible refine Fr.elim ?_ ?_
    | with_reducible refine Fr.foldl ?_ _ _ ?_
    | with_reducible refine Fr.foldl₂ ?_ _ _ ?_
    | intro _ _ _ _ _ _
    | intro _ _ _ _ _
    | intro _ _ _ _
    | intro _ _ _
    | intro _ _
    | intro _
    | with_reducible refine Fr.pair (h := ?_) (e := by assumption)
    | with_reducible refine FrO.got (h := ?_) (e := by assumption)
    | with_reducible refine FrS.get (h := ?_) (e := by assumption)
    | with_reducible refine FrP.get (h := ?_) (e := by assumption)
    | split)

theorem State.sealScan_fr {msk : Nat} {b₀ : State} {s : State} {x1 : Nat} (h₀ : Fr msk b₀ s) (hm₀ : 34822 ||| msk = msk) :
    Fr msk b₀ (State.sealScan s x1) := by
  refine Fr.step h₀ ?_ hm₀
  clear h₀ hm₀
  fun_induction State.sealScan 
  all_goals try dsimp +zetaDelta only at *
  all_goals repeat' (first
    | with_reducible exact Fr.refl _ _
    | exact (rfl : (_ : Nat) = _)
    | with_reducible refine Fr.trans ?_ (by assumption)
    | with_reducible refine State.sealDeliver_fr ?_ ?_)

theorem State.capsule_fr {msk : Nat} {b₀ : State} {s : State} {qpn : Nat} {q : Qp} {c : Capsule} (h₀ : Fr msk b₀ s) (hm₀ : 55302 ||| msk = msk) :
    Fr msk b₀ (State.capsule s qpn q c) := by
  refine Fr.step h₀ ?_ hm₀
  clear h₀ hm₀
  unfold State.capsule
  try dsimp only
  repeat' (first
    | with_reducible exact Fr.refl _ _
    | exact (rfl : (_ : Nat) = _)
    | with_reducible refine State.fetch_fr ?_ ?_
    | with_reducible refine State.complete_fr ?_ ?_
    | with_reducible refine Fr.ite ?_ ?_)

theorem State.rotateKey_fr {msk : Nat} {b₀ : State} {s : State} {i : Nat} (h₀ : Fr msk b₀ s) (hm₀ : 2048 ||| msk = msk) :
    Fr msk b₀ (State.rotateKey s i) := by
  refine Fr.step h₀ ?_ hm₀
  clear h₀ hm₀
  unfold State.rotateKey
  try dsimp only
  repeat' (first
    | with_reducible exact Fr.refl _ _
    | exact (rfl : (_ : Nat) = _)
    | with_reducible refine State.setMr_fr ?_ ?_
    | split)

theorem State.roceExec_fr {msk : Nat} {b₀ : State} {s : State} {qpn : Nat} {q : Qp} {p : Packet} (h₀ : Fr msk b₀ s) (hm₀ : 55302 ||| msk = msk) :
    Fr msk b₀ (State.roceExec s qpn q p).1 := by
  refine Fr.step h₀ ?_ hm₀
  clear h₀ hm₀
  unfold State.roceExec
  try dsimp only
  repeat' (first
    | with_reducible exact Fr.refl _ _
    | exact (rfl : (_ : Nat) = _)
    | with_reducible refine State.emit_fr ?_ ?_
    | with_reducible refine State.setQp_fr ?_ ?_
    | with_reducible refine State.evPost_fr ?_ ?_
    | with_reducible refine State.count_fr ?_ ?_
    | with_reducible refine State.capsule_fr ?_ ?_
    | with_reducible refine State.rotateKey_fr ?_ ?_
    | dsimp only
    | with_reducible refine Fr.ite₁ ?_ ?_
    | with_reducible refine Fr.elim ?_ ?_
    | intro _
    | split)

theorem State.sealsRun_fr {msk : Nat} {b₀ : State} {s : State} (h₀ : Fr msk b₀ s) (hm₀ : 34822 ||| msk = msk) :
    Fr msk b₀ (State.sealsRun s) := by
  refine Fr.step h₀ ?_ hm₀
  clear h₀ hm₀
  unfold State.sealsRun
  try dsimp only
  repeat' (first
    | with_reducible exact Fr.refl _ _
    | exact (rfl : (_ : Nat) = _)
    | with_reducible refine State.sealScan_fr ?_ ?_)

theorem execSealTimeout_fr {msk : Nat} {b₀ : State} {qpn : Nat} {s : State} (h₀ : Fr msk b₀ s) (hm₀ : 2054 ||| msk = msk) :
    FrO msk b₀ (execSealTimeout qpn s) := by
  refine FrO.step h₀ ?_ hm₀
  clear h₀ hm₀
  unfold execSealTimeout
  try dsimp only
  repeat' (first
    | with_reducible exact Fr.refl _ _
    | with_reducible assumption
    | exact (rfl : (_ : Nat) = _)
    | with_reducible refine State.evPost_fr ?_ ?_
    | with_reducible refine State.ackRest_fr ?_ ?_
    | with_reducible refine State.emit_fr ?_ ?_
    | with_reducible refine State.ctxTouch_fr ?_ ?_
    | with_reducible refine State.sealTake_fr ?_ ?_
    | dsimp only
    | with_reducible refine Fr.ite ?_ ?_
    | with_reducible refine Fr.ite₁ ?_ ?_
    | with_reducible refine FrO.ite ?_ ?_
    | with_reducible refine FrS.ite ?_ ?_
    | with_reducible refine FrP.ite ?_ ?_
    | with_reducible refine FrO.next ?_
    | with_reducible exact FrS.none
    | with_reducible refine FrS.some ?_
    | with_reducible refine FrS.map ?_
    | with_reducible exact FrP.none
    | with_reducible refine FrP.some ?_
    | with_reducible refine Fr.elim ?_ ?_
    | with_reducible refine Fr.foldl ?_ _ _ ?_
    | with_reducible refine Fr.foldl₂ ?_ _ _ ?_
    | intro _ _ _ _ _ _
    | intro _ _ _ _ _
    | intro _ _ _ _
    | intro _ _ _
    | intro _ _
    | intro _
    | with_reducible refine Fr.pair (h := ?_) (e := by assumption)
    | with_reducible refine FrO.got (h := ?_) (e := by assumption)
    | with_reducible refine FrS.get (h := ?_) (e := by assumption)
    | with_reducible refine FrP.get (h := ?_) (e := by assumption)
    | split)

theorem State.ackLater_fr {msk : Nat} {b₀ : State} {s : State} {qpn : Nat} {psn : Nat} (h₀ : Fr msk b₀ s) (hm₀ : 2050 ||| msk = msk) :
    Fr msk b₀ (State.ackLater s qpn psn) := by
  refine Fr.step h₀ ?_ hm₀
  clear h₀ hm₀
  unfold State.ackLater
  try dsimp only
  repeat' (first
    | with_reducible exact Fr.refl _ _
    | with_reducible assumption
    | exact (rfl : (_ : Nat) = _)
    | with_reducible refine State.ackSend_fr ?_ ?_
    | with_reducible refine State.setQp_fr ?_ ?_
    | dsimp only
    | with_reducible refine Fr.ite ?_ ?_
    | with_reducible refine Fr.ite₁ ?_ ?_
    | with_reducible refine FrS.ite ?_ ?_
    | with_reducible refine FrP.ite ?_ ?_
    | with_reducible exact FrS.none
    | with_reducible refine FrS.some ?_
    | with_reducible refine FrS.map ?_
    | with_reducible exact FrP.none
    | with_reducible refine FrP.some ?_
    | with_reducible refine Fr.elim ?_ ?_
    | with_reducible refine Fr.foldl ?_ _ _ ?_
    | with_reducible refine Fr.foldl₂ ?_ _ _ ?_
    | intro _ _ _ _ _ _
    | intro _ _ _ _ _
    | intro _ _ _ _
    | intro _ _ _
    | intro _ _
    | intro _
    | with_reducible refine Fr.pair (h := ?_) (e := by assumption)
    | with_reducible refine FrO.got (h := ?_) (e := by assumption)
    | with_reducible refine FrS.get (h := ?_) (e := by assumption)
    | with_reducible refine FrP.get (h := ?_) (e := by assumption)
    | split)

theorem State.sealRun_fr {msk : Nat} {b₀ : State} {s : State} {qpn : Nat} {q : Qp} {psn : Nat} {image : List Byte} (h₀ : Fr msk b₀ s) (hm₀ : 2054 ||| msk = msk) :
    Fr msk b₀ (State.sealRun s qpn q psn image) := by
  refine Fr.step h₀ ?_ hm₀
  clear h₀ hm₀
  unfold State.sealRun
  try dsimp only
  repeat' (first
    | with_reducible exact Fr.refl _ _
    | with_reducible assumption
    | exact (rfl : (_ : Nat) = _)
    | with_reducible refine State.emit_fr ?_ ?_
    | with_reducible refine State.count_fr ?_ ?_
    | with_reducible refine State.ackSend_fr ?_ ?_
    | with_reducible refine State.ackLater_fr ?_ ?_
    | dsimp only
    | with_reducible refine Fr.ite ?_ ?_
    | with_reducible refine Fr.ite₁ ?_ ?_
    | with_reducible refine FrS.ite ?_ ?_
    | with_reducible refine FrP.ite ?_ ?_
    | with_reducible exact FrS.none
    | with_reducible refine FrS.some ?_
    | with_reducible refine FrS.map ?_
    | with_reducible exact FrP.none
    | with_reducible refine FrP.some ?_
    | with_reducible refine Fr.elim ?_ ?_
    | with_reducible refine Fr.foldl ?_ _ _ ?_
    | with_reducible refine Fr.foldl₂ ?_ _ _ ?_
    | intro _ _ _ _ _ _
    | intro _ _ _ _ _
    | intro _ _ _ _
    | intro _ _ _
    | intro _ _
    | intro _
    | with_reducible refine Fr.pair (h := ?_) (e := by assumption)
    | with_reducible refine FrO.got (h := ?_) (e := by assumption)
    | with_reducible refine FrS.get (h := ?_) (e := by assumption)
    | with_reducible refine FrP.get (h := ?_) (e := by assumption)
    | split
    | refine Fr.mk' ?_)

theorem State.roceRun_fr {msk : Nat} {b₀ : State} {s : State} {qpn : Nat} {p : Packet} (h₀ : Fr msk b₀ s) (hm₀ : 55302 ||| msk = msk) :
    Fr msk b₀ (State.roceRun s qpn p) := by
  refine Fr.step h₀ ?_ hm₀
  clear h₀ hm₀
  unfold State.roceRun
  try dsimp only
  repeat' (first
    | with_reducible exact Fr.refl _ _
    | with_reducible assumption
    | exact (rfl : (_ : Nat) = _)
    | with_reducible refine State.sealRun_fr ?_ ?_
    | with_reducible refine State.emit_fr ?_ ?_
    | with_reducible refine State.roceExec_fr ?_ ?_
    | with_reducible refine State.ctxTouch_fr ?_ ?_
    | with_reducible refine State.ackSend_fr ?_ ?_
    | with_reducible refine State.evPost_fr ?_ ?_
    | with_reducible refine State.count_fr ?_ ?_
    | with_reducible refine State.ackLater_fr ?_ ?_
    | dsimp only
    | with_reducible refine Fr.ite ?_ ?_
    | with_reducible refine Fr.ite₁ ?_ ?_
    | with_reducible refine FrS.ite ?_ ?_
    | with_reducible refine FrP.ite ?_ ?_
    | with_reducible exact FrS.none
    | with_reducible refine FrS.some ?_
    | with_reducible refine FrS.map ?_
    | with_reducible exact FrP.none
    | with_reducible refine FrP.some ?_
    | with_reducible refine Fr.elim ?_ ?_
    | with_reducible refine Fr.foldl ?_ _ _ ?_
    | with_reducible refine Fr.foldl₂ ?_ _ _ ?_
    | intro _ _ _ _ _ _
    | intro _ _ _ _ _
    | intro _ _ _ _
    | intro _ _ _
    | intro _ _
    | intro _
    | with_reducible refine Fr.pair (h := ?_) (e := by assumption)
    | with_reducible refine FrO.got (h := ?_) (e := by assumption)
    | with_reducible refine FrS.get (h := ?_) (e := by assumption)
    | with_reducible refine FrP.get (h := ?_) (e := by assumption)
    | split)

theorem State.resendAll_fr {msk : Nat} {b₀ : State} {s : State} {qpn : Nat} (h₀ : Fr msk b₀ s) (hm₀ : 2 ||| msk = msk) :
    Fr msk b₀ (State.resendAll s qpn) := by
  refine Fr.step h₀ ?_ hm₀
  clear h₀ hm₀
  unfold State.resendAll
  try dsimp only
  repeat' (first
    | with_reducible exact Fr.refl _ _
    | exact (rfl : (_ : Nat) = _)
    | with_reducible refine State.emit_fr ?_ ?_
    | split)

theorem State.transportRetry_fr {msk : Nat} {b₀ : State} {s : State} {qpn : Nat} {q : Qp} (h₀ : Fr msk b₀ s) (hm₀ : 34822 ||| msk = msk) :
    Fr msk b₀ (State.transportRetry s qpn q) := by
  refine Fr.step h₀ ?_ hm₀
  clear h₀ hm₀
  unfold State.transportRetry
  try dsimp only
  repeat' (first
    | with_reducible exact Fr.refl _ _
    | exact (rfl : (_ : Nat) = _)
    | with_reducible refine State.retryExceeded_fr ?_ ?_
    | with_reducible refine State.resendAll_fr ?_ ?_
    | with_reducible refine State.setQp_fr ?_ ?_
    | with_reducible refine Fr.ite ?_ ?_)

theorem execTransportAckTimeout_fr {msk : Nat} {b₀ : State} {qpn : Nat} {s : State} (h₀ : Fr msk b₀ s) (hm₀ : 34822 ||| msk = msk) :
    FrO msk b₀ (execTransportAckTimeout qpn s) := by
  refine FrO.step h₀ ?_ hm₀
  clear h₀ hm₀
  unfold execTransportAckTimeout
  try dsimp only
  repeat' (first
    | with_reducible exact Fr.refl _ _
    | exact (rfl : (_ : Nat) = _)
    | with_reducible refine State.transportRetry_fr ?_ ?_
    | with_reducible refine FrO.ite ?_ ?_
    | with_reducible refine FrO.next ?_
    | split)

theorem State.fetchUe_fr {msk : Nat} {b₀ : State} {s : State} {qpn : Nat} (h₀ : Fr msk b₀ s) (hm₀ : 2054 ||| msk = msk) :
    Fr msk b₀ (State.fetchUe s qpn) := by
  refine Fr.step h₀ ?_ hm₀
  clear h₀ hm₀
  unfold State.fetchUe
  try dsimp only
  repeat' (first
    | with_reducible exact Fr.refl _ _
    | exact (rfl : (_ : Nat) = _)
    | with_reducible refine State.qpFatal_fr ?_ ?_
    | with_reducible refine State.setQp_fr ?_ ?_)

theorem execContextWritebackDone_fr {msk : Nat} {b₀ : State} {qpn : Nat} {s : State} (h₀ : Fr msk b₀ s) (hm₀ : 2052 ||| msk = msk) :
    FrO msk b₀ (execContextWritebackDone qpn s) := by
  refine FrO.step h₀ ?_ hm₀
  clear h₀ hm₀
  unfold execContextWritebackDone
  try dsimp only
  repeat' (first
    | with_reducible exact Fr.refl _ _
    | exact (rfl : (_ : Nat) = _)
    | with_reducible refine State.setQp_fr ?_ ?_
    | with_reducible refine State.count_fr ?_ ?_
    | with_reducible refine Fr.ite ?_ ?_
    | with_reducible refine FrO.ite ?_ ?_
    | with_reducible refine FrO.next ?_
    | split)

theorem State.park_fr {msk : Nat} {b₀ : State} {s : State} {qpn : Nat} {q : Qp} {lport : Nat} {p : Packet} (h₀ : Fr msk b₀ s) (hm₀ : 695110 ||| msk = msk) :
    Fr msk b₀ (State.park s qpn q lport p) := by
  refine Fr.step h₀ ?_ hm₀
  clear h₀ hm₀
  unfold State.park
  try dsimp only
  repeat' (first
    | with_reducible exact Fr.refl _ _
    | exact (rfl : (_ : Nat) = _)
    | with_reducible refine State.missFull_fr ?_ ?_
    | with_reducible refine State.highWater_fr ?_ ?_
    | with_reducible refine State.wrN_fr ?_ ?_
    | with_reducible refine State.setQp_fr ?_ ?_
    | with_reducible refine State.count_fr ?_ ?_
    | with_reducible refine Fr.ite ?_ ?_)

theorem State.packetIn_fr {msk : Nat} {b₀ : State} {s : State} {lport : Nat} {qpn : Nat} {p : Packet} (h₀ : Fr msk b₀ s) (hm₀ : 711494 ||| msk = msk) :
    Fr msk b₀ (State.packetIn s lport qpn p) := by
  refine Fr.step h₀ ?_ hm₀
  clear h₀ hm₀
  unfold State.packetIn
  try dsimp only
  repeat' (first
    | with_reducible exact Fr.refl _ _
    | with_reducible assumption
    | exact (rfl : (_ : Nat) = _)
    | with_reducible refine State.count_fr ?_ ?_
    | with_reducible refine State.cnpMark_fr ?_ ?_
    | with_reducible refine State.emit_fr ?_ ?_
    | with_reducible refine State.setQp_fr ?_ ?_
    | with_reducible refine State.park_fr ?_ ?_
    | with_reducible refine State.sealsRun_fr ?_ ?_
    | with_reducible refine State.roceRun_fr ?_ ?_
    | dsimp only
    | with_reducible refine Fr.ite ?_ ?_
    | with_reducible refine Fr.ite₁ ?_ ?_
    | with_reducible refine FrS.ite ?_ ?_
    | with_reducible refine FrP.ite ?_ ?_
    | with_reducible exact FrS.none
    | with_reducible refine FrS.some ?_
    | with_reducible refine FrS.map ?_
    | with_reducible exact FrP.none
    | with_reducible refine FrP.some ?_
    | with_reducible refine Fr.elim ?_ ?_
    | with_reducible refine Fr.foldl ?_ _ _ ?_
    | with_reducible refine Fr.foldl₂ ?_ _ _ ?_
    | intro _ _ _ _ _ _
    | intro _ _ _ _ _
    | intro _ _ _ _
    | intro _ _ _
    | intro _ _
    | intro _
    | with_reducible refine Fr.pair (h := ?_) (e := by assumption)
    | with_reducible refine FrO.got (h := ?_) (e := by assumption)
    | with_reducible refine FrS.get (h := ?_) (e := by assumption)
    | with_reducible refine FrP.get (h := ?_) (e := by assumption)
    | split)

theorem execRoceRequestRx_fr {msk : Nat} {b₀ : State} {lport : Nat} {qpn : Nat} {p : Packet} {s : State} (h₀ : Fr msk b₀ s) (hm₀ : 711494 ||| msk = msk) :
    FrO msk b₀ (execRoceRequestRx lport qpn p s) := by
  refine FrO.step h₀ ?_ hm₀
  clear h₀ hm₀
  unfold execRoceRequestRx
  try dsimp only
  repeat' (first
    | with_reducible exact Fr.refl _ _
    | exact (rfl : (_ : Nat) = _)
    | with_reducible refine State.packetIn_fr ?_ ?_
    | with_reducible refine FrO.next ?_)

theorem execCnpRx_fr {msk : Nat} {b₀ : State} {qpn : Nat} {s : State} (h₀ : Fr msk b₀ s) (hm₀ : 2052 ||| msk = msk) :
    FrO msk b₀ (execCnpRx qpn s) := by
  refine FrO.step h₀ ?_ hm₀
  clear h₀ hm₀
  unfold execCnpRx
  try dsimp only
  repeat' (first
    | with_reducible exact Fr.refl _ _
    | with_reducible assumption
    | exact (rfl : (_ : Nat) = _)
    | with_reducible refine State.count_fr ?_ ?_
    | with_reducible refine State.setQp_fr ?_ ?_
    | dsimp only
    | with_reducible refine Fr.ite ?_ ?_
    | with_reducible refine Fr.ite₁ ?_ ?_
    | with_reducible refine FrO.ite ?_ ?_
    | with_reducible refine FrS.ite ?_ ?_
    | with_reducible refine FrP.ite ?_ ?_
    | with_reducible refine FrO.next ?_
    | with_reducible exact FrS.none
    | with_reducible refine FrS.some ?_
    | with_reducible refine FrS.map ?_
    | with_reducible exact FrP.none
    | with_reducible refine FrP.some ?_
    | with_reducible refine Fr.elim ?_ ?_
    | with_reducible refine Fr.foldl ?_ _ _ ?_
    | with_reducible refine Fr.foldl₂ ?_ _ _ ?_
    | intro _ _ _ _ _ _
    | intro _ _ _ _ _
    | intro _ _ _ _
    | intro _ _ _
    | intro _ _
    | intro _
    | with_reducible refine Fr.pair (h := ?_) (e := by assumption)
    | with_reducible refine FrO.got (h := ?_) (e := by assumption)
    | with_reducible refine FrS.get (h := ?_) (e := by assumption)
    | with_reducible refine FrP.get (h := ?_) (e := by assumption)
    | split)

theorem State.fetchTook_fr {msk : Nat} {b₀ : State} {s : State} {k : Nat} (h₀ : Fr msk b₀ s) (hm₀ : 693062 ||| msk = msk) :
    Fr msk b₀ (State.fetchTook s k) := by
  refine Fr.step h₀ ?_ hm₀
  clear h₀ hm₀
  unfold State.fetchTook
  try dsimp only
  repeat' (first
    | with_reducible exact Fr.refl _ _
    | exact (rfl : (_ : Nat) = _)
    | with_reducible refine State.highWater_fr ?_ ?_
    | with_reducible refine State.raise_fr ?_ ?_
    | with_reducible refine State.useFree_fr ?_ ?_
    | with_reducible refine Fr.ite ?_ ?_)

theorem State.unpark_fr {msk : Nat} {b₀ : State} {s : State} {qpn : Nat} (h₀ : Fr msk b₀ s) (hm₀ : 55302 ||| msk = msk) :
    Fr msk b₀ (State.unpark s qpn) := by
  refine Fr.step h₀ ?_ hm₀
  clear h₀ hm₀
  unfold State.unpark
  try dsimp only
  repeat' (first
    | with_reducible exact Fr.refl _ _
    | with_reducible assumption
    | exact (rfl : (_ : Nat) = _)
    | with_reducible refine State.missLeaveAll_fr ?_ ?_
    | with_reducible refine State.setQp_fr ?_ ?_
    | with_reducible refine State.sealsRun_fr ?_ ?_
    | with_reducible refine State.roceRun_fr ?_ ?_
    | with_reducible refine State.count_fr ?_ ?_
    | dsimp only
    | with_reducible refine Fr.ite ?_ ?_
    | with_reducible refine Fr.ite₁ ?_ ?_
    | with_reducible refine FrS.ite ?_ ?_
    | with_reducible refine FrP.ite ?_ ?_
    | with_reducible exact FrS.none
    | with_reducible refine FrS.some ?_
    | with_reducible refine FrS.map ?_
    | with_reducible exact FrP.none
    | with_reducible refine FrP.some ?_
    | with_reducible refine Fr.elim ?_ ?_
    | with_reducible refine Fr.foldl ?_ _ _ ?_
    | with_reducible refine Fr.foldl₂ ?_ _ _ ?_
    | intro _ _ _ _ _ _
    | intro _ _ _ _ _
    | intro _ _ _ _
    | intro _ _ _
    | intro _ _
    | intro _
    | with_reducible refine Fr.pair (h := ?_) (e := by assumption)
    | with_reducible refine FrO.got (h := ?_) (e := by assumption)
    | with_reducible refine FrS.get (h := ?_) (e := by assumption)
    | with_reducible refine FrP.get (h := ?_) (e := by assumption)
    | split)

theorem execRoceNakRx_fr {msk : Nat} {b₀ : State} {qpn : Nat} {psn : Nat} {kind : NakKind} {s : State} (h₀ : Fr msk b₀ s) (hm₀ : 34822 ||| msk = msk) :
    FrO msk b₀ (execRoceNakRx qpn psn kind s) := by
  refine FrO.step h₀ ?_ hm₀
  clear h₀ hm₀
  unfold execRoceNakRx
  try dsimp only
  repeat' (first
    | with_reducible exact Fr.refl _ _
    | with_reducible assumption
    | exact (rfl : (_ : Nat) = _)
    | with_reducible refine State.count_fr ?_ ?_
    | with_reducible refine State.setQp_fr ?_ ?_
    | with_reducible refine State.resendAll_fr ?_ ?_
    | with_reducible refine State.retryExceeded_fr ?_ ?_
    | with_reducible refine State.transportRetry_fr ?_ ?_
    | with_reducible refine State.batchAgain_fr ?_ ?_
    | with_reducible refine State.evPost_fr ?_ ?_
    | with_reducible refine State.replQpFailed_fr ?_ ?_
    | with_reducible refine State.qpError_fr ?_ ?_
    | dsimp only
    | with_reducible refine Fr.ite ?_ ?_
    | with_reducible refine Fr.ite₁ ?_ ?_
    | with_reducible refine FrO.ite ?_ ?_
    | with_reducible refine FrS.ite ?_ ?_
    | with_reducible refine FrP.ite ?_ ?_
    | with_reducible refine FrO.next ?_
    | with_reducible exact FrS.none
    | with_reducible refine FrS.some ?_
    | with_reducible refine FrS.map ?_
    | with_reducible exact FrP.none
    | with_reducible refine FrP.some ?_
    | with_reducible refine Fr.elim ?_ ?_
    | with_reducible refine Fr.foldl ?_ _ _ ?_
    | with_reducible refine Fr.foldl₂ ?_ _ _ ?_
    | intro _ _ _ _ _ _
    | intro _ _ _ _ _
    | intro _ _ _ _
    | intro _ _ _
    | intro _ _
    | intro _
    | with_reducible refine Fr.pair (h := ?_) (e := by assumption)
    | with_reducible refine FrO.got (h := ?_) (e := by assumption)
    | with_reducible refine FrS.get (h := ?_) (e := by assumption)
    | with_reducible refine FrP.get (h := ?_) (e := by assumption)
    | split)

theorem execSealRx_fr {msk : Nat} {b₀ : State} {lport : Nat} {qpn : Nat} {psn : Nat} {image : List Byte} {s : State} (h₀ : Fr msk b₀ s) (hm₀ : 711494 ||| msk = msk) :
    FrO msk b₀ (execSealRx lport qpn psn image s) := by
  refine FrO.step h₀ ?_ hm₀
  clear h₀ hm₀
  unfold execSealRx
  try dsimp only
  repeat' (first
    | with_reducible exact Fr.refl _ _
    | with_reducible assumption
    | exact (rfl : (_ : Nat) = _)
    | with_reducible refine State.packetIn_fr ?_ ?_
    | dsimp only
    | with_reducible refine Fr.ite ?_ ?_
    | with_reducible refine Fr.ite₁ ?_ ?_
    | with_reducible refine FrO.ite ?_ ?_
    | with_reducible refine FrS.ite ?_ ?_
    | with_reducible refine FrP.ite ?_ ?_
    | with_reducible refine FrO.next ?_
    | with_reducible exact FrS.none
    | with_reducible refine FrS.some ?_
    | with_reducible refine FrS.map ?_
    | with_reducible exact FrP.none
    | with_reducible refine FrP.some ?_
    | with_reducible refine Fr.elim ?_ ?_
    | with_reducible refine Fr.foldl ?_ _ _ ?_
    | with_reducible refine Fr.foldl₂ ?_ _ _ ?_
    | intro _ _ _ _ _ _
    | intro _ _ _ _ _
    | intro _ _ _ _
    | intro _ _ _
    | intro _ _
    | intro _
    | with_reducible refine Fr.pair (h := ?_) (e := by assumption)
    | with_reducible refine FrO.got (h := ?_) (e := by assumption)
    | with_reducible refine FrS.get (h := ?_) (e := by assumption)
    | with_reducible refine FrP.get (h := ?_) (e := by assumption)
    | split)

theorem execNvmeofCapsuleRx_fr {msk : Nat} {b₀ : State} {lport : Nat} {qpn : Nat} {p : Packet} {c : Capsule} {s : State} (h₀ : Fr msk b₀ s) (hm₀ : 711494 ||| msk = msk) :
    FrO msk b₀ (execNvmeofCapsuleRx lport qpn p c s) := by
  refine FrO.step h₀ ?_ hm₀
  clear h₀ hm₀
  unfold execNvmeofCapsuleRx
  try dsimp only
  repeat' (first
    | with_reducible exact Fr.refl _ _
    | exact (rfl : (_ : Nat) = _)
    | with_reducible refine State.packetIn_fr ?_ ?_
    | with_reducible refine FrO.next ?_)

theorem execContextFetchDone_fr {msk : Nat} {b₀ : State} {qpn : Nat} {ue : Option Nat} {s : State} (h₀ : Fr msk b₀ s) (hm₀ : 711494 ||| msk = msk) :
    FrO msk b₀ (execContextFetchDone qpn ue s) := by
  refine FrO.step h₀ ?_ hm₀
  clear h₀ hm₀
  unfold execContextFetchDone
  try dsimp only
  repeat' (first
    | with_reducible exact Fr.refl _ _
    | exact (rfl : (_ : Nat) = _)
    | with_reducible refine State.fetchTook_fr ?_ ?_
    | with_reducible refine State.raise_fr ?_ ?_
    | with_reducible refine State.fetchUe_fr ?_ ?_
    | with_reducible refine State.setQp_fr ?_ ?_
    | with_reducible refine State.ctxInstall_fr ?_ ?_
    | with_reducible refine State.unpark_fr ?_ ?_
    | with_reducible refine Fr.ite ?_ ?_
    | with_reducible refine FrO.next ?_
    | split)

theorem execRoceAckRx_fr {msk : Nat} {b₀ : State} {qpn : Nat} {psn : Nat} {s : State} (h₀ : Fr msk b₀ s) (hm₀ : 34820 ||| msk = msk) :
    FrO msk b₀ (execRoceAckRx qpn psn s) := by
  refine FrO.step h₀ ?_ hm₀
  clear h₀ hm₀
  unfold execRoceAckRx
  try dsimp only
  repeat' (first
    | with_reducible exact Fr.refl _ _
    | with_reducible assumption
    | exact (rfl : (_ : Nat) = _)
    | with_reducible refine State.count_fr ?_ ?_
    | with_reducible refine State.setQp_fr ?_ ?_
    | with_reducible refine State.qpDrain_fr ?_ ?_
    | with_reducible refine State.replWire_fr ?_ ?_
    | dsimp only
    | with_reducible refine Fr.ite ?_ ?_
    | with_reducible refine Fr.ite₁ ?_ ?_
    | with_reducible refine FrO.ite ?_ ?_
    | with_reducible refine FrS.ite ?_ ?_
    | with_reducible refine FrP.ite ?_ ?_
    | with_reducible refine FrO.next ?_
    | with_reducible exact FrS.none
    | with_reducible refine FrS.some ?_
    | with_reducible refine FrS.map ?_
    | with_reducible exact FrP.none
    | with_reducible refine FrP.some ?_
    | with_reducible refine Fr.elim ?_ ?_
    | with_reducible refine Fr.foldl ?_ _ _ ?_
    | with_reducible refine Fr.foldl₂ ?_ _ _ ?_
    | intro _ _ _ _ _ _
    | intro _ _ _ _ _
    | intro _ _ _ _
    | intro _ _ _
    | intro _ _
    | intro _
    | with_reducible refine Fr.pair (h := ?_) (e := by assumption)
    | with_reducible refine FrO.got (h := ?_) (e := by assumption)
    | with_reducible refine FrS.get (h := ?_) (e := by assumption)
    | with_reducible refine FrP.get (h := ?_) (e := by assumption)
    | split)

end Sys2Proof.Machine
end

