-- ==== Sys2Proof/Laws/FrDramRead.lean ====
section
/-! SUPPORT. Frames of the operations of Machine.DramRead: the parts of State that each may change. -/

set_option maxRecDepth 20000
set_option Elab.async false
set_option linter.unusedTactic false
set_option linter.unreachableTactic false
set_option linter.unusedVariables false

namespace Sys2Proof.Machine

theorem State.ueRecover_fr {msk : Nat} {b₀ : State} {s : State} {u : DramUse} (h₀ : Fr msk b₀ s) (hm₀ : 719686 ||| msk = msk) :
    Fr msk b₀ (State.ueRecover s u) := by
  refine Fr.step h₀ ?_ hm₀
  clear h₀ hm₀
  unfold State.ueRecover
  try dsimp only
  repeat' (first
    | with_reducible exact Fr.refl _ _
    | exact (rfl : (_ : Nat) = _)
    | with_reducible refine State.fetchUe_fr ?_ ?_
    | with_reducible refine State.bucketCrc_fr ?_ ?_
    | with_reducible refine State.qpFatal_fr ?_ ?_
    | with_reducible refine State.complete_fr ?_ ?_
    | with_reducible refine State.undo_fr ?_ ?_
    | split)

theorem State.dramUe_fr {msk : Nat} {b₀ : State} {s : State} {ch : Nat} {addr : Nat} {rank : Nat} {u : DramUse} {fails : Bool} {injected : Bool} (h₀ : Fr msk b₀ s) (hm₀ : 719686 ||| msk = msk) :
    Fr msk b₀ (State.dramUe s ch addr rank u fails injected) := by
  refine Fr.step h₀ ?_ hm₀
  clear h₀ hm₀
  unfold State.dramUe
  try dsimp only
  repeat' (first
    | with_reducible exact Fr.refl _ _
    | exact (rfl : (_ : Nat) = _)
    | with_reducible refine State.event_fr ?_ ?_
    | with_reducible refine State.dramAddr_fr ?_ ?_
    | with_reducible refine State.count_fr ?_ ?_
    | with_reducible refine State.ueRecover_fr ?_ ?_
    | with_reducible refine State.raise_fr ?_ ?_
    | with_reducible refine Fr.ite ?_ ?_)

theorem execCaParityError_fr {msk : Nat} {b₀ : State} {ch : Nat} {addr : Nat} {rank : Nat} {again : Bool} {use : DramUse} {fails : Bool} {s : State} (h₀ : Fr msk b₀ s) (hm₀ : 719686 ||| msk = msk) :
    FrO msk b₀ (execCaParityError ch addr rank again use fails s) := by
  refine FrO.step h₀ ?_ hm₀
  clear h₀ hm₀
  unfold execCaParityError
  try dsimp only
  repeat' (first
    | with_reducible exact Fr.refl _ _
    | exact (rfl : (_ : Nat) = _)
    | with_reducible refine State.inject_fr ?_ ?_
    | with_reducible refine State.raise_fr ?_ ?_
    | with_reducible refine State.dramUe_fr ?_ ?_
    | with_reducible refine Fr.ite ?_ ?_
    | with_reducible refine FrO.next ?_)

theorem State.dramReturn_fr {msk : Nat} {b₀ : State} {s : State} {c : Nat} {r : DramReq} {ecc : Nat} {sub : Nat} {dev : Nat} {whole : Bool} {fails : Bool} (h₀ : Fr msk b₀ s) (hm₀ : 785222 ||| msk = msk) :
    Fr msk b₀ (State.dramReturn s c r ecc sub dev whole fails) := by
  refine Fr.step h₀ ?_ hm₀
  clear h₀ hm₀
  unfold State.dramReturn
  try dsimp only
  repeat' (first
    | with_reducible exact Fr.refl _ _
    | with_reducible assumption
    | exact (rfl : (_ : Nat) = _)
    | with_reducible refine State.inject_fr ?_ ?_
    | with_reducible refine State.dramUe_fr ?_ ?_
    | with_reducible refine State.dramCe_fr ?_ ?_
    | dsimp only
    | with_reducible refine Fr.ite ?_ ?_
    | with_reducible refine Fr.ite₁ ?_ ?_
    | with_reducible refine FrS.ite ?_ ?_
    | with_reducible refine FrP.ite ?_ ?_
    | with_reducible exact FrS.none
    | with_reducible refine FrS.some ?_
    | with_reducible refine FrS.map ?_
    | with_reducible exact FrP.none
    | with_reducible refine FrP.some ?_
    | with_reducible refine Fr.elim ?_ ?_
    | with_reducible refine Fr.foldl ?_ _ _ ?_
    | with_reducible refine Fr.foldl₂ ?_ _ _ ?_
    | intro _ _ _ _ _ _
    | intro _ _ _ _ _
    | intro _ _ _ _
    | intro _ _ _
    | intro _ _
    | intro _
    | with_reducible refine Fr.pair (h := ?_) (e := by assumption)
    | with_reducible refine FrO.got (h := ?_) (e := by assumption)
    | with_reducible refine FrS.get (h := ?_) (e := by assumption)
    | with_reducible refine FrP.get (h := ?_) (e := by assumption)
    | split)

theorem execDramReadReturn_fr {msk : Nat} {b₀ : State} {ch : Nat} {ns : Nat} {arrived : List DramReq} {ecc : Nat} {sub : Nat} {dev : Nat} {whole : Bool} {fails : Bool} {s : State} (h₀ : Fr msk b₀ s) (hm₀ : 785222 ||| msk = msk) :
    FrO msk b₀ (execDramReadReturn ch ns arrived ecc sub dev whole fails s) := by
  refine FrO.step h₀ ?_ hm₀
  clear h₀ hm₀
  unfold execDramReadReturn
  try dsimp only
  repeat' (first
    | with_reducible exact Fr.refl _ _
    | with_reducible assumption
    | exact (rfl : (_ : Nat) = _)
    | with_reducible refine State.dcServe_fr ?_ ?_
    | with_reducible refine State.dramReturn_fr ?_ ?_
    | dsimp only
    | with_reducible refine Fr.ite ?_ ?_
    | with_reducible refine Fr.ite₁ ?_ ?_
    | with_reducible refine FrO.ite ?_ ?_
    | with_reducible refine FrS.ite ?_ ?_
    | with_reducible refine FrP.ite ?_ ?_
    | with_reducible refine FrO.next ?_
    | with_reducible exact FrS.none
    | with_reducible refine FrS.some ?_
    | with_reducible refine FrS.map ?_
    | with_reducible exact FrP.none
    | with_reducible refine FrP.some ?_
    | with_reducible refine Fr.elim ?_ ?_
    | with_reducible refine Fr.foldl ?_ _ _ ?_
    | with_reducible refine Fr.foldl₂ ?_ _ _ ?_
    | intro _ _ _ _ _ _
    | intro _ _ _ _ _
    | intro _ _ _ _
    | intro _ _ _
    | intro _ _
    | intro _
    | with_reducible refine Fr.pair (h := ?_) (e := by assumption)
    | with_reducible refine FrO.got (h := ?_) (e := by assumption)
    | with_reducible refine FrS.get (h := ?_) (e := by assumption)
    | with_reducible refine FrP.get (h := ?_) (e := by assumption)
    | split)

end Sys2Proof.Machine
end

