-- ==== Sys2Proof/Laws/FrPoolCmds.lean ====
section
/-! SUPPORT. Frames of the operations of Machine.PoolCmds: the parts of State that each may change. -/

set_option maxRecDepth 20000
set_option Elab.async false
set_option linter.unusedTactic false
set_option linter.unreachableTactic false
set_option linter.unusedVariables false

namespace Sys2Proof.Machine

theorem State.bandMove_fr {msk : Nat} {b₀ : State} {s : State} {pool : Nat} {b : BandCopy} {bands : List BandCopy} (h₀ : Fr msk b₀ s) (hm₀ : 711494 ||| msk = msk) :
    Fr msk b₀ (State.bandMove s pool b bands) := by
  refine Fr.step h₀ ?_ hm₀
  clear h₀ hm₀
  unfold State.bandMove
  try dsimp only
  repeat' (first
    | with_reducible exact Fr.refl _ _
    | with_reducible assumption
    | exact (rfl : (_ : Nat) = _)
    | with_reducible refine State.sendMod_fr ?_ ?_
    | with_reducible refine State.setBg_fr ?_ ?_
    | with_reducible refine State.bandDrop_fr ?_ ?_
    | with_reducible refine State.bandStart_fr ?_ ?_
    | with_reducible refine Fr.foldl ?_ _ _ ?_
    | intro _ _ _)

theorem State.reshapeMay_fr {msk : Nat} {b₀ : State} {s : State} {pool : Nat} (h₀ : Fr msk b₀ s) (hm₀ : 256 ||| msk = msk) :
    Fr msk b₀ (State.reshapeMay s pool).1 := by
  refine Fr.step h₀ ?_ hm₀
  clear h₀ hm₀
  unfold State.reshapeMay
  try dsimp only
  repeat' (first
    | with_reducible exact Fr.refl _ _
    | exact (rfl : (_ : Nat) = _)
    | with_reducible refine State.standing_fr ?_ ?_
    | with_reducible refine Fr.ite₁ ?_ ?_)

theorem execReshapeMigrateStep_fr {msk : Nat} {b₀ : State} {pool : Nat} {lost : List Nat} {places : List (List Place)} {s : State} (h₀ : Fr msk b₀ s) (hm₀ : 709446 ||| msk = msk) :
    FrO msk b₀ (execReshapeMigrateStep pool lost places s) := by
  refine FrO.step h₀ ?_ hm₀
  clear h₀ hm₀
  unfold execReshapeMigrateStep
  try dsimp only
  repeat' (first
    | with_reducible exact Fr.refl _ _
    | exact (rfl : (_ : Nat) = _)
    | with_reducible refine State.reshapeMay_fr ?_ ?_
    | with_reducible refine State.setSeg_fr ?_ ?_
    | with_reducible refine State.copyGrains_fr ?_ ?_
    | with_reducible refine State.setReclaim_fr ?_ ?_
    | with_reducible refine Fr.ite ?_ ?_
    | with_reducible refine FrO.ite ?_ ?_
    | with_reducible refine FrO.next ?_
    | with_reducible refine Fr.pair (h := ?_) (e := by assumption)
    | split)

theorem State.bandPlace_fr {msk : Nat} {b₀ : State} {s : State} {pool : Nat} {b : BandCopy} (h₀ : Fr msk b₀ s) (hm₀ : 16390 ||| msk = msk) :
    Fr msk b₀ (State.bandPlace s pool b) := by
  refine Fr.step h₀ ?_ hm₀
  clear h₀ hm₀
  unfold State.bandPlace
  try dsimp only
  repeat' (first
    | with_reducible exact Fr.refl _ _
    | with_reducible assumption
    | exact (rfl : (_ : Nat) = _)
    | with_reducible refine State.setPool_fr ?_ ?_
    | with_reducible refine State.sendMod_fr ?_ ?_
    | with_reducible refine State.setBg_fr ?_ ?_
    | with_reducible refine Fr.ite ?_ ?_
    | with_reducible refine Fr.foldl ?_ _ _ ?_
    | intro _ _ _
    | split)

theorem State.spareErase_fr {msk : Nat} {b₀ : State} {s : State} {pool : Nat} {q : Nat} (h₀ : Fr msk b₀ s) (hm₀ : 16390 ||| msk = msk) :
    Fr msk b₀ (State.spareErase s pool q) := by
  refine Fr.step h₀ ?_ hm₀
  clear h₀ hm₀
  unfold State.spareErase
  try dsimp only
  repeat' (first
    | with_reducible exact Fr.refl _ _
    | with_reducible assumption
    | exact (rfl : (_ : Nat) = _)
    | with_reducible refine State.sendMod_fr ?_ ?_
    | dsimp only
    | with_reducible refine Fr.ite ?_ ?_
    | with_reducible refine Fr.ite₁ ?_ ?_
    | with_reducible refine FrS.ite ?_ ?_
    | with_reducible refine FrP.ite ?_ ?_
    | with_reducible exact FrS.none
    | with_reducible refine FrS.some ?_
    | with_reducible refine FrS.map ?_
    | with_reducible exact FrP.none
    | with_reducible refine FrP.some ?_
    | with_reducible refine Fr.elim ?_ ?_
    | with_reducible refine Fr.foldl ?_ _ _ ?_
    | with_reducible refine Fr.foldl₂ ?_ _ _ ?_
    | intro _ _ _ _ _ _
    | intro _ _ _ _ _
    | intro _ _ _ _
    | intro _ _ _
    | intro _ _
    | intro _
    | with_reducible refine Fr.pair (h := ?_) (e := by assumption)
    | with_reducible refine FrO.got (h := ?_) (e := by assumption)
    | with_reducible refine FrS.get (h := ?_) (e := by assumption)
    | with_reducible refine FrP.get (h := ?_) (e := by assumption)
    | split)

theorem State.poolMake_fr {msk : Nat} {b₀ : State} {s : State} {x : PoolArgs} {bands : List BandCopy} (h₀ : Fr msk b₀ s) (hm₀ : 545030 ||| msk = msk) :
    Fr msk b₀ (State.poolMake s x bands) := by
  refine Fr.step h₀ ?_ hm₀
  clear h₀ hm₀
  unfold State.poolMake
  try dsimp only
  repeat' (first
    | with_reducible exact Fr.refl _ _
    | with_reducible assumption
    | exact (rfl : (_ : Nat) = _)
    | with_reducible refine State.spareInit_fr ?_ ?_
    | with_reducible refine State.bandPlace_fr ?_ ?_
    | with_reducible refine State.spareErase_fr ?_ ?_
    | with_reducible refine State.actEnd_fr ?_ ?_
    | with_reducible refine State.spillRecompute_fr ?_ ?_
    | with_reducible refine State.putBit_fr ?_ ?_
    | with_reducible refine State.recap_fr ?_ ?_
    | dsimp only
    | with_reducible refine Fr.ite ?_ ?_
    | with_reducible refine Fr.ite₁ ?_ ?_
    | with_reducible refine FrS.ite ?_ ?_
    | with_reducible refine FrP.ite ?_ ?_
    | with_reducible exact FrS.none
    | with_reducible refine FrS.some ?_
    | with_reducible refine FrS.map ?_
    | with_reducible exact FrP.none
    | with_reducible refine FrP.some ?_
    | with_reducible refine Fr.elim ?_ ?_
    | with_reducible refine Fr.foldl ?_ _ _ ?_
    | with_reducible refine Fr.foldl₂ ?_ _ _ ?_
    | intro _ _ _ _ _ _
    | intro _ _ _ _ _
    | intro _ _ _ _
    | intro _ _ _
    | intro _ _
    | intro _
    | with_reducible refine Fr.pair (h := ?_) (e := by assumption)
    | with_reducible refine FrO.got (h := ?_) (e := by assumption)
    | with_reducible refine FrS.get (h := ?_) (e := by assumption)
    | with_reducible refine FrP.get (h := ?_) (e := by assumption)
    | split
    | refine Fr.mk' ?_)

theorem State.poolDrop_fr {msk : Nat} {b₀ : State} {s : State} {pool : Nat} (h₀ : Fr msk b₀ s) (hm₀ : 544774 ||| msk = msk) :
    Fr msk b₀ (State.poolDrop s pool) := by
  refine Fr.step h₀ ?_ hm₀
  clear h₀ hm₀
  unfold State.poolDrop
  try dsimp only
  repeat' (first
    | with_reducible exact Fr.refl _ _
    | with_reducible assumption
    | exact (rfl : (_ : Nat) = _)
    | with_reducible refine State.sendMod_fr ?_ ?_
    | with_reducible refine State.setBg_fr ?_ ?_
    | with_reducible refine State.purge_fr ?_ ?_
    | with_reducible refine State.spillRecompute_fr ?_ ?_
    | with_reducible refine State.wrN_fr ?_ ?_
    | with_reducible refine Fr.foldl ?_ _ _ ?_
    | intro _ _ _
    | split
    | refine Fr.mk' ?_)

theorem State.poolDelete_fr {msk : Nat} {b₀ : State} {s : State} {pool : Nat} (h₀ : Fr msk b₀ s) (hm₀ : 545030 ||| msk = msk) :
    Fr msk b₀ (State.poolDelete s pool) := by
  refine Fr.step h₀ ?_ hm₀
  clear h₀ hm₀
  unfold State.poolDelete
  try dsimp only
  repeat' (first
    | with_reducible exact Fr.refl _ _
    | exact (rfl : (_ : Nat) = _)
    | with_reducible refine State.actEnd_fr ?_ ?_
    | with_reducible refine State.poolDrop_fr ?_ ?_)

theorem State.setPhase_fr {msk : Nat} {b₀ : State} {s : State} {pool : Nat} {ph : ReshapePhase} (h₀ : Fr msk b₀ s) (hm₀ : 16388 ||| msk = msk) :
    Fr msk b₀ (State.setPhase s pool ph) := by
  refine Fr.step h₀ ?_ hm₀
  clear h₀ hm₀
  unfold State.setPhase
  try dsimp only
  repeat' (first
    | with_reducible exact Fr.refl _ _
    | exact (rfl : (_ : Nat) = _)
    | with_reducible refine State.putFld_fr ?_ ?_
    | with_reducible refine State.setPool_fr ?_ ?_)

theorem State.reshapeRun_fr {msk : Nat} {b₀ : State} {s : State} {x : PoolArgs} (h₀ : Fr msk b₀ s) (hm₀ : 16388 ||| msk = msk) :
    Fr msk b₀ (State.reshapeRun s x) := by
  refine Fr.step h₀ ?_ hm₀
  clear h₀ hm₀
  unfold State.reshapeRun
  try dsimp only
  repeat' (first
    | with_reducible exact Fr.refl _ _
    | exact (rfl : (_ : Nat) = _)
    | with_reducible refine State.setPhase_fr ?_ ?_
    | with_reducible refine State.setPool_fr ?_ ?_)

theorem State.spActRun_fr {msk : Nat} {b₀ : State} {s : State} {a : Activity} {bands : List BandCopy} (h₀ : Fr msk b₀ s) (hm₀ : 545030 ||| msk = msk) :
    Fr msk b₀ (State.spActRun s a bands) := by
  refine Fr.step h₀ ?_ hm₀
  clear h₀ hm₀
  unfold State.spActRun
  try dsimp only
  repeat' (first
    | with_reducible exact Fr.refl _ _
    | exact (rfl : (_ : Nat) = _)
    | with_reducible refine State.event_fr ?_ ?_
    | with_reducible refine State.putBit_fr ?_ ?_
    | with_reducible refine State.poolMake_fr ?_ ?_
    | with_reducible refine State.poolDelete_fr ?_ ?_
    | with_reducible refine State.reshapeRun_fr ?_ ?_
    | split)

theorem State.spCommand_fr {msk : Nat} {b₀ : State} {s : State} {f : State → State} (hf : ∀ t0, Fr msk b₀ t0 → Fr msk b₀ (f t0)) (h₀ : Fr msk b₀ s) (hm₀ : 693062 ||| msk = msk) :
    FrO msk b₀ (State.spCommand s f) := by
  unfold State.spCommand
  try dsimp only
  repeat' (first
    | with_reducible assumption
    | with_reducible refine State.writeDiscarded_fr ?_ ?_
    | with_reducible refine hf _ ?_
    | with_reducible refine Fr.ite ?_ ?_
    | with_reducible refine FrO.next ?_)

theorem State.spAnswer_fr {msk : Nat} {b₀ : State} {s : State} {status : Nat} {queued : Bool} (h₀ : Fr msk b₀ s) (hm₀ : 4 ||| msk = msk) :
    Fr msk b₀ (State.spAnswer s status queued) := by
  refine Fr.step h₀ ?_ hm₀
  clear h₀ hm₀
  unfold State.spAnswer
  try dsimp only
  repeat' (first
    | with_reducible exact Fr.refl _ _
    | exact (rfl : (_ : Nat) = _)
    | with_reducible refine State.wrN_fr ?_ ?_
    | with_reducible refine State.event_fr ?_ ?_
    | with_reducible refine Fr.ite ?_ ?_)

theorem State.spStart_fr {msk : Nat} {b₀ : State} {s : State} {a : Activity} {run : State → State} (hf : ∀ t0, Fr msk b₀ t0 → Fr msk b₀ (run t0)) (h₀ : Fr msk b₀ s) (hm₀ : 260 ||| msk = msk) :
    Fr msk b₀ (State.spStart s a run) := by
  unfold State.spStart
  try dsimp only
  repeat' (first
    | with_reducible assumption
    | exact Fr.sub rfl hm₀
    | with_reducible refine State.actStart_fr ?_ ?_
    | with_reducible refine State.spAnswer_fr ?_ ?_
    | with_reducible refine hf _ ?_
    | with_reducible refine Fr.ite ?_ ?_)

theorem execReshape_fr {msk : Nat} {b₀ : State} {differs : Bool} {s : State} (h₀ : Fr msk b₀ s) (hm₀ : 709446 ||| msk = msk) :
    FrO msk b₀ (execReshape differs s) := by
  refine FrO.step h₀ ?_ hm₀
  clear h₀ hm₀
  unfold execReshape
  try dsimp only
  repeat' (first
    | with_reducible exact Fr.refl _ _
    | with_reducible assumption
    | exact (rfl : (_ : Nat) = _)
    | with_reducible refine State.spCommand_fr ?_ ?_ ?_
    | with_reducible refine State.spAnswer_fr ?_ ?_
    | with_reducible refine State.spStart_fr ?_ ?_ ?_
    | with_reducible refine State.reshapeRun_fr ?_ ?_
    | with_reducible refine Fr.ite ?_ ?_
    | intro _ _
    | split)

theorem State.spareBoth_fr {msk : Nat} {b₀ : State} {s : State} {pool : Nat} {q : Option Nat} (h₀ : Fr msk b₀ s) (hm₀ : 16384 ||| msk = msk) :
    Fr msk b₀ (State.spareBoth s pool q) := by
  refine Fr.step h₀ ?_ hm₀
  clear h₀ hm₀
  unfold State.spareBoth
  try dsimp only
  repeat' (first
    | with_reducible exact Fr.refl _ _
    | exact (rfl : (_ : Nat) = _)
    | with_reducible refine State.setPool_fr ?_ ?_)

theorem State.spareAssign_fr {msk : Nat} {b₀ : State} {s : State} {pool : Nat} (h₀ : Fr msk b₀ s) (hm₀ : 49158 ||| msk = msk) :
    Fr msk b₀ (State.spareAssign s pool) := by
  refine Fr.step h₀ ?_ hm₀
  clear h₀ hm₀
  unfold State.spareAssign
  try dsimp only
  repeat' (first
    | with_reducible exact Fr.refl _ _
    | exact (rfl : (_ : Nat) = _)
    | with_reducible refine State.putBit_fr ?_ ?_
    | with_reducible refine State.substitute_fr ?_ ?_
    | with_reducible refine Fr.ite ?_ ?_
    | split)

theorem execSpareSet_fr {msk : Nat} {b₀ : State} {s : State} (h₀ : Fr msk b₀ s) (hm₀ : 709446 ||| msk = msk) :
    FrO msk b₀ (execSpareSet s) := by
  refine FrO.step h₀ ?_ hm₀
  clear h₀ hm₀
  unfold execSpareSet
  try dsimp only
  repeat' (first
    | with_reducible exact Fr.refl _ _
    | with_reducible assumption
    | exact (rfl : (_ : Nat) = _)
    | with_reducible refine State.spCommand_fr ?_ ?_ ?_
    | with_reducible refine State.spAnswer_fr ?_ ?_
    | with_reducible refine State.spareBoth_fr ?_ ?_
    | with_reducible refine State.spareAssign_fr ?_ ?_
    | with_reducible refine Fr.ite ?_ ?_
    | intro _ _)

theorem State.reshapeFinish_fr {msk : Nat} {b₀ : State} {s : State} {pool : Nat} {p : Pool} {bands : List BandCopy} (h₀ : Fr msk b₀ s) (hm₀ : 711494 ||| msk = msk) :
    Fr msk b₀ (State.reshapeFinish s pool p bands) := by
  refine Fr.step h₀ ?_ hm₀
  clear h₀ hm₀
  unfold State.reshapeFinish
  try dsimp only
  repeat' (first
    | with_reducible exact Fr.refl _ _
    | exact (rfl : (_ : Nat) = _)
    | with_reducible refine State.bandMove_fr ?_ ?_
    | with_reducible refine State.setPhase_fr ?_ ?_
    | with_reducible refine State.setPool_fr ?_ ?_
    | with_reducible refine State.actEnd_fr ?_ ?_
    | with_reducible refine State.event_fr ?_ ?_
    | with_reducible refine State.setRedund_fr ?_ ?_
    | with_reducible refine Fr.ite ?_ ?_
    | split)

theorem State.reshapeSwitch_fr {msk : Nat} {b₀ : State} {s : State} {pool : Nat} {p : Pool} (h₀ : Fr msk b₀ s) (hm₀ : 544772 ||| msk = msk) :
    Fr msk b₀ (State.reshapeSwitch s pool p) := by
  refine Fr.step h₀ ?_ hm₀
  clear h₀ hm₀
  unfold State.reshapeSwitch
  try dsimp only
  repeat' (first
    | with_reducible exact Fr.refl _ _
    | with_reducible assumption
    | exact (rfl : (_ : Nat) = _)
    | with_reducible refine State.closeSegment_fr ?_ ?_
    | with_reducible refine State.setPool_fr ?_ ?_
    | with_reducible refine State.spillRecompute_fr ?_ ?_
    | with_reducible refine State.recap_fr ?_ ?_
    | with_reducible refine State.setPhase_fr ?_ ?_
    | with_reducible refine Fr.foldl ?_ _ _ ?_
    | intro _ _ _
    | split)

theorem execReshapePhaseEnd_fr {msk : Nat} {b₀ : State} {pool : Nat} {bands : List BandCopy} {s : State} (h₀ : Fr msk b₀ s) (hm₀ : 711494 ||| msk = msk) :
    FrO msk b₀ (execReshapePhaseEnd pool bands s) := by
  refine FrO.step h₀ ?_ hm₀
  clear h₀ hm₀
  unfold execReshapePhaseEnd
  try dsimp only
  repeat' (first
    | with_reducible exact Fr.refl _ _
    | with_reducible assumption
    | exact (rfl : (_ : Nat) = _)
    | with_reducible refine State.reshapeMay_fr ?_ ?_
    | with_reducible refine State.reshapeSwitch_fr ?_ ?_
    | with_reducible refine State.spareInit_fr ?_ ?_
    | with_reducible refine State.event_fr ?_ ?_
    | with_reducible refine State.setPhase_fr ?_ ?_
    | with_reducible refine State.reshapeFinish_fr ?_ ?_
    | with_reducible refine Fr.ite ?_ ?_
    | with_reducible refine FrO.ite ?_ ?_
    | with_reducible refine FrO.next ?_
    | with_reducible refine Fr.foldl ?_ _ _ ?_
    | intro _ _ _
    | with_reducible refine Fr.pair (h := ?_) (e := by assumption)
    | split)

theorem State.redundScan_fr {msk : Nat} {b₀ : State} {s : State} (h₀ : Fr msk b₀ s) (hm₀ : 693062 ||| msk = msk) :
    Fr msk b₀ (State.redundScan s) := by
  refine Fr.step h₀ ?_ hm₀
  clear h₀ hm₀
  unfold State.redundScan
  try dsimp only
  repeat' (first
    | with_reducible exact Fr.refl _ _
    | with_reducible assumption
    | exact (rfl : (_ : Nat) = _)
    | with_reducible refine State.setRedund_fr ?_ ?_
    | with_reducible refine State.putBit_fr ?_ ?_
    | with_reducible refine State.rebuildBlocked_fr ?_ ?_
    | with_reducible refine Fr.ite ?_ ?_
    | with_reducible refine Fr.foldl ?_ _ _ ?_
    | intro _ _ _)

theorem execPoolCreate_fr {msk : Nat} {b₀ : State} {bands : List BandCopy} {differs : Bool} {s : State} (h₀ : Fr msk b₀ s) (hm₀ : 709446 ||| msk = msk) :
    FrO msk b₀ (execPoolCreate bands differs s) := by
  refine FrO.step h₀ ?_ hm₀
  clear h₀ hm₀
  unfold execPoolCreate
  try dsimp only
  repeat' (first
    | with_reducible exact Fr.refl _ _
    | with_reducible assumption
    | exact (rfl : (_ : Nat) = _)
    | with_reducible refine State.spCommand_fr ?_ ?_ ?_
    | with_reducible refine State.spAnswer_fr ?_ ?_
    | with_reducible refine State.spStart_fr ?_ ?_ ?_
    | with_reducible refine State.poolMake_fr ?_ ?_
    | with_reducible refine Fr.ite ?_ ?_
    | intro _ _)

theorem State.readmit_fr {msk : Nat} {b₀ : State} {s : State} {pool : Nat} {m : Nat} (h₀ : Fr msk b₀ s) (hm₀ : 16390 ||| msk = msk) :
    Fr msk b₀ (State.readmit s pool m) := by
  refine Fr.step h₀ ?_ hm₀
  clear h₀ hm₀
  unfold State.readmit
  try dsimp only
  repeat' (first
    | with_reducible exact Fr.refl _ _
    | with_reducible assumption
    | exact (rfl : (_ : Nat) = _)
    | with_reducible refine State.setPool_fr ?_ ?_
    | with_reducible refine State.setSeg_fr ?_ ?_
    | with_reducible refine State.pump_fr ?_ ?_
    | with_reducible refine Fr.ite ?_ ?_
    | with_reducible refine Fr.foldl ?_ _ _ ?_
    | intro _ _ _)

theorem execRebuildNow_fr {msk : Nat} {b₀ : State} {s : State} (h₀ : Fr msk b₀ s) (hm₀ : 709446 ||| msk = msk) :
    FrO msk b₀ (execRebuildNow s) := by
  refine FrO.step h₀ ?_ hm₀
  clear h₀ hm₀
  unfold execRebuildNow
  try dsimp only
  repeat' (first
    | with_reducible exact Fr.refl _ _
    | with_reducible assumption
    | exact (rfl : (_ : Nat) = _)
    | with_reducible refine State.spCommand_fr ?_ ?_ ?_
    | with_reducible refine State.spAnswer_fr ?_ ?_
    | with_reducible refine State.setPool_fr ?_ ?_
    | with_reducible refine Fr.ite ?_ ?_
    | intro _ _
    | split)

theorem execPoolDelete_fr {msk : Nat} {b₀ : State} {differs : Bool} {s : State} (h₀ : Fr msk b₀ s) (hm₀ : 709446 ||| msk = msk) :
    FrO msk b₀ (execPoolDelete differs s) := by
  refine FrO.step h₀ ?_ hm₀
  clear h₀ hm₀
  unfold execPoolDelete
  try dsimp only
  repeat' (first
    | with_reducible exact Fr.refl _ _
    | with_reducible assumption
    | exact (rfl : (_ : Nat) = _)
    | with_reducible refine State.spCommand_fr ?_ ?_ ?_
    | with_reducible refine State.spAnswer_fr ?_ ?_
    | with_reducible refine State.spStart_fr ?_ ?_ ?_
    | with_reducible refine State.poolDelete_fr ?_ ?_
    | with_reducible refine Fr.ite ?_ ?_
    | intro _ _)

theorem execReadmit_fr {msk : Nat} {b₀ : State} {s : State} (h₀ : Fr msk b₀ s) (hm₀ : 709446 ||| msk = msk) :
    FrO msk b₀ (execReadmit s) := by
  refine FrO.step h₀ ?_ hm₀
  clear h₀ hm₀
  unfold execReadmit
  try dsimp only
  repeat' (first
    | with_reducible exact Fr.refl _ _
    | with_reducible assumption
    | exact (rfl : (_ : Nat) = _)
    | with_reducible refine State.spCommand_fr ?_ ?_ ?_
    | with_reducible refine State.spAnswer_fr ?_ ?_
    | with_reducible refine State.readmit_fr ?_ ?_
    | with_reducible refine Fr.ite ?_ ?_
    | intro _ _
    | split)

theorem execLossClear_fr {msk : Nat} {b₀ : State} {s : State} (h₀ : Fr msk b₀ s) (hm₀ : 709446 ||| msk = msk) :
    FrO msk b₀ (execLossClear s) := by
  refine FrO.step h₀ ?_ hm₀
  clear h₀ hm₀
  unfold execLossClear
  try dsimp only
  repeat' (first
    | with_reducible exact Fr.refl _ _
    | with_reducible assumption
    | exact (rfl : (_ : Nat) = _)
    | with_reducible refine State.spCommand_fr ?_ ?_ ?_
    | with_reducible refine State.spAnswer_fr ?_ ?_
    | with_reducible refine State.setPool_fr ?_ ?_
    | intro _ _
    | split)

end Sys2Proof.Machine
end

