-- ==== Sys2Proof/Laws/FrRma.lean ====
section
/-! SUPPORT. Frames of the operations of Machine.Rma: the parts of State that each may change. -/

set_option maxRecDepth 20000
set_option Elab.async false
set_option linter.unusedTactic false
set_option linter.unreachableTactic false
set_option linter.unusedVariables false

namespace Sys2Proof.Machine

theorem execGsiTxProdWrite_fr {msk : Nat} {b₀ : State} {v : Nat} {s : State} (h₀ : Fr msk b₀ s) (hm₀ : 693062 ||| msk = msk) :
    FrO msk b₀ (execGsiTxProdWrite v s) := by
  refine FrO.step h₀ ?_ hm₀
  clear h₀ hm₀
  unfold execGsiTxProdWrite
  try dsimp only
  repeat' (first
    | with_reducible exact Fr.refl _ _
    | with_reducible assumption
    | exact (rfl : (_ : Nat) = _)
    | with_reducible refine State.pageWrite_fr ?_ ?_ ?_
    | with_reducible refine State.wrN_fr ?_ ?_
    | with_reducible refine FrO.next ?_
    | intro _ _)

theorem execEthModeWrite_fr {msk : Nat} {b₀ : State} {n : Nat} {v : Word} {s : State} (h₀ : Fr msk b₀ s) (hm₀ : 695110 ||| msk = msk) :
    FrO msk b₀ (execEthModeWrite n v s) := by
  refine FrO.step h₀ ?_ hm₀
  clear h₀ hm₀
  unfold execEthModeWrite
  try dsimp only
  repeat' (first
    | with_reducible exact Fr.refl _ _
    | with_reducible assumption
    | exact (rfl : (_ : Nat) = _)
    | with_reducible refine State.pageWrite_fr ?_ ?_ ?_
    | with_reducible refine State.writeDiscarded_fr ?_ ?_
    | with_reducible refine State.putFld_fr ?_ ?_
    | with_reducible refine Fr.ite ?_ ?_
    | with_reducible refine FrO.next ?_
    | intro _ _
    | split
    | refine Fr.mk' ?_)

theorem execPfcStorm_fr {msk : Nat} {b₀ : State} {lport : Nat} {s : State} (h₀ : Fr msk b₀ s) (hm₀ : 2054 ||| msk = msk) :
    FrO msk b₀ (execPfcStorm lport s) := by
  refine FrO.step h₀ ?_ hm₀
  clear h₀ hm₀
  unfold execPfcStorm
  try dsimp only
  repeat' (first
    | with_reducible exact Fr.refl _ _
    | exact (rfl : (_ : Nat) = _)
    | with_reducible refine State.evPost_fr ?_ ?_
    | with_reducible refine State.event_fr ?_ ?_
    | with_reducible refine FrO.next ?_)

theorem State.rmaEnd_fr {msk : Nat} {b₀ : State} {s : State} (h₀ : Fr msk b₀ s) (hm₀ : 2052 ||| msk = msk) :
    Fr msk b₀ (State.rmaEnd s) := by
  refine Fr.step h₀ ?_ hm₀
  clear h₀ hm₀
  unfold State.rmaEnd
  try dsimp only
  repeat' (first
    | with_reducible exact Fr.refl _ _
    | exact (rfl : (_ : Nat) = _)
    | with_reducible refine State.event_fr ?_ ?_
    | with_reducible refine State.wrN_fr ?_ ?_
    | refine Fr.mk' ?_)

theorem State.rmaDone_fr {msk : Nat} {b₀ : State} {s : State} {status : Nat} (h₀ : Fr msk b₀ s) (hm₀ : 4 ||| msk = msk) :
    Fr msk b₀ (State.rmaDone s status) := by
  refine Fr.step h₀ ?_ hm₀
  clear h₀ hm₀
  unfold State.rmaDone
  try dsimp only
  repeat' (first
    | with_reducible exact Fr.refl _ _
    | exact (rfl : (_ : Nat) = _)
    | with_reducible refine State.event_fr ?_ ?_
    | with_reducible refine State.wrN_fr ?_ ?_)

theorem State.rmaCommand_fr {msk : Nat} {b₀ : State} {s : State} {f : State → State} (hf : ∀ t0, Fr msk b₀ t0 → Fr msk b₀ (f t0)) (h₀ : Fr msk b₀ s) (hm₀ : 693062 ||| msk = msk) :
    FrO msk b₀ (State.rmaCommand s f) := by
  unfold State.rmaCommand
  try dsimp only
  repeat' (first
    | with_reducible assumption
    | with_reducible refine State.raise_fr ?_ ?_
    | with_reducible refine hf _ ?_
    | with_reducible refine Fr.ite ?_ ?_
    | with_reducible refine FrO.next ?_)

theorem State.rmaWait_fr {msk : Nat} {b₀ : State} {s : State} {op : Nat} {obj : Nat} (h₀ : Fr msk b₀ s) (hm₀ : 2052 ||| msk = msk) :
    Fr msk b₀ (State.rmaWait s op obj) := by
  refine Fr.step h₀ ?_ hm₀
  clear h₀ hm₀
  unfold State.rmaWait
  try dsimp only
  repeat' (first
    | with_reducible exact Fr.refl _ _
    | exact (rfl : (_ : Nat) = _)
    | with_reducible refine State.wrN_fr ?_ ?_
    | refine Fr.mk' ?_)

theorem execMrDereg_fr {msk : Nat} {b₀ : State} {s : State} (h₀ : Fr msk b₀ s) (hm₀ : 695110 ||| msk = msk) :
    FrO msk b₀ (execMrDereg s) := by
  refine FrO.step h₀ ?_ hm₀
  clear h₀ hm₀
  unfold execMrDereg
  try dsimp only
  repeat' (first
    | with_reducible exact Fr.refl _ _
    | with_reducible assumption
    | exact (rfl : (_ : Nat) = _)
    | with_reducible refine State.rmaCommand_fr ?_ ?_ ?_
    | with_reducible refine State.rmaDone_fr ?_ ?_
    | with_reducible refine State.rmaWait_fr ?_ ?_
    | with_reducible refine State.setMr_fr ?_ ?_
    | intro _ _
    | split)

theorem State.linkTold_fr {msk : Nat} {b₀ : State} {s : State} {lport : Nat} {up : Bool} (h₀ : Fr msk b₀ s) (hm₀ : 2052 ||| msk = msk) :
    Fr msk b₀ (State.linkTold s lport up) := by
  refine Fr.step h₀ ?_ hm₀
  clear h₀ hm₀
  unfold State.linkTold
  try dsimp only
  repeat' (first
    | with_reducible exact Fr.refl _ _
    | exact (rfl : (_ : Nat) = _)
    | with_reducible refine State.putBit_fr ?_ ?_
    | refine Fr.mk' ?_)

theorem execEthLinkUp_fr {msk : Nat} {b₀ : State} {lport : Nat} {s : State} (h₀ : Fr msk b₀ s) (hm₀ : 2052 ||| msk = msk) :
    FrO msk b₀ (execEthLinkUp lport s) := by
  refine FrO.step h₀ ?_ hm₀
  clear h₀ hm₀
  unfold execEthLinkUp
  try dsimp only
  repeat' (first
    | with_reducible exact Fr.refl _ _
    | exact (rfl : (_ : Nat) = _)
    | with_reducible refine State.linkTold_fr ?_ ?_
    | with_reducible refine FrO.ite ?_ ?_
    | with_reducible refine FrO.next ?_)

theorem State.recsMoved_fr {msk : Nat} {b₀ : State} {s : State} {port : Nat} {dst : Option (Nat × Nat)} (h₀ : Fr msk b₀ s) (hm₀ : 32768 ||| msk = msk) :
    Fr msk b₀ (State.recsMoved s port dst) := by
  refine Fr.step h₀ ?_ hm₀
  clear h₀ hm₀
  unfold State.recsMoved
  try dsimp only
  repeat' (first
    | with_reducible exact Fr.refl _ _
    | with_reducible assumption
    | exact (rfl : (_ : Nat) = _)
    | dsimp only
    | with_reducible refine Fr.ite ?_ ?_
    | with_reducible refine Fr.ite₁ ?_ ?_
    | with_reducible refine FrS.ite ?_ ?_
    | with_reducible refine FrP.ite ?_ ?_
    | with_reducible exact FrS.none
    | with_reducible refine FrS.some ?_
    | with_reducible refine FrS.map ?_
    | with_reducible exact FrP.none
    | with_reducible refine FrP.some ?_
    | with_reducible refine Fr.elim ?_ ?_
    | with_reducible refine Fr.foldl ?_ _ _ ?_
    | with_reducible refine Fr.foldl₂ ?_ _ _ ?_
    | intro _ _ _ _ _ _
    | intro _ _ _ _ _
    | intro _ _ _ _
    | intro _ _ _
    | intro _ _
    | intro _
    | with_reducible refine Fr.pair (h := ?_) (e := by assumption)
    | with_reducible refine FrO.got (h := ?_) (e := by assumption)
    | with_reducible refine FrS.get (h := ?_) (e := by assumption)
    | with_reducible refine FrP.get (h := ?_) (e := by assumption)
    | split
    | refine Fr.mk' ?_)

theorem State.memberDrop_fr {msk : Nat} {b₀ : State} {s : State} {q : Nat} (h₀ : Fr msk b₀ s) (hm₀ : 34818 ||| msk = msk) :
    Fr msk b₀ (State.memberDrop s q) := by
  refine Fr.step h₀ ?_ hm₀
  clear h₀ hm₀
  unfold State.memberDrop
  try dsimp only
  repeat' (first
    | with_reducible exact Fr.refl _ _
    | with_reducible assumption
    | exact (rfl : (_ : Nat) = _)
    | with_reducible refine State.setQp_fr ?_ ?_
    | with_reducible refine State.recsMoved_fr ?_ ?_
    | with_reducible refine State.emit_fr ?_ ?_
    | dsimp only
    | with_reducible refine Fr.ite ?_ ?_
    | with_reducible refine Fr.ite₁ ?_ ?_
    | with_reducible refine FrS.ite ?_ ?_
    | with_reducible refine FrP.ite ?_ ?_
    | with_reducible exact FrS.none
    | with_reducible refine FrS.some ?_
    | with_reducible refine FrS.map ?_
    | with_reducible exact FrP.none
    | with_reducible refine FrP.some ?_
    | with_reducible refine Fr.elim ?_ ?_
    | with_reducible refine Fr.foldl ?_ _ _ ?_
    | with_reducible refine Fr.foldl₂ ?_ _ _ ?_
    | intro _ _ _ _ _ _
    | intro _ _ _ _ _
    | intro _ _ _ _
    | intro _ _ _
    | intro _ _
    | intro _
    | with_reducible refine Fr.pair (h := ?_) (e := by assumption)
    | with_reducible refine FrO.got (h := ?_) (e := by assumption)
    | with_reducible refine FrS.get (h := ?_) (e := by assumption)
    | with_reducible refine FrP.get (h := ?_) (e := by assumption)
    | split)

theorem State.portTell_fr {msk : Nat} {b₀ : State} {s : State} (h₀ : Fr msk b₀ s) (hm₀ : 2054 ||| msk = msk) :
    Fr msk b₀ (State.portTell s) := by
  refine Fr.step h₀ ?_ hm₀
  clear h₀ hm₀
  unfold State.portTell
  try dsimp only
  repeat' (first
    | with_reducible exact Fr.refl _ _
    | with_reducible assumption
    | exact (rfl : (_ : Nat) = _)
    | with_reducible refine State.evPost_fr ?_ ?_
    | with_reducible refine State.event_fr ?_ ?_
    | with_reducible refine Fr.foldl ?_ _ _ ?_
    | intro _ _ _
    | refine Fr.mk' ?_)

theorem execMrPlacementDrained_fr {msk : Nat} {b₀ : State} {s : State} (h₀ : Fr msk b₀ s) (hm₀ : 2052 ||| msk = msk) :
    FrO msk b₀ (execMrPlacementDrained s) := by
  refine FrO.step h₀ ?_ hm₀
  clear h₀ hm₀
  unfold execMrPlacementDrained
  try dsimp only
  repeat' (first
    | with_reducible exact Fr.refl _ _
    | exact (rfl : (_ : Nat) = _)
    | with_reducible refine State.rmaEnd_fr ?_ ?_
    | with_reducible refine State.setMr_fr ?_ ?_
    | with_reducible refine Fr.ite ?_ ?_
    | with_reducible refine FrO.next ?_
    | split)

theorem State.filterPasses_fr {msk : Nat} {b₀ : State} {s : State} {d : Datagram} {bad : List Nat} (h₀ : Fr msk b₀ s) (hm₀ : 701254 ||| msk = msk) :
    Fr msk b₀ (State.filterPasses s d bad).1 := by
  refine Fr.step h₀ ?_ hm₀
  clear h₀ hm₀
  unfold State.filterPasses
  try dsimp only
  repeat' (first
    | with_reducible exact Fr.refl _ _
    | with_reducible assumption
    | exact (rfl : (_ : Nat) = _)
    | with_reducible refine State.camFound_fr ?_ ?_
    | with_reducible refine State.countSearch_fr ?_ ?_
    | dsimp only
    | with_reducible refine Fr.ite ?_ ?_
    | with_reducible refine Fr.ite₁ ?_ ?_
    | with_reducible refine FrS.ite ?_ ?_
    | with_reducible refine FrP.ite ?_ ?_
    | with_reducible exact FrS.none
    | with_reducible refine FrS.some ?_
    | with_reducible refine FrS.map ?_
    | with_reducible exact FrP.none
    | with_reducible refine FrP.some ?_
    | with_reducible refine Fr.elim ?_ ?_
    | with_reducible refine Fr.foldl ?_ _ _ ?_
    | with_reducible refine Fr.foldl₂ ?_ _ _ ?_
    | intro _ _ _ _ _ _
    | intro _ _ _ _ _
    | intro _ _ _ _
    | intro _ _ _
    | intro _ _
    | intro _
    | with_reducible refine Fr.pair (h := ?_) (e := by assumption)
    | with_reducible refine FrO.got (h := ?_) (e := by assumption)
    | with_reducible refine FrS.get (h := ?_) (e := by assumption)
    | with_reducible refine FrP.get (h := ?_) (e := by assumption)
    | split)

theorem execQp1DatagramRx_fr {msk : Nat} {b₀ : State} {d : Datagram} {bad : List Nat} {s : State} (h₀ : Fr msk b₀ s) (hm₀ : 703302 ||| msk = msk) :
    FrO msk b₀ (execQp1DatagramRx d bad s) := by
  refine FrO.step h₀ ?_ hm₀
  clear h₀ hm₀
  unfold execQp1DatagramRx
  try dsimp only
  repeat' (first
    | with_reducible exact Fr.refl _ _
    | with_reducible assumption
    | exact (rfl : (_ : Nat) = _)
    | with_reducible refine State.filterPasses_fr ?_ ?_
    | with_reducible refine State.count_fr ?_ ?_
    | with_reducible refine State.evPost_fr ?_ ?_
    | with_reducible refine State.wrN_fr ?_ ?_
    | with_reducible refine State.emit_fr ?_ ?_
    | with_reducible refine State.event_fr ?_ ?_
    | dsimp only
    | with_reducible refine Fr.ite ?_ ?_
    | with_reducible refine Fr.ite₁ ?_ ?_
    | with_reducible refine FrO.ite ?_ ?_
    | with_reducible refine FrS.ite ?_ ?_
    | with_reducible refine FrP.ite ?_ ?_
    | with_reducible refine FrO.next ?_
    | with_reducible exact FrS.none
    | with_reducible refine FrS.some ?_
    | with_reducible refine FrS.map ?_
    | with_reducible exact FrP.none
    | with_reducible refine FrP.some ?_
    | with_reducible refine Fr.elim ?_ ?_
    | with_reducible refine Fr.foldl ?_ _ _ ?_
    | with_reducible refine Fr.foldl₂ ?_ _ _ ?_
    | intro _ _ _ _ _ _
    | intro _ _ _ _ _
    | intro _ _ _ _
    | intro _ _ _
    | intro _ _
    | intro _
    | with_reducible refine Fr.pair (h := ?_) (e := by assumption)
    | with_reducible refine FrO.got (h := ?_) (e := by assumption)
    | with_reducible refine FrS.get (h := ?_) (e := by assumption)
    | with_reducible refine FrP.get (h := ?_) (e := by assumption)
    | split
    | refine Fr.mk' ?_)

theorem State.qpGone_fr {msk : Nat} {b₀ : State} {s : State} {q : Nat} (h₀ : Fr msk b₀ s) (hm₀ : 2052 ||| msk = msk) :
    Fr msk b₀ (State.qpGone s q) := by
  refine Fr.step h₀ ?_ hm₀
  clear h₀ hm₀
  unfold State.qpGone
  try dsimp only
  repeat' (first
    | with_reducible exact Fr.refl _ _
    | exact (rfl : (_ : Nat) = _)
    | with_reducible refine State.wrN_fr ?_ ?_
    | refine Fr.mk' ?_)

theorem State.txAdvance_fr {msk : Nat} {b₀ : State} {s : State} (h₀ : Fr msk b₀ s) (hm₀ : 2052 ||| msk = msk) :
    Fr msk b₀ (State.txAdvance s) := by
  refine Fr.step h₀ ?_ hm₀
  clear h₀ hm₀
  unfold State.txAdvance
  try dsimp only
  repeat' (first
    | with_reducible exact Fr.refl _ _
    | exact (rfl : (_ : Nat) = _)
    | with_reducible refine State.wrN_fr ?_ ?_
    | with_reducible refine State.event_fr ?_ ?_
    | with_reducible refine Fr.ite ?_ ?_
    | refine Fr.mk' ?_)

theorem execGsiTxSend_fr {msk : Nat} {b₀ : State} {e : TxEntry} {s : State} (h₀ : Fr msk b₀ s) (hm₀ : 2054 ||| msk = msk) :
    FrO msk b₀ (execGsiTxSend e s) := by
  refine FrO.step h₀ ?_ hm₀
  clear h₀ hm₀
  unfold execGsiTxSend
  try dsimp only
  repeat' (first
    | with_reducible exact Fr.refl _ _
    | exact (rfl : (_ : Nat) = _)
    | with_reducible refine State.emit_fr ?_ ?_
    | with_reducible refine State.txAdvance_fr ?_ ?_
    | with_reducible refine State.count_fr ?_ ?_
    | with_reducible refine Fr.ite ?_ ?_
    | with_reducible refine FrO.ite ?_ ?_
    | with_reducible refine FrO.next ?_
    | refine Fr.mk' ?_)

theorem execEthLinkDown_fr {msk : Nat} {b₀ : State} {lport : Nat} {s : State} (h₀ : Fr msk b₀ s) (hm₀ : 34822 ||| msk = msk) :
    FrO msk b₀ (execEthLinkDown lport s) := by
  refine FrO.step h₀ ?_ hm₀
  clear h₀ hm₀
  unfold execEthLinkDown
  try dsimp only
  repeat' (first
    | with_reducible exact Fr.refl _ _
    | with_reducible assumption
    | exact (rfl : (_ : Nat) = _)
    | with_reducible refine State.linkTold_fr ?_ ?_
    | with_reducible refine State.memberDrop_fr ?_ ?_
    | with_reducible refine FrO.ite ?_ ?_
    | with_reducible refine FrO.next ?_
    | with_reducible refine Fr.foldl ?_ _ _ ?_
    | intro _ _ _)

theorem execKatoExpired_fr {msk : Nat} {b₀ : State} {ctrl : Nat} {s : State} (h₀ : Fr msk b₀ s) (hm₀ : 2054 ||| msk = msk) :
    FrO msk b₀ (execKatoExpired ctrl s) := by
  refine FrO.step h₀ ?_ hm₀
  clear h₀ hm₀
  unfold execKatoExpired
  try dsimp only
  repeat' (first
    | with_reducible exact Fr.refl _ _
    | with_reducible assumption
    | exact (rfl : (_ : Nat) = _)
    | with_reducible refine State.evPost_fr ?_ ?_
    | with_reducible refine State.qpError_fr ?_ ?_
    | with_reducible refine FrO.next ?_
    | with_reducible refine Fr.foldl ?_ _ _ ?_
    | intro _ _ _
    | split)

theorem State.fabricsRun_fr {msk : Nat} {b₀ : State} {s : State} {n : Nat} {op : HostOp} {f : State → Nat → Qp → State} (hf : ∀ t0 t1 t2, Fr msk b₀ t0 → Fr msk b₀ (f t0 t1 t2)) (h₀ : Fr msk b₀ s) (hm₀ : 0 ||| msk = msk) :
    FrO msk b₀ (State.fabricsRun s n op f) := by
  unfold State.fabricsRun
  try dsimp only
  repeat' (first
    | with_reducible assumption
    | with_reducible refine hf _ _ _ ?_
    | with_reducible refine FrO.ite ?_ ?_
    | with_reducible refine FrO.next ?_
    | split)

theorem execFabricsDisconnect_fr {msk : Nat} {b₀ : State} {n : Nat} {s : State} (h₀ : Fr msk b₀ s) (hm₀ : 55302 ||| msk = msk) :
    FrO msk b₀ (execFabricsDisconnect n s) := by
  refine FrO.step h₀ ?_ hm₀
  clear h₀ hm₀
  unfold execFabricsDisconnect
  try dsimp only
  repeat' (first
    | with_reducible exact Fr.refl _ _
    | with_reducible assumption
    | exact (rfl : (_ : Nat) = _)
    | with_reducible refine State.fabricsRun_fr ?_ ?_ ?_
    | with_reducible refine State.complete_fr ?_ ?_
    | with_reducible refine State.setCtrl_fr ?_ ?_
    | with_reducible refine Fr.ite ?_ ?_
    | intro _ _ _ _
    | split
    | refine Fr.mk' ?_)

theorem execMrReg_fr {msk : Nat} {b₀ : State} {index : Nat} {s : State} (h₀ : Fr msk b₀ s) (hm₀ : 695110 ||| msk = msk) :
    FrO msk b₀ (execMrReg index s) := by
  refine FrO.step h₀ ?_ hm₀
  clear h₀ hm₀
  unfold execMrReg
  try dsimp only
  repeat' (first
    | with_reducible exact Fr.refl _ _
    | with_reducible assumption
    | exact (rfl : (_ : Nat) = _)
    | with_reducible refine State.rmaCommand_fr ?_ ?_ ?_
    | with_reducible refine State.rmaDone_fr ?_ ?_
    | with_reducible refine State.wrN_fr ?_ ?_
    | with_reducible refine State.setMr_fr ?_ ?_
    | with_reducible refine Fr.ite ?_ ?_
    | intro _ _)

theorem execQpDestroy_fr {msk : Nat} {b₀ : State} {s : State} (h₀ : Fr msk b₀ s) (hm₀ : 695110 ||| msk = msk) :
    FrO msk b₀ (execQpDestroy s) := by
  refine FrO.step h₀ ?_ hm₀
  clear h₀ hm₀
  unfold execQpDestroy
  try dsimp only
  repeat' (first
    | with_reducible exact Fr.refl _ _
    | with_reducible assumption
    | exact (rfl : (_ : Nat) = _)
    | with_reducible refine State.rmaCommand_fr ?_ ?_ ?_
    | with_reducible refine State.rmaDone_fr ?_ ?_
    | with_reducible refine State.qpGone_fr ?_ ?_
    | with_reducible refine State.rmaWait_fr ?_ ?_
    | with_reducible refine State.missLeaveAll_fr ?_ ?_
    | with_reducible refine State.countBy_fr ?_ ?_
    | with_reducible refine State.setQp_fr ?_ ?_
    | dsimp only
    | with_reducible refine Fr.ite ?_ ?_
    | with_reducible refine Fr.ite₁ ?_ ?_
    | with_reducible refine FrO.ite ?_ ?_
    | with_reducible refine FrS.ite ?_ ?_
    | with_reducible refine FrP.ite ?_ ?_
    | with_reducible refine FrO.next ?_
    | with_reducible exact FrS.none
    | with_reducible refine FrS.some ?_
    | with_reducible refine FrS.map ?_
    | with_reducible exact FrP.none
    | with_reducible refine FrP.some ?_
    | with_reducible refine Fr.elim ?_ ?_
    | with_reducible refine Fr.foldl ?_ _ _ ?_
    | with_reducible refine Fr.foldl₂ ?_ _ _ ?_
    | intro _ _ _ _ _ _
    | intro _ _ _ _ _
    | intro _ _ _ _
    | intro _ _ _
    | intro _ _
    | intro _
    | with_reducible refine Fr.pair (h := ?_) (e := by assumption)
    | with_reducible refine FrO.got (h := ?_) (e := by assumption)
    | with_reducible refine FrS.get (h := ?_) (e := by assumption)
    | with_reducible refine FrP.get (h := ?_) (e := by assumption)
    | split)

theorem execMrInval_fr {msk : Nat} {b₀ : State} {s : State} (h₀ : Fr msk b₀ s) (hm₀ : 695110 ||| msk = msk) :
    FrO msk b₀ (execMrInval s) := by
  refine FrO.step h₀ ?_ hm₀
  clear h₀ hm₀
  unfold execMrInval
  try dsimp only
  repeat' (first
    | with_reducible exact Fr.refl _ _
    | with_reducible assumption
    | exact (rfl : (_ : Nat) = _)
    | with_reducible refine State.rmaCommand_fr ?_ ?_ ?_
    | with_reducible refine State.rmaDone_fr ?_ ?_
    | with_reducible refine State.rmaWait_fr ?_ ?_
    | with_reducible refine State.rotateKey_fr ?_ ?_
    | intro _ _
    | split)

theorem State.pauseRx_fr {msk : Nat} {b₀ : State} {s : State} {p : Nat} {vector : Nat} {stop : Nat} (h₀ : Fr msk b₀ s) (hm₀ : 2052 ||| msk = msk) :
    Fr msk b₀ (State.pauseRx s p vector stop) := by
  refine Fr.step h₀ ?_ hm₀
  clear h₀ hm₀
  unfold State.pauseRx
  try dsimp only
  repeat' (first
    | with_reducible exact Fr.refl _ _
    | with_reducible assumption
    | exact (rfl : (_ : Nat) = _)
    | with_reducible refine State.putBit_fr ?_ ?_
    | dsimp only
    | with_reducible refine Fr.ite ?_ ?_
    | with_reducible refine Fr.ite₁ ?_ ?_
    | with_reducible refine FrS.ite ?_ ?_
    | with_reducible refine FrP.ite ?_ ?_
    | with_reducible exact FrS.none
    | with_reducible refine FrS.some ?_
    | with_reducible refine FrS.map ?_
    | with_reducible exact FrP.none
    | with_reducible refine FrP.some ?_
    | with_reducible refine Fr.elim ?_ ?_
    | with_reducible refine Fr.foldl ?_ _ _ ?_
    | with_reducible refine Fr.foldl₂ ?_ _ _ ?_
    | intro _ _ _ _ _ _
    | intro _ _ _ _ _
    | intro _ _ _ _
    | intro _ _ _
    | intro _ _
    | intro _
    | with_reducible refine Fr.pair (h := ?_) (e := by assumption)
    | with_reducible refine FrO.got (h := ?_) (e := by assumption)
    | with_reducible refine FrS.get (h := ?_) (e := by assumption)
    | with_reducible refine FrP.get (h := ?_) (e := by assumption)
    | split
    | refine Fr.mk' ?_)

theorem execFecDegrade_fr {msk : Nat} {b₀ : State} {lport : Nat} {lane : Nat} {count : Nat} {s : State} (h₀ : Fr msk b₀ s) (hm₀ : 695110 ||| msk = msk) :
    FrO msk b₀ (execFecDegrade lport lane count s) := by
  refine FrO.step h₀ ?_ hm₀
  clear h₀ hm₀
  unfold execFecDegrade
  try dsimp only
  repeat' (first
    | with_reducible exact Fr.refl _ _
    | exact (rfl : (_ : Nat) = _)
    | with_reducible refine State.countBy_fr ?_ ?_
    | with_reducible refine State.evPost_fr ?_ ?_
    | with_reducible refine State.raise_fr ?_ ?_
    | with_reducible refine State.event_fr ?_ ?_
    | with_reducible refine Fr.ite ?_ ?_
    | with_reducible refine FrO.next ?_)

theorem execQpDestroyDone_fr {msk : Nat} {b₀ : State} {s : State} (h₀ : Fr msk b₀ s) (hm₀ : 2052 ||| msk = msk) :
    FrO msk b₀ (execQpDestroyDone s) := by
  refine FrO.step h₀ ?_ hm₀
  clear h₀ hm₀
  unfold execQpDestroyDone
  try dsimp only
  repeat' (first
    | with_reducible exact Fr.refl _ _
    | exact (rfl : (_ : Nat) = _)
    | with_reducible refine State.rmaEnd_fr ?_ ?_
    | with_reducible refine State.qpGone_fr ?_ ?_
    | with_reducible refine FrO.next ?_
    | split)

theorem execGsiTxPacketLeft_fr {msk : Nat} {b₀ : State} {i : Nat} {s : State} (h₀ : Fr msk b₀ s) (hm₀ : 2052 ||| msk = msk) :
    FrO msk b₀ (execGsiTxPacketLeft i s) := by
  refine FrO.step h₀ ?_ hm₀
  clear h₀ hm₀
  unfold execGsiTxPacketLeft
  try dsimp only
  repeat' (first
    | with_reducible exact Fr.refl _ _
    | exact (rfl : (_ : Nat) = _)
    | with_reducible refine State.txAdvance_fr ?_ ?_
    | with_reducible refine FrO.next ?_
    | refine Fr.mk' ?_)

theorem execFabricsPropertyGet_fr {msk : Nat} {b₀ : State} {n : Nat} {off : Nat} {s : State} (h₀ : Fr msk b₀ s) (hm₀ : 55302 ||| msk = msk) :
    FrO msk b₀ (execFabricsPropertyGet n off s) := by
  refine FrO.step h₀ ?_ hm₀
  clear h₀ hm₀
  unfold execFabricsPropertyGet
  try dsimp only
  repeat' (first
    | with_reducible exact Fr.refl _ _
    | with_reducible assumption
    | exact (rfl : (_ : Nat) = _)
    | with_reducible refine State.fabricsRun_fr ?_ ?_ ?_
    | with_reducible refine State.complete_fr ?_ ?_
    | with_reducible refine Fr.ite ?_ ?_
    | intro _ _ _ _
    | split)

theorem execQpModify_fr {msk : Nat} {b₀ : State} {s : State} (h₀ : Fr msk b₀ s) (hm₀ : 695110 ||| msk = msk) :
    FrO msk b₀ (execQpModify s) := by
  refine FrO.step h₀ ?_ hm₀
  clear h₀ hm₀
  unfold execQpModify
  try dsimp only
  repeat' (first
    | with_reducible exact Fr.refl _ _
    | with_reducible assumption
    | exact (rfl : (_ : Nat) = _)
    | with_reducible refine State.rmaCommand_fr ?_ ?_ ?_
    | with_reducible refine State.rmaDone_fr ?_ ?_
    | with_reducible refine State.setQp_fr ?_ ?_
    | with_reducible refine State.qpError_fr ?_ ?_
    | with_reducible refine Fr.ite ?_ ?_
    | intro _ _)

theorem execFabricsPropertySet_fr {msk : Nat} {b₀ : State} {n : Nat} {off : Nat} {value : Nat} {s : State} (h₀ : Fr msk b₀ s) (hm₀ : 55302 ||| msk = msk) :
    FrO msk b₀ (execFabricsPropertySet n off value s) := by
  refine FrO.step h₀ ?_ hm₀
  clear h₀ hm₀
  unfold execFabricsPropertySet
  try dsimp only
  repeat' (first
    | with_reducible exact Fr.refl _ _
    | with_reducible assumption
    | exact (rfl : (_ : Nat) = _)
    | with_reducible refine State.fabricsRun_fr ?_ ?_ ?_
    | with_reducible refine State.complete_fr ?_ ?_
    | with_reducible refine State.setCtrl_fr ?_ ?_
    | with_reducible refine Fr.ite ?_ ?_
    | intro _ _ _ _
    | split)

theorem execFabricsConnect_fr {msk : Nat} {b₀ : State} {n : Nat} {ctrl : Nat} {qid : Nat} {sqsize : Nat} {kato : Nat} {ns : List NsAtt} {s : State} (h₀ : Fr msk b₀ s) (hm₀ : 55302 ||| msk = msk) :
    FrO msk b₀ (execFabricsConnect n ctrl qid sqsize kato ns s) := by
  refine FrO.step h₀ ?_ hm₀
  clear h₀ hm₀
  unfold execFabricsConnect
  try dsimp only
  repeat' (first
    | with_reducible exact Fr.refl _ _
    | with_reducible assumption
    | exact (rfl : (_ : Nat) = _)
    | with_reducible refine State.fabricsRun_fr ?_ ?_ ?_
    | with_reducible refine State.complete_fr ?_ ?_
    | with_reducible refine State.setCtrl_fr ?_ ?_
    | with_reducible refine Fr.ite ?_ ?_
    | intro _ _ _ _
    | split
    | refine Fr.mk' ?_)

theorem execEthFrameRx_fr {msk : Nat} {b₀ : State} {lport : Nat} {f : EthFrame} {len : Nat} {corrected : Nat} {s : State} (h₀ : Fr msk b₀ s) (hm₀ : 695110 ||| msk = msk) :
    FrO msk b₀ (execEthFrameRx lport f len corrected s) := by
  refine FrO.step h₀ ?_ hm₀
  clear h₀ hm₀
  unfold execEthFrameRx
  try dsimp only
  repeat' (first
    | with_reducible exact Fr.refl _ _
    | with_reducible assumption
    | exact (rfl : (_ : Nat) = _)
    | with_reducible refine State.countBy_fr ?_ ?_
    | with_reducible refine State.count_fr ?_ ?_
    | with_reducible refine State.raise_fr ?_ ?_
    | with_reducible refine State.pauseRx_fr ?_ ?_
    | dsimp only
    | with_reducible refine Fr.ite ?_ ?_
    | with_reducible refine Fr.ite₁ ?_ ?_
    | with_reducible refine FrO.ite ?_ ?_
    | with_reducible refine FrS.ite ?_ ?_
    | with_reducible refine FrP.ite ?_ ?_
    | with_reducible refine FrO.next ?_
    | with_reducible exact FrS.none
    | with_reducible refine FrS.some ?_
    | with_reducible refine FrS.map ?_
    | with_reducible exact FrP.none
    | with_reducible refine FrP.some ?_
    | with_reducible refine Fr.elim ?_ ?_
    | with_reducible refine Fr.foldl ?_ _ _ ?_
    | with_reducible refine Fr.foldl₂ ?_ _ _ ?_
    | intro _ _ _ _ _ _
    | intro _ _ _ _ _
    | intro _ _ _ _
    | intro _ _ _
    | intro _ _
    | intro _
    | with_reducible refine Fr.pair (h := ?_) (e := by assumption)
    | with_reducible refine FrO.got (h := ?_) (e := by assumption)
    | with_reducible refine FrS.get (h := ?_) (e := by assumption)
    | with_reducible refine FrP.get (h := ?_) (e := by assumption)
    | split)

theorem execQpCreate_fr {msk : Nat} {b₀ : State} {qpn : Nat} {s : State} (h₀ : Fr msk b₀ s) (hm₀ : 695110 ||| msk = msk) :
    FrO msk b₀ (execQpCreate qpn s) := by
  refine FrO.step h₀ ?_ hm₀
  clear h₀ hm₀
  unfold execQpCreate
  try dsimp only
  repeat' (first
    | with_reducible exact Fr.refl _ _
    | with_reducible assumption
    | exact (rfl : (_ : Nat) = _)
    | with_reducible refine State.rmaCommand_fr ?_ ?_ ?_
    | with_reducible refine State.rmaDone_fr ?_ ?_
    | with_reducible refine State.wrN_fr ?_ ?_
    | with_reducible refine State.ctxInstall_fr ?_ ?_
    | with_reducible refine Fr.ite ?_ ?_
    | intro _ _
    | refine Fr.mk' ?_)

end Sys2Proof.Machine
end

