-- ==== Sys2Proof/Laws/FrRws.lean ====
section
/-! SUPPORT. Frames of the operations of Machine.Rws: the parts of State that each may change. -/

set_option maxRecDepth 20000
set_option Elab.async false
set_option linter.unusedTactic false
set_option linter.unreachableTactic false
set_option linter.unusedVariables false

namespace Sys2Proof.Machine

theorem State.oversubscribed_fr {msk : Nat} {b₀ : State} {s : State} (h₀ : Fr msk b₀ s) (hm₀ : 4 ||| msk = msk) :
    Fr msk b₀ (State.oversubscribed s) := by
  refine Fr.step h₀ ?_ hm₀
  clear h₀ hm₀
  unfold State.oversubscribed
  try dsimp only
  repeat' (first
    | with_reducible exact Fr.refl _ _
    | exact (rfl : (_ : Nat) = _)
    | with_reducible refine State.event_fr ?_ ?_
    | with_reducible refine Fr.ite ?_ ?_)

theorem State.patPeriod_fr {msk : Nat} {b₀ : State} {s : State} {old : Word} {new : Word} (h₀ : Fr msk b₀ s) (hm₀ : 16384 ||| msk = msk) :
    Fr msk b₀ (State.patPeriod s old new) := by
  refine Fr.step h₀ ?_ hm₀
  clear h₀ hm₀
  unfold State.patPeriod
  try dsimp only
  repeat' (first
    | with_reducible exact Fr.refl _ _
    | exact (rfl : (_ : Nat) = _)
    | with_reducible refine State.setPatrol_fr ?_ ?_)

theorem State.rwsOne_fr {msk : Nat} {b₀ : State} {s : State} {row : RegRow} {kind : PageKind} {hi : Bool} {k : Nat} {v : Word} (h₀ : Fr msk b₀ s) (hm₀ : 709446 ||| msk = msk) :
    Fr msk b₀ (State.rwsOne s row kind hi k v) := by
  refine Fr.step h₀ ?_ hm₀
  clear h₀ hm₀
  unfold State.rwsOne
  try dsimp only
  repeat' (first
    | with_reducible exact Fr.refl _ _
    | exact (rfl : (_ : Nat) = _)
    | with_reducible refine State.raise_fr ?_ ?_
    | with_reducible refine State.wr_fr ?_ ?_
    | with_reducible refine State.patPeriod_fr ?_ ?_
    | with_reducible refine Fr.ite ?_ ?_)

theorem State.rwsReg_fr {msk : Nat} {b₀ : State} {s : State} {refused : List Nat} {k : Nat} {v : Word} (h₀ : Fr msk b₀ s) (hm₀ : 709446 ||| msk = msk) :
    Fr msk b₀ (State.rwsReg s refused k v) := by
  refine Fr.step h₀ ?_ hm₀
  clear h₀ hm₀
  unfold State.rwsReg
  try dsimp only
  repeat' (first
    | with_reducible exact Fr.refl _ _
    | exact (rfl : (_ : Nat) = _)
    | with_reducible refine State.rwsOne_fr ?_ ?_
    | with_reducible refine Fr.ite ?_ ?_
    | split)

theorem State.rwsApply_fr {msk : Nat} {b₀ : State} {s : State} {p : Nat} (h₀ : Fr msk b₀ s) (hm₀ : 709454 ||| msk = msk) :
    Fr msk b₀ (State.rwsApply s p) := by
  refine Fr.step h₀ ?_ hm₀
  clear h₀ hm₀
  unfold State.rwsApply
  try dsimp only
  repeat' (first
    | with_reducible exact Fr.refl _ _
    | with_reducible assumption
    | exact (rfl : (_ : Nat) = _)
    | with_reducible refine State.rwsReg_fr ?_ ?_
    | with_reducible refine State.event_fr ?_ ?_
    | with_reducible refine State.putBit_fr ?_ ?_
    | with_reducible refine State.oversubscribed_fr ?_ ?_
    | with_reducible refine Fr.ite ?_ ?_
    | with_reducible refine Fr.foldl ?_ _ _ ?_
    | intro _ _ _
    | refine Fr.mk' ?_)

end Sys2Proof.Machine
end

