-- ==== Sys2Proof/Laws/FrStudbook.lean ====
section
/-! SUPPORT. Frames of the operations of Machine.Studbook: the parts of State that each may change. -/

set_option maxRecDepth 20000
set_option Elab.async false
set_option linter.unusedTactic false
set_option linter.unreachableTactic false
set_option linter.unusedVariables false

namespace Sys2Proof.Machine

theorem execStudbookFlush_fr {msk : Nat} {b₀ : State} {s : State} (h₀ : Fr msk b₀ s) (hm₀ : 516 ||| msk = msk) :
    FrO msk b₀ (execStudbookFlush s) := by
  refine FrO.step h₀ ?_ hm₀
  clear h₀ hm₀
  unfold execStudbookFlush
  try dsimp only
  repeat' (first
    | with_reducible exact Fr.refl _ _
    | exact (rfl : (_ : Nat) = _)
    | with_reducible refine State.startFlush_fr ?_ ?_
    | with_reducible refine Fr.ite ?_ ?_
    | with_reducible refine FrO.next ?_)

theorem State.fillWin_fr {msk : Nat} {b₀ : State} {s : State} {x1 : Nat} {x2 : List Byte} (h₀ : Fr msk b₀ s) (hm₀ : 4 ||| msk = msk) :
    Fr msk b₀ (State.fillWin s x1 x2) := by
  refine Fr.step h₀ ?_ hm₀
  clear h₀ hm₀
  fun_induction State.fillWin 
  all_goals try dsimp +zetaDelta only at *
  all_goals repeat' (first
    | with_reducible exact Fr.refl _ _
    | exact (rfl : (_ : Nat) = _)
    | with_reducible refine Fr.trans ?_ (by assumption)
    | with_reducible refine State.wrN_fr ?_ ?_)

theorem execStbWindowReady_fr {msk : Nat} {b₀ : State} {s : State} (h₀ : Fr msk b₀ s) (hm₀ : 516 ||| msk = msk) :
    FrO msk b₀ (execStbWindowReady s) := by
  refine FrO.step h₀ ?_ hm₀
  clear h₀ hm₀
  unfold execStbWindowReady
  try dsimp only
  repeat' (first
    | with_reducible exact Fr.refl _ _
    | exact (rfl : (_ : Nat) = _)
    | with_reducible refine State.fillWin_fr ?_ ?_
    | with_reducible refine State.putFld_fr ?_ ?_
    | with_reducible refine State.putBit_fr ?_ ?_
    | with_reducible refine FrO.next ?_
    | split
    | refine Fr.mk' ?_)

theorem execStudbookFlushTimer_fr {msk : Nat} {b₀ : State} {s : State} (h₀ : Fr msk b₀ s) (hm₀ : 516 ||| msk = msk) :
    FrO msk b₀ (execStudbookFlushTimer s) := by
  refine FrO.step h₀ ?_ hm₀
  clear h₀ hm₀
  unfold execStudbookFlushTimer
  try dsimp only
  repeat' (first
    | with_reducible exact Fr.refl _ _
    | exact (rfl : (_ : Nat) = _)
    | with_reducible refine State.startFlush_fr ?_ ?_
    | with_reducible refine Fr.ite ?_ ?_
    | with_reducible refine FrO.next ?_)

theorem execStbAppCmd_fr {msk : Nat} {b₀ : State} {len : Nat} {typ : Nat} {s : State} (h₀ : Fr msk b₀ s) (hm₀ : 693062 ||| msk = msk) :
    FrO msk b₀ (execStbAppCmd len typ s) := by
  refine FrO.step h₀ ?_ hm₀
  clear h₀ hm₀
  unfold execStbAppCmd
  try dsimp only
  repeat' (first
    | with_reducible exact Fr.refl _ _
    | exact (rfl : (_ : Nat) = _)
    | with_reducible refine State.event_fr ?_ ?_
    | with_reducible refine State.wrN_fr ?_ ?_
    | with_reducible refine State.record_fr ?_ ?_
    | with_reducible refine FrO.ite ?_ ?_
    | with_reducible refine FrO.next ?_
    | split
    | refine Fr.mk' ?_)

theorem execStbFlushCmd_fr {msk : Nat} {b₀ : State} {s : State} (h₀ : Fr msk b₀ s) (hm₀ : 516 ||| msk = msk) :
    FrO msk b₀ (execStbFlushCmd s) := by
  refine FrO.step h₀ ?_ hm₀
  clear h₀ hm₀
  unfold execStbFlushCmd
  try dsimp only
  repeat' (first
    | with_reducible exact Fr.refl _ _
    | exact (rfl : (_ : Nat) = _)
    | with_reducible refine State.putBit_fr ?_ ?_
    | with_reducible refine State.startFlush_fr ?_ ?_
    | with_reducible refine Fr.ite ?_ ?_
    | with_reducible refine FrO.next ?_
    | refine Fr.mk' ?_)

theorem State.stbShow_fr {msk : Nat} {b₀ : State} {s : State} (h₀ : Fr msk b₀ s) (hm₀ : 693062 ||| msk = msk) :
    Fr msk b₀ (State.stbShow s) := by
  refine Fr.step h₀ ?_ hm₀
  clear h₀ hm₀
  unfold State.stbShow
  try dsimp only
  repeat' (first
    | with_reducible exact Fr.refl _ _
    | exact (rfl : (_ : Nat) = _)
    | with_reducible refine State.wrN_fr ?_ ?_
    | with_reducible refine State.wr64_fr ?_ ?_
    | with_reducible refine State.raise_fr ?_ ?_
    | with_reducible refine State.event_fr ?_ ?_
    | with_reducible refine State.putBit_fr ?_ ?_
    | with_reducible refine Fr.ite ?_ ?_)

theorem execResilverDone_fr {msk : Nat} {b₀ : State} {s : State} (h₀ : Fr msk b₀ s) (hm₀ : 4 ||| msk = msk) :
    FrO msk b₀ (execResilverDone s) := by
  refine FrO.step h₀ ?_ hm₀
  clear h₀ hm₀
  unfold execResilverDone
  try dsimp only
  repeat' (first
    | with_reducible exact Fr.refl _ _
    | exact (rfl : (_ : Nat) = _)
    | with_reducible refine State.event_fr ?_ ?_
    | with_reducible refine State.putBit_fr ?_ ?_
    | with_reducible refine Fr.ite ?_ ?_
    | with_reducible refine FrO.next ?_)

theorem State.stbDevFail_fr {msk : Nat} {b₀ : State} {s : State} {dev : Nat} (h₀ : Fr msk b₀ s) (hm₀ : 693062 ||| msk = msk) :
    Fr msk b₀ (State.stbDevFail s dev) := by
  refine Fr.step h₀ ?_ hm₀
  clear h₀ hm₀
  unfold State.stbDevFail
  try dsimp only
  repeat' (first
    | with_reducible exact Fr.refl _ _
    | exact (rfl : (_ : Nat) = _)
    | with_reducible refine State.raise_fr ?_ ?_
    | with_reducible refine State.event_fr ?_ ?_
    | with_reducible refine State.putBit_fr ?_ ?_)

theorem execStbRdOffWrite_fr {msk : Nat} {b₀ : State} {off : Nat} {s : State} (h₀ : Fr msk b₀ s) (hm₀ : 516 ||| msk = msk) :
    FrO msk b₀ (execStbRdOffWrite off s) := by
  refine FrO.step h₀ ?_ hm₀
  clear h₀ hm₀
  unfold execStbRdOffWrite
  try dsimp only
  repeat' (first
    | with_reducible exact Fr.refl _ _
    | exact (rfl : (_ : Nat) = _)
    | with_reducible refine State.putBit_fr ?_ ?_
    | with_reducible refine State.wr64_fr ?_ ?_
    | with_reducible refine FrO.next ?_
    | refine Fr.mk' ?_)

theorem execStudbookFlushDone_fr {msk : Nat} {b₀ : State} {ok0 : Bool} {ok1 : Bool} {s : State} (h₀ : Fr msk b₀ s) (hm₀ : 693062 ||| msk = msk) :
    FrO msk b₀ (execStudbookFlushDone ok0 ok1 s) := by
  refine FrO.step h₀ ?_ hm₀
  clear h₀ hm₀
  unfold execStudbookFlushDone
  try dsimp only
  repeat' (first
    | with_reducible exact Fr.refl _ _
    | exact (rfl : (_ : Nat) = _)
    | with_reducible refine State.event_fr ?_ ?_
    | with_reducible refine State.wr64_fr ?_ ?_
    | with_reducible refine State.putBit_fr ?_ ?_
    | with_reducible refine State.startFlush_fr ?_ ?_
    | with_reducible refine State.stbDevFail_fr ?_ ?_
    | with_reducible refine Fr.ite ?_ ?_
    | with_reducible refine FrO.next ?_
    | split
    | refine Fr.mk' ?_)

end Sys2Proof.Machine
end

