-- ==== Sys2Proof/Laws/FrCommit.lean ====
section
/-! SUPPORT. Frames of the operations of Machine.Commit: the parts of State that each may change. -/

set_option maxRecDepth 20000
set_option Elab.async false
set_option linter.unusedTactic false
set_option linter.unreachableTactic false
set_option linter.unusedVariables false

namespace Sys2Proof.Machine

theorem State.feedSample_fr {msk : Nat} {b₀ : State} {s : State} {f : StrideFacts} (h₀ : Fr msk b₀ s) (hm₀ : 266244 ||| msk = msk) :
    Fr msk b₀ (State.feedSample s f) := by
  refine Fr.step h₀ ?_ hm₀
  clear h₀ hm₀
  unfold State.feedSample
  try dsimp only
  repeat' (first
    | with_reducible exact Fr.refl _ _
    | exact (rfl : (_ : Nat) = _)
    | with_reducible refine State.event_fr ?_ ?_
    | with_reducible refine State.wrN_fr ?_ ?_
    | split
    | refine Fr.mk' ?_)

theorem State.softReg_fr {msk : Nat} {b₀ : State} {s : State} {k : Nat} (h₀ : Fr msk b₀ s) (hm₀ : 4 ||| msk = msk) :
    Fr msk b₀ (State.softReg s k) := by
  refine Fr.step h₀ ?_ hm₀
  clear h₀ hm₀
  unfold State.softReg
  try dsimp only
  repeat' (first
    | with_reducible exact Fr.refl _ _
    | exact (rfl : (_ : Nat) = _)
    | with_reducible refine State.wr_fr ?_ ?_
    | with_reducible refine Fr.ite ?_ ?_
    | split)

theorem State.startInit_fr {msk : Nat} {b₀ : State} {s : State} {p : Nat} (h₀ : Fr msk b₀ s) (hm₀ : 132 ||| msk = msk) :
    Fr msk b₀ (State.startInit s p) := by
  refine Fr.step h₀ ?_ hm₀
  clear h₀ hm₀
  unfold State.startInit
  try dsimp only
  repeat' (first
    | with_reducible exact Fr.refl _ _
    | exact (rfl : (_ : Nat) = _)
    | with_reducible refine State.setUnits_fr ?_ ?_
    | with_reducible refine State.setPage_fr ?_ ?_
    | with_reducible refine State.putBit_fr ?_ ?_
    | refine Fr.mk' ?_)

theorem State.softReset_fr {msk : Nat} {b₀ : State} {s : State} {p : Nat} (h₀ : Fr msk b₀ s) (hm₀ : 172 ||| msk = msk) :
    Fr msk b₀ (State.softReset s p) := by
  refine Fr.step h₀ ?_ hm₀
  clear h₀ hm₀
  unfold State.softReset
  try dsimp only
  repeat' (first
    | with_reducible exact Fr.refl _ _
    | with_reducible assumption
    | exact (rfl : (_ : Nat) = _)
    | with_reducible refine State.softReg_fr ?_ ?_
    | with_reducible refine State.putBit_fr ?_ ?_
    | with_reducible refine State.startInit_fr ?_ ?_
    | with_reducible refine State.setUnits_fr ?_ ?_
    | with_reducible refine State.setPage_fr ?_ ?_
    | with_reducible refine Fr.ite ?_ ?_
    | with_reducible refine Fr.foldl ?_ _ _ ?_
    | intro _ _ _
    | refine Fr.mk' ?_)

theorem State.actRun_fr {msk : Nat} {b₀ : State} {s : State} {a : Activity} {bands : List BandCopy} (h₀ : Fr msk b₀ s) (hm₀ : 588038 ||| msk = msk) :
    Fr msk b₀ (State.actRun s a bands) := by
  refine Fr.step h₀ ?_ hm₀
  clear h₀ hm₀
  unfold State.actRun
  try dsimp only
  repeat' (first
    | with_reducible exact Fr.refl _ _
    | exact (rfl : (_ : Nat) = _)
    | with_reducible refine State.ftlActRun_fr ?_ ?_
    | with_reducible refine State.spActRun_fr ?_ ?_
    | with_reducible refine State.replActRun_fr ?_ ?_
    | with_reducible refine State.transferRun_fr ?_ ?_
    | with_reducible refine State.putBit_fr ?_ ?_
    | with_reducible refine State.rmActRun_fr ?_ ?_
    | with_reducible refine Fr.ite ?_ ?_)

theorem State.gate_fr {msk : Nat} {b₀ : State} {s : State} (h₀ : Fr msk b₀ s) (hm₀ : 132 ||| msk = msk) :
    Fr msk b₀ (State.gate s).1 := by
  refine Fr.step h₀ ?_ hm₀
  clear h₀ hm₀
  unfold State.gate
  try dsimp only
  repeat' (first
    | with_reducible exact Fr.refl _ _
    | exact (rfl : (_ : Nat) = _)
    | with_reducible refine State.ungate_fr ?_ ?_
    | with_reducible refine State.lateCheck_fr ?_ ?_
    | with_reducible refine Fr.ite₁ ?_ ?_)

theorem State.pcieFacts_fr {msk : Nat} {b₀ : State} {s : State} {f : StrideFacts} (h₀ : Fr msk b₀ s) (hm₀ : 4 ||| msk = msk) :
    Fr msk b₀ (State.pcieFacts s f) := by
  refine Fr.step h₀ ?_ hm₀
  clear h₀ hm₀
  unfold State.pcieFacts
  try dsimp only
  repeat' (first
    | with_reducible exact Fr.refl _ _
    | with_reducible assumption
    | exact (rfl : (_ : Nat) = _)
    | with_reducible refine State.wrN_fr ?_ ?_
    | with_reducible refine State.countBy_fr ?_ ?_
    | dsimp only
    | with_reducible refine Fr.ite ?_ ?_
    | with_reducible refine Fr.ite₁ ?_ ?_
    | with_reducible refine FrS.ite ?_ ?_
    | with_reducible refine FrP.ite ?_ ?_
    | with_reducible exact FrS.none
    | with_reducible refine FrS.some ?_
    | with_reducible refine FrS.map ?_
    | with_reducible exact FrP.none
    | with_reducible refine FrP.some ?_
    | with_reducible refine Fr.elim ?_ ?_
    | with_reducible refine Fr.foldl ?_ _ _ ?_
    | with_reducible refine Fr.foldl₂ ?_ _ _ ?_
    | intro _ _ _ _ _ _
    | intro _ _ _ _ _
    | intro _ _ _ _
    | intro _ _ _
    | intro _ _
    | intro _
    | with_reducible refine Fr.pair (h := ?_) (e := by assumption)
    | with_reducible refine FrO.got (h := ?_) (e := by assumption)
    | with_reducible refine FrS.get (h := ?_) (e := by assumption)
    | with_reducible refine FrP.get (h := ?_) (e := by assumption)
    | split)

theorem State.monitors_fr {msk : Nat} {b₀ : State} {s : State} {f : StrideFacts} (h₀ : Fr msk b₀ s) (hm₀ : 262148 ||| msk = msk) :
    Fr msk b₀ (State.monitors s f) := by
  refine Fr.step h₀ ?_ hm₀
  clear h₀ hm₀
  unfold State.monitors
  try dsimp only
  repeat' (first
    | with_reducible exact Fr.refl _ _
    | with_reducible assumption
    | exact (rfl : (_ : Nat) = _)
    | with_reducible refine State.tjSeen_fr ?_ ?_
    | with_reducible refine State.wrN_fr ?_ ?_
    | with_reducible refine State.pcieFacts_fr ?_ ?_
    | with_reducible refine State.event_fr ?_ ?_
    | dsimp only
    | with_reducible refine Fr.ite ?_ ?_
    | with_reducible refine Fr.ite₁ ?_ ?_
    | with_reducible refine FrS.ite ?_ ?_
    | with_reducible refine FrP.ite ?_ ?_
    | with_reducible exact FrS.none
    | with_reducible refine FrS.some ?_
    | with_reducible refine FrS.map ?_
    | with_reducible exact FrP.none
    | with_reducible refine FrP.some ?_
    | with_reducible refine Fr.elim ?_ ?_
    | with_reducible refine Fr.foldl ?_ _ _ ?_
    | with_reducible refine Fr.foldl₂ ?_ _ _ ?_
    | intro _ _ _ _ _ _
    | intro _ _ _ _ _
    | intro _ _ _ _
    | intro _ _ _
    | intro _ _
    | intro _
    | with_reducible refine Fr.pair (h := ?_) (e := by assumption)
    | with_reducible refine FrO.got (h := ?_) (e := by assumption)
    | with_reducible refine FrS.get (h := ?_) (e := by assumption)
    | with_reducible refine FrP.get (h := ?_) (e := by assumption)
    | split
    | refine Fr.mk' ?_)

theorem State.unitsFail_fr {msk : Nat} {b₀ : State} {s : State} {l : List (Nat × Nat)} (h₀ : Fr msk b₀ s) (hm₀ : 693062 ||| msk = msk) :
    Fr msk b₀ (State.unitsFail s l) := by
  refine Fr.step h₀ ?_ hm₀
  clear h₀ hm₀
  unfold State.unitsFail
  try dsimp only
  repeat' (first
    | with_reducible exact Fr.refl _ _
    | with_reducible assumption
    | exact (rfl : (_ : Nat) = _)
    | with_reducible refine State.raise_fr ?_ ?_
    | dsimp only
    | with_reducible refine Fr.ite ?_ ?_
    | with_reducible refine Fr.ite₁ ?_ ?_
    | with_reducible refine FrS.ite ?_ ?_
    | with_reducible refine FrP.ite ?_ ?_
    | with_reducible exact FrS.none
    | with_reducible refine FrS.some ?_
    | with_reducible refine FrS.map ?_
    | with_reducible exact FrP.none
    | with_reducible refine FrP.some ?_
    | with_reducible refine Fr.elim ?_ ?_
    | with_reducible refine Fr.foldl ?_ _ _ ?_
    | with_reducible refine Fr.foldl₂ ?_ _ _ ?_
    | intro _ _ _ _ _ _
    | intro _ _ _ _ _
    | intro _ _ _ _
    | intro _ _ _
    | intro _ _
    | intro _
    | with_reducible refine Fr.pair (h := ?_) (e := by assumption)
    | with_reducible refine FrO.got (h := ?_) (e := by assumption)
    | with_reducible refine FrS.get (h := ?_) (e := by assumption)
    | with_reducible refine FrP.get (h := ?_) (e := by assumption)
    | split)

theorem State.commitFns_fr {msk : Nat} {b₀ : State} {s : State} (h₀ : Fr msk b₀ s) (hm₀ : 63494 ||| msk = msk) :
    Fr msk b₀ (State.commitFns s) := by
  refine Fr.step h₀ ?_ hm₀
  clear h₀ hm₀
  unfold State.commitFns
  try dsimp only
  repeat' (first
    | with_reducible exact Fr.refl _ _
    | with_reducible assumption
    | exact (rfl : (_ : Nat) = _)
    | with_reducible refine State.fnCmdApply_fr ?_ ?_
    | with_reducible refine State.fnLeaveApply_fr ?_ ?_
    | with_reducible refine State.oversubscribed_fr ?_ ?_
    | with_reducible refine State.finishApply_fr ?_ ?_
    | with_reducible refine State.lqIntPost_fr ?_ ?_
    | with_reducible refine State.lqReadyUpdate_fr ?_ ?_
    | with_reducible refine State.lqResetApply_fr ?_ ?_
    | dsimp only
    | with_reducible refine Fr.ite ?_ ?_
    | with_reducible refine Fr.ite₁ ?_ ?_
    | with_reducible refine FrS.ite ?_ ?_
    | with_reducible refine FrP.ite ?_ ?_
    | with_reducible exact FrS.none
    | with_reducible refine FrS.some ?_
    | with_reducible refine FrS.map ?_
    | with_reducible exact FrP.none
    | with_reducible refine FrP.some ?_
    | with_reducible refine Fr.elim ?_ ?_
    | with_reducible refine Fr.foldl ?_ _ _ ?_
    | with_reducible refine Fr.foldl₂ ?_ _ _ ?_
    | intro _ _ _ _ _ _
    | intro _ _ _ _ _
    | intro _ _ _ _
    | intro _ _ _
    | intro _ _
    | intro _
    | with_reducible refine Fr.pair (h := ?_) (e := by assumption)
    | with_reducible refine FrO.got (h := ?_) (e := by assumption)
    | with_reducible refine FrS.get (h := ?_) (e := by assumption)
    | with_reducible refine FrP.get (h := ?_) (e := by assumption)
    | split)

theorem State.nextStride_fr {msk : Nat} {b₀ : State} {s : State} (h₀ : Fr msk b₀ s) (hm₀ : 68 ||| msk = msk) :
    Fr msk b₀ (State.nextStride s) := by
  refine Fr.step h₀ ?_ hm₀
  clear h₀ hm₀
  unfold State.nextStride
  try dsimp only
  repeat' (first
    | with_reducible exact Fr.refl _ _
    | exact (rfl : (_ : Nat) = _)
    | with_reducible refine State.wr64_fr ?_ ?_
    | refine Fr.mk' ?_)

theorem State.enableApply_fr {msk : Nat} {b₀ : State} {s : State} (h₀ : Fr msk b₀ s) (hm₀ : 132 ||| msk = msk) :
    Fr msk b₀ (State.enableApply s) := by
  refine Fr.step h₀ ?_ hm₀
  clear h₀ hm₀
  unfold State.enableApply
  try dsimp only
  repeat' (first
    | with_reducible exact Fr.refl _ _
    | with_reducible assumption
    | exact (rfl : (_ : Nat) = _)
    | with_reducible refine State.startInit_fr ?_ ?_
    | with_reducible refine Fr.ite ?_ ?_
    | with_reducible refine Fr.foldl ?_ _ _ ?_
    | intro _ _ _)

theorem State.freezeApply_fr {msk : Nat} {b₀ : State} {s : State} (h₀ : Fr msk b₀ s) (hm₀ : 4 ||| msk = msk) :
    Fr msk b₀ (State.freezeApply s) := by
  refine Fr.step h₀ ?_ hm₀
  clear h₀ hm₀
  unfold State.freezeApply
  try dsimp only
  repeat' (first
    | with_reducible exact Fr.refl _ _
    | with_reducible assumption
    | exact (rfl : (_ : Nat) = _)
    | with_reducible refine State.putBit_fr ?_ ?_
    | with_reducible refine Fr.ite ?_ ?_
    | with_reducible refine Fr.foldl ?_ _ _ ?_
    | intro _ _ _)

theorem State.commitRegs_fr {msk : Nat} {b₀ : State} {s : State} {held : List Nat} {mapOk : Bool} {camBad : List Nat} (h₀ : Fr msk b₀ s) (hm₀ : 785390 ||| msk = msk) :
    Fr msk b₀ (State.commitRegs s held mapOk camBad) := by
  refine Fr.step h₀ ?_ hm₀
  clear h₀ hm₀
  unfold State.commitRegs
  try dsimp only
  repeat' (first
    | with_reducible exact Fr.refl _ _
    | with_reducible assumption
    | exact (rfl : (_ : Nat) = _)
    | with_reducible refine State.softReset_fr ?_ ?_
    | with_reducible refine State.rwsApply_fr ?_ ?_
    | with_reducible refine State.calSetApply_fr ?_ ?_
    | with_reducible refine State.wearCommit_fr ?_ ?_
    | with_reducible refine State.enableApply_fr ?_ ?_
    | with_reducible refine State.pagesMove_fr ?_ ?_
    | with_reducible refine State.freezeApply_fr ?_ ?_
    | with_reducible refine State.rowCommit_fr ?_ ?_
    | with_reducible refine State.rmCommit_fr ?_ ?_
    | with_reducible refine State.ksApply_fr ?_ ?_
    | dsimp only
    | with_reducible refine Fr.ite ?_ ?_
    | with_reducible refine Fr.ite₁ ?_ ?_
    | with_reducible refine FrS.ite ?_ ?_
    | with_reducible refine FrP.ite ?_ ?_
    | with_reducible exact FrS.none
    | with_reducible refine FrS.some ?_
    | with_reducible refine FrS.map ?_
    | with_reducible exact FrP.none
    | with_reducible refine FrP.some ?_
    | with_reducible refine Fr.elim ?_ ?_
    | with_reducible refine Fr.foldl ?_ _ _ ?_
    | with_reducible refine Fr.foldl₂ ?_ _ _ ?_
    | intro _ _ _ _ _ _
    | intro _ _ _ _ _
    | intro _ _ _ _
    | intro _ _ _
    | intro _ _
    | intro _
    | with_reducible refine Fr.pair (h := ?_) (e := by assumption)
    | with_reducible refine FrO.got (h := ?_) (e := by assumption)
    | with_reducible refine FrS.get (h := ?_) (e := by assumption)
    | with_reducible refine FrP.get (h := ?_) (e := by assumption)
    | split)

theorem State.commitOrdered_fr {msk : Nat} {b₀ : State} {s : State} {f : StrideFacts} (h₀ : Fr msk b₀ s) (hm₀ : 785390 ||| msk = msk) :
    Fr msk b₀ (State.commitOrdered s f) := by
  refine Fr.step h₀ ?_ hm₀
  clear h₀ hm₀
  unfold State.commitOrdered
  try dsimp only
  repeat' (first
    | with_reducible exact Fr.refl _ _
    | with_reducible assumption
    | exact (rfl : (_ : Nat) = _)
    | with_reducible refine State.gate_fr ?_ ?_
    | with_reducible refine State.nextStride_fr ?_ ?_
    | with_reducible refine State.commitRegs_fr ?_ ?_
    | with_reducible refine State.freqCommit_fr ?_ ?_
    | with_reducible refine State.driftApply_fr ?_ ?_
    | with_reducible refine State.binChange_fr ?_ ?_
    | with_reducible refine State.calCommit_fr ?_ ?_
    | with_reducible refine State.weirGrant_fr ?_ ?_
    | with_reducible refine State.psApply_fr ?_ ?_
    | with_reducible refine State.epochAdvance_fr ?_ ?_
    | with_reducible refine State.camPendingValid_fr ?_ ?_
    | dsimp only
    | with_reducible refine Fr.ite ?_ ?_
    | with_reducible refine Fr.ite₁ ?_ ?_
    | with_reducible refine FrS.ite ?_ ?_
    | with_reducible refine FrP.ite ?_ ?_
    | with_reducible exact FrS.none
    | with_reducible refine FrS.some ?_
    | with_reducible refine FrS.map ?_
    | with_reducible exact FrP.none
    | with_reducible refine FrP.some ?_
    | with_reducible refine Fr.elim ?_ ?_
    | with_reducible refine Fr.foldl ?_ _ _ ?_
    | with_reducible refine Fr.foldl₂ ?_ _ _ ?_
    | intro _ _ _ _ _ _
    | intro _ _ _ _ _
    | intro _ _ _ _
    | intro _ _ _
    | intro _ _
    | intro _
    | with_reducible refine Fr.pair (h := ?_) (e := by assumption)
    | with_reducible refine FrO.got (h := ?_) (e := by assumption)
    | with_reducible refine FrS.get (h := ?_) (e := by assumption)
    | with_reducible refine FrP.get (h := ?_) (e := by assumption)
    | split)

theorem State.restoredScan_fr {msk : Nat} {b₀ : State} {s : State} (h₀ : Fr msk b₀ s) (hm₀ : 4100 ||| msk = msk) :
    Fr msk b₀ (State.restoredScan s) := by
  refine Fr.step h₀ ?_ hm₀
  clear h₀ hm₀
  unfold State.restoredScan
  try dsimp only
  repeat' (first
    | with_reducible exact Fr.refl _ _
    | exact (rfl : (_ : Nat) = _)
    | with_reducible refine State.event_fr ?_ ?_
    | with_reducible refine State.putBit_fr ?_ ?_
    | with_reducible refine Fr.ite ?_ ?_
    | split
    | refine Fr.mk' ?_)

theorem State.releaseScan_fr {msk : Nat} {b₀ : State} {s : State} (h₀ : Fr msk b₀ s) (hm₀ : 28672 ||| msk = msk) :
    Fr msk b₀ (State.releaseScan s) := by
  refine Fr.step h₀ ?_ hm₀
  clear h₀ hm₀
  unfold State.releaseScan
  try dsimp only
  repeat' (first
    | with_reducible exact Fr.refl _ _
    | with_reducible assumption
    | exact (rfl : (_ : Nat) = _)
    | with_reducible refine State.tryRelease_fr ?_ ?_
    | with_reducible refine Fr.foldl ?_ _ _ ?_
    | intro _ _ _)

theorem State.commitMedia_fr {msk : Nat} {b₀ : State} {s : State} (h₀ : Fr msk b₀ s) (hm₀ : 717638 ||| msk = msk) :
    Fr msk b₀ (State.commitMedia s) := by
  refine Fr.step h₀ ?_ hm₀
  clear h₀ hm₀
  unfold State.commitMedia
  try dsimp only
  repeat' (first
    | with_reducible exact Fr.refl _ _
    | with_reducible assumption
    | exact (rfl : (_ : Nat) = _)
    | with_reducible refine State.checkpointRoots_fr ?_ ?_
    | with_reducible refine State.spillDiscard_fr ?_ ?_
    | with_reducible refine State.spillRecompute_fr ?_ ?_
    | with_reducible refine State.spaceChange_fr ?_ ?_
    | with_reducible refine State.dieRetireScan_fr ?_ ?_
    | with_reducible refine State.restoredScan_fr ?_ ?_
    | with_reducible refine State.releaseScan_fr ?_ ?_
    | with_reducible refine State.mapTxnApply_fr ?_ ?_
    | with_reducible refine State.failsHandle_fr ?_ ?_
    | with_reducible refine State.boundRecompute_fr ?_ ?_
    | with_reducible refine State.wearPay_fr ?_ ?_
    | with_reducible refine State.redundScan_fr ?_ ?_
    | with_reducible refine State.rebuildAdmit_fr ?_ ?_
    | with_reducible refine State.rebuildEnds_fr ?_ ?_
    | with_reducible refine State.patrolStep_fr ?_ ?_
    | dsimp only
    | with_reducible refine Fr.ite ?_ ?_
    | with_reducible refine Fr.ite₁ ?_ ?_
    | with_reducible refine FrS.ite ?_ ?_
    | with_reducible refine FrP.ite ?_ ?_
    | with_reducible exact FrS.none
    | with_reducible refine FrS.some ?_
    | with_reducible refine FrS.map ?_
    | with_reducible exact FrP.none
    | with_reducible refine FrP.some ?_
    | with_reducible refine Fr.elim ?_ ?_
    | with_reducible refine Fr.foldl ?_ _ _ ?_
    | with_reducible refine Fr.foldl₂ ?_ _ _ ?_
    | intro _ _ _ _ _ _
    | intro _ _ _ _ _
    | intro _ _ _ _
    | intro _ _ _
    | intro _ _
    | intro _
    | with_reducible refine Fr.pair (h := ?_) (e := by assumption)
    | with_reducible refine FrO.got (h := ?_) (e := by assumption)
    | with_reducible refine FrS.get (h := ?_) (e := by assumption)
    | with_reducible refine FrP.get (h := ?_) (e := by assumption)
    | split)

theorem State.pumpAll_fr {msk : Nat} {b₀ : State} {s : State} (h₀ : Fr msk b₀ s) (hm₀ : 16390 ||| msk = msk) :
    Fr msk b₀ (State.pumpAll s) := by
  refine Fr.step h₀ ?_ hm₀
  clear h₀ hm₀
  unfold State.pumpAll
  try dsimp only
  repeat' (first
    | with_reducible exact Fr.refl _ _
    | with_reducible assumption
    | exact (rfl : (_ : Nat) = _)
    | with_reducible refine State.pump_fr ?_ ?_
    | with_reducible refine Fr.foldl ?_ _ _ ?_
    | intro _ _ _)

theorem State.fencePage_fr {msk : Nat} {b₀ : State} {s : State} {p : Nat} (h₀ : Fr msk b₀ s) (hm₀ : 4 ||| msk = msk) :
    Fr msk b₀ (State.fencePage s p) := by
  refine Fr.step h₀ ?_ hm₀
  clear h₀ hm₀
  unfold State.fencePage
  try dsimp only
  repeat' (first
    | with_reducible exact Fr.refl _ _
    | exact (rfl : (_ : Nat) = _)
    | with_reducible refine State.setPage_fr ?_ ?_
    | with_reducible refine Fr.ite ?_ ?_)

theorem State.fenceCommit_fr {msk : Nat} {b₀ : State} {s : State} (h₀ : Fr msk b₀ s) (hm₀ : 777158 ||| msk = msk) :
    Fr msk b₀ (State.fenceCommit s) := by
  refine Fr.step h₀ ?_ hm₀
  clear h₀ hm₀
  unfold State.fenceCommit
  try dsimp only
  repeat' (first
    | with_reducible exact Fr.refl _ _
    | with_reducible assumption
    | exact (rfl : (_ : Nat) = _)
    | with_reducible refine State.setRole_fr ?_ ?_
    | with_reducible refine State.rankAbandon_fr ?_ ?_
    | with_reducible refine State.rmAbandon_fr ?_ ?_
    | with_reducible refine State.fencePage_fr ?_ ?_
    | with_reducible refine State.evPost_fr ?_ ?_
    | with_reducible refine State.fenceCommands_fr ?_ ?_
    | with_reducible refine Fr.ite ?_ ?_
    | with_reducible refine Fr.foldl ?_ _ _ ?_
    | intro _ _ _
    | refine Fr.mk' ?_)

theorem State.queuedOne_fr {msk : Nat} {b₀ : State} {bands : List BandCopy} {d : State × List Activity} {a : Activity} (h₀ : Fr msk b₀ d.1) (hm₀ : 588038 ||| msk = msk) :
    Fr msk b₀ (State.queuedOne bands d a).1 := by
  refine Fr.step h₀ ?_ hm₀
  clear h₀ hm₀
  rcases d with ⟨s₀, x₀⟩
  dsimp only
  unfold State.queuedOne
  try dsimp only
  repeat' (first
    | with_reducible exact Fr.refl _ _
    | exact (rfl : (_ : Nat) = _)
    | with_reducible refine State.actRun_fr ?_ ?_
    | with_reducible refine State.setActs_fr ?_ ?_
    | with_reducible refine Fr.ite₁ ?_ ?_)

theorem State.queuedStart_fr {msk : Nat} {b₀ : State} {s : State} {bands : List BandCopy} (h₀ : Fr msk b₀ s) (hm₀ : 588038 ||| msk = msk) :
    Fr msk b₀ (State.queuedStart s bands) := by
  refine Fr.step h₀ ?_ hm₀
  clear h₀ hm₀
  unfold State.queuedStart
  try dsimp only
  repeat' (first
    | with_reducible exact Fr.refl _ _
    | with_reducible assumption
    | exact (rfl : (_ : Nat) = _)
    | with_reducible refine State.queuedOne_fr ?_ ?_
    | with_reducible refine Fr.foldl₂ ?_ _ _ ?_
    | intro _ _ _)

theorem State.busyClear_fr {msk : Nat} {b₀ : State} {s : State} (h₀ : Fr msk b₀ s) (hm₀ : 4 ||| msk = msk) :
    Fr msk b₀ (State.busyClear s) := by
  refine Fr.step h₀ ?_ hm₀
  clear h₀ hm₀
  unfold State.busyClear
  try dsimp only
  repeat' (first
    | with_reducible exact Fr.refl _ _
    | with_reducible assumption
    | exact (rfl : (_ : Nat) = _)
    | with_reducible refine State.putBit_fr ?_ ?_
    | with_reducible refine Fr.ite ?_ ?_
    | with_reducible refine Fr.foldl ?_ _ _ ?_
    | intro _ _ _)

theorem State.lowSample_fr {msk : Nat} {b₀ : State} {s : State} (h₀ : Fr msk b₀ s) (hm₀ : 32768 ||| msk = msk) :
    Fr msk b₀ (State.lowSample s) := by
  refine Fr.step h₀ ?_ hm₀
  clear h₀ hm₀
  unfold State.lowSample
  try dsimp only
  repeat' (first
    | with_reducible exact Fr.refl _ _
    | with_reducible refine Fr.ite ?_ ?_
    | refine Fr.mk' ?_)

theorem State.commitTandem_fr {msk : Nat} {b₀ : State} {s : State} (h₀ : Fr msk b₀ s) (hm₀ : 719686 ||| msk = msk) :
    Fr msk b₀ (State.commitTandem s) := by
  refine Fr.step h₀ ?_ hm₀
  clear h₀ hm₀
  unfold State.commitTandem
  try dsimp only
  repeat' (first
    | with_reducible exact Fr.refl _ _
    | exact (rfl : (_ : Nat) = _)
    | with_reducible refine State.takeoverApply_fr ?_ ?_
    | with_reducible refine State.arbApply_fr ?_ ?_
    | with_reducible refine State.roleEval_fr ?_ ?_
    | with_reducible refine State.reinMiss_fr ?_ ?_
    | with_reducible refine State.beatSend_fr ?_ ?_
    | with_reducible refine State.lowSample_fr ?_ ?_
    | with_reducible refine State.fenceInApply_fr ?_ ?_
    | with_reducible refine State.transferTaken_fr ?_ ?_
    | with_reducible refine State.transferGiven_fr ?_ ?_
    | with_reducible refine State.transferSend_fr ?_ ?_
    | with_reducible refine State.pumpAll_fr ?_ ?_
    | with_reducible refine State.holdShow_fr ?_ ?_
    | with_reducible refine State.anaApply_fr ?_ ?_
    | with_reducible refine State.refSend_fr ?_ ?_
    | with_reducible refine State.suspendScan_fr ?_ ?_
    | with_reducible refine Fr.ite ?_ ?_)

theorem State.evtPost_fr {msk : Nat} {b₀ : State} {s : State} (h₀ : Fr msk b₀ s) (hm₀ : 2054 ||| msk = msk) :
    Fr msk b₀ (State.evtPost s) := by
  refine Fr.step h₀ ?_ hm₀
  clear h₀ hm₀
  unfold State.evtPost
  try dsimp only
  repeat' (first
    | with_reducible exact Fr.refl _ _
    | with_reducible assumption
    | exact (rfl : (_ : Nat) = _)
    | with_reducible refine State.postMsix_fr ?_ ?_
    | with_reducible refine State.wr64_fr ?_ ?_
    | dsimp only
    | with_reducible refine Fr.ite ?_ ?_
    | with_reducible refine Fr.ite₁ ?_ ?_
    | with_reducible refine FrS.ite ?_ ?_
    | with_reducible refine FrP.ite ?_ ?_
    | with_reducible exact FrS.none
    | with_reducible refine FrS.some ?_
    | with_reducible refine FrS.map ?_
    | with_reducible exact FrP.none
    | with_reducible refine FrP.some ?_
    | with_reducible refine Fr.elim ?_ ?_
    | with_reducible refine Fr.foldl ?_ _ _ ?_
    | with_reducible refine Fr.foldl₂ ?_ _ _ ?_
    | intro _ _ _ _ _ _
    | intro _ _ _ _ _
    | intro _ _ _ _
    | intro _ _ _
    | intro _ _
    | intro _
    | with_reducible refine Fr.pair (h := ?_) (e := by assumption)
    | with_reducible refine FrO.got (h := ?_) (e := by assumption)
    | with_reducible refine FrS.get (h := ?_) (e := by assumption)
    | with_reducible refine FrP.get (h := ?_) (e := by assumption)
    | split)

theorem State.strideFlags_fr {msk : Nat} {b₀ : State} {s : State} (h₀ : Fr msk b₀ s) (hm₀ : 24580 ||| msk = msk) :
    Fr msk b₀ (State.strideFlags s) := by
  refine Fr.step h₀ ?_ hm₀
  clear h₀ hm₀
  unfold State.strideFlags
  try dsimp only
  repeat' (first
    | with_reducible exact Fr.refl _ _
    | exact (rfl : (_ : Nat) = _)
    | with_reducible refine State.event_fr ?_ ?_
    | split
    | refine Fr.mk' ?_)

theorem execCommitPoint_fr {msk : Nat} {b₀ : State} {f : StrideFacts} {s : State} (h₀ : Fr msk b₀ s) (hm₀ : 1047534 ||| msk = msk) :
    FrO msk b₀ (execCommitPoint f s) := by
  refine FrO.step h₀ ?_ hm₀
  clear h₀ hm₀
  unfold execCommitPoint
  try dsimp only
  repeat' (first
    | with_reducible exact Fr.refl _ _
    | with_reducible assumption
    | exact (rfl : (_ : Nat) = _)
    | with_reducible refine State.fenceCommit_fr ?_ ?_
    | with_reducible refine State.commitOrdered_fr ?_ ?_
    | with_reducible refine State.mirrorReleaseSend_fr ?_ ?_
    | with_reducible refine State.portTell_fr ?_ ?_
    | with_reducible refine State.qpTick_fr ?_ ?_
    | with_reducible refine State.keysRotate_fr ?_ ?_
    | with_reducible refine State.commitFns_fr ?_ ?_
    | with_reducible refine State.commitTandem_fr ?_ ?_
    | with_reducible refine State.commitMedia_fr ?_ ?_
    | with_reducible refine State.monitors_fr ?_ ?_
    | with_reducible refine State.feedSample_fr ?_ ?_
    | with_reducible refine State.ladderHandle_fr ?_ ?_
    | with_reducible refine State.queuedStart_fr ?_ ?_
    | with_reducible refine State.actPause_fr ?_ ?_
    | with_reducible refine State.busyClear_fr ?_ ?_
    | with_reducible refine State.unitsFail_fr ?_ ?_
    | with_reducible refine State.evtPost_fr ?_ ?_
    | with_reducible refine State.stbShow_fr ?_ ?_
    | with_reducible refine State.strideFlags_fr ?_ ?_
    | with_reducible refine State.mcCommit_fr ?_ ?_
    | dsimp only
    | with_reducible refine Fr.ite ?_ ?_
    | with_reducible refine Fr.ite₁ ?_ ?_
    | with_reducible refine FrO.ite ?_ ?_
    | with_reducible refine FrS.ite ?_ ?_
    | with_reducible refine FrP.ite ?_ ?_
    | with_reducible refine FrO.next ?_
    | with_reducible exact FrS.none
    | with_reducible refine FrS.some ?_
    | with_reducible refine FrS.map ?_
    | with_reducible exact FrP.none
    | with_reducible refine FrP.some ?_
    | with_reducible refine Fr.elim ?_ ?_
    | with_reducible refine Fr.foldl ?_ _ _ ?_
    | with_reducible refine Fr.foldl₂ ?_ _ _ ?_
    | intro _ _ _ _ _ _
    | intro _ _ _ _ _
    | intro _ _ _ _
    | intro _ _ _
    | intro _ _
    | intro _
    | with_reducible refine Fr.pair (h := ?_) (e := by assumption)
    | with_reducible refine FrO.got (h := ?_) (e := by assumption)
    | with_reducible refine FrS.get (h := ?_) (e := by assumption)
    | with_reducible refine FrP.get (h := ?_) (e := by assumption)
    | split)

end Sys2Proof.Machine
end

