-- ==== Sys2Proof/Laws/FrTack.lean ====
section
/-! SUPPORT. Frames of the operations of Machine.Tack: the parts of State that each may change. -/

set_option maxRecDepth 20000
set_option Elab.async false
set_option linter.unusedTactic false
set_option linter.unreachableTactic false
set_option linter.unusedVariables false

namespace Sys2Proof.Machine

theorem execTkRead_fr {msk : Nat} {b₀ : State} {s : State} (h₀ : Fr msk b₀ s) (hm₀ : 693062 ||| msk = msk) :
    FrO msk b₀ (execTkRead s) := by
  refine FrO.step h₀ ?_ hm₀
  clear h₀ hm₀
  unfold execTkRead
  try dsimp only
  repeat' (first
    | with_reducible exact Fr.refl _ _
    | exact (rfl : (_ : Nat) = _)
    | with_reducible refine State.writeDiscarded_fr ?_ ?_
    | with_reducible refine State.event_fr ?_ ?_
    | with_reducible refine State.wrN_fr ?_ ?_
    | with_reducible refine State.useFree_fr ?_ ?_
    | with_reducible refine State.emit_fr ?_ ?_
    | with_reducible refine FrO.ite ?_ ?_
    | with_reducible refine FrO.next ?_)

theorem State.tackShow_fr {msk : Nat} {b₀ : State} {s : State} (h₀ : Fr msk b₀ s) (hm₀ : 4 ||| msk = msk) :
    Fr msk b₀ (State.tackShow s) := by
  refine Fr.step h₀ ?_ hm₀
  clear h₀ hm₀
  unfold State.tackShow
  try dsimp only
  repeat' (first
    | with_reducible exact Fr.refl _ _
    | exact (rfl : (_ : Nat) = _)
    | with_reducible refine State.putBit_fr ?_ ?_
    | with_reducible refine State.wrN_fr ?_ ?_)

theorem State.tackWrite_fr {msk : Nat} {b₀ : State} {s : State} {image : List Byte} {readBack : Option (List Byte)} {bothB : Bool} (h₀ : Fr msk b₀ s) (hm₀ : 694086 ||| msk = msk) :
    Fr msk b₀ (State.tackWrite s image readBack bothB).1 := by
  refine Fr.step h₀ ?_ hm₀
  clear h₀ hm₀
  unfold State.tackWrite
  try dsimp only
  repeat' (first
    | with_reducible exact Fr.refl _ _
    | exact (rfl : (_ : Nat) = _)
    | with_reducible refine State.tackShow_fr ?_ ?_
    | with_reducible refine State.record_fr ?_ ?_
    | with_reducible refine Fr.ite₁ ?_ ?_
    | split
    | refine Fr.mk' ?_)

theorem execTkProceed_fr {msk : Nat} {b₀ : State} {s : State} (h₀ : Fr msk b₀ s) (hm₀ : 4 ||| msk = msk) :
    FrO msk b₀ (execTkProceed s) := by
  refine FrO.step h₀ ?_ hm₀
  clear h₀ hm₀
  unfold execTkProceed
  try dsimp only
  repeat' (first
    | with_reducible exact Fr.refl _ _
    | exact (rfl : (_ : Nat) = _)
    | with_reducible refine State.putBit_fr ?_ ?_
    | with_reducible refine FrO.next ?_)

theorem execTkWrite_fr {msk : Nat} {b₀ : State} {image : List Byte} {readBack : Option (List Byte)} {bothB : Bool} {s : State} (h₀ : Fr msk b₀ s) (hm₀ : 694086 ||| msk = msk) :
    FrO msk b₀ (execTkWrite image readBack bothB s) := by
  refine FrO.step h₀ ?_ hm₀
  clear h₀ hm₀
  unfold execTkWrite
  try dsimp only
  repeat' (first
    | with_reducible exact Fr.refl _ _
    | exact (rfl : (_ : Nat) = _)
    | with_reducible refine State.writeDiscarded_fr ?_ ?_
    | with_reducible refine State.tackWrite_fr ?_ ?_
    | with_reducible refine State.event_fr ?_ ?_
    | with_reducible refine State.wrN_fr ?_ ?_
    | with_reducible refine FrO.ite ?_ ?_
    | with_reducible refine FrO.next ?_)

end Sys2Proof.Machine
end

