-- ==== Sys2Proof/Laws/FrWrites.lean ====
section
/-! SUPPORT. Frames of the operations of Machine.Writes: the parts of State that each may change. -/

set_option maxRecDepth 20000
set_option Elab.async false
set_option linter.unusedTactic false
set_option linter.unreachableTactic false
set_option linter.unusedVariables false

namespace Sys2Proof.Machine

theorem Out.st_fr {msk : Nat} {b₀ : State} {o : Out} {s : State} (h₀ : Fr msk b₀ s) (h : FrO msk b₀ o) : Fr msk b₀ (o.st s) := by
  cases o
  · exact h.get _ rfl
  all_goals exact h₀

theorem State.trainWrite_fr {msk : Nat} {b₀ : State} {s : State} {k : LinkEnd} {on : Bool} {now : Bool} (h₀ : Fr msk b₀ s) (hm₀ : 719686 ||| msk = msk) :
    Fr msk b₀ (State.trainWrite s k on now) := by
  refine Fr.step h₀ ?_ hm₀
  clear h₀ hm₀
  unfold State.trainWrite
  try dsimp only
  repeat' (first
    | with_reducible exact Fr.refl _ _
    | with_reducible assumption
    | exact (rfl : (_ : Nat) = _)
    | with_reducible refine State.putBit_fr ?_ ?_
    | with_reducible refine State.trainStart_fr ?_ ?_
    | with_reducible refine State.setLinkState_fr ?_ ?_
    | with_reducible refine State.linkGoesDown_fr ?_ ?_
    | dsimp only
    | with_reducible refine Fr.ite ?_ ?_
    | with_reducible refine Fr.ite₁ ?_ ?_
    | with_reducible refine FrS.ite ?_ ?_
    | with_reducible refine FrP.ite ?_ ?_
    | with_reducible exact FrS.none
    | with_reducible refine FrS.some ?_
    | with_reducible refine FrS.map ?_
    | with_reducible exact FrP.none
    | with_reducible refine FrP.some ?_
    | with_reducible refine Fr.elim ?_ ?_
    | with_reducible refine Fr.foldl ?_ _ _ ?_
    | with_reducible refine Fr.foldl₂ ?_ _ _ ?_
    | intro _ _ _ _ _ _
    | intro _ _ _ _ _
    | intro _ _ _ _
    | intro _ _ _
    | intro _ _
    | intro _
    | with_reducible refine Fr.pair (h := ?_) (e := by assumption)
    | with_reducible refine FrO.got (h := ?_) (e := by assumption)
    | with_reducible refine FrS.get (h := ?_) (e := by assumption)
    | with_reducible refine FrP.get (h := ?_) (e := by assumption)
    | split)

theorem State.ownAct_fr {msk : Nat} {b₀ : State} {s : State} {off : Nat} {v : Word} {now : Bool} (h₀ : Fr msk b₀ s) (hm₀ : 981958 ||| msk = msk) :
    Fr msk b₀ (State.ownAct s off v now) := by
  refine Fr.step h₀ ?_ hm₀
  clear h₀ hm₀
  unfold State.ownAct
  try dsimp only
  repeat' (first
    | with_reducible exact Fr.refl _ _
    | with_reducible assumption
    | exact (rfl : (_ : Nat) = _)
    | with_reducible refine State.lateCheck_fr ?_ ?_
    | with_reducible refine State.putBit_fr ?_ ?_
    | with_reducible refine State.ungate_fr ?_ ?_
    | with_reducible refine State.startLifeSave_fr ?_ ?_
    | with_reducible refine Out.st_fr ?_ ?_
    | with_reducible refine execChipInjEn_fr ?_ ?_
    | with_reducible refine State.wr_fr ?_ ?_
    | with_reducible refine execModRstAssert_fr ?_ ?_
    | with_reducible refine execModRstRelease_fr ?_ ?_
    | with_reducible refine execGsiTxProdWrite_fr ?_ ?_
    | with_reducible refine State.trainWrite_fr ?_ ?_
    | with_reducible refine execEthModeWrite_fr ?_ ?_
    | dsimp only
    | with_reducible refine Fr.ite ?_ ?_
    | with_reducible refine Fr.ite₁ ?_ ?_
    | with_reducible refine FrS.ite ?_ ?_
    | with_reducible refine FrP.ite ?_ ?_
    | with_reducible exact FrS.none
    | with_reducible refine FrS.some ?_
    | with_reducible refine FrS.map ?_
    | with_reducible exact FrP.none
    | with_reducible refine FrP.some ?_
    | with_reducible refine Fr.elim ?_ ?_
    | with_reducible refine Fr.foldl ?_ _ _ ?_
    | with_reducible refine Fr.foldl₂ ?_ _ _ ?_
    | intro _ _ _ _ _ _
    | intro _ _ _ _ _
    | intro _ _ _ _
    | intro _ _ _
    | intro _ _
    | intro _
    | with_reducible refine Fr.pair (h := ?_) (e := by assumption)
    | with_reducible refine FrO.got (h := ?_) (e := by assumption)
    | with_reducible refine FrS.get (h := ?_) (e := by assumption)
    | with_reducible refine FrP.get (h := ?_) (e := by assumption)
    | split)

theorem State.headerAct_fr {msk : Nat} {b₀ : State} {s : State} {p : Nat} {o : Nat} {v : Word} (h₀ : Fr msk b₀ s) (hm₀ : 693190 ||| msk = msk) :
    Fr msk b₀ (State.headerAct s p o v) := by
  refine Fr.step h₀ ?_ hm₀
  clear h₀ hm₀
  unfold State.headerAct
  try dsimp only
  repeat' (first
    | with_reducible exact Fr.refl _ _
    | with_reducible assumption
    | exact (rfl : (_ : Nat) = _)
    | with_reducible refine State.putBit_fr ?_ ?_
    | with_reducible refine Out.st_fr ?_ ?_
    | with_reducible refine execPgCommit_fr ?_ ?_
    | with_reducible refine execPgSoftReset_fr ?_ ?_
    | with_reducible refine execPgEventForce_fr ?_ ?_
    | with_reducible refine execErrRearm_fr ?_ ?_
    | with_reducible refine State.injectWrite_fr ?_ ?_
    | dsimp only
    | with_reducible refine Fr.ite ?_ ?_
    | with_reducible refine Fr.ite₁ ?_ ?_
    | with_reducible refine FrS.ite ?_ ?_
    | with_reducible refine FrP.ite ?_ ?_
    | with_reducible exact FrS.none
    | with_reducible refine FrS.some ?_
    | with_reducible refine FrS.map ?_
    | with_reducible exact FrP.none
    | with_reducible refine FrP.some ?_
    | with_reducible refine Fr.elim ?_ ?_
    | with_reducible refine Fr.foldl ?_ _ _ ?_
    | with_reducible refine Fr.foldl₂ ?_ _ _ ?_
    | intro _ _ _ _ _ _
    | intro _ _ _ _ _
    | intro _ _ _ _
    | intro _ _ _
    | intro _ _
    | intro _
    | with_reducible refine Fr.pair (h := ?_) (e := by assumption)
    | with_reducible refine FrO.got (h := ?_) (e := by assumption)
    | with_reducible refine FrS.get (h := ?_) (e := by assumption)
    | with_reducible refine FrP.get (h := ?_) (e := by assumption)
    | split)

theorem State.opAct_fr {msk : Nat} {b₀ : State} {s : State} {off : Nat} {v : Word} (h₀ : Fr msk b₀ s) (hm₀ : 693062 ||| msk = msk) :
    Fr msk b₀ (State.opAct s off v) := by
  refine Fr.step h₀ ?_ hm₀
  clear h₀ hm₀
  unfold State.opAct
  try dsimp only
  repeat' (first
    | with_reducible exact Fr.refl _ _
    | with_reducible assumption
    | exact (rfl : (_ : Nat) = _)
    | with_reducible refine State.raise_fr ?_ ?_
    | with_reducible refine State.rmaDone_fr ?_ ?_
    | with_reducible refine State.writeDiscarded_fr ?_ ?_
    | with_reducible refine State.ftlAnswer_fr ?_ ?_
    | with_reducible refine State.spAnswer_fr ?_ ?_
    | with_reducible refine State.rpAnswer_fr ?_ ?_
    | with_reducible refine Out.st_fr ?_ ?_
    | with_reducible refine execTdCmdInvalid_fr ?_ ?_
    | with_reducible refine execKsInvalidOp_fr ?_ ?_
    | dsimp only
    | with_reducible refine Fr.ite ?_ ?_
    | with_reducible refine Fr.ite₁ ?_ ?_
    | with_reducible refine FrS.ite ?_ ?_
    | with_reducible refine FrP.ite ?_ ?_
    | with_reducible exact FrS.none
    | with_reducible refine FrS.some ?_
    | with_reducible refine FrS.map ?_
    | with_reducible exact FrP.none
    | with_reducible refine FrP.some ?_
    | with_reducible refine Fr.elim ?_ ?_
    | with_reducible refine Fr.foldl ?_ _ _ ?_
    | with_reducible refine Fr.foldl₂ ?_ _ _ ?_
    | intro _ _ _ _ _ _
    | intro _ _ _ _ _
    | intro _ _ _ _
    | intro _ _ _
    | intro _ _
    | intro _
    | with_reducible refine Fr.pair (h := ?_) (e := by assumption)
    | with_reducible refine FrO.got (h := ?_) (e := by assumption)
    | with_reducible refine FrS.get (h := ?_) (e := by assumption)
    | with_reducible refine FrP.get (h := ?_) (e := by assumption)
    | split)

theorem State.write4_fr {msk : Nat} {b₀ : State} {s : State} {off : Nat} {v : Word} {path : optParam Nat 0} (h₀ : Fr msk b₀ s) (hm₀ : 1047534 ||| msk = msk) :
    Fr msk b₀ (State.write4 s off v path) := by
  refine Fr.step h₀ ?_ hm₀
  clear h₀ hm₀
  unfold State.write4
  try dsimp only
  repeat' (first
    | with_reducible exact Fr.refl _ _
    | with_reducible assumption
    | exact (rfl : (_ : Nat) = _)
    | with_reducible refine State.accessBad_fr ?_ ?_
    | with_reducible refine State.unmapped_fr ?_ ?_
    | with_reducible refine State.writeDiscarded_fr ?_ ?_
    | with_reducible refine State.headerAct_fr ?_ ?_
    | with_reducible refine State.busWrite_fr ?_ ?_
    | with_reducible refine State.ownAct_fr ?_ ?_
    | with_reducible refine State.opAct_fr ?_ ?_
    | dsimp only
    | with_reducible refine Fr.ite ?_ ?_
    | with_reducible refine Fr.ite₁ ?_ ?_
    | with_reducible refine FrS.ite ?_ ?_
    | with_reducible refine FrP.ite ?_ ?_
    | with_reducible exact FrS.none
    | with_reducible refine FrS.some ?_
    | with_reducible refine FrS.map ?_
    | with_reducible exact FrP.none
    | with_reducible refine FrP.some ?_
    | with_reducible refine Fr.elim ?_ ?_
    | with_reducible refine Fr.foldl ?_ _ _ ?_
    | with_reducible refine Fr.foldl₂ ?_ _ _ ?_
    | intro _ _ _ _ _ _
    | intro _ _ _ _ _
    | intro _ _ _ _
    | intro _ _ _
    | intro _ _
    | intro _
    | with_reducible refine Fr.pair (h := ?_) (e := by assumption)
    | with_reducible refine FrO.got (h := ?_) (e := by assumption)
    | with_reducible refine FrS.get (h := ?_) (e := by assumption)
    | with_reducible refine FrP.get (h := ?_) (e := by assumption)
    | split)

theorem execAccessSize_fr {msk : Nat} {b₀ : State} {off : Nat} {size : Nat} {write : Option DWord} {s : State} (h₀ : Fr msk b₀ s) (hm₀ : 1047550 ||| msk = msk) :
    FrO msk b₀ (execAccessSize off size write s) := by
  refine FrO.step h₀ ?_ hm₀
  clear h₀ hm₀
  unfold execAccessSize
  try dsimp only
  repeat' (first
    | with_reducible exact Fr.refl _ _
    | with_reducible assumption
    | exact (rfl : (_ : Nat) = _)
    | with_reducible refine State.accessBad_fr ?_ ?_
    | with_reducible refine State.read8_fr ?_ ?_
    | with_reducible refine State.read4_fr ?_ ?_
    | with_reducible refine State.write4_fr ?_ ?_
    | dsimp only
    | with_reducible refine Fr.ite ?_ ?_
    | with_reducible refine Fr.ite₁ ?_ ?_
    | with_reducible refine FrO.ite ?_ ?_
    | with_reducible refine FrS.ite ?_ ?_
    | with_reducible refine FrP.ite ?_ ?_
    | with_reducible refine FrO.next ?_
    | with_reducible exact FrS.none
    | with_reducible refine FrS.some ?_
    | with_reducible refine FrS.map ?_
    | with_reducible exact FrP.none
    | with_reducible refine FrP.some ?_
    | with_reducible refine Fr.elim ?_ ?_
    | with_reducible refine Fr.foldl ?_ _ _ ?_
    | with_reducible refine Fr.foldl₂ ?_ _ _ ?_
    | intro _ _ _ _ _ _
    | intro _ _ _ _ _
    | intro _ _ _ _
    | intro _ _ _
    | intro _ _
    | intro _
    | with_reducible refine Fr.pair (h := ?_) (e := by assumption)
    | with_reducible refine FrO.got (h := ?_) (e := by assumption)
    | with_reducible refine FrS.get (h := ?_) (e := by assumption)
    | with_reducible refine FrP.get (h := ?_) (e := by assumption)
    | split)

theorem execRegisterWrite_fr {msk : Nat} {b₀ : State} {t : RegTarget} {v : Word} {s : State} (h₀ : Fr msk b₀ s) (hm₀ : 1047534 ||| msk = msk) :
    FrO msk b₀ (execRegisterWrite t v s) := by
  refine FrO.step h₀ ?_ hm₀
  clear h₀ hm₀
  unfold execRegisterWrite
  try dsimp only
  repeat' (first
    | with_reducible exact Fr.refl _ _
    | with_reducible assumption
    | exact (rfl : (_ : Nat) = _)
    | with_reducible refine State.write4_fr ?_ ?_
    | with_reducible refine State.windowWrite_fr ?_ ?_
    | with_reducible refine State.msixControl_fr ?_ ?_
    | dsimp only
    | with_reducible refine Fr.ite ?_ ?_
    | with_reducible refine Fr.ite₁ ?_ ?_
    | with_reducible refine FrO.ite ?_ ?_
    | with_reducible refine FrS.ite ?_ ?_
    | with_reducible refine FrP.ite ?_ ?_
    | with_reducible refine FrO.next ?_
    | with_reducible exact FrS.none
    | with_reducible refine FrS.some ?_
    | with_reducible refine FrS.map ?_
    | with_reducible exact FrP.none
    | with_reducible refine FrP.some ?_
    | with_reducible refine Fr.elim ?_ ?_
    | with_reducible refine Fr.foldl ?_ _ _ ?_
    | with_reducible refine Fr.foldl₂ ?_ _ _ ?_
    | intro _ _ _ _ _ _
    | intro _ _ _ _ _
    | intro _ _ _ _
    | intro _ _ _
    | intro _ _
    | intro _
    | with_reducible refine Fr.pair (h := ?_) (e := by assumption)
    | with_reducible refine FrO.got (h := ?_) (e := by assumption)
    | with_reducible refine FrS.get (h := ?_) (e := by assumption)
    | with_reducible refine FrP.get (h := ?_) (e := by assumption)
    | split)

theorem execHiRegisterWrite_fr {msk : Nat} {b₀ : State} {off : Nat} {v : Word} {s : State} (h₀ : Fr msk b₀ s) (hm₀ : 1047534 ||| msk = msk) :
    FrO msk b₀ (execHiRegisterWrite off v s) := by
  refine FrO.step h₀ ?_ hm₀
  clear h₀ hm₀
  unfold execHiRegisterWrite
  try dsimp only
  repeat' (first
    | with_reducible exact Fr.refl _ _
    | with_reducible assumption
    | exact (rfl : (_ : Nat) = _)
    | with_reducible refine State.write4_fr ?_ ?_
    | dsimp only
    | with_reducible refine Fr.ite ?_ ?_
    | with_reducible refine Fr.ite₁ ?_ ?_
    | with_reducible refine FrO.ite ?_ ?_
    | with_reducible refine FrS.ite ?_ ?_
    | with_reducible refine FrP.ite ?_ ?_
    | with_reducible refine FrO.next ?_
    | with_reducible exact FrS.none
    | with_reducible refine FrS.some ?_
    | with_reducible refine FrS.map ?_
    | with_reducible exact FrP.none
    | with_reducible refine FrP.some ?_
    | with_reducible refine Fr.elim ?_ ?_
    | with_reducible refine Fr.foldl ?_ _ _ ?_
    | with_reducible refine Fr.foldl₂ ?_ _ _ ?_
    | intro _ _ _ _ _ _
    | intro _ _ _ _ _
    | intro _ _ _ _
    | intro _ _ _
    | intro _ _
    | intro _
    | with_reducible refine Fr.pair (h := ?_) (e := by assumption)
    | with_reducible refine FrO.got (h := ?_) (e := by assumption)
    | with_reducible refine FrS.get (h := ?_) (e := by assumption)
    | with_reducible refine FrP.get (h := ?_) (e := by assumption)
    | split)

end Sys2Proof.Machine
end

