-- ==== Sys2Proof/Laws/FrService.lean ====
section
/-! SUPPORT. Frames of the operations of Machine.Service: the parts of State that each may change. -/

set_option maxRecDepth 20000
set_option Elab.async false
set_option linter.unusedTactic false
set_option linter.unreachableTactic false
set_option linter.unusedVariables false

namespace Sys2Proof.Machine

theorem State.sessionRecord_fr {msk : Nat} {b₀ : State} {s : State} {x : Session} {ev : Nat} (h₀ : Fr msk b₀ s) (hm₀ : 693062 ||| msk = msk) :
    Fr msk b₀ (State.sessionRecord s x ev) := by
  refine Fr.step h₀ ?_ hm₀
  clear h₀ hm₀
  unfold State.sessionRecord
  try dsimp only
  repeat' (first
    | with_reducible exact Fr.refl _ _
    | exact (rfl : (_ : Nat) = _)
    | with_reducible refine State.record_fr ?_ ?_)

theorem State.setSessions_fr {msk : Nat} {b₀ : State} {s : State} {l : Amap Session} (h₀ : Fr msk b₀ s) (hm₀ : 131076 ||| msk = msk) :
    Fr msk b₀ (State.setSessions s l) := by
  refine Fr.step h₀ ?_ hm₀
  clear h₀ hm₀
  unfold State.setSessions
  try dsimp only
  repeat' (first
    | with_reducible exact Fr.refl _ _
    | exact (rfl : (_ : Nat) = _)
    | with_reducible refine State.putFld_fr ?_ ?_
    | refine Fr.mk' ?_)

theorem State.sessionClose_fr {msk : Nat} {b₀ : State} {s : State} {i : Nat} {x : Session} {ev : Nat} (h₀ : Fr msk b₀ s) (hm₀ : 693062 ||| msk = msk) :
    Fr msk b₀ (State.sessionClose s i x ev) := by
  refine Fr.step h₀ ?_ hm₀
  clear h₀ hm₀
  unfold State.sessionClose
  try dsimp only
  repeat' (first
    | with_reducible exact Fr.refl _ _
    | exact (rfl : (_ : Nat) = _)
    | with_reducible refine State.sessionRecord_fr ?_ ?_
    | with_reducible refine State.setSessions_fr ?_ ?_
    | with_reducible refine State.stagingAbort_fr ?_ ?_
    | with_reducible refine Fr.ite ?_ ?_
    | split)

theorem State.mysynFail_fr {msk : Nat} {b₀ : State} {s : State} {x : Option (Nat × Session)} (h₀ : Fr msk b₀ s) (hm₀ : 693062 ||| msk = msk) :
    Fr msk b₀ (State.mysynFail s x) := by
  refine Fr.step h₀ ?_ hm₀
  clear h₀ hm₀
  unfold State.mysynFail
  try dsimp only
  repeat' (first
    | with_reducible exact Fr.refl _ _
    | exact (rfl : (_ : Nat) = _)
    | with_reducible refine State.raise_fr ?_ ?_
    | with_reducible refine State.event_fr ?_ ?_
    | with_reducible refine State.count_fr ?_ ?_
    | with_reducible refine State.sessionClose_fr ?_ ?_
    | with_reducible refine State.setSessions_fr ?_ ?_
    | with_reducible refine Fr.ite ?_ ?_
    | split)

theorem State.mysynGate_fr {msk : Nat} {b₀ : State} {s : State} {typ : Nat} {auth : Bool} {m : MysynMsg} (h₀ : Fr msk b₀ s) (hm₀ : 693062 ||| msk = msk) :
    Fr msk b₀ (State.mysynGate s typ auth m).1 := by
  refine Fr.step h₀ ?_ hm₀
  clear h₀ hm₀
  unfold State.mysynGate
  try dsimp only
  repeat' (first
    | with_reducible exact Fr.refl _ _
    | exact (rfl : (_ : Nat) = _)
    | with_reducible refine State.mysynFail_fr ?_ ?_
    | with_reducible refine State.setSessions_fr ?_ ?_
    | with_reducible refine State.count_fr ?_ ?_
    | with_reducible refine State.emit_fr ?_ ?_
    | with_reducible refine Fr.ite₁ ?_ ?_
    | split)

theorem State.mysynReply_fr {msk : Nat} {b₀ : State} {s : State} {i : Nat} {x : Session} {m : MysynMsg} {typ : Nat} {status : Nat} {payload : List Byte} (h₀ : Fr msk b₀ s) (hm₀ : 131078 ||| msk = msk) :
    Fr msk b₀ (State.mysynReply s i x m typ status payload) := by
  refine Fr.step h₀ ?_ hm₀
  clear h₀ hm₀
  unfold State.mysynReply
  try dsimp only
  repeat' (first
    | with_reducible exact Fr.refl _ _
    | exact (rfl : (_ : Nat) = _)
    | with_reducible refine State.emit_fr ?_ ?_
    | with_reducible refine State.setSessions_fr ?_ ?_)

theorem execMysynAuth_fr {msk : Nat} {b₀ : State} {m : MysynMsg} {s : State} (h₀ : Fr msk b₀ s) (hm₀ : 693062 ||| msk = msk) :
    FrO msk b₀ (execMysynAuth m s) := by
  refine FrO.step h₀ ?_ hm₀
  clear h₀ hm₀
  unfold execMysynAuth
  try dsimp only
  repeat' (first
    | with_reducible exact Fr.refl _ _
    | exact (rfl : (_ : Nat) = _)
    | with_reducible refine State.mysynGate_fr ?_ ?_
    | with_reducible refine State.event_fr ?_ ?_
    | with_reducible refine State.sessionRecord_fr ?_ ?_
    | with_reducible refine State.setSessions_fr ?_ ?_
    | with_reducible refine State.mysynReply_fr ?_ ?_
    | with_reducible refine Fr.ite ?_ ?_
    | with_reducible refine FrO.next ?_
    | with_reducible refine Fr.pair (h := ?_) (e := by assumption)
    | split)

theorem execSessionIdleTimeout_fr {msk : Nat} {b₀ : State} {i : Nat} {s : State} (h₀ : Fr msk b₀ s) (hm₀ : 693062 ||| msk = msk) :
    FrO msk b₀ (execSessionIdleTimeout i s) := by
  refine FrO.step h₀ ?_ hm₀
  clear h₀ hm₀
  unfold execSessionIdleTimeout
  try dsimp only
  repeat' (first
    | with_reducible exact Fr.refl _ _
    | exact (rfl : (_ : Nat) = _)
    | with_reducible refine State.sessionClose_fr ?_ ?_
    | with_reducible refine Fr.ite ?_ ?_
    | with_reducible refine FrO.next ?_
    | split)

theorem execMysynOpen_fr {msk : Nat} {b₀ : State} {m : MysynMsg} {id : Nat} {nonce : List Byte} {s : State} (h₀ : Fr msk b₀ s) (hm₀ : 131078 ||| msk = msk) :
    FrO msk b₀ (execMysynOpen m id nonce s) := by
  refine FrO.step h₀ ?_ hm₀
  clear h₀ hm₀
  unfold execMysynOpen
  try dsimp only
  repeat' (first
    | with_reducible exact Fr.refl _ _
    | exact (rfl : (_ : Nat) = _)
    | with_reducible refine State.count_fr ?_ ?_
    | with_reducible refine State.emit_fr ?_ ?_
    | with_reducible refine State.setSessions_fr ?_ ?_
    | with_reducible refine FrO.ite ?_ ?_
    | with_reducible refine FrO.next ?_
    | split
    | refine Fr.mk' ?_)

theorem execSvcLinkChange_fr {msk : Nat} {b₀ : State} {up : Bool} {speed : Nat} {full : Bool} {s : State} (h₀ : Fr msk b₀ s) (hm₀ : 4 ||| msk = msk) :
    FrO msk b₀ (execSvcLinkChange up speed full s) := by
  refine FrO.step h₀ ?_ hm₀
  clear h₀ hm₀
  unfold execSvcLinkChange
  try dsimp only
  repeat' (first
    | with_reducible exact Fr.refl _ _
    | exact (rfl : (_ : Nat) = _)
    | with_reducible refine State.event_fr ?_ ?_
    | with_reducible refine State.putFld_fr ?_ ?_
    | with_reducible refine FrO.next ?_)

theorem State.mysynRun_fr {msk : Nat} {b₀ : State} {s : State} {typ : Nat} {maintain : Bool} {okStopped : Bool} {okRecovery : Bool} {m : MysynMsg} {f : State → Session → State × Nat × List Byte} (hf : ∀ t0 t1, Fr msk b₀ t0 → Fr msk b₀ (f t0 t1).1) (h₀ : Fr msk b₀ s) (hm₀ : 693062 ||| msk = msk) :
    Fr msk b₀ (State.mysynRun s typ maintain okStopped okRecovery m f) := by
  unfold State.mysynRun
  try dsimp only
  repeat' (first
    | with_reducible assumption
    | exact Fr.sub rfl hm₀
    | with_reducible refine State.mysynGate_fr ?_ ?_
    | with_reducible refine State.mysynReply_fr ?_ ?_
    | with_reducible refine State.useFree_fr ?_ ?_
    | with_reducible refine hf _ _ ?_
    | with_reducible refine Fr.ite ?_ ?_
    | with_reducible refine Fr.pair (h := ?_) (e := by assumption)
    | split)

theorem execMysynTackWrite_fr {msk : Nat} {b₀ : State} {m : MysynMsg} {readBack : Option (List Byte)} {bothB : Bool} {s : State} (h₀ : Fr msk b₀ s) (hm₀ : 694086 ||| msk = msk) :
    FrO msk b₀ (execMysynTackWrite m readBack bothB s) := by
  refine FrO.step h₀ ?_ hm₀
  clear h₀ hm₀
  unfold execMysynTackWrite
  try dsimp only
  repeat' (first
    | with_reducible exact Fr.refl _ _
    | with_reducible assumption
    | exact (rfl : (_ : Nat) = _)
    | with_reducible refine State.mysynRun_fr ?_ ?_ ?_
    | with_reducible refine State.tackWrite_fr ?_ ?_
    | dsimp only
    | with_reducible refine Fr.ite₁ ?_ ?_
    | with_reducible refine FrO.next ?_
    | intro _ _ _
    | refine Fr.mk' ?_)

theorem State.relayRead_fr {msk : Nat} {b₀ : State} {s : State} {off : Nat} (h₀ : Fr msk b₀ s) (hm₀ : 693078 ||| msk = msk) :
    Fr msk b₀ (State.relayRead s off).1 := by
  refine Fr.step h₀ ?_ hm₀
  clear h₀ hm₀
  unfold State.relayRead
  try dsimp only
  repeat' (first
    | with_reducible exact Fr.refl _ _
    | exact (rfl : (_ : Nat) = _)
    | with_reducible refine State.raise_fr ?_ ?_
    | with_reducible refine State.unmapped_fr ?_ ?_
    | with_reducible refine State.readLatch_fr ?_ ?_
    | with_reducible refine State.readDone_fr ?_ ?_
    | with_reducible refine Fr.ite₁ ?_ ?_
    | split)

theorem execMysynReset_fr {msk : Nat} {b₀ : State} {m : MysynMsg} {s : State} (h₀ : Fr msk b₀ s) (hm₀ : 1048574 ||| msk = msk) :
    FrO msk b₀ (execMysynReset m s) := by
  refine FrO.step h₀ ?_ hm₀
  clear h₀ hm₀
  unfold execMysynReset
  try dsimp only
  repeat' (first
    | with_reducible exact Fr.refl _ _
    | exact (rfl : (_ : Nat) = _)
    | with_reducible refine State.mysynGate_fr ?_ ?_
    | with_reducible refine State.mysynReply_fr ?_ ?_
    | with_reducible refine State.powerReset_fr ?_ ?_
    | with_reducible refine State.useFree_fr ?_ ?_
    | with_reducible refine State.writeDiscarded_fr ?_ ?_
    | with_reducible refine FrO.ite ?_ ?_
    | with_reducible refine FrO.next ?_
    | with_reducible refine Fr.pair (h := ?_) (e := by assumption)
    | split)

theorem execMysynStbRead_fr {msk : Nat} {b₀ : State} {m : MysynMsg} {s : State} (h₀ : Fr msk b₀ s) (hm₀ : 693062 ||| msk = msk) :
    FrO msk b₀ (execMysynStbRead m s) := by
  refine FrO.step h₀ ?_ hm₀
  clear h₀ hm₀
  unfold execMysynStbRead
  try dsimp only
  repeat' (first
    | with_reducible exact Fr.refl _ _
    | with_reducible assumption
    | exact (rfl : (_ : Nat) = _)
    | with_reducible refine State.mysynRun_fr ?_ ?_ ?_
    | with_reducible refine Fr.ite₁ ?_ ?_
    | with_reducible refine FrO.next ?_
    | intro _ _ _)

theorem execSvcFrameRx_fr {msk : Nat} {b₀ : State} {kind : SvcFrame} {toMe : Bool} {s : State} (h₀ : Fr msk b₀ s) (hm₀ : 4 ||| msk = msk) :
    FrO msk b₀ (execSvcFrameRx kind toMe s) := by
  refine FrO.step h₀ ?_ hm₀
  clear h₀ hm₀
  unfold execSvcFrameRx
  try dsimp only
  repeat' (first
    | with_reducible exact Fr.refl _ _
    | exact (rfl : (_ : Nat) = _)
    | with_reducible refine State.count_fr ?_ ?_
    | with_reducible refine Fr.ite ?_ ?_
    | with_reducible refine FrO.next ?_)

theorem State.relayWrites_fr {msk : Nat} {b₀ : State} {s : State} {x1 : Nat} {x2 : List Byte} (h₀ : Fr msk b₀ s) (hm₀ : 1047534 ||| msk = msk) :
    Fr msk b₀ (State.relayWrites s x1 x2) := by
  refine Fr.step h₀ ?_ hm₀
  clear h₀ hm₀
  fun_induction State.relayWrites 
  all_goals try dsimp +zetaDelta only at *
  all_goals repeat' (first
    | with_reducible exact Fr.refl _ _
    | with_reducible assumption
    | exact (rfl : (_ : Nat) = _)
    | with_reducible refine Fr.trans ?_ (by assumption)
    | with_reducible refine State.write4_fr ?_ ?_
    | dsimp only
    | with_reducible refine Fr.ite ?_ ?_
    | with_reducible refine Fr.ite₁ ?_ ?_
    | with_reducible refine FrS.ite ?_ ?_
    | with_reducible refine FrP.ite ?_ ?_
    | with_reducible exact FrS.none
    | with_reducible refine FrS.some ?_
    | with_reducible refine FrS.map ?_
    | with_reducible exact FrP.none
    | with_reducible refine FrP.some ?_
    | with_reducible refine Fr.elim ?_ ?_
    | with_reducible refine Fr.foldl ?_ _ _ ?_
    | with_reducible refine Fr.foldl₂ ?_ _ _ ?_
    | intro _ _ _ _ _ _
    | intro _ _ _ _ _
    | intro _ _ _ _
    | intro _ _ _
    | intro _ _
    | intro _
    | with_reducible refine Fr.pair (h := ?_) (e := by assumption)
    | with_reducible refine FrO.got (h := ?_) (e := by assumption)
    | with_reducible refine FrS.get (h := ?_) (e := by assumption)
    | with_reducible refine FrP.get (h := ?_) (e := by assumption)
    | split)

theorem State.relayReads_fr {msk : Nat} {b₀ : State} {s : State} {x1 : Nat} {x2 : Nat} (h₀ : Fr msk b₀ s) (hm₀ : 693078 ||| msk = msk) :
    Fr msk b₀ (State.relayReads s x1 x2).1 := by
  refine Fr.step h₀ ?_ hm₀
  clear h₀ hm₀
  fun_induction State.relayReads 
  all_goals try dsimp +zetaDelta only at *
  all_goals repeat' (first
    | with_reducible exact Fr.refl _ _
    | exact (rfl : (_ : Nat) = _)
    | with_reducible refine Fr.trans ?_ (by assumption)
    | with_reducible refine State.relayRead_fr ?_ ?_
    | with_reducible refine Fr.pair (h := ?_) (e := by assumption))

theorem execMysynTackRead_fr {msk : Nat} {b₀ : State} {m : MysynMsg} {s : State} (h₀ : Fr msk b₀ s) (hm₀ : 693062 ||| msk = msk) :
    FrO msk b₀ (execMysynTackRead m s) := by
  refine FrO.step h₀ ?_ hm₀
  clear h₀ hm₀
  unfold execMysynTackRead
  try dsimp only
  repeat' (first
    | with_reducible exact Fr.refl _ _
    | with_reducible assumption
    | exact (rfl : (_ : Nat) = _)
    | with_reducible refine State.mysynRun_fr ?_ ?_ ?_
    | with_reducible refine State.useFree_fr ?_ ?_
    | with_reducible refine Fr.ite₁ ?_ ?_
    | with_reducible refine FrO.next ?_
    | intro _ _ _)

theorem execMysynClose_fr {msk : Nat} {b₀ : State} {m : MysynMsg} {s : State} (h₀ : Fr msk b₀ s) (hm₀ : 693062 ||| msk = msk) :
    FrO msk b₀ (execMysynClose m s) := by
  refine FrO.step h₀ ?_ hm₀
  clear h₀ hm₀
  unfold execMysynClose
  try dsimp only
  repeat' (first
    | with_reducible exact Fr.refl _ _
    | exact (rfl : (_ : Nat) = _)
    | with_reducible refine State.mysynGate_fr ?_ ?_
    | with_reducible refine State.sessionClose_fr ?_ ?_
    | with_reducible refine State.mysynReply_fr ?_ ?_
    | with_reducible refine FrO.next ?_
    | with_reducible refine Fr.pair (h := ?_) (e := by assumption)
    | split)

theorem execMysynRegRead_fr {msk : Nat} {b₀ : State} {m : MysynMsg} {s : State} (h₀ : Fr msk b₀ s) (hm₀ : 693078 ||| msk = msk) :
    FrO msk b₀ (execMysynRegRead m s) := by
  refine FrO.step h₀ ?_ hm₀
  clear h₀ hm₀
  unfold execMysynRegRead
  try dsimp only
  repeat' (first
    | with_reducible exact Fr.refl _ _
    | with_reducible assumption
    | exact (rfl : (_ : Nat) = _)
    | with_reducible refine State.mysynRun_fr ?_ ?_ ?_
    | with_reducible refine State.relayReads_fr ?_ ?_
    | with_reducible refine Fr.ite₁ ?_ ?_
    | with_reducible refine FrO.next ?_
    | intro _ _ _)

theorem execMysynRegWrite_fr {msk : Nat} {b₀ : State} {m : MysynMsg} {s : State} (h₀ : Fr msk b₀ s) (hm₀ : 1047534 ||| msk = msk) :
    FrO msk b₀ (execMysynRegWrite m s) := by
  refine FrO.step h₀ ?_ hm₀
  clear h₀ hm₀
  unfold execMysynRegWrite
  try dsimp only
  repeat' (first
    | with_reducible exact Fr.refl _ _
    | with_reducible assumption
    | exact (rfl : (_ : Nat) = _)
    | with_reducible refine State.mysynRun_fr ?_ ?_ ?_
    | with_reducible refine State.relayWrites_fr ?_ ?_
    | with_reducible refine Fr.ite₁ ?_ ?_
    | with_reducible refine FrO.next ?_
    | intro _ _ _)

end Sys2Proof.Machine
end

