-- ==== Sys2Proof/Laws/FrFirmware.lean ====
section
/-! SUPPORT. Frames of the operations of Machine.Firmware: the parts of State that each may change. -/

set_option maxRecDepth 20000
set_option Elab.async false
set_option linter.unusedTactic false
set_option linter.unreachableTactic false
set_option linter.unusedVariables false

namespace Sys2Proof.Machine

theorem State.fwCmd_fr {msk : Nat} {b₀ s : State} {r : State × Nat × Bool} (hr : Fr msk b₀ r.1) (h₀ : Fr msk b₀ s)
    (hm₀ : 1048574 ||| msk = msk) : Fr msk b₀ (s.fwCmd r) := by
  unfold State.fwCmd
  dsimp only
  repeat' (first
    | with_reducible assumption
    | exact Fr.sub rfl hm₀
    | with_reducible refine State.writeDiscarded_fr ?_ ?_
    | with_reducible refine State.wrN_fr ?_ ?_
    | with_reducible refine State.powerReset_fr ?_ ?_
    | with_reducible refine Fr.ite ?_ ?_)

theorem State.fwActivate_fr {msk : Nat} {b₀ : State} {s : State} {force : Bool} (h₀ : Fr msk b₀ s) (hm₀ : 693062 ||| msk = msk) :
    Fr msk b₀ (State.fwActivate s force).1 := by
  refine Fr.step h₀ ?_ hm₀
  clear h₀ hm₀
  unfold State.fwActivate
  try dsimp only
  repeat' (first
    | with_reducible exact Fr.refl _ _
    | exact (rfl : (_ : Nat) = _)
    | with_reducible refine State.record_fr ?_ ?_
    | with_reducible refine State.setFwSlot_fr ?_ ?_
    | with_reducible refine Fr.ite₁ ?_ ?_
    | split)

theorem State.fwShow_fr {msk : Nat} {b₀ : State} {s : State} (h₀ : Fr msk b₀ s) (hm₀ : 4 ||| msk = msk) :
    Fr msk b₀ (State.fwShow s) := by
  refine Fr.step h₀ ?_ hm₀
  clear h₀ hm₀
  unfold State.fwShow
  try dsimp only
  repeat' (first
    | with_reducible exact Fr.refl _ _
    | exact (rfl : (_ : Nat) = _)
    | with_reducible refine State.wrN_fr ?_ ?_)

theorem State.fwCommit_fr {msk : Nat} {b₀ : State} {s : State} {hold : Bool} (h₀ : Fr msk b₀ s) (hm₀ : 693062 ||| msk = msk) :
    Fr msk b₀ (State.fwCommit s hold).1 := by
  refine Fr.step h₀ ?_ hm₀
  clear h₀ hm₀
  unfold State.fwCommit
  try dsimp only
  repeat' (first
    | with_reducible exact Fr.refl _ _
    | exact (rfl : (_ : Nat) = _)
    | with_reducible refine State.setFwSlot_fr ?_ ?_
    | with_reducible refine State.event_fr ?_ ?_
    | with_reducible refine State.fwShow_fr ?_ ?_
    | with_reducible refine State.putFld_fr ?_ ?_
    | with_reducible refine State.record_fr ?_ ?_
    | with_reducible refine Fr.ite ?_ ?_
    | with_reducible refine Fr.ite₁ ?_ ?_
    | split
    | refine Fr.mk' ?_)

theorem State.fwRevert_fr {msk : Nat} {b₀ : State} {s : State} (h₀ : Fr msk b₀ s) (hm₀ : 131076 ||| msk = msk) :
    Fr msk b₀ (State.fwRevert s).1 := by
  refine Fr.step h₀ ?_ hm₀
  clear h₀ hm₀
  unfold State.fwRevert
  try dsimp only
  repeat' (first
    | with_reducible exact Fr.refl _ _
    | exact (rfl : (_ : Nat) = _)
    | with_reducible refine State.setFwSlot_fr ?_ ?_
    | with_reducible refine Fr.ite₁ ?_ ?_)

theorem State.fwAbortStage_fr {msk : Nat} {b₀ : State} {s : State} (h₀ : Fr msk b₀ s) (hm₀ : 131332 ||| msk = msk) :
    Fr msk b₀ (State.fwAbortStage s).1 := by
  refine Fr.step h₀ ?_ hm₀
  clear h₀ hm₀
  unfold State.fwAbortStage
  try dsimp only
  repeat' (first
    | with_reducible exact Fr.refl _ _
    | exact (rfl : (_ : Nat) = _)
    | with_reducible refine State.stagingAbort_fr ?_ ?_
    | with_reducible refine Fr.ite₁ ?_ ?_)

theorem State.fwWord_fr {msk : Nat} {b₀ : State} {s : State} {w : Nat} (h₀ : Fr msk b₀ s) (hm₀ : 693062 ||| msk = msk) :
    Fr msk b₀ (State.fwWord s w).1 := by
  refine Fr.step h₀ ?_ hm₀
  clear h₀ hm₀
  unfold State.fwWord
  try dsimp only
  repeat' (first
    | with_reducible exact Fr.refl _ _
    | exact (rfl : (_ : Nat) = _)
    | with_reducible refine State.fwActivate_fr ?_ ?_
    | with_reducible refine State.fwCommit_fr ?_ ?_
    | with_reducible refine State.fwRevert_fr ?_ ?_
    | with_reducible refine State.fwAbortStage_fr ?_ ?_
    | split)

theorem execMysynFwCmd_fr {msk : Nat} {b₀ : State} {m : MysynMsg} {s : State} (h₀ : Fr msk b₀ s) (hm₀ : 1048574 ||| msk = msk) :
    FrO msk b₀ (execMysynFwCmd m s) := by
  refine FrO.step h₀ ?_ hm₀
  clear h₀ hm₀
  unfold execMysynFwCmd
  try dsimp only
  repeat' (first
    | with_reducible exact Fr.refl _ _
    | exact (rfl : (_ : Nat) = _)
    | with_reducible refine State.mysynGate_fr ?_ ?_
    | with_reducible refine State.mysynReply_fr ?_ ?_
    | with_reducible refine State.useFree_fr ?_ ?_
    | with_reducible refine State.fwWord_fr ?_ ?_
    | with_reducible refine State.wrN_fr ?_ ?_
    | with_reducible refine State.powerReset_fr ?_ ?_
    | with_reducible refine Fr.ite ?_ ?_
    | with_reducible refine FrO.ite ?_ ?_
    | with_reducible refine FrO.next ?_
    | with_reducible refine Fr.pair (h := ?_) (e := by assumption)
    | split)

theorem State.fwRefuse_fr {msk : Nat} {b₀ : State} {s : State} {h : List Byte} {result : Nat} (h₀ : Fr msk b₀ s) (hm₀ : 693062 ||| msk = msk) :
    Fr msk b₀ (State.fwRefuse s h result) := by
  refine Fr.step h₀ ?_ hm₀
  clear h₀ hm₀
  unfold State.fwRefuse
  try dsimp only
  repeat' (first
    | with_reducible exact Fr.refl _ _
    | exact (rfl : (_ : Nat) = _)
    | with_reducible refine State.raise_fr ?_ ?_
    | with_reducible refine State.event_fr ?_ ?_
    | with_reducible refine State.record_fr ?_ ?_)

theorem execFwActivate_fr {msk : Nat} {b₀ : State} {force : Bool} {s : State} (h₀ : Fr msk b₀ s) (hm₀ : 1048574 ||| msk = msk) :
    FrO msk b₀ (execFwActivate force s) := by
  refine FrO.step h₀ ?_ hm₀
  clear h₀ hm₀
  unfold execFwActivate
  try dsimp only
  repeat' (first
    | with_reducible exact Fr.refl _ _
    | exact (rfl : (_ : Nat) = _)
    | with_reducible refine State.fwCmd_fr ?_ ?_ ?_
    | with_reducible refine State.fwActivate_fr ?_ ?_
    | with_reducible refine FrO.next ?_)

theorem execFwAbortStage_fr {msk : Nat} {b₀ : State} {s : State} (h₀ : Fr msk b₀ s) (hm₀ : 1048574 ||| msk = msk) :
    FrO msk b₀ (execFwAbortStage s) := by
  refine FrO.step h₀ ?_ hm₀
  clear h₀ hm₀
  unfold execFwAbortStage
  try dsimp only
  repeat' (first
    | with_reducible exact Fr.refl _ _
    | exact (rfl : (_ : Nat) = _)
    | with_reducible refine State.fwCmd_fr ?_ ?_ ?_
    | with_reducible refine State.fwAbortStage_fr ?_ ?_
    | with_reducible refine FrO.next ?_)

theorem State.fwAdmit_fr {msk : Nat} {b₀ : State} {s : State} (h₀ : Fr msk b₀ s) (hm₀ : 260 ||| msk = msk) :
    Fr msk b₀ (State.fwAdmit s).1 := by
  refine Fr.step h₀ ?_ hm₀
  clear h₀ hm₀
  unfold State.fwAdmit
  try dsimp only
  repeat' (first
    | with_reducible exact Fr.refl _ _
    | exact (rfl : (_ : Nat) = _)
    | with_reducible refine State.actStart_fr ?_ ?_
    | with_reducible refine State.actEnd_fr ?_ ?_
    | with_reducible refine Fr.ite₁ ?_ ?_)

theorem execMysynImageBegin_fr {msk : Nat} {b₀ : State} {m : MysynMsg} {s : State} (h₀ : Fr msk b₀ s) (hm₀ : 693062 ||| msk = msk) :
    FrO msk b₀ (execMysynImageBegin m s) := by
  refine FrO.step h₀ ?_ hm₀
  clear h₀ hm₀
  unfold execMysynImageBegin
  try dsimp only
  repeat' (first
    | with_reducible exact Fr.refl _ _
    | with_reducible assumption
    | exact (rfl : (_ : Nat) = _)
    | with_reducible refine State.mysynRun_fr ?_ ?_ ?_
    | with_reducible refine State.fwRefuse_fr ?_ ?_
    | with_reducible refine State.fwAdmit_fr ?_ ?_
    | with_reducible refine State.setFwSlot_fr ?_ ?_
    | with_reducible refine State.fwShow_fr ?_ ?_
    | with_reducible refine State.wrN_fr ?_ ?_
    | with_reducible refine State.putFld_fr ?_ ?_
    | with_reducible refine Fr.ite₁ ?_ ?_
    | with_reducible refine FrO.next ?_
    | intro _ _ _
    | with_reducible refine Fr.pair (h := ?_) (e := by assumption)
    | split
    | refine Fr.mk' ?_)

theorem execMysynImageAbort_fr {msk : Nat} {b₀ : State} {m : MysynMsg} {s : State} (h₀ : Fr msk b₀ s) (hm₀ : 693062 ||| msk = msk) :
    FrO msk b₀ (execMysynImageAbort m s) := by
  refine FrO.step h₀ ?_ hm₀
  clear h₀ hm₀
  unfold execMysynImageAbort
  try dsimp only
  repeat' (first
    | with_reducible exact Fr.refl _ _
    | with_reducible assumption
    | exact (rfl : (_ : Nat) = _)
    | with_reducible refine State.mysynRun_fr ?_ ?_ ?_
    | with_reducible refine State.stagingAbort_fr ?_ ?_
    | with_reducible refine Fr.ite₁ ?_ ?_
    | with_reducible refine FrO.next ?_
    | intro _ _ _)

theorem execMysynFwStatus_fr {msk : Nat} {b₀ : State} {m : MysynMsg} {s : State} (h₀ : Fr msk b₀ s) (hm₀ : 693062 ||| msk = msk) :
    FrO msk b₀ (execMysynFwStatus m s) := by
  refine FrO.step h₀ ?_ hm₀
  clear h₀ hm₀
  unfold execMysynFwStatus
  try dsimp only
  repeat' (first
    | with_reducible exact Fr.refl _ _
    | with_reducible assumption
    | exact (rfl : (_ : Nat) = _)
    | with_reducible refine State.mysynRun_fr ?_ ?_ ?_
    | dsimp only
    | with_reducible refine FrO.next ?_
    | intro _ _ _)

theorem State.stagingFlash_fr {msk : Nat} {b₀ : State} {s : State} (h₀ : Fr msk b₀ s) (hm₀ : 693062 ||| msk = msk) :
    Fr msk b₀ (State.stagingFlash s) := by
  refine Fr.step h₀ ?_ hm₀
  clear h₀ hm₀
  unfold State.stagingFlash
  try dsimp only
  repeat' (first
    | with_reducible exact Fr.refl _ _
    | exact (rfl : (_ : Nat) = _)
    | with_reducible refine State.raise_fr ?_ ?_
    | with_reducible refine State.stagingEnd_fr ?_ ?_)

theorem execMysynImageData_fr {msk : Nat} {b₀ : State} {m : MysynMsg} {flashOk : Bool} {s : State} (h₀ : Fr msk b₀ s) (hm₀ : 693062 ||| msk = msk) :
    FrO msk b₀ (execMysynImageData m flashOk s) := by
  refine FrO.step h₀ ?_ hm₀
  clear h₀ hm₀
  unfold execMysynImageData
  try dsimp only
  repeat' (first
    | with_reducible exact Fr.refl _ _
    | with_reducible assumption
    | exact (rfl : (_ : Nat) = _)
    | with_reducible refine State.mysynRun_fr ?_ ?_ ?_
    | with_reducible refine State.useFree_fr ?_ ?_
    | with_reducible refine State.stagingFlash_fr ?_ ?_
    | with_reducible refine State.wrN_fr ?_ ?_
    | with_reducible refine Fr.ite₁ ?_ ?_
    | with_reducible refine FrO.next ?_
    | intro _ _ _
    | split
    | refine Fr.mk' ?_)

theorem execFwCommit_fr {msk : Nat} {b₀ : State} {hold : Bool} {s : State} (h₀ : Fr msk b₀ s) (hm₀ : 1048574 ||| msk = msk) :
    FrO msk b₀ (execFwCommit hold s) := by
  refine FrO.step h₀ ?_ hm₀
  clear h₀ hm₀
  unfold execFwCommit
  try dsimp only
  repeat' (first
    | with_reducible exact Fr.refl _ _
    | exact (rfl : (_ : Nat) = _)
    | with_reducible refine State.fwCmd_fr ?_ ?_ ?_
    | with_reducible refine State.fwCommit_fr ?_ ?_
    | with_reducible refine FrO.next ?_)

theorem State.fwStaged_fr {msk : Nat} {b₀ : State} {s : State} {g : Staging} (h₀ : Fr msk b₀ s) (hm₀ : 693062 ||| msk = msk) :
    Fr msk b₀ (State.fwStaged s g) := by
  refine Fr.step h₀ ?_ hm₀
  clear h₀ hm₀
  unfold State.fwStaged
  try dsimp only
  repeat' (first
    | with_reducible exact Fr.refl _ _
    | exact (rfl : (_ : Nat) = _)
    | with_reducible refine State.event_fr ?_ ?_
    | with_reducible refine State.stagingEnd_fr ?_ ?_
    | with_reducible refine State.setFwSlot_fr ?_ ?_
    | with_reducible refine State.record_fr ?_ ?_)

theorem execFwRevert_fr {msk : Nat} {b₀ : State} {s : State} (h₀ : Fr msk b₀ s) (hm₀ : 1048574 ||| msk = msk) :
    FrO msk b₀ (execFwRevert s) := by
  refine FrO.step h₀ ?_ hm₀
  clear h₀ hm₀
  unfold execFwRevert
  try dsimp only
  repeat' (first
    | with_reducible exact Fr.refl _ _
    | exact (rfl : (_ : Nat) = _)
    | with_reducible refine State.fwCmd_fr ?_ ?_ ?_
    | with_reducible refine State.fwRevert_fr ?_ ?_
    | with_reducible refine FrO.next ?_)

theorem execMysynImageEnd_fr {msk : Nat} {b₀ : State} {m : MysynMsg} {readBackOk : Bool} {s : State} (h₀ : Fr msk b₀ s) (hm₀ : 693062 ||| msk = msk) :
    FrO msk b₀ (execMysynImageEnd m readBackOk s) := by
  refine FrO.step h₀ ?_ hm₀
  clear h₀ hm₀
  unfold execMysynImageEnd
  try dsimp only
  repeat' (first
    | with_reducible exact Fr.refl _ _
    | with_reducible assumption
    | exact (rfl : (_ : Nat) = _)
    | with_reducible refine State.mysynRun_fr ?_ ?_ ?_
    | with_reducible refine State.useFree_fr ?_ ?_
    | with_reducible refine State.stagingEnd_fr ?_ ?_
    | with_reducible refine State.stagingFlash_fr ?_ ?_
    | with_reducible refine State.fwStaged_fr ?_ ?_
    | with_reducible refine Fr.ite₁ ?_ ?_
    | with_reducible refine FrO.next ?_
    | intro _ _ _
    | split)

end Sys2Proof.Machine
end

