-- ==== Sys2Proof/Laws/FrBringup.lean ====
section
/-! SUPPORT. Frames of the operations of Machine.Bringup: the parts of State that each may change. -/

set_option maxRecDepth 20000
set_option Elab.async false
set_option linter.unusedTactic false
set_option linter.unreachableTactic false
set_option linter.unusedVariables false

namespace Sys2Proof.Machine

theorem State.stagedRestore_fr {msk : Nat} {b₀ : State} {s : State} (h₀ : Fr msk b₀ s) (hm₀ : 32768 ||| msk = msk) :
    Fr msk b₀ (State.stagedRestore s) := by
  refine Fr.step h₀ ?_ hm₀
  clear h₀ hm₀
  unfold State.stagedRestore
  try dsimp only
  repeat' (first
    | with_reducible exact Fr.refl _ _
    | with_reducible assumption
    | exact (rfl : (_ : Nat) = _)
    | with_reducible refine State.setGroup_fr ?_ ?_
    | dsimp only
    | with_reducible refine Fr.ite ?_ ?_
    | with_reducible refine Fr.ite₁ ?_ ?_
    | with_reducible refine FrS.ite ?_ ?_
    | with_reducible refine FrP.ite ?_ ?_
    | with_reducible exact FrS.none
    | with_reducible refine FrS.some ?_
    | with_reducible refine FrS.map ?_
    | with_reducible exact FrP.none
    | with_reducible refine FrP.some ?_
    | with_reducible refine Fr.elim ?_ ?_
    | with_reducible refine Fr.foldl ?_ _ _ ?_
    | with_reducible refine Fr.foldl₂ ?_ _ _ ?_
    | intro _ _ _ _ _ _
    | intro _ _ _ _ _
    | intro _ _ _ _
    | intro _ _ _
    | intro _ _
    | intro _
    | with_reducible refine Fr.pair (h := ?_) (e := by assumption)
    | with_reducible refine FrO.got (h := ?_) (e := by assumption)
    | with_reducible refine FrS.get (h := ?_) (e := by assumption)
    | with_reducible refine FrP.get (h := ?_) (e := by assumption)
    | split
    | refine Fr.mk' ?_)

theorem State.restoreEntry_fr {msk : Nat} {b₀ : State} {s : State} {cseq : Nat} {p : Part} (h₀ : Fr msk b₀ s) (hm₀ : 12288 ||| msk = msk) :
    Fr msk b₀ (State.restoreEntry s cseq p) := by
  refine Fr.step h₀ ?_ hm₀
  clear h₀ hm₀
  unfold State.restoreEntry
  try dsimp only
  repeat' (first
    | with_reducible exact Fr.refl _ _
    | exact (rfl : (_ : Nat) = _)
    | with_reducible refine State.putPart_fr ?_ ?_
    | with_reducible refine State.setCam_fr ?_ ?_
    | with_reducible refine Fr.ite ?_ ?_
    | split
    | refine Fr.mk' ?_)

theorem State.spillRestore_fr {msk : Nat} {b₀ : State} {s : State} {f : BringupFacts} {standby : Bool} (h₀ : Fr msk b₀ s) (hm₀ : 717638 ||| msk = msk) :
    Fr msk b₀ (State.spillRestore s f standby) := by
  refine Fr.step h₀ ?_ hm₀
  clear h₀ hm₀
  unfold State.spillRestore
  try dsimp only
  repeat' (first
    | with_reducible exact Fr.refl _ _
    | with_reducible assumption
    | exact (rfl : (_ : Nat) = _)
    | with_reducible refine State.raise_fr ?_ ?_
    | with_reducible refine State.putBit_fr ?_ ?_
    | with_reducible refine State.stagedRestore_fr ?_ ?_
    | with_reducible refine State.txnsFound_fr ?_ ?_
    | with_reducible refine State.wr64_fr ?_ ?_
    | with_reducible refine State.wrN_fr ?_ ?_
    | with_reducible refine State.restoreEntry_fr ?_ ?_
    | dsimp only
    | with_reducible refine Fr.ite ?_ ?_
    | with_reducible refine Fr.ite₁ ?_ ?_
    | with_reducible refine FrS.ite ?_ ?_
    | with_reducible refine FrP.ite ?_ ?_
    | with_reducible exact FrS.none
    | with_reducible refine FrS.some ?_
    | with_reducible refine FrS.map ?_
    | with_reducible exact FrP.none
    | with_reducible refine FrP.some ?_
    | with_reducible refine Fr.elim ?_ ?_
    | with_reducible refine Fr.foldl ?_ _ _ ?_
    | with_reducible refine Fr.foldl₂ ?_ _ _ ?_
    | intro _ _ _ _ _ _
    | intro _ _ _ _ _
    | intro _ _ _ _
    | intro _ _ _
    | intro _ _
    | intro _
    | with_reducible refine Fr.pair (h := ?_) (e := by assumption)
    | with_reducible refine FrO.got (h := ?_) (e := by assumption)
    | with_reducible refine FrS.get (h := ?_) (e := by assumption)
    | with_reducible refine FrP.get (h := ?_) (e := by assumption)
    | split
    | refine Fr.mk' ?_)

theorem State.torluxBring_fr {msk : Nat} {b₀ : State} {s : State} {x1 : Option (List Nat × InitMsg)} (h₀ : Fr msk b₀ s) (hm₀ : 719686 ||| msk = msk) :
    Fr msk b₀ (State.torluxBring s x1) := by
  refine Fr.step h₀ ?_ hm₀
  clear h₀ hm₀
  unfold State.torluxBring
  try dsimp only
  repeat' (first
    | with_reducible exact Fr.refl _ _
    | exact (rfl : (_ : Nat) = _)
    | with_reducible refine State.setLinkState_fr ?_ ?_
    | with_reducible refine State.torluxInit_fr ?_ ?_
    | with_reducible refine State.takeCredits_fr ?_ ?_
    | with_reducible refine State.linkInit_fr ?_ ?_
    | with_reducible refine Fr.ite ?_ ?_
    | split)

theorem State.tackEntry_fr {msk : Nat} {b₀ : State} {d : State × List Nat × Nat} {e : TackEntry} (h₀ : Fr msk b₀ d.1) (hm₀ : 1047534 ||| msk = msk) :
    Fr msk b₀ (State.tackEntry d e).1 := by
  refine Fr.step h₀ ?_ hm₀
  clear h₀ hm₀
  rcases d with ⟨s₀, x₀⟩
  dsimp only
  unfold State.tackEntry
  try dsimp only
  repeat' (first
    | with_reducible exact Fr.refl _ _
    | with_reducible assumption
    | exact (rfl : (_ : Nat) = _)
    | with_reducible refine State.busWrite_fr ?_ ?_
    | with_reducible refine State.ownAct_fr ?_ ?_
    | dsimp only
    | with_reducible refine Fr.ite ?_ ?_
    | with_reducible refine Fr.ite₁ ?_ ?_
    | with_reducible refine FrS.ite ?_ ?_
    | with_reducible refine FrP.ite ?_ ?_
    | with_reducible exact FrS.none
    | with_reducible refine FrS.some ?_
    | with_reducible refine FrS.map ?_
    | with_reducible exact FrP.none
    | with_reducible refine FrP.some ?_
    | with_reducible refine Fr.elim ?_ ?_
    | with_reducible refine Fr.foldl ?_ _ _ ?_
    | with_reducible refine Fr.foldl₂ ?_ _ _ ?_
    | intro _ _ _ _ _ _
    | intro _ _ _ _ _
    | intro _ _ _ _
    | intro _ _ _
    | intro _ _
    | intro _
    | with_reducible refine Fr.pair (h := ?_) (e := by assumption)
    | with_reducible refine FrO.got (h := ?_) (e := by assumption)
    | with_reducible refine FrS.get (h := ?_) (e := by assumption)
    | with_reducible refine FrP.get (h := ?_) (e := by assumption)
    | split)

theorem State.chipPagesRun_fr {msk : Nat} {b₀ : State} {s : State} (h₀ : Fr msk b₀ s) (hm₀ : 4 ||| msk = msk) :
    Fr msk b₀ (State.chipPagesRun s) := by
  refine Fr.step h₀ ?_ hm₀
  clear h₀ hm₀
  unfold State.chipPagesRun
  try dsimp only
  repeat' (first
    | with_reducible exact Fr.refl _ _
    | with_reducible assumption
    | exact (rfl : (_ : Nat) = _)
    | with_reducible refine State.setPage_fr ?_ ?_
    | with_reducible refine Fr.ite ?_ ?_
    | with_reducible refine Fr.foldl ?_ _ _ ?_
    | intro _ _ _)

theorem State.fuseBlow_fr {msk : Nat} {b₀ : State} {s : State} (h₀ : Fr msk b₀ s) (hm₀ : 131072 ||| msk = msk) :
    Fr msk b₀ (State.fuseBlow s) := by
  refine Fr.step h₀ ?_ hm₀
  clear h₀ hm₀
  unfold State.fuseBlow
  try dsimp only
  repeat' (first
    | with_reducible exact Fr.refl _ _
    | with_reducible assumption
    | with_reducible refine Fr.ite ?_ ?_
    | with_reducible refine Fr.foldl ?_ _ _ ?_
    | intro _ _ _
    | refine Fr.mk' ?_)

theorem State.fwBoot_fr {msk : Nat} {b₀ : State} {s : State} {b : Bool} {mode : Nat} (h₀ : Fr msk b₀ s) (hm₀ : 693062 ||| msk = msk) :
    Fr msk b₀ (State.fwBoot s b mode) := by
  refine Fr.step h₀ ?_ hm₀
  clear h₀ hm₀
  unfold State.fwBoot
  try dsimp only
  repeat' (first
    | with_reducible exact Fr.refl _ _
    | exact (rfl : (_ : Nat) = _)
    | with_reducible refine State.wrN_fr ?_ ?_
    | with_reducible refine State.record_fr ?_ ?_)

theorem State.bootCommitted_fr {msk : Nat} {b₀ : State} {s : State} (h₀ : Fr msk b₀ s) (hm₀ : 693062 ||| msk = msk) :
    Fr msk b₀ (State.bootCommitted s) := by
  refine Fr.step h₀ ?_ hm₀
  clear h₀ hm₀
  unfold State.bootCommitted
  try dsimp only
  repeat' (first
    | with_reducible exact Fr.refl _ _
    | exact (rfl : (_ : Nat) = _)
    | with_reducible refine State.fwBoot_fr ?_ ?_
    | with_reducible refine State.wrN_fr ?_ ?_
    | split)

theorem State.trialFailed_fr {msk : Nat} {b₀ : State} {s : State} {b : Bool} (h₀ : Fr msk b₀ s) (hm₀ : 693062 ||| msk = msk) :
    Fr msk b₀ (State.trialFailed s b) := by
  refine Fr.step h₀ ?_ hm₀
  clear h₀ hm₀
  unfold State.trialFailed
  try dsimp only
  repeat' (first
    | with_reducible exact Fr.refl _ _
    | exact (rfl : (_ : Nat) = _)
    | with_reducible refine State.raise_fr ?_ ?_
    | with_reducible refine State.record_fr ?_ ?_
    | with_reducible refine State.setFwSlot_fr ?_ ?_)

theorem State.bootTrial_fr {msk : Nat} {b₀ : State} {s : State} {b : Bool} (h₀ : Fr msk b₀ s) (hm₀ : 693062 ||| msk = msk) :
    Fr msk b₀ (State.bootTrial s b) := by
  refine Fr.step h₀ ?_ hm₀
  clear h₀ hm₀
  unfold State.bootTrial
  try dsimp only
  repeat' (first
    | with_reducible exact Fr.refl _ _
    | exact (rfl : (_ : Nat) = _)
    | with_reducible refine State.setFwSlot_fr ?_ ?_
    | with_reducible refine State.fwBoot_fr ?_ ?_
    | with_reducible refine State.bootCommitted_fr ?_ ?_
    | with_reducible refine State.trialFailed_fr ?_ ?_
    | with_reducible refine Fr.ite ?_ ?_)

theorem State.bootSelect_fr {msk : Nat} {b₀ : State} {s : State} {recovery : Bool} (h₀ : Fr msk b₀ s) (hm₀ : 693062 ||| msk = msk) :
    Fr msk b₀ (State.bootSelect s recovery) := by
  refine Fr.step h₀ ?_ hm₀
  clear h₀ hm₀
  unfold State.bootSelect
  try dsimp only
  repeat' (first
    | with_reducible exact Fr.refl _ _
    | exact (rfl : (_ : Nat) = _)
    | with_reducible refine State.fuseBlow_fr ?_ ?_
    | with_reducible refine State.fwShow_fr ?_ ?_
    | with_reducible refine State.wrN_fr ?_ ?_
    | with_reducible refine State.bootTrial_fr ?_ ?_
    | with_reducible refine State.bootCommitted_fr ?_ ?_
    | with_reducible refine Fr.ite ?_ ?_
    | split)

theorem State.inventory_fr {msk : Nat} {b₀ : State} {s : State} {kind : Nat} {used : Nat} (h₀ : Fr msk b₀ s) (hm₀ : 4 ||| msk = msk) :
    Fr msk b₀ (State.inventory s kind used) := by
  refine Fr.step h₀ ?_ hm₀
  clear h₀ hm₀
  unfold State.inventory
  try dsimp only
  repeat' (first
    | with_reducible exact Fr.refl _ _
    | exact (rfl : (_ : Nat) = _)
    | with_reducible refine State.putFld_fr ?_ ?_)

theorem State.mapRestore_fr {msk : Nat} {b₀ : State} {s : State} (h₀ : Fr msk b₀ s) (hm₀ : 260 ||| msk = msk) :
    Fr msk b₀ (State.mapRestore s) := by
  refine Fr.step h₀ ?_ hm₀
  clear h₀ hm₀
  unfold State.mapRestore
  try dsimp only
  repeat' (first
    | with_reducible exact Fr.refl _ _
    | with_reducible assumption
    | exact (rfl : (_ : Nat) = _)
    | with_reducible refine State.wr_fr ?_ ?_
    | with_reducible refine State.putFld_fr ?_ ?_
    | with_reducible refine State.setGuard_fr ?_ ?_
    | with_reducible refine State.inventory_fr ?_ ?_
    | with_reducible refine Fr.foldl ?_ _ _ ?_
    | intro _ _ _
    | split)

theorem State.initRange_fr {msk : Nat} {b₀ : State} {s : State} {f : BringupFacts} {lo : Nat} {n : Nat} (h₀ : Fr msk b₀ s) (hm₀ : 695238 ||| msk = msk) :
    Fr msk b₀ (State.initRange s f lo n) := by
  refine Fr.step h₀ ?_ hm₀
  clear h₀ hm₀
  unfold State.initRange
  try dsimp only
  repeat' (first
    | with_reducible exact Fr.refl _ _
    | with_reducible assumption
    | exact (rfl : (_ : Nat) = _)
    | with_reducible refine State.raise_fr ?_ ?_
    | with_reducible refine State.initComplete_fr ?_ ?_
    | with_reducible refine Fr.ite ?_ ?_
    | with_reducible refine Fr.foldl ?_ _ _ ?_
    | intro _ _ _
    | split)

theorem State.moduleUp_fr {msk : Nat} {b₀ : State} {s : State} {x : ModUp} (h₀ : Fr msk b₀ s) (hm₀ : 719686 ||| msk = msk) :
    Fr msk b₀ (State.moduleUp s x) := by
  refine Fr.step h₀ ?_ hm₀
  clear h₀ hm₀
  unfold State.moduleUp
  try dsimp only
  repeat' (first
    | with_reducible exact Fr.refl _ _
    | exact (rfl : (_ : Nat) = _)
    | with_reducible refine State.trainStart_fr ?_ ?_
    | with_reducible refine State.putFld_fr ?_ ?_
    | with_reducible refine State.linkInit_fr ?_ ?_
    | with_reducible refine State.pump_fr ?_ ?_
    | with_reducible refine State.takeCredits_fr ?_ ?_
    | with_reducible refine State.identified_fr ?_ ?_
    | with_reducible refine State.setMlink_fr ?_ ?_
    | with_reducible refine State.learnEpoch_fr ?_ ?_
    | with_reducible refine Fr.ite ?_ ?_)

theorem State.bring6_fr {msk : Nat} {b₀ : State} {s : State} {f : BringupFacts} (h₀ : Fr msk b₀ s) (hm₀ : 719814 ||| msk = msk) :
    Fr msk b₀ (State.bring6 s f) := by
  refine Fr.step h₀ ?_ hm₀
  clear h₀ hm₀
  unfold State.bring6
  try dsimp only
  repeat' (first
    | with_reducible exact Fr.refl _ _
    | with_reducible assumption
    | exact (rfl : (_ : Nat) = _)
    | with_reducible refine State.initRange_fr ?_ ?_
    | with_reducible refine State.trainStart_fr ?_ ?_
    | with_reducible refine State.torluxBring_fr ?_ ?_
    | with_reducible refine State.moduleUp_fr ?_ ?_
    | with_reducible refine Out.st_fr ?_ ?_
    | with_reducible refine execEthLinkUp_fr ?_ ?_
    | with_reducible refine Fr.ite ?_ ?_
    | with_reducible refine Fr.foldl ?_ _ _ ?_
    | intro _ _ _)

theorem State.lifeTake_fr {msk : Nat} {b₀ : State} {s : State} {l : LifeSlot} (h₀ : Fr msk b₀ s) (hm₀ : 4 ||| msk = msk) :
    Fr msk b₀ (State.lifeTake s l) := by
  refine Fr.step h₀ ?_ hm₀
  clear h₀ hm₀
  unfold State.lifeTake
  try dsimp only
  repeat' (first
    | with_reducible exact Fr.refl _ _
    | with_reducible assumption
    | exact (rfl : (_ : Nat) = _)
    | with_reducible refine State.wr_fr ?_ ?_
    | with_reducible refine State.wr64_fr ?_ ?_
    | with_reducible refine Fr.foldl ?_ _ _ ?_
    | intro _ _ _)

theorem State.countReset_fr {msk : Nat} {b₀ : State} {s : State} (h₀ : Fr msk b₀ s) (hm₀ : 4 ||| msk = msk) :
    Fr msk b₀ (State.countReset s) := by
  refine Fr.step h₀ ?_ hm₀
  clear h₀ hm₀
  unfold State.countReset
  try dsimp only
  repeat' (first
    | with_reducible exact Fr.refl _ _
    | exact (rfl : (_ : Nat) = _)
    | with_reducible refine State.count_fr ?_ ?_
    | with_reducible refine Fr.ite ?_ ?_)

theorem State.lifeRestore_fr {msk : Nat} {b₀ : State} {s : State} (h₀ : Fr msk b₀ s) (hm₀ : 4 ||| msk = msk) :
    Fr msk b₀ (State.lifeRestore s) := by
  refine Fr.step h₀ ?_ hm₀
  clear h₀ hm₀
  unfold State.lifeRestore
  try dsimp only
  repeat' (first
    | with_reducible exact Fr.refl _ _
    | exact (rfl : (_ : Nat) = _)
    | with_reducible refine State.lifeTake_fr ?_ ?_
    | with_reducible refine State.putFld_fr ?_ ?_
    | with_reducible refine State.putBit_fr ?_ ?_
    | with_reducible refine State.countReset_fr ?_ ?_
    | with_reducible refine Fr.ite ?_ ?_
    | split)

theorem State.slotsShow_fr {msk : Nat} {b₀ : State} {s : State} (h₀ : Fr msk b₀ s) (hm₀ : 131076 ||| msk = msk) :
    Fr msk b₀ (State.slotsShow s) := by
  refine Fr.step h₀ ?_ hm₀
  clear h₀ hm₀
  unfold State.slotsShow
  try dsimp only
  repeat' (first
    | with_reducible exact Fr.refl _ _
    | with_reducible assumption
    | exact (rfl : (_ : Nat) = _)
    | with_reducible refine State.fwSlotShow_fr ?_ ?_
    | dsimp only
    | with_reducible refine Fr.ite ?_ ?_
    | with_reducible refine Fr.ite₁ ?_ ?_
    | with_reducible refine FrS.ite ?_ ?_
    | with_reducible refine FrP.ite ?_ ?_
    | with_reducible exact FrS.none
    | with_reducible refine FrS.some ?_
    | with_reducible refine FrS.map ?_
    | with_reducible exact FrP.none
    | with_reducible refine FrP.some ?_
    | with_reducible refine Fr.elim ?_ ?_
    | with_reducible refine Fr.foldl ?_ _ _ ?_
    | with_reducible refine Fr.foldl₂ ?_ _ _ ?_
    | intro _ _ _ _ _ _
    | intro _ _ _ _ _
    | intro _ _ _ _
    | intro _ _ _
    | intro _ _
    | intro _
    | with_reducible refine Fr.pair (h := ?_) (e := by assumption)
    | with_reducible refine FrO.got (h := ?_) (e := by assumption)
    | with_reducible refine FrS.get (h := ?_) (e := by assumption)
    | with_reducible refine FrP.get (h := ?_) (e := by assumption)
    | split
    | refine Fr.mk' ?_)

theorem State.bring2_fr {msk : Nat} {b₀ : State} {s : State} {f : BringupFacts} (h₀ : Fr msk b₀ s) (hm₀ : 693062 ||| msk = msk) :
    Fr msk b₀ (State.bring2 s f) := by
  refine Fr.step h₀ ?_ hm₀
  clear h₀ hm₀
  unfold State.bring2
  try dsimp only
  repeat' (first
    | with_reducible exact Fr.refl _ _
    | exact (rfl : (_ : Nat) = _)
    | with_reducible refine State.raise_fr ?_ ?_
    | with_reducible refine State.bootSelect_fr ?_ ?_
    | with_reducible refine State.slotsShow_fr ?_ ?_
    | with_reducible refine State.chipPagesRun_fr ?_ ?_
    | with_reducible refine Fr.ite ?_ ?_)

theorem State.bring1_fr {msk : Nat} {b₀ : State} {s : State} {f : BringupFacts} (h₀ : Fr msk b₀ s) (hm₀ : 262148 ||| msk = msk) :
    Fr msk b₀ (State.bring1 s f) := by
  refine Fr.step h₀ ?_ hm₀
  clear h₀ hm₀
  unfold State.bring1
  try dsimp only
  repeat' (first
    | with_reducible exact Fr.refl _ _
    | with_reducible assumption
    | exact (rfl : (_ : Nat) = _)
    | with_reducible refine State.putBit_fr ?_ ?_
    | with_reducible refine State.putFld_fr ?_ ?_
    | with_reducible refine State.wr64_fr ?_ ?_
    | with_reducible refine State.wrN_fr ?_ ?_
    | with_reducible refine State.setFnState_fr ?_ ?_
    | dsimp only
    | with_reducible refine Fr.ite ?_ ?_
    | with_reducible refine Fr.ite₁ ?_ ?_
    | with_reducible refine FrS.ite ?_ ?_
    | with_reducible refine FrP.ite ?_ ?_
    | with_reducible exact FrS.none
    | with_reducible refine FrS.some ?_
    | with_reducible refine FrS.map ?_
    | with_reducible exact FrP.none
    | with_reducible refine FrP.some ?_
    | with_reducible refine Fr.elim ?_ ?_
    | with_reducible refine Fr.foldl ?_ _ _ ?_
    | with_reducible refine Fr.foldl₂ ?_ _ _ ?_
    | intro _ _ _ _ _ _
    | intro _ _ _ _ _
    | intro _ _ _ _
    | intro _ _ _
    | intro _ _
    | intro _
    | with_reducible refine Fr.pair (h := ?_) (e := by assumption)
    | with_reducible refine FrO.got (h := ?_) (e := by assumption)
    | with_reducible refine FrS.get (h := ?_) (e := by assumption)
    | with_reducible refine FrP.get (h := ?_) (e := by assumption)
    | split
    | refine Fr.mk' ?_)

theorem State.stbRecover_fr {msk : Nat} {b₀ : State} {s : State} (h₀ : Fr msk b₀ s) (hm₀ : 693062 ||| msk = msk) :
    Fr msk b₀ (State.stbRecover s) := by
  refine Fr.step h₀ ?_ hm₀
  clear h₀ hm₀
  unfold State.stbRecover
  try dsimp only
  repeat' (first
    | with_reducible exact Fr.refl _ _
    | exact (rfl : (_ : Nat) = _)
    | with_reducible refine State.putBit_fr ?_ ?_
    | with_reducible refine State.wr64_fr ?_ ?_
    | with_reducible refine State.stbShow_fr ?_ ?_
    | with_reducible refine State.startFlush_fr ?_ ?_
    | with_reducible refine Fr.ite ?_ ?_
    | split
    | refine Fr.mk' ?_)

theorem State.keysWiped_fr {msk : Nat} {b₀ : State} {s : State} (h₀ : Fr msk b₀ s) (hm₀ : 955206 ||| msk = msk) :
    Fr msk b₀ (State.keysWiped s) := by
  refine Fr.step h₀ ?_ hm₀
  clear h₀ hm₀
  unfold State.keysWiped
  try dsimp only
  repeat' (first
    | with_reducible exact Fr.refl _ _
    | exact (rfl : (_ : Nat) = _)
    | with_reducible refine State.record_fr ?_ ?_
    | with_reducible refine State.event_fr ?_ ?_
    | with_reducible refine State.putBit_fr ?_ ?_
    | with_reducible refine Fr.ite ?_ ?_
    | refine Fr.mk' ?_)

theorem State.bring3_fr {msk : Nat} {b₀ : State} {s : State} (h₀ : Fr msk b₀ s) (hm₀ : 955206 ||| msk = msk) :
    Fr msk b₀ (State.bring3 s) := by
  refine Fr.step h₀ ?_ hm₀
  clear h₀ hm₀
  unfold State.bring3
  try dsimp only
  repeat' (first
    | with_reducible exact Fr.refl _ _
    | exact (rfl : (_ : Nat) = _)
    | with_reducible refine State.countReset_fr ?_ ?_
    | with_reducible refine State.chipPagesRun_fr ?_ ?_
    | with_reducible refine State.keysWiped_fr ?_ ?_
    | with_reducible refine State.mapRestore_fr ?_ ?_
    | with_reducible refine State.lifeRestore_fr ?_ ?_
    | with_reducible refine Fr.ite ?_ ?_)

theorem State.enablePage_fr {msk : Nat} {b₀ : State} {s : State} {p : Nat} (h₀ : Fr msk b₀ s) (hm₀ : 132 ||| msk = msk) :
    Fr msk b₀ (State.enablePage s p) := by
  refine Fr.step h₀ ?_ hm₀
  clear h₀ hm₀
  unfold State.enablePage
  try dsimp only
  repeat' (first
    | with_reducible exact Fr.refl _ _
    | exact (rfl : (_ : Nat) = _)
    | with_reducible refine State.putBit_fr ?_ ?_
    | with_reducible refine State.startInit_fr ?_ ?_
    | with_reducible refine Fr.ite ?_ ?_)

theorem State.tackApply_fr {msk : Nat} {b₀ : State} {s : State} {copy : List Byte} {used : Nat} (h₀ : Fr msk b₀ s) (hm₀ : 1048558 ||| msk = msk) :
    Fr msk b₀ (State.tackApply s copy used) := by
  refine Fr.step h₀ ?_ hm₀
  clear h₀ hm₀
  unfold State.tackApply
  try dsimp only
  repeat' (first
    | with_reducible exact Fr.refl _ _
    | with_reducible assumption
    | exact (rfl : (_ : Nat) = _)
    | with_reducible refine State.tackEntry_fr ?_ ?_
    | with_reducible refine State.rwsApply_fr ?_ ?_
    | with_reducible refine State.wrN_fr ?_ ?_
    | with_reducible refine State.putFld_fr ?_ ?_
    | with_reducible refine State.enablePage_fr ?_ ?_
    | with_reducible refine Fr.foldl ?_ _ _ ?_
    | with_reducible refine Fr.foldl₂ ?_ _ _ ?_
    | intro _ _ _
    | refine Fr.mk' ?_)

theorem State.tackDefault_fr {msk : Nat} {b₀ : State} {s : State} (h₀ : Fr msk b₀ s) (hm₀ : 693190 ||| msk = msk) :
    Fr msk b₀ (State.tackDefault s) := by
  refine Fr.step h₀ ?_ hm₀
  clear h₀ hm₀
  unfold State.tackDefault
  try dsimp only
  repeat' (first
    | with_reducible exact Fr.refl _ _
    | with_reducible assumption
    | exact (rfl : (_ : Nat) = _)
    | with_reducible refine State.putBit_fr ?_ ?_
    | with_reducible refine State.putFld_fr ?_ ?_
    | with_reducible refine State.record_fr ?_ ?_
    | with_reducible refine State.raise_fr ?_ ?_
    | with_reducible refine State.enablePage_fr ?_ ?_
    | with_reducible refine Fr.foldl ?_ _ _ ?_
    | intro _ _ _)

theorem State.bring4_fr {msk : Nat} {b₀ : State} {s : State} {lost : Bool} (h₀ : Fr msk b₀ s) (hm₀ : 1048558 ||| msk = msk) :
    Fr msk b₀ (State.bring4 s lost) := by
  refine Fr.step h₀ ?_ hm₀
  clear h₀ hm₀
  unfold State.bring4
  try dsimp only
  repeat' (first
    | with_reducible exact Fr.refl _ _
    | exact (rfl : (_ : Nat) = _)
    | with_reducible refine State.tackShow_fr ?_ ?_
    | with_reducible refine State.raise_fr ?_ ?_
    | with_reducible refine State.tackApply_fr ?_ ?_
    | with_reducible refine State.tackDefault_fr ?_ ?_
    | with_reducible refine State.record_fr ?_ ?_
    | with_reducible refine Fr.ite ?_ ?_
    | split)

theorem State.dimmTake_fr {msk : Nat} {b₀ : State} {s : State} {ch : Nat} {d : DimmFacts} (h₀ : Fr msk b₀ s) (hm₀ : 4 ||| msk = msk) :
    Fr msk b₀ (State.dimmTake s ch d) := by
  refine Fr.step h₀ ?_ hm₀
  clear h₀ hm₀
  unfold State.dimmTake
  try dsimp only
  repeat' (first
    | with_reducible exact Fr.refl _ _
    | with_reducible assumption
    | exact (rfl : (_ : Nat) = _)
    | with_reducible refine State.putFld_fr ?_ ?_
    | with_reducible refine State.wrN_fr ?_ ?_
    | with_reducible refine Fr.foldl ?_ _ _ ?_
    | intro _ _ _)

theorem State.hardPpr_fr {msk : Nat} {b₀ : State} {s : State} {r : Nat × Nat} (h₀ : Fr msk b₀ s) (hm₀ : 693062 ||| msk = msk) :
    Fr msk b₀ (State.hardPpr s r) := by
  refine Fr.step h₀ ?_ hm₀
  clear h₀ hm₀
  unfold State.hardPpr
  try dsimp only
  repeat' (first
    | with_reducible exact Fr.refl _ _
    | exact (rfl : (_ : Nat) = _)
    | with_reducible refine State.dramRepair_fr ?_ ?_
    | with_reducible refine State.putFld_fr ?_ ?_)

theorem State.bring5_fr {msk : Nat} {b₀ : State} {s : State} {f : BringupFacts} (h₀ : Fr msk b₀ s) (hm₀ : 760774 ||| msk = msk) :
    Fr msk b₀ (State.bring5 s f) := by
  refine Fr.step h₀ ?_ hm₀
  clear h₀ hm₀
  unfold State.bring5
  try dsimp only
  repeat' (first
    | with_reducible exact Fr.refl _ _
    | with_reducible assumption
    | exact (rfl : (_ : Nat) = _)
    | with_reducible refine State.dimmTake_fr ?_ ?_
    | with_reducible refine State.raise_fr ?_ ?_
    | with_reducible refine State.hardPpr_fr ?_ ?_
    | with_reducible refine State.initRange_fr ?_ ?_
    | with_reducible refine Fr.ite ?_ ?_
    | with_reducible refine Fr.foldl ?_ _ _ ?_
    | intro _ _ _
    | split
    | refine Fr.mk' ?_)

theorem State.poolShow_fr {msk : Nat} {b₀ : State} {s : State} {pool : Nat} {p : Pool} (h₀ : Fr msk b₀ s) (hm₀ : 4 ||| msk = msk) :
    Fr msk b₀ (State.poolShow s pool p) := by
  refine Fr.step h₀ ?_ hm₀
  clear h₀ hm₀
  unfold State.poolShow
  try dsimp only
  repeat' (first
    | with_reducible exact Fr.refl _ _
    | exact (rfl : (_ : Nat) = _)
    | with_reducible refine State.wrN_fr ?_ ?_)

theorem State.ageSinceSave_fr {msk : Nat} {b₀ : State} {s : State} (h₀ : Fr msk b₀ s) (hm₀ : 16384 ||| msk = msk) :
    Fr msk b₀ (State.ageSinceSave s) := by
  refine Fr.step h₀ ?_ hm₀
  clear h₀ hm₀
  unfold State.ageSinceSave
  try dsimp only
  repeat' (first
    | with_reducible exact Fr.refl _ _
    | with_reducible assumption
    | exact (rfl : (_ : Nat) = _)
    | with_reducible refine State.setBg_fr ?_ ?_
    | with_reducible refine Fr.foldl ?_ _ _ ?_
    | intro _ _ _
    | split)

theorem State.patrolBring_fr {msk : Nat} {b₀ : State} {s : State} (h₀ : Fr msk b₀ s) (hm₀ : 16388 ||| msk = msk) :
    Fr msk b₀ (State.patrolBring s) := by
  refine Fr.step h₀ ?_ hm₀
  clear h₀ hm₀
  unfold State.patrolBring
  try dsimp only
  repeat' (first
    | with_reducible exact Fr.refl _ _
    | exact (rfl : (_ : Nat) = _)
    | with_reducible refine State.passStart_fr ?_ ?_
    | with_reducible refine State.ageSinceSave_fr ?_ ?_
    | with_reducible refine State.patrolExpedite_fr ?_ ?_
    | with_reducible refine Fr.ite ?_ ?_)

theorem State.bring7_fr {msk : Nat} {b₀ : State} {s : State} {f : BringupFacts} (h₀ : Fr msk b₀ s) (hm₀ : 719814 ||| msk = msk) :
    Fr msk b₀ (State.bring7 s f) := by
  refine Fr.step h₀ ?_ hm₀
  clear h₀ hm₀
  unfold State.bring7
  try dsimp only
  repeat' (first
    | with_reducible exact Fr.refl _ _
    | with_reducible assumption
    | exact (rfl : (_ : Nat) = _)
    | with_reducible refine State.spillRestore_fr ?_ ?_
    | with_reducible refine State.poolShow_fr ?_ ?_
    | with_reducible refine State.recoverPaddock_fr ?_ ?_
    | with_reducible refine State.spillRecompute_fr ?_ ?_
    | with_reducible refine State.patrolBring_fr ?_ ?_
    | with_reducible refine State.initRange_fr ?_ ?_
    | dsimp only
    | with_reducible refine Fr.ite ?_ ?_
    | with_reducible refine Fr.ite₁ ?_ ?_
    | with_reducible refine FrS.ite ?_ ?_
    | with_reducible refine FrP.ite ?_ ?_
    | with_reducible exact FrS.none
    | with_reducible refine FrS.some ?_
    | with_reducible refine FrS.map ?_
    | with_reducible exact FrP.none
    | with_reducible refine FrP.some ?_
    | with_reducible refine Fr.elim ?_ ?_
    | with_reducible refine Fr.foldl ?_ _ _ ?_
    | with_reducible refine Fr.foldl₂ ?_ _ _ ?_
    | intro _ _ _ _ _ _
    | intro _ _ _ _ _
    | intro _ _ _ _
    | intro _ _ _
    | intro _ _
    | intro _
    | with_reducible refine Fr.pair (h := ?_) (e := by assumption)
    | with_reducible refine FrO.got (h := ?_) (e := by assumption)
    | with_reducible refine FrS.get (h := ?_) (e := by assumption)
    | with_reducible refine FrP.get (h := ?_) (e := by assumption)
    | split
    | refine Fr.mk' ?_)

theorem State.bringTo_fr {msk : Nat} {b₀ : State} {s : State} {f : BringupFacts} {n : Nat} (h₀ : Fr msk b₀ s) (hm₀ : 1048558 ||| msk = msk) :
    Fr msk b₀ (State.bringTo s f n) := by
  refine Fr.step h₀ ?_ hm₀
  clear h₀ hm₀
  unfold State.bringTo
  dsimp only
  refine Fr.foldMem (fun g hg t ht => ?_) (Fr.refl _ _)
  have hg' := List.mem_of_mem_take hg
  simp only [List.mem_cons, List.not_mem_nil, or_false] at hg'
  rcases hg' with rfl | rfl | rfl | rfl | rfl | rfl | rfl
  all_goals repeat' (first
    | with_reducible assumption
    | exact (rfl : (_ : Nat) = _)
    | with_reducible refine State.bring1_fr ?_ ?_
    | with_reducible refine State.bring2_fr ?_ ?_
    | with_reducible refine State.stbRecover_fr ?_ ?_
    | with_reducible refine State.bring3_fr ?_ ?_
    | with_reducible refine State.bring4_fr ?_ ?_
    | with_reducible refine State.bring5_fr ?_ ?_
    | with_reducible refine State.bring6_fr ?_ ?_
    | with_reducible refine State.bring7_fr ?_ ?_)

theorem execBringupStall_fr {msk : Nat} {b₀ : State} {step : Nat} {f : BringupFacts} {s : State} (h₀ : Fr msk b₀ s) (hm₀ : 1048558 ||| msk = msk) :
    FrO msk b₀ (execBringupStall step f s) := by
  refine FrO.step h₀ ?_ hm₀
  clear h₀ hm₀
  unfold execBringupStall
  try dsimp only
  repeat' (first
    | with_reducible exact Fr.refl _ _
    | exact (rfl : (_ : Nat) = _)
    | with_reducible refine State.raise_fr ?_ ?_
    | with_reducible refine State.bringTo_fr ?_ ?_
    | with_reducible refine FrO.ite ?_ ?_
    | with_reducible refine FrO.next ?_
    | refine Fr.mk' ?_)

theorem execBringup_fr {msk : Nat} {b₀ : State} {f : BringupFacts} {s : State} (h₀ : Fr msk b₀ s) (hm₀ : 1048558 ||| msk = msk) :
    FrO msk b₀ (execBringup f s) := by
  refine FrO.step h₀ ?_ hm₀
  clear h₀ hm₀
  unfold execBringup
  try dsimp only
  repeat' (first
    | with_reducible exact Fr.refl _ _
    | exact (rfl : (_ : Nat) = _)
    | with_reducible refine State.bringTo_fr ?_ ?_
    | with_reducible refine FrO.ite ?_ ?_
    | with_reducible refine FrO.next ?_
    | refine Fr.mk' ?_)

end Sys2Proof.Machine
end

