-- ==== Sys2Proof/Laws/Regs.lean ====
section
/-! SUPPORT. Register frames: which registers an operation may write. A set of names is a number whose bits are the places of the
names in `RegName`. -/

namespace Sys2Proof.Machine

/-- The register number `k` belongs to a name of the set `m`. -/
def InSet (m k : Nat) : Prop := ∃ r : RegName, m.testBit r.ctorIdx = true ∧ r.has k

/-- `t` comes of `s` by writing registers of the set `m` only. -/
structure Rg (m : Nat) (s t : State) : Prop where
  rd : ∀ k, ¬ InSet m k → t.rd k = s.rd k

theorem InSet.sub {M m k : Nat} (h : InSet M k) (hm : M ||| m = m) : InSet m k := by
  obtain ⟨r, h1, h2⟩ := h
  exact ⟨r, by rw [← hm, Nat.testBit_or, h1, Bool.true_or], h2⟩

theorem InSet.ite {m a b : Nat} {c : Prop} [Decidable c] (ha : InSet m a) (hb : InSet m b) : InSet m (if c then a else b) := by
  split <;> assumption

theorem in_any {m k : Nat} (h : m.testBit 543 = true) : InSet m k := ⟨.any, h, trivial⟩

theorem Rg.any {m : Nat} {s t : State} (h : m.testBit 543 = true) : Rg m s t := ⟨fun _ hk => absurd (in_any h) hk⟩

theorem Rg.refl (m : Nat) (s : State) : Rg m s s := ⟨fun _ _ => rfl⟩

/-- One operation after another. -/
theorem Rg.step {k m : Nat} {s t u : State} (h : Rg k s t) (g : Rg m t u) (hm : m ||| k = k) : Rg k s u :=
  ⟨fun i hi => (g.rd i fun h => hi (h.sub hm)).trans (h.rd i hi)⟩

theorem Rg.trans {m : Nat} {s t u : State} (h : Rg m s t) (g : Rg m t u) : Rg m s u := h.step g (Nat.or_self m)

theorem Rg.sub {k M m : Nat} (h : k ||| M = M) (hm : M ||| m = m) : k ||| m = m := by
  rw [← hm, ← Nat.or_assoc, h]

/-- A structure update that leaves the register file alone. -/
theorem Rg.mk' {m : Nat} {s t : State} (h : Rg m s t) {p se sh hi lo cl pg gu st ta fr ci ca me td mm sv pw fs} :
    Rg m s (State.mk p se t.regs sh hi lo cl pg gu st ta fr ci ca me td mm sv pw fs) := ⟨fun k hk => h.rd k hk⟩

theorem Rg.foldl {α : Type} {m : Nat} {s : State} {f : State → α → State} (hf : ∀ t x, Rg m s t → Rg m s (f t x)) :
    ∀ (l : List α) (t : State), Rg m s t → Rg m s (l.foldl f t)
  | [], _, h => h
  | x :: l, t, h => Rg.foldl hf l (f t x) (hf t x h)

/-- Steps of a list, one after another. -/
theorem Rg.foldMem {m : Nat} {s : State} : ∀ {l : List (State → State)} {t : State},
    (∀ g ∈ l, ∀ u, Rg m s u → Rg m s (g u)) → Rg m s t → Rg m s (l.foldl (fun s g => g s) t)
  | [], _, _, h => h
  | g :: l, t, hg, h => Rg.foldMem (l := l) (t := g t) (fun g' hg' => hg g' (.tail _ hg')) (hg g (.head _) t h)

/-- The same of a fold that carries more than a state. -/
theorem Rg.foldl₂ {α β : Type} {m : Nat} {s : State} {f : State × β → α → State × β}
    (hf : ∀ t x, Rg m s t.1 → Rg m s (f t x).1) : ∀ (l : List α) (t : State × β), Rg m s t.1 → Rg m s (l.foldl f t).1
  | [], _, h => h
  | x :: l, t, h => Rg.foldl₂ hf l (f t x) (hf t x h)

theorem Rg.ite {m : Nat} {s a b : State} {c : Prop} [Decidable c] (ha : Rg m s a) (hb : Rg m s b) :
    Rg m s (if c then a else b) := by
  split <;> assumption

theorem Rg.ite₁ {β : Type} {m : Nat} {s : State} {a b : State × β} {c : Prop} [Decidable c] (ha : Rg m s a.1)
    (hb : Rg m s b.1) : Rg m s (if c then a else b).1 := by
  split <;> assumption

theorem Rg.elim {α : Type} {m : Nat} {s a : State} {f : α → State} {o : Option α} (h : Rg m s a) (g : ∀ x, Rg m s (f x)) :
    Rg m s (o.elim a f) := by
  cases o
  · exact h
  · exact g _

theorem Rg.pair {β : Type} {m : Nat} {s : State} {p : State × β} {a : State} {b : β} (h : Rg m s p.1) (e : p = (a, b)) :
    Rg m s a := by
  subst e; exact h

/-- The registers that a command's outcome may differ in. -/
structure RgO (m : Nat) (s : State) (o : Host.Outcome State Fault Refusal) : Prop where
  get : ∀ t, o = .next t → Rg m s t

theorem RgO.got {m : Nat} {s t : State} {o : Host.Outcome State Fault Refusal} (h : RgO m s o) (e : o = .next t) :
    Rg m s t := h.get t e

theorem RgO.next {m : Nat} {s t : State} (h : Rg m s t) : RgO m s (.next t) := ⟨by intro u e; cases e; exact h⟩

theorem RgO.any {m : Nat} {s : State} {o : Host.Outcome State Fault Refusal} (h : m.testBit 543 = true) : RgO m s o :=
  ⟨fun _ _ => Rg.any h⟩

theorem RgO.ite {m : Nat} {s : State} {a b : Host.Outcome State Fault Refusal} {c : Prop} [Decidable c] (ha : RgO m s a)
    (hb : RgO m s b) : RgO m s (if c then a else b) := by
  split <;> assumption

theorem RgO.step {k m : Nat} {s t : State} {o : Host.Outcome State Fault Refusal} (h : Rg k s t) (g : RgO m t o)
    (hm : m ||| k = k) : RgO k s o := ⟨fun u e => h.step (g.get u e) hm⟩

/-- The same of a state that may be there. -/
structure RgS (m : Nat) (s : State) (o : Option State) : Prop where
  got : ∀ t, o = some t → Rg m s t

theorem RgS.map {α : Type} {m : Nat} {s : State} {f : α → State} {o : Option α} (h : ∀ x, Rg m s (f x)) :
    RgS m s (o.map f) := ⟨by cases o <;> intro u e <;> cases e; exact h _⟩

theorem RgS.get {m : Nat} {s t : State} {o : Option State} (h : RgS m s o) (e : o = some t) : Rg m s t := h.got t e

theorem RgS.some {m : Nat} {s t : State} (h : Rg m s t) : RgS m s (.some t) := ⟨by intro u e; cases e; exact h⟩

theorem RgS.none {m : Nat} {s : State} : RgS m s .none := ⟨by intro u e; cases e⟩

theorem RgS.step {k m : Nat} {s t : State} {o : Option State} (h : Rg k s t) (g : RgS m t o)
    (hm : m ||| k = k) : RgS k s o := ⟨fun u e => h.step (g.got u e) hm⟩

theorem RgS.ite {m : Nat} {s : State} {a b : Option State} {c : Prop} [Decidable c] (ha : RgS m s a)
    (hb : RgS m s b) : RgS m s (if c then a else b) := by
  split <;> assumption

/-- The same of a state that may be there, with something beside it. -/
structure RgP {β : Type} (m : Nat) (s : State) (o : Option (State × β)) : Prop where
  got : ∀ p, o = some p → Rg m s p.1

theorem RgP.trans {β : Type} {m : Nat} {s t : State} {o : Option (State × β)} (h : Rg m s t) (g : RgP m t o) :
    RgP m s o := ⟨fun p e => h.trans (g.got p e)⟩

theorem RgP.get {β : Type} {m : Nat} {s t : State} {b : β} {o : Option (State × β)} (h : RgP m s o) (e : o = some (t, b)) :
    Rg m s t := h.got (t, b) e

theorem RgP.some {β : Type} {m : Nat} {s : State} {p : State × β} (h : Rg m s p.1) : RgP m s (.some p) := ⟨by
  intro u e; cases e; exact h⟩

theorem RgP.none {β : Type} {m : Nat} {s : State} : RgP m s (.none : Option (State × β)) := ⟨by intro u e; cases e⟩

theorem RgP.step {β : Type} {k m : Nat} {s t : State} {o : Option (State × β)} (h : Rg k s t) (g : RgP m t o)
    (hm : m ||| k = k) : RgP k s o := ⟨fun u e => h.step (g.got u e) hm⟩

theorem RgP.ite {β : Type} {m : Nat} {s : State} {a b : Option (State × β)} {c : Prop} [Decidable c] (ha : RgP m s a)
    (hb : RgP m s b) : RgP m s (if c then a else b) := by
  split <;> assumption

/-! ### The operations that write a register -/

theorem State.wr_rg {msk : Nat} {b₀ s : State} {k : Nat} {v : Word} (h₀ : Rg msk b₀ s) (hk : InSet msk k) :
    Rg msk b₀ (s.wr k v) :=
  ⟨fun i hi => (State.wr_ne s v fun (h : i = k) => hi (by rw [h]; exact hk)).trans (h₀.rd i hi)⟩

theorem State.wr64_rg {msk : Nat} {b₀ s : State} {k : Nat} {v : DWord} (h₀ : Rg msk b₀ s) (hk : InSet msk k)
    (hk' : InSet msk (k + 4)) : Rg msk b₀ (s.wr64 k v) := State.wr_rg (State.wr_rg h₀ hk) hk'

theorem State.wrN_rg {msk : Nat} {b₀ s : State} {k v : Nat} (h₀ : Rg msk b₀ s) (hk : InSet msk k) :
    Rg msk b₀ (s.wrN k v) := State.wr_rg h₀ hk

theorem State.putFld_rg {msk : Nat} {b₀ s : State} {k lo n v : Nat} (h₀ : Rg msk b₀ s) (hk : InSet msk k) :
    Rg msk b₀ (s.putFld k lo n v) := State.wr_rg h₀ hk

theorem State.putBit_rg {msk : Nat} {b₀ s : State} {k i : Nat} {b : Bool} (h₀ : Rg msk b₀ s) (hk : InSet msk k) :
    Rg msk b₀ (s.putBit k i b) := State.wr_rg h₀ hk

theorem State.count_rg {msk : Nat} {b₀ s : State} {k : Nat} (h₀ : Rg msk b₀ s) (hk : InSet msk k) :
    Rg msk b₀ (s.count k) := State.wr_rg h₀ hk

theorem State.countBy_rg {msk : Nat} {b₀ s : State} {k n : Nat} (h₀ : Rg msk b₀ s) (hk : InSet msk k) :
    Rg msk b₀ (s.countBy k n) := State.wr_rg h₀ hk

theorem State.highWater_rg {msk : Nat} {b₀ s : State} {k v : Nat} (h₀ : Rg msk b₀ s) (hk : InSet msk k) :
    Rg msk b₀ (s.highWater k v) := by
  unfold State.highWater
  exact Rg.ite (State.wrN_rg h₀ hk) h₀

/-! ### The names -/

theorem in_PG_IDENT {m : Nat} {p : Nat} (h : m.testBit 0 = true) : InSet m (R.PG_IDENT p) := ⟨.PG_IDENT, h, p, rfl⟩
theorem in_PG_VERSION {m : Nat} {p : Nat} (h : m.testBit 1 = true) : InSet m (R.PG_VERSION p) := ⟨.PG_VERSION, h, p, rfl⟩
theorem in_PG_CAPS {m : Nat} {p : Nat} (h : m.testBit 2 = true) : InSet m (R.PG_CAPS p) := ⟨.PG_CAPS, h, p, rfl⟩
theorem in_PG_CTRL {m : Nat} {p : Nat} (h : m.testBit 3 = true) : InSet m (R.PG_CTRL p) := ⟨.PG_CTRL, h, p, rfl⟩
theorem in_PG_STATE {m : Nat} {p : Nat} (h : m.testBit 4 = true) : InSet m (R.PG_STATE p) := ⟨.PG_STATE, h, p, rfl⟩
theorem in_PG_EVENT {m : Nat} {p : Nat} (h : m.testBit 5 = true) : InSet m (R.PG_EVENT p) := ⟨.PG_EVENT, h, p, rfl⟩
theorem in_PG_EVENT_EN {m : Nat} {p : Nat} (h : m.testBit 6 = true) : InSet m (R.PG_EVENT_EN p) := ⟨.PG_EVENT_EN, h, p, rfl⟩
theorem in_PG_EVENT_FORCE {m : Nat} {p : Nat} (h : m.testBit 7 = true) : InSet m (R.PG_EVENT_FORCE p) := ⟨.PG_EVENT_FORCE, h, p, rfl⟩
theorem in_PG_ERR_FIRST {m : Nat} {p : Nat} (h : m.testBit 8 = true) : InSet m (R.PG_ERR_FIRST p) := ⟨.PG_ERR_FIRST, h, p, rfl⟩
theorem in_PG_ERR_COUNT {m : Nat} {p : Nat} (h : m.testBit 9 = true) : InSet m (R.PG_ERR_COUNT p) := ⟨.PG_ERR_COUNT, h, p, rfl⟩
theorem in_PG_ERR_STRIDE {m : Nat} {p : Nat} (h : m.testBit 10 = true) : InSet m (R.PG_ERR_STRIDE p) := ⟨.PG_ERR_STRIDE, h, p, .inl rfl⟩
theorem in_PG_ERR_STRIDE4 {m : Nat} {p : Nat} (h : m.testBit 10 = true) : InSet m (R.PG_ERR_STRIDE p + 4) := ⟨.PG_ERR_STRIDE, h, p, .inr rfl⟩
theorem in_PG_INJECT {m : Nat} {p : Nat} (h : m.testBit 11 = true) : InSet m (R.PG_INJECT p) := ⟨.PG_INJECT, h, p, rfl⟩
theorem in_PG_SPARE {m : Nat} {p : Nat} (h : m.testBit 12 = true) : InSet m (R.PG_SPARE p) := ⟨.PG_SPARE, h, p, rfl⟩
theorem in_UNIT_WORD {m : Nat} {p u : Nat} (h : m.testBit 13 = true) : InSet m (R.UNIT_WORD p u) := ⟨.UNIT_WORD, h, p, u, rfl⟩
theorem in_STR_NUM {m : Nat} (h : m.testBit 14 = true) : InSet m (R.STR_NUM) := ⟨.STR_NUM, h, .inl rfl⟩
theorem in_STR_NUM4 {m : Nat} (h : m.testBit 14 = true) : InSet m (R.STR_NUM + 4) := ⟨.STR_NUM, h, .inr rfl⟩
theorem in_STR_CTRL {m : Nat} (h : m.testBit 15 = true) : InSet m (R.STR_CTRL) := ⟨.STR_CTRL, h, rfl⟩
theorem in_STR_STATUS {m : Nat} (h : m.testBit 16 = true) : InSet m (R.STR_STATUS) := ⟨.STR_STATUS, h, rfl⟩
theorem in_STR_OFFSET {m : Nat} (h : m.testBit 17 = true) : InSet m (R.STR_OFFSET) := ⟨.STR_OFFSET, h, rfl⟩
theorem in_STR_SKEW {m : Nat} (h : m.testBit 18 = true) : InSet m (R.STR_SKEW) := ⟨.STR_SKEW, h, rfl⟩
theorem in_STR_COMMIT_AT {m : Nat} (h : m.testBit 19 = true) : InSet m (R.STR_COMMIT_AT) := ⟨.STR_COMMIT_AT, h, .inl rfl⟩
theorem in_STR_COMMIT_AT4 {m : Nat} (h : m.testBit 19 = true) : InSet m (R.STR_COMMIT_AT + 4) := ⟨.STR_COMMIT_AT, h, .inr rfl⟩
theorem in_STR_OVR_COUNT {m : Nat} (h : m.testBit 20 = true) : InSet m (R.STR_OVR_COUNT) := ⟨.STR_OVR_COUNT, h, rfl⟩
theorem in_STR_OVR_LAST {m : Nat} (h : m.testBit 21 = true) : InSet m (R.STR_OVR_LAST) := ⟨.STR_OVR_LAST, h, rfl⟩
theorem in_CAL_SEC {m : Nat} (h : m.testBit 22 = true) : InSet m (R.CAL_SEC) := ⟨.CAL_SEC, h, .inl rfl⟩
theorem in_CAL_SEC4 {m : Nat} (h : m.testBit 22 = true) : InSet m (R.CAL_SEC + 4) := ⟨.CAL_SEC, h, .inr rfl⟩
theorem in_CAL_SUBSEC {m : Nat} (h : m.testBit 23 = true) : InSet m (R.CAL_SUBSEC) := ⟨.CAL_SUBSEC, h, rfl⟩
theorem in_CAL_SET {m : Nat} (h : m.testBit 24 = true) : InSet m (R.CAL_SET) := ⟨.CAL_SET, h, .inl rfl⟩
theorem in_CAL_SET4 {m : Nat} (h : m.testBit 24 = true) : InSet m (R.CAL_SET + 4) := ⟨.CAL_SET, h, .inr rfl⟩
theorem in_CAL_CTRL {m : Nat} (h : m.testBit 25 = true) : InSet m (R.CAL_CTRL) := ⟨.CAL_CTRL, h, rfl⟩
theorem in_CAL_TRIM {m : Nat} (h : m.testBit 26 = true) : InSet m (R.CAL_TRIM) := ⟨.CAL_TRIM, h, rfl⟩
theorem in_CAL_STATUS {m : Nat} (h : m.testBit 27 = true) : InSet m (R.CAL_STATUS) := ⟨.CAL_STATUS, h, rfl⟩
theorem in_CAL_AT_STRIDE {m : Nat} (h : m.testBit 28 = true) : InSet m (R.CAL_AT_STRIDE) := ⟨.CAL_AT_STRIDE, h, .inl rfl⟩
theorem in_CAL_AT_STRIDE4 {m : Nat} (h : m.testBit 28 = true) : InSet m (R.CAL_AT_STRIDE + 4) := ⟨.CAL_AT_STRIDE, h, .inr rfl⟩
theorem in_CAL_AT_CLK {m : Nat} (h : m.testBit 29 = true) : InSet m (R.CAL_AT_CLK) := ⟨.CAL_AT_CLK, h, rfl⟩
theorem in_PWR_STRIDES {m : Nat} (h : m.testBit 30 = true) : InSet m (R.PWR_STRIDES) := ⟨.PWR_STRIDES, h, .inl rfl⟩
theorem in_PWR_STRIDES4 {m : Nat} (h : m.testBit 30 = true) : InSet m (R.PWR_STRIDES + 4) := ⟨.PWR_STRIDES, h, .inr rfl⟩
theorem in_PWR_CYCLES {m : Nat} (h : m.testBit 31 = true) : InSet m (R.PWR_CYCLES) := ⟨.PWR_CYCLES, h, rfl⟩
theorem in_RESETS {m : Nat} (h : m.testBit 32 = true) : InSet m (R.RESETS) := ⟨.RESETS, h, rfl⟩
theorem in_REMOUNTS {m : Nat} (h : m.testBit 33 = true) : InSet m (R.REMOUNTS) := ⟨.REMOUNTS, h, rfl⟩
theorem in_LIFE_CTRL {m : Nat} (h : m.testBit 34 = true) : InSet m (R.LIFE_CTRL) := ⟨.LIFE_CTRL, h, rfl⟩
theorem in_LIFE_STATUS {m : Nat} (h : m.testBit 35 = true) : InSet m (R.LIFE_STATUS) := ⟨.LIFE_STATUS, h, rfl⟩
theorem in_TJ_MAX_SEEN {m : Nat} (h : m.testBit 36 = true) : InSet m (R.TJ_MAX_SEEN) := ⟨.TJ_MAX_SEEN, h, rfl⟩
theorem in_TEMP_BAND {m : Nat} {i : Nat} (h : m.testBit 37 = true) : InSet m (R.TEMP_BAND i) := ⟨.TEMP_BAND, h, i, rfl⟩
theorem in_MOD_WR {m : Nat} {i : Nat} (h : m.testBit 38 = true) : InSet m (R.MOD_WR i) := ⟨.MOD_WR, h, i, .inl rfl⟩
theorem in_MOD_WR4 {m : Nat} {i : Nat} (h : m.testBit 38 = true) : InSet m (R.MOD_WR i + 4) := ⟨.MOD_WR, h, i, .inr rfl⟩
theorem in_CHIP_PART {m : Nat} (h : m.testBit 39 = true) : InSet m (R.CHIP_PART) := ⟨.CHIP_PART, h, rfl⟩
theorem in_CHIP_STEP {m : Nat} (h : m.testBit 40 = true) : InSet m (R.CHIP_STEP) := ⟨.CHIP_STEP, h, rfl⟩
theorem in_CHIP_HEAD {m : Nat} (h : m.testBit 41 = true) : InSet m (R.CHIP_HEAD) := ⟨.CHIP_HEAD, h, rfl⟩
theorem in_CHIP_INJ_EN {m : Nat} (h : m.testBit 42 = true) : InSet m (R.CHIP_INJ_EN) := ⟨.CHIP_INJ_EN, h, rfl⟩
theorem in_CHIP_PG_COUNT {m : Nat} (h : m.testBit 43 = true) : InSet m (R.CHIP_PG_COUNT) := ⟨.CHIP_PG_COUNT, h, rfl⟩
theorem in_EVT_GROUP_PEND {m : Nat} (h : m.testBit 44 = true) : InSet m (R.EVT_GROUP_PEND) := ⟨.EVT_GROUP_PEND, h, .inl rfl⟩
theorem in_EVT_GROUP_PEND4 {m : Nat} (h : m.testBit 44 = true) : InSet m (R.EVT_GROUP_PEND + 4) := ⟨.EVT_GROUP_PEND, h, .inr rfl⟩
theorem in_EVT_ARM {m : Nat} (h : m.testBit 45 = true) : InSet m (R.EVT_ARM) := ⟨.EVT_ARM, h, .inl rfl⟩
theorem in_EVT_ARM4 {m : Nat} (h : m.testBit 45 = true) : InSet m (R.EVT_ARM + 4) := ⟨.EVT_ARM, h, .inr rfl⟩
theorem in_EVT_PEND {m : Nat} {i : Nat} (h : m.testBit 46 = true) : InSet m (R.EVT_PEND i) := ⟨.EVT_PEND, h, i, rfl⟩
theorem in_EVT_GROUP_VEC {m : Nat} {i : Nat} (h : m.testBit 47 = true) : InSet m (R.EVT_GROUP_VEC i) := ⟨.EVT_GROUP_VEC, h, i, rfl⟩
theorem in_EVT_ROUTE {m : Nat} {i : Nat} (h : m.testBit 48 = true) : InSet m (R.EVT_ROUTE i) := ⟨.EVT_ROUTE, h, i, rfl⟩
theorem in_PCIE_LINK {m : Nat} (h : m.testBit 49 = true) : InSet m (R.PCIE_LINK) := ⟨.PCIE_LINK, h, rfl⟩
theorem in_PCIE_CAP_LINK {m : Nat} (h : m.testBit 50 = true) : InSet m (R.PCIE_CAP_LINK) := ⟨.PCIE_CAP_LINK, h, rfl⟩
theorem in_PCIE_MPS {m : Nat} (h : m.testBit 51 = true) : InSet m (R.PCIE_MPS) := ⟨.PCIE_MPS, h, rfl⟩
theorem in_PCIE_RETRAINS {m : Nat} (h : m.testBit 52 = true) : InSet m (R.PCIE_RETRAINS) := ⟨.PCIE_RETRAINS, h, rfl⟩
theorem in_PCIE_RX_ERR {m : Nat} (h : m.testBit 53 = true) : InSet m (R.PCIE_RX_ERR) := ⟨.PCIE_RX_ERR, h, rfl⟩
theorem in_PCIE_REPLAYS {m : Nat} (h : m.testBit 54 = true) : InSet m (R.PCIE_REPLAYS) := ⟨.PCIE_REPLAYS, h, rfl⟩
theorem in_PCIE_CPL_TMO {m : Nat} (h : m.testBit 55 = true) : InSet m (R.PCIE_CPL_TMO) := ⟨.PCIE_CPL_TMO, h, rfl⟩
theorem in_PCIE_POISONED {m : Nat} (h : m.testBit 56 = true) : InSet m (R.PCIE_POISONED) := ⟨.PCIE_POISONED, h, rfl⟩
theorem in_PCIE_FLR {m : Nat} (h : m.testBit 57 = true) : InSet m (R.PCIE_FLR) := ⟨.PCIE_FLR, h, rfl⟩
theorem in_PCIE_UR {m : Nat} (h : m.testBit 58 = true) : InSet m (R.PCIE_UR) := ⟨.PCIE_UR, h, rfl⟩
theorem in_FN_SEL {m : Nat} (h : m.testBit 59 = true) : InSet m (R.FN_SEL) := ⟨.FN_SEL, h, rfl⟩
theorem in_FN_CMD {m : Nat} (h : m.testBit 60 = true) : InSet m (R.FN_CMD) := ⟨.FN_CMD, h, rfl⟩
theorem in_FN_CMD_STATUS {m : Nat} (h : m.testBit 61 = true) : InSet m (R.FN_CMD_STATUS) := ⟨.FN_CMD_STATUS, h, rfl⟩
theorem in_FN_MODE {m : Nat} (h : m.testBit 62 = true) : InSet m (R.FN_MODE) := ⟨.FN_MODE, h, rfl⟩
theorem in_FN_QP_QUOTA {m : Nat} (h : m.testBit 63 = true) : InSet m (R.FN_QP_QUOTA) := ⟨.FN_QP_QUOTA, h, rfl⟩
theorem in_FN_CISTERN_QUOTA {m : Nat} (h : m.testBit 64 = true) : InSet m (R.FN_CISTERN_QUOTA) := ⟨.FN_CISTERN_QUOTA, h, rfl⟩
theorem in_FN_WEIR_MIN {m : Nat} (h : m.testBit 65 = true) : InSet m (R.FN_WEIR_MIN) := ⟨.FN_WEIR_MIN, h, rfl⟩
theorem in_FN_WEIR_MAX {m : Nat} (h : m.testBit 66 = true) : InSet m (R.FN_WEIR_MAX) := ⟨.FN_WEIR_MAX, h, rfl⟩
theorem in_FN_MSIX {m : Nat} (h : m.testBit 67 = true) : InSet m (R.FN_MSIX) := ⟨.FN_MSIX, h, rfl⟩
theorem in_FN_VOL {m : Nat} (h : m.testBit 68 = true) : InSet m (R.FN_VOL) := ⟨.FN_VOL, h, rfl⟩
theorem in_FN_NSID {m : Nat} (h : m.testBit 69 = true) : InSet m (R.FN_NSID) := ⟨.FN_NSID, h, rfl⟩
theorem in_FN_STATE {m : Nat} {b : Nat} (h : m.testBit 70 = true) : InSet m (R.FN_STATE b) := ⟨.FN_STATE, h, b, rfl⟩
theorem in_FN_STALE_COUNT {m : Nat} {b : Nat} (h : m.testBit 71 = true) : InSet m (R.FN_STALE_COUNT b) := ⟨.FN_STALE_COUNT, h, b, rfl⟩
theorem in_POOL_QP_FREE {m : Nat} (h : m.testBit 72 = true) : InSet m (R.POOL_QP_FREE) := ⟨.POOL_QP_FREE, h, rfl⟩
theorem in_POOL_CISTERN_FREE {m : Nat} (h : m.testBit 73 = true) : InSet m (R.POOL_CISTERN_FREE) := ⟨.POOL_CISTERN_FREE, h, rfl⟩
theorem in_POOL_WEIR_FREE {m : Nat} (h : m.testBit 74 = true) : InSet m (R.POOL_WEIR_FREE) := ⟨.POOL_WEIR_FREE, h, rfl⟩
theorem in_MGMT_DB_PEND {m : Nat} {i : Nat} (h : m.testBit 75 = true) : InSet m (R.MGMT_DB_PEND i) := ⟨.MGMT_DB_PEND, h, i, rfl⟩
theorem in_FN_MBOX {m : Nat} {i : Nat} (h : m.testBit 76 = true) : InSet m (R.FN_MBOX i) := ⟨.FN_MBOX, h, i, rfl⟩
theorem in_FN_REPLY {m : Nat} {i : Nat} (h : m.testBit 77 = true) : InSet m (R.FN_REPLY i) := ⟨.FN_REPLY, h, i, rfl⟩
theorem in_WEIR_CAP {m : Nat} (h : m.testBit 78 = true) : InSet m (R.WEIR_CAP) := ⟨.WEIR_CAP, h, rfl⟩
theorem in_WEIR_SEL {m : Nat} (h : m.testBit 79 = true) : InSet m (R.WEIR_SEL) := ⟨.WEIR_SEL, h, rfl⟩
theorem in_WEIR_MIN {m : Nat} {b : Nat} (h : m.testBit 80 = true) : InSet m (R.WEIR_MIN b) := ⟨.WEIR_MIN, h, b, rfl⟩
theorem in_WEIR_MAX {m : Nat} {b : Nat} (h : m.testBit 81 = true) : InSet m (R.WEIR_MAX b) := ⟨.WEIR_MAX, h, b, rfl⟩
theorem in_WEIR_BAL {m : Nat} {b : Nat} (h : m.testBit 82 = true) : InSet m (R.WEIR_BAL b) := ⟨.WEIR_BAL, h, b, rfl⟩
theorem in_WEIR_PS {m : Nat} {b : Nat} (h : m.testBit 83 = true) : InSet m (R.WEIR_PS b) := ⟨.WEIR_PS, h, b, rfl⟩
theorem in_LQV_CTRL {m : Nat} {n i : Nat} (h : m.testBit 84 = true) : InSet m (R.LQV_CTRL n i) := ⟨.LQV_CTRL, h, n, i, rfl⟩
theorem in_LQV_STATUS {m : Nat} {n i : Nat} (h : m.testBit 85 = true) : InSet m (R.LQV_STATUS n i) := ⟨.LQV_STATUS, h, n, i, rfl⟩
theorem in_LQV_ISSUE {m : Nat} {n i : Nat} (h : m.testBit 86 = true) : InSet m (R.LQV_ISSUE n i) := ⟨.LQV_ISSUE, h, n, i, rfl⟩
theorem in_LQV_DONE {m : Nat} {n i : Nat} (h : m.testBit 87 = true) : InSet m (R.LQV_DONE n i) := ⟨.LQV_DONE, h, n, i, rfl⟩
theorem in_LQ_CMPL_COUNT {m : Nat} {n i : Nat} (h : m.testBit 88 = true) : InSet m (R.LQ_CMPL_COUNT n i) := ⟨.LQ_CMPL_COUNT, h, n, i, rfl⟩
theorem in_ETH_MODE {m : Nat} {n : Nat} (h : m.testBit 89 = true) : InSet m (R.ETH_MODE n) := ⟨.ETH_MODE, h, n, rfl⟩
theorem in_ETH_STATUS {m : Nat} {n : Nat} (h : m.testBit 90 = true) : InSet m (R.ETH_STATUS n) := ⟨.ETH_STATUS, h, n, rfl⟩
theorem in_ETH_MAC_A {m : Nat} {n : Nat} (h : m.testBit 91 = true) : InSet m (R.ETH_MAC_A n) := ⟨.ETH_MAC_A, h, n, .inl rfl⟩
theorem in_ETH_MAC_A4 {m : Nat} {n : Nat} (h : m.testBit 91 = true) : InSet m (R.ETH_MAC_A n + 4) := ⟨.ETH_MAC_A, h, n, .inr rfl⟩
theorem in_ETH_MAC_B {m : Nat} {n : Nat} (h : m.testBit 92 = true) : InSet m (R.ETH_MAC_B n) := ⟨.ETH_MAC_B, h, n, .inl rfl⟩
theorem in_ETH_MAC_B4 {m : Nat} {n : Nat} (h : m.testBit 92 = true) : InSet m (R.ETH_MAC_B n + 4) := ⟨.ETH_MAC_B, h, n, .inr rfl⟩
theorem in_ETH_MTU {m : Nat} {n : Nat} (h : m.testBit 93 = true) : InSet m (R.ETH_MTU n) := ⟨.ETH_MTU, h, n, rfl⟩
theorem in_ETH_PRIO {m : Nat} {n : Nat} (h : m.testBit 94 = true) : InSet m (R.ETH_PRIO n) := ⟨.ETH_PRIO, h, n, rfl⟩
theorem in_ETH_DSCP {m : Nat} {n : Nat} (h : m.testBit 95 = true) : InSet m (R.ETH_DSCP n) := ⟨.ETH_DSCP, h, n, rfl⟩
theorem in_ETH_FEC_LIMIT {m : Nat} {n : Nat} (h : m.testBit 96 = true) : InSet m (R.ETH_FEC_LIMIT n) := ⟨.ETH_FEC_LIMIT, h, n, rfl⟩
theorem in_ETH_FEC_CORR {m : Nat} {n : Nat} (h : m.testBit 97 = true) : InSet m (R.ETH_FEC_CORR n) := ⟨.ETH_FEC_CORR, h, n, rfl⟩
theorem in_ETH_FEC_UNCORR {m : Nat} {n : Nat} (h : m.testBit 98 = true) : InSet m (R.ETH_FEC_UNCORR n) := ⟨.ETH_FEC_UNCORR, h, n, rfl⟩
theorem in_ETH_RX_OTHER {m : Nat} {n : Nat} (h : m.testBit 99 = true) : InSet m (R.ETH_RX_OTHER n) := ⟨.ETH_RX_OTHER, h, n, rfl⟩
theorem in_ETH_ICRC_ERR {m : Nat} {n : Nat} (h : m.testBit 100 = true) : InSet m (R.ETH_ICRC_ERR n) := ⟨.ETH_ICRC_ERR, h, n, rfl⟩
theorem in_ETH_MISS_LEVEL {m : Nat} {n : Nat} (h : m.testBit 101 = true) : InSet m (R.ETH_MISS_LEVEL n) := ⟨.ETH_MISS_LEVEL, h, n, rfl⟩
theorem in_ETH_MISS_HWM {m : Nat} {n : Nat} (h : m.testBit 102 = true) : InSet m (R.ETH_MISS_HWM n) := ⟨.ETH_MISS_HWM, h, n, rfl⟩
theorem in_ETH_RNR_SENT {m : Nat} {n : Nat} (h : m.testBit 103 = true) : InSet m (R.ETH_RNR_SENT n) := ⟨.ETH_RNR_SENT, h, n, rfl⟩
theorem in_ETH_GID {m : Nat} {n i : Nat} (h : m.testBit 104 = true) : InSet m (R.ETH_GID n i) := ⟨.ETH_GID, h, n, i, rfl⟩
theorem in_RMA_CMD {m : Nat} (h : m.testBit 105 = true) : InSet m (R.RMA_CMD) := ⟨.RMA_CMD, h, rfl⟩
theorem in_RMA_CMD_STATUS {m : Nat} (h : m.testBit 106 = true) : InSet m (R.RMA_CMD_STATUS) := ⟨.RMA_CMD_STATUS, h, rfl⟩
theorem in_RMA_RESULT {m : Nat} (h : m.testBit 107 = true) : InSet m (R.RMA_RESULT) := ⟨.RMA_RESULT, h, rfl⟩
theorem in_EVQ_BASE {m : Nat} (h : m.testBit 108 = true) : InSet m (R.EVQ_BASE) := ⟨.EVQ_BASE, h, .inl rfl⟩
theorem in_EVQ_BASE4 {m : Nat} (h : m.testBit 108 = true) : InSet m (R.EVQ_BASE + 4) := ⟨.EVQ_BASE, h, .inr rfl⟩
theorem in_EVQ_SIZE {m : Nat} (h : m.testBit 109 = true) : InSet m (R.EVQ_SIZE) := ⟨.EVQ_SIZE, h, rfl⟩
theorem in_EVQ_PROD {m : Nat} (h : m.testBit 110 = true) : InSet m (R.EVQ_PROD) := ⟨.EVQ_PROD, h, rfl⟩
theorem in_EVQ_CONS {m : Nat} (h : m.testBit 111 = true) : InSet m (R.EVQ_CONS) := ⟨.EVQ_CONS, h, rfl⟩
theorem in_EVQ_LOST {m : Nat} (h : m.testBit 112 = true) : InSet m (R.EVQ_LOST) := ⟨.EVQ_LOST, h, rfl⟩
theorem in_DUP_ACKED {m : Nat} (h : m.testBit 113 = true) : InSet m (R.DUP_ACKED) := ⟨.DUP_ACKED, h, rfl⟩
theorem in_SEQ_NAK {m : Nat} (h : m.testBit 114 = true) : InSet m (R.SEQ_NAK) := ⟨.SEQ_NAK, h, rfl⟩
theorem in_RMA_KEY_VIOLATION {m : Nat} (h : m.testBit 115 = true) : InSet m (R.RMA_KEY_VIOLATION) := ⟨.RMA_KEY_VIOLATION, h, rfl⟩
theorem in_GSI_BASE {m : Nat} (h : m.testBit 116 = true) : InSet m (R.GSI_BASE) := ⟨.GSI_BASE, h, .inl rfl⟩
theorem in_GSI_BASE4 {m : Nat} (h : m.testBit 116 = true) : InSet m (R.GSI_BASE + 4) := ⟨.GSI_BASE, h, .inr rfl⟩
theorem in_GSI_PROD {m : Nat} (h : m.testBit 117 = true) : InSet m (R.GSI_PROD) := ⟨.GSI_PROD, h, rfl⟩
theorem in_GSI_CONS {m : Nat} (h : m.testBit 118 = true) : InSet m (R.GSI_CONS) := ⟨.GSI_CONS, h, rfl⟩
theorem in_GSI_RX_DROP {m : Nat} (h : m.testBit 119 = true) : InSet m (R.GSI_RX_DROP) := ⟨.GSI_RX_DROP, h, rfl⟩
theorem in_GSI_TX_BASE {m : Nat} (h : m.testBit 120 = true) : InSet m (R.GSI_TX_BASE) := ⟨.GSI_TX_BASE, h, .inl rfl⟩
theorem in_GSI_TX_BASE4 {m : Nat} (h : m.testBit 120 = true) : InSet m (R.GSI_TX_BASE + 4) := ⟨.GSI_TX_BASE, h, .inr rfl⟩
theorem in_GSI_TX_PROD {m : Nat} (h : m.testBit 121 = true) : InSet m (R.GSI_TX_PROD) := ⟨.GSI_TX_PROD, h, rfl⟩
theorem in_GSI_TX_CONS {m : Nat} (h : m.testBit 122 = true) : InSet m (R.GSI_TX_CONS) := ⟨.GSI_TX_CONS, h, rfl⟩
theorem in_GSI_TX_BAD {m : Nat} (h : m.testBit 123 = true) : InSet m (R.GSI_TX_BAD) := ⟨.GSI_TX_BAD, h, rfl⟩
theorem in_RMA_ARG {m : Nat} {i : Nat} (h : m.testBit 124 = true) : InSet m (R.RMA_ARG i) := ⟨.RMA_ARG, h, i, rfl⟩
theorem in_CTX_FREE_NET {m : Nat} (h : m.testBit 125 = true) : InSet m (R.CTX_FREE_NET) := ⟨.CTX_FREE_NET, h, rfl⟩
theorem in_CTX_CACHED {m : Nat} (h : m.testBit 126 = true) : InSet m (R.CTX_CACHED) := ⟨.CTX_CACHED, h, rfl⟩
theorem in_CTX_HELD_PINNED {m : Nat} (h : m.testBit 127 = true) : InSet m (R.CTX_HELD_PINNED) := ⟨.CTX_HELD_PINNED, h, rfl⟩
theorem in_CTX_PIN_MAX {m : Nat} (h : m.testBit 128 = true) : InSet m (R.CTX_PIN_MAX) := ⟨.CTX_PIN_MAX, h, rfl⟩
theorem in_CTX_MISS_COUNT {m : Nat} (h : m.testBit 129 = true) : InSet m (R.CTX_MISS_COUNT) := ⟨.CTX_MISS_COUNT, h, rfl⟩
theorem in_CTX_EVICT_COUNT {m : Nat} (h : m.testBit 130 = true) : InSet m (R.CTX_EVICT_COUNT) := ⟨.CTX_EVICT_COUNT, h, rfl⟩
theorem in_CTX_FETCH_MAX {m : Nat} (h : m.testBit 131 = true) : InSet m (R.CTX_FETCH_MAX) := ⟨.CTX_FETCH_MAX, h, rfl⟩
theorem in_CTX_BAD_QPN {m : Nat} (h : m.testBit 132 = true) : InSet m (R.CTX_BAD_QPN) := ⟨.CTX_BAD_QPN, h, rfl⟩
theorem in_CTX_NAK_DISCARD {m : Nat} (h : m.testBit 133 = true) : InSet m (R.CTX_NAK_DISCARD) := ⟨.CTX_NAK_DISCARD, h, rfl⟩
theorem in_CTX_STORE_BASE {m : Nat} (h : m.testBit 134 = true) : InSet m (R.CTX_STORE_BASE) := ⟨.CTX_STORE_BASE, h, .inl rfl⟩
theorem in_CTX_STORE_BASE4 {m : Nat} (h : m.testBit 134 = true) : InSet m (R.CTX_STORE_BASE + 4) := ⟨.CTX_STORE_BASE, h, .inr rfl⟩
theorem in_ING_CMDS {m : Nat} (h : m.testBit 135 = true) : InSet m (R.ING_CMDS) := ⟨.ING_CMDS, h, rfl⟩
theorem in_ING_GRAINS {m : Nat} (h : m.testBit 136 = true) : InSet m (R.ING_GRAINS) := ⟨.ING_GRAINS, h, rfl⟩
theorem in_ING_PI_ERR {m : Nat} (h : m.testBit 137 = true) : InSet m (R.ING_PI_ERR) := ⟨.ING_PI_ERR, h, rfl⟩
theorem in_ING_LEN_ERR {m : Nat} (h : m.testBit 138 = true) : InSet m (R.ING_LEN_ERR) := ⟨.ING_LEN_ERR, h, rfl⟩
theorem in_ING_RANGE_ERR {m : Nat} (h : m.testBit 139 = true) : InSet m (R.ING_RANGE_ERR) := ⟨.ING_RANGE_ERR, h, rfl⟩
theorem in_ING_LOCKS {m : Nat} (h : m.testBit 140 = true) : InSet m (R.ING_LOCKS) := ⟨.ING_LOCKS, h, rfl⟩
theorem in_ING_LOCKS_HWM {m : Nat} (h : m.testBit 141 = true) : InSet m (R.ING_LOCKS_HWM) := ⟨.ING_LOCKS_HWM, h, rfl⟩
theorem in_ING_LOCK_WAITS {m : Nat} (h : m.testBit 142 = true) : InSet m (R.ING_LOCK_WAITS) := ⟨.ING_LOCK_WAITS, h, rfl⟩
theorem in_ING_BUSY_RETRY {m : Nat} (h : m.testBit 143 = true) : InSet m (R.ING_BUSY_RETRY) := ⟨.ING_BUSY_RETRY, h, rfl⟩
theorem in_ING_PARTIAL {m : Nat} (h : m.testBit 144 = true) : InSet m (R.ING_PARTIAL) := ⟨.ING_PARTIAL, h, rfl⟩
theorem in_CIST_BASE {m : Nat} (h : m.testBit 145 = true) : InSet m (R.CIST_BASE) := ⟨.CIST_BASE, h, .inl rfl⟩
theorem in_CIST_BASE4 {m : Nat} (h : m.testBit 145 = true) : InSet m (R.CIST_BASE + 4) := ⟨.CIST_BASE, h, .inr rfl⟩
theorem in_CIST_CFG {m : Nat} (h : m.testBit 146 = true) : InSet m (R.CIST_CFG) := ⟨.CIST_CFG, h, rfl⟩
theorem in_CIST_FN_SHARE {m : Nat} (h : m.testBit 147 = true) : InSet m (R.CIST_FN_SHARE) := ⟨.CIST_FN_SHARE, h, rfl⟩
theorem in_CIST_OWN_USED {m : Nat} (h : m.testBit 148 = true) : InSet m (R.CIST_OWN_USED) := ⟨.CIST_OWN_USED, h, rfl⟩
theorem in_CIST_MIRROR_USED {m : Nat} (h : m.testBit 149 = true) : InSet m (R.CIST_MIRROR_USED) := ⟨.CIST_MIRROR_USED, h, rfl⟩
theorem in_CIST_CTRL {m : Nat} (h : m.testBit 150 = true) : InSet m (R.CIST_CTRL) := ⟨.CIST_CTRL, h, rfl⟩
theorem in_CIST_STATUS {m : Nat} (h : m.testBit 151 = true) : InSet m (R.CIST_STATUS) := ⟨.CIST_STATUS, h, rfl⟩
theorem in_CIST_CSEQ {m : Nat} (h : m.testBit 152 = true) : InSet m (R.CIST_CSEQ) := ⟨.CIST_CSEQ, h, .inl rfl⟩
theorem in_CIST_CSEQ4 {m : Nat} (h : m.testBit 152 = true) : InSet m (R.CIST_CSEQ + 4) := ⟨.CIST_CSEQ, h, .inr rfl⟩
theorem in_CIST_ACK_MAX {m : Nat} (h : m.testBit 153 = true) : InSet m (R.CIST_ACK_MAX) := ⟨.CIST_ACK_MAX, h, rfl⟩
theorem in_CIST_FUA_MAX_WAIT {m : Nat} (h : m.testBit 154 = true) : InSet m (R.CIST_FUA_MAX_WAIT) := ⟨.CIST_FUA_MAX_WAIT, h, rfl⟩
theorem in_CIST_SPILL_BOUND {m : Nat} (h : m.testBit 155 = true) : InSet m (R.CIST_SPILL_BOUND) := ⟨.CIST_SPILL_BOUND, h, rfl⟩
theorem in_CIST_SPILL_LAST {m : Nat} (h : m.testBit 156 = true) : InSet m (R.CIST_SPILL_LAST) := ⟨.CIST_SPILL_LAST, h, rfl⟩
theorem in_CIST_RING_STALL {m : Nat} (h : m.testBit 157 = true) : InSet m (R.CIST_RING_STALL) := ⟨.CIST_RING_STALL, h, rfl⟩
theorem in_CIST_SPILL_DISCARD {m : Nat} (h : m.testBit 158 = true) : InSet m (R.CIST_SPILL_DISCARD) := ⟨.CIST_SPILL_DISCARD, h, rfl⟩
theorem in_CAM_CFG {m : Nat} {n : Nat} (h : m.testBit 159 = true) : InSet m (R.CAM_CFG n) := ⟨.CAM_CFG, h, n, rfl⟩
theorem in_CAM_VALID {m : Nat} {n : Nat} (h : m.testBit 160 = true) : InSet m (R.CAM_VALID n) := ⟨.CAM_VALID, h, n, rfl⟩
theorem in_CAM_PEND {m : Nat} {n : Nat} (h : m.testBit 161 = true) : InSet m (R.CAM_PEND n) := ⟨.CAM_PEND, h, n, rfl⟩
theorem in_CAM_OP {m : Nat} {n : Nat} (h : m.testBit 162 = true) : InSet m (R.CAM_OP n) := ⟨.CAM_OP, h, n, rfl⟩
theorem in_CAM_INDEX {m : Nat} {n : Nat} (h : m.testBit 163 = true) : InSet m (R.CAM_INDEX n) := ⟨.CAM_INDEX, h, n, rfl⟩
theorem in_CAM_OP_STATUS {m : Nat} {n : Nat} (h : m.testBit 164 = true) : InSet m (R.CAM_OP_STATUS n) := ⟨.CAM_OP_STATUS, h, n, rfl⟩
theorem in_CAM_ENTRY {m : Nat} {n : Nat} (h : m.testBit 165 = true) : InSet m (R.CAM_ENTRY n) := ⟨.CAM_ENTRY, h, n, rfl⟩
theorem in_CAM_KEY {m : Nat} {n i : Nat} (h : m.testBit 166 = true) : InSet m (R.CAM_KEY n i) := ⟨.CAM_KEY, h, n, i, rfl⟩
theorem in_CAM_RESULT {m : Nat} {n : Nat} (h : m.testBit 167 = true) : InSet m (R.CAM_RESULT n) := ⟨.CAM_RESULT, h, n, .inl rfl⟩
theorem in_CAM_RESULT4 {m : Nat} {n : Nat} (h : m.testBit 167 = true) : InSet m (R.CAM_RESULT n + 4) := ⟨.CAM_RESULT, h, n, .inr rfl⟩
theorem in_CAM_HIT_LOC {m : Nat} {n : Nat} (h : m.testBit 168 = true) : InSet m (R.CAM_HIT_LOC n) := ⟨.CAM_HIT_LOC, h, n, rfl⟩
theorem in_CAM_MATCH_COUNT {m : Nat} {n : Nat} (h : m.testBit 169 = true) : InSet m (R.CAM_MATCH_COUNT n) := ⟨.CAM_MATCH_COUNT, h, n, rfl⟩
theorem in_CAM_MV_SEL {m : Nat} {n : Nat} (h : m.testBit 170 = true) : InSet m (R.CAM_MV_SEL n) := ⟨.CAM_MV_SEL, h, n, rfl⟩
theorem in_CAM_MV_DATA {m : Nat} {n : Nat} (h : m.testBit 171 = true) : InSet m (R.CAM_MV_DATA n) := ⟨.CAM_MV_DATA, h, n, rfl⟩
theorem in_CAM_MS_START {m : Nat} {n : Nat} (h : m.testBit 172 = true) : InSet m (R.CAM_MS_START n) := ⟨.CAM_MS_START, h, n, rfl⟩
theorem in_CAM_MSR {m : Nat} {n i : Nat} (h : m.testBit 173 = true) : InSet m (R.CAM_MSR n i) := ⟨.CAM_MSR, h, n, i, rfl⟩
theorem in_CAM_SEARCHES {m : Nat} {n : Nat} (h : m.testBit 174 = true) : InSet m (R.CAM_SEARCHES n) := ⟨.CAM_SEARCHES, h, n, rfl⟩
theorem in_CAM_MULTI {m : Nat} {n : Nat} (h : m.testBit 175 = true) : InSet m (R.CAM_MULTI n) := ⟨.CAM_MULTI, h, n, rfl⟩
theorem in_CAM_PARITY_ERR {m : Nat} {n : Nat} (h : m.testBit 176 = true) : InSet m (R.CAM_PARITY_ERR n) := ⟨.CAM_PARITY_ERR, h, n, rfl⟩
theorem in_FLT_CTRL {m : Nat} {n : Nat} (h : m.testBit 177 = true) : InSet m (R.FLT_CTRL n) := ⟨.FLT_CTRL, h, n, rfl⟩
theorem in_FLT_MASK {m : Nat} {n : Nat} (h : m.testBit 178 = true) : InSet m (R.FLT_MASK n) := ⟨.FLT_MASK, h, n, rfl⟩
theorem in_FLT_DROPS {m : Nat} {n : Nat} (h : m.testBit 179 = true) : InSet m (R.FLT_DROPS n) := ⟨.FLT_DROPS, h, n, rfl⟩
theorem in_CAM_MASK {m : Nat} {n i : Nat} (h : m.testBit 180 = true) : InSet m (R.CAM_MASK n i) := ⟨.CAM_MASK, h, n, i, rfl⟩
theorem in_DG_GRAINS {m : Nat} (h : m.testBit 181 = true) : InSet m (R.DG_GRAINS) := ⟨.DG_GRAINS, h, rfl⟩
theorem in_DG_ZERO {m : Nat} (h : m.testBit 182 = true) : InSet m (R.DG_ZERO) := ⟨.DG_ZERO, h, rfl⟩
theorem in_DG_DISAGREE {m : Nat} (h : m.testBit 183 = true) : InSet m (R.DG_DISAGREE) := ⟨.DG_DISAGREE, h, rfl⟩
theorem in_DG_CAP {m : Nat} (h : m.testBit 184 = true) : InSet m (R.DG_CAP) := ⟨.DG_CAP, h, rfl⟩
theorem in_CP_RAW_DEFAULT {m : Nat} (h : m.testBit 185 = true) : InSet m (R.CP_RAW_DEFAULT) := ⟨.CP_RAW_DEFAULT, h, rfl⟩
theorem in_CP_IN_GRAINS {m : Nat} (h : m.testBit 186 = true) : InSet m (R.CP_IN_GRAINS) := ⟨.CP_IN_GRAINS, h, rfl⟩
theorem in_CP_OUT_GRANULES {m : Nat} (h : m.testBit 187 = true) : InSet m (R.CP_OUT_GRANULES) := ⟨.CP_OUT_GRANULES, h, rfl⟩
theorem in_CP_RAW {m : Nat} (h : m.testBit 188 = true) : InSet m (R.CP_RAW) := ⟨.CP_RAW, h, rfl⟩
theorem in_CP_DOWNGRADE {m : Nat} (h : m.testBit 189 = true) : InSet m (R.CP_DOWNGRADE) := ⟨.CP_DOWNGRADE, h, rfl⟩
theorem in_CP_DYNAMIC {m : Nat} (h : m.testBit 190 = true) : InSet m (R.CP_DYNAMIC) := ⟨.CP_DYNAMIC, h, rfl⟩
theorem in_CP_FLOOR {m : Nat} (h : m.testBit 191 = true) : InSet m (R.CP_FLOOR) := ⟨.CP_FLOOR, h, rfl⟩
theorem in_CP_POOL_CLK {m : Nat} (h : m.testBit 192 = true) : InSet m (R.CP_POOL_CLK) := ⟨.CP_POOL_CLK, h, rfl⟩
theorem in_DC_GRAINS {m : Nat} (h : m.testBit 193 = true) : InSet m (R.DC_GRAINS) := ⟨.DC_GRAINS, h, rfl⟩
theorem in_DC_DECODE_ERR {m : Nat} (h : m.testBit 194 = true) : InSet m (R.DC_DECODE_ERR) := ⟨.DC_DECODE_ERR, h, rfl⟩
theorem in_DC_UNITS {m : Nat} (h : m.testBit 195 = true) : InSet m (R.DC_UNITS) := ⟨.DC_UNITS, h, rfl⟩
theorem in_DD_CTRL {m : Nat} (h : m.testBit 196 = true) : InSet m (R.DD_CTRL) := ⟨.DD_CTRL, h, rfl⟩
theorem in_DD_TBL_BASE {m : Nat} (h : m.testBit 197 = true) : InSet m (R.DD_TBL_BASE) := ⟨.DD_TBL_BASE, h, .inl rfl⟩
theorem in_DD_TBL_BASE4 {m : Nat} (h : m.testBit 197 = true) : InSet m (R.DD_TBL_BASE + 4) := ⟨.DD_TBL_BASE, h, .inr rfl⟩
theorem in_DD_TBL_BITS {m : Nat} (h : m.testBit 198 = true) : InSet m (R.DD_TBL_BITS) := ⟨.DD_TBL_BITS, h, rfl⟩
theorem in_DD_REF_CAP {m : Nat} (h : m.testBit 199 = true) : InSet m (R.DD_REF_CAP) := ⟨.DD_REF_CAP, h, rfl⟩
theorem in_DD_HOT_PROMOTE {m : Nat} (h : m.testBit 200 = true) : InSet m (R.DD_HOT_PROMOTE) := ⟨.DD_HOT_PROMOTE, h, rfl⟩
theorem in_DD_VOL_SEL {m : Nat} (h : m.testBit 201 = true) : InSet m (R.DD_VOL_SEL) := ⟨.DD_VOL_SEL, h, rfl⟩
theorem in_DD_VOL_POLICY {m : Nat} {b : Nat} (h : m.testBit 202 = true) : InSet m (R.DD_VOL_POLICY b) := ⟨.DD_VOL_POLICY, h, b, rfl⟩
theorem in_DD_MERGE_RATE {m : Nat} (h : m.testBit 203 = true) : InSet m (R.DD_MERGE_RATE) := ⟨.DD_MERGE_RATE, h, rfl⟩
theorem in_DD_HOT_HITS {m : Nat} (h : m.testBit 204 = true) : InSet m (R.DD_HOT_HITS) := ⟨.DD_HOT_HITS, h, rfl⟩
theorem in_DD_DRAM_HITS {m : Nat} (h : m.testBit 205 = true) : InSet m (R.DD_DRAM_HITS) := ⟨.DD_DRAM_HITS, h, rfl⟩
theorem in_DD_TWIN_HITS {m : Nat} (h : m.testBit 206 = true) : InSet m (R.DD_TWIN_HITS) := ⟨.DD_TWIN_HITS, h, rfl⟩
theorem in_DD_LATE {m : Nat} (h : m.testBit 207 = true) : InSet m (R.DD_LATE) := ⟨.DD_LATE, h, rfl⟩
theorem in_DD_REFUSED {m : Nat} (h : m.testBit 208 = true) : InSet m (R.DD_REFUSED) := ⟨.DD_REFUSED, h, rfl⟩
theorem in_DD_MERGED {m : Nat} (h : m.testBit 209 = true) : InSet m (R.DD_MERGED) := ⟨.DD_MERGED, h, rfl⟩
theorem in_DD_VERIFY_MISMATCH {m : Nat} (h : m.testBit 210 = true) : InSet m (R.DD_VERIFY_MISMATCH) := ⟨.DD_VERIFY_MISMATCH, h, rfl⟩
theorem in_DD_BUCKET_EVICT {m : Nat} (h : m.testBit 211 = true) : InSet m (R.DD_BUCKET_EVICT) := ⟨.DD_BUCKET_EVICT, h, rfl⟩
theorem in_DD_MERGE_BACKLOG {m : Nat} (h : m.testBit 212 = true) : InSet m (R.DD_MERGE_BACKLOG) := ⟨.DD_MERGE_BACKLOG, h, rfl⟩
theorem in_RD_CTRL {m : Nat} (h : m.testBit 213 = true) : InSet m (R.RD_CTRL) := ⟨.RD_CTRL, h, rfl⟩
theorem in_RD_RA_THRESH {m : Nat} (h : m.testBit 214 = true) : InSet m (R.RD_RA_THRESH) := ⟨.RD_RA_THRESH, h, rfl⟩
theorem in_RD_RA_MAX {m : Nat} (h : m.testBit 215 = true) : InSet m (R.RD_RA_MAX) := ⟨.RD_RA_MAX, h, rfl⟩
theorem in_RD_SUSP_MAX {m : Nat} (h : m.testBit 216 = true) : InSet m (R.RD_SUSP_MAX) := ⟨.RD_SUSP_MAX, h, rfl⟩
theorem in_RD_TR_MAX {m : Nat} (h : m.testBit 217 = true) : InSet m (R.RD_TR_MAX) := ⟨.RD_TR_MAX, h, rfl⟩
theorem in_RD_FLASH_BOUND {m : Nat} (h : m.testBit 218 = true) : InSet m (R.RD_FLASH_BOUND) := ⟨.RD_FLASH_BOUND, h, rfl⟩
theorem in_RD_BASIN_FREE {m : Nat} (h : m.testBit 219 = true) : InSet m (R.RD_BASIN_FREE) := ⟨.RD_BASIN_FREE, h, rfl⟩
theorem in_RD_GRAINS {m : Nat} (h : m.testBit 220 = true) : InSet m (R.RD_GRAINS) := ⟨.RD_GRAINS, h, rfl⟩
theorem in_RD_CISTERN_HITS {m : Nat} (h : m.testBit 221 = true) : InSet m (R.RD_CISTERN_HITS) := ⟨.RD_CISTERN_HITS, h, rfl⟩
theorem in_RD_READAROUND {m : Nat} (h : m.testBit 222 = true) : InSet m (R.RD_READAROUND) := ⟨.RD_READAROUND, h, rfl⟩
theorem in_RD_SUSPENDS {m : Nat} (h : m.testBit 223 = true) : InSet m (R.RD_SUSPENDS) := ⟨.RD_SUSPENDS, h, rfl⟩
theorem in_RD_DECODE_RETRY {m : Nat} (h : m.testBit 224 = true) : InSet m (R.RD_DECODE_RETRY) := ⟨.RD_DECODE_RETRY, h, rfl⟩
theorem in_RD_REPAIRS {m : Nat} (h : m.testBit 225 = true) : InSet m (R.RD_REPAIRS) := ⟨.RD_REPAIRS, h, rfl⟩
theorem in_RD_UNRECOVERED {m : Nat} (h : m.testBit 226 = true) : InSet m (R.RD_UNRECOVERED) := ⟨.RD_UNRECOVERED, h, rfl⟩
theorem in_RD_BOUND_MISS {m : Nat} (h : m.testBit 227 = true) : InSet m (R.RD_BOUND_MISS) := ⟨.RD_BOUND_MISS, h, rfl⟩
theorem in_RD_LAT_MAX {m : Nat} (h : m.testBit 228 = true) : InSet m (R.RD_LAT_MAX) := ⟨.RD_LAT_MAX, h, rfl⟩
theorem in_RD_BASIN_WAITS {m : Nat} (h : m.testBit 229 = true) : InSet m (R.RD_BASIN_WAITS) := ⟨.RD_BASIN_WAITS, h, rfl⟩
theorem in_MLK_CTRL {m : Nat} {n : Nat} (h : m.testBit 230 = true) : InSet m (R.MLK_CTRL n) := ⟨.MLK_CTRL, h, n, rfl⟩
theorem in_MLK_STATUS {m : Nat} {n : Nat} (h : m.testBit 231 = true) : InSet m (R.MLK_STATUS n) := ⟨.MLK_STATUS, h, n, rfl⟩
theorem in_MLK_FORCE_SWAP {m : Nat} {n : Nat} (h : m.testBit 232 = true) : InSet m (R.MLK_FORCE_SWAP n) := ⟨.MLK_FORCE_SWAP, h, n, rfl⟩
theorem in_MLK_LANE_LIMIT {m : Nat} {n : Nat} (h : m.testBit 233 = true) : InSet m (R.MLK_LANE_LIMIT n) := ⟨.MLK_LANE_LIMIT, h, n, rfl⟩
theorem in_MLK_MOD_EPOCH0 {m : Nat} {n : Nat} (h : m.testBit 234 = true) : InSet m (R.MLK_MOD_EPOCH0 n) := ⟨.MLK_MOD_EPOCH0, h, n, rfl⟩
theorem in_MLK_MOD_EPOCH1 {m : Nat} {n : Nat} (h : m.testBit 235 = true) : InSet m (R.MLK_MOD_EPOCH1 n) := ⟨.MLK_MOD_EPOCH1, h, n, rfl⟩
theorem in_MLK_FLITS_TX {m : Nat} {n : Nat} (h : m.testBit 236 = true) : InSet m (R.MLK_FLITS_TX n) := ⟨.MLK_FLITS_TX, h, n, rfl⟩
theorem in_MLK_FLITS_RX {m : Nat} {n : Nat} (h : m.testBit 237 = true) : InSet m (R.MLK_FLITS_RX n) := ⟨.MLK_FLITS_RX, h, n, rfl⟩
theorem in_MLK_CRC_ERR {m : Nat} {n : Nat} (h : m.testBit 238 = true) : InSet m (R.MLK_CRC_ERR n) := ⟨.MLK_CRC_ERR, h, n, rfl⟩
theorem in_MLK_REPLAYS {m : Nat} {n : Nat} (h : m.testBit 239 = true) : InSet m (R.MLK_REPLAYS n) := ⟨.MLK_REPLAYS, h, n, rfl⟩
theorem in_MLK_RETRAINS {m : Nat} {n : Nat} (h : m.testBit 240 = true) : InSet m (R.MLK_RETRAINS n) := ⟨.MLK_RETRAINS, h, n, rfl⟩
theorem in_MLK_STALE {m : Nat} {n : Nat} (h : m.testBit 241 = true) : InSet m (R.MLK_STALE n) := ⟨.MLK_STALE, h, n, rfl⟩
theorem in_MLK_LANE_ERR {m : Nat} {n i : Nat} (h : m.testBit 242 = true) : InSet m (R.MLK_LANE_ERR n i) := ⟨.MLK_LANE_ERR, h, n, i, rfl⟩
theorem in_MLK_CREDIT {m : Nat} {n : Nat} (h : m.testBit 243 = true) : InSet m (R.MLK_CREDIT n) := ⟨.MLK_CREDIT, h, n, rfl⟩
theorem in_MLK_TAGS {m : Nat} {n : Nat} (h : m.testBit 244 = true) : InSet m (R.MLK_TAGS n) := ⟨.MLK_TAGS, h, n, rfl⟩
theorem in_MLK_IDENT {m : Nat} {n i : Nat} (h : m.testBit 245 = true) : InSet m (R.MLK_IDENT n i) := ⟨.MLK_IDENT, h, n, i, rfl⟩
theorem in_MLK_TELEM {m : Nat} {n i : Nat} (h : m.testBit 246 = true) : InSet m (R.MLK_TELEM n i) := ⟨.MLK_TELEM, h, n, i, rfl⟩
theorem in_FTL_POOL_SEL {m : Nat} (h : m.testBit 247 = true) : InSet m (R.FTL_POOL_SEL) := ⟨.FTL_POOL_SEL, h, rfl⟩
theorem in_FTL_POOL_STATE {m : Nat} {b : Nat} (h : m.testBit 248 = true) : InSet m (R.FTL_POOL_STATE b) := ⟨.FTL_POOL_STATE, h, b, rfl⟩
theorem in_FTL_CAP {m : Nat} {b : Nat} (h : m.testBit 249 = true) : InSet m (R.FTL_CAP b) := ⟨.FTL_CAP, h, b, .inl rfl⟩
theorem in_FTL_CAP4 {m : Nat} {b : Nat} (h : m.testBit 249 = true) : InSet m (R.FTL_CAP b + 4) := ⟨.FTL_CAP, h, b, .inr rfl⟩
theorem in_FTL_FREE {m : Nat} {b : Nat} (h : m.testBit 250 = true) : InSet m (R.FTL_FREE b) := ⟨.FTL_FREE, h, b, .inl rfl⟩
theorem in_FTL_FREE4 {m : Nat} {b : Nat} (h : m.testBit 250 = true) : InSet m (R.FTL_FREE b + 4) := ⟨.FTL_FREE, h, b, .inr rfl⟩
theorem in_FTL_LIVE {m : Nat} {b : Nat} (h : m.testBit 251 = true) : InSet m (R.FTL_LIVE b) := ⟨.FTL_LIVE, h, b, .inl rfl⟩
theorem in_FTL_LIVE4 {m : Nat} {b : Nat} (h : m.testBit 251 = true) : InSet m (R.FTL_LIVE b + 4) := ⟨.FTL_LIVE, h, b, .inr rfl⟩
theorem in_FTL_LOW_PM {m : Nat} {b : Nat} (h : m.testBit 252 = true) : InSet m (R.FTL_LOW_PM b) := ⟨.FTL_LOW_PM, h, b, rfl⟩
theorem in_FTL_GC_THRESH {m : Nat} {b : Nat} (h : m.testBit 253 = true) : InSet m (R.FTL_GC_THRESH b) := ⟨.FTL_GC_THRESH, h, b, rfl⟩
theorem in_FTL_GC_AGE_BASE {m : Nat} {b : Nat} (h : m.testBit 254 = true) : InSet m (R.FTL_GC_AGE_BASE b) := ⟨.FTL_GC_AGE_BASE, h, b, rfl⟩
theorem in_FTL_GC_RATE {m : Nat} {b : Nat} (h : m.testBit 255 = true) : InSet m (R.FTL_GC_RATE b) := ⟨.FTL_GC_RATE, h, b, rfl⟩
theorem in_FTL_SEG_FREE {m : Nat} {b : Nat} (h : m.testBit 256 = true) : InSet m (R.FTL_SEG_FREE b) := ⟨.FTL_SEG_FREE, h, b, rfl⟩
theorem in_FTL_SEG_TOTAL {m : Nat} {b : Nat} (h : m.testBit 257 = true) : InSet m (R.FTL_SEG_TOTAL b) := ⟨.FTL_SEG_TOTAL, h, b, rfl⟩
theorem in_FTL_RECLAIMED {m : Nat} {b : Nat} (h : m.testBit 258 = true) : InSet m (R.FTL_RECLAIMED b) := ⟨.FTL_RECLAIMED, h, b, rfl⟩
theorem in_FTL_COPIED {m : Nat} {b : Nat} (h : m.testBit 259 = true) : InSet m (R.FTL_COPIED b) := ⟨.FTL_COPIED, h, b, rfl⟩
theorem in_FTL_TSEQ_DUR {m : Nat} {b : Nat} (h : m.testBit 260 = true) : InSet m (R.FTL_TSEQ_DUR b) := ⟨.FTL_TSEQ_DUR, h, b, .inl rfl⟩
theorem in_FTL_TSEQ_DUR4 {m : Nat} {b : Nat} (h : m.testBit 260 = true) : InSet m (R.FTL_TSEQ_DUR b + 4) := ⟨.FTL_TSEQ_DUR, h, b, .inr rfl⟩
theorem in_FTL_JRNL_WAIT {m : Nat} (h : m.testBit 261 = true) : InSet m (R.FTL_JRNL_WAIT) := ⟨.FTL_JRNL_WAIT, h, rfl⟩
theorem in_FTL_CKPT_INT {m : Nat} (h : m.testBit 262 = true) : InSet m (R.FTL_CKPT_INT) := ⟨.FTL_CKPT_INT, h, rfl⟩
theorem in_FTL_ORPHANS {m : Nat} {b : Nat} (h : m.testBit 263 = true) : InSet m (R.FTL_ORPHANS b) := ⟨.FTL_ORPHANS, h, b, rfl⟩
theorem in_FTL_MAP_DIRTY {m : Nat} {b : Nat} (h : m.testBit 264 = true) : InSet m (R.FTL_MAP_DIRTY b) := ⟨.FTL_MAP_DIRTY, h, b, rfl⟩
theorem in_FTL_BACKREF_BACKLOG {m : Nat} {b : Nat} (h : m.testBit 265 = true) : InSet m (R.FTL_BACKREF_BACKLOG b) := ⟨.FTL_BACKREF_BACKLOG, h, b, rfl⟩
theorem in_FTL_SNAP_COUNT {m : Nat} (h : m.testBit 266 = true) : InSet m (R.FTL_SNAP_COUNT) := ⟨.FTL_SNAP_COUNT, h, rfl⟩
theorem in_FTL_CMD {m : Nat} (h : m.testBit 267 = true) : InSet m (R.FTL_CMD) := ⟨.FTL_CMD, h, rfl⟩
theorem in_FTL_CMD_STATUS {m : Nat} (h : m.testBit 268 = true) : InSet m (R.FTL_CMD_STATUS) := ⟨.FTL_CMD_STATUS, h, rfl⟩
theorem in_FTL_RESULT {m : Nat} (h : m.testBit 269 = true) : InSet m (R.FTL_RESULT) := ⟨.FTL_RESULT, h, rfl⟩
theorem in_FTL_ARG {m : Nat} {i : Nat} (h : m.testBit 270 = true) : InSet m (R.FTL_ARG i) := ⟨.FTL_ARG, h, i, rfl⟩
theorem in_LD_CW {m : Nat} (h : m.testBit 271 = true) : InSet m (R.LD_CW) := ⟨.LD_CW, h, rfl⟩
theorem in_LD_FIRST_FAIL {m : Nat} (h : m.testBit 272 = true) : InSet m (R.LD_FIRST_FAIL) := ⟨.LD_FIRST_FAIL, h, rfl⟩
theorem in_LD_CORR_BITS {m : Nat} (h : m.testBit 273 = true) : InSet m (R.LD_CORR_BITS) := ⟨.LD_CORR_BITS, h, rfl⟩
theorem in_LD_UNITS {m : Nat} (h : m.testBit 274 = true) : InSet m (R.LD_UNITS) := ⟨.LD_UNITS, h, rfl⟩
theorem in_LD_CAL_CTRL {m : Nat} (h : m.testBit 275 = true) : InSet m (R.LD_CAL_CTRL) := ⟨.LD_CAL_CTRL, h, rfl⟩
theorem in_CAL_MIN_ERR {m : Nat} (h : m.testBit 276 = true) : InSet m (R.CAL_MIN_ERR) := ⟨.CAL_MIN_ERR, h, rfl⟩
theorem in_CAL_HYST {m : Nat} (h : m.testBit 277 = true) : InSet m (R.CAL_HYST) := ⟨.CAL_HYST, h, rfl⟩
theorem in_CAL_INTERVAL {m : Nat} (h : m.testBit 278 = true) : InSet m (R.CAL_INTERVAL) := ⟨.CAL_INTERVAL, h, rfl⟩
theorem in_CAL_STALE_INT {m : Nat} (h : m.testBit 279 = true) : InSet m (R.CAL_STALE_INT) := ⟨.CAL_STALE_INT, h, rfl⟩
theorem in_CAL_SEL {m : Nat} (h : m.testBit 280 = true) : InSet m (R.CAL_SEL) := ⟨.CAL_SEL, h, rfl⟩
theorem in_CAL_OFFS {m : Nat} (h : m.testBit 281 = true) : InSet m (R.CAL_OFFS) := ⟨.CAL_OFFS, h, .inl rfl⟩
theorem in_CAL_OFFS4 {m : Nat} (h : m.testBit 281 = true) : InSet m (R.CAL_OFFS + 4) := ⟨.CAL_OFFS, h, .inr rfl⟩
theorem in_CAL_UPDATES {m : Nat} (h : m.testBit 282 = true) : InSet m (R.CAL_UPDATES) := ⟨.CAL_UPDATES, h, rfl⟩
theorem in_CAL_CLAMPS {m : Nat} (h : m.testBit 283 = true) : InSet m (R.CAL_CLAMPS) := ⟨.CAL_CLAMPS, h, rfl⟩
theorem in_LD_CAL_STALE {m : Nat} (h : m.testBit 284 = true) : InSet m (R.LD_CAL_STALE) := ⟨.LD_CAL_STALE, h, rfl⟩
theorem in_PAT_CTRL {m : Nat} (h : m.testBit 285 = true) : InSet m (R.PAT_CTRL) := ⟨.PAT_CTRL, h, rfl⟩
theorem in_PAT_PERIOD {m : Nat} (h : m.testBit 286 = true) : InSet m (R.PAT_PERIOD) := ⟨.PAT_PERIOD, h, rfl⟩
theorem in_PAT_COVER_MIN {m : Nat} (h : m.testBit 287 = true) : InSet m (R.PAT_COVER_MIN) := ⟨.PAT_COVER_MIN, h, rfl⟩
theorem in_PAT_BER_OK {m : Nat} (h : m.testBit 288 = true) : InSet m (R.PAT_BER_OK) := ⟨.PAT_BER_OK, h, rfl⟩
theorem in_PAT_MAX_RATE {m : Nat} (h : m.testBit 289 = true) : InSet m (R.PAT_MAX_RATE) := ⟨.PAT_MAX_RATE, h, rfl⟩
theorem in_PAT_PASS_START {m : Nat} (h : m.testBit 290 = true) : InSet m (R.PAT_PASS_START) := ⟨.PAT_PASS_START, h, .inl rfl⟩
theorem in_PAT_PASS_START4 {m : Nat} (h : m.testBit 290 = true) : InSet m (R.PAT_PASS_START + 4) := ⟨.PAT_PASS_START, h, .inr rfl⟩
theorem in_PAT_PROGRESS {m : Nat} (h : m.testBit 291 = true) : InSet m (R.PAT_PROGRESS) := ⟨.PAT_PROGRESS, h, rfl⟩
theorem in_PAT_SKIPPED {m : Nat} (h : m.testBit 292 = true) : InSet m (R.PAT_SKIPPED) := ⟨.PAT_SKIPPED, h, rfl⟩
theorem in_PAT_READS {m : Nat} (h : m.testBit 293 = true) : InSet m (R.PAT_READS) := ⟨.PAT_READS, h, rfl⟩
theorem in_PAT_REFRESH {m : Nat} (h : m.testBit 294 = true) : InSet m (R.PAT_REFRESH) := ⟨.PAT_REFRESH, h, rfl⟩
theorem in_PAT_LATE {m : Nat} (h : m.testBit 295 = true) : InSet m (R.PAT_LATE) := ⟨.PAT_LATE, h, rfl⟩
theorem in_HL_SEL {m : Nat} (h : m.testBit 296 = true) : InSet m (R.HL_SEL) := ⟨.HL_SEL, h, rfl⟩
theorem in_HL_RD_LIMIT {m : Nat} (h : m.testBit 297 = true) : InSet m (R.HL_RD_LIMIT) := ⟨.HL_RD_LIMIT, h, rfl⟩
theorem in_HL_RET_LIMIT {m : Nat} (h : m.testBit 298 = true) : InSet m (R.HL_RET_LIMIT) := ⟨.HL_RET_LIMIT, h, rfl⟩
theorem in_HL_CORR_REFRESH {m : Nat} (h : m.testBit 299 = true) : InSet m (R.HL_CORR_REFRESH) := ⟨.HL_CORR_REFRESH, h, rfl⟩
theorem in_HL_XTEMP {m : Nat} (h : m.testBit 300 = true) : InSet m (R.HL_XTEMP) := ⟨.HL_XTEMP, h, rfl⟩
theorem in_HL_DIE_FAIL_LIMIT {m : Nat} (h : m.testBit 301 = true) : InSet m (R.HL_DIE_FAIL_LIMIT) := ⟨.HL_DIE_FAIL_LIMIT, h, rfl⟩
theorem in_HL_SPARE_WARN {m : Nat} (h : m.testBit 302 = true) : InSet m (R.HL_SPARE_WARN) := ⟨.HL_SPARE_WARN, h, rfl⟩
theorem in_HL_REFRESH_PEND {m : Nat} (h : m.testBit 303 = true) : InSet m (R.HL_REFRESH_PEND) := ⟨.HL_REFRESH_PEND, h, rfl⟩
theorem in_HL_SUSPECT {m : Nat} (h : m.testBit 304 = true) : InSet m (R.HL_SUSPECT) := ⟨.HL_SUSPECT, h, rfl⟩
theorem in_HL_REC {m : Nat} {i : Nat} (h : m.testBit 305 = true) : InSet m (R.HL_REC i) := ⟨.HL_REC, h, i, rfl⟩
theorem in_WR_POOL_SEL {m : Nat} (h : m.testBit 306 = true) : InSet m (R.WR_POOL_SEL) := ⟨.WR_POOL_SEL, h, rfl⟩
theorem in_WR_CTRL {m : Nat} {b : Nat} (h : m.testBit 307 = true) : InSet m (R.WR_CTRL b) := ⟨.WR_CTRL, h, b, rfl⟩
theorem in_WR_END {m : Nat} {b : Nat} (h : m.testBit 308 = true) : InSet m (R.WR_END b) := ⟨.WR_END, h, b, .inl rfl⟩
theorem in_WR_END4 {m : Nat} {b : Nat} (h : m.testBit 308 = true) : InSet m (R.WR_END b + 4) := ⟨.WR_END, h, b, .inr rfl⟩
theorem in_WR_MARGIN {m : Nat} {b : Nat} (h : m.testBit 309 = true) : InSet m (R.WR_MARGIN b) := ⟨.WR_MARGIN, h, b, rfl⟩
theorem in_WR_PACE_MIN {m : Nat} {b : Nat} (h : m.testBit 310 = true) : InSet m (R.WR_PACE_MIN b) := ⟨.WR_PACE_MIN, h, b, rfl⟩
theorem in_WR_GC_UMAX {m : Nat} {b : Nat} (h : m.testBit 311 = true) : InSet m (R.WR_GC_UMAX b) := ⟨.WR_GC_UMAX, h, b, rfl⟩
theorem in_WR_BUDGET {m : Nat} {b : Nat} (h : m.testBit 312 = true) : InSet m (R.WR_BUDGET b) := ⟨.WR_BUDGET, h, b, rfl⟩
theorem in_WR_E24 {m : Nat} {b : Nat} (h : m.testBit 313 = true) : InSet m (R.WR_E24 b) := ⟨.WR_E24, h, b, rfl⟩
theorem in_WR_RATIO {m : Nat} {b : Nat} (h : m.testBit 314 = true) : InSet m (R.WR_RATIO b) := ⟨.WR_RATIO, h, b, rfl⟩
theorem in_WR_STATE {m : Nat} {b : Nat} (h : m.testBit 315 = true) : InSet m (R.WR_STATE b) := ⟨.WR_STATE, h, b, rfl⟩
theorem in_WR_DAYS {m : Nat} {b : Nat} (h : m.testBit 316 = true) : InSet m (R.WR_DAYS b) := ⟨.WR_DAYS, h, b, rfl⟩
theorem in_WR_REM {m : Nat} {b : Nat} (h : m.testBit 317 = true) : InSet m (R.WR_REM b) := ⟨.WR_REM, h, b, .inl rfl⟩
theorem in_WR_REM4 {m : Nat} {b : Nat} (h : m.testBit 317 = true) : InSet m (R.WR_REM b + 4) := ⟨.WR_REM, h, b, .inr rfl⟩
theorem in_SP_POOL_SEL {m : Nat} (h : m.testBit 318 = true) : InSet m (R.SP_POOL_SEL) := ⟨.SP_POOL_SEL, h, rfl⟩
theorem in_SP_LAYOUT {m : Nat} {b : Nat} (h : m.testBit 319 = true) : InSet m (R.SP_LAYOUT b) := ⟨.SP_LAYOUT, h, b, rfl⟩
theorem in_SP_MODULES {m : Nat} {b : Nat} (h : m.testBit 320 = true) : InSet m (R.SP_MODULES b) := ⟨.SP_MODULES, h, b, rfl⟩
theorem in_SP_STATE {m : Nat} {b : Nat} (h : m.testBit 321 = true) : InSet m (R.SP_STATE b) := ⟨.SP_STATE, h, b, rfl⟩
theorem in_SP_FAILED {m : Nat} {b : Nat} (h : m.testBit 322 = true) : InSet m (R.SP_FAILED b) := ⟨.SP_FAILED, h, b, rfl⟩
theorem in_SP_SUBST {m : Nat} {b i : Nat} (h : m.testBit 323 = true) : InSet m (R.SP_SUBST b i) := ⟨.SP_SUBST, h, b, i, rfl⟩
theorem in_SP_REB_RATE {m : Nat} (h : m.testBit 324 = true) : InSet m (R.SP_REB_RATE) := ⟨.SP_REB_RATE, h, rfl⟩
theorem in_SP_REB_GRACE {m : Nat} (h : m.testBit 325 = true) : InSet m (R.SP_REB_GRACE) := ⟨.SP_REB_GRACE, h, rfl⟩
theorem in_SP_REB_HOLDOFF {m : Nat} (h : m.testBit 326 = true) : InSet m (R.SP_REB_HOLDOFF) := ⟨.SP_REB_HOLDOFF, h, rfl⟩
theorem in_SP_REB_LEFT {m : Nat} {b : Nat} (h : m.testBit 327 = true) : InSet m (R.SP_REB_LEFT b) := ⟨.SP_REB_LEFT, h, b, .inl rfl⟩
theorem in_SP_REB_LEFT4 {m : Nat} {b : Nat} (h : m.testBit 327 = true) : InSet m (R.SP_REB_LEFT b + 4) := ⟨.SP_REB_LEFT, h, b, .inr rfl⟩
theorem in_SP_RESHAPE_RATE {m : Nat} (h : m.testBit 328 = true) : InSet m (R.SP_RESHAPE_RATE) := ⟨.SP_RESHAPE_RATE, h, rfl⟩
theorem in_SP_RESHAPE_LEFT {m : Nat} {b : Nat} (h : m.testBit 329 = true) : InSet m (R.SP_RESHAPE_LEFT b) := ⟨.SP_RESHAPE_LEFT, h, b, rfl⟩
theorem in_SP_SWITCH_SEQ {m : Nat} {b : Nat} (h : m.testBit 330 = true) : InSet m (R.SP_SWITCH_SEQ b) := ⟨.SP_SWITCH_SEQ, h, b, .inl rfl⟩
theorem in_SP_SWITCH_SEQ4 {m : Nat} {b : Nat} (h : m.testBit 330 = true) : InSet m (R.SP_SWITCH_SEQ b + 4) := ⟨.SP_SWITCH_SEQ, h, b, .inr rfl⟩
theorem in_SP_JBAND {m : Nat} {b : Nat} (h : m.testBit 331 = true) : InSet m (R.SP_JBAND b) := ⟨.SP_JBAND, h, b, rfl⟩
theorem in_SP_LOSS_COUNT {m : Nat} {b : Nat} (h : m.testBit 332 = true) : InSet m (R.SP_LOSS_COUNT b) := ⟨.SP_LOSS_COUNT, h, b, rfl⟩
theorem in_SP_LOSS_OVERFLOW {m : Nat} {b : Nat} (h : m.testBit 333 = true) : InSet m (R.SP_LOSS_OVERFLOW b) := ⟨.SP_LOSS_OVERFLOW, h, b, rfl⟩
theorem in_SP_LOSS_SEL {m : Nat} (h : m.testBit 334 = true) : InSet m (R.SP_LOSS_SEL) := ⟨.SP_LOSS_SEL, h, rfl⟩
theorem in_SP_STRIPES_WR {m : Nat} {b : Nat} (h : m.testBit 335 = true) : InSet m (R.SP_STRIPES_WR b) := ⟨.SP_STRIPES_WR, h, b, rfl⟩
theorem in_SP_RECON {m : Nat} {b : Nat} (h : m.testBit 336 = true) : InSet m (R.SP_RECON b) := ⟨.SP_RECON, h, b, rfl⟩
theorem in_SP_Q_RETRY {m : Nat} {b : Nat} (h : m.testBit 337 = true) : InSet m (R.SP_Q_RETRY b) := ⟨.SP_Q_RETRY, h, b, rfl⟩
theorem in_SP_CMD {m : Nat} (h : m.testBit 338 = true) : InSet m (R.SP_CMD) := ⟨.SP_CMD, h, rfl⟩
theorem in_SP_CMD_STATUS {m : Nat} (h : m.testBit 339 = true) : InSet m (R.SP_CMD_STATUS) := ⟨.SP_CMD_STATUS, h, rfl⟩
theorem in_SP_ARG {m : Nat} {i : Nat} (h : m.testBit 340 = true) : InSet m (R.SP_ARG i) := ⟨.SP_ARG, h, i, rfl⟩
theorem in_SP_LOSS_DATA {m : Nat} {i : Nat} (h : m.testBit 341 = true) : InSet m (R.SP_LOSS_DATA i) := ⟨.SP_LOSS_DATA, h, i, rfl⟩
theorem in_TL_CTRL {m : Nat} (h : m.testBit 342 = true) : InSet m (R.TL_CTRL) := ⟨.TL_CTRL, h, rfl⟩
theorem in_TL_STATUS {m : Nat} (h : m.testBit 343 = true) : InSet m (R.TL_STATUS) := ⟨.TL_STATUS, h, rfl⟩
theorem in_TL_FORCE_SWAP {m : Nat} (h : m.testBit 344 = true) : InSet m (R.TL_FORCE_SWAP) := ⟨.TL_FORCE_SWAP, h, rfl⟩
theorem in_TL_LANE_LIMIT {m : Nat} (h : m.testBit 345 = true) : InSet m (R.TL_LANE_LIMIT) := ⟨.TL_LANE_LIMIT, h, rfl⟩
theorem in_TL_FLITS_TX {m : Nat} (h : m.testBit 346 = true) : InSet m (R.TL_FLITS_TX) := ⟨.TL_FLITS_TX, h, rfl⟩
theorem in_TL_FLITS_RX {m : Nat} (h : m.testBit 347 = true) : InSet m (R.TL_FLITS_RX) := ⟨.TL_FLITS_RX, h, rfl⟩
theorem in_TL_CRC_ERR {m : Nat} (h : m.testBit 348 = true) : InSet m (R.TL_CRC_ERR) := ⟨.TL_CRC_ERR, h, rfl⟩
theorem in_TL_REPLAYS {m : Nat} (h : m.testBit 349 = true) : InSet m (R.TL_REPLAYS) := ⟨.TL_REPLAYS, h, rfl⟩
theorem in_TL_RETRAINS {m : Nat} (h : m.testBit 350 = true) : InSet m (R.TL_RETRAINS) := ⟨.TL_RETRAINS, h, rfl⟩
theorem in_TL_FWD_SENT {m : Nat} (h : m.testBit 351 = true) : InSet m (R.TL_FWD_SENT) := ⟨.TL_FWD_SENT, h, rfl⟩
theorem in_TL_FWD_RCVD {m : Nat} (h : m.testBit 352 = true) : InSet m (R.TL_FWD_RCVD) := ⟨.TL_FWD_RCVD, h, rfl⟩
theorem in_TL_LANE_ERR {m : Nat} {i : Nat} (h : m.testBit 353 = true) : InSet m (R.TL_LANE_ERR i) := ⟨.TL_LANE_ERR, h, i, rfl⟩
theorem in_TL_PARTNER {m : Nat} (h : m.testBit 354 = true) : InSet m (R.TL_PARTNER) := ⟨.TL_PARTNER, h, rfl⟩
theorem in_RN_CTRL {m : Nat} (h : m.testBit 355 = true) : InSet m (R.RN_CTRL) := ⟨.RN_CTRL, h, rfl⟩
theorem in_RN_KEY {m : Nat} (h : m.testBit 356 = true) : InSet m (R.RN_KEY) := ⟨.RN_KEY, h, rfl⟩
theorem in_RN_STATUS {m : Nat} (h : m.testBit 357 = true) : InSet m (R.RN_STATUS) := ⟨.RN_STATUS, h, rfl⟩
theorem in_RN_A_MISS {m : Nat} (h : m.testBit 358 = true) : InSet m (R.RN_A_MISS) := ⟨.RN_A_MISS, h, rfl⟩
theorem in_RN_B_MISS {m : Nat} (h : m.testBit 359 = true) : InSet m (R.RN_B_MISS) := ⟨.RN_B_MISS, h, rfl⟩
theorem in_RN_AUTH_FAIL {m : Nat} (h : m.testBit 360 = true) : InSet m (R.RN_AUTH_FAIL) := ⟨.RN_AUTH_FAIL, h, rfl⟩
theorem in_RN_LAST_A {m : Nat} (h : m.testBit 361 = true) : InSet m (R.RN_LAST_A) := ⟨.RN_LAST_A, h, .inl rfl⟩
theorem in_RN_LAST_A4 {m : Nat} (h : m.testBit 361 = true) : InSet m (R.RN_LAST_A + 4) := ⟨.RN_LAST_A, h, .inr rfl⟩
theorem in_RN_LAST_B {m : Nat} (h : m.testBit 362 = true) : InSet m (R.RN_LAST_B) := ⟨.RN_LAST_B, h, .inl rfl⟩
theorem in_RN_LAST_B4 {m : Nat} (h : m.testBit 362 = true) : InSet m (R.RN_LAST_B + 4) := ⟨.RN_LAST_B, h, .inr rfl⟩
theorem in_RN_B_LINK {m : Nat} (h : m.testBit 363 = true) : InSet m (R.RN_B_LINK) := ⟨.RN_B_LINK, h, rfl⟩
theorem in_TD_STATE {m : Nat} (h : m.testBit 364 = true) : InSet m (R.TD_STATE) := ⟨.TD_STATE, h, rfl⟩
theorem in_TD_CMD {m : Nat} (h : m.testBit 365 = true) : InSet m (R.TD_CMD) := ⟨.TD_CMD, h, rfl⟩
theorem in_TD_CMD_STATUS {m : Nat} (h : m.testBit 366 = true) : InSet m (R.TD_CMD_STATUS) := ⟨.TD_CMD_STATUS, h, rfl⟩
theorem in_TD_HOLD_MAX {m : Nat} (h : m.testBit 367 = true) : InSet m (R.TD_HOLD_MAX) := ⟨.TD_HOLD_MAX, h, rfl⟩
theorem in_TD_JOIN_WAIT {m : Nat} (h : m.testBit 368 = true) : InSet m (R.TD_JOIN_WAIT) := ⟨.TD_JOIN_WAIT, h, rfl⟩
theorem in_TD_ARB {m : Nat} (h : m.testBit 369 = true) : InSet m (R.TD_ARB) := ⟨.TD_ARB, h, rfl⟩
theorem in_TD_LOST_AT {m : Nat} (h : m.testBit 370 = true) : InSet m (R.TD_LOST_AT) := ⟨.TD_LOST_AT, h, .inl rfl⟩
theorem in_TD_LOST_AT4 {m : Nat} (h : m.testBit 370 = true) : InSet m (R.TD_LOST_AT + 4) := ⟨.TD_LOST_AT, h, .inr rfl⟩
theorem in_TD_TAKEOVERS {m : Nat} (h : m.testBit 371 = true) : InSet m (R.TD_TAKEOVERS) := ⟨.TD_TAKEOVERS, h, rfl⟩
theorem in_TD_TWINS {m : Nat} (h : m.testBit 372 = true) : InSet m (R.TD_TWINS) := ⟨.TD_TWINS, h, rfl⟩
theorem in_TD_TCPL_SENT {m : Nat} (h : m.testBit 373 = true) : InSet m (R.TD_TCPL_SENT) := ⟨.TD_TCPL_SENT, h, rfl⟩
theorem in_TD_ARG {m : Nat} {i : Nat} (h : m.testBit 374 = true) : InSet m (R.TD_ARG i) := ⟨.TD_ARG, h, i, rfl⟩
theorem in_RP_GROUP_SEL {m : Nat} (h : m.testBit 375 = true) : InSet m (R.RP_GROUP_SEL) := ⟨.RP_GROUP_SEL, h, rfl⟩
theorem in_RP_CFG {m : Nat} {b : Nat} (h : m.testBit 376 = true) : InSet m (R.RP_CFG b) := ⟨.RP_CFG, h, b, rfl⟩
theorem in_RP_BATCH {m : Nat} {b : Nat} (h : m.testBit 377 = true) : InSet m (R.RP_BATCH b) := ⟨.RP_BATCH, h, b, rfl⟩
theorem in_RP_SYNC_TMO {m : Nat} {b : Nat} (h : m.testBit 378 = true) : InSet m (R.RP_SYNC_TMO b) := ⟨.RP_SYNC_TMO, h, b, rfl⟩
theorem in_RP_QP {m : Nat} {b : Nat} (h : m.testBit 379 = true) : InSet m (R.RP_QP b) := ⟨.RP_QP, h, b, rfl⟩
theorem in_RP_STATE {m : Nat} {b : Nat} (h : m.testBit 380 = true) : InSet m (R.RP_STATE b) := ⟨.RP_STATE, h, b, rfl⟩
theorem in_RP_LAST_STAGED {m : Nat} {b : Nat} (h : m.testBit 381 = true) : InSet m (R.RP_LAST_STAGED b) := ⟨.RP_LAST_STAGED, h, b, .inl rfl⟩
theorem in_RP_LAST_STAGED4 {m : Nat} {b : Nat} (h : m.testBit 381 = true) : InSet m (R.RP_LAST_STAGED b + 4) := ⟨.RP_LAST_STAGED, h, b, .inr rfl⟩
theorem in_RP_LAST_APPLIED {m : Nat} {b : Nat} (h : m.testBit 382 = true) : InSet m (R.RP_LAST_APPLIED b) := ⟨.RP_LAST_APPLIED, h, b, .inl rfl⟩
theorem in_RP_LAST_APPLIED4 {m : Nat} {b : Nat} (h : m.testBit 382 = true) : InSet m (R.RP_LAST_APPLIED b + 4) := ⟨.RP_LAST_APPLIED, h, b, .inr rfl⟩
theorem in_RP_LAG {m : Nat} {b : Nat} (h : m.testBit 383 = true) : InSet m (R.RP_LAG b) := ⟨.RP_LAG, h, b, rfl⟩
theorem in_RP_RECS_TX {m : Nat} {b : Nat} (h : m.testBit 384 = true) : InSet m (R.RP_RECS_TX b) := ⟨.RP_RECS_TX, h, b, rfl⟩
theorem in_RP_DUP_DISCARD {m : Nat} {b : Nat} (h : m.testBit 385 = true) : InSet m (R.RP_DUP_DISCARD b) := ⟨.RP_DUP_DISCARD, h, b, rfl⟩
theorem in_RP_CMD {m : Nat} (h : m.testBit 386 = true) : InSet m (R.RP_CMD) := ⟨.RP_CMD, h, rfl⟩
theorem in_RP_CMD_STATUS {m : Nat} (h : m.testBit 387 = true) : InSet m (R.RP_CMD_STATUS) := ⟨.RP_CMD_STATUS, h, rfl⟩
theorem in_RP_ARG {m : Nat} {i : Nat} (h : m.testBit 388 = true) : InSet m (R.RP_ARG i) := ⟨.RP_ARG, h, i, rfl⟩
theorem in_DC_CFG {m : Nat} {n : Nat} (h : m.testBit 389 = true) : InSet m (R.DC_CFG n) := ⟨.DC_CFG, h, n, rfl⟩
theorem in_DC_CTRL {m : Nat} {n : Nat} (h : m.testBit 390 = true) : InSet m (R.DC_CTRL n) := ⟨.DC_CTRL, h, n, rfl⟩
theorem in_DC_FREQ_CMD {m : Nat} {n : Nat} (h : m.testBit 391 = true) : InSet m (R.DC_FREQ_CMD n) := ⟨.DC_FREQ_CMD, h, n, rfl⟩
theorem in_DC_STATUS {m : Nat} {n : Nat} (h : m.testBit 392 = true) : InSet m (R.DC_STATUS n) := ⟨.DC_STATUS, h, n, rfl⟩
theorem in_DC_TSEL {m : Nat} {n : Nat} (h : m.testBit 393 = true) : InSet m (R.DC_TSEL n) := ⟨.DC_TSEL, h, n, rfl⟩
theorem in_DC_TIM {m : Nat} {b n i : Nat} (h : m.testBit 394 = true) : InSet m (R.DC_TIM b n i) := ⟨.DC_TIM, h, b, n, i, rfl⟩
theorem in_DC_PNR {m : Nat} {n : Nat} (h : m.testBit 395 = true) : InSet m (R.DC_PNR n) := ⟨.DC_PNR, h, n, rfl⟩
theorem in_DC_SCRUB {m : Nat} {n : Nat} (h : m.testBit 396 = true) : InSet m (R.DC_SCRUB n) := ⟨.DC_SCRUB, h, n, rfl⟩
theorem in_DC_SCRUB_PROGRESS {m : Nat} {n : Nat} (h : m.testBit 397 = true) : InSet m (R.DC_SCRUB_PROGRESS n) := ⟨.DC_SCRUB_PROGRESS, h, n, rfl⟩
theorem in_DC_SPARE_THRESH {m : Nat} {n : Nat} (h : m.testBit 398 = true) : InSet m (R.DC_SPARE_THRESH n) := ⟨.DC_SPARE_THRESH, h, n, rfl⟩
theorem in_DC_SPARE_RATE {m : Nat} {n : Nat} (h : m.testBit 399 = true) : InSet m (R.DC_SPARE_RATE n) := ⟨.DC_SPARE_RATE, h, n, rfl⟩
theorem in_DC_DRIFT {m : Nat} {n : Nat} (h : m.testBit 400 = true) : InSet m (R.DC_DRIFT n) := ⟨.DC_DRIFT, h, n, rfl⟩
theorem in_DC_CE_COUNT {m : Nat} {n : Nat} (h : m.testBit 401 = true) : InSet m (R.DC_CE_COUNT n) := ⟨.DC_CE_COUNT, h, n, rfl⟩
theorem in_DC_UE_COUNT {m : Nat} {n : Nat} (h : m.testBit 402 = true) : InSet m (R.DC_UE_COUNT n) := ⟨.DC_UE_COUNT, h, n, rfl⟩
theorem in_DC_CE_LAST {m : Nat} {n : Nat} (h : m.testBit 403 = true) : InSet m (R.DC_CE_LAST n) := ⟨.DC_CE_LAST, h, n, rfl⟩
theorem in_DC_CE_ADDR {m : Nat} {n : Nat} (h : m.testBit 404 = true) : InSet m (R.DC_CE_ADDR n) := ⟨.DC_CE_ADDR, h, n, .inl rfl⟩
theorem in_DC_CE_ADDR4 {m : Nat} {n : Nat} (h : m.testBit 404 = true) : InSet m (R.DC_CE_ADDR n + 4) := ⟨.DC_CE_ADDR, h, n, .inr rfl⟩
theorem in_DC_DRFM {m : Nat} {n : Nat} (h : m.testBit 405 = true) : InSet m (R.DC_DRFM n) := ⟨.DC_DRFM, h, n, rfl⟩
theorem in_DC_PPR {m : Nat} {n : Nat} (h : m.testBit 406 = true) : InSet m (R.DC_PPR n) := ⟨.DC_PPR, h, n, rfl⟩
theorem in_DC_LAT_MAX {m : Nat} {n : Nat} (h : m.testBit 407 = true) : InSet m (R.DC_LAT_MAX n) := ⟨.DC_LAT_MAX, h, n, rfl⟩
theorem in_DC_DRIFT_STEPS {m : Nat} {n : Nat} (h : m.testBit 408 = true) : InSet m (R.DC_DRIFT_STEPS n) := ⟨.DC_DRIFT_STEPS, h, n, rfl⟩
theorem in_DC_UTIL {m : Nat} {n : Nat} (h : m.testBit 409 = true) : InSet m (R.DC_UTIL n) := ⟨.DC_UTIL, h, n, rfl⟩
theorem in_DC_PORT {m : Nat} {n i : Nat} (h : m.testBit 410 = true) : InSet m (R.DC_PORT n i) := ⟨.DC_PORT, h, n, i, rfl⟩
theorem in_MC_CFG {m : Nat} (h : m.testBit 411 = true) : InSet m (R.MC_CFG) := ⟨.MC_CFG, h, rfl⟩
theorem in_MC_HITS {m : Nat} (h : m.testBit 412 = true) : InSet m (R.MC_HITS) := ⟨.MC_HITS, h, rfl⟩
theorem in_MC_MISSES {m : Nat} (h : m.testBit 413 = true) : InSet m (R.MC_MISSES) := ⟨.MC_MISSES, h, rfl⟩
theorem in_MC_MERGES {m : Nat} (h : m.testBit 414 = true) : InSet m (R.MC_MERGES) := ⟨.MC_MERGES, h, rfl⟩
theorem in_MC_SECTOR_FILLS {m : Nat} (h : m.testBit 415 = true) : InSet m (R.MC_SECTOR_FILLS) := ⟨.MC_SECTOR_FILLS, h, rfl⟩
theorem in_MC_EVICT_DIRTY {m : Nat} (h : m.testBit 416 = true) : InSet m (R.MC_EVICT_DIRTY) := ⟨.MC_EVICT_DIRTY, h, rfl⟩
theorem in_MC_MSR_INUSE {m : Nat} (h : m.testBit 417 = true) : InSet m (R.MC_MSR_INUSE) := ⟨.MC_MSR_INUSE, h, rfl⟩
theorem in_MC_MSR_FULL {m : Nat} (h : m.testBit 418 = true) : InSet m (R.MC_MSR_FULL) := ⟨.MC_MSR_FULL, h, rfl⟩
theorem in_MC_EVICT_WAITS {m : Nat} (h : m.testBit 419 = true) : InSet m (R.MC_EVICT_WAITS) := ⟨.MC_EVICT_WAITS, h, rfl⟩
theorem in_MC_OP {m : Nat} (h : m.testBit 420 = true) : InSet m (R.MC_OP) := ⟨.MC_OP, h, rfl⟩
theorem in_MC_OP_ADDR {m : Nat} (h : m.testBit 421 = true) : InSet m (R.MC_OP_ADDR) := ⟨.MC_OP_ADDR, h, .inl rfl⟩
theorem in_MC_OP_ADDR4 {m : Nat} (h : m.testBit 421 = true) : InSet m (R.MC_OP_ADDR + 4) := ⟨.MC_OP_ADDR, h, .inr rfl⟩
theorem in_MC_OP_LINES {m : Nat} (h : m.testBit 422 = true) : InSet m (R.MC_OP_LINES) := ⟨.MC_OP_LINES, h, rfl⟩
theorem in_MC_OP_STATUS {m : Nat} (h : m.testBit 423 = true) : InSet m (R.MC_OP_STATUS) := ⟨.MC_OP_STATUS, h, rfl⟩
theorem in_MC_DIRTY {m : Nat} (h : m.testBit 424 = true) : InSet m (R.MC_DIRTY) := ⟨.MC_DIRTY, h, rfl⟩
theorem in_MC_SRAM_CE {m : Nat} (h : m.testBit 425 = true) : InSet m (R.MC_SRAM_CE) := ⟨.MC_SRAM_CE, h, rfl⟩
theorem in_MC_REBUILDS {m : Nat} (h : m.testBit 426 = true) : InSet m (R.MC_REBUILDS) := ⟨.MC_REBUILDS, h, rfl⟩
theorem in_KDE_CLAIM {m : Nat} (h : m.testBit 427 = true) : InSet m (R.KDE_CLAIM) := ⟨.KDE_CLAIM, h, rfl⟩
theorem in_KDE_OWNER {m : Nat} (h : m.testBit 428 = true) : InSet m (R.KDE_OWNER) := ⟨.KDE_OWNER, h, rfl⟩
theorem in_KDE_CTRL {m : Nat} (h : m.testBit 429 = true) : InSet m (R.KDE_CTRL) := ⟨.KDE_CTRL, h, rfl⟩
theorem in_KDE_MODE {m : Nat} (h : m.testBit 430 = true) : InSet m (R.KDE_MODE) := ⟨.KDE_MODE, h, rfl⟩
theorem in_KDE_STATUS {m : Nat} (h : m.testBit 431 = true) : InSet m (R.KDE_STATUS) := ⟨.KDE_STATUS, h, rfl⟩
theorem in_KDE_DATA {m : Nat} (h : m.testBit 432 = true) : InSet m (R.KDE_DATA) := ⟨.KDE_DATA, h, rfl⟩
theorem in_KDE_TAIL {m : Nat} (h : m.testBit 433 = true) : InSet m (R.KDE_TAIL) := ⟨.KDE_TAIL, h, rfl⟩
theorem in_KDE_LEN {m : Nat} (h : m.testBit 434 = true) : InSet m (R.KDE_LEN) := ⟨.KDE_LEN, h, .inl rfl⟩
theorem in_KDE_LEN4 {m : Nat} (h : m.testBit 434 = true) : InSet m (R.KDE_LEN + 4) := ⟨.KDE_LEN, h, .inr rfl⟩
theorem in_KDE_RESULT {m : Nat} (h : m.testBit 435 = true) : InSet m (R.KDE_RESULT) := ⟨.KDE_RESULT, h, rfl⟩
theorem in_KDE_CMP_COMPAT {m : Nat} (h : m.testBit 436 = true) : InSet m (R.KDE_CMP_COMPAT) := ⟨.KDE_CMP_COMPAT, h, rfl⟩
theorem in_KDE_CTX_CMD {m : Nat} (h : m.testBit 437 = true) : InSet m (R.KDE_CTX_CMD) := ⟨.KDE_CTX_CMD, h, rfl⟩
theorem in_KDE_CTX_STATUS {m : Nat} (h : m.testBit 438 = true) : InSet m (R.KDE_CTX_STATUS) := ⟨.KDE_CTX_STATUS, h, rfl⟩
theorem in_KDE_CTX_OWNER {m : Nat} (h : m.testBit 439 = true) : InSet m (R.KDE_CTX_OWNER) := ⟨.KDE_CTX_OWNER, h, rfl⟩
theorem in_KDE_IDLE_MAX {m : Nat} (h : m.testBit 440 = true) : InSet m (R.KDE_IDLE_MAX) := ⟨.KDE_IDLE_MAX, h, rfl⟩
theorem in_KDE_SESSIONS {m : Nat} (h : m.testBit 441 = true) : InSet m (R.KDE_SESSIONS) := ⟨.KDE_SESSIONS, h, rfl⟩
theorem in_KDE_DIGEST {m : Nat} {i : Nat} (h : m.testBit 442 = true) : InSet m (R.KDE_DIGEST i) := ⟨.KDE_DIGEST, h, i, rfl⟩
theorem in_KDE_EXPECT {m : Nat} {i : Nat} (h : m.testBit 443 = true) : InSet m (R.KDE_EXPECT i) := ⟨.KDE_EXPECT, h, i, rfl⟩
theorem in_KS_SEL {m : Nat} (h : m.testBit 444 = true) : InSet m (R.KS_SEL) := ⟨.KS_SEL, h, rfl⟩
theorem in_KS_CMD {m : Nat} (h : m.testBit 445 = true) : InSet m (R.KS_CMD) := ⟨.KS_CMD, h, rfl⟩
theorem in_KS_CMD_STATUS {m : Nat} (h : m.testBit 446 = true) : InSet m (R.KS_CMD_STATUS) := ⟨.KS_CMD_STATUS, h, rfl⟩
theorem in_KS_LEN {m : Nat} (h : m.testBit 447 = true) : InSet m (R.KS_LEN) := ⟨.KS_LEN, h, rfl⟩
theorem in_KS_USE_ARG {m : Nat} (h : m.testBit 448 = true) : InSet m (R.KS_USE_ARG) := ⟨.KS_USE_ARG, h, rfl⟩
theorem in_KS_STATE {m : Nat} (h : m.testBit 449 = true) : InSet m (R.KS_STATE) := ⟨.KS_STATE, h, rfl⟩
theorem in_KS_KCV {m : Nat} (h : m.testBit 450 = true) : InSet m (R.KS_KCV) := ⟨.KS_KCV, h, rfl⟩
theorem in_KS_VALID_MAP {m : Nat} (h : m.testBit 451 = true) : InSet m (R.KS_VALID_MAP) := ⟨.KS_VALID_MAP, h, .inl rfl⟩
theorem in_KS_VALID_MAP4 {m : Nat} (h : m.testBit 451 = true) : InSet m (R.KS_VALID_MAP + 4) := ⟨.KS_VALID_MAP, h, .inr rfl⟩
theorem in_KS_LOCK_MAP {m : Nat} (h : m.testBit 452 = true) : InSet m (R.KS_LOCK_MAP) := ⟨.KS_LOCK_MAP, h, .inl rfl⟩
theorem in_KS_LOCK_MAP4 {m : Nat} (h : m.testBit 452 = true) : InSet m (R.KS_LOCK_MAP + 4) := ⟨.KS_LOCK_MAP, h, .inr rfl⟩
theorem in_KS_GLOBAL {m : Nat} (h : m.testBit 453 = true) : InSet m (R.KS_GLOBAL) := ⟨.KS_GLOBAL, h, rfl⟩
theorem in_KS_DATA {m : Nat} {i : Nat} (h : m.testBit 454 = true) : InSet m (R.KS_DATA i) := ⟨.KS_DATA, h, i, rfl⟩
theorem in_GD_LADDER {m : Nat} (h : m.testBit 455 = true) : InSet m (R.GD_LADDER) := ⟨.GD_LADDER, h, rfl⟩
theorem in_GD_Q_SEL {m : Nat} (h : m.testBit 456 = true) : InSet m (R.GD_Q_SEL) := ⟨.GD_Q_SEL, h, rfl⟩
theorem in_GD_Q_ENTRY0 {m : Nat} {b : Nat} (h : m.testBit 457 = true) : InSet m (R.GD_Q_ENTRY0 b) := ⟨.GD_Q_ENTRY0, h, b, rfl⟩
theorem in_GD_Q_ENTRY1 {m : Nat} {b : Nat} (h : m.testBit 458 = true) : InSet m (R.GD_Q_ENTRY1 b) := ⟨.GD_Q_ENTRY1, h, b, rfl⟩
theorem in_GD_Q_STRIDE {m : Nat} {b : Nat} (h : m.testBit 459 = true) : InSet m (R.GD_Q_STRIDE b) := ⟨.GD_Q_STRIDE, h, b, .inl rfl⟩
theorem in_GD_Q_STRIDE4 {m : Nat} {b : Nat} (h : m.testBit 459 = true) : InSet m (R.GD_Q_STRIDE b + 4) := ⟨.GD_Q_STRIDE, h, b, .inr rfl⟩
theorem in_GD_OVERFLOW {m : Nat} (h : m.testBit 460 = true) : InSet m (R.GD_OVERFLOW) := ⟨.GD_OVERFLOW, h, rfl⟩
theorem in_GD_ESCALATIONS {m : Nat} (h : m.testBit 461 = true) : InSet m (R.GD_ESCALATIONS) := ⟨.GD_ESCALATIONS, h, rfl⟩
theorem in_GD_LEVEL_COUNT {m : Nat} {i : Nat} (h : m.testBit 462 = true) : InSet m (R.GD_LEVEL_COUNT i) := ⟨.GD_LEVEL_COUNT, h, i, rfl⟩
theorem in_GD_DIAG_BASE {m : Nat} (h : m.testBit 463 = true) : InSet m (R.GD_DIAG_BASE) := ⟨.GD_DIAG_BASE, h, .inl rfl⟩
theorem in_GD_DIAG_BASE4 {m : Nat} (h : m.testBit 463 = true) : InSet m (R.GD_DIAG_BASE + 4) := ⟨.GD_DIAG_BASE, h, .inr rfl⟩
theorem in_GD_DIAG_SIZE {m : Nat} (h : m.testBit 464 = true) : InSet m (R.GD_DIAG_SIZE) := ⟨.GD_DIAG_SIZE, h, rfl⟩
theorem in_GD_DIAG_PROD {m : Nat} (h : m.testBit 465 = true) : InSet m (R.GD_DIAG_PROD) := ⟨.GD_DIAG_PROD, h, rfl⟩
theorem in_GD_DIAG_CONS {m : Nat} (h : m.testBit 466 = true) : InSet m (R.GD_DIAG_CONS) := ⟨.GD_DIAG_CONS, h, rfl⟩
theorem in_GD_DIAG_LOST {m : Nat} (h : m.testBit 467 = true) : InSet m (R.GD_DIAG_LOST) := ⟨.GD_DIAG_LOST, h, rfl⟩
theorem in_GD_DIAG_CTRL {m : Nat} (h : m.testBit 468 = true) : InSet m (R.GD_DIAG_CTRL) := ⟨.GD_DIAG_CTRL, h, rfl⟩
theorem in_GD_ACT_SEL {m : Nat} (h : m.testBit 469 = true) : InSet m (R.GD_ACT_SEL) := ⟨.GD_ACT_SEL, h, rfl⟩
theorem in_GD_ACT_RUN {m : Nat} {b : Nat} (h : m.testBit 470 = true) : InSet m (R.GD_ACT_RUN b) := ⟨.GD_ACT_RUN, h, b, rfl⟩
theorem in_GD_LAST_DECISION {m : Nat} (h : m.testBit 471 = true) : InSet m (R.GD_LAST_DECISION) := ⟨.GD_LAST_DECISION, h, rfl⟩
theorem in_GD_ACT_QLEN {m : Nat} (h : m.testBit 472 = true) : InSet m (R.GD_ACT_QLEN) := ⟨.GD_ACT_QLEN, h, rfl⟩
theorem in_GD_ACT_CANCEL {m : Nat} (h : m.testBit 473 = true) : InSet m (R.GD_ACT_CANCEL) := ⟨.GD_ACT_CANCEL, h, rfl⟩
theorem in_GD_MX {m : Nat} {i : Nat} (h : m.testBit 474 = true) : InSet m (R.GD_MX i) := ⟨.GD_MX, h, i, rfl⟩
theorem in_STB_CTRL {m : Nat} (h : m.testBit 475 = true) : InSet m (R.STB_CTRL) := ⟨.STB_CTRL, h, rfl⟩
theorem in_STB_STATUS {m : Nat} (h : m.testBit 476 = true) : InSet m (R.STB_STATUS) := ⟨.STB_STATUS, h, rfl⟩
theorem in_STB_END {m : Nat} (h : m.testBit 477 = true) : InSet m (R.STB_END) := ⟨.STB_END, h, .inl rfl⟩
theorem in_STB_END4 {m : Nat} (h : m.testBit 477 = true) : InSet m (R.STB_END + 4) := ⟨.STB_END, h, .inr rfl⟩
theorem in_STB_FLUSHED {m : Nat} (h : m.testBit 478 = true) : InSet m (R.STB_FLUSHED) := ⟨.STB_FLUSHED, h, .inl rfl⟩
theorem in_STB_FLUSHED4 {m : Nat} (h : m.testBit 478 = true) : InSet m (R.STB_FLUSHED + 4) := ⟨.STB_FLUSHED, h, .inr rfl⟩
theorem in_STB_LAST_SEQ {m : Nat} (h : m.testBit 479 = true) : InSet m (R.STB_LAST_SEQ) := ⟨.STB_LAST_SEQ, h, rfl⟩
theorem in_STB_FILL_PM {m : Nat} (h : m.testBit 480 = true) : InSet m (R.STB_FILL_PM) := ⟨.STB_FILL_PM, h, rfl⟩
theorem in_STB_DROPPED {m : Nat} (h : m.testBit 481 = true) : InSet m (R.STB_DROPPED) := ⟨.STB_DROPPED, h, rfl⟩
theorem in_STB_RD_OFF {m : Nat} (h : m.testBit 482 = true) : InSet m (R.STB_RD_OFF) := ⟨.STB_RD_OFF, h, .inl rfl⟩
theorem in_STB_RD_OFF4 {m : Nat} (h : m.testBit 482 = true) : InSet m (R.STB_RD_OFF + 4) := ⟨.STB_RD_OFF, h, .inr rfl⟩
theorem in_STB_RD_STATUS {m : Nat} (h : m.testBit 483 = true) : InSet m (R.STB_RD_STATUS) := ⟨.STB_RD_STATUS, h, rfl⟩
theorem in_STB_APP_CMD {m : Nat} (h : m.testBit 484 = true) : InSet m (R.STB_APP_CMD) := ⟨.STB_APP_CMD, h, rfl⟩
theorem in_STB_APP_STATUS {m : Nat} (h : m.testBit 485 = true) : InSet m (R.STB_APP_STATUS) := ⟨.STB_APP_STATUS, h, rfl⟩
theorem in_STB_APP_DATA {m : Nat} {i : Nat} (h : m.testBit 486 = true) : InSet m (R.STB_APP_DATA i) := ⟨.STB_APP_DATA, h, i, rfl⟩
theorem in_STB_RD_WIN {m : Nat} {i : Nat} (h : m.testBit 487 = true) : InSet m (R.STB_RD_WIN i) := ⟨.STB_RD_WIN, h, i, rfl⟩
theorem in_TK_STATUS {m : Nat} (h : m.testBit 488 = true) : InSet m (R.TK_STATUS) := ⟨.TK_STATUS, h, rfl⟩
theorem in_TK_SEQ {m : Nat} (h : m.testBit 489 = true) : InSet m (R.TK_SEQ) := ⟨.TK_SEQ, h, rfl⟩
theorem in_TK_SKIPPED {m : Nat} (h : m.testBit 490 = true) : InSet m (R.TK_SKIPPED) := ⟨.TK_SKIPPED, h, rfl⟩
theorem in_TK_CTRL {m : Nat} (h : m.testBit 491 = true) : InSet m (R.TK_CTRL) := ⟨.TK_CTRL, h, rfl⟩
theorem in_TK_HOST {m : Nat} (h : m.testBit 492 = true) : InSet m (R.TK_HOST) := ⟨.TK_HOST, h, .inl rfl⟩
theorem in_TK_HOST4 {m : Nat} (h : m.testBit 492 = true) : InSet m (R.TK_HOST + 4) := ⟨.TK_HOST, h, .inr rfl⟩
theorem in_TK_CMD {m : Nat} (h : m.testBit 493 = true) : InSet m (R.TK_CMD) := ⟨.TK_CMD, h, rfl⟩
theorem in_TK_CMD_STATUS {m : Nat} (h : m.testBit 494 = true) : InSet m (R.TK_CMD_STATUS) := ⟨.TK_CMD_STATUS, h, rfl⟩
theorem in_TK_INVALID {m : Nat} (h : m.testBit 495 = true) : InSet m (R.TK_INVALID) := ⟨.TK_INVALID, h, rfl⟩
theorem in_RM_CTRL {m : Nat} (h : m.testBit 496 = true) : InSet m (R.RM_CTRL) := ⟨.RM_CTRL, h, rfl⟩
theorem in_RM_INV_SEL {m : Nat} (h : m.testBit 497 = true) : InSet m (R.RM_INV_SEL) := ⟨.RM_INV_SEL, h, rfl⟩
theorem in_RM_INV {m : Nat} {b : Nat} (h : m.testBit 498 = true) : InSet m (R.RM_INV b) := ⟨.RM_INV, h, b, rfl⟩
theorem in_RM_STATUS {m : Nat} (h : m.testBit 499 = true) : InSet m (R.RM_STATUS) := ⟨.RM_STATUS, h, rfl⟩
theorem in_RM_CANDIDATES {m : Nat} (h : m.testBit 500 = true) : InSet m (R.RM_CANDIDATES) := ⟨.RM_CANDIDATES, h, rfl⟩
theorem in_RM_CMD {m : Nat} (h : m.testBit 501 = true) : InSet m (R.RM_CMD) := ⟨.RM_CMD, h, rfl⟩
theorem in_RM_CMD_STATUS {m : Nat} (h : m.testBit 502 = true) : InSet m (R.RM_CMD_STATUS) := ⟨.RM_CMD_STATUS, h, rfl⟩
theorem in_RM_COUNT {m : Nat} (h : m.testBit 503 = true) : InSet m (R.RM_COUNT) := ⟨.RM_COUNT, h, rfl⟩
theorem in_RM_SRAM_ROWS {m : Nat} (h : m.testBit 504 = true) : InSet m (R.RM_SRAM_ROWS) := ⟨.RM_SRAM_ROWS, h, rfl⟩
theorem in_SVC_CTRL {m : Nat} (h : m.testBit 505 = true) : InSet m (R.SVC_CTRL) := ⟨.SVC_CTRL, h, rfl⟩
theorem in_SVC_STATUS {m : Nat} (h : m.testBit 506 = true) : InSet m (R.SVC_STATUS) := ⟨.SVC_STATUS, h, rfl⟩
theorem in_SVC_MAC {m : Nat} (h : m.testBit 507 = true) : InSet m (R.SVC_MAC) := ⟨.SVC_MAC, h, .inl rfl⟩
theorem in_SVC_MAC4 {m : Nat} (h : m.testBit 507 = true) : InSet m (R.SVC_MAC + 4) := ⟨.SVC_MAC, h, .inr rfl⟩
theorem in_SVC_IPV4 {m : Nat} (h : m.testBit 508 = true) : InSet m (R.SVC_IPV4) := ⟨.SVC_IPV4, h, rfl⟩
theorem in_SVC_IPV4_MASK {m : Nat} (h : m.testBit 509 = true) : InSet m (R.SVC_IPV4_MASK) := ⟨.SVC_IPV4_MASK, h, rfl⟩
theorem in_SVC_IPV4_GW {m : Nat} (h : m.testBit 510 = true) : InSet m (R.SVC_IPV4_GW) := ⟨.SVC_IPV4_GW, h, rfl⟩
theorem in_SVC_IPV6 {m : Nat} {i : Nat} (h : m.testBit 511 = true) : InSet m (R.SVC_IPV6 i) := ⟨.SVC_IPV6, h, i, rfl⟩
theorem in_SVC_IDLE {m : Nat} (h : m.testBit 512 = true) : InSet m (R.SVC_IDLE) := ⟨.SVC_IDLE, h, rfl⟩
theorem in_SVC_MAINT_MAP {m : Nat} (h : m.testBit 513 = true) : InSet m (R.SVC_MAINT_MAP) := ⟨.SVC_MAINT_MAP, h, .inl rfl⟩
theorem in_SVC_MAINT_MAP4 {m : Nat} (h : m.testBit 513 = true) : InSet m (R.SVC_MAINT_MAP + 4) := ⟨.SVC_MAINT_MAP, h, .inr rfl⟩
theorem in_SVC_AUTH_FAIL {m : Nat} (h : m.testBit 514 = true) : InSet m (R.SVC_AUTH_FAIL) := ⟨.SVC_AUTH_FAIL, h, rfl⟩
theorem in_SVC_RX_DROP {m : Nat} (h : m.testBit 515 = true) : InSet m (R.SVC_RX_DROP) := ⟨.SVC_RX_DROP, h, rfl⟩
theorem in_SVC_MSG_RX {m : Nat} (h : m.testBit 516 = true) : InSet m (R.SVC_MSG_RX) := ⟨.SVC_MSG_RX, h, rfl⟩
theorem in_FW_RUN {m : Nat} (h : m.testBit 517 = true) : InSet m (R.FW_RUN) := ⟨.FW_RUN, h, rfl⟩
theorem in_FW_RUN_BUILD {m : Nat} (h : m.testBit 518 = true) : InSet m (R.FW_RUN_BUILD) := ⟨.FW_RUN_BUILD, h, rfl⟩
theorem in_FW_RUN_VER {m : Nat} (h : m.testBit 519 = true) : InSet m (R.FW_RUN_VER) := ⟨.FW_RUN_VER, h, rfl⟩
theorem in_FW_INST_BUILD {m : Nat} (h : m.testBit 520 = true) : InSet m (R.FW_INST_BUILD) := ⟨.FW_INST_BUILD, h, rfl⟩
theorem in_FW_FLOOR {m : Nat} (h : m.testBit 521 = true) : InSet m (R.FW_FLOOR) := ⟨.FW_FLOOR, h, rfl⟩
theorem in_FW_SLOT {m : Nat} {i : Nat} (h : m.testBit 522 = true) : InSet m (R.FW_SLOT i) := ⟨.FW_SLOT, h, i, rfl⟩
theorem in_FW_SLOT_BUILD {m : Nat} {i : Nat} (h : m.testBit 523 = true) : InSet m (R.FW_SLOT_BUILD i) := ⟨.FW_SLOT_BUILD, h, i, rfl⟩
theorem in_FW_STAGE {m : Nat} (h : m.testBit 524 = true) : InSet m (R.FW_STAGE) := ⟨.FW_STAGE, h, rfl⟩
theorem in_FW_STAGE_BYTES {m : Nat} (h : m.testBit 525 = true) : InSet m (R.FW_STAGE_BYTES) := ⟨.FW_STAGE_BYTES, h, rfl⟩
theorem in_FW_CMD {m : Nat} (h : m.testBit 526 = true) : InSet m (R.FW_CMD) := ⟨.FW_CMD, h, rfl⟩
theorem in_FW_CMD_STATUS {m : Nat} (h : m.testBit 527 = true) : InSet m (R.FW_CMD_STATUS) := ⟨.FW_CMD_STATUS, h, rfl⟩
theorem in_CHIP_RST_STATUS {m : Nat} (h : m.testBit 528 = true) : InSet m (R.CHIP_RST_STATUS) := ⟨.CHIP_RST_STATUS, h, rfl⟩
theorem in_CHIP_RST_CTL {m : Nat} (h : m.testBit 529 = true) : InSet m (R.CHIP_RST_CTL) := ⟨.CHIP_RST_CTL, h, rfl⟩
theorem in_CHIP_PCIE_RESETS {m : Nat} (h : m.testBit 530 = true) : InSet m (R.CHIP_PCIE_RESETS) := ⟨.CHIP_PCIE_RESETS, h, rfl⟩
theorem in_PF_STATUS {m : Nat} (h : m.testBit 531 = true) : InSet m (R.PF_STATUS) := ⟨.PF_STATUS, h, rfl⟩
theorem in_PF_TRIP {m : Nat} (h : m.testBit 532 = true) : InSet m (R.PF_TRIP) := ⟨.PF_TRIP, h, rfl⟩
theorem in_PF_HYST {m : Nat} (h : m.testBit 533 = true) : InSet m (R.PF_HYST) := ⟨.PF_HYST, h, rfl⟩
theorem in_MOD_RST {m : Nat} (h : m.testBit 534 = true) : InSet m (R.MOD_RST) := ⟨.MOD_RST, h, rfl⟩
theorem in_MOD_PRSNT {m : Nat} (h : m.testBit 535 = true) : InSet m (R.MOD_PRSNT) := ⟨.MOD_PRSNT, h, rfl⟩
theorem in_CHIP_TJ {m : Nat} (h : m.testBit 536 = true) : InSet m (R.CHIP_TJ) := ⟨.CHIP_TJ, h, rfl⟩
theorem in_TJ_WARN {m : Nat} (h : m.testBit 537 = true) : InSet m (R.TJ_WARN) := ⟨.TJ_WARN, h, rfl⟩
theorem in_ETH_SD_TXEQ {m : Nat} {n i : Nat} (h : m.testBit 538 = true) : InSet m (R.ETH_SD_TXEQ n i) := ⟨.ETH_SD_TXEQ, h, n, i, rfl⟩
theorem in_ETH_SD_RX {m : Nat} {n i : Nat} (h : m.testBit 539 = true) : InSet m (R.ETH_SD_RX n i) := ⟨.ETH_SD_RX, h, n, i, rfl⟩
theorem in_ETH_SD_EYE {m : Nat} {n i : Nat} (h : m.testBit 540 = true) : InSet m (R.ETH_SD_EYE n i) := ⟨.ETH_SD_EYE, h, n, i, rfl⟩
theorem in_soft {m k : Nat} (hk : softKey k = true) (h : m.testBit 541 = true) : InSet m k := ⟨.soft, h, hk⟩
theorem in_block {m k : Nat} (hk : blockKey k = true) (h : m.testBit 542 = true) : InSet m k := ⟨.block, h, hk⟩
theorem in_EVT_ARM_or {m k : Nat} (hk : k = R.EVT_ARM ∨ k = R.EVT_ARM + 4) (h : m.testBit 45 = true) : InSet m k := ⟨.EVT_ARM, h, hk⟩

end Sys2Proof.Machine
end

