-- ==== Sys2Proof/Laws/RgOps.lean ====
section
/-! SUPPORT. Register frames of the operations of Machine.Ops: the registers that each may write. -/

set_option maxRecDepth 20000
set_option Elab.async false
set_option linter.unusedTactic false
set_option linter.unreachableTactic false
set_option linter.unusedVariables false

namespace Sys2Proof.Machine

theorem State.event_rg {msk : Nat} {b₀ : State} {s : State} {p : Nat} {i : Nat} (h₀ : Rg msk b₀ s) (hm₀ : 32 ||| msk = msk) :
    Rg msk b₀ (State.event s p i) := by
  refine Rg.step h₀ ?_ hm₀
  clear h₀ hm₀
  unfold State.event
  try dsimp only
  repeat' (first
    | with_reducible exact Rg.refl _ _
    | with_reducible refine State.putBit_rg ?_ ?_
    | with_reducible refine in_PG_EVENT ?_
    | exact (rfl : (_ : Bool) = _))

theorem State.capture_rg {msk : Nat} {b₀ : State} {s : State} {p : Nat} {code : Nat} {level : Nat} {sub : Nat} {injected : optParam Bool Bool.false} (h₀ : Rg msk b₀ s) (hm₀ : 1824 ||| msk = msk) :
    Rg msk b₀ (State.capture s p code level sub injected) := by
  refine Rg.step h₀ ?_ hm₀
  clear h₀ hm₀
  unfold State.capture
  try dsimp only
  repeat' (first
    | with_reducible exact Rg.refl _ _
    | exact (rfl : (_ : Nat) = _)
    | with_reducible refine State.count_rg ?_ ?_
    | with_reducible refine State.event_rg ?_ ?_
    | with_reducible refine State.wr64_rg ?_ ?_ ?_
    | with_reducible refine State.wrN_rg ?_ ?_
    | with_reducible refine in_PG_ERR_COUNT ?_
    | with_reducible refine in_PG_ERR_FIRST ?_
    | with_reducible refine in_PG_ERR_STRIDE ?_
    | with_reducible refine in_PG_ERR_STRIDE4 ?_
    | exact (rfl : (_ : Bool) = _)
    | with_reducible refine Rg.ite ?_ ?_)

theorem State.useFree_rg {msk : Nat} {b₀ : State} {s : State} (h₀ : Rg msk b₀ s) (hm₀ : 0 ||| msk = msk) :
    Rg msk b₀ (State.useFree s) := by
  refine Rg.step h₀ ?_ hm₀
  clear h₀ hm₀
  unfold State.useFree
  try dsimp only
  repeat' (first
    | with_reducible exact Rg.refl _ _
    | refine Rg.mk' ?_)

theorem State.emit_rg {msk : Nat} {b₀ : State} {s : State} {e : Emit} (h₀ : Rg msk b₀ s) (hm₀ : 0 ||| msk = msk) :
    Rg msk b₀ (State.emit s e) := by
  refine Rg.step h₀ ?_ hm₀
  clear h₀ hm₀
  unfold State.emit
  try dsimp only
  repeat' (first
    | with_reducible exact Rg.refl _ _
    | refine Rg.mk' ?_)

theorem State.fired_rg {msk : Nat} {b₀ : State} {s : State} {p : Nat} (h₀ : Rg msk b₀ s) (hm₀ : 2048 ||| msk = msk) :
    Rg msk b₀ (State.fired s p) := by
  refine Rg.step h₀ ?_ hm₀
  clear h₀ hm₀
  unfold State.fired
  try dsimp only
  repeat' (first
    | with_reducible exact Rg.refl _ _
    | with_reducible refine State.putFld_rg ?_ ?_
    | with_reducible refine State.putBit_rg ?_ ?_
    | with_reducible refine in_PG_INJECT ?_
    | exact (rfl : (_ : Bool) = _)
    | with_reducible refine Rg.ite ?_ ?_)

theorem State.inject_rg {msk : Nat} {b₀ : State} {s : State} {p : Nat} {kind : Nat} {sub : Nat} (h₀ : Rg msk b₀ s) (hm₀ : 2048 ||| msk = msk) :
    Rg msk b₀ (State.inject s p kind sub).1 := by
  refine Rg.step h₀ ?_ hm₀
  clear h₀ hm₀
  unfold State.inject
  try dsimp only
  repeat' (first
    | with_reducible exact Rg.refl _ _
    | exact (rfl : (_ : Nat) = _)
    | with_reducible refine State.fired_rg ?_ ?_
    | with_reducible refine Rg.ite₁ ?_ ?_)

theorem State.postMsix_rg {msk : Nat} {b₀ : State} {s : State} {f : Nat} {v : Nat} (h₀ : Rg msk b₀ s) (hm₀ : 0 ||| msk = msk) :
    Rg msk b₀ (State.postMsix s f v) := by
  refine Rg.step h₀ ?_ hm₀
  clear h₀ hm₀
  unfold State.postMsix
  try dsimp only
  repeat' (first
    | with_reducible exact Rg.refl _ _
    | with_reducible assumption
    | exact (rfl : (_ : Nat) = _)
    | with_reducible refine State.emit_rg ?_ ?_
    | dsimp only
    | with_reducible refine Rg.ite ?_ ?_
    | with_reducible refine Rg.ite₁ ?_ ?_
    | with_reducible refine RgS.ite ?_ ?_
    | with_reducible refine RgP.ite ?_ ?_
    | with_reducible exact RgS.none
    | with_reducible refine RgS.some ?_
    | with_reducible refine RgS.map ?_
    | with_reducible exact RgP.none
    | with_reducible refine RgP.some ?_
    | with_reducible refine Rg.elim ?_ ?_
    | with_reducible refine Rg.foldl ?_ _ _ ?_
    | with_reducible refine Rg.foldl₂ ?_ _ _ ?_
    | intro _ _ _ _ _ _
    | intro _ _ _ _ _
    | intro _ _ _ _
    | intro _ _ _
    | intro _ _
    | intro _
    | with_reducible refine Rg.pair (h := ?_) (e := by assumption)
    | with_reducible refine RgO.got (h := ?_) (e := by assumption)
    | with_reducible refine RgS.get (h := ?_) (e := by assumption)
    | with_reducible refine RgP.get (h := ?_) (e := by assumption)
    | split
    | refine Rg.mk' ?_)

theorem State.setPage_rg {msk : Nat} {b₀ : State} {s : State} {p : Nat} {st : PState} (h₀ : Rg msk b₀ s) (hm₀ : 48 ||| msk = msk) :
    Rg msk b₀ (State.setPage s p st) := by
  refine Rg.step h₀ ?_ hm₀
  clear h₀ hm₀
  unfold State.setPage
  try dsimp only
  repeat' (first
    | with_reducible exact Rg.refl _ _
    | exact (rfl : (_ : Nat) = _)
    | with_reducible refine State.event_rg ?_ ?_
    | with_reducible refine State.putFld_rg ?_ ?_
    | with_reducible refine in_PG_STATE ?_
    | exact (rfl : (_ : Bool) = _)
    | with_reducible refine Rg.ite ?_ ?_)

theorem State.setUnitSt_rg {msk : Nat} {b₀ : State} {s : State} {p : Nat} {sub : Nat} {st : PState} (h₀ : Rg msk b₀ s) (hm₀ : 8240 ||| msk = msk) :
    Rg msk b₀ (State.setUnitSt s p sub st) := by
  refine Rg.step h₀ ?_ hm₀
  clear h₀ hm₀
  unfold State.setUnitSt
  try dsimp only
  repeat' (first
    | with_reducible exact Rg.refl _ _
    | exact (rfl : (_ : Nat) = _)
    | with_reducible refine State.setPage_rg ?_ ?_
    | with_reducible refine State.putFld_rg ?_ ?_
    | with_reducible refine in_UNIT_WORD ?_
    | exact (rfl : (_ : Bool) = _)
    | with_reducible refine Rg.ite ?_ ?_)

theorem State.msixControl_rg {msk : Nat} {b₀ : State} {s : State} {f : Nat} {v : Nat} {mask : Bool} (h₀ : Rg msk b₀ s) (hm₀ : 0 ||| msk = msk) :
    Rg msk b₀ (State.msixControl s f v mask) := by
  refine Rg.step h₀ ?_ hm₀
  clear h₀ hm₀
  unfold State.msixControl
  try dsimp only
  repeat' (first
    | with_reducible exact Rg.refl _ _
    | with_reducible assumption
    | exact (rfl : (_ : Nat) = _)
    | with_reducible refine State.emit_rg ?_ ?_
    | dsimp only
    | with_reducible refine Rg.ite ?_ ?_
    | with_reducible refine Rg.ite₁ ?_ ?_
    | with_reducible refine RgS.ite ?_ ?_
    | with_reducible refine RgP.ite ?_ ?_
    | with_reducible exact RgS.none
    | with_reducible refine RgS.some ?_
    | with_reducible refine RgS.map ?_
    | with_reducible exact RgP.none
    | with_reducible refine RgP.some ?_
    | with_reducible refine Rg.elim ?_ ?_
    | with_reducible refine Rg.foldl ?_ _ _ ?_
    | with_reducible refine Rg.foldl₂ ?_ _ _ ?_
    | intro _ _ _ _ _ _
    | intro _ _ _ _ _
    | intro _ _ _ _
    | intro _ _ _
    | intro _ _
    | intro _
    | with_reducible refine Rg.pair (h := ?_) (e := by assumption)
    | with_reducible refine RgO.got (h := ?_) (e := by assumption)
    | with_reducible refine RgS.get (h := ?_) (e := by assumption)
    | with_reducible refine RgP.get (h := ?_) (e := by assumption)
    | split
    | refine Rg.mk' ?_)

end Sys2Proof.Machine
end

