-- ==== Sys2Proof/Laws/RgRecord.lean ====
section
/-! SUPPORT. Register frames of the operations of Machine.Record: the registers that each may write. -/

set_option maxRecDepth 20000
set_option Elab.async false
set_option linter.unusedTactic false
set_option linter.unreachableTactic false
set_option linter.unusedVariables false

namespace Sys2Proof.Machine

theorem State.diagCopy_rg {msk : Nat} {b₀ : State} {s : State} {r : StbRec} (h₀ : Rg msk b₀ s) (hm₀ : 476341026354368931790404850737482651634002402140040763986077416935023763857996463031052566995772090325901326159882602370521236523328900956192 ||| msk = msk) :
    Rg msk b₀ (State.diagCopy s r) := by
  refine Rg.step h₀ ?_ hm₀
  clear h₀ hm₀
  unfold State.diagCopy
  try dsimp only
  repeat' (first
    | with_reducible exact Rg.refl _ _
    | exact (rfl : (_ : Nat) = _)
    | with_reducible refine State.event_rg ?_ ?_
    | with_reducible refine State.count_rg ?_ ?_
    | with_reducible refine State.wrN_rg ?_ ?_
    | with_reducible refine State.emit_rg ?_ ?_
    | with_reducible refine in_GD_DIAG_LOST ?_
    | with_reducible refine in_GD_DIAG_PROD ?_
    | exact (rfl : (_ : Bool) = _)
    | with_reducible refine Rg.ite ?_ ?_)

theorem State.startFlush_rg {msk : Nat} {b₀ : State} {s : State} (h₀ : Rg msk b₀ s) (hm₀ : 195109284394749514461349826862072894109287383916560696928697309976585733676235351257519131441468248197489183195087913930965498479955517831643136 ||| msk = msk) :
    Rg msk b₀ (State.startFlush s) := by
  refine Rg.step h₀ ?_ hm₀
  clear h₀ hm₀
  unfold State.startFlush
  try dsimp only
  repeat' (first
    | with_reducible exact Rg.refl _ _
    | with_reducible refine State.putBit_rg ?_ ?_
    | with_reducible refine in_STB_STATUS ?_
    | exact (rfl : (_ : Bool) = _)
    | with_reducible refine Rg.ite ?_ ?_
    | refine Rg.mk' ?_)

theorem State.appendRec_rg {msk : Nat} {b₀ : State} {s : State} {typ : Nat} {sev : Nat} {src : Nat} {payload : List Byte} (h₀ : Rg msk b₀ s) (hm₀ : 6439082726053088346156334691299142988258117671648643039410997306644264235079624587961162390135447962607468946764061042324231971075055417345179680 ||| msk = msk) :
    Rg msk b₀ (State.appendRec s typ sev src payload).1 := by
  refine Rg.step h₀ ?_ hm₀
  clear h₀ hm₀
  unfold State.appendRec
  try dsimp only
  repeat' (first
    | with_reducible exact Rg.refl _ _
    | exact (rfl : (_ : Nat) = _)
    | with_reducible refine State.diagCopy_rg ?_ ?_
    | with_reducible refine State.count_rg ?_ ?_
    | with_reducible refine State.event_rg ?_ ?_
    | with_reducible refine State.putBit_rg ?_ ?_
    | with_reducible refine State.startFlush_rg ?_ ?_
    | with_reducible refine in_STB_DROPPED ?_
    | with_reducible refine in_STB_STATUS ?_
    | exact (rfl : (_ : Bool) = _)
    | dsimp only
    | with_reducible refine Rg.ite ?_ ?_
    | with_reducible refine Rg.ite₁ ?_ ?_
    | refine Rg.mk' ?_)

theorem State.startLifeSave_rg {msk : Nat} {b₀ : State} {s : State} (h₀ : Rg msk b₀ s) (hm₀ : 0 ||| msk = msk) :
    Rg msk b₀ (State.startLifeSave s) := by
  refine Rg.step h₀ ?_ hm₀
  clear h₀ hm₀
  unfold State.startLifeSave
  try dsimp only
  repeat' (first
    | with_reducible exact Rg.refl _ _
    | split
    | refine Rg.mk' ?_)

end Sys2Proof.Machine
end

