-- ==== Sys2Proof/Laws/RgFence.lean ====
section
/-! SUPPORT. Register frames of the operations of Machine.Fence: the registers that each may write. -/

set_option maxRecDepth 20000
set_option Elab.async false
set_option linter.unusedTactic false
set_option linter.unreachableTactic false
set_option linter.unusedVariables false

namespace Sys2Proof.Machine

theorem State.stagingEnd_rg {msk : Nat} {b₀ : State} {s : State} {result : Nat} (h₀ : Rg msk b₀ s) (hm₀ : 54918381281044877719855206392651145738155482401146443275155707673484345467181248416980477125291636439818370491131846864296975903997733150500592226328920457216 ||| msk = msk) :
    Rg msk b₀ (State.stagingEnd s result) := by
  refine Rg.step h₀ ?_ hm₀
  clear h₀ hm₀
  unfold State.stagingEnd
  try dsimp only
  repeat' (first
    | with_reducible exact Rg.refl _ _
    | with_reducible refine State.putFld_rg ?_ ?_
    | with_reducible refine State.putBit_rg ?_ ?_
    | with_reducible refine in_FW_STAGE ?_
    | exact (rfl : (_ : Bool) = _)
    | refine Rg.mk' ?_)

theorem State.fwSlotShow_rg {msk : Nat} {b₀ : State} {s : State} {b : Bool} {r : FwSlot} (h₀ : Rg msk b₀ s) (hm₀ : 41188785960783658289891404794488359303616611800859832456366780755113259100385936312735357843968727329863777868348885148222731927998299862875444169746690342912 ||| msk = msk) :
    Rg msk b₀ (State.fwSlotShow s b r) := by
  refine Rg.step h₀ ?_ hm₀
  clear h₀ hm₀
  unfold State.fwSlotShow
  try dsimp only
  repeat' (first
    | with_reducible exact Rg.refl _ _
    | with_reducible refine State.wrN_rg ?_ ?_
    | with_reducible refine in_FW_SLOT ?_
    | with_reducible refine in_FW_SLOT_BUILD ?_
    | exact (rfl : (_ : Bool) = _))

theorem State.setFwSlot_rg {msk : Nat} {b₀ : State} {s : State} {b : Bool} {r : FwSlot} (h₀ : Rg msk b₀ s) (hm₀ : 41188785960783658289891404794488359303616611800859832456366780755113259100385936312735357843968727329863777868348885148222731927998299862875444169746690342912 ||| msk = msk) :
    Rg msk b₀ (State.setFwSlot s b r) := by
  refine Rg.step h₀ ?_ hm₀
  clear h₀ hm₀
  unfold State.setFwSlot
  try dsimp only
  repeat' (first
    | with_reducible exact Rg.refl _ _
    | exact (rfl : (_ : Nat) = _)
    | with_reducible refine State.fwSlotShow_rg ?_ ?_
    | split
    | refine Rg.mk' ?_)

theorem State.stagingAbort_rg {msk : Nat} {b₀ : State} {s : State} (h₀ : Rg msk b₀ s) (hm₀ : 96107167241828536009746611187139505041772094202006275731522488428597604567567184729715834969260363769682148359480732012519707831996033013376036396075610800128 ||| msk = msk) :
    Rg msk b₀ (State.stagingAbort s) := by
  refine Rg.step h₀ ?_ hm₀
  clear h₀ hm₀
  unfold State.stagingAbort
  try dsimp only
  repeat' (first
    | with_reducible exact Rg.refl _ _
    | exact (rfl : (_ : Nat) = _)
    | with_reducible refine State.stagingEnd_rg ?_ ?_
    | with_reducible refine State.setFwSlot_rg ?_ ?_
    | split)

theorem State.fenceHead_rg {msk : Nat} {b₀ : State} {s : State} (h₀ : Rg msk b₀ s) (hm₀ : 96107167241828536009746611187139505041772094202006569299345335157751090752641783396844256929578977309665986770852173538647847158051465975750834496561536368640 ||| msk = msk) :
    Rg msk b₀ (State.fenceHead s) := by
  refine Rg.step h₀ ?_ hm₀
  clear h₀ hm₀
  unfold State.fenceHead
  try dsimp only
  repeat' (first
    | with_reducible exact Rg.refl _ _
    | exact (rfl : (_ : Nat) = _)
    | with_reducible refine State.stagingAbort_rg ?_ ?_
    | with_reducible refine State.wrN_rg ?_ ?_
    | with_reducible refine State.putBit_rg ?_ ?_
    | with_reducible refine in_CHIP_INJ_EN ?_
    | with_reducible refine in_RN_STATUS ?_
    | with_reducible refine in_STR_STATUS ?_
    | exact (rfl : (_ : Bool) = _)
    | refine Rg.mk' ?_)

end Sys2Proof.Machine
end

