-- ==== Sys2Proof/Laws/RgLadder.lean ====
section
/-! SUPPORT. Register frames of the operations of Machine.Ladder: the registers that each may write. -/

set_option maxRecDepth 20000
set_option Elab.async false
set_option linter.unusedTactic false
set_option linter.unreachableTactic false
set_option linter.unusedVariables false

namespace Sys2Proof.Machine

theorem State.setGuard_rg {msk : Nat} {b₀ : State} {s : State} {g : GuardSt} (h₀ : Rg msk b₀ s) (hm₀ : 0 ||| msk = msk) :
    Rg msk b₀ (State.setGuard s g) := by
  refine Rg.step h₀ ?_ hm₀
  clear h₀ hm₀
  unfold State.setGuard
  try dsimp only
  repeat' (first
    | with_reducible exact Rg.refl _ _
    | refine Rg.mk' ?_)

theorem State.faultRecord_rg {msk : Nat} {b₀ : State} {s : State} {p : Nat} {code : Nat} {level : Nat} {sub : Nat} {injected : Bool} {escalated : Bool} {fromLevel : Nat} {count : Nat} {ref : Nat} (h₀ : Rg msk b₀ s) (hm₀ : 6439082726053088346156334691299142988258117671648643039410997306644264235079624587961162390135447962607468946764061042324231971075055417345179680 ||| msk = msk) :
    Rg msk b₀ (State.faultRecord s p code level sub injected escalated fromLevel count ref).1 := by
  refine Rg.step h₀ ?_ hm₀
  clear h₀ hm₀
  unfold State.faultRecord
  try dsimp only
  repeat' (first
    | with_reducible exact Rg.refl _ _
    | exact (rfl : (_ : Nat) = _)
    | with_reducible refine State.useFree_rg ?_ ?_
    | with_reducible refine State.diagCopy_rg ?_ ?_
    | with_reducible refine State.setGuard_rg ?_ ?_
    | with_reducible refine State.appendRec_rg ?_ ?_
    | with_reducible refine Rg.ite ?_ ?_
    | with_reducible refine Rg.ite₁ ?_ ?_)

theorem State.levelCount_rg {msk : Nat} {b₀ : State} {s : State} {level : Nat} (h₀ : Rg msk b₀ s) (hm₀ : 11908525658859223294760121268437066290850060053501019099651935423375594096449911575776314174894302258147533153997065059263030913083222523904 ||| msk = msk) :
    Rg msk b₀ (State.levelCount s level) := by
  refine Rg.step h₀ ?_ hm₀
  clear h₀ hm₀
  unfold State.levelCount
  try dsimp only
  repeat' (first
    | with_reducible exact Rg.refl _ _
    | with_reducible refine State.count_rg ?_ ?_
    | with_reducible refine in_GD_LEVEL_COUNT ?_
    | exact (rfl : (_ : Bool) = _))

theorem State.l2Plus_rg {msk : Nat} {b₀ : State} {s : State} {level : Nat} (h₀ : Rg msk b₀ s) (hm₀ : 195109284394749514461349826862072894109287383916560696928697309976585733676235351257519131441468248197489183195087913930965498479955517831643168 ||| msk = msk) :
    Rg msk b₀ (State.l2Plus s level) := by
  refine Rg.step h₀ ?_ hm₀
  clear h₀ hm₀
  unfold State.l2Plus
  try dsimp only
  repeat' (first
    | with_reducible exact Rg.refl _ _
    | exact (rfl : (_ : Nat) = _)
    | with_reducible refine State.event_rg ?_ ?_
    | with_reducible refine State.startFlush_rg ?_ ?_
    | with_reducible refine Rg.ite ?_ ?_)

theorem State.setLadder_rg {msk : Nat} {b₀ : State} {s : State} {l : List LadEntry} (h₀ : Rg msk b₀ s) (hm₀ : 0 ||| msk = msk) :
    Rg msk b₀ (State.setLadder s l) := by
  refine Rg.step h₀ ?_ hm₀
  clear h₀ hm₀
  unfold State.setLadder
  try dsimp only
  repeat' (first
    | with_reducible exact Rg.refl _ _
    | refine Rg.mk' ?_)

theorem State.actNow_rg {msk : Nat} {b₀ : State} {s : State} {level : Nat} (h₀ : Rg msk b₀ s) (hm₀ : 96107167241828536009746611187139505041772094202006569299345335157751090752641783396844256929578977309665986770852173538647847158051465975750834496561536368640 ||| msk = msk) :
    Rg msk b₀ (State.actNow s level) := by
  refine Rg.step h₀ ?_ hm₀
  clear h₀ hm₀
  unfold State.actNow
  try dsimp only
  repeat' (first
    | with_reducible exact Rg.refl _ _
    | exact (rfl : (_ : Nat) = _)
    | with_reducible refine State.fenceHead_rg ?_ ?_
    | with_reducible refine State.startLifeSave_rg ?_ ?_
    | with_reducible refine Rg.ite ?_ ?_
    | refine Rg.mk' ?_)

theorem State.enqueue_rg {msk : Nat} {b₀ : State} {s : State} {e : LadEntry} (h₀ : Rg msk b₀ s) (hm₀ : 96107167241834975113312584178489302142293605564759693426004588894417285174339314651986626222954283729664672024879809959352794238588654061432213649874520966944 ||| msk = msk) :
    Rg msk b₀ (State.enqueue s e) := by
  refine Rg.step h₀ ?_ hm₀
  clear h₀ hm₀
  unfold State.enqueue
  try dsimp only
  repeat' (first
    | with_reducible exact Rg.refl _ _
    | exact (rfl : (_ : Nat) = _)
    | with_reducible refine State.setLadder_rg ?_ ?_
    | with_reducible refine State.event_rg ?_ ?_
    | with_reducible refine State.count_rg ?_ ?_
    | with_reducible refine State.levelCount_rg ?_ ?_
    | with_reducible refine State.capture_rg ?_ ?_
    | with_reducible refine State.faultRecord_rg ?_ ?_
    | with_reducible refine State.actNow_rg ?_ ?_
    | with_reducible refine State.l2Plus_rg ?_ ?_
    | with_reducible refine in_GD_ESCALATIONS ?_
    | with_reducible refine in_GD_OVERFLOW ?_
    | exact (rfl : (_ : Bool) = _)
    | with_reducible refine Rg.ite ?_ ?_
    | split)

theorem State.placeFull_rg {msk : Nat} {b₀ : State} {s : State} {full : Bool} (h₀ : Rg msk b₀ s) (hm₀ : 96107167241834975113312584178489302142293605564759693426004588894417285174339314651986626222954283729664672024879809959352794238588654061432213649874520966944 ||| msk = msk) :
    Rg msk b₀ (State.placeFull s full) := by
  refine Rg.step h₀ ?_ hm₀
  clear h₀ hm₀
  unfold State.placeFull
  try dsimp only
  repeat' (first
    | with_reducible exact Rg.refl _ _
    | exact (rfl : (_ : Nat) = _)
    | with_reducible refine State.levelCount_rg ?_ ?_
    | with_reducible refine State.capture_rg ?_ ?_
    | with_reducible refine State.faultRecord_rg ?_ ?_
    | with_reducible refine State.enqueue_rg ?_ ?_
    | with_reducible refine State.l2Plus_rg ?_ ?_
    | with_reducible refine Rg.ite ?_ ?_)

theorem State.place_rg {msk : Nat} {b₀ : State} {s : State} {p : Nat} {code : Nat} {level : Nat} {sub : Nat} {injected : Bool} (h₀ : Rg msk b₀ s) (hm₀ : 96107167241834975113312584178489302142293605564759693426004588894417285174339314651986626222954283729664672024879809959352794238588654061432213649874520966944 ||| msk = msk) :
    Rg msk b₀ (State.place s p code level sub injected) := by
  refine Rg.step h₀ ?_ hm₀
  clear h₀ hm₀
  unfold State.place
  try dsimp only
  repeat' (first
    | with_reducible exact Rg.refl _ _
    | exact (rfl : (_ : Nat) = _)
    | with_reducible refine State.faultRecord_rg ?_ ?_
    | with_reducible refine State.levelCount_rg ?_ ?_
    | with_reducible refine State.l2Plus_rg ?_ ?_
    | with_reducible refine State.placeFull_rg ?_ ?_
    | with_reducible refine State.actNow_rg ?_ ?_
    | with_reducible refine State.enqueue_rg ?_ ?_
    | with_reducible refine Rg.ite ?_ ?_)

theorem State.escalate_rg {msk : Nat} {b₀ : State} {s : State} {e : LadEntry} {injected : optParam Bool Bool.false} (h₀ : Rg msk b₀ s) (hm₀ : 96107167241834975110335452763774496318603575247650426853292073881042030399426330796142727698841805835720593481156234394815910950089387796616455921603715334176 ||| msk = msk) :
    Rg msk b₀ (State.escalate s e injected) := by
  refine Rg.step h₀ ?_ hm₀
  clear h₀ hm₀
  unfold State.escalate
  try dsimp only
  repeat' (first
    | with_reducible exact Rg.refl _ _
    | exact (rfl : (_ : Nat) = _)
    | with_reducible refine State.event_rg ?_ ?_
    | with_reducible refine State.count_rg ?_ ?_
    | with_reducible refine State.levelCount_rg ?_ ?_
    | with_reducible refine State.faultRecord_rg ?_ ?_
    | with_reducible refine State.l2Plus_rg ?_ ?_
    | with_reducible refine State.setLadder_rg ?_ ?_
    | with_reducible refine State.actNow_rg ?_ ?_
    | with_reducible refine in_GD_ESCALATIONS ?_
    | exact (rfl : (_ : Bool) = _)
    | with_reducible refine Rg.ite ?_ ?_)

theorem State.raise_rg {msk : Nat} {b₀ : State} {s : State} {p : Nat} {code : Nat} {level : Nat} {sub : Nat} {injected : optParam Bool Bool.false} (h₀ : Rg msk b₀ s) (hm₀ : 96107167241834975113312584178489302142293605564759693426004588894417285174339314651986626222954283729664672024879809959352794238588654061432213649874520966944 ||| msk = msk) :
    Rg msk b₀ (State.raise s p code level sub injected) := by
  refine Rg.step h₀ ?_ hm₀
  clear h₀ hm₀
  unfold State.raise
  try dsimp only
  repeat' (first
    | with_reducible exact Rg.refl _ _
    | exact (rfl : (_ : Nat) = _)
    | with_reducible refine State.capture_rg ?_ ?_
    | with_reducible refine State.place_rg ?_ ?_
    | with_reducible refine State.escalate_rg ?_ ?_
    | with_reducible refine Rg.ite ?_ ?_
    | split)

theorem State.operate_rg {msk : Nat} {b₀ : State} {s : State} {p : Nat} {sub : Nat} (h₀ : Rg msk b₀ s) (hm₀ : 96107167241834975113312584178489302142293605564759693426004588894417285174339314651986626222954283729664672024879809959352794238588654061432213649874520968992 ||| msk = msk) :
    Rg msk b₀ (State.operate s p sub) := by
  refine Rg.step h₀ ?_ hm₀
  clear h₀ hm₀
  unfold State.operate
  try dsimp only
  repeat' (first
    | with_reducible exact Rg.refl _ _
    | with_reducible assumption
    | exact (rfl : (_ : Nat) = _)
    | with_reducible refine State.raise_rg ?_ ?_
    | with_reducible refine State.useFree_rg ?_ ?_
    | with_reducible refine State.fired_rg ?_ ?_
    | dsimp only
    | with_reducible refine Rg.ite ?_ ?_
    | with_reducible refine Rg.ite₁ ?_ ?_
    | with_reducible refine RgS.ite ?_ ?_
    | with_reducible refine RgP.ite ?_ ?_
    | with_reducible exact RgS.none
    | with_reducible refine RgS.some ?_
    | with_reducible refine RgS.map ?_
    | with_reducible exact RgP.none
    | with_reducible refine RgP.some ?_
    | with_reducible refine Rg.elim ?_ ?_
    | with_reducible refine Rg.foldl ?_ _ _ ?_
    | with_reducible refine Rg.foldl₂ ?_ _ _ ?_
    | intro _ _ _ _ _ _
    | intro _ _ _ _ _
    | intro _ _ _ _
    | intro _ _ _
    | intro _ _
    | intro _
    | with_reducible refine Rg.pair (h := ?_) (e := by assumption)
    | with_reducible refine RgO.got (h := ?_) (e := by assumption)
    | with_reducible refine RgS.get (h := ?_) (e := by assumption)
    | with_reducible refine RgP.get (h := ?_) (e := by assumption)
    | split)

theorem State.writeDiscarded_rg {msk : Nat} {b₀ : State} {s : State} {p : Nat} (h₀ : Rg msk b₀ s) (hm₀ : 96107167241834975113312584178489302142293605564759693426004588894417285174339314651986626222954283729664672024879809959352794238588654061432213649874520966944 ||| msk = msk) :
    Rg msk b₀ (State.writeDiscarded s p) := by
  refine Rg.step h₀ ?_ hm₀
  clear h₀ hm₀
  unfold State.writeDiscarded
  try dsimp only
  repeat' (first
    | with_reducible exact Rg.refl _ _
    | exact (rfl : (_ : Nat) = _)
    | with_reducible refine State.raise_rg ?_ ?_)

theorem State.record_rg {msk : Nat} {b₀ : State} {s : State} {typ : Nat} {sev : Nat} {src : Nat} {payload : List Byte} (h₀ : Rg msk b₀ s) (hm₀ : 96107167241834975113312584178489302142293605564759693426004588894417285174339314651986626222954283729664672024879809959352794238588654061432213649874520966944 ||| msk = msk) :
    Rg msk b₀ (State.record s typ sev src payload) := by
  refine Rg.step h₀ ?_ hm₀
  clear h₀ hm₀
  unfold State.record
  try dsimp only
  repeat' (first
    | with_reducible exact Rg.refl _ _
    | exact (rfl : (_ : Nat) = _)
    | with_reducible refine State.appendRec_rg ?_ ?_
    | with_reducible refine State.placeFull_rg ?_ ?_)

end Sys2Proof.Machine
end

