-- ==== Sys2Proof/Laws/Raise.lean ====
section
/-! SUPPORT. Placing a fault: events and captures are only ever added, what was sent stays sent, and the stride number stays. -/

set_option Elab.async false
set_option linter.unusedTactic false
set_option linter.unreachableTactic false

namespace Sys2Proof.Machine

open Sys2Proof.Safety

/-! ### Pages' offsets -/

theorem pageBase_mod (p : Nat) : pageBase p % 4096 = 0 := by
  unfold pageBase
  split
  · rfl
  · next r h =>
    have hb : r.base % 4096 = 0 := by
      have hm : r ∈ pageRows := List.mem_of_find?_eq_some h
      have : ∀ x ∈ pageRows, x.base % 4096 = 0 := by decide
      exact this r hm
    omega

/-- Header registers of different offsets are different registers. -/
theorem hdr_ne (p q : Nat) {a b : Nat} (h : a ≠ b) (ha : a < 4096) (hb : b < 4096) : pageBase q + a ≠ pageBase p + b := by
  have := pageBase_mod p
  have := pageBase_mod q
  omega

/-- Header registers of pages at different offsets are different registers. -/
theorem hdr_ne' {p q : Nat} {a b : Nat} (h : pageBase q ≠ pageBase p) (ha : a < 4096) (hb : b < 4096) : pageBase q + a ≠ pageBase p + b := by
  have := pageBase_mod p
  have := pageBase_mod q
  omega

/-- A header register is not at a block's own offset. -/
theorem hdr_ne_of (p : Nat) {k a : Nat} (h : k % 4096 ≠ a) (ha : a < 4096) : k ≠ pageBase p + a := by
  have := pageBase_mod p
  omega

/-- A register number that is neither a page's event register, nor part of its capture, nor the stride number. -/
def quiet (k : Nat) : Bool :=
  decide (k % 4096 ≠ 0x14 ∧ k % 4096 ≠ 0x20 ∧ k % 4096 ≠ 0x28 ∧ k % 4096 ≠ 0x2C ∧ k ≠ 0x1040 ∧ k ≠ 0x1044)

theorem quiet_iff (k : Nat) : quiet k = true ↔
    k % 4096 ≠ 0x14 ∧ k % 4096 ≠ 0x20 ∧ k % 4096 ≠ 0x28 ∧ k % 4096 ≠ 0x2C ∧ k ≠ 0x1040 ∧ k ≠ 0x1044 := by simp [quiet]

/-- What placing a fault keeps: events that are set, captures, what was sent, and the stride number. -/
structure Grows (s t : State) : Prop where
  event : ∀ p i, i < 32 → s.bit (R.PG_EVENT p) i = true → t.bit (R.PG_EVENT p) i = true
  first : ∀ p, s.bit (R.PG_ERR_FIRST p) 31 = true → t.rd (R.PG_ERR_FIRST p) = s.rd (R.PG_ERR_FIRST p)
  stride : ∀ p, s.bit (R.PG_ERR_FIRST p) 31 = true → t.rd64 (R.PG_ERR_STRIDE p) = s.rd64 (R.PG_ERR_STRIDE p)
  now : t.now = s.now
  sent : ∀ e ∈ s.sent, e ∈ t.sent

theorem Grows.refl (s : State) : Grows s s := ⟨fun _ _ _ h => h, fun _ _ => rfl, fun _ _ => rfl, rfl, fun _ h => h⟩

theorem Grows.valid {s t : State} (h : Grows s t) {p : Nat} (hp : s.bit (R.PG_ERR_FIRST p) 31 = true) :
    t.bit (R.PG_ERR_FIRST p) 31 = true := by
  unfold State.bit at *
  rw [h.first p hp]
  exact hp

theorem Grows.trans {s t u : State} (h : Grows s t) (g : Grows t u) : Grows s u :=
  { event := fun p i hi hs => g.event p i hi (h.event p i hi hs)
    first := fun p hp => (g.first p (h.valid hp)).trans (h.first p hp)
    stride := fun p hp => (g.stride p (h.valid hp)).trans (h.stride p hp)
    now := g.now.trans h.now
    sent := fun e he => g.sent e (h.sent e he) }

/-- An operation that leaves all that alone. -/
theorem Grows.of_quiet {s t : State} (hr : ∀ k, quiet k = false → t.rd k = s.rd k) (hs : ∀ e ∈ s.sent, e ∈ t.sent) : Grows s t := by
  have e1 : ∀ p, t.rd (R.PG_EVENT p) = s.rd (R.PG_EVENT p) := fun p => hr _ (by
    have := pageBase_mod p
    simp only [quiet, R.PG_EVENT, decide_eq_false_iff_not]; omega)
  have e2 : ∀ p, t.rd (R.PG_ERR_FIRST p) = s.rd (R.PG_ERR_FIRST p) := fun p => hr _ (by
    have := pageBase_mod p
    simp only [quiet, R.PG_ERR_FIRST, decide_eq_false_iff_not]; omega)
  have e3 : ∀ p, t.rd64 (R.PG_ERR_STRIDE p) = s.rd64 (R.PG_ERR_STRIDE p) := fun p => by
    unfold State.rd64
    rw [hr (R.PG_ERR_STRIDE p) (by
      have := pageBase_mod p
      simp only [quiet, R.PG_ERR_STRIDE, decide_eq_false_iff_not]; omega), hr (R.PG_ERR_STRIDE p + 4) (by
      have := pageBase_mod p
      simp only [quiet, R.PG_ERR_STRIDE, decide_eq_false_iff_not]; omega)]
  refine ⟨fun p i _ h => ?_, fun p _ => e2 p, fun p _ => e3 p, ?_, hs⟩
  · unfold State.bit at *
    rw [e1]; exact h
  · unfold State.now State.rd64
    rw [hr R.STR_NUM rfl, hr (R.STR_NUM + 4) rfl]

theorem Grows.step {s t u : State} (h : Grows s t) (hr : u.regs = t.regs) (hs : u.sent = t.sent) : Grows s u :=
  h.trans (.of_quiet (fun k _ => State.rd_congr hr k) (fun e he => by rw [hs]; exact he))

theorem Grows.wr {s t : State} (h : Grows s t) {k : Nat} (v : Word) (hk : quiet k = true) : Grows s (t.wr k v) :=
  h.trans (.of_quiet (fun j hj => by
    rw [State.wr_rd]
    split
    · next e => rw [e, hk] at hj; cases hj
    · rfl) fun _ he => he)

theorem Grows.wrN {s t : State} (h : Grows s t) {k : Nat} (v : Nat) (hk : quiet k = true) : Grows s (t.wrN k v) := h.wr _ hk
theorem Grows.count {s t : State} (h : Grows s t) {k : Nat} (hk : quiet k = true) : Grows s (t.count k) := h.wr _ hk
theorem Grows.putFld {s t : State} (h : Grows s t) {k lo n v : Nat} (hk : quiet k = true) : Grows s (t.putFld k lo n v) := h.wr _ hk
theorem Grows.putBit {s t : State} (h : Grows s t) {k i : Nat} {b : Bool} (hk : quiet k = true) : Grows s (t.putBit k i b) := h.wr _ hk
theorem Grows.emit {s t : State} (h : Grows s t) (e : Emit) : Grows s (t.emit e) :=
  h.trans (.of_quiet (fun _ _ => rfl) fun _ he => .tail _ he)
theorem Grows.useFree {s t : State} (h : Grows s t) : Grows s t.useFree := h.step rfl rfl

/-- A structure update that leaves the register file and what was sent alone. -/
theorem Grows.mk' {s t : State} (h : Grows s t) {p sh hi lo cl pg gu st ta fr ci ca me td mm sv pw fs} :
    Grows s (State.mk p t.sent t.regs sh hi lo cl pg gu st ta fr ci ca me td mm sv pw fs) := h.step rfl rfl

theorem Grows.ite {s a b : State} {c : Prop} [Decidable c] (ha : Grows s a) (hb : Grows s b) : Grows s (if c then a else b) := by
  split <;> assumption

/-- An event is only ever set. -/
theorem Grows.ev {s t : State} (h : Grows s t) (p i : Nat) : Grows s (t.event p i) := by
  refine h.trans ?_
  have hne : ∀ k, k % 4096 ≠ 0x14 → (t.event p i).rd k = t.rd k := fun k hk => by
    rw [State.rd_event, if_neg]
    intro e
    have := pageBase_mod p
    simp only [R.PG_EVENT] at e
    omega
  refine ⟨fun q j hj hq => ?_, fun q _ => hne _ ?_, fun q _ => ?_, ?_, fun _ he => he⟩
  · unfold State.bit at *
    rw [State.rd_event]
    split
    · next e =>
      rw [Machine.bit_putFld _ _ _ _ _ hj]
      rw [e] at hq
      split
      · next hr => have : j - i = 0 := by omega
                   simp [this]
      · exact hq
    · exact hq
  · have := pageBase_mod q
    simp only [R.PG_ERR_FIRST]; omega
  · have := pageBase_mod q
    unfold State.rd64
    rw [hne _ (by simp only [R.PG_ERR_STRIDE]; omega), hne _ (by simp only [R.PG_ERR_STRIDE]; omega)]
  · unfold State.now State.rd64
    rw [hne _ (by decide), hne _ (by decide)]

/-! ### First-error capture (R71) -/

/-- The word that a capture writes. -/
theorem capture_first (s : State) (p code level sub : Nat) (inj : Bool) (h : s.bit (R.PG_ERR_FIRST p) 31 = false) :
    (s.capture p code level sub inj).rd (R.PG_ERR_FIRST p) =
      BitVec.ofNat 32 (2 ^ 31 + (level % 8) * 2 ^ 28 + inj.toNat * 2 ^ 27 + (sub % 256) * 2 ^ 16 + code % 65536) := by
  unfold State.capture
  have hm := pageBase_mod p
  rw [if_neg (by simp [h]), State.rd_event, if_neg (by simp only [R.PG_ERR_FIRST, R.PG_EVENT]; omega), State.rd_wr64,
    if_neg (by simp only [R.PG_ERR_FIRST, R.PG_ERR_STRIDE]; omega), if_neg (by simp only [R.PG_ERR_FIRST, R.PG_ERR_STRIDE]; omega),
    State.rd_wrN, if_pos rfl]

/-- Writing a capture keeps what the others hold. -/
theorem Grows.newCapture {s : State} {p : Nat} (hv : s.bit (R.PG_ERR_FIRST p) 31 = false) (v : Nat) (w : DWord) :
    Grows s ((s.wrN (R.PG_ERR_FIRST p) v).wr64 (R.PG_ERR_STRIDE p) w) := by
  have hp := pageBase_mod p
  have hb : ∀ k, k ≠ pageBase p + 0x20 → k ≠ pageBase p + 0x28 → k ≠ pageBase p + 0x2C →
      ((s.wrN (R.PG_ERR_FIRST p) v).wr64 (R.PG_ERR_STRIDE p) w).rd k = s.rd k := fun k h1 h2 h3 => by
    rw [State.rd_wr64, if_neg h3, if_neg h2, State.rd_wrN, if_neg h1]
  have hq : ∀ q, s.bit (R.PG_ERR_FIRST q) 31 = true → pageBase q ≠ pageBase p := fun q hq e => by
    simp only [R.PG_ERR_FIRST, e] at hq
    simp only [R.PG_ERR_FIRST] at hv
    rw [hv] at hq
    cases hq
  refine ⟨fun q j _ h => ?_, fun q h => ?_, fun q h => ?_, ?_, fun _ he => he⟩
  · unfold State.bit at *
    rw [hb (R.PG_EVENT q) (hdr_ne p q (by decide) (by decide) (by decide)) (hdr_ne p q (by decide) (by decide) (by decide))
      (hdr_ne p q (by decide) (by decide) (by decide))]
    exact h
  · have h3 := hq q h
    exact hb (R.PG_ERR_FIRST q) (hdr_ne' h3 (by decide) (by decide)) (hdr_ne' h3 (by decide) (by decide)) (hdr_ne' h3 (by decide) (by decide))
  · have h3 := hq q h
    unfold State.rd64
    rw [hb (R.PG_ERR_STRIDE q) (hdr_ne' h3 (by decide) (by decide)) (hdr_ne' h3 (by decide) (by decide))
        (hdr_ne' h3 (by decide) (by decide)),
      hb (R.PG_ERR_STRIDE q + 4) (hdr_ne' (a := 0x2C) h3 (by decide) (by decide)) (hdr_ne' (a := 0x2C) h3 (by decide) (by decide))
        (hdr_ne' (a := 0x2C) h3 (by decide) (by decide))]
  · unfold State.now State.rd64
    rw [hb R.STR_NUM (hdr_ne_of p (by decide) (by decide)) (hdr_ne_of p (by decide) (by decide)) (hdr_ne_of p (by decide) (by decide)),
      hb (R.STR_NUM + 4) (hdr_ne_of p (by decide) (by decide)) (hdr_ne_of p (by decide) (by decide))
        (hdr_ne_of p (by decide) (by decide))]

theorem capture_grows (s : State) (p code level sub : Nat) (inj : Bool) : Grows s (s.capture p code level sub inj) := by
  unfold State.capture
  split
  · refine (Grows.refl s).count ?_
    have := pageBase_mod p
    rw [quiet_iff]
    show (pageBase p + 0x24) % 4096 ≠ _ ∧ (pageBase p + 0x24) % 4096 ≠ _ ∧ (pageBase p + 0x24) % 4096 ≠ _
      ∧ (pageBase p + 0x24) % 4096 ≠ _ ∧ pageBase p + 0x24 ≠ _ ∧ pageBase p + 0x24 ≠ _
    omega
  · next hv => exact Grows.ev (Grows.newCapture (by simpa using hv) _ _) p 31

/-- A capture shows the error as R71 has it. -/
theorem captured_capture (s : State) (p code level sub : Nat) (inj : Bool) :
    captured s (s.capture p code level sub inj) p code level sub inj := by
  have hg := capture_grows s p code level sub inj
  unfold captured
  by_cases h : s.bit (R.PG_ERR_FIRST p) 31 = true
  · rw [if_pos h]
    exact ⟨hg.valid h, hg.first p h, hg.stride p h⟩
  · have h' : s.bit (R.PG_ERR_FIRST p) 31 = false := by simpa using h
    have hw := capture_first s p code level sub inj h'
    have hlt : 2 ^ 31 + (level % 8) * 2 ^ 28 + inj.toNat * 2 ^ 27 + (sub % 256) * 2 ^ 16 + code % 65536 < 2 ^ 32 := by
      have := Bool.toNat_le inj
      omega
    have hi := Bool.toNat_le inj
    have hbit : ∀ i, (s.capture p code level sub inj).bit (R.PG_ERR_FIRST p) i = decide
        ((2 ^ 31 + (level % 8) * 2 ^ 28 + inj.toNat * 2 ^ 27 + (sub % 256) * 2 ^ 16 + code % 65536) / 2 ^ i % 2 ^ 1 = 1) := fun i => by
      unfold State.bit
      rw [bit_eq_fld, hw, fld_ofNat _ _ _ hlt]
    rw [if_neg h]
    refine ⟨?_, ?_, ?_, ?_, ?_, ?_, ?_⟩
    · rw [hbit]
      simp only [decide_eq_true_eq]
      omega
    · unfold State.fld
      rw [hw, fld_ofNat _ _ _ hlt]
      omega
    · unfold State.fld
      rw [hw, fld_ofNat _ _ _ hlt]
      omega
    · unfold State.fld
      rw [hw, fld_ofNat _ _ _ hlt]
      omega
    · rw [hbit]
      cases inj <;> simp only [Bool.toNat_true, Bool.toNat_false, decide_eq_true_eq, decide_eq_false_iff_not] <;> omega
    · unfold State.capture
      have := pageBase_mod p
      rw [if_neg h]
      unfold State.event State.putBit State.putFld State.rd64
      rw [State.wr_rd, if_neg (by simp only [R.PG_ERR_STRIDE, R.PG_EVENT]; omega), State.wr_rd,
        if_neg (by simp only [R.PG_ERR_STRIDE, R.PG_EVENT]; omega)]
      exact State.rd64_wr64 _ _ _
    · unfold State.capture
      rw [if_neg h]
      exact State.bit_event _ _ _ (by decide)

/-- What follows a capture leaves it captured. -/
theorem captured_grows {s t u : State} {p code level sub : Nat} {inj : Bool} (h : captured s t p code level sub inj) (g : Grows t u) :
    captured s u p code level sub inj := by
  obtain ⟨h1, h2⟩ := h
  refine ⟨g.valid h1, ?_⟩
  have e : u.rd (R.PG_ERR_FIRST p) = t.rd (R.PG_ERR_FIRST p) := g.first p h1
  have e' : u.rd64 (R.PG_ERR_STRIDE p) = t.rd64 (R.PG_ERR_STRIDE p) := g.stride p h1
  split
  · next hs =>
    rw [if_pos hs] at h2
    exact ⟨e.trans h2.1, e'.trans h2.2⟩
  · next hs =>
    rw [if_neg hs] at h2
    obtain ⟨a, b, c, d, f, k⟩ := h2
    unfold State.fld State.bit at *
    rw [e]
    exact ⟨a, b, c, d, e'.trans f, g.event p 31 (by decide) k⟩

/-- What precedes a capture, and leaves the page's capture and the stride number alone, does not matter. -/
theorem captured_of_eq {s s' t : State} {p code level sub : Nat} {inj : Bool} (h : captured s' t p code level sub inj)
    (h1 : s'.rd (R.PG_ERR_FIRST p) = s.rd (R.PG_ERR_FIRST p)) (h2 : s'.rd64 (R.PG_ERR_STRIDE p) = s.rd64 (R.PG_ERR_STRIDE p))
    (h3 : s'.now = s.now) : captured s t p code level sub inj := by
  unfold captured State.bit at *
  rw [h1, h2, h3] at h
  exact h

/-! ### The parts of placing a fault -/

theorem Grows.diagCopy {s t : State} (h : Grows s t) (r : StbRec) : Grows s (t.diagCopy r) := by
  unfold State.diagCopy
  try dsimp only
  repeat' (first
    | with_reducible assumption
    | with_reducible refine Grows.ite ?_ ?_
    | with_reducible refine Grows.ev ?_ _ _
    | with_reducible refine Grows.count ?_ ?_
    | with_reducible refine Grows.wrN ?_ _ ?_
    | with_reducible refine Grows.putBit ?_ ?_
    | with_reducible refine Grows.putFld ?_ ?_
    | with_reducible refine Grows.emit ?_ _
    | with_reducible refine Grows.useFree ?_
    | exact (rfl : (_ : Bool) = _)
    | dsimp only
    | split
    | refine Grows.mk' ?_)

theorem Grows.startFlush {s t : State} (h : Grows s t) : Grows s t.startFlush := by
  unfold State.startFlush
  try dsimp only
  repeat' (first
    | with_reducible assumption
    | with_reducible refine Grows.ite ?_ ?_
    | with_reducible refine Grows.ev ?_ _ _
    | with_reducible refine Grows.count ?_ ?_
    | with_reducible refine Grows.wrN ?_ _ ?_
    | with_reducible refine Grows.putBit ?_ ?_
    | with_reducible refine Grows.putFld ?_ ?_
    | with_reducible refine Grows.emit ?_ _
    | with_reducible refine Grows.useFree ?_
    | exact (rfl : (_ : Bool) = _)
    | dsimp only
    | split
    | refine Grows.mk' ?_)

theorem Grows.appendRec {s t : State} (h : Grows s t) (typ sev src : Nat) (pay : List Byte) : Grows s (t.appendRec typ sev src pay).1 := by
  unfold State.appendRec
  try dsimp only
  repeat' (first
    | with_reducible assumption
    | with_reducible refine Grows.ite ?_ ?_
    | with_reducible refine Grows.ev ?_ _ _
    | with_reducible refine Grows.count ?_ ?_
    | with_reducible refine Grows.wrN ?_ _ ?_
    | with_reducible refine Grows.putBit ?_ ?_
    | with_reducible refine Grows.putFld ?_ ?_
    | with_reducible refine Grows.emit ?_ _
    | with_reducible refine Grows.useFree ?_
    | with_reducible refine Grows.diagCopy ?_ _
    | with_reducible refine Grows.startFlush ?_
    | exact (rfl : (_ : Bool) = _)
    | dsimp only
    | split
    | refine Grows.mk' ?_)

theorem Grows.setFwSlot {s t : State} (h : Grows s t) (b : Bool) (r : FwSlot) : Grows s (t.setFwSlot b r) := by
  unfold State.setFwSlot State.fwSlotShow
  cases b
  · exact ((Grows.mk' h).wrN (k := R.FW_SLOT 0) _ rfl).wrN (k := R.FW_SLOT_BUILD 0) _ rfl
  · exact ((Grows.mk' h).wrN (k := R.FW_SLOT 1) _ rfl).wrN (k := R.FW_SLOT_BUILD 1) _ rfl

theorem Grows.stagingEnd {s t : State} (h : Grows s t) (result : Nat) : Grows s (t.stagingEnd result) := by
  unfold State.stagingEnd
  try dsimp only
  repeat' (first
    | with_reducible assumption
    | with_reducible refine Grows.ite ?_ ?_
    | with_reducible refine Grows.ev ?_ _ _
    | with_reducible refine Grows.count ?_ ?_
    | with_reducible refine Grows.wrN ?_ _ ?_
    | with_reducible refine Grows.putBit ?_ ?_
    | with_reducible refine Grows.putFld ?_ ?_
    | with_reducible refine Grows.emit ?_ _
    | with_reducible refine Grows.useFree ?_
    | exact (rfl : (_ : Bool) = _)
    | dsimp only
    | split
    | refine Grows.mk' ?_)

theorem Grows.stagingAbort {s t : State} (h : Grows s t) : Grows s t.stagingAbort := by
  unfold State.stagingAbort
  try dsimp only
  repeat' (first
    | with_reducible assumption
    | with_reducible refine Grows.ite ?_ ?_
    | with_reducible refine Grows.ev ?_ _ _
    | with_reducible refine Grows.count ?_ ?_
    | with_reducible refine Grows.wrN ?_ _ ?_
    | with_reducible refine Grows.putBit ?_ ?_
    | with_reducible refine Grows.putFld ?_ ?_
    | with_reducible refine Grows.emit ?_ _
    | with_reducible refine Grows.useFree ?_
    | with_reducible refine Grows.stagingEnd ?_ _
    | with_reducible refine Grows.setFwSlot ?_ _ _
    | exact (rfl : (_ : Bool) = _)
    | dsimp only
    | split
    | refine Grows.mk' ?_)

theorem Grows.fenceHead {s t : State} (h : Grows s t) : Grows s t.fenceHead := by
  unfold State.fenceHead
  try dsimp only
  repeat' (first
    | with_reducible assumption
    | with_reducible refine Grows.ite ?_ ?_
    | with_reducible refine Grows.ev ?_ _ _
    | with_reducible refine Grows.count ?_ ?_
    | with_reducible refine Grows.wrN ?_ _ ?_
    | with_reducible refine Grows.putBit ?_ ?_
    | with_reducible refine Grows.putFld ?_ ?_
    | with_reducible refine Grows.emit ?_ _
    | with_reducible refine Grows.useFree ?_
    | with_reducible refine Grows.stagingAbort ?_
    | exact (rfl : (_ : Bool) = _)
    | dsimp only
    | split
    | refine Grows.mk' ?_)

theorem Grows.startLifeSave {s t : State} (h : Grows s t) : Grows s t.startLifeSave := by
  unfold State.startLifeSave
  try dsimp only
  repeat' (first
    | with_reducible assumption
    | with_reducible refine Grows.ite ?_ ?_
    | with_reducible refine Grows.ev ?_ _ _
    | with_reducible refine Grows.count ?_ ?_
    | with_reducible refine Grows.wrN ?_ _ ?_
    | with_reducible refine Grows.putBit ?_ ?_
    | with_reducible refine Grows.putFld ?_ ?_
    | with_reducible refine Grows.emit ?_ _
    | with_reducible refine Grows.useFree ?_
    | exact (rfl : (_ : Bool) = _)
    | dsimp only
    | split
    | refine Grows.mk' ?_)

theorem Grows.actNow {s t : State} (h : Grows s t) (level : Nat) : Grows s (t.actNow level) := by
  unfold State.actNow
  try dsimp only
  repeat' (first
    | with_reducible assumption
    | with_reducible refine Grows.ite ?_ ?_
    | with_reducible refine Grows.ev ?_ _ _
    | with_reducible refine Grows.count ?_ ?_
    | with_reducible refine Grows.wrN ?_ _ ?_
    | with_reducible refine Grows.putBit ?_ ?_
    | with_reducible refine Grows.putFld ?_ ?_
    | with_reducible refine Grows.emit ?_ _
    | with_reducible refine Grows.useFree ?_
    | with_reducible refine Grows.fenceHead ?_
    | with_reducible refine Grows.startLifeSave ?_
    | exact (rfl : (_ : Bool) = _)
    | dsimp only
    | split
    | refine Grows.mk' ?_)

theorem Grows.setLadder {s t : State} (h : Grows s t) (l : List LadEntry) : Grows s (t.setLadder l) := h.step rfl rfl

theorem Grows.setGuard {s t : State} (h : Grows s t) (g : GuardSt) : Grows s (t.setGuard g) := h.step rfl rfl

theorem Grows.faultRecord {s t : State} (h : Grows s t) (p code level sub : Nat) (inj esc : Bool) (fl c r : Nat) : Grows s (t.faultRecord p code level sub inj esc fl c r).1 := by
  unfold State.faultRecord
  try dsimp only
  repeat' (first
    | with_reducible assumption
    | with_reducible refine Grows.ite ?_ ?_
    | with_reducible refine Grows.ev ?_ _ _
    | with_reducible refine Grows.count ?_ ?_
    | with_reducible refine Grows.wrN ?_ _ ?_
    | with_reducible refine Grows.putBit ?_ ?_
    | with_reducible refine Grows.putFld ?_ ?_
    | with_reducible refine Grows.emit ?_ _
    | with_reducible refine Grows.useFree ?_
    | with_reducible refine Grows.diagCopy ?_ _
    | with_reducible refine Grows.appendRec ?_ _ _ _ _
    | with_reducible refine Grows.setGuard ?_ _
    | exact (rfl : (_ : Bool) = _)
    | dsimp only
    | split
    | refine Grows.mk' ?_)

theorem Grows.l2Plus {s t : State} (h : Grows s t) (level : Nat) : Grows s (t.l2Plus level) := by
  unfold State.l2Plus
  try dsimp only
  repeat' (first
    | with_reducible assumption
    | with_reducible refine Grows.ite ?_ ?_
    | with_reducible refine Grows.ev ?_ _ _
    | with_reducible refine Grows.count ?_ ?_
    | with_reducible refine Grows.wrN ?_ _ ?_
    | with_reducible refine Grows.putBit ?_ ?_
    | with_reducible refine Grows.putFld ?_ ?_
    | with_reducible refine Grows.emit ?_ _
    | with_reducible refine Grows.useFree ?_
    | with_reducible refine Grows.startFlush ?_
    | exact (rfl : (_ : Bool) = _)
    | dsimp only
    | split
    | refine Grows.mk' ?_)

theorem Grows.levelCount {s t : State} (h : Grows s t) (level : Nat) : Grows s (t.levelCount level) := by
  refine h.count ?_
  rw [quiet_iff]
  simp only [R.GD_LEVEL_COUNT]
  omega

theorem Grows.capture {s t : State} (h : Grows s t) (p code level sub : Nat) (inj : Bool) : Grows s (t.capture p code level sub inj) :=
  h.trans (capture_grows t p code level sub inj)

theorem Grows.enqueue {s t : State} (h : Grows s t) (e : LadEntry) : Grows s (t.enqueue e) := by
  unfold State.enqueue
  try dsimp only
  repeat' (first
    | with_reducible assumption
    | with_reducible refine Grows.ite ?_ ?_
    | with_reducible refine Grows.ev ?_ _ _
    | with_reducible refine Grows.count ?_ ?_
    | with_reducible refine Grows.wrN ?_ _ ?_
    | with_reducible refine Grows.putBit ?_ ?_
    | with_reducible refine Grows.putFld ?_ ?_
    | with_reducible refine Grows.emit ?_ _
    | with_reducible refine Grows.useFree ?_
    | with_reducible refine Grows.capture ?_ _ _ _ _ _
    | with_reducible refine Grows.levelCount ?_ _
    | with_reducible refine Grows.faultRecord ?_ _ _ _ _ _ _ _ _ _
    | with_reducible refine Grows.l2Plus ?_ _
    | with_reducible refine Grows.actNow ?_ _
    | with_reducible refine Grows.setLadder ?_ _
    | exact (rfl : (_ : Bool) = _)
    | dsimp only
    | split
    | refine Grows.mk' ?_)

theorem Grows.escalate {s t : State} (h : Grows s t) (e : LadEntry) (inj : Bool) : Grows s (t.escalate e inj) := by
  unfold State.escalate
  try dsimp only
  repeat' (first
    | with_reducible assumption
    | with_reducible refine Grows.ite ?_ ?_
    | with_reducible refine Grows.ev ?_ _ _
    | with_reducible refine Grows.count ?_ ?_
    | with_reducible refine Grows.wrN ?_ _ ?_
    | with_reducible refine Grows.putBit ?_ ?_
    | with_reducible refine Grows.putFld ?_ ?_
    | with_reducible refine Grows.emit ?_ _
    | with_reducible refine Grows.useFree ?_
    | with_reducible refine Grows.capture ?_ _ _ _ _ _
    | with_reducible refine Grows.levelCount ?_ _
    | with_reducible refine Grows.faultRecord ?_ _ _ _ _ _ _ _ _ _
    | with_reducible refine Grows.l2Plus ?_ _
    | with_reducible refine Grows.actNow ?_ _
    | with_reducible refine Grows.setLadder ?_ _
    | exact (rfl : (_ : Bool) = _)
    | dsimp only
    | split
    | refine Grows.mk' ?_)

theorem Grows.placeFull {s t : State} (h : Grows s t) (full : Bool) : Grows s (t.placeFull full) := by
  unfold State.placeFull
  try dsimp only
  repeat' (first
    | with_reducible assumption
    | with_reducible refine Grows.ite ?_ ?_
    | with_reducible refine Grows.ev ?_ _ _
    | with_reducible refine Grows.count ?_ ?_
    | with_reducible refine Grows.wrN ?_ _ ?_
    | with_reducible refine Grows.putBit ?_ ?_
    | with_reducible refine Grows.putFld ?_ ?_
    | with_reducible refine Grows.emit ?_ _
    | with_reducible refine Grows.useFree ?_
    | with_reducible refine Grows.capture ?_ _ _ _ _ _
    | with_reducible refine Grows.levelCount ?_ _
    | with_reducible refine Grows.faultRecord ?_ _ _ _ _ _ _ _ _ _
    | with_reducible refine Grows.l2Plus ?_ _
    | with_reducible refine Grows.actNow ?_ _
    | with_reducible refine Grows.setLadder ?_ _
    | with_reducible refine Grows.enqueue ?_ _
    | exact (rfl : (_ : Bool) = _)
    | dsimp only
    | split
    | refine Grows.mk' ?_)

theorem Grows.place {s t : State} (h : Grows s t) (p code level sub : Nat) (inj : Bool) : Grows s (t.place p code level sub inj) := by
  unfold State.place
  try dsimp only
  repeat' (first
    | with_reducible assumption
    | with_reducible refine Grows.ite ?_ ?_
    | with_reducible refine Grows.ev ?_ _ _
    | with_reducible refine Grows.count ?_ ?_
    | with_reducible refine Grows.wrN ?_ _ ?_
    | with_reducible refine Grows.putBit ?_ ?_
    | with_reducible refine Grows.putFld ?_ ?_
    | with_reducible refine Grows.emit ?_ _
    | with_reducible refine Grows.useFree ?_
    | with_reducible refine Grows.capture ?_ _ _ _ _ _
    | with_reducible refine Grows.levelCount ?_ _
    | with_reducible refine Grows.faultRecord ?_ _ _ _ _ _ _ _ _ _
    | with_reducible refine Grows.l2Plus ?_ _
    | with_reducible refine Grows.actNow ?_ _
    | with_reducible refine Grows.setLadder ?_ _
    | with_reducible refine Grows.enqueue ?_ _
    | with_reducible refine Grows.placeFull ?_ _
    | exact (rfl : (_ : Bool) = _)
    | dsimp only
    | split
    | refine Grows.mk' ?_)

/-! ### Placing a fault, and recording -/

/-- What placing a fault does after the capture keeps events, captures, what was sent, and the stride number. -/
theorem raise_after (s : State) (p code level sub : Nat) (inj : Bool) :
    Grows (s.capture p code level sub inj) (s.raise p code level sub inj) := by
  unfold State.raise
  dsimp only
  split
  · exact (Grows.refl _).place _ _ _ _ _
  · exact Grows.ite ((Grows.refl _).escalate _ _) ((Grows.refl _).place _ _ _ _ _)

theorem Grows.raise {s t : State} (h : Grows s t) (p code level sub : Nat) (inj : Bool) : Grows s (t.raise p code level sub inj) :=
  (h.capture p code level sub inj).trans (raise_after t p code level sub inj)

theorem Grows.record {s t : State} (h : Grows s t) (typ sev src : Nat) (pay : List Byte) : Grows s (t.record typ sev src pay) := by
  unfold State.record
  exact (h.appendRec typ sev src pay).placeFull _

theorem Grows.writeDiscarded {s t : State} (h : Grows s t) (p : Nat) : Grows s (t.writeDiscarded p) := h.raise _ _ _ _ _

/-- A fault that is placed is captured (R71). -/
theorem captured_raise (s : State) (p code level sub : Nat) (inj : Bool) :
    captured s (s.raise p code level sub inj) p code level sub inj :=
  captured_grows (captured_capture s p code level sub inj) (raise_after s p code level sub inj)

/-- A refused write is captured as WRITE_DISCARDED (R70). -/
theorem captured_writeDiscarded (s : State) (p : Nat) : captured s (s.writeDiscarded p) p 0x0004 0 0 :=
  captured_raise s p 0x0004 0 0 false

end Sys2Proof.Machine
end

