-- ==== Sys2Proof/Laws/RgStride.lean ====
section
/-! SUPPORT. Register frames of the operations of Machine.Stride: the registers that each may write. -/

set_option maxRecDepth 20000
set_option Elab.async false
set_option linter.unusedTactic false
set_option linter.unreachableTactic false
set_option linter.unusedVariables false

namespace Sys2Proof.Machine

theorem State.setCal_rg {msk : Nat} {b₀ : State} {s : State} {sec : Nat} {ticks : Nat} (h₀ : Rg msk b₀ s) (hm₀ : 12582912 ||| msk = msk) :
    Rg msk b₀ (State.setCal s sec ticks) := by
  refine Rg.step h₀ ?_ hm₀
  clear h₀ hm₀
  unfold State.setCal
  try dsimp only
  repeat' (first
    | with_reducible exact Rg.refl _ _
    | with_reducible refine State.wrN_rg ?_ ?_
    | with_reducible refine State.wr64_rg ?_ ?_ ?_
    | with_reducible refine in_CAL_SEC ?_
    | with_reducible refine in_CAL_SEC4 ?_
    | with_reducible refine in_CAL_SUBSEC ?_
    | exact (rfl : (_ : Bool) = _))

theorem State.calSetApply_rg {msk : Nat} {b₀ : State} {s : State} (h₀ : Rg msk b₀ s) (hm₀ : 96107167241834975113312584178489302142293605564759693426004588894417285174339314651986626222954283729664672024879809959352794238588654061432213649874701322016 ||| msk = msk) :
    Rg msk b₀ (State.calSetApply s) := by
  refine Rg.step h₀ ?_ hm₀
  clear h₀ hm₀
  unfold State.calSetApply
  try dsimp only
  repeat' (first
    | with_reducible exact Rg.refl _ _
    | exact (rfl : (_ : Nat) = _)
    | with_reducible refine State.putBit_rg ?_ ?_
    | with_reducible refine State.setCal_rg ?_ ?_
    | with_reducible refine State.event_rg ?_ ?_
    | with_reducible refine State.record_rg ?_ ?_
    | with_reducible refine in_CAL_CTRL ?_
    | with_reducible refine in_CAL_STATUS ?_
    | exact (rfl : (_ : Bool) = _)
    | with_reducible refine Rg.ite ?_ ?_)

theorem State.ungate_rg {msk : Nat} {b₀ : State} {s : State} (h₀ : Rg msk b₀ s) (hm₀ : 32768 ||| msk = msk) :
    Rg msk b₀ (State.ungate s) := by
  refine Rg.step h₀ ?_ hm₀
  clear h₀ hm₀
  unfold State.ungate
  try dsimp only
  repeat' (first
    | with_reducible exact Rg.refl _ _
    | with_reducible refine State.putBit_rg ?_ ?_
    | with_reducible refine in_STR_CTRL ?_
    | exact (rfl : (_ : Bool) = _)
    | refine Rg.mk' ?_)

theorem State.lateCheck_rg {msk : Nat} {b₀ : State} {s : State} (h₀ : Rg msk b₀ s) (hm₀ : 32800 ||| msk = msk) :
    Rg msk b₀ (State.lateCheck s) := by
  refine Rg.step h₀ ?_ hm₀
  clear h₀ hm₀
  unfold State.lateCheck
  try dsimp only
  repeat' (first
    | with_reducible exact Rg.refl _ _
    | exact (rfl : (_ : Nat) = _)
    | with_reducible refine State.event_rg ?_ ?_
    | with_reducible refine State.ungate_rg ?_ ?_
    | with_reducible refine Rg.ite ?_ ?_)

theorem State.tjSeen_rg {msk : Nat} {b₀ : State} {s : State} {q : Int} (h₀ : Rg msk b₀ s) (hm₀ : 68719476736 ||| msk = msk) :
    Rg msk b₀ (State.tjSeen s q) := by
  refine Rg.step h₀ ?_ hm₀
  clear h₀ hm₀
  unfold State.tjSeen
  try dsimp only
  repeat' (first
    | with_reducible exact Rg.refl _ _
    | with_reducible assumption
    | exact (rfl : (_ : Nat) = _)
    | with_reducible refine State.wr_rg ?_ ?_
    | with_reducible refine in_TJ_MAX_SEEN ?_
    | with_reducible refine InSet.ite ?_ ?_
    | exact (rfl : (_ : Bool) = _)
    | dsimp only
    | with_reducible refine Rg.ite ?_ ?_
    | with_reducible refine Rg.ite₁ ?_ ?_
    | with_reducible refine RgS.ite ?_ ?_
    | with_reducible refine RgP.ite ?_ ?_
    | with_reducible exact RgS.none
    | with_reducible refine RgS.some ?_
    | with_reducible refine RgS.map ?_
    | with_reducible exact RgP.none
    | with_reducible refine RgP.some ?_
    | with_reducible refine Rg.elim ?_ ?_
    | with_reducible refine Rg.foldl ?_ _ _ ?_
    | with_reducible refine Rg.foldl₂ ?_ _ _ ?_
    | intro _ _ _ _ _ _
    | intro _ _ _ _ _
    | intro _ _ _ _
    | intro _ _ _
    | intro _ _
    | intro _
    | with_reducible refine Rg.pair (h := ?_) (e := by assumption)
    | with_reducible refine RgO.got (h := ?_) (e := by assumption)
    | with_reducible refine RgS.get (h := ?_) (e := by assumption)
    | with_reducible refine RgP.get (h := ?_) (e := by assumption)
    | split)

theorem execCommitGateSet_rg {msk : Nat} {b₀ : State} {s : State} (h₀ : Rg msk b₀ s) (hm₀ : 32800 ||| msk = msk) :
    RgO msk b₀ (execCommitGateSet s) := by
  refine RgO.step h₀ ?_ hm₀
  clear h₀ hm₀
  unfold execCommitGateSet
  try dsimp only
  repeat' (first
    | with_reducible exact Rg.refl _ _
    | exact (rfl : (_ : Nat) = _)
    | with_reducible refine State.lateCheck_rg ?_ ?_
    | with_reducible refine State.putBit_rg ?_ ?_
    | with_reducible refine in_STR_CTRL ?_
    | exact (rfl : (_ : Bool) = _)
    | with_reducible refine RgO.next ?_)

theorem State.setSync_rg {msk : Nat} {b₀ : State} {s : State} {st : Nat} (h₀ : Rg msk b₀ s) (hm₀ : 196608 ||| msk = msk) :
    Rg msk b₀ (State.setSync s st) := by
  refine Rg.step h₀ ?_ hm₀
  clear h₀ hm₀
  unfold State.setSync
  try dsimp only
  repeat' (first
    | with_reducible exact Rg.refl _ _
    | with_reducible refine State.putFld_rg ?_ ?_
    | with_reducible refine State.wrN_rg ?_ ?_
    | with_reducible refine in_STR_OFFSET ?_
    | with_reducible refine in_STR_STATUS ?_
    | exact (rfl : (_ : Bool) = _)
    | with_reducible refine Rg.ite ?_ ?_)

theorem execMasterTake_rg {msk : Nat} {b₀ : State} {s : State} (h₀ : Rg msk b₀ s) (hm₀ : 196608 ||| msk = msk) :
    RgO msk b₀ (execMasterTake s) := by
  refine RgO.step h₀ ?_ hm₀
  clear h₀ hm₀
  unfold execMasterTake
  try dsimp only
  repeat' (first
    | with_reducible exact Rg.refl _ _
    | exact (rfl : (_ : Nat) = _)
    | with_reducible refine State.setSync_rg ?_ ?_
    | with_reducible refine State.putBit_rg ?_ ?_
    | with_reducible refine in_STR_STATUS ?_
    | exact (rfl : (_ : Bool) = _)
    | with_reducible refine Rg.ite ?_ ?_
    | with_reducible refine RgO.next ?_)

theorem execSyncLocked_rg {msk : Nat} {b₀ : State} {s : State} (h₀ : Rg msk b₀ s) (hm₀ : 196640 ||| msk = msk) :
    RgO msk b₀ (execSyncLocked s) := by
  refine RgO.step h₀ ?_ hm₀
  clear h₀ hm₀
  unfold execSyncLocked
  try dsimp only
  repeat' (first
    | with_reducible exact Rg.refl _ _
    | exact (rfl : (_ : Nat) = _)
    | with_reducible refine State.setSync_rg ?_ ?_
    | with_reducible refine State.event_rg ?_ ?_
    | with_reducible refine Rg.ite ?_ ?_
    | with_reducible refine RgO.next ?_)

theorem execAcquireTimeout_rg {msk : Nat} {b₀ : State} {s : State} (h₀ : Rg msk b₀ s) (hm₀ : 196608 ||| msk = msk) :
    RgO msk b₀ (execAcquireTimeout s) := by
  refine RgO.step h₀ ?_ hm₀
  clear h₀ hm₀
  unfold execAcquireTimeout
  try dsimp only
  repeat' (first
    | with_reducible exact Rg.refl _ _
    | exact (rfl : (_ : Nat) = _)
    | with_reducible refine State.setSync_rg ?_ ?_
    | with_reducible refine Rg.ite ?_ ?_
    | with_reducible refine RgO.next ?_
    | refine Rg.mk' ?_)

theorem execOscStopped_rg {msk : Nat} {b₀ : State} {s : State} (h₀ : Rg msk b₀ s) (hm₀ : 134217760 ||| msk = msk) :
    RgO msk b₀ (execOscStopped s) := by
  refine RgO.step h₀ ?_ hm₀
  clear h₀ hm₀
  unfold execOscStopped
  try dsimp only
  repeat' (first
    | with_reducible exact Rg.refl _ _
    | exact (rfl : (_ : Nat) = _)
    | with_reducible refine State.event_rg ?_ ?_
    | with_reducible refine State.putBit_rg ?_ ?_
    | with_reducible refine in_CAL_STATUS ?_
    | exact (rfl : (_ : Bool) = _)
    | with_reducible refine RgO.next ?_
    | refine Rg.mk' ?_)

theorem execCalSecondRollover_rg {msk : Nat} {b₀ : State} {clk : Nat} {s : State} (h₀ : Rg msk b₀ s) (hm₀ : 805306368 ||| msk = msk) :
    RgO msk b₀ (execCalSecondRollover clk s) := by
  refine RgO.step h₀ ?_ hm₀
  clear h₀ hm₀
  unfold execCalSecondRollover
  try dsimp only
  repeat' (first
    | with_reducible exact Rg.refl _ _
    | with_reducible refine State.wrN_rg ?_ ?_
    | with_reducible refine State.wr64_rg ?_ ?_ ?_
    | with_reducible refine in_CAL_AT_CLK ?_
    | with_reducible refine in_CAL_AT_STRIDE ?_
    | with_reducible refine in_CAL_AT_STRIDE4 ?_
    | exact (rfl : (_ : Bool) = _)
    | with_reducible refine RgO.next ?_)

theorem execStrideSyncEdge_rg {msk : Nat} {b₀ : State} {raw : Int} {s : State} (h₀ : Rg msk b₀ s) (hm₀ : 196640 ||| msk = msk) :
    RgO msk b₀ (execStrideSyncEdge raw s) := by
  refine RgO.step h₀ ?_ hm₀
  clear h₀ hm₀
  unfold execStrideSyncEdge
  try dsimp only
  repeat' (first
    | with_reducible exact Rg.refl _ _
    | exact (rfl : (_ : Nat) = _)
    | with_reducible refine State.wr_rg ?_ ?_
    | with_reducible refine State.setSync_rg ?_ ?_
    | with_reducible refine State.event_rg ?_ ?_
    | with_reducible refine in_STR_OFFSET ?_
    | exact (rfl : (_ : Bool) = _)
    | with_reducible refine RgO.ite ?_ ?_
    | with_reducible refine RgO.next ?_
    | split
    | refine Rg.mk' ?_)

theorem execCommitGateClear_rg {msk : Nat} {b₀ : State} {s : State} (h₀ : Rg msk b₀ s) (hm₀ : 32768 ||| msk = msk) :
    RgO msk b₀ (execCommitGateClear s) := by
  refine RgO.step h₀ ?_ hm₀
  clear h₀ hm₀
  unfold execCommitGateClear
  try dsimp only
  repeat' (first
    | with_reducible exact Rg.refl _ _
    | exact (rfl : (_ : Nat) = _)
    | with_reducible refine State.ungate_rg ?_ ?_
    | with_reducible refine RgO.next ?_)

theorem execLifeSaveDone_rg {msk : Nat} {b₀ : State} {okA : Bool} {okB : Bool} {s : State} (h₀ : Rg msk b₀ s) (hm₀ : 96107167241834975113312584178489302142293605564759693426004588894417285174339314651986626222954283729664672024879809959352794238588654061432213649926060574496 ||| msk = msk) :
    RgO msk b₀ (execLifeSaveDone okA okB s) := by
  refine RgO.step h₀ ?_ hm₀
  clear h₀ hm₀
  unfold execLifeSaveDone
  try dsimp only
  repeat' (first
    | with_reducible exact Rg.refl _ _
    | exact (rfl : (_ : Nat) = _)
    | with_reducible refine State.putBit_rg ?_ ?_
    | with_reducible refine State.putFld_rg ?_ ?_
    | with_reducible refine State.event_rg ?_ ?_
    | with_reducible refine State.raise_rg ?_ ?_
    | with_reducible refine State.useFree_rg ?_ ?_
    | with_reducible refine in_LIFE_CTRL ?_
    | with_reducible refine in_LIFE_STATUS ?_
    | exact (rfl : (_ : Bool) = _)
    | with_reducible refine RgO.ite ?_ ?_
    | with_reducible refine RgO.next ?_
    | split
    | refine Rg.mk' ?_)

theorem execSyncEdgeLost_rg {msk : Nat} {b₀ : State} {s : State} (h₀ : Rg msk b₀ s) (hm₀ : 196640 ||| msk = msk) :
    RgO msk b₀ (execSyncEdgeLost s) := by
  refine RgO.step h₀ ?_ hm₀
  clear h₀ hm₀
  unfold execSyncEdgeLost
  try dsimp only
  repeat' (first
    | with_reducible exact Rg.refl _ _
    | exact (rfl : (_ : Nat) = _)
    | with_reducible refine State.setSync_rg ?_ ?_
    | with_reducible refine State.event_rg ?_ ?_
    | with_reducible refine Rg.ite ?_ ?_
    | with_reducible refine RgO.next ?_)

theorem execTempBandCount_rg {msk : Nat} {b₀ : State} {q : Int} {s : State} (h₀ : Rg msk b₀ s) (hm₀ : 206158430208 ||| msk = msk) :
    RgO msk b₀ (execTempBandCount q s) := by
  refine RgO.step h₀ ?_ hm₀
  clear h₀ hm₀
  unfold execTempBandCount
  try dsimp only
  repeat' (first
    | with_reducible exact Rg.refl _ _
    | with_reducible assumption
    | exact (rfl : (_ : Nat) = _)
    | with_reducible refine State.tjSeen_rg ?_ ?_
    | with_reducible refine State.count_rg ?_ ?_
    | with_reducible refine in_TEMP_BAND ?_
    | with_reducible refine InSet.ite ?_ ?_
    | exact (rfl : (_ : Bool) = _)
    | dsimp only
    | with_reducible refine Rg.ite ?_ ?_
    | with_reducible refine Rg.ite₁ ?_ ?_
    | with_reducible refine RgO.ite ?_ ?_
    | with_reducible refine RgS.ite ?_ ?_
    | with_reducible refine RgP.ite ?_ ?_
    | with_reducible refine RgO.next ?_
    | with_reducible exact RgS.none
    | with_reducible refine RgS.some ?_
    | with_reducible refine RgS.map ?_
    | with_reducible exact RgP.none
    | with_reducible refine RgP.some ?_
    | with_reducible refine Rg.elim ?_ ?_
    | with_reducible refine Rg.foldl ?_ _ _ ?_
    | with_reducible refine Rg.foldl₂ ?_ _ _ ?_
    | intro _ _ _ _ _ _
    | intro _ _ _ _ _
    | intro _ _ _ _
    | intro _ _ _
    | intro _ _
    | intro _
    | with_reducible refine Rg.pair (h := ?_) (e := by assumption)
    | with_reducible refine RgO.got (h := ?_) (e := by assumption)
    | with_reducible refine RgS.get (h := ?_) (e := by assumption)
    | with_reducible refine RgP.get (h := ?_) (e := by assumption)
    | split)

theorem execOverrunRepeat_rg {msk : Nat} {b₀ : State} {p : Nat} {unit : Nat} {s : State} (h₀ : Rg msk b₀ s) (hm₀ : 96107167241834975113312584178489302142293605564759693426004588894417285174339314651986626222954283729664672024879809959352794238588654061432213649874520966944 ||| msk = msk) :
    RgO msk b₀ (execOverrunRepeat p unit s) := by
  refine RgO.step h₀ ?_ hm₀
  clear h₀ hm₀
  unfold execOverrunRepeat
  try dsimp only
  repeat' (first
    | with_reducible exact Rg.refl _ _
    | exact (rfl : (_ : Nat) = _)
    | with_reducible refine State.raise_rg ?_ ?_
    | with_reducible refine Rg.ite ?_ ?_
    | with_reducible refine RgO.next ?_
    | split)

theorem execCalSet_rg {msk : Nat} {b₀ : State} {s : State} (h₀ : Rg msk b₀ s) (hm₀ : 33554432 ||| msk = msk) :
    RgO msk b₀ (execCalSet s) := by
  refine RgO.step h₀ ?_ hm₀
  clear h₀ hm₀
  unfold execCalSet
  try dsimp only
  repeat' (first
    | with_reducible exact Rg.refl _ _
    | with_reducible refine State.putBit_rg ?_ ?_
    | with_reducible refine in_CAL_CTRL ?_
    | exact (rfl : (_ : Bool) = _)
    | with_reducible refine RgO.next ?_)

theorem execLifeCtrlSave_rg {msk : Nat} {b₀ : State} {s : State} (h₀ : Rg msk b₀ s) (hm₀ : 17179869184 ||| msk = msk) :
    RgO msk b₀ (execLifeCtrlSave s) := by
  refine RgO.step h₀ ?_ hm₀
  clear h₀ hm₀
  unfold execLifeCtrlSave
  try dsimp only
  repeat' (first
    | with_reducible exact Rg.refl _ _
    | exact (rfl : (_ : Nat) = _)
    | with_reducible refine State.putBit_rg ?_ ?_
    | with_reducible refine State.startLifeSave_rg ?_ ?_
    | with_reducible refine in_LIFE_CTRL ?_
    | exact (rfl : (_ : Bool) = _)
    | with_reducible refine RgO.next ?_)

theorem execCalTick_rg {msk : Nat} {b₀ : State} {s : State} (h₀ : Rg msk b₀ s) (hm₀ : 12582912 ||| msk = msk) :
    RgO msk b₀ (execCalTick s) := by
  refine RgO.step h₀ ?_ hm₀
  clear h₀ hm₀
  unfold execCalTick
  try dsimp only
  repeat' (first
    | with_reducible exact Rg.refl _ _
    | exact (rfl : (_ : Nat) = _)
    | with_reducible refine State.setCal_rg ?_ ?_
    | with_reducible refine RgO.ite ?_ ?_
    | with_reducible refine RgO.next ?_
    | refine Rg.mk' ?_)

theorem execOverrun_rg {msk : Nat} {b₀ : State} {p : Nat} {unit : Nat} {clk : Nat} {s : State} (h₀ : Rg msk b₀ s) (hm₀ : 96107167241834975113312584178489302142293605564759693426004588894417285174339314651986626222954283729664672024879809959352794238588654061432213649874524112672 ||| msk = msk) :
    RgO msk b₀ (execOverrun p unit clk s) := by
  refine RgO.step h₀ ?_ hm₀
  clear h₀ hm₀
  unfold execOverrun
  try dsimp only
  repeat' (first
    | with_reducible exact Rg.refl _ _
    | exact (rfl : (_ : Nat) = _)
    | with_reducible refine State.raise_rg ?_ ?_
    | with_reducible refine State.event_rg ?_ ?_
    | with_reducible refine State.wr_rg ?_ ?_
    | with_reducible refine State.count_rg ?_ ?_
    | with_reducible refine in_STR_OVR_COUNT ?_
    | with_reducible refine in_STR_OVR_LAST ?_
    | exact (rfl : (_ : Bool) = _)
    | with_reducible refine RgO.next ?_
    | refine Rg.mk' ?_)

theorem execLifeSaveHourly_rg {msk : Nat} {b₀ : State} {s : State} (h₀ : Rg msk b₀ s) (hm₀ : 0 ||| msk = msk) :
    RgO msk b₀ (execLifeSaveHourly s) := by
  refine RgO.step h₀ ?_ hm₀
  clear h₀ hm₀
  unfold execLifeSaveHourly
  try dsimp only
  repeat' (first
    | with_reducible exact Rg.refl _ _
    | exact (rfl : (_ : Nat) = _)
    | with_reducible refine State.startLifeSave_rg ?_ ?_
    | with_reducible refine RgO.next ?_)

theorem execStrideAdopt_rg {msk : Nat} {b₀ : State} {s : State} (h₀ : Rg msk b₀ s) (hm₀ : 96107167241834975113312584178489302142293605564759693426004588894417285174339314651986626222954283729664672024879809959352794238588654061432213649874521114400 ||| msk = msk) :
    RgO msk b₀ (execStrideAdopt s) := by
  refine RgO.step h₀ ?_ hm₀
  clear h₀ hm₀
  unfold execStrideAdopt
  try dsimp only
  repeat' (first
    | with_reducible exact Rg.refl _ _
    | exact (rfl : (_ : Nat) = _)
    | with_reducible refine State.wr64_rg ?_ ?_ ?_
    | with_reducible refine State.setSync_rg ?_ ?_
    | with_reducible refine State.event_rg ?_ ?_
    | with_reducible refine State.record_rg ?_ ?_
    | with_reducible refine in_STR_NUM ?_
    | with_reducible refine in_STR_NUM4 ?_
    | exact (rfl : (_ : Bool) = _)
    | with_reducible refine RgO.ite ?_ ?_
    | with_reducible refine RgO.next ?_
    | split
    | refine Rg.mk' ?_)

end Sys2Proof.Machine
end

