-- ==== Sys2Proof/Laws/RgActivities.lean ====
section
/-! SUPPORT. Register frames of the operations of Machine.Activities: the registers that each may write. -/

set_option maxRecDepth 20000
set_option Elab.async false
set_option linter.unusedTactic false
set_option linter.unreachableTactic false
set_option linter.unusedVariables false

namespace Sys2Proof.Machine

theorem State.setActs_rg {msk : Nat} {b₀ : State} {s : State} {l : List Activity} (h₀ : Rg msk b₀ s) (hm₀ : 0 ||| msk = msk) :
    Rg msk b₀ (State.setActs s l) := by
  refine Rg.step h₀ ?_ hm₀
  clear h₀ hm₀
  unfold State.setActs
  try dsimp only
  repeat' (first
    | with_reducible exact Rg.refl _ _
    | refine Rg.mk' ?_)

theorem State.standing_rg {msk : Nat} {b₀ : State} {s : State} {code : Nat} {pool : Nat} (h₀ : Rg msk b₀ s) (hm₀ : 0 ||| msk = msk) :
    Rg msk b₀ (State.standing s code pool).1 := by
  refine Rg.step h₀ ?_ hm₀
  clear h₀ hm₀
  unfold State.standing
  try dsimp only
  repeat' (first
    | with_reducible exact Rg.refl _ _
    | exact (rfl : (_ : Nat) = _)
    | with_reducible refine State.setActs_rg ?_ ?_
    | dsimp only
    | with_reducible refine Rg.ite ?_ ?_
    | with_reducible refine Rg.ite₁ ?_ ?_)

theorem State.lastDecision_rg {msk : Nat} {b₀ : State} {s : State} {n : Activity} {d : Nat} {blocking : Nat} (h₀ : Rg msk b₀ s) (hm₀ : 6097165137335922326917182089439777940915230747392521779021790936768304177382354726797472857545882756171536974846497310342671827498609932238848 ||| msk = msk) :
    Rg msk b₀ (State.lastDecision s n d blocking) := by
  refine Rg.step h₀ ?_ hm₀
  clear h₀ hm₀
  unfold State.lastDecision
  try dsimp only
  repeat' (first
    | with_reducible exact Rg.refl _ _
    | with_reducible refine State.wrN_rg ?_ ?_
    | with_reducible refine in_GD_LAST_DECISION ?_
    | exact (rfl : (_ : Bool) = _))

theorem State.actStart_rg {msk : Nat} {b₀ : State} {s : State} {n : Activity} (h₀ : Rg msk b₀ s) (hm₀ : 6097165137335922326917182089439777940915230747392521779021790936768304177382354726797472857545882756171536974846497310342671827498609932238880 ||| msk = msk) :
    Rg msk b₀ (State.actStart s n).1 := by
  refine Rg.step h₀ ?_ hm₀
  clear h₀ hm₀
  unfold State.actStart
  try dsimp only
  repeat' (first
    | with_reducible exact Rg.refl _ _
    | exact (rfl : (_ : Nat) = _)
    | with_reducible refine State.lastDecision_rg ?_ ?_
    | with_reducible refine State.event_rg ?_ ?_
    | with_reducible refine State.setActs_rg ?_ ?_
    | with_reducible refine Rg.ite₁ ?_ ?_)

theorem State.actPause_rg {msk : Nat} {b₀ : State} {s : State} (h₀ : Rg msk b₀ s) (hm₀ : 0 ||| msk = msk) :
    Rg msk b₀ (State.actPause s) := by
  refine Rg.step h₀ ?_ hm₀
  clear h₀ hm₀
  unfold State.actPause
  try dsimp only
  repeat' (first
    | with_reducible exact Rg.refl _ _
    | exact (rfl : (_ : Nat) = _)
    | with_reducible refine State.setActs_rg ?_ ?_)

theorem State.actEnd_rg {msk : Nat} {b₀ : State} {s : State} {code : Nat} {pool : Nat} {f : Activity → Bool} (h₀ : Rg msk b₀ s) (hm₀ : 0 ||| msk = msk) :
    Rg msk b₀ (State.actEnd s code pool f) := by
  refine Rg.step h₀ ?_ hm₀
  clear h₀ hm₀
  unfold State.actEnd
  try dsimp only
  repeat' (first
    | with_reducible exact Rg.refl _ _
    | exact (rfl : (_ : Nat) = _)
    | with_reducible refine State.setActs_rg ?_ ?_)

end Sys2Proof.Machine
end

