-- ==== Sys2Proof/Laws/RgTorlux.lean ====
section
/-! SUPPORT. Register frames of the operations of Machine.Torlux: the registers that each may write. -/

set_option maxRecDepth 20000
set_option Elab.async false
set_option linter.unusedTactic false
set_option linter.unreachableTactic false
set_option linter.unusedVariables false

namespace Sys2Proof.Machine

theorem State.flitsSent_rg {msk : Nat} {b₀ : State} {s : State} {page : Nat} {reg : Nat} {l : FlitLink} {k : Nat} {kind : Nat} (hk : InSet msk reg) (h₀ : Rg msk b₀ s) (hm₀ : 2048 ||| msk = msk) :
    Rg msk b₀ (State.flitsSent s page reg l k kind) := by
  unfold State.flitsSent
  try dsimp only
  repeat' (first
    | with_reducible assumption
    | exact Rg.sub rfl hm₀
    | with_reducible refine State.emit_rg ?_ ?_
    | with_reducible refine State.countBy_rg ?_ ?_
    | with_reducible refine State.inject_rg ?_ ?_
    | with_reducible refine Rg.ite ?_ ?_)

theorem State.tlPump_rg {msk : Nat} {b₀ : State} {s : State} {x1 : Nat} (h₀ : Rg msk b₀ s) (hm₀ : 143343663499379469475676305956380433799785311823017570233599302461682679755530300504376159569382855411712 ||| msk = msk) :
    Rg msk b₀ (State.tlPump s x1) := by
  refine Rg.step h₀ ?_ hm₀
  clear h₀ hm₀
  fun_induction State.tlPump 
  all_goals try dsimp +zetaDelta only at *
  all_goals repeat' (first
    | with_reducible exact Rg.refl _ _
    | exact (rfl : (_ : Nat) = _)
    | with_reducible refine Rg.trans ?_ (by assumption)
    | with_reducible refine State.emit_rg ?_ ?_
    | with_reducible refine State.flitsSent_rg ?_ ?_ ?_
    | with_reducible refine in_TL_FLITS_TX ?_
    | exact (rfl : (_ : Bool) = _)
    | refine Rg.mk' ?_)

theorem State.tlSend_rg {msk : Nat} {b₀ : State} {s : State} {r : TlRec} (h₀ : Rg msk b₀ s) (hm₀ : 143343663499379469475676305956380433799785311823017570233599302461682679755530300504376159569382855411712 ||| msk = msk) :
    Rg msk b₀ (State.tlSend s r) := by
  refine Rg.step h₀ ?_ hm₀
  clear h₀ hm₀
  unfold State.tlSend
  try dsimp only
  repeat' (first
    | with_reducible exact Rg.refl _ _
    | exact (rfl : (_ : Nat) = _)
    | with_reducible refine State.tlPump_rg ?_ ?_
    | with_reducible refine Rg.ite ?_ ?_
    | refine Rg.mk' ?_)

theorem State.setTl_rg {msk : Nat} {b₀ : State} {s : State} {l : FlitLink} (h₀ : Rg msk b₀ s) (hm₀ : 0 ||| msk = msk) :
    Rg msk b₀ (State.setTl s l) := by
  refine Rg.step h₀ ?_ hm₀
  clear h₀ hm₀
  unfold State.setTl
  try dsimp only
  repeat' (first
    | with_reducible exact Rg.refl _ _
    | refine Rg.mk' ?_)

end Sys2Proof.Machine
end

