-- ==== Sys2Proof/Laws/RgOperands.lean ====
section
/-! SUPPORT. Register frames of the operations of Machine.Operands: the registers that each may write. -/

set_option maxRecDepth 20000
set_option Elab.async false
set_option linter.unusedTactic false
set_option linter.unreachableTactic false
set_option linter.unusedVariables false

namespace Sys2Proof.Machine

theorem State.dropCmd_rg {msk : Nat} {b₀ : State} {s : State} {n : Nat} (h₀ : Rg msk b₀ s) (hm₀ : 0 ||| msk = msk) :
    Rg msk b₀ (State.dropCmd s n) := by
  refine Rg.step h₀ ?_ hm₀
  clear h₀ hm₀
  unfold State.dropCmd
  try dsimp only
  repeat' (first
    | with_reducible exact Rg.refl _ _
    | refine Rg.mk' ?_)

theorem State.wrWin_rg {msk : Nat} {b₀ : State} {s : State} {f : Nat} {o : Nat} {v : Word} (h₀ : Rg msk b₀ s) (hm₀ : 0 ||| msk = msk) :
    Rg msk b₀ (State.wrWin s f o v) := by
  refine Rg.step h₀ ?_ hm₀
  clear h₀ hm₀
  unfold State.wrWin
  try dsimp only
  repeat' (first
    | with_reducible exact Rg.refl _ _
    | split
    | refine Rg.mk' ?_)

theorem State.winBit_rg {msk : Nat} {b₀ : State} {s : State} {f : Nat} {o : Nat} {i : Nat} {b : Bool} (h₀ : Rg msk b₀ s) (hm₀ : 0 ||| msk = msk) :
    Rg msk b₀ (State.winBit s f o i b) := by
  refine Rg.step h₀ ?_ hm₀
  clear h₀ hm₀
  unfold State.winBit
  try dsimp only
  repeat' (first
    | with_reducible exact Rg.refl _ _
    | exact (rfl : (_ : Nat) = _)
    | with_reducible refine State.wrWin_rg ?_ ?_)

theorem State.setFn_rg {msk : Nat} {b₀ : State} {s : State} {f : Nat} {x : Fn} (h₀ : Rg msk b₀ s) (hm₀ : 0 ||| msk = msk) :
    Rg msk b₀ (State.setFn s f x) := by
  refine Rg.step h₀ ?_ hm₀
  clear h₀ hm₀
  unfold State.setFn
  try dsimp only
  repeat' (first
    | with_reducible exact Rg.refl _ _
    | refine Rg.mk' ?_)

theorem State.setCmd_rg {msk : Nat} {b₀ : State} {s : State} {n : Nat} {c : HostCmd} (h₀ : Rg msk b₀ s) (hm₀ : 0 ||| msk = msk) :
    Rg msk b₀ (State.setCmd s n c) := by
  refine Rg.step h₀ ?_ hm₀
  clear h₀ hm₀
  unfold State.setCmd
  try dsimp only
  repeat' (first
    | with_reducible exact Rg.refl _ _
    | refine Rg.mk' ?_)

theorem State.setFnState_rg {msk : Nat} {b₀ : State} {s : State} {f : Nat} {st : Nat} (h₀ : Rg msk b₀ s) (hm₀ : 1180591620717411303424 ||| msk = msk) :
    Rg msk b₀ (State.setFnState s f st) := by
  refine Rg.step h₀ ?_ hm₀
  clear h₀ hm₀
  unfold State.setFnState
  try dsimp only
  repeat' (first
    | with_reducible exact Rg.refl _ _
    | with_reducible refine State.putFld_rg ?_ ?_
    | with_reducible refine in_FN_STATE ?_
    | exact (rfl : (_ : Bool) = _))

theorem State.bumpGen_rg {msk : Nat} {b₀ : State} {s : State} {f : Nat} (h₀ : Rg msk b₀ s) (hm₀ : 1180591620717411303424 ||| msk = msk) :
    Rg msk b₀ (State.bumpGen s f) := by
  refine Rg.step h₀ ?_ hm₀
  clear h₀ hm₀
  unfold State.bumpGen
  try dsimp only
  repeat' (first
    | with_reducible exact Rg.refl _ _
    | with_reducible refine State.putFld_rg ?_ ?_
    | with_reducible refine in_FN_STATE ?_
    | exact (rfl : (_ : Bool) = _))

end Sys2Proof.Machine
end

