-- ==== Sys2Proof/Laws/RgLocks.lean ====
section
/-! SUPPORT. Register frames of the operations of Machine.Locks: the registers that each may write. -/

set_option maxRecDepth 20000
set_option Elab.async false
set_option linter.unusedTactic false
set_option linter.unreachableTactic false
set_option linter.unusedVariables false

namespace Sys2Proof.Machine

theorem State.setPool_rg {msk : Nat} {b₀ : State} {s : State} {p : Nat} {f : Pool → Pool} (h₀ : Rg msk b₀ s) (hm₀ : 0 ||| msk = msk) :
    Rg msk b₀ (State.setPool s p f) := by
  refine Rg.step h₀ ?_ hm₀
  clear h₀ hm₀
  unfold State.setPool
  try dsimp only
  repeat' (first
    | with_reducible exact Rg.refl _ _
    | refine Rg.mk' ?_)

theorem State.setCam_rg {msk : Nat} {b₀ : State} {s : State} {k : Nat} {e : CamEntry} (h₀ : Rg msk b₀ s) (hm₀ : 0 ||| msk = msk) :
    Rg msk b₀ (State.setCam s k e) := by
  refine Rg.step h₀ ?_ hm₀
  clear h₀ hm₀
  unfold State.setCam
  try dsimp only
  repeat' (first
    | with_reducible exact Rg.refl _ _
    | split
    | refine Rg.mk' ?_)

theorem State.updateLock_rg {msk : Nat} {b₀ : State} {s : State} {cseq : Nat} {p : Part} (h₀ : Rg msk b₀ s) (hm₀ : 0 ||| msk = msk) :
    Rg msk b₀ (State.updateLock s cseq p) := by
  refine Rg.step h₀ ?_ hm₀
  clear h₀ hm₀
  unfold State.updateLock
  try dsimp only
  repeat' (first
    | with_reducible exact Rg.refl _ _
    | exact (rfl : (_ : Nat) = _)
    | with_reducible refine State.setCam_rg ?_ ?_
    | split)

theorem State.setPart_rg {msk : Nat} {b₀ : State} {s : State} {cseq : Nat} {p : Part} (h₀ : Rg msk b₀ s) (hm₀ : 0 ||| msk = msk) :
    Rg msk b₀ (State.setPart s cseq p) := by
  refine Rg.step h₀ ?_ hm₀
  clear h₀ hm₀
  unfold State.setPart
  try dsimp only
  repeat' (first
    | with_reducible exact Rg.refl _ _
    | exact (rfl : (_ : Nat) = _)
    | with_reducible refine State.updateLock_rg ?_ ?_
    | refine Rg.mk' ?_)

theorem State.putPart_rg {msk : Nat} {b₀ : State} {s : State} {cseq : Nat} {p : Part} (h₀ : Rg msk b₀ s) (hm₀ : 0 ||| msk = msk) :
    Rg msk b₀ (State.putPart s cseq p) := by
  refine Rg.step h₀ ?_ hm₀
  clear h₀ hm₀
  unfold State.putPart
  try dsimp only
  repeat' (first
    | with_reducible exact Rg.refl _ _
    | refine Rg.mk' ?_)

theorem State.uncharge_rg {msk : Nat} {b₀ : State} {s : State} {p : Nat} {g : Nat} (h₀ : Rg msk b₀ s) (hm₀ : 0 ||| msk = msk) :
    Rg msk b₀ (State.uncharge s p g) := by
  refine Rg.step h₀ ?_ hm₀
  clear h₀ hm₀
  unfold State.uncharge
  try dsimp only
  repeat' (first
    | with_reducible exact Rg.refl _ _
    | exact (rfl : (_ : Nat) = _)
    | with_reducible refine State.setPool_rg ?_ ?_)

theorem State.setBucket_rg {msk : Nat} {b₀ : State} {s : State} {i : Nat} {b : DdBucket} (h₀ : Rg msk b₀ s) (hm₀ : 0 ||| msk = msk) :
    Rg msk b₀ (State.setBucket s i b) := by
  refine Rg.step h₀ ?_ hm₀
  clear h₀ hm₀
  unfold State.setBucket
  try dsimp only
  repeat' (first
    | with_reducible exact Rg.refl _ _
    | refine Rg.mk' ?_)

theorem State.tierForget_rg {msk : Nat} {b₀ : State} {s : State} {cseq : Nat} {ig : Nat × Grain} (h₀ : Rg msk b₀ s) (hm₀ : 0 ||| msk = msk) :
    Rg msk b₀ (State.tierForget s cseq ig) := by
  refine Rg.step h₀ ?_ hm₀
  clear h₀ hm₀
  unfold State.tierForget
  try dsimp only
  repeat' (first
    | with_reducible exact Rg.refl _ _
    | exact (rfl : (_ : Nat) = _)
    | with_reducible refine State.setBucket_rg ?_ ?_
    | split)

theorem State.partForget_rg {msk : Nat} {b₀ : State} {s : State} {cseq : Nat} {p : Part} (h₀ : Rg msk b₀ s) (hm₀ : 0 ||| msk = msk) :
    Rg msk b₀ (State.partForget s cseq p) := by
  refine Rg.step h₀ ?_ hm₀
  clear h₀ hm₀
  unfold State.partForget
  try dsimp only
  repeat' (first
    | with_reducible exact Rg.refl _ _
    | with_reducible assumption
    | exact (rfl : (_ : Nat) = _)
    | with_reducible refine State.tierForget_rg ?_ ?_
    | dsimp only
    | with_reducible refine Rg.ite ?_ ?_
    | with_reducible refine Rg.ite₁ ?_ ?_
    | with_reducible refine RgS.ite ?_ ?_
    | with_reducible refine RgP.ite ?_ ?_
    | with_reducible exact RgS.none
    | with_reducible refine RgS.some ?_
    | with_reducible refine RgS.map ?_
    | with_reducible exact RgP.none
    | with_reducible refine RgP.some ?_
    | with_reducible refine Rg.elim ?_ ?_
    | with_reducible refine Rg.foldl ?_ _ _ ?_
    | with_reducible refine Rg.foldl₂ ?_ _ _ ?_
    | intro _ _ _ _ _ _
    | intro _ _ _ _ _
    | intro _ _ _ _
    | intro _ _ _
    | intro _ _
    | intro _
    | with_reducible refine Rg.pair (h := ?_) (e := by assumption)
    | with_reducible refine RgO.got (h := ?_) (e := by assumption)
    | with_reducible refine RgS.get (h := ?_) (e := by assumption)
    | with_reducible refine RgP.get (h := ?_) (e := by assumption)
    | split)

theorem State.dropLock_rg {msk : Nat} {b₀ : State} {s : State} {cseq : Nat} (h₀ : Rg msk b₀ s) (hm₀ : 0 ||| msk = msk) :
    Rg msk b₀ (State.dropLock s cseq) := by
  refine Rg.step h₀ ?_ hm₀
  clear h₀ hm₀
  unfold State.dropLock
  try dsimp only
  repeat' (first
    | with_reducible exact Rg.refl _ _
    | exact (rfl : (_ : Nat) = _)
    | with_reducible refine State.setCam_rg ?_ ?_
    | split)

theorem State.setQuotaUse_rg {msk : Nat} {b₀ : State} {s : State} {f : Nat} {n : Nat} (h₀ : Rg msk b₀ s) (hm₀ : 0 ||| msk = msk) :
    Rg msk b₀ (State.setQuotaUse s f n) := by
  refine Rg.step h₀ ?_ hm₀
  clear h₀ hm₀
  unfold State.setQuotaUse
  try dsimp only
  repeat' (first
    | with_reducible exact Rg.refl _ _
    | with_reducible refine Rg.ite ?_ ?_
    | split
    | refine Rg.mk' ?_)

theorem State.advanceTail_rg {msk : Nat} {b₀ : State} {s : State} (h₀ : Rg msk b₀ s) (hm₀ : 0 ||| msk = msk) :
    Rg msk b₀ (State.advanceTail s) := by
  refine Rg.step h₀ ?_ hm₀
  clear h₀ hm₀
  unfold State.advanceTail
  try dsimp only
  repeat' (first
    | with_reducible exact Rg.refl _ _
    | split
    | refine Rg.mk' ?_)

theorem State.removePart_rg {msk : Nat} {b₀ : State} {s : State} {cseq : Nat} (h₀ : Rg msk b₀ s) (hm₀ : 0 ||| msk = msk) :
    Rg msk b₀ (State.removePart s cseq) := by
  refine Rg.step h₀ ?_ hm₀
  clear h₀ hm₀
  unfold State.removePart
  try dsimp only
  repeat' (first
    | with_reducible exact Rg.refl _ _
    | with_reducible assumption
    | exact (rfl : (_ : Nat) = _)
    | with_reducible refine State.uncharge_rg ?_ ?_
    | with_reducible refine State.partForget_rg ?_ ?_
    | with_reducible refine State.dropLock_rg ?_ ?_
    | with_reducible refine State.setQuotaUse_rg ?_ ?_
    | with_reducible refine State.advanceTail_rg ?_ ?_
    | dsimp only
    | with_reducible refine Rg.ite ?_ ?_
    | with_reducible refine Rg.ite₁ ?_ ?_
    | with_reducible refine RgS.ite ?_ ?_
    | with_reducible refine RgP.ite ?_ ?_
    | with_reducible exact RgS.none
    | with_reducible refine RgS.some ?_
    | with_reducible refine RgS.map ?_
    | with_reducible exact RgP.none
    | with_reducible refine RgP.some ?_
    | with_reducible refine Rg.elim ?_ ?_
    | with_reducible refine Rg.foldl ?_ _ _ ?_
    | with_reducible refine Rg.foldl₂ ?_ _ _ ?_
    | intro _ _ _ _ _ _
    | intro _ _ _ _ _
    | intro _ _ _ _
    | intro _ _ _
    | intro _ _
    | intro _
    | with_reducible refine Rg.pair (h := ?_) (e := by assumption)
    | with_reducible refine RgO.got (h := ?_) (e := by assumption)
    | with_reducible refine RgS.get (h := ?_) (e := by assumption)
    | with_reducible refine RgP.get (h := ?_) (e := by assumption)
    | split
    | refine Rg.mk' ?_)

theorem State.discardStreaming_rg {msk : Nat} {b₀ : State} {s : State} {f : Part → Bool} (h₀ : Rg msk b₀ s) (hm₀ : 0 ||| msk = msk) :
    Rg msk b₀ (State.discardStreaming s f) := by
  refine Rg.step h₀ ?_ hm₀
  clear h₀ hm₀
  unfold State.discardStreaming
  try dsimp only
  repeat' (first
    | with_reducible exact Rg.refl _ _
    | with_reducible assumption
    | exact (rfl : (_ : Nat) = _)
    | with_reducible refine State.removePart_rg ?_ ?_
    | dsimp only
    | with_reducible refine Rg.ite ?_ ?_
    | with_reducible refine Rg.ite₁ ?_ ?_
    | with_reducible refine RgS.ite ?_ ?_
    | with_reducible refine RgP.ite ?_ ?_
    | with_reducible exact RgS.none
    | with_reducible refine RgS.some ?_
    | with_reducible refine RgS.map ?_
    | with_reducible exact RgP.none
    | with_reducible refine RgP.some ?_
    | with_reducible refine Rg.elim ?_ ?_
    | with_reducible refine Rg.foldl ?_ _ _ ?_
    | with_reducible refine Rg.foldl₂ ?_ _ _ ?_
    | intro _ _ _ _ _ _
    | intro _ _ _ _ _
    | intro _ _ _ _
    | intro _ _ _
    | intro _ _
    | intro _
    | with_reducible refine Rg.pair (h := ?_) (e := by assumption)
    | with_reducible refine RgO.got (h := ?_) (e := by assumption)
    | with_reducible refine RgS.get (h := ?_) (e := by assumption)
    | with_reducible refine RgP.get (h := ?_) (e := by assumption)
    | split)

theorem State.setVol_rg {msk : Nat} {b₀ : State} {s : State} {v : Nat} {f : Vol → Vol} (h₀ : Rg msk b₀ s) (hm₀ : 0 ||| msk = msk) :
    Rg msk b₀ (State.setVol s v f) := by
  refine Rg.step h₀ ?_ hm₀
  clear h₀ hm₀
  unfold State.setVol
  try dsimp only
  repeat' (first
    | with_reducible exact Rg.refl _ _
    | refine Rg.mk' ?_)

end Sys2Proof.Machine
end

