-- ==== Sys2Proof/Laws/RgLink.lean ====
section
/-! SUPPORT. Register frames of the operations of Machine.Link: the registers that each may write. -/

set_option maxRecDepth 20000
set_option Elab.async false
set_option linter.unusedTactic false
set_option linter.unreachableTactic false
set_option linter.unusedVariables false

namespace Sys2Proof.Machine

theorem State.setMlink_rg {msk : Nat} {b₀ : State} {s : State} {m : Nat} {l : MLink} (h₀ : Rg msk b₀ s) (hm₀ : 0 ||| msk = msk) :
    Rg msk b₀ (State.setMlink s m l) := by
  refine Rg.step h₀ ?_ hm₀
  clear h₀ hm₀
  unfold State.setMlink
  try dsimp only
  repeat' (first
    | with_reducible exact Rg.refl _ _
    | refine Rg.mk' ?_)

theorem State.pumpOne_rg {msk : Nat} {b₀ : State} {s : State} {m : Nat} (h₀ : Rg msk b₀ s) (hm₀ : 110427941548649020598956093796432407239217743554726184882600387580790784 ||| msk = msk) :
    Rg msk b₀ (State.pumpOne s m) := by
  refine Rg.step h₀ ?_ hm₀
  clear h₀ hm₀
  unfold State.pumpOne
  try dsimp only
  repeat' (first
    | with_reducible exact Rg.refl _ _
    | exact (rfl : (_ : Nat) = _)
    | with_reducible refine State.emit_rg ?_ ?_
    | with_reducible refine State.flitsSent_rg ?_ ?_ ?_
    | with_reducible refine State.setMlink_rg ?_ ?_
    | with_reducible refine in_MLK_FLITS_TX ?_
    | exact (rfl : (_ : Bool) = _)
    | with_reducible refine Rg.ite ?_ ?_
    | split)

theorem State.pump_rg {msk : Nat} {b₀ : State} {s : State} {m : Nat} (h₀ : Rg msk b₀ s) (hm₀ : 110427941548649020598956093796432407239217743554726184882600387580790784 ||| msk = msk) :
    Rg msk b₀ (State.pump s m) := by
  refine Rg.step h₀ ?_ hm₀
  clear h₀ hm₀
  unfold State.pump
  try dsimp only
  repeat' (first
    | with_reducible exact Rg.refl _ _
    | with_reducible assumption
    | exact (rfl : (_ : Nat) = _)
    | with_reducible refine State.pumpOne_rg ?_ ?_
    | with_reducible refine Rg.foldl ?_ _ _ ?_
    | intro _ _ _)

theorem State.sendMod_rg {msk : Nat} {b₀ : State} {s : State} {m : Nat} {c : ModCmd} (h₀ : Rg msk b₀ s) (hm₀ : 110427941548649020598956093796432407239217743554726184882600387580790784 ||| msk = msk) :
    Rg msk b₀ (State.sendMod s m c) := by
  refine Rg.step h₀ ?_ hm₀
  clear h₀ hm₀
  unfold State.sendMod
  try dsimp only
  repeat' (first
    | with_reducible exact Rg.refl _ _
    | exact (rfl : (_ : Nat) = _)
    | with_reducible refine State.pump_rg ?_ ?_
    | with_reducible refine State.setMlink_rg ?_ ?_)

theorem State.sendRaise_rg {msk : Nat} {b₀ : State} {s : State} {paddock : Nat} {port : Nat} {toOther : Bool} {cur : Nat} {retried : Bool} (h₀ : Rg msk b₀ s) (hm₀ : 110427941548649020598956093796432407239217743554726184882600387580790784 ||| msk = msk) :
    Rg msk b₀ (State.sendRaise s paddock port toOther cur retried) := by
  refine Rg.step h₀ ?_ hm₀
  clear h₀ hm₀
  unfold State.sendRaise
  try dsimp only
  repeat' (first
    | with_reducible exact Rg.refl _ _
    | exact (rfl : (_ : Nat) = _)
    | with_reducible refine State.sendMod_rg ?_ ?_
    | refine Rg.mk' ?_)

theorem State.noteFail_rg {msk : Nat} {b₀ : State} {s : State} {tag : Nat} {f : MediaFail} (h₀ : Rg msk b₀ s) (hm₀ : 0 ||| msk = msk) :
    Rg msk b₀ (State.noteFail s tag f) := by
  refine Rg.step h₀ ?_ hm₀
  clear h₀ hm₀
  unfold State.noteFail
  try dsimp only
  repeat' (first
    | with_reducible exact Rg.refl _ _
    | with_reducible assumption
    | exact (rfl : (_ : Nat) = _)
    | dsimp only
    | with_reducible refine Rg.ite ?_ ?_
    | with_reducible refine Rg.ite₁ ?_ ?_
    | with_reducible refine RgS.ite ?_ ?_
    | with_reducible refine RgP.ite ?_ ?_
    | with_reducible exact RgS.none
    | with_reducible refine RgS.some ?_
    | with_reducible refine RgS.map ?_
    | with_reducible exact RgP.none
    | with_reducible refine RgP.some ?_
    | with_reducible refine Rg.elim ?_ ?_
    | with_reducible refine Rg.foldl ?_ _ _ ?_
    | with_reducible refine Rg.foldl₂ ?_ _ _ ?_
    | intro _ _ _ _ _ _
    | intro _ _ _ _ _
    | intro _ _ _ _
    | intro _ _ _
    | intro _ _
    | intro _
    | with_reducible refine Rg.pair (h := ?_) (e := by assumption)
    | with_reducible refine RgO.got (h := ?_) (e := by assumption)
    | with_reducible refine RgS.get (h := ?_) (e := by assumption)
    | with_reducible refine RgP.get (h := ?_) (e := by assumption)
    | split
    | refine Rg.mk' ?_)

theorem State.trainStart_rg {msk : Nat} {b₀ : State} {s : State} {m : Nat} (h₀ : Rg msk b₀ s) (hm₀ : 3450873173395281893717377931138512726225554486085193277581262111899648 ||| msk = msk) :
    Rg msk b₀ (State.trainStart s m) := by
  refine Rg.step h₀ ?_ hm₀
  clear h₀ hm₀
  unfold State.trainStart
  try dsimp only
  repeat' (first
    | with_reducible exact Rg.refl _ _
    | exact (rfl : (_ : Nat) = _)
    | with_reducible refine State.putFld_rg ?_ ?_
    | with_reducible refine State.setMlink_rg ?_ ?_
    | with_reducible refine in_MLK_STATUS ?_
    | exact (rfl : (_ : Bool) = _)
    | with_reducible refine Rg.ite ?_ ?_)

end Sys2Proof.Machine
end

