-- ==== Sys2Proof/Laws/RgRdma.lean ====
section
/-! SUPPORT. Register frames of the operations of Machine.Rdma: the registers that each may write. -/

set_option maxRecDepth 20000
set_option Elab.async false
set_option linter.unusedTactic false
set_option linter.unreachableTactic false
set_option linter.unusedVariables false

namespace Sys2Proof.Machine

theorem State.setQp_rg {msk : Nat} {b₀ : State} {s : State} {q : Nat} {f : Qp → Qp} (h₀ : Rg msk b₀ s) (hm₀ : 0 ||| msk = msk) :
    Rg msk b₀ (State.setQp s q f) := by
  refine Rg.step h₀ ?_ hm₀
  clear h₀ hm₀
  unfold State.setQp
  try dsimp only
  repeat' (first
    | with_reducible exact Rg.refl _ _
    | refine Rg.mk' ?_)

theorem State.stamp_rg {msk : Nat} {b₀ : State} {s : State} (h₀ : Rg msk b₀ s) (hm₀ : 0 ||| msk = msk) :
    Rg msk b₀ (State.stamp s) := by
  refine Rg.step h₀ ?_ hm₀
  clear h₀ hm₀
  unfold State.stamp
  try dsimp only
  repeat' (first
    | with_reducible exact Rg.refl _ _
    | refine Rg.mk' ?_)

theorem State.ctxEvict_rg {msk : Nat} {b₀ : State} {s : State} {v : Nat × Qp} (h₀ : Rg msk b₀ s) (hm₀ : 1361129467683753853853498429727072845824 ||| msk = msk) :
    Rg msk b₀ (State.ctxEvict s v) := by
  refine Rg.step h₀ ?_ hm₀
  clear h₀ hm₀
  unfold State.ctxEvict
  try dsimp only
  repeat' (first
    | with_reducible exact Rg.refl _ _
    | exact (rfl : (_ : Nat) = _)
    | with_reducible refine State.setQp_rg ?_ ?_
    | with_reducible refine State.count_rg ?_ ?_
    | with_reducible refine in_CTX_EVICT_COUNT ?_
    | exact (rfl : (_ : Bool) = _)
    | with_reducible refine Rg.ite ?_ ?_)

theorem State.ctxInstall_rg {msk : Nat} {b₀ : State} {s : State} {q : Nat} (h₀ : Rg msk b₀ s) (hm₀ : 1361129467683753853853498429727072845824 ||| msk = msk) :
    Rg msk b₀ (State.ctxInstall s q) := by
  refine Rg.step h₀ ?_ hm₀
  clear h₀ hm₀
  unfold State.ctxInstall
  try dsimp only
  repeat' (first
    | with_reducible exact Rg.refl _ _
    | exact (rfl : (_ : Nat) = _)
    | with_reducible refine State.setQp_rg ?_ ?_
    | with_reducible refine State.stamp_rg ?_ ?_
    | with_reducible refine State.ctxEvict_rg ?_ ?_
    | with_reducible refine Rg.ite ?_ ?_
    | with_reducible refine RgS.ite ?_ ?_
    | with_reducible refine RgS.some ?_
    | with_reducible refine RgS.map ?_
    | intro _
    | with_reducible refine RgS.get (h := ?_) (e := by assumption)
    | split)

theorem State.ctxTouch_rg {msk : Nat} {b₀ : State} {s : State} {q : Nat} {f : Qp → Qp} (h₀ : Rg msk b₀ s) (hm₀ : 1361129467683753853853498429727072845824 ||| msk = msk) :
    Rg msk b₀ (State.ctxTouch s q f) := by
  refine Rg.step h₀ ?_ hm₀
  clear h₀ hm₀
  unfold State.ctxTouch
  try dsimp only
  repeat' (first
    | with_reducible exact Rg.refl _ _
    | exact (rfl : (_ : Nat) = _)
    | with_reducible refine State.setQp_rg ?_ ?_
    | with_reducible refine State.ctxInstall_rg ?_ ?_)

theorem State.qpIssue_rg {msk : Nat} {b₀ : State} {s : State} {q : Nat} {bytes : Nat} {read : Bool} (h₀ : Rg msk b₀ s) (hm₀ : 1361129467683753853853498429727072845824 ||| msk = msk) :
    Rg msk b₀ (State.qpIssue s q bytes read) := by
  refine Rg.step h₀ ?_ hm₀
  clear h₀ hm₀
  unfold State.qpIssue
  try dsimp only
  repeat' (first
    | with_reducible exact Rg.refl _ _
    | with_reducible assumption
    | exact (rfl : (_ : Nat) = _)
    | with_reducible refine State.ctxTouch_rg ?_ ?_
    | dsimp only
    | with_reducible refine Rg.ite ?_ ?_
    | with_reducible refine Rg.ite₁ ?_ ?_
    | with_reducible refine RgS.ite ?_ ?_
    | with_reducible refine RgP.ite ?_ ?_
    | with_reducible exact RgS.none
    | with_reducible refine RgS.some ?_
    | with_reducible refine RgS.map ?_
    | with_reducible exact RgP.none
    | with_reducible refine RgP.some ?_
    | with_reducible refine Rg.elim ?_ ?_
    | with_reducible refine Rg.foldl ?_ _ _ ?_
    | with_reducible refine Rg.foldl₂ ?_ _ _ ?_
    | intro _ _ _ _ _ _
    | intro _ _ _ _ _
    | intro _ _ _ _
    | intro _ _ _
    | intro _ _
    | intro _
    | with_reducible refine Rg.pair (h := ?_) (e := by assumption)
    | with_reducible refine RgO.got (h := ?_) (e := by assumption)
    | with_reducible refine RgS.get (h := ?_) (e := by assumption)
    | with_reducible refine RgP.get (h := ?_) (e := by assumption)
    | split)

theorem State.qpPost_rg {msk : Nat} {b₀ : State} {s : State} {q : Nat} {bytes : Nat} {read : Bool} (h₀ : Rg msk b₀ s) (hm₀ : 1361129467683753853853498429727072845824 ||| msk = msk) :
    Rg msk b₀ (State.qpPost s q bytes read) := by
  refine Rg.step h₀ ?_ hm₀
  clear h₀ hm₀
  unfold State.qpPost
  try dsimp only
  repeat' (first
    | with_reducible exact Rg.refl _ _
    | with_reducible assumption
    | exact (rfl : (_ : Nat) = _)
    | with_reducible refine State.qpIssue_rg ?_ ?_
    | with_reducible refine State.setQp_rg ?_ ?_
    | dsimp only
    | with_reducible refine Rg.ite ?_ ?_
    | with_reducible refine Rg.ite₁ ?_ ?_
    | with_reducible refine RgS.ite ?_ ?_
    | with_reducible refine RgP.ite ?_ ?_
    | with_reducible exact RgS.none
    | with_reducible refine RgS.some ?_
    | with_reducible refine RgS.map ?_
    | with_reducible exact RgP.none
    | with_reducible refine RgP.some ?_
    | with_reducible refine Rg.elim ?_ ?_
    | with_reducible refine Rg.foldl ?_ _ _ ?_
    | with_reducible refine Rg.foldl₂ ?_ _ _ ?_
    | intro _ _ _ _ _ _
    | intro _ _ _ _ _
    | intro _ _ _ _
    | intro _ _ _
    | intro _ _
    | intro _
    | with_reducible refine Rg.pair (h := ?_) (e := by assumption)
    | with_reducible refine RgO.got (h := ?_) (e := by assumption)
    | with_reducible refine RgS.get (h := ?_) (e := by assumption)
    | with_reducible refine RgP.get (h := ?_) (e := by assumption)
    | split)

theorem State.qpSend_rg {msk : Nat} {b₀ : State} {s : State} {q : Nat} {bytes : Nat} (h₀ : Rg msk b₀ s) (hm₀ : 1361129467683753853853498429727072845824 ||| msk = msk) :
    Rg msk b₀ (State.qpSend s q bytes) := by
  refine Rg.step h₀ ?_ hm₀
  clear h₀ hm₀
  unfold State.qpSend
  try dsimp only
  repeat' (first
    | with_reducible exact Rg.refl _ _
    | with_reducible assumption
    | exact (rfl : (_ : Nat) = _)
    | with_reducible refine State.qpPost_rg ?_ ?_
    | dsimp only
    | with_reducible refine Rg.ite ?_ ?_
    | with_reducible refine Rg.ite₁ ?_ ?_
    | with_reducible refine RgS.ite ?_ ?_
    | with_reducible refine RgP.ite ?_ ?_
    | with_reducible exact RgS.none
    | with_reducible refine RgS.some ?_
    | with_reducible refine RgS.map ?_
    | with_reducible exact RgP.none
    | with_reducible refine RgP.some ?_
    | with_reducible refine Rg.elim ?_ ?_
    | with_reducible refine Rg.foldl ?_ _ _ ?_
    | with_reducible refine Rg.foldl₂ ?_ _ _ ?_
    | intro _ _ _ _ _ _
    | intro _ _ _ _ _
    | intro _ _ _ _
    | intro _ _ _
    | intro _ _
    | intro _
    | with_reducible refine Rg.pair (h := ?_) (e := by assumption)
    | with_reducible refine RgO.got (h := ?_) (e := by assumption)
    | with_reducible refine RgS.get (h := ?_) (e := by assumption)
    | with_reducible refine RgP.get (h := ?_) (e := by assumption)
    | split)

theorem State.streamSend_rg {msk : Nat} {b₀ : State} {s : State} {control : Nat} {turn : Nat} {bytes : Nat} (h₀ : Rg msk b₀ s) (hm₀ : 1361129467683753853853498429727072845824 ||| msk = msk) :
    Rg msk b₀ (State.streamSend s control turn bytes).1 := by
  refine Rg.step h₀ ?_ hm₀
  clear h₀ hm₀
  unfold State.streamSend
  try dsimp only
  repeat' (first
    | with_reducible exact Rg.refl _ _
    | with_reducible assumption
    | exact (rfl : (_ : Nat) = _)
    | with_reducible refine State.qpSend_rg ?_ ?_
    | with_reducible refine State.emit_rg ?_ ?_
    | dsimp only
    | with_reducible refine Rg.ite ?_ ?_
    | with_reducible refine Rg.ite₁ ?_ ?_
    | with_reducible refine RgS.ite ?_ ?_
    | with_reducible refine RgP.ite ?_ ?_
    | with_reducible exact RgS.none
    | with_reducible refine RgS.some ?_
    | with_reducible refine RgS.map ?_
    | with_reducible exact RgP.none
    | with_reducible refine RgP.some ?_
    | with_reducible refine Rg.elim ?_ ?_
    | with_reducible refine Rg.foldl ?_ _ _ ?_
    | with_reducible refine Rg.foldl₂ ?_ _ _ ?_
    | intro _ _ _ _ _ _
    | intro _ _ _ _ _
    | intro _ _ _ _
    | intro _ _ _
    | intro _ _
    | intro _
    | with_reducible refine Rg.pair (h := ?_) (e := by assumption)
    | with_reducible refine RgO.got (h := ?_) (e := by assumption)
    | with_reducible refine RgS.get (h := ?_) (e := by assumption)
    | with_reducible refine RgP.get (h := ?_) (e := by assumption)
    | split)

theorem State.evPost_rg {msk : Nat} {b₀ : State} {s : State} {typ : Nat} {lport : Nat} {object : Nat} (h₀ : Rg msk b₀ s) (hm₀ : 6490371073168534535663120411525152 ||| msk = msk) :
    Rg msk b₀ (State.evPost s typ lport object) := by
  refine Rg.step h₀ ?_ hm₀
  clear h₀ hm₀
  unfold State.evPost
  try dsimp only
  repeat' (first
    | with_reducible exact Rg.refl _ _
    | exact (rfl : (_ : Nat) = _)
    | with_reducible refine State.event_rg ?_ ?_
    | with_reducible refine State.count_rg ?_ ?_
    | with_reducible refine State.wrN_rg ?_ ?_
    | with_reducible refine State.emit_rg ?_ ?_
    | with_reducible refine in_EVQ_LOST ?_
    | with_reducible refine in_EVQ_PROD ?_
    | exact (rfl : (_ : Bool) = _)
    | with_reducible refine Rg.ite ?_ ?_
    | split
    | refine Rg.mk' ?_)

theorem State.missLeave_rg {msk : Nat} {b₀ : State} {s : State} {lport : Nat} {bytes : Nat} (h₀ : Rg msk b₀ s) (hm₀ : 2535301200456458802993406410752 ||| msk = msk) :
    Rg msk b₀ (State.missLeave s lport bytes) := by
  refine Rg.step h₀ ?_ hm₀
  clear h₀ hm₀
  unfold State.missLeave
  try dsimp only
  repeat' (first
    | with_reducible exact Rg.refl _ _
    | with_reducible refine State.wrN_rg ?_ ?_
    | with_reducible refine in_ETH_MISS_LEVEL ?_
    | exact (rfl : (_ : Bool) = _)
    | with_reducible refine Rg.ite ?_ ?_
    | refine Rg.mk' ?_)

theorem State.missLeaveAll_rg {msk : Nat} {b₀ : State} {s : State} {l : List (Nat × Packet)} (h₀ : Rg msk b₀ s) (hm₀ : 2535301200456458802993406410752 ||| msk = msk) :
    Rg msk b₀ (State.missLeaveAll s l) := by
  refine Rg.step h₀ ?_ hm₀
  clear h₀ hm₀
  unfold State.missLeaveAll
  try dsimp only
  repeat' (first
    | with_reducible exact Rg.refl _ _
    | with_reducible assumption
    | exact (rfl : (_ : Nat) = _)
    | with_reducible refine State.missLeave_rg ?_ ?_
    | dsimp only
    | with_reducible refine Rg.ite ?_ ?_
    | with_reducible refine Rg.ite₁ ?_ ?_
    | with_reducible refine RgS.ite ?_ ?_
    | with_reducible refine RgP.ite ?_ ?_
    | with_reducible exact RgS.none
    | with_reducible refine RgS.some ?_
    | with_reducible refine RgS.map ?_
    | with_reducible exact RgP.none
    | with_reducible refine RgP.some ?_
    | with_reducible refine Rg.elim ?_ ?_
    | with_reducible refine Rg.foldl ?_ _ _ ?_
    | with_reducible refine Rg.foldl₂ ?_ _ _ ?_
    | intro _ _ _ _ _ _
    | intro _ _ _ _ _
    | intro _ _ _ _
    | intro _ _ _
    | intro _ _
    | intro _
    | with_reducible refine Rg.pair (h := ?_) (e := by assumption)
    | with_reducible refine RgO.got (h := ?_) (e := by assumption)
    | with_reducible refine RgS.get (h := ?_) (e := by assumption)
    | with_reducible refine RgP.get (h := ?_) (e := by assumption)
    | split)

theorem State.discardParked_rg {msk : Nat} {b₀ : State} {s : State} {q : Nat} (h₀ : Rg msk b₀ s) (hm₀ : 10889035744005332031284446240809989177344 ||| msk = msk) :
    Rg msk b₀ (State.discardParked s q) := by
  refine Rg.step h₀ ?_ hm₀
  clear h₀ hm₀
  unfold State.discardParked
  try dsimp only
  repeat' (first
    | with_reducible exact Rg.refl _ _
    | with_reducible assumption
    | exact (rfl : (_ : Nat) = _)
    | with_reducible refine State.missLeaveAll_rg ?_ ?_
    | with_reducible refine State.countBy_rg ?_ ?_
    | with_reducible refine State.setQp_rg ?_ ?_
    | with_reducible refine in_CTX_NAK_DISCARD ?_
    | with_reducible refine InSet.ite ?_ ?_
    | exact (rfl : (_ : Bool) = _)
    | dsimp only
    | with_reducible refine Rg.ite ?_ ?_
    | with_reducible refine Rg.ite₁ ?_ ?_
    | with_reducible refine RgS.ite ?_ ?_
    | with_reducible refine RgP.ite ?_ ?_
    | with_reducible exact RgS.none
    | with_reducible refine RgS.some ?_
    | with_reducible refine RgS.map ?_
    | with_reducible exact RgP.none
    | with_reducible refine RgP.some ?_
    | with_reducible refine Rg.elim ?_ ?_
    | with_reducible refine Rg.foldl ?_ _ _ ?_
    | with_reducible refine Rg.foldl₂ ?_ _ _ ?_
    | intro _ _ _ _ _ _
    | intro _ _ _ _ _
    | intro _ _ _ _
    | intro _ _ _
    | intro _ _
    | intro _
    | with_reducible refine Rg.pair (h := ?_) (e := by assumption)
    | with_reducible refine RgO.got (h := ?_) (e := by assumption)
    | with_reducible refine RgS.get (h := ?_) (e := by assumption)
    | with_reducible refine RgP.get (h := ?_) (e := by assumption)
    | split)

theorem State.qpError_rg {msk : Nat} {b₀ : State} {s : State} {q : Nat} (h₀ : Rg msk b₀ s) (hm₀ : 10889035744005332031284446240809989177344 ||| msk = msk) :
    Rg msk b₀ (State.qpError s q) := by
  refine Rg.step h₀ ?_ hm₀
  clear h₀ hm₀
  unfold State.qpError
  try dsimp only
  repeat' (first
    | with_reducible exact Rg.refl _ _
    | exact (rfl : (_ : Nat) = _)
    | with_reducible refine State.setQp_rg ?_ ?_
    | with_reducible refine State.discardParked_rg ?_ ?_)

theorem State.qpDrain_rg {msk : Nat} {b₀ : State} {s : State} {q : Nat} {x2 : Nat} (h₀ : Rg msk b₀ s) (hm₀ : 1361129467683753853853498429727072845824 ||| msk = msk) :
    Rg msk b₀ (State.qpDrain s q x2) := by
  refine Rg.step h₀ ?_ hm₀
  clear h₀ hm₀
  fun_induction State.qpDrain 
  all_goals try dsimp +zetaDelta only at *
  all_goals repeat' (first
    | with_reducible exact Rg.refl _ _
    | with_reducible assumption
    | exact (rfl : (_ : Nat) = _)
    | with_reducible refine Rg.trans ?_ (by assumption)
    | with_reducible refine State.qpIssue_rg ?_ ?_
    | with_reducible refine State.setQp_rg ?_ ?_
    | dsimp only
    | with_reducible refine Rg.ite ?_ ?_
    | with_reducible refine Rg.ite₁ ?_ ?_
    | with_reducible refine RgS.ite ?_ ?_
    | with_reducible refine RgP.ite ?_ ?_
    | with_reducible exact RgS.none
    | with_reducible refine RgS.some ?_
    | with_reducible refine RgS.map ?_
    | with_reducible exact RgP.none
    | with_reducible refine RgP.some ?_
    | with_reducible refine Rg.elim ?_ ?_
    | with_reducible refine Rg.foldl ?_ _ _ ?_
    | with_reducible refine Rg.foldl₂ ?_ _ _ ?_
    | intro _ _ _ _ _ _
    | intro _ _ _ _ _
    | intro _ _ _ _
    | intro _ _ _
    | intro _ _
    | intro _
    | with_reducible refine Rg.pair (h := ?_) (e := by assumption)
    | with_reducible refine RgO.got (h := ?_) (e := by assumption)
    | with_reducible refine RgS.get (h := ?_) (e := by assumption)
    | with_reducible refine RgP.get (h := ?_) (e := by assumption)
    | split)

theorem State.qpTick_rg {msk : Nat} {b₀ : State} {s : State} (h₀ : Rg msk b₀ s) (hm₀ : 1361129467683753853853498429727072845824 ||| msk = msk) :
    Rg msk b₀ (State.qpTick s) := by
  refine Rg.step h₀ ?_ hm₀
  clear h₀ hm₀
  unfold State.qpTick
  try dsimp only
  repeat' (first
    | with_reducible exact Rg.refl _ _
    | with_reducible assumption
    | exact (rfl : (_ : Nat) = _)
    | with_reducible refine State.qpDrain_rg ?_ ?_
    | dsimp only
    | with_reducible refine Rg.ite ?_ ?_
    | with_reducible refine Rg.ite₁ ?_ ?_
    | with_reducible refine RgS.ite ?_ ?_
    | with_reducible refine RgP.ite ?_ ?_
    | with_reducible exact RgS.none
    | with_reducible refine RgS.some ?_
    | with_reducible refine RgS.map ?_
    | with_reducible exact RgP.none
    | with_reducible refine RgP.some ?_
    | with_reducible refine Rg.elim ?_ ?_
    | with_reducible refine Rg.foldl ?_ _ _ ?_
    | with_reducible refine Rg.foldl₂ ?_ _ _ ?_
    | intro _ _ _ _ _ _
    | intro _ _ _ _ _
    | intro _ _ _ _
    | intro _ _ _
    | intro _ _
    | intro _
    | with_reducible refine Rg.pair (h := ?_) (e := by assumption)
    | with_reducible refine RgO.got (h := ?_) (e := by assumption)
    | with_reducible refine RgS.get (h := ?_) (e := by assumption)
    | with_reducible refine RgP.get (h := ?_) (e := by assumption)
    | split
    | refine Rg.mk' ?_)

theorem State.srcSend_rg {msk : Nat} {b₀ : State} {s : State} {src : CmdSrc} {bytes : Nat} {read : optParam Bool Bool.false} (h₀ : Rg msk b₀ s) (hm₀ : 1361129467683753853853498429727072845824 ||| msk = msk) :
    Rg msk b₀ (State.srcSend s src bytes read) := by
  refine Rg.step h₀ ?_ hm₀
  clear h₀ hm₀
  unfold State.srcSend
  try dsimp only
  repeat' (first
    | with_reducible exact Rg.refl _ _
    | with_reducible assumption
    | exact (rfl : (_ : Nat) = _)
    | with_reducible refine State.qpPost_rg ?_ ?_
    | dsimp only
    | with_reducible refine Rg.ite ?_ ?_
    | with_reducible refine Rg.ite₁ ?_ ?_
    | with_reducible refine RgS.ite ?_ ?_
    | with_reducible refine RgP.ite ?_ ?_
    | with_reducible exact RgS.none
    | with_reducible refine RgS.some ?_
    | with_reducible refine RgS.map ?_
    | with_reducible exact RgP.none
    | with_reducible refine RgP.some ?_
    | with_reducible refine Rg.elim ?_ ?_
    | with_reducible refine Rg.foldl ?_ _ _ ?_
    | with_reducible refine Rg.foldl₂ ?_ _ _ ?_
    | intro _ _ _ _ _ _
    | intro _ _ _ _ _
    | intro _ _ _ _
    | intro _ _ _
    | intro _ _
    | intro _
    | with_reducible refine Rg.pair (h := ?_) (e := by assumption)
    | with_reducible refine RgO.got (h := ?_) (e := by assumption)
    | with_reducible refine RgS.get (h := ?_) (e := by assumption)
    | with_reducible refine RgP.get (h := ?_) (e := by assumption)
    | split)

theorem State.qpFatal_rg {msk : Nat} {b₀ : State} {s : State} {q : Nat} (h₀ : Rg msk b₀ s) (hm₀ : 10889042234376405199818981903930400702496 ||| msk = msk) :
    Rg msk b₀ (State.qpFatal s q) := by
  refine Rg.step h₀ ?_ hm₀
  clear h₀ hm₀
  unfold State.qpFatal
  try dsimp only
  repeat' (first
    | with_reducible exact Rg.refl _ _
    | exact (rfl : (_ : Nat) = _)
    | with_reducible refine State.evPost_rg ?_ ?_
    | with_reducible refine State.qpError_rg ?_ ?_
    | split)

end Sys2Proof.Machine
end

