-- ==== Sys2Proof/Laws/RgMap.lean ====
section
/-! SUPPORT. Register frames of the operations of Machine.Map: the registers that each may write. -/

set_option maxRecDepth 20000
set_option Elab.async false
set_option linter.unusedTactic false
set_option linter.unreachableTactic false
set_option linter.unusedVariables false

namespace Sys2Proof.Machine

theorem State.addLoss_rg {msk : Nat} {b₀ : State} {s : State} {pool : Nat} {addr : Nat} {cause : Nat} (h₀ : Rg msk b₀ s) (hm₀ : 17498005798264095394980017816940970922825355447145699491406164851279623993595007385788105416184430624 ||| msk = msk) :
    Rg msk b₀ (State.addLoss s pool addr cause) := by
  refine Rg.step h₀ ?_ hm₀
  clear h₀ hm₀
  unfold State.addLoss
  try dsimp only
  repeat' (first
    | with_reducible exact Rg.refl _ _
    | with_reducible assumption
    | exact (rfl : (_ : Nat) = _)
    | with_reducible refine State.count_rg ?_ ?_
    | with_reducible refine State.setPool_rg ?_ ?_
    | with_reducible refine State.event_rg ?_ ?_
    | with_reducible refine in_SP_LOSS_OVERFLOW ?_
    | exact (rfl : (_ : Bool) = _)
    | with_reducible refine Rg.ite ?_ ?_
    | with_reducible refine Rg.foldl ?_ _ _ ?_
    | intro _ _ _
    | split
    | refine Rg.mk' ?_)

theorem State.setSeg_rg {msk : Nat} {b₀ : State} {s : State} {i : Nat} {f : Seg → Seg} (h₀ : Rg msk b₀ s) (hm₀ : 0 ||| msk = msk) :
    Rg msk b₀ (State.setSeg s i f) := by
  refine Rg.step h₀ ?_ hm₀
  clear h₀ hm₀
  unfold State.setSeg
  try dsimp only
  repeat' (first
    | with_reducible exact Rg.refl _ _
    | refine Rg.mk' ?_)

theorem State.setMpage_rg {msk : Nat} {b₀ : State} {s : State} {pool : Nat} {id : Nat} {p : MapPage} (h₀ : Rg msk b₀ s) (hm₀ : 0 ||| msk = msk) :
    Rg msk b₀ (State.setMpage s pool id p) := by
  refine Rg.step h₀ ?_ hm₀
  clear h₀ hm₀
  unfold State.setMpage
  try dsimp only
  repeat' (first
    | with_reducible exact Rg.refl _ _
    | refine Rg.mk' ?_)

theorem State.shareBy_rg {msk : Nat} {b₀ : State} {s : State} {pool : Nat} {id : Nat} {up : Bool} (h₀ : Rg msk b₀ s) (hm₀ : 0 ||| msk = msk) :
    Rg msk b₀ (State.shareBy s pool id up) := by
  refine Rg.step h₀ ?_ hm₀
  clear h₀ hm₀
  unfold State.shareBy
  try dsimp only
  repeat' (first
    | with_reducible exact Rg.refl _ _
    | exact (rfl : (_ : Nat) = _)
    | with_reducible refine State.setMpage_rg ?_ ?_
    | split)

theorem State.newId_rg {msk : Nat} {b₀ : State} {s : State} {pool : Nat} (h₀ : Rg msk b₀ s) (hm₀ : 0 ||| msk = msk) :
    Rg msk b₀ (State.newId s pool).1 := by
  refine Rg.step h₀ ?_ hm₀
  clear h₀ hm₀
  unfold State.newId
  try dsimp only
  repeat' (first
    | with_reducible exact Rg.refl _ _
    | exact (rfl : (_ : Nat) = _)
    | with_reducible refine State.setPool_rg ?_ ?_
    | split)

theorem State.newPage_rg {msk : Nat} {b₀ : State} {s : State} {pool : Nat} {level : Nat} {t : Nat} (h₀ : Rg msk b₀ s) (hm₀ : 0 ||| msk = msk) :
    Rg msk b₀ (State.newPage s pool level t).1 := by
  refine Rg.step h₀ ?_ hm₀
  clear h₀ hm₀
  unfold State.newPage
  try dsimp only
  repeat' (first
    | with_reducible exact Rg.refl _ _
    | exact (rfl : (_ : Nat) = _)
    | with_reducible refine State.newId_rg ?_ ?_
    | with_reducible refine State.setMpage_rg ?_ ?_)

theorem State.queueRef_rg {msk : Nat} {b₀ : State} {s : State} {a : Nat} {delta : Int} {t : Nat} (h₀ : Rg msk b₀ s) (hm₀ : 0 ||| msk = msk) :
    Rg msk b₀ (State.queueRef s a delta t) := by
  refine Rg.step h₀ ?_ hm₀
  clear h₀ hm₀
  unfold State.queueRef
  try dsimp only
  repeat' (first
    | with_reducible exact Rg.refl _ _
    | refine Rg.mk' ?_)

theorem State.setRefs_rg {msk : Nat} {b₀ : State} {s : State} {a : Nat} {n : Nat} (h₀ : Rg msk b₀ s) (hm₀ : 0 ||| msk = msk) :
    Rg msk b₀ (State.setRefs s a n) := by
  refine Rg.step h₀ ?_ hm₀
  clear h₀ hm₀
  unfold State.setRefs
  try dsimp only
  repeat' (first
    | with_reducible exact Rg.refl _ _
    | split
    | refine Rg.mk' ?_)

theorem State.liveBy_rg {msk : Nat} {b₀ : State} {s : State} {a : Nat} {up : Bool} (h₀ : Rg msk b₀ s) (hm₀ : 0 ||| msk = msk) :
    Rg msk b₀ (State.liveBy s a up) := by
  refine Rg.step h₀ ?_ hm₀
  clear h₀ hm₀
  unfold State.liveBy
  try dsimp only
  repeat' (first
    | with_reducible exact Rg.refl _ _
    | exact (rfl : (_ : Nat) = _)
    | with_reducible refine State.setSeg_rg ?_ ?_
    | split)

theorem State.addRef_rg {msk : Nat} {b₀ : State} {s : State} {a : Nat} {page : Nat} {slot : Nat} {t : Nat} (h₀ : Rg msk b₀ s) (hm₀ : 0 ||| msk = msk) :
    Rg msk b₀ (State.addRef s a page slot t) := by
  refine Rg.step h₀ ?_ hm₀
  clear h₀ hm₀
  unfold State.addRef
  try dsimp only
  repeat' (first
    | with_reducible exact Rg.refl _ _
    | exact (rfl : (_ : Nat) = _)
    | with_reducible refine State.queueRef_rg ?_ ?_
    | with_reducible refine State.setRefs_rg ?_ ?_
    | with_reducible refine State.liveBy_rg ?_ ?_
    | with_reducible refine Rg.ite ?_ ?_
    | refine Rg.mk' ?_)

theorem State.diverge_rg {msk : Nat} {b₀ : State} {s : State} {pool : Nat} {id : Nat} {t : Nat} (h₀ : Rg msk b₀ s) (hm₀ : 0 ||| msk = msk) :
    Rg msk b₀ (State.diverge s pool id t).1 := by
  refine Rg.step h₀ ?_ hm₀
  clear h₀ hm₀
  unfold State.diverge
  try dsimp only
  repeat' (first
    | with_reducible exact Rg.refl _ _
    | with_reducible assumption
    | exact (rfl : (_ : Nat) = _)
    | with_reducible refine State.newId_rg ?_ ?_
    | with_reducible refine State.setMpage_rg ?_ ?_
    | with_reducible refine State.shareBy_rg ?_ ?_
    | with_reducible refine State.addRef_rg ?_ ?_
    | dsimp only
    | with_reducible refine Rg.ite ?_ ?_
    | with_reducible refine Rg.foldl ?_ _ _ ?_
    | intro _ _ _
    | split)

theorem State.ownPage_rg {msk : Nat} {b₀ : State} {s : State} {pool : Nat} {level : Nat} {id : Nat} {t : Nat} (h₀ : Rg msk b₀ s) (hm₀ : 0 ||| msk = msk) :
    Rg msk b₀ (State.ownPage s pool level id t).1 := by
  refine Rg.step h₀ ?_ hm₀
  clear h₀ hm₀
  unfold State.ownPage
  try dsimp only
  repeat' (first
    | with_reducible exact Rg.refl _ _
    | exact (rfl : (_ : Nat) = _)
    | with_reducible refine State.newPage_rg ?_ ?_
    | with_reducible refine State.diverge_rg ?_ ?_
    | with_reducible refine Rg.ite₁ ?_ ?_
    | split)

theorem State.clearLoss_rg {msk : Nat} {b₀ : State} {s : State} {pool : Nat} {page : Nat} {slot : Nat} {old : Nat} (h₀ : Rg msk b₀ s) (hm₀ : 0 ||| msk = msk) :
    Rg msk b₀ (State.clearLoss s pool page slot old) := by
  refine Rg.step h₀ ?_ hm₀
  clear h₀ hm₀
  unfold State.clearLoss
  try dsimp only
  repeat' (first
    | with_reducible exact Rg.refl _ _
    | exact (rfl : (_ : Nat) = _)
    | with_reducible refine State.setPool_rg ?_ ?_
    | with_reducible refine Rg.ite ?_ ?_
    | refine Rg.mk' ?_)

theorem State.dropRef_rg {msk : Nat} {b₀ : State} {s : State} {a : Nat} {page : Nat} {slot : Nat} {t : Nat} (h₀ : Rg msk b₀ s) (hm₀ : 96107167241834975113312584178489302142293605564759693426004588894417285174339314651986626222954283729664672024879809959352794238588654061432213649874520966944 ||| msk = msk) :
    Rg msk b₀ (State.dropRef s a page slot t) := by
  refine Rg.step h₀ ?_ hm₀
  clear h₀ hm₀
  unfold State.dropRef
  try dsimp only
  repeat' (first
    | with_reducible exact Rg.refl _ _
    | exact (rfl : (_ : Nat) = _)
    | with_reducible refine State.queueRef_rg ?_ ?_
    | with_reducible refine State.raise_rg ?_ ?_
    | with_reducible refine State.setRefs_rg ?_ ?_
    | with_reducible refine State.liveBy_rg ?_ ?_
    | with_reducible refine Rg.ite ?_ ?_
    | refine Rg.mk' ?_)

theorem State.putEntry_rg {msk : Nat} {b₀ : State} {s : State} {pool : Nat} {id : Nat} {slot : Nat} {e : Nat} {t : Nat} (h₀ : Rg msk b₀ s) (hm₀ : 0 ||| msk = msk) :
    Rg msk b₀ (State.putEntry s pool id slot e t) := by
  refine Rg.step h₀ ?_ hm₀
  clear h₀ hm₀
  unfold State.putEntry
  try dsimp only
  repeat' (first
    | with_reducible exact Rg.refl _ _
    | exact (rfl : (_ : Nat) = _)
    | with_reducible refine State.setMpage_rg ?_ ?_
    | split)

theorem State.setSlot_rg {msk : Nat} {b₀ : State} {s : State} {pool : Nat} {page : Nat} {slot : Nat} {new0 : Nat} {t : Nat} (h₀ : Rg msk b₀ s) (hm₀ : 96107167241834975113312584178489302142293605564759693426004588894417285174339314651986626222954283729664672024879809959352794238588654061432213649874520966944 ||| msk = msk) :
    Rg msk b₀ (State.setSlot s pool page slot new0 t) := by
  refine Rg.step h₀ ?_ hm₀
  clear h₀ hm₀
  unfold State.setSlot
  try dsimp only
  repeat' (first
    | with_reducible exact Rg.refl _ _
    | exact (rfl : (_ : Nat) = _)
    | with_reducible refine State.clearLoss_rg ?_ ?_
    | with_reducible refine State.dropRef_rg ?_ ?_
    | with_reducible refine State.addRef_rg ?_ ?_
    | with_reducible refine State.putEntry_rg ?_ ?_)

theorem State.setPath_rg {msk : Nat} {b₀ : State} {s : State} {pool : Nat} {g : Nat} {new : Nat} {t : Nat} {x5 : Nat} {x6 : Nat} (h₀ : Rg msk b₀ s) (hm₀ : 96107167241834975113312584178489302142293605564759693426004588894417285174339314651986626222954283729664672024879809959352794238588654061432213649874520966944 ||| msk = msk) :
    Rg msk b₀ (State.setPath s pool g new t x5 x6) := by
  refine Rg.step h₀ ?_ hm₀
  clear h₀ hm₀
  fun_induction State.setPath 
  all_goals try dsimp +zetaDelta only at *
  all_goals repeat' (first
    | with_reducible exact Rg.refl _ _
    | exact (rfl : (_ : Nat) = _)
    | with_reducible refine Rg.trans ?_ (by assumption)
    | with_reducible refine State.setSlot_rg ?_ ?_
    | with_reducible refine State.putEntry_rg ?_ ?_
    | with_reducible refine State.ownPage_rg ?_ ?_
    | with_reducible refine Rg.pair (h := ?_) (e := by assumption))

theorem State.setGrain_rg {msk : Nat} {b₀ : State} {s : State} {vol : Nat} {g : Nat} {new : Nat} {t : Nat} (h₀ : Rg msk b₀ s) (hm₀ : 96107167241834975113312584178489302142293605564759693426004588894417285174339314651986626222954283729664672024879809959352794238588654061432213649874520966944 ||| msk = msk) :
    Rg msk b₀ (State.setGrain s vol g new t) := by
  refine Rg.step h₀ ?_ hm₀
  clear h₀ hm₀
  unfold State.setGrain
  try dsimp only
  repeat' (first
    | with_reducible exact Rg.refl _ _
    | exact (rfl : (_ : Nat) = _)
    | with_reducible refine State.ownPage_rg ?_ ?_
    | with_reducible refine State.setPath_rg ?_ ?_
    | with_reducible refine State.setVol_rg ?_ ?_
    | with_reducible refine Rg.ite ?_ ?_
    | split)

theorem State.setSlotOp_rg {msk : Nat} {b₀ : State} {s : State} {pool : Nat} {page : Nat} {slot : Nat} {new : Nat} {old : Nat} {t : Nat} (h₀ : Rg msk b₀ s) (hm₀ : 96107167241834975113312584178489302142293605564759693426004588894417285174339314651986626222954283729664672024879809959352794238588654061432213649874520966944 ||| msk = msk) :
    Rg msk b₀ (State.setSlotOp s pool page slot new old t) := by
  refine Rg.step h₀ ?_ hm₀
  clear h₀ hm₀
  unfold State.setSlotOp
  try dsimp only
  repeat' (first
    | with_reducible exact Rg.refl _ _
    | exact (rfl : (_ : Nat) = _)
    | with_reducible refine State.setSlot_rg ?_ ?_
    | with_reducible refine Rg.ite ?_ ?_)

theorem State.freePage_rg {msk : Nat} {b₀ : State} {s : State} {pool : Nat} {id : Nat} {t : Nat} (h₀ : Rg msk b₀ s) (hm₀ : 96107167241834975113312584178489302142293605564759693426004588894417285174339314651986626222954283729664672024879809959352794238588654061432213649874520966944 ||| msk = msk) :
    Rg msk b₀ (State.freePage s pool id t).1 := by
  refine Rg.step h₀ ?_ hm₀
  clear h₀ hm₀
  unfold State.freePage
  try dsimp only
  repeat' (first
    | with_reducible exact Rg.refl _ _
    | with_reducible assumption
    | exact (rfl : (_ : Nat) = _)
    | with_reducible refine State.setPool_rg ?_ ?_
    | with_reducible refine State.dropRef_rg ?_ ?_
    | with_reducible refine State.shareBy_rg ?_ ?_
    | dsimp only
    | with_reducible refine Rg.ite₁ ?_ ?_
    | with_reducible refine Rg.foldl ?_ _ _ ?_
    | with_reducible refine Rg.foldl₂ ?_ _ _ ?_
    | intro _ _ _
    | split
    | refine Rg.mk' ?_)

theorem State.refBy_rg {msk : Nat} {b₀ : State} {s : State} {a : Nat} {delta : Int} (h₀ : Rg msk b₀ s) (hm₀ : 96107167241834975113312584178489302142293605564759693426004588894417285174339314651986626222954283729664672024879809959352794238588654061432213649874520966944 ||| msk = msk) :
    Rg msk b₀ (State.refBy s a delta) := by
  refine Rg.step h₀ ?_ hm₀
  clear h₀ hm₀
  unfold State.refBy
  try dsimp only
  repeat' (first
    | with_reducible exact Rg.refl _ _
    | exact (rfl : (_ : Nat) = _)
    | with_reducible refine State.raise_rg ?_ ?_
    | with_reducible refine State.setRefs_rg ?_ ?_
    | with_reducible refine State.liveBy_rg ?_ ?_
    | with_reducible refine Rg.ite ?_ ?_)

end Sys2Proof.Machine
end

