-- ==== Sys2Proof/Laws/RgComplete.lean ====
section
/-! SUPPORT. Register frames of the operations of Machine.Complete: the registers that each may write. -/

set_option maxRecDepth 20000
set_option Elab.async false
set_option linter.unusedTactic false
set_option linter.unreachableTactic false
set_option linter.unusedVariables false

namespace Sys2Proof.Machine

theorem State.unhold_rg {msk : Nat} {b₀ : State} {s : State} {qs : List Nat} (h₀ : Rg msk b₀ s) (hm₀ : 0 ||| msk = msk) :
    Rg msk b₀ (State.unhold s qs) := by
  refine Rg.step h₀ ?_ hm₀
  clear h₀ hm₀
  unfold State.unhold
  try dsimp only
  repeat' (first
    | with_reducible exact Rg.refl _ _
    | with_reducible assumption
    | exact (rfl : (_ : Nat) = _)
    | with_reducible refine State.putPart_rg ?_ ?_
    | with_reducible refine Rg.foldl ?_ _ _ ?_
    | intro _ _ _
    | split)

theorem State.unread_rg {msk : Nat} {b₀ : State} {s : State} {a : Nat} (h₀ : Rg msk b₀ s) (hm₀ : 0 ||| msk = msk) :
    Rg msk b₀ (State.unread s a) := by
  refine Rg.step h₀ ?_ hm₀
  clear h₀ hm₀
  unfold State.unread
  try dsimp only
  repeat' (first
    | with_reducible exact Rg.refl _ _
    | exact (rfl : (_ : Nat) = _)
    | with_reducible refine State.setSeg_rg ?_ ?_
    | split)

theorem State.endReads_rg {msk : Nat} {b₀ : State} {s : State} {c : HostCmd} (h₀ : Rg msk b₀ s) (hm₀ : 842498333348457493583344221469363458551160763204392890034487820288 ||| msk = msk) :
    Rg msk b₀ (State.endReads s c) := by
  refine Rg.step h₀ ?_ hm₀
  clear h₀ hm₀
  unfold State.endReads
  try dsimp only
  repeat' (first
    | with_reducible exact Rg.refl _ _
    | with_reducible assumption
    | exact (rfl : (_ : Nat) = _)
    | with_reducible refine State.unhold_rg ?_ ?_
    | with_reducible refine State.unread_rg ?_ ?_
    | with_reducible refine State.wrN_rg ?_ ?_
    | with_reducible refine in_RD_BASIN_FREE ?_
    | exact (rfl : (_ : Bool) = _)
    | with_reducible refine Rg.ite ?_ ?_
    | with_reducible refine Rg.foldl ?_ _ _ ?_
    | intro _ _ _
    | split
    | refine Rg.mk' ?_)

theorem State.staleDiscard_rg {msk : Nat} {b₀ : State} {s : State} {f : Nat} (h₀ : Rg msk b₀ s) (hm₀ : 2361183241434822606880 ||| msk = msk) :
    Rg msk b₀ (State.staleDiscard s f) := by
  refine Rg.step h₀ ?_ hm₀
  clear h₀ hm₀
  unfold State.staleDiscard
  try dsimp only
  repeat' (first
    | with_reducible exact Rg.refl _ _
    | exact (rfl : (_ : Nat) = _)
    | with_reducible refine State.event_rg ?_ ?_
    | with_reducible refine State.count_rg ?_ ?_
    | with_reducible refine in_FN_STALE_COUNT ?_
    | exact (rfl : (_ : Bool) = _))

theorem State.staleComplete_rg {msk : Nat} {b₀ : State} {s : State} {src : CmdSrc} (h₀ : Rg msk b₀ s) (hm₀ : 2361183241434822606880 ||| msk = msk) :
    Rg msk b₀ (State.staleComplete s src) := by
  refine Rg.step h₀ ?_ hm₀
  clear h₀ hm₀
  unfold State.staleComplete
  try dsimp only
  repeat' (first
    | with_reducible exact Rg.refl _ _
    | with_reducible assumption
    | exact (rfl : (_ : Nat) = _)
    | with_reducible refine State.staleDiscard_rg ?_ ?_
    | dsimp only
    | with_reducible refine Rg.ite ?_ ?_
    | with_reducible refine Rg.ite₁ ?_ ?_
    | with_reducible refine RgS.ite ?_ ?_
    | with_reducible refine RgP.ite ?_ ?_
    | with_reducible exact RgS.none
    | with_reducible refine RgS.some ?_
    | with_reducible refine RgS.map ?_
    | with_reducible exact RgP.none
    | with_reducible refine RgP.some ?_
    | with_reducible refine Rg.elim ?_ ?_
    | with_reducible refine Rg.foldl ?_ _ _ ?_
    | with_reducible refine Rg.foldl₂ ?_ _ _ ?_
    | intro _ _ _ _ _ _
    | intro _ _ _ _ _
    | intro _ _ _ _
    | intro _ _ _
    | intro _ _
    | intro _
    | with_reducible refine Rg.pair (h := ?_) (e := by assumption)
    | with_reducible refine RgO.got (h := ?_) (e := by assumption)
    | with_reducible refine RgS.get (h := ?_) (e := by assumption)
    | with_reducible refine RgP.get (h := ?_) (e := by assumption)
    | split)

theorem State.legacyDone_rg {msk : Nat} {b₀ : State} {s : State} {f : Nat} {tag : Nat} {status : Nat} (h₀ : Rg msk b₀ s) (hm₀ : 309485009821345068724781056 ||| msk = msk) :
    Rg msk b₀ (State.legacyDone s f tag status) := by
  refine Rg.step h₀ ?_ hm₀
  clear h₀ hm₀
  unfold State.legacyDone
  try dsimp only
  repeat' (first
    | with_reducible exact Rg.refl _ _
    | exact (rfl : (_ : Nat) = _)
    | with_reducible refine State.wrWin_rg ?_ ?_
    | with_reducible refine State.winBit_rg ?_ ?_
    | with_reducible refine State.count_rg ?_ ?_
    | with_reducible refine State.setFn_rg ?_ ?_
    | with_reducible refine in_LQ_CMPL_COUNT ?_
    | exact (rfl : (_ : Bool) = _))

theorem State.cqPost_rg {msk : Nat} {b₀ : State} {s : State} {f : Nat} {qid : Nat} (h₀ : Rg msk b₀ s) (hm₀ : 0 ||| msk = msk) :
    Rg msk b₀ (State.cqPost s f qid) := by
  refine Rg.step h₀ ?_ hm₀
  clear h₀ hm₀
  unfold State.cqPost
  try dsimp only
  repeat' (first
    | with_reducible exact Rg.refl _ _
    | with_reducible assumption
    | exact (rfl : (_ : Nat) = _)
    | with_reducible refine State.setFn_rg ?_ ?_
    | with_reducible refine State.postMsix_rg ?_ ?_
    | dsimp only
    | with_reducible refine Rg.ite ?_ ?_
    | with_reducible refine Rg.ite₁ ?_ ?_
    | with_reducible refine RgS.ite ?_ ?_
    | with_reducible refine RgP.ite ?_ ?_
    | with_reducible exact RgS.none
    | with_reducible refine RgS.some ?_
    | with_reducible refine RgS.map ?_
    | with_reducible exact RgP.none
    | with_reducible refine RgP.some ?_
    | with_reducible refine Rg.elim ?_ ?_
    | with_reducible refine Rg.foldl ?_ _ _ ?_
    | with_reducible refine Rg.foldl₂ ?_ _ _ ?_
    | intro _ _ _ _ _ _
    | intro _ _ _ _ _
    | intro _ _ _ _
    | intro _ _ _
    | intro _ _
    | intro _
    | with_reducible refine Rg.pair (h := ?_) (e := by assumption)
    | with_reducible refine RgO.got (h := ?_) (e := by assumption)
    | with_reducible refine RgS.get (h := ?_) (e := by assumption)
    | with_reducible refine RgP.get (h := ?_) (e := by assumption)
    | split)

theorem State.replReply_rg {msk : Nat} {b₀ : State} {s : State} {group : Nat} {kind : Nat} {value : Nat} (h₀ : Rg msk b₀ s) (hm₀ : 0 ||| msk = msk) :
    Rg msk b₀ (State.replReply s group kind value) := by
  refine Rg.step h₀ ?_ hm₀
  clear h₀ hm₀
  unfold State.replReply
  try dsimp only
  repeat' (first
    | with_reducible exact Rg.refl _ _
    | with_reducible assumption
    | exact (rfl : (_ : Nat) = _)
    | with_reducible refine State.emit_rg ?_ ?_
    | dsimp only
    | with_reducible refine Rg.ite ?_ ?_
    | with_reducible refine Rg.ite₁ ?_ ?_
    | with_reducible refine RgS.ite ?_ ?_
    | with_reducible refine RgP.ite ?_ ?_
    | with_reducible exact RgS.none
    | with_reducible refine RgS.some ?_
    | with_reducible refine RgS.map ?_
    | with_reducible exact RgP.none
    | with_reducible refine RgP.some ?_
    | with_reducible refine Rg.elim ?_ ?_
    | with_reducible refine Rg.foldl ?_ _ _ ?_
    | with_reducible refine Rg.foldl₂ ?_ _ _ ?_
    | intro _ _ _ _ _ _
    | intro _ _ _ _ _
    | intro _ _ _ _
    | intro _ _ _
    | intro _ _
    | intro _
    | with_reducible refine Rg.pair (h := ?_) (e := by assumption)
    | with_reducible refine RgO.got (h := ?_) (e := by assumption)
    | with_reducible refine RgS.get (h := ?_) (e := by assumption)
    | with_reducible refine RgP.get (h := ?_) (e := by assumption)
    | split)

theorem State.answer_rg {msk : Nat} {b₀ : State} {s : State} {src : CmdSrc} {status : Nat} {result : Nat} (h₀ : Rg msk b₀ s) (hm₀ : 143343663499379469475676305956380433799785311823017570233599302463043809223214363843239479344178653038592 ||| msk = msk) :
    Rg msk b₀ (State.answer s src status result) := by
  refine Rg.step h₀ ?_ hm₀
  clear h₀ hm₀
  unfold State.answer
  try dsimp only
  repeat' (first
    | with_reducible exact Rg.refl _ _
    | exact (rfl : (_ : Nat) = _)
    | with_reducible refine State.emit_rg ?_ ?_
    | with_reducible refine State.legacyDone_rg ?_ ?_
    | with_reducible refine State.setFn_rg ?_ ?_
    | with_reducible refine State.cqPost_rg ?_ ?_
    | with_reducible refine State.qpSend_rg ?_ ?_
    | with_reducible refine State.tlSend_rg ?_ ?_
    | with_reducible refine Rg.ite ?_ ?_
    | split
    | refine Rg.mk' ?_)

theorem State.complete_rg {msk : Nat} {b₀ : State} {s : State} {n : Nat} {status : Nat} {result : optParam Nat 0} (h₀ : Rg msk b₀ s) (hm₀ : 143343663499379469475676305956380433800627810156366027727182646684513172681765524608805055475647963465760 ||| msk = msk) :
    Rg msk b₀ (State.complete s n status result) := by
  refine Rg.step h₀ ?_ hm₀
  clear h₀ hm₀
  unfold State.complete
  try dsimp only
  repeat' (first
    | with_reducible exact Rg.refl _ _
    | with_reducible assumption
    | exact (rfl : (_ : Nat) = _)
    | with_reducible refine State.dropCmd_rg ?_ ?_
    | with_reducible refine State.endReads_rg ?_ ?_
    | with_reducible refine State.staleComplete_rg ?_ ?_
    | with_reducible refine State.answer_rg ?_ ?_
    | with_reducible refine State.emit_rg ?_ ?_
    | dsimp only
    | with_reducible refine Rg.ite ?_ ?_
    | with_reducible refine Rg.ite₁ ?_ ?_
    | with_reducible refine RgS.ite ?_ ?_
    | with_reducible refine RgP.ite ?_ ?_
    | with_reducible exact RgS.none
    | with_reducible refine RgS.some ?_
    | with_reducible refine RgS.map ?_
    | with_reducible exact RgP.none
    | with_reducible refine RgP.some ?_
    | with_reducible refine Rg.elim ?_ ?_
    | with_reducible refine Rg.foldl ?_ _ _ ?_
    | with_reducible refine Rg.foldl₂ ?_ _ _ ?_
    | intro _ _ _ _ _ _
    | intro _ _ _ _ _
    | intro _ _ _ _
    | intro _ _ _
    | intro _ _
    | intro _
    | with_reducible refine Rg.pair (h := ?_) (e := by assumption)
    | with_reducible refine RgO.got (h := ?_) (e := by assumption)
    | with_reducible refine RgS.get (h := ?_) (e := by assumption)
    | with_reducible refine RgP.get (h := ?_) (e := by assumption)
    | split
    | refine Rg.mk' ?_)

theorem State.completeAll_rg {msk : Nat} {b₀ : State} {s : State} {ns : List Nat} {status : Nat} (h₀ : Rg msk b₀ s) (hm₀ : 143343663499379469475676305956380433800627810156366027727182646684513172681765524608805055475647963465760 ||| msk = msk) :
    Rg msk b₀ (State.completeAll s ns status) := by
  refine Rg.step h₀ ?_ hm₀
  clear h₀ hm₀
  unfold State.completeAll
  try dsimp only
  repeat' (first
    | with_reducible exact Rg.refl _ _
    | with_reducible assumption
    | exact (rfl : (_ : Nat) = _)
    | with_reducible refine State.complete_rg ?_ ?_
    | with_reducible refine Rg.foldl ?_ _ _ ?_
    | intro _ _ _)

end Sys2Proof.Machine
end

