-- ==== Sys2Proof/Laws/RgPages.lean ====
section
/-! SUPPORT. Register frames of the operations of Machine.Pages: the registers that each may write. -/

set_option maxRecDepth 20000
set_option Elab.async false
set_option linter.unusedTactic false
set_option linter.unreachableTactic false
set_option linter.unusedVariables false

namespace Sys2Proof.Machine

theorem State.pageWrite_rg {msk : Nat} {b₀ : State} {s : State} {p : Nat} {f : State → State} (hf : ∀ t0, Rg msk b₀ t0 → Rg msk b₀ (f t0)) (h₀ : Rg msk b₀ s) (hm₀ : 96107167241834975113312584178489302142293605564759693426004588894417285174339314651986626222954283729664672024879809959352794238588654061432213649874520966944 ||| msk = msk) :
    Rg msk b₀ (State.pageWrite s p f) := by
  unfold State.pageWrite
  try dsimp only
  repeat' (first
    | with_reducible assumption
    | with_reducible refine State.writeDiscarded_rg ?_ ?_
    | with_reducible refine hf _ ?_
    | with_reducible refine Rg.ite ?_ ?_)

theorem execPgUnfreeze_rg {msk : Nat} {b₀ : State} {p : Nat} {s : State} (h₀ : Rg msk b₀ s) (hm₀ : 96107167241834975113312584178489302142293605564759693426004588894417285174339314651986626222954283729664672024879809959352794238588654061432213649874520966952 ||| msk = msk) :
    RgO msk b₀ (execPgUnfreeze p s) := by
  refine RgO.step h₀ ?_ hm₀
  clear h₀ hm₀
  unfold execPgUnfreeze
  try dsimp only
  repeat' (first
    | with_reducible exact Rg.refl _ _
    | with_reducible assumption
    | exact (rfl : (_ : Nat) = _)
    | with_reducible refine State.pageWrite_rg ?_ ?_ ?_
    | with_reducible refine State.putBit_rg ?_ ?_
    | with_reducible refine in_PG_CTRL ?_
    | exact (rfl : (_ : Bool) = _)
    | with_reducible refine RgO.next ?_
    | intro _ _)

theorem execPgSoftReset_rg {msk : Nat} {b₀ : State} {p : Nat} {s : State} (h₀ : Rg msk b₀ s) (hm₀ : 96107167241834975113312584178489302142293605564759693426004588894417285174339314651986626222954283729664672024879809959352794238588654061432213649874520966952 ||| msk = msk) :
    RgO msk b₀ (execPgSoftReset p s) := by
  refine RgO.step h₀ ?_ hm₀
  clear h₀ hm₀
  unfold execPgSoftReset
  try dsimp only
  repeat' (first
    | with_reducible exact Rg.refl _ _
    | with_reducible assumption
    | exact (rfl : (_ : Nat) = _)
    | with_reducible refine State.pageWrite_rg ?_ ?_ ?_
    | with_reducible refine State.putBit_rg ?_ ?_
    | with_reducible refine State.writeDiscarded_rg ?_ ?_
    | with_reducible refine in_PG_CTRL ?_
    | exact (rfl : (_ : Bool) = _)
    | with_reducible refine Rg.ite ?_ ?_
    | with_reducible refine RgO.next ?_
    | intro _ _)

theorem execEvtArm_rg {msk : Nat} {b₀ : State} {m : DWord} {s : State} (h₀ : Rg msk b₀ s) (hm₀ : 35184372088832 ||| msk = msk) :
    RgO msk b₀ (execEvtArm m s) := by
  refine RgO.step h₀ ?_ hm₀
  clear h₀ hm₀
  unfold execEvtArm
  try dsimp only
  repeat' (first
    | with_reducible exact Rg.refl _ _
    | with_reducible refine State.wr64_rg ?_ ?_ ?_
    | with_reducible refine in_EVT_ARM ?_
    | with_reducible refine in_EVT_ARM4 ?_
    | exact (rfl : (_ : Bool) = _)
    | with_reducible refine RgO.next ?_)

theorem State.setUnits_rg {msk : Nat} {b₀ : State} {s : State} {p : Nat} {st : PState} (h₀ : Rg msk b₀ s) (hm₀ : 8192 ||| msk = msk) :
    Rg msk b₀ (State.setUnits s p st) := by
  refine Rg.step h₀ ?_ hm₀
  clear h₀ hm₀
  unfold State.setUnits
  try dsimp only
  repeat' (first
    | with_reducible exact Rg.refl _ _
    | with_reducible assumption
    | with_reducible refine State.putFld_rg ?_ ?_
    | with_reducible refine in_UNIT_WORD ?_
    | exact (rfl : (_ : Bool) = _)
    | with_reducible refine Rg.ite ?_ ?_
    | with_reducible refine Rg.foldl ?_ _ _ ?_
    | intro _ _ _
    | split)

theorem State.unmapped_rg {msk : Nat} {b₀ : State} {s : State} (h₀ : Rg msk b₀ s) (hm₀ : 96107167241834975113312584178489302142293605564759693426004588894417285174339314651986626222954283729664672024879809959352794238588654061432213649874520966944 ||| msk = msk) :
    Rg msk b₀ (State.unmapped s) := by
  refine Rg.step h₀ ?_ hm₀
  clear h₀ hm₀
  unfold State.unmapped
  try dsimp only
  repeat' (first
    | with_reducible exact Rg.refl _ _
    | exact (rfl : (_ : Nat) = _)
    | with_reducible refine State.raise_rg ?_ ?_)

theorem State.kdeSeen_rg {msk : Nat} {b₀ : State} {s : State} {p : Nat} {path : Nat} (h₀ : Rg msk b₀ s) (hm₀ : 0 ||| msk = msk) :
    Rg msk b₀ (State.kdeSeen s p path) := by
  refine Rg.step h₀ ?_ hm₀
  clear h₀ hm₀
  unfold State.kdeSeen
  try dsimp only
  repeat' (first
    | with_reducible exact Rg.refl _ _
    | with_reducible assumption
    | exact (rfl : (_ : Nat) = _)
    | dsimp only
    | with_reducible refine Rg.ite ?_ ?_
    | with_reducible refine Rg.ite₁ ?_ ?_
    | with_reducible refine RgS.ite ?_ ?_
    | with_reducible refine RgP.ite ?_ ?_
    | with_reducible exact RgS.none
    | with_reducible refine RgS.some ?_
    | with_reducible refine RgS.map ?_
    | with_reducible exact RgP.none
    | with_reducible refine RgP.some ?_
    | with_reducible refine Rg.elim ?_ ?_
    | with_reducible refine Rg.foldl ?_ _ _ ?_
    | with_reducible refine Rg.foldl₂ ?_ _ _ ?_
    | intro _ _ _ _ _ _
    | intro _ _ _ _ _
    | intro _ _ _ _
    | intro _ _ _
    | intro _ _
    | intro _
    | with_reducible refine Rg.pair (h := ?_) (e := by assumption)
    | with_reducible refine RgO.got (h := ?_) (e := by assumption)
    | with_reducible refine RgS.get (h := ?_) (e := by assumption)
    | with_reducible refine RgP.get (h := ?_) (e := by assumption)
    | split
    | refine Rg.mk' ?_)

theorem State.writeBits_rg {msk : Nat} {b₀ : State} {s : State} {k : Nat} {rw : Word} {rws : Word} {w1c : Word} {v : Word} (_ : Rg msk b₀ s) (hm₀ : 57586096570152913699974892898380567793532123114264532903689671329431521032595044740083720782129802971518987656109067457577065805510327036019308994315074097345724415 ||| msk = msk) :
    Rg msk b₀ (State.writeBits s k rw rws w1c v) :=
  Rg.any (by rw [← hm₀, Nat.testBit_or]; rfl)

theorem State.ownRule_rg {msk : Nat} {b₀ : State} {s : State} {path : Nat} {off : Nat} {v : Word} (h₀ : Rg msk b₀ s) (hm₀ : 57586096570152913699974892898380567793532123114264532903689671329431521032595044740083720782129802971518987656109067457577065805510327036019308994315074097345724415 ||| msk = msk) :
    RgS msk b₀ (State.ownRule s path off v) := by
  refine RgS.step h₀ ?_ hm₀
  clear h₀ hm₀
  unfold State.ownRule
  try dsimp only
  repeat' (first
    | with_reducible exact Rg.refl _ _
    | exact (rfl : (_ : Nat) = _)
    | with_reducible refine State.writeBits_rg ?_ ?_
    | with_reducible refine State.raise_rg ?_ ?_
    | with_reducible refine State.writeDiscarded_rg ?_ ?_
    | with_reducible refine RgS.ite ?_ ?_
    | with_reducible exact RgS.none
    | with_reducible refine RgS.some ?_
    | split)

theorem State.writePair_rg {msk : Nat} {b₀ : State} {s : State} {row : RegRow} {k : Nat} {hi : Word} (_ : Rg msk b₀ s) (hm₀ : 57586096570152913699974892898380567793532123114264532903689671329431521032595044740083720782129802971518987656109067457577065805510327036019308994315074097345724415 ||| msk = msk) :
    Rg msk b₀ (State.writePair s row k hi) :=
  Rg.any (by rw [← hm₀, Nat.testBit_or]; rfl)

theorem State.busWrite_rg {msk : Nat} {b₀ : State} {s0 : State} {off : Nat} {v : Word} {path : optParam Nat 0} (_ : Rg msk b₀ s0) (hm₀ : 57586096570152913699974892898380567793532123114264532903689671329431521032595044740083720782129802971518987656109067457577065805510327036019308994315074097345724415 ||| msk = msk) :
    Rg msk b₀ (State.busWrite s0 off v path) :=
  Rg.any (by rw [← hm₀, Nat.testBit_or]; rfl)

theorem execChipInjEn_rg {msk : Nat} {b₀ : State} {v : Word} {s : State} (h₀ : Rg msk b₀ s) (hm₀ : 96107167241834975113312584178489302142293605564759693426004588894417285174339314651986626222954283729664672024879809959352794238588654061432213649874520966944 ||| msk = msk) :
    RgO msk b₀ (execChipInjEn v s) := by
  refine RgO.step h₀ ?_ hm₀
  clear h₀ hm₀
  unfold execChipInjEn
  try dsimp only
  repeat' (first
    | with_reducible exact Rg.refl _ _
    | exact (rfl : (_ : Nat) = _)
    | with_reducible refine State.record_rg ?_ ?_
    | with_reducible refine State.useFree_rg ?_ ?_
    | with_reducible refine State.wrN_rg ?_ ?_
    | with_reducible refine in_CHIP_INJ_EN ?_
    | exact (rfl : (_ : Bool) = _)
    | with_reducible refine RgO.ite ?_ ?_
    | with_reducible refine RgO.next ?_)

theorem State.spareShow_rg {msk : Nat} {b₀ : State} {s : State} {p : Nat} (h₀ : Rg msk b₀ s) (hm₀ : 818347651974035467503297424206909874967746788497444540805088478789167549514421877875164517844587526192495174317806539804465564674875394760097650442240 ||| msk = msk) :
    Rg msk b₀ (State.spareShow s p) := by
  refine Rg.step h₀ ?_ hm₀
  clear h₀ hm₀
  unfold State.spareShow
  try dsimp only
  repeat' (first
    | with_reducible exact Rg.refl _ _
    | with_reducible refine State.putFld_rg ?_ ?_
    | with_reducible refine State.putBit_rg ?_ ?_
    | with_reducible refine State.wrN_rg ?_ ?_
    | with_reducible refine in_DC_STATUS ?_
    | with_reducible refine in_RM_INV ?_
    | exact (rfl : (_ : Bool) = _)
    | with_reducible refine Rg.ite ?_ ?_)

theorem execInitFail_rg {msk : Nat} {b₀ : State} {p : Nat} {code : Nat} {sub : Nat} {s : State} (h₀ : Rg msk b₀ s) (hm₀ : 96107167241834975113312584178489302142293605564759693426004588894417285174339314651986626222954283729664672024879809959352794238588654061432213649874520966944 ||| msk = msk) :
    RgO msk b₀ (execInitFail p code sub s) := by
  refine RgO.step h₀ ?_ hm₀
  clear h₀ hm₀
  unfold execInitFail
  try dsimp only
  repeat' (first
    | with_reducible exact Rg.refl _ _
    | exact (rfl : (_ : Nat) = _)
    | with_reducible refine State.raise_rg ?_ ?_
    | with_reducible refine Rg.ite ?_ ?_
    | with_reducible refine RgO.next ?_
    | refine Rg.mk' ?_)

theorem State.initComplete_rg {msk : Nat} {b₀ : State} {s : State} {p : Nat} (h₀ : Rg msk b₀ s) (hm₀ : 96107168060182627087348051681786726349203480532506481923449129699505763963506864166408504098118801574252198217374984277159334043054218736307608409972171417392 ||| msk = msk) :
    Rg msk b₀ (State.initComplete s p) := by
  refine Rg.step h₀ ?_ hm₀
  clear h₀ hm₀
  unfold State.initComplete
  try dsimp only
  repeat' (first
    | with_reducible exact Rg.refl _ _
    | exact (rfl : (_ : Nat) = _)
    | with_reducible refine State.raise_rg ?_ ?_
    | with_reducible refine State.useFree_rg ?_ ?_
    | with_reducible refine State.spareShow_rg ?_ ?_
    | with_reducible refine State.setUnits_rg ?_ ?_
    | with_reducible refine State.setPage_rg ?_ ?_
    | with_reducible refine State.putBit_rg ?_ ?_
    | with_reducible refine in_PG_STATE ?_
    | exact (rfl : (_ : Bool) = _)
    | with_reducible refine Rg.ite ?_ ?_
    | refine Rg.mk' ?_)

theorem State.accessBad_rg {msk : Nat} {b₀ : State} {s : State} {off : Nat} {size : Nat} {write : Bool} (h₀ : Rg msk b₀ s) (hm₀ : 96107167241834975113312584178489302142293605564759693426004588894417285174339314651986626222954283729664672024879809959352794238588654061432213649874520966944 ||| msk = msk) :
    Rg msk b₀ (State.accessBad s off size write) := by
  refine Rg.step h₀ ?_ hm₀
  clear h₀ hm₀
  unfold State.accessBad
  try dsimp only
  repeat' (first
    | with_reducible exact Rg.refl _ _
    | with_reducible assumption
    | exact (rfl : (_ : Nat) = _)
    | with_reducible refine State.raise_rg ?_ ?_
    | with_reducible refine State.emit_rg ?_ ?_
    | dsimp only
    | with_reducible refine Rg.ite ?_ ?_
    | with_reducible refine Rg.ite₁ ?_ ?_
    | with_reducible refine RgS.ite ?_ ?_
    | with_reducible refine RgP.ite ?_ ?_
    | with_reducible exact RgS.none
    | with_reducible refine RgS.some ?_
    | with_reducible refine RgS.map ?_
    | with_reducible exact RgP.none
    | with_reducible refine RgP.some ?_
    | with_reducible refine Rg.elim ?_ ?_
    | with_reducible refine Rg.foldl ?_ _ _ ?_
    | with_reducible refine Rg.foldl₂ ?_ _ _ ?_
    | intro _ _ _ _ _ _
    | intro _ _ _ _ _
    | intro _ _ _ _
    | intro _ _ _
    | intro _ _
    | intro _
    | with_reducible refine Rg.pair (h := ?_) (e := by assumption)
    | with_reducible refine RgO.got (h := ?_) (e := by assumption)
    | with_reducible refine RgS.get (h := ?_) (e := by assumption)
    | with_reducible refine RgP.get (h := ?_) (e := by assumption)
    | split)

theorem execPgCommit_rg {msk : Nat} {b₀ : State} {p : Nat} {s : State} (h₀ : Rg msk b₀ s) (hm₀ : 96107167241834975113312584178489302142293605564759693426004588894417285174339314651986626222954283729664672024879809959352794238588654061432213649874520966968 ||| msk = msk) :
    RgO msk b₀ (execPgCommit p s) := by
  refine RgO.step h₀ ?_ hm₀
  clear h₀ hm₀
  unfold execPgCommit
  try dsimp only
  repeat' (first
    | with_reducible exact Rg.refl _ _
    | with_reducible assumption
    | exact (rfl : (_ : Nat) = _)
    | with_reducible refine State.pageWrite_rg ?_ ?_ ?_
    | with_reducible refine State.putBit_rg ?_ ?_
    | with_reducible refine in_PG_CTRL ?_
    | with_reducible refine in_PG_STATE ?_
    | exact (rfl : (_ : Bool) = _)
    | with_reducible refine Rg.ite ?_ ?_
    | with_reducible refine RgO.next ?_
    | intro _ _
    | split
    | refine Rg.mk' ?_)

theorem execPgEventForce_rg {msk : Nat} {b₀ : State} {p : Nat} {m : Word} {s : State} (h₀ : Rg msk b₀ s) (hm₀ : 96107167241834975113312584178489302142293605564759693426004588894417285174339314651986626222954283729664672024879809959352794238588654061432213649874520966944 ||| msk = msk) :
    RgO msk b₀ (execPgEventForce p m s) := by
  refine RgO.step h₀ ?_ hm₀
  clear h₀ hm₀
  unfold execPgEventForce
  try dsimp only
  repeat' (first
    | with_reducible exact Rg.refl _ _
    | with_reducible assumption
    | exact (rfl : (_ : Nat) = _)
    | with_reducible refine State.pageWrite_rg ?_ ?_ ?_
    | with_reducible refine State.wr_rg ?_ ?_
    | with_reducible refine in_PG_EVENT ?_
    | exact (rfl : (_ : Bool) = _)
    | with_reducible refine RgO.next ?_
    | intro _ _)

theorem execErrRearm_rg {msk : Nat} {b₀ : State} {p : Nat} {s : State} (h₀ : Rg msk b₀ s) (hm₀ : 1280 ||| msk = msk) :
    RgO msk b₀ (execErrRearm p s) := by
  refine RgO.step h₀ ?_ hm₀
  clear h₀ hm₀
  unfold execErrRearm
  try dsimp only
  repeat' (first
    | with_reducible exact Rg.refl _ _
    | with_reducible refine State.wr64_rg ?_ ?_ ?_
    | with_reducible refine State.wrN_rg ?_ ?_
    | with_reducible refine in_PG_ERR_FIRST ?_
    | with_reducible refine in_PG_ERR_STRIDE ?_
    | with_reducible refine in_PG_ERR_STRIDE4 ?_
    | exact (rfl : (_ : Bool) = _)
    | with_reducible refine RgO.next ?_)

theorem State.injectWrite_rg {msk : Nat} {b₀ : State} {s : State} {p : Nat} {v : Word} (h₀ : Rg msk b₀ s) (hm₀ : 96107167241834975113312584178489302142293605564759693426004588894417285174339314651986626222954283729664672024879809959352794238588654061432213649874520968992 ||| msk = msk) :
    Rg msk b₀ (State.injectWrite s p v) := by
  refine Rg.step h₀ ?_ hm₀
  clear h₀ hm₀
  unfold State.injectWrite
  try dsimp only
  repeat' (first
    | with_reducible exact Rg.refl _ _
    | with_reducible assumption
    | exact (rfl : (_ : Nat) = _)
    | with_reducible refine State.writeDiscarded_rg ?_ ?_
    | with_reducible refine State.wrN_rg ?_ ?_
    | with_reducible refine State.wr_rg ?_ ?_
    | with_reducible refine in_PG_INJECT ?_
    | with_reducible refine InSet.ite ?_ ?_
    | exact (rfl : (_ : Bool) = _)
    | dsimp only
    | with_reducible refine Rg.ite ?_ ?_
    | with_reducible refine Rg.ite₁ ?_ ?_
    | with_reducible refine RgS.ite ?_ ?_
    | with_reducible refine RgP.ite ?_ ?_
    | with_reducible exact RgS.none
    | with_reducible refine RgS.some ?_
    | with_reducible refine RgS.map ?_
    | with_reducible exact RgP.none
    | with_reducible refine RgP.some ?_
    | with_reducible refine Rg.elim ?_ ?_
    | with_reducible refine Rg.foldl ?_ _ _ ?_
    | with_reducible refine Rg.foldl₂ ?_ _ _ ?_
    | intro _ _ _ _ _ _
    | intro _ _ _ _ _
    | intro _ _ _ _
    | intro _ _ _
    | intro _ _
    | intro _
    | with_reducible refine Rg.pair (h := ?_) (e := by assumption)
    | with_reducible refine RgO.got (h := ?_) (e := by assumption)
    | with_reducible refine RgS.get (h := ?_) (e := by assumption)
    | with_reducible refine RgP.get (h := ?_) (e := by assumption)
    | split)

theorem execUnmapped_rg {msk : Nat} {b₀ : State} {off : Nat} {write : Bool} {s : State} (h₀ : Rg msk b₀ s) (hm₀ : 96107167241834975113312584178489302142293605564759693426004588894417285174339314651986626222954283729664672024879809959352794238588654061432213649874520966944 ||| msk = msk) :
    RgO msk b₀ (execUnmapped off write s) := by
  refine RgO.step h₀ ?_ hm₀
  clear h₀ hm₀
  unfold execUnmapped
  try dsimp only
  repeat' (first
    | with_reducible exact Rg.refl _ _
    | with_reducible assumption
    | exact (rfl : (_ : Nat) = _)
    | with_reducible refine State.accessBad_rg ?_ ?_
    | with_reducible refine State.unmapped_rg ?_ ?_
    | with_reducible refine State.emit_rg ?_ ?_
    | dsimp only
    | with_reducible refine Rg.ite ?_ ?_
    | with_reducible refine Rg.ite₁ ?_ ?_
    | with_reducible refine RgO.ite ?_ ?_
    | with_reducible refine RgS.ite ?_ ?_
    | with_reducible refine RgP.ite ?_ ?_
    | with_reducible refine RgO.next ?_
    | with_reducible exact RgS.none
    | with_reducible refine RgS.some ?_
    | with_reducible refine RgS.map ?_
    | with_reducible exact RgP.none
    | with_reducible refine RgP.some ?_
    | with_reducible refine Rg.elim ?_ ?_
    | with_reducible refine Rg.foldl ?_ _ _ ?_
    | with_reducible refine Rg.foldl₂ ?_ _ _ ?_
    | intro _ _ _ _ _ _
    | intro _ _ _ _ _
    | intro _ _ _ _
    | intro _ _ _
    | intro _ _
    | intro _
    | with_reducible refine Rg.pair (h := ?_) (e := by assumption)
    | with_reducible refine RgO.got (h := ?_) (e := by assumption)
    | with_reducible refine RgS.get (h := ?_) (e := by assumption)
    | with_reducible refine RgP.get (h := ?_) (e := by assumption)
    | split)

theorem State.pagesMove_rg {msk : Nat} {b₀ : State} {s : State} (h₀ : Rg msk b₀ s) (hm₀ : 96107168060182627087348051681786726349203480532506481923449129699505763963506864166408504098118801574252198217374984277159334043054218736307608409972171417392 ||| msk = msk) :
    Rg msk b₀ (State.pagesMove s) := by
  refine Rg.step h₀ ?_ hm₀
  clear h₀ hm₀
  unfold State.pagesMove
  try dsimp only
  repeat' (first
    | with_reducible exact Rg.refl _ _
    | with_reducible assumption
    | exact (rfl : (_ : Nat) = _)
    | with_reducible refine State.initComplete_rg ?_ ?_
    | with_reducible refine State.setUnits_rg ?_ ?_
    | with_reducible refine State.setPage_rg ?_ ?_
    | dsimp only
    | with_reducible refine Rg.ite ?_ ?_
    | with_reducible refine Rg.ite₁ ?_ ?_
    | with_reducible refine RgS.ite ?_ ?_
    | with_reducible refine RgP.ite ?_ ?_
    | with_reducible exact RgS.none
    | with_reducible refine RgS.some ?_
    | with_reducible refine RgS.map ?_
    | with_reducible exact RgP.none
    | with_reducible refine RgP.some ?_
    | with_reducible refine Rg.elim ?_ ?_
    | with_reducible refine Rg.foldl ?_ _ _ ?_
    | with_reducible refine Rg.foldl₂ ?_ _ _ ?_
    | intro _ _ _ _ _ _
    | intro _ _ _ _ _
    | intro _ _ _ _
    | intro _ _ _
    | intro _ _
    | intro _
    | with_reducible refine Rg.pair (h := ?_) (e := by assumption)
    | with_reducible refine RgO.got (h := ?_) (e := by assumption)
    | with_reducible refine RgS.get (h := ?_) (e := by assumption)
    | with_reducible refine RgP.get (h := ?_) (e := by assumption)
    | split
    | refine Rg.mk' ?_)

theorem execPageParity_rg {msk : Nat} {b₀ : State} {p : Nat} {s : State} (h₀ : Rg msk b₀ s) (hm₀ : 96107167241834975113312584178489302142293605564759693426004588894417285174339314651986626222954283729664672024879809959352794238588654061432213649874520966944 ||| msk = msk) :
    RgO msk b₀ (execPageParity p s) := by
  refine RgO.step h₀ ?_ hm₀
  clear h₀ hm₀
  unfold execPageParity
  try dsimp only
  repeat' (first
    | with_reducible exact Rg.refl _ _
    | exact (rfl : (_ : Nat) = _)
    | with_reducible refine State.raise_rg ?_ ?_
    | with_reducible refine RgO.next ?_)

theorem execPgDisable_rg {msk : Nat} {b₀ : State} {p : Nat} {s : State} (h₀ : Rg msk b₀ s) (hm₀ : 96107167241834975113312584178489302142293605564759693426004588894417285174339314651986626222954283729664672024879809959352794238588654061432213649874520966952 ||| msk = msk) :
    RgO msk b₀ (execPgDisable p s) := by
  refine RgO.step h₀ ?_ hm₀
  clear h₀ hm₀
  unfold execPgDisable
  try dsimp only
  repeat' (first
    | with_reducible exact Rg.refl _ _
    | with_reducible assumption
    | exact (rfl : (_ : Nat) = _)
    | with_reducible refine State.pageWrite_rg ?_ ?_ ?_
    | with_reducible refine State.putBit_rg ?_ ?_
    | with_reducible refine in_PG_CTRL ?_
    | exact (rfl : (_ : Bool) = _)
    | with_reducible refine RgO.next ?_
    | intro _ _)

theorem State.windowWrite_rg {msk : Nat} {b₀ : State} {s : State} {f : Nat} {o : Nat} {v : Word} (h₀ : Rg msk b₀ s) (hm₀ : 0 ||| msk = msk) :
    Rg msk b₀ (State.windowWrite s f o v) := by
  refine Rg.step h₀ ?_ hm₀
  clear h₀ hm₀
  unfold State.windowWrite
  try dsimp only
  repeat' (first
    | with_reducible exact Rg.refl _ _
    | exact (rfl : (_ : Nat) = _)
    | with_reducible refine State.wrWin_rg ?_ ?_
    | with_reducible refine Rg.ite ?_ ?_)

theorem execPageDrained_rg {msk : Nat} {b₀ : State} {p : Nat} {s : State} (h₀ : Rg msk b₀ s) (hm₀ : 0 ||| msk = msk) :
    RgO msk b₀ (execPageDrained p s) := by
  refine RgO.step h₀ ?_ hm₀
  clear h₀ hm₀
  unfold execPageDrained
  try dsimp only
  repeat' (first
    | with_reducible exact Rg.refl _ _
    | with_reducible assumption
    | exact (rfl : (_ : Nat) = _)
    | dsimp only
    | with_reducible refine Rg.ite ?_ ?_
    | with_reducible refine Rg.ite₁ ?_ ?_
    | with_reducible refine RgO.ite ?_ ?_
    | with_reducible refine RgS.ite ?_ ?_
    | with_reducible refine RgP.ite ?_ ?_
    | with_reducible refine RgO.next ?_
    | with_reducible exact RgS.none
    | with_reducible refine RgS.some ?_
    | with_reducible refine RgS.map ?_
    | with_reducible exact RgP.none
    | with_reducible refine RgP.some ?_
    | with_reducible refine Rg.elim ?_ ?_
    | with_reducible refine Rg.foldl ?_ _ _ ?_
    | with_reducible refine Rg.foldl₂ ?_ _ _ ?_
    | intro _ _ _ _ _ _
    | intro _ _ _ _ _
    | intro _ _ _ _
    | intro _ _ _
    | intro _ _
    | intro _
    | with_reducible refine Rg.pair (h := ?_) (e := by assumption)
    | with_reducible refine RgO.got (h := ?_) (e := by assumption)
    | with_reducible refine RgS.get (h := ?_) (e := by assumption)
    | with_reducible refine RgP.get (h := ?_) (e := by assumption)
    | split
    | refine Rg.mk' ?_)

theorem execInitTimeout_rg {msk : Nat} {b₀ : State} {p : Nat} {s : State} (h₀ : Rg msk b₀ s) (hm₀ : 96107167241834975113312584178489302142293605564759693426004588894417285174339314651986626222954283729664672024879809959352794238588654061432213649874520966944 ||| msk = msk) :
    RgO msk b₀ (execInitTimeout p s) := by
  refine RgO.step h₀ ?_ hm₀
  clear h₀ hm₀
  unfold execInitTimeout
  try dsimp only
  repeat' (first
    | with_reducible exact Rg.refl _ _
    | exact (rfl : (_ : Nat) = _)
    | with_reducible refine State.raise_rg ?_ ?_
    | with_reducible refine State.useFree_rg ?_ ?_
    | with_reducible refine Rg.ite ?_ ?_
    | with_reducible refine RgO.next ?_
    | refine Rg.mk' ?_)

theorem execPgFreeze_rg {msk : Nat} {b₀ : State} {p : Nat} {s : State} (h₀ : Rg msk b₀ s) (hm₀ : 96107167241834975113312584178489302142293605564759693426004588894417285174339314651986626222954283729664672024879809959352794238588654061432213649874520966952 ||| msk = msk) :
    RgO msk b₀ (execPgFreeze p s) := by
  refine RgO.step h₀ ?_ hm₀
  clear h₀ hm₀
  unfold execPgFreeze
  try dsimp only
  repeat' (first
    | with_reducible exact Rg.refl _ _
    | with_reducible assumption
    | exact (rfl : (_ : Nat) = _)
    | with_reducible refine State.pageWrite_rg ?_ ?_ ?_
    | with_reducible refine State.putBit_rg ?_ ?_
    | with_reducible refine in_PG_CTRL ?_
    | exact (rfl : (_ : Bool) = _)
    | with_reducible refine RgO.next ?_
    | intro _ _)

theorem execPgEnable_rg {msk : Nat} {b₀ : State} {p : Nat} {s : State} (h₀ : Rg msk b₀ s) (hm₀ : 96107167241834975113312584178489302142293605564759693426004588894417285174339314651986626222954283729664672024879809959352794238588654061432213649874520966952 ||| msk = msk) :
    RgO msk b₀ (execPgEnable p s) := by
  refine RgO.step h₀ ?_ hm₀
  clear h₀ hm₀
  unfold execPgEnable
  try dsimp only
  repeat' (first
    | with_reducible exact Rg.refl _ _
    | with_reducible assumption
    | exact (rfl : (_ : Nat) = _)
    | with_reducible refine State.pageWrite_rg ?_ ?_ ?_
    | with_reducible refine State.putBit_rg ?_ ?_
    | with_reducible refine in_PG_CTRL ?_
    | exact (rfl : (_ : Bool) = _)
    | with_reducible refine RgO.next ?_
    | intro _ _)

theorem execInitComplete_rg {msk : Nat} {b₀ : State} {p : Nat} {s : State} (h₀ : Rg msk b₀ s) (hm₀ : 0 ||| msk = msk) :
    RgO msk b₀ (execInitComplete p s) := by
  refine RgO.step h₀ ?_ hm₀
  clear h₀ hm₀
  unfold execInitComplete
  try dsimp only
  repeat' (first
    | with_reducible exact Rg.refl _ _
    | with_reducible assumption
    | exact (rfl : (_ : Nat) = _)
    | dsimp only
    | with_reducible refine Rg.ite ?_ ?_
    | with_reducible refine Rg.ite₁ ?_ ?_
    | with_reducible refine RgO.ite ?_ ?_
    | with_reducible refine RgS.ite ?_ ?_
    | with_reducible refine RgP.ite ?_ ?_
    | with_reducible refine RgO.next ?_
    | with_reducible exact RgS.none
    | with_reducible refine RgS.some ?_
    | with_reducible refine RgS.map ?_
    | with_reducible exact RgP.none
    | with_reducible refine RgP.some ?_
    | with_reducible refine Rg.elim ?_ ?_
    | with_reducible refine Rg.foldl ?_ _ _ ?_
    | with_reducible refine Rg.foldl₂ ?_ _ _ ?_
    | intro _ _ _ _ _ _
    | intro _ _ _ _ _
    | intro _ _ _ _
    | intro _ _ _
    | intro _ _
    | intro _
    | with_reducible refine Rg.pair (h := ?_) (e := by assumption)
    | with_reducible refine RgO.got (h := ?_) (e := by assumption)
    | with_reducible refine RgS.get (h := ?_) (e := by assumption)
    | with_reducible refine RgP.get (h := ?_) (e := by assumption)
    | split
    | refine Rg.mk' ?_)

theorem execInjectDisarm_rg {msk : Nat} {b₀ : State} {p : Nat} {s : State} (h₀ : Rg msk b₀ s) (hm₀ : 96107167241834975113312584178489302142293605564759693426004588894417285174339314651986626222954283729664672024879809959352794238588654061432213649874520968992 ||| msk = msk) :
    RgO msk b₀ (execInjectDisarm p s) := by
  refine RgO.step h₀ ?_ hm₀
  clear h₀ hm₀
  unfold execInjectDisarm
  try dsimp only
  repeat' (first
    | with_reducible exact Rg.refl _ _
    | with_reducible assumption
    | exact (rfl : (_ : Nat) = _)
    | with_reducible refine State.pageWrite_rg ?_ ?_ ?_
    | with_reducible refine State.injectWrite_rg ?_ ?_
    | dsimp only
    | with_reducible refine Rg.ite ?_ ?_
    | with_reducible refine Rg.ite₁ ?_ ?_
    | with_reducible refine RgO.ite ?_ ?_
    | with_reducible refine RgS.ite ?_ ?_
    | with_reducible refine RgP.ite ?_ ?_
    | with_reducible refine RgO.next ?_
    | with_reducible exact RgS.none
    | with_reducible refine RgS.some ?_
    | with_reducible refine RgS.map ?_
    | with_reducible exact RgP.none
    | with_reducible refine RgP.some ?_
    | with_reducible refine Rg.elim ?_ ?_
    | with_reducible refine Rg.foldl ?_ _ _ ?_
    | with_reducible refine Rg.foldl₂ ?_ _ _ ?_
    | intro _ _ _ _ _ _
    | intro _ _ _ _ _
    | intro _ _ _ _
    | intro _ _ _
    | intro _ _
    | intro _
    | with_reducible refine Rg.pair (h := ?_) (e := by assumption)
    | with_reducible refine RgO.got (h := ?_) (e := by assumption)
    | with_reducible refine RgS.get (h := ?_) (e := by assumption)
    | with_reducible refine RgP.get (h := ?_) (e := by assumption)
    | split)

theorem execInjectArm_rg {msk : Nat} {b₀ : State} {p : Nat} {w : Word} {s : State} (h₀ : Rg msk b₀ s) (hm₀ : 96107167241834975113312584178489302142293605564759693426004588894417285174339314651986626222954283729664672024879809959352794238588654061432213649874520968992 ||| msk = msk) :
    RgO msk b₀ (execInjectArm p w s) := by
  refine RgO.step h₀ ?_ hm₀
  clear h₀ hm₀
  unfold execInjectArm
  try dsimp only
  repeat' (first
    | with_reducible exact Rg.refl _ _
    | with_reducible assumption
    | exact (rfl : (_ : Nat) = _)
    | with_reducible refine State.pageWrite_rg ?_ ?_ ?_
    | with_reducible refine State.injectWrite_rg ?_ ?_
    | dsimp only
    | with_reducible refine Rg.ite ?_ ?_
    | with_reducible refine Rg.ite₁ ?_ ?_
    | with_reducible refine RgO.ite ?_ ?_
    | with_reducible refine RgS.ite ?_ ?_
    | with_reducible refine RgP.ite ?_ ?_
    | with_reducible refine RgO.next ?_
    | with_reducible exact RgS.none
    | with_reducible refine RgS.some ?_
    | with_reducible refine RgS.map ?_
    | with_reducible exact RgP.none
    | with_reducible refine RgP.some ?_
    | with_reducible refine Rg.elim ?_ ?_
    | with_reducible refine Rg.foldl ?_ _ _ ?_
    | with_reducible refine Rg.foldl₂ ?_ _ _ ?_
    | intro _ _ _ _ _ _
    | intro _ _ _ _ _
    | intro _ _ _ _
    | intro _ _ _
    | intro _ _
    | intro _
    | with_reducible refine Rg.pair (h := ?_) (e := by assumption)
    | with_reducible refine RgO.got (h := ?_) (e := by assumption)
    | with_reducible refine RgS.get (h := ?_) (e := by assumption)
    | with_reducible refine RgP.get (h := ?_) (e := by assumption)
    | split)

end Sys2Proof.Machine
end

