-- ==== Sys2Proof/Laws/RgCam.lean ====
section
/-! SUPPORT. Register frames of the operations of Machine.Cam: the registers that each may write. -/

set_option maxRecDepth 20000
set_option Elab.async false
set_option linter.unusedTactic false
set_option linter.unreachableTactic false
set_option linter.unusedVariables false

namespace Sys2Proof.Machine

theorem State.camParity_rg {msk : Nat} {b₀ : State} {s : State} {k : Nat} {injected : Bool} (h₀ : Rg msk b₀ s) (hm₀ : 96107167241834975113312584178489302142293605564759693426004588894417285174339314651986626222954283729664767805851114077406441635277850955756189821069657442080 ||| msk = msk) :
    Rg msk b₀ (State.camParity s k injected) := by
  refine Rg.step h₀ ?_ hm₀
  clear h₀ hm₀
  unfold State.camParity
  try dsimp only
  repeat' (first
    | with_reducible exact Rg.refl _ _
    | exact (rfl : (_ : Nat) = _)
    | with_reducible refine State.event_rg ?_ ?_
    | with_reducible refine State.count_rg ?_ ?_
    | with_reducible refine State.setCam_rg ?_ ?_
    | with_reducible refine State.raise_rg ?_ ?_
    | with_reducible refine in_CAM_PARITY_ERR ?_
    | exact (rfl : (_ : Bool) = _))

theorem State.camFound_rg {msk : Nat} {b₀ : State} {s : State} {g : Nat} {mask : Nat} {key : Nat} {incl : Bool} {bad : List Nat} (h₀ : Rg msk b₀ s) (hm₀ : 96107167241834975113312584178489302142293605564759693426004588894417285174339314651986626222954283729664767805851114077406441635277850955756189821069657444128 ||| msk = msk) :
    Rg msk b₀ (State.camFound s g mask key incl bad).1 := by
  refine Rg.step h₀ ?_ hm₀
  clear h₀ hm₀
  unfold State.camFound
  try dsimp only
  repeat' (first
    | with_reducible exact Rg.refl _ _
    | with_reducible assumption
    | exact (rfl : (_ : Nat) = _)
    | with_reducible refine State.camParity_rg ?_ ?_
    | with_reducible refine State.fired_rg ?_ ?_
    | dsimp only
    | with_reducible refine Rg.ite ?_ ?_
    | with_reducible refine Rg.ite₁ ?_ ?_
    | with_reducible refine RgS.ite ?_ ?_
    | with_reducible refine RgP.ite ?_ ?_
    | with_reducible exact RgS.none
    | with_reducible refine RgS.some ?_
    | with_reducible refine RgS.map ?_
    | with_reducible exact RgP.none
    | with_reducible refine RgP.some ?_
    | with_reducible refine Rg.elim ?_ ?_
    | with_reducible refine Rg.foldl ?_ _ _ ?_
    | with_reducible refine Rg.foldl₂ ?_ _ _ ?_
    | intro _ _ _ _ _ _
    | intro _ _ _ _ _
    | intro _ _ _ _
    | intro _ _ _
    | intro _ _
    | intro _
    | with_reducible refine Rg.pair (h := ?_) (e := by assumption)
    | with_reducible refine RgO.got (h := ?_) (e := by assumption)
    | with_reducible refine RgS.get (h := ?_) (e := by assumption)
    | with_reducible refine RgP.get (h := ?_) (e := by assumption)
    | split)

theorem State.countSearch_rg {msk : Nat} {b₀ : State} {s : State} {g : Nat} {n : Nat} {hits : Nat} (h₀ : Rg msk b₀ s) (hm₀ : 71835728478088540235547516897670742982128396352356352 ||| msk = msk) :
    Rg msk b₀ (State.countSearch s g n hits) := by
  refine Rg.step h₀ ?_ hm₀
  clear h₀ hm₀
  unfold State.countSearch
  try dsimp only
  repeat' (first
    | with_reducible exact Rg.refl _ _
    | with_reducible assumption
    | exact (rfl : (_ : Nat) = _)
    | with_reducible refine State.countBy_rg ?_ ?_
    | with_reducible refine in_CAM_MULTI ?_
    | with_reducible refine in_CAM_SEARCHES ?_
    | with_reducible refine InSet.ite ?_ ?_
    | exact (rfl : (_ : Bool) = _)
    | dsimp only
    | with_reducible refine Rg.ite ?_ ?_
    | with_reducible refine Rg.ite₁ ?_ ?_
    | with_reducible refine RgS.ite ?_ ?_
    | with_reducible refine RgP.ite ?_ ?_
    | with_reducible exact RgS.none
    | with_reducible refine RgS.some ?_
    | with_reducible refine RgS.map ?_
    | with_reducible exact RgP.none
    | with_reducible refine RgP.some ?_
    | with_reducible refine Rg.elim ?_ ?_
    | with_reducible refine Rg.foldl ?_ _ _ ?_
    | with_reducible refine Rg.foldl₂ ?_ _ _ ?_
    | intro _ _ _ _ _ _
    | intro _ _ _ _ _
    | intro _ _ _ _
    | intro _ _ _
    | intro _ _
    | intro _
    | with_reducible refine Rg.pair (h := ?_) (e := by assumption)
    | with_reducible refine RgO.got (h := ?_) (e := by assumption)
    | with_reducible refine RgS.get (h := ?_) (e := by assumption)
    | with_reducible refine RgP.get (h := ?_) (e := by assumption)
    | split)

theorem State.camFires_rg {msk : Nat} {b₀ : State} {s : State} {k : Nat} (h₀ : Rg msk b₀ s) (hm₀ : 2048 ||| msk = msk) :
    Rg msk b₀ (State.camFires s k).1 := by
  refine Rg.step h₀ ?_ hm₀
  clear h₀ hm₀
  unfold State.camFires
  try dsimp only
  repeat' (first
    | with_reducible exact Rg.refl _ _
    | with_reducible assumption
    | exact (rfl : (_ : Nat) = _)
    | with_reducible refine State.fired_rg ?_ ?_
    | dsimp only
    | with_reducible refine Rg.ite ?_ ?_
    | with_reducible refine Rg.ite₁ ?_ ?_
    | with_reducible refine RgS.ite ?_ ?_
    | with_reducible refine RgP.ite ?_ ?_
    | with_reducible exact RgS.none
    | with_reducible refine RgS.some ?_
    | with_reducible refine RgS.map ?_
    | with_reducible exact RgP.none
    | with_reducible refine RgP.some ?_
    | with_reducible refine Rg.elim ?_ ?_
    | with_reducible refine Rg.foldl ?_ _ _ ?_
    | with_reducible refine Rg.foldl₂ ?_ _ _ ?_
    | intro _ _ _ _ _ _
    | intro _ _ _ _ _
    | intro _ _ _ _
    | intro _ _ _
    | intro _ _
    | intro _
    | with_reducible refine Rg.pair (h := ?_) (e := by assumption)
    | with_reducible refine RgO.got (h := ?_) (e := by assumption)
    | with_reducible refine RgS.get (h := ?_) (e := by assumption)
    | with_reducible refine RgP.get (h := ?_) (e := by assumption)
    | split)

theorem execCamScrub_rg {msk : Nat} {b₀ : State} {bank : Nat} {u : Nat} {s : State} (h₀ : Rg msk b₀ s) (hm₀ : 96107167241834975113312584178489302142293605564759693426004588894417285174339314651986626222954283729664767805851114077406441635277850955756189821069657444128 ||| msk = msk) :
    RgO msk b₀ (execCamScrub bank u s) := by
  refine RgO.step h₀ ?_ hm₀
  clear h₀ hm₀
  unfold execCamScrub
  try dsimp only
  repeat' (first
    | with_reducible exact Rg.refl _ _
    | with_reducible assumption
    | exact (rfl : (_ : Nat) = _)
    | with_reducible refine State.camFires_rg ?_ ?_
    | with_reducible refine State.camParity_rg ?_ ?_
    | dsimp only
    | with_reducible refine Rg.ite ?_ ?_
    | with_reducible refine Rg.ite₁ ?_ ?_
    | with_reducible refine RgO.ite ?_ ?_
    | with_reducible refine RgS.ite ?_ ?_
    | with_reducible refine RgP.ite ?_ ?_
    | with_reducible refine RgO.next ?_
    | with_reducible exact RgS.none
    | with_reducible refine RgS.some ?_
    | with_reducible refine RgS.map ?_
    | with_reducible exact RgP.none
    | with_reducible refine RgP.some ?_
    | with_reducible refine Rg.elim ?_ ?_
    | with_reducible refine Rg.foldl ?_ _ _ ?_
    | with_reducible refine Rg.foldl₂ ?_ _ _ ?_
    | intro _ _ _ _ _ _
    | intro _ _ _ _ _
    | intro _ _ _ _
    | intro _ _ _
    | intro _ _
    | intro _
    | with_reducible refine Rg.pair (h := ?_) (e := by assumption)
    | with_reducible refine RgO.got (h := ?_) (e := by assumption)
    | with_reducible refine RgS.get (h := ?_) (e := by assumption)
    | with_reducible refine RgP.get (h := ?_) (e := by assumption)
    | split)

theorem State.camStatus_rg {msk : Nat} {b₀ : State} {s : State} {n : Nat} {code : Nat} {hit : Bool} {multi : Bool} (h₀ : Rg msk b₀ s) (hm₀ : 23384026197294446691258957323460528314494920687648 ||| msk = msk) :
    Rg msk b₀ (State.camStatus s n code hit multi) := by
  refine Rg.step h₀ ?_ hm₀
  clear h₀ hm₀
  unfold State.camStatus
  try dsimp only
  repeat' (first
    | with_reducible exact Rg.refl _ _
    | exact (rfl : (_ : Nat) = _)
    | with_reducible refine State.event_rg ?_ ?_
    | with_reducible refine State.wrN_rg ?_ ?_
    | with_reducible refine in_CAM_OP_STATUS ?_
    | exact (rfl : (_ : Bool) = _))

theorem State.falseMiss_rg {msk : Nat} {b₀ : State} {s : State} {cseq : Nat} {injected : Bool} (h₀ : Rg msk b₀ s) (hm₀ : 96107167241834975113312584178489302142293605564759693426004588894417285174339314651986626222954283729664672024879809959352794238588654061432213649874520966944 ||| msk = msk) :
    Rg msk b₀ (State.falseMiss s cseq injected) := by
  refine Rg.step h₀ ?_ hm₀
  clear h₀ hm₀
  unfold State.falseMiss
  try dsimp only
  repeat' (first
    | with_reducible exact Rg.refl _ _
    | exact (rfl : (_ : Nat) = _)
    | with_reducible refine State.raise_rg ?_ ?_
    | with_reducible refine State.event_rg ?_ ?_
    | with_reducible refine State.setCam_rg ?_ ?_
    | split)

theorem State.inflight_rg {msk : Nat} {b₀ : State} {s : State} {vol : Nat} {block : Nat} {incl : Bool} {miss : List Nat} {bad : List Nat} (h₀ : Rg msk b₀ s) (hm₀ : 96107167241834975113312584178489302142293605564759693426004588894417285174339314651986626222954283729664839641579592165946677182794748626499171949466009800480 ||| msk = msk) :
    Rg msk b₀ (State.inflight s vol block incl miss bad).1 := by
  refine Rg.step h₀ ?_ hm₀
  clear h₀ hm₀
  unfold State.inflight
  try dsimp only
  repeat' (first
    | with_reducible exact Rg.refl _ _
    | with_reducible assumption
    | exact (rfl : (_ : Nat) = _)
    | with_reducible refine State.camFound_rg ?_ ?_
    | with_reducible refine State.fired_rg ?_ ?_
    | with_reducible refine State.countSearch_rg ?_ ?_
    | with_reducible refine State.falseMiss_rg ?_ ?_
    | dsimp only
    | with_reducible refine Rg.ite ?_ ?_
    | with_reducible refine Rg.ite₁ ?_ ?_
    | with_reducible refine RgS.ite ?_ ?_
    | with_reducible refine RgP.ite ?_ ?_
    | with_reducible exact RgS.none
    | with_reducible refine RgS.some ?_
    | with_reducible refine RgS.map ?_
    | with_reducible exact RgP.none
    | with_reducible refine RgP.some ?_
    | with_reducible refine Rg.elim ?_ ?_
    | with_reducible refine Rg.foldl ?_ _ _ ?_
    | with_reducible refine Rg.foldl₂ ?_ _ _ ?_
    | intro _ _ _ _ _ _
    | intro _ _ _ _ _
    | intro _ _ _ _
    | intro _ _ _
    | intro _ _
    | intro _
    | with_reducible refine Rg.pair (h := ?_) (e := by assumption)
    | with_reducible refine RgO.got (h := ?_) (e := by assumption)
    | with_reducible refine RgS.get (h := ?_) (e := by assumption)
    | with_reducible refine RgP.get (h := ?_) (e := by assumption)
    | split)

theorem State.camTaken_rg {msk : Nat} {b₀ : State} {s : State} {n : Nat} (h₀ : Rg msk b₀ s) (hm₀ : 0 ||| msk = msk) :
    Rg msk b₀ (State.camTaken s n) := by
  refine Rg.step h₀ ?_ hm₀
  clear h₀ hm₀
  unfold State.camTaken
  try dsimp only
  repeat' (first
    | with_reducible exact Rg.refl _ _
    | with_reducible assumption
    | exact (rfl : (_ : Nat) = _)
    | dsimp only
    | with_reducible refine Rg.ite ?_ ?_
    | with_reducible refine Rg.ite₁ ?_ ?_
    | with_reducible refine RgS.ite ?_ ?_
    | with_reducible refine RgP.ite ?_ ?_
    | with_reducible exact RgS.none
    | with_reducible refine RgS.some ?_
    | with_reducible refine RgS.map ?_
    | with_reducible exact RgP.none
    | with_reducible refine RgP.some ?_
    | with_reducible refine Rg.elim ?_ ?_
    | with_reducible refine Rg.foldl ?_ _ _ ?_
    | with_reducible refine Rg.foldl₂ ?_ _ _ ?_
    | intro _ _ _ _ _ _
    | intro _ _ _ _ _
    | intro _ _ _ _
    | intro _ _ _
    | intro _ _
    | intro _
    | with_reducible refine Rg.pair (h := ?_) (e := by assumption)
    | with_reducible refine RgO.got (h := ?_) (e := by assumption)
    | with_reducible refine RgS.get (h := ?_) (e := by assumption)
    | with_reducible refine RgP.get (h := ?_) (e := by assumption)
    | split
    | refine Rg.mk' ?_)

theorem State.camOp_rg {msk : Nat} {b₀ : State} {s : State} {n : Nat} {f : State → State} (hf : ∀ t0, Rg msk b₀ t0 → Rg msk b₀ (f t0)) (h₀ : Rg msk b₀ s) (hm₀ : 96107167241834975113312584178489302142293605564759693426004588894417285174339314651986626222954283729664672024879809959352794238588654061432213649874520966944 ||| msk = msk) :
    Rg msk b₀ (State.camOp s n f) := by
  unfold State.camOp
  try dsimp only
  repeat' (first
    | with_reducible exact Rg.refl _ _
    | with_reducible assumption
    | exact Rg.sub rfl hm₀
    | with_reducible refine State.pageWrite_rg ?_ ?_ ?_
    | with_reducible refine State.writeDiscarded_rg ?_ ?_
    | with_reducible refine State.useFree_rg ?_ ?_
    | with_reducible refine State.camTaken_rg ?_ ?_
    | with_reducible refine hf _ ?_
    | dsimp only
    | with_reducible refine Rg.ite ?_ ?_
    | with_reducible refine Rg.ite₁ ?_ ?_
    | with_reducible refine RgS.ite ?_ ?_
    | with_reducible refine RgP.ite ?_ ?_
    | with_reducible exact RgS.none
    | with_reducible refine RgS.some ?_
    | with_reducible refine RgS.map ?_
    | with_reducible exact RgP.none
    | with_reducible refine RgP.some ?_
    | with_reducible refine Rg.elim ?_ ?_
    | with_reducible refine Rg.foldl ?_ _ _ ?_
    | with_reducible refine Rg.foldl₂ ?_ _ _ ?_
    | intro _ _ _ _ _ _
    | intro _ _ _ _ _
    | intro _ _ _ _
    | intro _ _ _
    | intro _ _
    | intro _
    | with_reducible refine Rg.pair (h := ?_) (e := by assumption)
    | with_reducible refine RgO.got (h := ?_) (e := by assumption)
    | with_reducible refine RgS.get (h := ?_) (e := by assumption)
    | with_reducible refine RgP.get (h := ?_) (e := by assumption)
    | split)

theorem State.camRefuse_rg {msk : Nat} {b₀ : State} {s : State} {n : Nat} {code : Nat} (h₀ : Rg msk b₀ s) (hm₀ : 96107167241834975113312584178489302142293605564759693426004588894417285174339314651986626222954283729664672048263836156647240929847611384892741964369441654560 ||| msk = msk) :
    Rg msk b₀ (State.camRefuse s n code) := by
  refine Rg.step h₀ ?_ hm₀
  clear h₀ hm₀
  unfold State.camRefuse
  try dsimp only
  repeat' (first
    | with_reducible exact Rg.refl _ _
    | exact (rfl : (_ : Nat) = _)
    | with_reducible refine State.raise_rg ?_ ?_
    | with_reducible refine State.camStatus_rg ?_ ?_)

theorem State.camUpdate_rg {msk : Nat} {b₀ : State} {s : State} {n : Nat} {f : Nat → State → State} (hf : ∀ t0 t1, Rg msk b₀ t1 → Rg msk b₀ (f t0 t1)) (h₀ : Rg msk b₀ s) (hm₀ : 96107167241834975113312584178489302142293605564759693426004588894417285174339314651986626222954283729664672048263836156647240929847611384892741964369441654560 ||| msk = msk) :
    Rg msk b₀ (State.camUpdate s n f) := by
  unfold State.camUpdate
  try dsimp only
  repeat' (first
    | with_reducible assumption
    | exact Rg.sub rfl hm₀
    | with_reducible refine State.camOp_rg ?_ ?_ ?_
    | with_reducible refine State.camRefuse_rg ?_ ?_
    | with_reducible refine hf _ _ ?_
    | with_reducible refine Rg.ite ?_ ?_
    | intro _ _)

theorem State.camShadow_rg {msk : Nat} {b₀ : State} {s : State} {k : Nat} (h₀ : Rg msk b₀ s) (hm₀ : 0 ||| msk = msk) :
    Rg msk b₀ (State.camShadow s k) := by
  refine Rg.step h₀ ?_ hm₀
  clear h₀ hm₀
  unfold State.camShadow
  try dsimp only
  repeat' (first
    | with_reducible exact Rg.refl _ _
    | with_reducible refine Rg.ite ?_ ?_
    | refine Rg.mk' ?_)

theorem execCamInvalidate_rg {msk : Nat} {b₀ : State} {n : Nat} {s : State} (h₀ : Rg msk b₀ s) (hm₀ : 96107167241834975113312584178489302142293605564759693426004588894417285174339314651986626222954283729664672048263836156647240929847611384892741964369441654560 ||| msk = msk) :
    RgO msk b₀ (execCamInvalidate n s) := by
  refine RgO.step h₀ ?_ hm₀
  clear h₀ hm₀
  unfold execCamInvalidate
  try dsimp only
  repeat' (first
    | with_reducible exact Rg.refl _ _
    | with_reducible assumption
    | exact (rfl : (_ : Nat) = _)
    | with_reducible refine State.camUpdate_rg ?_ ?_ ?_
    | with_reducible refine State.camStatus_rg ?_ ?_
    | with_reducible refine State.camShadow_rg ?_ ?_
    | with_reducible refine State.setCam_rg ?_ ?_
    | with_reducible refine RgO.next ?_
    | intro _ _ _)

theorem State.camPendingValid_rg {msk : Nat} {b₀ : State} {s : State} (h₀ : Rg msk b₀ s) (hm₀ : 0 ||| msk = msk) :
    Rg msk b₀ (State.camPendingValid s) := by
  refine Rg.step h₀ ?_ hm₀
  clear h₀ hm₀
  unfold State.camPendingValid
  try dsimp only
  repeat' (first
    | with_reducible exact Rg.refl _ _
    | refine Rg.mk' ?_)

theorem execCamUpdateResult_rg {msk : Nat} {b₀ : State} {n : Nat} {s : State} (h₀ : Rg msk b₀ s) (hm₀ : 96107167241834975113312584178489302142293605564759693426004588894417285174339314651986626222954283729664672048263836156647240929847611384892741964369441654560 ||| msk = msk) :
    RgO msk b₀ (execCamUpdateResult n s) := by
  refine RgO.step h₀ ?_ hm₀
  clear h₀ hm₀
  unfold execCamUpdateResult
  try dsimp only
  repeat' (first
    | with_reducible exact Rg.refl _ _
    | with_reducible assumption
    | exact (rfl : (_ : Nat) = _)
    | with_reducible refine State.camUpdate_rg ?_ ?_ ?_
    | with_reducible refine State.camStatus_rg ?_ ?_
    | with_reducible refine State.camShadow_rg ?_ ?_
    | with_reducible refine State.setCam_rg ?_ ?_
    | with_reducible refine RgO.next ?_
    | intro _ _ _)

theorem State.camAnswer_rg {msk : Nat} {b₀ : State} {s : State} {n : Nat} {all : List (Nat × CamEntry)} {win : Option (Nat × CamEntry)} (h₀ : Rg msk b₀ s) (hm₀ : 1332889493245783461401760567437250113926210479194144 ||| msk = msk) :
    Rg msk b₀ (State.camAnswer s n all win) := by
  refine Rg.step h₀ ?_ hm₀
  clear h₀ hm₀
  unfold State.camAnswer
  try dsimp only
  repeat' (first
    | with_reducible exact Rg.refl _ _
    | exact (rfl : (_ : Nat) = _)
    | with_reducible refine State.wrN_rg ?_ ?_
    | with_reducible refine State.wr64_rg ?_ ?_ ?_
    | with_reducible refine State.camStatus_rg ?_ ?_
    | with_reducible refine State.event_rg ?_ ?_
    | with_reducible refine in_CAM_HIT_LOC ?_
    | with_reducible refine in_CAM_MATCH_COUNT ?_
    | with_reducible refine in_CAM_RESULT ?_
    | with_reducible refine in_CAM_RESULT4 ?_
    | exact (rfl : (_ : Bool) = _)
    | with_reducible refine Rg.ite ?_ ?_
    | split
    | refine Rg.mk' ?_)

theorem execCamSearch_rg {msk : Nat} {b₀ : State} {n : Nat} {incl : Bool} {maskSet : Nat} {bad : List Nat} {s : State} (h₀ : Rg msk b₀ s) (hm₀ : 96107167241834975113312584178489302142293605564759693426004588894417285174339314651986626222954283729664769138740607323189903037038418393006303747280136638240 ||| msk = msk) :
    RgO msk b₀ (execCamSearch n incl maskSet bad s) := by
  refine RgO.step h₀ ?_ hm₀
  clear h₀ hm₀
  unfold execCamSearch
  try dsimp only
  repeat' (first
    | with_reducible exact Rg.refl _ _
    | with_reducible assumption
    | exact (rfl : (_ : Nat) = _)
    | with_reducible refine State.camOp_rg ?_ ?_ ?_
    | with_reducible refine State.camFound_rg ?_ ?_
    | with_reducible refine State.camAnswer_rg ?_ ?_
    | dsimp only
    | with_reducible refine Rg.ite ?_ ?_
    | with_reducible refine Rg.ite₁ ?_ ?_
    | with_reducible refine RgO.ite ?_ ?_
    | with_reducible refine RgS.ite ?_ ?_
    | with_reducible refine RgP.ite ?_ ?_
    | with_reducible refine RgO.next ?_
    | with_reducible exact RgS.none
    | with_reducible refine RgS.some ?_
    | with_reducible refine RgS.map ?_
    | with_reducible exact RgP.none
    | with_reducible refine RgP.some ?_
    | with_reducible refine Rg.elim ?_ ?_
    | with_reducible refine Rg.foldl ?_ _ _ ?_
    | with_reducible refine Rg.foldl₂ ?_ _ _ ?_
    | intro _ _ _ _ _ _
    | intro _ _ _ _ _
    | intro _ _ _ _
    | intro _ _ _
    | intro _ _
    | intro _
    | with_reducible refine Rg.pair (h := ?_) (e := by assumption)
    | with_reducible refine RgO.got (h := ?_) (e := by assumption)
    | with_reducible refine RgS.get (h := ?_) (e := by assumption)
    | with_reducible refine RgP.get (h := ?_) (e := by assumption)
    | split)

theorem State.camLoad_rg {msk : Nat} {b₀ : State} {s : State} {n : Nat} {e : CamEntry} (h₀ : Rg msk b₀ s) (hm₀ : 327376366762122253677625402528447396402928889626624 ||| msk = msk) :
    Rg msk b₀ (State.camLoad s n e) := by
  refine Rg.step h₀ ?_ hm₀
  clear h₀ hm₀
  unfold State.camLoad
  try dsimp only
  repeat' (first
    | with_reducible exact Rg.refl _ _
    | with_reducible assumption
    | with_reducible refine State.wrN_rg ?_ ?_
    | with_reducible refine State.wr64_rg ?_ ?_ ?_
    | with_reducible refine in_CAM_ENTRY ?_
    | with_reducible refine in_CAM_KEY ?_
    | with_reducible refine in_CAM_RESULT ?_
    | with_reducible refine in_CAM_RESULT4 ?_
    | exact (rfl : (_ : Bool) = _)
    | with_reducible refine Rg.foldl ?_ _ _ ?_
    | intro _ _ _)

theorem execCamRead_rg {msk : Nat} {b₀ : State} {n : Nat} {bad : Bool} {s : State} (h₀ : Rg msk b₀ s) (hm₀ : 96107167241834975113312584178489302142293605564759693426004588894417285174339314651986626222954283729664768156611507036823142004162210807664114538493467758368 ||| msk = msk) :
    RgO msk b₀ (execCamRead n bad s) := by
  refine RgO.step h₀ ?_ hm₀
  clear h₀ hm₀
  unfold execCamRead
  try dsimp only
  repeat' (first
    | with_reducible exact Rg.refl _ _
    | with_reducible assumption
    | exact (rfl : (_ : Nat) = _)
    | with_reducible refine State.camOp_rg ?_ ?_ ?_
    | with_reducible refine State.camRefuse_rg ?_ ?_
    | with_reducible refine State.camFires_rg ?_ ?_
    | with_reducible refine State.camStatus_rg ?_ ?_
    | with_reducible refine State.camLoad_rg ?_ ?_
    | with_reducible refine State.camParity_rg ?_ ?_
    | dsimp only
    | with_reducible refine Rg.ite ?_ ?_
    | with_reducible refine Rg.ite₁ ?_ ?_
    | with_reducible refine RgO.ite ?_ ?_
    | with_reducible refine RgS.ite ?_ ?_
    | with_reducible refine RgP.ite ?_ ?_
    | with_reducible refine RgO.next ?_
    | with_reducible exact RgS.none
    | with_reducible refine RgS.some ?_
    | with_reducible refine RgS.map ?_
    | with_reducible exact RgP.none
    | with_reducible refine RgP.some ?_
    | with_reducible refine Rg.elim ?_ ?_
    | with_reducible refine Rg.foldl ?_ _ _ ?_
    | with_reducible refine Rg.foldl₂ ?_ _ _ ?_
    | intro _ _ _ _ _ _
    | intro _ _ _ _ _
    | intro _ _ _ _
    | intro _ _ _
    | intro _ _
    | intro _
    | with_reducible refine Rg.pair (h := ?_) (e := by assumption)
    | with_reducible refine RgO.got (h := ?_) (e := by assumption)
    | with_reducible refine RgS.get (h := ?_) (e := by assumption)
    | with_reducible refine RgP.get (h := ?_) (e := by assumption)
    | split)

theorem execCamWrite_rg {msk : Nat} {b₀ : State} {n : Nat} {s : State} (h₀ : Rg msk b₀ s) (hm₀ : 96107167241834975113312584178489302142293605564759693426004588894417285174339314651986626222954283729664672048263836156647240929847611384892741964369441654560 ||| msk = msk) :
    RgO msk b₀ (execCamWrite n s) := by
  refine RgO.step h₀ ?_ hm₀
  clear h₀ hm₀
  unfold execCamWrite
  try dsimp only
  repeat' (first
    | with_reducible exact Rg.refl _ _
    | with_reducible assumption
    | exact (rfl : (_ : Nat) = _)
    | with_reducible refine State.camUpdate_rg ?_ ?_ ?_
    | with_reducible refine State.camRefuse_rg ?_ ?_
    | with_reducible refine State.camStatus_rg ?_ ?_
    | with_reducible refine State.camShadow_rg ?_ ?_
    | with_reducible refine State.setCam_rg ?_ ?_
    | with_reducible refine Rg.ite ?_ ?_
    | with_reducible refine RgO.next ?_
    | intro _ _ _)

theorem execCamValidate_rg {msk : Nat} {b₀ : State} {n : Nat} {s : State} (h₀ : Rg msk b₀ s) (hm₀ : 96107167241834975113312584178489302142293605564759693426004588894417285174339314651986626222954283729664672048263836156647240929847611384892741964369441654560 ||| msk = msk) :
    RgO msk b₀ (execCamValidate n s) := by
  refine RgO.step h₀ ?_ hm₀
  clear h₀ hm₀
  unfold execCamValidate
  try dsimp only
  repeat' (first
    | with_reducible exact Rg.refl _ _
    | with_reducible assumption
    | exact (rfl : (_ : Nat) = _)
    | with_reducible refine State.camUpdate_rg ?_ ?_ ?_
    | with_reducible refine State.camStatus_rg ?_ ?_
    | with_reducible refine State.camShadow_rg ?_ ?_
    | with_reducible refine State.setCam_rg ?_ ?_
    | with_reducible refine RgO.next ?_
    | intro _ _ _)

theorem execCamMsearch_rg {msk : Nat} {b₀ : State} {n : Nat} {incl : Bool} {maskSet : Nat} {bad : List Nat} {s : State} (h₀ : Rg msk b₀ s) (hm₀ : 96107167241834975113312584178489302142293605564759693426004588894417285174339314651986626222954283729664781111362020337946608961624568004796800768679528697632 ||| msk = msk) :
    RgO msk b₀ (execCamMsearch n incl maskSet bad s) := by
  refine RgO.step h₀ ?_ hm₀
  clear h₀ hm₀
  unfold execCamMsearch
  try dsimp only
  repeat' (first
    | with_reducible exact Rg.refl _ _
    | with_reducible assumption
    | exact (rfl : (_ : Nat) = _)
    | with_reducible refine State.camOp_rg ?_ ?_ ?_
    | with_reducible refine State.camFound_rg ?_ ?_
    | with_reducible refine State.wrN_rg ?_ ?_
    | with_reducible refine State.camAnswer_rg ?_ ?_
    | with_reducible refine in_CAM_MSR ?_
    | with_reducible refine InSet.ite ?_ ?_
    | exact (rfl : (_ : Bool) = _)
    | dsimp only
    | with_reducible refine Rg.ite ?_ ?_
    | with_reducible refine Rg.ite₁ ?_ ?_
    | with_reducible refine RgO.ite ?_ ?_
    | with_reducible refine RgS.ite ?_ ?_
    | with_reducible refine RgP.ite ?_ ?_
    | with_reducible refine RgO.next ?_
    | with_reducible exact RgS.none
    | with_reducible refine RgS.some ?_
    | with_reducible refine RgS.map ?_
    | with_reducible exact RgP.none
    | with_reducible refine RgP.some ?_
    | with_reducible refine Rg.elim ?_ ?_
    | with_reducible refine Rg.foldl ?_ _ _ ?_
    | with_reducible refine Rg.foldl₂ ?_ _ _ ?_
    | intro _ _ _ _ _ _
    | intro _ _ _ _ _
    | intro _ _ _ _
    | intro _ _ _
    | intro _ _
    | intro _
    | with_reducible refine Rg.pair (h := ?_) (e := by assumption)
    | with_reducible refine RgO.got (h := ?_) (e := by assumption)
    | with_reducible refine RgS.get (h := ?_) (e := by assumption)
    | with_reducible refine RgP.get (h := ?_) (e := by assumption)
    | split)

end Sys2Proof.Machine
end

