-- ==== Sys2Proof/Laws/RgFunctions.lean ====
section
/-! SUPPORT. Register frames of the operations of Machine.Functions: the registers that each may write. -/

set_option maxRecDepth 20000
set_option Elab.async false
set_option linter.unusedTactic false
set_option linter.unreachableTactic false
set_option linter.unusedVariables false

namespace Sys2Proof.Machine

theorem State.discardHeld_rg {msk : Nat} {b₀ : State} {s : State} {f : Part → Bool} (h₀ : Rg msk b₀ s) (hm₀ : 0 ||| msk = msk) :
    Rg msk b₀ (State.discardHeld s f) := by
  refine Rg.step h₀ ?_ hm₀
  clear h₀ hm₀
  unfold State.discardHeld
  try dsimp only
  repeat' (first
    | with_reducible exact Rg.refl _ _
    | with_reducible assumption
    | exact (rfl : (_ : Nat) = _)
    | with_reducible refine State.removePart_rg ?_ ?_
    | dsimp only
    | with_reducible refine Rg.ite ?_ ?_
    | with_reducible refine Rg.ite₁ ?_ ?_
    | with_reducible refine RgS.ite ?_ ?_
    | with_reducible refine RgP.ite ?_ ?_
    | with_reducible exact RgS.none
    | with_reducible refine RgS.some ?_
    | with_reducible refine RgS.map ?_
    | with_reducible exact RgP.none
    | with_reducible refine RgP.some ?_
    | with_reducible refine Rg.elim ?_ ?_
    | with_reducible refine Rg.foldl ?_ _ _ ?_
    | with_reducible refine Rg.foldl₂ ?_ _ _ ?_
    | intro _ _ _ _ _ _
    | intro _ _ _ _ _
    | intro _ _ _ _
    | intro _ _ _
    | intro _ _
    | intro _
    | with_reducible refine Rg.pair (h := ?_) (e := by assumption)
    | with_reducible refine RgO.got (h := ?_) (e := by assumption)
    | with_reducible refine RgS.get (h := ?_) (e := by assumption)
    | with_reducible refine RgP.get (h := ?_) (e := by assumption)
    | split
    | refine Rg.mk' ?_)

theorem State.undo_rg {msk : Nat} {b₀ : State} {s : State} {n : Nat} (h₀ : Rg msk b₀ s) (hm₀ : 842498333348457493583344221469363458551160763204392890034487820288 ||| msk = msk) :
    Rg msk b₀ (State.undo s n) := by
  refine Rg.step h₀ ?_ hm₀
  clear h₀ hm₀
  unfold State.undo
  try dsimp only
  repeat' (first
    | with_reducible exact Rg.refl _ _
    | with_reducible assumption
    | exact (rfl : (_ : Nat) = _)
    | with_reducible refine State.discardHeld_rg ?_ ?_
    | with_reducible refine State.discardStreaming_rg ?_ ?_
    | with_reducible refine State.uncharge_rg ?_ ?_
    | with_reducible refine State.setCmd_rg ?_ ?_
    | with_reducible refine State.endReads_rg ?_ ?_
    | dsimp only
    | with_reducible refine Rg.ite ?_ ?_
    | with_reducible refine Rg.ite₁ ?_ ?_
    | with_reducible refine RgS.ite ?_ ?_
    | with_reducible refine RgP.ite ?_ ?_
    | with_reducible exact RgS.none
    | with_reducible refine RgS.some ?_
    | with_reducible refine RgS.map ?_
    | with_reducible exact RgP.none
    | with_reducible refine RgP.some ?_
    | with_reducible refine Rg.elim ?_ ?_
    | with_reducible refine Rg.foldl ?_ _ _ ?_
    | with_reducible refine Rg.foldl₂ ?_ _ _ ?_
    | intro _ _ _ _ _ _
    | intro _ _ _ _ _
    | intro _ _ _ _
    | intro _ _ _
    | intro _ _
    | intro _
    | with_reducible refine Rg.pair (h := ?_) (e := by assumption)
    | with_reducible refine RgO.got (h := ?_) (e := by assumption)
    | with_reducible refine RgS.get (h := ?_) (e := by assumption)
    | with_reducible refine RgP.get (h := ?_) (e := by assumption)
    | split)

theorem execPciePoisonedTlp_rg {msk : Nat} {b₀ : State} {f : Nat} {n : Nat} {s : State} (h₀ : Rg msk b₀ s) (hm₀ : 96107167241834975113312584178489302142293605564759693569348252393796754650015620608367060023582093886030699752062456643865966920354178670237341183116522360608 ||| msk = msk) :
    RgO msk b₀ (execPciePoisonedTlp f n s) := by
  refine RgO.step h₀ ?_ hm₀
  clear h₀ hm₀
  unfold execPciePoisonedTlp
  try dsimp only
  repeat' (first
    | with_reducible exact Rg.refl _ _
    | with_reducible assumption
    | exact (rfl : (_ : Nat) = _)
    | with_reducible refine State.raise_rg ?_ ?_
    | with_reducible refine State.count_rg ?_ ?_
    | with_reducible refine State.complete_rg ?_ ?_
    | with_reducible refine State.undo_rg ?_ ?_
    | with_reducible refine in_PCIE_POISONED ?_
    | with_reducible refine InSet.ite ?_ ?_
    | exact (rfl : (_ : Bool) = _)
    | dsimp only
    | with_reducible refine Rg.ite ?_ ?_
    | with_reducible refine Rg.ite₁ ?_ ?_
    | with_reducible refine RgO.ite ?_ ?_
    | with_reducible refine RgS.ite ?_ ?_
    | with_reducible refine RgP.ite ?_ ?_
    | with_reducible refine RgO.next ?_
    | with_reducible exact RgS.none
    | with_reducible refine RgS.some ?_
    | with_reducible refine RgS.map ?_
    | with_reducible exact RgP.none
    | with_reducible refine RgP.some ?_
    | with_reducible refine Rg.elim ?_ ?_
    | with_reducible refine Rg.foldl ?_ _ _ ?_
    | with_reducible refine Rg.foldl₂ ?_ _ _ ?_
    | intro _ _ _ _ _ _
    | intro _ _ _ _ _
    | intro _ _ _ _
    | intro _ _ _
    | intro _ _
    | intro _
    | with_reducible refine Rg.pair (h := ?_) (e := by assumption)
    | with_reducible refine RgO.got (h := ?_) (e := by assumption)
    | with_reducible refine RgS.get (h := ?_) (e := by assumption)
    | with_reducible refine RgP.get (h := ?_) (e := by assumption)
    | split)

theorem State.clearMailbox_rg {msk : Nat} {b₀ : State} {s : State} {f : Nat} (h₀ : Rg msk b₀ s) (hm₀ : 37778931862957161709568 ||| msk = msk) :
    Rg msk b₀ (State.clearMailbox s f) := by
  refine Rg.step h₀ ?_ hm₀
  clear h₀ hm₀
  unfold State.clearMailbox
  try dsimp only
  repeat' (first
    | with_reducible exact Rg.refl _ _
    | exact (rfl : (_ : Nat) = _)
    | with_reducible refine State.putBit_rg ?_ ?_
    | with_reducible refine State.winBit_rg ?_ ?_
    | with_reducible refine in_MGMT_DB_PEND ?_
    | exact (rfl : (_ : Bool) = _))

theorem State.staleDone_rg {msk : Nat} {b₀ : State} {s : State} {f : Nat} (h₀ : Rg msk b₀ s) (hm₀ : 2361183241434822606880 ||| msk = msk) :
    Rg msk b₀ (State.staleDone s f) := by
  refine Rg.step h₀ ?_ hm₀
  clear h₀ hm₀
  unfold State.staleDone
  try dsimp only
  repeat' (first
    | with_reducible exact Rg.refl _ _
    | with_reducible assumption
    | exact (rfl : (_ : Nat) = _)
    | with_reducible refine State.setFn_rg ?_ ?_
    | with_reducible refine State.staleDiscard_rg ?_ ?_
    | dsimp only
    | with_reducible refine Rg.ite ?_ ?_
    | with_reducible refine Rg.ite₁ ?_ ?_
    | with_reducible refine RgS.ite ?_ ?_
    | with_reducible refine RgP.ite ?_ ?_
    | with_reducible exact RgS.none
    | with_reducible refine RgS.some ?_
    | with_reducible refine RgS.map ?_
    | with_reducible exact RgP.none
    | with_reducible refine RgP.some ?_
    | with_reducible refine Rg.elim ?_ ?_
    | with_reducible refine Rg.foldl ?_ _ _ ?_
    | with_reducible refine Rg.foldl₂ ?_ _ _ ?_
    | intro _ _ _ _ _ _
    | intro _ _ _ _ _
    | intro _ _ _ _
    | intro _ _ _
    | intro _ _
    | intro _
    | with_reducible refine Rg.pair (h := ?_) (e := by assumption)
    | with_reducible refine RgO.got (h := ?_) (e := by assumption)
    | with_reducible refine RgS.get (h := ?_) (e := by assumption)
    | with_reducible refine RgP.get (h := ?_) (e := by assumption)
    | split)

theorem State.abandonCmd_rg {msk : Nat} {b₀ : State} {s : State} {n : Nat} (h₀ : Rg msk b₀ s) (hm₀ : 143343663499379469475676305956380433800627810156366027727182646684513172681765524608805055475647963465760 ||| msk = msk) :
    Rg msk b₀ (State.abandonCmd s n) := by
  refine Rg.step h₀ ?_ hm₀
  clear h₀ hm₀
  unfold State.abandonCmd
  try dsimp only
  repeat' (first
    | with_reducible exact Rg.refl _ _
    | with_reducible assumption
    | exact (rfl : (_ : Nat) = _)
    | with_reducible refine State.discardStreaming_rg ?_ ?_
    | with_reducible refine State.complete_rg ?_ ?_
    | with_reducible refine State.setCmd_rg ?_ ?_
    | with_reducible refine State.uncharge_rg ?_ ?_
    | dsimp only
    | with_reducible refine Rg.ite ?_ ?_
    | with_reducible refine Rg.ite₁ ?_ ?_
    | with_reducible refine RgS.ite ?_ ?_
    | with_reducible refine RgP.ite ?_ ?_
    | with_reducible exact RgS.none
    | with_reducible refine RgS.some ?_
    | with_reducible refine RgS.map ?_
    | with_reducible exact RgP.none
    | with_reducible refine RgP.some ?_
    | with_reducible refine Rg.elim ?_ ?_
    | with_reducible refine Rg.foldl ?_ _ _ ?_
    | with_reducible refine Rg.foldl₂ ?_ _ _ ?_
    | intro _ _ _ _ _ _
    | intro _ _ _ _ _
    | intro _ _ _ _
    | intro _ _ _
    | intro _ _
    | intro _
    | with_reducible refine Rg.pair (h := ?_) (e := by assumption)
    | with_reducible refine RgO.got (h := ?_) (e := by assumption)
    | with_reducible refine RgS.get (h := ?_) (e := by assumption)
    | with_reducible refine RgP.get (h := ?_) (e := by assumption)
    | split)

theorem State.abandonFn_rg {msk : Nat} {b₀ : State} {s : State} {f : Nat} (h₀ : Rg msk b₀ s) (hm₀ : 143343663499379469475676305956380433800627810156366027727182646684513172681765524608805055475647963465760 ||| msk = msk) :
    Rg msk b₀ (State.abandonFn s f) := by
  refine Rg.step h₀ ?_ hm₀
  clear h₀ hm₀
  unfold State.abandonFn
  try dsimp only
  repeat' (first
    | with_reducible exact Rg.refl _ _
    | with_reducible assumption
    | exact (rfl : (_ : Nat) = _)
    | with_reducible refine State.abandonCmd_rg ?_ ?_
    | dsimp only
    | with_reducible refine Rg.ite ?_ ?_
    | with_reducible refine Rg.ite₁ ?_ ?_
    | with_reducible refine RgS.ite ?_ ?_
    | with_reducible refine RgP.ite ?_ ?_
    | with_reducible exact RgS.none
    | with_reducible refine RgS.some ?_
    | with_reducible refine RgS.map ?_
    | with_reducible exact RgP.none
    | with_reducible refine RgP.some ?_
    | with_reducible refine Rg.elim ?_ ?_
    | with_reducible refine Rg.foldl ?_ _ _ ?_
    | with_reducible refine Rg.foldl₂ ?_ _ _ ?_
    | intro _ _ _ _ _ _
    | intro _ _ _ _ _
    | intro _ _ _ _
    | intro _ _ _
    | intro _ _
    | intro _
    | with_reducible refine Rg.pair (h := ?_) (e := by assumption)
    | with_reducible refine RgO.got (h := ?_) (e := by assumption)
    | with_reducible refine RgS.get (h := ?_) (e := by assumption)
    | with_reducible refine RgP.get (h := ?_) (e := by assumption)
    | split)

theorem State.startRemoval_rg {msk : Nat} {b₀ : State} {s : State} {f : Nat} {absentAfter : Bool} (h₀ : Rg msk b₀ s) (hm₀ : 143343663499379469475676305956380433800627810156366027727182646684513172681765524647764578959322536478752 ||| msk = msk) :
    Rg msk b₀ (State.startRemoval s f absentAfter) := by
  refine Rg.step h₀ ?_ hm₀
  clear h₀ hm₀
  unfold State.startRemoval
  try dsimp only
  repeat' (first
    | with_reducible exact Rg.refl _ _
    | with_reducible assumption
    | exact (rfl : (_ : Nat) = _)
    | with_reducible refine State.clearMailbox_rg ?_ ?_
    | with_reducible refine State.staleDone_rg ?_ ?_
    | with_reducible refine State.abandonFn_rg ?_ ?_
    | with_reducible refine State.setFnState_rg ?_ ?_
    | with_reducible refine State.bumpGen_rg ?_ ?_
    | with_reducible refine State.setFn_rg ?_ ?_
    | with_reducible refine State.winBit_rg ?_ ?_
    | with_reducible refine State.wrWin_rg ?_ ?_
    | dsimp only
    | with_reducible refine Rg.ite ?_ ?_
    | with_reducible refine Rg.ite₁ ?_ ?_
    | with_reducible refine RgS.ite ?_ ?_
    | with_reducible refine RgP.ite ?_ ?_
    | with_reducible exact RgS.none
    | with_reducible refine RgS.some ?_
    | with_reducible refine RgS.map ?_
    | with_reducible exact RgP.none
    | with_reducible refine RgP.some ?_
    | with_reducible refine Rg.elim ?_ ?_
    | with_reducible refine Rg.foldl ?_ _ _ ?_
    | with_reducible refine Rg.foldl₂ ?_ _ _ ?_
    | intro _ _ _ _ _ _
    | intro _ _ _ _ _
    | intro _ _ _ _
    | intro _ _ _
    | intro _ _
    | intro _
    | with_reducible refine Rg.pair (h := ?_) (e := by assumption)
    | with_reducible refine RgO.got (h := ?_) (e := by assumption)
    | with_reducible refine RgS.get (h := ?_) (e := by assumption)
    | with_reducible refine RgP.get (h := ?_) (e := by assumption)
    | split)

theorem State.setWeir_rg {msk : Nat} {b₀ : State} {s : State} {subj : Nat} {wmin : Word} {wmax : Word} (h₀ : Rg msk b₀ s) (hm₀ : 3626777458843887524118528 ||| msk = msk) :
    Rg msk b₀ (State.setWeir s subj wmin wmax) := by
  refine Rg.step h₀ ?_ hm₀
  clear h₀ hm₀
  unfold State.setWeir
  try dsimp only
  repeat' (first
    | with_reducible exact Rg.refl _ _
    | with_reducible refine State.wr_rg ?_ ?_
    | with_reducible refine in_WEIR_MAX ?_
    | with_reducible refine in_WEIR_MIN ?_
    | exact (rfl : (_ : Bool) = _))

theorem State.applyQuota_rg {msk : Nat} {b₀ : State} {s : State} {c : FnCmd} (h₀ : Rg msk b₀ s) (hm₀ : 3631499825326757169332224 ||| msk = msk) :
    Rg msk b₀ (State.applyQuota s c) := by
  refine Rg.step h₀ ?_ hm₀
  clear h₀ hm₀
  unfold State.applyQuota
  try dsimp only
  repeat' (first
    | with_reducible exact Rg.refl _ _
    | exact (rfl : (_ : Nat) = _)
    | with_reducible refine State.setWeir_rg ?_ ?_
    | with_reducible refine State.setFn_rg ?_ ?_
    | with_reducible refine State.wrN_rg ?_ ?_
    | with_reducible refine in_POOL_QP_FREE ?_
    | exact (rfl : (_ : Bool) = _))

theorem State.startReset_rg {msk : Nat} {b₀ : State} {s : State} {f : Nat} (h₀ : Rg msk b₀ s) (hm₀ : 143343663499379469475676305956380433800627810156366027727182646684513172681765524647764578959322536478752 ||| msk = msk) :
    Rg msk b₀ (State.startReset s f) := by
  refine Rg.step h₀ ?_ hm₀
  clear h₀ hm₀
  unfold State.startReset
  try dsimp only
  repeat' (first
    | with_reducible exact Rg.refl _ _
    | with_reducible assumption
    | exact (rfl : (_ : Nat) = _)
    | with_reducible refine State.clearMailbox_rg ?_ ?_
    | with_reducible refine State.staleDone_rg ?_ ?_
    | with_reducible refine State.abandonFn_rg ?_ ?_
    | with_reducible refine State.setFnState_rg ?_ ?_
    | with_reducible refine State.bumpGen_rg ?_ ?_
    | with_reducible refine State.setFn_rg ?_ ?_
    | with_reducible refine State.winBit_rg ?_ ?_
    | with_reducible refine State.wrWin_rg ?_ ?_
    | dsimp only
    | with_reducible refine Rg.ite ?_ ?_
    | with_reducible refine Rg.ite₁ ?_ ?_
    | with_reducible refine RgS.ite ?_ ?_
    | with_reducible refine RgP.ite ?_ ?_
    | with_reducible exact RgS.none
    | with_reducible refine RgS.some ?_
    | with_reducible refine RgS.map ?_
    | with_reducible exact RgP.none
    | with_reducible refine RgP.some ?_
    | with_reducible refine Rg.elim ?_ ?_
    | with_reducible refine Rg.foldl ?_ _ _ ?_
    | with_reducible refine Rg.foldl₂ ?_ _ _ ?_
    | intro _ _ _ _ _ _
    | intro _ _ _ _ _
    | intro _ _ _ _
    | intro _ _ _
    | intro _ _
    | intro _
    | with_reducible refine Rg.pair (h := ?_) (e := by assumption)
    | with_reducible refine RgO.got (h := ?_) (e := by assumption)
    | with_reducible refine RgS.get (h := ?_) (e := by assumption)
    | with_reducible refine RgP.get (h := ?_) (e := by assumption)
    | split)

theorem State.fnEffect_rg {msk : Nat} {b₀ : State} {s : State} {c : FnCmd} (h₀ : Rg msk b₀ s) (hm₀ : 143343663499379469475676305956380433800627810156366027727182646684513172681765528279264404286079705810976 ||| msk = msk) :
    Rg msk b₀ (State.fnEffect s c) := by
  refine Rg.step h₀ ?_ hm₀
  clear h₀ hm₀
  unfold State.fnEffect
  try dsimp only
  repeat' (first
    | with_reducible exact Rg.refl _ _
    | with_reducible assumption
    | exact (rfl : (_ : Nat) = _)
    | with_reducible refine State.applyQuota_rg ?_ ?_
    | with_reducible refine State.setFn_rg ?_ ?_
    | with_reducible refine State.setFnState_rg ?_ ?_
    | with_reducible refine State.bumpGen_rg ?_ ?_
    | with_reducible refine State.startRemoval_rg ?_ ?_
    | with_reducible refine State.startReset_rg ?_ ?_
    | with_reducible refine State.wrWin_rg ?_ ?_
    | with_reducible refine State.postMsix_rg ?_ ?_
    | with_reducible refine State.winBit_rg ?_ ?_
    | dsimp only
    | with_reducible refine Rg.ite ?_ ?_
    | with_reducible refine Rg.ite₁ ?_ ?_
    | with_reducible refine RgS.ite ?_ ?_
    | with_reducible refine RgP.ite ?_ ?_
    | with_reducible exact RgS.none
    | with_reducible refine RgS.some ?_
    | with_reducible refine RgS.map ?_
    | with_reducible exact RgP.none
    | with_reducible refine RgP.some ?_
    | with_reducible refine Rg.elim ?_ ?_
    | with_reducible refine Rg.foldl ?_ _ _ ?_
    | with_reducible refine Rg.foldl₂ ?_ _ _ ?_
    | intro _ _ _ _ _ _
    | intro _ _ _ _ _
    | intro _ _ _ _
    | intro _ _ _
    | intro _ _
    | intro _
    | with_reducible refine Rg.pair (h := ?_) (e := by assumption)
    | with_reducible refine RgO.got (h := ?_) (e := by assumption)
    | with_reducible refine RgS.get (h := ?_) (e := by assumption)
    | with_reducible refine RgP.get (h := ?_) (e := by assumption)
    | split)

theorem State.fnCmdWrite_rg {msk : Nat} {b₀ : State} {s : State} {op : Nat} {gen : Nat} (h₀ : Rg msk b₀ s) (hm₀ : 96107167241834975113312584178489302142293605564759693426004588894417285174339314651986626222954283729664672024879809959352794238588654061434519492883734660896 ||| msk = msk) :
    Rg msk b₀ (State.fnCmdWrite s op gen) := by
  refine Rg.step h₀ ?_ hm₀
  clear h₀ hm₀
  unfold State.fnCmdWrite
  try dsimp only
  repeat' (first
    | with_reducible exact Rg.refl _ _
    | exact (rfl : (_ : Nat) = _)
    | with_reducible refine State.raise_rg ?_ ?_
    | with_reducible refine State.putBit_rg ?_ ?_
    | with_reducible refine in_FN_CMD_STATUS ?_
    | exact (rfl : (_ : Bool) = _)
    | with_reducible refine Rg.ite ?_ ?_
    | refine Rg.mk' ?_)

theorem execFnAttach_rg {msk : Nat} {b₀ : State} {gen : Nat} {s : State} (h₀ : Rg msk b₀ s) (hm₀ : 96107167241834975113312584178489302142293605564759693426004588894417285174339314651986626222954283729664672024879809959352794238588654061434519492883734660896 ||| msk = msk) :
    RgO msk b₀ (execFnAttach gen s) := by
  refine RgO.step h₀ ?_ hm₀
  clear h₀ hm₀
  unfold execFnAttach
  try dsimp only
  repeat' (first
    | with_reducible exact Rg.refl _ _
    | exact (rfl : (_ : Nat) = _)
    | with_reducible refine State.fnCmdWrite_rg ?_ ?_
    | with_reducible refine RgO.next ?_)

theorem State.trainedDown_rg {msk : Nat} {b₀ : State} {s : State} {speed : Nat} {width : Nat} (h₀ : Rg msk b₀ s) (hm₀ : 96107167241834975113312584178489302142293605564759693426004588894417285174339314651986626222954283729664672024879809959352794238588654061432213649874520966944 ||| msk = msk) :
    Rg msk b₀ (State.trainedDown s speed width) := by
  refine Rg.step h₀ ?_ hm₀
  clear h₀ hm₀
  unfold State.trainedDown
  try dsimp only
  repeat' (first
    | with_reducible exact Rg.refl _ _
    | exact (rfl : (_ : Nat) = _)
    | with_reducible refine State.raise_rg ?_ ?_
    | with_reducible refine Rg.ite ?_ ?_)

theorem execPcieSpeedChange_rg {msk : Nat} {b₀ : State} {speed : Nat} {width : Nat} {s : State} (h₀ : Rg msk b₀ s) (hm₀ : 96107167241834975113312584178489302142293605564759693426004588894417285174339314651986626222954283729664672024879809959352794238588654061432218716424101758752 ||| msk = msk) :
    RgO msk b₀ (execPcieSpeedChange speed width s) := by
  refine RgO.step h₀ ?_ hm₀
  clear h₀ hm₀
  unfold execPcieSpeedChange
  try dsimp only
  repeat' (first
    | with_reducible exact Rg.refl _ _
    | exact (rfl : (_ : Nat) = _)
    | with_reducible refine State.trainedDown_rg ?_ ?_
    | with_reducible refine State.event_rg ?_ ?_
    | with_reducible refine State.count_rg ?_ ?_
    | with_reducible refine State.wr_rg ?_ ?_
    | with_reducible refine in_PCIE_LINK ?_
    | with_reducible refine in_PCIE_RETRAINS ?_
    | exact (rfl : (_ : Bool) = _)
    | with_reducible refine RgO.next ?_)

theorem State.askReset_rg {msk : Nat} {b₀ : State} {s : State} {f : Nat} (h₀ : Rg msk b₀ s) (hm₀ : 0 ||| msk = msk) :
    Rg msk b₀ (State.askReset s f) := by
  refine Rg.step h₀ ?_ hm₀
  clear h₀ hm₀
  unfold State.askReset
  try dsimp only
  repeat' (first
    | with_reducible exact Rg.refl _ _
    | exact (rfl : (_ : Nat) = _)
    | with_reducible refine State.setFn_rg ?_ ?_
    | with_reducible refine Rg.ite ?_ ?_
    | split)

theorem execSriovNumvfsChange_rg {msk : Nat} {b₀ : State} {n : Nat} {enable : Bool} {s : State} (h₀ : Rg msk b₀ s) (hm₀ : 1180591620717411303424 ||| msk = msk) :
    RgO msk b₀ (execSriovNumvfsChange n enable s) := by
  refine RgO.step h₀ ?_ hm₀
  clear h₀ hm₀
  unfold execSriovNumvfsChange
  try dsimp only
  repeat' (first
    | with_reducible exact Rg.refl _ _
    | with_reducible assumption
    | exact (rfl : (_ : Nat) = _)
    | with_reducible refine State.setFnState_rg ?_ ?_
    | with_reducible refine State.setFn_rg ?_ ?_
    | with_reducible refine Rg.ite ?_ ?_
    | with_reducible refine RgO.next ?_
    | with_reducible refine Rg.foldl ?_ _ _ ?_
    | intro _ _ _
    | split
    | refine Rg.mk' ?_)

theorem execFnResetDone_rg {msk : Nat} {b₀ : State} {f : Nat} {s : State} (h₀ : Rg msk b₀ s) (hm₀ : 1180591620717411303456 ||| msk = msk) :
    RgO msk b₀ (execFnResetDone f s) := by
  refine RgO.step h₀ ?_ hm₀
  clear h₀ hm₀
  unfold execFnResetDone
  try dsimp only
  repeat' (first
    | with_reducible exact Rg.refl _ _
    | exact (rfl : (_ : Nat) = _)
    | with_reducible refine State.event_rg ?_ ?_
    | with_reducible refine State.setFnState_rg ?_ ?_
    | with_reducible refine State.setFn_rg ?_ ?_
    | with_reducible refine Rg.ite ?_ ?_
    | with_reducible refine RgO.next ?_)

theorem execMboxRing_rg {msk : Nat} {b₀ : State} {f : Nat} {s : State} (h₀ : Rg msk b₀ s) (hm₀ : 37778931862957161709600 ||| msk = msk) :
    RgO msk b₀ (execMboxRing f s) := by
  refine RgO.step h₀ ?_ hm₀
  clear h₀ hm₀
  unfold execMboxRing
  try dsimp only
  repeat' (first
    | with_reducible exact Rg.refl _ _
    | exact (rfl : (_ : Nat) = _)
    | with_reducible refine State.event_rg ?_ ?_
    | with_reducible refine State.putBit_rg ?_ ?_
    | with_reducible refine State.winBit_rg ?_ ?_
    | with_reducible refine in_MGMT_DB_PEND ?_
    | exact (rfl : (_ : Bool) = _)
    | with_reducible refine Rg.ite ?_ ?_
    | with_reducible refine RgO.next ?_)

theorem execPcieLinkUp_rg {msk : Nat} {b₀ : State} {speed : Nat} {width : Nat} {s : State} (h₀ : Rg msk b₀ s) (hm₀ : 96107167241834975113312584178489302142293605564759693426004588894417285174339314651986626222954283729664672024879809959352794238588654061432214212824474388256 ||| msk = msk) :
    RgO msk b₀ (execPcieLinkUp speed width s) := by
  refine RgO.step h₀ ?_ hm₀
  clear h₀ hm₀
  unfold execPcieLinkUp
  try dsimp only
  repeat' (first
    | with_reducible exact Rg.refl _ _
    | exact (rfl : (_ : Nat) = _)
    | with_reducible refine State.trainedDown_rg ?_ ?_
    | with_reducible refine State.event_rg ?_ ?_
    | with_reducible refine State.wr_rg ?_ ?_
    | with_reducible refine in_PCIE_LINK ?_
    | exact (rfl : (_ : Bool) = _)
    | with_reducible refine RgO.next ?_)

theorem State.fnCmdApply_rg {msk : Nat} {b₀ : State} {s : State} (h₀ : Rg msk b₀ s) (hm₀ : 143343663499379469475676305956380433800627810156366027727182646684513172681765528279266710129088919504928 ||| msk = msk) :
    Rg msk b₀ (State.fnCmdApply s) := by
  refine Rg.step h₀ ?_ hm₀
  clear h₀ hm₀
  unfold State.fnCmdApply
  try dsimp only
  repeat' (first
    | with_reducible exact Rg.refl _ _
    | exact (rfl : (_ : Nat) = _)
    | with_reducible refine State.fnEffect_rg ?_ ?_
    | with_reducible refine State.event_rg ?_ ?_
    | with_reducible refine State.wrN_rg ?_ ?_
    | with_reducible refine State.setFn_rg ?_ ?_
    | with_reducible refine in_FN_CMD_STATUS ?_
    | exact (rfl : (_ : Bool) = _)
    | with_reducible refine Rg.ite ?_ ?_
    | split
    | refine Rg.mk' ?_)

theorem State.fnLeaveApply_rg {msk : Nat} {b₀ : State} {s : State} (h₀ : Rg msk b₀ s) (hm₀ : 143343663499379469475676305956380433800627810156366027727182646684513172681765524647764578959322536478752 ||| msk = msk) :
    Rg msk b₀ (State.fnLeaveApply s) := by
  refine Rg.step h₀ ?_ hm₀
  clear h₀ hm₀
  unfold State.fnLeaveApply
  try dsimp only
  repeat' (first
    | with_reducible exact Rg.refl _ _
    | with_reducible assumption
    | exact (rfl : (_ : Nat) = _)
    | with_reducible refine State.startReset_rg ?_ ?_
    | with_reducible refine State.startRemoval_rg ?_ ?_
    | with_reducible refine Rg.ite ?_ ?_
    | with_reducible refine Rg.foldl ?_ _ _ ?_
    | intro _ _ _
    | split)

theorem execMgmtDbTake_rg {msk : Nat} {b₀ : State} {i : Nat} {m : Word} {s : State} (h₀ : Rg msk b₀ s) (hm₀ : 37778931862957161709568 ||| msk = msk) :
    RgO msk b₀ (execMgmtDbTake i m s) := by
  refine RgO.step h₀ ?_ hm₀
  clear h₀ hm₀
  unfold execMgmtDbTake
  try dsimp only
  repeat' (first
    | with_reducible exact Rg.refl _ _
    | with_reducible assumption
    | exact (rfl : (_ : Nat) = _)
    | with_reducible refine State.wr_rg ?_ ?_
    | with_reducible refine State.winBit_rg ?_ ?_
    | with_reducible refine in_MGMT_DB_PEND ?_
    | exact (rfl : (_ : Bool) = _)
    | with_reducible refine RgO.next ?_
    | with_reducible refine Rg.foldl ?_ _ _ ?_
    | intro _ _ _)

theorem execNvmeCcEnClear_rg {msk : Nat} {b₀ : State} {f : Nat} {s : State} (h₀ : Rg msk b₀ s) (hm₀ : 0 ||| msk = msk) :
    RgO msk b₀ (execNvmeCcEnClear f s) := by
  refine RgO.step h₀ ?_ hm₀
  clear h₀ hm₀
  unfold execNvmeCcEnClear
  try dsimp only
  repeat' (first
    | with_reducible exact Rg.refl _ _
    | exact (rfl : (_ : Nat) = _)
    | with_reducible refine State.askReset_rg ?_ ?_
    | with_reducible refine State.winBit_rg ?_ ?_
    | with_reducible refine Rg.ite ?_ ?_
    | with_reducible refine RgO.next ?_)

theorem execFnDestroy_rg {msk : Nat} {b₀ : State} {gen : Nat} {s : State} (h₀ : Rg msk b₀ s) (hm₀ : 96107167241834975113312584178489302142293605564759693426004588894417285174339314651986626222954283729664672024879809959352794238588654061434519492883734660896 ||| msk = msk) :
    RgO msk b₀ (execFnDestroy gen s) := by
  refine RgO.step h₀ ?_ hm₀
  clear h₀ hm₀
  unfold execFnDestroy
  try dsimp only
  repeat' (first
    | with_reducible exact Rg.refl _ _
    | exact (rfl : (_ : Nat) = _)
    | with_reducible refine State.fnCmdWrite_rg ?_ ?_
    | with_reducible refine RgO.next ?_)

theorem execFnReset_rg {msk : Nat} {b₀ : State} {gen : Nat} {s : State} (h₀ : Rg msk b₀ s) (hm₀ : 96107167241834975113312584178489302142293605564759693426004588894417285174339314651986626222954283729664672024879809959352794238588654061434519492883734660896 ||| msk = msk) :
    RgO msk b₀ (execFnReset gen s) := by
  refine RgO.step h₀ ?_ hm₀
  clear h₀ hm₀
  unfold execFnReset
  try dsimp only
  repeat' (first
    | with_reducible exact Rg.refl _ _
    | exact (rfl : (_ : Nat) = _)
    | with_reducible refine State.fnCmdWrite_rg ?_ ?_
    | with_reducible refine RgO.next ?_)

theorem State.dmaTimeout_rg {msk : Nat} {b₀ : State} {s : State} {f : Nat} {n : Nat} {injected : Bool} (h₀ : Rg msk b₀ s) (hm₀ : 96107167241834975113312584178489302142293605564759693569348252393796754650015620608367060023582093886030699752062456643865966920354178670237305154319503396640 ||| msk = msk) :
    Rg msk b₀ (State.dmaTimeout s f n injected) := by
  refine Rg.step h₀ ?_ hm₀
  clear h₀ hm₀
  unfold State.dmaTimeout
  try dsimp only
  repeat' (first
    | with_reducible exact Rg.refl _ _
    | with_reducible assumption
    | exact (rfl : (_ : Nat) = _)
    | with_reducible refine State.raise_rg ?_ ?_
    | with_reducible refine State.event_rg ?_ ?_
    | with_reducible refine State.count_rg ?_ ?_
    | with_reducible refine State.complete_rg ?_ ?_
    | with_reducible refine State.undo_rg ?_ ?_
    | with_reducible refine in_PCIE_CPL_TMO ?_
    | with_reducible refine InSet.ite ?_ ?_
    | exact (rfl : (_ : Bool) = _)
    | dsimp only
    | with_reducible refine Rg.ite ?_ ?_
    | with_reducible refine Rg.ite₁ ?_ ?_
    | with_reducible refine RgS.ite ?_ ?_
    | with_reducible refine RgP.ite ?_ ?_
    | with_reducible exact RgS.none
    | with_reducible refine RgS.some ?_
    | with_reducible refine RgS.map ?_
    | with_reducible exact RgP.none
    | with_reducible refine RgP.some ?_
    | with_reducible refine Rg.elim ?_ ?_
    | with_reducible refine Rg.foldl ?_ _ _ ?_
    | with_reducible refine Rg.foldl₂ ?_ _ _ ?_
    | intro _ _ _ _ _ _
    | intro _ _ _ _ _
    | intro _ _ _ _
    | intro _ _ _
    | intro _ _
    | intro _
    | with_reducible refine Rg.pair (h := ?_) (e := by assumption)
    | with_reducible refine RgO.got (h := ?_) (e := by assumption)
    | with_reducible refine RgS.get (h := ?_) (e := by assumption)
    | with_reducible refine RgP.get (h := ?_) (e := by assumption)
    | split)

theorem State.dmaRead_rg {msk : Nat} {b₀ : State} {s : State} {f : Nat} {n : Nat} (h₀ : Rg msk b₀ s) (hm₀ : 96107167241834975113312584178489302142293605564759693569348252393796754650015620608367060023582093886030699752062456643865966920354178670237305154319503396640 ||| msk = msk) :
    Rg msk b₀ (State.dmaRead s f n) := by
  refine Rg.step h₀ ?_ hm₀
  clear h₀ hm₀
  unfold State.dmaRead
  try dsimp only
  repeat' (first
    | with_reducible exact Rg.refl _ _
    | with_reducible assumption
    | exact (rfl : (_ : Nat) = _)
    | with_reducible refine State.inject_rg ?_ ?_
    | with_reducible refine State.dmaTimeout_rg ?_ ?_
    | dsimp only
    | with_reducible refine Rg.ite ?_ ?_
    | with_reducible refine Rg.ite₁ ?_ ?_
    | with_reducible refine RgS.ite ?_ ?_
    | with_reducible refine RgP.ite ?_ ?_
    | with_reducible exact RgS.none
    | with_reducible refine RgS.some ?_
    | with_reducible refine RgS.map ?_
    | with_reducible exact RgP.none
    | with_reducible refine RgP.some ?_
    | with_reducible refine Rg.elim ?_ ?_
    | with_reducible refine Rg.foldl ?_ _ _ ?_
    | with_reducible refine Rg.foldl₂ ?_ _ _ ?_
    | intro _ _ _ _ _ _
    | intro _ _ _ _ _
    | intro _ _ _ _
    | intro _ _ _
    | intro _ _
    | intro _
    | with_reducible refine Rg.pair (h := ?_) (e := by assumption)
    | with_reducible refine RgO.got (h := ?_) (e := by assumption)
    | with_reducible refine RgS.get (h := ?_) (e := by assumption)
    | with_reducible refine RgP.get (h := ?_) (e := by assumption)
    | split)

theorem State.clearWindow_rg {msk : Nat} {b₀ : State} {s : State} {f : Nat} (h₀ : Rg msk b₀ s) (hm₀ : 0 ||| msk = msk) :
    Rg msk b₀ (State.clearWindow s f) := by
  refine Rg.step h₀ ?_ hm₀
  clear h₀ hm₀
  unfold State.clearWindow
  try dsimp only
  repeat' (first
    | with_reducible exact Rg.refl _ _
    | with_reducible assumption
    | exact (rfl : (_ : Nat) = _)
    | dsimp only
    | with_reducible refine Rg.ite ?_ ?_
    | with_reducible refine Rg.ite₁ ?_ ?_
    | with_reducible refine RgS.ite ?_ ?_
    | with_reducible refine RgP.ite ?_ ?_
    | with_reducible exact RgS.none
    | with_reducible refine RgS.some ?_
    | with_reducible refine RgS.map ?_
    | with_reducible exact RgP.none
    | with_reducible refine RgP.some ?_
    | with_reducible refine Rg.elim ?_ ?_
    | with_reducible refine Rg.foldl ?_ _ _ ?_
    | with_reducible refine Rg.foldl₂ ?_ _ _ ?_
    | intro _ _ _ _ _ _
    | intro _ _ _ _ _
    | intro _ _ _ _
    | intro _ _ _
    | intro _ _
    | intro _
    | with_reducible refine Rg.pair (h := ?_) (e := by assumption)
    | with_reducible refine RgO.got (h := ?_) (e := by assumption)
    | with_reducible refine RgS.get (h := ?_) (e := by assumption)
    | with_reducible refine RgP.get (h := ?_) (e := by assumption)
    | split
    | refine Rg.mk' ?_)

theorem execFnRemovalDone_rg {msk : Nat} {b₀ : State} {f : Nat} {s : State} (h₀ : Rg msk b₀ s) (hm₀ : 8468383695405991279460384 ||| msk = msk) :
    RgO msk b₀ (execFnRemovalDone f s) := by
  refine RgO.step h₀ ?_ hm₀
  clear h₀ hm₀
  unfold execFnRemovalDone
  try dsimp only
  repeat' (first
    | with_reducible exact Rg.refl _ _
    | with_reducible assumption
    | exact (rfl : (_ : Nat) = _)
    | with_reducible refine State.wrN_rg ?_ ?_
    | with_reducible refine State.setFn_rg ?_ ?_
    | with_reducible refine State.clearWindow_rg ?_ ?_
    | with_reducible refine State.setWeir_rg ?_ ?_
    | with_reducible refine State.event_rg ?_ ?_
    | with_reducible refine State.setFnState_rg ?_ ?_
    | with_reducible refine in_POOL_QP_FREE ?_
    | with_reducible refine in_WEIR_BAL ?_
    | with_reducible refine InSet.ite ?_ ?_
    | exact (rfl : (_ : Bool) = _)
    | dsimp only
    | with_reducible refine Rg.ite ?_ ?_
    | with_reducible refine Rg.ite₁ ?_ ?_
    | with_reducible refine RgO.ite ?_ ?_
    | with_reducible refine RgS.ite ?_ ?_
    | with_reducible refine RgP.ite ?_ ?_
    | with_reducible refine RgO.next ?_
    | with_reducible exact RgS.none
    | with_reducible refine RgS.some ?_
    | with_reducible refine RgS.map ?_
    | with_reducible exact RgP.none
    | with_reducible refine RgP.some ?_
    | with_reducible refine Rg.elim ?_ ?_
    | with_reducible refine Rg.foldl ?_ _ _ ?_
    | with_reducible refine Rg.foldl₂ ?_ _ _ ?_
    | intro _ _ _ _ _ _
    | intro _ _ _ _ _
    | intro _ _ _ _
    | intro _ _ _
    | intro _ _
    | intro _
    | with_reducible refine Rg.pair (h := ?_) (e := by assumption)
    | with_reducible refine RgO.got (h := ?_) (e := by assumption)
    | with_reducible refine RgS.get (h := ?_) (e := by assumption)
    | with_reducible refine RgP.get (h := ?_) (e := by assumption)
    | split
    | refine Rg.mk' ?_)

theorem execFnDetach_rg {msk : Nat} {b₀ : State} {gen : Nat} {s : State} (h₀ : Rg msk b₀ s) (hm₀ : 96107167241834975113312584178489302142293605564759693426004588894417285174339314651986626222954283729664672024879809959352794238588654061434519492883734660896 ||| msk = msk) :
    RgO msk b₀ (execFnDetach gen s) := by
  refine RgO.step h₀ ?_ hm₀
  clear h₀ hm₀
  unfold execFnDetach
  try dsimp only
  repeat' (first
    | with_reducible exact Rg.refl _ _
    | exact (rfl : (_ : Nat) = _)
    | with_reducible refine State.fnCmdWrite_rg ?_ ?_
    | with_reducible refine RgO.next ?_)

theorem execNvmeCcEnSet_rg {msk : Nat} {b₀ : State} {f : Nat} {s : State} (h₀ : Rg msk b₀ s) (hm₀ : 0 ||| msk = msk) :
    RgO msk b₀ (execNvmeCcEnSet f s) := by
  refine RgO.step h₀ ?_ hm₀
  clear h₀ hm₀
  unfold execNvmeCcEnSet
  try dsimp only
  repeat' (first
    | with_reducible exact Rg.refl _ _
    | exact (rfl : (_ : Nat) = _)
    | with_reducible refine State.setFn_rg ?_ ?_
    | with_reducible refine State.winBit_rg ?_ ?_
    | with_reducible refine Rg.ite ?_ ?_
    | with_reducible refine RgO.next ?_)

theorem execFnReply_rg {msk : Nat} {b₀ : State} {gen : Nat} {s : State} (h₀ : Rg msk b₀ s) (hm₀ : 96107167241834975113312584178489302142293605564759693426004588894417285174339314651986626222954283729664672024879809959352794238588654061434519492883734660896 ||| msk = msk) :
    RgO msk b₀ (execFnReply gen s) := by
  refine RgO.step h₀ ?_ hm₀
  clear h₀ hm₀
  unfold execFnReply
  try dsimp only
  repeat' (first
    | with_reducible exact Rg.refl _ _
    | exact (rfl : (_ : Nat) = _)
    | with_reducible refine State.fnCmdWrite_rg ?_ ?_
    | with_reducible refine RgO.next ?_)

theorem execMboxWrite_rg {msk : Nat} {b₀ : State} {f : Nat} {i : Nat} {w : Word} {s : State} (h₀ : Rg msk b₀ s) (hm₀ : 0 ||| msk = msk) :
    RgO msk b₀ (execMboxWrite f i w s) := by
  refine RgO.step h₀ ?_ hm₀
  clear h₀ hm₀
  unfold execMboxWrite
  try dsimp only
  repeat' (first
    | with_reducible exact Rg.refl _ _
    | exact (rfl : (_ : Nat) = _)
    | with_reducible refine State.wrWin_rg ?_ ?_
    | with_reducible refine Rg.ite ?_ ?_
    | with_reducible refine RgO.next ?_)

theorem execFnResize_rg {msk : Nat} {b₀ : State} {gen : Nat} {s : State} (h₀ : Rg msk b₀ s) (hm₀ : 96107167241834975113312584178489302142293605564759693426004588894417285174339314651986626222954283729664672024879809959352794238588654061434519492883734660896 ||| msk = msk) :
    RgO msk b₀ (execFnResize gen s) := by
  refine RgO.step h₀ ?_ hm₀
  clear h₀ hm₀
  unfold execFnResize
  try dsimp only
  repeat' (first
    | with_reducible exact Rg.refl _ _
    | exact (rfl : (_ : Nat) = _)
    | with_reducible refine State.fnCmdWrite_rg ?_ ?_
    | with_reducible refine RgO.next ?_)

theorem execDetachNsidFree_rg {msk : Nat} {b₀ : State} {f : Nat} {nsid : Nat} {s : State} (h₀ : Rg msk b₀ s) (hm₀ : 0 ||| msk = msk) :
    RgO msk b₀ (execDetachNsidFree f nsid s) := by
  refine RgO.step h₀ ?_ hm₀
  clear h₀ hm₀
  unfold execDetachNsidFree
  try dsimp only
  repeat' (first
    | with_reducible exact Rg.refl _ _
    | exact (rfl : (_ : Nat) = _)
    | with_reducible refine State.setFn_rg ?_ ?_
    | with_reducible refine Rg.ite ?_ ?_
    | with_reducible refine RgO.next ?_)

theorem execFnCreate_rg {msk : Nat} {b₀ : State} {gen : Nat} {s : State} (h₀ : Rg msk b₀ s) (hm₀ : 96107167241834975113312584178489302142293605564759693426004588894417285174339314651986626222954283729664672024879809959352794238588654061434519492883734660896 ||| msk = msk) :
    RgO msk b₀ (execFnCreate gen s) := by
  refine RgO.step h₀ ?_ hm₀
  clear h₀ hm₀
  unfold execFnCreate
  try dsimp only
  repeat' (first
    | with_reducible exact Rg.refl _ _
    | exact (rfl : (_ : Nat) = _)
    | with_reducible refine State.fnCmdWrite_rg ?_ ?_
    | with_reducible refine RgO.next ?_)

theorem execPcieCplTimeout_rg {msk : Nat} {b₀ : State} {f : Nat} {n : Nat} {s : State} (h₀ : Rg msk b₀ s) (hm₀ : 96107167241834975113312584178489302142293605564759693569348252393796754650015620608367060023582093886030699752062456643865966920354178670237305154319503396640 ||| msk = msk) :
    RgO msk b₀ (execPcieCplTimeout f n s) := by
  refine RgO.step h₀ ?_ hm₀
  clear h₀ hm₀
  unfold execPcieCplTimeout
  try dsimp only
  repeat' (first
    | with_reducible exact Rg.refl _ _
    | with_reducible assumption
    | exact (rfl : (_ : Nat) = _)
    | with_reducible refine State.dmaTimeout_rg ?_ ?_
    | dsimp only
    | with_reducible refine Rg.ite ?_ ?_
    | with_reducible refine Rg.ite₁ ?_ ?_
    | with_reducible refine RgO.ite ?_ ?_
    | with_reducible refine RgS.ite ?_ ?_
    | with_reducible refine RgP.ite ?_ ?_
    | with_reducible refine RgO.next ?_
    | with_reducible exact RgS.none
    | with_reducible refine RgS.some ?_
    | with_reducible refine RgS.map ?_
    | with_reducible exact RgP.none
    | with_reducible refine RgP.some ?_
    | with_reducible refine Rg.elim ?_ ?_
    | with_reducible refine Rg.foldl ?_ _ _ ?_
    | with_reducible refine Rg.foldl₂ ?_ _ _ ?_
    | intro _ _ _ _ _ _
    | intro _ _ _ _ _
    | intro _ _ _ _
    | intro _ _ _
    | intro _ _
    | intro _
    | with_reducible refine Rg.pair (h := ?_) (e := by assumption)
    | with_reducible refine RgO.got (h := ?_) (e := by assumption)
    | with_reducible refine RgS.get (h := ?_) (e := by assumption)
    | with_reducible refine RgP.get (h := ?_) (e := by assumption)
    | split)

theorem execPcieFlr_rg {msk : Nat} {b₀ : State} {f : Nat} {s : State} (h₀ : Rg msk b₀ s) (hm₀ : 144115188075855872 ||| msk = msk) :
    RgO msk b₀ (execPcieFlr f s) := by
  refine RgO.step h₀ ?_ hm₀
  clear h₀ hm₀
  unfold execPcieFlr
  try dsimp only
  repeat' (first
    | with_reducible exact Rg.refl _ _
    | exact (rfl : (_ : Nat) = _)
    | with_reducible refine State.askReset_rg ?_ ?_
    | with_reducible refine State.count_rg ?_ ?_
    | with_reducible refine in_PCIE_FLR ?_
    | exact (rfl : (_ : Bool) = _)
    | with_reducible refine RgO.next ?_)

end Sys2Proof.Machine
end

