-- ==== Sys2Proof/Laws/RgQueues.lean ====
section
/-! SUPPORT. Register frames of the operations of Machine.Queues: the registers that each may write. -/

set_option maxRecDepth 20000
set_option Elab.async false
set_option linter.unusedTactic false
set_option linter.unreachableTactic false
set_option linter.unusedVariables false

namespace Sys2Proof.Machine

theorem State.finishApply_rg {msk : Nat} {b₀ : State} {s : State} (h₀ : Rg msk b₀ s) (hm₀ : 143343663499379469475676305956380433800627810156366027727182646684513172681765524608805055475647963465760 ||| msk = msk) :
    Rg msk b₀ (State.finishApply s) := by
  refine Rg.step h₀ ?_ hm₀
  clear h₀ hm₀
  unfold State.finishApply
  try dsimp only
  repeat' (first
    | with_reducible exact Rg.refl _ _
    | with_reducible assumption
    | exact (rfl : (_ : Nat) = _)
    | with_reducible refine State.completeAll_rg ?_ ?_
    | dsimp only
    | with_reducible refine Rg.ite ?_ ?_
    | with_reducible refine Rg.ite₁ ?_ ?_
    | with_reducible refine RgS.ite ?_ ?_
    | with_reducible refine RgP.ite ?_ ?_
    | with_reducible exact RgS.none
    | with_reducible refine RgS.some ?_
    | with_reducible refine RgS.map ?_
    | with_reducible exact RgP.none
    | with_reducible refine RgP.some ?_
    | with_reducible refine Rg.elim ?_ ?_
    | with_reducible refine Rg.foldl ?_ _ _ ?_
    | with_reducible refine Rg.foldl₂ ?_ _ _ ?_
    | intro _ _ _ _ _ _
    | intro _ _ _ _ _
    | intro _ _ _ _
    | intro _ _ _
    | intro _ _
    | intro _
    | with_reducible refine Rg.pair (h := ?_) (e := by assumption)
    | with_reducible refine RgO.got (h := ?_) (e := by assumption)
    | with_reducible refine RgS.get (h := ?_) (e := by assumption)
    | with_reducible refine RgP.get (h := ?_) (e := by assumption)
    | split)

theorem State.newCmd_rg {msk : Nat} {b₀ : State} {s : State} {src : CmdSrc} {gen : Nat} {subject : Nat} {vol : Option Nat} {img : CmdImg} (h₀ : Rg msk b₀ s) (hm₀ : 0 ||| msk = msk) :
    Rg msk b₀ (State.newCmd s src gen subject vol img) := by
  refine Rg.step h₀ ?_ hm₀
  clear h₀ hm₀
  unfold State.newCmd
  try dsimp only
  repeat' (first
    | with_reducible exact Rg.refl _ _
    | refine Rg.mk' ?_)

theorem State.lqIntPost_rg {msk : Nat} {b₀ : State} {s : State} (h₀ : Rg msk b₀ s) (hm₀ : 0 ||| msk = msk) :
    Rg msk b₀ (State.lqIntPost s) := by
  refine Rg.step h₀ ?_ hm₀
  clear h₀ hm₀
  unfold State.lqIntPost
  try dsimp only
  repeat' (first
    | with_reducible exact Rg.refl _ _
    | with_reducible assumption
    | exact (rfl : (_ : Nat) = _)
    | with_reducible refine State.postMsix_rg ?_ ?_
    | with_reducible refine State.setFn_rg ?_ ?_
    | dsimp only
    | with_reducible refine Rg.ite ?_ ?_
    | with_reducible refine Rg.ite₁ ?_ ?_
    | with_reducible refine RgS.ite ?_ ?_
    | with_reducible refine RgP.ite ?_ ?_
    | with_reducible exact RgS.none
    | with_reducible refine RgS.some ?_
    | with_reducible refine RgS.map ?_
    | with_reducible exact RgP.none
    | with_reducible refine RgP.some ?_
    | with_reducible refine Rg.elim ?_ ?_
    | with_reducible refine Rg.foldl ?_ _ _ ?_
    | with_reducible refine Rg.foldl₂ ?_ _ _ ?_
    | intro _ _ _ _ _ _
    | intro _ _ _ _ _
    | intro _ _ _ _
    | intro _ _ _
    | intro _ _
    | intro _
    | with_reducible refine Rg.pair (h := ?_) (e := by assumption)
    | with_reducible refine RgO.got (h := ?_) (e := by assumption)
    | with_reducible refine RgS.get (h := ?_) (e := by assumption)
    | with_reducible refine RgP.get (h := ?_) (e := by assumption)
    | split)

theorem State.lqReadyUpdate_rg {msk : Nat} {b₀ : State} {s : State} {resetting : List Nat} (h₀ : Rg msk b₀ s) (hm₀ : 0 ||| msk = msk) :
    Rg msk b₀ (State.lqReadyUpdate s resetting) := by
  refine Rg.step h₀ ?_ hm₀
  clear h₀ hm₀
  unfold State.lqReadyUpdate
  try dsimp only
  repeat' (first
    | with_reducible exact Rg.refl _ _
    | with_reducible assumption
    | exact (rfl : (_ : Nat) = _)
    | with_reducible refine State.winBit_rg ?_ ?_
    | with_reducible refine Rg.ite ?_ ?_
    | with_reducible refine Rg.foldl ?_ _ _ ?_
    | intro _ _ _)

theorem State.tagComplete_rg {msk : Nat} {b₀ : State} {s : State} {f : Nat} {t : Nat} {status : Nat} (h₀ : Rg msk b₀ s) (hm₀ : 143343663499379469475676305956380433800627810156366027727182646684513172681765524608805055475647963465760 ||| msk = msk) :
    Rg msk b₀ (State.tagComplete s f t status) := by
  refine Rg.step h₀ ?_ hm₀
  clear h₀ hm₀
  unfold State.tagComplete
  try dsimp only
  repeat' (first
    | with_reducible exact Rg.refl _ _
    | exact (rfl : (_ : Nat) = _)
    | with_reducible refine State.complete_rg ?_ ?_
    | with_reducible refine State.answer_rg ?_ ?_
    | split)

theorem State.lqResetTag_rg {msk : Nat} {b₀ : State} {s : State} {f : Nat} {t : Nat} (h₀ : Rg msk b₀ s) (hm₀ : 143343663499379469475676305956380433800627810156366027727182646684513172681765524608805055475647963465760 ||| msk = msk) :
    Rg msk b₀ (State.lqResetTag s f t) := by
  refine Rg.step h₀ ?_ hm₀
  clear h₀ hm₀
  unfold State.lqResetTag
  try dsimp only
  repeat' (first
    | with_reducible exact Rg.refl _ _
    | with_reducible assumption
    | exact (rfl : (_ : Nat) = _)
    | with_reducible refine State.tagComplete_rg ?_ ?_
    | with_reducible refine State.complete_rg ?_ ?_
    | with_reducible refine State.undo_rg ?_ ?_
    | dsimp only
    | with_reducible refine Rg.ite ?_ ?_
    | with_reducible refine Rg.ite₁ ?_ ?_
    | with_reducible refine RgS.ite ?_ ?_
    | with_reducible refine RgP.ite ?_ ?_
    | with_reducible exact RgS.none
    | with_reducible refine RgS.some ?_
    | with_reducible refine RgS.map ?_
    | with_reducible exact RgP.none
    | with_reducible refine RgP.some ?_
    | with_reducible refine Rg.elim ?_ ?_
    | with_reducible refine Rg.foldl ?_ _ _ ?_
    | with_reducible refine Rg.foldl₂ ?_ _ _ ?_
    | intro _ _ _ _ _ _
    | intro _ _ _ _ _
    | intro _ _ _ _
    | intro _ _ _
    | intro _ _
    | intro _
    | with_reducible refine Rg.pair (h := ?_) (e := by assumption)
    | with_reducible refine RgO.got (h := ?_) (e := by assumption)
    | with_reducible refine RgS.get (h := ?_) (e := by assumption)
    | with_reducible refine RgP.get (h := ?_) (e := by assumption)
    | split)

theorem State.lqResetApply_rg {msk : Nat} {b₀ : State} {s : State} (h₀ : Rg msk b₀ s) (hm₀ : 143343663499379469475676305956380433800627810156366027727182646684513172681765524608805055475647963465760 ||| msk = msk) :
    Rg msk b₀ (State.lqResetApply s) := by
  refine Rg.step h₀ ?_ hm₀
  clear h₀ hm₀
  unfold State.lqResetApply
  try dsimp only
  repeat' (first
    | with_reducible exact Rg.refl _ _
    | with_reducible assumption
    | exact (rfl : (_ : Nat) = _)
    | with_reducible refine State.lqResetTag_rg ?_ ?_
    | with_reducible refine State.winBit_rg ?_ ?_
    | dsimp only
    | with_reducible refine Rg.ite ?_ ?_
    | with_reducible refine Rg.ite₁ ?_ ?_
    | with_reducible refine RgS.ite ?_ ?_
    | with_reducible refine RgP.ite ?_ ?_
    | with_reducible exact RgS.none
    | with_reducible refine RgS.some ?_
    | with_reducible refine RgS.map ?_
    | with_reducible exact RgP.none
    | with_reducible refine RgP.some ?_
    | with_reducible refine Rg.elim ?_ ?_
    | with_reducible refine Rg.foldl ?_ _ _ ?_
    | with_reducible refine Rg.foldl₂ ?_ _ _ ?_
    | intro _ _ _ _ _ _
    | intro _ _ _ _ _
    | intro _ _ _ _
    | intro _ _ _
    | intro _ _
    | intro _
    | with_reducible refine Rg.pair (h := ?_) (e := by assumption)
    | with_reducible refine RgO.got (h := ?_) (e := by assumption)
    | with_reducible refine RgS.get (h := ?_) (e := by assumption)
    | with_reducible refine RgP.get (h := ?_) (e := by assumption)
    | split)

theorem State.fetch_rg {msk : Nat} {b₀ : State} {s : State} {src : CmdSrc} {gen : Nat} {subject : Nat} {vol : Option Nat} {img : CmdImg} {bad : Bool} (h₀ : Rg msk b₀ s) (hm₀ : 143343663499379469475676305956380433800627810156366027727182646684513172681765524608805055475647963465760 ||| msk = msk) :
    Rg msk b₀ (State.fetch s src gen subject vol img bad) := by
  refine Rg.step h₀ ?_ hm₀
  clear h₀ hm₀
  unfold State.fetch
  try dsimp only
  repeat' (first
    | with_reducible exact Rg.refl _ _
    | exact (rfl : (_ : Nat) = _)
    | with_reducible refine State.newCmd_rg ?_ ?_
    | with_reducible refine State.complete_rg ?_ ?_
    | with_reducible refine Rg.ite ?_ ?_)

theorem State.psApply_rg {msk : Nat} {b₀ : State} {s : State} (h₀ : Rg msk b₀ s) (hm₀ : 0 ||| msk = msk) :
    Rg msk b₀ (State.psApply s) := by
  refine Rg.step h₀ ?_ hm₀
  clear h₀ hm₀
  unfold State.psApply
  try dsimp only
  repeat' (first
    | with_reducible exact Rg.refl _ _
    | with_reducible assumption
    | exact (rfl : (_ : Nat) = _)
    | with_reducible refine State.setFn_rg ?_ ?_
    | dsimp only
    | with_reducible refine Rg.ite ?_ ?_
    | with_reducible refine Rg.ite₁ ?_ ?_
    | with_reducible refine RgS.ite ?_ ?_
    | with_reducible refine RgP.ite ?_ ?_
    | with_reducible exact RgS.none
    | with_reducible refine RgS.some ?_
    | with_reducible refine RgS.map ?_
    | with_reducible exact RgP.none
    | with_reducible refine RgP.some ?_
    | with_reducible refine Rg.elim ?_ ?_
    | with_reducible refine Rg.foldl ?_ _ _ ?_
    | with_reducible refine Rg.foldl₂ ?_ _ _ ?_
    | intro _ _ _ _ _ _
    | intro _ _ _ _ _
    | intro _ _ _ _
    | intro _ _ _
    | intro _ _
    | intro _
    | with_reducible refine Rg.pair (h := ?_) (e := by assumption)
    | with_reducible refine RgO.got (h := ?_) (e := by assumption)
    | with_reducible refine RgS.get (h := ?_) (e := by assumption)
    | with_reducible refine RgP.get (h := ?_) (e := by assumption)
    | split)

theorem execCmdFetch_rg {msk : Nat} {b₀ : State} {src : CmdSrc} {img : CmdImg} {s : State} (h₀ : Rg msk b₀ s) (hm₀ : 143343663499379469475676305956380433800627810156366027727182646684513172681765524608805055475647963465760 ||| msk = msk) :
    RgO msk b₀ (execCmdFetch src img s) := by
  refine RgO.step h₀ ?_ hm₀
  clear h₀ hm₀
  unfold execCmdFetch
  try dsimp only
  repeat' (first
    | with_reducible exact Rg.refl _ _
    | exact (rfl : (_ : Nat) = _)
    | with_reducible refine State.fetch_rg ?_ ?_
    | with_reducible refine State.setFn_rg ?_ ?_
    | with_reducible refine Rg.ite ?_ ?_
    | with_reducible refine RgO.ite ?_ ?_
    | with_reducible refine RgO.next ?_
    | split)

theorem execNvmeSqDoorbell_rg {msk : Nat} {b₀ : State} {f : Nat} {qid : Nat} {tail : Nat} {s : State} (h₀ : Rg msk b₀ s) (hm₀ : 0 ||| msk = msk) :
    RgO msk b₀ (execNvmeSqDoorbell f qid tail s) := by
  refine RgO.step h₀ ?_ hm₀
  clear h₀ hm₀
  unfold execNvmeSqDoorbell
  try dsimp only
  repeat' (first
    | with_reducible exact Rg.refl _ _
    | exact (rfl : (_ : Nat) = _)
    | with_reducible refine State.setFn_rg ?_ ?_
    | with_reducible refine Rg.ite ?_ ?_
    | with_reducible refine RgO.next ?_
    | split)

theorem execLqAbort_rg {msk : Nat} {b₀ : State} {f : Nat} {m : Word} {s : State} (h₀ : Rg msk b₀ s) (hm₀ : 143343663499379469475676305956380433800627810156366027727182646684513172681765524608805055475647963465760 ||| msk = msk) :
    RgO msk b₀ (execLqAbort f m s) := by
  refine RgO.step h₀ ?_ hm₀
  clear h₀ hm₀
  unfold execLqAbort
  try dsimp only
  repeat' (first
    | with_reducible exact Rg.refl _ _
    | with_reducible assumption
    | exact (rfl : (_ : Nat) = _)
    | with_reducible refine State.winBit_rg ?_ ?_
    | with_reducible refine State.tagComplete_rg ?_ ?_
    | with_reducible refine Rg.ite ?_ ?_
    | with_reducible refine RgO.next ?_
    | with_reducible refine Rg.foldl ?_ _ _ ?_
    | intro _ _ _)

theorem execLqTagWrite_rg {msk : Nat} {b₀ : State} {f : Nat} {t : Nat} {i : Nat} {v : Word} {s : State} (h₀ : Rg msk b₀ s) (hm₀ : 0 ||| msk = msk) :
    RgO msk b₀ (execLqTagWrite f t i v s) := by
  refine RgO.step h₀ ?_ hm₀
  clear h₀ hm₀
  unfold execLqTagWrite
  try dsimp only
  repeat' (first
    | with_reducible exact Rg.refl _ _
    | with_reducible assumption
    | exact (rfl : (_ : Nat) = _)
    | with_reducible refine State.winBit_rg ?_ ?_
    | with_reducible refine State.wrWin_rg ?_ ?_
    | dsimp only
    | with_reducible refine Rg.ite ?_ ?_
    | with_reducible refine Rg.ite₁ ?_ ?_
    | with_reducible refine RgO.ite ?_ ?_
    | with_reducible refine RgS.ite ?_ ?_
    | with_reducible refine RgP.ite ?_ ?_
    | with_reducible refine RgO.next ?_
    | with_reducible exact RgS.none
    | with_reducible refine RgS.some ?_
    | with_reducible refine RgS.map ?_
    | with_reducible exact RgP.none
    | with_reducible refine RgP.some ?_
    | with_reducible refine Rg.elim ?_ ?_
    | with_reducible refine Rg.foldl ?_ _ _ ?_
    | with_reducible refine Rg.foldl₂ ?_ _ _ ?_
    | intro _ _ _ _ _ _
    | intro _ _ _ _ _
    | intro _ _ _ _
    | intro _ _ _
    | intro _ _
    | intro _
    | with_reducible refine Rg.pair (h := ?_) (e := by assumption)
    | with_reducible refine RgO.got (h := ?_) (e := by assumption)
    | with_reducible refine RgS.get (h := ?_) (e := by assumption)
    | with_reducible refine RgP.get (h := ?_) (e := by assumption)
    | split
    | refine Rg.mk' ?_)

theorem execLqIssue_rg {msk : Nat} {b₀ : State} {f : Nat} {m : Word} {s : State} (h₀ : Rg msk b₀ s) (hm₀ : 0 ||| msk = msk) :
    RgO msk b₀ (execLqIssue f m s) := by
  refine RgO.step h₀ ?_ hm₀
  clear h₀ hm₀
  unfold execLqIssue
  try dsimp only
  repeat' (first
    | with_reducible exact Rg.refl _ _
    | with_reducible assumption
    | exact (rfl : (_ : Nat) = _)
    | with_reducible refine State.winBit_rg ?_ ?_
    | with_reducible refine Rg.ite ?_ ?_
    | with_reducible refine RgO.next ?_
    | with_reducible refine Rg.foldl ?_ _ _ ?_
    | intro _ _ _)

theorem execNvmeCqDoorbell_rg {msk : Nat} {b₀ : State} {f : Nat} {qid : Nat} {head : Nat} {s : State} (h₀ : Rg msk b₀ s) (hm₀ : 0 ||| msk = msk) :
    RgO msk b₀ (execNvmeCqDoorbell f qid head s) := by
  refine RgO.step h₀ ?_ hm₀
  clear h₀ hm₀
  unfold execNvmeCqDoorbell
  try dsimp only
  repeat' (first
    | with_reducible exact Rg.refl _ _
    | exact (rfl : (_ : Nat) = _)
    | with_reducible refine State.setFn_rg ?_ ?_
    | with_reducible refine Rg.ite ?_ ?_
    | with_reducible refine RgO.next ?_
    | split)

theorem execLqReset_rg {msk : Nat} {b₀ : State} {f : Nat} {s : State} (h₀ : Rg msk b₀ s) (hm₀ : 0 ||| msk = msk) :
    RgO msk b₀ (execLqReset f s) := by
  refine RgO.step h₀ ?_ hm₀
  clear h₀ hm₀
  unfold execLqReset
  try dsimp only
  repeat' (first
    | with_reducible exact Rg.refl _ _
    | exact (rfl : (_ : Nat) = _)
    | with_reducible refine State.winBit_rg ?_ ?_
    | with_reducible refine Rg.ite ?_ ?_
    | with_reducible refine RgO.next ?_)

end Sys2Proof.Machine
end

