-- ==== Sys2Proof/Laws/RgWeir.lean ====
section
/-! SUPPORT. Register frames of the operations of Machine.Weir: the registers that each may write. -/

set_option maxRecDepth 20000
set_option Elab.async false
set_option linter.unusedTactic false
set_option linter.unreachableTactic false
set_option linter.unusedVariables false

namespace Sys2Proof.Machine

theorem State.admitCmd_rg {msk : Nat} {b₀ : State} {s : State} {n : Nat} {c : HostCmd} (h₀ : Rg msk b₀ s) (hm₀ : 0 ||| msk = msk) :
    Rg msk b₀ (State.admitCmd s n c) := by
  refine Rg.step h₀ ?_ hm₀
  clear h₀ hm₀
  unfold State.admitCmd
  try dsimp only
  repeat' (first
    | with_reducible exact Rg.refl _ _
    | exact (rfl : (_ : Nat) = _)
    | with_reducible refine State.setCmd_rg ?_ ?_
    | refine Rg.mk' ?_)

theorem State.holdEntries_rg {msk : Nat} {b₀ : State} {s : State} {gs : List RdGrain} (h₀ : Rg msk b₀ s) (hm₀ : 0 ||| msk = msk) :
    Rg msk b₀ (State.holdEntries s gs) := by
  refine Rg.step h₀ ?_ hm₀
  clear h₀ hm₀
  unfold State.holdEntries
  try dsimp only
  repeat' (first
    | with_reducible exact Rg.refl _ _
    | with_reducible assumption
    | exact (rfl : (_ : Nat) = _)
    | with_reducible refine State.putPart_rg ?_ ?_
    | with_reducible refine Rg.foldl ?_ _ _ ?_
    | intro _ _ _
    | split)

theorem State.readSearch_rg {msk : Nat} {b₀ : State} {s : State} {vol : Nat} {miss : List Nat} {bad : List Nat} {x4 : List Nat} (h₀ : Rg msk b₀ s) (hm₀ : 96107167241834975113312584178489302142293605564759693426004588894417285174339314651986626222954283729664839641579592165946677182794748626499171949466009800480 ||| msk = msk) :
    Rg msk b₀ (State.readSearch s vol miss bad x4).1 := by
  refine Rg.step h₀ ?_ hm₀
  clear h₀ hm₀
  fun_induction State.readSearch 
  all_goals try dsimp +zetaDelta only at *
  all_goals repeat' (first
    | with_reducible exact Rg.refl _ _
    | with_reducible assumption
    | exact (rfl : (_ : Nat) = _)
    | with_reducible refine Rg.trans ?_ (by assumption)
    | with_reducible refine State.inflight_rg ?_ ?_
    | dsimp only
    | with_reducible refine Rg.ite ?_ ?_
    | with_reducible refine Rg.ite₁ ?_ ?_
    | with_reducible refine RgS.ite ?_ ?_
    | with_reducible refine RgP.ite ?_ ?_
    | with_reducible exact RgS.none
    | with_reducible refine RgS.some ?_
    | with_reducible refine RgS.map ?_
    | with_reducible exact RgP.none
    | with_reducible refine RgP.some ?_
    | with_reducible refine Rg.elim ?_ ?_
    | with_reducible refine Rg.foldl ?_ _ _ ?_
    | with_reducible refine Rg.foldl₂ ?_ _ _ ?_
    | intro _ _ _ _ _ _
    | intro _ _ _ _ _
    | intro _ _ _ _
    | intro _ _ _
    | intro _ _
    | intro _
    | with_reducible refine Rg.pair (h := ?_) (e := by assumption)
    | with_reducible refine RgO.got (h := ?_) (e := by assumption)
    | with_reducible refine RgS.get (h := ?_) (e := by assumption)
    | with_reducible refine RgP.get (h := ?_) (e := by assumption)
    | split)

theorem State.setWeirBal_rg {msk : Nat} {b₀ : State} {s : State} {subj : Nat} {lo : Nat} {b : Int} (h₀ : Rg msk b₀ s) (hm₀ : 4835703278458516698824704 ||| msk = msk) :
    Rg msk b₀ (State.setWeirBal s subj lo b) := by
  refine Rg.step h₀ ?_ hm₀
  clear h₀ hm₀
  unfold State.setWeirBal
  try dsimp only
  repeat' (first
    | with_reducible exact Rg.refl _ _
    | with_reducible refine State.putFld_rg ?_ ?_
    | with_reducible refine in_WEIR_BAL ?_
    | exact (rfl : (_ : Bool) = _))

theorem State.weirClass_rg {msk : Nat} {b₀ : State} {s : State} {order : List Nat} {lo : Nat} (h₀ : Rg msk b₀ s) (hm₀ : 4835703278458516698824704 ||| msk = msk) :
    Rg msk b₀ (State.weirClass s order lo) := by
  refine Rg.step h₀ ?_ hm₀
  clear h₀ hm₀
  unfold State.weirClass
  try dsimp only
  repeat' (first
    | with_reducible exact Rg.refl _ _
    | with_reducible assumption
    | exact (rfl : (_ : Nat) = _)
    | with_reducible refine State.setWeirBal_rg ?_ ?_
    | with_reducible refine Rg.foldl ?_ _ _ ?_
    | intro _ _ _)

theorem State.basinWait_rg {msk : Nat} {b₀ : State} {s : State} {n : Nat} {c : HostCmd} (h₀ : Rg msk b₀ s) (hm₀ : 862718293348820473429344482784628181556388621521298319395315527974912 ||| msk = msk) :
    Rg msk b₀ (State.basinWait s n c) := by
  refine Rg.step h₀ ?_ hm₀
  clear h₀ hm₀
  unfold State.basinWait
  try dsimp only
  repeat' (first
    | with_reducible exact Rg.refl _ _
    | with_reducible assumption
    | exact (rfl : (_ : Nat) = _)
    | with_reducible refine State.count_rg ?_ ?_
    | with_reducible refine State.setCmd_rg ?_ ?_
    | with_reducible refine in_RD_BASIN_WAITS ?_
    | with_reducible refine InSet.ite ?_ ?_
    | exact (rfl : (_ : Bool) = _)
    | dsimp only
    | with_reducible refine Rg.ite ?_ ?_
    | with_reducible refine Rg.ite₁ ?_ ?_
    | with_reducible refine RgS.ite ?_ ?_
    | with_reducible refine RgP.ite ?_ ?_
    | with_reducible exact RgS.none
    | with_reducible refine RgS.some ?_
    | with_reducible refine RgS.map ?_
    | with_reducible exact RgP.none
    | with_reducible refine RgP.some ?_
    | with_reducible refine Rg.elim ?_ ?_
    | with_reducible refine Rg.foldl ?_ _ _ ?_
    | with_reducible refine Rg.foldl₂ ?_ _ _ ?_
    | intro _ _ _ _ _ _
    | intro _ _ _ _ _
    | intro _ _ _ _
    | intro _ _ _
    | intro _ _
    | intro _
    | with_reducible refine Rg.pair (h := ?_) (e := by assumption)
    | with_reducible refine RgO.got (h := ?_) (e := by assumption)
    | with_reducible refine RgS.get (h := ?_) (e := by assumption)
    | with_reducible refine RgP.get (h := ?_) (e := by assumption)
    | split)

theorem State.searchRead_rg {msk : Nat} {b₀ : State} {s : State} {c : HostCmd} {v : Nat} {miss : List Nat} {bad : List Nat} (h₀ : Rg msk b₀ s) (hm₀ : 96107167241834975113312584178489302142293605564759693426004588894417285174339314651986626222954283729664839641579592165946677182794748626499171949466009800480 ||| msk = msk) :
    Rg msk b₀ (State.searchRead s c v miss bad).1 := by
  refine Rg.step h₀ ?_ hm₀
  clear h₀ hm₀
  unfold State.searchRead
  try dsimp only
  repeat' (first
    | with_reducible exact Rg.refl _ _
    | with_reducible assumption
    | exact (rfl : (_ : Nat) = _)
    | with_reducible refine State.readSearch_rg ?_ ?_
    | with_reducible refine State.holdEntries_rg ?_ ?_
    | dsimp only
    | with_reducible refine Rg.ite ?_ ?_
    | with_reducible refine Rg.ite₁ ?_ ?_
    | with_reducible refine RgS.ite ?_ ?_
    | with_reducible refine RgP.ite ?_ ?_
    | with_reducible exact RgS.none
    | with_reducible refine RgS.some ?_
    | with_reducible refine RgS.map ?_
    | with_reducible exact RgP.none
    | with_reducible refine RgP.some ?_
    | with_reducible refine Rg.elim ?_ ?_
    | with_reducible refine Rg.foldl ?_ _ _ ?_
    | with_reducible refine Rg.foldl₂ ?_ _ _ ?_
    | intro _ _ _ _ _ _
    | intro _ _ _ _ _
    | intro _ _ _ _
    | intro _ _ _
    | intro _ _
    | intro _
    | with_reducible refine Rg.pair (h := ?_) (e := by assumption)
    | with_reducible refine RgO.got (h := ?_) (e := by assumption)
    | with_reducible refine RgS.get (h := ?_) (e := by assumption)
    | with_reducible refine RgP.get (h := ?_) (e := by assumption)
    | split)

theorem State.admitRead_rg {msk : Nat} {b₀ : State} {s : State} {n : Nat} {c : HostCmd} {slots : Nat} {miss : List Nat} {bad : List Nat} (h₀ : Rg msk b₀ s) (hm₀ : 96107167241834975113312584178489302142293605564759693426004588894417285174339314651986626223796782063013297135162936387416040641345909389703564839500497620768 ||| msk = msk) :
    Rg msk b₀ (State.admitRead s n c slots miss bad) := by
  refine Rg.step h₀ ?_ hm₀
  clear h₀ hm₀
  unfold State.admitRead
  try dsimp only
  repeat' (first
    | with_reducible exact Rg.refl _ _
    | with_reducible assumption
    | exact (rfl : (_ : Nat) = _)
    | with_reducible refine State.wrN_rg ?_ ?_
    | with_reducible refine State.searchRead_rg ?_ ?_
    | with_reducible refine State.admitCmd_rg ?_ ?_
    | with_reducible refine in_RD_BASIN_FREE ?_
    | with_reducible refine InSet.ite ?_ ?_
    | exact (rfl : (_ : Bool) = _)
    | dsimp only
    | with_reducible refine Rg.ite ?_ ?_
    | with_reducible refine Rg.ite₁ ?_ ?_
    | with_reducible refine RgS.ite ?_ ?_
    | with_reducible refine RgP.ite ?_ ?_
    | with_reducible exact RgS.none
    | with_reducible refine RgS.some ?_
    | with_reducible refine RgS.map ?_
    | with_reducible exact RgP.none
    | with_reducible refine RgP.some ?_
    | with_reducible refine Rg.elim ?_ ?_
    | with_reducible refine Rg.foldl ?_ _ _ ?_
    | with_reducible refine Rg.foldl₂ ?_ _ _ ?_
    | intro _ _ _ _ _ _
    | intro _ _ _ _ _
    | intro _ _ _ _
    | intro _ _ _
    | intro _ _
    | intro _
    | with_reducible refine Rg.pair (h := ?_) (e := by assumption)
    | with_reducible refine RgO.got (h := ?_) (e := by assumption)
    | with_reducible refine RgS.get (h := ?_) (e := by assumption)
    | with_reducible refine RgP.get (h := ?_) (e := by assumption)
    | split)

theorem execWeirAdmit_rg {msk : Nat} {b₀ : State} {n : Nat} {miss : List Nat} {bad : List Nat} {s : State} (h₀ : Rg msk b₀ s) (hm₀ : 96107167241834975113312584178489302142293605564759693426004588894417285174339314651986627086515075411833770564507419172044222197734535746705162693332724420384 ||| msk = msk) :
    RgO msk b₀ (execWeirAdmit n miss bad s) := by
  refine RgO.step h₀ ?_ hm₀
  clear h₀ hm₀
  unfold execWeirAdmit
  try dsimp only
  repeat' (first
    | with_reducible exact Rg.refl _ _
    | with_reducible assumption
    | exact (rfl : (_ : Nat) = _)
    | with_reducible refine State.admitCmd_rg ?_ ?_
    | with_reducible refine State.setWeirBal_rg ?_ ?_
    | with_reducible refine State.basinWait_rg ?_ ?_
    | with_reducible refine State.admitRead_rg ?_ ?_
    | dsimp only
    | with_reducible refine Rg.ite ?_ ?_
    | with_reducible refine Rg.ite₁ ?_ ?_
    | with_reducible refine RgO.ite ?_ ?_
    | with_reducible refine RgS.ite ?_ ?_
    | with_reducible refine RgP.ite ?_ ?_
    | with_reducible refine RgO.next ?_
    | with_reducible exact RgS.none
    | with_reducible refine RgS.some ?_
    | with_reducible refine RgS.map ?_
    | with_reducible exact RgP.none
    | with_reducible refine RgP.some ?_
    | with_reducible refine Rg.elim ?_ ?_
    | with_reducible refine Rg.foldl ?_ _ _ ?_
    | with_reducible refine Rg.foldl₂ ?_ _ _ ?_
    | intro _ _ _ _ _ _
    | intro _ _ _ _ _
    | intro _ _ _ _
    | intro _ _ _
    | intro _ _
    | intro _
    | with_reducible refine Rg.pair (h := ?_) (e := by assumption)
    | with_reducible refine RgO.got (h := ?_) (e := by assumption)
    | with_reducible refine RgS.get (h := ?_) (e := by assumption)
    | with_reducible refine RgP.get (h := ?_) (e := by assumption)
    | split)

theorem State.weirGrant_rg {msk : Nat} {b₀ : State} {s : State} (h₀ : Rg msk b₀ s) (hm₀ : 4835703278458516698824704 ||| msk = msk) :
    Rg msk b₀ (State.weirGrant s) := by
  refine Rg.step h₀ ?_ hm₀
  clear h₀ hm₀
  unfold State.weirGrant
  try dsimp only
  repeat' (first
    | with_reducible exact Rg.refl _ _
    | exact (rfl : (_ : Nat) = _)
    | with_reducible refine State.weirClass_rg ?_ ?_
    | refine Rg.mk' ?_)

end Sys2Proof.Machine
end

