-- ==== Sys2Proof/Laws/RgIngest.lean ====
section
/-! SUPPORT. Register frames of the operations of Machine.Ingest: the registers that each may write. -/

set_option maxRecDepth 20000
set_option Elab.async false
set_option linter.unusedTactic false
set_option linter.unreachableTactic false
set_option linter.unusedVariables false

namespace Sys2Proof.Machine

theorem State.ackMax_rg {msk : Nat} {b₀ : State} {s : State} {c : HostCmd} (h₀ : Rg msk b₀ s) (hm₀ : 11417981541647679048466287755595961091061972992 ||| msk = msk) :
    Rg msk b₀ (State.ackMax s c) := by
  refine Rg.step h₀ ?_ hm₀
  clear h₀ hm₀
  unfold State.ackMax
  try dsimp only
  repeat' (first
    | with_reducible exact Rg.refl _ _
    | with_reducible refine State.highWater_rg ?_ ?_
    | with_reducible refine in_CIST_ACK_MAX ?_
    | exact (rfl : (_ : Bool) = _)
    | with_reducible refine Rg.ite ?_ ?_)

theorem State.tryAck_rg {msk : Nat} {b₀ : State} {s : State} {n : Nat} (h₀ : Rg msk b₀ s) (hm₀ : 143343663499379469475676305956380433800627810156366027727194064666054820360813990896560651436739025438752 ||| msk = msk) :
    Rg msk b₀ (State.tryAck s n) := by
  refine Rg.step h₀ ?_ hm₀
  clear h₀ hm₀
  unfold State.tryAck
  try dsimp only
  repeat' (first
    | with_reducible exact Rg.refl _ _
    | exact (rfl : (_ : Nat) = _)
    | with_reducible refine State.complete_rg ?_ ?_
    | with_reducible refine State.ackMax_rg ?_ ?_
    | with_reducible refine Rg.ite ?_ ?_
    | split)

theorem State.countRefusal_rg {msk : Nat} {b₀ : State} {s : State} {st : Nat} (h₀ : Rg msk b₀ s) (hm₀ : 1045347431181122959759486794030391945592832 ||| msk = msk) :
    Rg msk b₀ (State.countRefusal s st) := by
  refine Rg.step h₀ ?_ hm₀
  clear h₀ hm₀
  unfold State.countRefusal
  try dsimp only
  repeat' (first
    | with_reducible exact Rg.refl _ _
    | with_reducible refine State.count_rg ?_ ?_
    | with_reducible refine in_ING_LEN_ERR ?_
    | with_reducible refine in_ING_RANGE_ERR ?_
    | exact (rfl : (_ : Bool) = _)
    | with_reducible refine Rg.ite ?_ ?_)

theorem State.forward_rg {msk : Nat} {b₀ : State} {s : State} {n : Nat} {c : HostCmd} {v : Nat} (h₀ : Rg msk b₀ s) (hm₀ : 4730340895479522492697318096560554315393757788492928275202360325458358924858735140748842161695899336575008 ||| msk = msk) :
    Rg msk b₀ (State.forward s n c v) := by
  refine Rg.step h₀ ?_ hm₀
  clear h₀ hm₀
  unfold State.forward
  try dsimp only
  repeat' (first
    | with_reducible exact Rg.refl _ _
    | exact (rfl : (_ : Nat) = _)
    | with_reducible refine State.count_rg ?_ ?_
    | with_reducible refine State.setCmd_rg ?_ ?_
    | with_reducible refine State.tlSend_rg ?_ ?_
    | with_reducible refine State.complete_rg ?_ ?_
    | with_reducible refine in_TL_FWD_SENT ?_
    | exact (rfl : (_ : Bool) = _)
    | with_reducible refine Rg.ite ?_ ?_
    | refine Rg.mk' ?_)

theorem State.spaceCharge_rg {msk : Nat} {b₀ : State} {s : State} {v : Vol} {charge : Nat} (h₀ : Rg msk b₀ s) (hm₀ : 0 ||| msk = msk) :
    Rg msk b₀ (State.spaceCharge s v charge) := by
  refine Rg.step h₀ ?_ hm₀
  clear h₀ hm₀
  unfold State.spaceCharge
  try dsimp only
  repeat' (first
    | with_reducible exact Rg.refl _ _
    | exact (rfl : (_ : Nat) = _)
    | with_reducible refine State.setPool_rg ?_ ?_)

theorem State.fwdTaken_rg {msk : Nat} {b₀ : State} {s : State} {c : HostCmd} (h₀ : Rg msk b₀ s) (hm₀ : 143343663499379469475676305956380433799785311823017570233599302461682679755530300504376159569382855411712 ||| msk = msk) :
    Rg msk b₀ (State.fwdTaken s c) := by
  refine Rg.step h₀ ?_ hm₀
  clear h₀ hm₀
  unfold State.fwdTaken
  try dsimp only
  repeat' (first
    | with_reducible exact Rg.refl _ _
    | exact (rfl : (_ : Nat) = _)
    | with_reducible refine State.tlSend_rg ?_ ?_
    | split)

theorem State.accept_rg {msk : Nat} {b₀ : State} {s : State} {n : Nat} {c : HostCmd} {v : Vol} (h₀ : Rg msk b₀ s) (hm₀ : 143343663499379469475676305956380433799785311823017570233599324893096307183793812010030281471543354591232 ||| msk = msk) :
    Rg msk b₀ (State.accept s n c v) := by
  refine Rg.step h₀ ?_ hm₀
  clear h₀ hm₀
  unfold State.accept
  try dsimp only
  repeat' (first
    | with_reducible exact Rg.refl _ _
    | exact (rfl : (_ : Nat) = _)
    | with_reducible refine State.countBy_rg ?_ ?_
    | with_reducible refine State.count_rg ?_ ?_
    | with_reducible refine State.spaceCharge_rg ?_ ?_
    | with_reducible refine State.setCmd_rg ?_ ?_
    | with_reducible refine State.fwdTaken_rg ?_ ?_
    | with_reducible refine in_ING_CMDS ?_
    | with_reducible refine in_ING_GRAINS ?_
    | with_reducible refine in_ING_PARTIAL ?_
    | exact (rfl : (_ : Bool) = _))

theorem State.ingest_rg {msk : Nat} {b₀ : State} {s : State} {n : Nat} {op : HostOp} {legacy : Bool} (h₀ : Rg msk b₀ s) (hm₀ : 4730340895479522492697318096560554315393757788492928275202360348935119983468121612013983077628451781347360 ||| msk = msk) :
    Rg msk b₀ (State.ingest s n op legacy) := by
  refine Rg.step h₀ ?_ hm₀
  clear h₀ hm₀
  unfold State.ingest
  try dsimp only
  repeat' (first
    | with_reducible exact Rg.refl _ _
    | exact (rfl : (_ : Nat) = _)
    | with_reducible refine State.complete_rg ?_ ?_
    | with_reducible refine State.countRefusal_rg ?_ ?_
    | with_reducible refine State.forward_rg ?_ ?_
    | with_reducible refine State.accept_rg ?_ ?_
    | with_reducible refine State.setPool_rg ?_ ?_
    | with_reducible refine Rg.ite ?_ ?_
    | split)

theorem execNvmeWriteZeroes_rg {msk : Nat} {b₀ : State} {n : Nat} {s : State} (h₀ : Rg msk b₀ s) (hm₀ : 4730340895479522492697318096560554315393757788492928275202360348935119983468121612013983077628451781347360 ||| msk = msk) :
    RgO msk b₀ (execNvmeWriteZeroes n s) := by
  refine RgO.step h₀ ?_ hm₀
  clear h₀ hm₀
  unfold execNvmeWriteZeroes
  try dsimp only
  repeat' (first
    | with_reducible exact Rg.refl _ _
    | exact (rfl : (_ : Nat) = _)
    | with_reducible refine State.ingest_rg ?_ ?_
    | with_reducible refine RgO.next ?_)

theorem State.tryRelease_rg {msk : Nat} {b₀ : State} {s : State} {cseq : Nat} (h₀ : Rg msk b₀ s) (hm₀ : 0 ||| msk = msk) :
    Rg msk b₀ (State.tryRelease s cseq) := by
  refine Rg.step h₀ ?_ hm₀
  clear h₀ hm₀
  unfold State.tryRelease
  try dsimp only
  repeat' (first
    | with_reducible exact Rg.refl _ _
    | exact (rfl : (_ : Nat) = _)
    | with_reducible refine State.removePart_rg ?_ ?_
    | with_reducible refine Rg.ite ?_ ?_
    | split
    | refine Rg.mk' ?_)

theorem State.release_rg {msk : Nat} {b₀ : State} {s : State} {cseq : Nat} (h₀ : Rg msk b₀ s) (hm₀ : 0 ||| msk = msk) :
    Rg msk b₀ (State.release s cseq) := by
  refine Rg.step h₀ ?_ hm₀
  clear h₀ hm₀
  unfold State.release
  try dsimp only
  repeat' (first
    | with_reducible exact Rg.refl _ _
    | exact (rfl : (_ : Nat) = _)
    | with_reducible refine State.tryRelease_rg ?_ ?_
    | with_reducible refine State.putPart_rg ?_ ?_
    | split)

theorem State.overtakeOthers_rg {msk : Nat} {b₀ : State} {s : State} {cseq : Nat} {p : Part} (h₀ : Rg msk b₀ s) (hm₀ : 0 ||| msk = msk) :
    Rg msk b₀ (State.overtakeOthers s cseq p) := by
  refine Rg.step h₀ ?_ hm₀
  clear h₀ hm₀
  unfold State.overtakeOthers
  try dsimp only
  repeat' (first
    | with_reducible exact Rg.refl _ _
    | with_reducible assumption
    | exact (rfl : (_ : Nat) = _)
    | with_reducible refine State.putPart_rg ?_ ?_
    | with_reducible refine State.release_rg ?_ ?_
    | with_reducible refine Rg.ite ?_ ?_
    | with_reducible refine Rg.foldl ?_ _ _ ?_
    | intro _ _ _
    | split)

theorem State.commitPart_rg {msk : Nat} {b₀ : State} {s : State} {cseq : Nat} (h₀ : Rg msk b₀ s) (hm₀ : 143343663499379469475676305956380433800627810156366027727194064666054820360813990896560651436739025438752 ||| msk = msk) :
    Rg msk b₀ (State.commitPart s cseq) := by
  refine Rg.step h₀ ?_ hm₀
  clear h₀ hm₀
  unfold State.commitPart
  try dsimp only
  repeat' (first
    | with_reducible exact Rg.refl _ _
    | exact (rfl : (_ : Nat) = _)
    | with_reducible refine State.overtakeOthers_rg ?_ ?_
    | with_reducible refine State.setPart_rg ?_ ?_
    | with_reducible refine State.tryAck_rg ?_ ?_
    | with_reducible refine State.setCmd_rg ?_ ?_
    | with_reducible refine Rg.ite ?_ ?_
    | split)

theorem execNvmeDatasetManagement_rg {msk : Nat} {b₀ : State} {n : Nat} {s : State} (h₀ : Rg msk b₀ s) (hm₀ : 4730340895479522492697318096560554315393757788492928275202360348935119983468121612013983077628451781347360 ||| msk = msk) :
    RgO msk b₀ (execNvmeDatasetManagement n s) := by
  refine RgO.step h₀ ?_ hm₀
  clear h₀ hm₀
  unfold execNvmeDatasetManagement
  try dsimp only
  repeat' (first
    | with_reducible exact Rg.refl _ _
    | exact (rfl : (_ : Nat) = _)
    | with_reducible refine State.ingest_rg ?_ ?_
    | with_reducible refine RgO.next ?_)

theorem State.flushCmd_rg {msk : Nat} {b₀ : State} {s : State} {n : Nat} {legacy : Bool} (h₀ : Rg msk b₀ s) (hm₀ : 0 ||| msk = msk) :
    Rg msk b₀ (State.flushCmd s n legacy) := by
  refine Rg.step h₀ ?_ hm₀
  clear h₀ hm₀
  unfold State.flushCmd
  try dsimp only
  repeat' (first
    | with_reducible exact Rg.refl _ _
    | exact (rfl : (_ : Nat) = _)
    | with_reducible refine State.setCmd_rg ?_ ?_
    | with_reducible refine Rg.ite ?_ ?_
    | split)

theorem execLqFlush_rg {msk : Nat} {b₀ : State} {n : Nat} {s : State} (h₀ : Rg msk b₀ s) (hm₀ : 0 ||| msk = msk) :
    RgO msk b₀ (execLqFlush n s) := by
  refine RgO.step h₀ ?_ hm₀
  clear h₀ hm₀
  unfold execLqFlush
  try dsimp only
  repeat' (first
    | with_reducible exact Rg.refl _ _
    | exact (rfl : (_ : Nat) = _)
    | with_reducible refine State.flushCmd_rg ?_ ?_
    | with_reducible refine RgO.next ?_)

theorem State.lockWait_rg {msk : Nat} {b₀ : State} {s : State} {n : Nat} {c : HostCmd} (h₀ : Rg msk b₀ s) (hm₀ : 5575186299632655785383929568162090376495104 ||| msk = msk) :
    Rg msk b₀ (State.lockWait s n c) := by
  refine Rg.step h₀ ?_ hm₀
  clear h₀ hm₀
  unfold State.lockWait
  try dsimp only
  repeat' (first
    | with_reducible exact Rg.refl _ _
    | exact (rfl : (_ : Nat) = _)
    | with_reducible refine State.count_rg ?_ ?_
    | with_reducible refine State.setCmd_rg ?_ ?_
    | with_reducible refine in_ING_LOCK_WAITS ?_
    | exact (rfl : (_ : Bool) = _)
    | with_reducible refine Rg.ite ?_ ?_)

theorem State.mirrorReleaseSend_rg {msk : Nat} {b₀ : State} {s : State} (h₀ : Rg msk b₀ s) (hm₀ : 143343663499379469475676305956380433799785311823017570233599302461682679755530300504376159569382855411712 ||| msk = msk) :
    Rg msk b₀ (State.mirrorReleaseSend s) := by
  refine Rg.step h₀ ?_ hm₀
  clear h₀ hm₀
  unfold State.mirrorReleaseSend
  try dsimp only
  repeat' (first
    | with_reducible exact Rg.refl _ _
    | with_reducible assumption
    | exact (rfl : (_ : Nat) = _)
    | with_reducible refine State.tlSend_rg ?_ ?_
    | with_reducible refine Rg.ite ?_ ?_
    | with_reducible refine Rg.foldl ?_ _ _ ?_
    | intro _ _ _
    | refine Rg.mk' ?_)

theorem execLqWriteZeroes_rg {msk : Nat} {b₀ : State} {n : Nat} {s : State} (h₀ : Rg msk b₀ s) (hm₀ : 4730340895479522492697318096560554315393757788492928275202360348935119983468121612013983077628451781347360 ||| msk = msk) :
    RgO msk b₀ (execLqWriteZeroes n s) := by
  refine RgO.step h₀ ?_ hm₀
  clear h₀ hm₀
  unfold execLqWriteZeroes
  try dsimp only
  repeat' (first
    | with_reducible exact Rg.refl _ _
    | exact (rfl : (_ : Nat) = _)
    | with_reducible refine State.ingest_rg ?_ ?_
    | with_reducible refine RgO.next ?_)

theorem State.failPart_rg {msk : Nat} {b₀ : State} {s : State} {cseq : Nat} {status : Nat} (h₀ : Rg msk b₀ s) (hm₀ : 143343663499379469475676305956380433800627810156366027727194064666054820360813990896560651436739025438752 ||| msk = msk) :
    Rg msk b₀ (State.failPart s cseq status) := by
  refine Rg.step h₀ ?_ hm₀
  clear h₀ hm₀
  unfold State.failPart
  try dsimp only
  repeat' (first
    | with_reducible exact Rg.refl _ _
    | exact (rfl : (_ : Nat) = _)
    | with_reducible refine State.removePart_rg ?_ ?_
    | with_reducible refine State.tryAck_rg ?_ ?_
    | with_reducible refine State.setCmd_rg ?_ ?_
    | split)

theorem State.grantLock_rg {msk : Nat} {b₀ : State} {s : State} {n : Nat} {c : HostCmd} {v : Vol} {vol : Nat} {loc : Nat} (h₀ : Rg msk b₀ s) (hm₀ : 96107167241834975113312584178489302142293605564759693569348252393796754650015620608367060023582093886030699752068168422229940576206304506079887215910222630688 ||| msk = msk) :
    Rg msk b₀ (State.grantLock s n c v vol loc) := by
  refine Rg.step h₀ ?_ hm₀
  clear h₀ hm₀
  unfold State.grantLock
  try dsimp only
  repeat' (first
    | with_reducible exact Rg.refl _ _
    | with_reducible assumption
    | exact (rfl : (_ : Nat) = _)
    | with_reducible refine State.wr64_rg ?_ ?_ ?_
    | with_reducible refine State.setCam_rg ?_ ?_
    | with_reducible refine State.putPart_rg ?_ ?_
    | with_reducible refine State.setQuotaUse_rg ?_ ?_
    | with_reducible refine State.highWater_rg ?_ ?_
    | with_reducible refine State.setCmd_rg ?_ ?_
    | with_reducible refine State.srcSend_rg ?_ ?_
    | with_reducible refine State.emit_rg ?_ ?_
    | with_reducible refine State.dmaRead_rg ?_ ?_
    | with_reducible refine in_CIST_CSEQ ?_
    | with_reducible refine in_CIST_CSEQ4 ?_
    | with_reducible refine in_ING_LOCKS_HWM ?_
    | with_reducible refine InSet.ite ?_ ?_
    | exact (rfl : (_ : Bool) = _)
    | dsimp only
    | with_reducible refine Rg.ite ?_ ?_
    | with_reducible refine Rg.ite₁ ?_ ?_
    | with_reducible refine RgS.ite ?_ ?_
    | with_reducible refine RgP.ite ?_ ?_
    | with_reducible exact RgS.none
    | with_reducible refine RgS.some ?_
    | with_reducible refine RgS.map ?_
    | with_reducible exact RgP.none
    | with_reducible refine RgP.some ?_
    | with_reducible refine Rg.elim ?_ ?_
    | with_reducible refine Rg.foldl ?_ _ _ ?_
    | with_reducible refine Rg.foldl₂ ?_ _ _ ?_
    | intro _ _ _ _ _ _
    | intro _ _ _ _ _
    | intro _ _ _ _
    | intro _ _ _
    | intro _ _
    | intro _
    | with_reducible refine Rg.pair (h := ?_) (e := by assumption)
    | with_reducible refine RgO.got (h := ?_) (e := by assumption)
    | with_reducible refine RgS.get (h := ?_) (e := by assumption)
    | with_reducible refine RgP.get (h := ?_) (e := by assumption)
    | split)

theorem execLqDeallocate_rg {msk : Nat} {b₀ : State} {n : Nat} {s : State} (h₀ : Rg msk b₀ s) (hm₀ : 4730340895479522492697318096560554315393757788492928275202360348935119983468121612013983077628451781347360 ||| msk = msk) :
    RgO msk b₀ (execLqDeallocate n s) := by
  refine RgO.step h₀ ?_ hm₀
  clear h₀ hm₀
  unfold execLqDeallocate
  try dsimp only
  repeat' (first
    | with_reducible exact Rg.refl _ _
    | exact (rfl : (_ : Nat) = _)
    | with_reducible refine State.ingest_rg ?_ ?_
    | with_reducible refine RgO.next ?_)

theorem execIngestTimeout_rg {msk : Nat} {b₀ : State} {n : Nat} {s : State} (h₀ : Rg msk b₀ s) (hm₀ : 143343663499379469475676305956380433800627810156366027727182657834885771947077095376664191799828716455968 ||| msk = msk) :
    RgO msk b₀ (execIngestTimeout n s) := by
  refine RgO.step h₀ ?_ hm₀
  clear h₀ hm₀
  unfold execIngestTimeout
  try dsimp only
  repeat' (first
    | with_reducible exact Rg.refl _ _
    | exact (rfl : (_ : Nat) = _)
    | with_reducible refine State.complete_rg ?_ ?_
    | with_reducible refine State.event_rg ?_ ?_
    | with_reducible refine State.count_rg ?_ ?_
    | with_reducible refine State.undo_rg ?_ ?_
    | with_reducible refine in_ING_BUSY_RETRY ?_
    | exact (rfl : (_ : Bool) = _)
    | with_reducible refine RgO.ite ?_ ?_
    | with_reducible refine RgO.next ?_
    | split)

theorem State.payPace_rg {msk : Nat} {b₀ : State} {s : State} {pool : Nat} {n : Nat} (h₀ : Rg msk b₀ s) (hm₀ : 0 ||| msk = msk) :
    Rg msk b₀ (State.payPace s pool n) := by
  refine Rg.step h₀ ?_ hm₀
  clear h₀ hm₀
  unfold State.payPace
  try dsimp only
  repeat' (first
    | with_reducible exact Rg.refl _ _
    | refine Rg.mk' ?_)

theorem execRangeLockGrant_rg {msk : Nat} {b₀ : State} {n : Nat} {loc : Nat} {miss : List Nat} {bad : List Nat} {s : State} (h₀ : Rg msk b₀ s) (hm₀ : 96107167241834975113312584178489302142293605564759693569348252393796754650015620608367060023582093886030867368767956204010123153068184455076413677592087957280 ||| msk = msk) :
    RgO msk b₀ (execRangeLockGrant n loc miss bad s) := by
  refine RgO.step h₀ ?_ hm₀
  clear h₀ hm₀
  unfold execRangeLockGrant
  try dsimp only
  repeat' (first
    | with_reducible exact Rg.refl _ _
    | with_reducible assumption
    | exact (rfl : (_ : Nat) = _)
    | with_reducible refine State.event_rg ?_ ?_
    | with_reducible refine State.inflight_rg ?_ ?_
    | with_reducible refine State.lockWait_rg ?_ ?_
    | with_reducible refine State.payPace_rg ?_ ?_
    | with_reducible refine State.grantLock_rg ?_ ?_
    | dsimp only
    | with_reducible refine Rg.ite ?_ ?_
    | with_reducible refine Rg.ite₁ ?_ ?_
    | with_reducible refine RgO.ite ?_ ?_
    | with_reducible refine RgS.ite ?_ ?_
    | with_reducible refine RgP.ite ?_ ?_
    | with_reducible refine RgO.next ?_
    | with_reducible exact RgS.none
    | with_reducible refine RgS.some ?_
    | with_reducible refine RgS.map ?_
    | with_reducible exact RgP.none
    | with_reducible refine RgP.some ?_
    | with_reducible refine Rg.elim ?_ ?_
    | with_reducible refine Rg.foldl ?_ _ _ ?_
    | with_reducible refine Rg.foldl₂ ?_ _ _ ?_
    | intro _ _ _ _ _ _
    | intro _ _ _ _ _
    | intro _ _ _ _
    | intro _ _ _
    | intro _ _
    | intro _
    | with_reducible refine Rg.pair (h := ?_) (e := by assumption)
    | with_reducible refine RgO.got (h := ?_) (e := by assumption)
    | with_reducible refine RgS.get (h := ?_) (e := by assumption)
    | with_reducible refine RgP.get (h := ?_) (e := by assumption)
    | split)

theorem execNvmeWrite_rg {msk : Nat} {b₀ : State} {n : Nat} {s : State} (h₀ : Rg msk b₀ s) (hm₀ : 4730340895479522492697318096560554315393757788492928275202360348935119983468121612013983077628451781347360 ||| msk = msk) :
    RgO msk b₀ (execNvmeWrite n s) := by
  refine RgO.step h₀ ?_ hm₀
  clear h₀ hm₀
  unfold execNvmeWrite
  try dsimp only
  repeat' (first
    | with_reducible exact Rg.refl _ _
    | exact (rfl : (_ : Nat) = _)
    | with_reducible refine State.ingest_rg ?_ ?_
    | with_reducible refine RgO.next ?_)

theorem execLqWrite_rg {msk : Nat} {b₀ : State} {n : Nat} {s : State} (h₀ : Rg msk b₀ s) (hm₀ : 4730340895479522492697318096560554315393757788492928275202360348935119983468121612013983077628451781347360 ||| msk = msk) :
    RgO msk b₀ (execLqWrite n s) := by
  refine RgO.step h₀ ?_ hm₀
  clear h₀ hm₀
  unfold execLqWrite
  try dsimp only
  repeat' (first
    | with_reducible exact Rg.refl _ _
    | exact (rfl : (_ : Nat) = _)
    | with_reducible refine State.ingest_rg ?_ ?_
    | with_reducible refine RgO.next ?_)

theorem execNvmeFlush_rg {msk : Nat} {b₀ : State} {n : Nat} {s : State} (h₀ : Rg msk b₀ s) (hm₀ : 0 ||| msk = msk) :
    RgO msk b₀ (execNvmeFlush n s) := by
  refine RgO.step h₀ ?_ hm₀
  clear h₀ hm₀
  unfold execNvmeFlush
  try dsimp only
  repeat' (first
    | with_reducible exact Rg.refl _ _
    | exact (rfl : (_ : Nat) = _)
    | with_reducible refine State.flushCmd_rg ?_ ?_
    | with_reducible refine RgO.next ?_)

end Sys2Proof.Machine
end

