-- ==== Sys2Proof/Laws/RgReduction.lean ====
section
/-! SUPPORT. Register frames of the operations of Machine.Reduction: the registers that each may write. -/

set_option maxRecDepth 20000
set_option Elab.async false
set_option linter.unusedTactic false
set_option linter.unreachableTactic false
set_option linter.unusedVariables false

namespace Sys2Proof.Machine

theorem State.setGroup_rg {msk : Nat} {b₀ : State} {s : State} {g : Nat} {f : Group → Group} (h₀ : Rg msk b₀ s) (hm₀ : 0 ||| msk = msk) :
    Rg msk b₀ (State.setGroup s g f) := by
  refine Rg.step h₀ ?_ hm₀
  clear h₀ hm₀
  unfold State.setGroup
  try dsimp only
  repeat' (first
    | with_reducible exact Rg.refl _ _
    | refine Rg.mk' ?_)

theorem State.recSend_rg {msk : Nat} {b₀ : State} {s : State} {g : Nat} {x : Group} {r : RepRec} (h₀ : Rg msk b₀ s) (hm₀ : 39402006196394479212279040100143613805079739270465446667948293404245721771498571740881950008738769139236355063152640 ||| msk = msk) :
    Rg msk b₀ (State.recSend s g x r) := by
  refine Rg.step h₀ ?_ hm₀
  clear h₀ hm₀
  unfold State.recSend
  try dsimp only
  repeat' (first
    | with_reducible exact Rg.refl _ _
    | with_reducible assumption
    | exact (rfl : (_ : Nat) = _)
    | with_reducible refine State.count_rg ?_ ?_
    | with_reducible refine State.emit_rg ?_ ?_
    | with_reducible refine State.streamSend_rg ?_ ?_
    | with_reducible refine State.setGroup_rg ?_ ?_
    | with_reducible refine in_RP_RECS_TX ?_
    | with_reducible refine InSet.ite ?_ ?_
    | exact (rfl : (_ : Bool) = _)
    | dsimp only
    | with_reducible refine Rg.ite ?_ ?_
    | with_reducible refine Rg.ite₁ ?_ ?_
    | with_reducible refine RgS.ite ?_ ?_
    | with_reducible refine RgP.ite ?_ ?_
    | with_reducible exact RgS.none
    | with_reducible refine RgS.some ?_
    | with_reducible refine RgS.map ?_
    | with_reducible exact RgP.none
    | with_reducible refine RgP.some ?_
    | with_reducible refine Rg.elim ?_ ?_
    | with_reducible refine Rg.foldl ?_ _ _ ?_
    | with_reducible refine Rg.foldl₂ ?_ _ _ ?_
    | intro _ _ _ _ _ _
    | intro _ _ _ _ _
    | intro _ _ _ _
    | intro _ _ _
    | intro _ _
    | intro _
    | with_reducible refine Rg.pair (h := ?_) (e := by assumption)
    | with_reducible refine RgO.got (h := ?_) (e := by assumption)
    | with_reducible refine RgS.get (h := ?_) (e := by assumption)
    | with_reducible refine RgP.get (h := ?_) (e := by assumption)
    | split)

theorem State.replSend_rg {msk : Nat} {b₀ : State} {s : State} {g : Nat} (h₀ : Rg msk b₀ s) (hm₀ : 39402006196394479212279040100143613805079739270465446667948293404245721771498571740881950008738769139236355063152640 ||| msk = msk) :
    Rg msk b₀ (State.replSend s g) := by
  refine Rg.step h₀ ?_ hm₀
  clear h₀ hm₀
  unfold State.replSend
  try dsimp only
  repeat' (first
    | with_reducible exact Rg.refl _ _
    | with_reducible assumption
    | exact (rfl : (_ : Nat) = _)
    | with_reducible refine State.recSend_rg ?_ ?_
    | dsimp only
    | with_reducible refine Rg.ite ?_ ?_
    | with_reducible refine Rg.ite₁ ?_ ?_
    | with_reducible refine RgS.ite ?_ ?_
    | with_reducible refine RgP.ite ?_ ?_
    | with_reducible exact RgS.none
    | with_reducible refine RgS.some ?_
    | with_reducible refine RgS.map ?_
    | with_reducible exact RgP.none
    | with_reducible refine RgP.some ?_
    | with_reducible refine Rg.elim ?_ ?_
    | with_reducible refine Rg.foldl ?_ _ _ ?_
    | with_reducible refine Rg.foldl₂ ?_ _ _ ?_
    | intro _ _ _ _ _ _
    | intro _ _ _ _ _
    | intro _ _ _ _
    | intro _ _ _
    | intro _ _
    | intro _
    | with_reducible refine Rg.pair (h := ?_) (e := by assumption)
    | with_reducible refine RgO.got (h := ?_) (e := by assumption)
    | with_reducible refine RgS.get (h := ?_) (e := by assumption)
    | with_reducible refine RgP.get (h := ?_) (e := by assumption)
    | split)

theorem State.replRecord_rg {msk : Nat} {b₀ : State} {s : State} {rseq : Nat} {p : Part} (h₀ : Rg msk b₀ s) (hm₀ : 39402006196394479212279040100143613805079739270465446667948293404245721771498571740881950008738769139236355063152640 ||| msk = msk) :
    Rg msk b₀ (State.replRecord s rseq p) := by
  refine Rg.step h₀ ?_ hm₀
  clear h₀ hm₀
  unfold State.replRecord
  try dsimp only
  repeat' (first
    | with_reducible exact Rg.refl _ _
    | exact (rfl : (_ : Nat) = _)
    | with_reducible refine State.setGroup_rg ?_ ?_
    | with_reducible refine State.replSend_rg ?_ ?_
    | with_reducible refine Rg.ite ?_ ?_
    | split)

theorem State.decompress_rg {msk : Nat} {b₀ : State} {s : State} {unit : Nat} {raw : Bool} {len : Nat} {body : List Byte} (h₀ : Rg msk b₀ s) (hm₀ : 96107167241834975113312584178489302142293605564759693426004588894417285174339314651986626222954283767327282437199894542367530777834652558046346316658728046368 ||| msk = msk) :
    Rg msk b₀ (State.decompress s unit raw len body).1 := by
  refine Rg.step h₀ ?_ hm₀
  clear h₀ hm₀
  unfold State.decompress
  try dsimp only
  repeat' (first
    | with_reducible exact Rg.refl _ _
    | with_reducible assumption
    | exact (rfl : (_ : Nat) = _)
    | with_reducible refine State.inject_rg ?_ ?_
    | with_reducible refine State.operate_rg ?_ ?_
    | with_reducible refine State.raise_rg ?_ ?_
    | with_reducible refine State.count_rg ?_ ?_
    | with_reducible refine State.useFree_rg ?_ ?_
    | with_reducible refine in_DC_DECODE_ERR ?_
    | with_reducible refine in_DC_GRAINS ?_
    | with_reducible refine InSet.ite ?_ ?_
    | exact (rfl : (_ : Bool) = _)
    | dsimp only
    | with_reducible refine Rg.ite ?_ ?_
    | with_reducible refine Rg.ite₁ ?_ ?_
    | with_reducible refine RgS.ite ?_ ?_
    | with_reducible refine RgP.ite ?_ ?_
    | with_reducible exact RgS.none
    | with_reducible refine RgS.some ?_
    | with_reducible refine RgS.map ?_
    | with_reducible exact RgP.none
    | with_reducible refine RgP.some ?_
    | with_reducible refine Rg.elim ?_ ?_
    | with_reducible refine Rg.foldl ?_ _ _ ?_
    | with_reducible refine Rg.foldl₂ ?_ _ _ ?_
    | intro _ _ _ _ _ _
    | intro _ _ _ _ _
    | intro _ _ _ _
    | intro _ _ _
    | intro _ _
    | intro _
    | with_reducible refine Rg.pair (h := ?_) (e := by assumption)
    | with_reducible refine RgO.got (h := ?_) (e := by assumption)
    | with_reducible refine RgS.get (h := ?_) (e := by assumption)
    | with_reducible refine RgP.get (h := ?_) (e := by assumption)
    | split)

theorem State.corruptOut_rg {msk : Nat} {b₀ : State} {s : State} {body : List Byte} (h₀ : Rg msk b₀ s) (hm₀ : 96107167241834975113312584178489302142293605564759693426004588894417285174339314651986626222954283729664672024879809959352794238588654061432213649874520968992 ||| msk = msk) :
    Rg msk b₀ (State.corruptOut s body).1 := by
  refine Rg.step h₀ ?_ hm₀
  clear h₀ hm₀
  unfold State.corruptOut
  try dsimp only
  repeat' (first
    | with_reducible exact Rg.refl _ _
    | with_reducible assumption
    | exact (rfl : (_ : Nat) = _)
    | with_reducible refine State.inject_rg ?_ ?_
    | with_reducible refine State.operate_rg ?_ ?_
    | with_reducible refine State.useFree_rg ?_ ?_
    | dsimp only
    | with_reducible refine Rg.ite ?_ ?_
    | with_reducible refine Rg.ite₁ ?_ ?_
    | with_reducible refine RgS.ite ?_ ?_
    | with_reducible refine RgP.ite ?_ ?_
    | with_reducible exact RgS.none
    | with_reducible refine RgS.some ?_
    | with_reducible refine RgS.map ?_
    | with_reducible exact RgP.none
    | with_reducible refine RgP.some ?_
    | with_reducible refine Rg.elim ?_ ?_
    | with_reducible refine Rg.foldl ?_ _ _ ?_
    | with_reducible refine Rg.foldl₂ ?_ _ _ ?_
    | intro _ _ _ _ _ _
    | intro _ _ _ _ _
    | intro _ _ _ _
    | intro _ _ _
    | intro _ _
    | intro _
    | with_reducible refine Rg.pair (h := ?_) (e := by assumption)
    | with_reducible refine RgO.got (h := ?_) (e := by assumption)
    | with_reducible refine RgS.get (h := ?_) (e := by assumption)
    | with_reducible refine RgP.get (h := ?_) (e := by assumption)
    | split)

theorem State.bucketInsert_rg {msk : Nat} {b₀ : State} {s : State} {i : Nat} {x : DdEntry} (h₀ : Rg msk b₀ s) (hm₀ : 3291009114642412084309938365114701009965471731267159726697218048 ||| msk = msk) :
    Rg msk b₀ (State.bucketInsert s i x) := by
  refine Rg.step h₀ ?_ hm₀
  clear h₀ hm₀
  unfold State.bucketInsert
  try dsimp only
  repeat' (first
    | with_reducible exact Rg.refl _ _
    | exact (rfl : (_ : Nat) = _)
    | with_reducible refine State.count_rg ?_ ?_
    | with_reducible refine State.setBucket_rg ?_ ?_
    | with_reducible refine in_DD_BUCKET_EVICT ?_
    | exact (rfl : (_ : Bool) = _)
    | with_reducible refine Rg.ite ?_ ?_
    | split)

theorem State.probe_rg {msk : Nat} {b₀ : State} {s : State} {pool : Nat} {cseq : Nat} {index : Nat} {g : Grain} (h₀ : Rg msk b₀ s) (hm₀ : 3445275166891275150761966725979452619807603218670307838886150144 ||| msk = msk) :
    Rg msk b₀ (State.probe s pool cseq index g).1 := by
  refine Rg.step h₀ ?_ hm₀
  clear h₀ hm₀
  unfold State.probe
  try dsimp only
  repeat' (first
    | with_reducible exact Rg.refl _ _
    | exact (rfl : (_ : Nat) = _)
    | with_reducible refine State.count_rg ?_ ?_
    | with_reducible refine State.setBucket_rg ?_ ?_
    | with_reducible refine State.bucketInsert_rg ?_ ?_
    | with_reducible refine in_DD_DRAM_HITS ?_
    | with_reducible refine in_DD_TWIN_HITS ?_
    | exact (rfl : (_ : Bool) = _)
    | with_reducible refine Rg.ite₁ ?_ ?_
    | split)

theorem State.storeRaw_rg {msk : Nat} {b₀ : State} {s : State} {data : List Byte} {g : Grain} (h₀ : Rg msk b₀ s) (hm₀ : 96107167241834975113312584178489302142293605564759693426004588894417285174339314651986626222954283730056990883341477507092531077539133212438610865153523126048 ||| msk = msk) :
    Rg msk b₀ (State.storeRaw s data g).1 := by
  refine Rg.step h₀ ?_ hm₀
  clear h₀ hm₀
  unfold State.storeRaw
  try dsimp only
  repeat' (first
    | with_reducible exact Rg.refl _ _
    | with_reducible assumption
    | exact (rfl : (_ : Nat) = _)
    | with_reducible refine State.corruptOut_rg ?_ ?_
    | with_reducible refine State.count_rg ?_ ?_
    | with_reducible refine in_CP_RAW ?_
    | with_reducible refine InSet.ite ?_ ?_
    | exact (rfl : (_ : Bool) = _)
    | dsimp only
    | with_reducible refine Rg.ite ?_ ?_
    | with_reducible refine Rg.ite₁ ?_ ?_
    | with_reducible refine RgS.ite ?_ ?_
    | with_reducible refine RgP.ite ?_ ?_
    | with_reducible exact RgS.none
    | with_reducible refine RgS.some ?_
    | with_reducible refine RgS.map ?_
    | with_reducible exact RgP.none
    | with_reducible refine RgP.some ?_
    | with_reducible refine Rg.elim ?_ ?_
    | with_reducible refine Rg.foldl ?_ _ _ ?_
    | with_reducible refine Rg.foldl₂ ?_ _ _ ?_
    | intro _ _ _ _ _ _
    | intro _ _ _ _ _
    | intro _ _ _ _
    | intro _ _ _
    | intro _ _
    | intro _
    | with_reducible refine Rg.pair (h := ?_) (e := by assumption)
    | with_reducible refine RgO.got (h := ?_) (e := by assumption)
    | with_reducible refine RgS.get (h := ?_) (e := by assumption)
    | with_reducible refine RgP.get (h := ?_) (e := by assumption)
    | split)

theorem State.compress_rg {msk : Nat} {b₀ : State} {s : State} {after : Nat} {data : List Byte} {g : Grain} (h₀ : Rg msk b₀ s) (hm₀ : 96107167241834975113312584178489302142293605564759693426004588894417285174339314651986626222954283732508983748726899680465886320979627906228593460647286607648 ||| msk = msk) :
    Rg msk b₀ (State.compress s after data g).1 := by
  refine Rg.step h₀ ?_ hm₀
  clear h₀ hm₀
  unfold State.compress
  try dsimp only
  repeat' (first
    | with_reducible exact Rg.refl _ _
    | with_reducible assumption
    | exact (rfl : (_ : Nat) = _)
    | with_reducible refine State.count_rg ?_ ?_
    | with_reducible refine State.storeRaw_rg ?_ ?_
    | with_reducible refine State.corruptOut_rg ?_ ?_
    | with_reducible refine in_CP_DOWNGRADE ?_
    | with_reducible refine in_CP_DYNAMIC ?_
    | with_reducible refine in_CP_IN_GRAINS ?_
    | with_reducible refine InSet.ite ?_ ?_
    | exact (rfl : (_ : Bool) = _)
    | dsimp only
    | with_reducible refine Rg.ite ?_ ?_
    | with_reducible refine Rg.ite₁ ?_ ?_
    | with_reducible refine RgS.ite ?_ ?_
    | with_reducible refine RgP.ite ?_ ?_
    | with_reducible exact RgS.none
    | with_reducible refine RgS.some ?_
    | with_reducible refine RgS.map ?_
    | with_reducible exact RgP.none
    | with_reducible refine RgP.some ?_
    | with_reducible refine Rg.elim ?_ ?_
    | with_reducible refine Rg.foldl ?_ _ _ ?_
    | with_reducible refine Rg.foldl₂ ?_ _ _ ?_
    | intro _ _ _ _ _ _
    | intro _ _ _ _ _
    | intro _ _ _ _
    | intro _ _ _
    | intro _ _
    | intro _
    | with_reducible refine Rg.pair (h := ?_) (e := by assumption)
    | with_reducible refine RgO.got (h := ?_) (e := by assumption)
    | with_reducible refine RgS.get (h := ?_) (e := by assumption)
    | with_reducible refine RgP.get (h := ?_) (e := by assumption)
    | split
    | refine Rg.mk' ?_)

theorem State.hotSearch_rg {msk : Nat} {b₀ : State} {s : State} {pool : Nat} {bad : List Nat} {g : Grain} (h₀ : Rg msk b₀ s) (hm₀ : 96107167241834975113312584178489302142293605564759693426004588894417285174339314651986626222954309440673547785424000837340154641396388981747072474151374622496 ||| msk = msk) :
    Rg msk b₀ (State.hotSearch s pool bad g).1 := by
  refine Rg.step h₀ ?_ hm₀
  clear h₀ hm₀
  unfold State.hotSearch
  try dsimp only
  repeat' (first
    | with_reducible exact Rg.refl _ _
    | with_reducible assumption
    | exact (rfl : (_ : Nat) = _)
    | with_reducible refine State.camFound_rg ?_ ?_
    | with_reducible refine State.countSearch_rg ?_ ?_
    | with_reducible refine State.count_rg ?_ ?_
    | with_reducible refine in_DD_HOT_HITS ?_
    | with_reducible refine InSet.ite ?_ ?_
    | exact (rfl : (_ : Bool) = _)
    | dsimp only
    | with_reducible refine Rg.ite ?_ ?_
    | with_reducible refine Rg.ite₁ ?_ ?_
    | with_reducible refine RgS.ite ?_ ?_
    | with_reducible refine RgP.ite ?_ ?_
    | with_reducible exact RgS.none
    | with_reducible refine RgS.some ?_
    | with_reducible refine RgS.map ?_
    | with_reducible exact RgP.none
    | with_reducible refine RgP.some ?_
    | with_reducible refine Rg.elim ?_ ?_
    | with_reducible refine Rg.foldl ?_ _ _ ?_
    | with_reducible refine Rg.foldl₂ ?_ _ _ ?_
    | intro _ _ _ _ _ _
    | intro _ _ _ _ _
    | intro _ _ _ _
    | intro _ _ _
    | intro _ _
    | intro _
    | with_reducible refine Rg.pair (h := ?_) (e := by assumption)
    | with_reducible refine RgO.got (h := ?_) (e := by assumption)
    | with_reducible refine RgS.get (h := ?_) (e := by assumption)
    | with_reducible refine RgP.get (h := ?_) (e := by assumption)
    | split
    | refine Rg.mk' ?_)

theorem State.reduce_rg {msk : Nat} {b₀ : State} {s : State} {pool : Nat} {format : Nat} {after : Nat} {bad : List Nat} {data : List Byte} {g : Grain} (h₀ : Rg msk b₀ s) (hm₀ : 96107167241834975113312584178489302142293605564759693426004588894417285174339314651986626222954309443527054482516285891603396805950264681645164719657241874208 ||| msk = msk) :
    Rg msk b₀ (State.reduce s pool format after bad data g).1 := by
  refine Rg.step h₀ ?_ hm₀
  clear h₀ hm₀
  unfold State.reduce
  try dsimp only
  repeat' (first
    | with_reducible exact Rg.refl _ _
    | with_reducible assumption
    | exact (rfl : (_ : Nat) = _)
    | with_reducible refine State.count_rg ?_ ?_
    | with_reducible refine State.compress_rg ?_ ?_
    | with_reducible refine State.hotSearch_rg ?_ ?_
    | with_reducible refine in_DG_GRAINS ?_
    | with_reducible refine in_DG_ZERO ?_
    | with_reducible refine InSet.ite ?_ ?_
    | exact (rfl : (_ : Bool) = _)
    | dsimp only
    | with_reducible refine Rg.ite ?_ ?_
    | with_reducible refine Rg.ite₁ ?_ ?_
    | with_reducible refine RgS.ite ?_ ?_
    | with_reducible refine RgP.ite ?_ ?_
    | with_reducible exact RgS.none
    | with_reducible refine RgS.some ?_
    | with_reducible refine RgS.map ?_
    | with_reducible exact RgP.none
    | with_reducible refine RgP.some ?_
    | with_reducible refine Rg.elim ?_ ?_
    | with_reducible refine Rg.foldl ?_ _ _ ?_
    | with_reducible refine Rg.foldl₂ ?_ _ _ ?_
    | intro _ _ _ _ _ _
    | intro _ _ _ _ _
    | intro _ _ _ _
    | intro _ _ _
    | intro _ _
    | intro _
    | with_reducible refine Rg.pair (h := ?_) (e := by assumption)
    | with_reducible refine RgO.got (h := ?_) (e := by assumption)
    | with_reducible refine RgS.get (h := ?_) (e := by assumption)
    | with_reducible refine RgP.get (h := ?_) (e := by assumption)
    | split
    | refine Rg.mk' ?_)

theorem State.checkDisagree_rg {msk : Nat} {b₀ : State} {s : State} {unit : Nat} {injected : Bool} (h₀ : Rg msk b₀ s) (hm₀ : 96107167241834975113312584178489302142293605564759693426004588894417285174339314651986626222954283729676931989206737070219661014805856534901163562851989784352 ||| msk = msk) :
    Rg msk b₀ (State.checkDisagree s unit injected) := by
  refine Rg.step h₀ ?_ hm₀
  clear h₀ hm₀
  unfold State.checkDisagree
  try dsimp only
  repeat' (first
    | with_reducible exact Rg.refl _ _
    | exact (rfl : (_ : Nat) = _)
    | with_reducible refine State.raise_rg ?_ ?_
    | with_reducible refine State.count_rg ?_ ?_
    | with_reducible refine in_DG_DISAGREE ?_
    | exact (rfl : (_ : Bool) = _))

theorem State.mirrorSend_rg {msk : Nat} {b₀ : State} {s : State} {cseq : Nat} (h₀ : Rg msk b₀ s) (hm₀ : 143343663499379469475676305956380433799785311823017570233599302461682679755530300504376159569382855411712 ||| msk = msk) :
    Rg msk b₀ (State.mirrorSend s cseq) := by
  refine Rg.step h₀ ?_ hm₀
  clear h₀ hm₀
  unfold State.mirrorSend
  try dsimp only
  repeat' (first
    | with_reducible exact Rg.refl _ _
    | with_reducible assumption
    | exact (rfl : (_ : Nat) = _)
    | with_reducible refine State.tlSend_rg ?_ ?_
    | dsimp only
    | with_reducible refine Rg.ite ?_ ?_
    | with_reducible refine Rg.ite₁ ?_ ?_
    | with_reducible refine RgS.ite ?_ ?_
    | with_reducible refine RgP.ite ?_ ?_
    | with_reducible exact RgS.none
    | with_reducible refine RgS.some ?_
    | with_reducible refine RgS.map ?_
    | with_reducible exact RgP.none
    | with_reducible refine RgP.some ?_
    | with_reducible refine Rg.elim ?_ ?_
    | with_reducible refine Rg.foldl ?_ _ _ ?_
    | with_reducible refine Rg.foldl₂ ?_ _ _ ?_
    | intro _ _ _ _ _ _
    | intro _ _ _ _ _
    | intro _ _ _ _
    | intro _ _ _
    | intro _ _
    | intro _
    | with_reducible refine Rg.pair (h := ?_) (e := by assumption)
    | with_reducible refine RgO.got (h := ?_) (e := by assumption)
    | with_reducible refine RgS.get (h := ?_) (e := by assumption)
    | with_reducible refine RgP.get (h := ?_) (e := by assumption)
    | split)

theorem State.bucketCrc_rg {msk : Nat} {b₀ : State} {s : State} {i : Nat} (h₀ : Rg msk b₀ s) (hm₀ : 96107167241834975113312584178489302142293605564759693426004588894417285174339314651986626222954283729664672024879809959352794238588654061432213649874520966944 ||| msk = msk) :
    Rg msk b₀ (State.bucketCrc s i) := by
  refine Rg.step h₀ ?_ hm₀
  clear h₀ hm₀
  unfold State.bucketCrc
  try dsimp only
  repeat' (first
    | with_reducible exact Rg.refl _ _
    | exact (rfl : (_ : Nat) = _)
    | with_reducible refine State.raise_rg ?_ ?_
    | with_reducible refine State.setBucket_rg ?_ ?_)

theorem State.ringStall_rg {msk : Nat} {b₀ : State} {s : State} {cseq : Nat} (h₀ : Rg msk b₀ s) (hm₀ : 182687704666362864775460604089535377456991567872 ||| msk = msk) :
    Rg msk b₀ (State.ringStall s cseq) := by
  refine Rg.step h₀ ?_ hm₀
  clear h₀ hm₀
  unfold State.ringStall
  try dsimp only
  repeat' (first
    | with_reducible exact Rg.refl _ _
    | with_reducible refine State.count_rg ?_ ?_
    | with_reducible refine in_CIST_RING_STALL ?_
    | exact (rfl : (_ : Bool) = _)
    | with_reducible refine Rg.ite ?_ ?_
    | refine Rg.mk' ?_)

theorem execEntrySeal_rg {msk : Nat} {b₀ : State} {cseq : Nat} {s : State} (h₀ : Rg msk b₀ s) (hm₀ : 39402006196537822875778419569619290111036119704266074478104855591402329357641801663059330945961069026228463508391968 ||| msk = msk) :
    RgO msk b₀ (execEntrySeal cseq s) := by
  refine RgO.step h₀ ?_ hm₀
  clear h₀ hm₀
  unfold execEntrySeal
  try dsimp only
  repeat' (first
    | with_reducible exact Rg.refl _ _
    | exact (rfl : (_ : Nat) = _)
    | with_reducible refine State.ringStall_rg ?_ ?_
    | with_reducible refine State.countBy_rg ?_ ?_
    | with_reducible refine State.setPart_rg ?_ ?_
    | with_reducible refine State.replRecord_rg ?_ ?_
    | with_reducible refine State.mirrorSend_rg ?_ ?_
    | with_reducible refine State.commitPart_rg ?_ ?_
    | with_reducible refine in_CP_OUT_GRANULES ?_
    | exact (rfl : (_ : Bool) = _)
    | with_reducible refine Rg.ite ?_ ?_
    | with_reducible refine RgO.ite ?_ ?_
    | with_reducible refine RgO.next ?_
    | split
    | refine Rg.mk' ?_)

theorem execProbeDeadline_rg {msk : Nat} {b₀ : State} {cseq : Nat} {index : Nat} {s : State} (h₀ : Rg msk b₀ s) (hm₀ : 205688069665150755269371147819668813122841983204197482918576128 ||| msk = msk) :
    RgO msk b₀ (execProbeDeadline cseq index s) := by
  refine RgO.step h₀ ?_ hm₀
  clear h₀ hm₀
  unfold execProbeDeadline
  try dsimp only
  repeat' (first
    | with_reducible exact Rg.refl _ _
    | exact (rfl : (_ : Nat) = _)
    | with_reducible refine State.putPart_rg ?_ ?_
    | with_reducible refine State.count_rg ?_ ?_
    | with_reducible refine in_DD_LATE ?_
    | exact (rfl : (_ : Bool) = _)
    | with_reducible refine Rg.ite ?_ ?_
    | with_reducible refine RgO.next ?_
    | split
    | refine Rg.mk' ?_)

theorem State.relayData_rg {msk : Nat} {b₀ : State} {s : State} {n : Nat} {data : List Byte} {pi : List (Nat × Nat × Nat)} (h₀ : Rg msk b₀ s) (hm₀ : 143343663499379469475676305956380433799785311823017570233599302461682679755530300504376159569382855411712 ||| msk = msk) :
    Rg msk b₀ (State.relayData s n data pi) := by
  refine Rg.step h₀ ?_ hm₀
  clear h₀ hm₀
  unfold State.relayData
  try dsimp only
  repeat' (first
    | with_reducible exact Rg.refl _ _
    | exact (rfl : (_ : Nat) = _)
    | with_reducible refine State.tlSend_rg ?_ ?_
    | with_reducible refine Rg.ite ?_ ?_
    | split)

theorem State.replMirror_rg {msk : Nat} {b₀ : State} {s : State} {cseq : Nat} {p : Part} (h₀ : Rg msk b₀ s) (hm₀ : 39402006196394479212279040100143613805079739270465446667948293404245721771498571740881950008738769139236355063152640 ||| msk = msk) :
    Rg msk b₀ (State.replMirror s cseq p) := by
  refine Rg.step h₀ ?_ hm₀
  clear h₀ hm₀
  unfold State.replMirror
  try dsimp only
  repeat' (first
    | with_reducible exact Rg.refl _ _
    | exact (rfl : (_ : Nat) = _)
    | with_reducible refine State.replRecord_rg ?_ ?_
    | with_reducible refine Rg.ite ?_ ?_
    | split)

theorem State.piFailed_rg {msk : Nat} {b₀ : State} {s : State} {n : Nat} {c : HostCmd} (h₀ : Rg msk b₀ s) (hm₀ : 174224571863520493293247799005065324265472 ||| msk = msk) :
    Rg msk b₀ (State.piFailed s n c) := by
  refine Rg.step h₀ ?_ hm₀
  clear h₀ hm₀
  unfold State.piFailed
  try dsimp only
  repeat' (first
    | with_reducible exact Rg.refl _ _
    | with_reducible assumption
    | exact (rfl : (_ : Nat) = _)
    | with_reducible refine State.count_rg ?_ ?_
    | with_reducible refine State.setCmd_rg ?_ ?_
    | with_reducible refine in_ING_PI_ERR ?_
    | with_reducible refine InSet.ite ?_ ?_
    | exact (rfl : (_ : Bool) = _)
    | dsimp only
    | with_reducible refine Rg.ite ?_ ?_
    | with_reducible refine Rg.ite₁ ?_ ?_
    | with_reducible refine RgS.ite ?_ ?_
    | with_reducible refine RgP.ite ?_ ?_
    | with_reducible exact RgS.none
    | with_reducible refine RgS.some ?_
    | with_reducible refine RgS.map ?_
    | with_reducible exact RgP.none
    | with_reducible refine RgP.some ?_
    | with_reducible refine Rg.elim ?_ ?_
    | with_reducible refine Rg.foldl ?_ _ _ ?_
    | with_reducible refine Rg.foldl₂ ?_ _ _ ?_
    | intro _ _ _ _ _ _
    | intro _ _ _ _ _
    | intro _ _ _ _
    | intro _ _ _
    | intro _ _
    | intro _
    | with_reducible refine Rg.pair (h := ?_) (e := by assumption)
    | with_reducible refine RgO.got (h := ?_) (e := by assumption)
    | with_reducible refine RgS.get (h := ?_) (e := by assumption)
    | with_reducible refine RgP.get (h := ?_) (e := by assumption)
    | split)

theorem State.takeGrain_rg {msk : Nat} {b₀ : State} {s : State} {c : HostCmd} {p : Part} {mask : Nat} {after : Nat} {bad : List Nat} {data : List Byte} {pi : List SectorPi} (h₀ : Rg msk b₀ s) (hm₀ : 96107167241834975113312584178489302142293605564759693426004588894417285174339314651986626222954309443527054482516285891603396805950264681645164719657241874208 ||| msk = msk) :
    Rg msk b₀ (State.takeGrain s c p mask after bad data pi).1 := by
  refine Rg.step h₀ ?_ hm₀
  clear h₀ hm₀
  unfold State.takeGrain
  try dsimp only
  repeat' (first
    | with_reducible exact Rg.refl _ _
    | exact (rfl : (_ : Nat) = _)
    | with_reducible refine State.reduce_rg ?_ ?_
    | with_reducible refine Rg.ite₁ ?_ ?_)

theorem execDataArrive_rg {msk : Nat} {b₀ : State} {cseq : Nat} {data : List Byte} {pi : List (Nat × Nat × Nat)} {after : Nat} {unit : Nat} {bad : Nat} {units : List Nat} {s : State} (h₀ : Rg msk b₀ s) (hm₀ : 96107167241834975113312584178489302142293605564759693569348252393796754650015620608367060023582119599905342174037277842749655806501951344922565074439060393760 ||| msk = msk) :
    RgO msk b₀ (execDataArrive cseq data pi after unit bad units s) := by
  refine RgO.step h₀ ?_ hm₀
  clear h₀ hm₀
  unfold execDataArrive
  try dsimp only
  repeat' (first
    | with_reducible exact Rg.refl _ _
    | with_reducible assumption
    | exact (rfl : (_ : Nat) = _)
    | with_reducible refine State.relayData_rg ?_ ?_
    | with_reducible refine State.failPart_rg ?_ ?_
    | with_reducible refine State.piFailed_rg ?_ ?_
    | with_reducible refine State.inject_rg ?_ ?_
    | with_reducible refine State.operate_rg ?_ ?_
    | with_reducible refine State.checkDisagree_rg ?_ ?_
    | with_reducible refine State.takeGrain_rg ?_ ?_
    | with_reducible refine State.putPart_rg ?_ ?_
    | dsimp only
    | with_reducible refine Rg.ite ?_ ?_
    | with_reducible refine Rg.ite₁ ?_ ?_
    | with_reducible refine RgO.ite ?_ ?_
    | with_reducible refine RgS.ite ?_ ?_
    | with_reducible refine RgP.ite ?_ ?_
    | with_reducible refine RgO.next ?_
    | with_reducible exact RgS.none
    | with_reducible refine RgS.some ?_
    | with_reducible refine RgS.map ?_
    | with_reducible exact RgP.none
    | with_reducible refine RgP.some ?_
    | with_reducible refine Rg.elim ?_ ?_
    | with_reducible refine Rg.foldl ?_ _ _ ?_
    | with_reducible refine Rg.foldl₂ ?_ _ _ ?_
    | intro _ _ _ _ _ _
    | intro _ _ _ _ _
    | intro _ _ _ _
    | intro _ _ _
    | intro _ _
    | intro _
    | with_reducible refine Rg.pair (h := ?_) (e := by assumption)
    | with_reducible refine RgO.got (h := ?_) (e := by assumption)
    | with_reducible refine RgS.get (h := ?_) (e := by assumption)
    | with_reducible refine RgP.get (h := ?_) (e := by assumption)
    | split)

theorem execProbeAnswer_rg {msk : Nat} {b₀ : State} {cseq : Nat} {index : Nat} {errs : List (Nat × Nat)} {s : State} (h₀ : Rg msk b₀ s) (hm₀ : 96107167241834975113312584178489302142293605564759693426004588894417285174339314651986626222957934692901228450785841297226593360021584506634088155196325693216 ||| msk = msk) :
    RgO msk b₀ (execProbeAnswer cseq index errs s) := by
  refine RgO.step h₀ ?_ hm₀
  clear h₀ hm₀
  unfold execProbeAnswer
  try dsimp only
  repeat' (first
    | with_reducible exact Rg.refl _ _
    | exact (rfl : (_ : Nat) = _)
    | with_reducible refine State.putPart_rg ?_ ?_
    | with_reducible refine State.count_rg ?_ ?_
    | with_reducible refine State.bucketCrc_rg ?_ ?_
    | with_reducible refine State.probe_rg ?_ ?_
    | with_reducible refine in_DD_LATE ?_
    | exact (rfl : (_ : Bool) = _)
    | with_reducible refine Rg.ite ?_ ?_
    | with_reducible refine RgO.ite ?_ ?_
    | with_reducible refine RgO.next ?_
    | split
    | refine Rg.mk' ?_)

end Sys2Proof.Machine
end

