-- ==== Sys2Proof/Laws/RgMirror.lean ====
section
/-! SUPPORT. Register frames of the operations of Machine.Mirror: the registers that each may write. -/

set_option maxRecDepth 20000
set_option Elab.async false
set_option linter.unusedTactic false
set_option linter.unreachableTactic false
set_option linter.unusedVariables false

namespace Sys2Proof.Machine

theorem State.setSpillReady_rg {msk : Nat} {b₀ : State} {s : State} {r : Bool} (h₀ : Rg msk b₀ s) (hm₀ : 2854495385411919762116571938898990272765493280 ||| msk = msk) :
    Rg msk b₀ (State.setSpillReady s r) := by
  refine Rg.step h₀ ?_ hm₀
  clear h₀ hm₀
  unfold State.setSpillReady
  try dsimp only
  repeat' (first
    | with_reducible exact Rg.refl _ _
    | exact (rfl : (_ : Nat) = _)
    | with_reducible refine State.putBit_rg ?_ ?_
    | with_reducible refine State.event_rg ?_ ?_
    | with_reducible refine in_CIST_STATUS ?_
    | exact (rfl : (_ : Bool) = _)
    | with_reducible refine Rg.ite ?_ ?_)

theorem State.setMirrorUp_rg {msk : Nat} {b₀ : State} {s : State} {up : Bool} (h₀ : Rg msk b₀ s) (hm₀ : 2854495385411919762116571938898990272765493280 ||| msk = msk) :
    Rg msk b₀ (State.setMirrorUp s up) := by
  refine Rg.step h₀ ?_ hm₀
  clear h₀ hm₀
  unfold State.setMirrorUp
  try dsimp only
  repeat' (first
    | with_reducible exact Rg.refl _ _
    | exact (rfl : (_ : Nat) = _)
    | with_reducible refine State.event_rg ?_ ?_
    | with_reducible refine State.putBit_rg ?_ ?_
    | with_reducible refine in_CIST_STATUS ?_
    | exact (rfl : (_ : Bool) = _)
    | with_reducible refine Rg.ite ?_ ?_)

theorem State.resyncComplete_rg {msk : Nat} {b₀ : State} {s : State} (h₀ : Rg msk b₀ s) (hm₀ : 37576681324381331646231689548629392438010920782533117931316655547369839787245654857535755913055289521276452896 ||| msk = msk) :
    Rg msk b₀ (State.resyncComplete s) := by
  refine Rg.step h₀ ?_ hm₀
  clear h₀ hm₀
  unfold State.resyncComplete
  try dsimp only
  repeat' (first
    | with_reducible exact Rg.refl _ _
    | exact (rfl : (_ : Nat) = _)
    | with_reducible refine State.event_rg ?_ ?_
    | with_reducible refine State.putBit_rg ?_ ?_
    | with_reducible refine State.setMirrorUp_rg ?_ ?_
    | with_reducible refine in_CIST_STATUS ?_
    | with_reducible refine in_TD_STATE ?_
    | exact (rfl : (_ : Bool) = _)
    | refine Rg.mk' ?_)

theorem execTlResyncDone_rg {msk : Nat} {b₀ : State} {_last : Nat} {s : State} (h₀ : Rg msk b₀ s) (hm₀ : 37576681324381331646231689548629392438010920782533117931316655544515344401833735095419183974156299248510959648 ||| msk = msk) :
    RgO msk b₀ (execTlResyncDone _last s) := by
  refine RgO.step h₀ ?_ hm₀
  clear h₀ hm₀
  unfold execTlResyncDone
  try dsimp only
  repeat' (first
    | with_reducible exact Rg.refl _ _
    | exact (rfl : (_ : Nat) = _)
    | with_reducible refine State.event_rg ?_ ?_
    | with_reducible refine State.putBit_rg ?_ ?_
    | with_reducible refine in_TD_STATE ?_
    | exact (rfl : (_ : Bool) = _)
    | with_reducible refine Rg.ite ?_ ?_
    | with_reducible refine RgO.next ?_)

theorem execTlMirrorRelease_rg {msk : Nat} {b₀ : State} {cseqs : List Nat} {s : State} (h₀ : Rg msk b₀ s) (hm₀ : 0 ||| msk = msk) :
    RgO msk b₀ (execTlMirrorRelease cseqs s) := by
  refine RgO.step h₀ ?_ hm₀
  clear h₀ hm₀
  unfold execTlMirrorRelease
  try dsimp only
  repeat' (first
    | with_reducible exact Rg.refl _ _
    | with_reducible assumption
    | exact (rfl : (_ : Nat) = _)
    | dsimp only
    | with_reducible refine Rg.ite ?_ ?_
    | with_reducible refine Rg.ite₁ ?_ ?_
    | with_reducible refine RgO.ite ?_ ?_
    | with_reducible refine RgS.ite ?_ ?_
    | with_reducible refine RgP.ite ?_ ?_
    | with_reducible refine RgO.next ?_
    | with_reducible exact RgS.none
    | with_reducible refine RgS.some ?_
    | with_reducible refine RgS.map ?_
    | with_reducible exact RgP.none
    | with_reducible refine RgP.some ?_
    | with_reducible refine Rg.elim ?_ ?_
    | with_reducible refine Rg.foldl ?_ _ _ ?_
    | with_reducible refine Rg.foldl₂ ?_ _ _ ?_
    | intro _ _ _ _ _ _
    | intro _ _ _ _ _
    | intro _ _ _ _
    | intro _ _ _
    | intro _ _
    | intro _
    | with_reducible refine Rg.pair (h := ?_) (e := by assumption)
    | with_reducible refine RgO.got (h := ?_) (e := by assumption)
    | with_reducible refine RgS.get (h := ?_) (e := by assumption)
    | with_reducible refine RgP.get (h := ?_) (e := by assumption)
    | split
    | refine Rg.mk' ?_)

theorem execTlMirrorNak_rg {msk : Nat} {b₀ : State} {cseq : Nat} {s : State} (h₀ : Rg msk b₀ s) (hm₀ : 143343663499379469475676305956380433799785311823017570233599302461682679755530300504376159569382855411712 ||| msk = msk) :
    RgO msk b₀ (execTlMirrorNak cseq s) := by
  refine RgO.step h₀ ?_ hm₀
  clear h₀ hm₀
  unfold execTlMirrorNak
  try dsimp only
  repeat' (first
    | with_reducible exact Rg.refl _ _
    | exact (rfl : (_ : Nat) = _)
    | with_reducible refine State.mirrorSend_rg ?_ ?_
    | with_reducible refine RgO.ite ?_ ?_
    | with_reducible refine RgO.next ?_
    | split)

theorem State.startResync_rg {msk : Nat} {b₀ : State} {s : State} (h₀ : Rg msk b₀ s) (hm₀ : 37576824668044831025701165224935348818444720567844940948886889146672301469925410387836260289214858904131864608 ||| msk = msk) :
    Rg msk b₀ (State.startResync s) := by
  refine Rg.step h₀ ?_ hm₀
  clear h₀ hm₀
  unfold State.startResync
  try dsimp only
  repeat' (first
    | with_reducible exact Rg.refl _ _
    | with_reducible assumption
    | exact (rfl : (_ : Nat) = _)
    | with_reducible refine State.tlSend_rg ?_ ?_
    | with_reducible refine State.putBit_rg ?_ ?_
    | with_reducible refine State.resyncComplete_rg ?_ ?_
    | with_reducible refine in_TD_STATE ?_
    | with_reducible refine InSet.ite ?_ ?_
    | exact (rfl : (_ : Bool) = _)
    | dsimp only
    | with_reducible refine Rg.ite ?_ ?_
    | with_reducible refine Rg.ite₁ ?_ ?_
    | with_reducible refine RgS.ite ?_ ?_
    | with_reducible refine RgP.ite ?_ ?_
    | with_reducible exact RgS.none
    | with_reducible refine RgS.some ?_
    | with_reducible refine RgS.map ?_
    | with_reducible exact RgP.none
    | with_reducible refine RgP.some ?_
    | with_reducible refine Rg.elim ?_ ?_
    | with_reducible refine Rg.foldl ?_ _ _ ?_
    | with_reducible refine Rg.foldl₂ ?_ _ _ ?_
    | intro _ _ _ _ _ _
    | intro _ _ _ _ _
    | intro _ _ _ _
    | intro _ _ _
    | intro _ _
    | intro _
    | with_reducible refine Rg.pair (h := ?_) (e := by assumption)
    | with_reducible refine RgO.got (h := ?_) (e := by assumption)
    | with_reducible refine RgS.get (h := ?_) (e := by assumption)
    | with_reducible refine RgP.get (h := ?_) (e := by assumption)
    | split
    | refine Rg.mk' ?_)

theorem State.mirrorUpAgain_rg {msk : Nat} {b₀ : State} {s : State} (h₀ : Rg msk b₀ s) (hm₀ : 2854495385411919762116571938898990272765493280 ||| msk = msk) :
    Rg msk b₀ (State.mirrorUpAgain s) := by
  refine Rg.step h₀ ?_ hm₀
  clear h₀ hm₀
  unfold State.mirrorUpAgain
  try dsimp only
  repeat' (first
    | with_reducible exact Rg.refl _ _
    | exact (rfl : (_ : Nat) = _)
    | with_reducible refine State.setMirrorUp_rg ?_ ?_
    | with_reducible refine Rg.ite ?_ ?_)

theorem State.resyncAck_rg {msk : Nat} {b₀ : State} {s : State} {cseq : Nat} (h₀ : Rg msk b₀ s) (hm₀ : 37576681324381331646231689548629392438010920782533117931316655547369839787245654857535755913055289521276452896 ||| msk = msk) :
    Rg msk b₀ (State.resyncAck s cseq) := by
  refine Rg.step h₀ ?_ hm₀
  clear h₀ hm₀
  unfold State.resyncAck
  try dsimp only
  repeat' (first
    | with_reducible exact Rg.refl _ _
    | exact (rfl : (_ : Nat) = _)
    | with_reducible refine State.resyncComplete_rg ?_ ?_
    | with_reducible refine Rg.ite ?_ ?_
    | split
    | refine Rg.mk' ?_)

theorem State.stagedAck_rg {msk : Nat} {b₀ : State} {s : State} {cseq : Nat} (h₀ : Rg msk b₀ s) (hm₀ : 0 ||| msk = msk) :
    Rg msk b₀ (State.stagedAck s cseq) := by
  refine Rg.step h₀ ?_ hm₀
  clear h₀ hm₀
  unfold State.stagedAck
  try dsimp only
  repeat' (first
    | with_reducible exact Rg.refl _ _
    | with_reducible assumption
    | exact (rfl : (_ : Nat) = _)
    | with_reducible refine State.setGroup_rg ?_ ?_
    | with_reducible refine State.replReply_rg ?_ ?_
    | dsimp only
    | with_reducible refine Rg.ite ?_ ?_
    | with_reducible refine Rg.ite₁ ?_ ?_
    | with_reducible refine RgS.ite ?_ ?_
    | with_reducible refine RgP.ite ?_ ?_
    | with_reducible exact RgS.none
    | with_reducible refine RgS.some ?_
    | with_reducible refine RgS.map ?_
    | with_reducible exact RgP.none
    | with_reducible refine RgP.some ?_
    | with_reducible refine Rg.elim ?_ ?_
    | with_reducible refine Rg.foldl ?_ _ _ ?_
    | with_reducible refine Rg.foldl₂ ?_ _ _ ?_
    | intro _ _ _ _ _ _
    | intro _ _ _ _ _
    | intro _ _ _ _
    | intro _ _ _
    | intro _ _
    | intro _
    | with_reducible refine Rg.pair (h := ?_) (e := by assumption)
    | with_reducible refine RgO.got (h := ?_) (e := by assumption)
    | with_reducible refine RgS.get (h := ?_) (e := by assumption)
    | with_reducible refine RgP.get (h := ?_) (e := by assumption)
    | split)

theorem execTlMirrorAck_rg {msk : Nat} {b₀ : State} {cseq : Nat} {s : State} (h₀ : Rg msk b₀ s) (hm₀ : 37576824668044831025701165224935348818444721410343274297344382741434505842066015671526652473706726260301891616 ||| msk = msk) :
    RgO msk b₀ (execTlMirrorAck cseq s) := by
  refine RgO.step h₀ ?_ hm₀
  clear h₀ hm₀
  unfold execTlMirrorAck
  try dsimp only
  repeat' (first
    | with_reducible exact Rg.refl _ _
    | with_reducible assumption
    | exact (rfl : (_ : Nat) = _)
    | with_reducible refine State.mirrorUpAgain_rg ?_ ?_
    | with_reducible refine State.resyncAck_rg ?_ ?_
    | with_reducible refine State.stagedAck_rg ?_ ?_
    | with_reducible refine State.commitPart_rg ?_ ?_
    | dsimp only
    | with_reducible refine Rg.ite ?_ ?_
    | with_reducible refine Rg.ite₁ ?_ ?_
    | with_reducible refine RgO.ite ?_ ?_
    | with_reducible refine RgS.ite ?_ ?_
    | with_reducible refine RgP.ite ?_ ?_
    | with_reducible refine RgO.next ?_
    | with_reducible exact RgS.none
    | with_reducible refine RgS.some ?_
    | with_reducible refine RgS.map ?_
    | with_reducible exact RgP.none
    | with_reducible refine RgP.some ?_
    | with_reducible refine Rg.elim ?_ ?_
    | with_reducible refine Rg.foldl ?_ _ _ ?_
    | with_reducible refine Rg.foldl₂ ?_ _ _ ?_
    | intro _ _ _ _ _ _
    | intro _ _ _ _ _
    | intro _ _ _ _
    | intro _ _ _
    | intro _ _
    | intro _
    | with_reducible refine Rg.pair (h := ?_) (e := by assumption)
    | with_reducible refine RgO.got (h := ?_) (e := by assumption)
    | with_reducible refine RgS.get (h := ?_) (e := by assumption)
    | with_reducible refine RgP.get (h := ?_) (e := by assumption)
    | split)

theorem execMirrorTimeout_rg {msk : Nat} {b₀ : State} {cseq : Nat} {s : State} (h₀ : Rg msk b₀ s) (hm₀ : 96107167241834975113312584178489302142293605564759693569348252393796754650015620608367060022739595552682242258481966916420885913881071137747272209530141871904 ||| msk = msk) :
    RgO msk b₀ (execMirrorTimeout cseq s) := by
  refine RgO.step h₀ ?_ hm₀
  clear h₀ hm₀
  unfold execMirrorTimeout
  try dsimp only
  repeat' (first
    | with_reducible exact Rg.refl _ _
    | exact (rfl : (_ : Nat) = _)
    | with_reducible refine State.mirrorSend_rg ?_ ?_
    | with_reducible refine State.putPart_rg ?_ ?_
    | with_reducible refine State.raise_rg ?_ ?_
    | with_reducible refine State.setMirrorUp_rg ?_ ?_
    | with_reducible refine RgO.ite ?_ ?_
    | with_reducible refine RgO.next ?_
    | split)

theorem State.mirrorTake_rg {msk : Nat} {b₀ : State} {s : State} {off : Nat} {image : List Byte} (h₀ : Rg msk b₀ s) (hm₀ : 143343663499379469475676305956380433799785311823017570233599302461682679755530300504376159569382855411712 ||| msk = msk) :
    Rg msk b₀ (State.mirrorTake s off image) := by
  refine Rg.step h₀ ?_ hm₀
  clear h₀ hm₀
  unfold State.mirrorTake
  try dsimp only
  repeat' (first
    | with_reducible exact Rg.refl _ _
    | with_reducible assumption
    | exact (rfl : (_ : Nat) = _)
    | with_reducible refine State.tlSend_rg ?_ ?_
    | dsimp only
    | with_reducible refine Rg.ite ?_ ?_
    | with_reducible refine Rg.ite₁ ?_ ?_
    | with_reducible refine RgS.ite ?_ ?_
    | with_reducible refine RgP.ite ?_ ?_
    | with_reducible exact RgS.none
    | with_reducible refine RgS.some ?_
    | with_reducible refine RgS.map ?_
    | with_reducible exact RgP.none
    | with_reducible refine RgP.some ?_
    | with_reducible refine Rg.elim ?_ ?_
    | with_reducible refine Rg.foldl ?_ _ _ ?_
    | with_reducible refine Rg.foldl₂ ?_ _ _ ?_
    | intro _ _ _ _ _ _
    | intro _ _ _ _ _
    | intro _ _ _ _
    | intro _ _ _
    | intro _ _
    | intro _
    | with_reducible refine Rg.pair (h := ?_) (e := by assumption)
    | with_reducible refine RgO.got (h := ?_) (e := by assumption)
    | with_reducible refine RgS.get (h := ?_) (e := by assumption)
    | with_reducible refine RgP.get (h := ?_) (e := by assumption)
    | split
    | refine Rg.mk' ?_)

theorem execTlMirrorWrite_rg {msk : Nat} {b₀ : State} {off : Nat} {image : List Byte} {s : State} (h₀ : Rg msk b₀ s) (hm₀ : 39402006196537822875778419569619290111036119704265231979771310974479321073960254420637480309243145298805737918564352 ||| msk = msk) :
    RgO msk b₀ (execTlMirrorWrite off image s) := by
  refine RgO.step h₀ ?_ hm₀
  clear h₀ hm₀
  unfold execTlMirrorWrite
  try dsimp only
  repeat' (first
    | with_reducible exact Rg.refl _ _
    | with_reducible assumption
    | exact (rfl : (_ : Nat) = _)
    | with_reducible refine State.mirrorTake_rg ?_ ?_
    | with_reducible refine State.replMirror_rg ?_ ?_
    | dsimp only
    | with_reducible refine Rg.ite ?_ ?_
    | with_reducible refine Rg.ite₁ ?_ ?_
    | with_reducible refine RgO.ite ?_ ?_
    | with_reducible refine RgS.ite ?_ ?_
    | with_reducible refine RgP.ite ?_ ?_
    | with_reducible refine RgO.next ?_
    | with_reducible exact RgS.none
    | with_reducible refine RgS.some ?_
    | with_reducible refine RgS.map ?_
    | with_reducible exact RgP.none
    | with_reducible refine RgP.some ?_
    | with_reducible refine Rg.elim ?_ ?_
    | with_reducible refine Rg.foldl ?_ _ _ ?_
    | with_reducible refine Rg.foldl₂ ?_ _ _ ?_
    | intro _ _ _ _ _ _
    | intro _ _ _ _ _
    | intro _ _ _ _
    | intro _ _ _
    | intro _ _
    | intro _
    | with_reducible refine Rg.pair (h := ?_) (e := by assumption)
    | with_reducible refine RgO.got (h := ?_) (e := by assumption)
    | with_reducible refine RgS.get (h := ?_) (e := by assumption)
    | with_reducible refine RgP.get (h := ?_) (e := by assumption)
    | split)

theorem execTlResyncData_rg {msk : Nat} {b₀ : State} {off : Nat} {image : List Byte} {s : State} (h₀ : Rg msk b₀ s) (hm₀ : 143343663499379469475676305956380433799785311823017570233599302461682679755530300504376159569382855411712 ||| msk = msk) :
    RgO msk b₀ (execTlResyncData off image s) := by
  refine RgO.step h₀ ?_ hm₀
  clear h₀ hm₀
  unfold execTlResyncData
  try dsimp only
  repeat' (first
    | with_reducible exact Rg.refl _ _
    | with_reducible assumption
    | exact (rfl : (_ : Nat) = _)
    | with_reducible refine State.mirrorTake_rg ?_ ?_
    | dsimp only
    | with_reducible refine Rg.ite ?_ ?_
    | with_reducible refine Rg.ite₁ ?_ ?_
    | with_reducible refine RgO.ite ?_ ?_
    | with_reducible refine RgS.ite ?_ ?_
    | with_reducible refine RgP.ite ?_ ?_
    | with_reducible refine RgO.next ?_
    | with_reducible exact RgS.none
    | with_reducible refine RgS.some ?_
    | with_reducible refine RgS.map ?_
    | with_reducible exact RgP.none
    | with_reducible refine RgP.some ?_
    | with_reducible refine Rg.elim ?_ ?_
    | with_reducible refine Rg.foldl ?_ _ _ ?_
    | with_reducible refine Rg.foldl₂ ?_ _ _ ?_
    | intro _ _ _ _ _ _
    | intro _ _ _ _ _
    | intro _ _ _ _
    | intro _ _ _
    | intro _ _
    | intro _
    | with_reducible refine Rg.pair (h := ?_) (e := by assumption)
    | with_reducible refine RgO.got (h := ?_) (e := by assumption)
    | with_reducible refine RgS.get (h := ?_) (e := by assumption)
    | with_reducible refine RgP.get (h := ?_) (e := by assumption)
    | split)

end Sys2Proof.Machine
end

