-- ==== Sys2Proof/Laws/RgStripes.lean ====
section
/-! SUPPORT. Register frames of the operations of Machine.Stripes: the registers that each may write. -/

set_option maxRecDepth 20000
set_option Elab.async false
set_option linter.unusedTactic false
set_option linter.unreachableTactic false
set_option linter.unusedVariables false

namespace Sys2Proof.Machine

theorem State.parityInject_rg {msk : Nat} {b₀ : State} {s : State} (h₀ : Rg msk b₀ s) (hm₀ : 96107167241834975113312584178489302142293605564759693426004588894417285174339314651986626222954283729664672024879809959352794238588654061432213649874520968992 ||| msk = msk) :
    Rg msk b₀ (State.parityInject s).1 := by
  refine Rg.step h₀ ?_ hm₀
  clear h₀ hm₀
  unfold State.parityInject
  try dsimp only
  repeat' (first
    | with_reducible exact Rg.refl _ _
    | with_reducible assumption
    | exact (rfl : (_ : Nat) = _)
    | with_reducible refine State.inject_rg ?_ ?_
    | with_reducible refine State.operate_rg ?_ ?_
    | with_reducible refine State.useFree_rg ?_ ?_
    | dsimp only
    | with_reducible refine Rg.ite ?_ ?_
    | with_reducible refine Rg.ite₁ ?_ ?_
    | with_reducible refine RgS.ite ?_ ?_
    | with_reducible refine RgP.ite ?_ ?_
    | with_reducible exact RgS.none
    | with_reducible refine RgS.some ?_
    | with_reducible refine RgS.map ?_
    | with_reducible exact RgP.none
    | with_reducible refine RgP.some ?_
    | with_reducible refine Rg.elim ?_ ?_
    | with_reducible refine Rg.foldl ?_ _ _ ?_
    | with_reducible refine Rg.foldl₂ ?_ _ _ ?_
    | intro _ _ _ _ _ _
    | intro _ _ _ _ _
    | intro _ _ _ _
    | intro _ _ _
    | intro _ _
    | intro _
    | with_reducible refine Rg.pair (h := ?_) (e := by assumption)
    | with_reducible refine RgO.got (h := ?_) (e := by assumption)
    | with_reducible refine RgS.get (h := ?_) (e := by assumption)
    | with_reducible refine RgP.get (h := ?_) (e := by assumption)
    | split)

theorem State.stripeRecord_rg {msk : Nat} {b₀ : State} {s : State} {kind : Nat} {x : Stripe} {g : Seg} {mask : Nat} (h₀ : Rg msk b₀ s) (hm₀ : 0 ||| msk = msk) :
    Rg msk b₀ (State.stripeRecord s kind x g mask) := by
  refine Rg.step h₀ ?_ hm₀
  clear h₀ hm₀
  unfold State.stripeRecord
  try dsimp only
  repeat' (first
    | with_reducible exact Rg.refl _ _
    | refine Rg.mk' ?_)

theorem State.setStripe_rg {msk : Nat} {b₀ : State} {s : State} {i : Nat} {x : Stripe} (h₀ : Rg msk b₀ s) (hm₀ : 0 ||| msk = msk) :
    Rg msk b₀ (State.setStripe s i x) := by
  refine Rg.step h₀ ?_ hm₀
  clear h₀ hm₀
  unfold State.setStripe
  try dsimp only
  repeat' (first
    | with_reducible exact Rg.refl _ _
    | refine Rg.mk' ?_)

theorem State.issueStripe_rg {msk : Nat} {b₀ : State} {s : State} {i : Nat} (h₀ : Rg msk b₀ s) (hm₀ : 96107167241834975113312584178489302142293605564759693426004588894417285174339314651986736650895832378685270980973606391760033456332208787617096250262101757728 ||| msk = msk) :
    Rg msk b₀ (State.issueStripe s i) := by
  refine Rg.step h₀ ?_ hm₀
  clear h₀ hm₀
  unfold State.issueStripe
  try dsimp only
  repeat' (first
    | with_reducible exact Rg.refl _ _
    | with_reducible assumption
    | exact (rfl : (_ : Nat) = _)
    | with_reducible refine State.parityInject_rg ?_ ?_
    | with_reducible refine State.stripeRecord_rg ?_ ?_
    | with_reducible refine State.setStripe_rg ?_ ?_
    | with_reducible refine State.sendMod_rg ?_ ?_
    | dsimp only
    | with_reducible refine Rg.ite ?_ ?_
    | with_reducible refine Rg.ite₁ ?_ ?_
    | with_reducible refine RgS.ite ?_ ?_
    | with_reducible refine RgP.ite ?_ ?_
    | with_reducible exact RgS.none
    | with_reducible refine RgS.some ?_
    | with_reducible refine RgS.map ?_
    | with_reducible exact RgP.none
    | with_reducible refine RgP.some ?_
    | with_reducible refine Rg.elim ?_ ?_
    | with_reducible refine Rg.foldl ?_ _ _ ?_
    | with_reducible refine Rg.foldl₂ ?_ _ _ ?_
    | intro _ _ _ _ _ _
    | intro _ _ _ _ _
    | intro _ _ _ _
    | intro _ _ _
    | intro _ _
    | intro _
    | with_reducible refine Rg.pair (h := ?_) (e := by assumption)
    | with_reducible refine RgO.got (h := ?_) (e := by assumption)
    | with_reducible refine RgS.get (h := ?_) (e := by assumption)
    | with_reducible refine RgP.get (h := ?_) (e := by assumption)
    | split)

theorem State.closeStripe_rg {msk : Nat} {b₀ : State} {s : State} {i : Nat} (h₀ : Rg msk b₀ s) (hm₀ : 96107167241834975113312584178489302142293605564759693426004588894417285174339314651986736650895832378685270980973606391760033456332208787617096250262101757728 ||| msk = msk) :
    Rg msk b₀ (State.closeStripe s i) := by
  refine Rg.step h₀ ?_ hm₀
  clear h₀ hm₀
  unfold State.closeStripe
  try dsimp only
  repeat' (first
    | with_reducible exact Rg.refl _ _
    | with_reducible assumption
    | exact (rfl : (_ : Nat) = _)
    | with_reducible refine State.setSeg_rg ?_ ?_
    | with_reducible refine State.issueStripe_rg ?_ ?_
    | with_reducible refine State.setStripe_rg ?_ ?_
    | dsimp only
    | with_reducible refine Rg.ite ?_ ?_
    | with_reducible refine Rg.ite₁ ?_ ?_
    | with_reducible refine RgS.ite ?_ ?_
    | with_reducible refine RgP.ite ?_ ?_
    | with_reducible exact RgS.none
    | with_reducible refine RgS.some ?_
    | with_reducible refine RgS.map ?_
    | with_reducible exact RgP.none
    | with_reducible refine RgP.some ?_
    | with_reducible refine Rg.elim ?_ ?_
    | with_reducible refine Rg.foldl ?_ _ _ ?_
    | with_reducible refine Rg.foldl₂ ?_ _ _ ?_
    | intro _ _ _ _ _ _
    | intro _ _ _ _ _
    | intro _ _ _ _
    | intro _ _ _
    | intro _ _
    | intro _
    | with_reducible refine Rg.pair (h := ?_) (e := by assumption)
    | with_reducible refine RgO.got (h := ?_) (e := by assumption)
    | with_reducible refine RgS.get (h := ?_) (e := by assumption)
    | with_reducible refine RgP.get (h := ?_) (e := by assumption)
    | split)

theorem State.closeSegment_rg {msk : Nat} {b₀ : State} {s : State} {i : Nat} (h₀ : Rg msk b₀ s) (hm₀ : 0 ||| msk = msk) :
    Rg msk b₀ (State.closeSegment s i) := by
  refine Rg.step h₀ ?_ hm₀
  clear h₀ hm₀
  unfold State.closeSegment
  try dsimp only
  repeat' (first
    | with_reducible exact Rg.refl _ _
    | exact (rfl : (_ : Nat) = _)
    | with_reducible refine State.setSeg_rg ?_ ?_
    | with_reducible refine State.addTxn_rg ?_ ?_
    | with_reducible refine Rg.ite ?_ ?_
    | split)

theorem State.beginStripe_rg {msk : Nat} {b₀ : State} {s : State} {seg : Nat} (h₀ : Rg msk b₀ s) (hm₀ : 0 ||| msk = msk) :
    Rg msk b₀ (State.beginStripe s seg) := by
  refine Rg.step h₀ ?_ hm₀
  clear h₀ hm₀
  unfold State.beginStripe
  try dsimp only
  repeat' (first
    | with_reducible exact Rg.refl _ _
    | exact (rfl : (_ : Nat) = _)
    | with_reducible refine State.setSeg_rg ?_ ?_
    | with_reducible refine State.setStripe_rg ?_ ?_
    | split
    | refine Rg.mk' ?_)

theorem State.openSegment_rg {msk : Nat} {b₀ : State} {s : State} {pool : Nat} {kind : Nat} {places : List Place} (h₀ : Rg msk b₀ s) (hm₀ : 0 ||| msk = msk) :
    Rg msk b₀ (State.openSegment s pool kind places).1 := by
  refine Rg.step h₀ ?_ hm₀
  clear h₀ hm₀
  unfold State.openSegment
  try dsimp only
  repeat' (first
    | with_reducible exact Rg.refl _ _
    | exact (rfl : (_ : Nat) = _)
    | with_reducible refine State.setPool_rg ?_ ?_
    | with_reducible refine State.addTxn_rg ?_ ?_
    | with_reducible refine Rg.ite₁ ?_ ?_
    | split
    | refine Rg.mk' ?_)

theorem State.roomFor_rg {msk : Nat} {b₀ : State} {s : State} {pool : Nat} {kind : Nat} {len : Nat} {poison : Bool} {places : List (List Place)} (h₀ : Rg msk b₀ s) (hm₀ : 96107167241834975113312584178489302142293605564759693426004588894417285174339314651986736650895832378685270980973606391760033456332208787617096250262101757728 ||| msk = msk) :
    RgP msk b₀ (State.roomFor s pool kind len poison places) := by
  refine RgP.step h₀ ?_ hm₀
  clear h₀ hm₀
  unfold State.roomFor
  try dsimp only
  repeat' (first
    | with_reducible exact Rg.refl _ _
    | exact (rfl : (_ : Nat) = _)
    | with_reducible refine State.closeStripe_rg ?_ ?_
    | with_reducible refine State.closeSegment_rg ?_ ?_
    | with_reducible refine State.beginStripe_rg ?_ ?_
    | with_reducible refine State.openSegment_rg ?_ ?_
    | with_reducible refine Rg.ite ?_ ?_
    | with_reducible refine RgP.ite ?_ ?_
    | with_reducible exact RgP.none
    | with_reducible refine RgP.some ?_
    | with_reducible refine Rg.pair (h := ?_) (e := by assumption)
    | split)

theorem State.pack_rg {msk : Nat} {b₀ : State} {s : State} {pool : Nat} {kind : Nat} {g : Stored} {old : Nat} {fua : Bool} {places : List (List Place)} (h₀ : Rg msk b₀ s) (hm₀ : 96107167241834975113312584178489302142293605564759693426004588894417285174339314651986736650895832378685270980973606391760033456332208787617096250262101757728 ||| msk = msk) :
    RgP msk b₀ (State.pack s pool kind g old fua places) := by
  refine RgP.step h₀ ?_ hm₀
  clear h₀ hm₀
  unfold State.pack
  try dsimp only
  repeat' (first
    | with_reducible exact Rg.refl _ _
    | exact (rfl : (_ : Nat) = _)
    | with_reducible refine State.roomFor_rg ?_ ?_
    | with_reducible refine State.setStripe_rg ?_ ?_
    | with_reducible exact RgP.none
    | with_reducible refine RgP.some ?_
    | with_reducible refine RgP.get (h := ?_) (e := by assumption)
    | split)

theorem State.setDie_rg {msk : Nat} {b₀ : State} {s : State} {m : Nat} {d : Nat} {f : Die → Die} (h₀ : Rg msk b₀ s) (hm₀ : 0 ||| msk = msk) :
    Rg msk b₀ (State.setDie s m d f) := by
  refine Rg.step h₀ ?_ hm₀
  clear h₀ hm₀
  unfold State.setDie
  try dsimp only
  repeat' (first
    | with_reducible exact Rg.refl _ _
    | refine Rg.mk' ?_)

theorem State.setBg_rg {msk : Nat} {b₀ : State} {s : State} {m : Nat} {die : Nat} {bgrp : Nat} {f : BlockGroup → BlockGroup} (h₀ : Rg msk b₀ s) (hm₀ : 0 ||| msk = msk) :
    Rg msk b₀ (State.setBg s m die bgrp f) := by
  refine Rg.step h₀ ?_ hm₀
  clear h₀ hm₀
  unfold State.setBg
  try dsimp only
  repeat' (first
    | with_reducible exact Rg.refl _ _
    | refine Rg.mk' ?_)

theorem State.issueSegment_rg {msk : Nat} {b₀ : State} {s : State} {seg : Nat} (h₀ : Rg msk b₀ s) (hm₀ : 96107167241834975113312584178489302142293605564759693426004588894417285174339314651986736650895832378685270980973606391760033456332208787617096250262101757728 ||| msk = msk) :
    Rg msk b₀ (State.issueSegment s seg) := by
  refine Rg.step h₀ ?_ hm₀
  clear h₀ hm₀
  unfold State.issueSegment
  try dsimp only
  repeat' (first
    | with_reducible exact Rg.refl _ _
    | with_reducible assumption
    | exact (rfl : (_ : Nat) = _)
    | with_reducible refine State.issueStripe_rg ?_ ?_
    | with_reducible refine Rg.foldl ?_ _ _ ?_
    | intro _ _ _)

end Sys2Proof.Machine
end

