-- ==== Sys2Proof/Laws/RgApply.lean ====
section
/-! SUPPORT. Register frames of the operations of Machine.Apply: the registers that each may write. -/

set_option maxRecDepth 20000
set_option Elab.async false
set_option linter.unusedTactic false
set_option linter.unreachableTactic false
set_option linter.unusedVariables false

namespace Sys2Proof.Machine

theorem State.partDurable_rg {msk : Nat} {b₀ : State} {s : State} {cseq : Nat} (h₀ : Rg msk b₀ s) (hm₀ : 143343663499379469475676305956380433800627810156366027727194064666054820360813990896560651436739025438752 ||| msk = msk) :
    Rg msk b₀ (State.partDurable s cseq) := by
  refine Rg.step h₀ ?_ hm₀
  clear h₀ hm₀
  unfold State.partDurable
  try dsimp only
  repeat' (first
    | with_reducible exact Rg.refl _ _
    | exact (rfl : (_ : Nat) = _)
    | with_reducible refine State.putPart_rg ?_ ?_
    | with_reducible refine State.tryAck_rg ?_ ?_
    | with_reducible refine State.setCmd_rg ?_ ?_
    | with_reducible refine Rg.ite ?_ ?_
    | split)

theorem State.makeDurable_rg {msk : Nat} {b₀ : State} {s : State} {t : Txn} (h₀ : Rg msk b₀ s) (hm₀ : 143343663499379469475676307809053861597686936933501787866200590318374575011063015527881995563349099677728 ||| msk = msk) :
    Rg msk b₀ (State.makeDurable s t) := by
  refine Rg.step h₀ ?_ hm₀
  clear h₀ hm₀
  unfold State.makeDurable
  try dsimp only
  repeat' (first
    | with_reducible exact Rg.refl _ _
    | exact (rfl : (_ : Nat) = _)
    | with_reducible refine State.wr64_rg ?_ ?_ ?_
    | with_reducible refine State.setTxn_rg ?_ ?_
    | with_reducible refine State.partDurable_rg ?_ ?_
    | with_reducible refine in_FTL_TSEQ_DUR ?_
    | with_reducible refine in_FTL_TSEQ_DUR4 ?_
    | exact (rfl : (_ : Bool) = _)
    | with_reducible refine Rg.ite ?_ ?_)

theorem State.durableScan_rg {msk : Nat} {b₀ : State} {s : State} {pool : Nat} (h₀ : Rg msk b₀ s) (hm₀ : 143343663499379469475676307809053861597686936933501787866200590318374575011063015527881995563349099677728 ||| msk = msk) :
    Rg msk b₀ (State.durableScan s pool) := by
  refine Rg.step h₀ ?_ hm₀
  clear h₀ hm₀
  unfold State.durableScan
  try dsimp only
  repeat' (first
    | with_reducible exact Rg.refl _ _
    | with_reducible assumption
    | exact (rfl : (_ : Nat) = _)
    | with_reducible refine State.makeDurable_rg ?_ ?_
    | with_reducible refine Rg.ite ?_ ?_
    | with_reducible refine Rg.foldl ?_ _ _ ?_
    | intro _ _ _
    | split)

theorem State.bandSingle_rg {msk : Nat} {b₀ : State} {s : State} {pool : Nat} (h₀ : Rg msk b₀ s) (hm₀ : 96107167241834975113312584178489302142293605564759693426004588894417285174339314651986626222954283729664672024879809959352794238588654061432213649874520966944 ||| msk = msk) :
    Rg msk b₀ (State.bandSingle s pool) := by
  refine Rg.step h₀ ?_ hm₀
  clear h₀ hm₀
  unfold State.bandSingle
  try dsimp only
  repeat' (first
    | with_reducible exact Rg.refl _ _
    | exact (rfl : (_ : Nat) = _)
    | with_reducible refine State.raise_rg ?_ ?_
    | with_reducible refine Rg.ite ?_ ?_)

theorem State.bandDrop_rg {msk : Nat} {b₀ : State} {s : State} {pool : Nat} {m : Nat} (h₀ : Rg msk b₀ s) (hm₀ : 96107167241834975113312584178489302142293605564759693569348252393796754650015622461040487820641220663166459891080400277727369249651669589314209213223620644640 ||| msk = msk) :
    Rg msk b₀ (State.bandDrop s pool m) := by
  refine Rg.step h₀ ?_ hm₀
  clear h₀ hm₀
  unfold State.bandDrop
  try dsimp only
  repeat' (first
    | with_reducible exact Rg.refl _ _
    | exact (rfl : (_ : Nat) = _)
    | with_reducible refine State.durableScan_rg ?_ ?_
    | with_reducible refine State.bandSingle_rg ?_ ?_
    | with_reducible refine State.setPool_rg ?_ ?_
    | with_reducible refine Rg.ite ?_ ?_
    | split)

theorem State.pageFlushed_rg {msk : Nat} {b₀ : State} {s : State} {pool : Nat} {p : Packed} (h₀ : Rg msk b₀ s) (hm₀ : 0 ||| msk = msk) :
    Rg msk b₀ (State.pageFlushed s pool p) := by
  refine Rg.step h₀ ?_ hm₀
  clear h₀ hm₀
  unfold State.pageFlushed
  try dsimp only
  repeat' (first
    | with_reducible exact Rg.refl _ _
    | with_reducible assumption
    | exact (rfl : (_ : Nat) = _)
    | with_reducible refine State.setMpage_rg ?_ ?_
    | dsimp only
    | with_reducible refine Rg.ite ?_ ?_
    | with_reducible refine Rg.ite₁ ?_ ?_
    | with_reducible refine RgS.ite ?_ ?_
    | with_reducible refine RgP.ite ?_ ?_
    | with_reducible exact RgS.none
    | with_reducible refine RgS.some ?_
    | with_reducible refine RgS.map ?_
    | with_reducible exact RgP.none
    | with_reducible refine RgP.some ?_
    | with_reducible refine Rg.elim ?_ ?_
    | with_reducible refine Rg.foldl ?_ _ _ ?_
    | with_reducible refine Rg.foldl₂ ?_ _ _ ?_
    | intro _ _ _ _ _ _
    | intro _ _ _ _ _
    | intro _ _ _ _
    | intro _ _ _
    | intro _ _
    | intro _
    | with_reducible refine Rg.pair (h := ?_) (e := by assumption)
    | with_reducible refine RgO.got (h := ?_) (e := by assumption)
    | with_reducible refine RgS.get (h := ?_) (e := by assumption)
    | with_reducible refine RgP.get (h := ?_) (e := by assumption)
    | split)

theorem State.addTxns_rg {msk : Nat} {b₀ : State} {s : State} {pool : Nat} {flags : Nat} {x3 : Nat} {x4 : List MapOp} (h₀ : Rg msk b₀ s) (hm₀ : 0 ||| msk = msk) :
    Rg msk b₀ (State.addTxns s pool flags x3 x4) := by
  refine Rg.step h₀ ?_ hm₀
  clear h₀ hm₀
  fun_induction State.addTxns 
  all_goals try dsimp +zetaDelta only at *
  all_goals repeat' (first
    | with_reducible exact Rg.refl _ _
    | exact (rfl : (_ : Nat) = _)
    | with_reducible refine Rg.trans ?_ (by assumption)
    | with_reducible refine State.addTxn_rg ?_ ?_)

theorem State.relocate_rg {msk : Nat} {b₀ : State} {s : State} {pool : Nat} {p : Packed} (h₀ : Rg msk b₀ s) (hm₀ : 0 ||| msk = msk) :
    Rg msk b₀ (State.relocate s pool p) := by
  refine Rg.step h₀ ?_ hm₀
  clear h₀ hm₀
  unfold State.relocate
  try dsimp only
  repeat' (first
    | with_reducible exact Rg.refl _ _
    | exact (rfl : (_ : Nat) = _)
    | with_reducible refine State.addTxns_rg ?_ ?_
    | refine Rg.mk' ?_)

theorem State.stripeWritten_rg {msk : Nat} {b₀ : State} {s : State} {i : Nat} {x : Stripe} (h₀ : Rg msk b₀ s) (hm₀ : 69992023193056381579920071267763883691301421788582797965624659405118495974380029543152421664737722368 ||| msk = msk) :
    Rg msk b₀ (State.stripeWritten s i x) := by
  refine Rg.step h₀ ?_ hm₀
  clear h₀ hm₀
  unfold State.stripeWritten
  try dsimp only
  repeat' (first
    | with_reducible exact Rg.refl _ _
    | with_reducible assumption
    | exact (rfl : (_ : Nat) = _)
    | with_reducible refine State.count_rg ?_ ?_
    | with_reducible refine State.stripeRecord_rg ?_ ?_
    | with_reducible refine State.setSeg_rg ?_ ?_
    | with_reducible refine State.relocate_rg ?_ ?_
    | with_reducible refine in_SP_STRIPES_WR ?_
    | exact (rfl : (_ : Bool) = _)
    | with_reducible refine Rg.foldl ?_ _ _ ?_
    | intro _ _ _
    | split
    | refine Rg.mk' ?_)

theorem State.readdress_rg {msk : Nat} {b₀ : State} {s : State} {old : Nat} {new : Nat} {segSeq : Nat} (h₀ : Rg msk b₀ s) (hm₀ : 0 ||| msk = msk) :
    Rg msk b₀ (State.readdress s old new segSeq) := by
  refine Rg.step h₀ ?_ hm₀
  clear h₀ hm₀
  unfold State.readdress
  try dsimp only
  repeat' (first
    | with_reducible exact Rg.refl _ _
    | refine Rg.mk' ?_)

theorem State.repack_rg {msk : Nat} {b₀ : State} {s : State} {i : Nat} {places : List (List Place)} (h₀ : Rg msk b₀ s) (hm₀ : 96107167241834975113312584178489302142293605564759693426004588894417285174339314651986736650895832378685270980973606391760033456332208787617096250262101757728 ||| msk = msk) :
    Rg msk b₀ (State.repack s i places).1 := by
  refine Rg.step h₀ ?_ hm₀
  clear h₀ hm₀
  unfold State.repack
  try dsimp only
  repeat' (first
    | with_reducible exact Rg.refl _ _
    | with_reducible assumption
    | exact (rfl : (_ : Nat) = _)
    | with_reducible refine State.pack_rg ?_ ?_
    | with_reducible refine State.readdress_rg ?_ ?_
    | with_reducible refine State.setStripe_rg ?_ ?_
    | dsimp only
    | with_reducible refine Rg.foldl₂ ?_ _ _ ?_
    | intro _ _ _
    | with_reducible refine Rg.pair (h := ?_) (e := by assumption)
    | with_reducible refine RgP.get (h := ?_) (e := by assumption)
    | split
    | refine Rg.mk' ?_)

theorem State.stripeAnswer_rg {msk : Nat} {b₀ : State} {s : State} {i : Nat} {k : Nat} {ok : Bool} {places : List (List Place)} (h₀ : Rg msk b₀ s) (hm₀ : 96107167241834975113312584178489302142293605564759693426074580917610341555919234723254500534587133800473853778939231051165151952306588817160248671926839480096 ||| msk = msk) :
    Rg msk b₀ (State.stripeAnswer s i k ok places) := by
  refine Rg.step h₀ ?_ hm₀
  clear h₀ hm₀
  unfold State.stripeAnswer
  try dsimp only
  repeat' (first
    | with_reducible exact Rg.refl _ _
    | exact (rfl : (_ : Nat) = _)
    | with_reducible refine State.setStripe_rg ?_ ?_
    | with_reducible refine State.stripeWritten_rg ?_ ?_
    | with_reducible refine State.repack_rg ?_ ?_
    | with_reducible refine State.stripeRecord_rg ?_ ?_
    | with_reducible refine Rg.ite ?_ ?_
    | split)

theorem State.journalFail_rg {msk : Nat} {b₀ : State} {s : State} {pool : Nat} {bseq : Nat} {first : Nat} {last : Nat} {m : Nat} {linkDown : Bool} (h₀ : Rg msk b₀ s) (hm₀ : 96107167241834975113312584178489302142293605564759693569348252393796754650015622461040487820641220663166459891080400277727369249651669589314209213223620644640 ||| msk = msk) :
    Rg msk b₀ (State.journalFail s pool bseq first last m linkDown) := by
  refine Rg.step h₀ ?_ hm₀
  clear h₀ hm₀
  unfold State.journalFail
  try dsimp only
  repeat' (first
    | with_reducible exact Rg.refl _ _
    | exact (rfl : (_ : Nat) = _)
    | with_reducible refine State.bandDrop_rg ?_ ?_
    | with_reducible refine State.raise_rg ?_ ?_
    | with_reducible refine Rg.ite ?_ ?_
    | refine Rg.mk' ?_)

theorem State.rewriteOne_rg {msk : Nat} {b₀ : State} {s : State} {addr : Nat} {places : List (List Place)} (h₀ : Rg msk b₀ s) (hm₀ : 96107167241834975113312584178489302142293605564759693426004588894417285174339314651986736650895832378685270980973606391760033456332208787617096250262101757728 ||| msk = msk) :
    Rg msk b₀ (State.rewriteOne s addr places).1 := by
  refine Rg.step h₀ ?_ hm₀
  clear h₀ hm₀
  unfold State.rewriteOne
  try dsimp only
  repeat' (first
    | with_reducible exact Rg.refl _ _
    | with_reducible assumption
    | exact (rfl : (_ : Nat) = _)
    | with_reducible refine State.pack_rg ?_ ?_
    | dsimp only
    | with_reducible refine Rg.ite ?_ ?_
    | with_reducible refine Rg.ite₁ ?_ ?_
    | with_reducible refine RgS.ite ?_ ?_
    | with_reducible refine RgP.ite ?_ ?_
    | with_reducible exact RgS.none
    | with_reducible refine RgS.some ?_
    | with_reducible refine RgS.map ?_
    | with_reducible exact RgP.none
    | with_reducible refine RgP.some ?_
    | with_reducible refine Rg.elim ?_ ?_
    | with_reducible refine Rg.foldl ?_ _ _ ?_
    | with_reducible refine Rg.foldl₂ ?_ _ _ ?_
    | intro _ _ _ _ _ _
    | intro _ _ _ _ _
    | intro _ _ _ _
    | intro _ _ _
    | intro _ _
    | intro _
    | with_reducible refine Rg.pair (h := ?_) (e := by assumption)
    | with_reducible refine RgO.got (h := ?_) (e := by assumption)
    | with_reducible refine RgS.get (h := ?_) (e := by assumption)
    | with_reducible refine RgP.get (h := ?_) (e := by assumption)
    | split
    | refine Rg.mk' ?_)

theorem State.poisonLoss_rg {msk : Nat} {b₀ : State} {s : State} {pool : Nat} {x2 : MapOp} (h₀ : Rg msk b₀ s) (hm₀ : 96107167241834975113312584178489302142293605564759693426022086900215549269734294669803567193877109085111817724371216124204073862582249068818001755290705397536 ||| msk = msk) :
    Rg msk b₀ (State.poisonLoss s pool x2) := by
  refine Rg.step h₀ ?_ hm₀
  clear h₀ hm₀
  unfold State.poisonLoss
  try dsimp only
  repeat' (first
    | with_reducible exact Rg.refl _ _
    | exact (rfl : (_ : Nat) = _)
    | with_reducible refine State.raise_rg ?_ ?_
    | with_reducible refine State.addLoss_rg ?_ ?_
    | with_reducible refine Rg.ite ?_ ?_
    | split)

theorem State.stampClose_rg {msk : Nat} {b₀ : State} {s : State} {g : Seg} (h₀ : Rg msk b₀ s) (hm₀ : 0 ||| msk = msk) :
    Rg msk b₀ (State.stampClose s g) := by
  refine Rg.step h₀ ?_ hm₀
  clear h₀ hm₀
  unfold State.stampClose
  try dsimp only
  repeat' (first
    | with_reducible exact Rg.refl _ _
    | with_reducible assumption
    | exact (rfl : (_ : Nat) = _)
    | with_reducible refine State.setBg_rg ?_ ?_
    | with_reducible refine Rg.foldl ?_ _ _ ?_
    | intro _ _ _)

theorem State.eraseMembers_rg {msk : Nat} {b₀ : State} {s : State} {i : Nat} {g : Seg} (h₀ : Rg msk b₀ s) (hm₀ : 110427941548649020598956093796432407239217743554726184882600387580790784 ||| msk = msk) :
    Rg msk b₀ (State.eraseMembers s i g) := by
  refine Rg.step h₀ ?_ hm₀
  clear h₀ hm₀
  unfold State.eraseMembers
  try dsimp only
  repeat' (first
    | with_reducible exact Rg.refl _ _
    | with_reducible assumption
    | exact (rfl : (_ : Nat) = _)
    | with_reducible refine State.setBg_rg ?_ ?_
    | with_reducible refine State.sendMod_rg ?_ ?_
    | with_reducible refine Rg.ite ?_ ?_
    | with_reducible refine Rg.foldl ?_ _ _ ?_
    | intro _ _ _
    | split)

theorem State.segApply_rg {msk : Nat} {b₀ : State} {s : State} {i : Nat} {st : Nat} (h₀ : Rg msk b₀ s) (hm₀ : 96107167241834975113312584178489302142293605564759693426004588894417285174339315115155093600160614072969211015725237804839972118894464945447432281914620317472 ||| msk = msk) :
    Rg msk b₀ (State.segApply s i st) := by
  refine Rg.step h₀ ?_ hm₀
  clear h₀ hm₀
  unfold State.segApply
  try dsimp only
  repeat' (first
    | with_reducible exact Rg.refl _ _
    | exact (rfl : (_ : Nat) = _)
    | with_reducible refine State.issueSegment_rg ?_ ?_
    | with_reducible refine State.setSeg_rg ?_ ?_
    | with_reducible refine State.stampClose_rg ?_ ?_
    | with_reducible refine State.eraseMembers_rg ?_ ?_
    | with_reducible refine State.count_rg ?_ ?_
    | with_reducible refine in_FTL_RECLAIMED ?_
    | exact (rfl : (_ : Bool) = _)
    | with_reducible refine Rg.ite ?_ ?_
    | split
    | refine Rg.mk' ?_)

theorem State.snapApply_rg {msk : Nat} {b₀ : State} {s : State} {target : Nat} {source : Nat} (h₀ : Rg msk b₀ s) (hm₀ : 32 ||| msk = msk) :
    Rg msk b₀ (State.snapApply s target source) := by
  refine Rg.step h₀ ?_ hm₀
  clear h₀ hm₀
  unfold State.snapApply
  try dsimp only
  repeat' (first
    | with_reducible exact Rg.refl _ _
    | exact (rfl : (_ : Nat) = _)
    | with_reducible refine State.shareBy_rg ?_ ?_
    | with_reducible refine State.setVol_rg ?_ ?_
    | with_reducible refine State.event_rg ?_ ?_
    | with_reducible refine State.actEnd_rg ?_ ?_
    | split
    | refine Rg.mk' ?_)

theorem State.volGone_rg {msk : Nat} {b₀ : State} {s : State} {vol : Nat} {v : Vol} (h₀ : Rg msk b₀ s) (hm₀ : 32 ||| msk = msk) :
    Rg msk b₀ (State.volGone s vol v) := by
  refine Rg.step h₀ ?_ hm₀
  clear h₀ hm₀
  unfold State.volGone
  try dsimp only
  repeat' (first
    | with_reducible exact Rg.refl _ _
    | exact (rfl : (_ : Nat) = _)
    | with_reducible refine State.setVol_rg ?_ ?_
    | with_reducible refine State.event_rg ?_ ?_
    | with_reducible refine State.actEnd_rg ?_ ?_
    | split
    | refine Rg.mk' ?_)

theorem State.snapStepApply_rg {msk : Nat} {b₀ : State} {s : State} {vol : Nat} {t : Nat} {visit : List Nat} (h₀ : Rg msk b₀ s) (hm₀ : 96107167241834975113312584178489302142293605564759693426004588894417285174339314651986626222954283729664672024879809959352794238588654061432213649874520966944 ||| msk = msk) :
    Rg msk b₀ (State.snapStepApply s vol t visit) := by
  refine Rg.step h₀ ?_ hm₀
  clear h₀ hm₀
  unfold State.snapStepApply
  try dsimp only
  repeat' (first
    | with_reducible exact Rg.refl _ _
    | with_reducible assumption
    | exact (rfl : (_ : Nat) = _)
    | with_reducible refine State.freePage_rg ?_ ?_
    | with_reducible refine State.volGone_rg ?_ ?_
    | with_reducible refine State.setVol_rg ?_ ?_
    | dsimp only
    | with_reducible refine Rg.ite ?_ ?_
    | with_reducible refine Rg.foldl₂ ?_ _ _ ?_
    | intro _ _ _
    | split)

theorem State.applyOp_rg {msk : Nat} {b₀ : State} {s : State} {pool : Nat} {t : Nat} {x3 : MapOp} (h₀ : Rg msk b₀ s) (hm₀ : 96107167241834975113312584178489302142293605564759693426004588894417285174339315115155093600160614072969211015725237804839972118894464945447432281914620317472 ||| msk = msk) :
    Rg msk b₀ (State.applyOp s pool t x3) := by
  refine Rg.step h₀ ?_ hm₀
  clear h₀ hm₀
  unfold State.applyOp
  try dsimp only
  repeat' (first
    | with_reducible exact Rg.refl _ _
    | exact (rfl : (_ : Nat) = _)
    | with_reducible refine State.setGrain_rg ?_ ?_
    | with_reducible refine State.setSlotOp_rg ?_ ?_
    | with_reducible refine State.segApply_rg ?_ ?_
    | with_reducible refine State.snapApply_rg ?_ ?_
    | with_reducible refine State.snapStepApply_rg ?_ ?_
    | with_reducible refine State.refBy_rg ?_ ?_
    | split)

theorem State.applyTxn_rg {msk : Nat} {b₀ : State} {s : State} {t : Txn} (h₀ : Rg msk b₀ s) (hm₀ : 96107167241834975113312584178489302142293605564759693569365750399595018745410601089352468370868751251433926948815946431373931498418360457209379956713660157728 ||| msk = msk) :
    Rg msk b₀ (State.applyTxn s t) := by
  refine Rg.step h₀ ?_ hm₀
  clear h₀ hm₀
  unfold State.applyTxn
  try dsimp only
  repeat' (first
    | with_reducible exact Rg.refl _ _
    | with_reducible assumption
    | exact (rfl : (_ : Nat) = _)
    | with_reducible refine State.poisonLoss_rg ?_ ?_
    | with_reducible refine State.applyOp_rg ?_ ?_
    | with_reducible refine State.tlSend_rg ?_ ?_
    | with_reducible refine State.release_rg ?_ ?_
    | with_reducible refine Rg.ite ?_ ?_
    | with_reducible refine Rg.foldl ?_ _ _ ?_
    | intro _ _ _
    | split
    | refine Rg.mk' ?_)

theorem State.journalOk_rg {msk : Nat} {b₀ : State} {s : State} {pool : Nat} {bseq : Nat} {first : Nat} {last : Nat} {m : Nat} (h₀ : Rg msk b₀ s) (hm₀ : 143343663499379469475676307809053861597686936933501787866200590318374575011063015527881995563349099677728 ||| msk = msk) :
    Rg msk b₀ (State.journalOk s pool bseq first last m) := by
  refine Rg.step h₀ ?_ hm₀
  clear h₀ hm₀
  unfold State.journalOk
  try dsimp only
  repeat' (first
    | with_reducible exact Rg.refl _ _
    | exact (rfl : (_ : Nat) = _)
    | with_reducible refine State.durableScan_rg ?_ ?_
    | refine Rg.mk' ?_)

theorem State.mapTxnApply_rg {msk : Nat} {b₀ : State} {s : State} (h₀ : Rg msk b₀ s) (hm₀ : 96107167241834975113312584178489302142293605564759693569365750399595018745410601089352468370868751251433926948815946431373931498418360457209379956713660157728 ||| msk = msk) :
    Rg msk b₀ (State.mapTxnApply s) := by
  refine Rg.step h₀ ?_ hm₀
  clear h₀ hm₀
  unfold State.mapTxnApply
  try dsimp only
  repeat' (first
    | with_reducible exact Rg.refl _ _
    | with_reducible assumption
    | exact (rfl : (_ : Nat) = _)
    | with_reducible refine State.applyTxn_rg ?_ ?_
    | with_reducible refine Rg.foldl ?_ _ _ ?_
    | intro _ _ _)

theorem State.repackAll_rg {msk : Nat} {b₀ : State} {s : State} {pool : Nat} {places : List (List Place)} (h₀ : Rg msk b₀ s) (hm₀ : 96107167241834975113312584178489302142293605564759693426004588894417285174339314651986736650895832378685270980973606391760033456332208787617096250262101757728 ||| msk = msk) :
    Rg msk b₀ (State.repackAll s pool places).1 := by
  refine Rg.step h₀ ?_ hm₀
  clear h₀ hm₀
  unfold State.repackAll
  try dsimp only
  repeat' (first
    | with_reducible exact Rg.refl _ _
    | with_reducible assumption
    | exact (rfl : (_ : Nat) = _)
    | with_reducible refine State.repack_rg ?_ ?_
    | with_reducible refine State.rewriteOne_rg ?_ ?_
    | dsimp only
    | with_reducible refine Rg.ite ?_ ?_
    | with_reducible refine Rg.ite₁ ?_ ?_
    | with_reducible refine RgS.ite ?_ ?_
    | with_reducible refine RgP.ite ?_ ?_
    | with_reducible exact RgS.none
    | with_reducible refine RgS.some ?_
    | with_reducible refine RgS.map ?_
    | with_reducible exact RgP.none
    | with_reducible refine RgP.some ?_
    | with_reducible refine Rg.elim ?_ ?_
    | with_reducible refine Rg.foldl ?_ _ _ ?_
    | with_reducible refine Rg.foldl₂ ?_ _ _ ?_
    | intro _ _ _ _ _ _
    | intro _ _ _ _ _
    | intro _ _ _ _
    | intro _ _ _
    | intro _ _
    | intro _
    | with_reducible refine Rg.pair (h := ?_) (e := by assumption)
    | with_reducible refine RgO.got (h := ?_) (e := by assumption)
    | with_reducible refine RgS.get (h := ?_) (e := by assumption)
    | with_reducible refine RgP.get (h := ?_) (e := by assumption)
    | split)

end Sys2Proof.Machine
end

