-- ==== Sys2Proof/Laws/RgDestage.lean ====
section
/-! SUPPORT. Register frames of the operations of Machine.Destage: the registers that each may write. -/

set_option maxRecDepth 20000
set_option Elab.async false
set_option linter.unusedTactic false
set_option linter.unreachableTactic false
set_option linter.unusedVariables false

namespace Sys2Proof.Machine

theorem State.hotDrop_rg {msk : Nat} {b₀ : State} {s : State} {a : Nat} (h₀ : Rg msk b₀ s) (hm₀ : 0 ||| msk = msk) :
    Rg msk b₀ (State.hotDrop s a) := by
  refine Rg.step h₀ ?_ hm₀
  clear h₀ hm₀
  unfold State.hotDrop
  try dsimp only
  repeat' (first
    | with_reducible exact Rg.refl _ _
    | exact (rfl : (_ : Nat) = _)
    | with_reducible refine State.setCam_rg ?_ ?_
    | split)

theorem State.confirm_rg {msk : Nat} {b₀ : State} {s : State} {a : Nat} {k : CandKind} {p : Part} {g : Grain} {ops : List MapOp} (h₀ : Rg msk b₀ s) (hm₀ : 96107167241834975113312584178489302142293605564759693426004588894417285174339314651986626222956340610361323532432503670830990926719882481264255624703706728224 ||| msk = msk) :
    Rg msk b₀ (State.confirm s a k p g ops).1 := by
  refine Rg.step h₀ ?_ hm₀
  clear h₀ hm₀
  unfold State.confirm
  try dsimp only
  repeat' (first
    | with_reducible exact Rg.refl _ _
    | exact (rfl : (_ : Nat) = _)
    | with_reducible refine State.count_rg ?_ ?_
    | with_reducible refine State.hotDrop_rg ?_ ?_
    | with_reducible refine State.raise_rg ?_ ?_
    | with_reducible refine State.event_rg ?_ ?_
    | with_reducible refine in_DD_REFUSED ?_
    | with_reducible refine in_DD_VERIFY_MISMATCH ?_
    | exact (rfl : (_ : Bool) = _)
    | dsimp only
    | with_reducible refine Rg.ite ?_ ?_
    | with_reducible refine Rg.ite₁ ?_ ?_)

theorem State.clockHand_rg {msk : Nat} {b₀ : State} {s : State} {x1 : Nat} {x2 : Nat} (h₀ : Rg msk b₀ s) (hm₀ : 0 ||| msk = msk) :
    Rg msk b₀ (State.clockHand s x1 x2).1 := by
  refine Rg.step h₀ ?_ hm₀
  clear h₀ hm₀
  fun_induction State.clockHand 
  all_goals try dsimp +zetaDelta only at *
  all_goals repeat' (first
    | with_reducible exact Rg.refl _ _
    | with_reducible refine Rg.trans ?_ (by assumption)
    | refine Rg.mk' ?_)

theorem State.promote_rg {msk : Nat} {b₀ : State} {s : State} {pool : Nat} {a : Nat} {e : DdEntry} (h₀ : Rg msk b₀ s) (hm₀ : 96107167241834975113312584178489302142293605564759693426004588894417285174339314651986626222954283729664839641579592165946677182794748626499171949466009800480 ||| msk = msk) :
    Rg msk b₀ (State.promote s pool a e) := by
  refine Rg.step h₀ ?_ hm₀
  clear h₀ hm₀
  unfold State.promote
  try dsimp only
  repeat' (first
    | with_reducible exact Rg.refl _ _
    | with_reducible assumption
    | exact (rfl : (_ : Nat) = _)
    | with_reducible refine State.camFound_rg ?_ ?_
    | with_reducible refine State.countSearch_rg ?_ ?_
    | with_reducible refine State.clockHand_rg ?_ ?_
    | with_reducible refine State.setCam_rg ?_ ?_
    | dsimp only
    | with_reducible refine Rg.ite ?_ ?_
    | with_reducible refine Rg.ite₁ ?_ ?_
    | with_reducible refine RgS.ite ?_ ?_
    | with_reducible refine RgP.ite ?_ ?_
    | with_reducible exact RgS.none
    | with_reducible refine RgS.some ?_
    | with_reducible refine RgS.map ?_
    | with_reducible exact RgP.none
    | with_reducible refine RgP.some ?_
    | with_reducible refine Rg.elim ?_ ?_
    | with_reducible refine Rg.foldl ?_ _ _ ?_
    | with_reducible refine Rg.foldl₂ ?_ _ _ ?_
    | intro _ _ _ _ _ _
    | intro _ _ _ _ _
    | intro _ _ _ _
    | intro _ _ _
    | intro _ _
    | intro _
    | with_reducible refine Rg.pair (h := ?_) (e := by assumption)
    | with_reducible refine RgO.got (h := ?_) (e := by assumption)
    | with_reducible refine RgS.get (h := ?_) (e := by assumption)
    | with_reducible refine RgP.get (h := ?_) (e := by assumption)
    | split
    | refine Rg.mk' ?_)

theorem State.confirmAny_rg {msk : Nat} {b₀ : State} {s : State} {pool : Nat} {p : Part} {g : Grain} {ops : List MapOp} {x5 : List (Nat × CandKind)} (h₀ : Rg msk b₀ s) (hm₀ : 96107167241834975113312584178489302142293605564759693426004588894417285174339314651986626222956340610361491149132285877424873870925977046331213924295195561760 ||| msk = msk) :
    Rg msk b₀ (State.confirmAny s pool p g ops x5).1 := by
  refine Rg.step h₀ ?_ hm₀
  clear h₀ hm₀
  fun_induction State.confirmAny 
  all_goals try dsimp +zetaDelta only at *
  all_goals repeat' (first
    | with_reducible exact Rg.refl _ _
    | exact (rfl : (_ : Nat) = _)
    | with_reducible refine Rg.trans ?_ (by assumption)
    | with_reducible refine State.confirm_rg ?_ ?_
    | with_reducible refine State.promote_rg ?_ ?_
    | with_reducible refine Rg.pair (h := ?_) (e := by assumption)
    | split)

theorem State.tierWrite_rg {msk : Nat} {b₀ : State} {s : State} {pool : Nat} {cseq : Nat} {index : Nat} {g : Grain} {a : Nat} {segSeq : Nat} (h₀ : Rg msk b₀ s) (hm₀ : 3291009114642412084309938365114701009965471731267159726697218048 ||| msk = msk) :
    Rg msk b₀ (State.tierWrite s pool cseq index g a segSeq) := by
  refine Rg.step h₀ ?_ hm₀
  clear h₀ hm₀
  unfold State.tierWrite
  try dsimp only
  repeat' (first
    | with_reducible exact Rg.refl _ _
    | exact (rfl : (_ : Nat) = _)
    | with_reducible refine State.setBucket_rg ?_ ?_
    | with_reducible refine State.bucketInsert_rg ?_ ?_
    | split
    | refine Rg.mk' ?_)

theorem destageUnique_rg {msk : Nat} {b₀ : State} {pool : Nat} {cseq : Nat} {index : Nat} {p : Part} {fua : Bool} {poison : Bool} {g : Grain} {d : Destaging} (h₀ : Rg msk b₀ d.1) (hm₀ : 96107167241834975113312584178489302142293605564759693426004588894417285174339314651986736650899123387799913393057916330125148157342174259348363409988798975776 ||| msk = msk) :
    RgP msk b₀ (destageUnique pool cseq index p fua poison g d) := by
  refine RgP.step h₀ ?_ hm₀
  clear h₀ hm₀
  rcases d with ⟨s₀, x₀⟩
  dsimp only
  unfold destageUnique
  try dsimp only
  repeat' (first
    | with_reducible exact Rg.refl _ _
    | exact (rfl : (_ : Nat) = _)
    | with_reducible refine State.pack_rg ?_ ?_
    | with_reducible refine State.tierWrite_rg ?_ ?_
    | dsimp only
    | with_reducible refine Rg.ite ?_ ?_
    | with_reducible exact RgP.none
    | with_reducible refine RgP.some ?_
    | with_reducible refine RgP.get (h := ?_) (e := by assumption)
    | split)

theorem State.reduceMerged_rg {msk : Nat} {b₀ : State} {s : State} {pool : Nat} {cseq : Nat} {index : Nat} {format : Nat} {after : Nat} {data : List Byte} {g : Grain} (h₀ : Rg msk b₀ s) (hm₀ : 96107167241834975113312584178489302142293605564759693426004588894417285174339314651986626222957754718693945757667047858329376258570072284863835027496128024352 ||| msk = msk) :
    Rg msk b₀ (State.reduceMerged s pool cseq index format after data g).1 := by
  refine Rg.step h₀ ?_ hm₀
  clear h₀ hm₀
  unfold State.reduceMerged
  try dsimp only
  repeat' (first
    | with_reducible exact Rg.refl _ _
    | with_reducible assumption
    | exact (rfl : (_ : Nat) = _)
    | with_reducible refine State.reduce_rg ?_ ?_
    | with_reducible refine State.probe_rg ?_ ?_
    | dsimp only
    | with_reducible refine Rg.ite ?_ ?_
    | with_reducible refine Rg.ite₁ ?_ ?_
    | with_reducible refine RgS.ite ?_ ?_
    | with_reducible refine RgP.ite ?_ ?_
    | with_reducible exact RgS.none
    | with_reducible refine RgS.some ?_
    | with_reducible refine RgS.map ?_
    | with_reducible exact RgP.none
    | with_reducible refine RgP.some ?_
    | with_reducible refine Rg.elim ?_ ?_
    | with_reducible refine Rg.foldl ?_ _ _ ?_
    | with_reducible refine Rg.foldl₂ ?_ _ _ ?_
    | intro _ _ _ _ _ _
    | intro _ _ _ _ _
    | intro _ _ _ _
    | intro _ _ _
    | intro _ _
    | intro _
    | with_reducible refine Rg.pair (h := ?_) (e := by assumption)
    | with_reducible refine RgO.got (h := ?_) (e := by assumption)
    | with_reducible refine RgS.get (h := ?_) (e := by assumption)
    | with_reducible refine RgP.get (h := ?_) (e := by assumption)
    | split
    | refine Rg.mk' ?_)

theorem destageData_rg {msk : Nat} {b₀ : State} {pool : Nat} {cseq : Nat} {index : Nat} {p : Part} {fua : Bool} {g : Grain} {d : Destaging} (h₀ : Rg msk b₀ d.1) (hm₀ : 96107167241834975113312584178489302142293605564759693426004588894417285174339314651986736650901180268496732517310392248197227789679497244247363684409473568544 ||| msk = msk) :
    RgP msk b₀ (destageData pool cseq index p fua g d) := by
  refine RgP.step h₀ ?_ hm₀
  clear h₀ hm₀
  rcases d with ⟨s₀, x₀⟩
  dsimp only
  unfold destageData
  try dsimp only
  repeat' (first
    | with_reducible exact Rg.refl _ _
    | exact (rfl : (_ : Nat) = _)
    | with_reducible refine State.confirmAny_rg ?_ ?_
    | with_reducible refine destageUnique_rg ?_ ?_
    | with_reducible refine RgP.some ?_
    | split)

theorem destageGrain_rg {msk : Nat} {b₀ : State} {pool : Nat} {cseq : Nat} {p : Part} {fua : Bool} {lost : Bool} {after : Nat} {d : Destaging} {ig : Nat × Grain} (h₀ : Rg msk b₀ d.1) (hm₀ : 96107167241834975113312584178489302142293605564759693426004588894417285174339314651986736650901360248411196221313538002214812164444855430880759602712894574368 ||| msk = msk) :
    RgP msk b₀ (destageGrain pool cseq p fua lost after d ig) := by
  refine RgP.step h₀ ?_ hm₀
  clear h₀ hm₀
  rcases d with ⟨s₀, x₀⟩
  dsimp only
  unfold destageGrain
  try dsimp only
  repeat' (first
    | with_reducible exact Rg.refl _ _
    | exact (rfl : (_ : Nat) = _)
    | with_reducible refine State.tierForget_rg ?_ ?_
    | with_reducible refine destageUnique_rg ?_ ?_
    | with_reducible refine State.reduceMerged_rg ?_ ?_
    | with_reducible refine destageData_rg ?_ ?_
    | with_reducible refine RgP.ite ?_ ?_
    | with_reducible refine RgP.some ?_
    | split)

theorem destageAll_rg {msk : Nat} {b₀ : State} {pool : Nat} {cseq : Nat} {p : Part} {fua : Bool} {lost : Bool} {after : Nat} {x6 : List (Nat × Grain)} {x7 : Destaging} (h₀ : Rg msk b₀ x7.1) (hm₀ : 96107167241834975113312584178489302142293605564759693426004588894417285174339314651986736650901360248411196221313538002214812164444855430880759602712894574368 ||| msk = msk) :
    RgP msk b₀ (destageAll pool cseq p fua lost after x6 x7) := by
  refine RgP.step h₀ ?_ hm₀
  clear h₀ hm₀
  fun_induction destageAll 
  all_goals try dsimp +zetaDelta only at *
  all_goals repeat' (first
    | with_reducible exact Rg.refl _ _
    | exact (rfl : (_ : Nat) = _)
    | with_reducible refine RgP.trans ?_ (by assumption)
    | with_reducible refine destageGrain_rg ?_ ?_
    | with_reducible exact RgP.none
    | with_reducible refine RgP.some ?_
    | with_reducible refine RgP.get (h := ?_) (e := by assumption))

theorem execFuaPadTimeout_rg {msk : Nat} {b₀ : State} {stripe : Nat} {s : State} (h₀ : Rg msk b₀ s) (hm₀ : 96107167241834975113312584178489302142293605564759693426004588894417285174339314651986736650895832378685270980973606391760033456332208787617096250262101757728 ||| msk = msk) :
    RgO msk b₀ (execFuaPadTimeout stripe s) := by
  refine RgO.step h₀ ?_ hm₀
  clear h₀ hm₀
  unfold execFuaPadTimeout
  try dsimp only
  repeat' (first
    | with_reducible exact Rg.refl _ _
    | exact (rfl : (_ : Nat) = _)
    | with_reducible refine State.event_rg ?_ ?_
    | with_reducible refine State.closeStripe_rg ?_ ?_
    | with_reducible refine RgO.ite ?_ ?_
    | with_reducible refine RgO.next ?_
    | split)

theorem State.destageRead_rg {msk : Nat} {b₀ : State} {s : State} {cseq : Nat} {p : Part} {own : List (Nat × Nat)} {mir : List (Nat × Nat)} (h₀ : Rg msk b₀ s) (hm₀ : 96107167241834975113312584178489302142293605564759693569348252393796754650015620608367060022739595552682242258479112421035473994118954565808373219257376378656 ||| msk = msk) :
    Rg msk b₀ (State.destageRead s cseq p own mir).1 := by
  refine Rg.step h₀ ?_ hm₀
  clear h₀ hm₀
  unfold State.destageRead
  try dsimp only
  repeat' (first
    | with_reducible exact Rg.refl _ _
    | with_reducible assumption
    | exact (rfl : (_ : Nat) = _)
    | with_reducible refine State.raise_rg ?_ ?_
    | with_reducible refine State.tlSend_rg ?_ ?_
    | dsimp only
    | with_reducible refine Rg.ite ?_ ?_
    | with_reducible refine Rg.ite₁ ?_ ?_
    | with_reducible refine RgS.ite ?_ ?_
    | with_reducible refine RgP.ite ?_ ?_
    | with_reducible exact RgS.none
    | with_reducible refine RgS.some ?_
    | with_reducible refine RgS.map ?_
    | with_reducible exact RgP.none
    | with_reducible refine RgP.some ?_
    | with_reducible refine Rg.elim ?_ ?_
    | with_reducible refine Rg.foldl ?_ _ _ ?_
    | with_reducible refine Rg.foldl₂ ?_ _ _ ?_
    | intro _ _ _ _ _ _
    | intro _ _ _ _ _
    | intro _ _ _ _
    | intro _ _ _
    | intro _ _
    | intro _
    | with_reducible refine Rg.pair (h := ?_) (e := by assumption)
    | with_reducible refine RgO.got (h := ?_) (e := by assumption)
    | with_reducible refine RgS.get (h := ?_) (e := by assumption)
    | with_reducible refine RgP.get (h := ?_) (e := by assumption)
    | split)

theorem State.mergedCheck_rg {msk : Nat} {b₀ : State} {s : State} {n : Nat} {bad : List (Nat × Bool)} (h₀ : Rg msk b₀ s) (hm₀ : 96107167241834975113312584178489302142293605564759693426004588894417285174339314651986626222954283729676931989206737070219661014805856534901163562851989786400 ||| msk = msk) :
    Rg msk b₀ (State.mergedCheck s n bad).1 := by
  refine Rg.step h₀ ?_ hm₀
  clear h₀ hm₀
  unfold State.mergedCheck
  try dsimp only
  repeat' (first
    | with_reducible exact Rg.refl _ _
    | with_reducible assumption
    | exact (rfl : (_ : Nat) = _)
    | with_reducible refine State.inject_rg ?_ ?_
    | with_reducible refine State.operate_rg ?_ ?_
    | with_reducible refine State.checkDisagree_rg ?_ ?_
    | dsimp only
    | with_reducible refine Rg.ite ?_ ?_
    | with_reducible refine Rg.ite₁ ?_ ?_
    | with_reducible refine RgS.ite ?_ ?_
    | with_reducible refine RgP.ite ?_ ?_
    | with_reducible exact RgS.none
    | with_reducible refine RgS.some ?_
    | with_reducible refine RgS.map ?_
    | with_reducible exact RgP.none
    | with_reducible refine RgP.some ?_
    | with_reducible refine Rg.elim ?_ ?_
    | with_reducible refine Rg.foldl ?_ _ _ ?_
    | with_reducible refine Rg.foldl₂ ?_ _ _ ?_
    | intro _ _ _ _ _ _
    | intro _ _ _ _ _
    | intro _ _ _ _
    | intro _ _ _
    | intro _ _
    | intro _
    | with_reducible refine Rg.pair (h := ?_) (e := by assumption)
    | with_reducible refine RgO.got (h := ?_) (e := by assumption)
    | with_reducible refine RgS.get (h := ?_) (e := by assumption)
    | with_reducible refine RgP.get (h := ?_) (e := by assumption)
    | split)

theorem execDestageEntry_rg {msk : Nat} {b₀ : State} {cseq : Nat} {own : List (Nat × Nat)} {mir : List (Nat × Nat)} {bad : List (Nat × Bool)} {after : Nat} {places : List (List Place)} {s : State} (h₀ : Rg msk b₀ s) (hm₀ : 96107167241834975113312584178489302142293605564759693569348252393796754650015620608367170450686672071441026419239767574764358696192358408725869085073218801440 ||| msk = msk) :
    RgO msk b₀ (execDestageEntry cseq own mir bad after places s) := by
  refine RgO.step h₀ ?_ hm₀
  clear h₀ hm₀
  unfold execDestageEntry
  try dsimp only
  repeat' (first
    | with_reducible exact Rg.refl _ _
    | with_reducible assumption
    | exact (rfl : (_ : Nat) = _)
    | with_reducible refine State.destageRead_rg ?_ ?_
    | with_reducible refine State.mergedCheck_rg ?_ ?_
    | with_reducible refine State.repackAll_rg ?_ ?_
    | with_reducible refine destageAll_rg ?_ ?_
    | with_reducible refine State.release_rg ?_ ?_
    | with_reducible refine State.addTxn_rg ?_ ?_
    | with_reducible refine State.putPart_rg ?_ ?_
    | dsimp only
    | with_reducible refine Rg.ite ?_ ?_
    | with_reducible refine Rg.ite₁ ?_ ?_
    | with_reducible refine RgO.ite ?_ ?_
    | with_reducible refine RgS.ite ?_ ?_
    | with_reducible refine RgP.ite ?_ ?_
    | with_reducible refine RgO.next ?_
    | with_reducible exact RgS.none
    | with_reducible refine RgS.some ?_
    | with_reducible refine RgS.map ?_
    | with_reducible exact RgP.none
    | with_reducible refine RgP.some ?_
    | with_reducible refine Rg.elim ?_ ?_
    | with_reducible refine Rg.foldl ?_ _ _ ?_
    | with_reducible refine Rg.foldl₂ ?_ _ _ ?_
    | intro _ _ _ _ _ _
    | intro _ _ _ _ _
    | intro _ _ _ _
    | intro _ _ _
    | intro _ _
    | intro _
    | with_reducible refine Rg.pair (h := ?_) (e := by assumption)
    | with_reducible refine RgO.got (h := ?_) (e := by assumption)
    | with_reducible refine RgS.get (h := ?_) (e := by assumption)
    | with_reducible refine RgP.get (h := ?_) (e := by assumption)
    | split)

end Sys2Proof.Machine
end

