-- ==== Sys2Proof/Laws/RgFtl.lean ====
section
/-! SUPPORT. Register frames of the operations of Machine.Ftl: the registers that each may write. -/

set_option maxRecDepth 20000
set_option Elab.async false
set_option linter.unusedTactic false
set_option linter.unreachableTactic false
set_option linter.unusedVariables false

namespace Sys2Proof.Machine

theorem State.gcMay_rg {msk : Nat} {b₀ : State} {s : State} {pool : Nat} (h₀ : Rg msk b₀ s) (hm₀ : 0 ||| msk = msk) :
    Rg msk b₀ (State.gcMay s pool).1 := by
  refine Rg.step h₀ ?_ hm₀
  clear h₀ hm₀
  unfold State.gcMay
  try dsimp only
  repeat' (first
    | with_reducible exact Rg.refl _ _
    | exact (rfl : (_ : Nat) = _)
    | with_reducible refine State.standing_rg ?_ ?_
    | with_reducible refine Rg.ite₁ ?_ ?_)

theorem State.setReclaim_rg {msk : Nat} {b₀ : State} {s : State} {pool : Nat} {r : ReclaimSt} (h₀ : Rg msk b₀ s) (hm₀ : 0 ||| msk = msk) :
    Rg msk b₀ (State.setReclaim s pool r) := by
  refine Rg.step h₀ ?_ hm₀
  clear h₀ hm₀
  unfold State.setReclaim
  try dsimp only
  repeat' (first
    | with_reducible exact Rg.refl _ _
    | refine Rg.mk' ?_)

theorem copyGrain_rg {msk : Nat} {b₀ : State} {pool : Nat} {lost : List Nat} {d : State × List (List Place) × Bool} {x : Nat × Stored} (h₀ : Rg msk b₀ d.1) (hm₀ : 96107167241834975113312584178489302142293605564759693426022086900215549269734295596140391520348221122700296749968275382771190405450316110663556418983323307808 ||| msk = msk) :
    Rg msk b₀ (copyGrain pool lost d x).1 := by
  refine Rg.step h₀ ?_ hm₀
  clear h₀ hm₀
  rcases d with ⟨s₀, x₀⟩
  dsimp only
  unfold copyGrain
  try dsimp only
  repeat' (first
    | with_reducible exact Rg.refl _ _
    | with_reducible assumption
    | exact (rfl : (_ : Nat) = _)
    | with_reducible refine State.event_rg ?_ ?_
    | with_reducible refine State.raise_rg ?_ ?_
    | with_reducible refine State.addLoss_rg ?_ ?_
    | with_reducible refine State.pack_rg ?_ ?_
    | with_reducible refine State.readSources_rg ?_ ?_
    | with_reducible refine State.count_rg ?_ ?_
    | with_reducible refine State.setReclaim_rg ?_ ?_
    | with_reducible refine in_FTL_COPIED ?_
    | with_reducible refine InSet.ite ?_ ?_
    | exact (rfl : (_ : Bool) = _)
    | dsimp only
    | with_reducible refine Rg.ite ?_ ?_
    | with_reducible refine Rg.ite₁ ?_ ?_
    | with_reducible refine RgS.ite ?_ ?_
    | with_reducible refine RgP.ite ?_ ?_
    | with_reducible exact RgS.none
    | with_reducible refine RgS.some ?_
    | with_reducible refine RgS.map ?_
    | with_reducible exact RgP.none
    | with_reducible refine RgP.some ?_
    | with_reducible refine Rg.elim ?_ ?_
    | with_reducible refine Rg.foldl ?_ _ _ ?_
    | with_reducible refine Rg.foldl₂ ?_ _ _ ?_
    | intro _ _ _ _ _ _
    | intro _ _ _ _ _
    | intro _ _ _ _
    | intro _ _ _
    | intro _ _
    | intro _
    | with_reducible refine Rg.pair (h := ?_) (e := by assumption)
    | with_reducible refine RgO.got (h := ?_) (e := by assumption)
    | with_reducible refine RgS.get (h := ?_) (e := by assumption)
    | with_reducible refine RgP.get (h := ?_) (e := by assumption)
    | split)

theorem State.copyGrains_rg {msk : Nat} {b₀ : State} {s : State} {pool : Nat} {n : Nat} {g : Seg} {lost : List Nat} {places : List (List Place)} (h₀ : Rg msk b₀ s) (hm₀ : 96107167241834975113312584178489302142293605564759693426022086900215549269734295596140391520348221122700296749968275382771190405450316110663556418983323307808 ||| msk = msk) :
    Rg msk b₀ (State.copyGrains s pool n g lost places) := by
  refine Rg.step h₀ ?_ hm₀
  clear h₀ hm₀
  unfold State.copyGrains
  try dsimp only
  repeat' (first
    | with_reducible exact Rg.refl _ _
    | with_reducible assumption
    | exact (rfl : (_ : Nat) = _)
    | with_reducible refine copyGrain_rg ?_ ?_
    | with_reducible refine Rg.foldl₂ ?_ _ _ ?_
    | intro _ _ _)

theorem execReclaimMove_rg {msk : Nat} {b₀ : State} {pool : Nat} {seg : Nat} {n : Nat} {lost : List Nat} {places : List (List Place)} {s : State} (h₀ : Rg msk b₀ s) (hm₀ : 96107167241834975113312584178489302142293605564759693426022086900215549269734295596140391520348221122700296749968275382771190405450316110663556418983323307808 ||| msk = msk) :
    RgO msk b₀ (execReclaimMove pool seg n lost places s) := by
  refine RgO.step h₀ ?_ hm₀
  clear h₀ hm₀
  unfold execReclaimMove
  try dsimp only
  repeat' (first
    | with_reducible exact Rg.refl _ _
    | exact (rfl : (_ : Nat) = _)
    | with_reducible refine State.gcMay_rg ?_ ?_
    | with_reducible refine State.copyGrains_rg ?_ ?_
    | with_reducible refine State.setReclaim_rg ?_ ?_
    | with_reducible refine RgO.ite ?_ ?_
    | with_reducible refine RgO.next ?_
    | with_reducible refine Rg.pair (h := ?_) (e := by assumption)
    | split)

theorem State.metaPack_rg {msk : Nat} {b₀ : State} {s : State} {pool : Nat} {places : List (List Place)} {x3 : List Stored} (h₀ : Rg msk b₀ s) (hm₀ : 96107167241834975113312584178489302142293605564759693426004588894417285174339314651986736650895832378685270980973606391760033456332208787617096250262101757728 ||| msk = msk) :
    RgP msk b₀ (State.metaPack s pool places x3) := by
  refine RgP.step h₀ ?_ hm₀
  clear h₀ hm₀
  fun_induction State.metaPack 
  all_goals try dsimp +zetaDelta only at *
  all_goals repeat' (first
    | with_reducible exact Rg.refl _ _
    | with_reducible assumption
    | exact (rfl : (_ : Nat) = _)
    | with_reducible refine Rg.trans ?_ (by assumption)
    | with_reducible refine RgP.trans ?_ (by assumption)
    | with_reducible refine State.pack_rg ?_ ?_
    | dsimp only
    | with_reducible refine Rg.ite ?_ ?_
    | with_reducible refine Rg.ite₁ ?_ ?_
    | with_reducible refine RgS.ite ?_ ?_
    | with_reducible refine RgP.ite ?_ ?_
    | with_reducible exact RgS.none
    | with_reducible refine RgS.some ?_
    | with_reducible refine RgS.map ?_
    | with_reducible exact RgP.none
    | with_reducible refine RgP.some ?_
    | with_reducible refine Rg.elim ?_ ?_
    | with_reducible refine Rg.foldl ?_ _ _ ?_
    | with_reducible refine Rg.foldl₂ ?_ _ _ ?_
    | intro _ _ _ _ _ _
    | intro _ _ _ _ _
    | intro _ _ _ _
    | intro _ _ _
    | intro _ _
    | intro _
    | with_reducible refine Rg.pair (h := ?_) (e := by assumption)
    | with_reducible refine RgO.got (h := ?_) (e := by assumption)
    | with_reducible refine RgS.get (h := ?_) (e := by assumption)
    | with_reducible refine RgP.get (h := ?_) (e := by assumption)
    | split)

theorem State.poolRecord_rg {msk : Nat} {b₀ : State} {s : State} {pool : Nat} {src : Nat} (h₀ : Rg msk b₀ s) (hm₀ : 96107167241834975113312584178489302142293605564759693426004588894417285174339314651986626222954283729664672024879809959352794238588654061432213649874520966944 ||| msk = msk) :
    Rg msk b₀ (State.poolRecord s pool src) := by
  refine Rg.step h₀ ?_ hm₀
  clear h₀ hm₀
  unfold State.poolRecord
  try dsimp only
  repeat' (first
    | with_reducible exact Rg.refl _ _
    | exact (rfl : (_ : Nat) = _)
    | with_reducible refine State.record_rg ?_ ?_)

theorem State.checkpointAsk_rg {msk : Nat} {b₀ : State} {s : State} {pool : Nat} (h₀ : Rg msk b₀ s) (hm₀ : 0 ||| msk = msk) :
    Rg msk b₀ (State.checkpointAsk s pool) := by
  refine Rg.step h₀ ?_ hm₀
  clear h₀ hm₀
  unfold State.checkpointAsk
  try dsimp only
  repeat' (first
    | with_reducible exact Rg.refl _ _
    | with_reducible assumption
    | exact (rfl : (_ : Nat) = _)
    | with_reducible refine State.setPool_rg ?_ ?_
    | dsimp only
    | with_reducible refine Rg.ite ?_ ?_
    | with_reducible refine Rg.ite₁ ?_ ?_
    | with_reducible refine RgS.ite ?_ ?_
    | with_reducible refine RgP.ite ?_ ?_
    | with_reducible exact RgS.none
    | with_reducible refine RgS.some ?_
    | with_reducible refine RgS.map ?_
    | with_reducible exact RgP.none
    | with_reducible refine RgP.some ?_
    | with_reducible refine Rg.elim ?_ ?_
    | with_reducible refine Rg.foldl ?_ _ _ ?_
    | with_reducible refine Rg.foldl₂ ?_ _ _ ?_
    | intro _ _ _ _ _ _
    | intro _ _ _ _ _
    | intro _ _ _ _
    | intro _ _ _
    | intro _ _
    | intro _
    | with_reducible refine Rg.pair (h := ?_) (e := by assumption)
    | with_reducible refine RgO.got (h := ?_) (e := by assumption)
    | with_reducible refine RgS.get (h := ?_) (e := by assumption)
    | with_reducible refine RgP.get (h := ?_) (e := by assumption)
    | split)

theorem State.bandErase_rg {msk : Nat} {b₀ : State} {s : State} {pool : Nat} {c : Nat} {b : BandCopy} (h₀ : Rg msk b₀ s) (hm₀ : 110427941548649020598956093796432407239217743554726184882600387580790784 ||| msk = msk) :
    Rg msk b₀ (State.bandErase s pool c b) := by
  refine Rg.step h₀ ?_ hm₀
  clear h₀ hm₀
  unfold State.bandErase
  try dsimp only
  repeat' (first
    | with_reducible exact Rg.refl _ _
    | exact (rfl : (_ : Nat) = _)
    | with_reducible refine State.sendMod_rg ?_ ?_
    | with_reducible refine Rg.ite ?_ ?_)

theorem State.bandRestored_rg {msk : Nat} {b₀ : State} {s : State} {pool : Nat} (h₀ : Rg msk b₀ s) (hm₀ : 32 ||| msk = msk) :
    Rg msk b₀ (State.bandRestored s pool) := by
  refine Rg.step h₀ ?_ hm₀
  clear h₀ hm₀
  unfold State.bandRestored
  try dsimp only
  repeat' (first
    | with_reducible exact Rg.refl _ _
    | exact (rfl : (_ : Nat) = _)
    | with_reducible refine State.setPool_rg ?_ ?_
    | with_reducible refine State.event_rg ?_ ?_
    | with_reducible refine Rg.ite ?_ ?_
    | split)

theorem State.checkpointEnd_rg {msk : Nat} {b₀ : State} {s : State} {pool : Nat} {p : Pool} {c : Nat} {restores : Bool} (h₀ : Rg msk b₀ s) (hm₀ : 110427941548649020598956093796432407239217743554726184882600387580790816 ||| msk = msk) :
    Rg msk b₀ (State.checkpointEnd s pool p c restores) := by
  refine Rg.step h₀ ?_ hm₀
  clear h₀ hm₀
  unfold State.checkpointEnd
  try dsimp only
  repeat' (first
    | with_reducible exact Rg.refl _ _
    | with_reducible assumption
    | exact (rfl : (_ : Nat) = _)
    | with_reducible refine State.bandErase_rg ?_ ?_
    | with_reducible refine State.setPool_rg ?_ ?_
    | with_reducible refine State.bandRestored_rg ?_ ?_
    | dsimp only
    | with_reducible refine Rg.ite ?_ ?_
    | with_reducible refine Rg.ite₁ ?_ ?_
    | with_reducible refine RgS.ite ?_ ?_
    | with_reducible refine RgP.ite ?_ ?_
    | with_reducible exact RgS.none
    | with_reducible refine RgS.some ?_
    | with_reducible refine RgS.map ?_
    | with_reducible exact RgP.none
    | with_reducible refine RgP.some ?_
    | with_reducible refine Rg.elim ?_ ?_
    | with_reducible refine Rg.foldl ?_ _ _ ?_
    | with_reducible refine Rg.foldl₂ ?_ _ _ ?_
    | intro _ _ _ _ _ _
    | intro _ _ _ _ _
    | intro _ _ _ _
    | intro _ _ _
    | intro _ _
    | intro _
    | with_reducible refine Rg.pair (h := ?_) (e := by assumption)
    | with_reducible refine RgO.got (h := ?_) (e := by assumption)
    | with_reducible refine RgS.get (h := ?_) (e := by assumption)
    | with_reducible refine RgP.get (h := ?_) (e := by assumption)
    | split
    | refine Rg.mk' ?_)

theorem State.rootAnswer_rg {msk : Nat} {b₀ : State} {s : State} {pool : Nat} {m : Nat} {ok : Bool} (h₀ : Rg msk b₀ s) (hm₀ : 110427941548649020598956093796432407239217743554726184882600387580790816 ||| msk = msk) :
    Rg msk b₀ (State.rootAnswer s pool m ok) := by
  refine Rg.step h₀ ?_ hm₀
  clear h₀ hm₀
  unfold State.rootAnswer
  try dsimp only
  repeat' (first
    | with_reducible exact Rg.refl _ _
    | with_reducible assumption
    | exact (rfl : (_ : Nat) = _)
    | with_reducible refine State.setPool_rg ?_ ?_
    | with_reducible refine State.checkpointEnd_rg ?_ ?_
    | dsimp only
    | with_reducible refine Rg.ite ?_ ?_
    | with_reducible refine Rg.ite₁ ?_ ?_
    | with_reducible refine RgS.ite ?_ ?_
    | with_reducible refine RgP.ite ?_ ?_
    | with_reducible exact RgS.none
    | with_reducible refine RgS.some ?_
    | with_reducible refine RgS.map ?_
    | with_reducible exact RgP.none
    | with_reducible refine RgP.some ?_
    | with_reducible refine Rg.elim ?_ ?_
    | with_reducible refine Rg.foldl ?_ _ _ ?_
    | with_reducible refine Rg.foldl₂ ?_ _ _ ?_
    | intro _ _ _ _ _ _
    | intro _ _ _ _ _
    | intro _ _ _ _
    | intro _ _ _
    | intro _ _
    | intro _
    | with_reducible refine Rg.pair (h := ?_) (e := by assumption)
    | with_reducible refine RgO.got (h := ?_) (e := by assumption)
    | with_reducible refine RgS.get (h := ?_) (e := by assumption)
    | with_reducible refine RgP.get (h := ?_) (e := by assumption)
    | split)

theorem execSegmentErase_rg {msk : Nat} {b₀ : State} {seg : Nat} {s : State} (h₀ : Rg msk b₀ s) (hm₀ : 0 ||| msk = msk) :
    RgO msk b₀ (execSegmentErase seg s) := by
  refine RgO.step h₀ ?_ hm₀
  clear h₀ hm₀
  unfold execSegmentErase
  try dsimp only
  repeat' (first
    | with_reducible exact Rg.refl _ _
    | exact (rfl : (_ : Nat) = _)
    | with_reducible refine State.addTxn_rg ?_ ?_
    | with_reducible refine State.setSeg_rg ?_ ?_
    | with_reducible refine RgO.ite ?_ ?_
    | with_reducible refine RgO.next ?_
    | split)

theorem State.makeVol_rg {msk : Nat} {b₀ : State} {s : State} {v : Nat} {pool : Nat} {format : Nat} {grains : Nat} (h₀ : Rg msk b₀ s) (hm₀ : 0 ||| msk = msk) :
    Rg msk b₀ (State.makeVol s v pool format grains) := by
  refine Rg.step h₀ ?_ hm₀
  clear h₀ hm₀
  unfold State.makeVol
  try dsimp only
  repeat' (first
    | with_reducible exact Rg.refl _ _
    | refine Rg.mk' ?_)

theorem State.volCreateRun_rg {msk : Nat} {b₀ : State} {s : State} {args : List Byte} (h₀ : Rg msk b₀ s) (hm₀ : 948568795032094272909893509191171341133987714380927500611236528192824358010355744 ||| msk = msk) :
    Rg msk b₀ (State.volCreateRun s args) := by
  refine Rg.step h₀ ?_ hm₀
  clear h₀ hm₀
  unfold State.volCreateRun
  try dsimp only
  repeat' (first
    | with_reducible exact Rg.refl _ _
    | exact (rfl : (_ : Nat) = _)
    | with_reducible refine State.makeVol_rg ?_ ?_
    | with_reducible refine State.event_rg ?_ ?_
    | with_reducible refine State.actEnd_rg ?_ ?_
    | with_reducible refine State.wrN_rg ?_ ?_
    | with_reducible refine in_FTL_RESULT ?_
    | exact (rfl : (_ : Bool) = _))

theorem State.volResizeRun_rg {msk : Nat} {b₀ : State} {s : State} {args : List Byte} (h₀ : Rg msk b₀ s) (hm₀ : 32 ||| msk = msk) :
    Rg msk b₀ (State.volResizeRun s args) := by
  refine Rg.step h₀ ?_ hm₀
  clear h₀ hm₀
  unfold State.volResizeRun
  try dsimp only
  repeat' (first
    | with_reducible exact Rg.refl _ _
    | exact (rfl : (_ : Nat) = _)
    | with_reducible refine State.addTxns_rg ?_ ?_
    | with_reducible refine State.setVol_rg ?_ ?_
    | with_reducible refine State.event_rg ?_ ?_
    | with_reducible refine State.actEnd_rg ?_ ?_
    | split)

theorem State.snapRun_rg {msk : Nat} {b₀ : State} {s : State} {args : List Byte} (h₀ : Rg msk b₀ s) (hm₀ : 0 ||| msk = msk) :
    Rg msk b₀ (State.snapRun s args) := by
  refine Rg.step h₀ ?_ hm₀
  clear h₀ hm₀
  unfold State.snapRun
  try dsimp only
  repeat' (first
    | with_reducible exact Rg.refl _ _
    | refine Rg.mk' ?_)

theorem State.deleteRun_rg {msk : Nat} {b₀ : State} {s : State} {args : List Byte} (h₀ : Rg msk b₀ s) (hm₀ : 0 ||| msk = msk) :
    Rg msk b₀ (State.deleteRun s args) := by
  refine Rg.step h₀ ?_ hm₀
  clear h₀ hm₀
  unfold State.deleteRun
  try dsimp only
  repeat' (first
    | with_reducible exact Rg.refl _ _
    | exact (rfl : (_ : Nat) = _)
    | with_reducible refine State.shareBy_rg ?_ ?_
    | with_reducible refine State.setVol_rg ?_ ?_
    | with_reducible refine Rg.ite ?_ ?_
    | split)

theorem State.ftlActRun_rg {msk : Nat} {b₀ : State} {s : State} {a : Activity} (h₀ : Rg msk b₀ s) (hm₀ : 1422853192548141409364840263786757011700981571571391250916854792289236537015533600 ||| msk = msk) :
    Rg msk b₀ (State.ftlActRun s a) := by
  refine Rg.step h₀ ?_ hm₀
  clear h₀ hm₀
  unfold State.ftlActRun
  try dsimp only
  repeat' (first
    | with_reducible exact Rg.refl _ _
    | exact (rfl : (_ : Nat) = _)
    | with_reducible refine State.putBit_rg ?_ ?_
    | with_reducible refine State.volCreateRun_rg ?_ ?_
    | with_reducible refine State.volResizeRun_rg ?_ ?_
    | with_reducible refine State.snapRun_rg ?_ ?_
    | with_reducible refine State.deleteRun_rg ?_ ?_
    | with_reducible refine in_FTL_CMD_STATUS ?_
    | exact (rfl : (_ : Bool) = _)
    | split)

theorem State.ftlCommand_rg {msk : Nat} {b₀ : State} {s : State} {f : State → State} (hf : ∀ t0, Rg msk b₀ t0 → Rg msk b₀ (f t0)) (h₀ : Rg msk b₀ s) (hm₀ : 96107167241834975113312584178489302142293605564759693426004588894417285174339314651986626222954283729664672024879809959352794238588654061432213649874520966944 ||| msk = msk) :
    RgO msk b₀ (State.ftlCommand s f) := by
  unfold State.ftlCommand
  try dsimp only
  repeat' (first
    | with_reducible assumption
    | with_reducible refine State.writeDiscarded_rg ?_ ?_
    | with_reducible refine hf _ ?_
    | with_reducible refine Rg.ite ?_ ?_
    | with_reducible refine RgO.next ?_)

theorem State.purge_rg {msk : Nat} {b₀ : State} {s : State} {p : Place} (h₀ : Rg msk b₀ s) (hm₀ : 0 ||| msk = msk) :
    Rg msk b₀ (State.purge s p) := by
  refine Rg.step h₀ ?_ hm₀
  clear h₀ hm₀
  unfold State.purge
  try dsimp only
  repeat' (first
    | with_reducible exact Rg.refl _ _
    | refine Rg.mk' ?_)

theorem execSnapCreateRecord_rg {msk : Nat} {b₀ : State} {target : Nat} {s : State} (h₀ : Rg msk b₀ s) (hm₀ : 0 ||| msk = msk) :
    RgO msk b₀ (execSnapCreateRecord target s) := by
  refine RgO.step h₀ ?_ hm₀
  clear h₀ hm₀
  unfold execSnapCreateRecord
  try dsimp only
  repeat' (first
    | with_reducible exact Rg.refl _ _
    | exact (rfl : (_ : Nat) = _)
    | with_reducible refine State.addTxn_rg ?_ ?_
    | with_reducible refine RgO.ite ?_ ?_
    | with_reducible refine RgO.next ?_
    | split
    | refine Rg.mk' ?_)

theorem State.ftlAnswer_rg {msk : Nat} {b₀ : State} {s : State} {status : Nat} {queued : Bool} (h₀ : Rg msk b₀ s) (hm₀ : 474284397516047136454946754595585670566993857190463750305618264096412179005177856 ||| msk = msk) :
    Rg msk b₀ (State.ftlAnswer s status queued) := by
  refine Rg.step h₀ ?_ hm₀
  clear h₀ hm₀
  unfold State.ftlAnswer
  try dsimp only
  repeat' (first
    | with_reducible exact Rg.refl _ _
    | with_reducible refine State.wrN_rg ?_ ?_
    | with_reducible refine in_FTL_CMD_STATUS ?_
    | exact (rfl : (_ : Bool) = _))

theorem execRoResume_rg {msk : Nat} {b₀ : State} {s : State} (h₀ : Rg msk b₀ s) (hm₀ : 96107167241834975113312584178489302142293605564759693426004588894417285174339788936384142270090738676419267610550376953209984702338959679696310062053526144800 ||| msk = msk) :
    RgO msk b₀ (execRoResume s) := by
  refine RgO.step h₀ ?_ hm₀
  clear h₀ hm₀
  unfold execRoResume
  try dsimp only
  repeat' (first
    | with_reducible exact Rg.refl _ _
    | with_reducible assumption
    | exact (rfl : (_ : Nat) = _)
    | with_reducible refine State.ftlCommand_rg ?_ ?_ ?_
    | with_reducible refine State.ftlAnswer_rg ?_ ?_
    | with_reducible refine State.event_rg ?_ ?_
    | with_reducible refine State.setPool_rg ?_ ?_
    | with_reducible refine Rg.ite ?_ ?_
    | intro _ _
    | split)

theorem State.eraseScan_rg {msk : Nat} {b₀ : State} {s : State} {seg : Nat} (h₀ : Rg msk b₀ s) (hm₀ : 0 ||| msk = msk) :
    Rg msk b₀ (State.eraseScan s seg) := by
  refine Rg.step h₀ ?_ hm₀
  clear h₀ hm₀
  unfold State.eraseScan
  try dsimp only
  repeat' (first
    | with_reducible exact Rg.refl _ _
    | with_reducible assumption
    | exact (rfl : (_ : Nat) = _)
    | with_reducible refine State.addTxn_rg ?_ ?_
    | with_reducible refine State.setSeg_rg ?_ ?_
    | with_reducible refine State.purge_rg ?_ ?_
    | with_reducible refine Rg.ite ?_ ?_
    | with_reducible refine Rg.foldl ?_ _ _ ?_
    | intro _ _ _
    | split)

theorem State.setSpace_rg {msk : Nat} {b₀ : State} {s : State} {pool : Nat} {v : Nat} {ev : Nat} (h₀ : Rg msk b₀ s) (hm₀ : 96107167241834975113312584178489302142293605564759693426004588894417285174339314652438939071537550118037996185069997099404630116188812514711344837405431629600 ||| msk = msk) :
    Rg msk b₀ (State.setSpace s pool v ev) := by
  refine Rg.step h₀ ?_ hm₀
  clear h₀ hm₀
  unfold State.setSpace
  try dsimp only
  repeat' (first
    | with_reducible exact Rg.refl _ _
    | exact (rfl : (_ : Nat) = _)
    | with_reducible refine State.poolRecord_rg ?_ ?_
    | with_reducible refine State.event_rg ?_ ?_
    | with_reducible refine State.putFld_rg ?_ ?_
    | with_reducible refine in_FTL_POOL_STATE ?_
    | exact (rfl : (_ : Bool) = _))

theorem State.spaceOne_rg {msk : Nat} {b₀ : State} {s : State} {pool : Nat} {p : Pool} (h₀ : Rg msk b₀ s) (hm₀ : 96107167241834975113312584178489302142293605564759693426004588894417285174339314652438939071537550118037996185069997099404630116188812514711344837405431629600 ||| msk = msk) :
    Rg msk b₀ (State.spaceOne s pool p) := by
  refine Rg.step h₀ ?_ hm₀
  clear h₀ hm₀
  unfold State.spaceOne
  try dsimp only
  repeat' (first
    | with_reducible exact Rg.refl _ _
    | exact (rfl : (_ : Nat) = _)
    | with_reducible refine State.setPool_rg ?_ ?_
    | with_reducible refine State.setSpace_rg ?_ ?_
    | with_reducible refine Rg.ite ?_ ?_)

theorem State.spaceChange_rg {msk : Nat} {b₀ : State} {s : State} (h₀ : Rg msk b₀ s) (hm₀ : 96107167241834975113312584178489302142293605564759693426004588894417285174339314652438939071537550118037996185069997099404630116188812514711344837405431629600 ||| msk = msk) :
    Rg msk b₀ (State.spaceChange s) := by
  refine Rg.step h₀ ?_ hm₀
  clear h₀ hm₀
  unfold State.spaceChange
  try dsimp only
  repeat' (first
    | with_reducible exact Rg.refl _ _
    | with_reducible assumption
    | exact (rfl : (_ : Nat) = _)
    | with_reducible refine State.spaceOne_rg ?_ ?_
    | with_reducible refine Rg.foldl ?_ _ _ ?_
    | intro _ _ _)

theorem execSnapCut_rg {msk : Nat} {b₀ : State} {target : Nat} {s : State} (h₀ : Rg msk b₀ s) (hm₀ : 0 ||| msk = msk) :
    RgO msk b₀ (execSnapCut target s) := by
  refine RgO.step h₀ ?_ hm₀
  clear h₀ hm₀
  unfold execSnapCut
  try dsimp only
  repeat' (first
    | with_reducible exact Rg.refl _ _
    | with_reducible refine RgO.next ?_
    | refine Rg.mk' ?_)

theorem State.ftlStart_rg {msk : Nat} {b₀ : State} {s : State} {a : Activity} {run : State → State} (hf : ∀ t0, Rg msk b₀ t0 → Rg msk b₀ (run t0)) (h₀ : Rg msk b₀ s) (hm₀ : 6097165137335922326917182089439777940915230747392521779021791411052701693429491181744227453131553323165394165310247615960935923910788937416736 ||| msk = msk) :
    Rg msk b₀ (State.ftlStart s a run) := by
  unfold State.ftlStart
  try dsimp only
  repeat' (first
    | with_reducible assumption
    | exact Rg.sub rfl hm₀
    | with_reducible refine State.actStart_rg ?_ ?_
    | with_reducible refine State.ftlAnswer_rg ?_ ?_
    | with_reducible refine hf _ ?_
    | with_reducible refine Rg.ite ?_ ?_)

theorem execSnapCreate_rg {msk : Nat} {b₀ : State} {s : State} (h₀ : Rg msk b₀ s) (hm₀ : 96107167241834981210477721514411629059475695004537634341235336286939064196130725704688319652445465473892125156433133124746959548836270022368137560663458383648 ||| msk = msk) :
    RgO msk b₀ (execSnapCreate s) := by
  refine RgO.step h₀ ?_ hm₀
  clear h₀ hm₀
  unfold execSnapCreate
  try dsimp only
  repeat' (first
    | with_reducible exact Rg.refl _ _
    | with_reducible assumption
    | exact (rfl : (_ : Nat) = _)
    | with_reducible refine State.ftlCommand_rg ?_ ?_ ?_
    | with_reducible refine State.ftlAnswer_rg ?_ ?_
    | with_reducible refine State.event_rg ?_ ?_
    | with_reducible refine State.ftlStart_rg ?_ ?_ ?_
    | with_reducible refine State.snapRun_rg ?_ ?_
    | with_reducible refine Rg.ite ?_ ?_
    | intro _ _
    | split)

theorem State.wearErase_rg {msk : Nat} {b₀ : State} {s : State} {pool : Nat} (h₀ : Rg msk b₀ s) (hm₀ : 0 ||| msk = msk) :
    Rg msk b₀ (State.wearErase s pool) := by
  refine Rg.step h₀ ?_ hm₀
  clear h₀ hm₀
  unfold State.wearErase
  try dsimp only
  repeat' (first
    | with_reducible exact Rg.refl _ _
    | split
    | refine Rg.mk' ?_)

theorem State.eraseOk_rg {msk : Nat} {b₀ : State} {s : State} {seg : Nat} {k : Nat} (h₀ : Rg msk b₀ s) (hm₀ : 0 ||| msk = msk) :
    Rg msk b₀ (State.eraseOk s seg k) := by
  refine Rg.step h₀ ?_ hm₀
  clear h₀ hm₀
  unfold State.eraseOk
  try dsimp only
  repeat' (first
    | with_reducible exact Rg.refl _ _
    | exact (rfl : (_ : Nat) = _)
    | with_reducible refine State.wearErase_rg ?_ ?_
    | with_reducible refine State.setBg_rg ?_ ?_
    | with_reducible refine State.eraseScan_rg ?_ ?_
    | with_reducible refine State.setSeg_rg ?_ ?_
    | split)

theorem State.anchorWrite_rg {msk : Nat} {b₀ : State} {s : State} {pool : Nat} {m : Nat} {data : List Byte} (h₀ : Rg msk b₀ s) (hm₀ : 110427941548649020598956093796432407239217743554726184882600387580790784 ||| msk = msk) :
    Rg msk b₀ (State.anchorWrite s pool m data) := by
  refine Rg.step h₀ ?_ hm₀
  clear h₀ hm₀
  unfold State.anchorWrite
  try dsimp only
  repeat' (first
    | with_reducible exact Rg.refl _ _
    | with_reducible assumption
    | exact (rfl : (_ : Nat) = _)
    | with_reducible refine State.sendMod_rg ?_ ?_
    | dsimp only
    | with_reducible refine Rg.ite ?_ ?_
    | with_reducible refine Rg.ite₁ ?_ ?_
    | with_reducible refine RgS.ite ?_ ?_
    | with_reducible refine RgP.ite ?_ ?_
    | with_reducible exact RgS.none
    | with_reducible refine RgS.some ?_
    | with_reducible refine RgS.map ?_
    | with_reducible exact RgP.none
    | with_reducible refine RgP.some ?_
    | with_reducible refine Rg.elim ?_ ?_
    | with_reducible refine Rg.foldl ?_ _ _ ?_
    | with_reducible refine Rg.foldl₂ ?_ _ _ ?_
    | intro _ _ _ _ _ _
    | intro _ _ _ _ _
    | intro _ _ _ _
    | intro _ _ _
    | intro _ _
    | intro _
    | with_reducible refine Rg.pair (h := ?_) (e := by assumption)
    | with_reducible refine RgO.got (h := ?_) (e := by assumption)
    | with_reducible refine RgS.get (h := ?_) (e := by assumption)
    | with_reducible refine RgP.get (h := ?_) (e := by assumption)
    | split
    | refine Rg.mk' ?_)

theorem State.checkpointRoots_rg {msk : Nat} {b₀ : State} {s : State} (h₀ : Rg msk b₀ s) (hm₀ : 110427941548649020598956093796432407239217743554726184882600387580790784 ||| msk = msk) :
    Rg msk b₀ (State.checkpointRoots s) := by
  refine Rg.step h₀ ?_ hm₀
  clear h₀ hm₀
  unfold State.checkpointRoots
  try dsimp only
  repeat' (first
    | with_reducible exact Rg.refl _ _
    | with_reducible assumption
    | exact (rfl : (_ : Nat) = _)
    | with_reducible refine State.setPool_rg ?_ ?_
    | with_reducible refine State.anchorWrite_rg ?_ ?_
    | dsimp only
    | with_reducible refine Rg.ite ?_ ?_
    | with_reducible refine Rg.ite₁ ?_ ?_
    | with_reducible refine RgS.ite ?_ ?_
    | with_reducible refine RgP.ite ?_ ?_
    | with_reducible exact RgS.none
    | with_reducible refine RgS.some ?_
    | with_reducible refine RgS.map ?_
    | with_reducible exact RgP.none
    | with_reducible refine RgP.some ?_
    | with_reducible refine Rg.elim ?_ ?_
    | with_reducible refine Rg.foldl ?_ _ _ ?_
    | with_reducible refine Rg.foldl₂ ?_ _ _ ?_
    | intro _ _ _ _ _ _
    | intro _ _ _ _ _
    | intro _ _ _ _
    | intro _ _ _
    | intro _ _
    | intro _
    | with_reducible refine Rg.pair (h := ?_) (e := by assumption)
    | with_reducible refine RgO.got (h := ?_) (e := by assumption)
    | with_reducible refine RgS.get (h := ?_) (e := by assumption)
    | with_reducible refine RgP.get (h := ?_) (e := by assumption)
    | split)

theorem State.ckptPacked_rg {msk : Nat} {b₀ : State} {s : State} {pool : Nat} {c : Nat} {l : List (Stored × Nat)} (h₀ : Rg msk b₀ s) (hm₀ : 96107167241834975113312584178489302142293605564759693426004588894417285174339314651986736650895832378685270980973606391760033456332208787617096250262101757728 ||| msk = msk) :
    Rg msk b₀ (State.ckptPacked s pool c l) := by
  refine Rg.step h₀ ?_ hm₀
  clear h₀ hm₀
  unfold State.ckptPacked
  try dsimp only
  repeat' (first
    | with_reducible exact Rg.refl _ _
    | with_reducible assumption
    | exact (rfl : (_ : Nat) = _)
    | with_reducible refine State.closeStripe_rg ?_ ?_
    | with_reducible refine State.setPool_rg ?_ ?_
    | dsimp only
    | with_reducible refine Rg.ite ?_ ?_
    | with_reducible refine Rg.ite₁ ?_ ?_
    | with_reducible refine RgS.ite ?_ ?_
    | with_reducible refine RgP.ite ?_ ?_
    | with_reducible exact RgS.none
    | with_reducible refine RgS.some ?_
    | with_reducible refine RgS.map ?_
    | with_reducible exact RgP.none
    | with_reducible refine RgP.some ?_
    | with_reducible refine Rg.elim ?_ ?_
    | with_reducible refine Rg.foldl ?_ _ _ ?_
    | with_reducible refine Rg.foldl₂ ?_ _ _ ?_
    | intro _ _ _ _ _ _
    | intro _ _ _ _ _
    | intro _ _ _ _
    | intro _ _ _
    | intro _ _
    | intro _
    | with_reducible refine Rg.pair (h := ?_) (e := by assumption)
    | with_reducible refine RgO.got (h := ?_) (e := by assumption)
    | with_reducible refine RgS.get (h := ?_) (e := by assumption)
    | with_reducible refine RgP.get (h := ?_) (e := by assumption)
    | split
    | refine Rg.mk' ?_)

theorem State.checkpointStart_rg {msk : Nat} {b₀ : State} {s : State} {pool : Nat} {p : Pool} {places : List (List Place)} (h₀ : Rg msk b₀ s) (hm₀ : 96107167241834975113312584178489302142293605564759693426004588894417285174339314651986736650895832378685270980973606391760033456332208787617096250262101757728 ||| msk = msk) :
    RgS msk b₀ (State.checkpointStart s pool p places) := by
  refine RgS.step h₀ ?_ hm₀
  clear h₀ hm₀
  unfold State.checkpointStart
  try dsimp only
  repeat' (first
    | with_reducible exact Rg.refl _ _
    | with_reducible assumption
    | exact (rfl : (_ : Nat) = _)
    | with_reducible refine State.metaPack_rg ?_ ?_
    | with_reducible refine State.ckptPacked_rg ?_ ?_
    | dsimp only
    | with_reducible refine Rg.ite ?_ ?_
    | with_reducible refine Rg.ite₁ ?_ ?_
    | with_reducible refine RgS.ite ?_ ?_
    | with_reducible refine RgP.ite ?_ ?_
    | with_reducible exact RgS.none
    | with_reducible refine RgS.some ?_
    | with_reducible refine RgS.map ?_
    | with_reducible exact RgP.none
    | with_reducible refine RgP.some ?_
    | with_reducible refine Rg.elim ?_ ?_
    | with_reducible refine Rg.foldl ?_ _ _ ?_
    | with_reducible refine Rg.foldl₂ ?_ _ _ ?_
    | intro _ _ _ _ _ _
    | intro _ _ _ _ _
    | intro _ _ _ _
    | intro _ _ _
    | intro _ _
    | intro _
    | with_reducible refine Rg.pair (h := ?_) (e := by assumption)
    | with_reducible refine RgO.got (h := ?_) (e := by assumption)
    | with_reducible refine RgS.get (h := ?_) (e := by assumption)
    | with_reducible refine RgP.get (h := ?_) (e := by assumption)
    | split)

theorem execVolResize_rg {msk : Nat} {b₀ : State} {s : State} (h₀ : Rg msk b₀ s) (hm₀ : 96107167241834981210477721514411629059475695004537634341235336286939064196130725704688319652445465473892125156433133124746959548836270022368137560663458383648 ||| msk = msk) :
    RgO msk b₀ (execVolResize s) := by
  refine RgO.step h₀ ?_ hm₀
  clear h₀ hm₀
  unfold execVolResize
  try dsimp only
  repeat' (first
    | with_reducible exact Rg.refl _ _
    | with_reducible assumption
    | exact (rfl : (_ : Nat) = _)
    | with_reducible refine State.ftlCommand_rg ?_ ?_ ?_
    | with_reducible refine State.ftlAnswer_rg ?_ ?_
    | with_reducible refine State.ftlStart_rg ?_ ?_ ?_
    | with_reducible refine State.volResizeRun_rg ?_ ?_
    | with_reducible refine Rg.ite ?_ ?_
    | intro _ _
    | split)

theorem execReclaimSelect_rg {msk : Nat} {b₀ : State} {pool : Nat} {s : State} (h₀ : Rg msk b₀ s) (hm₀ : 0 ||| msk = msk) :
    RgO msk b₀ (execReclaimSelect pool s) := by
  refine RgO.step h₀ ?_ hm₀
  clear h₀ hm₀
  unfold execReclaimSelect
  try dsimp only
  repeat' (first
    | with_reducible exact Rg.refl _ _
    | exact (rfl : (_ : Nat) = _)
    | with_reducible refine State.gcMay_rg ?_ ?_
    | with_reducible refine State.setSeg_rg ?_ ?_
    | with_reducible refine RgO.next ?_
    | with_reducible refine Rg.pair (h := ?_) (e := by assumption)
    | split)

theorem State.deleteCmd_rg {msk : Nat} {b₀ : State} {s : State} {snap : Bool} (h₀ : Rg msk b₀ s) (hm₀ : 96107167241834981210477721514411629059475695004537634341235336286939064196130725704688319652445465473892125156433133124746959548836270022368137560663458383648 ||| msk = msk) :
    RgO msk b₀ (State.deleteCmd s snap) := by
  refine RgO.step h₀ ?_ hm₀
  clear h₀ hm₀
  unfold State.deleteCmd
  try dsimp only
  repeat' (first
    | with_reducible exact Rg.refl _ _
    | with_reducible assumption
    | exact (rfl : (_ : Nat) = _)
    | with_reducible refine State.ftlCommand_rg ?_ ?_ ?_
    | with_reducible refine State.ftlAnswer_rg ?_ ?_
    | with_reducible refine State.ftlStart_rg ?_ ?_ ?_
    | with_reducible refine State.deleteRun_rg ?_ ?_
    | with_reducible refine Rg.ite ?_ ?_
    | intro _ _
    | split)

theorem execVolCreate_rg {msk : Nat} {b₀ : State} {s : State} (h₀ : Rg msk b₀ s) (hm₀ : 96107167241834981210477721514411629059475695004537634341235336286939064196131674273483351746718375367401316327774267112461340476336881258896330385021468739360 ||| msk = msk) :
    RgO msk b₀ (execVolCreate s) := by
  refine RgO.step h₀ ?_ hm₀
  clear h₀ hm₀
  unfold execVolCreate
  try dsimp only
  repeat' (first
    | with_reducible exact Rg.refl _ _
    | with_reducible assumption
    | exact (rfl : (_ : Nat) = _)
    | with_reducible refine State.ftlCommand_rg ?_ ?_ ?_
    | with_reducible refine State.ftlAnswer_rg ?_ ?_
    | with_reducible refine State.ftlStart_rg ?_ ?_ ?_
    | with_reducible refine State.volCreateRun_rg ?_ ?_
    | with_reducible refine Rg.ite ?_ ?_
    | intro _ _)

theorem execSnapDelete_rg {msk : Nat} {b₀ : State} {s : State} (h₀ : Rg msk b₀ s) (hm₀ : 96107167241834981210477721514411629059475695004537634341235336286939064196130725704688319652445465473892125156433133124746959548836270022368137560663458383648 ||| msk = msk) :
    RgO msk b₀ (execSnapDelete s) := by
  refine RgO.step h₀ ?_ hm₀
  clear h₀ hm₀
  unfold execSnapDelete
  try dsimp only
  repeat' (first
    | with_reducible exact Rg.refl _ _
    | exact (rfl : (_ : Nat) = _)
    | with_reducible refine State.deleteCmd_rg ?_ ?_)

theorem execSnapDeleteStep_rg {msk : Nat} {b₀ : State} {v : Nat} {s : State} (h₀ : Rg msk b₀ s) (hm₀ : 0 ||| msk = msk) :
    RgO msk b₀ (execSnapDeleteStep v s) := by
  refine RgO.step h₀ ?_ hm₀
  clear h₀ hm₀
  unfold execSnapDeleteStep
  try dsimp only
  repeat' (first
    | with_reducible exact Rg.refl _ _
    | exact (rfl : (_ : Nat) = _)
    | with_reducible refine State.addTxn_rg ?_ ?_
    | with_reducible refine State.setVol_rg ?_ ?_
    | with_reducible refine RgO.ite ?_ ?_
    | with_reducible refine RgO.next ?_
    | split)

theorem execVolDelete_rg {msk : Nat} {b₀ : State} {s : State} (h₀ : Rg msk b₀ s) (hm₀ : 96107167241834981210477721514411629059475695004537634341235336286939064196130725704688319652445465473892125156433133124746959548836270022368137560663458383648 ||| msk = msk) :
    RgO msk b₀ (execVolDelete s) := by
  refine RgO.step h₀ ?_ hm₀
  clear h₀ hm₀
  unfold execVolDelete
  try dsimp only
  repeat' (first
    | with_reducible exact Rg.refl _ _
    | exact (rfl : (_ : Nat) = _)
    | with_reducible refine State.deleteCmd_rg ?_ ?_)

end Sys2Proof.Machine
end

