-- ==== Sys2Proof/Laws/RgHealth.lean ====
section
/-! SUPPORT. Register frames of the operations of Machine.Health: the registers that each may write. -/

set_option maxRecDepth 20000
set_option Elab.async false
set_option linter.unusedTactic false
set_option linter.unreachableTactic false
set_option linter.unusedVariables false

namespace Sys2Proof.Machine

theorem State.setRedund_rg {msk : Nat} {b₀ : State} {s : State} {pool : Nat} {v : Nat} (h₀ : Rg msk b₀ s) (hm₀ : 96107167241834975113312584178489302142293605564759693426004593166391357016159479442482351410641779323447040898375536993487845760628264075992444883329605502752 ||| msk = msk) :
    Rg msk b₀ (State.setRedund s pool v) := by
  refine Rg.step h₀ ?_ hm₀
  clear h₀ hm₀
  unfold State.setRedund
  try dsimp only
  repeat' (first
    | with_reducible exact Rg.refl _ _
    | exact (rfl : (_ : Nat) = _)
    | with_reducible refine State.poolRecord_rg ?_ ?_
    | with_reducible refine State.putFld_rg ?_ ?_
    | with_reducible refine in_FTL_POOL_STATE ?_
    | with_reducible refine in_SP_STATE ?_
    | exact (rfl : (_ : Bool) = _))

theorem State.setHealth_rg {msk : Nat} {b₀ : State} {s : State} {m : Nat} {f : HealthRec → HealthRec} (h₀ : Rg msk b₀ s) (hm₀ : 0 ||| msk = msk) :
    Rg msk b₀ (State.setHealth s m f) := by
  refine Rg.step h₀ ?_ hm₀
  clear h₀ hm₀
  unfold State.setHealth
  try dsimp only
  repeat' (first
    | with_reducible exact Rg.refl _ _
    | refine Rg.mk' ?_)

theorem State.refreshDue_rg {msk : Nat} {b₀ : State} {s : State} {m : Nat} {d : Nat} {bgrp : Nat} (h₀ : Rg msk b₀ s) (hm₀ : 32 ||| msk = msk) :
    Rg msk b₀ (State.refreshDue s m d bgrp) := by
  refine Rg.step h₀ ?_ hm₀
  clear h₀ hm₀
  unfold State.refreshDue
  try dsimp only
  repeat' (first
    | with_reducible exact Rg.refl _ _
    | with_reducible assumption
    | exact (rfl : (_ : Nat) = _)
    | with_reducible refine State.setHealth_rg ?_ ?_
    | with_reducible refine State.setBg_rg ?_ ?_
    | with_reducible refine State.event_rg ?_ ?_
    | with_reducible refine State.setSeg_rg ?_ ?_
    | with_reducible refine Rg.ite ?_ ?_
    | with_reducible refine Rg.foldl ?_ _ _ ?_
    | intro _ _ _)

theorem State.dieCheck_rg {msk : Nat} {b₀ : State} {s : State} {port : Nat} {m : Nat} {d : Nat} (h₀ : Rg msk b₀ s) (hm₀ : 0 ||| msk = msk) :
    Rg msk b₀ (State.dieCheck s port m d) := by
  refine Rg.step h₀ ?_ hm₀
  clear h₀ hm₀
  unfold State.dieCheck
  try dsimp only
  repeat' (first
    | with_reducible exact Rg.refl _ _
    | with_reducible assumption
    | exact (rfl : (_ : Nat) = _)
    | with_reducible refine State.setSeg_rg ?_ ?_
    | with_reducible refine State.setDie_rg ?_ ?_
    | with_reducible refine Rg.ite ?_ ?_
    | with_reducible refine Rg.foldl ?_ _ _ ?_
    | intro _ _ _)

theorem State.spareInit_rg {msk : Nat} {b₀ : State} {s : State} {port : Nat} {m : Nat} (h₀ : Rg msk b₀ s) (hm₀ : 0 ||| msk = msk) :
    Rg msk b₀ (State.spareInit s port m) := by
  refine Rg.step h₀ ?_ hm₀
  clear h₀ hm₀
  unfold State.spareInit
  try dsimp only
  repeat' (first
    | with_reducible exact Rg.refl _ _
    | with_reducible assumption
    | exact (rfl : (_ : Nat) = _)
    | with_reducible refine State.setDie_rg ?_ ?_
    | with_reducible refine State.setHealth_rg ?_ ?_
    | with_reducible refine Rg.ite ?_ ?_
    | with_reducible refine Rg.foldl ?_ _ _ ?_
    | intro _ _ _)

theorem State.recap_rg {msk : Nat} {b₀ : State} {s : State} {pool : Nat} (h₀ : Rg msk b₀ s) (hm₀ : 0 ||| msk = msk) :
    Rg msk b₀ (State.recap s pool) := by
  refine Rg.step h₀ ?_ hm₀
  clear h₀ hm₀
  unfold State.recap
  try dsimp only
  repeat' (first
    | with_reducible exact Rg.refl _ _
    | exact (rfl : (_ : Nat) = _)
    | with_reducible refine State.setPool_rg ?_ ?_
    | split)

theorem State.healthUpdate_rg {msk : Nat} {b₀ : State} {s : State} {port : Nat} {m : Nat} (h₀ : Rg msk b₀ s) (hm₀ : 0 ||| msk = msk) :
    Rg msk b₀ (State.healthUpdate s port m) := by
  refine Rg.step h₀ ?_ hm₀
  clear h₀ hm₀
  unfold State.healthUpdate
  try dsimp only
  repeat' (first
    | with_reducible exact Rg.refl _ _
    | exact (rfl : (_ : Nat) = _)
    | with_reducible refine State.setHealth_rg ?_ ?_)

theorem State.spareCheck_rg {msk : Nat} {b₀ : State} {s : State} {port : Nat} {m : Nat} (h₀ : Rg msk b₀ s) (hm₀ : 32 ||| msk = msk) :
    Rg msk b₀ (State.spareCheck s port m) := by
  refine Rg.step h₀ ?_ hm₀
  clear h₀ hm₀
  unfold State.spareCheck
  try dsimp only
  repeat' (first
    | with_reducible exact Rg.refl _ _
    | exact (rfl : (_ : Nat) = _)
    | with_reducible refine State.event_rg ?_ ?_
    | with_reducible refine State.setHealth_rg ?_ ?_
    | with_reducible refine Rg.ite ?_ ?_)

theorem State.retireGroup_rg {msk : Nat} {b₀ : State} {s : State} {port : Nat} {m : Nat} {d : Nat} {bgrp : Nat} (h₀ : Rg msk b₀ s) (hm₀ : 96107167241834975113312584178489302142293605564759693426004588894417285174339314651986626222954283729664672024879809959352794238588654061432213649874520966944 ||| msk = msk) :
    Rg msk b₀ (State.retireGroup s port m d bgrp) := by
  refine Rg.step h₀ ?_ hm₀
  clear h₀ hm₀
  unfold State.retireGroup
  try dsimp only
  repeat' (first
    | with_reducible exact Rg.refl _ _
    | exact (rfl : (_ : Nat) = _)
    | with_reducible refine State.setBg_rg ?_ ?_
    | with_reducible refine State.setDie_rg ?_ ?_
    | with_reducible refine State.event_rg ?_ ?_
    | with_reducible refine State.setHealth_rg ?_ ?_
    | with_reducible refine State.dieCheck_rg ?_ ?_
    | with_reducible refine State.healthUpdate_rg ?_ ?_
    | with_reducible refine State.spareCheck_rg ?_ ?_
    | with_reducible refine State.raise_rg ?_ ?_)

theorem State.groupsGone_rg {msk : Nat} {b₀ : State} {s : State} {port : Nat} {m : Nat} {d : Nat} (h₀ : Rg msk b₀ s) (hm₀ : 0 ||| msk = msk) :
    Rg msk b₀ (State.groupsGone s port m d) := by
  refine Rg.step h₀ ?_ hm₀
  clear h₀ hm₀
  unfold State.groupsGone
  try dsimp only
  repeat' (first
    | with_reducible exact Rg.refl _ _
    | with_reducible assumption
    | exact (rfl : (_ : Nat) = _)
    | with_reducible refine State.setHealth_rg ?_ ?_
    | with_reducible refine State.setBg_rg ?_ ?_
    | dsimp only
    | with_reducible refine Rg.ite ?_ ?_
    | with_reducible refine Rg.ite₁ ?_ ?_
    | with_reducible refine RgS.ite ?_ ?_
    | with_reducible refine RgP.ite ?_ ?_
    | with_reducible exact RgS.none
    | with_reducible refine RgS.some ?_
    | with_reducible refine RgS.map ?_
    | with_reducible exact RgP.none
    | with_reducible refine RgP.some ?_
    | with_reducible refine Rg.elim ?_ ?_
    | with_reducible refine Rg.foldl ?_ _ _ ?_
    | with_reducible refine Rg.foldl₂ ?_ _ _ ?_
    | intro _ _ _ _ _ _
    | intro _ _ _ _ _
    | intro _ _ _ _
    | intro _ _ _
    | intro _ _
    | intro _
    | with_reducible refine Rg.pair (h := ?_) (e := by assumption)
    | with_reducible refine RgO.got (h := ?_) (e := by assumption)
    | with_reducible refine RgS.get (h := ?_) (e := by assumption)
    | with_reducible refine RgP.get (h := ?_) (e := by assumption)
    | split
    | refine Rg.mk' ?_)

theorem State.retireSeg_rg {msk : Nat} {b₀ : State} {s : State} {i : Nat} (h₀ : Rg msk b₀ s) (hm₀ : 0 ||| msk = msk) :
    Rg msk b₀ (State.retireSeg s i) := by
  refine Rg.step h₀ ?_ hm₀
  clear h₀ hm₀
  unfold State.retireSeg
  try dsimp only
  repeat' (first
    | with_reducible exact Rg.refl _ _
    | exact (rfl : (_ : Nat) = _)
    | with_reducible refine State.addTxn_rg ?_ ?_
    | with_reducible refine State.setSeg_rg ?_ ?_
    | with_reducible refine Rg.ite ?_ ?_
    | split)

theorem State.dieReplace_rg {msk : Nat} {b₀ : State} {s : State} {pool : Nat} {port : Nat} {m : Nat} (h₀ : Rg msk b₀ s) (hm₀ : 96107167241834975113312584178489302142293605564759693426004588894417285174339314651986626222954283729664672024879809959352794238588654061432213649874520966944 ||| msk = msk) :
    Rg msk b₀ (State.dieReplace s pool port m) := by
  refine Rg.step h₀ ?_ hm₀
  clear h₀ hm₀
  unfold State.dieReplace
  try dsimp only
  repeat' (first
    | with_reducible exact Rg.refl _ _
    | exact (rfl : (_ : Nat) = _)
    | with_reducible refine State.setDie_rg ?_ ?_
    | with_reducible refine State.raise_rg ?_ ?_
    | with_reducible refine State.setHealth_rg ?_ ?_
    | with_reducible refine State.setPool_rg ?_ ?_
    | split)

theorem State.retireDie_rg {msk : Nat} {b₀ : State} {s : State} {pool : Nat} {port : Nat} {m : Nat} {d : Nat} {offline : Bool} (h₀ : Rg msk b₀ s) (hm₀ : 96107167241834975113312584178489302142293605564759693426004593166391357016159479442482351410641779323447040898375536993487845760628264075992444883329605502752 ||| msk = msk) :
    Rg msk b₀ (State.retireDie s pool port m d offline) := by
  refine Rg.step h₀ ?_ hm₀
  clear h₀ hm₀
  unfold State.retireDie
  try dsimp only
  repeat' (first
    | with_reducible exact Rg.refl _ _
    | with_reducible assumption
    | exact (rfl : (_ : Nat) = _)
    | with_reducible refine State.groupsGone_rg ?_ ?_
    | with_reducible refine State.setDie_rg ?_ ?_
    | with_reducible refine State.setSeg_rg ?_ ?_
    | with_reducible refine State.retireSeg_rg ?_ ?_
    | with_reducible refine State.raise_rg ?_ ?_
    | with_reducible refine State.setHealth_rg ?_ ?_
    | with_reducible refine State.dieReplace_rg ?_ ?_
    | with_reducible refine State.event_rg ?_ ?_
    | with_reducible refine State.healthUpdate_rg ?_ ?_
    | with_reducible refine State.spareCheck_rg ?_ ?_
    | with_reducible refine State.recap_rg ?_ ?_
    | with_reducible refine State.setRedund_rg ?_ ?_
    | dsimp only
    | with_reducible refine Rg.ite ?_ ?_
    | with_reducible refine Rg.ite₁ ?_ ?_
    | with_reducible refine RgS.ite ?_ ?_
    | with_reducible refine RgP.ite ?_ ?_
    | with_reducible exact RgS.none
    | with_reducible refine RgS.some ?_
    | with_reducible refine RgS.map ?_
    | with_reducible exact RgP.none
    | with_reducible refine RgP.some ?_
    | with_reducible refine Rg.elim ?_ ?_
    | with_reducible refine Rg.foldl ?_ _ _ ?_
    | with_reducible refine Rg.foldl₂ ?_ _ _ ?_
    | intro _ _ _ _ _ _
    | intro _ _ _ _ _
    | intro _ _ _ _
    | intro _ _ _
    | intro _ _
    | intro _
    | with_reducible refine Rg.pair (h := ?_) (e := by assumption)
    | with_reducible refine RgO.got (h := ?_) (e := by assumption)
    | with_reducible refine RgS.get (h := ?_) (e := by assumption)
    | with_reducible refine RgP.get (h := ?_) (e := by assumption)
    | split)

theorem State.dieRetireScan_rg {msk : Nat} {b₀ : State} {s : State} (h₀ : Rg msk b₀ s) (hm₀ : 96107167241834975113312584178489302142293605564759693426004593166391357016159479442482351410641779323447040898375536993487845760628264075992444883329605502752 ||| msk = msk) :
    Rg msk b₀ (State.dieRetireScan s) := by
  refine Rg.step h₀ ?_ hm₀
  clear h₀ hm₀
  unfold State.dieRetireScan
  try dsimp only
  repeat' (first
    | with_reducible exact Rg.refl _ _
    | with_reducible assumption
    | exact (rfl : (_ : Nat) = _)
    | with_reducible refine State.retireDie_rg ?_ ?_
    | with_reducible refine Rg.ite ?_ ?_
    | with_reducible refine Rg.foldl ?_ _ _ ?_
    | intro _ _ _
    | split)

theorem State.readFail_rg {msk : Nat} {b₀ : State} {s : State} {port : Nat} {m : Nat} {d : Nat} {bgrp : Nat} (h₀ : Rg msk b₀ s) (hm₀ : 96107167241834975113312584178489302142293605564759693426004588894417285174339314651986626222954283729664672024879809959352794238588654061432213649874520966944 ||| msk = msk) :
    Rg msk b₀ (State.readFail s port m d bgrp) := by
  refine Rg.step h₀ ?_ hm₀
  clear h₀ hm₀
  unfold State.readFail
  try dsimp only
  repeat' (first
    | with_reducible exact Rg.refl _ _
    | exact (rfl : (_ : Nat) = _)
    | with_reducible refine State.raise_rg ?_ ?_
    | with_reducible refine State.setHealth_rg ?_ ?_
    | with_reducible refine State.setBg_rg ?_ ?_
    | with_reducible refine State.refreshDue_rg ?_ ?_
    | split)

theorem State.eraseFail_rg {msk : Nat} {b₀ : State} {s : State} {seg : Nat} {port : Nat} {k : Nat} (h₀ : Rg msk b₀ s) (hm₀ : 96107167241834975113312584178489302142293605564759693426004588894417285174339314651986736650895832378685270980973606391760033456332208787617096250262101757728 ||| msk = msk) :
    Rg msk b₀ (State.eraseFail s seg port k) := by
  refine Rg.step h₀ ?_ hm₀
  clear h₀ hm₀
  unfold State.eraseFail
  try dsimp only
  repeat' (first
    | with_reducible exact Rg.refl _ _
    | exact (rfl : (_ : Nat) = _)
    | with_reducible refine State.raise_rg ?_ ?_
    | with_reducible refine State.setHealth_rg ?_ ?_
    | with_reducible refine State.eraseScan_rg ?_ ?_
    | with_reducible refine State.retireGroup_rg ?_ ?_
    | with_reducible refine State.sendMod_rg ?_ ?_
    | with_reducible refine State.setSeg_rg ?_ ?_
    | with_reducible refine Rg.ite ?_ ?_
    | split)

theorem State.programFail_rg {msk : Nat} {b₀ : State} {s : State} {seg : Nat} {port : Nat} {p : Place} (h₀ : Rg msk b₀ s) (hm₀ : 96107167241834975113312584178489302142293605564759693426004588894417285174339314651986626222954283729664672024879809959352794238588654061432213649874520966944 ||| msk = msk) :
    Rg msk b₀ (State.programFail s seg port p) := by
  refine Rg.step h₀ ?_ hm₀
  clear h₀ hm₀
  unfold State.programFail
  try dsimp only
  repeat' (first
    | with_reducible exact Rg.refl _ _
    | exact (rfl : (_ : Nat) = _)
    | with_reducible refine State.raise_rg ?_ ?_
    | with_reducible refine State.setHealth_rg ?_ ?_
    | with_reducible refine State.retireSeg_rg ?_ ?_
    | with_reducible refine State.retireGroup_rg ?_ ?_)

theorem State.dieOffline_rg {msk : Nat} {b₀ : State} {s : State} {port : Nat} {d : Nat} (h₀ : Rg msk b₀ s) (hm₀ : 96107167241834975113312584178489302142293605564759693426004593166391357016159479442482351410641779323447040898375536993487845760628264075992444883329605502752 ||| msk = msk) :
    Rg msk b₀ (State.dieOffline s port d) := by
  refine Rg.step h₀ ?_ hm₀
  clear h₀ hm₀
  unfold State.dieOffline
  try dsimp only
  repeat' (first
    | with_reducible exact Rg.refl _ _
    | exact (rfl : (_ : Nat) = _)
    | with_reducible refine State.retireDie_rg ?_ ?_
    | with_reducible refine Rg.ite ?_ ?_
    | split)

theorem State.failHandle_rg {msk : Nat} {b₀ : State} {s : State} {x1 : MediaFail} (h₀ : Rg msk b₀ s) (hm₀ : 96107167241834975113312584178489302142293605564759693426004593166391357016159479442482461838583327972467639854469333425895084978371818802177327483717186293536 ||| msk = msk) :
    Rg msk b₀ (State.failHandle s x1) := by
  refine Rg.step h₀ ?_ hm₀
  clear h₀ hm₀
  unfold State.failHandle
  try dsimp only
  repeat' (first
    | with_reducible exact Rg.refl _ _
    | with_reducible assumption
    | exact (rfl : (_ : Nat) = _)
    | with_reducible refine State.programFail_rg ?_ ?_
    | with_reducible refine State.eraseFail_rg ?_ ?_
    | with_reducible refine State.readFail_rg ?_ ?_
    | with_reducible refine State.dieOffline_rg ?_ ?_
    | dsimp only
    | with_reducible refine Rg.ite ?_ ?_
    | with_reducible refine Rg.ite₁ ?_ ?_
    | with_reducible refine RgS.ite ?_ ?_
    | with_reducible refine RgP.ite ?_ ?_
    | with_reducible exact RgS.none
    | with_reducible refine RgS.some ?_
    | with_reducible refine RgS.map ?_
    | with_reducible exact RgP.none
    | with_reducible refine RgP.some ?_
    | with_reducible refine Rg.elim ?_ ?_
    | with_reducible refine Rg.foldl ?_ _ _ ?_
    | with_reducible refine Rg.foldl₂ ?_ _ _ ?_
    | intro _ _ _ _ _ _
    | intro _ _ _ _ _
    | intro _ _ _ _
    | intro _ _ _
    | intro _ _
    | intro _
    | with_reducible refine Rg.pair (h := ?_) (e := by assumption)
    | with_reducible refine RgO.got (h := ?_) (e := by assumption)
    | with_reducible refine RgS.get (h := ?_) (e := by assumption)
    | with_reducible refine RgP.get (h := ?_) (e := by assumption)
    | split)

theorem State.failsHandle_rg {msk : Nat} {b₀ : State} {s : State} (h₀ : Rg msk b₀ s) (hm₀ : 96107167241834975113312584178489302142293605564759693426004593166391357016159479442482461838583327972467639854469333425895084978371818802177327483717186293536 ||| msk = msk) :
    Rg msk b₀ (State.failsHandle s) := by
  refine Rg.step h₀ ?_ hm₀
  clear h₀ hm₀
  unfold State.failsHandle
  try dsimp only
  repeat' (first
    | with_reducible exact Rg.refl _ _
    | with_reducible assumption
    | exact (rfl : (_ : Nat) = _)
    | with_reducible refine State.failHandle_rg ?_ ?_
    | dsimp only
    | with_reducible refine Rg.ite ?_ ?_
    | with_reducible refine Rg.ite₁ ?_ ?_
    | with_reducible refine RgS.ite ?_ ?_
    | with_reducible refine RgP.ite ?_ ?_
    | with_reducible exact RgS.none
    | with_reducible refine RgS.some ?_
    | with_reducible refine RgS.map ?_
    | with_reducible exact RgP.none
    | with_reducible refine RgP.some ?_
    | with_reducible refine Rg.elim ?_ ?_
    | with_reducible refine Rg.foldl ?_ _ _ ?_
    | with_reducible refine Rg.foldl₂ ?_ _ _ ?_
    | intro _ _ _ _ _ _
    | intro _ _ _ _ _
    | intro _ _ _ _
    | intro _ _ _
    | intro _ _
    | intro _
    | with_reducible refine Rg.pair (h := ?_) (e := by assumption)
    | with_reducible refine RgO.got (h := ?_) (e := by assumption)
    | with_reducible refine RgS.get (h := ?_) (e := by assumption)
    | with_reducible refine RgP.get (h := ?_) (e := by assumption)
    | split
    | refine Rg.mk' ?_)

end Sys2Proof.Machine
end

