-- ==== Sys2Proof/Laws/RgRemount.lean ====
section
/-! SUPPORT. Register frames of the operations of Machine.Remount: the registers that each may write. -/

set_option maxRecDepth 20000
set_option Elab.async false
set_option linter.unusedTactic false
set_option linter.unreachableTactic false
set_option linter.unusedVariables false

namespace Sys2Proof.Machine

theorem State.clearBank_rg {msk : Nat} {b₀ : State} {s : State} {b : Nat} (h₀ : Rg msk b₀ s) (hm₀ : 0 ||| msk = msk) :
    Rg msk b₀ (State.clearBank s b) := by
  refine Rg.step h₀ ?_ hm₀
  clear h₀ hm₀
  unfold State.clearBank
  try dsimp only
  repeat' (first
    | with_reducible exact Rg.refl _ _
    | with_reducible assumption
    | exact (rfl : (_ : Nat) = _)
    | dsimp only
    | with_reducible refine Rg.ite ?_ ?_
    | with_reducible refine Rg.ite₁ ?_ ?_
    | with_reducible refine RgS.ite ?_ ?_
    | with_reducible refine RgP.ite ?_ ?_
    | with_reducible exact RgS.none
    | with_reducible refine RgS.some ?_
    | with_reducible refine RgS.map ?_
    | with_reducible exact RgP.none
    | with_reducible refine RgP.some ?_
    | with_reducible refine Rg.elim ?_ ?_
    | with_reducible refine Rg.foldl ?_ _ _ ?_
    | with_reducible refine Rg.foldl₂ ?_ _ _ ?_
    | intro _ _ _ _ _ _
    | intro _ _ _ _ _
    | intro _ _ _ _
    | intro _ _ _
    | intro _ _
    | intro _
    | with_reducible refine Rg.pair (h := ?_) (e := by assumption)
    | with_reducible refine RgO.got (h := ?_) (e := by assumption)
    | with_reducible refine RgS.get (h := ?_) (e := by assumption)
    | with_reducible refine RgP.get (h := ?_) (e := by assumption)
    | split
    | refine Rg.mk' ?_)

theorem State.rmShow_rg {msk : Nat} {b₀ : State} {s : State} (h₀ : Rg msk b₀ s) (hm₀ : 4910085911844212805019784545241398728324963069064597184224937052144200694607011832324905138488856235726330026191340106513825884818828089579992791384064 ||| msk = msk) :
    Rg msk b₀ (State.rmShow s) := by
  refine Rg.step h₀ ?_ hm₀
  clear h₀ hm₀
  unfold State.rmShow
  try dsimp only
  repeat' (first
    | with_reducible exact Rg.refl _ _
    | with_reducible refine State.wrN_rg ?_ ?_
    | with_reducible refine in_RM_CANDIDATES ?_
    | with_reducible refine in_RM_STATUS ?_
    | exact (rfl : (_ : Bool) = _)
    | split)

theorem State.rmBegin_rg {msk : Nat} {b₀ : State} {s : State} {j : RmJob} (h₀ : Rg msk b₀ s) (hm₀ : 4910085911844212805019784545241398728324963069064597184224937052144200694607011832324905138488856235726330026191340106513825884818828089579992791384064 ||| msk = msk) :
    Rg msk b₀ (State.rmBegin s j) := by
  refine Rg.step h₀ ?_ hm₀
  clear h₀ hm₀
  unfold State.rmBegin
  try dsimp only
  repeat' (first
    | with_reducible exact Rg.refl _ _
    | with_reducible assumption
    | exact (rfl : (_ : Nat) = _)
    | with_reducible refine State.clearBank_rg ?_ ?_
    | with_reducible refine State.rmShow_rg ?_ ?_
    | with_reducible refine State.setGuard_rg ?_ ?_
    | dsimp only
    | with_reducible refine Rg.ite ?_ ?_
    | with_reducible refine Rg.ite₁ ?_ ?_
    | with_reducible refine RgS.ite ?_ ?_
    | with_reducible refine RgP.ite ?_ ?_
    | with_reducible exact RgS.none
    | with_reducible refine RgS.some ?_
    | with_reducible refine RgS.map ?_
    | with_reducible exact RgP.none
    | with_reducible refine RgP.some ?_
    | with_reducible refine Rg.elim ?_ ?_
    | with_reducible refine Rg.foldl ?_ _ _ ?_
    | with_reducible refine Rg.foldl₂ ?_ _ _ ?_
    | intro _ _ _ _ _ _
    | intro _ _ _ _ _
    | intro _ _ _ _
    | intro _ _ _
    | intro _ _
    | intro _
    | with_reducible refine Rg.pair (h := ?_) (e := by assumption)
    | with_reducible refine RgO.got (h := ?_) (e := by assumption)
    | with_reducible refine RgS.get (h := ?_) (e := by assumption)
    | with_reducible refine RgP.get (h := ?_) (e := by assumption)
    | split)

theorem State.rmDue_rg {msk : Nat} {b₀ : State} {s : State} {j : RmJob} (h₀ : Rg msk b₀ s) (hm₀ : 4910085911844212805019784545241398728324963069064597184224937052144200694607011832324905138488856235726330026191340106513825884818828089579992791384064 ||| msk = msk) :
    Rg msk b₀ (State.rmDue s j) := by
  refine Rg.step h₀ ?_ hm₀
  clear h₀ hm₀
  unfold State.rmDue
  try dsimp only
  repeat' (first
    | with_reducible exact Rg.refl _ _
    | exact (rfl : (_ : Nat) = _)
    | with_reducible refine State.rmBegin_rg ?_ ?_
    | with_reducible refine State.setGuard_rg ?_ ?_
    | split)

theorem State.rmPlan_rg {msk : Nat} {b₀ : State} {s : State} {p : Nat} {sub : Nat} {trigger : Nat} {cmd : Bool} (h₀ : Rg msk b₀ s) (hm₀ : 18003648349525945422408465659468977426631309194152087089550624303550526816994014229240340234589945721875759518873117365397192221345041489291916833980448 ||| msk = msk) :
    Rg msk b₀ (State.rmPlan s p sub trigger cmd) := by
  refine Rg.step h₀ ?_ hm₀
  clear h₀ hm₀
  unfold State.rmPlan
  try dsimp only
  repeat' (first
    | with_reducible exact Rg.refl _ _
    | exact (rfl : (_ : Nat) = _)
    | with_reducible refine State.event_rg ?_ ?_
    | with_reducible refine State.wrN_rg ?_ ?_
    | with_reducible refine State.actStart_rg ?_ ?_
    | with_reducible refine State.rmDue_rg ?_ ?_
    | with_reducible refine in_RM_CMD_STATUS ?_
    | exact (rfl : (_ : Bool) = _)
    | with_reducible refine Rg.ite ?_ ?_
    | split)

theorem State.rmRecord_rg {msk : Nat} {b₀ : State} {s : State} {p : Nat} {sub : Nat} {old : Nat} {new : Nat} {trigger : Nat} {result : Nat} {strides : Nat} {faultSeq : Nat} (h₀ : Rg msk b₀ s) (hm₀ : 96107167241834975113312584178489302142293605564759693426004588894417285174339314651986626222954283729664672024879809959352794238588654061432213649874520966944 ||| msk = msk) :
    Rg msk b₀ (State.rmRecord s p sub old new trigger result strides faultSeq) := by
  refine Rg.step h₀ ?_ hm₀
  clear h₀ hm₀
  unfold State.rmRecord
  try dsimp only
  repeat' (first
    | with_reducible exact Rg.refl _ _
    | exact (rfl : (_ : Nat) = _)
    | with_reducible refine State.record_rg ?_ ?_)

theorem State.l3Done_rg {msk : Nat} {b₀ : State} {s : State} {p : Nat} {sub : Nat} (h₀ : Rg msk b₀ s) (hm₀ : 0 ||| msk = msk) :
    Rg msk b₀ (State.l3Done s p sub) := by
  refine Rg.step h₀ ?_ hm₀
  clear h₀ hm₀
  unfold State.l3Done
  try dsimp only
  repeat' (first
    | with_reducible exact Rg.refl _ _
    | exact (rfl : (_ : Nat) = _)
    | with_reducible refine State.setLadder_rg ?_ ?_)

theorem State.rmEnd_rg {msk : Nat} {b₀ : State} {s : State} {j : RmJob} {status : Nat} (h₀ : Rg msk b₀ s) (hm₀ : 13093562431584567480052758787310396608866568184172259157933165472384535185618698219533080369303616628603546736510240284036869026183541572213314110357504 ||| msk = msk) :
    Rg msk b₀ (State.rmEnd s j status) := by
  refine Rg.step h₀ ?_ hm₀
  clear h₀ hm₀
  unfold State.rmEnd
  try dsimp only
  repeat' (first
    | with_reducible exact Rg.refl _ _
    | exact (rfl : (_ : Nat) = _)
    | with_reducible refine State.l3Done_rg ?_ ?_
    | with_reducible refine State.actEnd_rg ?_ ?_
    | with_reducible refine State.wrN_rg ?_ ?_
    | with_reducible refine in_RM_CMD_STATUS ?_
    | exact (rfl : (_ : Bool) = _)
    | with_reducible refine Rg.ite ?_ ?_)

theorem State.rmAbandonOne_rg {msk : Nat} {b₀ : State} {s : State} {j : RmJob} (h₀ : Rg msk b₀ s) (hm₀ : 96107180335397406697880064231248089452690214431327877598263746827582757558874500270684845756034653033281300628426546469593078275457680244973785863188631324448 ||| msk = msk) :
    Rg msk b₀ (State.rmAbandonOne s j) := by
  refine Rg.step h₀ ?_ hm₀
  clear h₀ hm₀
  unfold State.rmAbandonOne
  try dsimp only
  repeat' (first
    | with_reducible exact Rg.refl _ _
    | exact (rfl : (_ : Nat) = _)
    | with_reducible refine State.raise_rg ?_ ?_
    | with_reducible refine State.rmRecord_rg ?_ ?_
    | with_reducible refine State.rmEnd_rg ?_ ?_
    | with_reducible refine State.event_rg ?_ ?_)

theorem State.rmAbandon_rg {msk : Nat} {b₀ : State} {s : State} (h₀ : Rg msk b₀ s) (hm₀ : 96107185245483318542092869251032634694088942756290946662860931052519809703075194877696678080939791522137536354756572660933184789283565063801875443181422708512 ||| msk = msk) :
    Rg msk b₀ (State.rmAbandon s) := by
  refine Rg.step h₀ ?_ hm₀
  clear h₀ hm₀
  unfold State.rmAbandon
  try dsimp only
  repeat' (first
    | with_reducible exact Rg.refl _ _
    | with_reducible assumption
    | exact (rfl : (_ : Nat) = _)
    | with_reducible refine State.setGuard_rg ?_ ?_
    | with_reducible refine State.rmShow_rg ?_ ?_
    | with_reducible refine State.rmAbandonOne_rg ?_ ?_
    | with_reducible refine Rg.foldl ?_ _ _ ?_
    | intro _ _ _)

theorem State.rmActRun_rg {msk : Nat} {b₀ : State} {s : State} {a : Activity} (h₀ : Rg msk b₀ s) (hm₀ : 18003648343428780285072543332551795337191531253236856342158102524528735880225710051857985507792472864329876762701580390550694911002369661793306901741600 ||| msk = msk) :
    Rg msk b₀ (State.rmActRun s a) := by
  refine Rg.step h₀ ?_ hm₀
  clear h₀ hm₀
  unfold State.rmActRun
  try dsimp only
  repeat' (first
    | with_reducible exact Rg.refl _ _
    | exact (rfl : (_ : Nat) = _)
    | with_reducible refine State.actEnd_rg ?_ ?_
    | with_reducible refine State.event_rg ?_ ?_
    | with_reducible refine State.wrN_rg ?_ ?_
    | with_reducible refine State.rmDue_rg ?_ ?_
    | with_reducible refine in_RM_CMD_STATUS ?_
    | exact (rfl : (_ : Bool) = _)
    | with_reducible refine Rg.ite ?_ ?_
    | split)

theorem State.mapSave_rg {msk : Nat} {b₀ : State} {s : State} {ok : Bool} (h₀ : Rg msk b₀ s) (hm₀ : 96107167241834975113312584178489302142293605564759693426004588894417285174339314651986626222954283729664672024879809959352794238588654061432213649874520966944 ||| msk = msk) :
    Rg msk b₀ (State.mapSave s ok) := by
  refine Rg.step h₀ ?_ hm₀
  clear h₀ hm₀
  unfold State.mapSave
  try dsimp only
  repeat' (first
    | with_reducible exact Rg.refl _ _
    | exact (rfl : (_ : Nat) = _)
    | with_reducible refine State.setGuard_rg ?_ ?_
    | with_reducible refine State.raise_rg ?_ ?_
    | with_reducible refine Rg.ite ?_ ?_)

theorem State.rowSwitch_rg {msk : Nat} {b₀ : State} {s : State} {mapOk : Bool} {j : Nat × Nat × Nat × Nat} (h₀ : Rg msk b₀ s) (hm₀ : 96107220434432353425617971892821875590779829085192941625807417997902016736513506227948143076093284025607225726788427032203948138369072932069850766463094294304 ||| msk = msk) :
    Rg msk b₀ (State.rowSwitch s mapOk j) := by
  refine Rg.step h₀ ?_ hm₀
  clear h₀ hm₀
  unfold State.rowSwitch
  try dsimp only
  repeat' (first
    | with_reducible exact Rg.refl _ _
    | exact (rfl : (_ : Nat) = _)
    | with_reducible refine State.setGuard_rg ?_ ?_
    | with_reducible refine State.putFld_rg ?_ ?_
    | with_reducible refine State.record_rg ?_ ?_
    | with_reducible refine State.mapSave_rg ?_ ?_
    | with_reducible refine in_RM_INV ?_
    | with_reducible refine in_RM_SRAM_ROWS ?_
    | exact (rfl : (_ : Bool) = _))

theorem State.rowCommit_rg {msk : Nat} {b₀ : State} {s : State} {mapOk : Bool} (h₀ : Rg msk b₀ s) (hm₀ : 96107220434432353425617971892821875590779829085192941625807417997902016736513506227948143076093284025607225726788427032203948138369072932069850766463094294304 ||| msk = msk) :
    Rg msk b₀ (State.rowCommit s mapOk) := by
  refine Rg.step h₀ ?_ hm₀
  clear h₀ hm₀
  unfold State.rowCommit
  try dsimp only
  repeat' (first
    | with_reducible exact Rg.refl _ _
    | with_reducible assumption
    | exact (rfl : (_ : Nat) = _)
    | with_reducible refine State.rowSwitch_rg ?_ ?_
    | with_reducible refine State.setGuard_rg ?_ ?_
    | with_reducible refine Rg.foldl ?_ _ _ ?_
    | intro _ _ _)

theorem State.cancelled_rg {msk : Nat} {b₀ : State} {s : State} {code : Nat} (h₀ : Rg msk b₀ s) (hm₀ : 13093562431584567480052758787310396924082768062054510253863160102396919339251046165125981123057061049544619531409871596690721128089717859022146885386272 ||| msk = msk) :
    Rg msk b₀ (State.cancelled s code) := by
  refine Rg.step h₀ ?_ hm₀
  clear h₀ hm₀
  unfold State.cancelled
  try dsimp only
  repeat' (first
    | with_reducible exact Rg.refl _ _
    | exact (rfl : (_ : Nat) = _)
    | with_reducible refine State.event_rg ?_ ?_
    | with_reducible refine State.wrN_rg ?_ ?_
    | with_reducible refine in_FTL_CMD_STATUS ?_
    | with_reducible refine in_RM_CMD_STATUS ?_
    | with_reducible refine in_RP_CMD_STATUS ?_
    | with_reducible refine in_SP_CMD_STATUS ?_
    | with_reducible refine in_TD_CMD_STATUS ?_
    | exact (rfl : (_ : Bool) = _)
    | with_reducible refine Rg.ite ?_ ?_)

theorem State.setEntry_rg {msk : Nat} {b₀ : State} {s : State} {e : LadEntry} {f : LadEntry → LadEntry} (h₀ : Rg msk b₀ s) (hm₀ : 0 ||| msk = msk) :
    Rg msk b₀ (State.setEntry s e f) := by
  refine Rg.step h₀ ?_ hm₀
  clear h₀ hm₀
  unfold State.setEntry
  try dsimp only
  repeat' (first
    | with_reducible exact Rg.refl _ _
    | exact (rfl : (_ : Nat) = _)
    | with_reducible refine State.setLadder_rg ?_ ?_)

theorem State.degrade_rg {msk : Nat} {b₀ : State} {s : State} {e : LadEntry} (h₀ : Rg msk b₀ s) (hm₀ : 4910085911844212805019784545241398728324963069064597184224937052144200694607011832324905138488856235726330026191340106513825884818828089579992791392304 ||| msk = msk) :
    Rg msk b₀ (State.degrade s e) := by
  refine Rg.step h₀ ?_ hm₀
  clear h₀ hm₀
  unfold State.degrade
  try dsimp only
  repeat' (first
    | with_reducible exact Rg.refl _ _
    | exact (rfl : (_ : Nat) = _)
    | with_reducible refine State.setUnitSt_rg ?_ ?_
    | with_reducible refine State.rmShow_rg ?_ ?_
    | with_reducible refine State.setGuard_rg ?_ ?_
    | with_reducible refine Rg.ite ?_ ?_)

theorem State.noSpare_rg {msk : Nat} {b₀ : State} {s : State} {e : LadEntry} {mapOk : Bool} (h₀ : Rg msk b₀ s) (hm₀ : 96107167241834975113312584178489302142293605564759693426004588894417285174339314651986626222954283729664672024879809959352794238588654061432213649874520975152 ||| msk = msk) :
    Rg msk b₀ (State.noSpare s e mapOk) := by
  refine Rg.step h₀ ?_ hm₀
  clear h₀ hm₀
  unfold State.noSpare
  try dsimp only
  repeat' (first
    | with_reducible exact Rg.refl _ _
    | with_reducible assumption
    | exact (rfl : (_ : Nat) = _)
    | with_reducible refine State.event_rg ?_ ?_
    | with_reducible refine State.rmRecord_rg ?_ ?_
    | with_reducible refine State.setUnitSt_rg ?_ ?_
    | with_reducible refine State.raise_rg ?_ ?_
    | with_reducible refine State.clearBank_rg ?_ ?_
    | with_reducible refine State.l3Done_rg ?_ ?_
    | with_reducible refine State.mapSave_rg ?_ ?_
    | with_reducible refine State.escalate_rg ?_ ?_
    | dsimp only
    | with_reducible refine Rg.ite ?_ ?_
    | with_reducible refine Rg.ite₁ ?_ ?_
    | with_reducible refine RgS.ite ?_ ?_
    | with_reducible refine RgP.ite ?_ ?_
    | with_reducible exact RgS.none
    | with_reducible refine RgS.some ?_
    | with_reducible refine RgS.map ?_
    | with_reducible exact RgP.none
    | with_reducible refine RgP.some ?_
    | with_reducible refine Rg.elim ?_ ?_
    | with_reducible refine Rg.foldl ?_ _ _ ?_
    | with_reducible refine Rg.foldl₂ ?_ _ _ ?_
    | intro _ _ _ _ _ _
    | intro _ _ _ _ _
    | intro _ _ _ _
    | intro _ _ _
    | intro _ _
    | intro _
    | with_reducible refine Rg.pair (h := ?_) (e := by assumption)
    | with_reducible refine RgO.got (h := ?_) (e := by assumption)
    | with_reducible refine RgS.get (h := ?_) (e := by assumption)
    | with_reducible refine RgP.get (h := ?_) (e := by assumption)
    | split)

theorem State.handleL3_rg {msk : Nat} {b₀ : State} {s : State} {e : LadEntry} {mapOk : Bool} (h₀ : Rg msk b₀ s) (hm₀ : 96107172151920886957525389198273847383692333889722762490601773119354337318540009258998458547859422218520907751209836150692900752414538880260303229867312359216 ||| msk = msk) :
    Rg msk b₀ (State.handleL3 s e mapOk) := by
  refine Rg.step h₀ ?_ hm₀
  clear h₀ hm₀
  unfold State.handleL3
  try dsimp only
  repeat' (first
    | with_reducible exact Rg.refl _ _
    | exact (rfl : (_ : Nat) = _)
    | with_reducible refine State.l3Done_rg ?_ ?_
    | with_reducible refine State.rmRecord_rg ?_ ?_
    | with_reducible refine State.noSpare_rg ?_ ?_
    | with_reducible refine State.rmDue_rg ?_ ?_
    | with_reducible refine State.escalate_rg ?_ ?_
    | with_reducible refine Rg.ite ?_ ?_
    | split)

theorem State.handleStep_rg {msk : Nat} {b₀ : State} {s : State} {e : LadEntry} {mapOk : Bool} (h₀ : Rg msk b₀ s) (hm₀ : 96107172151920886957525389198273847383692333889722762490601773119354337318540009258998458547859422218520907751209836150692900752414538880260303229867312359216 ||| msk = msk) :
    Rg msk b₀ (State.handleStep s e mapOk) := by
  refine Rg.step h₀ ?_ hm₀
  clear h₀ hm₀
  unfold State.handleStep
  try dsimp only
  repeat' (first
    | with_reducible exact Rg.refl _ _
    | exact (rfl : (_ : Nat) = _)
    | with_reducible refine State.setEntry_rg ?_ ?_
    | with_reducible refine State.degrade_rg ?_ ?_
    | with_reducible refine State.handleL3_rg ?_ ?_
    | with_reducible refine Rg.ite ?_ ?_)

theorem execGdActCancel_rg {msk : Nat} {b₀ : State} {code : Nat} {pool : Nat} {s : State} (h₀ : Rg msk b₀ s) (hm₀ : 13093562431584567480052758787310396924082768062054510253863160102396919339251046165125981123057061049544619531409871596690721128089717859022146885386272 ||| msk = msk) :
    RgO msk b₀ (execGdActCancel code pool s) := by
  refine RgO.step h₀ ?_ hm₀
  clear h₀ hm₀
  unfold execGdActCancel
  try dsimp only
  repeat' (first
    | with_reducible exact Rg.refl _ _
    | exact (rfl : (_ : Nat) = _)
    | with_reducible refine State.cancelled_rg ?_ ?_
    | with_reducible refine State.setActs_rg ?_ ?_
    | with_reducible refine RgO.next ?_
    | split)

theorem State.copyBad_rg {msk : Nat} {b₀ : State} {s : State} {bank : Nat} {bad : List Nat} (h₀ : Rg msk b₀ s) (hm₀ : 0 ||| msk = msk) :
    Rg msk b₀ (State.copyBad s bank bad) := by
  refine Rg.step h₀ ?_ hm₀
  clear h₀ hm₀
  unfold State.copyBad
  try dsimp only
  repeat' (first
    | with_reducible exact Rg.refl _ _
    | with_reducible assumption
    | exact (rfl : (_ : Nat) = _)
    | with_reducible refine State.setCam_rg ?_ ?_
    | dsimp only
    | with_reducible refine Rg.ite ?_ ?_
    | with_reducible refine Rg.ite₁ ?_ ?_
    | with_reducible refine RgS.ite ?_ ?_
    | with_reducible refine RgP.ite ?_ ?_
    | with_reducible exact RgS.none
    | with_reducible refine RgS.some ?_
    | with_reducible refine RgS.map ?_
    | with_reducible exact RgP.none
    | with_reducible refine RgP.some ?_
    | with_reducible refine Rg.elim ?_ ?_
    | with_reducible refine Rg.foldl ?_ _ _ ?_
    | with_reducible refine Rg.foldl₂ ?_ _ _ ?_
    | intro _ _ _ _ _ _
    | intro _ _ _ _ _
    | intro _ _ _ _
    | intro _ _ _
    | intro _ _
    | intro _
    | with_reducible refine Rg.pair (h := ?_) (e := by assumption)
    | with_reducible refine RgO.got (h := ?_) (e := by assumption)
    | with_reducible refine RgS.get (h := ?_) (e := by assumption)
    | with_reducible refine RgP.get (h := ?_) (e := by assumption)
    | split)

theorem State.rmSwap_rg {msk : Nat} {b₀ : State} {s : State} {j : RmJob} (h₀ : Rg msk b₀ s) (hm₀ : 96107167241834975113312584178489302142293605564759693426004588894417285174339314651986626222954283729664672024879809959352794238588654061432213649874520979248 ||| msk = msk) :
    Rg msk b₀ (State.rmSwap s j) := by
  refine Rg.step h₀ ?_ hm₀
  clear h₀ hm₀
  unfold State.rmSwap
  try dsimp only
  repeat' (first
    | with_reducible exact Rg.refl _ _
    | with_reducible assumption
    | exact (rfl : (_ : Nat) = _)
    | with_reducible refine State.putFld_rg ?_ ?_
    | with_reducible refine State.setPage_rg ?_ ?_
    | with_reducible refine State.setUnitSt_rg ?_ ?_
    | with_reducible refine State.putBit_rg ?_ ?_
    | with_reducible refine State.rmRecord_rg ?_ ?_
    | with_reducible refine State.event_rg ?_ ?_
    | with_reducible refine in_PG_SPARE ?_
    | with_reducible refine in_PG_STATE ?_
    | with_reducible refine in_UNIT_WORD ?_
    | unfold mapWord
    | with_reducible refine InSet.ite ?_ ?_
    | exact (rfl : (_ : Bool) = _)
    | dsimp only
    | with_reducible refine Rg.ite ?_ ?_
    | with_reducible refine Rg.ite₁ ?_ ?_
    | with_reducible refine RgS.ite ?_ ?_
    | with_reducible refine RgP.ite ?_ ?_
    | with_reducible exact RgS.none
    | with_reducible refine RgS.some ?_
    | with_reducible refine RgS.map ?_
    | with_reducible exact RgP.none
    | with_reducible refine RgP.some ?_
    | with_reducible refine Rg.elim ?_ ?_
    | with_reducible refine Rg.foldl ?_ _ _ ?_
    | with_reducible refine Rg.foldl₂ ?_ _ _ ?_
    | intro _ _ _ _ _ _
    | intro _ _ _ _ _
    | intro _ _ _ _
    | intro _ _ _
    | intro _ _
    | intro _
    | with_reducible refine Rg.pair (h := ?_) (e := by assumption)
    | with_reducible refine RgO.got (h := ?_) (e := by assumption)
    | with_reducible refine RgS.get (h := ?_) (e := by assumption)
    | with_reducible refine RgP.get (h := ?_) (e := by assumption)
    | split)

theorem State.rmSwitch_rg {msk : Nat} {b₀ : State} {s : State} {j : RmJob} {mapOk : Bool} (h₀ : Rg msk b₀ s) (hm₀ : 96107212250955833685263296859847633521781948543587826518145444289673596496179015216261755867918053210846832849571716713303770615325931567356368133150365267760 ||| msk = msk) :
    Rg msk b₀ (State.rmSwitch s j mapOk) := by
  refine Rg.step h₀ ?_ hm₀
  clear h₀ hm₀
  unfold State.rmSwitch
  try dsimp only
  repeat' (first
    | with_reducible exact Rg.refl _ _
    | exact (rfl : (_ : Nat) = _)
    | with_reducible refine State.rmSwap_rg ?_ ?_
    | with_reducible refine State.setGuard_rg ?_ ?_
    | with_reducible refine State.raise_rg ?_ ?_
    | with_reducible refine State.putFld_rg ?_ ?_
    | with_reducible refine State.event_rg ?_ ?_
    | with_reducible refine State.count_rg ?_ ?_
    | with_reducible refine State.rmShow_rg ?_ ?_
    | with_reducible refine State.rmEnd_rg ?_ ?_
    | with_reducible refine State.mapSave_rg ?_ ?_
    | with_reducible refine in_REMOUNTS ?_
    | with_reducible refine in_RM_COUNT ?_
    | with_reducible refine in_RM_INV ?_
    | exact (rfl : (_ : Bool) = _)
    | with_reducible refine Rg.ite ?_ ?_)

theorem State.rmCommit_rg {msk : Nat} {b₀ : State} {s : State} {mapOk : Bool} {camBad : List Nat} (h₀ : Rg msk b₀ s) (hm₀ : 96107212250955833685263296859847633521781948543587826518145444289673596496179015216261755867918053210846832849571716713303770615325931567356368133150365267760 ||| msk = msk) :
    Rg msk b₀ (State.rmCommit s mapOk camBad) := by
  refine Rg.step h₀ ?_ hm₀
  clear h₀ hm₀
  unfold State.rmCommit
  try dsimp only
  repeat' (first
    | with_reducible exact Rg.refl _ _
    | with_reducible assumption
    | exact (rfl : (_ : Nat) = _)
    | with_reducible refine State.rmBegin_rg ?_ ?_
    | with_reducible refine State.setGuard_rg ?_ ?_
    | with_reducible refine State.copyBad_rg ?_ ?_
    | with_reducible refine State.rmSwitch_rg ?_ ?_
    | with_reducible refine State.rmShow_rg ?_ ?_
    | dsimp only
    | with_reducible refine Rg.ite ?_ ?_
    | with_reducible refine Rg.ite₁ ?_ ?_
    | with_reducible refine RgS.ite ?_ ?_
    | with_reducible refine RgP.ite ?_ ?_
    | with_reducible exact RgS.none
    | with_reducible refine RgS.some ?_
    | with_reducible refine RgS.map ?_
    | with_reducible exact RgP.none
    | with_reducible refine RgP.some ?_
    | with_reducible refine Rg.elim ?_ ?_
    | with_reducible refine Rg.foldl ?_ _ _ ?_
    | with_reducible refine Rg.foldl₂ ?_ _ _ ?_
    | intro _ _ _ _ _ _
    | intro _ _ _ _ _
    | intro _ _ _ _
    | intro _ _ _
    | intro _ _
    | intro _
    | with_reducible refine Rg.pair (h := ?_) (e := by assumption)
    | with_reducible refine RgO.got (h := ?_) (e := by assumption)
    | with_reducible refine RgS.get (h := ?_) (e := by assumption)
    | with_reducible refine RgP.get (h := ?_) (e := by assumption)
    | split)

theorem execRemountStart_rg {msk : Nat} {b₀ : State} {p : Nat} {sub : Nat} {s : State} (h₀ : Rg msk b₀ s) (hm₀ : 18003648349525945422408465659468977426631309194152087089550624303550526816994014229240340234589945721875759518873117365397192221345041489291916833980448 ||| msk = msk) :
    RgO msk b₀ (execRemountStart p sub s) := by
  refine RgO.step h₀ ?_ hm₀
  clear h₀ hm₀
  unfold execRemountStart
  try dsimp only
  repeat' (first
    | with_reducible exact Rg.refl _ _
    | exact (rfl : (_ : Nat) = _)
    | with_reducible refine State.rmPlan_rg ?_ ?_
    | with_reducible refine RgO.ite ?_ ?_
    | with_reducible refine RgO.next ?_
    | split)

theorem State.ladderHandle_rg {msk : Nat} {b₀ : State} {s : State} {mapOk : Bool} (h₀ : Rg msk b₀ s) (hm₀ : 96107172151920886957525389198273847383692333889722762490601773119354337318540009258998458547859422218520907751209836150692900752414538880260303229867312359216 ||| msk = msk) :
    Rg msk b₀ (State.ladderHandle s mapOk) := by
  refine Rg.step h₀ ?_ hm₀
  clear h₀ hm₀
  unfold State.ladderHandle
  try dsimp only
  repeat' (first
    | with_reducible exact Rg.refl _ _
    | exact (rfl : (_ : Nat) = _)
    | with_reducible refine State.setLadder_rg ?_ ?_
    | with_reducible refine State.setEntry_rg ?_ ?_
    | with_reducible refine State.handleStep_rg ?_ ?_
    | with_reducible refine Rg.ite ?_ ?_
    | split)

theorem execSramRowRepair_rg {msk : Nat} {b₀ : State} {mac : Nat} {row : Nat} {trigger : Nat} {s : State} (h₀ : Rg msk b₀ s) (hm₀ : 96107167241834975113312584178489302142293605564759693426004588894417285174339314651986626222954283729664672024879809959352794238588654061432213649874520966944 ||| msk = msk) :
    RgO msk b₀ (execSramRowRepair mac row trigger s) := by
  refine RgO.step h₀ ?_ hm₀
  clear h₀ hm₀
  unfold execSramRowRepair
  try dsimp only
  repeat' (first
    | with_reducible exact Rg.refl _ _
    | exact (rfl : (_ : Nat) = _)
    | with_reducible refine State.raise_rg ?_ ?_
    | with_reducible refine State.setGuard_rg ?_ ?_
    | with_reducible refine RgO.ite ?_ ?_
    | with_reducible refine RgO.next ?_)

theorem execRmCmd_rg {msk : Nat} {b₀ : State} {p : Nat} {sub : Nat} {s : State} (h₀ : Rg msk b₀ s) (hm₀ : 96107185245483324639258006586954961611271032196068887578091678445041588724866131646000855463294518319610393900639328832470159635780875406473702941791354947360 ||| msk = msk) :
    RgO msk b₀ (execRmCmd p sub s) := by
  refine RgO.step h₀ ?_ hm₀
  clear h₀ hm₀
  unfold execRmCmd
  try dsimp only
  repeat' (first
    | with_reducible exact Rg.refl _ _
    | exact (rfl : (_ : Nat) = _)
    | with_reducible refine State.writeDiscarded_rg ?_ ?_
    | with_reducible refine State.wrN_rg ?_ ?_
    | with_reducible refine State.event_rg ?_ ?_
    | with_reducible refine State.rmRecord_rg ?_ ?_
    | with_reducible refine State.rmPlan_rg ?_ ?_
    | with_reducible refine in_RM_CMD_STATUS ?_
    | exact (rfl : (_ : Bool) = _)
    | with_reducible refine RgO.ite ?_ ?_
    | with_reducible refine RgO.next ?_)

end Sys2Proof.Machine
end

