-- ==== Sys2Proof/Laws/RgDram.lean ====
section
/-! SUPPORT. Register frames of the operations of Machine.Dram: the registers that each may write. -/

set_option maxRecDepth 20000
set_option Elab.async false
set_option linter.unusedTactic false
set_option linter.unreachableTactic false
set_option linter.unusedVariables false

namespace Sys2Proof.Machine

theorem State.setChan_rg {msk : Nat} {b₀ : State} {s : State} {ch : Nat} {c : Channel} (h₀ : Rg msk b₀ s) (hm₀ : 0 ||| msk = msk) :
    Rg msk b₀ (State.setChan s ch c) := by
  refine Rg.step h₀ ?_ hm₀
  clear h₀ hm₀
  unfold State.setChan
  try dsimp only
  repeat' (first
    | with_reducible exact Rg.refl _ _
    | refine Rg.mk' ?_)

theorem State.rankRecord_rg {msk : Nat} {b₀ : State} {s : State} {ch : Nat} {k : RankCopy} {new : Nat} {result : Nat} (h₀ : Rg msk b₀ s) (hm₀ : 96107167241834975113312584178489302142293605564759693426004588894417285174339314651986626222954283729664672024879809959352794238588654061432213649874520966944 ||| msk = msk) :
    Rg msk b₀ (State.rankRecord s ch k new result) := by
  refine Rg.step h₀ ?_ hm₀
  clear h₀ hm₀
  unfold State.rankRecord
  try dsimp only
  repeat' (first
    | with_reducible exact Rg.refl _ _
    | exact (rfl : (_ : Nat) = _)
    | with_reducible refine State.record_rg ?_ ?_)

theorem State.rankAbandon_rg {msk : Nat} {b₀ : State} {s : State} (h₀ : Rg msk b₀ s) (hm₀ : 96107167241834975113312584178489302142303692478345970412682932328682921939473415065239865377301278492776158929653313245269316290749904599836260146640039511840 ||| msk = msk) :
    Rg msk b₀ (State.rankAbandon s) := by
  refine Rg.step h₀ ?_ hm₀
  clear h₀ hm₀
  unfold State.rankAbandon
  try dsimp only
  repeat' (first
    | with_reducible exact Rg.refl _ _
    | with_reducible assumption
    | exact (rfl : (_ : Nat) = _)
    | with_reducible refine State.putBit_rg ?_ ?_
    | with_reducible refine State.setChan_rg ?_ ?_
    | with_reducible refine State.raise_rg ?_ ?_
    | with_reducible refine State.event_rg ?_ ?_
    | with_reducible refine State.rankRecord_rg ?_ ?_
    | with_reducible refine in_DC_STATUS ?_
    | exact (rfl : (_ : Bool) = _)
    | with_reducible refine Rg.foldl ?_ _ _ ?_
    | intro _ _ _
    | split)

theorem State.freqAsk_rg {msk : Nat} {b₀ : State} {s : State} {ch : Nat} {speed : Nat} (h₀ : Rg msk b₀ s) (hm₀ : 10086913586276986678343434265636765134100413253239154346994763111486904773503285916522052161250538404046496765518544896 ||| msk = msk) :
    Rg msk b₀ (State.freqAsk s ch speed) := by
  refine Rg.step h₀ ?_ hm₀
  clear h₀ hm₀
  unfold State.freqAsk
  try dsimp only
  repeat' (first
    | with_reducible exact Rg.refl _ _
    | exact (rfl : (_ : Nat) = _)
    | with_reducible refine State.putBit_rg ?_ ?_
    | with_reducible refine State.setChan_rg ?_ ?_
    | with_reducible refine in_DC_STATUS ?_
    | exact (rfl : (_ : Bool) = _))

theorem State.freqNext_rg {msk : Nat} {b₀ : State} {s : State} (h₀ : Rg msk b₀ s) (hm₀ : 10086913586276986678343434265636765134100413253239154346994763111486904773503285916522052161250538404046496765518544896 ||| msk = msk) :
    Rg msk b₀ (State.freqNext s) := by
  refine Rg.step h₀ ?_ hm₀
  clear h₀ hm₀
  unfold State.freqNext
  try dsimp only
  repeat' (first
    | with_reducible exact Rg.refl _ _
    | exact (rfl : (_ : Nat) = _)
    | with_reducible refine State.freqAsk_rg ?_ ?_
    | split
    | refine Rg.mk' ?_)

theorem execFreqChangeDone_rg {msk : Nat} {b₀ : State} {ch : Nat} {ok : Bool} {s : State} (h₀ : Rg msk b₀ s) (hm₀ : 96107167241834975113312584178489302142303692478345970412682932328682921939473415065239865377301278492776158929653313245269316290749904599836260146640039511840 ||| msk = msk) :
    RgO msk b₀ (execFreqChangeDone ch ok s) := by
  refine RgO.step h₀ ?_ hm₀
  clear h₀ hm₀
  unfold execFreqChangeDone
  try dsimp only
  repeat' (first
    | with_reducible exact Rg.refl _ _
    | exact (rfl : (_ : Nat) = _)
    | with_reducible refine State.putBit_rg ?_ ?_
    | with_reducible refine State.setChan_rg ?_ ?_
    | with_reducible refine State.freqNext_rg ?_ ?_
    | with_reducible refine State.event_rg ?_ ?_
    | with_reducible refine State.putFld_rg ?_ ?_
    | with_reducible refine State.raise_rg ?_ ?_
    | with_reducible refine in_DC_STATUS ?_
    | exact (rfl : (_ : Bool) = _)
    | with_reducible refine RgO.ite ?_ ?_
    | with_reducible refine RgO.next ?_
    | split)

theorem execWriteTimingTrack_rg {msk : Nat} {b₀ : State} {ch : Nat} {steps : Nat} {s : State} (h₀ : Rg msk b₀ s) (hm₀ : 661055968790248598951915308032771039828404682964281219284648795274405791236311345825189210439715284847591212025023358304256 ||| msk = msk) :
    RgO msk b₀ (execWriteTimingTrack ch steps s) := by
  refine RgO.step h₀ ?_ hm₀
  clear h₀ hm₀
  unfold execWriteTimingTrack
  try dsimp only
  repeat' (first
    | with_reducible exact Rg.refl _ _
    | with_reducible refine State.countBy_rg ?_ ?_
    | with_reducible refine in_DC_DRIFT_STEPS ?_
    | exact (rfl : (_ : Bool) = _)
    | with_reducible refine RgO.next ?_)

theorem State.dramAddr_rg {msk : Nat} {b₀ : State} {s : State} {ch : Nat} {addr : Nat} (h₀ : Rg msk b₀ s) (hm₀ : 41315998049390537434494706752048189989275292685267576205290549704650361952269459114074325652482205302974450751563959894016 ||| msk = msk) :
    Rg msk b₀ (State.dramAddr s ch addr) := by
  refine Rg.step h₀ ?_ hm₀
  clear h₀ hm₀
  unfold State.dramAddr
  try dsimp only
  repeat' (first
    | with_reducible exact Rg.refl _ _
    | with_reducible refine State.wr64_rg ?_ ?_ ?_
    | with_reducible refine in_DC_CE_ADDR ?_
    | with_reducible refine in_DC_CE_ADDR4 ?_
    | exact (rfl : (_ : Bool) = _))

theorem execDcFreqGo_rg {msk : Nat} {b₀ : State} {ch : Nat} {speed : Nat} {all : Bool} {s : State} (h₀ : Rg msk b₀ s) (hm₀ : 96107167241834975113312584178489302142303692478345970412682932328682921939473415065239865377301278492776158929653313245269316290749904599836260146640039511840 ||| msk = msk) :
    RgO msk b₀ (execDcFreqGo ch speed all s) := by
  refine RgO.step h₀ ?_ hm₀
  clear h₀ hm₀
  unfold execDcFreqGo
  try dsimp only
  repeat' (first
    | with_reducible exact Rg.refl _ _
    | exact (rfl : (_ : Nat) = _)
    | with_reducible refine State.writeDiscarded_rg ?_ ?_
    | with_reducible refine State.freqAsk_rg ?_ ?_
    | with_reducible refine Rg.ite ?_ ?_
    | with_reducible refine RgO.ite ?_ ?_
    | with_reducible refine RgO.next ?_
    | refine Rg.mk' ?_)

theorem State.dcLatency_rg {msk : Nat} {b₀ : State} {s : State} {ch : Nat} {now : Nat} {r : DramReq} (h₀ : Rg msk b₀ s) (hm₀ : 330527984395124299475957654016385519914202341482140609642324397637202895618155672912594605219857642423795606012511679152128 ||| msk = msk) :
    Rg msk b₀ (State.dcLatency s ch now r) := by
  refine Rg.step h₀ ?_ hm₀
  clear h₀ hm₀
  unfold State.dcLatency
  try dsimp only
  repeat' (first
    | with_reducible exact Rg.refl _ _
    | with_reducible assumption
    | exact (rfl : (_ : Nat) = _)
    | with_reducible refine State.highWater_rg ?_ ?_
    | with_reducible refine in_DC_LAT_MAX ?_
    | with_reducible refine InSet.ite ?_ ?_
    | exact (rfl : (_ : Bool) = _)
    | dsimp only
    | with_reducible refine Rg.ite ?_ ?_
    | with_reducible refine Rg.ite₁ ?_ ?_
    | with_reducible refine RgS.ite ?_ ?_
    | with_reducible refine RgP.ite ?_ ?_
    | with_reducible exact RgS.none
    | with_reducible refine RgS.some ?_
    | with_reducible refine RgS.map ?_
    | with_reducible exact RgP.none
    | with_reducible refine RgP.some ?_
    | with_reducible refine Rg.elim ?_ ?_
    | with_reducible refine Rg.foldl ?_ _ _ ?_
    | with_reducible refine Rg.foldl₂ ?_ _ _ ?_
    | intro _ _ _ _ _ _
    | intro _ _ _ _ _
    | intro _ _ _ _
    | intro _ _ _
    | intro _ _
    | intro _
    | with_reducible refine Rg.pair (h := ?_) (e := by assumption)
    | with_reducible refine RgO.got (h := ?_) (e := by assumption)
    | with_reducible refine RgS.get (h := ?_) (e := by assumption)
    | with_reducible refine RgP.get (h := ?_) (e := by assumption)
    | split)

theorem State.dcIssue_rg {msk : Nat} {b₀ : State} {s : State} {ch : Nat} {now : Nat} {r : DramReq} (h₀ : Rg msk b₀ s) (hm₀ : 330527984395124299475957654016385519914202341482140609642324397637202895618155672912594605219857642423795606012511679152128 ||| msk = msk) :
    Rg msk b₀ (State.dcIssue s ch now r) := by
  refine Rg.step h₀ ?_ hm₀
  clear h₀ hm₀
  unfold State.dcIssue
  try dsimp only
  repeat' (first
    | with_reducible exact Rg.refl _ _
    | with_reducible assumption
    | exact (rfl : (_ : Nat) = _)
    | with_reducible refine State.dcLatency_rg ?_ ?_
    | with_reducible refine State.setChan_rg ?_ ?_
    | dsimp only
    | with_reducible refine Rg.ite ?_ ?_
    | with_reducible refine Rg.ite₁ ?_ ?_
    | with_reducible refine RgS.ite ?_ ?_
    | with_reducible refine RgP.ite ?_ ?_
    | with_reducible exact RgS.none
    | with_reducible refine RgS.some ?_
    | with_reducible refine RgS.map ?_
    | with_reducible exact RgP.none
    | with_reducible refine RgP.some ?_
    | with_reducible refine Rg.elim ?_ ?_
    | with_reducible refine Rg.foldl ?_ _ _ ?_
    | with_reducible refine Rg.foldl₂ ?_ _ _ ?_
    | intro _ _ _ _ _ _
    | intro _ _ _ _ _
    | intro _ _ _ _
    | intro _ _ _
    | intro _ _
    | intro _
    | with_reducible refine Rg.pair (h := ?_) (e := by assumption)
    | with_reducible refine RgO.got (h := ?_) (e := by assumption)
    | with_reducible refine RgS.get (h := ?_) (e := by assumption)
    | with_reducible refine RgP.get (h := ?_) (e := by assumption)
    | split)

theorem State.dcNext_rg {msk : Nat} {b₀ : State} {s : State} {ch : Nat} {now : Nat} (h₀ : Rg msk b₀ s) (hm₀ : 330527984395124299475957654016385519914202341482140609642324397637202895618155672912594605219857642423795606012511679152128 ||| msk = msk) :
    Rg msk b₀ (State.dcNext s ch now).1 := by
  refine Rg.step h₀ ?_ hm₀
  clear h₀ hm₀
  unfold State.dcNext
  try dsimp only
  repeat' (first
    | with_reducible exact Rg.refl _ _
    | with_reducible assumption
    | exact (rfl : (_ : Nat) = _)
    | with_reducible refine State.dcIssue_rg ?_ ?_
    | dsimp only
    | with_reducible refine Rg.ite ?_ ?_
    | with_reducible refine Rg.ite₁ ?_ ?_
    | with_reducible refine RgS.ite ?_ ?_
    | with_reducible refine RgP.ite ?_ ?_
    | with_reducible exact RgS.none
    | with_reducible refine RgS.some ?_
    | with_reducible refine RgS.map ?_
    | with_reducible exact RgP.none
    | with_reducible refine RgP.some ?_
    | with_reducible refine Rg.elim ?_ ?_
    | with_reducible refine Rg.foldl ?_ _ _ ?_
    | with_reducible refine Rg.foldl₂ ?_ _ _ ?_
    | intro _ _ _ _ _ _
    | intro _ _ _ _ _
    | intro _ _ _ _
    | intro _ _ _
    | intro _ _
    | intro _
    | with_reducible refine Rg.pair (h := ?_) (e := by assumption)
    | with_reducible refine RgO.got (h := ?_) (e := by assumption)
    | with_reducible refine RgS.get (h := ?_) (e := by assumption)
    | with_reducible refine RgP.get (h := ?_) (e := by assumption)
    | split)

theorem State.dcRun_rg {msk : Nat} {b₀ : State} {s : State} {ch : Nat} {now : Nat} {x3 : Nat} (h₀ : Rg msk b₀ s) (hm₀ : 330527984395124299475957654016385519914202341482140609642324397637202895618155672912594605219857642423795606012511679152128 ||| msk = msk) :
    Rg msk b₀ (State.dcRun s ch now x3).1 := by
  refine Rg.step h₀ ?_ hm₀
  clear h₀ hm₀
  fun_induction State.dcRun 
  all_goals try dsimp +zetaDelta only at *
  all_goals repeat' (first
    | with_reducible exact Rg.refl _ _
    | with_reducible assumption
    | exact (rfl : (_ : Nat) = _)
    | with_reducible refine Rg.trans ?_ (by assumption)
    | with_reducible refine State.dcNext_rg ?_ ?_
    | dsimp only
    | with_reducible refine Rg.ite ?_ ?_
    | with_reducible refine Rg.ite₁ ?_ ?_
    | with_reducible refine RgS.ite ?_ ?_
    | with_reducible refine RgP.ite ?_ ?_
    | with_reducible exact RgS.none
    | with_reducible refine RgS.some ?_
    | with_reducible refine RgS.map ?_
    | with_reducible exact RgP.none
    | with_reducible refine RgP.some ?_
    | with_reducible refine Rg.elim ?_ ?_
    | with_reducible refine Rg.foldl ?_ _ _ ?_
    | with_reducible refine Rg.foldl₂ ?_ _ _ ?_
    | intro _ _ _ _ _ _
    | intro _ _ _ _ _
    | intro _ _ _ _
    | intro _ _ _
    | intro _ _
    | intro _
    | with_reducible refine Rg.pair (h := ?_) (e := by assumption)
    | with_reducible refine RgO.got (h := ?_) (e := by assumption)
    | with_reducible refine RgS.get (h := ?_) (e := by assumption)
    | with_reducible refine RgP.get (h := ?_) (e := by assumption)
    | split)

theorem State.dramRepair_rg {msk : Nat} {b₀ : State} {s : State} {ch : Nat} {rank : Nat} {bank : Nat} {kind : Nat} {row : Nat} (h₀ : Rg msk b₀ s) (hm₀ : 96107167241834975113312584178489302142293605564759693426004588894417285174339314651986626222954283729664672024879809959352794238588654061432213649874520966944 ||| msk = msk) :
    Rg msk b₀ (State.dramRepair s ch rank bank kind row) := by
  refine Rg.step h₀ ?_ hm₀
  clear h₀ hm₀
  unfold State.dramRepair
  try dsimp only
  repeat' (first
    | with_reducible exact Rg.refl _ _
    | exact (rfl : (_ : Nat) = _)
    | with_reducible refine State.record_rg ?_ ?_)

theorem execRfmRequest_rg {msk : Nat} {b₀ : State} {ch : Nat} {s : State} (h₀ : Rg msk b₀ s) (hm₀ : 82631996098781074868989413504096379978550585370535152410581099409300723904538918228148651304964410605948901503127919788032 ||| msk = msk) :
    RgO msk b₀ (execRfmRequest ch s) := by
  refine RgO.step h₀ ?_ hm₀
  clear h₀ hm₀
  unfold execRfmRequest
  try dsimp only
  repeat' (first
    | with_reducible exact Rg.refl _ _
    | with_reducible refine State.count_rg ?_ ?_
    | with_reducible refine in_DC_DRFM ?_
    | exact (rfl : (_ : Bool) = _)
    | with_reducible refine RgO.next ?_)

theorem State.dramCe_rg {msk : Nat} {b₀ : State} {s : State} {ch : Nat} {addr : Nat} {loc : Nat × Nat × Nat × Nat × Nat} {whole : Bool} {injected : Bool} (h₀ : Rg msk b₀ s) (hm₀ : 96107167241834975113312584178489302209432102395019316757058487366495593906911665265546437556551426999721510197317681019723573423872237678765696121165955794720 ||| msk = msk) :
    Rg msk b₀ (State.dramCe s ch addr loc whole injected) := by
  refine Rg.step h₀ ?_ hm₀
  clear h₀ hm₀
  unfold State.dramCe
  try dsimp only
  repeat' (first
    | with_reducible exact Rg.refl _ _
    | exact (rfl : (_ : Nat) = _)
    | with_reducible refine State.raise_rg ?_ ?_
    | with_reducible refine State.dramAddr_rg ?_ ?_
    | with_reducible refine State.wrN_rg ?_ ?_
    | with_reducible refine State.count_rg ?_ ?_
    | with_reducible refine State.setChan_rg ?_ ?_
    | with_reducible refine in_DC_CE_COUNT ?_
    | with_reducible refine in_DC_CE_LAST ?_
    | exact (rfl : (_ : Bool) = _))

theorem execScrubRead_rg {msk : Nat} {b₀ : State} {ch : Nat} {addr : Nat} {loc : Nat × Nat × Nat × Nat × Nat} {corrected : Bool} {whole : Bool} {uncorrectable : Bool} {progress : Nat} {passEnd : Bool} {s : State} (h₀ : Rg msk b₀ s) (hm₀ : 96107167241834975113312584178489302220083883142127814689389153951008017888521701660966984546977896845451681638137150947570860506152806233438796705553539206944 ||| msk = msk) :
    RgO msk b₀ (execScrubRead ch addr loc corrected whole uncorrectable progress passEnd s) := by
  refine RgO.step h₀ ?_ hm₀
  clear h₀ hm₀
  unfold execScrubRead
  try dsimp only
  repeat' (first
    | with_reducible exact Rg.refl _ _
    | with_reducible assumption
    | exact (rfl : (_ : Nat) = _)
    | with_reducible refine State.inject_rg ?_ ?_
    | with_reducible refine State.putFld_rg ?_ ?_
    | with_reducible refine State.event_rg ?_ ?_
    | with_reducible refine State.raise_rg ?_ ?_
    | with_reducible refine State.dramAddr_rg ?_ ?_
    | with_reducible refine State.count_rg ?_ ?_
    | with_reducible refine State.dramCe_rg ?_ ?_
    | with_reducible refine in_DC_SCRUB_PROGRESS ?_
    | with_reducible refine in_DC_UE_COUNT ?_
    | with_reducible refine InSet.ite ?_ ?_
    | exact (rfl : (_ : Bool) = _)
    | dsimp only
    | with_reducible refine Rg.ite ?_ ?_
    | with_reducible refine Rg.ite₁ ?_ ?_
    | with_reducible refine RgO.ite ?_ ?_
    | with_reducible refine RgS.ite ?_ ?_
    | with_reducible refine RgP.ite ?_ ?_
    | with_reducible refine RgO.next ?_
    | with_reducible exact RgS.none
    | with_reducible refine RgS.some ?_
    | with_reducible refine RgS.map ?_
    | with_reducible exact RgP.none
    | with_reducible refine RgP.some ?_
    | with_reducible refine Rg.elim ?_ ?_
    | with_reducible refine Rg.foldl ?_ _ _ ?_
    | with_reducible refine Rg.foldl₂ ?_ _ _ ?_
    | intro _ _ _ _ _ _
    | intro _ _ _ _ _
    | intro _ _ _ _
    | intro _ _ _
    | intro _ _
    | intro _
    | with_reducible refine Rg.pair (h := ?_) (e := by assumption)
    | with_reducible refine RgO.got (h := ?_) (e := by assumption)
    | with_reducible refine RgS.get (h := ?_) (e := by assumption)
    | with_reducible refine RgP.get (h := ?_) (e := by assumption)
    | split)

theorem State.freqCommit_rg {msk : Nat} {b₀ : State} {s : State} (h₀ : Rg msk b₀ s) (hm₀ : 10086913586276986678343434265636765134100413253239154346994763111486904773503285916522052161250538404046496765518544896 ||| msk = msk) :
    Rg msk b₀ (State.freqCommit s) := by
  refine Rg.step h₀ ?_ hm₀
  clear h₀ hm₀
  unfold State.freqCommit
  try dsimp only
  repeat' (first
    | with_reducible exact Rg.refl _ _
    | with_reducible assumption
    | exact (rfl : (_ : Nat) = _)
    | with_reducible refine State.setChan_rg ?_ ?_
    | with_reducible refine State.putBit_rg ?_ ?_
    | with_reducible refine in_DC_STATUS ?_
    | exact (rfl : (_ : Bool) = _)
    | with_reducible refine Rg.ite ?_ ?_
    | with_reducible refine Rg.foldl ?_ _ _ ?_
    | intro _ _ _
    | split)

theorem State.driftTake_rg {msk : Nat} {b₀ : State} {s : State} {ch : Nat} {k : Nat} {d : Int} (h₀ : Rg msk b₀ s) (hm₀ : 96107167241834975113312584178489302803349574355008292377919896927188325002743997616267845507603079004070463261191155784542004678303938909023425674897879271200 ||| msk = msk) :
    Rg msk b₀ (State.driftTake s ch k d) := by
  refine Rg.step h₀ ?_ hm₀
  clear h₀ hm₀
  unfold State.driftTake
  try dsimp only
  repeat' (first
    | with_reducible exact Rg.refl _ _
    | exact (rfl : (_ : Nat) = _)
    | with_reducible refine State.count_rg ?_ ?_
    | with_reducible refine State.setChan_rg ?_ ?_
    | with_reducible refine State.raise_rg ?_ ?_
    | with_reducible refine State.event_rg ?_ ?_
    | with_reducible refine in_DC_DRIFT_STEPS ?_
    | exact (rfl : (_ : Bool) = _)
    | with_reducible refine Rg.ite ?_ ?_)

theorem State.driftApply_rg {msk : Nat} {b₀ : State} {s : State} (h₀ : Rg msk b₀ s) (hm₀ : 96107167241834975113312584178489302803349574355008292377919896927188325002743997616267845507603079004070463261191155784542004678303938909023425674897879271200 ||| msk = msk) :
    Rg msk b₀ (State.driftApply s) := by
  refine Rg.step h₀ ?_ hm₀
  clear h₀ hm₀
  unfold State.driftApply
  try dsimp only
  repeat' (first
    | with_reducible exact Rg.refl _ _
    | with_reducible assumption
    | exact (rfl : (_ : Nat) = _)
    | with_reducible refine State.setChan_rg ?_ ?_
    | with_reducible refine State.driftTake_rg ?_ ?_
    | with_reducible refine Rg.foldl ?_ _ _ ?_
    | intro _ _ _)

theorem execRankSpareStart_rg {msk : Nat} {b₀ : State} {ch : Nat} {rank : Nat} {s : State} (h₀ : Rg msk b₀ s) (hm₀ : 96107167241834975113312584178489302142303692478345970412682932328682921939473415065239865377301278492776158929653313245269316290749904599836260146640039511840 ||| msk = msk) :
    RgO msk b₀ (execRankSpareStart ch rank s) := by
  refine RgO.step h₀ ?_ hm₀
  clear h₀ hm₀
  unfold execRankSpareStart
  try dsimp only
  repeat' (first
    | with_reducible exact Rg.refl _ _
    | exact (rfl : (_ : Nat) = _)
    | with_reducible refine State.raise_rg ?_ ?_
    | with_reducible refine State.putBit_rg ?_ ?_
    | with_reducible refine State.setChan_rg ?_ ?_
    | with_reducible refine in_DC_STATUS ?_
    | exact (rfl : (_ : Bool) = _)
    | with_reducible refine RgO.ite ?_ ?_
    | with_reducible refine RgO.next ?_)

theorem State.dcServe_rg {msk : Nat} {b₀ : State} {s : State} {ch : Nat} {now : Nat} {arrived : List DramReq} (h₀ : Rg msk b₀ s) (hm₀ : 330527984395124299475957654016385519914202341482140609642324397637202895618155672912594605219857642423795606012511679152128 ||| msk = msk) :
    Rg msk b₀ (State.dcServe s ch now arrived).1 := by
  refine Rg.step h₀ ?_ hm₀
  clear h₀ hm₀
  unfold State.dcServe
  try dsimp only
  repeat' (first
    | with_reducible exact Rg.refl _ _
    | with_reducible assumption
    | exact (rfl : (_ : Nat) = _)
    | with_reducible refine State.setChan_rg ?_ ?_
    | with_reducible refine State.dcRun_rg ?_ ?_
    | dsimp only
    | with_reducible refine Rg.ite ?_ ?_
    | with_reducible refine Rg.ite₁ ?_ ?_
    | with_reducible refine RgS.ite ?_ ?_
    | with_reducible refine RgP.ite ?_ ?_
    | with_reducible exact RgS.none
    | with_reducible refine RgS.some ?_
    | with_reducible refine RgS.map ?_
    | with_reducible exact RgP.none
    | with_reducible refine RgP.some ?_
    | with_reducible refine Rg.elim ?_ ?_
    | with_reducible refine Rg.foldl ?_ _ _ ?_
    | with_reducible refine Rg.foldl₂ ?_ _ _ ?_
    | intro _ _ _ _ _ _
    | intro _ _ _ _ _
    | intro _ _ _ _
    | intro _ _ _
    | intro _ _
    | intro _
    | with_reducible refine Rg.pair (h := ?_) (e := by assumption)
    | with_reducible refine RgO.got (h := ?_) (e := by assumption)
    | with_reducible refine RgS.get (h := ?_) (e := by assumption)
    | with_reducible refine RgP.get (h := ?_) (e := by assumption)
    | split)

theorem execRankSpareSwitch_rg {msk : Nat} {b₀ : State} {ch : Nat} {s : State} (h₀ : Rg msk b₀ s) (hm₀ : 96107194247307490256483011787304300969996698265642850267967445565836708732577235403804943164279540181485455424468457297639902116792271103390752836608982058784 ||| msk = msk) :
    RgO msk b₀ (execRankSpareSwitch ch s) := by
  refine RgO.step h₀ ?_ hm₀
  clear h₀ hm₀
  unfold execRankSpareSwitch
  try dsimp only
  repeat' (first
    | with_reducible exact Rg.refl _ _
    | exact (rfl : (_ : Nat) = _)
    | with_reducible refine State.setChan_rg ?_ ?_
    | with_reducible refine State.putBit_rg ?_ ?_
    | with_reducible refine State.putFld_rg ?_ ?_
    | with_reducible refine State.dramRepair_rg ?_ ?_
    | with_reducible refine State.rankRecord_rg ?_ ?_
    | with_reducible refine State.event_rg ?_ ?_
    | with_reducible refine State.count_rg ?_ ?_
    | with_reducible refine in_DC_STATUS ?_
    | with_reducible refine in_REMOUNTS ?_
    | with_reducible refine in_RM_COUNT ?_
    | with_reducible refine in_RM_INV ?_
    | exact (rfl : (_ : Bool) = _)
    | with_reducible refine RgO.next ?_
    | split)

theorem execNeighbourRefresh_rg {msk : Nat} {b₀ : State} {ch : Nat} {s : State} (h₀ : Rg msk b₀ s) (hm₀ : 82631996098781074868989413504096379978550585370535152410581099409300723904538918228148651304964410605948901503127919788032 ||| msk = msk) :
    RgO msk b₀ (execNeighbourRefresh ch s) := by
  refine RgO.step h₀ ?_ hm₀
  clear h₀ hm₀
  unfold execNeighbourRefresh
  try dsimp only
  repeat' (first
    | with_reducible exact Rg.refl _ _
    | with_reducible refine State.count_rg ?_ ?_
    | with_reducible refine in_DC_DRFM ?_
    | exact (rfl : (_ : Bool) = _)
    | with_reducible refine Rg.ite ?_ ?_
    | with_reducible refine RgO.next ?_)

theorem execSameBankRefresh_rg {msk : Nat} {b₀ : State} {ch : Nat} {rank : Nat} {bank : Nat} {s : State} (h₀ : Rg msk b₀ s) (hm₀ : 0 ||| msk = msk) :
    RgO msk b₀ (execSameBankRefresh ch rank bank s) := by
  refine RgO.step h₀ ?_ hm₀
  clear h₀ hm₀
  unfold execSameBankRefresh
  try dsimp only
  repeat' (first
    | with_reducible exact Rg.refl _ _
    | exact (rfl : (_ : Nat) = _)
    | with_reducible refine State.setChan_rg ?_ ?_
    | with_reducible refine RgO.next ?_)

theorem execDriftExamine_rg {msk : Nat} {b₀ : State} {ch : Nat} {counts : List (Nat × Nat × Nat × Nat)} {s : State} (h₀ : Rg msk b₀ s) (hm₀ : 0 ||| msk = msk) :
    RgO msk b₀ (execDriftExamine ch counts s) := by
  refine RgO.step h₀ ?_ hm₀
  clear h₀ hm₀
  unfold execDriftExamine
  try dsimp only
  repeat' (first
    | with_reducible exact Rg.refl _ _
    | exact (rfl : (_ : Nat) = _)
    | with_reducible refine State.setChan_rg ?_ ?_
    | with_reducible refine RgO.ite ?_ ?_
    | with_reducible refine RgO.next ?_)

theorem execPprRepair_rg {msk : Nat} {b₀ : State} {ch : Nat} {rank : Nat} {bank : Nat} {row : Nat} {s : State} (h₀ : Rg msk b₀ s) (hm₀ : 96107167241834975113312584178489302307557597762321843163983415902610045131440485393056931044116482548266119833957646415650096848517475273330016656130360543008 ||| msk = msk) :
    RgO msk b₀ (execPprRepair ch rank bank row s) := by
  refine RgO.step h₀ ?_ hm₀
  clear h₀ hm₀
  unfold execPprRepair
  try dsimp only
  repeat' (first
    | with_reducible exact Rg.refl _ _
    | exact (rfl : (_ : Nat) = _)
    | with_reducible refine State.setChan_rg ?_ ?_
    | with_reducible refine State.event_rg ?_ ?_
    | with_reducible refine State.dramRepair_rg ?_ ?_
    | with_reducible refine State.putFld_rg ?_ ?_
    | with_reducible refine in_DC_PPR ?_
    | exact (rfl : (_ : Bool) = _)
    | with_reducible refine RgO.ite ?_ ?_
    | with_reducible refine RgO.next ?_
    | split
    | refine Rg.mk' ?_)

end Sys2Proof.Machine
end

