-- ==== Sys2Proof/Laws/RgKde.lean ====
section
/-! SUPPORT. Register frames of the operations of Machine.Kde: the registers that each may write. -/

set_option maxRecDepth 20000
set_option Elab.async false
set_option linter.unusedTactic false
set_option linter.unreachableTactic false
set_option linter.unusedVariables false

namespace Sys2Proof.Machine

theorem State.setKde_rg {msk : Nat} {b₀ : State} {s : State} {k : KdeSt} (h₀ : Rg msk b₀ s) (hm₀ : 0 ||| msk = msk) :
    Rg msk b₀ (State.setKde s k) := by
  refine Rg.step h₀ ?_ hm₀
  clear h₀ hm₀
  unfold State.setKde
  try dsimp only
  repeat' (first
    | with_reducible exact Rg.refl _ _
    | refine Rg.mk' ?_)

theorem State.kdeTouch_rg {msk : Nat} {b₀ : State} {s : State} (h₀ : Rg msk b₀ s) (hm₀ : 0 ||| msk = msk) :
    Rg msk b₀ (State.kdeTouch s) := by
  refine Rg.step h₀ ?_ hm₀
  clear h₀ hm₀
  unfold State.kdeTouch
  try dsimp only
  repeat' (first
    | with_reducible exact Rg.refl _ _
    | exact (rfl : (_ : Nat) = _)
    | with_reducible refine State.setKde_rg ?_ ?_)

theorem State.kdeWrite_rg {msk : Nat} {b₀ : State} {s : State} {path : Nat} {f : State → State} (hf : ∀ t0, Rg msk b₀ t0 → Rg msk b₀ (f t0)) (h₀ : Rg msk b₀ s) (hm₀ : 96107167241834975113312584178489302142293605564759693426004588894417285174339314651986626222954283729664672024879809959352794238588654061432213649874520966944 ||| msk = msk) :
    Rg msk b₀ (State.kdeWrite s path f) := by
  unfold State.kdeWrite
  try dsimp only
  repeat' (first
    | with_reducible assumption
    | exact Rg.sub rfl hm₀
    | with_reducible refine State.raise_rg ?_ ?_
    | with_reducible refine State.kdeTouch_rg ?_ ?_
    | with_reducible refine hf _ ?_
    | with_reducible refine Rg.ite ?_ ?_)

theorem State.kdeLost_rg {msk : Nat} {b₀ : State} {s : State} (h₀ : Rg msk b₀ s) (hm₀ : 96107167241834975113312584184034641530535235283916521794290756301290159325090947802327585384183526345275923270959758771561073394783436483355020793532469282592 ||| msk = msk) :
    Rg msk b₀ (State.kdeLost s) := by
  refine Rg.step h₀ ?_ hm₀
  clear h₀ hm₀
  unfold State.kdeLost
  try dsimp only
  repeat' (first
    | with_reducible exact Rg.refl _ _
    | exact (rfl : (_ : Nat) = _)
    | with_reducible refine State.raise_rg ?_ ?_
    | with_reducible refine State.putBit_rg ?_ ?_
    | with_reducible refine in_KDE_STATUS ?_
    | exact (rfl : (_ : Bool) = _))

theorem execKdeData_rg {msk : Nat} {b₀ : State} {path : Nat} {w : Word} {s : State} (h₀ : Rg msk b₀ s) (hm₀ : 96107167241834975113312584228397356636468273037171148740580095556273152531104013005055258674017467270165933239599349269227306644341695858737477942796055807776 ||| msk = msk) :
    RgO msk b₀ (execKdeData path w s) := by
  refine RgO.step h₀ ?_ hm₀
  clear h₀ hm₀
  unfold execKdeData
  try dsimp only
  repeat' (first
    | with_reducible exact Rg.refl _ _
    | with_reducible assumption
    | exact (rfl : (_ : Nat) = _)
    | with_reducible refine State.kdeWrite_rg ?_ ?_ ?_
    | with_reducible refine State.raise_rg ?_ ?_
    | with_reducible refine State.kdeLost_rg ?_ ?_
    | with_reducible refine State.wr64_rg ?_ ?_ ?_
    | with_reducible refine State.setKde_rg ?_ ?_
    | with_reducible refine State.putBit_rg ?_ ?_
    | with_reducible refine in_KDE_LEN ?_
    | with_reducible refine in_KDE_LEN4 ?_
    | with_reducible refine in_KDE_STATUS ?_
    | exact (rfl : (_ : Bool) = _)
    | with_reducible refine Rg.ite ?_ ?_
    | with_reducible refine RgO.next ?_
    | intro _ _)

theorem State.kdeResult_rg {msk : Nat} {b₀ : State} {s : State} {r : Nat} (h₀ : Rg msk b₀ s) (hm₀ : 266176290635598226519527761677736035529897959236078391216366039739003645549340059811837542985997399497349556252294742895581519151104 ||| msk = msk) :
    Rg msk b₀ (State.kdeResult s r) := by
  refine Rg.step h₀ ?_ hm₀
  clear h₀ hm₀
  unfold State.kdeResult
  try dsimp only
  repeat' (first
    | with_reducible exact Rg.refl _ _
    | with_reducible refine State.wrN_rg ?_ ?_
    | with_reducible refine in_KDE_CMP_COMPAT ?_
    | with_reducible refine in_KDE_RESULT ?_
    | exact (rfl : (_ : Bool) = _))

theorem State.kdePass_rg {msk : Nat} {b₀ : State} {s : State} (h₀ : Rg msk b₀ s) (hm₀ : 693167423530203714894603546035770925859109268843954143792619895153655326951406405759993601526034894524347802740350892957243539456 ||| msk = msk) :
    Rg msk b₀ (State.kdePass s) := by
  refine Rg.step h₀ ?_ hm₀
  clear h₀ hm₀
  unfold State.kdePass
  try dsimp only
  repeat' (first
    | with_reducible exact Rg.refl _ _
    | exact (rfl : (_ : Nat) = _)
    | with_reducible refine State.kdeTouch_rg ?_ ?_
    | with_reducible refine State.wrN_rg ?_ ?_
    | with_reducible refine in_KDE_OWNER ?_
    | exact (rfl : (_ : Bool) = _)
    | with_reducible refine Rg.ite ?_ ?_)

theorem State.clear16_rg {msk : Nat} {b₀ : State} {s : State} {r : Nat → Nat} (hk : ∀ i, InSet msk (r i)) (h₀ : Rg msk b₀ s) (hm₀ : 0 ||| msk = msk) :
    Rg msk b₀ (State.clear16 s r) := by
  unfold State.clear16
  try dsimp only
  repeat' (first
    | with_reducible assumption
    | with_reducible refine State.wrN_rg ?_ ?_
    | with_reducible exact hk _
    | with_reducible refine Rg.foldl ?_ _ _ ?_
    | intro _ _ _)

theorem State.kdeIdle_rg {msk : Nat} {b₀ : State} {s : State} (h₀ : Rg msk b₀ s) (hm₀ : 5545339388241629719156828368286167406872874150751633150340959161229242615611251246079948812208279156194782421922807143657948315648 ||| msk = msk) :
    Rg msk b₀ (State.kdeIdle s) := by
  refine Rg.step h₀ ?_ hm₀
  clear h₀ hm₀
  unfold State.kdeIdle
  try dsimp only
  repeat' (first
    | with_reducible exact Rg.refl _ _
    | exact (rfl : (_ : Nat) = _)
    | with_reducible refine State.setKde_rg ?_ ?_
    | with_reducible refine State.putBit_rg ?_ ?_
    | with_reducible refine in_KDE_STATUS ?_
    | exact (rfl : (_ : Bool) = _))

theorem execKdeRelease_rg {msk : Nat} {b₀ : State} {path : Nat} {id : Nat} {s : State} (h₀ : Rg msk b₀ s) (hm₀ : 96107167241834975113312607164614233827378995184707883518204261308339749308702676959054969413318580765252493432027630164195931560486140734208175005027532867360 ||| msk = msk) :
    RgO msk b₀ (execKdeRelease path id s) := by
  refine RgO.step h₀ ?_ hm₀
  clear h₀ hm₀
  unfold execKdeRelease
  try dsimp only
  repeat' (first
    | with_reducible exact Rg.refl _ _
    | exact (rfl : (_ : Nat) = _)
    | with_reducible refine State.raise_rg ?_ ?_
    | with_reducible refine State.kdePass_rg ?_ ?_
    | with_reducible refine State.kdeResult_rg ?_ ?_
    | with_reducible refine State.clear16_rg ?_ ?_ ?_
    | with_reducible refine State.kdeIdle_rg ?_ ?_
    | with_reducible refine in_KDE_EXPECT ?_
    | exact (rfl : (_ : Bool) = _)
    | with_reducible refine Rg.ite ?_ ?_
    | with_reducible refine RgO.next ?_
    | intro _)

theorem State.setKeySlot_rg {msk : Nat} {b₀ : State} {s : State} {n : Nat} {k : KeySlot} (h₀ : Rg msk b₀ s) (hm₀ : 17444129383094565373183771389312108824487392656495633446755764780335342914721550159828585217130325573458300518550388270404830439086751744 ||| msk = msk) :
    Rg msk b₀ (State.setKeySlot s n k) := by
  refine Rg.step h₀ ?_ hm₀
  clear h₀ hm₀
  unfold State.setKeySlot
  try dsimp only
  repeat' (first
    | with_reducible exact Rg.refl _ _
    | with_reducible refine State.wr64_rg ?_ ?_ ?_
    | with_reducible refine in_KS_LOCK_MAP ?_
    | with_reducible refine in_KS_LOCK_MAP4 ?_
    | with_reducible refine in_KS_VALID_MAP ?_
    | with_reducible refine in_KS_VALID_MAP4 ?_
    | exact (rfl : (_ : Bool) = _)
    | split
    | refine Rg.mk' ?_)

theorem State.keyGone_rg {msk : Nat} {b₀ : State} {s : State} {n : Nat} (h₀ : Rg msk b₀ s) (hm₀ : 5545339388241629719156828368286167406872874150751633150340959161229242615611251246079948812208279156194782421922807143657948315648 ||| msk = msk) :
    Rg msk b₀ (State.keyGone s n) := by
  refine Rg.step h₀ ?_ hm₀
  clear h₀ hm₀
  unfold State.keyGone
  try dsimp only
  repeat' (first
    | with_reducible exact Rg.refl _ _
    | with_reducible refine State.putBit_rg ?_ ?_
    | with_reducible refine in_KDE_STATUS ?_
    | exact (rfl : (_ : Bool) = _)
    | with_reducible refine Rg.ite ?_ ?_
    | split
    | refine Rg.mk' ?_)

theorem State.ksClear_rg {msk : Nat} {b₀ : State} {s : State} (h₀ : Rg msk b₀ s) (hm₀ : 46517678354918840995156723704832290198633047083988355858015372747560914439257467092876227245680868195888801382801035387746214504231337984 ||| msk = msk) :
    Rg msk b₀ (State.ksClear s) := by
  refine Rg.step h₀ ?_ hm₀
  clear h₀ hm₀
  unfold State.ksClear
  try dsimp only
  repeat' (first
    | with_reducible exact Rg.refl _ _
    | with_reducible assumption
    | with_reducible refine State.wrN_rg ?_ ?_
    | with_reducible refine in_KS_DATA ?_
    | exact (rfl : (_ : Bool) = _)
    | with_reducible refine Rg.foldl ?_ _ _ ?_
    | intro _ _ _)

theorem execKsInvalidOp_rg {msk : Nat} {b₀ : State} {s : State} (h₀ : Rg msk b₀ s) (hm₀ : 96107167241834975113359283566525294885011399619416497717336810351841445359712400397283982297215569546238379799888169268440073230601856663364443248029159458592 ||| msk = msk) :
    RgO msk b₀ (execKsInvalidOp s) := by
  refine RgO.step h₀ ?_ hm₀
  clear h₀ hm₀
  unfold execKsInvalidOp
  try dsimp only
  repeat' (first
    | with_reducible exact Rg.refl _ _
    | exact (rfl : (_ : Nat) = _)
    | with_reducible refine State.writeDiscarded_rg ?_ ?_
    | with_reducible refine State.ksClear_rg ?_ ?_
    | with_reducible refine State.wrN_rg ?_ ?_
    | with_reducible refine in_KS_CMD_STATUS ?_
    | exact (rfl : (_ : Bool) = _)
    | with_reducible refine Rg.ite ?_ ?_
    | with_reducible refine RgO.next ?_)

theorem State.ksEnd_rg {msk : Nat} {b₀ : State} {s : State} {result : Nat} (h₀ : Rg msk b₀ s) (hm₀ : 181709681073901722637330951972001133588410340171829515070372549795159822028349480831547762678440891390190630401566544483383650407153696 ||| msk = msk) :
    Rg msk b₀ (State.ksEnd s result) := by
  refine Rg.step h₀ ?_ hm₀
  clear h₀ hm₀
  unfold State.ksEnd
  try dsimp only
  repeat' (first
    | with_reducible exact Rg.refl _ _
    | exact (rfl : (_ : Nat) = _)
    | with_reducible refine State.event_rg ?_ ?_
    | with_reducible refine State.wrN_rg ?_ ?_
    | with_reducible refine in_KS_CMD_STATUS ?_
    | exact (rfl : (_ : Bool) = _))

theorem State.ksRefuse_rg {msk : Nat} {b₀ : State} {s : State} {code : Nat} {slot : Nat} (h₀ : Rg msk b₀ s) (hm₀ : 96107167241834975113312765888170376044016242895711665427138177304757457003854385024536421382776312079145503572642488400244184429219055627976697033524928120608 ||| msk = msk) :
    Rg msk b₀ (State.ksRefuse s code slot) := by
  refine Rg.step h₀ ?_ hm₀
  clear h₀ hm₀
  unfold State.ksRefuse
  try dsimp only
  repeat' (first
    | with_reducible exact Rg.refl _ _
    | exact (rfl : (_ : Nat) = _)
    | with_reducible refine State.raise_rg ?_ ?_
    | with_reducible refine State.ksEnd_rg ?_ ?_)

theorem State.zeroise_rg {msk : Nat} {b₀ : State} {s : State} {n : Nat} (h₀ : Rg msk b₀ s) (hm₀ : 17444134928433953614813490546140477110654799529369784198388915121294504143964165771079831297079137781737456713332810193211974097035067424 ||| msk = msk) :
    Rg msk b₀ (State.zeroise s n) := by
  refine Rg.step h₀ ?_ hm₀
  clear h₀ hm₀
  unfold State.zeroise
  try dsimp only
  repeat' (first
    | with_reducible exact Rg.refl _ _
    | exact (rfl : (_ : Nat) = _)
    | with_reducible refine State.event_rg ?_ ?_
    | with_reducible refine State.keyGone_rg ?_ ?_
    | with_reducible refine State.setKeySlot_rg ?_ ?_)

theorem State.ksTake_rg {msk : Nat} {b₀ : State} {s : State} {c : KsCmd} (h₀ : Rg msk b₀ s) (hm₀ : 96107167241834975113330210023098809997631056386257805904248832104286826788052773939657715886920276244916583403939567538025921885932388438169909007621963188000 ||| msk = msk) :
    Rg msk b₀ (State.ksTake s c) := by
  refine Rg.step h₀ ?_ hm₀
  clear h₀ hm₀
  unfold State.ksTake
  try dsimp only
  repeat' (first
    | with_reducible exact Rg.refl _ _
    | exact (rfl : (_ : Nat) = _)
    | with_reducible refine State.ksRefuse_rg ?_ ?_
    | with_reducible refine State.ksEnd_rg ?_ ?_
    | with_reducible refine State.keyGone_rg ?_ ?_
    | with_reducible refine State.setKeySlot_rg ?_ ?_
    | with_reducible refine State.zeroise_rg ?_ ?_
    | with_reducible refine Rg.ite ?_ ?_
    | split)

theorem State.ksApply_rg {msk : Nat} {b₀ : State} {s : State} (h₀ : Rg msk b₀ s) (hm₀ : 96107167241834975113330210023098809997631056386257805904248832104286826788052773939657715886920276244916583403939567538025921885932388438169909007621963188000 ||| msk = msk) :
    Rg msk b₀ (State.ksApply s) := by
  refine Rg.step h₀ ?_ hm₀
  clear h₀ hm₀
  unfold State.ksApply
  try dsimp only
  repeat' (first
    | with_reducible exact Rg.refl _ _
    | exact (rfl : (_ : Nat) = _)
    | with_reducible refine State.ksTake_rg ?_ ?_
    | split
    | refine Rg.mk' ?_)

theorem State.ctxResult_rg {msk : Nat} {b₀ : State} {s : State} {code : Nat} (h₀ : Rg msk b₀ s) (hm₀ : 96107167241834975113312584888292743837222209616833724566634016974145176470548357895629398860297338527904831523113257922012526231520804067551528038091905369888 ||| msk = msk) :
    Rg msk b₀ (State.ctxResult s code) := by
  refine Rg.step h₀ ?_ hm₀
  clear h₀ hm₀
  unfold State.ctxResult
  try dsimp only
  repeat' (first
    | with_reducible exact Rg.refl _ _
    | exact (rfl : (_ : Nat) = _)
    | with_reducible refine State.putFld_rg ?_ ?_
    | with_reducible refine State.raise_rg ?_ ?_
    | with_reducible refine in_KDE_CTX_STATUS ?_
    | exact (rfl : (_ : Bool) = _)
    | with_reducible refine Rg.ite ?_ ?_)

theorem execKdeBlockDone_rg {msk : Nat} {b₀ : State} {s : State} (h₀ : Rg msk b₀ s) (hm₀ : 5545339388241629719156828368286167406872874150751633150340959161229242615611251246079948812208279156194782421922807143657948315648 ||| msk = msk) :
    RgO msk b₀ (execKdeBlockDone s) := by
  refine RgO.step h₀ ?_ hm₀
  clear h₀ hm₀
  unfold execKdeBlockDone
  try dsimp only
  repeat' (first
    | with_reducible exact Rg.refl _ _
    | with_reducible refine State.putBit_rg ?_ ?_
    | with_reducible refine in_KDE_STATUS ?_
    | exact (rfl : (_ : Bool) = _)
    | with_reducible refine RgO.next ?_)

theorem execKsSlotParity_rg {msk : Nat} {b₀ : State} {slot : Nat} {s : State} (h₀ : Rg msk b₀ s) (hm₀ : 96107167241834975113330028313417736095908419055305833903115243693946654958537703567107920727098247895435751856176889097134531695301986871625425623971556034336 ||| msk = msk) :
    RgO msk b₀ (execKsSlotParity slot s) := by
  refine RgO.step h₀ ?_ hm₀
  clear h₀ hm₀
  unfold execKsSlotParity
  try dsimp only
  repeat' (first
    | with_reducible exact Rg.refl _ _
    | exact (rfl : (_ : Nat) = _)
    | with_reducible refine State.raise_rg ?_ ?_
    | with_reducible refine State.zeroise_rg ?_ ?_
    | with_reducible refine RgO.next ?_)

theorem State.ksWrite_rg {msk : Nat} {b₀ : State} {s : State} {op : Nat} {force : Bool} (h₀ : Rg msk b₀ s) (hm₀ : 96107167241834975113359283566525294885011399619416497717336810351841445359712400397283982297215569546238379799888169268440073230601856663364443248029159458592 ||| msk = msk) :
    Rg msk b₀ (State.ksWrite s op force) := by
  refine Rg.step h₀ ?_ hm₀
  clear h₀ hm₀
  unfold State.ksWrite
  try dsimp only
  repeat' (first
    | with_reducible exact Rg.refl _ _
    | exact (rfl : (_ : Nat) = _)
    | with_reducible refine State.writeDiscarded_rg ?_ ?_
    | with_reducible refine State.ksClear_rg ?_ ?_
    | with_reducible refine State.wrN_rg ?_ ?_
    | with_reducible refine in_KS_CMD_STATUS ?_
    | exact (rfl : (_ : Bool) = _)
    | with_reducible refine Rg.ite ?_ ?_
    | split
    | refine Rg.mk' ?_)

theorem execKsLock_rg {msk : Nat} {b₀ : State} {s : State} (h₀ : Rg msk b₀ s) (hm₀ : 96107167241834975113359283566525294885011399619416497717336810351841445359712400397283982297215569546238379799888169268440073230601856663364443248029159458592 ||| msk = msk) :
    RgO msk b₀ (execKsLock s) := by
  refine RgO.step h₀ ?_ hm₀
  clear h₀ hm₀
  unfold execKsLock
  try dsimp only
  repeat' (first
    | with_reducible exact Rg.refl _ _
    | exact (rfl : (_ : Nat) = _)
    | with_reducible refine State.ksWrite_rg ?_ ?_
    | with_reducible refine RgO.next ?_)

theorem execKsLoad_rg {msk : Nat} {b₀ : State} {s : State} (h₀ : Rg msk b₀ s) (hm₀ : 96107167241834975113359283566525294885011399619416497717336810351841445359712400397283982297215569546238379799888169268440073230601856663364443248029159458592 ||| msk = msk) :
    RgO msk b₀ (execKsLoad s) := by
  refine RgO.step h₀ ?_ hm₀
  clear h₀ hm₀
  unfold execKsLoad
  try dsimp only
  repeat' (first
    | with_reducible exact Rg.refl _ _
    | exact (rfl : (_ : Nat) = _)
    | with_reducible refine State.ksWrite_rg ?_ ?_
    | with_reducible refine RgO.next ?_)

theorem State.kdeCompare_rg {msk : Nat} {b₀ : State} {s : State} {digest : List Byte} {n : Nat} (h₀ : Rg msk b₀ s) (hm₀ : 96107167241834975113312584444665592777891832084287455103740624424315244410417705868352665961957929279004731836717352945350193735938210313726956545456040120096 ||| msk = msk) :
    Rg msk b₀ (State.kdeCompare s digest n) := by
  refine Rg.step h₀ ?_ hm₀
  clear h₀ hm₀
  unfold State.kdeCompare
  try dsimp only
  repeat' (first
    | with_reducible exact Rg.refl _ _
    | exact (rfl : (_ : Nat) = _)
    | with_reducible refine State.inject_rg ?_ ?_
    | with_reducible refine State.raise_rg ?_ ?_
    | with_reducible refine State.event_rg ?_ ?_
    | with_reducible refine State.kdeResult_rg ?_ ?_
    | with_reducible refine Rg.ite ?_ ?_)

theorem execKsZeroise_rg {msk : Nat} {b₀ : State} {force : Bool} {s : State} (h₀ : Rg msk b₀ s) (hm₀ : 96107167241834975113359283566525294885011399619416497717336810351841445359712400397283982297215569546238379799888169268440073230601856663364443248029159458592 ||| msk = msk) :
    RgO msk b₀ (execKsZeroise force s) := by
  refine RgO.step h₀ ?_ hm₀
  clear h₀ hm₀
  unfold execKsZeroise
  try dsimp only
  repeat' (first
    | with_reducible exact Rg.refl _ _
    | exact (rfl : (_ : Nat) = _)
    | with_reducible refine State.ksWrite_rg ?_ ?_
    | with_reducible refine RgO.next ?_)

theorem State.setCtxs_rg {msk : Nat} {b₀ : State} {s : State} {c : Amap KdeSession} (h₀ : Rg msk b₀ s) (hm₀ : 2129410325084785812156222093421888284239183673888627129730928317912029164394720478494700343887979195978796450018357943164652153208832 ||| msk = msk) :
    Rg msk b₀ (State.setCtxs s c) := by
  refine Rg.step h₀ ?_ hm₀
  clear h₀ hm₀
  unfold State.setCtxs
  try dsimp only
  repeat' (first
    | with_reducible exact Rg.refl _ _
    | with_reducible assumption
    | exact (rfl : (_ : Nat) = _)
    | with_reducible refine State.setKde_rg ?_ ?_
    | with_reducible refine State.putFld_rg ?_ ?_
    | with_reducible refine State.putBit_rg ?_ ?_
    | with_reducible refine in_KDE_CTX_OWNER ?_
    | with_reducible refine in_KDE_CTX_STATUS ?_
    | exact (rfl : (_ : Bool) = _)
    | with_reducible refine Rg.foldl ?_ _ _ ?_
    | intro _ _ _)

theorem execKdeCtxExpired_rg {msk : Nat} {b₀ : State} {n : Nat} {s : State} (h₀ : Rg msk b₀ s) (hm₀ : 2129410325084785812156222093421888284239183673888627129730928317912029164394720478494700343887979195978796450018357943164652153208864 ||| msk = msk) :
    RgO msk b₀ (execKdeCtxExpired n s) := by
  refine RgO.step h₀ ?_ hm₀
  clear h₀ hm₀
  unfold execKdeCtxExpired
  try dsimp only
  repeat' (first
    | with_reducible exact Rg.refl _ _
    | exact (rfl : (_ : Nat) = _)
    | with_reducible refine State.event_rg ?_ ?_
    | with_reducible refine State.setCtxs_rg ?_ ?_
    | with_reducible refine Rg.ite ?_ ?_
    | with_reducible refine RgO.next ?_
    | split)

theorem execKdeAbort_rg {msk : Nat} {b₀ : State} {path : Nat} {s : State} (h₀ : Rg msk b₀ s) (hm₀ : 96107167241834975113312584450210932166133461803444283472026791831188118561169339018693625123187171894615983082797301757558472892132992735649763689113988433696 ||| msk = msk) :
    RgO msk b₀ (execKdeAbort path s) := by
  refine RgO.step h₀ ?_ hm₀
  clear h₀ hm₀
  unfold execKdeAbort
  try dsimp only
  repeat' (first
    | with_reducible exact Rg.refl _ _
    | with_reducible assumption
    | exact (rfl : (_ : Nat) = _)
    | with_reducible refine State.kdeWrite_rg ?_ ?_ ?_
    | with_reducible refine State.kdeResult_rg ?_ ?_
    | with_reducible refine State.kdeIdle_rg ?_ ?_
    | with_reducible refine Rg.ite ?_ ?_
    | with_reducible refine RgO.next ?_
    | intro _ _)

theorem execKdeCtxResume_rg {msk : Nat} {b₀ : State} {path : Nat} {n : Nat} {s : State} (h₀ : Rg msk b₀ s) (hm₀ : 96107167241834975113312609071517815958969414859762238662610078346749347898420526532552300981024385208571515677770027962317926396966946072913481530404509910816 ||| msk = msk) :
    RgO msk b₀ (execKdeCtxResume path n s) := by
  refine RgO.step h₀ ?_ hm₀
  clear h₀ hm₀
  unfold execKdeCtxResume
  try dsimp only
  repeat' (first
    | with_reducible exact Rg.refl _ _
    | with_reducible assumption
    | exact (rfl : (_ : Nat) = _)
    | with_reducible refine State.kdeWrite_rg ?_ ?_ ?_
    | with_reducible refine State.ctxResult_rg ?_ ?_
    | with_reducible refine State.useFree_rg ?_ ?_
    | with_reducible refine State.putFld_rg ?_ ?_
    | with_reducible refine State.setCtxs_rg ?_ ?_
    | with_reducible refine State.wr64_rg ?_ ?_ ?_
    | with_reducible refine State.setKde_rg ?_ ?_
    | with_reducible refine State.wrN_rg ?_ ?_
    | with_reducible refine in_KDE_CTX_STATUS ?_
    | with_reducible refine in_KDE_EXPECT ?_
    | with_reducible refine in_KDE_LEN ?_
    | with_reducible refine in_KDE_LEN4 ?_
    | with_reducible refine in_KDE_STATUS ?_
    | exact (rfl : (_ : Bool) = _)
    | with_reducible refine Rg.ite ?_ ?_
    | with_reducible refine RgO.next ?_
    | with_reducible refine Rg.foldl ?_ _ _ ?_
    | intro _ _ _
    | intro _ _
    | split)

theorem execKdeCtxDiscard_rg {msk : Nat} {b₀ : State} {path : Nat} {n : Nat} {s : State} (h₀ : Rg msk b₀ s) (hm₀ : 96107167241834975113312586307899627227079417720981786847892873133600959062966444382914944134983448124385150519580153847331990217385104079790156814526674175776 ||| msk = msk) :
    RgO msk b₀ (execKdeCtxDiscard path n s) := by
  refine RgO.step h₀ ?_ hm₀
  clear h₀ hm₀
  unfold execKdeCtxDiscard
  try dsimp only
  repeat' (first
    | with_reducible exact Rg.refl _ _
    | with_reducible assumption
    | exact (rfl : (_ : Nat) = _)
    | with_reducible refine State.kdeWrite_rg ?_ ?_ ?_
    | with_reducible refine State.ctxResult_rg ?_ ?_
    | with_reducible refine State.setCtxs_rg ?_ ?_
    | with_reducible refine Rg.ite ?_ ?_
    | with_reducible refine RgO.next ?_
    | intro _ _
    | split)

theorem execKdeStart_rg {msk : Nat} {b₀ : State} {path : Nat} {s : State} (h₀ : Rg msk b₀ s) (hm₀ : 96107167241834975113312595851428714390924164389883408668386980361817372506527096119705660610509989591348545023172059657780418028605652208941251049855725405984 ||| msk = msk) :
    RgO msk b₀ (execKdeStart path s) := by
  refine RgO.step h₀ ?_ hm₀
  clear h₀ hm₀
  unfold execKdeStart
  try dsimp only
  repeat' (first
    | with_reducible exact Rg.refl _ _
    | with_reducible assumption
    | exact (rfl : (_ : Nat) = _)
    | with_reducible refine State.kdeWrite_rg ?_ ?_ ?_
    | with_reducible refine State.writeDiscarded_rg ?_ ?_
    | with_reducible refine State.raise_rg ?_ ?_
    | with_reducible refine State.wr64_rg ?_ ?_ ?_
    | with_reducible refine State.kdeResult_rg ?_ ?_
    | with_reducible refine State.clear16_rg ?_ ?_ ?_
    | with_reducible refine State.wrN_rg ?_ ?_
    | with_reducible refine State.setKde_rg ?_ ?_
    | with_reducible refine in_KDE_DIGEST ?_
    | with_reducible refine in_KDE_LEN ?_
    | with_reducible refine in_KDE_LEN4 ?_
    | with_reducible refine in_KDE_STATUS ?_
    | exact (rfl : (_ : Bool) = _)
    | with_reducible refine Rg.ite ?_ ?_
    | with_reducible refine RgO.next ?_
    | intro _ _
    | intro _)

theorem execKsSetUse_rg {msk : Nat} {b₀ : State} {s : State} (h₀ : Rg msk b₀ s) (hm₀ : 96107167241834975113359283566525294885011399619416497717336810351841445359712400397283982297215569546238379799888169268440073230601856663364443248029159458592 ||| msk = msk) :
    RgO msk b₀ (execKsSetUse s) := by
  refine RgO.step h₀ ?_ hm₀
  clear h₀ hm₀
  unfold execKsSetUse
  try dsimp only
  repeat' (first
    | with_reducible exact Rg.refl _ _
    | exact (rfl : (_ : Nat) = _)
    | with_reducible refine State.ksWrite_rg ?_ ?_
    | with_reducible refine RgO.next ?_)

theorem execKdeFinishDone_rg {msk : Nat} {b₀ : State} {s : State} (h₀ : Rg msk b₀ s) (hm₀ : 96107167241834975113312601485493532844419959053221030847133065744657509670186376866120168419420487052379811040400052861392040722504592882513309006331214106400 ||| msk = msk) :
    RgO msk b₀ (execKdeFinishDone s) := by
  refine RgO.step h₀ ?_ hm₀
  clear h₀ hm₀
  unfold execKdeFinishDone
  try dsimp only
  repeat' (first
    | with_reducible exact Rg.refl _ _
    | with_reducible assumption
    | exact (rfl : (_ : Nat) = _)
    | with_reducible refine State.count_rg ?_ ?_
    | with_reducible refine State.event_rg ?_ ?_
    | with_reducible refine State.putBit_rg ?_ ?_
    | with_reducible refine State.kdeIdle_rg ?_ ?_
    | with_reducible refine State.operate_rg ?_ ?_
    | with_reducible refine State.kdeResult_rg ?_ ?_
    | with_reducible refine State.clear16_rg ?_ ?_ ?_
    | with_reducible refine State.wrN_rg ?_ ?_
    | with_reducible refine State.kdeCompare_rg ?_ ?_
    | with_reducible refine in_KDE_DIGEST ?_
    | with_reducible refine in_KDE_SESSIONS ?_
    | with_reducible refine in_KDE_STATUS ?_
    | with_reducible refine InSet.ite ?_ ?_
    | exact (rfl : (_ : Bool) = _)
    | dsimp only
    | with_reducible refine Rg.ite ?_ ?_
    | with_reducible refine Rg.ite₁ ?_ ?_
    | with_reducible refine RgO.ite ?_ ?_
    | with_reducible refine RgS.ite ?_ ?_
    | with_reducible refine RgP.ite ?_ ?_
    | with_reducible refine RgO.next ?_
    | with_reducible exact RgS.none
    | with_reducible refine RgS.some ?_
    | with_reducible refine RgS.map ?_
    | with_reducible exact RgP.none
    | with_reducible refine RgP.some ?_
    | with_reducible refine Rg.elim ?_ ?_
    | with_reducible refine Rg.foldl ?_ _ _ ?_
    | with_reducible refine Rg.foldl₂ ?_ _ _ ?_
    | intro _ _ _ _ _ _
    | intro _ _ _ _ _
    | intro _ _ _ _
    | intro _ _ _
    | intro _ _
    | intro _
    | with_reducible refine Rg.pair (h := ?_) (e := by assumption)
    | with_reducible refine RgO.got (h := ?_) (e := by assumption)
    | with_reducible refine RgS.get (h := ?_) (e := by assumption)
    | with_reducible refine RgP.get (h := ?_) (e := by assumption)
    | split)

theorem execKdeIdleTimeout_rg {msk : Nat} {b₀ : State} {s : State} (h₀ : Rg msk b₀ s) (hm₀ : 34342979998803943054453132688342270521689568724873708054205352705387853173807430373378882987607398849208811886770684991566631162347552 ||| msk = msk) :
    RgO msk b₀ (execKdeIdleTimeout s) := by
  refine RgO.step h₀ ?_ hm₀
  clear h₀ hm₀
  unfold execKdeIdleTimeout
  try dsimp only
  repeat' (first
    | with_reducible exact Rg.refl _ _
    | exact (rfl : (_ : Nat) = _)
    | with_reducible refine State.kdePass_rg ?_ ?_
    | with_reducible refine State.event_rg ?_ ?_
    | with_reducible refine State.kdeResult_rg ?_ ?_
    | with_reducible refine State.clear16_rg ?_ ?_ ?_
    | with_reducible refine State.kdeIdle_rg ?_ ?_
    | with_reducible refine in_KDE_DIGEST ?_
    | with_reducible refine in_KDE_EXPECT ?_
    | exact (rfl : (_ : Bool) = _)
    | with_reducible refine Rg.ite ?_ ?_
    | with_reducible refine RgO.next ?_
    | intro _)

theorem execKdeCtxSuspend_rg {msk : Nat} {b₀ : State} {path : Nat} {n : Nat} {s : State} (h₀ : Rg msk b₀ s) (hm₀ : 96107167241834975113312586314138134038851251155033218762214811466332942482562031677048523191366346066947808171420096261066304268104234304453314851141866030880 ||| msk = msk) :
    RgO msk b₀ (execKdeCtxSuspend path n s) := by
  refine RgO.step h₀ ?_ hm₀
  clear h₀ hm₀
  unfold execKdeCtxSuspend
  try dsimp only
  repeat' (first
    | with_reducible exact Rg.refl _ _
    | with_reducible assumption
    | exact (rfl : (_ : Nat) = _)
    | with_reducible refine State.kdeWrite_rg ?_ ?_ ?_
    | with_reducible refine State.ctxResult_rg ?_ ?_
    | with_reducible refine State.kdePass_rg ?_ ?_
    | with_reducible refine State.kdeIdle_rg ?_ ?_
    | with_reducible refine State.setCtxs_rg ?_ ?_
    | with_reducible refine Rg.ite ?_ ?_
    | with_reducible refine RgO.next ?_
    | intro _ _)

theorem execKdeExpectWrite_rg {msk : Nat} {b₀ : State} {path : Nat} {i : Nat} {w : Word} {s : State} (h₀ : Rg msk b₀ s) (hm₀ : 96107167241834975113312607158375727015607161750656451603882322975607765889107089664921390356935682822689835780187687750461617509767010509545016968412341012256 ||| msk = msk) :
    RgO msk b₀ (execKdeExpectWrite path i w s) := by
  refine RgO.step h₀ ?_ hm₀
  clear h₀ hm₀
  unfold execKdeExpectWrite
  try dsimp only
  repeat' (first
    | with_reducible exact Rg.refl _ _
    | with_reducible assumption
    | exact (rfl : (_ : Nat) = _)
    | with_reducible refine State.kdeWrite_rg ?_ ?_ ?_
    | with_reducible refine State.kdeResult_rg ?_ ?_
    | with_reducible refine State.wr_rg ?_ ?_
    | with_reducible refine in_KDE_EXPECT ?_
    | exact (rfl : (_ : Bool) = _)
    | with_reducible refine RgO.next ?_
    | intro _ _)

theorem execKdeClaim_rg {msk : Nat} {b₀ : State} {path : Nat} {id : Nat} {s : State} (h₀ : Rg msk b₀ s) (hm₀ : 693167423530203714894603546035770925859109268843954143792619895153655326951406405759993601526034894524347802740350892957243539488 ||| msk = msk) :
    RgO msk b₀ (execKdeClaim path id s) := by
  refine RgO.step h₀ ?_ hm₀
  clear h₀ hm₀
  unfold execKdeClaim
  try dsimp only
  repeat' (first
    | with_reducible exact Rg.refl _ _
    | exact (rfl : (_ : Nat) = _)
    | with_reducible refine State.kdeTouch_rg ?_ ?_
    | with_reducible refine State.wrN_rg ?_ ?_
    | with_reducible refine State.event_rg ?_ ?_
    | with_reducible refine State.putBit_rg ?_ ?_
    | with_reducible refine State.putFld_rg ?_ ?_
    | with_reducible refine in_KDE_OWNER ?_
    | exact (rfl : (_ : Bool) = _)
    | with_reducible refine Rg.ite ?_ ?_
    | with_reducible refine RgO.next ?_)

theorem execKdeFinish_rg {msk : Nat} {b₀ : State} {path : Nat} {s : State} (h₀ : Rg msk b₀ s) (hm₀ : 96107167241834975113312584222852017248226643318014320372293928149400278380352379854714299512788224654554681993519400457019027488146913436814670799138107492128 ||| msk = msk) :
    RgO msk b₀ (execKdeFinish path s) := by
  refine RgO.step h₀ ?_ hm₀
  clear h₀ hm₀
  unfold execKdeFinish
  try dsimp only
  repeat' (first
    | with_reducible exact Rg.refl _ _
    | with_reducible assumption
    | exact (rfl : (_ : Nat) = _)
    | with_reducible refine State.kdeWrite_rg ?_ ?_ ?_
    | with_reducible refine State.raise_rg ?_ ?_
    | with_reducible refine State.wr64_rg ?_ ?_ ?_
    | with_reducible refine State.setKde_rg ?_ ?_
    | with_reducible refine in_KDE_LEN ?_
    | with_reducible refine in_KDE_LEN4 ?_
    | exact (rfl : (_ : Bool) = _)
    | with_reducible refine Rg.ite ?_ ?_
    | with_reducible refine RgO.next ?_
    | intro _ _)

end Sys2Proof.Machine
end

