-- ==== Sys2Proof/Laws/RgReset.lean ====
section
/-! SUPPORT. Register frames of the operations of Machine.Reset: the registers that each may write. -/

set_option maxRecDepth 20000
set_option Elab.async false
set_option linter.unusedTactic false
set_option linter.unreachableTactic false
set_option linter.unusedVariables false

namespace Sys2Proof.Machine

theorem State.powerReset_rg {msk : Nat} {b₀ : State} {s : State} {typ : Nat} (_ : Rg msk b₀ s) (hm₀ : 57586096570152913699974892898380567793532123114264532903689671329431521032595044740083720782129802971518987656109067457577065805510327036019308994315074097345724415 ||| msk = msk) :
    Rg msk b₀ (State.powerReset s typ) :=
  Rg.any (by rw [← hm₀, Nat.testBit_or]; rfl)

theorem State.modRstUp_rg {msk : Nat} {b₀ : State} {s : State} {n : Nat} (h₀ : Rg msk b₀ s) (hm₀ : 56236422431789954785131731346074773235871213978773957913759444657647969758393598378988008579749508887769293276636389120178616051919233232197799717342076660088832 ||| msk = msk) :
    Rg msk b₀ (State.modRstUp s n) := by
  refine Rg.step h₀ ?_ hm₀
  clear h₀ hm₀
  unfold State.modRstUp
  try dsimp only
  repeat' (first
    | with_reducible exact Rg.refl _ _
    | exact (rfl : (_ : Nat) = _)
    | with_reducible refine State.trainStart_rg ?_ ?_
    | with_reducible refine State.putBit_rg ?_ ?_
    | with_reducible refine in_MOD_RST ?_
    | exact (rfl : (_ : Bool) = _)
    | refine Rg.mk' ?_)

theorem execModRstRelease_rg {msk : Nat} {b₀ : State} {n : Nat} {write : Bool} {s : State} (h₀ : Rg msk b₀ s) (hm₀ : 56236422431789954785131731346074773235871213978773957913759444657647969758393598378988008579749508887769293276636389120178616051919233232197799717342076660088832 ||| msk = msk) :
    RgO msk b₀ (execModRstRelease n write s) := by
  refine RgO.step h₀ ?_ hm₀
  clear h₀ hm₀
  unfold execModRstRelease
  try dsimp only
  repeat' (first
    | with_reducible exact Rg.refl _ _
    | exact (rfl : (_ : Nat) = _)
    | with_reducible refine State.modRstUp_rg ?_ ?_
    | with_reducible refine Rg.ite ?_ ?_
    | with_reducible refine RgO.ite ?_ ?_
    | with_reducible refine RgO.next ?_
    | split
    | refine Rg.mk' ?_)

theorem State.pcieReset_rg {msk : Nat} {b₀ : State} {s : State} (h₀ : Rg msk b₀ s) (hm₀ : 878694100496718043517683302282418331810487718418343092402491322775749527474899974671687634004666183037093927858109549828751614463963730409190067809332433518624 ||| msk = msk) :
    Rg msk b₀ (State.pcieReset s) := by
  refine Rg.step h₀ ?_ hm₀
  clear h₀ hm₀
  unfold State.pcieReset
  try dsimp only
  repeat' (first
    | with_reducible exact Rg.refl _ _
    | with_reducible assumption
    | exact (rfl : (_ : Nat) = _)
    | with_reducible refine State.askReset_rg ?_ ?_
    | with_reducible refine execSriovNumvfsChange_rg ?_ ?_
    | with_reducible refine State.wrN_rg ?_ ?_
    | with_reducible refine State.event_rg ?_ ?_
    | with_reducible refine State.putFld_rg ?_ ?_
    | with_reducible refine State.count_rg ?_ ?_
    | with_reducible refine in_CHIP_INJ_EN ?_
    | with_reducible refine in_CHIP_RST_STATUS ?_
    | with_reducible refine in_PCIE_LINK ?_
    | with_reducible refine in_RESETS ?_
    | with_reducible refine InSet.ite ?_ ?_
    | exact (rfl : (_ : Bool) = _)
    | dsimp only
    | with_reducible refine Rg.ite ?_ ?_
    | with_reducible refine Rg.ite₁ ?_ ?_
    | with_reducible refine RgS.ite ?_ ?_
    | with_reducible refine RgP.ite ?_ ?_
    | with_reducible exact RgS.none
    | with_reducible refine RgS.some ?_
    | with_reducible refine RgS.map ?_
    | with_reducible exact RgP.none
    | with_reducible refine RgP.some ?_
    | with_reducible refine Rg.elim ?_ ?_
    | with_reducible refine Rg.foldl ?_ _ _ ?_
    | with_reducible refine Rg.foldl₂ ?_ _ _ ?_
    | intro _ _ _ _ _ _
    | intro _ _ _ _ _
    | intro _ _ _ _
    | intro _ _ _
    | intro _ _
    | intro _
    | with_reducible refine Rg.pair (h := ?_) (e := by assumption)
    | with_reducible refine RgO.got (h := ?_) (e := by assumption)
    | with_reducible refine RgS.get (h := ?_) (e := by assumption)
    | with_reducible refine RgP.get (h := ?_) (e := by assumption)
    | split)

theorem execPcieLinkDown_rg {msk : Nat} {b₀ : State} {s : State} (h₀ : Rg msk b₀ s) (hm₀ : 974801267738553018630995886460907633952781323983102785828495911670166812649239289323674260227620466766758599882989359788104408702552384470622281454808907974432 ||| msk = msk) :
    RgO msk b₀ (execPcieLinkDown s) := by
  refine RgO.step h₀ ?_ hm₀
  clear h₀ hm₀
  unfold execPcieLinkDown
  try dsimp only
  repeat' (first
    | with_reducible exact Rg.refl _ _
    | exact (rfl : (_ : Nat) = _)
    | with_reducible refine State.raise_rg ?_ ?_
    | with_reducible refine State.pcieReset_rg ?_ ?_
    | with_reducible refine Rg.ite ?_ ?_
    | with_reducible refine RgO.next ?_)

theorem execWarmReset_rg {msk : Nat} {b₀ : State} {force : Bool} {s : State} (_ : Rg msk b₀ s) (hm₀ : 57586096570152913699974892898380567793532123114264532903689671329431521032595044740083720782129802971518987656109067457577065805510327036019308994315074097345724415 ||| msk = msk) :
    RgO msk b₀ (execWarmReset force s) :=
  RgO.any (by rw [← hm₀, Nat.testBit_or]; rfl)

theorem execVaonOneLost_rg {msk : Nat} {b₀ : State} {feedB : Bool} {s : State} (h₀ : Rg msk b₀ s) (hm₀ : 974801267738553018630995886460907633952781323983102785828495911670166812649239289323674260227620466766758599882989359788104408702552384469441689271137248282400 ||| msk = msk) :
    RgO msk b₀ (execVaonOneLost feedB s) := by
  refine RgO.step h₀ ?_ hm₀
  clear h₀ hm₀
  unfold execVaonOneLost
  try dsimp only
  repeat' (first
    | with_reducible exact Rg.refl _ _
    | exact (rfl : (_ : Nat) = _)
    | with_reducible refine State.raise_rg ?_ ?_
    | with_reducible refine State.event_rg ?_ ?_
    | with_reducible refine State.putBit_rg ?_ ?_
    | with_reducible refine in_CHIP_RST_STATUS ?_
    | exact (rfl : (_ : Bool) = _)
    | with_reducible refine Rg.ite ?_ ?_
    | with_reducible refine RgO.next ?_)

theorem execVaonFeedReturn_rg {msk : Nat} {b₀ : State} {feedB : Bool} {s : State} (h₀ : Rg msk b₀ s) (hm₀ : 878694100496718043517683302282418331810487718418343092402491322775749527474899974671687634004666183037093927858109549828751614463963730408009475621262727315456 ||| msk = msk) :
    RgO msk b₀ (execVaonFeedReturn feedB s) := by
  refine RgO.step h₀ ?_ hm₀
  clear h₀ hm₀
  unfold execVaonFeedReturn
  try dsimp only
  repeat' (first
    | with_reducible exact Rg.refl _ _
    | with_reducible refine State.putBit_rg ?_ ?_
    | with_reducible refine in_CHIP_RST_STATUS ?_
    | exact (rfl : (_ : Bool) = _)
    | with_reducible refine RgO.next ?_)

theorem execVaonBothLost_rg {msk : Nat} {b₀ : State} {s : State} (h₀ : Rg msk b₀ s) (hm₀ : 878694100496718043517700746417346765764102531908889232879601977575278897259098363586808928508810147202865007689406628966533351920677063218202687595359963709472 ||| msk = msk) :
    RgO msk b₀ (execVaonBothLost s) := by
  refine RgO.step h₀ ?_ hm₀
  clear h₀ hm₀
  unfold execVaonBothLost
  try dsimp only
  repeat' (first
    | with_reducible exact Rg.refl _ _
    | with_reducible assumption
    | exact (rfl : (_ : Nat) = _)
    | with_reducible refine State.event_rg ?_ ?_
    | with_reducible refine State.putFld_rg ?_ ?_
    | with_reducible refine State.zeroise_rg ?_ ?_
    | with_reducible refine State.wrN_rg ?_ ?_
    | with_reducible refine State.putBit_rg ?_ ?_
    | with_reducible refine in_CAL_STATUS ?_
    | with_reducible refine in_CAL_TRIM ?_
    | with_reducible refine in_CHIP_RST_STATUS ?_
    | with_reducible refine InSet.ite ?_ ?_
    | exact (rfl : (_ : Bool) = _)
    | dsimp only
    | with_reducible refine Rg.ite ?_ ?_
    | with_reducible refine Rg.ite₁ ?_ ?_
    | with_reducible refine RgO.ite ?_ ?_
    | with_reducible refine RgS.ite ?_ ?_
    | with_reducible refine RgP.ite ?_ ?_
    | with_reducible refine RgO.next ?_
    | with_reducible exact RgS.none
    | with_reducible refine RgS.some ?_
    | with_reducible refine RgS.map ?_
    | with_reducible exact RgP.none
    | with_reducible refine RgP.some ?_
    | with_reducible refine Rg.elim ?_ ?_
    | with_reducible refine Rg.foldl ?_ _ _ ?_
    | with_reducible refine Rg.foldl₂ ?_ _ _ ?_
    | intro _ _ _ _ _ _
    | intro _ _ _ _ _
    | intro _ _ _ _
    | intro _ _ _
    | intro _ _
    | intro _
    | with_reducible refine Rg.pair (h := ?_) (e := by assumption)
    | with_reducible refine RgO.got (h := ?_) (e := by assumption)
    | with_reducible refine RgS.get (h := ?_) (e := by assumption)
    | with_reducible refine RgP.get (h := ?_) (e := by assumption)
    | split
    | refine Rg.mk' ?_)

theorem execPorNAssert_rg {msk : Nat} {b₀ : State} {s : State} (_ : Rg msk b₀ s) (hm₀ : 57586096570152913699974892898380567793532123114264532903689671329431521032595044740083720782129802971518987656109067457577065805510327036019308994315074097345724415 ||| msk = msk) :
    RgO msk b₀ (execPorNAssert s) :=
  RgO.any (by rw [← hm₀, Nat.testBit_or]; rfl)

theorem execPerstNAssert_rg {msk : Nat} {b₀ : State} {s : State} (h₀ : Rg msk b₀ s) (hm₀ : 4393470502483590217588416511412091659052438592091715462012456613878747637374499873358438170023330915185469639290547749143758072319818652041227970294383342780448 ||| msk = msk) :
    RgO msk b₀ (execPerstNAssert s) := by
  refine RgO.step h₀ ?_ hm₀
  clear h₀ hm₀
  unfold execPerstNAssert
  try dsimp only
  repeat' (first
    | with_reducible exact Rg.refl _ _
    | exact (rfl : (_ : Nat) = _)
    | with_reducible refine State.count_rg ?_ ?_
    | with_reducible refine State.pcieReset_rg ?_ ?_
    | with_reducible refine in_CHIP_PCIE_RESETS ?_
    | exact (rfl : (_ : Bool) = _)
    | with_reducible refine Rg.ite ?_ ?_
    | with_reducible refine RgO.next ?_
    | refine Rg.mk' ?_)

theorem execThermtrip_rg {msk : Nat} {b₀ : State} {s : State} (h₀ : Rg msk b₀ s) (hm₀ : 0 ||| msk = msk) :
    RgO msk b₀ (execThermtrip s) := by
  refine RgO.step h₀ ?_ hm₀
  clear h₀ hm₀
  unfold execThermtrip
  try dsimp only
  repeat' (first
    | with_reducible exact Rg.refl _ _
    | with_reducible refine RgO.next ?_
    | refine Rg.mk' ?_)

theorem execTjHalt_rg {msk : Nat} {b₀ : State} {s : State} (h₀ : Rg msk b₀ s) (hm₀ : 96107167241834975113312584178489302142293605564759693426004588894417285174339314651986626222954283729664672024879809959352794238588654061432213649874520966944 ||| msk = msk) :
    RgO msk b₀ (execTjHalt s) := by
  refine RgO.step h₀ ?_ hm₀
  clear h₀ hm₀
  unfold execTjHalt
  try dsimp only
  repeat' (first
    | with_reducible exact Rg.refl _ _
    | exact (rfl : (_ : Nat) = _)
    | with_reducible refine State.raise_rg ?_ ?_
    | with_reducible refine Rg.ite ?_ ?_
    | with_reducible refine RgO.next ?_)

theorem execPerstNRelease_rg {msk : Nat} {b₀ : State} {s : State} (h₀ : Rg msk b₀ s) (hm₀ : 562949953421312 ||| msk = msk) :
    RgO msk b₀ (execPerstNRelease s) := by
  refine RgO.step h₀ ?_ hm₀
  clear h₀ hm₀
  unfold execPerstNRelease
  try dsimp only
  repeat' (first
    | with_reducible exact Rg.refl _ _
    | with_reducible refine State.wrN_rg ?_ ?_
    | with_reducible refine in_PCIE_LINK ?_
    | exact (rfl : (_ : Bool) = _)
    | with_reducible refine Rg.ite ?_ ?_
    | with_reducible refine RgO.next ?_
    | refine Rg.mk' ?_)

theorem execModPrsntChange_rg {msk : Nat} {b₀ : State} {n : Nat} {present : Bool} {s : State} (h₀ : Rg msk b₀ s) (hm₀ : 112472844863579909570263462692149546471742427957547915827518889315295939516787196757976017156048144602143304659555400309218719377612911978310406157102891208278048 ||| msk = msk) :
    RgO msk b₀ (execModPrsntChange n present s) := by
  refine RgO.step h₀ ?_ hm₀
  clear h₀ hm₀
  unfold execModPrsntChange
  try dsimp only
  repeat' (first
    | with_reducible exact Rg.refl _ _
    | exact (rfl : (_ : Nat) = _)
    | with_reducible refine State.trainStart_rg ?_ ?_
    | with_reducible refine State.putBit_rg ?_ ?_
    | with_reducible refine State.event_rg ?_ ?_
    | with_reducible refine in_MLK_STATUS ?_
    | with_reducible refine in_MOD_PRSNT ?_
    | exact (rfl : (_ : Bool) = _)
    | with_reducible refine Rg.ite ?_ ?_
    | with_reducible refine RgO.next ?_)

end Sys2Proof.Machine
end

