-- ==== Sys2Proof/Laws/RgSpillway.lean ====
section
/-! SUPPORT. Register frames of the operations of Machine.Spillway: the registers that each may write. -/

set_option maxRecDepth 20000
set_option Elab.async false
set_option linter.unusedTactic false
set_option linter.unreachableTactic false
set_option linter.unusedVariables false

namespace Sys2Proof.Machine

theorem State.abortErases_rg {msk : Nat} {b₀ : State} {s : State} (h₀ : Rg msk b₀ s) (hm₀ : 110427941548649020598956093796432407239217743554726184882600387580790784 ||| msk = msk) :
    Rg msk b₀ (State.abortErases s) := by
  refine Rg.step h₀ ?_ hm₀
  clear h₀ hm₀
  unfold State.abortErases
  try dsimp only
  repeat' (first
    | with_reducible exact Rg.refl _ _
    | with_reducible assumption
    | exact (rfl : (_ : Nat) = _)
    | with_reducible refine State.sendMod_rg ?_ ?_
    | with_reducible refine Rg.foldl ?_ _ _ ?_
    | intro _ _ _)

theorem State.setSpill_rg {msk : Nat} {b₀ : State} {s : State} {f : CistSt → CistSt} (h₀ : Rg msk b₀ s) (hm₀ : 0 ||| msk = msk) :
    Rg msk b₀ (State.setSpill s f) := by
  refine Rg.step h₀ ?_ hm₀
  clear h₀ hm₀
  unfold State.setSpill
  try dsimp only
  repeat' (first
    | with_reducible exact Rg.refl _ _
    | refine Rg.mk' ?_)

theorem execSpillwayStart_rg {msk : Nat} {b₀ : State} {s : State} (h₀ : Rg msk b₀ s) (hm₀ : 96107185245483318542092869251032634694099029669877223649539274486785446468209295290950027663228334934269622215626726874642357978950486900329703530607287537440 ||| msk = msk) :
    RgO msk b₀ (execSpillwayStart s) := by
  refine RgO.step h₀ ?_ hm₀
  clear h₀ hm₀
  unfold execSpillwayStart
  try dsimp only
  repeat' (first
    | with_reducible exact Rg.refl _ _
    | exact (rfl : (_ : Nat) = _)
    | with_reducible refine State.abortErases_rg ?_ ?_
    | with_reducible refine State.stagingAbort_rg ?_ ?_
    | with_reducible refine State.rankAbandon_rg ?_ ?_
    | with_reducible refine State.rmAbandon_rg ?_ ?_
    | with_reducible refine State.setSpill_rg ?_ ?_
    | with_reducible refine State.putBit_rg ?_ ?_
    | with_reducible refine in_CIST_STATUS ?_
    | exact (rfl : (_ : Bool) = _)
    | with_reducible refine RgO.ite ?_ ?_
    | with_reducible refine RgO.next ?_)

theorem State.spillDiscard_rg {msk : Nat} {b₀ : State} {s : State} (h₀ : Rg msk b₀ s) (hm₀ : 0 ||| msk = msk) :
    Rg msk b₀ (State.spillDiscard s) := by
  refine Rg.step h₀ ?_ hm₀
  clear h₀ hm₀
  unfold State.spillDiscard
  try dsimp only
  repeat' (first
    | with_reducible exact Rg.refl _ _
    | exact (rfl : (_ : Nat) = _)
    | with_reducible refine State.discardStreaming_rg ?_ ?_
    | with_reducible refine Rg.ite ?_ ?_)

theorem execSpillLossAck_rg {msk : Nat} {b₀ : State} {s : State} (h₀ : Rg msk b₀ s) (hm₀ : 4281743078117879643174857908348485409148239872 ||| msk = msk) :
    RgO msk b₀ (execSpillLossAck s) := by
  refine RgO.step h₀ ?_ hm₀
  clear h₀ hm₀
  unfold execSpillLossAck
  try dsimp only
  repeat' (first
    | with_reducible exact Rg.refl _ _
    | with_reducible refine State.putBit_rg ?_ ?_
    | with_reducible refine in_CIST_CTRL ?_
    | with_reducible refine in_CIST_STATUS ?_
    | exact (rfl : (_ : Bool) = _)
    | with_reducible refine RgO.next ?_)

theorem execSpillReturn_rg {msk : Nat} {b₀ : State} {s : State} (_ : Rg msk b₀ s) (hm₀ : 57586096570152913699974892898380567793532123114264532903689671329431521032595044740083720782129802971518987656109067457577065805510327036019308994315074097345724415 ||| msk = msk) :
    RgO msk b₀ (execSpillReturn s) :=
  RgO.any (by rw [← hm₀, Nat.testBit_or]; rfl)

theorem execSpillQuiesced_rg {msk : Nat} {b₀ : State} {s : State} (h₀ : Rg msk b₀ s) (hm₀ : 0 ||| msk = msk) :
    RgO msk b₀ (execSpillQuiesced s) := by
  refine RgO.step h₀ ?_ hm₀
  clear h₀ hm₀
  unfold execSpillQuiesced
  try dsimp only
  repeat' (first
    | with_reducible exact Rg.refl _ _
    | exact (rfl : (_ : Nat) = _)
    | with_reducible refine State.setSpill_rg ?_ ?_
    | with_reducible refine State.discardStreaming_rg ?_ ?_
    | with_reducible refine RgO.ite ?_ ?_
    | with_reducible refine RgO.next ?_
    | refine Rg.mk' ?_)

theorem State.spillTail_rg {msk : Nat} {b₀ : State} {s : State} (h₀ : Rg msk b₀ s) (hm₀ : 0 ||| msk = msk) :
    Rg msk b₀ (State.spillTail s) := by
  refine Rg.step h₀ ?_ hm₀
  clear h₀ hm₀
  unfold State.spillTail
  try dsimp only
  repeat' (first
    | with_reducible exact Rg.refl _ _
    | with_reducible assumption
    | exact (rfl : (_ : Nat) = _)
    | dsimp only
    | with_reducible refine Rg.ite ?_ ?_
    | with_reducible refine Rg.ite₁ ?_ ?_
    | with_reducible refine RgS.ite ?_ ?_
    | with_reducible refine RgP.ite ?_ ?_
    | with_reducible exact RgS.none
    | with_reducible refine RgS.some ?_
    | with_reducible refine RgS.map ?_
    | with_reducible exact RgP.none
    | with_reducible refine RgP.some ?_
    | with_reducible refine Rg.elim ?_ ?_
    | with_reducible refine Rg.foldl ?_ _ _ ?_
    | with_reducible refine Rg.foldl₂ ?_ _ _ ?_
    | intro _ _ _ _ _ _
    | intro _ _ _ _ _
    | intro _ _ _ _
    | intro _ _ _
    | intro _ _
    | intro _
    | with_reducible refine Rg.pair (h := ?_) (e := by assumption)
    | with_reducible refine RgO.got (h := ?_) (e := by assumption)
    | with_reducible refine RgS.get (h := ?_) (e := by assumption)
    | with_reducible refine RgP.get (h := ?_) (e := by assumption)
    | split
    | refine Rg.mk' ?_)

theorem State.bandWrite_rg {msk : Nat} {b₀ : State} {s : State} (h₀ : Rg msk b₀ s) (hm₀ : 0 ||| msk = msk) :
    Rg msk b₀ (State.bandWrite s) := by
  refine Rg.step h₀ ?_ hm₀
  clear h₀ hm₀
  unfold State.bandWrite
  try dsimp only
  repeat' (first
    | with_reducible exact Rg.refl _ _
    | with_reducible assumption
    | exact (rfl : (_ : Nat) = _)
    | with_reducible refine State.emit_rg ?_ ?_
    | dsimp only
    | with_reducible refine Rg.ite ?_ ?_
    | with_reducible refine Rg.ite₁ ?_ ?_
    | with_reducible refine RgS.ite ?_ ?_
    | with_reducible refine RgP.ite ?_ ?_
    | with_reducible exact RgS.none
    | with_reducible refine RgS.some ?_
    | with_reducible refine RgS.map ?_
    | with_reducible exact RgP.none
    | with_reducible refine RgP.some ?_
    | with_reducible refine Rg.elim ?_ ?_
    | with_reducible refine Rg.foldl ?_ _ _ ?_
    | with_reducible refine Rg.foldl₂ ?_ _ _ ?_
    | intro _ _ _ _ _ _
    | intro _ _ _ _ _
    | intro _ _ _ _
    | intro _ _ _
    | intro _ _
    | intro _
    | with_reducible refine Rg.pair (h := ?_) (e := by assumption)
    | with_reducible refine RgO.got (h := ?_) (e := by assumption)
    | with_reducible refine RgS.get (h := ?_) (e := by assumption)
    | with_reducible refine RgP.get (h := ?_) (e := by assumption)
    | split)

theorem execSpillImageDone_rg {msk : Nat} {b₀ : State} {dirOk : Bool} {s : State} (h₀ : Rg msk b₀ s) (hm₀ : 195109284394749514461349826862072894109287383916560696928697309976585733676235351257519131441468251051984568607007676047537437378945790597136416 ||| msk = msk) :
    RgO msk b₀ (execSpillImageDone dirOk s) := by
  refine RgO.step h₀ ?_ hm₀
  clear h₀ hm₀
  unfold execSpillImageDone
  try dsimp only
  repeat' (first
    | with_reducible exact Rg.refl _ _
    | with_reducible assumption
    | exact (rfl : (_ : Nat) = _)
    | with_reducible refine State.setSpillReady_rg ?_ ?_
    | with_reducible refine State.spillTail_rg ?_ ?_
    | with_reducible refine State.setSpill_rg ?_ ?_
    | with_reducible refine State.bandWrite_rg ?_ ?_
    | with_reducible refine State.startLifeSave_rg ?_ ?_
    | with_reducible refine State.startFlush_rg ?_ ?_
    | dsimp only
    | with_reducible refine Rg.ite ?_ ?_
    | with_reducible refine Rg.ite₁ ?_ ?_
    | with_reducible refine RgO.ite ?_ ?_
    | with_reducible refine RgS.ite ?_ ?_
    | with_reducible refine RgP.ite ?_ ?_
    | with_reducible refine RgO.next ?_
    | with_reducible exact RgS.none
    | with_reducible refine RgS.some ?_
    | with_reducible refine RgS.map ?_
    | with_reducible exact RgP.none
    | with_reducible refine RgP.some ?_
    | with_reducible refine Rg.elim ?_ ?_
    | with_reducible refine Rg.foldl ?_ _ _ ?_
    | with_reducible refine Rg.foldl₂ ?_ _ _ ?_
    | intro _ _ _ _ _ _
    | intro _ _ _ _ _
    | intro _ _ _ _
    | intro _ _ _
    | intro _ _
    | intro _
    | with_reducible refine Rg.pair (h := ?_) (e := by assumption)
    | with_reducible refine RgO.got (h := ?_) (e := by assumption)
    | with_reducible refine RgS.get (h := ?_) (e := by assumption)
    | with_reducible refine RgP.get (h := ?_) (e := by assumption)
    | split)

theorem execSpillDone_rg {msk : Nat} {b₀ : State} {s : State} (h₀ : Rg msk b₀ s) (hm₀ : 96107167241834975113312584178489302142293605564759693426004588894417285174339314651986626222954283729664672024971153811685975670976384363476981338603016750880 ||| msk = msk) :
    RgO msk b₀ (execSpillDone s) := by
  refine RgO.step h₀ ?_ hm₀
  clear h₀ hm₀
  unfold execSpillDone
  try dsimp only
  repeat' (first
    | with_reducible exact Rg.refl _ _
    | exact (rfl : (_ : Nat) = _)
    | with_reducible refine State.record_rg ?_ ?_
    | with_reducible refine State.useFree_rg ?_ ?_
    | with_reducible refine State.wrN_rg ?_ ?_
    | with_reducible refine State.setSpill_rg ?_ ?_
    | with_reducible refine State.event_rg ?_ ?_
    | with_reducible refine in_CIST_SPILL_LAST ?_
    | exact (rfl : (_ : Bool) = _)
    | with_reducible refine RgO.ite ?_ ?_
    | with_reducible refine RgO.next ?_
    | refine Rg.mk' ?_)

end Sys2Proof.Machine
end

