-- ==== Sys2Proof/Laws/RgPools.lean ====
section
/-! SUPPORT. Register frames of the operations of Machine.Pools: the registers that each may write. -/

set_option maxRecDepth 20000
set_option Elab.async false
set_option linter.unusedTactic false
set_option linter.unreachableTactic false
set_option linter.unusedVariables false

namespace Sys2Proof.Machine

theorem State.bandStart_rg {msk : Nat} {b₀ : State} {s : State} {pool : Nat} {b : BandCopy} (h₀ : Rg msk b₀ s) (hm₀ : 110427941548649020598956093796432407239217743554726184882600387580790784 ||| msk = msk) :
    Rg msk b₀ (State.bandStart s pool b) := by
  refine Rg.step h₀ ?_ hm₀
  clear h₀ hm₀
  unfold State.bandStart
  try dsimp only
  repeat' (first
    | with_reducible exact Rg.refl _ _
    | with_reducible assumption
    | exact (rfl : (_ : Nat) = _)
    | with_reducible refine State.setPool_rg ?_ ?_
    | with_reducible refine State.sendMod_rg ?_ ?_
    | with_reducible refine State.setBg_rg ?_ ?_
    | dsimp only
    | with_reducible refine Rg.ite ?_ ?_
    | with_reducible refine Rg.ite₁ ?_ ?_
    | with_reducible refine RgS.ite ?_ ?_
    | with_reducible refine RgP.ite ?_ ?_
    | with_reducible exact RgS.none
    | with_reducible refine RgS.some ?_
    | with_reducible refine RgS.map ?_
    | with_reducible exact RgP.none
    | with_reducible refine RgP.some ?_
    | with_reducible refine Rg.elim ?_ ?_
    | with_reducible refine Rg.foldl ?_ _ _ ?_
    | with_reducible refine Rg.foldl₂ ?_ _ _ ?_
    | intro _ _ _ _ _ _
    | intro _ _ _ _ _
    | intro _ _ _ _
    | intro _ _ _
    | intro _ _
    | intro _
    | with_reducible refine Rg.pair (h := ?_) (e := by assumption)
    | with_reducible refine RgO.got (h := ?_) (e := by assumption)
    | with_reducible refine RgS.get (h := ?_) (e := by assumption)
    | with_reducible refine RgP.get (h := ?_) (e := by assumption)
    | split
    | refine Rg.mk' ?_)

theorem State.substitute_rg {msk : Nat} {b₀ : State} {s : State} {pool : Nat} {m : Nat} {q : Nat} (h₀ : Rg msk b₀ s) (hm₀ : 143343663499379469475676305956380544227726860472038169189693098894089918973273855230561042169770436200448 ||| msk = msk) :
    Rg msk b₀ (State.substitute s pool m q) := by
  refine Rg.step h₀ ?_ hm₀
  clear h₀ hm₀
  unfold State.substitute
  try dsimp only
  repeat' (first
    | with_reducible exact Rg.refl _ _
    | exact (rfl : (_ : Nat) = _)
    | with_reducible refine State.setPool_rg ?_ ?_
    | with_reducible refine State.sendRaise_rg ?_ ?_
    | with_reducible refine State.tlSend_rg ?_ ?_
    | refine Rg.mk' ?_)

theorem State.spillRecompute_rg {msk : Nat} {b₀ : State} {s : State} (h₀ : Rg msk b₀ s) (hm₀ : 48526421552002635955981722961282834637013385248 ||| msk = msk) :
    Rg msk b₀ (State.spillRecompute s) := by
  refine Rg.step h₀ ?_ hm₀
  clear h₀ hm₀
  unfold State.spillRecompute
  try dsimp only
  repeat' (first
    | with_reducible exact Rg.refl _ _
    | exact (rfl : (_ : Nat) = _)
    | with_reducible refine State.wrN_rg ?_ ?_
    | with_reducible refine State.useFree_rg ?_ ?_
    | with_reducible refine State.setSpillReady_rg ?_ ?_
    | with_reducible refine in_CIST_SPILL_BOUND ?_
    | exact (rfl : (_ : Bool) = _)
    | with_reducible refine Rg.ite ?_ ?_
    | refine Rg.mk' ?_)

theorem State.memberFail_rg {msk : Nat} {b₀ : State} {s : State} {pool : Nat} {m : Nat} {port : Nat} {band : Option BandCopy} (h₀ : Rg msk b₀ s) (hm₀ : 96107167241834975113312584178489302142293605564759693570468129036859728597114508391820545575331087654586752488168444716303558560980896525711044628339102912288 ||| msk = msk) :
    Rg msk b₀ (State.memberFail s pool m port band) := by
  refine Rg.step h₀ ?_ hm₀
  clear h₀ hm₀
  unfold State.memberFail
  try dsimp only
  repeat' (first
    | with_reducible exact Rg.refl _ _
    | with_reducible assumption
    | exact (rfl : (_ : Nat) = _)
    | with_reducible refine State.setPool_rg ?_ ?_
    | with_reducible refine State.setSeg_rg ?_ ?_
    | with_reducible refine State.closeSegment_rg ?_ ?_
    | with_reducible refine State.raise_rg ?_ ?_
    | with_reducible refine State.event_rg ?_ ?_
    | with_reducible refine State.setRedund_rg ?_ ?_
    | with_reducible refine State.putBit_rg ?_ ?_
    | with_reducible refine State.bandDrop_rg ?_ ?_
    | with_reducible refine State.checkpointAsk_rg ?_ ?_
    | with_reducible refine State.bandStart_rg ?_ ?_
    | with_reducible refine State.substitute_rg ?_ ?_
    | with_reducible refine State.spillRecompute_rg ?_ ?_
    | with_reducible refine in_SP_CMD_STATUS ?_
    | with_reducible refine in_SP_STATE ?_
    | with_reducible refine InSet.ite ?_ ?_
    | exact (rfl : (_ : Bool) = _)
    | dsimp only
    | with_reducible refine Rg.ite ?_ ?_
    | with_reducible refine Rg.ite₁ ?_ ?_
    | with_reducible refine RgS.ite ?_ ?_
    | with_reducible refine RgP.ite ?_ ?_
    | with_reducible exact RgS.none
    | with_reducible refine RgS.some ?_
    | with_reducible refine RgS.map ?_
    | with_reducible exact RgP.none
    | with_reducible refine RgP.some ?_
    | with_reducible refine Rg.elim ?_ ?_
    | with_reducible refine Rg.foldl ?_ _ _ ?_
    | with_reducible refine Rg.foldl₂ ?_ _ _ ?_
    | intro _ _ _ _ _ _
    | intro _ _ _ _ _
    | intro _ _ _ _
    | intro _ _ _
    | intro _ _
    | intro _
    | with_reducible refine Rg.pair (h := ?_) (e := by assumption)
    | with_reducible refine RgO.got (h := ?_) (e := by assumption)
    | with_reducible refine RgS.get (h := ?_) (e := by assumption)
    | with_reducible refine RgP.get (h := ?_) (e := by assumption)
    | split)

theorem execMemberFail_rg {msk : Nat} {b₀ : State} {port : Nat} {band : Option BandCopy} {s : State} (h₀ : Rg msk b₀ s) (hm₀ : 96107167241834975113312584178489302142293605564759693570468129036859728597114508391820545575331087654586752488168444716303558560980896525711044628339102912288 ||| msk = msk) :
    RgO msk b₀ (execMemberFail port band s) := by
  refine RgO.step h₀ ?_ hm₀
  clear h₀ hm₀
  unfold execMemberFail
  try dsimp only
  repeat' (first
    | with_reducible exact Rg.refl _ _
    | exact (rfl : (_ : Nat) = _)
    | with_reducible refine State.memberFail_rg ?_ ?_
    | with_reducible refine Rg.ite ?_ ?_
    | with_reducible refine RgO.ite ?_ ?_
    | with_reducible refine RgO.next ?_
    | split)

theorem State.rebuildLost_rg {msk : Nat} {b₀ : State} {s : State} {pool : Nat} {i : Nat} {lost : List Nat} (h₀ : Rg msk b₀ s) (hm₀ : 96107167241834975113312584178489302142293605564759693426022086900215549269734294669803567193877109085111817724371216124204073862582249068818001755290705397536 ||| msk = msk) :
    Rg msk b₀ (State.rebuildLost s pool i lost) := by
  refine Rg.step h₀ ?_ hm₀
  clear h₀ hm₀
  unfold State.rebuildLost
  try dsimp only
  repeat' (first
    | with_reducible exact Rg.refl _ _
    | with_reducible assumption
    | exact (rfl : (_ : Nat) = _)
    | with_reducible refine State.addLoss_rg ?_ ?_
    | with_reducible refine State.raise_rg ?_ ?_
    | with_reducible refine State.setSeg_rg ?_ ?_
    | with_reducible refine Rg.ite ?_ ?_
    | with_reducible refine Rg.foldl ?_ _ _ ?_
    | intro _ _ _)

theorem State.memberGone_rg {msk : Nat} {b₀ : State} {s : State} {i : Nat} {f : Place → Bool} (h₀ : Rg msk b₀ s) (hm₀ : 0 ||| msk = msk) :
    Rg msk b₀ (State.memberGone s i f) := by
  refine Rg.step h₀ ?_ hm₀
  clear h₀ hm₀
  unfold State.memberGone
  try dsimp only
  repeat' (first
    | with_reducible exact Rg.refl _ _
    | with_reducible assumption
    | exact (rfl : (_ : Nat) = _)
    | with_reducible refine State.eraseScan_rg ?_ ?_
    | with_reducible refine State.setSeg_rg ?_ ?_
    | dsimp only
    | with_reducible refine Rg.ite ?_ ?_
    | with_reducible refine Rg.ite₁ ?_ ?_
    | with_reducible refine RgS.ite ?_ ?_
    | with_reducible refine RgP.ite ?_ ?_
    | with_reducible exact RgS.none
    | with_reducible refine RgS.some ?_
    | with_reducible refine RgS.map ?_
    | with_reducible exact RgP.none
    | with_reducible refine RgP.some ?_
    | with_reducible refine Rg.elim ?_ ?_
    | with_reducible refine Rg.foldl ?_ _ _ ?_
    | with_reducible refine Rg.foldl₂ ?_ _ _ ?_
    | intro _ _ _ _ _ _
    | intro _ _ _ _ _
    | intro _ _ _ _
    | intro _ _ _
    | intro _ _
    | intro _
    | with_reducible refine Rg.pair (h := ?_) (e := by assumption)
    | with_reducible refine RgO.got (h := ?_) (e := by assumption)
    | with_reducible refine RgS.get (h := ?_) (e := by assumption)
    | with_reducible refine RgP.get (h := ?_) (e := by assumption)
    | split)

theorem State.repair_rg {msk : Nat} {b₀ : State} {s : State} {addr : Nat} {x : Stored} {places : List (List Place)} (h₀ : Rg msk b₀ s) (hm₀ : 96107167241834975113312584178489302142293605564759693426004588894417285174339314651986736704815725712986550570307636565799294803606497632698241212469322256160 ||| msk = msk) :
    Rg msk b₀ (State.repair s addr x places) := by
  refine Rg.step h₀ ?_ hm₀
  clear h₀ hm₀
  unfold State.repair
  try dsimp only
  repeat' (first
    | with_reducible exact Rg.refl _ _
    | with_reducible assumption
    | exact (rfl : (_ : Nat) = _)
    | with_reducible refine State.count_rg ?_ ?_
    | with_reducible refine State.rewriteOne_rg ?_ ?_
    | with_reducible refine in_RD_REPAIRS ?_
    | with_reducible refine InSet.ite ?_ ?_
    | exact (rfl : (_ : Bool) = _)
    | dsimp only
    | with_reducible refine Rg.ite ?_ ?_
    | with_reducible refine Rg.ite₁ ?_ ?_
    | with_reducible refine RgS.ite ?_ ?_
    | with_reducible refine RgP.ite ?_ ?_
    | with_reducible exact RgS.none
    | with_reducible refine RgS.some ?_
    | with_reducible refine RgS.map ?_
    | with_reducible exact RgP.none
    | with_reducible refine RgP.some ?_
    | with_reducible refine Rg.elim ?_ ?_
    | with_reducible refine Rg.foldl ?_ _ _ ?_
    | with_reducible refine Rg.foldl₂ ?_ _ _ ?_
    | intro _ _ _ _ _ _
    | intro _ _ _ _ _
    | intro _ _ _ _
    | intro _ _ _
    | intro _ _
    | intro _
    | with_reducible refine Rg.pair (h := ?_) (e := by assumption)
    | with_reducible refine RgO.got (h := ?_) (e := by assumption)
    | with_reducible refine RgS.get (h := ?_) (e := by assumption)
    | with_reducible refine RgP.get (h := ?_) (e := by assumption)
    | split
    | refine Rg.mk' ?_)

theorem State.repairAll_rg {msk : Nat} {b₀ : State} {s : State} {addrs : List Nat} {places : List (List Place)} (h₀ : Rg msk b₀ s) (hm₀ : 96107167241834975113312584178489302142293605564759693426004588894417285174339314651986736704815725712986550570307636565799294803606497632698241212469322256160 ||| msk = msk) :
    Rg msk b₀ (State.repairAll s addrs places) := by
  refine Rg.step h₀ ?_ hm₀
  clear h₀ hm₀
  unfold State.repairAll
  try dsimp only
  repeat' (first
    | with_reducible exact Rg.refl _ _
    | with_reducible assumption
    | exact (rfl : (_ : Nat) = _)
    | with_reducible refine State.repair_rg ?_ ?_
    | dsimp only
    | with_reducible refine Rg.ite ?_ ?_
    | with_reducible refine Rg.ite₁ ?_ ?_
    | with_reducible refine RgS.ite ?_ ?_
    | with_reducible refine RgP.ite ?_ ?_
    | with_reducible exact RgS.none
    | with_reducible refine RgS.some ?_
    | with_reducible refine RgS.map ?_
    | with_reducible exact RgP.none
    | with_reducible refine RgP.some ?_
    | with_reducible refine Rg.elim ?_ ?_
    | with_reducible refine Rg.foldl ?_ _ _ ?_
    | with_reducible refine Rg.foldl₂ ?_ _ _ ?_
    | intro _ _ _ _ _ _
    | intro _ _ _ _ _
    | intro _ _ _ _
    | intro _ _ _
    | intro _ _
    | intro _
    | with_reducible refine Rg.pair (h := ?_) (e := by assumption)
    | with_reducible refine RgO.got (h := ?_) (e := by assumption)
    | with_reducible refine RgS.get (h := ?_) (e := by assumption)
    | with_reducible refine RgP.get (h := ?_) (e := by assumption)
    | split)

theorem State.rebuildOk_rg {msk : Nat} {b₀ : State} {s : State} {i : Nat} {page : Nat} {position : Nat} (h₀ : Rg msk b₀ s) (hm₀ : 0 ||| msk = msk) :
    Rg msk b₀ (State.rebuildOk s i page position) := by
  refine Rg.step h₀ ?_ hm₀
  clear h₀ hm₀
  unfold State.rebuildOk
  try dsimp only
  repeat' (first
    | with_reducible exact Rg.refl _ _
    | exact (rfl : (_ : Nat) = _)
    | with_reducible refine Rg.ite ?_ ?_
    | split
    | refine Rg.mk' ?_)

theorem State.latchLoss_rg {msk : Nat} {b₀ : State} {s : State} (h₀ : Rg msk b₀ s) (hm₀ : 4479489484355608421114884561136888556243290994469299069799978201927583742360321890761754986543214231552 ||| msk = msk) :
    Rg msk b₀ (State.latchLoss s) := by
  refine Rg.step h₀ ?_ hm₀
  clear h₀ hm₀
  unfold State.latchLoss
  try dsimp only
  repeat' (first
    | with_reducible exact Rg.refl _ _
    | with_reducible assumption
    | with_reducible refine State.wrN_rg ?_ ?_
    | with_reducible refine in_SP_LOSS_DATA ?_
    | exact (rfl : (_ : Bool) = _)
    | with_reducible refine Rg.foldl ?_ _ _ ?_
    | intro _ _ _)

theorem State.rebuildScan_rg {msk : Nat} {b₀ : State} {s : State} {pool : Nat} (h₀ : Rg msk b₀ s) (hm₀ : 96107167241834975113312584178489302142293605564759693427124465537480259121438200582766573549702602072064365665825531543969741696218344548682883629965409060640 ||| msk = msk) :
    Rg msk b₀ (State.rebuildScan s pool) := by
  refine Rg.step h₀ ?_ hm₀
  clear h₀ hm₀
  unfold State.rebuildScan
  try dsimp only
  repeat' (first
    | with_reducible exact Rg.refl _ _
    | exact (rfl : (_ : Nat) = _)
    | with_reducible refine State.setPool_rg ?_ ?_
    | with_reducible refine State.actEnd_rg ?_ ?_
    | with_reducible refine State.event_rg ?_ ?_
    | with_reducible refine State.putBit_rg ?_ ?_
    | with_reducible refine State.setRedund_rg ?_ ?_
    | with_reducible refine in_SP_CMD_STATUS ?_
    | with_reducible refine in_SP_STATE ?_
    | exact (rfl : (_ : Bool) = _)
    | with_reducible refine Rg.ite ?_ ?_
    | split)

theorem State.mismatch_rg {msk : Nat} {b₀ : State} {s : State} {pool : Nat} {i : Nat} (h₀ : Rg msk b₀ s) (hm₀ : 96107167241834975113312584178489302142293605564759693426284556987189510700658994937057681757719489416819003216742308596973268222486174179604823336533471856416 ||| msk = msk) :
    Rg msk b₀ (State.mismatch s pool i) := by
  refine Rg.step h₀ ?_ hm₀
  clear h₀ hm₀
  unfold State.mismatch
  try dsimp only
  repeat' (first
    | with_reducible exact Rg.refl _ _
    | with_reducible assumption
    | exact (rfl : (_ : Nat) = _)
    | with_reducible refine State.raise_rg ?_ ?_
    | with_reducible refine State.count_rg ?_ ?_
    | with_reducible refine State.setSeg_rg ?_ ?_
    | with_reducible refine in_SP_Q_RETRY ?_
    | with_reducible refine InSet.ite ?_ ?_
    | exact (rfl : (_ : Bool) = _)
    | dsimp only
    | with_reducible refine Rg.ite ?_ ?_
    | with_reducible refine Rg.ite₁ ?_ ?_
    | with_reducible refine RgS.ite ?_ ?_
    | with_reducible refine RgP.ite ?_ ?_
    | with_reducible exact RgS.none
    | with_reducible refine RgS.some ?_
    | with_reducible refine RgS.map ?_
    | with_reducible exact RgP.none
    | with_reducible refine RgP.some ?_
    | with_reducible refine Rg.elim ?_ ?_
    | with_reducible refine Rg.foldl ?_ _ _ ?_
    | with_reducible refine Rg.foldl₂ ?_ _ _ ?_
    | intro _ _ _ _ _ _
    | intro _ _ _ _ _
    | intro _ _ _ _
    | intro _ _ _
    | intro _ _
    | intro _
    | with_reducible refine Rg.pair (h := ?_) (e := by assumption)
    | with_reducible refine RgO.got (h := ?_) (e := by assumption)
    | with_reducible refine RgS.get (h := ?_) (e := by assumption)
    | with_reducible refine RgP.get (h := ?_) (e := by assumption)
    | split)

theorem State.rebuildBlocked_rg {msk : Nat} {b₀ : State} {s : State} {pool : Nat} (h₀ : Rg msk b₀ s) (hm₀ : 96107167241834975113312584178489302142293605564759693426004593166391357016159479442030038562058512935073716738185349853436009883028105622713313695798694840096 ||| msk = msk) :
    Rg msk b₀ (State.rebuildBlocked s pool) := by
  refine Rg.step h₀ ?_ hm₀
  clear h₀ hm₀
  unfold State.rebuildBlocked
  try dsimp only
  repeat' (first
    | with_reducible exact Rg.refl _ _
    | exact (rfl : (_ : Nat) = _)
    | with_reducible refine State.raise_rg ?_ ?_
    | with_reducible refine State.event_rg ?_ ?_
    | with_reducible refine State.putBit_rg ?_ ?_
    | with_reducible refine in_SP_STATE ?_
    | exact (rfl : (_ : Bool) = _)
    | with_reducible refine Rg.ite ?_ ?_)

theorem State.rebuildAdmit_rg {msk : Nat} {b₀ : State} {s : State} (h₀ : Rg msk b₀ s) (hm₀ : 96107167241834975113312584178489302142293605564759693427124465537480259121438200582766573549702602072064365665825531543969741696218344548682883629965409060640 ||| msk = msk) :
    Rg msk b₀ (State.rebuildAdmit s) := by
  refine Rg.step h₀ ?_ hm₀
  clear h₀ hm₀
  unfold State.rebuildAdmit
  try dsimp only
  repeat' (first
    | with_reducible exact Rg.refl _ _
    | with_reducible assumption
    | exact (rfl : (_ : Nat) = _)
    | with_reducible refine State.standing_rg ?_ ?_
    | with_reducible refine State.rebuildScan_rg ?_ ?_
    | with_reducible refine State.event_rg ?_ ?_
    | with_reducible refine State.setRedund_rg ?_ ?_
    | with_reducible refine State.setPool_rg ?_ ?_
    | with_reducible refine Rg.ite ?_ ?_
    | with_reducible refine Rg.foldl ?_ _ _ ?_
    | intro _ _ _
    | with_reducible refine Rg.pair (h := ?_) (e := by assumption)
    | split)

theorem State.rebuiltSeg_rg {msk : Nat} {b₀ : State} {s : State} {i : Nat} (h₀ : Rg msk b₀ s) (hm₀ : 96107167241834975113312584178489302142293605564759693427124465537480259121438200582766573549702602072064365665825531543969741696218344548682883629965409060640 ||| msk = msk) :
    Rg msk b₀ (State.rebuiltSeg s i) := by
  refine Rg.step h₀ ?_ hm₀
  clear h₀ hm₀
  unfold State.rebuiltSeg
  try dsimp only
  repeat' (first
    | with_reducible exact Rg.refl _ _
    | exact (rfl : (_ : Nat) = _)
    | with_reducible refine State.rebuildScan_rg ?_ ?_
    | with_reducible refine State.setSeg_rg ?_ ?_
    | split)

theorem State.rebuildEnds_rg {msk : Nat} {b₀ : State} {s : State} (h₀ : Rg msk b₀ s) (hm₀ : 96107167241834975113312584178489302142293605564759693427124465537480259121438200582766573549702602072064365665825531543969741696218344548682883629965409060640 ||| msk = msk) :
    Rg msk b₀ (State.rebuildEnds s) := by
  refine Rg.step h₀ ?_ hm₀
  clear h₀ hm₀
  unfold State.rebuildEnds
  try dsimp only
  repeat' (first
    | with_reducible exact Rg.refl _ _
    | with_reducible assumption
    | exact (rfl : (_ : Nat) = _)
    | with_reducible refine State.rebuiltSeg_rg ?_ ?_
    | dsimp only
    | with_reducible refine Rg.ite ?_ ?_
    | with_reducible refine Rg.ite₁ ?_ ?_
    | with_reducible refine RgS.ite ?_ ?_
    | with_reducible refine RgP.ite ?_ ?_
    | with_reducible exact RgS.none
    | with_reducible refine RgS.some ?_
    | with_reducible refine RgS.map ?_
    | with_reducible exact RgP.none
    | with_reducible refine RgP.some ?_
    | with_reducible refine Rg.elim ?_ ?_
    | with_reducible refine Rg.foldl ?_ _ _ ?_
    | with_reducible refine Rg.foldl₂ ?_ _ _ ?_
    | intro _ _ _ _ _ _
    | intro _ _ _ _ _
    | intro _ _ _ _
    | intro _ _ _
    | intro _ _
    | intro _
    | with_reducible refine Rg.pair (h := ?_) (e := by assumption)
    | with_reducible refine RgO.got (h := ?_) (e := by assumption)
    | with_reducible refine RgS.get (h := ?_) (e := by assumption)
    | with_reducible refine RgP.get (h := ?_) (e := by assumption)
    | split)

theorem execRebuildHoldoffEnd_rg {msk : Nat} {b₀ : State} {pool : Nat} {s : State} (h₀ : Rg msk b₀ s) (hm₀ : 0 ||| msk = msk) :
    RgO msk b₀ (execRebuildHoldoffEnd pool s) := by
  refine RgO.step h₀ ?_ hm₀
  clear h₀ hm₀
  unfold execRebuildHoldoffEnd
  try dsimp only
  repeat' (first
    | with_reducible exact Rg.refl _ _
    | exact (rfl : (_ : Nat) = _)
    | with_reducible refine State.setPool_rg ?_ ?_
    | with_reducible refine Rg.ite ?_ ?_
    | with_reducible refine RgO.next ?_
    | split)

theorem execSpLossDataLatch_rg {msk : Nat} {b₀ : State} {s : State} (h₀ : Rg msk b₀ s) (hm₀ : 4479489484355608421114884561136888556243290994469299069799978201927583742360321890761754986543214231552 ||| msk = msk) :
    RgO msk b₀ (execSpLossDataLatch s) := by
  refine RgO.step h₀ ?_ hm₀
  clear h₀ hm₀
  unfold execSpLossDataLatch
  try dsimp only
  repeat' (first
    | with_reducible exact Rg.refl _ _
    | exact (rfl : (_ : Nat) = _)
    | with_reducible refine State.emit_rg ?_ ?_
    | with_reducible refine State.latchLoss_rg ?_ ?_
    | with_reducible refine RgO.next ?_)

theorem State.rebuildFail_rg {msk : Nat} {b₀ : State} {s : State} {i : Nat} {port : Nat} {page : Nat} {position : Nat} (h₀ : Rg msk b₀ s) (hm₀ : 96107167241834975113312584178489302142293605564759693426004588894417285174339314651986626222954283729664672024879809959352794238588654061432213649874520966944 ||| msk = msk) :
    Rg msk b₀ (State.rebuildFail s i port page position) := by
  refine Rg.step h₀ ?_ hm₀
  clear h₀ hm₀
  unfold State.rebuildFail
  try dsimp only
  repeat' (first
    | with_reducible exact Rg.refl _ _
    | exact (rfl : (_ : Nat) = _)
    | with_reducible refine State.setSeg_rg ?_ ?_
    | with_reducible refine State.programFail_rg ?_ ?_
    | split)

theorem State.rebuildMove_rg {msk : Nat} {b₀ : State} {s : State} {pool : Nat} {i : Nat} {g : Seg} {lost : List Nat} {places : List (List Place)} (h₀ : Rg msk b₀ s) (hm₀ : 96107167241834975113312584178489302142293605564759693427141963543278523216833181526920338847096539465099990390913996967388137863080006597914226399074211401504 ||| msk = msk) :
    Rg msk b₀ (State.rebuildMove s pool i g lost places) := by
  refine Rg.step h₀ ?_ hm₀
  clear h₀ hm₀
  unfold State.rebuildMove
  try dsimp only
  repeat' (first
    | with_reducible exact Rg.refl _ _
    | with_reducible assumption
    | exact (rfl : (_ : Nat) = _)
    | with_reducible refine State.retireSeg_rg ?_ ?_
    | with_reducible refine copyGrain_rg ?_ ?_
    | with_reducible refine State.rebuildBlocked_rg ?_ ?_
    | with_reducible refine State.putBit_rg ?_ ?_
    | with_reducible refine State.setSeg_rg ?_ ?_
    | with_reducible refine State.rebuiltSeg_rg ?_ ?_
    | with_reducible refine in_SP_STATE ?_
    | exact (rfl : (_ : Bool) = _)
    | with_reducible refine Rg.ite ?_ ?_
    | with_reducible refine Rg.foldl₂ ?_ _ _ ?_
    | intro _ _ _)

theorem execLossResolveWalk_rg {msk : Nat} {b₀ : State} {pool : Nat} {index : Nat} {s : State} (h₀ : Rg msk b₀ s) (hm₀ : 0 ||| msk = msk) :
    RgO msk b₀ (execLossResolveWalk pool index s) := by
  refine RgO.step h₀ ?_ hm₀
  clear h₀ hm₀
  unfold execLossResolveWalk
  try dsimp only
  repeat' (first
    | with_reducible exact Rg.refl _ _
    | exact (rfl : (_ : Nat) = _)
    | with_reducible refine State.setPool_rg ?_ ?_
    | with_reducible refine RgO.ite ?_ ?_
    | with_reducible refine RgO.next ?_
    | split)

theorem State.rebuildPlace_rg {msk : Nat} {b₀ : State} {s : State} {pool : Nat} {i : Nat} {g : Seg} {p : Pool} {lost : List Nat} (h₀ : Rg msk b₀ s) (hm₀ : 96107167241834975113312584178489302142293605564759693426162070946601662032894134812339205389201260577709582276396261875421550072274563854089189199007761633056 ||| msk = msk) :
    Rg msk b₀ (State.rebuildPlace s pool i g p lost) := by
  refine Rg.step h₀ ?_ hm₀
  clear h₀ hm₀
  unfold State.rebuildPlace
  try dsimp only
  repeat' (first
    | with_reducible exact Rg.refl _ _
    | with_reducible assumption
    | exact (rfl : (_ : Nat) = _)
    | with_reducible refine State.sendMod_rg ?_ ?_
    | with_reducible refine State.count_rg ?_ ?_
    | with_reducible refine State.readSources_rg ?_ ?_
    | with_reducible refine State.rebuildLost_rg ?_ ?_
    | with_reducible refine State.setSeg_rg ?_ ?_
    | with_reducible refine in_SP_RECON ?_
    | with_reducible refine InSet.ite ?_ ?_
    | exact (rfl : (_ : Bool) = _)
    | dsimp only
    | with_reducible refine Rg.ite ?_ ?_
    | with_reducible refine Rg.ite₁ ?_ ?_
    | with_reducible refine RgS.ite ?_ ?_
    | with_reducible refine RgP.ite ?_ ?_
    | with_reducible exact RgS.none
    | with_reducible refine RgS.some ?_
    | with_reducible refine RgS.map ?_
    | with_reducible exact RgP.none
    | with_reducible refine RgP.some ?_
    | with_reducible refine Rg.elim ?_ ?_
    | with_reducible refine Rg.foldl ?_ _ _ ?_
    | with_reducible refine Rg.foldl₂ ?_ _ _ ?_
    | intro _ _ _ _ _ _
    | intro _ _ _ _ _
    | intro _ _ _ _
    | intro _ _ _
    | intro _ _
    | intro _
    | with_reducible refine Rg.pair (h := ?_) (e := by assumption)
    | with_reducible refine RgO.got (h := ?_) (e := by assumption)
    | with_reducible refine RgS.get (h := ?_) (e := by assumption)
    | with_reducible refine RgP.get (h := ?_) (e := by assumption)
    | split)

theorem State.rebuildMay_rg {msk : Nat} {b₀ : State} {s : State} {pool : Nat} (h₀ : Rg msk b₀ s) (hm₀ : 0 ||| msk = msk) :
    Rg msk b₀ (State.rebuildMay s pool).1 := by
  refine Rg.step h₀ ?_ hm₀
  clear h₀ hm₀
  unfold State.rebuildMay
  try dsimp only
  repeat' (first
    | with_reducible exact Rg.refl _ _
    | exact (rfl : (_ : Nat) = _)
    | with_reducible refine State.standing_rg ?_ ?_
    | with_reducible refine Rg.ite₁ ?_ ?_)

theorem execCheckpoint_rg {msk : Nat} {b₀ : State} {pool : Nat} {band : Option BandCopy} {places : List (List Place)} {s : State} (h₀ : Rg msk b₀ s) (hm₀ : 96107167241834975113312584178489302142293605564759693426004588894417285174339314651986736650895832378685270980973606391760033456332208787617096250262101757728 ||| msk = msk) :
    RgO msk b₀ (execCheckpoint pool band places s) := by
  refine RgO.step h₀ ?_ hm₀
  clear h₀ hm₀
  unfold execCheckpoint
  try dsimp only
  repeat' (first
    | with_reducible exact Rg.refl _ _
    | with_reducible assumption
    | exact (rfl : (_ : Nat) = _)
    | with_reducible refine State.bandStart_rg ?_ ?_
    | with_reducible refine State.checkpointStart_rg ?_ ?_
    | with_reducible refine State.checkpointAsk_rg ?_ ?_
    | dsimp only
    | with_reducible refine Rg.ite ?_ ?_
    | with_reducible refine Rg.ite₁ ?_ ?_
    | with_reducible refine RgO.ite ?_ ?_
    | with_reducible refine RgS.ite ?_ ?_
    | with_reducible refine RgP.ite ?_ ?_
    | with_reducible refine RgO.next ?_
    | with_reducible exact RgS.none
    | with_reducible refine RgS.some ?_
    | with_reducible refine RgS.map ?_
    | with_reducible exact RgP.none
    | with_reducible refine RgP.some ?_
    | with_reducible refine Rg.elim ?_ ?_
    | with_reducible refine Rg.foldl ?_ _ _ ?_
    | with_reducible refine Rg.foldl₂ ?_ _ _ ?_
    | intro _ _ _ _ _ _
    | intro _ _ _ _ _
    | intro _ _ _ _
    | intro _ _ _
    | intro _ _
    | intro _
    | with_reducible refine Rg.pair (h := ?_) (e := by assumption)
    | with_reducible refine RgO.got (h := ?_) (e := by assumption)
    | with_reducible refine RgS.get (h := ?_) (e := by assumption)
    | with_reducible refine RgP.get (h := ?_) (e := by assumption)
    | split)

theorem execRebuildStripe_rg {msk : Nat} {b₀ : State} {pool : Nat} {lost : List Nat} {rewrite : List Nat} {withQ : Bool} {places : List (List Place)} {s : State} (h₀ : Rg msk b₀ s) (hm₀ : 96107167241834975113312584178489302142293605564759693427561915682436861506312701954526922203164241330132766768041775097858110186200575620254285891269858234144 ||| msk = msk) :
    RgO msk b₀ (execRebuildStripe pool lost rewrite withQ places s) := by
  refine RgO.step h₀ ?_ hm₀
  clear h₀ hm₀
  unfold execRebuildStripe
  try dsimp only
  repeat' (first
    | with_reducible exact Rg.refl _ _
    | with_reducible assumption
    | exact (rfl : (_ : Nat) = _)
    | with_reducible refine State.rebuildMay_rg ?_ ?_
    | with_reducible refine State.rebuiltSeg_rg ?_ ?_
    | with_reducible refine State.memberGone_rg ?_ ?_
    | with_reducible refine State.setPool_rg ?_ ?_
    | with_reducible refine State.mismatch_rg ?_ ?_
    | with_reducible refine State.repairAll_rg ?_ ?_
    | with_reducible refine State.rebuildPlace_rg ?_ ?_
    | with_reducible refine State.rebuildMove_rg ?_ ?_
    | dsimp only
    | with_reducible refine Rg.ite ?_ ?_
    | with_reducible refine Rg.ite₁ ?_ ?_
    | with_reducible refine RgO.ite ?_ ?_
    | with_reducible refine RgS.ite ?_ ?_
    | with_reducible refine RgP.ite ?_ ?_
    | with_reducible refine RgO.next ?_
    | with_reducible exact RgS.none
    | with_reducible refine RgS.some ?_
    | with_reducible refine RgS.map ?_
    | with_reducible exact RgP.none
    | with_reducible refine RgP.some ?_
    | with_reducible refine Rg.elim ?_ ?_
    | with_reducible refine Rg.foldl ?_ _ _ ?_
    | with_reducible refine Rg.foldl₂ ?_ _ _ ?_
    | intro _ _ _ _ _ _
    | intro _ _ _ _ _
    | intro _ _ _ _
    | intro _ _ _
    | intro _ _
    | intro _
    | with_reducible refine Rg.pair (h := ?_) (e := by assumption)
    | with_reducible refine RgO.got (h := ?_) (e := by assumption)
    | with_reducible refine RgS.get (h := ?_) (e := by assumption)
    | with_reducible refine RgP.get (h := ?_) (e := by assumption)
    | split)

end Sys2Proof.Machine
end

