-- ==== Sys2Proof/Laws/RgRecover.lean ====
section
/-! SUPPORT. Register frames of the operations of Machine.Recover: the registers that each may write. -/

set_option maxRecDepth 20000
set_option Elab.async false
set_option linter.unusedTactic false
set_option linter.unreachableTactic false
set_option linter.unusedVariables false

namespace Sys2Proof.Machine

theorem State.levelSet_rg {msk : Nat} {b₀ : State} {s : State} {port : Nat} {die : Nat} {slot : Nat} {bin : Nat} {offs : List Int} (h₀ : Rg msk b₀ s) (hm₀ : 110427941548649020598956093796432407239217743554726184882600387580790784 ||| msk = msk) :
    Rg msk b₀ (State.levelSet s port die slot bin offs) := by
  refine Rg.step h₀ ?_ hm₀
  clear h₀ hm₀
  unfold State.levelSet
  try dsimp only
  repeat' (first
    | with_reducible exact Rg.refl _ _
    | exact (rfl : (_ : Nat) = _)
    | with_reducible refine State.sendMod_rg ?_ ?_)

theorem State.binLoad_rg {msk : Nat} {b₀ : State} {s : State} {port : Nat} {m : Nat} {d : Nat} {b : Nat × List Int} (h₀ : Rg msk b₀ s) (hm₀ : 110427941548649020598956093796432407239217743554726184882600387580790784 ||| msk = msk) :
    Rg msk b₀ (State.binLoad s port m d b) := by
  refine Rg.step h₀ ?_ hm₀
  clear h₀ hm₀
  unfold State.binLoad
  try dsimp only
  repeat' (first
    | with_reducible exact Rg.refl _ _
    | exact (rfl : (_ : Nat) = _)
    | with_reducible refine State.setDie_rg ?_ ?_
    | with_reducible refine State.levelSet_rg ?_ ?_)

theorem State.calLoad_rg {msk : Nat} {b₀ : State} {s : State} {pool : Nat} {p : Pool} (h₀ : Rg msk b₀ s) (hm₀ : 110427941548649020598956093796432407239217743554726184882600387580790784 ||| msk = msk) :
    Rg msk b₀ (State.calLoad s pool p) := by
  refine Rg.step h₀ ?_ hm₀
  clear h₀ hm₀
  unfold State.calLoad
  try dsimp only
  repeat' (first
    | with_reducible exact Rg.refl _ _
    | with_reducible assumption
    | exact (rfl : (_ : Nat) = _)
    | with_reducible refine State.binLoad_rg ?_ ?_
    | with_reducible refine Rg.foldl ?_ _ _ ?_
    | intro _ _ _)

theorem State.eraseAgain_rg {msk : Nat} {b₀ : State} {s : State} {i : Nat} (h₀ : Rg msk b₀ s) (hm₀ : 110427941548649020598956093796432407239217743554726184882600387580790784 ||| msk = msk) :
    Rg msk b₀ (State.eraseAgain s i) := by
  refine Rg.step h₀ ?_ hm₀
  clear h₀ hm₀
  unfold State.eraseAgain
  try dsimp only
  repeat' (first
    | with_reducible exact Rg.refl _ _
    | exact (rfl : (_ : Nat) = _)
    | with_reducible refine State.eraseMembers_rg ?_ ?_
    | with_reducible refine State.setSeg_rg ?_ ?_
    | split)

theorem State.recoveryErrors_rg {msk : Nat} {b₀ : State} {s : State} {pool : Nat} {x : PoolFound} {gap : Bool} (h₀ : Rg msk b₀ s) (hm₀ : 96107167241834975113312584178489302142293605564759693426004588894417285174339329473374048599427297946750753136932015177910831440580851112002966662755114878752 ||| msk = msk) :
    Rg msk b₀ (State.recoveryErrors s pool x gap) := by
  refine Rg.step h₀ ?_ hm₀
  clear h₀ hm₀
  unfold State.recoveryErrors
  try dsimp only
  repeat' (first
    | with_reducible exact Rg.refl _ _
    | with_reducible assumption
    | exact (rfl : (_ : Nat) = _)
    | with_reducible refine State.raise_rg ?_ ?_
    | with_reducible refine State.countBy_rg ?_ ?_
    | with_reducible refine in_FTL_ORPHANS ?_
    | with_reducible refine InSet.ite ?_ ?_
    | exact (rfl : (_ : Bool) = _)
    | dsimp only
    | with_reducible refine Rg.ite ?_ ?_
    | with_reducible refine Rg.ite₁ ?_ ?_
    | with_reducible refine RgS.ite ?_ ?_
    | with_reducible refine RgP.ite ?_ ?_
    | with_reducible exact RgS.none
    | with_reducible refine RgS.some ?_
    | with_reducible refine RgS.map ?_
    | with_reducible exact RgP.none
    | with_reducible refine RgP.some ?_
    | with_reducible refine Rg.elim ?_ ?_
    | with_reducible refine Rg.foldl ?_ _ _ ?_
    | with_reducible refine Rg.foldl₂ ?_ _ _ ?_
    | intro _ _ _ _ _ _
    | intro _ _ _ _ _
    | intro _ _ _ _
    | intro _ _ _
    | intro _ _
    | intro _
    | with_reducible refine Rg.pair (h := ?_) (e := by assumption)
    | with_reducible refine RgO.got (h := ?_) (e := by assumption)
    | with_reducible refine RgS.get (h := ?_) (e := by assumption)
    | with_reducible refine RgP.get (h := ?_) (e := by assumption)
    | split)

theorem State.recoverPool_rg {msk : Nat} {b₀ : State} {s : State} {pool : Nat} {x : PoolFound} (h₀ : Rg msk b₀ s) (hm₀ : 96107167241834975113312584178489302142293605564759693569365750399595018745410615910739890747341765468520008060868151649931968700410557507780132969594254069536 ||| msk = msk) :
    Rg msk b₀ (State.recoverPool s pool x) := by
  refine Rg.step h₀ ?_ hm₀
  clear h₀ hm₀
  unfold State.recoverPool
  try dsimp only
  repeat' (first
    | with_reducible exact Rg.refl _ _
    | with_reducible assumption
    | exact (rfl : (_ : Nat) = _)
    | with_reducible refine State.applyTxn_rg ?_ ?_
    | with_reducible refine State.eraseAgain_rg ?_ ?_
    | with_reducible refine State.setPool_rg ?_ ?_
    | with_reducible refine State.calLoad_rg ?_ ?_
    | with_reducible refine State.recoveryErrors_rg ?_ ?_
    | with_reducible refine State.event_rg ?_ ?_
    | dsimp only
    | with_reducible refine Rg.ite ?_ ?_
    | with_reducible refine Rg.ite₁ ?_ ?_
    | with_reducible refine RgS.ite ?_ ?_
    | with_reducible refine RgP.ite ?_ ?_
    | with_reducible exact RgS.none
    | with_reducible refine RgS.some ?_
    | with_reducible refine RgS.map ?_
    | with_reducible exact RgP.none
    | with_reducible refine RgP.some ?_
    | with_reducible refine Rg.elim ?_ ?_
    | with_reducible refine Rg.foldl ?_ _ _ ?_
    | with_reducible refine Rg.foldl₂ ?_ _ _ ?_
    | intro _ _ _ _ _ _
    | intro _ _ _ _ _
    | intro _ _ _ _
    | intro _ _ _
    | intro _ _
    | intro _
    | with_reducible refine Rg.pair (h := ?_) (e := by assumption)
    | with_reducible refine RgO.got (h := ?_) (e := by assumption)
    | with_reducible refine RgS.get (h := ?_) (e := by assumption)
    | with_reducible refine RgP.get (h := ?_) (e := by assumption)
    | split
    | refine Rg.mk' ?_)

theorem State.recoverPaddock_rg {msk : Nat} {b₀ : State} {s : State} {q : Nat} {found : Amap PoolFound} (h₀ : Rg msk b₀ s) (hm₀ : 96107167241834975113312584178489302142293605564759693569365750399595018745410615910739890747341765468520008060868151649931968700410557507780132969594254069536 ||| msk = msk) :
    Rg msk b₀ (State.recoverPaddock s q found) := by
  refine Rg.step h₀ ?_ hm₀
  clear h₀ hm₀
  unfold State.recoverPaddock
  try dsimp only
  repeat' (first
    | with_reducible exact Rg.refl _ _
    | with_reducible assumption
    | exact (rfl : (_ : Nat) = _)
    | with_reducible refine State.recoverPool_rg ?_ ?_
    | dsimp only
    | with_reducible refine Rg.ite ?_ ?_
    | with_reducible refine Rg.ite₁ ?_ ?_
    | with_reducible refine RgS.ite ?_ ?_
    | with_reducible refine RgP.ite ?_ ?_
    | with_reducible exact RgS.none
    | with_reducible refine RgS.some ?_
    | with_reducible refine RgS.map ?_
    | with_reducible exact RgP.none
    | with_reducible refine RgP.some ?_
    | with_reducible refine Rg.elim ?_ ?_
    | with_reducible refine Rg.foldl ?_ _ _ ?_
    | with_reducible refine Rg.foldl₂ ?_ _ _ ?_
    | intro _ _ _ _ _ _
    | intro _ _ _ _ _
    | intro _ _ _ _
    | intro _ _ _
    | intro _ _
    | intro _
    | with_reducible refine Rg.pair (h := ?_) (e := by assumption)
    | with_reducible refine RgO.got (h := ?_) (e := by assumption)
    | with_reducible refine RgS.get (h := ?_) (e := by assumption)
    | with_reducible refine RgP.get (h := ?_) (e := by assumption)
    | split)

theorem State.clearPaddock_rg {msk : Nat} {b₀ : State} {s : State} {q : Nat} (h₀ : Rg msk b₀ s) (hm₀ : 0 ||| msk = msk) :
    Rg msk b₀ (State.clearPaddock s q) := by
  refine Rg.step h₀ ?_ hm₀
  clear h₀ hm₀
  unfold State.clearPaddock
  try dsimp only
  repeat' (first
    | with_reducible exact Rg.refl _ _
    | refine Rg.mk' ?_)

theorem State.joinPaddock_rg {msk : Nat} {b₀ : State} {s0 : State} {q : Nat} {d : PaddockData} (h₀ : Rg msk b₀ s0) (hm₀ : 0 ||| msk = msk) :
    Rg msk b₀ (State.joinPaddock s0 q d) := by
  refine Rg.step h₀ ?_ hm₀
  clear h₀ hm₀
  unfold State.joinPaddock
  try dsimp only
  repeat' (first
    | with_reducible exact Rg.refl _ _
    | exact (rfl : (_ : Nat) = _)
    | with_reducible refine State.clearPaddock_rg ?_ ?_
    | refine Rg.mk' ?_)

end Sys2Proof.Machine
end

