-- ==== Sys2Proof/Laws/RgCalib.lean ====
section
/-! SUPPORT. Register frames of the operations of Machine.Calib: the registers that each may write. -/

set_option maxRecDepth 20000
set_option Elab.async false
set_option linter.unusedTactic false
set_option linter.unreachableTactic false
set_option linter.unusedVariables false

namespace Sys2Proof.Machine

theorem State.setBin_rg {msk : Nat} {b₀ : State} {s : State} {m : Nat} {d : Nat} {bin : Nat} {f : CalBin → CalBin} (h₀ : Rg msk b₀ s) (hm₀ : 0 ||| msk = msk) :
    Rg msk b₀ (State.setBin s m d bin f) := by
  refine Rg.step h₀ ?_ hm₀
  clear h₀ hm₀
  unfold State.setBin
  try dsimp only
  repeat' (first
    | with_reducible exact Rg.refl _ _
    | exact (rfl : (_ : Nat) = _)
    | with_reducible refine State.setDie_rg ?_ ?_)

theorem State.calSend_rg {msk : Nat} {b₀ : State} {s : State} {port : Nat} {m : Nat} {d : Nat} {bin : Nat} {offs : List Int} (h₀ : Rg msk b₀ s) (hm₀ : 110427941548649020598956093796432407239217743554726184882600387580790784 ||| msk = msk) :
    Rg msk b₀ (State.calSend s port m d bin offs) := by
  refine Rg.step h₀ ?_ hm₀
  clear h₀ hm₀
  unfold State.calSend
  try dsimp only
  repeat' (first
    | with_reducible exact Rg.refl _ _
    | exact (rfl : (_ : Nat) = _)
    | with_reducible refine State.levelSet_rg ?_ ?_
    | with_reducible refine State.setBin_rg ?_ ?_)

theorem State.setPatrol_rg {msk : Nat} {b₀ : State} {s : State} {f : PatrolSt → PatrolSt} (h₀ : Rg msk b₀ s) (hm₀ : 0 ||| msk = msk) :
    Rg msk b₀ (State.setPatrol s f) := by
  refine Rg.step h₀ ?_ hm₀
  clear h₀ hm₀
  unfold State.setPatrol
  try dsimp only
  repeat' (first
    | with_reducible exact Rg.refl _ _
    | refine Rg.mk' ?_)

theorem State.passStart_rg {msk : Nat} {b₀ : State} {s : State} {days : Nat} {expedited : Bool} (h₀ : Rg msk b₀ s) (hm₀ : 5967878836917439705864586977761850081205473809568172609285567722717913964150400506396672 ||| msk = msk) :
    Rg msk b₀ (State.passStart s days expedited) := by
  refine Rg.step h₀ ?_ hm₀
  clear h₀ hm₀
  unfold State.passStart
  try dsimp only
  repeat' (first
    | with_reducible exact Rg.refl _ _
    | exact (rfl : (_ : Nat) = _)
    | with_reducible refine State.wr_rg ?_ ?_
    | with_reducible refine State.wr64_rg ?_ ?_ ?_
    | with_reducible refine State.setPatrol_rg ?_ ?_
    | with_reducible refine in_PAT_PASS_START ?_
    | with_reducible refine in_PAT_PASS_START4 ?_
    | with_reducible refine in_PAT_PROGRESS ?_
    | exact (rfl : (_ : Bool) = _)
    | refine Rg.mk' ?_)

theorem State.patrolExpedite_rg {msk : Nat} {b₀ : State} {s : State} (h₀ : Rg msk b₀ s) (hm₀ : 5967878836917439705864586977761850081205473809568172609285567722717913964150400506396704 ||| msk = msk) :
    Rg msk b₀ (State.patrolExpedite s) := by
  refine Rg.step h₀ ?_ hm₀
  clear h₀ hm₀
  unfold State.patrolExpedite
  try dsimp only
  repeat' (first
    | with_reducible exact Rg.refl _ _
    | exact (rfl : (_ : Nat) = _)
    | with_reducible refine State.event_rg ?_ ?_
    | with_reducible refine State.passStart_rg ?_ ?_
    | refine Rg.mk' ?_)

theorem execPatRestart_rg {msk : Nat} {b₀ : State} {s : State} (h₀ : Rg msk b₀ s) (hm₀ : 96107167241834975113312584178489302142293605564759693426004588894417285174339314651986626222954283729664672024879809959352794238588654061432213649874520966944 ||| msk = msk) :
    RgO msk b₀ (execPatRestart s) := by
  refine RgO.step h₀ ?_ hm₀
  clear h₀ hm₀
  unfold execPatRestart
  try dsimp only
  repeat' (first
    | with_reducible exact Rg.refl _ _
    | with_reducible assumption
    | exact (rfl : (_ : Nat) = _)
    | with_reducible refine State.pageWrite_rg ?_ ?_ ?_
    | with_reducible refine State.setPatrol_rg ?_ ?_
    | with_reducible refine RgO.next ?_
    | intro _ _)

theorem State.coverCheck_rg {msk : Nat} {b₀ : State} {s : State} {m : Nat} {d : Nat} {bgrp : Nat} (h₀ : Rg msk b₀ s) (hm₀ : 7957171782556586274486115970349133441607298412757563479047423630290551952200534008528896 ||| msk = msk) :
    Rg msk b₀ (State.coverCheck s m d bgrp) := by
  refine Rg.step h₀ ?_ hm₀
  clear h₀ hm₀
  unfold State.coverCheck
  try dsimp only
  repeat' (first
    | with_reducible exact Rg.refl _ _
    | exact (rfl : (_ : Nat) = _)
    | with_reducible refine State.count_rg ?_ ?_
    | with_reducible refine State.setBg_rg ?_ ?_
    | with_reducible refine in_PAT_SKIPPED ?_
    | exact (rfl : (_ : Bool) = _)
    | with_reducible refine Rg.ite ?_ ?_)

theorem State.refreshCheck_rg {msk : Nat} {b₀ : State} {s : State} {port : Nat} {m : Nat} {d : Nat} {bgrp : Nat} {corr : Option Nat} {patrol : Bool} (h₀ : Rg msk b₀ s) (hm₀ : 31828687130226345097944463881396533766429193651030253916189694521162207808802136034115616 ||| msk = msk) :
    Rg msk b₀ (State.refreshCheck s port m d bgrp corr patrol) := by
  refine Rg.step h₀ ?_ hm₀
  clear h₀ hm₀
  unfold State.refreshCheck
  try dsimp only
  repeat' (first
    | with_reducible exact Rg.refl _ _
    | exact (rfl : (_ : Nat) = _)
    | with_reducible refine State.refreshDue_rg ?_ ?_
    | with_reducible refine State.count_rg ?_ ?_
    | with_reducible refine in_PAT_REFRESH ?_
    | exact (rfl : (_ : Bool) = _)
    | with_reducible refine Rg.ite ?_ ?_)

theorem State.report_rg {msk : Nat} {b₀ : State} {s0 : State} {port : Nat} {m : Nat} {d : Nat} {bgrp : Nat} {page : Nat} {host : Bool} {patrol : Bool} {r0 : DecodeReport} (h₀ : Rg msk b₀ s0) (hm₀ : 96107167241834975113312584178489302142293605564759693426004588894417324960224787361178897293175612493589232858923625403172855445723920136981373734568853573408 ||| msk = msk) :
    Rg msk b₀ (State.report s0 port m d bgrp page host patrol r0) := by
  refine Rg.step h₀ ?_ hm₀
  clear h₀ hm₀
  unfold State.report
  try dsimp only
  repeat' (first
    | with_reducible exact Rg.refl _ _
    | with_reducible assumption
    | exact (rfl : (_ : Nat) = _)
    | with_reducible refine State.inject_rg ?_ ?_
    | with_reducible refine State.operate_rg ?_ ?_
    | with_reducible refine State.countBy_rg ?_ ?_
    | with_reducible refine State.setBg_rg ?_ ?_
    | with_reducible refine State.setBin_rg ?_ ?_
    | with_reducible refine State.setHealth_rg ?_ ?_
    | with_reducible refine State.coverCheck_rg ?_ ?_
    | with_reducible refine State.refreshCheck_rg ?_ ?_
    | with_reducible refine in_LD_CORR_BITS ?_
    | with_reducible refine in_LD_CW ?_
    | with_reducible refine in_LD_FIRST_FAIL ?_
    | with_reducible refine InSet.ite ?_ ?_
    | exact (rfl : (_ : Bool) = _)
    | dsimp only
    | with_reducible refine Rg.ite ?_ ?_
    | with_reducible refine Rg.ite₁ ?_ ?_
    | with_reducible refine RgS.ite ?_ ?_
    | with_reducible refine RgP.ite ?_ ?_
    | with_reducible exact RgS.none
    | with_reducible refine RgS.some ?_
    | with_reducible refine RgS.map ?_
    | with_reducible exact RgP.none
    | with_reducible refine RgP.some ?_
    | with_reducible refine Rg.elim ?_ ?_
    | with_reducible refine Rg.foldl ?_ _ _ ?_
    | with_reducible refine Rg.foldl₂ ?_ _ _ ?_
    | intro _ _ _ _ _ _
    | intro _ _ _ _ _
    | intro _ _ _ _
    | intro _ _ _
    | intro _ _
    | intro _
    | with_reducible refine Rg.pair (h := ?_) (e := by assumption)
    | with_reducible refine RgO.got (h := ?_) (e := by assumption)
    | with_reducible refine RgS.get (h := ?_) (e := by assumption)
    | with_reducible refine RgP.get (h := ?_) (e := by assumption)
    | split
    | refine Rg.mk' ?_)

theorem State.calStale_rg {msk : Nat} {b₀ : State} {s : State} {m : Nat} {d : Nat} {bin : Nat} {bgrp : Nat} (h₀ : Rg msk b₀ s) (hm₀ : 96107167241834975113312584178489302142293605564759693426004588894417285205422016927598291357665674238840974531158319384187026578617652617254682213157856937760 ||| msk = msk) :
    Rg msk b₀ (State.calStale s m d bin bgrp) := by
  refine Rg.step h₀ ?_ hm₀
  clear h₀ hm₀
  unfold State.calStale
  try dsimp only
  repeat' (first
    | with_reducible exact Rg.refl _ _
    | exact (rfl : (_ : Nat) = _)
    | with_reducible refine State.setBg_rg ?_ ?_
    | with_reducible refine State.raise_rg ?_ ?_
    | with_reducible refine State.count_rg ?_ ?_
    | with_reducible refine State.setBin_rg ?_ ?_
    | with_reducible refine in_LD_CAL_STALE ?_
    | exact (rfl : (_ : Bool) = _)
    | with_reducible refine Rg.ite ?_ ?_)

theorem State.calClamped_rg {msk : Nat} {b₀ : State} {s : State} {n : Nat} (h₀ : Rg msk b₀ s) (hm₀ : 96107167241834975113312584178489302142293605564759693426004588894417285189880665789792458790309978984252823278019064671769910408603153339343447931516188952352 ||| msk = msk) :
    Rg msk b₀ (State.calClamped s n) := by
  refine Rg.step h₀ ?_ hm₀
  clear h₀ hm₀
  unfold State.calClamped
  try dsimp only
  repeat' (first
    | with_reducible exact Rg.refl _ _
    | exact (rfl : (_ : Nat) = _)
    | with_reducible refine State.raise_rg ?_ ?_
    | with_reducible refine State.event_rg ?_ ?_
    | with_reducible refine State.countBy_rg ?_ ?_
    | with_reducible refine in_CAL_CLAMPS ?_
    | exact (rfl : (_ : Bool) = _)
    | with_reducible refine Rg.ite ?_ ?_)

theorem State.wearFloor_rg {msk : Nat} {b₀ : State} {s : State} (h₀ : Rg msk b₀ s) (hm₀ : 3138550867693340381917894711603833208051177722232017256448 ||| msk = msk) :
    Rg msk b₀ (State.wearFloor s) := by
  refine Rg.step h₀ ?_ hm₀
  clear h₀ hm₀
  unfold State.wearFloor
  try dsimp only
  repeat' (first
    | with_reducible exact Rg.refl _ _
    | with_reducible refine State.wrN_rg ?_ ?_
    | with_reducible refine in_CP_FLOOR ?_
    | exact (rfl : (_ : Bool) = _))

theorem State.wearCommit_rg {msk : Nat} {b₀ : State} {s : State} (h₀ : Rg msk b₀ s) (hm₀ : 96107167241834975113312584178489302142293605564759693426004588961166880046867754726831054540752787314137739216218549402115739194636853700128408560324103440160 ||| msk = msk) :
    Rg msk b₀ (State.wearCommit s) := by
  refine Rg.step h₀ ?_ hm₀
  clear h₀ hm₀
  unfold State.wearCommit
  try dsimp only
  repeat' (first
    | with_reducible exact Rg.refl _ _
    | with_reducible assumption
    | exact (rfl : (_ : Nat) = _)
    | with_reducible refine State.wearFloor_rg ?_ ?_
    | with_reducible refine State.wrN_rg ?_ ?_
    | with_reducible refine State.event_rg ?_ ?_
    | with_reducible refine State.raise_rg ?_ ?_
    | with_reducible refine in_WR_STATE ?_
    | exact (rfl : (_ : Bool) = _)
    | with_reducible refine Rg.ite ?_ ?_
    | with_reducible refine Rg.foldl ?_ _ _ ?_
    | intro _ _ _
    | split
    | refine Rg.mk' ?_)

theorem State.patrolIssue_rg {msk : Nat} {b₀ : State} {s : State} {x : Nat × Nat × Nat × Nat} (h₀ : Rg msk b₀ s) (hm₀ : 19892929456391465796643231474521854202974339828326315936836302630452564763101722602113024 ||| msk = msk) :
    Rg msk b₀ (State.patrolIssue s x) := by
  refine Rg.step h₀ ?_ hm₀
  clear h₀ hm₀
  unfold State.patrolIssue
  try dsimp only
  repeat' (first
    | with_reducible exact Rg.refl _ _
    | exact (rfl : (_ : Nat) = _)
    | with_reducible refine State.setBg_rg ?_ ?_
    | with_reducible refine State.setPatrol_rg ?_ ?_
    | with_reducible refine State.wrN_rg ?_ ?_
    | with_reducible refine State.count_rg ?_ ?_
    | with_reducible refine State.sendMod_rg ?_ ?_
    | with_reducible refine in_PAT_PROGRESS ?_
    | with_reducible refine in_PAT_READS ?_
    | exact (rfl : (_ : Bool) = _)
    | with_reducible refine Rg.ite ?_ ?_)

theorem State.patrolIssues_rg {msk : Nat} {b₀ : State} {s : State} {x1 : Nat} (h₀ : Rg msk b₀ s) (hm₀ : 19892929456391465796643231474521854202974339828326315936836302630452564763101722602113024 ||| msk = msk) :
    Rg msk b₀ (State.patrolIssues s x1) := by
  refine Rg.step h₀ ?_ hm₀
  clear h₀ hm₀
  fun_induction State.patrolIssues 
  all_goals try dsimp +zetaDelta only at *
  all_goals repeat' (first
    | with_reducible exact Rg.refl _ _
    | exact (rfl : (_ : Nat) = _)
    | with_reducible refine Rg.trans ?_ (by assumption)
    | with_reducible refine State.patrolIssue_rg ?_ ?_
    | with_reducible refine State.setPatrol_rg ?_ ?_)

theorem State.wearHour_rg {msk : Nat} {b₀ : State} {s : State} {pool : Nat} {p : Pool} (h₀ : Rg msk b₀ s) (hm₀ : 458903464748633025514555444684864712121674799725062118543309720430555019210684493168995760865312 ||| msk = msk) :
    Rg msk b₀ (State.wearHour s pool p) := by
  refine Rg.step h₀ ?_ hm₀
  clear h₀ hm₀
  unfold State.wearHour
  try dsimp only
  repeat' (first
    | with_reducible exact Rg.refl _ _
    | exact (rfl : (_ : Nat) = _)
    | with_reducible refine State.wrN_rg ?_ ?_
    | with_reducible refine State.wr64_rg ?_ ?_ ?_
    | with_reducible refine State.event_rg ?_ ?_
    | with_reducible refine in_WR_BUDGET ?_
    | with_reducible refine in_WR_DAYS ?_
    | with_reducible refine in_WR_E24 ?_
    | with_reducible refine in_WR_RATIO ?_
    | with_reducible refine in_WR_REM ?_
    | with_reducible refine in_WR_REM4 ?_
    | exact (rfl : (_ : Bool) = _)
    | with_reducible refine Rg.ite ?_ ?_
    | split
    | refine Rg.mk' ?_)

theorem State.binChange_rg {msk : Nat} {b₀ : State} {s : State} (h₀ : Rg msk b₀ s) (hm₀ : 0 ||| msk = msk) :
    Rg msk b₀ (State.binChange s) := by
  refine Rg.step h₀ ?_ hm₀
  clear h₀ hm₀
  unfold State.binChange
  try dsimp only
  repeat' (first
    | with_reducible exact Rg.refl _ _
    | refine Rg.mk' ?_)

theorem State.calCommit_rg {msk : Nat} {b₀ : State} {s : State} (h₀ : Rg msk b₀ s) (hm₀ : 7770675568902916283677847627294075626569627356208558085007249638955617140820833992704 ||| msk = msk) :
    Rg msk b₀ (State.calCommit s) := by
  refine Rg.step h₀ ?_ hm₀
  clear h₀ hm₀
  unfold State.calCommit
  try dsimp only
  repeat' (first
    | with_reducible exact Rg.refl _ _
    | with_reducible assumption
    | exact (rfl : (_ : Nat) = _)
    | with_reducible refine State.setHealth_rg ?_ ?_
    | with_reducible refine State.countBy_rg ?_ ?_
    | with_reducible refine State.setDie_rg ?_ ?_
    | with_reducible refine in_CAL_UPDATES ?_
    | exact (rfl : (_ : Bool) = _)
    | with_reducible refine Rg.ite ?_ ?_
    | with_reducible refine Rg.foldl ?_ _ _ ?_
    | intro _ _ _
    | refine Rg.mk' ?_)

theorem State.trimGroups_rg {msk : Nat} {b₀ : State} {s : State} {m : Nat} {d : Nat} {bin : Nat} (h₀ : Rg msk b₀ s) (hm₀ : 0 ||| msk = msk) :
    Rg msk b₀ (State.trimGroups s m d bin) := by
  refine Rg.step h₀ ?_ hm₀
  clear h₀ hm₀
  unfold State.trimGroups
  try dsimp only
  repeat' (first
    | with_reducible exact Rg.refl _ _
    | with_reducible refine Rg.ite ?_ ?_
    | refine Rg.mk' ?_)

theorem State.calExamine_rg {msk : Nat} {b₀ : State} {s : State} {port : Nat} {m : Nat} {d : Nat} {bin : Nat} {bgrp : Nat} (h₀ : Rg msk b₀ s) (hm₀ : 96107167241834975113312584178489302142293605564759693426004588894417285220963368065404234352962918142449724740391370529011381966375706621350799095187105713952 ||| msk = msk) :
    Rg msk b₀ (State.calExamine s port m d bin bgrp) := by
  refine Rg.step h₀ ?_ hm₀
  clear h₀ hm₀
  unfold State.calExamine
  try dsimp only
  repeat' (first
    | with_reducible exact Rg.refl _ _
    | exact (rfl : (_ : Nat) = _)
    | with_reducible refine State.setBin_rg ?_ ?_
    | with_reducible refine State.calClamped_rg ?_ ?_
    | with_reducible refine State.calStale_rg ?_ ?_
    | with_reducible refine State.calSend_rg ?_ ?_
    | with_reducible refine Rg.ite ?_ ?_)

theorem execCalUpdate_rg {msk : Nat} {b₀ : State} {m : Nat} {d : Nat} {bin : Nat} {bgrp : Nat} {s : State} (h₀ : Rg msk b₀ s) (hm₀ : 96107167241834975113312584178489302142293605564759693426004588894417285220963368065404234352962918142449724740391370529011381966375706621350799095187105713952 ||| msk = msk) :
    RgO msk b₀ (execCalUpdate m d bin bgrp s) := by
  refine RgO.step h₀ ?_ hm₀
  clear h₀ hm₀
  unfold execCalUpdate
  try dsimp only
  repeat' (first
    | with_reducible exact Rg.refl _ _
    | exact (rfl : (_ : Nat) = _)
    | with_reducible refine State.setBin_rg ?_ ?_
    | with_reducible refine State.trimGroups_rg ?_ ?_
    | with_reducible refine State.calSend_rg ?_ ?_
    | with_reducible refine State.calExamine_rg ?_ ?_
    | with_reducible refine RgO.ite ?_ ?_
    | with_reducible refine RgO.next ?_
    | split)

theorem State.latchHealth_rg {msk : Nat} {b₀ : State} {s : State} (h₀ : Rg msk b₀ s) (hm₀ : 65185151242703554760590262029100101153646988597309960020356494379340201592426774597868716032 ||| msk = msk) :
    Rg msk b₀ (State.latchHealth s) := by
  refine Rg.step h₀ ?_ hm₀
  clear h₀ hm₀
  unfold State.latchHealth
  try dsimp only
  repeat' (first
    | with_reducible exact Rg.refl _ _
    | with_reducible assumption
    | with_reducible refine State.wrN_rg ?_ ?_
    | with_reducible refine in_HL_REC ?_
    | exact (rfl : (_ : Bool) = _)
    | with_reducible refine Rg.foldl ?_ _ _ ?_
    | intro _ _ _)

theorem execHlRecLatch_rg {msk : Nat} {b₀ : State} {s : State} (h₀ : Rg msk b₀ s) (hm₀ : 65185151242703554760590262029100101153646988597309960020356494379340201592426774597868716032 ||| msk = msk) :
    RgO msk b₀ (execHlRecLatch s) := by
  refine RgO.step h₀ ?_ hm₀
  clear h₀ hm₀
  unfold execHlRecLatch
  try dsimp only
  repeat' (first
    | with_reducible exact Rg.refl _ _
    | exact (rfl : (_ : Nat) = _)
    | with_reducible refine State.emit_rg ?_ ?_
    | with_reducible refine State.latchHealth_rg ?_ ?_
    | with_reducible refine RgO.next ?_)

theorem State.wearPay_rg {msk : Nat} {b₀ : State} {s : State} (h₀ : Rg msk b₀ s) (hm₀ : 0 ||| msk = msk) :
    Rg msk b₀ (State.wearPay s) := by
  refine Rg.step h₀ ?_ hm₀
  clear h₀ hm₀
  unfold State.wearPay
  try dsimp only
  repeat' (first
    | with_reducible exact Rg.refl _ _
    | refine Rg.mk' ?_)

theorem State.patrolStep_rg {msk : Nat} {b₀ : State} {s : State} (h₀ : Rg msk b₀ s) (hm₀ : 21882222402030612365264760467109137563376164431515706806598158538025202751151856104245248 ||| msk = msk) :
    Rg msk b₀ (State.patrolStep s) := by
  refine Rg.step h₀ ?_ hm₀
  clear h₀ hm₀
  unfold State.patrolStep
  try dsimp only
  repeat' (first
    | with_reducible exact Rg.refl _ _
    | exact (rfl : (_ : Nat) = _)
    | with_reducible refine State.passStart_rg ?_ ?_
    | with_reducible refine State.setPatrol_rg ?_ ?_
    | with_reducible refine State.patrolIssues_rg ?_ ?_
    | with_reducible refine Rg.ite ?_ ?_)

theorem execPatrolPassStart_rg {msk : Nat} {b₀ : State} {s : State} (h₀ : Rg msk b₀ s) (hm₀ : 5967878836917439705864586977761850081205473809568172609285567722717913964150400506396672 ||| msk = msk) :
    RgO msk b₀ (execPatrolPassStart s) := by
  refine RgO.step h₀ ?_ hm₀
  clear h₀ hm₀
  unfold execPatrolPassStart
  try dsimp only
  repeat' (first
    | with_reducible exact Rg.refl _ _
    | exact (rfl : (_ : Nat) = _)
    | with_reducible refine State.passStart_rg ?_ ?_
    | with_reducible refine RgO.ite ?_ ?_
    | with_reducible refine RgO.next ?_)

theorem State.levelOk_rg {msk : Nat} {b₀ : State} {s : State} {m : Nat} {d : Nat} {bin : Nat} (h₀ : Rg msk b₀ s) (hm₀ : 0 ||| msk = msk) :
    Rg msk b₀ (State.levelOk s m d bin) := by
  refine Rg.step h₀ ?_ hm₀
  clear h₀ hm₀
  unfold State.levelOk
  try dsimp only
  repeat' (first
    | with_reducible exact Rg.refl _ _
    | exact (rfl : (_ : Nat) = _)
    | with_reducible refine State.setBin_rg ?_ ?_
    | with_reducible refine Rg.ite ?_ ?_)

theorem State.ageGroups_rg {msk : Nat} {b₀ : State} {s : State} (h₀ : Rg msk b₀ s) (hm₀ : 31828687130226345097944463881396533766429193651030253916189694521162207808802136034115616 ||| msk = msk) :
    Rg msk b₀ (State.ageGroups s) := by
  refine Rg.step h₀ ?_ hm₀
  clear h₀ hm₀
  unfold State.ageGroups
  try dsimp only
  repeat' (first
    | with_reducible exact Rg.refl _ _
    | with_reducible assumption
    | exact (rfl : (_ : Nat) = _)
    | with_reducible refine State.refreshCheck_rg ?_ ?_
    | with_reducible refine State.setBg_rg ?_ ?_
    | with_reducible refine Rg.foldl ?_ _ _ ?_
    | intro _ _ _)

theorem execPatrolPassEnd_rg {msk : Nat} {b₀ : State} {s : State} (h₀ : Rg msk b₀ s) (hm₀ : 96107167241834975113312584178489302142293605564759693426004588894417348831713575104676822111882046522732204883267112019860626617977696385847831254146589198112 ||| msk = msk) :
    RgO msk b₀ (execPatrolPassEnd s) := by
  refine RgO.step h₀ ?_ hm₀
  clear h₀ hm₀
  unfold execPatrolPassEnd
  try dsimp only
  repeat' (first
    | with_reducible exact Rg.refl _ _
    | exact (rfl : (_ : Nat) = _)
    | with_reducible refine State.setPatrol_rg ?_ ?_
    | with_reducible refine State.event_rg ?_ ?_
    | with_reducible refine State.raise_rg ?_ ?_
    | with_reducible refine State.count_rg ?_ ?_
    | with_reducible refine in_PAT_LATE ?_
    | exact (rfl : (_ : Bool) = _)
    | with_reducible refine RgO.ite ?_ ?_
    | with_reducible refine RgO.next ?_)

theorem execHourRollover_rg {msk : Nat} {b₀ : State} {s : State} (h₀ : Rg msk b₀ s) (hm₀ : 458903496577320155740900542629328593518208566154255769573563636620249540372892301971131794980896 ||| msk = msk) :
    RgO msk b₀ (execHourRollover s) := by
  refine RgO.step h₀ ?_ hm₀
  clear h₀ hm₀
  unfold execHourRollover
  try dsimp only
  repeat' (first
    | with_reducible exact Rg.refl _ _
    | with_reducible assumption
    | exact (rfl : (_ : Nat) = _)
    | with_reducible refine State.ageGroups_rg ?_ ?_
    | with_reducible refine State.wearHour_rg ?_ ?_
    | with_reducible refine State.healthUpdate_rg ?_ ?_
    | with_reducible refine RgO.ite ?_ ?_
    | with_reducible refine RgO.next ?_
    | with_reducible refine Rg.foldl ?_ _ _ ?_
    | intro _ _ _)

theorem execPatrolPace_rg {msk : Nat} {b₀ : State} {s : State} (h₀ : Rg msk b₀ s) (hm₀ : 0 ||| msk = msk) :
    RgO msk b₀ (execPatrolPace s) := by
  refine RgO.step h₀ ?_ hm₀
  clear h₀ hm₀
  unfold execPatrolPace
  try dsimp only
  repeat' (first
    | with_reducible exact Rg.refl _ _
    | exact (rfl : (_ : Nat) = _)
    | with_reducible refine State.setPatrol_rg ?_ ?_
    | with_reducible refine RgO.ite ?_ ?_
    | with_reducible refine RgO.next ?_)

end Sys2Proof.Machine
end

