-- ==== Sys2Proof/Laws/RgMcache.lean ====
section
/-! SUPPORT. Register frames of the operations of Machine.Mcache: the registers that each may write. -/

set_option maxRecDepth 20000
set_option Elab.async false
set_option linter.unusedTactic false
set_option linter.unreachableTactic false
set_option linter.unusedVariables false

namespace Sys2Proof.Machine

theorem State.mcShow_rg {msk : Nat} {b₀ : State} {s : State} (h₀ : Rg msk b₀ s) (hm₀ : 43661424626658339463576102264948461638586472500424845971312483630283953699575891769062096971122315133613704371828742769279500288 ||| msk = msk) :
    Rg msk b₀ (State.mcShow s) := by
  refine Rg.step h₀ ?_ hm₀
  clear h₀ hm₀
  unfold State.mcShow
  try dsimp only
  repeat' (first
    | with_reducible exact Rg.refl _ _
    | with_reducible refine State.wrN_rg ?_ ?_
    | with_reducible refine in_MC_DIRTY ?_
    | with_reducible refine in_MC_MSR_INUSE ?_
    | exact (rfl : (_ : Bool) = _))

theorem State.setMc_rg {msk : Nat} {b₀ : State} {s : State} {m : McSt} (h₀ : Rg msk b₀ s) (hm₀ : 0 ||| msk = msk) :
    Rg msk b₀ (State.setMc s m) := by
  refine Rg.step h₀ ?_ hm₀
  clear h₀ hm₀
  unfold State.setMc
  try dsimp only
  repeat' (first
    | with_reducible exact Rg.refl _ _
    | refine Rg.mk' ?_)

theorem State.mcWait_rg {msk : Nat} {b₀ : State} {s : State} {line : Nat} {i : McItem} (h₀ : Rg msk b₀ s) (hm₀ : 0 ||| msk = msk) :
    Rg msk b₀ (State.mcWait s line i) := by
  refine Rg.step h₀ ?_ hm₀
  clear h₀ hm₀
  unfold State.mcWait
  try dsimp only
  repeat' (first
    | with_reducible exact Rg.refl _ _
    | exact (rfl : (_ : Nat) = _)
    | with_reducible refine State.setMc_rg ?_ ?_)

theorem State.mcFull_rg {msk : Nat} {b₀ : State} {s : State} {line : Nat} {i : McItem} {again : Bool} (h₀ : Rg msk b₀ s) (hm₀ : 676921312041214565326761275425557544784286395355423968547480366360991530225982818124993751490268451683933401113623918903558144 ||| msk = msk) :
    Rg msk b₀ (State.mcFull s line i again) := by
  refine Rg.step h₀ ?_ hm₀
  clear h₀ hm₀
  unfold State.mcFull
  try dsimp only
  repeat' (first
    | with_reducible exact Rg.refl _ _
    | with_reducible assumption
    | exact (rfl : (_ : Nat) = _)
    | with_reducible refine State.mcWait_rg ?_ ?_
    | with_reducible refine State.setMc_rg ?_ ?_
    | with_reducible refine State.count_rg ?_ ?_
    | with_reducible refine in_MC_MSR_FULL ?_
    | with_reducible refine InSet.ite ?_ ?_
    | exact (rfl : (_ : Bool) = _)
    | dsimp only
    | with_reducible refine Rg.ite ?_ ?_
    | with_reducible refine Rg.ite₁ ?_ ?_
    | with_reducible refine RgS.ite ?_ ?_
    | with_reducible refine RgP.ite ?_ ?_
    | with_reducible exact RgS.none
    | with_reducible refine RgS.some ?_
    | with_reducible refine RgS.map ?_
    | with_reducible exact RgP.none
    | with_reducible refine RgP.some ?_
    | with_reducible refine Rg.elim ?_ ?_
    | with_reducible refine Rg.foldl ?_ _ _ ?_
    | with_reducible refine Rg.foldl₂ ?_ _ _ ?_
    | intro _ _ _ _ _ _
    | intro _ _ _ _ _
    | intro _ _ _ _
    | intro _ _ _
    | intro _ _
    | intro _
    | with_reducible refine Rg.pair (h := ?_) (e := by assumption)
    | with_reducible refine RgO.got (h := ?_) (e := by assumption)
    | with_reducible refine RgS.get (h := ?_) (e := by assumption)
    | with_reducible refine RgP.get (h := ?_) (e := by assumption)
    | split)

theorem State.setMiss_rg {msk : Nat} {b₀ : State} {s : State} {line : Nat} {m : McMiss} (h₀ : Rg msk b₀ s) (hm₀ : 0 ||| msk = msk) :
    Rg msk b₀ (State.setMiss s line m) := by
  refine Rg.step h₀ ?_ hm₀
  clear h₀ hm₀
  unfold State.setMiss
  try dsimp only
  repeat' (first
    | with_reducible exact Rg.refl _ _
    | exact (rfl : (_ : Nat) = _)
    | with_reducible refine State.setMc_rg ?_ ?_)

theorem State.evict_rg {msk : Nat} {b₀ : State} {s : State} {k : Nat} {l : McLine} (h₀ : Rg msk b₀ s) (hm₀ : 169230328010303641331690318856389386196071598838855992136870091590247882556495704531248437872567112920983350278405979725889536 ||| msk = msk) :
    Rg msk b₀ (State.evict s k l) := by
  refine Rg.step h₀ ?_ hm₀
  clear h₀ hm₀
  unfold State.evict
  try dsimp only
  repeat' (first
    | with_reducible exact Rg.refl _ _
    | exact (rfl : (_ : Nat) = _)
    | with_reducible refine State.setMc_rg ?_ ?_
    | with_reducible refine State.countBy_rg ?_ ?_
    | with_reducible refine in_MC_EVICT_DIRTY ?_
    | exact (rfl : (_ : Bool) = _))

theorem State.mcWay_rg {msk : Nat} {b₀ : State} {s : State} {line : Nat} (h₀ : Rg msk b₀ s) (hm₀ : 169230328010303641331690318856389386196071598838855992136870091590247882556495704531248437872567112920983350278405979725889536 ||| msk = msk) :
    Rg msk b₀ (State.mcWay s line).1 := by
  refine Rg.step h₀ ?_ hm₀
  clear h₀ hm₀
  unfold State.mcWay
  try dsimp only
  repeat' (first
    | with_reducible exact Rg.refl _ _
    | exact (rfl : (_ : Nat) = _)
    | with_reducible refine State.evict_rg ?_ ?_
    | with_reducible refine State.setMc_rg ?_ ?_
    | split)

theorem State.setLine_rg {msk : Nat} {b₀ : State} {s : State} {line : Nat} {l : McLine} (h₀ : Rg msk b₀ s) (hm₀ : 0 ||| msk = msk) :
    Rg msk b₀ (State.setLine s line l) := by
  refine Rg.step h₀ ?_ hm₀
  clear h₀ hm₀
  unfold State.setLine
  try dsimp only
  repeat' (first
    | with_reducible exact Rg.refl _ _
    | exact (rfl : (_ : Nat) = _)
    | with_reducible refine State.setMc_rg ?_ ?_)

theorem State.mcMiss_rg {msk : Nat} {b₀ : State} {s : State} {line : Nat} {i : McItem} {again : Bool} (h₀ : Rg msk b₀ s) (hm₀ : 994228177060533892823680623281287643901920643178278953804111788092706310019412264121084572501331788410777182885635130889601024 ||| msk = msk) :
    Rg msk b₀ (State.mcMiss s line i again) := by
  refine Rg.step h₀ ?_ hm₀
  clear h₀ hm₀
  unfold State.mcMiss
  try dsimp only
  repeat' (first
    | with_reducible exact Rg.refl _ _
    | exact (rfl : (_ : Nat) = _)
    | with_reducible refine State.mcWait_rg ?_ ?_
    | with_reducible refine State.mcFull_rg ?_ ?_
    | with_reducible refine State.countBy_rg ?_ ?_
    | with_reducible refine State.count_rg ?_ ?_
    | with_reducible refine State.setMiss_rg ?_ ?_
    | with_reducible refine State.mcWay_rg ?_ ?_
    | with_reducible refine State.setLine_rg ?_ ?_
    | with_reducible refine in_MC_MERGES ?_
    | with_reducible refine in_MC_MISSES ?_
    | with_reducible refine in_MC_SECTOR_FILLS ?_
    | exact (rfl : (_ : Bool) = _)
    | with_reducible refine Rg.ite ?_ ?_
    | with_reducible refine Rg.pair (h := ?_) (e := by assumption)
    | split)

theorem State.mcAccess_rg {msk : Nat} {b₀ : State} {s : State} {line : Nat} {i : McItem} {again : Bool} (h₀ : Rg msk b₀ s) (hm₀ : 2358647696643607001060433819060927070107747908816555390407626901539079863131158881904275102848904136336205444505283342429585408 ||| msk = msk) :
    Rg msk b₀ (State.mcAccess s line i again) := by
  refine Rg.step h₀ ?_ hm₀
  clear h₀ hm₀
  unfold State.mcAccess
  try dsimp only
  repeat' (first
    | with_reducible exact Rg.refl _ _
    | exact (rfl : (_ : Nat) = _)
    | with_reducible refine State.mcWait_rg ?_ ?_
    | with_reducible refine State.count_rg ?_ ?_
    | with_reducible refine State.mcMiss_rg ?_ ?_
    | with_reducible refine State.setLine_rg ?_ ?_
    | with_reducible refine State.setMiss_rg ?_ ?_
    | with_reducible refine in_MC_EVICT_WAITS ?_
    | with_reducible refine in_MC_HITS ?_
    | exact (rfl : (_ : Bool) = _)
    | with_reducible refine Rg.ite ?_ ?_
    | split)

theorem State.sramCe_rg {msk : Nat} {b₀ : State} {s : State} (h₀ : Rg msk b₀ s) (hm₀ : 96107167241834975113312584178575948070234881029121518869259060260149673832944808919960703709848490645533597825599809159543548600404197536774757511494176409376 ||| msk = msk) :
    Rg msk b₀ (State.sramCe s) := by
  refine Rg.step h₀ ?_ hm₀
  clear h₀ hm₀
  unfold State.sramCe
  try dsimp only
  repeat' (first
    | with_reducible exact Rg.refl _ _
    | exact (rfl : (_ : Nat) = _)
    | with_reducible refine State.raise_rg ?_ ?_
    | with_reducible refine State.count_rg ?_ ?_
    | with_reducible refine in_MC_SRAM_CE ?_
    | exact (rfl : (_ : Bool) = _))

theorem State.sramUe_rg {msk : Nat} {b₀ : State} {s : State} {line : Nat} {injected : Bool} (h₀ : Rg msk b₀ s) (hm₀ : 96107167241834975113312584178489302142293605564759693426004588894417285174339314651986626222954283729664672024879809959352794238588654061432213649874520966944 ||| msk = msk) :
    Rg msk b₀ (State.sramUe s line injected) := by
  refine Rg.step h₀ ?_ hm₀
  clear h₀ hm₀
  unfold State.sramUe
  try dsimp only
  repeat' (first
    | with_reducible exact Rg.refl _ _
    | exact (rfl : (_ : Nat) = _)
    | with_reducible refine State.raise_rg ?_ ?_
    | with_reducible refine State.setMc_rg ?_ ?_)

theorem State.mcTouch_rg {msk : Nat} {b₀ : State} {s0 : State} {line : Nat} {mask : Nat} {write : Bool} {whole : Bool} {ecc : Nat} (h₀ : Rg msk b₀ s0) (hm₀ : 96107167241834975113312584178621968142558182975586155405343069648858368053354050321322423820380313679096304876250775531617519819674147446591091537605885497120 ||| msk = msk) :
    Rg msk b₀ (State.mcTouch s0 line mask write whole ecc) := by
  refine Rg.step h₀ ?_ hm₀
  clear h₀ hm₀
  unfold State.mcTouch
  try dsimp only
  repeat' (first
    | with_reducible exact Rg.refl _ _
    | with_reducible assumption
    | exact (rfl : (_ : Nat) = _)
    | with_reducible refine State.operate_rg ?_ ?_
    | with_reducible refine State.mcShow_rg ?_ ?_
    | with_reducible refine State.mcAccess_rg ?_ ?_
    | with_reducible refine State.inject_rg ?_ ?_
    | with_reducible refine State.sramCe_rg ?_ ?_
    | with_reducible refine State.mcWait_rg ?_ ?_
    | with_reducible refine State.sramUe_rg ?_ ?_
    | with_reducible refine State.mcMiss_rg ?_ ?_
    | with_reducible refine State.setLine_rg ?_ ?_
    | dsimp only
    | with_reducible refine Rg.ite ?_ ?_
    | with_reducible refine Rg.ite₁ ?_ ?_
    | with_reducible refine RgS.ite ?_ ?_
    | with_reducible refine RgP.ite ?_ ?_
    | with_reducible exact RgS.none
    | with_reducible refine RgS.some ?_
    | with_reducible refine RgS.map ?_
    | with_reducible exact RgP.none
    | with_reducible refine RgP.some ?_
    | with_reducible refine Rg.elim ?_ ?_
    | with_reducible refine Rg.foldl ?_ _ _ ?_
    | with_reducible refine Rg.foldl₂ ?_ _ _ ?_
    | intro _ _ _ _ _ _
    | intro _ _ _ _ _
    | intro _ _ _ _
    | intro _ _ _
    | intro _ _
    | intro _
    | with_reducible refine Rg.pair (h := ?_) (e := by assumption)
    | with_reducible refine RgO.got (h := ?_) (e := by assumption)
    | with_reducible refine RgS.get (h := ?_) (e := by assumption)
    | with_reducible refine RgP.get (h := ?_) (e := by assumption)
    | split)

theorem State.mcOpLine_rg {msk : Nat} {b₀ : State} {s : State} {o : McOp} {line : Nat} {again : Bool} (h₀ : Rg msk b₀ s) (hm₀ : 22338403297360080655783122089043398977881451046728990962066852089912720497457432998124793799178858905569802236749589323817418752 ||| msk = msk) :
    Rg msk b₀ (State.mcOpLine s o line again) := by
  refine Rg.step h₀ ?_ hm₀
  clear h₀ hm₀
  unfold State.mcOpLine
  try dsimp only
  repeat' (first
    | with_reducible exact Rg.refl _ _
    | with_reducible assumption
    | exact (rfl : (_ : Nat) = _)
    | with_reducible refine State.setMc_rg ?_ ?_
    | with_reducible refine State.mcWait_rg ?_ ?_
    | with_reducible refine State.mcFull_rg ?_ ?_
    | with_reducible refine State.putBit_rg ?_ ?_
    | with_reducible refine State.setMiss_rg ?_ ?_
    | with_reducible refine State.setLine_rg ?_ ?_
    | with_reducible refine in_MC_OP_STATUS ?_
    | with_reducible refine InSet.ite ?_ ?_
    | exact (rfl : (_ : Bool) = _)
    | dsimp only
    | with_reducible refine Rg.ite ?_ ?_
    | with_reducible refine Rg.ite₁ ?_ ?_
    | with_reducible refine RgS.ite ?_ ?_
    | with_reducible refine RgP.ite ?_ ?_
    | with_reducible exact RgS.none
    | with_reducible refine RgS.some ?_
    | with_reducible refine RgS.map ?_
    | with_reducible exact RgP.none
    | with_reducible refine RgP.some ?_
    | with_reducible refine Rg.elim ?_ ?_
    | with_reducible refine Rg.foldl ?_ _ _ ?_
    | with_reducible refine Rg.foldl₂ ?_ _ _ ?_
    | intro _ _ _ _ _ _
    | intro _ _ _ _ _
    | intro _ _ _ _
    | intro _ _ _
    | intro _ _
    | intro _
    | with_reducible refine Rg.pair (h := ?_) (e := by assumption)
    | with_reducible refine RgO.got (h := ?_) (e := by assumption)
    | with_reducible refine RgS.get (h := ?_) (e := by assumption)
    | with_reducible refine RgP.get (h := ?_) (e := by assumption)
    | split)

theorem State.mcAgain_rg {msk : Nat} {b₀ : State} {s : State} {line : Nat} {i : McItem} (h₀ : Rg msk b₀ s) (hm₀ : 24020129681962473091516794632678768503204912560190122383926998625090808830362609061904075150537494590222074280141248747343446016 ||| msk = msk) :
    Rg msk b₀ (State.mcAgain s line i) := by
  refine Rg.step h₀ ?_ hm₀
  clear h₀ hm₀
  unfold State.mcAgain
  try dsimp only
  repeat' (first
    | with_reducible exact Rg.refl _ _
    | with_reducible assumption
    | exact (rfl : (_ : Nat) = _)
    | with_reducible refine State.mcOpLine_rg ?_ ?_
    | with_reducible refine State.mcAccess_rg ?_ ?_
    | dsimp only
    | with_reducible refine Rg.ite ?_ ?_
    | with_reducible refine Rg.ite₁ ?_ ?_
    | with_reducible refine RgS.ite ?_ ?_
    | with_reducible refine RgP.ite ?_ ?_
    | with_reducible exact RgS.none
    | with_reducible refine RgS.some ?_
    | with_reducible refine RgS.map ?_
    | with_reducible exact RgP.none
    | with_reducible refine RgP.some ?_
    | with_reducible refine Rg.elim ?_ ?_
    | with_reducible refine Rg.foldl ?_ _ _ ?_
    | with_reducible refine Rg.foldl₂ ?_ _ _ ?_
    | intro _ _ _ _ _ _
    | intro _ _ _ _ _
    | intro _ _ _ _
    | intro _ _ _
    | intro _ _
    | intro _
    | with_reducible refine Rg.pair (h := ?_) (e := by assumption)
    | with_reducible refine RgO.got (h := ?_) (e := by assumption)
    | with_reducible refine RgS.get (h := ?_) (e := by assumption)
    | with_reducible refine RgP.get (h := ?_) (e := by assumption)
    | split)

theorem State.mcServe_rg {msk : Nat} {b₀ : State} {s : State} {line : Nat} (h₀ : Rg msk b₀ s) (hm₀ : 24020129681962473091516794632678768503204912560190122383926998625090808830362609061904075150537494590222074280141248747343446016 ||| msk = msk) :
    Rg msk b₀ (State.mcServe s line) := by
  refine Rg.step h₀ ?_ hm₀
  clear h₀ hm₀
  unfold State.mcServe
  try dsimp only
  repeat' (first
    | with_reducible exact Rg.refl _ _
    | with_reducible assumption
    | exact (rfl : (_ : Nat) = _)
    | with_reducible refine State.setMc_rg ?_ ?_
    | with_reducible refine State.putBit_rg ?_ ?_
    | with_reducible refine State.mcAgain_rg ?_ ?_
    | with_reducible refine in_MC_OP_STATUS ?_
    | with_reducible refine InSet.ite ?_ ?_
    | exact (rfl : (_ : Bool) = _)
    | dsimp only
    | with_reducible refine Rg.ite ?_ ?_
    | with_reducible refine Rg.ite₁ ?_ ?_
    | with_reducible refine RgS.ite ?_ ?_
    | with_reducible refine RgP.ite ?_ ?_
    | with_reducible exact RgS.none
    | with_reducible refine RgS.some ?_
    | with_reducible refine RgS.map ?_
    | with_reducible exact RgP.none
    | with_reducible refine RgP.some ?_
    | with_reducible refine Rg.elim ?_ ?_
    | with_reducible refine Rg.foldl ?_ _ _ ?_
    | with_reducible refine Rg.foldl₂ ?_ _ _ ?_
    | intro _ _ _ _ _ _
    | intro _ _ _ _ _
    | intro _ _ _ _
    | intro _ _ _
    | intro _ _
    | intro _
    | with_reducible refine Rg.pair (h := ?_) (e := by assumption)
    | with_reducible refine RgO.got (h := ?_) (e := by assumption)
    | with_reducible refine RgS.get (h := ?_) (e := by assumption)
    | with_reducible refine RgP.get (h := ?_) (e := by assumption)
    | split)

theorem State.mcOp_rg {msk : Nat} {b₀ : State} {s : State} {o : McOp} {lo : Nat} {n : Nat} {inside : Bool} (h₀ : Rg msk b₀ s) (hm₀ : 96107167241834975113312584178555301970217623984879052650358580755033753097886468488920005558674480403861705349646996850123095412627837568040791981967617885984 ||| msk = msk) :
    Rg msk b₀ (State.mcOp s o lo n inside) := by
  refine Rg.step h₀ ?_ hm₀
  clear h₀ hm₀
  unfold State.mcOp
  try dsimp only
  repeat' (first
    | with_reducible exact Rg.refl _ _
    | with_reducible assumption
    | exact (rfl : (_ : Nat) = _)
    | with_reducible refine State.writeDiscarded_rg ?_ ?_
    | with_reducible refine State.event_rg ?_ ?_
    | with_reducible refine State.wrN_rg ?_ ?_
    | with_reducible refine State.setMc_rg ?_ ?_
    | with_reducible refine State.mcShow_rg ?_ ?_
    | with_reducible refine State.mcOpLine_rg ?_ ?_
    | with_reducible refine in_MC_OP_STATUS ?_
    | with_reducible refine InSet.ite ?_ ?_
    | exact (rfl : (_ : Bool) = _)
    | dsimp only
    | with_reducible refine Rg.ite ?_ ?_
    | with_reducible refine Rg.ite₁ ?_ ?_
    | with_reducible refine RgS.ite ?_ ?_
    | with_reducible refine RgP.ite ?_ ?_
    | with_reducible exact RgS.none
    | with_reducible refine RgS.some ?_
    | with_reducible refine RgS.map ?_
    | with_reducible exact RgP.none
    | with_reducible refine RgP.some ?_
    | with_reducible refine Rg.elim ?_ ?_
    | with_reducible refine Rg.foldl ?_ _ _ ?_
    | with_reducible refine Rg.foldl₂ ?_ _ _ ?_
    | intro _ _ _ _ _ _
    | intro _ _ _ _ _
    | intro _ _ _ _
    | intro _ _ _
    | intro _ _
    | intro _
    | with_reducible refine Rg.pair (h := ?_) (e := by assumption)
    | with_reducible refine RgO.got (h := ?_) (e := by assumption)
    | with_reducible refine RgS.get (h := ?_) (e := by assumption)
    | with_reducible refine RgP.get (h := ?_) (e := by assumption)
    | split)

theorem execMcCleanAll_rg {msk : Nat} {b₀ : State} {s : State} (h₀ : Rg msk b₀ s) (hm₀ : 96107167241834975113312584178555301970217623984879052650358580755033753097886468488920005558674480403861705349646996850123095412627837568040791981967617885984 ||| msk = msk) :
    RgO msk b₀ (execMcCleanAll s) := by
  refine RgO.step h₀ ?_ hm₀
  clear h₀ hm₀
  unfold execMcCleanAll
  try dsimp only
  repeat' (first
    | with_reducible exact Rg.refl _ _
    | exact (rfl : (_ : Nat) = _)
    | with_reducible refine State.mcOp_rg ?_ ?_
    | with_reducible refine RgO.next ?_)

theorem execMcacheFillDone_rg {msk : Nat} {b₀ : State} {line : Nat} {poisoned : Bool} {s : State} (h₀ : Rg msk b₀ s) (hm₀ : 96107167241834975113312584178556983696602226377314786322902216124559076559399929620341865705209658492194610525710776131474454048312489840084183641391143913248 ||| msk = msk) :
    RgO msk b₀ (execMcacheFillDone line poisoned s) := by
  refine RgO.step h₀ ?_ hm₀
  clear h₀ hm₀
  unfold execMcacheFillDone
  try dsimp only
  repeat' (first
    | with_reducible exact Rg.refl _ _
    | exact (rfl : (_ : Nat) = _)
    | with_reducible refine State.mcShow_rg ?_ ?_
    | with_reducible refine State.sramUe_rg ?_ ?_
    | with_reducible refine State.mcServe_rg ?_ ?_
    | with_reducible refine Rg.ite ?_ ?_
    | with_reducible refine RgO.next ?_)

theorem execMcInvalidate_rg {msk : Nat} {b₀ : State} {s : State} (h₀ : Rg msk b₀ s) (hm₀ : 96107167241834975113312584178510963624278924430850149786818206735850382338990688218980145594677835458631903475059809759400482829042539930267849615279434827552 ||| msk = msk) :
    RgO msk b₀ (execMcInvalidate s) := by
  refine RgO.step h₀ ?_ hm₀
  clear h₀ hm₀
  unfold execMcInvalidate
  try dsimp only
  repeat' (first
    | with_reducible exact Rg.refl _ _
    | exact (rfl : (_ : Nat) = _)
    | with_reducible refine State.writeDiscarded_rg ?_ ?_
    | with_reducible refine State.raise_rg ?_ ?_
    | with_reducible refine State.event_rg ?_ ?_
    | with_reducible refine State.wrN_rg ?_ ?_
    | with_reducible refine in_MC_OP_STATUS ?_
    | exact (rfl : (_ : Bool) = _)
    | with_reducible refine Rg.ite ?_ ?_
    | with_reducible refine RgO.next ?_)

theorem execMcClean_rg {msk : Nat} {b₀ : State} {inside : Bool} {s : State} (h₀ : Rg msk b₀ s) (hm₀ : 96107167241834975113312584178555301970217623984879052650358580755033753097886468488920005558674480403861705349646996850123095412627837568040791981967617885984 ||| msk = msk) :
    RgO msk b₀ (execMcClean inside s) := by
  refine RgO.step h₀ ?_ hm₀
  clear h₀ hm₀
  unfold execMcClean
  try dsimp only
  repeat' (first
    | with_reducible exact Rg.refl _ _
    | exact (rfl : (_ : Nat) = _)
    | with_reducible refine State.mcOp_rg ?_ ?_
    | with_reducible refine RgO.next ?_)

theorem execMcFlush_rg {msk : Nat} {b₀ : State} {inside : Bool} {s : State} (h₀ : Rg msk b₀ s) (hm₀ : 96107167241834975113312584178555301970217623984879052650358580755033753097886468488920005558674480403861705349646996850123095412627837568040791981967617885984 ||| msk = msk) :
    RgO msk b₀ (execMcFlush inside s) := by
  refine RgO.step h₀ ?_ hm₀
  clear h₀ hm₀
  unfold execMcFlush
  try dsimp only
  repeat' (first
    | with_reducible exact Rg.refl _ _
    | exact (rfl : (_ : Nat) = _)
    | with_reducible refine State.mcOp_rg ?_ ?_
    | with_reducible refine RgO.next ?_)

theorem execMcacheAccess_rg {msk : Nat} {b₀ : State} {line : Nat} {mask : Nat} {write : Bool} {whole : Bool} {ecc : Nat} {s : State} (h₀ : Rg msk b₀ s) (hm₀ : 96107167241834975113312584178621968142558182975586155405343069648858368053354050321322423820380313679096304876250775531617519819674147446591091537605885497120 ||| msk = msk) :
    RgO msk b₀ (execMcacheAccess line mask write whole ecc s) := by
  refine RgO.step h₀ ?_ hm₀
  clear h₀ hm₀
  unfold execMcacheAccess
  try dsimp only
  repeat' (first
    | with_reducible exact Rg.refl _ _
    | with_reducible assumption
    | exact (rfl : (_ : Nat) = _)
    | with_reducible refine State.mcTouch_rg ?_ ?_
    | dsimp only
    | with_reducible refine Rg.ite ?_ ?_
    | with_reducible refine Rg.ite₁ ?_ ?_
    | with_reducible refine RgO.ite ?_ ?_
    | with_reducible refine RgS.ite ?_ ?_
    | with_reducible refine RgP.ite ?_ ?_
    | with_reducible refine RgO.next ?_
    | with_reducible exact RgS.none
    | with_reducible refine RgS.some ?_
    | with_reducible refine RgS.map ?_
    | with_reducible exact RgP.none
    | with_reducible refine RgP.some ?_
    | with_reducible refine Rg.elim ?_ ?_
    | with_reducible refine Rg.foldl ?_ _ _ ?_
    | with_reducible refine Rg.foldl₂ ?_ _ _ ?_
    | intro _ _ _ _ _ _
    | intro _ _ _ _ _
    | intro _ _ _ _
    | intro _ _ _
    | intro _ _
    | intro _
    | with_reducible refine Rg.pair (h := ?_) (e := by assumption)
    | with_reducible refine RgO.got (h := ?_) (e := by assumption)
    | with_reducible refine RgS.get (h := ?_) (e := by assumption)
    | with_reducible refine RgP.get (h := ?_) (e := by assumption)
    | split)

theorem State.mcCommit_rg {msk : Nat} {b₀ : State} {s : State} (h₀ : Rg msk b₀ s) (hm₀ : 67681554308620812555092896897627230141791385060614968355239482255374762529938500830966172121659809723835778651969991516622946336 ||| msk = msk) :
    Rg msk b₀ (State.mcCommit s) := by
  refine Rg.step h₀ ?_ hm₀
  clear h₀ hm₀
  unfold State.mcCommit
  try dsimp only
  repeat' (first
    | with_reducible exact Rg.refl _ _
    | with_reducible assumption
    | exact (rfl : (_ : Nat) = _)
    | with_reducible refine State.event_rg ?_ ?_
    | with_reducible refine State.setMc_rg ?_ ?_
    | with_reducible refine State.mcShow_rg ?_ ?_
    | with_reducible refine State.mcAgain_rg ?_ ?_
    | dsimp only
    | with_reducible refine Rg.ite ?_ ?_
    | with_reducible refine Rg.ite₁ ?_ ?_
    | with_reducible refine RgS.ite ?_ ?_
    | with_reducible refine RgP.ite ?_ ?_
    | with_reducible exact RgS.none
    | with_reducible refine RgS.some ?_
    | with_reducible refine RgS.map ?_
    | with_reducible exact RgP.none
    | with_reducible refine RgP.some ?_
    | with_reducible refine Rg.elim ?_ ?_
    | with_reducible refine Rg.foldl ?_ _ _ ?_
    | with_reducible refine Rg.foldl₂ ?_ _ _ ?_
    | intro _ _ _ _ _ _
    | intro _ _ _ _ _
    | intro _ _ _ _
    | intro _ _ _
    | intro _ _
    | intro _
    | with_reducible refine Rg.pair (h := ?_) (e := by assumption)
    | with_reducible refine RgO.got (h := ?_) (e := by assumption)
    | with_reducible refine RgS.get (h := ?_) (e := by assumption)
    | with_reducible refine RgP.get (h := ?_) (e := by assumption)
    | split)

theorem execObjectRebuild_rg {msk : Nat} {b₀ : State} {line : Nat} {ok : Bool} {s : State} (h₀ : Rg msk b₀ s) (hm₀ : 96107167241834975113312584178730275552484777306038437209411158856023853876610918156290020678998072323932462127150774531855962771943576790769271364630454798112 ||| msk = msk) :
    RgO msk b₀ (execObjectRebuild line ok s) := by
  refine RgO.step h₀ ?_ hm₀
  clear h₀ hm₀
  unfold execObjectRebuild
  try dsimp only
  repeat' (first
    | with_reducible exact Rg.refl _ _
    | with_reducible assumption
    | exact (rfl : (_ : Nat) = _)
    | with_reducible refine State.raise_rg ?_ ?_
    | with_reducible refine State.setMc_rg ?_ ?_
    | with_reducible refine State.event_rg ?_ ?_
    | with_reducible refine State.count_rg ?_ ?_
    | with_reducible refine State.mcShow_rg ?_ ?_
    | with_reducible refine State.mcServe_rg ?_ ?_
    | with_reducible refine State.mcAgain_rg ?_ ?_
    | with_reducible refine in_MC_REBUILDS ?_
    | with_reducible refine InSet.ite ?_ ?_
    | exact (rfl : (_ : Bool) = _)
    | dsimp only
    | with_reducible refine Rg.ite ?_ ?_
    | with_reducible refine Rg.ite₁ ?_ ?_
    | with_reducible refine RgO.ite ?_ ?_
    | with_reducible refine RgS.ite ?_ ?_
    | with_reducible refine RgP.ite ?_ ?_
    | with_reducible refine RgO.next ?_
    | with_reducible exact RgS.none
    | with_reducible refine RgS.some ?_
    | with_reducible refine RgS.map ?_
    | with_reducible exact RgP.none
    | with_reducible refine RgP.some ?_
    | with_reducible refine Rg.elim ?_ ?_
    | with_reducible refine Rg.foldl ?_ _ _ ?_
    | with_reducible refine Rg.foldl₂ ?_ _ _ ?_
    | intro _ _ _ _ _ _
    | intro _ _ _ _ _
    | intro _ _ _ _
    | intro _ _ _
    | intro _ _
    | intro _
    | with_reducible refine Rg.pair (h := ?_) (e := by assumption)
    | with_reducible refine RgO.got (h := ?_) (e := by assumption)
    | with_reducible refine RgS.get (h := ?_) (e := by assumption)
    | with_reducible refine RgP.get (h := ?_) (e := by assumption)
    | split)

theorem execMcOpDone_rg {msk : Nat} {b₀ : State} {s : State} (h₀ : Rg msk b₀ s) (hm₀ : 21661481985318866090456360813617841433097164651373566993519371723551728967231450179999800047688590453885868835635965404913860640 ||| msk = msk) :
    RgO msk b₀ (execMcOpDone s) := by
  refine RgO.step h₀ ?_ hm₀
  clear h₀ hm₀
  unfold execMcOpDone
  try dsimp only
  repeat' (first
    | with_reducible exact Rg.refl _ _
    | exact (rfl : (_ : Nat) = _)
    | with_reducible refine State.event_rg ?_ ?_
    | with_reducible refine State.wrN_rg ?_ ?_
    | with_reducible refine in_MC_OP_STATUS ?_
    | exact (rfl : (_ : Bool) = _)
    | with_reducible refine Rg.ite ?_ ?_
    | with_reducible refine RgO.next ?_)

end Sys2Proof.Machine
end

