-- ==== Sys2Proof/Laws/RgMerge.lean ====
section
/-! SUPPORT. Register frames of the operations of Machine.Merge: the registers that each may write. -/

set_option maxRecDepth 20000
set_option Elab.async false
set_option linter.unusedTactic false
set_option linter.unreachableTactic false
set_option linter.unusedVariables false

namespace Sys2Proof.Machine

theorem State.mergeMay_rg {msk : Nat} {b₀ : State} {s : State} {pool : Nat} (h₀ : Rg msk b₀ s) (hm₀ : 0 ||| msk = msk) :
    Rg msk b₀ (State.mergeMay s pool).1 := by
  refine Rg.step h₀ ?_ hm₀
  clear h₀ hm₀
  unfold State.mergeMay
  try dsimp only
  repeat' (first
    | with_reducible exact Rg.refl _ _
    | exact (rfl : (_ : Nat) = _)
    | with_reducible refine State.standing_rg ?_ ?_
    | with_reducible refine Rg.ite₁ ?_ ?_)

theorem State.tierPut_rg {msk : Nat} {b₀ : State} {s : State} {pool : Nat} {y : DdRec} (h₀ : Rg msk b₀ s) (hm₀ : 0 ||| msk = msk) :
    Rg msk b₀ (State.tierPut s pool y) := by
  refine Rg.step h₀ ?_ hm₀
  clear h₀ hm₀
  unfold State.tierPut
  try dsimp only
  repeat' (first
    | with_reducible exact Rg.refl _ _
    | refine Rg.mk' ?_)

theorem State.mergeOne_rg {msk : Nat} {b₀ : State} {s : State} {pool : Nat} {y : DdRec} (h₀ : Rg msk b₀ s) (hm₀ : 2468256835981809063232453773836025757474103798450369795022913568 ||| msk = msk) :
    Rg msk b₀ (State.mergeOne s pool y) := by
  refine Rg.step h₀ ?_ hm₀
  clear h₀ hm₀
  unfold State.mergeOne
  try dsimp only
  repeat' (first
    | with_reducible exact Rg.refl _ _
    | exact (rfl : (_ : Nat) = _)
    | with_reducible refine State.tierPut_rg ?_ ?_
    | with_reducible refine State.event_rg ?_ ?_
    | with_reducible refine State.count_rg ?_ ?_
    | with_reducible refine State.addTxn_rg ?_ ?_
    | with_reducible refine in_DD_MERGED ?_
    | with_reducible refine in_DD_VERIFY_MISMATCH ?_
    | exact (rfl : (_ : Bool) = _)
    | with_reducible refine Rg.ite ?_ ?_
    | split)

theorem execDedupMergeStep_rg {msk : Nat} {b₀ : State} {pool : Nat} {s : State} (h₀ : Rg msk b₀ s) (hm₀ : 2468256835981809063232453773836025757474103798450369795022913568 ||| msk = msk) :
    RgO msk b₀ (execDedupMergeStep pool s) := by
  refine RgO.step h₀ ?_ hm₀
  clear h₀ hm₀
  unfold execDedupMergeStep
  try dsimp only
  repeat' (first
    | with_reducible exact Rg.refl _ _
    | with_reducible assumption
    | exact (rfl : (_ : Nat) = _)
    | with_reducible refine State.mergeMay_rg ?_ ?_
    | with_reducible refine State.mergeOne_rg ?_ ?_
    | with_reducible refine RgO.next ?_
    | with_reducible refine Rg.foldl ?_ _ _ ?_
    | intro _ _ _
    | with_reducible refine Rg.pair (h := ?_) (e := by assumption)
    | split
    | refine Rg.mk' ?_)

theorem execHotTierSweep_rg {msk : Nat} {b₀ : State} {s : State} (h₀ : Rg msk b₀ s) (hm₀ : 0 ||| msk = msk) :
    RgO msk b₀ (execHotTierSweep s) := by
  refine RgO.step h₀ ?_ hm₀
  clear h₀ hm₀
  unfold execHotTierSweep
  try dsimp only
  repeat' (first
    | with_reducible exact Rg.refl _ _
    | with_reducible refine RgO.next ?_
    | refine Rg.mk' ?_)

end Sys2Proof.Machine
end

