-- ==== Sys2Proof/Laws/RgRead.lean ====
section
/-! SUPPORT. Register frames of the operations of Machine.Read: the registers that each may write. -/

set_option maxRecDepth 20000
set_option Elab.async false
set_option linter.unusedTactic false
set_option linter.unreachableTactic false
set_option linter.unusedVariables false

namespace Sys2Proof.Machine

theorem State.setRdGrain_rg {msk : Nat} {b₀ : State} {s : State} {n : Nat} {i : Nat} {g : RdGrain} (h₀ : Rg msk b₀ s) (hm₀ : 0 ||| msk = msk) :
    Rg msk b₀ (State.setRdGrain s n i g) := by
  refine Rg.step h₀ ?_ hm₀
  clear h₀ hm₀
  unfold State.setRdGrain
  try dsimp only
  repeat' (first
    | with_reducible exact Rg.refl _ _
    | exact (rfl : (_ : Nat) = _)
    | with_reducible refine State.setCmd_rg ?_ ?_
    | split)

theorem State.resumeDie_rg {msk : Nat} {b₀ : State} {s : State} {port : Nat} {m : Nat} {d : Nat} (h₀ : Rg msk b₀ s) (hm₀ : 110427941548649020598956093796432407239217743554726184882600387580790784 ||| msk = msk) :
    Rg msk b₀ (State.resumeDie s port m d) := by
  refine Rg.step h₀ ?_ hm₀
  clear h₀ hm₀
  unfold State.resumeDie
  try dsimp only
  repeat' (first
    | with_reducible exact Rg.refl _ _
    | exact (rfl : (_ : Nat) = _)
    | with_reducible refine State.sendMod_rg ?_ ?_
    | with_reducible refine State.setDie_rg ?_ ?_
    | with_reducible refine Rg.ite ?_ ?_)

theorem State.readAnswer_rg {msk : Nat} {b₀ : State} {s : State} {port : Nat} {m : Nat} {c : ModCmd} {n : Nat} {i : Nat} {ok : Bool} {media : Bool} {r : DecodeReport} (h₀ : Rg msk b₀ s) (hm₀ : 96107167241834975113312584178489302142293605564759693426004588894417324960224787361179007721117161142609831815017421835580094663467474863166256334956434362144 ||| msk = msk) :
    Rg msk b₀ (State.readAnswer s port m c n i ok media r) := by
  refine Rg.step h₀ ?_ hm₀
  clear h₀ hm₀
  unfold State.readAnswer
  try dsimp only
  repeat' (first
    | with_reducible exact Rg.refl _ _
    | with_reducible assumption
    | exact (rfl : (_ : Nat) = _)
    | with_reducible refine State.inject_rg ?_ ?_
    | with_reducible refine State.report_rg ?_ ?_
    | with_reducible refine State.noteFail_rg ?_ ?_
    | with_reducible refine State.setRdGrain_rg ?_ ?_
    | with_reducible refine State.resumeDie_rg ?_ ?_
    | dsimp only
    | with_reducible refine Rg.ite ?_ ?_
    | with_reducible refine Rg.ite₁ ?_ ?_
    | with_reducible refine RgS.ite ?_ ?_
    | with_reducible refine RgP.ite ?_ ?_
    | with_reducible exact RgS.none
    | with_reducible refine RgS.some ?_
    | with_reducible refine RgS.map ?_
    | with_reducible exact RgP.none
    | with_reducible refine RgP.some ?_
    | with_reducible refine Rg.elim ?_ ?_
    | with_reducible refine Rg.foldl ?_ _ _ ?_
    | with_reducible refine Rg.foldl₂ ?_ _ _ ?_
    | intro _ _ _ _ _ _
    | intro _ _ _ _ _
    | intro _ _ _ _
    | intro _ _ _
    | intro _ _
    | intro _
    | with_reducible refine Rg.pair (h := ?_) (e := by assumption)
    | with_reducible refine RgO.got (h := ?_) (e := by assumption)
    | with_reducible refine RgS.get (h := ?_) (e := by assumption)
    | with_reducible refine RgP.get (h := ?_) (e := by assumption)
    | split)

theorem State.sendRead_rg {msk : Nat} {b₀ : State} {s : State} {n : Nat} {i : Nat} {pool : Nat} {a : Nat} {page : Nat} {shift : Int} {x : Place} (h₀ : Rg msk b₀ s) (hm₀ : 110427941548649020598956093796432407239217743554726184882600387580790784 ||| msk = msk) :
    Rg msk b₀ (State.sendRead s n i pool a page shift x) := by
  refine Rg.step h₀ ?_ hm₀
  clear h₀ hm₀
  unfold State.sendRead
  try dsimp only
  repeat' (first
    | with_reducible exact Rg.refl _ _
    | exact (rfl : (_ : Nat) = _)
    | with_reducible refine State.sendMod_rg ?_ ?_)

theorem State.reconRead_rg {msk : Nat} {b₀ : State} {s : State} {n : Nat} {i : Nat} {g : RdGrain} {sg : Seg} {r : Recon} {ks : List Nat} (h₀ : Rg msk b₀ s) (hm₀ : 110427941548649020598956093796432407239217743554726184882600387580790784 ||| msk = msk) :
    Rg msk b₀ (State.reconRead s n i g sg r ks) := by
  refine Rg.step h₀ ?_ hm₀
  clear h₀ hm₀
  unfold State.reconRead
  try dsimp only
  repeat' (first
    | with_reducible exact Rg.refl _ _
    | with_reducible assumption
    | exact (rfl : (_ : Nat) = _)
    | with_reducible refine State.setRdGrain_rg ?_ ?_
    | with_reducible refine State.sendRead_rg ?_ ?_
    | dsimp only
    | with_reducible refine Rg.ite ?_ ?_
    | with_reducible refine Rg.ite₁ ?_ ?_
    | with_reducible refine RgS.ite ?_ ?_
    | with_reducible refine RgP.ite ?_ ?_
    | with_reducible exact RgS.none
    | with_reducible refine RgS.some ?_
    | with_reducible refine RgS.map ?_
    | with_reducible exact RgP.none
    | with_reducible refine RgP.some ?_
    | with_reducible refine Rg.elim ?_ ?_
    | with_reducible refine Rg.foldl ?_ _ _ ?_
    | with_reducible refine Rg.foldl₂ ?_ _ _ ?_
    | intro _ _ _ _ _ _
    | intro _ _ _ _ _
    | intro _ _ _ _
    | intro _ _ _
    | intro _ _
    | intro _
    | with_reducible refine Rg.pair (h := ?_) (e := by assumption)
    | with_reducible refine RgO.got (h := ?_) (e := by assumption)
    | with_reducible refine RgS.get (h := ?_) (e := by assumption)
    | with_reducible refine RgP.get (h := ?_) (e := by assumption)
    | split)

theorem State.startRecover_rg {msk : Nat} {b₀ : State} {s : State} {n : Nat} {i : Nat} {g : RdGrain} (h₀ : Rg msk b₀ s) (hm₀ : 110427941548649020598956093796432407239217743554726184882600387580790784 ||| msk = msk) :
    Rg msk b₀ (State.startRecover s n i g) := by
  refine Rg.step h₀ ?_ hm₀
  clear h₀ hm₀
  unfold State.startRecover
  try dsimp only
  repeat' (first
    | with_reducible exact Rg.refl _ _
    | with_reducible assumption
    | exact (rfl : (_ : Nat) = _)
    | with_reducible refine State.setRdGrain_rg ?_ ?_
    | with_reducible refine State.reconRead_rg ?_ ?_
    | dsimp only
    | with_reducible refine Rg.ite ?_ ?_
    | with_reducible refine Rg.ite₁ ?_ ?_
    | with_reducible refine RgS.ite ?_ ?_
    | with_reducible refine RgP.ite ?_ ?_
    | with_reducible exact RgS.none
    | with_reducible refine RgS.some ?_
    | with_reducible refine RgS.map ?_
    | with_reducible exact RgP.none
    | with_reducible refine RgP.some ?_
    | with_reducible refine Rg.elim ?_ ?_
    | with_reducible refine Rg.foldl ?_ _ _ ?_
    | with_reducible refine Rg.foldl₂ ?_ _ _ ?_
    | intro _ _ _ _ _ _
    | intro _ _ _ _ _
    | intro _ _ _ _
    | intro _ _ _
    | intro _ _
    | intro _
    | with_reducible refine Rg.pair (h := ?_) (e := by assumption)
    | with_reducible refine RgO.got (h := ?_) (e := by assumption)
    | with_reducible refine RgS.get (h := ?_) (e := by assumption)
    | with_reducible refine RgP.get (h := ?_) (e := by assumption)
    | split)

theorem State.issueReads_rg {msk : Nat} {b₀ : State} {s : State} {n : Nat} {i : Nat} {pool : Nat} {g : RdGrain} {path : RdPath} {xs : List Place} (h₀ : Rg msk b₀ s) (hm₀ : 110427941548649020598956093796432407239217743554726184882600387580790784 ||| msk = msk) :
    Rg msk b₀ (State.issueReads s n i pool g path xs) := by
  refine Rg.step h₀ ?_ hm₀
  clear h₀ hm₀
  unfold State.issueReads
  try dsimp only
  repeat' (first
    | with_reducible exact Rg.refl _ _
    | with_reducible assumption
    | exact (rfl : (_ : Nat) = _)
    | with_reducible refine State.setRdGrain_rg ?_ ?_
    | with_reducible refine State.sendRead_rg ?_ ?_
    | with_reducible refine Rg.foldl ?_ _ _ ?_
    | intro _ _ _)

theorem State.suspendDie_rg {msk : Nat} {b₀ : State} {s : State} {pool : Nat} {x : Place} (h₀ : Rg msk b₀ s) (hm₀ : 110441421521982595918853427303975917054554562126937455168840939385915392 ||| msk = msk) :
    Rg msk b₀ (State.suspendDie s pool x) := by
  refine Rg.step h₀ ?_ hm₀
  clear h₀ hm₀
  unfold State.suspendDie
  try dsimp only
  repeat' (first
    | with_reducible exact Rg.refl _ _
    | exact (rfl : (_ : Nat) = _)
    | with_reducible refine State.count_rg ?_ ?_
    | with_reducible refine State.sendMod_rg ?_ ?_
    | with_reducible refine State.setDie_rg ?_ ?_
    | with_reducible refine in_RD_SUSPENDS ?_
    | exact (rfl : (_ : Bool) = _))

theorem State.chooseParity_rg {msk : Nat} {b₀ : State} {s : State} {n : Nat} {i : Nat} {g : RdGrain} {sg : Seg} {p : Pool} {k : Nat} {x : Place} (h₀ : Rg msk b₀ s) (hm₀ : 110441421521982595918853427303975917054554562126937455168840939385915392 ||| msk = msk) :
    Rg msk b₀ (State.chooseParity s n i g sg p k x) := by
  refine Rg.step h₀ ?_ hm₀
  clear h₀ hm₀
  unfold State.chooseParity
  try dsimp only
  repeat' (first
    | with_reducible exact Rg.refl _ _
    | exact (rfl : (_ : Nat) = _)
    | with_reducible refine State.issueReads_rg ?_ ?_
    | with_reducible refine State.startRecover_rg ?_ ?_
    | with_reducible refine State.suspendDie_rg ?_ ?_
    | with_reducible refine Rg.ite ?_ ?_
    | refine Rg.mk' ?_)

theorem execDieChoice_rg {msk : Nat} {b₀ : State} {n : Nat} {i : Nat} {s : State} (h₀ : Rg msk b₀ s) (hm₀ : 110441421521982595918853427303975917054554562126937455168840939385915392 ||| msk = msk) :
    RgO msk b₀ (execDieChoice n i s) := by
  refine RgO.step h₀ ?_ hm₀
  clear h₀ hm₀
  unfold execDieChoice
  try dsimp only
  repeat' (first
    | with_reducible exact Rg.refl _ _
    | exact (rfl : (_ : Nat) = _)
    | with_reducible refine State.startRecover_rg ?_ ?_
    | with_reducible refine State.issueReads_rg ?_ ?_
    | with_reducible refine State.chooseParity_rg ?_ ?_
    | with_reducible refine RgO.ite ?_ ?_
    | with_reducible refine RgO.next ?_
    | split)

theorem State.boundRecompute_rg {msk : Nat} {b₀ : State} {s : State} (h₀ : Rg msk b₀ s) (hm₀ : 631873750011343120187508166102022593913370572403294667525865865216 ||| msk = msk) :
    Rg msk b₀ (State.boundRecompute s) := by
  refine Rg.step h₀ ?_ hm₀
  clear h₀ hm₀
  unfold State.boundRecompute
  try dsimp only
  repeat' (first
    | with_reducible exact Rg.refl _ _
    | with_reducible refine State.wrN_rg ?_ ?_
    | with_reducible refine in_RD_FLASH_BOUND ?_
    | with_reducible refine in_RD_TR_MAX ?_
    | exact (rfl : (_ : Bool) = _))

theorem State.entryCheck_rg {msk : Nat} {b₀ : State} {s : State} {unit : Nat} {format : Nat} {x : Grain} (h₀ : Rg msk b₀ s) (hm₀ : 96107167241834975113312584178489302142293605564759693426004588894417285174339314651986626222954283767327282437199894542367530777834652558046346316658728046368 ||| msk = msk) :
    Rg msk b₀ (State.entryCheck s unit format x).1 := by
  refine Rg.step h₀ ?_ hm₀
  clear h₀ hm₀
  unfold State.entryCheck
  try dsimp only
  repeat' (first
    | with_reducible exact Rg.refl _ _
    | with_reducible assumption
    | exact (rfl : (_ : Nat) = _)
    | with_reducible refine State.decompress_rg ?_ ?_
    | dsimp only
    | with_reducible refine Rg.ite ?_ ?_
    | with_reducible refine Rg.ite₁ ?_ ?_
    | with_reducible refine RgS.ite ?_ ?_
    | with_reducible refine RgP.ite ?_ ?_
    | with_reducible exact RgS.none
    | with_reducible refine RgS.some ?_
    | with_reducible refine RgS.map ?_
    | with_reducible exact RgP.none
    | with_reducible refine RgP.some ?_
    | with_reducible refine Rg.elim ?_ ?_
    | with_reducible refine Rg.foldl ?_ _ _ ?_
    | with_reducible refine Rg.foldl₂ ?_ _ _ ?_
    | intro _ _ _ _ _ _
    | intro _ _ _ _ _
    | intro _ _ _ _
    | intro _ _ _
    | intro _ _
    | intro _
    | with_reducible refine Rg.pair (h := ?_) (e := by assumption)
    | with_reducible refine RgO.got (h := ?_) (e := by assumption)
    | with_reducible refine RgS.get (h := ?_) (e := by assumption)
    | with_reducible refine RgP.get (h := ?_) (e := by assumption)
    | split)

theorem State.tryEntry_rg {msk : Nat} {b₀ : State} {s : State} {unit : Nat} {format : Nat} {q : Nat} {i : Nat} {errs : List (Nat × Nat)} (h₀ : Rg msk b₀ s) (hm₀ : 96107167241834975113312584178489302142293605564759693426004588894417285174339314651986626222954283767327282437199894542367530777834652558046346316658728046368 ||| msk = msk) :
    Rg msk b₀ (State.tryEntry s unit format q i errs).1 := by
  refine Rg.step h₀ ?_ hm₀
  clear h₀ hm₀
  unfold State.tryEntry
  try dsimp only
  repeat' (first
    | with_reducible exact Rg.refl _ _
    | with_reducible assumption
    | exact (rfl : (_ : Nat) = _)
    | with_reducible refine State.entryCheck_rg ?_ ?_
    | dsimp only
    | with_reducible refine Rg.ite ?_ ?_
    | with_reducible refine Rg.ite₁ ?_ ?_
    | with_reducible refine RgS.ite ?_ ?_
    | with_reducible refine RgP.ite ?_ ?_
    | with_reducible exact RgS.none
    | with_reducible refine RgS.some ?_
    | with_reducible refine RgS.map ?_
    | with_reducible exact RgP.none
    | with_reducible refine RgP.some ?_
    | with_reducible refine Rg.elim ?_ ?_
    | with_reducible refine Rg.foldl ?_ _ _ ?_
    | with_reducible refine Rg.foldl₂ ?_ _ _ ?_
    | intro _ _ _ _ _ _
    | intro _ _ _ _ _
    | intro _ _ _ _
    | intro _ _ _
    | intro _ _
    | intro _
    | with_reducible refine Rg.pair (h := ?_) (e := by assumption)
    | with_reducible refine RgO.got (h := ?_) (e := by assumption)
    | with_reducible refine RgS.get (h := ?_) (e := by assumption)
    | with_reducible refine RgP.get (h := ?_) (e := by assumption)
    | split)

theorem State.finishRead_rg {msk : Nat} {b₀ : State} {s : State} {n : Nat} (h₀ : Rg msk b₀ s) (hm₀ : 143343663499379469475676305956380434124147170162173705263186827728748740765411257679291925248891286456352 ||| msk = msk) :
    Rg msk b₀ (State.finishRead s n) := by
  refine Rg.step h₀ ?_ hm₀
  clear h₀ hm₀
  unfold State.finishRead
  try dsimp only
  repeat' (first
    | with_reducible exact Rg.refl _ _
    | with_reducible assumption
    | exact (rfl : (_ : Nat) = _)
    | with_reducible refine State.event_rg ?_ ?_
    | with_reducible refine State.count_rg ?_ ?_
    | with_reducible refine State.complete_rg ?_ ?_
    | with_reducible refine State.countBy_rg ?_ ?_
    | with_reducible refine in_RD_BOUND_MISS ?_
    | with_reducible refine in_RD_UNRECOVERED ?_
    | with_reducible refine InSet.ite ?_ ?_
    | exact (rfl : (_ : Bool) = _)
    | dsimp only
    | with_reducible refine Rg.ite ?_ ?_
    | with_reducible refine Rg.ite₁ ?_ ?_
    | with_reducible refine RgS.ite ?_ ?_
    | with_reducible refine RgP.ite ?_ ?_
    | with_reducible exact RgS.none
    | with_reducible refine RgS.some ?_
    | with_reducible refine RgS.map ?_
    | with_reducible exact RgP.none
    | with_reducible refine RgP.some ?_
    | with_reducible refine Rg.elim ?_ ?_
    | with_reducible refine Rg.foldl ?_ _ _ ?_
    | with_reducible refine Rg.foldl₂ ?_ _ _ ?_
    | intro _ _ _ _ _ _
    | intro _ _ _ _ _
    | intro _ _ _ _
    | intro _ _ _
    | intro _ _
    | intro _
    | with_reducible refine Rg.pair (h := ?_) (e := by assumption)
    | with_reducible refine RgO.got (h := ?_) (e := by assumption)
    | with_reducible refine RgS.get (h := ?_) (e := by assumption)
    | with_reducible refine RgP.get (h := ?_) (e := by assumption)
    | split)

theorem State.slotFree_rg {msk : Nat} {b₀ : State} {s : State} {n : Nat} (h₀ : Rg msk b₀ s) (hm₀ : 842498333348457493583344221469363458551160763204392890034487820288 ||| msk = msk) :
    Rg msk b₀ (State.slotFree s n) := by
  refine Rg.step h₀ ?_ hm₀
  clear h₀ hm₀
  unfold State.slotFree
  try dsimp only
  repeat' (first
    | with_reducible exact Rg.refl _ _
    | with_reducible assumption
    | exact (rfl : (_ : Nat) = _)
    | with_reducible refine State.setCmd_rg ?_ ?_
    | with_reducible refine State.wrN_rg ?_ ?_
    | with_reducible refine in_RD_BASIN_FREE ?_
    | with_reducible refine InSet.ite ?_ ?_
    | exact (rfl : (_ : Bool) = _)
    | dsimp only
    | with_reducible refine Rg.ite ?_ ?_
    | with_reducible refine Rg.ite₁ ?_ ?_
    | with_reducible refine RgS.ite ?_ ?_
    | with_reducible refine RgP.ite ?_ ?_
    | with_reducible exact RgS.none
    | with_reducible refine RgS.some ?_
    | with_reducible refine RgS.map ?_
    | with_reducible exact RgP.none
    | with_reducible refine RgP.some ?_
    | with_reducible refine Rg.elim ?_ ?_
    | with_reducible refine Rg.foldl ?_ _ _ ?_
    | with_reducible refine Rg.foldl₂ ?_ _ _ ?_
    | intro _ _ _ _ _ _
    | intro _ _ _ _ _
    | intro _ _ _ _
    | intro _ _ _
    | intro _ _
    | intro _
    | with_reducible refine Rg.pair (h := ?_) (e := by assumption)
    | with_reducible refine RgO.got (h := ?_) (e := by assumption)
    | with_reducible refine RgS.get (h := ?_) (e := by assumption)
    | with_reducible refine RgP.get (h := ?_) (e := by assumption)
    | split
    | refine Rg.mk' ?_)

theorem State.transfer_rg {msk : Nat} {b₀ : State} {s : State} {n : Nat} {c : HostCmd} {v : Vol} {g : RdGrain} (h₀ : Rg msk b₀ s) (hm₀ : 143343663499379469475676305956380433800627810156366027727182646684513172681765215123795234130579238684704 ||| msk = msk) :
    Rg msk b₀ (State.transfer s n c v g) := by
  refine Rg.step h₀ ?_ hm₀
  clear h₀ hm₀
  unfold State.transfer
  try dsimp only
  repeat' (first
    | with_reducible exact Rg.refl _ _
    | with_reducible assumption
    | exact (rfl : (_ : Nat) = _)
    | with_reducible refine State.slotFree_rg ?_ ?_
    | with_reducible refine State.tlSend_rg ?_ ?_
    | with_reducible refine State.staleDiscard_rg ?_ ?_
    | with_reducible refine State.srcSend_rg ?_ ?_
    | with_reducible refine State.emit_rg ?_ ?_
    | dsimp only
    | with_reducible refine Rg.ite ?_ ?_
    | with_reducible refine Rg.ite₁ ?_ ?_
    | with_reducible refine RgS.ite ?_ ?_
    | with_reducible refine RgP.ite ?_ ?_
    | with_reducible exact RgS.none
    | with_reducible refine RgS.some ?_
    | with_reducible refine RgS.map ?_
    | with_reducible exact RgP.none
    | with_reducible refine RgP.some ?_
    | with_reducible refine Rg.elim ?_ ?_
    | with_reducible refine Rg.foldl ?_ _ _ ?_
    | with_reducible refine Rg.foldl₂ ?_ _ _ ?_
    | intro _ _ _ _ _ _
    | intro _ _ _ _ _
    | intro _ _ _ _
    | intro _ _ _
    | intro _ _
    | intro _
    | with_reducible refine Rg.pair (h := ?_) (e := by assumption)
    | with_reducible refine RgO.got (h := ?_) (e := by assumption)
    | with_reducible refine RgS.get (h := ?_) (e := by assumption)
    | with_reducible refine RgP.get (h := ?_) (e := by assumption)
    | split)

theorem State.grainDone_rg {msk : Nat} {b₀ : State} {s : State} {n : Nat} {i : Nat} {g : RdGrain} (h₀ : Rg msk b₀ s) (hm₀ : 143343663499379469475676305956380434124147170162173705263186827728748740765411257679291925248891286456352 ||| msk = msk) :
    Rg msk b₀ (State.grainDone s n i g) := by
  refine Rg.step h₀ ?_ hm₀
  clear h₀ hm₀
  unfold State.grainDone
  try dsimp only
  repeat' (first
    | with_reducible exact Rg.refl _ _
    | exact (rfl : (_ : Nat) = _)
    | with_reducible refine State.finishRead_rg ?_ ?_
    | with_reducible refine State.transfer_rg ?_ ?_
    | with_reducible refine State.setRdGrain_rg ?_ ?_
    | split)

theorem State.takeEntry_rg {msk : Nat} {b₀ : State} {s : State} {unit : Nat} {format : Nat} {own : List (Nat × List (Nat × Nat))} {mir : List (Nat × List (Nat × Nat))} {g : RdGrain} {q : Nat} (h₀ : Rg msk b₀ s) (hm₀ : 96107167241834975113312584178489302142293605564759693569348252393796754650015620608367060022739595590344852670799197004050210533364953062422505886041583456032 ||| msk = msk) :
    Rg msk b₀ (State.takeEntry s unit format own mir g q).1 := by
  refine Rg.step h₀ ?_ hm₀
  clear h₀ hm₀
  unfold State.takeEntry
  try dsimp only
  repeat' (first
    | with_reducible exact Rg.refl _ _
    | with_reducible assumption
    | exact (rfl : (_ : Nat) = _)
    | with_reducible refine State.tryEntry_rg ?_ ?_
    | with_reducible refine State.raise_rg ?_ ?_
    | with_reducible refine State.tlSend_rg ?_ ?_
    | dsimp only
    | with_reducible refine Rg.ite ?_ ?_
    | with_reducible refine Rg.ite₁ ?_ ?_
    | with_reducible refine RgS.ite ?_ ?_
    | with_reducible refine RgP.ite ?_ ?_
    | with_reducible exact RgS.none
    | with_reducible refine RgS.some ?_
    | with_reducible refine RgS.map ?_
    | with_reducible exact RgP.none
    | with_reducible refine RgP.some ?_
    | with_reducible refine Rg.elim ?_ ?_
    | with_reducible refine Rg.foldl ?_ _ _ ?_
    | with_reducible refine Rg.foldl₂ ?_ _ _ ?_
    | intro _ _ _ _ _ _
    | intro _ _ _ _ _
    | intro _ _ _ _
    | intro _ _ _
    | intro _ _
    | intro _
    | with_reducible refine Rg.pair (h := ?_) (e := by assumption)
    | with_reducible refine RgO.got (h := ?_) (e := by assumption)
    | with_reducible refine RgS.get (h := ?_) (e := by assumption)
    | with_reducible refine RgP.get (h := ?_) (e := by assumption)
    | split)

theorem State.takeEntries_rg {msk : Nat} {b₀ : State} {s : State} {unit : Nat} {format : Nat} {own : List (Nat × List (Nat × Nat))} {mir : List (Nat × List (Nat × Nat))} {g : RdGrain} {x6 : List Nat} (h₀ : Rg msk b₀ s) (hm₀ : 96107167241834975113312584178489302142293605564759693569348252393796754650015620608367060022739595590344852670799197004050210533364953062422505886041583456032 ||| msk = msk) :
    Rg msk b₀ (State.takeEntries s unit format own mir g x6).1 := by
  refine Rg.step h₀ ?_ hm₀
  clear h₀ hm₀
  fun_induction State.takeEntries 
  all_goals try dsimp +zetaDelta only at *
  all_goals repeat' (first
    | with_reducible exact Rg.refl _ _
    | with_reducible assumption
    | exact (rfl : (_ : Nat) = _)
    | with_reducible refine Rg.trans ?_ (by assumption)
    | with_reducible refine State.takeEntry_rg ?_ ?_
    | dsimp only
    | with_reducible refine Rg.ite ?_ ?_
    | with_reducible refine Rg.ite₁ ?_ ?_
    | with_reducible refine RgS.ite ?_ ?_
    | with_reducible refine RgP.ite ?_ ?_
    | with_reducible exact RgS.none
    | with_reducible refine RgS.some ?_
    | with_reducible refine RgS.map ?_
    | with_reducible exact RgP.none
    | with_reducible refine RgP.some ?_
    | with_reducible refine Rg.elim ?_ ?_
    | with_reducible refine Rg.foldl ?_ _ _ ?_
    | with_reducible refine Rg.foldl₂ ?_ _ _ ?_
    | intro _ _ _ _ _ _
    | intro _ _ _ _ _
    | intro _ _ _ _
    | intro _ _ _
    | intro _ _
    | intro _
    | with_reducible refine Rg.pair (h := ?_) (e := by assumption)
    | with_reducible refine RgO.got (h := ?_) (e := by assumption)
    | with_reducible refine RgS.get (h := ?_) (e := by assumption)
    | with_reducible refine RgP.get (h := ?_) (e := by assumption)
    | split)

theorem State.startRead_rg {msk : Nat} {b₀ : State} {s : State} {n : Nat} {op : HostOp} {legacy : Bool} (h₀ : Rg msk b₀ s) (hm₀ : 96107167241834975113312584178489302142293605564759698156345484373939777871657411212540941616712072222593114843939917624305602041529889375341333645365346373408 ||| msk = msk) :
    Rg msk b₀ (State.startRead s n op legacy) := by
  refine Rg.step h₀ ?_ hm₀
  clear h₀ hm₀
  unfold State.startRead
  try dsimp only
  repeat' (first
    | with_reducible exact Rg.refl _ _
    | with_reducible assumption
    | exact (rfl : (_ : Nat) = _)
    | with_reducible refine State.complete_rg ?_ ?_
    | with_reducible refine State.setCmd_rg ?_ ?_
    | with_reducible refine State.endReads_rg ?_ ?_
    | with_reducible refine State.forward_rg ?_ ?_
    | with_reducible refine State.searchRead_rg ?_ ?_
    | with_reducible refine State.fwdTaken_rg ?_ ?_
    | dsimp only
    | with_reducible refine Rg.ite ?_ ?_
    | with_reducible refine Rg.ite₁ ?_ ?_
    | with_reducible refine RgS.ite ?_ ?_
    | with_reducible refine RgP.ite ?_ ?_
    | with_reducible exact RgS.none
    | with_reducible refine RgS.some ?_
    | with_reducible refine RgS.map ?_
    | with_reducible exact RgP.none
    | with_reducible refine RgP.some ?_
    | with_reducible refine Rg.elim ?_ ?_
    | with_reducible refine Rg.foldl ?_ _ _ ?_
    | with_reducible refine Rg.foldl₂ ?_ _ _ ?_
    | intro _ _ _ _ _ _
    | intro _ _ _ _ _
    | intro _ _ _ _
    | intro _ _ _
    | intro _ _
    | intro _
    | with_reducible refine Rg.pair (h := ?_) (e := by assumption)
    | with_reducible refine RgO.got (h := ?_) (e := by assumption)
    | with_reducible refine RgS.get (h := ?_) (e := by assumption)
    | with_reducible refine RgP.get (h := ?_) (e := by assumption)
    | split)

theorem execBasinWaitTimeout_rg {msk : Nat} {b₀ : State} {n : Nat} {s : State} (h₀ : Rg msk b₀ s) (hm₀ : 143343663499379469475676305956380433800627810156366027727182646684513172681765524608805055475647963465760 ||| msk = msk) :
    RgO msk b₀ (execBasinWaitTimeout n s) := by
  refine RgO.step h₀ ?_ hm₀
  clear h₀ hm₀
  unfold execBasinWaitTimeout
  try dsimp only
  repeat' (first
    | with_reducible exact Rg.refl _ _
    | exact (rfl : (_ : Nat) = _)
    | with_reducible refine State.complete_rg ?_ ?_
    | with_reducible refine RgO.ite ?_ ?_
    | with_reducible refine RgO.next ?_
    | split)

theorem execNvmeVerify_rg {msk : Nat} {b₀ : State} {n : Nat} {s : State} (h₀ : Rg msk b₀ s) (hm₀ : 96107167241834975113312584178489302142293605564759698156345484373939777871657411212540941616712072222593114843939917624305602041529889375341333645365346373408 ||| msk = msk) :
    RgO msk b₀ (execNvmeVerify n s) := by
  refine RgO.step h₀ ?_ hm₀
  clear h₀ hm₀
  unfold execNvmeVerify
  try dsimp only
  repeat' (first
    | with_reducible exact Rg.refl _ _
    | exact (rfl : (_ : Nat) = _)
    | with_reducible refine State.startRead_rg ?_ ?_
    | with_reducible refine RgO.next ?_)

theorem State.pageIn_rg {msk : Nat} {b₀ : State} {s : State} {n : Nat} {i : Nat} {g : RdGrain} (h₀ : Rg msk b₀ s) (hm₀ : 0 ||| msk = msk) :
    Rg msk b₀ (State.pageIn s n i g) := by
  refine Rg.step h₀ ?_ hm₀
  clear h₀ hm₀
  unfold State.pageIn
  try dsimp only
  repeat' (first
    | with_reducible exact Rg.refl _ _
    | with_reducible assumption
    | exact (rfl : (_ : Nat) = _)
    | with_reducible refine State.setRdGrain_rg ?_ ?_
    | with_reducible refine State.unread_rg ?_ ?_
    | dsimp only
    | with_reducible refine Rg.ite ?_ ?_
    | with_reducible refine Rg.ite₁ ?_ ?_
    | with_reducible refine RgS.ite ?_ ?_
    | with_reducible refine RgP.ite ?_ ?_
    | with_reducible exact RgS.none
    | with_reducible refine RgS.some ?_
    | with_reducible refine RgS.map ?_
    | with_reducible exact RgP.none
    | with_reducible refine RgP.some ?_
    | with_reducible refine Rg.elim ?_ ?_
    | with_reducible refine Rg.foldl ?_ _ _ ?_
    | with_reducible refine Rg.foldl₂ ?_ _ _ ?_
    | intro _ _ _ _ _ _
    | intro _ _ _ _ _
    | intro _ _ _ _
    | intro _ _ _
    | intro _ _
    | intro _
    | with_reducible refine Rg.pair (h := ?_) (e := by assumption)
    | with_reducible refine RgO.got (h := ?_) (e := by assumption)
    | with_reducible refine RgS.get (h := ?_) (e := by assumption)
    | with_reducible refine RgP.get (h := ?_) (e := by assumption)
    | split)

theorem State.grainFail_rg {msk : Nat} {b₀ : State} {s : State} {n : Nat} {i : Nat} {g : RdGrain} {st : Nat} (h₀ : Rg msk b₀ s) (hm₀ : 143343663499379469475676305956380434124147170162173705263186827728748740765411257679291925248891286456352 ||| msk = msk) :
    Rg msk b₀ (State.grainFail s n i g st) := by
  refine Rg.step h₀ ?_ hm₀
  clear h₀ hm₀
  unfold State.grainFail
  try dsimp only
  repeat' (first
    | with_reducible exact Rg.refl _ _
    | exact (rfl : (_ : Nat) = _)
    | with_reducible refine State.finishRead_rg ?_ ?_
    | with_reducible refine State.setRdGrain_rg ?_ ?_)

theorem State.grainLost_rg {msk : Nat} {b₀ : State} {s : State} {n : Nat} {i : Nat} {g : RdGrain} {st : Nat} (h₀ : Rg msk b₀ s) (hm₀ : 96107167241834975113312584178489302142293605564759693569365750399595018745410600626184001318024279247285522987558043852952814627993506748109927004181991853856 ||| msk = msk) :
    Rg msk b₀ (State.grainLost s n i g st) := by
  refine Rg.step h₀ ?_ hm₀
  clear h₀ hm₀
  unfold State.grainLost
  try dsimp only
  repeat' (first
    | with_reducible exact Rg.refl _ _
    | exact (rfl : (_ : Nat) = _)
    | with_reducible refine State.grainFail_rg ?_ ?_
    | with_reducible refine State.event_rg ?_ ?_
    | with_reducible refine State.raise_rg ?_ ?_
    | with_reducible refine State.addLoss_rg ?_ ?_
    | with_reducible refine State.unread_rg ?_ ?_)

theorem State.reconstructed_rg {msk : Nat} {b₀ : State} {s : State} {a : Nat} {withQ : Bool} (h₀ : Rg msk b₀ s) (hm₀ : 96107167241834975113312584178489302142293605564759693426424541033575623463818835079593209525102092260396168812673557915783505214434934238691128179862947301152 ||| msk = msk) :
    Rg msk b₀ (State.reconstructed s a withQ) := by
  refine Rg.step h₀ ?_ hm₀
  clear h₀ hm₀
  unfold State.reconstructed
  try dsimp only
  repeat' (first
    | with_reducible exact Rg.refl _ _
    | with_reducible assumption
    | exact (rfl : (_ : Nat) = _)
    | with_reducible refine State.mismatch_rg ?_ ?_
    | with_reducible refine State.count_rg ?_ ?_
    | with_reducible refine in_SP_RECON ?_
    | with_reducible refine InSet.ite ?_ ?_
    | exact (rfl : (_ : Bool) = _)
    | dsimp only
    | with_reducible refine Rg.ite ?_ ?_
    | with_reducible refine Rg.ite₁ ?_ ?_
    | with_reducible refine RgS.ite ?_ ?_
    | with_reducible refine RgP.ite ?_ ?_
    | with_reducible exact RgS.none
    | with_reducible refine RgS.some ?_
    | with_reducible refine RgS.map ?_
    | with_reducible exact RgP.none
    | with_reducible refine RgP.some ?_
    | with_reducible refine Rg.elim ?_ ?_
    | with_reducible refine Rg.foldl ?_ _ _ ?_
    | with_reducible refine Rg.foldl₂ ?_ _ _ ?_
    | intro _ _ _ _ _ _
    | intro _ _ _ _ _
    | intro _ _ _ _
    | intro _ _ _
    | intro _ _
    | intro _
    | with_reducible refine Rg.pair (h := ?_) (e := by assumption)
    | with_reducible refine RgO.got (h := ?_) (e := by assumption)
    | with_reducible refine RgS.get (h := ?_) (e := by assumption)
    | with_reducible refine RgP.get (h := ?_) (e := by assumption)
    | split)

theorem State.reconNext_rg {msk : Nat} {b₀ : State} {s : State} {n : Nat} {i : Nat} {g : RdGrain} {sg : Seg} {kind : Nat} (h₀ : Rg msk b₀ s) (hm₀ : 96107167241834975113312584178489302142293605564759693569365750399595018745410600626184111745965827896306121943651840285360053845737061474294809604569572642592 ||| msk = msk) :
    Rg msk b₀ (State.reconNext s n i g sg kind) := by
  refine Rg.step h₀ ?_ hm₀
  clear h₀ hm₀
  unfold State.reconNext
  try dsimp only
  repeat' (first
    | with_reducible exact Rg.refl _ _
    | with_reducible assumption
    | exact (rfl : (_ : Nat) = _)
    | with_reducible refine State.reconRead_rg ?_ ?_
    | with_reducible refine State.grainLost_rg ?_ ?_
    | dsimp only
    | with_reducible refine Rg.ite ?_ ?_
    | with_reducible refine Rg.ite₁ ?_ ?_
    | with_reducible refine RgS.ite ?_ ?_
    | with_reducible refine RgP.ite ?_ ?_
    | with_reducible exact RgS.none
    | with_reducible refine RgS.some ?_
    | with_reducible refine RgS.map ?_
    | with_reducible exact RgP.none
    | with_reducible refine RgP.some ?_
    | with_reducible refine Rg.elim ?_ ?_
    | with_reducible refine Rg.foldl ?_ _ _ ?_
    | with_reducible refine Rg.foldl₂ ?_ _ _ ?_
    | intro _ _ _ _ _ _
    | intro _ _ _ _ _
    | intro _ _ _ _
    | intro _ _ _
    | intro _ _
    | intro _
    | with_reducible refine Rg.pair (h := ?_) (e := by assumption)
    | with_reducible refine RgO.got (h := ?_) (e := by assumption)
    | with_reducible refine RgS.get (h := ?_) (e := by assumption)
    | with_reducible refine RgP.get (h := ?_) (e := by assumption)
    | split)

theorem State.storedCheck_rg {msk : Nat} {b₀ : State} {s : State} {unit : Nat} {format : Nat} {a : Nat} {x : Stored} {errs : List (Nat × Nat)} (h₀ : Rg msk b₀ s) (hm₀ : 96107167241834975113312584178489302142293605564759693426004588894417285174339314651986626222954283767327282437199894542367530777834652558046346316658728046368 ||| msk = msk) :
    Rg msk b₀ (State.storedCheck s unit format a x errs).1 := by
  refine Rg.step h₀ ?_ hm₀
  clear h₀ hm₀
  unfold State.storedCheck
  try dsimp only
  repeat' (first
    | with_reducible exact Rg.refl _ _
    | with_reducible assumption
    | exact (rfl : (_ : Nat) = _)
    | with_reducible refine State.decompress_rg ?_ ?_
    | dsimp only
    | with_reducible refine Rg.ite ?_ ?_
    | with_reducible refine Rg.ite₁ ?_ ?_
    | with_reducible refine RgS.ite ?_ ?_
    | with_reducible refine RgP.ite ?_ ?_
    | with_reducible exact RgS.none
    | with_reducible refine RgS.some ?_
    | with_reducible refine RgS.map ?_
    | with_reducible exact RgP.none
    | with_reducible refine RgP.some ?_
    | with_reducible refine Rg.elim ?_ ?_
    | with_reducible refine Rg.foldl ?_ _ _ ?_
    | with_reducible refine Rg.foldl₂ ?_ _ _ ?_
    | intro _ _ _ _ _ _
    | intro _ _ _ _ _
    | intro _ _ _ _
    | intro _ _ _
    | intro _ _
    | intro _
    | with_reducible refine Rg.pair (h := ?_) (e := by assumption)
    | with_reducible refine RgO.got (h := ?_) (e := by assumption)
    | with_reducible refine RgS.get (h := ?_) (e := by assumption)
    | with_reducible refine RgP.get (h := ?_) (e := by assumption)
    | split)

theorem State.serveStored_rg {msk : Nat} {b₀ : State} {s : State} {n : Nat} {i : Nat} {g : RdGrain} {data : List Byte} {tags : List Nat} (h₀ : Rg msk b₀ s) (hm₀ : 143343663499379469475676305956380434563931300170068516913692511335756466129117176071985013846893928646688 ||| msk = msk) :
    Rg msk b₀ (State.serveStored s n i g data tags) := by
  refine Rg.step h₀ ?_ hm₀
  clear h₀ hm₀
  unfold State.serveStored
  try dsimp only
  repeat' (first
    | with_reducible exact Rg.refl _ _
    | exact (rfl : (_ : Nat) = _)
    | with_reducible refine State.highWater_rg ?_ ?_
    | with_reducible refine State.count_rg ?_ ?_
    | with_reducible refine State.unread_rg ?_ ?_
    | with_reducible refine State.grainDone_rg ?_ ?_
    | with_reducible refine in_RD_GRAINS ?_
    | with_reducible refine in_RD_LAT_MAX ?_
    | with_reducible refine in_RD_READAROUND ?_
    | exact (rfl : (_ : Bool) = _)
    | with_reducible refine Rg.ite ?_ ?_
    | split)

theorem State.reconDone_rg {msk : Nat} {b₀ : State} {s : State} {n : Nat} {i : Nat} {g : RdGrain} {x : Stored} {places : List (List Place)} {data : List Byte} {tags : List Nat} (h₀ : Rg msk b₀ s) (hm₀ : 96107167241834975113312584178489302142293605564759693569768204532955092939495141035973754597854781080937204066460910945006102582207098304482742070455287484192 ||| msk = msk) :
    Rg msk b₀ (State.reconDone s n i g x places data tags) := by
  refine Rg.step h₀ ?_ hm₀
  clear h₀ hm₀
  unfold State.reconDone
  try dsimp only
  repeat' (first
    | with_reducible exact Rg.refl _ _
    | with_reducible assumption
    | exact (rfl : (_ : Nat) = _)
    | with_reducible refine State.reconstructed_rg ?_ ?_
    | with_reducible refine State.raise_rg ?_ ?_
    | with_reducible refine State.serveStored_rg ?_ ?_
    | with_reducible refine State.repair_rg ?_ ?_
    | with_reducible refine State.count_rg ?_ ?_
    | with_reducible refine in_RD_DECODE_RETRY ?_
    | with_reducible refine InSet.ite ?_ ?_
    | exact (rfl : (_ : Bool) = _)
    | dsimp only
    | with_reducible refine Rg.ite ?_ ?_
    | with_reducible refine Rg.ite₁ ?_ ?_
    | with_reducible refine RgS.ite ?_ ?_
    | with_reducible refine RgP.ite ?_ ?_
    | with_reducible exact RgS.none
    | with_reducible refine RgS.some ?_
    | with_reducible refine RgS.map ?_
    | with_reducible exact RgP.none
    | with_reducible refine RgP.some ?_
    | with_reducible refine Rg.elim ?_ ?_
    | with_reducible refine Rg.foldl ?_ _ _ ?_
    | with_reducible refine Rg.foldl₂ ?_ _ _ ?_
    | intro _ _ _ _ _ _
    | intro _ _ _ _ _
    | intro _ _ _ _
    | intro _ _ _
    | intro _ _
    | intro _
    | with_reducible refine Rg.pair (h := ?_) (e := by assumption)
    | with_reducible refine RgO.got (h := ?_) (e := by assumption)
    | with_reducible refine RgS.get (h := ?_) (e := by assumption)
    | with_reducible refine RgP.get (h := ?_) (e := by assumption)
    | split)

theorem execGrainRecovery_rg {msk : Nat} {b₀ : State} {n : Nat} {i : Nat} {unit : Nat} {errs : List (Nat × Nat)} {places : List (List Place)} {s : State} (h₀ : Rg msk b₀ s) (hm₀ : 96107167241834975113312584178489302142293605564759693569785702538753357034890121053790695568777606474046960178272401692872118745446691808482662842655678992160 ||| msk = msk) :
    RgO msk b₀ (execGrainRecovery n i unit errs places s) := by
  refine RgO.step h₀ ?_ hm₀
  clear h₀ hm₀
  unfold execGrainRecovery
  try dsimp only
  repeat' (first
    | with_reducible exact Rg.refl _ _
    | with_reducible assumption
    | exact (rfl : (_ : Nat) = _)
    | with_reducible refine State.grainLost_rg ?_ ?_
    | with_reducible refine State.reconRead_rg ?_ ?_
    | with_reducible refine State.pageIn_rg ?_ ?_
    | with_reducible refine State.reconstructed_rg ?_ ?_
    | with_reducible refine State.reconNext_rg ?_ ?_
    | with_reducible refine State.storedCheck_rg ?_ ?_
    | with_reducible refine State.reconDone_rg ?_ ?_
    | dsimp only
    | with_reducible refine Rg.ite ?_ ?_
    | with_reducible refine Rg.ite₁ ?_ ?_
    | with_reducible refine RgO.ite ?_ ?_
    | with_reducible refine RgS.ite ?_ ?_
    | with_reducible refine RgP.ite ?_ ?_
    | with_reducible refine RgO.next ?_
    | with_reducible exact RgS.none
    | with_reducible refine RgS.some ?_
    | with_reducible refine RgS.map ?_
    | with_reducible exact RgP.none
    | with_reducible refine RgP.some ?_
    | with_reducible refine Rg.elim ?_ ?_
    | with_reducible refine Rg.foldl ?_ _ _ ?_
    | with_reducible refine Rg.foldl₂ ?_ _ _ ?_
    | intro _ _ _ _ _ _
    | intro _ _ _ _ _
    | intro _ _ _ _
    | intro _ _ _
    | intro _ _
    | intro _
    | with_reducible refine Rg.pair (h := ?_) (e := by assumption)
    | with_reducible refine RgO.got (h := ?_) (e := by assumption)
    | with_reducible refine RgS.get (h := ?_) (e := by assumption)
    | with_reducible refine RgP.get (h := ?_) (e := by assumption)
    | split)

theorem State.mapGo_rg {msk : Nat} {b₀ : State} {s : State} {n : Nat} {i : Nat} (h₀ : Rg msk b₀ s) (hm₀ : 143343663499379469475676305956380434125832166828870620250353516171687467682513579205700711028960262096928 ||| msk = msk) :
    Rg msk b₀ (State.mapGo s n i) := by
  refine Rg.step h₀ ?_ hm₀
  clear h₀ hm₀
  unfold State.mapGo
  try dsimp only
  repeat' (first
    | with_reducible exact Rg.refl _ _
    | with_reducible assumption
    | exact (rfl : (_ : Nat) = _)
    | with_reducible refine State.grainDone_rg ?_ ?_
    | with_reducible refine State.count_rg ?_ ?_
    | with_reducible refine State.grainFail_rg ?_ ?_
    | with_reducible refine State.unread_rg ?_ ?_
    | with_reducible refine State.setRdGrain_rg ?_ ?_
    | with_reducible refine in_RD_GRAINS ?_
    | with_reducible refine InSet.ite ?_ ?_
    | exact (rfl : (_ : Bool) = _)
    | dsimp only
    | with_reducible refine Rg.ite ?_ ?_
    | with_reducible refine Rg.ite₁ ?_ ?_
    | with_reducible refine RgS.ite ?_ ?_
    | with_reducible refine RgP.ite ?_ ?_
    | with_reducible exact RgS.none
    | with_reducible refine RgS.some ?_
    | with_reducible refine RgS.map ?_
    | with_reducible exact RgP.none
    | with_reducible refine RgP.some ?_
    | with_reducible refine Rg.elim ?_ ?_
    | with_reducible refine Rg.foldl ?_ _ _ ?_
    | with_reducible refine Rg.foldl₂ ?_ _ _ ?_
    | intro _ _ _ _ _ _
    | intro _ _ _ _ _
    | intro _ _ _ _
    | intro _ _ _
    | intro _ _
    | intro _
    | with_reducible refine Rg.pair (h := ?_) (e := by assumption)
    | with_reducible refine RgO.got (h := ?_) (e := by assumption)
    | with_reducible refine RgS.get (h := ?_) (e := by assumption)
    | with_reducible refine RgP.get (h := ?_) (e := by assumption)
    | split)

theorem State.mapPart_rg {msk : Nat} {b₀ : State} {s : State} {n : Nat} {part : Nat} (h₀ : Rg msk b₀ s) (hm₀ : 0 ||| msk = msk) :
    Rg msk b₀ (State.mapPart s n part) := by
  refine Rg.step h₀ ?_ hm₀
  clear h₀ hm₀
  unfold State.mapPart
  try dsimp only
  repeat' (first
    | with_reducible exact Rg.refl _ _
    | with_reducible assumption
    | exact (rfl : (_ : Nat) = _)
    | with_reducible refine State.setSeg_rg ?_ ?_
    | with_reducible refine State.setRdGrain_rg ?_ ?_
    | dsimp only
    | with_reducible refine Rg.ite ?_ ?_
    | with_reducible refine Rg.ite₁ ?_ ?_
    | with_reducible refine RgS.ite ?_ ?_
    | with_reducible refine RgP.ite ?_ ?_
    | with_reducible exact RgS.none
    | with_reducible refine RgS.some ?_
    | with_reducible refine RgS.map ?_
    | with_reducible exact RgP.none
    | with_reducible refine RgP.some ?_
    | with_reducible refine Rg.elim ?_ ?_
    | with_reducible refine Rg.foldl ?_ _ _ ?_
    | with_reducible refine Rg.foldl₂ ?_ _ _ ?_
    | intro _ _ _ _ _ _
    | intro _ _ _ _ _
    | intro _ _ _ _
    | intro _ _ _
    | intro _ _
    | intro _
    | with_reducible refine Rg.pair (h := ?_) (e := by assumption)
    | with_reducible refine RgO.got (h := ?_) (e := by assumption)
    | with_reducible refine RgS.get (h := ?_) (e := by assumption)
    | with_reducible refine RgP.get (h := ?_) (e := by assumption)
    | split)

theorem execMapLookup_rg {msk : Nat} {b₀ : State} {n : Nat} {i : Nat} {lines : List (Nat × Nat × Nat)} {page : Option Nat} {s : State} (h₀ : Rg msk b₀ s) (hm₀ : 96107167241834975113312584178621968142558182975586155548686733148237837529030356277702857946212480507966925126604291703304987502187726652291802566566147591968 ||| msk = msk) :
    RgO msk b₀ (execMapLookup n i lines page s) := by
  refine RgO.step h₀ ?_ hm₀
  clear h₀ hm₀
  unfold execMapLookup
  try dsimp only
  repeat' (first
    | with_reducible exact Rg.refl _ _
    | with_reducible assumption
    | exact (rfl : (_ : Nat) = _)
    | with_reducible refine State.mapGo_rg ?_ ?_
    | with_reducible refine State.setRdGrain_rg ?_ ?_
    | with_reducible refine State.setSeg_rg ?_ ?_
    | with_reducible refine State.mcTouch_rg ?_ ?_
    | with_reducible refine State.mapPart_rg ?_ ?_
    | dsimp only
    | with_reducible refine Rg.ite ?_ ?_
    | with_reducible refine Rg.ite₁ ?_ ?_
    | with_reducible refine RgO.ite ?_ ?_
    | with_reducible refine RgS.ite ?_ ?_
    | with_reducible refine RgP.ite ?_ ?_
    | with_reducible refine RgO.next ?_
    | with_reducible exact RgS.none
    | with_reducible refine RgS.some ?_
    | with_reducible refine RgS.map ?_
    | with_reducible exact RgP.none
    | with_reducible refine RgP.some ?_
    | with_reducible refine Rg.elim ?_ ?_
    | with_reducible refine Rg.foldl ?_ _ _ ?_
    | with_reducible refine Rg.foldl₂ ?_ _ _ ?_
    | intro _ _ _ _ _ _
    | intro _ _ _ _ _
    | intro _ _ _ _
    | intro _ _ _
    | intro _ _
    | intro _
    | with_reducible refine Rg.pair (h := ?_) (e := by assumption)
    | with_reducible refine RgO.got (h := ?_) (e := by assumption)
    | with_reducible refine RgS.get (h := ?_) (e := by assumption)
    | with_reducible refine RgP.get (h := ?_) (e := by assumption)
    | split)

theorem execNvmeRead_rg {msk : Nat} {b₀ : State} {n : Nat} {s : State} (h₀ : Rg msk b₀ s) (hm₀ : 96107167241834975113312584178489302142293605564759698156345484373939777871657411212540941616712072222593114843939917624305602041529889375341333645365346373408 ||| msk = msk) :
    RgO msk b₀ (execNvmeRead n s) := by
  refine RgO.step h₀ ?_ hm₀
  clear h₀ hm₀
  unfold execNvmeRead
  try dsimp only
  repeat' (first
    | with_reducible exact Rg.refl _ _
    | exact (rfl : (_ : Nat) = _)
    | with_reducible refine State.startRead_rg ?_ ?_
    | with_reducible refine RgO.next ?_)

theorem State.collectFail_rg {msk : Nat} {b₀ : State} {s : State} {n : Nat} {i : Nat} {g : RdGrain} (h₀ : Rg msk b₀ s) (hm₀ : 110427941548649020598956093796432407239217743554726184882600387580790784 ||| msk = msk) :
    Rg msk b₀ (State.collectFail s n i g) := by
  refine Rg.step h₀ ?_ hm₀
  clear h₀ hm₀
  unfold State.collectFail
  try dsimp only
  repeat' (first
    | with_reducible exact Rg.refl _ _
    | exact (rfl : (_ : Nat) = _)
    | with_reducible refine State.setRdGrain_rg ?_ ?_
    | with_reducible refine State.startRecover_rg ?_ ?_
    | with_reducible refine Rg.ite ?_ ?_)

theorem execMediaReadCollect_rg {msk : Nat} {b₀ : State} {n : Nat} {i : Nat} {unit : Nat} {errs : List (Nat × Nat)} {s : State} (h₀ : Rg msk b₀ s) (hm₀ : 96107167241834975113312584178489302142293605564759693569768204532955092939495141035973754516974941117147895094779950266961947100541663533475157293928663813920 ||| msk = msk) :
    RgO msk b₀ (execMediaReadCollect n i unit errs s) := by
  refine RgO.step h₀ ?_ hm₀
  clear h₀ hm₀
  unfold execMediaReadCollect
  try dsimp only
  repeat' (first
    | with_reducible exact Rg.refl _ _
    | with_reducible assumption
    | exact (rfl : (_ : Nat) = _)
    | with_reducible refine State.collectFail_rg ?_ ?_
    | with_reducible refine State.pageIn_rg ?_ ?_
    | with_reducible refine State.raise_rg ?_ ?_
    | with_reducible refine State.storedCheck_rg ?_ ?_
    | with_reducible refine State.serveStored_rg ?_ ?_
    | with_reducible refine State.reconstructed_rg ?_ ?_
    | with_reducible refine State.startRecover_rg ?_ ?_
    | dsimp only
    | with_reducible refine Rg.ite ?_ ?_
    | with_reducible refine Rg.ite₁ ?_ ?_
    | with_reducible refine RgO.ite ?_ ?_
    | with_reducible refine RgS.ite ?_ ?_
    | with_reducible refine RgP.ite ?_ ?_
    | with_reducible refine RgO.next ?_
    | with_reducible exact RgS.none
    | with_reducible refine RgS.some ?_
    | with_reducible refine RgS.map ?_
    | with_reducible exact RgP.none
    | with_reducible refine RgP.some ?_
    | with_reducible refine Rg.elim ?_ ?_
    | with_reducible refine Rg.foldl ?_ _ _ ?_
    | with_reducible refine Rg.foldl₂ ?_ _ _ ?_
    | intro _ _ _ _ _ _
    | intro _ _ _ _ _
    | intro _ _ _ _
    | intro _ _ _
    | intro _ _
    | intro _
    | with_reducible refine Rg.pair (h := ?_) (e := by assumption)
    | with_reducible refine RgO.got (h := ?_) (e := by assumption)
    | with_reducible refine RgS.get (h := ?_) (e := by assumption)
    | with_reducible refine RgP.get (h := ?_) (e := by assumption)
    | split)

theorem execLqRead_rg {msk : Nat} {b₀ : State} {n : Nat} {s : State} (h₀ : Rg msk b₀ s) (hm₀ : 96107167241834975113312584178489302142293605564759698156345484373939777871657411212540941616712072222593114843939917624305602041529889375341333645365346373408 ||| msk = msk) :
    RgO msk b₀ (execLqRead n s) := by
  refine RgO.step h₀ ?_ hm₀
  clear h₀ hm₀
  unfold execLqRead
  try dsimp only
  repeat' (first
    | with_reducible exact Rg.refl _ _
    | exact (rfl : (_ : Nat) = _)
    | with_reducible refine State.startRead_rg ?_ ?_
    | with_reducible refine RgO.next ?_)

theorem execBasinSlotFree_rg {msk : Nat} {b₀ : State} {k : Nat} {s : State} (h₀ : Rg msk b₀ s) (hm₀ : 842498333348457493583344221469363458551160763204392890034487820288 ||| msk = msk) :
    RgO msk b₀ (execBasinSlotFree k s) := by
  refine RgO.step h₀ ?_ hm₀
  clear h₀ hm₀
  unfold execBasinSlotFree
  try dsimp only
  repeat' (first
    | with_reducible exact Rg.refl _ _
    | with_reducible refine State.wrN_rg ?_ ?_
    | with_reducible refine in_RD_BASIN_FREE ?_
    | exact (rfl : (_ : Bool) = _)
    | with_reducible refine RgO.next ?_
    | refine Rg.mk' ?_)

theorem execCisternHitRead_rg {msk : Nat} {b₀ : State} {n : Nat} {i : Nat} {unit : Nat} {own : List (Nat × List (Nat × Nat))} {mir : List (Nat × List (Nat × Nat))} {s : State} (h₀ : Rg msk b₀ s) (hm₀ : 96107167241834975113312584178489302142293605564759693569348252393796754650015620608367060352156443929591732661886787599932452294552874816564628905756941422368 ||| msk = msk) :
    RgO msk b₀ (execCisternHitRead n i unit own mir s) := by
  refine RgO.step h₀ ?_ hm₀
  clear h₀ hm₀
  unfold execCisternHitRead
  try dsimp only
  repeat' (first
    | with_reducible exact Rg.refl _ _
    | with_reducible assumption
    | exact (rfl : (_ : Nat) = _)
    | with_reducible refine State.takeEntries_rg ?_ ?_
    | with_reducible refine State.unhold_rg ?_ ?_
    | with_reducible refine State.grainFail_rg ?_ ?_
    | with_reducible refine State.event_rg ?_ ?_
    | with_reducible refine State.raise_rg ?_ ?_
    | with_reducible refine State.count_rg ?_ ?_
    | with_reducible refine State.grainDone_rg ?_ ?_
    | with_reducible refine State.unread_rg ?_ ?_
    | with_reducible refine State.setRdGrain_rg ?_ ?_
    | with_reducible refine in_RD_CISTERN_HITS ?_
    | with_reducible refine in_RD_GRAINS ?_
    | with_reducible refine InSet.ite ?_ ?_
    | exact (rfl : (_ : Bool) = _)
    | dsimp only
    | with_reducible refine Rg.ite ?_ ?_
    | with_reducible refine Rg.ite₁ ?_ ?_
    | with_reducible refine RgO.ite ?_ ?_
    | with_reducible refine RgS.ite ?_ ?_
    | with_reducible refine RgP.ite ?_ ?_
    | with_reducible refine RgO.next ?_
    | with_reducible exact RgS.none
    | with_reducible refine RgS.some ?_
    | with_reducible refine RgS.map ?_
    | with_reducible exact RgP.none
    | with_reducible refine RgP.some ?_
    | with_reducible refine Rg.elim ?_ ?_
    | with_reducible refine Rg.foldl ?_ _ _ ?_
    | with_reducible refine Rg.foldl₂ ?_ _ _ ?_
    | intro _ _ _ _ _ _
    | intro _ _ _ _ _
    | intro _ _ _ _
    | intro _ _ _
    | intro _ _
    | intro _
    | with_reducible refine Rg.pair (h := ?_) (e := by assumption)
    | with_reducible refine RgO.got (h := ?_) (e := by assumption)
    | with_reducible refine RgS.get (h := ?_) (e := by assumption)
    | with_reducible refine RgP.get (h := ?_) (e := by assumption)
    | split)

theorem execLqVerify_rg {msk : Nat} {b₀ : State} {n : Nat} {s : State} (h₀ : Rg msk b₀ s) (hm₀ : 96107167241834975113312584178489302142293605564759698156345484373939777871657411212540941616712072222593114843939917624305602041529889375341333645365346373408 ||| msk = msk) :
    RgO msk b₀ (execLqVerify n s) := by
  refine RgO.step h₀ ?_ hm₀
  clear h₀ hm₀
  unfold execLqVerify
  try dsimp only
  repeat' (first
    | with_reducible exact Rg.refl _ _
    | exact (rfl : (_ : Nat) = _)
    | with_reducible refine State.startRead_rg ?_ ?_
    | with_reducible refine RgO.next ?_)

end Sys2Proof.Machine
end

