-- ==== Sys2Proof/Laws/RgRoles.lean ====
section
/-! SUPPORT. Register frames of the operations of Machine.Roles: the registers that each may write. -/

set_option maxRecDepth 20000
set_option Elab.async false
set_option linter.unusedTactic false
set_option linter.unreachableTactic false
set_option linter.unusedVariables false

namespace Sys2Proof.Machine

theorem execSelfFence_rg {msk : Nat} {b₀ : State} {s : State} (h₀ : Rg msk b₀ s) (hm₀ : 96107167241834975113312584178489302142293605564759693426004588894417285174339314651986626222954283729664672024879809959352794238588654061432213649874520966944 ||| msk = msk) :
    RgO msk b₀ (execSelfFence s) := by
  refine RgO.step h₀ ?_ hm₀
  clear h₀ hm₀
  unfold execSelfFence
  try dsimp only
  repeat' (first
    | with_reducible exact Rg.refl _ _
    | exact (rfl : (_ : Nat) = _)
    | with_reducible refine State.writeDiscarded_rg ?_ ?_
    | with_reducible refine State.raise_rg ?_ ?_
    | with_reducible refine Rg.ite ?_ ?_
    | with_reducible refine RgO.next ?_)

theorem State.raiseAll_rg {msk : Nat} {b₀ : State} {s : State} {q : Nat} (h₀ : Rg msk b₀ s) (hm₀ : 110427941548649020598956093796432407239217743554726184882600387580790784 ||| msk = msk) :
    Rg msk b₀ (State.raiseAll s q) := by
  refine Rg.step h₀ ?_ hm₀
  clear h₀ hm₀
  unfold State.raiseAll
  try dsimp only
  repeat' (first
    | with_reducible exact Rg.refl _ _
    | with_reducible assumption
    | exact (rfl : (_ : Nat) = _)
    | with_reducible refine State.sendRaise_rg ?_ ?_
    | with_reducible refine Rg.foldl ?_ _ _ ?_
    | intro _ _ _)

theorem State.arbWin_rg {msk : Nat} {b₀ : State} {s : State} (h₀ : Rg msk b₀ s) (hm₀ : 1202747370203049341832900250630739225144881853301221962806570344889728979394058066852401575732682272427810490400 ||| msk = msk) :
    Rg msk b₀ (State.arbWin s) := by
  refine Rg.step h₀ ?_ hm₀
  clear h₀ hm₀
  unfold State.arbWin
  try dsimp only
  repeat' (first
    | with_reducible exact Rg.refl _ _
    | exact (rfl : (_ : Nat) = _)
    | with_reducible refine State.event_rg ?_ ?_
    | with_reducible refine State.putBit_rg ?_ ?_
    | with_reducible refine State.raiseAll_rg ?_ ?_
    | with_reducible refine in_RN_STATUS ?_
    | with_reducible refine in_TD_ARB ?_
    | exact (rfl : (_ : Bool) = _)
    | with_reducible refine Rg.ite ?_ ?_
    | refine Rg.mk' ?_)

theorem State.arbLose_rg {msk : Nat} {b₀ : State} {s : State} (h₀ : Rg msk b₀ s) (hm₀ : 96107167241834975113312584178489302142293605564759693426004588894417285174339314651986626222954283729664672024879809959352794238588654061432213649874520966944 ||| msk = msk) :
    Rg msk b₀ (State.arbLose s) := by
  refine Rg.step h₀ ?_ hm₀
  clear h₀ hm₀
  unfold State.arbLose
  try dsimp only
  repeat' (first
    | with_reducible exact Rg.refl _ _
    | exact (rfl : (_ : Nat) = _)
    | with_reducible refine State.raise_rg ?_ ?_
    | with_reducible refine State.event_rg ?_ ?_)

theorem State.arbDecide_rg {msk : Nat} {b₀ : State} {s : State} (h₀ : Rg msk b₀ s) (hm₀ : 96107167241834975113312584178489302142293605565962147228384791507096699239895455210003086115936892152487403958398097412618712979385622674790097826214452465440 ||| msk = msk) :
    Rg msk b₀ (State.arbDecide s) := by
  refine Rg.step h₀ ?_ hm₀
  clear h₀ hm₀
  unfold State.arbDecide
  try dsimp only
  repeat' (first
    | with_reducible exact Rg.refl _ _
    | exact (rfl : (_ : Nat) = _)
    | with_reducible refine State.wrN_rg ?_ ?_
    | with_reducible refine State.arbWin_rg ?_ ?_
    | with_reducible refine State.arbLose_rg ?_ ?_
    | with_reducible refine in_TD_ARB ?_
    | exact (rfl : (_ : Bool) = _)
    | with_reducible refine Rg.ite ?_ ?_
    | refine Rg.mk' ?_)

theorem State.failFor_rg {msk : Nat} {b₀ : State} {s : State} {q : Nat} {port : Nat} (h₀ : Rg msk b₀ s) (hm₀ : 96107167241834975113312584178489302142293605564759693570468129036859728597114508391820545575331087654586752488168444716303558560980896525711044628339102912288 ||| msk = msk) :
    Rg msk b₀ (State.failFor s q port) := by
  refine Rg.step h₀ ?_ hm₀
  clear h₀ hm₀
  unfold State.failFor
  try dsimp only
  repeat' (first
    | with_reducible exact Rg.refl _ _
    | with_reducible assumption
    | exact (rfl : (_ : Nat) = _)
    | with_reducible refine State.memberFail_rg ?_ ?_
    | with_reducible refine Rg.ite ?_ ?_
    | with_reducible refine Rg.foldl ?_ _ _ ?_
    | intro _ _ _
    | split)

theorem State.staleSelf_rg {msk : Nat} {b₀ : State} {s : State} {q : Nat} {port : Nat} (h₀ : Rg msk b₀ s) (hm₀ : 96107167241834975113312584178489302142293605564759693570468129036859728597114508391820545575331087654586752488168444716303558560980896525711044628339102912288 ||| msk = msk) :
    Rg msk b₀ (State.staleSelf s q port) := by
  refine Rg.step h₀ ?_ hm₀
  clear h₀ hm₀
  unfold State.staleSelf
  try dsimp only
  repeat' (first
    | with_reducible exact Rg.refl _ _
    | exact (rfl : (_ : Nat) = _)
    | with_reducible refine State.raise_rg ?_ ?_
    | with_reducible refine State.failFor_rg ?_ ?_
    | with_reducible refine Rg.ite ?_ ?_
    | refine Rg.mk' ?_)

theorem State.raiseIs_rg {msk : Nat} {b₀ : State} {s : State} {q : Nat} {port : Nat} {st : RaiseSt} (h₀ : Rg msk b₀ s) (hm₀ : 0 ||| msk = msk) :
    Rg msk b₀ (State.raiseIs s q port st) := by
  refine Rg.step h₀ ?_ hm₀
  clear h₀ hm₀
  unfold State.raiseIs
  try dsimp only
  repeat' (first
    | with_reducible exact Rg.refl _ _
    | refine Rg.mk' ?_)

theorem State.raiseLost_rg {msk : Nat} {b₀ : State} {s : State} {q : Nat} {port : Nat} (h₀ : Rg msk b₀ s) (hm₀ : 96107167241834975113312584178489302142293605565962147372848331649539142662670648949836895040372147428388885465592935737162238084034310412884046204291453620000 ||| msk = msk) :
    Rg msk b₀ (State.raiseLost s q port) := by
  refine Rg.step h₀ ?_ hm₀
  clear h₀ hm₀
  unfold State.raiseLost
  try dsimp only
  repeat' (first
    | with_reducible exact Rg.refl _ _
    | exact (rfl : (_ : Nat) = _)
    | with_reducible refine State.raise_rg ?_ ?_
    | with_reducible refine State.raiseIs_rg ?_ ?_
    | with_reducible refine State.arbDecide_rg ?_ ?_
    | with_reducible refine State.failFor_rg ?_ ?_
    | refine Rg.mk' ?_)

theorem State.enterTakeovers_rg {msk : Nat} {b₀ : State} {s : State} {start : DWord} (h₀ : Rg msk b₀ s) (hm₀ : 0 ||| msk = msk) :
    Rg msk b₀ (State.enterTakeovers s start) := by
  refine Rg.step h₀ ?_ hm₀
  clear h₀ hm₀
  unfold State.enterTakeovers
  try dsimp only
  repeat' (first
    | with_reducible exact Rg.refl _ _
    | refine Rg.mk' ?_)

theorem State.anaChanged_rg {msk : Nat} {b₀ : State} {s : State} (h₀ : Rg msk b₀ s) (hm₀ : 0 ||| msk = msk) :
    Rg msk b₀ (State.anaChanged s) := by
  refine Rg.step h₀ ?_ hm₀
  clear h₀ hm₀
  unfold State.anaChanged
  try dsimp only
  repeat' (first
    | with_reducible exact Rg.refl _ _
    | refine Rg.mk' ?_)

theorem State.setRole_rg {msk : Nat} {b₀ : State} {s : State} {r : Nat} (h₀ : Rg msk b₀ s) (hm₀ : 96107167241834975113312584178489302142293605564797270107328970226063516863887944044424637143736816847595988680424325303754627973684073245406369949123031926560 ||| msk = msk) :
    Rg msk b₀ (State.setRole s r) := by
  refine Rg.step h₀ ?_ hm₀
  clear h₀ hm₀
  unfold State.setRole
  try dsimp only
  repeat' (first
    | with_reducible exact Rg.refl _ _
    | exact (rfl : (_ : Nat) = _)
    | with_reducible refine State.putBit_rg ?_ ?_
    | with_reducible refine State.putFld_rg ?_ ?_
    | with_reducible refine State.record_rg ?_ ?_
    | with_reducible refine State.anaChanged_rg ?_ ?_
    | with_reducible refine State.event_rg ?_ ?_
    | with_reducible refine in_RN_STATUS ?_
    | with_reducible refine in_TD_STATE ?_
    | exact (rfl : (_ : Bool) = _)
    | with_reducible refine Rg.ite ?_ ?_)

theorem State.declareLost_rg {msk : Nat} {b₀ : State} {s : State} (h₀ : Rg msk b₀ s) (hm₀ : 7215016382104062405229970578411442015226518750564972182796636275918387651280216464375916285412807551801983238176 ||| msk = msk) :
    Rg msk b₀ (State.declareLost s) := by
  refine Rg.step h₀ ?_ hm₀
  clear h₀ hm₀
  unfold State.declareLost
  try dsimp only
  repeat' (first
    | with_reducible exact Rg.refl _ _
    | exact (rfl : (_ : Nat) = _)
    | with_reducible refine State.count_rg ?_ ?_
    | with_reducible refine State.event_rg ?_ ?_
    | with_reducible refine State.wr64_rg ?_ ?_ ?_
    | with_reducible refine State.putBit_rg ?_ ?_
    | with_reducible refine in_RN_STATUS ?_
    | with_reducible refine in_TD_LOST_AT ?_
    | with_reducible refine in_TD_LOST_AT4 ?_
    | with_reducible refine in_TD_TAKEOVERS ?_
    | exact (rfl : (_ : Bool) = _))

theorem State.takeoverStart_rg {msk : Nat} {b₀ : State} {s : State} (h₀ : Rg msk b₀ s) (hm₀ : 96107167241834975113312584178489302142293605572011992921610185902140001257224787392522844361924724139429385501065067861313944329748111294629262005224716963616 ||| msk = msk) :
    Rg msk b₀ (State.takeoverStart s) := by
  refine Rg.step h₀ ?_ hm₀
  clear h₀ hm₀
  unfold State.takeoverStart
  try dsimp only
  repeat' (first
    | with_reducible exact Rg.refl _ _
    | with_reducible assumption
    | exact (rfl : (_ : Nat) = _)
    | with_reducible refine State.enterTakeovers_rg ?_ ?_
    | with_reducible refine State.setRole_rg ?_ ?_
    | with_reducible refine State.declareLost_rg ?_ ?_
    | with_reducible refine State.raiseAll_rg ?_ ?_
    | with_reducible refine Rg.foldl ?_ _ _ ?_
    | intro _ _ _)

theorem State.arbStart_rg {msk : Nat} {b₀ : State} {s : State} (h₀ : Rg msk b₀ s) (hm₀ : 96107167241834975113312584178489302142293605565999723909709172838742930929444084602441097036719425270418720613942612757020546714481041858764254125462963425056 ||| msk = msk) :
    Rg msk b₀ (State.arbStart s) := by
  refine Rg.step h₀ ?_ hm₀
  clear h₀ hm₀
  unfold State.arbStart
  try dsimp only
  repeat' (first
    | with_reducible exact Rg.refl _ _
    | with_reducible assumption
    | exact (rfl : (_ : Nat) = _)
    | with_reducible refine State.setRole_rg ?_ ?_
    | with_reducible refine State.sendRaise_rg ?_ ?_
    | with_reducible refine State.wrN_rg ?_ ?_
    | with_reducible refine in_TD_ARB ?_
    | exact (rfl : (_ : Bool) = _)
    | with_reducible refine Rg.foldl ?_ _ _ ?_
    | intro _ _ _
    | refine Rg.mk' ?_)

theorem State.goSolo_rg {msk : Nat} {b₀ : State} {s : State} (h₀ : Rg msk b₀ s) (hm₀ : 143343663499379469475676305956380433800627810156366027727196919161440232280576107468499550427011790932000 ||| msk = msk) :
    Rg msk b₀ (State.goSolo s) := by
  refine Rg.step h₀ ?_ hm₀
  clear h₀ hm₀
  unfold State.goSolo
  try dsimp only
  repeat' (first
    | with_reducible exact Rg.refl _ _
    | with_reducible assumption
    | exact (rfl : (_ : Nat) = _)
    | with_reducible refine State.putBit_rg ?_ ?_
    | with_reducible refine State.commitPart_rg ?_ ?_
    | with_reducible refine in_CIST_STATUS ?_
    | with_reducible refine InSet.ite ?_ ?_
    | exact (rfl : (_ : Bool) = _)
    | dsimp only
    | with_reducible refine Rg.ite ?_ ?_
    | with_reducible refine Rg.ite₁ ?_ ?_
    | with_reducible refine RgS.ite ?_ ?_
    | with_reducible refine RgP.ite ?_ ?_
    | with_reducible exact RgS.none
    | with_reducible refine RgS.some ?_
    | with_reducible refine RgS.map ?_
    | with_reducible exact RgP.none
    | with_reducible refine RgP.some ?_
    | with_reducible refine Rg.elim ?_ ?_
    | with_reducible refine Rg.foldl ?_ _ _ ?_
    | with_reducible refine Rg.foldl₂ ?_ _ _ ?_
    | intro _ _ _ _ _ _
    | intro _ _ _ _ _
    | intro _ _ _ _
    | intro _ _ _
    | intro _ _
    | intro _
    | with_reducible refine Rg.pair (h := ?_) (e := by assumption)
    | with_reducible refine RgO.got (h := ?_) (e := by assumption)
    | with_reducible refine RgS.get (h := ?_) (e := by assumption)
    | with_reducible refine RgP.get (h := ?_) (e := by assumption)
    | split)

theorem State.roleEval_rg {msk : Nat} {b₀ : State} {s : State} (h₀ : Rg msk b₀ s) (hm₀ : 96107167241834975113312584178489302142293605573214446867334052014198884798457233906919627627593594069597546205686478043612856133377632650301814008188858601248 ||| msk = msk) :
    Rg msk b₀ (State.roleEval s) := by
  refine Rg.step h₀ ?_ hm₀
  clear h₀ hm₀
  unfold State.roleEval
  try dsimp only
  repeat' (first
    | with_reducible exact Rg.refl _ _
    | with_reducible assumption
    | exact (rfl : (_ : Nat) = _)
    | with_reducible refine State.takeoverStart_rg ?_ ?_
    | with_reducible refine State.arbStart_rg ?_ ?_
    | with_reducible refine State.event_rg ?_ ?_
    | with_reducible refine State.goSolo_rg ?_ ?_
    | dsimp only
    | with_reducible refine Rg.ite ?_ ?_
    | with_reducible refine Rg.ite₁ ?_ ?_
    | with_reducible refine RgS.ite ?_ ?_
    | with_reducible refine RgP.ite ?_ ?_
    | with_reducible exact RgS.none
    | with_reducible refine RgS.some ?_
    | with_reducible refine RgS.map ?_
    | with_reducible exact RgP.none
    | with_reducible refine RgP.some ?_
    | with_reducible refine Rg.elim ?_ ?_
    | with_reducible refine Rg.foldl ?_ _ _ ?_
    | with_reducible refine Rg.foldl₂ ?_ _ _ ?_
    | intro _ _ _ _ _ _
    | intro _ _ _ _ _
    | intro _ _ _ _
    | intro _ _ _
    | intro _ _
    | intro _
    | with_reducible refine Rg.pair (h := ?_) (e := by assumption)
    | with_reducible refine RgO.got (h := ?_) (e := by assumption)
    | with_reducible refine RgS.get (h := ?_) (e := by assumption)
    | with_reducible refine RgP.get (h := ?_) (e := by assumption)
    | split
    | refine Rg.mk' ?_)

theorem State.fenceInApply_rg {msk : Nat} {b₀ : State} {s : State} (h₀ : Rg msk b₀ s) (hm₀ : 96107167241834975113312584178489302142293605564759693426004588894417285174339314651986626222954283729664672024879809959352794238588654061432213649874520966944 ||| msk = msk) :
    Rg msk b₀ (State.fenceInApply s) := by
  refine Rg.step h₀ ?_ hm₀
  clear h₀ hm₀
  unfold State.fenceInApply
  try dsimp only
  repeat' (first
    | with_reducible exact Rg.refl _ _
    | with_reducible assumption
    | exact (rfl : (_ : Nat) = _)
    | with_reducible refine State.raise_rg ?_ ?_
    | dsimp only
    | with_reducible refine Rg.ite ?_ ?_
    | with_reducible refine Rg.ite₁ ?_ ?_
    | with_reducible refine RgS.ite ?_ ?_
    | with_reducible refine RgP.ite ?_ ?_
    | with_reducible exact RgS.none
    | with_reducible refine RgS.some ?_
    | with_reducible refine RgS.map ?_
    | with_reducible exact RgP.none
    | with_reducible refine RgP.some ?_
    | with_reducible refine Rg.elim ?_ ?_
    | with_reducible refine Rg.foldl ?_ _ _ ?_
    | with_reducible refine Rg.foldl₂ ?_ _ _ ?_
    | intro _ _ _ _ _ _
    | intro _ _ _ _ _
    | intro _ _ _ _
    | intro _ _ _
    | intro _ _
    | intro _
    | with_reducible refine Rg.pair (h := ?_) (e := by assumption)
    | with_reducible refine RgO.got (h := ?_) (e := by assumption)
    | with_reducible refine RgS.get (h := ?_) (e := by assumption)
    | with_reducible refine RgP.get (h := ?_) (e := by assumption)
    | split
    | refine Rg.mk' ?_)

theorem execTakeover_rg {msk : Nat} {b₀ : State} {s : State} (h₀ : Rg msk b₀ s) (hm₀ : 96107167241834975113312584178489302142293605572011992921610185902140001257224787392522844361924724139429385501065067861313944329748111294629262005224716963616 ||| msk = msk) :
    RgO msk b₀ (execTakeover s) := by
  refine RgO.step h₀ ?_ hm₀
  clear h₀ hm₀
  unfold execTakeover
  try dsimp only
  repeat' (first
    | with_reducible exact Rg.refl _ _
    | exact (rfl : (_ : Nat) = _)
    | with_reducible refine State.takeoverStart_rg ?_ ?_
    | with_reducible refine Rg.ite ?_ ?_
    | with_reducible refine RgO.next ?_
    | refine Rg.mk' ?_)

theorem execFenceHead_rg {msk : Nat} {b₀ : State} {page : Nat} {code : Nat} {sub : Nat} {s : State} (h₀ : Rg msk b₀ s) (hm₀ : 96107167241834975113312584178489302142293605564759693426004588894417285174339314651986626222954283729664672024879809959352794238588654061432213649874520966944 ||| msk = msk) :
    RgO msk b₀ (execFenceHead page code sub s) := by
  refine RgO.step h₀ ?_ hm₀
  clear h₀ hm₀
  unfold execFenceHead
  try dsimp only
  repeat' (first
    | with_reducible exact Rg.refl _ _
    | exact (rfl : (_ : Nat) = _)
    | with_reducible refine State.raise_rg ?_ ?_
    | with_reducible refine RgO.next ?_)

theorem State.holderSeen_rg {msk : Nat} {b₀ : State} {s : State} {q : Nat} {port : Nat} {epoch : Nat} {holder : Nat} (h₀ : Rg msk b₀ s) (hm₀ : 86271829334882047342934448278462818155638862152129831939531552797491232 ||| msk = msk) :
    Rg msk b₀ (State.holderSeen s q port epoch holder) := by
  refine Rg.step h₀ ?_ hm₀
  clear h₀ hm₀
  unfold State.holderSeen
  try dsimp only
  repeat' (first
    | with_reducible exact Rg.refl _ _
    | exact (rfl : (_ : Nat) = _)
    | with_reducible refine State.putBit_rg ?_ ?_
    | with_reducible refine State.wrN_rg ?_ ?_
    | with_reducible refine State.event_rg ?_ ?_
    | with_reducible refine in_MLK_MOD_EPOCH0 ?_
    | with_reducible refine in_MLK_MOD_EPOCH1 ?_
    | with_reducible refine in_MLK_STATUS ?_
    | with_reducible refine InSet.ite ?_ ?_
    | exact (rfl : (_ : Bool) = _)
    | with_reducible refine Rg.ite ?_ ?_
    | split)

theorem State.holdShow_rg {msk : Nat} {b₀ : State} {s : State} (h₀ : Rg msk b₀ s) (hm₀ : 37576681324381331646231689548629392438010920782533117931316655544515344401833735095419183974156299248510959616 ||| msk = msk) :
    Rg msk b₀ (State.holdShow s) := by
  refine Rg.step h₀ ?_ hm₀
  clear h₀ hm₀
  unfold State.holdShow
  try dsimp only
  repeat' (first
    | with_reducible exact Rg.refl _ _
    | with_reducible refine State.putBit_rg ?_ ?_
    | with_reducible refine in_TD_STATE ?_
    | exact (rfl : (_ : Bool) = _))

theorem State.learnEpoch_rg {msk : Nat} {b₀ : State} {s : State} {q : Nat} {port : Nat} {epoch : Nat} {holder : Nat} (h₀ : Rg msk b₀ s) (hm₀ : 37576681324381331646231689548629392438097192611867999978659589992793807219989373957571313806095830801308450848 ||| msk = msk) :
    Rg msk b₀ (State.learnEpoch s q port epoch holder) := by
  refine Rg.step h₀ ?_ hm₀
  clear h₀ hm₀
  unfold State.learnEpoch
  try dsimp only
  repeat' (first
    | with_reducible exact Rg.refl _ _
    | exact (rfl : (_ : Nat) = _)
    | with_reducible refine State.holderSeen_rg ?_ ?_
    | with_reducible refine State.holdShow_rg ?_ ?_
    | split
    | refine Rg.mk' ?_)

theorem execTakeoverDone_rg {msk : Nat} {b₀ : State} {data : PaddockData} {s : State} (h₀ : Rg msk b₀ s) (hm₀ : 96107167241834975113312584178489302142293605564759693569365750399595018745410615910739890747341765468520008060868151649931968700410557507780132969594254069536 ||| msk = msk) :
    RgO msk b₀ (execTakeoverDone data s) := by
  refine RgO.step h₀ ?_ hm₀
  clear h₀ hm₀
  unfold execTakeoverDone
  try dsimp only
  repeat' (first
    | with_reducible exact Rg.refl _ _
    | with_reducible assumption
    | exact (rfl : (_ : Nat) = _)
    | with_reducible refine State.recoverPaddock_rg ?_ ?_
    | with_reducible refine State.joinPaddock_rg ?_ ?_
    | with_reducible refine State.anaChanged_rg ?_ ?_
    | with_reducible refine State.event_rg ?_ ?_
    | with_reducible refine RgO.ite ?_ ?_
    | with_reducible refine RgO.next ?_
    | with_reducible refine Rg.foldl ?_ _ _ ?_
    | intro _ _ _
    | refine Rg.mk' ?_)

theorem State.raiseGranted_rg {msk : Nat} {b₀ : State} {s : State} {q : Nat} {port : Nat} {new : Nat} {toOther : Bool} (h₀ : Rg msk b₀ s) (hm₀ : 96107167241834975113312584178489302142293605565999723909709172838742930929444084602441183308548760152466063548390891219838702353343193988596193657015760916256 ||| msk = msk) :
    Rg msk b₀ (State.raiseGranted s q port new toOther) := by
  refine Rg.step h₀ ?_ hm₀
  clear h₀ hm₀
  unfold State.raiseGranted
  try dsimp only
  repeat' (first
    | with_reducible exact Rg.refl _ _
    | exact (rfl : (_ : Nat) = _)
    | with_reducible refine State.raiseIs_rg ?_ ?_
    | with_reducible refine State.holderSeen_rg ?_ ?_
    | with_reducible refine State.arbDecide_rg ?_ ?_
    | with_reducible refine State.holdShow_rg ?_ ?_
    | split
    | refine Rg.mk' ?_)

theorem State.raiseRefused_rg {msk : Nat} {b₀ : State} {s : State} {q : Nat} {port : Nat} {cur : Nat} {holder : Nat} {toOther : Bool} {retried : Bool} (h₀ : Rg msk b₀ s) (hm₀ : 96107167241834975113312584178489302142293605565999723909709172838742930929444084602441183308548760152466063548390891219838702353343193988596193657015760916256 ||| msk = msk) :
    Rg msk b₀ (State.raiseRefused s q port cur holder toOther retried) := by
  refine Rg.step h₀ ?_ hm₀
  clear h₀ hm₀
  unfold State.raiseRefused
  try dsimp only
  repeat' (first
    | with_reducible exact Rg.refl _ _
    | exact (rfl : (_ : Nat) = _)
    | with_reducible refine State.raise_rg ?_ ?_
    | with_reducible refine State.learnEpoch_rg ?_ ?_
    | with_reducible refine State.sendRaise_rg ?_ ?_
    | with_reducible refine State.arbDecide_rg ?_ ?_
    | with_reducible refine State.raiseIs_rg ?_ ?_
    | with_reducible refine Rg.ite ?_ ?_)

theorem execFenceInHigh_rg {msk : Nat} {b₀ : State} {s : State} (h₀ : Rg msk b₀ s) (hm₀ : 293567822846729153486185074598667128421960318613539983838411371441526128139326055432962374798096087878991872 ||| msk = msk) :
    RgO msk b₀ (execFenceInHigh s) := by
  refine RgO.step h₀ ?_ hm₀
  clear h₀ hm₀
  unfold execFenceInHigh
  try dsimp only
  repeat' (first
    | with_reducible exact Rg.refl _ _
    | exact (rfl : (_ : Nat) = _)
    | with_reducible refine State.putBit_rg ?_ ?_
    | with_reducible refine in_RN_STATUS ?_
    | exact (rfl : (_ : Bool) = _)
    | with_reducible refine Rg.ite ?_ ?_
    | with_reducible refine RgO.next ?_
    | refine Rg.mk' ?_)

theorem execTlLinkDownSplit_rg {msk : Nat} {b₀ : State} {s : State} (h₀ : Rg msk b₀ s) (hm₀ : 96107167241834975113312584178489302142293605573214446867334052014198884798457233906919627627593594069597546205686478043612856133377632650301814008188858601248 ||| msk = msk) :
    RgO msk b₀ (execTlLinkDownSplit s) := by
  refine RgO.step h₀ ?_ hm₀
  clear h₀ hm₀
  unfold execTlLinkDownSplit
  try dsimp only
  repeat' (first
    | with_reducible exact Rg.refl _ _
    | exact (rfl : (_ : Nat) = _)
    | with_reducible refine State.raise_rg ?_ ?_
    | with_reducible refine State.roleEval_rg ?_ ?_
    | with_reducible refine RgO.ite ?_ ?_
    | with_reducible refine RgO.next ?_
    | refine Rg.mk' ?_)

theorem State.adoptEntry_rg {msk : Nat} {b₀ : State} {s : State} {cseq : Nat} {p : Part} (h₀ : Rg msk b₀ s) (hm₀ : 39402006196394479212279040100143613805079739270465446667948293404245721771498571740881950008738769139236355063152640 ||| msk = msk) :
    Rg msk b₀ (State.adoptEntry s cseq p) := by
  refine Rg.step h₀ ?_ hm₀
  clear h₀ hm₀
  unfold State.adoptEntry
  try dsimp only
  repeat' (first
    | with_reducible exact Rg.refl _ _
    | exact (rfl : (_ : Nat) = _)
    | with_reducible refine State.replRecord_rg ?_ ?_
    | with_reducible refine State.putPart_rg ?_ ?_
    | with_reducible refine State.setCam_rg ?_ ?_
    | with_reducible refine Rg.ite ?_ ?_
    | split)

theorem execRaiseRetry_rg {msk : Nat} {b₀ : State} {q : Nat} {port : Nat} {s : State} (h₀ : Rg msk b₀ s) (hm₀ : 110427941548649020598956093796432407239217743554726184882600387580790784 ||| msk = msk) :
    RgO msk b₀ (execRaiseRetry q port s) := by
  refine RgO.step h₀ ?_ hm₀
  clear h₀ hm₀
  unfold execRaiseRetry
  try dsimp only
  repeat' (first
    | with_reducible exact Rg.refl _ _
    | exact (rfl : (_ : Nat) = _)
    | with_reducible refine State.sendRaise_rg ?_ ?_
    | with_reducible refine Rg.ite ?_ ?_
    | with_reducible refine RgO.next ?_
    | split)

theorem State.modBack_rg {msk : Nat} {b₀ : State} {s : State} {q : Nat} {port : Nat} (h₀ : Rg msk b₀ s) (hm₀ : 0 ||| msk = msk) :
    Rg msk b₀ (State.modBack s q port) := by
  refine Rg.step h₀ ?_ hm₀
  clear h₀ hm₀
  unfold State.modBack
  try dsimp only
  repeat' (first
    | with_reducible exact Rg.refl _ _
    | with_reducible refine Rg.ite ?_ ?_
    | refine Rg.mk' ?_)

theorem State.epochAdvance_rg {msk : Nat} {b₀ : State} {s : State} (h₀ : Rg msk b₀ s) (hm₀ : 0 ||| msk = msk) :
    Rg msk b₀ (State.epochAdvance s) := by
  refine Rg.step h₀ ?_ hm₀
  clear h₀ hm₀
  unfold State.epochAdvance
  try dsimp only
  repeat' (first
    | with_reducible exact Rg.refl _ _
    | with_reducible assumption
    | exact (rfl : (_ : Nat) = _)
    | with_reducible refine State.modBack_rg ?_ ?_
    | dsimp only
    | with_reducible refine Rg.ite ?_ ?_
    | with_reducible refine Rg.ite₁ ?_ ?_
    | with_reducible refine RgS.ite ?_ ?_
    | with_reducible refine RgP.ite ?_ ?_
    | with_reducible exact RgS.none
    | with_reducible refine RgS.some ?_
    | with_reducible refine RgS.map ?_
    | with_reducible exact RgP.none
    | with_reducible refine RgP.some ?_
    | with_reducible refine Rg.elim ?_ ?_
    | with_reducible refine Rg.foldl ?_ _ _ ?_
    | with_reducible refine Rg.foldl₂ ?_ _ _ ?_
    | intro _ _ _ _ _ _
    | intro _ _ _ _ _
    | intro _ _ _ _
    | intro _ _ _
    | intro _ _
    | intro _
    | with_reducible refine Rg.pair (h := ?_) (e := by assumption)
    | with_reducible refine RgO.got (h := ?_) (e := by assumption)
    | with_reducible refine RgS.get (h := ?_) (e := by assumption)
    | with_reducible refine RgP.get (h := ?_) (e := by assumption)
    | split
    | refine Rg.mk' ?_)

theorem State.arbApply_rg {msk : Nat} {b₀ : State} {s : State} (h₀ : Rg msk b₀ s) (hm₀ : 96107167241834975113312584178489302142293605572011992921610185902140001257224787392522844361924724139429385501065067861313944329748111294629262005224716963616 ||| msk = msk) :
    Rg msk b₀ (State.arbApply s) := by
  refine Rg.step h₀ ?_ hm₀
  clear h₀ hm₀
  unfold State.arbApply
  try dsimp only
  repeat' (first
    | with_reducible exact Rg.refl _ _
    | with_reducible assumption
    | exact (rfl : (_ : Nat) = _)
    | with_reducible refine State.enterTakeovers_rg ?_ ?_
    | with_reducible refine State.setRole_rg ?_ ?_
    | with_reducible refine State.declareLost_rg ?_ ?_
    | with_reducible refine State.sendRaise_rg ?_ ?_
    | with_reducible refine Rg.ite ?_ ?_
    | with_reducible refine Rg.foldl ?_ _ _ ?_
    | intro _ _ _
    | refine Rg.mk' ?_)

theorem State.partnerVols_rg {msk : Nat} {b₀ : State} {s : State} {vols : Amap Vol} (h₀ : Rg msk b₀ s) (hm₀ : 0 ||| msk = msk) :
    Rg msk b₀ (State.partnerVols s vols) := by
  refine Rg.step h₀ ?_ hm₀
  clear h₀ hm₀
  unfold State.partnerVols
  try dsimp only
  repeat' (first
    | with_reducible exact Rg.refl _ _
    | refine Rg.mk' ?_)

theorem execJoinTandem_rg {msk : Nat} {b₀ : State} {vols : Amap Vol} {s : State} (h₀ : Rg msk b₀ s) (hm₀ : 96107167241834975113312584178489302142293605564797270107328970226063516863887944044424637143736816847595988680427179799140039893446189817345268939395797419808 ||| msk = msk) :
    RgO msk b₀ (execJoinTandem vols s) := by
  refine RgO.step h₀ ?_ hm₀
  clear h₀ hm₀
  unfold execJoinTandem
  try dsimp only
  repeat' (first
    | with_reducible exact Rg.refl _ _
    | exact (rfl : (_ : Nat) = _)
    | with_reducible refine State.partnerVols_rg ?_ ?_
    | with_reducible refine State.setMirrorUp_rg ?_ ?_
    | with_reducible refine State.setRole_rg ?_ ?_
    | with_reducible refine RgO.ite ?_ ?_
    | with_reducible refine RgO.next ?_
    | refine Rg.mk' ?_)

theorem execFenceInFall_rg {msk : Nat} {b₀ : State} {s : State} (h₀ : Rg msk b₀ s) (hm₀ : 293567822846729153486185074598667128421960318613539983838411371441526128139326055432962374798096087878991872 ||| msk = msk) :
    RgO msk b₀ (execFenceInFall s) := by
  refine RgO.step h₀ ?_ hm₀
  clear h₀ hm₀
  unfold execFenceInFall
  try dsimp only
  repeat' (first
    | with_reducible exact Rg.refl _ _
    | with_reducible refine State.putBit_rg ?_ ?_
    | with_reducible refine in_RN_STATUS ?_
    | exact (rfl : (_ : Bool) = _)
    | with_reducible refine RgO.next ?_
    | refine Rg.mk' ?_)

theorem State.takeoverApply_rg {msk : Nat} {b₀ : State} {s : State} (h₀ : Rg msk b₀ s) (hm₀ : 39402006196537822875778419569619290111036119704266074478104659431972918690658650843694842362353415191233639781435424 ||| msk = msk) :
    Rg msk b₀ (State.takeoverApply s) := by
  refine Rg.step h₀ ?_ hm₀
  clear h₀ hm₀
  unfold State.takeoverApply
  try dsimp only
  repeat' (first
    | with_reducible exact Rg.refl _ _
    | with_reducible assumption
    | exact (rfl : (_ : Nat) = _)
    | with_reducible refine State.setSync_rg ?_ ?_
    | with_reducible refine State.putBit_rg ?_ ?_
    | with_reducible refine State.goSolo_rg ?_ ?_
    | with_reducible refine State.adoptEntry_rg ?_ ?_
    | with_reducible refine in_STR_STATUS ?_
    | with_reducible refine InSet.ite ?_ ?_
    | exact (rfl : (_ : Bool) = _)
    | dsimp only
    | with_reducible refine Rg.ite ?_ ?_
    | with_reducible refine Rg.ite₁ ?_ ?_
    | with_reducible refine RgS.ite ?_ ?_
    | with_reducible refine RgP.ite ?_ ?_
    | with_reducible exact RgS.none
    | with_reducible refine RgS.some ?_
    | with_reducible refine RgS.map ?_
    | with_reducible exact RgP.none
    | with_reducible refine RgP.some ?_
    | with_reducible refine Rg.elim ?_ ?_
    | with_reducible refine Rg.foldl ?_ _ _ ?_
    | with_reducible refine Rg.foldl₂ ?_ _ _ ?_
    | intro _ _ _ _ _ _
    | intro _ _ _ _ _
    | intro _ _ _ _
    | intro _ _ _
    | intro _ _
    | intro _
    | with_reducible refine Rg.pair (h := ?_) (e := by assumption)
    | with_reducible refine RgO.got (h := ?_) (e := by assumption)
    | with_reducible refine RgS.get (h := ?_) (e := by assumption)
    | with_reducible refine RgP.get (h := ?_) (e := by assumption)
    | split
    | refine Rg.mk' ?_)

theorem State.fenceCommands_rg {msk : Nat} {b₀ : State} {s : State} (h₀ : Rg msk b₀ s) (hm₀ : 143343663499379469475676305956380433800627810156366027727182646684513172681765524608805055475647963465760 ||| msk = msk) :
    Rg msk b₀ (State.fenceCommands s) := by
  refine Rg.step h₀ ?_ hm₀
  clear h₀ hm₀
  unfold State.fenceCommands
  try dsimp only
  repeat' (first
    | with_reducible exact Rg.refl _ _
    | exact (rfl : (_ : Nat) = _)
    | with_reducible refine State.completeAll_rg ?_ ?_)

theorem execJoinStandby_rg {msk : Nat} {b₀ : State} {vols : Amap Vol} {s : State} (h₀ : Rg msk b₀ s) (hm₀ : 96107167241834975113312584178489302142293605564797270107328970226063516863887944044424637143736816847595988680424325303754627973684073245406369949123031926560 ||| msk = msk) :
    RgO msk b₀ (execJoinStandby vols s) := by
  refine RgO.step h₀ ?_ hm₀
  clear h₀ hm₀
  unfold execJoinStandby
  try dsimp only
  repeat' (first
    | with_reducible exact Rg.refl _ _
    | exact (rfl : (_ : Nat) = _)
    | with_reducible refine State.partnerVols_rg ?_ ?_
    | with_reducible refine State.clearPaddock_rg ?_ ?_
    | with_reducible refine State.setRole_rg ?_ ?_
    | with_reducible refine RgO.ite ?_ ?_
    | with_reducible refine RgO.next ?_
    | refine Rg.mk' ?_)

theorem execRaiseTimeout_rg {msk : Nat} {b₀ : State} {q : Nat} {port : Nat} {s : State} (h₀ : Rg msk b₀ s) (hm₀ : 96107167241834975113312584178489302142293605565962147372848331649539142662670648949836895040372147428388885465592935737162238084034310412884046204291453620000 ||| msk = msk) :
    RgO msk b₀ (execRaiseTimeout q port s) := by
  refine RgO.step h₀ ?_ hm₀
  clear h₀ hm₀
  unfold execRaiseTimeout
  try dsimp only
  repeat' (first
    | with_reducible exact Rg.refl _ _
    | exact (rfl : (_ : Nat) = _)
    | with_reducible refine State.raiseLost_rg ?_ ?_
    | with_reducible refine Rg.ite ?_ ?_
    | with_reducible refine RgO.next ?_
    | split)

theorem execArbTieWait_rg {msk : Nat} {b₀ : State} {s : State} (h₀ : Rg msk b₀ s) (hm₀ : 96107167241834975113312584178489302142293605572011992921610185902140001257224787392522844361924724139429385501065067861313944329748111294629262005224716963616 ||| msk = msk) :
    RgO msk b₀ (execArbTieWait s) := by
  refine RgO.step h₀ ?_ hm₀
  clear h₀ hm₀
  unfold execArbTieWait
  try dsimp only
  repeat' (first
    | with_reducible exact Rg.refl _ _
    | exact (rfl : (_ : Nat) = _)
    | with_reducible refine State.takeoverStart_rg ?_ ?_
    | with_reducible refine State.raiseAll_rg ?_ ?_
    | with_reducible refine RgO.ite ?_ ?_
    | with_reducible refine RgO.next ?_
    | split
    | refine Rg.mk' ?_)

theorem execJoinWaitTimeout_rg {msk : Nat} {b₀ : State} {s : State} (h₀ : Rg msk b₀ s) (hm₀ : 96107167241834975113312584178489302142293605572011992921610185902140001257224787392522844361924724139429385501065067861313944329748111294629262005224716963616 ||| msk = msk) :
    RgO msk b₀ (execJoinWaitTimeout s) := by
  refine RgO.step h₀ ?_ hm₀
  clear h₀ hm₀
  unfold execJoinWaitTimeout
  try dsimp only
  repeat' (first
    | with_reducible exact Rg.refl _ _
    | exact (rfl : (_ : Nat) = _)
    | with_reducible refine State.takeoverStart_rg ?_ ?_
    | with_reducible refine Rg.ite ?_ ?_
    | with_reducible refine RgO.next ?_
    | split
    | refine Rg.mk' ?_)

theorem execFenceOutRelease_rg {msk : Nat} {b₀ : State} {s : State} (h₀ : Rg msk b₀ s) (hm₀ : 293567822846729153486185074598667128421960318613539983838411371441526128139326055432962374798096087878991872 ||| msk = msk) :
    RgO msk b₀ (execFenceOutRelease s) := by
  refine RgO.step h₀ ?_ hm₀
  clear h₀ hm₀
  unfold execFenceOutRelease
  try dsimp only
  repeat' (first
    | with_reducible exact Rg.refl _ _
    | with_reducible refine State.putBit_rg ?_ ?_
    | with_reducible refine in_RN_STATUS ?_
    | exact (rfl : (_ : Bool) = _)
    | with_reducible refine Rg.ite ?_ ?_
    | with_reducible refine RgO.next ?_)

end Sys2Proof.Machine
end

