-- ==== Sys2Proof/Laws/RgRein.lean ====
section
/-! SUPPORT. Register frames of the operations of Machine.Rein: the registers that each may write. -/

set_option maxRecDepth 20000
set_option Elab.async false
set_option linter.unusedTactic false
set_option linter.unreachableTactic false
set_option linter.unusedVariables false

namespace Sys2Proof.Machine

theorem State.beatOn_rg {msk : Nat} {b₀ : State} {s : State} {rein : Nat} (h₀ : Rg msk b₀ s) (hm₀ : 0 ||| msk = msk) :
    Rg msk b₀ (State.beatOn s rein) := by
  refine Rg.step h₀ ?_ hm₀
  clear h₀ hm₀
  unfold State.beatOn
  try dsimp only
  repeat' (first
    | with_reducible exact Rg.refl _ _
    | exact (rfl : (_ : Nat) = _)
    | with_reducible refine State.emit_rg ?_ ?_
    | with_reducible refine Rg.ite ?_ ?_)

theorem execReinSilent_rg {msk : Nat} {b₀ : State} {rein : Nat} {s : State} (h₀ : Rg msk b₀ s) (hm₀ : 96107167241834975113312584178489302142293605573214446867334052014198884798457233906919627627593594069597546205686478043612856133377632650301814008188858601248 ||| msk = msk) :
    RgO msk b₀ (execReinSilent rein s) := by
  refine RgO.step h₀ ?_ hm₀
  clear h₀ hm₀
  unfold execReinSilent
  try dsimp only
  repeat' (first
    | with_reducible exact Rg.refl _ _
    | exact (rfl : (_ : Nat) = _)
    | with_reducible refine State.event_rg ?_ ?_
    | with_reducible refine State.putBit_rg ?_ ?_
    | with_reducible refine State.roleEval_rg ?_ ?_
    | with_reducible refine State.raise_rg ?_ ?_
    | with_reducible refine in_RN_STATUS ?_
    | exact (rfl : (_ : Bool) = _)
    | with_reducible refine Rg.ite ?_ ?_
    | with_reducible refine RgO.ite ?_ ?_
    | with_reducible refine RgO.next ?_
    | split
    | refine Rg.mk' ?_)

theorem execReinbSyncChange_rg {msk : Nat} {b₀ : State} {sync : Bool} {s : State} (h₀ : Rg msk b₀ s) (hm₀ : 18788340662190665823115844774314696219005460391266558965658327772257672200916867547709591987078149624255479808 ||| msk = msk) :
    RgO msk b₀ (execReinbSyncChange sync s) := by
  refine RgO.step h₀ ?_ hm₀
  clear h₀ hm₀
  unfold execReinbSyncChange
  try dsimp only
  repeat' (first
    | with_reducible exact Rg.refl _ _
    | with_reducible refine State.putBit_rg ?_ ?_
    | with_reducible refine in_RN_B_LINK ?_
    | exact (rfl : (_ : Bool) = _)
    | with_reducible refine RgO.next ?_)

theorem State.reinUp_rg {msk : Nat} {b₀ : State} {s : State} {rein : Nat} (h₀ : Rg msk b₀ s) (hm₀ : 293567822846729153486185074598667128421960318613539983838411371441526128139326055432962374798096087878991904 ||| msk = msk) :
    Rg msk b₀ (State.reinUp s rein) := by
  refine Rg.step h₀ ?_ hm₀
  clear h₀ hm₀
  unfold State.reinUp
  try dsimp only
  repeat' (first
    | with_reducible exact Rg.refl _ _
    | exact (rfl : (_ : Nat) = _)
    | with_reducible refine State.putBit_rg ?_ ?_
    | with_reducible refine State.event_rg ?_ ?_
    | with_reducible refine in_RN_STATUS ?_
    | exact (rfl : (_ : Bool) = _)
    | with_reducible refine Rg.ite ?_ ?_
    | split
    | refine Rg.mk' ?_)

theorem State.reinMiss_rg {msk : Nat} {b₀ : State} {s : State} (h₀ : Rg msk b₀ s) (hm₀ : 1761406937080374920917110447592002770531761911681239903030468228649156768835956332597774248788576527273951232 ||| msk = msk) :
    Rg msk b₀ (State.reinMiss s) := by
  refine Rg.step h₀ ?_ hm₀
  clear h₀ hm₀
  unfold State.reinMiss
  try dsimp only
  repeat' (first
    | with_reducible exact Rg.refl _ _
    | with_reducible refine State.count_rg ?_ ?_
    | with_reducible refine in_RN_A_MISS ?_
    | with_reducible refine in_RN_B_MISS ?_
    | exact (rfl : (_ : Bool) = _)
    | with_reducible refine Rg.ite ?_ ?_)

theorem State.beatTake_rg {msk : Nat} {b₀ : State} {s : State} {rein : Nat} {b : List Byte} {own : DWord} (h₀ : Rg msk b₀ s) (hm₀ : 96107167241834975113312584178489302142293605564811361506169276724810323223144986022969325038815578589837802659855675514973407299637272515711737120996844441376 ||| msk = msk) :
    Rg msk b₀ (State.beatTake s rein b own) := by
  refine Rg.step h₀ ?_ hm₀
  clear h₀ hm₀
  unfold State.beatTake
  try dsimp only
  repeat' (first
    | with_reducible exact Rg.refl _ _
    | exact (rfl : (_ : Nat) = _)
    | with_reducible refine State.wr64_rg ?_ ?_ ?_
    | with_reducible refine State.reinUp_rg ?_ ?_
    | with_reducible refine State.startResync_rg ?_ ?_
    | with_reducible refine State.raise_rg ?_ ?_
    | with_reducible refine in_RN_LAST_A ?_
    | with_reducible refine in_RN_LAST_A4 ?_
    | with_reducible refine in_RN_LAST_B ?_
    | with_reducible refine in_RN_LAST_B4 ?_
    | with_reducible refine InSet.ite ?_ ?_
    | exact (rfl : (_ : Bool) = _)
    | with_reducible refine Rg.ite ?_ ?_
    | split
    | refine Rg.mk' ?_)

theorem execReinBeatRx_rg {msk : Nat} {b₀ : State} {rein : Nat} {beat : List Byte} {ago : Nat} {s : State} (h₀ : Rg msk b₀ s) (hm₀ : 96107167241834975113312584178489302142293605564813710048752050558038212703741775359996700721364486909708509950827207723998521908080736214710121889699876376352 ||| msk = msk) :
    RgO msk b₀ (execReinBeatRx rein beat ago s) := by
  refine RgO.step h₀ ?_ hm₀
  clear h₀ hm₀
  unfold execReinBeatRx
  try dsimp only
  repeat' (first
    | with_reducible exact Rg.refl _ _
    | exact (rfl : (_ : Nat) = _)
    | with_reducible refine State.beatTake_rg ?_ ?_
    | with_reducible refine State.raise_rg ?_ ?_
    | with_reducible refine State.event_rg ?_ ?_
    | with_reducible refine State.count_rg ?_ ?_
    | with_reducible refine in_RN_AUTH_FAIL ?_
    | exact (rfl : (_ : Bool) = _)
    | with_reducible refine RgO.ite ?_ ?_
    | with_reducible refine RgO.next ?_)

theorem execHeadOkInChange_rg {msk : Nat} {b₀ : State} {high : Bool} {s : State} (h₀ : Rg msk b₀ s) (hm₀ : 96107167241834975113312584178489302142293605573214446867334052014198884798457233906919627627593594069597546205686478043612856133377632650301814008188858601248 ||| msk = msk) :
    RgO msk b₀ (execHeadOkInChange high s) := by
  refine RgO.step h₀ ?_ hm₀
  clear h₀ hm₀
  unfold execHeadOkInChange
  try dsimp only
  repeat' (first
    | with_reducible exact Rg.refl _ _
    | exact (rfl : (_ : Nat) = _)
    | with_reducible refine State.event_rg ?_ ?_
    | with_reducible refine State.putBit_rg ?_ ?_
    | with_reducible refine State.roleEval_rg ?_ ?_
    | with_reducible refine in_RN_STATUS ?_
    | exact (rfl : (_ : Bool) = _)
    | with_reducible refine Rg.ite ?_ ?_
    | with_reducible refine RgO.ite ?_ ?_
    | with_reducible refine RgO.next ?_
    | refine Rg.mk' ?_)

theorem State.beatSend_rg {msk : Nat} {b₀ : State} {s : State} (h₀ : Rg msk b₀ s) (hm₀ : 0 ||| msk = msk) :
    Rg msk b₀ (State.beatSend s) := by
  refine Rg.step h₀ ?_ hm₀
  clear h₀ hm₀
  unfold State.beatSend
  try dsimp only
  repeat' (first
    | with_reducible exact Rg.refl _ _
    | exact (rfl : (_ : Nat) = _)
    | with_reducible refine State.beatOn_rg ?_ ?_
    | with_reducible refine Rg.ite ?_ ?_
    | refine Rg.mk' ?_)

end Sys2Proof.Machine
end

