-- ==== Sys2Proof/Laws/RgTransfer.lean ====
section
/-! SUPPORT. Register frames of the operations of Machine.Transfer: the registers that each may write. -/

set_option maxRecDepth 20000
set_option Elab.async false
set_option linter.unusedTactic false
set_option linter.unreachableTactic false
set_option linter.unusedVariables false

namespace Sys2Proof.Machine

theorem State.setTransfer_rg {msk : Nat} {b₀ : State} {s : State} {t : Option Transfer} (h₀ : Rg msk b₀ s) (hm₀ : 0 ||| msk = msk) :
    Rg msk b₀ (State.setTransfer s t) := by
  refine Rg.step h₀ ?_ hm₀
  clear h₀ hm₀
  unfold State.setTransfer
  try dsimp only
  repeat' (first
    | with_reducible exact Rg.refl _ _
    | refine Rg.mk' ?_)

theorem State.holdMoving_rg {msk : Nat} {b₀ : State} {s : State} {h : Bool} (h₀ : Rg msk b₀ s) (hm₀ : 0 ||| msk = msk) :
    Rg msk b₀ (State.holdMoving s h) := by
  refine Rg.step h₀ ?_ hm₀
  clear h₀ hm₀
  unfold State.holdMoving
  try dsimp only
  repeat' (first
    | with_reducible exact Rg.refl _ _
    | refine Rg.mk' ?_)

theorem execTransferDrainEnd_rg {msk : Nat} {b₀ : State} {s : State} (h₀ : Rg msk b₀ s) (hm₀ : 0 ||| msk = msk) :
    RgO msk b₀ (execTransferDrainEnd s) := by
  refine RgO.step h₀ ?_ hm₀
  clear h₀ hm₀
  unfold execTransferDrainEnd
  try dsimp only
  repeat' (first
    | with_reducible exact Rg.refl _ _
    | exact (rfl : (_ : Nat) = _)
    | with_reducible refine State.setTransfer_rg ?_ ?_
    | with_reducible refine State.holdMoving_rg ?_ ?_
    | with_reducible refine Rg.ite ?_ ?_
    | with_reducible refine RgO.next ?_
    | split)

theorem State.drainStart_rg {msk : Nat} {b₀ : State} {s : State} {q : Nat} {handover : Bool} (h₀ : Rg msk b₀ s) (hm₀ : 0 ||| msk = msk) :
    Rg msk b₀ (State.drainStart s q handover) := by
  refine Rg.step h₀ ?_ hm₀
  clear h₀ hm₀
  unfold State.drainStart
  try dsimp only
  repeat' (first
    | with_reducible exact Rg.refl _ _
    | with_reducible assumption
    | exact (rfl : (_ : Nat) = _)
    | with_reducible refine State.closeSegment_rg ?_ ?_
    | with_reducible refine Rg.foldl ?_ _ _ ?_
    | intro _ _ _
    | refine Rg.mk' ?_)

theorem State.transferRun_rg {msk : Nat} {b₀ : State} {s : State} {op : Nat} (h₀ : Rg msk b₀ s) (hm₀ : 0 ||| msk = msk) :
    Rg msk b₀ (State.transferRun s op) := by
  refine Rg.step h₀ ?_ hm₀
  clear h₀ hm₀
  unfold State.transferRun
  try dsimp only
  repeat' (first
    | with_reducible exact Rg.refl _ _
    | exact (rfl : (_ : Nat) = _)
    | with_reducible refine State.drainStart_rg ?_ ?_)

theorem State.forwardHeld_rg {msk : Nat} {b₀ : State} {s : State} {n : Nat} (h₀ : Rg msk b₀ s) (hm₀ : 4730340895479522492697318096560554315393757788492928275202360325458358924858735140748842161695899336575008 ||| msk = msk) :
    Rg msk b₀ (State.forwardHeld s n) := by
  refine Rg.step h₀ ?_ hm₀
  clear h₀ hm₀
  unfold State.forwardHeld
  try dsimp only
  repeat' (first
    | with_reducible exact Rg.refl _ _
    | exact (rfl : (_ : Nat) = _)
    | with_reducible refine State.forward_rg ?_ ?_
    | with_reducible refine State.undo_rg ?_ ?_
    | with_reducible refine Rg.ite ?_ ?_
    | split)

theorem State.forwardAll_rg {msk : Nat} {b₀ : State} {s : State} (h₀ : Rg msk b₀ s) (hm₀ : 4730340895479522492697318096560554315393757788492928275202360325458358924858735140748842161695899336575008 ||| msk = msk) :
    Rg msk b₀ (State.forwardAll s) := by
  refine Rg.step h₀ ?_ hm₀
  clear h₀ hm₀
  unfold State.forwardAll
  try dsimp only
  repeat' (first
    | with_reducible exact Rg.refl _ _
    | with_reducible assumption
    | exact (rfl : (_ : Nat) = _)
    | with_reducible refine State.forwardHeld_rg ?_ ?_
    | with_reducible refine Rg.foldl ?_ _ _ ?_
    | intro _ _ _)

theorem State.tdAnswer_rg {msk : Nat} {b₀ : State} {s : State} {status : Nat} {queued : Bool} (h₀ : Rg msk b₀ s) (hm₀ : 150306725297525326584926758194517569752043683130132471725266622178061377607334940381676735896625196994043838464 ||| msk = msk) :
    Rg msk b₀ (State.tdAnswer s status queued) := by
  refine Rg.step h₀ ?_ hm₀
  clear h₀ hm₀
  unfold State.tdAnswer
  try dsimp only
  repeat' (first
    | with_reducible exact Rg.refl _ _
    | with_reducible refine State.wrN_rg ?_ ?_
    | with_reducible refine in_TD_CMD_STATUS ?_
    | exact (rfl : (_ : Bool) = _))

theorem State.transferStart_rg {msk : Nat} {b₀ : State} {s : State} {op : Nat} (h₀ : Rg msk b₀ s) (hm₀ : 6097165137335922326917182089439928247640528272719106705779985454338056221065484859269198124168060817549144309786878987078568452695603976077344 ||| msk = msk) :
    Rg msk b₀ (State.transferStart s op) := by
  refine Rg.step h₀ ?_ hm₀
  clear h₀ hm₀
  unfold State.transferStart
  try dsimp only
  repeat' (first
    | with_reducible exact Rg.refl _ _
    | exact (rfl : (_ : Nat) = _)
    | with_reducible refine State.actStart_rg ?_ ?_
    | with_reducible refine State.tdAnswer_rg ?_ ?_
    | with_reducible refine State.transferRun_rg ?_ ?_
    | with_reducible refine Rg.ite ?_ ?_)

theorem State.takeEpochs_rg {msk : Nat} {b₀ : State} {s : State} {q : Nat} {eps : List Nat} (h₀ : Rg msk b₀ s) (hm₀ : 37576681324381331646231689548629392438097192611867999978659589992793807219989373957571313806095830801308450848 ||| msk = msk) :
    Rg msk b₀ (State.takeEpochs s q eps) := by
  refine Rg.step h₀ ?_ hm₀
  clear h₀ hm₀
  unfold State.takeEpochs
  try dsimp only
  repeat' (first
    | with_reducible exact Rg.refl _ _
    | with_reducible assumption
    | exact (rfl : (_ : Nat) = _)
    | with_reducible refine State.holderSeen_rg ?_ ?_
    | with_reducible refine State.holdShow_rg ?_ ?_
    | with_reducible refine Rg.foldl ?_ _ _ ?_
    | intro _ _ _
    | refine Rg.mk' ?_)

theorem execTlTransfer_rg {msk : Nat} {b₀ : State} {paddock : Nat} {epochs : List Nat} {roots : List Nat} {data : PaddockData} {s : State} (h₀ : Rg msk b₀ s) (hm₀ : 37576681324381331646231689548629392438097192611867999978659589992793807219989373957571313806095830801308450848 ||| msk = msk) :
    RgO msk b₀ (execTlTransfer paddock epochs roots data s) := by
  refine RgO.step h₀ ?_ hm₀
  clear h₀ hm₀
  unfold execTlTransfer
  try dsimp only
  repeat' (first
    | with_reducible exact Rg.refl _ _
    | with_reducible assumption
    | exact (rfl : (_ : Nat) = _)
    | with_reducible refine State.takeEpochs_rg ?_ ?_
    | with_reducible refine State.joinPaddock_rg ?_ ?_
    | with_reducible refine State.setPool_rg ?_ ?_
    | with_reducible refine State.setTransfer_rg ?_ ?_
    | with_reducible refine RgO.ite ?_ ?_
    | with_reducible refine RgO.next ?_
    | with_reducible refine Rg.foldl ?_ _ _ ?_
    | intro _ _ _)

theorem State.tdCommand_rg {msk : Nat} {b₀ : State} {s : State} {f : State → State} (hf : ∀ t0, Rg msk b₀ t0 → Rg msk b₀ (f t0)) (h₀ : Rg msk b₀ s) (hm₀ : 96107167241834975113312584178489302142293605564759693426004588894417285174339314651986626222954283729664672024879809959352794238588654061432213649874520966944 ||| msk = msk) :
    RgO msk b₀ (State.tdCommand s f) := by
  unfold State.tdCommand
  try dsimp only
  repeat' (first
    | with_reducible assumption
    | with_reducible refine State.writeDiscarded_rg ?_ ?_
    | with_reducible refine hf _ ?_
    | with_reducible refine Rg.ite ?_ ?_
    | with_reducible refine RgO.next ?_)

theorem execTdCmdInvalid_rg {msk : Nat} {b₀ : State} {s : State} (h₀ : Rg msk b₀ s) (hm₀ : 96107167241834975113312584178489302142293605564910000151302114221002211932533832221738669906084416201389938647057871336960129178970330797328838846868564805408 ||| msk = msk) :
    RgO msk b₀ (execTdCmdInvalid s) := by
  refine RgO.step h₀ ?_ hm₀
  clear h₀ hm₀
  unfold execTdCmdInvalid
  try dsimp only
  repeat' (first
    | with_reducible exact Rg.refl _ _
    | with_reducible assumption
    | exact (rfl : (_ : Nat) = _)
    | with_reducible refine State.tdCommand_rg ?_ ?_ ?_
    | with_reducible refine State.wrN_rg ?_ ?_
    | with_reducible refine in_TD_CMD_STATUS ?_
    | exact (rfl : (_ : Bool) = _)
    | intro _ _)

theorem execTandemCplPost_rg {msk : Nat} {b₀ : State} {qpn : Nat} {cid : Nat} {tsn : Nat} {s : State} (h₀ : Rg msk b₀ s) (hm₀ : 19239260838083241802870625048898248928261591440656956380834127638791856333738872368854622194768025215237611323392 ||| msk = msk) :
    RgO msk b₀ (execTandemCplPost qpn cid tsn s) := by
  refine RgO.step h₀ ?_ hm₀
  clear h₀ hm₀
  unfold execTandemCplPost
  try dsimp only
  repeat' (first
    | with_reducible exact Rg.refl _ _
    | exact (rfl : (_ : Nat) = _)
    | with_reducible refine State.emit_rg ?_ ?_
    | with_reducible refine State.count_rg ?_ ?_
    | with_reducible refine in_TD_TCPL_SENT ?_
    | exact (rfl : (_ : Bool) = _)
    | with_reducible refine RgO.ite ?_ ?_
    | with_reducible refine RgO.next ?_
    | refine Rg.mk' ?_)

theorem State.transferSend_rg {msk : Nat} {b₀ : State} {s : State} (h₀ : Rg msk b₀ s) (hm₀ : 143343663499379469475676305956380433799785311823017570233599302461682679755530300504376159569382855411712 ||| msk = msk) :
    Rg msk b₀ (State.transferSend s) := by
  refine Rg.step h₀ ?_ hm₀
  clear h₀ hm₀
  unfold State.transferSend
  try dsimp only
  repeat' (first
    | with_reducible exact Rg.refl _ _
    | with_reducible assumption
    | exact (rfl : (_ : Nat) = _)
    | with_reducible refine State.clearPaddock_rg ?_ ?_
    | with_reducible refine State.tlSend_rg ?_ ?_
    | with_reducible refine State.setVol_rg ?_ ?_
    | with_reducible refine State.setTransfer_rg ?_ ?_
    | with_reducible refine Rg.ite ?_ ?_
    | with_reducible refine Rg.foldl ?_ _ _ ?_
    | intro _ _ _
    | split
    | refine Rg.mk' ?_)

theorem execHandover_rg {msk : Nat} {b₀ : State} {s : State} (h₀ : Rg msk b₀ s) (hm₀ : 96107167241834981210477721514411629059475695004687941066532861613523990954324768990042847288439142998862796192940627508497104025467641140000666345478497044256 ||| msk = msk) :
    RgO msk b₀ (execHandover s) := by
  refine RgO.step h₀ ?_ hm₀
  clear h₀ hm₀
  unfold execHandover
  try dsimp only
  repeat' (first
    | with_reducible exact Rg.refl _ _
    | with_reducible assumption
    | exact (rfl : (_ : Nat) = _)
    | with_reducible refine State.tdCommand_rg ?_ ?_ ?_
    | with_reducible refine State.transferStart_rg ?_ ?_
    | with_reducible refine State.tdAnswer_rg ?_ ?_
    | with_reducible refine Rg.ite ?_ ?_
    | intro _ _)

theorem State.transferTaken_rg {msk : Nat} {b₀ : State} {s : State} (h₀ : Rg msk b₀ s) (hm₀ : 96107167241834975113312584178489302142293605564797270250690131731241250434959245303177901668124298586451324716412666994333802435505976691754289268842765029152 ||| msk = msk) :
    Rg msk b₀ (State.transferTaken s) := by
  refine Rg.step h₀ ?_ hm₀
  clear h₀ hm₀
  unfold State.transferTaken
  try dsimp only
  repeat' (first
    | with_reducible exact Rg.refl _ _
    | exact (rfl : (_ : Nat) = _)
    | with_reducible refine State.recoverPaddock_rg ?_ ?_
    | with_reducible refine State.anaChanged_rg ?_ ?_
    | with_reducible refine State.event_rg ?_ ?_
    | with_reducible refine State.setRole_rg ?_ ?_
    | with_reducible refine Rg.ite ?_ ?_
    | split
    | refine Rg.mk' ?_)

theorem State.setTwins_rg {msk : Nat} {b₀ : State} {s : State} {t : Amap Nat} (h₀ : Rg msk b₀ s) (hm₀ : 9619630419041620901435312524449124464130795720328478190417063819395928166869436184427311097384012607618805661696 ||| msk = msk) :
    Rg msk b₀ (State.setTwins s t) := by
  refine Rg.step h₀ ?_ hm₀
  clear h₀ hm₀
  unfold State.setTwins
  try dsimp only
  repeat' (first
    | with_reducible exact Rg.refl _ _
    | with_reducible refine State.wrN_rg ?_ ?_
    | with_reducible refine in_TD_TWINS ?_
    | exact (rfl : (_ : Bool) = _)
    | refine Rg.mk' ?_)

theorem execTwinSet_rg {msk : Nat} {b₀ : State} {s : State} (h₀ : Rg msk b₀ s) (hm₀ : 96107167241834975113312584178489302142293605574529630570343735122437524456982956685869465626412894391807002466453799503829565363397641894712851454487370467104 ||| msk = msk) :
    RgO msk b₀ (execTwinSet s) := by
  refine RgO.step h₀ ?_ hm₀
  clear h₀ hm₀
  unfold execTwinSet
  try dsimp only
  repeat' (first
    | with_reducible exact Rg.refl _ _
    | with_reducible assumption
    | exact (rfl : (_ : Nat) = _)
    | with_reducible refine State.tdCommand_rg ?_ ?_ ?_
    | with_reducible refine State.event_rg ?_ ?_
    | with_reducible refine State.tdAnswer_rg ?_ ?_
    | with_reducible refine State.setTwins_rg ?_ ?_
    | with_reducible refine Rg.ite ?_ ?_
    | intro _ _)

theorem State.transferGiven_rg {msk : Nat} {b₀ : State} {s : State} (h₀ : Rg msk b₀ s) (hm₀ : 96107167241834975113312584178489302142293605564797274837669865705586009561206040604978952537494605340524263882784650762113552832419213994248531645022368501536 ||| msk = msk) :
    Rg msk b₀ (State.transferGiven s) := by
  refine Rg.step h₀ ?_ hm₀
  clear h₀ hm₀
  unfold State.transferGiven
  try dsimp only
  repeat' (first
    | with_reducible exact Rg.refl _ _
    | exact (rfl : (_ : Nat) = _)
    | with_reducible refine State.event_rg ?_ ?_
    | with_reducible refine State.actEnd_rg ?_ ?_
    | with_reducible refine State.setTransfer_rg ?_ ?_
    | with_reducible refine State.tlSend_rg ?_ ?_
    | with_reducible refine State.setRole_rg ?_ ?_
    | with_reducible refine State.forwardAll_rg ?_ ?_
    | with_reducible refine State.anaChanged_rg ?_ ?_
    | with_reducible refine Rg.ite ?_ ?_
    | split
    | refine Rg.mk' ?_)

theorem execTwinClear_rg {msk : Nat} {b₀ : State} {s : State} (h₀ : Rg msk b₀ s) (hm₀ : 96107167241834975113312584178489302142293605574529630570343735122437524456982956685869465626412894391807002466453799503829565363397641894712851454487370467104 ||| msk = msk) :
    RgO msk b₀ (execTwinClear s) := by
  refine RgO.step h₀ ?_ hm₀
  clear h₀ hm₀
  unfold execTwinClear
  try dsimp only
  repeat' (first
    | with_reducible exact Rg.refl _ _
    | with_reducible assumption
    | exact (rfl : (_ : Nat) = _)
    | with_reducible refine State.tdCommand_rg ?_ ?_ ?_
    | with_reducible refine State.event_rg ?_ ?_
    | with_reducible refine State.tdAnswer_rg ?_ ?_
    | with_reducible refine State.setTwins_rg ?_ ?_
    | with_reducible refine Rg.ite ?_ ?_
    | intro _ _)

theorem execTransferAbort_rg {msk : Nat} {b₀ : State} {s : State} (h₀ : Rg msk b₀ s) (hm₀ : 32 ||| msk = msk) :
    RgO msk b₀ (execTransferAbort s) := by
  refine RgO.step h₀ ?_ hm₀
  clear h₀ hm₀
  unfold execTransferAbort
  try dsimp only
  repeat' (first
    | with_reducible exact Rg.refl _ _
    | exact (rfl : (_ : Nat) = _)
    | with_reducible refine State.event_rg ?_ ?_
    | with_reducible refine State.actEnd_rg ?_ ?_
    | with_reducible refine State.setTransfer_rg ?_ ?_
    | with_reducible refine State.holdMoving_rg ?_ ?_
    | with_reducible refine RgO.ite ?_ ?_
    | with_reducible refine RgO.next ?_
    | split)

theorem execTransferHoldEnd_rg {msk : Nat} {b₀ : State} {s : State} (h₀ : Rg msk b₀ s) (hm₀ : 0 ||| msk = msk) :
    RgO msk b₀ (execTransferHoldEnd s) := by
  refine RgO.step h₀ ?_ hm₀
  clear h₀ hm₀
  unfold execTransferHoldEnd
  try dsimp only
  repeat' (first
    | with_reducible exact Rg.refl _ _
    | with_reducible assumption
    | exact (rfl : (_ : Nat) = _)
    | with_reducible refine State.checkpointAsk_rg ?_ ?_
    | with_reducible refine State.setTransfer_rg ?_ ?_
    | dsimp only
    | with_reducible refine Rg.ite ?_ ?_
    | with_reducible refine Rg.ite₁ ?_ ?_
    | with_reducible refine RgO.ite ?_ ?_
    | with_reducible refine RgS.ite ?_ ?_
    | with_reducible refine RgP.ite ?_ ?_
    | with_reducible refine RgO.next ?_
    | with_reducible exact RgS.none
    | with_reducible refine RgS.some ?_
    | with_reducible refine RgS.map ?_
    | with_reducible exact RgP.none
    | with_reducible refine RgP.some ?_
    | with_reducible refine Rg.elim ?_ ?_
    | with_reducible refine Rg.foldl ?_ _ _ ?_
    | with_reducible refine Rg.foldl₂ ?_ _ _ ?_
    | intro _ _ _ _ _ _
    | intro _ _ _ _ _
    | intro _ _ _ _
    | intro _ _ _
    | intro _ _
    | intro _
    | with_reducible refine Rg.pair (h := ?_) (e := by assumption)
    | with_reducible refine RgO.got (h := ?_) (e := by assumption)
    | with_reducible refine RgS.get (h := ?_) (e := by assumption)
    | with_reducible refine RgP.get (h := ?_) (e := by assumption)
    | split)

theorem execTransferCheckpointEnd_rg {msk : Nat} {b₀ : State} {s : State} (h₀ : Rg msk b₀ s) (hm₀ : 110427941548649020598956093796432407239217743554726184882600387580790784 ||| msk = msk) :
    RgO msk b₀ (execTransferCheckpointEnd s) := by
  refine RgO.step h₀ ?_ hm₀
  clear h₀ hm₀
  unfold execTransferCheckpointEnd
  try dsimp only
  repeat' (first
    | with_reducible exact Rg.refl _ _
    | with_reducible assumption
    | exact (rfl : (_ : Nat) = _)
    | with_reducible refine State.sendRaise_rg ?_ ?_
    | with_reducible refine State.setTransfer_rg ?_ ?_
    | with_reducible refine RgO.ite ?_ ?_
    | with_reducible refine RgO.next ?_
    | with_reducible refine Rg.foldl ?_ _ _ ?_
    | intro _ _ _
    | split)

theorem execSwitchBack_rg {msk : Nat} {b₀ : State} {s : State} (h₀ : Rg msk b₀ s) (hm₀ : 96107167241834981210477721514411629059475695004687941066532861613523990954324768990042847288439142998862796192940627508497104025467641140000666345478497044256 ||| msk = msk) :
    RgO msk b₀ (execSwitchBack s) := by
  refine RgO.step h₀ ?_ hm₀
  clear h₀ hm₀
  unfold execSwitchBack
  try dsimp only
  repeat' (first
    | with_reducible exact Rg.refl _ _
    | with_reducible assumption
    | exact (rfl : (_ : Nat) = _)
    | with_reducible refine State.tdCommand_rg ?_ ?_ ?_
    | with_reducible refine State.transferStart_rg ?_ ?_
    | with_reducible refine State.tdAnswer_rg ?_ ?_
    | with_reducible refine Rg.ite ?_ ?_
    | intro _ _)

theorem execTlLeave_rg {msk : Nat} {b₀ : State} {s : State} (h₀ : Rg msk b₀ s) (hm₀ : 0 ||| msk = msk) :
    RgO msk b₀ (execTlLeave s) := by
  refine RgO.step h₀ ?_ hm₀
  clear h₀ hm₀
  unfold execTlLeave
  try dsimp only
  repeat' (first
    | with_reducible exact Rg.refl _ _
    | with_reducible assumption
    | exact (rfl : (_ : Nat) = _)
    | dsimp only
    | with_reducible refine Rg.ite ?_ ?_
    | with_reducible refine Rg.ite₁ ?_ ?_
    | with_reducible refine RgO.ite ?_ ?_
    | with_reducible refine RgS.ite ?_ ?_
    | with_reducible refine RgP.ite ?_ ?_
    | with_reducible refine RgO.next ?_
    | with_reducible exact RgS.none
    | with_reducible refine RgS.some ?_
    | with_reducible refine RgS.map ?_
    | with_reducible exact RgP.none
    | with_reducible refine RgP.some ?_
    | with_reducible refine Rg.elim ?_ ?_
    | with_reducible refine Rg.foldl ?_ _ _ ?_
    | with_reducible refine Rg.foldl₂ ?_ _ _ ?_
    | intro _ _ _ _ _ _
    | intro _ _ _ _ _
    | intro _ _ _ _
    | intro _ _ _
    | intro _ _
    | intro _
    | with_reducible refine Rg.pair (h := ?_) (e := by assumption)
    | with_reducible refine RgO.got (h := ?_) (e := by assumption)
    | with_reducible refine RgS.get (h := ?_) (e := by assumption)
    | with_reducible refine RgP.get (h := ?_) (e := by assumption)
    | split
    | refine Rg.mk' ?_)

end Sys2Proof.Machine
end

