-- ==== Sys2Proof/Laws/RgLinks.lean ====
section
/-! SUPPORT. Register frames of the operations of Machine.Links: the registers that each may write. -/

set_option maxRecDepth 20000
set_option Elab.async false
set_option linter.unusedTactic false
set_option linter.unreachableTactic false
set_option linter.unusedVariables false

namespace Sys2Proof.Machine

theorem LinkEnd.ctrl_in {m : Nat} {k : LinkEnd} (h : m.testBit 230 = true) (h' : m.testBit 342 = true) : InSet m (k.ctrl) := by
  cases k
  · exact in_MLK_CTRL h
  · exact in_TL_CTRL h'

theorem LinkEnd.status_in {m : Nat} {k : LinkEnd} (h : m.testBit 231 = true) (h' : m.testBit 343 = true) : InSet m (k.status) := by
  cases k
  · exact in_MLK_STATUS h
  · exact in_TL_STATUS h'

theorem LinkEnd.crcErr_in {m : Nat} {k : LinkEnd} (h : m.testBit 238 = true) (h' : m.testBit 348 = true) : InSet m (k.crcErr) := by
  cases k
  · exact in_MLK_CRC_ERR h
  · exact in_TL_CRC_ERR h'

theorem LinkEnd.flitsRx_in {m : Nat} {k : LinkEnd} (h : m.testBit 237 = true) (h' : m.testBit 347 = true) : InSet m (k.flitsRx) := by
  cases k
  · exact in_MLK_FLITS_RX h
  · exact in_TL_FLITS_RX h'

theorem LinkEnd.flitsTx_in {m : Nat} {k : LinkEnd} (h : m.testBit 236 = true) (h' : m.testBit 346 = true) : InSet m (k.flitsTx) := by
  cases k
  · exact in_MLK_FLITS_TX h
  · exact in_TL_FLITS_TX h'

theorem LinkEnd.retrains_in {m : Nat} {k : LinkEnd} (h : m.testBit 240 = true) (h' : m.testBit 350 = true) : InSet m (k.retrains) := by
  cases k
  · exact in_MLK_RETRAINS h
  · exact in_TL_RETRAINS h'

theorem LinkEnd.replays_in {m : Nat} {k : LinkEnd} (h : m.testBit 239 = true) (h' : m.testBit 349 = true) : InSet m (k.replays) := by
  cases k
  · exact in_MLK_REPLAYS h
  · exact in_TL_REPLAYS h'

theorem LinkEnd.laneErr_in {m : Nat} {k : LinkEnd} {lane : Nat} (h : m.testBit 242 = true) (h' : m.testBit 353 = true) : InSet m (LinkEnd.laneErr lane k) := by
  cases k
  · exact in_MLK_LANE_ERR h
  · exact in_TL_LANE_ERR h'

theorem State.setFlitLink_rg {msk : Nat} {b₀ : State} {s : State} {k : LinkEnd} {l : FlitLink} (h₀ : Rg msk b₀ s) (hm₀ : 0 ||| msk = msk) :
    Rg msk b₀ (State.setFlitLink s k l) := by
  refine Rg.step h₀ ?_ hm₀
  clear h₀ hm₀
  unfold State.setFlitLink
  try dsimp only
  repeat' (first
    | with_reducible exact Rg.refl _ _
    | exact (rfl : (_ : Nat) = _)
    | with_reducible refine State.setMlink_rg ?_ ?_
    | with_reducible refine State.setTl_rg ?_ ?_
    | split)

theorem State.setLinkState_rg {msk : Nat} {b₀ : State} {s : State} {k : LinkEnd} {st : Nat} (h₀ : Rg msk b₀ s) (hm₀ : 17917957937422433684459538244547557675846337373159089996577843946223061194995773648240297527434968825856 ||| msk = msk) :
    Rg msk b₀ (State.setLinkState s k st) := by
  refine Rg.step h₀ ?_ hm₀
  clear h₀ hm₀
  unfold State.setLinkState
  try dsimp only
  repeat' (first
    | with_reducible exact Rg.refl _ _
    | exact (rfl : (_ : Nat) = _)
    | with_reducible refine State.putFld_rg ?_ ?_
    | with_reducible refine State.setFlitLink_rg ?_ ?_
    | with_reducible refine LinkEnd.status_in ?_ ?_
    | exact (rfl : (_ : Bool) = _))

theorem State.showSpares_rg {msk : Nat} {b₀ : State} {s : State} {k : LinkEnd} (h₀ : Rg msk b₀ s) (hm₀ : 17917957937422433684459538244547557675846337373159089996577843946223061194995773648240297527434968825856 ||| msk = msk) :
    Rg msk b₀ (State.showSpares s k) := by
  refine Rg.step h₀ ?_ hm₀
  clear h₀ hm₀
  unfold State.showSpares
  try dsimp only
  repeat' (first
    | with_reducible exact Rg.refl _ _
    | with_reducible refine State.putFld_rg ?_ ?_
    | with_reducible refine in_MLK_STATUS ?_
    | with_reducible refine in_TL_STATUS ?_
    | exact (rfl : (_ : Bool) = _)
    | split)

theorem State.lostCommand_rg {msk : Nat} {b₀ : State} {s : State} {port : Nat} {m : Nat} {c : ModCmd} (h₀ : Rg msk b₀ s) (hm₀ : 96107167241834975113312584178489302142293605565962147372918323672732238830136041730296929994284777614102029097602375840387417787143956517976358710650523946784 ||| msk = msk) :
    Rg msk b₀ (State.lostCommand s port m c) := by
  refine Rg.step h₀ ?_ hm₀
  clear h₀ hm₀
  unfold State.lostCommand
  try dsimp only
  repeat' (first
    | with_reducible exact Rg.refl _ _
    | with_reducible assumption
    | exact (rfl : (_ : Nat) = _)
    | with_reducible refine State.raiseLost_rg ?_ ?_
    | with_reducible refine State.stripeAnswer_rg ?_ ?_
    | with_reducible refine State.journalFail_rg ?_ ?_
    | with_reducible refine State.rootAnswer_rg ?_ ?_
    | with_reducible refine State.readAnswer_rg ?_ ?_
    | with_reducible refine State.setSeg_rg ?_ ?_
    | dsimp only
    | with_reducible refine Rg.ite ?_ ?_
    | with_reducible refine Rg.ite₁ ?_ ?_
    | with_reducible refine RgS.ite ?_ ?_
    | with_reducible refine RgP.ite ?_ ?_
    | with_reducible exact RgS.none
    | with_reducible refine RgS.some ?_
    | with_reducible refine RgS.map ?_
    | with_reducible exact RgP.none
    | with_reducible refine RgP.some ?_
    | with_reducible refine Rg.elim ?_ ?_
    | with_reducible refine Rg.foldl ?_ _ _ ?_
    | with_reducible refine Rg.foldl₂ ?_ _ _ ?_
    | intro _ _ _ _ _ _
    | intro _ _ _ _ _
    | intro _ _ _ _
    | intro _ _ _
    | intro _ _
    | intro _
    | with_reducible refine Rg.pair (h := ?_) (e := by assumption)
    | with_reducible refine RgO.got (h := ?_) (e := by assumption)
    | with_reducible refine RgS.get (h := ?_) (e := by assumption)
    | with_reducible refine RgP.get (h := ?_) (e := by assumption)
    | split)

theorem State.moduleDown_rg {msk : Nat} {b₀ : State} {s : State} {port : Nat} (h₀ : Rg msk b₀ s) (hm₀ : 96107167241834975113312584178489302142293605565962147390836281610154672514595579974844487670131114987261119094180219786610478982139730166216656238085492772640 ||| msk = msk) :
    Rg msk b₀ (State.moduleDown s port) := by
  refine Rg.step h₀ ?_ hm₀
  clear h₀ hm₀
  unfold State.moduleDown
  try dsimp only
  repeat' (first
    | with_reducible exact Rg.refl _ _
    | with_reducible assumption
    | exact (rfl : (_ : Nat) = _)
    | with_reducible refine State.putFld_rg ?_ ?_
    | with_reducible refine State.setMlink_rg ?_ ?_
    | with_reducible refine State.event_rg ?_ ?_
    | with_reducible refine State.showSpares_rg ?_ ?_
    | with_reducible refine State.lostCommand_rg ?_ ?_
    | with_reducible refine in_MLK_STATUS ?_
    | exact (rfl : (_ : Bool) = _)
    | with_reducible refine Rg.foldl ?_ _ _ ?_
    | intro _ _ _)

theorem State.torluxDown_rg {msk : Nat} {b₀ : State} {s : State} (h₀ : Rg msk b₀ s) (hm₀ : 17917957937422433684459538244547557675846337373159089996577843946223061194995773648240297527434968825888 ||| msk = msk) :
    Rg msk b₀ (State.torluxDown s) := by
  refine Rg.step h₀ ?_ hm₀
  clear h₀ hm₀
  unfold State.torluxDown
  try dsimp only
  repeat' (first
    | with_reducible exact Rg.refl _ _
    | exact (rfl : (_ : Nat) = _)
    | with_reducible refine State.event_rg ?_ ?_
    | with_reducible refine State.showSpares_rg ?_ ?_
    | with_reducible refine State.putFld_rg ?_ ?_
    | with_reducible refine in_TL_STATUS ?_
    | exact (rfl : (_ : Bool) = _)
    | refine Rg.mk' ?_)

theorem State.linkGoesDown_rg {msk : Nat} {b₀ : State} {s : State} {k : LinkEnd} (h₀ : Rg msk b₀ s) (hm₀ : 96107167241834975113312584178489302142293605565962147390836281610154672514595579974844487670131114987261119094180219786610478982139730166216656238085492772640 ||| msk = msk) :
    Rg msk b₀ (State.linkGoesDown s k) := by
  refine Rg.step h₀ ?_ hm₀
  clear h₀ hm₀
  unfold State.linkGoesDown
  try dsimp only
  repeat' (first
    | with_reducible exact Rg.refl _ _
    | exact (rfl : (_ : Nat) = _)
    | with_reducible refine State.moduleDown_rg ?_ ?_
    | with_reducible refine State.torluxDown_rg ?_ ?_
    | with_reducible refine Rg.ite ?_ ?_
    | split)

theorem State.linkErr_rg {msk : Nat} {b₀ : State} {s : State} {k : LinkEnd} {e : LinkErr} {sub : Nat} {injected : optParam Bool Bool.false} (h₀ : Rg msk b₀ s) (hm₀ : 96107167241834975113312584178489302142293605564759693426004588894417285174339314651986626222954283729664672024879809959352794238588654061432213649874520966944 ||| msk = msk) :
    Rg msk b₀ (State.linkErr s k e sub injected) := by
  refine Rg.step h₀ ?_ hm₀
  clear h₀ hm₀
  unfold State.linkErr
  try dsimp only
  repeat' (first
    | with_reducible exact Rg.refl _ _
    | exact (rfl : (_ : Nat) = _)
    | with_reducible refine State.raise_rg ?_ ?_)

theorem State.linkPump_rg {msk : Nat} {b₀ : State} {s : State} {x1 : LinkEnd} (h₀ : Rg msk b₀ s) (hm₀ : 143343663499379469475676305956380544227726860472038169189693098894089918973273855230561042169770436200448 ||| msk = msk) :
    Rg msk b₀ (State.linkPump s x1) := by
  refine Rg.step h₀ ?_ hm₀
  clear h₀ hm₀
  unfold State.linkPump
  try dsimp only
  repeat' (first
    | with_reducible exact Rg.refl _ _
    | exact (rfl : (_ : Nat) = _)
    | with_reducible refine State.pump_rg ?_ ?_
    | with_reducible refine State.tlPump_rg ?_ ?_
    | split)

theorem State.torluxUp_rg {msk : Nat} {b₀ : State} {s : State} (h₀ : Rg msk b₀ s) (hm₀ : 161261621436801903160135844200928101903573197845197259186270942840312980168269628878801339697205405026336 ||| msk = msk) :
    Rg msk b₀ (State.torluxUp s) := by
  refine Rg.step h₀ ?_ hm₀
  clear h₀ hm₀
  unfold State.torluxUp
  try dsimp only
  repeat' (first
    | with_reducible exact Rg.refl _ _
    | exact (rfl : (_ : Nat) = _)
    | with_reducible refine State.refAgain_rg ?_ ?_
    | with_reducible refine State.event_rg ?_ ?_
    | with_reducible refine State.setLinkState_rg ?_ ?_
    | with_reducible refine State.linkPump_rg ?_ ?_
    | refine Rg.mk' ?_)

theorem State.torluxInit_rg {msk : Nat} {b₀ : State} {s : State} {x : InitMsg} (h₀ : Rg msk b₀ s) (hm₀ : 96107167241834975113312584178489302142293605565962184086814137451298858287729904808235540415170941679759098895601649977376496397896659286513506000096477646624 ||| msk = msk) :
    Rg msk b₀ (State.torluxInit s x) := by
  refine Rg.step h₀ ?_ hm₀
  clear h₀ hm₀
  unfold State.torluxInit
  try dsimp only
  repeat' (first
    | with_reducible exact Rg.refl _ _
    | exact (rfl : (_ : Nat) = _)
    | with_reducible refine State.wrN_rg ?_ ?_
    | with_reducible refine State.linkGoesDown_rg ?_ ?_
    | with_reducible refine State.linkErr_rg ?_ ?_
    | with_reducible refine State.raise_rg ?_ ?_
    | with_reducible refine State.torluxUp_rg ?_ ?_
    | with_reducible refine in_TL_PARTNER ?_
    | exact (rfl : (_ : Bool) = _)
    | with_reducible refine Rg.ite ?_ ?_
    | refine Rg.mk' ?_)

theorem State.takeCredits_rg {msk : Nat} {b₀ : State} {s : State} {k : LinkEnd} {x : InitMsg} (h₀ : Rg msk b₀ s) (hm₀ : 0 ||| msk = msk) :
    Rg msk b₀ (State.takeCredits s k x) := by
  refine Rg.step h₀ ?_ hm₀
  clear h₀ hm₀
  unfold State.takeCredits
  try dsimp only
  repeat' (first
    | with_reducible exact Rg.refl _ _
    | exact (rfl : (_ : Nat) = _)
    | with_reducible refine State.setFlitLink_rg ?_ ?_)

theorem State.setCarry_rg {msk : Nat} {b₀ : State} {s : State} {k : LinkEnd} {on : List Nat} {spare : List Nat} (h₀ : Rg msk b₀ s) (hm₀ : 17917957937422433684459538244547557675846337373159089996577843946223061194995773648240297527434968825856 ||| msk = msk) :
    Rg msk b₀ (State.setCarry s k on spare) := by
  refine Rg.step h₀ ?_ hm₀
  clear h₀ hm₀
  unfold State.setCarry
  try dsimp only
  repeat' (first
    | with_reducible exact Rg.refl _ _
    | with_reducible assumption
    | exact (rfl : (_ : Nat) = _)
    | with_reducible refine State.showSpares_rg ?_ ?_
    | with_reducible refine State.setFlitLink_rg ?_ ?_
    | dsimp only
    | with_reducible refine Rg.ite ?_ ?_
    | with_reducible refine Rg.ite₁ ?_ ?_
    | with_reducible refine RgS.ite ?_ ?_
    | with_reducible refine RgP.ite ?_ ?_
    | with_reducible exact RgS.none
    | with_reducible refine RgS.some ?_
    | with_reducible refine RgS.map ?_
    | with_reducible exact RgP.none
    | with_reducible refine RgP.some ?_
    | with_reducible refine Rg.elim ?_ ?_
    | with_reducible refine Rg.foldl ?_ _ _ ?_
    | with_reducible refine Rg.foldl₂ ?_ _ _ ?_
    | intro _ _ _ _ _ _
    | intro _ _ _ _ _
    | intro _ _ _ _
    | intro _ _ _
    | intro _ _
    | intro _
    | with_reducible refine Rg.pair (h := ?_) (e := by assumption)
    | with_reducible refine RgO.got (h := ?_) (e := by assumption)
    | with_reducible refine RgS.get (h := ?_) (e := by assumption)
    | with_reducible refine RgP.get (h := ?_) (e := by assumption)
    | split)

theorem State.sendControl_rg {msk : Nat} {b₀ : State} {s : State} {k : LinkEnd} {ctype : Nat} {body : List Byte} (h₀ : Rg msk b₀ s) (hm₀ : 143343663499379469475676305956380544227726860472038169189693098894089918973273855230561042169770436200448 ||| msk = msk) :
    Rg msk b₀ (State.sendControl s k ctype body) := by
  refine Rg.step h₀ ?_ hm₀
  clear h₀ hm₀
  unfold State.sendControl
  try dsimp only
  repeat' (first
    | with_reducible exact Rg.refl _ _
    | with_reducible assumption
    | exact (rfl : (_ : Nat) = _)
    | with_reducible refine State.emit_rg ?_ ?_
    | with_reducible refine State.flitsSent_rg ?_ ?_ ?_
    | with_reducible refine State.setFlitLink_rg ?_ ?_
    | with_reducible refine LinkEnd.flitsTx_in ?_ ?_
    | with_reducible refine in_MLK_FLITS_TX ?_
    | with_reducible refine in_TL_FLITS_TX ?_
    | with_reducible refine InSet.ite ?_ ?_
    | exact (rfl : (_ : Bool) = _)
    | dsimp only
    | with_reducible refine Rg.ite ?_ ?_
    | with_reducible refine Rg.ite₁ ?_ ?_
    | with_reducible refine RgS.ite ?_ ?_
    | with_reducible refine RgP.ite ?_ ?_
    | with_reducible exact RgS.none
    | with_reducible refine RgS.some ?_
    | with_reducible refine RgS.map ?_
    | with_reducible exact RgP.none
    | with_reducible refine RgP.some ?_
    | with_reducible refine Rg.elim ?_ ?_
    | with_reducible refine Rg.foldl ?_ _ _ ?_
    | with_reducible refine Rg.foldl₂ ?_ _ _ ?_
    | intro _ _ _ _ _ _
    | intro _ _ _ _ _
    | intro _ _ _ _
    | intro _ _ _
    | intro _ _
    | intro _
    | with_reducible refine Rg.pair (h := ?_) (e := by assumption)
    | with_reducible refine RgO.got (h := ?_) (e := by assumption)
    | with_reducible refine RgS.get (h := ?_) (e := by assumption)
    | with_reducible refine RgP.get (h := ?_) (e := by assumption)
    | split)

theorem State.linkInit_rg {msk : Nat} {b₀ : State} {s : State} {k : LinkEnd} {good : List Nat} (h₀ : Rg msk b₀ s) (hm₀ : 161261621436801903160135844200928101903573197845197259186270942840312980168269628878801339697205405026304 ||| msk = msk) :
    Rg msk b₀ (State.linkInit s k good) := by
  refine Rg.step h₀ ?_ hm₀
  clear h₀ hm₀
  unfold State.linkInit
  try dsimp only
  repeat' (first
    | with_reducible exact Rg.refl _ _
    | with_reducible assumption
    | exact (rfl : (_ : Nat) = _)
    | with_reducible refine State.setCarry_rg ?_ ?_
    | with_reducible refine State.putFld_rg ?_ ?_
    | with_reducible refine State.setFlitLink_rg ?_ ?_
    | with_reducible refine State.sendControl_rg ?_ ?_
    | with_reducible refine State.setMlink_rg ?_ ?_
    | with_reducible refine LinkEnd.status_in ?_ ?_
    | with_reducible refine in_MLK_STATUS ?_
    | with_reducible refine in_TL_STATUS ?_
    | with_reducible refine InSet.ite ?_ ?_
    | exact (rfl : (_ : Bool) = _)
    | dsimp only
    | with_reducible refine Rg.ite ?_ ?_
    | with_reducible refine Rg.ite₁ ?_ ?_
    | with_reducible refine RgS.ite ?_ ?_
    | with_reducible refine RgP.ite ?_ ?_
    | with_reducible exact RgS.none
    | with_reducible refine RgS.some ?_
    | with_reducible refine RgS.map ?_
    | with_reducible exact RgP.none
    | with_reducible refine RgP.some ?_
    | with_reducible refine Rg.elim ?_ ?_
    | with_reducible refine Rg.foldl ?_ _ _ ?_
    | with_reducible refine Rg.foldl₂ ?_ _ _ ?_
    | intro _ _ _ _ _ _
    | intro _ _ _ _ _
    | intro _ _ _ _
    | intro _ _ _
    | intro _ _
    | intro _
    | with_reducible refine Rg.pair (h := ?_) (e := by assumption)
    | with_reducible refine RgO.got (h := ?_) (e := by assumption)
    | with_reducible refine RgS.get (h := ?_) (e := by assumption)
    | with_reducible refine RgP.get (h := ?_) (e := by assumption)
    | split)

theorem State.laneSwapped_rg {msk : Nat} {b₀ : State} {s : State} {k : LinkEnd} {lane : Nat} {injected : Bool} (h₀ : Rg msk b₀ s) (hm₀ : 96107167241834975113312584178489302142293605564759693443922546831839718858798852896534183898800621102823762021457653905575855433584427709672511177309489792800 ||| msk = msk) :
    Rg msk b₀ (State.laneSwapped s k lane injected) := by
  refine Rg.step h₀ ?_ hm₀
  clear h₀ hm₀
  unfold State.laneSwapped
  try dsimp only
  repeat' (first
    | with_reducible exact Rg.refl _ _
    | exact (rfl : (_ : Nat) = _)
    | with_reducible refine State.linkErr_rg ?_ ?_
    | with_reducible refine State.event_rg ?_ ?_
    | with_reducible refine State.showSpares_rg ?_ ?_)

theorem State.txSwap_rg {msk : Nat} {b₀ : State} {s : State} {k : LinkEnd} {lane : Nat} (h₀ : Rg msk b₀ s) (hm₀ : 96107167241834975113312584178489302142293605564759693443922546831839718858798852896534183898800621102823762021457653905575855433584427709672511177309489792800 ||| msk = msk) :
    Rg msk b₀ (State.txSwap s k lane) := by
  refine Rg.step h₀ ?_ hm₀
  clear h₀ hm₀
  unfold State.txSwap
  try dsimp only
  repeat' (first
    | with_reducible exact Rg.refl _ _
    | exact (rfl : (_ : Nat) = _)
    | with_reducible refine State.setFlitLink_rg ?_ ?_
    | with_reducible refine State.laneSwapped_rg ?_ ?_
    | with_reducible refine State.emit_rg ?_ ?_
    | with_reducible refine Rg.ite ?_ ?_
    | split)

theorem State.takeAck_rg {msk : Nat} {b₀ : State} {s : State} {k : LinkEnd} {ack : Option Nat} (h₀ : Rg msk b₀ s) (hm₀ : 143343663499379469475676305956380544227726860472038169189693098894089918973273855230561042169770436200448 ||| msk = msk) :
    Rg msk b₀ (State.takeAck s k ack) := by
  refine Rg.step h₀ ?_ hm₀
  clear h₀ hm₀
  unfold State.takeAck
  try dsimp only
  repeat' (first
    | with_reducible exact Rg.refl _ _
    | exact (rfl : (_ : Nat) = _)
    | with_reducible refine State.flitsSent_rg ?_ ?_ ?_
    | with_reducible refine State.setFlitLink_rg ?_ ?_
    | with_reducible refine LinkEnd.flitsTx_in ?_ ?_
    | exact (rfl : (_ : Bool) = _)
    | with_reducible refine Rg.ite ?_ ?_
    | split)

theorem execModRstAssert_rg {msk : Nat} {b₀ : State} {n : Nat} {s : State} (h₀ : Rg msk b₀ s) (hm₀ : 56332529599031789760245043930253262538013507584339920061150280939258124430908193958962853063968766829361272502013191408826713804675818476278823095998900040961824 ||| msk = msk) :
    RgO msk b₀ (execModRstAssert n s) := by
  refine RgO.step h₀ ?_ hm₀
  clear h₀ hm₀
  unfold execModRstAssert
  try dsimp only
  repeat' (first
    | with_reducible exact Rg.refl _ _
    | exact (rfl : (_ : Nat) = _)
    | with_reducible refine State.linkGoesDown_rg ?_ ?_
    | with_reducible refine State.putBit_rg ?_ ?_
    | with_reducible refine State.writeDiscarded_rg ?_ ?_
    | with_reducible refine in_MOD_RST ?_
    | exact (rfl : (_ : Bool) = _)
    | with_reducible refine RgO.ite ?_ ?_
    | with_reducible refine RgO.next ?_
    | refine Rg.mk' ?_)

theorem State.narrow_rg {msk : Nat} {b₀ : State} {s : State} {k : LinkEnd} (h₀ : Rg msk b₀ s) (hm₀ : 96107167241834975113312584178489302142293605564759693426004588894417285174339314651986626222954283729664672024879809959352794238588654061432213649874520966944 ||| msk = msk) :
    Rg msk b₀ (State.narrow s k) := by
  refine Rg.step h₀ ?_ hm₀
  clear h₀ hm₀
  unfold State.narrow
  try dsimp only
  repeat' (first
    | with_reducible exact Rg.refl _ _
    | exact (rfl : (_ : Nat) = _)
    | with_reducible refine State.event_rg ?_ ?_
    | with_reducible refine State.linkErr_rg ?_ ?_)

theorem State.setWidth_rg {msk : Nat} {b₀ : State} {s : State} {k : LinkEnd} {w : Nat} (h₀ : Rg msk b₀ s) (hm₀ : 96107167241834975113312584178489302142293605564759693443922546831839718858798852896534183898800621102823762021457653905575855433584427709672511177309489792800 ||| msk = msk) :
    Rg msk b₀ (State.setWidth s k w) := by
  refine Rg.step h₀ ?_ hm₀
  clear h₀ hm₀
  unfold State.setWidth
  try dsimp only
  repeat' (first
    | with_reducible exact Rg.refl _ _
    | exact (rfl : (_ : Nat) = _)
    | with_reducible refine State.putFld_rg ?_ ?_
    | with_reducible refine State.narrow_rg ?_ ?_
    | with_reducible refine LinkEnd.status_in ?_ ?_
    | exact (rfl : (_ : Bool) = _)
    | with_reducible refine Rg.ite ?_ ?_)

theorem execWidthMsgRx_rg {msk : Nat} {b₀ : State} {k : LinkEnd} {width : Nat} {map : List Nat} {s : State} (h₀ : Rg msk b₀ s) (hm₀ : 96107167241834975113312584178489302142293605564759693443922546831839718858798852896534183898800621102823762021457653905575855433584427709672511177309489792800 ||| msk = msk) :
    RgO msk b₀ (execWidthMsgRx k width map s) := by
  refine RgO.step h₀ ?_ hm₀
  clear h₀ hm₀
  unfold execWidthMsgRx
  try dsimp only
  repeat' (first
    | with_reducible exact Rg.refl _ _
    | with_reducible assumption
    | exact (rfl : (_ : Nat) = _)
    | with_reducible refine State.setWidth_rg ?_ ?_
    | with_reducible refine State.setCarry_rg ?_ ?_
    | dsimp only
    | with_reducible refine Rg.ite ?_ ?_
    | with_reducible refine Rg.ite₁ ?_ ?_
    | with_reducible refine RgO.ite ?_ ?_
    | with_reducible refine RgS.ite ?_ ?_
    | with_reducible refine RgP.ite ?_ ?_
    | with_reducible refine RgO.next ?_
    | with_reducible exact RgS.none
    | with_reducible refine RgS.some ?_
    | with_reducible refine RgS.map ?_
    | with_reducible exact RgP.none
    | with_reducible refine RgP.some ?_
    | with_reducible refine Rg.elim ?_ ?_
    | with_reducible refine Rg.foldl ?_ _ _ ?_
    | with_reducible refine Rg.foldl₂ ?_ _ _ ?_
    | intro _ _ _ _ _ _
    | intro _ _ _ _ _
    | intro _ _ _ _
    | intro _ _ _
    | intro _ _
    | intro _
    | with_reducible refine Rg.pair (h := ?_) (e := by assumption)
    | with_reducible refine RgO.got (h := ?_) (e := by assumption)
    | with_reducible refine RgS.get (h := ?_) (e := by assumption)
    | with_reducible refine RgP.get (h := ?_) (e := by assumption)
    | split)

theorem State.retrainLanes_rg {msk : Nat} {b₀ : State} {s : State} {k : LinkEnd} {good : List Nat} (h₀ : Rg msk b₀ s) (hm₀ : 96107167241834975113312584178489302142293605564759693587266210331219188334475158852914728126527481574861931211150752799665774406858282940233553347079925993248 ||| msk = msk) :
    Rg msk b₀ (State.retrainLanes s k good) := by
  refine Rg.step h₀ ?_ hm₀
  clear h₀ hm₀
  unfold State.retrainLanes
  try dsimp only
  repeat' (first
    | with_reducible exact Rg.refl _ _
    | with_reducible assumption
    | exact (rfl : (_ : Nat) = _)
    | with_reducible refine State.setCarry_rg ?_ ?_
    | with_reducible refine State.setFlitLink_rg ?_ ?_
    | with_reducible refine State.setWidth_rg ?_ ?_
    | with_reducible refine State.sendControl_rg ?_ ?_
    | dsimp only
    | with_reducible refine Rg.ite ?_ ?_
    | with_reducible refine Rg.ite₁ ?_ ?_
    | with_reducible refine RgS.ite ?_ ?_
    | with_reducible refine RgP.ite ?_ ?_
    | with_reducible exact RgS.none
    | with_reducible refine RgS.some ?_
    | with_reducible refine RgS.map ?_
    | with_reducible exact RgP.none
    | with_reducible refine RgP.some ?_
    | with_reducible refine Rg.elim ?_ ?_
    | with_reducible refine Rg.foldl ?_ _ _ ?_
    | with_reducible refine Rg.foldl₂ ?_ _ _ ?_
    | intro _ _ _ _ _ _
    | intro _ _ _ _ _
    | intro _ _ _ _
    | intro _ _ _
    | intro _ _
    | intro _
    | with_reducible refine Rg.pair (h := ?_) (e := by assumption)
    | with_reducible refine RgO.got (h := ?_) (e := by assumption)
    | with_reducible refine RgS.get (h := ?_) (e := by assumption)
    | with_reducible refine RgP.get (h := ?_) (e := by assumption)
    | split)

theorem State.enterRecovery_rg {msk : Nat} {b₀ : State} {s : State} {k : LinkEnd} (h₀ : Rg msk b₀ s) (hm₀ : 2311416573927493945295280433546636265319476104925769797031667426251661764767377457337216972243761948000256 ||| msk = msk) :
    Rg msk b₀ (State.enterRecovery s k) := by
  refine Rg.step h₀ ?_ hm₀
  clear h₀ hm₀
  unfold State.enterRecovery
  try dsimp only
  repeat' (first
    | with_reducible exact Rg.refl _ _
    | exact (rfl : (_ : Nat) = _)
    | with_reducible refine State.count_rg ?_ ?_
    | with_reducible refine State.setLinkState_rg ?_ ?_
    | with_reducible refine State.setFlitLink_rg ?_ ?_
    | with_reducible refine LinkEnd.retrains_in ?_ ?_
    | exact (rfl : (_ : Bool) = _)
    | with_reducible refine Rg.ite ?_ ?_)

theorem State.narrowDown_rg {msk : Nat} {b₀ : State} {s : State} {k : LinkEnd} (h₀ : Rg msk b₀ s) (hm₀ : 2311416573927493945295280433546636265319476104925769797031667426251661764767377457337216972243761948000256 ||| msk = msk) :
    Rg msk b₀ (State.narrowDown s k) := by
  refine Rg.step h₀ ?_ hm₀
  clear h₀ hm₀
  unfold State.narrowDown
  try dsimp only
  repeat' (first
    | with_reducible exact Rg.refl _ _
    | with_reducible assumption
    | exact (rfl : (_ : Nat) = _)
    | with_reducible refine State.enterRecovery_rg ?_ ?_
    | with_reducible refine State.setFlitLink_rg ?_ ?_
    | dsimp only
    | with_reducible refine Rg.ite ?_ ?_
    | with_reducible refine Rg.ite₁ ?_ ?_
    | with_reducible refine RgS.ite ?_ ?_
    | with_reducible refine RgP.ite ?_ ?_
    | with_reducible exact RgS.none
    | with_reducible refine RgS.some ?_
    | with_reducible refine RgS.map ?_
    | with_reducible exact RgP.none
    | with_reducible refine RgP.some ?_
    | with_reducible refine Rg.elim ?_ ?_
    | with_reducible refine Rg.foldl ?_ _ _ ?_
    | with_reducible refine Rg.foldl₂ ?_ _ _ ?_
    | intro _ _ _ _ _ _
    | intro _ _ _ _ _
    | intro _ _ _ _
    | intro _ _ _
    | intro _ _
    | intro _
    | with_reducible refine Rg.pair (h := ?_) (e := by assumption)
    | with_reducible refine RgO.got (h := ?_) (e := by assumption)
    | with_reducible refine RgS.get (h := ?_) (e := by assumption)
    | with_reducible refine RgP.get (h := ?_) (e := by assumption)
    | split)

theorem execSwapReqRx_rg {msk : Nat} {b₀ : State} {k : LinkEnd} {lane : Nat} {s : State} (h₀ : Rg msk b₀ s) (hm₀ : 96107167241834975113312584178489302142293605564759695737421162821911230469619748198622891542430388655434469056547236211014559005966111398649185893636468967200 ||| msk = msk) :
    RgO msk b₀ (execSwapReqRx k lane s) := by
  refine RgO.step h₀ ?_ hm₀
  clear h₀ hm₀
  unfold execSwapReqRx
  try dsimp only
  repeat' (first
    | with_reducible exact Rg.refl _ _
    | with_reducible assumption
    | exact (rfl : (_ : Nat) = _)
    | with_reducible refine State.narrowDown_rg ?_ ?_
    | with_reducible refine State.txSwap_rg ?_ ?_
    | dsimp only
    | with_reducible refine Rg.ite ?_ ?_
    | with_reducible refine Rg.ite₁ ?_ ?_
    | with_reducible refine RgO.ite ?_ ?_
    | with_reducible refine RgS.ite ?_ ?_
    | with_reducible refine RgP.ite ?_ ?_
    | with_reducible refine RgO.next ?_
    | with_reducible exact RgS.none
    | with_reducible refine RgS.some ?_
    | with_reducible refine RgS.map ?_
    | with_reducible exact RgP.none
    | with_reducible refine RgP.some ?_
    | with_reducible refine Rg.elim ?_ ?_
    | with_reducible refine Rg.foldl ?_ _ _ ?_
    | with_reducible refine Rg.foldl₂ ?_ _ _ ?_
    | intro _ _ _ _ _ _
    | intro _ _ _ _ _
    | intro _ _ _ _
    | intro _ _ _
    | intro _ _
    | intro _
    | with_reducible refine Rg.pair (h := ?_) (e := by assumption)
    | with_reducible refine RgO.got (h := ?_) (e := by assumption)
    | with_reducible refine RgS.get (h := ?_) (e := by assumption)
    | with_reducible refine RgP.get (h := ?_) (e := by assumption)
    | split)

theorem State.laneFails_rg {msk : Nat} {b₀ : State} {s : State} {k : LinkEnd} {lane : Nat} {injected : optParam Bool Bool.false} (h₀ : Rg msk b₀ s) (hm₀ : 2454760237426873414770956739503016809547202965397807966221360525145751683740651312567778014413532384200704 ||| msk = msk) :
    Rg msk b₀ (State.laneFails s k lane injected) := by
  refine Rg.step h₀ ?_ hm₀
  clear h₀ hm₀
  unfold State.laneFails
  try dsimp only
  repeat' (first
    | with_reducible exact Rg.refl _ _
    | with_reducible assumption
    | exact (rfl : (_ : Nat) = _)
    | with_reducible refine State.setFlitLink_rg ?_ ?_
    | with_reducible refine State.sendControl_rg ?_ ?_
    | with_reducible refine State.narrowDown_rg ?_ ?_
    | dsimp only
    | with_reducible refine Rg.ite ?_ ?_
    | with_reducible refine Rg.ite₁ ?_ ?_
    | with_reducible refine RgS.ite ?_ ?_
    | with_reducible refine RgP.ite ?_ ?_
    | with_reducible exact RgS.none
    | with_reducible refine RgS.some ?_
    | with_reducible refine RgS.map ?_
    | with_reducible exact RgP.none
    | with_reducible refine RgP.some ?_
    | with_reducible refine Rg.elim ?_ ?_
    | with_reducible refine Rg.foldl ?_ _ _ ?_
    | with_reducible refine Rg.foldl₂ ?_ _ _ ?_
    | intro _ _ _ _ _ _
    | intro _ _ _ _ _
    | intro _ _ _ _
    | intro _ _ _
    | intro _ _
    | intro _
    | with_reducible refine Rg.pair (h := ?_) (e := by assumption)
    | with_reducible refine RgO.got (h := ?_) (e := by assumption)
    | with_reducible refine RgS.get (h := ?_) (e := by assumption)
    | with_reducible refine RgP.get (h := ?_) (e := by assumption)
    | split)

theorem State.sendAck_rg {msk : Nat} {b₀ : State} {s : State} {k : LinkEnd} {nak : Bool} (h₀ : Rg msk b₀ s) (hm₀ : 0 ||| msk = msk) :
    Rg msk b₀ (State.sendAck s k nak) := by
  refine Rg.step h₀ ?_ hm₀
  clear h₀ hm₀
  unfold State.sendAck
  try dsimp only
  repeat' (first
    | with_reducible exact Rg.refl _ _
    | exact (rfl : (_ : Nat) = _)
    | with_reducible refine State.emit_rg ?_ ?_
    | with_reducible refine State.setFlitLink_rg ?_ ?_)

theorem State.takeCum_rg {msk : Nat} {b₀ : State} {s : State} {k : LinkEnd} {cls : Nat} {cum : Nat} (h₀ : Rg msk b₀ s) (hm₀ : 143343663499379469475676305956380544227726860472038169189693098894089918973273855230561042169770436200448 ||| msk = msk) :
    Rg msk b₀ (State.takeCum s k cls cum) := by
  refine Rg.step h₀ ?_ hm₀
  clear h₀ hm₀
  unfold State.takeCum
  try dsimp only
  repeat' (first
    | with_reducible exact Rg.refl _ _
    | exact (rfl : (_ : Nat) = _)
    | with_reducible refine State.linkPump_rg ?_ ?_
    | with_reducible refine State.setFlitLink_rg ?_ ?_)

theorem State.takeSequenced_rg {msk : Nat} {b₀ : State} {s : State} {k : LinkEnd} {f : Flit} (h₀ : Rg msk b₀ s) (hm₀ : 96107167241834975113312584178489302142293605564759696024108489820670169420972360111383979997884109599510807435933433999194396952513821859771270233177341364000 ||| msk = msk) :
    Rg msk b₀ (State.takeSequenced s k f) := by
  refine Rg.step h₀ ?_ hm₀
  clear h₀ hm₀
  unfold State.takeSequenced
  try dsimp only
  repeat' (first
    | with_reducible exact Rg.refl _ _
    | exact (rfl : (_ : Nat) = _)
    | with_reducible refine State.count_rg ?_ ?_
    | with_reducible refine State.setFlitLink_rg ?_ ?_
    | with_reducible refine State.sendAck_rg ?_ ?_
    | with_reducible refine State.enterRecovery_rg ?_ ?_
    | with_reducible refine State.linkErr_rg ?_ ?_
    | with_reducible refine LinkEnd.flitsRx_in ?_ ?_
    | exact (rfl : (_ : Bool) = _)
    | with_reducible refine Rg.ite ?_ ?_)

theorem State.replayFlits_rg {msk : Nat} {b₀ : State} {s : State} {k : LinkEnd} (h₀ : Rg msk b₀ s) (hm₀ : 3458165881922529701100690881197680619141290988702075150549212217404381116553568299181705309601925437587456 ||| msk = msk) :
    Rg msk b₀ (State.replayFlits s k) := by
  refine Rg.step h₀ ?_ hm₀
  clear h₀ hm₀
  unfold State.replayFlits
  try dsimp only
  repeat' (first
    | with_reducible exact Rg.refl _ _
    | exact (rfl : (_ : Nat) = _)
    | with_reducible refine State.enterRecovery_rg ?_ ?_
    | with_reducible refine State.emit_rg ?_ ?_
    | with_reducible refine State.count_rg ?_ ?_
    | with_reducible refine State.setFlitLink_rg ?_ ?_
    | with_reducible refine LinkEnd.replays_in ?_ ?_
    | exact (rfl : (_ : Bool) = _)
    | with_reducible refine Rg.ite ?_ ?_)

theorem execFlitRx_rg {msk : Nat} {b₀ : State} {k : LinkEnd} {f : Flit} {s : State} (h₀ : Rg msk b₀ s) (hm₀ : 96107167241834975113312584178489302142293605564759697887576115312603272604764337544331054958333295736007006901943719622363343605073939857064818440193011945248 ||| msk = msk) :
    RgO msk b₀ (execFlitRx k f s) := by
  refine RgO.step h₀ ?_ hm₀
  clear h₀ hm₀
  unfold execFlitRx
  try dsimp only
  repeat' (first
    | with_reducible exact Rg.refl _ _
    | with_reducible assumption
    | exact (rfl : (_ : Nat) = _)
    | with_reducible refine State.inject_rg ?_ ?_
    | with_reducible refine State.operate_rg ?_ ?_
    | with_reducible refine State.laneFails_rg ?_ ?_
    | with_reducible refine State.linkErr_rg ?_ ?_
    | with_reducible refine State.count_rg ?_ ?_
    | with_reducible refine State.sendAck_rg ?_ ?_
    | with_reducible refine State.takeCum_rg ?_ ?_
    | with_reducible refine State.takeAck_rg ?_ ?_
    | with_reducible refine State.takeSequenced_rg ?_ ?_
    | with_reducible refine State.enterRecovery_rg ?_ ?_
    | with_reducible refine State.replayFlits_rg ?_ ?_
    | with_reducible refine LinkEnd.crcErr_in ?_ ?_
    | with_reducible refine in_MLK_CRC_ERR ?_
    | with_reducible refine in_TL_CRC_ERR ?_
    | with_reducible refine InSet.ite ?_ ?_
    | exact (rfl : (_ : Bool) = _)
    | dsimp only
    | with_reducible refine Rg.ite ?_ ?_
    | with_reducible refine Rg.ite₁ ?_ ?_
    | with_reducible refine RgO.ite ?_ ?_
    | with_reducible refine RgS.ite ?_ ?_
    | with_reducible refine RgP.ite ?_ ?_
    | with_reducible refine RgO.next ?_
    | with_reducible exact RgS.none
    | with_reducible refine RgS.some ?_
    | with_reducible refine RgS.map ?_
    | with_reducible exact RgP.none
    | with_reducible refine RgP.some ?_
    | with_reducible refine Rg.elim ?_ ?_
    | with_reducible refine Rg.foldl ?_ _ _ ?_
    | with_reducible refine Rg.foldl₂ ?_ _ _ ?_
    | intro _ _ _ _ _ _
    | intro _ _ _ _ _
    | intro _ _ _ _
    | intro _ _ _
    | intro _ _
    | intro _
    | with_reducible refine Rg.pair (h := ?_) (e := by assumption)
    | with_reducible refine RgO.got (h := ?_) (e := by assumption)
    | with_reducible refine RgS.get (h := ?_) (e := by assumption)
    | with_reducible refine RgP.get (h := ?_) (e := by assumption)
    | split)

theorem execReplayTimeout_rg {msk : Nat} {b₀ : State} {k : LinkEnd} {s : State} (h₀ : Rg msk b₀ s) (hm₀ : 96107167241834975113312584178489302142293605564759696884170470816946986275030195849667245364245272431739822574092027363733910792156953243137523251799958554400 ||| msk = msk) :
    RgO msk b₀ (execReplayTimeout k s) := by
  refine RgO.step h₀ ?_ hm₀
  clear h₀ hm₀
  unfold execReplayTimeout
  try dsimp only
  repeat' (first
    | with_reducible exact Rg.refl _ _
    | exact (rfl : (_ : Nat) = _)
    | with_reducible refine State.replayFlits_rg ?_ ?_
    | with_reducible refine State.raise_rg ?_ ?_
    | with_reducible refine RgO.ite ?_ ?_
    | with_reducible refine RgO.next ?_
    | split)

theorem execRecoveryRetrained_rg {msk : Nat} {b₀ : State} {k : LinkEnd} {lanes : List Nat} {s : State} (h₀ : Rg msk b₀ s) (hm₀ : 96107167241834975113312584178489302142293605565962150831084205595261939930826922927977549135575766316177179646814593244768534340712255699681668312575961534240 ||| msk = msk) :
    RgO msk b₀ (execRecoveryRetrained k lanes s) := by
  refine RgO.step h₀ ?_ hm₀
  clear h₀ hm₀
  unfold execRecoveryRetrained
  try dsimp only
  repeat' (first
    | with_reducible exact Rg.refl _ _
    | with_reducible assumption
    | exact (rfl : (_ : Nat) = _)
    | with_reducible refine State.linkGoesDown_rg ?_ ?_
    | with_reducible refine State.linkErr_rg ?_ ?_
    | with_reducible refine State.setLinkState_rg ?_ ?_
    | with_reducible refine State.retrainLanes_rg ?_ ?_
    | with_reducible refine State.replayFlits_rg ?_ ?_
    | with_reducible refine State.pump_rg ?_ ?_
    | with_reducible refine State.linkPump_rg ?_ ?_
    | with_reducible refine State.refAgain_rg ?_ ?_
    | dsimp only
    | with_reducible refine Rg.ite ?_ ?_
    | with_reducible refine Rg.ite₁ ?_ ?_
    | with_reducible refine RgO.ite ?_ ?_
    | with_reducible refine RgS.ite ?_ ?_
    | with_reducible refine RgP.ite ?_ ?_
    | with_reducible refine RgO.next ?_
    | with_reducible exact RgS.none
    | with_reducible refine RgS.some ?_
    | with_reducible refine RgS.map ?_
    | with_reducible exact RgP.none
    | with_reducible refine RgP.some ?_
    | with_reducible refine Rg.elim ?_ ?_
    | with_reducible refine Rg.foldl ?_ _ _ ?_
    | with_reducible refine Rg.foldl₂ ?_ _ _ ?_
    | intro _ _ _ _ _ _
    | intro _ _ _ _ _
    | intro _ _ _ _
    | intro _ _ _
    | intro _ _
    | intro _
    | with_reducible refine Rg.pair (h := ?_) (e := by assumption)
    | with_reducible refine RgO.got (h := ?_) (e := by assumption)
    | with_reducible refine RgS.get (h := ?_) (e := by assumption)
    | with_reducible refine RgP.get (h := ?_) (e := by assumption)
    | split)

theorem execRecoveryTimeout_rg {msk : Nat} {b₀ : State} {k : LinkEnd} {s : State} (h₀ : Rg msk b₀ s) (hm₀ : 96107167241834975113312584178489302142293605565962147390836281610154672514595579974844487670131114987261119094180219786610478982139730166216656238085492772640 ||| msk = msk) :
    RgO msk b₀ (execRecoveryTimeout k s) := by
  refine RgO.step h₀ ?_ hm₀
  clear h₀ hm₀
  unfold execRecoveryTimeout
  try dsimp only
  repeat' (first
    | with_reducible exact Rg.refl _ _
    | exact (rfl : (_ : Nat) = _)
    | with_reducible refine State.linkGoesDown_rg ?_ ?_
    | with_reducible refine State.linkErr_rg ?_ ?_
    | with_reducible refine RgO.ite ?_ ?_
    | with_reducible refine RgO.next ?_)

theorem execModuleAbsent_rg {msk : Nat} {b₀ : State} {n : Nat} {s : State} (h₀ : Rg msk b₀ s) (hm₀ : 96107167241834975113312584178489302142293605565962147390836281610154672514595579974844487670131114987261119094180219786610478982139730166216656238085492772640 ||| msk = msk) :
    RgO msk b₀ (execModuleAbsent n s) := by
  refine RgO.step h₀ ?_ hm₀
  clear h₀ hm₀
  unfold execModuleAbsent
  try dsimp only
  repeat' (first
    | with_reducible exact Rg.refl _ _
    | exact (rfl : (_ : Nat) = _)
    | with_reducible refine State.linkGoesDown_rg ?_ ?_
    | with_reducible refine RgO.ite ?_ ?_
    | with_reducible refine RgO.next ?_)

theorem State.forceSwap_rg {msk : Nat} {b₀ : State} {s : State} {k : LinkEnd} {lane : Nat} {receive : Bool} (h₀ : Rg msk b₀ s) (hm₀ : 96107167241834975113312584178489302142293605564759695880764826321290699945296054155003435770157249127472638246240335105104477979239966629210228063406905167648 ||| msk = msk) :
    Rg msk b₀ (State.forceSwap s k lane receive) := by
  refine Rg.step h₀ ?_ hm₀
  clear h₀ hm₀
  unfold State.forceSwap
  try dsimp only
  repeat' (first
    | with_reducible exact Rg.refl _ _
    | exact (rfl : (_ : Nat) = _)
    | with_reducible refine State.laneFails_rg ?_ ?_
    | with_reducible refine State.txSwap_rg ?_ ?_
    | with_reducible refine Rg.ite ?_ ?_)

theorem execMlkForceSwap_rg {msk : Nat} {b₀ : State} {n : Nat} {lane : Nat} {receive : Bool} {s : State} (h₀ : Rg msk b₀ s) (hm₀ : 96107167241834975113312584178489302142293605564759695880764826321290699945296054155003435770157249127472638246240335105104477979239966629210228063406905167648 ||| msk = msk) :
    RgO msk b₀ (execMlkForceSwap n lane receive s) := by
  refine RgO.step h₀ ?_ hm₀
  clear h₀ hm₀
  unfold execMlkForceSwap
  try dsimp only
  repeat' (first
    | with_reducible exact Rg.refl _ _
    | with_reducible assumption
    | exact (rfl : (_ : Nat) = _)
    | with_reducible refine State.pageWrite_rg ?_ ?_ ?_
    | with_reducible refine State.forceSwap_rg ?_ ?_
    | with_reducible refine RgO.next ?_
    | intro _ _)

theorem execBlockLock_rg {msk : Nat} {b₀ : State} {k : LinkEnd} {lanes : List Nat} {speed : Nat} {s : State} (h₀ : Rg msk b₀ s) (hm₀ : 161261621436801903160135844200928101903573197845197259186270942840312980168269628878801339697205405026304 ||| msk = msk) :
    RgO msk b₀ (execBlockLock k lanes speed s) := by
  refine RgO.step h₀ ?_ hm₀
  clear h₀ hm₀
  unfold execBlockLock
  try dsimp only
  repeat' (first
    | with_reducible exact Rg.refl _ _
    | exact (rfl : (_ : Nat) = _)
    | with_reducible refine State.linkInit_rg ?_ ?_
    | with_reducible refine State.putFld_rg ?_ ?_
    | with_reducible refine in_MLK_STATUS ?_
    | exact (rfl : (_ : Bool) = _)
    | with_reducible refine RgO.ite ?_ ?_
    | with_reducible refine RgO.next ?_
    | split)

theorem execAckTimer_rg {msk : Nat} {b₀ : State} {k : LinkEnd} {s : State} (h₀ : Rg msk b₀ s) (hm₀ : 0 ||| msk = msk) :
    RgO msk b₀ (execAckTimer k s) := by
  refine RgO.step h₀ ?_ hm₀
  clear h₀ hm₀
  unfold execAckTimer
  try dsimp only
  repeat' (first
    | with_reducible exact Rg.refl _ _
    | exact (rfl : (_ : Nat) = _)
    | with_reducible refine State.sendAck_rg ?_ ?_
    | with_reducible refine RgO.ite ?_ ?_
    | with_reducible refine RgO.next ?_)

theorem execTlTrain_rg {msk : Nat} {b₀ : State} {s : State} (h₀ : Rg msk b₀ s) (hm₀ : 96107167241834975113312584178489302142293605564759693452881525800550935701028622018807961011287203091762360161057610309431022918305071491196021150395918255904 ||| msk = msk) :
    RgO msk b₀ (execTlTrain s) := by
  refine RgO.step h₀ ?_ hm₀
  clear h₀ hm₀
  unfold execTlTrain
  try dsimp only
  repeat' (first
    | with_reducible exact Rg.refl _ _
    | with_reducible assumption
    | exact (rfl : (_ : Nat) = _)
    | with_reducible refine State.pageWrite_rg ?_ ?_ ?_
    | with_reducible refine State.putBit_rg ?_ ?_
    | with_reducible refine State.setLinkState_rg ?_ ?_
    | with_reducible refine in_TL_CTRL ?_
    | exact (rfl : (_ : Bool) = _)
    | with_reducible refine Rg.ite ?_ ?_
    | with_reducible refine RgO.next ?_
    | intro _ _)

theorem execTlForceSwap_rg {msk : Nat} {b₀ : State} {lane : Nat} {receive : Bool} {s : State} (h₀ : Rg msk b₀ s) (hm₀ : 96107167241834975113312584178489302142293605564759695880764826321290699945296054155003435770157249127472638246240335105104477979239966629210228063406905167648 ||| msk = msk) :
    RgO msk b₀ (execTlForceSwap lane receive s) := by
  refine RgO.step h₀ ?_ hm₀
  clear h₀ hm₀
  unfold execTlForceSwap
  try dsimp only
  repeat' (first
    | with_reducible exact Rg.refl _ _
    | with_reducible assumption
    | exact (rfl : (_ : Nat) = _)
    | with_reducible refine State.pageWrite_rg ?_ ?_ ?_
    | with_reducible refine State.forceSwap_rg ?_ ?_
    | with_reducible refine RgO.next ?_
    | intro _ _)

theorem execMlkTrain_rg {msk : Nat} {b₀ : State} {n : Nat} {s : State} (h₀ : Rg msk b₀ s) (hm₀ : 96107167241834975113312584178489302142293605564759693426004588894417285174339314651986631399264043822587512600946706667121883576920383189222130021767688816416 ||| msk = msk) :
    RgO msk b₀ (execMlkTrain n s) := by
  refine RgO.step h₀ ?_ hm₀
  clear h₀ hm₀
  unfold execMlkTrain
  try dsimp only
  repeat' (first
    | with_reducible exact Rg.refl _ _
    | with_reducible assumption
    | exact (rfl : (_ : Nat) = _)
    | with_reducible refine State.pageWrite_rg ?_ ?_ ?_
    | with_reducible refine State.trainStart_rg ?_ ?_
    | with_reducible refine State.putBit_rg ?_ ?_
    | with_reducible refine in_MLK_CTRL ?_
    | exact (rfl : (_ : Bool) = _)
    | with_reducible refine RgO.next ?_
    | intro _ _)

theorem execLaneFailing_rg {msk : Nat} {b₀ : State} {k : LinkEnd} {lane : Nat} {errors : Nat} {lockLost : Bool} {s : State} (h₀ : Rg msk b₀ s) (hm₀ : 20802749165347445507657523901919719403307981992281375289312074211915198002384117279603758925719343047116800 ||| msk = msk) :
    RgO msk b₀ (execLaneFailing k lane errors lockLost s) := by
  refine RgO.step h₀ ?_ hm₀
  clear h₀ hm₀
  unfold execLaneFailing
  try dsimp only
  repeat' (first
    | with_reducible exact Rg.refl _ _
    | exact (rfl : (_ : Nat) = _)
    | with_reducible refine State.countBy_rg ?_ ?_
    | with_reducible refine State.laneFails_rg ?_ ?_
    | with_reducible refine LinkEnd.laneErr_in ?_ ?_
    | exact (rfl : (_ : Bool) = _)
    | with_reducible refine Rg.ite ?_ ?_
    | with_reducible refine RgO.ite ?_ ?_
    | with_reducible refine RgO.next ?_)

theorem execTrainTimeout_rg {msk : Nat} {b₀ : State} {k : LinkEnd} {s : State} (h₀ : Rg msk b₀ s) (hm₀ : 96107167241834975113312584178489302142293605565962147390836281610154672514595579974844487670131114987261119094180219786610478982139730166216656238085492772640 ||| msk = msk) :
    RgO msk b₀ (execTrainTimeout k s) := by
  refine RgO.step h₀ ?_ hm₀
  clear h₀ hm₀
  unfold execTrainTimeout
  try dsimp only
  repeat' (first
    | with_reducible exact Rg.refl _ _
    | exact (rfl : (_ : Nat) = _)
    | with_reducible refine State.linkGoesDown_rg ?_ ?_
    | with_reducible refine State.linkErr_rg ?_ ?_
    | with_reducible refine RgO.ite ?_ ?_
    | with_reducible refine RgO.next ?_)

theorem execInitMsgRx_rg {msk : Nat} {b₀ : State} {k : LinkEnd} {x : InitMsg} {s : State} (h₀ : Rg msk b₀ s) (hm₀ : 96107167241834975113312584178489302142293605565962184086814137451298858287729904808235540415170941679759098895601649977376496397896659286513506000096477646624 ||| msk = msk) :
    RgO msk b₀ (execInitMsgRx k x s) := by
  refine RgO.step h₀ ?_ hm₀
  clear h₀ hm₀
  unfold execInitMsgRx
  try dsimp only
  repeat' (first
    | with_reducible exact Rg.refl _ _
    | exact (rfl : (_ : Nat) = _)
    | with_reducible refine State.takeCredits_rg ?_ ?_
    | with_reducible refine State.pump_rg ?_ ?_
    | with_reducible refine State.torluxInit_rg ?_ ?_
    | with_reducible refine RgO.ite ?_ ?_
    | with_reducible refine RgO.next ?_
    | split)

theorem execLinkInitTimeout_rg {msk : Nat} {b₀ : State} {k : LinkEnd} {s : State} (h₀ : Rg msk b₀ s) (hm₀ : 96107167241834975113312584178489302142293605565962147390836281610154672514595579974844487670131114987261119094180219786610478982139730166216656238085492772640 ||| msk = msk) :
    RgO msk b₀ (execLinkInitTimeout k s) := by
  refine RgO.step h₀ ?_ hm₀
  clear h₀ hm₀
  unfold execLinkInitTimeout
  try dsimp only
  repeat' (first
    | with_reducible exact Rg.refl _ _
    | exact (rfl : (_ : Nat) = _)
    | with_reducible refine State.linkGoesDown_rg ?_ ?_
    | with_reducible refine State.linkErr_rg ?_ ?_
    | with_reducible refine RgO.ite ?_ ?_
    | with_reducible refine RgO.next ?_)

theorem execSwapOrderedSetRx_rg {msk : Nat} {b₀ : State} {k : LinkEnd} {fail : Nat} {spare : Nat} {nfail : Nat} {nspare : Nat} {count : Nat} {s : State} (h₀ : Rg msk b₀ s) (hm₀ : 96107167241834975113312584178489302142293605564759693443922546831839718858798852896534183898800621102823762021457653905575855433584427709672511177309489792800 ||| msk = msk) :
    RgO msk b₀ (execSwapOrderedSetRx k fail spare nfail nspare count s) := by
  refine RgO.step h₀ ?_ hm₀
  clear h₀ hm₀
  unfold execSwapOrderedSetRx
  try dsimp only
  repeat' (first
    | with_reducible exact Rg.refl _ _
    | exact (rfl : (_ : Nat) = _)
    | with_reducible refine State.laneSwapped_rg ?_ ?_
    | with_reducible refine State.setFlitLink_rg ?_ ?_
    | with_reducible refine RgO.ite ?_ ?_
    | with_reducible refine RgO.next ?_)

end Sys2Proof.Machine
end

