-- ==== Sys2Proof/Laws/RgResponses.lean ====
section
/-! SUPPORT. Register frames of the operations of Machine.Responses: the registers that each may write. -/

set_option maxRecDepth 20000
set_option Elab.async false
set_option linter.unusedTactic false
set_option linter.unreachableTactic false
set_option linter.unusedVariables false

namespace Sys2Proof.Machine

theorem execTelemetryPoll_rg {msk : Nat} {b₀ : State} {n : Nat} {s : State} (h₀ : Rg msk b₀ s) (hm₀ : 110427941548649020598956093796432407239217743554726184882600387580790784 ||| msk = msk) :
    RgO msk b₀ (execTelemetryPoll n s) := by
  refine RgO.step h₀ ?_ hm₀
  clear h₀ hm₀
  unfold execTelemetryPoll
  try dsimp only
  repeat' (first
    | with_reducible exact Rg.refl _ _
    | exact (rfl : (_ : Nat) = _)
    | with_reducible refine State.sendMod_rg ?_ ?_
    | with_reducible refine Rg.ite ?_ ?_
    | with_reducible refine RgO.next ?_)

theorem State.eraseResend_rg {msk : Nat} {b₀ : State} {s : State} {port : Nat} (h₀ : Rg msk b₀ s) (hm₀ : 110427941548649020598956093796432407239217743554726184882600387580790784 ||| msk = msk) :
    Rg msk b₀ (State.eraseResend s port) := by
  refine Rg.step h₀ ?_ hm₀
  clear h₀ hm₀
  unfold State.eraseResend
  try dsimp only
  repeat' (first
    | with_reducible exact Rg.refl _ _
    | with_reducible assumption
    | exact (rfl : (_ : Nat) = _)
    | with_reducible refine State.sendMod_rg ?_ ?_
    | with_reducible refine Rg.ite ?_ ?_
    | with_reducible refine Rg.foldl ?_ _ _ ?_
    | intro _ _ _
    | split)

theorem State.showWords_rg {msk : Nat} {b₀ : State} {s : State} {k : Nat → Nat} {b : List Byte} {n : Nat} (hk : ∀ i, InSet msk (k i)) (h₀ : Rg msk b₀ s) (hm₀ : 0 ||| msk = msk) :
    Rg msk b₀ (State.showWords s k b n) := by
  unfold State.showWords
  try dsimp only
  repeat' (first
    | with_reducible assumption
    | with_reducible refine State.wrN_rg ?_ ?_
    | with_reducible exact hk _
    | with_reducible refine Rg.foldl ?_ _ _ ?_
    | intro _ _ _)

theorem State.replaceModule_rg {msk : Nat} {b₀ : State} {s : State} {port : Nat} {pool : Nat} {old : Ident} {new : Ident} (h₀ : Rg msk b₀ s) (hm₀ : 143343663499379469475676305956380544227726860472038169189693098894089918973273855230561042169770436200448 ||| msk = msk) :
    Rg msk b₀ (State.replaceModule s port pool old new) := by
  refine Rg.step h₀ ?_ hm₀
  clear h₀ hm₀
  unfold State.replaceModule
  try dsimp only
  repeat' (first
    | with_reducible exact Rg.refl _ _
    | exact (rfl : (_ : Nat) = _)
    | with_reducible refine State.substitute_rg ?_ ?_
    | with_reducible refine Rg.ite ?_ ?_
    | split)

theorem State.identified_rg {msk : Nat} {b₀ : State} {s : State} {port : Nat} {b : List Byte} (h₀ : Rg msk b₀ s) (hm₀ : 96107167241834975113312584178489302142293605565962147390836281610154672514595579974901026776204023285807784614203993179116958466839749972876547636526856605472 ||| msk = msk) :
    Rg msk b₀ (State.identified s port b) := by
  refine Rg.step h₀ ?_ hm₀
  clear h₀ hm₀
  unfold State.identified
  try dsimp only
  repeat' (first
    | with_reducible exact Rg.refl _ _
    | with_reducible assumption
    | exact (rfl : (_ : Nat) = _)
    | with_reducible refine State.showWords_rg ?_ ?_ ?_
    | with_reducible refine State.setMlink_rg ?_ ?_
    | with_reducible refine State.linkGoesDown_rg ?_ ?_
    | with_reducible refine State.linkErr_rg ?_ ?_
    | with_reducible refine State.spareInit_rg ?_ ?_
    | with_reducible refine State.event_rg ?_ ?_
    | with_reducible refine State.setLinkState_rg ?_ ?_
    | with_reducible refine State.replaceModule_rg ?_ ?_
    | with_reducible refine State.pump_rg ?_ ?_
    | with_reducible refine State.eraseResend_rg ?_ ?_
    | with_reducible refine in_MLK_IDENT ?_
    | exact (rfl : (_ : Bool) = _)
    | with_reducible refine Rg.ite ?_ ?_
    | with_reducible refine Rg.foldl ?_ _ _ ?_
    | intro _ _ _
    | intro _
    | split)

theorem State.raiseResponse_rg {msk : Nat} {b₀ : State} {s : State} {q : Nat} {port : Nat} {new : Nat} {toOther : Bool} {retried : Bool} {r : ModResp} (h₀ : Rg msk b₀ s) (hm₀ : 96107167241834975113312584178489302142293605565999723909709172838742930929444084602441183308548760152466063548390891219838702353343193988596193657015760916256 ||| msk = msk) :
    Rg msk b₀ (State.raiseResponse s q port new toOther retried r) := by
  refine Rg.step h₀ ?_ hm₀
  clear h₀ hm₀
  unfold State.raiseResponse
  try dsimp only
  repeat' (first
    | with_reducible exact Rg.refl _ _
    | exact (rfl : (_ : Nat) = _)
    | with_reducible refine State.raiseGranted_rg ?_ ?_
    | with_reducible refine State.raiseRefused_rg ?_ ?_
    | with_reducible refine Rg.ite ?_ ?_)

theorem State.heard_rg {msk : Nat} {b₀ : State} {s : State} {port : Nat} {c : ModCmd} {r : ModResp} (h₀ : Rg msk b₀ s) (hm₀ : 96107167241834975113312584178489302142293605564797270251792510368505960286663137784262176462072512423224578673162724360555202902732219077433383671542996602656 ||| msk = msk) :
    Rg msk b₀ (State.heard s port c r) := by
  refine Rg.step h₀ ?_ hm₀
  clear h₀ hm₀
  unfold State.heard
  try dsimp only
  repeat' (first
    | with_reducible exact Rg.refl _ _
    | with_reducible assumption
    | exact (rfl : (_ : Nat) = _)
    | with_reducible refine State.learnEpoch_rg ?_ ?_
    | with_reducible refine State.staleSelf_rg ?_ ?_
    | with_reducible refine State.count_rg ?_ ?_
    | with_reducible refine State.noteFail_rg ?_ ?_
    | with_reducible refine in_MLK_STALE ?_
    | with_reducible refine InSet.ite ?_ ?_
    | exact (rfl : (_ : Bool) = _)
    | dsimp only
    | with_reducible refine Rg.ite ?_ ?_
    | with_reducible refine Rg.ite₁ ?_ ?_
    | with_reducible refine RgS.ite ?_ ?_
    | with_reducible refine RgP.ite ?_ ?_
    | with_reducible exact RgS.none
    | with_reducible refine RgS.some ?_
    | with_reducible refine RgS.map ?_
    | with_reducible exact RgP.none
    | with_reducible refine RgP.some ?_
    | with_reducible refine Rg.elim ?_ ?_
    | with_reducible refine Rg.foldl ?_ _ _ ?_
    | with_reducible refine Rg.foldl₂ ?_ _ _ ?_
    | intro _ _ _ _ _ _
    | intro _ _ _ _ _
    | intro _ _ _ _
    | intro _ _ _
    | intro _ _
    | intro _
    | with_reducible refine Rg.pair (h := ?_) (e := by assumption)
    | with_reducible refine RgO.got (h := ?_) (e := by assumption)
    | with_reducible refine RgS.get (h := ?_) (e := by assumption)
    | with_reducible refine RgP.get (h := ?_) (e := by assumption)
    | split)

theorem State.dieDone_rg {msk : Nat} {b₀ : State} {s : State} {m : Nat} {d : Nat} (h₀ : Rg msk b₀ s) (hm₀ : 0 ||| msk = msk) :
    Rg msk b₀ (State.dieDone s m d) := by
  refine Rg.step h₀ ?_ hm₀
  clear h₀ hm₀
  unfold State.dieDone
  try dsimp only
  repeat' (first
    | with_reducible exact Rg.refl _ _
    | exact (rfl : (_ : Nat) = _)
    | with_reducible refine State.setDie_rg ?_ ?_)

theorem State.eraseResponse_rg {msk : Nat} {b₀ : State} {s : State} {port : Nat} {m : Nat} {seg : Nat} {k : Nat} {c : ModCmd} {r : ModResp} (h₀ : Rg msk b₀ s) (hm₀ : 0 ||| msk = msk) :
    Rg msk b₀ (State.eraseResponse s port m seg k c r) := by
  refine Rg.step h₀ ?_ hm₀
  clear h₀ hm₀
  unfold State.eraseResponse
  try dsimp only
  repeat' (first
    | with_reducible exact Rg.refl _ _
    | with_reducible assumption
    | exact (rfl : (_ : Nat) = _)
    | with_reducible refine State.dieDone_rg ?_ ?_
    | with_reducible refine State.eraseOk_rg ?_ ?_
    | with_reducible refine State.noteFail_rg ?_ ?_
    | dsimp only
    | with_reducible refine Rg.ite ?_ ?_
    | with_reducible refine Rg.ite₁ ?_ ?_
    | with_reducible refine RgS.ite ?_ ?_
    | with_reducible refine RgP.ite ?_ ?_
    | with_reducible exact RgS.none
    | with_reducible refine RgS.some ?_
    | with_reducible refine RgS.map ?_
    | with_reducible exact RgP.none
    | with_reducible refine RgP.some ?_
    | with_reducible refine Rg.elim ?_ ?_
    | with_reducible refine Rg.foldl ?_ _ _ ?_
    | with_reducible refine Rg.foldl₂ ?_ _ _ ?_
    | intro _ _ _ _ _ _
    | intro _ _ _ _ _
    | intro _ _ _ _
    | intro _ _ _
    | intro _ _
    | intro _
    | with_reducible refine Rg.pair (h := ?_) (e := by assumption)
    | with_reducible refine RgO.got (h := ?_) (e := by assumption)
    | with_reducible refine RgS.get (h := ?_) (e := by assumption)
    | with_reducible refine RgP.get (h := ?_) (e := by assumption)
    | split)

theorem execModuleAlertRx_rg {msk : Nat} {b₀ : State} {n : Nat} {info : Nat} {s : State} (h₀ : Rg msk b₀ s) (hm₀ : 96107167241834975113312584178489302142293605564759693426004588894417285174339314651986626222954283729664672024879809959352794238588654061432213649874520966944 ||| msk = msk) :
    RgO msk b₀ (execModuleAlertRx n info s) := by
  refine RgO.step h₀ ?_ hm₀
  clear h₀ hm₀
  unfold execModuleAlertRx
  try dsimp only
  repeat' (first
    | with_reducible exact Rg.refl _ _
    | with_reducible assumption
    | exact (rfl : (_ : Nat) = _)
    | with_reducible refine State.raise_rg ?_ ?_
    | with_reducible refine State.event_rg ?_ ?_
    | with_reducible refine State.setMlink_rg ?_ ?_
    | with_reducible refine State.noteFail_rg ?_ ?_
    | dsimp only
    | with_reducible refine Rg.ite ?_ ?_
    | with_reducible refine Rg.ite₁ ?_ ?_
    | with_reducible refine RgO.ite ?_ ?_
    | with_reducible refine RgS.ite ?_ ?_
    | with_reducible refine RgP.ite ?_ ?_
    | with_reducible refine RgO.next ?_
    | with_reducible exact RgS.none
    | with_reducible refine RgS.some ?_
    | with_reducible refine RgS.map ?_
    | with_reducible exact RgP.none
    | with_reducible refine RgP.some ?_
    | with_reducible refine Rg.elim ?_ ?_
    | with_reducible refine Rg.foldl ?_ _ _ ?_
    | with_reducible refine Rg.foldl₂ ?_ _ _ ?_
    | intro _ _ _ _ _ _
    | intro _ _ _ _ _
    | intro _ _ _ _
    | intro _ _ _
    | intro _ _
    | intro _
    | with_reducible refine Rg.pair (h := ?_) (e := by assumption)
    | with_reducible refine RgO.got (h := ?_) (e := by assumption)
    | with_reducible refine RgS.get (h := ?_) (e := by assumption)
    | with_reducible refine RgP.get (h := ?_) (e := by assumption)
    | split)

theorem State.programmed_rg {msk : Nat} {b₀ : State} {s : State} {port : Nat} {c : ModCmd} {r : ModResp} (h₀ : Rg msk b₀ s) (hm₀ : 274877906944 ||| msk = msk) :
    Rg msk b₀ (State.programmed s port c r) := by
  refine Rg.step h₀ ?_ hm₀
  clear h₀ hm₀
  unfold State.programmed
  try dsimp only
  repeat' (first
    | with_reducible exact Rg.refl _ _
    | with_reducible assumption
    | exact (rfl : (_ : Nat) = _)
    | with_reducible refine State.wr64_rg ?_ ?_ ?_
    | with_reducible refine in_MOD_WR ?_
    | with_reducible refine in_MOD_WR4 ?_
    | with_reducible refine InSet.ite ?_ ?_
    | exact (rfl : (_ : Bool) = _)
    | dsimp only
    | with_reducible refine Rg.ite ?_ ?_
    | with_reducible refine Rg.ite₁ ?_ ?_
    | with_reducible refine RgS.ite ?_ ?_
    | with_reducible refine RgP.ite ?_ ?_
    | with_reducible exact RgS.none
    | with_reducible refine RgS.some ?_
    | with_reducible refine RgS.map ?_
    | with_reducible exact RgP.none
    | with_reducible refine RgP.some ?_
    | with_reducible refine Rg.elim ?_ ?_
    | with_reducible refine Rg.foldl ?_ _ _ ?_
    | with_reducible refine Rg.foldl₂ ?_ _ _ ?_
    | intro _ _ _ _ _ _
    | intro _ _ _ _ _
    | intro _ _ _ _
    | intro _ _ _
    | intro _ _
    | intro _
    | with_reducible refine Rg.pair (h := ?_) (e := by assumption)
    | with_reducible refine RgO.got (h := ?_) (e := by assumption)
    | with_reducible refine RgS.get (h := ?_) (e := by assumption)
    | with_reducible refine RgP.get (h := ?_) (e := by assumption)
    | split)

theorem State.scanAnswer_rg {msk : Nat} {b₀ : State} {s : State} {port : Nat} {m : Nat} {c : ModCmd} {patrol : Bool} {ok : Bool} {r : ModResp} (h₀ : Rg msk b₀ s) (hm₀ : 96107167241834975113312584178489302142293605564759693426004588894417324960224787361178897293175612493589232858923625403172855445723920136981373734568853573408 ||| msk = msk) :
    Rg msk b₀ (State.scanAnswer s port m c patrol ok r) := by
  refine Rg.step h₀ ?_ hm₀
  clear h₀ hm₀
  unfold State.scanAnswer
  try dsimp only
  repeat' (first
    | with_reducible exact Rg.refl _ _
    | with_reducible assumption
    | exact (rfl : (_ : Nat) = _)
    | with_reducible refine State.inject_rg ?_ ?_
    | with_reducible refine State.report_rg ?_ ?_
    | with_reducible refine State.noteFail_rg ?_ ?_
    | dsimp only
    | with_reducible refine Rg.ite ?_ ?_
    | with_reducible refine Rg.ite₁ ?_ ?_
    | with_reducible refine RgS.ite ?_ ?_
    | with_reducible refine RgP.ite ?_ ?_
    | with_reducible exact RgS.none
    | with_reducible refine RgS.some ?_
    | with_reducible refine RgS.map ?_
    | with_reducible exact RgP.none
    | with_reducible refine RgP.some ?_
    | with_reducible refine Rg.elim ?_ ?_
    | with_reducible refine Rg.foldl ?_ _ _ ?_
    | with_reducible refine Rg.foldl₂ ?_ _ _ ?_
    | intro _ _ _ _ _ _
    | intro _ _ _ _ _
    | intro _ _ _ _
    | intro _ _ _
    | intro _ _
    | intro _
    | with_reducible refine Rg.pair (h := ?_) (e := by assumption)
    | with_reducible refine RgO.got (h := ?_) (e := by assumption)
    | with_reducible refine RgS.get (h := ?_) (e := by assumption)
    | with_reducible refine RgP.get (h := ?_) (e := by assumption)
    | split)

theorem State.telemetered_rg {msk : Nat} {b₀ : State} {s : State} {port : Nat} {m : Nat} {b : List Byte} (h₀ : Rg msk b₀ s) (hm₀ : 113078212145816597093331040047546785012958969400039613319782796882727665696 ||| msk = msk) :
    Rg msk b₀ (State.telemetered s port m b) := by
  refine Rg.step h₀ ?_ hm₀
  clear h₀ hm₀
  unfold State.telemetered
  try dsimp only
  repeat' (first
    | with_reducible exact Rg.refl _ _
    | exact (rfl : (_ : Nat) = _)
    | with_reducible refine State.setHealth_rg ?_ ?_
    | with_reducible refine State.event_rg ?_ ?_
    | with_reducible refine State.showWords_rg ?_ ?_ ?_
    | with_reducible refine in_MLK_TELEM ?_
    | exact (rfl : (_ : Bool) = _)
    | with_reducible refine Rg.ite ?_ ?_
    | intro _)

theorem State.stripeResponse_rg {msk : Nat} {b₀ : State} {s : State} {port : Nat} {i : Nat} {k : Nat} {c : ModCmd} {r : ModResp} (h₀ : Rg msk b₀ s) (hm₀ : 96107167241834975113312584178489302142293605564759693426074580917610341555919234723254500534587133800473853778939231051165151952306588817160248671926839480096 ||| msk = msk) :
    Rg msk b₀ (State.stripeResponse s port i k c r) := by
  refine Rg.step h₀ ?_ hm₀
  clear h₀ hm₀
  unfold State.stripeResponse
  try dsimp only
  repeat' (first
    | with_reducible exact Rg.refl _ _
    | with_reducible assumption
    | exact (rfl : (_ : Nat) = _)
    | with_reducible refine State.noteFail_rg ?_ ?_
    | with_reducible refine State.stripeAnswer_rg ?_ ?_
    | with_reducible refine State.dieDone_rg ?_ ?_
    | dsimp only
    | with_reducible refine Rg.ite ?_ ?_
    | with_reducible refine Rg.ite₁ ?_ ?_
    | with_reducible refine RgS.ite ?_ ?_
    | with_reducible refine RgP.ite ?_ ?_
    | with_reducible exact RgS.none
    | with_reducible refine RgS.some ?_
    | with_reducible refine RgS.map ?_
    | with_reducible exact RgP.none
    | with_reducible refine RgP.some ?_
    | with_reducible refine Rg.elim ?_ ?_
    | with_reducible refine Rg.foldl ?_ _ _ ?_
    | with_reducible refine Rg.foldl₂ ?_ _ _ ?_
    | intro _ _ _ _ _ _
    | intro _ _ _ _ _
    | intro _ _ _ _
    | intro _ _ _
    | intro _ _
    | intro _
    | with_reducible refine Rg.pair (h := ?_) (e := by assumption)
    | with_reducible refine RgO.got (h := ?_) (e := by assumption)
    | with_reducible refine RgS.get (h := ?_) (e := by assumption)
    | with_reducible refine RgP.get (h := ?_) (e := by assumption)
    | split)

theorem State.statusResponse_rg {msk : Nat} {b₀ : State} {s : State} {port : Nat} {m : Nat} {d : Nat} {info : Nat} {tag : Nat} (h₀ : Rg msk b₀ s) (hm₀ : 0 ||| msk = msk) :
    Rg msk b₀ (State.statusResponse s port m d info tag) := by
  refine Rg.step h₀ ?_ hm₀
  clear h₀ hm₀
  unfold State.statusResponse
  try dsimp only
  repeat' (first
    | with_reducible exact Rg.refl _ _
    | with_reducible assumption
    | exact (rfl : (_ : Nat) = _)
    | with_reducible refine State.noteFail_rg ?_ ?_
    | with_reducible refine State.setDie_rg ?_ ?_
    | dsimp only
    | with_reducible refine Rg.ite ?_ ?_
    | with_reducible refine Rg.ite₁ ?_ ?_
    | with_reducible refine RgS.ite ?_ ?_
    | with_reducible refine RgP.ite ?_ ?_
    | with_reducible exact RgS.none
    | with_reducible refine RgS.some ?_
    | with_reducible refine RgS.map ?_
    | with_reducible exact RgP.none
    | with_reducible refine RgP.some ?_
    | with_reducible refine Rg.elim ?_ ?_
    | with_reducible refine Rg.foldl ?_ _ _ ?_
    | with_reducible refine Rg.foldl₂ ?_ _ _ ?_
    | intro _ _ _ _ _ _
    | intro _ _ _ _ _
    | intro _ _ _ _
    | intro _ _ _
    | intro _ _
    | intro _
    | with_reducible refine Rg.pair (h := ?_) (e := by assumption)
    | with_reducible refine RgO.got (h := ?_) (e := by assumption)
    | with_reducible refine RgS.get (h := ?_) (e := by assumption)
    | with_reducible refine RgP.get (h := ?_) (e := by assumption)
    | split)

theorem State.respond_rg {msk : Nat} {b₀ : State} {s : State} {port : Nat} {m : Nat} {c : ModCmd} {r : ModResp} (h₀ : Rg msk b₀ s) (hm₀ : 96107167241834975113312584178489302142293605565999724072160662941800904204144209367452198730088534487597881526866402632837180584642874814809148682948780822304 ||| msk = msk) :
    Rg msk b₀ (State.respond s port m c r) := by
  refine Rg.step h₀ ?_ hm₀
  clear h₀ hm₀
  unfold State.respond
  try dsimp only
  repeat' (first
    | with_reducible exact Rg.refl _ _
    | with_reducible assumption
    | exact (rfl : (_ : Nat) = _)
    | with_reducible refine State.identified_rg ?_ ?_
    | with_reducible refine State.learnEpoch_rg ?_ ?_
    | with_reducible refine State.telemetered_rg ?_ ?_
    | with_reducible refine State.raiseResponse_rg ?_ ?_
    | with_reducible refine State.stripeResponse_rg ?_ ?_
    | with_reducible refine State.journalOk_rg ?_ ?_
    | with_reducible refine State.journalFail_rg ?_ ?_
    | with_reducible refine State.rootAnswer_rg ?_ ?_
    | with_reducible refine State.eraseResponse_rg ?_ ?_
    | with_reducible refine State.dieDone_rg ?_ ?_
    | with_reducible refine State.setBg_rg ?_ ?_
    | with_reducible refine State.levelOk_rg ?_ ?_
    | with_reducible refine State.readAnswer_rg ?_ ?_
    | with_reducible refine State.scanAnswer_rg ?_ ?_
    | with_reducible refine State.rebuildOk_rg ?_ ?_
    | with_reducible refine State.rebuildFail_rg ?_ ?_
    | with_reducible refine State.setDie_rg ?_ ?_
    | with_reducible refine State.statusResponse_rg ?_ ?_
    | dsimp only
    | with_reducible refine Rg.ite ?_ ?_
    | with_reducible refine Rg.ite₁ ?_ ?_
    | with_reducible refine RgS.ite ?_ ?_
    | with_reducible refine RgP.ite ?_ ?_
    | with_reducible exact RgS.none
    | with_reducible refine RgS.some ?_
    | with_reducible refine RgS.map ?_
    | with_reducible exact RgP.none
    | with_reducible refine RgP.some ?_
    | with_reducible refine Rg.elim ?_ ?_
    | with_reducible refine Rg.foldl ?_ _ _ ?_
    | with_reducible refine Rg.foldl₂ ?_ _ _ ?_
    | intro _ _ _ _ _ _
    | intro _ _ _ _ _
    | intro _ _ _ _
    | intro _ _ _
    | intro _ _
    | intro _
    | with_reducible refine Rg.pair (h := ?_) (e := by assumption)
    | with_reducible refine RgO.got (h := ?_) (e := by assumption)
    | with_reducible refine RgS.get (h := ?_) (e := by assumption)
    | with_reducible refine RgP.get (h := ?_) (e := by assumption)
    | split)

theorem execModuleResponseRx_rg {msk : Nat} {b₀ : State} {port : Nat} {tag : Nat} {r : ModResp} {s : State} (h₀ : Rg msk b₀ s) (hm₀ : 96107167241834975113312584178489302142293605565999724072160662941800904204144209367455732424218091256257048121867888469868835552436626052725391895626243968800 ||| msk = msk) :
    RgO msk b₀ (execModuleResponseRx port tag r s) := by
  refine RgO.step h₀ ?_ hm₀
  clear h₀ hm₀
  unfold execModuleResponseRx
  try dsimp only
  repeat' (first
    | with_reducible exact Rg.refl _ _
    | with_reducible assumption
    | exact (rfl : (_ : Nat) = _)
    | with_reducible refine State.setMlink_rg ?_ ?_
    | with_reducible refine State.pump_rg ?_ ?_
    | with_reducible refine State.respond_rg ?_ ?_
    | with_reducible refine State.programmed_rg ?_ ?_
    | with_reducible refine State.heard_rg ?_ ?_
    | dsimp only
    | with_reducible refine Rg.ite ?_ ?_
    | with_reducible refine Rg.ite₁ ?_ ?_
    | with_reducible refine RgO.ite ?_ ?_
    | with_reducible refine RgS.ite ?_ ?_
    | with_reducible refine RgP.ite ?_ ?_
    | with_reducible refine RgO.next ?_
    | with_reducible exact RgS.none
    | with_reducible refine RgS.some ?_
    | with_reducible refine RgS.map ?_
    | with_reducible exact RgP.none
    | with_reducible refine RgP.some ?_
    | with_reducible refine Rg.elim ?_ ?_
    | with_reducible refine Rg.foldl ?_ _ _ ?_
    | with_reducible refine Rg.foldl₂ ?_ _ _ ?_
    | intro _ _ _ _ _ _
    | intro _ _ _ _ _
    | intro _ _ _ _
    | intro _ _ _
    | intro _ _
    | intro _
    | with_reducible refine Rg.pair (h := ?_) (e := by assumption)
    | with_reducible refine RgO.got (h := ?_) (e := by assumption)
    | with_reducible refine RgS.get (h := ?_) (e := by assumption)
    | with_reducible refine RgP.get (h := ?_) (e := by assumption)
    | split)

theorem execModuleInterimResponse_rg {msk : Nat} {b₀ : State} {port : Nat} {tag : Nat} {r : ModResp} {s : State} (h₀ : Rg msk b₀ s) (hm₀ : 96107167241834975113312584178489302142293605564797270251792510368505960286663137784262176462072512423224578673162724360555202902732219077433383671542996602656 ||| msk = msk) :
    RgO msk b₀ (execModuleInterimResponse port tag r s) := by
  refine RgO.step h₀ ?_ hm₀
  clear h₀ hm₀
  unfold execModuleInterimResponse
  try dsimp only
  repeat' (first
    | with_reducible exact Rg.refl _ _
    | with_reducible assumption
    | exact (rfl : (_ : Nat) = _)
    | with_reducible refine State.heard_rg ?_ ?_
    | with_reducible refine State.setMlink_rg ?_ ?_
    | with_reducible refine State.setDie_rg ?_ ?_
    | dsimp only
    | with_reducible refine Rg.ite ?_ ?_
    | with_reducible refine Rg.ite₁ ?_ ?_
    | with_reducible refine RgO.ite ?_ ?_
    | with_reducible refine RgS.ite ?_ ?_
    | with_reducible refine RgP.ite ?_ ?_
    | with_reducible refine RgO.next ?_
    | with_reducible exact RgS.none
    | with_reducible refine RgS.some ?_
    | with_reducible refine RgS.map ?_
    | with_reducible exact RgP.none
    | with_reducible refine RgP.some ?_
    | with_reducible refine Rg.elim ?_ ?_
    | with_reducible refine Rg.foldl ?_ _ _ ?_
    | with_reducible refine Rg.foldl₂ ?_ _ _ ?_
    | intro _ _ _ _ _ _
    | intro _ _ _ _ _
    | intro _ _ _ _
    | intro _ _ _
    | intro _ _
    | intro _
    | with_reducible refine Rg.pair (h := ?_) (e := by assumption)
    | with_reducible refine RgO.got (h := ?_) (e := by assumption)
    | with_reducible refine RgS.get (h := ?_) (e := by assumption)
    | with_reducible refine RgP.get (h := ?_) (e := by assumption)
    | split)

end Sys2Proof.Machine
end

