-- ==== Sys2Proof/Laws/RgAdmin.lean ====
section
/-! SUPPORT. Register frames of the operations of Machine.Admin: the registers that each may write. -/

set_option maxRecDepth 20000
set_option Elab.async false
set_option linter.unusedTactic false
set_option linter.unreachableTactic false
set_option linter.unusedVariables false

namespace Sys2Proof.Machine

theorem State.setCtrl_rg {msk : Nat} {b₀ : State} {s : State} {k : Nat} {f : Ctrl → Ctrl} (h₀ : Rg msk b₀ s) (hm₀ : 0 ||| msk = msk) :
    Rg msk b₀ (State.setCtrl s k f) := by
  refine Rg.step h₀ ?_ hm₀
  clear h₀ hm₀
  unfold State.setCtrl
  try dsimp only
  repeat' (first
    | with_reducible exact Rg.refl _ _
    | refine Rg.mk' ?_)

theorem State.setAers_rg {msk : Nat} {b₀ : State} {s : State} {k : Ctl} {l : List Nat} (h₀ : Rg msk b₀ s) (hm₀ : 0 ||| msk = msk) :
    Rg msk b₀ (State.setAers s k l) := by
  refine Rg.step h₀ ?_ hm₀
  clear h₀ hm₀
  unfold State.setAers
  try dsimp only
  repeat' (first
    | with_reducible exact Rg.refl _ _
    | exact (rfl : (_ : Nat) = _)
    | with_reducible refine State.setFn_rg ?_ ?_
    | with_reducible refine State.setCtrl_rg ?_ ?_
    | split)

theorem State.anaNotice_rg {msk : Nat} {b₀ : State} {s : State} {k : Ctl} (h₀ : Rg msk b₀ s) (hm₀ : 0 ||| msk = msk) :
    Rg msk b₀ (State.anaNotice s k) := by
  refine Rg.step h₀ ?_ hm₀
  clear h₀ hm₀
  unfold State.anaNotice
  try dsimp only
  repeat' (first
    | with_reducible exact Rg.refl _ _
    | exact (rfl : (_ : Nat) = _)
    | with_reducible refine State.emit_rg ?_ ?_
    | with_reducible refine State.setAers_rg ?_ ?_
    | with_reducible refine Rg.ite ?_ ?_
    | split)

theorem State.adminRun_rg {msk : Nat} {b₀ : State} {s : State} {n : Nat} {op : HostOp} {f : State → Ctl → HostCmd → State} (hf : ∀ t0 t1 t2, Rg msk b₀ t0 → Rg msk b₀ (f t0 t1 t2)) (h₀ : Rg msk b₀ s) (hm₀ : 143343663499379469475676305956380433800627810156366027727182646684513172681765524608805055475647963465760 ||| msk = msk) :
    RgO msk b₀ (State.adminRun s n op f) := by
  unfold State.adminRun
  try dsimp only
  repeat' (first
    | with_reducible assumption
    | with_reducible refine State.complete_rg ?_ ?_
    | with_reducible refine hf _ _ _ ?_
    | with_reducible refine RgO.ite ?_ ?_
    | with_reducible refine RgO.next ?_
    | split)

theorem State.setFeat_rg {msk : Nat} {b₀ : State} {s : State} {c : Ctl} {fid : Nat} {v : Nat} (h₀ : Rg msk b₀ s) (hm₀ : 0 ||| msk = msk) :
    Rg msk b₀ (State.setFeat s c fid v) := by
  refine Rg.step h₀ ?_ hm₀
  clear h₀ hm₀
  unfold State.setFeat
  try dsimp only
  repeat' (first
    | with_reducible exact Rg.refl _ _
    | exact (rfl : (_ : Nat) = _)
    | with_reducible refine State.setFn_rg ?_ ?_
    | with_reducible refine State.setCtrl_rg ?_ ?_
    | split)

theorem execNvmeSetFeatures_rg {msk : Nat} {b₀ : State} {n : Nat} {s : State} (h₀ : Rg msk b₀ s) (hm₀ : 143343663499379469475676305956380433800627810156366027727182646684513172681765524608805055475647963465760 ||| msk = msk) :
    RgO msk b₀ (execNvmeSetFeatures n s) := by
  refine RgO.step h₀ ?_ hm₀
  clear h₀ hm₀
  unfold execNvmeSetFeatures
  try dsimp only
  repeat' (first
    | with_reducible exact Rg.refl _ _
    | with_reducible assumption
    | exact (rfl : (_ : Nat) = _)
    | with_reducible refine State.adminRun_rg ?_ ?_ ?_
    | with_reducible refine State.complete_rg ?_ ?_
    | with_reducible refine State.setFeat_rg ?_ ?_
    | with_reducible refine State.setCmd_rg ?_ ?_
    | with_reducible refine State.setFn_rg ?_ ?_
    | with_reducible refine Rg.ite ?_ ?_
    | intro _ _ _ _
    | split)

theorem execNvmeGetFeatures_rg {msk : Nat} {b₀ : State} {n : Nat} {s : State} (h₀ : Rg msk b₀ s) (hm₀ : 143343663499379469475676305956380433800627810156366027727182646684513172681765524608805055475647963465760 ||| msk = msk) :
    RgO msk b₀ (execNvmeGetFeatures n s) := by
  refine RgO.step h₀ ?_ hm₀
  clear h₀ hm₀
  unfold execNvmeGetFeatures
  try dsimp only
  repeat' (first
    | with_reducible exact Rg.refl _ _
    | with_reducible assumption
    | exact (rfl : (_ : Nat) = _)
    | with_reducible refine State.adminRun_rg ?_ ?_ ?_
    | with_reducible refine State.complete_rg ?_ ?_
    | with_reducible refine Rg.ite ?_ ?_
    | intro _ _ _ _)

theorem execNvmeAsyncEventRequest_rg {msk : Nat} {b₀ : State} {n : Nat} {s : State} (h₀ : Rg msk b₀ s) (hm₀ : 143343663499379469475676305956380433800627810156366027727182646684513172681765524608805055475647963465760 ||| msk = msk) :
    RgO msk b₀ (execNvmeAsyncEventRequest n s) := by
  refine RgO.step h₀ ?_ hm₀
  clear h₀ hm₀
  unfold execNvmeAsyncEventRequest
  try dsimp only
  repeat' (first
    | with_reducible exact Rg.refl _ _
    | with_reducible assumption
    | exact (rfl : (_ : Nat) = _)
    | with_reducible refine State.adminRun_rg ?_ ?_ ?_
    | with_reducible refine State.complete_rg ?_ ?_
    | with_reducible refine State.dropCmd_rg ?_ ?_
    | with_reducible refine State.setAers_rg ?_ ?_
    | with_reducible refine Rg.ite ?_ ?_
    | intro _ _ _ _)

theorem execNvmeCreateIoCq_rg {msk : Nat} {b₀ : State} {n : Nat} {s : State} (h₀ : Rg msk b₀ s) (hm₀ : 143343663499379469475676305956380433800627810156366027727182646684513172681765524608805055475647963465760 ||| msk = msk) :
    RgO msk b₀ (execNvmeCreateIoCq n s) := by
  refine RgO.step h₀ ?_ hm₀
  clear h₀ hm₀
  unfold execNvmeCreateIoCq
  try dsimp only
  repeat' (first
    | with_reducible exact Rg.refl _ _
    | with_reducible assumption
    | exact (rfl : (_ : Nat) = _)
    | with_reducible refine State.adminRun_rg ?_ ?_ ?_
    | with_reducible refine State.complete_rg ?_ ?_
    | with_reducible refine State.setFn_rg ?_ ?_
    | with_reducible refine Rg.ite ?_ ?_
    | intro _ _ _ _
    | split)

theorem execNvmeGetLogPage_rg {msk : Nat} {b₀ : State} {n : Nat} {s : State} (h₀ : Rg msk b₀ s) (hm₀ : 143343663499379469475676305956380433800627810156366027727182646684513172681765524608805055475647963465760 ||| msk = msk) :
    RgO msk b₀ (execNvmeGetLogPage n s) := by
  refine RgO.step h₀ ?_ hm₀
  clear h₀ hm₀
  unfold execNvmeGetLogPage
  try dsimp only
  repeat' (first
    | with_reducible exact Rg.refl _ _
    | with_reducible assumption
    | exact (rfl : (_ : Nat) = _)
    | with_reducible refine State.adminRun_rg ?_ ?_ ?_
    | with_reducible refine State.complete_rg ?_ ?_
    | with_reducible refine State.emit_rg ?_ ?_
    | intro _ _ _ _
    | split)

theorem execNvmeCreateIoSq_rg {msk : Nat} {b₀ : State} {n : Nat} {s : State} (h₀ : Rg msk b₀ s) (hm₀ : 143343663499379469475676305956380433800627810156366027727182646684513172681765524608805055475647963465760 ||| msk = msk) :
    RgO msk b₀ (execNvmeCreateIoSq n s) := by
  refine RgO.step h₀ ?_ hm₀
  clear h₀ hm₀
  unfold execNvmeCreateIoSq
  try dsimp only
  repeat' (first
    | with_reducible exact Rg.refl _ _
    | with_reducible assumption
    | exact (rfl : (_ : Nat) = _)
    | with_reducible refine State.adminRun_rg ?_ ?_ ?_
    | with_reducible refine State.complete_rg ?_ ?_
    | with_reducible refine State.setFn_rg ?_ ?_
    | with_reducible refine Rg.ite ?_ ?_
    | intro _ _ _ _
    | split)

theorem execNvmeDeleteIoCq_rg {msk : Nat} {b₀ : State} {n : Nat} {s : State} (h₀ : Rg msk b₀ s) (hm₀ : 143343663499379469475676305956380433800627810156366027727182646684513172681765524608805055475647963465760 ||| msk = msk) :
    RgO msk b₀ (execNvmeDeleteIoCq n s) := by
  refine RgO.step h₀ ?_ hm₀
  clear h₀ hm₀
  unfold execNvmeDeleteIoCq
  try dsimp only
  repeat' (first
    | with_reducible exact Rg.refl _ _
    | with_reducible assumption
    | exact (rfl : (_ : Nat) = _)
    | with_reducible refine State.adminRun_rg ?_ ?_ ?_
    | with_reducible refine State.complete_rg ?_ ?_
    | with_reducible refine State.setFn_rg ?_ ?_
    | with_reducible refine Rg.ite ?_ ?_
    | intro _ _ _ _
    | split)

theorem execNvmeIdentify_rg {msk : Nat} {b₀ : State} {n : Nat} {s : State} (h₀ : Rg msk b₀ s) (hm₀ : 143343663499379469475676305956380433800627810156366027727182646684513172681765524608805055475647963465760 ||| msk = msk) :
    RgO msk b₀ (execNvmeIdentify n s) := by
  refine RgO.step h₀ ?_ hm₀
  clear h₀ hm₀
  unfold execNvmeIdentify
  try dsimp only
  repeat' (first
    | with_reducible exact Rg.refl _ _
    | with_reducible assumption
    | exact (rfl : (_ : Nat) = _)
    | with_reducible refine State.adminRun_rg ?_ ?_ ?_
    | with_reducible refine State.complete_rg ?_ ?_
    | with_reducible refine State.emit_rg ?_ ?_
    | intro _ _ _ _
    | split)

theorem State.anaApply_rg {msk : Nat} {b₀ : State} {s : State} (h₀ : Rg msk b₀ s) (hm₀ : 0 ||| msk = msk) :
    Rg msk b₀ (State.anaApply s) := by
  refine Rg.step h₀ ?_ hm₀
  clear h₀ hm₀
  unfold State.anaApply
  try dsimp only
  repeat' (first
    | with_reducible exact Rg.refl _ _
    | with_reducible assumption
    | exact (rfl : (_ : Nat) = _)
    | with_reducible refine State.anaNotice_rg ?_ ?_
    | with_reducible refine Rg.ite ?_ ?_
    | with_reducible refine Rg.foldl ?_ _ _ ?_
    | intro _ _ _
    | refine Rg.mk' ?_)

theorem execNvmeAbort_rg {msk : Nat} {b₀ : State} {n : Nat} {s : State} (h₀ : Rg msk b₀ s) (hm₀ : 143343663499379469475676305956380433800627810156366027727182646684513172681765524608805055475647963465760 ||| msk = msk) :
    RgO msk b₀ (execNvmeAbort n s) := by
  refine RgO.step h₀ ?_ hm₀
  clear h₀ hm₀
  unfold execNvmeAbort
  try dsimp only
  repeat' (first
    | with_reducible exact Rg.refl _ _
    | with_reducible assumption
    | exact (rfl : (_ : Nat) = _)
    | with_reducible refine State.adminRun_rg ?_ ?_ ?_
    | with_reducible refine State.complete_rg ?_ ?_
    | with_reducible refine Rg.ite ?_ ?_
    | intro _ _ _ _
    | split)

theorem execNvmeDeleteIoSq_rg {msk : Nat} {b₀ : State} {n : Nat} {s : State} (h₀ : Rg msk b₀ s) (hm₀ : 143343663499379469475676305956380433800627810156366027727182646684513172681765524608805055475647963465760 ||| msk = msk) :
    RgO msk b₀ (execNvmeDeleteIoSq n s) := by
  refine RgO.step h₀ ?_ hm₀
  clear h₀ hm₀
  unfold execNvmeDeleteIoSq
  try dsimp only
  repeat' (first
    | with_reducible exact Rg.refl _ _
    | with_reducible assumption
    | exact (rfl : (_ : Nat) = _)
    | with_reducible refine State.adminRun_rg ?_ ?_ ?_
    | with_reducible refine State.complete_rg ?_ ?_
    | with_reducible refine State.completeAll_rg ?_ ?_
    | with_reducible refine State.setFn_rg ?_ ?_
    | with_reducible refine Rg.ite ?_ ?_
    | intro _ _ _ _
    | split)

end Sys2Proof.Machine
end

