-- ==== Sys2Proof/Laws/RgRepl.lean ====
section
/-! SUPPORT. Register frames of the operations of Machine.Repl: the registers that each may write. -/

set_option maxRecDepth 20000
set_option Elab.async false
set_option linter.unusedTactic false
set_option linter.unreachableTactic false
set_option linter.unusedVariables false

namespace Sys2Proof.Machine

theorem State.resyncRange_rg {msk : Nat} {b₀ : State} {s : State} {g : Nat} {r : Nat × Nat} (h₀ : Rg msk b₀ s) (hm₀ : 39402006196394479212279040100143613805079739270465446667948293404245721771498571740881950008738769139236355063152640 ||| msk = msk) :
    Rg msk b₀ (State.resyncRange s g r) := by
  refine Rg.step h₀ ?_ hm₀
  clear h₀ hm₀
  unfold State.resyncRange
  try dsimp only
  repeat' (first
    | with_reducible exact Rg.refl _ _
    | with_reducible assumption
    | exact (rfl : (_ : Nat) = _)
    | with_reducible refine State.replSend_rg ?_ ?_
    | with_reducible refine State.setGroup_rg ?_ ?_
    | with_reducible refine Rg.ite ?_ ?_
    | with_reducible refine Rg.foldl ?_ _ _ ?_
    | intro _ _ _)

theorem State.resyncMarks_rg {msk : Nat} {b₀ : State} {s : State} {g : Nat} (h₀ : Rg msk b₀ s) (hm₀ : 39402006196394479212279040100143613805079739270465446667948293404245721771498571740881950008738769139236355063152640 ||| msk = msk) :
    Rg msk b₀ (State.resyncMarks s g) := by
  refine Rg.step h₀ ?_ hm₀
  clear h₀ hm₀
  unfold State.resyncMarks
  try dsimp only
  repeat' (first
    | with_reducible exact Rg.refl _ _
    | with_reducible assumption
    | exact (rfl : (_ : Nat) = _)
    | with_reducible refine State.resyncRange_rg ?_ ?_
    | with_reducible refine State.setGroup_rg ?_ ?_
    | with_reducible refine Rg.foldl ?_ _ _ ?_
    | intro _ _ _)

theorem State.replQpFailed_rg {msk : Nat} {b₀ : State} {s : State} {qpn : Nat} (h₀ : Rg msk b₀ s) (hm₀ : 0 ||| msk = msk) :
    Rg msk b₀ (State.replQpFailed s qpn) := by
  refine Rg.step h₀ ?_ hm₀
  clear h₀ hm₀
  unfold State.replQpFailed
  try dsimp only
  repeat' (first
    | with_reducible exact Rg.refl _ _
    | with_reducible assumption
    | exact (rfl : (_ : Nat) = _)
    | with_reducible refine State.setGroup_rg ?_ ?_
    | with_reducible refine Rg.foldl ?_ _ _ ?_
    | intro _ _ _)

theorem State.setRpState_rg {msk : Nat} {b₀ : State} {s : State} {g : Nat} {st : Nat} (h₀ : Rg msk b₀ s) (hm₀ : 2462625387274654950767440006258975862817483704404090416746768337765357610718575663213391640930307227550414249394176 ||| msk = msk) :
    Rg msk b₀ (State.setRpState s g st) := by
  refine Rg.step h₀ ?_ hm₀
  clear h₀ hm₀
  unfold State.setRpState
  try dsimp only
  repeat' (first
    | with_reducible exact Rg.refl _ _
    | with_reducible refine State.putFld_rg ?_ ?_
    | with_reducible refine in_RP_STATE ?_
    | exact (rfl : (_ : Bool) = _))

theorem State.batchDone_rg {msk : Nat} {b₀ : State} {s : State} {group : Nat} (h₀ : Rg msk b₀ s) (hm₀ : 9850501549098619803069760025035903451269934817616361666987073351061430442874302652853566563721228910201656997576736 ||| msk = msk) :
    Rg msk b₀ (State.batchDone s group) := by
  refine Rg.step h₀ ?_ hm₀
  clear h₀ hm₀
  unfold State.batchDone
  try dsimp only
  repeat' (first
    | with_reducible exact Rg.refl _ _
    | with_reducible assumption
    | exact (rfl : (_ : Nat) = _)
    | with_reducible refine State.replReply_rg ?_ ?_
    | with_reducible refine State.event_rg ?_ ?_
    | with_reducible refine State.wr64_rg ?_ ?_ ?_
    | with_reducible refine State.setGroup_rg ?_ ?_
    | with_reducible refine in_RP_LAST_APPLIED ?_
    | with_reducible refine in_RP_LAST_APPLIED4 ?_
    | with_reducible refine InSet.ite ?_ ?_
    | exact (rfl : (_ : Bool) = _)
    | dsimp only
    | with_reducible refine Rg.ite ?_ ?_
    | with_reducible refine Rg.ite₁ ?_ ?_
    | with_reducible refine RgS.ite ?_ ?_
    | with_reducible refine RgP.ite ?_ ?_
    | with_reducible exact RgS.none
    | with_reducible refine RgS.some ?_
    | with_reducible refine RgS.map ?_
    | with_reducible exact RgP.none
    | with_reducible refine RgP.some ?_
    | with_reducible refine Rg.elim ?_ ?_
    | with_reducible refine Rg.foldl ?_ _ _ ?_
    | with_reducible refine Rg.foldl₂ ?_ _ _ ?_
    | intro _ _ _ _ _ _
    | intro _ _ _ _ _
    | intro _ _ _ _
    | intro _ _ _
    | intro _ _
    | intro _
    | with_reducible refine Rg.pair (h := ?_) (e := by assumption)
    | with_reducible refine RgO.got (h := ?_) (e := by assumption)
    | with_reducible refine RgS.get (h := ?_) (e := by assumption)
    | with_reducible refine RgP.get (h := ?_) (e := by assumption)
    | split)

theorem State.resyncEnd_rg {msk : Nat} {b₀ : State} {s : State} {g : Nat} (h₀ : Rg msk b₀ s) (hm₀ : 2462625387274654950767440006258975862817483704404090416746768337765357610718575663213391640930307227550414249394208 ||| msk = msk) :
    Rg msk b₀ (State.resyncEnd s g) := by
  refine Rg.step h₀ ?_ hm₀
  clear h₀ hm₀
  unfold State.resyncEnd
  try dsimp only
  repeat' (first
    | with_reducible exact Rg.refl _ _
    | exact (rfl : (_ : Nat) = _)
    | with_reducible refine State.actEnd_rg ?_ ?_
    | with_reducible refine State.event_rg ?_ ?_
    | with_reducible refine State.setRpState_rg ?_ ?_
    | with_reducible refine Rg.ite ?_ ?_)

theorem State.replActRun_rg {msk : Nat} {b₀ : State} {s : State} {a : Activity} (h₀ : Rg msk b₀ s) (hm₀ : 41864631583669134163046480106402589667897222974869537084695061742011079382217147404095341649669076366786769312546848 ||| msk = msk) :
    Rg msk b₀ (State.replActRun s a) := by
  refine Rg.step h₀ ?_ hm₀
  clear h₀ hm₀
  unfold State.replActRun
  try dsimp only
  repeat' (first
    | with_reducible exact Rg.refl _ _
    | exact (rfl : (_ : Nat) = _)
    | with_reducible refine State.resyncEnd_rg ?_ ?_
    | with_reducible refine State.resyncMarks_rg ?_ ?_
    | with_reducible refine State.setRpState_rg ?_ ?_
    | split)

theorem State.closedSend_rg {msk : Nat} {b₀ : State} {s : State} {b : Nat} (h₀ : Rg msk b₀ s) (hm₀ : 143343663499379469475676305956380433799785311823017570233599302461682679755530300504376159569382855411712 ||| msk = msk) :
    Rg msk b₀ (State.closedSend s b) := by
  refine Rg.step h₀ ?_ hm₀
  clear h₀ hm₀
  unfold State.closedSend
  try dsimp only
  repeat' (first
    | with_reducible exact Rg.refl _ _
    | with_reducible assumption
    | exact (rfl : (_ : Nat) = _)
    | with_reducible refine State.setGroup_rg ?_ ?_
    | with_reducible refine State.tlSend_rg ?_ ?_
    | with_reducible refine Rg.ite ?_ ?_
    | with_reducible refine Rg.foldl ?_ _ _ ?_
    | intro _ _ _)

theorem State.replWire_rg {msk : Nat} {b₀ : State} {s : State} {qpn : Nat} (h₀ : Rg msk b₀ s) (hm₀ : 0 ||| msk = msk) :
    Rg msk b₀ (State.replWire s qpn) := by
  refine Rg.step h₀ ?_ hm₀
  clear h₀ hm₀
  unfold State.replWire
  try dsimp only
  repeat' (first
    | with_reducible exact Rg.refl _ _
    | with_reducible assumption
    | exact (rfl : (_ : Nat) = _)
    | with_reducible refine State.setGroup_rg ?_ ?_
    | with_reducible refine Rg.foldl ?_ _ _ ?_
    | intro _ _ _)

theorem State.replSettle_rg {msk : Nat} {b₀ : State} {s : State} {g : Nat} (h₀ : Rg msk b₀ s) (hm₀ : 143343663499379469475676305956380433800627810156366027727194064666054820360813990896560651436739025438752 ||| msk = msk) :
    Rg msk b₀ (State.replSettle s g) := by
  refine Rg.step h₀ ?_ hm₀
  clear h₀ hm₀
  unfold State.replSettle
  try dsimp only
  repeat' (first
    | with_reducible exact Rg.refl _ _
    | with_reducible assumption
    | exact (rfl : (_ : Nat) = _)
    | with_reducible refine State.tryAck_rg ?_ ?_
    | with_reducible refine State.tryRelease_rg ?_ ?_
    | with_reducible refine Rg.foldl ?_ _ _ ?_
    | intro _ _ _)

theorem State.replAnswered_rg {msk : Nat} {b₀ : State} {s : State} {g : Nat} {f : RepRec → Bool} (h₀ : Rg msk b₀ s) (hm₀ : 41864631583812477826545859575878265973853603408670164894851427769738273446881841094988471886711783519793781265139744 ||| msk = msk) :
    Rg msk b₀ (State.replAnswered s g f) := by
  refine Rg.step h₀ ?_ hm₀
  clear h₀ hm₀
  unfold State.replAnswered
  try dsimp only
  repeat' (first
    | with_reducible exact Rg.refl _ _
    | exact (rfl : (_ : Nat) = _)
    | with_reducible refine State.setGroup_rg ?_ ?_
    | with_reducible refine State.resyncEnd_rg ?_ ?_
    | with_reducible refine State.replSettle_rg ?_ ?_
    | with_reducible refine State.replSend_rg ?_ ?_)

theorem execStagedRx_rg {msk : Nat} {b₀ : State} {group : Nat} {batch : Nat} {s : State} (h₀ : Rg msk b₀ s) (hm₀ : 46789882358361787728080739588396217699488570817478345728344964445268988668318992421415255168572397974894609763928096 ||| msk = msk) :
    RgO msk b₀ (execStagedRx group batch s) := by
  refine RgO.step h₀ ?_ hm₀
  clear h₀ hm₀
  unfold execStagedRx
  try dsimp only
  repeat' (first
    | with_reducible exact Rg.refl _ _
    | exact (rfl : (_ : Nat) = _)
    | with_reducible refine State.replAnswered_rg ?_ ?_
    | with_reducible refine State.wr64_rg ?_ ?_ ?_
    | with_reducible refine in_RP_LAST_STAGED ?_
    | with_reducible refine in_RP_LAST_STAGED4 ?_
    | exact (rfl : (_ : Bool) = _)
    | with_reducible refine RgO.ite ?_ ?_
    | with_reducible refine RgO.next ?_)

theorem State.rpCommand_rg {msk : Nat} {b₀ : State} {s : State} {f : Nat → State → State} (hf : ∀ t0 t1, Rg msk b₀ t1 → Rg msk b₀ (f t0 t1)) (h₀ : Rg msk b₀ s) (hm₀ : 96107167241834975113312584178489302142293605564759693426004588894417285174339314651986626222954283729664672024879809959352794238588654061432213649874520966944 ||| msk = msk) :
    RgO msk b₀ (State.rpCommand s f) := by
  unfold State.rpCommand
  try dsimp only
  repeat' (first
    | with_reducible assumption
    | with_reducible refine State.writeDiscarded_rg ?_ ?_
    | with_reducible refine hf _ _ ?_
    | with_reducible refine Rg.ite ?_ ?_
    | with_reducible refine RgO.next ?_)

theorem State.rpAnswer_rg {msk : Nat} {b₀ : State} {s : State} {status : Nat} (h₀ : Rg msk b₀ s) (hm₀ : 315216049571155833698232320801148910440637914163723573343586347233965774171977684891314130039079325126453023922454528 ||| msk = msk) :
    Rg msk b₀ (State.rpAnswer s status) := by
  refine Rg.step h₀ ?_ hm₀
  clear h₀ hm₀
  unfold State.rpAnswer
  try dsimp only
  repeat' (first
    | with_reducible exact Rg.refl _ _
    | with_reducible refine State.wrN_rg ?_ ?_
    | with_reducible refine in_RP_CMD_STATUS ?_
    | exact (rfl : (_ : Bool) = _))

theorem State.rpDone_rg {msk : Nat} {b₀ : State} {s : State} (h₀ : Rg msk b₀ s) (hm₀ : 315216049571155833698232320801148910440637914163723573343586347233965774171977684891314130039079325126453023922454560 ||| msk = msk) :
    Rg msk b₀ (State.rpDone s) := by
  refine Rg.step h₀ ?_ hm₀
  clear h₀ hm₀
  unfold State.rpDone
  try dsimp only
  repeat' (first
    | with_reducible exact Rg.refl _ _
    | exact (rfl : (_ : Nat) = _)
    | with_reducible refine State.event_rg ?_ ?_
    | with_reducible refine State.rpAnswer_rg ?_ ?_)

theorem execVolRemove_rg {msk : Nat} {b₀ : State} {s : State} (h₀ : Rg msk b₀ s) (hm₀ : 96107167241834975113312584178489302142293923243434651999836901393557562057901924063764928151245854219146271483205657321668169126924324967625219090051718254368 ||| msk = msk) :
    RgO msk b₀ (execVolRemove s) := by
  refine RgO.step h₀ ?_ hm₀
  clear h₀ hm₀
  unfold execVolRemove
  try dsimp only
  repeat' (first
    | with_reducible exact Rg.refl _ _
    | with_reducible assumption
    | exact (rfl : (_ : Nat) = _)
    | with_reducible refine State.rpCommand_rg ?_ ?_ ?_
    | with_reducible refine State.rpAnswer_rg ?_ ?_
    | with_reducible refine State.setGroup_rg ?_ ?_
    | with_reducible refine State.tryAck_rg ?_ ?_
    | with_reducible refine State.rpDone_rg ?_ ?_
    | with_reducible refine State.resyncEnd_rg ?_ ?_
    | with_reducible refine State.tryRelease_rg ?_ ?_
    | with_reducible refine Rg.ite ?_ ?_
    | with_reducible refine Rg.foldl ?_ _ _ ?_
    | intro _ _ _)

theorem State.sealOut_rg {msk : Nat} {b₀ : State} {s : State} {g : Nat} {batch : Nat} {recs : List RepRec} (h₀ : Rg msk b₀ s) (hm₀ : 1361129467683753853853498429727072845824 ||| msk = msk) :
    Rg msk b₀ (State.sealOut s g batch recs) := by
  refine Rg.step h₀ ?_ hm₀
  clear h₀ hm₀
  unfold State.sealOut
  try dsimp only
  repeat' (first
    | with_reducible exact Rg.refl _ _
    | exact (rfl : (_ : Nat) = _)
    | with_reducible refine State.qpSend_rg ?_ ?_
    | with_reducible refine State.emit_rg ?_ ?_
    | with_reducible refine State.setGroup_rg ?_ ?_)

theorem State.replDup_rg {msk : Nat} {b₀ : State} {s : State} {group : Nat} (h₀ : Rg msk b₀ s) (hm₀ : 78804012392788958424558080200287227610159478540930893335896586808491443542994421222828532509769831281613255980613632 ||| msk = msk) :
    Rg msk b₀ (State.replDup s group) := by
  refine Rg.step h₀ ?_ hm₀
  clear h₀ hm₀
  unfold State.replDup
  try dsimp only
  repeat' (first
    | with_reducible exact Rg.refl _ _
    | with_reducible refine State.count_rg ?_ ?_
    | with_reducible refine in_RP_DUP_DISCARD ?_
    | exact (rfl : (_ : Bool) = _))

theorem State.stageBatch_rg {msk : Nat} {b₀ : State} {s : State} {group : Nat} {batch : Nat} (h₀ : Rg msk b₀ s) (hm₀ : 4925250774692653565034259481993628031591347842607966145316554245764320232889604830021837815508868412650756885186560 ||| msk = msk) :
    Rg msk b₀ (State.stageBatch s group batch) := by
  refine Rg.step h₀ ?_ hm₀
  clear h₀ hm₀
  unfold State.stageBatch
  try dsimp only
  repeat' (first
    | with_reducible exact Rg.refl _ _
    | with_reducible assumption
    | exact (rfl : (_ : Nat) = _)
    | with_reducible refine State.setGroup_rg ?_ ?_
    | with_reducible refine State.wr64_rg ?_ ?_ ?_
    | with_reducible refine State.tlSend_rg ?_ ?_
    | with_reducible refine State.replReply_rg ?_ ?_
    | with_reducible refine in_CIST_CSEQ ?_
    | with_reducible refine in_CIST_CSEQ4 ?_
    | with_reducible refine in_RP_LAST_STAGED ?_
    | with_reducible refine in_RP_LAST_STAGED4 ?_
    | with_reducible refine InSet.ite ?_ ?_
    | exact (rfl : (_ : Bool) = _)
    | dsimp only
    | with_reducible refine Rg.ite ?_ ?_
    | with_reducible refine Rg.ite₁ ?_ ?_
    | with_reducible refine RgS.ite ?_ ?_
    | with_reducible refine RgP.ite ?_ ?_
    | with_reducible exact RgS.none
    | with_reducible refine RgS.some ?_
    | with_reducible refine RgS.map ?_
    | with_reducible exact RgP.none
    | with_reducible refine RgP.some ?_
    | with_reducible refine Rg.elim ?_ ?_
    | with_reducible refine Rg.foldl ?_ _ _ ?_
    | with_reducible refine Rg.foldl₂ ?_ _ _ ?_
    | intro _ _ _ _ _ _
    | intro _ _ _ _ _
    | intro _ _ _ _
    | intro _ _ _
    | intro _ _
    | intro _
    | with_reducible refine Rg.pair (h := ?_) (e := by assumption)
    | with_reducible refine RgO.got (h := ?_) (e := by assumption)
    | with_reducible refine RgS.get (h := ?_) (e := by assumption)
    | with_reducible refine RgP.get (h := ?_) (e := by assumption)
    | split)

theorem State.heldSeal_rg {msk : Nat} {b₀ : State} {s : State} {group : Nat} {x2 : Nat} (h₀ : Rg msk b₀ s) (hm₀ : 4925250774692653565034259481993628031591347842607966145316554245764320232889604830021837815508868412650756885186560 ||| msk = msk) :
    Rg msk b₀ (State.heldSeal s group x2) := by
  refine Rg.step h₀ ?_ hm₀
  clear h₀ hm₀
  fun_induction State.heldSeal 
  all_goals try dsimp +zetaDelta only at *
  all_goals repeat' (first
    | with_reducible exact Rg.refl _ _
    | exact (rfl : (_ : Nat) = _)
    | with_reducible refine Rg.trans ?_ (by assumption)
    | with_reducible refine State.setGroup_rg ?_ ?_
    | with_reducible refine State.stageBatch_rg ?_ ?_)

theorem State.replSeal_rg {msk : Nat} {b₀ : State} {s : State} {group : Nat} {batch : Nat} (h₀ : Rg msk b₀ s) (hm₀ : 83729263167481611989592339682280855641750826383538859481213141054255763775884026052850370325278699694264012865800192 ||| msk = msk) :
    Rg msk b₀ (State.replSeal s group batch) := by
  refine Rg.step h₀ ?_ hm₀
  clear h₀ hm₀
  unfold State.replSeal
  try dsimp only
  repeat' (first
    | with_reducible exact Rg.refl _ _
    | exact (rfl : (_ : Nat) = _)
    | with_reducible refine State.replDup_rg ?_ ?_
    | with_reducible refine State.setGroup_rg ?_ ?_
    | with_reducible refine State.heldSeal_rg ?_ ?_
    | with_reducible refine State.stageBatch_rg ?_ ?_
    | with_reducible refine Rg.ite ?_ ?_)

theorem execAppliedRx_rg {msk : Nat} {b₀ : State} {group : Nat} {batch : Nat} {s : State} (h₀ : Rg msk b₀ s) (hm₀ : 9850501549098619803069760025035903451269934817616361666987073351061430442874302652853566563721228910201656997576736 ||| msk = msk) :
    RgO msk b₀ (execAppliedRx group batch s) := by
  refine RgO.step h₀ ?_ hm₀
  clear h₀ hm₀
  unfold execAppliedRx
  try dsimp only
  repeat' (first
    | with_reducible exact Rg.refl _ _
    | exact (rfl : (_ : Nat) = _)
    | with_reducible refine State.event_rg ?_ ?_
    | with_reducible refine State.wr64_rg ?_ ?_ ?_
    | with_reducible refine in_RP_LAST_APPLIED ?_
    | with_reducible refine in_RP_LAST_APPLIED4 ?_
    | exact (rfl : (_ : Bool) = _)
    | with_reducible refine RgO.ite ?_ ?_
    | with_reducible refine RgO.next ?_)

theorem State.recordBad_rg {msk : Nat} {b₀ : State} {s : State} {group : Nat} (h₀ : Rg msk b₀ s) (hm₀ : 96107167241834975113312584178489302142293605564759693426004588894417285174339314651986626222954283729664672024879809959352794238588654061432213649874520966944 ||| msk = msk) :
    Rg msk b₀ (State.recordBad s group) := by
  refine Rg.step h₀ ?_ hm₀
  clear h₀ hm₀
  unfold State.recordBad
  try dsimp only
  repeat' (first
    | with_reducible exact Rg.refl _ _
    | exact (rfl : (_ : Nat) = _)
    | with_reducible refine State.raise_rg ?_ ?_)

theorem State.asTarget_rg {msk : Nat} {b₀ : State} {s : State} {v : Nat} (h₀ : Rg msk b₀ s) (hm₀ : 0 ||| msk = msk) :
    Rg msk b₀ (State.asTarget s v) := by
  refine Rg.step h₀ ?_ hm₀
  clear h₀ hm₀
  unfold State.asTarget
  try dsimp only
  repeat' (first
    | with_reducible exact Rg.refl _ _
    | exact (rfl : (_ : Nat) = _)
    | with_reducible refine State.setVol_rg ?_ ?_)

theorem execClosedSend_rg {msk : Nat} {b₀ : State} {batch : Nat} {s : State} (h₀ : Rg msk b₀ s) (hm₀ : 143343663499379469475676305956380433799785311823017570233599302461682679755530300504376159569382855411712 ||| msk = msk) :
    RgO msk b₀ (execClosedSend batch s) := by
  refine RgO.step h₀ ?_ hm₀
  clear h₀ hm₀
  unfold execClosedSend
  try dsimp only
  repeat' (first
    | with_reducible exact Rg.refl _ _
    | exact (rfl : (_ : Nat) = _)
    | with_reducible refine State.closedSend_rg ?_ ?_
    | with_reducible refine RgO.next ?_)

theorem State.remotePart_rg {msk : Nat} {b₀ : State} {s : State} {group : Nat} {rseq : Nat} {vol : Nat} {loc : Nat} {entry : Part} (h₀ : Rg msk b₀ s) (hm₀ : 5708990770823839524233143877797980545530986496 ||| msk = msk) :
    RgP msk b₀ (State.remotePart s group rseq vol loc entry) := by
  refine RgP.step h₀ ?_ hm₀
  clear h₀ hm₀
  unfold State.remotePart
  try dsimp only
  repeat' (first
    | with_reducible exact Rg.refl _ _
    | exact (rfl : (_ : Nat) = _)
    | with_reducible refine State.newCmd_rg ?_ ?_
    | with_reducible refine State.wr64_rg ?_ ?_ ?_
    | with_reducible refine State.putPart_rg ?_ ?_
    | with_reducible refine State.setCam_rg ?_ ?_
    | with_reducible refine State.setCmd_rg ?_ ?_
    | with_reducible refine in_CIST_CSEQ ?_
    | with_reducible refine in_CIST_CSEQ4 ?_
    | exact (rfl : (_ : Bool) = _)
    | with_reducible refine RgP.ite ?_ ?_
    | with_reducible exact RgP.none
    | with_reducible refine RgP.some ?_
    | split)

theorem execReplRecordRx_rg {msk : Nat} {b₀ : State} {image : List Byte} {loc : Nat} {s : State} (h₀ : Rg msk b₀ s) (hm₀ : 96107167241834975113312584178489302142293684368772086214963013452497485461566924811465167153847619626251480516329061944544840906645396975141293243676032567072 ||| msk = msk) :
    RgO msk b₀ (execReplRecordRx image loc s) := by
  refine RgO.step h₀ ?_ hm₀
  clear h₀ hm₀
  unfold execReplRecordRx
  try dsimp only
  repeat' (first
    | with_reducible exact Rg.refl _ _
    | with_reducible assumption
    | exact (rfl : (_ : Nat) = _)
    | with_reducible refine State.recordBad_rg ?_ ?_
    | with_reducible refine State.replReply_rg ?_ ?_
    | with_reducible refine State.replDup_rg ?_ ?_
    | with_reducible refine State.remotePart_rg ?_ ?_
    | with_reducible refine State.asTarget_rg ?_ ?_
    | with_reducible refine State.setGroup_rg ?_ ?_
    | dsimp only
    | with_reducible refine Rg.ite ?_ ?_
    | with_reducible refine Rg.ite₁ ?_ ?_
    | with_reducible refine RgO.ite ?_ ?_
    | with_reducible refine RgS.ite ?_ ?_
    | with_reducible refine RgP.ite ?_ ?_
    | with_reducible refine RgO.next ?_
    | with_reducible exact RgS.none
    | with_reducible refine RgS.some ?_
    | with_reducible refine RgS.map ?_
    | with_reducible exact RgP.none
    | with_reducible refine RgP.some ?_
    | with_reducible refine Rg.elim ?_ ?_
    | with_reducible refine Rg.foldl ?_ _ _ ?_
    | with_reducible refine Rg.foldl₂ ?_ _ _ ?_
    | intro _ _ _ _ _ _
    | intro _ _ _ _ _
    | intro _ _ _ _
    | intro _ _ _
    | intro _ _
    | intro _
    | with_reducible refine Rg.pair (h := ?_) (e := by assumption)
    | with_reducible refine RgO.got (h := ?_) (e := by assumption)
    | with_reducible refine RgS.get (h := ?_) (e := by assumption)
    | with_reducible refine RgP.get (h := ?_) (e := by assumption)
    | split)

theorem execSealSend_rg {msk : Nat} {b₀ : State} {group : Nat} {batch : Nat} {s : State} (h₀ : Rg msk b₀ s) (hm₀ : 1361129467683753853853498429727072845824 ||| msk = msk) :
    RgO msk b₀ (execSealSend group batch s) := by
  refine RgO.step h₀ ?_ hm₀
  clear h₀ hm₀
  unfold execSealSend
  try dsimp only
  repeat' (first
    | with_reducible exact Rg.refl _ _
    | exact (rfl : (_ : Nat) = _)
    | with_reducible refine State.sealOut_rg ?_ ?_
    | with_reducible refine RgO.ite ?_ ?_
    | with_reducible refine RgO.next ?_)

theorem execVolAdd_rg {msk : Nat} {b₀ : State} {s : State} (h₀ : Rg msk b₀ s) (hm₀ : 96107167241834975113312584178489302142293960182815460976317499405778186466863560369640060411974295264305310236375753435609426434668701879526479339253506574112 ||| msk = msk) :
    RgO msk b₀ (execVolAdd s) := by
  refine RgO.step h₀ ?_ hm₀
  clear h₀ hm₀
  unfold execVolAdd
  try dsimp only
  repeat' (first
    | with_reducible exact Rg.refl _ _
    | with_reducible assumption
    | exact (rfl : (_ : Nat) = _)
    | with_reducible refine State.rpCommand_rg ?_ ?_ ?_
    | with_reducible refine State.rpAnswer_rg ?_ ?_
    | with_reducible refine State.setGroup_rg ?_ ?_
    | with_reducible refine State.resyncRange_rg ?_ ?_
    | with_reducible refine State.rpDone_rg ?_ ?_
    | with_reducible refine Rg.ite ?_ ?_
    | with_reducible refine Rg.foldl ?_ _ _ ?_
    | intro _ _ _)

theorem execGroupCreate_rg {msk : Nat} {b₀ : State} {s : State} (h₀ : Rg msk b₀ s) (hm₀ : 96107167241834975113312584178489302142293923243434651856493237894178092582225618107384494350618044062780243756011592655613348766110334071064567653312692815648 ||| msk = msk) :
    RgO msk b₀ (execGroupCreate s) := by
  refine RgO.step h₀ ?_ hm₀
  clear h₀ hm₀
  unfold execGroupCreate
  try dsimp only
  repeat' (first
    | with_reducible exact Rg.refl _ _
    | with_reducible assumption
    | exact (rfl : (_ : Nat) = _)
    | with_reducible refine State.rpCommand_rg ?_ ?_ ?_
    | with_reducible refine State.rpAnswer_rg ?_ ?_
    | with_reducible refine State.rpDone_rg ?_ ?_
    | with_reducible refine State.setRpState_rg ?_ ?_
    | with_reducible refine State.setGroup_rg ?_ ?_
    | with_reducible refine Rg.ite ?_ ?_
    | intro _ _ _)

theorem execGroupDelete_rg {msk : Nat} {b₀ : State} {s : State} (h₀ : Rg msk b₀ s) (hm₀ : 96107167241834975113312584178489302142293923243434651999836901393557562057901924063764928151245854219146271483205657321668169126924324967625219090051718254368 ||| msk = msk) :
    RgO msk b₀ (execGroupDelete s) := by
  refine RgO.step h₀ ?_ hm₀
  clear h₀ hm₀
  unfold execGroupDelete
  try dsimp only
  repeat' (first
    | with_reducible exact Rg.refl _ _
    | with_reducible assumption
    | exact (rfl : (_ : Nat) = _)
    | with_reducible refine State.rpCommand_rg ?_ ?_ ?_
    | with_reducible refine State.rpAnswer_rg ?_ ?_
    | with_reducible refine State.tryAck_rg ?_ ?_
    | with_reducible refine State.setRpState_rg ?_ ?_
    | with_reducible refine State.rpDone_rg ?_ ?_
    | with_reducible refine State.actEnd_rg ?_ ?_
    | with_reducible refine State.tryRelease_rg ?_ ?_
    | with_reducible refine Rg.ite ?_ ?_
    | with_reducible refine Rg.foldl ?_ _ _ ?_
    | intro _ _ _
    | refine Rg.mk' ?_)

theorem State.batchAgain_rg {msk : Nat} {b₀ : State} {s : State} {control : Nat} (h₀ : Rg msk b₀ s) (hm₀ : 39402006196394479212279040100143613805079739270465446667948293404245721771498571740881950008738769139236355063152640 ||| msk = msk) :
    Rg msk b₀ (State.batchAgain s control) := by
  refine Rg.step h₀ ?_ hm₀
  clear h₀ hm₀
  unfold State.batchAgain
  try dsimp only
  repeat' (first
    | with_reducible exact Rg.refl _ _
    | with_reducible assumption
    | exact (rfl : (_ : Nat) = _)
    | with_reducible refine State.replSend_rg ?_ ?_
    | with_reducible refine State.setGroup_rg ?_ ?_
    | with_reducible refine Rg.foldl ?_ _ _ ?_
    | intro _ _ _)

theorem execReplResume_rg {msk : Nat} {b₀ : State} {s : State} (h₀ : Rg msk b₀ s) (hm₀ : 96107167241834981210477721514411629059476052085218789166203197565739971747630359955427942198419438808546505547616120325722064494557653152505534388277688207136 ||| msk = msk) :
    RgO msk b₀ (execReplResume s) := by
  refine RgO.step h₀ ?_ hm₀
  clear h₀ hm₀
  unfold execReplResume
  try dsimp only
  repeat' (first
    | with_reducible exact Rg.refl _ _
    | with_reducible assumption
    | exact (rfl : (_ : Nat) = _)
    | with_reducible refine State.rpCommand_rg ?_ ?_ ?_
    | with_reducible refine State.rpAnswer_rg ?_ ?_
    | with_reducible refine State.actStart_rg ?_ ?_
    | with_reducible refine State.replActRun_rg ?_ ?_
    | with_reducible refine Rg.ite ?_ ?_
    | intro _ _ _)

theorem State.applyNext_rg {msk : Nat} {b₀ : State} {s : State} {group : Nat} {loc : Nat} (h₀ : Rg msk b₀ s) (hm₀ : 5708990770823839524233143877797980545530986496 ||| msk = msk) :
    Rg msk b₀ (State.applyNext s group loc) := by
  refine Rg.step h₀ ?_ hm₀
  clear h₀ hm₀
  unfold State.applyNext
  try dsimp only
  repeat' (first
    | with_reducible exact Rg.refl _ _
    | exact (rfl : (_ : Nat) = _)
    | with_reducible refine State.setGroup_rg ?_ ?_
    | with_reducible refine State.remotePart_rg ?_ ?_
    | with_reducible refine State.putPart_rg ?_ ?_
    | with_reducible refine State.dropCmd_rg ?_ ?_
    | with_reducible refine Rg.ite ?_ ?_
    | with_reducible refine RgP.get (h := ?_) (e := by assumption)
    | split)

theorem State.replSuspend_rg {msk : Nat} {b₀ : State} {s : State} {g : Nat} (h₀ : Rg msk b₀ s) (hm₀ : 2462625387417998614266819475734652168773864138204718226903134365492551675384630483574205631826867878987153274832928 ||| msk = msk) :
    Rg msk b₀ (State.replSuspend s g) := by
  refine Rg.step h₀ ?_ hm₀
  clear h₀ hm₀
  unfold State.replSuspend
  try dsimp only
  repeat' (first
    | with_reducible exact Rg.refl _ _
    | exact (rfl : (_ : Nat) = _)
    | with_reducible refine State.setGroup_rg ?_ ?_
    | with_reducible refine State.replSettle_rg ?_ ?_
    | with_reducible refine State.event_rg ?_ ?_
    | with_reducible refine State.setRpState_rg ?_ ?_)

theorem execReplSuspend_rg {msk : Nat} {b₀ : State} {s : State} (h₀ : Rg msk b₀ s) (hm₀ : 96107167241834975113312584178489302142293923243434651999836901393557562057901924063764928151245854219146271483205657321668169126924324967625219090051718254368 ||| msk = msk) :
    RgO msk b₀ (execReplSuspend s) := by
  refine RgO.step h₀ ?_ hm₀
  clear h₀ hm₀
  unfold execReplSuspend
  try dsimp only
  repeat' (first
    | with_reducible exact Rg.refl _ _
    | with_reducible assumption
    | exact (rfl : (_ : Nat) = _)
    | with_reducible refine State.rpCommand_rg ?_ ?_ ?_
    | with_reducible refine State.rpAnswer_rg ?_ ?_
    | with_reducible refine State.rpDone_rg ?_ ?_
    | with_reducible refine State.actEnd_rg ?_ ?_
    | with_reducible refine State.replSuspend_rg ?_ ?_
    | with_reducible refine Rg.ite ?_ ?_
    | intro _ _ _)

theorem execBatchApply_rg {msk : Nat} {b₀ : State} {group : Nat} {loc : Nat} {s : State} (h₀ : Rg msk b₀ s) (hm₀ : 9850501549098619803069760025035903451269934817616361666987073351061436151865073476693090796865106708182202528563232 ||| msk = msk) :
    RgO msk b₀ (execBatchApply group loc s) := by
  refine RgO.step h₀ ?_ hm₀
  clear h₀ hm₀
  unfold execBatchApply
  try dsimp only
  repeat' (first
    | with_reducible exact Rg.refl _ _
    | exact (rfl : (_ : Nat) = _)
    | with_reducible refine State.batchDone_rg ?_ ?_
    | with_reducible refine State.applyNext_rg ?_ ?_
    | with_reducible refine RgO.next ?_)

theorem execSyncAckRx_rg {msk : Nat} {b₀ : State} {group : Nat} {rseq : Nat} {s : State} (h₀ : Rg msk b₀ s) (hm₀ : 41864631583812477826545859575878265973853603408670164894851427769738273446881841094988471886711783519793781265139744 ||| msk = msk) :
    RgO msk b₀ (execSyncAckRx group rseq s) := by
  refine RgO.step h₀ ?_ hm₀
  clear h₀ hm₀
  unfold execSyncAckRx
  try dsimp only
  repeat' (first
    | with_reducible exact Rg.refl _ _
    | exact (rfl : (_ : Nat) = _)
    | with_reducible refine State.replAnswered_rg ?_ ?_
    | with_reducible refine RgO.ite ?_ ?_
    | with_reducible refine RgO.next ?_)

theorem State.suspendScan_rg {msk : Nat} {b₀ : State} {s : State} (h₀ : Rg msk b₀ s) (hm₀ : 2462625387417998614266819475734652168773864138204718226903134365492551675384630483574205631826867878987153274832928 ||| msk = msk) :
    Rg msk b₀ (State.suspendScan s) := by
  refine Rg.step h₀ ?_ hm₀
  clear h₀ hm₀
  unfold State.suspendScan
  try dsimp only
  repeat' (first
    | with_reducible exact Rg.refl _ _
    | with_reducible assumption
    | exact (rfl : (_ : Nat) = _)
    | with_reducible refine State.replSuspend_rg ?_ ?_
    | with_reducible refine Rg.foldl ?_ _ _ ?_
    | intro _ _ _)

theorem execSyncTimeout_rg {msk : Nat} {b₀ : State} {group : Nat} {s : State} (h₀ : Rg msk b₀ s) (hm₀ : 96107167241834975113312584178489302142293605564759693426004588894417285174339314651986626222954283729664672024879809959352794238588654061432213649874520966944 ||| msk = msk) :
    RgO msk b₀ (execSyncTimeout group s) := by
  refine RgO.step h₀ ?_ hm₀
  clear h₀ hm₀
  unfold execSyncTimeout
  try dsimp only
  repeat' (first
    | with_reducible exact Rg.refl _ _
    | exact (rfl : (_ : Nat) = _)
    | with_reducible refine State.raise_rg ?_ ?_
    | with_reducible refine State.setGroup_rg ?_ ?_
    | with_reducible refine RgO.ite ?_ ?_
    | with_reducible refine RgO.next ?_)

theorem execFailHoldTimeout_rg {msk : Nat} {b₀ : State} {n : Nat} {s : State} (h₀ : Rg msk b₀ s) (hm₀ : 143343663499379469475676305956380433800627810156366027727182646684513172681765524608805055475647963465760 ||| msk = msk) :
    RgO msk b₀ (execFailHoldTimeout n s) := by
  refine RgO.step h₀ ?_ hm₀
  clear h₀ hm₀
  unfold execFailHoldTimeout
  try dsimp only
  repeat' (first
    | with_reducible exact Rg.refl _ _
    | with_reducible assumption
    | exact (rfl : (_ : Nat) = _)
    | with_reducible refine State.setGroup_rg ?_ ?_
    | with_reducible refine State.complete_rg ?_ ?_
    | with_reducible refine RgO.ite ?_ ?_
    | with_reducible refine RgO.next ?_
    | with_reducible refine Rg.elim ?_ ?_
    | with_reducible refine Rg.foldl ?_ _ _ ?_
    | intro _ _ _
    | intro _
    | split)

theorem execBatchBoundary_rg {msk : Nat} {b₀ : State} {group : Nat} {s : State} (h₀ : Rg msk b₀ s) (hm₀ : 143343663499379469475676305956380433799785311823017570233599302461682679755530300504376159569382855411712 ||| msk = msk) :
    RgO msk b₀ (execBatchBoundary group s) := by
  refine RgO.step h₀ ?_ hm₀
  clear h₀ hm₀
  unfold execBatchBoundary
  try dsimp only
  repeat' (first
    | with_reducible exact Rg.refl _ _
    | exact (rfl : (_ : Nat) = _)
    | with_reducible refine State.closedSend_rg ?_ ?_
    | with_reducible refine Rg.ite ?_ ?_
    | with_reducible refine RgO.next ?_)

theorem execReplPromote_rg {msk : Nat} {b₀ : State} {s : State} (h₀ : Rg msk b₀ s) (hm₀ : 96107167241834975113312584178489302142293923243434651856493237894178092582225618107384494350618044062780243756011592655613348766110334071064567653312692815648 ||| msk = msk) :
    RgO msk b₀ (execReplPromote s) := by
  refine RgO.step h₀ ?_ hm₀
  clear h₀ hm₀
  unfold execReplPromote
  try dsimp only
  repeat' (first
    | with_reducible exact Rg.refl _ _
    | with_reducible assumption
    | exact (rfl : (_ : Nat) = _)
    | with_reducible refine State.rpCommand_rg ?_ ?_ ?_
    | with_reducible refine State.rpAnswer_rg ?_ ?_
    | with_reducible refine State.setGroup_rg ?_ ?_
    | with_reducible refine State.setVol_rg ?_ ?_
    | with_reducible refine State.rpDone_rg ?_ ?_
    | with_reducible refine State.setRpState_rg ?_ ?_
    | with_reducible refine Rg.ite ?_ ?_
    | with_reducible refine Rg.foldl ?_ _ _ ?_
    | intro _ _ _)

end Sys2Proof.Machine
end

