-- ==== Sys2Proof/Laws/RgPackets.lean ====
section
/-! SUPPORT. Register frames of the operations of Machine.Packets: the registers that each may write. -/

set_option maxRecDepth 20000
set_option Elab.async false
set_option linter.unusedTactic false
set_option linter.unreachableTactic false
set_option linter.unusedVariables false

namespace Sys2Proof.Machine

theorem State.retryExceeded_rg {msk : Nat} {b₀ : State} {s : State} {qpn : Nat} (h₀ : Rg msk b₀ s) (hm₀ : 10889042234376405199818981903930400702496 ||| msk = msk) :
    Rg msk b₀ (State.retryExceeded s qpn) := by
  refine Rg.step h₀ ?_ hm₀
  clear h₀ hm₀
  unfold State.retryExceeded
  try dsimp only
  repeat' (first
    | with_reducible exact Rg.refl _ _
    | exact (rfl : (_ : Nat) = _)
    | with_reducible refine State.replQpFailed_rg ?_ ?_
    | with_reducible refine State.evPost_rg ?_ ?_
    | with_reducible refine State.qpError_rg ?_ ?_
    | split)

theorem State.keysRotate_rg {msk : Nat} {b₀ : State} {s : State} (h₀ : Rg msk b₀ s) (hm₀ : 0 ||| msk = msk) :
    Rg msk b₀ (State.keysRotate s) := by
  refine Rg.step h₀ ?_ hm₀
  clear h₀ hm₀
  unfold State.keysRotate
  try dsimp only
  repeat' (first
    | with_reducible exact Rg.refl _ _
    | refine Rg.mk' ?_)

theorem State.cnpMark_rg {msk : Nat} {b₀ : State} {s : State} {qpn : Nat} {q : Qp} {p : Packet} (h₀ : Rg msk b₀ s) (hm₀ : 0 ||| msk = msk) :
    Rg msk b₀ (State.cnpMark s qpn q p) := by
  refine Rg.step h₀ ?_ hm₀
  clear h₀ hm₀
  unfold State.cnpMark
  try dsimp only
  repeat' (first
    | with_reducible exact Rg.refl _ _
    | exact (rfl : (_ : Nat) = _)
    | with_reducible refine State.emit_rg ?_ ?_
    | with_reducible refine State.setQp_rg ?_ ?_
    | with_reducible refine Rg.ite ?_ ?_)

theorem execCnpRateRestore_rg {msk : Nat} {b₀ : State} {qpn : Nat} {s : State} (h₀ : Rg msk b₀ s) (hm₀ : 0 ||| msk = msk) :
    RgO msk b₀ (execCnpRateRestore qpn s) := by
  refine RgO.step h₀ ?_ hm₀
  clear h₀ hm₀
  unfold execCnpRateRestore
  try dsimp only
  repeat' (first
    | with_reducible exact Rg.refl _ _
    | exact (rfl : (_ : Nat) = _)
    | with_reducible refine State.setQp_rg ?_ ?_
    | with_reducible refine RgO.next ?_)

theorem State.setMr_rg {msk : Nat} {b₀ : State} {s : State} {i : Nat} {m : Mr} (h₀ : Rg msk b₀ s) (hm₀ : 0 ||| msk = msk) :
    Rg msk b₀ (State.setMr s i m) := by
  refine Rg.step h₀ ?_ hm₀
  clear h₀ hm₀
  unfold State.setMr
  try dsimp only
  repeat' (first
    | with_reducible exact Rg.refl _ _
    | refine Rg.mk' ?_)

theorem State.ackSend_rg {msk : Nat} {b₀ : State} {s : State} {qpn : Nat} {psn : Nat} (h₀ : Rg msk b₀ s) (hm₀ : 0 ||| msk = msk) :
    Rg msk b₀ (State.ackSend s qpn psn) := by
  refine Rg.step h₀ ?_ hm₀
  clear h₀ hm₀
  unfold State.ackSend
  try dsimp only
  repeat' (first
    | with_reducible exact Rg.refl _ _
    | exact (rfl : (_ : Nat) = _)
    | with_reducible refine State.emit_rg ?_ ?_)

theorem State.missFull_rg {msk : Nat} {b₀ : State} {s : State} {qpn : Nat} {q : Qp} {lport : Nat} (h₀ : Rg msk b₀ s) (hm₀ : 96107167241834975113312584178489302142293605564759693426004588894417285174339314651986626222954283729664672024879809959352800739100932031792584524968558135072 ||| msk = msk) :
    Rg msk b₀ (State.missFull s qpn q lport) := by
  refine Rg.step h₀ ?_ hm₀
  clear h₀ hm₀
  unfold State.missFull
  try dsimp only
  repeat' (first
    | with_reducible exact Rg.refl _ _
    | exact (rfl : (_ : Nat) = _)
    | with_reducible refine State.emit_rg ?_ ?_
    | with_reducible refine State.setQp_rg ?_ ?_
    | with_reducible refine State.raise_rg ?_ ?_
    | with_reducible refine State.event_rg ?_ ?_
    | with_reducible refine State.count_rg ?_ ?_
    | with_reducible refine State.evPost_rg ?_ ?_
    | with_reducible refine in_ETH_RNR_SENT ?_
    | exact (rfl : (_ : Bool) = _)
    | with_reducible refine Rg.ite ?_ ?_
    | refine Rg.mk' ?_)

theorem State.ackRest_rg {msk : Nat} {b₀ : State} {s : State} {qpn : Nat} (h₀ : Rg msk b₀ s) (hm₀ : 0 ||| msk = msk) :
    Rg msk b₀ (State.ackRest s qpn) := by
  refine Rg.step h₀ ?_ hm₀
  clear h₀ hm₀
  unfold State.ackRest
  try dsimp only
  repeat' (first
    | with_reducible exact Rg.refl _ _
    | with_reducible assumption
    | exact (rfl : (_ : Nat) = _)
    | with_reducible refine State.ackSend_rg ?_ ?_
    | with_reducible refine State.setQp_rg ?_ ?_
    | dsimp only
    | with_reducible refine Rg.ite ?_ ?_
    | with_reducible refine Rg.ite₁ ?_ ?_
    | with_reducible refine RgS.ite ?_ ?_
    | with_reducible refine RgP.ite ?_ ?_
    | with_reducible exact RgS.none
    | with_reducible refine RgS.some ?_
    | with_reducible refine RgS.map ?_
    | with_reducible exact RgP.none
    | with_reducible refine RgP.some ?_
    | with_reducible refine Rg.elim ?_ ?_
    | with_reducible refine Rg.foldl ?_ _ _ ?_
    | with_reducible refine Rg.foldl₂ ?_ _ _ ?_
    | intro _ _ _ _ _ _
    | intro _ _ _ _ _
    | intro _ _ _ _
    | intro _ _ _
    | intro _ _
    | intro _
    | with_reducible refine Rg.pair (h := ?_) (e := by assumption)
    | with_reducible refine RgO.got (h := ?_) (e := by assumption)
    | with_reducible refine RgS.get (h := ?_) (e := by assumption)
    | with_reducible refine RgP.get (h := ?_) (e := by assumption)
    | split)

theorem State.sealTake_rg {msk : Nat} {b₀ : State} {s : State} {x : SealMsg} (h₀ : Rg msk b₀ s) (hm₀ : 0 ||| msk = msk) :
    Rg msk b₀ (State.sealTake s x) := by
  refine Rg.step h₀ ?_ hm₀
  clear h₀ hm₀
  unfold State.sealTake
  try dsimp only
  repeat' (first
    | with_reducible exact Rg.refl _ _
    | refine Rg.mk' ?_)

theorem State.sealDeliver_rg {msk : Nat} {b₀ : State} {s : State} {x : SealMsg} (h₀ : Rg msk b₀ s) (hm₀ : 83729263167481611989592339682280855641750826383538859481213141054255763775885387182318054079132553192693739938646016 ||| msk = msk) :
    Rg msk b₀ (State.sealDeliver s x) := by
  refine Rg.step h₀ ?_ hm₀
  clear h₀ hm₀
  unfold State.sealDeliver
  try dsimp only
  repeat' (first
    | with_reducible exact Rg.refl _ _
    | with_reducible assumption
    | exact (rfl : (_ : Nat) = _)
    | with_reducible refine State.ackRest_rg ?_ ?_
    | with_reducible refine State.ackSend_rg ?_ ?_
    | with_reducible refine State.ctxTouch_rg ?_ ?_
    | with_reducible refine State.sealTake_rg ?_ ?_
    | with_reducible refine State.replSeal_rg ?_ ?_
    | dsimp only
    | with_reducible refine Rg.ite ?_ ?_
    | with_reducible refine Rg.ite₁ ?_ ?_
    | with_reducible refine RgS.ite ?_ ?_
    | with_reducible refine RgP.ite ?_ ?_
    | with_reducible exact RgS.none
    | with_reducible refine RgS.some ?_
    | with_reducible refine RgS.map ?_
    | with_reducible exact RgP.none
    | with_reducible refine RgP.some ?_
    | with_reducible refine Rg.elim ?_ ?_
    | with_reducible refine Rg.foldl ?_ _ _ ?_
    | with_reducible refine Rg.foldl₂ ?_ _ _ ?_
    | intro _ _ _ _ _ _
    | intro _ _ _ _ _
    | intro _ _ _ _
    | intro _ _ _
    | intro _ _
    | intro _
    | with_reducible refine Rg.pair (h := ?_) (e := by assumption)
    | with_reducible refine RgO.got (h := ?_) (e := by assumption)
    | with_reducible refine RgS.get (h := ?_) (e := by assumption)
    | with_reducible refine RgP.get (h := ?_) (e := by assumption)
    | split)

theorem State.sealScan_rg {msk : Nat} {b₀ : State} {s : State} {x1 : Nat} (h₀ : Rg msk b₀ s) (hm₀ : 83729263167481611989592339682280855641750826383538859481213141054255763775885387182318054079132553192693739938646016 ||| msk = msk) :
    Rg msk b₀ (State.sealScan s x1) := by
  refine Rg.step h₀ ?_ hm₀
  clear h₀ hm₀
  fun_induction State.sealScan 
  all_goals try dsimp +zetaDelta only at *
  all_goals repeat' (first
    | with_reducible exact Rg.refl _ _
    | exact (rfl : (_ : Nat) = _)
    | with_reducible refine Rg.trans ?_ (by assumption)
    | with_reducible refine State.sealDeliver_rg ?_ ?_)

theorem State.capsule_rg {msk : Nat} {b₀ : State} {s : State} {qpn : Nat} {q : Qp} {c : Capsule} (h₀ : Rg msk b₀ s) (hm₀ : 143343663499379469475676305956380433800627810156366027727182646684513172681765524608805055475647963465760 ||| msk = msk) :
    Rg msk b₀ (State.capsule s qpn q c) := by
  refine Rg.step h₀ ?_ hm₀
  clear h₀ hm₀
  unfold State.capsule
  try dsimp only
  repeat' (first
    | with_reducible exact Rg.refl _ _
    | exact (rfl : (_ : Nat) = _)
    | with_reducible refine State.fetch_rg ?_ ?_
    | with_reducible refine State.complete_rg ?_ ?_
    | with_reducible refine Rg.ite ?_ ?_)

theorem State.rotateKey_rg {msk : Nat} {b₀ : State} {s : State} {i : Nat} (h₀ : Rg msk b₀ s) (hm₀ : 0 ||| msk = msk) :
    Rg msk b₀ (State.rotateKey s i) := by
  refine Rg.step h₀ ?_ hm₀
  clear h₀ hm₀
  unfold State.rotateKey
  try dsimp only
  repeat' (first
    | with_reducible exact Rg.refl _ _
    | exact (rfl : (_ : Nat) = _)
    | with_reducible refine State.setMr_rg ?_ ?_
    | split)

theorem State.roceExec_rg {msk : Nat} {b₀ : State} {s : State} {qpn : Nat} {q : Qp} {p : Packet} (h₀ : Rg msk b₀ s) (hm₀ : 143343663499379469475676305956380433800627810156366027727182646684513220710511466055960619382739008751648 ||| msk = msk) :
    Rg msk b₀ (State.roceExec s qpn q p).1 := by
  refine Rg.step h₀ ?_ hm₀
  clear h₀ hm₀
  unfold State.roceExec
  try dsimp only
  repeat' (first
    | with_reducible exact Rg.refl _ _
    | exact (rfl : (_ : Nat) = _)
    | with_reducible refine State.emit_rg ?_ ?_
    | with_reducible refine State.setQp_rg ?_ ?_
    | with_reducible refine State.evPost_rg ?_ ?_
    | with_reducible refine State.count_rg ?_ ?_
    | with_reducible refine State.capsule_rg ?_ ?_
    | with_reducible refine State.rotateKey_rg ?_ ?_
    | with_reducible refine in_RMA_KEY_VIOLATION ?_
    | exact (rfl : (_ : Bool) = _)
    | dsimp only
    | with_reducible refine Rg.ite₁ ?_ ?_
    | with_reducible refine Rg.elim ?_ ?_
    | intro _
    | split)

theorem State.sealsRun_rg {msk : Nat} {b₀ : State} {s : State} (h₀ : Rg msk b₀ s) (hm₀ : 83729263167481611989592339682280855641750826383538859481213141054255763775885387182318054079132553192693739938646016 ||| msk = msk) :
    Rg msk b₀ (State.sealsRun s) := by
  refine Rg.step h₀ ?_ hm₀
  clear h₀ hm₀
  unfold State.sealsRun
  try dsimp only
  repeat' (first
    | with_reducible exact Rg.refl _ _
    | exact (rfl : (_ : Nat) = _)
    | with_reducible refine State.sealScan_rg ?_ ?_)

theorem execSealTimeout_rg {msk : Nat} {b₀ : State} {qpn : Nat} {s : State} (h₀ : Rg msk b₀ s) (hm₀ : 1361135958054827022388034092847484370976 ||| msk = msk) :
    RgO msk b₀ (execSealTimeout qpn s) := by
  refine RgO.step h₀ ?_ hm₀
  clear h₀ hm₀
  unfold execSealTimeout
  try dsimp only
  repeat' (first
    | with_reducible exact Rg.refl _ _
    | with_reducible assumption
    | exact (rfl : (_ : Nat) = _)
    | with_reducible refine State.evPost_rg ?_ ?_
    | with_reducible refine State.ackRest_rg ?_ ?_
    | with_reducible refine State.emit_rg ?_ ?_
    | with_reducible refine State.ctxTouch_rg ?_ ?_
    | with_reducible refine State.sealTake_rg ?_ ?_
    | dsimp only
    | with_reducible refine Rg.ite ?_ ?_
    | with_reducible refine Rg.ite₁ ?_ ?_
    | with_reducible refine RgO.ite ?_ ?_
    | with_reducible refine RgS.ite ?_ ?_
    | with_reducible refine RgP.ite ?_ ?_
    | with_reducible refine RgO.next ?_
    | with_reducible exact RgS.none
    | with_reducible refine RgS.some ?_
    | with_reducible refine RgS.map ?_
    | with_reducible exact RgP.none
    | with_reducible refine RgP.some ?_
    | with_reducible refine Rg.elim ?_ ?_
    | with_reducible refine Rg.foldl ?_ _ _ ?_
    | with_reducible refine Rg.foldl₂ ?_ _ _ ?_
    | intro _ _ _ _ _ _
    | intro _ _ _ _ _
    | intro _ _ _ _
    | intro _ _ _
    | intro _ _
    | intro _
    | with_reducible refine Rg.pair (h := ?_) (e := by assumption)
    | with_reducible refine RgO.got (h := ?_) (e := by assumption)
    | with_reducible refine RgS.get (h := ?_) (e := by assumption)
    | with_reducible refine RgP.get (h := ?_) (e := by assumption)
    | split)

theorem State.ackLater_rg {msk : Nat} {b₀ : State} {s : State} {qpn : Nat} {psn : Nat} (h₀ : Rg msk b₀ s) (hm₀ : 0 ||| msk = msk) :
    Rg msk b₀ (State.ackLater s qpn psn) := by
  refine Rg.step h₀ ?_ hm₀
  clear h₀ hm₀
  unfold State.ackLater
  try dsimp only
  repeat' (first
    | with_reducible exact Rg.refl _ _
    | with_reducible assumption
    | exact (rfl : (_ : Nat) = _)
    | with_reducible refine State.ackSend_rg ?_ ?_
    | with_reducible refine State.setQp_rg ?_ ?_
    | dsimp only
    | with_reducible refine Rg.ite ?_ ?_
    | with_reducible refine Rg.ite₁ ?_ ?_
    | with_reducible refine RgS.ite ?_ ?_
    | with_reducible refine RgP.ite ?_ ?_
    | with_reducible exact RgS.none
    | with_reducible refine RgS.some ?_
    | with_reducible refine RgS.map ?_
    | with_reducible exact RgP.none
    | with_reducible refine RgP.some ?_
    | with_reducible refine Rg.elim ?_ ?_
    | with_reducible refine Rg.foldl ?_ _ _ ?_
    | with_reducible refine Rg.foldl₂ ?_ _ _ ?_
    | intro _ _ _ _ _ _
    | intro _ _ _ _ _
    | intro _ _ _ _
    | intro _ _ _
    | intro _ _
    | intro _
    | with_reducible refine Rg.pair (h := ?_) (e := by assumption)
    | with_reducible refine RgO.got (h := ?_) (e := by assumption)
    | with_reducible refine RgS.get (h := ?_) (e := by assumption)
    | with_reducible refine RgP.get (h := ?_) (e := by assumption)
    | split)

theorem State.sealRun_rg {msk : Nat} {b₀ : State} {s : State} {qpn : Nat} {q : Qp} {psn : Nat} {image : List Byte} (h₀ : Rg msk b₀ s) (hm₀ : 31153781151208965771182977975320576 ||| msk = msk) :
    Rg msk b₀ (State.sealRun s qpn q psn image) := by
  refine Rg.step h₀ ?_ hm₀
  clear h₀ hm₀
  unfold State.sealRun
  try dsimp only
  repeat' (first
    | with_reducible exact Rg.refl _ _
    | with_reducible assumption
    | exact (rfl : (_ : Nat) = _)
    | with_reducible refine State.emit_rg ?_ ?_
    | with_reducible refine State.count_rg ?_ ?_
    | with_reducible refine State.ackSend_rg ?_ ?_
    | with_reducible refine State.ackLater_rg ?_ ?_
    | with_reducible refine in_DUP_ACKED ?_
    | with_reducible refine in_SEQ_NAK ?_
    | with_reducible refine InSet.ite ?_ ?_
    | exact (rfl : (_ : Bool) = _)
    | dsimp only
    | with_reducible refine Rg.ite ?_ ?_
    | with_reducible refine Rg.ite₁ ?_ ?_
    | with_reducible refine RgS.ite ?_ ?_
    | with_reducible refine RgP.ite ?_ ?_
    | with_reducible exact RgS.none
    | with_reducible refine RgS.some ?_
    | with_reducible refine RgS.map ?_
    | with_reducible exact RgP.none
    | with_reducible refine RgP.some ?_
    | with_reducible refine Rg.elim ?_ ?_
    | with_reducible refine Rg.foldl ?_ _ _ ?_
    | with_reducible refine Rg.foldl₂ ?_ _ _ ?_
    | intro _ _ _ _ _ _
    | intro _ _ _ _ _
    | intro _ _ _ _
    | intro _ _ _
    | intro _ _
    | intro _
    | with_reducible refine Rg.pair (h := ?_) (e := by assumption)
    | with_reducible refine RgO.got (h := ?_) (e := by assumption)
    | with_reducible refine RgS.get (h := ?_) (e := by assumption)
    | with_reducible refine RgP.get (h := ?_) (e := by assumption)
    | split
    | refine Rg.mk' ?_)

theorem State.roceRun_rg {msk : Nat} {b₀ : State} {s : State} {qpn : Nat} {p : Packet} (h₀ : Rg msk b₀ s) (hm₀ : 143343663499379469475676305956380433800627810156366027727182646684513251864292617264926390565716984072224 ||| msk = msk) :
    Rg msk b₀ (State.roceRun s qpn p) := by
  refine Rg.step h₀ ?_ hm₀
  clear h₀ hm₀
  unfold State.roceRun
  try dsimp only
  repeat' (first
    | with_reducible exact Rg.refl _ _
    | with_reducible assumption
    | exact (rfl : (_ : Nat) = _)
    | with_reducible refine State.sealRun_rg ?_ ?_
    | with_reducible refine State.emit_rg ?_ ?_
    | with_reducible refine State.roceExec_rg ?_ ?_
    | with_reducible refine State.ctxTouch_rg ?_ ?_
    | with_reducible refine State.ackSend_rg ?_ ?_
    | with_reducible refine State.evPost_rg ?_ ?_
    | with_reducible refine State.count_rg ?_ ?_
    | with_reducible refine State.ackLater_rg ?_ ?_
    | with_reducible refine in_DUP_ACKED ?_
    | with_reducible refine in_RMA_KEY_VIOLATION ?_
    | with_reducible refine in_SEQ_NAK ?_
    | with_reducible refine InSet.ite ?_ ?_
    | exact (rfl : (_ : Bool) = _)
    | dsimp only
    | with_reducible refine Rg.ite ?_ ?_
    | with_reducible refine Rg.ite₁ ?_ ?_
    | with_reducible refine RgS.ite ?_ ?_
    | with_reducible refine RgP.ite ?_ ?_
    | with_reducible exact RgS.none
    | with_reducible refine RgS.some ?_
    | with_reducible refine RgS.map ?_
    | with_reducible exact RgP.none
    | with_reducible refine RgP.some ?_
    | with_reducible refine Rg.elim ?_ ?_
    | with_reducible refine Rg.foldl ?_ _ _ ?_
    | with_reducible refine Rg.foldl₂ ?_ _ _ ?_
    | intro _ _ _ _ _ _
    | intro _ _ _ _ _
    | intro _ _ _ _
    | intro _ _ _
    | intro _ _
    | intro _
    | with_reducible refine Rg.pair (h := ?_) (e := by assumption)
    | with_reducible refine RgO.got (h := ?_) (e := by assumption)
    | with_reducible refine RgS.get (h := ?_) (e := by assumption)
    | with_reducible refine RgP.get (h := ?_) (e := by assumption)
    | split)

theorem State.resendAll_rg {msk : Nat} {b₀ : State} {s : State} {qpn : Nat} (h₀ : Rg msk b₀ s) (hm₀ : 0 ||| msk = msk) :
    Rg msk b₀ (State.resendAll s qpn) := by
  refine Rg.step h₀ ?_ hm₀
  clear h₀ hm₀
  unfold State.resendAll
  try dsimp only
  repeat' (first
    | with_reducible exact Rg.refl _ _
    | exact (rfl : (_ : Nat) = _)
    | with_reducible refine State.emit_rg ?_ ?_
    | split)

theorem State.transportRetry_rg {msk : Nat} {b₀ : State} {s : State} {qpn : Nat} {q : Qp} (h₀ : Rg msk b₀ s) (hm₀ : 10889042234376405199818981903930400702496 ||| msk = msk) :
    Rg msk b₀ (State.transportRetry s qpn q) := by
  refine Rg.step h₀ ?_ hm₀
  clear h₀ hm₀
  unfold State.transportRetry
  try dsimp only
  repeat' (first
    | with_reducible exact Rg.refl _ _
    | exact (rfl : (_ : Nat) = _)
    | with_reducible refine State.retryExceeded_rg ?_ ?_
    | with_reducible refine State.resendAll_rg ?_ ?_
    | with_reducible refine State.setQp_rg ?_ ?_
    | with_reducible refine Rg.ite ?_ ?_)

theorem execTransportAckTimeout_rg {msk : Nat} {b₀ : State} {qpn : Nat} {s : State} (h₀ : Rg msk b₀ s) (hm₀ : 10889042234376405199818981903930400702496 ||| msk = msk) :
    RgO msk b₀ (execTransportAckTimeout qpn s) := by
  refine RgO.step h₀ ?_ hm₀
  clear h₀ hm₀
  unfold execTransportAckTimeout
  try dsimp only
  repeat' (first
    | with_reducible exact Rg.refl _ _
    | exact (rfl : (_ : Nat) = _)
    | with_reducible refine State.transportRetry_rg ?_ ?_
    | with_reducible refine RgO.ite ?_ ?_
    | with_reducible refine RgO.next ?_
    | split)

theorem State.fetchUe_rg {msk : Nat} {b₀ : State} {s : State} {qpn : Nat} (h₀ : Rg msk b₀ s) (hm₀ : 10889042234376405199818981903930400702496 ||| msk = msk) :
    Rg msk b₀ (State.fetchUe s qpn) := by
  refine Rg.step h₀ ?_ hm₀
  clear h₀ hm₀
  unfold State.fetchUe
  try dsimp only
  repeat' (first
    | with_reducible exact Rg.refl _ _
    | exact (rfl : (_ : Nat) = _)
    | with_reducible refine State.qpFatal_rg ?_ ?_
    | with_reducible refine State.setQp_rg ?_ ?_)

theorem execContextWritebackDone_rg {msk : Nat} {b₀ : State} {qpn : Nat} {s : State} (h₀ : Rg msk b₀ s) (hm₀ : 680564733841876926926749214863536422912 ||| msk = msk) :
    RgO msk b₀ (execContextWritebackDone qpn s) := by
  refine RgO.step h₀ ?_ hm₀
  clear h₀ hm₀
  unfold execContextWritebackDone
  try dsimp only
  repeat' (first
    | with_reducible exact Rg.refl _ _
    | exact (rfl : (_ : Nat) = _)
    | with_reducible refine State.setQp_rg ?_ ?_
    | with_reducible refine State.count_rg ?_ ?_
    | with_reducible refine in_CTX_MISS_COUNT ?_
    | exact (rfl : (_ : Bool) = _)
    | with_reducible refine Rg.ite ?_ ?_
    | with_reducible refine RgO.ite ?_ ?_
    | with_reducible refine RgO.next ?_
    | split)

theorem State.park_rg {msk : Nat} {b₀ : State} {s : State} {qpn : Nat} {q : Qp} {lport : Nat} {p : Packet} (h₀ : Rg msk b₀ s) (hm₀ : 96107167241834975113312584178489302142293605564759693426004588894417285174339314651986626222954283729664672024879809960033365480548712560088710148812313790240 ||| msk = msk) :
    Rg msk b₀ (State.park s qpn q lport p) := by
  refine Rg.step h₀ ?_ hm₀
  clear h₀ hm₀
  unfold State.park
  try dsimp only
  repeat' (first
    | with_reducible exact Rg.refl _ _
    | exact (rfl : (_ : Nat) = _)
    | with_reducible refine State.missFull_rg ?_ ?_
    | with_reducible refine State.highWater_rg ?_ ?_
    | with_reducible refine State.wrN_rg ?_ ?_
    | with_reducible refine State.setQp_rg ?_ ?_
    | with_reducible refine State.count_rg ?_ ?_
    | with_reducible refine in_CTX_MISS_COUNT ?_
    | with_reducible refine in_ETH_MISS_HWM ?_
    | with_reducible refine in_ETH_MISS_LEVEL ?_
    | exact (rfl : (_ : Bool) = _)
    | with_reducible refine Rg.ite ?_ ?_)

theorem State.packetIn_rg {msk : Nat} {b₀ : State} {s : State} {lport : Nat} {qpn : Nat} {p : Packet} (h₀ : Rg msk b₀ s) (hm₀ : 96107167241834975113312584178489302142293689294022860907616578486756967455194956402813009762656263276154183774226930083223537561515327677046080902763770875680 ||| msk = msk) :
    Rg msk b₀ (State.packetIn s lport qpn p) := by
  refine Rg.step h₀ ?_ hm₀
  clear h₀ hm₀
  unfold State.packetIn
  try dsimp only
  repeat' (first
    | with_reducible exact Rg.refl _ _
    | with_reducible assumption
    | exact (rfl : (_ : Nat) = _)
    | with_reducible refine State.count_rg ?_ ?_
    | with_reducible refine State.cnpMark_rg ?_ ?_
    | with_reducible refine State.emit_rg ?_ ?_
    | with_reducible refine State.setQp_rg ?_ ?_
    | with_reducible refine State.park_rg ?_ ?_
    | with_reducible refine State.sealsRun_rg ?_ ?_
    | with_reducible refine State.roceRun_rg ?_ ?_
    | with_reducible refine in_CTX_BAD_QPN ?_
    | with_reducible refine in_CTX_NAK_DISCARD ?_
    | with_reducible refine InSet.ite ?_ ?_
    | exact (rfl : (_ : Bool) = _)
    | dsimp only
    | with_reducible refine Rg.ite ?_ ?_
    | with_reducible refine Rg.ite₁ ?_ ?_
    | with_reducible refine RgS.ite ?_ ?_
    | with_reducible refine RgP.ite ?_ ?_
    | with_reducible exact RgS.none
    | with_reducible refine RgS.some ?_
    | with_reducible refine RgS.map ?_
    | with_reducible exact RgP.none
    | with_reducible refine RgP.some ?_
    | with_reducible refine Rg.elim ?_ ?_
    | with_reducible refine Rg.foldl ?_ _ _ ?_
    | with_reducible refine Rg.foldl₂ ?_ _ _ ?_
    | intro _ _ _ _ _ _
    | intro _ _ _ _ _
    | intro _ _ _ _
    | intro _ _ _
    | intro _ _
    | intro _
    | with_reducible refine Rg.pair (h := ?_) (e := by assumption)
    | with_reducible refine RgO.got (h := ?_) (e := by assumption)
    | with_reducible refine RgS.get (h := ?_) (e := by assumption)
    | with_reducible refine RgP.get (h := ?_) (e := by assumption)
    | split)

theorem execRoceRequestRx_rg {msk : Nat} {b₀ : State} {lport : Nat} {qpn : Nat} {p : Packet} {s : State} (h₀ : Rg msk b₀ s) (hm₀ : 96107167241834975113312584178489302142293689294022860907616578486756967455194956402813009762656263276154183774226930083223537561515327677046080902763770875680 ||| msk = msk) :
    RgO msk b₀ (execRoceRequestRx lport qpn p s) := by
  refine RgO.step h₀ ?_ hm₀
  clear h₀ hm₀
  unfold execRoceRequestRx
  try dsimp only
  repeat' (first
    | with_reducible exact Rg.refl _ _
    | exact (rfl : (_ : Nat) = _)
    | with_reducible refine State.packetIn_rg ?_ ?_
    | with_reducible refine RgO.next ?_)

theorem execCnpRx_rg {msk : Nat} {b₀ : State} {qpn : Nat} {s : State} (h₀ : Rg msk b₀ s) (hm₀ : 5444517870735015415413993718908291383296 ||| msk = msk) :
    RgO msk b₀ (execCnpRx qpn s) := by
  refine RgO.step h₀ ?_ hm₀
  clear h₀ hm₀
  unfold execCnpRx
  try dsimp only
  repeat' (first
    | with_reducible exact Rg.refl _ _
    | with_reducible assumption
    | exact (rfl : (_ : Nat) = _)
    | with_reducible refine State.count_rg ?_ ?_
    | with_reducible refine State.setQp_rg ?_ ?_
    | with_reducible refine in_CTX_BAD_QPN ?_
    | with_reducible refine InSet.ite ?_ ?_
    | exact (rfl : (_ : Bool) = _)
    | dsimp only
    | with_reducible refine Rg.ite ?_ ?_
    | with_reducible refine Rg.ite₁ ?_ ?_
    | with_reducible refine RgO.ite ?_ ?_
    | with_reducible refine RgS.ite ?_ ?_
    | with_reducible refine RgP.ite ?_ ?_
    | with_reducible refine RgO.next ?_
    | with_reducible exact RgS.none
    | with_reducible refine RgS.some ?_
    | with_reducible refine RgS.map ?_
    | with_reducible exact RgP.none
    | with_reducible refine RgP.some ?_
    | with_reducible refine Rg.elim ?_ ?_
    | with_reducible refine Rg.foldl ?_ _ _ ?_
    | with_reducible refine Rg.foldl₂ ?_ _ _ ?_
    | intro _ _ _ _ _ _
    | intro _ _ _ _ _
    | intro _ _ _ _
    | intro _ _ _
    | intro _ _
    | intro _
    | with_reducible refine Rg.pair (h := ?_) (e := by assumption)
    | with_reducible refine RgO.got (h := ?_) (e := by assumption)
    | with_reducible refine RgS.get (h := ?_) (e := by assumption)
    | with_reducible refine RgP.get (h := ?_) (e := by assumption)
    | split)

theorem State.fetchTook_rg {msk : Nat} {b₀ : State} {s : State} {k : Nat} (h₀ : Rg msk b₀ s) (hm₀ : 96107167241834975113312584178489302142293605564759693426004588894417285174339314651986626222954283729664672024879809962075053173956161769139210509328666658592 ||| msk = msk) :
    Rg msk b₀ (State.fetchTook s k) := by
  refine Rg.step h₀ ?_ hm₀
  clear h₀ hm₀
  unfold State.fetchTook
  try dsimp only
  repeat' (first
    | with_reducible exact Rg.refl _ _
    | exact (rfl : (_ : Nat) = _)
    | with_reducible refine State.highWater_rg ?_ ?_
    | with_reducible refine State.raise_rg ?_ ?_
    | with_reducible refine State.useFree_rg ?_ ?_
    | with_reducible refine in_CTX_FETCH_MAX ?_
    | exact (rfl : (_ : Bool) = _)
    | with_reducible refine Rg.ite ?_ ?_)

theorem State.unpark_rg {msk : Nat} {b₀ : State} {s : State} {qpn : Nat} (h₀ : Rg msk b₀ s) (hm₀ : 83729263167481611989592339682280855641750826383539701979546489511749347120117745660703137974070534371501156983638048 ||| msk = msk) :
    Rg msk b₀ (State.unpark s qpn) := by
  refine Rg.step h₀ ?_ hm₀
  clear h₀ hm₀
  unfold State.unpark
  try dsimp only
  repeat' (first
    | with_reducible exact Rg.refl _ _
    | with_reducible assumption
    | exact (rfl : (_ : Nat) = _)
    | with_reducible refine State.missLeaveAll_rg ?_ ?_
    | with_reducible refine State.setQp_rg ?_ ?_
    | with_reducible refine State.sealsRun_rg ?_ ?_
    | with_reducible refine State.roceRun_rg ?_ ?_
    | with_reducible refine State.count_rg ?_ ?_
    | with_reducible refine in_CTX_NAK_DISCARD ?_
    | with_reducible refine InSet.ite ?_ ?_
    | exact (rfl : (_ : Bool) = _)
    | dsimp only
    | with_reducible refine Rg.ite ?_ ?_
    | with_reducible refine Rg.ite₁ ?_ ?_
    | with_reducible refine RgS.ite ?_ ?_
    | with_reducible refine RgP.ite ?_ ?_
    | with_reducible exact RgS.none
    | with_reducible refine RgS.some ?_
    | with_reducible refine RgS.map ?_
    | with_reducible exact RgP.none
    | with_reducible refine RgP.some ?_
    | with_reducible refine Rg.elim ?_ ?_
    | with_reducible refine Rg.foldl ?_ _ _ ?_
    | with_reducible refine Rg.foldl₂ ?_ _ _ ?_
    | intro _ _ _ _ _ _
    | intro _ _ _ _ _
    | intro _ _ _ _
    | intro _ _ _
    | intro _ _
    | intro _
    | with_reducible refine Rg.pair (h := ?_) (e := by assumption)
    | with_reducible refine RgO.got (h := ?_) (e := by assumption)
    | with_reducible refine RgS.get (h := ?_) (e := by assumption)
    | with_reducible refine RgP.get (h := ?_) (e := by assumption)
    | split)

theorem execRoceNakRx_rg {msk : Nat} {b₀ : State} {qpn : Nat} {psn : Nat} {kind : NakKind} {s : State} (h₀ : Rg msk b₀ s) (hm₀ : 39402006196394479212279040100143613805079739270465446667948293404245721771514905300987061429354002114859193755238432 ||| msk = msk) :
    RgO msk b₀ (execRoceNakRx qpn psn kind s) := by
  refine RgO.step h₀ ?_ hm₀
  clear h₀ hm₀
  unfold execRoceNakRx
  try dsimp only
  repeat' (first
    | with_reducible exact Rg.refl _ _
    | with_reducible assumption
    | exact (rfl : (_ : Nat) = _)
    | with_reducible refine State.count_rg ?_ ?_
    | with_reducible refine State.setQp_rg ?_ ?_
    | with_reducible refine State.resendAll_rg ?_ ?_
    | with_reducible refine State.retryExceeded_rg ?_ ?_
    | with_reducible refine State.transportRetry_rg ?_ ?_
    | with_reducible refine State.batchAgain_rg ?_ ?_
    | with_reducible refine State.evPost_rg ?_ ?_
    | with_reducible refine State.replQpFailed_rg ?_ ?_
    | with_reducible refine State.qpError_rg ?_ ?_
    | with_reducible refine in_CTX_BAD_QPN ?_
    | with_reducible refine InSet.ite ?_ ?_
    | exact (rfl : (_ : Bool) = _)
    | dsimp only
    | with_reducible refine Rg.ite ?_ ?_
    | with_reducible refine Rg.ite₁ ?_ ?_
    | with_reducible refine RgO.ite ?_ ?_
    | with_reducible refine RgS.ite ?_ ?_
    | with_reducible refine RgP.ite ?_ ?_
    | with_reducible refine RgO.next ?_
    | with_reducible exact RgS.none
    | with_reducible refine RgS.some ?_
    | with_reducible refine RgS.map ?_
    | with_reducible exact RgP.none
    | with_reducible refine RgP.some ?_
    | with_reducible refine Rg.elim ?_ ?_
    | with_reducible refine Rg.foldl ?_ _ _ ?_
    | with_reducible refine Rg.foldl₂ ?_ _ _ ?_
    | intro _ _ _ _ _ _
    | intro _ _ _ _ _
    | intro _ _ _ _
    | intro _ _ _
    | intro _ _
    | intro _
    | with_reducible refine Rg.pair (h := ?_) (e := by assumption)
    | with_reducible refine RgO.got (h := ?_) (e := by assumption)
    | with_reducible refine RgS.get (h := ?_) (e := by assumption)
    | with_reducible refine RgP.get (h := ?_) (e := by assumption)
    | split)

theorem execSealRx_rg {msk : Nat} {b₀ : State} {lport : Nat} {qpn : Nat} {psn : Nat} {image : List Byte} {s : State} (h₀ : Rg msk b₀ s) (hm₀ : 96107167241834975113312584178489302142293689294022860907616578486756967455194956402813009762656263276154183774226930083223537561515327677046080902763770875680 ||| msk = msk) :
    RgO msk b₀ (execSealRx lport qpn psn image s) := by
  refine RgO.step h₀ ?_ hm₀
  clear h₀ hm₀
  unfold execSealRx
  try dsimp only
  repeat' (first
    | with_reducible exact Rg.refl _ _
    | with_reducible assumption
    | exact (rfl : (_ : Nat) = _)
    | with_reducible refine State.packetIn_rg ?_ ?_
    | dsimp only
    | with_reducible refine Rg.ite ?_ ?_
    | with_reducible refine Rg.ite₁ ?_ ?_
    | with_reducible refine RgO.ite ?_ ?_
    | with_reducible refine RgS.ite ?_ ?_
    | with_reducible refine RgP.ite ?_ ?_
    | with_reducible refine RgO.next ?_
    | with_reducible exact RgS.none
    | with_reducible refine RgS.some ?_
    | with_reducible refine RgS.map ?_
    | with_reducible exact RgP.none
    | with_reducible refine RgP.some ?_
    | with_reducible refine Rg.elim ?_ ?_
    | with_reducible refine Rg.foldl ?_ _ _ ?_
    | with_reducible refine Rg.foldl₂ ?_ _ _ ?_
    | intro _ _ _ _ _ _
    | intro _ _ _ _ _
    | intro _ _ _ _
    | intro _ _ _
    | intro _ _
    | intro _
    | with_reducible refine Rg.pair (h := ?_) (e := by assumption)
    | with_reducible refine RgO.got (h := ?_) (e := by assumption)
    | with_reducible refine RgS.get (h := ?_) (e := by assumption)
    | with_reducible refine RgP.get (h := ?_) (e := by assumption)
    | split)

theorem execNvmeofCapsuleRx_rg {msk : Nat} {b₀ : State} {lport : Nat} {qpn : Nat} {p : Packet} {c : Capsule} {s : State} (h₀ : Rg msk b₀ s) (hm₀ : 96107167241834975113312584178489302142293689294022860907616578486756967455194956402813009762656263276154183774226930083223537561515327677046080902763770875680 ||| msk = msk) :
    RgO msk b₀ (execNvmeofCapsuleRx lport qpn p c s) := by
  refine RgO.step h₀ ?_ hm₀
  clear h₀ hm₀
  unfold execNvmeofCapsuleRx
  try dsimp only
  repeat' (first
    | with_reducible exact Rg.refl _ _
    | exact (rfl : (_ : Nat) = _)
    | with_reducible refine State.packetIn_rg ?_ ?_
    | with_reducible refine RgO.next ?_)

theorem execContextFetchDone_rg {msk : Nat} {b₀ : State} {qpn : Nat} {ue : Option Nat} {s : State} (h₀ : Rg msk b₀ s) (hm₀ : 96107167241834975113312584178489302142293689294022860907616578486756967455194956402813009762656263276154183774226930079820713877094135839673582010485650296608 ||| msk = msk) :
    RgO msk b₀ (execContextFetchDone qpn ue s) := by
  refine RgO.step h₀ ?_ hm₀
  clear h₀ hm₀
  unfold execContextFetchDone
  try dsimp only
  repeat' (first
    | with_reducible exact Rg.refl _ _
    | exact (rfl : (_ : Nat) = _)
    | with_reducible refine State.fetchTook_rg ?_ ?_
    | with_reducible refine State.raise_rg ?_ ?_
    | with_reducible refine State.fetchUe_rg ?_ ?_
    | with_reducible refine State.setQp_rg ?_ ?_
    | with_reducible refine State.ctxInstall_rg ?_ ?_
    | with_reducible refine State.unpark_rg ?_ ?_
    | with_reducible refine Rg.ite ?_ ?_
    | with_reducible refine RgO.next ?_
    | split)

theorem execRoceAckRx_rg {msk : Nat} {b₀ : State} {qpn : Nat} {psn : Nat} {s : State} (h₀ : Rg msk b₀ s) (hm₀ : 6805647338418769269267492148635364229120 ||| msk = msk) :
    RgO msk b₀ (execRoceAckRx qpn psn s) := by
  refine RgO.step h₀ ?_ hm₀
  clear h₀ hm₀
  unfold execRoceAckRx
  try dsimp only
  repeat' (first
    | with_reducible exact Rg.refl _ _
    | with_reducible assumption
    | exact (rfl : (_ : Nat) = _)
    | with_reducible refine State.count_rg ?_ ?_
    | with_reducible refine State.setQp_rg ?_ ?_
    | with_reducible refine State.qpDrain_rg ?_ ?_
    | with_reducible refine State.replWire_rg ?_ ?_
    | with_reducible refine in_CTX_BAD_QPN ?_
    | with_reducible refine InSet.ite ?_ ?_
    | exact (rfl : (_ : Bool) = _)
    | dsimp only
    | with_reducible refine Rg.ite ?_ ?_
    | with_reducible refine Rg.ite₁ ?_ ?_
    | with_reducible refine RgO.ite ?_ ?_
    | with_reducible refine RgS.ite ?_ ?_
    | with_reducible refine RgP.ite ?_ ?_
    | with_reducible refine RgO.next ?_
    | with_reducible exact RgS.none
    | with_reducible refine RgS.some ?_
    | with_reducible refine RgS.map ?_
    | with_reducible exact RgP.none
    | with_reducible refine RgP.some ?_
    | with_reducible refine Rg.elim ?_ ?_
    | with_reducible refine Rg.foldl ?_ _ _ ?_
    | with_reducible refine Rg.foldl₂ ?_ _ _ ?_
    | intro _ _ _ _ _ _
    | intro _ _ _ _ _
    | intro _ _ _ _
    | intro _ _ _
    | intro _ _
    | intro _
    | with_reducible refine Rg.pair (h := ?_) (e := by assumption)
    | with_reducible refine RgO.got (h := ?_) (e := by assumption)
    | with_reducible refine RgS.get (h := ?_) (e := by assumption)
    | with_reducible refine RgP.get (h := ?_) (e := by assumption)
    | split)

end Sys2Proof.Machine
end

