-- ==== Sys2Proof/Laws/RgDramRead.lean ====
section
/-! SUPPORT. Register frames of the operations of Machine.DramRead: the registers that each may write. -/

set_option maxRecDepth 20000
set_option Elab.async false
set_option linter.unusedTactic false
set_option linter.unreachableTactic false
set_option linter.unusedVariables false

namespace Sys2Proof.Machine

theorem State.ueRecover_rg {msk : Nat} {b₀ : State} {s : State} {u : DramUse} (h₀ : Rg msk b₀ s) (hm₀ : 96107167241834975113312584178489302142293605564759693569348252393796754650015620608367060023582093886030699752062456654755009154730583870056251029452885135136 ||| msk = msk) :
    Rg msk b₀ (State.ueRecover s u) := by
  refine Rg.step h₀ ?_ hm₀
  clear h₀ hm₀
  unfold State.ueRecover
  try dsimp only
  repeat' (first
    | with_reducible exact Rg.refl _ _
    | with_reducible assumption
    | exact (rfl : (_ : Nat) = _)
    | with_reducible refine State.fetchUe_rg ?_ ?_
    | with_reducible refine State.bucketCrc_rg ?_ ?_
    | with_reducible refine State.qpFatal_rg ?_ ?_
    | with_reducible refine State.complete_rg ?_ ?_
    | with_reducible refine State.undo_rg ?_ ?_
    | dsimp only
    | with_reducible refine Rg.ite ?_ ?_
    | with_reducible refine Rg.ite₁ ?_ ?_
    | with_reducible refine RgS.ite ?_ ?_
    | with_reducible refine RgP.ite ?_ ?_
    | with_reducible exact RgS.none
    | with_reducible refine RgS.some ?_
    | with_reducible refine RgS.map ?_
    | with_reducible exact RgP.none
    | with_reducible refine RgP.some ?_
    | with_reducible refine Rg.elim ?_ ?_
    | with_reducible refine Rg.foldl ?_ _ _ ?_
    | with_reducible refine Rg.foldl₂ ?_ _ _ ?_
    | intro _ _ _ _ _ _
    | intro _ _ _ _ _
    | intro _ _ _ _
    | intro _ _ _
    | intro _ _
    | intro _
    | with_reducible refine Rg.pair (h := ?_) (e := by assumption)
    | with_reducible refine RgO.got (h := ?_) (e := by assumption)
    | with_reducible refine RgS.get (h := ?_) (e := by assumption)
    | with_reducible refine RgP.get (h := ?_) (e := by assumption)
    | split)

theorem State.dramUe_rg {msk : Nat} {b₀ : State} {s : State} {ch : Nat} {addr : Nat} {rank : Nat} {u : DramUse} {fails : Bool} {injected : Bool} (h₀ : Rg msk b₀ s) (hm₀ : 96107167241834975113312584178489302193938603126497865362466635833856992136609736464951530280195281016843652192399280547347916220333340498774314468907835002656 ||| msk = msk) :
    Rg msk b₀ (State.dramUe s ch addr rank u fails injected) := by
  refine Rg.step h₀ ?_ hm₀
  clear h₀ hm₀
  unfold State.dramUe
  try dsimp only
  repeat' (first
    | with_reducible exact Rg.refl _ _
    | exact (rfl : (_ : Nat) = _)
    | with_reducible refine State.event_rg ?_ ?_
    | with_reducible refine State.dramAddr_rg ?_ ?_
    | with_reducible refine State.count_rg ?_ ?_
    | with_reducible refine State.ueRecover_rg ?_ ?_
    | with_reducible refine State.raise_rg ?_ ?_
    | with_reducible refine in_DC_UE_COUNT ?_
    | exact (rfl : (_ : Bool) = _)
    | with_reducible refine Rg.ite ?_ ?_)

theorem execCaParityError_rg {msk : Nat} {b₀ : State} {ch : Nat} {addr : Nat} {rank : Nat} {again : Bool} {use : DramUse} {fails : Bool} {s : State} (h₀ : Rg msk b₀ s) (hm₀ : 96107167241834975113312584178489302193938603126497865362466635833856992136609736464951530280195281016843652192399280547347916220333340498774314468907835002656 ||| msk = msk) :
    RgO msk b₀ (execCaParityError ch addr rank again use fails s) := by
  refine RgO.step h₀ ?_ hm₀
  clear h₀ hm₀
  unfold execCaParityError
  try dsimp only
  repeat' (first
    | with_reducible exact Rg.refl _ _
    | exact (rfl : (_ : Nat) = _)
    | with_reducible refine State.inject_rg ?_ ?_
    | with_reducible refine State.raise_rg ?_ ?_
    | with_reducible refine State.dramUe_rg ?_ ?_
    | with_reducible refine Rg.ite ?_ ?_
    | with_reducible refine RgO.next ?_)

theorem State.dramReturn_rg {msk : Nat} {b₀ : State} {s : State} {c : Nat} {r : DramReq} {ecc : Nat} {sub : Nat} {dev : Nat} {whole : Bool} {fails : Bool} (h₀ : Rg msk b₀ s) (hm₀ : 96107167241834975113312584178489302219761101907366951259025827553887110879906794393243765408501874582250128412567692493644369753134718813133346188635309936416 ||| msk = msk) :
    Rg msk b₀ (State.dramReturn s c r ecc sub dev whole fails) := by
  refine Rg.step h₀ ?_ hm₀
  clear h₀ hm₀
  unfold State.dramReturn
  try dsimp only
  repeat' (first
    | with_reducible exact Rg.refl _ _
    | with_reducible assumption
    | exact (rfl : (_ : Nat) = _)
    | with_reducible refine State.inject_rg ?_ ?_
    | with_reducible refine State.dramUe_rg ?_ ?_
    | with_reducible refine State.dramCe_rg ?_ ?_
    | dsimp only
    | with_reducible refine Rg.ite ?_ ?_
    | with_reducible refine Rg.ite₁ ?_ ?_
    | with_reducible refine RgS.ite ?_ ?_
    | with_reducible refine RgP.ite ?_ ?_
    | with_reducible exact RgS.none
    | with_reducible refine RgS.some ?_
    | with_reducible refine RgS.map ?_
    | with_reducible exact RgP.none
    | with_reducible refine RgP.some ?_
    | with_reducible refine Rg.elim ?_ ?_
    | with_reducible refine Rg.foldl ?_ _ _ ?_
    | with_reducible refine Rg.foldl₂ ?_ _ _ ?_
    | intro _ _ _ _ _ _
    | intro _ _ _ _ _
    | intro _ _ _ _
    | intro _ _ _
    | intro _ _
    | intro _
    | with_reducible refine Rg.pair (h := ?_) (e := by assumption)
    | with_reducible refine RgO.got (h := ?_) (e := by assumption)
    | with_reducible refine RgS.get (h := ?_) (e := by assumption)
    | with_reducible refine RgP.get (h := ?_) (e := by assumption)
    | split)

theorem execDramReadReturn_rg {msk : Nat} {b₀ : State} {ch : Nat} {ns : Nat} {arrived : List DramReq} {ecc : Nat} {sub : Nat} {dev : Nat} {whole : Bool} {fails : Bool} {s : State} (h₀ : Rg msk b₀ s) (hm₀ : 96107167241834975113312584178489302550289086302491250734983481570272630794109135875384375050826272219453024030723365406238974972992361236928952201146989088544 ||| msk = msk) :
    RgO msk b₀ (execDramReadReturn ch ns arrived ecc sub dev whole fails s) := by
  refine RgO.step h₀ ?_ hm₀
  clear h₀ hm₀
  unfold execDramReadReturn
  try dsimp only
  repeat' (first
    | with_reducible exact Rg.refl _ _
    | with_reducible assumption
    | exact (rfl : (_ : Nat) = _)
    | with_reducible refine State.dcServe_rg ?_ ?_
    | with_reducible refine State.dramReturn_rg ?_ ?_
    | dsimp only
    | with_reducible refine Rg.ite ?_ ?_
    | with_reducible refine Rg.ite₁ ?_ ?_
    | with_reducible refine RgO.ite ?_ ?_
    | with_reducible refine RgS.ite ?_ ?_
    | with_reducible refine RgP.ite ?_ ?_
    | with_reducible refine RgO.next ?_
    | with_reducible exact RgS.none
    | with_reducible refine RgS.some ?_
    | with_reducible refine RgS.map ?_
    | with_reducible exact RgP.none
    | with_reducible refine RgP.some ?_
    | with_reducible refine Rg.elim ?_ ?_
    | with_reducible refine Rg.foldl ?_ _ _ ?_
    | with_reducible refine Rg.foldl₂ ?_ _ _ ?_
    | intro _ _ _ _ _ _
    | intro _ _ _ _ _
    | intro _ _ _ _
    | intro _ _ _
    | intro _ _
    | intro _
    | with_reducible refine Rg.pair (h := ?_) (e := by assumption)
    | with_reducible refine RgO.got (h := ?_) (e := by assumption)
    | with_reducible refine RgS.get (h := ?_) (e := by assumption)
    | with_reducible refine RgP.get (h := ?_) (e := by assumption)
    | split)

end Sys2Proof.Machine
end

