-- ==== Sys2Proof/Laws/RgPoolCmds.lean ====
section
/-! SUPPORT. Register frames of the operations of Machine.PoolCmds: the registers that each may write. -/

set_option maxRecDepth 20000
set_option Elab.async false
set_option linter.unusedTactic false
set_option linter.unreachableTactic false
set_option linter.unusedVariables false

namespace Sys2Proof.Machine

theorem State.bandMove_rg {msk : Nat} {b₀ : State} {s : State} {pool : Nat} {b : BandCopy} {bands : List BandCopy} (h₀ : Rg msk b₀ s) (hm₀ : 96107167241834975113312584178489302142293605564759693569348252393796754650015622461040598248582769312187058847174196710134608467395224315499091813611201433376 ||| msk = msk) :
    Rg msk b₀ (State.bandMove s pool b bands) := by
  refine Rg.step h₀ ?_ hm₀
  clear h₀ hm₀
  unfold State.bandMove
  try dsimp only
  repeat' (first
    | with_reducible exact Rg.refl _ _
    | with_reducible assumption
    | exact (rfl : (_ : Nat) = _)
    | with_reducible refine State.sendMod_rg ?_ ?_
    | with_reducible refine State.setBg_rg ?_ ?_
    | with_reducible refine State.bandDrop_rg ?_ ?_
    | with_reducible refine State.bandStart_rg ?_ ?_
    | dsimp only
    | with_reducible refine Rg.ite ?_ ?_
    | with_reducible refine Rg.ite₁ ?_ ?_
    | with_reducible refine RgS.ite ?_ ?_
    | with_reducible refine RgP.ite ?_ ?_
    | with_reducible exact RgS.none
    | with_reducible refine RgS.some ?_
    | with_reducible refine RgS.map ?_
    | with_reducible exact RgP.none
    | with_reducible refine RgP.some ?_
    | with_reducible refine Rg.elim ?_ ?_
    | with_reducible refine Rg.foldl ?_ _ _ ?_
    | with_reducible refine Rg.foldl₂ ?_ _ _ ?_
    | intro _ _ _ _ _ _
    | intro _ _ _ _ _
    | intro _ _ _ _
    | intro _ _ _
    | intro _ _
    | intro _
    | with_reducible refine Rg.pair (h := ?_) (e := by assumption)
    | with_reducible refine RgO.got (h := ?_) (e := by assumption)
    | with_reducible refine RgS.get (h := ?_) (e := by assumption)
    | with_reducible refine RgP.get (h := ?_) (e := by assumption)
    | split)

theorem State.reshapeMay_rg {msk : Nat} {b₀ : State} {s : State} {pool : Nat} (h₀ : Rg msk b₀ s) (hm₀ : 0 ||| msk = msk) :
    Rg msk b₀ (State.reshapeMay s pool).1 := by
  refine Rg.step h₀ ?_ hm₀
  clear h₀ hm₀
  unfold State.reshapeMay
  try dsimp only
  repeat' (first
    | with_reducible exact Rg.refl _ _
    | exact (rfl : (_ : Nat) = _)
    | with_reducible refine State.standing_rg ?_ ?_
    | with_reducible refine Rg.ite₁ ?_ ?_)

theorem execReshapeMigrateStep_rg {msk : Nat} {b₀ : State} {pool : Nat} {lost : List Nat} {places : List (List Place)} {s : State} (h₀ : Rg msk b₀ s) (hm₀ : 96107167241834975113312584178489302142293605564759693426022086900215549269734295596140391520348221122700296749968275382771190405450316110663556418983323307808 ||| msk = msk) :
    RgO msk b₀ (execReshapeMigrateStep pool lost places s) := by
  refine RgO.step h₀ ?_ hm₀
  clear h₀ hm₀
  unfold execReshapeMigrateStep
  try dsimp only
  repeat' (first
    | with_reducible exact Rg.refl _ _
    | exact (rfl : (_ : Nat) = _)
    | with_reducible refine State.reshapeMay_rg ?_ ?_
    | with_reducible refine State.setSeg_rg ?_ ?_
    | with_reducible refine State.copyGrains_rg ?_ ?_
    | with_reducible refine State.setReclaim_rg ?_ ?_
    | with_reducible refine Rg.ite ?_ ?_
    | with_reducible refine RgO.ite ?_ ?_
    | with_reducible refine RgO.next ?_
    | with_reducible refine Rg.pair (h := ?_) (e := by assumption)
    | split)

theorem State.bandPlace_rg {msk : Nat} {b₀ : State} {s : State} {pool : Nat} {b : BandCopy} (h₀ : Rg msk b₀ s) (hm₀ : 110427941548649020598956093796432407239217743554726184882600387580790784 ||| msk = msk) :
    Rg msk b₀ (State.bandPlace s pool b) := by
  refine Rg.step h₀ ?_ hm₀
  clear h₀ hm₀
  unfold State.bandPlace
  try dsimp only
  repeat' (first
    | with_reducible exact Rg.refl _ _
    | with_reducible assumption
    | exact (rfl : (_ : Nat) = _)
    | with_reducible refine State.setPool_rg ?_ ?_
    | with_reducible refine State.sendMod_rg ?_ ?_
    | with_reducible refine State.setBg_rg ?_ ?_
    | with_reducible refine Rg.ite ?_ ?_
    | with_reducible refine Rg.foldl ?_ _ _ ?_
    | intro _ _ _
    | split)

theorem State.spareErase_rg {msk : Nat} {b₀ : State} {s : State} {pool : Nat} {q : Nat} (h₀ : Rg msk b₀ s) (hm₀ : 110427941548649020598956093796432407239217743554726184882600387580790784 ||| msk = msk) :
    Rg msk b₀ (State.spareErase s pool q) := by
  refine Rg.step h₀ ?_ hm₀
  clear h₀ hm₀
  unfold State.spareErase
  try dsimp only
  repeat' (first
    | with_reducible exact Rg.refl _ _
    | with_reducible assumption
    | exact (rfl : (_ : Nat) = _)
    | with_reducible refine State.sendMod_rg ?_ ?_
    | dsimp only
    | with_reducible refine Rg.ite ?_ ?_
    | with_reducible refine Rg.ite₁ ?_ ?_
    | with_reducible refine RgS.ite ?_ ?_
    | with_reducible refine RgP.ite ?_ ?_
    | with_reducible exact RgS.none
    | with_reducible refine RgS.some ?_
    | with_reducible refine RgS.map ?_
    | with_reducible exact RgP.none
    | with_reducible refine RgP.some ?_
    | with_reducible refine Rg.elim ?_ ?_
    | with_reducible refine Rg.foldl ?_ _ _ ?_
    | with_reducible refine Rg.foldl₂ ?_ _ _ ?_
    | intro _ _ _ _ _ _
    | intro _ _ _ _ _
    | intro _ _ _ _
    | intro _ _ _
    | intro _ _
    | intro _
    | with_reducible refine Rg.pair (h := ?_) (e := by assumption)
    | with_reducible refine RgO.got (h := ?_) (e := by assumption)
    | with_reducible refine RgS.get (h := ?_) (e := by assumption)
    | with_reducible refine RgP.get (h := ?_) (e := by assumption)
    | split)

theorem State.poolMake_rg {msk : Nat} {b₀ : State} {s : State} {x : PoolArgs} {bands : List BandCopy} (h₀ : Rg msk b₀ s) (hm₀ : 452423276524815037393923116332509994011077731299694902425296622555504838688 ||| msk = msk) :
    Rg msk b₀ (State.poolMake s x bands) := by
  refine Rg.step h₀ ?_ hm₀
  clear h₀ hm₀
  unfold State.poolMake
  try dsimp only
  repeat' (first
    | with_reducible exact Rg.refl _ _
    | with_reducible assumption
    | exact (rfl : (_ : Nat) = _)
    | with_reducible refine State.spareInit_rg ?_ ?_
    | with_reducible refine State.bandPlace_rg ?_ ?_
    | with_reducible refine State.spareErase_rg ?_ ?_
    | with_reducible refine State.actEnd_rg ?_ ?_
    | with_reducible refine State.spillRecompute_rg ?_ ?_
    | with_reducible refine State.putBit_rg ?_ ?_
    | with_reducible refine State.recap_rg ?_ ?_
    | with_reducible refine in_FTL_POOL_STATE ?_
    | with_reducible refine InSet.ite ?_ ?_
    | exact (rfl : (_ : Bool) = _)
    | dsimp only
    | with_reducible refine Rg.ite ?_ ?_
    | with_reducible refine Rg.ite₁ ?_ ?_
    | with_reducible refine RgS.ite ?_ ?_
    | with_reducible refine RgP.ite ?_ ?_
    | with_reducible exact RgS.none
    | with_reducible refine RgS.some ?_
    | with_reducible refine RgS.map ?_
    | with_reducible exact RgP.none
    | with_reducible refine RgP.some ?_
    | with_reducible refine Rg.elim ?_ ?_
    | with_reducible refine Rg.foldl ?_ _ _ ?_
    | with_reducible refine Rg.foldl₂ ?_ _ _ ?_
    | intro _ _ _ _ _ _
    | intro _ _ _ _ _
    | intro _ _ _ _
    | intro _ _ _
    | intro _ _
    | intro _
    | with_reducible refine Rg.pair (h := ?_) (e := by assumption)
    | with_reducible refine RgO.got (h := ?_) (e := by assumption)
    | with_reducible refine RgS.get (h := ?_) (e := by assumption)
    | with_reducible refine RgP.get (h := ?_) (e := by assumption)
    | split
    | refine Rg.mk' ?_)

theorem State.poolDrop_rg {msk : Nat} {b₀ : State} {s : State} {pool : Nat} (h₀ : Rg msk b₀ s) (hm₀ : 4271974071841820164790495835615629044242802967829638049888094293375739146463706396668479678711840 ||| msk = msk) :
    Rg msk b₀ (State.poolDrop s pool) := by
  refine Rg.step h₀ ?_ hm₀
  clear h₀ hm₀
  unfold State.poolDrop
  try dsimp only
  repeat' (first
    | with_reducible exact Rg.refl _ _
    | with_reducible assumption
    | exact (rfl : (_ : Nat) = _)
    | with_reducible refine State.sendMod_rg ?_ ?_
    | with_reducible refine State.setBg_rg ?_ ?_
    | with_reducible refine State.purge_rg ?_ ?_
    | with_reducible refine State.spillRecompute_rg ?_ ?_
    | with_reducible refine State.wrN_rg ?_ ?_
    | with_reducible refine in_FTL_POOL_STATE ?_
    | with_reducible refine in_SP_STATE ?_
    | exact (rfl : (_ : Bool) = _)
    | with_reducible refine Rg.foldl ?_ _ _ ?_
    | intro _ _ _
    | split
    | refine Rg.mk' ?_)

theorem State.poolDelete_rg {msk : Nat} {b₀ : State} {s : State} {pool : Nat} (h₀ : Rg msk b₀ s) (hm₀ : 4271974071841820164790495835615629044242802967829638049888094293375739146463706396668479678711840 ||| msk = msk) :
    Rg msk b₀ (State.poolDelete s pool) := by
  refine Rg.step h₀ ?_ hm₀
  clear h₀ hm₀
  unfold State.poolDelete
  try dsimp only
  repeat' (first
    | with_reducible exact Rg.refl _ _
    | exact (rfl : (_ : Nat) = _)
    | with_reducible refine State.actEnd_rg ?_ ?_
    | with_reducible refine State.poolDrop_rg ?_ ?_)

theorem State.setPhase_rg {msk : Nat} {b₀ : State} {s : State} {pool : Nat} {ph : ReshapePhase} (h₀ : Rg msk b₀ s) (hm₀ : 4271974071841820164790043412339104229205409044713305539894083215644439451561281100045924173873152 ||| msk = msk) :
    Rg msk b₀ (State.setPhase s pool ph) := by
  refine Rg.step h₀ ?_ hm₀
  clear h₀ hm₀
  unfold State.setPhase
  try dsimp only
  repeat' (first
    | with_reducible exact Rg.refl _ _
    | exact (rfl : (_ : Nat) = _)
    | with_reducible refine State.putFld_rg ?_ ?_
    | with_reducible refine State.setPool_rg ?_ ?_
    | with_reducible refine in_SP_STATE ?_
    | exact (rfl : (_ : Bool) = _))

theorem State.reshapeRun_rg {msk : Nat} {b₀ : State} {s : State} {x : PoolArgs} (h₀ : Rg msk b₀ s) (hm₀ : 4271974071841820164790043412339104229205409044713305539894083215644439451561281100045924173873152 ||| msk = msk) :
    Rg msk b₀ (State.reshapeRun s x) := by
  refine Rg.step h₀ ?_ hm₀
  clear h₀ hm₀
  unfold State.reshapeRun
  try dsimp only
  repeat' (first
    | with_reducible exact Rg.refl _ _
    | exact (rfl : (_ : Nat) = _)
    | with_reducible refine State.setPhase_rg ?_ ?_
    | with_reducible refine State.setPool_rg ?_ ?_)

theorem State.spActRun_rg {msk : Nat} {b₀ : State} {s : State} {a : Activity} {bands : List BandCopy} (h₀ : Rg msk b₀ s) (hm₀ : 1119876643062973947098885930780057754689866991420292597088044438576189311329226936396835415115482269728 ||| msk = msk) :
    Rg msk b₀ (State.spActRun s a bands) := by
  refine Rg.step h₀ ?_ hm₀
  clear h₀ hm₀
  unfold State.spActRun
  try dsimp only
  repeat' (first
    | with_reducible exact Rg.refl _ _
    | exact (rfl : (_ : Nat) = _)
    | with_reducible refine State.event_rg ?_ ?_
    | with_reducible refine State.putBit_rg ?_ ?_
    | with_reducible refine State.poolMake_rg ?_ ?_
    | with_reducible refine State.poolDelete_rg ?_ ?_
    | with_reducible refine State.reshapeRun_rg ?_ ?_
    | with_reducible refine in_SP_CMD_STATUS ?_
    | exact (rfl : (_ : Bool) = _)
    | split)

theorem State.spCommand_rg {msk : Nat} {b₀ : State} {s : State} {f : State → State} (hf : ∀ t0, Rg msk b₀ t0 → Rg msk b₀ (f t0)) (h₀ : Rg msk b₀ s) (hm₀ : 96107167241834975113312584178489302142293605564759693426004588894417285174339314651986626222954283729664672024879809959352794238588654061432213649874520966944 ||| msk = msk) :
    RgO msk b₀ (State.spCommand s f) := by
  unfold State.spCommand
  try dsimp only
  repeat' (first
    | with_reducible assumption
    | with_reducible refine State.writeDiscarded_rg ?_ ?_
    | with_reducible refine hf _ ?_
    | with_reducible refine Rg.ite ?_ ?_
    | with_reducible refine RgO.next ?_)

theorem State.spAnswer_rg {msk : Nat} {b₀ : State} {s : State} {status : Nat} {queued : Bool} (h₀ : Rg msk b₀ s) (hm₀ : 1119872371088902105278721140284222139060822748617324767449994550481895935590080472690438746635803557920 ||| msk = msk) :
    Rg msk b₀ (State.spAnswer s status queued) := by
  refine Rg.step h₀ ?_ hm₀
  clear h₀ hm₀
  unfold State.spAnswer
  try dsimp only
  repeat' (first
    | with_reducible exact Rg.refl _ _
    | exact (rfl : (_ : Nat) = _)
    | with_reducible refine State.wrN_rg ?_ ?_
    | with_reducible refine State.event_rg ?_ ?_
    | with_reducible refine in_SP_CMD_STATUS ?_
    | exact (rfl : (_ : Bool) = _)
    | with_reducible refine Rg.ite ?_ ?_)

theorem State.spStart_rg {msk : Nat} {b₀ : State} {s : State} {a : Activity} {run : State → State} (hf : ∀ t0, Rg msk b₀ t0 → Rg msk b₀ (run t0)) (h₀ : Rg msk b₀ s) (hm₀ : 6097165137335922326917182089439777940916350619763610681127069657908588399521415549546090182313332750722018870782087390815362266245245735796768 ||| msk = msk) :
    Rg msk b₀ (State.spStart s a run) := by
  unfold State.spStart
  try dsimp only
  repeat' (first
    | with_reducible assumption
    | exact Rg.sub rfl hm₀
    | with_reducible refine State.actStart_rg ?_ ?_
    | with_reducible refine State.spAnswer_rg ?_ ?_
    | with_reducible refine hf _ ?_
    | with_reducible refine Rg.ite ?_ ?_)

theorem execReshape_rg {msk : Nat} {b₀ : State} {differs : Bool} {s : State} (h₀ : Rg msk b₀ s) (hm₀ : 96107167241834981210477721514411629059475695004537634342355212930002038143229137350618438083474062481163899051518100575454880665115496438075579941044430636832 ||| msk = msk) :
    RgO msk b₀ (execReshape differs s) := by
  refine RgO.step h₀ ?_ hm₀
  clear h₀ hm₀
  unfold execReshape
  try dsimp only
  repeat' (first
    | with_reducible exact Rg.refl _ _
    | with_reducible assumption
    | exact (rfl : (_ : Nat) = _)
    | with_reducible refine State.spCommand_rg ?_ ?_ ?_
    | with_reducible refine State.spAnswer_rg ?_ ?_
    | with_reducible refine State.spStart_rg ?_ ?_ ?_
    | with_reducible refine State.reshapeRun_rg ?_ ?_
    | with_reducible refine Rg.ite ?_ ?_
    | intro _ _
    | split)

theorem State.spareBoth_rg {msk : Nat} {b₀ : State} {s : State} {pool : Nat} {q : Option Nat} (h₀ : Rg msk b₀ s) (hm₀ : 0 ||| msk = msk) :
    Rg msk b₀ (State.spareBoth s pool q) := by
  refine Rg.step h₀ ?_ hm₀
  clear h₀ hm₀
  unfold State.spareBoth
  try dsimp only
  repeat' (first
    | with_reducible exact Rg.refl _ _
    | with_reducible assumption
    | exact (rfl : (_ : Nat) = _)
    | with_reducible refine State.setPool_rg ?_ ?_
    | dsimp only
    | with_reducible refine Rg.ite ?_ ?_
    | with_reducible refine Rg.ite₁ ?_ ?_
    | with_reducible refine RgS.ite ?_ ?_
    | with_reducible refine RgP.ite ?_ ?_
    | with_reducible exact RgS.none
    | with_reducible refine RgS.some ?_
    | with_reducible refine RgS.map ?_
    | with_reducible exact RgP.none
    | with_reducible refine RgP.some ?_
    | with_reducible refine Rg.elim ?_ ?_
    | with_reducible refine Rg.foldl ?_ _ _ ?_
    | with_reducible refine Rg.foldl₂ ?_ _ _ ?_
    | intro _ _ _ _ _ _
    | intro _ _ _ _ _
    | intro _ _ _ _
    | intro _ _ _
    | intro _ _
    | intro _
    | with_reducible refine Rg.pair (h := ?_) (e := by assumption)
    | with_reducible refine RgO.got (h := ?_) (e := by assumption)
    | with_reducible refine RgS.get (h := ?_) (e := by assumption)
    | with_reducible refine RgP.get (h := ?_) (e := by assumption)
    | split)

theorem State.spareAssign_rg {msk : Nat} {b₀ : State} {s : State} {pool : Nat} (h₀ : Rg msk b₀ s) (hm₀ : 143343667771353541317496470746423956566831089677447213902998638788173134617713306791842142215694610073600 ||| msk = msk) :
    Rg msk b₀ (State.spareAssign s pool) := by
  refine Rg.step h₀ ?_ hm₀
  clear h₀ hm₀
  unfold State.spareAssign
  try dsimp only
  repeat' (first
    | with_reducible exact Rg.refl _ _
    | exact (rfl : (_ : Nat) = _)
    | with_reducible refine State.putBit_rg ?_ ?_
    | with_reducible refine State.substitute_rg ?_ ?_
    | with_reducible refine in_SP_STATE ?_
    | exact (rfl : (_ : Bool) = _)
    | with_reducible refine Rg.ite ?_ ?_
    | split)

theorem execSpareSet_rg {msk : Nat} {b₀ : State} {s : State} (h₀ : Rg msk b₀ s) (hm₀ : 96107167241834975113312584178489302142293605564759693570468129036859728597114506538694804928846196155729210695328443298007824791892041325964794612204934598432 ||| msk = msk) :
    RgO msk b₀ (execSpareSet s) := by
  refine RgO.step h₀ ?_ hm₀
  clear h₀ hm₀
  unfold execSpareSet
  try dsimp only
  repeat' (first
    | with_reducible exact Rg.refl _ _
    | with_reducible assumption
    | exact (rfl : (_ : Nat) = _)
    | with_reducible refine State.spCommand_rg ?_ ?_ ?_
    | with_reducible refine State.spAnswer_rg ?_ ?_
    | with_reducible refine State.spareBoth_rg ?_ ?_
    | with_reducible refine State.spareAssign_rg ?_ ?_
    | dsimp only
    | with_reducible refine Rg.ite ?_ ?_
    | with_reducible refine Rg.ite₁ ?_ ?_
    | with_reducible refine RgO.ite ?_ ?_
    | with_reducible refine RgS.ite ?_ ?_
    | with_reducible refine RgP.ite ?_ ?_
    | with_reducible refine RgO.next ?_
    | with_reducible exact RgS.none
    | with_reducible refine RgS.some ?_
    | with_reducible refine RgS.map ?_
    | with_reducible exact RgP.none
    | with_reducible refine RgP.some ?_
    | with_reducible refine Rg.elim ?_ ?_
    | with_reducible refine Rg.foldl ?_ _ _ ?_
    | with_reducible refine Rg.foldl₂ ?_ _ _ ?_
    | intro _ _ _ _ _ _
    | intro _ _ _ _ _
    | intro _ _ _ _
    | intro _ _ _
    | intro _ _
    | intro _
    | with_reducible refine Rg.pair (h := ?_) (e := by assumption)
    | with_reducible refine RgO.got (h := ?_) (e := by assumption)
    | with_reducible refine RgS.get (h := ?_) (e := by assumption)
    | with_reducible refine RgP.get (h := ?_) (e := by assumption)
    | split)

theorem State.reshapeFinish_rg {msk : Nat} {b₀ : State} {s : State} {pool : Nat} {p : Pool} {bands : List BandCopy} (h₀ : Rg msk b₀ s) (hm₀ : 96107167241834975113312584178489302142293605564759693569348256665770826491835787251536323436270264905969427720669923744269659989434834330059323047066285969184 ||| msk = msk) :
    Rg msk b₀ (State.reshapeFinish s pool p bands) := by
  refine Rg.step h₀ ?_ hm₀
  clear h₀ hm₀
  unfold State.reshapeFinish
  try dsimp only
  repeat' (first
    | with_reducible exact Rg.refl _ _
    | with_reducible assumption
    | exact (rfl : (_ : Nat) = _)
    | with_reducible refine State.bandMove_rg ?_ ?_
    | with_reducible refine State.setPhase_rg ?_ ?_
    | with_reducible refine State.setPool_rg ?_ ?_
    | with_reducible refine State.actEnd_rg ?_ ?_
    | with_reducible refine State.event_rg ?_ ?_
    | with_reducible refine State.setRedund_rg ?_ ?_
    | dsimp only
    | with_reducible refine Rg.ite ?_ ?_
    | with_reducible refine Rg.ite₁ ?_ ?_
    | with_reducible refine RgS.ite ?_ ?_
    | with_reducible refine RgP.ite ?_ ?_
    | with_reducible exact RgS.none
    | with_reducible refine RgS.some ?_
    | with_reducible refine RgS.map ?_
    | with_reducible exact RgP.none
    | with_reducible refine RgP.some ?_
    | with_reducible refine Rg.elim ?_ ?_
    | with_reducible refine Rg.foldl ?_ _ _ ?_
    | with_reducible refine Rg.foldl₂ ?_ _ _ ?_
    | intro _ _ _ _ _ _
    | intro _ _ _ _ _
    | intro _ _ _ _
    | intro _ _ _
    | intro _ _
    | intro _
    | with_reducible refine Rg.pair (h := ?_) (e := by assumption)
    | with_reducible refine RgO.got (h := ?_) (e := by assumption)
    | with_reducible refine RgS.get (h := ?_) (e := by assumption)
    | with_reducible refine RgP.get (h := ?_) (e := by assumption)
    | split)

theorem State.reshapeSwitch_rg {msk : Nat} {b₀ : State} {s : State} {pool : Nat} {p : Pool} (h₀ : Rg msk b₀ s) (hm₀ : 4271974071841820164790043412339104229205409044713354066315635218280395433284242382880561187258400 ||| msk = msk) :
    Rg msk b₀ (State.reshapeSwitch s pool p) := by
  refine Rg.step h₀ ?_ hm₀
  clear h₀ hm₀
  unfold State.reshapeSwitch
  try dsimp only
  repeat' (first
    | with_reducible exact Rg.refl _ _
    | with_reducible assumption
    | exact (rfl : (_ : Nat) = _)
    | with_reducible refine State.closeSegment_rg ?_ ?_
    | with_reducible refine State.setPool_rg ?_ ?_
    | with_reducible refine State.spillRecompute_rg ?_ ?_
    | with_reducible refine State.recap_rg ?_ ?_
    | with_reducible refine State.setPhase_rg ?_ ?_
    | with_reducible refine Rg.foldl ?_ _ _ ?_
    | intro _ _ _
    | split)

theorem execReshapePhaseEnd_rg {msk : Nat} {b₀ : State} {pool : Nat} {bands : List BandCopy} {s : State} (h₀ : Rg msk b₀ s) (hm₀ : 96107167241834975113312584178489302142293605564759693569348256665770826491835787251536323436270264905969427720718450165821662625390816053020605881703299354400 ||| msk = msk) :
    RgO msk b₀ (execReshapePhaseEnd pool bands s) := by
  refine RgO.step h₀ ?_ hm₀
  clear h₀ hm₀
  unfold execReshapePhaseEnd
  try dsimp only
  repeat' (first
    | with_reducible exact Rg.refl _ _
    | with_reducible assumption
    | exact (rfl : (_ : Nat) = _)
    | with_reducible refine State.reshapeMay_rg ?_ ?_
    | with_reducible refine State.reshapeSwitch_rg ?_ ?_
    | with_reducible refine State.spareInit_rg ?_ ?_
    | with_reducible refine State.event_rg ?_ ?_
    | with_reducible refine State.setPhase_rg ?_ ?_
    | with_reducible refine State.reshapeFinish_rg ?_ ?_
    | with_reducible refine Rg.ite ?_ ?_
    | with_reducible refine RgO.ite ?_ ?_
    | with_reducible refine RgO.next ?_
    | with_reducible refine Rg.foldl ?_ _ _ ?_
    | intro _ _ _
    | with_reducible refine Rg.pair (h := ?_) (e := by assumption)
    | split)

theorem State.redundScan_rg {msk : Nat} {b₀ : State} {s : State} (h₀ : Rg msk b₀ s) (hm₀ : 96107167241834975113312584178489302142293605564759693427124465537480259121438200582766573549702602072064365665825531543969741696218344548682883629965409060640 ||| msk = msk) :
    Rg msk b₀ (State.redundScan s) := by
  refine Rg.step h₀ ?_ hm₀
  clear h₀ hm₀
  unfold State.redundScan
  try dsimp only
  repeat' (first
    | with_reducible exact Rg.refl _ _
    | with_reducible assumption
    | exact (rfl : (_ : Nat) = _)
    | with_reducible refine State.setRedund_rg ?_ ?_
    | with_reducible refine State.putBit_rg ?_ ?_
    | with_reducible refine State.rebuildBlocked_rg ?_ ?_
    | with_reducible refine in_SP_CMD_STATUS ?_
    | with_reducible refine in_SP_STATE ?_
    | exact (rfl : (_ : Bool) = _)
    | with_reducible refine Rg.ite ?_ ?_
    | with_reducible refine Rg.foldl ?_ _ _ ?_
    | intro _ _ _)

theorem execPoolCreate_rg {msk : Nat} {b₀ : State} {bands : List BandCopy} {differs : Bool} {s : State} (h₀ : Rg msk b₀ s) (hm₀ : 96107167241834981210477721514411629059475695004537634342355208658027966301408972561027449020894648313148777454545070675382742751975739779219776517675761602336 ||| msk = msk) :
    RgO msk b₀ (execPoolCreate bands differs s) := by
  refine RgO.step h₀ ?_ hm₀
  clear h₀ hm₀
  unfold execPoolCreate
  try dsimp only
  repeat' (first
    | with_reducible exact Rg.refl _ _
    | with_reducible assumption
    | exact (rfl : (_ : Nat) = _)
    | with_reducible refine State.spCommand_rg ?_ ?_ ?_
    | with_reducible refine State.spAnswer_rg ?_ ?_
    | with_reducible refine State.spStart_rg ?_ ?_ ?_
    | with_reducible refine State.poolMake_rg ?_ ?_
    | with_reducible refine Rg.ite ?_ ?_
    | intro _ _)

theorem State.readmit_rg {msk : Nat} {b₀ : State} {s : State} {pool : Nat} {m : Nat} (h₀ : Rg msk b₀ s) (hm₀ : 110427941548649020598956093796432407239217743554726184882600387580790784 ||| msk = msk) :
    Rg msk b₀ (State.readmit s pool m) := by
  refine Rg.step h₀ ?_ hm₀
  clear h₀ hm₀
  unfold State.readmit
  try dsimp only
  repeat' (first
    | with_reducible exact Rg.refl _ _
    | with_reducible assumption
    | exact (rfl : (_ : Nat) = _)
    | with_reducible refine State.setPool_rg ?_ ?_
    | with_reducible refine State.setSeg_rg ?_ ?_
    | with_reducible refine State.pump_rg ?_ ?_
    | dsimp only
    | with_reducible refine Rg.ite ?_ ?_
    | with_reducible refine Rg.ite₁ ?_ ?_
    | with_reducible refine RgS.ite ?_ ?_
    | with_reducible refine RgP.ite ?_ ?_
    | with_reducible exact RgS.none
    | with_reducible refine RgS.some ?_
    | with_reducible refine RgS.map ?_
    | with_reducible exact RgP.none
    | with_reducible refine RgP.some ?_
    | with_reducible refine Rg.elim ?_ ?_
    | with_reducible refine Rg.foldl ?_ _ _ ?_
    | with_reducible refine Rg.foldl₂ ?_ _ _ ?_
    | intro _ _ _ _ _ _
    | intro _ _ _ _ _
    | intro _ _ _ _
    | intro _ _ _
    | intro _ _
    | intro _
    | with_reducible refine Rg.pair (h := ?_) (e := by assumption)
    | with_reducible refine RgO.got (h := ?_) (e := by assumption)
    | with_reducible refine RgS.get (h := ?_) (e := by assumption)
    | with_reducible refine RgP.get (h := ?_) (e := by assumption)
    | split)

theorem execRebuildNow_rg {msk : Nat} {b₀ : State} {s : State} (h₀ : Rg msk b₀ s) (hm₀ : 96107167241834975113312584178489302142293605564759693427124461265506187279618035792270848362015106478281996792329804509834690174178734534122652396510324524832 ||| msk = msk) :
    RgO msk b₀ (execRebuildNow s) := by
  refine RgO.step h₀ ?_ hm₀
  clear h₀ hm₀
  unfold execRebuildNow
  try dsimp only
  repeat' (first
    | with_reducible exact Rg.refl _ _
    | with_reducible assumption
    | exact (rfl : (_ : Nat) = _)
    | with_reducible refine State.spCommand_rg ?_ ?_ ?_
    | with_reducible refine State.spAnswer_rg ?_ ?_
    | with_reducible refine State.setPool_rg ?_ ?_
    | with_reducible refine Rg.ite ?_ ?_
    | intro _ _
    | split)

theorem execPoolDelete_rg {msk : Nat} {b₀ : State} {differs : Bool} {s : State} (h₀ : Rg msk b₀ s) (hm₀ : 96107167241834981210477721514411629059475695004537634342355212930002038143229137351070861359998877518557822167850610569465958396415191340500876563599935475488 ||| msk = msk) :
    RgO msk b₀ (execPoolDelete differs s) := by
  refine RgO.step h₀ ?_ hm₀
  clear h₀ hm₀
  unfold execPoolDelete
  try dsimp only
  repeat' (first
    | with_reducible exact Rg.refl _ _
    | with_reducible assumption
    | exact (rfl : (_ : Nat) = _)
    | with_reducible refine State.spCommand_rg ?_ ?_ ?_
    | with_reducible refine State.spAnswer_rg ?_ ?_
    | with_reducible refine State.spStart_rg ?_ ?_ ?_
    | with_reducible refine State.poolDelete_rg ?_ ?_
    | with_reducible refine Rg.ite ?_ ?_
    | intro _ _)

theorem execReadmit_rg {msk : Nat} {b₀ : State} {s : State} (h₀ : Rg msk b₀ s) (hm₀ : 96107167241834975113312584178489302142293605564759693427124461265506187279618035792270958789956655127302595748423600942241929391922289260307534996897905315616 ||| msk = msk) :
    RgO msk b₀ (execReadmit s) := by
  refine RgO.step h₀ ?_ hm₀
  clear h₀ hm₀
  unfold execReadmit
  try dsimp only
  repeat' (first
    | with_reducible exact Rg.refl _ _
    | with_reducible assumption
    | exact (rfl : (_ : Nat) = _)
    | with_reducible refine State.spCommand_rg ?_ ?_ ?_
    | with_reducible refine State.spAnswer_rg ?_ ?_
    | with_reducible refine State.readmit_rg ?_ ?_
    | with_reducible refine Rg.ite ?_ ?_
    | intro _ _
    | split)

theorem execLossClear_rg {msk : Nat} {b₀ : State} {s : State} (h₀ : Rg msk b₀ s) (hm₀ : 96107167241834975113312584178489302142293605564759693427124461265506187279618035792270848362015106478281996792329804509834690174178734534122652396510324524832 ||| msk = msk) :
    RgO msk b₀ (execLossClear s) := by
  refine RgO.step h₀ ?_ hm₀
  clear h₀ hm₀
  unfold execLossClear
  try dsimp only
  repeat' (first
    | with_reducible exact Rg.refl _ _
    | with_reducible assumption
    | exact (rfl : (_ : Nat) = _)
    | with_reducible refine State.spCommand_rg ?_ ?_ ?_
    | with_reducible refine State.spAnswer_rg ?_ ?_
    | with_reducible refine State.setPool_rg ?_ ?_
    | intro _ _
    | split)

end Sys2Proof.Machine
end

