-- ==== Sys2Proof/Laws/RgRma.lean ====
section
/-! SUPPORT. Register frames of the operations of Machine.Rma: the registers that each may write. -/

set_option maxRecDepth 20000
set_option Elab.async false
set_option linter.unusedTactic false
set_option linter.unreachableTactic false
set_option linter.unusedVariables false

namespace Sys2Proof.Machine

theorem execGsiTxProdWrite_rg {msk : Nat} {b₀ : State} {v : Nat} {s : State} (h₀ : Rg msk b₀ s) (hm₀ : 96107167241834975113312584178489302142293605564759693426004588894417285174339314651986626222954283729664672024879809959355452694580223893178021263995081656096 ||| msk = msk) :
    RgO msk b₀ (execGsiTxProdWrite v s) := by
  refine RgO.step h₀ ?_ hm₀
  clear h₀ hm₀
  unfold execGsiTxProdWrite
  try dsimp only
  repeat' (first
    | with_reducible exact Rg.refl _ _
    | with_reducible assumption
    | exact (rfl : (_ : Nat) = _)
    | with_reducible refine State.pageWrite_rg ?_ ?_ ?_
    | with_reducible refine State.wrN_rg ?_ ?_
    | with_reducible refine in_GSI_TX_PROD ?_
    | exact (rfl : (_ : Bool) = _)
    | with_reducible refine RgO.next ?_
    | intro _ _)

theorem execEthModeWrite_rg {msk : Nat} {b₀ : State} {n : Nat} {v : Word} {s : State} (h₀ : Rg msk b₀ s) (hm₀ : 96107167241834975113312584178489302142293605564759693426004588894417285174339314651986626222954283729664672024879809959352794238589273031451856340011970529056 ||| msk = msk) :
    RgO msk b₀ (execEthModeWrite n v s) := by
  refine RgO.step h₀ ?_ hm₀
  clear h₀ hm₀
  unfold execEthModeWrite
  try dsimp only
  repeat' (first
    | with_reducible exact Rg.refl _ _
    | with_reducible assumption
    | exact (rfl : (_ : Nat) = _)
    | with_reducible refine State.pageWrite_rg ?_ ?_ ?_
    | with_reducible refine State.writeDiscarded_rg ?_ ?_
    | with_reducible refine State.putFld_rg ?_ ?_
    | with_reducible refine in_ETH_MODE ?_
    | exact (rfl : (_ : Bool) = _)
    | with_reducible refine Rg.ite ?_ ?_
    | with_reducible refine RgO.next ?_
    | intro _ _
    | split
    | refine Rg.mk' ?_)

theorem execPfcStorm_rg {msk : Nat} {b₀ : State} {lport : Nat} {s : State} (h₀ : Rg msk b₀ s) (hm₀ : 6490371073168534535663120411525152 ||| msk = msk) :
    RgO msk b₀ (execPfcStorm lport s) := by
  refine RgO.step h₀ ?_ hm₀
  clear h₀ hm₀
  unfold execPfcStorm
  try dsimp only
  repeat' (first
    | with_reducible exact Rg.refl _ _
    | exact (rfl : (_ : Nat) = _)
    | with_reducible refine State.evPost_rg ?_ ?_
    | with_reducible refine State.event_rg ?_ ?_
    | with_reducible refine RgO.next ?_)

theorem State.rmaEnd_rg {msk : Nat} {b₀ : State} {s : State} (h₀ : Rg msk b₀ s) (hm₀ : 81129638414606681695789005144096 ||| msk = msk) :
    Rg msk b₀ (State.rmaEnd s) := by
  refine Rg.step h₀ ?_ hm₀
  clear h₀ hm₀
  unfold State.rmaEnd
  try dsimp only
  repeat' (first
    | with_reducible exact Rg.refl _ _
    | exact (rfl : (_ : Nat) = _)
    | with_reducible refine State.event_rg ?_ ?_
    | with_reducible refine State.wrN_rg ?_ ?_
    | with_reducible refine in_RMA_CMD_STATUS ?_
    | exact (rfl : (_ : Bool) = _)
    | refine Rg.mk' ?_)

theorem State.rmaDone_rg {msk : Nat} {b₀ : State} {s : State} {status : Nat} (h₀ : Rg msk b₀ s) (hm₀ : 81129638414606681695789005144096 ||| msk = msk) :
    Rg msk b₀ (State.rmaDone s status) := by
  refine Rg.step h₀ ?_ hm₀
  clear h₀ hm₀
  unfold State.rmaDone
  try dsimp only
  repeat' (first
    | with_reducible exact Rg.refl _ _
    | exact (rfl : (_ : Nat) = _)
    | with_reducible refine State.event_rg ?_ ?_
    | with_reducible refine State.wrN_rg ?_ ?_
    | with_reducible refine in_RMA_CMD_STATUS ?_
    | exact (rfl : (_ : Bool) = _))

theorem State.rmaCommand_rg {msk : Nat} {b₀ : State} {s : State} {f : State → State} (hf : ∀ t0, Rg msk b₀ t0 → Rg msk b₀ (f t0)) (h₀ : Rg msk b₀ s) (hm₀ : 96107167241834975113312584178489302142293605564759693426004588894417285174339314651986626222954283729664672024879809959352794238588654061432213649874520966944 ||| msk = msk) :
    RgO msk b₀ (State.rmaCommand s f) := by
  unfold State.rmaCommand
  try dsimp only
  repeat' (first
    | with_reducible assumption
    | with_reducible refine State.raise_rg ?_ ?_
    | with_reducible refine hf _ ?_
    | with_reducible refine Rg.ite ?_ ?_
    | with_reducible refine RgO.next ?_)

theorem State.rmaWait_rg {msk : Nat} {b₀ : State} {s : State} {op : Nat} {obj : Nat} (h₀ : Rg msk b₀ s) (hm₀ : 81129638414606681695789005144064 ||| msk = msk) :
    Rg msk b₀ (State.rmaWait s op obj) := by
  refine Rg.step h₀ ?_ hm₀
  clear h₀ hm₀
  unfold State.rmaWait
  try dsimp only
  repeat' (first
    | with_reducible exact Rg.refl _ _
    | with_reducible refine State.wrN_rg ?_ ?_
    | with_reducible refine in_RMA_CMD_STATUS ?_
    | exact (rfl : (_ : Bool) = _)
    | refine Rg.mk' ?_)

theorem execMrDereg_rg {msk : Nat} {b₀ : State} {s : State} (h₀ : Rg msk b₀ s) (hm₀ : 96107167241834975113312584178489302142293605564759693426004588894417285174339314651986626222954283729664672024879809959352794319718292476038895345663526111008 ||| msk = msk) :
    RgO msk b₀ (execMrDereg s) := by
  refine RgO.step h₀ ?_ hm₀
  clear h₀ hm₀
  unfold execMrDereg
  try dsimp only
  repeat' (first
    | with_reducible exact Rg.refl _ _
    | with_reducible assumption
    | exact (rfl : (_ : Nat) = _)
    | with_reducible refine State.rmaCommand_rg ?_ ?_ ?_
    | with_reducible refine State.rmaDone_rg ?_ ?_
    | with_reducible refine State.rmaWait_rg ?_ ?_
    | with_reducible refine State.setMr_rg ?_ ?_
    | intro _ _
    | split)

theorem State.linkTold_rg {msk : Nat} {b₀ : State} {s : State} {lport : Nat} {up : Bool} (h₀ : Rg msk b₀ s) (hm₀ : 1237940039285380274899124224 ||| msk = msk) :
    Rg msk b₀ (State.linkTold s lport up) := by
  refine Rg.step h₀ ?_ hm₀
  clear h₀ hm₀
  unfold State.linkTold
  try dsimp only
  repeat' (first
    | with_reducible exact Rg.refl _ _
    | with_reducible refine State.putBit_rg ?_ ?_
    | with_reducible refine in_ETH_STATUS ?_
    | exact (rfl : (_ : Bool) = _)
    | refine Rg.mk' ?_)

theorem execEthLinkUp_rg {msk : Nat} {b₀ : State} {lport : Nat} {s : State} (h₀ : Rg msk b₀ s) (hm₀ : 1237940039285380274899124224 ||| msk = msk) :
    RgO msk b₀ (execEthLinkUp lport s) := by
  refine RgO.step h₀ ?_ hm₀
  clear h₀ hm₀
  unfold execEthLinkUp
  try dsimp only
  repeat' (first
    | with_reducible exact Rg.refl _ _
    | exact (rfl : (_ : Nat) = _)
    | with_reducible refine State.linkTold_rg ?_ ?_
    | with_reducible refine RgO.ite ?_ ?_
    | with_reducible refine RgO.next ?_)

theorem State.recsMoved_rg {msk : Nat} {b₀ : State} {s : State} {port : Nat} {dst : Option (Nat × Nat)} (h₀ : Rg msk b₀ s) (hm₀ : 0 ||| msk = msk) :
    Rg msk b₀ (State.recsMoved s port dst) := by
  refine Rg.step h₀ ?_ hm₀
  clear h₀ hm₀
  unfold State.recsMoved
  try dsimp only
  repeat' (first
    | with_reducible exact Rg.refl _ _
    | with_reducible assumption
    | exact (rfl : (_ : Nat) = _)
    | dsimp only
    | with_reducible refine Rg.ite ?_ ?_
    | with_reducible refine Rg.ite₁ ?_ ?_
    | with_reducible refine RgS.ite ?_ ?_
    | with_reducible refine RgP.ite ?_ ?_
    | with_reducible exact RgS.none
    | with_reducible refine RgS.some ?_
    | with_reducible refine RgS.map ?_
    | with_reducible exact RgP.none
    | with_reducible refine RgP.some ?_
    | with_reducible refine Rg.elim ?_ ?_
    | with_reducible refine Rg.foldl ?_ _ _ ?_
    | with_reducible refine Rg.foldl₂ ?_ _ _ ?_
    | intro _ _ _ _ _ _
    | intro _ _ _ _ _
    | intro _ _ _ _
    | intro _ _ _
    | intro _ _
    | intro _
    | with_reducible refine Rg.pair (h := ?_) (e := by assumption)
    | with_reducible refine RgO.got (h := ?_) (e := by assumption)
    | with_reducible refine RgS.get (h := ?_) (e := by assumption)
    | with_reducible refine RgP.get (h := ?_) (e := by assumption)
    | split
    | refine Rg.mk' ?_)

theorem State.memberDrop_rg {msk : Nat} {b₀ : State} {s : State} {q : Nat} (h₀ : Rg msk b₀ s) (hm₀ : 0 ||| msk = msk) :
    Rg msk b₀ (State.memberDrop s q) := by
  refine Rg.step h₀ ?_ hm₀
  clear h₀ hm₀
  unfold State.memberDrop
  try dsimp only
  repeat' (first
    | with_reducible exact Rg.refl _ _
    | with_reducible assumption
    | exact (rfl : (_ : Nat) = _)
    | with_reducible refine State.setQp_rg ?_ ?_
    | with_reducible refine State.recsMoved_rg ?_ ?_
    | with_reducible refine State.emit_rg ?_ ?_
    | dsimp only
    | with_reducible refine Rg.ite ?_ ?_
    | with_reducible refine Rg.ite₁ ?_ ?_
    | with_reducible refine RgS.ite ?_ ?_
    | with_reducible refine RgP.ite ?_ ?_
    | with_reducible exact RgS.none
    | with_reducible refine RgS.some ?_
    | with_reducible refine RgS.map ?_
    | with_reducible exact RgP.none
    | with_reducible refine RgP.some ?_
    | with_reducible refine Rg.elim ?_ ?_
    | with_reducible refine Rg.foldl ?_ _ _ ?_
    | with_reducible refine Rg.foldl₂ ?_ _ _ ?_
    | intro _ _ _ _ _ _
    | intro _ _ _ _ _
    | intro _ _ _ _
    | intro _ _ _
    | intro _ _
    | intro _
    | with_reducible refine Rg.pair (h := ?_) (e := by assumption)
    | with_reducible refine RgO.got (h := ?_) (e := by assumption)
    | with_reducible refine RgS.get (h := ?_) (e := by assumption)
    | with_reducible refine RgP.get (h := ?_) (e := by assumption)
    | split)

theorem State.portTell_rg {msk : Nat} {b₀ : State} {s : State} (h₀ : Rg msk b₀ s) (hm₀ : 6490371073168534535663120411525152 ||| msk = msk) :
    Rg msk b₀ (State.portTell s) := by
  refine Rg.step h₀ ?_ hm₀
  clear h₀ hm₀
  unfold State.portTell
  try dsimp only
  repeat' (first
    | with_reducible exact Rg.refl _ _
    | with_reducible assumption
    | exact (rfl : (_ : Nat) = _)
    | with_reducible refine State.evPost_rg ?_ ?_
    | with_reducible refine State.event_rg ?_ ?_
    | with_reducible refine Rg.foldl ?_ _ _ ?_
    | intro _ _ _
    | refine Rg.mk' ?_)

theorem execMrPlacementDrained_rg {msk : Nat} {b₀ : State} {s : State} (h₀ : Rg msk b₀ s) (hm₀ : 81129638414606681695789005144096 ||| msk = msk) :
    RgO msk b₀ (execMrPlacementDrained s) := by
  refine RgO.step h₀ ?_ hm₀
  clear h₀ hm₀
  unfold execMrPlacementDrained
  try dsimp only
  repeat' (first
    | with_reducible exact Rg.refl _ _
    | exact (rfl : (_ : Nat) = _)
    | with_reducible refine State.rmaEnd_rg ?_ ?_
    | with_reducible refine State.setMr_rg ?_ ?_
    | with_reducible refine Rg.ite ?_ ?_
    | with_reducible refine RgO.next ?_
    | split)

theorem State.filterPasses_rg {msk : Nat} {b₀ : State} {s : State} {d : Datagram} {bad : List Nat} (h₀ : Rg msk b₀ s) (hm₀ : 96107167241834975113312584178489302142293605564759693426004588894417285174339314651986626222954283729664839641579592165946677182794748626499171949466009800480 ||| msk = msk) :
    Rg msk b₀ (State.filterPasses s d bad).1 := by
  refine Rg.step h₀ ?_ hm₀
  clear h₀ hm₀
  unfold State.filterPasses
  try dsimp only
  repeat' (first
    | with_reducible exact Rg.refl _ _
    | with_reducible assumption
    | exact (rfl : (_ : Nat) = _)
    | with_reducible refine State.camFound_rg ?_ ?_
    | with_reducible refine State.countSearch_rg ?_ ?_
    | dsimp only
    | with_reducible refine Rg.ite ?_ ?_
    | with_reducible refine Rg.ite₁ ?_ ?_
    | with_reducible refine RgS.ite ?_ ?_
    | with_reducible refine RgP.ite ?_ ?_
    | with_reducible exact RgS.none
    | with_reducible refine RgS.some ?_
    | with_reducible refine RgS.map ?_
    | with_reducible exact RgP.none
    | with_reducible refine RgP.some ?_
    | with_reducible refine Rg.elim ?_ ?_
    | with_reducible refine Rg.foldl ?_ _ _ ?_
    | with_reducible refine Rg.foldl₂ ?_ _ _ ?_
    | intro _ _ _ _ _ _
    | intro _ _ _ _ _
    | intro _ _ _ _
    | intro _ _ _
    | intro _ _
    | intro _
    | with_reducible refine Rg.pair (h := ?_) (e := by assumption)
    | with_reducible refine RgO.got (h := ?_) (e := by assumption)
    | with_reducible refine RgS.get (h := ?_) (e := by assumption)
    | with_reducible refine RgP.get (h := ?_) (e := by assumption)
    | split)

theorem execQp1DatagramRx_rg {msk : Nat} {b₀ : State} {d : Datagram} {bad : List Nat} {s : State} (h₀ : Rg msk b₀ s) (hm₀ : 96107167241834975113312584178489302142293605564759693426004588894417285174339314651986626222954283729665605889350025110376693614176762522046081861560188342048 ||| msk = msk) :
    RgO msk b₀ (execQp1DatagramRx d bad s) := by
  refine RgO.step h₀ ?_ hm₀
  clear h₀ hm₀
  unfold execQp1DatagramRx
  try dsimp only
  repeat' (first
    | with_reducible exact Rg.refl _ _
    | with_reducible assumption
    | exact (rfl : (_ : Nat) = _)
    | with_reducible refine State.filterPasses_rg ?_ ?_
    | with_reducible refine State.count_rg ?_ ?_
    | with_reducible refine State.evPost_rg ?_ ?_
    | with_reducible refine State.wrN_rg ?_ ?_
    | with_reducible refine State.emit_rg ?_ ?_
    | with_reducible refine State.event_rg ?_ ?_
    | with_reducible refine in_FLT_DROPS ?_
    | with_reducible refine in_GSI_PROD ?_
    | with_reducible refine in_GSI_RX_DROP ?_
    | with_reducible refine InSet.ite ?_ ?_
    | exact (rfl : (_ : Bool) = _)
    | dsimp only
    | with_reducible refine Rg.ite ?_ ?_
    | with_reducible refine Rg.ite₁ ?_ ?_
    | with_reducible refine RgO.ite ?_ ?_
    | with_reducible refine RgS.ite ?_ ?_
    | with_reducible refine RgP.ite ?_ ?_
    | with_reducible refine RgO.next ?_
    | with_reducible exact RgS.none
    | with_reducible refine RgS.some ?_
    | with_reducible refine RgS.map ?_
    | with_reducible exact RgP.none
    | with_reducible refine RgP.some ?_
    | with_reducible refine Rg.elim ?_ ?_
    | with_reducible refine Rg.foldl ?_ _ _ ?_
    | with_reducible refine Rg.foldl₂ ?_ _ _ ?_
    | intro _ _ _ _ _ _
    | intro _ _ _ _ _
    | intro _ _ _ _
    | intro _ _ _
    | intro _ _
    | intro _
    | with_reducible refine Rg.pair (h := ?_) (e := by assumption)
    | with_reducible refine RgO.got (h := ?_) (e := by assumption)
    | with_reducible refine RgS.get (h := ?_) (e := by assumption)
    | with_reducible refine RgP.get (h := ?_) (e := by assumption)
    | split
    | refine Rg.mk' ?_)

theorem State.qpGone_rg {msk : Nat} {b₀ : State} {s : State} {q : Nat} (h₀ : Rg msk b₀ s) (hm₀ : 42535295865117307932921825928971026432 ||| msk = msk) :
    Rg msk b₀ (State.qpGone s q) := by
  refine Rg.step h₀ ?_ hm₀
  clear h₀ hm₀
  unfold State.qpGone
  try dsimp only
  repeat' (first
    | with_reducible exact Rg.refl _ _
    | with_reducible refine State.wrN_rg ?_ ?_
    | with_reducible refine in_CTX_FREE_NET ?_
    | exact (rfl : (_ : Bool) = _)
    | refine Rg.mk' ?_)

theorem State.txAdvance_rg {msk : Nat} {b₀ : State} {s : State} (h₀ : Rg msk b₀ s) (hm₀ : 5316911983139663491615228241121378336 ||| msk = msk) :
    Rg msk b₀ (State.txAdvance s) := by
  refine Rg.step h₀ ?_ hm₀
  clear h₀ hm₀
  unfold State.txAdvance
  try dsimp only
  repeat' (first
    | with_reducible exact Rg.refl _ _
    | exact (rfl : (_ : Nat) = _)
    | with_reducible refine State.wrN_rg ?_ ?_
    | with_reducible refine State.event_rg ?_ ?_
    | with_reducible refine in_GSI_TX_CONS ?_
    | exact (rfl : (_ : Bool) = _)
    | with_reducible refine Rg.ite ?_ ?_
    | refine Rg.mk' ?_)

theorem execGsiTxSend_rg {msk : Nat} {b₀ : State} {e : TxEntry} {s : State} (h₀ : Rg msk b₀ s) (hm₀ : 15950735949418990474845684723364134944 ||| msk = msk) :
    RgO msk b₀ (execGsiTxSend e s) := by
  refine RgO.step h₀ ?_ hm₀
  clear h₀ hm₀
  unfold execGsiTxSend
  try dsimp only
  repeat' (first
    | with_reducible exact Rg.refl _ _
    | exact (rfl : (_ : Nat) = _)
    | with_reducible refine State.emit_rg ?_ ?_
    | with_reducible refine State.txAdvance_rg ?_ ?_
    | with_reducible refine State.count_rg ?_ ?_
    | with_reducible refine in_GSI_TX_BAD ?_
    | exact (rfl : (_ : Bool) = _)
    | with_reducible refine Rg.ite ?_ ?_
    | with_reducible refine RgO.ite ?_ ?_
    | with_reducible refine RgO.next ?_
    | refine Rg.mk' ?_)

theorem execEthLinkDown_rg {msk : Nat} {b₀ : State} {lport : Nat} {s : State} (h₀ : Rg msk b₀ s) (hm₀ : 1237940039285380274899124224 ||| msk = msk) :
    RgO msk b₀ (execEthLinkDown lport s) := by
  refine RgO.step h₀ ?_ hm₀
  clear h₀ hm₀
  unfold execEthLinkDown
  try dsimp only
  repeat' (first
    | with_reducible exact Rg.refl _ _
    | with_reducible assumption
    | exact (rfl : (_ : Nat) = _)
    | with_reducible refine State.linkTold_rg ?_ ?_
    | with_reducible refine State.memberDrop_rg ?_ ?_
    | with_reducible refine RgO.ite ?_ ?_
    | with_reducible refine RgO.next ?_
    | with_reducible refine Rg.foldl ?_ _ _ ?_
    | intro _ _ _)

theorem execKatoExpired_rg {msk : Nat} {b₀ : State} {ctrl : Nat} {s : State} (h₀ : Rg msk b₀ s) (hm₀ : 10889042234376405199818981903930400702496 ||| msk = msk) :
    RgO msk b₀ (execKatoExpired ctrl s) := by
  refine RgO.step h₀ ?_ hm₀
  clear h₀ hm₀
  unfold execKatoExpired
  try dsimp only
  repeat' (first
    | with_reducible exact Rg.refl _ _
    | with_reducible assumption
    | exact (rfl : (_ : Nat) = _)
    | with_reducible refine State.evPost_rg ?_ ?_
    | with_reducible refine State.qpError_rg ?_ ?_
    | with_reducible refine RgO.next ?_
    | with_reducible refine Rg.foldl ?_ _ _ ?_
    | intro _ _ _
    | split)

theorem State.fabricsRun_rg {msk : Nat} {b₀ : State} {s : State} {n : Nat} {op : HostOp} {f : State → Nat → Qp → State} (hf : ∀ t0 t1 t2, Rg msk b₀ t0 → Rg msk b₀ (f t0 t1 t2)) (h₀ : Rg msk b₀ s) (hm₀ : 0 ||| msk = msk) :
    RgO msk b₀ (State.fabricsRun s n op f) := by
  unfold State.fabricsRun
  try dsimp only
  repeat' (first
    | with_reducible assumption
    | with_reducible refine hf _ _ _ ?_
    | with_reducible refine RgO.ite ?_ ?_
    | with_reducible refine RgO.next ?_
    | split)

theorem execFabricsDisconnect_rg {msk : Nat} {b₀ : State} {n : Nat} {s : State} (h₀ : Rg msk b₀ s) (hm₀ : 143343663499379469475676305956380433800627810156366027727182646684513172681765524608805055475647963465760 ||| msk = msk) :
    RgO msk b₀ (execFabricsDisconnect n s) := by
  refine RgO.step h₀ ?_ hm₀
  clear h₀ hm₀
  unfold execFabricsDisconnect
  try dsimp only
  repeat' (first
    | with_reducible exact Rg.refl _ _
    | with_reducible assumption
    | exact (rfl : (_ : Nat) = _)
    | with_reducible refine State.fabricsRun_rg ?_ ?_ ?_
    | with_reducible refine State.complete_rg ?_ ?_
    | with_reducible refine State.setCtrl_rg ?_ ?_
    | with_reducible refine Rg.ite ?_ ?_
    | intro _ _ _ _
    | split
    | refine Rg.mk' ?_)

theorem execMrReg_rg {msk : Nat} {b₀ : State} {index : Nat} {s : State} (h₀ : Rg msk b₀ s) (hm₀ : 96107167241834975113312584178489302142293605564759693426004588894417285174339314651986626222954283729664672024879809959352794481977569305252258737241536399136 ||| msk = msk) :
    RgO msk b₀ (execMrReg index s) := by
  refine RgO.step h₀ ?_ hm₀
  clear h₀ hm₀
  unfold execMrReg
  try dsimp only
  repeat' (first
    | with_reducible exact Rg.refl _ _
    | with_reducible assumption
    | exact (rfl : (_ : Nat) = _)
    | with_reducible refine State.rmaCommand_rg ?_ ?_ ?_
    | with_reducible refine State.rmaDone_rg ?_ ?_
    | with_reducible refine State.wrN_rg ?_ ?_
    | with_reducible refine State.setMr_rg ?_ ?_
    | with_reducible refine in_RMA_RESULT ?_
    | exact (rfl : (_ : Bool) = _)
    | with_reducible refine Rg.ite ?_ ?_
    | intro _ _)

theorem execQpDestroy_rg {msk : Nat} {b₀ : State} {s : State} (h₀ : Rg msk b₀ s) (hm₀ : 96107167241834975113312584178489302142293605564759693426004588894417285174339314651986626222954283729664672024879809970284365359588741815256263412402486314784 ||| msk = msk) :
    RgO msk b₀ (execQpDestroy s) := by
  refine RgO.step h₀ ?_ hm₀
  clear h₀ hm₀
  unfold execQpDestroy
  try dsimp only
  repeat' (first
    | with_reducible exact Rg.refl _ _
    | with_reducible assumption
    | exact (rfl : (_ : Nat) = _)
    | with_reducible refine State.rmaCommand_rg ?_ ?_ ?_
    | with_reducible refine State.rmaDone_rg ?_ ?_
    | with_reducible refine State.qpGone_rg ?_ ?_
    | with_reducible refine State.rmaWait_rg ?_ ?_
    | with_reducible refine State.missLeaveAll_rg ?_ ?_
    | with_reducible refine State.countBy_rg ?_ ?_
    | with_reducible refine State.setQp_rg ?_ ?_
    | with_reducible refine in_CTX_NAK_DISCARD ?_
    | with_reducible refine InSet.ite ?_ ?_
    | exact (rfl : (_ : Bool) = _)
    | dsimp only
    | with_reducible refine Rg.ite ?_ ?_
    | with_reducible refine Rg.ite₁ ?_ ?_
    | with_reducible refine RgO.ite ?_ ?_
    | with_reducible refine RgS.ite ?_ ?_
    | with_reducible refine RgP.ite ?_ ?_
    | with_reducible refine RgO.next ?_
    | with_reducible exact RgS.none
    | with_reducible refine RgS.some ?_
    | with_reducible refine RgS.map ?_
    | with_reducible exact RgP.none
    | with_reducible refine RgP.some ?_
    | with_reducible refine Rg.elim ?_ ?_
    | with_reducible refine Rg.foldl ?_ _ _ ?_
    | with_reducible refine Rg.foldl₂ ?_ _ _ ?_
    | intro _ _ _ _ _ _
    | intro _ _ _ _ _
    | intro _ _ _ _
    | intro _ _ _
    | intro _ _
    | intro _
    | with_reducible refine Rg.pair (h := ?_) (e := by assumption)
    | with_reducible refine RgO.got (h := ?_) (e := by assumption)
    | with_reducible refine RgS.get (h := ?_) (e := by assumption)
    | with_reducible refine RgP.get (h := ?_) (e := by assumption)
    | split)

theorem execMrInval_rg {msk : Nat} {b₀ : State} {s : State} (h₀ : Rg msk b₀ s) (hm₀ : 96107167241834975113312584178489302142293605564759693426004588894417285174339314651986626222954283729664672024879809959352794319718292476038895345663526111008 ||| msk = msk) :
    RgO msk b₀ (execMrInval s) := by
  refine RgO.step h₀ ?_ hm₀
  clear h₀ hm₀
  unfold execMrInval
  try dsimp only
  repeat' (first
    | with_reducible exact Rg.refl _ _
    | with_reducible assumption
    | exact (rfl : (_ : Nat) = _)
    | with_reducible refine State.rmaCommand_rg ?_ ?_ ?_
    | with_reducible refine State.rmaDone_rg ?_ ?_
    | with_reducible refine State.rmaWait_rg ?_ ?_
    | with_reducible refine State.rotateKey_rg ?_ ?_
    | intro _ _
    | split)

theorem State.pauseRx_rg {msk : Nat} {b₀ : State} {s : State} {p : Nat} {vector : Nat} {stop : Nat} (h₀ : Rg msk b₀ s) (hm₀ : 1237940039285380274899124224 ||| msk = msk) :
    Rg msk b₀ (State.pauseRx s p vector stop) := by
  refine Rg.step h₀ ?_ hm₀
  clear h₀ hm₀
  unfold State.pauseRx
  try dsimp only
  repeat' (first
    | with_reducible exact Rg.refl _ _
    | with_reducible assumption
    | exact (rfl : (_ : Nat) = _)
    | with_reducible refine State.putBit_rg ?_ ?_
    | with_reducible refine in_ETH_STATUS ?_
    | with_reducible refine InSet.ite ?_ ?_
    | exact (rfl : (_ : Bool) = _)
    | dsimp only
    | with_reducible refine Rg.ite ?_ ?_
    | with_reducible refine Rg.ite₁ ?_ ?_
    | with_reducible refine RgS.ite ?_ ?_
    | with_reducible refine RgP.ite ?_ ?_
    | with_reducible exact RgS.none
    | with_reducible refine RgS.some ?_
    | with_reducible refine RgS.map ?_
    | with_reducible exact RgP.none
    | with_reducible refine RgP.some ?_
    | with_reducible refine Rg.elim ?_ ?_
    | with_reducible refine Rg.foldl ?_ _ _ ?_
    | with_reducible refine Rg.foldl₂ ?_ _ _ ?_
    | intro _ _ _ _ _ _
    | intro _ _ _ _ _
    | intro _ _ _ _
    | intro _ _ _
    | intro _ _
    | intro _
    | with_reducible refine Rg.pair (h := ?_) (e := by assumption)
    | with_reducible refine RgO.got (h := ?_) (e := by assumption)
    | with_reducible refine RgS.get (h := ?_) (e := by assumption)
    | with_reducible refine RgP.get (h := ?_) (e := by assumption)
    | split
    | refine Rg.mk' ?_)

theorem execFecDegrade_rg {msk : Nat} {b₀ : State} {lport : Nat} {lane : Nat} {count : Nat} {s : State} (h₀ : Rg msk b₀ s) (hm₀ : 96107167241834975113312584178489302142293605564759693426004588894417285174339314651986626222954283729664672024879809959352800729276639880023806663369108293408 ||| msk = msk) :
    RgO msk b₀ (execFecDegrade lport lane count s) := by
  refine RgO.step h₀ ?_ hm₀
  clear h₀ hm₀
  unfold execFecDegrade
  try dsimp only
  repeat' (first
    | with_reducible exact Rg.refl _ _
    | exact (rfl : (_ : Nat) = _)
    | with_reducible refine State.countBy_rg ?_ ?_
    | with_reducible refine State.evPost_rg ?_ ?_
    | with_reducible refine State.raise_rg ?_ ?_
    | with_reducible refine State.event_rg ?_ ?_
    | with_reducible refine in_ETH_FEC_UNCORR ?_
    | exact (rfl : (_ : Bool) = _)
    | with_reducible refine Rg.ite ?_ ?_
    | with_reducible refine RgO.next ?_)

theorem execQpDestroyDone_rg {msk : Nat} {b₀ : State} {s : State} (h₀ : Rg msk b₀ s) (hm₀ : 42535376994755722539603521717976170528 ||| msk = msk) :
    RgO msk b₀ (execQpDestroyDone s) := by
  refine RgO.step h₀ ?_ hm₀
  clear h₀ hm₀
  unfold execQpDestroyDone
  try dsimp only
  repeat' (first
    | with_reducible exact Rg.refl _ _
    | exact (rfl : (_ : Nat) = _)
    | with_reducible refine State.rmaEnd_rg ?_ ?_
    | with_reducible refine State.qpGone_rg ?_ ?_
    | with_reducible refine RgO.next ?_
    | split)

theorem execGsiTxPacketLeft_rg {msk : Nat} {b₀ : State} {i : Nat} {s : State} (h₀ : Rg msk b₀ s) (hm₀ : 5316911983139663491615228241121378336 ||| msk = msk) :
    RgO msk b₀ (execGsiTxPacketLeft i s) := by
  refine RgO.step h₀ ?_ hm₀
  clear h₀ hm₀
  unfold execGsiTxPacketLeft
  try dsimp only
  repeat' (first
    | with_reducible exact Rg.refl _ _
    | exact (rfl : (_ : Nat) = _)
    | with_reducible refine State.txAdvance_rg ?_ ?_
    | with_reducible refine RgO.next ?_
    | refine Rg.mk' ?_)

theorem execFabricsPropertyGet_rg {msk : Nat} {b₀ : State} {n : Nat} {off : Nat} {s : State} (h₀ : Rg msk b₀ s) (hm₀ : 143343663499379469475676305956380433800627810156366027727182646684513172681765524608805055475647963465760 ||| msk = msk) :
    RgO msk b₀ (execFabricsPropertyGet n off s) := by
  refine RgO.step h₀ ?_ hm₀
  clear h₀ hm₀
  unfold execFabricsPropertyGet
  try dsimp only
  repeat' (first
    | with_reducible exact Rg.refl _ _
    | with_reducible assumption
    | exact (rfl : (_ : Nat) = _)
    | with_reducible refine State.fabricsRun_rg ?_ ?_ ?_
    | with_reducible refine State.complete_rg ?_ ?_
    | with_reducible refine Rg.ite ?_ ?_
    | intro _ _ _ _
    | split)

theorem execQpModify_rg {msk : Nat} {b₀ : State} {s : State} (h₀ : Rg msk b₀ s) (hm₀ : 96107167241834975113312584178489302142293605564759693426004588894417285174339314651986626222954283729664672024879809970241830063723624507323341586473515288352 ||| msk = msk) :
    RgO msk b₀ (execQpModify s) := by
  refine RgO.step h₀ ?_ hm₀
  clear h₀ hm₀
  unfold execQpModify
  try dsimp only
  repeat' (first
    | with_reducible exact Rg.refl _ _
    | with_reducible assumption
    | exact (rfl : (_ : Nat) = _)
    | with_reducible refine State.rmaCommand_rg ?_ ?_ ?_
    | with_reducible refine State.rmaDone_rg ?_ ?_
    | with_reducible refine State.setQp_rg ?_ ?_
    | with_reducible refine State.qpError_rg ?_ ?_
    | with_reducible refine Rg.ite ?_ ?_
    | intro _ _)

theorem execFabricsPropertySet_rg {msk : Nat} {b₀ : State} {n : Nat} {off : Nat} {value : Nat} {s : State} (h₀ : Rg msk b₀ s) (hm₀ : 143343663499379469475676305956380433800627810156366027727182646684513172681765524608805055475647963465760 ||| msk = msk) :
    RgO msk b₀ (execFabricsPropertySet n off value s) := by
  refine RgO.step h₀ ?_ hm₀
  clear h₀ hm₀
  unfold execFabricsPropertySet
  try dsimp only
  repeat' (first
    | with_reducible exact Rg.refl _ _
    | with_reducible assumption
    | exact (rfl : (_ : Nat) = _)
    | with_reducible refine State.fabricsRun_rg ?_ ?_ ?_
    | with_reducible refine State.complete_rg ?_ ?_
    | with_reducible refine State.setCtrl_rg ?_ ?_
    | with_reducible refine Rg.ite ?_ ?_
    | intro _ _ _ _
    | split)

theorem execFabricsConnect_rg {msk : Nat} {b₀ : State} {n : Nat} {ctrl : Nat} {qid : Nat} {sqsize : Nat} {kato : Nat} {ns : List NsAtt} {s : State} (h₀ : Rg msk b₀ s) (hm₀ : 143343663499379469475676305956380433800627810156366027727182646684513172681765524608805055475647963465760 ||| msk = msk) :
    RgO msk b₀ (execFabricsConnect n ctrl qid sqsize kato ns s) := by
  refine RgO.step h₀ ?_ hm₀
  clear h₀ hm₀
  unfold execFabricsConnect
  try dsimp only
  repeat' (first
    | with_reducible exact Rg.refl _ _
    | with_reducible assumption
    | exact (rfl : (_ : Nat) = _)
    | with_reducible refine State.fabricsRun_rg ?_ ?_ ?_
    | with_reducible refine State.complete_rg ?_ ?_
    | with_reducible refine State.setCtrl_rg ?_ ?_
    | with_reducible refine Rg.ite ?_ ?_
    | intro _ _ _ _
    | split
    | refine Rg.mk' ?_)

theorem execEthFrameRx_rg {msk : Nat} {b₀ : State} {lport : Nat} {f : EthFrame} {len : Nat} {corrected : Nat} {s : State} (h₀ : Rg msk b₀ s) (hm₀ : 96107167241834975113312584178489302142293605564759693426004588894417285174339314651986626222954283729664672024879809959352794240649824226842371807581562799904 ||| msk = msk) :
    RgO msk b₀ (execEthFrameRx lport f len corrected s) := by
  refine RgO.step h₀ ?_ hm₀
  clear h₀ hm₀
  unfold execEthFrameRx
  try dsimp only
  repeat' (first
    | with_reducible exact Rg.refl _ _
    | with_reducible assumption
    | exact (rfl : (_ : Nat) = _)
    | with_reducible refine State.countBy_rg ?_ ?_
    | with_reducible refine State.count_rg ?_ ?_
    | with_reducible refine State.raise_rg ?_ ?_
    | with_reducible refine State.pauseRx_rg ?_ ?_
    | with_reducible refine in_ETH_FEC_CORR ?_
    | with_reducible refine in_ETH_ICRC_ERR ?_
    | with_reducible refine in_ETH_RX_OTHER ?_
    | with_reducible refine InSet.ite ?_ ?_
    | exact (rfl : (_ : Bool) = _)
    | dsimp only
    | with_reducible refine Rg.ite ?_ ?_
    | with_reducible refine Rg.ite₁ ?_ ?_
    | with_reducible refine RgO.ite ?_ ?_
    | with_reducible refine RgS.ite ?_ ?_
    | with_reducible refine RgP.ite ?_ ?_
    | with_reducible refine RgO.next ?_
    | with_reducible exact RgS.none
    | with_reducible refine RgS.some ?_
    | with_reducible refine RgS.map ?_
    | with_reducible exact RgP.none
    | with_reducible refine RgP.some ?_
    | with_reducible refine Rg.elim ?_ ?_
    | with_reducible refine Rg.foldl ?_ _ _ ?_
    | with_reducible refine Rg.foldl₂ ?_ _ _ ?_
    | intro _ _ _ _ _ _
    | intro _ _ _ _ _
    | intro _ _ _ _
    | intro _ _ _
    | intro _ _
    | intro _
    | with_reducible refine Rg.pair (h := ?_) (e := by assumption)
    | with_reducible refine RgO.got (h := ?_) (e := by assumption)
    | with_reducible refine RgS.get (h := ?_) (e := by assumption)
    | with_reducible refine RgP.get (h := ?_) (e := by assumption)
    | split)

theorem execQpCreate_rg {msk : Nat} {b₀ : State} {qpn : Nat} {s : State} (h₀ : Rg msk b₀ s) (hm₀ : 96107167241834975113312584178489302142293605564759693426004588894417285174339314651986626222954283729664672024879809960756459245526440467038678992897580271392 ||| msk = msk) :
    RgO msk b₀ (execQpCreate qpn s) := by
  refine RgO.step h₀ ?_ hm₀
  clear h₀ hm₀
  unfold execQpCreate
  try dsimp only
  repeat' (first
    | with_reducible exact Rg.refl _ _
    | with_reducible assumption
    | exact (rfl : (_ : Nat) = _)
    | with_reducible refine State.rmaCommand_rg ?_ ?_ ?_
    | with_reducible refine State.rmaDone_rg ?_ ?_
    | with_reducible refine State.wrN_rg ?_ ?_
    | with_reducible refine State.ctxInstall_rg ?_ ?_
    | with_reducible refine in_CTX_FREE_NET ?_
    | with_reducible refine in_RMA_RESULT ?_
    | exact (rfl : (_ : Bool) = _)
    | with_reducible refine Rg.ite ?_ ?_
    | intro _ _
    | refine Rg.mk' ?_)

end Sys2Proof.Machine
end

