-- ==== Sys2Proof/Laws/RgRws.lean ====
section
/-! SUPPORT. Register frames of the operations of Machine.Rws: the registers that each may write. -/

set_option maxRecDepth 20000
set_option Elab.async false
set_option linter.unusedTactic false
set_option linter.unreachableTactic false
set_option linter.unusedVariables false

namespace Sys2Proof.Machine

theorem State.oversubscribed_rg {msk : Nat} {b₀ : State} {s : State} (h₀ : Rg msk b₀ s) (hm₀ : 32 ||| msk = msk) :
    Rg msk b₀ (State.oversubscribed s) := by
  refine Rg.step h₀ ?_ hm₀
  clear h₀ hm₀
  unfold State.oversubscribed
  try dsimp only
  repeat' (first
    | with_reducible exact Rg.refl _ _
    | exact (rfl : (_ : Nat) = _)
    | with_reducible refine State.event_rg ?_ ?_
    | with_reducible refine Rg.ite ?_ ?_)

theorem State.patPeriod_rg {msk : Nat} {b₀ : State} {s : State} {old : Word} {new : Word} (h₀ : Rg msk b₀ s) (hm₀ : 0 ||| msk = msk) :
    Rg msk b₀ (State.patPeriod s old new) := by
  refine Rg.step h₀ ?_ hm₀
  clear h₀ hm₀
  unfold State.patPeriod
  try dsimp only
  repeat' (first
    | with_reducible exact Rg.refl _ _
    | exact (rfl : (_ : Nat) = _)
    | with_reducible refine State.setPatrol_rg ?_ ?_)

/-- A field outside its range keeps the old word's field, so the old word is kept whole. -/
theorem hold_self (w : Word) (ls : List Limit) : ls.foldl (Limit.hold w) w = w := by
  induction ls with
  | nil => rfl
  | cons l ls ih =>
    rw [List.foldl_cons]
    have : Limit.hold w w l = w := by
      unfold Limit.hold
      split
      · rfl
      · exact putFld_self w l.lo l.width
    rw [this, ih]

theorem rwsMask_zero (hi : Bool) : rwsMask hi 0 = 0 := by cases hi <;> rfl

theorem State.rwsOne_rg {msk : Nat} {b₀ s : State} {row : RegRow} {kind : PageKind} {hi : Bool} {k : Nat} {v : Word}
    (hk : row.rws ≠ 0 → InSet msk k) (h₀ : Rg msk b₀ s) (hm₀ : 7198358178436356047471974924881749463493657682888631372654634920767834546359554931825117084392448325723603121685658312007092578483029468156475056503034136689182496 ||| msk = msk) :
    Rg msk b₀ (State.rwsOne s row kind hi k v) := by
  unfold State.rwsOne
  dsimp only
  have hw : ∀ ls : List Limit, Rg msk b₀
      (s.wr k (ls.foldl (Limit.hold (s.rd k)) ((s.rd k &&& ~~~(rwsMask hi row.rws)) ||| (v &&& rwsMask hi row.rws)))) := by
    intro ls
    by_cases h : row.rws = 0
    · refine ⟨fun j hj => ?_⟩
      rw [h, rwsMask_zero]
      have : s.rd k &&& ~~~(0 : Word) ||| v &&& 0 = s.rd k := by
        have e : ~~~(0 : Word) = BitVec.allOnes 32 := rfl
        rw [e, BitVec.and_allOnes]; simp
      rw [this, hold_self, State.rd_wr_self]
      exact h₀.rd j hj
    · exact State.wr_rg h₀ (hk h)
  repeat' (first
    | with_reducible assumption
    | with_reducible exact hw _
    | exact Rg.sub rfl hm₀
    | with_reducible refine State.raise_rg ?_ ?_
    | with_reducible refine State.patPeriod_rg ?_ ?_
    | with_reducible refine Rg.ite ?_ ?_)

theorem softKey_of {k : Nat} {r : PageRow} {p : Nat} {row : RegRow} {x : Nat} {hi : Bool} (h₁ : pageAt (k % 0x1000000) = some (r, p))
    (h₂ : rowAt r (k % 0x1000) = some (row, x, hi)) (h : row.rw ||| row.rws ||| row.w1c ||| row.rc ≠ 0) : softKey k = true := by
  unfold softKey
  rw [h₁]
  dsimp only
  rw [h₂]
  exact decide_eq_true h

theorem State.rwsReg_rg {msk : Nat} {b₀ s : State} {refused : List Nat} {k : Nat} {v : Word} (h₀ : Rg msk b₀ s)
    (hm₀ : 7198358178436356047471974924881749463493657682888631372654634920767834546359554931825117084392448325723603121685658312007092578483029468156475056503034136689182496 ||| msk = msk) : Rg msk b₀ (State.rwsReg s refused k v) := by
  refine Rg.step h₀ ?_ hm₀
  clear h₀ hm₀
  unfold State.rwsReg
  split
  · exact Rg.refl _ _
  · next r p h₁ =>
    split
    · exact Rg.refl _ _
    · next row x hi h₂ =>
      refine Rg.ite (Rg.refl _ _) (State.rwsOne_rg (fun h => in_soft (softKey_of h₁ h₂ ?_) rfl) (Rg.refl _ _) rfl)
      simp only [ne_eq, Nat.or_eq_zero_iff]
      exact fun e => h e.1.1.2

theorem State.rwsApply_rg {msk : Nat} {b₀ : State} {s : State} {p : Nat} (h₀ : Rg msk b₀ s) (hm₀ : 7198358178436356047471974924881749463493657682888631372654634920767834546359554931825117084392448325723603121685658312007092578483029468156475056503034136689182520 ||| msk = msk) :
    Rg msk b₀ (State.rwsApply s p) := by
  refine Rg.step h₀ ?_ hm₀
  clear h₀ hm₀
  unfold State.rwsApply
  try dsimp only
  repeat' (first
    | with_reducible exact Rg.refl _ _
    | with_reducible assumption
    | exact (rfl : (_ : Nat) = _)
    | with_reducible refine State.rwsReg_rg ?_ ?_
    | with_reducible refine State.event_rg ?_ ?_
    | with_reducible refine State.putBit_rg ?_ ?_
    | with_reducible refine State.oversubscribed_rg ?_ ?_
    | with_reducible refine in_PG_CTRL ?_
    | with_reducible refine in_PG_STATE ?_
    | exact (rfl : (_ : Bool) = _)
    | with_reducible refine Rg.ite ?_ ?_
    | with_reducible refine Rg.foldl ?_ _ _ ?_
    | intro _ _ _
    | refine Rg.mk' ?_)

end Sys2Proof.Machine
end

