-- ==== Sys2Proof/Laws/RgStudbook.lean ====
section
/-! SUPPORT. Register frames of the operations of Machine.Studbook: the registers that each may write. -/

set_option maxRecDepth 20000
set_option Elab.async false
set_option linter.unusedTactic false
set_option linter.unreachableTactic false
set_option linter.unusedVariables false

namespace Sys2Proof.Machine

theorem execStudbookFlush_rg {msk : Nat} {b₀ : State} {s : State} (h₀ : Rg msk b₀ s) (hm₀ : 195109284394749514461349826862072894109287383916560696928697309976585733676235351257519131441468248197489183195087913930965498479955517831643136 ||| msk = msk) :
    RgO msk b₀ (execStudbookFlush s) := by
  refine RgO.step h₀ ?_ hm₀
  clear h₀ hm₀
  unfold execStudbookFlush
  try dsimp only
  repeat' (first
    | with_reducible exact Rg.refl _ _
    | exact (rfl : (_ : Nat) = _)
    | with_reducible refine State.startFlush_rg ?_ ?_
    | with_reducible refine Rg.ite ?_ ?_
    | with_reducible refine RgO.next ?_)

theorem State.fillWin_rg {msk : Nat} {b₀ : State} {s : State} {x1 : Nat} {x2 : List Byte} (h₀ : Rg msk b₀ s) (hm₀ : 399583814440447005616844445413525287135820562261116307309972090832047582568929999375399181192126972308457847183540047730617340886948900519205142528 ||| msk = msk) :
    Rg msk b₀ (State.fillWin s x1 x2) := by
  refine Rg.step h₀ ?_ hm₀
  clear h₀ hm₀
  fun_induction State.fillWin 
  all_goals try dsimp +zetaDelta only at *
  all_goals repeat' (first
    | with_reducible exact Rg.refl _ _
    | with_reducible refine Rg.trans ?_ (by assumption)
    | with_reducible refine State.wrN_rg ?_ ?_
    | with_reducible refine in_STB_RD_WIN ?_
    | exact (rfl : (_ : Bool) = _))

theorem execStbWindowReady_rg {msk : Nat} {b₀ : State} {s : State} (h₀ : Rg msk b₀ s) (hm₀ : 424557802842974943467897223251870617581809347402436076516845346509050556479488124336361630016634908077736462632511300713780924692383206801655463936 ||| msk = msk) :
    RgO msk b₀ (execStbWindowReady s) := by
  refine RgO.step h₀ ?_ hm₀
  clear h₀ hm₀
  unfold execStbWindowReady
  try dsimp only
  repeat' (first
    | with_reducible exact Rg.refl _ _
    | exact (rfl : (_ : Nat) = _)
    | with_reducible refine State.fillWin_rg ?_ ?_
    | with_reducible refine State.putFld_rg ?_ ?_
    | with_reducible refine State.putBit_rg ?_ ?_
    | with_reducible refine in_STB_RD_STATUS ?_
    | exact (rfl : (_ : Bool) = _)
    | with_reducible refine RgO.next ?_
    | split
    | refine Rg.mk' ?_)

theorem execStudbookFlushTimer_rg {msk : Nat} {b₀ : State} {s : State} (h₀ : Rg msk b₀ s) (hm₀ : 195109284394749514461349826862072894109287383916560696928697309976585733676235351257519131441468248197489183195087913930965498479955517831643136 ||| msk = msk) :
    RgO msk b₀ (execStudbookFlushTimer s) := by
  refine RgO.step h₀ ?_ hm₀
  clear h₀ hm₀
  unfold execStudbookFlushTimer
  try dsimp only
  repeat' (first
    | with_reducible exact Rg.refl _ _
    | exact (rfl : (_ : Nat) = _)
    | with_reducible refine State.startFlush_rg ?_ ?_
    | with_reducible refine Rg.ite ?_ ?_
    | with_reducible refine RgO.next ?_)

theorem execStbAppCmd_rg {msk : Nat} {b₀ : State} {len : Nat} {typ : Nat} {s : State} (h₀ : Rg msk b₀ s) (hm₀ : 96107167241934871066922695929893513253646986886543648566569867971244778197047326547628858722798133524962703767956924421148679250521308396653950875004322252576 ||| msk = msk) :
    RgO msk b₀ (execStbAppCmd len typ s) := by
  refine RgO.step h₀ ?_ hm₀
  clear h₀ hm₀
  unfold execStbAppCmd
  try dsimp only
  repeat' (first
    | with_reducible exact Rg.refl _ _
    | exact (rfl : (_ : Nat) = _)
    | with_reducible refine State.event_rg ?_ ?_
    | with_reducible refine State.wrN_rg ?_ ?_
    | with_reducible refine State.record_rg ?_ ?_
    | with_reducible refine in_STB_APP_STATUS ?_
    | exact (rfl : (_ : Bool) = _)
    | with_reducible refine RgO.ite ?_ ?_
    | with_reducible refine RgO.next ?_
    | split
    | refine Rg.mk' ?_)

theorem execStbFlushCmd_rg {msk : Nat} {b₀ : State} {s : State} (h₀ : Rg msk b₀ s) (hm₀ : 292663926592124271692024740293109341163931075874841045393045964964878600514353026886278697162202372296233774792631870896448247719933276747464704 ||| msk = msk) :
    RgO msk b₀ (execStbFlushCmd s) := by
  refine RgO.step h₀ ?_ hm₀
  clear h₀ hm₀
  unfold execStbFlushCmd
  try dsimp only
  repeat' (first
    | with_reducible exact Rg.refl _ _
    | exact (rfl : (_ : Nat) = _)
    | with_reducible refine State.putBit_rg ?_ ?_
    | with_reducible refine State.startFlush_rg ?_ ?_
    | with_reducible refine in_STB_CTRL ?_
    | exact (rfl : (_ : Bool) = _)
    | with_reducible refine Rg.ite ?_ ?_
    | with_reducible refine RgO.next ?_
    | refine Rg.mk' ?_)

theorem State.stbShow_rg {msk : Nat} {b₀ : State} {s : State} (h₀ : Rg msk b₀ s) (hm₀ : 96107167241840047954706847665865297237792019460006534897986419472537431304398705881062208342086979227082150199332944678115866524350859164392692493338143688480 ||| msk = msk) :
    Rg msk b₀ (State.stbShow s) := by
  refine Rg.step h₀ ?_ hm₀
  clear h₀ hm₀
  unfold State.stbShow
  try dsimp only
  repeat' (first
    | with_reducible exact Rg.refl _ _
    | exact (rfl : (_ : Nat) = _)
    | with_reducible refine State.wrN_rg ?_ ?_
    | with_reducible refine State.wr64_rg ?_ ?_ ?_
    | with_reducible refine State.raise_rg ?_ ?_
    | with_reducible refine State.event_rg ?_ ?_
    | with_reducible refine State.putBit_rg ?_ ?_
    | with_reducible refine in_STB_END ?_
    | with_reducible refine in_STB_END4 ?_
    | with_reducible refine in_STB_FILL_PM ?_
    | with_reducible refine in_STB_LAST_SEQ ?_
    | with_reducible refine in_STB_STATUS ?_
    | exact (rfl : (_ : Bool) = _)
    | with_reducible refine Rg.ite ?_ ?_)

theorem execResilverDone_rg {msk : Nat} {b₀ : State} {s : State} (h₀ : Rg msk b₀ s) (hm₀ : 195109284394749514461349826862072894109287383916560696928697309976585733676235351257519131441468248197489183195087913930965498479955517831643168 ||| msk = msk) :
    RgO msk b₀ (execResilverDone s) := by
  refine RgO.step h₀ ?_ hm₀
  clear h₀ hm₀
  unfold execResilverDone
  try dsimp only
  repeat' (first
    | with_reducible exact Rg.refl _ _
    | exact (rfl : (_ : Nat) = _)
    | with_reducible refine State.event_rg ?_ ?_
    | with_reducible refine State.putBit_rg ?_ ?_
    | with_reducible refine in_STB_STATUS ?_
    | exact (rfl : (_ : Bool) = _)
    | with_reducible refine Rg.ite ?_ ?_
    | with_reducible refine RgO.next ?_)

theorem State.stbDevFail_rg {msk : Nat} {b₀ : State} {s : State} {dev : Nat} (h₀ : Rg msk b₀ s) (hm₀ : 96107167241834975113312584178489302142293605564759693426004588894417285174339314651986626222954283729664672024879809959352794238588654061432213649874520966944 ||| msk = msk) :
    Rg msk b₀ (State.stbDevFail s dev) := by
  refine Rg.step h₀ ?_ hm₀
  clear h₀ hm₀
  unfold State.stbDevFail
  try dsimp only
  repeat' (first
    | with_reducible exact Rg.refl _ _
    | exact (rfl : (_ : Nat) = _)
    | with_reducible refine State.raise_rg ?_ ?_
    | with_reducible refine State.event_rg ?_ ?_
    | with_reducible refine State.putBit_rg ?_ ?_
    | with_reducible refine in_STB_STATUS ?_
    | exact (rfl : (_ : Bool) = _))

theorem execStbRdOffWrite_rg {msk : Nat} {b₀ : State} {off : Nat} {s : State} (h₀ : Rg msk b₀ s) (hm₀ : 37460982603791906776579166757517995668983177711979653810309883515504460865837187441443673236761903653917923173456879474745375708151459423675482112 ||| msk = msk) :
    RgO msk b₀ (execStbRdOffWrite off s) := by
  refine RgO.step h₀ ?_ hm₀
  clear h₀ hm₀
  unfold execStbRdOffWrite
  try dsimp only
  repeat' (first
    | with_reducible exact Rg.refl _ _
    | with_reducible refine State.putBit_rg ?_ ?_
    | with_reducible refine State.wr64_rg ?_ ?_ ?_
    | with_reducible refine in_STB_RD_OFF ?_
    | with_reducible refine in_STB_RD_OFF4 ?_
    | with_reducible refine in_STB_RD_STATUS ?_
    | exact (rfl : (_ : Bool) = _)
    | with_reducible refine RgO.next ?_
    | refine Rg.mk' ?_)

theorem execStudbookFlushDone_rg {msk : Nat} {b₀ : State} {ok0 : Bool} {ok1 : Bool} {s : State} (h₀ : Rg msk b₀ s) (hm₀ : 96107167241835853105092360551304378216514484892783185219232213417553464312234209287788169282034942565756158631996698660677172134201343406175373449704763361056 ||| msk = msk) :
    RgO msk b₀ (execStudbookFlushDone ok0 ok1 s) := by
  refine RgO.step h₀ ?_ hm₀
  clear h₀ hm₀
  unfold execStudbookFlushDone
  try dsimp only
  repeat' (first
    | with_reducible exact Rg.refl _ _
    | exact (rfl : (_ : Nat) = _)
    | with_reducible refine State.event_rg ?_ ?_
    | with_reducible refine State.wr64_rg ?_ ?_ ?_
    | with_reducible refine State.putBit_rg ?_ ?_
    | with_reducible refine State.startFlush_rg ?_ ?_
    | with_reducible refine State.stbDevFail_rg ?_ ?_
    | with_reducible refine in_STB_CTRL ?_
    | with_reducible refine in_STB_FLUSHED ?_
    | with_reducible refine in_STB_FLUSHED4 ?_
    | with_reducible refine in_STB_STATUS ?_
    | exact (rfl : (_ : Bool) = _)
    | with_reducible refine Rg.ite ?_ ?_
    | with_reducible refine RgO.next ?_
    | split
    | refine Rg.mk' ?_)

end Sys2Proof.Machine
end

