-- ==== Sys2Proof/Laws/RgCommit.lean ====
section
/-! SUPPORT. Register frames of the operations of Machine.Commit: the registers that each may write. -/

set_option maxRecDepth 20000
set_option Elab.async false
set_option linter.unusedTactic false
set_option linter.unreachableTactic false
set_option linter.unusedVariables false

namespace Sys2Proof.Machine

theorem State.feedSample_rg {msk : Nat} {b₀ : State} {s : State} {f : StrideFacts} (h₀ : Rg msk b₀ s) (hm₀ : 7029552803973744348141466418259346654483901747346744739219930582205996219799199797373501072037329464296751422864876398630012915711709843264075804970101818523680 ||| msk = msk) :
    Rg msk b₀ (State.feedSample s f) := by
  refine Rg.step h₀ ?_ hm₀
  clear h₀ hm₀
  unfold State.feedSample
  try dsimp only
  repeat' (first
    | with_reducible exact Rg.refl _ _
    | exact (rfl : (_ : Nat) = _)
    | with_reducible refine State.event_rg ?_ ?_
    | with_reducible refine State.wrN_rg ?_ ?_
    | with_reducible refine in_PF_STATUS ?_
    | exact (rfl : (_ : Bool) = _)
    | split
    | refine Rg.mk' ?_)

theorem State.softReg_rg {msk : Nat} {b₀ s : State} {k : Nat} (h₀ : Rg msk b₀ s)
    (hm₀ : 14396524142538228424993723224595141948383030778566133225922417832357880258148761185020930195532450742879746914027266864394266451377581759004827248578768524336431104 ||| msk = msk) : Rg msk b₀ (State.softReg s k) := by
  refine Rg.step h₀ ?_ hm₀
  clear h₀ hm₀
  unfold State.softReg
  split
  · exact Rg.refl _ _
  · split
    · exact Rg.refl _ _
    · next h =>
      refine State.wr_rg (Rg.refl _ _) (in_block (decide_eq_true ?_) rfl)
      simp only [not_or, not_lt] at h
      exact h.1

theorem State.startInit_rg {msk : Nat} {b₀ : State} {s : State} {p : Nat} (h₀ : Rg msk b₀ s) (hm₀ : 8240 ||| msk = msk) :
    Rg msk b₀ (State.startInit s p) := by
  refine Rg.step h₀ ?_ hm₀
  clear h₀ hm₀
  unfold State.startInit
  try dsimp only
  repeat' (first
    | with_reducible exact Rg.refl _ _
    | exact (rfl : (_ : Nat) = _)
    | with_reducible refine State.setUnits_rg ?_ ?_
    | with_reducible refine State.setPage_rg ?_ ?_
    | with_reducible refine State.putBit_rg ?_ ?_
    | with_reducible refine in_PG_STATE ?_
    | exact (rfl : (_ : Bool) = _)
    | refine Rg.mk' ?_)

theorem State.softReset_rg {msk : Nat} {b₀ : State} {s : State} {p : Nat} (h₀ : Rg msk b₀ s) (hm₀ : 14396524142538228424993723224595141948383030778566133225922417832357880258148761185020930195532450742879746914027266864394266451377581759004827248578768524336439352 ||| msk = msk) :
    Rg msk b₀ (State.softReset s p) := by
  refine Rg.step h₀ ?_ hm₀
  clear h₀ hm₀
  unfold State.softReset
  try dsimp only
  repeat' (first
    | with_reducible exact Rg.refl _ _
    | with_reducible assumption
    | exact (rfl : (_ : Nat) = _)
    | with_reducible refine State.softReg_rg ?_ ?_
    | with_reducible refine State.putBit_rg ?_ ?_
    | with_reducible refine State.startInit_rg ?_ ?_
    | with_reducible refine State.setUnits_rg ?_ ?_
    | with_reducible refine State.setPage_rg ?_ ?_
    | with_reducible refine in_PG_CTRL ?_
    | with_reducible refine in_PG_STATE ?_
    | exact (rfl : (_ : Bool) = _)
    | with_reducible refine Rg.ite ?_ ?_
    | with_reducible refine Rg.foldl ?_ _ _ ?_
    | intro _ _ _
    | refine Rg.mk' ?_)

theorem State.actRun_rg {msk : Nat} {b₀ : State} {s : State} {a : Activity} {bands : List BandCopy} (h₀ : Rg msk b₀ s) (hm₀ : 18003648343428780285072543332551795379056313143632407907174230531636620374476657676306751956790943952317233951716482890288998381198531778428722755930144 ||| msk = msk) :
    Rg msk b₀ (State.actRun s a bands) := by
  refine Rg.step h₀ ?_ hm₀
  clear h₀ hm₀
  unfold State.actRun
  try dsimp only
  repeat' (first
    | with_reducible exact Rg.refl _ _
    | exact (rfl : (_ : Nat) = _)
    | with_reducible refine State.ftlActRun_rg ?_ ?_
    | with_reducible refine State.spActRun_rg ?_ ?_
    | with_reducible refine State.replActRun_rg ?_ ?_
    | with_reducible refine State.transferRun_rg ?_ ?_
    | with_reducible refine State.putBit_rg ?_ ?_
    | with_reducible refine State.rmActRun_rg ?_ ?_
    | with_reducible refine in_TD_CMD_STATUS ?_
    | exact (rfl : (_ : Bool) = _)
    | with_reducible refine Rg.ite ?_ ?_)

theorem State.gate_rg {msk : Nat} {b₀ : State} {s : State} (h₀ : Rg msk b₀ s) (hm₀ : 32800 ||| msk = msk) :
    Rg msk b₀ (State.gate s).1 := by
  refine Rg.step h₀ ?_ hm₀
  clear h₀ hm₀
  unfold State.gate
  try dsimp only
  repeat' (first
    | with_reducible exact Rg.refl _ _
    | exact (rfl : (_ : Nat) = _)
    | with_reducible refine State.ungate_rg ?_ ?_
    | with_reducible refine State.lateCheck_rg ?_ ?_
    | with_reducible refine Rg.ite₁ ?_ ?_)

theorem State.pcieFacts_rg {msk : Nat} {b₀ : State} {s : State} {f : StrideFacts} (h₀ : Rg msk b₀ s) (hm₀ : 317503773729619968 ||| msk = msk) :
    Rg msk b₀ (State.pcieFacts s f) := by
  refine Rg.step h₀ ?_ hm₀
  clear h₀ hm₀
  unfold State.pcieFacts
  try dsimp only
  repeat' (first
    | with_reducible exact Rg.refl _ _
    | with_reducible assumption
    | exact (rfl : (_ : Nat) = _)
    | with_reducible refine State.wrN_rg ?_ ?_
    | with_reducible refine State.countBy_rg ?_ ?_
    | with_reducible refine in_PCIE_MPS ?_
    | with_reducible refine in_PCIE_REPLAYS ?_
    | with_reducible refine in_PCIE_RX_ERR ?_
    | with_reducible refine in_PCIE_UR ?_
    | with_reducible refine InSet.ite ?_ ?_
    | exact (rfl : (_ : Bool) = _)
    | dsimp only
    | with_reducible refine Rg.ite ?_ ?_
    | with_reducible refine Rg.ite₁ ?_ ?_
    | with_reducible refine RgS.ite ?_ ?_
    | with_reducible refine RgP.ite ?_ ?_
    | with_reducible exact RgS.none
    | with_reducible refine RgS.some ?_
    | with_reducible refine RgS.map ?_
    | with_reducible exact RgP.none
    | with_reducible refine RgP.some ?_
    | with_reducible refine Rg.elim ?_ ?_
    | with_reducible refine Rg.foldl ?_ _ _ ?_
    | with_reducible refine Rg.foldl₂ ?_ _ _ ?_
    | intro _ _ _ _ _ _
    | intro _ _ _ _ _
    | intro _ _ _ _
    | intro _ _ _
    | intro _ _
    | intro _
    | with_reducible refine Rg.pair (h := ?_) (e := by assumption)
    | with_reducible refine RgO.got (h := ?_) (e := by assumption)
    | with_reducible refine RgS.get (h := ?_) (e := by assumption)
    | with_reducible refine RgP.get (h := ?_) (e := by assumption)
    | split)

theorem State.monitors_rg {msk : Nat} {b₀ : State} {s : State} {f : StrideFacts} (h₀ : Rg msk b₀ s) (hm₀ : 224945689727159819140526925384299092944806967852676328852941609246657421113231202881880596743763840448044857114148667447810791723654145554145608500597147358461984 ||| msk = msk) :
    Rg msk b₀ (State.monitors s f) := by
  refine Rg.step h₀ ?_ hm₀
  clear h₀ hm₀
  unfold State.monitors
  try dsimp only
  repeat' (first
    | with_reducible exact Rg.refl _ _
    | with_reducible assumption
    | exact (rfl : (_ : Nat) = _)
    | with_reducible refine State.tjSeen_rg ?_ ?_
    | with_reducible refine State.wrN_rg ?_ ?_
    | with_reducible refine State.pcieFacts_rg ?_ ?_
    | with_reducible refine State.event_rg ?_ ?_
    | with_reducible refine in_CHIP_TJ ?_
    | with_reducible refine in_DC_UTIL ?_
    | with_reducible refine InSet.ite ?_ ?_
    | exact (rfl : (_ : Bool) = _)
    | dsimp only
    | with_reducible refine Rg.ite ?_ ?_
    | with_reducible refine Rg.ite₁ ?_ ?_
    | with_reducible refine RgS.ite ?_ ?_
    | with_reducible refine RgP.ite ?_ ?_
    | with_reducible exact RgS.none
    | with_reducible refine RgS.some ?_
    | with_reducible refine RgS.map ?_
    | with_reducible exact RgP.none
    | with_reducible refine RgP.some ?_
    | with_reducible refine Rg.elim ?_ ?_
    | with_reducible refine Rg.foldl ?_ _ _ ?_
    | with_reducible refine Rg.foldl₂ ?_ _ _ ?_
    | intro _ _ _ _ _ _
    | intro _ _ _ _ _
    | intro _ _ _ _
    | intro _ _ _
    | intro _ _
    | intro _
    | with_reducible refine Rg.pair (h := ?_) (e := by assumption)
    | with_reducible refine RgO.got (h := ?_) (e := by assumption)
    | with_reducible refine RgS.get (h := ?_) (e := by assumption)
    | with_reducible refine RgP.get (h := ?_) (e := by assumption)
    | split
    | refine Rg.mk' ?_)

theorem State.unitsFail_rg {msk : Nat} {b₀ : State} {s : State} {l : List (Nat × Nat)} (h₀ : Rg msk b₀ s) (hm₀ : 96107167241834975113312584178489302142293605564759693426004588894417285174339314651986626222954283729664672024879809959352794238588654061432213649874520966944 ||| msk = msk) :
    Rg msk b₀ (State.unitsFail s l) := by
  refine Rg.step h₀ ?_ hm₀
  clear h₀ hm₀
  unfold State.unitsFail
  try dsimp only
  repeat' (first
    | with_reducible exact Rg.refl _ _
    | with_reducible assumption
    | exact (rfl : (_ : Nat) = _)
    | with_reducible refine State.raise_rg ?_ ?_
    | dsimp only
    | with_reducible refine Rg.ite ?_ ?_
    | with_reducible refine Rg.ite₁ ?_ ?_
    | with_reducible refine RgS.ite ?_ ?_
    | with_reducible refine RgP.ite ?_ ?_
    | with_reducible exact RgS.none
    | with_reducible refine RgS.some ?_
    | with_reducible refine RgS.map ?_
    | with_reducible exact RgP.none
    | with_reducible refine RgP.some ?_
    | with_reducible refine Rg.elim ?_ ?_
    | with_reducible refine Rg.foldl ?_ _ _ ?_
    | with_reducible refine Rg.foldl₂ ?_ _ _ ?_
    | intro _ _ _ _ _ _
    | intro _ _ _ _ _
    | intro _ _ _ _
    | intro _ _ _
    | intro _ _
    | intro _
    | with_reducible refine Rg.pair (h := ?_) (e := by assumption)
    | with_reducible refine RgO.got (h := ?_) (e := by assumption)
    | with_reducible refine RgS.get (h := ?_) (e := by assumption)
    | with_reducible refine RgP.get (h := ?_) (e := by assumption)
    | split)

theorem State.commitFns_rg {msk : Nat} {b₀ : State} {s : State} (h₀ : Rg msk b₀ s) (hm₀ : 143343663499379469475676305956380433800627810156366027727182646684513172681765528279266710129088919504928 ||| msk = msk) :
    Rg msk b₀ (State.commitFns s) := by
  refine Rg.step h₀ ?_ hm₀
  clear h₀ hm₀
  unfold State.commitFns
  try dsimp only
  repeat' (first
    | with_reducible exact Rg.refl _ _
    | with_reducible assumption
    | exact (rfl : (_ : Nat) = _)
    | with_reducible refine State.fnCmdApply_rg ?_ ?_
    | with_reducible refine State.fnLeaveApply_rg ?_ ?_
    | with_reducible refine State.oversubscribed_rg ?_ ?_
    | with_reducible refine State.finishApply_rg ?_ ?_
    | with_reducible refine State.lqIntPost_rg ?_ ?_
    | with_reducible refine State.lqReadyUpdate_rg ?_ ?_
    | with_reducible refine State.lqResetApply_rg ?_ ?_
    | dsimp only
    | with_reducible refine Rg.ite ?_ ?_
    | with_reducible refine Rg.ite₁ ?_ ?_
    | with_reducible refine RgS.ite ?_ ?_
    | with_reducible refine RgP.ite ?_ ?_
    | with_reducible exact RgS.none
    | with_reducible refine RgS.some ?_
    | with_reducible refine RgS.map ?_
    | with_reducible exact RgP.none
    | with_reducible refine RgP.some ?_
    | with_reducible refine Rg.elim ?_ ?_
    | with_reducible refine Rg.foldl ?_ _ _ ?_
    | with_reducible refine Rg.foldl₂ ?_ _ _ ?_
    | intro _ _ _ _ _ _
    | intro _ _ _ _ _
    | intro _ _ _ _
    | intro _ _ _
    | intro _ _
    | intro _
    | with_reducible refine Rg.pair (h := ?_) (e := by assumption)
    | with_reducible refine RgO.got (h := ?_) (e := by assumption)
    | with_reducible refine RgS.get (h := ?_) (e := by assumption)
    | with_reducible refine RgP.get (h := ?_) (e := by assumption)
    | split)

theorem State.nextStride_rg {msk : Nat} {b₀ : State} {s : State} (h₀ : Rg msk b₀ s) (hm₀ : 1073758208 ||| msk = msk) :
    Rg msk b₀ (State.nextStride s) := by
  refine Rg.step h₀ ?_ hm₀
  clear h₀ hm₀
  unfold State.nextStride
  try dsimp only
  repeat' (first
    | with_reducible exact Rg.refl _ _
    | with_reducible assumption
    | exact (rfl : (_ : Nat) = _)
    | with_reducible refine State.wr64_rg ?_ ?_ ?_
    | with_reducible refine in_PWR_STRIDES ?_
    | with_reducible refine in_PWR_STRIDES4 ?_
    | with_reducible refine in_STR_NUM ?_
    | with_reducible refine in_STR_NUM4 ?_
    | with_reducible refine InSet.ite ?_ ?_
    | exact (rfl : (_ : Bool) = _)
    | dsimp only
    | with_reducible refine Rg.ite ?_ ?_
    | with_reducible refine Rg.ite₁ ?_ ?_
    | with_reducible refine RgS.ite ?_ ?_
    | with_reducible refine RgP.ite ?_ ?_
    | with_reducible exact RgS.none
    | with_reducible refine RgS.some ?_
    | with_reducible refine RgS.map ?_
    | with_reducible exact RgP.none
    | with_reducible refine RgP.some ?_
    | with_reducible refine Rg.elim ?_ ?_
    | with_reducible refine Rg.foldl ?_ _ _ ?_
    | with_reducible refine Rg.foldl₂ ?_ _ _ ?_
    | intro _ _ _ _ _ _
    | intro _ _ _ _ _
    | intro _ _ _ _
    | intro _ _ _
    | intro _ _
    | intro _
    | with_reducible refine Rg.pair (h := ?_) (e := by assumption)
    | with_reducible refine RgO.got (h := ?_) (e := by assumption)
    | with_reducible refine RgS.get (h := ?_) (e := by assumption)
    | with_reducible refine RgP.get (h := ?_) (e := by assumption)
    | split
    | refine Rg.mk' ?_)

theorem State.enableApply_rg {msk : Nat} {b₀ : State} {s : State} (h₀ : Rg msk b₀ s) (hm₀ : 8240 ||| msk = msk) :
    Rg msk b₀ (State.enableApply s) := by
  refine Rg.step h₀ ?_ hm₀
  clear h₀ hm₀
  unfold State.enableApply
  try dsimp only
  repeat' (first
    | with_reducible exact Rg.refl _ _
    | with_reducible assumption
    | exact (rfl : (_ : Nat) = _)
    | with_reducible refine State.startInit_rg ?_ ?_
    | with_reducible refine Rg.ite ?_ ?_
    | with_reducible refine Rg.foldl ?_ _ _ ?_
    | intro _ _ _)

theorem State.freezeApply_rg {msk : Nat} {b₀ : State} {s : State} (h₀ : Rg msk b₀ s) (hm₀ : 16 ||| msk = msk) :
    Rg msk b₀ (State.freezeApply s) := by
  refine Rg.step h₀ ?_ hm₀
  clear h₀ hm₀
  unfold State.freezeApply
  try dsimp only
  repeat' (first
    | with_reducible exact Rg.refl _ _
    | with_reducible assumption
    | with_reducible refine State.putBit_rg ?_ ?_
    | with_reducible refine in_PG_STATE ?_
    | exact (rfl : (_ : Bool) = _)
    | with_reducible refine Rg.ite ?_ ?_
    | with_reducible refine Rg.foldl ?_ _ _ ?_
    | intro _ _ _)

theorem State.commitRegs_rg {msk : Nat} {b₀ : State} {s : State} {held : List Nat} {mapOk : Bool} {camBad : List Nat} (h₀ : Rg msk b₀ s) (hm₀ : 21594882321071967843050608387735628414865164883770944783836298853199553607482427473288862116689812465340908520853639227254461294567790993728096233461904156034938680 ||| msk = msk) :
    Rg msk b₀ (State.commitRegs s held mapOk camBad) := by
  refine Rg.step h₀ ?_ hm₀
  clear h₀ hm₀
  unfold State.commitRegs
  try dsimp only
  repeat' (first
    | with_reducible exact Rg.refl _ _
    | with_reducible assumption
    | exact (rfl : (_ : Nat) = _)
    | with_reducible refine State.softReset_rg ?_ ?_
    | with_reducible refine State.rwsApply_rg ?_ ?_
    | with_reducible refine State.calSetApply_rg ?_ ?_
    | with_reducible refine State.wearCommit_rg ?_ ?_
    | with_reducible refine State.enableApply_rg ?_ ?_
    | with_reducible refine State.pagesMove_rg ?_ ?_
    | with_reducible refine State.freezeApply_rg ?_ ?_
    | with_reducible refine State.rowCommit_rg ?_ ?_
    | with_reducible refine State.rmCommit_rg ?_ ?_
    | with_reducible refine State.ksApply_rg ?_ ?_
    | dsimp only
    | with_reducible refine Rg.ite ?_ ?_
    | with_reducible refine Rg.ite₁ ?_ ?_
    | with_reducible refine RgS.ite ?_ ?_
    | with_reducible refine RgP.ite ?_ ?_
    | with_reducible exact RgS.none
    | with_reducible refine RgS.some ?_
    | with_reducible refine RgS.map ?_
    | with_reducible exact RgP.none
    | with_reducible refine RgP.some ?_
    | with_reducible refine Rg.elim ?_ ?_
    | with_reducible refine Rg.foldl ?_ _ _ ?_
    | with_reducible refine Rg.foldl₂ ?_ _ _ ?_
    | intro _ _ _ _ _ _
    | intro _ _ _ _ _
    | intro _ _ _ _
    | intro _ _ _
    | intro _ _
    | intro _
    | with_reducible refine Rg.pair (h := ?_) (e := by assumption)
    | with_reducible refine RgO.got (h := ?_) (e := by assumption)
    | with_reducible refine RgS.get (h := ?_) (e := by assumption)
    | with_reducible refine RgP.get (h := ?_) (e := by assumption)
    | split)

theorem State.commitOrdered_rg {msk : Nat} {b₀ : State} {s : State} {f : StrideFacts} (h₀ : Rg msk b₀ s) (hm₀ : 21594882321071967843050608387735628414865825939739735032435250768507586378522263648647395300825380791983810220720502108227642692336315716267418483569528517999851320 ||| msk = msk) :
    Rg msk b₀ (State.commitOrdered s f) := by
  refine Rg.step h₀ ?_ hm₀
  clear h₀ hm₀
  unfold State.commitOrdered
  try dsimp only
  repeat' (first
    | with_reducible exact Rg.refl _ _
    | with_reducible assumption
    | exact (rfl : (_ : Nat) = _)
    | with_reducible refine State.gate_rg ?_ ?_
    | with_reducible refine State.nextStride_rg ?_ ?_
    | with_reducible refine State.commitRegs_rg ?_ ?_
    | with_reducible refine State.freqCommit_rg ?_ ?_
    | with_reducible refine State.driftApply_rg ?_ ?_
    | with_reducible refine State.binChange_rg ?_ ?_
    | with_reducible refine State.calCommit_rg ?_ ?_
    | with_reducible refine State.weirGrant_rg ?_ ?_
    | with_reducible refine State.psApply_rg ?_ ?_
    | with_reducible refine State.epochAdvance_rg ?_ ?_
    | with_reducible refine State.camPendingValid_rg ?_ ?_
    | dsimp only
    | with_reducible refine Rg.ite ?_ ?_
    | with_reducible refine Rg.ite₁ ?_ ?_
    | with_reducible refine RgS.ite ?_ ?_
    | with_reducible refine RgP.ite ?_ ?_
    | with_reducible exact RgS.none
    | with_reducible refine RgS.some ?_
    | with_reducible refine RgS.map ?_
    | with_reducible exact RgP.none
    | with_reducible refine RgP.some ?_
    | with_reducible refine Rg.elim ?_ ?_
    | with_reducible refine Rg.foldl ?_ _ _ ?_
    | with_reducible refine Rg.foldl₂ ?_ _ _ ?_
    | intro _ _ _ _ _ _
    | intro _ _ _ _ _
    | intro _ _ _ _
    | intro _ _ _
    | intro _ _
    | intro _
    | with_reducible refine Rg.pair (h := ?_) (e := by assumption)
    | with_reducible refine RgO.got (h := ?_) (e := by assumption)
    | with_reducible refine RgS.get (h := ?_) (e := by assumption)
    | with_reducible refine RgP.get (h := ?_) (e := by assumption)
    | split)

theorem State.restoredScan_rg {msk : Nat} {b₀ : State} {s : State} (h₀ : Rg msk b₀ s) (hm₀ : 2854495385411919762116571938898990272765493280 ||| msk = msk) :
    Rg msk b₀ (State.restoredScan s) := by
  refine Rg.step h₀ ?_ hm₀
  clear h₀ hm₀
  unfold State.restoredScan
  try dsimp only
  repeat' (first
    | with_reducible exact Rg.refl _ _
    | exact (rfl : (_ : Nat) = _)
    | with_reducible refine State.event_rg ?_ ?_
    | with_reducible refine State.putBit_rg ?_ ?_
    | with_reducible refine in_CIST_STATUS ?_
    | exact (rfl : (_ : Bool) = _)
    | with_reducible refine Rg.ite ?_ ?_
    | split
    | refine Rg.mk' ?_)

theorem State.releaseScan_rg {msk : Nat} {b₀ : State} {s : State} (h₀ : Rg msk b₀ s) (hm₀ : 0 ||| msk = msk) :
    Rg msk b₀ (State.releaseScan s) := by
  refine Rg.step h₀ ?_ hm₀
  clear h₀ hm₀
  unfold State.releaseScan
  try dsimp only
  repeat' (first
    | with_reducible exact Rg.refl _ _
    | with_reducible assumption
    | exact (rfl : (_ : Nat) = _)
    | with_reducible refine State.tryRelease_rg ?_ ?_
    | with_reducible refine Rg.foldl ?_ _ _ ?_
    | intro _ _ _)

theorem State.commitMedia_rg {msk : Nat} {b₀ : State} {s : State} (h₀ : Rg msk b₀ s) (hm₀ : 96107167241834975113312584178489302142293605564759693570485627042658014574731889050744670535067861803961928130068337686944471566332386538842495990435950956320 ||| msk = msk) :
    Rg msk b₀ (State.commitMedia s) := by
  refine Rg.step h₀ ?_ hm₀
  clear h₀ hm₀
  unfold State.commitMedia
  try dsimp only
  repeat' (first
    | with_reducible exact Rg.refl _ _
    | with_reducible assumption
    | exact (rfl : (_ : Nat) = _)
    | with_reducible refine State.checkpointRoots_rg ?_ ?_
    | with_reducible refine State.spillDiscard_rg ?_ ?_
    | with_reducible refine State.spillRecompute_rg ?_ ?_
    | with_reducible refine State.spaceChange_rg ?_ ?_
    | with_reducible refine State.dieRetireScan_rg ?_ ?_
    | with_reducible refine State.restoredScan_rg ?_ ?_
    | with_reducible refine State.releaseScan_rg ?_ ?_
    | with_reducible refine State.mapTxnApply_rg ?_ ?_
    | with_reducible refine State.failsHandle_rg ?_ ?_
    | with_reducible refine State.boundRecompute_rg ?_ ?_
    | with_reducible refine State.wearPay_rg ?_ ?_
    | with_reducible refine State.redundScan_rg ?_ ?_
    | with_reducible refine State.rebuildAdmit_rg ?_ ?_
    | with_reducible refine State.rebuildEnds_rg ?_ ?_
    | with_reducible refine State.patrolStep_rg ?_ ?_
    | dsimp only
    | with_reducible refine Rg.ite ?_ ?_
    | with_reducible refine Rg.ite₁ ?_ ?_
    | with_reducible refine RgS.ite ?_ ?_
    | with_reducible refine RgP.ite ?_ ?_
    | with_reducible exact RgS.none
    | with_reducible refine RgS.some ?_
    | with_reducible refine RgS.map ?_
    | with_reducible exact RgP.none
    | with_reducible refine RgP.some ?_
    | with_reducible refine Rg.elim ?_ ?_
    | with_reducible refine Rg.foldl ?_ _ _ ?_
    | with_reducible refine Rg.foldl₂ ?_ _ _ ?_
    | intro _ _ _ _ _ _
    | intro _ _ _ _ _
    | intro _ _ _ _
    | intro _ _ _
    | intro _ _
    | intro _
    | with_reducible refine Rg.pair (h := ?_) (e := by assumption)
    | with_reducible refine RgO.got (h := ?_) (e := by assumption)
    | with_reducible refine RgS.get (h := ?_) (e := by assumption)
    | with_reducible refine RgP.get (h := ?_) (e := by assumption)
    | split)

theorem State.pumpAll_rg {msk : Nat} {b₀ : State} {s : State} (h₀ : Rg msk b₀ s) (hm₀ : 110427941548649020598956093796432407239217743554726184882600387580790784 ||| msk = msk) :
    Rg msk b₀ (State.pumpAll s) := by
  refine Rg.step h₀ ?_ hm₀
  clear h₀ hm₀
  unfold State.pumpAll
  try dsimp only
  repeat' (first
    | with_reducible exact Rg.refl _ _
    | with_reducible assumption
    | exact (rfl : (_ : Nat) = _)
    | with_reducible refine State.pump_rg ?_ ?_
    | dsimp only
    | with_reducible refine Rg.ite ?_ ?_
    | with_reducible refine Rg.ite₁ ?_ ?_
    | with_reducible refine RgS.ite ?_ ?_
    | with_reducible refine RgP.ite ?_ ?_
    | with_reducible exact RgS.none
    | with_reducible refine RgS.some ?_
    | with_reducible refine RgS.map ?_
    | with_reducible exact RgP.none
    | with_reducible refine RgP.some ?_
    | with_reducible refine Rg.elim ?_ ?_
    | with_reducible refine Rg.foldl ?_ _ _ ?_
    | with_reducible refine Rg.foldl₂ ?_ _ _ ?_
    | intro _ _ _ _ _ _
    | intro _ _ _ _ _
    | intro _ _ _ _
    | intro _ _ _
    | intro _ _
    | intro _
    | with_reducible refine Rg.pair (h := ?_) (e := by assumption)
    | with_reducible refine RgO.got (h := ?_) (e := by assumption)
    | with_reducible refine RgS.get (h := ?_) (e := by assumption)
    | with_reducible refine RgP.get (h := ?_) (e := by assumption)
    | split)

theorem State.fencePage_rg {msk : Nat} {b₀ : State} {s : State} {p : Nat} (h₀ : Rg msk b₀ s) (hm₀ : 48 ||| msk = msk) :
    Rg msk b₀ (State.fencePage s p) := by
  refine Rg.step h₀ ?_ hm₀
  clear h₀ hm₀
  unfold State.fencePage
  try dsimp only
  repeat' (first
    | with_reducible exact Rg.refl _ _
    | exact (rfl : (_ : Nat) = _)
    | with_reducible refine State.setPage_rg ?_ ?_
    | with_reducible refine Rg.ite ?_ ?_)

theorem State.fenceCommit_rg {msk : Nat} {b₀ : State} {s : State} (h₀ : Rg msk b₀ s) (hm₀ : 96107185245483318542092869251032634694099029669914800474207319317811147633434230639768361956697129559546367642257237975764719748676832563519669377963827203888 ||| msk = msk) :
    Rg msk b₀ (State.fenceCommit s) := by
  refine Rg.step h₀ ?_ hm₀
  clear h₀ hm₀
  unfold State.fenceCommit
  try dsimp only
  repeat' (first
    | with_reducible exact Rg.refl _ _
    | with_reducible assumption
    | exact (rfl : (_ : Nat) = _)
    | with_reducible refine State.setRole_rg ?_ ?_
    | with_reducible refine State.rankAbandon_rg ?_ ?_
    | with_reducible refine State.rmAbandon_rg ?_ ?_
    | with_reducible refine State.fencePage_rg ?_ ?_
    | with_reducible refine State.evPost_rg ?_ ?_
    | with_reducible refine State.fenceCommands_rg ?_ ?_
    | with_reducible refine Rg.ite ?_ ?_
    | with_reducible refine Rg.foldl ?_ _ _ ?_
    | intro _ _ _
    | refine Rg.mk' ?_)

theorem State.queuedOne_rg {msk : Nat} {b₀ : State} {bands : List BandCopy} {d : State × List Activity} {a : Activity} (h₀ : Rg msk b₀ d.1) (hm₀ : 18003648343428780285072543332551795379056313143632407907174230531636620374476657676306751956790943952317233951716482890288998381198531778428722755930144 ||| msk = msk) :
    Rg msk b₀ (State.queuedOne bands d a).1 := by
  refine Rg.step h₀ ?_ hm₀
  clear h₀ hm₀
  rcases d with ⟨s₀, x₀⟩
  dsimp only
  unfold State.queuedOne
  try dsimp only
  repeat' (first
    | with_reducible exact Rg.refl _ _
    | exact (rfl : (_ : Nat) = _)
    | with_reducible refine State.actRun_rg ?_ ?_
    | with_reducible refine State.setActs_rg ?_ ?_
    | with_reducible refine Rg.ite₁ ?_ ?_)

theorem State.queuedStart_rg {msk : Nat} {b₀ : State} {s : State} {bands : List BandCopy} (h₀ : Rg msk b₀ s) (hm₀ : 18003648343428780285072543332551795379056313143632407907174230531636620374476657676306751956790943952317233951716482890288998381198531778428722755930144 ||| msk = msk) :
    Rg msk b₀ (State.queuedStart s bands) := by
  refine Rg.step h₀ ?_ hm₀
  clear h₀ hm₀
  unfold State.queuedStart
  try dsimp only
  repeat' (first
    | with_reducible exact Rg.refl _ _
    | with_reducible assumption
    | exact (rfl : (_ : Nat) = _)
    | with_reducible refine State.queuedOne_rg ?_ ?_
    | with_reducible refine Rg.foldl₂ ?_ _ _ ?_
    | intro _ _ _)

theorem State.busyClear_rg {msk : Nat} {b₀ : State} {s : State} (h₀ : Rg msk b₀ s) (hm₀ : 13093562431584567480052758787310396924082768062054510253863160102396919339251046165125981123057061049544619531409871596771850766504324540717935890530304 ||| msk = msk) :
    Rg msk b₀ (State.busyClear s) := by
  refine Rg.step h₀ ?_ hm₀
  clear h₀ hm₀
  unfold State.busyClear
  dsimp only [List.foldl]
  repeat' (first
    | with_reducible exact Rg.refl _ _
    | with_reducible refine State.putBit_rg ?_ ?_
    | with_reducible refine in_FTL_CMD_STATUS ?_
    | with_reducible refine in_RMA_CMD_STATUS ?_
    | with_reducible refine in_RM_CMD_STATUS ?_
    | with_reducible refine in_RP_CMD_STATUS ?_
    | with_reducible refine in_SP_CMD_STATUS ?_
    | with_reducible refine in_TD_CMD_STATUS ?_
    | exact (rfl : (_ : Bool) = _)
    | with_reducible refine Rg.ite ?_ ?_)

theorem State.lowSample_rg {msk : Nat} {b₀ : State} {s : State} (h₀ : Rg msk b₀ s) (hm₀ : 0 ||| msk = msk) :
    Rg msk b₀ (State.lowSample s) := by
  refine Rg.step h₀ ?_ hm₀
  clear h₀ hm₀
  unfold State.lowSample
  try dsimp only
  repeat' (first
    | with_reducible exact Rg.refl _ _
    | with_reducible refine Rg.ite ?_ ?_
    | refine Rg.mk' ?_)

theorem State.commitTandem_rg {msk : Nat} {b₀ : State} {s : State} (h₀ : Rg msk b₀ s) (hm₀ : 96107167241834975113312584178489302142293647437847796530420025421541195628531279713459736148832959607941733006467430986502974382885790595597454311959042395936 ||| msk = msk) :
    Rg msk b₀ (State.commitTandem s) := by
  refine Rg.step h₀ ?_ hm₀
  clear h₀ hm₀
  unfold State.commitTandem
  try dsimp only
  repeat' (first
    | with_reducible exact Rg.refl _ _
    | with_reducible assumption
    | exact (rfl : (_ : Nat) = _)
    | with_reducible refine State.takeoverApply_rg ?_ ?_
    | with_reducible refine State.arbApply_rg ?_ ?_
    | with_reducible refine State.roleEval_rg ?_ ?_
    | with_reducible refine State.reinMiss_rg ?_ ?_
    | with_reducible refine State.beatSend_rg ?_ ?_
    | with_reducible refine State.lowSample_rg ?_ ?_
    | with_reducible refine State.fenceInApply_rg ?_ ?_
    | with_reducible refine State.transferTaken_rg ?_ ?_
    | with_reducible refine State.transferGiven_rg ?_ ?_
    | with_reducible refine State.transferSend_rg ?_ ?_
    | with_reducible refine State.pumpAll_rg ?_ ?_
    | with_reducible refine State.holdShow_rg ?_ ?_
    | with_reducible refine State.anaApply_rg ?_ ?_
    | with_reducible refine State.refSend_rg ?_ ?_
    | with_reducible refine State.suspendScan_rg ?_ ?_
    | dsimp only
    | with_reducible refine Rg.ite ?_ ?_
    | with_reducible refine Rg.ite₁ ?_ ?_
    | with_reducible refine RgS.ite ?_ ?_
    | with_reducible refine RgP.ite ?_ ?_
    | with_reducible exact RgS.none
    | with_reducible refine RgS.some ?_
    | with_reducible refine RgS.map ?_
    | with_reducible exact RgP.none
    | with_reducible refine RgP.some ?_
    | with_reducible refine Rg.elim ?_ ?_
    | with_reducible refine Rg.foldl ?_ _ _ ?_
    | with_reducible refine Rg.foldl₂ ?_ _ _ ?_
    | intro _ _ _ _ _ _
    | intro _ _ _ _ _
    | intro _ _ _ _
    | intro _ _ _
    | intro _ _
    | intro _
    | with_reducible refine Rg.pair (h := ?_) (e := by assumption)
    | with_reducible refine RgO.got (h := ?_) (e := by assumption)
    | with_reducible refine RgS.get (h := ?_) (e := by assumption)
    | with_reducible refine RgP.get (h := ?_) (e := by assumption)
    | split)

theorem State.evtPost_rg {msk : Nat} {b₀ : State} {s : State} (h₀ : Rg msk b₀ s) (hm₀ : 35184372088832 ||| msk = msk) :
    Rg msk b₀ (State.evtPost s) := by
  refine Rg.step h₀ ?_ hm₀
  clear h₀ hm₀
  unfold State.evtPost
  try dsimp only
  repeat' (first
    | with_reducible exact Rg.refl _ _
    | with_reducible assumption
    | exact (rfl : (_ : Nat) = _)
    | with_reducible refine State.postMsix_rg ?_ ?_
    | with_reducible refine State.wr64_rg ?_ ?_ ?_
    | with_reducible refine in_EVT_ARM ?_
    | with_reducible refine in_EVT_ARM4 ?_
    | with_reducible refine InSet.ite ?_ ?_
    | exact (rfl : (_ : Bool) = _)
    | dsimp only
    | with_reducible refine Rg.ite ?_ ?_
    | with_reducible refine Rg.ite₁ ?_ ?_
    | with_reducible refine RgS.ite ?_ ?_
    | with_reducible refine RgP.ite ?_ ?_
    | with_reducible exact RgS.none
    | with_reducible refine RgS.some ?_
    | with_reducible refine RgS.map ?_
    | with_reducible exact RgP.none
    | with_reducible refine RgP.some ?_
    | with_reducible refine Rg.elim ?_ ?_
    | with_reducible refine Rg.foldl ?_ _ _ ?_
    | with_reducible refine Rg.foldl₂ ?_ _ _ ?_
    | intro _ _ _ _ _ _
    | intro _ _ _ _ _
    | intro _ _ _ _
    | intro _ _ _
    | intro _ _
    | intro _
    | with_reducible refine Rg.pair (h := ?_) (e := by assumption)
    | with_reducible refine RgO.got (h := ?_) (e := by assumption)
    | with_reducible refine RgS.get (h := ?_) (e := by assumption)
    | with_reducible refine RgP.get (h := ?_) (e := by assumption)
    | split)

theorem State.strideFlags_rg {msk : Nat} {b₀ : State} {s : State} (h₀ : Rg msk b₀ s) (hm₀ : 32 ||| msk = msk) :
    Rg msk b₀ (State.strideFlags s) := by
  refine Rg.step h₀ ?_ hm₀
  clear h₀ hm₀
  unfold State.strideFlags
  try dsimp only
  repeat' (first
    | with_reducible exact Rg.refl _ _
    | exact (rfl : (_ : Nat) = _)
    | with_reducible refine State.event_rg ?_ ?_
    | split
    | refine Rg.mk' ?_)

theorem execCommitPoint_rg {msk : Nat} {b₀ : State} {f : StrideFacts} {s : State} (h₀ : Rg msk b₀ s) (hm₀ : 21826857563603101411612118173801674298141766616731555195942767854330987150426999790966930553530421540593740918023698737267098580820286770099677256694570371195862840 ||| msk = msk) :
    RgO msk b₀ (execCommitPoint f s) := by
  refine RgO.step h₀ ?_ hm₀
  clear h₀ hm₀
  unfold execCommitPoint
  try dsimp only
  repeat' (first
    | with_reducible exact Rg.refl _ _
    | with_reducible assumption
    | exact (rfl : (_ : Nat) = _)
    | with_reducible refine State.fenceCommit_rg ?_ ?_
    | with_reducible refine State.commitOrdered_rg ?_ ?_
    | with_reducible refine State.mirrorReleaseSend_rg ?_ ?_
    | with_reducible refine State.portTell_rg ?_ ?_
    | with_reducible refine State.qpTick_rg ?_ ?_
    | with_reducible refine State.keysRotate_rg ?_ ?_
    | with_reducible refine State.commitFns_rg ?_ ?_
    | with_reducible refine State.commitTandem_rg ?_ ?_
    | with_reducible refine State.commitMedia_rg ?_ ?_
    | with_reducible refine State.monitors_rg ?_ ?_
    | with_reducible refine State.feedSample_rg ?_ ?_
    | with_reducible refine State.ladderHandle_rg ?_ ?_
    | with_reducible refine State.queuedStart_rg ?_ ?_
    | with_reducible refine State.actPause_rg ?_ ?_
    | with_reducible refine State.busyClear_rg ?_ ?_
    | with_reducible refine State.unitsFail_rg ?_ ?_
    | with_reducible refine State.evtPost_rg ?_ ?_
    | with_reducible refine State.stbShow_rg ?_ ?_
    | with_reducible refine State.strideFlags_rg ?_ ?_
    | with_reducible refine State.mcCommit_rg ?_ ?_
    | dsimp only
    | with_reducible refine Rg.ite ?_ ?_
    | with_reducible refine Rg.ite₁ ?_ ?_
    | with_reducible refine RgO.ite ?_ ?_
    | with_reducible refine RgS.ite ?_ ?_
    | with_reducible refine RgP.ite ?_ ?_
    | with_reducible refine RgO.next ?_
    | with_reducible exact RgS.none
    | with_reducible refine RgS.some ?_
    | with_reducible refine RgS.map ?_
    | with_reducible exact RgP.none
    | with_reducible refine RgP.some ?_
    | with_reducible refine Rg.elim ?_ ?_
    | with_reducible refine Rg.foldl ?_ _ _ ?_
    | with_reducible refine Rg.foldl₂ ?_ _ _ ?_
    | intro _ _ _ _ _ _
    | intro _ _ _ _ _
    | intro _ _ _ _
    | intro _ _ _
    | intro _ _
    | intro _
    | with_reducible refine Rg.pair (h := ?_) (e := by assumption)
    | with_reducible refine RgO.got (h := ?_) (e := by assumption)
    | with_reducible refine RgS.get (h := ?_) (e := by assumption)
    | with_reducible refine RgP.get (h := ?_) (e := by assumption)
    | split)

end Sys2Proof.Machine
end

