-- ==== Sys2Proof/Laws/RgTack.lean ====
section
/-! SUPPORT. Register frames of the operations of Machine.Tack: the registers that each may write. -/

set_option maxRecDepth 20000
set_option Elab.async false
set_option linter.unusedTactic false
set_option linter.unreachableTactic false
set_option linter.unusedVariables false

namespace Sys2Proof.Machine

theorem execTkRead_rg {msk : Nat} {b₀ : State} {s : State} (h₀ : Rg msk b₀ s) (hm₀ : 96107167292981703361689800897445391155224842318144725395427476230093712800841405220809666143005378922256924480362414398845920348107673694961672916332779210528 ||| msk = msk) :
    RgO msk b₀ (execTkRead s) := by
  refine RgO.step h₀ ?_ hm₀
  clear h₀ hm₀
  unfold execTkRead
  try dsimp only
  repeat' (first
    | with_reducible exact Rg.refl _ _
    | exact (rfl : (_ : Nat) = _)
    | with_reducible refine State.writeDiscarded_rg ?_ ?_
    | with_reducible refine State.event_rg ?_ ?_
    | with_reducible refine State.wrN_rg ?_ ?_
    | with_reducible refine State.useFree_rg ?_ ?_
    | with_reducible refine State.emit_rg ?_ ?_
    | with_reducible refine in_TK_CMD_STATUS ?_
    | exact (rfl : (_ : Bool) = _)
    | with_reducible refine RgO.ite ?_ ?_
    | with_reducible refine RgO.next ?_)

theorem State.tackShow_rg {msk : Nat} {b₀ : State} {s : State} (h₀ : Rg msk b₀ s) (hm₀ : 103092624125635327449145866916689524081041705063368007285972799434668276302783939838852988747568758855582124573353332314499273948832816333954926772224 ||| msk = msk) :
    Rg msk b₀ (State.tackShow s) := by
  refine Rg.step h₀ ?_ hm₀
  clear h₀ hm₀
  unfold State.tackShow
  try dsimp only
  repeat' (first
    | with_reducible exact Rg.refl _ _
    | with_reducible refine State.putBit_rg ?_ ?_
    | with_reducible refine State.wrN_rg ?_ ?_
    | with_reducible refine in_TK_INVALID ?_
    | with_reducible refine in_TK_STATUS ?_
    | exact (rfl : (_ : Bool) = _))

theorem State.tackWrite_rg {msk : Nat} {b₀ : State} {s : State} {image : List Byte} {readBack : Option (List Byte)} {bothB : Bool} (h₀ : Rg msk b₀ s) (hm₀ : 96107167344927599238947911627635169058983129645801398489372596180390084609007590954770566061807272477233430880461934532706126553087928010265029983829447739168 ||| msk = msk) :
    Rg msk b₀ (State.tackWrite s image readBack bothB).1 := by
  refine Rg.step h₀ ?_ hm₀
  clear h₀ hm₀
  unfold State.tackWrite
  try dsimp only
  repeat' (first
    | with_reducible exact Rg.refl _ _
    | exact (rfl : (_ : Nat) = _)
    | with_reducible refine State.tackShow_rg ?_ ?_
    | with_reducible refine State.record_rg ?_ ?_
    | with_reducible refine Rg.ite₁ ?_ ?_
    | split
    | refine Rg.mk' ?_)

theorem execTkProceed_rg {msk : Nat} {b₀ : State} {s : State} (h₀ : Rg msk b₀ s) (hm₀ : 7192508659928046101103200017443455168444770120700093531579497634976856486240739988757185261458285501552241249303720859151112135965080209345692565504 ||| msk = msk) :
    RgO msk b₀ (execTkProceed s) := by
  refine RgO.step h₀ ?_ hm₀
  clear h₀ hm₀
  unfold execTkProceed
  try dsimp only
  repeat' (first
    | with_reducible exact Rg.refl _ _
    | with_reducible refine State.putBit_rg ?_ ?_
    | with_reducible refine in_TK_CTRL ?_
    | with_reducible refine in_TK_STATUS ?_
    | exact (rfl : (_ : Bool) = _)
    | with_reducible refine RgO.next ?_)

theorem execTkWrite_rg {msk : Nat} {b₀ : State} {image : List Byte} {readBack : Option (List Byte)} {bothB : Bool} {s : State} (h₀ : Rg msk b₀ s) (hm₀ : 96107167396074327487325128346591258071914366399186430458795483516066512235509681523593605981858367669825683335944538972199252662606947643794489250287705982752 ||| msk = msk) :
    RgO msk b₀ (execTkWrite image readBack bothB s) := by
  refine RgO.step h₀ ?_ hm₀
  clear h₀ hm₀
  unfold execTkWrite
  try dsimp only
  repeat' (first
    | with_reducible exact Rg.refl _ _
    | exact (rfl : (_ : Nat) = _)
    | with_reducible refine State.writeDiscarded_rg ?_ ?_
    | with_reducible refine State.tackWrite_rg ?_ ?_
    | with_reducible refine State.event_rg ?_ ?_
    | with_reducible refine State.wrN_rg ?_ ?_
    | with_reducible refine in_TK_CMD_STATUS ?_
    | exact (rfl : (_ : Bool) = _)
    | with_reducible refine RgO.ite ?_ ?_
    | with_reducible refine RgO.next ?_)

end Sys2Proof.Machine
end

