-- ==== Sys2Proof/Laws/RgReads.lean ====
section
/-! SUPPORT. Register frames of the operations of Machine.Reads: the registers that each may write. -/

set_option maxRecDepth 20000
set_option Elab.async false
set_option linter.unusedTactic false
set_option linter.unreachableTactic false
set_option linter.unusedVariables false

namespace Sys2Proof.Machine

theorem State.readDone_rg {msk : Nat} {b₀ : State} {s : State} {off : Nat} (_ : Rg msk b₀ s) (hm₀ : 57586096570152913699974892898380567793532123114264532903689671329431521032595044740083720782129802971518987656109067457577065805510327036019308994315074097345724415 ||| msk = msk) :
    Rg msk b₀ (State.readDone s off) :=
  Rg.any (by rw [← hm₀, Nat.testBit_or]; rfl)

theorem State.read8_rg {msk : Nat} {b₀ : State} {s : State} {off : Nat} (_ : Rg msk b₀ s) (hm₀ : 57586096570152913699974892898380567793532123114264532903689671329431521032595044740083720782129802971518987656109067457577065805510327036019308994315074097345724415 ||| msk = msk) :
    Rg msk b₀ (State.read8 s off) :=
  Rg.any (by rw [← hm₀, Nat.testBit_or]; rfl)

theorem State.read4_rg {msk : Nat} {b₀ : State} {s : State} {off : Nat} (_ : Rg msk b₀ s) (hm₀ : 57586096570152913699974892898380567793532123114264532903689671329431521032595044740083720782129802971518987656109067457577065805510327036019308994315074097345724415 ||| msk = msk) :
    Rg msk b₀ (State.read4 s off) :=
  Rg.any (by rw [← hm₀, Nat.testBit_or]; rfl)

theorem State.readLatch_rg {msk : Nat} {b₀ : State} {s : State} {off : Nat} (h₀ : Rg msk b₀ s) (hm₀ : 4479489484420793572357588115897478818272391095622946058397288161947940236739662092354181761141082947584 ||| msk = msk) :
    Rg msk b₀ (State.readLatch s off) := by
  refine Rg.step h₀ ?_ hm₀
  clear h₀ hm₀
  unfold State.readLatch
  try dsimp only
  repeat' (first
    | with_reducible exact Rg.refl _ _
    | exact (rfl : (_ : Nat) = _)
    | with_reducible refine State.latchHealth_rg ?_ ?_
    | with_reducible refine State.latchLoss_rg ?_ ?_
    | with_reducible refine Rg.ite ?_ ?_)

theorem execLoRegisterRead_rg {msk : Nat} {b₀ : State} {off : Nat} {s : State} (_ : Rg msk b₀ s) (hm₀ : 57586096570152913699974892898380567793532123114264532903689671329431521032595044740083720782129802971518987656109067457577065805510327036019308994315074097345724415 ||| msk = msk) :
    RgO msk b₀ (execLoRegisterRead off s) :=
  RgO.any (by rw [← hm₀, Nat.testBit_or]; rfl)

theorem execRcRegisterRead_rg {msk : Nat} {b₀ : State} {off : Nat} {s : State} (_ : Rg msk b₀ s) (hm₀ : 57586096570152913699974892898380567793532123114264532903689671329431521032595044740083720782129802971518987656109067457577065805510327036019308994315074097345724415 ||| msk = msk) :
    RgO msk b₀ (execRcRegisterRead off s) :=
  RgO.any (by rw [← hm₀, Nat.testBit_or]; rfl)

end Sys2Proof.Machine
end

