-- ==== Sys2Proof/Laws/RgWrites.lean ====
section
/-! SUPPORT. Register frames of the operations of Machine.Writes: the registers that each may write. -/

set_option maxRecDepth 20000
set_option Elab.async false
set_option linter.unusedTactic false
set_option linter.unreachableTactic false
set_option linter.unusedVariables false

namespace Sys2Proof.Machine

theorem Out.st_rg {msk : Nat} {b₀ : State} {o : Out} {s : State} (h₀ : Rg msk b₀ s) (h : RgO msk b₀ o) : Rg msk b₀ (o.st s) := by
  cases o
  · exact h.get _ rfl
  all_goals exact h₀

theorem State.trainWrite_rg {msk : Nat} {b₀ : State} {s : State} {k : LinkEnd} {on : Bool} {now : Bool} (h₀ : Rg msk b₀ s) (hm₀ : 96107167241834975113312584178489302142293605565962147399795260578865889356825349097118266508054283673840664092469141759722009579637616990336805001802977185568 ||| msk = msk) :
    Rg msk b₀ (State.trainWrite s k on now) := by
  refine Rg.step h₀ ?_ hm₀
  clear h₀ hm₀
  unfold State.trainWrite
  try dsimp only
  repeat' (first
    | with_reducible exact Rg.refl _ _
    | with_reducible assumption
    | exact (rfl : (_ : Nat) = _)
    | with_reducible refine State.putBit_rg ?_ ?_
    | with_reducible refine State.trainStart_rg ?_ ?_
    | with_reducible refine State.setLinkState_rg ?_ ?_
    | with_reducible refine State.linkGoesDown_rg ?_ ?_
    | with_reducible refine LinkEnd.ctrl_in ?_ ?_
    | with_reducible refine in_MLK_CTRL ?_
    | with_reducible refine in_TL_CTRL ?_
    | with_reducible refine InSet.ite ?_ ?_
    | exact (rfl : (_ : Bool) = _)
    | dsimp only
    | with_reducible refine Rg.ite ?_ ?_
    | with_reducible refine Rg.ite₁ ?_ ?_
    | with_reducible refine RgS.ite ?_ ?_
    | with_reducible refine RgP.ite ?_ ?_
    | with_reducible exact RgS.none
    | with_reducible refine RgS.some ?_
    | with_reducible refine RgS.map ?_
    | with_reducible exact RgP.none
    | with_reducible refine RgP.some ?_
    | with_reducible refine Rg.elim ?_ ?_
    | with_reducible refine Rg.foldl ?_ _ _ ?_
    | with_reducible refine Rg.foldl₂ ?_ _ _ ?_
    | intro _ _ _ _ _ _
    | intro _ _ _ _ _
    | intro _ _ _ _
    | intro _ _ _
    | intro _ _
    | intro _
    | with_reducible refine Rg.pair (h := ?_) (e := by assumption)
    | with_reducible refine RgO.got (h := ?_) (e := by assumption)
    | with_reducible refine RgS.get (h := ?_) (e := by assumption)
    | with_reducible refine RgP.get (h := ?_) (e := by assumption)
    | split)

theorem State.ownAct_rg {msk : Nat} {b₀ : State} {s : State} {off : Nat} {v : Word} {now : Bool} (h₀ : Rg msk b₀ s) (hm₀ : 56332529599031789760245043930253262538013507584339920061159239918226835647750423728085126842806689998047852047011480330799827993729308551904708695102077121171232 ||| msk = msk) :
    Rg msk b₀ (State.ownAct s off v now) := by
  refine Rg.step h₀ ?_ hm₀
  clear h₀ hm₀
  unfold State.ownAct
  try dsimp only
  repeat' (first
    | with_reducible exact Rg.refl _ _
    | with_reducible assumption
    | exact (rfl : (_ : Nat) = _)
    | with_reducible refine State.lateCheck_rg ?_ ?_
    | with_reducible refine State.putBit_rg ?_ ?_
    | with_reducible refine State.ungate_rg ?_ ?_
    | with_reducible refine State.startLifeSave_rg ?_ ?_
    | with_reducible refine Out.st_rg ?_ ?_
    | with_reducible refine execChipInjEn_rg ?_ ?_
    | with_reducible refine State.wr_rg ?_ ?_
    | with_reducible refine execModRstAssert_rg ?_ ?_
    | with_reducible refine execModRstRelease_rg ?_ ?_
    | with_reducible refine execGsiTxProdWrite_rg ?_ ?_
    | with_reducible refine State.trainWrite_rg ?_ ?_
    | with_reducible refine execEthModeWrite_rg ?_ ?_
    | with_reducible refine in_CAL_CTRL ?_
    | with_reducible refine in_EVT_ARM ?_
    | with_reducible refine in_EVT_ARM4 ?_
    | with_reducible refine in_LIFE_CTRL ?_
    | with_reducible refine in_STR_CTRL ?_
    | with_reducible refine InSet.ite ?_ ?_
    | exact (rfl : (_ : Bool) = _)
    | exact in_EVT_ARM_or ‹_› rfl
    | split
    | dsimp only
    | with_reducible refine Rg.ite ?_ ?_
    | with_reducible refine Rg.ite₁ ?_ ?_
    | with_reducible refine RgS.ite ?_ ?_
    | with_reducible refine RgP.ite ?_ ?_
    | with_reducible exact RgS.none
    | with_reducible refine RgS.some ?_
    | with_reducible refine RgS.map ?_
    | with_reducible exact RgP.none
    | with_reducible refine RgP.some ?_
    | with_reducible refine Rg.elim ?_ ?_
    | with_reducible refine Rg.foldl ?_ _ _ ?_
    | with_reducible refine Rg.foldl₂ ?_ _ _ ?_
    | intro _ _ _ _ _ _
    | intro _ _ _ _ _
    | intro _ _ _ _
    | intro _ _ _
    | intro _ _
    | intro _
    | with_reducible refine Rg.pair (h := ?_) (e := by assumption)
    | with_reducible refine RgO.got (h := ?_) (e := by assumption)
    | with_reducible refine RgS.get (h := ?_) (e := by assumption)
    | with_reducible refine RgP.get (h := ?_) (e := by assumption)
    | split)

theorem State.headerAct_rg {msk : Nat} {b₀ : State} {s : State} {p : Nat} {o : Nat} {v : Word} (h₀ : Rg msk b₀ s) (hm₀ : 96107167241834975113312584178489302142293605564759693426004588894417285174339314651986626222954283729664672024879809959352794238588654061432213649874520969016 ||| msk = msk) :
    Rg msk b₀ (State.headerAct s p o v) := by
  refine Rg.step h₀ ?_ hm₀
  clear h₀ hm₀
  unfold State.headerAct
  try dsimp only
  repeat' (first
    | with_reducible exact Rg.refl _ _
    | with_reducible assumption
    | exact (rfl : (_ : Nat) = _)
    | with_reducible refine State.putBit_rg ?_ ?_
    | with_reducible refine Out.st_rg ?_ ?_
    | with_reducible refine execPgCommit_rg ?_ ?_
    | with_reducible refine execPgSoftReset_rg ?_ ?_
    | with_reducible refine execPgEventForce_rg ?_ ?_
    | with_reducible refine execErrRearm_rg ?_ ?_
    | with_reducible refine State.injectWrite_rg ?_ ?_
    | with_reducible refine in_PG_CTRL ?_
    | with_reducible refine InSet.ite ?_ ?_
    | exact (rfl : (_ : Bool) = _)
    | dsimp only
    | with_reducible refine Rg.ite ?_ ?_
    | with_reducible refine Rg.ite₁ ?_ ?_
    | with_reducible refine RgS.ite ?_ ?_
    | with_reducible refine RgP.ite ?_ ?_
    | with_reducible exact RgS.none
    | with_reducible refine RgS.some ?_
    | with_reducible refine RgS.map ?_
    | with_reducible exact RgP.none
    | with_reducible refine RgP.some ?_
    | with_reducible refine Rg.elim ?_ ?_
    | with_reducible refine Rg.foldl ?_ _ _ ?_
    | with_reducible refine Rg.foldl₂ ?_ _ _ ?_
    | intro _ _ _ _ _ _
    | intro _ _ _ _ _
    | intro _ _ _ _
    | intro _ _ _
    | intro _ _
    | intro _
    | with_reducible refine Rg.pair (h := ?_) (e := by assumption)
    | with_reducible refine RgO.got (h := ?_) (e := by assumption)
    | with_reducible refine RgS.get (h := ?_) (e := by assumption)
    | with_reducible refine RgP.get (h := ?_) (e := by assumption)
    | split)

theorem State.opAct_rg {msk : Nat} {b₀ : State} {s : State} {off : Nat} {v : Word} (h₀ : Rg msk b₀ s) (hm₀ : 96107167241834975113359283566525294885011714835616375599587906281836075372096554029631927890116323299682800740960964168071385965583596984147411752650939631392 ||| msk = msk) :
    Rg msk b₀ (State.opAct s off v) := by
  refine Rg.step h₀ ?_ hm₀
  clear h₀ hm₀
  unfold State.opAct
  try dsimp only
  repeat' (first
    | with_reducible exact Rg.refl _ _
    | with_reducible assumption
    | exact (rfl : (_ : Nat) = _)
    | with_reducible refine State.raise_rg ?_ ?_
    | with_reducible refine State.rmaDone_rg ?_ ?_
    | with_reducible refine State.writeDiscarded_rg ?_ ?_
    | with_reducible refine State.ftlAnswer_rg ?_ ?_
    | with_reducible refine State.spAnswer_rg ?_ ?_
    | with_reducible refine State.rpAnswer_rg ?_ ?_
    | with_reducible refine Out.st_rg ?_ ?_
    | with_reducible refine execTdCmdInvalid_rg ?_ ?_
    | with_reducible refine execKsInvalidOp_rg ?_ ?_
    | dsimp only
    | with_reducible refine Rg.ite ?_ ?_
    | with_reducible refine Rg.ite₁ ?_ ?_
    | with_reducible refine RgS.ite ?_ ?_
    | with_reducible refine RgP.ite ?_ ?_
    | with_reducible exact RgS.none
    | with_reducible refine RgS.some ?_
    | with_reducible refine RgS.map ?_
    | with_reducible exact RgP.none
    | with_reducible refine RgP.some ?_
    | with_reducible refine Rg.elim ?_ ?_
    | with_reducible refine Rg.foldl ?_ _ _ ?_
    | with_reducible refine Rg.foldl₂ ?_ _ _ ?_
    | intro _ _ _ _ _ _
    | intro _ _ _ _ _
    | intro _ _ _ _
    | intro _ _ _
    | intro _ _
    | intro _
    | with_reducible refine Rg.pair (h := ?_) (e := by assumption)
    | with_reducible refine RgO.got (h := ?_) (e := by assumption)
    | with_reducible refine RgS.get (h := ?_) (e := by assumption)
    | with_reducible refine RgP.get (h := ?_) (e := by assumption)
    | split)

theorem State.write4_rg {msk : Nat} {b₀ : State} {s : State} {off : Nat} {v : Word} {path : optParam Nat 0} (_ : Rg msk b₀ s) (hm₀ : 57586096570152913699974892898380567793532123114264532903689671329431521032595044740083720782129802971518987656109067457577065805510327036019308994315074097345724415 ||| msk = msk) :
    Rg msk b₀ (State.write4 s off v path) :=
  Rg.any (by rw [← hm₀, Nat.testBit_or]; rfl)

theorem execAccessSize_rg {msk : Nat} {b₀ : State} {off : Nat} {size : Nat} {write : Option DWord} {s : State} (_ : Rg msk b₀ s) (hm₀ : 57586096570152913699974892898380567793532123114264532903689671329431521032595044740083720782129802971518987656109067457577065805510327036019308994315074097345724415 ||| msk = msk) :
    RgO msk b₀ (execAccessSize off size write s) :=
  RgO.any (by rw [← hm₀, Nat.testBit_or]; rfl)

theorem execRegisterWrite_rg {msk : Nat} {b₀ : State} {t : RegTarget} {v : Word} {s : State} (_ : Rg msk b₀ s) (hm₀ : 57586096570152913699974892898380567793532123114264532903689671329431521032595044740083720782129802971518987656109067457577065805510327036019308994315074097345724415 ||| msk = msk) :
    RgO msk b₀ (execRegisterWrite t v s) :=
  RgO.any (by rw [← hm₀, Nat.testBit_or]; rfl)

theorem execHiRegisterWrite_rg {msk : Nat} {b₀ : State} {off : Nat} {v : Word} {s : State} (_ : Rg msk b₀ s) (hm₀ : 57586096570152913699974892898380567793532123114264532903689671329431521032595044740083720782129802971518987656109067457577065805510327036019308994315074097345724415 ||| msk = msk) :
    RgO msk b₀ (execHiRegisterWrite off v s) :=
  RgO.any (by rw [← hm₀, Nat.testBit_or]; rfl)

end Sys2Proof.Machine
end

