-- ==== Sys2Proof/Laws/RgService.lean ====
section
/-! SUPPORT. Register frames of the operations of Machine.Service: the registers that each may write. -/

set_option maxRecDepth 20000
set_option Elab.async false
set_option linter.unusedTactic false
set_option linter.unreachableTactic false
set_option linter.unusedVariables false

namespace Sys2Proof.Machine

theorem State.sessionRecord_rg {msk : Nat} {b₀ : State} {s : State} {x : Session} {ev : Nat} (h₀ : Rg msk b₀ s) (hm₀ : 96107167241834975113312584178489302142293605564759693426004588894417285174339314651986626222954283729664672024879809959352794238588654061432213649874520966944 ||| msk = msk) :
    Rg msk b₀ (State.sessionRecord s x ev) := by
  refine Rg.step h₀ ?_ hm₀
  clear h₀ hm₀
  unfold State.sessionRecord
  try dsimp only
  repeat' (first
    | with_reducible exact Rg.refl _ _
    | exact (rfl : (_ : Nat) = _)
    | with_reducible refine State.record_rg ?_ ?_)

theorem State.setSessions_rg {msk : Nat} {b₀ : State} {s : State} {l : Amap Session} (h₀ : Rg msk b₀ s) (hm₀ : 209496998905353079680844140596966345741865090946756146526930647558152562969899171512529285908857866057656747784163844544589904418936665155413025765720064 ||| msk = msk) :
    Rg msk b₀ (State.setSessions s l) := by
  refine Rg.step h₀ ?_ hm₀
  clear h₀ hm₀
  unfold State.setSessions
  try dsimp only
  repeat' (first
    | with_reducible exact Rg.refl _ _
    | with_reducible refine State.putFld_rg ?_ ?_
    | with_reducible refine in_SVC_STATUS ?_
    | exact (rfl : (_ : Bool) = _)
    | refine Rg.mk' ?_)

theorem State.sessionClose_rg {msk : Nat} {b₀ : State} {s : State} {i : Nat} {x : Session} {ev : Nat} (h₀ : Rg msk b₀ s) (hm₀ : 96107376738833880466392265022629899108639347429850640182151115825064843326902284551158138752240192587530729681627594123197338828493072998097369062900286687008 ||| msk = msk) :
    Rg msk b₀ (State.sessionClose s i x ev) := by
  refine Rg.step h₀ ?_ hm₀
  clear h₀ hm₀
  unfold State.sessionClose
  try dsimp only
  repeat' (first
    | with_reducible exact Rg.refl _ _
    | exact (rfl : (_ : Nat) = _)
    | with_reducible refine State.sessionRecord_rg ?_ ?_
    | with_reducible refine State.setSessions_rg ?_ ?_
    | with_reducible refine State.stagingAbort_rg ?_ ?_
    | with_reducible refine Rg.ite ?_ ?_
    | split)

theorem State.mysynFail_rg {msk : Nat} {b₀ : State} {s : State} {x : Option (Nat × Session)} (h₀ : Rg msk b₀ s) (hm₀ : 96161007970553650854790561122622722493149264893133009755662010070839730383022578739065346249432860201241489809060340067400753844024320784377154797496311023392 ||| msk = msk) :
    Rg msk b₀ (State.mysynFail s x) := by
  refine Rg.step h₀ ?_ hm₀
  clear h₀ hm₀
  unfold State.mysynFail
  try dsimp only
  repeat' (first
    | with_reducible exact Rg.refl _ _
    | exact (rfl : (_ : Nat) = _)
    | with_reducible refine State.raise_rg ?_ ?_
    | with_reducible refine State.event_rg ?_ ?_
    | with_reducible refine State.count_rg ?_ ?_
    | with_reducible refine State.sessionClose_rg ?_ ?_
    | with_reducible refine State.setSessions_rg ?_ ?_
    | with_reducible refine in_SVC_AUTH_FAIL ?_
    | exact (rfl : (_ : Bool) = _)
    | with_reducible refine Rg.ite ?_ ?_
    | split)

theorem State.mysynGate_rg {msk : Nat} {b₀ : State} {s : State} {typ : Nat} {auth : Bool} {m : MysynMsg} (h₀ : Rg msk b₀ s) (hm₀ : 96375532897432732408383745522594016031188934746262488049705587053939278607503755490694176238203530656084530318791323844214413906149311929496297735880408368928 ||| msk = msk) :
    Rg msk b₀ (State.mysynGate s typ auth m).1 := by
  refine Rg.step h₀ ?_ hm₀
  clear h₀ hm₀
  unfold State.mysynGate
  try dsimp only
  repeat' (first
    | with_reducible exact Rg.refl _ _
    | exact (rfl : (_ : Nat) = _)
    | with_reducible refine State.mysynFail_rg ?_ ?_
    | with_reducible refine State.setSessions_rg ?_ ?_
    | with_reducible refine State.count_rg ?_ ?_
    | with_reducible refine State.emit_rg ?_ ?_
    | with_reducible refine in_SVC_MSG_RX ?_
    | exact (rfl : (_ : Bool) = _)
    | with_reducible refine Rg.ite₁ ?_ ?_
    | split)

theorem State.mysynReply_rg {msk : Nat} {b₀ : State} {s : State} {i : Nat} {x : Session} {m : MysynMsg} {typ : Nat} {status : Nat} {payload : List Byte} (h₀ : Rg msk b₀ s) (hm₀ : 209496998905353079680844140596966345741865090946756146526930647558152562969899171512529285908857866057656747784163844544589904418936665155413025765720064 ||| msk = msk) :
    Rg msk b₀ (State.mysynReply s i x m typ status payload) := by
  refine Rg.step h₀ ?_ hm₀
  clear h₀ hm₀
  unfold State.mysynReply
  try dsimp only
  repeat' (first
    | with_reducible exact Rg.refl _ _
    | exact (rfl : (_ : Nat) = _)
    | with_reducible refine State.emit_rg ?_ ?_
    | with_reducible refine State.setSessions_rg ?_ ?_)

theorem execMysynAuth_rg {msk : Nat} {b₀ : State} {m : MysynMsg} {s : State} (h₀ : Rg msk b₀ s) (hm₀ : 96375532897432732408383745522594016031188934746262488049705587053939278607503755490694176238203530656084530318791323844214413906149311929496297735880408368928 ||| msk = msk) :
    RgO msk b₀ (execMysynAuth m s) := by
  refine RgO.step h₀ ?_ hm₀
  clear h₀ hm₀
  unfold execMysynAuth
  try dsimp only
  repeat' (first
    | with_reducible exact Rg.refl _ _
    | exact (rfl : (_ : Nat) = _)
    | with_reducible refine State.mysynGate_rg ?_ ?_
    | with_reducible refine State.event_rg ?_ ?_
    | with_reducible refine State.sessionRecord_rg ?_ ?_
    | with_reducible refine State.setSessions_rg ?_ ?_
    | with_reducible refine State.mysynReply_rg ?_ ?_
    | with_reducible refine Rg.ite ?_ ?_
    | with_reducible refine RgO.next ?_
    | with_reducible refine Rg.pair (h := ?_) (e := by assumption)
    | split)

theorem execSessionIdleTimeout_rg {msk : Nat} {b₀ : State} {i : Nat} {s : State} (h₀ : Rg msk b₀ s) (hm₀ : 96107376738833880466392265022629899108639347429850640182151115825064843326902284551158138752240192587530729681627594123197338828493072998097369062900286687008 ||| msk = msk) :
    RgO msk b₀ (execSessionIdleTimeout i s) := by
  refine RgO.step h₀ ?_ hm₀
  clear h₀ hm₀
  unfold execSessionIdleTimeout
  try dsimp only
  repeat' (first
    | with_reducible exact Rg.refl _ _
    | exact (rfl : (_ : Nat) = _)
    | with_reducible refine State.sessionClose_rg ?_ ?_
    | with_reducible refine Rg.ite ?_ ?_
    | with_reducible refine RgO.next ?_
    | split)

theorem execMysynOpen_rg {msk : Nat} {b₀ : State} {m : MysynMsg} {id : Nat} {nonce : List Byte} {s : State} (h₀ : Rg msk b₀ s) (hm₀ : 321996887317527683469457444097537273405246644785164197211892405296880489284735026614757512441914540130618421344259829065034683091905654343869820601911738368 ||| msk = msk) :
    RgO msk b₀ (execMysynOpen m id nonce s) := by
  refine RgO.step h₀ ?_ hm₀
  clear h₀ hm₀
  unfold execMysynOpen
  try dsimp only
  repeat' (first
    | with_reducible exact Rg.refl _ _
    | exact (rfl : (_ : Nat) = _)
    | with_reducible refine State.count_rg ?_ ?_
    | with_reducible refine State.emit_rg ?_ ?_
    | with_reducible refine State.setSessions_rg ?_ ?_
    | with_reducible refine in_SVC_MSG_RX ?_
    | with_reducible refine in_SVC_RX_DROP ?_
    | exact (rfl : (_ : Bool) = _)
    | with_reducible refine RgO.ite ?_ ?_
    | with_reducible refine RgO.next ?_
    | split
    | refine Rg.mk' ?_)

theorem execSvcLinkChange_rg {msk : Nat} {b₀ : State} {up : Bool} {speed : Nat} {full : Bool} {s : State} (h₀ : Rg msk b₀ s) (hm₀ : 209496998905353079680844140596966345741865090946756146526930647558152562969899171512529285908857866057656747784163844544589904418936665155413025765720096 ||| msk = msk) :
    RgO msk b₀ (execSvcLinkChange up speed full s) := by
  refine RgO.step h₀ ?_ hm₀
  clear h₀ hm₀
  unfold execSvcLinkChange
  try dsimp only
  repeat' (first
    | with_reducible exact Rg.refl _ _
    | exact (rfl : (_ : Nat) = _)
    | with_reducible refine State.event_rg ?_ ?_
    | with_reducible refine State.putFld_rg ?_ ?_
    | with_reducible refine in_SVC_STATUS ?_
    | exact (rfl : (_ : Bool) = _)
    | with_reducible refine RgO.next ?_)

theorem State.mysynRun_rg {msk : Nat} {b₀ : State} {s : State} {typ : Nat} {maintain : Bool} {okStopped : Bool} {okRecovery : Bool} {m : MysynMsg} {f : State → Session → State × Nat × List Byte} (hf : ∀ t0 t1, Rg msk b₀ t0 → Rg msk b₀ (f t0 t1).1) (h₀ : Rg msk b₀ s) (hm₀ : 96375532897432732408383745522594016031188934746262488049705587053939278607503755490694176238203530656084530318791323844214413906149311929496297735880408368928 ||| msk = msk) :
    Rg msk b₀ (State.mysynRun s typ maintain okStopped okRecovery m f) := by
  unfold State.mysynRun
  try dsimp only
  repeat' (first
    | with_reducible assumption
    | exact Rg.sub rfl hm₀
    | with_reducible refine State.mysynGate_rg ?_ ?_
    | with_reducible refine State.mysynReply_rg ?_ ?_
    | with_reducible refine State.useFree_rg ?_ ?_
    | with_reducible refine hf _ _ ?_
    | with_reducible refine Rg.ite ?_ ?_
    | with_reducible refine Rg.pair (h := ?_) (e := by assumption)
    | split)

theorem execMysynTackWrite_rg {msk : Nat} {b₀ : State} {m : MysynMsg} {readBack : Option (List Byte)} {bothB : Bool} {s : State} (h₀ : Rg msk b₀ s) (hm₀ : 96375533000525356534019072971739882947878458827304193113073594339912078042172031793478116077056519403653289174373448417567746220648585878329114069835335141152 ||| msk = msk) :
    RgO msk b₀ (execMysynTackWrite m readBack bothB s) := by
  refine RgO.step h₀ ?_ hm₀
  clear h₀ hm₀
  unfold execMysynTackWrite
  try dsimp only
  repeat' (first
    | with_reducible exact Rg.refl _ _
    | with_reducible assumption
    | exact (rfl : (_ : Nat) = _)
    | with_reducible refine State.mysynRun_rg ?_ ?_ ?_
    | with_reducible refine State.tackWrite_rg ?_ ?_
    | dsimp only
    | with_reducible refine Rg.ite₁ ?_ ?_
    | with_reducible refine RgO.next ?_
    | intro _ _ _
    | refine Rg.mk' ?_)

theorem State.relayRead_rg {msk : Nat} {b₀ : State} {s : State} {off : Nat} (_ : Rg msk b₀ s) (hm₀ : 57586096570152913699974892898380567793532123114264532903689671329431521032595044740083720782129802971518987656109067457577065805510327036019308994315074097345724415 ||| msk = msk) :
    Rg msk b₀ (State.relayRead s off).1 :=
  Rg.any (by rw [← hm₀, Nat.testBit_or]; rfl)

theorem execMysynReset_rg {msk : Nat} {b₀ : State} {m : MysynMsg} {s : State} (_ : Rg msk b₀ s) (hm₀ : 57586096570152913699974892898380567793532123114264532903689671329431521032595044740083720782129802971518987656109067457577065805510327036019308994315074097345724415 ||| msk = msk) :
    RgO msk b₀ (execMysynReset m s) :=
  RgO.any (by rw [← hm₀, Nat.testBit_or]; rfl)

theorem execMysynStbRead_rg {msk : Nat} {b₀ : State} {m : MysynMsg} {s : State} (h₀ : Rg msk b₀ s) (hm₀ : 96375532897432732408383745522594016031188934746262488049705587053939278607503755490694176238203530656084530318791323844214413906149311929496297735880408368928 ||| msk = msk) :
    RgO msk b₀ (execMysynStbRead m s) := by
  refine RgO.step h₀ ?_ hm₀
  clear h₀ hm₀
  unfold execMysynStbRead
  try dsimp only
  repeat' (first
    | with_reducible exact Rg.refl _ _
    | with_reducible assumption
    | exact (rfl : (_ : Nat) = _)
    | with_reducible refine State.mysynRun_rg ?_ ?_ ?_
    | with_reducible refine Rg.ite₁ ?_ ?_
    | with_reducible refine RgO.next ?_
    | intro _ _ _)

theorem execSvcFrameRx_rg {msk : Nat} {b₀ : State} {kind : SvcFrame} {toMe : Bool} {s : State} (h₀ : Rg msk b₀ s) (hm₀ : 107262463439540776796592199985646769019834926564739147021788491549774112240588375814414994385335227421520254865491888406830031062495572559571469192048672768 ||| msk = msk) :
    RgO msk b₀ (execSvcFrameRx kind toMe s) := by
  refine RgO.step h₀ ?_ hm₀
  clear h₀ hm₀
  unfold execSvcFrameRx
  try dsimp only
  repeat' (first
    | with_reducible exact Rg.refl _ _
    | with_reducible refine State.count_rg ?_ ?_
    | with_reducible refine in_SVC_RX_DROP ?_
    | exact (rfl : (_ : Bool) = _)
    | with_reducible refine Rg.ite ?_ ?_
    | with_reducible refine RgO.next ?_)

theorem State.relayWrites_rg {msk : Nat} {b₀ : State} {s : State} {x1 : Nat} {x2 : List Byte} (_ : Rg msk b₀ s) (hm₀ : 57586096570152913699974892898380567793532123114264532903689671329431521032595044740083720782129802971518987656109067457577065805510327036019308994315074097345724415 ||| msk = msk) :
    Rg msk b₀ (State.relayWrites s x1 x2) :=
  Rg.any (by rw [← hm₀, Nat.testBit_or]; rfl)

theorem State.relayReads_rg {msk : Nat} {b₀ : State} {s : State} {x1 : Nat} {x2 : Nat} (_ : Rg msk b₀ s) (hm₀ : 57586096570152913699974892898380567793532123114264532903689671329431521032595044740083720782129802971518987656109067457577065805510327036019308994315074097345724415 ||| msk = msk) :
    Rg msk b₀ (State.relayReads s x1 x2).1 :=
  Rg.any (by rw [← hm₀, Nat.testBit_or]; rfl)

theorem execMysynTackRead_rg {msk : Nat} {b₀ : State} {m : MysynMsg} {s : State} (h₀ : Rg msk b₀ s) (hm₀ : 96375532897432732408383745522594016031188934746262488049705587053939278607503755490694176238203530656084530318791323844214413906149311929496297735880408368928 ||| msk = msk) :
    RgO msk b₀ (execMysynTackRead m s) := by
  refine RgO.step h₀ ?_ hm₀
  clear h₀ hm₀
  unfold execMysynTackRead
  try dsimp only
  repeat' (first
    | with_reducible exact Rg.refl _ _
    | with_reducible assumption
    | exact (rfl : (_ : Nat) = _)
    | with_reducible refine State.mysynRun_rg ?_ ?_ ?_
    | with_reducible refine State.useFree_rg ?_ ?_
    | with_reducible refine Rg.ite₁ ?_ ?_
    | with_reducible refine RgO.next ?_
    | intro _ _ _)

theorem execMysynClose_rg {msk : Nat} {b₀ : State} {m : MysynMsg} {s : State} (h₀ : Rg msk b₀ s) (hm₀ : 96375532897432732408383745522594016031188934746262488049705587053939278607503755490694176238203530656084530318791323844214413906149311929496297735880408368928 ||| msk = msk) :
    RgO msk b₀ (execMysynClose m s) := by
  refine RgO.step h₀ ?_ hm₀
  clear h₀ hm₀
  unfold execMysynClose
  try dsimp only
  repeat' (first
    | with_reducible exact Rg.refl _ _
    | exact (rfl : (_ : Nat) = _)
    | with_reducible refine State.mysynGate_rg ?_ ?_
    | with_reducible refine State.sessionClose_rg ?_ ?_
    | with_reducible refine State.mysynReply_rg ?_ ?_
    | with_reducible refine RgO.next ?_
    | with_reducible refine Rg.pair (h := ?_) (e := by assumption)
    | split)

theorem execMysynRegRead_rg {msk : Nat} {b₀ : State} {m : MysynMsg} {s : State} (_ : Rg msk b₀ s) (hm₀ : 57586096570152913699974892898380567793532123114264532903689671329431521032595044740083720782129802971518987656109067457577065805510327036019308994315074097345724415 ||| msk = msk) :
    RgO msk b₀ (execMysynRegRead m s) :=
  RgO.any (by rw [← hm₀, Nat.testBit_or]; rfl)

theorem execMysynRegWrite_rg {msk : Nat} {b₀ : State} {m : MysynMsg} {s : State} (_ : Rg msk b₀ s) (hm₀ : 57586096570152913699974892898380567793532123114264532903689671329431521032595044740083720782129802971518987656109067457577065805510327036019308994315074097345724415 ||| msk = msk) :
    RgO msk b₀ (execMysynRegWrite m s) :=
  RgO.any (by rw [← hm₀, Nat.testBit_or]; rfl)

end Sys2Proof.Machine
end

