-- ==== Sys2Proof/Laws/RgFirmware.lean ====
section
/-! SUPPORT. Register frames of the operations of Machine.Firmware: the registers that each may write. -/

set_option maxRecDepth 20000
set_option Elab.async false
set_option linter.unusedTactic false
set_option linter.unreachableTactic false
set_option linter.unusedVariables false

namespace Sys2Proof.Machine

theorem State.fwCmd_rg {msk : Nat} {b₀ s : State} {r : State × Nat × Bool} (hr : Rg msk b₀ r.1) (h₀ : Rg msk b₀ s)
    (hm₀ : 57586096570152913699974892898380567793532123114264532903689671329431521032595044740083720782129802971518987656109067457577065805510327036019308994315074097345724415 ||| msk = msk) : Rg msk b₀ (s.fwCmd r) := by
  unfold State.fwCmd
  dsimp only
  repeat' (first
    | with_reducible assumption
    | exact Rg.sub rfl hm₀
    | with_reducible refine State.writeDiscarded_rg ?_ ?_
    | with_reducible refine State.wrN_rg ?_ ?_
    | with_reducible refine State.powerReset_rg ?_ ?_
    | refine InSet.sub (M := 57586096570152913699974892898380567793532123114264532903689671329431521032595044740083720782129802971518987656109067457577065805510327036019308994315074097345724415) ?_ hm₀
    | with_reducible refine in_FW_CMD_STATUS ?_
    | exact (rfl : (_ : Bool) = _)
    | with_reducible refine Rg.ite ?_ ?_)

theorem State.fwActivate_rg {msk : Nat} {b₀ : State} {s : State} {force : Bool} (h₀ : Rg msk b₀ s) (hm₀ : 96107167241834975113312584178489302142293605564759693426004588894417285174339314651986626222954283729664672024879809959352794238588654061432213649874520966944 ||| msk = msk) :
    Rg msk b₀ (State.fwActivate s force).1 := by
  refine Rg.step h₀ ?_ hm₀
  clear h₀ hm₀
  unfold State.fwActivate
  try dsimp only
  repeat' (first
    | with_reducible exact Rg.refl _ _
    | exact (rfl : (_ : Nat) = _)
    | with_reducible refine State.record_rg ?_ ?_
    | with_reducible refine State.setFwSlot_rg ?_ ?_
    | with_reducible refine Rg.ite₁ ?_ ?_
    | split)

theorem State.fwShow_rg {msk : Nat} {b₀ : State} {s : State} (h₀ : Rg msk b₀ s) (hm₀ : 10297196490195914572472851198622089825904152950214958114091695188778314775096484078183839460992181832465944467087221287055682981999574965718861042436672585728 ||| msk = msk) :
    Rg msk b₀ (State.fwShow s) := by
  refine Rg.step h₀ ?_ hm₀
  clear h₀ hm₀
  unfold State.fwShow
  try dsimp only
  repeat' (first
    | with_reducible exact Rg.refl _ _
    | with_reducible refine State.wrN_rg ?_ ?_
    | with_reducible refine in_FW_FLOOR ?_
    | with_reducible refine in_FW_INST_BUILD ?_
    | exact (rfl : (_ : Bool) = _))

theorem State.fwCommit_rg {msk : Nat} {b₀ : State} {s : State} {hold : Bool} (h₀ : Rg msk b₀ s) (hm₀ : 106833413585789052792971804177053979044277098221233608128183438049394696398398152233428125661487806471816697511428998800035797344838211317389360569079388243744 ||| msk = msk) :
    Rg msk b₀ (State.fwCommit s hold).1 := by
  refine Rg.step h₀ ?_ hm₀
  clear h₀ hm₀
  unfold State.fwCommit
  try dsimp only
  repeat' (first
    | with_reducible exact Rg.refl _ _
    | exact (rfl : (_ : Nat) = _)
    | with_reducible refine State.setFwSlot_rg ?_ ?_
    | with_reducible refine State.event_rg ?_ ?_
    | with_reducible refine State.fwShow_rg ?_ ?_
    | with_reducible refine State.putFld_rg ?_ ?_
    | with_reducible refine State.record_rg ?_ ?_
    | with_reducible refine in_FW_RUN ?_
    | exact (rfl : (_ : Bool) = _)
    | with_reducible refine Rg.ite ?_ ?_
    | with_reducible refine Rg.ite₁ ?_ ?_
    | split
    | refine Rg.mk' ?_)

theorem State.fwRevert_rg {msk : Nat} {b₀ : State} {s : State} (h₀ : Rg msk b₀ s) (hm₀ : 41188785960783658289891404794488359303616611800859832456366780755113259100385936312735357843968727329863777868348885148222731927998299862875444169746690342912 ||| msk = msk) :
    Rg msk b₀ (State.fwRevert s).1 := by
  refine Rg.step h₀ ?_ hm₀
  clear h₀ hm₀
  unfold State.fwRevert
  try dsimp only
  repeat' (first
    | with_reducible exact Rg.refl _ _
    | exact (rfl : (_ : Nat) = _)
    | with_reducible refine State.setFwSlot_rg ?_ ?_
    | with_reducible refine Rg.ite₁ ?_ ?_)

theorem State.fwAbortStage_rg {msk : Nat} {b₀ : State} {s : State} (h₀ : Rg msk b₀ s) (hm₀ : 96107167241828536009746611187139505041772094202006275731522488428597604567567184729715834969260363769682148359480732012519707831996033013376036396075610800128 ||| msk = msk) :
    Rg msk b₀ (State.fwAbortStage s).1 := by
  refine Rg.step h₀ ?_ hm₀
  clear h₀ hm₀
  unfold State.fwAbortStage
  try dsimp only
  repeat' (first
    | with_reducible exact Rg.refl _ _
    | exact (rfl : (_ : Nat) = _)
    | with_reducible refine State.stagingAbort_rg ?_ ?_
    | with_reducible refine Rg.ite₁ ?_ ?_)

theorem State.fwWord_rg {msk : Nat} {b₀ : State} {s : State} {w : Nat} (h₀ : Rg msk b₀ s) (hm₀ : 106833413585789052792971804177053979044277098221233608128183438049394696398398152233428125661487806471816697511428998800035797344838211317389360569079388243744 ||| msk = msk) :
    Rg msk b₀ (State.fwWord s w).1 := by
  refine Rg.step h₀ ?_ hm₀
  clear h₀ hm₀
  unfold State.fwWord
  try dsimp only
  repeat' (first
    | with_reducible exact Rg.refl _ _
    | exact (rfl : (_ : Nat) = _)
    | with_reducible refine State.fwActivate_rg ?_ ?_
    | with_reducible refine State.fwCommit_rg ?_ ?_
    | with_reducible refine State.fwRevert_rg ?_ ?_
    | with_reducible refine State.fwAbortStage_rg ?_ ?_
    | split)

theorem execMysynFwCmd_rg {msk : Nat} {b₀ : State} {m : MysynMsg} {s : State} (_ : Rg msk b₀ s) (hm₀ : 57586096570152913699974892898380567793532123114264532903689671329431521032595044740083720782129802971518987656109067457577065805510327036019308994315074097345724415 ||| msk = msk) :
    RgO msk b₀ (execMysynFwCmd m s) :=
  RgO.any (by rw [← hm₀, Nat.testBit_or]; rfl)

theorem State.fwRefuse_rg {msk : Nat} {b₀ : State} {s : State} {h : List Byte} {result : Nat} (h₀ : Rg msk b₀ s) (hm₀ : 96107167241834975113312584178489302142293605564759693426004588894417285174339314651986626222954283729664672024879809959352794238588654061432213649874520966944 ||| msk = msk) :
    Rg msk b₀ (State.fwRefuse s h result) := by
  refine Rg.step h₀ ?_ hm₀
  clear h₀ hm₀
  unfold State.fwRefuse
  try dsimp only
  repeat' (first
    | with_reducible exact Rg.refl _ _
    | exact (rfl : (_ : Nat) = _)
    | with_reducible refine State.raise_rg ?_ ?_
    | with_reducible refine State.event_rg ?_ ?_
    | with_reducible refine State.record_rg ?_ ?_)

theorem execFwActivate_rg {msk : Nat} {b₀ : State} {force : Bool} {s : State} (_ : Rg msk b₀ s) (hm₀ : 57586096570152913699974892898380567793532123114264532903689671329431521032595044740083720782129802971518987656109067457577065805510327036019308994315074097345724415 ||| msk = msk) :
    RgO msk b₀ (execFwActivate force s) :=
  RgO.any (by rw [← hm₀, Nat.testBit_or]; rfl)

theorem execFwAbortStage_rg {msk : Nat} {b₀ : State} {s : State} (_ : Rg msk b₀ s) (hm₀ : 57586096570152913699974892898380567793532123114264532903689671329431521032595044740083720782129802971518987656109067457577065805510327036019308994315074097345724415 ||| msk = msk) :
    RgO msk b₀ (execFwAbortStage s) :=
  RgO.any (by rw [← hm₀, Nat.testBit_or]; rfl)

theorem State.fwAdmit_rg {msk : Nat} {b₀ : State} {s : State} (h₀ : Rg msk b₀ s) (hm₀ : 6097165137335922326917182089439777940915230747392521779021790936768304177382354726797472857545882756171536974846497310342671827498609932238880 ||| msk = msk) :
    Rg msk b₀ (State.fwAdmit s).1 := by
  refine Rg.step h₀ ?_ hm₀
  clear h₀ hm₀
  unfold State.fwAdmit
  try dsimp only
  repeat' (first
    | with_reducible exact Rg.refl _ _
    | exact (rfl : (_ : Nat) = _)
    | with_reducible refine State.actStart_rg ?_ ?_
    | with_reducible refine State.actEnd_rg ?_ ?_
    | with_reducible refine Rg.ite₁ ?_ ?_)

theorem execMysynImageBegin_rg {msk : Nat} {b₀ : State} {m : MysynMsg} {s : State} (h₀ : Rg msk b₀ s) (hm₀ : 216509491949718408517732146842440724250586141938548273629339444982208063338753673171143147332133712165660073314024995031401023542641663538888170729584854107936 ||| msk = msk) :
    RgO msk b₀ (execMysynImageBegin m s) := by
  refine RgO.step h₀ ?_ hm₀
  clear h₀ hm₀
  unfold execMysynImageBegin
  try dsimp only
  repeat' (first
    | with_reducible exact Rg.refl _ _
    | with_reducible assumption
    | exact (rfl : (_ : Nat) = _)
    | with_reducible refine State.mysynRun_rg ?_ ?_ ?_
    | with_reducible refine State.fwRefuse_rg ?_ ?_
    | with_reducible refine State.fwAdmit_rg ?_ ?_
    | with_reducible refine State.setFwSlot_rg ?_ ?_
    | with_reducible refine State.fwShow_rg ?_ ?_
    | with_reducible refine State.wrN_rg ?_ ?_
    | with_reducible refine State.putFld_rg ?_ ?_
    | with_reducible refine in_FW_STAGE ?_
    | with_reducible refine in_FW_STAGE_BYTES ?_
    | exact (rfl : (_ : Bool) = _)
    | with_reducible refine Rg.ite₁ ?_ ?_
    | with_reducible refine RgO.next ?_
    | intro _ _ _
    | with_reducible refine Rg.pair (h := ?_) (e := by assumption)
    | split
    | refine Rg.mk' ?_)

theorem execMysynImageAbort_rg {msk : Nat} {b₀ : State} {m : MysynMsg} {s : State} (h₀ : Rg msk b₀ s) (hm₀ : 96375532897432732408383745522594016031188934746262488049705587053939278607503755490694176238203530656084530318791323844214413906149311929496297735880408368928 ||| msk = msk) :
    RgO msk b₀ (execMysynImageAbort m s) := by
  refine RgO.step h₀ ?_ hm₀
  clear h₀ hm₀
  unfold execMysynImageAbort
  try dsimp only
  repeat' (first
    | with_reducible exact Rg.refl _ _
    | with_reducible assumption
    | exact (rfl : (_ : Nat) = _)
    | with_reducible refine State.mysynRun_rg ?_ ?_ ?_
    | with_reducible refine State.stagingAbort_rg ?_ ?_
    | with_reducible refine Rg.ite₁ ?_ ?_
    | with_reducible refine RgO.next ?_
    | intro _ _ _)

theorem execMysynFwStatus_rg {msk : Nat} {b₀ : State} {m : MysynMsg} {s : State} (h₀ : Rg msk b₀ s) (hm₀ : 96375532897432732408383745522594016031188934746262488049705587053939278607503755490694176238203530656084530318791323844214413906149311929496297735880408368928 ||| msk = msk) :
    RgO msk b₀ (execMysynFwStatus m s) := by
  refine RgO.step h₀ ?_ hm₀
  clear h₀ hm₀
  unfold execMysynFwStatus
  try dsimp only
  repeat' (first
    | with_reducible exact Rg.refl _ _
    | with_reducible assumption
    | exact (rfl : (_ : Nat) = _)
    | with_reducible refine State.mysynRun_rg ?_ ?_ ?_
    | dsimp only
    | with_reducible refine RgO.next ?_
    | intro _ _ _)

theorem State.stagingFlash_rg {msk : Nat} {b₀ : State} {s : State} (h₀ : Rg msk b₀ s) (hm₀ : 96107167241834975113312584178489302142293605564759693426004588894417285174339314651986626222954283729664672024879809959352794238588654061432213649874520966944 ||| msk = msk) :
    Rg msk b₀ (State.stagingFlash s) := by
  refine Rg.step h₀ ?_ hm₀
  clear h₀ hm₀
  unfold State.stagingFlash
  try dsimp only
  repeat' (first
    | with_reducible exact Rg.refl _ _
    | exact (rfl : (_ : Nat) = _)
    | with_reducible refine State.raise_rg ?_ ?_
    | with_reducible refine State.stagingEnd_rg ?_ ?_)

theorem execMysynImageData_rg {msk : Nat} {b₀ : State} {m : MysynMsg} {flashOk : Bool} {s : State} (h₀ : Rg msk b₀ s) (hm₀ : 206212295459522487848094158307896307507499899548555374600017002400907969541866252324655130488786803535721271301055017572808365714144778230497482188538249283360 ||| msk = msk) :
    RgO msk b₀ (execMysynImageData m flashOk s) := by
  refine RgO.step h₀ ?_ hm₀
  clear h₀ hm₀
  unfold execMysynImageData
  try dsimp only
  repeat' (first
    | with_reducible exact Rg.refl _ _
    | with_reducible assumption
    | exact (rfl : (_ : Nat) = _)
    | with_reducible refine State.mysynRun_rg ?_ ?_ ?_
    | with_reducible refine State.useFree_rg ?_ ?_
    | with_reducible refine State.stagingFlash_rg ?_ ?_
    | with_reducible refine State.wrN_rg ?_ ?_
    | with_reducible refine in_FW_STAGE_BYTES ?_
    | exact (rfl : (_ : Bool) = _)
    | with_reducible refine Rg.ite₁ ?_ ?_
    | with_reducible refine RgO.next ?_
    | intro _ _ _
    | split
    | refine Rg.mk' ?_)

theorem execFwCommit_rg {msk : Nat} {b₀ : State} {hold : Bool} {s : State} (_ : Rg msk b₀ s) (hm₀ : 57586096570152913699974892898380567793532123114264532903689671329431521032595044740083720782129802971518987656109067457577065805510327036019308994315074097345724415 ||| msk = msk) :
    RgO msk b₀ (execFwCommit hold s) :=
  RgO.any (by rw [← hm₀, Nat.testBit_or]; rfl)

theorem State.fwStaged_rg {msk : Nat} {b₀ : State} {s : State} {g : Staging} (h₀ : Rg msk b₀ s) (hm₀ : 96107167241834975113312584178489302142293605564759693426004588894417285174339314651986626222954283729664672024879809959352794238588654061432213649874520966944 ||| msk = msk) :
    Rg msk b₀ (State.fwStaged s g) := by
  refine Rg.step h₀ ?_ hm₀
  clear h₀ hm₀
  unfold State.fwStaged
  try dsimp only
  repeat' (first
    | with_reducible exact Rg.refl _ _
    | exact (rfl : (_ : Nat) = _)
    | with_reducible refine State.event_rg ?_ ?_
    | with_reducible refine State.stagingEnd_rg ?_ ?_
    | with_reducible refine State.setFwSlot_rg ?_ ?_
    | with_reducible refine State.record_rg ?_ ?_)

theorem execFwRevert_rg {msk : Nat} {b₀ : State} {s : State} (_ : Rg msk b₀ s) (hm₀ : 57586096570152913699974892898380567793532123114264532903689671329431521032595044740083720782129802971518987656109067457577065805510327036019308994315074097345724415 ||| msk = msk) :
    RgO msk b₀ (execFwRevert s) :=
  RgO.any (by rw [← hm₀, Nat.testBit_or]; rfl)

theorem execMysynImageEnd_rg {msk : Nat} {b₀ : State} {m : MysynMsg} {readBackOk : Bool} {s : State} (h₀ : Rg msk b₀ s) (hm₀ : 96375532897432732408383745522594016031188934746262488049705587053939278607503755490694176238203530656084530318791323844214413906149311929496297735880408368928 ||| msk = msk) :
    RgO msk b₀ (execMysynImageEnd m readBackOk s) := by
  refine RgO.step h₀ ?_ hm₀
  clear h₀ hm₀
  unfold execMysynImageEnd
  try dsimp only
  repeat' (first
    | with_reducible exact Rg.refl _ _
    | with_reducible assumption
    | exact (rfl : (_ : Nat) = _)
    | with_reducible refine State.mysynRun_rg ?_ ?_ ?_
    | with_reducible refine State.useFree_rg ?_ ?_
    | with_reducible refine State.stagingEnd_rg ?_ ?_
    | with_reducible refine State.stagingFlash_rg ?_ ?_
    | with_reducible refine State.fwStaged_rg ?_ ?_
    | with_reducible refine Rg.ite₁ ?_ ?_
    | with_reducible refine RgO.next ?_
    | intro _ _ _
    | split)

end Sys2Proof.Machine
end

