-- ==== Sys2Proof/Laws/RgBringup.lean ====
section
/-! SUPPORT. Register frames of the operations of Machine.Bringup: the registers that each may write. -/

set_option maxRecDepth 20000
set_option Elab.async false
set_option linter.unusedTactic false
set_option linter.unreachableTactic false
set_option linter.unusedVariables false

namespace Sys2Proof.Machine

theorem State.stagedRestore_rg {msk : Nat} {b₀ : State} {s : State} (h₀ : Rg msk b₀ s) (hm₀ : 0 ||| msk = msk) :
    Rg msk b₀ (State.stagedRestore s) := by
  refine Rg.step h₀ ?_ hm₀
  clear h₀ hm₀
  unfold State.stagedRestore
  try dsimp only
  repeat' (first
    | with_reducible exact Rg.refl _ _
    | with_reducible assumption
    | exact (rfl : (_ : Nat) = _)
    | with_reducible refine State.setGroup_rg ?_ ?_
    | dsimp only
    | with_reducible refine Rg.ite ?_ ?_
    | with_reducible refine Rg.ite₁ ?_ ?_
    | with_reducible refine RgS.ite ?_ ?_
    | with_reducible refine RgP.ite ?_ ?_
    | with_reducible exact RgS.none
    | with_reducible refine RgS.some ?_
    | with_reducible refine RgS.map ?_
    | with_reducible exact RgP.none
    | with_reducible refine RgP.some ?_
    | with_reducible refine Rg.elim ?_ ?_
    | with_reducible refine Rg.foldl ?_ _ _ ?_
    | with_reducible refine Rg.foldl₂ ?_ _ _ ?_
    | intro _ _ _ _ _ _
    | intro _ _ _ _ _
    | intro _ _ _ _
    | intro _ _ _
    | intro _ _
    | intro _
    | with_reducible refine Rg.pair (h := ?_) (e := by assumption)
    | with_reducible refine RgO.got (h := ?_) (e := by assumption)
    | with_reducible refine RgS.get (h := ?_) (e := by assumption)
    | with_reducible refine RgP.get (h := ?_) (e := by assumption)
    | split
    | refine Rg.mk' ?_)

theorem State.restoreEntry_rg {msk : Nat} {b₀ : State} {s : State} {cseq : Nat} {p : Part} (h₀ : Rg msk b₀ s) (hm₀ : 0 ||| msk = msk) :
    Rg msk b₀ (State.restoreEntry s cseq p) := by
  refine Rg.step h₀ ?_ hm₀
  clear h₀ hm₀
  unfold State.restoreEntry
  try dsimp only
  repeat' (first
    | with_reducible exact Rg.refl _ _
    | exact (rfl : (_ : Nat) = _)
    | with_reducible refine State.putPart_rg ?_ ?_
    | with_reducible refine State.setCam_rg ?_ ?_
    | with_reducible refine Rg.ite ?_ ?_
    | split
    | refine Rg.mk' ?_)

theorem State.spillRestore_rg {msk : Nat} {b₀ : State} {s : State} {f : BringupFacts} {standby : Bool} (h₀ : Rg msk b₀ s) (hm₀ : 96107167241834975113312584178489302142293605564759693426004588894417285174339314651986626222954283729664672025253748854841755727425924985427981375606800582432 ||| msk = msk) :
    Rg msk b₀ (State.spillRestore s f standby) := by
  refine Rg.step h₀ ?_ hm₀
  clear h₀ hm₀
  unfold State.spillRestore
  try dsimp only
  repeat' (first
    | with_reducible exact Rg.refl _ _
    | with_reducible assumption
    | exact (rfl : (_ : Nat) = _)
    | with_reducible refine State.raise_rg ?_ ?_
    | with_reducible refine State.putBit_rg ?_ ?_
    | with_reducible refine State.stagedRestore_rg ?_ ?_
    | with_reducible refine State.txnsFound_rg ?_ ?_
    | with_reducible refine State.wr64_rg ?_ ?_ ?_
    | with_reducible refine State.wrN_rg ?_ ?_
    | with_reducible refine State.restoreEntry_rg ?_ ?_
    | with_reducible refine in_CIST_CSEQ ?_
    | with_reducible refine in_CIST_CSEQ4 ?_
    | with_reducible refine in_CIST_SPILL_DISCARD ?_
    | with_reducible refine in_CIST_STATUS ?_
    | with_reducible refine InSet.ite ?_ ?_
    | exact (rfl : (_ : Bool) = _)
    | dsimp only
    | with_reducible refine Rg.ite ?_ ?_
    | with_reducible refine Rg.ite₁ ?_ ?_
    | with_reducible refine RgS.ite ?_ ?_
    | with_reducible refine RgP.ite ?_ ?_
    | with_reducible exact RgS.none
    | with_reducible refine RgS.some ?_
    | with_reducible refine RgS.map ?_
    | with_reducible exact RgP.none
    | with_reducible refine RgP.some ?_
    | with_reducible refine Rg.elim ?_ ?_
    | with_reducible refine Rg.foldl ?_ _ _ ?_
    | with_reducible refine Rg.foldl₂ ?_ _ _ ?_
    | intro _ _ _ _ _ _
    | intro _ _ _ _ _
    | intro _ _ _ _
    | intro _ _ _
    | intro _ _
    | intro _
    | with_reducible refine Rg.pair (h := ?_) (e := by assumption)
    | with_reducible refine RgO.got (h := ?_) (e := by assumption)
    | with_reducible refine RgS.get (h := ?_) (e := by assumption)
    | with_reducible refine RgP.get (h := ?_) (e := by assumption)
    | split
    | refine Rg.mk' ?_)

theorem State.torluxBring_rg {msk : Nat} {b₀ : State} {s : State} {x1 : Option (List Nat × InitMsg)} (h₀ : Rg msk b₀ s) (hm₀ : 96107167241834975113312584178489302142293605565962184086814137451298858287729904808235540415170941679759098895601649977376496397896659286513506000096477646624 ||| msk = msk) :
    Rg msk b₀ (State.torluxBring s x1) := by
  refine Rg.step h₀ ?_ hm₀
  clear h₀ hm₀
  unfold State.torluxBring
  try dsimp only
  repeat' (first
    | with_reducible exact Rg.refl _ _
    | exact (rfl : (_ : Nat) = _)
    | with_reducible refine State.setLinkState_rg ?_ ?_
    | with_reducible refine State.torluxInit_rg ?_ ?_
    | with_reducible refine State.takeCredits_rg ?_ ?_
    | with_reducible refine State.linkInit_rg ?_ ?_
    | with_reducible refine Rg.ite ?_ ?_
    | split)

theorem State.tackEntry_rg {msk : Nat} {b₀ : State} {d : State × List Nat × Nat} {e : TackEntry} (_ : Rg msk b₀ d.1) (hm₀ : 57586096570152913699974892898380567793532123114264532903689671329431521032595044740083720782129802971518987656109067457577065805510327036019308994315074097345724415 ||| msk = msk) :
    Rg msk b₀ (State.tackEntry d e).1 :=
  Rg.any (by rw [← hm₀, Nat.testBit_or]; rfl)

theorem State.chipPagesRun_rg {msk : Nat} {b₀ : State} {s : State} (h₀ : Rg msk b₀ s) (hm₀ : 48 ||| msk = msk) :
    Rg msk b₀ (State.chipPagesRun s) := by
  refine Rg.step h₀ ?_ hm₀
  clear h₀ hm₀
  unfold State.chipPagesRun
  try dsimp only
  repeat' (first
    | with_reducible exact Rg.refl _ _
    | with_reducible assumption
    | exact (rfl : (_ : Nat) = _)
    | with_reducible refine State.setPage_rg ?_ ?_
    | with_reducible refine Rg.ite ?_ ?_
    | with_reducible refine Rg.foldl ?_ _ _ ?_
    | intro _ _ _)

theorem State.fuseBlow_rg {msk : Nat} {b₀ : State} {s : State} (h₀ : Rg msk b₀ s) (hm₀ : 0 ||| msk = msk) :
    Rg msk b₀ (State.fuseBlow s) := by
  refine Rg.step h₀ ?_ hm₀
  clear h₀ hm₀
  unfold State.fuseBlow
  try dsimp only
  repeat' (first
    | with_reducible exact Rg.refl _ _
    | with_reducible assumption
    | with_reducible refine Rg.ite ?_ ?_
    | with_reducible refine Rg.foldl ?_ _ _ ?_
    | intro _ _ _
    | refine Rg.mk' ?_)

theorem State.fwBoot_rg {msk : Nat} {b₀ : State} {s : State} {b : Bool} {mode : Nat} (h₀ : Rg msk b₀ s) (hm₀ : 99110516218142116863617165778087411674848983508572389542614666657810960317075789174790246065743670097467239161113582834744035108338530093100214787251883804448 ||| msk = msk) :
    Rg msk b₀ (State.fwBoot s b mode) := by
  refine Rg.step h₀ ?_ hm₀
  clear h₀ hm₀
  unfold State.fwBoot
  try dsimp only
  repeat' (first
    | with_reducible exact Rg.refl _ _
    | exact (rfl : (_ : Nat) = _)
    | with_reducible refine State.wrN_rg ?_ ?_
    | with_reducible refine State.record_rg ?_ ?_
    | with_reducible refine in_FW_RUN ?_
    | with_reducible refine in_FW_RUN_BUILD ?_
    | with_reducible refine in_FW_RUN_VER ?_
    | exact (rfl : (_ : Bool) = _))

theorem State.bootCommitted_rg {msk : Nat} {b₀ : State} {s : State} (h₀ : Rg msk b₀ s) (hm₀ : 99110516218142116863617165778087411674848983508572389542614666657810960317075789174790246065743670097467239161113582834744035108338530093100214787251883804448 ||| msk = msk) :
    Rg msk b₀ (State.bootCommitted s) := by
  refine Rg.step h₀ ?_ hm₀
  clear h₀ hm₀
  unfold State.bootCommitted
  try dsimp only
  repeat' (first
    | with_reducible exact Rg.refl _ _
    | exact (rfl : (_ : Nat) = _)
    | with_reducible refine State.fwBoot_rg ?_ ?_
    | with_reducible refine State.wrN_rg ?_ ?_
    | with_reducible refine in_FW_RUN ?_
    | exact (rfl : (_ : Bool) = _)
    | split)

theorem State.trialFailed_rg {msk : Nat} {b₀ : State} {s : State} {b : Bool} (h₀ : Rg msk b₀ s) (hm₀ : 96107167241834975113312584178489302142293605564759693426004588894417285174339314651986626222954283729664672024879809959352794238588654061432213649874520966944 ||| msk = msk) :
    Rg msk b₀ (State.trialFailed s b) := by
  refine Rg.step h₀ ?_ hm₀
  clear h₀ hm₀
  unfold State.trialFailed
  try dsimp only
  repeat' (first
    | with_reducible exact Rg.refl _ _
    | exact (rfl : (_ : Nat) = _)
    | with_reducible refine State.raise_rg ?_ ?_
    | with_reducible refine State.record_rg ?_ ?_
    | with_reducible refine State.setFwSlot_rg ?_ ?_)

theorem State.bootTrial_rg {msk : Nat} {b₀ : State} {s : State} {b : Bool} (h₀ : Rg msk b₀ s) (hm₀ : 99110516218142116863617165778087411674848983508572389542614666657810960317075789174790246065743670097467239161113582834744035108338530093100214787251883804448 ||| msk = msk) :
    Rg msk b₀ (State.bootTrial s b) := by
  refine Rg.step h₀ ?_ hm₀
  clear h₀ hm₀
  unfold State.bootTrial
  try dsimp only
  repeat' (first
    | with_reducible exact Rg.refl _ _
    | exact (rfl : (_ : Nat) = _)
    | with_reducible refine State.setFwSlot_rg ?_ ?_
    | with_reducible refine State.fwBoot_rg ?_ ?_
    | with_reducible refine State.bootCommitted_rg ?_ ?_
    | with_reducible refine State.trialFailed_rg ?_ ?_
    | with_reducible refine Rg.ite ?_ ?_)

theorem State.bootSelect_rg {msk : Nat} {b₀ : State} {s : State} {recovery : Bool} (h₀ : Rg msk b₀ s) (hm₀ : 109407712708338031436090016976709501500753136458787347656706361846589275092172273252974085526735851929933183628200804121799718090338105058819075829688556390176 ||| msk = msk) :
    Rg msk b₀ (State.bootSelect s recovery) := by
  refine Rg.step h₀ ?_ hm₀
  clear h₀ hm₀
  unfold State.bootSelect
  try dsimp only
  repeat' (first
    | with_reducible exact Rg.refl _ _
    | exact (rfl : (_ : Nat) = _)
    | with_reducible refine State.fuseBlow_rg ?_ ?_
    | with_reducible refine State.fwShow_rg ?_ ?_
    | with_reducible refine State.wrN_rg ?_ ?_
    | with_reducible refine State.bootTrial_rg ?_ ?_
    | with_reducible refine State.bootCommitted_rg ?_ ?_
    | with_reducible refine in_FW_RUN ?_
    | exact (rfl : (_ : Bool) = _)
    | with_reducible refine Rg.ite ?_ ?_
    | split)

theorem State.inventory_rg {msk : Nat} {b₀ : State} {s : State} {kind : Nat} {used : Nat} (h₀ : Rg msk b₀ s) (hm₀ : 818347651974035467503297424206899788054160511510766197370822842024033449101168638720817523081476039287721671031890017752304314136471348263332131897344 ||| msk = msk) :
    Rg msk b₀ (State.inventory s kind used) := by
  refine Rg.step h₀ ?_ hm₀
  clear h₀ hm₀
  unfold State.inventory
  try dsimp only
  repeat' (first
    | with_reducible exact Rg.refl _ _
    | with_reducible refine State.putFld_rg ?_ ?_
    | with_reducible refine in_RM_INV ?_
    | exact (rfl : (_ : Bool) = _))

theorem State.mapRestore_rg {msk : Nat} {b₀ : State} {s : State} (_ : Rg msk b₀ s) (hm₀ : 57586096570152913699974892898380567793532123114264532903689671329431521032595044740083720782129802971518987656109067457577065805510327036019308994315074097345724415 ||| msk = msk) :
    Rg msk b₀ (State.mapRestore s) :=
  Rg.any (by rw [← hm₀, Nat.testBit_or]; rfl)

theorem State.initRange_rg {msk : Nat} {b₀ : State} {s : State} {f : BringupFacts} {lo : Nat} {n : Nat} (h₀ : Rg msk b₀ s) (hm₀ : 96107168060182627087348051681786726349203480532506481923449129699505763963506864166408504098118801574252198217374984277159334043054218736307608409972171417392 ||| msk = msk) :
    Rg msk b₀ (State.initRange s f lo n) := by
  refine Rg.step h₀ ?_ hm₀
  clear h₀ hm₀
  unfold State.initRange
  try dsimp only
  repeat' (first
    | with_reducible exact Rg.refl _ _
    | with_reducible assumption
    | exact (rfl : (_ : Nat) = _)
    | with_reducible refine State.raise_rg ?_ ?_
    | with_reducible refine State.initComplete_rg ?_ ?_
    | with_reducible refine Rg.ite ?_ ?_
    | with_reducible refine Rg.foldl ?_ _ _ ?_
    | intro _ _ _
    | split)

theorem State.moduleUp_rg {msk : Nat} {b₀ : State} {s : State} {x : ModUp} (h₀ : Rg msk b₀ s) (hm₀ : 96107167241834975113312584178489302142293605565999724072160662941800904204144209367339120517942717890504550486818855847824221615242835201489365886066053156640 ||| msk = msk) :
    Rg msk b₀ (State.moduleUp s x) := by
  refine Rg.step h₀ ?_ hm₀
  clear h₀ hm₀
  unfold State.moduleUp
  try dsimp only
  repeat' (first
    | with_reducible exact Rg.refl _ _
    | exact (rfl : (_ : Nat) = _)
    | with_reducible refine State.trainStart_rg ?_ ?_
    | with_reducible refine State.putFld_rg ?_ ?_
    | with_reducible refine State.linkInit_rg ?_ ?_
    | with_reducible refine State.pump_rg ?_ ?_
    | with_reducible refine State.takeCredits_rg ?_ ?_
    | with_reducible refine State.identified_rg ?_ ?_
    | with_reducible refine State.setMlink_rg ?_ ?_
    | with_reducible refine State.learnEpoch_rg ?_ ?_
    | with_reducible refine in_MLK_STATUS ?_
    | exact (rfl : (_ : Bool) = _)
    | with_reducible refine Rg.ite ?_ ?_)

theorem State.bring6_rg {msk : Nat} {b₀ : State} {s : State} {f : BringupFacts} (h₀ : Rg msk b₀ s) (hm₀ : 96107168060182627087348051681786726349203480533746549265583059588033568766446083715152051138147062427590056480735460356396778835466566936700895788449587605296 ||| msk = msk) :
    Rg msk b₀ (State.bring6 s f) := by
  refine Rg.step h₀ ?_ hm₀
  clear h₀ hm₀
  unfold State.bring6
  try dsimp only
  repeat' (first
    | with_reducible exact Rg.refl _ _
    | with_reducible assumption
    | exact (rfl : (_ : Nat) = _)
    | with_reducible refine State.initRange_rg ?_ ?_
    | with_reducible refine State.trainStart_rg ?_ ?_
    | with_reducible refine State.torluxBring_rg ?_ ?_
    | with_reducible refine State.moduleUp_rg ?_ ?_
    | with_reducible refine Out.st_rg ?_ ?_
    | with_reducible refine execEthLinkUp_rg ?_ ?_
    | with_reducible refine Rg.ite ?_ ?_
    | with_reducible refine Rg.foldl ?_ _ _ ?_
    | intro _ _ _)

theorem State.lifeTake_rg {msk : Nat} {b₀ : State} {s : State} {l : LifeSlot} (h₀ : Rg msk b₀ s) (hm₀ : 497142464512 ||| msk = msk) :
    Rg msk b₀ (State.lifeTake s l) := by
  refine Rg.step h₀ ?_ hm₀
  clear h₀ hm₀
  unfold State.lifeTake
  try dsimp only
  repeat' (first
    | with_reducible exact Rg.refl _ _
    | with_reducible assumption
    | with_reducible refine State.wr_rg ?_ ?_
    | with_reducible refine State.wr64_rg ?_ ?_ ?_
    | with_reducible refine in_MOD_WR ?_
    | with_reducible refine in_MOD_WR4 ?_
    | with_reducible refine in_PWR_CYCLES ?_
    | with_reducible refine in_PWR_STRIDES ?_
    | with_reducible refine in_PWR_STRIDES4 ?_
    | with_reducible refine in_REMOUNTS ?_
    | with_reducible refine in_RESETS ?_
    | with_reducible refine in_TEMP_BAND ?_
    | with_reducible refine in_TJ_MAX_SEEN ?_
    | exact (rfl : (_ : Bool) = _)
    | with_reducible refine Rg.foldl ?_ _ _ ?_
    | intro _ _ _)

theorem State.countReset_rg {msk : Nat} {b₀ : State} {s : State} (h₀ : Rg msk b₀ s) (hm₀ : 6442450944 ||| msk = msk) :
    Rg msk b₀ (State.countReset s) := by
  refine Rg.step h₀ ?_ hm₀
  clear h₀ hm₀
  unfold State.countReset
  try dsimp only
  repeat' (first
    | with_reducible exact Rg.refl _ _
    | with_reducible assumption
    | exact (rfl : (_ : Nat) = _)
    | with_reducible refine State.count_rg ?_ ?_
    | with_reducible refine in_PWR_CYCLES ?_
    | with_reducible refine in_RESETS ?_
    | with_reducible refine InSet.ite ?_ ?_
    | exact (rfl : (_ : Bool) = _)
    | dsimp only
    | with_reducible refine Rg.ite ?_ ?_
    | with_reducible refine Rg.ite₁ ?_ ?_
    | with_reducible refine RgS.ite ?_ ?_
    | with_reducible refine RgP.ite ?_ ?_
    | with_reducible exact RgS.none
    | with_reducible refine RgS.some ?_
    | with_reducible refine RgS.map ?_
    | with_reducible exact RgP.none
    | with_reducible refine RgP.some ?_
    | with_reducible refine Rg.elim ?_ ?_
    | with_reducible refine Rg.foldl ?_ _ _ ?_
    | with_reducible refine Rg.foldl₂ ?_ _ _ ?_
    | intro _ _ _ _ _ _
    | intro _ _ _ _ _
    | intro _ _ _ _
    | intro _ _ _
    | intro _ _
    | intro _
    | with_reducible refine Rg.pair (h := ?_) (e := by assumption)
    | with_reducible refine RgO.got (h := ?_) (e := by assumption)
    | with_reducible refine RgS.get (h := ?_) (e := by assumption)
    | with_reducible refine RgP.get (h := ?_) (e := by assumption)
    | split)

theorem State.lifeRestore_rg {msk : Nat} {b₀ : State} {s : State} (h₀ : Rg msk b₀ s) (hm₀ : 531502202880 ||| msk = msk) :
    Rg msk b₀ (State.lifeRestore s) := by
  refine Rg.step h₀ ?_ hm₀
  clear h₀ hm₀
  unfold State.lifeRestore
  try dsimp only
  repeat' (first
    | with_reducible exact Rg.refl _ _
    | with_reducible assumption
    | exact (rfl : (_ : Nat) = _)
    | with_reducible refine State.lifeTake_rg ?_ ?_
    | with_reducible refine State.putFld_rg ?_ ?_
    | with_reducible refine State.putBit_rg ?_ ?_
    | with_reducible refine State.countReset_rg ?_ ?_
    | with_reducible refine in_LIFE_STATUS ?_
    | with_reducible refine InSet.ite ?_ ?_
    | exact (rfl : (_ : Bool) = _)
    | dsimp only
    | with_reducible refine Rg.ite ?_ ?_
    | with_reducible refine Rg.ite₁ ?_ ?_
    | with_reducible refine RgS.ite ?_ ?_
    | with_reducible refine RgP.ite ?_ ?_
    | with_reducible exact RgS.none
    | with_reducible refine RgS.some ?_
    | with_reducible refine RgS.map ?_
    | with_reducible exact RgP.none
    | with_reducible refine RgP.some ?_
    | with_reducible refine Rg.elim ?_ ?_
    | with_reducible refine Rg.foldl ?_ _ _ ?_
    | with_reducible refine Rg.foldl₂ ?_ _ _ ?_
    | intro _ _ _ _ _ _
    | intro _ _ _ _ _
    | intro _ _ _ _
    | intro _ _ _
    | intro _ _
    | intro _
    | with_reducible refine Rg.pair (h := ?_) (e := by assumption)
    | with_reducible refine RgO.got (h := ?_) (e := by assumption)
    | with_reducible refine RgS.get (h := ?_) (e := by assumption)
    | with_reducible refine RgP.get (h := ?_) (e := by assumption)
    | split)

theorem State.slotsShow_rg {msk : Nat} {b₀ : State} {s : State} (h₀ : Rg msk b₀ s) (hm₀ : 41188785960783658289891404794488359303616611800859832456366780755113259100385936312735357843968727329863777868348885148222731927998299862875444169746690342912 ||| msk = msk) :
    Rg msk b₀ (State.slotsShow s) := by
  refine Rg.step h₀ ?_ hm₀
  clear h₀ hm₀
  unfold State.slotsShow
  try dsimp only
  repeat' (first
    | with_reducible exact Rg.refl _ _
    | with_reducible assumption
    | exact (rfl : (_ : Nat) = _)
    | with_reducible refine State.fwSlotShow_rg ?_ ?_
    | dsimp only
    | with_reducible refine Rg.ite ?_ ?_
    | with_reducible refine Rg.ite₁ ?_ ?_
    | with_reducible refine RgS.ite ?_ ?_
    | with_reducible refine RgP.ite ?_ ?_
    | with_reducible exact RgS.none
    | with_reducible refine RgS.some ?_
    | with_reducible refine RgS.map ?_
    | with_reducible exact RgP.none
    | with_reducible refine RgP.some ?_
    | with_reducible refine Rg.elim ?_ ?_
    | with_reducible refine Rg.foldl ?_ _ _ ?_
    | with_reducible refine Rg.foldl₂ ?_ _ _ ?_
    | intro _ _ _ _ _ _
    | intro _ _ _ _ _
    | intro _ _ _ _
    | intro _ _ _
    | intro _ _
    | intro _
    | with_reducible refine Rg.pair (h := ?_) (e := by assumption)
    | with_reducible refine RgO.got (h := ?_) (e := by assumption)
    | with_reducible refine RgS.get (h := ?_) (e := by assumption)
    | with_reducible refine RgP.get (h := ?_) (e := by assumption)
    | split
    | refine Rg.mk' ?_)

theorem State.bring2_rg {msk : Nat} {b₀ : State} {s : State} {f : BringupFacts} (h₀ : Rg msk b₀ s) (hm₀ : 109407712708338031436090016976709501500753136458787347656706361846589275092172273252974085526735851929933183628200804121799718090338105058819075829688556390192 ||| msk = msk) :
    Rg msk b₀ (State.bring2 s f) := by
  refine Rg.step h₀ ?_ hm₀
  clear h₀ hm₀
  unfold State.bring2
  try dsimp only
  repeat' (first
    | with_reducible exact Rg.refl _ _
    | exact (rfl : (_ : Nat) = _)
    | with_reducible refine State.raise_rg ?_ ?_
    | with_reducible refine State.bootSelect_rg ?_ ?_
    | with_reducible refine State.slotsShow_rg ?_ ?_
    | with_reducible refine State.chipPagesRun_rg ?_ ?_
    | with_reducible refine Rg.ite ?_ ?_)

theorem State.bring1_rg {msk : Nat} {b₀ : State} {s : State} {f : BringupFacts} (h₀ : Rg msk b₀ s) (hm₀ : 113351538964076627613781145994431964803552915675966258919921380638071689044262096732647704790052810785180398587413509859047470992076875708719596224348169881796608 ||| msk = msk) :
    Rg msk b₀ (State.bring1 s f) := by
  refine Rg.step h₀ ?_ hm₀
  clear h₀ hm₀
  unfold State.bring1
  try dsimp only
  repeat' (first
    | with_reducible exact Rg.refl _ _
    | with_reducible assumption
    | exact (rfl : (_ : Nat) = _)
    | with_reducible refine State.putBit_rg ?_ ?_
    | with_reducible refine State.putFld_rg ?_ ?_
    | with_reducible refine State.wr64_rg ?_ ?_ ?_
    | with_reducible refine State.wrN_rg ?_ ?_
    | with_reducible refine State.setFnState_rg ?_ ?_
    | with_reducible refine in_CHIP_HEAD ?_
    | with_reducible refine in_CHIP_RST_STATUS ?_
    | with_reducible refine in_CHIP_STEP ?_
    | with_reducible refine in_MLK_STATUS ?_
    | with_reducible refine in_MOD_PRSNT ?_
    | with_reducible refine in_STR_NUM ?_
    | with_reducible refine in_STR_NUM4 ?_
    | with_reducible refine InSet.ite ?_ ?_
    | exact (rfl : (_ : Bool) = _)
    | dsimp only
    | with_reducible refine Rg.ite ?_ ?_
    | with_reducible refine Rg.ite₁ ?_ ?_
    | with_reducible refine RgS.ite ?_ ?_
    | with_reducible refine RgP.ite ?_ ?_
    | with_reducible exact RgS.none
    | with_reducible refine RgS.some ?_
    | with_reducible refine RgS.map ?_
    | with_reducible exact RgP.none
    | with_reducible refine RgP.some ?_
    | with_reducible refine Rg.elim ?_ ?_
    | with_reducible refine Rg.foldl ?_ _ _ ?_
    | with_reducible refine Rg.foldl₂ ?_ _ _ ?_
    | intro _ _ _ _ _ _
    | intro _ _ _ _ _
    | intro _ _ _ _
    | intro _ _ _
    | intro _ _
    | intro _
    | with_reducible refine Rg.pair (h := ?_) (e := by assumption)
    | with_reducible refine RgO.got (h := ?_) (e := by assumption)
    | with_reducible refine RgS.get (h := ?_) (e := by assumption)
    | with_reducible refine RgP.get (h := ?_) (e := by assumption)
    | split
    | refine Rg.mk' ?_)

theorem State.stbRecover_rg {msk : Nat} {b₀ : State} {s : State} (h₀ : Rg msk b₀ s) (hm₀ : 96107167241840828391844426663923142637099467751582972047522085715325146093638612223996913283492009303607916072325734634848646876006583026386612315409470261024 ||| msk = msk) :
    Rg msk b₀ (State.stbRecover s) := by
  refine Rg.step h₀ ?_ hm₀
  clear h₀ hm₀
  unfold State.stbRecover
  try dsimp only
  repeat' (first
    | with_reducible exact Rg.refl _ _
    | exact (rfl : (_ : Nat) = _)
    | with_reducible refine State.putBit_rg ?_ ?_
    | with_reducible refine State.wr64_rg ?_ ?_ ?_
    | with_reducible refine State.stbShow_rg ?_ ?_
    | with_reducible refine State.startFlush_rg ?_ ?_
    | with_reducible refine in_STB_FLUSHED ?_
    | with_reducible refine in_STB_FLUSHED4 ?_
    | with_reducible refine in_STB_STATUS ?_
    | exact (rfl : (_ : Bool) = _)
    | with_reducible refine Rg.ite ?_ ?_
    | split
    | refine Rg.mk' ?_)

theorem State.keysWiped_rg {msk : Nat} {b₀ : State} {s : State} (h₀ : Rg msk b₀ s) (hm₀ : 96107167241834975113335843017666761562791183926612109571103905417959279352268322338360406680173912463211110138502650393450738639280054579126086757126636635936 ||| msk = msk) :
    Rg msk b₀ (State.keysWiped s) := by
  refine Rg.step h₀ ?_ hm₀
  clear h₀ hm₀
  unfold State.keysWiped
  try dsimp only
  repeat' (first
    | with_reducible exact Rg.refl _ _
    | exact (rfl : (_ : Nat) = _)
    | with_reducible refine State.record_rg ?_ ?_
    | with_reducible refine State.event_rg ?_ ?_
    | with_reducible refine State.putBit_rg ?_ ?_
    | with_reducible refine in_KS_GLOBAL ?_
    | exact (rfl : (_ : Bool) = _)
    | with_reducible refine Rg.ite ?_ ?_
    | refine Rg.mk' ?_)

theorem State.bring3_rg {msk : Nat} {b₀ : State} {s : State} (_ : Rg msk b₀ s) (hm₀ : 57586096570152913699974892898380567793532123114264532903689671329431521032595044740083720782129802971518987656109067457577065805510327036019308994315074097345724415 ||| msk = msk) :
    Rg msk b₀ (State.bring3 s) :=
  Rg.any (by rw [← hm₀, Nat.testBit_or]; rfl)

theorem State.enablePage_rg {msk : Nat} {b₀ : State} {s : State} {p : Nat} (h₀ : Rg msk b₀ s) (hm₀ : 8248 ||| msk = msk) :
    Rg msk b₀ (State.enablePage s p) := by
  refine Rg.step h₀ ?_ hm₀
  clear h₀ hm₀
  unfold State.enablePage
  try dsimp only
  repeat' (first
    | with_reducible exact Rg.refl _ _
    | exact (rfl : (_ : Nat) = _)
    | with_reducible refine State.putBit_rg ?_ ?_
    | with_reducible refine State.startInit_rg ?_ ?_
    | with_reducible refine in_PG_CTRL ?_
    | exact (rfl : (_ : Bool) = _)
    | with_reducible refine Rg.ite ?_ ?_)

theorem State.tackApply_rg {msk : Nat} {b₀ : State} {s : State} {copy : List Byte} {used : Nat} (_ : Rg msk b₀ s) (hm₀ : 57586096570152913699974892898380567793532123114264532903689671329431521032595044740083720782129802971518987656109067457577065805510327036019308994315074097345724415 ||| msk = msk) :
    Rg msk b₀ (State.tackApply s copy used) :=
  Rg.any (by rw [← hm₀, Nat.testBit_or]; rfl)

theorem State.tackDefault_rg {msk : Nat} {b₀ : State} {s : State} (h₀ : Rg msk b₀ s) (hm₀ : 96107167242634142742193478189722991033120656139031334550526821509037229356003409817124486221705082092048925969496725653719874334049888743206111450912931260216 ||| msk = msk) :
    Rg msk b₀ (State.tackDefault s) := by
  refine Rg.step h₀ ?_ hm₀
  clear h₀ hm₀
  unfold State.tackDefault
  try dsimp only
  repeat' (first
    | with_reducible exact Rg.refl _ _
    | with_reducible assumption
    | exact (rfl : (_ : Nat) = _)
    | with_reducible refine State.putBit_rg ?_ ?_
    | with_reducible refine State.putFld_rg ?_ ?_
    | with_reducible refine State.record_rg ?_ ?_
    | with_reducible refine State.raise_rg ?_ ?_
    | with_reducible refine State.enablePage_rg ?_ ?_
    | with_reducible refine in_TK_STATUS ?_
    | exact (rfl : (_ : Bool) = _)
    | with_reducible refine Rg.foldl ?_ _ _ ?_
    | intro _ _ _)

theorem State.bring4_rg {msk : Nat} {b₀ : State} {s : State} {lost : Bool} (_ : Rg msk b₀ s) (hm₀ : 57586096570152913699974892898380567793532123114264532903689671329431521032595044740083720782129802971518987656109067457577065805510327036019308994315074097345724415 ||| msk = msk) :
    Rg msk b₀ (State.bring4 s lost) :=
  Rg.any (by rw [← hm₀, Nat.testBit_or]; rfl)

theorem State.dimmTake_rg {msk : Nat} {b₀ : State} {s : State} {ch : Nat} {d : DimmFacts} (h₀ : Rg msk b₀ s) (hm₀ : 51695432129669556726510100611388421312264617922850666028348160946370386964204340322175517326409009320738295923282542592 ||| msk = msk) :
    Rg msk b₀ (State.dimmTake s ch d) := by
  refine Rg.step h₀ ?_ hm₀
  clear h₀ hm₀
  unfold State.dimmTake
  try dsimp only
  repeat' (first
    | with_reducible exact Rg.refl _ _
    | with_reducible assumption
    | with_reducible refine State.putFld_rg ?_ ?_
    | with_reducible refine State.wrN_rg ?_ ?_
    | with_reducible refine in_DC_CFG ?_
    | with_reducible refine in_DC_STATUS ?_
    | with_reducible refine in_DC_TIM ?_
    | exact (rfl : (_ : Bool) = _)
    | with_reducible refine Rg.foldl ?_ _ _ ?_
    | intro _ _ _)

theorem State.hardPpr_rg {msk : Nat} {b₀ : State} {s : State} {r : Nat × Nat} (h₀ : Rg msk b₀ s) (hm₀ : 96107167241834975113312584178489302307557597762321843163983415902610045131440485393056931044116482548266119833957646415650096848517475273330016656130360543008 ||| msk = msk) :
    Rg msk b₀ (State.hardPpr s r) := by
  refine Rg.step h₀ ?_ hm₀
  clear h₀ hm₀
  unfold State.hardPpr
  try dsimp only
  repeat' (first
    | with_reducible exact Rg.refl _ _
    | exact (rfl : (_ : Nat) = _)
    | with_reducible refine State.dramRepair_rg ?_ ?_
    | with_reducible refine State.putFld_rg ?_ ?_
    | with_reducible refine in_DC_PPR ?_
    | exact (rfl : (_ : Bool) = _))

theorem State.bring5_rg {msk : Nat} {b₀ : State} {s : State} {f : BringupFacts} (h₀ : Rg msk b₀ s) (hm₀ : 96107168060182627087348051681786726514509081248612024231476123374044275576786199112148420430962353790688529508643521787862290118148198419122103215385774991152 ||| msk = msk) :
    Rg msk b₀ (State.bring5 s f) := by
  refine Rg.step h₀ ?_ hm₀
  clear h₀ hm₀
  unfold State.bring5
  try dsimp only
  repeat' (first
    | with_reducible exact Rg.refl _ _
    | with_reducible assumption
    | exact (rfl : (_ : Nat) = _)
    | with_reducible refine State.dimmTake_rg ?_ ?_
    | with_reducible refine State.raise_rg ?_ ?_
    | with_reducible refine State.hardPpr_rg ?_ ?_
    | with_reducible refine State.initRange_rg ?_ ?_
    | with_reducible refine Rg.ite ?_ ?_
    | with_reducible refine Rg.foldl ?_ _ _ ?_
    | intro _ _ _
    | split
    | refine Rg.mk' ?_)

theorem State.poolShow_rg {msk : Nat} {b₀ : State} {s : State} {pool : Nat} {p : Pool} (h₀ : Rg msk b₀ s) (hm₀ : 4271974071841820164790495725187687495593782368873495727034135051522039610014560231233455084535808 ||| msk = msk) :
    Rg msk b₀ (State.poolShow s pool p) := by
  refine Rg.step h₀ ?_ hm₀
  clear h₀ hm₀
  unfold State.poolShow
  try dsimp only
  repeat' (first
    | with_reducible exact Rg.refl _ _
    | with_reducible refine State.wrN_rg ?_ ?_
    | with_reducible refine in_FTL_POOL_STATE ?_
    | with_reducible refine in_SP_STATE ?_
    | exact (rfl : (_ : Bool) = _))

theorem State.ageSinceSave_rg {msk : Nat} {b₀ : State} {s : State} (h₀ : Rg msk b₀ s) (hm₀ : 0 ||| msk = msk) :
    Rg msk b₀ (State.ageSinceSave s) := by
  refine Rg.step h₀ ?_ hm₀
  clear h₀ hm₀
  unfold State.ageSinceSave
  try dsimp only
  repeat' (first
    | with_reducible exact Rg.refl _ _
    | with_reducible assumption
    | exact (rfl : (_ : Nat) = _)
    | with_reducible refine State.setBg_rg ?_ ?_
    | with_reducible refine Rg.foldl ?_ _ _ ?_
    | intro _ _ _
    | split)

theorem State.patrolBring_rg {msk : Nat} {b₀ : State} {s : State} (h₀ : Rg msk b₀ s) (hm₀ : 5967878836917439705864586977761850081205473809568172609285567722717913964150400506396704 ||| msk = msk) :
    Rg msk b₀ (State.patrolBring s) := by
  refine Rg.step h₀ ?_ hm₀
  clear h₀ hm₀
  unfold State.patrolBring
  try dsimp only
  repeat' (first
    | with_reducible exact Rg.refl _ _
    | exact (rfl : (_ : Nat) = _)
    | with_reducible refine State.passStart_rg ?_ ?_
    | with_reducible refine State.ageSinceSave_rg ?_ ?_
    | with_reducible refine State.patrolExpedite_rg ?_ ?_
    | with_reducible refine Rg.ite ?_ ?_)

theorem State.bring7_rg {msk : Nat} {b₀ : State} {s : State} {f : BringupFacts} (h₀ : Rg msk b₀ s) (hm₀ : 96107168060182627087348051681786726349203480532506482066810295476657575344277167133097199674780756668739984332752473391701721517514590990147874683644022959920 ||| msk = msk) :
    Rg msk b₀ (State.bring7 s f) := by
  refine Rg.step h₀ ?_ hm₀
  clear h₀ hm₀
  unfold State.bring7
  try dsimp only
  repeat' (first
    | with_reducible exact Rg.refl _ _
    | with_reducible assumption
    | exact (rfl : (_ : Nat) = _)
    | with_reducible refine State.spillRestore_rg ?_ ?_
    | with_reducible refine State.poolShow_rg ?_ ?_
    | with_reducible refine State.recoverPaddock_rg ?_ ?_
    | with_reducible refine State.spillRecompute_rg ?_ ?_
    | with_reducible refine State.patrolBring_rg ?_ ?_
    | with_reducible refine State.initRange_rg ?_ ?_
    | dsimp only
    | with_reducible refine Rg.ite ?_ ?_
    | with_reducible refine Rg.ite₁ ?_ ?_
    | with_reducible refine RgS.ite ?_ ?_
    | with_reducible refine RgP.ite ?_ ?_
    | with_reducible exact RgS.none
    | with_reducible refine RgS.some ?_
    | with_reducible refine RgS.map ?_
    | with_reducible exact RgP.none
    | with_reducible refine RgP.some ?_
    | with_reducible refine Rg.elim ?_ ?_
    | with_reducible refine Rg.foldl ?_ _ _ ?_
    | with_reducible refine Rg.foldl₂ ?_ _ _ ?_
    | intro _ _ _ _ _ _
    | intro _ _ _ _ _
    | intro _ _ _ _
    | intro _ _ _
    | intro _ _
    | intro _
    | with_reducible refine Rg.pair (h := ?_) (e := by assumption)
    | with_reducible refine RgO.got (h := ?_) (e := by assumption)
    | with_reducible refine RgS.get (h := ?_) (e := by assumption)
    | with_reducible refine RgP.get (h := ?_) (e := by assumption)
    | split
    | refine Rg.mk' ?_)

theorem State.bringTo_rg {msk : Nat} {b₀ : State} {s : State} {f : BringupFacts} {n : Nat} (_ : Rg msk b₀ s) (hm₀ : 57586096570152913699974892898380567793532123114264532903689671329431521032595044740083720782129802971518987656109067457577065805510327036019308994315074097345724415 ||| msk = msk) :
    Rg msk b₀ (State.bringTo s f n) :=
  Rg.any (by rw [← hm₀, Nat.testBit_or]; rfl)

theorem execBringupStall_rg {msk : Nat} {b₀ : State} {step : Nat} {f : BringupFacts} {s : State} (_ : Rg msk b₀ s) (hm₀ : 57586096570152913699974892898380567793532123114264532903689671329431521032595044740083720782129802971518987656109067457577065805510327036019308994315074097345724415 ||| msk = msk) :
    RgO msk b₀ (execBringupStall step f s) :=
  RgO.any (by rw [← hm₀, Nat.testBit_or]; rfl)

theorem execBringup_rg {msk : Nat} {b₀ : State} {f : BringupFacts} {s : State} (_ : Rg msk b₀ s) (hm₀ : 57586096570152913699974892898380567793532123114264532903689671329431521032595044740083720782129802971518987656109067457577065805510327036019308994315074097345724415 ||| msk = msk) :
    RgO msk b₀ (execBringup f s) :=
  RgO.any (by rw [← hm₀, Nat.testBit_or]; rfl)

end Sys2Proof.Machine
end

