-- ==== Sys2Proof/WellFormed.lean ====
section
/-! DEFINITION. Well-formed commands: every operand that names a part of the chip names one that the chip has. -/

namespace Sys2Proof

open Sys2Proof.Machine

/-- Pages of the chip (R50). -/
abbrev pages : Nat := 251
/-- Functions 0 to 248 (R80). -/
abbrev functions : Nat := 249
/-- Pools of this head's paddock, and those of a paddock that it took over (R330, R380). -/
abbrev pools : Nat := 32

/-- The port of a module link (R237); the Torlux link is one. -/
def linkBound : LinkEnd → List (Nat × Nat)
  | .module n => [(n, 24)]
  | .torlux => []

/-- The operands of a command that name a part of the chip, each with the least number that names none. -/
def Instr.bounds : Instr → List (Nat × Nat)
  | .commitPoint _ => []
  | .overrun p unit clk => [(p, pages), (unit, 256), (clk, 6400)]
  | .overrunRepeat p unit => [(p, pages), (unit, 256)]
  | .strideSyncEdge _ => []
  | .syncEdgeLost => []
  | .syncLocked => []
  | .masterTake => []
  | .acquireTimeout => []
  | .strideAdopt => []
  | .commitGateSet => []
  | .commitGateClear => []
  | .calTick => []
  | .calSecondRollover clk => [(clk, 6400)]
  | .hourRollover => []
  | .calSet => []
  | .oscStopped => []
  | .vaonBothLost => []
  | .vaonFeedReturn _ => []
  | .vaonOneLost _ => []
  | .tempBandCount _ => []
  | .lifeSaveHourly => []
  | .lifeCtrlSave => []
  | .lifeSaveDone _ _ => []
  | .registerWrite _ _ => []
  | .rcRegisterRead off => [(off, 0x1000000)]
  | .loRegisterRead off => [(off, 0x1000000)]
  | .hiRegisterWrite off _ => [(off, 0x1000000)]
  | .accessSize off size _ => [(off, 0x1000000), (size, 9)]
  | .unmapped off _ => [(off, 0x1000000)]
  | .pgEnable p => [(p, pages)]
  | .pgDisable p => [(p, pages)]
  | .pgSoftReset p => [(p, pages)]
  | .pgFreeze p => [(p, pages)]
  | .pgUnfreeze p => [(p, pages)]
  | .pgCommit p => [(p, pages)]
  | .initComplete p => [(p, pages)]
  | .initFail p code sub => [(p, pages), (code, 65536), (sub, 256)]
  | .initTimeout p => [(p, pages)]
  | .pageDrained p => [(p, pages)]
  | .pgEventForce p _ => [(p, pages)]
  | .errRearm p => [(p, pages)]
  | .pageParity p => [(p, pages)]
  | .evtArm _ => []
  | .chipInjEn _ => []
  | .injectArm p _ => [(p, pages)]
  | .injectDisarm p => [(p, pages)]
  | .fnCreate gen => [(gen, 2 ^ 16)]
  | .fnResize gen => [(gen, 2 ^ 16)]
  | .fnReset gen => [(gen, 2 ^ 16)]
  | .fnDestroy gen => [(gen, 2 ^ 16)]
  | .fnAttach gen => [(gen, 2 ^ 16)]
  | .fnDetach gen => [(gen, 2 ^ 16)]
  | .fnReply gen => [(gen, 2 ^ 16)]
  | .detachNsidFree f _ => [(f, functions)]
  | .mboxWrite f i _ => [(f, functions), (i, 64)]
  | .mboxRing f => [(f, functions)]
  | .mgmtDbTake i _ => [(i, 8)]
  | .pcieFlr f => [(f, functions)]
  | .nvmeCcEnClear f => [(f, functions)]
  | .fnResetDone f => [(f, functions)]
  | .sriovNumvfsChange n _ => [(n, 249)]
  | .fnRemovalDone f => [(f, functions)]
  | .nvmeSqDoorbell f qid tail => [(f, functions), (qid, 4097), (tail, 65536)]
  | .nvmeCqDoorbell f qid head => [(f, functions), (qid, 4097), (head, 65536)]
  | .cmdFetch _ _ => []
  | .weirAdmit _ _ _ => []
  | .lqIssue f _ => [(f, functions)]
  | .lqTagWrite f t i _ => [(f, functions), (t, 32), (i, 8)]
  | .lqAbort f _ => [(f, functions)]
  | .lqReset f => [(f, functions)]
  | .lqRead _ => []
  | .lqWrite _ => []
  | .lqFlush _ => []
  | .lqVerify _ => []
  | .lqDeallocate _ => []
  | .lqWriteZeroes _ => []
  | .nvmeCreateIoSq _ => []
  | .nvmeCreateIoCq _ => []
  | .nvmeDeleteIoSq _ => []
  | .nvmeDeleteIoCq _ => []
  | .nvmeIdentify _ => []
  | .nvmeGetLogPage _ => []
  | .nvmeSetFeatures _ => []
  | .nvmeGetFeatures _ => []
  | .nvmeAbort _ => []
  | .nvmeAsyncEventRequest _ => []
  | .nvmeRead _ => []
  | .nvmeWrite _ => []
  | .nvmeFlush _ => []
  | .nvmeWriteZeroes _ => []
  | .nvmeDatasetManagement _ => []
  | .nvmeVerify _ => []
  | .ingestTimeout _ => []
  | .pcieCplTimeout f _ => [(f, functions)]
  | .pciePoisonedTlp f _ => [(f, functions)]
  | .pcieLinkUp speed _ => [(speed, 16)]
  | .pcieLinkDown => []
  | .pcieSpeedChange speed _ => [(speed, 16)]
  | .fabricsConnect _ _ _ _ _ _ => []
  | .fabricsPropertyGet _ off => [(off, 4096)]
  | .fabricsPropertySet _ off _ => [(off, 4096)]
  | .fabricsDisconnect _ => []
  | .nvmeofCapsuleRx lport qpn _ _ => [(lport, 16), (qpn, 2 ^ 24)]
  | .katoExpired _ => []
  | .ethModeWrite n _ => [(n, 8)]
  | .ethLinkDown lport => [(lport, 16)]
  | .ethLinkUp lport => [(lport, 16)]
  | .fecDegrade lport lane _ => [(lport, 16), (lane, 8)]
  | .pfcStorm lport => [(lport, 16)]
  | .ethFrameRx lport _ _ _ => [(lport, 16)]
  | .roceRequestRx lport qpn _ => [(lport, 16), (qpn, 2 ^ 24)]
  | .cnpRx qpn => [(qpn, 2 ^ 24)]
  | .cnpRateRestore qpn => [(qpn, 2 ^ 24)]
  | .contextFetchDone qpn _ => [(qpn, 2 ^ 24)]
  | .contextWritebackDone qpn => [(qpn, 2 ^ 24)]
  | .roceAckRx qpn psn => [(qpn, 2 ^ 24), (psn, 2 ^ 24)]
  | .roceNakRx qpn psn _ => [(qpn, 2 ^ 24), (psn, 2 ^ 24)]
  | .transportAckTimeout qpn => [(qpn, 2 ^ 24)]
  | .qpCreate qpn => [(qpn, 2 ^ 24)]
  | .qpModify => []
  | .qpDestroy => []
  | .qpDestroyDone => []
  | .mrReg _ => []
  | .mrInval => []
  | .mrDereg => []
  | .mrPlacementDrained => []
  | .qp1DatagramRx _ _ => []
  | .gsiTxProdWrite _ => []
  | .gsiTxSend _ => []
  | .gsiTxPacketLeft _ => []
  | .sealRx lport qpn psn _ => [(lport, 16), (qpn, 2 ^ 24), (psn, 2 ^ 24)]
  | .sealTimeout qpn => [(qpn, 2 ^ 24)]
  | .rangeLockGrant _ _ _ _ => []
  | .dataArrive cseq _ _ _ _ _ _ => [(cseq, 2 ^ 64)]
  | .entrySeal cseq => [(cseq, 2 ^ 64)]
  | .tlMirrorWrite off _ => [(off, 0x1000000)]
  | .tlMirrorAck cseq => [(cseq, 2 ^ 64)]
  | .tlMirrorNak cseq => [(cseq, 2 ^ 64)]
  | .tlMirrorRelease _ => []
  | .mirrorTimeout cseq => [(cseq, 2 ^ 64)]
  | .fuaPadTimeout _ => []
  | .destageEntry cseq _ _ _ _ _ => [(cseq, 2 ^ 64)]
  | .spillwayStart => []
  | .spillQuiesced => []
  | .spillImageDone _ => []
  | .spillDone => []
  | .spillReturn => []
  | .spillLossAck => []
  | .camRead n _ => [(n, 17)]
  | .camInvalidate n => [(n, 17)]
  | .camWrite n => [(n, 17)]
  | .camValidate n => [(n, 17)]
  | .camSearch n _ maskSet _ => [(n, 17), (maskSet, 4)]
  | .camMsearch n _ maskSet _ => [(n, 17), (maskSet, 4)]
  | .camUpdateResult n => [(n, 17)]
  | .camScrub bank u => [(bank, 16), (u, 65536)]
  | .probeAnswer cseq _ _ => [(cseq, 2 ^ 64)]
  | .probeDeadline cseq _ => [(cseq, 2 ^ 64)]
  | .hotTierSweep => []
  | .dedupMergeStep pool => [(pool, pools)]
  | .basinWaitTimeout _ => []
  | .cisternHitRead _ _ _ _ _ => []
  | .mapLookup _ _ _ _ => []
  | .dieChoice _ _ => []
  | .mediaReadCollect _ _ _ _ => []
  | .grainRecovery _ _ _ _ _ => []
  | .basinSlotFree _ => []
  | .laneFailing k lane _ _ => [(lane, 18)] ++ linkBound k
  | .swapReqRx k lane => [(lane, 18)] ++ linkBound k
  | .swapOrderedSetRx k _ _ _ _ _ => linkBound k
  | .mlkForceSwap n lane _ => [(n, 24), (lane, 8)]
  | .flitRx k _ => linkBound k
  | .replayTimeout k => linkBound k
  | .ackTimer k => linkBound k
  | .initMsgRx k _ => linkBound k
  | .widthMsgRx k _ _ => linkBound k
  | .moduleResponseRx port tag _ => [(port, 24), (tag, 4096)]
  | .moduleInterimResponse port tag _ => [(port, 24), (tag, 4096)]
  | .moduleAlertRx n _ => [(n, 24)]
  | .telemetryPoll n => [(n, 24)]
  | .mlkTrain n => [(n, 24)]
  | .blockLock k _ speed => [(speed, 3)] ++ linkBound k
  | .trainTimeout k => linkBound k
  | .linkInitTimeout k => linkBound k
  | .recoveryRetrained k _ => linkBound k
  | .recoveryTimeout k => linkBound k
  | .moduleAbsent n => [(n, 24)]
  | .modPrsntChange n _ => [(n, 24)]
  | .journalProgram pool => [(pool, pools)]
  | .checkpoint pool _ _ => [(pool, pools)]
  | .reclaimSelect pool => [(pool, pools)]
  | .reclaimMove pool _ _ _ _ => [(pool, pools)]
  | .segmentErase _ => []
  | .volCreate => []
  | .volDelete => []
  | .volResize => []
  | .snapCreate => []
  | .snapDelete => []
  | .roResume => []
  | .snapCut _ => []
  | .snapCreateRecord _ => []
  | .snapDeleteStep _ => []
  | .calUpdate m d bin bgrp => [(m, 24), (d, 1024), (bin, 8), (bgrp, 16384)]
  | .patrolPassStart => []
  | .patrolPace => []
  | .patrolPassEnd => []
  | .patRestart => []
  | .hlRecLatch => []
  | .memberFail port _ => [(port, 24)]
  | .rebuildHoldoffEnd pool => [(pool, pools)]
  | .rebuildStripe pool _ _ _ _ => [(pool, pools)]
  | .lossResolveWalk pool _ => [(pool, pools)]
  | .poolCreate _ _ => []
  | .poolDelete _ => []
  | .reshape _ => []
  | .spareSet => []
  | .readmit => []
  | .rebuildNow => []
  | .lossClear => []
  | .reshapeMigrateStep pool _ _ => [(pool, pools)]
  | .reshapePhaseEnd pool _ => [(pool, pools)]
  | .spLossDataLatch => []
  | .reinBeatRx rein _ _ => [(rein, 2)]
  | .reinSilent rein => [(rein, 2)]
  | .headOkInChange _ => []
  | .fenceInHigh => []
  | .tlResyncData off _ => [(off, 0x1000000)]
  | .tlResyncDone _ => []
  | .tlFwdCmd _ _ _ _ _ => []
  | .tlFwdAccept _ => []
  | .tlFwdData _ _ _ _ _ _ _ _ _ => []
  | .tlFwdCpl _ _ _ => []
  | .tlRefDelta _ => []
  | .tlRefAck _ => []
  | .tlSubst pool paddock module port _ => [(pool, pools), (paddock, 2), (module, 24), (port, 24)]
  | .tlClosed batch => [(batch, 2 ^ 64)]
  | .tlTransfer paddock _ _ _ => [(paddock, 2)]
  | .tlLeave => []
  | .tlLinkDownSplit => []
  | .joinTandem _ => []
  | .joinStandby _ => []
  | .joinWaitTimeout => []
  | .arbTieWait => []
  | .raiseTimeout q port => [(q, 2), (port, 24)]
  | .raiseRetry q port => [(q, 2), (port, 24)]
  | .fenceHead page code sub => [(page, pages), (code, 65536), (sub, 256)]
  | .takeover => []
  | .takeoverDone _ => []
  | .fenceOutRelease => []
  | .fwdLinkDownTimeout _ => []
  | .switchBack => []
  | .handover => []
  | .twinSet => []
  | .twinClear => []
  | .selfFence => []
  | .tdCmdInvalid => []
  | .transferDrainEnd => []
  | .transferHoldEnd => []
  | .transferCheckpointEnd => []
  | .transferAbort => []
  | .tandemCplPost qpn _ _ => [(qpn, 2 ^ 24)]
  | .syncAckRx group _ => [(group, 64)]
  | .syncTimeout group => [(group, 64)]
  | .batchBoundary group => [(group, 64)]
  | .closedSend batch => [(batch, 2 ^ 64)]
  | .sealSend group batch => [(group, 64), (batch, 2 ^ 64)]
  | .stagedRx group batch => [(group, 64), (batch, 2 ^ 64)]
  | .appliedRx group batch => [(group, 64), (batch, 2 ^ 64)]
  | .replRecordRx _ _ => []
  | .batchApply group _ => [(group, 64)]
  | .groupCreate => []
  | .groupDelete => []
  | .volAdd => []
  | .volRemove => []
  | .replSuspend => []
  | .replResume => []
  | .replPromote => []
  | .dramReadReturn ch _ _ _ _ _ _ _ => [(ch, 8)]
  | .caParityError ch addr rank _ _ _ => [(ch, 8), (addr, 2 ^ 64), (rank, 8)]
  | .sameBankRefresh ch rank bank => [(ch, 8), (rank, 8), (bank, 32)]
  | .neighbourRefresh ch => [(ch, 8)]
  | .rfmRequest ch => [(ch, 8)]
  | .dcFreqGo ch speed _ => [(ch, 8), (speed, 4)]
  | .freqChangeDone ch _ => [(ch, 8)]
  | .driftExamine ch _ => [(ch, 8)]
  | .writeTimingTrack ch _ => [(ch, 8)]
  | .scrubRead ch _ _ _ _ _ _ _ => [(ch, 8)]
  | .pprRepair ch rank bank _ => [(ch, 8), (rank, 8), (bank, 32)]
  | .rankSpareStart ch rank => [(ch, 8), (rank, 8)]
  | .rankSpareSwitch ch => [(ch, 8)]
  | .mcacheAccess _ _ _ _ _ => []
  | .mcacheFillDone _ _ => []
  | .mcClean _ => []
  | .mcFlush _ => []
  | .mcInvalidate => []
  | .mcCleanAll => []
  | .mcOpDone => []
  | .objectRebuild _ _ => []
  | .kdeClaim path _ => [(path, 2)]
  | .kdeRelease path _ => [(path, 2)]
  | .kdeIdleTimeout => []
  | .kdeStart path => [(path, 2)]
  | .kdeFinish path => [(path, 2)]
  | .kdeAbort path => [(path, 2)]
  | .kdeData path _ => [(path, 2)]
  | .kdeBlockDone => []
  | .kdeFinishDone => []
  | .kdeExpectWrite path i _ => [(path, 2), (i, 16)]
  | .kdeCtxSuspend path n => [(path, 2), (n, 4)]
  | .kdeCtxResume path n => [(path, 2), (n, 4)]
  | .kdeCtxDiscard path n => [(path, 2), (n, 4)]
  | .kdeCtxExpired n => [(n, 4)]
  | .ksLoad => []
  | .ksLock => []
  | .ksZeroise _ => []
  | .ksSetUse => []
  | .ksInvalidOp => []
  | .ksSlotParity slot => [(slot, 64)]
  | .remountStart p sub => [(p, pages), (sub, 256)]
  | .rmCmd p sub => [(p, pages), (sub, 256)]
  | .sramRowRepair mac _ _ => [(mac, 65536)]
  | .gdActCancel code pool => [(code, 12), (pool, 16)]
  | .stbFlushCmd => []
  | .studbookFlush => []
  | .studbookFlushTimer => []
  | .studbookFlushDone _ _ => []
  | .resilverDone => []
  | .stbRdOffWrite off => [(off, 2 ^ 64)]
  | .stbWindowReady => []
  | .stbAppCmd _ _ => []
  | .tkWrite _ _ _ => []
  | .tkRead => []
  | .tkProceed => []
  | .svcFrameRx _ _ => []
  | .mysynOpen _ _ _ => []
  | .mysynAuth _ => []
  | .mysynClose _ => []
  | .mysynRegRead _ => []
  | .mysynRegWrite _ => []
  | .mysynStbRead _ => []
  | .mysynTackRead _ => []
  | .mysynTackWrite _ _ _ => []
  | .mysynImageBegin _ => []
  | .mysynImageData _ _ => []
  | .mysynImageEnd _ _ => []
  | .mysynImageAbort _ => []
  | .mysynFwCmd _ => []
  | .mysynFwStatus _ => []
  | .mysynReset _ => []
  | .sessionIdleTimeout i => [(i, 4)]
  | .fwActivate _ => []
  | .fwCommit _ => []
  | .fwRevert => []
  | .fwAbortStage => []
  | .porNAssert => []
  | .bringup _ => []
  | .bringupStall step _ => [(step, 8)]
  | .perstNAssert => []
  | .perstNRelease => []
  | .warmReset _ => []
  | .tjHalt => []
  | .thermtrip => []
  | .modRstAssert n => [(n, 24)]
  | .modRstRelease n _ => [(n, 24)]
  | .reinbSyncChange _ => []
  | .fenceInFall => []
  | .tlTrain => []
  | .tlForceSwap lane _ => [(lane, 18)]
  | .svcLinkChange _ speed _ => [(speed, 16)]
  | .nvmeCcEnSet f => [(f, functions)]
  | .failHoldTimeout _ => []

/-- A command whose operands name parts that the chip has. -/
def Instr.wellFormed (i : Instr) : Bool := i.bounds.all fun b => decide (b.1 < b.2)

end Sys2Proof
end

