-- ==== Sys2Proof/Tests/Slice0.lean ====
section
/-! SUPPORT. Tests: the command check refuses an ill-formed command of each kind, and for every statement with hypotheses concrete states
and operands that meet them together, one group for each clause, at boundary values of the ranges. -/

namespace Sys2Proof.Tests
open Sys2Proof Sys2Proof.Machine Sys2Proof.Safety

set_option Elab.async false

/-- A command of a host. -/
def img (op : HostOp) : CmdImg :=
  { op := op, nsid := 1, slba := 0, blocks := 8, fua := false, atomic := false, pract := false, chkGuard := false, chkApp := false,
    chkRef := false, lbat := 0, lbatm := 0, ilbrt := 0, descLen := 4096, metaLen := none, listOk := true, cdw10 := 0, cdw11 := 0,
    inCapsule := none, invKey := none }

/-- A command inside the chip. -/
def cmd (src : CmdSrc) (stage : CmdStage) (op : HostOp) : HostCmd :=
  { src := src, gen := 0, img := img op, vol := some 1, stage := stage, fetchedAt := 0, subject := 1, admittedAt := 0, parts := 1,
    granted := 0, committed := 0, durable := 0, discarded := 0, status := 0, reads := [], slots := 0, charged := 0, admitNo := 0,
    waited := false, tsn := 0 }

/-- A volume of pool 0. -/
def vol : Vol :=
  { pool := 0, owner := 0, format := 0, grains := 100, root := 0, snapshot := false, source := none, children := 0, replTarget := false,
    deleting := none, held := false, anaChange := false }

/-- A pool of four modules. -/
def pool : Pool :=
  { layout := 2, n := 4, modules := [0, 1, 2, 3], spare := none, failed := [], subst := [], cap := 1000000, charge := 0, nextTseq := 1,
    nextPage := 1, freePages := [], nextSeq := 1, band := [], bandNew := none, bandSeq := 0, ckptTseq := 0, ckpt := .idle, volTable := 0,
    segTable := 0, pageTable := 0, reshape := none, phase := .none, switchSeq := 0, credit := 0, holdoffOver := false, started := [],
    losses := [], dieRetired := false, exhaustNext := false, readOnlyNext := false, resumeNext := false }

/-- A closed segment of pool 0 with one live grain. -/
def seg : Seg :=
  { pool := 0, kind := 0, seq := 1, state := .closed, want := none, stripes := 1, nextPage := 1, live := 5, openStride := 0,
    closeStride := 0, packedAt := [0], place := [⟨0, 0, 0⟩, ⟨1, 0, 0⟩, ⟨2, 0, 0⟩, ⟨3, 0, 0⟩], readers := 0, swept := true, erased := [],
    eraseFails := [], refresh := false, rebuild := false, rebuilt := 0, rebuiltAt := [] }

/-- A grain of an entry. -/
def grain : Grain :=
  { raw := true, zero := false, hit := false, partGrain := false, dealloc := false, overtaken := false, hasData := true, mask := 255,
    lenGranules := 64, dedupAddr := 0, check := 0, digest := 0, piTags := [], body := [], policy := 0, probe := .none }

/-- A part with one grain. -/
def part (lock : LockSt) : Part :=
  { cmd := none, part := 0, parts := 1, vol := 1, first := 0, count := 1, lock := lock, admitted := 0, subject := 1, queue := 0,
    cmdId := 0, gen := 0, fua := false, atomic := false, forwarded := false, format := 0, piType := 0, grains := [grain], off := none,
    len := 0, sentAt := 0, resent := false, tseq := none, durable := false, released := false, readers := 0, charged := 0,
    acked := false }

/-- A grain of a read. -/
def rd (stage : RdStage) : RdGrain :=
  { vol := 1, grain := 0, part := 0, chosen := [], need := 255, data := [], tags := [], blank := 0, addr := 0, mapped := false,
    lines := [], page := none, pageRead := false, path := .direct, stage := stage, issued := 0, left := 0, bad := false,
    recon := Recon.start, forced := false, allDecoded := true, checkBad := false, status := 0 }

/-- A queue pair ready to send, with its context on the chip. -/
def qp : Qp :=
  { lport := 15, tenant := 0, kind := 1, pin := false, sprayed := false, tandemCpl := false, state := .rts, mtu := 5, gidIndex := 0,
    destQpn := 2, sqPsn := 0, unacked := 0, hcp := 0, done := 0, msn := 0, retry := 7, retryLeft := 7, rnrRetry := 7, rnrLeft := 7,
    ackTimeout := 14, destGid := 0, destMac := 0, vlan := 0, stream := 0, cached := true, dirty := false, writeback := false,
    fetchAt := none, used := 0, parked := [], nakAt := none, rateSteps := 0, cnpAt := none, sendq := [], reads := [], readsIn := 0,
    ackDue := [], destroying := false }

/-- A Send. -/
def packet : Packet :=
  { isRead := false, isAtomic := false, isSend := true, last := true, psn := 1, bytes := 64, rkey := none, addr := 0, len := 0,
    isWrite := false, inval := none, ecn := false, capsule := none, poolEmpty := false, sealImg := none }

/-- A memory region that is registered. -/
def mr : Mr :=
  { registered := true, key := 0, base := 0, len := 4096, tenant := 0, readOk := true, writeOk := true, pinned := false, rotate := 0 }

/-- A module command. -/
def mcmd (opcode : Nat) : ModCmd :=
  { opcode := opcode, urgent := false, slc := false, die := 0, bgrp := 0, page := 0, planes := 0, units := 0, arg := 0, data := [],
    epoch := 0, use := .status, sent := 0, expect := none, tag := 5 }

/-- The answer OK of a module. -/
def resp : ModResp :=
  { status := mstOk, epoch := 0, holder := 0, info := 0, payload := [],
    report := { unit := 0, words := 0, failed := 0, corr := 0, corrMax := 0, up := [], dn := [] }, places := [] }

/-- A session of the service port that is authenticated. -/
def sess : Session :=
  { id := 7, slot := 0, maintain := true, source := 0, key := [], authed := true, lastSeq := 0, cached := none, fails := 0, lastValid := 0 }

/-- A UART request of TYPE `typ` that a session's key seals. -/
def msg (typ : Nat) (payload : List Byte) : MysynMsg :=
  { source := 0, uart := true, session := 7, seq := 1, payload := payload,
    mac := mysynMac [] (mysynHead typ 0 7 1 payload.length 0 ++ payload) }

/-- RESET of function `n` by the manager. -/
def fnc (n : Nat) : FnCmd :=
  { op := 2, fn := n, gen := 0, legacy := false, qp := 1, cist := 2, wmin := 0, wmax := 0, msix := 1, vol := 0, nsid := 0, reply := [] }

/-- Function 0 ACTIVE with one I/O queue pair that holds a command. -/
def nvme : State :=
  (State.reset.setFn 0 { State.reset.fn 0 with sqs := [(1, ⟨16, 1, 0⟩)], cqs := [(1, ⟨16, 0, 0, true, 1⟩)] }).setFnState 0 fnActive

/-- Function 0 ACTIVE in legacy mode with tag 31 issued. -/
def legacy : State :=
  ((State.reset.setFn 0 { State.reset.fn 0 with legacy := true }).setFnState 0 fnActive).wrWin 0 lqIssue 0x80000000

/-- Command 5 alone. -/
def withCmd (c : HostCmd) : State := State.reset.setCmd 5 c

/-- A Delete I/O Submission Queue of queue 1. -/
def delSq : HostCmd := { cmd (.nvme 0 0 7) .fetched .deleteSq with img := { img .deleteSq with cdw10 := 1 } }

/-- Pages enabled and in RUN. -/
def runs (l : List Nat) (s : State) : State := l.foldl (fun s p => (s.setPage p .run).putBit (R.PG_CTRL p) 0 true) s

/-- The pages of reads, in RUN. -/
def readPages : List Nat := List.range' 93 18 ++ [136, 141]

/-- The pages of writes, in RUN. -/
def writePages : List Nat := List.range' 88 23 ++ [137, 141]

/-- Queue pair 2 alone, its ports and the context cache in RUN. -/
def withQp (q : Qp) : State := runs [20, 21, 22] { State.reset with front := { FrontSt.reset with qps := [(2, q)] } }

/-- A seal that waits on queue pair 2. -/
def sealMsg : SealMsg := ⟨2, 1, 0, ⟨0, 0, 0, [], 0, true⟩⟩

/-- A fabrics controller on queue pair 2. -/
def ctrl : Ctrl :=
  { adminQpn := 2, ioQpns := [], ns := [], props := [], kato := 0, aers := [], feats := [], errLog := [], mediaErrors := 0 }

/-- The argument block of the RMA page holds bytes. -/
def rmaArgs (l : List Byte) (s : State) : State :=
  (List.range ((l.length + 3) / 4)).foldl (fun s i => s.wrN (R.RMA_ARG i) (leAt l (4 * i) 4)) s

/-- Pool 0 with volume 1 and segment 0. -/
def stored : State :=
  { State.reset.wrN R.TD_STATE roleSole with
      media := { MediaSt.reset with pools := [(0, pool)], vols := [(1, vol)], segs := [(0, seg)] }, tandem := { TandemSt.reset with held := [0] } }

/-- A stripe that takes grains. -/
def stripe : Stripe :=
  { pool := 0, seg := 0, page := 0, fill := [], grains := [], closed := false, packedAt := 0, issued := false, waiting := [], failed := [],
    fuaAt := none }

/-- A link that is ACTIVE. -/
def active (k : LinkEnd) : State := State.reset.setLinkState k lsActive

/-- A map transaction of pool 0 that is not journaled. -/
def txn : Txn :=
  { pool := 0, tseq := 1, flags := 1, stride := 0, cseq := 9, vol := 1, ops := [], needs := [], issued := false, okOn := [], durable := false }

/-- Pool 0 with segment 0, its page of the media in RUN. -/
def reshaping (p : Pool) : State := (runs [137, 141] { stored with media := { stored.media with pools := [(0, p)] } }).setRedund 0 rdReshaping

/-- Pool 0 whose module 3 has failed, with segment 0 to rebuild and credit for one stripe. -/
def rebuilding : State :=
  (runs [137, 141]
    { stored with media :=
        { stored.media with pools := [(0, { pool with failed := [(3, 0)], credit := 100 })], segs := [(0, { seg with rebuild := true })] } }).setRedund 0 rdRebuilding

/-- An entry of a loss list. -/
def loss : Loss := ⟨0, 1, 0, 1, 0, 0, 1, false, false⟩

/-- What is kept at grain address 0. -/
def kept : Stored :=
  { raw := true, copied := false, len := 64, cls := 0, head := 0, vol := 1, grain := 0, cseq := 9, segSeq := 1, check := 0, digest := 0,
    piTags := [], body := [], poison := false, obj := none }

/-- Command 5 reads one grain of volume 1. -/
def reading (g : RdGrain) : State :=
  ((runs readPages { stored with media := { stored.media with flash := [(0, kept)] } }).setCmd 5
    { cmd (.nvme 0 1 7) .checked .read with reads := [g] })

/-- A COMMITTED entry of one zero grain. -/
def leaving : Part := { part .committed with grains := [{ grain with zero := true, raw := false, hasData := false }], off := some 0 }

/-- Entry 9 is the one that destage takes. -/
def destaging : State := (runs writePages stored).putPart 9 leaving

/-- Its grains are destaged. -/
def destaged : Option Destaging :=
  destageAll (destaging.poolOf leaving.vol) 9 ((destaging.destageRead 9 leaving [] []).2.getD leaving) (destaging.fuaDestage 9 leaving)
    (destaging.destageRead 9 leaving [] []).2.isNone 0
    (((destaging.destageRead 9 leaving [] []).2.getD leaving).grains.mapIdx fun i g => (i, g))
    (((destaging.destageRead 9 leaving [] []).1.repackAll (destaging.poolOf leaving.vol) []).1, ((destaging.destageRead 9 leaving [] []).1.repackAll (destaging.poolOf leaving.vol) []).2, [])

theorem destaged_some : destaged.isSome = true := by decide +kernel

theorem pair_eta {α β : Type} (p : α × β) : p = (p.1, p.2) := rfl

theorem get_eta {α β γ : Type} {o : Option (α × β × γ)} (h : o.isSome = true) :
    o = some ((o.get h).1, (o.get h).2.1, (o.get h).2.2) := (Option.some_get h).symm

/-- Command 5 of this head is forwarded as 3. -/
def forwarding (c : HostCmd) : State := { withCmd c with tandem := { TandemSt.reset with fwdOut := [(3, 5)] } }

/-- Command 5 came forwarded as 3, and part 9 of it takes data. -/
def taking : State :=
  ({ withCmd (cmd (.forwarded 3) .checked .write) with tandem := { TandemSt.reset with fwdIn := [(3, 5)] } } : State).putPart 9
    { part .streaming with cmd := some 5, grains := [] }

/-- Group 63 alone, and volume 1. -/
def grouped (g : Group) : State :=
  { State.reset with tandem := { TandemSt.reset with groups := [(63, g)] }, media := { MediaSt.reset with vols := [(1, vol)] } }

/-- A closed batch of one record. -/
def batch : StagedBatch := ⟨1, [(0, 1, part .held)], [], true⟩

/-- Line 0 of the metadata cache. -/
def cached (l : McLine) : State := { State.reset with mem := { MemSt.reset with mc := { MemSt.reset.mc with lines := [(0, l)] } } }

/-- The digest engine is owned, and context 3 holds a session. -/
def engine (x : KdeSession) : State :=
  (({ State.reset with mem := { MemSt.reset with kde := { MemSt.reset.kde with session := x, ctxs := [(3, x)] } } } : State).putFld
    R.KDE_OWNER 8 2 1)

/-- One session of the service port, over the UART. -/
def service : State := ({ State.reset with svc := { SvcSt.reset with sessions := [(0, sess)] } } : State).putBit R.SVC_CTRL 1 true

/-- An image being staged. -/
def staging : Staging := ⟨true, [], [], 7⟩

/-- Commands that the check refuses, one for each operand that names a part of the chip (1). -/
theorem test_refuses_1 :
    (Instr.overrun 251 0 0).wellFormed = false
    ∧ (Instr.overrun 0 256 0).wellFormed = false
    ∧ (Instr.overrun 0 0 6400).wellFormed = false
    ∧ (Instr.overrunRepeat 251 0).wellFormed = false
    ∧ (Instr.overrunRepeat 0 256).wellFormed = false
    ∧ (Instr.calSecondRollover 6400).wellFormed = false
    ∧ (Instr.rcRegisterRead 0x1000000).wellFormed = false
    ∧ (Instr.loRegisterRead 0x1000000).wellFormed = false
    ∧ (∀ (x0 : Word), (Instr.hiRegisterWrite 0x1000000 x0).wellFormed = false)
    ∧ (∀ (x0 : Option DWord), (Instr.accessSize 0x1000000 0 x0).wellFormed = false)
    ∧ (∀ (x0 : Option DWord), (Instr.accessSize 0 9 x0).wellFormed = false)
    ∧ (∀ (x0 : Bool), (Instr.unmapped 0x1000000 x0).wellFormed = false)
    ∧ (Instr.pgEnable 251).wellFormed = false
    ∧ (Instr.pgDisable 251).wellFormed = false
    ∧ (Instr.pgSoftReset 251).wellFormed = false
    ∧ (Instr.pgFreeze 251).wellFormed = false
    ∧ (Instr.pgUnfreeze 251).wellFormed = false
    ∧ (Instr.pgCommit 251).wellFormed = false
    ∧ (Instr.initComplete 251).wellFormed = false
    ∧ (Instr.initFail 251 0 0).wellFormed = false
    ∧ (Instr.initFail 0 65536 0).wellFormed = false
    ∧ (Instr.initFail 0 0 256).wellFormed = false
    ∧ (Instr.initTimeout 251).wellFormed = false
    ∧ (Instr.pageDrained 251).wellFormed = false := by
  refine ⟨?_, ?_, ?_, ?_, ?_, ?_, ?_, ?_, ?_, ?_, ?_, ?_, ?_, ?_, ?_, ?_, ?_, ?_, ?_, ?_, ?_, ?_, ?_, ?_⟩ <;> intros <;> rfl

/-- Commands that the check refuses, one for each operand that names a part of the chip (2). -/
theorem test_refuses_2 :
    (∀ (x0 : Word), (Instr.pgEventForce 251 x0).wellFormed = false)
    ∧ (Instr.errRearm 251).wellFormed = false
    ∧ (Instr.pageParity 251).wellFormed = false
    ∧ (∀ (x0 : Word), (Instr.injectArm 251 x0).wellFormed = false)
    ∧ (Instr.injectDisarm 251).wellFormed = false
    ∧ (Instr.fnCreate (2 ^ 16)).wellFormed = false
    ∧ (Instr.fnResize (2 ^ 16)).wellFormed = false
    ∧ (Instr.fnReset (2 ^ 16)).wellFormed = false
    ∧ (Instr.fnDestroy (2 ^ 16)).wellFormed = false
    ∧ (Instr.fnAttach (2 ^ 16)).wellFormed = false
    ∧ (Instr.fnDetach (2 ^ 16)).wellFormed = false
    ∧ (Instr.fnReply (2 ^ 16)).wellFormed = false
    ∧ (Instr.detachNsidFree 249 0).wellFormed = false
    ∧ (∀ (x0 : Word), (Instr.mboxWrite 249 0 x0).wellFormed = false)
    ∧ (∀ (x0 : Word), (Instr.mboxWrite 0 64 x0).wellFormed = false)
    ∧ (Instr.mboxRing 249).wellFormed = false
    ∧ (∀ (x0 : Word), (Instr.mgmtDbTake 8 x0).wellFormed = false)
    ∧ (Instr.pcieFlr 249).wellFormed = false
    ∧ (Instr.nvmeCcEnClear 249).wellFormed = false
    ∧ (Instr.fnResetDone 249).wellFormed = false
    ∧ (∀ (x0 : Bool), (Instr.sriovNumvfsChange 249 x0).wellFormed = false)
    ∧ (Instr.fnRemovalDone 249).wellFormed = false
    ∧ (Instr.nvmeSqDoorbell 249 0 0).wellFormed = false
    ∧ (Instr.nvmeSqDoorbell 0 4097 0).wellFormed = false := by
  refine ⟨?_, ?_, ?_, ?_, ?_, ?_, ?_, ?_, ?_, ?_, ?_, ?_, ?_, ?_, ?_, ?_, ?_, ?_, ?_, ?_, ?_, ?_, ?_, ?_⟩ <;> intros <;> rfl

/-- Commands that the check refuses, one for each operand that names a part of the chip (3). -/
theorem test_refuses_3 :
    (Instr.nvmeSqDoorbell 0 0 65536).wellFormed = false
    ∧ (Instr.nvmeCqDoorbell 249 0 0).wellFormed = false
    ∧ (Instr.nvmeCqDoorbell 0 4097 0).wellFormed = false
    ∧ (Instr.nvmeCqDoorbell 0 0 65536).wellFormed = false
    ∧ (∀ (x0 : Word), (Instr.lqIssue 249 x0).wellFormed = false)
    ∧ (∀ (x0 : Word), (Instr.lqTagWrite 249 0 0 x0).wellFormed = false)
    ∧ (∀ (x0 : Word), (Instr.lqTagWrite 0 32 0 x0).wellFormed = false)
    ∧ (∀ (x0 : Word), (Instr.lqTagWrite 0 0 8 x0).wellFormed = false)
    ∧ (∀ (x0 : Word), (Instr.lqAbort 249 x0).wellFormed = false)
    ∧ (Instr.lqReset 249).wellFormed = false
    ∧ (Instr.pcieCplTimeout 249 0).wellFormed = false
    ∧ (Instr.pciePoisonedTlp 249 0).wellFormed = false
    ∧ (Instr.pcieLinkUp 16 0).wellFormed = false
    ∧ (Instr.pcieSpeedChange 16 0).wellFormed = false
    ∧ (Instr.fabricsPropertyGet 0 4096).wellFormed = false
    ∧ (Instr.fabricsPropertySet 0 4096 0).wellFormed = false
    ∧ (∀ (x0 : Packet) (x1 : Capsule), (Instr.nvmeofCapsuleRx 16 0 x0 x1).wellFormed = false)
    ∧ (∀ (x0 : Packet) (x1 : Capsule), (Instr.nvmeofCapsuleRx 0 (2 ^ 24) x0 x1).wellFormed = false)
    ∧ (∀ (x0 : Word), (Instr.ethModeWrite 8 x0).wellFormed = false)
    ∧ (Instr.ethLinkDown 16).wellFormed = false
    ∧ (Instr.ethLinkUp 16).wellFormed = false
    ∧ (Instr.fecDegrade 16 0 0).wellFormed = false
    ∧ (Instr.fecDegrade 0 8 0).wellFormed = false
    ∧ (Instr.pfcStorm 16).wellFormed = false := by
  refine ⟨?_, ?_, ?_, ?_, ?_, ?_, ?_, ?_, ?_, ?_, ?_, ?_, ?_, ?_, ?_, ?_, ?_, ?_, ?_, ?_, ?_, ?_, ?_, ?_⟩ <;> intros <;> rfl

/-- Commands that the check refuses, one for each operand that names a part of the chip (4). -/
theorem test_refuses_4 :
    (∀ (x0 : EthFrame), (Instr.ethFrameRx 16 x0 0 0).wellFormed = false)
    ∧ (∀ (x0 : Packet), (Instr.roceRequestRx 16 0 x0).wellFormed = false)
    ∧ (∀ (x0 : Packet), (Instr.roceRequestRx 0 (2 ^ 24) x0).wellFormed = false)
    ∧ (Instr.cnpRx (2 ^ 24)).wellFormed = false
    ∧ (Instr.cnpRateRestore (2 ^ 24)).wellFormed = false
    ∧ (∀ (x0 : Option Nat), (Instr.contextFetchDone (2 ^ 24) x0).wellFormed = false)
    ∧ (Instr.contextWritebackDone (2 ^ 24)).wellFormed = false
    ∧ (Instr.roceAckRx (2 ^ 24) 0).wellFormed = false
    ∧ (Instr.roceAckRx 0 (2 ^ 24)).wellFormed = false
    ∧ (∀ (x0 : NakKind), (Instr.roceNakRx (2 ^ 24) 0 x0).wellFormed = false)
    ∧ (∀ (x0 : NakKind), (Instr.roceNakRx 0 (2 ^ 24) x0).wellFormed = false)
    ∧ (Instr.transportAckTimeout (2 ^ 24)).wellFormed = false
    ∧ (Instr.qpCreate (2 ^ 24)).wellFormed = false
    ∧ (∀ (x0 : List Byte), (Instr.sealRx 16 0 0 x0).wellFormed = false)
    ∧ (∀ (x0 : List Byte), (Instr.sealRx 0 (2 ^ 24) 0 x0).wellFormed = false)
    ∧ (∀ (x0 : List Byte), (Instr.sealRx 0 0 (2 ^ 24) x0).wellFormed = false)
    ∧ (Instr.sealTimeout (2 ^ 24)).wellFormed = false
    ∧ (∀ (x0 : List Byte) (x1 : List (Nat × Nat × Nat)) (x2 : List Nat), (Instr.dataArrive (2 ^ 64) x0 x1 0 0 0 x2).wellFormed = false)
    ∧ (Instr.entrySeal (2 ^ 64)).wellFormed = false
    ∧ (∀ (x0 : List Byte), (Instr.tlMirrorWrite 0x1000000 x0).wellFormed = false)
    ∧ (Instr.tlMirrorAck (2 ^ 64)).wellFormed = false
    ∧ (Instr.tlMirrorNak (2 ^ 64)).wellFormed = false
    ∧ (Instr.mirrorTimeout (2 ^ 64)).wellFormed = false
    ∧ (∀ (x0 : List (Nat × Nat)) (x1 : List (Nat × Nat)) (x2 : List (Nat × Bool)) (x3 : List (List Place)), (Instr.destageEntry (2 ^ 64) x0 x1 x2 0 x3).wellFormed = false) := by
  refine ⟨?_, ?_, ?_, ?_, ?_, ?_, ?_, ?_, ?_, ?_, ?_, ?_, ?_, ?_, ?_, ?_, ?_, ?_, ?_, ?_, ?_, ?_, ?_, ?_⟩ <;> intros <;> rfl

/-- Commands that the check refuses, one for each operand that names a part of the chip (5). -/
theorem test_refuses_5 :
    (∀ (x0 : Bool), (Instr.camRead 17 x0).wellFormed = false)
    ∧ (Instr.camInvalidate 17).wellFormed = false
    ∧ (Instr.camWrite 17).wellFormed = false
    ∧ (Instr.camValidate 17).wellFormed = false
    ∧ (∀ (x0 : Bool) (x1 : List Nat), (Instr.camSearch 17 x0 0 x1).wellFormed = false)
    ∧ (∀ (x0 : Bool) (x1 : List Nat), (Instr.camSearch 0 x0 4 x1).wellFormed = false)
    ∧ (∀ (x0 : Bool) (x1 : List Nat), (Instr.camMsearch 17 x0 0 x1).wellFormed = false)
    ∧ (∀ (x0 : Bool) (x1 : List Nat), (Instr.camMsearch 0 x0 4 x1).wellFormed = false)
    ∧ (Instr.camUpdateResult 17).wellFormed = false
    ∧ (Instr.camScrub 16 0).wellFormed = false
    ∧ (Instr.camScrub 0 65536).wellFormed = false
    ∧ (∀ (x0 : List (Nat × Nat)), (Instr.probeAnswer (2 ^ 64) 0 x0).wellFormed = false)
    ∧ (Instr.probeDeadline (2 ^ 64) 0).wellFormed = false
    ∧ (Instr.dedupMergeStep 32).wellFormed = false
    ∧ (∀ (x0 : Bool), (Instr.laneFailing .torlux 18 0 x0).wellFormed = false)
    ∧ (∀ (x0 : Bool), (Instr.laneFailing (.module 24) 0 0 x0).wellFormed = false)
    ∧ (Instr.swapReqRx .torlux 18).wellFormed = false
    ∧ (Instr.swapReqRx (.module 24) 0).wellFormed = false
    ∧ (Instr.swapOrderedSetRx (.module 24) 0 0 0 0 0).wellFormed = false
    ∧ (∀ (x0 : Bool), (Instr.mlkForceSwap 24 0 x0).wellFormed = false)
    ∧ (∀ (x0 : Bool), (Instr.mlkForceSwap 0 8 x0).wellFormed = false)
    ∧ (∀ (x0 : Flit), (Instr.flitRx (.module 24) x0).wellFormed = false)
    ∧ (Instr.replayTimeout (.module 24)).wellFormed = false
    ∧ (Instr.ackTimer (.module 24)).wellFormed = false := by
  refine ⟨?_, ?_, ?_, ?_, ?_, ?_, ?_, ?_, ?_, ?_, ?_, ?_, ?_, ?_, ?_, ?_, ?_, ?_, ?_, ?_, ?_, ?_, ?_, ?_⟩ <;> intros <;> rfl

/-- Commands that the check refuses, one for each operand that names a part of the chip (6). -/
theorem test_refuses_6 :
    (∀ (x0 : InitMsg), (Instr.initMsgRx (.module 24) x0).wellFormed = false)
    ∧ (∀ (x0 : List Nat), (Instr.widthMsgRx (.module 24) 0 x0).wellFormed = false)
    ∧ (∀ (x0 : ModResp), (Instr.moduleResponseRx 24 0 x0).wellFormed = false)
    ∧ (∀ (x0 : ModResp), (Instr.moduleResponseRx 0 4096 x0).wellFormed = false)
    ∧ (∀ (x0 : ModResp), (Instr.moduleInterimResponse 24 0 x0).wellFormed = false)
    ∧ (∀ (x0 : ModResp), (Instr.moduleInterimResponse 0 4096 x0).wellFormed = false)
    ∧ (Instr.moduleAlertRx 24 0).wellFormed = false
    ∧ (Instr.telemetryPoll 24).wellFormed = false
    ∧ (Instr.mlkTrain 24).wellFormed = false
    ∧ (∀ (x0 : List Nat), (Instr.blockLock .torlux x0 3).wellFormed = false)
    ∧ (∀ (x0 : List Nat), (Instr.blockLock (.module 24) x0 0).wellFormed = false)
    ∧ (Instr.trainTimeout (.module 24)).wellFormed = false
    ∧ (Instr.linkInitTimeout (.module 24)).wellFormed = false
    ∧ (∀ (x0 : List Nat), (Instr.recoveryRetrained (.module 24) x0).wellFormed = false)
    ∧ (Instr.recoveryTimeout (.module 24)).wellFormed = false
    ∧ (Instr.moduleAbsent 24).wellFormed = false
    ∧ (∀ (x0 : Bool), (Instr.modPrsntChange 24 x0).wellFormed = false)
    ∧ (Instr.journalProgram 32).wellFormed = false
    ∧ (∀ (x0 : Option BandCopy) (x1 : List (List Place)), (Instr.checkpoint 32 x0 x1).wellFormed = false)
    ∧ (Instr.reclaimSelect 32).wellFormed = false
    ∧ (∀ (x0 : List Nat) (x1 : List (List Place)), (Instr.reclaimMove 32 0 0 x0 x1).wellFormed = false)
    ∧ (Instr.calUpdate 24 0 0 0).wellFormed = false
    ∧ (Instr.calUpdate 0 1024 0 0).wellFormed = false
    ∧ (Instr.calUpdate 0 0 8 0).wellFormed = false := by
  refine ⟨?_, ?_, ?_, ?_, ?_, ?_, ?_, ?_, ?_, ?_, ?_, ?_, ?_, ?_, ?_, ?_, ?_, ?_, ?_, ?_, ?_, ?_, ?_, ?_⟩ <;> intros <;> rfl

/-- Commands that the check refuses, one for each operand that names a part of the chip (7). -/
theorem test_refuses_7 :
    (Instr.calUpdate 0 0 0 16384).wellFormed = false
    ∧ (∀ (x0 : Option BandCopy), (Instr.memberFail 24 x0).wellFormed = false)
    ∧ (Instr.rebuildHoldoffEnd 32).wellFormed = false
    ∧ (∀ (x0 : List Nat) (x1 : List Nat) (x2 : Bool) (x3 : List (List Place)), (Instr.rebuildStripe 32 x0 x1 x2 x3).wellFormed = false)
    ∧ (Instr.lossResolveWalk 32 0).wellFormed = false
    ∧ (∀ (x0 : List Nat) (x1 : List (List Place)), (Instr.reshapeMigrateStep 32 x0 x1).wellFormed = false)
    ∧ (∀ (x0 : List BandCopy), (Instr.reshapePhaseEnd 32 x0).wellFormed = false)
    ∧ (∀ (x0 : List Byte), (Instr.reinBeatRx 2 x0 0).wellFormed = false)
    ∧ (Instr.reinSilent 2).wellFormed = false
    ∧ (∀ (x0 : List Byte), (Instr.tlResyncData 0x1000000 x0).wellFormed = false)
    ∧ (Instr.tlSubst 32 0 0 0 0).wellFormed = false
    ∧ (Instr.tlSubst 0 2 0 0 0).wellFormed = false
    ∧ (Instr.tlSubst 0 0 24 0 0).wellFormed = false
    ∧ (Instr.tlSubst 0 0 0 24 0).wellFormed = false
    ∧ (Instr.tlClosed (2 ^ 64)).wellFormed = false
    ∧ (∀ (x0 : List Nat) (x1 : List Nat) (x2 : PaddockData), (Instr.tlTransfer 2 x0 x1 x2).wellFormed = false)
    ∧ (Instr.raiseTimeout 2 0).wellFormed = false
    ∧ (Instr.raiseTimeout 0 24).wellFormed = false
    ∧ (Instr.raiseRetry 2 0).wellFormed = false
    ∧ (Instr.raiseRetry 0 24).wellFormed = false
    ∧ (Instr.fenceHead 251 0 0).wellFormed = false
    ∧ (Instr.fenceHead 0 65536 0).wellFormed = false
    ∧ (Instr.fenceHead 0 0 256).wellFormed = false
    ∧ (Instr.tandemCplPost (2 ^ 24) 0 0).wellFormed = false := by
  refine ⟨?_, ?_, ?_, ?_, ?_, ?_, ?_, ?_, ?_, ?_, ?_, ?_, ?_, ?_, ?_, ?_, ?_, ?_, ?_, ?_, ?_, ?_, ?_, ?_⟩ <;> intros <;> rfl

/-- Commands that the check refuses, one for each operand that names a part of the chip (8). -/
theorem test_refuses_8 :
    (Instr.syncAckRx 64 0).wellFormed = false
    ∧ (Instr.syncTimeout 64).wellFormed = false
    ∧ (Instr.batchBoundary 64).wellFormed = false
    ∧ (Instr.closedSend (2 ^ 64)).wellFormed = false
    ∧ (Instr.sealSend 64 0).wellFormed = false
    ∧ (Instr.sealSend 0 (2 ^ 64)).wellFormed = false
    ∧ (Instr.stagedRx 64 0).wellFormed = false
    ∧ (Instr.stagedRx 0 (2 ^ 64)).wellFormed = false
    ∧ (Instr.appliedRx 64 0).wellFormed = false
    ∧ (Instr.appliedRx 0 (2 ^ 64)).wellFormed = false
    ∧ (Instr.batchApply 64 0).wellFormed = false
    ∧ (∀ (x0 : List DramReq) (x1 : Bool) (x2 : Bool), (Instr.dramReadReturn 8 0 x0 0 0 0 x1 x2).wellFormed = false)
    ∧ (∀ (x0 : Bool) (x1 : DramUse) (x2 : Bool), (Instr.caParityError 8 0 0 x0 x1 x2).wellFormed = false)
    ∧ (∀ (x0 : Bool) (x1 : DramUse) (x2 : Bool), (Instr.caParityError 0 (2 ^ 64) 0 x0 x1 x2).wellFormed = false)
    ∧ (∀ (x0 : Bool) (x1 : DramUse) (x2 : Bool), (Instr.caParityError 0 0 8 x0 x1 x2).wellFormed = false)
    ∧ (Instr.sameBankRefresh 8 0 0).wellFormed = false
    ∧ (Instr.sameBankRefresh 0 8 0).wellFormed = false
    ∧ (Instr.sameBankRefresh 0 0 32).wellFormed = false
    ∧ (Instr.neighbourRefresh 8).wellFormed = false
    ∧ (Instr.rfmRequest 8).wellFormed = false
    ∧ (∀ (x0 : Bool), (Instr.dcFreqGo 8 0 x0).wellFormed = false)
    ∧ (∀ (x0 : Bool), (Instr.dcFreqGo 0 4 x0).wellFormed = false)
    ∧ (∀ (x0 : Bool), (Instr.freqChangeDone 8 x0).wellFormed = false)
    ∧ (∀ (x0 : List (Nat × Nat × Nat × Nat)), (Instr.driftExamine 8 x0).wellFormed = false) := by
  refine ⟨?_, ?_, ?_, ?_, ?_, ?_, ?_, ?_, ?_, ?_, ?_, ?_, ?_, ?_, ?_, ?_, ?_, ?_, ?_, ?_, ?_, ?_, ?_, ?_⟩ <;> intros <;> rfl

/-- Commands that the check refuses, one for each operand that names a part of the chip (9). -/
theorem test_refuses_9 :
    (Instr.writeTimingTrack 8 0).wellFormed = false
    ∧ (∀ (x0 : Nat × Nat × Nat × Nat × Nat) (x1 : Bool) (x2 : Bool) (x3 : Bool) (x4 : Bool), (Instr.scrubRead 8 0 x0 x1 x2 x3 0 x4).wellFormed = false)
    ∧ (Instr.pprRepair 8 0 0 0).wellFormed = false
    ∧ (Instr.pprRepair 0 8 0 0).wellFormed = false
    ∧ (Instr.pprRepair 0 0 32 0).wellFormed = false
    ∧ (Instr.rankSpareStart 8 0).wellFormed = false
    ∧ (Instr.rankSpareStart 0 8).wellFormed = false
    ∧ (Instr.rankSpareSwitch 8).wellFormed = false
    ∧ (Instr.kdeClaim 2 0).wellFormed = false
    ∧ (Instr.kdeRelease 2 0).wellFormed = false
    ∧ (Instr.kdeStart 2).wellFormed = false
    ∧ (Instr.kdeFinish 2).wellFormed = false
    ∧ (Instr.kdeAbort 2).wellFormed = false
    ∧ (∀ (x0 : Word), (Instr.kdeData 2 x0).wellFormed = false)
    ∧ (∀ (x0 : Word), (Instr.kdeExpectWrite 2 0 x0).wellFormed = false)
    ∧ (∀ (x0 : Word), (Instr.kdeExpectWrite 0 16 x0).wellFormed = false)
    ∧ (Instr.kdeCtxSuspend 2 0).wellFormed = false
    ∧ (Instr.kdeCtxSuspend 0 4).wellFormed = false
    ∧ (Instr.kdeCtxResume 2 0).wellFormed = false
    ∧ (Instr.kdeCtxResume 0 4).wellFormed = false
    ∧ (Instr.kdeCtxDiscard 2 0).wellFormed = false
    ∧ (Instr.kdeCtxDiscard 0 4).wellFormed = false
    ∧ (Instr.kdeCtxExpired 4).wellFormed = false
    ∧ (Instr.ksSlotParity 64).wellFormed = false := by
  refine ⟨?_, ?_, ?_, ?_, ?_, ?_, ?_, ?_, ?_, ?_, ?_, ?_, ?_, ?_, ?_, ?_, ?_, ?_, ?_, ?_, ?_, ?_, ?_, ?_⟩ <;> intros <;> rfl

/-- Commands that the check refuses, one for each operand that names a part of the chip (10). -/
theorem test_refuses_10 :
    (Instr.remountStart 251 0).wellFormed = false
    ∧ (Instr.remountStart 0 256).wellFormed = false
    ∧ (Instr.rmCmd 251 0).wellFormed = false
    ∧ (Instr.rmCmd 0 256).wellFormed = false
    ∧ (Instr.sramRowRepair 65536 0 0).wellFormed = false
    ∧ (Instr.gdActCancel 12 0).wellFormed = false
    ∧ (Instr.gdActCancel 0 16).wellFormed = false
    ∧ (Instr.stbRdOffWrite (2 ^ 64)).wellFormed = false
    ∧ (Instr.sessionIdleTimeout 4).wellFormed = false
    ∧ (∀ (x0 : BringupFacts), (Instr.bringupStall 8 x0).wellFormed = false)
    ∧ (Instr.modRstAssert 24).wellFormed = false
    ∧ (∀ (x0 : Bool), (Instr.modRstRelease 24 x0).wellFormed = false)
    ∧ (∀ (x0 : Bool), (Instr.tlForceSwap 18 x0).wellFormed = false)
    ∧ (∀ (x0 : Bool) (x1 : Bool), (Instr.svcLinkChange x0 16 x1).wellFormed = false)
    ∧ (Instr.nvmeCcEnSet 249).wellFormed = false := by
  refine ⟨?_, ?_, ?_, ?_, ?_, ?_, ?_, ?_, ?_, ?_, ?_, ?_, ?_, ?_, ?_⟩ <;> intros <;> rfl

/-- The hypotheses of StepRunsFrontCommand, clause by clause. -/
theorem test_meets_StepRunsFrontCommand :
    (∃ (c : Instr) (rest : List Instr) (s : State), s.pending = c :: rest)
    ∧ (∃ (s : State), s.pending = []) :=
  ⟨⟨.calTick, [.calTick], { State.reset with pending := [.calTick, .calTick] }, by decide +kernel⟩,
   ⟨State.reset, by decide +kernel⟩⟩

/-- The hypotheses of RegisterFileStaysCanonical, clause by clause. -/
theorem test_meets_RegisterFileStaysCanonical :
    (∃ (s : State) (t : State), canonical s.regs = true ∧ step s = .next t) :=
  ⟨State.reset, State.reset, ⟨by decide +kernel, rfl⟩⟩

/-- The hypotheses of OverrunsAndGate, clause by clause. -/
theorem test_meets_OverrunsAndGate :
    (∃ (p : Nat) (unit : Nat), p < 251 ∧ unit < 256)
    ∧ (∃ (unit : Nat), unit < 256) :=
  ⟨⟨250, 255, by decide +kernel⟩,
   ⟨255, by decide +kernel⟩⟩

/-- The hypotheses of SecondsRolloverIsLatched, clause by clause. -/
theorem test_meets_SecondsRolloverIsLatched :
    (∃ (clk : Nat), clk < 6400) :=
  ⟨6399, by decide +kernel⟩

/-- The hypotheses of LifetimeCountersCountAndAreSaved, clause by clause. -/
theorem test_meets_LifetimeCountersCountAndAreSaved :
    (∃ (q : Int), -32768 ≤ q ∧ q < 32768)
    ∧ (∃ (s : State) (i : Nat) (x : LifeSlot), s.clock.lifeSave = some (i, x) ∧ i < 1024) :=
  ⟨⟨-32768, by decide +kernel⟩,
   ⟨{ State.reset with clock := { ClockSt.reset with lifeSave := some (1023, ⟨1, 0, 0, 0, 0, 0, 0, 0, [], []⟩) } }, 1023, ⟨1, 0, 0, 0, 0, 0, 0, 0, [],
    []⟩, by decide +kernel⟩⟩

/-- The hypotheses of RegisterAccessesFollowTheirCodes, clause by clause. -/
theorem test_meets_RegisterAccessesFollowTheirCodes :
    (∃ (p : Nat), p < 251)
    ∧ (∃ (off : Nat), pageAt off = none ∧ off % 4 = 0)
    ∧ (∃ (off : Nat), off % 4 ≠ 0)
    ∧ (∃ (f : Nat) (s : State), s.fnState f = fnAbsent)
    ∧ (∃ (s : State), s.refuses 2 = false)
    ∧ (∃ (lo : Word) (s : State), s.refuses 2 = false ∧ s.loPend.find R.CAL_SET = some lo)
    ∧ (∃ (off : Nat) (size : Nat), accessOk off size = false)
    ∧ (∃ (off : Nat), off % 4 = 0) :=
  ⟨⟨250, by decide +kernel⟩,
   ⟨0xFFFFFFFC, by decide +kernel⟩,
   ⟨2, by decide +kernel⟩,
   ⟨248, State.reset, by decide +kernel⟩,
   ⟨State.reset, by decide +kernel⟩,
   ⟨3, { State.reset with loPend := [(R.CAL_SET, 3)] }, by decide +kernel⟩,
   ⟨1, 4, by decide +kernel⟩,
   ⟨0, by decide +kernel⟩⟩

/-- The hypotheses of PageControlBitsAreWritten, clause by clause. -/
theorem test_meets_PageControlBitsAreWritten :
    (∃ (p : Nat) (c : Instr) (s : State), s.refuses p = true ∧ c ∈ [.pgEnable p, .pgDisable p, .pgSoftReset p, .pgFreeze p, .pgUnfreeze p, .pgCommit p])
    ∧ (∃ (p : Nat) (s : State), s.refuses p = false)
    ∧ (∃ (p : Nat) (s : State), p < 251 ∧ s.refuses p = false)
    ∧ (∃ (p : Nat), p < 251) :=
  ⟨⟨111, .pgCommit 111, State.reset, by decide +kernel⟩,
   ⟨0, State.reset, by decide +kernel⟩,
   ⟨250, State.reset.setPage 250 .off, by decide +kernel⟩,
   ⟨250, by decide +kernel⟩⟩

/-- The hypotheses of EventForceSetsEventBitsOnly, clause by clause. -/
theorem test_meets_EventForceSetsEventBitsOnly :
    (∃ (p : Nat) (s : State), s.refuses p = false)
    ∧ (∃ (p : Nat) (s : State), s.refuses p = true) :=
  ⟨⟨0, State.reset, by decide +kernel⟩,
   ⟨111, State.reset, by decide +kernel⟩⟩

/-- The hypotheses of PageStatesFollowTheTable, clause by clause. -/
theorem test_meets_PageStatesFollowTheTable :
    (∃ (p : Nat) (s : State), p < 251 ∧ p ∈ s.pages.ready ∧ s.pages.drained = [] ∧ s.pageState p = .init ∧ (p < 13 ∨ p - 13 ∉ s.front.modeStray))
    ∧ (∃ (p : Nat), p < 251)
    ∧ (∃ (p : Nat) (s : State), p < 251 ∧ s.pages.ready = [] ∧ p ∈ s.pages.drained ∧ s.mayGoOff p = true) :=
  ⟨⟨13, { State.reset.setPage 13 .init with pages := ⟨[], [], [13], []⟩ }, by decide +kernel⟩,
   ⟨250, by decide +kernel⟩,
   ⟨136, { State.reset.setPage 136 .run with pages := ⟨[], [], [], [136]⟩ }, by decide +kernel⟩⟩

/-- The hypotheses of InjectionIsEnabledArmedAndDisarmed, clause by clause. -/
theorem test_meets_InjectionIsEnabledArmedAndDisarmed :
    (∃ (p : Nat) (s : State), p < 251 ∧ s.refuses p = false)
    ∧ (∃ (p : Nat) (v : Word) (s : State), p < 251 ∧ s.refuses p = false ∧ hasInject p = true ∧ s.bit R.CHIP_INJ_EN 0 = true ∧ v ≠ 0) :=
  ⟨⟨136, State.reset, by decide +kernel⟩,
   ⟨136, 1, State.reset.putBit R.CHIP_INJ_EN 0 true, by decide +kernel⟩⟩

/-- The hypotheses of FunctionCommandsAreTakenAndApplied, clause by clause. -/
theorem test_meets_FunctionCommandsAreTakenAndApplied :
    (∃ (s : State) (c : FnCmd), s.front.fnCmd = some c ∧ s.fnCheck c ≠ St.success)
    ∧ (∃ (s : State) (c : FnCmd), s.front.fnCmd = some c ∧ s.fnCheck c = St.success ∧ c.fn < 249) :=
  ⟨⟨{ State.reset with front := { FrontSt.reset with fnCmd := some (fnc 249) } }, fnc 249, by decide +kernel⟩,
   ⟨({ State.reset with front := { FrontSt.reset with fnCmd := some (fnc 248) } } : State).setFnState 248 fnActive, fnc 248, by decide +kernel⟩⟩

/-- The hypotheses of FunctionsResetLeaveAndReturn, clause by clause. -/
theorem test_meets_FunctionsResetLeaveAndReturn :
    (∃ (f : Nat), f < 249)
    ∧ (∃ (f : Nat) (s : State), f < 249 ∧ bit (s.win f 0x014) 0 = true ∧ (s.fn f).legacy = false)
    ∧ (∃ (f : Nat) (s : State), f < 249 ∧ s.fnState f = fnActive ∧ (s.fn f).legacy = false)
    ∧ (∃ (f : Nat) (s : State), f < 249 ∧ s.fnState f = fnActive)
    ∧ (∃ (f : Nat) (start : DWord) (gone : Bool) (s : State), f < 249 ∧ (s.fn f).leave = .removal start gone ∧ s.fnState f = fnRemoving ∧
      (∀ p ∈ s.front.cmds, p.2.src.fn ≠ some f))
    ∧ (∃ (f : Nat) (nsid : Nat) (s : State), (∀ p ∈ s.front.cmds, ¬(p.2.src.fn = some f ∧ p.2.img.nsid = nsid ∧ p.2.vol ≠ none))) :=
  ⟨⟨248, by decide +kernel⟩,
   ⟨248, State.reset.wrWin 248 0x014 1, by decide +kernel⟩,
   ⟨248, State.reset.setFnState 248 fnActive, by decide +kernel⟩,
   ⟨248, State.reset.setFnState 248 fnActive, by decide +kernel⟩,
   ⟨248, 0, true, (State.reset.setFn 248 { State.reset.fn 248 with leave := .removal 0 true }).setFnState 248 fnRemoving, by decide +kernel⟩,
   ⟨0, 0, State.reset, by decide +kernel⟩⟩

/-- The hypotheses of MailboxesDoorbellsAndLegacyTags, clause by clause. -/
theorem test_meets_MailboxesDoorbellsAndLegacyTags :
    (∃ (f : Nat) (s : State), f < 249 ∧ s.fnState f ≠ fnAbsent)
    ∧ (∃ (f : Nat) (qid : Nat) (tail : Nat) (q : SubQ) (s : State), (s.fn f).sqs.find qid = some q ∧ tail < q.size)
    ∧ (∃ (f : Nat) (qid : Nat) (head : Nat) (q : CplQ) (s : State), (s.fn f).cqs.find qid = some q ∧ head < q.size)
    ∧ (∃ (f : Nat) (s : State), s.hasLq f = true)
    ∧ (∃ (f : Nat) (k : Nat) (i : Nat) (s : State), s.hasLq f = true ∧ k < 32 ∧ i < 7)
    ∧ (∃ (f : Nat) (k : Nat) (s : State), s.hasLq f = true ∧ k < 32 ∧ s.inFlight f k = true ∧
      (∀ n c, s.tagCmd f k = some (n, c) → c.stage = .fetched ∧ mayComplete s n c)) :=
  ⟨⟨248, State.reset.setFnState 248 fnActive, by decide +kernel⟩,
   ⟨0, 1, 15, ⟨16, 1, 0⟩, nvme, by decide +kernel⟩,
   ⟨0, 1, 15, ⟨16, 0, 0, true, 1⟩, nvme, by decide +kernel⟩,
   ⟨0, legacy, by decide +kernel⟩,
   ⟨0, 31, 6, legacy, by decide +kernel⟩,
   ⟨0, 31, legacy, ⟨by decide +kernel, by decide +kernel, by decide +kernel,
    fun n c h => absurd h (by rw [show State.tagCmd legacy 0 31 = none by decide +kernel]; simp)⟩⟩⟩

/-- The hypotheses of CommandsAreFetchedAndAdmitted, clause by clause. -/
theorem test_meets_CommandsAreFetchedAndAdmitted :
    (∃ (f : Nat) (k : Nat) (s : State), s.stopped = false ∧ s.hasLq f = true ∧ s.fnState f = fnActive ∧ k < 32 ∧ s.inFlight f k = true ∧ s.tagCmd f k =
      none ∧ bit (s.win f lqCtrl) 2 = false)
    ∧ (∃ (f : Nat) (qid : Nat) (q : SubQ) (s : State), s.stopped = false ∧ s.fnState f = fnActive ∧ (s.fn f).legacy = false ∧ (s.fn f).sqs.find qid = some q
      ∧ q.head ≠ q.tail ∧ (qid ≠ 0 → (s.fn f).ps ≠ 3))
    ∧ (∃ (n : Nat) (lo : Nat) (c : HostCmd) (s : State), s.cmd n = some c ∧ c.stage = .fetched ∧ c.img.op.weirClass = some lo ∧ s.stopped = false ∧ s.behind
      n c = false ∧ s.notItsTurn n c = false ∧ 1 ≤ s.weirBal c.subject lo ∧ s.weirHeld lo = false ∧ (lo = wRd → s.camHeld 0 = false) ∧ s.weirCharge c
      ≤ 256 ∧ (c.img.op = .read → (grainSpan (s.cmdFormat c) c.img.slba c.img.blocks).2 ≤ s.rdN R.RD_BASIN_FREE))
    ∧ (∃ (n : Nat) (lo : Nat) (c : HostCmd) (s : State), s.cmd n = some c ∧ c.img.op.weirClass = some lo ∧
      (s.weirBal c.subject lo < 1 ∨ s.behind n c = true ∨ s.notItsTurn n c = true))
    ∧ (∃ (n : Nat) (c : HostCmd) (s : State), s.cmd n = some c ∧ c.stage = .fetched ∧ c.img.op = .flush ∧ s.stopped = false ∧ s.behind n c = false ∧
      s.notItsTurn n c = false)
    ∧ (∃ (n : Nat) (c : HostCmd) (s : State), mayComplete s n c ∧ (c.stage = .fetched ∨ c.stage = .admitted) ∧ c.img.op.weirClass = some wWr ∧
      (∀ p ∈ s.partsOf n, p.2.lock = .streaming) ∧ c.committed = 0 ∧ 25000 ≤ s.since c.fetchedAt)
    ∧ (∃ (n : Nat) (c : HostCmd) (s : State), mayComplete s n c ∧ c.stage = .fetched ∧ c.img.op = .read ∧ 25000 ≤ s.since c.fetchedAt)
    ∧ (∃ (k : Nat) (s : State), s.rdN R.RD_BASIN_FREE + k ≤ 16384 ∧ k ≤ s.front.rdmaSlots) :=
  ⟨⟨0, 31, legacy, by decide +kernel⟩,
   ⟨0, 1, ⟨16, 1, 0⟩, nvme, by decide +kernel⟩,
   ⟨5, wRd, cmd (.nvme 0 1 7) .fetched .read, (runs readPages (withCmd (cmd (.nvme 0 1 7) .fetched .read))).setWeirBal 1 wRd 64, by decide +kernel⟩,
   ⟨5, wRd, cmd (.nvme 0 1 7) .fetched .read, withCmd (cmd (.nvme 0 1 7) .fetched .read), by decide +kernel⟩,
   ⟨5, cmd (.nvme 0 1 7) .fetched .flush, withCmd (cmd (.nvme 0 1 7) .fetched .flush), by decide +kernel⟩,
   ⟨5, cmd (.nvme 0 1 7) .admitted .write, withCmd (cmd (.nvme 0 1 7) .admitted .write) |>.wr64 R.STR_NUM 25000, by unfold mayComplete; decide +kernel⟩,
   ⟨5, cmd (.nvme 0 1 7) .fetched .read, withCmd (cmd (.nvme 0 1 7) .fetched .read) |>.wr64 R.STR_NUM 25000, by unfold mayComplete; decide +kernel⟩,
   ⟨0, State.reset, by decide +kernel⟩⟩

/-- The hypotheses of HostCommandsAreCheckedAndTaken, clause by clause. -/
theorem test_meets_HostCommandsAreCheckedAndTaken :
    (∃ (c : HostCmd), c.stage = .admitted)
    ∧ (∃ (n : Nat) (f : Nat) (qid : Nat) (cid : Nat) (q : CplQ) (c : HostCmd) (s : State), s.cmd n = some c ∧ c.src = .nvme f qid cid ∧ (s.fn f).cqs.find
      qid = some q ∧ s.isStale c = true ∧ s.spilling = false ∧ c.stage = .admitted ∧ c.img.op = .write)
    ∧ (∃ (n : Nat) (c : HostCmd) (s : State), s.cmd n = some c ∧ c.img.op = .flush ∧ (c.stage = .fetched ∨ c.stage = .admitted))
    ∧ (∃ (n : Nat) (c : HostCmd) (s : State), mayComplete s n c ∧ c.stage = .finishing)
    ∧ (∃ (f : Nat) (p : Nat) (s : State), (s.fn f).psNext = some p) :=
  ⟨⟨cmd (.nvme 0 1 7) .admitted .read, by decide +kernel⟩,
   ⟨5, 0, 1, 7, ⟨16, 0, 0, true, 1⟩, { cmd (.nvme 0 1 7) .admitted .write with gen := 1 }, nvme.setCmd 5
    { cmd (.nvme 0 1 7) .admitted .write with gen := 1 }, by decide +kernel⟩,
   ⟨5, cmd (.nvme 0 1 7) .fetched .flush, withCmd (cmd (.nvme 0 1 7) .fetched .flush), by decide +kernel⟩,
   ⟨5, cmd (.nvme 0 1 7) .finishing .flush, withCmd (cmd (.nvme 0 1 7) .finishing .flush), by unfold mayComplete; decide +kernel⟩,
   ⟨0, 3, State.reset.setFn 0 { State.reset.fn 0 with psNext := some 3 }, by decide +kernel⟩⟩

/-- The hypotheses of AdministrativeCommandsRun, clause by clause. -/
theorem test_meets_AdministrativeCommandsRun :
    (∃ (n : Nat) (f : Nat) (c : HostCmd) (s : State), adminReady s n c f .createCq)
    ∧ (∃ (n : Nat) (f : Nat) (c : HostCmd) (s : State), adminReady s n c f .createSq)
    ∧ (∃ (n : Nat) (f : Nat) (c : HostCmd) (s : State), adminReady s n c f .deleteSq ∧ c.img.qid ≠ 0 ∧ (s.fn f).sqs.has c.img.qid = true)
    ∧ (∃ (n : Nat) (f : Nat) (c : HostCmd) (s : State), adminReady s n c f .deleteCq)
    ∧ (∃ (n : Nat) (f : Nat) (c : HostCmd) (s : State), adminReady s n c f .identify)
    ∧ (∃ (n : Nat) (f : Nat) (c : HostCmd) (s : State), adminReady s n c f .getLog)
    ∧ (∃ (n : Nat) (f : Nat) (c : HostCmd) (s : State), adminReady s n c f .setFeat)
    ∧ (∃ (n : Nat) (f : Nat) (c : HostCmd) (s : State), adminReady s n c f .getFeat)
    ∧ (∃ (n : Nat) (f : Nat) (c : HostCmd) (s : State), adminReady s n c f .abort)
    ∧ (∃ (n : Nat) (f : Nat) (c : HostCmd) (s : State), adminReady s n c f .aer) :=
  ⟨⟨5, 0, cmd (.nvme 0 0 7) .fetched .createCq, withCmd (cmd (.nvme 0 0 7) .fetched .createCq), ⟨by decide +kernel, ⟨7, rfl⟩, by decide +kernel⟩⟩,
   ⟨5, 0, cmd (.nvme 0 0 7) .fetched .createSq, withCmd (cmd (.nvme 0 0 7) .fetched .createSq), ⟨by decide +kernel, ⟨7, rfl⟩, by decide +kernel⟩⟩,
   ⟨5, 0, delSq, nvme.setCmd 5 delSq, ⟨⟨by decide +kernel, ⟨7, rfl⟩, by decide +kernel⟩, by decide +kernel⟩⟩,
   ⟨5, 0, cmd (.nvme 0 0 7) .fetched .deleteCq, withCmd (cmd (.nvme 0 0 7) .fetched .deleteCq), ⟨by decide +kernel, ⟨7, rfl⟩, by decide +kernel⟩⟩,
   ⟨5, 0, cmd (.nvme 0 0 7) .fetched .identify, withCmd (cmd (.nvme 0 0 7) .fetched .identify), ⟨by decide +kernel, ⟨7, rfl⟩, by decide +kernel⟩⟩,
   ⟨5, 0, cmd (.nvme 0 0 7) .fetched .getLog, withCmd (cmd (.nvme 0 0 7) .fetched .getLog), ⟨by decide +kernel, ⟨7, rfl⟩, by decide +kernel⟩⟩,
   ⟨5, 0, cmd (.nvme 0 0 7) .fetched .setFeat, withCmd (cmd (.nvme 0 0 7) .fetched .setFeat), ⟨by decide +kernel, ⟨7, rfl⟩, by decide +kernel⟩⟩,
   ⟨5, 0, cmd (.nvme 0 0 7) .fetched .getFeat, withCmd (cmd (.nvme 0 0 7) .fetched .getFeat), ⟨by decide +kernel, ⟨7, rfl⟩, by decide +kernel⟩⟩,
   ⟨5, 0, cmd (.nvme 0 0 7) .fetched .abort, withCmd (cmd (.nvme 0 0 7) .fetched .abort), ⟨by decide +kernel, ⟨7, rfl⟩, by decide +kernel⟩⟩,
   ⟨5, 0, cmd (.nvme 0 0 7) .fetched .aer, withCmd (cmd (.nvme 0 0 7) .fetched .aer), ⟨by decide +kernel, ⟨7, rfl⟩, by decide +kernel⟩⟩⟩

/-- The hypotheses of PacketsFollowTheDuplicateWindow, clause by clause. -/
theorem test_meets_PacketsFollowTheDuplicateWindow :
    (∃ (lport : Nat) (qpn : Nat) (p : Packet) (q : Qp) (s : State), takesPacket s lport qpn q ∧ p.ecn = false)
    ∧ (∃ (lport : Nat) (qpn : Nat) (s : State), s.portTakes lport = true ∧ s.qp qpn = none)
    ∧ (∃ (lport : Nat) (qpn : Nat) (p : Packet) (q : Qp) (s : State), lport < 16 ∧ s.portTakes lport = true ∧ s.qp qpn = some q ∧ q.destroying = false ∧
      q.state = .rts ∧ q.nakAt = none ∧ q.cached = false ∧ p.ecn = false)
    ∧ (∃ (lport : Nat) (qpn : Nat) (p : Packet) (q : Qp) (s : State), takesPacket s lport qpn q ∧ p.ecn = false ∧ p.inval = none ∧ p.psn % psnMod =
      (q.hcp + 1) % psnMod)
    ∧ (∃ (qpn : Nat) (q : Qp) (at_ : DWord) (s : State), s.qp qpn = some q ∧ q.fetchAt = some at_)
    ∧ (∃ (qpn : Nat) (q : Qp) (s : State), s.qp qpn = some q ∧ q.writeback = true) :=
  ⟨⟨15, 2, packet, qp, withQp qp, by unfold takesPacket; decide +kernel⟩,
   ⟨15, 2, runs [20, 21, 22] State.reset, by decide +kernel⟩,
   ⟨15, 2, packet, { qp with cached := false }, withQp { qp with cached := false }, by decide +kernel⟩,
   ⟨15, 2, packet, qp, withQp qp, by unfold takesPacket; decide +kernel⟩,
   ⟨2, { qp with cached := false, fetchAt := some 0 }, 0, withQp { qp with cached := false, fetchAt := some 0 }, by decide +kernel⟩,
   ⟨2, { qp with writeback := true }, withQp { qp with writeback := true }, by decide +kernel⟩⟩

/-- The hypotheses of RequestersRetryAndSealsAreOrdered, clause by clause. -/
theorem test_meets_RequestersRetryAndSealsAreOrdered :
    (∃ (qpn : Nat) (q : Qp) (s : State), s.qp qpn = some q)
    ∧ (∃ (qpn : Nat) (psn : Nat) (q : Qp) (s : State), s.qp qpn = some q ∧ psnBack psn q.unacked < psnBack q.sqPsn q.unacked ∧ psnBack psn q.unacked ≠ 0)
    ∧ (∃ (lport : Nat) (qpn : Nat) (psn : Nat) (q : Qp) (s : State), takesPacket s lport qpn q ∧ s.front.qps.sorted = true ∧ q.kind = 4 ∧ psn % psnMod =
      (q.hcp + 1) % psnMod)
    ∧ (∃ (lport : Nat) (qpn : Nat) (q : Qp) (s : State), takesPacket s lport qpn q ∧ q.kind ≠ 4)
    ∧ (∃ (qpn : Nat) (x : SealMsg) (q : Qp) (s : State), s.qp qpn = some q ∧ (s.sealsOf qpn).find? (fun x => decide (2500 ≤ s.since x.arrived)) = some x)
    ∧ (∃ (qpn : Nat) (s : State), s.sealsOf qpn = []) :=
  ⟨⟨2, qp, withQp qp, by decide +kernel⟩,
   ⟨2, 3, { qp with sqPsn := 4, unacked := 2 }, withQp { qp with sqPsn := 4, unacked := 2 }, by decide +kernel⟩,
   ⟨15, 2, 1, { qp with kind := 4 }, withQp { qp with kind := 4 }, by unfold takesPacket; decide +kernel⟩,
   ⟨15, 2, qp, withQp qp, by unfold takesPacket; decide +kernel⟩,
   ⟨2, sealMsg, qp, { withQp qp with front := { (withQp qp).front with seals := [sealMsg] } } |>.wr64 R.STR_NUM 2500, by decide +kernel⟩,
   ⟨0, State.reset, by decide +kernel⟩⟩

/-- The hypotheses of RmaCommandsAndRingsWork, clause by clause. -/
theorem test_meets_RmaCommandsAndRingsWork :
    (∃ (s : State), s.bit R.RMA_CMD_STATUS 16 = true)
    ∧ (∃ (s : State), s.bit R.RMA_CMD_STATUS 16 = false)
    ∧ (∃ (q : Qp) (s : State), s.bit R.RMA_CMD_STATUS 16 = false ∧ s.liveQp (s.rmaArg 0 4) = some q ∧ s.rmaArg 8 1 ≤ 3 ∧ s.rmaArg 11 1 < 32 ∧ s.rmaArg 16 4
      < psnMod ∧ s.rmaArg 20 4 < psnMod ∧ s.rmaArg 24 1 < 64 ∧ s.rmaArg 25 1 < 32)
    ∧ (∃ (q : Qp) (s : State), s.bit R.RMA_CMD_STATUS 16 = false ∧ s.liveQp (s.rmaArg 0 4) = some q)
    ∧ (∃ (k : Nat) (s : State), s.front.rmaBusy = some (3, k))
    ∧ (∃ (i : Nat) (s : State), s.bit R.RMA_CMD_STATUS 16 = false ∧ s.rmaArg 0 8 % 4096 = 0 ∧ s.rmaArg 8 8 % 4096 = 0 ∧ 4096 ≤ s.rmaArg 8 8 ∧ s.rmaArg 8 8 ≤
      2 ^ 36 ∧ 1 ≤ s.rmaArg 17 1 ∧ s.rmaArg 17 1 < 4 ∧ s.front.mrs.count (fun _ m => m.registered || m.pinned) < 65535 ∧ 1 ≤ i ∧ i ≤ 65535 ∧
      (∀ m, s.mr i = some m → m.registered = false ∧ m.pinned = false))
    ∧ (∃ (i : Nat) (m : Mr) (s : State), s.bit R.RMA_CMD_STATUS 16 = false ∧ s.mrArg = some (i, m))
    ∧ (∃ (i : Nat) (m : Mr) (s : State), s.mr i = some m)
    ∧ (∃ (d : Datagram) (s : State), s.portTakes d.lport = true ∧ s.bit (R.FLT_CTRL 2) (d.lport % 16) = false)
    ∧ (∃ (s : State), s.refuses 21 = false)
    ∧ (∃ (s : State), (s.fld R.GSI_TX_CONS 0 8 + s.front.gsiSent.length) % 256 ≠ s.fld R.GSI_TX_PROD 0 8)
    ∧ (∃ (i : Nat) (s : State), s.front.gsiSent = [(i, false)]) :=
  ⟨⟨State.reset.putBit R.RMA_CMD_STATUS 16 true, by decide +kernel⟩,
   ⟨State.reset, by decide +kernel⟩,
   ⟨qp, rmaArgs [2, 0, 0, 0, 3, 0, 0, 31, 0, 0, 0, 0, 0, 0, 0, 0, 255, 255, 255, 0, 255, 255, 255, 0, 63, 31] (withQp qp), by decide +kernel⟩,
   ⟨qp, rmaArgs [2] (withQp qp), by decide +kernel⟩,
   ⟨2, { State.reset with front := { FrontSt.reset with rmaBusy := some (3, 2) } }, by decide +kernel⟩,
   ⟨65535, rmaArgs [0, 0, 0, 0, 0, 0, 0, 0, 0, 0, 0, 0, 16, 0, 0, 0, 0, 3] State.reset, ⟨by decide +kernel, by decide +kernel, by decide +kernel,
    by decide +kernel, by decide +kernel, by decide +kernel, by decide +kernel, by decide +kernel, by decide +kernel, by decide +kernel,
    fun m h => by cases h⟩⟩,
   ⟨1, mr, rmaArgs [0, 1] (State.reset.setMr 1 mr), by decide +kernel⟩,
   ⟨1, mr, State.reset.setMr 1 mr, by decide +kernel⟩,
   ⟨⟨15, none, 1, 0, 0, 0, 0, 0, []⟩, withQp qp, by decide +kernel⟩,
   ⟨State.reset, by decide +kernel⟩,
   ⟨State.reset.putFld R.GSI_TX_PROD 0 8 255, by decide +kernel⟩,
   ⟨255, { State.reset with front := { FrontSt.reset with gsiSent := [(255, false)] } }, by decide +kernel⟩⟩

/-- The hypotheses of PortsAndFabricsControllers, clause by clause. -/
theorem test_meets_PortsAndFabricsControllers :
    (∃ (n : Nat) (s : State), n < 8 ∧ s.refuses (13 + n) = false)
    ∧ (∃ (p : Nat), p < 16)
    ∧ (∃ (p : Nat) (s : State), p < 16 ∧ s.lportUp p = false ∧ s.lportExists p = true ∧ s.portTakes p = true)
    ∧ (∃ (p : Nat) (up : Bool) (s : State), p < 16 ∧ s.front.portDue = [(p, up)])
    ∧ (∃ (p : Nat) (lane : Nat), p < 16 ∧ lane < 256)
    ∧ (∃ (p : Nat) (len : Nat) (s : State), p < 16 ∧ s.portTakes p = true ∧ len ≤ s.fld (R.ETH_MTU (p / 2)) 0 14)
    ∧ (∃ (p : Nat) (len : Nat) (s : State), p < 16 ∧ s.portTakes p = true ∧ s.fld (R.ETH_MTU (p / 2)) 0 14 < len)
    ∧ (∃ (n : Nat) (q : Nat) (c : HostCmd) (x : Qp) (s : State), fabricsReady s n c q x .connect)
    ∧ (∃ (q : Nat) (k : Nat) (y : Ctrl) (s : State), s.ctrlOf q = some (k, y) ∧ s.ctrl k = some y)
    ∧ (∃ (k : Nat) (y : Ctrl) (s : State), s.ctrl k = some y) :=
  ⟨⟨7, State.reset, by decide +kernel⟩,
   ⟨15, by decide +kernel⟩,
   ⟨14, withQp qp, by decide +kernel⟩,
   ⟨15, true, { State.reset with front := { FrontSt.reset with portDue := [(15, true)] } }, by decide +kernel⟩,
   ⟨15, 255, by decide +kernel⟩,
   ⟨15, 1024, withQp qp, by decide +kernel⟩,
   ⟨15, 9217, withQp qp, by decide +kernel⟩,
   ⟨5, 2, cmd (.fabrics 2 7) .fetched .connect, qp, (withQp qp).setCmd 5 (cmd (.fabrics 2 7) .fetched .connect), ⟨by decide +kernel, ⟨7, rfl⟩,
    by decide +kernel⟩⟩,
   ⟨2, 1, ctrl, { State.reset with front := { FrontSt.reset with ctrls := [(1, ctrl)] } }, by decide +kernel⟩,
   ⟨1, ctrl, { State.reset with front := { FrontSt.reset with ctrls := [(1, ctrl)] } }, by decide +kernel⟩⟩

/-- The hypotheses of WritesAreLockedGatheredAndSealed, clause by clause. -/
theorem test_meets_WritesAreLockedGatheredAndSealed :
    (∃ (n : Nat) (loc : Nat) (vn : Nat) (c : HostCmd) (v : Vol) (s : State), s.cmd n = some c ∧ c.vol = some vn ∧ s.vol vn = some v ∧ c.stage = .checked ∧
      c.img.op.weirClass = some wWr ∧ c.granted < c.parts ∧ s.spilling = false ∧ s.earlierWaits n vn c = false ∧ s.held vn = false ∧ s.quotaRoom c
      (partRange v.format c.img.slba c.img.blocks c.granted).2 = true ∧ s.cist.stalled = [] ∧ s.paced v.pool = false ∧ s.cist.parts.length < 131072 ∧
      loc < 131072 ∧ (s.camAt loc).st = 0 ∧ s.bit R.CHIP_INJ_EN 0 = false ∧ s.camHeld 0 = false ∧ s.halted 88 = false)
    ∧ (∃ (q : Nat) (n : Nat) (data : List Byte) (p : Part) (c : HostCmd) (s : State), s.part q = some p ∧ p.cmd = some n ∧ s.cmd n = some c ∧ p.lock =
      .streaming ∧ c.img.op = .write ∧ p.grains.length < p.count ∧ data.length =
      (maskBits (sectorsPerGrain p.format) (sectorMask p.format c.img.slba c.img.blocks (p.first + p.grains.length))).length * sectorBytes p.format ∧
      s.reductionHeld (s.policy p.vol)
      (decide (sectorMask p.format c.img.slba c.img.blocks (p.first + p.grains.length) = 2 ^ sectorsPerGrain p.format - 1)) = false)
    ∧ (∃ (q : Nat) (p : Part) (s : State), s.part q = some p ∧ p.lock = .streaming ∧ p.grains.length = p.count ∧ s.spilling = false)
    ∧ (∃ (q : Nat) (i : Nat) (p : Part) (g : Grain) (at_ : DWord) (s : State), s.part q = some p ∧ p.grains[i]? = some g ∧ g.probe = .waiting at_) :=
  ⟨⟨5, 131071, 1, cmd (.nvme 0 1 7) .checked .write, vol, ((runs writePages stored).setFn 0 { State.reset.fn 0 with cistQuota := 2 }).setCmd 5
    (cmd (.nvme 0 1 7) .checked .write), by decide +kernel⟩,
   ⟨9, 5, List.replicate 4096 0, { part .streaming with cmd := some 5, grains := [] }, cmd (.nvme 0 1 7) .checked .write,
    ((runs writePages stored).setCmd 5 (cmd (.nvme 0 1 7) .checked .write)).putPart 9 { part .streaming with cmd := some 5, grains := [] },
    by decide +kernel⟩,
   ⟨9, part .streaming, State.reset.putPart 9 (part .streaming), by decide +kernel⟩,
   ⟨9, 0, { part .held with grains := [{ grain with probe := .waiting 0 }] }, { grain with probe := .waiting 0 }, 0, State.reset.putPart 9
    { part .held with grains := [{ grain with probe := .waiting 0 }] }, by decide +kernel⟩⟩

/-- The hypotheses of EntriesAreMirroredAndDestaged, clause by clause. -/
theorem test_meets_EntriesAreMirroredAndDestaged :
    (∃ (s : State), s.spilling = false)
    ∧ (∃ (q : Nat) (p : Part) (s : State), s.spilling = false ∧ s.part q = some p ∧ p.lock = .held)
    ∧ (∃ (q : Nat) (p : Part) (s : State), s.spilling = false ∧ s.part q = some p ∧ p.off ≠ none)
    ∧ (∃ (q : Nat) (p : Part) (s : State), s.part q = some p)
    ∧ (∃ (q : Nat) (after : Nat) (own : List (Nat × Nat)) (mir : List (Nat × Nat)) (bad : List (Nat × Bool)) (places : List (List Place))
      (rest : List (List Place)) (rest' : List (List Place)) (p : Part) (copy : Option Part) (s : State) (s0 : State) (s1 : State) (s2 : State)
      (s3 : State) (ops : List MapOp), s.part q = some p ∧ p.waiting = true ∧ s.earlierEntry q p = false ∧ s.awaitsProbe p = false ∧ s.behindCut q p
      = false ∧ s.tailFull = false ∧ s.spilling = false ∧ s.mutedModules = false ∧ s.halted 89 = false ∧ s.halted 141 = false ∧
      (s.role = roleSole ∨ s.role = roleTandem) ∧ s.mergedRoom (p.merges.length + if p.merges.length = 0 then 0 else after) = true ∧ s.destageRead q
      p own mir = (s0, copy) ∧ s0.mergedCheck p.merges.length bad = (s1, true) ∧ s1.repackAll (s.poolOf p.vol) places = (s2, rest) ∧ destageAll
      (s.poolOf p.vol) q (copy.getD p) (s.fuaDestage q p) copy.isNone after
      ((copy.getD p).grains.mapIdx fun i g => (i, g)) (s2, rest, []) = some (s3, rest', ops) ∧ ops ≠ [])
    ∧ (∃ (i : Nat) (x : Stripe) (at_ : DWord) (s : State), s.media.stripes.find i = some x ∧ x.fuaAt = some at_ ∧ x.closed = false) :=
  ⟨⟨State.reset, by decide +kernel⟩,
   ⟨9, part .held, State.reset.putPart 9 (part .held), by decide +kernel⟩,
   ⟨9, { part .held with off := some 0 }, State.reset.putPart 9 { part .held with off := some 0 }, by decide +kernel⟩,
   ⟨9, part .held, State.reset.putPart 9 (part .held), by decide +kernel⟩,
   ⟨9, 0, [], [], [], [], ((destaging.destageRead 9 leaving [] []).1.repackAll (destaging.poolOf leaving.vol) []).2, (destaged.get destaged_some).2.1,
    leaving, (destaging.destageRead 9 leaving [] []).2, destaging, (destaging.destageRead 9 leaving [] []).1,
    (destaging.destageRead 9 leaving [] []).1, ((destaging.destageRead 9 leaving [] []).1.repackAll (destaging.poolOf leaving.vol) []).1,
    (destaged.get destaged_some).1, (destaged.get destaged_some).2.2, ⟨by decide +kernel, by decide +kernel, by decide +kernel, by decide +kernel,
    by decide +kernel, by decide +kernel, by decide +kernel, by decide +kernel, by decide +kernel, by decide +kernel, by decide +kernel,
    by decide +kernel, pair_eta _, by rw [show leaving.merges.length = 0 by decide +kernel]; exact if_pos rfl, pair_eta _, get_eta destaged_some,
    by decide +kernel⟩⟩,
   ⟨0, { stripe with fuaAt := some 0 }, 0, { State.reset with media := { MediaSt.reset with stripes := [(0, { stripe with fuaAt := some 0 })] } },
    by decide +kernel⟩⟩

/-- The hypotheses of SpillwayRuns, clause by clause. -/
theorem test_meets_SpillwayRuns :
    (∃ (s : State), s.spilling = false ∧ s.cist.spill = .idle)
    ∧ (∃ (s : State), s.cist.spill = .quiescing)
    ∧ (∃ (s : State), s.cist.spill = .imaging)
    ∧ (∃ (s : State), s.cist.spill = .closing ∧ s.bit R.STB_STATUS 0 = false ∧ s.clock.lifeSave = none) :=
  ⟨⟨State.reset, by decide +kernel⟩,
   ⟨{ State.reset with cist := { CistSt.reset with spill := .quiescing } }, by decide +kernel⟩,
   ⟨{ State.reset with cist := { CistSt.reset with spill := .imaging } }, by decide +kernel⟩,
   ⟨{ State.reset with cist := { CistSt.reset with spill := .closing } }, by decide +kernel⟩⟩

/-- The hypotheses of ReadsAreServed, clause by clause. -/
theorem test_meets_ReadsAreServed :
    (∃ (n : Nat) (i : Nat) (unit : Nat) (st : Nat) (g : RdGrain) (g1 : RdGrain) (v : Vol) (s : State) (s1 : State), s.rdGrain n i = some g ∧ s.vol g.vol =
      some v ∧ g.stage = .search ∧ g.mapped = false ∧ s.halted 94 = false ∧ s.halted 93 = false ∧ s.takeEntries unit v.format own mir g g.chosen =
      (s1, g1, st))
    ∧ (∃ (n : Nat) (i : Nat) (a : Nat) (g : RdGrain) (v : Vol) (s : State), s.rdGrain n i = some g ∧ s.vol g.vol = some v ∧ g.stage = .lookup ∧ s.halted 94
      = false ∧ s.linesServed g.lines = true ∧ (s.pool v.pool).isSome = true ∧ a = (if g.mapped then g.addr else s.mapEntry g.vol g.grain))
    ∧ (∃ (n : Nat) (i : Nat) (k0 : Nat) (g : RdGrain) (sg : Seg) (p : Pool) (s : State), s.rdGrain n i = some g ∧ g.stage = .choose ∧ s.mutedModules = false
      ∧ s.halted 94 = false ∧ s.segAt g.addr = some (k0, sg) ∧ s.pool sg.pool = some p)
    ∧ (∃ (n : Nat) (i : Nat) (g : RdGrain) (v : Vol) (s : State), s.rdGrain n i = some g ∧ s.vol g.vol = some v ∧ g.stage = .issued ∧ g.left = 0 ∧ g.page =
      none ∧ s.halted 94 = false ∧ s.halted 136 = false ∧ s.halted 93 = false ∧ (g.path = .around → s.halted 141 = false))
    ∧ (∃ (n : Nat) (i : Nat) (unit : Nat) (k : Nat) (errs : List (Nat × Nat)) (g : RdGrain) (sg : Seg) (p : Pool) (x : Stored) (v : Vol) (s : State)
      (s1 : State) (verdict : Verdict), s.rdGrain n i = some g ∧ s.vol g.vol = some v ∧ g.stage = .recover ∧ g.left = 0 ∧ g.page = none ∧ g.bad =
      false ∧ s.halted 94 = false ∧ s.halted 141 = false ∧ s.halted 93 = false ∧ s.segAt g.addr = some (k, sg) ∧ s.pool sg.pool = some p ∧
      s.media.flash.find (gaKey g.addr) = some x ∧ s.storedCheck unit v.format g.addr x errs = (s1, verdict)) :=
  ⟨⟨5, 0, 0, 0, rd .search, rd .search, vol, reading (rd .search), reading (rd .search), ⟨by decide +kernel, by decide +kernel, by decide +kernel,
    by decide +kernel, by decide +kernel, by decide +kernel, rfl⟩⟩,
   ⟨5, 0, 0, rd .lookup, vol, reading (rd .lookup), by decide +kernel⟩,
   ⟨5, 0, 0, rd .choose, seg, pool, reading (rd .choose), by decide +kernel⟩,
   ⟨5, 0, { rd .issued with path := .around }, vol, reading { rd .issued with path := .around }, by decide +kernel⟩,
   ⟨5, 0, 0, 0, [], rd .recover, seg, pool, kept, vol, reading (rd .recover), ((reading (rd .recover)).storedCheck 0 0 0 kept []).1,
    ((reading (rd .recover)).storedCheck 0 0 0 kept []).2, ⟨by decide +kernel, by decide +kernel, by decide +kernel, by decide +kernel,
    by decide +kernel, by decide +kernel, by decide +kernel, by decide +kernel, by decide +kernel, by decide +kernel, by decide +kernel,
    by decide +kernel, rfl⟩⟩⟩

/-- The hypotheses of SearchBanksAreUpdatedAndSearched, clause by clause. -/
theorem test_meets_SearchBanksAreUpdatedAndSearched :
    (∃ (n : Nat) (i : Nat) (s : State), n ≤ 16 ∧ s.refuses (95 + n) = false ∧ s.camBusy n = false ∧ s.fld (R.CAM_INDEX n) 0 16 = i)
    ∧ (∃ (n : Nat) (i : Nat) (s : State), n ≤ 16 ∧ s.refuses (95 + n) = false ∧ s.camBusy n = false ∧ s.camOwned n = true ∧ s.fld (R.CAM_INDEX n) 0 16 = i ∧
      i % camWidth (camGroup n) = 0)
    ∧ (∃ (n : Nat) (s : State), n ≤ 16 ∧ s.refuses (95 + n) = false)
    ∧ (∃ (n : Nat) (i : Nat) (s : State), n ≤ 16 ∧ s.refuses (95 + n) = false ∧ s.camBusy n = false ∧ s.fld (R.CAM_INDEX n) 0 16 = i ∧ i % camWidth
      (camGroup n) = 0 ∧ s.bit R.CHIP_INJ_EN 0 = false)
    ∧ (∃ (n : Nat) (m : Nat) (s : State), n ≤ 16 ∧ s.refuses (95 + n) = false ∧ s.camBusy n = false ∧ s.bit R.CHIP_INJ_EN 0 = false ∧ m < 4)
    ∧ (∃ (bank : Nat) (u : Nat) (s : State), bank ≤ 15 ∧ u < 65536 ∧ s.bit R.CHIP_INJ_EN 0 = false) :=
  ⟨⟨16, 0, State.reset.setPage 111 .off, by decide +kernel⟩,
   ⟨2, 0, runs [97] State.reset, by decide +kernel⟩,
   ⟨15, State.reset, by decide +kernel⟩,
   ⟨15, 0, State.reset, by decide +kernel⟩,
   ⟨15, 3, State.reset, by decide +kernel⟩,
   ⟨15, 65535, State.reset, by decide +kernel⟩⟩

/-- The hypotheses of LinksTrainAndFall, clause by clause. -/
theorem test_meets_LinksTrainAndFall :
    (∃ (n : Nat) (s : State), n < 24 ∧ s.refuses (mlinkPage n) = false)
    ∧ (∃ (s : State), s.refuses 151 = false)
    ∧ (∃ (k : LinkEnd) (lanes : List Nat) (s : State), linkOn k = true ∧ s.linkState k = lsTrain ∧ k.reduced ≤ (k.good lanes).length)
    ∧ (∃ (n : Nat) (s : State), n < 24 ∧ s.lstate n = lsInit)
    ∧ (∃ (s : State), s.linkState .torlux = lsInit)
    ∧ (∃ (k : LinkEnd), linkOn k = true)
    ∧ (∃ (n : Nat) (s : State), n < 24 ∧ (s.bit (R.MLK_STATUS n) 3 = false ∨ s.bit (R.MLK_CTRL n) 0 = false) ∧ s.lstate n ≠ lsDown)
    ∧ (∃ (k : LinkEnd) (s : State), linkOn k = true ∧ s.linkState k = lsRecovery ∧ s.since (s.flitLink k).since ≤ 250) :=
  ⟨⟨23, State.reset, by decide +kernel⟩,
   ⟨State.reset, by decide +kernel⟩,
   ⟨.module 23, [0, 1, 2, 3, 4], State.reset.setLinkState (.module 23) lsTrain, by decide +kernel⟩,
   ⟨23, State.reset.setLinkState (.module 23) lsInit, by decide +kernel⟩,
   ⟨State.reset.setLinkState .torlux lsInit, by decide +kernel⟩,
   ⟨.module 23, by decide +kernel⟩,
   ⟨23, State.reset.setLinkState (.module 23) lsInit, by decide +kernel⟩,
   ⟨.torlux, State.reset.setLinkState .torlux lsRecovery, by decide +kernel⟩⟩

/-- The hypotheses of FlitsAreAcknowledgedAndReplayed, clause by clause. -/
theorem test_meets_FlitsAreAcknowledgedAndReplayed :
    (∃ (k : LinkEnd) (s : State), linkOn k = true ∧ s.bit R.CHIP_INJ_EN 0 = false) :=
  ⟨.module 23, State.reset, by decide +kernel⟩

/-- The hypotheses of LanesAreSpared, clause by clause. -/
theorem test_meets_LanesAreSpared :
    (∃ (k : LinkEnd) (lane : Nat) (s : State), linkOn k = true ∧ lane < k.lanes ∧ s.linkState k = lsActive)
    ∧ (∃ (k : LinkEnd) (lane : Nat) (sp : Nat) (s : State), linkOn k = true ∧ s.refuses k.page = false ∧ s.linkState k = lsActive ∧ k.active (s.flitLink k)
      (s.flitLink k).txSpared lane = true ∧ k.nextSpare (s.flitLink k) (s.flitLink k).txSpared = some sp)
    ∧ (∃ (k : LinkEnd) (lane : Nat) (s : State), linkOn k = true ∧ s.refuses k.page = false ∧ s.linkState k = lsActive ∧ k.active (s.flitLink k)
      (s.flitLink k).rxSpared lane = true ∧ s.bit k.ctrl 1 = true ∧ (k.nextSpare (s.flitLink k) (s.flitLink k).rxSpared).isSome = true)
    ∧ (∃ (k : LinkEnd) (lane : Nat) (s : State), linkOn k = true ∧ s.linkState k = lsActive ∧ k.active (s.flitLink k) (s.flitLink k).txSpared lane = true ∧
      k.nextSpare (s.flitLink k) (s.flitLink k).txSpared = none)
    ∧ (∃ (k : LinkEnd) (s : State), linkOn k = true ∧ s.linkState k = lsActive)
    ∧ (∃ (k : LinkEnd) (width : Nat) (s : State), linkOn k = true ∧ (s.linkState k = lsActive ∨ s.linkState k = lsRecovery) ∧
      (width = k.full ∨ width = k.reduced)) :=
  ⟨⟨.module 23, 4, active (.module 23), by decide +kernel⟩,
   ⟨.module 23, 3, 4, active (.module 23), by decide +kernel⟩,
   ⟨.module 23, 3, (active (.module 23)).putBit (LinkEnd.ctrl (.module 23)) 1 true, by decide +kernel⟩,
   ⟨.module 23, 3, (active (.module 23)).setFlitLink (.module 23) { FlitLink.fresh 0 [] with txSpared := [(2, 4)] }, by decide +kernel⟩,
   ⟨.module 23, active (.module 23), by decide +kernel⟩,
   ⟨.module 23, LinkEnd.full (.module 23), active (.module 23), by decide +kernel⟩⟩

/-- The hypotheses of ModuleResponsesAreTaken, clause by clause. -/
theorem test_meets_ModuleResponsesAreTaken :
    (∃ (port : Nat) (tag : Nat) (s : State), (s.mlink port).tags.find tag = none)
    ∧ (∃ (port : Nat) (tag : Nat) (c : ModCmd) (s : State), port < 24 ∧ (s.mlink port).tags.find tag = some c)
    ∧ (∃ (port : Nat) (tag : Nat) (r : ModResp) (c : ModCmd) (s : State), port < 24 ∧ (s.mlink port).tags.find tag = some c ∧
      (c.opcode = opProgram ∨ c.opcode = opErase) ∧ r.status = mstOk)
    ∧ (∃ (n : Nat) (s : State), n < 24 ∧ s.linkUp n = true)
    ∧ (∃ (n : Nat) (tg : Nat) (s : State), n < 24 ∧ s.lstate n = lsActive ∧ s.mutedModules = false ∧ s.halted (mlinkPage n) = false ∧ (s.mlink n).queue = []
      ∧ (s.mlink n).freeTag = some tg ∧ (s.mlink n).link.has 0 1 = true) :=
  ⟨⟨0, 0, State.reset, by decide +kernel⟩,
   ⟨23, 5, mcmd opProgram, State.reset.setMlink 23 { MLink.fresh with tags := [(5, mcmd opProgram)] }, by decide +kernel⟩,
   ⟨23, 5, resp, mcmd opProgram, State.reset.setMlink 23 { MLink.fresh with tags := [(5, mcmd opProgram)] }, by decide +kernel⟩,
   ⟨23, active (.module 23), by decide +kernel⟩,
   ⟨23, 0,
    ((runs [mlinkPage 23] (active (.module 23))).setMlink 23 { MLink.fresh with link := { FlitLink.fresh 0 [] with credits := [some 1, some 1, none, none] } }),
    by decide +kernel⟩⟩

/-- The hypotheses of MapTransactionsAreJournaled, clause by clause. -/
theorem test_meets_MapTransactionsAreJournaled :
    (∃ (pool : Nat) (p : Pool) (rs : List StrRec) (l : List Txn) (full : Bool) (s : State), s.pool pool = some p ∧
      (rs = (s.media.strLog.filter fun r => decide (r.pool = pool ∧ r.bseq = 0)).take 1636) ∧ pageSet ((s.txnsOf pool).filter fun t => !t.issued) (65472 - 40 * rs.length) = (l, full) ∧ rs.map StrRec.stride ++ l.map Txn.stride ≠ [])
    ∧ (∃ (pool : Nat) (p : Pool) (s : State), s.pool pool = some p ∧ s.mutedModules = false ∧ s.spilling = false ∧ s.halted 137 = false ∧ s.holds
      (s.padOf pool) = true ∧ (p.ckpt = .idle ∨ p.ckpt = .asked))
    ∧ (∃ (pool : Nat) (m : Nat) (c : Nat) (restores : Bool) (got : Bool) (p : Pool) (s : State), s.pool pool = some p ∧ p.ckpt = .roots c restores [m] got) :=
  ⟨⟨0, pool, [], [txn], false, { stored with media := { stored.media with txns := [(2 ^ 64 * 0 + 1, txn)] } }, by decide +kernel⟩,
   ⟨0, pool, (runs [137] stored), by decide +kernel⟩,
   ⟨0, 3, 1, true, true, { pool with ckpt := .roots 1 true [3] true },
    { stored with media := { stored.media with pools := [(0, { pool with ckpt := .roots 1 true [3] true })] } }, by decide +kernel⟩⟩

/-- The hypotheses of ReclaimMovesAndErases, clause by clause. -/
theorem test_meets_ReclaimMovesAndErases :
    (∃ (pool : Nat) (seg : Nat) (g : Seg) (s : State), s.seg seg = some g ∧ g.pool = pool ∧ (g.state = .selected ∨ g.state = .retired) ∧ g.rebuild = false
      ∧ (s.gcMay pool).2 = true)
    ∧ (∃ (seg : Nat) (g : Seg) (p : Pool) (s : State), s.seg seg = some g ∧ s.pool g.pool = some p) :=
  ⟨⟨0, 0, { seg with state := .selected }, runs [137, 141]
    { stored with media := { stored.media with segs := [(0, { seg with state := .selected })] } }, by decide +kernel⟩,
   ⟨0, seg, pool, stored, by decide +kernel⟩⟩

/-- The hypotheses of VolumesAndSnapshotsAreCommanded, clause by clause. -/
theorem test_meets_VolumesAndSnapshotsAreCommanded :
    (∃ (s : State), s.bit R.FTL_CMD_STATUS 16 = true)
    ∧ (∃ (s : State) (v : Nat) (pool : Nat) (fmt : Nat) (grains : Nat), s.bit R.FTL_CMD_STATUS 16 = false ∧ v = argField s.ftlArgs 0 4 ∧ pool = argField
      s.ftlArgs 4 1 ∧ fmt = argField s.ftlArgs 5 1 ∧ grains = argField s.ftlArgs 8 8)
    ∧ (∃ (s : State) (v : Nat) (n : Nat) (x : Vol), s.bit R.FTL_CMD_STATUS 16 = false ∧ v = argField s.ftlArgs 0 4 ∧ n = argField s.ftlArgs 8 8 ∧ s.vol v =
      some x)
    ∧ (∃ (s : State) (v : Nat) (x : Vol), s.bit R.FTL_CMD_STATUS 16 = false ∧ v = argField s.ftlArgs 0 4 ∧ s.vol v = some x ∧ s.attached v = false ∧
      x.deleting = none ∧ s.owns v = true)
    ∧ (∃ (s : State) (src : Nat) (tgt : Nat) (x : Vol), s.bit R.FTL_CMD_STATUS 16 = false ∧ src = argField s.ftlArgs 0 4 ∧ tgt = argField s.ftlArgs 4 4 ∧
      s.vol src = some x)
    ∧ (∃ (s : State) (pool : Nat) (p : Pool), s.bit R.FTL_CMD_STATUS 16 = false ∧ pool = s.fld R.FTL_POOL_SEL 0 4 ∧ s.pool pool = some p)
    ∧ (∃ (s : State) (target : Nat) (c : Nat) (j : SnapJob) (p : Pool), s.media.snaps.find? (fun j => decide (j.target = target)) = some j ∧ j.cut = some c
      ∧ s.pool (s.poolOf j.source) = some p)
    ∧ (∃ (s : State) (v : Nat) (x : Vol) (l : List Nat) (p : Pool), s.vol v = some x ∧ x.deleting = some (l, false) ∧ s.pool x.pool = some p ∧ s.space
      x.pool ≠ spReadOnly ∧ s.mutedModules = false ∧ (s.guard.acts.any (fun a => decide (v ∈ a.vols ∧ a.st = .queued)) = false)) :=
  ⟨⟨State.reset.putBit R.FTL_CMD_STATUS 16 true, by decide +kernel⟩,
   ⟨State.reset, 0, 0, 0, 0, by decide +kernel⟩,
   ⟨(stored.wr (R.FTL_ARG 0) 1), 1, 0, vol, by decide +kernel⟩,
   ⟨((stored.wr (R.FTL_ARG 0) 1).wrN R.TD_STATE roleSole), 1, vol, by decide +kernel⟩,
   ⟨(stored.wr (R.FTL_ARG 0) 1), 1, 0, vol, by decide +kernel⟩,
   ⟨stored, 0, pool, by decide +kernel⟩,
   ⟨{ stored with media := { stored.media with snaps := [⟨1, 2, 0, false, some 9, false⟩] } }, 2, 9, ⟨1, 2, 0, false, some 9, false⟩, pool,
    by decide +kernel⟩,
   ⟨{ stored with media := { stored.media with vols := [(1, { vol with deleting := some ([], false) })] } }, 1,
    { vol with deleting := some ([], false) }, [], pool, by decide +kernel⟩⟩

/-- The hypotheses of ThresholdsFollowTheReports, clause by clause. -/
theorem test_meets_ThresholdsFollowTheReports :
    (∃ (m : Nat) (d : Nat) (bin : Nat) (c : CalBin) (s : State), c = s.calBin m d bin ∧ bin ≤ 7) :=
  ⟨0, 0, 7, State.reset.calBin 0 0 7, State.reset, by decide +kernel⟩

/-- The hypotheses of PatrolWearAndHealthAreKept, clause by clause. -/
theorem test_meets_PatrolWearAndHealthAreKept :
    (∃ (s : State), s.media.patrol.active = true)
    ∧ (∃ (s : State), s.refuses 138 = false)
    ∧ (∃ (s : State), s.calSec % 3600 = 0)
    ∧ (∃ (s : State) (bs : List Byte), bs = (s.media.health.find (s.fld R.HL_SEL 0 5)).elim [] HealthRec.bytes) :=
  ⟨⟨{ State.reset with media := { MediaSt.reset with patrol := { MediaSt.reset.patrol with active := true } } }, by decide +kernel⟩,
   ⟨State.reset, by decide +kernel⟩,
   ⟨State.reset, by decide +kernel⟩,
   ⟨State.reset, [], by decide +kernel⟩⟩

/-- The hypotheses of MembersFailAndAreRebuilt, clause by clause. -/
theorem test_meets_MembersFailAndAreRebuilt :
    (∃ (port : Nat) (pool : Nat) (m : Nat) (p : Pool) (s : State), s.served port = some (pool, m) ∧ s.pool pool = some p ∧ p.failed.has m = false)
    ∧ (∃ (pool : Nat) (i : Nat) (p : Pool) (g : Seg) (s : State), s.pool pool = some p ∧ (s.rebuildMay pool).2 = true ∧ s.rebuildPick pool p = some (i, g) ∧
      s.seg i = some g ∧ g.live ≠ 0 ∧ 100 ≤ p.credit)
    ∧ (∃ (pool : Nat) (p : Pool) (s : State), s.pool pool = some p ∧ p.credit < 100)
    ∧ (∃ (pool : Nat) (p : Pool) (s : State), s.pool pool = some p)
    ∧ (∃ (s : State), s.bit R.SP_CMD_STATUS 16 = true)
    ∧ (∃ (p : Pool) (s : State), s.bit R.SP_CMD_STATUS 16 = false ∧ s.pool s.spSel = some p)
    ∧ (∃ (pool : Nat) (paddock : Nat) (q : Nat) (p : Pool) (s : State), q = (if paddock = s.headId then pool % 16 else pool % 16 + 16) ∧ s.pool q = some p) :=
  ⟨⟨3, 0, 3, pool, stored, by decide +kernel⟩,
   ⟨0, 0, { pool with failed := [(3, 0)], credit := 100 }, { seg with rebuild := true }, rebuilding, by decide +kernel⟩,
   ⟨0, { pool with credit := 99 }, { stored with media := { stored.media with pools := [(0, { pool with credit := 99 })] } }, by decide +kernel⟩,
   ⟨0, pool, stored, by decide +kernel⟩,
   ⟨State.reset.putBit R.SP_CMD_STATUS 16 true, by decide +kernel⟩,
   ⟨pool, stored, by decide +kernel⟩,
   ⟨0, 0, 0, pool, stored, by decide +kernel⟩⟩

/-- The hypotheses of PoolsAreDefinedReshapedAndListLosses, clause by clause. -/
theorem test_meets_PoolsAreDefinedReshapedAndListLosses :
    (∃ (x : PoolArgs) (s : State), s.bit R.SP_CMD_STATUS 16 = false ∧ x = poolArgs s.spArgs)
    ∧ (∃ (pool : Nat) (s : State), s.bit R.SP_CMD_STATUS 16 = false ∧ pool = argField s.spArgs 0 1)
    ∧ (∃ (x : PoolArgs) (p : Pool) (s : State), s.bit R.SP_CMD_STATUS 16 = false ∧ x = poolArgs s.spArgs ∧ s.pool x.pool = some p)
    ∧ (∃ (pool : Nat) (p : Pool) (k : Nat) (n : Nat) (ms : List Nat) (sp : Option Nat) (s : State), s.pool pool = some p ∧ (s.reshapeMay pool).2 = true ∧
      p.reshape = some (k, n, ms, sp))
    ∧ (∃ (pool : Nat) (i : Nat) (p : Pool) (g : Seg) (s : State), s.pool pool = some p ∧ p.phase = .migrate ∧ (s.reshapeMay pool).2 = true ∧
      (bestSeg (fun _ => 0) ((s.oldSegs pool p).filter fun g => decide (g.2.state = .closed ∨ g.2.state = .selected) && !g.2.rebuild) = some (i, g)))
    ∧ (∃ (pool : Nat) (index : Nat) (p : Pool) (x : Loss) (s : State), s.pool pool = some p ∧ p.losses[index]? = some x ∧ x.resolved = false ∧ index <
      1048576)
    ∧ (∃ (p : Pool) (s : State), s.bit R.SP_CMD_STATUS 16 = false ∧ s.pool s.spSel = some p)
    ∧ (∃ (p : Pool) (x : Loss) (s : State), s.pool s.spSel = some p ∧ p.losses[s.fld R.SP_LOSS_SEL 0 20]? = some x) :=
  ⟨⟨poolArgs State.reset.spArgs, State.reset, by decide +kernel⟩,
   ⟨0, State.reset, by decide +kernel⟩,
   ⟨poolArgs stored.spArgs, pool, stored, by decide +kernel⟩,
   ⟨0, { pool with reshape := some (2, 4, [0, 1, 2, 4], none), phase := .prepare }, 2, 4, [0, 1, 2, 4], none, reshaping
    { pool with reshape := some (2, 4, [0, 1, 2, 4], none), phase := .prepare }, by decide +kernel⟩,
   ⟨0, 0, { pool with phase := .migrate, switchSeq := 9 }, seg, reshaping { pool with phase := .migrate, switchSeq := 9 }, by decide +kernel⟩,
   ⟨0, 0, { pool with losses := [loss] }, loss, reshaping { pool with losses := [loss] }, by decide +kernel⟩,
   ⟨pool, stored, by decide +kernel⟩,
   ⟨{ pool with losses := [loss] }, loss, reshaping { pool with losses := [loss] }, by decide +kernel⟩⟩

/-- The hypotheses of ReinsAndPinsAreWatched, clause by clause. -/
theorem test_meets_ReinsAndPinsAreWatched :
    (∃ (rein : Nat) (s : State), rein < 2 ∧ s.bit R.RN_CTRL rein = true ∧ (rein = 0 → s.spilling = false))
    ∧ (∃ (rein : Nat) (was : Bool) (other : Bool) (s : State), rein < 2 ∧ was = (if rein = 0 then s.tandem.silentA else s.tandem.silentB) ∧ other =
      (if rein = 0 then s.tandem.silentB else s.tandem.silentA)) :=
  ⟨⟨1, State.reset, by decide +kernel⟩,
   ⟨1, false, false, State.reset, by decide +kernel⟩⟩

/-- The hypotheses of RolesAreJoinedAndTakenOver, clause by clause. -/
theorem test_meets_RolesAreJoinedAndTakenOver :
    (∃ (x : DWord) (s : State), s.tandem.tie = some x)
    ∧ (∃ (q : Nat) (port : Nat) (r : Raise) (s : State), s.tandem.raises.find (epKey q port) = some r)
    ∧ (∃ (mine : Nat) (theirs : Nat) (s : State), mine =
      ((List.range 24).filter fun m => decide (s.lstate m = lsActive)).length ∧ theirs = (s.tandem.beat.elim 0 fun b => ((List.range 24).filter fun i => decide (b.mods / 2 ^ i % 2 = 1)).length))
    ∧ (∃ (page : Nat), page < 251)
    ∧ (∃ (s : State), s.bit R.TD_CMD_STATUS 16 = false) :=
  ⟨⟨0, { State.reset with tandem := { TandemSt.reset with tie := some 0 } }, by decide +kernel⟩,
   ⟨1, 23, ⟨1, false, false, .waiting, 0⟩, { State.reset with tandem := { TandemSt.reset with raises := [(55, ⟨1, false, false, .waiting, 0⟩)] } },
    by decide +kernel⟩,
   ⟨0, 0, State.reset, by decide +kernel⟩,
   ⟨250, by decide +kernel⟩,
   ⟨State.reset, by decide +kernel⟩⟩

/-- The hypotheses of CommandsAndChangesCrossTheLink, clause by clause. -/
theorem test_meets_CommandsAndChangesCrossTheLink :
    (∃ (s : State), s.spilling = false)
    ∧ (∃ (id : Nat) (n : Nat) (g : Nat) (k : Nat) (c : HostCmd) (s : State), s.tandem.fwdOut.find id = some n ∧ s.cmd n = some c ∧ c.stage = .forwarded ∧
      c.img.op = .write ∧ s.spilling = false ∧ c.img.inCapsule = none ∧ (g, k) = grainSpan (s.cmdFormat c) c.img.slba c.img.blocks ∧ k ≠ 0)
    ∧ (∃ (id : Nat) (n : Nat) (q : Nat) (s : State), s.spilling = false ∧ s.tandem.fwdIn.find id = some n ∧ s.nextPart n = some q)
    ∧ (∃ (id : Nat) (n : Nat) (c : HostCmd) (s : State), s.spilling = false ∧ s.isStale c = false ∧ s.tandem.fwdIn.find id = none ∧ s.tandem.fwdOut.find id
      = some n ∧ s.cmd n = some c ∧ c.img.op = .read)
    ∧ (∃ (id : Nat) (n : Nat) (c : HostCmd) (s : State), s.tandem.fwdOut.find id = some n ∧ mayComplete s n c)
    ∧ (∃ (d : RefDelta) (i : Nat) (g : Seg) (p : Pool) (s : State), s.spilling = false ∧ s.segAt d.addr = some (i, g) ∧ s.pool g.pool = some p)
    ∧ (∃ (tseq : Nat) (a : List RefDelta) (z : List RefDelta) (d : RefDelta) (s : State), s.spilling = false ∧ s.tandem.refOut = a ++ d :: z ∧ d.tseq = tseq
      ∧ d.sent = true ∧ (∀ x ∈ z, ¬ (x.tseq = tseq ∧ x.sent = true)))
    ∧ (∃ (g : Nat) (x : Group) (s : State), s.spilling = false ∧ s.tandem.groups.find g = some x)
    ∧ (∃ (b : BeatSeen) (s : State), s.spilling = false ∧ s.tandem.beat = some b) :=
  ⟨⟨State.reset, by decide +kernel⟩,
   ⟨3, 5, 0, 1, cmd (.nvme 0 1 7) .forwarded .write, forwarding (cmd (.nvme 0 1 7) .forwarded .write), by decide +kernel⟩,
   ⟨3, 5, 9, taking, by decide +kernel⟩,
   ⟨3, 5, cmd (.nvme 0 1 7) .forwarded .read, forwarding (cmd (.nvme 0 1 7) .forwarded .read), by decide +kernel⟩,
   ⟨3, 5, cmd (.nvme 0 1 7) .forwarded .read, forwarding (cmd (.nvme 0 1 7) .forwarded .read), by unfold mayComplete; decide +kernel⟩,
   ⟨⟨0, 1, 1, true⟩, 0, seg, pool, stored, by decide +kernel⟩,
   ⟨1, [⟨0, 1, 0, true⟩], [⟨0, 1, 2, true⟩], ⟨0, 1, 1, true⟩,
    { State.reset with tandem := { TandemSt.reset with refOut := [⟨0, 1, 0, true⟩, ⟨0, 1, 1, true⟩, ⟨0, 1, 2, true⟩] } }, by decide +kernel⟩,
   ⟨63, Group.empty, grouped Group.empty, by decide +kernel⟩,
   ⟨⟨0, 0, 0, 0⟩, { State.reset with tandem := { TandemSt.reset with beat := some ⟨0, 0, 0, 0⟩ } }, by decide +kernel⟩⟩

/-- The hypotheses of PaddocksAreTransferred, clause by clause. -/
theorem test_meets_PaddocksAreTransferred :
    (∃ (s : State), s.bit R.TD_CMD_STATUS 16 = true)
    ∧ (∃ (s : State), s.bit R.TD_CMD_STATUS 16 = false)
    ∧ (∃ (d : Nat) (s : State), s.bit R.TD_CMD_STATUS 16 = false ∧ d = (s.actStart (s.transferAct 1)).2)
    ∧ (∃ (d : Nat) (s : State), s.bit R.TD_CMD_STATUS 16 = false ∧ d = (s.actStart (s.transferAct 2)).2)
    ∧ (∃ (x : Transfer) (s : State), s.tandem.transfer = some x ∧ x.giver = true) :=
  ⟨⟨State.reset.putBit R.TD_CMD_STATUS 16 true, by decide +kernel⟩,
   ⟨State.reset, by decide +kernel⟩,
   ⟨(State.reset.actStart (State.reset.transferAct 1)).2, State.reset, by decide +kernel⟩,
   ⟨(State.reset.actStart (State.reset.transferAct 2)).2, State.reset, by decide +kernel⟩,
   ⟨⟨0, true, false, .drain, 0, false⟩, { State.reset with tandem := { TandemSt.reset with transfer := some ⟨0, true, false, .drain, 0, false⟩ } },
    by decide +kernel⟩⟩

/-- The hypotheses of GroupsReplicate, clause by clause. -/
theorem test_meets_GroupsReplicate :
    (∃ (s : State), s.bit R.RP_CMD_STATUS 16 = true)
    ∧ (∃ (g : Nat) (s : State), s.bit R.RP_CMD_STATUS 16 = false ∧ g = s.rpSel)
    ∧ (∃ (g : Nat) (s : State), s.tandem.groups.has g = true)
    ∧ (∃ (n : Nat) (c : HostCmd) (held : List Part) (s : State), s.tandem.groups.sorted = true ∧ mayComplete s n c ∧ held =
      ((s.partsOf n).filter fun p => (s.groupOf p.2.vol).elim false fun g => decide (s.rpState g = rpSuspended) && s.bit (R.RP_CFG g) 2 && !s.bit (R.RP_CFG g) 1).map Prod.snd)
    ∧ (∃ (b : Nat) (g : Nat) (x : Group) (s : State), s.tandem.groups.find g = some x ∧ s.async g = true ∧ s.isBoundary g b = true ∧ x.closedOwn < b ∧ b ≤
      s.now.toNat) :=
  ⟨⟨State.reset.putBit R.RP_CMD_STATUS 16 true, by decide +kernel⟩,
   ⟨0, State.reset, by decide +kernel⟩,
   ⟨63, grouped Group.empty, by decide +kernel⟩,
   ⟨5, cmd (.nvme 0 1 7) .fetched .write, [], withCmd (cmd (.nvme 0 1 7) .fetched .write), by unfold mayComplete; decide +kernel⟩,
   ⟨250, 63, Group.empty, (((grouped Group.empty).wr (R.RP_CFG 63) 3).setRpState 63 rpActive).wrN (R.RP_BATCH 63) 250 |>.wr64 R.STR_NUM 250,
    by decide +kernel⟩⟩

/-- The hypotheses of RecordsAreTakenAsRemote, clause by clause. -/
theorem test_meets_RecordsAreTakenAsRemote :
    (∃ (image : List Byte) (g : Nat) (rseq : Nat) (batch : Nat) (vol : Nat) (e : Part), g = leAt image 24 1 ∧ rseq = leAt image 8 8 ∧ batch = leAt image
      16 8 ∧ vol = leAt image 28 3 ∧ e = readEntry (image.drop 64))
    ∧ (∃ (g : Nat) (loc : Nat) (rseq : Nat) (q0 : Nat) (e : Part) (b : StagedBatch) (rest : List StagedBatch) (es : List (Nat × Nat × Part)) (x : Vol)
      (s : State), (s.group g).staged = b :: rest ∧ b.entries = (rseq, q0, e) :: es ∧ b.closed = true ∧ (s.group g).applying = none ∧ s.blocked e.vol
      e.first e.count = false ∧ loc < 131072 ∧ (s.camAt loc).st = 0 ∧ s.cist.parts.length < 131072 ∧ s.vol e.vol = some x ∧ s.spilling = false)
    ∧ (∃ (g : Nat) (b : Nat) (qs : List Nat) (s : State), (s.group g).staged = [] ∧ (s.group g).applying = some (b, qs) ∧ (∀ q ∈ qs, s.part q = none)) :=
  ⟨⟨[], 0, 0, 0, 0, readEntry ([] : List Byte), by decide +kernel⟩,
   ⟨63, 131071, 0, 1, part .held, batch, [], [], vol, (grouped { Group.empty with staged := [batch] }), by decide +kernel⟩,
   ⟨63, 1, [9], grouped { Group.empty with applying := some (1, [9]) }, by decide +kernel⟩⟩

/-- The hypotheses of DramIsRefreshedAndRetimed, clause by clause. -/
theorem test_meets_DramIsRefreshedAndRetimed :
    (∃ (ch : Nat) (rank : Nat) (bank : Nat) (n : Nat) (s : State), n = (s.chan ch).postponed.getD (rank * 32 + bank) 0)
    ∧ (∃ (ch : Nat), ch < 8)
    ∧ (∃ (ch : Nat) (speed : Nat) (start : DWord) (s : State), ch < 8 ∧ (s.chan ch).freq = some (.running speed start) ∧
      (∀ x ∈ s.mem.freqAll, x.1 < 8 ∧ x.1 ≠ ch)) :=
  ⟨⟨7, 0, 0, 0, State.reset, by decide +kernel⟩,
   ⟨7, by decide +kernel⟩,
   ⟨7, 1, 0, ({ State.reset with mem := { MemSt.reset with freqAll := [(6, 1)] } } : State).setChan 7
    { Channel.fresh with freq := some (.running 1 0) }, by decide +kernel⟩⟩

/-- The hypotheses of DramErrorsAreCorrectedAndRepaired, clause by clause. -/
theorem test_meets_DramErrorsAreCorrectedAndRepaired :
    (∃ (ch : Nat) (ns : Nat) (p : Nat) (arrived : List DramReq) (s1 : State) (s : State) (got : Option DramReq), ch < 8 ∧ p = 142 + ch ∧ s.dcServe ch
      (s.now.toNat * 4000 + ns) (arrived.filter fun r => decide (dcChannel r.addr = ch)) = (s1, got))
    ∧ (∃ (ch : Nat) (p : Nat), ch < 8 ∧ p = 142 + ch)
    ∧ (∃ (ch : Nat) (rank : Nat) (bank : Nat) (row : Nat) (re : RowErr) (s : State), ch < 8 ∧ (s.chan ch).rows.find (rowKey rank bank row) = some re)
    ∧ (∃ (ch : Nat), ch < 8)
    ∧ (∃ (ch : Nat) (k : RankCopy) (s : State), ch < 8 ∧ (s.chan ch).copy = some k) :=
  ⟨⟨7, 0, 149, [], (State.reset.dcServe 7 0 []).1, State.reset, (State.reset.dcServe 7 0 []).2, by decide +kernel⟩,
   ⟨7, 149, by decide +kernel⟩,
   ⟨7, 0, 0, 0, ⟨[], true⟩, State.reset.setChan 7 { Channel.fresh with rows := [(0, ⟨[], true⟩)] }, by decide +kernel⟩,
   ⟨7, by decide +kernel⟩,
   ⟨7, ⟨0, 0, 0⟩, State.reset.setChan 7 { Channel.fresh with copy := some ⟨0, 0, 0⟩ }, by decide +kernel⟩⟩

/-- The hypotheses of MetadataCacheServesAndCleans, clause by clause. -/
theorem test_meets_MetadataCacheServesAndCleans :
    (∃ (line : Nat) (m : Nat) (l : McLine) (s : State), s.mem.mc.lines.find line = some l ∧ line ∉ s.mem.mc.broken ∧ line ∉ s.mem.mc.evicting ∧ m ≠ 0 ∧
      l.valid &&& m = m ∧ s.armed 150 0x05 0 = false)
    ∧ (∃ (line : Nat) (w : Nat) (s : State), s.mem.mc.lines.find line = none ∧ line ∉ s.mem.mc.broken ∧ line ∉ s.mem.mc.evicting ∧ s.mem.mc.misses.find line
      = none ∧ s.mem.mc.misses.length < 256 ∧ ((List.range 16).find? fun w => (s.mem.mc.inWay (mcSet line) w).isNone) = some w)
    ∧ (∃ (line : Nat) (m : Nat) (l : McLine) (s : State), s.mem.mc.lines.find line = some l ∧ line ∉ s.mem.mc.broken ∧ m ≠ 0 ∧ l.valid &&& m = m ∧ s.armed
      150 0x05 0 = false ∧ s.operate 150 0 = s)
    ∧ (∃ (s : State), s.bit R.MC_OP_STATUS 16 = true)
    ∧ (∃ (s : State), s.bit R.MC_OP_STATUS 16 = false) :=
  ⟨⟨0, 1, ⟨0, 1, 0, false⟩, cached ⟨0, 1, 0, false⟩, by decide +kernel⟩,
   ⟨0, 0, State.reset, by decide +kernel⟩,
   ⟨0, 1, ⟨0, 1, 0, false⟩, cached ⟨0, 1, 0, false⟩, by decide +kernel⟩,
   ⟨State.reset.putBit R.MC_OP_STATUS 16 true, by decide +kernel⟩,
   ⟨State.reset, by decide +kernel⟩⟩

/-- The hypotheses of DigestEngineIsOwnedAndHashes, clause by clause. -/
theorem test_meets_DigestEngineIsOwnedAndHashes :
    (∃ (path : Nat) (s : State), (s.kdeOwned = false ∨ s.kdeOwner / 64 ≠ path))
    ∧ (∃ (mode : Nat) (s : State), s.kdeOwned = true ∧ mode = s.rdN R.KDE_MODE)
    ∧ (∃ (x : KdeSession) (s : State), s.kdeOwned = true ∧ x = s.mem.kde.session)
    ∧ (∃ (x : KdeSession) (s : State), s.kdeOwned = true ∧ x = s.mem.kde.session ∧ s.bit R.KDE_STATUS 1 = true ∧ s.mem.kde.finishing = false)
    ∧ (∃ (x : KdeSession) (d : List Byte) (s : State), x = s.mem.kde.session ∧ d = kdeDigest x ∧ s.mem.kde.finishing = true ∧ s.bit R.KDE_STATUS 0 = false ∧
      s.armed 10 0x05 0 = false)
    ∧ (∃ (s : State), s.kdeOwned = true)
    ∧ (∃ (n : Nat) (c : KdeSession) (s : State), s.kdeOwned = true ∧ s.mem.kde.ctxs.find (n % 4) = some c)
    ∧ (∃ (n : Nat) (c : KdeSession) (s : State), s.mem.kde.ctxs.find (n % 4) = some c) :=
  ⟨⟨0, State.reset, by decide +kernel⟩,
   ⟨(engine KdeSession.none).rdN R.KDE_MODE, engine KdeSession.none, by decide +kernel⟩,
   ⟨KdeSession.none, engine KdeSession.none, by decide +kernel⟩,
   ⟨KdeSession.none, (engine KdeSession.none).putBit R.KDE_STATUS 1 true, by decide +kernel⟩,
   ⟨KdeSession.none, kdeDigest KdeSession.none, { State.reset with mem := { MemSt.reset with kde := { MemSt.reset.kde with finishing := true } } },
    ⟨rfl, rfl, by decide +kernel⟩⟩,
   ⟨engine KdeSession.none, by decide +kernel⟩,
   ⟨7, KdeSession.none, engine KdeSession.none, by decide +kernel⟩,
   ⟨7, KdeSession.none, engine KdeSession.none, by decide +kernel⟩⟩

/-- The hypotheses of KeySlotCommandsAreLatched, clause by clause. -/
theorem test_meets_KeySlotCommandsAreLatched :
    (∃ (c : Instr), c ∈ [Instr.ksLoad, .ksLock, .ksZeroise true, .ksZeroise false, .ksSetUse, .ksInvalidOp])
    ∧ (∃ (slot : Nat), slot < 64) :=
  ⟨⟨.ksInvalidOp, by decide +kernel⟩,
   ⟨63, by decide +kernel⟩⟩

/-- The hypotheses of RemountsAndRowRepairsStart, clause by clause. -/
theorem test_meets_RemountsAndRowRepairsStart :
    (∃ (p : Nat) (sub : Nat) (trigger : Nat) (u : Nat) (d : Nat) (cmd : Bool) (c : Instr) (s : State),
      (c = .rmCmd p sub ∧ trigger = 2 ∧ cmd = true ∧ s.bit R.RM_CMD_STATUS 16 = false ∧ (s.unitSt p sub).live = true ∨ c = .remountStart p sub ∧ trigger = 1 ∧ cmd = false ∧ s.bit R.RM_CTRL 0 = true ∧ s.guard.candidates.has (p * 256 + sub) = true ∧ s.unitSt p sub = .degraded ∧ s.guard.ladder.any (fun e => decide (e.page = p ∧ e.sub = sub ∧ 2 ≤ e.level)) = false ∧ s.guard.acts.any (fun a => decide (a.code = actRemount ∧ a.op = p * 256 + sub)) = false)
      ∧ hasSpareKind p sub = true ∧ (s.rmJobs.any (fun j => decide (j.page = p ∧ j.sub = sub)) = false) ∧ s.guard.noRemount = false ∧ s.freeSpare p =
      some u ∧ d = (s.actStart { Activity.of actRemount 0 with op := p * 256 + sub, args := [BitVec.ofNat 8 trigger] }).2)
    ∧ (∃ (p : Nat) (sub : Nat) (s : State),
      (s.bit R.RM_CTRL 0 = false ∨ s.guard.noRemount = true ∨ s.guard.candidates.has (p * 256 + sub) = false ∨ s.freeSpare p = none)) :=
  ⟨⟨155, 0, 2, 243, ((runs [155] State.reset).actStart { Activity.of actRemount 0 with op := 155 * 256 + 0, args := [BitVec.ofNat 8 2] }).2, true,
    .rmCmd 155 0, runs [155] State.reset, by decide +kernel⟩,
   ⟨0, 0, State.reset, by decide +kernel⟩⟩

/-- The hypotheses of StudbookAndTackAreServed, clause by clause. -/
theorem test_meets_StudbookAndTackAreServed :
    (∃ (e : Nat) (s : State), s.stud.flushTo = some e ∧ s.stud.dev0Ok = true ∧ s.stud.dev1Ok = true)
    ∧ (∃ (o : Nat) (s : State), s.stud.window = some o)
    ∧ (∃ (day : Nat) (used : Nat) (s : State), day = s.calSec / 86400 ∧ used = (if s.stud.appDay = day then s.stud.appBytes else 0)) :=
  ⟨⟨0, { State.reset with stud := { StudSt.reset with flushTo := some 0 } }, by decide +kernel⟩,
   ⟨0, { State.reset with stud := { StudSt.reset with window := some 0 } }, by decide +kernel⟩,
   ⟨0, 0, State.reset, by decide +kernel⟩⟩

/-- The hypotheses of ServicePortServesItsSessions, clause by clause. -/
theorem test_meets_ServicePortServesItsSessions :
    (∃ (n : Nat) (s : State), n = (if s.svc.opens.1 = s.calSec then s.svc.opens.2 + 1 else 1))
    ∧ (∃ (m : MysynMsg) (i : Nat) (x : Session) (s : State), mysynFrom s m 0x03 i x ∧ m.seq = x.lastSeq + 1)
    ∧ (∃ (m : MysynMsg) (i : Nat) (x : Session) (s : State), mysynNext s m 0x04 i x)
    ∧ (∃ (s : State), s.power.stopped = true)
    ∧ (∃ (x : Session), x.maintain = false)
    ∧ (∃ (m : MysynMsg) (n : Nat) (i : Nat) (x : Session) (s : State), mysynRuns s m 0x10 i x ∧ m.payload.length = 6 ∧ n = leAt m.payload 4 2 ∧ 1 ≤ n ∧ n ≤
      256)
    ∧ (∃ (m : MysynMsg) (off : Nat) (n : Nat) (i : Nat) (x : Session) (s : State), mysynRuns s m 0x11 i x ∧ x.maintain = true ∧ off = leAt m.payload 0 4 ∧ n
      = leAt m.payload 4 2 ∧ m.payload.length = 8 + 4 * n ∧ 1 ≤ n ∧ n ≤ 350)
    ∧ (∃ (m : MysynMsg) (off : Nat) (n : Nat) (i : Nat) (x : Session) (s : State), mysynNext s m 0x20 i x ∧ s.recovery = false ∧ off = leAt m.payload 0 8 ∧
      n = leAt m.payload 8 2 ∧ m.payload.length = 11 ∧ off % 4 = 0 ∧ n % 4 = 0 ∧ 4 ≤ n ∧ n ≤ 1024)
    ∧ (∃ (m : MysynMsg) (copy : Nat) (off : Nat) (n : Nat) (i : Nat) (x : Session) (s : State), mysynRuns s m 0x30 i x ∧ copy = leAt m.payload 0 1 ∧ off =
      leAt m.payload 4 4 ∧ n = leAt m.payload 8 2 ∧ m.payload.length = 10 ∧ copy ≤ 2 ∧ 1 ≤ n ∧ n ≤ 1024 ∧ off + n ≤ 262144 ∧
      (¬ (copy = 0 ∧ s.tack.inUse = [])))
    ∧ (∃ (m : MysynMsg) (off : Nat) (i : Nat) (data : List Byte) (buf : List Byte) (new : List Byte) (x : Session) (s : State), mysynRuns s m 0x31 i x ∧
      x.maintain = true ∧ off = leAt m.payload 0 4 ∧ data = m.payload.drop 8 ∧ 1 ≤ data.length ∧ data.length ≤ 1024 ∧ off + data.length ≤ 262144 ∧
      buf = stageAt s.svc.tackBuf off data ∧ new = tackWithSeq buf (s.tackTop + 1))
    ∧ (∃ (m : MysynMsg) (i : Nat) (x : Session) (s : State), mysynNext s m 0x50 i x ∧ x.maintain = true ∧ m.payload.length = 4 ∧
      (leAt m.payload 0 1 = 0x01 ∨ leAt m.payload 0 1 = 0x11)) :=
  ⟨⟨1, { State.reset with svc := { SvcSt.reset with opens := (9, 3) } }, by decide +kernel⟩,
   ⟨msg 0x03 [], 0, sess, service, by unfold mysynFrom; decide +kernel⟩,
   ⟨msg 0x04 [], 0, sess, service, by unfold mysynNext mysynFrom; decide +kernel⟩,
   ⟨{ State.reset with power := { PowerSt.reset with stopped := true } }, by decide +kernel⟩,
   ⟨{ sess with maintain := false }, by decide +kernel⟩,
   ⟨msg 0x10 [0, 0, 0, 0, 0, 1], 256, 0, sess, service, by unfold mysynRuns mysynNext mysynFrom; decide +kernel⟩,
   ⟨msg 0x11 ([0, 0, 0, 0, 0x5E, 1, 0, 0] ++ List.replicate 1400 0), 0, 350, 0, sess, service, by unfold mysynRuns mysynNext mysynFrom; decide +kernel⟩,
   ⟨msg 0x20 [0, 0, 0, 0, 0, 0, 0, 0, 0, 4, 0], 0, 1024, 0, sess, service, by unfold mysynNext mysynFrom; decide +kernel⟩,
   ⟨msg 0x30 [2, 0, 0, 0, 0, 0xFC, 3, 0, 0, 4], 2, 261120, 1024, 0, sess, service, by unfold mysynRuns mysynNext mysynFrom; decide +kernel⟩,
   ⟨msg 0x31 ([0, 0, 0, 0, 1, 0, 0, 0] ++ [0x58]), 0, 0, [0x58], stageAt service.svc.tackBuf 0 [0x58], tackWithSeq
    (stageAt service.svc.tackBuf 0 [0x58]) (service.tackTop + 1), sess, service, by unfold mysynRuns mysynNext mysynFrom; decide +kernel⟩,
   ⟨msg 0x50 [0x11, 0, 0, 0], 0, sess, service, by unfold mysynNext mysynFrom; decide +kernel⟩⟩

/-- The hypotheses of FirmwareIsStagedAndCommitted, clause by clause. -/
theorem test_meets_FirmwareIsStagedAndCommitted :
    (∃ (m : MysynMsg) (i : Nat) (c : Nat) (x : Session) (s : State), mysynNext s m 0x40 i x ∧ s.power.stopped = false ∧ x.maintain = true ∧ c =
      s.fwHeaderCheck m.payload)
    ∧ (∃ (m : MysynMsg) (i : Nat) (x : Session) (g : Staging) (data : List Byte) (s : State), mysynNext s m 0x41 i x ∧ s.power.stopped = false ∧ x.maintain
      = true ∧ s.svc.staging = some g ∧ data = m.payload.drop 4)
    ∧ (∃ (m : MysynMsg) (i : Nat) (x : Session) (g : Staging) (s : State), mysynNext s m 0x42 i x ∧ s.power.stopped = false ∧ x.maintain = true ∧
      s.svc.staging = some g)
    ∧ (∃ (m : MysynMsg) (i : Nat) (x : Session) (s : State), mysynNext s m 0x43 i x ∧ s.power.stopped = false ∧ x.maintain = true)
    ∧ (∃ (s : State), (s.bit R.FW_CMD_STATUS 16 = true ∨ s.power.stopped = true))
    ∧ (∃ (s : State), s.bit R.FW_CMD_STATUS 16 = false ∧ s.power.stopped = false ∧ s.svc.staging = none)
    ∧ (∃ (s : State), s.bit R.FW_CMD_STATUS 16 = false ∧ s.power.stopped = false)
    ∧ (∃ (m : MysynMsg) (i : Nat) (w : Nat) (x : Session) (s : State), mysynRuns s m 0x44 i x ∧ x.maintain = true ∧ w = leAt m.payload 0 4 ∧ s.svc.staging =
      none)
    ∧ (∃ (m : MysynMsg) (i : Nat) (x : Session) (s : State), mysynNext s m 0x45 i x) :=
  ⟨⟨msg 0x40 [], 0, service.fwHeaderCheck [], sess, service, by unfold mysynNext mysynFrom; decide +kernel⟩,
   ⟨msg 0x41 [0, 0, 0, 0, 0x58], 0, sess, staging, [0x58], { service with svc := { service.svc with staging := some staging } },
    by unfold mysynNext mysynFrom; decide +kernel⟩,
   ⟨msg 0x42 [], 0, sess, staging, { service with svc := { service.svc with staging := some staging } }, by unfold mysynNext mysynFrom; decide +kernel⟩,
   ⟨msg 0x43 [], 0, sess, service, by unfold mysynNext mysynFrom; decide +kernel⟩,
   ⟨State.reset.putBit R.FW_CMD_STATUS 16 true, by decide +kernel⟩,
   ⟨State.reset, by decide +kernel⟩,
   ⟨State.reset, by decide +kernel⟩,
   ⟨msg 0x44 [0, 0, 0, 0], 0, 0, sess, service, by unfold mysynRuns mysynNext mysynFrom; decide +kernel⟩,
   ⟨msg 0x45 [], 0, sess, service, by unfold mysynNext mysynFrom; decide +kernel⟩⟩

/-- The hypotheses of ResetsPinsAndLinksAct, clause by clause. -/
theorem test_meets_ResetsPinsAndLinksAct :
    (∃ (n : Nat), n < 24) :=
  ⟨23, by decide +kernel⟩

end Sys2Proof.Tests
end

section
/-! Proofs about the stride and the calendar (01_stride_and_time.md). -/

namespace Sys2Proof.Machine

/-! ### A number written to a register -/

/-- A register reads the number written to it, where the number fits its 32 bits. -/
theorem State.rdN_wrN_same (s : State) (k : Nat) {v : Nat} (hv : v < 2 ^ 32) : (s.wrN k v).rdN k = v := by
  unfold State.rdN
  rw [State.rd_wrN, if_pos rfl, BitVec.toNat_ofNat, Nat.mod_eq_of_lt hv]

/-- A number written to a register leaves a 64-bit register that it is no half of. -/
theorem State.rd64_wrN_ne (s : State) {j k : Nat} (v : Nat) (hlo : j ≠ k) (hhi : j + 4 ≠ k) :
    (s.wrN k v).rd64 j = s.rd64 j := by
  unfold State.rd64
  rw [State.rd_wrN, State.rd_wrN, if_neg hlo, if_neg hhi]

/-! ### The seconds rollover (R42) -/

theorem exec_calSecondRollover (clk : Nat) (s : State) :
    exec (.calSecondRollover clk) s
      = .next ((s.wr64 R.CAL_AT_STRIDE s.now).wrN R.CAL_AT_CLK (clk % 8192)) := rfl

end Sys2Proof.Machine

namespace Sys2Proof.Safety

open Sys2Proof.Machine

/-- Settles O11: the two latches are different registers, and an engine clock below 6,400 fits the 13 bits of CAL_AT_CLK. -/
theorem secondsRolloverIsLatched : Obligations.SecondsRolloverIsLatched := by
  intro clk s hclk
  refine ⟨_, exec_calSecondRollover clk s, ?stride, ?clock⟩
  case stride => rw [State.rd64_wrN_ne _ _ (by decide) (by decide), State.rd64_wr64]
  case clock =>
    have hfield : clk % 8192 = clk := Nat.mod_eq_of_lt (by omega)
    rw [hfield, State.rdN_wrN_same _ _ (by omega)]

end Sys2Proof.Safety
end

section
/-! Proofs about the register pages (02_register_pages.md). -/

namespace Sys2Proof.Machine

/-! ### A write to a header bit of a page (R63) -/

theorem State.pageWrite_of_accepts {s : State} {p : Nat} (h : s.refuses p = false) (f : State → State) :
    s.pageWrite p f = f s := by
  simp [State.pageWrite, h]

theorem State.pageWrite_of_refuses {s : State} {p : Nat} (h : s.refuses p = true) (f : State → State) :
    s.pageWrite p f = s.writeDiscarded p := by
  simp [State.pageWrite, h]

/-- A register write changes the register file alone. -/
theorem State.wr_eq_with_regs (s : State) (k : Nat) (v : Word) : s.wr k v = { s with regs := (s.wr k v).regs } := rfl

/-! ### PG_EVENT_FORCE (R61) -/

theorem exec_pgEventForce (p : Nat) (m : Word) (s : State) :
    exec (.pgEventForce p m) s
      = .next (s.pageWrite p fun s => s.wr (R.PG_EVENT p) (s.rd (R.PG_EVENT p) ||| m)) := rfl

/-- A page that takes writes has the forced bits set in its PG_EVENT. -/
theorem exec_pgEventForce_of_accepts {p : Nat} {s : State} (h : s.refuses p = false) (m : Word) :
    exec (.pgEventForce p m) s = .next (s.wr (R.PG_EVENT p) (s.rd (R.PG_EVENT p) ||| m)) := by
  rw [exec_pgEventForce, State.pageWrite_of_accepts h]

/-- A page in SPARE or RETIRED discards the write. -/
theorem exec_pgEventForce_of_refuses {p : Nat} {s : State} (h : s.refuses p = true) (m : Word) :
    exec (.pgEventForce p m) s = .next (s.writeDiscarded p) := by
  rw [exec_pgEventForce, State.pageWrite_of_refuses h]

end Sys2Proof.Machine

namespace Sys2Proof.Safety

open Sys2Proof.Machine

/-- Settles O15: on a page that takes writes the command is one write of PG_EVENT, and on any other it is a discarded write. -/
theorem eventForceSetsEventBitsOnly : Obligations.EventForceSetsEventBitsOnly := by
  refine ⟨fun p m s haccepts => ?accepted, fun p m s hrefuses => ?refused⟩
  case accepted =>
    refine ⟨_, exec_pgEventForce_of_accepts haccepts m, ?set, fun k hk => ?kept, State.wr_eq_with_regs s _ _⟩
    case set => rw [State.rd_wr, if_pos rfl]
    case kept => rw [State.rd_wr, if_neg hk]
  case refused =>
    exact ⟨_, exec_pgEventForce_of_refuses hrefuses m, captured_writeDiscarded s p⟩

end Sys2Proof.Safety
end
